-- ==== Sys2Proof/Word.lean ====
section
/-! DEFINITION. The word types of the hub and the plainest arithmetic on field codes (R12, R13, R16). -/

namespace Sys2Proof

/-- A register word (R20). -/
abbrev Word := BitVec 32

/-- A byte of a memory or of a packet. -/
abbrev Byte := BitVec 8

/-- The bits `[hi:lo]` of a number (R12: bit 0 is the least significant). -/
def bitsOf (v hi lo : Nat) : Nat := (v / 2 ^ lo) % 2 ^ (hi + 1 - lo)

/-- `v` with its bits `[hi:lo]` replaced by `x` (R12). -/
def setBits (v hi lo x : Nat) : Nat :=
  (v / 2 ^ (hi + 1)) * 2 ^ (hi + 1) + (x % 2 ^ (hi + 1 - lo)) * 2 ^ lo + v % 2 ^ lo

/-- The two's complement reading of a `w`-bit code (signed fields). -/
def signedOf (w v : Nat) : Int :=
  if v % 2 ^ w < 2 ^ (w - 1) then (v % 2 ^ w : Nat) else (v % 2 ^ w : Nat) - (2 ^ w : Nat)

/-- The `w`-bit code of an integer, wrapping. -/
def codeOf (w : Nat) (x : Int) : Nat := (x % (2 ^ w : Nat)).toNat

/-- A truth value as a one-bit code. -/
def bit (b : Bool) : Nat := if b then 1 else 0

/-- Addition that stops at the largest `w`-bit value (R17, saturating). -/
def satAdd (w a b : Nat) : Nat := min (a + b) (2 ^ w - 1)

/-- Addition modulo `2 ^ w` (R17, wrapping). -/
def wrapAdd (w a b : Nat) : Nat := (a + b) % 2 ^ w

/-- The `n` bytes of a number, least significant first (R13, registers and memory structures). -/
def leBytes : Nat → Nat → List Byte
  | 0, _ => []
  | n + 1, v => BitVec.ofNat 8 v :: leBytes n (v / 256)

/-- The number that bytes spell, least significant first (R13). -/
def ofLe : List Byte → Nat
  | [] => 0
  | b :: bs => b.toNat + 256 * ofLe bs

/-- The `n` bytes of a number, most significant first (R13, packets). -/
def beBytes (n v : Nat) : List Byte := (leBytes n v).reverse

/-- The number that bytes spell, most significant first (R13). -/
def ofBe (bs : List Byte) : Nat := ofLe bs.reverse

/-- `x` shifted left with zeros, as an integer product. -/
def shl (x : Int) (n : Nat) : Int := x * (2 ^ n : Nat)

/-- Division of integers that rounds toward zero (R16: every conversion, unless its chapter says otherwise). -/
def divZ (a b : Int) : Int := Int.tdiv a b

end Sys2Proof
end

