-- ==== Sys2Proof/Machine/Table.lean ====
section
/-! DEFINITION. Sparse tables: a list of key and value pairs in one canonical form (keys strictly rising, no entry equal to what an unlisted key reads as), used for the register fields, the memories and every numbered kind of state. -/

namespace Sys2Proof.Machine

/-- A sparse table from numbers to values. -/
abbrev Tab (α : Type) := List (Nat × α)

variable {α : Type}

/-- What key `k` holds; `d` is what an unlisted key holds. -/
def Tab.get : Tab α → Nat → α → α
  | [], _, d => d
  | (k', v) :: t, k, d => if k' = k then v else Tab.get t k d

/-- The entry for `k` removed. -/
def Tab.drop : Tab α → Nat → Tab α
  | [], _ => []
  | (k', v) :: t, k => if k' = k then t else (k', v) :: Tab.drop t k

/-- The entry for `k` set to `v`, in the order of the keys. -/
def Tab.ins : Tab α → Nat → α → Tab α
  | [], k, v => [(k, v)]
  | (k', v') :: t, k, v =>
    if k < k' then (k, v) :: (k', v') :: t
    else if k' = k then (k, v) :: t
    else (k', v') :: Tab.ins t k v

/-- Key `k` set to `v`, where an unlisted key reads `d`: writing `d` removes the entry (canonical form). -/
def Tab.put [DecidableEq α] (t : Tab α) (k : Nat) (v d : α) : Tab α :=
  if v = d then Tab.drop t k else Tab.ins t k v

/-- Every key of `t` is above `b` and the keys rise strictly. -/
def Tab.above : Nat → Tab α → Bool
  | _, [] => true
  | b, (k, _) :: t => b < k && Tab.above k t

/-- The keys of `t` rise strictly. -/
def Tab.sorted : Tab α → Bool
  | [] => true
  | (k, _) :: t => Tab.above k t

/-- The canonical form: keys strictly rising, and no entry equal to the value `d` of an unlisted key. -/
def Tab.wf [DecidableEq α] (d : α) (t : Tab α) : Bool :=
  Tab.sorted t && t.all (fun e => decide (e.2 ≠ d))

/-- The keys whose value satisfies `p`, in rising order. -/
def Tab.keysWhere (t : Tab α) (p : α → Bool) : List Nat :=
  (t.filter (fun e => p e.2)).map (·.1)

/-- A byte memory: what an unlisted address reads as is given at each use. -/
abbrev Memory := List Host.Cell

/-- The byte at `a` (log entry 4: an unlisted byte of every memory reads 0x00). -/
def Memory.byte (m : Memory) (a : Nat) : Byte := Tab.get m a 0

/-- Address `a` written with `b`, keeping the canonical form. -/
def Memory.setByte (m : Memory) (a : Nat) (b : Byte) : Memory := Tab.put m a b 0

/-- The `n` bytes from address `a`. -/
def Memory.read (m : Memory) (a : Nat) : Nat → List Byte
  | 0 => []
  | n + 1 => Memory.byte m a :: Memory.read m (a + 1) n

/-- The bytes written from address `a` on, in rising order. -/
def Memory.write (m : Memory) (a : Nat) : List Byte → Memory
  | [] => m
  | b :: bs => Memory.write (Memory.setByte m a b) (a + 1) bs

/-- The canonical form of a byte memory. -/
def Memory.wf (m : Memory) : Bool := Tab.wf (0 : Byte) m

end Sys2Proof.Machine
end

