-- ==== Sys2Proof/Machine/Types.lean ====
section
/-! DEFINITION. The data that moves through the hub and the records its blocks keep: wide time, packets, copies, stream entries, descriptors. -/

namespace Sys2Proof.Machine

/-- The time of day (R78): 48-bit seconds, nanoseconds 0–999,999,999, and a fraction in 2^-32 ns. -/
structure Wide where
  sec : Nat := 0
  ns : Nat := 0
  frac : Nat := 0
  deriving DecidableEq, Repr, Inhabited

/-- A 66-bit block of a lane or of a trunk's stream (R120, R142): its header as written (1: data, 2: control, 0 and 3 invalid) and its bytes 0–7. -/
abbrev LineBlock := Nat × List Byte

/-- A code group of KL2 (R132, R168): control (K) or data, and its byte. -/
abbrev CodeGroup := Bool × Byte

/-- The PRBS checker of a lane (R138). -/
structure Checker where
  /-- The last bits, newest in bit 0: received ones while it seeds itself, its own sequence once locked. -/
  reg : Nat := 0
  /-- Bits received since it began to seed itself, up to the length of the register. -/
  fill : Nat := 0
  /-- Consecutive error-free bits before lock. -/
  run : Nat := 0
  lock : Bool := false
  /-- Bits and mismatches of the present window of 1,024 bits. -/
  pos : Nat := 0
  bad : Nat := 0
  /-- Bits compared, mismatches and losses of lock since its counters were last written out. -/
  bits : Nat := 0
  errs : Nat := 0
  losses : Nat := 0
  deriving DecidableEq, Repr, Inhabited

/-- A KL3 packet in plain form (R145, R148): the header fields and the payload. The header's VER is 0b11 and its SEALED 0; `corr` is the 48-bit wire form of the correction (R94). -/
structure Packet where
  cls : Nat := 0
  dup : Bool := false
  ts : Bool := false
  tunid : Nat := 0
  dest : Nat := 0
  src : Nat := 0
  seq : Nat := 0
  corr : Nat := 0
  payload : List Byte := []
  deriving DecidableEq, Repr, Inhabited

/-- One copy of a packet, for one egress port (R68, R176, R196). -/
structure Copy where
  /-- The packet it is a copy of (a key of `Xsw.pkts`). -/
  pkt : Nat := 0
  hdr : Packet := {}
  iport : Nat := 0
  eport : Nat := 0
  cost : Nat := 0
  /-- It left by cut-through (R206). -/
  ct : Bool := false
  /-- Time of day at the ingress timestamp point (R90). -/
  rx : Wide := {}
  /-- The time of day was traceable at capture (R81). -/
  traced : Bool := false
  /-- Elapsed count at the ingress ball (R90, R93). -/
  eIn : Int := 0
  /-- Elapsed count when it was linked (R236). -/
  linkAt : Nat := 0
  /-- Its CRC-32 is sent complemented (R150). -/
  stomp : Bool := false
  /-- Made under a RING-mode route entry (R170). -/
  ring : Bool := false
  /-- Already counted in FITWAIT (R232). -/
  fitted : Bool := false
  /-- Origin slot whose INFLIGHT it counts in, or 0. -/
  slot : Nat := 0
  /-- Terminus slot that it is delivered through, or 0. -/
  term : Nat := 0
  /-- A raw Ethernet frame (R360) or a PTP frame (R96), not a tunnel payload. -/
  frame : Bool := false
  /-- The capture record, on P22 (R215). -/
  record : List Byte := []
  deriving DecidableEq, Repr, Inhabited

/-- The accounts of one admitted packet (R198). -/
structure PktInfo where
  iport : Nat := 0
  cls : Nat := 0
  cost : Nat := 0
  /-- Copies still held. -/
  left : Nat := 0
  /-- Origin slot, or 0. -/
  slot : Nat := 0
  deriving DecidableEq, Repr, Inhabited

/-- A packet of an internal port that waits at stage 3 (policer) or at its ingress limit (R200, R227). -/
structure Held where
  hdr : Packet := {}
  slot : Nat := 0
  /-- Waiting for its policer (stage 3), not yet at stage 4. -/
  policing : Bool := false
  copies : List Copy := []
  /-- The TX ring whose descriptor waits (R360); none for an engine's packet. -/
  ring : Option Nat := none
  deriving DecidableEq, Repr, Inhabited

/-- What became of a packet that the hub originated (R69, R199, R227). -/
inductive Sent where
  | sent | dropped | held
  deriving DecidableEq, Repr

/-- One entry of the duplicate-discard table (R180). -/
structure DdEntry where
  src : Nat := 0
  tunid : Nat := 0
  dest : Nat := 0
  high : Nat := 0
  map : Nat := 0
  inj : Bool := false
  used : Nat := 0
  deriving DecidableEq, Repr, Inhabited

/-- An entry of a two-step queue (R95). -/
structure TwoStep where
  domain : Nat := 0
  msgType : Nat := 0
  seqId : Nat := 0
  time : Wide := {}
  corr : Nat := 0
  deriving DecidableEq, Repr, Inhabited

/-- A descriptor that the hub has fetched (R356, R359). -/
structure Desc where
  /-- Ring index count of the descriptor (its slot is this modulo the ring's size). -/
  idx : Nat := 0
  bytes : List Byte := []
  /-- Its execution has begun. -/
  started : Bool := false
  /-- It has been written back; a bus error met its write-back (R356). -/
  written : Bool := false
  failed : Bool := false
  deriving DecidableEq, Repr, Inhabited

/-- One sample that the phase service has taken from a frame (R257). -/
structure SvSample where
  /-- Its sample count, and the ASDUs of its frame, by which the count advances from frame to frame. -/
  count : Nat := 0
  step : Nat := 1
  value : Nat := 0
  /-- The quality does not mark it invalid. -/
  good : Bool := true
  deriving DecidableEq, Repr, Inhabited

/-- The timers of the hub whose time a register gives, or whose start the spec names: what each waits for, and for which unit. -/
inductive Timer where
  /-- The OPENING, CLOSING or RETIRED time of a context slot (R69). -/
  | slot (n : Nat)
  /-- The hello interval of this hub, and the next interval in which a hub prefix is silent (R74, R76). -/
  | hello
  | silence (pfx : Nat)
  /-- The pulse of a compare channel (R88), a PPS output's trailing edge (R99), HOLDMAX (R114). -/
  | pulse (c : Nat) | ppsTrail (o : Nat) | holdover
  /-- Since the last accepted edge of a PPS input, and of MAINS_ZC or the last observation (R98, R114). -/
  | pps (i : Nat) | mains
  /-- BONDTO, TRAINTO, SEALTO of a trunk (R157), a class's stall and a class's credit return (R154, R155). -/
  | bond (t : Nat) | train (t : Nat) | seal (t : Nat) | stall (t c : Nat) | credit (t : Nat)
  /-- Ring status messages sent and heard (R185, R186), and the RESTORE hold of a route entry (R189). -/
  | rsmSent (t : Nat) | rsmHeard (t : Nat) | restore (v : Nat)
  /-- The sampling sweep (R236). -/
  | sample
  /-- An engine's start and restart (R247, R249), and a mailbox request (R255). -/
  | engineStart (n : Nat) | engineHalt (n : Nat) | mailbox (n m : Nat)
  /-- USB: the upstream K, a port's reset, connection and resume (R299, R301, R309). -/
  | usbWake | usbReset (n : Nat) | usbConnect (n : Nat) | usbResume (n : Nat)
  /-- Proxy messages: a transaction, a periodic report, a port command, silence of the partner (R305, R307, R309, R310). -/
  | xfer (n tag : Nat) | periodic (n ep tag : Nat) | portcmd (n : Nat) | proxy (n : Nat)
  /-- Block tunnels: a command at its initiator and at its target, a tag's quarantine, a back end's command (R325, R326, R327, R330). -/
  | block (e tag : Nat) | blockData (e tag : Nat) | quarantine (e tag : Nat) | backend (e tag : Nat)
  /-- The gap of a UART's receiver; the earliest next start bit and the release of DE of its transmitter; a held serial message; the last edge of IRIG-B (R334, R336, R338, R339, R342). -/
  | uartGap (n : Nat) | uartLead (n : Nat) | uartTrail (n : Nat) | serialHold (e : Nat) | irig
  /-- A packet without a receive descriptor (R361), a vector's holdoff (R367). -/
  | rxWait (mgmt : Bool) | holdoff (v : Nat)
  /-- The bridge's held reads, the memory service's resend, hold and acknowledgement, and a prefetched line (R374 to R383). -/
  | heldRead (id : Nat) | memory (e : Nat) | memHold (e : Nat) | memAck (e : Nat) | line (w off : Nat)
  /-- The regulator's confirmation, a block's final answer (R490, R496). -/
  | avs | handshake (k : Nat)
  /-- Clock stretching of an I2C bus (R528), the escalation of a fault slot (R507). -/
  | stretch (b : Nat) | escalate (slot : Nat)
  /-- The tearing-effect timeout of a head (R282), a display acknowledgement (R287). -/
  | te (h : Nat) | dispAck (e : Nat)
  /-- The power-down between attempts at the PUF key, a POLL or DELAY record, the wait for the DRAM (R409, R437 to R439), the next OFFER of a trunk (R424). -/
  | puf | record | dramWait | offer (t : Nat)
  deriving DecidableEq, Repr

/-- One access that a master presents to a scratchpad bank (R258 to R263); `ecc`: 0 good, 1 corrected, 2 uncorrectable. -/
structure PadAccess where
  master : Fin 22
  word : Fin 8192
  write : Bool
  data : BitVec 64
  be : Byte
  ecc : Fin 3
  deriving DecidableEq, Repr

/-- A request of the upstream host to the USB hub or to one of its ports (R299, R301, R309). -/
inductive HubRequest where
  | setPower | clearPower | setReset | setSuspend | clearSuspend | clearEnable
  | clearChange (c : Fin 5)
  /-- Requests to the hub itself. -/
  | setAddress (a : BitVec 7) | setConfiguration (on : Bool) | remoteWake (on : Bool)
  /-- Reads: the hub's device descriptor and hub descriptor, and the status of a port (or of the hub). -/
  | deviceDescriptor | hubDescriptor | status
  deriving DecidableEq, Repr

/-- The token of a split transaction (R303). -/
inductive UsbPid where
  | setup | out | inn
  deriving DecidableEq, Repr, Inhabited

/-- What a device answers to the far hub (R304, R306); `timeout`: no answer, retries included. -/
inductive DeviceReply where
  | ack | nak | stall | timeout
  | data (l : List Byte)
  deriving DecidableEq, Repr

/-- What the hub answers on the upstream bus. -/
inductive UsbAnswer where
  | none | ack | nak | stall | nyet
  | data (tog : Bool) (l : List Byte)
  deriving DecidableEq, Repr, Inhabited

end Sys2Proof.Machine
end

