-- ==== Sys2Proof/Syntax.lean ====
section
/-! DEFINITION. The commands of the hub: one constructor for each row of spec/opcode_table.json, with its operands. -/

namespace Sys2Proof

open Machine

/-- The commands and events of the hub. -/
inductive Instr where
  /-- REGISTER_WRITE (R15): An aligned 32-bit write to a register that has no row of its own stores each field's written code, ignoring reserved codes field by field. -/
  | registerWrite (off : BitVec 26) (w : Word) (mgmt : Bool) (hw : Word)
  /-- UNALIGNED_ACCESS (R22): A register access other than an aligned 32-bit read or write completes without effect and reads 0. -/
  | unalignedAccess (read : Bool)
  /-- UNMAPPED_REGISTER_ACCESS (R46): An access to an offset that no block occupies completes without effect and raises the CORRECTED fault for an unmapped access. -/
  | unmappedRegisterAccess (off : BitVec 26) (read : Bool)
  /-- BLOCK_LOCK_SET (R48): A write that sets a block's lock bit applies the RWL fields it carries and locks that block's RWL fields from the next write. -/
  | blockLockSet (off : BitVec 26) (w : Word) (mgmt : Bool)
  /-- COUNTER_CLEAR (R18): A write to a counter-clear register, or a write-to-clear counter, clears the named counters; an increment in the same cycle leaves 1. -/
  | counterClear (off : BitVec 26) (w inc : Word)
  /-- TRUNK_PACKET_RECEIVE (R148): A KL3 packet, taken whole from a trunk, passes the receive checks and then classification, policing and admission. -/
  | trunkPacketReceive (t : Fin 4) (blocks : List (Nat × List Byte)) (ecc : Fin 4) (done : List (Fin 12)) (flush : Bool) (more : List (Fin 4 × List (Nat × List Byte))) (frames : List (Fin 8 × List Byte))
  /-- ILIM_RETRY (R200): An internal-port packet held at its ingress limit is retried for admission once room exists. -/
  | ilimRetry (p : Fin 23)
  /-- POLICED_PACKET_RELEASE (R227): A red packet held by a HOLD policer proceeds once the policer count makes it green. -/
  | policedPacketRelease (p : Fin 23)
  /-- PACKET_SELECT (R222): When an egress port can start a packet, its selector picks one eligible copy by strict priority or DRR and starts transmitting it. -/
  | packetSelect (p : Fin 23) (ecc : Fin 4)
  /-- TRANSMIT_COMPLETE (R202): When a copy's last cell has been read for transmission, its cells and ingress charge are released and credits returned. -/
  | transmitComplete (p : Fin 12)
  /-- LEAK_AUDIT (R197): After an uncorrectable link-word error, a hardware audit returns unreachable cells to the free list within 10 ms. -/
  | leakAudit
  /-- FAB_SELF_WRITE (R72): A write of FAB_SELF sets the hub prefix and VALID, or is refused while any slot is not FREE; loss of validity returns trunks to BOND. -/
  | fabSelfWrite (w : Word)
  /-- FAB_REGION_WRITE (R57): A write of the region tag enables or withdraws trunk service according to whether it is non-zero. -/
  | fabRegionWrite (w : Word)
  /-- CONTEXT_WORD_WRITE (R71): A write to a context slot word is applied or ignored according to the slot's state, setting LATE when ignored. -/
  | contextWordWrite (n : Fin 253) (k : Fin 8) (w : Word)
  /-- DESTINATION_LIST_WRITE (R68): A write to a destination-list entry is ignored while a referencing slot is not FREE. -/
  | destinationListWrite (k : Fin 256) (w : Word)
  /-- CTX_OPEN (R70): The OPEN command checks the slot's words in order and moves a FREE slot to OPENING. -/
  | ctxOpen (n : Fin 256)
  /-- CTX_ACTIVATE (R69): The ACTIVATE command moves an OPENING slot to OPEN. -/
  | ctxActivate (n : Fin 256)
  /-- CTX_CLOSE (R69): The CLOSE command moves an OPENING or OPEN slot to CLOSING, or to RETIRED when nothing is in flight. -/
  | ctxClose (n : Fin 256)
  /-- CTX_ABORT (R69): The ABORT command moves an OPENING, OPEN or CLOSING slot to RETIRED. -/
  | ctxAbort (n : Fin 256)
  /-- CTXCMD_COMPLETE (R70): A context command completes within 64 switch cycles, clearing BUSY and writing its code. -/
  | ctxcmdComplete
  /-- OPEN_TO_EXPIRY (R69): The OPENING timeout returns the slot to FREE and counts OPENTO. -/
  | openToExpiry (n : Fin 253)
  /-- CLOSE_TO_EXPIRY (R69): The CLOSING timeout moves the slot to RETIRED. -/
  | closeToExpiry (n : Fin 253)
  /-- RETIRE_EXPIRY (R69): The RETIRED hold expires and the slot becomes FREE. -/
  | retireExpiry (n : Fin 253)
  /-- INFLIGHT_DRAINED (R69): A CLOSING origin slot whose in-flight count reaches 0 becomes RETIRED. -/
  | inflightDrained (n : Fin 253)
  /-- TUNNEL_OPEN_REQUEST (R72): A terminus hub receiving an open request on tunnel 0 allocates and opens the terminus and return slots and answers. -/
  | tunnelOpenRequest (origin : BitVec 25) (o : Fin 253) (l : Fin 128) (proto ver : Fin 16) (cls : Fin 8) (port : Fin 32)
  /-- TUNNEL_OPEN_ANSWER (R72): The origin hub receiving the open answer binds PARTNER and activates its slot. -/
  | tunnelOpenAnswer (o u : Fin 253) (ver : Fin 16) (port : Fin 32)
  /-- HELLO_SEND (R74): At each HELLO_INT the management firmware sends a hello to the station manager. -/
  | helloSend (sm : BitVec 25) (ready : BitVec 128)
  /-- HELLO_RECEIVE (R76): The station manager records a hello in its directory, marks conflicts and resolves duplicate station-manager roles. -/
  | helloReceive (src : BitVec 25) (bytes : List Byte)
  /-- HELLO_LOSS (R76): LOSS consecutive missed hello intervals mark a directory entry lost. -/
  | helloLoss (pfx : BitVec 18)
  /-- TIME_TICK (R78): Each 500 MHz tick adds the increment, and any slew offset, to the time of day, the elapsed count and the mains phase. -/
  | timeTick
  /-- INCREMENT_WRITE (R79): A write of TMU_INCR_LO applies the 40-bit increment, or rejects it outside ±500 ppm. -/
  | incrementWrite (w : Word)
  /-- SET (R82): The SET command captures the TMU_SET words for application at the next tick. -/
  | setTime
  /-- STEP (R82): The STEP command captures the signed step for application at the next tick. -/
  | step
  /-- SLEW (R84): The SLEW command captures offset and duration, or is rejected if the slewed increment breaks the range. -/
  | slew
  /-- SNAP (R86): The SNAP command requests a snapshot of time and mains phase at the next tick. -/
  | snap
  /-- SET_APPLY (R82): At the first tick after the write the time of day is loaded, TVALID set and any slew ended. -/
  | setApply
  /-- STEP_APPLY (R83): At the first tick after the write the step is added and normalised across second boundaries. -/
  | stepApply
  /-- SLEW_APPLY (R84): At the first tick after the write the slew starts, replacing any running slew. -/
  | slewApply
  /-- SNAP_APPLY (R86): At the first tick after the write the time of day and the mains accumulator are latched. -/
  | snapApply
  /-- SLEW_END (R84): After TMU_SLEW_TICKS slewed ticks the slew stops and SLEWACT clears. -/
  | slewEnd
  /-- COMPARE_FIRE (R88): A compare channel whose target is reached acts on its event line, sets FIRED and LATE as due, and advances or disarms. -/
  | compareFire (c : Fin 8)
  /-- COMPARE_PULSE_END (R88): The pulse on a compare event line ends after PULSE × 8 ns. -/
  | comparePulseEnd (c : Fin 8)
  /-- PPS_INPUT_EDGE (R97): An accepted PPS input edge is captured, checked against the interval tolerance and counted. -/
  | ppsInputEdge (i : Fin 2) (rise : Bool) (n : Nat)
  /-- PPS_INPUT_LOS (R98): No accepted PPS edge for LOS sets LOS and raises the fault for the lost input. -/
  | ppsInputLos (i : Fin 2)
  /-- PPS_OUTPUT_EDGE (R99): At each second boundary plus offset, a PPS output emits its leading edge placed to a sixteenth of a tick. -/
  | ppsOutputEdge (o : Fin 2)
  /-- PPS_OUTPUT_TRAIL (R99): The PPS trailing edge follows WIDTH × 10 µs after the leading edge. -/
  | ppsOutputTrail (o : Fin 2)
  /-- LEAP_APPLY (R101): At the end of a UTC day with a leap flag, the hub adjusts OFFSET and clears the flag. -/
  | leapApply
  /-- TWO_STEP_POP (R95): A read of CORR_HI removes the head entry of a port's two-step queue. -/
  | twoStepPop (p : Fin 12)
  /-- MAINS_BOUNDARY (R117): When the mains cycle count advances, the hub latches the time and cycle, pulses the boundary line and raises its interrupt. -/
  | mainsBoundary
  /-- CYC_SRC_WRITE (R114): A write of CYC_CTRL.SRC moves the tracker between FREE and ACQUIRE and abandons events in processing. -/
  | cycSrcWrite (w : Word)
  /-- CYC_INCR_WRITE (R108): A write of CYC_INCR_LO applies the increment in FREE within range, or is ignored. -/
  | cycIncrWrite (w : Word)
  /-- MAINS_ZC_EDGE (R109): A filtered MAINS_ZC edge outside the mask is range-checked and taken as a phase event or rejected. -/
  | mainsZcEdge (fall : Bool) (ago : Nat)
  /-- SV_OBSERVATION (R110): A write of CYC_SV_CMT submits an SV phase observation, which is checked and reconstructed as a phase event. -/
  | svObservation (w : Word)
  /-- PHASE_EVENT_PROCESS (R112): Processing of an accepted phase event completes with a new increment, a possible phase step and a tracker state change. -/
  | phaseEventProcess
  /-- MAINS_LOS_EXPIRY (R114): The mains loss timer expires, re-acquiring or entering HOLDOVER and raising the mains-source-lost fault. -/
  | mainsLosExpiry
  /-- HOLDOVER_EXPIRY (R114): HOLDMAX expires in HOLDOVER, clearing MVALID and raising the holdover-expired fault. -/
  | holdoverExpiry
  /-- ANGLE_CONVERSION (R117): A write of CYC_CONV starts the conversion of an angle to time. -/
  | angleConversion (w : Word)
  /-- CONVERSION_DONE (R117): The angle conversion completes and sets DONE with the result. -/
  | conversionDone
  /-- LANE_CTRL_WRITE (R119): A write of LNE_CTRL enables or disables the lane, sets rate, polarity and mode, or sets RATEREJ or MODEREJ. -/
  | laneCtrlWrite (n : Fin 28) (w : Word)
  /-- CDR_LOCK (R125): Clock recovery locks with LOS clear and the lane enters HDR. -/
  | cdrLock (n : Fin 28)
  /-- CDR_ACQ_TIMEOUT (R125): 1 ms without CDR lock restarts clock recovery and counts ACQFAIL. -/
  | cdrAcqTimeout (n : Fin 28)
  /-- HEADER_LOCK (R125): 64 consecutive valid headers take the lane to ALIGN. -/
  | headerLock (n : Fin 28)
  /-- HEADER_HUNT_TIMEOUT (R125): 4,096 blocks without header lock return the lane to CDR and count ACQFAIL. -/
  | headerHuntTimeout (n : Fin 28)
  /-- ALIGNMENT_BLOCK_RECEIVE (R123): An alignment block is judged good or bad, BIP mismatches are counted, and lock counts advance or reset. -/
  | alignmentBlockReceive (n : Fin 28) (hdr : Fin 4) (bytes : List Byte) (line : List (Nat × List Byte))
  /-- ALIGN_TIMEOUT (R125): Six alignment periods without lock return the lane to HDR and set ALIGNFAIL. -/
  | alignTimeout (n : Fin 28)
  /-- LOS_DETECT (R126): Loss of signal for 1 µs takes the lane to CDR and reports the loss. -/
  | losDetect (n : Fin 28) (mv : Nat)
  /-- LOS_CLEAR (R126): Signal above threshold for 10 µs clears LOS. -/
  | losClear (n : Fin 28) (mv : Nat)
  /-- CDR_LOSS (R126): The phase detector out of range takes the lane to CDR. -/
  | cdrLoss (n : Fin 28)
  /-- HEADER_LOSS (R126): 32 invalid headers in a 1,024-block window take the lane to HDR. -/
  | headerLoss (n : Fin 28) (k : Fin 1025) (lost : Bool)
  /-- ALIGNMENT_BLOCK_SEND (R124): Every 16,384 blocks the transmitter inserts an alignment block on all lanes of the bond. -/
  | alignmentBlockSend (t : Fin 4) (idle : Fin 16384)
  /-- BOND_SKEW_MEASURE (R129): At the next alignment block on all lanes the bond measures skew and goes UP or fails with SKEW or BADLANE. -/
  | bondSkewMeasure (t : Fin 4) (d0 d1 d2 d3 : Nat)
  /-- BOND_TIMEOUT (R129): Lanes not all locked within 4 alignment periods fail the bond with TIMEOUT. -/
  | bondTimeout (t : Fin 4)
  /-- BOND_FAIL_EXPIRY (R130): After one alignment period in FAIL the bond returns to DOWN and retries. -/
  | bondFailExpiry (t : Fin 4)
  /-- EYE_SCAN_GO (R136): GO starts an eye scan, or ends it at once with NOLOCK, or is refused for CNTEXP. -/
  | eyeScanGo (n : Fin 28) (w : Word)
  /-- EYE_SCAN_ABORT (R136): ABORT ends a running eye scan with ABORTED. -/
  | eyeScanAbort (n : Fin 28)
  /-- EYE_SCAN_DONE (R135): An eye scan ends when 2^CNTEXP bits are compared or lock is lost, setting DONE. -/
  | eyeScanDone (n : Fin 28) (errs : Nat)
  /-- PRBS_CHECK_START (R138): CHK going to 1 starts the checker and clears its counters. -/
  | prbsCheckStart (n : Fin 28) (w : Word)
  /-- PRBS_CHECKER_LOCK (R138): 64 error-free bits lock the PRBS checker. -/
  | prbsCheckerLock (n : Fin 28) (bits : List Bool)
  /-- PRBS_CHECKER_LOSS (R138): 256 mismatches in 1,024 bits drop CHKLK, count RELOCK and reseed. -/
  | prbsCheckerLoss (n : Fin 28) (bits : List Bool)
  /-- PRBS_INJECT (R138): INJ inverts one generated bit. -/
  | prbsInject (n : Fin 28)
  /-- TRK_ENABLE (R157): EN = 1 takes a disabled trunk to BOND at width MAXW. -/
  | trkEnable (t : Fin 4)
  /-- TRK_DISABLE (R157): EN = 0 takes the trunk to DISABLED from any state and clears TRK_SEAL.VALID. -/
  | trkDisable (t : Fin 4)
  /-- BOND_TRIAL_TIMEOUT (R158): BONDTO expiry steps the receive width down, or sends the trunk to HOLD at ×1. -/
  | bondTrialTimeout (t : Fin 4)
  /-- CAPABILITY_SEND (R160): In TRAIN and SEAL the hub sends its capability record every 256 link blocks. -/
  | capabilitySend (t : Fin 4)
  /-- CAPABILITY_RECEIVE (R160): A valid partner record is accepted and, on agreement, the link parameters are derived and the trunk goes UP, SEAL, BOND or HOLD. -/
  | capabilityReceive (t : Fin 4) (bytes : List Byte)
  /-- TRAIN_TIMEOUT (R157): TRAINTO expiry sends the trunk to HOLD with reason TIMEOUT. -/
  | trainTimeout (t : Fin 4)
  /-- SEAL_TIMEOUT (R157): SEALTO expiry sends the trunk to HOLD with reason SEALTO. -/
  | sealTimeout (t : Fin 4)
  /-- HOLD_EXPIRY (R157): After 10 ms in HOLD the trunk returns to BOND at width MAXW. -/
  | holdExpiry (t : Fin 4)
  /-- SEAL_LOAD (R166): A write of TRK_SEAL loads the session and, with VALID, takes a SEAL trunk to UP. -/
  | sealLoad (t : Fin 4) (w : Word)
  /-- CREDIT_BLOCK_RECEIVE (R152): A CREDIT block is checked and its cumulative credits raise the transmit LIMIT. -/
  | creditBlockReceive (t : Fin 4) (bytes : List Byte)
  /-- CREDIT_RETURN (R154): Within TRK_CRDCFG.INT a class with credits to return gets a CREDIT entry. -/
  | creditReturn (t : Fin 4)
  /-- CREDIT_REFRESH (R154): Every 4.096 µs the receiver sends CREDIT blocks for all eight classes. -/
  | creditRefresh (t : Fin 4)
  /-- HEARTBEAT_LOSS (R154): 16.384 µs without a good CREDIT block takes an UP trunk to BOND with reason HEARTBEAT. -/
  | heartbeatLoss (t : Fin 4)
  /-- CREDIT_STALL (R155): A class waiting without credit for STALL counts a stall and raises its fault. -/
  | creditStall (t : Fin 4) (c : Fin 8)
  /-- GRANT_WRITE (R156): A write of TRK_GRANTc on an UP trunk issues extra credit at once or withholds returns. -/
  | grantWrite (t : Fin 4) (c : Fin 8) (w : Word)
  /-- EPOCH_ADVANCE (R164): The transmitter moves to the next key epoch on PN exhaustion, after 3,600 s, or on re-entry to UP. -/
  | epochAdvance (t : Fin 4)
  /-- RX_EPOCH_DERIVE (R164): The first authenticated packet of the next epoch drops the old keys and starts a derivation completing within 50 µs. -/
  | rxEpochDerive (t : Fin 4)
  /-- KL2_ENABLE_WRITE (R167): A write of TRK_KL2.EN selects legacy mode on TRK0, or is refused with ENREJ. -/
  | kl2EnableWrite (w : Word)
  /-- KL2_PACKET_RECEIVE (R169): A KL2 packet on TRK0 is checked, translated to KL3 or discarded. -/
  | kl2PacketReceive (cols : List (List (Bool × Byte)))
  /-- XOFF_RECEIVE (R168): A KL2 XOFF column pauses or releases the classes in its mask. -/
  | xoffReceive (mask comp : Byte)
  /-- XOFF_SEND (R168): The hub sends an XOFF column when its mask changes and every 1 µs. -/
  | xoffSend
  /-- XLAT_WRITE (R171): A translation entry write is applied, or ignored with XLATREJ for a duplicate or invalid prefix. -/
  | xlatWrite (h : Fin 32) (w : Word)
  /-- RSM_SEND (R185): A ring status message is sent every RSMINT and within 1 µs of a reach change. -/
  | rsmSend (t : Fin 2)
  /-- RSM_RECEIVE (R186): A ring status message is checked and updates the reach of its direction. -/
  | rsmReceive (t : Fin 4) (payload : List Byte)
  /-- RSM_LOSS (R186): No accepted message for 4 × RSMINT breaks the port and raises the ring-status-lost fault. -/
  | rsmLoss (t : Fin 2)
  /-- STEERING_SCAN (R187): A reach or trunk change starts a scan of all route entries that sets or clears STEER. -/
  | steeringScan
  /-- RESTORE_EXPIRY (R189): A RESTORE hold expires and the steering scan returns the entry to PRI. -/
  | restoreExpiry (v : Fin 168)
  /-- DD_ENTRY_AGE (R180): A duplicate-discard entry unused for AGE becomes free. -/
  | ddEntryAge
  /-- DD_FLUSH (R183): FLUSH frees every duplicate-discard entry and empties the victim list. -/
  | ddFlush
  /-- QLIM_WRITE (R203): A queue limit write applies to the next admission, or is refused below the reserve. -/
  | qlimWrite (q : Fin 192) (w : Word)
  /-- QRSV_WRITE (R203): A queue reserve write is applied, or refused for the wrong class or excess. -/
  | qrsvWrite (q : Fin 192) (w : Word)
  /-- MIRROR_RULE_WRITE (R215): A mirror rule write is applied, with an invalid PORT refused and CFGREJ set. -/
  | mirrorRuleWrite (k : Fin 8) (w : Word)
  /-- CAPTURE_CFG_WRITE (R217): A write of XSW_CAP_CFG enables the capture ring, resetting its indices, or is refused. -/
  | captureCfgWrite (w : Word)
  /-- CAPTURE_RD_WRITE (R217): A write of XSW_CAP_RD returns records, or is refused with CFGREJ. -/
  | captureRdWrite (w : Word)
  /-- CAPTURE_RECORD_WRITE (R217): P22 writes a capture record to the ring in DRAM, or loses it to a full ring. -/
  | captureRecordWrite
  /-- EDGE_CTRL_WRITE (R210): A write of EDG_CTRL enables the port, sets its mode and length, and recomputes the guard. -/
  | edgeCtrlWrite (e : Fin 8) (w : Word)
  /-- EDGE_LINK_UP (R210): The edge link comes up once the lane is synchronised and auto-negotiation completes. -/
  | edgeLinkUp (e : Fin 8) (inband : Fin 3) (an : Bool)
  /-- EDGE_LINK_DOWN (R210): The edge link goes down and LINKEV is set. -/
  | edgeLinkDown (e : Fin 8)
  /-- EDGE_FRAME_RECEIVE (R212): A received Ethernet frame is checked, classified and wrapped into the port's tunnel, or consumed or delivered to P21. -/
  | edgeFrameReceive (e : Fin 8) (bytes : List Byte) (more : List (Fin 8 × List Byte))
  /-- SHAPER_REFILL (R224): Every 512 ticks each shaper and policer count gains its rate up to its bucket. -/
  | shaperRefill
  /-- GATE_BOUNDARY (R230): A gate-list entry boundary is reached at its PTP instant or mains angle, and the new entry's gates take effect. -/
  | gateBoundary (p : Fin 12)
  /-- QUEUE_SAMPLE (R236): Each sampling period sweeps all queues and records depth and head-of-line delay. -/
  | queueSample
  /-- BANK_WRITE (R238): A plan-bank write stores the code in the inactive bank, or is ignored with ACTWR or ARMWR. -/
  | bankWrite (o : Fin 32768) (w : Word)
  /-- PLAN_CHECK (R239): The CHECK command validates the inactive bank in order. -/
  | planCheck
  /-- PLAN_ARM (R240): The ARM command checks the instant and the bank and arms a switch in the chosen mode. -/
  | planArm (m : Fin 4)
  /-- PLAN_DISARM (R242): The DISARM command, judged at the next tick, clears ARMED or ends with STATE. -/
  | planDisarm
  /-- PLAN_COPY (R239): The COPY command copies the active bank into the inactive bank. -/
  | planCopy
  /-- PLAN_COMMAND_DONE (R239): A plan command completes, clearing BUSY and writing CODE and ERR. -/
  | planCommandDone
  /-- PLAN_SWITCH (R241): At the switch tick the banks exchange and gates, policers and shapers adopt the new bank. -/
  | planSwitch
  /-- PLAN_DEADLINE (R240): A MAINS switch without a counted boundary applies at T + DL and sets MFALL. -/
  | planDeadline
  /-- ENGINE_ENABLE (R247): EN = 1 starts an engine from its verified image, or leaves it with cause NOIMG. -/
  | engineEnable (n : Fin 16)
  /-- ENGINE_DISABLE (R247): EN = 0 takes an engine to OFF. -/
  | engineDisable (n : Fin 16)
  /-- ENGINE_READY (R247): Firmware reports ready and the engine enters RUN, resuming its halted services. -/
  | engineReady (n : Fin 16)
  /-- ENGINE_START_TIMEOUT (R247): An engine not ready within 10 ms halts with cause STARTTO. -/
  | engineStartTimeout (n : Fin 16)
  /-- ENGINE_WATCHDOG_KICK (R248): Firmware kicks its engine's watchdog. -/
  | engineWatchdogKick (n : Fin 16)
  /-- ENGINE_WATCHDOG (R248): Watchdog expiry halts the engine, fails its mailbox requests and sets its services HALTED. -/
  | engineWatchdog (n : Fin 16)
  /-- ENGINE_TRAP (R247): A firmware trap halts the engine. -/
  | engineTrap (n : Fin 16)
  /-- ENGINE_ECC_HALT (R247): An uncorrectable ECC error in engine-private memory halts the engine. -/
  | engineEccHalt (n : Fin 16)
  /-- ENGINE_RESTART (R249): 100 µs after a halt an engine with RESTART returns to START within the restart limit. -/
  | engineRestart (n : Fin 16)
  /-- SERVICE_BIND (R252): Writing EN = 1 to a service entry checks it and binds it, or sets ERROR. -/
  | serviceBind (e : Fin 128) (w : Word)
  /-- SERVICE_ACTIVATE (R252): The engine reads the parameter block and moves the entry to ACTIVE or to ERROR with a firmware code. -/
  | serviceActivate (e : Fin 128)
  /-- SERVICE_UNBIND (R254): Writing EN = 0 unbinds the entry and discards its inbound packets. -/
  | serviceUnbind (e : Fin 128) (w : Word)
  /-- ENGINE_DISPATCH (R253): The cluster hands a packet to the engine of its ACTIVE service once the engine has inbound room, or discards it as NOSVC. -/
  | engineDispatch (k : Fin 4)
  /-- ENGINE_PACKET_SEND (R253): An engine sends a packet into its cluster port, charged to TXSLOT. -/
  | enginePacketSend (e : Fin 128) (payload : List Byte)
  /-- PING (R255): Mailbox opcode PING returns the image version and CAP mask. -/
  | ping (n : Fin 16) (m : Fin 2)
  /-- STATS (R255): Mailbox opcode STATS returns the packet and error counts of an entry. -/
  | stats (n : Fin 16) (m : Fin 2) (e : Fin 128)
  /-- QUIESCE (R255): Mailbox opcode QUIESCE stops new work and answers once in-flight work is done. -/
  | quiesce (n : Fin 16) (m : Fin 2) (e : Fin 128)
  /-- RESUME (R255): Mailbox opcode RESUME returns an entry to ACTIVE. -/
  | resume (n : Fin 16) (m : Fin 2) (e : Fin 128)
  /-- MAILBOX_RESPONSE (R255): The engine's response ends a mailbox request with its code, or is discarded as late. -/
  | mailboxResponse (n : Fin 16) (m : Fin 2)
  /-- MAILBOX_TIMEOUT (R255): MBXTO expiry ends a mailbox request with TIMEOUT. -/
  | mailboxTimeout (n : Fin 16) (m : Fin 2)
  /-- EVENT_RECORD_SEND (R256): The event time-stamping service sends recorded GPIO edges as records on its TXSLOT. -/
  | eventRecordSend (e : Fin 128)
  /-- SV_CYCLE_COMPLETE (R257): The SV phase service computes the phase over a cycle of samples and submits one observation. -/
  | svCycleComplete (e : Fin 128)
  /-- SCRATCHPAD_ACCESS (R259): An access to a scratchpad bank is granted or denied under ownership, with arbitration, collision and ECC handling. -/
  | scratchpadAccess (b : Fin 32) (l : List PadAccess)
  /-- BANK_OWNER_WRITE (R260): A write of BNK_OWNb starts a hand-over of owner and sharers, or is ignored with ADMREJ. -/
  | bankOwnerWrite (b : Fin 32) (m : Fin 22) (w : Word) (w16 : Option Word)
  /-- BANK_HANDOVER_DONE (R260): The new bank rights take effect at an engine-cycle boundary and PEND clears. -/
  | bankHandoverDone (b : Fin 32)
  /-- HEAD_ENABLE (R267): Writing HD_CTRL.EN checks timing, clock and bandwidth and starts the head or reports CFGERR. -/
  | headEnable (h : Fin 2) (w : Word)
  /-- DP_LINK_TRAINING (R268): DisplayPort link training runs at the highest common rate and completes or reports DPTRAIN or BW. -/
  | dpLinkTraining (rate : Fin 4) (lanes : Fin 4)
  /-- HPD_LOW (R268): HPD low stops the DisplayPort output while the timing generator runs. -/
  | hpdLow
  /-- HPD_IRQ (R268): An HPD IRQ starts retraining. -/
  | hpdIrq
  /-- FRAME_START (R275): A frame begins at VSYNC, advancing HD_FCOUNT, at the locked instant where the head is locked. -/
  | frameStart (h : Fin 2) (ago : Nat)
  /-- WINDOW_CLOSE (R275): The commit window of the frame closes WIN lines before the last active line. -/
  | windowClose (h : Fin 2)
  /-- APPLY_POINT (R280): At the end of the last active line due commits apply, the flip time is latched and FLIPEV set. -/
  | applyPoint (h : Fin 2)
  /-- FETCH_UNDERRUN (R274): A fetch burst not arrived when due is shown transparent and counts UNDERRUN. -/
  | fetchUnderrun (h : Fin 2) (l : Fin 4) (y : Fin 4096) (k : Fin 64) (ecc : Bool)
  /-- SOFTWARE_COMMIT (R277): A write of HD_COMMIT with GO is checked and queued to apply at an apply point, or refused. -/
  | softwareCommit (h : Fin 2) (w : Word)
  /-- TE_EDGE (R282): An accepted tearing-effect edge starts a command-mode frame transfer. -/
  | teEdge (h : Fin 2) (fall : Bool) (ago : Nat)
  /-- TE_TIMEOUT (R282): No TE edge for TETO clears TEVALID and the head starts transfers itself. -/
  | teTimeout (h : Fin 2)
  /-- DISPLAY_TILE (R284): A TILE message writes tile pixels to the back surface, or is discarded. -/
  | displayTile (e : Fin 128)
  /-- DISPLAY_PALETTE (R285): A PALETTE message writes shadow palette entries, or is discarded. -/
  | displayPalette (e : Fin 128)
  /-- DISPLAY_COMMIT (R286): A COMMIT message queues a layer flip for its target frame under batch order. -/
  | displayCommit (e : Fin 128)
  /-- DISPLAY_ACK_SEND (R287): The display service sends an ACK on the return tunnel within 1 ms of the frame start or refusal. -/
  | displayAckSend (e : Fin 128)
  /-- TILE_COPYBACK (R290): After a flip the service copies changed tiles from the new front surface into the new back surface. -/
  | tileCopyback (h : Fin 2) (l : Fin 4)
  /-- DSTAT (R291): Mailbox opcode DSTAT returns the display service counts. -/
  | dstat (n : Fin 16) (m : Fin 2) (e : Fin 128)
  /-- DCLR (R291): Mailbox opcode DCLR clears the display service counts. -/
  | dclr (n : Fin 16) (m : Fin 2) (e : Fin 128)
  /-- USB_ATTACH (R296): The upstream pull-up connects when EN, UFP and VBUS all hold. -/
  | usbAttach
  /-- USB_DETACH (R296): The pull-up is removed, the port goes to DETACHED and hub and function state reset. -/
  | usbDetach
  /-- USB_BUS_RESET (R297): An upstream SE0 reset resets the hub and function, runs the chirp handshake and aborts endpoint transfers. -/
  | usbBusReset (high : Bool) (arms : List (Fin 16))
  /-- USB_SUSPEND (R297): 3 ms of idle upstream bus suspends the hub. -/
  | usbSuspend
  /-- USB_RESUME (R297): A host K state resumes the hub. -/
  | usbResume
  /-- USB_REMOTE_WAKE (R299): A wake source with remote wake-up enabled makes the hub drive K upstream. -/
  | usbRemoteWake (n : Fin 6)
  /-- REMOTE_WAKE_END (R299): After KTIME the hub releases the bus and sets RWKDONE. -/
  | remoteWakeEnd
  /-- PORT_MODE_WRITE (R294): A write of USB_PORTn.MODE sets the port role, or is ignored with MODEREJ while powered. -/
  | portModeWrite (n : Fin 4) (w : Word)
  /-- LOCAL_PORT_REQUEST (R301): A hub class request for a LOCAL port powers it, resets it or changes its feature state. -/
  | localPortRequest (n : Fin 6) (r : HubRequest) (arms : List (Fin 16))
  /-- PORT_CONNECT (R301): A line state stable for CONNDB reports a connection on a LOCAL port. -/
  | portConnect (n : Fin 4) (low : Bool) (held : Nat)
  /-- PORT_RESET_END (R301): A downstream port reset ends after RSTLEN and reports the enabled speed. -/
  | portResetEnd (n : Fin 5) (speed : Fin 3)
  /-- NEAR_PORT_REQUEST (R309): A hub request at a NEAR port sends the matching PORTCMD and advances EPOCH on reset. -/
  | nearPortRequest (n : Fin 4) (r : HubRequest)
  /-- START_SPLIT (R304): The near hub answers a start-split and sends XFER with a fresh TAG. -/
  | startSplit (n : Fin 4) (ep : Fin 16) (pid : UsbPid) (xt : Fin 4) (data : List Byte)
  /-- COMPLETE_SPLIT (R304): The near hub answers a complete-split with NYET, a result, a queued report or NAK. -/
  | completeSplit (n : Fin 4) (ep : Fin 16) (pid : UsbPid) (xt : Fin 4)
  /-- XFER_RECEIVE (R305): The far hub runs an XFER against the device, or answers a repeated TAG from its record. -/
  | xferReceive (e : Fin 128)
  /-- DEVICE_TRANSACTION_DONE (R304): The far hub's device transaction ends and RESULT is sent. -/
  | deviceTransactionDone (n : Fin 4) (r : DeviceReply)
  /-- RESULT_RECEIVE (R309): The near hub records a RESULT for its pending transaction, or discards a stale one. -/
  | resultReceive (e : Fin 128)
  /-- XFER_RTO (R305): RTO without RESULT retransmits the XFER, or ends it as ERR after RETRY. -/
  | xferRto (n : Fin 4) (tag : Byte)
  /-- SOF_SEND (R302): The far hub sends a start of frame or keep-alive every 1 ms. -/
  | sofSend (n : Fin 4)
  /-- INTERRUPT_POLL (R306): The far hub polls an interrupt IN endpoint every bInterval frames and sends PERIODIC. -/
  | interruptPoll (n : Fin 4) (ep : Fin 16) (r : DeviceReply)
  /-- PERIODIC_RECEIVE (R307): The near hub queues a PERIODIC report and answers PERACK. -/
  | periodicReceive (e : Fin 128)
  /-- PERACK_RECEIVE (R307): The far hub removes an acknowledged PERIODIC from its queue. -/
  | perackReceive (e : Fin 128)
  /-- PERIODIC_RTO (R307): An unacknowledged PERIODIC is resent every RTO and dropped after RETRY. -/
  | periodicRto (n : Fin 4) (ep : Fin 16) (tag : Byte)
  /-- PORTCMD_RECEIVE (R309): The far hub executes a port command: power, reset, suspend, resume or disable. -/
  | portcmdReceive (e : Fin 128)
  /-- PORTACK_RECEIVE (R309): The near hub completes a port command from PORTACK. -/
  | portackReceive (e : Fin 128)
  /-- PORTCMD_TIMEOUT (R309): No PORTACK within RTO × (RETRY + 1) completes the port command as failed. -/
  | portcmdTimeout (n : Fin 4)
  /-- PORTSTAT_SEND (R310): The far hub sends PORTSTAT at each change and at least every 100 ms. -/
  | portstatSend (n : Fin 4)
  /-- PORTSTAT_RECEIVE (R310): The near hub updates the NEAR port's status from PORTSTAT. -/
  | portstatReceive (e : Fin 128)
  /-- PROXY_SILENCE (R310): 350 ms without a message reports the NEAR port disconnected. -/
  | proxySilence (n : Fin 4)
  /-- WAKE_RECEIVE (R310): A WAKE message resumes the NEAR port and may wake the upstream host. -/
  | wakeReceive (e : Fin 128)
  /-- USTAT (R311): Mailbox opcode USTAT returns the USB proxy counts. -/
  | ustat (n : Fin 16) (m : Fin 2) (e : Fin 128)
  /-- UCLR (R311): Mailbox opcode UCLR clears the USB proxy counts. -/
  | uclr (n : Fin 16) (m : Fin 2) (e : Fin 128)
  /-- ENDPOINT_ENABLE (R313): Writing EPk_CFG.EN = 1 checks the buffer and MPS and enables the endpoint, or refuses it. -/
  | endpointEnable (k : Fin 16) (w : Word)
  /-- ENDPOINT_ARM (R314): An ARM write arms an endpoint buffer with LEN, or ends with LEN, BUSY, DISABLED or CFG. -/
  | endpointArm (k : Fin 16) (w : Word)
  /-- ENDPOINT_DISARM (R314): DISARM ends an armed transfer with ABORT. -/
  | endpointDisarm (k : Fin 16)
  /-- ENDPOINT_HALT (R315): Firmware sets HALT on an endpoint. -/
  | endpointHalt (k : Fin 16)
  /-- SETUP_RECEIVE (R316): A SETUP is accepted, aborts endpoint 0's transfer and is handled in hardware or passed to firmware. -/
  | setupReceive (b : BitVec 64) (arm : Bool) (fw : Bool)
  /-- ENDPOINT_TOKEN (R315): A token for an endpoint moves data from its armed buffer, or is answered NAK or STALL; the end of a transfer sets DONE. -/
  | endpointToken (k : Fin 16) (isIn : Bool) (data : List Byte)
  /-- ENDPOINT_MEMORY_ACCESS (R318): An access to endpoint memory completes, or is refused for an armed buffer and counted in BUFBUSY. -/
  | endpointMemoryAccess (o : Fin 4096) (v : Option Word)
  /-- BLOCK_CMD_RECEIVE (R325): The target handles an arriving block CMD by its TAG and SERIAL state and checks new commands. -/
  | blockCmdReceive (e : Fin 128)
  /-- BLOCK_CMD_EXECUTE (R324): An accepted block command starts once staging room exists and earlier overlapping commands are done. -/
  | blockCmdExecute (e : Fin 128) (tag : Fin 64)
  /-- BLOCK_DATA_RECEIVE (R325): A DATA message is accepted for writing or discarded. -/
  | blockDataReceive (e : Fin 128)
  /-- BLOCK_CMD_COMPLETE (R324): A block command ends at the target and its CPL is sent. -/
  | blockCmdComplete (e : Fin 128) (tag : Fin 64)
  /-- BLOCK_CPL_RECEIVE (R326): The initiator completes a request from its CPL, or reissues missing read blocks. -/
  | blockCplReceive (e : Fin 128)
  /-- BLOCK_RTO (R325): RTO without CPL resends the command, or ends it with NORESP after RETRY. -/
  | blockRto (e : Fin 128) (tag : Fin 64)
  /-- BLOCK_DATA_TIMEOUT (R327): Missing write data for RTO × (RETRY + 1) ends the command with DATALOST. -/
  | blockDataTimeout (e : Fin 128) (tag : Fin 64)
  /-- TAG_QUARANTINE_END (R326): A TAG given up with NORESP becomes reusable after its quarantine. -/
  | tagQuarantineEnd (e : Fin 128) (tag : Fin 64)
  /-- BSTAT (R328): Mailbox opcode BSTAT returns the block service counts. -/
  | bstat (n : Fin 16) (m : Fin 2) (e : Fin 128)
  /-- BCLR (R328): Mailbox opcode BCLR clears the block service counts. -/
  | bclr (n : Fin 16) (m : Fin 2) (e : Fin 128)
  /-- BACKEND_ENABLE (R330): Enabling an NVMe or eMMC/SD back end starts its initialisation. -/
  | backendEnable (w : Word)
  /-- BACKEND_INIT_DONE (R330): Back-end initialisation completes to READY, or fails to FAIL with its cause. -/
  | backendInitDone (m : Fin 2) (cause : Fin 3) (blocks : BitVec 40) (lbaSz : Fin 16) (mdts : BitVec 16) (modes : BitVec 6) (byteCard wp : Bool)
  /-- BACKEND_COMMAND_DONE (R330): A back-end medium command completes with its status. -/
  | backendCommandDone (e : Fin 128) (tag : Fin 64) (n : Fin 257) (ok : Bool) (data : List Byte)
  /-- BACKEND_COMMAND_TIMEOUT (R330): CTO expiry ends the command with TIMEOUT and re-initialises the back end, or sends it to FAIL after 3 resets. -/
  | backendCommandTimeout (e : Fin 128) (tag : Fin 64)
  /-- BACKEND_REMOVAL (R330): NVMe link down or card detect lost ends commands with NOMEDIA. -/
  | backendRemoval (m : Fin 2)
  /-- CARD_DETECT (R330): A card detect change held for CDDB is accepted. -/
  | cardDetect (present : Bool) (held : Nat)
  /-- UART_CHARACTER_RECEIVE (R333): A received character is recorded with its start-bit time in the receive ring. -/
  | uartCharacterReceive (n : Fin 8) (bits : List (BitVec 3)) (samp : BitVec 16) (ago : Nat)
  /-- UART_GAP_EXPIRY (R334): An idle line for GAP half-bits writes a gap marker. -/
  | uartGapExpiry (n : Fin 8)
  /-- UART_LINE_STUCK (R332): A line low for 1,024 bit times sets STUCK and raises its fault. -/
  | uartLineStuck (n : Fin 8)
  /-- UART_LINE_RELEASE (R332): A stuck line high for 16 bit times lets the receiver record again. -/
  | uartLineRelease (n : Fin 8)
  /-- UART_RING_WRITE (R335): A write of SER_Un_RING or RXRD sets the ring or returns records, or is refused with RINGREJ. -/
  | uartRingWrite (n : Fin 8) (rxrd : Bool) (w : Word)
  /-- UART_TRANSMIT (R336): A character starts transmission once the bus is free, with DE lead and trail. -/
  | uartTransmit (n : Fin 8)
  /-- SERIAL_MESSAGE_SEND (R337): The serial service sends a DATA message at a gap, at MAXMSG, or 10 ms after the first unsent character. -/
  | serialMessageSend (e : Fin 128)
  /-- SERIAL_MESSAGE_RECEIVE (R339): A serial message is queued, held or discarded by its sequence number. -/
  | serialMessageReceive (e : Fin 128)
  /-- SERIAL_HOLD_EXPIRY (R339): 2 ms after holding, held messages are queued and missing ones counted as errors. -/
  | serialHoldExpiry (e : Fin 128)
  /-- SSTAT (R340): Mailbox opcode SSTAT returns the serial service counts. -/
  | sstat (n : Fin 16) (m : Fin 2) (e : Fin 128)
  /-- SCLR (R340): Mailbox opcode SCLR clears the serial service counts. -/
  | sclr (n : Fin 16) (m : Fin 2) (e : Fin 128)
  /-- IRIG_ON_TIME (R100): An IRIG-B on-time mark is captured into the TMU. -/
  | irigOnTime (ago : Nat)
  /-- IRIG_FRAME (R342): A decoded IRIG-B frame updates the time registers or counts as bad, moving SEARCH and LOCKED. -/
  | irigFrame (ws : List Nat)
  /-- IRIG_LOS (R342): No IRIG edge for LOS returns the input to SEARCH and raises its fault. -/
  | irigLos
  /-- IRIG_OUTPUT_SECOND (R343): The IRIG-B generator emits the on-time edge and frame of each second. -/
  | irigOutputSecond
  /-- PERST_ASSERT (R351): PERST_N low disables host-side rings and the event ring. -/
  | perstAssert
  /-- PCIE_LINK_UP (R347): PCIe link training completes and the link reaches DL_Active. -/
  | pcieLinkUp (speed : Fin 4) (width : Fin 4)
  /-- PCIE_LINK_DOWN (R351): The link leaving DL_Active disables host-side rings and raises host-link-down. -/
  | pcieLinkDown
  /-- HOT_RESET (R351): A hot reset disables host-side rings as for link loss. -/
  | hotReset
  /-- FUNCTION_LEVEL_RESET (R351): A function-level reset disables host-side rings as for link loss. -/
  | functionLevelReset
  /-- BUS_MASTER_CHANGE (R351): Bus Master Enable or D3hot changes stop or resume host requests and MSI-X messages. -/
  | busMasterChange (bme : Bool) (d3 : Bool)
  /-- RING_ENABLE (R355): EN = 1 starts a disabled ring at PI = CI = 0, or is refused. -/
  | ringEnable (r : Fin 128) (w : Word)
  /-- RING_DISABLE (R363): EN = 0 starts draining a ring. -/
  | ringDisable (r : Fin 128)
  /-- RING_DRAINED (R363): A draining ring whose outstanding requests have completed becomes DISABLED. -/
  | ringDrained (r : Fin 128)
  /-- DOORBELL_WRITE (R358): A doorbell write sets a ring's PI, or is refused as DBREJ. -/
  | doorbellWrite (off : Fin 8192) (v : Word) (whole : Bool) (dis : Bool)
  /-- EVENT_DOORBELL_WRITE (R364): A write of EVDB returns event entries, or is refused. -/
  | eventDoorbellWrite (v : Word)
  /-- EVENT_RING_ENABLE (R364): Writing RNG_EVCFG.EN = 1 starts the event ring with WR = RD = 0. -/
  | eventRingEnable (w : Word)
  /-- DESCRIPTOR_FETCH (R356): A fetched descriptor is started, or stops the ring on OWN = 0 or a bus error. -/
  | descriptorFetch (r : Fin 128) (err : Bool)
  /-- TX_DESCRIPTOR (R360): A TX descriptor sends one packet through a context or as a raw send and is written back. -/
  | txDescriptor (r : Fin 128) (err : Fin 3)
  /-- RX_DELIVERY (R361): A packet for software is copied into a posted RX buffer once one is available and the descriptor written back. -/
  | rxDelivery (mgmt : Bool) (err : Fin 3)
  /-- RXWAIT_EXPIRY (R361): A packet that finds no RX buffer within RXWAIT is discarded as NOBUF. -/
  | rxwaitExpiry (mgmt : Bool)
  /-- SVC_DESCRIPTOR (R362): An SVC descriptor passes a request to its engine service. -/
  | svcDescriptor (r : Fin 128)
  /-- SVC_COMPLETE (R362): A service request completes and its SVC descriptor is written back. -/
  | svcComplete (r : Fin 128) (err : Bool)
  /-- HOLDOFF_EXPIRY (R367): At the end of a vector's holdoff one MSI-X message follows for the events written meanwhile. -/
  | holdoffExpiry (v : Fin 128)
  /-- WINDOW_ENABLE (R371): Writing a bridge window EN = 1 checks it and enables it, or refuses it. -/
  | windowEnable (w : Fin 16) (v : Word)
  /-- BRIDGE_READ (R374): A host or management read through BAR4 is checked and held while its READ is sent. -/
  | bridgeRead (mgmt : Bool) (a : Nat) (n : Nat)
  /-- BRIDGE_WRITE (R373): A host or management write through BAR4 is checked and sent as WRITE. -/
  | bridgeWrite (mgmt : Bool) (a : Nat) (data : List Byte) (whole : Bool)
  /-- BRIDGE_ACCESS_ISSUE (R378): An access waiting for a read tag or for room in the send window is issued once room exists. -/
  | bridgeAccessIssue (e : Fin 128)
  /-- BRIDGE_READ_TIMEOUT (R374): RDTO expiry completes a held read with Completer Abort. -/
  | bridgeReadTimeout (id : Nat)
  /-- RDATA_RECEIVE (R374): RDATA completes the held read, or is discarded as late. -/
  | rdataReceive (e : Fin 128)
  /-- MEMORY_READ_RECEIVE (R379): The far memory service checks a READ, performs it in order and returns RDATA. -/
  | memoryReadReceive (e : Fin 128) (err : Bool)
  /-- MEMORY_WRITE_RECEIVE (R379): The far memory service checks a WRITE, performs it in order or returns WFAIL. -/
  | memoryWriteReceive (e : Fin 128) (err : Bool)
  /-- SIGNAL_RECEIVE (R381): A SIGNAL sets its line in BRG_SIGRX and raises the bridge interrupt. -/
  | signalReceive (e : Fin 128) (err : Bool)
  /-- MEMORY_ACK_SEND (R377): The far service sends ACK after 16 executions or 50 µs. -/
  | memoryAckSend (e : Fin 128)
  /-- MEMORY_ACK_RECEIVE (R378): The near service frees acknowledged messages. -/
  | memoryAckReceive (e : Fin 128)
  /-- WFAIL_RECEIVE (R380): A WFAIL reports a failed posted write. -/
  | wfailReceive (e : Fin 128)
  /-- MEMORY_RTO (R378): RTO without acknowledgement resends unacknowledged messages, or fails them after RETRY. -/
  | memoryRto (e : Fin 128)
  /-- MEMORY_HOLD_EXPIRY (R376): In version 1 held messages execute after 2 ms and missing ones count as errors. -/
  | memoryHoldExpiry (e : Fin 128) (err : Bool)
  /-- SIGNAL_SEND (R381): A write of BRG_SIGTX sends SIGNAL on the window's service, or is ignored. -/
  | signalSend (w : Word)
  /-- PREFETCH_LINE_EXPIRY (R383): A prefetched line becomes invalid 2 µs after its data arrives. -/
  | prefetchLineExpiry (w : Fin 16) (line : Nat)
  /-- MSTAT (R384): Mailbox opcode MSTAT returns the memory service counts. -/
  | mstat (n : Fin 16) (m : Fin 2) (e : Fin 128)
  /-- MCLR (R384): Mailbox opcode MCLR clears the memory service counts. -/
  | mclr (n : Fin 16) (m : Fin 2) (e : Fin 128)
  /-- DMA_ENABLE (R391): EN = 1 takes a DMA channel from OFF to IDLE. -/
  | dmaEnable (n : Fin 32)
  /-- DMA_DISABLE (R394): EN = 0 drops everything in the channel in one cycle. -/
  | dmaDisable (n : Fin 32)
  /-- SHADOW_VALID (R390): Writing SHCTRL.VALID = 1 marks the shadow set complete, or withdraws it with 0. -/
  | shadowValid (n : Fin 32) (v : Bool)
  /-- DMA_LOAD (R387): The shadow is copied into the active set and checked, starting, waiting or ending the transfer. -/
  | dmaLoad (n : Fin 32)
  /-- DMA_START_AT (R391): A waiting transfer starts at its instant. -/
  | dmaStartAt (n : Fin 32)
  /-- DMA_TRANSFER_DONE (R389): A transfer ends with OK or MISMATCH and raises its source or ring completion. -/
  | dmaTransferDone (n : Fin 32)
  /-- DMA_BUS_ERROR (R392): A bus error halts the channel and latches the failing access. -/
  | dmaBusError (n : Fin 32) (moved : Nat) (dest : Bool) (cause : Fin 8)
  /-- DMA_RESUME (R391): RESUME ends a halted transfer with BUSERR. -/
  | dmaResume (n : Fin 32)
  /-- DRAM_TRAINING_START (R440): A write of a non-zero DEVSZ starts DRAM training. -/
  | dramTrainingStart (w : Word)
  /-- DRAM_TRAINING_DONE (R440): DRAM training completes with READY, or fails and raises its fault. -/
  | dramTrainingDone (ok : Bool)
  /-- DRAM_SCRUB (R398): The patrol scrub reads and corrects the DRAM space once every 24 h. -/
  | dramScrub (cor : Nat) (unc : List Nat)
  /-- HASH (R417): The HASH command computes SHA-384 of the input. -/
  | hash
  /-- HMAC (R417): The HMAC command computes HMAC-SHA-384 with a MAC slot. -/
  | hmac (a : Fin 128)
  /-- KDF (R418): The KDF command derives a 256-bit key into a slot. -/
  | kdf (a b : Fin 128)
  /-- KDFEC (R418): The KDFEC command derives a P-384 pair into a slot pair. -/
  | kdfec (a b : Fin 128)
  /-- KEYGEN (R417): The KEYGEN command generates a P-384 pair from the TRNG. -/
  | keygen (b : Fin 128) (ok : Bool)
  /-- PUBKEY (R417): The PUBKEY command returns the public key of a pair. -/
  | pubkey (a : Fin 128)
  /-- SIGN (R417): The SIGN command signs a digest with a pair. -/
  | sign (a : Fin 128)
  /-- VERIFY (R417): The VERIFY command checks a signature. -/
  | verify
  /-- ECDHKDF (R418): The ECDHKDF command derives a key from an ECDH shared point. -/
  | ecdhkdf (a b : Fin 128)
  /-- RANDOM (R417): The RANDOM command returns TRNG bytes. -/
  | random (ok : Bool)
  /-- DESTROY (R415): The DESTROY command empties a slot or pair not in use. -/
  | destroy (a : Fin 128)
  /-- IMGVER (R420): The IMGVER command verifies an engine image slot and locks its range. -/
  | imgver (a : Fin 128)
  /-- ENROLL (R409): The ENROLL command samples the PUF SRAM and writes HELPER and PUFCHK. -/
  | enroll (ok : Bool)
  /-- LCADV (R406): The LCADV command advances the life-cycle state and destroys keys. -/
  | lcadv (b : Fin 128) (copies : Fin 4)
  /-- ARBADV (R421): The ARBADV command raises the anti-rollback counter. -/
  | arbadv (b : Fin 128) (ok : Bool)
  /-- REVOKE (R417): The REVOKE command burns a signer's revoke bit. -/
  | revoke (a : Fin 128) (ok : Bool)
  /-- FUSE (R417): The FUSE command writes one fuse-map record. -/
  | fuse (ok : Bool)
  /-- KEY_COMMAND_DONE (R416): A key command ends, writing CODE and OUTLEN and setting DONE. -/
  | keyCommandDone
  /-- SLOT_CHECK_SWEEP (R414): Every 1 ms the check codes of all key slots are verified and failing slots marked BAD. -/
  | slotCheckSweep
  /-- OFFER_SEND (R424): In SEAL firmware sends OFFER every 1 s until it holds the partner's PROOF. -/
  | offerSend (t : Fin 4)
  /-- OFFER_RECEIVE (R424): On a partner OFFER firmware checks the chain and sends PROOF or ABORT. -/
  | offerReceive (t : Fin 4) (bytes : List Byte)
  /-- PROOF_RECEIVE (R424): A verified partner PROOF leads to key agreement and loading of TRK_SEAL. -/
  | proofReceive (t : Fin 4) (bytes : List Byte)
  /-- ABORT_RECEIVE (R424): An ABORT leaves the trunk in SEAL until SEALTO. -/
  | abortReceive (t : Fin 4) (bytes : List Byte)
  /-- CERTREQ_RECEIVE (R444): Firmware answers CERTREQ with CERTBODY. -/
  | certreqReceive (src : BitVec 25) (bytes : List Byte)
  /-- CHAIN_RECEIVE (R444): Firmware checks a CHAIN, stores it and answers CHAINACK. -/
  | chainReceive (src : BitVec 25) (bytes : List Byte) (place : Nat) (ok : Bool)
  /-- POWER_ON_RESET (R427): The always-on supply rising resets every block. -/
  | powerOnReset
  /-- PORST_ASSERT (R428): PORST_N low for 10 µs causes a chip reset. -/
  | porstAssert
  /-- CHIP_RESET (R427): A chip reset resets every block except HSW, UPD and the wake logic. -/
  | chipReset (k : Fin 3)
  /-- CHIP_RESET_RELEASE (R428): 100 µs after PORST_N, reference, PLLs and power-good all hold, the chip reset releases and straps are sampled. -/
  | chipResetRelease (compat pcieRc dbgEn : BitVec 3)
  /-- GEN_RST_CHIP (R430): GEN_RST.CHIP with the key causes a chip reset. -/
  | genRstChip (w : Word)
  /-- GEN_RST_MGMT (R430): GEN_RST.MGMT with the key causes a management reset. -/
  | genRstMgmt (w : Word)
  /-- MGMT_RESET (R432): A management reset resets the processor and SRAM and reruns SRAM, TABLE and MGMT. -/
  | mgmtReset (wdt : Bool)
  /-- MGMT_WATCHDOG_KICK (R431): A KICK restarts the management watchdog count. -/
  | mgmtWatchdogKick (w : Word)
  /-- MGMT_WATCHDOG_EXPIRY (R431): Watchdog expiry causes a management reset, or stops the processor after three in 60 s. -/
  | mgmtWatchdogExpiry
  /-- BOOT_FUSES (R433): The ROM loads the fuse shadow and completes pending burns, or halts in BLANK or SCRAPPED. -/
  | bootFuses (cor bad : List (Fin 512))
  /-- BOOT_KEYS (R433): The ROM regenerates the PUF key, unwraps or generates the root and derives the device key. -/
  | bootKeys (ra rb : Fin 3)
  /-- PUF_RETRY (R409): After a PUF mismatch and 10 ms power-down, the PUF key regeneration is attempted again. -/
  | pufRetry (ra rb : Fin 3)
  /-- BOOT_SRAM (R433): The ROM writes all management SRAM with zeros and valid ECC. -/
  | bootSram
  /-- BOOT_TABLE (R435): The ROM reads both image-table copies and chooses one, or halts with NOTABLE. -/
  | bootTable
  /-- BOOT_MGMT (R436): The ROM loads and verifies the first passing management image, or halts with NOMGMT. -/
  | bootMgmt
  /-- BOOT_CONFIG (R438): The ROM loads, verifies, scans and applies the configuration image. -/
  | bootConfig
  /-- CONFIG_POLL (R437): A POLL record's awaited value is met and application continues. -/
  | configPoll
  /-- CONFIG_POLL_TIMEOUT (R438): A POLL unmet after 100 ms stops application with POLLTO. -/
  | configPollTimeout
  /-- CONFIG_DELAY (R437): A DELAY record's wait expires and application continues. -/
  | configDelay
  /-- BOOT_ENGINES (R439): For each engine slot the ROM waits for DRAM, copies the image and runs IMGVER. -/
  | bootEngines
  /-- BOOT_RUN (R433): The ROM records BOOT_TRUN and starts the management firmware. -/
  | bootRun
  /-- IMAGE_SLOT_WRITE (R420): A write of an engine image slot's address or length clears VERIFIED and releases its lock, or is refused. -/
  | imageSlotWrite (i : Fin 4) (isLen : Bool) (w : Word)
  /-- SEAT_DEBOUNCE_COMPLETE (R448): Both seating pins low for 50 ms set SEATED and start the path. -/
  | seatDebounceComplete
  /-- REMOVAL (R449): A seating pin high for 100 µs turns the path off and enters UNSEATED. -/
  | removal
  /-- FEED_VALID (R450): A feed within its window for 10 ms becomes valid. -/
  | feedValid (f : Fin 2)
  /-- FEED_UNDERVOLTAGE (R450): A feed below UV for 100 µs becomes invalid. -/
  | feedUndervoltage (f : Fin 2)
  /-- FEED_OVERVOLTAGE (R450): A feed above OV becomes invalid within 2 µs. -/
  | feedOvervoltage (f : Fin 2) (mv : BitVec 17)
  /-- IDEAL_DIODE_ON (R451): A valid feed with forward voltage above 50 mV enhances its ideal-diode gate. -/
  | idealDiodeOn (f : Fin 2)
  /-- IDEAL_DIODE_REVERSE_OFF (R451): A reverse voltage of 20 mV turns an ideal diode off within 0.5 µs. -/
  | idealDiodeReverseOff (f : Fin 2)
  /-- FEEDC_OVERVOLTAGE (R452): FEED_C above OV turns the pass transistor off and enters FEEDWAIT. -/
  | feedcOvervoltage (mv : BitVec 17)
  /-- NO_FEED (R452): No valid feed for 1 ms sends the path to FEEDWAIT. -/
  | noFeed
  /-- RAMP_END (R453): VOUT reaching FEED_C − 500 mV drives the gate fully on and enters ON. -/
  | rampEnd
  /-- PATHGD_RISE (R453): 1 ms after entering ON, PATHGD goes high. -/
  | pathgdRise
  /-- LIMIT_RECOMPUTE (R454): Every 4 µs the folded current limit is recomputed and the fault timer runs while limiting. -/
  | limitRecompute (va : BitVec 16) (vb : BitVec 16) (vc : BitVec 16) (vout : BitVec 16) (vbus : BitVec 12) (raw : List (BitVec 14)) (held : Bool)
  /-- FAULT_TIMER_TRIP (R454): The fault timer reaching TFLT trips the pass transistor. -/
  | faultTimerTrip
  /-- FAST_TRIP (R455): A current above twice ILIM turns the pass transistor off within 1 µs. -/
  | fastTrip (raw : BitVec 14)
  /-- RETRY_EXPIRY (R456): After 1 s in RETRYWAIT the path ramps or waits for a feed. -/
  | retryExpiry
  /-- RETRY_RESET (R456): 10 s in ON without interruption returns RETRIES to 0. -/
  | retryReset
  /-- PATH_OFF_COMMAND (R458): HSW_CMD.OFF with the key sends the path to OFF, or is refused in the elytra state. -/
  | pathOffCommand (w : Word)
  /-- PATH_ON_COMMAND (R458): HSW_CMD.ON with the key sends OFF to DEBOUNCE. -/
  | pathOnCommand (w : Word)
  /-- CLEAR_LATCH (R457): CLRLATCH sends LATCHED to DEBOUNCE with RETRIES 0. -/
  | clearLatch
  /-- PASS_DAMAGED (R460): VOUT or current persisting for 10 ms with the transistor off declares it damaged. -/
  | passDamaged
  /-- SINK_SWITCH_CLOSE (R461): The USB-C sink switch closes when its conditions hold. -/
  | sinkSwitchClose
  /-- SINK_SWITCH_OPEN (R461): The USB-C sink switch opens on reverse voltage, end of contract or a coming ramp. -/
  | sinkSwitchOpen (reverse : Bool)
  /-- LIMIT_WRITE (R463): A write of ILIM, PLIM or SHUNT0 recomputes the thresholds, or is refused. -/
  | limitWrite (shunt : Bool) (w : Word)
  /-- EFUSE_LIMIT_TRIP (R462): An eFuse held at its limit for 2 ms turns off and sets OC. -/
  | efuseLimitTrip (n : Fin 4) (ma : BitVec 12)
  /-- EFUSE_FAST_TRIP (R462): An eFuse above twice its limit turns off within 1 µs and sets FT. -/
  | efuseFastTrip (n : Fin 4) (ma : BitVec 12)
  /-- EFUSE_THERMAL_TRIP (R462): An eFuse junction above 150 °C turns it off and sets THERM. -/
  | efuseThermalTrip (n : Fin 4)
  /-- CC_TERMINATION_DETECT (R467): A termination seen on a CC pin enters ATTACHWAIT. -/
  | ccTerminationDetect (cc2 rp : Bool) (cur : Fin 4)
  /-- ATTACH_DEBOUNCE (R467): A termination held for 150 ms attaches as sink or source, or enters TRY. -/
  | attachDebounce
  /-- TRY_EXPIRY (R467): The TRY window ends and the port attaches in a role. -/
  | tryExpiry (seen : Bool) (cur : Fin 4)
  /-- DRP_TOGGLE (R466): A dual-role port toggles between Rp and Rd every 50 ms. -/
  | drpToggle
  /-- SINK_DETACH (R467): VBUS below 3.67 V for 10 ms detaches a sink. -/
  | sinkDetach
  /-- SOURCE_DETACH (R467): The partner's Rd absent for 15 ms turns VBUS off and detaches a source. -/
  | sourceDetach
  /-- ERRREC_EXPIRY (R467): Both CC pins open for 25 ms in ERRREC return to UNATTACHED. -/
  | errrecExpiry
  /-- FEED_PATH_LEAVE_ON (R477): The feed path leaving ON stops sourcing VBUS and enters ERRREC. -/
  | feedPathLeaveOn
  /-- SOURCE_CAPABILITIES_RECEIVE (R472): The hub as sink checks Source_Capabilities and sends a Request. -/
  | sourceCapabilitiesReceive (objs : List Word)
  /-- REQUEST_RECEIVE (R476): The hub as source accepts or rejects a Request and sets VBUS. -/
  | requestReceive (w : Word)
  /-- PS_RDY_RECEIVE (R473): PS_RDY establishes the explicit contract and may set SNKVALID. -/
  | psRdyReceive
  /-- PD_TIMER_EXPIRY (R470): A PD wait expires and the hub retransmits, soft-resets or hard-resets as its row states. -/
  | pdTimerExpiry (k : Fin 12)
  /-- PPS_KEEPALIVE (R474): Every KEEPALIVE seconds the hub repeats its PPS Request. -/
  | ppsKeepalive
  /-- SOURCE_CURRENT_LIMIT_TRIP (R476): Current over the limit at 3.3 V for 100 ms sends Hard_Reset. -/
  | sourceCurrentLimitTrip
  /-- UPD_PRSWAP (R478): UPD_CMD.PRSWAP requests a power role swap. -/
  | updPrswap (w : Word)
  /-- UPD_DRSWAP (R478): UPD_CMD.DRSWAP requests a data role swap. -/
  | updDrswap (w : Word)
  /-- UPD_HRESET (R479): UPD_CMD.HRESET sends Hard_Reset. -/
  | updHreset (w : Word)
  /-- UPD_EXITALT (R482): UPD_CMD.EXITALT exits the alternate mode. -/
  | updExitalt (w : Word)
  /-- PR_SWAP_RECEIVE (R478): A received PR_Swap is accepted or rejected and run. -/
  | prSwapReceive
  /-- DR_SWAP_RECEIVE (R478): A received DR_Swap is accepted or rejected and run after exiting any mode. -/
  | drSwapReceive
  /-- HARD_RESET_RECEIVE (R479): A received Hard_Reset returns the port to its attach roles and ends modes. -/
  | hardResetReceive
  /-- SOFT_RESET_RECEIVE (R469): A received Soft_Reset resets the PD protocol layer. -/
  | softResetReceive
  /-- UNSUPPORTED_MESSAGE_RECEIVE (R469): An unsupported PD message, VCONN_Swap included, is answered Not_Supported or Reject. -/
  | unsupportedMessageReceive (vconn : Bool)
  /-- ALT_MODE_DISCOVERY (R480): As DFP with a contract, the hub discovers identity, SVIDs and modes and sends Enter Mode. -/
  | altModeDiscovery (vdo : Option Word) (dpSink pinC pinD : Bool)
  /-- ENTER_MODE_RECEIVE (R484): A UFP hub answers Enter Mode with ACK or NAK. -/
  | enterModeReceive (svid : BitVec 16)
  /-- ENTER_MODE_ACK (R481): The Enter Mode ACK switches the multiplexer and moves TRK3 or starts DisplayPort configuration. -/
  | enterModeAck (ack : Bool)
  /-- EXIT_MODE_RECEIVE (R482): Exit Mode ends the alternate mode and opens the multiplexer. -/
  | exitModeReceive
  /-- DP_ATTENTION (R483): A DP Status Update or Attention writes HPD and may start retraining. -/
  | dpAttention (hpd irq : Bool)
  /-- PWR_CMD_RUN (R489): A PWR_CMD request for RUN changes the operating point or leaves HUSH. -/
  | pwrCmdRun (w : Word)
  /-- PWR_CMD_TRIM (R489): A PWR_CMD request for TRIM changes the operating point or leaves HUSH. -/
  | pwrCmdTrim (w : Word)
  /-- PWR_CMD_HUSH (R490): A PWR_CMD request for HUSH starts the block handshake. -/
  | pwrCmdHush (w : Word)
  /-- PWR_CMD_DORMANT (R490): A PWR_CMD request for DORMANT starts the block handshake. -/
  | pwrCmdDormant (w : Word)
  /-- PWR_CMD_OFF (R490): A PWR_CMD request for OFF starts the block handshake. -/
  | pwrCmdOff (w : Word)
  /-- HANDSHAKE_ANSWER (R490): A block's final ACK or REFUSE completes or aborts the state entry. -/
  | handshakeAnswer (k : Fin 24)
  /-- FIRMWARE_ANSWER (R490): A write of PWR_FWACK gives firmware's answer to a pending request. -/
  | firmwareAnswer (w : Word)
  /-- HANDSHAKE_TIMEOUT (R490): A block's DELAY bound expires and the transition aborts with TIMEOUT. -/
  | handshakeTimeout (k : Fin 24)
  /-- WAKE_EVENT (R493): An enabled wake source exits HUSH, DORMANT or OFF, or aborts a handshake. -/
  | wakeEvent (k : Fin 6)
  /-- WAKE_TIMER_EXPIRY (R493): The wake timer started at entry expires. -/
  | wakeTimerExpiry
  /-- AVS_CONFIRM (R496): A read-back within ±10 mV confirms the VCORE target and the operating-point change proceeds. -/
  | avsConfirm (mv : BitVec 12)
  /-- AVS_TIMEOUT (R496): No confirmation within AVSTO keeps the low frequency and raises the AVSBus timeout fault. -/
  | avsTimeout
  /-- POWER_GOOD (R523): All switched rails above 90 % for 1 ms report power-good. -/
  | powerGood
  /-- RAIL_UNDERVOLTAGE (R523): A rail below 85 % for 10 µs outside entry to DORMANT or OFF causes a chip reset. -/
  | railUndervoltage
  /-- REFERENCE_CLOCK_LOST (R498): A reference off by more than 1,000 ppm for 10 µs clears REFOK and raises its fault. -/
  | referenceClockLost
  /-- PLL_LOCK_LOST (R498): A PLL losing lock clears its LK bit and raises the clock fault. -/
  | pllLockLost (k : Fin 5)
  /-- FAULT_STATUS_CLEAR (R504): Writing 1 to a fault status bit clears it when its cause is gone. -/
  | faultStatusClear (j : Fin 8) (w hw : Word)
  /-- FAULT_CFG_WRITE (R508): A write of FLT_CFGs sets enable, class, escalation and force, or is refused. -/
  | faultCfgWrite (slot : Fin 256) (w : Word)
  /-- FAULT_ESCALATION (R507): A status bit set for its escalation time raises the effective class one step. -/
  | faultEscalation (slot : Fin 256)
  /-- TEMPERATURE_SAMPLE (R503): Every 1 ms the junction temperature is computed and the temperature sources updated. -/
  | temperatureSample (code : BitVec 16)
  /-- CONFIG_PARITY_SWEEP (R510): Every 1 µs the collector's configuration parity is checked, entering the elytra state on failure. -/
  | configParitySweep (bad : Bool)
  /-- COLLECTOR_LOCKSTEP_MISMATCH (R510): A collector lockstep mismatch enters the elytra state directly. -/
  | collectorLockstepMismatch
  /-- MGMT_LOCKSTEP_MISMATCH (R502): A management processor lockstep mismatch stops it until chip reset. -/
  | mgmtLockstepMismatch
  /-- MGMT_SRAM_ECC (R502): An uncorrectable management SRAM error returns an error to the processor. -/
  | mgmtSramEcc (a : BitVec 19)
  /-- ELYTRA_ENTER_COMMAND (R509): FLT_CMD.ENTER with the key enters the elytra state by software. -/
  | elytraEnterCommand (w : Word)
  /-- ELYTRA_EXIT_COMMAND (R512): FLT_CMD.EXIT with the key leaves the elytra state, or is refused. -/
  | elytraExitCommand (w : Word)
  /-- GPIO_EDGE (R526): A filtered GPIO level change is accepted, time-stamped and queued, setting its event bit. -/
  | gpioEdge (p : Fin 32) (ball : Bool) (ago : Nat)
  /-- I2C_WRITE_BYTE (R528): An I2C command writes one byte with optional START and STOP. -/
  | i2cWriteByte (b : Fin 2) (w : Word)
  /-- I2C_READ_BYTE (R528): An I2C command reads one byte with optional START and STOP. -/
  | i2cReadByte (b : Fin 2) (w : Word)
  /-- I2C_COMMAND_DONE (R528): An I2C command ends, setting DONE with any error flag. -/
  | i2cCommandDone (b : Fin 2) (outcome : Fin 4) (data : Byte)
  /-- I2C_STRETCH_TIMEOUT (R528): Clock stretching beyond STRETCH ends the command with TIMEOUT. -/
  | i2cStretchTimeout (b : Fin 2)
  /-- MDIO_C22_WRITE (R529): An MDIO command sends a Clause 22 write frame. -/
  | mdioC22Write (w : Word)
  /-- MDIO_C22_READ (R529): An MDIO command sends a Clause 22 read frame. -/
  | mdioC22Read (w : Word)
  /-- MDIO_C45_ADDRESS (R529): An MDIO command sends a Clause 45 address frame. -/
  | mdioC45Address (w : Word)
  /-- MDIO_C45_WRITE (R529): An MDIO command sends a Clause 45 write frame. -/
  | mdioC45Write (w : Word)
  /-- MDIO_C45_READ_INCREMENT (R529): An MDIO command sends a Clause 45 read-increment frame. -/
  | mdioC45ReadIncrement (w : Word)
  /-- MDIO_C45_READ (R529): An MDIO command sends a Clause 45 read frame. -/
  | mdioC45Read (w : Word)
  /-- MDIO_FRAME_DONE (R529): An MDIO frame ends, setting DONE, RDATA or NORESP. -/
  | mdioFrameDone (resp : Bool) (data : BitVec 16)
  /-- FAR_DEVICE_REMOTE_WAKE (R310): A device on a FAR port signals remote wake-up; the far hub reflects the K for 20 ms and sends WAKE. -/
  | farDeviceRemoteWake (n : Fin 4)
  /-- PORT_DISCONNECT (R300): A device leaves a downstream port and the port loses its connection. -/
  | portDisconnect (n : Fin 4)
  /-- PORT_RESUME_END (R309): After 20 ms of resume K and an end of packet on a downstream port, the resume completes, setting C_PORT_SUSPEND or sending PORTACK. -/
  | portResumeEnd (n : Fin 5)
  /-- ACCEPT_REJECT_WAIT_RECEIVE (R478): The partner's Accept, Reject or Wait answer to a Request or swap arrives and moves the exchange on. -/
  | acceptRejectWaitReceive (k : Fin 4)
  /-- WAIT_REQUEST_REPEAT (R474): 100 ms after a Wait answer, the hub repeats its PPS Request. -/
  | waitRequestRepeat
  /-- DISCOVER_REQUEST_RECEIVE (R480): As UFP, the hub answers a partner's Discover Identity, SVIDs or Modes with the Vexbel SVID, or with NAK. -/
  | discoverRequestReceive (k : Fin 3)
  /-- REFERENCE_CLOCK_RETURN (R498): The reference comes back within tolerance, or a PLL relocks, and REFOK or the LK bit is set again, ending the cause of the clock fault. -/
  | referenceClockReturn (k : Fin 6)
  /-- PERST_DEASSERT (R347): PERST_N rises in the endpoint role and, with EN = 1, link training starts. -/
  | perstDeassert
  /-- SINK_DEAD_TIME_EXPIRY (R461): 20 µs after the sink switch opens for a coming ramp, the ramp begins from the present VOUT. -/
  | sinkDeadTimeExpiry
  deriving DecidableEq, Repr

end Sys2Proof
end

