-- ==== Sys2Proof/Decode.lean ====
section
/-! DEFINITION. The words of the command table: spec/opcode_table.json gives no row any bits, so that no word spells a command (log entry 2). -/

namespace Sys2Proof

/-- The command that a word spells by the bits of the table: none, for no row of it has bits. -/
def decodeTableWord (_nbits _w : Nat) : Option Instr := none

end Sys2Proof
end

