-- ==== Sys2Proof/Config.lean ====
section
/-! DEFINITION. What an implementation fixes and what the spec leaves open: the free values, constants without a body, so that no proof can see what they are. -/

namespace Sys2Proof.Config

/-- A value that the spec leaves open, one for each number that the state's counter gives (log entry 3). -/
opaque freeNat : Nat → Nat

/-- What byte `a` of the scratchpad reads as before it is written after the `n`-th loss of its contents (R19, R250, log entry 67). -/
opaque padByte (n a : Nat) : BitVec 8

/-- The PUF key (R409) that an attempt regenerates from HELPER; the number stands for the start-up pattern of that attempt (log entry 23). -/
opaque pufKey : List Byte → Nat → List Byte

end Sys2Proof.Config
end

