-- ==== Sys2Proof/Machine/Field.lean ====
section
/-! DEFINITION. What a register field is (R20 to R25): where it lies, its access type, its reset value and its unreserved codes. The register map of each block (Machine/Regs*.lean) lists them as the spec's register tables do. -/

namespace Sys2Proof.Machine

/-- The access types of R23; `cnt` is a counter that a write of any value clears (R18). -/
inductive Access where
  | rw | ro | w1c | w1s | wo | rwl | cnt
  deriving DecidableEq, Repr

/-- One field of a register, or of each register of an array of up to two dimensions. -/
structure Field where
  /-- BAR0 byte offset of the word (of the first word of an array). -/
  off : Nat
  hi : Nat
  lo : Nat
  acc : Access
  reset : Nat
  /-- Ranges of codes that are not reserved; empty: every code (R15). -/
  ok : List (Nat × Nat) := []
  /-- Byte strides of the first and second index. -/
  str : Nat := 0
  str2 : Nat := 0
  /-- Reset values of index ranges that differ from `reset`. -/
  resets : List (Nat × Nat × Nat) := []
  deriving DecidableEq, Repr

namespace Field

/-- The field's width in bits. -/
def width (F : Field) : Nat := F.hi + 1 - F.lo

/-- The BAR0 byte offset of the word that holds instance `(i, j)`. -/
def addr (F : Field) (i j : Nat) : Nat := F.off + F.str * i + F.str2 * j

/-- The key of instance `(i, j)`: the absolute bit address of its lowest bit. -/
def key (F : Field) (i j : Nat) : Nat := 8 * F.addr i j + F.lo

/-- The reset value of instance `i`. -/
def resetOf (F : Field) (i : Nat) : Nat :=
  match F.resets.find? (fun r => r.1 ≤ i && i ≤ r.2.1) with
  | some r => r.2.2
  | none => F.reset

/-- The code is not reserved (R15). -/
def codeOk (F : Field) (v : Nat) : Bool :=
  F.ok.isEmpty || F.ok.any (fun r => r.1 ≤ v && v ≤ r.2)

end Field

/-- One register word, or an array of them, with its fields. -/
structure Reg where
  off : Nat
  str : Nat := 0
  cnt : Nat := 1
  str2 : Nat := 0
  cnt2 : Nat := 1
  flds : List Field
  deriving DecidableEq, Repr

/-- A block's register window (R45) and its lock bit (R48), if it has one. -/
structure Block where
  base : Nat
  size : Nat
  lock : Option Field
  regs : List Reg
  deriving DecidableEq, Repr

end Sys2Proof.Machine
end

