-- ==== Sys2Proof/Machine/RegsBnk.lean ====
section
/-! DEFINITION. The register map of the BNK block: one definition for each field of its register tables in spec/10_tunnel_engines.md (R265), and the list of its registers. Window base and size: R45. -/

namespace Sys2Proof.Machine

def BNK_CTRL_LOCK : Field := { off := 0x1d0000, hi := 31, lo := 31, acc := .w1s, reset := 0 }
def reg_BNK_CTRL : Reg := { off := 0x1d0000, flds := [BNK_CTRL_LOCK] }

def BNK_STAT_ADMREJ : Field := { off := 0x1d0004, hi := 0, lo := 0, acc := .w1c, reset := 0 }
def reg_BNK_STAT : Reg := { off := 0x1d0004, flds := [BNK_STAT_ADMREJ] }

def BNK_COLL_VALID : Field := { off := 0x1d0008, hi := 31, lo := 31, acc := .w1c, reset := 0 }
def BNK_COLL_BANK : Field := { off := 0x1d0008, hi := 30, lo := 26, acc := .ro, reset := 0 }
def BNK_COLL_WINNER : Field := { off := 0x1d0008, hi := 25, lo := 21, acc := .ro, reset := 0 }
def BNK_COLL_LOSER : Field := { off := 0x1d0008, hi := 20, lo := 16, acc := .ro, reset := 0 }
def BNK_COLL_WORD : Field := { off := 0x1d0008, hi := 12, lo := 0, acc := .ro, reset := 0 }
def reg_BNK_COLL : Reg := { off := 0x1d0008, flds := [BNK_COLL_VALID, BNK_COLL_BANK, BNK_COLL_WINNER, BNK_COLL_LOSER, BNK_COLL_WORD] }

def BNK_ECC_UNC : Field := { off := 0x1d000c, hi := 31, lo := 16, acc := .cnt, reset := 0 }
def BNK_ECC_COR : Field := { off := 0x1d000c, hi := 15, lo := 0, acc := .cnt, reset := 0 }
def reg_BNK_ECC : Reg := { off := 0x1d000c, flds := [BNK_ECC_UNC, BNK_ECC_COR] }

def BNK_OWN_PEND : Field := { off := 0x1d0100, hi := 31, lo := 31, acc := .ro, reset := 0, str := 0x4 }
def BNK_OWN_OWNER : Field := { off := 0x1d0100, hi := 28, lo := 24, acc := .rw, reset := 16, str := 0x4 }
def BNK_OWN_SHARE : Field := { off := 0x1d0100, hi := 21, lo := 0, acc := .rw, reset := 0, str := 0x4 }
def reg_BNK_OWN : Reg := { off := 0x1d0100, str := 0x4, cnt := 32, flds := [BNK_OWN_PEND, BNK_OWN_OWNER, BNK_OWN_SHARE] }

def BNK_CONF_COUNT : Field := { off := 0x1d0200, hi := 31, lo := 0, acc := .cnt, reset := 0, str := 0x4 }
def reg_BNK_CONF : Reg := { off := 0x1d0200, str := 0x4, cnt := 22, flds := [BNK_CONF_COUNT] }

def BNK_MSTAT_COLL : Field := { off := 0x1d0300, hi := 31, lo := 31, acc := .w1c, reset := 0, str := 0x4 }
def BNK_MSTAT_DENY : Field := { off := 0x1d0300, hi := 30, lo := 30, acc := .w1c, reset := 0, str := 0x4 }
def BNK_MSTAT_ECC : Field := { off := 0x1d0300, hi := 29, lo := 29, acc := .w1c, reset := 0, str := 0x4 }
def BNK_MSTAT_DENYCNT : Field := { off := 0x1d0300, hi := 15, lo := 8, acc := .ro, reset := 0, str := 0x4 }
def BNK_MSTAT_COLLCNT : Field := { off := 0x1d0300, hi := 7, lo := 0, acc := .ro, reset := 0, str := 0x4 }
def reg_BNK_MSTAT : Reg := { off := 0x1d0300, str := 0x4, cnt := 22, flds := [BNK_MSTAT_COLL, BNK_MSTAT_DENY, BNK_MSTAT_ECC, BNK_MSTAT_DENYCNT, BNK_MSTAT_COLLCNT] }

/-- The registers of the BNK block. -/
def regsOf_BNK : List Reg :=
  [reg_BNK_CTRL, reg_BNK_STAT, reg_BNK_COLL, reg_BNK_ECC, reg_BNK_OWN, reg_BNK_CONF, reg_BNK_MSTAT]

/-- The BNK window (R45). -/
def block_BNK : Block := { base := 0x1d0000, size := 0x10000, lock := some BNK_CTRL_LOCK, regs := regsOf_BNK }

end Sys2Proof.Machine
end

