-- ==== Sys2Proof/Machine/RegsBoot.lean ====
section
/-! DEFINITION. The register map of the BOOT block: one definition for each field of its register tables in spec/17_startup.md (R446), and the list of its registers. Window base and size: R45. -/

namespace Sys2Proof.Machine

def BOOT_STAT_STAGE : Field := { off := 0x240000, hi := 31, lo := 28, acc := .ro, reset := 0 }
def BOOT_STAT_HALT : Field := { off := 0x240000, hi := 27, lo := 24, acc := .ro, reset := 0 }
def BOOT_STAT_TCOPY : Field := { off := 0x240000, hi := 23, lo := 23, acc := .ro, reset := 0 }
def BOOT_STAT_CALMISS : Field := { off := 0x240000, hi := 22, lo := 22, acc := .ro, reset := 0 }
def reg_BOOT_STAT : Reg := { off := 0x240000, flds := [BOOT_STAT_STAGE, BOOT_STAT_HALT, BOOT_STAT_TCOPY, BOOT_STAT_CALMISS] }

def BOOT_IMG_MGMTENT : Field := { off := 0x240004, hi := 31, lo := 26, acc := .ro, reset := 63 }
def BOOT_IMG_CFGENT : Field := { off := 0x240004, hi := 25, lo := 20, acc := .ro, reset := 63 }
def BOOT_IMG_MGMTCODE : Field := { off := 0x240004, hi := 15, lo := 12, acc := .ro, reset := 0 }
def BOOT_IMG_CFGCODE : Field := { off := 0x240004, hi := 11, lo := 8, acc := .ro, reset := 0 }
def reg_BOOT_IMG : Reg := { off := 0x240004, flds := [BOOT_IMG_MGMTENT, BOOT_IMG_CFGENT, BOOT_IMG_MGMTCODE, BOOT_IMG_CFGCODE] }

def BOOT_ENG_CODE3 : Field := { off := 0x240008, hi := 15, lo := 12, acc := .ro, reset := 7 }
def BOOT_ENG_CODE2 : Field := { off := 0x240008, hi := 11, lo := 8, acc := .ro, reset := 7 }
def BOOT_ENG_CODE1 : Field := { off := 0x240008, hi := 7, lo := 4, acc := .ro, reset := 7 }
def BOOT_ENG_CODE0 : Field := { off := 0x240008, hi := 3, lo := 0, acc := .ro, reset := 7 }
def reg_BOOT_ENG : Reg := { off := 0x240008, flds := [BOOT_ENG_CODE3, BOOT_ENG_CODE2, BOOT_ENG_CODE1, BOOT_ENG_CODE0] }

def BOOT_SEQ_SEQ : Field := { off := 0x24000c, hi := 31, lo := 0, acc := .ro, reset := 0 }
def reg_BOOT_SEQ : Reg := { off := 0x24000c, flds := [BOOT_SEQ_SEQ] }

def BOOT_TRUN_US : Field := { off := 0x240010, hi := 31, lo := 0, acc := .ro, reset := 0 }
def reg_BOOT_TRUN : Reg := { off := 0x240010, flds := [BOOT_TRUN_US] }

def BOOT_CFGPOS_RECORD : Field := { off := 0x240014, hi := 15, lo := 0, acc := .ro, reset := 0 }
def reg_BOOT_CFGPOS : Reg := { off := 0x240014, flds := [BOOT_CFGPOS_RECORD] }

def BOOT_FUSE_ROW : Field := { off := 0x241000, hi := 31, lo := 0, acc := .ro, reset := 0, str := 0x4 }
def reg_BOOT_FUSE : Reg := { off := 0x241000, str := 0x4, cnt := 512, flds := [BOOT_FUSE_ROW] }

/-- The registers of the BOOT block. -/
def regsOf_BOOT : List Reg :=
  [reg_BOOT_STAT, reg_BOOT_IMG, reg_BOOT_ENG, reg_BOOT_SEQ, reg_BOOT_TRUN, reg_BOOT_CFGPOS, reg_BOOT_FUSE]

/-- The BOOT window (R45). -/
def block_BOOT : Block := { base := 0x240000, size := 0x10000, lock := none, regs := regsOf_BOOT }

end Sys2Proof.Machine
end

