-- ==== Sys2Proof/Machine/RegsBrg.lean ====
section
/-! DEFINITION. The register map of the BRG block: one definition for each field of its register tables in spec/15_bridge_dma.md (R399), and the list of its registers. Window base and size: R45. -/

namespace Sys2Proof.Machine

def BRG_CTRL_LOCK : Field := { off := 0x80000, hi := 31, lo := 31, acc := .w1s, reset := 0 }
def BRG_CTRL_EN : Field := { off := 0x80000, hi := 30, lo := 30, acc := .rw, reset := 0 }
def BRG_CTRL_VEC : Field := { off := 0x80000, hi := 6, lo := 0, acc := .rwl, reset := 127 }
def reg_BRG_CTRL : Reg := { off := 0x80000, flds := [BRG_CTRL_LOCK, BRG_CTRL_EN, BRG_CTRL_VEC] }

def BRG_STAT_CFGREJ : Field := { off := 0x80004, hi := 2, lo := 2, acc := .w1c, reset := 0 }
def BRG_STAT_SIGEV : Field := { off := 0x80004, hi := 1, lo := 1, acc := .w1c, reset := 0 }
def BRG_STAT_WFEV : Field := { off := 0x80004, hi := 0, lo := 0, acc := .w1c, reset := 0 }
def reg_BRG_STAT : Reg := { off := 0x80004, flds := [BRG_STAT_CFGREJ, BRG_STAT_SIGEV, BRG_STAT_WFEV] }

def BRG_WFINFO_VALID : Field := { off := 0x80008, hi := 31, lo := 31, acc := .w1c, reset := 0 }
def BRG_WFINFO_CAUSE : Field := { off := 0x80008, hi := 30, lo := 28, acc := .ro, reset := 0 }
def BRG_WFINFO_WIN : Field := { off := 0x80008, hi := 27, lo := 24, acc := .ro, reset := 0 }
def BRG_WFINFO_SLOT : Field := { off := 0x80008, hi := 23, lo := 16, acc := .ro, reset := 0 }
def BRG_WFINFO_COUNT : Field := { off := 0x80008, hi := 15, lo := 0, acc := .ro, reset := 0 }
def reg_BRG_WFINFO : Reg := { off := 0x80008, flds := [BRG_WFINFO_VALID, BRG_WFINFO_CAUSE, BRG_WFINFO_WIN, BRG_WFINFO_SLOT, BRG_WFINFO_COUNT] }

def BRG_WFADDR_LO_ADDR : Field := { off := 0x8000c, hi := 31, lo := 0, acc := .ro, reset := 0 }
def reg_BRG_WFADDR_LO : Reg := { off := 0x8000c, flds := [BRG_WFADDR_LO_ADDR] }

def BRG_WFADDR_HI_ADDR : Field := { off := 0x80010, hi := 31, lo := 0, acc := .ro, reset := 0 }
def reg_BRG_WFADDR_HI : Reg := { off := 0x80010, flds := [BRG_WFADDR_HI_ADDR] }

def BRG_SIGRX_LINES : Field := { off := 0x80014, hi := 31, lo := 0, acc := .w1c, reset := 0 }
def reg_BRG_SIGRX : Reg := { off := 0x80014, flds := [BRG_SIGRX_LINES] }

def BRG_SIGTX_GO : Field := { off := 0x80018, hi := 31, lo := 31, acc := .wo, reset := 0 }
def BRG_SIGTX_WIN : Field := { off := 0x80018, hi := 27, lo := 24, acc := .wo, reset := 0 }
def BRG_SIGTX_LINE : Field := { off := 0x80018, hi := 4, lo := 0, acc := .wo, reset := 0 }
def reg_BRG_SIGTX : Reg := { off := 0x80018, flds := [BRG_SIGTX_GO, BRG_SIGTX_WIN, BRG_SIGTX_LINE] }

def BRG_CNT_COUNT : Field := { off := 0x80040, hi := 31, lo := 0, acc := .ro, reset := 0, str := 0x4 }
def reg_BRG_CNT : Reg := { off := 0x80040, str := 0x4, cnt := 6, flds := [BRG_CNT_COUNT] }

def BRG_CNTCLR_CLR : Field := { off := 0x80060, hi := 5, lo := 0, acc := .wo, reset := 0 }
def reg_BRG_CNTCLR : Reg := { off := 0x80060, flds := [BRG_CNTCLR_CLR] }

def BRG_WCTRL_EN : Field := { off := 0x80100, hi := 31, lo := 31, acc := .rw, reset := 0, str := 0x20 }
def BRG_WCTRL_PREF : Field := { off := 0x80100, hi := 30, lo := 30, acc := .rw, reset := 0, str := 0x20 }
def BRG_WCTRL_SIZE : Field := { off := 0x80100, hi := 25, lo := 20, acc := .rw, reset := 16, ok := [(16, 36)], str := 0x20 }
def BRG_WCTRL_SVC : Field := { off := 0x80100, hi := 6, lo := 0, acc := .rw, reset := 0, str := 0x20 }
def reg_BRG_WCTRL : Reg := { off := 0x80100, str := 0x20, cnt := 16, flds := [BRG_WCTRL_EN, BRG_WCTRL_PREF, BRG_WCTRL_SIZE, BRG_WCTRL_SVC] }

def BRG_BASE_LO_ADDR : Field := { off := 0x80104, hi := 31, lo := 16, acc := .rw, reset := 0, str := 0x20 }
def reg_BRG_BASE_LO : Reg := { off := 0x80104, str := 0x20, cnt := 16, flds := [BRG_BASE_LO_ADDR] }

def BRG_BASE_HI_ADDR : Field := { off := 0x80108, hi := 3, lo := 0, acc := .rw, reset := 0, str := 0x20 }
def reg_BRG_BASE_HI : Reg := { off := 0x80108, str := 0x20, cnt := 16, flds := [BRG_BASE_HI_ADDR] }

def BRG_RADDR_LO_ADDR : Field := { off := 0x8010c, hi := 31, lo := 12, acc := .rw, reset := 0, str := 0x20 }
def reg_BRG_RADDR_LO : Reg := { off := 0x8010c, str := 0x20, cnt := 16, flds := [BRG_RADDR_LO_ADDR] }

def BRG_RADDR_HI_ADDR : Field := { off := 0x80110, hi := 31, lo := 0, acc := .rw, reset := 0, str := 0x20 }
def reg_BRG_RADDR_HI : Reg := { off := 0x80110, str := 0x20, cnt := 16, flds := [BRG_RADDR_HI_ADDR] }

def BRG_TIM_RDTO : Field := { off := 0x80114, hi := 15, lo := 0, acc := .rw, reset := 1000, ok := [(1, 64000)], str := 0x20 }
def reg_BRG_TIM : Reg := { off := 0x80114, str := 0x20, cnt := 16, flds := [BRG_TIM_RDTO] }

/-- The registers of the BRG block. -/
def regsOf_BRG : List Reg :=
  [reg_BRG_CTRL, reg_BRG_STAT, reg_BRG_WFINFO, reg_BRG_WFADDR_LO, reg_BRG_WFADDR_HI, reg_BRG_SIGRX, reg_BRG_SIGTX, reg_BRG_CNT, reg_BRG_CNTCLR, reg_BRG_WCTRL, reg_BRG_BASE_LO, reg_BRG_BASE_HI, reg_BRG_RADDR_LO, reg_BRG_RADDR_HI, reg_BRG_TIM]

/-- The BRG window (R45). -/
def block_BRG : Block := { base := 0x80000, size := 0x10000, lock := some BRG_CTRL_LOCK, regs := regsOf_BRG }

end Sys2Proof.Machine
end

