-- ==== Sys2Proof/Machine/RegsClk.lean ====
section
/-! DEFINITION. The register map of the CLK block: one definition for each field of its register tables in spec/20_power_states.md (R497), and the list of its registers. Window base and size: R45. -/

namespace Sys2Proof.Machine

def CLK_LOCK_LOCK : Field := { off := 0x10000, hi := 0, lo := 0, acc := .w1s, reset := 0 }
def reg_CLK_LOCK : Reg := { off := 0x10000, flds := [CLK_LOCK_LOCK] }

def CLK_STAT_REFOK : Field := { off := 0x10004, hi := 31, lo := 31, acc := .ro, reset := 0 }
def CLK_STAT_SYSLK : Field := { off := 0x10004, hi := 30, lo := 30, acc := .ro, reset := 0 }
def CLK_STAT_TIMELK : Field := { off := 0x10004, hi := 29, lo := 29, acc := .ro, reset := 0 }
def CLK_STAT_LANELK : Field := { off := 0x10004, hi := 28, lo := 28, acc := .ro, reset := 0 }
def CLK_STAT_MEMLK : Field := { off := 0x10004, hi := 27, lo := 27, acc := .ro, reset := 0 }
def CLK_STAT_PCIELK : Field := { off := 0x10004, hi := 26, lo := 26, acc := .ro, reset := 0 }
def CLK_STAT_LOSSEV : Field := { off := 0x10004, hi := 0, lo := 0, acc := .w1c, reset := 0 }
def reg_CLK_STAT : Reg := { off := 0x10004, flds := [CLK_STAT_REFOK, CLK_STAT_SYSLK, CLK_STAT_TIMELK, CLK_STAT_LANELK, CLK_STAT_MEMLK, CLK_STAT_PCIELK, CLK_STAT_LOSSEV] }

def CLK_FREQ_SWMHZ : Field := { off := 0x10008, hi := 19, lo := 10, acc := .ro, reset := 1200 }
def CLK_FREQ_MGMHZ : Field := { off := 0x10008, hi := 9, lo := 0, acc := .ro, reset := 800 }
def reg_CLK_FREQ : Reg := { off := 0x10008, flds := [CLK_FREQ_SWMHZ, CLK_FREQ_MGMHZ] }

/-- The registers of the CLK block. -/
def regsOf_CLK : List Reg :=
  [reg_CLK_LOCK, reg_CLK_STAT, reg_CLK_FREQ]

/-- The CLK window (R45). -/
def block_CLK : Block := { base := 0x10000, size := 0x10000, lock := none, regs := regsOf_CLK }

end Sys2Proof.Machine
end

