-- ==== Sys2Proof/Machine/RegsCyc.lean ====
section
/-! DEFINITION. The register map of the CYC block: one definition for each field of its register tables in spec/04_mains_cycle.md (R118), and the list of its registers. Window base and size: R45. -/

namespace Sys2Proof.Machine

def CYC_CTRL_LOCK : Field := { off := 0xb0000, hi := 31, lo := 31, acc := .w1s, reset := 0 }
def CYC_CTRL_SRC : Field := { off := 0xb0000, hi := 1, lo := 0, acc := .rw, reset := 0, ok := [(0, 2)] }
def reg_CYC_CTRL : Reg := { off := 0xb0000, flds := [CYC_CTRL_LOCK, CYC_CTRL_SRC] }

def CYC_STAT_MVALID : Field := { off := 0xb0004, hi := 31, lo := 31, acc := .ro, reset := 0 }
def CYC_STAT_STATE : Field := { off := 0xb0004, hi := 29, lo := 28, acc := .ro, reset := 0 }
def CYC_STAT_WLATE : Field := { off := 0xb0004, hi := 20, lo := 20, acc := .w1c, reset := 0 }
def CYC_STAT_HOLDEXP : Field := { off := 0xb0004, hi := 19, lo := 19, acc := .w1c, reset := 0 }
def CYC_STAT_LOS : Field := { off := 0xb0004, hi := 18, lo := 18, acc := .w1c, reset := 0 }
def CYC_STAT_STEPPED : Field := { off := 0xb0004, hi := 17, lo := 17, acc := .w1c, reset := 0 }
def CYC_STAT_EVREJ : Field := { off := 0xb0004, hi := 16, lo := 16, acc := .w1c, reset := 0 }
def CYC_STAT_STEPS : Field := { off := 0xb0004, hi := 15, lo := 0, acc := .ro, reset := 0 }
def reg_CYC_STAT : Reg := { off := 0xb0004, flds := [CYC_STAT_MVALID, CYC_STAT_STATE, CYC_STAT_WLATE, CYC_STAT_HOLDEXP, CYC_STAT_LOS, CYC_STAT_STEPPED, CYC_STAT_EVREJ, CYC_STAT_STEPS] }

def CYC_INCR_LO_FRAC : Field := { off := 0xb0008, hi := 31, lo := 0, acc := .rw, reset := 0x1ad7f2a }
def reg_CYC_INCR_LO : Reg := { off := 0xb0008, flds := [CYC_INCR_LO_FRAC] }

def CYC_INCR_HI_INT : Field := { off := 0xb000c, hi := 7, lo := 0, acc := .rw, reset := 0 }
def reg_CYC_INCR_HI : Reg := { off := 0xb000c, flds := [CYC_INCR_HI_INT] }

def CYC_LOOP_LOCKN : Field := { off := 0xb0010, hi := 19, lo := 16, acc := .rw, reset := 4, ok := [(1, 15)] }
def CYC_LOOP_KP : Field := { off := 0xb0010, hi := 11, lo := 8, acc := .rw, reset := 3 }
def CYC_LOOP_AVGN : Field := { off := 0xb0010, hi := 2, lo := 0, acc := .rw, reset := 3, ok := [(0, 4)] }
def reg_CYC_LOOP : Reg := { off := 0xb0010, flds := [CYC_LOOP_LOCKN, CYC_LOOP_KP, CYC_LOOP_AVGN] }

def CYC_THR_STEPTHR : Field := { off := 0xb0014, hi := 31, lo := 16, acc := .rw, reset := 1024, ok := [(1, 32768)] }
def CYC_THR_LOCKTHR : Field := { off := 0xb0014, hi := 15, lo := 0, acc := .rw, reset := 16, ok := [(0, 32767)] }
def reg_CYC_THR : Reg := { off := 0xb0014, flds := [CYC_THR_STEPTHR, CYC_THR_LOCKTHR] }

def CYC_ZC_CFG_EDGE : Field := { off := 0xb0018, hi := 31, lo := 31, acc := .rw, reset := 0 }
def CYC_ZC_CFG_MASK : Field := { off := 0xb0018, hi := 27, lo := 24, acc := .rw, reset := 10, ok := [(1, 12)] }
def CYC_ZC_CFG_TOL : Field := { off := 0xb0018, hi := 23, lo := 16, acc := .rw, reset := 50, ok := [(1, 255)] }
def CYC_ZC_CFG_FILT : Field := { off := 0xb0018, hi := 9, lo := 0, acc := .rw, reset := 50, ok := [(0, 1000)] }
def reg_CYC_ZC_CFG : Reg := { off := 0xb0018, flds := [CYC_ZC_CFG_EDGE, CYC_ZC_CFG_MASK, CYC_ZC_CFG_TOL, CYC_ZC_CFG_FILT] }

def CYC_ZCOFS_OFS : Field := { off := 0xb001c, hi := 31, lo := 0, acc := .rwl, reset := 0 }
def reg_CYC_ZCOFS : Reg := { off := 0xb001c, flds := [CYC_ZCOFS_OFS] }

def CYC_HOLD_HOLDMAX : Field := { off := 0xb0020, hi := 15, lo := 8, acc := .rw, reset := 10, ok := [(1, 255)] }
def CYC_HOLD_LOS : Field := { off := 0xb0020, hi := 7, lo := 0, acc := .rw, reset := 10, ok := [(3, 255)] }
def reg_CYC_HOLD : Reg := { off := 0xb0020, flds := [CYC_HOLD_HOLDMAX, CYC_HOLD_LOS] }

def CYC_ERR_ERR : Field := { off := 0xb0024, hi := 31, lo := 0, acc := .ro, reset := 0 }
def reg_CYC_ERR : Reg := { off := 0xb0024, flds := [CYC_ERR_ERR] }

def CYC_SNAP_LO_PHASE_LO : Field := { off := 0xb0028, hi := 31, lo := 0, acc := .ro, reset := 0 }
def reg_CYC_SNAP_LO : Reg := { off := 0xb0028, flds := [CYC_SNAP_LO_PHASE_LO] }

def CYC_SNAP_HI_CYCLE : Field := { off := 0xb002c, hi := 31, lo := 16, acc := .ro, reset := 0 }
def CYC_SNAP_HI_PHASE_HI : Field := { off := 0xb002c, hi := 15, lo := 0, acc := .ro, reset := 0 }
def reg_CYC_SNAP_HI : Reg := { off := 0xb002c, flds := [CYC_SNAP_HI_CYCLE, CYC_SNAP_HI_PHASE_HI] }

def CYC_BND_SECLO_SEC_LO : Field := { off := 0xb0030, hi := 31, lo := 0, acc := .ro, reset := 0 }
def reg_CYC_BND_SECLO : Reg := { off := 0xb0030, flds := [CYC_BND_SECLO_SEC_LO] }

def CYC_BND_NS_NS : Field := { off := 0xb0034, hi := 31, lo := 0, acc := .ro, reset := 0 }
def reg_CYC_BND_NS : Reg := { off := 0xb0034, flds := [CYC_BND_NS_NS] }

def CYC_BND_FRAC_CYCLE : Field := { off := 0xb0038, hi := 31, lo := 16, acc := .ro, reset := 0 }
def CYC_BND_FRAC_FRAC : Field := { off := 0xb0038, hi := 15, lo := 0, acc := .ro, reset := 0 }
def reg_CYC_BND_FRAC : Reg := { off := 0xb0038, flds := [CYC_BND_FRAC_CYCLE, CYC_BND_FRAC_FRAC] }

def CYC_SV_SECLO_SEC_LO : Field := { off := 0xb0040, hi := 31, lo := 0, acc := .rw, reset := 0 }
def reg_CYC_SV_SECLO : Reg := { off := 0xb0040, flds := [CYC_SV_SECLO_SEC_LO] }

def CYC_SV_NS_NS : Field := { off := 0xb0044, hi := 31, lo := 0, acc := .rw, reset := 0 }
def reg_CYC_SV_NS : Reg := { off := 0xb0044, flds := [CYC_SV_NS_NS] }

def CYC_SV_CMT_STEPCNT : Field := { off := 0xb0048, hi := 31, lo := 16, acc := .wo, reset := 0 }
def CYC_SV_CMT_FRAC : Field := { off := 0xb0048, hi := 15, lo := 0, acc := .wo, reset := 0 }
def reg_CYC_SV_CMT : Reg := { off := 0xb0048, flds := [CYC_SV_CMT_STEPCNT, CYC_SV_CMT_FRAC] }

def CYC_CONV_DONE : Field := { off := 0xb0050, hi := 31, lo := 31, acc := .ro, reset := 0 }
def CYC_CONV_ANG : Field := { off := 0xb0050, hi := 15, lo := 0, acc := .rw, reset := 0 }
def reg_CYC_CONV : Reg := { off := 0xb0050, flds := [CYC_CONV_DONE, CYC_CONV_ANG] }

def CYC_CONV_NS_NS : Field := { off := 0xb0054, hi := 31, lo := 0, acc := .ro, reset := 0 }
def reg_CYC_CONV_NS : Reg := { off := 0xb0054, flds := [CYC_CONV_NS_NS] }

def CYC_CONV_FRAC_FRAC : Field := { off := 0xb0058, hi := 15, lo := 0, acc := .ro, reset := 0 }
def reg_CYC_CONV_FRAC : Reg := { off := 0xb0058, flds := [CYC_CONV_FRAC_FRAC] }

def CYC_CNT_REJ_COUNT : Field := { off := 0xb005c, hi := 31, lo := 0, acc := .cnt, reset := 0 }
def reg_CYC_CNT_REJ : Reg := { off := 0xb005c, flds := [CYC_CNT_REJ_COUNT] }

/-- The registers of the CYC block. -/
def regsOf_CYC : List Reg :=
  [reg_CYC_CTRL, reg_CYC_STAT, reg_CYC_INCR_LO, reg_CYC_INCR_HI, reg_CYC_LOOP, reg_CYC_THR, reg_CYC_ZC_CFG, reg_CYC_ZCOFS, reg_CYC_HOLD, reg_CYC_ERR, reg_CYC_SNAP_LO, reg_CYC_SNAP_HI, reg_CYC_BND_SECLO, reg_CYC_BND_NS, reg_CYC_BND_FRAC, reg_CYC_SV_SECLO, reg_CYC_SV_NS, reg_CYC_SV_CMT, reg_CYC_CONV, reg_CYC_CONV_NS, reg_CYC_CONV_FRAC, reg_CYC_CNT_REJ]

/-- The CYC window (R45). -/
def block_CYC : Block := { base := 0xb0000, size := 0x10000, lock := some CYC_CTRL_LOCK, regs := regsOf_CYC }

end Sys2Proof.Machine
end

