-- ==== Sys2Proof/Machine/RegsDma.lean ====
section
/-! DEFINITION. The register map of the DMA block: one definition for each field of its register tables in spec/15_bridge_dma.md (R400), and the list of its registers. Window base and size: R45. -/

namespace Sys2Proof.Machine

def DMA_CTRL_LOCK : Field := { off := 0x90000, hi := 31, lo := 31, acc := .w1s, reset := 0 }
def reg_DMA_CTRL : Reg := { off := 0x90000, flds := [DMA_CTRL_LOCK] }

def DMA_CNT_COUNT : Field := { off := 0x90040, hi := 31, lo := 0, acc := .ro, reset := 0, str := 0x4 }
def reg_DMA_CNT : Reg := { off := 0x90040, str := 0x4, cnt := 4, flds := [DMA_CNT_COUNT] }

def DMA_CNTCLR_CLR : Field := { off := 0x90060, hi := 3, lo := 0, acc := .wo, reset := 0 }
def reg_DMA_CNTCLR : Reg := { off := 0x90060, flds := [DMA_CNTCLR_CLR] }

def DMC_CTRL_EN : Field := { off := 0x91000, hi := 31, lo := 31, acc := .rw, reset := 0, str := 0x100 }
def DMC_CTRL_RING : Field := { off := 0x91000, hi := 30, lo := 30, acc := .rwl, reset := 0, str := 0x100 }
def DMC_CTRL_RESUME : Field := { off := 0x91000, hi := 29, lo := 29, acc := .wo, reset := 0, str := 0x100 }
def reg_DMC_CTRL : Reg := { off := 0x91000, str := 0x100, cnt := 32, flds := [DMC_CTRL_EN, DMC_CTRL_RING, DMC_CTRL_RESUME] }

def DMC_STAT_STATE : Field := { off := 0x91004, hi := 31, lo := 29, acc := .ro, reset := 0, str := 0x100 }
def DMC_STAT_SHVALID : Field := { off := 0x91004, hi := 28, lo := 28, acc := .ro, reset := 0, str := 0x100 }
def DMC_STAT_DONEEV : Field := { off := 0x91004, hi := 27, lo := 27, acc := .w1c, reset := 0, str := 0x100 }
def DMC_STAT_HALTEV : Field := { off := 0x91004, hi := 26, lo := 26, acc := .w1c, reset := 0, str := 0x100 }
def DMC_STAT_LATEWR : Field := { off := 0x91004, hi := 25, lo := 25, acc := .w1c, reset := 0, str := 0x100 }
def DMC_STAT_LATE : Field := { off := 0x91004, hi := 24, lo := 24, acc := .w1c, reset := 0, str := 0x100 }
def DMC_STAT_CODE : Field := { off := 0x91004, hi := 7, lo := 0, acc := .ro, reset := 0, str := 0x100 }
def reg_DMC_STAT : Reg := { off := 0x91004, str := 0x100, cnt := 32, flds := [DMC_STAT_STATE, DMC_STAT_SHVALID, DMC_STAT_DONEEV, DMC_STAT_HALTEV, DMC_STAT_LATEWR, DMC_STAT_LATE, DMC_STAT_CODE] }

def DMC_DONE_BYTES : Field := { off := 0x91008, hi := 31, lo := 0, acc := .ro, reset := 0, str := 0x100 }
def reg_DMC_DONE : Reg := { off := 0x91008, str := 0x100, cnt := 32, flds := [DMC_DONE_BYTES] }

def DMC_FINFO_DIR : Field := { off := 0x9100c, hi := 31, lo := 31, acc := .ro, reset := 0, str := 0x100 }
def DMC_FINFO_SIDE : Field := { off := 0x9100c, hi := 30, lo := 30, acc := .ro, reset := 0, str := 0x100 }
def DMC_FINFO_SPACE : Field := { off := 0x9100c, hi := 29, lo := 28, acc := .ro, reset := 0, str := 0x100 }
def DMC_FINFO_CAUSE : Field := { off := 0x9100c, hi := 27, lo := 25, acc := .ro, reset := 0, str := 0x100 }
def reg_DMC_FINFO : Reg := { off := 0x9100c, str := 0x100, cnt := 32, flds := [DMC_FINFO_DIR, DMC_FINFO_SIDE, DMC_FINFO_SPACE, DMC_FINFO_CAUSE] }

def DMC_FADDR_LO_ADDR : Field := { off := 0x91010, hi := 31, lo := 0, acc := .ro, reset := 0, str := 0x100 }
def reg_DMC_FADDR_LO : Reg := { off := 0x91010, str := 0x100, cnt := 32, flds := [DMC_FADDR_LO_ADDR] }

def DMC_FADDR_HI_ADDR : Field := { off := 0x91014, hi := 31, lo := 0, acc := .ro, reset := 0, str := 0x100 }
def reg_DMC_FADDR_HI : Reg := { off := 0x91014, str := 0x100, cnt := 32, flds := [DMC_FADDR_HI_ADDR] }

def DMS_SRC_LO_ADDR : Field := { off := 0x91020, hi := 31, lo := 0, acc := .rw, reset := 0, str := 0x100 }
def reg_DMS_SRC_LO : Reg := { off := 0x91020, str := 0x100, cnt := 32, flds := [DMS_SRC_LO_ADDR] }

def DMS_SRC_HI_ADDR : Field := { off := 0x91024, hi := 31, lo := 0, acc := .rw, reset := 0, str := 0x100 }
def reg_DMS_SRC_HI : Reg := { off := 0x91024, str := 0x100, cnt := 32, flds := [DMS_SRC_HI_ADDR] }

def DMS_DST_LO_ADDR : Field := { off := 0x91028, hi := 31, lo := 0, acc := .rw, reset := 0, str := 0x100 }
def reg_DMS_DST_LO : Reg := { off := 0x91028, str := 0x100, cnt := 32, flds := [DMS_DST_LO_ADDR] }

def DMS_DST_HI_ADDR : Field := { off := 0x9102c, hi := 31, lo := 0, acc := .rw, reset := 0, str := 0x100 }
def reg_DMS_DST_HI : Reg := { off := 0x9102c, str := 0x100, cnt := 32, flds := [DMS_DST_HI_ADDR] }

def DMS_SGEOM_LINES : Field := { off := 0x91030, hi := 31, lo := 16, acc := .rw, reset := 0, str := 0x100 }
def DMS_SGEOM_LINE : Field := { off := 0x91030, hi := 15, lo := 0, acc := .rw, reset := 0, str := 0x100 }
def reg_DMS_SGEOM : Reg := { off := 0x91030, str := 0x100, cnt := 32, flds := [DMS_SGEOM_LINES, DMS_SGEOM_LINE] }

def DMS_SSTRIDE_STRIDE : Field := { off := 0x91034, hi := 31, lo := 0, acc := .rw, reset := 0, str := 0x100 }
def reg_DMS_SSTRIDE : Reg := { off := 0x91034, str := 0x100, cnt := 32, flds := [DMS_SSTRIDE_STRIDE] }

def DMS_DGEOM_LINES : Field := { off := 0x91038, hi := 31, lo := 16, acc := .rw, reset := 0, str := 0x100 }
def DMS_DGEOM_LINE : Field := { off := 0x91038, hi := 15, lo := 0, acc := .rw, reset := 0, str := 0x100 }
def reg_DMS_DGEOM : Reg := { off := 0x91038, str := 0x100, cnt := 32, flds := [DMS_DGEOM_LINES, DMS_DGEOM_LINE] }

def DMS_DSTRIDE_STRIDE : Field := { off := 0x9103c, hi := 31, lo := 0, acc := .rw, reset := 0, str := 0x100 }
def reg_DMS_DSTRIDE : Reg := { off := 0x9103c, str := 0x100, cnt := 32, flds := [DMS_DSTRIDE_STRIDE] }

def DMS_OPW_IRQ : Field := { off := 0x91040, hi := 31, lo := 31, acc := .rw, reset := 0, str := 0x100 }
def DMS_OPW_AT : Field := { off := 0x91040, hi := 30, lo := 30, acc := .rw, reset := 0, str := 0x100 }
def DMS_OPW_OP : Field := { off := 0x91040, hi := 29, lo := 28, acc := .rw, reset := 0, str := 0x100 }
def DMS_OPW_SSPACE : Field := { off := 0x91040, hi := 27, lo := 26, acc := .rw, reset := 0, str := 0x100 }
def DMS_OPW_DSPACE : Field := { off := 0x91040, hi := 25, lo := 24, acc := .rw, reset := 0, str := 0x100 }
def reg_DMS_OPW : Reg := { off := 0x91040, str := 0x100, cnt := 32, flds := [DMS_OPW_IRQ, DMS_OPW_AT, DMS_OPW_OP, DMS_OPW_SSPACE, DMS_OPW_DSPACE] }

def DMS_AT_SECLO_SEC_LO : Field := { off := 0x91044, hi := 31, lo := 0, acc := .rw, reset := 0, str := 0x100 }
def reg_DMS_AT_SECLO : Reg := { off := 0x91044, str := 0x100, cnt := 32, flds := [DMS_AT_SECLO_SEC_LO] }

def DMS_AT_NS_NS : Field := { off := 0x91048, hi := 31, lo := 0, acc := .rw, reset := 0, str := 0x100 }
def reg_DMS_AT_NS : Reg := { off := 0x91048, str := 0x100, cnt := 32, flds := [DMS_AT_NS_NS] }

def DMS_SHCTRL_VALID : Field := { off := 0x9104c, hi := 31, lo := 31, acc := .rw, reset := 0, str := 0x100 }
def reg_DMS_SHCTRL : Reg := { off := 0x9104c, str := 0x100, cnt := 32, flds := [DMS_SHCTRL_VALID] }

def DMX_SRC_LO_ADDR : Field := { off := 0x91060, hi := 31, lo := 0, acc := .ro, reset := 0, str := 0x100 }
def reg_DMX_SRC_LO : Reg := { off := 0x91060, str := 0x100, cnt := 32, flds := [DMX_SRC_LO_ADDR] }

def DMX_SRC_HI_ADDR : Field := { off := 0x91064, hi := 31, lo := 0, acc := .ro, reset := 0, str := 0x100 }
def reg_DMX_SRC_HI : Reg := { off := 0x91064, str := 0x100, cnt := 32, flds := [DMX_SRC_HI_ADDR] }

def DMX_DST_LO_ADDR : Field := { off := 0x91068, hi := 31, lo := 0, acc := .ro, reset := 0, str := 0x100 }
def reg_DMX_DST_LO : Reg := { off := 0x91068, str := 0x100, cnt := 32, flds := [DMX_DST_LO_ADDR] }

def DMX_DST_HI_ADDR : Field := { off := 0x9106c, hi := 31, lo := 0, acc := .ro, reset := 0, str := 0x100 }
def reg_DMX_DST_HI : Reg := { off := 0x9106c, str := 0x100, cnt := 32, flds := [DMX_DST_HI_ADDR] }

def DMX_SGEOM_LINES : Field := { off := 0x91070, hi := 31, lo := 16, acc := .ro, reset := 0, str := 0x100 }
def DMX_SGEOM_LINE : Field := { off := 0x91070, hi := 15, lo := 0, acc := .ro, reset := 0, str := 0x100 }
def reg_DMX_SGEOM : Reg := { off := 0x91070, str := 0x100, cnt := 32, flds := [DMX_SGEOM_LINES, DMX_SGEOM_LINE] }

def DMX_SSTRIDE_STRIDE : Field := { off := 0x91074, hi := 31, lo := 0, acc := .ro, reset := 0, str := 0x100 }
def reg_DMX_SSTRIDE : Reg := { off := 0x91074, str := 0x100, cnt := 32, flds := [DMX_SSTRIDE_STRIDE] }

def DMX_DGEOM_LINES : Field := { off := 0x91078, hi := 31, lo := 16, acc := .ro, reset := 0, str := 0x100 }
def DMX_DGEOM_LINE : Field := { off := 0x91078, hi := 15, lo := 0, acc := .ro, reset := 0, str := 0x100 }
def reg_DMX_DGEOM : Reg := { off := 0x91078, str := 0x100, cnt := 32, flds := [DMX_DGEOM_LINES, DMX_DGEOM_LINE] }

def DMX_DSTRIDE_STRIDE : Field := { off := 0x9107c, hi := 31, lo := 0, acc := .ro, reset := 0, str := 0x100 }
def reg_DMX_DSTRIDE : Reg := { off := 0x9107c, str := 0x100, cnt := 32, flds := [DMX_DSTRIDE_STRIDE] }

def DMX_OPW_IRQ : Field := { off := 0x91080, hi := 31, lo := 31, acc := .ro, reset := 0, str := 0x100 }
def DMX_OPW_AT : Field := { off := 0x91080, hi := 30, lo := 30, acc := .ro, reset := 0, str := 0x100 }
def DMX_OPW_OP : Field := { off := 0x91080, hi := 29, lo := 28, acc := .ro, reset := 0, str := 0x100 }
def DMX_OPW_SSPACE : Field := { off := 0x91080, hi := 27, lo := 26, acc := .ro, reset := 0, str := 0x100 }
def DMX_OPW_DSPACE : Field := { off := 0x91080, hi := 25, lo := 24, acc := .ro, reset := 0, str := 0x100 }
def reg_DMX_OPW : Reg := { off := 0x91080, str := 0x100, cnt := 32, flds := [DMX_OPW_IRQ, DMX_OPW_AT, DMX_OPW_OP, DMX_OPW_SSPACE, DMX_OPW_DSPACE] }

def DMX_AT_SECLO_SEC_LO : Field := { off := 0x91084, hi := 31, lo := 0, acc := .ro, reset := 0, str := 0x100 }
def reg_DMX_AT_SECLO : Reg := { off := 0x91084, str := 0x100, cnt := 32, flds := [DMX_AT_SECLO_SEC_LO] }

def DMX_AT_NS_NS : Field := { off := 0x91088, hi := 31, lo := 0, acc := .ro, reset := 0, str := 0x100 }
def reg_DMX_AT_NS : Reg := { off := 0x91088, str := 0x100, cnt := 32, flds := [DMX_AT_NS_NS] }

/-- The registers of the DMA block. -/
def regsOf_DMA : List Reg :=
  [reg_DMA_CTRL, reg_DMA_CNT, reg_DMA_CNTCLR, reg_DMC_CTRL, reg_DMC_STAT, reg_DMC_DONE, reg_DMC_FINFO, reg_DMC_FADDR_LO, reg_DMC_FADDR_HI, reg_DMS_SRC_LO, reg_DMS_SRC_HI, reg_DMS_DST_LO, reg_DMS_DST_HI, reg_DMS_SGEOM, reg_DMS_SSTRIDE, reg_DMS_DGEOM, reg_DMS_DSTRIDE, reg_DMS_OPW, reg_DMS_AT_SECLO, reg_DMS_AT_NS, reg_DMS_SHCTRL, reg_DMX_SRC_LO, reg_DMX_SRC_HI, reg_DMX_DST_LO] ++
    [reg_DMX_DST_HI, reg_DMX_SGEOM, reg_DMX_SSTRIDE, reg_DMX_DGEOM, reg_DMX_DSTRIDE, reg_DMX_OPW, reg_DMX_AT_SECLO, reg_DMX_AT_NS]

/-- The DMA window (R45). -/
def block_DMA : Block := { base := 0x90000, size := 0x10000, lock := some DMA_CTRL_LOCK, regs := regsOf_DMA }

end Sys2Proof.Machine
end

