-- ==== Sys2Proof/Machine/RegsDrc.lean ====
section
/-! DEFINITION. The register map of the DRC block: one definition for each field of its register tables in spec/15_bridge_dma.md (R401), and the list of its registers. Window base and size: R45. -/

namespace Sys2Proof.Machine

def DRC_CTRL_LOCK : Field := { off := 0x230000, hi := 31, lo := 31, acc := .w1s, reset := 0 }
def DRC_CTRL_SCRUB : Field := { off := 0x230000, hi := 30, lo := 30, acc := .rw, reset := 1 }
def DRC_CTRL_DEVSZ : Field := { off := 0x230000, hi := 2, lo := 0, acc := .rwl, reset := 0, ok := [(0, 4)] }
def reg_DRC_CTRL : Reg := { off := 0x230000, flds := [DRC_CTRL_LOCK, DRC_CTRL_SCRUB, DRC_CTRL_DEVSZ] }

def DRC_STAT_READY : Field := { off := 0x230004, hi := 31, lo := 31, acc := .ro, reset := 0 }
def DRC_STAT_UNCEV : Field := { off := 0x230004, hi := 30, lo := 30, acc := .w1c, reset := 0 }
def reg_DRC_STAT : Reg := { off := 0x230004, flds := [DRC_STAT_READY, DRC_STAT_UNCEV] }

def DRC_ECCADDR_LO_ADDR : Field := { off := 0x230008, hi := 31, lo := 6, acc := .ro, reset := 0 }
def reg_DRC_ECCADDR_LO : Reg := { off := 0x230008, flds := [DRC_ECCADDR_LO_ADDR] }

def DRC_ECCADDR_HI_ADDR : Field := { off := 0x23000c, hi := 31, lo := 0, acc := .ro, reset := 0 }
def reg_DRC_ECCADDR_HI : Reg := { off := 0x23000c, flds := [DRC_ECCADDR_HI_ADDR] }

def DRC_CNT_COUNT : Field := { off := 0x230040, hi := 31, lo := 0, acc := .ro, reset := 0, str := 0x4 }
def reg_DRC_CNT : Reg := { off := 0x230040, str := 0x4, cnt := 4, flds := [DRC_CNT_COUNT] }

def DRC_CNTCLR_CLR : Field := { off := 0x230060, hi := 3, lo := 0, acc := .wo, reset := 0 }
def reg_DRC_CNTCLR : Reg := { off := 0x230060, flds := [DRC_CNTCLR_CLR] }

/-- The registers of the DRC block. -/
def regsOf_DRC : List Reg :=
  [reg_DRC_CTRL, reg_DRC_STAT, reg_DRC_ECCADDR_LO, reg_DRC_ECCADDR_HI, reg_DRC_CNT, reg_DRC_CNTCLR]

/-- The DRC window (R45). -/
def block_DRC : Block := { base := 0x230000, size := 0x10000, lock := some DRC_CTRL_LOCK, regs := regsOf_DRC }

end Sys2Proof.Machine
end

