-- ==== Sys2Proof/Machine/RegsDsp.lean ====
section
/-! DEFINITION. The register map of the DSP block: one definition for each field of its register tables in spec/11_display_tunnels.md (R293), and the list of its registers. Window base and size: R45. -/

namespace Sys2Proof.Machine

def DSP_CTRL_LOCK : Field := { off := 0x1e0000, hi := 31, lo := 31, acc := .w1s, reset := 0 }
def reg_DSP_CTRL : Reg := { off := 0x1e0000, flds := [DSP_CTRL_LOCK] }

def HD_CTRL_EN : Field := { off := 0x1e1000, hi := 31, lo := 31, acc := .rw, reset := 0, str := 0x1000 }
def HD_CTRL_OUT : Field := { off := 0x1e1000, hi := 30, lo := 30, acc := .rwl, reset := 0, str := 0x1000 }
def HD_CTRL_CMD : Field := { off := 0x1e1000, hi := 29, lo := 29, acc := .rwl, reset := 0, str := 0x1000 }
def HD_CTRL_LOCK : Field := { off := 0x1e1000, hi := 28, lo := 28, acc := .rw, reset := 0, str := 0x1000 }
def HD_CTRL_WIN : Field := { off := 0x1e1000, hi := 21, lo := 16, acc := .rw, reset := 2, str := 0x1000 }
def reg_HD_CTRL : Reg := { off := 0x1e1000, str := 0x1000, cnt := 2, flds := [HD_CTRL_EN, HD_CTRL_OUT, HD_CTRL_CMD, HD_CTRL_LOCK, HD_CTRL_WIN] }

def HD_STAT_STATE : Field := { off := 0x1e1004, hi := 31, lo := 29, acc := .ro, reset := 0, str := 0x1000 }
def HD_STAT_CFGERR : Field := { off := 0x1e1004, hi := 28, lo := 26, acc := .ro, reset := 0, str := 0x1000 }
def HD_STAT_LOCKED : Field := { off := 0x1e1004, hi := 25, lo := 25, acc := .ro, reset := 0, str := 0x1000 }
def HD_STAT_TEVALID : Field := { off := 0x1e1004, hi := 24, lo := 24, acc := .ro, reset := 0, str := 0x1000 }
def HD_STAT_FLIPEV : Field := { off := 0x1e1004, hi := 21, lo := 21, acc := .w1c, reset := 0, str := 0x1000 }
def HD_STAT_CMTREJ : Field := { off := 0x1e1004, hi := 20, lo := 20, acc := .w1c, reset := 0, str := 0x1000 }
def HD_STAT_WLATE : Field := { off := 0x1e1004, hi := 19, lo := 19, acc := .w1c, reset := 0, str := 0x1000 }
def HD_STAT_LATE : Field := { off := 0x1e1004, hi := 18, lo := 18, acc := .w1c, reset := 0, str := 0x1000 }
def HD_STAT_LOCKLOST : Field := { off := 0x1e1004, hi := 17, lo := 17, acc := .w1c, reset := 0, str := 0x1000 }
def HD_STAT_CFGREJ : Field := { off := 0x1e1004, hi := 16, lo := 16, acc := .w1c, reset := 0, str := 0x1000 }
def reg_HD_STAT : Reg := { off := 0x1e1004, str := 0x1000, cnt := 2, flds := [HD_STAT_STATE, HD_STAT_CFGERR, HD_STAT_LOCKED, HD_STAT_TEVALID, HD_STAT_FLIPEV, HD_STAT_CMTREJ, HD_STAT_WLATE, HD_STAT_LATE, HD_STAT_LOCKLOST, HD_STAT_CFGREJ] }

def HD_HTIM0_HACTIVE : Field := { off := 0x1e1008, hi := 28, lo := 16, acc := .rwl, reset := 1920, str := 0x1000 }
def HD_HTIM0_HFP : Field := { off := 0x1e1008, hi := 9, lo := 0, acc := .rwl, reset := 48, str := 0x1000 }
def reg_HD_HTIM0 : Reg := { off := 0x1e1008, str := 0x1000, cnt := 2, flds := [HD_HTIM0_HACTIVE, HD_HTIM0_HFP] }

def HD_HTIM1_HSYNC : Field := { off := 0x1e100c, hi := 25, lo := 16, acc := .rwl, reset := 32, str := 0x1000 }
def HD_HTIM1_HBP : Field := { off := 0x1e100c, hi := 9, lo := 0, acc := .rwl, reset := 80, str := 0x1000 }
def reg_HD_HTIM1 : Reg := { off := 0x1e100c, str := 0x1000, cnt := 2, flds := [HD_HTIM1_HSYNC, HD_HTIM1_HBP] }

def HD_VTIM0_VACTIVE : Field := { off := 0x1e1010, hi := 27, lo := 16, acc := .rwl, reset := 1200, str := 0x1000 }
def HD_VTIM0_VFP : Field := { off := 0x1e1010, hi := 7, lo := 0, acc := .rwl, reset := 3, str := 0x1000 }
def reg_HD_VTIM0 : Reg := { off := 0x1e1010, str := 0x1000, cnt := 2, flds := [HD_VTIM0_VACTIVE, HD_VTIM0_VFP] }

def HD_VTIM1_VSYNC : Field := { off := 0x1e1014, hi := 21, lo := 16, acc := .rwl, reset := 6, str := 0x1000 }
def HD_VTIM1_VBP : Field := { off := 0x1e1014, hi := 7, lo := 0, acc := .rwl, reset := 26, str := 0x1000 }
def reg_HD_VTIM1 : Reg := { off := 0x1e1014, str := 0x1000, cnt := 2, flds := [HD_VTIM1_VSYNC, HD_VTIM1_VBP] }

def HD_PCLK_PCLK : Field := { off := 0x1e1018, hi := 18, lo := 0, acc := .rwl, reset := 0x25990, str := 0x1000 }
def reg_HD_PCLK : Reg := { off := 0x1e1018, str := 0x1000, cnt := 2, flds := [HD_PCLK_PCLK] }

def HD_LINK_DSIRATE : Field := { off := 0x1e101c, hi := 31, lo := 24, acc := .rwl, reset := 100, ok := [(8, 250)], str := 0x1000 }
def HD_LINK_DPRATE : Field := { off := 0x1e101c, hi := 23, lo := 22, acc := .ro, reset := 0, str := 0x1000 }
def HD_LINK_DPLANES : Field := { off := 0x1e101c, hi := 21, lo := 20, acc := .ro, reset := 0, str := 0x1000 }
def HD_LINK_HPD : Field := { off := 0x1e101c, hi := 19, lo := 19, acc := .ro, reset := 0, str := 0x1000 }
def reg_HD_LINK : Reg := { off := 0x1e101c, str := 0x1000, cnt := 2, flds := [HD_LINK_DSIRATE, HD_LINK_DPRATE, HD_LINK_DPLANES, HD_LINK_HPD] }

def HD_BG_RGB : Field := { off := 0x1e1020, hi := 23, lo := 0, acc := .rw, reset := 0, str := 0x1000 }
def reg_HD_BG : Reg := { off := 0x1e1020, str := 0x1000, cnt := 2, flds := [HD_BG_RGB] }

def HD_COMMIT_GO : Field := { off := 0x1e1024, hi := 31, lo := 31, acc := .wo, reset := 0, str := 0x1000 }
def HD_COMMIT_BGPEND : Field := { off := 0x1e1024, hi := 30, lo := 30, acc := .ro, reset := 0, str := 0x1000 }
def HD_COMMIT_TGT : Field := { off := 0x1e1024, hi := 29, lo := 29, acc := .wo, reset := 0, str := 0x1000 }
def HD_COMMIT_BG : Field := { off := 0x1e1024, hi := 28, lo := 28, acc := .wo, reset := 0, str := 0x1000 }
def HD_COMMIT_FLIP : Field := { off := 0x1e1024, hi := 23, lo := 20, acc := .wo, reset := 0, str := 0x1000 }
def HD_COMMIT_LMASK : Field := { off := 0x1e1024, hi := 19, lo := 16, acc := .wo, reset := 0, str := 0x1000 }
def HD_COMMIT_CODE : Field := { off := 0x1e1024, hi := 3, lo := 0, acc := .ro, reset := 0, str := 0x1000 }
def reg_HD_COMMIT : Reg := { off := 0x1e1024, str := 0x1000, cnt := 2, flds := [HD_COMMIT_GO, HD_COMMIT_BGPEND, HD_COMMIT_TGT, HD_COMMIT_BG, HD_COMMIT_FLIP, HD_COMMIT_LMASK, HD_COMMIT_CODE] }

def HD_CTGT_TARGET : Field := { off := 0x1e1028, hi := 31, lo := 0, acc := .rw, reset := 0, str := 0x1000 }
def reg_HD_CTGT : Reg := { off := 0x1e1028, str := 0x1000, cnt := 2, flds := [HD_CTGT_TARGET] }

def HD_FCOUNT_FRAME : Field := { off := 0x1e102c, hi := 31, lo := 0, acc := .ro, reset := 0, str := 0x1000 }
def reg_HD_FCOUNT : Reg := { off := 0x1e102c, str := 0x1000, cnt := 2, flds := [HD_FCOUNT_FRAME] }

def HD_FLIP_SECHI_SEC_HI : Field := { off := 0x1e1030, hi := 15, lo := 0, acc := .ro, reset := 0, str := 0x1000 }
def reg_HD_FLIP_SECHI : Reg := { off := 0x1e1030, str := 0x1000, cnt := 2, flds := [HD_FLIP_SECHI_SEC_HI] }

def HD_FLIP_SECLO_SEC_LO : Field := { off := 0x1e1034, hi := 31, lo := 0, acc := .ro, reset := 0, str := 0x1000 }
def reg_HD_FLIP_SECLO : Reg := { off := 0x1e1034, str := 0x1000, cnt := 2, flds := [HD_FLIP_SECLO_SEC_LO] }

def HD_FLIP_NS_NS : Field := { off := 0x1e1038, hi := 31, lo := 0, acc := .ro, reset := 0, str := 0x1000 }
def reg_HD_FLIP_NS : Reg := { off := 0x1e1038, str := 0x1000, cnt := 2, flds := [HD_FLIP_NS_NS] }

def HD_FLIP_FRAME_FRAME : Field := { off := 0x1e103c, hi := 31, lo := 0, acc := .ro, reset := 0, str := 0x1000 }
def reg_HD_FLIP_FRAME : Reg := { off := 0x1e103c, str := 0x1000, cnt := 2, flds := [HD_FLIP_FRAME_FRAME] }

def HD_BASE_SECHI_SEC_HI : Field := { off := 0x1e1040, hi := 15, lo := 0, acc := .rw, reset := 0, str := 0x1000 }
def reg_HD_BASE_SECHI : Reg := { off := 0x1e1040, str := 0x1000, cnt := 2, flds := [HD_BASE_SECHI_SEC_HI] }

def HD_BASE_SECLO_SEC_LO : Field := { off := 0x1e1044, hi := 31, lo := 0, acc := .rw, reset := 0, str := 0x1000 }
def reg_HD_BASE_SECLO : Reg := { off := 0x1e1044, str := 0x1000, cnt := 2, flds := [HD_BASE_SECLO_SEC_LO] }

def HD_BASE_NS_NS : Field := { off := 0x1e1048, hi := 31, lo := 0, acc := .rw, reset := 0, str := 0x1000 }
def reg_HD_BASE_NS : Reg := { off := 0x1e1048, str := 0x1000, cnt := 2, flds := [HD_BASE_NS_NS] }

def HD_PERIOD_NS_NS : Field := { off := 0x1e104c, hi := 31, lo := 0, acc := .rw, reset := 0xfe502a, ok := [(8000000, 50000000)], str := 0x1000 }
def reg_HD_PERIOD_NS : Reg := { off := 0x1e104c, str := 0x1000, cnt := 2, flds := [HD_PERIOD_NS_NS] }

def HD_PERIOD_FRAC_FRAC : Field := { off := 0x1e1050, hi := 15, lo := 0, acc := .rw, reset := 0xaaaa, str := 0x1000 }
def reg_HD_PERIOD_FRAC : Reg := { off := 0x1e1050, str := 0x1000, cnt := 2, flds := [HD_PERIOD_FRAC_FRAC] }

def HD_LOCKCFG_HOLDMAX : Field := { off := 0x1e1054, hi := 7, lo := 0, acc := .rw, reset := 8, ok := [(1, 255)], str := 0x1000 }
def reg_HD_LOCKCFG : Reg := { off := 0x1e1054, str := 0x1000, cnt := 2, flds := [HD_LOCKCFG_HOLDMAX] }

def HD_TE_EDGE : Field := { off := 0x1e1058, hi := 30, lo := 30, acc := .rw, reset := 0, str := 0x1000 }
def HD_TE_FILT : Field := { off := 0x1e1058, hi := 29, lo := 24, acc := .rw, reset := 2, str := 0x1000 }
def HD_TE_TETO : Field := { off := 0x1e1058, hi := 7, lo := 0, acc := .rw, reset := 10, ok := [(2, 100)], str := 0x1000 }
def reg_HD_TE : Reg := { off := 0x1e1058, str := 0x1000, cnt := 2, flds := [HD_TE_EDGE, HD_TE_FILT, HD_TE_TETO] }

def HD_CNT_COUNT : Field := { off := 0x1e1060, hi := 31, lo := 0, acc := .ro, reset := 0, str := 0x1000, str2 := 0x4 }
def reg_HD_CNT : Reg := { off := 0x1e1060, str := 0x1000, cnt := 2, str2 := 0x4, cnt2 := 6, flds := [HD_CNT_COUNT] }

def HD_CNTCLR_CLR : Field := { off := 0x1e107c, hi := 5, lo := 0, acc := .wo, reset := 0, str := 0x1000 }
def reg_HD_CNTCLR : Reg := { off := 0x1e107c, str := 0x1000, cnt := 2, flds := [HD_CNTCLR_CLR] }

def LY_CTRL_EN : Field := { off := 0x1e1100, hi := 31, lo := 31, acc := .rw, reset := 0, str := 0x1000, str2 := 0x40 }
def LY_CTRL_OWNER : Field := { off := 0x1e1100, hi := 30, lo := 30, acc := .rwl, reset := 0, str := 0x1000, str2 := 0x40 }
def LY_CTRL_DEPTH : Field := { off := 0x1e1100, hi := 29, lo := 28, acc := .rw, reset := 3, str := 0x1000, str2 := 0x40 }
def reg_LY_CTRL : Reg := { off := 0x1e1100, str := 0x1000, cnt := 2, str2 := 0x40, cnt2 := 4, flds := [LY_CTRL_EN, LY_CTRL_OWNER, LY_CTRL_DEPTH] }

def LY_STAT_ACTEN : Field := { off := 0x1e1104, hi := 31, lo := 31, acc := .ro, reset := 0, str := 0x1000, str2 := 0x40 }
def LY_STAT_FRONT : Field := { off := 0x1e1104, hi := 30, lo := 30, acc := .ro, reset := 0, str := 0x1000, str2 := 0x40 }
def LY_STAT_OPQ : Field := { off := 0x1e1104, hi := 29, lo := 29, acc := .ro, reset := 0, str := 0x1000, str2 := 0x40 }
def LY_STAT_PEND : Field := { off := 0x1e1104, hi := 28, lo := 28, acc := .ro, reset := 0, str := 0x1000, str2 := 0x40 }
def LY_STAT_TPEND : Field := { off := 0x1e1104, hi := 27, lo := 27, acc := .ro, reset := 0, str := 0x1000, str2 := 0x40 }
def reg_LY_STAT : Reg := { off := 0x1e1104, str := 0x1000, cnt := 2, str2 := 0x40, cnt2 := 4, flds := [LY_STAT_ACTEN, LY_STAT_FRONT, LY_STAT_OPQ, LY_STAT_PEND, LY_STAT_TPEND] }

def LY_SURF0_LO_ADDR : Field := { off := 0x1e1108, hi := 31, lo := 6, acc := .rw, reset := 0, str := 0x1000, str2 := 0x40 }
def reg_LY_SURF0_LO : Reg := { off := 0x1e1108, str := 0x1000, cnt := 2, str2 := 0x40, cnt2 := 4, flds := [LY_SURF0_LO_ADDR] }

def LY_SURF0_HI_ADDR : Field := { off := 0x1e110c, hi := 31, lo := 0, acc := .rw, reset := 0, str := 0x1000, str2 := 0x40 }
def reg_LY_SURF0_HI : Reg := { off := 0x1e110c, str := 0x1000, cnt := 2, str2 := 0x40, cnt2 := 4, flds := [LY_SURF0_HI_ADDR] }

def LY_SURF1_LO_ADDR : Field := { off := 0x1e1110, hi := 31, lo := 6, acc := .rw, reset := 0, str := 0x1000, str2 := 0x40 }
def reg_LY_SURF1_LO : Reg := { off := 0x1e1110, str := 0x1000, cnt := 2, str2 := 0x40, cnt2 := 4, flds := [LY_SURF1_LO_ADDR] }

def LY_SURF1_HI_ADDR : Field := { off := 0x1e1114, hi := 31, lo := 0, acc := .rw, reset := 0, str := 0x1000, str2 := 0x40 }
def reg_LY_SURF1_HI : Reg := { off := 0x1e1114, str := 0x1000, cnt := 2, str2 := 0x40, cnt2 := 4, flds := [LY_SURF1_HI_ADDR] }

def LY_STRIDE_STRIDE : Field := { off := 0x1e1118, hi := 6, lo := 0, acc := .rw, reset := 30, str := 0x1000, str2 := 0x40 }
def reg_LY_STRIDE : Reg := { off := 0x1e1118, str := 0x1000, cnt := 2, str2 := 0x40, cnt2 := 4, flds := [LY_STRIDE_STRIDE] }

def LY_SIZE_W : Field := { off := 0x1e111c, hi := 28, lo := 16, acc := .rw, reset := 1920, str := 0x1000, str2 := 0x40 }
def LY_SIZE_H : Field := { off := 0x1e111c, hi := 12, lo := 0, acc := .rw, reset := 1200, str := 0x1000, str2 := 0x40 }
def reg_LY_SIZE : Reg := { off := 0x1e111c, str := 0x1000, cnt := 2, str2 := 0x40, cnt2 := 4, flds := [LY_SIZE_W, LY_SIZE_H] }

def LY_POS_X : Field := { off := 0x1e1120, hi := 27, lo := 16, acc := .rw, reset := 0, str := 0x1000, str2 := 0x40 }
def LY_POS_Y : Field := { off := 0x1e1120, hi := 11, lo := 0, acc := .rw, reset := 0, str := 0x1000, str2 := 0x40 }
def reg_LY_POS : Reg := { off := 0x1e1120, str := 0x1000, cnt := 2, str2 := 0x40, cnt2 := 4, flds := [LY_POS_X, LY_POS_Y] }

def LY_SKIP_COUNT : Field := { off := 0x1e1124, hi := 31, lo := 0, acc := .ro, reset := 0, str := 0x1000, str2 := 0x40 }
def reg_LY_SKIP : Reg := { off := 0x1e1124, str := 0x1000, cnt := 2, str2 := 0x40, cnt2 := 4, flds := [LY_SKIP_COUNT] }

def LY_PAL_ALPHA : Field := { off := 0x1e4000, hi := 31, lo := 24, acc := .rw, reset := 0, str := 0x1000, str2 := 0x4 }
def LY_PAL_RED : Field := { off := 0x1e4000, hi := 23, lo := 16, acc := .rw, reset := 0, str := 0x1000, str2 := 0x4 }
def LY_PAL_GREEN : Field := { off := 0x1e4000, hi := 15, lo := 8, acc := .rw, reset := 0, str := 0x1000, str2 := 0x4 }
def LY_PAL_BLUE : Field := { off := 0x1e4000, hi := 7, lo := 0, acc := .rw, reset := 0, str := 0x1000, str2 := 0x4 }
def reg_LY_PAL : Reg := { off := 0x1e4000, str := 0x1000, cnt := 2, str2 := 0x4, cnt2 := 1024, flds := [LY_PAL_ALPHA, LY_PAL_RED, LY_PAL_GREEN, LY_PAL_BLUE] }

/-- The registers of the DSP block. -/
def regsOf_DSP : List Reg :=
  [reg_DSP_CTRL, reg_HD_CTRL, reg_HD_STAT, reg_HD_HTIM0, reg_HD_HTIM1, reg_HD_VTIM0, reg_HD_VTIM1, reg_HD_PCLK, reg_HD_LINK, reg_HD_BG, reg_HD_COMMIT, reg_HD_CTGT, reg_HD_FCOUNT, reg_HD_FLIP_SECHI, reg_HD_FLIP_SECLO, reg_HD_FLIP_NS, reg_HD_FLIP_FRAME, reg_HD_BASE_SECHI, reg_HD_BASE_SECLO, reg_HD_BASE_NS, reg_HD_PERIOD_NS, reg_HD_PERIOD_FRAC, reg_HD_LOCKCFG, reg_HD_TE] ++
    [reg_HD_CNT, reg_HD_CNTCLR, reg_LY_CTRL, reg_LY_STAT, reg_LY_SURF0_LO, reg_LY_SURF0_HI, reg_LY_SURF1_LO, reg_LY_SURF1_HI, reg_LY_STRIDE, reg_LY_SIZE, reg_LY_POS, reg_LY_SKIP, reg_LY_PAL]

/-- The DSP window (R45). -/
def block_DSP : Block := { base := 0x1e0000, size := 0x10000, lock := some DSP_CTRL_LOCK, regs := regsOf_DSP }

end Sys2Proof.Machine
end

