-- ==== Sys2Proof/Machine/RegsEdg.lean ====
section
/-! DEFINITION. The register map of the EDG block: one definition for each field of its register tables in spec/08_switch_core.md (R219), and the list of its registers. Window base and size: R45. -/

namespace Sys2Proof.Machine

def EDG_CTRL_EN : Field := { off := 0xe0000, hi := 31, lo := 31, acc := .rw, reset := 0, str := 0x400 }
def EDG_CTRL_AN : Field := { off := 0xe0000, hi := 30, lo := 30, acc := .rw, reset := 1, str := 0x400 }
def EDG_CTRL_MODE : Field := { off := 0xe0000, hi := 29, lo := 28, acc := .rwl, reset := 1, str := 0x400 }
def EDG_CTRL_MAXLEN : Field := { off := 0xe0000, hi := 13, lo := 0, acc := .rw, reset := 1518, ok := [(1518, 9216)], str := 0x400 }
def reg_EDG_CTRL : Reg := { off := 0xe0000, str := 0x400, cnt := 8, flds := [EDG_CTRL_EN, EDG_CTRL_AN, EDG_CTRL_MODE, EDG_CTRL_MAXLEN] }

def EDG_STAT_LINK : Field := { off := 0xe0004, hi := 31, lo := 31, acc := .ro, reset := 0, str := 0x400 }
def EDG_STAT_SPEED : Field := { off := 0xe0004, hi := 30, lo := 29, acc := .ro, reset := 0, str := 0x400 }
def EDG_STAT_MODEMIS : Field := { off := 0xe0004, hi := 17, lo := 17, acc := .ro, reset := 0, str := 0x400 }
def EDG_STAT_LINKEV : Field := { off := 0xe0004, hi := 16, lo := 16, acc := .w1c, reset := 0, str := 0x400 }
def reg_EDG_STAT : Reg := { off := 0xe0004, str := 0x400, cnt := 8, flds := [EDG_STAT_LINK, EDG_STAT_SPEED, EDG_STAT_MODEMIS, EDG_STAT_LINKEV] }

def EDG_CLS_GOOSE : Field := { off := 0xe0008, hi := 31, lo := 29, acc := .rw, reset := 7, str := 0x400 }
def EDG_CLS_SV : Field := { off := 0xe0008, hi := 28, lo := 26, acc := .rw, reset := 6, str := 0x400 }
def EDG_CLS_PCPMAP : Field := { off := 0xe0008, hi := 23, lo := 0, acc := .rw, reset := 0xfac688, str := 0x400 }
def reg_EDG_CLS : Reg := { off := 0xe0008, str := 0x400, cnt := 8, flds := [EDG_CLS_GOOSE, EDG_CLS_SV, EDG_CLS_PCPMAP] }

def EDG_CTX_VALID : Field := { off := 0xe000c, hi := 31, lo := 31, acc := .rw, reset := 0, str := 0x400 }
def EDG_CTX_SLOT : Field := { off := 0xe000c, hi := 7, lo := 0, acc := .rw, reset := 0, ok := [(1, 252)], str := 0x400 }
def reg_EDG_CTX : Reg := { off := 0xe000c, str := 0x400, cnt := 8, flds := [EDG_CTX_VALID, EDG_CTX_SLOT] }

def EDG_LAT_MAX : Field := { off := 0xe0010, hi := 31, lo := 0, acc := .ro, reset := 0, str := 0x400 }
def reg_EDG_LAT : Reg := { off := 0xe0010, str := 0x400, cnt := 8, flds := [EDG_LAT_MAX] }

def EDG_CNT_COUNT : Field := { off := 0xe0040, hi := 31, lo := 0, acc := .ro, reset := 0, str := 0x400, str2 := 0x4 }
def reg_EDG_CNT : Reg := { off := 0xe0040, str := 0x400, cnt := 8, str2 := 0x4, cnt2 := 10, flds := [EDG_CNT_COUNT] }

def EDG_CNTCLR_CLR : Field := { off := 0xe0080, hi := 10, lo := 0, acc := .wo, reset := 0, str := 0x400 }
def reg_EDG_CNTCLR : Reg := { off := 0xe0080, str := 0x400, cnt := 8, flds := [EDG_CNTCLR_CLR] }

def EDG_GLB_LOCK_LOCK : Field := { off := 0xe8000, hi := 0, lo := 0, acc := .w1s, reset := 0 }
def reg_EDG_GLB_LOCK : Reg := { off := 0xe8000, flds := [EDG_GLB_LOCK_LOCK] }

/-- The registers of the EDG block. -/
def regsOf_EDG : List Reg :=
  [reg_EDG_CTRL, reg_EDG_STAT, reg_EDG_CLS, reg_EDG_CTX, reg_EDG_LAT, reg_EDG_CNT, reg_EDG_CNTCLR, reg_EDG_GLB_LOCK]

/-- The EDG window (R45). -/
def block_EDG : Block := { base := 0xe0000, size := 0x10000, lock := some EDG_GLB_LOCK_LOCK, regs := regsOf_EDG }

end Sys2Proof.Machine
end

