-- ==== Sys2Proof/Machine/RegsFab.lean ====
section
/-! DEFINITION. The register map of the FAB block: one definition for each field of its register tables in spec/02_fabric_addressing.md (R77), and the list of its registers. Window base and size: R45. -/

namespace Sys2Proof.Machine

def FAB_SELF_VALID : Field := { off := 0x180000, hi := 31, lo := 31, acc := .rwl, reset := 0 }
def FAB_SELF_STATION : Field := { off := 0x180000, hi := 24, lo := 18, acc := .rwl, reset := 0, ok := [(1, 127)] }
def FAB_SELF_RING : Field := { off := 0x180000, hi := 17, lo := 15, acc := .rwl, reset := 0 }
def FAB_SELF_CHAIN : Field := { off := 0x180000, hi := 14, lo := 11, acc := .rwl, reset := 0 }
def FAB_SELF_HUB : Field := { off := 0x180000, hi := 10, lo := 7, acc := .rwl, reset := 0, ok := [(1, 15)] }
def reg_FAB_SELF : Reg := { off := 0x180000, flds := [FAB_SELF_VALID, FAB_SELF_STATION, FAB_SELF_RING, FAB_SELF_CHAIN, FAB_SELF_HUB] }

def FAB_REGION_TAG : Field := { off := 0x180004, hi := 15, lo := 0, acc := .rwl, reset := 0 }
def reg_FAB_REGION : Reg := { off := 0x180004, flds := [FAB_REGION_TAG] }

def FAB_ROLE_SM : Field := { off := 0x180008, hi := 31, lo := 31, acc := .rw, reset := 0 }
def FAB_ROLE_LOSS : Field := { off := 0x180008, hi := 19, lo := 16, acc := .rw, reset := 3, ok := [(2, 15)] }
def FAB_ROLE_HELLO_INT : Field := { off := 0x180008, hi := 6, lo := 0, acc := .rw, reset := 10, ok := [(1, 100)] }
def reg_FAB_ROLE : Reg := { off := 0x180008, flds := [FAB_ROLE_SM, FAB_ROLE_LOSS, FAB_ROLE_HELLO_INT] }

def FAB_LOCK_LOCK : Field := { off := 0x18000c, hi := 0, lo := 0, acc := .w1s, reset := 0 }
def reg_FAB_LOCK : Reg := { off := 0x18000c, flds := [FAB_LOCK_LOCK] }

def FAB_CTXCMD_GO : Field := { off := 0x180010, hi := 31, lo := 31, acc := .wo, reset := 0 }
def FAB_CTXCMD_OP : Field := { off := 0x180010, hi := 18, lo := 16, acc := .wo, reset := 0 }
def FAB_CTXCMD_SLOT : Field := { off := 0x180010, hi := 7, lo := 0, acc := .wo, reset := 0 }
def reg_FAB_CTXCMD : Reg := { off := 0x180010, flds := [FAB_CTXCMD_GO, FAB_CTXCMD_OP, FAB_CTXCMD_SLOT] }

def FAB_CTXSTAT_BUSY : Field := { off := 0x180014, hi := 31, lo := 31, acc := .ro, reset := 0 }
def FAB_CTXSTAT_LASTSLOT : Field := { off := 0x180014, hi := 23, lo := 16, acc := .ro, reset := 0 }
def FAB_CTXSTAT_OVR : Field := { off := 0x180014, hi := 10, lo := 10, acc := .w1c, reset := 0 }
def FAB_CTXSTAT_SELFREJ : Field := { off := 0x180014, hi := 9, lo := 9, acc := .w1c, reset := 0 }
def FAB_CTXSTAT_LATE : Field := { off := 0x180014, hi := 8, lo := 8, acc := .w1c, reset := 0 }
def FAB_CTXSTAT_CODE : Field := { off := 0x180014, hi := 3, lo := 0, acc := .ro, reset := 0 }
def reg_FAB_CTXSTAT : Reg := { off := 0x180014, flds := [FAB_CTXSTAT_BUSY, FAB_CTXSTAT_LASTSLOT, FAB_CTXSTAT_OVR, FAB_CTXSTAT_SELFREJ, FAB_CTXSTAT_LATE, FAB_CTXSTAT_CODE] }

def FAB_TIMERS_OPEN_TO : Field := { off := 0x180018, hi := 23, lo := 16, acc := .rw, reset := 100, ok := [(1, 255)] }
def FAB_TIMERS_CLOSE_TO : Field := { off := 0x180018, hi := 15, lo := 8, acc := .rw, reset := 20, ok := [(1, 255)] }
def FAB_TIMERS_RETIRE : Field := { off := 0x180018, hi := 7, lo := 0, acc := .rw, reset := 10, ok := [(1, 255)] }
def reg_FAB_TIMERS : Reg := { off := 0x180018, flds := [FAB_TIMERS_OPEN_TO, FAB_TIMERS_CLOSE_TO, FAB_TIMERS_RETIRE] }

def FAB_CONFLICT_VALID : Field := { off := 0x18001c, hi := 31, lo := 31, acc := .w1c, reset := 0 }
def FAB_CONFLICT_TRUNK : Field := { off := 0x18001c, hi := 26, lo := 25, acc := .ro, reset := 0 }
def FAB_CONFLICT_SOURCE : Field := { off := 0x18001c, hi := 24, lo := 0, acc := .ro, reset := 0 }
def reg_FAB_CONFLICT : Reg := { off := 0x18001c, flds := [FAB_CONFLICT_VALID, FAB_CONFLICT_TRUNK, FAB_CONFLICT_SOURCE] }

def FAB_DIRBASE_LO_ADDR : Field := { off := 0x180020, hi := 31, lo := 0, acc := .rw, reset := 0 }
def reg_FAB_DIRBASE_LO : Reg := { off := 0x180020, flds := [FAB_DIRBASE_LO_ADDR] }

def FAB_DIRBASE_HI_ADDR : Field := { off := 0x180024, hi := 31, lo := 0, acc := .rw, reset := 0 }
def reg_FAB_DIRBASE_HI : Reg := { off := 0x180024, flds := [FAB_DIRBASE_HI_ADDR] }

def FAB_CNT_COUNT : Field := { off := 0x180040, hi := 31, lo := 0, acc := .ro, reset := 0, str := 0x4 }
def reg_FAB_CNT : Reg := { off := 0x180040, str := 0x4, cnt := 8, flds := [FAB_CNT_COUNT] }

def FAB_CNTCLR_CLR : Field := { off := 0x180060, hi := 7, lo := 0, acc := .wo, reset := 0 }
def reg_FAB_CNTCLR : Reg := { off := 0x180060, flds := [FAB_CNTCLR_CLR] }

def FAB_STATION_VALID : Field := { off := 0x181000, hi := 31, lo := 31, acc := .rw, reset := 0, str := 0x4 }
def FAB_STATION_MODE : Field := { off := 0x181000, hi := 30, lo := 29, acc := .rw, reset := 0, ok := [(0, 2)], str := 0x4 }
def FAB_STATION_STEER : Field := { off := 0x181000, hi := 28, lo := 28, acc := .rw, reset := 0, str := 0x4 }
def FAB_STATION_ALT : Field := { off := 0x181000, hi := 5, lo := 4, acc := .rw, reset := 0, str := 0x4 }
def FAB_STATION_PRI : Field := { off := 0x181000, hi := 1, lo := 0, acc := .rw, reset := 0, str := 0x4 }
def reg_FAB_STATION : Reg := { off := 0x181000, str := 0x4, cnt := 128, flds := [FAB_STATION_VALID, FAB_STATION_MODE, FAB_STATION_STEER, FAB_STATION_ALT, FAB_STATION_PRI] }

def FAB_RING_VALID : Field := { off := 0x181200, hi := 31, lo := 31, acc := .rw, reset := 0, str := 0x4 }
def FAB_RING_MODE : Field := { off := 0x181200, hi := 30, lo := 29, acc := .rw, reset := 0, ok := [(0, 2)], str := 0x4 }
def FAB_RING_STEER : Field := { off := 0x181200, hi := 28, lo := 28, acc := .rw, reset := 0, str := 0x4 }
def FAB_RING_ALT : Field := { off := 0x181200, hi := 5, lo := 4, acc := .rw, reset := 0, str := 0x4 }
def FAB_RING_PRI : Field := { off := 0x181200, hi := 1, lo := 0, acc := .rw, reset := 0, str := 0x4 }
def reg_FAB_RING : Reg := { off := 0x181200, str := 0x4, cnt := 8, flds := [FAB_RING_VALID, FAB_RING_MODE, FAB_RING_STEER, FAB_RING_ALT, FAB_RING_PRI] }

def FAB_CHAIN_VALID : Field := { off := 0x181240, hi := 31, lo := 31, acc := .rw, reset := 0, str := 0x4 }
def FAB_CHAIN_MODE : Field := { off := 0x181240, hi := 30, lo := 29, acc := .rw, reset := 0, ok := [(0, 2)], str := 0x4 }
def FAB_CHAIN_STEER : Field := { off := 0x181240, hi := 28, lo := 28, acc := .rw, reset := 0, str := 0x4 }
def FAB_CHAIN_ALT : Field := { off := 0x181240, hi := 5, lo := 4, acc := .rw, reset := 0, str := 0x4 }
def FAB_CHAIN_PRI : Field := { off := 0x181240, hi := 1, lo := 0, acc := .rw, reset := 0, str := 0x4 }
def reg_FAB_CHAIN : Reg := { off := 0x181240, str := 0x4, cnt := 16, flds := [FAB_CHAIN_VALID, FAB_CHAIN_MODE, FAB_CHAIN_STEER, FAB_CHAIN_ALT, FAB_CHAIN_PRI] }

def FAB_HUB_VALID : Field := { off := 0x181280, hi := 31, lo := 31, acc := .rw, reset := 0, str := 0x4 }
def FAB_HUB_MODE : Field := { off := 0x181280, hi := 30, lo := 29, acc := .rw, reset := 0, ok := [(0, 2)], str := 0x4 }
def FAB_HUB_STEER : Field := { off := 0x181280, hi := 28, lo := 28, acc := .rw, reset := 0, str := 0x4 }
def FAB_HUB_ALT : Field := { off := 0x181280, hi := 5, lo := 4, acc := .rw, reset := 0, str := 0x4 }
def FAB_HUB_PRI : Field := { off := 0x181280, hi := 1, lo := 0, acc := .rw, reset := 0, str := 0x4 }
def reg_FAB_HUB : Reg := { off := 0x181280, str := 0x4, cnt := 16, flds := [FAB_HUB_VALID, FAB_HUB_MODE, FAB_HUB_STEER, FAB_HUB_ALT, FAB_HUB_PRI] }

def CTX0_KEYSRC : Field := { off := 0x190000, hi := 24, lo := 0, acc := .rw, reset := 0, str := 0x20 }
def reg_CTX0 : Reg := { off := 0x190000, str := 0x20, cnt := 253, flds := [CTX0_KEYSRC] }

def CTX1_DEST : Field := { off := 0x190004, hi := 24, lo := 0, acc := .rw, reset := 0, str := 0x20 }
def reg_CTX1 : Reg := { off := 0x190004, str := 0x20, cnt := 253, flds := [CTX1_DEST] }

def CTX2_PORT : Field := { off := 0x190008, hi := 28, lo := 24, acc := .rw, reset := 0, ok := [(0, 22)], str := 0x20 }
def CTX2_DIR : Field := { off := 0x190008, hi := 21, lo := 21, acc := .rw, reset := 0, str := 0x20 }
def CTX2_VER : Field := { off := 0x190008, hi := 19, lo := 16, acc := .rw, reset := 0, str := 0x20 }
def CTX2_PROTO : Field := { off := 0x190008, hi := 15, lo := 12, acc := .rw, reset := 0, str := 0x20 }
def CTX2_CLASS : Field := { off := 0x190008, hi := 10, lo := 8, acc := .rw, reset := 0, str := 0x20 }
def CTX2_TUNID : Field := { off := 0x190008, hi := 7, lo := 0, acc := .rw, reset := 0, ok := [(1, 252)], str := 0x20 }
def reg_CTX2 : Reg := { off := 0x190008, str := 0x20, cnt := 253, flds := [CTX2_PORT, CTX2_DIR, CTX2_VER, CTX2_PROTO, CTX2_CLASS, CTX2_TUNID] }

def CTX3_STATE : Field := { off := 0x19000c, hi := 10, lo := 8, acc := .ro, reset := 0, str := 0x20 }
def CTX3_PARTNER : Field := { off := 0x19000c, hi := 7, lo := 0, acc := .rw, reset := 0, ok := [(0, 252)], str := 0x20 }
def reg_CTX3 : Reg := { off := 0x19000c, str := 0x20, cnt := 253, flds := [CTX3_STATE, CTX3_PARTNER] }

def CTX4_PACKETS : Field := { off := 0x190010, hi := 31, lo := 0, acc := .ro, reset := 0, str := 0x20 }
def reg_CTX4 : Reg := { off := 0x190010, str := 0x20, cnt := 253, flds := [CTX4_PACKETS] }

def CTX5_DISCARDS : Field := { off := 0x190014, hi := 31, lo := 0, acc := .ro, reset := 0, str := 0x20 }
def reg_CTX5 : Reg := { off := 0x190014, str := 0x20, cnt := 253, flds := [CTX5_DISCARDS] }

def CTX6_MCAST_CNT : Field := { off := 0x190018, hi := 28, lo := 24, acc := .rw, reset := 0, ok := [(0, 16)], str := 0x20 }
def CTX6_INFLIGHT : Field := { off := 0x190018, hi := 23, lo := 8, acc := .ro, reset := 0, str := 0x20 }
def CTX6_MCAST_BASE : Field := { off := 0x190018, hi := 7, lo := 0, acc := .rw, reset := 0, str := 0x20 }
def reg_CTX6 : Reg := { off := 0x190018, str := 0x20, cnt := 253, flds := [CTX6_MCAST_CNT, CTX6_INFLIGHT, CTX6_MCAST_BASE] }

def CTX7_SEQ : Field := { off := 0x19001c, hi := 15, lo := 0, acc := .ro, reset := 0, str := 0x20 }
def reg_CTX7 : Reg := { off := 0x19001c, str := 0x20, cnt := 253, flds := [CTX7_SEQ] }

def FAB_DLIST_DEST : Field := { off := 0x1a0000, hi := 24, lo := 0, acc := .rw, reset := 0, str := 0x4 }
def reg_FAB_DLIST : Reg := { off := 0x1a0000, str := 0x4, cnt := 256, flds := [FAB_DLIST_DEST] }

def FAB_DD_CFG_EN : Field := { off := 0x1b0000, hi := 31, lo := 31, acc := .rw, reset := 1 }
def FAB_DD_CFG_FLUSH : Field := { off := 0x1b0000, hi := 30, lo := 30, acc := .wo, reset := 0 }
def FAB_DD_CFG_AGE : Field := { off := 0x1b0000, hi := 7, lo := 0, acc := .rw, reset := 10, ok := [(1, 255)] }
def reg_FAB_DD_CFG : Reg := { off := 0x1b0000, flds := [FAB_DD_CFG_EN, FAB_DD_CFG_FLUSH, FAB_DD_CFG_AGE] }

def FAB_DD_STAT_FULL : Field := { off := 0x1b0004, hi := 31, lo := 31, acc := .ro, reset := 0 }
def FAB_DD_STAT_USED : Field := { off := 0x1b0004, hi := 12, lo := 0, acc := .ro, reset := 0 }
def reg_FAB_DD_STAT : Reg := { off := 0x1b0004, flds := [FAB_DD_STAT_FULL, FAB_DD_STAT_USED] }

def FAB_RING_CFG_EN : Field := { off := 0x1b0008, hi := 31, lo := 31, acc := .rwl, reset := 0 }
def FAB_RING_CFG_AUTO : Field := { off := 0x1b0008, hi := 30, lo := 30, acc := .rw, reset := 1 }
def FAB_RING_CFG_SIZE : Field := { off := 0x1b0008, hi := 21, lo := 16, acc := .rwl, reset := 2, ok := [(2, 32)] }
def FAB_RING_CFG_RESTORE : Field := { off := 0x1b0008, hi := 15, lo := 8, acc := .rw, reset := 50, ok := [(1, 255)] }
def FAB_RING_CFG_RSMINT : Field := { off := 0x1b0008, hi := 7, lo := 0, acc := .rw, reset := 10, ok := [(1, 100)] }
def reg_FAB_RING_CFG : Reg := { off := 0x1b0008, flds := [FAB_RING_CFG_EN, FAB_RING_CFG_AUTO, FAB_RING_CFG_SIZE, FAB_RING_CFG_RESTORE, FAB_RING_CFG_RSMINT] }

def FAB_RING_STAT_REACH_E : Field := { off := 0x1b000c, hi := 31, lo := 27, acc := .ro, reset := 0 }
def FAB_RING_STAT_REACH_W : Field := { off := 0x1b000c, hi := 26, lo := 22, acc := .ro, reset := 0 }
def FAB_RING_STAT_SIZEMIS : Field := { off := 0x1b000c, hi := 18, lo := 18, acc := .w1c, reset := 0 }
def FAB_RING_STAT_RSMLOSS : Field := { off := 0x1b000c, hi := 17, lo := 17, acc := .w1c, reset := 0 }
def FAB_RING_STAT_STEERCHG : Field := { off := 0x1b000c, hi := 16, lo := 16, acc := .w1c, reset := 0 }
def FAB_RING_STAT_RSMREJ : Field := { off := 0x1b000c, hi := 15, lo := 0, acc := .ro, reset := 0 }
def reg_FAB_RING_STAT : Reg := { off := 0x1b000c, flds := [FAB_RING_STAT_REACH_E, FAB_RING_STAT_REACH_W, FAB_RING_STAT_SIZEMIS, FAB_RING_STAT_RSMLOSS, FAB_RING_STAT_STEERCHG, FAB_RING_STAT_RSMREJ] }

def FAB_DD_CNT_COUNT : Field := { off := 0x1b0040, hi := 31, lo := 0, acc := .ro, reset := 0, str := 0x4 }
def reg_FAB_DD_CNT : Reg := { off := 0x1b0040, str := 0x4, cnt := 8, flds := [FAB_DD_CNT_COUNT] }

def FAB_DD_CNTCLR_CLR : Field := { off := 0x1b0060, hi := 8, lo := 0, acc := .wo, reset := 0 }
def reg_FAB_DD_CNTCLR : Reg := { off := 0x1b0060, flds := [FAB_DD_CNTCLR_CLR] }

def FAB_HOP_STATION_HOPS : Field := { off := 0x1b1000, hi := 4, lo := 0, acc := .rw, reset := 0, str := 0x4 }
def reg_FAB_HOP_STATION : Reg := { off := 0x1b1000, str := 0x4, cnt := 128, flds := [FAB_HOP_STATION_HOPS] }

def FAB_HOP_RING_HOPS : Field := { off := 0x1b1200, hi := 4, lo := 0, acc := .rw, reset := 0, str := 0x4 }
def reg_FAB_HOP_RING : Reg := { off := 0x1b1200, str := 0x4, cnt := 8, flds := [FAB_HOP_RING_HOPS] }

def FAB_HOP_CHAIN_HOPS : Field := { off := 0x1b1240, hi := 4, lo := 0, acc := .rw, reset := 0, str := 0x4 }
def reg_FAB_HOP_CHAIN : Reg := { off := 0x1b1240, str := 0x4, cnt := 16, flds := [FAB_HOP_CHAIN_HOPS] }

def FAB_HOP_HUB_HOPS : Field := { off := 0x1b1280, hi := 4, lo := 0, acc := .rw, reset := 0, str := 0x4 }
def reg_FAB_HOP_HUB : Reg := { off := 0x1b1280, str := 0x4, cnt := 16, flds := [FAB_HOP_HUB_HOPS] }

/-- The registers of the FAB block. -/
def regsOf_FAB : List Reg :=
  [reg_FAB_SELF, reg_FAB_REGION, reg_FAB_ROLE, reg_FAB_LOCK, reg_FAB_CTXCMD, reg_FAB_CTXSTAT, reg_FAB_TIMERS, reg_FAB_CONFLICT, reg_FAB_DIRBASE_LO, reg_FAB_DIRBASE_HI, reg_FAB_CNT, reg_FAB_CNTCLR, reg_FAB_STATION, reg_FAB_RING, reg_FAB_CHAIN, reg_FAB_HUB, reg_CTX0, reg_CTX1, reg_CTX2, reg_CTX3, reg_CTX4, reg_CTX5, reg_CTX6, reg_CTX7] ++
    [reg_FAB_DLIST, reg_FAB_DD_CFG, reg_FAB_DD_STAT, reg_FAB_RING_CFG, reg_FAB_RING_STAT, reg_FAB_DD_CNT, reg_FAB_DD_CNTCLR, reg_FAB_HOP_STATION, reg_FAB_HOP_RING, reg_FAB_HOP_CHAIN, reg_FAB_HOP_HUB]

/-- The FAB window (R45). -/
def block_FAB : Block := { base := 0x180000, size := 0x40000, lock := some FAB_LOCK_LOCK, regs := regsOf_FAB }

end Sys2Proof.Machine
end

