-- ==== Sys2Proof/Machine/RegsFlt.lean ====
section
/-! DEFINITION. The register map of the FLT block: one definition for each field of its register tables in spec/21_faults.md (R515), and the list of its registers. Window base and size: R45. -/

namespace Sys2Proof.Machine

def FLT_CTRL_LOCK : Field := { off := 0x220000, hi := 31, lo := 31, acc := .w1s, reset := 0 }
def FLT_CTRL_FORCEEN : Field := { off := 0x220000, hi := 30, lo := 30, acc := .rwl, reset := 0 }
def reg_FLT_CTRL : Reg := { off := 0x220000, flds := [FLT_CTRL_LOCK, FLT_CTRL_FORCEEN] }

def FLT_STAT_ELYTRA : Field := { off := 0x220004, hi := 31, lo := 31, acc := .ro, reset := 0 }
def FLT_STAT_SELF : Field := { off := 0x220004, hi := 30, lo := 30, acc := .ro, reset := 0 }
def FLT_STAT_SWENTER : Field := { off := 0x220004, hi := 29, lo := 29, acc := .ro, reset := 0 }
def FLT_STAT_EXITREJ : Field := { off := 0x220004, hi := 25, lo := 25, acc := .w1c, reset := 0 }
def FLT_STAT_CFGREJ : Field := { off := 0x220004, hi := 24, lo := 24, acc := .w1c, reset := 0 }
def FLT_STAT_ESLOT : Field := { off := 0x220004, hi := 7, lo := 0, acc := .ro, reset := 0 }
def reg_FLT_STAT : Reg := { off := 0x220004, flds := [FLT_STAT_ELYTRA, FLT_STAT_SELF, FLT_STAT_SWENTER, FLT_STAT_EXITREJ, FLT_STAT_CFGREJ, FLT_STAT_ESLOT] }

def FLT_CMD_EXIT : Field := { off := 0x220008, hi := 31, lo := 31, acc := .wo, reset := 0 }
def FLT_CMD_ENTER : Field := { off := 0x220008, hi := 30, lo := 30, acc := .wo, reset := 0 }
def FLT_CMD_KEY : Field := { off := 0x220008, hi := 15, lo := 0, acc := .wo, reset := 0 }
def reg_FLT_CMD : Reg := { off := 0x220008, flds := [FLT_CMD_EXIT, FLT_CMD_ENTER, FLT_CMD_KEY] }

def FLT_FIRST_VALID : Field := { off := 0x22000c, hi := 31, lo := 31, acc := .w1c, reset := 0 }
def FLT_FIRST_CLASS : Field := { off := 0x22000c, hi := 25, lo := 24, acc := .ro, reset := 0 }
def FLT_FIRST_SLOT : Field := { off := 0x22000c, hi := 7, lo := 0, acc := .ro, reset := 0 }
def reg_FLT_FIRST : Reg := { off := 0x22000c, flds := [FLT_FIRST_VALID, FLT_FIRST_CLASS, FLT_FIRST_SLOT] }

def FLT_FIRST_SECLO_SEC_LO : Field := { off := 0x220010, hi := 31, lo := 0, acc := .ro, reset := 0 }
def reg_FLT_FIRST_SECLO : Reg := { off := 0x220010, flds := [FLT_FIRST_SECLO_SEC_LO] }

def FLT_FIRST_NS_NS : Field := { off := 0x220014, hi := 31, lo := 0, acc := .ro, reset := 0 }
def reg_FLT_FIRST_NS : Reg := { off := 0x220014, flds := [FLT_FIRST_NS_NS] }

def FLT_LOGWR_WR : Field := { off := 0x220018, hi := 15, lo := 0, acc := .ro, reset := 0 }
def reg_FLT_LOGWR : Reg := { off := 0x220018, flds := [FLT_LOGWR_WR] }

def FLT_TEMP_TEMP : Field := { off := 0x22001c, hi := 31, lo := 16, acc := .ro, reset := 0 }
def FLT_TEMP_TWARN : Field := { off := 0x22001c, hi := 7, lo := 0, acc := .rwl, reset := 110, ok := [(60, 124)] }
def reg_FLT_TEMP : Reg := { off := 0x22001c, flds := [FLT_TEMP_TEMP, FLT_TEMP_TWARN] }

def FLT_CNT_COUNT : Field := { off := 0x220040, hi := 31, lo := 0, acc := .ro, reset := 0, str := 0x4 }
def reg_FLT_CNT : Reg := { off := 0x220040, str := 0x4, cnt := 4, flds := [FLT_CNT_COUNT] }

def FLT_CNTCLR_CLR : Field := { off := 0x220060, hi := 3, lo := 0, acc := .wo, reset := 0 }
def reg_FLT_CNTCLR : Reg := { off := 0x220060, flds := [FLT_CNTCLR_CLR] }

def FLT_CFG_EN : Field := { off := 0x220100, hi := 31, lo := 31, acc := .rw, reset := 1, str := 0x4, resets := [(15, 15, 0), (177, 255, 0)] }
def FLT_CFG_IRQ : Field := { off := 0x220100, hi := 30, lo := 30, acc := .rw, reset := 1, str := 0x4, resets := [(15, 15, 0), (177, 255, 0)] }
def FLT_CFG_FORCE : Field := { off := 0x220100, hi := 29, lo := 29, acc := .rw, reset := 0, str := 0x4 }
def FLT_CFG_CLASS : Field := { off := 0x220100, hi := 26, lo := 25, acc := .rwl, reset := 0, ok := [(0, 2)], str := 0x4, resets := [(0, 0, 2), (1, 1, 2), (2, 2, 2), (3, 3, 2), (4, 4, 2), (6, 6, 1), (7, 7, 1), (8, 8, 1), (11, 11, 1), (13, 13, 1), (19, 19, 1), (20, 20, 1), (80, 80, 1), (82, 82, 1), (83, 98, 1), (111, 111, 1), (113, 176, 1)] }
def FLT_CFG_ESCT : Field := { off := 0x220100, hi := 19, lo := 16, acc := .rwl, reset := 0, str := 0x4 }
def FLT_CFG_FLOOR : Field := { off := 0x220100, hi := 1, lo := 0, acc := .ro, reset := 0, str := 0x4, resets := [(0, 0, 2), (1, 1, 2), (2, 2, 2), (3, 3, 2), (4, 4, 2), (6, 6, 1), (7, 7, 1), (8, 8, 1), (11, 11, 1), (13, 13, 1), (19, 19, 1), (20, 20, 1), (80, 80, 1), (82, 82, 1), (83, 98, 1), (111, 111, 1), (113, 176, 1)] }
def reg_FLT_CFG : Reg := { off := 0x220100, str := 0x4, cnt := 256, flds := [FLT_CFG_EN, FLT_CFG_IRQ, FLT_CFG_FORCE, FLT_CFG_CLASS, FLT_CFG_ESCT, FLT_CFG_FLOOR] }

def FLT_STATUS_BITS : Field := { off := 0x220800, hi := 31, lo := 0, acc := .w1c, reset := 0, str := 0x4 }
def reg_FLT_STATUS : Reg := { off := 0x220800, str := 0x4, cnt := 8, flds := [FLT_STATUS_BITS] }

def FLT_CAUSE_BITS : Field := { off := 0x220820, hi := 31, lo := 0, acc := .ro, reset := 0, str := 0x4 }
def reg_FLT_CAUSE : Reg := { off := 0x220820, str := 0x4, cnt := 8, flds := [FLT_CAUSE_BITS] }

def FLT_DET_COUNT : Field := { off := 0x220c00, hi := 31, lo := 16, acc := .cnt, reset := 0, str := 0x4 }
def FLT_DET_DETAIL : Field := { off := 0x220c00, hi := 15, lo := 0, acc := .ro, reset := 0, str := 0x4 }
def reg_FLT_DET : Reg := { off := 0x220c00, str := 0x4, cnt := 256, flds := [FLT_DET_COUNT, FLT_DET_DETAIL] }

def FLT_LOG0_SLOT : Field := { off := 0x222000, hi := 31, lo := 24, acc := .ro, reset := 0, str := 0x10 }
def FLT_LOG0_CLASS : Field := { off := 0x222000, hi := 23, lo := 22, acc := .ro, reset := 0, str := 0x10 }
def FLT_LOG0_FORCED : Field := { off := 0x222000, hi := 21, lo := 21, acc := .ro, reset := 0, str := 0x10 }
def FLT_LOG0_ESC : Field := { off := 0x222000, hi := 20, lo := 20, acc := .ro, reset := 0, str := 0x10 }
def FLT_LOG0_DETAIL : Field := { off := 0x222000, hi := 15, lo := 0, acc := .ro, reset := 0, str := 0x10 }
def reg_FLT_LOG0 : Reg := { off := 0x222000, str := 0x10, cnt := 64, flds := [FLT_LOG0_SLOT, FLT_LOG0_CLASS, FLT_LOG0_FORCED, FLT_LOG0_ESC, FLT_LOG0_DETAIL] }

def FLT_LOG1_NS : Field := { off := 0x222004, hi := 31, lo := 0, acc := .ro, reset := 0, str := 0x10 }
def reg_FLT_LOG1 : Reg := { off := 0x222004, str := 0x10, cnt := 64, flds := [FLT_LOG1_NS] }

def FLT_LOG2_SEC_LO : Field := { off := 0x222008, hi := 31, lo := 0, acc := .ro, reset := 0, str := 0x10 }
def reg_FLT_LOG2 : Reg := { off := 0x222008, str := 0x10, cnt := 64, flds := [FLT_LOG2_SEC_LO] }

def FLT_LOG3_UNTRACED : Field := { off := 0x22200c, hi := 31, lo := 31, acc := .ro, reset := 0, str := 0x10 }
def FLT_LOG3_SEC_HI : Field := { off := 0x22200c, hi := 15, lo := 0, acc := .ro, reset := 0, str := 0x10 }
def reg_FLT_LOG3 : Reg := { off := 0x22200c, str := 0x10, cnt := 64, flds := [FLT_LOG3_UNTRACED, FLT_LOG3_SEC_HI] }

/-- The registers of the FLT block. -/
def regsOf_FLT : List Reg :=
  [reg_FLT_CTRL, reg_FLT_STAT, reg_FLT_CMD, reg_FLT_FIRST, reg_FLT_FIRST_SECLO, reg_FLT_FIRST_NS, reg_FLT_LOGWR, reg_FLT_TEMP, reg_FLT_CNT, reg_FLT_CNTCLR, reg_FLT_CFG, reg_FLT_STATUS, reg_FLT_CAUSE, reg_FLT_DET, reg_FLT_LOG0, reg_FLT_LOG1, reg_FLT_LOG2, reg_FLT_LOG3]

/-- The FLT window (R45). -/
def block_FLT : Block := { base := 0x220000, size := 0x10000, lock := some FLT_CTRL_LOCK, regs := regsOf_FLT }

end Sys2Proof.Machine
end

