-- ==== Sys2Proof/Machine/RegsGen.lean ====
section
/-! DEFINITION. The register map of the GEN block: one definition for each field of its register tables in spec/17_startup.md (R445), and the list of its registers. Window base and size: R45. -/

namespace Sys2Proof.Machine

def GEN_ID_PART : Field := { off := 0x0, hi := 31, lo := 16, acc := .ro, reset := 0x7263 }
def GEN_ID_REV : Field := { off := 0x0, hi := 15, lo := 8, acc := .ro, reset := 0 }
def GEN_ID_GRADE : Field := { off := 0x0, hi := 1, lo := 0, acc := .ro, reset := 0 }
def reg_GEN_ID : Reg := { off := 0x0, flds := [GEN_ID_PART, GEN_ID_REV, GEN_ID_GRADE] }

def GEN_DEVID_LO_DEVID : Field := { off := 0x4, hi := 31, lo := 0, acc := .ro, reset := 0 }
def reg_GEN_DEVID_LO : Reg := { off := 0x4, flds := [GEN_DEVID_LO_DEVID] }

def GEN_DEVID_HI_DEVID : Field := { off := 0x8, hi := 31, lo := 0, acc := .ro, reset := 0 }
def reg_GEN_DEVID_HI : Reg := { off := 0x8, flds := [GEN_DEVID_HI_DEVID] }

def GEN_STRAP_DBG_EN : Field := { off := 0xc, hi := 2, lo := 2, acc := .ro, reset := 0 }
def GEN_STRAP_PCIE_RC : Field := { off := 0xc, hi := 1, lo := 1, acc := .ro, reset := 0 }
def GEN_STRAP_COMPAT : Field := { off := 0xc, hi := 0, lo := 0, acc := .ro, reset := 0 }
def reg_GEN_STRAP : Reg := { off := 0xc, flds := [GEN_STRAP_DBG_EN, GEN_STRAP_PCIE_RC, GEN_STRAP_COMPAT] }

def GEN_RST_CHIP : Field := { off := 0x10, hi := 31, lo := 31, acc := .wo, reset := 0 }
def GEN_RST_MGMT : Field := { off := 0x10, hi := 30, lo := 30, acc := .wo, reset := 0 }
def GEN_RST_KEY : Field := { off := 0x10, hi := 15, lo := 0, acc := .wo, reset := 0 }
def reg_GEN_RST : Reg := { off := 0x10, flds := [GEN_RST_CHIP, GEN_RST_MGMT, GEN_RST_KEY] }

def GEN_RSTCAUSE_MGMTCNT : Field := { off := 0x14, hi := 31, lo := 24, acc := .ro, reset := 0 }
def GEN_RSTCAUSE_POWERON : Field := { off := 0x14, hi := 6, lo := 6, acc := .w1c, reset := 1 }
def GEN_RSTCAUSE_PORST : Field := { off := 0x14, hi := 5, lo := 5, acc := .w1c, reset := 0 }
def GEN_RSTCAUSE_SWCHIP : Field := { off := 0x14, hi := 4, lo := 4, acc := .w1c, reset := 0 }
def GEN_RSTCAUSE_DORMANT : Field := { off := 0x14, hi := 3, lo := 3, acc := .w1c, reset := 0 }
def GEN_RSTCAUSE_SWMGMT : Field := { off := 0x14, hi := 2, lo := 2, acc := .w1c, reset := 0 }
def GEN_RSTCAUSE_WDT : Field := { off := 0x14, hi := 1, lo := 1, acc := .w1c, reset := 0 }
def GEN_RSTCAUSE_MGMTSTOP : Field := { off := 0x14, hi := 0, lo := 0, acc := .ro, reset := 0 }
def reg_GEN_RSTCAUSE : Reg := { off := 0x14, flds := [GEN_RSTCAUSE_MGMTCNT, GEN_RSTCAUSE_POWERON, GEN_RSTCAUSE_PORST, GEN_RSTCAUSE_SWCHIP, GEN_RSTCAUSE_DORMANT, GEN_RSTCAUSE_SWMGMT, GEN_RSTCAUSE_WDT, GEN_RSTCAUSE_MGMTSTOP] }

def GEN_WDT_EN : Field := { off := 0x18, hi := 31, lo := 31, acc := .rw, reset := 0 }
def GEN_WDT_KICK : Field := { off := 0x18, hi := 30, lo := 30, acc := .wo, reset := 0 }
def GEN_WDT_TIMEOUT : Field := { off := 0x18, hi := 13, lo := 0, acc := .rw, reset := 1000, ok := [(10, 10000)] }
def reg_GEN_WDT : Reg := { off := 0x18, flds := [GEN_WDT_EN, GEN_WDT_KICK, GEN_WDT_TIMEOUT] }

/-- The registers of the GEN block. -/
def regsOf_GEN : List Reg :=
  [reg_GEN_ID, reg_GEN_DEVID_LO, reg_GEN_DEVID_HI, reg_GEN_STRAP, reg_GEN_RST, reg_GEN_RSTCAUSE, reg_GEN_WDT]

/-- The GEN window (R45). -/
def block_GEN : Block := { base := 0x0, size := 0x10000, lock := none, regs := regsOf_GEN }

end Sys2Proof.Machine
end

