-- ==== Sys2Proof/Machine/RegsGpio.lean ====
section
/-! DEFINITION. The register map of the GPIO block: one definition for each field of its register tables in spec/22_pins_electrical.md (R539), and the list of its registers. Window base and size: R45. -/

namespace Sys2Proof.Machine

def GPIO_CTRL_LOCK : Field := { off := 0x250000, hi := 31, lo := 31, acc := .w1s, reset := 0 }
def reg_GPIO_CTRL : Reg := { off := 0x250000, flds := [GPIO_CTRL_LOCK] }

def GPIO_STAT_TSLOST : Field := { off := 0x250004, hi := 31, lo := 16, acc := .ro, reset := 0 }
def GPIO_STAT_TSOVF : Field := { off := 0x250004, hi := 1, lo := 1, acc := .w1c, reset := 0 }
def GPIO_STAT_CFGREJ : Field := { off := 0x250004, hi := 0, lo := 0, acc := .w1c, reset := 0 }
def reg_GPIO_STAT : Reg := { off := 0x250004, flds := [GPIO_STAT_TSLOST, GPIO_STAT_TSOVF, GPIO_STAT_CFGREJ] }

def GPIO_IN_LEVEL : Field := { off := 0x250008, hi := 31, lo := 0, acc := .ro, reset := 0 }
def reg_GPIO_IN : Reg := { off := 0x250008, flds := [GPIO_IN_LEVEL] }

def GPIO_OUT_LEVEL : Field := { off := 0x25000c, hi := 31, lo := 0, acc := .rw, reset := 0 }
def reg_GPIO_OUT : Reg := { off := 0x25000c, flds := [GPIO_OUT_LEVEL] }

def GPIO_EVST_EDGE : Field := { off := 0x250010, hi := 31, lo := 0, acc := .w1c, reset := 0 }
def reg_GPIO_EVST : Reg := { off := 0x250010, flds := [GPIO_EVST_EDGE] }

def GPIO_EVEN_EN : Field := { off := 0x250014, hi := 31, lo := 0, acc := .rw, reset := 0 }
def reg_GPIO_EVEN : Reg := { off := 0x250014, flds := [GPIO_EVEN_EN] }

def GPIO_PIN_MODE : Field := { off := 0x250100, hi := 31, lo := 30, acc := .rwl, reset := 0, ok := [(0, 2)], str := 0x4 }
def GPIO_PIN_OSEL : Field := { off := 0x250100, hi := 29, lo := 26, acc := .rwl, reset := 0, ok := [(0, 9)], str := 0x4 }
def GPIO_PIN_POL : Field := { off := 0x250100, hi := 25, lo := 25, acc := .rw, reset := 0, str := 0x4 }
def GPIO_PIN_PULL : Field := { off := 0x250100, hi := 24, lo := 23, acc := .rw, reset := 0, ok := [(0, 2)], str := 0x4 }
def GPIO_PIN_DRV : Field := { off := 0x250100, hi := 22, lo := 21, acc := .rw, reset := 1, str := 0x4 }
def GPIO_PIN_EDGE : Field := { off := 0x250100, hi := 20, lo := 19, acc := .rw, reset := 0, str := 0x4 }
def GPIO_PIN_FILT : Field := { off := 0x250100, hi := 7, lo := 0, acc := .rw, reset := 0, ok := [(0, 250)], str := 0x4 }
def reg_GPIO_PIN : Reg := { off := 0x250100, str := 0x4, cnt := 32, flds := [GPIO_PIN_MODE, GPIO_PIN_OSEL, GPIO_PIN_POL, GPIO_PIN_PULL, GPIO_PIN_DRV, GPIO_PIN_EDGE, GPIO_PIN_FILT] }

def I2C_CFG_EN : Field := { off := 0x250200, hi := 31, lo := 31, acc := .rw, reset := 0, str := 0x10 }
def I2C_CFG_SPEED : Field := { off := 0x250200, hi := 30, lo := 30, acc := .rw, reset := 0, str := 0x10 }
def I2C_CFG_STRETCH : Field := { off := 0x250200, hi := 7, lo := 0, acc := .rw, reset := 25, ok := [(1, 100)], str := 0x10 }
def reg_I2C_CFG : Reg := { off := 0x250200, str := 0x10, cnt := 2, flds := [I2C_CFG_EN, I2C_CFG_SPEED, I2C_CFG_STRETCH] }

def I2C_CMD_GO : Field := { off := 0x250204, hi := 31, lo := 31, acc := .wo, reset := 0, str := 0x10 }
def I2C_CMD_START : Field := { off := 0x250204, hi := 30, lo := 30, acc := .wo, reset := 0, str := 0x10 }
def I2C_CMD_STOP : Field := { off := 0x250204, hi := 29, lo := 29, acc := .wo, reset := 0, str := 0x10 }
def I2C_CMD_READ : Field := { off := 0x250204, hi := 28, lo := 28, acc := .wo, reset := 0, str := 0x10 }
def I2C_CMD_NACK : Field := { off := 0x250204, hi := 27, lo := 27, acc := .wo, reset := 0, str := 0x10 }
def I2C_CMD_DATA : Field := { off := 0x250204, hi := 7, lo := 0, acc := .wo, reset := 0, str := 0x10 }
def reg_I2C_CMD : Reg := { off := 0x250204, str := 0x10, cnt := 2, flds := [I2C_CMD_GO, I2C_CMD_START, I2C_CMD_STOP, I2C_CMD_READ, I2C_CMD_NACK, I2C_CMD_DATA] }

def I2C_STAT_BUSY : Field := { off := 0x250208, hi := 31, lo := 31, acc := .ro, reset := 0, str := 0x10 }
def I2C_STAT_DONE : Field := { off := 0x250208, hi := 30, lo := 30, acc := .w1c, reset := 0, str := 0x10 }
def I2C_STAT_NACKRX : Field := { off := 0x250208, hi := 29, lo := 29, acc := .w1c, reset := 0, str := 0x10 }
def I2C_STAT_ARBLOST : Field := { off := 0x250208, hi := 28, lo := 28, acc := .w1c, reset := 0, str := 0x10 }
def I2C_STAT_TIMEOUT : Field := { off := 0x250208, hi := 27, lo := 27, acc := .w1c, reset := 0, str := 0x10 }
def I2C_STAT_BUSERR : Field := { off := 0x250208, hi := 26, lo := 26, acc := .w1c, reset := 0, str := 0x10 }
def I2C_STAT_RXDATA : Field := { off := 0x250208, hi := 7, lo := 0, acc := .ro, reset := 0, str := 0x10 }
def reg_I2C_STAT : Reg := { off := 0x250208, str := 0x10, cnt := 2, flds := [I2C_STAT_BUSY, I2C_STAT_DONE, I2C_STAT_NACKRX, I2C_STAT_ARBLOST, I2C_STAT_TIMEOUT, I2C_STAT_BUSERR, I2C_STAT_RXDATA] }

def MDIO_CFG_EN : Field := { off := 0x250240, hi := 31, lo := 31, acc := .rw, reset := 0 }
def MDIO_CFG_DIV : Field := { off := 0x250240, hi := 7, lo := 0, acc := .rw, reset := 20, ok := [(20, 250)] }
def reg_MDIO_CFG : Reg := { off := 0x250240, flds := [MDIO_CFG_EN, MDIO_CFG_DIV] }

def MDIO_CMD_GO : Field := { off := 0x250244, hi := 31, lo := 31, acc := .wo, reset := 0 }
def MDIO_CMD_C45 : Field := { off := 0x250244, hi := 30, lo := 30, acc := .wo, reset := 0 }
def MDIO_CMD_OP : Field := { off := 0x250244, hi := 29, lo := 28, acc := .wo, reset := 0 }
def MDIO_CMD_PRTAD : Field := { off := 0x250244, hi := 27, lo := 23, acc := .wo, reset := 0 }
def MDIO_CMD_DEVAD : Field := { off := 0x250244, hi := 22, lo := 18, acc := .wo, reset := 0 }
def MDIO_CMD_DATA : Field := { off := 0x250244, hi := 15, lo := 0, acc := .wo, reset := 0 }
def reg_MDIO_CMD : Reg := { off := 0x250244, flds := [MDIO_CMD_GO, MDIO_CMD_C45, MDIO_CMD_OP, MDIO_CMD_PRTAD, MDIO_CMD_DEVAD, MDIO_CMD_DATA] }

def MDIO_STAT_BUSY : Field := { off := 0x250248, hi := 31, lo := 31, acc := .ro, reset := 0 }
def MDIO_STAT_DONE : Field := { off := 0x250248, hi := 30, lo := 30, acc := .w1c, reset := 0 }
def MDIO_STAT_NORESP : Field := { off := 0x250248, hi := 29, lo := 29, acc := .w1c, reset := 0 }
def MDIO_STAT_RDATA : Field := { off := 0x250248, hi := 15, lo := 0, acc := .ro, reset := 0 }
def reg_MDIO_STAT : Reg := { off := 0x250248, flds := [MDIO_STAT_BUSY, MDIO_STAT_DONE, MDIO_STAT_NORESP, MDIO_STAT_RDATA] }

/-- The registers of the GPIO block. -/
def regsOf_GPIO : List Reg :=
  [reg_GPIO_CTRL, reg_GPIO_STAT, reg_GPIO_IN, reg_GPIO_OUT, reg_GPIO_EVST, reg_GPIO_EVEN, reg_GPIO_PIN, reg_I2C_CFG, reg_I2C_CMD, reg_I2C_STAT, reg_MDIO_CFG, reg_MDIO_CMD, reg_MDIO_STAT]

/-- The GPIO window (R45). -/
def block_GPIO : Block := { base := 0x250000, size := 0x10000, lock := some GPIO_CTRL_LOCK, regs := regsOf_GPIO }

end Sys2Proof.Machine
end

