-- ==== Sys2Proof/Machine/RegsHsw.lean ====
section
/-! DEFINITION. The register map of the HSW block: one definition for each field of its register tables in spec/18_power_entry.md (R465), and the list of its registers. Window base and size: R45. -/

namespace Sys2Proof.Machine

def HSW_CTRL_LOCK : Field := { off := 0x30000, hi := 31, lo := 31, acc := .w1s, reset := 0 }
def HSW_CTRL_USBCEN : Field := { off := 0x30000, hi := 30, lo := 30, acc := .rwl, reset := 1 }
def HSW_CTRL_FAEN : Field := { off := 0x30000, hi := 29, lo := 29, acc := .rwl, reset := 1 }
def HSW_CTRL_FBEN : Field := { off := 0x30000, hi := 28, lo := 28, acc := .rwl, reset := 1 }
def HSW_CTRL_CLRLATCH : Field := { off := 0x30000, hi := 27, lo := 27, acc := .wo, reset := 0 }
def HSW_CTRL_DVDT : Field := { off := 0x30000, hi := 22, lo := 16, acc := .rwl, reset := 5, ok := [(1, 100)] }
def HSW_CTRL_TFLT : Field := { off := 0x30000, hi := 6, lo := 0, acc := .rwl, reset := 20, ok := [(1, 100)] }
def reg_HSW_CTRL : Reg := { off := 0x30000, flds := [HSW_CTRL_LOCK, HSW_CTRL_USBCEN, HSW_CTRL_FAEN, HSW_CTRL_FBEN, HSW_CTRL_CLRLATCH, HSW_CTRL_DVDT, HSW_CTRL_TFLT] }

def HSW_STAT_STATE : Field := { off := 0x30004, hi := 31, lo := 28, acc := .ro, reset := 0 }
def HSW_STAT_SRC : Field := { off := 0x30004, hi := 27, lo := 26, acc := .ro, reset := 0 }
def HSW_STAT_FVA : Field := { off := 0x30004, hi := 25, lo := 25, acc := .ro, reset := 0 }
def HSW_STAT_FVB : Field := { off := 0x30004, hi := 24, lo := 24, acc := .ro, reset := 0 }
def HSW_STAT_SEATED : Field := { off := 0x30004, hi := 23, lo := 23, acc := .ro, reset := 0 }
def HSW_STAT_PATHGD : Field := { off := 0x30004, hi := 22, lo := 22, acc := .ro, reset := 0 }
def HSW_STAT_RETRIES : Field := { off := 0x30004, hi := 21, lo := 20, acc := .ro, reset := 0 }
def HSW_STAT_CALDEF : Field := { off := 0x30004, hi := 19, lo := 19, acc := .ro, reset := 0 }
def HSW_STAT_INLIM : Field := { off := 0x30004, hi := 18, lo := 18, acc := .ro, reset := 0 }
def HSW_STAT_DAMEV : Field := { off := 0x30004, hi := 7, lo := 7, acc := .w1c, reset := 0 }
def HSW_STAT_LATCHEV : Field := { off := 0x30004, hi := 6, lo := 6, acc := .w1c, reset := 0 }
def HSW_STAT_TRIPEV : Field := { off := 0x30004, hi := 5, lo := 5, acc := .w1c, reset := 0 }
def HSW_STAT_FTEV : Field := { off := 0x30004, hi := 4, lo := 4, acc := .w1c, reset := 0 }
def HSW_STAT_OVEV : Field := { off := 0x30004, hi := 3, lo := 3, acc := .w1c, reset := 0 }
def HSW_STAT_REVEV : Field := { off := 0x30004, hi := 2, lo := 2, acc := .w1c, reset := 0 }
def HSW_STAT_RMEV : Field := { off := 0x30004, hi := 1, lo := 1, acc := .w1c, reset := 0 }
def HSW_STAT_CMDREJ : Field := { off := 0x30004, hi := 0, lo := 0, acc := .w1c, reset := 0 }
def reg_HSW_STAT : Reg := { off := 0x30004, flds := [HSW_STAT_STATE, HSW_STAT_SRC, HSW_STAT_FVA, HSW_STAT_FVB, HSW_STAT_SEATED, HSW_STAT_PATHGD, HSW_STAT_RETRIES, HSW_STAT_CALDEF, HSW_STAT_INLIM, HSW_STAT_DAMEV, HSW_STAT_LATCHEV, HSW_STAT_TRIPEV, HSW_STAT_FTEV, HSW_STAT_OVEV, HSW_STAT_REVEV, HSW_STAT_RMEV, HSW_STAT_CMDREJ] }

def HSW_LIMIT_ILIM : Field := { off := 0x30008, hi := 27, lo := 16, acc := .rwl, reset := 500, ok := [(1, 4095)] }
def HSW_LIMIT_PLIM : Field := { off := 0x30008, hi := 11, lo := 0, acc := .rwl, reset := 400, ok := [(1, 4095)] }
def reg_HSW_LIMIT : Reg := { off := 0x30008, flds := [HSW_LIMIT_ILIM, HSW_LIMIT_PLIM] }

def HSW_FEEDCFG_UV : Field := { off := 0x3000c, hi := 24, lo := 16, acc := .rwl, reset := 56, ok := [(48, 240)] }
def HSW_FEEDCFG_OV : Field := { off := 0x3000c, hi := 8, lo := 0, acc := .rwl, reset := 264, ok := [(64, 280)] }
def reg_HSW_FEEDCFG : Reg := { off := 0x3000c, flds := [HSW_FEEDCFG_UV, HSW_FEEDCFG_OV] }

def HSW_CMD_OFF : Field := { off := 0x30010, hi := 31, lo := 31, acc := .wo, reset := 0 }
def HSW_CMD_ON : Field := { off := 0x30010, hi := 30, lo := 30, acc := .wo, reset := 0 }
def HSW_CMD_KEY : Field := { off := 0x30010, hi := 15, lo := 0, acc := .wo, reset := 0 }
def reg_HSW_CMD : Reg := { off := 0x30010, flds := [HSW_CMD_OFF, HSW_CMD_ON, HSW_CMD_KEY] }

def HSW_THR_LIMTHR : Field := { off := 0x30014, hi := 31, lo := 16, acc := .ro, reset := 2000 }
def HSW_THR_FTTHR : Field := { off := 0x30014, hi := 15, lo := 0, acc := .ro, reset := 4000 }
def reg_HSW_THR : Reg := { off := 0x30014, flds := [HSW_THR_LIMTHR, HSW_THR_FTTHR] }

def HSW_VMEAS0_VA : Field := { off := 0x30018, hi := 31, lo := 16, acc := .ro, reset := 0 }
def HSW_VMEAS0_VB : Field := { off := 0x30018, hi := 15, lo := 0, acc := .ro, reset := 0 }
def reg_HSW_VMEAS0 : Reg := { off := 0x30018, flds := [HSW_VMEAS0_VA, HSW_VMEAS0_VB] }

def HSW_VMEAS1_VC : Field := { off := 0x3001c, hi := 31, lo := 16, acc := .ro, reset := 0 }
def HSW_VMEAS1_VOUT : Field := { off := 0x3001c, hi := 15, lo := 0, acc := .ro, reset := 0 }
def reg_HSW_VMEAS1 : Reg := { off := 0x3001c, flds := [HSW_VMEAS1_VC, HSW_VMEAS1_VOUT] }

def HSW_SHUNT_SHUNT : Field := { off := 0x30020, hi := 19, lo := 0, acc := .rwl, reset := 0, str := 0x4, resets := [(0, 0, 5000), (3, 3, 10000), (4, 7, 20000)] }
def reg_HSW_SHUNT : Reg := { off := 0x30020, str := 0x4, cnt := 8, flds := [HSW_SHUNT_SHUNT] }

def HSW_CAL_GAIN : Field := { off := 0x30040, hi := 31, lo := 16, acc := .ro, reset := 0, str := 0x4 }
def HSW_CAL_OFFSET : Field := { off := 0x30040, hi := 15, lo := 0, acc := .ro, reset := 0, str := 0x4 }
def reg_HSW_CAL : Reg := { off := 0x30040, str := 0x4, cnt := 8, flds := [HSW_CAL_GAIN, HSW_CAL_OFFSET] }

def HSW_MEAS_I : Field := { off := 0x30060, hi := 31, lo := 16, acc := .ro, reset := 0, str := 0x4 }
def HSW_MEAS_RAW : Field := { off := 0x30060, hi := 15, lo := 0, acc := .ro, reset := 0, str := 0x4 }
def reg_HSW_MEAS : Reg := { off := 0x30060, str := 0x4, cnt := 8, flds := [HSW_MEAS_I, HSW_MEAS_RAW] }

def HSW_EFCFG_ILIMP3 : Field := { off := 0x30080, hi := 28, lo := 24, acc := .rw, reset := 22, ok := [(8, 24)] }
def HSW_EFCFG_ILIMP2 : Field := { off := 0x30080, hi := 20, lo := 16, acc := .rw, reset := 22, ok := [(8, 24)] }
def HSW_EFCFG_ILIMP1 : Field := { off := 0x30080, hi := 12, lo := 8, acc := .rw, reset := 22, ok := [(8, 24)] }
def HSW_EFCFG_ILIMP0 : Field := { off := 0x30080, hi := 4, lo := 0, acc := .rw, reset := 22, ok := [(8, 24)] }
def reg_HSW_EFCFG : Reg := { off := 0x30080, flds := [HSW_EFCFG_ILIMP3, HSW_EFCFG_ILIMP2, HSW_EFCFG_ILIMP1, HSW_EFCFG_ILIMP0] }

def HSW_EFSTAT_ON3 : Field := { off := 0x30084, hi := 31, lo := 31, acc := .ro, reset := 0 }
def HSW_EFSTAT_OC3 : Field := { off := 0x30084, hi := 30, lo := 30, acc := .w1c, reset := 0 }
def HSW_EFSTAT_FT3 : Field := { off := 0x30084, hi := 29, lo := 29, acc := .w1c, reset := 0 }
def HSW_EFSTAT_THERM3 : Field := { off := 0x30084, hi := 28, lo := 28, acc := .w1c, reset := 0 }
def HSW_EFSTAT_ON2 : Field := { off := 0x30084, hi := 23, lo := 23, acc := .ro, reset := 0 }
def HSW_EFSTAT_OC2 : Field := { off := 0x30084, hi := 22, lo := 22, acc := .w1c, reset := 0 }
def HSW_EFSTAT_FT2 : Field := { off := 0x30084, hi := 21, lo := 21, acc := .w1c, reset := 0 }
def HSW_EFSTAT_THERM2 : Field := { off := 0x30084, hi := 20, lo := 20, acc := .w1c, reset := 0 }
def HSW_EFSTAT_ON1 : Field := { off := 0x30084, hi := 15, lo := 15, acc := .ro, reset := 0 }
def HSW_EFSTAT_OC1 : Field := { off := 0x30084, hi := 14, lo := 14, acc := .w1c, reset := 0 }
def HSW_EFSTAT_FT1 : Field := { off := 0x30084, hi := 13, lo := 13, acc := .w1c, reset := 0 }
def HSW_EFSTAT_THERM1 : Field := { off := 0x30084, hi := 12, lo := 12, acc := .w1c, reset := 0 }
def HSW_EFSTAT_ON0 : Field := { off := 0x30084, hi := 7, lo := 7, acc := .ro, reset := 0 }
def HSW_EFSTAT_OC0 : Field := { off := 0x30084, hi := 6, lo := 6, acc := .w1c, reset := 0 }
def HSW_EFSTAT_FT0 : Field := { off := 0x30084, hi := 5, lo := 5, acc := .w1c, reset := 0 }
def HSW_EFSTAT_THERM0 : Field := { off := 0x30084, hi := 4, lo := 4, acc := .w1c, reset := 0 }
def reg_HSW_EFSTAT : Reg := { off := 0x30084, flds := [HSW_EFSTAT_ON3, HSW_EFSTAT_OC3, HSW_EFSTAT_FT3, HSW_EFSTAT_THERM3, HSW_EFSTAT_ON2, HSW_EFSTAT_OC2, HSW_EFSTAT_FT2, HSW_EFSTAT_THERM2, HSW_EFSTAT_ON1, HSW_EFSTAT_OC1, HSW_EFSTAT_FT1, HSW_EFSTAT_THERM1, HSW_EFSTAT_ON0, HSW_EFSTAT_OC0, HSW_EFSTAT_FT0, HSW_EFSTAT_THERM0] }

def HSW_CNT_COUNT : Field := { off := 0x300a0, hi := 31, lo := 0, acc := .ro, reset := 0, str := 0x4 }
def reg_HSW_CNT : Reg := { off := 0x300a0, str := 0x4, cnt := 8, flds := [HSW_CNT_COUNT] }

def HSW_CNTCLR_CLR : Field := { off := 0x300c0, hi := 7, lo := 0, acc := .wo, reset := 0 }
def reg_HSW_CNTCLR : Reg := { off := 0x300c0, flds := [HSW_CNTCLR_CLR] }

/-- The registers of the HSW block. -/
def regsOf_HSW : List Reg :=
  [reg_HSW_CTRL, reg_HSW_STAT, reg_HSW_LIMIT, reg_HSW_FEEDCFG, reg_HSW_CMD, reg_HSW_THR, reg_HSW_VMEAS0, reg_HSW_VMEAS1, reg_HSW_SHUNT, reg_HSW_CAL, reg_HSW_MEAS, reg_HSW_EFCFG, reg_HSW_EFSTAT, reg_HSW_CNT, reg_HSW_CNTCLR]

/-- The HSW window (R45). -/
def block_HSW : Block := { base := 0x30000, size := 0x10000, lock := some HSW_CTRL_LOCK, regs := regsOf_HSW }

end Sys2Proof.Machine
end

