-- ==== Sys2Proof/Machine/RegsKey.lean ====
section
/-! DEFINITION. The register map of the KEY block: one definition for each field of its register tables in spec/16_security.md (R426), and the list of its registers. Window base and size: R45. -/

namespace Sys2Proof.Machine

def KEY_CTRL_LOCK : Field := { off := 0x210000, hi := 31, lo := 31, acc := .w1s, reset := 0 }
def reg_KEY_CTRL : Reg := { off := 0x210000, flds := [KEY_CTRL_LOCK] }

def KEY_STAT_LC : Field := { off := 0x210004, hi := 31, lo := 29, acc := .ro, reset := 0 }
def KEY_STAT_ROOT : Field := { off := 0x210004, hi := 28, lo := 28, acc := .ro, reset := 0 }
def KEY_STAT_PUFOK : Field := { off := 0x210004, hi := 27, lo := 27, acc := .ro, reset := 0 }
def KEY_STAT_DEBUG : Field := { off := 0x210004, hi := 26, lo := 26, acc := .ro, reset := 0 }
def KEY_STAT_RESETREQ : Field := { off := 0x210004, hi := 25, lo := 25, acc := .ro, reset := 0 }
def KEY_STAT_DEBUGLOCK : Field := { off := 0x210004, hi := 24, lo := 24, acc := .ro, reset := 0 }
def KEY_STAT_SEALMAND : Field := { off := 0x210004, hi := 23, lo := 23, acc := .ro, reset := 0 }
def KEY_STAT_NOLEGACY : Field := { off := 0x210004, hi := 22, lo := 22, acc := .ro, reset := 0 }
def KEY_STAT_REVOKE : Field := { off := 0x210004, hi := 21, lo := 18, acc := .ro, reset := 0 }
def KEY_STAT_ROOTB : Field := { off := 0x210004, hi := 17, lo := 17, acc := .ro, reset := 0 }
def KEY_STAT_CMDREJ : Field := { off := 0x210004, hi := 16, lo := 16, acc := .w1c, reset := 0 }
def KEY_STAT_BARREJ : Field := { off := 0x210004, hi := 15, lo := 15, acc := .w1c, reset := 0 }
def KEY_STAT_ARB : Field := { off := 0x210004, hi := 6, lo := 0, acc := .ro, reset := 0 }
def reg_KEY_STAT : Reg := { off := 0x210004, flds := [KEY_STAT_LC, KEY_STAT_ROOT, KEY_STAT_PUFOK, KEY_STAT_DEBUG, KEY_STAT_RESETREQ, KEY_STAT_DEBUGLOCK, KEY_STAT_SEALMAND, KEY_STAT_NOLEGACY, KEY_STAT_REVOKE, KEY_STAT_ROOTB, KEY_STAT_CMDREJ, KEY_STAT_BARREJ, KEY_STAT_ARB] }

def KEY_CMD_GO : Field := { off := 0x210008, hi := 31, lo := 31, acc := .wo, reset := 0 }
def KEY_CMD_OP : Field := { off := 0x210008, hi := 28, lo := 24, acc := .wo, reset := 0 }
def KEY_CMD_A : Field := { off := 0x210008, hi := 22, lo := 16, acc := .wo, reset := 0 }
def KEY_CMD_B : Field := { off := 0x210008, hi := 14, lo := 8, acc := .wo, reset := 0 }
def reg_KEY_CMD : Reg := { off := 0x210008, flds := [KEY_CMD_GO, KEY_CMD_OP, KEY_CMD_A, KEY_CMD_B] }

def KEY_CMDSTAT_BUSY : Field := { off := 0x21000c, hi := 31, lo := 31, acc := .ro, reset := 0 }
def KEY_CMDSTAT_DONE : Field := { off := 0x21000c, hi := 30, lo := 30, acc := .w1c, reset := 0 }
def KEY_CMDSTAT_CODE : Field := { off := 0x21000c, hi := 4, lo := 0, acc := .ro, reset := 0 }
def reg_KEY_CMDSTAT : Reg := { off := 0x21000c, flds := [KEY_CMDSTAT_BUSY, KEY_CMDSTAT_DONE, KEY_CMDSTAT_CODE] }

def KEY_IN_ADDR : Field := { off := 0x210010, hi := 31, lo := 0, acc := .rw, reset := 0 }
def reg_KEY_IN : Reg := { off := 0x210010, flds := [KEY_IN_ADDR] }

def KEY_INLEN_LEN : Field := { off := 0x210014, hi := 16, lo := 0, acc := .rw, reset := 0 }
def reg_KEY_INLEN : Reg := { off := 0x210014, flds := [KEY_INLEN_LEN] }

def KEY_OUT_ADDR : Field := { off := 0x210018, hi := 31, lo := 0, acc := .rw, reset := 0 }
def reg_KEY_OUT : Reg := { off := 0x210018, flds := [KEY_OUT_ADDR] }

def KEY_OUTLEN_LEN : Field := { off := 0x21001c, hi := 16, lo := 0, acc := .ro, reset := 0 }
def reg_KEY_OUTLEN : Reg := { off := 0x21001c, flds := [KEY_OUTLEN_LEN] }

def KEY_POL_USAGE : Field := { off := 0x210020, hi := 4, lo := 0, acc := .rw, reset := 0 }
def reg_KEY_POL : Reg := { off := 0x210020, flds := [KEY_POL_USAGE] }

def KEY_CNT_COUNT : Field := { off := 0x210040, hi := 31, lo := 0, acc := .ro, reset := 0, str := 0x4 }
def reg_KEY_CNT : Reg := { off := 0x210040, str := 0x4, cnt := 4, flds := [KEY_CNT_COUNT] }

def KEY_CNTCLR_CLR : Field := { off := 0x210060, hi := 3, lo := 0, acc := .wo, reset := 0 }
def reg_KEY_CNTCLR : Reg := { off := 0x210060, flds := [KEY_CNTCLR_CLR] }

def KEY_SLOT_STATE : Field := { off := 0x210100, hi := 31, lo := 30, acc := .ro, reset := 0, str := 0x4 }
def KEY_SLOT_PAIR : Field := { off := 0x210100, hi := 29, lo := 29, acc := .ro, reset := 0, str := 0x4 }
def KEY_SLOT_INUSE : Field := { off := 0x210100, hi := 28, lo := 28, acc := .ro, reset := 0, str := 0x4 }
def KEY_SLOT_USAGE : Field := { off := 0x210100, hi := 4, lo := 0, acc := .ro, reset := 0, str := 0x4 }
def reg_KEY_SLOT : Reg := { off := 0x210100, str := 0x4, cnt := 64, flds := [KEY_SLOT_STATE, KEY_SLOT_PAIR, KEY_SLOT_INUSE, KEY_SLOT_USAGE] }

/-- The registers of the KEY block. -/
def regsOf_KEY : List Reg :=
  [reg_KEY_CTRL, reg_KEY_STAT, reg_KEY_CMD, reg_KEY_CMDSTAT, reg_KEY_IN, reg_KEY_INLEN, reg_KEY_OUT, reg_KEY_OUTLEN, reg_KEY_POL, reg_KEY_CNT, reg_KEY_CNTCLR, reg_KEY_SLOT]

/-- The KEY window (R45). -/
def block_KEY : Block := { base := 0x210000, size := 0x10000, lock := some KEY_CTRL_LOCK, regs := regsOf_KEY }

end Sys2Proof.Machine
end

