-- ==== Sys2Proof/Machine/RegsLne.lean ====
section
/-! DEFINITION. The register map of the LNE block: one definition for each field of its register tables in spec/05_serial_lanes.md (R140), and the list of its registers. Window base and size: R45. -/

namespace Sys2Proof.Machine

def LNE_CTRL_EN : Field := { off := 0xc0000, hi := 31, lo := 31, acc := .rw, reset := 0, str := 0x400 }
def LNE_CTRL_RATE : Field := { off := 0xc0000, hi := 27, lo := 24, acc := .ro, reset := 0, str := 0x400, resets := [(16, 23, 5), (24, 27, 1)] }
def LNE_CTRL_AUTOPOL : Field := { off := 0xc0000, hi := 19, lo := 19, acc := .rw, reset := 1, str := 0x400 }
def LNE_CTRL_RXPOL : Field := { off := 0xc0000, hi := 18, lo := 18, acc := .rwl, reset := 0, str := 0x400 }
def LNE_CTRL_TXPOL : Field := { off := 0xc0000, hi := 17, lo := 17, acc := .rwl, reset := 0, str := 0x400 }
def LNE_CTRL_MODE : Field := { off := 0xc0000, hi := 1, lo := 0, acc := .rw, reset := 0, ok := [(0, 2)], str := 0x400 }
def reg_LNE_CTRL : Reg := { off := 0xc0000, str := 0x400, cnt := 28, flds := [LNE_CTRL_EN, LNE_CTRL_RATE, LNE_CTRL_AUTOPOL, LNE_CTRL_RXPOL, LNE_CTRL_TXPOL, LNE_CTRL_MODE] }

def LNE_STAT_STATE : Field := { off := 0xc0004, hi := 31, lo := 29, acc := .ro, reset := 0, str := 0x400 }
def LNE_STAT_LOS : Field := { off := 0xc0004, hi := 28, lo := 28, acc := .ro, reset := 1, str := 0x400 }
def LNE_STAT_CDRLK : Field := { off := 0xc0004, hi := 27, lo := 27, acc := .ro, reset := 0, str := 0x400 }
def LNE_STAT_RXINV : Field := { off := 0xc0004, hi := 26, lo := 26, acc := .ro, reset := 0, str := 0x400 }
def LNE_STAT_PD : Field := { off := 0xc0004, hi := 25, lo := 25, acc := .ro, reset := 0, str := 0x400 }
def LNE_STAT_LANE : Field := { off := 0xc0004, hi := 24, lo := 23, acc := .ro, reset := 0, str := 0x400 }
def LNE_STAT_ESREJ : Field := { off := 0xc0004, hi := 22, lo := 22, acc := .w1c, reset := 0, str := 0x400 }
def LNE_STAT_EQREJ : Field := { off := 0xc0004, hi := 21, lo := 21, acc := .w1c, reset := 0, str := 0x400 }
def LNE_STAT_MODEREJ : Field := { off := 0xc0004, hi := 20, lo := 20, acc := .w1c, reset := 0, str := 0x400 }
def LNE_STAT_RATEREJ : Field := { off := 0xc0004, hi := 19, lo := 19, acc := .w1c, reset := 0, str := 0x400 }
def LNE_STAT_LOCKLOST : Field := { off := 0xc0004, hi := 18, lo := 18, acc := .w1c, reset := 0, str := 0x400 }
def LNE_STAT_ALIGNFAIL : Field := { off := 0xc0004, hi := 17, lo := 17, acc := .w1c, reset := 0, str := 0x400 }
def LNE_STAT_LOSEV : Field := { off := 0xc0004, hi := 16, lo := 16, acc := .w1c, reset := 0, str := 0x400 }
def reg_LNE_STAT : Reg := { off := 0xc0004, str := 0x400, cnt := 28, flds := [LNE_STAT_STATE, LNE_STAT_LOS, LNE_STAT_CDRLK, LNE_STAT_RXINV, LNE_STAT_PD, LNE_STAT_LANE, LNE_STAT_ESREJ, LNE_STAT_EQREJ, LNE_STAT_MODEREJ, LNE_STAT_RATEREJ, LNE_STAT_LOCKLOST, LNE_STAT_ALIGNFAIL, LNE_STAT_LOSEV] }

def LNE_TXEQ_PRE : Field := { off := 0xc0008, hi := 21, lo := 16, acc := .rwl, reset := 4, ok := [(0, 15)], str := 0x400 }
def LNE_TXEQ_MAIN : Field := { off := 0xc0008, hi := 13, lo := 8, acc := .rwl, reset := 48, str := 0x400 }
def LNE_TXEQ_POST : Field := { off := 0xc0008, hi := 4, lo := 0, acc := .rwl, reset := 12, str := 0x400 }
def reg_LNE_TXEQ : Reg := { off := 0xc0008, str := 0x400, cnt := 28, flds := [LNE_TXEQ_PRE, LNE_TXEQ_MAIN, LNE_TXEQ_POST] }

def LNE_RXCFG_ADAPT : Field := { off := 0xc000c, hi := 31, lo := 31, acc := .rw, reset := 1, str := 0x400 }
def LNE_RXCFG_CDRBW : Field := { off := 0xc000c, hi := 26, lo := 24, acc := .rw, reset := 2, ok := [(0, 5)], str := 0x400 }
def LNE_RXCFG_LOSTHR : Field := { off := 0xc000c, hi := 15, lo := 8, acc := .rw, reset := 40, ok := [(10, 100)], str := 0x400 }
def reg_LNE_RXCFG : Reg := { off := 0xc000c, str := 0x400, cnt := 28, flds := [LNE_RXCFG_ADAPT, LNE_RXCFG_CDRBW, LNE_RXCFG_LOSTHR] }

def LNE_PRBS_GEN : Field := { off := 0xc0010, hi := 31, lo := 31, acc := .rw, reset := 0, str := 0x400 }
def LNE_PRBS_CHK : Field := { off := 0xc0010, hi := 30, lo := 30, acc := .rw, reset := 0, str := 0x400 }
def LNE_PRBS_PAT : Field := { off := 0xc0010, hi := 29, lo := 28, acc := .rw, reset := 2, ok := [(0, 2)], str := 0x400 }
def LNE_PRBS_INV : Field := { off := 0xc0010, hi := 27, lo := 27, acc := .rw, reset := 0, str := 0x400 }
def LNE_PRBS_CHKLK : Field := { off := 0xc0010, hi := 26, lo := 26, acc := .ro, reset := 0, str := 0x400 }
def LNE_PRBS_CHKLOST : Field := { off := 0xc0010, hi := 25, lo := 25, acc := .w1c, reset := 0, str := 0x400 }
def LNE_PRBS_INJ : Field := { off := 0xc0010, hi := 24, lo := 24, acc := .wo, reset := 0, str := 0x400 }
def LNE_PRBS_RELOCK : Field := { off := 0xc0010, hi := 15, lo := 0, acc := .ro, reset := 0, str := 0x400 }
def reg_LNE_PRBS : Reg := { off := 0xc0010, str := 0x400, cnt := 28, flds := [LNE_PRBS_GEN, LNE_PRBS_CHK, LNE_PRBS_PAT, LNE_PRBS_INV, LNE_PRBS_CHKLK, LNE_PRBS_CHKLOST, LNE_PRBS_INJ, LNE_PRBS_RELOCK] }

def LNE_PRBS_ERR_COUNT : Field := { off := 0xc0014, hi := 31, lo := 0, acc := .ro, reset := 0, str := 0x400 }
def reg_LNE_PRBS_ERR : Reg := { off := 0xc0014, str := 0x400, cnt := 28, flds := [LNE_PRBS_ERR_COUNT] }

def LNE_PRBS_BITS_LO_BITS_LO : Field := { off := 0xc0018, hi := 31, lo := 0, acc := .ro, reset := 0, str := 0x400 }
def reg_LNE_PRBS_BITS_LO : Reg := { off := 0xc0018, str := 0x400, cnt := 28, flds := [LNE_PRBS_BITS_LO_BITS_LO] }

def LNE_PRBS_BITS_HI_BITS_HI : Field := { off := 0xc001c, hi := 15, lo := 0, acc := .ro, reset := 0, str := 0x400 }
def reg_LNE_PRBS_BITS_HI : Reg := { off := 0xc001c, str := 0x400, cnt := 28, flds := [LNE_PRBS_BITS_HI_BITS_HI] }

def LNE_ES_CTRL_GO : Field := { off := 0xc0020, hi := 31, lo := 31, acc := .wo, reset := 0, str := 0x400 }
def LNE_ES_CTRL_ABORT : Field := { off := 0xc0020, hi := 30, lo := 30, acc := .wo, reset := 0, str := 0x400 }
def LNE_ES_CTRL_CNTEXP : Field := { off := 0xc0020, hi := 29, lo := 24, acc := .rw, reset := 30, ok := [(20, 40)], str := 0x400 }
def LNE_ES_CTRL_PHASE : Field := { off := 0xc0020, hi := 21, lo := 16, acc := .rw, reset := 0, str := 0x400 }
def LNE_ES_CTRL_VOFS : Field := { off := 0xc0020, hi := 14, lo := 8, acc := .rw, reset := 0, str := 0x400 }
def reg_LNE_ES_CTRL : Reg := { off := 0xc0020, str := 0x400, cnt := 28, flds := [LNE_ES_CTRL_GO, LNE_ES_CTRL_ABORT, LNE_ES_CTRL_CNTEXP, LNE_ES_CTRL_PHASE, LNE_ES_CTRL_VOFS] }

def LNE_ES_STAT_BUSY : Field := { off := 0xc0024, hi := 31, lo := 31, acc := .ro, reset := 0, str := 0x400 }
def LNE_ES_STAT_DONE : Field := { off := 0xc0024, hi := 30, lo := 30, acc := .w1c, reset := 0, str := 0x400 }
def LNE_ES_STAT_ERR : Field := { off := 0xc0024, hi := 29, lo := 28, acc := .ro, reset := 0, str := 0x400 }
def reg_LNE_ES_STAT : Reg := { off := 0xc0024, str := 0x400, cnt := 28, flds := [LNE_ES_STAT_BUSY, LNE_ES_STAT_DONE, LNE_ES_STAT_ERR] }

def LNE_ES_ERR_LO_COUNT_LO : Field := { off := 0xc0028, hi := 31, lo := 0, acc := .ro, reset := 0, str := 0x400 }
def reg_LNE_ES_ERR_LO : Reg := { off := 0xc0028, str := 0x400, cnt := 28, flds := [LNE_ES_ERR_LO_COUNT_LO] }

def LNE_ES_ERR_HI_COUNT_HI : Field := { off := 0xc002c, hi := 15, lo := 0, acc := .ro, reset := 0, str := 0x400 }
def reg_LNE_ES_ERR_HI : Reg := { off := 0xc002c, str := 0x400, cnt := 28, flds := [LNE_ES_ERR_HI_COUNT_HI] }

def LNE_ES_BITS_LO_COUNT_LO : Field := { off := 0xc0030, hi := 31, lo := 0, acc := .ro, reset := 0, str := 0x400 }
def reg_LNE_ES_BITS_LO : Reg := { off := 0xc0030, str := 0x400, cnt := 28, flds := [LNE_ES_BITS_LO_COUNT_LO] }

def LNE_ES_BITS_HI_COUNT_HI : Field := { off := 0xc0034, hi := 15, lo := 0, acc := .ro, reset := 0, str := 0x400 }
def reg_LNE_ES_BITS_HI : Reg := { off := 0xc0034, str := 0x400, cnt := 28, flds := [LNE_ES_BITS_HI_COUNT_HI] }

def LNE_CNT_HDR_COUNT : Field := { off := 0xc0038, hi := 31, lo := 0, acc := .ro, reset := 0, str := 0x400 }
def reg_LNE_CNT_HDR : Reg := { off := 0xc0038, str := 0x400, cnt := 28, flds := [LNE_CNT_HDR_COUNT] }

def LNE_CNT_BIP_COUNT : Field := { off := 0xc003c, hi := 31, lo := 0, acc := .ro, reset := 0, str := 0x400 }
def reg_LNE_CNT_BIP : Reg := { off := 0xc003c, str := 0x400, cnt := 28, flds := [LNE_CNT_BIP_COUNT] }

def LNE_CNT_ACQ_LOCKLOSS : Field := { off := 0xc0040, hi := 31, lo := 16, acc := .ro, reset := 0, str := 0x400 }
def LNE_CNT_ACQ_ACQFAIL : Field := { off := 0xc0040, hi := 15, lo := 0, acc := .ro, reset := 0, str := 0x400 }
def reg_LNE_CNT_ACQ : Reg := { off := 0xc0040, str := 0x400, cnt := 28, flds := [LNE_CNT_ACQ_LOCKLOSS, LNE_CNT_ACQ_ACQFAIL] }

def LNE_SKEW_BLOCKS : Field := { off := 0xc0044, hi := 22, lo := 16, acc := .ro, reset := 0, str := 0x400 }
def LNE_SKEW_UI : Field := { off := 0xc0044, hi := 6, lo := 0, acc := .ro, reset := 0, str := 0x400 }
def reg_LNE_SKEW : Reg := { off := 0xc0044, str := 0x400, cnt := 28, flds := [LNE_SKEW_BLOCKS, LNE_SKEW_UI] }

def LNE_CNTCLR_PRBS : Field := { off := 0xc0048, hi := 3, lo := 3, acc := .wo, reset := 0, str := 0x400 }
def LNE_CNTCLR_ACQ : Field := { off := 0xc0048, hi := 2, lo := 2, acc := .wo, reset := 0, str := 0x400 }
def LNE_CNTCLR_BIP : Field := { off := 0xc0048, hi := 1, lo := 1, acc := .wo, reset := 0, str := 0x400 }
def LNE_CNTCLR_HDR : Field := { off := 0xc0048, hi := 0, lo := 0, acc := .wo, reset := 0, str := 0x400 }
def reg_LNE_CNTCLR : Reg := { off := 0xc0048, str := 0x400, cnt := 28, flds := [LNE_CNTCLR_PRBS, LNE_CNTCLR_ACQ, LNE_CNTCLR_BIP, LNE_CNTCLR_HDR] }

def LNE_GLB_LOCK_LOCK : Field := { off := 0xc8000, hi := 0, lo := 0, acc := .w1s, reset := 0 }
def reg_LNE_GLB_LOCK : Reg := { off := 0xc8000, flds := [LNE_GLB_LOCK_LOCK] }

def LNE_GLB_VSTEP_VSTEP : Field := { off := 0xc8004, hi := 7, lo := 0, acc := .ro, reset := 0 }
def reg_LNE_GLB_VSTEP : Reg := { off := 0xc8004, flds := [LNE_GLB_VSTEP_VSTEP] }

def LNE_BOND_STATE : Field := { off := 0xc8010, hi := 31, lo := 30, acc := .ro, reset := 0, str := 0x4 }
def LNE_BOND_WIDTH : Field := { off := 0xc8010, hi := 29, lo := 28, acc := .ro, reset := 0, str := 0x4 }
def LNE_BOND_FAIL : Field := { off := 0xc8010, hi := 27, lo := 26, acc := .ro, reset := 0, str := 0x4 }
def LNE_BOND_FAILS : Field := { off := 0xc8010, hi := 15, lo := 0, acc := .cnt, reset := 0, str := 0x4 }
def reg_LNE_BOND : Reg := { off := 0xc8010, str := 0x4, cnt := 4, flds := [LNE_BOND_STATE, LNE_BOND_WIDTH, LNE_BOND_FAIL, LNE_BOND_FAILS] }

/-- The registers of the LNE block. -/
def regsOf_LNE : List Reg :=
  [reg_LNE_CTRL, reg_LNE_STAT, reg_LNE_TXEQ, reg_LNE_RXCFG, reg_LNE_PRBS, reg_LNE_PRBS_ERR, reg_LNE_PRBS_BITS_LO, reg_LNE_PRBS_BITS_HI, reg_LNE_ES_CTRL, reg_LNE_ES_STAT, reg_LNE_ES_ERR_LO, reg_LNE_ES_ERR_HI, reg_LNE_ES_BITS_LO, reg_LNE_ES_BITS_HI, reg_LNE_CNT_HDR, reg_LNE_CNT_BIP, reg_LNE_CNT_ACQ, reg_LNE_SKEW, reg_LNE_CNTCLR, reg_LNE_GLB_LOCK, reg_LNE_GLB_VSTEP, reg_LNE_BOND]

/-- The LNE window (R45). -/
def block_LNE : Block := { base := 0xc0000, size := 0x10000, lock := some LNE_GLB_LOCK_LOCK, regs := regsOf_LNE }

end Sys2Proof.Machine
end

