-- ==== Sys2Proof/Machine/RegsPcx.lean ====
section
/-! DEFINITION. The register map of the PCX block: one definition for each field of its register tables in spec/14_host_interface.md (R368), and the list of its registers. Window base and size: R45. -/

namespace Sys2Proof.Machine

def PCX_CTRL_LOCK : Field := { off := 0x60000, hi := 31, lo := 31, acc := .w1s, reset := 0 }
def PCX_CTRL_EN : Field := { off := 0x60000, hi := 30, lo := 30, acc := .rw, reset := 0 }
def PCX_CTRL_ROLE : Field := { off := 0x60000, hi := 29, lo := 29, acc := .ro, reset := 0 }
def PCX_CTRL_MAXSPD : Field := { off := 0x60000, hi := 28, lo := 27, acc := .rwl, reset := 3, ok := [(1, 3)] }
def PCX_CTRL_MAXW : Field := { off := 0x60000, hi := 26, lo := 25, acc := .rwl, reset := 3, ok := [(1, 3)] }
def PCX_CTRL_BAR4SZ : Field := { off := 0x60000, hi := 19, lo := 16, acc := .rwl, reset := 0, ok := [(0, 13)] }
def reg_PCX_CTRL : Reg := { off := 0x60000, flds := [PCX_CTRL_LOCK, PCX_CTRL_EN, PCX_CTRL_ROLE, PCX_CTRL_MAXSPD, PCX_CTRL_MAXW, PCX_CTRL_BAR4SZ] }

def PCX_STAT_LINKUP : Field := { off := 0x60004, hi := 31, lo := 31, acc := .ro, reset := 0 }
def PCX_STAT_SPEED : Field := { off := 0x60004, hi := 30, lo := 29, acc := .ro, reset := 0 }
def PCX_STAT_WIDTH : Field := { off := 0x60004, hi := 28, lo := 27, acc := .ro, reset := 0 }
def PCX_STAT_DLEV : Field := { off := 0x60004, hi := 26, lo := 26, acc := .w1c, reset := 0 }
def PCX_STAT_FLREV : Field := { off := 0x60004, hi := 25, lo := 25, acc := .w1c, reset := 0 }
def PCX_STAT_HOTRST : Field := { off := 0x60004, hi := 24, lo := 24, acc := .w1c, reset := 0 }
def PCX_STAT_D3 : Field := { off := 0x60004, hi := 23, lo := 23, acc := .ro, reset := 0 }
def reg_PCX_STAT : Reg := { off := 0x60004, flds := [PCX_STAT_LINKUP, PCX_STAT_SPEED, PCX_STAT_WIDTH, PCX_STAT_DLEV, PCX_STAT_FLREV, PCX_STAT_HOTRST, PCX_STAT_D3] }

def PCX_ID_SSVID : Field := { off := 0x60008, hi := 31, lo := 16, acc := .rwl, reset := 0 }
def PCX_ID_SSID : Field := { off := 0x60008, hi := 15, lo := 0, acc := .rwl, reset := 0 }
def reg_PCX_ID : Reg := { off := 0x60008, flds := [PCX_ID_SSVID, PCX_ID_SSID] }

def PCX_CNT_COUNT : Field := { off := 0x60010, hi := 31, lo := 0, acc := .ro, reset := 0, str := 0x4 }
def reg_PCX_CNT : Reg := { off := 0x60010, str := 0x4, cnt := 3, flds := [PCX_CNT_COUNT] }

def PCX_CNTCLR_CLR : Field := { off := 0x6001c, hi := 2, lo := 0, acc := .wo, reset := 0 }
def reg_PCX_CNTCLR : Reg := { off := 0x6001c, flds := [PCX_CNTCLR_CLR] }

def PCX_MSIX_ADDRLO_ADDR : Field := { off := 0x68000, hi := 31, lo := 2, acc := .rw, reset := 0, str := 0x10 }
def reg_PCX_MSIX_ADDRLO : Reg := { off := 0x68000, str := 0x10, cnt := 128, flds := [PCX_MSIX_ADDRLO_ADDR] }

def PCX_MSIX_ADDRHI_ADDR : Field := { off := 0x68004, hi := 31, lo := 0, acc := .rw, reset := 0, str := 0x10 }
def reg_PCX_MSIX_ADDRHI : Reg := { off := 0x68004, str := 0x10, cnt := 128, flds := [PCX_MSIX_ADDRHI_ADDR] }

def PCX_MSIX_DATA_DATA : Field := { off := 0x68008, hi := 31, lo := 0, acc := .rw, reset := 0, str := 0x10 }
def reg_PCX_MSIX_DATA : Reg := { off := 0x68008, str := 0x10, cnt := 128, flds := [PCX_MSIX_DATA_DATA] }

def PCX_MSIX_CTRL_MASK : Field := { off := 0x6800c, hi := 0, lo := 0, acc := .rw, reset := 1, str := 0x10 }
def reg_PCX_MSIX_CTRL : Reg := { off := 0x6800c, str := 0x10, cnt := 128, flds := [PCX_MSIX_CTRL_MASK] }

def PCX_MSIX_PBA_PENDING : Field := { off := 0x69000, hi := 31, lo := 0, acc := .ro, reset := 0, str := 0x4 }
def reg_PCX_MSIX_PBA : Reg := { off := 0x69000, str := 0x4, cnt := 4, flds := [PCX_MSIX_PBA_PENDING] }

/-- The registers of the PCX block. -/
def regsOf_PCX : List Reg :=
  [reg_PCX_CTRL, reg_PCX_STAT, reg_PCX_ID, reg_PCX_CNT, reg_PCX_CNTCLR, reg_PCX_MSIX_ADDRLO, reg_PCX_MSIX_ADDRHI, reg_PCX_MSIX_DATA, reg_PCX_MSIX_CTRL, reg_PCX_MSIX_PBA]

/-- The PCX window (R45). -/
def block_PCX : Block := { base := 0x60000, size := 0x10000, lock := some PCX_CTRL_LOCK, regs := regsOf_PCX }

end Sys2Proof.Machine
end

