-- ==== Sys2Proof/Machine/RegsPwr.lean ====
section
/-! DEFINITION. The register map of the PWR block: one definition for each field of its register tables in spec/20_power_states.md (R497), and the list of its registers. Window base and size: R45. -/

namespace Sys2Proof.Machine

def PWR_CTRL_LOCK : Field := { off := 0x20000, hi := 31, lo := 31, acc := .w1s, reset := 0 }
def reg_PWR_CTRL : Reg := { off := 0x20000, flds := [PWR_CTRL_LOCK] }

def PWR_CMD_GO : Field := { off := 0x20004, hi := 31, lo := 31, acc := .wo, reset := 0 }
def PWR_CMD_STATE : Field := { off := 0x20004, hi := 18, lo := 16, acc := .wo, reset := 0 }
def PWR_CMD_KEY : Field := { off := 0x20004, hi := 15, lo := 0, acc := .wo, reset := 0 }
def reg_PWR_CMD : Reg := { off := 0x20004, flds := [PWR_CMD_GO, PWR_CMD_STATE, PWR_CMD_KEY] }

def PWR_CFG_RUNOP : Field := { off := 0x20008, hi := 25, lo := 24, acc := .rwl, reset := 0 }
def PWR_CFG_TRIMOP : Field := { off := 0x20008, hi := 21, lo := 20, acc := .rwl, reset := 2 }
def PWR_CFG_HUSHOP : Field := { off := 0x20008, hi := 17, lo := 16, acc := .rwl, reset := 3 }
def PWR_CFG_MARGIN : Field := { off := 0x20008, hi := 15, lo := 8, acc := .rwl, reset := 25, ok := [(0, 100)] }
def PWR_CFG_AVSTO : Field := { off := 0x20008, hi := 7, lo := 0, acc := .rw, reset := 10, ok := [(1, 100)] }
def reg_PWR_CFG : Reg := { off := 0x20008, flds := [PWR_CFG_RUNOP, PWR_CFG_TRIMOP, PWR_CFG_HUSHOP, PWR_CFG_MARGIN, PWR_CFG_AVSTO] }

def PWR_STAT_STATE : Field := { off := 0x2000c, hi := 31, lo := 29, acc := .ro, reset := 0 }
def PWR_STAT_OP : Field := { off := 0x2000c, hi := 28, lo := 27, acc := .ro, reset := 0 }
def PWR_STAT_BUSY : Field := { off := 0x2000c, hi := 26, lo := 26, acc := .ro, reset := 0 }
def PWR_STAT_CODE : Field := { off := 0x2000c, hi := 23, lo := 20, acc := .ro, reset := 0 }
def PWR_STAT_REFBLK : Field := { off := 0x2000c, hi := 12, lo := 8, acc := .ro, reset := 0 }
def PWR_STAT_DONEEV : Field := { off := 0x2000c, hi := 4, lo := 4, acc := .w1c, reset := 0 }
def PWR_STAT_REFEV : Field := { off := 0x2000c, hi := 3, lo := 3, acc := .w1c, reset := 0 }
def PWR_STAT_AVSEV : Field := { off := 0x2000c, hi := 2, lo := 2, acc := .w1c, reset := 0 }
def PWR_STAT_WAKEEV : Field := { off := 0x2000c, hi := 1, lo := 1, acc := .w1c, reset := 0 }
def PWR_STAT_CMDREJ : Field := { off := 0x2000c, hi := 0, lo := 0, acc := .w1c, reset := 0 }
def reg_PWR_STAT : Reg := { off := 0x2000c, flds := [PWR_STAT_STATE, PWR_STAT_OP, PWR_STAT_BUSY, PWR_STAT_CODE, PWR_STAT_REFBLK, PWR_STAT_DONEEV, PWR_STAT_REFEV, PWR_STAT_AVSEV, PWR_STAT_WAKEEV, PWR_STAT_CMDREJ] }

def PWR_WAKE_EN : Field := { off := 0x20010, hi := 5, lo := 0, acc := .rw, reset := 5 }
def reg_PWR_WAKE : Reg := { off := 0x20010, flds := [PWR_WAKE_EN] }

def PWR_WCAUSE_CAUSE : Field := { off := 0x20014, hi := 5, lo := 0, acc := .w1c, reset := 0 }
def reg_PWR_WCAUSE : Reg := { off := 0x20014, flds := [PWR_WCAUSE_CAUSE] }

def PWR_WTIMER_MS : Field := { off := 0x20018, hi := 31, lo := 0, acc := .rw, reset := 0x36ee80, ok := [(1, 4294967295)] }
def reg_PWR_WTIMER : Reg := { off := 0x20018, flds := [PWR_WTIMER_MS] }

def PWR_FWACK_ANS : Field := { off := 0x2001c, hi := 1, lo := 0, acc := .wo, reset := 0 }
def reg_PWR_FWACK : Reg := { off := 0x2001c, flds := [PWR_FWACK_ANS] }

def PWR_OPV_VNOM : Field := { off := 0x20020, hi := 29, lo := 20, acc := .ro, reset := 850, str := 0x4, resets := [(1, 1, 800), (2, 2, 720), (3, 3, 650)] }
def PWR_OPV_VMIN : Field := { off := 0x20020, hi := 19, lo := 10, acc := .ro, reset := 0, str := 0x4 }
def PWR_OPV_TARGET : Field := { off := 0x20020, hi := 9, lo := 0, acc := .ro, reset := 850, str := 0x4, resets := [(1, 1, 800), (2, 2, 720), (3, 3, 650)] }
def reg_PWR_OPV : Reg := { off := 0x20020, str := 0x4, cnt := 4, flds := [PWR_OPV_VNOM, PWR_OPV_VMIN, PWR_OPV_TARGET] }

def PWR_CNT_COUNT : Field := { off := 0x20040, hi := 31, lo := 0, acc := .ro, reset := 0, str := 0x4 }
def reg_PWR_CNT : Reg := { off := 0x20040, str := 0x4, cnt := 4, flds := [PWR_CNT_COUNT] }

def PWR_CNTCLR_CLR : Field := { off := 0x20060, hi := 3, lo := 0, acc := .wo, reset := 0 }
def reg_PWR_CNTCLR : Reg := { off := 0x20060, flds := [PWR_CNTCLR_CLR] }

/-- The registers of the PWR block. -/
def regsOf_PWR : List Reg :=
  [reg_PWR_CTRL, reg_PWR_CMD, reg_PWR_CFG, reg_PWR_STAT, reg_PWR_WAKE, reg_PWR_WCAUSE, reg_PWR_WTIMER, reg_PWR_FWACK, reg_PWR_OPV, reg_PWR_CNT, reg_PWR_CNTCLR]

/-- The PWR window (R45). -/
def block_PWR : Block := { base := 0x20000, size := 0x10000, lock := some PWR_CTRL_LOCK, regs := regsOf_PWR }

end Sys2Proof.Machine
end

