-- ==== Sys2Proof/Machine/RegsRng.lean ====
section
/-! DEFINITION. The register map of the RNG block: one definition for each field of its register tables in spec/14_host_interface.md (R369), and the list of its registers. Window base and size: R45. -/

namespace Sys2Proof.Machine

def RNG_CTRL_LOCK : Field := { off := 0x70000, hi := 31, lo := 31, acc := .w1s, reset := 0 }
def RNG_CTRL_EMB : Field := { off := 0x70000, hi := 30, lo := 30, acc := .rwl, reset := 0 }
def reg_RNG_CTRL : Reg := { off := 0x70000, flds := [RNG_CTRL_LOCK, RNG_CTRL_EMB] }

def RNG_STAT_CFGREJ : Field := { off := 0x70004, hi := 17, lo := 17, acc := .w1c, reset := 0 }
def RNG_STAT_EVOVF : Field := { off := 0x70004, hi := 16, lo := 16, acc := .w1c, reset := 0 }
def reg_RNG_STAT : Reg := { off := 0x70004, flds := [RNG_STAT_CFGREJ, RNG_STAT_EVOVF] }

def RNG_EVCFG_EN : Field := { off := 0x70008, hi := 31, lo := 31, acc := .rw, reset := 0 }
def RNG_EVCFG_EVSIZE : Field := { off := 0x70008, hi := 3, lo := 0, acc := .rw, reset := 8, ok := [(4, 15)] }
def reg_RNG_EVCFG : Reg := { off := 0x70008, flds := [RNG_EVCFG_EN, RNG_EVCFG_EVSIZE] }

def RNG_EVBASE_LO_ADDR : Field := { off := 0x7000c, hi := 31, lo := 12, acc := .rw, reset := 0 }
def reg_RNG_EVBASE_LO : Reg := { off := 0x7000c, flds := [RNG_EVBASE_LO_ADDR] }

def RNG_EVBASE_HI_ADDR : Field := { off := 0x70010, hi := 31, lo := 0, acc := .rw, reset := 0 }
def reg_RNG_EVBASE_HI : Reg := { off := 0x70010, flds := [RNG_EVBASE_HI_ADDR] }

def RNG_EVIDX_RD : Field := { off := 0x70014, hi := 31, lo := 16, acc := .ro, reset := 0 }
def RNG_EVIDX_WR : Field := { off := 0x70014, hi := 15, lo := 0, acc := .ro, reset := 0 }
def reg_RNG_EVIDX : Reg := { off := 0x70014, flds := [RNG_EVIDX_RD, RNG_EVIDX_WR] }

def RNG_RXCFG_RXWAIT : Field := { off := 0x70018, hi := 31, lo := 24, acc := .rw, reset := 10, ok := [(1, 255)] }
def RNG_RXCFG_T0V : Field := { off := 0x70018, hi := 23, lo := 23, acc := .rw, reset := 0 }
def RNG_RXCFG_T0RING : Field := { off := 0x70018, hi := 22, lo := 16, acc := .rw, reset := 0 }
def RNG_RXCFG_PTPV : Field := { off := 0x70018, hi := 15, lo := 15, acc := .rw, reset := 0 }
def RNG_RXCFG_PTPRING : Field := { off := 0x70018, hi := 14, lo := 8, acc := .rw, reset := 0 }
def reg_RNG_RXCFG : Reg := { off := 0x70018, flds := [RNG_RXCFG_RXWAIT, RNG_RXCFG_T0V, RNG_RXCFG_T0RING, RNG_RXCFG_PTPV, RNG_RXCFG_PTPRING] }

def RNG_CNT_COUNT : Field := { off := 0x70040, hi := 31, lo := 0, acc := .ro, reset := 0, str := 0x4 }
def reg_RNG_CNT : Reg := { off := 0x70040, str := 0x4, cnt := 6, flds := [RNG_CNT_COUNT] }

def RNG_CNTCLR_CLR : Field := { off := 0x70060, hi := 5, lo := 0, acc := .wo, reset := 0 }
def reg_RNG_CNTCLR : Reg := { off := 0x70060, flds := [RNG_CNTCLR_CLR] }

def RNG_MIRQ_BITS : Field := { off := 0x70080, hi := 31, lo := 0, acc := .w1c, reset := 0, str := 0x4 }
def reg_RNG_MIRQ : Reg := { off := 0x70080, str := 0x4, cnt := 4, flds := [RNG_MIRQ_BITS] }

def RNG_MSRC_BITS : Field := { off := 0x70090, hi := 31, lo := 0, acc := .w1c, reset := 0, str := 0x4 }
def reg_RNG_MSRC : Reg := { off := 0x70090, str := 0x4, cnt := 2, flds := [RNG_MSRC_BITS] }

def RNG_SLOTMAP_VALID : Field := { off := 0x70400, hi := 31, lo := 31, acc := .rw, reset := 0, str := 0x4 }
def RNG_SLOTMAP_RING : Field := { off := 0x70400, hi := 6, lo := 0, acc := .rw, reset := 0, str := 0x4 }
def reg_RNG_SLOTMAP : Reg := { off := 0x70400, str := 0x4, cnt := 253, flds := [RNG_SLOTMAP_VALID, RNG_SLOTMAP_RING] }

def RNG_SRCMAP_HEN : Field := { off := 0x70800, hi := 31, lo := 31, acc := .rw, reset := 0, str := 0x4 }
def RNG_SRCMAP_MEN : Field := { off := 0x70800, hi := 30, lo := 30, acc := .rw, reset := 0, str := 0x4 }
def RNG_SRCMAP_VEC : Field := { off := 0x70800, hi := 6, lo := 0, acc := .rw, reset := 127, str := 0x4 }
def reg_RNG_SRCMAP : Reg := { off := 0x70800, str := 0x4, cnt := 64, flds := [RNG_SRCMAP_HEN, RNG_SRCMAP_MEN, RNG_SRCMAP_VEC] }

def RNG_VEC_HOLDOFF : Field := { off := 0x70a00, hi := 7, lo := 0, acc := .rw, reset := 0, str := 0x4 }
def reg_RNG_VEC : Reg := { off := 0x70a00, str := 0x4, cnt := 128, flds := [RNG_VEC_HOLDOFF] }

def RNG_RCFG_EN : Field := { off := 0x71000, hi := 31, lo := 31, acc := .rw, reset := 0, str := 0x20 }
def RNG_RCFG_SIDE : Field := { off := 0x71000, hi := 30, lo := 30, acc := .rwl, reset := 0, str := 0x20 }
def RNG_RCFG_TYPE : Field := { off := 0x71000, hi := 29, lo := 27, acc := .rw, reset := 0, ok := [(0, 4)], str := 0x20 }
def RNG_RCFG_SIZE : Field := { off := 0x71000, hi := 19, lo := 16, acc := .rw, reset := 6, ok := [(4, 12)], str := 0x20 }
def RNG_RCFG_VEC : Field := { off := 0x71000, hi := 14, lo := 8, acc := .rw, reset := 0, str := 0x20, resets := (List.range 128).map (fun r => (r, r, r)) }
def RNG_RCFG_BIND : Field := { off := 0x71000, hi := 7, lo := 0, acc := .rw, reset := 0, str := 0x20 }
def reg_RNG_RCFG : Reg := { off := 0x71000, str := 0x20, cnt := 128, flds := [RNG_RCFG_EN, RNG_RCFG_SIDE, RNG_RCFG_TYPE, RNG_RCFG_SIZE, RNG_RCFG_VEC, RNG_RCFG_BIND] }

def RNG_RBASE_LO_ADDR : Field := { off := 0x71004, hi := 31, lo := 12, acc := .rw, reset := 0, str := 0x20 }
def reg_RNG_RBASE_LO : Reg := { off := 0x71004, str := 0x20, cnt := 128, flds := [RNG_RBASE_LO_ADDR] }

def RNG_RBASE_HI_ADDR : Field := { off := 0x71008, hi := 31, lo := 0, acc := .rw, reset := 0, str := 0x20 }
def reg_RNG_RBASE_HI : Reg := { off := 0x71008, str := 0x20, cnt := 128, flds := [RNG_RBASE_HI_ADDR] }

def RNG_RSTAT_STATE : Field := { off := 0x7100c, hi := 31, lo := 30, acc := .ro, reset := 0, str := 0x20 }
def RNG_RSTAT_ERR : Field := { off := 0x7100c, hi := 29, lo := 27, acc := .ro, reset := 0, str := 0x20 }
def RNG_RSTAT_OUTST : Field := { off := 0x7100c, hi := 6, lo := 0, acc := .ro, reset := 0, str := 0x20 }
def reg_RNG_RSTAT : Reg := { off := 0x7100c, str := 0x20, cnt := 128, flds := [RNG_RSTAT_STATE, RNG_RSTAT_ERR, RNG_RSTAT_OUTST] }

def RNG_RIDX_PI : Field := { off := 0x71010, hi := 31, lo := 16, acc := .ro, reset := 0, str := 0x20 }
def RNG_RIDX_CI : Field := { off := 0x71010, hi := 15, lo := 0, acc := .ro, reset := 0, str := 0x20 }
def reg_RNG_RIDX : Reg := { off := 0x71010, str := 0x20, cnt := 128, flds := [RNG_RIDX_PI, RNG_RIDX_CI] }

/-- The registers of the RNG block. -/
def regsOf_RNG : List Reg :=
  [reg_RNG_CTRL, reg_RNG_STAT, reg_RNG_EVCFG, reg_RNG_EVBASE_LO, reg_RNG_EVBASE_HI, reg_RNG_EVIDX, reg_RNG_RXCFG, reg_RNG_CNT, reg_RNG_CNTCLR, reg_RNG_MIRQ, reg_RNG_MSRC, reg_RNG_SLOTMAP, reg_RNG_SRCMAP, reg_RNG_VEC, reg_RNG_RCFG, reg_RNG_RBASE_LO, reg_RNG_RBASE_HI, reg_RNG_RSTAT, reg_RNG_RIDX]

/-- The RNG window (R45). -/
def block_RNG : Block := { base := 0x70000, size := 0x10000, lock := some RNG_CTRL_LOCK, regs := regsOf_RNG }

end Sys2Proof.Machine
end

