-- ==== Sys2Proof/Machine/RegsSer.lean ====
section
/-! DEFINITION. The register map of the SER block: one definition for each field of its register tables in spec/13_storage_serial.md (R346), and the list of its registers. Window base and size: R45. -/

namespace Sys2Proof.Machine

def SER_CTRL_EN : Field := { off := 0x200000, hi := 31, lo := 31, acc := .rw, reset := 0, str := 0x40 }
def SER_CTRL_MODE : Field := { off := 0x200000, hi := 30, lo := 30, acc := .rwl, reset := 0, str := 0x40 }
def SER_CTRL_ECHO : Field := { off := 0x200000, hi := 29, lo := 29, acc := .rw, reset := 0, str := 0x40 }
def SER_CTRL_INV : Field := { off := 0x200000, hi := 28, lo := 28, acc := .rwl, reset := 0, str := 0x40 }
def SER_CTRL_DBITS : Field := { off := 0x200000, hi := 27, lo := 26, acc := .rw, reset := 3, str := 0x40 }
def SER_CTRL_PAR : Field := { off := 0x200000, hi := 25, lo := 24, acc := .rw, reset := 0, ok := [(0, 2)], str := 0x40 }
def SER_CTRL_STOP : Field := { off := 0x200000, hi := 23, lo := 23, acc := .rw, reset := 0, str := 0x40 }
def reg_SER_CTRL : Reg := { off := 0x200000, str := 0x40, cnt := 8, flds := [SER_CTRL_EN, SER_CTRL_MODE, SER_CTRL_ECHO, SER_CTRL_INV, SER_CTRL_DBITS, SER_CTRL_PAR, SER_CTRL_STOP] }

def SER_BAUD_DIV : Field := { off := 0x200004, hi := 23, lo := 0, acc := .rw, reset := 0x6c81, ok := [(266, 16777215)], str := 0x40 }
def reg_SER_BAUD : Reg := { off := 0x200004, str := 0x40, cnt := 8, flds := [SER_BAUD_DIV] }

def SER_FRM_GAP : Field := { off := 0x200008, hi := 25, lo := 16, acc := .rw, reset := 70, ok := [(2, 1023)], str := 0x40 }
def reg_SER_FRM : Reg := { off := 0x200008, str := 0x40, cnt := 8, flds := [SER_FRM_GAP] }

def SER_DE_DEPOL : Field := { off := 0x20000c, hi := 31, lo := 31, acc := .rwl, reset := 0, str := 0x40 }
def SER_DE_LEAD : Field := { off := 0x20000c, hi := 11, lo := 8, acc := .rw, reset := 1, str := 0x40 }
def SER_DE_TRAIL : Field := { off := 0x20000c, hi := 3, lo := 0, acc := .rw, reset := 1, str := 0x40 }
def reg_SER_DE : Reg := { off := 0x20000c, str := 0x40, cnt := 8, flds := [SER_DE_DEPOL, SER_DE_LEAD, SER_DE_TRAIL] }

def SER_STAT_RXACT : Field := { off := 0x200010, hi := 31, lo := 31, acc := .ro, reset := 0, str := 0x40 }
def SER_STAT_TXACT : Field := { off := 0x200010, hi := 30, lo := 30, acc := .ro, reset := 0, str := 0x40 }
def SER_STAT_DEOUT : Field := { off := 0x200010, hi := 29, lo := 29, acc := .ro, reset := 0, str := 0x40 }
def SER_STAT_STUCK : Field := { off := 0x200010, hi := 28, lo := 28, acc := .ro, reset := 0, str := 0x40 }
def SER_STAT_STUCKEV : Field := { off := 0x200010, hi := 27, lo := 27, acc := .w1c, reset := 0, str := 0x40 }
def SER_STAT_OVREV : Field := { off := 0x200010, hi := 26, lo := 26, acc := .w1c, reset := 0, str := 0x40 }
def SER_STAT_RINGREJ : Field := { off := 0x200010, hi := 25, lo := 25, acc := .w1c, reset := 0, str := 0x40 }
def reg_SER_STAT : Reg := { off := 0x200010, str := 0x40, cnt := 8, flds := [SER_STAT_RXACT, SER_STAT_TXACT, SER_STAT_DEOUT, SER_STAT_STUCK, SER_STAT_STUCKEV, SER_STAT_OVREV, SER_STAT_RINGREJ] }

def SER_RING_VALID : Field := { off := 0x200014, hi := 31, lo := 31, acc := .rw, reset := 0, str := 0x40 }
def SER_RING_BANK : Field := { off := 0x200014, hi := 28, lo := 24, acc := .rw, reset := 0, str := 0x40 }
def SER_RING_OFS : Field := { off := 0x200014, hi := 23, lo := 14, acc := .rw, reset := 0, str := 0x40 }
def SER_RING_LEN : Field := { off := 0x200014, hi := 10, lo := 0, acc := .rw, reset := 16, ok := [(16, 1024)], str := 0x40 }
def reg_SER_RING : Reg := { off := 0x200014, str := 0x40, cnt := 8, flds := [SER_RING_VALID, SER_RING_BANK, SER_RING_OFS, SER_RING_LEN] }

def SER_RXWR_WR : Field := { off := 0x200018, hi := 15, lo := 0, acc := .ro, reset := 0, str := 0x40 }
def reg_SER_RXWR : Reg := { off := 0x200018, str := 0x40, cnt := 8, flds := [SER_RXWR_WR] }

def SER_RXRD_RD : Field := { off := 0x20001c, hi := 15, lo := 0, acc := .rw, reset := 0, str := 0x40 }
def reg_SER_RXRD : Reg := { off := 0x20001c, str := 0x40, cnt := 8, flds := [SER_RXRD_RD] }

def SER_CNTA_PE : Field := { off := 0x200020, hi := 31, lo := 16, acc := .cnt, reset := 0, str := 0x40 }
def SER_CNTA_FE : Field := { off := 0x200020, hi := 15, lo := 0, acc := .cnt, reset := 0, str := 0x40 }
def reg_SER_CNTA : Reg := { off := 0x200020, str := 0x40, cnt := 8, flds := [SER_CNTA_PE, SER_CNTA_FE] }

def SER_CNTB_OVR : Field := { off := 0x200024, hi := 31, lo := 16, acc := .cnt, reset := 0, str := 0x40 }
def SER_CNTB_BRK : Field := { off := 0x200024, hi := 15, lo := 0, acc := .cnt, reset := 0, str := 0x40 }
def reg_SER_CNTB : Reg := { off := 0x200024, str := 0x40, cnt := 8, flds := [SER_CNTB_OVR, SER_CNTB_BRK] }

def SER_LOCK_LOCK : Field := { off := 0x200400, hi := 0, lo := 0, acc := .w1s, reset := 0 }
def reg_SER_LOCK : Reg := { off := 0x200400, flds := [SER_LOCK_LOCK] }

def IRIGI_CFG_EN : Field := { off := 0x201000, hi := 31, lo := 31, acc := .rw, reset := 0 }
def IRIGI_CFG_SRC : Field := { off := 0x201000, hi := 30, lo := 30, acc := .rw, reset := 0 }
def IRIGI_CFG_INV : Field := { off := 0x201000, hi := 29, lo := 29, acc := .rw, reset := 0 }
def IRIGI_CFG_FILT : Field := { off := 0x201000, hi := 28, lo := 24, acc := .rw, reset := 5 }
def IRIGI_CFG_WTOL : Field := { off := 0x201000, hi := 23, lo := 16, acc := .rw, reset := 50, ok := [(10, 100)] }
def IRIGI_CFG_LOS : Field := { off := 0x201000, hi := 7, lo := 0, acc := .rw, reset := 20, ok := [(11, 50)] }
def reg_IRIGI_CFG : Reg := { off := 0x201000, flds := [IRIGI_CFG_EN, IRIGI_CFG_SRC, IRIGI_CFG_INV, IRIGI_CFG_FILT, IRIGI_CFG_WTOL, IRIGI_CFG_LOS] }

def IRIGI_STAT_STATE : Field := { off := 0x201004, hi := 31, lo := 30, acc := .ro, reset := 0 }
def IRIGI_STAT_LOS : Field := { off := 0x201004, hi := 29, lo := 29, acc := .ro, reset := 0 }
def IRIGI_STAT_FRAMEEV : Field := { off := 0x201004, hi := 28, lo := 28, acc := .w1c, reset := 0 }
def IRIGI_STAT_LOSTEV : Field := { off := 0x201004, hi := 27, lo := 27, acc := .w1c, reset := 0 }
def IRIGI_STAT_CLR : Field := { off := 0x201004, hi := 26, lo := 26, acc := .wo, reset := 0 }
def IRIGI_STAT_BADFRAME : Field := { off := 0x201004, hi := 15, lo := 0, acc := .ro, reset := 0 }
def reg_IRIGI_STAT : Reg := { off := 0x201004, flds := [IRIGI_STAT_STATE, IRIGI_STAT_LOS, IRIGI_STAT_FRAMEEV, IRIGI_STAT_LOSTEV, IRIGI_STAT_CLR, IRIGI_STAT_BADFRAME] }

def IRIGI_TOD0_YEAR : Field := { off := 0x201008, hi := 31, lo := 25, acc := .ro, reset := 0 }
def IRIGI_TOD0_DAY : Field := { off := 0x201008, hi := 24, lo := 16, acc := .ro, reset := 0 }
def IRIGI_TOD0_HOUR : Field := { off := 0x201008, hi := 12, lo := 8, acc := .ro, reset := 0 }
def IRIGI_TOD0_MIN : Field := { off := 0x201008, hi := 5, lo := 0, acc := .ro, reset := 0 }
def reg_IRIGI_TOD0 : Reg := { off := 0x201008, flds := [IRIGI_TOD0_YEAR, IRIGI_TOD0_DAY, IRIGI_TOD0_HOUR, IRIGI_TOD0_MIN] }

def IRIGI_TOD1_SEC : Field := { off := 0x20100c, hi := 29, lo := 24, acc := .ro, reset := 0 }
def IRIGI_TOD1_SBS : Field := { off := 0x20100c, hi := 16, lo := 0, acc := .ro, reset := 0 }
def reg_IRIGI_TOD1 : Reg := { off := 0x20100c, flds := [IRIGI_TOD1_SEC, IRIGI_TOD1_SBS] }

def IRIGI_CF_CF : Field := { off := 0x201010, hi := 26, lo := 0, acc := .ro, reset := 0 }
def reg_IRIGI_CF : Reg := { off := 0x201010, flds := [IRIGI_CF_CF] }

def IRIGO_CFG_EN : Field := { off := 0x201040, hi := 31, lo := 31, acc := .rw, reset := 0 }
def IRIGO_CFG_SRC : Field := { off := 0x201040, hi := 30, lo := 29, acc := .rw, reset := 0, ok := [(0, 2)] }
def IRIGO_CFG_FORCE : Field := { off := 0x201040, hi := 28, lo := 28, acc := .rw, reset := 0 }
def IRIGO_CFG_INV : Field := { off := 0x201040, hi := 27, lo := 27, acc := .rw, reset := 0 }
def IRIGO_CFG_LOFS : Field := { off := 0x201040, hi := 23, lo := 16, acc := .rwl, reset := 0, ok := [(0, 56), (200, 255)] }
def reg_IRIGO_CFG : Reg := { off := 0x201040, flds := [IRIGO_CFG_EN, IRIGO_CFG_SRC, IRIGO_CFG_FORCE, IRIGO_CFG_INV, IRIGO_CFG_LOFS] }

def IRIGO_OFS_OFS : Field := { off := 0x201044, hi := 27, lo := 0, acc := .rwl, reset := 0, ok := [(0, 0x7FFFFFF), (0x8000001, 0xFFFFFFF)] }
def reg_IRIGO_OFS : Reg := { off := 0x201044, flds := [IRIGO_OFS_OFS] }

def IRIGO_CF_CF : Field := { off := 0x201048, hi := 17, lo := 0, acc := .rw, reset := 0 }
def reg_IRIGO_CF : Reg := { off := 0x201048, flds := [IRIGO_CF_CF] }

/-- The registers of the SER block. -/
def regsOf_SER : List Reg :=
  [reg_SER_CTRL, reg_SER_BAUD, reg_SER_FRM, reg_SER_DE, reg_SER_STAT, reg_SER_RING, reg_SER_RXWR, reg_SER_RXRD, reg_SER_CNTA, reg_SER_CNTB, reg_SER_LOCK, reg_IRIGI_CFG, reg_IRIGI_STAT, reg_IRIGI_TOD0, reg_IRIGI_TOD1, reg_IRIGI_CF, reg_IRIGO_CFG, reg_IRIGO_OFS, reg_IRIGO_CF]

/-- The SER window (R45). -/
def block_SER : Block := { base := 0x200000, size := 0x10000, lock := some SER_LOCK_LOCK, regs := regsOf_SER }

end Sys2Proof.Machine
end

