-- ==== Sys2Proof/Machine/RegsShp.lean ====
section
/-! DEFINITION. The register map of the SHP block: one definition for each field of its register tables in spec/09_bandwidth_plans.md (R245), and the list of its registers. Window base and size: R45. -/

namespace Sys2Proof.Machine

def SHP_CTRL_LOCK : Field := { off := 0x140000, hi := 31, lo := 31, acc := .w1s, reset := 0 }
def reg_SHP_CTRL : Reg := { off := 0x140000, flds := [SHP_CTRL_LOCK] }

def SHP_PLAN_CMD_GO : Field := { off := 0x140004, hi := 31, lo := 31, acc := .wo, reset := 0 }
def SHP_PLAN_CMD_OP : Field := { off := 0x140004, hi := 18, lo := 16, acc := .wo, reset := 0 }
def SHP_PLAN_CMD_MODE : Field := { off := 0x140004, hi := 9, lo := 8, acc := .wo, reset := 0, ok := [(0, 2)] }
def reg_SHP_PLAN_CMD : Reg := { off := 0x140004, flds := [SHP_PLAN_CMD_GO, SHP_PLAN_CMD_OP, SHP_PLAN_CMD_MODE] }

def SHP_PLAN_STAT_ARMED : Field := { off := 0x140008, hi := 31, lo := 31, acc := .ro, reset := 0 }
def SHP_PLAN_STAT_ACTIVE : Field := { off := 0x140008, hi := 30, lo := 30, acc := .ro, reset := 0 }
def SHP_PLAN_STAT_BUSY : Field := { off := 0x140008, hi := 29, lo := 29, acc := .ro, reset := 0 }
def SHP_PLAN_STAT_CODE : Field := { off := 0x140008, hi := 27, lo := 24, acc := .ro, reset := 0 }
def SHP_PLAN_STAT_CMDREJ : Field := { off := 0x140008, hi := 21, lo := 21, acc := .w1c, reset := 0 }
def SHP_PLAN_STAT_ARMWR : Field := { off := 0x140008, hi := 20, lo := 20, acc := .w1c, reset := 0 }
def SHP_PLAN_STAT_ACTWR : Field := { off := 0x140008, hi := 19, lo := 19, acc := .w1c, reset := 0 }
def SHP_PLAN_STAT_MFALL : Field := { off := 0x140008, hi := 18, lo := 18, acc := .w1c, reset := 0 }
def SHP_PLAN_STAT_LATE : Field := { off := 0x140008, hi := 17, lo := 17, acc := .w1c, reset := 0 }
def SHP_PLAN_STAT_SWITCHED : Field := { off := 0x140008, hi := 16, lo := 16, acc := .w1c, reset := 0 }
def SHP_PLAN_STAT_SWCNT : Field := { off := 0x140008, hi := 15, lo := 0, acc := .ro, reset := 0 }
def reg_SHP_PLAN_STAT : Reg := { off := 0x140008, flds := [SHP_PLAN_STAT_ARMED, SHP_PLAN_STAT_ACTIVE, SHP_PLAN_STAT_BUSY, SHP_PLAN_STAT_CODE, SHP_PLAN_STAT_CMDREJ, SHP_PLAN_STAT_ARMWR, SHP_PLAN_STAT_ACTWR, SHP_PLAN_STAT_MFALL, SHP_PLAN_STAT_LATE, SHP_PLAN_STAT_SWITCHED, SHP_PLAN_STAT_SWCNT] }

def SHP_PLAN_ERR_AREA : Field := { off := 0x14000c, hi := 17, lo := 16, acc := .ro, reset := 0 }
def SHP_PLAN_ERR_INDEX : Field := { off := 0x14000c, hi := 15, lo := 0, acc := .ro, reset := 0 }
def reg_SHP_PLAN_ERR : Reg := { off := 0x14000c, flds := [SHP_PLAN_ERR_AREA, SHP_PLAN_ERR_INDEX] }

def SHP_PLAN_SECHI_SEC_HI : Field := { off := 0x140010, hi := 15, lo := 0, acc := .rw, reset := 0 }
def reg_SHP_PLAN_SECHI : Reg := { off := 0x140010, flds := [SHP_PLAN_SECHI_SEC_HI] }

def SHP_PLAN_SECLO_SEC_LO : Field := { off := 0x140014, hi := 31, lo := 0, acc := .rw, reset := 0 }
def reg_SHP_PLAN_SECLO : Reg := { off := 0x140014, flds := [SHP_PLAN_SECLO_SEC_LO] }

def SHP_PLAN_NS_NS : Field := { off := 0x140018, hi := 31, lo := 0, acc := .rw, reset := 0 }
def reg_SHP_PLAN_NS : Reg := { off := 0x140018, flds := [SHP_PLAN_NS_NS] }

def SHP_PLAN_DL_DL : Field := { off := 0x14001c, hi := 7, lo := 0, acc := .rw, reset := 30, ok := [(1, 255)] }
def reg_SHP_PLAN_DL : Reg := { off := 0x14001c, flds := [SHP_PLAN_DL_DL] }

def SHP_PLAN_AT_SECLO_SEC_LO : Field := { off := 0x140020, hi := 31, lo := 0, acc := .ro, reset := 0 }
def reg_SHP_PLAN_AT_SECLO : Reg := { off := 0x140020, flds := [SHP_PLAN_AT_SECLO_SEC_LO] }

def SHP_PLAN_AT_NS_NS : Field := { off := 0x140024, hi := 31, lo := 0, acc := .ro, reset := 0 }
def reg_SHP_PLAN_AT_NS : Reg := { off := 0x140024, flds := [SHP_PLAN_AT_NS_NS] }

def SHP_PLAN_AT_FRAC_FRAC : Field := { off := 0x140028, hi := 15, lo := 0, acc := .ro, reset := 0 }
def reg_SHP_PLAN_AT_FRAC : Reg := { off := 0x140028, flds := [SHP_PLAN_AT_FRAC_FRAC] }

def SHP_SAMPLE_EN : Field := { off := 0x140030, hi := 31, lo := 31, acc := .rw, reset := 0 }
def SHP_SAMPLE_PERIOD : Field := { off := 0x140030, hi := 3, lo := 0, acc := .rw, reset := 10 }
def reg_SHP_SAMPLE : Reg := { off := 0x140030, flds := [SHP_SAMPLE_EN, SHP_SAMPLE_PERIOD] }

def SHP_CNT_COUNT : Field := { off := 0x140040, hi := 31, lo := 0, acc := .ro, reset := 0, str := 0x4 }
def reg_SHP_CNT : Reg := { off := 0x140040, str := 0x4, cnt := 6, flds := [SHP_CNT_COUNT] }

def SHP_CNTCLR_CLR : Field := { off := 0x140060, hi := 5, lo := 0, acc := .wo, reset := 0 }
def reg_SHP_CNTCLR : Reg := { off := 0x140060, flds := [SHP_CNTCLR_CLR] }

def SHP_PCFG_FIT : Field := { off := 0x140100, hi := 31, lo := 31, acc := .rw, reset := 0, str := 0x10 }
def SHP_PCFG_MARGIN : Field := { off := 0x140100, hi := 9, lo := 0, acc := .rwl, reset := 0, str := 0x10 }
def reg_SHP_PCFG : Reg := { off := 0x140100, str := 0x10, cnt := 12, flds := [SHP_PCFG_FIT, SHP_PCFG_MARGIN] }

def SHP_GUARD_GUARD : Field := { off := 0x140104, hi := 31, lo := 0, acc := .ro, reset := 0, str := 0x10 }
def reg_SHP_GUARD : Reg := { off := 0x140104, str := 0x10, cnt := 12, flds := [SHP_GUARD_GUARD] }

def SHP_GSTAT_RUN : Field := { off := 0x140108, hi := 31, lo := 31, acc := .ro, reset := 0, str := 0x10 }
def SHP_GSTAT_FALLBACK : Field := { off := 0x140108, hi := 30, lo := 30, acc := .ro, reset := 0, str := 0x10 }
def SHP_GSTAT_BANK : Field := { off := 0x140108, hi := 29, lo := 29, acc := .ro, reset := 0, str := 0x10 }
def SHP_GSTAT_GATES : Field := { off := 0x140108, hi := 23, lo := 16, acc := .ro, reset := 255, str := 0x10 }
def SHP_GSTAT_ENTRY : Field := { off := 0x140108, hi := 7, lo := 0, acc := .ro, reset := 0, str := 0x10 }
def reg_SHP_GSTAT : Reg := { off := 0x140108, str := 0x10, cnt := 12, flds := [SHP_GSTAT_RUN, SHP_GSTAT_FALLBACK, SHP_GSTAT_BANK, SHP_GSTAT_GATES, SHP_GSTAT_ENTRY] }

def SHP_DEPTH_LAST_CELLS : Field := { off := 0x141000, hi := 17, lo := 0, acc := .ro, reset := 0, str := 0x10 }
def reg_SHP_DEPTH_LAST : Reg := { off := 0x141000, str := 0x10, cnt := 192, flds := [SHP_DEPTH_LAST_CELLS] }

def SHP_DEPTH_MAX_CELLS : Field := { off := 0x141004, hi := 17, lo := 0, acc := .cnt, reset := 0, str := 0x10 }
def reg_SHP_DEPTH_MAX : Reg := { off := 0x141004, str := 0x10, cnt := 192, flds := [SHP_DEPTH_MAX_CELLS] }

def SHP_DELAY_LAST_NS : Field := { off := 0x141008, hi := 31, lo := 0, acc := .ro, reset := 0, str := 0x10 }
def reg_SHP_DELAY_LAST : Reg := { off := 0x141008, str := 0x10, cnt := 192, flds := [SHP_DELAY_LAST_NS] }

def SHP_DELAY_MAX_NS : Field := { off := 0x14100c, hi := 31, lo := 0, acc := .cnt, reset := 0, str := 0x10 }
def reg_SHP_DELAY_MAX : Reg := { off := 0x14100c, str := 0x10, cnt := 192, flds := [SHP_DELAY_MAX_NS] }

def SHP_PRED_COUNT : Field := { off := 0x142000, hi := 31, lo := 0, acc := .cnt, reset := 0, str := 0x4 }
def reg_SHP_PRED : Reg := { off := 0x142000, str := 0x4, cnt := 253, flds := [SHP_PRED_COUNT] }

def SHP_GATE_GATES : Field := { off := 0x150000, hi := 31, lo := 24, acc := .rw, reset := 0, str := 0x4, str2 := 0x10000 }
def SHP_GATE_INTERVAL : Field := { off := 0x150000, hi := 23, lo := 0, acc := .rw, reset := 0, str := 0x4, str2 := 0x10000 }
def reg_SHP_GATE : Reg := { off := 0x150000, str := 0x4, cnt := 3072, str2 := 0x10000, cnt2 := 2, flds := [SHP_GATE_GATES, SHP_GATE_INTERVAL] }

def SHP_GCTL_EN : Field := { off := 0x153000, hi := 31, lo := 31, acc := .rw, reset := 0, str := 0x10, str2 := 0x10000 }
def SHP_GCTL_ANCHOR : Field := { off := 0x153000, hi := 30, lo := 30, acc := .rw, reset := 0, str := 0x10, str2 := 0x10000 }
def SHP_GCTL_MCYC : Field := { off := 0x153000, hi := 29, lo := 28, acc := .rw, reset := 0, str := 0x10, str2 := 0x10000 }
def SHP_GCTL_FBMASK : Field := { off := 0x153000, hi := 27, lo := 20, acc := .rw, reset := 255, str := 0x10, str2 := 0x10000 }
def SHP_GCTL_LEN : Field := { off := 0x153000, hi := 8, lo := 0, acc := .rw, reset := 1, str := 0x10, str2 := 0x10000 }
def reg_SHP_GCTL : Reg := { off := 0x153000, str := 0x10, cnt := 12, str2 := 0x10000, cnt2 := 2, flds := [SHP_GCTL_EN, SHP_GCTL_ANCHOR, SHP_GCTL_MCYC, SHP_GCTL_FBMASK, SHP_GCTL_LEN] }

def SHP_GBASE_SECLO_SEC_LO : Field := { off := 0x153004, hi := 31, lo := 0, acc := .rw, reset := 0, str := 0x10, str2 := 0x10000 }
def reg_SHP_GBASE_SECLO : Reg := { off := 0x153004, str := 0x10, cnt := 12, str2 := 0x10000, cnt2 := 2, flds := [SHP_GBASE_SECLO_SEC_LO] }

def SHP_GBASE_NS_NS : Field := { off := 0x153008, hi := 31, lo := 0, acc := .rw, reset := 0, str := 0x10, str2 := 0x10000 }
def reg_SHP_GBASE_NS : Reg := { off := 0x153008, str := 0x10, cnt := 12, str2 := 0x10000, cnt2 := 2, flds := [SHP_GBASE_NS_NS] }

def SHP_GSTART_START : Field := { off := 0x15300c, hi := 31, lo := 16, acc := .rw, reset := 0, str := 0x10, str2 := 0x10000 }
def SHP_GSTART_SEC_HI : Field := { off := 0x15300c, hi := 15, lo := 0, acc := .rw, reset := 0, str := 0x10, str2 := 0x10000 }
def reg_SHP_GSTART : Reg := { off := 0x15300c, str := 0x10, cnt := 12, str2 := 0x10000, cnt2 := 2, flds := [SHP_GSTART_START, SHP_GSTART_SEC_HI] }

def SHP_Q0_SHEN : Field := { off := 0x154000, hi := 31, lo := 31, acc := .rw, reset := 0, str := 0x8, str2 := 0x10000 }
def SHP_Q0_RATE : Field := { off := 0x154000, hi := 26, lo := 0, acc := .rw, reset := 0, str := 0x8, str2 := 0x10000 }
def reg_SHP_Q0 : Reg := { off := 0x154000, str := 0x8, cnt := 192, str2 := 0x10000, cnt2 := 2, flds := [SHP_Q0_SHEN, SHP_Q0_RATE] }

def SHP_Q1_QUANTUM : Field := { off := 0x154004, hi := 31, lo := 21, acc := .rw, reset := 24, str := 0x8, str2 := 0x10000, resets := [(184, 191, 0)] }
def SHP_Q1_BUCKET : Field := { off := 0x154004, hi := 20, lo := 0, acc := .rw, reset := 0x10000, str := 0x8, str2 := 0x10000, resets := [(184, 191, 0)] }
def reg_SHP_Q1 : Reg := { off := 0x154004, str := 0x8, cnt := 192, str2 := 0x10000, cnt2 := 2, flds := [SHP_Q1_QUANTUM, SHP_Q1_BUCKET] }

def SHP_POL0_PEN : Field := { off := 0x155000, hi := 31, lo := 31, acc := .rw, reset := 0, str := 0x8, str2 := 0x10000 }
def SHP_POL0_HOLD : Field := { off := 0x155000, hi := 30, lo := 30, acc := .rw, reset := 0, str := 0x8, str2 := 0x10000 }
def SHP_POL0_RATE : Field := { off := 0x155000, hi := 26, lo := 0, acc := .rw, reset := 0, str := 0x8, str2 := 0x10000 }
def reg_SHP_POL0 : Reg := { off := 0x155000, str := 0x8, cnt := 253, str2 := 0x10000, cnt2 := 2, flds := [SHP_POL0_PEN, SHP_POL0_HOLD, SHP_POL0_RATE] }

def SHP_POL1_BURST : Field := { off := 0x155004, hi := 20, lo := 0, acc := .rw, reset := 0, str := 0x8, str2 := 0x10000 }
def reg_SHP_POL1 : Reg := { off := 0x155004, str := 0x8, cnt := 253, str2 := 0x10000, cnt2 := 2, flds := [SHP_POL1_BURST] }

/-- The registers of the SHP block. -/
def regsOf_SHP : List Reg :=
  [reg_SHP_CTRL, reg_SHP_PLAN_CMD, reg_SHP_PLAN_STAT, reg_SHP_PLAN_ERR, reg_SHP_PLAN_SECHI, reg_SHP_PLAN_SECLO, reg_SHP_PLAN_NS, reg_SHP_PLAN_DL, reg_SHP_PLAN_AT_SECLO, reg_SHP_PLAN_AT_NS, reg_SHP_PLAN_AT_FRAC, reg_SHP_SAMPLE, reg_SHP_CNT, reg_SHP_CNTCLR, reg_SHP_PCFG, reg_SHP_GUARD, reg_SHP_GSTAT, reg_SHP_DEPTH_LAST, reg_SHP_DEPTH_MAX, reg_SHP_DELAY_LAST, reg_SHP_DELAY_MAX, reg_SHP_PRED, reg_SHP_GATE, reg_SHP_GCTL] ++
    [reg_SHP_GBASE_SECLO, reg_SHP_GBASE_NS, reg_SHP_GSTART, reg_SHP_Q0, reg_SHP_Q1, reg_SHP_POL0, reg_SHP_POL1]

/-- The SHP window (R45). -/
def block_SHP : Block := { base := 0x140000, size := 0x40000, lock := some SHP_CTRL_LOCK, regs := regsOf_SHP }

end Sys2Proof.Machine
end

