-- ==== Sys2Proof/Machine/RegsSto.lean ====
section
/-! DEFINITION. The register map of the STO block: one definition for each field of its register tables in spec/13_storage_serial.md (R345), and the list of its registers. Window base and size: R45. -/

namespace Sys2Proof.Machine

def STO_CTRL_LOCK : Field := { off := 0x1f0000, hi := 31, lo := 31, acc := .w1s, reset := 0 }
def STO_CTRL_NVEN : Field := { off := 0x1f0000, hi := 30, lo := 30, acc := .rw, reset := 0 }
def STO_CTRL_MMCEN : Field := { off := 0x1f0000, hi := 29, lo := 29, acc := .rw, reset := 0 }
def reg_STO_CTRL : Reg := { off := 0x1f0000, flds := [STO_CTRL_LOCK, STO_CTRL_NVEN, STO_CTRL_MMCEN] }

def STO_STAT_NVSTATE : Field := { off := 0x1f0004, hi := 31, lo := 29, acc := .ro, reset := 0 }
def STO_STAT_MMCSTATE : Field := { off := 0x1f0004, hi := 28, lo := 26, acc := .ro, reset := 0 }
def STO_STAT_CD : Field := { off := 0x1f0004, hi := 25, lo := 25, acc := .ro, reset := 0 }
def STO_STAT_WP : Field := { off := 0x1f0004, hi := 24, lo := 24, acc := .ro, reset := 0 }
def STO_STAT_FCAUSE : Field := { off := 0x1f0004, hi := 23, lo := 20, acc := .ro, reset := 0 }
def STO_STAT_NVEV : Field := { off := 0x1f0004, hi := 17, lo := 17, acc := .w1c, reset := 0 }
def STO_STAT_MMCEV : Field := { off := 0x1f0004, hi := 16, lo := 16, acc := .w1c, reset := 0 }
def reg_STO_STAT : Reg := { off := 0x1f0004, flds := [STO_STAT_NVSTATE, STO_STAT_MMCSTATE, STO_STAT_CD, STO_STAT_WP, STO_STAT_FCAUSE, STO_STAT_NVEV, STO_STAT_MMCEV] }

def STO_NVME_CFG_NSID : Field := { off := 0x1f0008, hi := 31, lo := 24, acc := .rwl, reset := 1, ok := [(1, 255)] }
def STO_NVME_CFG_CTO : Field := { off := 0x1f0008, hi := 23, lo := 16, acc := .rw, reset := 50, ok := [(1, 255)] }
def STO_NVME_CFG_QD : Field := { off := 0x1f0008, hi := 6, lo := 0, acc := .rwl, reset := 32, ok := [(2, 64)] }
def reg_STO_NVME_CFG : Reg := { off := 0x1f0008, flds := [STO_NVME_CFG_NSID, STO_NVME_CFG_CTO, STO_NVME_CFG_QD] }

def STO_NVME_CAP_LO_BLOCKS : Field := { off := 0x1f000c, hi := 31, lo := 0, acc := .ro, reset := 0 }
def reg_STO_NVME_CAP_LO : Reg := { off := 0x1f000c, flds := [STO_NVME_CAP_LO_BLOCKS] }

def STO_NVME_CAP_HI_LBASZ : Field := { off := 0x1f0010, hi := 19, lo := 16, acc := .ro, reset := 0 }
def STO_NVME_CAP_HI_BLOCKS : Field := { off := 0x1f0010, hi := 7, lo := 0, acc := .ro, reset := 0 }
def reg_STO_NVME_CAP_HI : Reg := { off := 0x1f0010, flds := [STO_NVME_CAP_HI_LBASZ, STO_NVME_CAP_HI_BLOCKS] }

def STO_MMC_CFG_MODE : Field := { off := 0x1f0014, hi := 31, lo := 29, acc := .rwl, reset := 0, ok := [(0, 5)] }
def STO_MMC_CFG_CTO : Field := { off := 0x1f0014, hi := 23, lo := 16, acc := .rw, reset := 20, ok := [(1, 255)] }
def STO_MMC_CFG_CDDB : Field := { off := 0x1f0014, hi := 7, lo := 0, acc := .rw, reset := 50, ok := [(1, 255)] }
def reg_STO_MMC_CFG : Reg := { off := 0x1f0014, flds := [STO_MMC_CFG_MODE, STO_MMC_CFG_CTO, STO_MMC_CFG_CDDB] }

def STO_MMC_CAP_LO_BLOCKS : Field := { off := 0x1f0018, hi := 31, lo := 0, acc := .ro, reset := 0 }
def reg_STO_MMC_CAP_LO : Reg := { off := 0x1f0018, flds := [STO_MMC_CAP_LO_BLOCKS] }

def STO_MMC_CAP_HI_MODE : Field := { off := 0x1f001c, hi := 23, lo := 21, acc := .ro, reset := 0 }
def STO_MMC_CAP_HI_BLOCKS : Field := { off := 0x1f001c, hi := 7, lo := 0, acc := .ro, reset := 0 }
def reg_STO_MMC_CAP_HI : Reg := { off := 0x1f001c, flds := [STO_MMC_CAP_HI_MODE, STO_MMC_CAP_HI_BLOCKS] }

def STO_CACHE_LO_ADDR : Field := { off := 0x1f0020, hi := 31, lo := 20, acc := .rwl, reset := 0 }
def reg_STO_CACHE_LO : Reg := { off := 0x1f0020, flds := [STO_CACHE_LO_ADDR] }

def STO_CACHE_HI_ADDR : Field := { off := 0x1f0024, hi := 31, lo := 0, acc := .rwl, reset := 0 }
def reg_STO_CACHE_HI : Reg := { off := 0x1f0024, flds := [STO_CACHE_HI_ADDR] }

def STO_CACHE_LEN_MIB : Field := { off := 0x1f0028, hi := 6, lo := 0, acc := .rwl, reset := 0, ok := [(0, 64)] }
def reg_STO_CACHE_LEN : Reg := { off := 0x1f0028, flds := [STO_CACHE_LEN_MIB] }

def STO_CNT_COUNT : Field := { off := 0x1f0040, hi := 31, lo := 0, acc := .ro, reset := 0, str := 0x4 }
def reg_STO_CNT : Reg := { off := 0x1f0040, str := 0x4, cnt := 8, flds := [STO_CNT_COUNT] }

def STO_CNTCLR_CLR : Field := { off := 0x1f0060, hi := 7, lo := 0, acc := .wo, reset := 0 }
def reg_STO_CNTCLR : Reg := { off := 0x1f0060, flds := [STO_CNTCLR_CLR] }

/-- The registers of the STO block. -/
def regsOf_STO : List Reg :=
  [reg_STO_CTRL, reg_STO_STAT, reg_STO_NVME_CFG, reg_STO_NVME_CAP_LO, reg_STO_NVME_CAP_HI, reg_STO_MMC_CFG, reg_STO_MMC_CAP_LO, reg_STO_MMC_CAP_HI, reg_STO_CACHE_LO, reg_STO_CACHE_HI, reg_STO_CACHE_LEN, reg_STO_CNT, reg_STO_CNTCLR]

/-- The STO window (R45). -/
def block_STO : Block := { base := 0x1f0000, size := 0x10000, lock := some STO_CTRL_LOCK, regs := regsOf_STO }

end Sys2Proof.Machine
end

