-- ==== Sys2Proof/Machine/RegsTen.lean ====
section
/-! DEFINITION. The register map of the TEN block: one definition for each field of its register tables in spec/10_tunnel_engines.md (R264), and the list of its registers. Window base and size: R45. -/

namespace Sys2Proof.Machine

def TEN_CTRL_LOCK : Field := { off := 0x1c0000, hi := 31, lo := 31, acc := .w1s, reset := 0 }
def reg_TEN_CTRL : Reg := { off := 0x1c0000, flds := [TEN_CTRL_LOCK] }

def TEN_STAT_IMGREJ : Field := { off := 0x1c0004, hi := 1, lo := 1, acc := .w1c, reset := 0 }
def TEN_STAT_SVCREJ : Field := { off := 0x1c0004, hi := 0, lo := 0, acc := .w1c, reset := 0 }
def reg_TEN_STAT : Reg := { off := 0x1c0004, flds := [TEN_STAT_IMGREJ, TEN_STAT_SVCREJ] }

def TEN_IMG_ADDR_ADDR : Field := { off := 0x1c0010, hi := 31, lo := 12, acc := .rwl, reset := 0, str := 0x10 }
def reg_TEN_IMG_ADDR : Reg := { off := 0x1c0010, str := 0x10, cnt := 4, flds := [TEN_IMG_ADDR_ADDR] }

def TEN_IMG_LEN_LEN : Field := { off := 0x1c0014, hi := 19, lo := 0, acc := .rwl, reset := 0, str := 0x10 }
def reg_TEN_IMG_LEN : Reg := { off := 0x1c0014, str := 0x10, cnt := 4, flds := [TEN_IMG_LEN_LEN] }

def TEN_IMG_INFO_VERIFIED : Field := { off := 0x1c0018, hi := 31, lo := 31, acc := .ro, reset := 0, str := 0x10 }
def TEN_IMG_INFO_VERSION : Field := { off := 0x1c0018, hi := 23, lo := 16, acc := .ro, reset := 0, str := 0x10 }
def TEN_IMG_INFO_CAP : Field := { off := 0x1c0018, hi := 15, lo := 0, acc := .ro, reset := 0, str := 0x10 }
def reg_TEN_IMG_INFO : Reg := { off := 0x1c0018, str := 0x10, cnt := 4, flds := [TEN_IMG_INFO_VERIFIED, TEN_IMG_INFO_VERSION, TEN_IMG_INFO_CAP] }

def TEN_CNT_COUNT : Field := { off := 0x1c0100, hi := 31, lo := 0, acc := .ro, reset := 0, str := 0x4 }
def reg_TEN_CNT : Reg := { off := 0x1c0100, str := 0x4, cnt := 4, flds := [TEN_CNT_COUNT] }

def TEN_CNTCLR_CLR : Field := { off := 0x1c0110, hi := 3, lo := 0, acc := .wo, reset := 0 }
def reg_TEN_CNTCLR : Reg := { off := 0x1c0110, flds := [TEN_CNTCLR_CLR] }

def ENG_CTRL_EN : Field := { off := 0x1c1000, hi := 31, lo := 31, acc := .rw, reset := 0, str := 0x100 }
def ENG_CTRL_RESTART : Field := { off := 0x1c1000, hi := 30, lo := 30, acc := .rw, reset := 1, str := 0x100 }
def ENG_CTRL_IMAGE : Field := { off := 0x1c1000, hi := 25, lo := 24, acc := .rwl, reset := 0, str := 0x100 }
def ENG_CTRL_MBXTO : Field := { off := 0x1c1000, hi := 23, lo := 16, acc := .rw, reset := 10, ok := [(1, 255)], str := 0x100 }
def ENG_CTRL_WDT : Field := { off := 0x1c1000, hi := 7, lo := 0, acc := .rw, reset := 10, ok := [(1, 255)], str := 0x100 }
def reg_ENG_CTRL : Reg := { off := 0x1c1000, str := 0x100, cnt := 16, flds := [ENG_CTRL_EN, ENG_CTRL_RESTART, ENG_CTRL_IMAGE, ENG_CTRL_MBXTO, ENG_CTRL_WDT] }

def ENG_STAT_STATE : Field := { off := 0x1c1004, hi := 31, lo := 30, acc := .ro, reset := 0, str := 0x100 }
def ENG_STAT_CAUSE : Field := { off := 0x1c1004, hi := 29, lo := 27, acc := .ro, reset := 0, str := 0x100 }
def ENG_STAT_RESTARTS : Field := { off := 0x1c1004, hi := 7, lo := 0, acc := .ro, reset := 0, str := 0x100 }
def reg_ENG_STAT : Reg := { off := 0x1c1004, str := 0x100, cnt := 16, flds := [ENG_STAT_STATE, ENG_STAT_CAUSE, ENG_STAT_RESTARTS] }

def ENG_REQ0_W : Field := { off := 0x1c1020, hi := 31, lo := 0, acc := .rw, reset := 0, str := 0x100, str2 := 0x4 }
def reg_ENG_REQ0 : Reg := { off := 0x1c1020, str := 0x100, cnt := 16, str2 := 0x4, cnt2 := 8, flds := [ENG_REQ0_W] }

def ENG_RSP0_W : Field := { off := 0x1c1040, hi := 31, lo := 0, acc := .ro, reset := 0, str := 0x100, str2 := 0x4 }
def reg_ENG_RSP0 : Reg := { off := 0x1c1040, str := 0x100, cnt := 16, str2 := 0x4, cnt2 := 8, flds := [ENG_RSP0_W] }

def ENG_REQ1_W : Field := { off := 0x1c1080, hi := 31, lo := 0, acc := .rw, reset := 0, str := 0x100, str2 := 0x4 }
def reg_ENG_REQ1 : Reg := { off := 0x1c1080, str := 0x100, cnt := 16, str2 := 0x4, cnt2 := 8, flds := [ENG_REQ1_W] }

def ENG_RSP1_W : Field := { off := 0x1c10a0, hi := 31, lo := 0, acc := .ro, reset := 0, str := 0x100, str2 := 0x4 }
def reg_ENG_RSP1 : Reg := { off := 0x1c10a0, str := 0x100, cnt := 16, str2 := 0x4, cnt2 := 8, flds := [ENG_RSP1_W] }

def ENG_MBX_GO : Field := { off := 0x1c1060, hi := 31, lo := 31, acc := .wo, reset := 0, str := 0x100, str2 := 0x60 }
def ENG_MBX_BUSY : Field := { off := 0x1c1060, hi := 30, lo := 30, acc := .ro, reset := 0, str := 0x100, str2 := 0x60 }
def ENG_MBX_DONE : Field := { off := 0x1c1060, hi := 29, lo := 29, acc := .w1c, reset := 0, str := 0x100, str2 := 0x60 }
def ENG_MBX_OPCODE : Field := { off := 0x1c1060, hi := 23, lo := 16, acc := .rw, reset := 0, str := 0x100, str2 := 0x60 }
def ENG_MBX_CODE : Field := { off := 0x1c1060, hi := 15, lo := 8, acc := .ro, reset := 0, str := 0x100, str2 := 0x60 }
def ENG_MBX_SVC : Field := { off := 0x1c1060, hi := 6, lo := 0, acc := .rw, reset := 0, str := 0x100, str2 := 0x60 }
def reg_ENG_MBX : Reg := { off := 0x1c1060, str := 0x100, cnt := 16, str2 := 0x60, cnt2 := 2, flds := [ENG_MBX_GO, ENG_MBX_BUSY, ENG_MBX_DONE, ENG_MBX_OPCODE, ENG_MBX_CODE, ENG_MBX_SVC] }

def TEN_SVC0_EN : Field := { off := 0x1c4000, hi := 31, lo := 31, acc := .rw, reset := 0, str := 0x10 }
def TEN_SVC0_STATE : Field := { off := 0x1c4000, hi := 30, lo := 28, acc := .ro, reset := 0, str := 0x10 }
def TEN_SVC0_TYPE : Field := { off := 0x1c4000, hi := 27, lo := 24, acc := .rw, reset := 0, ok := [(1, 8)], str := 0x10 }
def TEN_SVC0_ENGINE : Field := { off := 0x1c4000, hi := 19, lo := 16, acc := .rw, reset := 0, str := 0x10 }
def TEN_SVC0_CODE : Field := { off := 0x1c4000, hi := 7, lo := 0, acc := .ro, reset := 0, str := 0x10 }
def reg_TEN_SVC0 : Reg := { off := 0x1c4000, str := 0x10, cnt := 128, flds := [TEN_SVC0_EN, TEN_SVC0_STATE, TEN_SVC0_TYPE, TEN_SVC0_ENGINE, TEN_SVC0_CODE] }

def TEN_SVC1_RXSLOT : Field := { off := 0x1c4004, hi := 23, lo := 16, acc := .rw, reset := 0, ok := [(0, 252)], str := 0x10 }
def TEN_SVC1_TXSLOT : Field := { off := 0x1c4004, hi := 7, lo := 0, acc := .rw, reset := 0, ok := [(0, 252)], str := 0x10 }
def reg_TEN_SVC1 : Reg := { off := 0x1c4004, str := 0x10, cnt := 128, flds := [TEN_SVC1_RXSLOT, TEN_SVC1_TXSLOT] }

def TEN_SVC2_PBANK : Field := { off := 0x1c4008, hi := 28, lo := 24, acc := .rw, reset := 0, str := 0x10 }
def TEN_SVC2_POFS : Field := { off := 0x1c4008, hi := 15, lo := 0, acc := .rw, reset := 0, str := 0x10 }
def reg_TEN_SVC2 : Reg := { off := 0x1c4008, str := 0x10, cnt := 128, flds := [TEN_SVC2_PBANK, TEN_SVC2_POFS] }

def TEN_SVC3_PLEN : Field := { off := 0x1c400c, hi := 16, lo := 0, acc := .rw, reset := 0, ok := [(0, 65536)], str := 0x10 }
def reg_TEN_SVC3 : Reg := { off := 0x1c400c, str := 0x10, cnt := 128, flds := [TEN_SVC3_PLEN] }

/-- The registers of the TEN block. -/
def regsOf_TEN : List Reg :=
  [reg_TEN_CTRL, reg_TEN_STAT, reg_TEN_IMG_ADDR, reg_TEN_IMG_LEN, reg_TEN_IMG_INFO, reg_TEN_CNT, reg_TEN_CNTCLR, reg_ENG_CTRL, reg_ENG_STAT, reg_ENG_REQ0, reg_ENG_RSP0, reg_ENG_REQ1, reg_ENG_RSP1, reg_ENG_MBX, reg_TEN_SVC0, reg_TEN_SVC1, reg_TEN_SVC2, reg_TEN_SVC3]

/-- The TEN window (R45). -/
def block_TEN : Block := { base := 0x1c0000, size := 0x10000, lock := some TEN_CTRL_LOCK, regs := regsOf_TEN }

end Sys2Proof.Machine
end

