-- ==== Sys2Proof/Machine/RegsTmu.lean ====
section
/-! DEFINITION. The register map of the TMU block: one definition for each field of its register tables in spec/03_time.md (R104), and the list of its registers. Window base and size: R45. -/

namespace Sys2Proof.Machine

def TMU_CTRL_LOCK : Field := { off := 0xa0000, hi := 31, lo := 31, acc := .w1s, reset := 0 }
def TMU_CTRL_SNAP : Field := { off := 0xa0000, hi := 3, lo := 3, acc := .wo, reset := 0 }
def TMU_CTRL_SLEW : Field := { off := 0xa0000, hi := 2, lo := 2, acc := .wo, reset := 0 }
def TMU_CTRL_STEP : Field := { off := 0xa0000, hi := 1, lo := 1, acc := .wo, reset := 0 }
def TMU_CTRL_SET : Field := { off := 0xa0000, hi := 0, lo := 0, acc := .wo, reset := 0 }
def reg_TMU_CTRL : Reg := { off := 0xa0000, flds := [TMU_CTRL_LOCK, TMU_CTRL_SNAP, TMU_CTRL_SLEW, TMU_CTRL_STEP, TMU_CTRL_SET] }

def TMU_STAT_TVALID : Field := { off := 0xa0004, hi := 31, lo := 31, acc := .ro, reset := 0 }
def TMU_STAT_SLEWACT : Field := { off := 0xa0004, hi := 30, lo := 30, acc := .ro, reset := 0 }
def TMU_STAT_CMDREJ : Field := { off := 0xa0004, hi := 18, lo := 18, acc := .w1c, reset := 0 }
def TMU_STAT_INCREJ : Field := { off := 0xa0004, hi := 17, lo := 17, acc := .w1c, reset := 0 }
def TMU_STAT_STEPPED : Field := { off := 0xa0004, hi := 16, lo := 16, acc := .w1c, reset := 0 }
def TMU_STAT_STEPCNT : Field := { off := 0xa0004, hi := 15, lo := 0, acc := .ro, reset := 0 }
def reg_TMU_STAT : Reg := { off := 0xa0004, flds := [TMU_STAT_TVALID, TMU_STAT_SLEWACT, TMU_STAT_CMDREJ, TMU_STAT_INCREJ, TMU_STAT_STEPPED, TMU_STAT_STEPCNT] }

def TMU_INCR_LO_FRAC : Field := { off := 0xa0008, hi := 31, lo := 0, acc := .rw, reset := 0 }
def reg_TMU_INCR_LO : Reg := { off := 0xa0008, flds := [TMU_INCR_LO_FRAC] }

def TMU_INCR_HI_INT : Field := { off := 0xa000c, hi := 7, lo := 0, acc := .rw, reset := 2 }
def reg_TMU_INCR_HI : Reg := { off := 0xa000c, flds := [TMU_INCR_HI_INT] }

def TMU_SLEW_OFS_OFS : Field := { off := 0xa0010, hi := 23, lo := 0, acc := .rw, reset := 0 }
def reg_TMU_SLEW_OFS : Reg := { off := 0xa0010, flds := [TMU_SLEW_OFS_OFS] }

def TMU_SLEW_TICKS_TICKS : Field := { off := 0xa0014, hi := 31, lo := 0, acc := .rw, reset := 1, ok := [(1, 4294967295)] }
def reg_TMU_SLEW_TICKS : Reg := { off := 0xa0014, flds := [TMU_SLEW_TICKS_TICKS] }

def TMU_STEP_NS_NS : Field := { off := 0xa0018, hi := 31, lo := 0, acc := .rw, reset := 0 }
def reg_TMU_STEP_NS : Reg := { off := 0xa0018, flds := [TMU_STEP_NS_NS] }

def TMU_STEP_FRAC_FRAC : Field := { off := 0xa001c, hi := 15, lo := 0, acc := .rw, reset := 0 }
def reg_TMU_STEP_FRAC : Reg := { off := 0xa001c, flds := [TMU_STEP_FRAC_FRAC] }

def TMU_SET_SECHI_SEC_HI : Field := { off := 0xa0020, hi := 15, lo := 0, acc := .rw, reset := 0 }
def reg_TMU_SET_SECHI : Reg := { off := 0xa0020, flds := [TMU_SET_SECHI_SEC_HI] }

def TMU_SET_SECLO_SEC_LO : Field := { off := 0xa0024, hi := 31, lo := 0, acc := .rw, reset := 0 }
def reg_TMU_SET_SECLO : Reg := { off := 0xa0024, flds := [TMU_SET_SECLO_SEC_LO] }

def TMU_SET_NS_NS : Field := { off := 0xa0028, hi := 31, lo := 0, acc := .rw, reset := 0 }
def reg_TMU_SET_NS : Reg := { off := 0xa0028, flds := [TMU_SET_NS_NS] }

def TMU_SET_FRAC_FRAC : Field := { off := 0xa002c, hi := 15, lo := 0, acc := .rw, reset := 0 }
def reg_TMU_SET_FRAC : Reg := { off := 0xa002c, flds := [TMU_SET_FRAC_FRAC] }

def TMU_SNAP_SECHI_SEC_HI : Field := { off := 0xa0030, hi := 15, lo := 0, acc := .ro, reset := 0 }
def reg_TMU_SNAP_SECHI : Reg := { off := 0xa0030, flds := [TMU_SNAP_SECHI_SEC_HI] }

def TMU_SNAP_SECLO_SEC_LO : Field := { off := 0xa0034, hi := 31, lo := 0, acc := .ro, reset := 0 }
def reg_TMU_SNAP_SECLO : Reg := { off := 0xa0034, flds := [TMU_SNAP_SECLO_SEC_LO] }

def TMU_SNAP_NS_NS : Field := { off := 0xa0038, hi := 31, lo := 0, acc := .ro, reset := 0 }
def reg_TMU_SNAP_NS : Reg := { off := 0xa0038, flds := [TMU_SNAP_NS_NS] }

def TMU_SNAP_FRAC_FRAC : Field := { off := 0xa003c, hi := 15, lo := 0, acc := .ro, reset := 0 }
def reg_TMU_SNAP_FRAC : Reg := { off := 0xa003c, flds := [TMU_SNAP_FRAC_FRAC] }

def TMU_SNAP_NS32_NS32 : Field := { off := 0xa0040, hi := 31, lo := 0, acc := .ro, reset := 0 }
def reg_TMU_SNAP_NS32 : Reg := { off := 0xa0040, flds := [TMU_SNAP_NS32_NS32] }

def TMU_UTC_LEAP61 : Field := { off := 0xa0044, hi := 17, lo := 17, acc := .rw, reset := 0 }
def TMU_UTC_LEAP59 : Field := { off := 0xa0044, hi := 16, lo := 16, acc := .rw, reset := 0 }
def TMU_UTC_OFFSET : Field := { off := 0xa0044, hi := 15, lo := 0, acc := .rw, reset := 0 }
def reg_TMU_UTC : Reg := { off := 0xa0044, flds := [TMU_UTC_LEAP61, TMU_UTC_LEAP59, TMU_UTC_OFFSET] }

def TMU_CNT_REJ_COUNT : Field := { off := 0xa0048, hi := 31, lo := 0, acc := .cnt, reset := 0 }
def reg_TMU_CNT_REJ : Reg := { off := 0xa0048, flds := [TMU_CNT_REJ_COUNT] }

def TMU_CNT_CSAT_COUNT : Field := { off := 0xa004c, hi := 31, lo := 0, acc := .cnt, reset := 0 }
def reg_TMU_CNT_CSAT : Reg := { off := 0xa004c, flds := [TMU_CNT_CSAT_COUNT] }

def CMP_CTRL_EN : Field := { off := 0xa0100, hi := 31, lo := 31, acc := .rw, reset := 0, str := 0x10 }
def CMP_CTRL_PERIODIC : Field := { off := 0xa0100, hi := 30, lo := 30, acc := .rw, reset := 0, str := 0x10 }
def CMP_CTRL_ACT : Field := { off := 0xa0100, hi := 29, lo := 28, acc := .rw, reset := 0, ok := [(0, 2)], str := 0x10 }
def CMP_CTRL_PULSE : Field := { off := 0xa0100, hi := 7, lo := 0, acc := .rw, reset := 1, ok := [(1, 255)], str := 0x10 }
def reg_CMP_CTRL : Reg := { off := 0xa0100, str := 0x10, cnt := 8, flds := [CMP_CTRL_EN, CMP_CTRL_PERIODIC, CMP_CTRL_ACT, CMP_CTRL_PULSE] }

def CMP_TGT_TGT : Field := { off := 0xa0104, hi := 31, lo := 0, acc := .rw, reset := 0, str := 0x10 }
def reg_CMP_TGT : Reg := { off := 0xa0104, str := 0x10, cnt := 8, flds := [CMP_TGT_TGT] }

def CMP_PER_PER : Field := { off := 0xa0108, hi := 31, lo := 0, acc := .rw, reset := 0x3b9aca00, ok := [(16, 0x7FFFFFFF)], str := 0x10 }
def reg_CMP_PER : Reg := { off := 0xa0108, str := 0x10, cnt := 8, flds := [CMP_PER_PER] }

def CMP_STAT_LATE : Field := { off := 0xa010c, hi := 1, lo := 1, acc := .w1c, reset := 0, str := 0x10 }
def CMP_STAT_FIRED : Field := { off := 0xa010c, hi := 0, lo := 0, acc := .w1c, reset := 0, str := 0x10 }
def reg_CMP_STAT : Reg := { off := 0xa010c, str := 0x10, cnt := 8, flds := [CMP_STAT_LATE, CMP_STAT_FIRED] }

def PPSI_CFG_EN : Field := { off := 0xa0200, hi := 31, lo := 31, acc := .rw, reset := 0, str := 0x20 }
def PPSI_CFG_EDGE : Field := { off := 0xa0200, hi := 30, lo := 30, acc := .rw, reset := 0, str := 0x20 }
def PPSI_CFG_FILT : Field := { off := 0xa0200, hi := 29, lo := 26, acc := .rw, reset := 2, str := 0x20 }
def PPSI_CFG_TOL : Field := { off := 0xa0200, hi := 25, lo := 16, acc := .rw, reset := 100, ok := [(1, 1000)], str := 0x20 }
def PPSI_CFG_LOS : Field := { off := 0xa0200, hi := 7, lo := 0, acc := .rw, reset := 15, ok := [(11, 50)], str := 0x20 }
def reg_PPSI_CFG : Reg := { off := 0xa0200, str := 0x20, cnt := 2, flds := [PPSI_CFG_EN, PPSI_CFG_EDGE, PPSI_CFG_FILT, PPSI_CFG_TOL, PPSI_CFG_LOS] }

def PPSI_SECLO_SEC_LO : Field := { off := 0xa0204, hi := 31, lo := 0, acc := .ro, reset := 0, str := 0x20 }
def reg_PPSI_SECLO : Reg := { off := 0xa0204, str := 0x20, cnt := 2, flds := [PPSI_SECLO_SEC_LO] }

def PPSI_NS_NS : Field := { off := 0xa0208, hi := 31, lo := 0, acc := .ro, reset := 0, str := 0x20 }
def reg_PPSI_NS : Reg := { off := 0xa0208, str := 0x20, cnt := 2, flds := [PPSI_NS_NS] }

def PPSI_FRAC_FRAC : Field := { off := 0xa020c, hi := 15, lo := 0, acc := .ro, reset := 0, str := 0x20 }
def reg_PPSI_FRAC : Reg := { off := 0xa020c, str := 0x20, cnt := 2, flds := [PPSI_FRAC_FRAC] }

def PPSI_STAT_VALID : Field := { off := 0xa0210, hi := 31, lo := 31, acc := .w1c, reset := 0, str := 0x20 }
def PPSI_STAT_OUTRANGE : Field := { off := 0xa0210, hi := 30, lo := 30, acc := .w1c, reset := 0, str := 0x20 }
def PPSI_STAT_LOS : Field := { off := 0xa0210, hi := 29, lo := 29, acc := .ro, reset := 0, str := 0x20 }
def PPSI_STAT_OVR : Field := { off := 0xa0210, hi := 28, lo := 28, acc := .w1c, reset := 0, str := 0x20 }
def PPSI_STAT_UNTRACED : Field := { off := 0xa0210, hi := 27, lo := 27, acc := .ro, reset := 0, str := 0x20 }
def PPSI_STAT_EDGES : Field := { off := 0xa0210, hi := 15, lo := 0, acc := .ro, reset := 0, str := 0x20 }
def reg_PPSI_STAT : Reg := { off := 0xa0210, str := 0x20, cnt := 2, flds := [PPSI_STAT_VALID, PPSI_STAT_OUTRANGE, PPSI_STAT_LOS, PPSI_STAT_OVR, PPSI_STAT_UNTRACED, PPSI_STAT_EDGES] }

def PPSI_CNT_REJ_COUNT : Field := { off := 0xa0214, hi := 31, lo := 0, acc := .cnt, reset := 0, str := 0x20 }
def reg_PPSI_CNT_REJ : Reg := { off := 0xa0214, str := 0x20, cnt := 2, flds := [PPSI_CNT_REJ_COUNT] }

def PPSO_CFG_EN : Field := { off := 0xa0280, hi := 31, lo := 31, acc := .rw, reset := 0, str := 0x10 }
def PPSO_CFG_POL : Field := { off := 0xa0280, hi := 30, lo := 30, acc := .rw, reset := 0, str := 0x10 }
def PPSO_CFG_FORCE : Field := { off := 0xa0280, hi := 29, lo := 29, acc := .rw, reset := 0, str := 0x10 }
def PPSO_CFG_WIDTH : Field := { off := 0xa0280, hi := 15, lo := 0, acc := .rw, reset := 0x2710, ok := [(1, 65535)], str := 0x10 }
def reg_PPSO_CFG : Reg := { off := 0xa0280, str := 0x10, cnt := 2, flds := [PPSO_CFG_EN, PPSO_CFG_POL, PPSO_CFG_FORCE, PPSO_CFG_WIDTH] }

def PPSO_OFS_OFS : Field := { off := 0xa0284, hi := 27, lo := 0, acc := .rwl, reset := 0, str := 0x10 }
def reg_PPSO_OFS : Reg := { off := 0xa0284, str := 0x10, cnt := 2, flds := [PPSO_OFS_OFS] }

def TMU_IRIG_SECLO_SEC_LO : Field := { off := 0xa02c0, hi := 31, lo := 0, acc := .ro, reset := 0 }
def reg_TMU_IRIG_SECLO : Reg := { off := 0xa02c0, flds := [TMU_IRIG_SECLO_SEC_LO] }

def TMU_IRIG_NS_NS : Field := { off := 0xa02c4, hi := 31, lo := 0, acc := .ro, reset := 0 }
def reg_TMU_IRIG_NS : Reg := { off := 0xa02c4, flds := [TMU_IRIG_NS_NS] }

def TMU_IRIG_FRAC_FRAC : Field := { off := 0xa02c8, hi := 15, lo := 0, acc := .ro, reset := 0 }
def reg_TMU_IRIG_FRAC : Reg := { off := 0xa02c8, flds := [TMU_IRIG_FRAC_FRAC] }

def TMU_IRIG_STAT_VALID : Field := { off := 0xa02cc, hi := 31, lo := 31, acc := .w1c, reset := 0 }
def TMU_IRIG_STAT_OVR : Field := { off := 0xa02cc, hi := 28, lo := 28, acc := .w1c, reset := 0 }
def TMU_IRIG_STAT_UNTRACED : Field := { off := 0xa02cc, hi := 27, lo := 27, acc := .ro, reset := 0 }
def reg_TMU_IRIG_STAT : Reg := { off := 0xa02cc, flds := [TMU_IRIG_STAT_VALID, TMU_IRIG_STAT_OVR, TMU_IRIG_STAT_UNTRACED] }

def PT_CFG_LDLYEN : Field := { off := 0xa1000, hi := 31, lo := 31, acc := .rw, reset := 0, str := 0x40 }
def PT_CFG_ONESTEP : Field := { off := 0xa1000, hi := 30, lo := 30, acc := .rw, reset := 0, str := 0x40 }
def PT_CFG_PTPDET : Field := { off := 0xa1000, hi := 29, lo := 29, acc := .rw, reset := 0, str := 0x40 }
def PT_CFG_PTPLOCAL : Field := { off := 0xa1000, hi := 28, lo := 28, acc := .rw, reset := 0, str := 0x40 }
def reg_PT_CFG : Reg := { off := 0xa1000, str := 0x40, cnt := 12, flds := [PT_CFG_LDLYEN, PT_CFG_ONESTEP, PT_CFG_PTPDET, PT_CFG_PTPLOCAL] }

def PT_TXINT_TXINT : Field := { off := 0xa1004, hi := 31, lo := 0, acc := .ro, reset := 0, str := 0x40 }
def reg_PT_TXINT : Reg := { off := 0xa1004, str := 0x40, cnt := 12, flds := [PT_TXINT_TXINT] }

def PT_RXINT_RXINT : Field := { off := 0xa1008, hi := 31, lo := 0, acc := .ro, reset := 0, str := 0x40 }
def reg_PT_RXINT : Reg := { off := 0xa1008, str := 0x40, cnt := 12, flds := [PT_RXINT_RXINT] }

def PT_TXBRD_TXBRD : Field := { off := 0xa100c, hi := 31, lo := 0, acc := .rwl, reset := 0, str := 0x40 }
def reg_PT_TXBRD : Reg := { off := 0xa100c, str := 0x40, cnt := 12, flds := [PT_TXBRD_TXBRD] }

def PT_RXBRD_RXBRD : Field := { off := 0xa1010, hi := 31, lo := 0, acc := .rwl, reset := 0, str := 0x40 }
def reg_PT_RXBRD : Reg := { off := 0xa1010, str := 0x40, cnt := 12, flds := [PT_RXBRD_RXBRD] }

def PT_LDLY_LDLY : Field := { off := 0xa1014, hi := 31, lo := 0, acc := .rw, reset := 0, str := 0x40 }
def reg_PT_LDLY : Reg := { off := 0xa1014, str := 0x40, cnt := 12, flds := [PT_LDLY_LDLY] }

def PT_ASYM_ASYM : Field := { off := 0xa1018, hi := 31, lo := 0, acc := .rwl, reset := 0, str := 0x40 }
def reg_PT_ASYM : Reg := { off := 0xa1018, str := 0x40, cnt := 12, flds := [PT_ASYM_ASYM] }

def PT_TSQ_STAT_NONEMPTY : Field := { off := 0xa101c, hi := 31, lo := 31, acc := .ro, reset := 0, str := 0x40 }
def PT_TSQ_STAT_OVR : Field := { off := 0xa101c, hi := 30, lo := 30, acc := .w1c, reset := 0, str := 0x40 }
def PT_TSQ_STAT_LEVEL : Field := { off := 0xa101c, hi := 4, lo := 0, acc := .ro, reset := 0, str := 0x40 }
def reg_PT_TSQ_STAT : Reg := { off := 0xa101c, str := 0x40, cnt := 12, flds := [PT_TSQ_STAT_NONEMPTY, PT_TSQ_STAT_OVR, PT_TSQ_STAT_LEVEL] }

def PT_TSQ_INFO_DOMAIN : Field := { off := 0xa1020, hi := 23, lo := 16, acc := .ro, reset := 0, str := 0x40 }
def PT_TSQ_INFO_MSGTYPE : Field := { off := 0xa1020, hi := 15, lo := 12, acc := .ro, reset := 0, str := 0x40 }
def reg_PT_TSQ_INFO : Reg := { off := 0xa1020, str := 0x40, cnt := 12, flds := [PT_TSQ_INFO_DOMAIN, PT_TSQ_INFO_MSGTYPE] }

def PT_TSQ_SEC_SEQ_SEC : Field := { off := 0xa1024, hi := 31, lo := 0, acc := .ro, reset := 0, str := 0x40 }
def reg_PT_TSQ_SEC : Reg := { off := 0xa1024, str := 0x40, cnt := 12, flds := [PT_TSQ_SEC_SEQ_SEC] }

def PT_TSQ_NS_NS : Field := { off := 0xa1028, hi := 31, lo := 0, acc := .ro, reset := 0, str := 0x40 }
def reg_PT_TSQ_NS : Reg := { off := 0xa1028, str := 0x40, cnt := 12, flds := [PT_TSQ_NS_NS] }

def PT_TSQ_FRAC_FRAC : Field := { off := 0xa102c, hi := 15, lo := 0, acc := .ro, reset := 0, str := 0x40 }
def reg_PT_TSQ_FRAC : Reg := { off := 0xa102c, str := 0x40, cnt := 12, flds := [PT_TSQ_FRAC_FRAC] }

def PT_TSQ_CORRLO_CORR_LO : Field := { off := 0xa1030, hi := 31, lo := 0, acc := .ro, reset := 0, str := 0x40 }
def reg_PT_TSQ_CORRLO : Reg := { off := 0xa1030, str := 0x40, cnt := 12, flds := [PT_TSQ_CORRLO_CORR_LO] }

def PT_TSQ_CORRHI_CORR_HI : Field := { off := 0xa1034, hi := 31, lo := 0, acc := .ro, reset := 0, str := 0x40 }
def reg_PT_TSQ_CORRHI : Reg := { off := 0xa1034, str := 0x40, cnt := 12, flds := [PT_TSQ_CORRHI_CORR_HI] }

/-- The registers of the TMU block. -/
def regsOf_TMU : List Reg :=
  [reg_TMU_CTRL, reg_TMU_STAT, reg_TMU_INCR_LO, reg_TMU_INCR_HI, reg_TMU_SLEW_OFS, reg_TMU_SLEW_TICKS, reg_TMU_STEP_NS, reg_TMU_STEP_FRAC, reg_TMU_SET_SECHI, reg_TMU_SET_SECLO, reg_TMU_SET_NS, reg_TMU_SET_FRAC, reg_TMU_SNAP_SECHI, reg_TMU_SNAP_SECLO, reg_TMU_SNAP_NS, reg_TMU_SNAP_FRAC, reg_TMU_SNAP_NS32, reg_TMU_UTC, reg_TMU_CNT_REJ, reg_TMU_CNT_CSAT, reg_CMP_CTRL, reg_CMP_TGT, reg_CMP_PER, reg_CMP_STAT] ++
    [reg_PPSI_CFG, reg_PPSI_SECLO, reg_PPSI_NS, reg_PPSI_FRAC, reg_PPSI_STAT, reg_PPSI_CNT_REJ, reg_PPSO_CFG, reg_PPSO_OFS, reg_TMU_IRIG_SECLO, reg_TMU_IRIG_NS, reg_TMU_IRIG_FRAC, reg_TMU_IRIG_STAT, reg_PT_CFG, reg_PT_TXINT, reg_PT_RXINT, reg_PT_TXBRD, reg_PT_RXBRD, reg_PT_LDLY, reg_PT_ASYM, reg_PT_TSQ_STAT, reg_PT_TSQ_INFO, reg_PT_TSQ_SEC, reg_PT_TSQ_NS, reg_PT_TSQ_FRAC] ++
    [reg_PT_TSQ_CORRLO, reg_PT_TSQ_CORRHI]

/-- The TMU window (R45). -/
def block_TMU : Block := { base := 0xa0000, size := 0x10000, lock := some TMU_CTRL_LOCK, regs := regsOf_TMU }

end Sys2Proof.Machine
end

