-- ==== Sys2Proof/Machine/RegsTrk.lean ====
section
/-! DEFINITION. The register map of the TRK block: one definition for each field of its register tables in spec/06_trunk_link.md (R173), and the list of its registers. Window base and size: R45. -/

namespace Sys2Proof.Machine

def TRK_CTRL_EN : Field := { off := 0xd0000, hi := 31, lo := 31, acc := .rw, reset := 0, str := 0x1000 }
def TRK_CTRL_SEALREQ : Field := { off := 0xd0000, hi := 30, lo := 30, acc := .rwl, reset := 0, str := 0x1000 }
def TRK_CTRL_RING : Field := { off := 0xd0000, hi := 29, lo := 29, acc := .rwl, reset := 0, str := 0x1000 }
def TRK_CTRL_MAXW : Field := { off := 0xd0000, hi := 27, lo := 26, acc := .rwl, reset := 3, ok := [(1, 3)], str := 0x1000 }
def TRK_CTRL_RATE : Field := { off := 0xd0000, hi := 25, lo := 24, acc := .rwl, reset := 0, ok := [(0, 1)], str := 0x1000 }
def reg_TRK_CTRL : Reg := { off := 0xd0000, str := 0x1000, cnt := 4, flds := [TRK_CTRL_EN, TRK_CTRL_SEALREQ, TRK_CTRL_RING, TRK_CTRL_MAXW, TRK_CTRL_RATE] }

def TRK_STAT_STATE : Field := { off := 0xd0004, hi := 31, lo := 29, acc := .ro, reset := 0, str := 0x1000 }
def TRK_STAT_REASON : Field := { off := 0xd0004, hi := 28, lo := 25, acc := .ro, reset := 0, str := 0x1000 }
def TRK_STAT_WIDTH : Field := { off := 0xd0004, hi := 24, lo := 23, acc := .ro, reset := 0, str := 0x1000 }
def TRK_STAT_SEALED : Field := { off := 0xd0004, hi := 22, lo := 22, acc := .ro, reset := 0, str := 0x1000 }
def TRK_STAT_SEAMLESS : Field := { off := 0xd0004, hi := 21, lo := 21, acc := .ro, reset := 0, str := 0x1000 }
def TRK_STAT_KL2 : Field := { off := 0xd0004, hi := 20, lo := 20, acc := .ro, reset := 0, str := 0x1000 }
def TRK_STAT_ROLEMIS : Field := { off := 0xd0004, hi := 17, lo := 17, acc := .w1c, reset := 0, str := 0x1000 }
def TRK_STAT_DOWNEV : Field := { off := 0xd0004, hi := 16, lo := 16, acc := .w1c, reset := 0, str := 0x1000 }
def reg_TRK_STAT : Reg := { off := 0xd0004, str := 0x1000, cnt := 4, flds := [TRK_STAT_STATE, TRK_STAT_REASON, TRK_STAT_WIDTH, TRK_STAT_SEALED, TRK_STAT_SEAMLESS, TRK_STAT_KL2, TRK_STAT_ROLEMIS, TRK_STAT_DOWNEV] }

def TRK_TIMERS_BONDTO : Field := { off := 0xd0008, hi := 31, lo := 24, acc := .rw, reset := 10, ok := [(1, 255)], str := 0x1000 }
def TRK_TIMERS_TRAINTO : Field := { off := 0xd0008, hi := 23, lo := 16, acc := .rw, reset := 20, ok := [(1, 255)], str := 0x1000 }
def TRK_TIMERS_SEALTO : Field := { off := 0xd0008, hi := 15, lo := 8, acc := .rw, reset := 30, ok := [(1, 255)], str := 0x1000 }
def TRK_TIMERS_STALL : Field := { off := 0xd0008, hi := 7, lo := 0, acc := .rw, reset := 100, ok := [(1, 255)], str := 0x1000 }
def reg_TRK_TIMERS : Reg := { off := 0xd0008, str := 0x1000, cnt := 4, flds := [TRK_TIMERS_BONDTO, TRK_TIMERS_TRAINTO, TRK_TIMERS_SEALTO, TRK_TIMERS_STALL] }

def TRK_CRDCFG_INT : Field := { off := 0xd000c, hi := 3, lo := 0, acc := .rw, reset := 4, ok := [(1, 8)], str := 0x1000 }
def reg_TRK_CRDCFG : Reg := { off := 0xd000c, str := 0x1000, cnt := 4, flds := [TRK_CRDCFG_INT] }

def TRK_PEER0_KLMAX : Field := { off := 0xd0010, hi := 31, lo := 24, acc := .ro, reset := 0, str := 0x1000 }
def TRK_PEER0_FLAGS : Field := { off := 0xd0010, hi := 23, lo := 16, acc := .ro, reset := 0, str := 0x1000 }
def TRK_PEER0_REGION : Field := { off := 0xd0010, hi := 15, lo := 0, acc := .ro, reset := 0, str := 0x1000 }
def reg_TRK_PEER0 : Reg := { off := 0xd0010, str := 0x1000, cnt := 4, flds := [TRK_PEER0_KLMAX, TRK_PEER0_FLAGS, TRK_PEER0_REGION] }

def TRK_PEER1_PVER : Field := { off := 0xd0014, hi := 31, lo := 0, acc := .ro, reset := 0, str := 0x1000 }
def reg_TRK_PEER1 : Reg := { off := 0xd0014, str := 0x1000, cnt := 4, flds := [TRK_PEER1_PVER] }

def TRK_PEER2_ROLE : Field := { off := 0xd0018, hi := 31, lo := 30, acc := .ro, reset := 0, str := 0x1000 }
def TRK_PEER2_PREFIX : Field := { off := 0xd0018, hi := 24, lo := 7, acc := .ro, reset := 0, str := 0x1000 }
def reg_TRK_PEER2 : Reg := { off := 0xd0018, str := 0x1000, cnt := 4, flds := [TRK_PEER2_ROLE, TRK_PEER2_PREFIX] }

def TRK_AGREE_PVER : Field := { off := 0xd001c, hi := 31, lo := 0, acc := .ro, reset := 0, str := 0x1000 }
def reg_TRK_AGREE : Reg := { off := 0xd001c, str := 0x1000, cnt := 4, flds := [TRK_AGREE_PVER] }

def TRK_GRANT_GRANT : Field := { off := 0xd0020, hi := 15, lo := 0, acc := .rw, reset := 0, ok := [(0, 0), (73, 65535)], str := 0x1000, str2 := 0x4 }
def reg_TRK_GRANT : Reg := { off := 0xd0020, str := 0x1000, cnt := 4, str2 := 0x4, cnt2 := 8, flds := [TRK_GRANT_GRANT] }

def TRK_CRD_AVAIL : Field := { off := 0xd0040, hi := 31, lo := 16, acc := .ro, reset := 0, str := 0x1000, str2 := 0x4 }
def TRK_CRD_HELD : Field := { off := 0xd0040, hi := 15, lo := 0, acc := .ro, reset := 0, str := 0x1000, str2 := 0x4 }
def reg_TRK_CRD : Reg := { off := 0xd0040, str := 0x1000, cnt := 4, str2 := 0x4, cnt2 := 8, flds := [TRK_CRD_AVAIL, TRK_CRD_HELD] }

def TRK_SEAL_VALID : Field := { off := 0xd0060, hi := 31, lo := 31, acc := .rw, reset := 0, str := 0x1000 }
def TRK_SEAL_SLOT : Field := { off := 0xd0060, hi := 29, lo := 24, acc := .rw, reset := 0, str := 0x1000 }
def TRK_SEAL_PARTNER : Field := { off := 0xd0060, hi := 17, lo := 0, acc := .rw, reset := 0, str := 0x1000 }
def reg_TRK_SEAL : Reg := { off := 0xd0060, str := 0x1000, cnt := 4, flds := [TRK_SEAL_VALID, TRK_SEAL_SLOT, TRK_SEAL_PARTNER] }

def TRK_SEALSTAT_TXEPOCH : Field := { off := 0xd0064, hi := 31, lo := 16, acc := .ro, reset := 0, str := 0x1000 }
def TRK_SEALSTAT_RXEPOCH : Field := { off := 0xd0064, hi := 15, lo := 0, acc := .ro, reset := 0, str := 0x1000 }
def reg_TRK_SEALSTAT : Reg := { off := 0xd0064, str := 0x1000, cnt := 4, flds := [TRK_SEALSTAT_TXEPOCH, TRK_SEALSTAT_RXEPOCH] }

def TRK_RXPKT_COUNT : Field := { off := 0xd0070, hi := 31, lo := 0, acc := .ro, reset := 0, str := 0x1000 }
def reg_TRK_RXPKT : Reg := { off := 0xd0070, str := 0x1000, cnt := 4, flds := [TRK_RXPKT_COUNT] }

def TRK_TXPKT_COUNT : Field := { off := 0xd0074, hi := 31, lo := 0, acc := .ro, reset := 0, str := 0x1000 }
def reg_TRK_TXPKT : Reg := { off := 0xd0074, str := 0x1000, cnt := 4, flds := [TRK_TXPKT_COUNT] }

def TRK_CNT_COUNT : Field := { off := 0xd0080, hi := 31, lo := 0, acc := .ro, reset := 0, str := 0x1000, str2 := 0x4 }
def reg_TRK_CNT : Reg := { off := 0xd0080, str := 0x1000, cnt := 4, str2 := 0x4, cnt2 := 16, flds := [TRK_CNT_COUNT] }

def TRK_CNTCLR_CLR : Field := { off := 0xd00c0, hi := 15, lo := 0, acc := .wo, reset := 0, str := 0x1000 }
def reg_TRK_CNTCLR : Reg := { off := 0xd00c0, str := 0x1000, cnt := 4, flds := [TRK_CNTCLR_CLR] }

def TRK_GLB_LOCK_LOCK : Field := { off := 0xd8000, hi := 0, lo := 0, acc := .w1s, reset := 0 }
def reg_TRK_GLB_LOCK : Reg := { off := 0xd8000, flds := [TRK_GLB_LOCK_LOCK] }

def TRK_KL2_EN : Field := { off := 0xd8004, hi := 31, lo := 31, acc := .rwl, reset := 0 }
def TRK_KL2_DEMOTE : Field := { off := 0xd8004, hi := 30, lo := 30, acc := .rw, reset := 0 }
def TRK_KL2_AGE : Field := { off := 0xd8004, hi := 29, lo := 20, acc := .rw, reset := 100, ok := [(1, 1000)] }
def TRK_KL2_XOFFTHR : Field := { off := 0xd8004, hi := 15, lo := 0, acc := .rw, reset := 64, ok := [(1, 65535)] }
def reg_TRK_KL2 : Reg := { off := 0xd8004, flds := [TRK_KL2_EN, TRK_KL2_DEMOTE, TRK_KL2_AGE, TRK_KL2_XOFFTHR] }

def TRK_KL2_STAT_ACTIVE : Field := { off := 0xd8008, hi := 31, lo := 31, acc := .ro, reset := 0 }
def TRK_KL2_STAT_STRAP : Field := { off := 0xd8008, hi := 30, lo := 30, acc := .ro, reset := 0 }
def TRK_KL2_STAT_FUSEBAR : Field := { off := 0xd8008, hi := 29, lo := 29, acc := .ro, reset := 0 }
def TRK_KL2_STAT_ENREJ : Field := { off := 0xd8008, hi := 28, lo := 28, acc := .w1c, reset := 0 }
def TRK_KL2_STAT_XLATREJ : Field := { off := 0xd8008, hi := 27, lo := 27, acc := .w1c, reset := 0 }
def reg_TRK_KL2_STAT : Reg := { off := 0xd8008, flds := [TRK_KL2_STAT_ACTIVE, TRK_KL2_STAT_STRAP, TRK_KL2_STAT_FUSEBAR, TRK_KL2_STAT_ENREJ, TRK_KL2_STAT_XLATREJ] }

def TRK_KL2_CNT_COUNT : Field := { off := 0xd8040, hi := 31, lo := 0, acc := .ro, reset := 0, str := 0x4 }
def reg_TRK_KL2_CNT : Reg := { off := 0xd8040, str := 0x4, cnt := 8, flds := [TRK_KL2_CNT_COUNT] }

def TRK_KL2_CNTCLR_CLR : Field := { off := 0xd8060, hi := 7, lo := 0, acc := .wo, reset := 0 }
def reg_TRK_KL2_CNTCLR : Reg := { off := 0xd8060, flds := [TRK_KL2_CNTCLR_CLR] }

def TRK_XLAT_VALID : Field := { off := 0xd8100, hi := 31, lo := 31, acc := .rw, reset := 0, str := 0x4 }
def TRK_XLAT_PREFIX : Field := { off := 0xd8100, hi := 24, lo := 7, acc := .rw, reset := 0, str := 0x4 }
def reg_TRK_XLAT : Reg := { off := 0xd8100, str := 0x4, cnt := 32, flds := [TRK_XLAT_VALID, TRK_XLAT_PREFIX] }

/-- The registers of the TRK block. -/
def regsOf_TRK : List Reg :=
  [reg_TRK_CTRL, reg_TRK_STAT, reg_TRK_TIMERS, reg_TRK_CRDCFG, reg_TRK_PEER0, reg_TRK_PEER1, reg_TRK_PEER2, reg_TRK_AGREE, reg_TRK_GRANT, reg_TRK_CRD, reg_TRK_SEAL, reg_TRK_SEALSTAT, reg_TRK_RXPKT, reg_TRK_TXPKT, reg_TRK_CNT, reg_TRK_CNTCLR, reg_TRK_GLB_LOCK, reg_TRK_KL2, reg_TRK_KL2_STAT, reg_TRK_KL2_CNT, reg_TRK_KL2_CNTCLR, reg_TRK_XLAT]

/-- The TRK window (R45). -/
def block_TRK : Block := { base := 0xd0000, size := 0x10000, lock := some TRK_GLB_LOCK_LOCK, regs := regsOf_TRK }

end Sys2Proof.Machine
end

