-- ==== Sys2Proof/Machine/RegsUpd.lean ====
section
/-! DEFINITION. The register map of the UPD block: one definition for each field of its register tables in spec/19_usb_c_power.md (R486), and the list of its registers. Window base and size: R45. -/

namespace Sys2Proof.Machine

def UPD_CTRL_LOCK : Field := { off := 0x40000, hi := 31, lo := 31, acc := .w1s, reset := 0 }
def UPD_CTRL_EN : Field := { off := 0x40000, hi := 30, lo := 30, acc := .rw, reset := 1 }
def UPD_CTRL_POWER : Field := { off := 0x40000, hi := 29, lo := 28, acc := .rwl, reset := 2, ok := [(0, 2)] }
def UPD_CTRL_PREF : Field := { off := 0x40000, hi := 27, lo := 26, acc := .rwl, reset := 0, ok := [(0, 2)] }
def UPD_CTRL_PRSWAP : Field := { off := 0x40000, hi := 25, lo := 25, acc := .rw, reset := 1 }
def UPD_CTRL_DRSWAP : Field := { off := 0x40000, hi := 24, lo := 24, acc := .rw, reset := 1 }
def reg_UPD_CTRL : Reg := { off := 0x40000, flds := [UPD_CTRL_LOCK, UPD_CTRL_EN, UPD_CTRL_POWER, UPD_CTRL_PREF, UPD_CTRL_PRSWAP, UPD_CTRL_DRSWAP] }

def UPD_STAT_STATE : Field := { off := 0x40004, hi := 31, lo := 28, acc := .ro, reset := 0 }
def UPD_STAT_ORIENT : Field := { off := 0x40004, hi := 27, lo := 27, acc := .ro, reset := 0 }
def UPD_STAT_PROLE : Field := { off := 0x40004, hi := 26, lo := 26, acc := .ro, reset := 0 }
def UPD_STAT_DROLE : Field := { off := 0x40004, hi := 25, lo := 25, acc := .ro, reset := 0 }
def UPD_STAT_PD : Field := { off := 0x40004, hi := 24, lo := 24, acc := .ro, reset := 0 }
def UPD_STAT_RPCUR : Field := { off := 0x40004, hi := 23, lo := 22, acc := .ro, reset := 0 }
def UPD_STAT_SNKVALID : Field := { off := 0x40004, hi := 21, lo := 21, acc := .ro, reset := 0 }
def UPD_STAT_CMDBUSY : Field := { off := 0x40004, hi := 20, lo := 20, acc := .ro, reset := 0 }
def UPD_STAT_CMDCODE : Field := { off := 0x40004, hi := 19, lo := 16, acc := .ro, reset := 0 }
def UPD_STAT_HRSTEV : Field := { off := 0x40004, hi := 7, lo := 7, acc := .w1c, reset := 0 }
def UPD_STAT_SWAPEV : Field := { off := 0x40004, hi := 6, lo := 6, acc := .w1c, reset := 0 }
def UPD_STAT_ATTEV : Field := { off := 0x40004, hi := 5, lo := 5, acc := .w1c, reset := 0 }
def UPD_STAT_DETEV : Field := { off := 0x40004, hi := 4, lo := 4, acc := .w1c, reset := 0 }
def UPD_STAT_CONTEV : Field := { off := 0x40004, hi := 3, lo := 3, acc := .w1c, reset := 0 }
def UPD_STAT_ALTEV : Field := { off := 0x40004, hi := 2, lo := 2, acc := .w1c, reset := 0 }
def UPD_STAT_CLEV : Field := { off := 0x40004, hi := 1, lo := 1, acc := .w1c, reset := 0 }
def UPD_STAT_REJEV : Field := { off := 0x40004, hi := 0, lo := 0, acc := .w1c, reset := 0 }
def reg_UPD_STAT : Reg := { off := 0x40004, flds := [UPD_STAT_STATE, UPD_STAT_ORIENT, UPD_STAT_PROLE, UPD_STAT_DROLE, UPD_STAT_PD, UPD_STAT_RPCUR, UPD_STAT_SNKVALID, UPD_STAT_CMDBUSY, UPD_STAT_CMDCODE, UPD_STAT_HRSTEV, UPD_STAT_SWAPEV, UPD_STAT_ATTEV, UPD_STAT_DETEV, UPD_STAT_CONTEV, UPD_STAT_ALTEV, UPD_STAT_CLEV, UPD_STAT_REJEV] }

def UPD_SNKCFG_PPSEN : Field := { off := 0x40008, hi := 31, lo := 31, acc := .rw, reset := 1 }
def UPD_SNKCFG_KEEPALIVE : Field := { off := 0x40008, hi := 30, lo := 27, acc := .rw, reset := 8, ok := [(1, 10)] }
def UPD_SNKCFG_VMAX : Field := { off := 0x40008, hi := 26, lo := 16, acc := .rw, reset := 1000, ok := [(250, 1050)] }
def UPD_SNKCFG_VMIN : Field := { off := 0x40008, hi := 10, lo := 0, acc := .rw, reset := 750, ok := [(250, 1050)] }
def reg_UPD_SNKCFG : Reg := { off := 0x40008, flds := [UPD_SNKCFG_PPSEN, UPD_SNKCFG_KEEPALIVE, UPD_SNKCFG_VMAX, UPD_SNKCFG_VMIN] }

def UPD_SNKPPS_PPSV : Field := { off := 0x4000c, hi := 31, lo := 20, acc := .rw, reset := 1000, ok := [(165, 1050)] }
def UPD_SNKPPS_IMIN : Field := { off := 0x4000c, hi := 13, lo := 7, acc := .rw, reset := 20, ok := [(1, 60)] }
def UPD_SNKPPS_PPSI : Field := { off := 0x4000c, hi := 6, lo := 0, acc := .rw, reset := 60, ok := [(1, 60)] }
def reg_UPD_SNKPPS : Reg := { off := 0x4000c, flds := [UPD_SNKPPS_PPSV, UPD_SNKPPS_IMIN, UPD_SNKPPS_PPSI] }

def UPD_SRCCFG_PPSEN : Field := { off := 0x40010, hi := 31, lo := 31, acc := .rw, reset := 1 }
def UPD_SRCCFG_F9 : Field := { off := 0x40010, hi := 30, lo := 30, acc := .rw, reset := 1 }
def UPD_SRCCFG_F15 : Field := { off := 0x40010, hi := 29, lo := 29, acc := .rw, reset := 1 }
def UPD_SRCCFG_F20 : Field := { off := 0x40010, hi := 28, lo := 28, acc := .rw, reset := 1 }
def UPD_SRCCFG_IMAX : Field := { off := 0x40010, hi := 21, lo := 15, acc := .rwl, reset := 60, ok := [(1, 60)] }
def UPD_SRCCFG_PPSVMAX : Field := { off := 0x40010, hi := 7, lo := 0, acc := .rwl, reset := 210, ok := [(33, 210)] }
def reg_UPD_SRCCFG : Reg := { off := 0x40010, flds := [UPD_SRCCFG_PPSEN, UPD_SRCCFG_F9, UPD_SRCCFG_F15, UPD_SRCCFG_F20, UPD_SRCCFG_IMAX, UPD_SRCCFG_PPSVMAX] }

def UPD_CONTRACT_VALID : Field := { off := 0x40014, hi := 31, lo := 31, acc := .ro, reset := 0 }
def UPD_CONTRACT_PPS : Field := { off := 0x40014, hi := 30, lo := 30, acc := .ro, reset := 0 }
def UPD_CONTRACT_POS : Field := { off := 0x40014, hi := 29, lo := 27, acc := .ro, reset := 0 }
def UPD_CONTRACT_V : Field := { off := 0x40014, hi := 26, lo := 16, acc := .ro, reset := 0 }
def UPD_CONTRACT_I : Field := { off := 0x40014, hi := 6, lo := 0, acc := .ro, reset := 0 }
def reg_UPD_CONTRACT : Reg := { off := 0x40014, flds := [UPD_CONTRACT_VALID, UPD_CONTRACT_PPS, UPD_CONTRACT_POS, UPD_CONTRACT_V, UPD_CONTRACT_I] }

def UPD_VBUS_V : Field := { off := 0x40018, hi := 11, lo := 0, acc := .ro, reset := 0 }
def reg_UPD_VBUS : Reg := { off := 0x40018, flds := [UPD_VBUS_V] }

def UPD_CMD_PRSWAP : Field := { off := 0x4001c, hi := 31, lo := 31, acc := .wo, reset := 0 }
def UPD_CMD_DRSWAP : Field := { off := 0x4001c, hi := 30, lo := 30, acc := .wo, reset := 0 }
def UPD_CMD_HRESET : Field := { off := 0x4001c, hi := 29, lo := 29, acc := .wo, reset := 0 }
def UPD_CMD_EXITALT : Field := { off := 0x4001c, hi := 28, lo := 28, acc := .wo, reset := 0 }
def UPD_CMD_KEY : Field := { off := 0x4001c, hi := 15, lo := 0, acc := .wo, reset := 0 }
def reg_UPD_CMD : Reg := { off := 0x4001c, flds := [UPD_CMD_PRSWAP, UPD_CMD_DRSWAP, UPD_CMD_HRESET, UPD_CMD_EXITALT, UPD_CMD_KEY] }

def UPD_ALT_DPEN : Field := { off := 0x40020, hi := 31, lo := 31, acc := .rw, reset := 1 }
def UPD_ALT_TRKEN : Field := { off := 0x40020, hi := 30, lo := 30, acc := .rw, reset := 1 }
def UPD_ALT_ALTPREF : Field := { off := 0x40020, hi := 29, lo := 29, acc := .rw, reset := 1 }
def reg_UPD_ALT : Reg := { off := 0x40020, flds := [UPD_ALT_DPEN, UPD_ALT_TRKEN, UPD_ALT_ALTPREF] }

def UPD_ALTSTAT_MODE : Field := { off := 0x40024, hi := 31, lo := 30, acc := .ro, reset := 0 }
def UPD_ALTSTAT_PIN : Field := { off := 0x40024, hi := 29, lo := 28, acc := .ro, reset := 0 }
def UPD_ALTSTAT_MUX : Field := { off := 0x40024, hi := 27, lo := 27, acc := .ro, reset := 0 }
def UPD_ALTSTAT_HPD : Field := { off := 0x40024, hi := 26, lo := 26, acc := .ro, reset := 0 }
def UPD_ALTSTAT_TRKREF : Field := { off := 0x40024, hi := 25, lo := 25, acc := .w1c, reset := 0 }
def reg_UPD_ALTSTAT : Reg := { off := 0x40024, flds := [UPD_ALTSTAT_MODE, UPD_ALTSTAT_PIN, UPD_ALTSTAT_MUX, UPD_ALTSTAT_HPD, UPD_ALTSTAT_TRKREF] }

def UPD_SVID_SVID : Field := { off := 0x40028, hi := 15, lo := 0, acc := .ro, reset := 0 }
def reg_UPD_SVID : Reg := { off := 0x40028, flds := [UPD_SVID_SVID] }

def UPD_CNT_COUNT : Field := { off := 0x40040, hi := 31, lo := 0, acc := .ro, reset := 0, str := 0x4 }
def reg_UPD_CNT : Reg := { off := 0x40040, str := 0x4, cnt := 8, flds := [UPD_CNT_COUNT] }

def UPD_CNTCLR_CLR : Field := { off := 0x40060, hi := 7, lo := 0, acc := .wo, reset := 0 }
def reg_UPD_CNTCLR : Reg := { off := 0x40060, flds := [UPD_CNTCLR_CLR] }

/-- The registers of the UPD block. -/
def regsOf_UPD : List Reg :=
  [reg_UPD_CTRL, reg_UPD_STAT, reg_UPD_SNKCFG, reg_UPD_SNKPPS, reg_UPD_SRCCFG, reg_UPD_CONTRACT, reg_UPD_VBUS, reg_UPD_CMD, reg_UPD_ALT, reg_UPD_ALTSTAT, reg_UPD_SVID, reg_UPD_CNT, reg_UPD_CNTCLR]

/-- The UPD window (R45). -/
def block_UPD : Block := { base := 0x40000, size := 0x10000, lock := some UPD_CTRL_LOCK, regs := regsOf_UPD }

end Sys2Proof.Machine
end

