-- ==== Sys2Proof/Machine/RegsUsb.lean ====
section
/-! DEFINITION. The register map of the USB block: one definition for each field of its register tables in spec/12_usb_tunnels.md (R320), and the list of its registers. Window base and size: R45. -/

namespace Sys2Proof.Machine

def USB_CTRL_LOCK : Field := { off := 0x50000, hi := 31, lo := 31, acc := .w1s, reset := 0 }
def USB_CTRL_EN : Field := { off := 0x50000, hi := 30, lo := 30, acc := .rw, reset := 0 }
def USB_CTRL_FNEN : Field := { off := 0x50000, hi := 29, lo := 29, acc := .rwl, reset := 0 }
def reg_USB_CTRL : Reg := { off := 0x50000, flds := [USB_CTRL_LOCK, USB_CTRL_EN, USB_CTRL_FNEN] }

def USB_STAT_USTATE : Field := { off := 0x50004, hi := 31, lo := 29, acc := .ro, reset := 0 }
def USB_STAT_HS : Field := { off := 0x50004, hi := 28, lo := 28, acc := .ro, reset := 0 }
def USB_STAT_RWKEN : Field := { off := 0x50004, hi := 27, lo := 27, acc := .ro, reset := 0 }
def USB_STAT_SETUPEV : Field := { off := 0x50004, hi := 23, lo := 23, acc := .w1c, reset := 0 }
def USB_STAT_CTLABORT : Field := { off := 0x50004, hi := 22, lo := 22, acc := .w1c, reset := 0 }
def USB_STAT_RWKDONE : Field := { off := 0x50004, hi := 21, lo := 21, acc := .w1c, reset := 0 }
def USB_STAT_RESUMEEV : Field := { off := 0x50004, hi := 20, lo := 20, acc := .w1c, reset := 0 }
def USB_STAT_SUSPEV : Field := { off := 0x50004, hi := 19, lo := 19, acc := .w1c, reset := 0 }
def USB_STAT_RSTEV : Field := { off := 0x50004, hi := 18, lo := 18, acc := .w1c, reset := 0 }
def USB_STAT_ATTEV : Field := { off := 0x50004, hi := 17, lo := 17, acc := .w1c, reset := 0 }
def USB_STAT_FNADDR : Field := { off := 0x50004, hi := 14, lo := 8, acc := .ro, reset := 0 }
def USB_STAT_HUBADDR : Field := { off := 0x50004, hi := 6, lo := 0, acc := .ro, reset := 0 }
def reg_USB_STAT : Reg := { off := 0x50004, flds := [USB_STAT_USTATE, USB_STAT_HS, USB_STAT_RWKEN, USB_STAT_SETUPEV, USB_STAT_CTLABORT, USB_STAT_RWKDONE, USB_STAT_RESUMEEV, USB_STAT_SUSPEV, USB_STAT_RSTEV, USB_STAT_ATTEV, USB_STAT_FNADDR, USB_STAT_HUBADDR] }

def USB_HUBID_VID : Field := { off := 0x50008, hi := 31, lo := 16, acc := .rwl, reset := 0 }
def USB_HUBID_PID : Field := { off := 0x50008, hi := 15, lo := 0, acc := .rwl, reset := 0 }
def reg_USB_HUBID : Reg := { off := 0x50008, flds := [USB_HUBID_VID, USB_HUBID_PID] }

def USB_FNID_VID : Field := { off := 0x5000c, hi := 31, lo := 16, acc := .rwl, reset := 0 }
def USB_FNID_PID : Field := { off := 0x5000c, hi := 15, lo := 0, acc := .rwl, reset := 0 }
def reg_USB_FNID : Reg := { off := 0x5000c, flds := [USB_FNID_VID, USB_FNID_PID] }

def USB_TIMING_KTIME : Field := { off := 0x50010, hi := 27, lo := 24, acc := .rw, reset := 2, ok := [(1, 15)] }
def USB_TIMING_RSTLEN : Field := { off := 0x50010, hi := 23, lo := 16, acc := .rw, reset := 12, ok := [(10, 20)] }
def USB_TIMING_CONNDB : Field := { off := 0x50010, hi := 15, lo := 8, acc := .rw, reset := 100, ok := [(100, 255)] }
def reg_USB_TIMING : Reg := { off := 0x50010, flds := [USB_TIMING_KTIME, USB_TIMING_RSTLEN, USB_TIMING_CONNDB] }

def USB_PORT_MODE : Field := { off := 0x50020, hi := 31, lo := 30, acc := .rwl, reset := 0, ok := [(0, 2)], str := 0x4 }
def USB_PORT_PWR : Field := { off := 0x50020, hi := 23, lo := 23, acc := .ro, reset := 0, str := 0x4 }
def USB_PORT_CONN : Field := { off := 0x50020, hi := 22, lo := 22, acc := .ro, reset := 0, str := 0x4 }
def USB_PORT_ENA : Field := { off := 0x50020, hi := 21, lo := 21, acc := .ro, reset := 0, str := 0x4 }
def USB_PORT_SUSP : Field := { off := 0x50020, hi := 20, lo := 20, acc := .ro, reset := 0, str := 0x4 }
def USB_PORT_OC : Field := { off := 0x50020, hi := 19, lo := 19, acc := .ro, reset := 0, str := 0x4 }
def USB_PORT_SPEED : Field := { off := 0x50020, hi := 18, lo := 17, acc := .ro, reset := 3, str := 0x4 }
def USB_PORT_MODEREJ : Field := { off := 0x50020, hi := 16, lo := 16, acc := .w1c, reset := 0, str := 0x4 }
def USB_PORT_SVC : Field := { off := 0x50020, hi := 7, lo := 0, acc := .ro, reset := 255, str := 0x4 }
def reg_USB_PORT : Reg := { off := 0x50020, str := 0x4, cnt := 4, flds := [USB_PORT_MODE, USB_PORT_PWR, USB_PORT_CONN, USB_PORT_ENA, USB_PORT_SUSP, USB_PORT_OC, USB_PORT_SPEED, USB_PORT_MODEREJ, USB_PORT_SVC] }

def USB_CNT_COUNT : Field := { off := 0x50040, hi := 31, lo := 0, acc := .ro, reset := 0, str := 0x4 }
def reg_USB_CNT : Reg := { off := 0x50040, str := 0x4, cnt := 9, flds := [USB_CNT_COUNT] }

def USB_CNTCLR_CLR : Field := { off := 0x50068, hi := 8, lo := 0, acc := .wo, reset := 0 }
def reg_USB_CNTCLR : Reg := { off := 0x50068, flds := [USB_CNTCLR_CLR] }

def EP_CFG_EN : Field := { off := 0x50100, hi := 31, lo := 31, acc := .rw, reset := 0, str := 0x10, resets := [(0, 0, 1)] }
def EP_CFG_DIR : Field := { off := 0x50100, hi := 30, lo := 30, acc := .rw, reset := 0, str := 0x10 }
def EP_CFG_XTYPE : Field := { off := 0x50100, hi := 29, lo := 28, acc := .rw, reset := 0, ok := [(0, 0), (2, 3)], str := 0x10 }
def EP_CFG_MPS : Field := { off := 0x50100, hi := 26, lo := 16, acc := .rw, reset := 64, ok := [(8, 1024)], str := 0x10 }
def EP_CFG_BUFOFS : Field := { off := 0x50100, hi := 15, lo := 8, acc := .rw, reset := 0, str := 0x10 }
def EP_CFG_BUFLEN : Field := { off := 0x50100, hi := 7, lo := 0, acc := .rw, reset := 1, ok := [(1, 255)], str := 0x10 }
def reg_EP_CFG : Reg := { off := 0x50100, str := 0x10, cnt := 16, flds := [EP_CFG_EN, EP_CFG_DIR, EP_CFG_XTYPE, EP_CFG_MPS, EP_CFG_BUFOFS, EP_CFG_BUFLEN] }

def EP_ARM_ARM : Field := { off := 0x50104, hi := 31, lo := 31, acc := .wo, reset := 0, str := 0x10 }
def EP_ARM_DISARM : Field := { off := 0x50104, hi := 30, lo := 30, acc := .wo, reset := 0, str := 0x10 }
def EP_ARM_ZLP : Field := { off := 0x50104, hi := 15, lo := 15, acc := .wo, reset := 0, str := 0x10 }
def EP_ARM_DIR0 : Field := { off := 0x50104, hi := 14, lo := 14, acc := .wo, reset := 0, str := 0x10 }
def EP_ARM_LEN : Field := { off := 0x50104, hi := 13, lo := 0, acc := .wo, reset := 0, str := 0x10 }
def reg_EP_ARM : Reg := { off := 0x50104, str := 0x10, cnt := 16, flds := [EP_ARM_ARM, EP_ARM_DISARM, EP_ARM_ZLP, EP_ARM_DIR0, EP_ARM_LEN] }

def EP_STAT_ARMED : Field := { off := 0x50108, hi := 31, lo := 31, acc := .ro, reset := 0, str := 0x10 }
def EP_STAT_HALT : Field := { off := 0x50108, hi := 30, lo := 30, acc := .w1s, reset := 0, str := 0x10 }
def EP_STAT_DONE : Field := { off := 0x50108, hi := 29, lo := 29, acc := .w1c, reset := 0, str := 0x10 }
def EP_STAT_NRSTALL : Field := { off := 0x50108, hi := 28, lo := 28, acc := .w1c, reset := 0, str := 0x10 }
def EP_STAT_HALTEV : Field := { off := 0x50108, hi := 27, lo := 27, acc := .w1c, reset := 0, str := 0x10 }
def EP_STAT_TOGGLE : Field := { off := 0x50108, hi := 26, lo := 26, acc := .ro, reset := 0, str := 0x10 }
def EP_STAT_CODE : Field := { off := 0x50108, hi := 25, lo := 22, acc := .ro, reset := 0, str := 0x10 }
def EP_STAT_COUNT : Field := { off := 0x50108, hi := 13, lo := 0, acc := .ro, reset := 0, str := 0x10 }
def reg_EP_STAT : Reg := { off := 0x50108, str := 0x10, cnt := 16, flds := [EP_STAT_ARMED, EP_STAT_HALT, EP_STAT_DONE, EP_STAT_NRSTALL, EP_STAT_HALTEV, EP_STAT_TOGGLE, EP_STAT_CODE, EP_STAT_COUNT] }

def USB_SETUP_LO_SETUP_LO : Field := { off := 0x50200, hi := 31, lo := 0, acc := .ro, reset := 0 }
def reg_USB_SETUP_LO : Reg := { off := 0x50200, flds := [USB_SETUP_LO_SETUP_LO] }

def USB_SETUP_HI_SETUP_HI : Field := { off := 0x50204, hi := 31, lo := 0, acc := .ro, reset := 0 }
def reg_USB_SETUP_HI : Reg := { off := 0x50204, flds := [USB_SETUP_HI_SETUP_HI] }

/-- The registers of the USB block. -/
def regsOf_USB : List Reg :=
  [reg_USB_CTRL, reg_USB_STAT, reg_USB_HUBID, reg_USB_FNID, reg_USB_TIMING, reg_USB_PORT, reg_USB_CNT, reg_USB_CNTCLR, reg_EP_CFG, reg_EP_ARM, reg_EP_STAT, reg_USB_SETUP_LO, reg_USB_SETUP_HI]

/-- The USB window (R45). -/
def block_USB : Block := { base := 0x50000, size := 0x10000, lock := some USB_CTRL_LOCK, regs := regsOf_USB }

end Sys2Proof.Machine
end

