-- ==== Sys2Proof/Machine/RegsXsw.lean ====
section
/-! DEFINITION. The register map of the XSW block: one definition for each field of its register tables in spec/08_switch_core.md (R218), and the list of its registers. Window base and size: R45. -/

namespace Sys2Proof.Machine

def XSW_CTRL_LOCK : Field := { off := 0x100000, hi := 31, lo := 31, acc := .w1s, reset := 0 }
def reg_XSW_CTRL : Reg := { off := 0x100000, flds := [XSW_CTRL_LOCK] }

def XSW_STAT_CFGREJ : Field := { off := 0x100004, hi := 18, lo := 18, acc := .w1c, reset := 0 }
def XSW_STAT_CAPTHR : Field := { off := 0x100004, hi := 17, lo := 17, acc := .w1c, reset := 0 }
def XSW_STAT_HALTED : Field := { off := 0x100004, hi := 16, lo := 16, acc := .ro, reset := 0 }
def reg_XSW_STAT : Reg := { off := 0x100004, flds := [XSW_STAT_CFGREJ, XSW_STAT_CAPTHR, XSW_STAT_HALTED] }

def XSW_POOL_CELLS : Field := { off := 0x100008, hi := 17, lo := 0, acc := .ro, reset := 0x20000 }
def reg_XSW_POOL : Reg := { off := 0x100008, flds := [XSW_POOL_CELLS] }

def XSW_SHARED_CELLS : Field := { off := 0x10000c, hi := 17, lo := 0, acc := .ro, reset := 0x1f500 }
def reg_XSW_SHARED : Reg := { off := 0x10000c, flds := [XSW_SHARED_CELLS] }

def XSW_RSVSUM_CELLS : Field := { off := 0x100010, hi := 17, lo := 0, acc := .ro, reset := 2816 }
def reg_XSW_RSVSUM : Reg := { off := 0x100010, flds := [XSW_RSVSUM_CELLS] }

def XSW_CTCFG_EN : Field := { off := 0x100014, hi := 31, lo := 31, acc := .rwl, reset := 1 }
def XSW_CTCFG_CLASSMASK : Field := { off := 0x100014, hi := 7, lo := 0, acc := .rwl, reset := 255 }
def reg_XSW_CTCFG : Reg := { off := 0x100014, flds := [XSW_CTCFG_EN, XSW_CTCFG_CLASSMASK] }

def XSW_CNT_COUNT : Field := { off := 0x100040, hi := 31, lo := 0, acc := .ro, reset := 0, str := 0x4 }
def reg_XSW_CNT : Reg := { off := 0x100040, str := 0x4, cnt := 12, flds := [XSW_CNT_COUNT] }

def XSW_CNTCLR_CLR : Field := { off := 0x100080, hi := 11, lo := 0, acc := .wo, reset := 0 }
def reg_XSW_CNTCLR : Reg := { off := 0x100080, flds := [XSW_CNTCLR_CLR] }

def XSW_MIR_EN : Field := { off := 0x100100, hi := 31, lo := 31, acc := .rw, reset := 0, str := 0x4 }
def XSW_MIR_DIR : Field := { off := 0x100100, hi := 30, lo := 30, acc := .rw, reset := 0, str := 0x4 }
def XSW_MIR_DROPS : Field := { off := 0x100100, hi := 29, lo := 29, acc := .rw, reset := 0, str := 0x4 }
def XSW_MIR_PORT : Field := { off := 0x100100, hi := 20, lo := 16, acc := .rw, reset := 0, ok := [(0, 21)], str := 0x4 }
def XSW_MIR_CLASSMASK : Field := { off := 0x100100, hi := 7, lo := 0, acc := .rw, reset := 0, str := 0x4 }
def reg_XSW_MIR : Reg := { off := 0x100100, str := 0x4, cnt := 8, flds := [XSW_MIR_EN, XSW_MIR_DIR, XSW_MIR_DROPS, XSW_MIR_PORT, XSW_MIR_CLASSMASK] }

def XSW_CAP_CFG_EN : Field := { off := 0x100200, hi := 31, lo := 31, acc := .rw, reset := 0 }
def XSW_CAP_CFG_MODE : Field := { off := 0x100200, hi := 30, lo := 30, acc := .rw, reset := 0 }
def XSW_CAP_CFG_SIZE : Field := { off := 0x100200, hi := 20, lo := 16, acc := .rw, reset := 12, ok := [(10, 22)] }
def XSW_CAP_CFG_THR : Field := { off := 0x100200, hi := 15, lo := 0, acc := .rw, reset := 1024, ok := [(1, 65535)] }
def reg_XSW_CAP_CFG : Reg := { off := 0x100200, flds := [XSW_CAP_CFG_EN, XSW_CAP_CFG_MODE, XSW_CAP_CFG_SIZE, XSW_CAP_CFG_THR] }

def XSW_CAP_BASE_LO_ADDR : Field := { off := 0x100204, hi := 31, lo := 12, acc := .rw, reset := 0 }
def reg_XSW_CAP_BASE_LO : Reg := { off := 0x100204, flds := [XSW_CAP_BASE_LO_ADDR] }

def XSW_CAP_BASE_HI_ADDR : Field := { off := 0x100208, hi := 31, lo := 0, acc := .rw, reset := 0 }
def reg_XSW_CAP_BASE_HI : Reg := { off := 0x100208, flds := [XSW_CAP_BASE_HI_ADDR] }

def XSW_CAP_WR_WR : Field := { off := 0x10020c, hi := 31, lo := 0, acc := .ro, reset := 0 }
def reg_XSW_CAP_WR : Reg := { off := 0x10020c, flds := [XSW_CAP_WR_WR] }

def XSW_CAP_RD_RD : Field := { off := 0x100210, hi := 31, lo := 0, acc := .rw, reset := 0 }
def reg_XSW_CAP_RD : Reg := { off := 0x100210, flds := [XSW_CAP_RD_RD] }

def XSW_ILIM_LIMIT : Field := { off := 0x110000, hi := 17, lo := 0, acc := .rw, reset := 1024, ok := [(0, 131072)], str := 0x4 }
def reg_XSW_ILIM : Reg := { off := 0x110000, str := 0x4, cnt := 176, flds := [XSW_ILIM_LIMIT] }

def XSW_IOCC_CELLS : Field := { off := 0x110400, hi := 17, lo := 0, acc := .ro, reset := 0, str := 0x4 }
def reg_XSW_IOCC : Reg := { off := 0x110400, str := 0x4, cnt := 176, flds := [XSW_IOCC_CELLS] }

def XSW_QLIM_LIMIT : Field := { off := 0x120000, hi := 17, lo := 0, acc := .rw, reset := 4096, ok := [(0, 131072)], str := 0x4, resets := [(184, 191, 0)] }
def reg_XSW_QLIM : Reg := { off := 0x120000, str := 0x4, cnt := 192, flds := [XSW_QLIM_LIMIT] }

def XSW_QRSV_RSV : Field := { off := 0x120400, hi := 17, lo := 0, acc := .rw, reset := 0, str := 0x4, resets := [(6, 7, 64), (14, 15, 64), (22, 23, 64), (30, 31, 64), (38, 39, 64), (46, 47, 64), (54, 55, 64), (62, 63, 64), (70, 71, 64), (78, 79, 64), (86, 87, 64), (94, 95, 64), (102, 103, 64), (110, 111, 64), (118, 119, 64), (126, 127, 64), (134, 135, 64), (142, 143, 64), (150, 151, 64), (158, 159, 64), (166, 167, 64), (174, 175, 64)] }
def reg_XSW_QRSV : Reg := { off := 0x120400, str := 0x4, cnt := 192, flds := [XSW_QRSV_RSV] }

def XSW_QOCC_CELLS : Field := { off := 0x120800, hi := 17, lo := 0, acc := .ro, reset := 0, str := 0x4 }
def reg_XSW_QOCC : Reg := { off := 0x120800, str := 0x4, cnt := 192, flds := [XSW_QOCC_CELLS] }

def XSW_QDROP_COUNT : Field := { off := 0x120c00, hi := 31, lo := 0, acc := .cnt, reset := 0, str := 0x4 }
def reg_XSW_QDROP : Reg := { off := 0x120c00, str := 0x4, cnt := 192, flds := [XSW_QDROP_COUNT] }

/-- The registers of the XSW block. -/
def regsOf_XSW : List Reg :=
  [reg_XSW_CTRL, reg_XSW_STAT, reg_XSW_POOL, reg_XSW_SHARED, reg_XSW_RSVSUM, reg_XSW_CTCFG, reg_XSW_CNT, reg_XSW_CNTCLR, reg_XSW_MIR, reg_XSW_CAP_CFG, reg_XSW_CAP_BASE_LO, reg_XSW_CAP_BASE_HI, reg_XSW_CAP_WR, reg_XSW_CAP_RD, reg_XSW_ILIM, reg_XSW_IOCC, reg_XSW_QLIM, reg_XSW_QRSV, reg_XSW_QOCC, reg_XSW_QDROP]

/-- The XSW window (R45). -/
def block_XSW : Block := { base := 0x100000, size := 0x40000, lock := some XSW_CTRL_LOCK, regs := regsOf_XSW }

end Sys2Proof.Machine
end

