-- ==== Sys2Proof/Machine/RegMap.lean ====
section
/-! DEFINITION. The register blocks of the hub in BAR0 (R45), for accesses that name a register by its offset. -/

namespace Sys2Proof.Machine

/-- Every register block of the base table of R45. -/
def regBlocks : List Block :=
  [block_FAB, block_TMU, block_CYC, block_LNE, block_TRK, block_XSW, block_EDG, block_SHP, block_TEN, block_BNK, block_DSP, block_USB, block_STO, block_SER, block_PCX, block_RNG, block_BRG, block_DMA, block_DRC, block_KEY, block_GEN, block_BOOT, block_HSW, block_UPD, block_PWR, block_CLK, block_FLT, block_GPIO]

end Sys2Proof.Machine
end

