-- ==== Sys2Proof/Machine/State.lean ====
section
/-! DEFINITION. The state of the hub as plain data, the reasons a step can stop, and the state after reset. Every register field of the spec is an entry of `regs` under the key of its own definition in Machine/Regs*.lean (an unlisted field holds its reset value); what a block holds beside its registers is a structure of that block. -/

namespace Sys2Proof.Machine

/-- FAB beside its registers: contexts, duplicate-discard table (R69, R180, R182). -/
structure Fab where
  /-- Code with which the command in progress completes (R70). -/
  cmdCode : Nat := 0
  cmdSlot : Nat := 0
  /-- It is an OPEN that took effect. -/
  cmdOpen : Bool := false
  /-- Internal in-flight count of each origin slot (context word 6). -/
  inflight : Tab Nat := []
  /-- The duplicate-discard table. -/
  dd : List DdEntry := []
  /-- The 16 most recent evicted keys (source, tunnel, destination), newest first. -/
  victims : List (Nat × Nat × Nat) := []
  /-- Hello sequence of this hub (R74). -/
  helloSeq : Nat := 0
  /-- The station manager's directory: device identity of each hub prefix heard (R76). -/
  heardId : Tab (Option Nat) := []
  /-- Open answers that firmware has sent: (origin address, its slot, return slot, agreed version), newest first (R72). -/
  answers : List (Nat × Nat × Nat × Nat) := []
  /-- Open requests that firmware has sent: (destination, slot, protocol, highest version), newest first (R72). -/
  requests : List (Nat × Nat × Nat × Nat) := []
  deriving DecidableEq, Repr

/-- The ring logic (R185 to R189). -/
structure Ring where
  /-- Next RSEQ of each ring port. -/
  rseq : Tab Nat := []
  /-- Ports whose ring status messages are lost. -/
  lost : Tab Bool := []
  /-- Reach in the last message accepted on each ring port since the ring logic was enabled; none: none accepted (R186). -/
  heard : Tab (Option Nat) := []
  /-- Ring ports that owe a message for a change of reach (R185). -/
  owed : Tab Bool := []
  /-- Elapsed count from which on the condition for PRI of each route entry (0–167 in table order) has held (R189). -/
  since : Tab (Option Nat) := []
  /-- The last message sent on each ring port. -/
  out : Tab (List Byte) := []
  deriving DecidableEq, Repr

/-- The switch core beside its registers (R194 to R209). -/
structure Xsw where
  /-- Number of the next packet stored. -/
  next : Nat := 1
  pkts : Tab PktInfo := []
  /-- The copies of each egress queue q = 8p + c, head first. -/
  queues : Tab (List Copy) := []
  /-- The copy each egress port is transmitting (at most one). -/
  sending : Tab (List Copy) := []
  /-- The bytes of the packet each egress port is transmitting or sent last. -/
  wire : Tab (List Byte) := []
  /-- The packet each internal ingress port holds (at most one, R200, R227). -/
  held : Tab (List Held) := []
  /-- Cells that can no longer be reached (R197). -/
  leak : Nat := 0
  /-- Record sequence of the capture ring (R216). -/
  rseq : Nat := 0
  deriving DecidableEq, Repr

/-- The schedulers beside their registers (R222 to R241). -/
structure Shp where
  /-- Token count of each shaper, 10^-6 bit (R224); unlisted: full. -/
  tokens : Tab (Option Int) := []
  /-- The bank whose values the shapers have adopted (R225). -/
  shapBank : Nat := 0
  /-- Count of each policer, 10^-6 bit (R226); none: full. -/
  policer : Tab (Option Int) := []
  deficit : Tab Nat := []
  /-- The class each port's round robin stands at (R222). -/
  cur : Tab Nat := []
  /-- Mode of the armed switch (R240). -/
  mode : Nat := 0
  /-- Elapsed count at which the switch was armed (R240). -/
  armAt : Nat := 0
  /-- A DISARM waits for its judgement (R242). -/
  disarm : Bool := false
  /-- Code, area (3: no failing item) and index with which the command in progress ends (R239). -/
  res : Nat × Nat × Nat := (0, 0, 0)
  /-- A cycle boundary at or after T has counted for the armed MAINS switch (R240). -/
  due : Bool := false
  /-- SHEN, RATE and BUCKET that the shaper of a queue holds until the next refill, where its bank entry has been rewritten since the switch (R225). -/
  kept : Tab (Nat × Nat × Nat) := []
  deriving DecidableEq, Repr

/-- A command of the time unit captured for the next tick (R82). -/
inductive TmuCmd where
  | set (t : Wide)
  | step (d : Int)
  | slew (ofs : Int) (ticks : Nat)
  deriving DecidableEq, Repr

/-- The time unit beside its registers (R78 to R101). -/
structure Tmu where
  tod : Wide := {}
  /-- Elapsed count in 2^-32 ns (R80). -/
  elapsed : Nat := 0
  /-- The increment in use (R79). -/
  incr : Nat := 0x200000000
  slewOfs : Int := 0
  slewLeft : Nat := 0
  /-- Commands captured for the next tick, in the order of their writes (R82). -/
  cmds : List TmuCmd := []
  snap : Bool := false
  /-- Elapsed count of the last accepted edge of each PPS input (R98). -/
  ppsLast : Tab (Option Nat) := []
  /-- Last second each PPS output emitted (R99). -/
  ppsSec : Tab (Option Nat) := []
  /-- The pulse of each PPS output is on. -/
  ppsOut : Tab Bool := []
  /-- Sixteenths of a tick by which the last leading edge of each PPS output was placed (R99). -/
  ppsTaps : Tab Nat := []
  /-- A periodic compare channel advances its target over the periods that a forward step skipped (R89). -/
  behind : Tab Bool := []
  /-- UTC day in which the leap flag that stands was written (R101). -/
  leapDay : Int := 0
  /-- Two-step queues of the edge ports, by switch port (R95). -/
  tsq : Tab (List TwoStep) := []
  deriving DecidableEq, Repr

/-- A phase event being processed, with the settings it was recognised under (R112, R115). -/
structure PhaseEvent where
  a : Nat := 0
  t : Nat := 0
  zc : Bool := false
  avgn : Nat := 0
  kp : Nat := 0
  stepThr : Nat := 0
  lockThr : Nat := 0
  lockN : Nat := 0
  deriving DecidableEq, Repr

/-- The mains tracker beside its registers (R105 to R117). -/
structure Cyc where
  /-- The 64-bit phase accumulator, 2^-48 cycle. -/
  acc : Nat := 0
  /-- The increment in use. -/
  incr : Nat := 0x1AD7F2A
  fLast : Nat := 0x1AD7F2A
  /-- Elapsed-count times of the last 16 accepted events, newest first. -/
  hist : List Nat := []
  /-- Time of the last accepted event, whether or not the history holds it. -/
  lastEvent : Option Nat := none
  /-- First transition of the last accepted MAINS_ZC edge. -/
  lastZc : Option Nat := none
  /-- The next accepted event steps (first of ACQUIRE). -/
  first : Bool := false
  /-- Consecutive events within LOCKTHR. -/
  count : Nat := 0
  /-- Events that are being processed, first come first. -/
  busy : List PhaseEvent := []
  /-- Cycle number last announced (R113). -/
  announced : Nat := 0
  /-- Angle of the conversion that runs (R117). -/
  conv : Option Nat := none
  deriving DecidableEq, Repr

/-- One trunk's link layer beside its registers (R153, R157 to R164). -/
structure Trunk where
  /-- Trial width W of the bond: 1 ×1, 2 ×2, 3 ×4. -/
  width : Nat := 3
  /-- Width, rate and ring setting in use since the last entry to BOND. -/
  maxw : Nat := 3
  rate : Nat := 0
  ring : Bool := false
  sent : Tab Nat := []
  limit : Tab Nat := []
  granted : Tab Nat := []
  /-- Cumulative cost received of each class since entry to UP. -/
  recv : Tab Nat := []
  /-- Elapsed counts at entry to UP and at the last start of a packet of each class (R155). -/
  upAt : Nat := 0
  sentAt : Tab Nat := []
  /-- Classes that have counted their present stall (R155). -/
  stalled : Tab Bool := []
  /-- Capability exchange (R160): last valid partner record, whether an accepted record has come (own ACK), partner records with ACK = 1 that came identical in a row. -/
  partner : List Byte := []
  ack : Bool := false
  ackCount : Nat := 0
  /-- Own record as last sent (RECSEQ 0), its RECSEQ, and the records still to be sent after agreement (R160). -/
  lastRec : List (List Byte) := []
  recSeq : Nat := 0
  tail : Nat := 0
  agreed : Bool := false
  /-- Packet number of the next sealed packet, and highest accepted in the receive epochs e and e + 1. -/
  txPn : Nat := 0
  rxPn : Option Nat := none
  rxPnNext : Option Nat := none
  /-- Derived keys (AES key and salt, 40 bytes): transmit epoch, receive epochs e and e + 1 (R163, R164). -/
  txKey : List Byte := []
  rxKey : List Byte := []
  rxKeyNext : List Byte := []
  /-- Elapsed count at which the transmit epoch began. -/
  epochAt : Nat := 0
  /-- A session that has been UP before (R164). -/
  used : Bool := false
  /-- A derivation of keys for e + 2 is running (R164). -/
  derivingKeys : Bool := false
  /-- The last control blocks sent: CREDIT blocks or the capability record. -/
  out : List (List Byte) := []
  /-- The logical lane that carries the next link block (R141). -/
  pos : Nat := 0
  /-- The link blocks that the last command put on the stream (R141, R142). -/
  stream : List LineBlock := []
  deriving DecidableEq, Repr, Inhabited

/-- TRK0 in KL2 (R168). -/
structure Kl2 where
  /-- Classes paused by the partner. -/
  paused : Nat := 0
  /-- Mask that the hub sends. -/
  mask : Nat := 0
  /-- The columns last sent, each with the code groups of lanes 0 to 3 (R168). -/
  out : List (List CodeGroup) := []
  deriving DecidableEq, Repr

/-- The lanes beside their registers (R123 to R138). -/
structure Lne where
  /-- Consecutive good alignment blocks of a lane in ALIGN, and consecutive bad or missing ones of a lane in LOCKED (R125, R126). -/
  good : Tab Nat := []
  bad : Tab Nat := []
  /-- The last alignment block that each lane sent (R123, R124). -/
  sent : Tab (List Byte) := []
  /-- The bits that the last command put out on each lane, in transmit order (R121, R137). -/
  line : Tab (List Bool) := []
  /-- The last 58 scrambled bits sent and received on each lane, newest in bit 0 (R122, log entry 65). -/
  scr : Tab Nat := []
  dscr : Tab Nat := []
  /-- Parity of each lane's payload bytes sent since its last alignment block (R123). -/
  par : Tab Nat := []
  /-- The blocks that each lane delivered last, descrambled (R122, R125). -/
  rx : Tab (List LineBlock) := []
  /-- Register of each lane's PRBS generator, newest bit in bit 0 (R137). -/
  gen : Tab Nat := []
  /-- PRBS checker of each lane (R138). -/
  chk : Tab Checker := []
  /-- Bits that INJ has inverted on each lane (R138), a count that wraps at 32 bits. -/
  injected : Tab Nat := []
  deriving DecidableEq, Repr

/-- The fault collector beside its registers (R499 to R512). -/
structure Flt where
  /-- Effective class of each source whose status bit is set. -/
  eff : Tab Nat := []
  /-- Causes presented by the sources themselves (not forced). -/
  cause : Tab Bool := []
  /-- Samples in a row above, and at or below, 125 °C (R503). -/
  hot : Nat := 0
  cool : Nat := 0
  /-- The hub drives FAULT_N low. -/
  faultN : Bool := false
  deriving DecidableEq, Repr

/-- The engines and their services beside their registers (R246 to R257). -/
structure Ten where
  /-- Packets in the inbound buffer of each engine, oldest first, with the entry that each is for (R253). -/
  inbox : Tab (List (Nat × Packet)) := []
  /-- Payloads that the engines of each cluster have ready to send, oldest first, with their entries (R253). -/
  outbox : Tab (List (Nat × List Byte)) := []
  /-- Packets received and sent, and protocol errors, of each entry (R255, STATS). -/
  rx : Tab Nat := []
  tx : Tab Nat := []
  err : Tab Nat := []
  /-- Elapsed counts at which each engine was restarted (R249). -/
  restarts : Tab (List Nat) := []
  /-- Elapsed count of the last kick of each engine's watchdog, or of its entry to RUN (R248). -/
  kick : Tab Nat := []
  /-- Timed-out mailbox requests whose responses are still to come, for mailbox m of engine n at 2n + m (R255). -/
  late : Tab Nat := []
  /-- The rest of the payload that each entry's service is taking messages from. -/
  cur : Tab (List Byte) := []
  /-- Edges that an event entry has still to send, as records without their sequence, and its next record sequence (R256). -/
  edges : Tab (List (List Byte)) := []
  evSeq : Tab Nat := []
  /-- Image slot that each engine started from last (R264). -/
  img : Tab Nat := []
  /-- Engines to start on exit from the halted state (R250). -/
  paused : Tab Bool := []
  /-- Elapsed count at which each engine left START or RUN last (R52). -/
  stopAt : Tab Nat := []
  /-- Entries whose parameter block has been accepted, and the first 16 bytes of it as the engine read them (R252, R259). -/
  taken : Tab Bool := []
  block : Tab (List Byte) := []
  /-- Opcode and entry of the outstanding request of mailbox m of engine n, at 2n + m (R255). -/
  req : Tab (Nat × Nat) := []
  /-- The samples of the present cycle that a phase entry has taken, oldest first (R257). -/
  samples : Tab (List SvSample) := []
  deriving DecidableEq, Repr

/-- The scratchpad banks beside their registers and their contents (R258 to R263). -/
structure Bnk where
  /-- Owner and sharers that a hand-over in progress will give a bank (R260). -/
  next : Tab (Option (Nat × Nat)) := []
  /-- The master granted last in each bank's round robin (R261). -/
  rr : Tab Nat := []
  /-- The word that each master read last, and whether it came with an error indication (R258, R263). -/
  read : Tab Nat := []
  err : Tab Bool := []
  /-- Times that the scratchpad has lost its contents (R250). -/
  lost : Nat := 0
  deriving DecidableEq, Repr

/-- The active settings of a layer (R276), with its active palette: entry words, alpha in bits [31:24]. -/
structure LayerSet where
  en : Bool := false
  /-- d = 2^depth bits. -/
  depth : Nat := 3
  surf0 : Nat := 0
  surf1 : Nat := 0
  /-- In units of 64 bytes. -/
  stride : Nat := 30
  w : Nat := 1920
  h : Nat := 1200
  x : Nat := 0
  y : Nat := 0
  pal : Tab Nat := []
  deriving DecidableEq, Repr, Inhabited

/-- A software commit that waits for its apply point (R276, R277). -/
structure HeadCommit where
  lmask : Nat := 0
  flip : Nat := 0
  bg : Bool := false
  /-- It applies before the first frame F with F − due ≥ 0. -/
  due : Nat := 0
  late : Bool := false
  /-- `due` is its target. -/
  tgt : Bool := false
  deriving DecidableEq, Repr

/-- A display-service commit that waits (R276, R286). -/
structure SvcCommit where
  entry : Nat := 0
  batch : Nat := 0
  tiles : Nat := 0
  ackReq : Bool := false
  due : Nat := 0
  late : Bool := false
  tgt : Bool := false
  deriving DecidableEq, Repr

/-- The result of a service commit, for its ACK (R287). -/
structure DispAck where
  entry : Nat := 0
  layer : Nat := 0
  batch : Nat := 0
  late : Bool := false
  part : Bool := false
  refused : Bool := false
  reason : Nat := 0
  tilesRx : Nat := 0
  ackReq : Bool := false
  /-- Target of a targeted commit. -/
  target : Option Nat := none
  frame : Nat := 0
  sec : Nat := 0
  ns : Nat := 0
  deriving DecidableEq, Repr

/-- The display engine and the display service beside their registers (R266 to R292). Layers are numbered 4h + l. -/
structure Dsp where
  active : Tab LayerSet := []
  /-- Active background of each head. -/
  bg : Tab Nat := []
  soft : Tab (List HeadCommit) := []
  svc : Tab (Option SvcCommit) := []
  /-- The window of the present frame of a head has closed (R275). -/
  closed : Tab Bool := []
  /-- A command-mode transfer runs (R282). -/
  xfer : Tab Bool := []
  /-- An underrun has been reported in this frame (R274), and the bursts that the frame shows transparent: layer, row of its surface, number in the row. -/
  under : Tab Bool := []
  missed : Tab (List (Nat × Nat × Nat)) := []
  /-- The DisplayPort main link is trained and on (R268, R292). -/
  dpOn : Bool := false
  /-- Elapsed count of the next transfer that a head starts itself (R282). -/
  ownAt : Tab Nat := []
  /-- Number n of a head's last locked frame (R281). -/
  lockN : Tab Nat := []
  /-- Elapsed count of the last accepted TE edge (R282). -/
  teLast : Tab (Option Nat) := []
  /-- A flip waits for its time (R280), and the results of its service commits. -/
  flip : Tab Bool := []
  flips : Tab (List DispAck) := []
  /-- Targets of the targeted software commits that applied at the last apply point. -/
  flipT : Tab (List Nat) := []
  /-- For each service entry: the hold area, results to acknowledge, and eight counts (DSTAT). -/
  hold : Tab (List (List Byte)) := []
  acks : Tab (List DispAck) := []
  counts : Tab Nat := []
  /-- For each layer: batch of the last applied commit, tile messages applied per batch since then, tiles changed since then, and tiles still to be copied after a flip (R289, R290). -/
  last : Tab (Option Nat) := []
  tiles : Tab (List (Nat × Nat)) := []
  changed : Tab (List (Nat × Nat)) := []
  copy : Tab (List (Nat × Nat)) := []
  deriving DecidableEq, Repr

/-- A control transfer as the proxy follows it (R306, R308): its SETUP bytes and the IN data so far. -/
structure ProxyCtl where
  setup : List Byte := []
  got : List Byte := []
  deriving DecidableEq, Repr, Inhabited

/-- A transaction of a NEAR or FAR port (R304, R305). -/
structure ProxyXfer where
  tag : Nat := 0
  ep : Nat := 0
  pid : UsbPid := .out
  /-- 0 control, 2 bulk, 3 interrupt. -/
  xt : Nat := 0
  data : List Byte := []
  /-- The toggle of its data. -/
  tog : Bool := false
  /-- Times it has been sent again. -/
  tries : Nat := 0
  /-- RESULT code and data. -/
  result : Option (Nat × List Byte) := none
  deriving DecidableEq, Repr, Inhabited

/-- The near side of a proxied port (R304 to R310). Endpoint directions are numbered 2·EP + DIR. -/
structure Near where
  epoch : Nat := 0
  /-- The next TAG. -/
  tag : Nat := 0
  pend : List ProxyXfer := []
  reports : Tab (List (List Byte)) := []
  stalled : Tab Bool := []
  tog : Tab Bool := []
  /-- The last interrupt OUT data of an endpoint was taken. -/
  outOk : Tab Bool := []
  /-- Endpoint and TAG of the PERIODICs taken, newest first, at most 128. -/
  perTags : List (Nat × Nat) := []
  /-- The PORTCMD (1 RESET, 3 RESUME) whose PORTACK is awaited. -/
  cmd : Option Nat := none
  ctl : ProxyCtl := {}
  /-- Configurations whose descriptor is longer than 1,024 bytes, and the configuration set (R306). -/
  longs : Tab Bool := []
  cfg : Nat := 0
  /-- The engine has halted since the device connected: no complete-split is answered (R311). -/
  dead : Bool := false
  deriving DecidableEq, Repr, Inhabited

/-- A PERIODIC in a far queue (R306, R307). -/
structure ProxyReport where
  tag : Nat := 0
  stall : Bool := false
  data : List Byte := []
  tog : Bool := false
  tries : Nat := 0
  deriving DecidableEq, Repr, Inhabited

/-- The far side of a proxied port (R302 to R310). -/
structure Far where
  epoch : Nat := 0
  tag : Nat := 0
  /-- TAG and RESULT of the last transaction of each endpoint direction. -/
  last : Tab (Option (Nat × Nat × List Byte)) := []
  /-- Transactions to run against the device, oldest first. -/
  run : List ProxyXfer := []
  addr : Nat := 0
  tog : Tab Bool := []
  queue : Tab (List ProxyReport) := []
  /-- Starts of frame sent, 11 bits. -/
  frame : Nat := 0
  ctl : ProxyCtl := {}
  /-- Frame number of the last poll of each interrupt IN endpoint (R306). -/
  polled : Tab (Option Nat) := []
  /-- The descriptor of each configuration that the host has read, the configuration set, and the alternate setting of each interface. -/
  descs : Tab (List Byte) := []
  cfg : Nat := 0
  alts : Tab Nat := []
  deriving DecidableEq, Repr, Inhabited

/-- The USB block beside its registers (R294 to R319). Ports are numbered 1–5. -/
structure Usb where
  /-- Change bits of each port: 0 connection, 1 enable, 2 suspend, 3 over-current, 4 reset. -/
  change : Tab Nat := []
  /-- Elapsed count at which the bus was suspended, and USTATE before. -/
  suspAt : Nat := 0
  before : Nat := 0
  /-- A wake source is held; K is driven; a host resume came meanwhile (R299, R300). -/
  wakeHeld : Bool := false
  driving : Bool := false
  hostK : Bool := false
  /-- A downstream reset runs; a downstream resume runs, begun by the host (1) or the device (2). -/
  resetting : Tab Bool := []
  resuming : Tab Nat := []
  /-- Power, enable and suspend of port 5, as bits 0, 1, 2. -/
  port5 : Nat := 0
  /-- The control transfer in progress at endpoint 0 (its SETUP bytes), and whether hardware completes it (R312, R316). -/
  ctl : Option (List Byte) := none
  hw : Bool := false
  newAddr : Option Nat := none
  /-- An EN = 1 write of the endpoint has been refused with CFGREJ (R313), which has no register bit. -/
  cfgRej : Tab Bool := []
  /-- Length, ZLP, direction and bytes moved of each endpoint's armed transfer (R314). -/
  armLen : Tab Nat := []
  armZlp : Tab Bool := []
  armIn : Tab Bool := []
  moved : Tab Nat := []
  /-- The 16 KiB endpoint memory (R318). -/
  mem : Memory := []
  /-- The last answer on the upstream bus. -/
  answer : UsbAnswer := .none
  near : Tab Near := []
  far : Tab Far := []
  /-- Counts of each proxy entry (USTAT), at 8·entry + word. -/
  counts : Tab Nat := []
  deriving DecidableEq, Repr

/-- A request at a block initiator (R323, R325, R326), with the command that carries it at present. -/
structure BlkReq where
  /-- Ring of its descriptor; 128: the ring is gone (R351). -/
  ring : Nat := 0
  idx : Nat := 0
  op : Nat := 0
  addr : Nat := 0
  blk : Nat := 0
  nblk : Nat := 0
  tag : Nat := 0
  serial : Nat := 0
  /-- First block of the command, and how many. -/
  first : Nat := 0
  cnt : Nat := 0
  tries : Nat := 0
  /-- Blocks of the request that have arrived (READ). -/
  got : List Nat := []
  /-- STATUS and COUNT of the first completion of a READ whose missing blocks are being read again. -/
  res : Option (Nat × Nat) := none
  deriving DecidableEq, Repr, Inhabited

/-- A request that has ended at the initiator, for its descriptor (R362): index, bytes 12–16, byte 17, COUNT and STATUS. -/
structure BlkDone where
  idx : Nat := 0
  size : Nat := 0
  wp : Bool := false
  count : Nat := 0
  status : Nat := 0
  deriving DecidableEq, Repr, Inhabited

/-- A command at a block target (R324, R325). -/
structure BlkCmd where
  tag : Nat := 0
  serial : Nat := 0
  op : Nat := 0
  blk : Nat := 0
  nblk : Nat := 0
  /-- It holds staging room and has been given to the back end. -/
  started : Bool := false
  /-- Blocks done. -/
  count : Nat := 0
  /-- Staged blocks of a WRITE, by block number. -/
  data : Tab (List Byte) := []
  /-- Its outcome. -/
  status : Option Nat := none
  deriving DecidableEq, Repr, Inhabited

/-- Block tunnels and back ends beside the STO registers (R321 to R330). -/
structure Sto where
  /-- Initiators, by service entry: requests, next SERIAL, tags in quarantine. -/
  reqs : Tab (List BlkReq) := []
  serial : Tab Nat := []
  quar : Tab (List Nat) := []
  /-- Ended requests of each ring. -/
  done : Tab (List BlkDone) := []
  /-- Targets, by service entry: commands in order of arrival, held completions by tag (SERIAL and the CPL). -/
  cmds : Tab (List BlkCmd) := []
  held : Tab (List (Nat × Nat × List Byte)) := []
  /-- Staging area of each enabled target: first 64 KiB unit of the cache, and units. -/
  area : Tab (Nat × Nat) := []
  /-- Elapsed counts of the resets of each back end (R330). -/
  resets : Tab (List Nat) := []
  /-- The medium commands of the last command given to a back end: medium, and address and length of each (R330). -/
  issued : Nat × List (Nat × Nat) := (0, [])
  /-- Largest NVMe transfer (MDTS) in blocks of 4 KiB, 0 without a limit; a standard-capacity card, addressed in bytes (R330). -/
  mdts : Nat := 0
  byteCard : Bool := false
  /-- Five counts of each entry (BSTAT), at 8·entry + word. -/
  counts : Tab Nat := []
  deriving DecidableEq, Repr

/-- Serial tunnels, UARTs and IRIG-B beside the SER registers (R331 to R343). -/
structure Ser where
  /-- A frame is being received by a UART: characters since the last gap (R334). -/
  inFrame : Tab Bool := []
  /-- Records were lost since the last one written (R335). -/
  lost : Tab Bool := []
  /-- Messages queued for each UART: characters with their DT (R338). -/
  txq : Tab (List (List (Byte × Nat))) := []
  /-- The last character that each UART sent. -/
  sent : Tab (Option Byte) := []
  /-- Elapsed count at which each record of a receive ring was written, record i of UART n at 65,536·n + i (R337). -/
  recAt : Tab Nat := []
  /-- By service entry: expected SEQ, and held messages by SEQ (R339). -/
  seq : Tab (Option Nat) := []
  held : Tab (List (Nat × List (Byte × Nat))) := []
  /-- Six counts of each entry (SSTAT), at 8·entry + word. -/
  counts : Tab Nat := []
  /-- Day, hour, minute and second of the last valid IRIG-B frame of a run, and consecutive bad frames (R342). -/
  irigPrev : Option (Nat × Nat × Nat × Nat) := none
  irigBad : Nat := 0
  /-- The last frame on IRIG_OUT: 100 pulses, 0, 1 or 2 (marker). -/
  irigOut : List Nat := []
  /-- UTC second (from 1970-01-01) of the frame that the generator sent last (R101), and the second of the time of day in which it sent it. -/
  irigSec : Option Int := none
  irigTod : Option Int := none
  deriving DecidableEq, Repr

/-- DMA channels beside the DMA registers (R386 to R397). -/
structure Dma where
  /-- Instant of the loaded transfer of a channel in WAIT, ns of the time of day. -/
  start : Tab Nat := []
  /-- Ring and index of the descriptor in the active set, and of that in the shadow set (R395). -/
  cur : Tab (Option (Nat × Nat)) := []
  next : Tab (Option (Nat × Nat)) := []
  deriving DecidableEq, Repr

/-- A read that the bridge holds (R374): a number that names it, its window, BAR4 offset and bytes. -/
structure HeldRead where
  id : Nat := 0
  win : Nat := 0
  off : Nat := 0
  bytes : Nat := 0
  deriving DecidableEq, Repr, Inhabited

/-- A message of the near memory service (R375), or an access that waits to become one; `kind`: 1 READ, 2 WRITE, 3 SIGNAL. -/
structure MemMsg where
  kind : Nat := 1
  win : Nat := 0
  tag : Nat := 0
  mseq : Nat := 0
  /-- Far address, and the BAR4 offset that it stands for. -/
  addr : Nat := 0
  off : Nat := 0
  bytes : Nat := 0
  data : List Byte := []
  line : Nat := 0
  /-- The held read that it serves; none: a line fetched ahead (R383). -/
  read : Option HeldRead := none
  deriving DecidableEq, Repr, Inhabited

/-- A line buffer of a prefetchable window (R383). -/
structure LineBuf where
  /-- BAR4 offset of the line. -/
  off : Nat := 0
  data : List Byte := []
  /-- A byte of it has been returned to the host. -/
  used : Bool := false
  deriving DecidableEq, Repr, Inhabited

/-- The bridge and the memory services (R370 to R385). -/
structure Brg where
  /-- Number of the next held read. -/
  nextId : Nat := 1
  /-- Accesses that wait, by service entry, oldest first. -/
  wait : Tab (List MemMsg) := []
  /-- READs sent and not answered, by service entry. -/
  reads : Tab (List MemMsg) := []
  /-- Near: next MSEQ, messages not acknowledged, resends so far (R378). -/
  mseq : Tab Nat := []
  unack : Tab (List MemMsg) := []
  tries : Tab Nat := []
  /-- Far: next MSEQ (version 2) or next SEQ (version 1), messages held, executions not acknowledged, elapsed count of the last message. -/
  next : Tab (Option Nat) := []
  held : Tab (List (Nat × List Byte)) := []
  toAck : Tab Nat := []
  heardAt : Tab Nat := []
  /-- RDATA kept for tag t of entry e, at 32e + t, with its MSEQ (R377). -/
  kept : Tab (Option (Nat × List Byte)) := []
  /-- Line buffers of each window, most recently used first. -/
  lines : Tab (List LineBuf) := []
  /-- Reads that have completed, newest first: number and data, or none for Completer Abort. -/
  done : List (Nat × Option (List Byte)) := []
  /-- Five counts of each entry (MSTAT), at 8·entry + word. -/
  counts : Tab Nat := []
  deriving DecidableEq, Repr

/-- Power entry beside its registers (R452 to R463). -/
structure Hsw where
  /-- An eFuse has tripped and has not been commanded off since (R462); by port 1–4. -/
  tripped : Tab Bool := []
  /-- The gates of ideal diodes A (0) and B (1) are enhanced (R451). -/
  diode : Tab Bool := []
  /-- The USB-C sink switch is closed; the ramp waits for its dead time (R461). -/
  sink : Bool := false
  ramp : Bool := false
  /-- Fault timer, and time since the current was last held, in periods of 4 µs (R454). -/
  timer : Nat := 0
  quiet : Nat := 0
  /-- By feed (0 A, 1 B): consecutive 4 µs samples within the window, and below UV (R450). -/
  within : Tab Nat := []
  low : Tab Nat := []
  /-- The ramp's reference, µV (R453). -/
  ramped : Nat := 0
  /-- Periods of 4 µs since the pass transistor last turned off or the sink switch opened, up to 5 (R461), and with a sign of damage (R460). -/
  since : Nat := 5
  leak : Nat := 0
  /-- Periods of 4 µs since power-on (the always-on logic's time, log entry 72), at entry to the path's state, and since a feed was valid. -/
  clock : Nat := 0
  at_ : Nat := 0
  unfed : Nat := 0
  deriving DecidableEq, Repr

/-- A USB PD message that the hub sends, as far as spec/19_usb_c_power.md gives its content. -/
inductive PdMsg where
  | request (w : Nat)
  /-- Objects offered: PPS, voltage (fixed: 20 mV, APDO maximum: 100 mV), current (50 mA). -/
  | sourceCaps (l : List (Bool × Nat × Nat))
  | accept | reject | notSupported | psRdy | prSwap | drSwap | softReset | hardReset
  /-- Discover Identity (0), SVIDs (1) or Modes (2), and the hub's own answers. -/
  | discover (k : Nat)
  | identity
  | svids (svid : Nat)
  | mode (vdo : Nat)
  | vdmNak (k : Nat)
  | enterMode (trunk : Bool)
  | enterAck | enterNak | exitMode | exitAck | exitNak
  /-- DisplayPort Configure with pin assignment C (1) or D (2). -/
  | dpConfigure (pin : Nat)
  deriving DecidableEq, Repr

/-- What the port waits for in the exchange that runs (R470, R478, R479). -/
inductive PdWait where
  | none
  /-- The partner's answer to a Request, a swap or a Soft_Reset, or the Request that answers Source_Capabilities. -/
  | request | prSwap | drSwap | softReset | offer
  /-- Source_Capabilities after attach as sink. -/
  | caps
  | psRdy
  /-- A power role swap: the old source off, VBUS discharged by the hub, the new source on. -/
  | oldOff | discharge | newOn
  /-- After a hard reset: as source its recovery, as sink vSafe0V and then vSafe5V. -/
  | recover | safe0 | safe5
  deriving DecidableEq, Repr

/-- A mode entry that runs: none, Enter Mode of Vexbel trunk mode or of DisplayPort (with its pin assignment), DisplayPort Configure. -/
inductive PdVdm where
  | none | enterTrunk
  | enterDp (pin : Nat)
  | config
  deriving DecidableEq, Repr

/-- A Request of the hub: its object, position, kind, voltage (20 mV) and current (50 mA). -/
structure PdReq where
  w : Nat := 0
  pos : Nat := 0
  pps : Bool := false
  v : Nat := 0
  i : Nat := 0
  deriving DecidableEq, Repr, Inhabited

/-- The USB-C port beside its registers (R466 to R485). -/
structure Upd where
  /-- The termination seen: on CC2, Rp, its current code. -/
  seen : Option (Bool × Bool × Nat) := none
  /-- The dual-role toggle presents Rp (R466). -/
  rp : Bool := false
  /-- The attach role is source (R468). -/
  src : Bool := false
  /-- The hub drives VBUS, and the target of SRC_REF in units of 20 mV. -/
  vbusOn : Bool := false
  ref : Nat := 0
  /-- Objects of the last valid Source_Capabilities, and the last Request. -/
  caps : List Nat := []
  req : PdReq := {}
  wait : PdWait := .none
  vdm : PdVdm := .none
  /-- Retransmissions of the last message. -/
  tries : Nat := 0
  /-- The last hard resets, newest first, and the starts of the port's waits, in 4 µs periods of the always-on logic. -/
  resets : List Nat := []
  stamp : Tab Nat := []
  /-- Consecutive 4 µs periods with VBUS below 3.67 V (R467), and at 3.3 V with the current above the limit (R476). -/
  low : Nat := 0
  excess : Nat := 0
  /-- Hard resets without capabilities since attach (R470). -/
  noCaps : Nat := 0
  /-- The partner is taken as non-PD. -/
  nonPd : Bool := false
  /-- UPD_CMD request (bit of UPD_CMD) that waits, and the one that runs. -/
  cmd : Option Nat := none
  run : Option Nat := none
  /-- A Request is to be repeated after Wait; a keep-alive, a new Request or a new offer is due. -/
  again : Bool := false
  keep : Bool := false
  /-- Messages that the last event of the port sent, in order. -/
  out : List PdMsg := []
  deriving DecidableEq, Repr

/-- A change of operating point that runs (R496): the point, whether it raises, and the power state that it leads to. -/
structure OpChange where
  op : Nat
  raise : Bool
  goal : Nat
  deriving DecidableEq, Repr

/-- Power states beside the PWR registers (R489 to R496). -/
structure Pwr where
  /-- The state asked for by the handshake that runs, and the blocks whose final answer it awaits (R490). -/
  ask : Option Nat := none
  waiting : List Nat := []
  /-- Firmware has answered DELAY. -/
  fwDelay : Bool := false
  /-- RUN (0) or TRIM (1), the state before HUSH. -/
  before : Nat := 0
  change : Option OpChange := none
  /-- A state wanted when the change that runs has ended (R496). -/
  next : Option Nat := none
  /-- VCORE target last written to the regulator, mV. -/
  target : Nat := 850
  /-- The RAILEN pin; power-good (R523); an exit from DORMANT or OFF runs (R493). -/
  railen : Bool := true
  good : Bool := false
  waking : Bool := false
  /-- When the wake timer started at entry expires, in 4 µs periods of the always-on logic (R493). -/
  wakeAt : Nat := 0
  deriving DecidableEq, Repr

/-- An accepted edge that waits for the event service (R526). -/
structure GpioEdge where
  pin : Nat := 0
  fall : Bool := false
  time : Wide := {}
  /-- TMU_STAT.TVALID was 1. -/
  traced : Bool := false
  /-- The event entries that record it (R256). -/
  entries : List Nat := []
  deriving DecidableEq, Repr

/-- GPIO, I2C and MDIO beside their registers (R526 to R529). -/
structure Gpio where
  /-- Edges that wait, oldest first, at most 64. -/
  queue : List GpioEdge := []
  /-- The command word of each I2C controller that runs or ran last, and whether it holds the bus. -/
  i2cCmd : Tab Nat := []
  i2cHold : Tab Bool := []
  /-- The MDIO command word that runs or ran last. -/
  mdioCmd : Nat := 0
  deriving DecidableEq, Repr

/-- The host interface beside its registers (R352 to R367). -/
structure Rng where
  /-- Descriptors fetched and not yet passed by CI, for each ring. -/
  fetched : Tab (List Desc) := []
  /-- The ring served last on the host side (0) and on the management side (1) (R356). -/
  turn : Tab Nat := []
  /-- Vectors whose holdoff runs, and those with a message due at its end (R367). -/
  holding : Tab Bool := []
  due : Tab Bool := []
  /-- An event was lost since the last entry written (R364). -/
  ovf : Bool := false
  /-- Events of the embedded event ring that raised the management interrupt line (R354), a count that wraps at 32 bits. -/
  evIrq : Nat := 0
  /-- Write-backs that wait because the hub may issue no requests (R351): ring, index, bytes 8–29, STATUS. -/
  late : List (Nat × Nat × List Byte × Nat) := []
  /-- MSI-X messages sent: vectors, newest first. -/
  msix : List Nat := []
  /-- Last doorbell value accepted for each ring (R357). -/
  bell : Tab Nat := []
  /-- Event-ring doorbell. -/
  evBell : Nat := 0
  deriving DecidableEq, Repr

/-- The PCIe function (R348, R351). -/
structure Pcx where
  busMaster : Bool := false
  perst : Bool := false
  /-- Root role: PCIe address of the device's BAR0, once the hub has enumerated it (R349). -/
  devBar : Option Nat := none
  deriving DecidableEq, Repr

/-- The pins and lines of the hub. -/
structure Pins where
  /-- Event lines of the compare channels 0–7 (R88). -/
  line : Tab Bool := []
  /-- Pulses of the event line "mains boundary" (R117), a count that wraps at 16 bits. -/
  boundary : Nat := 0
  /-- Elapsed count at the last of them, whose pulse lasts 1 µs. -/
  boundaryAt : Option Nat := none
  deriving DecidableEq, Repr

/-- A trunk's session set-up as management firmware follows it (R424). -/
structure Session where
  /-- Even slot of the ephemeral pair. -/
  pair : Option Nat := none
  /-- Own OFFER and the partner's; empty: none yet. -/
  offer : List Byte := []
  peer : List Byte := []
  /-- It has failed at this entry to SEAL. -/
  ended : Bool := false
  deriving DecidableEq, Repr, Inhabited

/-- Reset and boot beside the GEN and BOOT registers (R427 to R441). -/
structure Boot where
  /-- The chip reset is held (R428). -/
  held : Bool := true
  /-- Elapsed count at its release. -/
  rel : Nat := 0
  /-- The processor is held stopped by a lockstep mismatch (R502). -/
  dead : Bool := false
  /-- The management firmware has been started. -/
  running : Bool := false
  /-- The ROM runs after a management reset (R432). -/
  mgmtOnly : Bool := false
  /-- Elapsed counts of the management resets since the chip reset, newest first (R431). -/
  resets : List Nat := []
  /-- Attempts at the PUF key at this start (R409). -/
  puf : Nat := 0
  /-- Length of the configuration body that is being applied, and its next record (R437). -/
  cfgLen : Nat := 0
  cfgNext : Nat := 0
  /-- Next engine slot (R439). -/
  eng : Nat := 0
  /-- Elapsed count of the last kick of the management watchdog (R431). -/
  kick : Nat := 0
  deriving DecidableEq, Repr

/-- The key vault beside its registers (R402 to R416). -/
structure Keys where
  /-- The fuse rows 0–511; a blank row reads 0 (R402). -/
  fuse : Tab Nat := []
  /-- Rows in which this start found an error that their code cannot correct; they read as blank (R403). -/
  fuseBad : List Nat := []
  /-- The 32 key bytes of each slot (zero keys where unlisted), and its check code (R412). -/
  key : Tab (List Byte) := []
  check : Tab Nat := []
  root : Option (List Byte) := none
  puf : Option (List Byte) := none
  /-- Code and OUTLEN with which the command in progress ends (R416). -/
  code : Nat := 0
  outLen : Nat := 0
  /-- Session set-up of each trunk (R424). -/
  sess : Tab Session := []
  deriving DecidableEq, Repr

/-- Why a step stops. No command of this model stops with a fault; see NOTES.md, Stops. -/
inductive Fault where
  /-- An access to an address that the spec says does not exist, by a command that names none other. Raised by no meaning at present; safe. -/
  | noSuchAddress (a : Nat)
  deriving DecidableEq, Repr

/-- Why a command has no meaning. -/
inductive Refusal where
  /-- The command is not modelled yet; raised by the dispatch alone; safe. -/
  | notModelled (mnemonic : String)
  deriving DecidableEq, Repr

/-- The state of the hub. -/
structure State where
  /-- Every register field: key (absolute bit address in BAR0) and value; an unlisted field holds its reset value. -/
  regs : Tab Nat := []
  fab : Fab := {}
  ring : Ring := {}
  xsw : Xsw := {}
  shp : Shp := {}
  tmu : Tmu := {}
  cyc : Cyc := {}
  trunks : Tab Trunk := []
  kl2 : Kl2 := {}
  lne : Lne := {}
  flt : Flt := {}
  ten : Ten := {}
  bnk : Bnk := {}
  dsp : Dsp := {}
  usb : Usb := {}
  sto : Sto := {}
  ser : Ser := {}
  dma : Dma := {}
  brg : Brg := {}
  hsw : Hsw := {}
  upd : Upd := {}
  pwr : Pwr := {}
  gpio : Gpio := {}
  rng : Rng := {}
  keys : Keys := {}
  pcx : Pcx := {}
  pins : Pins := {}
  boot : Boot := {}
  /-- The timers that run, each with the elapsed count at which it expires (log entry 62). -/
  timers : List (Timer × Nat) := []
  /-- Host memory, DRAM, management SRAM. -/
  host : Memory := []
  dram : Memory := []
  sram : Memory := []
  /-- The bytes of the scratchpad that have been written since it lost its contents, bank b from b × 0x1_0000 on (R250). -/
  pad : Tab (Option Byte) := []
  /-- The quad-SPI flash (R434). -/
  flash : Memory := []
  /-- The word that the last register or memory read returned. -/
  readWord : Nat := 0
  /-- The model's own: number of the next free value (log entry 3). -/
  freeCount : Nat := 0
  /-- The commands that wait, first in, first out. -/
  pending : List Instr := []
  deriving DecidableEq, Repr

/-- The hub right after a power-on reset (R427): the chip reset is held (R428), every register field at its reset value, nothing stored, the fuses blank, no command waiting. -/
def State.reset : State := {}

end Sys2Proof.Machine
end

