-- ==== Sys2Proof/Machine/Ops.lean ====
section
/-! DEFINITION. The named operations over registers, counters, memories, free values and time that every meaning uses. -/

namespace Sys2Proof.Machine

/-- `v` with bit `b` set to `x`. -/
def withBit (v b : Nat) (x : Bool) : Nat :=
  if v.testBit b then (if x then v else v - 2 ^ b) else (if x then v + 2 ^ b else v)

/-- The majority of three samples. -/
def vote3 (b : BitVec 3) : Bool := (b.getLsbD 0 && b.getLsbD 1) || (b.getLsbD 0 && b.getLsbD 2) || (b.getLsbD 1 && b.getLsbD 2)

namespace State

/-- The code that instance `(i, j)` of a field holds. -/
def rd (s : State) (F : Field) (i : Nat := 0) (j : Nat := 0) : Nat :=
  Tab.get s.regs (F.key i j) (F.resetOf i)

/-- Instance `(i, j)` of a field set to a code (its low `width` bits). -/
def wr (s : State) (F : Field) (v : Nat) (i : Nat := 0) (j : Nat := 0) : State :=
  { s with regs := Tab.put s.regs (F.key i j) (v % 2 ^ F.width) (F.resetOf i) }

/-- A one-bit field reads 1. -/
def on (s : State) (F : Field) (i : Nat := 0) (j : Nat := 0) : Bool := s.rd F i j == 1

/-- Bit `b` of a field. -/
def bitAt (s : State) (F : Field) (b : Nat) (i : Nat := 0) (j : Nat := 0) : Bool :=
  (s.rd F i j).testBit b

/-- Bit `b` of a field set or cleared. -/
def putBit (s : State) (F : Field) (b : Nat) (x : Bool) (i : Nat := 0) (j : Nat := 0) : State :=
  s.wr F (withBit (s.rd F i j) b x) i j

/-- A saturating counter advances by `n` (R17). -/
def satBy (s : State) (F : Field) (n : Nat) (i : Nat := 0) (j : Nat := 0) : State :=
  s.wr F (satAdd F.width (s.rd F i j) n) i j

/-- A saturating counter advances by one (R17). -/
def sat (s : State) (F : Field) (i : Nat := 0) (j : Nat := 0) : State := s.satBy F 1 i j

/-- A wrapping counter advances by one (R17). -/
def wrap (s : State) (F : Field) (i : Nat := 0) (j : Nat := 0) : State :=
  s.wr F (s.rd F i j + 1) i j

/-- A field raised to at least `v` (largest-value registers). -/
def raise (s : State) (F : Field) (v : Nat) (i : Nat := 0) (j : Nat := 0) : State :=
  if s.rd F i j < v then s.wr F v i j else s

/-- A fresh free value of `w` bits (R19, log entry 3), and the state that has used it. -/
def free (s : State) (w : Nat) : Nat × State :=
  (Config.freeNat s.freeCount % 2 ^ w, { s with freeCount := s.freeCount + 1 })

/-- A field takes a value that the spec leaves open. -/
def wrFree (s : State) (F : Field) (i : Nat := 0) (j : Nat := 0) : State :=
  (s.free F.width).2.wr F (s.free F.width).1 i j

/-- Timer `k` runs until the elapsed count is `t`. -/
def armAt (s : State) (k : Timer) (t : Nat) : State := { s with timers := (k, t) :: s.timers.filter (fun x => x.1 != k) }

/-- Timer `k` starts and expires after `ns` nanoseconds of the elapsed count (log entry 62). -/
def arm (s : State) (k : Timer) (ns : Nat) : State := s.armAt k (s.tmu.elapsed + ns * 2 ^ 32)

/-- Timer `k` stops. -/
def disarm (s : State) (k : Timer) : State := { s with timers := s.timers.filter (fun x => x.1 != k) }

/-- When timer `k` expires; none: it does not run. -/
def deadline (s : State) (k : Timer) : Option Nat := (s.timers.find? (fun x => x.1 == k)).map (·.2)

/-- Timer `k` runs. -/
def armed (s : State) (k : Timer) : Bool := (s.deadline k).isSome

/-- Timer `k` has run out. -/
def due (s : State) (k : Timer) : Bool :=
  match s.deadline k with
  | some t => t ≤ s.tmu.elapsed
  | none => false

/-- `ns` nanoseconds have passed since timer `k` was started with no time of its own (`arm k 0`), for times that a register gives at each instant. -/
def ran (s : State) (k : Timer) (ns : Nat) : Bool :=
  match s.deadline k with
  | some t => t + ns * 2 ^ 32 ≤ s.tmu.elapsed
  | none => false

/-- DRAM address `a` lies in an engine image slot that verification has locked against writes (R246). -/
def dramLocked (s : State) (a : Nat) : Bool :=
  (List.range 4).any (fun i => s.on TEN_IMG_INFO_VERIFIED i && s.rd TEN_IMG_ADDR_ADDR i * 4096 ≤ a &&
    a < s.rd TEN_IMG_ADDR_ADDR i * 4096 + s.rd TEN_IMG_LEN_LEN i * 4096)

/-- Size of the DRAM address space: 7/8 of the device (R398). -/
def dramSize (s : State) : Nat := if s.rd DRC_CTRL_DEVSZ = 0 then 0 else 7 * 2 ^ (25 + s.rd DRC_CTRL_DEVSZ)

/-- A byte written in DRAM; a locked address keeps its byte (R246), and nothing lies beyond the size (R398). -/
def dramByte (s : State) (a : Nat) (b : Byte) : State :=
  if s.dramLocked a || a ≥ s.dramSize then s else { s with dram := Memory.setByte s.dram a b }

/-- Bytes that one access writes in DRAM from address `a` on, without its counts. -/
def dramBytes (s : State) (a : Nat) : List Byte → State
  | [] => s
  | b :: bs => (s.dramByte a b).dramBytes (a + 1) bs

/-- One write access to DRAM: refused bytes count in WPROT (R246, R398) or in OOR (R398), once for the access. -/
def dramWrite (s : State) (a : Nat) (l : List Byte) : State :=
  let s1 := if (List.range l.length).any (fun k => s.dramLocked (a + k)) then s.sat DRC_CNT_COUNT 3 else s
  let s2 := if a + l.length > s.dramSize && !l.isEmpty then s1.sat DRC_CNT_COUNT 2 else s1
  s2.dramBytes a l

/-- Byte `a` of the scratchpad: undefined until it is written (R250). -/
def padByte (s : State) (a : Nat) : Byte := (Tab.get s.pad a none).getD (Config.padByte s.bnk.lost a)

/-- `n` bytes of the scratchpad from `a` on. -/
def padBytes (s : State) (a n : Nat) : List Byte := (List.range n).map (fun k => s.padByte (a + k))

/-- Byte `a` of the scratchpad written. -/
def setPadByte (s : State) (a : Nat) (b : Byte) : State := { s with pad := Tab.put s.pad a (some b) none }

/-- Bytes of the scratchpad written from `a` on. -/
def setPadBytes (s : State) (a : Nat) : List Byte → State
  | [] => s
  | b :: l => (s.setPadByte a b).setPadBytes (a + 1) l

/-- `f` applied when `b` holds. -/
def when (s : State) (b : Bool) (f : State → State) : State := if b then f s else s

/-- `f` applied for each element of a list, in order. -/
def each {α : Type} (s : State) (l : List α) (f : State → α → State) : State := l.foldl f s

end State

/-- A time of day in units of 2^-32 ns since second 0. -/
def Wide.units (t : Wide) : Nat := (t.sec * 1000000000 + t.ns) * 2 ^ 32 + t.frac

/-- The time of day of a count of 2^-32 ns. Seconds saturate at 2^48 − 1 (R78). -/
def Wide.ofUnits (u : Nat) : Wide :=
  { sec := min (u / 2 ^ 32 / 1000000000) (2 ^ 48 - 1),
    ns := u / 2 ^ 32 % 1000000000, frac := u % 2 ^ 32 }

/-- The 16 fraction bits that registers and timestamps expose (R78). -/
def Wide.frac16 (t : Wide) : Nat := t.frac / 2 ^ 16

/-- The 32-bit ns word (R87). -/
def Wide.ns32 (t : Wide) : Nat := (t.sec * 1000000000 + t.ns) % 2 ^ 32

/-- The signed difference of two 32-bit ns words (R87). -/
def diff32 (a b : Nat) : Int := signedOf 32 ((a + 2 ^ 32 - b % 2 ^ 32) % 2 ^ 32)

end Sys2Proof.Machine
end

