-- ==== Sys2Proof/Machine/Cluster.lean ====
section
/-! DEFINITION. The service table as the clusters see it (R248, R251 to R253, R257): which entry and engine a packet is for, and whether the engine has room. -/

namespace Sys2Proof.Machine

/-- States of an engine (R247). -/
def engOff : Nat := 0
def engStart : Nat := 1
def engRun : Nat := 2
def engHalted : Nat := 3

/-- States of a service entry. -/
def svcIdle : Nat := 0
def svcBound : Nat := 1
def svcActive : Nat := 2
def svcQuiesced : Nat := 3
def svcHalted : Nat := 4
def svcError : Nat := 5

/-- Service types (R251). -/
def tyDisplay : Nat := 1
def tyUsb : Nat := 2
def tyBlock : Nat := 3
def tySerial : Nat := 4
def tyMemory : Nat := 5
def tyEvent : Nat := 6
def tyFabric : Nat := 7
def tyPhase : Nat := 8

namespace State

/-- The enabled entry whose RXSLOT is terminus slot `n` (R252, R253). -/
def entryOfSlot (s : State) (n : Nat) : Option Nat :=
  (List.range 128).find? (fun e => s.on TEN_SVC0_EN e && n != 0 && s.rd TEN_SVC1_RXSLOT e == n)

/-- The enabled entry of the sampled-value phase service (R252, R257). -/
def phaseEntry (s : State) : Option Nat :=
  (List.range 128).find? (fun e => s.on TEN_SVC0_EN e && s.rd TEN_SVC0_TYPE e == tyPhase)

/-- The engine of an entry. -/
def svcEngine (s : State) (e : Nat) : Nat := s.rd TEN_SVC0_ENGINE e

/-- A QUIESCE of entry `e` is being served: MBX0's request is served first (R255). -/
def quiescing (s : State) (e : Nat) : Bool :=
  let n := s.svcEngine e
  let asks (m : Nat) : Bool := s.on ENG_MBX_BUSY n m && Tab.get s.ten.req (2 * n + m) (0, 0) == (3, e)
  asks 0 || (asks 1 && !s.on ENG_MBX_BUSY n 0)

/-- An entry's service runs: the entry is ACTIVE and its engine is RUN. -/
def svcRuns (s : State) (e : Nat) : Bool :=
  s.on TEN_SVC0_EN e && s.rd TEN_SVC0_STATE e == svcActive && s.rd ENG_STAT_STATE (s.svcEngine e) == engRun

/-- The service takes new work: it runs and no QUIESCE of the entry is being served (R255). -/
def svcTakes (s : State) (e : Nat) : Bool := s.svcRuns e && !s.quiescing e

/-- A payload brings what an entry's own work waits for: data and completions of block commands, the answers of a proxy's far side, those of a far memory service (R303, R322, R375). -/
def answers (s : State) (e : Nat) (l : List Byte) : Bool :=
  let ty := s.rd TEN_SVC0_TYPE e
  let k := (l.getD 0 0).toNat
  (ty == tyBlock && (k == 2 || k == 3)) || (ty == tyUsb && (k == 4 || k == 6 || k == 7)) || (ty == tyMemory && k ≥ 0x81)

/-- The service takes a packet: any while it takes new work, and while a QUIESCE of it is being served those that its work in flight waits for (R255, log entry 67). -/
def takesPacket (s : State) (e : Nat) (l : List Byte) : Bool := s.svcRuns e && (!s.quiescing e || s.answers e l)

/-- The enabled entry that a copy on a cluster port is for (R253, R257). -/
def copyEntry (s : State) (c : Copy) : Option Nat := if c.frame then s.phaseEntry else s.entryOfSlot c.term

/-- The inbound buffer of engine `n`. -/
def inbox (s : State) (n : Nat) : List (Nat × Packet) := Tab.get s.ten.inbox n []

/-- The engine that a copy is for has room in its inbound buffer, or is not to take it at all (R253). -/
def engineRoom (s : State) (c : Copy) : Bool :=
  match s.copyEntry c with
  | none => true
  | some e =>
    !s.takesPacket e c.hdr.payload || (s.inbox (s.svcEngine e)).length < 16

/-- The little-endian value of `n` bytes at offset `o` of an entry's parameter block, as its engine has read it. -/
def param (s : State) (e o n : Nat) : Nat := ofLe (((Tab.get s.ten.block e []).drop o).take n)

/-- The copy of a sampled-value frame `f` from edge port `p` for the phase service (R257). -/
def phaseCopies (s : State) (p : Nat) (f : List Byte) : List Copy :=
  match s.phaseEntry with
  | none => []
  | some e =>
    let l := if ofBe ((f.drop 12).take 2) = 0x8100 then 16 else 12
    if s.rd TEN_SVC0_STATE e = svcActive && s.param e 2 1 + 4 = p && ofBe ((f.drop l).take 2) = 0x88BA &&
        ofBe ((f.drop (l + 2)).take 2) = s.param e 0 2 then
      [{ hdr := { cls := 6, payload := f }, iport := p, eport := 12 + s.svcEngine e / 4, cost := (20 + f.length + 127) / 128,
         frame := true }]
    else []

end State

end Sys2Proof.Machine
end

