-- ==== Sys2Proof/Machine/Aes.lean ====
section
/-! DEFINITION. AES-256-GCM, which spec/06_trunk_link.md and spec/16_security.md name (log entry 5). -/

namespace Sys2Proof.Machine

/-- The S-box (FIPS 197, 5.1.1). -/
def aesSbox : List Nat :=
  [0x63, 0x7C, 0x77, 0x7B, 0xF2, 0x6B, 0x6F, 0xC5, 0x30, 0x01, 0x67, 0x2B, 0xFE, 0xD7, 0xAB, 0x76] ++
  [0xCA, 0x82, 0xC9, 0x7D, 0xFA, 0x59, 0x47, 0xF0, 0xAD, 0xD4, 0xA2, 0xAF, 0x9C, 0xA4, 0x72, 0xC0] ++
  [0xB7, 0xFD, 0x93, 0x26, 0x36, 0x3F, 0xF7, 0xCC, 0x34, 0xA5, 0xE5, 0xF1, 0x71, 0xD8, 0x31, 0x15] ++
  [0x04, 0xC7, 0x23, 0xC3, 0x18, 0x96, 0x05, 0x9A, 0x07, 0x12, 0x80, 0xE2, 0xEB, 0x27, 0xB2, 0x75] ++
  [0x09, 0x83, 0x2C, 0x1A, 0x1B, 0x6E, 0x5A, 0xA0, 0x52, 0x3B, 0xD6, 0xB3, 0x29, 0xE3, 0x2F, 0x84] ++
  [0x53, 0xD1, 0x00, 0xED, 0x20, 0xFC, 0xB1, 0x5B, 0x6A, 0xCB, 0xBE, 0x39, 0x4A, 0x4C, 0x58, 0xCF] ++
  [0xD0, 0xEF, 0xAA, 0xFB, 0x43, 0x4D, 0x33, 0x85, 0x45, 0xF9, 0x02, 0x7F, 0x50, 0x3C, 0x9F, 0xA8] ++
  [0x51, 0xA3, 0x40, 0x8F, 0x92, 0x9D, 0x38, 0xF5, 0xBC, 0xB6, 0xDA, 0x21, 0x10, 0xFF, 0xF3, 0xD2] ++
  [0xCD, 0x0C, 0x13, 0xEC, 0x5F, 0x97, 0x44, 0x17, 0xC4, 0xA7, 0x7E, 0x3D, 0x64, 0x5D, 0x19, 0x73] ++
  [0x60, 0x81, 0x4F, 0xDC, 0x22, 0x2A, 0x90, 0x88, 0x46, 0xEE, 0xB8, 0x14, 0xDE, 0x5E, 0x0B, 0xDB] ++
  [0xE0, 0x32, 0x3A, 0x0A, 0x49, 0x06, 0x24, 0x5C, 0xC2, 0xD3, 0xAC, 0x62, 0x91, 0x95, 0xE4, 0x79] ++
  [0xE7, 0xC8, 0x37, 0x6D, 0x8D, 0xD5, 0x4E, 0xA9, 0x6C, 0x56, 0xF4, 0xEA, 0x65, 0x7A, 0xAE, 0x08] ++
  [0xBA, 0x78, 0x25, 0x2E, 0x1C, 0xA6, 0xB4, 0xC6, 0xE8, 0xDD, 0x74, 0x1F, 0x4B, 0xBD, 0x8B, 0x8A] ++
  [0x70, 0x3E, 0xB5, 0x66, 0x48, 0x03, 0xF6, 0x0E, 0x61, 0x35, 0x57, 0xB9, 0x86, 0xC1, 0x1D, 0x9E] ++
  [0xE1, 0xF8, 0x98, 0x11, 0x69, 0xD9, 0x8E, 0x94, 0x9B, 0x1E, 0x87, 0xE9, 0xCE, 0x55, 0x28, 0xDF] ++
  [0x8C, 0xA1, 0x89, 0x0D, 0xBF, 0xE6, 0x42, 0x68, 0x41, 0x99, 0x2D, 0x0F, 0xB0, 0x54, 0xBB, 0x16]

/-- A byte through the S-box. -/
def aesSub (x : Nat) : Nat := aesSbox.getD x 0

/-- Multiplication by x in GF(2^8) (FIPS 197, 4.2.1). -/
def aesX (b : Nat) : Nat := if b < 128 then 2 * b else (2 * b - 256) ^^^ 0x1B

/-- A list cut into pieces of `n`, at most `k` of them. -/
def pieces {α : Type} (n : Nat) : Nat → List α → List (List α)
  | 0, _ => []
  | k + 1, l => if l.isEmpty then [] else l.take n :: pieces n k (l.drop n)

/-- Words of the key schedule after the first eight, newest first: `k` more of them (FIPS 197, 5.2, Nk = 8). -/
def aesExpand : Nat → Nat → Nat → List (List Nat) → List (List Nat)
  | 0, _, _, l => l
  | k + 1, i, rc, l =>
    let t := l.headD []
    let u := if i % 8 = 0 then ((t.drop 1 ++ t.take 1).map aesSub).zipWith (· ^^^ ·) [rc, 0, 0, 0] else if i % 8 = 4 then t.map aesSub else t
    aesExpand k (i + 1) (if i % 8 = 0 then aesX rc else rc) ((l.getD 7 []).zipWith (· ^^^ ·) u :: l)

/-- The 15 round keys of a 32-byte key. -/
def aesKeys (key : List Byte) : List (List Nat) :=
  let w := (aesExpand 52 8 1 (pieces 4 8 (key.map (·.toNat))).reverse).reverse
  (pieces 4 15 w).map (·.flatten)

/-- SubBytes and ShiftRows (FIPS 197, 5.1.1 and 5.1.2), the block in column order. -/
def aesShift (b : List Nat) : List Nat := (List.range 16).map (fun i => aesSub (b.getD ((5 * i) % 16) 0))

/-- MixColumns of one column (FIPS 197, 5.1.3). -/
def aesMix (c : List Nat) : List Nat :=
  let all := c.foldl (· ^^^ ·) 0
  (List.range 4).map (fun i => c.getD i 0 ^^^ all ^^^ aesX (c.getD i 0 ^^^ c.getD ((i + 1) % 4) 0))

/-- The rounds after the first key addition. -/
def aesRounds : List (List Nat) → List Nat → List Nat
  | [], b => b
  | [k], b => (aesShift b).zipWith (· ^^^ ·) k
  | k :: ks, b => aesRounds ks ((((pieces 4 4 (aesShift b)).map aesMix).flatten).zipWith (· ^^^ ·) k)

/-- AES-256 of one block under its round keys. -/
def aesBlock (ks : List (List Nat)) (b : List Nat) : List Nat := aesRounds (ks.drop 1) (b.zipWith (· ^^^ ·) (ks.headD []))

/-- A block of bytes as a 128-bit number, and back. -/
def natOfBlock (b : List Nat) : Nat := b.foldl (fun a x => 256 * a + x) 0
def blockOfNat (v : Nat) : List Nat := (beBytes 16 v).map (·.toNat)

/-- The rest of a product in the field of GHASH (SP 800-38D, 6.3), from bit `k − 1` of `x` down. -/
def gmul : Nat → Nat → Nat → Nat → Nat
  | 0, _, _, z => z
  | k + 1, x, v, z => gmul k x (if v.testBit 0 then v / 2 ^^^ (0xE1 * 2 ^ 120) else v / 2) (if x.testBit k then z ^^^ v else z)

/-- GHASH of blocks, each a 128-bit number. -/
def ghash (h : Nat) (l : List Nat) : Nat := l.foldl (fun y x => gmul 128 (y ^^^ x) h 0) 0

/-- Bytes as 128-bit numbers, the last block filled with zeros. -/
def ghashBlocks (b : List Byte) : List Nat := (pieces 16 (b.length + 1) b).map (fun l => ofBe (l ++ List.replicate (16 - l.length) 0))

/-- The key stream of counter mode from block `i` on, XORed into the bytes (SP 800-38D, 6.5). -/
def gctr (ks : List (List Nat)) (j0 : Nat) : Nat → List (List Byte) → List Byte
  | _, [] => []
  | i, l :: ls => l.zipWith (fun a k => a ^^^ BitVec.ofNat 8 k) (aesBlock ks (blockOfNat (j0 + i))) ++ gctr ks j0 (i + 1) ls

/-- The tag of a ciphertext with a 12-byte IV (SP 800-38D, 7.1). -/
def gcmTag (key iv aad ct : List Byte) : List Byte :=
  let ks := aesKeys key
  let h := natOfBlock (aesBlock ks (blockOfNat 0))
  let s := ghash h (ghashBlocks aad ++ ghashBlocks ct ++ [8 * aad.length * 2 ^ 64 + 8 * ct.length])
  beBytes 16 (s ^^^ natOfBlock (aesBlock ks (blockOfNat (ofBe iv * 2 ^ 32 + 1))))

/-- AES-256-GCM: the plaintext of a ciphertext, or the ciphertext of a plaintext: key, 12-byte IV, text (R162, R410). -/
@[irreducible] def gcmPlain (key iv ct : List Byte) : List Byte :=
  gctr (aesKeys key) (ofBe iv * 2 ^ 32 + 1) 1 (pieces 16 (ct.length + 1) ct)

/-- AES-256-GCM: ciphertext and 16-byte tag: key, IV, additional data, plaintext (R162, R410). -/
@[irreducible] def gcmSeal (key iv aad pt : List Byte) : List Byte × List Byte := (gcmPlain key iv pt, gcmTag key iv aad (gcmPlain key iv pt))

/-- AES-256-GCM: the tag is right: key, IV, additional data, ciphertext, tag (R162, R410). -/
@[irreducible] def gcmTagOk (key iv aad ct tag : List Byte) : Bool := gcmTag key iv aad ct == tag

end Sys2Proof.Machine
end

