-- ==== Sys2Proof/Machine/Events.lean ====
section
/-! DEFINITION. Events and interrupts (R364 to R367): posting an entry on the event ring, MSI-X messages with their holdoff, and interrupt sources. -/

namespace Sys2Proof.Machine

namespace State

/-- Embedded mode (R354); it reads 1 in the root role (R349). -/
def embedded (s : State) : Bool := s.on RNG_CTRL_EMB || s.on PCX_CTRL_ROLE

/-- The hub may issue requests to the host (R351). -/
def hostReady (s : State) : Bool := s.pcx.busMaster && !s.on PCX_STAT_D3

/-- An event that is lost (R364, R365): counted in EVLOST; the next entry written carries OVF. -/
def eventLost (s : State) : State :=
  let s1 := (s.sat RNG_CNT_COUNT 3).wr RNG_STAT_EVOVF 1
  { s1 with rng := { s1.rng with ovf := true } }

/-- An MSI-X message on vector `v` goes out, or is held back: under its holdoff (R367), or masked, with its pending bit set. -/
def sendMsix (s : State) (v : Nat) : State :=
  if Tab.get s.rng.holding v false then
    { s with rng := { s.rng with due := Tab.put s.rng.due v true false } }
  else if s.on PCX_MSIX_CTRL_MASK v || !s.hostReady then
    s.putBit PCX_MSIX_PBA_PENDING (v % 32) true (v / 32)
  else
    let s1 := { s with rng := { s.rng with
      msix := v :: s.rng.msix, holding := Tab.put s.rng.holding v (s.rd RNG_VEC_HOLDOFF v != 0) false } }
    s1.arm (.holdoff v) (s.rd RNG_VEC_HOLDOFF v * 1000)

/-- The 16 bytes of an event entry (R364). -/
def eventBytes (s : State) (source index data : Nat) : List Byte :=
  leBytes 2 source ++ leBytes 2 index ++ leBytes 4 data ++ leBytes 4 s.tmu.tod.ns ++
  leBytes 2 s.tmu.tod.sec ++ leBytes 1 0 ++
  leBytes 1 (128 * (1 - s.rd RNG_EVIDX_WR / 2 ^ s.rd RNG_EVCFG_EVSIZE % 2) + 64 * bit s.rng.ovf)

/-- The address of the event ring's base. -/
def eventBase (s : State) : Nat :=
  s.rd RNG_EVBASE_HI_ADDR * 2 ^ 32 + s.rd RNG_EVBASE_LO_ADDR * 4096

/-- Bytes written where the ring of a side lies: management SRAM or host memory (R353). -/
def writeSide (s : State) (mgmt : Bool) (a : Nat) (bs : List Byte) : State :=
  if mgmt then { s with sram := Memory.write s.sram a bs } else { s with host := Memory.write s.host a bs }

/-- Bytes read from the memory of a side. -/
def readSide (s : State) (mgmt : Bool) (a n : Nat) : List Byte :=
  if mgmt then Memory.read s.sram a n else Memory.read s.host a n

/-- An event is posted (R364 to R367): written at WR and signalled on its vector, or lost. -/
def postEvent (s : State) (source index data vec : Nat) : State :=
  if !s.on RNG_EVCFG_EN || (!s.embedded && !s.hostReady) then s.eventLost
  else if (s.rd RNG_EVIDX_WR + 2 ^ 16 - s.rd RNG_EVIDX_RD) % 2 ^ 16 ≥ 2 ^ s.rd RNG_EVCFG_EVSIZE then s.eventLost
  else
    let a := s.eventBase + 16 * (s.rd RNG_EVIDX_WR % 2 ^ s.rd RNG_EVCFG_EVSIZE)
    let s1 := s.writeSide s.embedded a (s.eventBytes source index data)
    let s2 := { s1 with rng := { s1.rng with ovf := false } }
    let s3 := s2.wrap RNG_EVIDX_WR
    if s.embedded then { s3 with rng := { s3.rng with evIrq := wrapAdd 32 s3.rng.evIrq 1 } } else s3.sendMsix vec

/-- Interrupt source `src` is raised (R366): HEN posts an event, MEN sets its bit of RNG_MSRC. -/
def irq (s : State) (src index data : Nat) : State :=
  let s1 := if s.on RNG_SRCMAP_MEN src then s.putBit RNG_MSRC_BITS (src % 32) true (src / 32) else s
  if s.on RNG_SRCMAP_HEN src then s1.postEvent (0x100 + src) index data (s.rd RNG_SRCMAP_VEC src) else s1

end State

end Sys2Proof.Machine
end

