-- ==== Sys2Proof/Machine/Descriptors.lean ====
section
/-! DEFINITION. Descriptors and their completion (R352 to R356, R359, R362): what every block does that ends a descriptor of a ring. -/

namespace Sys2Proof.Machine

/-- STATUS of a descriptor (R359). -/
inductive DescStatus where
  | ok | tooBig | badDesc | perm | noCtx | notOpen | busErr | abort | dropped | svcHalt
  deriving DecidableEq, Repr

/-- The numbers of the codes. -/
def DescStatus.code : DescStatus → Nat
  | .ok => 0 | .tooBig => 1 | .badDesc => 2 | .perm => 3 | .noCtx => 4 | .notOpen => 5 | .busErr => 6 | .abort => 7
  | .dropped => 8 | .svcHalt => 9

/-- Why a ring stopped (RNG_RSTAT.ERR). -/
inductive RingErr where
  | fetch | wback | notOwn | link
  deriving DecidableEq, Repr

/-- The numbers of the codes. -/
def RingErr.code : RingErr → Nat
  | .fetch => 1 | .wback => 2 | .notOwn => 3 | .link => 4

/-- Ring states and types (R352, R355). -/
def ringDisabled : Nat := 0
def ringRunning : Nat := 1
def ringStopped : Nat := 2
def ringDraining : Nat := 3
def ringTx : Nat := 1
def ringRx : Nat := 2
def ringSvc : Nat := 3
def ringDma : Nat := 4

/-- The little-endian value of `n` bytes at offset `o` of a descriptor. -/
def Desc.le (d : Desc) (o n : Nat) : Nat := ofLe ((d.bytes.drop o).take n)

/-- Bytes `a` to `b` of a descriptor are 0. -/
def Desc.zero (d : Desc) (a b : Nat) : Bool := ((d.bytes.drop a).take (b + 1 - a)).all (· == 0)

/-- A descriptor runs: started, and neither written back nor failed in its write-back. -/
def Desc.runs (d : Desc) : Bool := d.started && !d.written && !d.failed

/-- What became of an attempt to take a descriptor's buffer or write it back; `noError`, a bus error on the buffer, one on the write-back. -/
inductive BusError where
  | noError | buffer | writeBack
  deriving DecidableEq, Repr

namespace State

/-- A counter of RNG_CNT advances. -/
def rngCount (s : State) (i : Nat) : State := s.sat RNG_CNT_COUNT i

/-- A refused write or doorbell is flagged. -/
def rngReject (s : State) : State := s.wr RNG_STAT_CFGREJ 1

/-! Rings (R352 to R356). -/

/-- A ring lies on the management side (R353, R354). -/
def ringMgmt (s : State) (r : Nat) : Bool := s.on RNG_RCFG_SIDE r || s.embedded

/-- The hub may issue the requests of a ring (R351). -/
def ringReady (s : State) (r : Nat) : Bool := s.ringMgmt r || s.hostReady

/-- The number of descriptors of a ring. -/
def descCount (s : State) (r : Nat) : Nat := 2 ^ s.rd RNG_RCFG_SIZE r

/-- The address of a descriptor (R355). -/
def descAddr (s : State) (r i : Nat) : Nat :=
  s.rd RNG_RBASE_HI_ADDR r * 2 ^ 32 + s.rd RNG_RBASE_LO_ADDR r * 4096 + 32 * (i % s.descCount r)

/-- The descriptors fetched of a ring. -/
def fetched (s : State) (r : Nat) : List Desc := Tab.get s.rng.fetched r []

/-- The fetched descriptors replaced, and their number not written back shown. -/
def setFetched (s : State) (r : Nat) (l : List Desc) : State :=
  { (s.wr RNG_RSTAT_OUTST (l.filter (fun d => !d.written)).length r) with rng := { s.rng with fetched := Tab.put s.rng.fetched r l [] } }

/-- The oldest fetched descriptor whose execution has not begun. -/
def nextDesc (s : State) (r : Nat) : Option Desc := (s.fetched r).find? (fun d => !d.started && !d.written)

/-- A descriptor's execution begins. -/
def startDesc (s : State) (r idx : Nat) : State :=
  s.setFetched r ((s.fetched r).map (fun d => if d.idx == idx then { d with started := true } else d))

/-- A ring event on its side: the management interrupt bit, or an event and its MSI-X message (R364, R367). -/
def ringEvent (s : State) (r source data : Nat) : State :=
  if s.ringMgmt r then s.putBit RNG_MIRQ_BITS (r % 32) true (r / 32)
  else s.postEvent (source + r) (s.rd RNG_RIDX_CI r) data (s.rd RNG_RCFG_VEC r)

/-- A ring stops with an error (R356). -/
def stopRing (s : State) (r : Nat) (e : RingErr) : State :=
  (((s.wr RNG_RSTAT_STATE ringStopped r).wr RNG_RSTAT_ERR e.code r)).ringEvent r 0x80 e.code

/-- CI moves over the leading run of completed descriptors (R355, R362). -/
def advanceCi (s : State) (r : Nat) : State :=
  let l := s.fetched r
  let done := (l.takeWhile (·.written)).length
  (s.wr RNG_RIDX_CI (s.rd RNG_RIDX_CI r + done) r).setFetched r (l.drop done)

/-- A descriptor is written back: bytes 8–29, STATUS, then OWN = 0 (R359); with IRQ a completion event. -/
def writeBack (s : State) (r : Nat) (d : Desc) (wb : List Byte) (status : Nat) : State :=
  let irq := (d.bytes.getD 31 0).toNat.testBit 6
  let a := s.descAddr r d.idx
  let s1 := (s.writeSide (s.ringMgmt r) (a + 8) (wb.take 22 ++ beBytes 1 status)).writeSide (s.ringMgmt r) (a + 31) (beBytes 1 (64 * bit irq))
  let s2 := s1.setFetched r ((s1.fetched r).map (fun x => if x.idx == d.idx then { x with started := true, written := true } else x))
  let s3 := s2.advanceCi r
  if irq then s3.ringEvent r 0 (d.idx % s.descCount r) else s3

/-- A fetched descriptor of a ring completes; its write-back waits while the hub may issue no requests (R351), and a bus error on it stops the ring (R356). -/
def ringDone (s : State) (r idx : Nat) (wb : List Byte) (status : Nat) (err : Bool) : State :=
  match (s.fetched r).find? (fun d => d.idx == idx && !d.written && !d.failed) with
  | none => s
  | some d =>
    if !s.ringReady r then { s with rng := { s.rng with late := s.rng.late ++ [(r, idx, wb, status)] } }
    else if err then
      ((s.setFetched r ((s.fetched r).map (fun x => if x.idx == idx then { x with started := true, failed := true } else x))).rngCount 2).stopRing r .wback
    else s.writeBack r d wb status

/-- The descriptor's own bytes 8–29, for a write-back that changes none of them. -/
def ownBytes (d : Desc) : List Byte := (d.bytes.drop 8).take 22

/-- A descriptor completes with a status, its other bytes unchanged. -/
def descFails (s : State) (r : Nat) (d : Desc) (c : DescStatus) : State :=
  (s.when (c = .badDesc) (·.rngCount 5)).when (c = .busErr) (·.rngCount 2) |>.ringDone r d.idx (ownBytes d) c.code false

/-- Write-backs that waited take place (R351). -/
def flushLate (s : State) : State :=
  let l := s.rng.late
  ({ s with rng := { s.rng with late := [] } }).each l (fun s x => s.ringDone x.1 x.2.1 x.2.2.1 x.2.2.2 false)

end State

end Sys2Proof.Machine
end

