-- ==== Sys2Proof/Machine/Channels.lean ====
section
/-! DEFINITION. DMA channels and the bridge where other blocks act on them: disabling a channel (R394, R397), losing a memory service, and the bridge on entry to HUSH or the elytra state (R385). -/

namespace Sys2Proof.Machine

/-- States of a DMA channel (R391). -/
def dmaOff : Nat := 0
def dmaIdle : Nat := 1
def dmaWait : Nat := 2
def dmaActive : Nat := 3
def dmaHalted : Nat := 4

namespace State

/-- A descriptor that a channel holds is written back ABORT (R394). -/
def dmaAbort (s : State) : Option (Nat × Nat) → State
  | none => s
  | some (r, idx) =>
    match (s.fetched r).find? (fun d => d.idx == idx && !d.written) with
    | none => s
    | some d => s.ringDone r idx (ownBytes d) DescStatus.abort.code false

/-- EN of channel `n` goes to 0 (R394): everything in it is dropped; DONE, FADDR and FINFO are undefined. -/
def dmaDisable (s : State) (n : Nat) : State :=
  if !s.on DMC_CTRL_EN n then s
  else
    let s1 := (((s.dmaAbort (Tab.get s.dma.cur n none)).dmaAbort (Tab.get s.dma.next n none)).wr DMC_CTRL_EN 0 n).wr DMC_STAT_STATE dmaOff n
    let s2 := (((s1.wrFree DMC_DONE_BYTES n).wrFree DMC_FADDR_LO_ADDR n).wrFree DMC_FADDR_HI_ADDR n).wr DMS_SHCTRL_VALID 0 n
    let s3 := (((s2.wrFree DMC_FINFO_DIR n).wrFree DMC_FINFO_SIDE n).wrFree DMC_FINFO_SPACE n).wrFree DMC_FINFO_CAUSE n
    { s3 with dma := { s3.dma with cur := Tab.put s3.dma.cur n none none, next := Tab.put s3.dma.next n none none } }

/-- Every DMA channel is disabled (R397). -/
def dmaHalt (s : State) : State := s.each (List.range 32) dmaDisable

/-- What memory service entry `e` holds is lost; the bridge still holds its reads until RDTO, under no tag that an answer could name. -/
def memLose (s : State) (e : Nat) : State :=
  let held := ((Tab.get s.brg.reads e []).filter (fun m => m.read.isSome)).map (fun m => { m with tag := 32 })
  { s with brg := { s.brg with
    reads := Tab.put s.brg.reads e held [], mseq := Tab.put s.brg.mseq e 0 0, unack := Tab.put s.brg.unack e [] [],
    tries := Tab.put s.brg.tries e 0 0, next := Tab.put s.brg.next e none none, held := Tab.put s.brg.held e [] [],
    toAck := Tab.put s.brg.toAck e 0 0, heardAt := Tab.put s.brg.heardAt e 0 0,
    kept := s.brg.kept.filter (fun x => x.1 / 32 != e) } }

/-- A held read completes, with data or with Completer Abort (R374). -/
def readDone (s : State) (id : Nat) (data : Option (List Byte)) : State :=
  { (s.disarm (.heldRead id)) with brg := { s.brg with done := (id, data) :: s.brg.done } }

/-- The held reads of entry `e`, waiting or sent. -/
def heldReads (s : State) (e : Nat) : List HeldRead :=
  ((Tab.get s.brg.reads e []) ++ (Tab.get s.brg.wait e [])).filterMap (·.read)

/-- The bridge on entry to HUSH or the elytra state (R385): every held read completes with Completer Abort. -/
def brgHalt (s : State) : State :=
  let s1 := s.each (List.range 128) (fun s e => s.each (s.heldReads e) (fun s h => s.readDone h.id none))
  { s1 with brg := { s1.brg with
    reads := [],
    wait := s1.brg.wait.map (fun x => (x.1, x.2.filter (fun m => m.kind != 1))) |>.filter (fun x => !x.2.isEmpty) } }

end State

end Sys2Proof.Machine
end

