-- ==== Sys2Proof/Machine/Crc.lean ====
section
/-! DEFINITION. The check codes of the trunk link: CRC-16 of the header (R146), CRC-8 of control blocks (R152), CRC-32 of packets (R147). -/

namespace Sys2Proof.Machine

/-- One bit of a CRC that is sent most significant bit first: register width `w`, polynomial `poly`. -/
def crcBit (w poly crc : Nat) (b : Bool) : Nat :=
  let top := crc.testBit (w - 1) != b
  let sh := (crc * 2) % 2 ^ w
  if top then sh ^^^ poly else sh

/-- One byte, most significant bit first. -/
def crcByte (w poly crc : Nat) (x : Byte) : Nat :=
  [7, 6, 5, 4, 3, 2, 1, 0].foldl (fun c i => crcBit w poly c (x.toNat.testBit i)) crc

/-- CRC-16 of R146: polynomial 0x1021, initial value 0xFFFF, no final inversion. -/
def crc16 (bs : List Byte) : Nat := bs.foldl (crcByte 16 0x1021) 0xFFFF

/-- CRC-8 of R152: polynomial x^8 + x^2 + x + 1, initial value 0. -/
def crc8 (bs : List Byte) : Nat := bs.foldl (crcByte 8 0x07) 0

/-- One bit of the IEEE 802.3 frame check sequence in its reflected form. -/
def fcsBit (crc : Nat) : Nat :=
  if crc.testBit 0 then (crc / 2) ^^^ 0xEDB88320 else crc / 2

/-- One byte of the frame check sequence. -/
def fcsByte (crc : Nat) (x : Byte) : Nat :=
  fcsBit (fcsBit (fcsBit (fcsBit (fcsBit (fcsBit (fcsBit (fcsBit (crc ^^^ x.toNat))))))))

/-- CRC-32 of R147, computed as the IEEE 802.3 frame check sequence. -/
def crc32 (bs : List Byte) : Nat := (bs.foldl fcsByte 0xFFFFFFFF) ^^^ 0xFFFFFFFF

/-- The four bytes of a CRC-32 in the order in which they are sent. -/
def fcsBytes (c : Nat) : List Byte := leBytes 4 c

end Sys2Proof.Machine
end

