-- ==== Sys2Proof/Machine/Header.lean ====
section
/-! DEFINITION. The KL3 header (R145, R146), the endpoint address (R53 to R55) and the KL2 header (R168). -/

namespace Sys2Proof.Machine

/-- Fields of an endpoint address (R53). -/
def stationOf (a : Nat) : Nat := bitsOf a 24 18
def ringOf (a : Nat) : Nat := bitsOf a 17 15
def chainOf (a : Nat) : Nat := bitsOf a 14 11
def hubOf (a : Nat) : Nat := bitsOf a 10 7
def adapterOf (a : Nat) : Nat := bitsOf a 6 3
def functionOf (a : Nat) : Nat := bitsOf a 2 0

/-- The hub prefix of an address: its bits [24:7]. -/
def prefixOf (a : Nat) : Nat := bitsOf a 24 7

/-- An address with STATION = 0 or HUB = 0 is invalid (R54). -/
def addrValid (a : Nat) : Bool := stationOf a != 0 && hubOf a != 0

/-- An adapter and function that R58 lists. -/
def functionExists (l : Nat) : Bool :=
  let f := l % 8
  match l / 8 % 16 with
  | 0 => f ≤ 2
  | 1 => f ≤ 4
  | 2 => f ≤ 4
  | 3 => f ≤ 5
  | 4 => f ≤ 1
  | 5 => true
  | 6 => f ≤ 1
  | _ => f == 0

/-- Bytes 0–17 of the KL3 header (R145), with SEALED given. -/
def headerBytes (p : Packet) (isSealed : Bool) : List Byte :=
  beBytes 1 (0xC0 + p.cls % 8 * 8 + bit isSealed * 4 + bit p.dup * 2 + bit p.ts) ++
  beBytes 1 p.tunid ++
  beBytes 10 (((p.dest % 2 ^ 25 * 2 ^ 25 + p.src % 2 ^ 25) * 2 ^ 16 + p.seq % 2 ^ 16) * 2 ^ 14 + p.payload.length % 2 ^ 14) ++
  beBytes 6 p.corr

/-- The 20-byte header with its CRC-16 (R146). -/
def headerWire (p : Packet) (isSealed : Bool) : List Byte :=
  headerBytes p isSealed ++ beBytes 2 (crc16 (headerBytes p isSealed))

/-- What the header of a received packet says: VER, SEALED and LEN beside the packet's fields (the payload still empty). -/
structure HeaderIn where
  ver : Nat
  isSealed : Bool
  len : Nat
  hcrcOk : Bool
  pkt : Packet
  deriving DecidableEq, Repr

/-- The header read from the first 20 bytes of a packet (R145). -/
def parseHeader (bs : List Byte) : HeaderIn :=
  let b0 := ofBe (bs.take 1)
  let v := ofBe ((bs.drop 2).take 10)
  { ver := bitsOf b0 7 6, isSealed := b0.testBit 2, len := bitsOf v 13 0,
    hcrcOk := crc16 (bs.take 18) == ofBe ((bs.drop 18).take 2),
    pkt := { cls := bitsOf b0 5 3, dup := b0.testBit 1, ts := b0.testBit 0,
             tunid := ofBe ((bs.drop 1).take 1), dest := bitsOf v 79 55, src := bitsOf v 54 30,
             seq := bitsOf v 29 14, corr := ofBe ((bs.drop 12).take 6) } }

/-- The cells, and the credits, of a packet (R151, R195). -/
def costOf (len : Nat) : Nat := (20 + len + 127) / 128

/-- The bits of a packet's class that are seamless (R60). -/
def seamlessClass (c : Nat) : Bool := c ≥ 6

end Sys2Proof.Machine
end

