-- ==== Sys2Proof/Machine/Switch.lean ====
section
/-! DEFINITION. The shared buffer (R194 to R209, R215): accounts and limits, admission, linking, release, mirroring, and the flush on entry to a halted state. -/

namespace Sys2Proof.Machine

/-- Egress queue of class `c` of port `p` (R194). -/
def queueOf (p c : Nat) : Nat := 8 * p + c

/-- The queues that may own a reserve (R198). -/
def reserveQueues : List Nat := (List.range 184).filter (fun q => q % 8 ≥ 6)

namespace State

/-- Free cells (R198). -/
def freeCells (s : State) : Nat := s.rd XSW_POOL_CELLS

/-- Free cells of the shared pool, never below 0 (R198). -/
def sharedFree (s : State) : Nat :=
  s.freeCells - (reserveQueues.foldl (fun a q => a + (s.rd XSW_QRSV_RSV q - s.rd XSW_QOCC_CELLS q)) 0)

/-- The copies of a queue, head first. -/
def queue (s : State) (q : Nat) : List Copy := Tab.get s.xsw.queues q []

/-- A queue's copies replaced. -/
def setQueue (s : State) (q : Nat) (l : List Copy) : State :=
  { s with xsw := { s.xsw with queues := Tab.put s.xsw.queues q l [] } }

/-- The copy that port `p` is transmitting. -/
def sending (s : State) (p : Nat) : Option Copy := (Tab.get s.xsw.sending p []).head?

/-- The copy that port `p` transmits replaced. -/
def setSending (s : State) (p : Nat) (c : Option Copy) : State :=
  { s with xsw := { s.xsw with sending := Tab.put s.xsw.sending p c.toList [] } }

/-- The bytes that port `p` sends. -/
def setWire (s : State) (p : Nat) (bs : List Byte) : State :=
  { s with xsw := { s.xsw with wire := Tab.put s.xsw.wire p bs [] } }

/-- Admission is restricted to trunk-to-trunk traffic (R209). -/
def restricted (s : State) : Bool := s.on XSW_STAT_HALTED

/-- INFLIGHT of an origin slot set, and shown saturated in context word 6. -/
def setInflight (s : State) (n v : Nat) : State :=
  { (s.wr CTX6_INFLIGHT (min v 65535) n) with
    fab := { s.fab with inflight := Tab.put s.fab.inflight n v 0 } }

/-- The copies of packet `k` fall by one; at the last, the ingress account is released (R202) and the origin slot's INFLIGHT falls. -/
def dropPkt (s : State) (k : Nat) : State :=
  let i := Tab.get s.xsw.pkts k {}
  if i.left = 0 then s
  else if i.left = 1 then
    let s1 := { s with xsw := { s.xsw with pkts := Tab.put s.xsw.pkts k {} {} } }
    let a := 8 * i.iport + i.cls
    let s2 := s1.wr XSW_IOCC_CELLS (s1.rd XSW_IOCC_CELLS a - i.cost) a
    if i.slot = 0 then s2 else s2.setInflight i.slot (Tab.get s2.fab.inflight i.slot 0 - 1)
  else { s with xsw := { s.xsw with pkts := Tab.put s.xsw.pkts k { i with left := i.left - 1 } {} } }

/-- A copy's cells return to the free list (R202): queue occupancy, pool, and its packet's accounts. -/
def releaseCopy (s : State) (c : Copy) : State :=
  let q := queueOf c.eport c.hdr.cls
  let s1 := s.wr XSW_QOCC_CELLS (s.rd XSW_QOCC_CELLS q - c.cost) q
  let s2 := s1.wr XSW_POOL_CELLS (s1.freeCells + c.cost)
  if c.pkt = 0 then s2 else s2.dropPkt c.pkt

/-- A copy is linked to the tail of its egress queue (R196). -/
def linkCopy (s : State) (c : Copy) : State :=
  let q := queueOf c.eport c.hdr.cls
  s.setQueue q (s.queue q ++ [{ c with linkAt := s.tmu.elapsed }])

/-- R209 admits a copy only from a trunk to another trunk. -/
def haltAllows (c : Copy) : Bool := c.iport < 4 && c.eport < 4 && c.iport != c.eport

/-- The lowest-numbered mirror rule that matches a copy (R215). -/
def mirrorRule (s : State) (c : Copy) (refused : Bool) : Option Nat :=
  (List.range 8).find? (fun k =>
    s.on XSW_MIR_EN k &&
    (s.rd XSW_MIR_PORT k == if s.on XSW_MIR_DIR k then c.eport else c.iport) &&
    s.bitAt XSW_MIR_CLASSMASK c.hdr.cls k && (!refused || s.on XSW_MIR_DROPS k))

/-- The 96 bytes of a capture record (R216). -/
def recordBytes (s : State) (c : Copy) (rule qdepth reason : Nat) : List Byte :=
  let stored := headerWire c.hdr false ++ c.hdr.payload
  let pkt := stored.take 64
  pkt ++ List.replicate (64 - pkt.length) 0 ++
  leBytes 4 c.rx.ns ++ leBytes 2 c.rx.frac16 ++ leBytes 6 c.rx.sec ++
  leBytes 1 (c.hdr.cls * 32 + c.iport) ++
  leBytes 1 (bit (reason != 0) * 128 + bit c.ct * 64 + bit (!c.traced) * 32 + c.eport) ++
  leBytes 2 (20 + c.hdr.payload.length) ++ leBytes 4 qdepth ++ leBytes 1 reason ++ leBytes 1 rule ++
  leBytes 2 s.xsw.rseq ++ List.replicate 8 0

/-- The cells that a copy of class `c` and cost `k` takes from the reserve of queue `q` (R199). -/
def fromReserve (s : State) (q c k : Nat) : Nat :=
  if c ≥ 6 then min k (s.rd XSW_QRSV_RSV q - s.rd XSW_QOCC_CELLS q) else 0

/-- Queue `q` takes `k` cells. -/
def takeCells (s : State) (q k : Nat) : State :=
  (s.wr XSW_QOCC_CELLS (s.rd XSW_QOCC_CELLS q + k) q).wr XSW_POOL_CELLS (s.freeCells - k)

/-- The pool test of R199: too few shared cells, or more than FREE holds. -/
def poolShort (s : State) (q c k : Nat) : Bool :=
  s.sharedFree < k - s.fromReserve q c k || s.freeCells < k

/-- A copy is recorded under the lowest matching mirror rule (R215): a one-cell record joins the P22 queue of its class, or is refused and counted in CAPDROP. -/
def mirror (s : State) (c : Copy) (qdepth reason : Nat) : State :=
  match s.mirrorRule c (reason != 0) with
  | none => s
  | some k =>
    let q := queueOf 22 c.hdr.cls
    if s.rd XSW_QOCC_CELLS q + 1 > s.rd XSW_QLIM_LIMIT q || s.poolShort q c.hdr.cls 1 then s.sat XSW_CNT_COUNT 8
    else
      let s1 := (s.takeCells q 1).linkCopy
        { hdr := { cls := c.hdr.cls }, iport := c.iport, eport := 22, cost := 1,
          record := s.recordBytes c k qdepth reason }
      { s1 with xsw := { s1.xsw with rseq := wrapAdd 16 s1.xsw.rseq 1 } }

/-- The judgement of one copy by R199: its refusal reason (2 ELIM, 3 NOPOOL, 4 HALT), or 0 when its cells are taken. -/
def admitCopy (s : State) (c : Copy) : State × Nat :=
  let q := queueOf c.eport c.hdr.cls
  if s.restricted && !haltAllows c then (s.sat XSW_CNT_COUNT 4, 4)
  else if s.rd XSW_QOCC_CELLS q + c.cost > s.rd XSW_QLIM_LIMIT q then
    ((s.sat XSW_CNT_COUNT 1).sat XSW_QDROP_COUNT q, 2)
  else if s.poolShort q c.hdr.cls c.cost then
    ((s.sat XSW_CNT_COUNT 2).sat XSW_QDROP_COUNT q, 3)
  else (s.takeCells q c.cost, 0)

/-- The copies in ascending order of egress port (R199). -/
def byPort (l : List Copy) : List Copy :=
  (List.range 24).flatMap (fun p => l.filter (fun c => c.eport == p))

/-- What admission answers: the ingress limit holds the port, or the copies with the depth of their queue before them and their refusal reason. -/
inductive Admission where
  | hold
  | judged (l : List (Copy × Nat × Nat))
  deriving DecidableEq, Repr

/-- Every copy judged in turn. -/
def admitAll (s : State) : List Copy → State × List (Copy × Nat × Nat)
  | [] => (s, [])
  | c :: cs =>
    let d := s.rd XSW_QOCC_CELLS (queueOf c.eport c.hdr.cls)
    let (s1, r) := s.admitCopy c
    let (s2, l) := admitAll s1 cs
    (s2, (c, d, r) :: l)

/-- Stage 4 (R199): the copies of one packet of cost `k` from ingress port `i`; `n` copies before the restriction of R209. The packet's number is `s.xsw.next`. -/
def admitPacket (s : State) (copies : List Copy) : State × Admission :=
  match copies with
  | [] => (s, .judged [])
  | c0 :: _ =>
    let i := c0.iport
    let a := 8 * i + c0.hdr.cls
    let ordered := byPort (copies.map (fun c => { c with pkt := s.xsw.next }))
    let allowed := ordered.filter (fun c => !s.restricted || haltAllows c)
    let barred := ordered.filter (fun c => s.restricted && !haltAllows c)
    let s0 := s.each barred (fun s _ => s.sat XSW_CNT_COUNT 4)
    let barredOut := barred.map (fun c => (c, s.rd XSW_QOCC_CELLS (queueOf c.eport c.hdr.cls), 4))
    if allowed.isEmpty then (s0, .judged barredOut)
    else if s0.rd XSW_IOCC_CELLS a + c0.cost > s0.rd XSW_ILIM_LIMIT a then
      if 12 ≤ i && i ≤ 21 then (s, .hold)
      else (s0.sat XSW_CNT_COUNT 0,
            .judged (barredOut ++ allowed.map (fun c => (c, s.rd XSW_QOCC_CELLS (queueOf c.eport c.hdr.cls), 1))))
    else
      let (s1, l) := s0.admitAll allowed
      let admitted := (l.filter (fun x => x.2.2 == 0)).length
      if admitted = 0 then (s1, .judged (barredOut ++ l))
      else
        let s2 := s1.wr XSW_IOCC_CELLS (s1.rd XSW_IOCC_CELLS a + c0.cost) a
        let s3 := if admitted < ordered.length then s2.sat XSW_CNT_COUNT 3 else s2
        let s4 := { s3 with xsw := { s3.xsw with
          next := s3.xsw.next + 1,
          pkts := Tab.put s3.xsw.pkts s.xsw.next
            { iport := i, cls := c0.hdr.cls, cost := c0.cost, left := admitted, slot := c0.slot } {} } }
        let s5 := if c0.slot = 0 then s4 else s4.setInflight c0.slot (Tab.get s4.fab.inflight c0.slot 0 + 1)
        (s5, .judged (barredOut ++ l))

/-- Every copy judged is offered to the mirror rules (R215). -/
def mirrorAll (s : State) (l : List (Copy × Nat × Nat)) : State :=
  s.each l (fun s x => s.mirror x.1 x.2.1 x.2.2)

/-- The copies that were admitted. -/
def admitted (l : List (Copy × Nat × Nat)) : List Copy :=
  (l.filter (fun x => x.2.2 == 0)).map (·.1)

/-- Admission of store-and-forward copies whose packet is whole: admitted copies are linked at once (R196). -/
def admitWhole (s : State) (copies : List Copy) : State × Admission :=
  match s.admitPacket copies with
  | (_, .hold) => (s, .hold)
  | (s1, .judged l) => (((s1.mirrorAll l).each (admitted l) linkCopy), .judged l)

/-- Queued copies of queue `q` that fail `keep` are discarded and counted in counter `i` of XSW_CNT. -/
def flushQueue (s : State) (keep : Copy → Bool) (i q : Nat) : State :=
  let l := s.queue q
  let out := l.filter (fun c => !keep c)
  (s.setQueue q (l.filter keep)).each out (fun s c => (s.releaseCopy c).sat XSW_CNT_COUNT i)

/-- The flush on entry to HUSH or the elytra state (R209): every queued copy that would not be admitted now is discarded and counted in HALT. Capture records stay (log entry 12). -/
def haltFlush (s : State) : State :=
  (s.wr XSW_STAT_HALTED 1).each (List.range 176) (fun s q => s.flushQueue haltAllows 4 q)

/-- Admission is no longer restricted (R209, R512). -/
def haltLift (s : State) : State := s.wr XSW_STAT_HALTED 0

end State

end Sys2Proof.Machine
end

