-- ==== Sys2Proof/Machine/Halt.lean ====
section
/-! DEFINITION. What the blocks do on entry to a halted state, HUSH or the elytra state (R209, R250, R292, R319, R385, R397, R511). -/

namespace Sys2Proof.Machine

/-- Mailbox result codes set by the engine or the hub (R255). -/
inductive MbxCode where
  | ok | badOp | badSvc | badParam | busy | timeout | halted
  deriving DecidableEq, Repr

/-- The numbers of the codes. -/
def MbxCode.code : MbxCode → Nat
  | .ok => 0 | .badOp => 1 | .badSvc => 2 | .badParam => 3 | .busy => 4 | .timeout => 5 | .halted => 6

namespace State

/-! Engines (R247, R250, R255). -/

/-- The control word of a mailbox as it reads. -/
def mbxCtrl (s : State) (n m : Nat) : Nat :=
  s.rd ENG_MBX_BUSY n m * 2 ^ 30 + s.rd ENG_MBX_DONE n m * 2 ^ 29 + s.rd ENG_MBX_OPCODE n m * 2 ^ 16 +
    s.rd ENG_MBX_CODE n m * 2 ^ 8 + s.rd ENG_MBX_SVC n m

/-- A mailbox request ends with a code (R255); MBX1 raises interrupt source 29 (R366). -/
def mbxEnd (s : State) (n m : Nat) (c : MbxCode) : State :=
  let s1 := (((s.disarm (.mailbox n m)).wr ENG_MBX_BUSY 0 n m).wr ENG_MBX_DONE 1 n m).wr ENG_MBX_CODE c.code n m
  if m = 1 then s1.irq 29 n (s1.mbxCtrl n 1) else s1

/-- An outstanding request of a mailbox ends because the engine is not RUN. -/
def mbxHalt (s : State) (n : Nat) : State :=
  s.each [0, 1] (fun s m => if s.on ENG_MBX_BUSY n m then s.mbxEnd n m .halted else s)

/-- Every enabled entry of engine `n` in one of some states moves to another. -/
def moveEntries (s : State) (n : Nat) (fr : List Nat) (goal : Nat) : State :=
  s.each (List.range 128) (fun s e =>
    if s.on TEN_SVC0_EN e && s.svcEngine e == n && fr.contains (s.rd TEN_SVC0_STATE e) then s.wr TEN_SVC0_STATE goal e else s)

/-- The edges that entry `e` has recorded and not sent are lost, and its samples (R247, R256, R257). -/
def loseEdges (s : State) (e : Nat) : State :=
  { s with
    ten := { s.ten with edges := Tab.put s.ten.edges e [] [], evSeq := Tab.put s.ten.evSeq e 0 0, samples := Tab.put s.ten.samples e [] [] },
    gpio := { s.gpio with queue := s.gpio.queue.map (fun x => { x with entries := x.entries.filter (fun i => i != e) }) } }

/-- A NEAR port whose engine has halted answers no complete-split until the port is disconnected (R311). -/
def deadPort (s : State) (e : Nat) : State :=
  let n := s.param e 1 1
  if s.rd TEN_SVC0_TYPE e ≠ tyUsb || s.param e 0 1 ≠ 0 then s
  else { s with usb := { s.usb with near := Tab.put s.usb.near n { Tab.get s.usb.near n {} with dead := true } {} } }

/-- The commands of a block entry are lost, at either end, with the completions that a target holds (R247, R344). -/
def loseBlock (s : State) (e : Nat) : State :=
  { s with sto := { s.sto with
    reqs := Tab.put s.sto.reqs e [] [], quar := Tab.put s.sto.quar e [] [], cmds := Tab.put s.sto.cmds e [] [],
    held := Tab.put s.sto.held e [] [] } }

/-- What the services of engine `n` hold in the engine's private memory is lost (R247). -/
def loseServices (s : State) (n : Nat) : State :=
  s.each ((List.range 128).filter (fun e => s.on TEN_SVC0_EN e && s.svcEngine e == n)) (fun s e =>
    let s1 := (((s.memLose e).loseEdges e).deadPort e).loseBlock e
    { s1 with
      ten := { s1.ten with cur := Tab.put s1.ten.cur e [] [] },
      dsp := { s1.dsp with hold := Tab.put s1.dsp.hold e [] [], acks := Tab.put s1.dsp.acks e [] [] },
      ser := { s1.ser with seq := Tab.put s1.ser.seq e none none, held := Tab.put s1.ser.held e [] [] } })

/-- What an engine holds is lost (R247): inbound packets, and payloads that it has not passed on. -/
def loseEngine (s : State) (n : Nat) : State :=
  let k := n / 4
  { s with ten := { s.ten with
    inbox := Tab.put s.ten.inbox n [] [],
    outbox := Tab.put s.ten.outbox k ((Tab.get s.ten.outbox k []).filter (fun x => s.svcEngine x.1 != n)) [],
    late := Tab.put (Tab.put s.ten.late (2 * n) 0 0) (2 * n + 1) 0 0 } }.loseServices n

/-- An engine leaves START or RUN: mailboxes end, every entry of the engine is HALTED, its private state is lost (R247, R248). -/
def stopEngine (s : State) (n st : Nat) : State :=
  let s1 := (((s.disarm (.engineStart n)).disarm (.engineHalt n)).wr ENG_STAT_STATE st n).mbxHalt n
  let s2 := { s1 with ten := { s1.ten with
    paused := Tab.put s1.ten.paused n false false, stopAt := Tab.put s1.ten.stopAt n s1.tmu.elapsed 0 } }
  (s2.moveEntries n [svcBound, svcActive, svcQuiesced, svcError] svcHalted).loseEngine n

/-- The engines on entry to a halted state (R250): halted without a fault. -/
def haltEngines (s : State) : State :=
  s.each (List.range 16) (fun s n =>
    if s.rd ENG_STAT_STATE n = engStart || s.rd ENG_STAT_STATE n = engRun then
      let s1 := s.stopEngine n engHalted
      { s1 with ten := { s1.ten with paused := Tab.put s1.ten.paused n true false } }
    else s)

/-! Display (R292). -/

/-- Pending commits are discarded. -/
def discardCommits (s : State) : State :=
  let s1 := { s with dsp := { s.dsp with soft := [], svc := [] } }
  s1.each [0, 1] (fun s h => (s.each (List.range 4) (fun s l => (s.wr LY_STAT_PEND 0 h l).wr LY_STAT_TPEND 0 h l)).wr HD_COMMIT_BGPEND 0 h)

/-- The heads stop in HUSH (R292): no transfer goes on, and the DisplayPort main link is off; the registers keep their values. -/
def displayOff (s : State) : State := { s with dsp := { s.dsp with xfer := [], dpOn := false } }

/-! USB ports (R319, R462). -/

/-- HSW_EFSTAT.ON of port `n` (1–4). -/
def efuseOn (n : Nat) : Field := match n with
  | 1 => HSW_EFSTAT_ON0 | 2 => HSW_EFSTAT_ON1 | 3 => HSW_EFSTAT_ON2 | _ => HSW_EFSTAT_ON3

/-- The USB block commands eFuse `n` on or off (R462): a tripped one stays off until it is commanded off. -/
def efuse (s : State) (n : Nat) (on : Bool) : State :=
  if on then (if Tab.get s.hsw.tripped n false then s else s.wr (efuseOn n) 1)
  else { (s.wr (efuseOn n) 0) with hsw := { s.hsw with tripped := Tab.put s.hsw.tripped n false false } }

/-- A port shows no device. -/
def portEmpty (s : State) (n : Nat) : State :=
  let i := n - 1
  let s1 := (((s.wr USB_PORT_CONN 0 i).wr USB_PORT_ENA 0 i).wr USB_PORT_SUSP 0 i).wr USB_PORT_SPEED 3 i
  { s1 with usb := { s1.usb with resetting := Tab.put s1.usb.resetting n false false, resuming := Tab.put s1.usb.resuming n 0 0 } }

/-- Port `n` (1–4) is unpowered: its eFuse is off and its state as at attach. -/
def portOff (s : State) (n : Nat) : State :=
  let s1 := ((((s.portEmpty n).efuse n false).wr USB_PORT_PWR 0 (n - 1)).wr USB_PORT_OC 0 (n - 1))
  let nr := Tab.get s1.usb.near n {}
  let fr := Tab.get s1.usb.far n {}
  { s1 with usb := { s1.usb with
    change := Tab.put s1.usb.change n 0 0, near := Tab.put s1.usb.near n { epoch := nr.epoch, tag := nr.tag } {},
    far := Tab.put s1.usb.far n { epoch := fr.epoch, tag := fr.tag } {} } }

/-- FAR ports are unpowered in the elytra state (R319). -/
def farPortsOff (s : State) : State :=
  s.each [1, 2, 3, 4] (fun s n => if s.rd USB_PORT_MODE (n - 1) = 2 then s.portOff n else s)

/-! Power states (R490, R491). -/

/-- Result codes of PWR_STAT.CODE. -/
inductive PwrCode where
  | ok | refused | timeout | fault | wake | state | avsTo
  deriving DecidableEq, Repr

/-- The numbers of the codes. -/
def PwrCode.code : PwrCode → Nat
  | .ok => 0 | .refused => 1 | .timeout => 2 | .fault => 3 | .wake => 4 | .state => 5 | .avsTo => 6

/-- A handshake that runs is aborted (R490, R491). -/
def askAbort (s : State) (c : PwrCode) : State :=
  if s.pwr.ask = none then s
  else
    let s1 := ((s.wr PWR_STAT_BUSY 0).wr PWR_STAT_CODE c.code).wr PWR_STAT_REFEV 1
    { s1 with pwr := { s1.pwr with ask := none, waiting := [], fwDelay := false } }

/-- The blocks' part of entry to the elytra state (R491, R511). -/
def haltBlocks (s : State) : State := s.haltFlush.brgHalt.haltEngines.discardCommits.dmaHalt.farPortsOff.askAbort .fault

end State

end Sys2Proof.Machine
end

