-- ==== Sys2Proof/Machine/Faults.lean ====
section
/-! DEFINITION. The fault collector's reactions (R499 to R512): reporting an occurrence, level causes, escalation, and the elytra state. -/

namespace Sys2Proof.Machine

/-- The slots that R501 assigns. -/
def slotUsed (slot : Nat) : Bool := slot < 177 && slot != 15

/-- Sources that are levels (R501); the others are events. -/
def slotLevel (slot : Nat) : Bool :=
  [0, 1, 2, 4, 5, 6, 7, 8, 11, 17, 18, 19, 20, 27, 28, 29, 30, 31, 72, 73, 74, 75, 101, 102, 111].contains slot
  || (83 ≤ slot && slot ≤ 98) || (103 ≤ slot && slot ≤ 110)

/-- Causes of ENG_STAT.CAUSE. -/
inductive EngCause where
  | wdt | ecc | trap | startTo | noImg
  deriving DecidableEq, Repr

/-- The numbers of the causes. -/
def EngCause.code : EngCause → Nat
  | .wdt => 1 | .ecc => 2 | .trap => 3 | .startTo => 4 | .noImg => 5

namespace State

/-- The status bit of a source. -/
def fltStatus (s : State) (slot : Nat) : Bool := s.bitAt FLT_STATUS_BITS (slot % 32) (slot / 32)

/-- FORCE presents the cause of a source (R505). -/
def fltForced (s : State) (slot : Nat) : Bool :=
  s.on FLT_CTRL_FORCEEN && s.on FLT_CFG_FORCE slot

/-- The cause of a source is present (R501, R505). -/
def fltCause (s : State) (slot : Nat) : Bool :=
  Tab.get s.flt.cause slot false || s.fltForced slot

/-- The effective class of a source: that of its set status bit, or CLASS (R507, R508). -/
def fltClass (s : State) (slot : Nat) : Nat :=
  if s.fltStatus slot then Tab.get s.flt.eff slot (s.rd FLT_CFG_CLASS slot) else s.rd FLT_CFG_CLASS slot

/-- The collector is off in DORMANT and OFF (R509). -/
def collectorOff (s : State) : Bool := s.rd PWR_STAT_STATE ≥ 3

/-- Entry to the elytra state (R509): `eslot` is recorded; `sw` marks a software entry, `self` a collector self-fault; the collector of a hub in DORMANT or OFF enters nothing. -/
def enterElytra (s : State) (eslot : Nat) (sw self : Bool) : State :=
  if s.collectorOff then s
  else if s.on FLT_STAT_ELYTRA then s.when self (fun s => s.wr FLT_STAT_SELF 1)
  else
    let s1 := (((s.wr FLT_STAT_ELYTRA 1).wr FLT_STAT_ESLOT eslot).wr FLT_STAT_SWENTER (bit sw)).wr FLT_STAT_SELF (bit self)
    { s1 with flt := { s1.flt with faultN := true } }.haltBlocks

/-- A log entry (R500, R507). -/
def fltLog (s : State) (slot cls detail : Nat) (forced esc : Bool) : State :=
  let e := s.rd FLT_LOGWR_WR % 64
  let s1 := (((((s.wr FLT_LOG0_SLOT slot e).wr FLT_LOG0_CLASS cls e).wr FLT_LOG0_FORCED (bit forced) e).wr
    FLT_LOG0_ESC (bit esc) e).wr FLT_LOG0_DETAIL detail e)
  let s2 := ((s1.wr FLT_LOG1_NS s.tmu.tod.ns e).wr FLT_LOG2_SEC_LO s.tmu.tod.sec e).wr
    FLT_LOG3_SEC_HI (s.tmu.tod.sec / 2 ^ 32) e
  (s2.wr FLT_LOG3_UNTRACED (bit (!s.on TMU_STAT_TVALID)) e).wrap FLT_LOGWR_WR

/-- FLT_FIRST latches the first fault since it was cleared (R500). -/
def fltFirst (s : State) (slot cls : Nat) : State :=
  if s.on FLT_FIRST_VALID then s
  else ((((s.wr FLT_FIRST_VALID 1).wr FLT_FIRST_SLOT slot).wr FLT_FIRST_CLASS cls).wr
    FLT_FIRST_SECLO_SEC_LO s.tmu.tod.sec).wr FLT_FIRST_NS_NS s.tmu.tod.ns

/-- The escalation time of a source starts: 2^(ESCT − 1) ms, or none (R507). -/
def escArm (s : State) (slot : Nat) : State :=
  let k := s.rd FLT_CFG_ESCT slot
  if k = 0 then s.disarm (.escalate slot) else s.arm (.escalate slot) (2 ^ (k - 1) * 1000000)

/-- An occurrence of source `slot` (R500): status, detail, count, log, class counter, first fault; when the bit was 0 interrupt 28 and the start of the escalation time; and the elytra state when the class is FATAL. -/
def occur (s : State) (slot detail : Nat) (forced : Bool) : State :=
  if !slotUsed slot || !s.on FLT_CFG_EN slot || s.collectorOff then s
  else
    let was := s.fltStatus slot
    let cls := max (s.fltClass slot) (s.rd FLT_CFG_CLASS slot)
    let s1 := s.putBit FLT_STATUS_BITS (slot % 32) true (slot / 32)
    let s2 := { s1 with flt := { s1.flt with eff := Tab.put s1.flt.eff slot cls 0 } }
    let s3 := (s2.wr FLT_DET_DETAIL detail slot).sat FLT_DET_COUNT slot
    let s4 := ((s3.fltLog slot cls detail forced false).sat FLT_CNT_COUNT cls).fltFirst slot cls
    let s5 := if !was && s.on FLT_CFG_IRQ slot then s4.irq 28 slot cls else s4
    let s6 := if was || cls = 2 then s5 else s5.escArm slot
    if cls = 2 then s6.enterElytra slot false false else s6

/-- An event source reports an occurrence (R501). -/
def fault (s : State) (slot detail : Nat) : State := s.occur slot detail false

/-- A level source's cause appears (its occurrence) while it was not present. -/
def causeOn (s : State) (slot detail : Nat) : State :=
  if Tab.get s.flt.cause slot false then s
  else { s with flt := { s.flt with cause := Tab.put s.flt.cause slot true false } }.occur slot detail false

/-- A level source's cause ends. -/
def causeOff (s : State) (slot : Nat) : State :=
  { s with flt := { s.flt with cause := Tab.put s.flt.cause slot false false } }

/-! The start of an engine (R246 to R250), which ends its fault. -/

/-- An engine starts from its verified image, or stays as it is with cause NOIMG (R246, R247). -/
def startEngine (s : State) (n : Nat) : State :=
  let k := s.rd ENG_CTRL_IMAGE n
  let s1 := { s with ten := { s.ten with paused := Tab.put s.ten.paused n false false } }
  if s.on TEN_IMG_INFO_VERIFIED k then
    let s2 := ((s1.causeOff (83 + n)).wr ENG_STAT_STATE engStart n).arm (.engineStart n) 10000000
    { s2 with ten := { s2.ten with img := Tab.put s2.ten.img n k 0 } }
  else s1.wr ENG_STAT_CAUSE EngCause.noImg.code n

/-- Engine `n` starts at the next exit from the halted state (R250). -/
def pauseEngine (s : State) (n : Nat) : State := { s with ten := { s.ten with paused := Tab.put s.ten.paused n true false } }

/-- An engine in OFF with EN = 1 whose image has become verified starts (R247), in a halted state at its end (R250). -/
def offStart (s : State) (n : Nat) : State :=
  if !s.on ENG_CTRL_EN n || s.rd ENG_STAT_STATE n ≠ engOff || !s.on TEN_IMG_INFO_VERIFIED (s.rd ENG_CTRL_IMAGE n) then s
  else if s.restricted then s.pauseEngine n
  else s.startEngine n

end State

end Sys2Proof.Machine
end

