-- ==== Sys2Proof/Machine/P384.lean ====
section
/-! DEFINITION. ECDSA and ECDH over P-384, which spec/16_security.md names (log entry 5). -/

namespace Sys2Proof.Machine

/-- The prime, the coefficient b and the base point of P-384 (SP 800-186, 3.2.1.4). -/
def p384P : Nat := 2 ^ 384 - 2 ^ 128 - 2 ^ 96 + 2 ^ 32 - 1
def p384B : Nat := 0xB3312FA7E23EE7E4988E056BE3F82D19181D9C6EFE8141120314088F5013875AC656398D8A2ED19D2A85C8EDD3EC2AEF
def p384Gx : Nat := 0xAA87CA22BE8B05378EB1C71EF320AD746E1D3B628BA79B9859F741E082542A385502F25DBF55296C3A545E3872760AB7
def p384Gy : Nat := 0x3617DE4A96262C6F5D9E98BF9292DC29F8F41DBD289A147CE9DA3113B5F0B8C00A60B1CE1D7E819D7A431D7C90EA0E5F

/-- The order of the base point. -/
def p384Order : Nat :=
  0xFFFFFFFFFFFFFFFFFFFFFFFFFFFFFFFFFFFFFFFFFFFFFFFFC7634D81F4372DDF581A0DB248B0A77AECEC196ACCC52973

/-- `x ^ e` modulo `m`, over the lowest `k` bits of `e`, highest first. -/
def powMod (m x e : Nat) : Nat → Nat → Nat
  | 0, a => a
  | k + 1, a => powMod m x e k (if e.testBit k then a * a % m * x % m else a * a % m)

/-- The inverse modulo a prime of at most 384 bits. -/
def invMod (m x : Nat) : Nat := powMod m (x % m) (m - 2) 384 1

/-- A point of the curve in Jacobian coordinates; z = 0 is the point at infinity. -/
structure CurvePoint where
  x : Nat
  y : Nat
  z : Nat

/-- Subtraction in the field. -/
def fsub (a b : Nat) : Nat := (a + (p384P - b % p384P)) % p384P

/-- The double of a point. -/
def curveDouble (a : CurvePoint) : CurvePoint :=
  let d := a.z * a.z % p384P
  let g := a.y * a.y % p384P
  let b := a.x * g % p384P
  let al := 3 * fsub a.x d * (a.x + d) % p384P
  let x := fsub (al * al) (8 * b)
  { x := x, y := fsub (al * fsub (4 * b) x) (8 * g * g), z := 2 * a.y * a.z % p384P }

/-- The sum of two points. -/
def curveAdd (a b : CurvePoint) : CurvePoint :=
  if a.z = 0 then b
  else if b.z = 0 then a
  else
    let za := a.z * a.z % p384P
    let zb := b.z * b.z % p384P
    let u1 := a.x * zb % p384P
    let u2 := b.x * za % p384P
    let s1 := a.y * b.z * zb % p384P
    let s2 := b.y * a.z * za % p384P
    if u1 = u2 then (if s1 = s2 then curveDouble a else { x := 1, y := 1, z := 0 })
    else
      let h := fsub u2 u1
      let r := fsub s2 s1
      let hh := h * h % p384P
      let hhh := h * hh % p384P
      let v := u1 * hh % p384P
      let x := fsub (fsub (r * r) hhh) (2 * v)
      { x := x, y := fsub (r * fsub v x) (s1 * hhh), z := h * a.z * b.z % p384P }

/-- The multiple of a point by the lowest `k` bits of a scalar, highest first. -/
def curveMul (e : Nat) (a : CurvePoint) : Nat → CurvePoint → CurvePoint
  | 0, c => c
  | k + 1, c => curveMul e a k (if e.testBit k then curveAdd (curveDouble c) a else curveDouble c)

/-- The multiple of a point by a 384-bit scalar. -/
def curveTimes (e : Nat) (a : CurvePoint) : CurvePoint := curveMul e a 384 { x := 1, y := 1, z := 0 }

/-- The affine coordinates; the point at infinity as zeros. -/
def curveAffine (a : CurvePoint) : Nat × Nat :=
  let i := invMod p384P a.z
  (a.x * i * i % p384P, a.y * i * i % p384P * i % p384P)

/-- The base point, and the point that 96 bytes X ‖ Y spell. -/
def curveBase : CurvePoint := { x := p384Gx, y := p384Gy, z := 1 }
def curvePoint (b : List Byte) : CurvePoint := { x := ofBe (b.take 48), y := ofBe ((b.drop 48).take 48), z := 1 }

/-- A 96-byte public key lies on the curve (R416). -/
@[irreducible] def p384OnCurve (b : List Byte) : Bool :=
  let q := curvePoint b
  b.length == 96 && q.x < p384P && q.y < p384P && q.y * q.y % p384P == (q.x * q.x * q.x + (p384P - 3) * q.x + p384B) % p384P

/-- The public key X ‖ Y of a private scalar. -/
@[irreducible] def p384Public (d : Nat) : List Byte :=
  let q := curveAffine (curveTimes (d % p384Order) curveBase)
  beBytes 48 q.1 ++ beBytes 48 q.2

/-- The signature r ‖ s (FIPS 186-5, 6.4.1) of a scalar over a 48-byte digest, with the nonce that the last argument stands for. -/
@[irreducible] def p384Sign (d : Nat) (digest : List Byte) (nonce : Nat) : List Byte :=
  let k := nonce % (p384Order - 1) + 1
  let r := (curveAffine (curveTimes k curveBase)).1 % p384Order
  beBytes 48 r ++ beBytes 48 (invMod p384Order k * (ofBe (digest.take 48) + r * d) % p384Order)

/-- A signature r ‖ s holds under a public key (FIPS 186-5, 6.4.2): key, digest, signature. -/
@[irreducible] def p384Verify (key digest sig : List Byte) : Bool :=
  let r := ofBe (sig.take 48)
  let s := ofBe ((sig.drop 48).take 48)
  let w := invMod p384Order s
  let q := curveAdd (curveTimes (ofBe (digest.take 48) * w % p384Order) curveBase) (curveTimes (r * w % p384Order) (curvePoint key))
  p384OnCurve key && 0 < r && r < p384Order && 0 < s && s < p384Order && q.z != 0 && (curveAffine q).1 % p384Order == r

/-- The 48-byte x-coordinate of the shared point of a scalar and a public key. -/
@[irreducible] def p384Shared (d : Nat) (key : List Byte) : List Byte :=
  beBytes 48 (curveAffine (curveTimes (d % p384Order) (curvePoint key))).1

end Sys2Proof.Machine
end

