-- ==== Sys2Proof/Machine/RegWrite.lean ====
section
/-! DEFINITION. Register accesses by offset (R15, R20 to R23, R46, R48): which register an offset names, and a write field by field under its access types. -/

namespace Sys2Proof.Machine

/-- The indices under which `off` is a word of the register, if it is one. -/
def Reg.index (r : Reg) (off : Nat) : Option (Nat × Nat) :=
  if off < r.off then none
  else
    let d := off - r.off
    let i := if r.str = 0 then 0 else if r.str2 > r.str then d % r.str2 / r.str else d / r.str
    let j := if r.str2 = 0 then 0 else if r.str2 > r.str then d / r.str2 else d % r.str / r.str2
    if r.str * i + r.str2 * j = d && i < r.cnt && j < r.cnt2 then some (i, j) else none

/-- The first register of a list that `off` names. -/
def findIn : List Reg → Nat → Option (Reg × Nat × Nat)
  | [], _ => none
  | r :: rs, off =>
    match r.index off with
    | some (i, j) => some (r, i, j)
    | none => findIn rs off

/-- The block whose window holds `off` (R45). -/
def blockAt (off : Nat) : Option Block :=
  regBlocks.find? (fun b => b.base ≤ off && off < b.base + b.size)

/-- Offsets in the place of entry 0 of an array whose entries start at 1, where no register lies: policer entries of both banks (R245). -/
def noEntry (off : Nat) : Bool := off = 0x155000 || off = 0x155004 || off = 0x165000 || off = 0x165004

/-- The register and indices that an offset names; none: no block or an unassigned offset (R46). -/
def findReg (off : Nat) : Option (Block × Reg × Nat × Nat) :=
  match blockAt off with
  | none => none
  | some b =>
    match findIn b.regs off with
    | none => none
    | some (r, i, j) => if noEntry off then none else some (b, r, i, j)

namespace State

/-- A block's lock bit is set (R48). -/
def locked (s : State) (b : Block) : Bool :=
  match b.lock with
  | some L => s.on L
  | none => false

/-- One field takes its part of a written word (R15, R23); `lk`: the block's lock bit was set before the write (R48). -/
def writeField (s : State) (lk : Bool) (F : Field) (i j w : Nat) : State :=
  let v := bitsOf w F.hi F.lo
  match F.acc with
  | .rw => if F.codeOk v then s.wr F v i j else s
  | .rwl => if !lk && F.codeOk v then s.wr F v i j else s
  | .w1c => s.wr F (s.rd F i j - (s.rd F i j &&& v)) i j
  | .w1s => s.wr F (s.rd F i j ||| v) i j
  | .cnt => s.wr F 0 i j
  | .ro => s
  | .wo => s

/-- The fields of a register take a written word, all under the lock as it stood before the write. -/
def writeFields (s : State) (lk : Bool) (fs : List Field) (i j w : Nat) : State :=
  s.each fs (fun s F => s.writeField lk F i j w)

/-- A plain write of the register at `off`: field by field, nothing where no register lies. -/
def writeReg (s : State) (off w : Nat) : State :=
  match findReg off with
  | none => s
  | some (b, r, i, j) => s.writeFields (s.locked b) r.flds i j w

/-- The word that a register reads from its stored fields: unassigned bits and WO fields read 0 (R21, R23). -/
def readFields (s : State) (fs : List Field) (i j : Nat) : Nat :=
  fs.foldl (fun a F => a + (if F.acc = .wo then 0 else s.rd F i j * 2 ^ F.lo)) 0

/-- The stored word of the register at `off`; an unassigned offset reads 0 (R46). -/
def readReg (s : State) (off : Nat) : Nat :=
  match findReg off with
  | none => 0
  | some (_, r, i, j) => s.readFields r.flds i j

end State

end Sys2Proof.Machine
end

