-- ==== Sys2Proof/Machine/Keys.lean ====
section
/-! DEFINITION. Scarab: fuse map, life cycle, key slots and key commands (spec/16_security.md). -/

namespace Sys2Proof.Machine

/-- Codes with which a key command ends (R417). -/
inductive KeyCode where
  | ok | badOp | state | slot | empty | usage | occupied | inUse | length | badSig | format
  | signer | rollback | digest | trng | fuseDone | fuseFail | precond | buffer | point
  deriving DecidableEq, Repr

/-- The numbers of the codes (R417). -/
def KeyCode.code : KeyCode → Nat
  | .ok => 0 | .badOp => 1 | .state => 2 | .slot => 3 | .empty => 4 | .usage => 5 | .occupied => 6
  | .inUse => 7 | .length => 8 | .badSig => 9 | .format => 10 | .signer => 11 | .rollback => 12
  | .digest => 13 | .trng => 14 | .fuseDone => 15 | .fuseFail => 16 | .precond => 17 | .buffer => 18
  | .point => 19

/-- A block of the KDF of R418. -/
def kdfBlock (k label ctx : List Byte) (bits i : Nat) : List Byte :=
  hmac384 k (beBytes 4 i ++ label ++ [0] ++ ctx ++ beBytes 4 bits)

/-- The leading `bits` bits of the KDF's output (R418), in whole bytes, for outputs of at most two blocks. -/
def kdf (k label ctx : List Byte) (bits : Nat) : List Byte :=
  (kdfBlock k label ctx bits 1 ++ kdfBlock k label ctx bits 2).take (bits / 8)

/-- The bytes of an ASCII string. -/
def ascii (s : String) : List Byte := s.toList.map (fun c => BitVec.ofNat 8 c.toNat)

/-- `l` cut or extended with zeros to `n` bytes. -/
def padTo (n : Nat) (l : List Byte) : List Byte := (l ++ List.replicate n 0).take n

/-- 32 zero bytes. -/
def zeroKey : List Byte := List.replicate 32 0

/-- The majority of three copies, bit by bit (R403). -/
def maj3 (a b c : Nat) : Nat := (a &&& b) ||| (a &&& c) ||| (b &&& c)

/-- Usage bits of R413. -/
def useKdf : Nat := 0
def useMac : Nat := 1
def useSign : Nat := 2
def useEcdh : Nat := 3
def useSeal : Nat := 4

namespace State

/-! The fuse map (R402, R403). -/

/-- A fuse row; one with an uncorrectable error reads as blank (R403). -/
def fuse (s : State) (r : Nat) : Nat := if s.keys.fuseBad.contains r then 0 else Tab.get s.keys.fuse r 0

/-- The `n` bytes that start at row `r` (R402). -/
def fuseBytes (s : State) (r n : Nat) : List Byte :=
  ((List.range ((n + 3) / 4)).flatMap (fun k => leBytes 4 (s.fuse (r + k)))).take n

/-- The LC bits after the majority (R403). -/
def lcBits (s : State) : Nat :=
  let w := s.fuse 8
  maj3 (bitsOf w 4 0) (bitsOf w 12 8) (bitsOf w 20 16)

/-- The life-cycle state: the highest bit set, plus one; 0 BLANK (R403). -/
def lifeCycle (s : State) : Nat :=
  if s.lcBits = 0 then 0 else Nat.log2 s.lcBits + 1

/-- The protection bits after the majority (R403). -/
def protBits (s : State) : Nat :=
  let w := s.fuse 9
  maj3 (bitsOf w 7 0) (bitsOf w 15 8) (bitsOf w 23 16)

/-- The anti-rollback counter (R403). -/
def arb (s : State) : Nat :=
  let v (c : Nat) : Nat := s.fuse (0xA + 2 * c) + 2 ^ 32 * s.fuse (0xB + 2 * c)
  let m := maj3 (v 0) (v 1) (v 2)
  if m = 0 then 0 else Nat.log2 m + 1

/-- Legacy mode runs while its three conditions hold (R167). -/
def kl2Show (s : State) : State :=
  let a := s.on TRK_KL2_EN && s.on TRK_KL2_STAT_STRAP && !s.on TRK_KL2_STAT_FUSEBAR
  (s.wr TRK_KL2_STAT_ACTIVE (bit a)).wr TRK_STAT_KL2 (bit a)

/-- KEY_STAT and the fuse condition of TRK0's legacy mode show the fuses (R403, R426, R167). -/
def fuseShow (s : State) : State :=
  let p := s.protBits
  let s1 := ((s.wr KEY_STAT_LC s.lifeCycle).wr KEY_STAT_DEBUGLOCK p).wr KEY_STAT_SEALMAND (p / 2)
  let s2 := ((s1.wr KEY_STAT_NOLEGACY (p / 4)).wr KEY_STAT_REVOKE (p / 16)).wr KEY_STAT_ARB s.arb
  (s2.wr TRK_KL2_STAT_FUSEBAR (bit (p.testBit 1 || p.testBit 2))).kl2Show

/-- Bits burned in a fuse row: a burnt bit stays 1; a row that read as blank for its errors has been written anew (R403). -/
def burn (s : State) (r v : Nat) : State :=
  { s with keys := { s.keys with fuse := Tab.put s.keys.fuse r (Tab.get s.keys.fuse r 0 ||| v % 2 ^ 32) 0,
                                 fuseBad := s.keys.fuseBad.filter (fun k => k != r) } }

/-- A row whose write fails its verification: which of the bits to be burned are burnt is a free value (R417, log entry 71). -/
def burnFails (s : State) (r v : Nat) : State :=
  let (f, s1) := s.free 32
  s1.burn r (v &&& f)

/-- Bytes burned from row `r` on (R402). -/
def burnBytes (s : State) (r : Nat) (bs : List Byte) : State :=
  s.each (List.range ((bs.length + 3) / 4)) (fun s k => s.burn (r + k) (ofLe ((bs.drop (4 * k)).take 4)))

/-- A signer slot is written and its REVOKE bit clear (R406, R420). -/
def signerLive (s : State) (i : Nat) : Bool :=
  s.fuseBytes (0x20 + 12 * i) 48 != List.replicate 48 0 && !(s.protBits.testBit (4 + i))

/-! Key slots (R412 to R415). -/

/-- The 32 key bytes of a slot. -/
def slotKey (s : State) (n : Nat) : List Byte := Tab.get s.keys.key n zeroKey

/-- The check code of a slot's content (R412). -/
def slotCheck (s : State) (n : Nat) : Nat :=
  crc32 (beBytes 1 n ++ beBytes 1 (s.rd KEY_SLOT_USAGE n) ++ s.slotKey n)

/-- A slot that is VALID holds a content that its check code confirms (R414). -/
def slotSound (s : State) (n : Nat) : Bool :=
  s.rd KEY_SLOT_STATE n != 1 || Tab.get s.keys.check n 0 == s.slotCheck n

/-- A trunk with TRK_SEAL.VALID = 1 names the slot, or it is one of slots 0 and 1 (R415). -/
def slotInUse (s : State) (n : Nat) : Bool :=
  n < 2 || (List.range 4).any (fun t => s.on TRK_SEAL_VALID t && s.rd TRK_SEAL_SLOT t == n)

/-- Content written to a slot. -/
def fillSlot (s : State) (n : Nat) (key : List Byte) (usage : Nat) (pair : Bool) : State :=
  let s1 := (s.wr KEY_SLOT_USAGE usage n).wr KEY_SLOT_PAIR (bit pair) n
  let s2 := { s1 with keys := { s1.keys with key := Tab.put s1.keys.key n key zeroKey } }
  let s3 := { s2 with keys := { s2.keys with check := Tab.put s2.keys.check n (s2.slotCheck n) 0 } }
  s3.wr KEY_SLOT_STATE 1 n

/-- A slot's key zeroed, its state set and its marks cleared. -/
def clearSlot (s : State) (n st : Nat) : State :=
  let s1 := ((s.wr KEY_SLOT_STATE st n).wr KEY_SLOT_PAIR 0 n).wr KEY_SLOT_USAGE 0 n
  { s1 with keys := { s1.keys with key := Tab.put s1.keys.key n zeroKey zeroKey, check := Tab.put s1.keys.check n 0 0 } }

/-- The slots of the key that slot `n` belongs to (R412). -/
def slotGroup (s : State) (n : Nat) : List Nat :=
  if s.on KEY_SLOT_PAIR n then [n / 2 * 2, n / 2 * 2 + 1] else [n]

/-- A slot that fails its check is marked BAD with its pair, its key zeroed, and reported (R414). -/
def markBad (s : State) (n : Nat) : State :=
  let s1 := s.each (s.slotGroup n) (fun s k =>
    { (s.wr KEY_SLOT_STATE 2 k) with keys := { s.keys with key := Tab.put s.keys.key k zeroKey zeroKey } })
  (s1.sat KEY_CNT_COUNT 1).fault (113 + n) 0

/-- The sweep over all slots (R414). -/
def slotSweep (s : State) : State :=
  s.each (List.range 64) (fun s n => if s.slotSound n then s else s.markBad n)

/-- A slot checked at its use (R414): the state after it, and whether it may be used. -/
def useSlot (s : State) (n : Nat) : State × Bool :=
  if s.rd KEY_SLOT_STATE n ≠ 1 then (s, false)
  else
    match (s.slotGroup n).find? (fun k => !s.slotSound k) with
    | some k => (s.markBad k, false)
    | none => (s, true)

/-- The private scalar of a pair (R412). -/
def pairScalar (s : State) (n : Nat) : Nat := ofBe (s.slotKey n ++ (s.slotKey (n + 1)).take 16)

/-- A private scalar written to a pair (R412). -/
def fillPair (s : State) (n scalar usage : Nat) : State :=
  let b := beBytes 48 scalar
  (s.fillSlot n (b.take 32) usage true).fillSlot (n + 1) (padTo 32 (b.drop 32)) usage true

/-- The state of the slot registers' INUSE bit (R415). -/
def slotsShow (s : State) : State :=
  s.each (List.range 64) (fun s n => s.wr KEY_SLOT_INUSE (bit (s.slotInUse n)) n)

/-! Commands (R416, R417). -/

/-- A key command ends at once with a code, its output written; BUSY until it completes. -/
def keyEnd (s : State) (c : KeyCode) (outLen : Nat) : State :=
  { (s.wr KEY_CMDSTAT_BUSY 1) with keys := { s.keys with code := c.code, outLen := outLen } }

/-- The command in progress ends (R416). -/
def keyDone (s : State) : State :=
  if s.on KEY_CMDSTAT_BUSY then
    (((s.wr KEY_CMDSTAT_BUSY 0).wr KEY_CMDSTAT_CODE s.keys.code).wr KEY_OUTLEN_LEN s.keys.outLen).wr KEY_CMDSTAT_DONE 1
  else s

/-- The KEY interrupt of the management processor: asserted while DONE = 1 (R416). -/
def keyIrq (s : State) : Bool := s.on KEY_CMDSTAT_DONE

/-- A buffer of `n` bytes at a register's address lies wholly in management SRAM and is 8-byte aligned (R416). -/
def bufferOk (a n : Nat) : Bool := a % 8 = 0 && a + n ≤ 0x80000

/-- Output bytes written where KEY_OUT points. -/
def keyOut (s : State) (bs : List Byte) : State :=
  { s with sram := Memory.write s.sram (s.rd KEY_OUT_ADDR) bs }

/-- The input bytes (R416). -/
def keyInput (s : State) : List Byte := Memory.read s.sram (s.rd KEY_IN_ADDR) (s.rd KEY_INLEN_LEN)

/-- The conditions under which a key command is taken at all: BUSY rejects it, RESETREQ ends it with STATE (R407, R416). -/
def keyStart (s : State) (run : State → State) : State :=
  if s.on KEY_CMDSTAT_BUSY then s.wr KEY_STAT_CMDREJ 1
  else if s.on KEY_STAT_RESETREQ then s.keyEnd .state 0
  else run s

/-- The checks of a command that writes bytes to KEY_OUT: lengths, then buffers (R416, R417). -/
def lengthCode (s : State) (lenOk : Bool) (outLen : Nat) : KeyCode :=
  if !lenOk then .length
  else if !bufferOk (s.rd KEY_IN_ADDR) (s.rd KEY_INLEN_LEN) then .buffer
  else if outLen ≠ 0 && !bufferOk (s.rd KEY_OUT_ADDR) outLen then .buffer
  else .ok

/-- HASH (R417). -/
def keyHash (s : State) : State :=
  match s.lengthCode (s.rd KEY_INLEN_LEN ≤ 65536) 48 with
  | .ok => (s.keyOut (padTo 48 (sha384 s.keyInput))).keyEnd .ok 48
  | c => s.keyEnd c 0

/-- A source slot for a role: the state after its check, and the code that refuses it or OK (R413, R414). -/
def sourceSlot (s : State) (a use : Nat) (pair : Bool) : State × KeyCode :=
  if a > 63 || (pair && a % 2 = 1) then (s, .slot)
  else
    match s.useSlot a with
    | (s1, false) => (s1, .empty)
    | (s1, true) => if s1.bitAt KEY_SLOT_USAGE use a then (s1, .ok) else (s1, .usage)

/-- HMAC (R417). -/
def keyHmac (s : State) (a : Nat) : State :=
  match s.sourceSlot a useMac false with
  | (s1, .ok) =>
    match s1.lengthCode (s1.rd KEY_INLEN_LEN ≤ 65536) 48 with
    | .ok => (s1.keyOut (padTo 48 (hmac384 (s1.slotKey a) s1.keyInput))).keyEnd .ok 48
    | c => s1.keyEnd c 0
  | (s1, c) => s1.keyEnd c 0

/-- The source of a derivation: a KDF slot, the root (64) or the PUF key (65) (R417). -/
def kdfSource (s : State) (a : Nat) : State × KeyCode × List Byte :=
  if a = 64 then
    match s.keys.root with
    | some k => (s, .ok, k)
    | none => (s, .empty, [])
  else if a = 65 then
    match s.keys.puf with
    | some k => (s, .ok, k)
    | none => (s, .empty, [])
  else
    match s.sourceSlot a useKdf false with
    | (s1, c) => (s1, c, s1.slotKey a)

/-- A destination for a 256-bit key (`pair` false) or a pair: its code (R413, R415, R417); a slot in use that is also VALID or BAD ends with INUSE (log entry 71). -/
def destCode (s : State) (b : Nat) (pair : Bool) : KeyCode :=
  let l := if pair then [b, b + 1] else [b]
  let forbidden := if pair then 0b10011 else 0b01100
  if b < 2 || b > 63 || (pair && b % 2 = 1) then .slot
  else if s.rd KEY_POL_USAGE &&& forbidden ≠ 0 then .usage
  else if l.any s.slotInUse then .inUse
  else if l.any (fun n => s.rd KEY_SLOT_STATE n != 0) then .occupied
  else .ok

/-- A label block (R418): label and context, or none for lengths outside its rules. -/
def labelBlock (bs : List Byte) (ctxMax : Nat) : Option (List Byte × List Byte) :=
  let ll := ofLe (bs.take 1)
  let cl := ofLe ((bs.drop 1).take 1)
  if 1 ≤ ll && ll ≤ 64 && cl ≤ ctxMax && bs.length = 4 + ll + cl then
    some ((bs.drop 4).take ll, (bs.drop (4 + ll)).take cl)
  else none

/-- The context of a derivation from the root or the PUF key ends in the LC code (R408). -/
def kdfContext (s : State) (a : Nat) (ctx : List Byte) : List Byte :=
  if a ≥ 64 then ctx ++ beBytes 1 s.lifeCycle else ctx

/-- A private scalar from 448 derived or random bits (R418). -/
def scalarOf (c : Nat) : Nat := c % (p384Order - 1) + 1

/-- KDF and KDFEC (R417, R418). -/
def keyKdf (s : State) (a b : Nat) (pair : Bool) : State :=
  match s.kdfSource a with
  | (s1, .ok, k) =>
    match s1.destCode b pair with
    | .ok =>
      match s1.lengthCode (s1.rd KEY_INLEN_LEN ≤ 65536) 0, labelBlock s1.keyInput (if a ≥ 64 then 63 else 64) with
      | .ok, some (label, ctx) =>
        let c := s1.kdfContext a ctx
        let p := s1.rd KEY_POL_USAGE
        if pair then ((s1.fillPair b (scalarOf (ofBe (kdf k label c 448))) p).slotsShow).keyEnd .ok 0
        else ((s1.fillSlot b (padTo 32 (kdf k label c 256)) p false).slotsShow).keyEnd .ok 0
      | .ok, none => s1.keyEnd .length 0
      | c, _ => s1.keyEnd c 0
    | c => s1.keyEnd c 0
  | (s1, c, _) => s1.keyEnd c 0

/-- The TRNG's health tests fail (R417). -/
def trngFail (s : State) : State := ((s.sat KEY_CNT_COUNT 3).fault 112 0).keyEnd .trng 0

/-- KEYGEN (R417); `ok`: the health tests pass. -/
def keyGen (s : State) (b : Nat) (ok : Bool) : State :=
  match s.destCode b true with
  | .ok =>
    if !ok then s.trngFail
    else
      let (v, s1) := s.free 448
      ((s1.fillPair b (scalarOf v) (s1.rd KEY_POL_USAGE)).slotsShow).keyEnd .ok 0
  | c => s.keyEnd c 0

/-- A pair used as a private key in one of two roles. -/
def pairSource (s : State) (a use1 use2 : Nat) : State × KeyCode :=
  match s.sourceSlot a use1 true with
  | (s1, .usage) => if s1.bitAt KEY_SLOT_USAGE use2 a then (s1, .ok) else (s1, .usage)
  | r => r

/-- PUBKEY (R417); it takes no input, and KEY_IN and KEY_INLEN are not looked at. -/
def keyPub (s : State) (a : Nat) : State :=
  match s.pairSource a useSign useEcdh with
  | (s1, .ok) =>
    if !bufferOk (s1.rd KEY_OUT_ADDR) 96 then s1.keyEnd .buffer 0
    else (s1.keyOut (padTo 96 (p384Public (s1.pairScalar a)))).keyEnd .ok 96
  | (s1, c) => s1.keyEnd c 0

/-- SIGN (R417). -/
def keySign (s : State) (a : Nat) : State :=
  match s.pairSource a useSign useSign with
  | (s1, .ok) =>
    match s1.lengthCode (s1.rd KEY_INLEN_LEN = 48) 96 with
    | .ok =>
      let (v, s2) := s1.free 384
      (s2.keyOut (padTo 96 (p384Sign (s2.pairScalar a) s2.keyInput v))).keyEnd .ok 96
    | c => s1.keyEnd c 0
  | (s1, c) => s1.keyEnd c 0

/-- VERIFY (R417). -/
def keyVerify (s : State) : State :=
  match s.lengthCode (s.rd KEY_INLEN_LEN = 240) 0 with
  | .ok =>
    let b := s.keyInput
    if !p384OnCurve (b.take 96) then s.keyEnd .point 0
    else if p384Verify (b.take 96) ((b.drop 96).take 48) (b.drop 144) then s.keyEnd .ok 0
    else s.keyEnd .badSig 0
  | c => s.keyEnd c 0

/-- ECDHKDF (R417, R418). -/
def keyEcdh (s : State) (a b : Nat) : State :=
  match s.pairSource a useEcdh useEcdh with
  | (s1, .ok) =>
    match s1.destCode b false with
    | .ok =>
      match s1.lengthCode (96 ≤ s1.rd KEY_INLEN_LEN && s1.rd KEY_INLEN_LEN ≤ 65536) 0, labelBlock (s1.keyInput.drop 96) 64 with
      | .ok, some (label, ctx) =>
        let peer := s1.keyInput.take 96
        if !p384OnCurve peer then s1.keyEnd .point 0
        else
          let k := p384Shared (s1.pairScalar a) peer
          ((s1.fillSlot b (padTo 32 (kdf k label ctx 256)) (s1.rd KEY_POL_USAGE) false).slotsShow).keyEnd .ok 0
      | .ok, none => s1.keyEnd .length 0
      | c, _ => s1.keyEnd c 0
    | c => s1.keyEnd c 0
  | (s1, c) => s1.keyEnd c 0

/-- RANDOM (R417). -/
def keyRandom (s : State) (ok : Bool) : State :=
  let n := s.rd KEY_INLEN_LEN
  if !(1 ≤ n && n ≤ 4096) then s.keyEnd .length 0
  else if !bufferOk (s.rd KEY_OUT_ADDR) n then s.keyEnd .buffer 0
  else if !ok then s.trngFail
  else
    let (v, s1) := s.free (8 * n)
    (s1.keyOut (beBytes n v)).keyEnd .ok n

/-- DESTROY (R414, R415, R417); of a slot that is EMPTY it ends with EMPTY (log entry 71). -/
def keyDestroy (s : State) (a : Nat) : State :=
  if a > 63 || (s.on KEY_SLOT_PAIR a && a % 2 = 1) then s.keyEnd .slot 0
  else if (s.slotGroup a).any s.slotInUse then s.keyEnd .inUse 0
  else if s.rd KEY_SLOT_STATE a = 0 then s.keyEnd .empty 0
  else ((s.each (s.slotGroup a) (fun s n => s.clearSlot n 0)).slotsShow).keyEnd .ok 0

/-! Images (R419, R420). -/

/-- The fields of a signature block (R419). -/
structure SigBlock where
  magic : List Byte
  kind : Nat
  version : Nat
  svn : Nat
  bodyLen : Nat
  cap : Nat
  reserved : Bool
  digest : List Byte
  signer : List Byte
  signature : List Byte
  signed : List Byte
  deriving DecidableEq, Repr

/-- A signature block read from its 256 bytes. -/
def parseSig (b : List Byte) : SigBlock :=
  let f (o n : Nat) : List Byte := (b.drop o).take n
  { magic := f 0 4, kind := ofLe (f 4 1), version := ofLe (f 5 1), svn := ofLe (f 6 1),
    bodyLen := ofLe (f 8 4), cap := ofLe (f 12 2), reserved := ofLe (f 7 1) = 0 && ofLe (f 14 2) = 0,
    digest := f 16 48, signer := f 64 96, signature := f 160 96, signed := f 0 160 }

/-- The checks of R420 on an image of bytes `img`, which must be of kind `kind`: the code, and its signature block. -/
def imageCheck (s : State) (img : List Byte) (kind : Nat) : KeyCode × SigBlock :=
  let g := parseSig (img.drop (img.length - 256))
  if g.magic ≠ ascii "SCRB" || g.kind ≠ kind || g.bodyLen = 0 || g.bodyLen > img.length - 256 || !g.reserved ||
      (kind ≠ 2 && g.cap ≠ 0) then (.format, g)
  else if !((List.range 4).any (fun i => s.signerLive i && sha384 g.signer == s.fuseBytes (0x20 + 12 * i) 48)) then
    (.signer, g)
  else if g.svn < s.arb then (.rollback, g)
  else if !p384Verify g.signer (sha384 g.signed) g.signature then (.badSig, g)
  else if sha384 (img.take g.bodyLen) ≠ g.digest then (.digest, g)
  else (.ok, g)

/-- An engine not in OFF names image slot `i`: it started from it (R264, R420). -/
def imageNamed (s : State) (i : Nat) : Bool :=
  (List.range 16).any (fun n => s.rd ENG_STAT_STATE n != engOff && Tab.get s.ten.img n 0 == i)

/-- The bytes of engine image slot `i` in DRAM (R246). -/
def imageBytes (s : State) (i : Nat) : List Byte :=
  Memory.read s.dram (s.rd TEN_IMG_ADDR_ADDR i * 4096) (s.rd TEN_IMG_LEN_LEN i * 4096)

/-- An image slot checked in place (R420): VERIFIED, VERSION and CAP, and the engines in OFF that wait for it start (R247); or VERIFIED cleared. -/
def verifyImage (s : State) (i : Nat) : State × KeyCode :=
  match (if s.rd TEN_IMG_LEN_LEN i > 256 then (.format, parseSig []) else s.imageCheck (s.imageBytes i) 2) with
  | (.ok, g) =>
    ((((s.wr TEN_IMG_INFO_VERIFIED 1 i).wr TEN_IMG_INFO_VERSION g.version i).wr TEN_IMG_INFO_CAP g.cap i).each (List.range 16) offStart, .ok)
  | (c, _) => (s.wr TEN_IMG_INFO_VERIFIED 0 i, c)

/-- IMGVER (R417, R420). -/
def keyImgver (s : State) (a : Nat) : State :=
  if a > 3 then s.keyEnd .slot 0
  else if s.imageNamed a then (s.wr TEN_STAT_IMGREJ 1).keyEnd .state 0
  else
    let r := s.verifyImage a
    r.1.keyEnd r.2 0

/-! Fuses and the life cycle (R406, R407, R409, R417, R421). -/

/-- A command that KEY_CTRL.LOCK bars (R416). -/
def keyUnlocked (s : State) (run : State → State) : State :=
  if s.on KEY_CTRL_LOCK then s.keyEnd .state 0 else run s

/-- A PUF attempt gives the key that PUFCHK names (R402, R409). -/
def pufMatches (s : State) (k : List Byte) : Bool :=
  (sha384 (k ++ ascii "PUF-CHECK")).take 32 == s.fuseBytes 0x1F8 32

/-- ENROLL (R409): HELPER from the SRAM's pattern, then PUFCHK; where HELPER fails its verification, what is burnt of it is free. -/
def keyEnroll (s : State) (ok : Bool) : State :=
  if s.lifeCycle ≠ 1 then s.keyEnd .state 0
  else if s.fuseBytes 0x100 992 ≠ List.replicate 992 0 then s.keyEnd .fuseDone 0
  else
    let (h, s1) := s.free (8 * 992)
    let helper := beBytes 992 h
    let (n, s2) := s1.free 64
    let k := padTo 32 (Config.pufKey helper n)
    if !ok then
      let (f, s3) := s2.free (8 * 992)
      (s3.burnBytes 0x100 (beBytes 992 (h &&& f))).keyEnd .fuseFail 0
    else
      let s3 := (s2.burnBytes 0x100 helper).burnBytes 0x1F8 ((sha384 (k ++ ascii "PUF-CHECK")).take 32)
      let s4 := { s3 with keys := { s3.keys with puf := some k } }
      (s4.wr KEY_STAT_PUFOK 1).keyEnd .ok 0

/-- A transition of the table of R406. -/
def lcAllowed (fr goal : Nat) : Bool :=
  (fr = 0 && goal = 1) || (fr = 1 && goal = 2) || (fr = 2 && goal = 3) || ((fr = 2 || fr = 3) && goal = 4) || (fr ≠ 5 && goal = 5)

/-- The precondition of a transition (R406). -/
def lcReady (s : State) (fr goal : Nat) : Bool :=
  if fr = 0 && goal = 1 then (s.fuse 0 != 0 || s.fuse 1 != 0) && s.fuse 2 != 0
  else if fr = 1 && goal = 2 then
    s.fuseBytes 0x1F8 32 != List.replicate 32 0 && s.fuseBytes 0x10 48 != List.replicate 48 0 &&
    (List.range 4).any s.signerLive
  else if fr = 2 && goal = 3 then s.on KEY_STAT_ROOT
  else true

/-- Rows burnt whole. -/
def burnRows (s : State) (base n : Nat) : State :=
  s.each (List.range n) (fun s k => s.burn (base + k) 0xFFFFFFFF)

/-- What entry to RMA or SCRAPPED burns (R407). -/
def burnOut (s : State) (goal : Nat) : State :=
  if goal = 4 then (s.burnRows 0x50 13).burnRows 0x60 13
  else if goal = 5 then s.burnRows 0x100 256
  else s

/-- Every key slot, the root and the PUF key erased (R407, R425). -/
def eraseKeys (s : State) : State :=
  let s1 := s.each (List.range 64) (fun s n => s.clearSlot n 0)
  let s2 := { s1 with keys := { s1.keys with root := none, puf := none } }
  (((s2.wr KEY_STAT_ROOT 0).wr KEY_STAT_ROOTB 0).wr KEY_STAT_PUFOK 0).slotsShow

/-- LCADV (R406, R407); `n`: the copies, from copy 0 on, that take the bit and verify. -/
def keyLcadv (s : State) (b n : Nat) : State :=
  let fr := s.lifeCycle
  let m := 2 ^ (b - 1)
  if b = 0 || b > 5 || !lcAllowed fr b then s.keyEnd .state 0
  else if !s.lcReady fr b then s.keyEnd .precond 0
  else if n < 3 then ((s.each (List.range n) (fun s c => s.burn 8 (m * 2 ^ (8 * c)))).fuseShow).keyEnd .fuseFail 0
  else
    let s1 := s.burn 8 (m + m * 2 ^ 8 + m * 2 ^ 16)
    let s2 := (s1.each (List.range 4) (fun s t => s.wr TRK_SEAL_VALID 0 t)).eraseKeys
    (((s2.burnOut b).fuseShow).wr KEY_STAT_RESETREQ 1).keyEnd .ok 0

/-- ARBADV (R417, R421). -/
def keyArbadv (s : State) (b : Nat) (ok : Bool) : State :=
  if !(s.lifeCycle = 2 || s.lifeCycle = 3) then s.keyEnd .state 0
  else if b = 0 || b > 64 then s.keyEnd .slot 0
  else if b ≤ s.arb then s.keyEnd .fuseDone 0
  else
    let m := 2 ^ (b - 1)
    let burns (f : State → Nat → Nat → State) : State :=
      (s.each [0, 1, 2] (fun s c => f (f s (0xA + 2 * c) (m % 2 ^ 32)) (0xB + 2 * c) (m / 2 ^ 32))).fuseShow
    if !ok then (burns burnFails).keyEnd .fuseFail 0 else (burns burn).keyEnd .ok 0

/-- REVOKE (R417). -/
def keyRevoke (s : State) (a : Nat) (ok : Bool) : State :=
  if a > 3 then s.keyEnd .slot 0
  else if !((List.range 4).any (fun i => i != a && s.signerLive i)) then s.keyEnd .precond 0
  else
    let m := 2 ^ (4 + a)
    if !ok then (s.burnFails 9 (m + m * 2 ^ 8 + m * 2 ^ 16)).fuseShow.keyEnd .fuseFail 0
    else (s.burn 9 (m + m * 2 ^ 8 + m * 2 ^ 16)).fuseShow.keyEnd .ok 0

/-- The row may be written by FUSE in the present state (R417). -/
def fuseAllowed (s : State) (r : Nat) : Bool :=
  let lc := s.lifeCycle
  if r ≤ 6 || (0x70 ≤ r && r ≤ 0xFF) then lc ≤ 1
  else if 0x10 ≤ r && r ≤ 0x1B then lc = 1
  else if 0x20 ≤ r && r ≤ 0x4F then 1 ≤ lc && lc ≤ 3
  else if r = 9 then lc = 1 || lc = 2
  else false

/-- FUSE (R404, R417): one record of row and value; the rows of a signer slot are written one by one, each while it is blank. -/
def keyFuse (s : State) (ok : Bool) : State :=
  match s.lengthCode (s.rd KEY_INLEN_LEN = 8) 0 with
  | .ok =>
    let b := s.keyInput
    let r := ofLe (b.take 2)
    let v := ofLe (b.drop 4)
    if !s.fuseAllowed r then s.keyEnd .state 0
    else if r ≠ 9 && s.fuse r ≠ 0 then s.keyEnd .fuseDone 0
    else
      let m := v % 8
      let u := if r = 9 then m + m * 2 ^ 8 + m * 2 ^ 16 else v
      if !ok then (s.burnFails r u).fuseShow.keyEnd .fuseFail 0 else (s.burn r u).fuseShow.keyEnd .ok 0
  | c => s.keyEnd c 0

/-- A write of KEY_CMD from the management address space (R416, R417); the random source and the fuse burner work. -/
def keyCmdWrite (s : State) (w : Nat) : State :=
  let a := bitsOf w 22 16
  let b := bitsOf w 14 8
  if !w.testBit 31 then s
  else
    s.keyStart fun s =>
      match bitsOf w 28 24 with
      | 0x01 => s.keyHash
      | 0x02 => s.keyHmac a
      | 0x03 => s.keyKdf a b false
      | 0x04 => s.keyKdf a b true
      | 0x05 => s.keyGen b true
      | 0x06 => s.keyPub a
      | 0x07 => s.keySign a
      | 0x08 => s.keyVerify
      | 0x09 => s.keyEcdh a b
      | 0x0A => s.keyRandom true
      | 0x0B => s.keyDestroy a
      | 0x0C => s.keyImgver a
      | 0x10 => s.keyUnlocked (fun s => s.keyEnroll true)
      | 0x11 => s.keyUnlocked (fun s => s.keyLcadv b 3)
      | 0x12 => s.keyUnlocked (fun s => s.keyArbadv b true)
      | 0x13 => s.keyUnlocked (fun s => s.keyRevoke a true)
      | 0x14 => s.keyUnlocked (fun s => s.keyFuse true)
      | _ => s.keyEnd .badOp 0

/-- A write of a KEY register through BAR0 is ignored (R416). -/
def keyBarWrite (s : State) : State := (s.wr KEY_STAT_BARREJ 1).sat KEY_CNT_COUNT 2

/-- Writes of KEY registers that do more than store their fields; `mgmt`: from the management address space. R416 bars BAR0 from the command and buffer registers. -/
def keyWrite (s : State) (off w : Nat) (mgmt : Bool) : Option State :=
  if !mgmt && [0x210008, 0x210010, 0x210014, 0x210018, 0x210020].contains off then some s.keyBarWrite
  else if off = 0x210008 then some (s.keyCmdWrite w)
  else none

end State

/-- HASH (R417). -/
def execHash (s : State) : Host.Outcome State Fault Refusal := .next (s.keyStart State.keyHash)

/-- HMAC (R417) with slot `a`. -/
def execHmac (a : Fin 128) (s : State) : Host.Outcome State Fault Refusal := .next (s.keyStart (·.keyHmac a))

/-- KDF (R417, R418) from source `a` into slot `b`. -/
def execKdf (a b : Fin 128) (s : State) : Host.Outcome State Fault Refusal := .next (s.keyStart (·.keyKdf a b false))

/-- KDFEC (R417, R418) from source `a` into pair `b`. -/
def execKdfec (a b : Fin 128) (s : State) : Host.Outcome State Fault Refusal := .next (s.keyStart (·.keyKdf a b true))

/-- KEYGEN (R417) into pair `b`; `ok`: the TRNG's health tests pass. -/
def execKeygen (b : Fin 128) (ok : Bool) (s : State) : Host.Outcome State Fault Refusal := .next (s.keyStart (·.keyGen b ok))

/-- PUBKEY (R417) of pair `a`. -/
def execPubkey (a : Fin 128) (s : State) : Host.Outcome State Fault Refusal := .next (s.keyStart (·.keyPub a))

/-- SIGN (R417) with pair `a`. -/
def execSign (a : Fin 128) (s : State) : Host.Outcome State Fault Refusal := .next (s.keyStart (·.keySign a))

/-- VERIFY (R417). -/
def execVerify (s : State) : Host.Outcome State Fault Refusal := .next (s.keyStart State.keyVerify)

/-- ECDHKDF (R417, R418) with pair `a` into slot `b`. -/
def execEcdhkdf (a b : Fin 128) (s : State) : Host.Outcome State Fault Refusal := .next (s.keyStart (·.keyEcdh a b))

/-- RANDOM (R417); `ok`: the TRNG's health tests pass. -/
def execRandom (ok : Bool) (s : State) : Host.Outcome State Fault Refusal := .next (s.keyStart (·.keyRandom ok))

/-- DESTROY (R415, R417) of slot or pair `a`. -/
def execDestroy (a : Fin 128) (s : State) : Host.Outcome State Fault Refusal := .next (s.keyStart (·.keyDestroy a))

/-- IMGVER (R417, R420) of image slot `a`. -/
def execImgver (a : Fin 128) (s : State) : Host.Outcome State Fault Refusal := .next (s.keyStart (·.keyImgver a))

/-- ENROLL (R409); `ok`: the fuses verify. -/
def execEnroll (ok : Bool) (s : State) : Host.Outcome State Fault Refusal :=
  .next (s.keyStart (·.keyUnlocked (·.keyEnroll ok)))

/-- LCADV (R406, R407) to state `b`; `copies`: how many copies of the bit, from copy 0 on, are burnt and verify. -/
def execLcadv (b : Fin 128) (copies : Fin 4) (s : State) : Host.Outcome State Fault Refusal :=
  .next (s.keyStart (·.keyUnlocked (·.keyLcadv b copies)))

/-- ARBADV (R417, R421) to value `b`; `ok`: the fuses verify. -/
def execArbadv (b : Fin 128) (ok : Bool) (s : State) : Host.Outcome State Fault Refusal :=
  .next (s.keyStart (·.keyUnlocked (·.keyArbadv b ok)))

/-- REVOKE (R417) of signer `a`; `ok`: the fuses verify. -/
def execRevoke (a : Fin 128) (ok : Bool) (s : State) : Host.Outcome State Fault Refusal :=
  .next (s.keyStart (·.keyUnlocked (·.keyRevoke a ok)))

/-- FUSE (R404, R417); `ok`: the row verifies. -/
def execFuse (ok : Bool) (s : State) : Host.Outcome State Fault Refusal :=
  .next (s.keyStart (·.keyUnlocked (·.keyFuse ok)))

/-- KEY_COMMAND_DONE (R416). -/
def execKeyCommandDone (s : State) : Host.Outcome State Fault Refusal := .next s.keyDone

/-- SLOT_CHECK_SWEEP (R414). -/
def execSlotCheckSweep (s : State) : Host.Outcome State Fault Refusal := .next s.slotSweep

end Sys2Proof.Machine
end

