-- ==== Sys2Proof/Machine/Fabric.lean ====
section
/-! DEFINITION. Endpoint addresses, route comparison, tunnel contexts and the duplicate-discard table (spec/02_fabric_addressing.md, spec/07_ring_redundancy.md). -/

namespace Sys2Proof.Machine

/-- The fields of one of the four route tables, with its hop table (R59, R60, R187). -/
structure RouteFields where
  valid : Field
  mode : Field
  steer : Field
  alt : Field
  pri : Field
  hops : Field
  deriving DecidableEq, Repr

def stationRoutes : RouteFields :=
  ⟨FAB_STATION_VALID, FAB_STATION_MODE, FAB_STATION_STEER, FAB_STATION_ALT, FAB_STATION_PRI, FAB_HOP_STATION_HOPS⟩
def ringRoutes : RouteFields :=
  ⟨FAB_RING_VALID, FAB_RING_MODE, FAB_RING_STEER, FAB_RING_ALT, FAB_RING_PRI, FAB_HOP_RING_HOPS⟩
def chainRoutes : RouteFields :=
  ⟨FAB_CHAIN_VALID, FAB_CHAIN_MODE, FAB_CHAIN_STEER, FAB_CHAIN_ALT, FAB_CHAIN_PRI, FAB_HOP_CHAIN_HOPS⟩
def hubRoutes : RouteFields :=
  ⟨FAB_HUB_VALID, FAB_HUB_MODE, FAB_HUB_STEER, FAB_HUB_ALT, FAB_HUB_PRI, FAB_HOP_HUB_HOPS⟩

/-- The 168 route entries, numbered in table order: station 0–127, ring 128–135, chain 136–151, hub 152–167 (R59). -/
def routeOf (v : Nat) : RouteFields × Nat :=
  if v < 128 then (stationRoutes, v) else if v < 136 then (ringRoutes, v - 128)
  else if v < 152 then (chainRoutes, v - 136) else (hubRoutes, v - 152)

/-- States of a context slot (R69). -/
def ctxFree : Nat := 0
def ctxOpening : Nat := 1
def ctxOpen : Nat := 2
def ctxClosing : Nat := 3
def ctxRetired : Nat := 4

/-- Highest version of each protocol; every one starts at 1 (R66). -/
def maxVersion (proto : Nat) : Nat := [2, 3, 2, 3, 2, 2, 1, 2].getD proto 0

/-- The own PVER word (R74, R159). -/
def ownVersions : Nat := 0x23232212

/-- Codes with which a context command completes (register table of FAB_CTXSTAT). -/
inductive CtxCode where
  | ok | busy | badAddr | badClass | badVer | badPort | dupKey | noSlot | badOp | badProto
  deriving DecidableEq, Repr

/-- The numbers of the codes. -/
def CtxCode.code : CtxCode → Nat
  | .ok => 0 | .busy => 1 | .badAddr => 2 | .badClass => 3 | .badVer => 4 | .badPort => 5
  | .dupKey => 6 | .noSlot => 7 | .badOp => 8 | .badProto => 9

namespace State

/-- FAB_SELF bits [24:7] as an 18-bit prefix (R56). -/
def selfPrefix (s : State) : Nat :=
  ((s.rd FAB_SELF_STATION * 8 + s.rd FAB_SELF_RING) * 16 + s.rd FAB_SELF_CHAIN) * 16 + s.rd FAB_SELF_HUB

/-- The route entry that the comparison of R59 names; none: the destination prefix is the hub's own. -/
def routeIndex (s : State) (dest : Nat) : Option Nat :=
  let diff := prefixOf dest ^^^ s.selfPrefix
  if diff = 0 then none
  else if diff / 2 ^ 11 ≠ 0 then some (stationOf dest)
  else if diff / 2 ^ 8 ≠ 0 then some (128 + ringOf dest)
  else if diff / 2 ^ 4 ≠ 0 then some (136 + chainOf dest)
  else some (152 + hubOf dest)

/-- TRK0 runs KL2 (R167). -/
def kl2Active (s : State) : Bool := s.on TRK_KL2_STAT_ACTIVE

/-- Trunk `t` is a ring port: TRK0 or TRK1 of a member, TRK0 not in KL2 (R62, R174). -/
def ringPort (s : State) (t : Nat) : Bool :=
  s.on FAB_RING_CFG_EN && (t == 1 || (t == 0 && !s.kl2Active))

/-- Trunk `t` is UP (R157). -/
def trunkUp (s : State) (t : Nat) : Bool := s.rd TRK_STAT_STATE t == 4

/-- Seamless is agreed on trunk `t` (R161). -/
def seamless (s : State) (t : Nat) : Bool := s.on TRK_STAT_SEAMLESS t

/-- Ring port `t` is broken (R174, R186). -/
def portBroken (s : State) (t : Nat) : Bool :=
  !s.trunkUp t || !s.seamless t || Tab.get s.ring.lost t false || (t == 0 && s.kl2Active)

/-- A discard counted in FAB_CNT. -/
def fabCount (s : State) (i : Nat) : State := s.sat FAB_CNT_COUNT i

/-- A discard counted in FAB_DD_CNT. -/
def ddCount (s : State) (i : Nat) : State := s.sat FAB_DD_CNT_COUNT i

/-! The duplicate-discard table (R180 to R183). -/

/-- The entry of a stream. -/
def ddFind (s : State) (p : Packet) : Option DdEntry :=
  s.fab.dd.find? (fun e => e.src == p.src && e.tunid == p.tunid && e.dest == p.dest)

/-- The table replaced, and its occupancy shown. -/
def setDd (s : State) (l : List DdEntry) : State :=
  { ((s.wr FAB_DD_STAT_USED l.length).wr FAB_DD_STAT_FULL (bit (l.length ≥ 4096))) with fab := { s.fab with dd := l } }

/-- An entry of a stream that is in the table, replaced. -/
def ddReplace (s : State) (e : DdEntry) : State :=
  s.setDd (s.fab.dd.map (fun x => if x.src == e.src && x.tunid == e.tunid && x.dest == e.dest then e else x))

/-- The entry with the oldest time of last use (the first of those). -/
def ddOldest : List DdEntry → Option DdEntry
  | [] => none
  | e :: l =>
    match ddOldest l with
    | none => some e
    | some x => if e.used ≤ x.used then some e else some x

/-- A full table evicts its oldest entry (R182). -/
def ddEvict (s : State) : State :=
  if s.fab.dd.length < 4096 then s
  else
    match ddOldest s.fab.dd with
    | none => s
    | some o =>
      let s1 := (s.setDd (s.fab.dd.erase o)).ddCount 4
      { s1 with fab := { s1.fab with victims := ((o.src, o.tunid, o.dest) :: s1.fab.victims).take 16 } }

/-- A new stream's entry is allocated (R182). -/
def ddAllocate (s : State) (p : Packet) : State :=
  let s1 := if s.fab.victims.contains (p.src, p.tunid, p.dest) then s.ddCount 5 else s
  let s2 := s1.ddEvict
  s2.setDd (s2.fab.dd ++ [{ src := p.src, tunid := p.tunid, dest := p.dest, high := p.seq, map := 1, used := s.tmu.elapsed }])

/-- window_accept of R181: the state after, and whether the sequence is accepted. -/
def windowAccept (s : State) (p : Packet) : State × Bool :=
  match s.ddFind p with
  | none => (s.ddAllocate p, true)
  | some e0 =>
    let e := { e0 with used := s.tmu.elapsed }
    let d := signedOf 16 ((p.seq + 2 ^ 16 - e.high) % 2 ^ 16)
    if d > 0 then
      (s.ddReplace { e with map := if d ≥ 64 then 1 else (e.map * 2 ^ d.toNat + 1) % 2 ^ 64, high := p.seq }, true)
    else if d > -64 then
      if e.map.testBit (-d).toNat then (s.ddReplace e, false)
      else (s.ddReplace { e with map := withBit e.map (-d).toNat true }, true)
    else ((s.ddReplace { e with high := p.seq, map := 1 }).ddCount 3, true)

/-- seen of R181 for an entry marked INJ (R178). -/
def injSeen (s : State) (p : Packet) : Bool :=
  match s.ddFind p with
  | none => false
  | some e =>
    let d := signedOf 16 ((p.seq + 2 ^ 16 - e.high) % 2 ^ 16)
    e.inj && d ≤ 0 && d > -64 && e.map.testBit (-d).toNat

/-- The stream's entry is marked INJ (R176). -/
def ddMark (s : State) (p : Packet) : State :=
  match s.ddFind p with
  | none => s
  | some e => s.ddReplace { e with inj := true }

/-- The check of R177; with DD_CFG.EN = 0 every copy passes. A refused copy counts in DUP. -/
def windowCheck (s : State) (p : Packet) : State × Bool :=
  if !s.on FAB_DD_CFG_EN then (s, true)
  else
    match s.windowAccept p with
    | (s1, true) => (s1, true)
    | (s1, false) => (s1.ddCount 0, false)

/-! Local delivery and routing (R59 to R62, R175 to R179). -/

/-- Slot numbers of contexts. -/
def slots : List Nat := (List.range 253).drop 1

/-- The terminus slot that a packet's key (source address, tunnel ID) matches (R65). -/
def terminusOf (s : State) (src tunid : Nat) : Option Nat :=
  slots.find? (fun n => s.rd CTX3_STATE n != ctxFree && s.on CTX2_DIR n &&
    s.rd CTX0_KEYSRC n == src && s.rd CTX2_TUNID n == tunid)

/-- Delivery at this hub (R61): the port and terminus slot, or the discard. -/
def localDelivery (s : State) (p : Packet) : State × Option (Nat × Nat) :=
  if p.tunid = 0 then (s, some (21, 0))
  else if p.tunid ≥ 253 then (s.fabCount 1, none)
  else if !functionExists (p.dest % 128) then (s.fabCount 4, none)
  else if !s.on FAB_SELF_VALID then (s.fabCount 3, none)
  else
    match s.terminusOf p.src p.tunid with
    | none => (s.fabCount 3, none)
    | some n =>
      if s.rd CTX3_STATE n = ctxOpen || s.rd CTX3_STATE n = ctxClosing then (s, some (s.rd CTX2_PORT n, n))
      else (s.sat CTX5_DISCARDS n, none)

/-- A copy for egress trunk `e`, or its discard in BREAKDROP: its ring port is broken (R179), or it carries DUP = 1 to a trunk without seamless (R161, R179). -/
def trunkCopy (s : State) (c : Copy) (e : Nat) : State × List Copy :=
  if (s.ringPort e && s.portBroken e) || (c.hdr.dup && !s.seamless e) then (s.ddCount 6, [])
  else (s, [{ c with eport := e }])

/-- A copy that leaves the ring, or arrives with DUP = 1 on another trunk, for egress trunk `e` (R177). -/
def leaveRing (s : State) (c : Copy) (e : Nat) : State × List Copy :=
  if !c.hdr.dup then s.trunkCopy c e
  else
    match s.windowCheck c.hdr with
    | (s1, false) => (s1, [])
    | (s1, true) => s1.trunkCopy { c with hdr := { c.hdr with dup := s1.seamless e } } e

/-- A packet of class 7 or 6 that enters the ring is sent on PRI and ALT with DUP = 1 (R176). -/
def inject (s : State) (c : Copy) (pri alt : Nat) : State × List Copy :=
  let c1 := { c with hdr := { c.hdr with dup := true }, ring := true }
  let both (s : State) : State × List Copy :=
    let a := s.trunkCopy c1 pri
    let b := a.1.trunkCopy c1 alt
    (b.1, a.2 ++ b.2)
  if prefixOf c.hdr.src = s.selfPrefix || !s.on FAB_DD_CFG_EN then both s
  else
    match s.windowAccept c.hdr with
    | (s1, false) => (s1.ddCount 0, [])
    | (s1, true) => both (s1.ddMark c.hdr)

/-- The route of a packet from ingress port `c.iport` (R59 to R61, R175 to R179): its copies, or its discard. -/
def route (s : State) (c : Copy) : State × List Copy :=
  let fromTrunk := c.iport < 4
  let fromRing := fromTrunk && s.ringPort c.iport
  match s.routeIndex c.hdr.dest with
  | none =>
    match s.localDelivery c.hdr with
    | (s1, none) => (s1, [])
    | (s1, some (port, term)) =>
      if c.hdr.dup && fromTrunk then
        match s1.windowCheck c.hdr with
        | (s2, false) => (s2, [])
        | (s2, true) => (s2, [{ c with hdr := { c.hdr with dup := false }, eport := port, term := term }])
      else (s1, [{ c with hdr := { c.hdr with dup := false }, eport := port, term := term }])
  | some v =>
    let R := (routeOf v).1
    let i := (routeOf v).2
    if !s.on R.valid i then (s.fabCount 2, [])
    else
      let pri := s.rd R.pri i
      let alt := s.rd R.alt i
      let chosen := if s.on R.steer i then alt else pri
      match s.rd R.mode i with
      | 1 =>
        if fromRing then
          s.trunkCopy { c with ring := true } (1 - c.iport)
        else if seamlessClass c.hdr.cls then s.inject c pri alt
        else s.trunkCopy { c with ring := true } chosen
      | m =>
        let e := if m = 2 then chosen else pri
        if fromTrunk && e = c.iport then (s.fabCount 2, [])
        else if fromRing && s.ringPort e then s.trunkCopy c e
        else s.leaveRing c e

/-- FAB_CONFLICT latches the first conflict (R62). -/
def latchConflict (s : State) (t src : Nat) : State :=
  if s.on FAB_CONFLICT_VALID then s
  else ((s.wr FAB_CONFLICT_VALID 1).wr FAB_CONFLICT_TRUNK t).wr FAB_CONFLICT_SOURCE src

/-- Stage 2 for a packet received on a trunk (R54, R59 to R62, R178). -/
def classifyTrunk (s : State) (c : Copy) : State × List Copy :=
  let t := c.iport
  if !addrValid c.hdr.src || !addrValid c.hdr.dest then (s.fabCount 0, [])
  else if prefixOf c.hdr.src = s.selfPrefix then
    if s.ringPort t then
      if c.hdr.dup then (s.ddCount 1, []) else (s.fabCount 5, [])
    else (((s.fabCount 6).latchConflict t c.hdr.src).fault 78 t, [])
  else if c.hdr.dup && s.ringPort t && s.on FAB_DD_CFG_EN && s.injSeen c.hdr then (s.ddCount 2, [])
  else s.route c

/-- Stage 2 for a packet that originates at this hub (R54, R59 to R61). -/
def classifyLocal (s : State) (c : Copy) : State × List Copy :=
  if prefixOf c.hdr.dest ≠ s.selfPrefix && !addrValid c.hdr.dest then (s.fabCount 0, []) else s.route c

/-- Every destination of a set classified in turn (R68). -/
def classifyEach (s : State) (c : Copy) : List Nat → State × List Copy
  | [] => (s, [])
  | d :: ds =>
    let a := s.classifyLocal { c with hdr := { c.hdr with dest := d } }
    let b := a.1.classifyEach c ds
    (b.1, a.2 ++ b.2)

/-- The destinations of an origin slot (R68). -/
def destinations (s : State) (n : Nat) : List Nat :=
  if s.rd CTX6_MCAST_CNT n = 0 then [s.rd CTX1_DEST n]
  else (List.range (s.rd CTX6_MCAST_CNT n)).map (fun k => s.rd FAB_DLIST_DEST (s.rd CTX6_MCAST_BASE n + k))

/-- The header that origin slot `n` gives a payload (R56, R64, R66). -/
def originHeader (s : State) (n cls : Nat) (payload : List Byte) : Packet :=
  { cls := cls, tunid := n, src := s.selfPrefix * 128 + s.rd CTX0_KEYSRC n % 128, dest := s.rd CTX1_DEST n,
    seq := s.rd CTX7_SEQ n, payload := payload }

/-- Origin slot `n` admits a packet: PACKETS and SEQ advance (R69, log entry 13). -/
def originTake (s : State) (n : Nat) : State := (s.wrap CTX4_PACKETS n).wrap CTX7_SEQ n

/-- The slot admits adapter data: OPEN, with the hub's prefix valid (R69, FAB_SELF.VALID). -/
def originReady (s : State) (n : Nat) : Bool := s.rd CTX3_STATE n = ctxOpen && s.on FAB_SELF_VALID

/-- Copies that were admitted at a terminus count in its PACKETS and set its SEQ (R61). -/
def terminusCount (s : State) (l : List Copy) : State :=
  s.each l (fun s c => if c.term = 0 then s else (s.wrap CTX4_PACKETS c.term).wr CTX7_SEQ c.hdr.seq c.term)

/-! Context commands (R69 to R71). -/

/-- The checks of OPEN on the slot's words, in their order (R70). -/
def openCheck (s : State) (n : Nat) : CtxCode :=
  let proto := s.rd CTX2_PROTO n
  let ver := s.rd CTX2_VER n
  let cls := s.rd CTX2_CLASS n
  let term := s.on CTX2_DIR n
  let port := s.rd CTX2_PORT n
  let key := s.rd CTX0_KEYSRC n
  if proto > 7 then .badProto
  else if ver = 0 || ver > maxVersion proto then .badVer
  else if cls ≥ 6 && !([0, 4, 6].contains proto) then .badClass
  else if term && !(if proto = 0 then 4 ≤ port && port ≤ 11 else 12 ≤ port && port ≤ 15) then .badPort
  else if term && (!addrValid key || !functionExists (s.rd CTX1_DEST n % 128)) then .badAddr
  else if !term && (s.rd CTX6_MCAST_BASE n + s.rd CTX6_MCAST_CNT n > 256 ||
      !(s.destinations n).all addrValid || !functionExists (key % 128)) then .badAddr
  else if term && slots.any (fun m => m != n && s.rd CTX3_STATE m != ctxFree && s.on CTX2_DIR m &&
      s.rd CTX0_KEYSRC m == key && s.rd CTX2_TUNID m == s.rd CTX2_TUNID n) then .dupKey
  else .ok

/-- Slot `n` enters a state of R69; the timer of the state starts with the value that FAB_TIMERS has now. -/
def ctxEnter (s : State) (n st : Nat) : State :=
  let s1 := s.wr CTX3_STATE st n
  if st = ctxOpening then s1.arm (.slot n) (s.rd FAB_TIMERS_OPEN_TO * 10000000)
  else if st = ctxClosing then s1.arm (.slot n) (s.rd FAB_TIMERS_CLOSE_TO * 1000000)
  else if st = ctxRetired then s1.arm (.slot n) (s.rd FAB_TIMERS_RETIRE * 1000000)
  else s1.disarm (.slot n)

/-- What the expiry of the timer of slot `n` does, where it has run out (R69). -/
def ctxExpiry (s : State) (n : Nat) : Option State :=
  if !s.due (.slot n) then none
  else if s.rd CTX3_STATE n = ctxOpening then some ((s.ctxEnter n ctxFree).fabCount 7)
  else if s.rd CTX3_STATE n = ctxClosing then some (s.ctxEnter n ctxRetired)
  else if s.rd CTX3_STATE n = ctxRetired then some (s.ctxEnter n ctxFree)
  else none

/-- OPEN of slot `n` takes effect: SEQ 0, DISCARDS cleared, the policer filled (R69, R226, context words 5 and 7). -/
def openSlot (s : State) (n : Nat) : State :=
  let s1 := ((s.ctxEnter n ctxOpening).wr CTX5_DISCARDS 0 n).wr CTX7_SEQ 0 n
  { s1 with shp := { s1.shp with policer := Tab.put s1.shp.policer n none none } }

/-- The state that a command takes slot `n` to, or none where the state does not allow it (R69). -/
def ctxTarget (s : State) (op n : Nat) : Option Nat :=
  let st := s.rd CTX3_STATE n
  match op with
  | 1 => if st = ctxFree then some ctxOpening else none
  | 2 => if st = ctxOpening then some ctxOpen else none
  | 3 => if st = ctxOpening || st = ctxOpen then
           some (if !s.on CTX2_DIR n && Tab.get s.fab.inflight n 0 = 0 then ctxRetired else ctxClosing)
         else none
  | _ => if st = ctxOpening || st = ctxOpen || st = ctxClosing then some ctxRetired else none

/-- A command is judged (R70): its effect on the slot, and the code it completes with. -/
def ctxJudge (s : State) (op n : Nat) : State × CtxCode :=
  if op = 0 || op > 4 then (s, .badOp)
  else if n = 0 || n > 252 then (s, .noSlot)
  else
    match s.ctxTarget op n with
    | none => (s, .busy)
    | some st =>
      if op = 1 then
        match s.openCheck n with
        | .ok => (s.openSlot n, .ok)
        | e => (s, e)
      else (s.ctxEnter n st, .ok)

/-- A command starts: BUSY until it completes with this code (R70); `opens`: it is an OPEN that took effect. -/
def ctxStart (s : State) (n : Nat) (code : CtxCode) (opens : Bool) : State :=
  { (s.wr FAB_CTXSTAT_BUSY 1) with fab := { s.fab with cmdCode := code.code, cmdSlot := n, cmdOpen := opens } }

/-- A command is written to FAB_CTXCMD (R70): ignored with OVR while BUSY. A timer of the slot that has run out wins: it expires, and the command completes with BUSY. -/
def ctxCommand (s : State) (op n : Nat) : State :=
  if s.on FAB_CTXSTAT_BUSY then s.wr FAB_CTXSTAT_OVR 1
  else
    match if 1 ≤ op && op ≤ 4 && 1 ≤ n && n ≤ 252 then s.ctxExpiry n else none with
    | some s1 => s1.ctxStart n .busy false
    | none =>
      let r := s.ctxJudge op n
      r.1.ctxStart n r.2 (op == 1 && r.2 == .ok)

/-- The command in progress completes (R70). -/
def ctxComplete (s : State) : State :=
  if s.on FAB_CTXSTAT_BUSY then
    ((s.wr FAB_CTXSTAT_BUSY 0).wr FAB_CTXSTAT_CODE s.fab.cmdCode).wr FAB_CTXSTAT_LASTSLOT s.fab.cmdSlot
  else s

/-- A context write was ignored (R71). -/
def ctxLate (s : State) : State := s.wr FAB_CTXSTAT_LATE 1

/-- TUNID of a slot as it reads: an origin's is its slot number (context word 2). -/
def ctxTunid (s : State) (n : Nat) : Nat := if s.on CTX2_DIR n then s.rd CTX2_TUNID n else n

/-- A write of word 2 of a FREE slot (R29, R71): a PORT code of 23–31 keeps PORT and sets LATE; an origin's TUNID is not written. -/
def ctxWord2Free (s : State) (n w : Nat) : State :=
  let s1 := s.writeFields false [CTX2_DIR, CTX2_VER, CTX2_PROTO, CTX2_CLASS] n 0 w
  let s2 := if w.testBit 21 then s1.writeField false CTX2_TUNID n 0 w else s1
  if bitsOf w 28 24 ≤ 22 then s2.writeField false CTX2_PORT n 0 w else s2.ctxLate

/-- A write of word 2 of an OPEN slot: a class change between two values in 0–5 and nothing else (R71). TUNID is compared as it reads, although an origin's is not writable, so that other bits there make the write one that changes another field (DESIGN CHOICE, log entry 63). -/
def ctxWord2Open (s : State) (n w : Nat) : State :=
  let same := bitsOf w 28 24 = s.rd CTX2_PORT n && bitsOf w 21 21 = s.rd CTX2_DIR n &&
    bitsOf w 19 16 = s.rd CTX2_VER n && bitsOf w 15 12 = s.rd CTX2_PROTO n && bitsOf w 7 0 = s.ctxTunid n
  if same && bitsOf w 10 8 ≤ 5 && s.rd CTX2_CLASS n ≤ 5 then s.wr CTX2_CLASS (bitsOf w 10 8) n else s.ctxLate

/-- The writable fields of context word `k` but word 2. -/
def ctxFields (k : Nat) : List Field :=
  match k with
  | 0 => [CTX0_KEYSRC]
  | 1 => [CTX1_DEST]
  | 3 => [CTX3_PARTNER]
  | 6 => [CTX6_MCAST_CNT, CTX6_MCAST_BASE]
  | _ => []

/-- A write of word `k` of context slot `n` (R29, R71). -/
def ctxWordWrite (s : State) (n k w : Nat) : State :=
  if n = 0 then s
  else
    let st := s.rd CTX3_STATE n
    if st = ctxFree then
      if k = 2 then s.ctxWord2Free n w else s.writeFields false (ctxFields k) n 0 w
    else if st = ctxOpening && k = 3 then s.writeFields false (ctxFields 3) n 0 w
    else if st = ctxOpen && k = 2 then s.ctxWord2Open n w
    else s.ctxLate

/-- Slot `n` refers to entry `k` of the destination list and is not FREE (R68). -/
def dlistUsed (s : State) (k : Nat) : Bool :=
  slots.any (fun n => s.rd CTX3_STATE n != ctxFree && !s.on CTX2_DIR n &&
    s.rd CTX6_MCAST_BASE n ≤ k && k < s.rd CTX6_MCAST_BASE n + s.rd CTX6_MCAST_CNT n)

/-- A write of destination-list entry `k` (R68). -/
def dlistWrite (s : State) (k w : Nat) : State :=
  if s.dlistUsed k then s.ctxLate else s.wr FAB_DLIST_DEST w k

/-- The timer of slot `n` expires in state `st` (R69), where it has run out. -/
def ctxTimer (s : State) (n st : Nat) : State :=
  if s.rd CTX3_STATE n = st then (s.ctxExpiry n).getD s else s

/-- A CLOSING origin slot with nothing in flight becomes RETIRED (R69). -/
def ctxDrained (s : State) (n : Nat) : State :=
  if s.rd CTX3_STATE n = ctxClosing && !s.on CTX2_DIR n && Tab.get s.fab.inflight n 0 = 0 then s.ctxEnter n ctxRetired else s

/-- FLUSH (R183): every entry is free and the victim list empty. -/
def ddFlush (s : State) : State :=
  let s1 := s.setDd []
  { s1 with fab := { s1.fab with victims := [] } }

/-- The entries unused for longer than AGE become free (R180); one used again in the very cycle of its expiry stays (R183). -/
def ddAge (s : State) : State :=
  let age := s.rd FAB_DD_CFG_AGE * 1000000 * 2 ^ 32
  s.setDd (s.fab.dd.filter (fun e => s.tmu.elapsed ≤ e.used + age))

/-! Packets of internal ports that wait (R200, R227). -/

/-- The packets that internal port `p` holds back, oldest first. -/
def waiting (s : State) (p : Nat) : List Held := Tab.get s.xsw.held p []

/-- Port `p` is internal and holds its adapter (R200, R227). -/
def portHeld (s : State) (p : Nat) : Bool := !(s.waiting p).isEmpty

/-- The packets that port `p` holds replaced. -/
def setHeld (s : State) (p : Nat) (l : List Held) : State :=
  { s with xsw := { s.xsw with held := Tab.put s.xsw.held p l [] } }

/-- Stage 4 for a packet whose copies are known: linked, refused, or held before the others of its port at its ingress limit (R199, R200). -/
def admitOrigin (s : State) (h : Held) (p : Nat) : State × Sent :=
  match s.admitWhole h.copies with
  | (s1, .hold) => (s1.setHeld p ({ h with policing := false } :: s1.waiting p), .held)
  | (s1, .judged l) => (s1.terminusCount (admitted l), if (admitted l).isEmpty then .dropped else .sent)

/-- Stage 4 for a new packet of internal port `p`: it waits behind the packets that the port holds (R200). -/
def sendOrigin (s : State) (h : Held) (p : Nat) : State × Sent :=
  if s.portHeld p then (s.setHeld p (s.waiting p ++ [{ h with policing := false }]), .held) else s.admitOrigin h p

/-- A tunnel-0 packet of class 5 that management firmware sends from P21 to an address (R72, R74, R166, R360). -/
def sendTunnel0 (s : State) (dest : Nat) (payload : List Byte) : State :=
  let c : Copy :=
    { hdr := { cls := 5, src := s.selfPrefix * 128, dest := dest, payload := payload }, iport := 21,
      cost := costOf payload.length, rx := s.tmu.tod, traced := s.on TMU_STAT_TVALID, eIn := s.tmu.elapsed }
  let a := s.classifyLocal c
  if a.2.isEmpty then a.1 else (a.1.sendOrigin { hdr := c.hdr, copies := a.2 } 21).1

end State

/-- CTX_OPEN (R70): OP = 1 with GO written for a slot code. -/
def execCtxOpen (n : Fin 256) (s : State) : Host.Outcome State Fault Refusal := .next (s.ctxCommand 1 n)

/-- CTX_ACTIVATE (R69, R70). -/
def execCtxActivate (n : Fin 256) (s : State) : Host.Outcome State Fault Refusal := .next (s.ctxCommand 2 n)

/-- CTX_CLOSE (R69, R70). -/
def execCtxClose (n : Fin 256) (s : State) : Host.Outcome State Fault Refusal := .next (s.ctxCommand 3 n)

/-- CTX_ABORT (R69, R70). -/
def execCtxAbort (n : Fin 256) (s : State) : Host.Outcome State Fault Refusal := .next (s.ctxCommand 4 n)

/-- CONTEXT_WORD_WRITE (R71): word `k` of slot `n`. -/
def execContextWordWrite (n : Fin 253) (k : Fin 8) (w : Word) (s : State) : Host.Outcome State Fault Refusal :=
  .next (s.ctxWordWrite n k w.toNat)

/-- DESTINATION_LIST_WRITE (R68). -/
def execDestinationListWrite (k : Fin 256) (w : Word) (s : State) : Host.Outcome State Fault Refusal :=
  .next (s.dlistWrite k w.toNat)

/-- OPEN_TO_EXPIRY (R69). -/
def execOpenToExpiry (n : Fin 253) (s : State) : Host.Outcome State Fault Refusal :=
  .next (s.ctxTimer n ctxOpening)

/-- CLOSE_TO_EXPIRY (R69). -/
def execCloseToExpiry (n : Fin 253) (s : State) : Host.Outcome State Fault Refusal :=
  .next (s.ctxTimer n ctxClosing)

/-- RETIRE_EXPIRY (R69). -/
def execRetireExpiry (n : Fin 253) (s : State) : Host.Outcome State Fault Refusal :=
  .next (s.ctxTimer n ctxRetired)

/-- INFLIGHT_DRAINED (R69): a CLOSING origin slot with nothing in flight. -/
def execInflightDrained (n : Fin 253) (s : State) : Host.Outcome State Fault Refusal :=
  .next (s.ctxDrained n)

/-- DD_ENTRY_AGE (R180). -/
def execDdEntryAge (s : State) : Host.Outcome State Fault Refusal := .next s.ddAge

/-- DD_FLUSH (R183). -/
def execDdFlush (s : State) : Host.Outcome State Fault Refusal := .next s.ddFlush

end Sys2Proof.Machine
end

