-- ==== Sys2Proof/Machine/LineCode.lean ====
section
/-! DEFINITION. What stands on a lane: serial order (R121), the scrambler (R122), link blocks and framing (R142 to R144), KL2 columns (R132, R168) and PRBS sequences (R137, R138). -/

namespace Sys2Proof.Machine

/-- The bits of a byte, least significant first (R121). -/
def byteBits (b : Byte) : List Bool := (List.range 8).map (fun j => b.toNat.testBit j)

/-- The bits of bytes in transmit order (R121). -/
def payloadBits (bs : List Byte) : List Bool := bs.flatMap byteBits

/-- The two header bits in the order written (R121). -/
def headerBits (h : Nat) : List Bool := [h.testBit 1, h.testBit 0]

/-- The byte of eight bits, least significant first. -/
def bitsByte (l : List Bool) : Byte := BitVec.ofNat 8 (l.foldr (fun b n => 2 * n + bit b) 0)

/-- The bytes of bits in transmit order; a rest of fewer than eight bits is dropped. -/
def bitsBytes : Nat → List Bool → List Byte
  | 0, _ => []
  | n + 1, l => bitsByte (l.take 8) :: bitsBytes n (l.drop 8)

/-! The self-synchronising scrambler x^58 + x^39 + 1 (R122). -/

/-- The bit that the last 58 line bits `r` (newest in bit 0) add to the next one. -/
def scrTap (r : Nat) : Bool := r.testBit 38 ^^ r.testBit 57

/-- The last 58 line bits after one more. -/
def scrPush (r : Nat) (b : Bool) : Nat := (2 * r + bit b) % 2 ^ 58

/-- Scrambled bits, and the last 58 of them. -/
def scramble : Nat → List Bool → List Bool × Nat
  | r, [] => ([], r)
  | r, b :: l =>
    let o := b ^^ scrTap r
    let x := scramble (scrPush r o) l
    (o :: x.1, x.2)

/-- Descrambled bits, and the last 58 received. -/
def descramble : Nat → List Bool → List Bool × Nat
  | r, [] => ([], r)
  | r, b :: l =>
    let x := descramble (scrPush r b) l
    ((b ^^ scrTap r) :: x.1, x.2)

/-! Alignment blocks (R123, R127). -/

/-- The alignment block of logical lane `k` (R123); `bip`: the parity of what the lane has sent since the last one. -/
def alignBlock (k bip : Nat) : List Byte :=
  [0x4D, 0x61, 0xB2, 0x9E] ++ beBytes 1 (0xA8 + k % 4) ++ beBytes 1 (0x57 - k % 4) ++ beBytes 1 bip ++ beBytes 1 (255 - bip % 256)

/-- A received block is a good alignment block for a bond of `w` lanes (R123). -/
def alignGood (hdr : Nat) (b : List Byte) (w : Nat) : Bool :=
  let f (o : Nat) : Nat := ofBe ((b.drop o).take 1)
  hdr == 2 && b.length == 8 && b.take 4 == [0x4D, 0x61, 0xB2, 0x9E] && f 4 / 4 == 0x2A && f 5 == 255 - f 4 && f 4 % 4 < w

/-- A block with all its bits inverted (R127). -/
def invertBlock (b : LineBlock) : LineBlock := (3 - b.1 % 4, b.2.map (fun x => ~~~x))

/-- A received block as the lane's effective inversion shows it (R127). -/
def seenBlock (inv : Bool) (b : LineBlock) : LineBlock := if inv then invertBlock b else b

/-- The even parity of each bit position over bytes (R123). -/
def parityOf (bs : List Byte) : Nat := bs.foldl (fun p x => p ^^^ x.toNat) 0

/-- The bits 0–7 of BIP that differ from the receiver's own parity or whose BIP_N is not their complement (R123). -/
def bipMismatch (b : List Byte) (parity : Nat) : Nat :=
  let bip := ofBe ((b.drop 6).take 1)
  let inv := 255 - ofBe ((b.drop 7).take 1)
  (List.range 8).foldl (fun k j => k + bit (bip.testBit j != parity.testBit j || bip.testBit j != inv.testBit j)) 0

/-! Link blocks (R142 to R144). -/

/-- IDLE. -/
def idleBlock : LineBlock := (2, [0x1E, 0, 0, 0, 0, 0, 0, 0])

/-- TERM with the final bytes of a packet, at most seven. -/
def termBlock (b : List Byte) : LineBlock := (2, beBytes 1 (0x80 + b.length) ++ b ++ List.replicate (7 - b.length) 0)

/-- Data blocks of eight bytes each, then TERM with the rest; `n`: the data blocks. -/
def dataBlocks : Nat → List Byte → List LineBlock
  | 0, b => [termBlock b]
  | n + 1, b => (1, b.take 8) :: dataBlocks n (b.drop 8)

/-- A packet as the hub sends it: START with bytes 0–6, data blocks, TERM with (N − 7) mod 8 bytes (R143, R144). -/
def packetBlocks (b : List Byte) : List LineBlock := (2, (0x78 : Byte) :: b.take 7) :: dataBlocks ((b.length - 7) / 8) (b.drop 7)

/-- How a received packet ended (R143, R148): at its TERM, by a framing error, or past 9,264 bytes. -/
inductive Ended where
  | term | frame | long
  deriving DecidableEq, Repr

/-- The type of a control block. -/
def blockType (b : LineBlock) : Nat := ofBe (b.2.take 1)

/-- The blocks after START, as far as the packet goes (R142, R143): its bytes after `got`, how it ended, and the CREDIT blocks inside it. A stream that stops inside the packet is a framing error. -/
def deframe : List Byte → List LineBlock → List Byte × Ended × List (List Byte)
  | got, [] => (got, .frame, [])
  | got, b :: l =>
    if got.length > 9264 then (got, .long, [])
    else if b.1 = 1 then deframe (got ++ b.2) l
    else if b.1 = 2 && blockType b = 0x33 then
      let r := deframe got l
      (r.1, r.2.1, b.2 :: r.2.2)
    else if b.1 = 2 && 0x80 ≤ blockType b && blockType b ≤ 0x87 then
      let x := got ++ (b.2.drop 1).take (blockType b - 0x80)
      (x, if x.length > 9264 then .long else .term, [])
    else (got, .frame, [])

/-- A packet of the stream from its START; none where the first block is not START, so that no packet is in progress. -/
def takePacket : List LineBlock → Option (List Byte × Ended × List (List Byte))
  | [] => none
  | b :: l => if b.1 = 2 && blockType b = 0x78 then some (deframe (b.2.drop 1) l) else none

/-! KL2 code groups (R132, R168). -/

/-- K28.3, K28.4, K28.5, K28.7 and K29.7. -/
def k28_3 : CodeGroup := (true, 0x7C)
def k28_4 : CodeGroup := (true, 0x9C)
def k28_5 : CodeGroup := (true, 0xBC)
def k28_7 : CodeGroup := (true, 0xFC)
def k29_7 : CodeGroup := (true, 0xFD)

/-- Code groups in columns of four, lanes 0 to 3; the last is filled with K28.5. -/
def columns : Nat → List CodeGroup → List (List CodeGroup)
  | 0, _ => []
  | n + 1, l => ((l ++ [k28_5, k28_5, k28_5]).take 4) :: columns n (l.drop 4)

/-- A KL2 packet striped over lanes 0 to 3 (R168). -/
def kl2Stripe (b : List Byte) : List (List CodeGroup) :=
  columns ((b.length + 5) / 4) ([k28_7] ++ b.map (fun x => (false, x)) ++ [k29_7])

/-- The bytes up to K29.7; none where another control code group comes first, or K29.7 does not come. -/
def kl2Data : List CodeGroup → Option (List Byte)
  | [] => none
  | g :: l => if g = k29_7 then some [] else if g.1 then none else (kl2Data l).map (fun r => g.2 :: r)

/-- The bytes of a KL2 packet from its columns (R168). -/
def kl2Unstripe (c : List (List CodeGroup)) : Option (List Byte) :=
  match c.flatten with
  | [] => none
  | g :: l => if g = k28_7 then kl2Data l else none

/-! PRBS sequences (R137, R138). -/

/-- Length and second tap of a pattern: x^7 + x^6 + 1, x^15 + x^14 + 1, x^31 + x^28 + 1. -/
def prbsTaps (pat : Nat) : Nat × Nat := match pat with
  | 0 => (7, 6)
  | 1 => (15, 14)
  | _ => (31, 28)

/-- The next bit of a pattern after the bits `r` (newest in bit 0). -/
def prbsBit (pat r : Nat) : Bool := r.testBit ((prbsTaps pat).1 - 1) ^^ r.testBit ((prbsTaps pat).2 - 1)

/-- The register after one more bit. -/
def prbsPush (pat r : Nat) (b : Bool) : Nat := (2 * r + bit b) % 2 ^ (prbsTaps pat).1

/-- The next `n` bits of a pattern, and the register after them. -/
def prbsRun (pat : Nat) : Nat → Nat → List Bool × Nat
  | 0, r => ([], r)
  | n + 1, r =>
    let x := prbsRun pat n (prbsPush pat r (prbsBit pat r))
    (prbsBit pat r :: x.1, x.2)

namespace Checker

/-- A received bit while the checker seeds itself: 64 consecutive bits as the pattern continues those before them lock it (R138). -/
def seed (pat : Nat) (c : Checker) (b : Bool) : Checker :=
  let full := c.fill ≥ (prbsTaps pat).1
  let run := if full && b == prbsBit pat c.reg then c.run + 1 else 0
  { c with reg := prbsPush pat c.reg b, fill := if full then c.fill else c.fill + 1, run := run, lock := run ≥ 64, pos := 0, bad := 0 }

/-- A received bit compared with the checker's own sequence; 256 mismatches in a window of 1,024 bits lose lock, and the checker seeds itself again (R138). -/
def compare (pat : Nat) (c : Checker) (b : Bool) : Checker :=
  let own := prbsBit pat c.reg
  let bad := c.bad + bit (b != own)
  let lost := bad ≥ 256
  let ends := c.pos + 1 ≥ 1024
  { reg := if lost then 0 else prbsPush pat c.reg own, fill := if lost then 0 else c.fill, run := 0, lock := !lost,
    pos := if lost || ends then 0 else c.pos + 1, bad := if lost || ends then 0 else bad,
    bits := c.bits + 1, errs := c.errs + bit (b != own), losses := c.losses + bit lost }

/-- A received bit. -/
def take (pat : Nat) (c : Checker) (b : Bool) : Checker := if c.lock then c.compare pat b else c.seed pat b

/-- Received bits in order. -/
def takeAll (pat : Nat) (c : Checker) (l : List Bool) : Checker := l.foldl (fun c b => c.take pat b) c

end Checker

end Sys2Proof.Machine
end

