-- ==== Sys2Proof/Machine/Line.lean ====
section
/-! DEFINITION. The transmit side of the lanes: which lanes a trunk sends on, blocks scrambled and put out in serial order, and a trunk's stream of link blocks (R121, R122, R124, R128, R137, R141). -/

namespace Sys2Proof.Machine

/-- Lanes of a width code. -/
def lanesOf (w : Nat) : Nat := if w = 0 then 0 else 2 ^ (w - 1)

namespace State

/-- The link layer of trunk `t`. -/
def trunk (s : State) (t : Nat) : Trunk := Tab.get s.trunks t {}

/-- The link layer of trunk `t` replaced. -/
def setTrunk (s : State) (t : Nat) (x : Trunk) : State := { s with trunks := Tab.put s.trunks t x {} }

/-- TRK3 runs in Vexbel trunk mode (R484). -/
def trunkMode (s : State) : Bool := s.rd UPD_ALTSTAT_MODE == 2

/-- TRK3 runs on the USB-C lanes (R31). -/
def onUsbC (s : State) (t : Nat) : Bool := t = 3 && s.trunkMode

/-- The lanes that receive a trunk's logical lanes 0, 1, … at the widest setting (R30, R31). -/
def rxLanes (s : State) (t : Nat) : List Nat :=
  if s.onUsbC t then [25, 27] else [4 * t, 4 * t + 1, 4 * t + 2, 4 * t + 3]

/-- The lanes that send a trunk's logical lanes (R31, R128). -/
def txLanes (s : State) (t : Nat) : List Nat :=
  if s.onUsbC t then [24, 26] else [4 * t, 4 * t + 1, 4 * t + 2, 4 * t + 3]

/-- Every lane that serves a trunk. -/
def trunkLanes (s : State) (t : Nat) : List Nat :=
  if s.onUsbC t then [24, 25, 26, 27] else [4 * t, 4 * t + 1, 4 * t + 2, 4 * t + 3]

/-- Logical lanes that trunk `t` sends on (R128, R158): every lane up to MAXW in BOND and TRAIN, the agreed width from SEAL on, in HOLD those of the state before it. -/
def sendLanes (s : State) (t : Nat) : Nat :=
  let st := s.rd TRK_STAT_STATE t
  let wide := lanesOf (s.trunk t).maxw
  let agreed := lanesOf (s.rd TRK_STAT_WIDTH t)
  if st = 1 || st = 2 then wide
  else if st = 3 || st = 4 then agreed
  else if st = 5 then (if s.rd TRK_STAT_REASON t = 6 then agreed else wide)
  else 0

/-- Lane `n` sends nothing: disabled, or electrically idle by its taps (R140). -/
def laneQuiet (s : State) (n : Nat) : Bool :=
  !s.on LNE_CTRL_EN n || (s.rd LNE_TXEQ_PRE n == 0 && s.rd LNE_TXEQ_MAIN n == 0 && s.rd LNE_TXEQ_POST n == 0)

/-- Bits put out on lane `n`, inverted under TXPOL (R127). -/
def putLine (s : State) (n : Nat) (l : List Bool) : State :=
  { s with lne := { s.lne with
    line := Tab.put s.lne.line n (Tab.get s.lne.line n [] ++ l.map (· ^^ s.on LNE_CTRL_TXPOL n)) [] } }

/-- The next `k` bits of the lane's generator put out (R137). -/
def prbsOut (s : State) (n k : Nat) : State :=
  if !s.on LNE_PRBS_GEN n || s.rd LNE_CTRL_MODE n ≠ 1 then s
  else
    let r := prbsRun (s.rd LNE_PRBS_PAT n) k (Tab.get s.lne.gen n 0)
    let s1 := s.putLine n (r.1.map (· ^^ s.on LNE_PRBS_INV n))
    { s1 with lne := { s1.lne with gen := Tab.put s1.lne.gen n r.2 0 } }

/-- A block on lane `n`: its header, then its payload through the scrambler, which holds while an alignment block (`scr` false) passes (R121, R122); a lane in MODE 1 sends its generator's bits instead (R137). -/
def laneOut (s : State) (n : Nat) (scr : Bool) (b : LineBlock) : State :=
  if s.laneQuiet n then s
  else if s.rd LNE_CTRL_MODE n = 1 then s.prbsOut n 66
  else if !scr then s.putLine n (headerBits b.1 ++ payloadBits b.2)
  else
    let r := scramble (Tab.get s.lne.scr n 0) (payloadBits b.2)
    let p := Tab.get s.lne.par n 0 ^^^ parityOf (bitsBytes 8 r.1)
    let s1 := s.putLine n (headerBits b.1 ++ r.1)
    { s1 with lne := { s1.lne with scr := Tab.put s1.lne.scr n r.2 0, par := Tab.put s1.lne.par n p 0 } }

/-- What earlier commands put on the lanes of trunk `t` has gone. -/
def clearLines (s : State) (t : Nat) : State :=
  { (s.setTrunk t { s.trunk t with stream := [] }) with lne := { s.lne with
    line := (s.trunkLanes t).foldl (fun l n => Tab.put l n [] []) s.lne.line } }

/-- The next link block of trunk `t` on its logical lane (R141). -/
def linkOut (s : State) (t : Nat) (b : LineBlock) : State :=
  let k := (s.trunk t).pos
  let s1 := s.laneOut ((s.txLanes t).getD k 0) true b
  s1.setTrunk t { s1.trunk t with pos := (k + 1) % max 1 (lanesOf (s.rd TRK_STAT_WIDTH t)), stream := (s1.trunk t).stream ++ [b] }

/-- Consecutive link blocks put on the stream of trunk `t` (R141, R142). -/
def linkSend (s : State) (t : Nat) (l : List LineBlock) : State := (s.clearLines t).each l (fun s b => s.linkOut t b)

/-- IDLE until the next link block goes to logical lane 0 again. -/
def linkFill (s : State) (t : Nat) : State :=
  if (s.trunk t).pos = 0 then s
  else s.each (List.range (lanesOf (s.rd TRK_STAT_WIDTH t) - (s.trunk t).pos)) (fun s _ => s.linkOut t idleBlock)

/-- The alignment block of logical lane `k` on lane `n`, with the parity of what the lane has sent since the last (R123). -/
def alignOut (s : State) (n k : Nat) : State :=
  if s.laneQuiet n || s.rd LNE_CTRL_MODE n = 1 then s.laneOut n false idleBlock
  else
    let b := alignBlock k (Tab.get s.lne.par n 0)
    let s1 := s.laneOut n false (2, b)
    { s1 with lne := { s1.lne with sent := Tab.put s1.lne.sent n b [], par := Tab.put s1.lne.par n 0 0 } }

/-- The transmitter of trunk `t` sends `idle` IDLE blocks on each lane that it sends on, and then its alignment blocks in one block time (R124, R128, R157, log entry 65); the lanes of a disabled trunk in MODE 1 send their patterns (R137). -/
def alignSend (s : State) (t idle : Nat) : State :=
  if t = 0 && s.kl2Active then s
  else if s.rd TRK_STAT_STATE t = 0 then (s.clearLines t).each (s.trunkLanes t) (fun s n => s.when (s.rd LNE_CTRL_MODE n == 1) (·.laneOut n false idleBlock))
  else
    let s1 := (s.clearLines t).linkFill t
    s1.each (List.range (min (s.sendLanes t) (s.txLanes t).length)) (fun s k =>
      let n := (s.txLanes t).getD k 0
      (s.each (List.range idle) (fun s _ => s.laneOut n true idleBlock)).alignOut n k)

end State

end Sys2Proof.Machine
end

