-- ==== Sys2Proof/Machine/Gates.lean ====
section
/-! DEFINITION. Gate lists (R229 to R232, R235): where a list stands at the present tick, how long a class stays open, and the fallback gates. -/

namespace Sys2Proof.Machine

/-- The increment that the time unit adds in the present tick (R115): TMU_INCR with a running slew's offset. -/
def State.tickIncr (s : State) : Nat :=
  if s.tmu.slewLeft = 0 then s.tmu.incr else (s.tmu.incr + s.tmu.slewOfs).toNat

/-- A phase distance in 2^-48 cycle as time in 2^-16 ns at the present increments (R117, phase to time). -/
def State.phaseToTime (s : State) (d : Nat) : Nat := d * s.tickIncr / (s.cyc.incr * 2 ^ 16)

/-- Where a list stands. -/
structure GatePos where
  /-- The fallback gates apply. -/
  fallback : Bool := false
  /-- The list runs from its anchor. -/
  run : Bool := false
  entry : Nat := 0
  gates : Nat := 0xFF
  /-- Distance to the end of the entry, in the list's unit (2^-32 ns or 2^-48 cycle). -/
  left : Nat := 0
  deriving DecidableEq, Repr

/-- The entry in which `pos` lies, with the distance to its end; intervals in the unit of `pos`. -/
def findEntry : List (Nat × Nat) → Nat → Nat → Option (Nat × Nat × Nat)
  | [], _, _ => none
  | (g, w) :: l, k, pos => if pos < w then some (k, g, w - pos) else findEntry l (k + 1) (pos - w)

namespace State

/-- The active bank (R237). -/
def activeBank (s : State) : Nat := s.rd SHP_PLAN_STAT_ACTIVE

/-- The entries of port `p`'s list in bank `b`: gates and interval code (R229). -/
def gateList (s : State) (p b : Nat) : List (Nat × Nat) :=
  (List.range (min (s.rd SHP_GCTL_LEN p b) 256)).map (fun k =>
    (s.rd SHP_GATE_GATES (256 * p + k) b, s.rd SHP_GATE_INTERVAL (256 * p + k) b))

/-- BASE of a PTP list in ns (R230). -/
def gateBase (s : State) (p b : Nat) : Nat :=
  (s.rd SHP_GSTART_SEC_HI p b * 2 ^ 32 + s.rd SHP_GBASE_SECLO_SEC_LO p b) * 1000000000 + s.rd SHP_GBASE_NS_NS p b

/-- The unit of one interval code: 1 ns = 2^32 of 2^-32 ns, or 2^-16 cycle = 2^32 of 2^-48 cycle. -/
def gateUnit : Nat := 2 ^ 32

/-- The total of a list's intervals. -/
def gateCycle (l : List (Nat × Nat)) : Nat := (l.map (·.2)).foldl (· + ·) 0

/-- Where port `p`'s list of bank `b` stands at the present tick (R229 to R231). -/
def gatePos (s : State) (p b : Nat) : GatePos :=
  let l := s.gateList p b
  let fb : GatePos := { fallback := true, gates := s.rd SHP_GCTL_FBMASK p b }
  let at_ (pos : Nat) : GatePos :=
    match findEntry (l.map (fun e => (e.1, e.2 * gateUnit))) 0 pos with
    | some (k, g, w) => { run := true, entry := k, gates := g, left := w }
    | none => fb
  if !s.on SHP_GCTL_EN p b then {}
  else if !s.on SHP_GCTL_ANCHOR p b then
    let base := s.gateBase p b * 2 ^ 32
    if !s.on TMU_STAT_TVALID || s.tmu.tod.units < base then fb
    else at_ ((s.tmu.tod.units - base) % (gateCycle l * gateUnit))
  else if !s.on CYC_STAT_MVALID then fb
  else
    let m := 2 ^ (s.rd SHP_GCTL_MCYC p b) * 2 ^ 48
    at_ ((s.cyc.acc + m - s.rd SHP_GSTART_START p b * 2 ^ 32 % m) % m)

/-- The intervals of the consecutive entries from `k` on in which class `c` is open, cyclically, at most one round. -/
def openRun (l : List (Nat × Nat)) (c k : Nat) : Nat :=
  let r := l.drop k ++ l.take k
  gateCycle (r.takeWhile (fun e => e.1.testBit c))

/-- Time in 2^-16 ns from now to the end of the run of entries in which class `c` is open; none: it has no end, or the end is unknown and every copy fits (R232). -/
def remaining16 (s : State) (p c : Nat) : Option Nat :=
  let b := s.activeBank
  let l := s.gateList p b
  let g := s.gatePos p b
  let ptp := !s.on SHP_GCTL_ANCHOR p b
  if !s.on SHP_GCTL_EN p b then none
  else if g.fallback then
    if ptp && s.on TMU_STAT_TVALID then
      if l.all (fun e => e.1.testBit c) then none
      else some ((s.gateBase p b * 2 ^ 32 - s.tmu.tod.units + openRun l c 0 * gateUnit) / 2 ^ 16)
    else none
  else if l.all (fun e => e.1.testBit c) then none
  else
    let d := g.left + openRun l c ((g.entry + 1) % l.length) * gateUnit
    some (if ptp then d / 2 ^ 16 else s.phaseToTime d)

/-- The gate of the packet that port `p` is sending closes when its gates become `g` (R234). -/
def overruns (s : State) (p g : Nat) : Bool :=
  match s.sending p with
  | none => false
  | some c => s.bitAt SHP_GSTAT_GATES c.hdr.cls p && !(g.testBit c.hdr.cls)

/-- Port `p`'s list status shows where the list stands; a mains list's entry into fallback counts in MFALL (R231), a packet whose gate closes while it is being sent in GATEOVR (R234). -/
def gateShow (s : State) (p : Nat) : State :=
  let b := s.activeBank
  let g := s.gatePos p b
  let enters := g.fallback && s.on SHP_GCTL_ANCHOR p b && !s.on SHP_GSTAT_FALLBACK p
  let s0 := if s.overruns p g.gates then s.sat SHP_CNT_COUNT 2 else s
  let s1 := if enters then s0.sat SHP_CNT_COUNT 4 else s0
  ((((s1.wr SHP_GSTAT_RUN (bit g.run) p).wr SHP_GSTAT_FALLBACK (bit g.fallback) p).wr SHP_GSTAT_BANK b p).wr
    SHP_GSTAT_GATES g.gates p).wr SHP_GSTAT_ENTRY g.entry p

/-- Every port's list takes the entry that its anchor names now (R230, R231, R241). -/
def gatesShow (s : State) : State := s.each (List.range 12) gateShow

/-- MVALID changes (R114); at 0 every mains list falls back (R231). -/
def setMvalid (s : State) (v : Bool) : State :=
  if s.on CYC_STAT_MVALID == v then s else (s.wr CYC_STAT_MVALID (bit v)).gatesShow

end State

end Sys2Proof.Machine
end

