-- ==== Sys2Proof/Machine/Time.lean ====
section
/-! DEFINITION. The time unit (spec/03_time.md): ticks, increment, SET, STEP, SLEW and SNAP, compare channels, PPS, leap seconds and the two-step queues. -/

namespace Sys2Proof.Machine

/-- The range of the increment (R79). -/
def incrOk (x : Int) : Bool := 0x1FFBE76C9 ≤ x && x ≤ 0x200418937

namespace State

/-- A command of the time unit is rejected or ignored (R82). -/
def tmuReject (s : State) : State := (s.wr TMU_STAT_CMDREJ 1).sat TMU_CNT_REJ_COUNT

/-- An increment or slew is rejected (R79, R84). -/
def incrReject (s : State) : State := (s.wr TMU_STAT_INCREJ 1).sat TMU_CNT_REJ_COUNT

/-- The time of day that the TMU_SET words name (R82). -/
def setWords (s : State) : Wide :=
  { sec := s.rd TMU_SET_SECHI_SEC_HI * 2 ^ 32 + s.rd TMU_SET_SECLO_SEC_LO, ns := s.rd TMU_SET_NS_NS,
    frac := s.rd TMU_SET_FRAC_FRAC * 2 ^ 16 }

/-- A command joins those that wait for the next tick. -/
def tmuPush (s : State) (c : TmuCmd) : State := { s with tmu := { s.tmu with cmds := s.tmu.cmds ++ [c] } }

/-- SET is written (R82): captured, or rejected for its NS. -/
def cmdSet (s : State) : State :=
  if s.rd TMU_SET_NS_NS > 999999999 then s.tmuReject else s.tmuPush (.set s.setWords)

/-- STEP is written (R82): the signed step is captured, in 2^-32 ns. -/
def cmdStep (s : State) : State :=
  s.tmuPush (.step (signedOf 32 (s.rd TMU_STEP_NS_NS) * 2 ^ 32 + s.rd TMU_STEP_FRAC_FRAC * 2 ^ 16))

/-- SLEW is written (R84): captured, or rejected when the slewed increment leaves the range of R79. -/
def cmdSlew (s : State) : State :=
  let ofs := signedOf 24 (s.rd TMU_SLEW_OFS_OFS)
  if incrOk (s.tmu.incr + ofs) then s.tmuPush (.slew ofs (s.rd TMU_SLEW_TICKS_TICKS)) else s.incrReject

/-- SNAP is written (R86). -/
def cmdSnap (s : State) : State := { s with tmu := { s.tmu with snap := true } }

/-- A write of TMU_CTRL (R82): the highest of SET, STEP and SLEW executes, each lower one is ignored and counted; SNAP stands outside the order. -/
def tmuCtrlWrite (s : State) (w : Nat) : State :=
  let s0 := s.writeReg 0xA0000 w
  let st := w.testBit 0
  let sp := w.testBit 1
  let sl := w.testBit 2
  let s1 := if st then s0.cmdSet else if sp then s0.cmdStep else if sl then s0.cmdSlew else s0
  let s2 := s1.when (sp && st) tmuReject
  let s3 := s2.when (sl && (st || sp)) tmuReject
  s3.when (w.testBit 3) cmdSnap

/-- The slew offset that acts from the next tick on: that of the running slew, or what the commands captured for that tick make of it (R84). -/
def slewAhead (s : State) : Int :=
  s.tmu.cmds.foldl (fun o c =>
    match c with
    | .set _ => 0
    | .step _ => o
    | .slew n _ => n) (if s.tmu.slewLeft = 0 then 0 else s.tmu.slewOfs)

/-- A write of TMU_INCR_LO (R79, R84): the 40-bit value with the held high byte is applied, or rejected. -/
def tmuIncrWrite (s : State) (w : Nat) : State :=
  let v : Nat := s.rd TMU_INCR_HI_INT * 2 ^ 32 + w % 2 ^ 32
  if incrOk (v : Int) && incrOk ((v : Int) + s.slewAhead) then
    { (s.wr TMU_INCR_LO_FRAC w) with tmu := { s.tmu with incr := v } }
  else s.incrReject

/-- A tick of the time unit (R78, R80, R84, R105): time of day, elapsed count and mains phase advance by the increments in use; in DORMANT and OFF they stand (R103), and the grid begins at the release of the chip reset (R78). -/
def tick (s : State) : State :=
  let add := s.tickIncr
  if s.rd PWR_STAT_STATE ≥ 3 || s.boot.held then s
  else { s with
    tmu := { s.tmu with
      tod := Wide.ofUnits (s.tmu.tod.units + add),
      elapsed := (s.tmu.elapsed + add) % 2 ^ 96,
      slewLeft := s.tmu.slewLeft - 1 },
    cyc := { s.cyc with acc := (s.cyc.acc + s.cyc.incr) % 2 ^ 64 } }

/-- A SET or STEP has been applied (R83). -/
def stepped (s : State) : State := (s.wrap TMU_STAT_STEPCNT).wr TMU_STAT_STEPPED 1

/-- The head of the waiting commands is removed. -/
def tmuPop (s : State) : State := { s with tmu := { s.tmu with cmds := s.tmu.cmds.tail } }

/-- SET applies (R81, R82, R84): time loaded, TVALID set, a running slew ended; gate lists stand where the new time says (R230). -/
def applySet (s : State) (t : Wide) : State :=
  let s1 := { s with tmu := { s.tmu with tod := t, slewLeft := 0 } }
  (((s1.wr TMU_STAT_SLEWACT 0).wr TMU_STAT_TVALID 1).stepped).gatesShow

/-- STEP applies (R83), or is rejected when the seconds would fall below 0 (R82). -/
def applyStep (s : State) (d : Int) : State :=
  let u : Int := s.tmu.tod.units + d
  if u < 0 then s.tmuReject
  else ({ s with tmu := { s.tmu with tod := Wide.ofUnits u.toNat } }).stepped.gatesShow

/-- SLEW applies (R84), replacing a running slew. -/
def applySlew (s : State) (ofs : Int) (ticks : Nat) : State :=
  ({ s with tmu := { s.tmu with slewOfs := ofs, slewLeft := ticks } }).wr TMU_STAT_SLEWACT 1

/-- The snapshot words take the time of day and the mains phase (R86, R107). -/
def takeSnap (s : State) : State :=
  let t := s.tmu.tod
  let s1 := ((((s.wr TMU_SNAP_SECHI_SEC_HI (t.sec / 2 ^ 32)).wr TMU_SNAP_SECLO_SEC_LO t.sec).wr TMU_SNAP_NS_NS t.ns).wr
    TMU_SNAP_FRAC_FRAC t.frac16).wr TMU_SNAP_NS32_NS32 t.ns32
  let s2 := ((s1.wr CYC_SNAP_LO_PHASE_LO s.cyc.acc).wr CYC_SNAP_HI_PHASE_HI (s.cyc.acc / 2 ^ 32)).wr
    CYC_SNAP_HI_CYCLE (s.cyc.acc / 2 ^ 48)
  { s2 with tmu := { s2.tmu with snap := false } }

/-- NS32 − CMPc_TGT as a signed difference (R88). -/
def compareDiff (s : State) (c : Nat) : Int := diff32 s.tmu.tod.ns32 (s.rd CMP_TGT_TGT c)

/-- Event line `c` set to a level. -/
def setLine (s : State) (c : Nat) (x : Bool) : State :=
  { s with pins := { s.pins with line := Tab.put s.pins.line c x false } }

/-- Channel `c` acts on its event line (R88): a pulse of PULSE × 8 ns, a toggle, or nothing. -/
def compareAct (s : State) (c : Nat) : State :=
  match s.rd CMP_CTRL_ACT c with
  | 0 => (s.setLine c true).arm (.pulse c) (s.rd CMP_CTRL_PULSE c * 8)
  | 1 => s.setLine c (!Tab.get s.pins.line c false)
  | _ => s

/-- The pulse on event line `c` ends once its time is over, whatever ACT has become meanwhile (the last point is the model's choice, log entry 64). -/
def comparePulseEnd (s : State) (c : Nat) : State := if s.due (.pulse c) then (s.setLine c false).disarm (.pulse c) else s

/-- A periodic channel's target advances by one period; while it is not ahead yet, the channel is behind (R89). -/
def compareAdvance (s : State) (c : Nat) : State :=
  let s1 := s.wr CMP_TGT_TGT (s.rd CMP_TGT_TGT c + s.rd CMP_PER_PER c) c
  { s1 with tmu := { s1.tmu with behind := Tab.put s1.tmu.behind c (0 ≤ s1.compareDiff c) false } }

/-- Channel `c` fires when it is enabled and its target is reached (R88, R89). A periodic channel that is behind only advances its target by one period. -/
def compareFire (s : State) (c : Nat) : State :=
  if !s.on CMP_CTRL_EN c || s.compareDiff c < 0 then s
  else if s.on CMP_CTRL_PERIODIC c && Tab.get s.tmu.behind c false then s.compareAdvance c
  else
    let s1 := s.wr CMP_STAT_FIRED 1 c
    let s2 := if s.compareDiff c ≥ 2 then s1.wr CMP_STAT_LATE 1 c else s1
    let s3 := s2.compareAct c
    let s4 := if s.on CMP_CTRL_PERIODIC c then s3.compareAdvance c else s3.wr CMP_CTRL_EN 0 c
    s4.irq c c 0

/-- A write of a word of compare channel `c`: a new target, or EN = 0, ends the advance over skipped periods (R89). -/
def compareWrite (s : State) (off w c : Nat) : State :=
  let s1 := s.writeReg off w
  if off % 0x10 = 4 || !s1.on CMP_CTRL_EN c then
    { s1 with tmu := { s1.tmu with behind := Tab.put s1.tmu.behind c false false } }
  else s1

/-- `n` sixteenths of a tick in 2^-32 ns (R97). -/
def sixteenths (s : State) (n : Nat) : Nat := n * s.tickIncr / 16

/-- The captured words of PPS input `i` (R97): the time `ago` units of 2^-32 ns before the present tick. -/
def ppsCapture (s : State) (i ago : Nat) : State :=
  if s.on PPSI_STAT_VALID i then s.wr PPSI_STAT_OVR 1 i
  else
    let t := Wide.ofUnits (s.tmu.tod.units - ago)
    ((((s.wr PPSI_SECLO_SEC_LO t.sec i).wr PPSI_NS_NS t.ns i).wr PPSI_FRAC_FRAC t.frac16 i).wr
      PPSI_STAT_UNTRACED (bit (!s.on TMU_STAT_TVALID)) i).wr PPSI_STAT_VALID 1 i

/-- The interval to the previous accepted edge lies within 1 s ± TOL µs (R98). -/
def ppsInterval (s : State) (i e : Nat) : Bool :=
  match Tab.get s.tmu.ppsLast i none with
  | none => true
  | some l =>
    let tol := s.rd PPSI_CFG_TOL i * 1000 * 2 ^ 32
    let d := e - l
    1000000000 * 2 ^ 32 ≤ d + tol && d ≤ 1000000000 * 2 ^ 32 + tol

/-- PPS input `i` has held a new level, high after a rising edge, for `n` sixteenths of a tick (R97, R98): the edge that EDGE selects is accepted once the level has held for FILT × 100 ns. -/
def ppsEdge (s : State) (i : Nat) (rise : Bool) (n : Nat) : State :=
  let ago := s.sixteenths n
  if !s.on PPSI_CFG_EN i || rise == s.on PPSI_CFG_EDGE i || ago < s.rd PPSI_CFG_FILT i * 100 * 2 ^ 32 then s
  else
    let e := s.tmu.elapsed - ago
    let s1 := (s.ppsCapture i ago).wrap PPSI_STAT_EDGES i
    let s2 := if s.on PPSI_STAT_LOS i then (s1.wr PPSI_STAT_LOS 0 i).causeOff (27 + i)
      else if s.ppsInterval i e then s1
      else (s1.wr PPSI_STAT_OUTRANGE 1 i).sat PPSI_CNT_REJ_COUNT i
    { (s2.arm (.pps i) 0) with tmu := { s2.tmu with ppsLast := Tab.put s2.tmu.ppsLast i (some e) none } }

/-- No edge of PPS input `i` was accepted for LOS × 100 ms since the last one, or since the input was enabled (R98). -/
def ppsLos (s : State) (i : Nat) : State :=
  if s.on PPSI_CFG_EN i && !s.on PPSI_STAT_LOS i && s.ran (.pps i) (s.rd PPSI_CFG_LOS i * 100000000) then
    (s.wr PPSI_STAT_LOS 1 i).causeOn (27 + i) 0
  else s

/-- A write of PPSIi_CFG: enabling the input starts the time of R98. -/
def ppsCfgWrite (s : State) (off w i : Nat) : State :=
  let s1 := s.writeReg off w
  if !s1.on PPSI_CFG_EN i then s1.disarm (.pps i) else if s.on PPSI_CFG_EN i then s1 else s1.arm (.pps i) 0

/-- The second whose boundary plus offset is the next target of PPS output `o` after the present tick, and that target in 2^-32 ns (R99). -/
def ppsTarget (s : State) (o : Nat) : Nat × Int :=
  let ofs : Int := signedOf 28 (s.rd PPSO_OFS_OFS o) * 2 ^ 28
  let unit : Int := 1000000000 * 2 ^ 32
  let n := (s.tmu.tod.units - ofs) / unit + 1
  (n.toNat, n * unit + ofs)

/-- The leading edge of PPS output `o` in the tick that follows, placed to a sixteenth (R99). -/
def ppsOutEdge (s : State) (o : Nat) : State :=
  let t := s.ppsTarget o
  let dist := t.2 - s.tmu.tod.units
  let fresh := match Tab.get s.tmu.ppsSec o none with
    | none => true
    | some l => l < t.1
  if s.on PPSO_CFG_EN o && (s.on TMU_STAT_TVALID || s.on PPSO_CFG_FORCE o) && dist ≤ s.tickIncr && fresh then
    { (s.arm (.ppsTrail o) (s.rd PPSO_CFG_WIDTH o * 10000)) with tmu := { s.tmu with
      ppsOut := Tab.put s.tmu.ppsOut o true false,
      ppsSec := Tab.put s.tmu.ppsSec o (some t.1) none,
      ppsTaps := Tab.put s.tmu.ppsTaps o ((dist * 16 / s.tmu.incr).toNat) 0 } }
  else s

/-- The trailing edge of PPS output `o`, WIDTH × 10 µs after the leading edge (R99). -/
def ppsOutTrail (s : State) (o : Nat) : State :=
  if s.due (.ppsTrail o) then
    { (s.disarm (.ppsTrail o)) with tmu := { s.tmu with ppsOut := Tab.put s.tmu.ppsOut o false false } }
  else s

/-- The level of ball PPS_OUTo: POL = 1 makes the pulse low; a disabled output is idle (R99). -/
def ppsLevel (s : State) (o : Nat) : Bool := (s.on PPSO_CFG_EN o && Tab.get s.tmu.ppsOut o false) != s.on PPSO_CFG_POL o

/-- The 64-bit code of a queue entry's correction, whose wire form has 48 bits (R94, R95). -/
def tsqCorr (e : TwoStep) : Nat := codeOf 64 (signedOf 48 e.corr)

/-- The head of a port's two-step queue shows in its registers (R95). -/
def tsqShow (s : State) (p : Nat) : State :=
  let l := Tab.get s.tmu.tsq p []
  let e : TwoStep := l.head?.getD {}
  let s1 := (s.wr PT_TSQ_STAT_NONEMPTY (bit !l.isEmpty) p).wr PT_TSQ_STAT_LEVEL l.length p
  let s2 := ((s1.wr PT_TSQ_INFO_DOMAIN e.domain p).wr PT_TSQ_INFO_MSGTYPE e.msgType p).wr
    PT_TSQ_SEC_SEQ_SEC (e.seqId * 2 ^ 16 + e.time.sec % 2 ^ 16) p
  (((s2.wr PT_TSQ_NS_NS e.time.ns p).wr PT_TSQ_FRAC_FRAC e.time.frac16 p).wr PT_TSQ_CORRLO_CORR_LO (tsqCorr e) p).wr
    PT_TSQ_CORRHI_CORR_HI (tsqCorr e / 2 ^ 32) p

/-- An entry joins a port's two-step queue, or is dropped with OVR when 16 are held (R95). -/
def tsqPush (s : State) (p : Nat) (e : TwoStep) : State :=
  let l := Tab.get s.tmu.tsq p []
  if l.length ≥ 16 then s.wr PT_TSQ_STAT_OVR 1 p
  else ({ s with tmu := { s.tmu with tsq := Tab.put s.tmu.tsq p (l ++ [e]) [] } }).tsqShow p

/-- A read of CORR_HI removes the head entry (R95). -/
def tsqPop (s : State) (p : Nat) : State :=
  ({ s with tmu := { s.tmu with tsq := Tab.put s.tmu.tsq p (Tab.get s.tmu.tsq p []).tail [] } }).tsqShow p

/-- The UTC second of the present tick, from the PTP epoch (R101). -/
def utcNow (s : State) : Int := s.tmu.tod.sec - signedOf 16 (s.rd TMU_UTC_OFFSET)

/-- A write of TMU_UTC (R101): with both leap flags it is ignored and counted; a flag belongs to the UTC day of its write. -/
def tmuUtcWrite (s : State) (w : Nat) : State :=
  if w.testBit 17 && w.testBit 16 then s.tmuReject
  else
    let s1 := s.writeReg 0xA0044 w
    { s1 with tmu := { s1.tmu with leapDay := s1.utcNow / 86400 } }

/-- The UTC day of the leap flag ends (R101): with LEAP61 once its 86,400 seconds are over, with LEAP59 when second 59 of its last minute would begin. OFFSET follows, and the flag clears. -/
def leapApply (s : State) : State :=
  if s.on TMU_UTC_LEAP61 then
    if (s.tmu.leapDay + 1) * 86400 ≤ s.utcNow then (s.wr TMU_UTC_OFFSET (s.rd TMU_UTC_OFFSET + 1)).wr TMU_UTC_LEAP61 0 else s
  else if s.on TMU_UTC_LEAP59 then
    if (s.tmu.leapDay + 1) * 86400 - 1 ≤ s.utcNow then (s.wr TMU_UTC_OFFSET (s.rd TMU_UTC_OFFSET + 65535)).wr TMU_UTC_LEAP59 0 else s
  else s

/-- Writes of TMU registers that do more than store their fields. -/
def tmuWrite (s : State) (off w : Nat) : Option State :=
  if off = 0xA0000 then some (s.tmuCtrlWrite w)
  else if off = 0xA0008 then some (s.tmuIncrWrite w)
  else if off = 0xA0044 then some (s.tmuUtcWrite w)
  else if 0xA0100 ≤ off && off < 0xA0180 then some (s.compareWrite off w ((off - 0xA0100) / 0x10))
  else if off = 0xA0200 || off = 0xA0220 then some (s.ppsCfgWrite off w ((off - 0xA0200) / 0x20))
  else none

end State

/-- TIME_TICK (R78, R80, R84, R105). -/
def execTimeTick (s : State) : Host.Outcome State Fault Refusal := .next s.tick

/-- INCREMENT_WRITE (R79): `w` written to TMU_INCR_LO. -/
def execIncrementWrite (w : Word) (s : State) : Host.Outcome State Fault Refusal := .next (s.tmuIncrWrite w.toNat)

/-- SET (R82). -/
def execSetTime (s : State) : Host.Outcome State Fault Refusal := .next s.cmdSet

/-- STEP (R82). -/
def execStep (s : State) : Host.Outcome State Fault Refusal := .next s.cmdStep

/-- SLEW (R84). -/
def execSlew (s : State) : Host.Outcome State Fault Refusal := .next s.cmdSlew

/-- SNAP (R86). -/
def execSnap (s : State) : Host.Outcome State Fault Refusal := .next s.cmdSnap

/-- SET_APPLY (R82): the captured SET that waits first applies. -/
def execSetApply (s : State) : Host.Outcome State Fault Refusal :=
  match s.tmu.cmds with
  | .set t :: _ => .next (s.tmuPop.applySet t)
  | _ => .next s

/-- STEP_APPLY (R83). -/
def execStepApply (s : State) : Host.Outcome State Fault Refusal :=
  match s.tmu.cmds with
  | .step d :: _ => .next (s.tmuPop.applyStep d)
  | _ => .next s

/-- SLEW_APPLY (R84). -/
def execSlewApply (s : State) : Host.Outcome State Fault Refusal :=
  match s.tmu.cmds with
  | .slew o n :: _ => .next (s.tmuPop.applySlew o n)
  | _ => .next s

/-- SNAP_APPLY (R86, R107): after the commands captured for the same tick. -/
def execSnapApply (s : State) : Host.Outcome State Fault Refusal :=
  if s.tmu.snap && s.tmu.cmds.isEmpty then .next s.takeSnap else .next s

/-- SLEW_END (R84): SLEWACT reads 0 from the tick after the last slewed tick. -/
def execSlewEnd (s : State) : Host.Outcome State Fault Refusal :=
  if s.tmu.slewLeft = 0 then .next (s.wr TMU_STAT_SLEWACT 0) else .next s

/-- COMPARE_FIRE (R88, R89) of channel `c`. -/
def execCompareFire (c : Fin 8) (s : State) : Host.Outcome State Fault Refusal := .next (s.compareFire c)

/-- COMPARE_PULSE_END (R88): the pulse on event line `c` ends. -/
def execComparePulseEnd (c : Fin 8) (s : State) : Host.Outcome State Fault Refusal := .next (s.comparePulseEnd c)

/-- PPS_INPUT_EDGE (R97, R98): input `i` has held the level after a rising (`rise`) or falling edge for `n` sixteenths of a tick. -/
def execPpsInputEdge (i : Fin 2) (rise : Bool) (n : Nat) (s : State) : Host.Outcome State Fault Refusal := .next (s.ppsEdge i rise n)

/-- PPS_INPUT_LOS (R98). -/
def execPpsInputLos (i : Fin 2) (s : State) : Host.Outcome State Fault Refusal := .next (s.ppsLos i)

/-- PPS_OUTPUT_EDGE (R99). -/
def execPpsOutputEdge (o : Fin 2) (s : State) : Host.Outcome State Fault Refusal := .next (s.ppsOutEdge o)

/-- PPS_OUTPUT_TRAIL (R99): the pulse of output `o` ends. -/
def execPpsOutputTrail (o : Fin 2) (s : State) : Host.Outcome State Fault Refusal :=
  .next (s.ppsOutTrail o)

/-- LEAP_APPLY (R101): the end of a UTC day with a leap flag. -/
def execLeapApply (s : State) : Host.Outcome State Fault Refusal := .next s.leapApply

/-- TWO_STEP_POP (R95): a read of PTn_TSQ_CORRHI of port `p`. -/
def execTwoStepPop (p : Fin 12) (s : State) : Host.Outcome State Fault Refusal :=
  .next { (s.tsqPop p) with readWord := s.rd PT_TSQ_CORRHI_CORR_HI p }

end Sys2Proof.Machine
end

