-- ==== Sys2Proof/Machine/Egress.lean ====
section
/-! DEFINITION. What leaves an egress port: shaped length and occupancy (R221, R232, R233), correction (R93, R94), sealing (R162), KL2 conversion (R170), edge frames (R213, R214) and the start of a copy's transmission. -/

namespace Sys2Proof.Machine

/-- The EtherType of a frame, after at most one VLAN tag (R212). -/
def etherType (f : List Byte) : Nat :=
  let e := ofBe ((f.drop 12).take 2)
  if e = 0x8100 then ofBe ((f.drop 16).take 2) else e

/-- Bytes before the frame's payload: addresses, at most one VLAN tag, EtherType. -/
def l2Length (f : List Byte) : Nat := if ofBe ((f.drop 12).take 2) = 0x8100 then 18 else 14

/-- The frame is a layer-2 PTP event message: EtherType 0x88F7, messageType 0–3 (R93). -/
def ptpEvent (f : List Byte) : Bool :=
  etherType f = 0x88F7 && ofBe ((f.drop (l2Length f)).take 1) % 16 ≤ 3

/-- Where the PTP message of a frame starts: layer 2, or UDP over IPv4 or IPv6 (R95; log entry 14). -/
def ptpStart (f : List Byte) : Nat :=
  let l := l2Length f
  if etherType f = 0x0800 then l + 4 * (ofBe ((f.drop l).take 1) % 16) + 8
  else if etherType f = 0x86DD then l + 48
  else l

/-- The frame is a PTP event message: layer 2, or UDP port 319 over IPv4 or IPv6 (R95). -/
def ptpMessage (f : List Byte) : Bool :=
  let l := l2Length f
  let by_ (k n : Nat) : Nat := ofBe ((f.drop k).take n)
  let udp := (etherType f = 0x0800 && by_ (l + 9) 1 = 17) || (etherType f = 0x86DD && by_ (l + 6) 1 = 17)
  ptpEvent f || (udp && by_ (ptpStart f - 6) 2 = 319 && by_ (ptpStart f) 1 % 16 ≤ 3)

/-- The 48-bit correction field that marks saturation (R94). -/
def corrSat : Nat := 0x7FFFFFFFFFFF

/-- Bytes of `f` from offset `o` on replaced by `b`. -/
def spliceAt (f : List Byte) (o : Nat) (b : List Byte) : List Byte := f.take o ++ b ++ f.drop (o + b.length)

namespace State

/-- A trunk counter advances (R173). -/
def trkCount (s : State) (t i : Nat) : State := s.sat TRK_CNT_COUNT t i

/-! Keys of a sealed link (R163, R164, R414). -/

/-- The slot that TRK_SEAL names holds a session secret that may be used. -/
def secretOk (s : State) (t : Nat) : Bool :=
  let n := s.rd TRK_SEAL_SLOT t
  s.rd KEY_SLOT_STATE n = 1 && s.slotSound n && s.bitAt KEY_SLOT_USAGE useSeal n

/-- The 40 bytes of key and salt for direction `d` and an epoch (R163). -/
def sealKey (s : State) (t d epoch : Nat) : List Byte :=
  kdf (s.slotKey (s.rd TRK_SEAL_SLOT t)) (ascii "KL3-SEAL") (beBytes 1 d ++ beBytes 2 epoch) 320

/-- The direction of the hub's own packets: 0 when its prefix is the lower (R163). -/
def ownDirection (s : State) (t : Nat) : Nat := if s.selfPrefix < s.rd TRK_SEAL_PARTNER t then 0 else 1

/-- A transmit epoch begins with its key (R163, R164). -/
def startEpoch (s : State) (t epoch : Nat) : State :=
  let k := s.sealKey t (s.ownDirection t) epoch
  (s.wr TRK_SEALSTAT_TXEPOCH epoch t).setTrunk t { s.trunk t with txKey := k, txPn := 0, epochAt := s.tmu.elapsed }

/-- The transmitter's epoch is over: PN exhausted, or 3,600 s of elapsed count (R164). -/
def epochOver (s : State) (t : Nat) : Bool :=
  (s.trunk t).txPn > 0xFFFFFFFF || s.tmu.elapsed ≥ (s.trunk t).epochAt + 3600 * 1000000000 * 2 ^ 32

/-- A sealed packet may be sent: the present epoch has a number left, or another epoch may begin (R164, R166). -/
def sealReady (s : State) (t : Nat) : Bool :=
  !s.on TRK_STAT_SEALED t || (s.trunk t).txPn ≤ 0xFFFFFFFF || (s.rd TRK_SEALSTAT_TXEPOCH t < 0xFFFF && s.secretOk t)

/-- The next sealed packet of an epoch that is over is the first of the next one (R164). -/
def rollEpoch (s : State) (t : Nat) : State :=
  if s.epochOver t && s.rd TRK_SEALSTAT_TXEPOCH t < 0xFFFF && s.secretOk t then s.startEpoch t (s.rd TRK_SEALSTAT_TXEPOCH t + 1) else s

/-! Lengths and times (R221, R232, R233). -/

/-- The version-2 prefix of an Ethernet tunnel payload is present (R213). -/
def agePrefix (s : State) (c : Copy) : Bool := !c.frame && s.rd CTX2_VER c.term ≥ 2

/-- The Ethernet frame, without its FCS, that a copy brings to an edge port (R213). -/
def edgeFrame (s : State) (c : Copy) : List Byte :=
  if s.agePrefix c then c.hdr.payload.drop 4 else c.hdr.payload

/-- The shaped length of a copy at port `p` (R221); a capture record counts its 96 bytes (log entry 15). -/
def shapedLen (s : State) (p : Nat) (c : Copy) : Nat :=
  if p = 0 && s.kl2Active then c.hdr.payload.length + 26
  else if p < 4 then c.hdr.payload.length + 24 + 24 * s.rd TRK_STAT_SEALED p
  else if p < 12 then (s.edgeFrame c).length + 24
  else if p = 22 then c.record.length
  else c.hdr.payload.length + 20

/-- t_link and t_lane of trunk `t` in ps (R232). -/
def linkTimes (s : State) (t : Nat) : Nat × Nat :=
  let lane := if (s.trunk t).rate = 0 then 2560 else 6400
  (lane / max 1 (lanesOf (s.rd TRK_STAT_WIDTH t)), lane)

/-- t_byte of an edge port in ps (R232). -/
def byteTime (s : State) (p : Nat) : Nat :=
  match s.rd EDG_STAT_SPEED (p - 4) with
  | 0 => 800000
  | 1 => 80000
  | 2 => 8000
  | _ => if s.rd EDG_CTRL_MODE (p - 4) = 3 then 800 else 3200

/-- The time in ps that `len` shaped bytes occupy port `p` (R232). -/
def ownTime (s : State) (p len : Nat) : Nat :=
  if p = 0 && s.kl2Active then ((len + 3) / 4 + 1) * 1600
  else if p < 4 then (2 + (len - 7) / 8) * (s.linkTimes p).1 + (s.linkTimes p).2
  else len * s.byteTime p

/-- GUARD of port `p` in ps (R233). -/
def guardTime (s : State) (p : Nat) : Nat :=
  if p = 0 && s.kl2Active then s.ownTime 0 2074
  else if p < 4 then s.ownTime p 9264
  else s.ownTime p (s.rd EDG_CTRL_MAXLEN (p - 4) + 20)

/-- The port is up (R157, R210). -/
def portUp (s : State) (p : Nat) : Bool :=
  if p < 4 then s.trunkUp p else if p < 12 then s.on EDG_STAT_LINK (p - 4) else true

/-- The port may start packets: up, and on a trunk the records after agreement sent (R160) and a packet number left (R164). -/
def portReady (s : State) (p : Nat) : Bool := s.portUp p && (p ≥ 4 || ((s.trunk p).tail = 0 && s.sealReady p))

/-- SHP_GUARDp recomputed, in ns rounded up; 0 while the port is down (R233). -/
def guardShow (s : State) (p : Nat) : State :=
  s.wr SHP_GUARD_GUARD (if s.portUp p then (s.guardTime p + 999) / 1000 else 0) p

/-- What the fit rule compares in ps: the copy's own time or GUARD, and MARGIN (R232). -/
def needTime (s : State) (p : Nat) (c : Copy) : Nat :=
  (if s.on SHP_PCFG_FIT p then s.guardTime p else s.ownTime p (s.shapedLen p c)) + s.rd SHP_PCFG_MARGIN p * 1000

/-- The class's gate is open at port `p` (R229). -/
def gateOpen (s : State) (p cls : Nat) : Bool := (s.gatePos p s.activeBank).gates.testBit cls

/-- The copy fits before its gate closes (R232). -/
def fits (s : State) (p : Nat) (c : Copy) : Bool :=
  match s.remaining16 p c.hdr.cls with
  | none => true
  | some r => s.needTime p c ≤ r * 1000 / 65536

/-! Credits (R153) and shapers (R224, R225). -/

/-- Transmit credit of class `cls` on trunk `t` (R153). -/
def creditAvail (s : State) (t cls : Nat) : Nat :=
  if !s.trunkUp t then 0
  else (Tab.get (s.trunk t).limit cls 0 + 2 ^ 20 - Tab.get (s.trunk t).sent cls 0) % 2 ^ 20

/-- The trunk may start a copy of this cost: credit in KL3, no pause in KL2 (R153, R168, R220). -/
def creditOk (s : State) (t : Nat) (c : Copy) : Bool :=
  if t = 0 && s.kl2Active then
    !(s.kl2.paused.testBit (if c.hdr.cls ≥ 6 && s.on TRK_KL2_DEMOTE then 5 else c.hdr.cls))
  else s.creditAvail t c.hdr.cls ≥ c.cost

/-- SHEN, RATE and BUCKET that the shaper of queue `q` uses (R225). -/
def shaperSet (s : State) (q : Nat) : Nat × Nat × Nat :=
  let b := s.shp.shapBank
  Tab.get s.shp.kept q (s.rd SHP_Q0_SHEN q b, s.rd SHP_Q0_RATE q b, s.rd SHP_Q1_BUCKET q b)

/-- 10^-6 bit per byte (R224). -/
def tokenUnit : Int := 8000000

/-- The token count of queue `q` (R224). -/
def tokens (s : State) (q : Nat) : Int :=
  (Tab.get s.shp.tokens q none).getD ((s.shaperSet q).2.2 * tokenUnit)

/-- The token count of queue `q` set; a full count is the unlisted one. -/
def setTokens (s : State) (q : Nat) (v : Int) : State :=
  let full : Int := (s.shaperSet q).2.2 * tokenUnit
  { s with shp := { s.shp with tokens := Tab.put s.shp.tokens q (if v = full then none else some v) none } }

/-- The shaper of queue `q` does not withhold it (R224). -/
def shaperOk (s : State) (q : Nat) : Bool := (s.shaperSet q).1 = 0 || 0 ≤ s.tokens q

/-- A start of `len` shaped bytes is charged (R224). -/
def chargeShaper (s : State) (q len : Nat) : State :=
  if (s.shaperSet q).1 = 0 then s
  else s.setTokens q (max (s.tokens q - len * tokenUnit) (-9290 * tokenUnit))

/-- Everything but the fit rule lets the head `c` of its queue at port `p` start (R220, R253). -/
def ready (s : State) (p : Nat) (c : Copy) : Bool :=
  (p < 12 || p > 15 || s.engineRoom c) && (p ≥ 12 || s.gateOpen p c.hdr.cls) && s.shaperOk (queueOf p c.hdr.cls) && (p ≥ 4 || s.creditOk p c)

/-- The copy may be selected (R220). -/
def eligible (s : State) (p : Nat) (c : Copy) : Bool := s.ready p c && (p ≥ 12 || s.fits p c)

/-! The correction (R90, R93, R94). -/

/-- TXINT + TXBRD of a port in 2^-16 ns; internal ports have none (R90). -/
def txLatency (s : State) (p : Nat) : Int :=
  if p < 12 then signedOf 32 (s.rd PT_TXINT_TXINT p) + signedOf 32 (s.rd PT_TXBRD_TXBRD p) else 0

/-- RXINT + RXBRD of a port in 2^-16 ns (R90). -/
def rxLatency (s : State) (p : Nat) : Int :=
  if p < 12 then signedOf 32 (s.rd PT_RXINT_RXINT p) + signedOf 32 (s.rd PT_RXBRD_RXBRD p) else 0

/-- The time of day at the egress ball of a packet whose timestamp point passes now (R90). -/
def txTime (s : State) (p : Nat) : Wide :=
  Wide.ofUnits ((s.tmu.tod.units : Int) + s.txLatency p * 2 ^ 16).toNat

/-- The time of day at the ingress ball of a packet captured now (R90). -/
def rxTime (s : State) (p : Nat) : Wide :=
  Wide.ofUnits ((s.tmu.tod.units : Int) - s.rxLatency p * 2 ^ 16).toNat

/-- The elapsed count at the ingress ball (R90, R93). -/
def rxElapsed (s : State) (p : Nat) : Int := (s.tmu.elapsed : Int) - s.rxLatency p * 2 ^ 16

/-- What this hub adds to the correction of a copy that leaves on port `p`, in 2^-16 ns (R93). -/
def residence (s : State) (p : Nat) (c : Copy) : Int :=
  let e := divZ ((s.tmu.elapsed : Int) + s.txLatency p * 2 ^ 16 - c.eIn) (2 ^ 16)
  if c.iport < 12 && s.on PT_CFG_LDLYEN c.iport then
    e + s.rd PT_LDLY_LDLY c.iport * 256 + signedOf 32 (s.rd PT_ASYM_ASYM c.iport)
  else e

/-- A timestamped copy's correction updated at egress (R93, R94). -/
def correct (s : State) (p : Nat) (c : Copy) : State × Copy :=
  if !c.hdr.ts || c.hdr.corr = corrSat then (s, c)
  else
    let v := signedOf 48 c.hdr.corr + s.residence p c
    if v < -(2 ^ 47) || 2 ^ 47 - 1 < v then
      (s.sat TMU_CNT_CSAT_COUNT, { c with hdr := { c.hdr with corr := corrSat } })
    else (s, { c with hdr := { c.hdr with corr := codeOf 48 v } })

/-! Trunk egress (R146, R147, R150, R162, R170). -/

/-- The 8-byte seal prefix (R162). -/
def sealPrefix (epoch pn : Nat) : List Byte := beBytes 2 epoch ++ [0, 0] ++ beBytes 4 pn

/-- CRC-32 of a packet's bytes after the header, complemented for a stomped packet (R147, R150). -/
def tailCrc (stomp : Bool) (bs : List Byte) : List Byte :=
  fcsBytes (if stomp then 0xFFFFFFFF - crc32 bs else crc32 bs)

/-- The bytes of a packet on a KL3 trunk and the trunk after it (R145, R147, R162). -/
def kl3Wire (s : State) (t : Nat) (c : Copy) : State × List Byte :=
  if !s.on TRK_STAT_SEALED t then
    (s, headerWire c.hdr false ++ c.hdr.payload ++ tailCrc c.stomp c.hdr.payload)
  else
    let s := s.rollEpoch t
    let x := s.trunk t
    let pre := sealPrefix (s.rd TRK_SEALSTAT_TXEPOCH t) x.txPn
    let iv := (x.txKey.drop 32).take 8 ++ beBytes 4 x.txPn
    let r := gcmSeal (x.txKey.take 32) iv (headerBytes c.hdr true ++ pre) c.hdr.payload
    let body := pre ++ r.1 ++ r.2
    (s.setTrunk t { x with txPn := x.txPn + 1 }, headerWire c.hdr true ++ body ++ tailCrc c.stomp body)

/-- The KL2 hub whose translation entry holds a prefix (R170). -/
def kl2Hub (s : State) (pfx : Nat) : Option Nat :=
  ((List.range 32).drop 1).find? (fun h => s.on TRK_XLAT_VALID h && s.rd TRK_XLAT_PREFIX h == pfx)

/-- A legacy counter advances (R173). -/
def kl2Count (s : State) (j : Nat) : State := s.sat TRK_KL2_CNT_COUNT j

/-- The KL2 correction field: the correction ÷ 256 toward zero; a result outside ±2^31 is written as 0x7FFF_FFFF and counted (R170). -/
def kl2Corr (s : State) (corr : Nat) : State × Nat :=
  let v := divZ (signedOf 48 corr) 256
  if v < -(2 ^ 31) || 2 ^ 31 - 1 < v then (s.kl2Count 6, 0x7FFFFFFF) else (s, codeOf 32 v)

/-- The KL2 header of R168 with its check. -/
def kl2Header (cls : Nat) (ts : Bool) (tunid dhub dadp shub sadp len seq tstamp corr : Nat) : List Byte :=
  let h := beBytes 1 (0x80 + cls * 8 + bit ts * 4) ++ beBytes 1 (tunid * 8) ++
    beBytes 3 ((((dhub * 32 + dadp) * 32 + shub) * 32 + sadp) * 16) ++
    beBytes 2 len ++ beBytes 2 seq ++ beBytes 4 tstamp ++ beBytes 4 corr ++ [0]
  h ++ beBytes 2 (crc16 h)

/-- A copy converted to KL2 (R170): its bytes, or none for a discard with its count. -/
def kl2Wire (s : State) (c : Copy) : State × Option (List Byte) :=
  let h := c.hdr
  match s.kl2Hub (prefixOf h.dest), s.kl2Hub (prefixOf h.src) with
  | some dh, some sh =>
    if functionOf h.dest ≠ 0 || functionOf h.src ≠ 0 then (s.kl2Count 0, none)
    else if h.tunid > 31 then (s.kl2Count 1, none)
    else if h.payload.length > 2048 then (s.kl2Count 2, none)
    else if h.cls ≥ 6 && !s.on TRK_KL2_DEMOTE then (s.kl2Count 4, none)
    else if c.ring then (s.kl2Count 5, none)
    else
      let s1 := if h.cls ≥ 6 then s.kl2Count 4 else s
      let (s2, corr) := s1.kl2Corr h.corr
      (s2, some (kl2Header (min h.cls 5) h.ts h.tunid dh (adapterOf h.dest) sh (adapterOf h.src)
        h.payload.length h.seq (s2.txTime 0).ns32 corr ++ h.payload ++ tailCrc c.stomp h.payload))
  | _, _ => (s.kl2Count 0, none)

/-! Edge egress (R95, R213, R214). -/

/-- The largest tunnel age of an edge port (R213). -/
def edgeAge (s : State) (p : Nat) (c : Copy) : State :=
  if s.agePrefix c then
    s.raise EDG_LAT_MAX (diff32 (s.txTime p).ns32 (ofBe (c.hdr.payload.take 4))).toNat (p - 4)
  else s

/-- A flagged frame at its egress: one-step insertion, or an entry of the two-step queue (R95). -/
def ptpEgress (s : State) (p : Nat) (c : Copy) (f : List Byte) : State × List Byte :=
  if !c.hdr.ts then (s, f)
  else if s.on PT_CFG_ONESTEP p && ptpEvent f then
    let o := l2Length f + 8
    let old := ofBe ((f.drop o).take 8)
    let new := if c.hdr.corr = corrSat then 0x7FFFFFFFFFFFFFFF
      else codeOf 64 ((old : Int) + signedOf 48 c.hdr.corr)
    (s, spliceAt f o (beBytes 8 new))
  else
    let o := ptpStart f
    let by_ (k n : Nat) : Nat := ofBe ((f.drop (o + k)).take n)
    (s.tsqPush p { domain := by_ 4 1, msgType := by_ 0 1 % 16, seqId := by_ 30 2, time := s.txTime p, corr := c.hdr.corr }, f)

/-- How often an edge port sends each byte: SGMII repeats it at 10 and 100 Mb/s (R214). -/
def symbolRepeat (s : State) (p : Nat) : Nat :=
  if s.rd EDG_CTRL_MODE (p - 4) ≠ 1 then 1
  else match s.rd EDG_STAT_SPEED (p - 4) with
    | 0 => 100
    | 1 => 10
    | _ => 1

/-- A frame as it leaves an edge port: the 8-byte preamble, the frame, and its new FCS (R214). -/
def edgeLine (s : State) (p : Nat) (g : List Byte) : List Byte :=
  ([0x55, 0x55, 0x55, 0x55, 0x55, 0x55, 0x55, 0xD5] ++ g ++ fcsBytes (crc32 g)).flatMap (fun b => List.replicate (s.symbolRepeat p) b)

/-- The bytes that port `p` sends for a copy, or none where the copy is discarded at transmit (R170, R214). -/
def egressBytes (s : State) (p : Nat) (c : Copy) : State × Option (List Byte) :=
  if p = 0 && s.kl2Active then s.kl2Wire c
  else if p < 4 then
    let (s1, w) := s.kl3Wire p c
    (s1, some w)
  else if p < 12 then
    let f := s.edgeFrame c
    if f.length + 4 > s.rd EDG_CTRL_MAXLEN (p - 4) then (s.sat EDG_CNT_COUNT (p - 4) 7, none)
    else
      let (s1, g) := (s.edgeAge p c).ptpEgress p c f
      (s1.wrap EDG_CNT_COUNT (p - 4) 1, some (s1.edgeLine p g))
  else if p = 22 then (s, some c.record)
  else (s, some (headerWire c.hdr false ++ c.hdr.payload))

/-! Starting a copy (R153, R202, R222, R224). -/

/-- SENT and the packet count of a trunk grow (R153, R173). -/
def chargeCredit (s : State) (p : Nat) (c : Copy) : State :=
  if p < 4 then
    let x := s.trunk p
    let s1 := s.setTrunk p
      { x with
        sent := Tab.put x.sent c.hdr.cls (wrapAdd 20 (Tab.get x.sent c.hdr.cls 0) c.cost) 0,
        sentAt := Tab.put x.sentAt c.hdr.cls s.tmu.elapsed 0,
        stalled := Tab.put x.stalled c.hdr.cls false false }
    s1.wrap TRK_TXPKT_COUNT p
  else s

/-- The bytes of a packet put on trunk `p`: link blocks of its stream (R141 to R144), or KL2 columns (R168). -/
def trunkOut (s : State) (p : Nat) (w : List Byte) : State :=
  if p = 0 && s.kl2Active then { s with kl2 := { s.kl2 with out := kl2Stripe w } }
  else s.linkSend p (packetBlocks w)

/-- A copy that has left its queue starts on port `p`, or is discarded at transmit and released. -/
def startCopy (s : State) (p : Nat) (c : Copy) : State :=
  let (s1, c1) := s.correct p c
  match s1.egressBytes p c1 with
  | (s2, none) => s2.releaseCopy c
  | (s2, some w) =>
    let s3 := (s2.chargeShaper (queueOf p c.hdr.cls) (s2.shapedLen p c)).chargeCredit p c
    let s4 := (s3.setSending p (some c1)).setWire p w
    (s4.when (p < 4) (·.trunkOut p w)).when (p = 18 || p = 21) (·.arm (.rxWait (p == 21)) 0)

/-- The copy that port `p` sends has been read whole: its cells return, and the port is idle (R202). -/
def completeSend (s : State) (p : Nat) : State :=
  match s.sending p with
  | none => s
  | some c => (s.setSending p none).releaseCopy c

end State

end Sys2Proof.Machine
end

