-- ==== Sys2Proof/Machine/Rings.lean ====
section
/-! DEFINITION. The ring logic: reach, ring status messages and steering (R185 to R189). -/

namespace Sys2Proof.Machine

/-- What the scan wants of one route entry (R187). -/
inductive Want where
  | skip | pri | alt | unreach
  deriving DecidableEq, Repr

namespace State

/-- SIZE of the ring. -/
def ringSize (s : State) : Nat := s.rd FAB_RING_CFG_SIZE

/-- The reach of a direction: 0 east on TRK0, 1 west on TRK1 (R186). -/
def reachOf (s : State) (t : Nat) : Nat :=
  if !s.on FAB_RING_CFG_EN || s.portBroken t then 0
  else
    match Tab.get s.ring.heard t none with
    | none => 0
    | some r => min (1 + r) (s.ringSize - 1)

/-- What the scan wants of route entry `v` (R187). -/
def wantOf (s : State) (v : Nat) : Want :=
  let R := (routeOf v).1
  let i := (routeOf v).2
  let pri := s.rd R.pri i
  let alt := s.rd R.alt i
  let hops := s.rd R.hops i
  if s.rd R.mode i = 1 then
    if !s.ringPort pri || !s.ringPort alt || hops = 0 || hops ≥ s.ringSize then .skip
    else if hops ≤ s.reachOf pri then .pri
    else if s.ringSize - hops ≤ s.reachOf alt then .alt
    else .unreach
  else if s.rd R.mode i = 2 then
    if s.trunkUp pri then .pri else if s.trunkUp alt then .alt else .unreach
  else .skip

/-- The condition for PRI of entry `v` has held since an elapsed count, or does not hold. -/
def setSince (s : State) (v : Nat) (x : Option Nat) : State :=
  { s with ring := { s.ring with since := Tab.put s.ring.since v x none } }

/-- The condition for PRI of entry `v` has held for RESTORE (R189). -/
def restoreHeld (s : State) (v : Nat) : Bool :=
  match Tab.get s.ring.since v none with
  | some t => t + s.rd FAB_RING_CFG_RESTORE * 100000000 * 2 ^ 32 ≤ s.tmu.elapsed
  | none => false

/-- STEER of an entry changed by hardware (R187). -/
def steer (s : State) (v x : Nat) : State :=
  (s.wr (routeOf v).1.steer x (routeOf v).2).wr FAB_RING_STAT_STEERCHG 1

/-- The scan's judgement of one route entry (R187, R189). -/
def scanEntry (s : State) (v : Nat) : State :=
  let st := s.rd (routeOf v).1.steer (routeOf v).2
  match s.wantOf v with
  | .skip => s
  | .unreach => s.ddCount 7
  | .alt => if st = 0 then s.steer v 1 else s
  | .pri => if st = 1 && s.restoreHeld v then s.steer v 0 else s

/-- All 168 route entries scanned (R187). -/
def scan (s : State) : State :=
  if s.on FAB_RING_CFG_AUTO then s.each (List.range 168) scanEntry else s

/-- The hold of entry `v` starts when its condition for PRI comes to hold, and ends with it (R189). -/
def holdCheck (s : State) (v : Nat) : State :=
  if s.wantOf v = .pri then (if (Tab.get s.ring.since v none).isSome then s else s.setSince v (some s.tmu.elapsed))
  else s.setSince v none

/-- Every hold after a change of a reach, of an UP state or of a route (R189). -/
def holdsCheck (s : State) : State := s.each (List.range 168) holdCheck

/-- Both ring ports owe a message (R185). -/
def oweMessages (s : State) : State :=
  { s with ring := { s.ring with owed := Tab.put (Tab.put s.ring.owed 0 true false) 1 true false } }

/-- The reaches as they follow from the ports (R186); a change leaves a message owed on each port (R185). -/
def reachShow (s : State) : State :=
  let changed := s.rd FAB_RING_STAT_REACH_E != s.reachOf 0 || s.rd FAB_RING_STAT_REACH_W != s.reachOf 1
  (((s.wr FAB_RING_STAT_REACH_E (s.reachOf 0)).wr FAB_RING_STAT_REACH_W (s.reachOf 1)).when changed oweMessages).holdsCheck

/-- What the last message of a ring port told, and its loss, replaced; the interval of R186 starts again. -/
def setHeard (s : State) (t : Nat) (r : Option Nat) (lost : Bool) : State :=
  { (s.arm (.rsmHeard t) 0) with ring := { s.ring with
    heard := Tab.put s.ring.heard t r none, lost := Tab.put s.ring.lost t lost false } }

/-- A trunk has entered or left UP: its interval starts again, and the last message accepted still tells (R186). -/
def ringTrunkChanged (s : State) (t : Nat) : State := (s.setHeard t (Tab.get s.ring.heard t none) false).reachShow

/-- A write of FAB_RING_CFG (R174, R186): a change of EN starts the ring logic afresh. -/
def ringCfgWrite (s : State) (w : Nat) : State :=
  let s1 := s.writeReg 0x1B0008 w
  if s1.rd FAB_RING_CFG_EN = s.rd FAB_RING_CFG_EN then s1.reachShow
  else ((s1.setHeard 0 none false).setHeard 1 none false).reachShow

/-- The ring status message that port `t` sends (R185). -/
def rsmPacket (s : State) (t : Nat) : Packet :=
  { cls := 5, src := s.selfPrefix * 128, dest := s.rd TRK_PEER2_PREFIX t * 128,
    payload := [0xA5] ++ beBytes 1 (Tab.get s.ring.rseq t 0) ++ beBytes 1 (s.rd FAB_RING_STAT_REACH_E) ++
      beBytes 1 (s.rd FAB_RING_STAT_REACH_W) ++ beBytes 1 s.ringSize ++ [0, 0, 0] }

/-- A message is due on port `t` (R185): one is owed for a change, none has been sent yet, or RSMINT has passed. -/
def rsmDue (s : State) (t : Nat) : Bool :=
  Tab.get s.ring.owed t false || !s.armed (.rsmSent t) || s.ran (.rsmSent t) (s.rd FAB_RING_CFG_RSMINT * 10000)

/-- A ring status message that is due is sent on port `t`, unless a packet is being sent there (R185). -/
def rsmSend (s : State) (t : Nat) : State :=
  if s.ringPort t && s.trunkUp t && s.seamless t && s.portReady t && (s.sending t).isNone && s.rsmDue t then
    let (s1, w) := s.kl3Wire t { hdr := s.rsmPacket t }
    let s2 := { (s1.arm (.rsmSent t) 0) with ring := { s1.ring with
      rseq := Tab.put s1.ring.rseq t (wrapAdd 8 (Tab.get s1.ring.rseq t 0) 1) 0,
      owed := Tab.put s1.ring.owed t false false,
      out := Tab.put s1.ring.out t w [] } }
    s2.linkSend t (packetBlocks w)
  else s

/-- A message is rejected (R186). -/
def rsmReject (s : State) : State := s.sat FAB_RING_STAT_RSMREJ

/-- The ring logic takes a message of type 0xA5 from trunk `t` (R185, R186). -/
def rsmReceive (s : State) (t : Nat) (payload : List Byte) : State :=
  let b (k : Nat) : Nat := ofBe ((payload.drop k).take 1)
  if !s.ringPort t || payload.length < 8 then s.rsmReject
  else if b 4 ≠ s.ringSize then ((s.rsmReject.wr FAB_RING_STAT_SIZEMIS 1).fault 76 t)
  else if b 2 > s.ringSize - 1 || b 3 > s.ringSize - 1 then s.rsmReject
  else (s.setHeard t (some (if t = 0 then b 2 else b 3)) false).reachShow

/-- No message was accepted on port `t` for 4 × RSMINT (R186). -/
def rsmLoss (s : State) (t : Nat) : State :=
  if s.ringPort t && s.trunkUp t && s.seamless t && !Tab.get s.ring.lost t false &&
      s.ran (.rsmHeard t) (4 * s.rd FAB_RING_CFG_RSMINT * 10000) then
    let s1 := { s with ring := { s.ring with lost := Tab.put s.ring.lost t true false } }
    ((s1.wr FAB_RING_STAT_RSMLOSS 1).fault 77 t).reachShow
  else s

/-- The RESTORE hold of route entry `v` expires, and the scan runs (R189). -/
def restoreExpiry (s : State) (v : Nat) : State := if s.restoreHeld v then s.scan else s

end State

/-- RSM_SEND (R185) on ring port `t`. -/
def execRsmSend (t : Fin 2) (s : State) : Host.Outcome State Fault Refusal := .next (s.rsmSend t)

/-- RSM_RECEIVE (R186): a ring status message with this payload on trunk `t`. -/
def execRsmReceive (t : Fin 4) (payload : List Byte) (s : State) : Host.Outcome State Fault Refusal :=
  .next (s.rsmReceive t payload)

/-- RSM_LOSS (R186) of ring port `t`. -/
def execRsmLoss (t : Fin 2) (s : State) : Host.Outcome State Fault Refusal := .next (s.rsmLoss t)

/-- STEERING_SCAN (R187). -/
def execSteeringScan (s : State) : Host.Outcome State Fault Refusal := .next s.scan

/-- RESTORE_EXPIRY (R189) of route entry `v`, in table order. -/
def execRestoreExpiry (v : Fin 168) (s : State) : Host.Outcome State Fault Refusal := .next (s.restoreExpiry v)

end Sys2Proof.Machine
end

