-- ==== Sys2Proof/Machine/Sched.lean ====
section
/-! DEFINITION. Selection, shapers, policers, sampling and the plan banks (spec/09_bandwidth_plans.md). -/

namespace Sys2Proof.Machine

/-- What the round robin sees of one class (R222). -/
structure DrrIn where
  elig : Bool
  empty : Bool
  len : Nat
  quantum : Nat
  deriving DecidableEq, Repr

/-- The deficit round robin of R222 over classes 4–0: current class, deficits by class; the selected class, if any, with the class and deficits it leaves. -/
def drrLoop (q : Nat → DrrIn) : Nat → Nat → Tab Nat → Option (Nat × Nat × Tab Nat)
  | 0, _, _ => none
  | fuel + 1, cur, d =>
    if (q cur).elig && (q cur).len ≤ Tab.get d cur 0 then
      some (cur, cur, Tab.put d cur (Tab.get d cur 0 - (q cur).len) 0)
    else
      let d1 := if (q cur).empty then Tab.put d cur 0 0 else d
      let nxt := if cur = 0 then 4 else cur - 1
      let d2 := if (q nxt).elig then Tab.put d1 nxt (min (Tab.get d1 nxt 0 + (q nxt).quantum) 0xFFFFF) 0 else d1
      drrLoop q fuel nxt d2

/-- Turns of the round robin that always reach a selection: at most 146 quanta of 64 bytes for each of five classes (R221, R222). -/
def drrFuel : Nat := 1000

namespace State

/-- The head of class `c` at port `p`. -/
def head (s : State) (p c : Nat) : Option Copy := (s.queue (queueOf p c)).head?

/-- The head of class `c` at port `p` may be selected (R220). -/
def headEligible (s : State) (p c : Nat) : Bool :=
  match s.head p c with
  | none => false
  | some x => s.eligible p x

/-- The head of class `c` at port `p` is held back by the fit test alone and has not been counted (R232). -/
def headUnfit (s : State) (p c : Nat) : Bool :=
  match s.head p c with
  | none => false
  | some x => p < 12 && s.ready p x && !s.fits p x && !x.fitted

/-- The head of class `c` at port `p` counts once in FITWAIT when the fit test holds it back (R232). -/
def countUnfit (s : State) (p c : Nat) : State :=
  if s.headUnfit p c then
    match s.queue (queueOf p c) with
    | [] => s
    | x :: l => (s.setQueue (queueOf p c) ({ x with fitted := true } :: l)).sat SHP_CNT_COUNT 3
  else s

/-- What the round robin of port `p` sees of a class. -/
def drrIn (s : State) (p c : Nat) : DrrIn :=
  { elig := s.headEligible p c, empty := (s.queue (queueOf p c)).isEmpty,
    len := (match s.head p c with
      | none => 0
      | some x => s.shapedLen p x),
    quantum := s.rd SHP_Q1_QUANTUM (queueOf p c) s.activeBank * 64 }

/-- The deficits of port `p` by class. -/
def deficits (s : State) (p : Nat) : Tab Nat :=
  [0, 1, 2, 3, 4].foldl (fun d c => Tab.put d c (Tab.get s.shp.deficit (queueOf p c) 0) 0) []

/-- The deficits of port `p` replaced. -/
def setDeficits (s : State) (p : Nat) (d : Tab Nat) : State :=
  { s with shp := { s.shp with
    deficit := [0, 1, 2, 3, 4].foldl (fun t c => Tab.put t (queueOf p c) (Tab.get d c 0) 0) s.shp.deficit } }

/-- The selection of port `p` (R222): the class whose head is taken, and the state of the round robin after it. -/
def select (s : State) (p : Nat) : State × Option Nat :=
  match [7, 6, 5].find? (fun c => s.headEligible p c) with
  | some c => (s, some c)
  | none =>
    if !([4, 3, 2, 1, 0].any (fun c => s.headEligible p c)) then (s, none)
    else
      match drrLoop (s.drrIn p) drrFuel (Tab.get s.shp.cur p 4) (s.deficits p) with
      | none => (s, none)
      | some (c, cur, d) =>
        let s1 := s.setDeficits p d
        ({ s1 with shp := { s1.shp with cur := Tab.put s1.shp.cur p cur 4 } }, some c)

/-- The classes whose heads the selection has looked at: down to the first eligible of 7–5, or all. -/
def examined (s : State) (p : Nat) : List Nat :=
  match [7, 6, 5].find? (fun c => s.headEligible p c) with
  | some c => [7, 6, 5].filter (fun x => x > c)
  | none => [7, 6, 5, 4, 3, 2, 1, 0]

/-- Port `p` is a broken ring port (R174, R179). -/
def brokenRing (s : State) (p : Nat) : Bool := s.ringPort p && s.portBroken p

/-- Every queued copy of a broken ring port is discarded and counted in BREAKDROP (R179). -/
def breakDrop (s : State) (p : Nat) : State :=
  s.each (List.range 8) (fun s c =>
    (s.setQueue (queueOf p c) []).each (s.queue (queueOf p c)) (fun s x => (s.releaseCopy x).ddCount 6))

/-- A copy is discarded for an uncorrectable link word: its accounts are released, its cells can no longer be reached until the audit (R197). -/
def leakCopy (s : State) (c : Copy) : State :=
  let s1 := s.releaseCopy c
  { (s1.wr XSW_POOL_CELLS (s1.freeCells - c.cost)) with xsw := { s1.xsw with leak := s1.xsw.leak + c.cost } }

/-- A copy that has left its queue starts; one with DUP = 1 on a trunk without seamless is discarded (R161, R179). -/
def launchCopy (s : State) (p : Nat) (x : Copy) : State :=
  if p < 4 && x.hdr.dup && !s.seamless p then (s.releaseCopy x).ddCount 6 else s.startCopy p x

/-- The head of queue `q` leaves with what its ECC says (R197): 0 good, 1 corrected, 2 uncorrectable in a cell, 3 uncorrectable in a link word. -/
def launchEcc (s : State) (p q ecc : Nat) (x : Copy) (l : List Copy) : State :=
  match ecc with
  | 0 => (s.setQueue q l).launchCopy p x
  | 1 => (((s.setQueue q l).sat XSW_CNT_COUNT 5).fault 79 q).launchCopy p x
  | 2 =>
    let s1 := ((s.setQueue q l).sat XSW_CNT_COUNT 6).fault 80 q
    if p < 4 then s1.launchCopy p { x with stomp := true } else s1.releaseCopy x
  | _ => ((s.setQueue q []).each (x :: l) (fun s c => (s.leakCopy c).sat XSW_CNT_COUNT 6)).fault 80 q

/-- A selected class leaves its queue and starts. -/
def launch (s : State) (p c ecc : Nat) : State :=
  match s.queue (queueOf p c) with
  | [] => s
  | x :: l => s.launchEcc p (queueOf p c) ecc x l

/-- Cells that could not be reached return to the free list (R197). -/
def leakAudit (s : State) : State :=
  let s1 := (s.wr XSW_POOL_CELLS (s.freeCells + s.xsw.leak)).satBy XSW_CNT_COUNT s.xsw.leak 7
  { s1 with xsw := { s1.xsw with leak := 0 } }

/-- A link-local tunnel-0 copy: class 5 to the partner's prefix with local part 0 (R166). -/
def linkLocal (s : State) (t : Nat) (c : Copy) : Bool :=
  c.hdr.tunid = 0 && c.hdr.cls = 5 && c.hdr.dest = s.rd TRK_PEER2_PREFIX t * 128

/-- An idle trunk in SEAL starts the head of its class-5 queue if that is a link-local packet: no credit is needed, while the records after agreement, gate, fit and shaper hold it back as in UP (R157, R160, R166, R220). -/
def sealSelect (s : State) (t ecc : Nat) : State :=
  match s.head t 5 with
  | none => s
  | some c =>
    if (s.sending t).isNone && (s.trunk t).tail = 0 && s.linkLocal t c && s.gateOpen t 5 && s.shaperOk (queueOf t 5) && s.fits t c then s.launch t 5 ecc
    else s

/-- An idle egress port that is up selects one copy and starts it (R220, R222), behind a ring status message that it owes (R185); `ecc`: what the ECC of its cells and link words says (R197). -/
def packetSelect (s : State) (p ecc : Nat) : State :=
  let s := if p < 2 && Tab.get s.ring.owed p false then s.rsmSend p else s
  if p < 4 && s.rd TRK_STAT_STATE p = 3 then s.sealSelect p ecc
  else if s.brokenRing p then s.breakDrop p
  else if (s.sending p).isSome || !s.portReady p then s
  else
    let s0 := s.each (s.examined p) (fun s c => s.countUnfit p c)
    match s0.select p with
    | (s1, none) => s1
    | (s1, some c) => s1.launch p c ecc

/-! Shapers and policers (R224 to R228). -/

/-- One shaper adopts the active bank and gains its refill (R224, R225). -/
def refillShaper (s : State) (q : Nat) : State :=
  let b := s.activeBank
  let full : Int := s.rd SHP_Q1_BUCKET q b * tokenUnit
  let v := min (s.tokens q) full + s.rd SHP_Q0_RATE q b * 1024
  let new := if s.on SHP_Q0_SHEN q b then min v full else full
  { s with shp := { s.shp with tokens := Tab.put s.shp.tokens q (if new = full then none else some new) none } }

/-- The count of policer `n` in the active bank (R226). -/
def policerCount (s : State) (n : Nat) : Int :=
  (Tab.get s.shp.policer n none).getD (s.rd SHP_POL1_BURST n s.activeBank * tokenUnit)

/-- The count of policer `n` set; a full count is the unlisted one. -/
def setPolicer (s : State) (n : Nat) (v : Int) : State :=
  let full : Int := s.rd SHP_POL1_BURST n s.activeBank * tokenUnit
  { s with shp := { s.shp with policer := Tab.put s.shp.policer n (if v = full then none else some v) none } }

/-- One policer gains its refill (R226). -/
def refillPolicer (s : State) (n : Nat) : State :=
  let b := s.activeBank
  let full : Int := s.rd SHP_POL1_BURST n b * tokenUnit
  if s.on SHP_POL0_PEN n b then s.setPolicer n (min (s.policerCount n + s.rd SHP_POL0_RATE n b * 1024) full)
  else s.setPolicer n full

/-- The switch instant T in ns (R240). -/
def planInstant (s : State) : Nat :=
  (s.rd SHP_PLAN_SECHI_SEC_HI * 2 ^ 32 + s.rd SHP_PLAN_SECLO_SEC_LO) * 1000000000 + s.rd SHP_PLAN_NS_NS

/-- The switch at its tick (R241); `lateFrom`: the intended instant in ns, for LATE (R240). -/
def planSwitch (s : State) (intended : Option Nat) : State :=
  let old := s.activeBank
  let t := s.tmu.tod
  let late := match intended with
    | none => false
    | some n => n * 2 ^ 32 + 2 * 2 ^ 32 ≤ t.units
  let counts := slots.map (fun n => (n, s.policerCount n))
  let s1 := (((s.wr SHP_PLAN_STAT_ACTIVE (1 - old)).wr SHP_PLAN_STAT_ARMED 0).wr SHP_PLAN_STAT_SWITCHED 1).wrap
    SHP_PLAN_STAT_SWCNT
  let s2 := ((s1.wr SHP_PLAN_AT_SECLO_SEC_LO t.sec).wr SHP_PLAN_AT_NS_NS t.ns).wr SHP_PLAN_AT_FRAC_FRAC t.frac16
  let s3 := (if late then s2.wr SHP_PLAN_STAT_LATE 1 else s2).gatesShow
  let s4 := { s3 with shp := { s3.shp with due := false } }
  s4.each counts (fun s x => s.setPolicer x.1 (min x.2 (s.rd SHP_POL1_BURST x.1 (1 - old) * tokenUnit)))

/-- An armed switch whose time has come applies (R240, R241). -/
def planSwitchDue (s : State) : State :=
  if !s.on SHP_PLAN_STAT_ARMED then s
  else
    match s.shp.mode with
    | 0 => if s.shp.armAt < s.tmu.elapsed then s.planSwitch none else s
    | 1 => if s.planInstant * 2 ^ 32 ≤ s.tmu.tod.units then s.planSwitch (some s.planInstant) else s
    | _ => if s.shp.due then s.planSwitch none else s

/-- T + DL of an armed MAINS switch in ns (R240). -/
def planDeadline (s : State) : Nat := s.planInstant + s.rd SHP_PLAN_DL_DL * 1000000

/-- A MAINS switch without a counted boundary applies at T + DL (R240). -/
def planDeadlineDue (s : State) : State :=
  if s.on SHP_PLAN_STAT_ARMED && s.shp.mode = 2 && !s.shp.due && s.planDeadline * 2 ^ 32 ≤ s.tmu.tod.units then
    ((s.wr SHP_PLAN_STAT_MFALL 1).sat SHP_CNT_COUNT 4).planSwitch (some s.planDeadline)
  else s

/-- An armed switch whose tick this is applies before what else happens in the tick (R242). -/
def planTick (s : State) : State := s.planSwitchDue.planDeadlineDue

/-- A refill of the grid (R224 to R226), after a switch of its tick (R242). -/
def refill (s : State) : State :=
  let s1 := s.planTick.each (List.range 184) refillShaper
  let s2 := { s1 with shp := { s1.shp with shapBank := s1.activeBank, kept := [] } }
  s2.each slots refillPolicer

/-- A packet of `len` stored bytes at policer `n`: green, with its tokens taken, or red (R226). -/
def police (s : State) (n len : Nat) : State × Bool :=
  if !s.on SHP_POL0_PEN n s.activeBank then (s, true)
  else if s.policerCount n ≥ len * tokenUnit then (s.setPolicer n (s.policerCount n - len * tokenUnit), true)
  else (s, false)

/-! Sampling (R236). -/

/-- The copy at the head of queue `q`: the one whose cells are being read, or the next (R202, R236). -/
def lineHead (s : State) (q : Nat) : Option Copy :=
  match s.sending (q / 8) with
  | some c => if c.hdr.cls = q % 8 then some c else (s.queue q).head?
  | none => (s.queue q).head?

/-- The head-of-line delay of queue `q` in whole ns (R236). -/
def headDelay (s : State) (q : Nat) : Nat :=
  match s.lineHead q with
  | none => 0
  | some c => min ((s.tmu.elapsed - c.linkAt) / 2 ^ 32) 0xFFFFFFFF

/-- The sampling period has passed since the last sample, or there was none (R236). -/
def sampleDue (s : State) : Bool := !s.armed .sample || s.ran .sample (1024 * 2 ^ s.rd SHP_SAMPLE_PERIOD)

/-- One sweep over all queues (R236). -/
def sample (s : State) : State :=
  if !s.on SHP_SAMPLE_EN || !s.sampleDue then s
  else
    (s.arm .sample 0).each (List.range 192) (fun s q =>
      let d := s.rd XSW_QOCC_CELLS q
      let h := s.headDelay q
      (((s.wr SHP_DEPTH_LAST_CELLS d q).wr SHP_DELAY_LAST_NS h q).raise SHP_DEPTH_MAX_CELLS d q).raise SHP_DELAY_MAX_NS h q)

/-! Plan banks (R237 to R242). -/

/-- Codes of the plan commands (R239). -/
inductive PlanCode where
  | ok | gLen | gSum | gCyc | gShort | rate | bucket | quant | pBurst | badTime | state | badOp
  deriving DecidableEq, Repr

/-- The numbers of the codes (R239). -/
def planCode (c : PlanCode) : Nat :=
  match c with
  | .ok => 0 | .gLen => 2 | .gSum => 3 | .gCyc => 4 | .gShort => 5 | .rate => 6 | .bucket => 7
  | .quant => 8 | .pBurst => 9 | .badTime => 10 | .state => 11 | .badOp => 12

/-- The first failure of the gate list of port `p` in bank `b`: code and entry (R239). -/
def checkList (s : State) (b p : Nat) : Option (PlanCode × Nat) :=
  let len := s.rd SHP_GCTL_LEN p b
  let l := s.gateList p b
  let sum := gateCycle l
  if !s.on SHP_GCTL_EN p b then none
  else if len = 0 || len > 256 then some (.gLen, 0)
  else if s.on SHP_GCTL_ANCHOR p b then
    if sum ≠ 65536 * 2 ^ s.rd SHP_GCTL_MCYC p b then some (.gSum, 0) else none
  else if s.rd SHP_GBASE_NS_NS p b > 999999999 then some (.badTime, 0)
  else
    match (List.range len).find? (fun k => s.rd SHP_GATE_INTERVAL (256 * p + k) b < 16) with
    | some k => some (.gShort, k)
    | none => if sum < 1000 || sum > 1000000000 then some (.gCyc, 0) else none

/-- The first failure of queue entry `q` in bank `b` (R239). -/
def checkQueue (s : State) (b q : Nat) : Option PlanCode :=
  let r := s.rd SHP_Q0_RATE q b
  let k := s.rd SHP_Q1_BUCKET q b
  if q % 8 ≤ 4 && s.rd SHP_Q1_QUANTUM q b = 0 then some .quant
  else if !s.on SHP_Q0_SHEN q b then none
  else if r = 0 || r > 100000000 then some .rate
  else if k = 0 || k > 1048576 then some .bucket
  else none

/-- The first failure of policer entry `n` in bank `b` (R239). -/
def checkPolicer (s : State) (b n : Nat) : Option PlanCode :=
  let r := s.rd SHP_POL0_RATE n b
  let k := s.rd SHP_POL1_BURST n b
  if !s.on SHP_POL0_PEN n b then none
  else if r = 0 || r > 100000000 then some .rate
  else if k = 0 || k > 1048576 then some .bucket
  else if s.on SHP_POL0_HOLD n b && k < 9236 then some .pBurst
  else none

/-- CHECK of bank `b`: code, area and index of the first failure (R239). -/
def planCheck (s : State) (b : Nat) : PlanCode × Nat × Nat :=
  match (List.range 12).findSome? (fun p => (s.checkList b p).map (fun x => (x.1, 256 * p + x.2))) with
  | some (c, i) => (c, 0, i)
  | none =>
    match (List.range 184).findSome? (fun q => (s.checkQueue b q).map (fun c => (c, q))) with
    | some (c, i) => (c, 1, i)
    | none =>
      match slots.findSome? (fun n => (s.checkPolicer b n).map (fun c => (c, n))) with
      | some (c, i) => (c, 2, i)
      | none => (.ok, 3, 0)

/-- A plan command starts; its result waits for its completion (R239); area 3 stands for no failing item. -/
def planStart (s : State) (r : PlanCode × Nat × Nat) : State :=
  { (s.wr SHP_PLAN_STAT_BUSY 1) with shp := { s.shp with res := (planCode r.1, r.2.1, r.2.2), disarm := false } }

/-- A plan command written while BUSY is ignored (R239). -/
def planCommand (s : State) (run : State → State) : State :=
  if s.on SHP_PLAN_STAT_BUSY then (s.wr SHP_PLAN_STAT_CMDREJ 1).sat SHP_CNT_COUNT 5 else run s

/-- The inactive bank (R237). -/
def idleBank (s : State) : Nat := 1 - s.activeBank

/-- CHECK (R239). -/
def cmdCheck (s : State) : State := s.planStart (s.planCheck s.idleBank)

/-- ARM in a mode (R239, R240). -/
def cmdArm (s : State) (mode : Nat) : State :=
  if mode = 3 then s.planStart (.badOp, 3, 0)
  else if mode ≠ 0 && s.rd SHP_PLAN_NS_NS > 999999999 then s.planStart (.badTime, 3, 0)
  else if s.on SHP_PLAN_STAT_ARMED then s.planStart (.state, 3, 0)
  else
    match s.planCheck s.idleBank with
    | (.ok, a, i) =>
      let s1 := (s.planStart (.ok, a, i)).wr SHP_PLAN_STAT_ARMED 1
      { s1 with shp := { s1.shp with mode := mode, due := false, armAt := s.tmu.elapsed } }
    | r => s.planStart r

/-- DISARM waits for its judgement at the next tick (R242). -/
def cmdDisarm (s : State) : State :=
  let s1 := s.planStart (.ok, 3, 0)
  { s1 with shp := { s1.shp with disarm := true } }

/-- The shapers that have not yet adopted the active bank keep the values they hold (R225). -/
def keepShapers (s : State) (qs : List Nat) : State :=
  if s.shp.shapBank = s.activeBank then s
  else s.each qs (fun s q =>
    let v := s.shaperSet q
    { s with shp := { s.shp with kept := Tab.ins s.shp.kept q v } })

/-- A banked field copied for a list of indices. -/
def copyField (s : State) (F : Field) (is : List Nat) (fr goal : Nat) : State :=
  s.each is (fun s i => s.wr F (s.rd F i fr) i goal)

/-- COPY: the active bank into the inactive bank (R239). -/
def cmdCopy (s : State) : State :=
  if s.on SHP_PLAN_STAT_ARMED then s.planStart (.state, 3, 0)
  else
    let a := s.activeBank
    let i := s.idleBank
    let s0 := s.keepShapers (List.range 184)
    let s1 := s0.each [SHP_GATE_GATES, SHP_GATE_INTERVAL] (fun s F => s.copyField F (List.range 3072) a i)
    let s2 := s1.each [SHP_GCTL_EN, SHP_GCTL_ANCHOR, SHP_GCTL_MCYC, SHP_GCTL_FBMASK, SHP_GCTL_LEN,
      SHP_GBASE_SECLO_SEC_LO, SHP_GBASE_NS_NS, SHP_GSTART_START, SHP_GSTART_SEC_HI]
      (fun s F => s.copyField F (List.range 12) a i)
    let s3 := s2.each [SHP_Q0_SHEN, SHP_Q0_RATE, SHP_Q1_QUANTUM, SHP_Q1_BUCKET]
      (fun s F => s.copyField F (List.range 184) a i)
    let s4 := s3.each [SHP_POL0_PEN, SHP_POL0_HOLD, SHP_POL0_RATE, SHP_POL1_BURST]
      (fun s F => s.copyField F slots a i)
    s4.planStart (.ok, 3, 0)

/-- A write of SHP_PLAN_CMD (R239). -/
def planCmdWrite (s : State) (w : Nat) : State :=
  if !w.testBit 31 then s
  else
    s.planCommand fun s =>
      match bitsOf w 18 16 with
      | 1 => s.cmdCheck
      | 2 => s.cmdArm (bitsOf w 9 8)
      | 3 => s.cmdDisarm
      | 4 => s.cmdCopy
      | _ => s.planStart (.badOp, 3, 0)

/-- A waiting DISARM is judged after any switch of the tick: it clears ARMED, or ends with STATE (R239, R242). -/
def judgeDisarm (s : State) : State :=
  if !s.shp.disarm then s
  else
    let s1 := s.planTick
    if s1.on SHP_PLAN_STAT_ARMED then (s1.wr SHP_PLAN_STAT_ARMED 0).planStart (.ok, 3, 0)
    else s1.planStart (.state, 3, 0)

/-- SHP_PLAN_ERR names the first failing item; a command that names none leaves it (R239). -/
def planError (s : State) (r : Nat × Nat) : State :=
  if r.1 = 3 then s else (s.wr SHP_PLAN_ERR_AREA r.1).wr SHP_PLAN_ERR_INDEX r.2

/-- The plan command in progress completes (R239). -/
def planDone (s : State) : State :=
  if !s.on SHP_PLAN_STAT_BUSY then s
  else
    let s0 := s.judgeDisarm
    let r := s0.shp.res
    let s1 := ((s0.wr SHP_PLAN_STAT_BUSY 0).wr SHP_PLAN_STAT_CODE r.1).planError r.2
    if r.1 = 0 then s1 else s1.sat SHP_CNT_COUNT 5

/-- The bank that an SHP offset lies in, with the offset inside it. -/
def bankOf (off : Nat) : Option (Nat × Nat) :=
  if 0x150000 ≤ off && off < 0x160000 then some (0, off - 0x150000)
  else if 0x160000 ≤ off && off < 0x170000 then some (1, off - 0x160000)
  else none

/-- A write of a bank entry (R238). -/
def bankWrite (s : State) (off w : Nat) : State :=
  match bankOf off with
  | none => s
  | some (b, o) =>
    let q := (o - 0x4000) / 8
    if (findReg off).isNone || (0x4000 ≤ o && o < 0x4600 && q ≥ 184) then s
    else if b = s.activeBank then (s.wr SHP_PLAN_STAT_ACTWR 1).sat SHP_CNT_COUNT 5
    else if s.on SHP_PLAN_STAT_ARMED || s.on SHP_PLAN_STAT_BUSY then (s.wr SHP_PLAN_STAT_ARMWR 1).sat SHP_CNT_COUNT 5
    else
      let s1 := if 0x4000 ≤ o && o < 0x4600 then s.keepShapers [q] else s
      s1.writeReg off w

/-- A write of an instant or deadline register (R240, R245): ignored with ARMWR while ARMED = 1. -/
def planTimeWrite (s : State) (off w : Nat) : State :=
  if s.on SHP_PLAN_STAT_ARMED then (s.wr SHP_PLAN_STAT_ARMWR 1).sat SHP_CNT_COUNT 5
  else if off = 0x14001C && w % 256 = 0 then s.sat SHP_CNT_COUNT 5
  else s.writeReg off w

/-- Writes of SHP registers that do more than store their fields; one whose MARGIN the lock holds back counts in REJ (R245). -/
def shpWrite (s : State) (off w : Nat) : Option State :=
  if off = 0x140004 then some (s.planCmdWrite w)
  else if 0x140010 ≤ off && off ≤ 0x14001C then some (s.planTimeWrite off w)
  else if 0x140100 ≤ off && off < 0x1401C0 && off % 0x10 = 0 && s.on SHP_CTRL_LOCK then some ((s.writeReg off w).sat SHP_CNT_COUNT 5)
  else if (bankOf off).isSome && (findReg off).isSome then some (s.bankWrite off w)
  else none

end State

/-- PACKET_SELECT (R220, R222) of egress port `p`. -/
def execPacketSelect (p : Fin 23) (ecc : Fin 4) (s : State) : Host.Outcome State Fault Refusal := .next (s.packetSelect p ecc)

/-- LEAK_AUDIT (R197). -/
def execLeakAudit (s : State) : Host.Outcome State Fault Refusal := .next s.leakAudit

/-- TRANSMIT_COMPLETE (R202) of trunk or edge port `p`. -/
def execTransmitComplete (p : Fin 12) (s : State) : Host.Outcome State Fault Refusal := .next (s.completeSend p)

/-- SHAPER_REFILL (R224 to R226). -/
def execShaperRefill (s : State) : Host.Outcome State Fault Refusal := .next s.refill

/-- GATE_BOUNDARY (R230, R231, R235) of port `p`, after a switch of its tick (R242). -/
def execGateBoundary (p : Fin 12) (s : State) : Host.Outcome State Fault Refusal := .next (s.planTick.gateShow p)

/-- QUEUE_SAMPLE (R236). -/
def execQueueSample (s : State) : Host.Outcome State Fault Refusal := .next s.sample

/-- BANK_WRITE (R238): word `w` at SHP offset 0x10000 + 4 × `o`. -/
def execBankWrite (o : Fin 32768) (w : Word) (s : State) : Host.Outcome State Fault Refusal :=
  .next (s.bankWrite (0x150000 + 4 * o) w.toNat)

/-- PLAN_CHECK (R239). -/
def execPlanCheck (s : State) : Host.Outcome State Fault Refusal := .next (s.planCommand State.cmdCheck)

/-- PLAN_ARM (R239, R240) in mode `m`. -/
def execPlanArm (m : Fin 4) (s : State) : Host.Outcome State Fault Refusal := .next (s.planCommand (·.cmdArm m))

/-- PLAN_DISARM (R242): judged when the command completes, after any switch of that tick. -/
def execPlanDisarm (s : State) : Host.Outcome State Fault Refusal := .next (s.planCommand State.cmdDisarm)

/-- PLAN_COPY (R239). -/
def execPlanCopy (s : State) : Host.Outcome State Fault Refusal := .next (s.planCommand State.cmdCopy)

/-- PLAN_COMMAND_DONE (R239). -/
def execPlanCommandDone (s : State) : Host.Outcome State Fault Refusal := .next s.planDone

/-- PLAN_SWITCH (R240, R241). -/
def execPlanSwitch (s : State) : Host.Outcome State Fault Refusal := .next s.planSwitchDue

/-- PLAN_DEADLINE (R240). -/
def execPlanDeadline (s : State) : Host.Outcome State Fault Refusal := .next s.planDeadlineDue

end Sys2Proof.Machine
end

