-- ==== Sys2Proof/Machine/Buffer.lean ====
section
/-! DEFINITION. Writes of the switch core's registers and the capture ring (R203, R215 to R218). -/

namespace Sys2Proof.Machine

namespace State

/-- A write of the switch core is refused (XSW_STAT.CFGREJ). -/
def xswReject (s : State) : State := s.wr XSW_STAT_CFGREJ 1

/-- A write of XSW_QLIM of queue `q` (R203); a code above the range keeps the value (R15); the entries of P23 take no write (R194). -/
def qlimWrite (s : State) (q w : Nat) : State :=
  let v := bitsOf w 17 0
  if q ≥ 184 then s
  else if v > 131072 then s
  else if v < s.rd XSW_QRSV_RSV q then s.xswReject
  else s.wr XSW_QLIM_LIMIT v q

/-- The sum of the reserves (XSW_RSVSUM). -/
def rsvSum (s : State) : Nat := reserveQueues.foldl (fun a q => a + s.rd XSW_QRSV_RSV q) 0

/-- A write of XSW_QRSV of queue `q` (R203). -/
def qrsvWrite (s : State) (q w : Nat) : State :=
  let v := bitsOf w 17 0
  if q ≥ 184 then s
  else if q % 8 < 6 || v > s.rd XSW_QLIM_LIMIT q || s.rsvSum - s.rd XSW_QRSV_RSV q + v > 65536 then s.xswReject
  else s.wr XSW_QRSV_RSV v q

/-- A write of XSW_ILIM of account `a` (R203, R218). -/
def ilimWrite (s : State) (a w : Nat) : State :=
  let v := bitsOf w 17 0
  if v > 131072 then s.xswReject else s.wr XSW_ILIM_LIMIT v a

/-- A write of mirror rule `k` (R215, R218): an invalid PORT is refused, the other fields take the write. -/
def mirrorWrite (s : State) (k w : Nat) : State :=
  (s.writeReg (0x100100 + 4 * k) w).when (bitsOf w 20 16 > 21) xswReject

/-- A write of XSW_CAP_CFG (R217, R218): EN from 0 to 1 starts with an empty ring; a reserved SIZE, or a write of SIZE while EN = 1, is refused. -/
def capCfgWrite (s : State) (w : Nat) : State :=
  let size := bitsOf w 20 16
  let en := s.on XSW_CAP_CFG_EN
  let sizeOk := 10 ≤ size && size ≤ 22 && !en
  let s1 := s.writeReg 0x100200 (if sizeOk then w else setBits w 20 16 (s.rd XSW_CAP_CFG_SIZE))
  let s2 := s1.when (!sizeOk) xswReject
  if !en && w.testBit 31 then (s2.wr XSW_CAP_WR_WR 0).wr XSW_CAP_RD_RD 0 else s2

/-- A write of the capture ring's base (R217). -/
def capBaseWrite (s : State) (off w : Nat) : State :=
  if s.on XSW_CAP_CFG_EN then s.xswReject else s.writeReg off w

/-- Fill level of the capture ring with a read index (R217). -/
def capFill (s : State) (rd : Nat) : Nat := (s.rd XSW_CAP_WR_WR + 2 ^ 32 - rd % 2 ^ 32) % 2 ^ 32

/-- A write of XSW_CAP_RD (R217). -/
def capRdWrite (s : State) (w : Nat) : State :=
  if s.capFill w > 2 ^ s.rd XSW_CAP_CFG_SIZE then s.xswReject else s.wr XSW_CAP_RD_RD w

/-- The base of the capture ring. -/
def capBase (s : State) : Nat := s.rd XSW_CAP_BASE_HI_ADDR * 2 ^ 32 + s.rd XSW_CAP_BASE_LO_ADDR * 4096

/-- A record is written at WR; the threshold is reported when the fill level reaches it (R217). -/
def capStore (s : State) (bs : List Byte) : State :=
  let n := s.rd XSW_CAP_WR_WR
  let s1 := s.dramWrite (s.capBase + 96 * (n % 2 ^ s.rd XSW_CAP_CFG_SIZE)) bs
  let s2 := s1.wrap XSW_CAP_WR_WR
  let thr := s.rd XSW_CAP_CFG_THR
  if s.capFill (s.rd XSW_CAP_RD_RD) < thr && thr ≤ s2.capFill (s2.rd XSW_CAP_RD_RD) then
    (s2.wr XSW_STAT_CAPTHR 1).irq 11 (s2.rd XSW_CAP_WR_WR) 0
  else s2

/-- A record goes to the ring, overwrites the oldest, or is lost (R217). -/
def capWrite (s : State) (bs : List Byte) : State :=
  if s.capFill (s.rd XSW_CAP_RD_RD) < 2 ^ s.rd XSW_CAP_CFG_SIZE then s.capStore bs
  else if s.on XSW_CAP_CFG_MODE then ((s.wrap XSW_CAP_RD_RD).sat XSW_CNT_COUNT 9).capStore bs
  else s.sat XSW_CNT_COUNT 9

/-- P22 writes the record that it has read (R216, R217); with EN = 0 it waits (log entry 22). -/
def captureRecord (s : State) : State :=
  match s.sending 22 with
  | none => s
  | some c => if s.on XSW_CAP_CFG_EN then (s.capWrite c.record).completeSend 22 else s

/-- Counters 0 to n − 1 of an array are cleared where the written word has a 1 (R18). -/
def clearBits (s : State) (F : Field) (n w : Nat) : State :=
  s.each (List.range n) (fun s i => if w.testBit i then s.wr F 0 i else s)

/-- Writes of XSW registers that do more than store their fields. -/
def xswWrite (s : State) (off w : Nat) : Option State :=
  if 0x100100 ≤ off && off < 0x100120 && off % 4 = 0 then some (s.mirrorWrite ((off - 0x100100) / 4) w)
  else if off = 0x100080 then some (s.clearBits XSW_CNT_COUNT 12 w)
  else if off = 0x100200 then some (s.capCfgWrite w)
  else if off = 0x100204 || off = 0x100208 then some (s.capBaseWrite off w)
  else if off = 0x100210 then some (s.capRdWrite w)
  else if 0x110000 ≤ off && off < 0x1102C0 && off % 4 = 0 then some (s.ilimWrite ((off - 0x110000) / 4) w)
  else if 0x120000 ≤ off && off < 0x120300 && off % 4 = 0 then some (s.qlimWrite ((off - 0x120000) / 4) w)
  else if 0x120400 ≤ off && off < 0x120700 && off % 4 = 0 then some (s.qrsvWrite ((off - 0x120400) / 4) w)
  else none

end State

/-- QLIM_WRITE (R203): `w` written to XSW_QLIM of queue `q`. -/
def execQlimWrite (q : Fin 192) (w : Word) (s : State) : Host.Outcome State Fault Refusal := .next (s.qlimWrite q w.toNat)

/-- QRSV_WRITE (R203): `w` written to XSW_QRSV of queue `q`. -/
def execQrsvWrite (q : Fin 192) (w : Word) (s : State) : Host.Outcome State Fault Refusal := .next (s.qrsvWrite q w.toNat)

/-- MIRROR_RULE_WRITE (R215): `w` written to XSW_MIRk. -/
def execMirrorRuleWrite (k : Fin 8) (w : Word) (s : State) : Host.Outcome State Fault Refusal := .next (s.mirrorWrite k w.toNat)

/-- CAPTURE_CFG_WRITE (R217): `w` written to XSW_CAP_CFG. -/
def execCaptureCfgWrite (w : Word) (s : State) : Host.Outcome State Fault Refusal := .next (s.capCfgWrite w.toNat)

/-- CAPTURE_RD_WRITE (R217): `w` written to XSW_CAP_RD. -/
def execCaptureRdWrite (w : Word) (s : State) : Host.Outcome State Fault Refusal := .next (s.capRdWrite w.toNat)

/-- CAPTURE_RECORD_WRITE (R217). -/
def execCaptureRecordWrite (s : State) : Host.Outcome State Fault Refusal := .next s.captureRecord

end Sys2Proof.Machine
end

