-- ==== Sys2Proof/Machine/Lane.lean ====
section
/-! DEFINITION. The lanes and bonds as their own blocks see them (R91, R119 to R130, R135, R441): power, states, loss of lock, the deskew state, and the calibrated latencies. -/

namespace Sys2Proof.Machine

/-- Lane states (LNE_STAT.STATE). -/
def laneOff : Nat := 0
def laneCdr : Nat := 1
def laneHdr : Nat := 2
def laneAlign : Nat := 3
def laneLocked : Nat := 4

/-- Bond states (LNE_BOND.STATE). -/
def bondDown : Nat := 0
def bondDeskew : Nat := 1
def bondUp : Nat := 2
def bondFail : Nat := 3

namespace State

/-- The lanes of a trunk's present receive bond (R128). -/
def bondLanes (s : State) (t : Nat) : List Nat := (s.rxLanes t).take (lanesOf (s.trunk t).width)

/-- Consecutive alignment blocks of a lane counted afresh. -/
def alignCount (s : State) (n good bad : Nat) : State :=
  { s with lne := { s.lne with good := Tab.put s.lne.good n good 0, bad := Tab.put s.lne.bad n bad 0 } }

/-- The counts of a scan that stops early (R135): bits and errors up to there, which the spec leaves open. -/
def scanStop (s : State) (n err : Nat) : State :=
  if !s.on LNE_ES_STAT_BUSY n then s
  else
    let (b, s1) := s.free (s.rd LNE_ES_CTRL_CNTEXP n)
    let (e, s2) := s1.free (s.rd LNE_ES_CTRL_CNTEXP n)
    let errs := e % (b + 1)
    let s3 := ((s2.wr LNE_ES_BITS_LO_COUNT_LO b n).wr LNE_ES_BITS_HI_COUNT_HI (b / 2 ^ 32) n).wr LNE_ES_ERR_LO_COUNT_LO errs n
    (((s3.wr LNE_ES_ERR_HI_COUNT_HI (errs / 2 ^ 32) n).wr LNE_ES_STAT_BUSY 0 n).wr LNE_ES_STAT_DONE 1 n).wr LNE_ES_STAT_ERR err n

/-- An exit from LOCKED that is a loss of lock (R125, R126). -/
def lockLost (s : State) (n st : Nat) : State :=
  let s1 := s.sat LNE_CNT_ACQ_LOCKLOSS n
  (if s1.on LNE_STAT_LOCKLOST n then s1 else s1.fault (32 + n) st).wr LNE_STAT_LOCKLOST 1 n

/-- Lane `n` goes to a state; `loss`: for one of the causes in the LOCKED row of R125. -/
def laneGo (s : State) (n st : Nat) (loss : Bool) : State :=
  let was := s.rd LNE_STAT_STATE n
  if was = st then s
  else
    let s1 := ((s.wr LNE_STAT_STATE st n).wr LNE_STAT_CDRLK (bit (st ≥ 2)) n).alignCount n 0 0
    if was = laneLocked then
      let s2 := s1.scanStop n 2
      if loss && st ≠ laneOff then s2.lockLost n st else s2
    else s1

/-- The receiver of lane `n` is powered down by hardware (R31, R128, R134), an edge lane outside RUN and TRIM (R487); where lanes 24 to 27 receive nothing, they are taken as powered down (log entry 65). -/
def lanePd (s : State) (n : Nat) : Bool :=
  if n < 16 then
    let t := n / 4
    if s.onUsbC t then true
    else s.rd TRK_STAT_STATE t != 0 && n % 4 ≥ lanesOf (s.trunk t).width
  else if n < 24 then s.rd PWR_STAT_STATE ≥ 2
  else if !s.trunkMode then true
  else if n = 25 then false
  else if n = 27 then s.rd TRK_STAT_STATE 3 != 0 && lanesOf (s.trunk 3).width < 2
  else true

/-- Lane `n` follows its enable and the hardware's power-down (R125); CHKLK keeps its value (log entry 65). -/
def lanePower (s : State) (n : Nat) : State :=
  let pd := s.lanePd n
  let s1 := s.wr LNE_STAT_PD (bit pd) n
  if pd || !s1.on LNE_CTRL_EN n then s1.laneGo n laneOff false
  else if s1.rd LNE_STAT_STATE n = laneOff then s1.laneGo n laneCdr false
  else s1

/-- Lane `n` starts clock recovery afresh: a change of RATE or a write of RXPOL (R119, R127). -/
def laneRelock (s : State) (n : Nat) : State :=
  let s1 := s.wr LNE_STAT_RXINV 0 n
  if s1.rd LNE_STAT_STATE n = laneOff then s1 else s1.laneGo n laneCdr false

/-- RATE of lane `n` set by the layer that owns it (R119). -/
def laneRate (s : State) (n r : Nat) : State :=
  if s.rd LNE_CTRL_RATE n = r then s else (s.wr LNE_CTRL_RATE r n).laneRelock n

/-- Every lane of a bond is LOCKED. -/
def bondLocked (s : State) (t : Nat) : Bool := (s.bondLanes t).all (fun n => s.rd LNE_STAT_STATE n == laneLocked)

/-- A bond that is DOWN enters DESKEW once one of its lanes is LOCKED (R129). -/
def bondWake (s : State) (t : Nat) : State :=
  if s.rd LNE_BOND_STATE t = bondDown && s.rd TRK_STAT_STATE t ≠ 0 &&
      (s.bondLanes t).any (fun n => s.rd LNE_STAT_STATE n == laneLocked) then s.wr LNE_BOND_STATE bondDeskew t
  else s

/-- A bond starts afresh at the trunk's width and rate; a bond in FAIL holds it for its period (R128, R130). -/
def bondRestart (s : State) (t : Nat) : State :=
  let s1 := s.each (List.range 28) lanePower
  if s1.rd LNE_BOND_STATE t = bondFail then s1
  else ((s1.wr LNE_BOND_STATE bondDown t).wr LNE_BOND_WIDTH 0 t).bondWake t

/-! Calibrated latencies (R91, R441). -/

/-- The CAL row of the entry that port `p` uses, for a rate and a width code or an edge mode. -/
def calRow (s : State) (p rate width : Nat) : Nat :=
  if p = 0 && s.kl2Active then 0x7C
  else if s.onUsbC p then 0x7E
  else if p < 4 then 0x70 + 2 * (3 * rate + (width - 1))
  else 0x80 + 2 * s.rd EDG_CTRL_MODE (p - 4)

/-- TXINT and RXINT of port `p` hold the entry of its configured rate and width (R91); a change of KL2 selection or of Vexbel trunk mode loads it too, since it changes the entry that applies until a training. -/
def latencyConfig (s : State) (p : Nat) : State :=
  let r := s.calRow p (s.rd TRK_CTRL_RATE p) (s.rd TRK_CTRL_MAXW p)
  (s.wr PT_TXINT_TXINT (s.fuse r) p).wr PT_RXINT_RXINT (s.fuse (r + 1)) p

/-- A training of port `p` completes (R91): the entry of the rate and bonding in use, with the measured phase, which the spec leaves open. -/
def latencyTrained (s : State) (p : Nat) : State :=
  let r := s.calRow p (s.trunk p).rate (s.trunk p).width
  let (a, s1) := s.free 32
  let (b, s2) := s1.free 32
  (s2.wr PT_TXINT_TXINT (s.fuse r + a) p).wr PT_RXINT_RXINT (s.fuse (r + 1) + b) p

end State

end Sys2Proof.Machine
end

