-- ==== Sys2Proof/Machine/Trunk.lean ====
section
/-! DEFINITION. The trunk state machine, capability exchange, credits, sealing sessions and legacy mode (spec/06_trunk_link.md, R57). -/

namespace Sys2Proof.Machine

/-- States of a trunk (register table of TRK_STAT). -/
def trkDisabled : Nat := 0
def trkBond : Nat := 1
def trkTrain : Nat := 2
def trkSeal : Nat := 3
def trkUp : Nat := 4
def trkHold : Nat := 5

/-- Reasons of TRK_STAT.REASON. -/
inductive TrkReason where
  | badVer | region | noSeal | self | timeout | sealTo | bondFail | heartbeat | bondDown | config
  deriving DecidableEq, Repr

/-- The numbers of the reasons. -/
def TrkReason.code : TrkReason → Nat
  | .badVer => 1 | .region => 2 | .noSeal => 3 | .self => 4 | .timeout => 5 | .sealTo => 6
  | .bondFail => 7 | .heartbeat => 8 | .bondDown => 9 | .config => 10

/-- The lower of two protocol version words, nibble by nibble (R161). -/
def minVersions (a b : Nat) : Nat :=
  (List.range 8).foldl (fun v k => v + min (bitsOf a (4 * k + 3) (4 * k)) (bitsOf b (4 * k + 3) (4 * k)) * 2 ^ (4 * k)) 0

/-- Seven bytes with their CRC-8 (R152, R159). -/
def withCrc8 (b : List Byte) : List Byte := b ++ beBytes 1 (crc8 b)

/-- A control block of eight bytes of the given type with a good CRC-8. -/
def blockOk (ty : Nat) (b : List Byte) : Bool :=
  b.length = 8 && ofBe (b.take 1) = ty && crc8 (b.take 7) = ofBe (b.drop 7)

/-- A CREDIT entry (R152). -/
def creditEntry (cls cum : Nat) : List Byte := beBytes 3 (2 ^ 23 + cls * 2 ^ 20 + cum % 2 ^ 20)

/-- CREDIT blocks for a list of classes and their cumulative counts, two to a block (R152). -/
def creditBlocks : List (Nat × Nat) → List (List Byte)
  | [] => []
  | [a] => [withCrc8 ([0x33] ++ creditEntry a.1 a.2 ++ [0, 0, 0])]
  | a :: b :: l => withCrc8 ([0x33] ++ creditEntry a.1 a.2 ++ creditEntry b.1 b.2) :: creditBlocks l

/-- The XOFF column with a mask (R168). -/
def xoffColumn (m : Nat) : List CodeGroup :=
  [k28_4, (false, BitVec.ofNat 8 m), (false, BitVec.ofNat 8 (255 - m)), (false, 0)]

namespace State

/-- A trunk may be in service: the hub has a prefix and a region tag (R57). -/
def inService (s : State) : Bool := s.rd FAB_REGION_TAG != 0 && s.on FAB_SELF_VALID

/-! Leaving and entering states (R157, R158). -/

/-- The packet that a trunk was sending is lost, its cells released (R208). -/
def loseSending (s : State) (t : Nat) : State := s.completeSend t

/-- A trunk enters SEAL: SEALTO starts (R157), and firmware begins a new session set-up (R166, R424). -/
def enterSeal (s : State) (t : Nat) : State :=
  let p := (Tab.get s.keys.sess t {}).pair
  { (((s.wr TRK_STAT_STATE trkSeal t).disarm (.offer t)).arm (.seal t) (s.rd TRK_TIMERS_SEALTO t * 1000000000)) with
    keys := { s.keys with sess := Tab.put s.keys.sess t { pair := p } {} } }

/-- A trunk leaves UP (R154, R157): reported to the ring logic, its packet lost, its guard 0; one that leaves SEAL loses the packet that it was sending. -/
def leaveUp (s : State) (t : Nat) : State :=
  if s.rd TRK_STAT_STATE t = trkSeal then s.loseSending t
  else if s.rd TRK_STAT_STATE t ≠ trkUp then s
  else
    let s1 := (s.loseSending t).wr TRK_STAT_DOWNEV 1 t
    (((s1.wr TRK_STAT_STATE 0 t).wr TRK_STAT_SEALED 0 t).wr TRK_STAT_SEAMLESS 0 t)

/-- The blocks that watch a trunk's UP state see it change (R186, R233). -/
def trunkWatch (s : State) (t : Nat) : State := (s.guardShow t).ringTrunkChanged t

/-- Entry to BOND with trial width `w` (R157, R158, R173): MAXW, RATE and RING are taken over, the lanes' RATE driven, the bond started afresh under BONDTO, the partner record cleared. -/
def enterBond (s : State) (t w : Nat) : State :=
  let legacy := t = 0 && s.kl2Active
  let x := s.trunk t
  let maxw := if legacy then 3 else if s.onUsbC t then 2 else s.rd TRK_CTRL_MAXW t
  let rate := if s.onUsbC t then 1 else s.rd TRK_CTRL_RATE t
  let s1 := s.leaveUp t
  let s2 := s1.setTrunk t
    { x with width := if legacy then 3 else if s.onUsbC t then 2 else min w maxw, maxw := maxw, rate := rate,
             ring := s.on TRK_CTRL_RING t, partner := [], ack := false, ackCount := 0, tail := 0, agreed := false }
  let s3 := s2.each (s.trunkLanes t) (fun s n => s.laneRate n (if legacy then 2 else rate))
  let s4 := (((s3.wr TRK_STAT_STATE trkBond t).wr TRK_STAT_WIDTH 0 t).wr TRK_STAT_SEALED 0 t).wr TRK_STAT_SEAMLESS 0 t
  let s5 := (((s4.wr TRK_PEER0_KLMAX 0 t).wr TRK_PEER0_FLAGS 0 t).wr TRK_PEER0_REGION 0 t).wr TRK_PEER1_PVER 0 t
  let s6 := (((s5.wr TRK_PEER2_ROLE 0 t).wr TRK_PEER2_PREFIX 0 t).wr TRK_AGREE_PVER 0 t).causeOff (72 + t)
  ((s6.arm (.bond t) (s.rd TRK_TIMERS_BONDTO t * 1000000)).trunkWatch t).bondRestart t

/-- MAXW as TRK_CTRL holds it. -/
def maxWidth (s : State) (t : Nat) : Nat := s.rd TRK_CTRL_MAXW t

/-- An exit from UP that counts: LINKDOWN and the fault "trunk t link down" (R157). -/
def linkDown (s : State) (t : Nat) (r : TrkReason) : State :=
  if s.trunkUp t then (s.trkCount t 13).fault (60 + t) r.code else s

/-- Return to BOND at W = MAXW with a reason (R57, R157). -/
def backToBond (s : State) (t : Nat) (r : TrkReason) : State :=
  ((s.linkDown t r).wr TRK_STAT_REASON r.code t).enterBond t (s.maxWidth t)

/-- Entry to HOLD with a reason (R157). -/
def enterHold (s : State) (t : Nat) (r : TrkReason) : State :=
  (((s.leaveUp t).wr TRK_STAT_STATE trkHold t).wr TRK_STAT_REASON r.code t).trunkWatch t

/-- The session of a trunk ends: VALID clears (R166, R414). -/
def endSession (s : State) (t : Nat) : State := (s.wr TRK_SEAL_VALID 0 t).slotsShow

/-- A trunk whose session has ended while it was UP passes through SEAL (R166). -/
def throughSeal (s : State) (t : Nat) : State :=
  let s1 := s.endSession t
  if s1.trunkUp t then ((s1.leaveUp t).enterSeal t).trunkWatch t else s1

/-- The transmitter moves to the next epoch, or its session ends (R164, R166, R414). -/
def nextEpoch (s : State) (t : Nat) : State :=
  if s.rd TRK_SEALSTAT_TXEPOCH t ≥ 0xFFFF || !s.secretOk t then s.throughSeal t
  else s.startEpoch t (s.rd TRK_SEALSTAT_TXEPOCH t + 1)

/-- The counters of a trunk that enters UP start afresh (R153, R156, R223). -/
def freshCounters (s : State) (t : Nat) : State :=
  let granted : Tab Nat := (List.range 8).foldl (fun g c => Tab.put g c (s.rd TRK_GRANT_GRANT t c) 0) []
  (s.setTrunk t { s.trunk t with sent := [], limit := [], granted := granted, recv := [], stalled := [], upAt := s.tmu.elapsed, sentAt := [] }).setDeficits t []

/-- Entry to UP (R153, R157, R164). -/
def enterUp (s : State) (t : Nat) (isSealed : Bool) : State :=
  let s1 := ((s.freshCounters t).wr TRK_STAT_STATE trkUp t).wr TRK_STAT_SEALED (bit isSealed) t
  let s2 :=
    if !isSealed then s1
    else if (s1.trunk t).used then s1.nextEpoch t
    else s1.setTrunk t { s1.trunk t with used := true }
  s2.trunkWatch t

/-- TRAIN begins: its stream starts on logical lane 0, and TRAINTO runs (R141, R157). -/
def enterTrain (s : State) (t : Nat) : State :=
  ((s.wr TRK_STAT_STATE trkTrain t).setTrunk t { s.trunk t with pos := 0 }).arm (.train t) (s.rd TRK_TIMERS_TRAINTO t * 1000000)

/-- KL2 goes from BOND straight to UP; KL3 to TRAIN (R157, R167). -/
def bondAdvance (s : State) (t : Nat) : State :=
  if s.rd TRK_STAT_STATE t = trkBond && s.rd LNE_BOND_STATE t = 2 && s.inService then
    let s1 := s.wr TRK_STAT_WIDTH (s.trunk t).width t
    if t = 0 && s.kl2Active then s1.enterUp t false else s1.enterTrain t
  else s

/-- The bond of a trunk goes down (R157). -/
def bondLost (s : State) (t : Nat) : State :=
  let st := s.rd TRK_STAT_STATE t
  if st = trkUp then s.backToBond t .bondDown
  else if st = trkTrain || st = trkSeal then s.enterBond t (s.maxWidth t)
  else s

/-- The trunks past BOND return to BOND when the hub loses its prefix or its region tag (R57). -/
def serviceLost (s : State) : State :=
  s.each (List.range 4) (fun s t =>
    let st := s.rd TRK_STAT_STATE t
    if st = trkTrain || st = trkSeal || st = trkUp then s.backToBond t .config else s)

/-- The trunks follow the two conditions of R57. -/
def serviceCheck (s : State) : State :=
  if s.inService then s.each (List.range 4) bondAdvance else s.serviceLost

/-- EN of trunk `t` goes to 1 (R157). -/
def trunkEnable (s : State) (t : Nat) : State :=
  if s.rd TRK_STAT_STATE t = trkDisabled then s.enterBond t (s.maxWidth t) |>.bondAdvance t else s

/-- EN of trunk `t` goes to 0 (R157, R166). -/
def trunkDisable (s : State) (t : Nat) : State :=
  let s1 := ((s.leaveUp t).wr TRK_STAT_STATE trkDisabled t).wr TRK_STAT_WIDTH 0 t
  (((s1.endSession t).causeOff (72 + t)).trunkWatch t).bondRestart t

/-- A write of TRK_CTRL (R91, R157, R173). -/
def trkCtrlWrite (s : State) (t w : Nat) : State :=
  let s0 := s.writeReg (0xD0000 + 0x1000 * t) w
  let moved := s.rd TRK_CTRL_RATE t != s0.rd TRK_CTRL_RATE t || s.rd TRK_CTRL_MAXW t != s0.rd TRK_CTRL_MAXW t
  let s1 := s0.when moved (·.latencyConfig t)
  if s.on TRK_CTRL_EN t = s1.on TRK_CTRL_EN t then s1
  else if s1.on TRK_CTRL_EN t then s1.trunkEnable t else s1.trunkDisable t

/-- Lane 4t of a trunk is LOCKED (R125, R158). -/
def lane0Locked (s : State) (t : Nat) : Bool := s.rd LNE_STAT_STATE ((s.rxLanes t).getD 0 0) = 4

/-- A trunk in BOND whose bond failed, or was not UP in time, steps its width down once lane 4t is LOCKED, or at ×1 goes to HOLD (R157, R158). -/
def bondTrialFails (s : State) (t : Nat) : State :=
  let w := (s.trunk t).width
  if s.rd TRK_STAT_STATE t ≠ trkBond || s.rd LNE_BOND_STATE t = bondUp || (t = 0 && s.kl2Active) || s.onUsbC t then s
  else if w ≤ 1 then s.enterHold t .bondFail
  else if !s.lane0Locked t then s
  else ((s.setTrunk t { s.trunk t with width := w - 1 }).arm (.bond t) (s.rd TRK_TIMERS_BONDTO t * 1000000)).bondRestart t

/-! Capability exchange (R159 to R161). -/

/-- SEALREQ as the record sends it: the register or the mandatory-sealing fuse (R173). -/
def sealRequired (s : State) (t : Nat) : Bool := s.on TRK_CTRL_SEALREQ t || s.on KEY_STAT_SEALMAND

/-- The ring role of a trunk (R159). -/
def ringRole (s : State) (t : Nat) : Nat :=
  if !(s.trunk t).ring then 0 else if t = 0 then 1 else if t = 1 then 2 else 3

/-- The three control blocks of the own capability record with a RECSEQ (R159). -/
def ownRecord (s : State) (t rsq : Nat) : List (List Byte) :=
  let x := s.trunk t
  let flags := s.rd TRK_STAT_WIDTH t * 64 + x.maxw * 16 + 8 + bit (s.sealRequired t) * 4 + 2 + bit x.ack
  [ withCrc8 ([0x55, 3] ++ beBytes 1 flags ++ beBytes 2 (s.rd FAB_REGION_TAG) ++ beBytes 1 rsq ++
      beBytes 1 (s.ringRole t * 64)),
    withCrc8 ([0x66] ++ beBytes 4 ownVersions ++ [0, 0]),
    withCrc8 ([0x99] ++ beBytes 3 s.selfPrefix ++ [0, 0, 0]) ]

/-- The capability record is sent: in TRAIN and SEAL, and four more times after agreement (R160). -/
def capabilitySend (s : State) (t : Nat) : State :=
  let st := s.rd TRK_STAT_STATE t
  let x := s.trunk t
  if st = trkTrain || st = trkSeal || (st = trkUp && x.tail > 0) then
    let r0 := s.ownRecord t 0
    let seq := if x.lastRec = [] || x.lastRec = r0 then x.recSeq else wrapAdd 8 x.recSeq 1
    (s.setTrunk t { x with out := s.ownRecord t seq, lastRec := r0, recSeq := seq, tail := x.tail - 1 }).linkSend t
      ((s.ownRecord t seq).map (fun b => (2, b)))
  else s

/-- The partner's roles pair with the own (R161). -/
def rolesPair (a b : Nat) : Bool := (a = 1 && b = 2) || (a = 2 && b = 1) || (a = 3 && b = 3)

/-- The refusal of R161, if the partner's record meets one. -/
def refusal (s : State) (t : Nat) : Option TrkReason :=
  let flags := s.rd TRK_PEER0_FLAGS t
  if s.rd TRK_PEER0_KLMAX t < 3 then some .badVer
  else if s.rd TRK_PEER0_REGION t ≠ s.rd FAB_REGION_TAG then some .region
  else if s.rd TRK_PEER2_PREFIX t = s.selfPrefix then some .self
  else if (s.sealRequired t || flags.testBit 2) && !flags.testBit 3 then some .noSeal
  else none

/-- Both sides have agreed (R161): parameters derived, and the trunk goes UP, to SEAL, BOND or HOLD. -/
def agree (s : State) (t : Nat) : State :=
  match s.refusal t with
  | some r => s.enterHold t r
  | none =>
    let flags := s.rd TRK_PEER0_FLAGS t
    let w := min (s.rd TRK_STAT_WIDTH t) (bitsOf flags 7 6)
    if w < (s.trunk t).width then (s.trkCount t 14).enterBond t w
    else
      let own := s.ringRole t
      let peer := s.rd TRK_PEER2_ROLE t
      let isSealed := s.sealRequired t || flags.testBit 2
      let s1 := s.setTrunk t { s.trunk t with agreed := true, tail := 4 }
      let s2 := s1.wr TRK_AGREE_PVER (minVersions ownVersions (s.rd TRK_PEER1_PVER t)) t
      let s3 := s2.wr TRK_STAT_SEAMLESS (bit (flags.testBit 1 && rolesPair own peer)) t
      let s4 := if !rolesPair own peer && own ≠ 0 && peer ≠ 0 then
          (s3.wr TRK_STAT_ROLEMIS 1 t).causeOn (72 + t) peer
        else s3.causeOff (72 + t)
      let s5 := if s4.on TRK_SEAL_VALID t && s4.rd TRK_SEAL_PARTNER t ≠ s4.rd TRK_PEER2_PREFIX t then s4.endSession t else s4
      if isSealed && !s5.on TRK_SEAL_VALID t then s5.enterSeal t
      else s5.enterUp t isSealed

/-- The partner's record shows in TRK_PEER0 to TRK_PEER2 (R160, R173). -/
def showPeer (s : State) (t : Nat) (b : List Byte) : State :=
  let f (o n : Nat) : Nat := ofBe ((b.drop o).take n)
  let s1 := ((s.wr TRK_PEER0_KLMAX (f 1 1) t).wr TRK_PEER0_FLAGS (f 2 1) t).wr TRK_PEER0_REGION (f 3 2) t
  ((s1.wr TRK_PEER1_PVER (f 9 4) t).wr TRK_PEER2_ROLE (f 6 1 / 64) t).wr TRK_PEER2_PREFIX (f 17 3) t

/-- A partner record of three consecutive control blocks (R160). -/
def capabilityReceive (s : State) (t : Nat) (b : List Byte) : State :=
  let st := s.rd TRK_STAT_STATE t
  let x := s.trunk t
  let valid := b.length = 24 && blockOk 0x55 (b.take 8) && blockOk 0x66 ((b.drop 8).take 8) && blockOk 0x99 (b.drop 16)
  if !(st = trkTrain || st = trkSeal) || !valid then s
  else
    let same := x.partner = b
    let acked := (ofBe ((b.drop 2).take 1)).testBit 0
    let n := if !acked then 0 else if same then x.ackCount + 1 else 1
    let x1 := { x with partner := b, ack := x.ack || same, ackCount := n }
    let s1 := (s.setTrunk t x1)
    let s2 := if same then s1.showPeer t b else s1
    if st = trkTrain && x1.ack && n ≥ 2 && !x1.agreed then s2.agree t else s2

/-! Sessions (R163 to R166). -/

/-- A write of TRK_SEAL (R166): the session is loaded; a trunk in SEAL goes UP. -/
def sealWrite (s : State) (t w : Nat) : State :=
  let old := s.on TRK_SEAL_VALID t
  let s1 := if old then s else (s.wr TRK_SEAL_SLOT (bitsOf w 29 24) t).wr TRK_SEAL_PARTNER (bitsOf w 17 0) t
  if !w.testBit 31 then s1.endSession t
  else if old then s1
  else if !s1.secretOk t then s1.endSession t
  else
    let s2 := ((s1.wr TRK_SEAL_VALID 1 t).wr TRK_SEALSTAT_RXEPOCH 0 t).slotsShow
    let d := 1 - s2.ownDirection t
    let s3 := s2.setTrunk t { s2.trunk t with
      rxKey := s2.sealKey t d 0, rxKeyNext := s2.sealKey t d 1, rxPn := none, rxPnNext := none,
      derivingKeys := false, used := false }
    let s4 := s3.startEpoch t 0
    if s4.rd TRK_STAT_STATE t = trkSeal then s4.enterUp t true else s4

/-- EPOCH_ADVANCE (R164). -/
def epochAdvance (s : State) (t : Nat) : State :=
  if s.trunkUp t && s.on TRK_STAT_SEALED t && s.epochOver t then s.nextEpoch t else s

/-- The derivation of the receive keys for the next epoch but one completes (R164, R414). -/
def rxDerive (s : State) (t : Nat) : State :=
  let x := s.trunk t
  if !x.derivingKeys then s
  else if !s.secretOk t then (s.setTrunk t { x with derivingKeys := false }).throughSeal t
  else
    let k := s.sealKey t (1 - s.ownDirection t) (s.rd TRK_SEALSTAT_RXEPOCH t + 1)
    s.setTrunk t { x with derivingKeys := false, rxKeyNext := k }

/-! Credits (R151 to R156). -/

/-- HELD of a class: the cells in its ingress account (R155). -/
def held (s : State) (t c : Nat) : Nat := s.rd XSW_IOCC_CELLS (8 * t + c)

/-- Credit granted to the partner and not yet used (R153, log entry 18). -/
def outstanding (s : State) (t c : Nat) : Nat :=
  (Tab.get (s.trunk t).granted c 0 + 2 ^ 20 - Tab.get (s.trunk t).recv c 0) % 2 ^ 20

/-- Credits of a class that can be returned (R154, R156). -/
def returnable (s : State) (t c : Nat) : Nat := s.rd TRK_GRANT_GRANT t c - s.held t c - s.outstanding t c

/-- The trunk sends CREDIT blocks: KL3, UP, the records after agreement sent (R154, R160). -/
def creditLive (s : State) (t : Nat) : Bool := s.trunkUp t && !(t = 0 && s.kl2Active) && (s.trunk t).tail = 0

/-- The credits of a class returned. -/
def giveBack (s : State) (t c : Nat) : State :=
  let x := s.trunk t
  s.setTrunk t { x with granted := Tab.put x.granted c (wrapAdd 20 (Tab.get x.granted c 0) (s.returnable t c)) 0 }

/-- CREDIT blocks sent for a list of classes. -/
def sendCredits (s : State) (t : Nat) (cs : List Nat) : State :=
  let l := creditBlocks (cs.map (fun c => (c, Tab.get (s.trunk t).granted c 0)))
  (s.setTrunk t { s.trunk t with out := l }).linkSend t (l.map (fun b => (2, b)))

/-- The classes with credits to return get their entries (R154). -/
def creditReturn (s : State) (t : Nat) : State :=
  let cs := (List.range 8).filter (fun c => s.returnable t c != 0)
  if s.creditLive t && !cs.isEmpty then (s.each cs (fun s c => s.giveBack t c)).sendCredits t cs else s

/-- CREDIT blocks for all eight classes (R154). -/
def creditRefresh (s : State) (t : Nat) : State :=
  if s.creditLive t then s.sendCredits t (List.range 8) else s

/-- A CUM accepted for a class, or discarded and counted in CRDERR (R155). -/
def creditCum (s : State) (t c cum : Nat) : State :=
  let x := s.trunk t
  let limit := Tab.get x.limit c 0
  let sent := Tab.get x.sent c 0
  if (cum + 2 ^ 20 - limit) % 2 ^ 20 ≥ 2 ^ 19 || (cum + 2 ^ 20 - sent) % 2 ^ 20 > 131072 then s.trkCount t 10
  else
    let s1 := s.setTrunk t { x with limit := Tab.put x.limit c cum 0 }
    match s1.head t c with
    | none => s1
    | some h =>
      if s1.creditAvail t c ≥ h.cost then
        s1.setTrunk t { s1.trunk t with stalled := Tab.put (s1.trunk t).stalled c false false }
      else s1

/-- One entry of a CREDIT block. -/
def creditIn (s : State) (t e : Nat) : State := if e.testBit 23 then s.creditCum t (bitsOf e 22 20) (bitsOf e 19 0) else s

/-- A CREDIT block arrives (R152, R155, R160). -/
def creditReceive (s : State) (t : Nat) (b : List Byte) : State :=
  if !s.trunkUp t || (t = 0 && s.kl2Active) || ofBe (b.take 1) ≠ 0x33 then s
  else if !blockOk 0x33 b then s.trkCount t 10
  else (s.creditIn t (ofBe ((b.drop 1).take 3))).creditIn t (ofBe ((b.drop 4).take 3))

/-- Class `c` has had `h` waiting without credit for STALL: since it was linked, the class last started a packet, and the trunk came UP (R155). -/
def stallTime (s : State) (t c : Nat) (h : Copy) : Bool :=
  max h.linkAt (max (s.trunk t).upAt (Tab.get (s.trunk t).sentAt c 0)) + s.rd TRK_TIMERS_STALL t * 1000000 * 2 ^ 32 ≤ s.tmu.elapsed

/-- A class with packets waiting has had no credit for STALL (R155). -/
def creditStall (s : State) (t c : Nat) : State :=
  match s.head t c with
  | none => s
  | some h =>
    if s.trunkUp t && !(t = 0 && s.kl2Active) && s.creditAvail t c < h.cost && s.stallTime t c h &&
        !Tab.get (s.trunk t).stalled c false then
      ((s.setTrunk t { s.trunk t with stalled := Tab.put (s.trunk t).stalled c true false }).trkCount t 15).fault (68 + t) c
    else s

/-- A write of TRK_GRANTc (R156). -/
def grantWrite (s : State) (t c w : Nat) : State :=
  let old := s.rd TRK_GRANT_GRANT t c
  let s1 := s.writeReg (0xD0020 + 0x1000 * t + 4 * c) w
  if s1.creditLive t && s1.rd TRK_GRANT_GRANT t c > old then (s1.giveBack t c).sendCredits t [c] else s1

/-! Legacy mode (R167, R168, R171). -/

/-- A write of TRK_KL2 (R91, R167): its EN is ignored with ENREJ while TRK0 is enabled or a fuse bars legacy mode. -/
def kl2Write (s : State) (w : Nat) : State :=
  if s.on TRK_CTRL_EN 0 || s.on TRK_KL2_STAT_FUSEBAR then
    (s.writeReg 0xD8004 (setBits w 31 31 (s.rd TRK_KL2_EN))).wr TRK_KL2_STAT_ENREJ 1
  else
    let s1 := (s.writeReg 0xD8004 w).kl2Show
    s1.when (s1.kl2Active != s.kl2Active) (·.latencyConfig 0)

/-- A write of translation entry `h` (R171, R173): a PREFIX with STATION 0 or HUB 0 is ignored alone with XLATREJ (R15), a write that makes two valid entries share a prefix whole. -/
def xlatWrite (s : State) (h w : Nat) : State :=
  let bad := !addrValid (bitsOf w 24 7 * 128)
  let p := if bad then s.rd TRK_XLAT_PREFIX h else bitsOf w 24 7
  let dup := w.testBit 31 && ((List.range 32).drop 1).any (fun k => k != h && s.on TRK_XLAT_VALID k && s.rd TRK_XLAT_PREFIX k == p)
  if h = 0 then s
  else if dup then s.wr TRK_KL2_STAT_XLATREJ 1
  else if bad then (s.writeReg (0xD8100 + 4 * h) (setBits w 24 7 p)).wr TRK_KL2_STAT_XLATREJ 1
  else s.writeReg (0xD8100 + 4 * h) w

/-- The mask of classes that the hub pauses in KL2 (R168). -/
def pauseMask (s : State) : Nat :=
  (List.range 8).foldl (fun m c =>
    let g := s.rd TRK_GRANT_GRANT 0 c
    let thr := s.rd TRK_KL2_XOFFTHR
    let h := s.held 0 c
    let p := if h + thr ≥ g then true else if h ≤ g - 2 * thr then false else s.kl2.mask.testBit c
    m + bit p * 2 ^ c) 0

/-- The XOFF column is sent with the present mask (R168). -/
def xoffSend (s : State) : State :=
  if s.kl2Active && s.trunkUp 0 then
    let m := s.pauseMask
    { s with kl2 := { s.kl2 with mask := m, out := [xoffColumn m] } }
  else s

/-- An XOFF column arrives (R168). -/
def xoffReceive (s : State) (mask comp : Nat) : State :=
  if s.kl2Active && s.trunkUp 0 && mask + comp = 255 then { s with kl2 := { s.kl2 with paused := mask } } else s

/-! The hub's prefix and region (R57, R72). -/

/-- A write of FAB_SELF (R72): refused while any slot is not FREE. -/
def selfWrite (s : State) (w : Nat) : State :=
  if slots.any (fun n => s.rd CTX3_STATE n != ctxFree) then s.wr FAB_CTXSTAT_SELFREJ 1
  else (s.writeReg 0x180000 w).serviceCheck

/-- A write of FAB_REGION (R57). -/
def regionWrite (s : State) (w : Nat) : State := (s.writeReg 0x180004 w).serviceCheck

/-- Writes of TRK registers that do more than store their fields. -/
def trkWrite (s : State) (off w : Nat) : Option State :=
  let o := off - 0xD0000
  let t := o / 0x1000
  let r := o % 0x1000
  if off < 0xD0000 || off ≥ 0xE0000 then none
  else if o = 0x8004 then some (s.kl2Write w)
  else if 0x8100 ≤ o && o < 0x8180 && o % 4 = 0 then some (s.xlatWrite ((o - 0x8100) / 4) w)
  else if t ≥ 4 then none
  else if r = 0 then some (s.trkCtrlWrite t w)
  else if 0x20 ≤ r && r < 0x40 && r % 4 = 0 then some (s.grantWrite t ((r - 0x20) / 4) w)
  else if r = 0x60 then some (s.sealWrite t w)
  else none

end State

/-- TRK_ENABLE (R157): EN of trunk `t` goes to 1. -/
def execTrkEnable (t : Fin 4) (s : State) : Host.Outcome State Fault Refusal := .next ((s.wr TRK_CTRL_EN 1 t).trunkEnable t)

/-- TRK_DISABLE (R157): EN of trunk `t` goes to 0. -/
def execTrkDisable (t : Fin 4) (s : State) : Host.Outcome State Fault Refusal := .next ((s.wr TRK_CTRL_EN 0 t).trunkDisable t)

/-- BOND_TRIAL_TIMEOUT (R158), once BONDTO has run out. -/
def execBondTrialTimeout (t : Fin 4) (s : State) : Host.Outcome State Fault Refusal :=
  if s.due (.bond t) then .next (s.bondTrialFails t) else .next s

/-- CAPABILITY_SEND (R160). -/
def execCapabilitySend (t : Fin 4) (s : State) : Host.Outcome State Fault Refusal := .next (s.capabilitySend t)

/-- CAPABILITY_RECEIVE (R160, R161): the 24 bytes of CAP0, CAP1 and CAP2. -/
def execCapabilityReceive (t : Fin 4) (bytes : List Byte) (s : State) : Host.Outcome State Fault Refusal :=
  .next (s.capabilityReceive t bytes)

/-- TRAIN_TIMEOUT (R157), once TRAINTO has run out. -/
def execTrainTimeout (t : Fin 4) (s : State) : Host.Outcome State Fault Refusal :=
  if s.rd TRK_STAT_STATE t = trkTrain && s.due (.train t) then .next (s.enterHold t .timeout) else .next s

/-- SEAL_TIMEOUT (R157), once SEALTO has run out. -/
def execSealTimeout (t : Fin 4) (s : State) : Host.Outcome State Fault Refusal :=
  if s.rd TRK_STAT_STATE t = trkSeal && s.due (.seal t) then .next (s.enterHold t .sealTo) else .next s

/-- HOLD_EXPIRY (R157). -/
def execHoldExpiry (t : Fin 4) (s : State) : Host.Outcome State Fault Refusal :=
  if s.rd TRK_STAT_STATE t = trkHold then .next ((s.enterBond t (s.maxWidth t)).bondAdvance t) else .next s

/-- SEAL_LOAD (R166): `w` written to TRK_SEAL of trunk `t`. -/
def execSealLoad (t : Fin 4) (w : Word) (s : State) : Host.Outcome State Fault Refusal := .next (s.sealWrite t w.toNat)

/-- CREDIT_BLOCK_RECEIVE (R152, R155): the 8 bytes of a CREDIT block. -/
def execCreditBlockReceive (t : Fin 4) (bytes : List Byte) (s : State) : Host.Outcome State Fault Refusal :=
  .next (s.creditReceive t bytes)

/-- CREDIT_RETURN (R154). -/
def execCreditReturn (t : Fin 4) (s : State) : Host.Outcome State Fault Refusal := .next (s.creditReturn t)

/-- CREDIT_REFRESH (R154). -/
def execCreditRefresh (t : Fin 4) (s : State) : Host.Outcome State Fault Refusal := .next (s.creditRefresh t)

/-- HEARTBEAT_LOSS (R154, R157). -/
def execHeartbeatLoss (t : Fin 4) (s : State) : Host.Outcome State Fault Refusal :=
  if s.trunkUp t && !(t = 0 && s.kl2Active) then .next (s.backToBond t .heartbeat) else .next s

/-- CREDIT_STALL (R155) of class `c`. -/
def execCreditStall (t : Fin 4) (c : Fin 8) (s : State) : Host.Outcome State Fault Refusal := .next (s.creditStall t c)

/-- GRANT_WRITE (R156): `w` written to TRK_GRANTc of trunk `t`. -/
def execGrantWrite (t : Fin 4) (c : Fin 8) (w : Word) (s : State) : Host.Outcome State Fault Refusal :=
  .next (s.grantWrite t c w.toNat)

/-- EPOCH_ADVANCE (R164). -/
def execEpochAdvance (t : Fin 4) (s : State) : Host.Outcome State Fault Refusal := .next (s.epochAdvance t)

/-- RX_EPOCH_DERIVE (R164): the derivation that the first authenticated packet of the next epoch started completes. -/
def execRxEpochDerive (t : Fin 4) (s : State) : Host.Outcome State Fault Refusal := .next (s.rxDerive t)

/-- KL2_ENABLE_WRITE (R167): `w` written to TRK_KL2. -/
def execKl2EnableWrite (w : Word) (s : State) : Host.Outcome State Fault Refusal := .next (s.kl2Write w.toNat)

/-- XOFF_RECEIVE (R168): MASK and its complement as received. -/
def execXoffReceive (mask comp : Byte) (s : State) : Host.Outcome State Fault Refusal :=
  .next (s.xoffReceive mask.toNat comp.toNat)

/-- XOFF_SEND (R168). -/
def execXoffSend (s : State) : Host.Outcome State Fault Refusal := .next s.xoffSend

/-- XLAT_WRITE (R171): `w` written to translation entry `h`. -/
def execXlatWrite (h : Fin 32) (w : Word) (s : State) : Host.Outcome State Fault Refusal := .next (s.xlatWrite h w.toNat)

/-- FAB_SELF_WRITE (R72). -/
def execFabSelfWrite (w : Word) (s : State) : Host.Outcome State Fault Refusal := .next (s.selfWrite w.toNat)

/-- FAB_REGION_WRITE (R57). -/
def execFabRegionWrite (w : Word) (s : State) : Host.Outcome State Fault Refusal := .next (s.regionWrite w.toNat)

end Sys2Proof.Machine
end

