-- ==== Sys2Proof/Machine/Ingress.lean ====
section
/-! DEFINITION. What enters the switch core: the receive checks of a trunk (R148 to R150), cut-through (R206), KL2 receive (R169), and packets of the hub's own origin contexts through policing and admission (R32, R199, R200, R226, R227). -/

namespace Sys2Proof.Machine

/-- The outcome of the checks of R148 at the tail of a packet. -/
inductive Tail where
  | good | frame | len | auth | pcrc | stompRx
  deriving DecidableEq, Repr

/-- The TRK_CNT index of a failing tail check. -/
def Tail.counter : Tail → Nat
  | .good => 16 | .frame => 6 | .len => 3 | .auth => 7 | .pcrc => 1 | .stompRx => 2

/-- The payload rate of a trunk in Gb/s, by rate and width codes (R206). -/
def payloadRate (rate width : Nat) : Nat :=
  match rate, width with
  | 0, 1 => 25 | 0, 2 => 50 | 0, _ => 100
  | _, 1 => 10 | _, 2 => 20 | _, _ => 40

/-- A packet of one cycle that waits for stage 4 (R199, R201): of a trunk, with whether its tail is good; whole, of an edge port; of an origin slot. -/
inductive Arrival where
  | trunk (t : Nat) (copies : List Copy) (good : Bool)
  | whole (copies : List Copy)
  | origin (h : Held) (p : Nat)
  deriving DecidableEq, Repr

/-- The copies of an arrival. -/
def Arrival.copies : Arrival → List Copy
  | .trunk _ l _ => l
  | .whole l => l
  | .origin h _ => h.copies

/-- The class of an arrival. -/
def Arrival.cls (a : Arrival) : Nat := ((a.copies.head?).map (·.hdr.cls)).getD 0

/-- The ingress port of an arrival. -/
def Arrival.iport (a : Arrival) : Nat := ((a.copies.head?).map (·.iport)).getD 0

/-- The arrival passes from trunk to trunk (R201). -/
def Arrival.through (a : Arrival) : Bool := a.iport < 4 && a.copies.all (fun c => c.eport < 4)

namespace State

/-! Cut-through (R206). -/

/-- Conditions 1 to 3 of R206 for a copy from trunk `t`. -/
def ctOffered (s : State) (t : Nat) (c : Copy) : Bool :=
  c.eport < 4 && !(s.kl2Active && (t = 0 || c.eport = 0)) && s.on XSW_CTCFG_EN && s.bitAt XSW_CTCFG_CLASSMASK c.hdr.cls &&
  payloadRate (s.trunk t).rate (s.rd TRK_STAT_WIDTH t) ≤ payloadRate (s.trunk c.eport).rate (s.rd TRK_STAT_WIDTH c.eport)

/-- Conditions 4 and 5 of R206: credit, an idle port, an empty queue, gate and shaper, and no class served before it. -/
def ctNow (s : State) (c : Copy) : Bool :=
  let p := c.eport
  let above := if c.hdr.cls ≤ 4 then [7, 6, 5] else [7, 6, 5].filter (fun x => x > c.hdr.cls)
  s.portReady p && (s.sending p).isNone && (s.queue (queueOf p c.hdr.cls)).isEmpty && s.eligible p c &&
  !(above.any (fun k => s.headEligible p k))

/-- A copy that starts by cut-through with what the ECC of its cells and link words says (R150, R197): 0 good, 1 corrected, 2 uncorrectable in a cell, 3 uncorrectable in a link word. -/
def ctStart (s : State) (ecc : Nat) (c : Copy) : State :=
  let q := queueOf c.eport c.hdr.cls
  match ecc with
  | 0 => s.startCopy c.eport c
  | 1 => ((s.sat XSW_CNT_COUNT 5).fault 79 q).startCopy c.eport c
  | 2 => ((s.sat XSW_CNT_COUNT 6).fault 80 q).startCopy c.eport { c with stomp := true }
  | _ => ((s.leakCopy c).sat XSW_CNT_COUNT 6).fault 80 q

/-- One admitted copy of a packet from trunk `t`: cut-through, or the copies that wait for the tail. -/
def ctStep (s : State) (t ecc : Nat) (bad : Bool) (c : Copy) : State × List Copy :=
  if !s.ctOffered t c then (s, [c])
  else if s.ctNow c then
    ((s.sat XSW_CNT_COUNT 10).ctStart ecc { c with ct := true, stomp := bad, linkAt := s.tmu.elapsed }, [])
  else (s.sat XSW_CNT_COUNT 11, [c])

/-- Every admitted copy in turn; the copies that did not cut through. -/
def ctAll (s : State) (t ecc : Nat) (bad : Bool) : List Copy → State × List Copy
  | [] => (s, [])
  | c :: cs =>
    let a := s.ctStep t ecc bad c
    let b := a.1.ctAll t ecc bad cs
    (b.1, a.2 ++ b.2)

/-- A copy is judged by R209 when its last cell is written: linked, or released and counted in HALT. -/
def linkOrHalt (s : State) (c : Copy) : State :=
  if s.restricted && !haltAllows c then (s.releaseCopy c).sat XSW_CNT_COUNT 4 else s.linkCopy c

/-- The copies among `l` that are not among those that wait. -/
def cutOf (l rest : List Copy) : List Copy := l.filter (fun c => !(rest.any (fun x => x.eport == c.eport)))

/-- A good packet from trunk `t` at stage 4: copies cut through, and the others are linked (R196, R206). -/
def storeTrunk (s : State) (t ecc : Nat) (copies : List Copy) : State :=
  match s.admitPacket copies with
  | (s1, .hold) => s1
  | (s1, .judged l) =>
    let (s2, rest) := s1.ctAll t ecc false (admitted l)
    let cut := cutOf (admitted l) rest
    let s3 := s2.mirrorAll (l.map (fun x => ({ x.1 with ct := cut.any (fun c => c.eport == x.1.eport) }, x.2)))
    (s3.each rest linkOrHalt).terminusCount (admitted l)

/-- A packet from trunk `t` whose tail fails: copies that have cut through by then leave stomped and count in STOMPTX (R150); nothing else of the packet has been stored or counted (R148, R196). -/
def storeBad (s : State) (t ecc : Nat) (copies : List Copy) : State :=
  match s.admitPacket copies with
  | (_, .hold) => s
  | (s1, .judged l) =>
    let cut := cutOf (admitted l) (s1.ctAll t ecc true (admitted l)).2
    match s.admitPacket (copies.filter (fun c => cut.any (fun x => x.eport == c.eport))) with
    | (_, .hold) => s
    | (s2, .judged m) =>
      if (admitted m).isEmpty then s
      else ((s2.ctAll t ecc true (admitted m)).1.mirrorAll (m.map (fun x => ({ x.1 with ct := true }, x.2)))).trkCount t 12

/-! The receive checks (R148, R155, R165, R166). -/

/-- A packet is a ring status message for this hub (R185). -/
def isRsm (s : State) (p : Packet) : Bool :=
  p.tunid = 0 && prefixOf p.dest = s.selfPrefix && p.payload.head? = some 0xA5

/-- The header checks of R148 up to SEALED: the counter of the first that fails. -/
def headerFail (s : State) (t : Nat) (h : HeaderIn) : Option Nat :=
  if !h.hcrcOk then some 0
  else if h.ver ≠ 3 then some 4
  else if h.len > 9216 then some 3
  else if h.pkt.dup && h.pkt.cls < 6 then some 5
  else if h.isSealed ≠ (s.trunkUp t && s.on TRK_STAT_SEALED t) then some 9
  else none

/-- Epoch and packet number of a sealed packet (R165): the failing counter, or whether its epoch is the next one. -/
def epochCheck (s : State) (t epoch pn : Nat) : Except Nat Bool :=
  let e := s.rd TRK_SEALSTAT_RXEPOCH t
  let x := s.trunk t
  let fresh (o : Option Nat) : Bool := match o with
    | none => true
    | some h => h < pn
  if epoch = e then (if fresh x.rxPn then .ok false else .error 8)
  else if epoch = e + 1 && x.rxKeyNext ≠ [] then (if fresh x.rxPnNext then .ok true else .error 8)
  else .error 7

/-- An authenticated packet's number is recorded; the first of the next epoch drops the old keys and starts a derivation (R164, R165). -/
def epochTake (s : State) (t pn : Nat) (next : Bool) : State :=
  let x := s.trunk t
  if next then
    (s.wr TRK_SEALSTAT_RXEPOCH (s.rd TRK_SEALSTAT_RXEPOCH t + 1) t).setTrunk t
      { x with rxKey := x.rxKeyNext, rxKeyNext := [], rxPn := some pn, rxPnNext := none, derivingKeys := true }
  else s.setTrunk t { x with rxPn := some pn }

/-- The CRC-32 check of the bytes after the header (R147, R148). -/
def crcTail (body crc : List Byte) : Tail :=
  if crc = tailCrc false body then .good else if crc = tailCrc true body then .stompRx else .pcrc

/-- The copy of a packet captured now at trunk `t` (R90, R93). -/
def captured (s : State) (t : Nat) (p : Packet) : Copy :=
  { hdr := p, iport := t, cost := costOf p.payload.length, rx := s.rxTime t, traced := s.on TMU_STAT_TVALID,
    eIn := s.rxElapsed t }

/-- A packet whose receive checks are done: classified, and offered to stage 4 or taken by the ring logic (R32, R185); one whose tail fails leaves no trace in classification (R148). -/
def arriveTrunk (s : State) (t : Nat) (p : Packet) (good : Bool) : State × List Arrival :=
  let r := s.classifyTrunk (s.captured t p)
  if s.isRsm p && r.2.any (fun c => c.eport == 21) then (if good then r.1.rsmReceive t p.payload else s, [])
  else (if good then r.1 else s, [.trunk t r.2 good])

/-- Whole packet counted: its tail's counter, or RXPKT (R148, R173). -/
def tailCount (s : State) (t : Nat) (x : Tail) : State :=
  if x = .good then s.wrap TRK_RXPKT_COUNT t else s.trkCount t x.counter

/-- The tail of a packet that did not end at a TERM of the expected place: framing, or its length (R143, R148). -/
def lengthTail (e : Ended) (n expected : Nat) : Option Tail :=
  match e with
  | .frame => some .frame
  | .long => some .len
  | .term => if n = expected then none else some .len

/-- What the checks after the header say of a packet: its payload, its tail, and the packet number to take with whether its epoch is the next. -/
structure Checked where
  payload : List Byte
  tail : Tail
  number : Option (Nat × Bool) := none
  deriving DecidableEq, Repr

/-- The rest of an unsealed packet; `body`: what follows the header. -/
def plainCheck (h : HeaderIn) (body : List Byte) (e : Ended) : Checked :=
  { payload := padTo h.len body,
    tail := match lengthTail e body.length (h.len + 4) with
      | some x => x
      | none => crcTail (padTo h.len body) (body.drop h.len) }

/-- The rest of a sealed packet (R148, R162, R165); a packet that ends before byte 27 has no number to check. -/
def sealedCheck (s : State) (t : Nat) (h : HeaderIn) (hdr body : List Byte) (e : Ended) : Except Nat Checked :=
  if body.length < 8 then .error (if e = .frame then 6 else 3)
  else
    let pn := ofBe ((body.drop 4).take 4)
    match s.epochCheck t (ofBe (body.take 2)) pn with
    | .error i => .error i
    | .ok next =>
      let x := s.trunk t
      let k := if next then x.rxKeyNext else x.rxKey
      let iv := (k.drop 32).take 8 ++ beBytes 4 pn
      let ct := (body.drop 8).take h.len
      let good := gcmTagOk (k.take 32) iv (hdr.take 18 ++ body.take 8) ct ((body.drop (8 + h.len)).take 16)
      let short := lengthTail e body.length (h.len + 28)
      .ok
        { payload := padTo h.len (gcmPlain (k.take 32) iv ct),
          tail := match short with
            | some y => y
            | none => if !good then .auth else crcTail (body.take (h.len + 24)) (body.drop (h.len + 24)),
          number := if short.isNone && good then some (pn, next) else none }

/-- The packet's cost is more than GRANTED − HELD for its class (R155). -/
def overrun (s : State) (t : Nat) (h : HeaderIn) : Bool :=
  costOf h.len > (Tab.get (s.trunk t).granted h.pkt.cls 0 + 2 ^ 20 - s.held t h.pkt.cls % 2 ^ 20) % 2 ^ 20

/-- The credit that a packet has used (R153). -/
def useCredit (s : State) (t : Nat) (h : HeaderIn) : State :=
  let x := s.trunk t
  s.setTrunk t { x with recv := Tab.put x.recv h.pkt.cls (wrapAdd 20 (Tab.get x.recv h.pkt.cls 0) (costOf h.len)) 0 }

/-- A packet with its checks done: its number taken, its tail counted, and its copies for stage 4 (R148). -/
def checkedArrive (s : State) (t : Nat) (h : HeaderIn) (c : Checked) : State × List Arrival :=
  let s1 := match c.number with
    | some n => s.epochTake t n.1 n.2
    | none => s
  (s1.tailCount t c.tail).arriveTrunk t { h.pkt with payload := c.payload } (c.tail = .good)

/-- A packet on a trunk in SEAL: only an unsealed link-local tunnel-0 packet of class 5 to the hub's own prefix (R166). -/
def sealArrive (s : State) (t : Nat) (h : HeaderIn) (body : List Byte) (e : Ended) : State × List Arrival :=
  if h.pkt.tunid = 0 && h.pkt.cls = 5 && h.pkt.dest = s.selfPrefix * 128 then s.checkedArrive t h (plainCheck h body e)
  else (s.trkCount t 9, [])

/-- A packet on a trunk in UP after its header checks: credit, except for a ring status message, which uses none (R153, R155, R185), then what follows the header. -/
def upArrive (s : State) (t : Nat) (h : HeaderIn) (hdr body : List Byte) (e : Ended) : State × List Arrival :=
  let r := if h.isSealed then s.sealedCheck t h hdr body e else .ok (plainCheck h body e)
  let rsm := match r with
    | .ok c => s.isRsm { h.pkt with payload := c.payload }
    | .error _ => false
  if !rsm && s.overrun t h then ((s.trkCount t 11).fault (64 + t) h.pkt.cls, [])
  else
    let s1 := if rsm then s else s.useCredit t h
    match r with
    | .error i => (s1.trkCount t i, [])
    | .ok c => s1.checkedArrive t h c

/-- The bytes of a packet between START and its end on trunk `t`, through stages 1 and 2 (R143, R148). -/
def packetArrive (s : State) (t : Nat) (bytes : List Byte) (e : Ended) : State × List Arrival :=
  let h := parseHeader bytes
  if bytes.length < 20 then (s.trkCount t (if e = .frame then 6 else 3), [])
  else
    match s.headerFail t h with
    | some i => (s.trkCount t i, [])
    | none =>
      if s.rd TRK_STAT_STATE t = trkSeal then s.sealArrive t h (bytes.drop 20) e
      else s.upArrive t h (bytes.take 20) (bytes.drop 20) e

/-- A packet taken whole from the stream of trunk `t`, from its START on (R142, R143), with the CREDIT blocks inside it. -/
def trunkArrive (s : State) (t : Nat) (l : List LineBlock) : State × List Arrival :=
  if !(s.rd TRK_STAT_STATE t = trkUp || s.rd TRK_STAT_STATE t = trkSeal) || (t = 0 && s.kl2Active) then (s, [])
  else
    match takePacket l with
    | none => (s, [])
    | some r =>
      let a := s.packetArrive t r.1 r.2.1
      (a.1.each r.2.2 (fun s b => s.creditReceive t b), a.2)

/-- Stage 4 for one packet. -/
def admitArrival (s : State) (ecc : Nat) (a : Arrival) : State :=
  match a with
  | .trunk t copies good => if good then s.storeTrunk t ecc copies else s.storeBad t ecc copies
  | .whole copies => (s.admitWhole copies).1
  | .origin h p => (s.admitOrigin h p).1

/-- The packets of one cycle in the order of R201: classes 7 and 6, then trunk-to-trunk pass-through, then the lower ingress port. -/
def admitOrder (l : List Arrival) : List Arrival :=
  [(true, true), (true, false), (false, true), (false, false)].flatMap (fun k =>
    (List.range 24).flatMap (fun p => l.filter (fun a => decide (a.cls ≥ 6) == k.1 && a.through == k.2 && a.iport == p)))

/-- Stage 4 for the packets of one cycle (R201). -/
def admitCycle (s : State) (ecc : Nat) (l : List Arrival) : State := s.each (admitOrder l) (fun s a => s.admitArrival ecc a)

/-! KL2 receive (R168, R169). -/

/-- The KL3 address of a KL2 hub and adapter; none without a valid entry, or for an adapter above 15 (R169). -/
def kl2Address (s : State) (hub adp : Nat) : Option Nat :=
  if s.on TRK_XLAT_VALID hub && hub != 0 && adp ≤ 15 then some (s.rd TRK_XLAT_PREFIX hub * 128 + adp * 8) else none

/-- A timestamped KL2 packet is stale (R169). -/
def kl2Stale (s : State) (tstamp : Nat) : Bool :=
  let d := diff32 (s.rxTime 0).ns32 tstamp
  d < -1000000 || d > s.rd TRK_KL2_AGE * 1000000

/-- A KL2 packet stored for an egress (R169, R196). -/
def kl2Store (s : State) (p : Packet) : State :=
  let (s1, copies) := s.classifyTrunk (s.captured 0 p)
  s1.storeTrunk 0 0 copies

/-- A packet of KL2 link management goes to P21 untranslated (R169, log entry 19). -/
def kl2Manage (s : State) (cls : Nat) (bytes : List Byte) : State :=
  match s.admitPacket [{ s.captured 0 { cls := cls, payload := bytes } with eport := 21 }] with
  | (s1, .hold) => s1
  | (s1, .judged l) => (s1.mirrorAll l).each (admitted l) linkOrHalt

/-- A KL2 packet of TRK0 with a good CRC-32 is translated to KL3 or discarded (R169). -/
def kl2Translate (s : State) (bytes : List Byte) : State :=
  let f (o n : Nat) : Nat := ofBe ((bytes.drop o).take n)
  let a := f 2 3
  let ts := (f 0 1).testBit 2
  match s.kl2Address (bitsOf a 23 19) (bitsOf a 18 14), s.kl2Address (bitsOf a 13 9) (bitsOf a 8 4) with
  | some d, some r =>
    if ts && s.kl2Stale (f 9 4) then s.kl2Count 3
    else
      s.kl2Store
        { cls := bitsOf (f 0 1) 5 3, ts := ts, tunid := f 1 1 / 8, dest := d, src := r, seq := f 7 2,
          corr := codeOf 48 (signedOf 32 (f 13 4) * 256), payload := (bytes.drop 20).take (f 5 2) }
  | _, _ => s.kl2Count 0

/-- A KL2 packet taken whole from TRK0: header, payload and CRC-32 (R168, R169); one whose code groups are not a packet is not one (log entry 66). -/
def kl2Receive (s : State) (bytes : List Byte) : State :=
  let f (o n : Nat) : Nat := ofBe ((bytes.drop o).take n)
  let len := f 5 2 % 4096
  let cls := bitsOf (f 0 1) 5 3
  let payload := (bytes.drop 20).take len
  if !(s.kl2Active && s.trunkUp 0) then s
  else if bytes.length < 20 then s.trkCount 0 3
  else if crc16 (bytes.take 18) ≠ f 18 2 then s.trkCount 0 0
  else if bitsOf (f 0 1) 7 6 ≠ 2 then s.trkCount 0 4
  else if len > 2048 || bytes.length ≠ 24 + len then s.trkCount 0 3
  else if cls ≥ 6 then s.kl2Count 7
  else if s.held 0 cls + costOf len > s.rd TRK_GRANT_GRANT 0 cls then s.trkCount 0 11
  else
    match crcTail payload (bytes.drop (20 + len)) with
    | .good =>
      let s1 := s.wrap TRK_RXPKT_COUNT 0
      if f 1 1 / 8 = 0 then s1.kl2Manage cls (bytes.take (20 + len)) else s1.kl2Translate bytes
    | x => s.trkCount 0 x.counter

/-! Packets of the hub's own origin contexts (R32, R69, R199, R200, R226, R227). -/

/-- The phase service's copy of a frame that enters the tunnel of an edge port (R257). -/
def phaseOf (s : State) (n : Nat) (c : Copy) : List Copy :=
  if 4 ≤ c.iport && c.iport < 12 then
    (s.phaseCopies c.iport (if s.rd CTX2_VER n ≥ 2 then c.hdr.payload.drop 4 else c.hdr.payload)).map
      (fun x => { x with rx := c.rx, traced := c.traced, eIn := c.eIn })
  else []

/-- Stage 3 for a classified packet of an origin slot (R32, R226, R227): its arrival at stage 4, or what becomes of it. The phase service's copy is no part of the tunnel (R257). -/
def policeOrigin (s : State) (h : Held) (phase : List Copy) (c : Copy) : State × List Arrival × Sent :=
  match s.police h.slot (20 + h.hdr.payload.length) with
  | (s1, true) => (s1, [.origin { h with copies := h.copies ++ phase } c.iport], .sent)
  | (s1, false) =>
    let s2 := s1.sat SHP_PRED_COUNT h.slot
    if c.iport ≥ 12 && s2.on SHP_POL0_HOLD h.slot s2.activeBank then
      ((s2.sat SHP_CNT_COUNT 1).setHeld c.iport [{ h with policing := true }], [], .held)
    else (s2.sat SHP_CNT_COUNT 0, [.whole phase], .dropped)

/-- Stages 2 and 3 for a payload that adapter data brings to origin slot `n` in a class (R32, R56, R66, R69): the copy `c` gives its port, its times and its timestamped flag. A packet without a destination that can be reached passes no policer. -/
def originArrive (s : State) (n : Nat) (c : Copy) (ring : Option Nat) : State × List Arrival × Sent :=
  let phase := s.phaseOf n c
  if !s.originReady n then (s.sat CTX5_DISCARDS n, [.whole phase], .dropped)
  else
    let h := s.originHeader n c.hdr.cls c.hdr.payload
    let c1 := { c with hdr := { h with ts := c.hdr.ts, corr := c.hdr.corr }, cost := costOf c.hdr.payload.length, slot := n }
    let r := (s.originTake n).classifyEach c1 (s.destinations n)
    if r.2.isEmpty then (r.1, [.whole phase], .dropped)
    else r.1.policeOrigin { hdr := c1.hdr, slot := n, copies := r.2, ring := ring } phase c1

/-- A payload that an internal port brings to origin slot `n`, through stage 4. -/
def originSend (s : State) (n : Nat) (c : Copy) (ring : Option Nat) : State × Sent :=
  match s.originArrive n c ring with
  | (s1, [.origin h p], _) => s1.admitOrigin h p
  | (s1, l, x) => (s1.admitCycle 0 l, x)

/-- The copy that an internal port `p` makes of a payload now. -/
def internalCopy (s : State) (p cls : Nat) (payload : List Byte) : Copy :=
  { hdr := { cls := cls, payload := payload }, iport := p, rx := s.tmu.tod, traced := s.on TMU_STAT_TVALID, eIn := s.tmu.elapsed }

/-- The copies of a packet that was held take the time of their first cell write (R90, R216). -/
def stampHeld (s : State) (h : Held) : Held :=
  { h with copies := h.copies.map (fun c => { c with rx := s.tmu.tod, traced := s.on TMU_STAT_TVALID, eIn := s.tmu.elapsed }) }

/-- The packet that port `p` holds first is retried at its ingress limit (R200): its outcome, or none where nothing was retried. -/
def ilimRetry (s : State) (p : Nat) : State × Option (Held × Sent) :=
  match s.waiting p with
  | [] => (s, none)
  | h :: l =>
    if h.policing then (s, none)
    else
      let r := (s.setHeld p l).admitOrigin (s.stampHeld h) p
      (r.1, some (h, r.2))

/-- A red packet that waits is tried again (R227): it proceeds once it is green. -/
def policedRetry (s : State) (p : Nat) : State × Option (Held × Sent) :=
  match s.waiting p with
  | [] => (s, none)
  | h :: l =>
    if !h.policing then (s, none)
    else
      match s.police h.slot (20 + h.hdr.payload.length) with
      | (_, false) => (s, none)
      | (s1, true) =>
        let r := (s1.setHeld p l).admitOrigin (s.stampHeld h) p
        (r.1, some (h, r.2))

end State

/-- KL2_PACKET_RECEIVE (R168, R169): the columns of code groups of lanes 0 to 3, from K28.7 on lane 0 to K29.7. -/
def execKl2PacketReceive (cols : List (List (Bool × Byte))) (s : State) : Host.Outcome State Fault Refusal :=
  match kl2Unstripe cols with
  | some bytes => .next (s.kl2Receive bytes)
  | none => .next s

end Sys2Proof.Machine
end

