-- ==== Sys2Proof/Machine/Edge.lean ====
section
/-! DEFINITION. The edge ports: mode, link and frames received (R96, R210 to R213, R219). -/

namespace Sys2Proof.Machine

/-- The lane rate that an edge mode needs (R210). -/
def edgeRate (mode : Nat) : Nat := match mode with
  | 0 => 5
  | 1 => 5
  | 2 => 4
  | _ => 3

namespace State

/-- An edge counter advances (R219): RXFRAMES and TXFRAMES wrap, the others saturate. -/
def edgCount (s : State) (e i : Nat) : State := if i < 2 then s.wrap EDG_CNT_COUNT e i else s.sat EDG_CNT_COUNT e i

/-- MODE of port `e` disagrees with the rate of its lane (R210). -/
def modeMismatch (s : State) (e : Nat) : Bool := s.rd LNE_CTRL_RATE (16 + e) != edgeRate (s.rd EDG_CTRL_MODE e)

/-- The link of port `e` goes down (R210, R219); its guard reads 0 (R233). -/
def edgeDown (s : State) (e : Nat) : State :=
  if s.on EDG_STAT_LINK e then (((s.wr EDG_STAT_LINK 0 e).wr EDG_STAT_LINKEV 1 e).edgCount e 8).guardShow (4 + e) else s

/-- What keeps the link of port `e` up: EN, agreeing modes, and a synchronised lane (R133, R210). -/
def edgeHolds (s : State) (e : Nat) : Bool :=
  s.on EDG_CTRL_EN e && !s.modeMismatch e && s.rd LNE_STAT_STATE (16 + e) == 4

/-- MODEMIS and the link follow the mode, the lane's rate and its state (R210). -/
def edgeCheck (s : State) (e : Nat) : State :=
  let s1 := s.wr EDG_STAT_MODEMIS (bit (s.modeMismatch e)) e
  if s1.edgeHolds e then s1 else s1.edgeDown e

/-- A write of EDG_CTRL of port `e` (R91, R210, R219, R233). -/
def edgeCtrlWrite (s : State) (e w : Nat) : State :=
  let s1 := s.writeReg (0xE0000 + 0x400 * e) w
  let s2 := s1.when (s.rd EDG_CTRL_MODE e != s1.rd EDG_CTRL_MODE e) (·.latencyConfig (4 + e))
  (s2.edgeCheck e).guardShow (4 + e)

/-- The SPEED code that a mode and, in SGMII, the in-band status give (R210, R219). -/
def edgeSpeed (mode inband : Nat) : Nat := match mode with
  | 0 => 2
  | 1 => min inband 2
  | _ => 3

/-- The lane of port `e` is synchronised and negotiation, where the mode has one, has completed (`an`), or has failed (R210). -/
def edgeUp (s : State) (e inband : Nat) (an : Bool) : State :=
  let s1 := s.wr EDG_STAT_MODEMIS (bit (s.modeMismatch e)) e
  if !s1.edgeHolds e || s1.on EDG_STAT_LINK e then s1
  else if !an && ((s1.rd EDG_CTRL_MODE e = 0 && s1.on EDG_CTRL_AN e) || s1.rd EDG_CTRL_MODE e = 1) then s1.edgCount e 9
  else ((s1.wr EDG_STAT_LINK 1 e).wr EDG_STAT_SPEED (edgeSpeed (s1.rd EDG_CTRL_MODE e) inband) e).guardShow (4 + e) |>.latencyTrained (4 + e)

/-- Port `e`'s origin context is one that R212 allows. -/
def edgeContext (s : State) (e : Nat) : Option Nat :=
  let n := s.rd EDG_CTX_SLOT e
  if s.on EDG_CTX_VALID e && s.rd CTX3_STATE n != ctxFree && !s.on CTX2_DIR n && s.rd CTX2_PROTO n == 0 &&
      s.rd CTX0_KEYSRC n % 128 == (7 + e) * 8 then some n else none

/-- The priority code point of a tagged frame. -/
def pcpOf (f : List Byte) : Option Nat :=
  if ofBe ((f.drop 12).take 2) = 0x8100 then some (ofBe ((f.drop 14).take 1) / 32) else none

/-- The class of a frame (R212); `own`: the class of the port's context. -/
def frameClass (s : State) (e own : Nat) (f : List Byte) : Nat :=
  let t := etherType f
  if t = 0x88B8 then s.rd EDG_CLS_GOOSE e
  else if t = 0x88BA then s.rd EDG_CLS_SV e
  else if t = 0x88F7 then 5
  else match pcpOf f with
    | some p => s.rd EDG_CLS_PCPMAP e / 8 ^ p % 8
    | none => own

/-- The copy of a frame captured now at port `e` (R90, R93). -/
def frameCopy (s : State) (e cls : Nat) (payload : List Byte) : Copy :=
  { hdr := { cls := cls, payload := payload }, iport := 4 + e, cost := costOf payload.length, rx := s.rxTime (4 + e),
    traced := s.on TMU_STAT_TVALID, eIn := s.rxElapsed (4 + e) }

/-- A frame `f` without its FCS enters the tunnel of port `e` (R212, R213). -/
def frameTunnel (s : State) (e n : Nat) (f : List Byte) : State × List Arrival :=
  let cls := s.frameClass e (s.rd CTX2_CLASS n) f
  let pre := if s.rd CTX2_VER n ≥ 2 then beBytes 4 (s.rxTime (4 + e)).ns32 else []
  let c := s.frameCopy e cls (pre ++ f)
  let ts := s.on PT_CFG_PTPDET (4 + e) && ptpEvent f
  let r := s.originArrive n { c with hdr := { c.hdr with ts := ts } } none
  (r.1, r.2.1)

/-- A PTP event message goes to P21 (R96, R211): a raw frame, class 5. -/
def frameLocal (s : State) (e : Nat) (f : List Byte) : List Arrival :=
  [.whole [{ s.frameCopy e 5 f with eport := 21, frame := true }]]

/-- The phase service's copy of a frame that enters no tunnel, with the port's ingress times (R216, R257). -/
def framePhase (s : State) (e : Nat) (f : List Byte) : List Arrival :=
  let c := s.frameCopy e 0 f
  [.whole ((s.phaseCopies (4 + e) f).map (fun x => { x with rx := c.rx, traced := c.traced, eIn := c.eIn }))]

/-- A received frame, destination address to FCS, up to stage 4 (R211 to R213, R257). -/
def frameArrive (s : State) (e : Nat) (bs : List Byte) : State × List Arrival :=
  if !s.on EDG_STAT_LINK e || !s.on EDG_CTRL_EN e then (s, [])
  else
    let s1 := s.edgCount e 0
    let f := bs.take (bs.length - 4)
    if bs.drop (bs.length - 4) ≠ fcsBytes (crc32 f) then (s1.edgCount e 2, [])
    else if bs.length < 64 then (s1.edgCount e 3, [])
    else if bs.length > s1.rd EDG_CTRL_MAXLEN e then (s1.edgCount e 4, [])
    else if etherType f = 0x8808 then (s1.edgCount e 5, [])
    else if ptpEvent f && s1.on PT_CFG_PTPLOCAL (4 + e) then (s1, s1.frameLocal e f)
    else match s1.edgeContext e with
      | none => (s1.edgCount e 6, s1.framePhase e f)
      | some n => s1.frameTunnel e n f

/-- A write of EDG_CNTCLR (R219). -/
def edgClear (s : State) (e w : Nat) : State :=
  let s1 := s.each (List.range 10) (fun s i => if w.testBit i then s.wr EDG_CNT_COUNT 0 e i else s)
  if w.testBit 10 then s1.wr EDG_LAT_MAX 0 e else s1

/-- Writes of EDG registers that do more than store their fields. -/
def edgWrite (s : State) (off w : Nat) : Option State :=
  if off < 0xE0000 || off ≥ 0xE2000 then none
  else if off % 0x400 = 0 then some (s.edgeCtrlWrite ((off - 0xE0000) / 0x400) w)
  else if off % 0x400 = 0x80 then some (s.edgClear ((off - 0xE0000) / 0x400) w)
  else none

end State

/-- EDGE_CTRL_WRITE (R210): `w` written to EDG_CTRL of port `e`. -/
def execEdgeCtrlWrite (e : Fin 8) (w : Word) (s : State) : Host.Outcome State Fault Refusal := .next (s.edgeCtrlWrite e w.toNat)

/-- EDGE_LINK_UP (R210) of port `e`; the in-band speed code of SGMII, and whether auto-negotiation completed. -/
def execEdgeLinkUp (e : Fin 8) (inband : Fin 3) (an : Bool) (s : State) : Host.Outcome State Fault Refusal :=
  .next (s.edgeUp e inband an)

/-- EDGE_LINK_DOWN (R210) of port `e`. -/
def execEdgeLinkDown (e : Fin 8) (s : State) : Host.Outcome State Fault Refusal := .next (s.edgeDown e)

end Sys2Proof.Machine
end

