-- ==== Sys2Proof/Machine/Arrivals.lean ====
section
/-! DEFINITION. Packets and frames that arrive in one cycle: releases and a FLUSH first, receive checks and classification by ingress port, then stage 4 in the order of R201 (R148, R183, R201, R211). -/

namespace Sys2Proof.Machine

namespace State

/-- Stages 1 to 3 for packets of trunks, in the order given. -/
def trunksArrive (s : State) : List (Nat × List LineBlock) → State × List Arrival
  | [] => (s, [])
  | x :: l =>
    let a := s.trunkArrive x.1 x.2
    let b := a.1.trunksArrive l
    (b.1, a.2 ++ b.2)

/-- Stages 1 to 3 for frames of edge ports, in the order given. -/
def framesArrive (s : State) : List (Nat × List Byte) → State × List Arrival
  | [] => (s, [])
  | x :: l =>
    let a := s.frameArrive x.1 x.2
    let b := a.1.framesArrive l
    (b.1, a.2 ++ b.2)

/-- What a list gives for each number below `n`, lower numbers first. -/
def inOrder {α : Type} (n : Nat) (l : List (Nat × α)) : List (Nat × α) := (List.range n).flatMap (fun p => l.filter (fun x => x.1 == p))

/-- The packets and frames of one cycle: the lower-numbered ingress port is classified first (R183), stage 4 follows R201. -/
def cycleArrive (s : State) (ecc : Nat) (trunks : List (Nat × List LineBlock)) (frames : List (Nat × List Byte)) : State :=
  let a := s.trunksArrive (inOrder 4 trunks)
  let b := a.1.framesArrive (inOrder 8 frames)
  b.1.admitCycle ecc (a.2 ++ b.2)

end State

/-- TRUNK_PACKET_RECEIVE (R143, R148): link blocks of trunk `t` from a START on; `ecc`: what the ECC says of a copy that cuts through (R197). In the same cycle (R183, R201): ports that finish sending (`done`), a FLUSH, packets of other trunks (`more`) and edge frames. -/
def execTrunkPacketReceive (t : Fin 4) (blocks : List (Nat × List Byte)) (ecc : Fin 4) (done : List (Fin 12)) (flush : Bool)
    (more : List (Fin 4 × List (Nat × List Byte))) (frames : List (Fin 8 × List Byte)) (s : State) :
    Host.Outcome State Fault Refusal :=
  let s1 := (s.each done (fun s p => s.completeSend p)).when flush State.ddFlush
  let others := (more.filter (fun x => x.1 != t)).map (fun x => (x.1.val, x.2))
  .next (s1.cycleArrive ecc ((t.val, blocks) :: others) (frames.map (fun x => (x.1.val, x.2))))

/-- EDGE_FRAME_RECEIVE (R211 to R213): a frame, destination address to FCS inclusive, at port `e`, and frames of other edge ports in the same cycle (R201). -/
def execEdgeFrameReceive (e : Fin 8) (bytes : List Byte) (more : List (Fin 8 × List Byte)) (s : State) :
    Host.Outcome State Fault Refusal :=
  .next (s.cycleArrive 0 [] ((e.val, bytes) :: (more.filter (fun x => x.1 != e)).map (fun x => (x.1.val, x.2))))

end Sys2Proof.Machine
end

