-- ==== Sys2Proof/Machine/Lanes.lean ====
section
/-! DEFINITION. Events and register writes of the lane block (spec/05_serial_lanes.md): acquisition, alignment, bonding, eye scan and PRBS. -/

namespace Sys2Proof.Machine

/-- The trunk that a receive lane serves; none for an edge lane or a USB-C transmit lane. -/
def trunkOf (n : Nat) : Option Nat :=
  if n < 16 then some (n / 4) else if n = 25 || n = 27 then some 3 else none

namespace State

/-- Lane `n` runs at an edge rate (R133). -/
def edgeLane (n : Nat) : Bool := 16 ≤ n && n < 24

/-- The bond of trunk `t` after a lane has changed (R129, R130): an UP bond that loses a lane goes down, and the trunk with it; a DOWN bond with a LOCKED lane enters DESKEW. -/
def bondEval (s : State) (t : Nat) : State :=
  let s1 :=
    if s.rd LNE_BOND_STATE t = bondUp && !s.bondLocked t then
      ((s.wr LNE_BOND_STATE bondDown t).wr LNE_BOND_WIDTH 0 t).bondLost t
    else s
  s1.bondWake t

/-- What follows a change of lane `n`: its bond, or its edge port's link. -/
def laneChanged (s : State) (n : Nat) : State :=
  if edgeLane n then s.edgeCheck (n - 16)
  else match trunkOf n with
    | some t => s.bondEval t
    | none => s

/-- Lane `n` moves to a state for one of R125's causes, and what depends on it follows. -/
def laneMove (s : State) (n st : Nat) : State := (s.laneGo n st true).laneChanged n

/-- The state of lane `n`. -/
def laneState (s : State) (n : Nat) : Nat := s.rd LNE_STAT_STATE n

/-- An acquisition timeout (R125). -/
def acqFail (s : State) (n st : Nat) : State := (s.sat LNE_CNT_ACQ_ACQFAIL n).laneGo n st false

/-- The input of lane `n` lies below LOSTHR, codes of 2 mV (R126, R140). -/
def belowLos (s : State) (n mv : Nat) : Bool := mv < 2 * s.rd LNE_RXCFG_LOSTHR n

/-- Loss of signal at an input of `mv` mVppd (R126): it ends LOCKED, the one state whose row of R125 names it. -/
def losDetect (s : State) (n mv : Nat) : State :=
  if !s.belowLos n mv then s
  else
    let s1 := if s.on LNE_STAT_LOS n then s else (s.wr LNE_STAT_LOS 1 n).wr LNE_STAT_LOSEV 1 n
    if s1.laneState n = laneLocked then s1.laneMove n laneCdr else s1

/-- A signal of `mv` mVppd is there again (R126). -/
def losClear (s : State) (n mv : Nat) : State := if s.belowLos n mv then s else s.wr LNE_STAT_LOS 0 n

/-- The phase detector is out of range (R126): it ends LOCKED (R125); in any state the clock is no longer locked. -/
def cdrLoss (s : State) (n : Nat) : State :=
  let s1 := s.wr LNE_STAT_CDRLK 0 n
  if s1.laneState n = laneLocked then s1.laneMove n laneCdr else s1

/-- Clock recovery locks (R125). -/
def cdrLock (s : State) (n : Nat) : State :=
  if s.laneState n = laneCdr && !s.on LNE_STAT_LOS n then s.laneMove n laneHdr else s

/-- 64 valid headers, 4 commas (R132), or the standard's lock condition on an edge lane (R133). -/
def headerLock (s : State) (n : Nat) : State :=
  if s.laneState n ≠ laneHdr then s else s.laneMove n (if edgeLane n then laneLocked else laneAlign)

/-- The window of a lane ends with `k` invalid headers or code groups (R126, R132); `lost`: the standard's lock or synchronisation condition of an edge lane no longer holds (R133). -/
def headerWindow (s : State) (n k : Nat) (lost : Bool) : State :=
  let st := s.laneState n
  if st ≠ laneAlign && st ≠ laneLocked then s
  else
    let s1 := s.satBy LNE_CNT_HDR_COUNT k n
    let limit := if s.rd LNE_CTRL_RATE n = 2 then 16 else 32
    if edgeLane n then (if lost then s1.laneMove n laneHdr else s1)
    else if k ≥ limit then s1.laneMove n laneHdr else s1

/-- The alignment block or column of lane `n` was good (R125, R126). -/
def alignedGood (s : State) (n : Nat) : State :=
  if s.laneState n = laneLocked then s.alignCount n 0 0
  else
    let g := Tab.get s.lne.good n 0 + 1
    if g ≥ 4 then s.laneMove n laneLocked else s.alignCount n g 0

/-- The alignment block or column of lane `n` was bad or missing where one was expected (R125, R126). -/
def alignedBad (s : State) (n : Nat) : State :=
  if s.laneState n = laneLocked then
    let b := Tab.get s.lne.bad n 0 + 1
    if b ≥ 4 then s.laneMove n laneHdr else s.alignCount n 0 b
  else s.alignCount n 0 0

/-- The effective inversion of lane `n`: RXPOL XOR RXINV (R127). -/
def rxInverted (s : State) (n : Nat) : Bool := s.on LNE_CTRL_RXPOL n ^^ s.on LNE_STAT_RXINV n

/-- A lane in ALIGN that may still invert its input by itself (R127). -/
def mayInvert (s : State) (n : Nat) : Bool :=
  s.laneState n = laneAlign && s.on LNE_CTRL_AUTOPOL n && !s.on LNE_STAT_RXINV n

/-- The blocks of a lane descrambled in order, from the last 58 bits received (R122). -/
def descrambleBlocks : Nat → List LineBlock → List LineBlock × Nat
  | r, [] => ([], r)
  | r, b :: l =>
    let x := descramble r (payloadBits b.2)
    let y := descrambleBlocks x.2 l
    ((b.1, bitsBytes 8 x.1) :: y.1, y.2)

/-- Lane `n` receives blocks, its inversion applied: the descrambler runs on, and a lane that is LOCKED delivers them (R122, R125). -/
def laneIn (s : State) (n : Nat) (l : List LineBlock) : State :=
  let r := descrambleBlocks (Tab.get s.lne.dscr n 0) l
  { s with lne := { s.lne with
    dscr := Tab.put s.lne.dscr n r.2 0,
    rx := Tab.put s.lne.rx n (if s.laneState n = laneLocked then r.1 else []) [] } }

/-- A good alignment block: its BIP compared and its LANE shown (R123). -/
def alignTaken (s : State) (n : Nat) (b : List Byte) (parity : Nat) : State :=
  (s.satBy LNE_CNT_BIP_COUNT (bipMismatch b parity) n).wr LNE_STAT_LANE (ofBe ((b.drop 4).take 1) % 4) n

/-- A block where lane `n` of trunk `t` expects its alignment block, after the blocks `l` received since the last (R123, R125, R127). -/
def blockAlign (s : State) (t n : Nat) (b : LineBlock) (l : List LineBlock) : State :=
  let w := lanesOf (s.trunk t).width
  let inv := s.rxInverted n
  let rx := seenBlock inv b
  let seen := l.map (seenBlock inv)
  let parity := parityOf (seen.flatMap (·.2))
  let s1 := s.laneIn n seen
  if alignGood rx.1 rx.2 w then (s1.alignTaken n rx.2 parity).alignedGood n
  else
    let c := invertBlock rx
    if s.mayInvert n && alignGood c.1 c.2 w then ((s1.wr LNE_STAT_RXINV 1 n).alignTaken n c.2 parity).alignCount n 1 0
    else s1.alignedBad n

/-- The code group that lane `n` sees. -/
def seenCode (s : State) (n : Nat) (c : Byte) : Byte := if s.rxInverted n then ~~~c else c

/-- What KL2's lanes receive where a column of K28.3 is expected (R132): the code groups of lanes 0 to 3; or, on lane `n` alone, a K28.5, which inverts the lane when it comes inverted under AUTOPOL (log entry 65). -/
def columnAlign (s : State) (n : Nat) (b : List Byte) : State :=
  if b.length = 1 then
    (if s.mayInvert n && s.seenCode n (b.getD 0 0) = 0x43 then s.wr LNE_STAT_RXINV 1 n else s)
  else
    let good := b.length = 4 && (List.range 4).all (fun k => s.seenCode k (b.getD k 0) == 0x7C)
    s.each (List.range 4) (fun s k =>
      if s.laneState k ≠ laneAlign && s.laneState k ≠ laneLocked then s
      else if good then s.alignedGood k else s.alignedBad k)

/-- A block received where lane `n` expects an alignment block, as it stands on the line, after the blocks `l` since the last one (R123, R127, R132). -/
def alignReceive (s : State) (n hdr : Nat) (b : List Byte) (l : List LineBlock) : State :=
  match trunkOf n with
  | none => s
  | some t =>
    if s.rd LNE_CTRL_RATE n = 2 && n < 4 then s.columnAlign n b
    else if s.laneState n ≠ laneAlign && s.laneState n ≠ laneLocked then s
    else s.blockAlign t n (hdr, b) l

/-! Bonds (R129, R130). -/

/-- A bond fails with a code (R129, R130); the trunk decides what it tries next (R158). -/
def bondFails (s : State) (t code : Nat) : State :=
  let s1 := ((s.wr LNE_BOND_STATE bondFail t).wr LNE_BOND_FAIL code t).wr LNE_BOND_WIDTH 0 t
  (s1.sat LNE_BOND_FAILS t).bondTrialFails t

/-- Delay of each lane of a bond behind the earliest, written to LNE_SKEW (R129); in whole code groups of 10 UI in KL2 (R132). A skew beyond the 64 blocks of the register table shows as measured, up to the field's 127 (log entry 65). -/
def skewShow (s : State) (t unit : Nat) (d : List Nat) : State :=
  s.each (List.range (s.bondLanes t).length) (fun s k =>
    let x := d.getD k 0 - (d.take (s.bondLanes t).length).foldl min (d.getD 0 0)
    let n := (s.bondLanes t).getD k 0
    (s.wr LNE_SKEW_BLOCKS (min (x / unit) 127) n).wr LNE_SKEW_UI (x % unit) n)

/-- The bond comes UP (R91, R128, R129), and its trunk goes on (R157, R167). -/
def bondComesUp (s : State) (t : Nat) : State :=
  (((s.wr LNE_BOND_STATE bondUp t).wr LNE_BOND_WIDTH (s.trunk t).width t).latencyTrained t).bondAdvance t

/-- The deskew measurement of trunk `t`'s bond (R129, R132): `d` is the delay of each lane in UI. -/
def skewMeasure (s : State) (t : Nat) (d : List Nat) : State :=
  if s.rd LNE_BOND_STATE t ≠ bondDeskew || !s.bondLocked t || s.rd TRK_STAT_STATE t = 0 then s
  else
    let ls := s.bondLanes t
    let legacy := t = 0 && s.kl2Active
    let ids := ls.map (fun n => s.rd LNE_STAT_LANE n)
    let unit := if legacy then 10 else 66
    let x := (d.take ls.length).foldl max 0 - (d.take ls.length).foldl min (d.getD 0 0)
    if !legacy && ids.eraseDups.length < ids.length then s.bondFails t 2
    else
      let s1 := s.skewShow t unit d
      if x > (if legacy then 160 else 4224) then s1.bondFails t 1 else s1.bondComesUp t

/-- Lanes not all LOCKED within 4 alignment periods (R129). -/
def bondTimeout (s : State) (t : Nat) : State :=
  if s.rd LNE_BOND_STATE t = bondDeskew && !s.bondLocked t then s.bondFails t 3 else s

/-- A failed bond has held FAIL for its period (R130). -/
def bondRetry (s : State) (t : Nat) : State :=
  if s.rd LNE_BOND_STATE t = bondFail then (s.wr LNE_BOND_STATE bondDown t).bondWake t else s

/-! LNE_CTRL and LNE_TXEQ (R119, R125, R127, R137). -/

/-- The port that owns lane `n` is administratively disabled (R137); a lane that no port owns at present counts as disabled (log entry 65). -/
def laneIdle (s : State) (n : Nat) : Bool :=
  if n < 16 then s.onUsbC (n / 4) || !s.on TRK_CTRL_EN (n / 4)
  else if n < 24 then !s.on EDG_CTRL_EN (n - 16)
  else !(s.trunkMode && s.on TRK_CTRL_EN 3)

/-- RATE of a written LNE_CTRL (R119): an edge lane takes codes 3 to 5; any other write of it sets RATEREJ. -/
def rateWrite (s : State) (n r : Nat) : State :=
  if edgeLane n && 3 ≤ r && r ≤ 5 then s.laneRate n r else s.wr LNE_STAT_RATEREJ 1 n

/-- The checker of lane `n` stands as after a start (R138). -/
def checkerOff (s : State) (n : Nat) : State :=
  { (s.wr LNE_PRBS_CHKLK 0 n) with lne := { s.lne with chk := Tab.put s.lne.chk n {} {} } }

/-- MODE of a written LNE_CTRL (R137). -/
def modeWrite (s : State) (n m : Nat) : State :=
  if m = 3 then s
  else if m = 0 then (s.wr LNE_CTRL_MODE 0 n).checkerOff n
  else if s.laneIdle n then s.wr LNE_CTRL_MODE m n
  else s.wr LNE_STAT_MODEREJ 1 n

/-- A write of LNE_CTRL of lane `n`: unless the block is locked it writes RXPOL, which takes the lane to CDR (R127). -/
def laneCtrlWrite (s : State) (n w : Nat) : State :=
  let lk := s.on LNE_GLB_LOCK_LOCK
  let s1 := s.writeFields lk [LNE_CTRL_EN, LNE_CTRL_AUTOPOL, LNE_CTRL_RXPOL, LNE_CTRL_TXPOL] n 0 w
  let s2 := if lk then s1 else s1.laneRelock n
  let s3 := (s2.rateWrite n (bitsOf w 27 24)).modeWrite n (bitsOf w 1 0)
  let s4 := if s3.on LNE_CTRL_EN n then s3 else s3.wr LNE_STAT_RXINV 0 n
  (s4.lanePower n).laneChanged n

/-- A write of LNE_TXEQ: ignored whole when the written taps exceed 64 (R140). -/
def txeqWrite (s : State) (n w : Nat) : State :=
  if bitsOf w 21 16 + bitsOf w 13 8 + bitsOf w 4 0 > 64 then s.wr LNE_STAT_EQREJ 1 n else s.writeReg (0xC0008 + 0x400 * n) w

/-! Eye scan (R135, R136). -/

/-- The counts of a scan. -/
def scanCounts (s : State) (n bits errs : Nat) : State :=
  ((((s.wr LNE_ES_BITS_LO_COUNT_LO bits n).wr LNE_ES_BITS_HI_COUNT_HI (bits / 2 ^ 32) n).wr LNE_ES_ERR_LO_COUNT_LO errs n).wr
    LNE_ES_ERR_HI_COUNT_HI (errs / 2 ^ 32) n)

/-- GO on a lane without a running scan. -/
def scanGo (s : State) (n e : Nat) : State :=
  if e < 20 || e > 40 then s.wr LNE_STAT_ESREJ 1 n
  else
    let s1 := s.scanCounts n 0 0
    if s1.laneState n = laneLocked then (s1.wr LNE_ES_STAT_BUSY 1 n).wr LNE_ES_STAT_ERR 0 n
    else (s1.wr LNE_ES_STAT_DONE 1 n).wr LNE_ES_STAT_ERR 1 n

/-- A write of LNE_ES_CTRL. -/
def scanWrite (s : State) (n w : Nat) : State :=
  if s.on LNE_ES_STAT_BUSY n then (if w.testBit 30 then s.scanStop n 3 else s)
  else
    let s1 := s.writeFields false [LNE_ES_CTRL_CNTEXP, LNE_ES_CTRL_PHASE, LNE_ES_CTRL_VOFS] n 0 w
    if w.testBit 31 && !w.testBit 30 then s1.scanGo n (bitsOf w 29 24) else s1

/-- A scan has compared its 2^CNTEXP bits, with `errs` disagreements. -/
def scanDone (s : State) (n errs : Nat) : State :=
  let bits := 2 ^ s.rd LNE_ES_CTRL_CNTEXP n
  if s.on LNE_ES_STAT_BUSY n then
    (((s.scanCounts n bits (min errs bits)).wr LNE_ES_STAT_BUSY 0 n).wr LNE_ES_STAT_DONE 1 n).wr LNE_ES_STAT_ERR 0 n
  else s

/-! PRBS (R137, R138). -/

/-- The checker's counters cleared. -/
def prbsClear (s : State) (n : Nat) : State :=
  (((s.wr LNE_PRBS_ERR_COUNT 0 n).wr LNE_PRBS_BITS_LO_BITS_LO 0 n).wr LNE_PRBS_BITS_HI_BITS_HI 0 n).wr LNE_PRBS_RELOCK 0 n

/-- The generator of lane `n` starts with a register that is not zero; the spec gives no start value (R19, R137). -/
def genStart (s : State) (n : Nat) : State :=
  let k := (prbsTaps (s.rd LNE_PRBS_PAT n)).1
  let r := s.free k
  { r.2 with lne := { r.2.lne with gen := Tab.put r.2.lne.gen n (r.1 % (2 ^ k - 1) + 1) 0 } }

/-- INJ inverts the next bit of a running generator (R138). -/
def prbsInject (s : State) (n : Nat) : State :=
  if s.on LNE_PRBS_GEN n && s.rd LNE_CTRL_MODE n = 1 then
    let r := prbsRun (s.rd LNE_PRBS_PAT n) 1 (Tab.get s.lne.gen n 0)
    let s1 := s.putLine n (r.1.map (fun b => !b ^^ s.on LNE_PRBS_INV n))
    { s1 with lne := { s1.lne with
      gen := Tab.put s1.lne.gen n r.2 0,
      injected := Tab.put s1.lne.injected n (wrapAdd 32 (Tab.get s1.lne.injected n 0) 1) 0 } }
  else s

/-- A write of LNE_PRBS. -/
def prbsWrite (s : State) (n w : Nat) : State :=
  let s1 := s.writeReg (0xC0010 + 0x400 * n) w
  let s2 := if !s.on LNE_PRBS_CHK n && s1.on LNE_PRBS_CHK n then (s1.prbsClear n).checkerOff n else s1
  let s3 := if s2.on LNE_PRBS_CHK n then s2 else s2.checkerOff n
  let moved := s.on LNE_PRBS_GEN n != s3.on LNE_PRBS_GEN n || s.rd LNE_PRBS_PAT n != s3.rd LNE_PRBS_PAT n
  let s4 := s3.when (s3.on LNE_PRBS_GEN n && moved) (·.genStart n)
  s4.when (w.testBit 24) (·.prbsInject n)

/-- The checker runs on a receiver that is in use (R134, R137). -/
def prbsRuns (s : State) (n : Nat) : Bool :=
  s.on LNE_PRBS_CHK n && s.rd LNE_CTRL_MODE n != 0 && s.on LNE_CTRL_EN n && !s.on LNE_STAT_PD n

/-- Bits compared, a 48-bit count that saturates. -/
def prbsBits (s : State) (n k : Nat) : State :=
  let v := satAdd 48 (s.rd LNE_PRBS_BITS_HI_BITS_HI n * 2 ^ 32 + s.rd LNE_PRBS_BITS_LO_BITS_LO n) k
  (s.wr LNE_PRBS_BITS_LO_BITS_LO v n).wr LNE_PRBS_BITS_HI_BITS_HI (v / 2 ^ 32) n

/-- What a checker has found, in the lane's registers; its own counts start again. -/
def checkerShow (s : State) (n : Nat) (c : Checker) : State :=
  let s1 := ((s.prbsBits n c.bits).satBy LNE_PRBS_ERR_COUNT c.errs n).satBy LNE_PRBS_RELOCK c.losses n
  let s2 := (s1.when (c.losses != 0) (·.wr LNE_PRBS_CHKLOST 1 n)).wr LNE_PRBS_CHKLK (bit c.lock) n
  { s2 with lne := { s2.lne with chk := Tab.put s2.lne.chk n { c with bits := 0, errs := 0, losses := 0 } {} } }

/-- Bits on the line of lane `n` pass its checker in order (R127, R137, R138). -/
def prbsReceive (s : State) (n : Nat) (l : List Bool) : State :=
  if !s.prbsRuns n then s
  else
    let inv := s.rxInverted n ^^ s.on LNE_PRBS_INV n
    s.checkerShow n ((Tab.get s.lne.chk n {}).takeAll (s.rd LNE_PRBS_PAT n) (l.map (· ^^ inv)))

/-- A write of LNE_CNTCLR. -/
def lneClear (s : State) (n w : Nat) : State :=
  let s1 := s.when (w.testBit 0) (·.wr LNE_CNT_HDR_COUNT 0 n)
  let s2 := s1.when (w.testBit 1) (·.wr LNE_CNT_BIP_COUNT 0 n)
  let s3 := s2.when (w.testBit 2) (fun s => (s.wr LNE_CNT_ACQ_LOCKLOSS 0 n).wr LNE_CNT_ACQ_ACQFAIL 0 n)
  s3.when (w.testBit 3) (·.prbsClear n)

/-- Writes of LNE registers that do more than store their fields. -/
def lneWrite (s : State) (off w : Nat) : Option State :=
  let n := (off - 0xC0000) / 0x400
  let r := (off - 0xC0000) % 0x400
  if off < 0xC0000 || off ≥ 0xC7000 then none
  else if r = 0 then some (s.laneCtrlWrite n w)
  else if r = 8 then some (s.txeqWrite n w)
  else if r = 0x10 then some (s.prbsWrite n w)
  else if r = 0x20 then some (s.scanWrite n w)
  else if r = 0x48 then some (s.lneClear n w)
  else none

end State

/-- LANE_CTRL_WRITE (R119): `w` written to LNE_CTRL of lane `n`. -/
def execLaneCtrlWrite (n : Fin 28) (w : Word) (s : State) : Host.Outcome State Fault Refusal := .next (s.laneCtrlWrite n w.toNat)

/-- CDR_LOCK (R125) of lane `n`. -/
def execCdrLock (n : Fin 28) (s : State) : Host.Outcome State Fault Refusal := .next (s.cdrLock n)

/-- CDR_ACQ_TIMEOUT (R125): clock recovery restarts. -/
def execCdrAcqTimeout (n : Fin 28) (s : State) : Host.Outcome State Fault Refusal :=
  if s.laneState n = laneCdr then .next (s.acqFail n laneCdr) else .next s

/-- HEADER_LOCK (R125, R132, R133). -/
def execHeaderLock (n : Fin 28) (s : State) : Host.Outcome State Fault Refusal := .next (s.headerLock n)

/-- HEADER_HUNT_TIMEOUT (R125). -/
def execHeaderHuntTimeout (n : Fin 28) (s : State) : Host.Outcome State Fault Refusal :=
  if s.laneState n = laneHdr then .next (s.acqFail n laneCdr) else .next s

/-- ALIGNMENT_BLOCK_RECEIVE (R122, R123, R132): header and bytes of what stands on the line where an alignment block is expected (no bytes: missing), and the blocks since the last such place. -/
def execAlignmentBlockReceive (n : Fin 28) (hdr : Fin 4) (bytes : List Byte) (line : List LineBlock) (s : State) :
    Host.Outcome State Fault Refusal :=
  .next (s.alignReceive n hdr bytes line)

/-- ALIGN_TIMEOUT (R125). -/
def execAlignTimeout (n : Fin 28) (s : State) : Host.Outcome State Fault Refusal :=
  if s.laneState n = laneAlign then .next ((s.acqFail n laneHdr).wr LNE_STAT_ALIGNFAIL 1 n) else .next s

/-- LOS_DETECT (R126) at an input of `mv` mVppd. -/
def execLosDetect (n : Fin 28) (mv : Nat) (s : State) : Host.Outcome State Fault Refusal := .next (s.losDetect n mv)

/-- LOS_CLEAR (R126) at an input of `mv` mVppd. -/
def execLosClear (n : Fin 28) (mv : Nat) (s : State) : Host.Outcome State Fault Refusal := .next (s.losClear n mv)

/-- CDR_LOSS (R126). -/
def execCdrLoss (n : Fin 28) (s : State) : Host.Outcome State Fault Refusal := .next (s.cdrLoss n)

/-- HEADER_LOSS (R126, R132, R133): a window of 1,024 blocks ends with `k` invalid headers; `lost`: an edge lane's standard has lost its lock condition. -/
def execHeaderLoss (n : Fin 28) (k : Fin 1025) (lost : Bool) (s : State) : Host.Outcome State Fault Refusal :=
  .next (s.headerWindow n k lost)

/-- ALIGNMENT_BLOCK_SEND (R124) of trunk `t`, after `idle` IDLE blocks on each lane. -/
def execAlignmentBlockSend (t : Fin 4) (idle : Fin 16384) (s : State) : Host.Outcome State Fault Refusal := .next (s.alignSend t idle)

/-- BOND_SKEW_MEASURE (R129): the delay in UI with which each lane of the bond brought the alignment block. -/
def execBondSkewMeasure (t : Fin 4) (d0 d1 d2 d3 : Nat) (s : State) : Host.Outcome State Fault Refusal :=
  .next (s.skewMeasure t [d0, d1, d2, d3])

/-- BOND_TIMEOUT (R129). -/
def execBondTimeout (t : Fin 4) (s : State) : Host.Outcome State Fault Refusal := .next (s.bondTimeout t)

/-- BOND_FAIL_EXPIRY (R130). -/
def execBondFailExpiry (t : Fin 4) (s : State) : Host.Outcome State Fault Refusal := .next (s.bondRetry t)

/-- EYE_SCAN_GO (R136): `w` written to LNE_ES_CTRL with GO. -/
def execEyeScanGo (n : Fin 28) (w : Word) (s : State) : Host.Outcome State Fault Refusal :=
  .next (s.scanWrite n (setBits w.toNat 31 31 1))

/-- EYE_SCAN_ABORT (R136). -/
def execEyeScanAbort (n : Fin 28) (s : State) : Host.Outcome State Fault Refusal := .next (s.scanStop n 3)

/-- EYE_SCAN_DONE (R135): the bits are compared, with `errs` disagreements. -/
def execEyeScanDone (n : Fin 28) (errs : Nat) (s : State) : Host.Outcome State Fault Refusal := .next (s.scanDone n errs)

/-- PRBS_CHECK_START (R138): `w` written to LNE_PRBS with CHK. -/
def execPrbsCheckStart (n : Fin 28) (w : Word) (s : State) : Host.Outcome State Fault Refusal :=
  .next (s.prbsWrite n (setBits w.toNat 30 30 1))

/-- PRBS_CHECKER_LOCK (R138): the bits that lane `n` receives while its checker seeds itself. -/
def execPrbsCheckerLock (n : Fin 28) (bits : List Bool) (s : State) : Host.Outcome State Fault Refusal := .next (s.prbsReceive n bits)

/-- PRBS_CHECKER_LOSS (R138): the bits that lane `n` receives while its checker compares them. -/
def execPrbsCheckerLoss (n : Fin 28) (bits : List Bool) (s : State) : Host.Outcome State Fault Refusal := .next (s.prbsReceive n bits)

/-- PRBS_INJECT (R138). -/
def execPrbsInject (n : Fin 28) (s : State) : Host.Outcome State Fault Refusal := .next (s.prbsInject n)

end Sys2Proof.Machine
end

