-- ==== Sys2Proof/Machine/Mains.lean ====
section
/-! DEFINITION. Cicada, the mains-cycle tracker (spec/04_mains_cycle.md): sources, phase events, the tracking computation, states, boundaries and angle conversion. -/

namespace Sys2Proof.Machine

/-- The range of CYC_INCR (R106). -/
def cycIncrOk (x : Int) : Bool := 22517998 ≤ x && x ≤ 39406497

/-- Division of a non-negative number rounded to the nearest, ties away from zero (R112). -/
def divNearest (a b : Nat) : Nat := if b = 0 then 0 else (2 * a + b) / (2 * b)

/-- States of the tracker (R114). -/
def cycFree : Nat := 0
def cycAcquire : Nat := 1
def cycLocked : Nat := 2
def cycHoldover : Nat := 3

namespace State

/-- The tracker's increment set, and shown in CYC_INCR. -/
def setCycIncr (s : State) (v : Nat) : State :=
  { ((s.wr CYC_INCR_LO_FRAC v).wr CYC_INCR_HI_INT (v / 2 ^ 32)) with cyc := { s.cyc with incr := v } }

/-- A phase event or observation is rejected (R111). -/
def cycReject (s : State) : State := (s.wr CYC_STAT_EVREJ 1).sat CYC_CNT_REJ_COUNT

/-- The tracker's state set; leaving HOLDOVER ends the cause "mains holdover expired" (R114). -/
def setCycState (s : State) (x : Nat) : State :=
  let s1 := if s.rd CYC_STAT_STATE = cycHoldover && x ≠ cycHoldover then s.causeOff 30 else s
  (s1.wr CYC_STAT_STATE x).setMvalid (x = cycLocked || (x = cycHoldover && s1.on CYC_STAT_MVALID))

/-- A write of CYC_CTRL (R108, R114): the lock, and SRC, which moves the tracker between FREE and ACQUIRE; SRC 0 abandons an event in processing (R115). A reserved code here, as in CYC_LOOP, CYC_ZC_CFG and CYC_HOLD, is ignored for its field (R15) and, the write itself being accepted, does not count in CYC_CNT_REJ (DESIGN CHOICE, log entry 64). -/
def cycCtrlWrite (s : State) (w : Nat) : State :=
  let s1 := s.writeReg 0xB0000 w
  let src := s1.rd CYC_CTRL_SRC
  if src = 0 then
    let s2 := ({ s1 with cyc := { s1.cyc with busy := [] } }.disarm .mains).disarm .holdover
    if s1.rd CYC_STAT_STATE = cycFree then s2 else (s2.causeOff 29).setCycState cycFree
  else if s1.rd CYC_STAT_STATE = cycFree then
    (({ s1 with cyc := { s1.cyc with hist := [], first := true, count := 0, fLast := s1.cyc.incr } }).setCycState cycAcquire).arm .mains 0
  else s1

/-- A write of CYC_INCR_LO (R106, R108). -/
def cycIncrWrite (s : State) (w : Nat) : State :=
  let v : Nat := s.rd CYC_INCR_HI_INT * 2 ^ 32 + w % 2 ^ 32
  if s.rd CYC_CTRL_SRC ≠ 0 then (s.wr CYC_STAT_WLATE 1).sat CYC_CNT_REJ_COUNT
  else if cycIncrOk (v : Int) then s.setCycIncr v
  else s.sat CYC_CNT_REJ_COUNT

/-- A write of CYC_INCR_HI while SRC ≠ 0 is ignored (R108). -/
def cycIncrHiWrite (s : State) (w : Nat) : State :=
  if s.rd CYC_CTRL_SRC ≠ 0 then (s.wr CYC_STAT_WLATE 1).sat CYC_CNT_REJ_COUNT else s.writeReg 0xB000C w

/-- A write of CYC_THR (register table): ignored whole and counted when STEPTHR ≤ LOCKTHR, as written or as it would stand; a STEPTHR above 0x8000 is ignored alone and counted (R15). -/
def cycThrWrite (s : State) (w : Nat) : State :=
  let s1 := s.writeReg 0xB0014 w
  if bitsOf w 31 16 ≤ bitsOf w 15 0 || s1.rd CYC_THR_STEPTHR ≤ s1.rd CYC_THR_LOCKTHR then s.sat CYC_CNT_REJ_COUNT
  else s1.when (bitsOf w 31 16 > 0x8000) (·.sat CYC_CNT_REJ_COUNT)

/-- The implied period in ns (R112). -/
def cycPeriod (s : State) : Nat := s.tickIncr * 2 ^ 16 / s.cyc.incr

/-- The interval checks of R109 on an event at elapsed count `t`; skipped while the history holds no event. -/
def intervalOk (s : State) (t : Nat) : Bool :=
  match s.cyc.hist with
  | [] => true
  | l :: _ =>
    let d : Int := (t : Int) - l
    let ns : Int := 2 ^ 32
    let p : Int := s.cycPeriod * ns
    let tol : Int := s.rd CYC_ZC_CFG_TOL * 10000 * ns
    14285714 * ns ≤ d && d ≤ 25000000 * ns &&
      (s.rd CYC_STAT_STATE = cycAcquire || (p - tol ≤ d && d ≤ p + tol))

/-- An event passes the checks and is taken for processing behind those that are being processed, with the settings in force (R112, R115). -/
def takeEvent (s : State) (a t : Nat) (zc : Bool) : State :=
  let e : PhaseEvent :=
    { a := a, t := t, zc := zc, avgn := s.rd CYC_LOOP_AVGN, kp := s.rd CYC_LOOP_KP,
      stepThr := s.rd CYC_THR_STEPTHR, lockThr := s.rd CYC_THR_LOCKTHR, lockN := s.rd CYC_LOOP_LOCKN }
  { s with cyc := { s.cyc with busy := s.cyc.busy ++ [e] } }

/-- An edge whose first transition lay at elapsed count `t` falls into the mask of an accepted edge, one that is being processed included (R109). -/
def zcMasked (s : State) (t : Nat) : Bool :=
  (s.cyc.lastZc.toList ++ (s.cyc.busy.filter (·.zc)).map (·.t)).any (fun z => t < z + s.rd CYC_ZC_CFG_MASK * 1000000 * 2 ^ 32)

/-- A MAINS_ZC edge that has held for FILT, falling or rising, `ago` × 2^-32 ns after its first transition (R109): taken where EDGE selects it, masked, range-checked, and a phase event or rejected. -/
def zcEdge (s : State) (fall : Bool) (ago : Nat) : State :=
  if s.rd CYC_CTRL_SRC ≠ 1 || fall != s.on CYC_ZC_CFG_EDGE then s
  else
    let t := s.tmu.elapsed - ago
    let a := (s.cyc.acc + 2 ^ 64 - s.cyc.incr * (s.rd CYC_ZC_CFG_FILT * 500) % 2 ^ 64) % 2 ^ 64
    if s.zcMasked t then s
    else if s.intervalOk t then s.takeEvent a t true
    else s.cycReject

/-- The age of an SV observation in 2^-16 ns; negative: it lies in the future (R110). -/
def svAge (s : State) (frac : Nat) : Int :=
  let now : Int := (s.tmu.tod.sec * 1000000000 + s.tmu.tod.ns) * 2 ^ 16 + s.tmu.tod.frac16
  let hi := s.tmu.tod.sec / 2 ^ 32
  let obs (h : Nat) : Int := ((h * 2 ^ 32 + s.rd CYC_SV_SECLO_SEC_LO) * 1000000000 + s.rd CYC_SV_NS_NS) * 2 ^ 16 + frac
  let d := now - obs hi
  if d < 0 && hi > 0 && now - obs (hi - 1) ≤ 25000000 * 2 ^ 16 then now - obs (hi - 1) else d

/-- A write of CYC_SV_CMT submits an observation (R110); ignored unless SRC = 2. -/
def svCommit (s : State) (w : Nat) : State :=
  if s.rd CYC_CTRL_SRC ≠ 2 then s
  else
    let age := s.svAge (bitsOf w 15 0)
    let a16 := age.toNat
    let t := s.tmu.elapsed - a16 * 2 ^ 16
    let ticks := a16 * 2 ^ 16 / s.tickIncr
    let a := (s.cyc.acc + 2 ^ 64 - s.cyc.incr * ticks % 2 ^ 64) % 2 ^ 64
    let stale := match s.cyc.lastEvent with
      | none => false
      | some l => t ≤ l
    if bitsOf w 31 16 ≠ s.rd TMU_STAT_STEPCNT || s.rd CYC_SV_NS_NS > 999999999 || age < 0 ||
       age > 25000000 * 2 ^ 16 || stale then s.cycReject
    else if s.intervalOk t then s.takeEvent a t false
    else s.cycReject

/-- The frequency term of an event (R112). -/
def eventFreq (s : State) (e : PhaseEvent) : Nat :=
  let k := min (2 ^ e.avgn) s.cyc.hist.length
  if k = 0 then s.cyc.fLast
  else
    let d := (e.t - s.cyc.hist.getD (k - 1) 0) / 2 ^ 32
    divNearest (s.tickIncr * 2 ^ 16 * k) d

/-- The signed phase error of an event in 2^-48 cycle (R112). -/
def eventError (s : State) (e : PhaseEvent) : Int :=
  signedOf 48 ((e.a + 2 ^ 64 - s.rd CYC_ZCOFS_OFS * 2 ^ 16) % 2 ^ 48)

/-- The event steps the phase (R112, R114). -/
def eventSteps (s : State) (e : PhaseEvent) : Bool :=
  (s.rd CYC_STAT_STATE = cycAcquire && s.cyc.first) || (s.eventError e).natAbs ≥ e.stepThr * 2 ^ 32

/-- The candidate increment of an event (R112). -/
def eventCand (s : State) (e : PhaseEvent) : Int :=
  let f := s.eventFreq e
  if s.eventSteps e then (f : Int) else (f : Int) - divZ (s.eventError e * f) (2 ^ (48 + e.kp) : Nat)

/-- The state that an accepted event leads to, and the count of consecutive events within LOCKTHR (R114). -/
def eventState (s : State) (e : PhaseEvent) : Nat × Nat :=
  let st := s.rd CYC_STAT_STATE
  let near := (s.eventError e).natAbs ≤ e.lockThr * 2 ^ 32
  if st = cycAcquire then
    let n := if near then s.cyc.count + 1 else 0
    if n ≥ e.lockN then (cycLocked, 0) else (cycAcquire, n)
  else if s.eventSteps e then (cycAcquire, 0)
  else (cycLocked, 0)

/-- An accepted event's result is applied (R112 to R114), and the loss timer restarts. The first event after a step that leads from LOCKED or HOLDOVER to ACQUIRE does not step for being the first of ACQUIRE, the phase having just been stepped (DESIGN CHOICE, log entry 64). -/
def acceptEvent (s : State) (e : PhaseEvent) (cand : Nat) : State :=
  let err := s.eventError e
  let step := s.eventSteps e
  let st := s.eventState e
  let f := s.eventFreq e
  let s1 := s.setCycIncr cand
  let s2 := { s1 with cyc := { s1.cyc with
    fLast := f, hist := (e.t :: s1.cyc.hist).take 16, lastEvent := some e.t,
    lastZc := if e.zc then some e.t else s1.cyc.lastZc,
    first := false, count := st.2, busy := s1.cyc.busy.tail,
    acc := if step then codeOf 64 ((s1.cyc.acc : Int) - err) else s1.cyc.acc } }
  let s3 := if step then (s2.wr CYC_STAT_STEPPED 1).wrap CYC_STAT_STEPS else s2
  ((((s3.wr CYC_ERR_ERR (codeOf 32 (divZ err (2 ^ 16 : Nat)))).causeOff 29).setCycState st.1).arm .mains 0).disarm .holdover

/-- The loss timer expires after LOS × 10 ms (R114); an event that is being processed comes first (R115). -/
def mainsLos (s : State) : State :=
  let st := s.rd CYC_STAT_STATE
  if !s.cyc.busy.isEmpty || !s.ran .mains (s.rd CYC_HOLD_LOS * 10000000) then s
  else if st = cycAcquire then
    (({ s with cyc := { s.cyc with hist := [], first := true, count := 0 } }.wr CYC_STAT_LOS 1).causeOn 29 0).arm .mains 0
  else if st = cycLocked then
    let s1 := { s with cyc := { s.cyc with hist := [], count := 0 } }
    ((((s1.setCycIncr s1.cyc.fLast).setCycState cycHoldover).wr CYC_STAT_LOS 1).causeOn 29 0).arm .holdover 0
  else s

/-- HOLDMAX expires, HOLDMAX × 100 ms after entry to HOLDOVER (R114); an event that is being processed comes first (R115). -/
def holdoverExpiry (s : State) : State :=
  if s.rd CYC_STAT_STATE = cycHoldover && s.cyc.busy.isEmpty && s.ran .holdover (s.rd CYC_HOLD_HOLDMAX * 100000000) then
    (((s.setMvalid false).wr CYC_STAT_HOLDEXP 1).causeOn 30 0).disarm .holdover
  else s

/-- The cycle count has advanced past the cycle last announced (R113, R117). -/
def boundaryDue (s : State) : Bool := signedOf 16 ((s.cyc.acc / 2 ^ 48 + 2 ^ 16 - s.cyc.announced) % 2 ^ 16) > 0

/-- A cycle boundary (R117); it counts for an armed MAINS switch whose T has been reached while MVALID = 1 (R240). -/
def mainsBoundary (s : State) : State :=
  if !s.boundaryDue then s
  else
    let c := s.cyc.acc / 2 ^ 48
    let t := s.tmu.tod
    let s1 := (((s.wr CYC_BND_SECLO_SEC_LO t.sec).wr CYC_BND_NS_NS t.ns).wr CYC_BND_FRAC_FRAC t.frac16).wr CYC_BND_FRAC_CYCLE c
    let inst := ((s.rd SHP_PLAN_SECHI_SEC_HI * 2 ^ 32 + s.rd SHP_PLAN_SECLO_SEC_LO) * 1000000000 + s.rd SHP_PLAN_NS_NS) * 2 ^ 32
    let counts := s.on SHP_PLAN_STAT_ARMED && s.shp.mode = 2 && s.on CYC_STAT_MVALID && inst ≤ t.units
    let s2 := { s1 with
      cyc := { s1.cyc with announced := c }, pins := { s1.pins with boundary := wrapAdd 16 s1.pins.boundary 1, boundaryAt := some s.tmu.elapsed },
      shp := { s1.shp with due := s1.shp.due || counts } }
    s2.irq 8 c 0

/-- Processing of the event that came first completes (R112); a boundary that is due was reached with the old increment and is produced first (R115). -/
def processEvent (s : State) : State :=
  match s.cyc.busy with
  | [] => s
  | e :: l =>
    let s1 := s.mainsBoundary
    if cycIncrOk (s1.eventCand e) then s1.acceptEvent e (s1.eventCand e).toNat
    else ({ s1 with cyc := { s1.cyc with busy := l } }).cycReject

/-- A write of CYC_CONV starts the conversion of its angle (R117). -/
def convWrite (s : State) (w : Nat) : State :=
  let s1 := (s.wr CYC_CONV_ANG w).wr CYC_CONV_DONE 0
  { s1 with cyc := { s1.cyc with conv := some (w % 2 ^ 16) } }

/-- The conversion completes (R117): its computation, and so the increments that it uses (R115), belong to the tick of completion, at most 64 ticks after the write (DESIGN CHOICE, log entry 64). -/
def convDone (s : State) : State :=
  match s.cyc.conv with
  | none => s
  | some θ =>
    let n := s.phaseToTime (θ * 2 ^ 32)
    let s1 := ((s.wr CYC_CONV_NS_NS (n / 2 ^ 16)).wr CYC_CONV_FRAC_FRAC n).wr CYC_CONV_DONE 1
    { s1 with cyc := { s1.cyc with conv := none } }

/-- Writes of CYC registers that do more than store their fields. -/
def cycWrite (s : State) (off w : Nat) : Option State :=
  if off = 0xB0000 then some (s.cycCtrlWrite w)
  else if off = 0xB0008 then some (s.cycIncrWrite w)
  else if off = 0xB000C then some (s.cycIncrHiWrite w)
  else if off = 0xB0014 then some (s.cycThrWrite w)
  else if off = 0xB0048 then some (s.svCommit w)
  else if off = 0xB0050 then some (s.convWrite w)
  else none

end State

/-- MAINS_BOUNDARY (R117). -/
def execMainsBoundary (s : State) : Host.Outcome State Fault Refusal := .next s.mainsBoundary

/-- CYC_SRC_WRITE (R108, R114): `w` written to CYC_CTRL. -/
def execCycSrcWrite (w : Word) (s : State) : Host.Outcome State Fault Refusal := .next (s.cycCtrlWrite w.toNat)

/-- CYC_INCR_WRITE (R106, R108): `w` written to CYC_INCR_LO. -/
def execCycIncrWrite (w : Word) (s : State) : Host.Outcome State Fault Refusal := .next (s.cycIncrWrite w.toNat)

/-- MAINS_ZC_EDGE (R109): an edge that has held for FILT is recognised at the present tick; `fall`: a falling edge; `ago`: the elapsed count since its first transition, in 2^-32 ns. -/
def execMainsZcEdge (fall : Bool) (ago : Nat) (s : State) : Host.Outcome State Fault Refusal := .next (s.zcEdge fall ago)

/-- SV_OBSERVATION (R110): `w` written to CYC_SV_CMT. -/
def execSvObservation (w : Word) (s : State) : Host.Outcome State Fault Refusal := .next (s.svCommit w.toNat)

/-- PHASE_EVENT_PROCESS (R112). -/
def execPhaseEventProcess (s : State) : Host.Outcome State Fault Refusal := .next s.processEvent

/-- MAINS_LOS_EXPIRY (R114). -/
def execMainsLosExpiry (s : State) : Host.Outcome State Fault Refusal := .next s.mainsLos

/-- HOLDOVER_EXPIRY (R114). -/
def execHoldoverExpiry (s : State) : Host.Outcome State Fault Refusal := .next s.holdoverExpiry

/-- ANGLE_CONVERSION (R117): `w` written to CYC_CONV. -/
def execAngleConversion (w : Word) (s : State) : Host.Outcome State Fault Refusal := .next (s.convWrite w.toNat)

/-- CONVERSION_DONE (R117). -/
def execConversionDone (s : State) : Host.Outcome State Fault Refusal := .next s.convDone

end Sys2Proof.Machine
end

