-- ==== Sys2Proof/Machine/Manager.lean ====
section
/-! DEFINITION. What management firmware does over tunnel 0 (R67, R72 to R76): opening a bidirectional tunnel, and the station manager's hellos and directory. -/

namespace Sys2Proof.Machine

/-- The protocol of a function by its adapter (R58, R66); the whole management adapter is taken to speak the fabric management service (log entry 20). -/
def protoOf (l : Nat) : Nat :=
  match l / 8 % 16 with
  | 0 => 7
  | 1 => 1
  | 2 => 1
  | 3 => 2
  | 4 => 3
  | 5 => 4
  | 6 => 5
  | 15 => 6
  | _ => 0

/-- The fields of a context that firmware writes before OPEN (R72). -/
structure CtxWords where
  term : Bool
  key : Nat
  dest : Nat
  proto : Nat
  ver : Nat
  cls : Nat
  port : Nat
  tunid : Nat
  partner : Nat
  deriving DecidableEq, Repr

namespace State

/-- The management firmware runs: started by the ROM (R433), and its processor not stopped (R74, R431, R502). -/
def mgmtRuns (s : State) : Bool :=
  s.boot.running && !s.on GEN_RSTCAUSE_MGMTSTOP && !s.boot.dead && s.rd PWR_STAT_STATE ≤ 1 &&
  !(s.on FLT_STAT_ELYTRA && (s.rd FLT_STAT_ESLOT == 2 || s.rd FLT_STAT_ESLOT == 3))

/-- The trunk that a packet for `dest` leaves on at present (R59, R60); none: it stays here, or has no route. -/
def trunkOf (s : State) (dest : Nat) : Option Nat :=
  match s.routeIndex dest with
  | none => none
  | some v =>
    let R := (routeOf v).1
    let i := (routeOf v).2
    if !s.on R.valid i then none
    else some (if s.rd R.mode i ≠ 0 && s.on R.steer i then s.rd R.alt i else s.rd R.pri i)

/-- Tunnels between this hub and `dest` pass a TRK0 in KL2 (R67). -/
def viaKl2 (s : State) (dest : Nat) : Bool := s.kl2Active && s.trunkOf dest == some 0

/-- The highest version that this hub offers for a tunnel with `dest` (R66, R67): 1 through a TRK0 in KL2. -/
def topVersion (s : State) (dest proto : Nat) : Nat := if s.viaKl2 dest then min 1 (maxVersion proto) else maxVersion proto

/-- The words of slot `n` written (R29, R72). -/
def putCtx (s : State) (n : Nat) (c : CtxWords) : State :=
  let s1 := ((s.wr CTX0_KEYSRC c.key n).wr CTX1_DEST c.dest n).wr CTX2_DIR (bit c.term) n
  let s2 := (((s1.wr CTX2_PROTO c.proto n).wr CTX2_VER c.ver n).wr CTX2_CLASS c.cls n).wr CTX2_PORT c.port n
  (((s2.wr CTX2_TUNID c.tunid n).wr CTX3_PARTNER c.partner n).wr CTX6_MCAST_CNT 0 n).wr CTX6_MCAST_BASE 0 n

/-- A management message whose bytes the spec does not state is sent on tunnel 0 (R72): length and bytes are free values (log entry 21). -/
def sendFree (s : State) (dest : Nat) : State :=
  let (n, s1) := s.free 13
  let (b, s2) := s1.free (8 * n)
  s2.sendTunnel0 dest (beBytes n b)

/-- The origin's open request for slot `n` (R72): it carries the slot, the protocol and the highest version, and goes to the destination hub on tunnel 0. -/
def openSend (s : State) (n : Nat) : State :=
  let dest := s.rd CTX1_DEST n
  let proto := s.rd CTX2_PROTO n
  let s1 := { s with fab := { s.fab with requests := (dest, n, proto, s.topVersion dest proto) :: s.fab.requests } }
  s1.sendFree (prefixOf dest * 128)

/-- Slot `n` is the origin of a tunnel whose protocol needs a return path and has none yet (R63: display, USB proxy, block and memory). -/
def wantsReturn (s : State) (n : Nat) : Bool :=
  !s.on CTX2_DIR n && [1, 2, 3, 5].contains (s.rd CTX2_PROTO n) && s.rd CTX3_PARTNER n = 0 && s.rd CTX6_MCAST_CNT n = 0

/-- The command in progress completes (R70); after an OPEN of an origin that needs a return path, firmware sends the open request (R72, log entry 63). -/
def ctxDone (s : State) : State :=
  s.ctxComplete.when (s.on FAB_CTXSTAT_BUSY && s.fab.cmdOpen && s.mgmtRuns && s.wantsReturn s.fab.cmdSlot) (·.openSend s.fab.cmdSlot)

/-- Firmware opens slot `n` with these words and waits for the command to complete (R70, R72); none where the command is refused. -/
def fwOpen (s : State) (n : Nat) (c : CtxWords) : Option State :=
  let s1 := s.ctxDone.putCtx n c
  let r := s1.ctxJudge 1 n
  if r.2 = .ok then some ((r.1.wr FAB_CTXSTAT_CODE CtxCode.ok.code).wr FAB_CTXSTAT_LASTSLOT n) else none

/-- Firmware activates slot `n` and waits for completion (R69, R70). -/
def fwActivate (s : State) (n : Nat) : State :=
  let r := (s.ctxDone).ctxJudge 2 n
  (r.1.wr FAB_CTXSTAT_CODE r.2.code).wr FAB_CTXSTAT_LASTSLOT n

/-- The lowest FREE slot but `m` (which one is the model's choice, log entry 63). -/
def freeSlot (s : State) (m : Nat) : Option Nat := slots.find? (fun n => n != m && s.rd CTX3_STATE n == ctxFree)

/-- The lowest FREE slot but `m` for an origin towards `dest`: its ID is 1–31 through a TRK0 in KL2 (R67). -/
def freeOrigin (s : State) (m dest : Nat) : Option Nat :=
  match s.freeSlot m with
  | some u => if s.viaKl2 dest && u > 31 then none else some u
  | none => none

/-- An open request from origin endpoint `origin`, slot `o` (R72): the terminus slot and the return slot are opened and bound, and the answer sent; a request that cannot be served is not answered. The pseudocode activates the terminus slot; that the return slot, whose tunnel is usable from then on, is activated with it is the model's choice (DESIGN CHOICE, log entry 63). -/
def openRequest (s : State) (origin o l proto ver cls port : Nat) : State :=
  let v := min ver (s.topVersion origin proto)
  match if s.mgmtRuns then s.freeSlot 0 else none with
  | none => s
  | some t =>
    match s.freeOrigin t origin with
    | none => s
    | some u =>
      let local_ := s.selfPrefix * 128 + l
      match s.fwOpen t ⟨true, origin, local_, proto, v, cls, port, o, u⟩ with
      | none => s
      | some s1 =>
        match s1.fwOpen u ⟨false, local_, origin, proto, v, cls, 0, 0, t⟩ with
        | none => s
        | some s2 =>
          let s3 := (s2.fwActivate t).fwActivate u
          let s4 := { s3 with fab := { s3.fab with answers := (origin, o, u, v) :: s3.fab.answers } }
          s4.sendFree (prefixOf origin * 128)

/-- The open answer arrives at the origin's slot `o` (R67, R72): the terminus slot of the return tunnel `u` becomes PARTNER; the agreed version, at most 1 through a TRK0 in KL2, is written and the slot activated. The pseudocode does not say who opens that terminus slot: where it is not there yet, the origin's firmware opens and activates it, and with no free slot or a refused OPEN the tunnel is activated with PARTNER 0 (DESIGN CHOICE, log entry 63). -/
def openAnswer (s : State) (o u ver port : Nat) : State :=
  if s.rd CTX3_STATE o ≠ ctxOpening || s.on CTX2_DIR o || !s.mgmtRuns then s
  else
    let far := s.rd CTX1_DEST o
    let ver := min ver (s.topVersion far (s.rd CTX2_PROTO o))
    let local_ := s.selfPrefix * 128 + s.rd CTX0_KEYSRC o % 128
    let bind (s : State) (t : Nat) : State :=
      ((s.wr CTX3_PARTNER t o).wr CTX2_VER ver o).fwActivate o
    match s.terminusOf far u with
    | some t => bind s t
    | none =>
      match s.freeSlot o with
      | none => bind s 0
      | some t =>
        match s.fwOpen t ⟨true, far, local_, s.rd CTX2_PROTO o, ver, s.rd CTX2_CLASS o, port, u, o⟩ with
        | none => bind s 0
        | some s1 => bind (s1.fwActivate t) t

/-! Hellos (R74 to R76). -/

/-- Some OPEN context has the local part `l` (R74). -/
def localOpen (s : State) (l : Nat) : Bool :=
  slots.any (fun n => s.rd CTX3_STATE n == ctxOpen &&
    (if s.on CTX2_DIR n then s.rd CTX1_DEST n else s.rd CTX0_KEYSRC n) % 128 == l)

/-- The function presence bytes (R74): `ready` bit l: function l is ready to accept a context. -/
def presence (s : State) (ready : Nat) : List Byte :=
  (List.range 16).map (fun a => BitVec.ofNat 8 ((List.range 8).foldl (fun x f =>
    x + bit (functionExists (8 * a + f) && (ready.testBit (8 * a + f) || s.localOpen (8 * a + f))) * 2 ^ f) 0))

/-- The device identity (R402). -/
def devId (s : State) : Nat := s.fuse 0 + s.fuse 1 * 2 ^ 32

/-- The 36 bytes of a hello (R74). -/
def helloBytes (s : State) (ready : Nat) : List Byte :=
  [1] ++ beBytes 1 s.fab.helloSeq ++ beBytes 2 (s.rd FAB_REGION_TAG) ++ beBytes 1 (s.rd FAB_ROLE_SM) ++ [0, 0, 0] ++
  beBytes 8 s.devId ++ s.presence ready ++ beBytes 4 ownVersions

/-- FAB_ROLE.HELLO_INT in ns. -/
def helloInt (s : State) : Nat := s.rd FAB_ROLE_HELLO_INT * 100000000

/-- A hello is sent to the station manager's management function (R74), HELLO_INT after the one before. -/
def helloSend (s : State) (sm ready : Nat) : State :=
  if !s.mgmtRuns || (s.armed .hello && !s.due .hello) then s
  else
    let s1 := (s.sendTunnel0 sm (s.helloBytes ready)).arm .hello s.helloInt
    { s1 with fab := { s1.fab with helloSeq := wrapAdd 8 s1.fab.helloSeq 1 } }

/-- The address of the directory entry of an endpoint (R75). -/
def dirAddr (s : State) (a : Nat) : Nat :=
  s.rd FAB_DIRBASE_HI_ADDR * 2 ^ 32 + s.rd FAB_DIRBASE_LO_ADDR +
    8 * (((ringOf a * 16 + chainOf a) * 15 + (hubOf a - 1)) * 128 + a % 128)

/-- The directory entry of function `l` after a hello of its hub (R75, R76). -/
def dirEntry (s : State) (conflict present : Bool) (l vers : Nat) : List Byte :=
  if !present then List.replicate 8 0
  else
    let p := protoOf l
    beBytes 1 (if conflict then 3 else 1) ++ beBytes 1 (bitsOf vers (31 - 4 * p) (28 - 4 * p) * 16 + p) ++ [0, 0] ++
      leBytes 4 s.tmu.tod.sec

/-- The station manager takes a hello from address `src` (R75, R76). In a conflict every function that either hub listed is marked (log entry 63). -/
def helloReceive (s : State) (src : Nat) (b : List Byte) : State :=
  let f (o n : Nat) : Nat := ofBe ((b.drop o).take n)
  let pfx := prefixOf src
  if !s.on FAB_ROLE_SM || !s.mgmtRuns || b.length ≠ 36 || f 0 1 ≠ 1 || !addrValid src || stationOf src ≠ s.rd FAB_SELF_STATION then s
  else
    let id := f 8 8
    let known := Tab.get s.fab.heardId pfx none
    let conflict := match known with
      | none => false
      | some x => x != id
    let s1 := s.each (List.range 128) (fun s l =>
      let a := s.dirAddr (pfx * 128 + l)
      let was := (Memory.byte s.dram a).toNat % 4 != 0
      s.dramWrite a (s.dirEntry conflict ((f (16 + l / 8) 1).testBit (l % 8) || (conflict && was)) l (f 32 4)))
    let s2 := { (s1.arm (.silence pfx) s.helloInt) with fab := { s1.fab with heardId := Tab.put s1.fab.heardId pfx (some id) none } }
    if (f 4 1).testBit 0 && s.selfPrefix > pfx then s2.wr FAB_ROLE_SM 0 else s2

/-- An interval has passed without a hello from the hub of prefix `pfx`, a hub of this station (R75, R76): MISSED of each of its entries advances, saturating at 255, and an entry is lost once it has reached LOSS. -/
def helloLoss (s : State) (pfx : Nat) : State :=
  if !s.on FAB_ROLE_SM || !s.mgmtRuns || !s.due (.silence pfx) || !addrValid (pfx * 128) ||
      stationOf (pfx * 128) ≠ s.rd FAB_SELF_STATION then s
  else
    (s.each (List.range 128) (fun s l =>
      let a := s.dirAddr (pfx * 128 + l)
      let st := (Memory.byte s.dram a).toNat % 4
      let missed := satAdd 8 (Memory.byte s.dram (a + 2)).toNat 1
      if st = 0 then s
      else s.dramWrite a (beBytes 1 (if missed ≥ s.rd FAB_ROLE_LOSS then 2 else st) ++ [Memory.byte s.dram (a + 1)] ++ beBytes 1 missed))).arm
      (.silence pfx) s.helloInt

end State

/-- CTXCMD_COMPLETE (R70, R72). -/
def execCtxcmdComplete (s : State) : Host.Outcome State Fault Refusal := .next s.ctxDone

/-- TUNNEL_OPEN_REQUEST (R72): origin endpoint, its slot, the local part of the destination, protocol, highest version of the origin, class, and the switch port that serves the terminus. -/
def execTunnelOpenRequest (origin : BitVec 25) (o : Fin 253) (l : Fin 128) (proto ver : Fin 16) (cls : Fin 8) (port : Fin 32)
    (s : State) : Host.Outcome State Fault Refusal :=
  .next (s.openRequest origin.toNat o l proto ver cls port)

/-- TUNNEL_OPEN_ANSWER (R67, R72): the origin slot, the far hub's return slot, the agreed version, and the switch port that serves the return tunnel. -/
def execTunnelOpenAnswer (o u : Fin 253) (ver : Fin 16) (port : Fin 32) (s : State) : Host.Outcome State Fault Refusal :=
  .next (s.openAnswer o u ver port)

/-- HELLO_SEND (R74) to the station manager's management function; `ready`: the functions ready to accept a context. -/
def execHelloSend (sm : BitVec 25) (ready : BitVec 128) (s : State) : Host.Outcome State Fault Refusal :=
  .next (s.helloSend sm.toNat ready.toNat)

/-- HELLO_RECEIVE (R76): a hello payload from a source address. -/
def execHelloReceive (src : BitVec 25) (bytes : List Byte) (s : State) : Host.Outcome State Fault Refusal :=
  .next (s.helloReceive src.toNat bytes)

/-- HELLO_LOSS (R76): one more hello interval of a hub prefix has passed without a hello. -/
def execHelloLoss (pfx : BitVec 18) (s : State) : Host.Outcome State Fault Refusal := .next (s.helloLoss pfx.toNat)

end Sys2Proof.Machine
end

