-- ==== Sys2Proof/Machine/Sampled.lean ====
section
/-! DEFINITION. The sample that the phase service finds in a sampled-value frame (R257). The spec names the frame's fields and not their encoding, which is that of IEC 61850-9-2 (PRESUMED, log entry 68). -/

namespace Sys2Proof.Machine

/-- The content of the first element of a list of BER elements, and the elements after it: tag, content, rest. -/
def berHead : List Byte → Option (Nat × List Byte × List Byte)
  | t :: l :: r =>
    if l.toNat < 0x80 then (if r.length < l.toNat then none else some (t.toNat, r.take l.toNat, r.drop l.toNat))
    else
      let k := l.toNat - 0x80
      let n := ofBe (r.take k)
      if k = 0 || r.length < k + n then none else some (t.toNat, (r.drop k).take n, r.drop (k + n))
  | _ => none

/-- The contents of the elements with a tag, of at most `n` elements. -/
def berAll (tag : Nat) : Nat → List Byte → List (List Byte)
  | 0, _ => []
  | n + 1, b =>
    match berHead b with
    | none => []
    | some (t, v, r) => if t = tag then v :: berAll tag n r else berAll tag n r

/-- The content of the first element with a tag, empty where there is none. -/
def berOne (tag : Nat) (b : List Byte) : List Byte := ((berAll tag 16 b).head?).getD []

/-- The sample of channel `ch` in ASDU `i` of a frame (R257): four value bytes and four quality bytes, of whose two lowest bits 01 says invalid. -/
def svSample (f : List Byte) (i ch : Nat) : Option SvSample :=
  let l := if ofBe ((f.drop 12).take 2) = 0x8100 then 16 else 12
  let asdus := berAll 0x30 8 (berOne 0xA2 (berOne 0x60 (f.drop (l + 10))))
  match asdus[i]? with
  | none => none
  | some a =>
    let v := (berOne 0x87 a).drop (8 * ch)
    let c := berOne 0x82 a
    if v.length < 8 || c.length ≠ 2 then none
    else some { count := ofBe c, step := asdus.length, value := ofBe (v.take 4), good := ofBe ((v.drop 4).take 4) % 4 != 1 }

/-- Each sample follows the one before it: its count is that one's plus the ASDUs of a frame, or begins again with the second. -/
def svFollows : List SvSample → Bool
  | a :: b :: l => (b.count == a.count + a.step || b.count < a.step) && svFollows (b :: l)
  | _ => true

/-- The samples of a cycle of `n` have all come, and every one is valid (R257). -/
def svWhole (n : Nat) (l : List SvSample) : Bool :=
  l.foldl (fun a x => a + x.step) 0 == n && l.all (·.good) && svFollows l

end Sys2Proof.Machine
end

