-- ==== Sys2Proof/Machine/Engines.lean ====
section
/-! DEFINITION. Tunnel engines, the service table and the scratchpad banks (spec/10_tunnel_engines.md), but for what each service does inside its protocol. -/

namespace Sys2Proof.Machine

/-- Codes of a failed bind (R252). -/
inductive BindCode where
  | cluster | proto | dupSlot | noSlot | param | noCap | engOff
  deriving DecidableEq, Repr

/-- The numbers of the codes. -/
def BindCode.code : BindCode → Nat
  | .cluster => 1 | .proto => 2 | .dupSlot => 3 | .noSlot => 4 | .param => 5 | .noCap => 6 | .engOff => 7

/-- The protocol of a service type's slots (R251). -/
def typeProto (ty : Nat) : Nat := ty

/-- A type needs a terminus slot; an origin slot (R251). -/
def needsRx (ty : Nat) : Bool := ty == tyDisplay || ty == tyUsb || ty == tyBlock || ty == tyMemory
def needsTx (ty : Nat) : Bool := ty == tyUsb || ty == tyBlock || ty == tyMemory || ty == tyEvent

/-- A type needs at least one of the two. -/
def needsOne (ty : Nat) : Bool := ty == tySerial || ty == tyFabric

/-- Ten seconds in 2^-32 ns. -/
def tenSeconds : Nat := 10000000000 * 2 ^ 32

namespace State

/-- A counter of TEN_CNT advances. -/
def tenCount (s : State) (i : Nat) : State := s.sat TEN_CNT_COUNT i

/-- Master `m` holds bank `b` as owner or sharer (R259). -/
def holdsBank (s : State) (m b : Nat) : Bool := s.rd BNK_OWN_OWNER b == m || s.bitAt BNK_OWN_SHARE m b

/-! Mailboxes (R255). -/

/-- A word of MBXm's response area of engine `n`. -/
def setRsp (s : State) (n m k v : Nat) : State := if m = 0 then s.wr ENG_RSP0_W v n k else s.wr ENG_RSP1_W v n k

/-- A request word of MBXm of engine `n`. -/
def reqWord (s : State) (n m k : Nat) : Nat := if m = 0 then s.rd ENG_REQ0_W n k else s.rd ENG_REQ1_W n k

/-- A write is refused by a mailbox and counted in MBXREJ. -/
def mbxReject (s : State) : State := s.tenCount 3

/-- GO is written with OPCODE and SVC in place (R255): a request begins, or is ignored while one is outstanding. -/
def mbxGo (s : State) (n m : Nat) : State :=
  if s.on ENG_MBX_BUSY n m then s.mbxReject
  else if s.rd ENG_STAT_STATE n ≠ engRun then s.mbxEnd n m .halted
  else
    let r := (s.rd ENG_MBX_OPCODE n m, s.rd ENG_MBX_SVC n m)
    ({ (s.wr ENG_MBX_BUSY 1 n m) with ten := { s.ten with req := Tab.put s.ten.req (2 * n + m) r (0, 0) } }).arm (.mailbox n m)
      (s.rd ENG_CTRL_MBXTO n * 1000000)

/-- A request with an opcode for entry `e` is submitted to MBXm of engine `n`. -/
def mbxSubmit (s : State) (n m op e : Nat) : State := ((s.wr ENG_MBX_OPCODE op n m).wr ENG_MBX_SVC e n m).mbxGo n m

/-- A write of a mailbox's control register: only GO is barred while a request is outstanding. -/
def mbxCtrlWrite (s : State) (n m w : Nat) : State :=
  (s.writeFields false [ENG_MBX_DONE, ENG_MBX_OPCODE, ENG_MBX_SVC] n m w).when (w.testBit 31) (·.mbxGo n m)

/-- MBXTO expires (R255): the engine's response will be late. -/
def mbxTimeout (s : State) (n m : Nat) : State :=
  if !s.on ENG_MBX_BUSY n m || !s.due (.mailbox n m) then s
  else
    let k := 2 * n + m
    let s1 := s.mbxEnd n m .timeout
    { s1 with ten := { s1.ten with late := Tab.put s1.ten.late k (Tab.get s1.ten.late k 0 + 1) 0 } }

/-- A late response of a mailbox is discarded and counted. -/
def mbxLate (s : State) (n m : Nat) : State :=
  let k := 2 * n + m
  { (s.tenCount 2) with ten := { s.ten with late := Tab.put s.ten.late k (Tab.get s.ten.late k 0 - 1) 0 } }

/-! Engine states (R247 to R250). -/

/-- An engine halts with a cause and its fault (R247, R248); 100 µs later it may restart (R249). -/
def haltEngine (s : State) (n : Nat) (c : EngCause) : State :=
  (((s.stopEngine n engHalted).arm (.engineHalt n) 100000).wr ENG_STAT_CAUSE c.code n).causeOn (83 + n) c.code

/-- EN of engine `n` goes to 1 (R247, R249, R250). -/
def enableEngine (s : State) (n : Nat) : State :=
  let s1 := s.wr ENG_STAT_RESTARTS 0 n
  if s1.restricted then s1.pauseEngine n else s1.startEngine n

/-- EN of engine `n` goes to 0 (R247). -/
def disableEngine (s : State) (n : Nat) : State := (s.stopEngine n engOff).causeOff (83 + n)

/-- A write of ENG_CTRL. -/
def engCtrlWrite (s : State) (n w : Nat) : State :=
  let s1 := s.writeReg (0x1C1000 + 0x100 * n) w
  if s.on ENG_CTRL_EN n = s1.on ENG_CTRL_EN n then s1.offStart n
  else if s1.on ENG_CTRL_EN n then s1.enableEngine n else s1.disableEngine n

/-- The entry whose service holds a timer; none: the timer is hardware's (R52). -/
def timerEntry (s : State) : Timer → Option Nat
  | .xfer n _ | .periodic n _ _ | .portcmd n => (List.range 128).find? (fun e =>
      s.on TEN_SVC0_EN e && s.rd TEN_SVC0_TYPE e == tyUsb && s.param e 1 1 == n)
  | .block e _ | .blockData e _ | .quarantine e _ | .serialHold e | .memory e | .memHold e | .memAck e | .dispAck e => some e
  | _ => none

/-- The timers of the services of engine `n` have stood still while it did not run (R52). -/
def shiftTimers (s : State) (n : Nat) : State :=
  let d := s.tmu.elapsed - Tab.get s.ten.stopAt n 0
  { s with timers := s.timers.map (fun x =>
      match s.timerEntry x.1 with
      | some e => if s.svcEngine e = n then (x.1, x.2 + d) else x
      | none => x) }

/-- The engine reads a word of its parameter bank (R259): 0 where it has no right, which is recorded. -/
def blockWord (s : State) (e k : Nat) : State × List Byte :=
  let n := s.svcEngine e
  let b := s.rd TEN_SVC2_PBANK e
  let a := s.rd TEN_SVC2_POFS e + 8 * k
  if a ≥ 0x10000 then (s, [])
  else if s.holdsBank n b then (s, s.padBytes (b * 0x10000 + a) 8)
  else ((s.wr BNK_MSTAT_DENY 1 n).sat BNK_MSTAT_DENYCNT n, List.replicate 8 0)

/-- The engine of entry `e` reads the first 16 bytes of the entry's parameter block (R252, R259). -/
def readBlock (s : State) (e : Nat) : State :=
  let a := s.blockWord e 0
  let b := a.1.blockWord e 1
  { b.1 with ten := { b.1.ten with block := Tab.put b.1.ten.block e (a.2 ++ b.2) [] } }

/-- Entry `e` resumes (R249): ACTIVE where its parameter block had been accepted; otherwise the engine has the block still to read. -/
def resumeEntry (s : State) (e : Nat) : State :=
  if Tab.get s.ten.taken e false then (s.readBlock e).wr TEN_SVC0_STATE svcActive e else s.wr TEN_SVC0_STATE svcBound e

/-- Firmware reports ready (R247, R249): the engine's halted entries resume, and its watchdog runs from now on. -/
def engineReady (s : State) (n : Nat) : State :=
  if s.rd ENG_STAT_STATE n = engStart then
    let s1 := (((s.disarm (.engineStart n)).wr ENG_STAT_STATE engRun n).shiftTimers n)
    let s2 := { s1 with ten := { s1.ten with kick := Tab.put s1.ten.kick n s1.tmu.elapsed 0 } }
    s2.each (List.range 128) (fun s e =>
      if s.on TEN_SVC0_EN e && s.svcEngine e == n && s.rd TEN_SVC0_STATE e == svcHalted then s.resumeEntry e else s)
  else s

/-- A halt for a cause that only a running engine has. -/
def haltRunning (s : State) (n : Nat) (c : EngCause) : State :=
  if s.rd ENG_STAT_STATE n = engRun then s.haltEngine n c else s

/-- The watchdog of engine `n` has run for WDT × 100 µs since it was kicked (R248). -/
def wdtOut (s : State) (n : Nat) : Bool :=
  s.tmu.elapsed ≥ Tab.get s.ten.kick n 0 + s.rd ENG_CTRL_WDT n * 100000 * 2 ^ 32

/-- 100 µs after a halt, an engine restarts within the limit of four in 10 s, or stays halted until EN goes to 0 and back (R249). -/
def restartEngine (s : State) (n : Nat) : State :=
  let recent := (Tab.get s.ten.restarts n []).filter (fun t => s.tmu.elapsed < t + tenSeconds)
  if s.rd ENG_STAT_STATE n ≠ engHalted || !s.due (.engineHalt n) || s.restricted then s
  else if !s.on ENG_CTRL_RESTART n || recent.length ≥ 4 then s.disarm (.engineHalt n)
  else
    let s1 := (s.disarm (.engineHalt n)).startEngine n
    if s1.rd ENG_STAT_STATE n = engStart then
      let s2 := s1.sat ENG_STAT_RESTARTS n
      { s2 with ten := { s2.ten with restarts := Tab.put s2.ten.restarts n (s.tmu.elapsed :: recent) [] } }
    else s1

/-- Firmware kicks the watchdog of engine `n` (R248). -/
def kickEngine (s : State) (n : Nat) : State :=
  { s with ten := { s.ten with kick := Tab.put s.ten.kick n s.tmu.elapsed 0 } }

/-- The engines on exit from a halted state (R250): those halted on entry, or enabled since, go to START with EN = 1; no restart is charged. -/
def resumeEngines (s : State) : State :=
  s.each (List.range 16) (fun s n => if Tab.get s.ten.paused n false && s.on ENG_CTRL_EN n then s.startEngine n else s)

/-! The service table (R251 to R254). -/

/-- A named slot is a context of the given side. -/
def slotIs (s : State) (n : Nat) (term : Bool) : Bool :=
  1 ≤ n && n ≤ 252 && s.rd CTX3_STATE n != ctxFree && s.on CTX2_DIR n == term

/-- Every slot that a type needs is there, and every slot named is of its side (R252). -/
def slotsOk (s : State) (ty r x : Nat) : Bool :=
  (!needsRx ty || r != 0) && (!needsTx ty || x != 0) && (!needsOne ty || r != 0 || x != 0) &&
  (r == 0 || s.slotIs r true) && (x == 0 || s.slotIs x false)

/-- The slots of an entry lie in its engine's cluster (R252). -/
def clusterOk (s : State) (n r x : Nat) : Bool :=
  let k := 12 + n / 4
  let p := s.rd CTX3_PARTNER x
  (r == 0 || s.rd CTX2_PORT r == k) &&
  (x == 0 || p == 0 || !s.slotIs p true || s.rd CTX2_PORT p < 12 || s.rd CTX2_PORT p > 15 || s.rd CTX2_PORT p == k)

/-- Another enabled entry names one of the slots, or is a second phase service (R252). -/
def slotTaken (s : State) (e ty r x : Nat) : Bool :=
  (List.range 128).any (fun i => i != e && s.on TEN_SVC0_EN i &&
    ((r != 0 && s.rd TEN_SVC1_RXSLOT i == r) || (x != 0 && s.rd TEN_SVC1_TXSLOT i == x) ||
     (ty == tyPhase && s.rd TEN_SVC0_TYPE i == tyPhase)))

/-- The first check that entry `e` fails, in the order of R252. -/
def bindFailure (s : State) (e : Nat) : Option BindCode :=
  let n := s.svcEngine e
  let ty := s.rd TEN_SVC0_TYPE e
  let r := s.rd TEN_SVC1_RXSLOT e
  let x := s.rd TEN_SVC1_TXSLOT e
  let st := s.rd ENG_STAT_STATE n
  let ofs := s.rd TEN_SVC2_POFS e
  let len := s.rd TEN_SVC3_PLEN e
  if st ≠ engStart && st ≠ engRun then some .engOff
  else if !s.slotsOk ty r x then some .noSlot
  else if (r ≠ 0 && s.rd CTX2_PROTO r ≠ typeProto ty) || (x ≠ 0 && s.rd CTX2_PROTO x ≠ typeProto ty) then some .proto
  else if !s.clusterOk n r x then some .cluster
  else if s.slotTaken e ty r x then some .dupSlot
  else if !s.holdsBank n (s.rd TEN_SVC2_PBANK e) || ofs % 8 ≠ 0 || ofs + len > 65536 || (ty = tyFabric && len ≠ 0) then some .param
  else if !s.bitAt TEN_IMG_INFO_CAP ty (Tab.get s.ten.img n 0) then some .noCap
  else none

/-- A write to the service table is ignored (R252). -/
def svcReject (s : State) : State := s.wr TEN_STAT_SVCREJ 1

/-- Counts of an entry that starts afresh; its parameter block is still to be read. -/
def clearEntry (s : State) (e : Nat) : State :=
  let s1 := s.loseEdges e
  { s1 with ten := { s1.ten with
    rx := Tab.put s1.ten.rx e 0 0, tx := Tab.put s1.ten.tx e 0 0, err := Tab.put s1.ten.err e 0 0,
    taken := Tab.put s1.ten.taken e false false, block := Tab.put s1.ten.block e [] [] } }

/-- Word 0 is written with EN = 1 while the entry is not enabled (R252). -/
def bindEntry (s : State) (e w : Nat) : State :=
  if s.on TEN_SVC0_EN e then s.svcReject
  else
    let s1 := s.writeFields false [TEN_SVC0_TYPE, TEN_SVC0_ENGINE] e 0 w
    match s1.bindFailure e with
    | some c => (s1.wr TEN_SVC0_STATE svcError e).wr TEN_SVC0_CODE c.code e
    | none => (((s1.wr TEN_SVC0_EN 1 e).wr TEN_SVC0_STATE svcBound e).wr TEN_SVC0_CODE 0 e).clearEntry e

/-- EN = 0 is written (R254): the entry's inbound packets are discarded and counted in NOSVC. -/
def unbindEntry (s : State) (e w : Nat) : State :=
  let n := s.svcEngine e
  let gone := if s.on TEN_SVC0_EN e then (s.inbox n).filter (fun x => x.1 == e) else []
  let s1 := s.each gone (fun s _ => s.tenCount 0)
  let keep := (s1.inbox n).filter (fun x => x.1 != e || !s.on TEN_SVC0_EN e)
  let s2 := (({ s1 with ten := { s1.ten with inbox := Tab.put s1.ten.inbox n keep [], cur := Tab.put s1.ten.cur e [] [] } }).loseEdges e).loseBlock e
  ((s2.wr TEN_SVC0_EN 0 e).wr TEN_SVC0_STATE svcIdle e).writeFields false [TEN_SVC0_TYPE, TEN_SVC0_ENGINE] e 0 w

/-- A write of word `k` of entry `e`. -/
def svcWordWrite (s : State) (e k w : Nat) : State :=
  if k = 0 then (if w.testBit 31 then s.bindEntry e w else s.unbindEntry e w)
  else if s.on TEN_SVC0_EN e then s.svcReject
  else s.writeReg (0x1C4000 + 0x10 * e + 4 * k) w

/-! Packets of the clusters (R253). -/

/-- A packet joins the inbound buffer of its engine. -/
def deliverEngine (s : State) (e : Nat) (p : Packet) : State :=
  let n := s.svcEngine e
  { s with ten := { s.ten with
    inbox := Tab.put s.ten.inbox n (s.inbox n ++ [(e, p)]) [],
    rx := Tab.put s.ten.rx e ((Tab.get s.ten.rx e 0 + 1) % 2 ^ 64) 0 } }

/-- The oldest inbound packet of entry `e` leaves its engine's buffer. -/
def takeInbound (s : State) (e : Nat) : State × Option Packet :=
  let n := s.svcEngine e
  match (s.inbox n).find? (fun x => x.1 == e) with
  | none => (s, none)
  | some x => ({ s with ten := { s.ten with inbox := Tab.put s.ten.inbox n ((s.inbox n).erase x) [] } }, some x.2)

/-- The phase service takes the sample of a frame (R257). -/
def phaseTake (s : State) (e : Nat) (f : List Byte) : State :=
  match svSample f (s.param e 3 1) (s.param e 4 1) with
  | none => s
  | some x => { s with ten := { s.ten with samples := Tab.put s.ten.samples e (Tab.get s.ten.samples e [] ++ [x]) [] } }

/-- The engine's firmware takes at once what it needs nothing else for: the samples of the phase service (R257), and the messages of a fabric management service, whose effects are those of the same messages on tunnel 0 (R251, log entry 67). -/
def takeAtOnce (s : State) (e : Nat) : State :=
  let ty := s.rd TEN_SVC0_TYPE e
  if ty ≠ tyPhase && ty ≠ tyFabric then s
  else
    match s.takeInbound e with
    | (s1, some p) => if ty = tyPhase then s1.phaseTake e p.payload else s1.helloReceive p.src p.payload
    | (s1, none) => s1

/-- The cluster hands the packet that its port has read to an engine, or discards it (R248, R253). An entry whose QUIESCE is being served takes only what its work in flight waits for (log entry 67). -/
def dispatch (s : State) (k : Nat) : State :=
  match s.sending (12 + k) with
  | none => s
  | some c =>
    let s1 := s.completeSend (12 + k)
    match s.copyEntry c with
    | none => s1.tenCount 0
    | some e =>
      let st := s.rd TEN_SVC0_STATE e
      if st = svcHalted || (st = svcActive && s.rd ENG_STAT_STATE (s.svcEngine e) ≠ engRun) then s1.tenCount 1
      else if !s.takesPacket e c.hdr.payload then s1.tenCount 0
      else if (s.inbox (s.svcEngine e)).length ≥ 16 then s
      else (s1.deliverEngine e c.hdr).takeAtOnce e

/-- A protocol error of an entry is counted (R255, STATS: saturating at 32 bits). -/
def svcErr (s : State) (e : Nat) : State :=
  { s with ten := { s.ten with err := Tab.put s.ten.err e (satAdd 32 (Tab.get s.ten.err e 0) 1) 0 } }

/-- The origin slot in which entry `e` sends: TXSLOT, or for a display the slot that PARTNER of its terminus slot names (R253, R287). -/
def sendSlot (s : State) (e : Nat) : Nat :=
  if s.rd TEN_SVC0_TYPE e = tyDisplay then s.rd CTX3_PARTNER (s.rd TEN_SVC1_RXSLOT e) else s.rd TEN_SVC1_TXSLOT e

/-- A payload of entry `e` enters the cluster port in its origin slot (R253). -/
def sendNow (s : State) (e : Nat) (payload : List Byte) : State :=
  let x := s.sendSlot e
  let s1 := (s.originSend x (s.internalCopy (12 + s.svcEngine e / 4) (s.rd CTX2_CLASS x) payload) none).1
  { s1 with ten := { s1.ten with tx := Tab.put s1.ten.tx e ((Tab.get s1.ten.tx e 0 + 1) % 2 ^ 64) 0 } }

/-- The payloads of a list go out while the port holds no packet; those left over. -/
def sendAll (s : State) (p : Nat) : List (Nat × List Byte) → State × List (Nat × List Byte)
  | [] => (s, [])
  | x :: l => if s.portHeld p then (s, x :: l) else (s.sendNow x.1 x.2).sendAll p l

/-- Cluster `k` sends what its engines have ready (R200, R227, R253). -/
def flushCluster (s : State) (k : Nat) : State :=
  let r := ({ s with ten := { s.ten with outbox := Tab.put s.ten.outbox k [] [] } }).sendAll (12 + k) (Tab.get s.ten.outbox k [])
  { r.1 with ten := { r.1.ten with outbox := Tab.put r.1.ten.outbox k r.2 [] } }

/-- The engine of entry `e` sends a payload, after those that already wait (R253). -/
def engineSend (s : State) (e : Nat) (payload : List Byte) : State :=
  if !s.svcRuns e || s.sendSlot e = 0 then s
  else
    let k := s.svcEngine e / 4
    ({ s with ten := { s.ten with outbox := Tab.put s.ten.outbox k (Tab.get s.ten.outbox k [] ++ [(e, payload)]) [] } }).flushCluster k

/-! Messages in tunnel payloads (R283, R303): an 8-byte header with the body length in bytes 4–5, each starting at a multiple of 4 bytes. -/

/-- The rest of the payload in progress of entry `e` replaced. -/
def setCur (s : State) (e : Nat) (l : List Byte) : State := { s with ten := { s.ten with cur := Tab.put s.ten.cur e l [] } }

/-- The payload in progress, or the next inbound packet of the entry where there is none. -/
def openPayload (s : State) (e : Nat) : State :=
  if !(Tab.get s.ten.cur e []).isEmpty then s
  else
    match s.takeInbound e with
    | (s1, none) => s1
    | (s1, some p) => s1.setCur e p.payload

/-- The next message that `good` accepts in the payload in progress; a message past the end ends the payload, others are skipped, each counted by `bad`. -/
def nextMessage (s : State) (e : Nat) (bad : State → State) (good : List Byte → Bool) : Nat → State × Option (List Byte)
  | 0 => (s, none)
  | n + 1 =>
    let l := Tab.get s.ten.cur e []
    let len := 8 + ofBe ((l.drop 4).take 2)
    if l.isEmpty then (s, none)
    else if l.length < 8 || l.length < len then ((bad s).setCur e [], none)
    else if good (l.take len) then (s, some (l.take len))
    else ((bad s).setCur e (l.drop ((len + 3) / 4 * 4))).nextMessage e bad good n

/-- The service of entry `e`, of type `ty`, takes its next message where that has one of the types `tys`. -/
def takeMessage (s : State) (e ty : Nat) (tys : List Nat) (bad : State → State) (good : List Byte → Bool) :
    State × Option (List Byte) :=
  if !s.svcRuns e || s.rd TEN_SVC0_TYPE e ≠ ty then (s, none)
  else
    let s1 := s.openPayload e
    match s1.nextMessage e bad good ((Tab.get s1.ten.cur e []).length + 1) with
    | (s2, none) => (s2, none)
    | (s2, some raw) =>
      if tys.contains (raw.getD 0 0).toNat then (s2.setCur e ((Tab.get s2.ten.cur e []).drop ((raw.length + 3) / 4 * 4)), some raw)
      else (s2, none)

/-! The event and phase services (R256, R257). -/

/-- The event entries that record an edge of GPIO pin `pin` at its instant (R256): ACTIVE, taking work, with the pin in PINS and the edge in FALL. -/
def edgeEntries (s : State) (pin : Nat) (fall : Bool) : List Nat :=
  (List.range 128).filter (fun e => s.svcTakes e && s.rd TEN_SVC0_TYPE e == tyEvent && (s.param e 0 4).testBit pin &&
    (s.param e 4 4).testBit pin == fall)

/-- The record of an edge without its sequence (R256). -/
def edgeRecord (x : GpioEdge) : List Byte :=
  beBytes 1 x.pin ++ beBytes 1 (bit x.fall * 128 + bit (!x.traced) * 64) ++ beBytes 6 x.time.sec ++
    beBytes 4 x.time.ns ++ beBytes 2 x.time.frac16

/-- The services take the edges that wait in the GPIO block (R256, R526). -/
def eventTake (s : State) : State :=
  let s1 := s.each s.gpio.queue (fun s x => s.each x.entries (fun s e =>
    { s with ten := { s.ten with edges := Tab.put s.ten.edges e (Tab.get s.ten.edges e [] ++ [edgeRecord x]) [] } }))
  { s1 with gpio := { s1.gpio with queue := [] } }

/-- Records with their sequence numbers, from `q` on. -/
def stampRecords : List (List Byte) → Nat → List Byte
  | [], _ => []
  | r :: l, q => r ++ beBytes 2 q ++ stampRecords l (q + 1)

/-- Up to 64 recorded edges of an entry are sent in one packet (R256). -/
def eventSend (s0 : State) (e : Nat) : State :=
  let s := if s0.svcRuns e && s0.rd TEN_SVC0_TYPE e == tyEvent then s0.eventTake else s0
  let l := Tab.get s.ten.edges e []
  if !s.svcRuns e || s.rd TEN_SVC0_TYPE e ≠ tyEvent || l.isEmpty then s
  else
    let q := Tab.get s.ten.evSeq e 0
    let out := l.take 64
    let s1 := { s with ten := { s.ten with
      edges := Tab.put s.ten.edges e (l.drop 64) [], evSeq := Tab.put s.ten.evSeq e (wrapAdd 16 q out.length) 0 } }
    s1.engineSend e (stampRecords out q)

/-- The samples that make a cycle of entry `e` (R257). -/
def cycleSamples (s : State) (e : Nat) : Nat := if s.param e 5 1 = 0 then 80 else 256

/-- A cycle of samples is complete (R257): one observation, at a time of day that the fundamental's phase gives (log entry 3), when every sample of the cycle came and was valid. -/
def phaseCycle (s : State) (e : Nat) : State :=
  if !s.svcRuns e || s.rd TEN_SVC0_TYPE e ≠ tyPhase then s
  else
    let l := Tab.get s.ten.samples e []
    let s1 := { s with ten := { s.ten with samples := Tab.put s.ten.samples e [] [] } }
    if !svWhole (s.cycleSamples e) l || s1.rd CYC_CTRL_SRC ≠ 2 then s1
    else
      let s2 := (s1.wrFree CYC_SV_SECLO_SEC_LO).wrFree CYC_SV_NS_NS
      let (f, s3) := s2.free 16
      s3.svCommit (s3.rd TMU_STAT_STEPCNT * 2 ^ 16 + f)

/-! Scratchpad banks (R258 to R263). -/

/-- An access to bank `b` is allowed (R259). -/
def padAllowed (s : State) (b : Nat) (a : PadAccess) : Bool := s.holdsBank a.master b || (a.master = 16 && !a.write)

/-- The address of a word of a bank. -/
def padAddr (b word : Nat) : Nat := b * 0x10000 + 8 * word

/-- The word that a master read last, and whether it came with an error indication (R263). -/
def setRead (s : State) (m v : Nat) (bad : Bool) : State :=
  { s with bnk := { s.bnk with read := Tab.put s.bnk.read m v 0, err := Tab.put s.bnk.err m bad false } }

/-- A denied access (R259). -/
def padDeny (s : State) (a : PadAccess) : State :=
  let s1 := (s.wr BNK_MSTAT_DENY 1 a.master).sat BNK_MSTAT_DENYCNT a.master
  if a.write then s1 else s1.setRead a.master 0 false

/-- The enabled bytes of a word are written. -/
def padWrite (s : State) (b : Nat) (a : PadAccess) : State :=
  s.each (List.range 8) (fun s k =>
    if a.be.toNat.testBit k then
      s.setPadByte (padAddr b a.word + k) (BitVec.ofNat 8 (a.data.toNat / 256 ^ k))
    else s)

/-- A granted read with what its ECC says (R263); an engine in START or RUN that reads an uncorrectable word halts. -/
def padRead (s : State) (b : Nat) (a : PadAccess) : State :=
  let s1 := s.setRead a.master (ofLe (s.padBytes (padAddr b a.word) 8)) (a.ecc.val == 2)
  match a.ecc.val with
  | 0 => s1
  | 1 => (s1.sat BNK_ECC_COR).fault 81 b
  | _ =>
    let s2 := (((s1.wr BNK_MSTAT_ECC 1 a.master).sat BNK_ECC_UNC).fault 82 b)
    if a.master < 16 && (s2.rd ENG_STAT_STATE a.master = engStart || s2.rd ENG_STAT_STATE a.master = engRun) then s2.haltEngine a.master .ecc else s2

/-- A granted access. -/
def padGrant (s : State) (b : Nat) (a : PadAccess) : State := if a.write then s.padWrite b a else s.padRead b a

/-- A write that loses to another of the same word in the same cycle (R262). -/
def padCollide (s : State) (b : Nat) (win lose : PadAccess) : State :=
  let s1 := (s.wr BNK_MSTAT_COLL 1 lose.master).sat BNK_MSTAT_COLLCNT lose.master
  if s1.on BNK_COLL_VALID then s1
  else
    ((((s1.wr BNK_COLL_VALID 1).wr BNK_COLL_BANK b).wr BNK_COLL_WINNER win.master).wr BNK_COLL_LOSER lose.master).wr
      BNK_COLL_WORD win.word

/-- The accesses in the order of the round robin after master `r` (R261). -/
def padOrder (r : Nat) (l : List PadAccess) : List PadAccess :=
  (List.range 22).flatMap (fun k => l.filter (fun a => a.master.val == (r + 1 + k) % 22))

/-- The accesses that masters present to bank `b` in one engine cycle (R259, R261, R262): denied, granted (two at most), or waiting. -/
def padCycle (s : State) (b : Nat) (l : List PadAccess) : State :=
  let s1 := s.each (l.filter (fun a => !s.padAllowed b a)) padDeny
  let o := padOrder (Tab.get s.bnk.rr b 21) (l.filter (fun a => s.padAllowed b a))
  let s2 := s1.each (o.drop 2) (fun s a => s.sat BNK_CONF_COUNT a.master)
  let last := ((o.take 2).getLast?.map (fun a => a.master.val)).getD (Tab.get s.bnk.rr b 21)
  let s3 := { s2 with bnk := { s2.bnk with rr := Tab.put s2.bnk.rr b last 21 } }
  match o.take 2 with
  | [x, y] =>
    if x.write && y.write && x.word = y.word then
      if x.master ≤ y.master then (s3.padGrant b x).padCollide b x y else (s3.padGrant b y).padCollide b y x
    else (s3.padGrant b x).padGrant b y
  | [x] => s3.padGrant b x
  | _ => s3

/-- A write of BNK_OWNb by master `m` (R260). -/
def ownWrite (s : State) (b m w : Nat) : State :=
  let owner := bitsOf w 28 24
  let share := bitsOf w 23 0
  if (m ≠ 16 && m ≠ s.rd BNK_OWN_OWNER b) || s.on BNK_OWN_PEND b || owner > 21 || share ≥ 2 ^ 22 then s.wr BNK_STAT_ADMREJ 1
  else
    let s1 := s.wr BNK_OWN_PEND 1 b
    { s1 with bnk := { s1.bnk with next := Tab.put s1.bnk.next b (some (owner, share)) none } }

/-- The new rights of bank `b` take effect (R260). -/
def ownDone (s : State) (b : Nat) : State :=
  match Tab.get s.bnk.next b none with
  | none => s
  | some (owner, share) =>
    let s1 := ((s.wr BNK_OWN_OWNER owner b).wr BNK_OWN_SHARE share b).wr BNK_OWN_PEND 0 b
    { s1 with bnk := { s1.bnk with next := Tab.put s1.bnk.next b none none } }

/-- A write of BNK_MSTATm: a cleared flag clears its count (R265). -/
def mstatWrite (s : State) (m w : Nat) : State :=
  let s1 := s.writeReg (0x1D0300 + 4 * m) w
  let s2 := s1.when (w.testBit 31) (·.wr BNK_MSTAT_COLLCNT 0 m)
  s2.when (w.testBit 30) (·.wr BNK_MSTAT_DENYCNT 0 m)

/-! Register writes. -/

/-- A write of an engine image slot's address or length (R420): refused while an engine not in OFF names the slot; otherwise VERIFIED clears. -/
def imageSlotWrite (s : State) (i : Nat) (isLen : Bool) (w : Nat) : State :=
  if s.imageNamed i then s.wr TEN_STAT_IMGREJ 1
  else if s.on TEN_CTRL_LOCK then s
  else (s.writeReg (0x1C0010 + 0x10 * i + (if isLen then 4 else 0)) w).wr TEN_IMG_INFO_VERIFIED 0 i

/-- Writes within an engine's registers: ENG_CTRL and the two mailboxes (R255). -/
def engWrite (s : State) (n r w : Nat) (mgmt : Bool) : State :=
  let off := 0x1C1000 + 0x100 * n + r
  if r = 0 then s.engCtrlWrite n w
  else if (0x20 ≤ r && r < 0x60) || r = 0x60 then
    if !mgmt then s.mbxReject else if r = 0x60 then s.mbxCtrlWrite n 0 w else s.writeReg off w
  else if (0x80 ≤ r && r < 0xC0) || r = 0xC0 then
    if mgmt then s.mbxReject else if r = 0xC0 then s.mbxCtrlWrite n 1 w else s.writeReg off w
  else s.writeReg off w

/-- Writes of TEN and BNK registers that do more than store their fields; `mgmt`: from the management address space. -/
def tenWrite (s : State) (off w : Nat) (mgmt : Bool) : Option State :=
  let o := off - 0x1C0000
  if off < 0x1C0000 || off ≥ 0x1E0000 || off % 4 ≠ 0 then none
  else if 0x10 ≤ o && o < 0x50 && o % 0x10 < 8 then some (s.imageSlotWrite ((o - 0x10) / 0x10) (o % 0x10 == 4) w)
  else if o = 0x110 then some (s.each (List.range 4) (fun s i => if w.testBit i then s.wr TEN_CNT_COUNT 0 i else s))
  else if 0x1000 ≤ o && o < 0x2000 then some (s.engWrite ((o - 0x1000) / 0x100) (o % 0x100) w mgmt)
  else if 0x4000 ≤ o && o < 0x4800 then some (s.svcWordWrite ((o - 0x4000) / 0x10) (o % 0x10 / 4) w)
  else if 0x10100 ≤ o && o < 0x10180 then some (s.ownWrite ((o - 0x10100) / 4) (if mgmt then 16 else 17) w)
  else if 0x10300 ≤ o && o < 0x10358 then some (s.mstatWrite ((o - 0x10300) / 4) w)
  else none

end State

/-- ENGINE_ENABLE (R247). -/
def execEngineEnable (n : Fin 16) (s : State) : Host.Outcome State Fault Refusal :=
  if s.on ENG_CTRL_EN n then .next (s.offStart n) else .next ((s.wr ENG_CTRL_EN 1 n).enableEngine n)

/-- ENGINE_DISABLE (R247). -/
def execEngineDisable (n : Fin 16) (s : State) : Host.Outcome State Fault Refusal :=
  if s.on ENG_CTRL_EN n then .next ((s.wr ENG_CTRL_EN 0 n).disableEngine n) else .next s

/-- ENGINE_READY (R247, R249). -/
def execEngineReady (n : Fin 16) (s : State) : Host.Outcome State Fault Refusal := .next (s.engineReady n)

/-- ENGINE_START_TIMEOUT (R247). -/
def execEngineStartTimeout (n : Fin 16) (s : State) : Host.Outcome State Fault Refusal :=
  if s.rd ENG_STAT_STATE n = engStart && s.due (.engineStart n) then .next (s.haltEngine n .startTo) else .next s

/-- ENGINE_WATCHDOG_KICK (R248). -/
def execEngineWatchdogKick (n : Fin 16) (s : State) : Host.Outcome State Fault Refusal := .next (s.kickEngine n)

/-- ENGINE_WATCHDOG (R248). -/
def execEngineWatchdog (n : Fin 16) (s : State) : Host.Outcome State Fault Refusal :=
  if s.wdtOut n then .next (s.haltRunning n .wdt) else .next s

/-- ENGINE_TRAP (R247). -/
def execEngineTrap (n : Fin 16) (s : State) : Host.Outcome State Fault Refusal := .next (s.haltRunning n .trap)

/-- ENGINE_ECC_HALT (R247). -/
def execEngineEccHalt (n : Fin 16) (s : State) : Host.Outcome State Fault Refusal := .next (s.haltRunning n .ecc)

/-- ENGINE_RESTART (R249). -/
def execEngineRestart (n : Fin 16) (s : State) : Host.Outcome State Fault Refusal := .next (s.restartEngine n)

/-- SERVICE_BIND (R252): `w`, with EN = 1, written to word 0 of entry `e`. -/
def execServiceBind (e : Fin 128) (w : Word) (s : State) : Host.Outcome State Fault Refusal := .next (s.bindEntry e w.toNat)

/-- SERVICE_UNBIND (R254): `w`, with EN = 0, written to word 0 of entry `e`. -/
def execServiceUnbind (e : Fin 128) (w : Word) (s : State) : Host.Outcome State Fault Refusal := .next (s.unbindEntry e w.toNat)

/-- ENGINE_DISPATCH (R253) in cluster `k`. -/
def execEngineDispatch (k : Fin 4) (s : State) : Host.Outcome State Fault Refusal := .next (s.dispatch k)

/-- ENGINE_PACKET_SEND (R253): the engine of entry `e` sends a payload. -/
def execEnginePacketSend (e : Fin 128) (payload : List Byte) (s : State) : Host.Outcome State Fault Refusal :=
  .next (s.engineSend e payload)

/-- PING (R255): opcode 0x01 submitted to MBXm of engine `n`. -/
def execPing (n : Fin 16) (m : Fin 2) (s : State) : Host.Outcome State Fault Refusal := .next (s.mbxSubmit n m 1 0)

/-- STATS (R255) of entry `e`. -/
def execStats (n : Fin 16) (m : Fin 2) (e : Fin 128) (s : State) : Host.Outcome State Fault Refusal := .next (s.mbxSubmit n m 2 e)

/-- QUIESCE (R255) of entry `e`. -/
def execQuiesce (n : Fin 16) (m : Fin 2) (e : Fin 128) (s : State) : Host.Outcome State Fault Refusal := .next (s.mbxSubmit n m 3 e)

/-- RESUME (R255) of entry `e`. -/
def execResume (n : Fin 16) (m : Fin 2) (e : Fin 128) (s : State) : Host.Outcome State Fault Refusal := .next (s.mbxSubmit n m 4 e)

/-- MAILBOX_TIMEOUT (R255) of MBXm of engine `n`. -/
def execMailboxTimeout (n : Fin 16) (m : Fin 2) (s : State) : Host.Outcome State Fault Refusal := .next (s.mbxTimeout n m)

/-- EVENT_RECORD_SEND (R256) of entry `e`. -/
def execEventRecordSend (e : Fin 128) (s : State) : Host.Outcome State Fault Refusal := .next (s.eventSend e)

/-- SV_CYCLE_COMPLETE (R257) of entry `e`: a cycle of its stream has ended. -/
def execSvCycleComplete (e : Fin 128) (s : State) : Host.Outcome State Fault Refusal := .next (s.phaseCycle e)

/-- SCRATCHPAD_ACCESS (R259, R261 to R263): the accesses presented to bank `b` in one engine cycle. -/
def execScratchpadAccess (b : Fin 32) (l : List PadAccess) (s : State) : Host.Outcome State Fault Refusal := .next (s.padCycle b l)

/-- BANK_OWNER_WRITE (R260): master `m` writes `w` to BNK_OWNb; `w16`: what master 16 writes in the same cycle, which is taken first. -/
def execBankOwnerWrite (b : Fin 32) (m : Fin 22) (w : Word) (w16 : Option Word) (s : State) : Host.Outcome State Fault Refusal :=
  match w16 with
  | none => .next (s.ownWrite b m w.toNat)
  | some v => .next ((s.ownWrite b 16 v.toNat).wr BNK_STAT_ADMREJ 1)

/-- BANK_HANDOVER_DONE (R260). -/
def execBankHandoverDone (b : Fin 32) (s : State) : Host.Outcome State Fault Refusal := .next (s.ownDone b)

/-- IMAGE_SLOT_WRITE (R420): `w` written to the address or the length of image slot `i`. -/
def execImageSlotWrite (i : Fin 4) (isLen : Bool) (w : Word) (s : State) : Host.Outcome State Fault Refusal :=
  .next (s.imageSlotWrite i isLen w.toNat)

end Sys2Proof.Machine
end

