-- ==== Sys2Proof/Machine/Display.lean ====
section
/-! DEFINITION. The display heads, layers and palettes, and the display service (spec/11_display_tunnels.md). Heads are 0 (A) and 1 (B); layers of all heads are numbered 4h + l. -/

namespace Sys2Proof.Machine

/-- Codes of HD_COMMIT.CODE. -/
inductive CommitCode where
  | ok | busy | range | tooFar | notOwner | halt | off
  deriving DecidableEq, Repr

/-- The numbers of the codes. -/
def CommitCode.code : CommitCode → Nat
  | .ok => 0 | .busy => 1 | .range => 2 | .tooFar => 3 | .notOwner => 4 | .halt => 5 | .off => 6

/-- Codes of HD_STAT.CFGERR. -/
inductive HeadErr where
  | timing | bw | dpTrain | mode
  deriving DecidableEq, Repr

/-- The numbers of the codes. -/
def HeadErr.code : HeadErr → Nat
  | .timing => 1 | .bw => 2 | .dpTrain => 3 | .mode => 4

/-- A message of a display tunnel (R283). -/
structure DispMsg where
  ty : Nat
  layer : Nat
  mode : Nat
  dcode : Nat
  batch : Nat
  body : List Byte
  deriving DecidableEq, Repr

/-- A signed difference of frame numbers (R276). -/
def diffFrame (a b : Nat) : Int := signedOf 32 ((a + 2 ^ 32 - b % 2 ^ 32) % 2 ^ 32)

/-- A signed difference of batch numbers (R283). -/
def diffBatch (a b : Nat) : Int := signedOf 16 ((a + 2 ^ 16 - b % 2 ^ 16) % 2 ^ 16)

/-- Message types (R283). -/
def msgTile : Nat := 1
def msgPalette : Nat := 2
def msgCommit : Nat := 3

/-- The DisplayPort link rates in Mb/s of a lane: RBR, HBR, HBR2. -/
def dpRate (r : Nat) : Nat := match r with
  | 1 => 1620 | 2 => 2700 | 3 => 5400 | _ => 0

/-- Lanes of a DPLANES code. -/
def dpLanes (c : Nat) : Nat := match c with
  | 1 => 1 | 2 => 2 | 3 => 4 | _ => 0

namespace State

/-! Heads (R266 to R268). -/

/-- A flag or counter of a head. -/
def hdFlag (s : State) (F : Field) (h : Nat) : State := s.wr F 1 h
def hdCount (s : State) (h i : Nat) : State := s.sat HD_CNT_COUNT h i

/-- A field is written with a code other than its own. -/
def fieldChanges (s : State) (F : Field) (i j w : Nat) : Bool := bitsOf w F.hi F.lo != s.rd F i j

/-- Pixels of a line, and lines of a frame. -/
def hTotal (s : State) (h : Nat) : Nat :=
  s.rd HD_HTIM0_HACTIVE h + s.rd HD_HTIM0_HFP h + s.rd HD_HTIM1_HSYNC h + s.rd HD_HTIM1_HBP h
def vTotal (s : State) (h : Nat) : Nat :=
  s.rd HD_VTIM0_VACTIVE h + s.rd HD_VTIM0_VFP h + s.rd HD_VTIM1_VSYNC h + s.rd HD_VTIM1_VBP h

/-- The timing registers and the pixel clock lie in their ranges, and the frame rate is 61 Hz at most (R266, R267). -/
def timingOk (s : State) (h : Nat) : Bool :=
  let ha := s.rd HD_HTIM0_HACTIVE h
  let va := s.rd HD_VTIM0_VACTIVE h
  let pc := s.rd HD_PCLK_PCLK h
  1 ≤ ha && ha ≤ (if h = 0 then 1920 else 2560) && 1 ≤ va && va ≤ (if h = 0 then 1200 else 1600) &&
  s.rd HD_HTIM0_HFP h ≠ 0 && s.rd HD_HTIM1_HSYNC h ≠ 0 && s.rd HD_HTIM1_HBP h ≠ 0 && s.rd HD_VTIM0_VFP h ≠ 0 &&
  s.rd HD_VTIM1_VSYNC h ≠ 0 && s.rd HD_VTIM1_VBP h ≠ 0 &&
  25000 ≤ pc && pc ≤ (if h = 0 then 165000 else 300000) && pc * 1000 ≤ 61 * (s.hTotal h * s.vTotal h)

/-- The bandwidth check of the output, on DisplayPort with the trained link (R267, R268). -/
def bandwidthOk (s : State) (h : Nat) : Bool :=
  let need := s.rd HD_PCLK_PCLK h * 24
  if s.on HD_CTRL_OUT h then need * 10 ≤ dpLanes (s.rd HD_LINK_DPLANES h) * dpRate (s.rd HD_LINK_DPRATE h) * 1000 * 8
  else need ≤ 4 * s.rd HD_LINK_DSIRATE h * 10 * 1000

/-- A head reports a failed check. -/
def headError (s : State) (h : Nat) (c : HeadErr) : State := (s.wr HD_STAT_CFGERR c.code h).wr HD_STAT_STATE 3 h

/-- The first check that the head fails at EN (R267, R282). -/
def headFailure (s : State) (h : Nat) : Option HeadErr :=
  if !s.timingOk h then some .timing
  else if s.on HD_CTRL_OUT h && s.on HD_CTRL_CMD h then some .mode
  else if (!s.on HD_CTRL_OUT h || s.dsp.dpOn) && !s.bandwidthOk h then some .bw
  else none

/-- EN goes to 1 (R267). -/
def headEnable (s : State) (h : Nat) : State :=
  match s.headFailure h with
  | some c => s.headError h c
  | none =>
    let wait := s.on HD_CTRL_OUT h && !s.dsp.dpOn
    (((s.arm (.te h) 0).wr HD_CTRL_EN 1 h).wr HD_STAT_CFGERR 0 h).wr HD_STAT_STATE (if wait then 1 else 2) h

/-- A head stops. -/
def headStop (s : State) (h : Nat) : State :=
  let s1 := (((s.wr HD_STAT_STATE 0 h).wr HD_STAT_LOCKED 0 h).wr HD_STAT_TEVALID 0 h).causeOff (101 + h)
  { s1 with dsp := { s1.dsp with xfer := Tab.put s1.dsp.xfer h false false } }

/-- A write of HD_CTRL (R267). -/
def headCtrlWrite (s : State) (h w : Nat) : State :=
  let en := s.on HD_CTRL_EN h
  let lk := s.on DSP_CTRL_LOCK
  let frozen := en && (s.fieldChanges HD_CTRL_OUT h 0 w || s.fieldChanges HD_CTRL_CMD h 0 w)
  let s1 := s.when frozen (·.hdFlag HD_STAT_CFGREJ h)
  let s2 := s1.writeFields lk [HD_CTRL_LOCK, HD_CTRL_WIN] h 0 w
  let s3 := s2.when (s2.on HD_CTRL_LOCK h && s2.rd HD_BASE_NS_NS h > 999999999) (·.hdFlag HD_STAT_CFGREJ h)
  let s4 := if en then s3
    else (s3.when (h = 1) (·.writeField lk HD_CTRL_OUT h 0 w)).writeField lk HD_CTRL_CMD h 0 w
  if w.testBit 31 == en then s4
  else if en then (s4.wr HD_CTRL_EN 0 h).headStop h else s4.headEnable h

/-- The blocks that stop in HUSH run (R487). -/
def fullPower (s : State) : Bool := s.rd PWR_STAT_STATE ≤ 1

/-- The timing generator of a head runs (R267, R292). -/
def headRuns (s : State) (h : Nat) : Bool := s.on HD_CTRL_EN h && s.fullPower

/-- The trained link is given up. -/
def dpDrop (s : State) : State := ({ s with dsp := { s.dsp with dpOn := false } }.wr HD_LINK_DPRATE 0 1).wr HD_LINK_DPLANES 0 1

/-- USB-C lanes, from lane 24 on, that head B drives with DisplayPort (R134, R268). -/
def dpDriven (s : State) : Nat := if s.headRuns 1 && s.on HD_CTRL_OUT 1 && s.dsp.dpOn then dpLanes (s.rd HD_LINK_DPLANES 1) else 0

/-- The DSI lanes of a head are in the LP-11 stop state (R292). -/
def dsiStopped (s : State) : Bool := !s.fullPower

/-- DisplayPort link training ends with a rate (0: failed at every rate) and a lane code, under pin assignment C or D (R268). -/
def dpTrain (s : State) (rate lanes : Nat) : State :=
  if s.rd UPD_ALTSTAT_MODE ≠ 1 || !s.on HD_LINK_HPD 1 || !s.on HD_CTRL_OUT 1 || !s.fullPower then s
  else if rate = 0 || lanes = 0 then s.dpDrop.headError 1 .dpTrain
  else
    let s0 := (s.wr HD_LINK_DPRATE rate 1).wr HD_LINK_DPLANES (if s.rd UPD_ALTSTAT_PIN = 2 then min lanes 2 else lanes) 1
    let s1 := { s0 with dsp := { s0.dsp with dpOn := true } }
    if !s1.bandwidthOk 1 then s1.headError 1 .bw
    else if s1.on HD_CTRL_EN 1 then (s1.wr HD_STAT_CFGERR 0 1).wr HD_STAT_STATE 2 1
    else s1

/-- HPD low (R268): the output stops; the timing generator runs on. -/
def hpdLow (s : State) : State := (s.wr HD_LINK_HPD 0 1).dpDrop

/-- An HPD IRQ starts retraining (R268). -/
def hpdIrq (s : State) : State := if s.on HD_LINK_HPD 1 then s.dpDrop else s

/-! Layers (R269 to R273). -/

/-- The address of a layer's shadow surface. -/
def shadowSurf (s : State) (h l k : Nat) : Nat :=
  if k = 0 then s.rd LY_SURF0_HI_ADDR h l * 2 ^ 32 + s.rd LY_SURF0_LO_ADDR h l * 64
  else s.rd LY_SURF1_HI_ADDR h l * 2 ^ 32 + s.rd LY_SURF1_LO_ADDR h l * 64

/-- The word of a shadow palette entry. -/
def palWord (s : State) (h l i : Nat) : Nat :=
  let k := 256 * l + i
  ((s.rd LY_PAL_ALPHA h k * 256 + s.rd LY_PAL_RED h k) * 256 + s.rd LY_PAL_GREEN h k) * 256 + s.rd LY_PAL_BLUE h k

/-- The shadow palette as a table. -/
def shadowPal (s : State) (h l : Nat) : Tab Nat :=
  (List.range 256).filterMap (fun i => if s.palWord h l i = 0 then none else some (i, s.palWord h l i))

/-- The active settings of a layer. -/
def layer (s : State) (h l : Nat) : LayerSet := Tab.get s.dsp.active (4 * h + l) {}
def setLayer (s : State) (h l : Nat) (x : LayerSet) : State :=
  { s with dsp := { s.dsp with active := Tab.put s.dsp.active (4 * h + l) x {} } }

/-- The address of pixel (x, y) of a surface of depth code `d`, and the bit of its byte at which it starts (R270). -/
def pixelAt (base stride d x y : Nat) : Nat × Nat := (base + y * stride * 64 + x * 2 ^ d / 8, x * 2 ^ d % 8)

/-- The index at a pixel of a surface in DRAM. -/
def pixel (s : State) (base stride d x y : Nat) : Nat :=
  let (a, b) := pixelAt base stride d x y
  (Memory.byte s.dram a).toNat / 2 ^ b % 2 ^ 2 ^ d

/-- An index stored at a pixel of a surface in DRAM. -/
def setPixel (s : State) (base stride d x y v : Nat) : State :=
  let (a, b) := pixelAt base stride d x y
  s.dramWrite a [BitVec.ofNat 8 (setBits (Memory.byte s.dram a).toNat (b + 2 ^ d - 1) b v)]

/-- A layer covers pixel (x, y) of the screen. -/
def covers (L : LayerSet) (x y : Nat) : Bool := L.en && L.x ≤ x && x < L.x + L.w && L.y ≤ y && y < L.y + L.h

/-- One component of a palette entry laid over `c` (R272). -/
def blend (word lo c : Nat) : Nat :=
  let a := word / 2 ^ 24 % 256
  (a * (word / 2 ^ lo % 256) + (255 - a) * c) / 255

/-- The fetch burst that holds pixel (x, y) of layer `l` of a head has not arrived in this frame, or came with an error (R274). -/
def burstMissed (s : State) (h l x y : Nat) : Bool := (Tab.get s.dsp.missed h []).contains (l, y, x * 2 ^ (s.layer h l).depth / 512)

/-- The RGB of an output pixel (R272); the pixels of a missed burst show the layers beneath (R274). -/
def outputPixel (s : State) (h x y : Nat) : Nat × Nat × Nat :=
  let bg := Tab.get s.dsp.bg h 0
  (List.range 4).foldl (fun c l =>
    let L := s.layer h l
    if covers L x y && !s.burstMissed h l (x - L.x) (y - L.y) then
      let base := if s.on LY_STAT_FRONT h l then L.surf1 else L.surf0
      let e := Tab.get L.pal (s.pixel base L.stride L.depth (x - L.x) (y - L.y)) 0
      (blend e 16 c.1, blend e 8 c.2.1, blend e 0 c.2.2)
    else c) (bg / 2 ^ 16 % 256, bg / 2 ^ 8 % 256, bg % 256)

/-- Every entry in use of a layer's active palette is opaque (R273). -/
def opaquePal (L : LayerSet) : Bool := (List.range (2 ^ 2 ^ L.depth)).all (fun i => Tab.get L.pal i 0 / 2 ^ 24 % 256 == 255)

/-- The bursts of 64 bytes of layer `l` that a frame skips (R273): those with a pixel on screen whose every pixel on screen lies in an enabled opaque layer above. -/
def skipped (s : State) (h l : Nat) : Nat :=
  let L := s.layer h l
  let ha := s.rd HD_HTIM0_HACTIVE h
  let va := s.rd HD_VTIM0_VACTIVE h
  let per := 512 / 2 ^ L.depth
  let above := ((List.range 4).filter (fun k => l < k && s.on LY_STAT_OPQ h k)).map (fun k => s.layer h k)
  if !L.en then 0
  else
    ((List.range L.h).filter (fun y => L.y + y < va)).foldl (fun n y =>
      n + ((List.range ((L.w + per - 1) / per)).filter (fun k =>
        let px := ((List.range per).map (fun i => k * per + i)).filter (fun x => x < L.w && L.x + x < ha)
        !px.isEmpty && px.all (fun x => above.any (fun A => covers A (L.x + x) (L.y + y))))).length) 0

/-! Commits (R276 to R280). -/

/-- The frame before which a commit accepted now applies, and whether it is late; none: refused with TOOFAR (R276). -/
def commitDue (s : State) (h : Nat) (tgt : Option Nat) : Option (Nat × Bool) :=
  let closed := Tab.get s.dsp.closed h false
  let a := (s.rd HD_FCOUNT_FRAME h + (if closed then 2 else 1)) % 2 ^ 32
  match tgt with
  | none => some (a, closed)
  | some t =>
    let d := diffFrame t a
    if d > 1024 then none else if d ≥ 0 then some (t, false) else some (a, true)

/-- The shadow settings of a layer pass the check of R279. -/
def layerOk (s : State) (h l : Nat) : Bool :=
  let w := s.rd LY_SIZE_W h l
  let ht := s.rd LY_SIZE_H h l
  let st := s.rd LY_STRIDE_STRIDE h l
  let line := (w * 2 ^ s.rd LY_CTRL_DEPTH h l + 7) / 8
  1 ≤ w && w ≤ 4096 && 1 ≤ ht && ht ≤ 4096 && 1 ≤ st && st ≤ 64 && line ≤ st * 64 &&
  [0, 1].all (fun k => s.shadowSurf h l k + (ht - 1) * st * 64 + line ≤ s.dramSize)

/-- The software commits that wait on a head. -/
def softPend (s : State) (h : Nat) : List HeadCommit := Tab.get s.dsp.soft h []

/-- The pending bits of a head follow its waiting software commits (R277). -/
def showPend (s : State) (h : Nat) : State :=
  let l := s.softPend h
  let s1 := s.each (List.range 4) (fun s k => s.wr LY_STAT_PEND (bit (l.any (fun c => c.lmask.testBit k || c.flip.testBit k))) h k)
  s1.wr HD_COMMIT_BGPEND (bit (l.any (·.bg))) h

/-- The waiting software commits of a head replaced. -/
def setSoft (s : State) (h : Nat) (l : List HeadCommit) : State :=
  { s with dsp := { s.dsp with soft := Tab.put s.dsp.soft h l [] } }.showPend h

/-- A refused software commit (R279). -/
def commitRefuse (s : State) (h : Nat) (c : CommitCode) : State := (s.hdFlag HD_STAT_CMTREJ h).wr HD_COMMIT_CODE c.code h

/-- A write of HD_COMMIT (R276 to R279, R292). -/
def softCommit (s : State) (h w : Nat) : State :=
  let flip := bitsOf w 23 20
  let lmask := bitsOf w 19 16
  let bg := w.testBit 28
  let tgt := if w.testBit 29 then some (s.rd HD_CTGT_TARGET h) else none
  if !w.testBit 31 then s
  else if s.rd HD_STAT_STATE h ≠ 2 || !s.headRuns h then s.commitRefuse h .off
  else if s.restricted then s.commitRefuse h .halt
  else if (List.range 4).any (fun l => (lmask ||| flip).testBit l && s.on LY_STAT_PEND h l) || (bg && s.on HD_COMMIT_BGPEND h) then
    s.commitRefuse h .busy
  else if (List.range 4).any (fun l => flip.testBit l && s.on LY_CTRL_OWNER h l) then s.commitRefuse h .notOwner
  else if (List.range 4).any (fun l => lmask.testBit l && !s.layerOk h l) then s.commitRefuse h .range
  else
    match s.commitDue h tgt with
    | none => s.commitRefuse h .tooFar
    | some (due, late) =>
      (s.wr HD_COMMIT_CODE 0 h).setSoft h (s.softPend h ++
        [{ lmask := lmask, flip := flip, bg := bg, due := due, late := late, tgt := tgt.isSome && !late }])

/-- The fields that the owner of a layer's content commits: surfaces, geometry, depth and palette (R278). -/
def applyContent (s : State) (h l : Nat) : State :=
  s.setLayer h l { s.layer h l with
    depth := s.rd LY_CTRL_DEPTH h l, surf0 := s.shadowSurf h l 0, surf1 := s.shadowSurf h l 1,
    stride := s.rd LY_STRIDE_STRIDE h l, w := s.rd LY_SIZE_W h l, h := s.rd LY_SIZE_H h l, pal := s.shadowPal h l }

/-- The fields that software always commits (R278). -/
def applyPlace (s : State) (h l : Nat) : State :=
  (s.setLayer h l { s.layer h l with en := s.on LY_CTRL_EN h l, x := s.rd LY_POS_X h l, y := s.rd LY_POS_Y h l }).wr
    LY_STAT_ACTEN (s.rd LY_CTRL_EN h l) h l

/-- FRONT of a layer toggles. -/
def toggleFront (s : State) (h l : Nat) : State := s.wr LY_STAT_FRONT (1 - s.rd LY_STAT_FRONT h l) h l

/-- A software commit applies (R276, R278). -/
def applySoft (s : State) (h : Nat) (c : HeadCommit) : State :=
  let s1 := s.each (List.range 4) (fun s l =>
    let a := s.when (c.lmask.testBit l) (fun s => (s.when (!s.on LY_CTRL_OWNER h l) (·.applyContent h l)).applyPlace h l)
    a.when (c.flip.testBit l) (·.toggleFront h l))
  if c.bg then { s1 with dsp := { s1.dsp with bg := Tab.put s1.dsp.bg h (s1.rd HD_BG_RGB h) 0 } } else s1

/-- A late commit is shown and counted (R276). -/
def lateCommit (s : State) (h : Nat) (late jump : Bool) : State :=
  (s.when (late || jump) (·.hdFlag HD_STAT_LATE h)).when late (·.hdCount h 0)

/-- The waiting service commit of a layer. -/
def svcPend (s : State) (h l : Nat) : Option SvcCommit := Tab.get s.dsp.svc (4 * h + l) none

/-- Tile messages of a batch applied to a layer since its last applied commit (R287). -/
def tilesOf (s : State) (y batch : Nat) : Nat := min (((Tab.get s.dsp.tiles y []).find? (fun x => x.1 == batch)).map (·.2) |>.getD 0) 65535

/-- A service commit applies (R286, R289, R290): its result, for the frame start. -/
def applySvc (s : State) (h l : Nat) (c : SvcCommit) (jump : Bool) : State :=
  let y := 4 * h + l
  let n := s.tilesOf y c.batch
  let s1 := (((s.applyContent h l).toggleFront h l).wr LY_STAT_TPEND 0 h l)
  let ack : DispAck := { entry := c.entry, layer := l, batch := c.batch, late := c.late || jump, part := decide (n < c.tiles),
                         tilesRx := n, ackReq := c.ackReq, target := if c.tgt then some c.due else none }
  { s1 with dsp := { s1.dsp with
      svc := Tab.put s1.dsp.svc y none none, last := Tab.put s1.dsp.last y (some c.batch) none,
      tiles := Tab.put s1.dsp.tiles y [] [], copy := Tab.put s1.dsp.copy y (Tab.get s1.dsp.changed y []) [],
      changed := Tab.put s1.dsp.changed y [] [], flips := Tab.put s1.dsp.flips h (Tab.get s1.dsp.flips h [] ++ [ack]) [] } }

/-- OPQ of every layer recomputed (R273). -/
def showOpaque (s : State) (h : Nat) : State := s.each (List.range 4) (fun s l => s.wr LY_STAT_OPQ (bit (opaquePal (s.layer h l))) h l)

/-- The end of the last active line (R276, R280): the commits that fall due apply. -/
def applyPoint (s : State) (h : Nat) : State :=
  if !s.headRuns h then s
  else
    let f := (s.rd HD_FCOUNT_FRAME h + 1) % 2 ^ 32
    let skip := s.each (List.range 4) (fun s l => s.wr LY_SKIP_COUNT (s.rd LY_SKIP_COUNT h l + s.skipped h l) h l)
    let due := (skip.softPend h).filter (fun c => diffFrame f c.due ≥ 0)
    let s1 := skip.each due (fun s c => (s.applySoft h c).lateCommit h c.late (c.tgt && f != c.due))
    let s2 := s1.setSoft h ((skip.softPend h).filter (fun c => diffFrame f c.due < 0))
    let sv := (List.range 4).filter (fun l => match s2.svcPend h l with
      | none => false
      | some c => diffFrame f c.due ≥ 0)
    let s3 := s2.each sv (fun s l => match s.svcPend h l with
      | none => s
      | some c => (s.applySvc h l c (c.tgt && f != c.due)).lateCommit h c.late (c.tgt && f != c.due))
    let s4 := s3.showOpaque h
    let s5 := { s4 with dsp := { s4.dsp with closed := Tab.put s4.dsp.closed h true false, xfer := Tab.put s4.dsp.xfer h false false } }
    if due.isEmpty && sv.isEmpty then s5
    else
      let s6 := (s5.wr HD_FLIP_FRAME_FRAME f h).hdFlag HD_STAT_FLIPEV h
      let ts := (due.filter (·.tgt)).map (·.due)
      { s6 with dsp := { s6.dsp with flip := Tab.put s6.dsp.flip h true false, flipT := Tab.put s6.dsp.flipT h ts [] } }.irq (9 + h) 0 f

/-! Frames (R275, R281, R282). -/

/-- P in units of 2^-16 ns (R281). -/
def period16 (s : State) (h : Nat) : Nat := s.rd HD_PERIOD_NS_NS h * 2 ^ 16 + s.rd HD_PERIOD_FRAC_FRAC h

/-- BASE in units of 2^-16 ns. -/
def base16 (s : State) (h : Nat) : Nat :=
  ((s.rd HD_BASE_SECHI_SEC_HI h * 2 ^ 32 + s.rd HD_BASE_SECLO_SEC_LO h) * 1000000000 + s.rd HD_BASE_NS_NS h) * 2 ^ 16

/-- Frames are to be locked (R281). -/
def lockOn (s : State) (h : Nat) : Bool :=
  s.on HD_CTRL_LOCK h && !s.on HD_CTRL_CMD h && s.on TMU_STAT_TVALID && s.rd HD_BASE_NS_NS h ≤ 999999999

/-- A flag of an acknowledgement is set, or one is asked for (R287). -/
def ackDue (a : DispAck) : Bool := a.ackReq || a.late || a.part || a.refused

/-- A count of a service entry (DSTAT) advances, saturating at 32 bits. -/
def dispCount (s : State) (e k : Nat) : State :=
  { s with dsp := { s.dsp with counts := Tab.put s.dsp.counts (8 * e + k) (satAdd 32 (Tab.get s.dsp.counts (8 * e + k) 0) 1) 0 } }

/-- The result of a commit is handed to the service (R280, R287): counted, and queued where an ACK is due. -/
def giveResult (s : State) (a : DispAck) : State :=
  let s1 := if a.refused then s.dispCount a.entry 3
    else ((s.dispCount a.entry 0).when a.late (·.dispCount a.entry 1)).when a.part (·.dispCount a.entry 2)
  let slot := s.rd TEN_SVC1_RXSLOT a.entry
  if ackDue a && s.rd CTX3_PARTNER slot ≠ 0 && s.rd CTX2_VER slot ≥ 2 then
    { s1 with dsp := { s1.dsp with acks := Tab.put s1.dsp.acks a.entry (Tab.get s1.dsp.acks a.entry [] ++ [a]) [] } }
  else s1

/-- Frame `n` starts at time `t` (R275, R280): the flip time is latched and results are handed over. -/
def frameBegins (s : State) (h n : Nat) (t : Wide) : State :=
  let s0 := s.wr HD_FCOUNT_FRAME n h
  let s1 := { s0 with dsp := { s0.dsp with
    closed := Tab.put s0.dsp.closed h false false, under := Tab.put s0.dsp.under h false false, missed := Tab.put s0.dsp.missed h [] [] } }
  if !Tab.get s1.dsp.flip h false then s1
  else
    let s2 := (((s1.wr HD_FLIP_FRAME_FRAME n h).wr HD_FLIP_SECHI_SEC_HI (t.sec / 2 ^ 32) h).wr HD_FLIP_SECLO_SEC_LO t.sec h).wr
      HD_FLIP_NS_NS t.ns h
    let fr := n % 2 ^ 32
    let rs := (Tab.get s2.dsp.flips h []).map (fun a =>
      { a with late := a.late || (a.target.isSome && a.target != some fr), frame := fr, sec := t.sec, ns := t.ns })
    let jump := (Tab.get s2.dsp.flipT h []).any (fun x => x != fr) || rs.any (fun a => a.target.isSome && a.target != some fr)
    let s3 := s2.when jump (·.hdFlag HD_STAT_LATE h)
    let d := { s3.dsp with flip := Tab.put s3.dsp.flip h false false, flips := Tab.put s3.dsp.flips h [] [] }
    ({ s3 with dsp := { d with flipT := Tab.put d.flipT h [] [] } }).each rs giveResult

/-- The next frame of a head that runs free, or whose locked start was missed. -/
def freeFrame (s : State) (h : Nat) : State := s.frameBegins h (s.rd HD_FCOUNT_FRAME h + 1) s.tmu.tod

/-- Lock loss (R281). -/
def lockLoss (s : State) (h : Nat) : State := (((s.hdCount h 3).hdFlag HD_STAT_LOCKLOST h).wr HD_STAT_LOCKED 0 h).freeFrame h

/-- A locked frame `n` starts, once its instant has come. -/
def lockedFrame (s : State) (h n : Nat) : State :=
  if s.tmu.tod.units / 2 ^ 16 < s.base16 h + n * s.period16 h then s
  else
    let s1 := s.wr HD_STAT_LOCKED 1 h
    { s1 with dsp := { s1.dsp with lockN := Tab.put s1.dsp.lockN h n 0 } }.frameBegins h n s1.tmu.tod

/-- VSYNC of a head in video mode; `ago`, in 2^-32 ns: how long ago its VFP ended (R281). -/
def videoFrame (s : State) (h ago : Nat) : State :=
  let eov := (s.tmu.tod.units - ago) / 2 ^ 16
  let p := s.period16 h
  if !s.lockOn h then (s.wr HD_STAT_LOCKED 0 h).freeFrame h
  else if s.on HD_STAT_LOCKED h then
    let n := Tab.get s.dsp.lockN h 0 + 1
    let t := s.base16 h + n * p
    if t < eov || (t - eov) * s.rd HD_PCLK_PCLK h > s.rd HD_LOCKCFG_HOLDMAX h * s.hTotal h * (1000000 * 2 ^ 16) then s.lockLoss h
    else s.lockedFrame h n
  else if eov + p < s.base16 h then s.freeFrame h
  else s.lockedFrame h ((eov - s.base16 h + p - 1) / p)

/-- FRAME_START: VSYNC in video mode; in command mode a transfer that the head starts itself every P from the loss of TE on (R275, R282). -/
def frameStart (s : State) (h ago : Nat) : State :=
  if !s.headRuns h then s
  else if !s.on HD_CTRL_CMD h then s.videoFrame h ago
  else if !Tab.get s.flt.cause (101 + h) false || Tab.get s.dsp.xfer h false || s.tmu.elapsed < Tab.get s.dsp.ownAt h 0 then s
  else { s with dsp := { s.dsp with
           xfer := Tab.put s.dsp.xfer h true false, ownAt := Tab.put s.dsp.ownAt h (Tab.get s.dsp.ownAt h 0 + s.period16 h * 2 ^ 16) 0 } }.freeFrame h

/-- An edge of DSI_TE, its first transition `ago` (2^-32 ns) before now (R282): of the direction that EDGE selects, held for the filter. -/
def teEdge (s : State) (h : Nat) (fall : Bool) (ago : Nat) : State :=
  let e := s.tmu.elapsed - ago
  let near := match Tab.get s.dsp.teLast h none with
    | none => false
    | some l => e < l + 8000000 * 2 ^ 32
  if !s.headRuns h || !s.on HD_CTRL_CMD h || s.on HD_TE_EDGE h != fall || ago < s.rd HD_TE_FILT h * 100 * 2 ^ 32 then s
  else if near || Tab.get s.dsp.xfer h false then s.hdCount h 4
  else
    let s1 := ((s.arm (.te h) 0).wr HD_STAT_TEVALID 1 h).causeOff (101 + h)
    { s1 with dsp := { s1.dsp with teLast := Tab.put s1.dsp.teLast h (some e) none, xfer := Tab.put s1.dsp.xfer h true false } }.frameBegins
      h (s1.rd HD_FCOUNT_FRAME h + 1) (Wide.ofUnits (s.tmu.tod.units - ago))

/-- No edge for TETO (R282). -/
def teTimeout (s : State) (h : Nat) : State :=
  if !s.headRuns h || !s.on HD_CTRL_CMD h || Tab.get s.flt.cause (101 + h) false || !s.ran (.te h) (s.rd HD_TE_TETO h * 10000000) then s
  else
    let s1 := { s with dsp := { s.dsp with ownAt := Tab.put s.dsp.ownAt h s.tmu.elapsed 0 } }
    ((s1.wr HD_STAT_TEVALID 0 h).hdCount h 5).causeOn (101 + h) 0

/-- Burst `k` of row `y` of a layer's surface is shown transparent in this frame (R274): late, or with an uncorrectable error. -/
def fetchMiss (s : State) (h l y k : Nat) (ecc : Bool) : State :=
  if !s.headRuns h then s
  else
    let s0 := s.hdCount h (if ecc then 2 else 1)
    let s1 := { s0 with dsp := { s0.dsp with missed := Tab.put s0.dsp.missed h ((l, y, k) :: Tab.get s0.dsp.missed h []) [] } }
    if Tab.get s1.dsp.under h false then s1
    else { s1 with dsp := { s1.dsp with under := Tab.put s1.dsp.under h true false } }.fault (99 + h) l

/-! The display service (R283 to R291). -/

/-- The head of a service entry. -/
def dispHead (s : State) (e : Nat) : Nat := s.param e 0 1 % 2

/-- A message that is discarded and counted in BADMSG. -/
def badMsg (s : State) (e : Nat) : State := s.dispCount e 4

/-- The surface of a layer that its pixels are written to, or shown from. -/
def backSurf (s : State) (h l : Nat) : Nat := s.shadowSurf h l (1 - s.rd LY_STAT_FRONT h l)
def frontSurf (s : State) (h l : Nat) : Nat := s.shadowSurf h l (s.rd LY_STAT_FRONT h l)

/-- The 256 pixels of a tile, in raster order, that lie within W × H, with their number in the tile (R284). -/
def tilePixels (s : State) (h l tx ty : Nat) : List (Nat × Nat × Nat) :=
  ((List.range 256).map (fun k => (k, 16 * tx + k % 16, 16 * ty + k / 16))).filter
    (fun p => p.2.1 < s.rd LY_SIZE_W h l && p.2.2 < s.rd LY_SIZE_H h l)

/-- The changed tiles are copied from the new front surface into the new back surface (R290). -/
def copyBack (s : State) (h l : Nat) : State :=
  let y := 4 * h + l
  let st := s.rd LY_STRIDE_STRIDE h l
  let d := s.rd LY_CTRL_DEPTH h l
  let s1 := s.each (Tab.get s.dsp.copy y []) (fun s t => s.each (s.tilePixels h l t.1 t.2) (fun s p =>
    s.setPixel (s.backSurf h l) st d p.2.1 p.2.2 (s.pixel (s.frontSurf h l) st d p.2.1 p.2.2)))
  { s1 with dsp := { s1.dsp with copy := Tab.put s1.dsp.copy y [] [] } }

/-- The indices that RLE runs spell. -/
def runIndices : Nat → List Byte → List Nat
  | 0, _ => []
  | n + 1, c :: i :: l => List.replicate (c.toNat + 1) i.toNat ++ runIndices n l
  | _ + 1, _ => []

/-- The 256 indices of a TILE body (R284); none: malformed. -/
def tileIndices (s : State) (h l : Nat) (m : DispMsg) : Option (List Nat) :=
  let d := s.rd LY_CTRL_DEPTH h l
  let b := m.body.drop 4
  let n := ofBe (b.take 2)
  match m.mode with
  | 0 =>
    if m.body.length ≠ 4 + 32 * 2 ^ d then none
    else some ((List.range 256).map (fun k => (b.getD (k * 2 ^ d / 8) 0).toNat / 2 ^ (k * 2 ^ d % 8) % 2 ^ 2 ^ d))
  | 1 =>
    if m.body.length ≠ (8 + 2 * n + 3) / 4 * 4 then none
    else some (runIndices n (b.drop 4))
  | 2 => if m.body.length ≠ 8 then none else some (List.replicate 256 (b.getD 0 0).toNat)
  | _ =>
    let sx := ofBe (b.take 2)
    let sy := ofBe ((b.drop 2).take 2)
    if m.body.length ≠ 8 || sx + 16 > s.rd LY_SIZE_W h l || sy + 16 > s.rd LY_SIZE_H h l then none
    else some ((List.range 256).map (fun k => s.pixel (s.frontSurf h l) (s.rd LY_STRIDE_STRIDE h l) d (sx + k % 16) (sy + k / 16)))

/-- The count of tile messages of a batch with one more. -/
def countTile : List (Nat × Nat) → Nat → List (Nat × Nat)
  | [], b => [(b, 1)]
  | (b', n) :: l, b => if b' = b then (b', n + 1) :: l else (b', n) :: countTile l b

/-- A TILE message (R284): its pixels are written to the back surface, or it is discarded. -/
def tileMsg (s : State) (e h : Nat) (m : DispMsg) : State :=
  let l := m.layer
  let y := 4 * h + l
  let d := s.rd LY_CTRL_DEPTH h l
  let tx := ofBe (m.body.take 2)
  let ty := ofBe ((m.body.drop 2).take 2)
  let out := tx ≥ (s.rd LY_SIZE_W h l + 15) / 16 || ty ≥ (s.rd LY_SIZE_H h l + 15) / 16
  match s.tileIndices h l m with
  | none => s.badMsg e
  | some ix =>
    if m.dcode ≠ d || out || ix.length ≠ 256 || ix.any (fun v => v ≥ 2 ^ 2 ^ d) then s.badMsg e
    else
      let s1 := s.each (s.tilePixels h l tx ty) (fun s p =>
        s.setPixel (s.backSurf h l) (s.rd LY_STRIDE_STRIDE h l) d p.2.1 p.2.2 (ix.getD p.1 0))
      let ch := Tab.get s1.dsp.changed y []
      { s1 with dsp := { s1.dsp with
        tiles := Tab.put s1.dsp.tiles y (countTile (Tab.get s1.dsp.tiles y []) m.batch) [],
        changed := Tab.put s1.dsp.changed y (if ch.contains (tx, ty) then ch else ch ++ [(tx, ty)]) [] } }

/-- A PALETTE message (R285). -/
def paletteMsg (s : State) (e h : Nat) (m : DispMsg) : State :=
  let start := (m.body.getD 0 0).toNat
  let cnt := (m.body.getD 1 0).toNat + 1
  if m.body.length ≠ 4 + 4 * cnt || start + cnt > 256 then s.badMsg e
  else
    s.each (List.range cnt) (fun s i =>
      let k := 256 * m.layer + start + i
      let b (j : Nat) : Nat := (m.body.getD (4 + 4 * i + j) 0).toNat
      (((s.wr LY_PAL_ALPHA (b 0) h k).wr LY_PAL_RED (b 1) h k).wr LY_PAL_GREEN (b 2) h k).wr LY_PAL_BLUE (b 3) h k)

/-- A refused service commit (R286, R287): frame and flip time of its ACK are left open by the spec. -/
def refuseSvc (s : State) (e h reason : Nat) (m : DispMsg) (ackReq : Bool) : State :=
  let (f, s1) := s.free 32
  let (sec, s2) := s1.free 48
  let (ns, s3) := s2.free 32
  s3.giveResult { entry := e, layer := m.layer, batch := m.batch, refused := true, reason := reason,
                  tilesRx := s.tilesOf (4 * h + m.layer) m.batch, ackReq := ackReq, frame := f, sec := sec, ns := ns }

/-- A COMMIT message (R276, R279, R286, R288). -/
def commitMsg (s : State) (e h ver : Nat) (m : DispMsg) : State :=
  let y := 4 * h + m.layer
  let flags := (m.body.getD 4 0).toNat
  let tgt := if ver ≥ 3 && flags.testBit 0 then some (ofBe (m.body.take 4)) else none
  let ackReq := ver ≥ 2 && flags.testBit 1
  if m.body.length ≠ 16 then s.badMsg e
  else if s.restricted then s.refuseSvc e h 4 m ackReq
  else if !s.on LY_CTRL_OWNER h m.layer then s.refuseSvc e h 3 m ackReq
  else if !s.layerOk h m.layer then s.refuseSvc e h 1 m ackReq
  else
    match s.commitDue h tgt with
    | none => s.refuseSvc e h 2 m ackReq
    | some (due, late) =>
      let c : SvcCommit := { entry := e, batch := m.batch, tiles := ofBe ((m.body.drop 6).take 2), ackReq := ackReq, due := due,
                             late := late, tgt := tgt.isSome && !late }
      { (s.wr LY_STAT_TPEND 1 h m.layer) with dsp := { s.dsp with svc := Tab.put s.dsp.svc y (some c) none } }

/-- The version allows a message (R288). -/
def versionAllows (ver : Nat) (m : DispMsg) : Bool := m.ty != msgTile || m.mode == 0 || m.mode == 2 || ver ≥ 2

/-- A message joins the hold area, or is discarded where it does not fit (R289, R291). -/
def holdMsg (s : State) (e : Nat) (raw : List Byte) : State :=
  let l := Tab.get s.dsp.hold e []
  if (l.map (·.length)).foldl (· + ·) 0 + raw.length > s.param e 4 2 * 64 then s.dispCount e 6
  else { s with dsp := { s.dsp with hold := Tab.put s.dsp.hold e (l ++ [raw]) [] } }

/-- The header and body of a message (R283). -/
def parseMsg (raw : List Byte) : DispMsg :=
  let b1 := (raw.getD 1 0).toNat
  { ty := (raw.getD 0 0).toNat, layer := bitsOf b1 7 6, mode := bitsOf b1 5 4, dcode := bitsOf b1 3 2,
    batch := ofBe ((raw.drop 2).take 2), body := raw.drop 8 }

/-- A message of a known type takes effect, waits, or is discarded (R283 to R289). -/
def dispMsg (s : State) (e : Nat) (raw : List Byte) : State :=
  let m := parseMsg raw
  let h := s.dispHead e
  let y := 4 * h + m.layer
  let slot := s.rd TEN_SVC1_RXSLOT e
  let fn := s.rd CTX1_DEST slot % 8
  let ver := s.rd CTX2_VER slot
  if !(s.param e 1 1).testBit m.layer || (fn ≠ 0 && m.layer + 1 ≠ fn) || !versionAllows ver m || m.body.length > 2048 then s.badMsg e
  else
    let old := match Tab.get s.dsp.last y none with
      | none => false
      | some b => diffBatch m.batch b < 0 || (m.ty == msgCommit && m.batch == b)
    let waits := match s.svcPend h m.layer with
      | none => false
      | some c => diffBatch m.batch c.batch > 0
    if waits then s.holdMsg e raw
    else if old || (m.ty = msgCommit && (s.svcPend h m.layer).isSome) then s.dispCount e 5
    else if m.ty = msgCommit then (s.copyBack h m.layer).commitMsg e h ver m
    else if !s.on LY_CTRL_OWNER h m.layer then s.badMsg e
    else if m.ty = msgTile then (s.copyBack h m.layer).tileMsg e h m
    else s.paletteMsg e h m

/-- The messages of the hold area are taken again, in order (R289). -/
def replay (s : State) (e : Nat) : State :=
  let l := Tab.get s.dsp.hold e []
  ({ s with dsp := { s.dsp with hold := Tab.put s.dsp.hold e [] [] } }).each l (fun s raw => s.dispMsg e raw)

/-- A message of a known type and a whole length (R283). -/
def goodMsg (raw : List Byte) : Bool :=
  [msgTile, msgPalette, msgCommit].contains (raw.getD 0 0).toNat && raw.length % 4 == 0

/-- The service of entry `e` takes its next message where it is of type `ty` (R283, R289). -/
def serveMsg (s : State) (e ty : Nat) : State :=
  if !s.svcRuns e || s.rd TEN_SVC0_TYPE e ≠ tyDisplay then s
  else
    match (s.replay e).takeMessage e tyDisplay [ty] (fun s => s.badMsg e) goodMsg with
    | (s1, none) => s1
    | (s1, some raw) => s1.dispMsg e raw

/-- The 32 bytes of an ACK message (R283, R287). -/
def ackBytes (a : DispAck) : List Byte :=
  beBytes 1 0x81 ++ beBytes 1 (a.layer * 64) ++ beBytes 2 a.batch ++ beBytes 2 24 ++ beBytes 2 0 ++
  beBytes 1 (bit a.late + 2 * bit a.part + 4 * bit a.refused) ++ beBytes 1 a.reason ++ beBytes 2 a.tilesRx ++
  beBytes 4 a.frame ++ beBytes 6 a.sec ++ beBytes 4 a.ns ++ beBytes 6 0

/-- The oldest ACK of entry `e` is sent on the return tunnel (R287). -/
def sendAck (s : State) (e : Nat) : State :=
  match Tab.get s.dsp.acks e [] with
  | [] => s
  | a :: l =>
    if !s.svcRuns e || s.rd TEN_SVC0_TYPE e ≠ tyDisplay then s
    else ({ s with dsp := { s.dsp with acks := Tab.put s.dsp.acks e l [] } }).engineSend e (ackBytes a)

/-- The service copies what a flip of layer `l` of head `h` left to copy, and takes the messages that waited (R289, R290). -/
def tileCopy (s : State) (h l : Nat) : State :=
  match (List.range 128).find? (fun e => s.svcRuns e && s.rd TEN_SVC0_TYPE e == tyDisplay && s.dispHead e == h && (s.param e 1 1).testBit l) with
  | none => s
  | some e => (s.copyBack h l).replay e

/-! Register writes. -/

/-- A write of a register in which OWNER = 1 or a pending commit freezes the content (R277, R278). -/
def layerWrite (s : State) (h l r w : Nat) : State :=
  let off := 0x1E1100 + 0x1000 * h + 0x40 * l + r
  let pend := s.on LY_STAT_PEND h l
  let own := s.on LY_CTRL_OWNER h l
  if r = 0 then
    let s1 := if s.on LY_STAT_ACTEN h l then s.when (s.fieldChanges LY_CTRL_OWNER h l w) (·.hdFlag HD_STAT_CFGREJ h)
      else s.writeField (s.on DSP_CTRL_LOCK) LY_CTRL_OWNER h l w
    if pend then s1.hdFlag HD_STAT_WLATE h
    else if own then
      (s1.writeField false LY_CTRL_EN h l w).when (s.fieldChanges LY_CTRL_DEPTH h l w) (·.hdFlag HD_STAT_CFGREJ h)
    else s1.writeFields false [LY_CTRL_EN, LY_CTRL_DEPTH] h l w
  else if r = 4 || r ≥ 0x24 then s
  else if pend then s.hdFlag HD_STAT_WLATE h
  else if own && r ≠ 0x20 then s.hdFlag HD_STAT_CFGREJ h
  else s.writeReg off w

/-- A write of a shadow palette entry (R277, R278). -/
def palWrite (s : State) (h l off w : Nat) : State :=
  if s.on LY_STAT_PEND h l then s.hdFlag HD_STAT_WLATE h
  else if s.on LY_CTRL_OWNER h l then s.hdFlag HD_STAT_CFGREJ h
  else s.writeReg off w

/-- A write of a head's register at offset `r` (R267, R281). -/
def headWrite (s : State) (h r w : Nat) : State :=
  let off := 0x1E1000 + 0x1000 * h + r
  if r = 0 then s.headCtrlWrite h w
  else if 8 ≤ r && r < 0x1C then if s.on HD_CTRL_EN h then s.hdFlag HD_STAT_CFGREJ h else s.writeReg off w
  else if r = 0x24 then s.softCommit h w
  else if 0x40 ≤ r && r < 0x58 then
    if s.on HD_CTRL_LOCK h then s.hdFlag HD_STAT_CFGREJ h
    else
      (s.writeReg off w).when ((r = 0x48 && w > 999999999) || (r = 0x4C && !HD_PERIOD_NS_NS.codeOk w)) (·.hdFlag HD_STAT_CFGREJ h)
  else if r = 0x7C then s.each (List.range 6) (fun s i => s.when (w.testBit i) (·.wr HD_CNT_COUNT 0 h i))
  else s.writeReg off w

/-- Writes of DSP registers. -/
def dspWrite (s : State) (off w : Nat) : Option State :=
  let o := off - 0x1E0000
  if off < 0x1E1000 || off ≥ 0x1E6000 || off % 4 ≠ 0 then none
  else if o < 0x3000 then
    let h := (o - 0x1000) / 0x1000
    let r := o % 0x1000
    if 0x100 ≤ r && r < 0x200 then some (s.layerWrite h ((r - 0x100) / 0x40) (r % 0x40) w) else some (s.headWrite h r w)
  else if 0x4000 ≤ o then some (s.palWrite ((o - 0x4000) / 0x1000) (o % 0x1000 / 0x400) off w)
  else none

end State

/-- HEAD_ENABLE (R267): `w` written to HD_CTRL of head `h`. -/
def execHeadEnable (h : Fin 2) (w : Word) (s : State) : Host.Outcome State Fault Refusal := .next (s.headCtrlWrite h w.toNat)

/-- DP_LINK_TRAINING (R268): training ends at a rate (0: failed at every rate) and a lane code. -/
def execDpLinkTraining (rate lanes : Fin 4) (s : State) : Host.Outcome State Fault Refusal := .next (s.dpTrain rate lanes)

/-- HPD_LOW (R268). -/
def execHpdLow (s : State) : Host.Outcome State Fault Refusal := .next s.hpdLow

/-- HPD_IRQ (R268). -/
def execHpdIrq (s : State) : Host.Outcome State Fault Refusal := .next s.hpdIrq

/-- FRAME_START (R275, R281): `ago`, in 2^-32 ns, since the end of VFP. -/
def execFrameStart (h : Fin 2) (ago : Nat) (s : State) : Host.Outcome State Fault Refusal := .next (s.frameStart h ago)

/-- WINDOW_CLOSE (R275). -/
def execWindowClose (h : Fin 2) (s : State) : Host.Outcome State Fault Refusal :=
  if s.headRuns h then .next { s with dsp := { s.dsp with closed := Tab.put s.dsp.closed h true false } } else .next s

/-- APPLY_POINT (R276, R280). -/
def execApplyPoint (h : Fin 2) (s : State) : Host.Outcome State Fault Refusal := .next (s.applyPoint h)

/-- FETCH_UNDERRUN (R274) of burst `k` of row `y` of layer `l`'s surface; `ecc`: returned with an uncorrectable error instead of late. -/
def execFetchUnderrun (h : Fin 2) (l : Fin 4) (y : Fin 4096) (k : Fin 64) (ecc : Bool) (s : State) : Host.Outcome State Fault Refusal :=
  .next (s.fetchMiss h l y k ecc)

/-- SOFTWARE_COMMIT (R277): `w` written to HD_COMMIT of head `h`. -/
def execSoftwareCommit (h : Fin 2) (w : Word) (s : State) : Host.Outcome State Fault Refusal := .next (s.softCommit h w.toNat)

/-- TE_EDGE (R282): a falling or rising edge of DSI_TE; `ago`, in 2^-32 ns, since its first transition. -/
def execTeEdge (h : Fin 2) (fall : Bool) (ago : Nat) (s : State) : Host.Outcome State Fault Refusal := .next (s.teEdge h fall ago)

/-- TE_TIMEOUT (R282). -/
def execTeTimeout (h : Fin 2) (s : State) : Host.Outcome State Fault Refusal := .next (s.teTimeout h)

/-- DISPLAY_TILE (R284): entry `e`'s next message, where it is a TILE. -/
def execDisplayTile (e : Fin 128) (s : State) : Host.Outcome State Fault Refusal := .next (s.serveMsg e msgTile)

/-- DISPLAY_PALETTE (R285). -/
def execDisplayPalette (e : Fin 128) (s : State) : Host.Outcome State Fault Refusal := .next (s.serveMsg e msgPalette)

/-- DISPLAY_COMMIT (R286). -/
def execDisplayCommit (e : Fin 128) (s : State) : Host.Outcome State Fault Refusal := .next (s.serveMsg e msgCommit)

/-- DISPLAY_ACK_SEND (R287). -/
def execDisplayAckSend (e : Fin 128) (s : State) : Host.Outcome State Fault Refusal := .next (s.sendAck e)

/-- TILE_COPYBACK (R290). -/
def execTileCopyback (h : Fin 2) (l : Fin 4) (s : State) : Host.Outcome State Fault Refusal := .next (s.tileCopy h l)

/-- DSTAT (R291): opcode 0x40 submitted to MBXm of engine `n` for entry `e`. -/
def execDstat (n : Fin 16) (m : Fin 2) (e : Fin 128) (s : State) : Host.Outcome State Fault Refusal := .next (s.mbxSubmit n m 0x40 e)

/-- DCLR (R291): opcode 0x41. -/
def execDclr (n : Fin 16) (m : Fin 2) (e : Fin 128) (s : State) : Host.Outcome State Fault Refusal := .next (s.mbxSubmit n m 0x41 e)

end Sys2Proof.Machine
end

