-- ==== Sys2Proof/Machine/UsbProxy.lean ====
section
/-! DEFINITION. USB ports and the proxy service between a NEAR and a FAR port (R294, R300 to R311 of spec/12_usb_tunnels.md). Ports are numbered 1–5; endpoint directions 2·EP + DIR, DIR 1 for IN. -/

namespace Sys2Proof.Machine

/-- Message types of R303. -/
inductive ProxyType where
  | portStat | portCmd | xfer | result | periodic | portAck | perAck | wake
  deriving DecidableEq, Repr

/-- The numbers of the types. -/
def ProxyType.code : ProxyType → Nat
  | .portStat => 1 | .portCmd => 2 | .xfer => 3 | .result => 4 | .periodic => 5 | .portAck => 6 | .perAck => 7 | .wake => 8

/-- The PID byte of a token (R303). -/
def UsbPid.code : UsbPid → Nat
  | .setup => 0x2D | .out => 0xE1 | .inn => 0x69

/-- A PID byte read. -/
def pidOf (c : Nat) : Option UsbPid := if c = 0x2D then some .setup else if c = 0xE1 then some .out else if c = 0x69 then some .inn else none

/-- The IN direction. -/
def UsbPid.isIn (p : UsbPid) : Bool := p == .inn

/-- RESULT codes (R303). -/
inductive ResCode where
  | ack | nak | stall | data | err | gone
  deriving DecidableEq, Repr

/-- The numbers of the codes. -/
def ResCode.code : ResCode → Nat
  | .ack => 0 | .nak => 1 | .stall => 2 | .data => 3 | .err => 4 | .gone => 5

/-- The bytes of a proxy message (R303). -/
def proxyBytes (ty : ProxyType) (ep : Nat) (isIn : Bool) (xt : Nat) (tog : Bool) (tag code : Nat) (body : List Byte) (epoch : Nat) : List Byte :=
  beBytes 1 ty.code ++ beBytes 1 (ep % 16 * 16 + 8 * bit isIn + 2 * (xt % 4) + bit tog) ++ beBytes 1 tag ++ beBytes 1 code ++
  beBytes 2 body.length ++ beBytes 1 0 ++ beBytes 1 epoch ++ body

/-- A proxy message read. -/
structure ProxyMsg where
  ep : Nat
  isIn : Bool
  xt : Nat
  tag : Nat
  code : Nat
  epoch : Nat
  body : List Byte
  deriving DecidableEq, Repr

/-- The fields of a message. -/
def parseProxy (raw : List Byte) : ProxyMsg :=
  let b1 := (raw.getD 1 0).toNat
  { ep := bitsOf b1 7 4, isIn := b1.testBit 3, xt := bitsOf b1 2 1, tag := (raw.getD 2 0).toNat, code := (raw.getD 3 0).toNat,
    epoch := (raw.getD 7 0).toNat, body := raw.drop 8 }

/-- The signed difference of two 8-bit epochs. -/
def diffEpoch (a b : Nat) : Int := signedOf 8 ((a + 256 - b % 256) % 256)

/-- Number of an endpoint direction. -/
def epDir (ep : Nat) (isIn : Bool) : Nat := 2 * ep + bit isIn

/-- A control transfer followed one transaction further: the SETUP and IN data of one that completes with success (R306, R308). -/
def ProxyCtl.advance (c : ProxyCtl) (pid : UsbPid) (data : List Byte) (code : Nat) (back : List Byte) : ProxyCtl × Option (List Byte × List Byte) :=
  let dirIn := (c.setup.getD 0 0).toNat ≥ 128
  let staged := ofLe ((c.setup.drop 6).take 2) != 0
  match pid with
  | .setup => if code = ResCode.ack.code then ({ setup := data }, none) else (c, none)
  | .inn =>
    if code = ResCode.stall.code then ({}, none)
    else if code ≠ ResCode.data.code || c.setup.isEmpty then (c, none)
    else if dirIn && staged then ({ c with got := c.got ++ back }, none)
    else if back.isEmpty then ({}, some (c.setup, c.got))
    else (c, none)
  | .out =>
    if code = ResCode.stall.code then ({}, none)
    else if code ≠ ResCode.ack.code || c.setup.isEmpty then (c, none)
    else if dirIn && staged && data.isEmpty then ({}, some (c.setup, c.got))
    else (c, none)

/-- bmRequestType, bRequest, wValue and wIndex of SETUP bytes. -/
def setupFields (b : List Byte) : Nat × Nat × Nat × Nat :=
  ((b.getD 0 0).toNat, (b.getD 1 0).toNat, ofLe ((b.drop 2).take 2), ofLe ((b.drop 4).take 2))

/-- An endpoint of a configuration descriptor (R306). -/
structure DescEp where
  iface : Nat := 0
  alt : Nat := 0
  addr : Nat := 0
  attr : Nat := 0
  interval : Nat := 0
  deriving DecidableEq, Repr

/-- The endpoints of a configuration descriptor, walked descriptor by descriptor. -/
def descEps : Nat → List Byte → Nat → Nat → List DescEp
  | 0, _, _, _ => []
  | n + 1, l, iface, alt =>
    let len := (l.getD 0 0).toNat
    let ty := (l.getD 1 0).toNat
    if len < 2 || l.length < len then []
    else if ty = 4 then descEps n (l.drop len) (l.getD 2 0).toNat (l.getD 3 0).toNat
    else if ty = 5 then
      { iface := iface, alt := alt, addr := (l.getD 2 0).toNat, attr := (l.getD 3 0).toNat, interval := (l.getD 6 0).toNat } ::
        descEps n (l.drop len) iface alt
    else descEps n (l.drop len) iface alt

/-- The interval in frames at which an endpoint is polled (R306). -/
def pollInterval (low : Bool) (i : Nat) : Nat := if low then max i 10 else max i 1

namespace State

/-- A counter of USB_CNT advances. -/
def usbCount (s : State) (i : Nat) : State := s.sat USB_CNT_COUNT i

/-- A count of a proxy entry (USTAT) advances, saturating at 32 bits. -/
def proxyCount (s : State) (e k : Nat) : State :=
  { s with usb := { s.usb with counts := Tab.put s.usb.counts (8 * e + k) (satAdd 32 (Tab.get s.usb.counts (8 * e + k) 0) 1) 0 } }

/-- BADMSG of the block, and of an entry. -/
def proxyBad (s : State) (e : Nat) : State := (s.usbCount 5).proxyCount e 4

/-- The role, port, RTO (in ns) and RETRY of a proxy entry (R311). -/
def proxyPort (s : State) (e : Nat) : Nat := s.param e 1 1
def proxyRto (s : State) (e : Nat) : Nat := s.param e 6 1 * 1000000
def proxyRetry (s : State) (e : Nat) : Nat := s.param e 7 1
def proxyVer (s : State) (e : Nat) : Nat := s.rd CTX2_VER (s.rd TEN_SVC1_RXSLOT e)

/-- The enabled entry that serves port `n` (R311). -/
def portEntry (s : State) (n : Nat) : Option Nat :=
  (List.range 128).find? (fun e => s.on TEN_SVC0_EN e && s.rd TEN_SVC0_TYPE e == tyUsb && s.rd TEN_SVC0_STATE e != svcBound && s.proxyPort e == n)

/-- The MODE of port `n` (1–4). -/
def portMode (s : State) (n : Nat) : Nat := s.rd USB_PORT_MODE (n - 1)

/-- The two sides of a proxied port. -/
def near (s : State) (n : Nat) : Near := Tab.get s.usb.near n {}
def setNear (s : State) (n : Nat) (x : Near) : State := { s with usb := { s.usb with near := Tab.put s.usb.near n x {} } }
def far (s : State) (n : Nat) : Far := Tab.get s.usb.far n {}
def setFar (s : State) (n : Nat) (x : Far) : State := { s with usb := { s.usb with far := Tab.put s.usb.far n x {} } }

/-- The hub's answer on the upstream bus. -/
def usbAnswer (s : State) (a : UsbAnswer) : State := { s with usb := { s.usb with answer := a } }

/-- A change bit of port `n`: 0 connection, 1 enable, 2 suspend, 3 over-current, 4 reset. -/
def portChange (s : State) (n b : Nat) : State :=
  { s with usb := { s.usb with change := Tab.put s.usb.change n (withBit (Tab.get s.usb.change n 0) b true) 0 } }

/-- A wake source occurs (R299): held until remote wake-up may be signalled; nothing while the bus is not suspended or remote wake-up is not enabled. -/
def wakeSource (s : State) : State :=
  if s.rd USB_STAT_USTATE = 5 && s.on USB_STAT_RWKEN then { s with usb := { s.usb with wakeHeld := true } } else s

/-- Messages that a side sends, on the service that serves its port. -/
def sendNear (s : State) (n : Nat) (ty : ProxyType) (ep : Nat) (isIn : Bool) (xt tag code : Nat) (tog : Bool) (body : List Byte) : State :=
  match s.portEntry n with
  | none => s
  | some e => s.engineSend e (proxyBytes ty ep isIn xt tog tag code body (s.near n).epoch)
def sendFar (s : State) (n : Nat) (ty : ProxyType) (ep : Nat) (isIn : Bool) (xt tag code : Nat) (tog : Bool) (body : List Byte) : State :=
  match s.portEntry n with
  | none => s
  | some e => s.engineSend e (proxyBytes ty ep isIn xt tog tag code body (s.far n).epoch)

/-- The service of port `n` runs. -/
def proxyRuns (s : State) (n : Nat) : Bool :=
  match s.portEntry n with
  | none => false
  | some e => s.svcRuns e

/-- The service of port `n` takes new transactions (R255). -/
def proxyTakes (s : State) (n : Nat) : Bool :=
  match s.portEntry n with
  | none => false
  | some e => s.svcTakes e

/-! The near side (R304 to R310). -/

/-- A port command is sent (R309). -/
def sendCmd (s : State) (n code : Nat) : State := s.sendNear n .portCmd 0 false 0 0 code false []

/-- Every toggle of a side returns to DATA0 (R308), and the halts that the near side answers end. -/
def nearToggles (s : State) (n : Nat) : State := s.setNear n { s.near n with tog := [], stalled := [] }

/-- The near hub's part of a control request that completed (R306, R308). -/
def nearRequest (s : State) (n : Nat) (setup got : List Byte) : State :=
  let (rt, rq, val, ix) := setupFields setup
  if rt = 0 && rq = 9 then (s.setNear n { s.near n with cfg := val % 256 }).nearToggles n
  else if rt = 1 && rq = 11 then s.nearToggles n
  else if rt = 2 && rq = 1 && val = 0 then
    let k := epDir (ix % 16) (ix.testBit 7)
    s.setNear n { s.near n with tog := Tab.put (s.near n).tog k false false, stalled := Tab.put (s.near n).stalled k false false }
  else if rt = 0x80 && rq = 6 && val / 256 = 2 && got.length > 5 then
    s.setNear n { s.near n with longs := Tab.put (s.near n).longs (got.getD 5 0).toNat (decide (ofLe ((got.drop 2).take 2) > 1024)) false }
  else s

/-- A transaction of the near side has its result, delivered to the host: the answer, the toggle and the control transfer move on (R304, R308). -/
def nearDeliver (s : State) (n : Nat) (x : ProxyXfer) (code : Nat) (back : List Byte) : State :=
  let k := epDir x.ep x.pid.isIn
  let c := (s.near n).ctl.advance x.pid x.data code back
  let t := Tab.get (s.near n).tog k false
  let nr := s.near n
  let nr1 := { nr with ctl := if x.xt = 0 then c.1 else nr.ctl,
                       tog := if code = ResCode.data.code || (code = ResCode.ack.code && x.pid = .out) then Tab.put nr.tog k (!t) false
                              else if x.pid = .setup then Tab.put (Tab.put nr.tog (2 * x.ep) true false) (2 * x.ep + 1) true false
                              else nr.tog }
  let s1 := (s.setNear n nr1).usbAnswer
    (if code = 0 then .ack else if code = 1 then .nak else if code = 2 then .stall else if code = 3 then .data t back else .none)
  match if x.xt = 0 then c.2 else none with
  | none => s1
  | some (setup, got) => s1.nearRequest n setup got

/-- The port takes split transactions: a NEAR port with an enabled device, whose engine has not halted since it connected (R311). -/
def splitOk (s : State) (n : Nat) : Bool :=
  s.portMode n == 1 && s.on USB_PORT_CONN (n - 1) && s.on USB_PORT_ENA (n - 1) && s.on USB_STAT_HS && !(s.near n).dead

/-! The translator for LOCAL ports (R295, R301), as USB 2.0 gives it (log entry 69). Its transactions stand in the same lists as those of NEAR ports. -/

/-- A full- or low-speed device on a LOCAL port is reached through the translator. -/
def ttOk (s : State) (n : Nat) : Bool :=
  s.portMode n == 0 && s.on USB_PORT_CONN (n - 1) && s.on USB_PORT_ENA (n - 1) && !s.on USB_PORT_SUSP (n - 1) && s.on USB_STAT_HS &&
  s.rd USB_PORT_SPEED (n - 1) ≤ 1

/-- Control and bulk transactions that the single translator holds. -/
def ttHeld (s : State) : Nat :=
  ([1, 2, 3, 4].flatMap (fun n => if s.portMode n = 0 then (s.near n).pend.filter (fun x => x.xt == 0 || x.xt == 2) else [])).length

/-- A start-split for a LOCAL port: two control or bulk transactions at a time are held, periodic ones have no handshake. -/
def ttStart (s : State) (n ep : Nat) (pid : UsbPid) (xt : Nat) (data : List Byte) : State :=
  let nr := s.near n
  let x : ProxyXfer := { tag := nr.tag, ep := ep, pid := pid, xt := xt, data := data }
  let add (s : State) : State := s.setNear n { nr with tag := (nr.tag + 1) % 256, pend := nr.pend ++ [x] }
  if xt = 0 || xt = 2 then (if s.ttHeld < 2 then (add s).usbAnswer .ack else s.usbAnswer .nak) else (add s).usbAnswer .none

/-- The oldest transaction of a LOCAL port has its outcome; a device that does not answer stalls control and bulk transactions. -/
def ttDone (s : State) (n : Nat) (r : DeviceReply) : State :=
  let nr := s.near n
  match nr.pend.find? (fun x => x.result.isNone) with
  | none => s
  | some x =>
    let res : Nat × List Byte := match r with
      | .ack => (0, []) | .nak => (1, []) | .stall => (2, []) | .data d => (3, d)
      | .timeout => (if x.xt = 0 || x.xt = 2 then 2 else 4, [])
    s.setNear n { nr with pend := nr.pend.map (fun y => if y.tag == x.tag then { y with result := some res } else y) }

/-- The transaction that a complete-split asks for: not ended, ended, or none. -/
def splitAnswer (s : State) (n ep : Nat) (pid : UsbPid) : State :=
  match (s.near n).pend.find? (fun x => x.ep == ep && x.pid == pid) with
  | none => s.usbAnswer .none
  | some x =>
    match x.result with
    | none => s.usbAnswer .nyet
    | some (code, back) => (s.setNear n { s.near n with pend := (s.near n).pend.erase x }).nearDeliver n x code back

/-! Splits for NEAR ports. -/

/-- The time after which an unanswered XFER is sent again begins (R305). -/
def armXfer (s : State) (n tag : Nat) : State :=
  match s.portEntry n with
  | none => s
  | some e => s.arm (.xfer n tag) (s.proxyRto e)

/-- An XFER is sent with a fresh TAG and waits for its RESULT. -/
def sendXfer (s : State) (n ep : Nat) (pid : UsbPid) (xt : Nat) (data : List Byte) : State :=
  let nr := s.near n
  let t := pid == .out && Tab.get nr.tog (epDir ep false) false
  let x : ProxyXfer := { tag := nr.tag, ep := ep, pid := pid, xt := xt, data := data, tog := t }
  ((s.setNear n { nr with tag := (nr.tag + 1) % 256, pend := nr.pend ++ [x] }).armXfer n nr.tag).sendNear n .xfer ep pid.isIn xt nr.tag pid.code t data

/-- Interrupt transactions are handled without waiting on the far side (R306). -/
def asInterrupt (s : State) (n xt : Nat) : Bool := xt == 3 && !Tab.get (s.near n).longs (s.near n).cfg false

/-- An interrupt OUT is taken while the OUT queue has room (R306); the host's toggle moves on. -/
def outTake (s : State) (n ep : Nat) (data : List Byte) : State :=
  let room := decide (((s.near n).pend.filter (fun x => x.xt == 3 && x.ep == ep)).length < 4) && s.proxyTakes n
  let s1 := (s.setNear n { s.near n with outOk := Tab.put (s.near n).outOk ep room false }).usbAnswer .none
  if room && !Tab.get (s.near n).stalled (epDir ep false) false then
    let s2 := s1.sendXfer n ep .out 3 data
    let k := epDir ep false
    s2.setNear n { s2.near n with tog := Tab.put (s2.near n).tog k (!Tab.get (s2.near n).tog k false) false }
  else s1

/-- START_SPLIT (R302, R304, R306). -/
def startSplit (s : State) (n ep : Nat) (pid : UsbPid) (xt : Nat) (data : List Byte) : State :=
  if s.ttOk n then s.ttStart n ep pid xt data
  else if !s.splitOk n || !s.proxyRuns n then s.usbAnswer .none
  else if xt = 1 then
    match s.portEntry n with
    | none => s
    | some e => (s.proxyBad e).usbAnswer .none
  else if s.asInterrupt n xt then (if pid.isIn then s.usbAnswer .none else s.outTake n ep data)
  else if ((s.near n).pend.filter (fun x => !s.asInterrupt n x.xt)).length < 2 && s.proxyTakes n then
    (s.sendXfer n ep pid xt data).usbAnswer .ack
  else s.usbAnswer .nak

/-- A complete-split of an interrupt endpoint (R306). -/
def completeInterrupt (s : State) (n ep : Nat) (pid : UsbPid) : State :=
  let nr := s.near n
  let k := epDir ep pid.isIn
  let t := Tab.get nr.tog k false
  if Tab.get nr.stalled k false then s.usbAnswer .stall
  else if !pid.isIn then s.usbAnswer (if Tab.get nr.outOk ep false then .ack else .nak)
  else
    match Tab.get nr.reports ep [] with
    | [] => s.usbAnswer .nak
    | r :: l =>
      (s.setNear n { nr with reports := Tab.put nr.reports ep l [], tog := Tab.put nr.tog k (!t) false }).usbAnswer (.data t r)

/-- COMPLETE_SPLIT (R304, R306). -/
def completeSplit (s : State) (n ep : Nat) (pid : UsbPid) (xt : Nat) : State :=
  if s.ttOk n then s.splitAnswer n ep pid
  else if !s.splitOk n || !s.proxyRuns n || xt = 1 then s.usbAnswer .none
  else if s.asInterrupt n xt then s.completeInterrupt n ep pid
  else s.splitAnswer n ep pid

/-- A result for a pending transaction of the near side: kept for the complete-split, or the end of an interrupt OUT, whose STALL halts the endpoint (R304, R306). -/
def nearResult (s : State) (n e : Nat) (x : ProxyXfer) (code : Nat) (back : List Byte) : State :=
  let nr := s.near n
  let s1 := s.proxyCount e 0
  if s.asInterrupt n x.xt then
    s1.setNear n { nr with pend := nr.pend.erase x,
                           stalled := if code = ResCode.stall.code then Tab.put nr.stalled (epDir x.ep false) true false else nr.stalled }
  else s1.setNear n { nr with pend := nr.pend.map (fun y => if y.tag == x.tag then { y with result := some (code, back) } else y) }

/-- RESULT at the near hub (R304, R309). -/
def resultMsg (s : State) (e : Nat) (m : ProxyMsg) : State :=
  let n := s.proxyPort e
  if diffEpoch m.epoch (s.near n).epoch < 0 then s.usbCount 4
  else
    match (s.near n).pend.find? (fun x => x.tag == m.tag && x.result.isNone) with
    | none => s
    | some x => s.nearResult n e x m.code m.body

/-- RTO of the transaction with a TAG (R305), which stands still while the engine does (R52). -/
def xferRto (s : State) (n tag : Nat) : State :=
  match s.portEntry n, (s.near n).pend.find? (fun x => x.tag == tag && x.result.isNone) with
  | some e, some x =>
    if !s.svcRuns e || !s.due (.xfer n tag) then s
    else if x.tries < s.proxyRetry e then
      let nr := s.near n
      let s1 := ((s.setNear n { nr with pend := nr.pend.map (fun y => if y.tag == tag then { y with tries := y.tries + 1 } else y) }).usbCount 2).proxyCount e 1
      (s1.armXfer n tag).sendNear n .xfer x.ep x.pid.isIn x.xt x.tag x.pid.code x.tog x.data
    else ((s.usbCount 3).proxyCount e 2).nearResult n e x ResCode.err.code []
  | _, _ => s

/-- PERIODIC at the near hub (R306, R307). -/
def periodicMsg (s : State) (e : Nat) (m : ProxyMsg) : State :=
  let n := s.proxyPort e
  let nr := s.near n
  let q := Tab.get nr.reports m.ep []
  let ack (s : State) : State := if s.proxyVer e ≥ 2 then s.sendNear n .perAck m.ep true 3 m.tag 0 false [] else s
  let seen (s : State) : State := s.setNear n { s.near n with perTags := ((m.ep, m.tag) :: (s.near n).perTags).take 128 }
  if diffEpoch m.epoch nr.epoch < 0 then s.usbCount 4
  else if nr.perTags.contains (m.ep, m.tag) then ack s
  else if m.code = ResCode.stall.code then
    ack (seen (s.setNear n { nr with stalled := Tab.put nr.stalled (epDir m.ep true) true false }))
  else if q.length ≥ 4 then s
  else ack (seen ((s.setNear n { nr with reports := Tab.put nr.reports m.ep (q ++ [m.body]) [] }).proxyCount e 3))

/-- A near port loses its device. -/
def nearGone (s : State) (n : Nat) : State :=
  let nr := s.near n
  let s1 := (s.portEmpty n).setNear n { epoch := nr.epoch, tag := nr.tag }
  if s.on USB_PORT_CONN (n - 1) then (s1.portChange n 0).wakeSource else s1

/-- The near port follows a PORTSTAT body (R298, R310). -/
def nearStat (s : State) (n : Nat) (b : Nat) : State :=
  let i := n - 1
  let conn := b.testBit 0 && s.on USB_STAT_HS
  let s1 := if b.testBit 2 == s.on USB_PORT_OC i then s else ((s.wr USB_PORT_OC (bit (b.testBit 2)) i).portChange n 3).wakeSource
  if !conn then s1.nearGone n
  else if !s1.on USB_PORT_CONN i then
    (((s1.wr USB_PORT_CONN 1 i).wr USB_PORT_SPEED (bit (b.testBit 1)) i).portChange n 0).wakeSource
  else if s1.on USB_PORT_ENA i && !b.testBit 3 && (s1.near n).cmd.isNone then (s1.wr USB_PORT_ENA 0 i).portChange n 1
  else s1

/-- A near port's port command completes (R309). -/
def nearComplete (s : State) (n : Nat) (ok : Bool) (b : Nat) : State :=
  let i := n - 1
  let s1 := s.setNear n { s.near n with cmd := none }
  match (s.near n).cmd with
  | some 1 =>
    if ok && b.testBit 3 then ((s1.wr USB_PORT_ENA 1 i).wr USB_PORT_SPEED (bit (b.testBit 1)) i).portChange n 4
    else (s1.wr USB_PORT_ENA 0 i).portChange n 4
  | some 3 => if ok then (s1.wr USB_PORT_SUSP 0 i).portChange n 2 else ((s1.wr USB_PORT_ENA 0 i).wr USB_PORT_SUSP 0 i).portChange n 1
  | _ => s1

/-- WAKE at the near hub (R300, R310): the port's resume completes, one with a host resume that is under way, and the upstream wake follows, also for a port that only the upstream bus has suspended (R299). -/
def wakeMsg (s : State) (e : Nat) : State :=
  let n := s.proxyPort e
  let i := n - 1
  if !s.on USB_PORT_SUSP i then s.wakeSource
  else
    let s1 := if (s.near n).cmd = some 3 then (s.setNear n { s.near n with cmd := none }).usbCount 7 else s
    ((s1.wr USB_PORT_SUSP 0 i).portChange n 2).wakeSource

/-- A port command waits for its PORTACK for RTO × (RETRY + 1) (R309). -/
def awaitAck (s : State) (n : Nat) : State :=
  match s.portEntry n with
  | none => s.arm (.portcmd n) 0
  | some e => s.arm (.portcmd n) (s.proxyRto e * (s.proxyRetry e + 1))

/-- No PORTACK within the time (R309), which stands still while the engine does (R52). -/
def cmdTimeout (s : State) (n : Nat) : State :=
  let runs := match s.portEntry n with
    | none => true
    | some e => s.svcRuns e
  if runs && (s.near n).cmd.isSome && s.due (.portcmd n) then s.nearComplete n false 0 else s

/-- What the host reads of a port's state, or of the hub's: its status and its change bits (USB 2.0). -/
def statusBytes (s : State) (n : Nat) : List Byte :=
  let i := n - 1
  let c := Tab.get s.usb.change n 0
  if n = 0 || (n ≤ 4 && s.portMode n = 2) then [0, 0, 0, 0]
  else if n = 5 then
    let fn := s.on USB_CTRL_FNEN
    leBytes 2 (bit fn + 2 * bit (s.usb.port5.testBit 1) + 4 * bit (s.usb.port5.testBit 2) + 16 * bit (Tab.get s.usb.resetting 5 false) +
      256 * bit (s.usb.port5.testBit 0) + 1024 * bit (fn && s.on USB_STAT_HS)) ++ leBytes 2 c
  else
    leBytes 2 (s.rd USB_PORT_CONN i + 2 * s.rd USB_PORT_ENA i + 4 * s.rd USB_PORT_SUSP i + 8 * s.rd USB_PORT_OC i +
      16 * bit (Tab.get s.usb.resetting n false || (s.near n).cmd == some 1) + 256 * s.rd USB_PORT_PWR i +
      512 * bit (s.rd USB_PORT_SPEED i == 1) + 1024 * bit (s.rd USB_PORT_SPEED i == 2)) ++ leBytes 2 c

/-- A hub request at a NEAR port (R309). -/
def nearRequestPort (s : State) (n : Nat) (r : HubRequest) : State :=
  let i := n - 1
  match r with
  | .setPower => (s.wr USB_PORT_PWR 1 i).sendCmd n 4
  | .clearPower => (s.sendCmd n 5).portOff n
  | .setReset =>
    let nr := s.near n
    let s1 := (s.setNear n { epoch := (nr.epoch + 1) % 256, tag := nr.tag, cmd := some 1, dead := nr.dead }).wr USB_PORT_SUSP 0 i
    (s1.awaitAck n).sendCmd n 1
  | .setSuspend => if s.on USB_PORT_ENA i then (s.wr USB_PORT_SUSP 1 i).sendCmd n 2 else s
  | .clearSuspend =>
    if s.on USB_PORT_SUSP i then ((s.setNear n { s.near n with cmd := some 3 }).awaitAck n).sendCmd n 3 else s
  | .clearEnable => (s.wr USB_PORT_ENA 0 i).sendCmd n 6
  | .clearChange c => { s with usb := { s.usb with change := Tab.put s.usb.change n (withBit (Tab.get s.usb.change n 0) c false) 0 } }
  | .status => s.usbAnswer (.data true (s.statusBytes n))
  | .setAddress _ => s
  | .setConfiguration _ => s
  | .remoteWake _ => s
  | .deviceDescriptor => s
  | .hubDescriptor => s

/-- No message for 350 ms (R310). -/
def proxySilence (s : State) (n : Nat) : State :=
  if s.portMode n ≠ 1 || !s.on USB_PORT_CONN (n - 1) || !s.due (.proxy n) then s
  else
    let s1 := (s.nearGone n).usbCount 3
    match s.portEntry n with
    | none => s1
    | some e => s1.proxyCount e 2

/-! The far side (R302 to R310). -/

/-- The body of a PORTSTAT (R303). -/
def statBody (s : State) (n : Nat) : List Byte :=
  let i := n - 1
  beBytes 4 (s.rd USB_PORT_CONN i + 2 * bit (s.rd USB_PORT_SPEED i == 1) + 4 * s.rd USB_PORT_OC i + 8 * s.rd USB_PORT_ENA i + 16 * s.rd USB_PORT_SUSP i)

/-- PORTSTAT (R310). -/
def portStat (s : State) (n : Nat) : State :=
  if s.portMode n = 2 then s.sendFar n .portStat 0 false 0 0 0 false (s.statBody n) else s

/-- PORTACK (R309). -/
def portAck (s : State) (n : Nat) (ok : Bool) : State := s.sendFar n .portAck 0 false 0 0 (if ok then 0 else 4) false (s.statBody n)

/-- A change of a far port's state is reported (R310). -/
def statChange (s t : State) (n : Nat) : State := if s.statBody n = t.statBody n then t else t.portStat n

/-- The low-speed device of a far port. -/
def farLow (s : State) (n : Nat) : Bool := s.rd USB_PORT_SPEED (n - 1) == 1

/-- The interrupt IN endpoints of the active settings (R306). -/
def farPolls (s : State) (n : Nat) : List DescEp :=
  let f := s.far n
  let d := Tab.get f.descs f.cfg []
  if d.length > 1024 || f.cfg = 0 then []
  else (descEps d.length d 0 0).filter (fun d => d.attr % 4 == 3 && d.addr ≥ 128 && Tab.get f.alts d.iface 0 == d.alt)

/-- Intervals of the interfaces that satisfy `p` that had to be raised count in BADMSG (R306). -/
def countIntervals (s : State) (n e : Nat) (p : Nat → Bool) : State :=
  s.each ((s.farPolls n).filter (fun d => p d.iface && pollInterval (s.farLow n) d.interval != d.interval)) (fun s _ => s.proxyBad e)

/-- The far hub's part of a control request that completed (R306, R308). -/
def farRequest (s : State) (n e : Nat) (setup got : List Byte) : State :=
  let (rt, rq, val, ix) := setupFields setup
  let f := s.far n
  if rt = 0 && rq = 5 then s.setFar n { f with addr := val % 128 }
  else if rt = 0 && rq = 9 then (s.setFar n { f with cfg := val % 256, alts := [], tog := [], queue := [], polled := [] }).countIntervals n e (fun _ => true)
  else if rt = 1 && rq = 11 then (s.setFar n { f with alts := Tab.put f.alts (ix % 256) (val % 256) 0, tog := [] }).countIntervals n e (fun i => i == ix % 256)
  else if rt = 2 && rq = 1 && val = 0 then s.setFar n { f with tog := Tab.put f.tog (epDir (ix % 16) (ix.testBit 7)) false false }
  else if rt = 0x80 && rq = 6 && val / 256 = 2 && got.length = ofLe ((got.drop 2).take 2) && got.length > 5 then
    s.setFar n { f with descs := Tab.put f.descs (got.getD 5 0).toNat got [] }
  else s

/-- The toggle that a RESULT carries: that of its data, which has flipped since. -/
def resultTog (s : State) (n k code : Nat) : Bool := Tab.get (s.far n).tog k false != (code == ResCode.data.code)

/-- RESULT is recorded and sent (R304, R305). -/
def farResult (s : State) (n e : Nat) (x : ProxyXfer) (code : Nat) (back : List Byte) : State :=
  let k := epDir x.ep x.pid.isIn
  let f := s.far n
  (s.setFar n { f with last := Tab.put f.last k (some (x.tag, code, back)) none }).proxyCount e 0 |>.sendFar n .result x.ep x.pid.isIn x.xt x.tag code
    (s.resultTog n k code) back

/-- XFER at the far hub (R304, R305, R309). -/
def xferMsg (s : State) (e : Nat) (m : ProxyMsg) : State :=
  let n := s.proxyPort e
  let f := s.far n
  let k := epDir m.ep m.isIn
  match pidOf m.code with
  | none => s.proxyBad e
  | some pid =>
    let x : ProxyXfer := { tag := m.tag, ep := m.ep, pid := pid, xt := m.xt, data := m.body }
    match Tab.get f.last k none with
    | some (t, code, back) =>
      if t = m.tag then s.sendFar n .result m.ep m.isIn m.xt m.tag code (s.resultTog n k code) back
      else if f.run.any (fun y => y.tag == m.tag) then s
      else if !s.on USB_PORT_CONN (n - 1) then s.farResult n e x ResCode.gone.code []
      else s.setFar n { f with run := f.run ++ [x] }
    | none =>
      if f.run.any (fun y => y.tag == m.tag) then s
      else if !s.on USB_PORT_CONN (n - 1) then s.farResult n e x ResCode.gone.code []
      else s.setFar n { f with run := f.run ++ [x] }

/-- The far hub's oldest transaction ends as the device answers (R304). -/
def deviceDone (s : State) (n : Nat) (r : DeviceReply) : State :=
  match s.portEntry n, (s.far n).run with
  | some e, x :: l =>
    if !s.svcRuns e then s
    else
      let k := epDir x.ep x.pid.isIn
      let (code, back) : Nat × List Byte := match r with
        | .ack => (0, []) | .nak => (1, []) | .stall => (2, []) | .timeout => (4, []) | .data d => (3, d)
      let f := s.far n
      let c := f.ctl.advance x.pid x.data code back
      let flips := code = 3 || (code = 0 && !x.pid.isIn)
      let tog := if x.pid = .setup then Tab.put (Tab.put f.tog (2 * x.ep) true false) (2 * x.ep + 1) true false
        else if flips then Tab.put f.tog k (!Tab.get f.tog k false) false else f.tog
      let s1 := (s.setFar n { f with run := l, ctl := if x.xt = 0 then c.1 else f.ctl, tog := tog }).farResult n e x code back
      match if x.xt = 0 then c.2 else none with
      | none => s1
      | some (setup, got) => s1.farRequest n e setup got
  | _, _ => s

/-- A start of frame or keep-alive (R302). -/
def sofSend (s : State) (n : Nat) : State :=
  if s.portMode n = 2 && s.on USB_PORT_ENA (n - 1) && !s.on USB_PORT_SUSP (n - 1) then
    s.setFar n { s.far n with frame := ((s.far n).frame + 1) % 2048 }
  else s

/-- A PERIODIC is sent, and in version 2 kept until it is acknowledged (R306, R307). -/
def sendPeriodic (s : State) (n e ep : Nat) (stall : Bool) (data : List Byte) : State :=
  let f := s.far n
  let q := Tab.get f.queue ep []
  let t := Tab.get f.tog (epDir ep true) false
  let r : ProxyReport := { tag := f.tag, stall := stall, data := data, tog := t }
  let s1 := (s.arm (.periodic n ep f.tag) (s.proxyRto e)).setFar n { f with tag := (f.tag + 1) % 256, queue := if s.proxyVer e ≥ 2 then Tab.put f.queue ep (q ++ [r]) [] else f.queue }
  (s1.proxyCount e 3).sendFar n .periodic ep true 3 r.tag (if stall then 2 else 3) t data

/-- The interval of interrupt IN endpoint `ep` has passed since its last poll (R306). -/
def pollDue (s : State) (n ep : Nat) : Bool :=
  let f := s.far n
  (s.farPolls n).any (fun d => d.addr % 16 == ep && (match Tab.get f.polled ep none with
    | none => true
    | some k => (f.frame + 2048 - k) % 2048 ≥ pollInterval (s.farLow n) d.interval))

/-- The far hub polls interrupt IN endpoint `ep` (R306). -/
def poll (s : State) (n ep : Nat) (r : DeviceReply) : State :=
  match s.portEntry n with
  | none => s
  | some e =>
    let f := s.far n
    let k := epDir ep true
    let s0 := s.setFar n { f with polled := Tab.put f.polled ep (some f.frame) none }
    if !s.svcTakes e || s.portMode n ≠ 2 || !s.on USB_PORT_ENA (n - 1) || s.on USB_PORT_SUSP (n - 1) || !s.pollDue n ep then s
    else if (Tab.get f.queue ep []).length ≥ 4 then s0.usbCount 6
    else match r with
      | .data d =>
        let s1 := s0.sendPeriodic n e ep false d
        s1.setFar n { s1.far n with tog := Tab.put f.tog k (!Tab.get f.tog k false) false }
      | .stall => s0.sendPeriodic n e ep true []
      | .ack => s0
      | .nak => s0
      | .timeout => s0

/-- PERACK at the far hub (R307). -/
def perAckMsg (s : State) (e : Nat) (m : ProxyMsg) : State :=
  let n := s.proxyPort e
  let f := s.far n
  s.setFar n { f with queue := Tab.put f.queue m.ep ((Tab.get f.queue m.ep []).filter (fun r => r.tag != m.tag)) [] }

/-- RTO of an unacknowledged PERIODIC (R307), which stands still while the engine does (R52). -/
def periodicRto (s : State) (n ep tag : Nat) : State :=
  let f := s.far n
  let q := Tab.get f.queue ep []
  match s.portEntry n, q.find? (fun r => r.tag == tag) with
  | some e, some r =>
    if !s.svcRuns e || !s.due (.periodic n ep tag) then s
    else if r.tries < s.proxyRetry e then
      let s1 := (s.arm (.periodic n ep tag) (s.proxyRto e)).setFar n { f with queue := Tab.put f.queue ep (q.map (fun x => if x.tag == tag then { x with tries := x.tries + 1 } else x)) [] }
      ((s1.usbCount 2).proxyCount e 1).sendFar n .periodic ep true 3 tag (if r.stall then 2 else 3) r.tog r.data
    else (((s.setFar n { f with queue := Tab.put f.queue ep (q.filter (fun x => x.tag != tag)) [] }).usbCount 3).proxyCount e 2)
  | _, _ => s

/-- A reset of a downstream port begins: SE0 for RSTLEN (R301, R302). -/
def resetBegins (s : State) (n : Nat) : State :=
  let s1 := s.arm (.usbReset n) (s.rd USB_TIMING_RSTLEN * 1000000)
  { s1 with usb := { s1.usb with resetting := Tab.put s1.usb.resetting n true false, resuming := Tab.put s1.usb.resuming n 0 0 } }

/-- A resume of a downstream port begins, or goes on: K for 20 ms; by the host (1), the device (2), or both (3) (R300, R309, R310). -/
def resumeBegins (s : State) (n by_ : Nat) : State :=
  let was := Tab.get s.usb.resuming n 0
  let s1 := if was = 0 then s.arm (.usbResume n) 20000000 else if was = by_ || was = 3 then s else s.usbCount 7
  { s1 with usb := { s1.usb with resuming := Tab.put s1.usb.resuming n (if was = 0 || was = by_ then by_ else 3) 0 } }

/-- PORTCMD at the far hub (R309); every change of the port is reported (R310). -/
def portCmdMsg (s : State) (e : Nat) (m : ProxyMsg) : State :=
  let n := s.proxyPort e
  let i := n - 1
  let conn := s.on USB_PORT_CONN i
  match m.code with
  | 1 =>
    if !conn then s.portAck n false
    else
      let f := s.far n
      let s1 := ((s.wr USB_PORT_ENA 0 i).wr USB_PORT_SUSP 0 i).setFar n { epoch := f.epoch, tag := f.tag, frame := f.frame }
      s.statChange (s1.resetBegins n) n
  | 2 => if s.on USB_PORT_ENA i then s.statChange (s.wr USB_PORT_SUSP 1 i) n else s
  | 3 => if s.on USB_PORT_SUSP i then s.resumeBegins n 1 else s.portAck n conn
  | 4 => s.statChange ((s.wr USB_PORT_PWR 1 i).efuse n true) n
  | 5 => s.statChange (s.portOff n) n
  | 6 => s.statChange (s.wr USB_PORT_ENA 0 i) n
  | _ => s.proxyBad e

/-- The far side takes the epoch of a newer message (R309). -/
def farEpoch (s : State) (n epoch : Nat) : State :=
  if diffEpoch epoch (s.far n).epoch > 0 then s.setFar n { s.far n with epoch := epoch } else s

/-! Messages taken (R303). -/

/-- A message of a type that the role receives in the agreed version, with a body of 64 bytes at most (R303). -/
def goodProxy (s : State) (e : Nat) (raw : List Byte) : Bool :=
  let ty := (raw.getD 0 0).toNat
  let types := if s.param e 0 1 = 0 then (if s.proxyVer e ≥ 2 then [1, 4, 5, 6, 8] else [1, 4, 5, 6])
    else (if s.proxyVer e ≥ 2 then [2, 3, 7] else [2, 3])
  types.contains ty && raw.length ≤ 72

/-- The near or far service of entry `e` takes its next message where it is of type `ty`. -/
def takeProxy (s : State) (e : Nat) (ty : ProxyType) (f : State → ProxyMsg → State) : State :=
  match s.takeMessage e tyUsb [ty.code] (fun s => s.proxyBad e) (s.goodProxy e) with
  | (s1, none) => s1
  | (s1, some raw) => f (s1.when (s.param e 0 1 = 0) (fun t => t.arm (.proxy (t.proxyPort e)) 350000000)) (parseProxy raw)

/-- A message for the far side, unless its epoch is older (R309). -/
def takeFar (s : State) (e : Nat) (ty : ProxyType) (f : State → ProxyMsg → State) : State :=
  s.takeProxy e ty (fun s m =>
    let n := s.proxyPort e
    if diffEpoch m.epoch (s.far n).epoch < 0 then s else f (s.farEpoch n m.epoch) m)

end State

/-- NEAR_PORT_REQUEST (R309) of the upstream host. -/
def execNearPortRequest (n : Fin 4) (r : HubRequest) (s : State) : Host.Outcome State Fault Refusal :=
  if s.portMode (n + 1) = 1 && 2 ≤ s.rd USB_STAT_USTATE && s.rd USB_STAT_USTATE ≤ 4 then .next (s.nearRequestPort (n + 1) r) else .next s

/-- START_SPLIT (R304) for an endpoint of port `n` + 1; `xt`: 0 control, 1 isochronous, 2 bulk, 3 interrupt. -/
def execStartSplit (n : Fin 4) (ep : Fin 16) (pid : UsbPid) (xt : Fin 4) (data : List Byte) (s : State) : Host.Outcome State Fault Refusal :=
  .next (s.startSplit (n + 1) ep pid xt data)

/-- COMPLETE_SPLIT (R304). -/
def execCompleteSplit (n : Fin 4) (ep : Fin 16) (pid : UsbPid) (xt : Fin 4) (s : State) : Host.Outcome State Fault Refusal :=
  .next (s.completeSplit (n + 1) ep pid xt)

/-- XFER_RECEIVE (R305) by entry `e`. -/
def execXferReceive (e : Fin 128) (s : State) : Host.Outcome State Fault Refusal := .next (s.takeFar e .xfer (fun s m => s.xferMsg e m))

/-- DEVICE_TRANSACTION_DONE (R295, R304) on FAR or LOCAL port `n` + 1. -/
def execDeviceTransactionDone (n : Fin 4) (r : DeviceReply) (s : State) : Host.Outcome State Fault Refusal :=
  .next (if s.portMode (n + 1) = 0 then s.ttDone (n + 1) r else s.deviceDone (n + 1) r)

/-- RESULT_RECEIVE (R304, R309). -/
def execResultReceive (e : Fin 128) (s : State) : Host.Outcome State Fault Refusal := .next (s.takeProxy e .result (fun s m => s.resultMsg e m))

/-- XFER_RTO (R305) of the transaction with a TAG. -/
def execXferRto (n : Fin 4) (tag : Byte) (s : State) : Host.Outcome State Fault Refusal := .next (s.xferRto (n + 1) tag.toNat)

/-- SOF_SEND (R302). -/
def execSofSend (n : Fin 4) (s : State) : Host.Outcome State Fault Refusal := .next (s.sofSend (n + 1))

/-- INTERRUPT_POLL (R306) of endpoint `ep`, with what the device answers. -/
def execInterruptPoll (n : Fin 4) (ep : Fin 16) (r : DeviceReply) (s : State) : Host.Outcome State Fault Refusal := .next (s.poll (n + 1) ep r)

/-- PERIODIC_RECEIVE (R306, R307). -/
def execPeriodicReceive (e : Fin 128) (s : State) : Host.Outcome State Fault Refusal := .next (s.takeProxy e .periodic (fun s m => s.periodicMsg e m))

/-- PERACK_RECEIVE (R307). -/
def execPerackReceive (e : Fin 128) (s : State) : Host.Outcome State Fault Refusal := .next (s.takeFar e .perAck (fun s m => s.perAckMsg e m))

/-- PERIODIC_RTO (R307). -/
def execPeriodicRto (n : Fin 4) (ep : Fin 16) (tag : Byte) (s : State) : Host.Outcome State Fault Refusal := .next (s.periodicRto (n + 1) ep tag.toNat)

/-- PORTCMD_RECEIVE (R309). -/
def execPortcmdReceive (e : Fin 128) (s : State) : Host.Outcome State Fault Refusal := .next (s.takeFar e .portCmd (fun s m => s.portCmdMsg e m))

/-- PORTACK_RECEIVE (R309). -/
def execPortackReceive (e : Fin 128) (s : State) : Host.Outcome State Fault Refusal :=
  .next (s.takeProxy e .portAck (fun s m =>
    if diffEpoch m.epoch (s.near (s.proxyPort e)).epoch < 0 then s else s.nearComplete (s.proxyPort e) (m.code == 0) (ofBe m.body)))

/-- PORTCMD_TIMEOUT (R309). -/
def execPortcmdTimeout (n : Fin 4) (s : State) : Host.Outcome State Fault Refusal := .next (s.cmdTimeout (n + 1))

/-- PORTSTAT_SEND (R310). -/
def execPortstatSend (n : Fin 4) (s : State) : Host.Outcome State Fault Refusal := .next (s.portStat (n + 1))

/-- PORTSTAT_RECEIVE (R310). -/
def execPortstatReceive (e : Fin 128) (s : State) : Host.Outcome State Fault Refusal :=
  .next (s.takeProxy e .portStat (fun s m => s.nearStat (s.proxyPort e) (ofBe m.body)))

/-- PROXY_SILENCE (R310). -/
def execProxySilence (n : Fin 4) (s : State) : Host.Outcome State Fault Refusal := .next (s.proxySilence (n + 1))

/-- WAKE_RECEIVE (R310). -/
def execWakeReceive (e : Fin 128) (s : State) : Host.Outcome State Fault Refusal := .next (s.takeProxy e .wake (fun s _ => s.wakeMsg e))

/-- USTAT (R311): opcode 0x40 submitted to MBXm of engine `n` for entry `e`. -/
def execUstat (n : Fin 16) (m : Fin 2) (e : Fin 128) (s : State) : Host.Outcome State Fault Refusal := .next (s.mbxSubmit n m 0x40 e)

/-- UCLR (R311): opcode 0x41. -/
def execUclr (n : Fin 16) (m : Fin 2) (e : Fin 128) (s : State) : Host.Outcome State Fault Refusal := .next (s.mbxSubmit n m 0x41 e)

end Sys2Proof.Machine
end

