-- ==== Sys2Proof/Machine/UsbHub.lean ====
section
/-! DEFINITION. The USB hub's upstream port, its local ports, and the embedded function (R294 to R301, R312 to R319 of spec/12_usb_tunnels.md). -/

namespace Sys2Proof.Machine

/-- Codes of EPk_STAT.CODE. -/
inductive EpCode where
  | ok | len | busy | disabled | cfg | abort
  deriving DecidableEq, Repr

/-- The numbers of the codes. -/
def EpCode.code : EpCode → Nat
  | .ok => 0 | .len => 1 | .busy => 2 | .disabled => 3 | .cfg => 4 | .abort => 5

/-- Upstream states (USB_STAT.USTATE). -/
def usDetached : Nat := 0
def usPowered : Nat := 1
def usDefault : Nat := 2
def usAddress : Nat := 3
def usConfigured : Nat := 4
def usSuspended : Nat := 5

namespace State

/-! Endpoints (R312 to R318). -/

/-- EPk_STAT as it reads. -/
def epStat (s : State) (k : Nat) : Nat :=
  s.rd EP_STAT_ARMED k * 2 ^ 31 + s.rd EP_STAT_HALT k * 2 ^ 30 + s.rd EP_STAT_DONE k * 2 ^ 29 + s.rd EP_STAT_NRSTALL k * 2 ^ 28 +
    s.rd EP_STAT_HALTEV k * 2 ^ 27 + s.rd EP_STAT_TOGGLE k * 2 ^ 26 + s.rd EP_STAT_CODE k * 2 ^ 22 + s.rd EP_STAT_COUNT k

/-- A transfer ends (R314). -/
def epEnd (s : State) (k : Nat) (c : EpCode) : State :=
  let s1 := (((s.wr EP_STAT_ARMED 0 k).wr EP_STAT_COUNT (Tab.get s.usb.moved k 0) k).wr EP_STAT_DONE 1 k).wr EP_STAT_CODE c.code k
  s1.irq (12 + k) k (s1.epStat k)

/-- An armed transfer is aborted. -/
def epAbort (s : State) (k : Nat) : State := if s.on EP_STAT_ARMED k then s.epEnd k .abort else s

/-- The largest MPS of an endpoint at a speed (R313). -/
def mpsLimit (s : State) (k : Nat) (high : Bool) : Nat :=
  if !high then 64 else if k = 0 || s.rd EP_CFG_XTYPE k = 0 then 64 else if s.rd EP_CFG_XTYPE k = 3 then 1024 else 512

/-- The buffers of two endpoints overlap. -/
def epOverlap (s : State) (k j : Nat) : Bool :=
  s.rd EP_CFG_BUFOFS k < s.rd EP_CFG_BUFOFS j + s.rd EP_CFG_BUFLEN j && s.rd EP_CFG_BUFOFS j < s.rd EP_CFG_BUFOFS k + s.rd EP_CFG_BUFLEN k

/-- A write of EPk_CFG (R313): an EN = 1 that fails its checks leaves EN = 0. The CFGREJ of the refusal has no register bit, and is kept beside them (log entry 69). -/
def epCfgWrite (s : State) (k w : Nat) : State :=
  let xt := bitsOf w 29 28
  let s1 := (s.writeFields false [EP_CFG_DIR, EP_CFG_MPS, EP_CFG_BUFOFS, EP_CFG_BUFLEN] k 0 w).when
    (if k = 0 then xt = 0 else xt ≥ 2) (·.wr EP_CFG_XTYPE xt k)
  let bad := s1.rd EP_CFG_BUFOFS k + s1.rd EP_CFG_BUFLEN k > 256 || s1.rd EP_CFG_MPS k > s1.mpsLimit k true ||
    (List.range 16).any (fun j => j != k && s1.on EP_CFG_EN j && s1.epOverlap k j)
  let s2 := s1.wr EP_CFG_EN (bit (w.testBit 31 && !bad)) k
  if w.testBit 31 && bad then { s2 with usb := { s2.usb with cfgRej := Tab.put s2.usb.cfgRej k true false } } else s2

/-- ARM (R313, R314). -/
def epArm (s : State) (k w : Nat) : State :=
  let len := bitsOf w 13 0
  if !s.on EP_CFG_EN k then s.wr EP_STAT_CODE EpCode.disabled.code k
  else if s.on EP_STAT_ARMED k then s.wr EP_STAT_CODE EpCode.busy.code k
  else if len > s.rd EP_CFG_BUFLEN k * 64 then s.wr EP_STAT_CODE EpCode.len.code k
  else if s.rd EP_CFG_MPS k > s.mpsLimit k (s.on USB_STAT_HS) then s.wr EP_STAT_CODE EpCode.cfg.code k
  else
    let s1 := (s.wr EP_STAT_ARMED 1 k).wr EP_STAT_CODE 0 k
    { s1 with usb := { s1.usb with
      armLen := Tab.put s1.usb.armLen k len 0, armZlp := Tab.put s1.usb.armZlp k (w.testBit 15) false,
      armIn := Tab.put s1.usb.armIn k (if k = 0 then w.testBit 14 else s1.on EP_CFG_DIR k) false, moved := Tab.put s1.usb.moved k 0 0 } }

/-- A write of EPk_ARM: DISARM ends the armed transfer, ARM arms (R314). -/
def epArmWrite (s : State) (k w : Nat) : State := (s.when (w.testBit 30) (·.epAbort k)).when (w.testBit 31) (·.epArm k w)

/-- An endpoint answers STALL for want of an armed buffer (R315). -/
def epNoBuffer (s : State) (k : Nat) : State :=
  (((s.wr EP_STAT_HALT 1 k).wr EP_STAT_NRSTALL 1 k).usbCount 0).usbAnswer .stall

/-- The toggle of an endpoint flips. -/
def epFlip (s : State) (k : Nat) : State := s.wr EP_STAT_TOGGLE (1 - s.rd EP_STAT_TOGGLE k) k

/-- Bytes moved by the armed transfer. -/
def epMove (s : State) (k n : Nat) : State :=
  { s with usb := { s.usb with moved := Tab.put s.usb.moved k (Tab.get s.usb.moved k 0 + n) 0 } }

/-- An IN token at an armed endpoint (R314): a packet leaves. -/
def epIn (s : State) (k : Nat) : State :=
  let len := Tab.get s.usb.armLen k 0
  let mv := Tab.get s.usb.moved k 0
  let mps := s.rd EP_CFG_MPS k
  let n := min mps (len - mv)
  let s1 := ((s.usbAnswer (.data (s.on EP_STAT_TOGGLE k) (Memory.read s.usb.mem (s.rd EP_CFG_BUFOFS k * 64 + mv) n))).epFlip k).epMove k n
  let more := mv + n < len || (Tab.get s.usb.armZlp k false && len ≠ 0 && len % mps = 0 && n ≠ 0)
  if more then s1 else s1.epEnd k .ok

/-- An OUT packet at an armed endpoint (R314). -/
def epOut (s : State) (k : Nat) (data : List Byte) : State :=
  let len := Tab.get s.usb.armLen k 0
  let mv := Tab.get s.usb.moved k 0
  if mv + data.length > len then ((s.wr EP_STAT_HALT 1 k).usbAnswer .stall).epEnd k .len
  else
    let s1 := ((s.usbAnswer .ack).epFlip k).epMove k data.length
    let s2 := { s1 with usb := { s1.usb with mem := Memory.write s1.usb.mem (s.rd EP_CFG_BUFOFS k * 64 + mv) data } }
    if mv + data.length = len || data.length < s.rd EP_CFG_MPS k then s2.epEnd k .ok else s2

/-- A control transfer is over. -/
def ctlEnd (s : State) : State := { s with usb := { s.usb with ctl := none, hw := false } }

/-- The status stage of a request that hardware handles ends: SET_ADDRESS takes effect (R312). -/
def hwStatus (s : State) : State :=
  let s1 := ((s.usbAnswer (.data true [])).ctlEnd)
  match s1.usb.newAddr with
  | none => s1
  | some a => { (s1.wr USB_STAT_FNADDR a) with usb := { s1.usb with newAddr := none } }

/-- The direction of the status stage of a control transfer is IN. -/
def statusIn (setup : List Byte) : Bool := (setup.getD 0 0).toNat < 128 || ofLe ((setup.drop 6).take 2) = 0

/-- A token for endpoint 0 (R315, R316); the packet of the status stage is DATA1. -/
def ep0Token (s : State) (isIn : Bool) (data : List Byte) : State :=
  match s.usb.ctl with
  | none => if s.on EP_CFG_EN 0 then s.epNoBuffer 0 else s.usbAnswer .none
  | some b =>
    if !s.on EP_CFG_EN 0 then s.usbAnswer .none
    else if s.on EP_STAT_HALT 0 then s.usbAnswer .stall
    else if s.usb.hw then (if isIn then s.hwStatus else s.usbAnswer .nak)
    else if !s.on EP_STAT_ARMED 0 || Tab.get s.usb.armIn 0 false ≠ isIn then s.usbAnswer .nak
    else
      let s0 := s.when (statusIn b == isIn) (·.wr EP_STAT_TOGGLE 1 0)
      let s1 := if isIn then s0.epIn 0 else s0.epOut 0 data
      if statusIn b == isIn && !s1.on EP_STAT_ARMED 0 then s1.ctlEnd else s1

/-- The embedded function is reached: connected on port 5, on a bus that is in use. -/
def fnReached (s : State) : Bool := s.on USB_CTRL_FNEN && 2 ≤ s.rd USB_STAT_USTATE && s.rd USB_STAT_USTATE ≤ 4

/-- A token for endpoint `k` of the embedded function, with the data of an OUT (R314 to R316). -/
def endpointToken (s : State) (k : Nat) (isIn : Bool) (data : List Byte) : State :=
  if !s.fnReached then s
  else if k = 0 then s.ep0Token isIn data
  else if !s.on EP_CFG_EN k || s.on EP_CFG_DIR k ≠ isIn then s.usbAnswer .none
  else if s.on EP_STAT_HALT k then s.usbAnswer .stall
  else if !s.on EP_STAT_ARMED k then s.epNoBuffer k
  else if isIn then s.epIn k else s.epOut k data

/-- CLEAR_FEATURE or SET_FEATURE(ENDPOINT_HALT) of endpoint `k` (R312, R315); `fw`: firmware sets HALT in the same cycle, which wins. -/
def hostHalt (s : State) (k : Nat) (set fw : Bool) : State :=
  let s1 := s.wr EP_STAT_HALTEV 1 k
  if set then s1.wr EP_STAT_HALT 1 k
  else (s1.wr EP_STAT_HALT (bit fw) k).wr EP_STAT_TOGGLE 0 k

/-- A SETUP for the embedded function (R312, R316); `arm`: an EP0_ARM write in the same cycle; `fw`: firmware sets the HALT of the endpoint named in the same cycle. -/
def setupReceive (s : State) (b : List Byte) (arm fw : Bool) : State :=
  if !s.fnReached then s
  else
    let (rt, rq, val, ix) := setupFields b
    let s1 := (s.epAbort 0).when (arm && !s.on EP_STAT_ARMED 0) (·.wr EP_STAT_CODE EpCode.abort.code 0)
    let s2 := (((s1.wr EP_STAT_HALT 0 0).wr EP_STAT_TOGGLE 1 0).wr USB_SETUP_LO_SETUP_LO (ofLe (b.take 4))).wr USB_SETUP_HI_SETUP_HI (ofLe ((b.drop 4).take 4))
    let addr := rt = 0 && rq = 5
    let halt := rt = 2 && (rq = 1 || rq = 3) && val = 0 && ix % 16 ≠ 0
    let s3 := { s2 with usb := { s2.usb with
      ctl := some b, hw := addr || halt, newAddr := if addr then some (val % 128) else none, answer := .ack } }
    if halt then s3.hostHalt (ix % 16) (rq = 3) fw
    else if addr then s3
    else s3.wr USB_STAT_SETUPEV 1

/-- The embedded function on a bus reset or a reset of port 5 (R317), but for the DMA into its buffer. -/
def fnReset (s : State) : State :=
  let s1 := if s.usb.ctl.isSome then
      (((s.wr USB_SETUP_LO_SETUP_LO 0).wr USB_SETUP_HI_SETUP_HI 0).wr USB_STAT_CTLABORT 1).usbCount 1 |>.epAbort 0 |>.wr EP_STAT_CODE EpCode.abort.code 0
    else s.epAbort 0
  let s2 := s1.each ((List.range 16).drop 1) (fun s k => (s.epAbort k).wr EP_STAT_HALT 0 k)
  let s3 := (s2.each (List.range 16) (fun s k => s.wr EP_STAT_TOGGLE 0 k)).wr USB_STAT_FNADDR 0
  { s3.ctlEnd with usb := { s3.ctlEnd.usb with newAddr := none } }

/-- The embedded function returns to its values at attach (R296). -/
def fnDetach (s : State) : State :=
  let s1 := s.each (List.range 16) (fun s k => ((s.epAbort k).wr EP_STAT_HALT 0 k).wr EP_STAT_TOGGLE 0 k)
  let s2 := (s1.wr USB_STAT_FNADDR 0).ctlEnd
  { s2 with usb := { s2.usb with newAddr := none } }

/-- EPk_ARM is written in the cycle of a reset, which wins: nothing is armed, and the transfer counts as aborted (R317, log entry 69). -/
def armLost (s : State) (l : List (Fin 16)) : State := s.each l (fun s k => s.wr EP_STAT_CODE EpCode.abort.code k.val)

/-- The word at `o` of the endpoint memory lies in the buffer of an armed endpoint (R318). -/
def memBusy (s : State) (o : Nat) : Bool :=
  (List.range 16).any (fun k => s.on EP_STAT_ARMED k && s.rd EP_CFG_BUFOFS k * 64 ≤ o && o < (s.rd EP_CFG_BUFOFS k + s.rd EP_CFG_BUFLEN k) * 64)

/-- A word of the endpoint memory is read, or refused with 0 (R318). -/
def epMemRead (s : State) (o : Nat) : State :=
  if s.memBusy o then { (s.usbCount 8) with readWord := 0 } else { s with readWord := ofLe (Memory.read s.usb.mem o 4) }

/-- A word of the endpoint memory is written, or refused (R318). -/
def epMemWrite (s : State) (o w : Nat) : State :=
  if s.memBusy o then s.usbCount 8 else { s with usb := { s.usb with mem := Memory.write s.usb.mem o (leBytes 4 w) } }

/-! The upstream port (R296 to R300). -/

/-- The hub's own state and that of its LOCAL and NEAR ports return to their values at attach. -/
def hubReset (s : State) : State :=
  let s1 := s.each [1, 2, 3, 4] (fun s n => if s.portMode n = 2 then s else s.portOff n)
  let s2 := (s1.wr USB_STAT_RWKEN 0).wr USB_STAT_HUBADDR 0
  { s2 with usb := { s2.usb with
    change := Tab.put s2.usb.change 5 0 0, port5 := 0, wakeHeld := false, driving := false, hostK := false,
    resetting := Tab.put s2.usb.resetting 5 false false, resuming := Tab.put s2.usb.resuming 5 0 0 } }

/-- VBUS is valid (R296): above 4.0 V, the limit of R467, as measured (log entry 69). -/
def vbusValid (s : State) : Bool := s.rd UPD_VBUS_V > 200

/-- The port is attached and its data role is UFP (R296, R467). -/
def usbcUfp (s : State) : Bool := (s.rd UPD_STAT_STATE == 3 || s.rd UPD_STAT_STATE == 4) && !s.on UPD_STAT_DROLE

/-- What the pull-up needs (R296). -/
def pullUpOk (s : State) : Bool := s.on USB_CTRL_EN && s.usbcUfp && s.vbusValid && s.fullPower

/-- The pull-up connects (R296). -/
def usbAttach (s : State) : State :=
  if s.rd USB_STAT_USTATE = 0 && s.pullUpOk then (s.wr USB_STAT_USTATE usPowered).wr USB_STAT_ATTEV 1 else s

/-- The pull-up is removed (R296), but for the DMA into endpoint 0's buffer: the hub, the function and every port return to their values at attach. -/
def usbLeave (s : State) : State :=
  if s.rd USB_STAT_USTATE = 0 then s
  else
    let s1 := (s.hubReset.each [1, 2, 3, 4] (fun s n => if s.portMode n = 2 then s.statChange (s.portOff n) n else s)).fnDetach
    ((s1.wr USB_STAT_USTATE usDetached).wr USB_STAT_HS 0).wr USB_STAT_ATTEV 1

/-- What the pull-up needs has ended (R296). -/
def usbDetach (s : State) : State := if s.pullUpOk then s else s.usbLeave

/-- A bus reset (R297, R300, R317), but for the DMA into endpoint 0's buffer; `high`: the host answered the chirp. -/
def busReset (s : State) (high : Bool) : State :=
  if s.rd USB_STAT_USTATE = 0 then s
  else ((((s.hubReset).fnReset).wr USB_STAT_USTATE usDefault).wr USB_STAT_HS (bit high)).wr USB_STAT_RSTEV 1

/-- Every NEAR port's far hub is told of a global suspend or resume (R309). -/
def toNearPorts (s : State) (code : Nat) : State :=
  s.each [1, 2, 3, 4] (fun s n => if s.portMode n = 1 then s.sendCmd n code else s)

/-- 3 ms of idle bus (R297). -/
def usbSuspend (s : State) : State :=
  let u := s.rd USB_STAT_USTATE
  if u = 0 || u = 5 then s
  else
    let s1 := (s.wr USB_STAT_USTATE usSuspended).wr USB_STAT_SUSPEV 1
    { s1 with usb := { s1.usb with before := u, suspAt := s1.tmu.elapsed, wakeHeld := false } }.toNearPorts 2

/-- The bus is in use again (R297, R300). -/
def resumed (s : State) : State :=
  let s1 := (s.wr USB_STAT_USTATE s.usb.before).wr USB_STAT_RESUMEEV 1
  { s1 with usb := { s1.usb with wakeHeld := false, hostK := false } }.toNearPorts 3

/-- A K state from the host (R297, R300). -/
def usbResume (s : State) : State :=
  if s.rd USB_STAT_USTATE ≠ 5 then s
  else if s.usb.driving then { s with usb := { s.usb with hostK := true } }
  else s.resumed

/-- Five milliseconds in 2^-32 ns. -/
def fiveMs : Nat := 5000000 * 2 ^ 32

/-- The hub drives K for a wake source that occurred, once the bus has been suspended for 5 ms (R299). -/
def remoteWake (s : State) : State :=
  if s.usb.wakeHeld && s.rd USB_STAT_USTATE = 5 && s.on USB_STAT_RWKEN && s.tmu.elapsed ≥ s.usb.suspAt + fiveMs then
    { (s.arm .usbWake (s.rd USB_TIMING_KTIME * 1000000)) with usb := { s.usb with driving := true, wakeHeld := false } }
  else s

/-- KTIME is over: the hub releases the bus (R299, R300). -/
def remoteWakeEnd (s : State) : State :=
  if !s.usb.driving || !s.due .usbWake then s
  else
    let s1 := { (s.wr USB_STAT_RWKDONE 1) with usb := { s.usb with driving := false } }
    if s.usb.hostK then (s1.usbCount 7).resumed else s1

/-! Local ports (R294, R300, R301). -/

/-- A change bit of a port is cleared. -/
def clearChange (s : State) (n c : Nat) : State :=
  { s with usb := { s.usb with change := Tab.put s.usb.change n (withBit (Tab.get s.usb.change n 0) c false) 0 } }

/-- A downstream reset or resume begins or ends. -/
def setResetting (s : State) (n : Nat) (x : Bool) : State := { s with usb := { s.usb with resetting := Tab.put s.usb.resetting n x false } }
def setResuming (s : State) (n x : Nat) : State := { s with usb := { s.usb with resuming := Tab.put s.usb.resuming n x 0 } }

/-- A request for a LOCAL port 1–4 (R301). -/
def localRequest (s : State) (n : Nat) (r : HubRequest) : State :=
  let i := n - 1
  match r with
  | .setPower => (s.wr USB_PORT_PWR 1 i).efuse n true
  | .clearPower => s.portOff n
  | .setReset =>
    if s.on USB_PORT_CONN i then
      let s1 := (s.wr USB_PORT_ENA 0 i).wr USB_PORT_SUSP 0 i
      (s1.setNear n { tag := (s1.near n).tag }).resetBegins n
    else s
  | .setSuspend => if s.on USB_PORT_ENA i then s.wr USB_PORT_SUSP 1 i else s
  | .clearSuspend =>
    if s.on USB_PORT_SUSP i then s.resumeBegins n 1 else s
  | .clearEnable => s.wr USB_PORT_ENA 0 i
  | .clearChange c => s.clearChange n c
  | .status => s.usbAnswer (.data true (s.statusBytes n))
  | .setAddress _ => s
  | .setConfiguration _ => s
  | .remoteWake _ => s
  | .deviceDescriptor => s
  | .hubDescriptor => s

/-- A request for port 5 (R295): always powered by request, never removed. -/
def port5Request (s : State) (r : HubRequest) : State :=
  let p (b : Nat) (x : Bool) : State := { s with usb := { s.usb with port5 := withBit s.usb.port5 b x } }
  match r with
  | .setPower => p 0 true
  | .clearPower => { s with usb := { s.usb with port5 := 0 } }
  | .setReset => if s.on USB_CTRL_FNEN then (p 1 false).resetBegins 5 else s
  | .setSuspend => if s.usb.port5.testBit 1 then p 2 true else s
  | .clearSuspend => if s.usb.port5.testBit 2 then s.resumeBegins 5 1 else s
  | .clearEnable => p 1 false
  | .clearChange c => s.clearChange 5 c
  | .status => s.usbAnswer (.data true (s.statusBytes 5))
  | .setAddress _ => s
  | .setConfiguration _ => s
  | .remoteWake _ => s
  | .deviceDescriptor => s
  | .hubDescriptor => s

/-- The hub descriptor (R295; its form is USB 2.0's, log entry 69): five ports, a part of a compound device, power switched and over-current reported for each port, think time 8 full-speed bit times, port 5 not removable. The power-good time and the controller's current are stated nowhere. -/
def hubDescriptor (s : State) : State :=
  let (a, s1) := s.free 16
  s1.usbAnswer (.data true ([9, 0x29, 5, 0x0D, 0] ++ leBytes 2 a ++ [0x20, 0xFF]))

/-- The hub's device descriptor (R295, R320; its form is USB 2.0's, log entry 69): VID and PID from USB_HUBID, bcdDevice the silicon revision, a single transaction translator at high speed. String indices are stated nowhere. -/
def deviceDescriptor (s : State) : State :=
  let (a, s1) := s.free 24
  s1.usbAnswer (.data true ([18, 1, 0, 2, 9, 0, BitVec.ofNat 8 (s.rd USB_STAT_HS), 64] ++ leBytes 2 (s.rd USB_HUBID_VID) ++
    leBytes 2 (s.rd USB_HUBID_PID) ++ leBytes 2 (s.rd GEN_ID_REV) ++ leBytes 3 a ++ [1]))

/-- A request to the hub itself (R297, R299). -/
def hubRequest (s : State) (r : HubRequest) : State :=
  match r with
  | .setAddress a => (s.wr USB_STAT_HUBADDR a.toNat).wr USB_STAT_USTATE (if a.toNat = 0 then usDefault else usAddress)
  | .setConfiguration on =>
    if s.rd USB_STAT_USTATE = usDefault then s else s.wr USB_STAT_USTATE (if on then usConfigured else usAddress)
  | .remoteWake on => s.wr USB_STAT_RWKEN (bit on)
  | .status => s.usbAnswer (.data true (s.statusBytes 0))
  | .deviceDescriptor => s.deviceDescriptor
  | .hubDescriptor => s.hubDescriptor
  | .setPower => s
  | .clearPower => s
  | .setReset => s
  | .setSuspend => s
  | .clearSuspend => s
  | .clearEnable => s
  | .clearChange _ => s

/-- A request of the upstream host to port `n` (0: the hub itself), but for the reset of the embedded function; a FAR port changes nothing (R294). -/
def portRequest (s : State) (n : Nat) (r : HubRequest) : State :=
  if s.rd USB_STAT_USTATE < 2 || s.rd USB_STAT_USTATE = 5 then s
  else if n = 0 then s.hubRequest r
  else if n = 5 then s.port5Request r
  else if s.portMode n = 0 then s.localRequest n r
  else if s.portMode n = 2 && r = .status then s.usbAnswer (.data true (s.statusBytes n))
  else s

/-- A device is seen on a powered LOCAL or FAR port (R301, R310), its line state stable for `held` × 2^-32 ns: CONNDB at least. -/
def portConnect (s : State) (n : Nat) (low : Bool) (held : Nat) : State :=
  let i := n - 1
  if !s.on USB_PORT_PWR i || s.portMode n = 1 || s.on USB_PORT_CONN i || held < s.rd USB_TIMING_CONNDB * 1000000 * 2 ^ 32 then s
  else
    let s1 := ((s.wr USB_PORT_CONN 1 i).wr USB_PORT_SPEED (bit low) i)
    if s.portMode n = 2 then s1.portStat n else (s1.portChange n 0).wakeSource

/-- A device leaves (R300): resumes and resets that run are dropped. -/
def portDisconnect (s : State) (n : Nat) : State :=
  let i := n - 1
  if !s.on USB_PORT_CONN i || s.portMode n = 1 then s
  else if s.portMode n = 2 then
    let f := s.far n
    (((s.portEmpty n).setFar n { epoch := f.epoch, tag := f.tag }).portStat n)
  else ((s.portEmpty n).portChange n 0).wakeSource

/-- A downstream reset ends after RSTLEN, with the speed of the device: 0 full, 1 low, 2 high; a FAR port never goes to high speed (R301, R302, R309). -/
def portResetEnd (s : State) (n speed : Nat) : State :=
  let i := n - 1
  let s1 := s.setResetting n false
  if !Tab.get s.usb.resetting n false || !s.due (.usbReset n) then s
  else if n = 5 then ({ s1 with usb := { s1.usb with port5 := withBit s1.usb.port5 1 true } }).portChange 5 4
  else
    let high := speed = 2 && s.portMode n = 0 && s.on USB_STAT_HS
    let s2 := (s1.wr USB_PORT_ENA 1 i).wr USB_PORT_SPEED (if high then 2 else if speed = 1 then 1 else 0) i
    if s.portMode n = 2 then (s2.portAck n true).portStat n else s2.portChange n 4

/-- A downstream resume ends after 20 ms of K (R309, R310). -/
def portResumeEnd (s : State) (n : Nat) : State :=
  let i := n - 1
  let by_ := Tab.get s.usb.resuming n 0
  let s1 := s.setResuming n 0
  if by_ = 0 || !s.due (.usbResume n) then s
  else if n = 5 then ({ s1 with usb := { s1.usb with port5 := withBit s1.usb.port5 2 false } }).portChange 5 2
  else if s.portMode n = 2 then
    let s2 := s1.wr USB_PORT_SUSP 0 i
    (s2.when (by_ ≠ 2) (·.portAck n true)).portStat n
  else (s1.wr USB_PORT_SUSP 0 i).portChange n 2

/-- The device of a LOCAL port signals remote wake-up (R299, R300): its port, where that is suspended, resumes; where only the bus is, the hub is told. -/
def deviceWake (s : State) (n : Nat) : State :=
  if n = 5 then s.wakeSource
  else if s.portMode n ≠ 0 || !s.on USB_PORT_CONN (n - 1) then s
  else if s.on USB_PORT_SUSP (n - 1) then (s.resumeBegins n 2).wakeSource
  else s.wakeSource

/-- The device of a suspended FAR port signals remote wake-up (R310): reflected, and in version 2 reported with WAKE. -/
def farWake (s : State) (n : Nat) : State :=
  match s.portEntry n with
  | none => s
  | some e =>
    if s.portMode n ≠ 2 || !s.on USB_PORT_SUSP (n - 1) || s.proxyVer e < 2 then s
    else (s.resumeBegins n 2).sendFar n .wake 0 false 0 0 0 false []

/-- An eFuse trip turns its port off (R301, R462). -/
def portTrip (s : State) (n : Nat) : State :=
  let s1 := ((s.portEmpty n).wr (efuseOn n) 0).wr USB_PORT_OC 1 (n - 1)
  let s2 := { s1 with hsw := { s1.hsw with tripped := Tab.put s1.hsw.tripped n true false } }
  if s2.portMode n = 2 then s2.portStat n else (s2.portChange n 3).wakeSource

/-- A write of USB_PORTn, MODE in it (R294): ignored with MODEREJ while the port is powered. -/
def portModeWrite (s : State) (n w : Nat) : State :=
  let i := n - 1
  let v := bitsOf w 31 30
  let s1 := s.writeField false USB_PORT_MODEREJ i 0 w
  if s.on USB_PORT_PWR i then s1.wr USB_PORT_MODEREJ 1 i
  else if v = s.rd USB_PORT_MODE i || s.on USB_CTRL_LOCK || v = 3 then s1
  else (s1.wr USB_PORT_MODE v i).portOff n

/-- A write of USB_CTRL: FNEN connects or removes the embedded function (R295). -/
def usbCtrlWrite (s : State) (w : Nat) : State :=
  let s1 := s.writeReg 0x50000 w
  if s.on USB_CTRL_FNEN == s1.on USB_CTRL_FNEN then s1
  else
    let p5 := if s1.on USB_CTRL_FNEN then s1.usb.port5 else s1.usb.port5 % 2
    (({ s1 with usb := { s1.usb with port5 := p5 } }).portChange 5 0).wakeSource

/-- USB in HUSH (R319): the pull-up is removed and ports 1–4 are unpowered. -/
def usbHush (s : State) : State := s.usbLeave.each [1, 2, 3, 4] portOff

/-- Writes of USB registers. -/
def usbWrite (s : State) (off w : Nat) : Option State :=
  let o := off - 0x50000
  if off < 0x50000 || off ≥ 0x60000 || off % 4 ≠ 0 then none
  else if o = 0 then some (s.usbCtrlWrite w)
  else if 0x20 ≤ o && o < 0x30 then some (s.portModeWrite ((o - 0x20) / 4 + 1) w)
  else if o = 0x68 then some (s.each (List.range 9) (fun s i => s.when (w.testBit i) (·.wr USB_CNT_COUNT 0 i)))
  else if 0x100 ≤ o && o < 0x200 && o % 0x10 = 0 then some (s.epCfgWrite ((o - 0x100) / 0x10) w)
  else if 0x100 ≤ o && o < 0x200 && o % 0x10 = 4 then some (s.epArmWrite ((o - 0x100) / 0x10) w)
  else if 0x8000 ≤ o && o < 0xC000 then some (s.epMemWrite (o - 0x8000) w)
  else none

end State

/-- USB_ATTACH (R296). -/
def execUsbAttach (s : State) : Host.Outcome State Fault Refusal := .next s.usbAttach

/-- USB_SUSPEND (R297). -/
def execUsbSuspend (s : State) : Host.Outcome State Fault Refusal := .next s.usbSuspend

/-- USB_RESUME (R297, R300). -/
def execUsbResume (s : State) : Host.Outcome State Fault Refusal := .next s.usbResume

/-- USB_REMOTE_WAKE (R299): the device of port `n` (5: the embedded function; 0: none, the first 5 ms have passed) wakes. -/
def execUsbRemoteWake (n : Fin 6) (s : State) : Host.Outcome State Fault Refusal :=
  .next (if n = 0 then s.remoteWake else (s.deviceWake n).remoteWake)

/-- REMOTE_WAKE_END (R299, R300). -/
def execRemoteWakeEnd (s : State) : Host.Outcome State Fault Refusal := .next s.remoteWakeEnd

/-- PORT_MODE_WRITE (R294): `w` written to USB_PORTn, n = `n` + 1. -/
def execPortModeWrite (n : Fin 4) (w : Word) (s : State) : Host.Outcome State Fault Refusal := .next (s.portModeWrite (n + 1) w.toNat)

/-- PORT_CONNECT (R301, R310): a low- or full-speed line state on port `n` + 1, stable for `held` × 2^-32 ns. -/
def execPortConnect (n : Fin 4) (low : Bool) (held : Nat) (s : State) : Host.Outcome State Fault Refusal := .next (s.portConnect (n + 1) low held)

/-- PORT_DISCONNECT (R300). -/
def execPortDisconnect (n : Fin 4) (s : State) : Host.Outcome State Fault Refusal := .next (s.portDisconnect (n + 1))

/-- PORT_RESET_END (R301, R302, R309) of port `n` + 1; `speed`: 0 full, 1 low, 2 high. -/
def execPortResetEnd (n : Fin 5) (speed : Fin 3) (s : State) : Host.Outcome State Fault Refusal := .next (s.portResetEnd (n + 1) speed)

/-- PORT_RESUME_END (R309). -/
def execPortResumeEnd (n : Fin 5) (s : State) : Host.Outcome State Fault Refusal := .next (s.portResumeEnd (n + 1))

/-- FAR_DEVICE_REMOTE_WAKE (R310). -/
def execFarDeviceRemoteWake (n : Fin 4) (s : State) : Host.Outcome State Fault Refusal := .next (s.farWake (n + 1))

/-- ENDPOINT_ENABLE (R313): `w` written to EPk_CFG. -/
def execEndpointEnable (k : Fin 16) (w : Word) (s : State) : Host.Outcome State Fault Refusal := .next (s.epCfgWrite k w.toNat)

/-- ENDPOINT_ARM (R314): `w`, with ARM = 1, written to EPk_ARM. -/
def execEndpointArm (k : Fin 16) (w : Word) (s : State) : Host.Outcome State Fault Refusal := .next (s.epArm k w.toNat)

/-- ENDPOINT_DISARM (R314). -/
def execEndpointDisarm (k : Fin 16) (s : State) : Host.Outcome State Fault Refusal := .next (s.epAbort k)

/-- ENDPOINT_HALT (R315). -/
def execEndpointHalt (k : Fin 16) (s : State) : Host.Outcome State Fault Refusal := .next (s.wr EP_STAT_HALT 1 k)

/-- SETUP_RECEIVE (R312, R315, R316): the eight bytes of a SETUP; `arm`, `fw`: an EP0_ARM write, and a firmware write of the halt that the request clears, in the same cycle. -/
def execSetupReceive (b : BitVec 64) (arm fw : Bool) (s : State) : Host.Outcome State Fault Refusal := .next (s.setupReceive (leBytes 8 b.toNat) arm fw)

/-- ENDPOINT_TOKEN (R314 to R316): a token for endpoint `k`, with the data of an OUT. -/
def execEndpointToken (k : Fin 16) (isIn : Bool) (data : List Byte) (s : State) : Host.Outcome State Fault Refusal :=
  .next (s.endpointToken k isIn data)

/-- ENDPOINT_MEMORY_ACCESS (R318) of word `o`: a read, or a write of a value. -/
def execEndpointMemoryAccess (o : Fin 4096) (v : Option Word) (s : State) : Host.Outcome State Fault Refusal :=
  match v with
  | none => .next (s.epMemRead (4 * o))
  | some w => .next (s.epMemWrite (4 * o) w.toNat)

end Sys2Proof.Machine
end

