-- ==== Sys2Proof/Machine/HostRings.lean ====
section
/-! DEFINITION. The PCIe function, descriptor rings, doorbells, the event ring and MSI-X (spec/14_host_interface.md), but for what SVC and DMA rings request. -/

namespace Sys2Proof.Machine

namespace State

/-- Ring `r` has a descriptor that the hub may fetch now (R351, R356). -/
def fetchable (s : State) (r : Nat) : Bool :=
  let n := (s.fetched r).length
  s.rd RNG_RSTAT_STATE r == ringRunning && s.ringReady r && n < (if s.rd RNG_RCFG_TYPE r = ringSvc then 64 else 8) &&
  (s.rd RNG_RIDX_CI r + n) % 2 ^ 16 != s.rd RNG_RIDX_PI r && s.fullPower

/-- The ring whose turn it is on a side: the first with work after the one served last, in the order of their numbers (R356). -/
def ringTurn (s : State) (mgmt : Bool) : Option Nat :=
  ((List.range 128).map (fun k => (Tab.get s.rng.turn (bit mgmt) 127 + 1 + k) % 128)).find? (fun r => s.ringMgmt r == mgmt && s.fetchable r)

/-- DESCRIPTOR_FETCH (R356), where it is the ring's turn; `err`: a bus error. -/
def descFetch (s0 : State) (r : Nat) (err : Bool) : State :=
  if !s0.fetchable r || s0.ringTurn (s0.ringMgmt r) ≠ some r then s0
  else
    let s := { s0 with rng := { s0.rng with turn := Tab.put s0.rng.turn (bit (s0.ringMgmt r)) r 127 } }
    let l := s.fetched r
    let i := (s.rd RNG_RIDX_CI r + l.length) % 2 ^ 16
    if err then (s.rngCount 2).stopRing r .fetch
    else
      let b := s.readSide (s.ringMgmt r) (s.descAddr r i) 32
      if !(b.getD 31 0).toNat.testBit 7 then (s.rngCount 4).stopRing r .notOwn
      else s.setFetched r (l ++ [{ idx := i, bytes := b }])

/-! TX rings (R360). -/

/-- The switch port of a ring. -/
def ringPortOf (s : State) (r : Nat) : Nat := if s.ringMgmt r then 21 else 18

/-- The write-back of a TX descriptor: the sequence number in bytes 16–17. -/
def txBytes (d : Desc) (seq : Nat) : List Byte := (d.bytes.drop 8).take 8 ++ leBytes 2 seq ++ List.replicate 12 0

/-- A TX descriptor whose packet has left stage 4 completes. -/
def txDone (s : State) (r idx seq : Nat) (out : Sent) (err : Bool) : State :=
  match (s.fetched r).find? (fun d => d.idx == idx) with
  | none => s
  | some d =>
    match out with
    | .sent => s.ringDone r idx (txBytes d seq) 0 err
    | .dropped => s.ringDone r idx (txBytes d seq) DescStatus.dropped.code err
    | .held => s

/-- The first reason for which a TX descriptor sends nothing (R359, R360). -/
def txFailure (s : State) (r : Nat) (d : Desc) : Option DescStatus :=
  let slot := d.le 10 1
  let len := d.le 8 2
  let b11 := d.le 11 1
  let egv := b11.testBit 7
  let eg := b11 % 16
  let w := d.le 12 4
  let edge := egv && eg ≥ 4
  if !d.zero 18 29 || d.le 31 1 % 64 ≠ 0 || slot > 252 then some .badDesc
  else if slot ≠ 0 then
    if !d.zero 11 15 then some .badDesc
    else if len > 9216 then some .tooBig
    else
      let loc := s.rd CTX0_KEYSRC slot % 128
      if s.rd CTX3_STATE slot = ctxFree || s.on CTX2_DIR slot || (if s.ringMgmt r then loc / 8 ≠ 0 else loc ≠ 48) then some .noCtx
      else none
  else if !s.ringMgmt r then some .perm
  else if (!egv && eg ≠ 0) || eg > 11 || bitsOf w 30 25 ≠ 0 || (edge && w ≠ 0) then some .badDesc
  else if edge then (if len < 60 then some .badDesc else if len ≤ s.rd EDG_CTRL_MAXLEN (eg - 4) - 4 then none else some .tooBig)
  else if len > 9216 then some .tooBig
  else none

/-- The copy that a raw send makes (R360); a PTP message to an edge port is timestamped at its egress (R96). -/
def rawCopy (s : State) (d : Desc) (payload : List Byte) : Copy :=
  let c := s.internalCopy 21 (d.le 11 1 / 16 % 8) payload
  let edge := (d.le 11 1).testBit 7 && d.le 11 1 % 16 ≥ 4
  { c with
    hdr := { c.hdr with src := s.selfPrefix * 128, dest := d.le 12 4 % 2 ^ 25, ts := if edge then ptpMessage payload else (d.le 12 4).testBit 31 },
    frame := edge, cost := costOf payload.length }

/-- A raw send (R360): routed, or to the egress port named; its destination is checked like any other (R54). -/
def rawSend (s : State) (r : Nat) (d : Desc) (payload : List Byte) : State × Sent :=
  let c := s.rawCopy d payload
  let b11 := d.le 11 1
  let a := if !b11.testBit 7 then s.classifyLocal c
    else if b11 % 16 < 4 && prefixOf c.hdr.dest ≠ s.selfPrefix && !addrValid c.hdr.dest then (s.fabCount 0, [])
    else (s, [{ c with eport := b11 % 16 }])
  if a.2.isEmpty then (a.1, .dropped) else a.1.sendOrigin { hdr := c.hdr, copies := a.2, ring := some r } 21

/-- A TX descriptor runs (R360): its packet passes stage 4, fails, or waits at its port. -/
def txRun (s : State) (r : Nat) (d : Desc) (err : BusError) : State :=
  let slot := d.le 10 1
  match s.txFailure r d with
  | some c => s.descFails r d c
  | none =>
    if slot ≠ 0 && s.rd CTX3_STATE slot ≠ ctxOpen then (s.sat CTX5_DISCARDS slot).descFails r d .notOpen
    else if err = .buffer then s.descFails r d .busErr
    else
      let payload := s.readSide (s.ringMgmt r) (d.le 0 8) (d.le 8 2)
      let s1 := s.startDesc r d.idx
      let seq := if slot = 0 then 0 else s.rd CTX7_SEQ slot
      let out := if slot = 0 then s1.rawSend r d payload
        else s1.originSend slot (s1.internalCopy (s.ringPortOf r) (s.rd CTX2_CLASS slot) payload) (some r)
      out.1.txDone r d.idx seq out.2 (err = .writeBack)

/-- TX_DESCRIPTOR: the oldest fetched descriptor of a running TX ring runs, once its port holds no packet. -/
def txDescriptor (s : State) (r : Nat) (err : BusError) : State :=
  if s.rd RNG_RSTAT_STATE r ≠ ringRunning || s.rd RNG_RCFG_TYPE r ≠ ringTx || !s.ringReady r || s.portHeld (s.ringPortOf r) then s
  else
    match s.nextDesc r with
    | none => s
    | some d => s.txRun r d err

/-- A packet of port `p` that was held leaves stage 4: the TX descriptor that sent it completes, or its cluster sends on (R200, R227, R253). -/
def heldDone (s : State) (p : Nat) (x : Option (Held × Sent)) : State :=
  match x with
  | none => s
  | some (h, out) =>
    match h.ring with
    | some r =>
      match (s.fetched r).find? (·.runs) with
      | none => s
      | some d => s.txDone r d.idx (if h.slot = 0 then 0 else h.hdr.seq) out false
    | none => if 12 ≤ p && p < 16 && out ≠ .held then s.flushCluster (p - 12) else s

/-! RX rings (R361). -/

/-- The ring that a copy on P18 or P21 is for: PTP frames, tunnel 0, or the slot's own (R361); none: no ring is named. -/
def rxRing (s : State) (c : Copy) : Option Nat :=
  if c.frame then (if s.on RNG_RXCFG_PTPV then some (s.rd RNG_RXCFG_PTPRING) else none)
  else if c.term = 0 then (if s.on RNG_RXCFG_T0V then some (s.rd RNG_RXCFG_T0RING) else none)
  else if s.on RNG_SLOTMAP_VALID c.term then some (s.rd RNG_SLOTMAP_RING c.term)
  else none

/-- The ring is an enabled RX ring of port `p`'s side. -/
def rxUsable (s : State) (p r : Nat) : Bool :=
  s.rd RNG_RCFG_TYPE r == ringRx && s.rd RNG_RSTAT_STATE r == ringRunning && s.ringPortOf r == p

/-- Bytes 8–29 of the write-back of an RX descriptor (R361). -/
def rxBytes (s : State) (c : Copy) : List Byte :=
  let tsv := c.iport < 12
  let src := if c.frame then s.selfPrefix * 128 + (7 + (c.iport - 4)) * 8 else c.hdr.src
  leBytes 2 c.hdr.payload.length ++ leBytes 1 (c.hdr.cls * 32 + c.iport % 32) ++ leBytes 1 (if c.frame then 0 else c.hdr.tunid) ++
  leBytes 4 (src % 2 ^ 25 + 2 ^ 31 * bit (!c.traced) + 2 ^ 30 * bit tsv) ++ leBytes 1 c.term ++ [0] ++
  (if tsv then leBytes 6 c.rx.sec ++ leBytes 4 c.rx.ns ++ leBytes 2 c.rx.frac16 else List.replicate 12 0)

/-- The packet at the head of port `p` that no buffer takes is discarded (R361). -/
def noBuffer (s : State) (p : Nat) : State := (s.completeSend p).rngCount 1

/-- RX_DELIVERY: the packet that port `p` has read is copied into the oldest posted buffer (R361). -/
def rxDeliver (s : State) (p : Nat) (err : BusError) : State :=
  match s.sending p with
  | none => s
  | some c =>
    match s.rxRing c with
    | none => s.noBuffer p
    | some r =>
      if !s.rxUsable p r then s.noBuffer p
      else if !s.ringReady r then s
      else
        match s.nextDesc r with
        | none => s
        | some d =>
          let n := d.le 8 2
          let s1 := s.startDesc r d.idx
          if !d.zero 10 29 || n = 0 || d.le 31 1 % 64 ≠ 0 then s1.descFails r d .badDesc
          else if n > 9264 then s1.descFails r d .tooBig
          else if c.hdr.payload.length > n then
            (s1.completeSend p).ringDone r d.idx (leBytes 2 c.hdr.payload.length ++ ((s.rxBytes c).drop 2)) DescStatus.tooBig.code (err = .writeBack)
          else if err = .buffer then (s1.completeSend p).descFails r d .busErr
          else
            ((s1.completeSend p).writeSide (s.ringMgmt r) (d.le 0 8) c.hdr.payload).ringDone r d.idx (s.rxBytes c) 0 (err = .writeBack)

/-- RXWAIT has passed since the packet came to the head of its port, and it finds no posted descriptor (R361). -/
def rxExpire (s : State) (p : Nat) : State :=
  match s.sending p with
  | none => s
  | some c =>
    match s.rxRing c with
    | none => s.noBuffer p
    | some r =>
      if !s.rxUsable p r then s.noBuffer p
      else if (s.nextDesc r).isSome || !s.ran (.rxWait (p == 21)) (s.rd RNG_RXCFG_RXWAIT * 10000) then s else s.noBuffer p

/-! Enabling and disabling rings (R355, R363). -/

/-- EN goes to 1 on a disabled ring: refused, or PI = CI = 0 and RUNNING (R355). -/
def ringStart (s : State) (r : Nat) : State :=
  let ty := s.rd RNG_RCFG_TYPE r
  let b := s.rd RNG_RCFG_BIND r
  let bad := ty = 0 || (ty = ringSvc && !(b < 128 && s.on TEN_SVC0_EN b && s.rd TEN_SVC0_STATE b == svcActive && s.rd TEN_SVC0_TYPE b == tyBlock)) ||
    (ty = ringDma && b > 31)
  if bad then s.rngReject
  else
    let s1 := ((((s.wr RNG_RCFG_EN 1 r).wr RNG_RSTAT_STATE ringRunning r).wr RNG_RSTAT_ERR 0 r).wr RNG_RIDX_PI 0 r).wr RNG_RIDX_CI 0 r
    { (s1.setFetched r []) with rng := { (s1.setFetched r []).rng with bell := Tab.put s1.rng.bell r 0 0 } }

/-- EN goes to 0 (R363): descriptors fetched and not started are written back ABORT. -/
def ringStop (s : State) (r : Nat) : State :=
  let s1 := (s.wr RNG_RCFG_EN 0 r).wr RNG_RSTAT_STATE ringDraining r
  s1.each ((s1.fetched r).filter (fun d => !d.started && !d.written)) (fun s d => s.descFails r d .abort)

/-- A draining ring with no descriptor that is still to be completed becomes DISABLED (R363). -/
def ringDrained (s : State) (r : Nat) : State :=
  if s.rd RNG_RSTAT_STATE r = ringDraining && (s.fetched r).all (fun d => d.written || d.failed) then (s.wr RNG_RSTAT_STATE ringDisabled r).setFetched r [] else s

/-- A write of RNG_RCFGr (R355, R363). -/
def rcfgWrite (s : State) (r w : Nat) : State :=
  let st := s.rd RNG_RSTAT_STATE r
  let en := s.on RNG_RCFG_EN r
  let fields := [RNG_RCFG_SIDE, RNG_RCFG_TYPE, RNG_RCFG_SIZE, RNG_RCFG_BIND]
  let s1 := s.writeField false RNG_RCFG_VEC r 0 w
  let s2 := if st = ringDisabled then
      (s1.writeFields (s.on RNG_CTRL_LOCK) fields r 0 w).when (!RNG_RCFG_SIZE.codeOk (bitsOf w 19 16)) rngReject
    else s1.when (fields.any (fun F => bitsOf w F.hi F.lo != s.rd F r)) rngReject
  if w.testBit 31 then
    if en then s2 else if st = ringDisabled then s2.ringStart r else s2.rngReject
  else if en then s2.ringStop r
  else s2

/-- A write of a ring's base (R363). -/
def rbaseWrite (s : State) (r off w : Nat) : State :=
  if s.rd RNG_RSTAT_STATE r = ringDisabled then s.writeReg off w else s.rngReject

/-! Doorbells and the event ring (R357, R358, R364). -/

/-- A doorbell is refused. -/
def doorbellReject (s : State) : State := (s.rngCount 0).rngReject

/-- EVDB (R364). -/
def eventBell (s : State) (v : Nat) : State :=
  if v ≥ 2 ^ 16 then s.doorbellReject
  else if (s.rd RNG_EVIDX_WR + 2 ^ 16 - v) % 2 ^ 16 > 2 ^ s.rd RNG_EVCFG_EVSIZE then s.rngCount 0
  else { (s.wr RNG_EVIDX_RD v) with rng := { s.rng with evBell := v } }

/-- A write within BAR2 (R357, R358); `whole`: an aligned 32-bit write; `dis`: EN = 0 is written to the ring in the same cycle. -/
def doorbell (s : State) (off v : Nat) (whole dis : Bool) : State :=
  let r := off / 64
  if !whole then s.doorbellReject
  else if off = 8 then s.eventBell v
  else if off % 64 ≠ 0 || r ≥ 128 then s.doorbellReject
  else if dis then (s.doorbellReject).when (s.on RNG_RCFG_EN r) (·.ringStop r)
  else if v ≥ 2 ^ 16 || s.rd RNG_RSTAT_STATE r ≠ ringRunning || (v + 2 ^ 16 - s.rd RNG_RIDX_CI r) % 2 ^ 16 > s.descCount r then s.doorbellReject
  else { (s.wr RNG_RIDX_PI v r) with rng := { s.rng with bell := Tab.put s.rng.bell r v 0 } }

/-- A write of RNG_EVCFG: EN from 0 to 1 starts the ring (R364). -/
def evcfgWrite (s : State) (w : Nat) : State :=
  let s1 := (s.writeReg 0x70008 w).when (!RNG_EVCFG_EVSIZE.codeOk (bitsOf w 3 0)) rngReject
  if !s.on RNG_EVCFG_EN && s1.on RNG_EVCFG_EN then (s1.wr RNG_EVIDX_WR 0).wr RNG_EVIDX_RD 0 else s1

/-- The holdoff of a vector ends (R367). -/
def holdoffEnd (s : State) (v : Nat) : State :=
  if !Tab.get s.rng.holding v false || !s.due (.holdoff v) then s
  else
    let s1 := { s with rng := { s.rng with holding := Tab.put s.rng.holding v false false, due := Tab.put s.rng.due v false false } }
    if Tab.get s.rng.due v false then s1.sendMsix v else s1

/-- Pending messages that may be sent now go out (R351, R367). -/
def msixRelease (s : State) : State :=
  s.each (List.range 128) (fun s v =>
    if s.bitAt PCX_MSIX_PBA_PENDING (v % 32) (v / 32) && !s.on PCX_MSIX_CTRL_MASK v && s.hostReady && !Tab.get s.rng.holding v false then
      (s.putBit PCX_MSIX_PBA_PENDING (v % 32) false (v / 32)).sendMsix v
    else s)

/-! The PCIe link (R347, R351). -/

/-- What services and DMA channels still do for host-side rings that are gone is no longer for a descriptor (R351). -/
def ringsForget (s : State) : State :=
  let gone (r : Nat) : Bool := r < 128 && !s.ringMgmt r
  let free (t : Tab (Option (Nat × Nat))) : Tab (Option (Nat × Nat)) :=
    (List.range 32).foldl (fun t n => if (Tab.get t n none).any (fun x => gone x.1) then Tab.put t n none none else t) t
  { s with
    sto := { s.sto with
      reqs := s.sto.reqs.map (fun x => (x.1, x.2.map (fun q => if gone q.ring then { q with ring := 128 } else q))),
      done := s.sto.done.filter (fun x => !gone x.1) },
    dma := { s.dma with cur := free s.dma.cur, next := free s.dma.next } }

/-- The host is lost (R351): host-side rings are disabled without write-back, the event ring stops, the event is counted and reported. -/
def hostLost (s : State) : State :=
  let s1 := s.each (List.range 128) (fun s r =>
    if s.ringMgmt r || s.rd RNG_RSTAT_STATE r = ringDisabled then s
    else (((s.wr RNG_RCFG_EN 0 r).wr RNG_RSTAT_STATE ringDisabled r).wr RNG_RSTAT_ERR RingErr.link.code r).setFetched r [])
  let s2 := ((s1.wr RNG_EVCFG_EN 0).sat PCX_CNT_COUNT 2).wr PCX_STAT_DLEV 1
  ({ s2 with rng := { s2.rng with late := [] } }).ringsForget.fault 14 0

/-- The link is down. -/
def linkGone (s : State) : State :=
  let s1 := ((s.wr PCX_STAT_LINKUP 0).wr PCX_STAT_SPEED 0).wr PCX_STAT_WIDTH 0
  { s1 with pcx := { s1.pcx with devBar := none } }

/-- The function's configuration space and MSI-X table return to their values at reset (PCI Express). -/
def functionReset (s : State) : State :=
  let s1 := s.each (List.range 128) (fun s v =>
    (((s.wr PCX_MSIX_ADDRLO_ADDR 0 v).wr PCX_MSIX_ADDRHI_ADDR 0 v).wr PCX_MSIX_DATA_DATA 0 v).wr PCX_MSIX_CTRL_MASK 1 v)
  let s2 := (s1.each (List.range 4) (fun s j => s.wr PCX_MSIX_PBA_PENDING 0 j)).wr PCX_STAT_D3 0
  { s2 with pcx := { s2.pcx with busMaster := false } }

/-- Link training completes (R347): speed and width codes 1–3, within MAXSPD and MAXW; in the root role the hub places the device's BAR0 (R349). -/
def linkUp (s : State) (speed width : Nat) : State :=
  if !s.on PCX_CTRL_EN || s.on PCX_STAT_LINKUP || (!s.on PCX_CTRL_ROLE && s.pcx.perst) || speed = 0 || width = 0 then s
  else
    let s1 := ((s.wr PCX_STAT_LINKUP 1).wr PCX_STAT_SPEED (min speed (s.rd PCX_CTRL_MAXSPD))).wr PCX_STAT_WIDTH (min width (s.rd PCX_CTRL_MAXW))
    { s1 with pcx := { s1.pcx with devBar := if s.on PCX_CTRL_ROLE then some 0x10000000 else none } }

/-- Bus Master Enable and D3hot change (R351). -/
def busChange (s : State) (bme d3 : Bool) : State :=
  let s1 := { (s.wr PCX_STAT_D3 (bit d3)) with pcx := { s.pcx with busMaster := bme } }
  if s1.hostReady then s1.flushLate.msixRelease else s1

/-- Writes of PCX and RNG registers. -/
def rngWrite (s : State) (off w : Nat) : Option State :=
  let o := off - 0x70000
  if off % 4 ≠ 0 then none
  else if off = 0x6001C then some (s.each (List.range 3) (fun s i => s.when (w.testBit i) (·.wr PCX_CNT_COUNT 0 i)))
  else if 0x68000 ≤ off && off < 0x68800 then some (s.writeReg off w).msixRelease
  else if off < 0x70000 || off ≥ 0x80000 then none
  else if o = 8 then some (s.evcfgWrite w)
  else if o = 0xC then some (if s.on RNG_EVCFG_EN then s else s.writeReg off w)
  else if o = 0x60 then some (s.each (List.range 6) (fun s i => s.when (w.testBit i) (·.wr RNG_CNT_COUNT 0 i)))
  else if o = 0x400 then some s
  else if 0x1000 ≤ o && o < 0x2000 && o % 0x20 = 0 then some (s.rcfgWrite ((o - 0x1000) / 0x20) w)
  else if 0x1000 ≤ o && o < 0x2000 && (o % 0x20 = 4 || o % 0x20 = 8) then some (s.rbaseWrite ((o - 0x1000) / 0x20) off w)
  else none

end State

/-- PERST_ASSERT (R351). -/
def execPerstAssert (s : State) : Host.Outcome State Fault Refusal :=
  .next { s.hostLost.linkGone.functionReset with pcx := { s.hostLost.linkGone.functionReset.pcx with perst := true } }

/-- PERST_DEASSERT (R347). -/
def execPerstDeassert (s : State) : Host.Outcome State Fault Refusal := .next { s with pcx := { s.pcx with perst := false } }

/-- PCIE_LINK_UP (R347), with the speed and width that the partner allows. -/
def execPcieLinkUp (speed width : Fin 4) (s : State) : Host.Outcome State Fault Refusal := .next (s.linkUp speed width)

/-- PCIE_LINK_DOWN (R351). -/
def execPcieLinkDown (s : State) : Host.Outcome State Fault Refusal := if s.on PCX_STAT_LINKUP then .next s.hostLost.linkGone else .next s

/-- HOT_RESET (R351). -/
def execHotReset (s : State) : Host.Outcome State Fault Refusal := .next (s.hostLost.linkGone.functionReset.wr PCX_STAT_HOTRST 1)

/-- FUNCTION_LEVEL_RESET (R351). -/
def execFunctionLevelReset (s : State) : Host.Outcome State Fault Refusal := .next (s.hostLost.functionReset.wr PCX_STAT_FLREV 1)

/-- BUS_MASTER_CHANGE (R351). -/
def execBusMasterChange (bme d3 : Bool) (s : State) : Host.Outcome State Fault Refusal := .next (s.busChange bme d3)

/-- RING_ENABLE (R355): `w`, with EN = 1, written to RNG_RCFGr. -/
def execRingEnable (r : Fin 128) (w : Word) (s : State) : Host.Outcome State Fault Refusal := .next (s.rcfgWrite r w.toNat)

/-- RING_DISABLE (R363): EN = 0 written to RNG_RCFGr. -/
def execRingDisable (r : Fin 128) (s : State) : Host.Outcome State Fault Refusal := if s.on RNG_RCFG_EN r then .next (s.ringStop r) else .next s

/-- RING_DRAINED (R363). -/
def execRingDrained (r : Fin 128) (s : State) : Host.Outcome State Fault Refusal := .next (s.ringDrained r)

/-- DOORBELL_WRITE (R357, R358): `v` written at BAR2 offset `off`. -/
def execDoorbellWrite (off : Fin 8192) (v : Word) (whole dis : Bool) (s : State) : Host.Outcome State Fault Refusal :=
  .next (s.doorbell off v.toNat whole dis)

/-- EVENT_DOORBELL_WRITE (R364). -/
def execEventDoorbellWrite (v : Word) (s : State) : Host.Outcome State Fault Refusal := .next (s.eventBell v.toNat)

/-- EVENT_RING_ENABLE (R364): `w` written to RNG_EVCFG. -/
def execEventRingEnable (w : Word) (s : State) : Host.Outcome State Fault Refusal := .next (s.evcfgWrite w.toNat)

/-- DESCRIPTOR_FETCH (R356) of ring `r`; `err`: a bus error. -/
def execDescriptorFetch (r : Fin 128) (err : Bool) (s : State) : Host.Outcome State Fault Refusal := .next (s.descFetch r err)

/-- TX_DESCRIPTOR (R360). -/
def execTxDescriptor (r : Fin 128) (err : Fin 3) (s : State) : Host.Outcome State Fault Refusal :=
  .next (s.txDescriptor r (if err = 1 then .buffer else if err = 2 then .writeBack else .noError))

/-- RX_DELIVERY (R361) at P18, or with `mgmt` at P21. -/
def execRxDelivery (mgmt : Bool) (err : Fin 3) (s : State) : Host.Outcome State Fault Refusal :=
  .next (s.rxDeliver (if mgmt then 21 else 18) (if err = 1 then .buffer else if err = 2 then .writeBack else .noError))

/-- RXWAIT_EXPIRY (R361). -/
def execRxwaitExpiry (mgmt : Bool) (s : State) : Host.Outcome State Fault Refusal := .next (s.rxExpire (if mgmt then 21 else 18))

/-- HOLDOFF_EXPIRY (R367). -/
def execHoldoffExpiry (v : Fin 128) (s : State) : Host.Outcome State Fault Refusal := .next (s.holdoffEnd v)

/-- ILIM_RETRY (R200): the packet that port `p` holds at its ingress limit is retried. -/
def execIlimRetry (p : Fin 23) (s : State) : Host.Outcome State Fault Refusal :=
  .next ((s.ilimRetry p).1.heldDone p (s.ilimRetry p).2)

/-- POLICED_PACKET_RELEASE (R227): the red packet that port `p` holds is tried again. -/
def execPolicedPacketRelease (p : Fin 23) (s : State) : Host.Outcome State Fault Refusal :=
  .next ((s.policedRetry p).1.heldDone p (s.policedRetry p).2)

end Sys2Proof.Machine
end

