-- ==== Sys2Proof/Machine/Storage.lean ====
section
/-! DEFINITION. Block tunnels and the storage back ends (R321 to R330 of spec/13_storage_serial.md). -/

namespace Sys2Proof.Machine

/-- STATUS values of R324. -/
inductive BlkStatus where
  | ok | range | tooBig | badCmd | media | timeout | dataLost | noMedia | wProt | aborted | noResp
  deriving DecidableEq, Repr

/-- The numbers of the codes. -/
def BlkStatus.code : BlkStatus → Nat
  | .ok => 0 | .range => 1 | .tooBig => 2 | .badCmd => 3 | .media => 4 | .timeout => 5 | .dataLost => 6 | .noMedia => 7
  | .wProt => 8 | .aborted => 9 | .noResp => 10

/-- Operations (R322). -/
def blkInfo : Nat := 0
def blkRead : Nat := 1
def blkWrite : Nat := 2
def blkFlush : Nat := 3

/-- Back-end states (STO_STAT). -/
def beOff : Nat := 0
def beInit : Nat := 1
def beReady : Nat := 2
def beReset : Nat := 3
def beFail : Nat := 4

/-- A block of data. -/
def blkSize : Nat := 4096

/-- A message of a block tunnel (R322). -/
structure BlkMsg where
  kind : Nat
  op : Nat
  tag : Nat
  serial : Nat
  blk : Nat
  /-- Byte 9, bytes 10–11, bit 0 of byte 12. -/
  b9 : Nat
  count : Nat
  wp : Bool
  data : List Byte
  deriving DecidableEq, Repr

/-- The fields of a message. -/
def parseBlk (b : List Byte) : BlkMsg :=
  let b1 := (b.getD 1 0).toNat
  { kind := (b.getD 0 0).toNat, op := bitsOf b1 7 6, tag := bitsOf b1 5 0, serial := ofBe ((b.drop 2).take 2), blk := ofBe ((b.drop 4).take 5),
    b9 := (b.getD 9 0).toNat, count := ofBe ((b.drop 10).take 2), wp := (b.getD 12 0).toNat.testBit 0, data := b.drop 16 }

/-- The 16-byte header of a message (R322). -/
def blkHeader (kind op tag serial blk b9 count : Nat) (wp : Bool) : List Byte :=
  beBytes 1 kind ++ beBytes 1 (op % 4 * 64 + tag % 64) ++ beBytes 2 serial ++ beBytes 5 blk ++ beBytes 1 b9 ++ beBytes 2 count ++ beBytes 1 (bit wp) ++
  beBytes 3 0

/-- Data cut into blocks. -/
def blocksOf : Nat → List Byte → List (List Byte)
  | 0, _ => []
  | n + 1, l => l.take blkSize :: blocksOf n (l.drop blkSize)

/-- The first run of consecutive numbers from the first of a rising list on: its length. -/
def runLength : List Nat → Nat
  | [] => 0
  | [_] => 1
  | a :: b :: l => if b = a + 1 then runLength (b :: l) + 1 else 1

namespace State

/-- A count of a block entry (BSTAT) advances. -/
def blkCount (s : State) (e k n : Nat) : State :=
  { s with sto := { s.sto with counts := Tab.put s.sto.counts (8 * e + k) (satAdd 32 (Tab.get s.sto.counts (8 * e + k) 0) n) 0 } }

/-- A protocol error of a block entry (R255, R322, R328). -/
def blkErr (s : State) (e : Nat) : State := (s.svcErr e).blkCount e 4 1

/-- RTO of an entry in ns, and RTO × (RETRY + 1) (R325, R328). -/
def blkRtoNs (s : State) (e : Nat) : Nat := s.param e 2 1 * 1000000
def blkSpan (s : State) (e : Nat) : Nat := s.blkRtoNs e * (s.param e 3 1 + 1)

/-- The agreed version of a block entry. -/
def blkVer (s : State) (e : Nat) : Nat := s.rd CTX2_VER (s.rd TEN_SVC1_RXSLOT e)

/-- The role of an entry: it is a target. -/
def blkTarget (s : State) (e : Nat) : Bool := s.param e 0 1 == 1

/-- The length of a message is right, its kind known and, for DATA, its number of blocks allowed by the version (R322). -/
def blkGood (s : State) (e : Nat) (b : List Byte) : Bool :=
  let m := parseBlk b
  if b.length < 16 then false
  else if m.kind = 1 || m.kind = 3 then b.length == 16
  else if m.kind = 2 then b.length == 16 + blkSize * (m.b9 % 2 + 1) && (m.b9 % 2 = 0 || s.blkVer e ≥ 3)
  else false

/-- The oldest inbound message of a block entry, where it is of a kind; a malformed one is discarded and counted (R322). -/
def takeBlk (s : State) (e kind : Nat) : State × Option BlkMsg :=
  if !s.svcRuns e || s.rd TEN_SVC0_TYPE e ≠ tyBlock then (s, none)
  else
    match s.takeInbound e with
    | (_, none) => (s, none)
    | (s1, some p) =>
      if !s.blkGood e p.payload then (s1.blkErr e, none)
      else if (parseBlk p.payload).kind ≠ kind then (s, none)
      else (s1, some (parseBlk p.payload))

/-! The initiator (R323, R325, R326, R362). -/

/-- Requests of an initiator. -/
def reqs (s : State) (e : Nat) : List BlkReq := Tab.get s.sto.reqs e []
def setReqs (s : State) (e : Nat) (l : List BlkReq) : State := { s with sto := { s.sto with reqs := Tab.put s.sto.reqs e l [] } }

/-- A request replaced, by its tag. -/
def putReq (s : State) (e : Nat) (r : BlkReq) : State := s.setReqs e ((s.reqs e).map (fun x => if x.tag == r.tag then r else x))

/-- A free TAG (R323, R326). -/
def freeTag (s : State) (e : Nat) : Option Nat :=
  (List.range 64).find? (fun t => !(s.reqs e).any (fun r => r.tag == t) && !(Tab.get s.sto.quar e []).contains t)

/-- The DATA messages of a command's blocks, at most `per` blocks each. -/
def dataMessages (op tag serial : Nat) : Nat → Nat → Nat → List (List Byte) → List (List Byte)
  | 0, _, _, _ => []
  | n + 1, per, b, l =>
    if l.isEmpty then []
    else
      let k := min per l.length
      (blkHeader 2 op tag serial b (k - 1) 0 false ++ (l.take k).flatten) :: dataMessages op tag serial n per (b + k) (l.drop k)

/-- The command of a request is sent, with all DATA of a WRITE, and waits RTO for its CPL (R325). -/
def sendBlkCmd (s : State) (e : Nat) (r : BlkReq) : State :=
  let nb := if r.op = blkRead || r.op = blkWrite then r.cnt - 1 else 0
  let s1 := (s.arm (.block e r.tag) (s.blkRtoNs e)).engineSend e (blkHeader 1 r.op r.tag r.serial r.first nb 0 false)
  if r.op ≠ blkWrite then s1
  else
    let d := s.readSide (s.ringMgmt r.ring) r.addr (r.nblk * blkSize)
    s1.each (dataMessages blkWrite r.tag r.serial r.cnt (if s.blkVer e ≥ 3 then 2 else 1) r.first (blocksOf r.cnt d)) (fun s m => s.engineSend e m)

/-- A new command for a request, with a fresh SERIAL. -/
def newBlkCmd (s : State) (e : Nat) (r : BlkReq) : State :=
  let q := Tab.get s.sto.serial e 0
  let r1 := { r with serial := q, tries := 0 }
  let s1 := { s with sto := { s.sto with serial := Tab.put s.sto.serial e (wrapAdd 16 q 1) 0 } }
  ((s1.putReq e r1).blkCount e 0 1).sendBlkCmd e r1

/-- A request ends: its descriptor, where its ring still has it, can be completed. -/
def endReq (s : State) (e : Nat) (r : BlkReq) (d : BlkDone) : State :=
  let s1 := (s.disarm (.block e r.tag)).setReqs e ((s.reqs e).filter (fun x => x.tag != r.tag))
  if r.ring ≥ 128 then s1
  else { s1 with sto := { s1.sto with done := Tab.put s1.sto.done r.ring (Tab.get s1.sto.done r.ring [] ++ [d]) [] } }

/-- The service of entry `e` is a block initiator that is ACTIVE on a running engine; any other serves no descriptor (R321, R359, log entry 36). -/
def blkServes (s : State) (e : Nat) : Bool := s.svcRuns e && s.rd TEN_SVC0_TYPE e == tyBlock && !s.blkTarget e

/-- SVC_DESCRIPTOR (R362): the oldest fetched descriptor of an SVC ring goes to its block initiator, which takes none while a QUIESCE of it is being served (R255). -/
def svcDescriptor (s : State) (r : Nat) : State :=
  let e := s.rd RNG_RCFG_BIND r
  if s.rd RNG_RSTAT_STATE r ≠ ringRunning || s.rd RNG_RCFG_TYPE r ≠ ringSvc || !s.ringReady r then s
  else
    match s.nextDesc r with
    | none => s
    | some d =>
      let op := d.le 8 1
      let io := op = blkRead || op = blkWrite
      let s1 := s.startDesc r d.idx
      if op > 3 || (!io && d.le 9 1 ≠ 0) || !d.zero 10 11 || !d.zero 17 23 || !d.zero 28 29 || d.le 31 1 % 64 ≠ 0 then s1.descFails r d .badDesc
      else if !s.blkServes e then s1.descFails r d .svcHalt
      else if s.quiescing e then s
      else
        let n := if io then d.le 9 1 + 1 else 0
        if io && d.le 24 4 < n * blkSize then s1.descFails r d .tooBig
        else
          match s.freeTag e with
          | none => s
          | some t =>
            let q : BlkReq := { ring := r, idx := d.idx, op := op, addr := d.le 0 8, blk := d.le 12 5, nblk := n, tag := t, first := d.le 12 5, cnt := n }
            (s1.setReqs e (s1.reqs e ++ [q])).newBlkCmd e q

/-- DATA of a READ at the initiator: its blocks go to the request's buffer. -/
def readData (s : State) (e : Nat) (m : BlkMsg) : State :=
  match (s.reqs e).find? (fun r => r.tag == m.tag && r.serial == m.serial && r.op == blkRead) with
  | none => s
  | some r =>
    let bs := (blocksOf (m.data.length / blkSize) m.data).zipIdx.filter (fun x => r.first ≤ m.blk + x.2 && m.blk + x.2 < r.first + r.cnt)
    let s1 := s.each (if r.ring < 128 then bs else []) (fun s x => s.writeSide (s.ringMgmt r.ring) (r.addr + (m.blk + x.2 - r.blk) * blkSize) x.1)
    (s1.putReq e { r with got := r.got ++ (bs.map (fun x => m.blk + x.2)).filter (fun b => !r.got.contains b) }).blkCount e 1 bs.length

/-- CPL at the initiator (R326): the request ends, or its missing blocks are read again. -/
def blkCpl (s : State) (e : Nat) (m : BlkMsg) : State :=
  match (s.reqs e).find? (fun r => r.tag == m.tag && r.serial == m.serial) with
  | none => s
  | some r =>
    if r.op = blkRead then
      let (st, n) := match r.res with
        | none => (m.b9, m.count)
        | some x => if m.b9 = 0 then x else (m.b9, r.first - r.blk + m.count)
      let miss := ((List.range n).map (fun k => r.blk + k)).filter (fun b => !r.got.contains b)
      match miss with
      | [] => s.endReq e r { idx := r.idx, count := n, status := st }
      | b :: _ => s.newBlkCmd e { r with first := b, cnt := runLength miss, res := some (st, n) }
    else (s.blkCount e 2 (if r.op = blkWrite then m.count else 0)).endReq e r
      { idx := r.idx, size := if r.op = blkInfo then m.blk else 0, wp := r.op == blkInfo && m.wp, count := m.count, status := m.b9 }

/-- RTO of a command (R325). -/
def blkRto (s : State) (e tag : Nat) : State :=
  match (s.reqs e).find? (fun r => r.tag == tag) with
  | none => s
  | some r =>
    if !s.svcRuns e || !s.due (.block e tag) then s
    else if r.tries < s.param e 3 1 then
      let r1 := { r with tries := r.tries + 1 }
      ((s.putReq e r1).blkCount e 3 1).sendBlkCmd e r1
    else
      let s1 := s.endReq e r { idx := r.idx, count := 0, status := BlkStatus.noResp.code }
      ({ s1 with sto := { s1.sto with quar := Tab.put s1.sto.quar e (tag :: Tab.get s1.sto.quar e []) [] } }).arm (.quarantine e tag) (s1.blkSpan e)

/-- A TAG leaves quarantine (R326). -/
def quarantineEnd (s : State) (e tag : Nat) : State :=
  if s.due (.quarantine e tag) then
    { (s.disarm (.quarantine e tag)) with sto := { s.sto with quar := Tab.put s.sto.quar e ((Tab.get s.sto.quar e []).filter (· != tag)) [] } }
  else s

/-- SVC_COMPLETE (R362, R363): the oldest ended request of ring `r` is written back; the oldest one that was lost with its engine's state, or with its entry, completes with SVCHALT. -/
def svcComplete (s : State) (r : Nat) (err : Bool) : State :=
  let e := s.rd RNG_RCFG_BIND r
  if s.rd RNG_RCFG_TYPE r ≠ ringSvc then s
  else
    match Tab.get s.sto.done r [] with
    | d :: l =>
      match (s.fetched r).find? (fun x => x.idx == d.idx && x.runs) with
      | none => { s with sto := { s.sto with done := Tab.put s.sto.done r l [] } }
      | some x =>
        let wb := (x.bytes.drop 8).take 4 ++ leBytes 5 (if d.size = 0 then x.le 12 5 else d.size) ++ leBytes 1 (bit d.wp) ++ List.replicate 6 0 ++
          leBytes 2 d.count ++ leBytes 1 d.status ++ [0] ++ List.replicate 2 0
        ({ s with sto := { s.sto with done := Tab.put s.sto.done r l [] } }).ringDone r d.idx wb 0 err
    | [] =>
      match (s.fetched r).find? (fun x => x.runs && !(s.reqs e).any (fun q => q.ring == r && q.idx == x.idx) &&
          !s.rng.late.any (fun y => y.1 == r && y.2.1 == x.idx)) with
      | none => s
      | some x => s.descFails r x .svcHalt

/-! The target (R324, R325, R327, R329). -/

/-- The medium of a target entry: 0 NVMe, 1 eMMC/SD; its partition. -/
def blkMedium (s : State) (e : Nat) : Nat := s.param e 1 1
def partBase (s : State) (e : Nat) : Nat := s.param e 4 5
def partSize (s : State) (e : Nat) : Nat := s.param e 9 5

/-- Capacity of a medium in blocks. -/
def capacity (s : State) (m : Nat) : Nat :=
  if m = 0 then s.rd STO_NVME_CAP_HI_BLOCKS * 2 ^ 32 + s.rd STO_NVME_CAP_LO_BLOCKS else s.rd STO_MMC_CAP_HI_BLOCKS * 2 ^ 32 + s.rd STO_MMC_CAP_LO_BLOCKS

/-- The medium is write-protected: WP shows the card's (R322). -/
def medWp (s : State) (m : Nat) : Bool := m == 1 && s.on STO_STAT_WP

/-- Command timeout of a back end in ns (R330). -/
def ctoNs (s : State) (m : Nat) : Nat := (if m = 0 then s.rd STO_NVME_CFG_CTO else s.rd STO_MMC_CFG_CTO) * 100000000

/-- The state of a back end. -/
def beState (s : State) (m : Nat) : Nat := if m = 0 then s.rd STO_STAT_NVSTATE else s.rd STO_STAT_MMCSTATE

/-- A back end enters a state. -/
def setBe (s : State) (m st : Nat) : State :=
  if m = 0 then (s.wr STO_STAT_NVSTATE st).wr STO_STAT_NVEV 1 else (s.wr STO_STAT_MMCSTATE st).wr STO_STAT_MMCEV 1

/-- A counter of STO_CNT advances. -/
def stoCount (s : State) (i : Nat) : State := s.sat STO_CNT_COUNT i

/-- Commands of a target. -/
def blkCmds (s : State) (e : Nat) : List BlkCmd := Tab.get s.sto.cmds e []
def setCmds (s : State) (e : Nat) (l : List BlkCmd) : State := { s with sto := { s.sto with cmds := Tab.put s.sto.cmds e l [] } }

/-- A command replaced, by its tag. -/
def putCmd (s : State) (e : Nat) (c : BlkCmd) : State := s.setCmds e ((s.blkCmds e).map (fun x => if x.tag == c.tag then c else x))

/-- The CPL of a command: held for its tag, and sent on the return tunnel (R325). -/
def sendCpl (s : State) (e : Nat) (c : BlkCmd) (status : Nat) : State :=
  let info := c.op = blkInfo && status = 0
  let b := blkHeader 3 c.op c.tag c.serial (if info then s.partSize e else 0) status c.count (info && s.medWp (s.blkMedium e))
  let h := (c.tag, c.serial, b) :: (Tab.get s.sto.held e []).filter (fun x => x.1 != c.tag)
  let s1 := ((s.disarm (.blockData e c.tag)).disarm (.backend e c.tag)).setCmds e ((s.blkCmds e).filter (fun x => x.tag != c.tag))
  ({ s1 with sto := { s1.sto with held := Tab.put s1.sto.held e h [] } }).engineSend e b

/-- The checks of a new command, in their order (R324). -/
def blkCheck (s : State) (e : Nat) (m : BlkMsg) : Option BlkStatus :=
  let v := s.blkVer e
  let io := m.op = blkRead || m.op = blkWrite
  let n := if io then m.b9 + 1 else 0
  if (v < 2 && !io) || (v < 2 && n > 16) || (!io && m.b9 ≠ 0) then some .badCmd
  else if io && m.blk + n > s.partSize e then some .range
  else if io && n * blkSize > s.param e 14 2 * 65536 then some .tooBig
  else if s.beState (s.blkMedium e) ≠ beReady then some .noMedia
  else if m.op = blkWrite && s.medWp (s.blkMedium e) then some .wProt
  else none

/-- A new command at the target. -/
def newCmd (s : State) (e : Nat) (m : BlkMsg) : State :=
  let c : BlkCmd := { tag := m.tag, serial := m.serial, op := m.op, blk := m.blk, nblk := if m.op = blkRead || m.op = blkWrite then m.b9 + 1 else 0 }
  let s1 := (s.setCmds e ((s.blkCmds e).filter (fun x => x.tag != m.tag))).blkCount e 0 1
  match s.blkCheck e m with
  | none => (s1.setCmds e (s1.blkCmds e ++ [c])).when (m.op == blkWrite) (·.arm (.blockData e m.tag) (s1.blkSpan e))
  | some st =>
    let s2 := if st = .range then s1.stoCount 0 else if st = .tooBig then s1.stoCount 1 else if st = .badCmd then s1.stoCount 2 else s1
    s2.sendCpl e c st.code

/-- CMD at the target (R325). -/
def blkCmdReceive (s : State) (e : Nat) (m : BlkMsg) : State :=
  match (s.blkCmds e).find? (fun c => c.tag == m.tag) with
  | some c => if c.serial = m.serial then s else (s.stoCount 6).newCmd e m
  | none =>
    match (Tab.get s.sto.held e []).find? (fun h => h.1 == m.tag && h.2.1 == m.serial) with
    | some h => (s.stoCount 6).engineSend e h.2.2
    | none => s.newCmd e m

/-- Two commands' block ranges overlap; a command without blocks overlaps none. -/
def blkOverlap (a b : BlkCmd) : Bool := a.nblk != 0 && b.nblk != 0 && a.blk < b.blk + b.nblk && b.blk < a.blk + a.nblk

/-- Staging in use by the commands of an entry, in bytes. -/
def stagingUsed (s : State) (e : Nat) : Nat := (((s.blkCmds e).filter (·.started)).map (fun c => c.nblk * blkSize)).foldl (· + ·) 0

/-- A command may start: staging has room, and the earlier commands that it waits for are done (R324). -/
def blkReady (s : State) (e : Nat) (c : BlkCmd) : Bool :=
  let before := (s.blkCmds e).takeWhile (fun x => x.tag != c.tag)
  s.stagingUsed e + c.nblk * blkSize ≤ s.param e 14 2 * 65536 && !before.any (fun x => blkOverlap x c) &&
  (c.op != blkFlush || !before.any (fun x => x.op == blkWrite))

/-- Blocks of a WRITE that can be written now: staged, in block order (R327). -/
def staged (c : BlkCmd) : List (List Byte) :=
  (((List.range c.nblk).drop c.count).takeWhile (fun k => !(Tab.get c.data (c.blk + k) []).isEmpty)).map (fun k => Tab.get c.data (c.blk + k) [])

/-- The back end has a medium command of `c` to carry out: it runs under CTO from now on (R330); a WRITE has none while its next block is missing. -/
def backendRuns (s : State) (e : Nat) (c : BlkCmd) : State :=
  if c.status.isNone && c.started && (c.op != blkWrite || !(staged c).isEmpty) then s.arm (.backend e c.tag) (s.ctoNs (s.blkMedium e))
  else s.disarm (.backend e c.tag)

/-- Blocks `b` to `b + n - 1` in transfers of at most `per` blocks (R330): first block and length of each. -/
def transfers (per : Nat) : Nat → Nat → Nat → List (Nat × Nat)
  | 0, _, _ => []
  | fuel + 1, b, n =>
    if n = 0 then []
    else
      let k := if per = 0 then n else min per n
      (b, k) :: transfers per fuel (b + k) (n - k)

/-- The medium commands for `n` medium blocks from `b` on (R330): logical block address and length of each; NVMe by its LBA size and within MDTS, eMMC and SD in sectors, at most 256 each, a standard-capacity card addressed in bytes. -/
def medCommands (s : State) (m b n : Nat) : List (Nat × Nat) :=
  if m = 0 then
    let unit := blkSize / 2 ^ s.rd STO_NVME_CAP_HI_LBASZ
    (transfers s.sto.mdts n b n).map (fun x => (x.1 * unit, x.2 * unit))
  else (transfers 32 n b n).map (fun x => (x.1 * 8 * (if s.sto.byteCard then 512 else 1), x.2 * 8))

/-- BLOCK_CMD_EXECUTE (R324, R330): a command is given to the back end. -/
def blkExecute (s : State) (e tag : Nat) : State :=
  match (s.blkCmds e).find? (fun c => c.tag == tag && !c.started && c.status.isNone) with
  | none => s
  | some c =>
    let m := s.blkMedium e
    if !s.svcRuns e || !s.fullPower || s.restricted || !s.blkReady e c then s
    else if s.beState m = beFail || s.beState m = beOff then s.putCmd e { c with status := some BlkStatus.noMedia.code }
    else if s.beState m ≠ beReady then s
    else
      let c1 := { c with started := true, status := if c.op = blkInfo then some 0 else none }
      let s1 := (s.putCmd e c1).backendRuns e c1
      { s1 with sto := { s1.sto with issued := (m, s.medCommands m (s.partBase e + c.blk) c.nblk) } }

/-- BACKEND_COMMAND_DONE (R324, R330): the back end has moved up to `n` further blocks of a command, with the data that it read, or reports an error. -/
def backendDone (s : State) (e tag n : Nat) (ok : Bool) (data : List Byte) : State :=
  match (s.blkCmds e).find? (fun c => c.tag == tag && c.started && c.status.isNone) with
  | none => s
  | some c =>
    if !ok then (s.stoCount 3).putCmd e { c with status := some BlkStatus.media.code }
    else if c.op = blkFlush then s.putCmd e { c with status := some 0 }
    else if c.op = blkRead then
      let k := min n (c.nblk - c.count)
      let ms := dataMessages blkRead c.tag c.serial k (if s.blkVer e ≥ 3 then 2 else 1) (c.blk + c.count) (blocksOf k data)
      let c1 := { c with count := c.count + k, status := if c.count + k = c.nblk then some 0 else none }
      (((s.putCmd e c1).backendRuns e c1).blkCount e 1 k).each ms (fun s m => s.engineSend e m)
    else
      let k := min n (staged c).length
      let c1 := { c with count := c.count + k, status := if c.count + k = c.nblk then some 0 else none }
      ((((s.putCmd e c1).backendRuns e c1).blkCount e 2 k).when (k ≠ 0 && c1.status.isNone) (·.arm (.blockData e tag) (s.blkSpan e)))

/-- BLOCK_CMD_COMPLETE (R324): a command whose outcome is known ends with its CPL. -/
def blkComplete (s : State) (e tag : Nat) : State :=
  match (s.blkCmds e).find? (fun c => c.tag == tag) with
  | none => s
  | some c =>
    match c.status with
    | none => s
    | some st => if s.svcRuns e then s.sendCpl e c st else s

/-- DATA at the target (R325): kept for blocks not yet written of an active WRITE. -/
def writeData (s : State) (e : Nat) (m : BlkMsg) : State :=
  match (s.blkCmds e).find? (fun c => c.tag == m.tag && c.serial == m.serial && c.op == blkWrite) with
  | none => s
  | some c =>
    let bs := (blocksOf (m.data.length / blkSize) m.data).zipIdx.filter (fun x => c.blk + c.count ≤ m.blk + x.2 && m.blk + x.2 < c.blk + c.nblk)
    let c1 := { c with data := bs.foldl (fun t x => Tab.put t (m.blk + x.2) x.1 []) c.data }
    (s.putCmd e c1).when ((staged c).isEmpty) (·.backendRuns e c1)

/-- DATA of a block tunnel, by the role of the entry. -/
def blkData (s : State) (e : Nat) (m : BlkMsg) : State := if s.blkTarget e then s.writeData e m else s.readData e m

/-- The next block of a WRITE has not arrived in time, counted from the command or the block before it (R327, log entry 62); the time stands still while the engine is halted (R52). -/
def dataTimeout (s : State) (e tag : Nat) : State :=
  match (s.blkCmds e).find? (fun c => c.tag == tag && c.op == blkWrite && c.status.isNone) with
  | none => s
  | some c => if s.svcRuns e && s.due (.blockData e tag) && (staged c).isEmpty then (s.stoCount 5).putCmd e { c with status := some BlkStatus.dataLost.code } else s

/-! Back ends (R330). -/

/-- The commands that a back end runs end with a status; `f` picks those whose own differs. -/
def endInFlight (s : State) (m : Nat) (f : Nat → Nat → Option Nat) : State :=
  s.each (List.range 128) (fun s e =>
    if s.on TEN_SVC0_EN e && s.rd TEN_SVC0_TYPE e = tyBlock && s.blkTarget e && s.blkMedium e = m then
      s.setCmds e ((s.blkCmds e).map (fun c =>
        if c.started && c.status.isNone then
          match f e c.tag with
          | some st => { c with status := some st }
          | none => c
        else c))
    else s)

/-- A write of STO_CTRL: an enable from 0 to 1 starts initialisation, 0 turns the back end off (R330). -/
def stoCtrlWrite (s : State) (w : Nat) : State :=
  let s1 := s.writeReg 0x1F0000 w
  let one (s1 : State) (m : Nat) (F : Field) : State :=
    if s.on F == s1.on F then s1
    else if s1.on F then s1.setBe m beInit
    else (s1.endInFlight m (fun _ _ => some BlkStatus.noMedia.code)).setBe m beOff
  one (one s1 0 STO_CTRL_NVEN) 1 STO_CTRL_MMCEN

/-- A back end fails with a cause: 1 INITTO, 2 LBAFMT, 3 RESETS, 4 CARD. -/
def beFails (s : State) (m cause : Nat) : State := (s.setBe m beFail).wr STO_STAT_FCAUSE cause

/-- The achieved mode (R330): MODE, then each lower mode of the same family, the first that the card takes; `modes` has a bit for each mode that it takes. -/
def achieved (s : State) (modes : BitVec 6) : Option Nat :=
  let k := s.rd STO_MMC_CFG_MODE
  (if k < 3 then (List.range 3).drop k else (List.range 6).drop k).find? (fun x => modes.getLsbD x)

/-- Commands that an eMMC or SD back end had in flight when its card was initialised again go on (R330). -/
def resumeCard (s : State) : State :=
  s.each ((List.range 128).filter (fun e => s.on TEN_SVC0_EN e && s.rd TEN_SVC0_TYPE e == tyBlock && s.blkTarget e && s.blkMedium e == 1)) (fun s e =>
    s.each (s.blkCmds e) (fun s c => s.backendRuns e c))

/-- BACKEND_INIT_DONE (R330): READY with the medium's capacity, LBA size and MDTS, or achieved mode, addressing and write protection; or FAIL with a cause. -/
def initDone (s : State) (m cause blocks lbaSz mdts : Nat) (modes : BitVec 6) (byteCard wp : Bool) : State :=
  if s.beState m ≠ beInit && s.beState m ≠ beReset then s
  else if cause ≠ 0 then (s.endInFlight m (fun _ _ => some BlkStatus.noMedia.code)).beFails m cause
  else if m = 0 then
    if lbaSz ≠ 9 && lbaSz ≠ 12 then s.beFails 0 2
    else
      let s1 := (((s.setBe 0 beReady).wr STO_NVME_CAP_LO_BLOCKS blocks).wr STO_NVME_CAP_HI_BLOCKS (blocks / 2 ^ 32)).wr STO_NVME_CAP_HI_LBASZ lbaSz
      { s1 with sto := { s1.sto with mdts := mdts } }
  else match s.achieved modes with
    | none => (s.endInFlight 1 (fun _ _ => some BlkStatus.noMedia.code)).beFails 1 1
    | some mode =>
      let s1 := ((((s.setBe 1 beReady).wr STO_MMC_CAP_LO_BLOCKS blocks).wr STO_MMC_CAP_HI_BLOCKS (blocks / 2 ^ 32)).wr STO_MMC_CAP_HI_MODE mode).wr STO_STAT_WP (bit wp)
      { s1 with sto := { s1.sto with byteCard := byteCard } }.resumeCard

/-- CTO expires for a command (R330): it ends TIMEOUT, the others in flight at an NVMe device, or at a back end that fails, ABORTED, and the back end is initialised again, or fails at the third reset within 60 s. -/
def beTimeout (s : State) (e tag : Nat) : State :=
  let m := s.blkMedium e
  if !(s.blkCmds e).any (fun c => c.tag == tag && c.started && c.status.isNone) || !s.due (.backend e tag) then s
  else
    let recent := s.tmu.elapsed :: (Tab.get s.sto.resets m []).filter (fun t => s.tmu.elapsed < t + 60000000000 * 2 ^ 32)
    let all := m = 0 || recent.length ≥ 3
    let s1 := (s.endInFlight m (fun i t => if i = e && t = tag then some BlkStatus.timeout.code else if all then some BlkStatus.aborted.code else none)).stoCount 4 |>.stoCount 7
    let s2 := { s1 with sto := { s1.sto with resets := Tab.put s1.sto.resets m recent [] } }
    if recent.length ≥ 3 then s2.beFails m 3 else s2.setBe m beReset

/-- The NVMe link is down, or the card is gone (R330). -/
def beRemoved (s : State) (m : Nat) : State :=
  let s1 := s.endInFlight m (fun _ _ => some BlkStatus.noMedia.code)
  if m = 0 then (if s.on STO_CTRL_NVEN then s1.beFails 0 4 else s1)
  else
    let s2 := (s1.wr STO_STAT_CD 0).wr STO_STAT_MMCEV 1
    if s.on STO_CTRL_MMCEN && s.beState 1 ≠ beFail then s2.setBe 1 beInit else s2

/-- CARD_DETECT (R330): accepted once the level has held for CDDB. -/
def cardDetect (s : State) (present : Bool) (held : Nat) : State :=
  if present == s.on STO_STAT_CD || held < s.rd STO_MMC_CFG_CDDB * 1000000 * 2 ^ 32 then s
  else if present then (s.wr STO_STAT_CD 1).wr STO_STAT_MMCEV 1
  else s.beRemoved 1

/-- A target entry is enabled. -/
def anyTarget (s : State) : Bool :=
  (List.range 128).any (fun e => s.on TEN_SVC0_EN e && s.rd TEN_SVC0_TYPE e == tyBlock && s.blkTarget e)

/-- The first place in the cache, in units of 64 KiB, where a staging area of `n` units fits beside those of other enabled targets (R329). -/
def stagingPlace (s : State) (e n : Nat) : Option Nat :=
  let used := ((List.range 128).filter (fun i => i != e && s.on TEN_SVC0_EN i && s.rd TEN_SVC0_TYPE i == tyBlock &&
    s.rd TEN_SVC0_STATE i != svcBound && s.rd TEN_SVC0_STATE i != svcError)).map (fun i => Tab.get s.sto.area i (0, 0))
  (List.range (s.rd STO_CACHE_LEN_MIB * 16)).find? (fun a =>
    a + n ≤ s.rd STO_CACHE_LEN_MIB * 16 && !used.any (fun u => a < u.1 + u.2 && u.1 < a + n))

/-- Writes of STO registers. -/
def stoWrite (s : State) (off w : Nat) : Option State :=
  let o := off - 0x1F0000
  if off < 0x1F0000 || off ≥ 0x200000 || off % 4 ≠ 0 then none
  else if o = 0 then some (s.stoCtrlWrite w)
  else if 0x20 ≤ o && o < 0x2C then some (if s.anyTarget then s else s.writeReg off w)
  else if o = 0x60 then some (s.each (List.range 8) (fun s i => s.when (w.testBit i) (·.wr STO_CNT_COUNT 0 i)))
  else none

end State

/-- SVC_DESCRIPTOR (R362) of ring `r`. -/
def execSvcDescriptor (r : Fin 128) (s : State) : Host.Outcome State Fault Refusal := .next (s.svcDescriptor r)

/-- SVC_COMPLETE (R362); `err`: a bus error on the write-back. -/
def execSvcComplete (r : Fin 128) (err : Bool) (s : State) : Host.Outcome State Fault Refusal := .next (s.svcComplete r err)

/-- BLOCK_CMD_RECEIVE (R325) by target entry `e`. -/
def execBlockCmdReceive (e : Fin 128) (s : State) : Host.Outcome State Fault Refusal :=
  .next (match s.takeBlk e 1 with
    | (s1, none) => s1
    | (s1, some m) => if s.blkTarget e then s1.blkCmdReceive e m else s1.blkErr e)

/-- BLOCK_CMD_EXECUTE (R324). -/
def execBlockCmdExecute (e : Fin 128) (tag : Fin 64) (s : State) : Host.Outcome State Fault Refusal := .next (s.blkExecute e tag)

/-- BLOCK_DATA_RECEIVE (R325, R326). -/
def execBlockDataReceive (e : Fin 128) (s : State) : Host.Outcome State Fault Refusal :=
  .next (match s.takeBlk e 2 with
    | (s1, none) => s1
    | (s1, some m) => s1.blkData e m)

/-- BLOCK_CMD_COMPLETE (R324). -/
def execBlockCmdComplete (e : Fin 128) (tag : Fin 64) (s : State) : Host.Outcome State Fault Refusal := .next (s.blkComplete e tag)

/-- BLOCK_CPL_RECEIVE (R326) by initiator entry `e`. -/
def execBlockCplReceive (e : Fin 128) (s : State) : Host.Outcome State Fault Refusal :=
  .next (match s.takeBlk e 3 with
    | (s1, none) => s1
    | (s1, some m) => if s.blkTarget e then s1.blkErr e else s1.blkCpl e m)

/-- BLOCK_RTO (R325) of the command with a TAG. -/
def execBlockRto (e : Fin 128) (tag : Fin 64) (s : State) : Host.Outcome State Fault Refusal := .next (s.blkRto e tag)

/-- BLOCK_DATA_TIMEOUT (R327). -/
def execBlockDataTimeout (e : Fin 128) (tag : Fin 64) (s : State) : Host.Outcome State Fault Refusal := .next (s.dataTimeout e tag)

/-- TAG_QUARANTINE_END (R326). -/
def execTagQuarantineEnd (e : Fin 128) (tag : Fin 64) (s : State) : Host.Outcome State Fault Refusal := .next (s.quarantineEnd e tag)

/-- BSTAT (R328): opcode 0x40 submitted to MBXm of engine `n` for entry `e`. -/
def execBstat (n : Fin 16) (m : Fin 2) (e : Fin 128) (s : State) : Host.Outcome State Fault Refusal := .next (s.mbxSubmit n m 0x40 e)

/-- BCLR (R328): opcode 0x41. -/
def execBclr (n : Fin 16) (m : Fin 2) (e : Fin 128) (s : State) : Host.Outcome State Fault Refusal := .next (s.mbxSubmit n m 0x41 e)

/-- BACKEND_ENABLE (R330): `w` written to STO_CTRL. -/
def execBackendEnable (w : Word) (s : State) : Host.Outcome State Fault Refusal := .next (s.stoCtrlWrite w.toNat)

/-- BACKEND_INIT_DONE (R330) of medium `m` (0 NVMe, 1 eMMC/SD): a cause (0 none), and what the medium says of itself. -/
def execBackendInitDone (m : Fin 2) (cause : Fin 3) (blocks : BitVec 40) (lbaSz : Fin 16) (mdts : BitVec 16) (modes : BitVec 6) (byteCard wp : Bool) (s : State) :
    Host.Outcome State Fault Refusal := .next (s.initDone m cause blocks.toNat lbaSz mdts.toNat modes byteCard wp)

/-- BACKEND_COMMAND_DONE (R324, R330). -/
def execBackendCommandDone (e : Fin 128) (tag : Fin 64) (n : Fin 257) (ok : Bool) (data : List Byte) (s : State) : Host.Outcome State Fault Refusal :=
  .next (s.backendDone e tag n ok data)

/-- BACKEND_COMMAND_TIMEOUT (R330). -/
def execBackendCommandTimeout (e : Fin 128) (tag : Fin 64) (s : State) : Host.Outcome State Fault Refusal := .next (s.beTimeout e tag)

/-- BACKEND_REMOVAL (R330). -/
def execBackendRemoval (m : Fin 2) (s : State) : Host.Outcome State Fault Refusal := .next (s.beRemoved m)

/-- CARD_DETECT (R330): a level that has held for `held` × 2^-32 ns. -/
def execCardDetect (present : Bool) (held : Nat) (s : State) : Host.Outcome State Fault Refusal := .next (s.cardDetect present held)

end Sys2Proof.Machine
end

