-- ==== Sys2Proof/Machine/Serial.lean ====
section
/-! DEFINITION. UARTs, serial tunnels and IRIG-B (spec/13_storage_serial.md, R331 to R346). -/

namespace Sys2Proof.Machine

/-- One record of a UART's receive ring (R333). -/
structure SerRec where
  data : Nat := 0
  pe : Bool := false
  fe : Bool := false
  brk : Bool := false
  ovr : Bool := false
  gap : Bool := false
  untraced : Bool := false
  samp : Nat := 0
  frac : Nat := 0
  ns : Nat := 0
  sec : Nat := 0
  deriving DecidableEq, Repr, Inhabited

/-- The 16 bytes of a record (R333). -/
def SerRec.bytes (r : SerRec) : List Byte :=
  leBytes 1 r.data ++
  leBytes 1 (bit r.pe + 2 * bit r.fe + 4 * bit r.brk + 8 * bit r.ovr + 16 * bit r.gap + 32 * bit r.untraced) ++
  leBytes 2 r.samp ++ leBytes 2 r.frac ++ leBytes 4 r.ns ++ leBytes 6 r.sec

/-- The record that 16 bytes hold. -/
def SerRec.ofBytes (bs : List Byte) : SerRec :=
  let f := (bs.getD 1 0).toNat
  { data := (bs.getD 0 0).toNat, pe := f.testBit 0, fe := f.testBit 1, brk := f.testBit 2, ovr := f.testBit 3,
    gap := f.testBit 4, untraced := f.testBit 5, samp := ofLe ((bs.drop 2).take 2), frac := ofLe ((bs.drop 4).take 2),
    ns := ofLe ((bs.drop 6).take 4), sec := ofLe ((bs.drop 10).take 6) }

/-- A decoded IRIG-B frame (R341). -/
structure IrigFrame where
  sec : Nat
  min : Nat
  hour : Nat
  day : Nat
  year : Nat
  cf : Nat
  sbs : Nat
  deriving DecidableEq, Repr

/-- Positions of a frame that hold markers (R341). -/
def irigMarker (p : Nat) : Bool := p == 0 || p % 10 == 9

/-- The number that the pulses at some positions hold, the first least significant. -/
def irigBits (f : List Nat) : List Nat → Nat
  | [] => 0
  | p :: l => f.getD p 0 + 2 * irigBits f l

/-- Two BCD digits; none where a digit exceeds nine. -/
def irigBcd (f : List Nat) (units tens : List Nat) : Option Nat :=
  let u := irigBits f units
  let t := irigBits f tens
  if u ≤ 9 && t ≤ 9 then some (10 * t + u) else none

/-- Control-function positions in transmission order, the year positions first (log entry 43). -/
def irigCfPos : List Nat := (List.range 9).map (50 + ·) ++ (List.range 9).map (60 + ·) ++ (List.range 9).map (70 + ·)

/-- Positions of the straight binary seconds (log entry 43). -/
def irigSbsPos : List Nat := (List.range 9).map (80 + ·) ++ (List.range 8).map (90 + ·)

/-- A frame of 100 pulses (0, 1, 2 a marker, 3 a bit error) decoded; none: not valid (R341). -/
def irigDecode (f : List Nat) : Option IrigFrame :=
  if f.length = 100 && (List.range 100).all (fun p => if irigMarker p then f.getD p 3 == 2 else f.getD p 3 < 2) then
    match irigBcd f [1, 2, 3, 4] [6, 7, 8], irigBcd f [10, 11, 12, 13] [15, 16, 17], irigBcd f [20, 21, 22, 23] [25, 26],
      irigBcd f [30, 31, 32, 33] [35, 36, 37, 38] with
    | some s, some m, some h, some d =>
      let day := d + 100 * irigBits f [40, 41]
      if s ≤ 60 && m ≤ 59 && h ≤ 23 && 1 ≤ day && day ≤ 366 then
        some { sec := s, min := m, hour := h, day := day,
               year := (irigBcd f [50, 51, 52, 53] [55, 56, 57, 58]).getD 127,
               cf := irigBits f irigCfPos, sbs := irigBits f irigSbsPos }
      else none
    | _, _, _, _ => none
  else none

/-- Second frame time is one second after the first: (day, hour, minute, second) of each (R342). -/
def irigNext (a b : Nat × Nat × Nat × Nat) : Bool :=
  let ta := a.2.1 * 3600 + a.2.2.1 * 60 + a.2.2.2
  let tb := b.2.1 * 3600 + b.2.2.1 * 60 + b.2.2.2
  (b.1 == a.1 && tb == ta + 1) ||
  (ta ≥ 86399 && tb == 0 && (b.1 == a.1 + 1 || (a.1 ≥ 365 && b.1 == 1)))

/-- Two-digit year and day of the year (1–366) of a day counted from 1970-01-01. -/
def civilDay (n : Int) : Nat × Nat :=
  let doe := ((n + 719468) % 146097).toNat
  let yoe := (doe - doe / 1460 + doe / 36524 - doe / 146096) / 365
  let doy := doe - (365 * yoe + yoe / 4 - yoe / 100)
  if doy ≥ 306 then ((yoe + 1) % 100, doy - 305)
  else (yoe % 100, doy + 60 + bit (yoe % 4 = 0 && (yoe % 100 ≠ 0 || yoe % 400 = 0)))

/-- The 100 pulses of a B004 frame (R343): position p carries its bit of the BCD time, the year, the control functions or the straight binary seconds. -/
def irigEncode (year day hour min sec sbs cf : Nat) : List Nat :=
  let two (v p t : Nat) : List (Nat × Nat) :=
    (List.range 4).map (fun k => (p + k, bit ((v % 10).testBit k))) ++ (List.range 4).map (fun k => (t + k, bit ((v / 10 % 10).testBit k)))
  let fields := two sec 1 6 ++ two min 10 15 ++ two hour 20 25 ++ two (day % 100) 30 35 ++
    [(40, day / 100 % 2), (41, day / 200 % 2)] ++ two year 50 55 ++
    (List.range 9).map (fun k => (60 + k, bit (cf.testBit k))) ++ (List.range 9).map (fun k => (70 + k, bit (cf.testBit (9 + k)))) ++
    irigSbsPos.zipIdx.map (fun x => (x.1, bit (sbs.testBit x.2)))
  (List.range 100).map (fun p =>
    if irigMarker p then 2 else ((fields.find? (fun x => x.1 == p)).map (·.2)).getD 0)

namespace State

/-- A count of SSTAT advances by `n` for entry `e` (R340). -/
def serCount (s : State) (e k n : Nat) : State :=
  { s with ser := { s.ser with counts := Tab.put s.ser.counts (8 * e + k) (satAdd 32 (Tab.get s.ser.counts (8 * e + k) 0) n) 0 } }

/-- The enabled serial entry that serves UART `n`. -/
def serEntry (s : State) (n : Nat) : Option Nat :=
  (List.range 128).find? (fun e => s.on TEN_SVC0_EN e && s.rd TEN_SVC0_TYPE e == tySerial &&
    (s.rd TEN_SVC0_STATE e == svcActive || s.rd TEN_SVC0_STATE e == svcQuiesced || s.rd TEN_SVC0_STATE e == svcHalted) &&
    s.param e 0 1 == n)

/-- A count of the entry that serves UART `n`, where there is one. -/
def serUartCount (s : State) (n k : Nat) : State :=
  match s.serEntry n with
  | some e => s.serCount e k 1
  | none => s

/-- Records that the ring of UART `n` holds, and its capacity (R335). -/
def serFill (s : State) (n : Nat) : Nat := (s.rd SER_RXWR_WR n + 65536 - s.rd SER_RXRD_RD n) % 65536
def serCap (s : State) (n : Nat) : Nat := 4 * s.rd SER_RING_LEN n

/-- Byte offset in its bank of record `i` of the ring of UART `n`. -/
def serOfs (s : State) (n i : Nat) : Nat := s.rd SER_RING_OFS n * 64 + 16 * (i % s.serCap n)

/-- SER, as master 20, writes 8 bytes at byte offset `o` of bank `b` (R333). -/
def serPad (s : State) (b o : Nat) (bs : List Byte) : State :=
  s.padCycle b [{ master := 20, word := Fin.ofNat 8192 (o / 8), write := true, data := BitVec.ofNat 64 (ofLe bs), be := 255, ecc := 0 }]

/-- A record enters the receive ring of UART `n`, or is lost to a full ring (R335). -/
def serRecord (s : State) (n : Nat) (r : SerRec) : State :=
  if !s.on SER_RING_VALID n then s
  else if s.serFill n ≥ s.serCap n then
    let s1 := ((s.sat SER_CNTB_OVR n).wr SER_STAT_OVREV 1 n).serUartCount n 3
    { s1 with ser := { s1.ser with lost := Tab.put s1.ser.lost n true false } }
  else
    let bs := ({ r with ovr := Tab.get s.ser.lost n false, untraced := !s.on TMU_STAT_TVALID } : SerRec).bytes
    let b := s.rd SER_RING_BANK n
    let o := s.serOfs n (s.rd SER_RXWR_WR n)
    let s1 := ((s.serPad b o (bs.take 8)).serPad b (o + 8) (bs.drop 8)).wrap SER_RXWR_WR n
    { s1 with ser := { s1.ser with
      lost := Tab.put s1.ser.lost n false false,
      recAt := Tab.put s1.ser.recAt (65536 * n + s.rd SER_RXWR_WR n) s.tmu.elapsed 0 } }

/-- Duration of `k` bits and of `k` samples of UART `n`, in 2^-32 ns (R331). -/
def serBits (s : State) (n k : Nat) : Nat := k * s.rd SER_BAUD_DIV n * (5 * 2 ^ 28)
def serSamples (s : State) (n k : Nat) : Nat := k * s.rd SER_BAUD_DIV n * (5 * 2 ^ 24)

/-- Data bits of a character, and its bits from the start bit to the last stop bit. -/
def serData (s : State) (n : Nat) : Nat := 5 + s.rd SER_CTRL_DBITS n
def serLen (s : State) (n : Nat) : Nat := 2 + s.serData n + bit (s.rd SER_CTRL_PAR n ≠ 0) + s.rd SER_CTRL_STOP n

/-- A record with a time of day. -/
def serStamp (r : SerRec) (t : Wide) : SerRec := { r with frac := t.frac16, ns := t.ns, sec := t.sec }

/-- The receiver of UART `n` follows the line: in service, not stuck, and not its own transmission (R332, R336). -/
def serHears (s : State) (n : Nat) : Bool :=
  s.on SER_CTRL_EN n && !s.on SER_STAT_STUCK n && (!s.on SER_STAT_DEOUT n || s.on SER_CTRL_ECHO n)

/-- A frame of UART `n` begins or ends. -/
def setInFrame (s : State) (n : Nat) (x : Bool) : State := { s with ser := { s.ser with inFrame := Tab.put s.ser.inFrame n x false } }

/-- What the voted bits of a character say (R332), from the first data bit to the last stop bit as they stand on the pin: data, PE, FE, BRK. A break reads 0x00. -/
def serJudge (s : State) (n : Nat) (l : List Bool) : SerRec :=
  let lvl (i : Nat) : Bool := l.getD i true != s.on SER_CTRL_INV n
  let d := s.serData n
  let par := s.rd SER_CTRL_PAR n
  let p := bit (par ≠ 0)
  let data := (List.range d).foldl (fun a i => a + bit (lvl i) * 2 ^ i) 0
  let odd := (List.range (d + p)).foldl (fun a i => a != lvl i) false
  let stops := (List.range (1 + s.rd SER_CTRL_STOP n)).map (fun i => lvl (d + p + i))
  let brk := data == 0 && (p == 0 || !lvl d) && stops.all (!·)
  { data := data, pe := (par == 1 && odd) || (par == 2 && !odd), fe := stops.any (!·), brk := brk }

/-- A character is received, at the end of its last stop bit (R332 to R334): `l` has samples 7 to 9 of each of its bits from the start bit on. A start bit that does not vote low is ignored. -/
def serChar (s : State) (n : Nat) (l : List (BitVec 3)) (samp : Nat) (t : Wide) : State :=
  if !s.serHears n || vote3 (l.headD 7) != s.on SER_CTRL_INV n then s
  else
    let r := s.serJudge n (l.tail.map vote3)
    let s1 := ((s.when r.pe (·.sat SER_CNTA_PE n)).when r.fe (·.sat SER_CNTA_FE n)).when r.brk (·.sat SER_CNTB_BRK n)
    let s2 := s1.serRecord n (serStamp { r with samp := if Tab.get s.ser.inFrame n false then samp else 0 } t)
    ((s2.wr SER_STAT_RXACT 1 n).setInFrame n true).armAt (.uartGap n) (s.tmu.elapsed + s.serSamples n (8 * s.rd SER_FRM_GAP n))

/-- The gap of UART `n` expires (R334). -/
def serGap (s : State) (n : Nat) : State :=
  if s.serHears n && Tab.get s.ser.inFrame n false && s.due (.uartGap n) then
    ((((s.disarm (.uartGap n)).serRecord n (serStamp { gap := true } s.tmu.tod)).wr SER_STAT_RXACT 0 n).setInFrame n false)
  else s

/-- The line of UART `n`, which its receiver follows, is stuck; it is free again (R332, R336). -/
def serStuck (s : State) (n : Nat) : State :=
  if s.serHears n then
    ((s.wr SER_STAT_STUCK 1 n).wr SER_STAT_STUCKEV 1 n).causeOn (103 + n) 0
  else s
def serFree (s : State) (n : Nat) : State := (s.wr SER_STAT_STUCK 0 n).causeOff (103 + n)

/-- A write of SER_Un_RING (R335, R346). -/
def serRingWrite (s : State) (n w : Nat) : State :=
  let s1 := s.writeReg (0x200014 + 0x40 * n) w
  if s1.rd SER_RING_OFS n * 64 + s1.rd SER_RING_LEN n * 64 > 65536 then s.wr SER_STAT_RINGREJ 1 n
  else if !s.on SER_RING_VALID n && s1.on SER_RING_VALID n then
    let s2 := (s1.wr SER_RXWR_WR 0 n).wr SER_RXRD_RD 0 n
    { s2 with ser := { s2.ser with lost := Tab.put s2.ser.lost n false false } }
  else s1

/-- A write of SER_Un_RXRD (R335). -/
def serReadWrite (s : State) (n w : Nat) : State :=
  if (s.rd SER_RXWR_WR n + 65536 - w % 65536) % 65536 > s.serCap n then s.wr SER_STAT_RINGREJ 1 n
  else s.wr SER_RXRD_RD (w % 65536) n

/-- The messages queued for UART `n`. -/
def serQueue (s : State) (n : Nat) : List (List (Byte × Nat)) := Tab.get s.ser.txq n []
def setSerQueue (s : State) (n : Nat) (l : List (List (Byte × Nat))) : State :=
  { s with ser := { s.ser with txq := Tab.put s.ser.txq n l [] } }

/-- The serial entry of UART `n` paces its characters (R338, R340). -/
def serPaced (s : State) (n : Nat) : Bool :=
  match s.serEntry n with
  | some e => s.param e 1 1 == 1
  | none => false

/-- A character starts: it takes its bits, the next one of the message follows at its end or, paced, DT samples after it where that is later, and DE is released TRAIL bits after its end (R336, R338). -/
def serStart (s : State) (n : Nat) (c : Byte × Nat) (m : List (Byte × Nat)) (rest : List (List (Byte × Nat))) : State :=
  let dt := if s.serPaced n then ((m.head?.map (·.2)).getD 0) else 0
  let fin := s.tmu.elapsed + s.serBits n (s.serLen n)
  let s1 := ((s.setSerQueue n (if m.isEmpty then rest else m :: rest)).wr SER_STAT_TXACT 1 n).wr SER_STAT_DEOUT (s.rd SER_CTRL_MODE n) n
  let s2 := { s1 with ser := { s1.ser with sent := Tab.put s1.ser.sent n (some c.1) none } }
  (((s2.armAt (.uartLead n) (max fin (s.tmu.elapsed + s.serSamples n dt))).armAt (.uartTrail n) (fin + s.serBits n (s.rd SER_DE_TRAIL n))).serUartCount n 1)

/-- The transmitter of UART `n` goes on (R336, R338): its next character starts when the bus is free, DE has led by LEAD bits and the present character is over; with nothing left to send it ends, and DE falls after TRAIL. -/
def serTransmit (s : State) (n : Nat) : State :=
  let rs485 := s.on SER_CTRL_MODE n
  let idle := !s.armed (.uartLead n) || s.due (.uartLead n)
  if !s.on SER_CTRL_EN n then (((s.wr SER_STAT_TXACT 0 n).wr SER_STAT_DEOUT 0 n).disarm (.uartLead n)).disarm (.uartTrail n)
  else if !idle then s
  else match s.serQueue n with
  | (c :: m) :: rest =>
    if s.on SER_STAT_RXACT n && !s.on SER_STAT_TXACT n then s
    else if rs485 && !s.on SER_STAT_DEOUT n && s.rd SER_DE_LEAD n ≠ 0 then
      ((s.wr SER_STAT_TXACT 1 n).wr SER_STAT_DEOUT 1 n).armAt (.uartLead n) (s.tmu.elapsed + s.serBits n (s.rd SER_DE_LEAD n))
    else s.serStart n c m rest
  | _ =>
    let s1 := (s.wr SER_STAT_TXACT 0 n).disarm (.uartLead n)
    if s.armed (.uartTrail n) && !s.due (.uartTrail n) then s1 else (s1.wr SER_STAT_DEOUT 0 n).disarm (.uartTrail n)

/-! Serial tunnels (R337 to R340). -/

/-- Record `i` of the ring of UART `n` as engine `m` reads it: zeros where the engine holds no right to the bank (R259). -/
def serRead (s : State) (m n i : Nat) : SerRec :=
  if s.holdsBank m (s.rd SER_RING_BANK n) then SerRec.ofBytes (s.padBytes (s.rd SER_RING_BANK n * 0x10000 + s.serOfs n i) 16) else {}

/-- The engine's reads of `k` records, two words each, are recorded as denied where it holds no right (R259). -/
def serDenied (s : State) (m n k : Nat) : State :=
  if s.holdsBank m (s.rd SER_RING_BANK n) || k = 0 then s else (s.wr BNK_MSTAT_DENY 1 m).satBy BNK_MSTAT_DENYCNT (2 * k) m

/-- The records that the service on engine `m` takes for its next message: up to `max` characters, and the gap marker that ends them (R337). -/
def serTake (s : State) (m n : Nat) (max : Nat) : Nat → Nat → Nat → List SerRec × Bool × Nat
  | 0, _, _ => ([], false, 0)
  | fuel + 1, i, got =>
    if i = s.rd SER_RXWR_WR n || got ≥ max then ([], false, 0)
    else
      let r := s.serRead m n i
      if r.gap then ([r], true, 1)
      else
        let x := s.serTake m n max fuel ((i + 1) % 65536) (got + 1)
        (r :: x.1, x.2.1, x.2.2 + 1)

/-- The body of characters in a DATA message (R337). -/
def serChars (v1 : Bool) : Bool → List SerRec → List Byte
  | _, [] => []
  | first, r :: l =>
    beBytes 1 r.data ++ beBytes 1 (bit r.pe + 2 * bit r.fe + 4 * bit r.brk) ++ beBytes 2 (if first || v1 then 0 else r.samp) ++
      serChars v1 false l

/-- 10 ms have passed since record `i` of UART `n`, the first not yet sent, was written (R337). -/
def serWaited (s : State) (n i : Nat) : Bool := s.tmu.elapsed ≥ Tab.get s.ser.recAt (65536 * n + i) 0 + 10000000 * 2 ^ 32

/-- The serial service sends a DATA message (R337), when a gap marker or MAXMSG characters are there, or 10 ms after the first character not yet sent. -/
def serSend (s0 : State) (e : Nat) : State :=
  let n := s0.param e 0 1 % 8
  let max := s0.param e 6 2
  let rd := s0.rd SER_RXRD_RD n
  let (l, gap, used) := s0.serTake (s0.svcEngine e) n max 4097 rd 0
  let cs := l.filter (fun r => !r.gap)
  if !s0.svcTakes e || s0.rd TEN_SVC0_TYPE e ≠ tySerial || !(gap || (cs.length ≥ max && max ≠ 0) || (s0.serWaited n rd && !cs.isEmpty)) then s0
  else
    let s := s0.serDenied (s0.svcEngine e) n used
    let v1 := s.rd CTX2_VER (s.rd TEN_SVC1_TXSLOT e) == 1
    let flags := bit ((cs.head?.map (fun r => r.samp == 0)).getD false) + 2 * bit gap + 4 * bit (l.any (·.untraced)) + 8 * bit (l.any (·.ovr))
    let (time, s1) : List Byte × State :=
      if v1 then (List.replicate 12 0, s)
      else match cs with
        | r :: _ => (beBytes 6 r.sec ++ beBytes 4 r.ns ++ beBytes 2 r.frac, s)
        | [] => (beBytes 12 (s.free 96).1, (s.free 96).2)
    let msg := beBytes 1 1 ++ beBytes 1 flags ++ beBytes 2 cs.length ++ time ++ serChars v1 true cs
    let s2 := s1.wr SER_RXRD_RD ((rd + used) % 65536) n
    ((s2.serCount e 0 cs.length).serCount e 2 1).engineSend e msg

/-- Messages held for entry `e`. -/
def serHeld (s : State) (e : Nat) : List (Nat × List (Byte × Nat)) := Tab.get s.ser.held e []
def setSerHeld (s : State) (e : Nat) (l : List (Nat × List (Byte × Nat))) : State :=
  { s with ser := { s.ser with held := Tab.put s.ser.held e l [] } }
def setSerSeq (s : State) (e : Nat) (q : Option Nat) : State := { s with ser := { s.ser with seq := Tab.put s.ser.seq e q none } }

/-- Protocol errors of a serial entry (R340, R255). -/
def serErr (s : State) (e n : Nat) : State := s.each (List.range n) (fun s _ => (s.svcErr e).serCount e 5 1)

/-- A message is queued for the UART of entry `e`, or discarded where 8 are held already (R338). -/
def serEnqueue (s : State) (e : Nat) (m : List (Byte × Nat)) : State :=
  let n := s.param e 0 1 % 8
  if m.isEmpty then s
  else if (s.serQueue n).length + (s.serHeld e).length ≥ 8 then s.serCount e 4 1
  else s.setSerQueue n (s.serQueue n ++ [m])

/-- Held messages whose turn has come follow in order (R339). -/
def serFollow (s : State) (e q : Nat) : Nat → State
  | 0 => s.setSerSeq e (some q)
  | k + 1 =>
    match (s.serHeld e).find? (fun x => x.1 == q) with
    | none => s.setSerSeq e (some q)
    | some x => ((s.setSerHeld e ((s.serHeld e).erase x)).serEnqueue e x.2).serFollow e ((q + 1) % 65536) k

/-- Every held message is queued in the order of SEQ from `q` on; the sequence number after the last (R339). -/
def serFlush (s : State) (e q : Nat) : State × Nat :=
  (List.range 8).foldl (fun (a : State × Nat) k =>
    match (a.1.serHeld e).find? (fun x => x.1 == (q + k) % 65536) with
    | none => a
    | some x => ((a.1.setSerHeld e ((a.1.serHeld e).erase x)).serEnqueue e x.2, (q + k + 1) % 65536)) (s, q)

/-- A message with sequence number `q` reaches entry `e` (R339). -/
def serArrive (s : State) (e q : Nat) (m : List (Byte × Nat)) : State :=
  let x := match Tab.get s.ser.seq e none with
    | none => 0
    | some p => signedOf 16 ((q + 65536 - p) % 65536)
  let p := (Tab.get s.ser.seq e none).getD q
  let n := s.param e 0 1 % 8
  if x = 0 then (s.serEnqueue e m).serFollow e ((q + 1) % 65536) 8
  else if x < 0 then s.serErr e 1
  else if x < 8 then
    if (s.serHeld e).any (fun y => y.1 == q) then s.serErr e 1
    else if (s.serQueue n).length + (s.serHeld e).length ≥ 8 then s.serCount e 4 1
    else (s.setSerHeld e (s.serHeld e ++ [(q, m)])).when ((s.serHeld e).isEmpty) (·.arm (.serialHold e) 2000000)
  else
    let missing := x.toNat - (s.serHeld e).length
    let s1 := (s.serFlush e p).1
    ((s1.serEnqueue e m).serErr e missing).setSerSeq e (some ((q + 1) % 65536))

/-- The 2 ms of the first held message have passed (R339). -/
def serExpire (s : State) (e : Nat) : State :=
  match Tab.get s.ser.seq e none with
  | none => s
  | some p =>
    let h := (s.serHeld e).length
    if h = 0 || !s.svcRuns e || !s.due (.serialHold e) then s
    else
      let (s1, q) := s.serFlush e p
      (s1.serErr e ((q + 65536 - p) % 65536 - h)).setSerSeq e (some q)

/-- A DATA message of the form of R337. -/
def serGood (bs : List Byte) : Bool :=
  let n := ofBe ((bs.drop 2).take 2)
  bs.length == 16 + 4 * n && bs.getD 0 0 == 1 && n ≤ 1024 && (n != 0 || (bs.getD 1 0).toNat.testBit 1)

/-- The characters of a DATA message with their DT. -/
def serParse (v1 : Bool) : Nat → List Byte → List (Byte × Nat)
  | 0, _ => []
  | k + 1, bs => (bs.getD 0 0, if v1 then 0 else ofBe ((bs.drop 2).take 2)) :: serParse v1 k (bs.drop 4)

/-- The serial service takes its next packet (R337 to R339); a malformed message counts and carries no character. -/
def serReceive (s : State) (e : Nat) : State :=
  if !s.svcRuns e || s.rd TEN_SVC0_TYPE e ≠ tySerial then s
  else
    match s.takeInbound e with
    | (s1, none) => s1
    | (s1, some p) =>
      let v1 := s1.rd CTX2_VER (s1.rd TEN_SVC1_RXSLOT e) == 1
      if serGood p.payload then
        (s1.serCount e 2 1).serArrive e p.seq (serParse v1 (ofBe ((p.payload.drop 2).take 2)) (p.payload.drop 16))
      else (s1.serErr e 1).serArrive e p.seq []

/-! IRIG-B (R341 to R343). -/

/-- The on-time mark is captured into the TMU (R100, R341), under the hold and overrun rule of R97. -/
def irigMark (s : State) (ago : Nat) : State :=
  if !s.on IRIGI_CFG_EN then s
  else if s.on TMU_IRIG_STAT_VALID then s.wr TMU_IRIG_STAT_OVR 1
  else
    let t := Wide.ofUnits (s.tmu.tod.units - ago)
    ((((s.wr TMU_IRIG_SECLO_SEC_LO t.sec).wr TMU_IRIG_NS_NS t.ns).wr TMU_IRIG_FRAC_FRAC t.frac16).wr TMU_IRIG_STAT_UNTRACED
      (bit (!s.on TMU_STAT_TVALID))).wr TMU_IRIG_STAT_VALID 1

/-- The input shows an accepted edge (R342). -/
def irigSeen (s : State) : State :=
  let s1 := s.arm .irig 0
  if s.on IRIGI_STAT_LOS then (s1.wr IRIGI_STAT_LOS 0).causeOff 31 else s1

/-- A valid frame (R342). -/
def irigValid (s : State) (f : IrigFrame) : State :=
  let s1 := ((((s.wr IRIGI_TOD0_YEAR f.year).wr IRIGI_TOD0_DAY f.day).wr IRIGI_TOD0_HOUR f.hour).wr IRIGI_TOD0_MIN f.min)
  let s2 := (((s1.wr IRIGI_TOD1_SEC f.sec).wr IRIGI_TOD1_SBS f.sbs).wr IRIGI_CF_CF f.cf).wr IRIGI_STAT_FRAMEEV 1
  let t := (f.day, f.hour, f.min, f.sec)
  let lock := match s.ser.irigPrev with
    | some p => irigNext p t
    | none => false
  let s3 := if s.rd IRIGI_STAT_STATE = 1 && lock then s2.wr IRIGI_STAT_STATE 2 else s2
  { s3 with ser := { s3.ser with irigPrev := some t, irigBad := 0 } }

/-- A bad frame (R342): three in a row leave LOCKED. -/
def irigBadFrame (s : State) : State :=
  let s1 := s.sat IRIGI_STAT_BADFRAME
  let n := s.ser.irigBad + 1
  let out := s.rd IRIGI_STAT_STATE = 2 && n ≥ 3
  let s2 := if out then s1.wr IRIGI_STAT_STATE 1 else s1
  { s2 with ser := { s2.ser with irigPrev := none, irigBad := if out then 0 else n } }

/-- The output repeats the pulses of the input (R343). -/
def irigRepeat (s : State) (f : List Nat) : State :=
  if s.on IRIGO_CFG_EN && s.rd IRIGO_CFG_SRC = 2 then { s with ser := { s.ser with irigOut := f.filter (· < 3) } } else s

/-- The bit of a pulse by its width in 2^-32 ns (R341): 0, 1, 2 a marker, 3 a bit error. -/
def irigPulse (s : State) (w : Nat) : Nat :=
  let tol := s.rd IRIGI_CFG_WTOL * 10000
  let is (ms : Nat) : Bool := (ms * 1000000 - tol) * 2 ^ 32 ≤ w && w ≤ (ms * 1000000 + tol) * 2 ^ 32
  if is 2 then 0 else if is 5 then 1 else if is 8 then 2 else 3

/-- The input has received pulses of these widths in 2^-32 ns, of which those that held for FILT count: 100 for a frame (R341, R342). -/
def irigFrame (s : State) (ws : List Nat) : State :=
  let f := (ws.filter (fun w => s.rd IRIGI_CFG_FILT * 10000 * 2 ^ 32 ≤ w)).map s.irigPulse
  if s.rd IRIGI_STAT_STATE = 0 || f.isEmpty then s
  else
    let s1 := s.irigSeen.irigRepeat f
    match irigDecode f with
    | some x => s1.irigValid x
    | none => s1.irigBadFrame

/-- No edge for LOS (R342). -/
def irigLost (s : State) : State :=
  if s.rd IRIGI_STAT_STATE = 0 || s.on IRIGI_STAT_LOS || !s.ran .irig (s.rd IRIGI_CFG_LOS * 100000000) then s
  else
    let s1 := (((s.wr IRIGI_STAT_STATE 1).wr IRIGI_STAT_LOS 1).wr IRIGI_STAT_LOSTEV 1).causeOn 31 0
    { s1 with ser := { s1.ser with irigPrev := none, irigBad := 0,
                                   irigOut := if s.rd IRIGO_CFG_SRC = 2 then [] else s1.ser.irigOut } }

/-- The second of the time of day, and the UTC second, that the present on-time edge begins (R343). -/
def irigTodSec (s : State) : Int := (s.tmu.tod.units - (signedOf 28 (s.rd IRIGO_OFS_OFS) * 2 ^ 32 : Int)) / (1000000000 * 2 ^ 32)
def irigUtc (s : State) : Int := s.irigTodSec - signedOf 16 (s.rd TMU_UTC_OFFSET)

/-- The frame of the UTC second `u`, or of the leap second that follows it (R101, R343). -/
def irigEmit (s : State) (u : Int) (leap : Bool) : State :=
  let v := u + signedOf 8 (s.rd IRIGO_CFG_LOFS) * 900
  let (year, day) := civilDay (v / 86400)
  let sod := (v % 86400).toNat
  let f := irigEncode year day (sod / 3600) (sod / 60 % 60) (sod % 60 + bit leap) (sod + bit leap) (s.rd IRIGO_CF_CF)
  { s with ser := { s.ser with irigOut := f, irigSec := some u, irigTod := some s.irigTodSec } }

/-- The generator's next second, one frame for each second of the time of day (R101, R343): second 60 with LEAP61 at the end of a UTC day, second 59 left out with LEAP59. -/
def irigSecond (s : State) : State :=
  if !s.on IRIGO_CFG_EN || s.rd IRIGO_CFG_SRC ≠ 1 || s.ser.irigTod = some s.irigTodSec then s
  else if !s.on TMU_STAT_TVALID && !s.on IRIGO_CFG_FORCE then { s with ser := { s.ser with irigOut := [] } }
  else
    let u := s.irigUtc
    let last := s.ser.irigSec
    if s.on TMU_UTC_LEAP61 && u % 86400 = 0 && last = some (u - 1) then s.irigEmit (u - 1) true
    else if u % 86400 = 86399 && last = some u then s.irigEmit u true
    else if s.on TMU_UTC_LEAP59 && u % 86400 = 86399 then s.irigEmit (u + 1) false
    else s.irigEmit u false

/-- A write of SER_IRIGI_CFG (R342). -/
def irigCfgWrite (s : State) (w : Nat) : State :=
  let s1 := s.writeReg 0x201000 w
  if s.on IRIGI_CFG_EN = s1.on IRIGI_CFG_EN then s1
  else
    let s2 := { s1 with ser := { s1.ser with irigPrev := none, irigBad := 0 } }
    if s1.on IRIGI_CFG_EN then (s2.wr IRIGI_STAT_STATE 1).arm .irig 0
    else ((s2.wr IRIGI_STAT_STATE 0).wr IRIGI_STAT_LOS 0).causeOff 31

/-- Writes of SER registers that do more than store their fields. -/
def serWrite (s : State) (off w : Nat) : Option State :=
  let o := off - 0x200000
  if off < 0x200000 || off ≥ 0x210000 then none
  else if o < 0x200 && o % 0x40 = 0x14 then some (s.serRingWrite (o / 0x40) w)
  else if o < 0x200 && o % 0x40 = 0x1C then some (s.serReadWrite (o / 0x40) w)
  else if o = 0x1000 then some (s.irigCfgWrite w)
  else if o = 0x1004 then some ((s.writeReg off w).when (w.testBit 26) (·.wr IRIGI_STAT_BADFRAME 0))
  else if o = 0x1040 then
    let s1 := s.writeReg off w
    some (if s1.on IRIGO_CFG_EN && s1.rd IRIGO_CFG_SRC ≠ 0 then s1 else { s1 with ser := { s1.ser with irigOut := [] } })
  else none

end State

/-- UART_CHARACTER_RECEIVE (R332, R333): a character of UART `n` ends; samples 7 to 9 of each of its bits from the start bit on, as on the pin; its start bit first read low `ago` × 2^-32 ns before now, `samp` samples after the previous start. -/
def execUartCharacterReceive (n : Fin 8) (bits : List (BitVec 3)) (samp : BitVec 16) (ago : Nat) (s : State) : Host.Outcome State Fault Refusal :=
  .next (s.serChar n bits samp.toNat (Wide.ofUnits (s.tmu.tod.units - ago)))

/-- UART_GAP_EXPIRY (R334). -/
def execUartGapExpiry (n : Fin 8) (s : State) : Host.Outcome State Fault Refusal := .next (s.serGap n)

/-- UART_LINE_STUCK (R332). -/
def execUartLineStuck (n : Fin 8) (s : State) : Host.Outcome State Fault Refusal := .next (s.serStuck n)

/-- UART_LINE_RELEASE (R332). -/
def execUartLineRelease (n : Fin 8) (s : State) : Host.Outcome State Fault Refusal := .next (s.serFree n)

/-- UART_RING_WRITE (R335): `w` written to SER_Un_RING or, with `rxrd`, to SER_Un_RXRD. -/
def execUartRingWrite (n : Fin 8) (rxrd : Bool) (w : Word) (s : State) : Host.Outcome State Fault Refusal :=
  .next (if rxrd then s.serReadWrite n w.toNat else s.serRingWrite n w.toNat)

/-- UART_TRANSMIT (R336, R338). -/
def execUartTransmit (n : Fin 8) (s : State) : Host.Outcome State Fault Refusal := .next (s.serTransmit n)

/-- SERIAL_MESSAGE_SEND (R337) of entry `e`. -/
def execSerialMessageSend (e : Fin 128) (s : State) : Host.Outcome State Fault Refusal := .next (s.serSend e)

/-- SERIAL_MESSAGE_RECEIVE (R339) at entry `e`. -/
def execSerialMessageReceive (e : Fin 128) (s : State) : Host.Outcome State Fault Refusal := .next (s.serReceive e)

/-- SERIAL_HOLD_EXPIRY (R339). -/
def execSerialHoldExpiry (e : Fin 128) (s : State) : Host.Outcome State Fault Refusal := .next (s.serExpire e)

/-- SSTAT (R340) of entry `e`. -/
def execSstat (n : Fin 16) (m : Fin 2) (e : Fin 128) (s : State) : Host.Outcome State Fault Refusal := .next (s.mbxSubmit n m 0x40 e)

/-- SCLR (R340) of entry `e`. -/
def execSclr (n : Fin 16) (m : Fin 2) (e : Fin 128) (s : State) : Host.Outcome State Fault Refusal := .next (s.mbxSubmit n m 0x41 e)

/-- IRIG_ON_TIME (R100, R341): the on-time mark lay `ago` × 2^-32 ns before now; an input that is off marks nothing. -/
def execIrigOnTime (ago : Nat) (s : State) : Host.Outcome State Fault Refusal :=
  if s.on IRIGI_CFG_EN then .next (s.irigSeen.irigMark ago) else .next s

/-- IRIG_FRAME (R341, R342): the pulses from one on-time mark to the next by their widths in 2^-32 ns, on the input that SRC and INV select. -/
def execIrigFrame (ws : List Nat) (s : State) : Host.Outcome State Fault Refusal := .next (s.irigFrame ws)

/-- IRIG_LOS (R342). -/
def execIrigLos (s : State) : Host.Outcome State Fault Refusal := .next s.irigLost

/-- IRIG_OUTPUT_SECOND (R343). -/
def execIrigOutputSecond (s : State) : Host.Outcome State Fault Refusal := .next s.irigSecond

end Sys2Proof.Machine
end

