-- ==== Sys2Proof/Machine/Dma.lean ====
section
/-! DEFINITION. DMA channels (R386 to R397), but for the movement of data, and the DRAM controller (R398, R440). -/

namespace Sys2Proof.Machine

/-- Spaces of a side (R386). -/
def spHost : Nat := 0
def spDram : Nat := 1
def spPad : Nat := 2
def spReg : Nat := 3

/-- Operations (R389). -/
def opCopy : Nat := 0
def opFill : Nat := 1
def opCompare : Nat := 2

/-- Codes with which a transfer ends (R387 to R393). -/
inductive DmaCode where
  | ok | tooBig | badDesc | busErr | shape | ovl | align | mismatch | cancelled | space
  deriving DecidableEq, Repr

/-- The numbers of the codes. -/
def DmaCode.code : DmaCode → Nat
  | .ok => 0 | .tooBig => 1 | .badDesc => 2 | .busErr => 6 | .shape => 16 | .ovl => 17 | .align => 18 | .mismatch => 19
  | .cancelled => 20 | .space => 21

/-- One side of a transfer (R387). -/
structure DmaSide where
  space : Nat
  addr : Nat
  line : Nat
  lines : Nat
  stride : Nat
  deriving DecidableEq, Repr

/-- The address of byte `i` of a side. -/
def DmaSide.at (d : DmaSide) (i : Nat) : Nat := d.addr + i / d.line * d.stride + i % d.line

/-- The last address of its extent. -/
def DmaSide.last (d : DmaSide) : Nat := d.addr + (d.lines - 1) * d.stride + d.line - 1

/-- A contiguous side (R387). -/
def DmaSide.flat (d : DmaSide) : Bool := d.lines == 1 || d.stride == d.line

/-- The total of bytes of a side. -/
def DmaSide.total (d : DmaSide) : Nat := d.line * d.lines

namespace State

/-- DMA and the bridge work: RUN or TRIM, and not the elytra state (R385, R397). -/
def dmaRuns (s : State) : Bool := s.fullPower && !s.on FLT_STAT_ELYTRA

/-- A counter of DMA_CNT advances. -/
def dmaCount (s : State) (i : Nat) : State := s.sat DMA_CNT_COUNT i

/-- The word DMA_Cn_STAT as it reads, SHVALID included. -/
def dmaStat (s : State) (n : Nat) : Nat :=
  s.rd DMC_STAT_STATE n * 2 ^ 29 + s.rd DMS_SHCTRL_VALID n * 2 ^ 28 + s.rd DMC_STAT_DONEEV n * 2 ^ 27 + s.rd DMC_STAT_HALTEV n * 2 ^ 26 +
    s.rd DMC_STAT_LATEWR n * 2 ^ 25 + s.rd DMC_STAT_LATE n * 2 ^ 24 + s.rd DMC_STAT_CODE n

/-- The sides of the active transfer of channel `n`. -/
def dmaSrc (s : State) (n : Nat) : DmaSide :=
  { space := s.rd DMX_OPW_SSPACE n, addr := s.rd DMX_SRC_HI_ADDR n * 2 ^ 32 + s.rd DMX_SRC_LO_ADDR n,
    line := s.rd DMX_SGEOM_LINE n + 1, lines := s.rd DMX_SGEOM_LINES n + 1, stride := s.rd DMX_SSTRIDE_STRIDE n }
def dmaDst (s : State) (n : Nat) : DmaSide :=
  { space := s.rd DMX_OPW_DSPACE n, addr := s.rd DMX_DST_HI_ADDR n * 2 ^ 32 + s.rd DMX_DST_LO_ADDR n,
    line := s.rd DMX_DGEOM_LINE n + 1, lines := s.rd DMX_DGEOM_LINES n + 1, stride := s.rd DMX_DSTRIDE_STRIDE n }

/-- The operation of the active transfer. -/
def dmaOp (s : State) (n : Nat) : Nat := s.rd DMX_OPW_OP n

/-- The sides that the operation uses: FILL ignores the source (R387). -/
def dmaSides (s : State) (n : Nat) : List DmaSide := if s.dmaOp n = opFill then [s.dmaDst n] else [s.dmaSrc n, s.dmaDst n]

/-- The first address past a space (R386, R398). -/
def dmaEndOf (s : State) (space : Nat) : Nat :=
  if space = spHost then 2 ^ 64 else if space = spDram then s.dramSize else if space = spPad then 0x200000 else 0x4000000

/-- The first load check that a transfer fails (R387, R388); a descriptor's own reserved bits come with OP. -/
def dmaFailure (s : State) (n : Nat) : Option DmaCode :=
  let a := s.dmaSrc n
  let b := s.dmaDst n
  let op := s.dmaOp n
  let l := s.dmaSides n
  if op = 3 || s.rd DMX_AT_NS_NS n > 999999999 then some .badDesc
  else if s.embedded && l.any (fun d => d.space == spHost) then some .space
  else if (op ≠ opFill && a.total ≠ b.total) || (b.lines > 1 && b.stride < b.line) then some .shape
  else if b.total = 2 ^ 32 then some .tooBig
  else if l.any (fun d => d.space == spReg && (d.addr % 4 != 0 || d.line % 4 != 0 || d.stride % 4 != 0)) then some .align
  else if l.any (fun d => d.last ≥ s.dmaEndOf d.space) then some .tooBig
  else if op = opCopy && a.space = b.space && !(a.flat && b.flat) && a.addr ≤ b.last && b.addr ≤ a.last then some .ovl
  else none

/-- A transfer of channel `n` ends with a code (R389, R391, R395, R396): in ring mode its descriptor is written back. -/
def dmaFinish (s : State) (n : Nat) (c : DmaCode) : State :=
  let s1 := ((s.wr DMC_STAT_CODE c.code n).wr DMC_STAT_DONEEV 1 n).wr DMC_STAT_STATE dmaIdle n
  match Tab.get s1.dma.cur n none with
  | some (r, idx) =>
    let s2 := { s1 with dma := { s1.dma with cur := Tab.put s1.dma.cur n none none } }
    match (s2.fetched r).find? (fun d => d.idx == idx) with
    | none => s2
    | some d =>
      let fa := leBytes 4 (s.rd DMC_FADDR_LO_ADDR n) ++ leBytes 4 (s.rd DMC_FADDR_HI_ADDR n)
      let dst := if c = .busErr || c = .mismatch then fa else (d.bytes.drop 8).take 8
      let wb := dst ++ (d.bytes.drop 16).take 8 ++ leBytes 4 (s.rd DMC_DONE_BYTES n) ++ (d.bytes.drop 28).take 2
      (s2.when (c = .badDesc) (·.rngCount 5)).ringDone r idx wb c.code false
  | none => if s.on DMX_OPW_IRQ n then s1.irq (32 + n) n (s1.dmaStat n) else s1

/-- The shadow set is copied into the active set (R390). -/
def dmaCopy (s : State) (n : Nat) : State :=
  let s1 := ((s.wr DMX_SRC_LO_ADDR (s.rd DMS_SRC_LO_ADDR n) n).wr DMX_SRC_HI_ADDR (s.rd DMS_SRC_HI_ADDR n) n)
  let s2 := ((s1.wr DMX_DST_LO_ADDR (s.rd DMS_DST_LO_ADDR n) n).wr DMX_DST_HI_ADDR (s.rd DMS_DST_HI_ADDR n) n)
  let s3 := ((s2.wr DMX_SGEOM_LINES (s.rd DMS_SGEOM_LINES n) n).wr DMX_SGEOM_LINE (s.rd DMS_SGEOM_LINE n) n)
  let s4 := ((s3.wr DMX_DGEOM_LINES (s.rd DMS_DGEOM_LINES n) n).wr DMX_DGEOM_LINE (s.rd DMS_DGEOM_LINE n) n)
  let s5 := ((s4.wr DMX_SSTRIDE_STRIDE (s.rd DMS_SSTRIDE_STRIDE n) n).wr DMX_DSTRIDE_STRIDE (s.rd DMS_DSTRIDE_STRIDE n) n)
  let s6 := (((s5.wr DMX_OPW_IRQ (s.rd DMS_OPW_IRQ n) n).wr DMX_OPW_AT (s.rd DMS_OPW_AT n) n).wr DMX_OPW_OP (s.rd DMS_OPW_OP n) n)
  let s7 := ((s6.wr DMX_OPW_SSPACE (s.rd DMS_OPW_SSPACE n) n).wr DMX_OPW_DSPACE (s.rd DMS_OPW_DSPACE n) n)
  let s8 := ((s7.wr DMX_AT_SECLO_SEC_LO (s.rd DMS_AT_SECLO_SEC_LO n) n).wr DMX_AT_NS_NS (s.rd DMS_AT_NS_NS n) n)
  let s9 := (s8.wr DMS_SHCTRL_VALID 0 n).wr DMC_DONE_BYTES 0 n
  { s9 with dma := { s9.dma with cur := Tab.put s9.dma.cur n (Tab.get s9.dma.next n none) none, next := Tab.put s9.dma.next n none none } }

/-- The descriptor in the active set has nonzero reserved bits (R395). -/
def dmaBadDesc (s : State) (n : Nat) : Bool :=
  match Tab.get s.dma.cur n none with
  | none => false
  | some (r, idx) =>
    match (s.fetched r).find? (fun d => d.idx == idx) with
    | none => false
    | some d => d.le 28 1 ≥ 64 || d.le 29 1 ≠ 0 || d.le 31 1 % 64 ≠ 0

/-- A transfer is loaded and checked (R387, R391): it ends, waits for its instant, or starts. -/
def dmaLoad (s : State) (n : Nat) : State :=
  let s1 := s.dmaCopy n
  match if s1.dmaBadDesc n then some .badDesc else s1.dmaFailure n with
  | some c => (s1.dmaCount 0).dmaFinish n c
  | none =>
    if s1.on DMX_OPW_AT n then
      let sec := s1.tmu.tod.sec / 2 ^ 32 * 2 ^ 32 + s1.rd DMX_AT_SECLO_SEC_LO n
      let s2 := s1.wr DMC_STAT_STATE dmaWait n
      { s2 with dma := { s2.dma with start := Tab.put s2.dma.start n (sec * 1000000000 + s1.rd DMX_AT_NS_NS n) 0 } }
    else s1.wr DMC_STAT_STATE dmaActive n

/-- The active transfer ends, and the shadow is copied in the same cycle where it is complete (R390). -/
def dmaEnd (s : State) (n : Nat) (c : DmaCode) : State :=
  let s1 := s.dmaFinish n c
  if s1.on DMS_SHCTRL_VALID n && s1.on DMC_CTRL_EN n then s1.dmaLoad n else s1

/-- The running DMA ring that is bound to channel `n` (R352, R395). -/
def dmaRing (s : State) (n : Nat) : Option Nat :=
  (List.range 128).find? (fun r => s.rd RNG_RSTAT_STATE r == ringRunning && s.rd RNG_RCFG_TYPE r == ringDma && s.rd RNG_RCFG_BIND r == n)

/-- The ring manager writes the next descriptor into the shadow (R395). -/
def dmaRingLoad (s : State) (n : Nat) : State :=
  match s.dmaRing n with
  | none => s
  | some r =>
    match s.nextDesc r with
    | none => s
    | some d =>
      let s1 := s.startDesc r d.idx
      let s2 := ((((s1.wr DMS_SRC_LO_ADDR (d.le 0 4) n).wr DMS_SRC_HI_ADDR (d.le 4 4) n).wr DMS_DST_LO_ADDR (d.le 8 4) n).wr DMS_DST_HI_ADDR
        (d.le 12 4) n)
      let s3 := ((s2.wr DMS_SSTRIDE_STRIDE (d.le 16 4) n).wr DMS_DSTRIDE_STRIDE (d.le 20 4) n)
      let s4 := ((((s3.wr DMS_SGEOM_LINE (d.le 24 2) n).wr DMS_DGEOM_LINE (d.le 24 2) n).wr DMS_SGEOM_LINES (d.le 26 2) n).wr DMS_DGEOM_LINES
        (d.le 26 2) n)
      let c := d.le 28 1
      let s5 := (((s4.wr DMS_OPW_OP (c % 4) n).wr DMS_OPW_SSPACE (c / 4 % 4) n).wr DMS_OPW_DSPACE (c / 16 % 4) n)
      let s6 := (((s5.wr DMS_OPW_IRQ 0 n).wr DMS_OPW_AT 0 n).wr DMS_AT_NS_NS 0 n).wr DMS_SHCTRL_VALID 1 n
      { s6 with dma := { s6.dma with next := Tab.put s6.dma.next n (some (r, d.idx)) none } }

/-- DMA_LOAD: in ring mode an empty shadow takes the next descriptor; an idle channel with a complete shadow loads it (R390, R395). -/
def dmaLoadStep (s : State) (n : Nat) : State :=
  if !s.dmaRuns || !s.on DMC_CTRL_EN n then s
  else
    let s1 := if s.on DMC_CTRL_RING n && !s.on DMS_SHCTRL_VALID n then s.dmaRingLoad n else s
    if s1.on DMS_SHCTRL_VALID n && s1.rd DMC_STAT_STATE n = dmaIdle then s1.dmaLoad n else s1

/-- The instant of a waiting transfer has come (R85, R391). -/
def dmaStartAt (s : State) (n : Nat) : State :=
  let t := Tab.get s.dma.start n 0 * 2 ^ 32
  if s.rd DMC_STAT_STATE n = dmaWait && s.tmu.tod.units ≥ t then
    (s.wr DMC_STAT_STATE dmaActive n).when (s.tmu.tod.units ≥ t + 2 * 2 ^ 32) (·.wr DMC_STAT_LATE 1 n)
  else s

/-- A bus error halts a channel (R392, R396): `addr` is the failing address, of the source or the destination. -/
def dmaHaltAt (s : State) (n : Nat) (write dest : Bool) (cause addr : Nat) : State :=
  let space := if dest then s.rd DMX_OPW_DSPACE n else s.rd DMX_OPW_SSPACE n
  let s1 := (((s.wr DMC_FINFO_DIR (bit write) n).wr DMC_FINFO_SIDE (bit dest) n).wr DMC_FINFO_SPACE space n).wr DMC_FINFO_CAUSE cause n
  let s2 := (s1.wr DMC_FADDR_LO_ADDR addr n).wr DMC_FADDR_HI_ADDR (addr / 2 ^ 32) n
  let s3 := ((s2.wr DMC_STAT_STATE dmaHalted n).wr DMC_STAT_HALTEV 1 n).dmaCount 1
  s3.irq (32 + n) n (s3.dmaStat n)

/-- RESUME (R391, R392). -/
def dmaResume (s : State) (n : Nat) : State := if s.rd DMC_STAT_STATE n = dmaHalted then s.dmaEnd n .busErr else s

/-- EN = 1 takes a channel from OFF to IDLE (R391). -/
def dmaEnable (s : State) (n : Nat) : State :=
  if s.on DMC_CTRL_EN n then s else (s.wr DMC_CTRL_EN 1 n).wr DMC_STAT_STATE dmaIdle n

/-- A write of DMA_Cn_CTRL: a disable wins over RESUME (R394); RING only while EN = 0 (R395). -/
def dmaCtrlWrite (s : State) (n w : Nat) : State :=
  let s1 := if s.on DMC_CTRL_EN n then s else s.writeFields (s.on DMA_CTRL_LOCK) [DMC_CTRL_RING] n 0 w
  if !w.testBit 31 then s1.dmaDisable n
  else
    let s2 := s1.dmaEnable n
    if w.testBit 29 then s2.dmaResume n else s2

/-- A write of the shadow set is refused (R390, R395). -/
def dmaLateWrite (s : State) (n : Nat) : State := (s.wr DMC_STAT_LATEWR 1 n).dmaCount 2

/-- A write of SHCTRL (R390). -/
def dmaShadowValid (s : State) (n : Nat) (v : Bool) : State :=
  if s.on DMC_CTRL_RING n then s.dmaLateWrite n else s.wr DMS_SHCTRL_VALID (bit v) n

/-- A reset of the embedded function's control endpoint cancels transfers that touch its buffer (R393, R317). -/
def dmaCancel (s : State) : State :=
  let lo := 0x50000 + 0x8000 + s.rd EP_CFG_BUFOFS 0 * 64
  let hi := lo + s.rd EP_CFG_BUFLEN 0 * 64
  s.each (List.range 32) (fun s n =>
    let hit := s.rd DMC_STAT_STATE n = dmaActive &&
      (s.dmaSides n).any (fun d => d.space == spReg && d.addr < hi && lo ≤ d.last)
    if hit then (s.dmaCount 3).dmaEnd n .cancelled else s)

/-- Writes of DMA registers that do more than store their fields. -/
def dmaWrite (s : State) (off w : Nat) : Option State :=
  let o := off - 0x90000
  let n := (o - 0x1000) / 0x100
  let r := (o - 0x1000) % 0x100
  if off < 0x90000 || off ≥ 0xA0000 then none
  else if o = 0x60 then some (s.each (List.range 4) (fun s i => if w.testBit i then s.wr DMA_CNT_COUNT 0 i else s))
  else if o < 0x1000 || o ≥ 0x3000 then none
  else if r = 0 then some (s.dmaCtrlWrite n w)
  else if 0x20 ≤ r && r < 0x4C then some (if s.on DMC_CTRL_RING n || s.on DMS_SHCTRL_VALID n then s.dmaLateWrite n else s.writeReg off w)
  else if r = 0x4C then some (s.dmaShadowValid n (w.testBit 31))
  else none

/-! The DRAM controller (R398, R440). -/

/-- A single-bit error of DRAM is corrected (R398). -/
def dramCor (s : State) : State := (s.sat DRC_CNT_COUNT 0).fault 12 0

/-- An uncorrectable error of DRAM at `a` (R398): the first address is latched. -/
def dramUnc (s : State) (a : Nat) : State :=
  let s1 := s.sat DRC_CNT_COUNT 1
  let s2 := if s1.on DRC_STAT_UNCEV then s1
    else ((s1.wr DRC_STAT_UNCEV 1).wr DRC_ECCADDR_LO_ADDR (a / 64)).wr DRC_ECCADDR_HI_ADDR (a / 2 ^ 32)
  s2.fault 13 0

/-- A write of DRC_CTRL (R440): a change of DEVSZ takes the device out of service, and a non-zero size trains it. -/
def drcCtrlWrite (s : State) (w : Nat) : State :=
  let s1 := s.writeReg 0x230000 w
  if s1.rd DRC_CTRL_DEVSZ = s.rd DRC_CTRL_DEVSZ then s1 else (s1.wr DRC_STAT_READY 0).causeOff 11

/-- DRAM training runs: a size is set, and it has neither succeeded nor failed (R440). -/
def dramTrains (s : State) : Bool := s.rd DRC_CTRL_DEVSZ != 0 && !s.on DRC_STAT_READY && !Tab.get s.flt.cause 11 false

/-- DRAM training ends (R440). -/
def dramTrained (s : State) (ok : Bool) : State :=
  if !s.dramTrains then s
  else if ok then (s.wr DRC_STAT_READY 1).causeOff 11
  else s.causeOn 11 0

/-- The patrol scrub (R398): words found with one wrong bit, and addresses found uncorrectable. -/
def dramScrub (s : State) (cor : Nat) (unc : List Nat) : State :=
  if s.on DRC_CTRL_SCRUB && s.on DRC_STAT_READY then (s.each (List.range cor) (fun s _ => s.dramCor)).each unc dramUnc else s

/-- Writes of DRC registers that do more than store their fields. -/
def drcWrite (s : State) (off w : Nat) : Option State :=
  if off = 0x230000 then some (s.drcCtrlWrite w)
  else if off = 0x230060 then some (s.each (List.range 4) (fun s i => if w.testBit i then s.wr DRC_CNT_COUNT 0 i else s))
  else none

end State

/-- DMA_ENABLE (R391) of channel `n`. -/
def execDmaEnable (n : Fin 32) (s : State) : Host.Outcome State Fault Refusal := .next (s.dmaEnable n)

/-- DMA_DISABLE (R394). -/
def execDmaDisable (n : Fin 32) (s : State) : Host.Outcome State Fault Refusal := .next (s.dmaDisable n)

/-- SHADOW_VALID (R390): `v` written to SHCTRL.VALID. -/
def execShadowValid (n : Fin 32) (v : Bool) (s : State) : Host.Outcome State Fault Refusal := .next (s.dmaShadowValid n v)

/-- DMA_LOAD (R387, R390, R395). -/
def execDmaLoad (n : Fin 32) (s : State) : Host.Outcome State Fault Refusal := .next (s.dmaLoadStep n)

/-- DMA_START_AT (R391). -/
def execDmaStartAt (n : Fin 32) (s : State) : Host.Outcome State Fault Refusal := .next (s.dmaStartAt n)

/-- DMA_RESUME (R391). -/
def execDmaResume (n : Fin 32) (s : State) : Host.Outcome State Fault Refusal := .next (s.dmaResume n)

/-- DRAM_TRAINING_START (R440): `w` written to DRC_CTRL. -/
def execDramTrainingStart (w : Word) (s : State) : Host.Outcome State Fault Refusal := .next (s.drcCtrlWrite w.toNat)

/-- DRAM_TRAINING_DONE (R440). -/
def execDramTrainingDone (ok : Bool) (s : State) : Host.Outcome State Fault Refusal := .next (s.dramTrained ok)

/-- DRAM_SCRUB (R398): what the scrub found. -/
def execDramScrub (cor : Nat) (unc : List Nat) (s : State) : Host.Outcome State Fault Refusal := .next (s.dramScrub cor unc)

/-- USB_DETACH (R296). -/
def execUsbDetach (s : State) : Host.Outcome State Fault Refusal := .next s.usbDetach

/-- USB_BUS_RESET (R297, R300, R317, R393); `high`: the host answered the chirp; `arms`: endpoints whose EPk_ARM is written in the same cycle. -/
def execUsbBusReset (high : Bool) (arms : List (Fin 16)) (s : State) : Host.Outcome State Fault Refusal :=
  if s.rd USB_STAT_USTATE = 0 then .next s else .next (((s.busReset high).armLost arms).dmaCancel)

/-- LOCAL_PORT_REQUEST (R301, R317): a request of the host to port `n` of the hub (0: to the hub itself); `arms`: endpoints whose EPk_ARM is written in the cycle of a reset of port 5. -/
def execLocalPortRequest (n : Fin 6) (r : HubRequest) (arms : List (Fin 16)) (s : State) : Host.Outcome State Fault Refusal :=
  let s1 := s.portRequest n r
  if n = 5 && r = .setReset && Tab.get s1.usb.resetting 5 false && !Tab.get s.usb.resetting 5 false then .next (s1.fnReset.armLost arms).dmaCancel
  else .next s1

end Sys2Proof.Machine
end

