-- ==== Sys2Proof/Machine/Bridge.lean ====
section
/-! DEFINITION. The bridge and the near memory service (R370 to R385). -/

namespace Sys2Proof.Machine

/-- Types of the messages of a memory tunnel (R375). -/
def memRead : Nat := 1
def memWriteMsg : Nat := 2
def memSignal : Nat := 3
def memRdata : Nat := 0x81
def memAck : Nat := 0x82
def memWfail : Nat := 0x83

/-- A message header decoded (R375), with the data that follows it. -/
structure MemIn where
  ty : Nat := 0
  tag : Nat := 0
  mseq : Nat := 0
  bytes : Nat := 0
  status : Nat := 0
  line : Nat := 0
  addr : Nat := 0
  data : List Byte := []
  deriving DecidableEq, Repr, Inhabited

/-- The bytes of a message (R375). -/
def memBytes (m : MemIn) : List Byte :=
  beBytes 1 m.ty ++ beBytes 1 m.tag ++ beBytes 2 m.mseq ++ beBytes 1 m.bytes ++ beBytes 1 m.status ++ beBytes 1 m.line ++ beBytes 1 0 ++
    beBytes 8 m.addr ++ m.data

/-- The message that bytes hold. -/
def memParse (bs : List Byte) : MemIn :=
  let f (o n : Nat) : Nat := ofBe ((bs.drop o).take n)
  { ty := f 0 1, tag := f 1 1 % 32, mseq := f 2 2, bytes := f 4 1 % 128, status := f 5 1, line := f 6 1, addr := f 8 8, data := bs.drop 16 }

/-- The forms of a read, and of a write, at an address (R373). -/
def readForm (a n : Nat) : Bool := [1, 2, 4, 8].contains n && a % n == 0
def writeForm (a n : Nat) : Bool :=
  readForm a n || (4 ≤ n && n ≤ 64 && n % 4 == 0 && a % 4 == 0 && a / 64 == (a + n - 1) / 64)

/-- A message keeps to R375 in a version. -/
def memGood (v1 : Bool) (bs : List Byte) : Bool :=
  let m := memParse bs
  let b (k : Nat) : Nat := (bs.getD k 0).toNat
  let carries := m.ty == memWriteMsg || m.ty == memRdata
  bs.length == 16 + (if carries then m.bytes else 0) && 16 ≤ bs.length && b 1 < 32 && b 4 < 128 && b 7 == 0 &&
  (m.ty == memRead || m.ty == memRdata || b 1 == 0) &&
  (m.ty == memRdata || m.ty == memWfail || m.status == 0) && m.status ≤ 3 &&
  (m.ty == memSignal || m.line == 0) && m.line ≤ 31 &&
  (!v1 || (m.mseq == 0 && (m.ty == memRead || m.ty == memWriteMsg || m.ty == memRdata || m.ty == memWfail))) &&
  (if m.ty = memRead then readForm m.addr m.bytes || (m.bytes == 64 && m.addr % 64 == 0)
   else if m.ty = memWriteMsg then writeForm m.addr m.bytes
   else if m.ty = memRdata then (m.status != 0 && m.bytes == 0) || (m.status == 0 && [1, 2, 4, 8, 64].contains m.bytes)
   else if m.ty = memSignal then m.bytes == 0 && m.addr == 0
   else if m.ty = memAck then m.bytes == 0
   else m.ty == memWfail && m.bytes == 0 && m.status != 0)

/-- Causes of a failed posted write (R380). -/
inductive WfCause where
  | range | size | busErr | noResp | noWin
  deriving DecidableEq, Repr

/-- The numbers of the causes. -/
def WfCause.code : WfCause → Nat
  | .range => 1 | .size => 2 | .busErr => 3 | .noResp => 4 | .noWin => 5

namespace State

/-- A counter of BRG_CNT advances. -/
def brgCount (s : State) (i : Nat) : State := s.sat BRG_CNT_COUNT i

/-- A write of a bridge register is refused. -/
def brgReject (s : State) : State := s.wr BRG_STAT_CFGREJ 1

/-- A count of MSTAT advances for entry `e` (R384). -/
def memCount (s : State) (e k n : Nat) : State :=
  { s with brg := { s.brg with counts := Tab.put s.brg.counts (8 * e + k) (satAdd 32 (Tab.get s.brg.counts (8 * e + k) 0) n) 0 } }

/-- A protocol error of a memory service (R375, R255). -/
def memErr (s : State) (e : Nat) : State := (s.svcErr e).memCount e 4 1

/-- The event bit `F` is set, and the bridge interrupt sent when it was 0 (R382); in embedded mode the interrupt input follows the bits. -/
def brgEvent (s : State) (F : Field) : State :=
  if s.on F then s
  else
    let s1 := s.wr F 1
    if s1.embedded then s1 else s1.sendMsix (s1.rd BRG_CTRL_VEC)

/-! Windows (R370, R371). -/

/-- Base of a window, and its far base. -/
def winBase (s : State) (w : Nat) : Nat := s.rd BRG_BASE_HI_ADDR w * 2 ^ 32 + s.rd BRG_BASE_LO_ADDR w * 2 ^ 16
def winFar (s : State) (w : Nat) : Nat := s.rd BRG_RADDR_HI_ADDR w * 2 ^ 32 + s.rd BRG_RADDR_LO_ADDR w * 2 ^ 12

/-- Size of a window. -/
def winSize (s : State) (w : Nat) : Nat := 2 ^ s.rd BRG_WCTRL_SIZE w

/-- The size of BAR4, or 1 GiB where it has none (R350, R371). -/
def bar4Size (s : State) : Nat := if s.rd PCX_CTRL_BAR4SZ = 0 then 2 ^ 30 else 2 ^ (s.rd PCX_CTRL_BAR4SZ + 23)

/-- The role of memory entry `e`: 0 near, 1 far. -/
def memRole (s : State) (e : Nat) : Nat := s.param e 0 1

/-- The near service of entry `e` runs version 1. -/
def memV1 (s : State) (e : Nat) : Bool := s.rd CTX2_VER (s.rd TEN_SVC1_TXSLOT e) == 1

/-- A window may be enabled (R371). -/
def winOk (s : State) (w : Nat) : Bool :=
  let b := s.winBase w
  let e := s.rd BRG_WCTRL_SVC w
  b % s.winSize w = 0 && b + s.winSize w ≤ s.bar4Size &&
  (List.range 16).all (fun i => i == w || !s.on BRG_WCTRL_EN i || s.winBase i + s.winSize i ≤ b || b + s.winSize w ≤ s.winBase i) &&
  s.on TEN_SVC0_EN e && s.rd TEN_SVC0_STATE e == svcActive && s.rd TEN_SVC0_TYPE e == tyMemory && s.memRole e == 0

/-- A write of BRG_WINw_WCTRL (R371). -/
def winCtrlWrite (s : State) (w v : Nat) : State :=
  let s1 := s.writeFields false [BRG_WCTRL_PREF, BRG_WCTRL_SIZE, BRG_WCTRL_SVC] w 0 v
  if s.on BRG_WCTRL_EN w then
    let same := bitsOf v 30 30 = s.rd BRG_WCTRL_PREF w && bitsOf v 25 20 = s.rd BRG_WCTRL_SIZE w && bitsOf v 6 0 = s.rd BRG_WCTRL_SVC w
    (s.when (!same) brgReject).wr BRG_WCTRL_EN (bit (v.testBit 31)) w
  else if !v.testBit 31 then s1
  else if bitsOf v 25 20 < 16 || bitsOf v 25 20 > 36 || !s1.winOk w then s1.brgReject
  else s1.wr BRG_WCTRL_EN 1 w

/-- The enabled window that holds the whole access (R370). -/
def winOf (s : State) (a n : Nat) : Option Nat :=
  (List.range 16).find? (fun w => s.on BRG_WCTRL_EN w && s.winBase w ≤ a && a + n ≤ s.winBase w + s.winSize w)

/-! Sending (R375 to R378). -/

/-- Waiting accesses, READs in flight and messages not acknowledged of entry `e`. -/
def memWaiting (s : State) (e : Nat) : List MemMsg := Tab.get s.brg.wait e []
def memReads (s : State) (e : Nat) : List MemMsg := Tab.get s.brg.reads e []
def memUnack (s : State) (e : Nat) : List MemMsg := Tab.get s.brg.unack e []
def setMemWaiting (s : State) (e : Nat) (l : List MemMsg) : State := { s with brg := { s.brg with wait := Tab.put s.brg.wait e l [] } }
def setMemReads (s : State) (e : Nat) (l : List MemMsg) : State := { s with brg := { s.brg with reads := Tab.put s.brg.reads e l [] } }
def setMemUnack (s : State) (e : Nat) (l : List MemMsg) : State := { s with brg := { s.brg with unack := Tab.put s.brg.unack e l [] } }
def setMemTries (s : State) (e n : Nat) : State := { s with brg := { s.brg with tries := Tab.put s.brg.tries e n 0 } }

def setMemSeq (s : State) (e q : Nat) : State := { s with brg := { s.brg with mseq := Tab.put s.brg.mseq e q 0 } }

/-- A read tag that no READ in flight uses (R374). -/
def memTag (s : State) (e : Nat) : Option Nat := (List.range 32).find? (fun t => !(s.memReads e).any (fun m => m.tag == t))

/-- The message goes out as it stands. -/
def memSend (s : State) (e : Nat) (m : MemMsg) : State :=
  let out : MemIn :=
    { ty := m.kind, tag := m.tag, mseq := m.mseq, bytes := m.bytes, line := m.line, addr := m.addr, data := m.data }
  s.engineSend e (memBytes out)

/-- The access can be issued: the service takes work, and there is a tag and room in the window (R374, R378). -/
def memRoom (s : State) (e : Nat) (m : MemMsg) : Bool :=
  s.svcTakes e && (m.kind != memRead || (s.memTag e).isSome) && (s.memV1 e || (s.memUnack e).length < 64)

/-- The near service waits RTO for an acknowledgement of its oldest message from now on, where it has one (R378, R384). -/
def memTimer (s : State) (e : Nat) : State :=
  if (s.memUnack e).isEmpty then s.disarm (.memory e) else s.arm (.memory e) (s.param e 2 1 * 100000)

/-- An access becomes a message (R374 to R378). -/
def memIssue (s : State) (e : Nat) (m : MemMsg) : State :=
  let v1 := s.memV1 e
  let q := Tab.get s.brg.mseq e 0
  let m1 := { m with tag := if m.kind = memRead then (s.memTag e).getD 0 else 0, mseq := if v1 then 0 else q }
  let s1 := if m.kind = memRead then s.setMemReads e (s.memReads e ++ [m1]) else s
  let s2 := if v1 then s1 else (s1.setMemUnack e (s1.memUnack e ++ [m1])).setMemSeq e ((q + 1) % 65536)
  ((s2.when ((s1.memUnack e).isEmpty) (·.memTimer e)).memCount e (m.kind - 1) 1).memSend e m1

/-- An access that was accepted is issued, or waits behind those that wait already. -/
def memAccess (s : State) (e : Nat) (m : MemMsg) : State :=
  if (s.memWaiting e).isEmpty && s.memRoom e m then s.memIssue e m else s.setMemWaiting e (s.memWaiting e ++ [m])

/-- The oldest waiting access of entry `e` is issued where there is room. -/
def memIssueNext (s : State) (e : Nat) : State :=
  match s.memWaiting e with
  | m :: l => if s.memRoom e m then (s.setMemWaiting e l).memIssue e m else s
  | [] => s

/-! Failed posted writes (R380). -/

/-- A posted write fails: the first is latched, later ones counted. Where no window or far address is known, the latched values are free. -/
def writeFail (s : State) (c : WfCause) (win addr : Option Nat) : State :=
  let s1 := s.brgEvent BRG_STAT_WFEV
  if s1.on BRG_WFINFO_VALID then s1.sat BRG_WFINFO_COUNT
  else
    let s2 := (s1.wr BRG_WFINFO_VALID 1).wr BRG_WFINFO_CAUSE c.code
    let s3 := match win with
      | some w => (s2.wr BRG_WFINFO_WIN w).wr BRG_WFINFO_SLOT (s2.rd TEN_SVC1_TXSLOT (s2.rd BRG_WCTRL_SVC w))
      | none => (s2.wrFree BRG_WFINFO_WIN).wrFree BRG_WFINFO_SLOT
    match addr with
    | some a => (s3.wr BRG_WFADDR_LO_ADDR a).wr BRG_WFADDR_HI_ADDR (a / 2 ^ 32)
    | none => (s3.wrFree BRG_WFADDR_LO_ADDR).wrFree BRG_WFADDR_HI_ADDR

/-! Prefetch (R383). -/

/-- The line buffers of a window. -/
def lineBufs (s : State) (w : Nat) : List LineBuf := Tab.get s.brg.lines w []
def setLineBufs (s : State) (w : Nat) (l : List LineBuf) : State := { s with brg := { s.brg with lines := Tab.put s.brg.lines w l [] } }

/-- Lines leave their buffers: those of which no byte was returned are discarded prefetches. -/
def linesGone (s : State) (l : List LineBuf) : State := s.each (l.filter (fun x => !x.used)) (fun s _ => s.brgCount 4)

/-- A line arrives, valid for 2 µs from now on; the least recently used of five leaves. -/
def lineIn (s : State) (w : Nat) (x : LineBuf) : State :=
  let old := s.lineBufs w
  let l := x :: old.filter (fun y => y.off != x.off)
  (((s.linesGone (old.filter (fun y => y.off == x.off))).linesGone (l.drop 4)).setLineBufs w (l.take 4)).arm (.line w x.off) 2000

/-- The lines that satisfy `p` become invalid. -/
def linesDrop (s : State) (w : Nat) (p : LineBuf → Bool) : State :=
  (s.linesGone ((s.lineBufs w).filter p)).setLineBufs w ((s.lineBufs w).filter (fun x => !p x))

/-- The line after `off` is fetched ahead, within the window. -/
def lineAhead (s : State) (w off : Nat) : State :=
  let a := off + 64
  if a + 64 ≤ s.winBase w + s.winSize w && !(s.lineBufs w).any (fun x => x.off == a && !s.due (.line w a)) then
    s.memAccess (s.rd BRG_WCTRL_SVC w) { kind := memRead, win := w, addr := s.winFar w + (a - s.winBase w), off := a, bytes := 64 }
  else s

/-- A read in a prefetchable window (R383). -/
def prefRead (s : State) (w : Nat) (h : HeldRead) : State :=
  let a := h.off
  let line := a / 64 * 64
  let s1 := match (s.lineBufs w).find? (fun x => x.off == line && !s.due (.line w line)) with
    | some x =>
      ((s.brgCount 5).setLineBufs w ({ x with used := true } :: (s.lineBufs w).filter (fun y => y.off != line))).readDone h.id
        (some ((x.data.drop (a - line)).take h.bytes))
    | none =>
      s.memAccess (s.rd BRG_WCTRL_SVC w)
        { kind := memRead, win := w, addr := s.winFar w + (line - s.winBase w), off := line, bytes := 64, read := some h }
  if a + h.bytes > line + 56 then s1.lineAhead w line else s1

/-! Accesses through BAR4 (R372 to R374). -/

/-- The number of the next held read is used up. -/
def takeId (s : State) : Nat × State := (s.brg.nextId, { s with brg := { s.brg with nextId := s.brg.nextId + 1 } })

/-- A read of `n` bytes at BAR4 offset `a`; one that is accepted is held for RDTO at most (R374). -/
def bridgeRead (s : State) (a n : Nat) : State :=
  let (id, s1) := s.takeId
  if !s1.on BRG_CTRL_EN || !s1.dmaRuns then (s1.brgCount 0).readDone id none
  else if !readForm a n then (s1.brgCount 1).readDone id none
  else
    match s1.winOf a n with
    | none => (s1.brgCount 0).readDone id none
    | some w =>
      let h : HeldRead := { id := id, win := w, off := a, bytes := n }
      let s2 := s1.arm (.heldRead id) (s1.rd BRG_TIM_RDTO w * 1000)
      if s2.on BRG_WCTRL_PREF w then s2.prefRead w h
      else s2.memAccess (s2.rd BRG_WCTRL_SVC w)
        { kind := memRead, win := w, addr := s2.winFar w + (a - s2.winBase w), off := a, bytes := n, read := some h }

/-- A write at BAR4 offset `a`; `whole`: every byte enabled. -/
def bridgeWrite (s : State) (a : Nat) (data : List Byte) (whole : Bool) : State :=
  let n := data.length
  let at1 := s.winOf a 1
  if !s.on BRG_CTRL_EN || !s.dmaRuns then (s.brgCount 0).writeFail .noWin none none
  else if !writeForm a n || !whole then (s.brgCount 1).writeFail .size at1 (at1.map (fun w => s.winFar w + (a - s.winBase w)))
  else
    match s.winOf a n with
    | none => (s.brgCount 0).writeFail .noWin none none
    | some w =>
      let s1 := s.linesDrop w (fun x => x.off / 64 == a / 64)
      s1.memAccess (s1.rd BRG_WCTRL_SVC w) { kind := memWriteMsg, win := w, addr := s1.winFar w + (a - s1.winBase w), off := a, bytes := n, data := data }

/-- RDTO of a held read expires (R374). -/
def readTimeout (s : State) (id : Nat) : State :=
  let hit (m : MemMsg) : Bool := match m.read with
    | some h => h.id == id
    | none => false
  let cut (t : Tab (List MemMsg)) : Tab (List MemMsg) := (t.map (fun x => (x.1, x.2.filter (fun m => !hit m)))).filter (fun x => !x.2.isEmpty)
  let s1 := { s with brg := { s.brg with reads := cut s.brg.reads, wait := cut s.brg.wait } }
  if !s.due (.heldRead id) then s
  else if (s.brg.reads ++ s.brg.wait).any (fun x => x.2.any hit) then (s1.brgCount 2).readDone id none else s

/-! What comes back (R374, R377, R378, R380). -/

/-- The memory service of entry `e`, in a role, takes its next packet where that has one of the types `tys`; a malformed one is discarded. -/
def memTake (s : State) (e role : Nat) (tys : List Nat) : State × Option Packet :=
  if !s.svcRuns e || s.rd TEN_SVC0_TYPE e ≠ tyMemory || s.memRole e ≠ role then (s, none)
  else
    match (s.inbox (s.svcEngine e)).find? (fun x => x.1 == e) with
    | none => (s, none)
    | some x =>
      let m := memParse x.2.payload
      let mine := if role = 0 then m.ty ≥ 0x81 else m.ty < 0x81
      if !mine || !memGood (s.memV1 e) x.2.payload then ((s.takeInbound e).1.memErr e, none)
      else if tys.contains m.ty then s.takeInbound e
      else (s, none)

/-- Messages up to MSEQ `q` are acknowledged (R377, R378). -/
def memAcked (s : State) (e q : Nat) : State :=
  let l := (s.memUnack e).filter (fun m => decide (signedOf 16 ((m.mseq + 65536 - q) % 65536) > 0))
  if l.length = (s.memUnack e).length then s else ((s.setMemUnack e l).setMemTries e 0).memTimer e

/-- A read is answered (R374, R383). -/
def memAnswer (s : State) (m : MemMsg) (data : Option (List Byte)) : State :=
  let s1 := match m.read with
    | none => s
    | some h => s.readDone h.id (data.map (fun d => (d.drop (h.off - m.off)).take h.bytes))
  match data with
  | some d => if m.bytes = 64 && s1.on BRG_WCTRL_PREF m.win then s1.lineIn m.win { off := m.off, data := d, used := m.read.isSome } else s1
  | none => s1

/-- RDATA (R374, R377). -/
def rdataReceive (s : State) (e : Nat) : State :=
  match s.memTake e 0 [memRdata] with
  | (s1, none) => s1
  | (s1, some p) =>
    let r := memParse p.payload
    let v1 := s1.memV1 e
    let s2 := if v1 then s1 else s1.memAcked e r.mseq
    match (s2.memReads e).find? (fun m => m.tag == r.tag && (v1 || m.mseq == r.mseq)) with
    | none => s2.brgCount 3
    | some m =>
      let s3 := s2.setMemReads e ((s2.memReads e).erase m)
      s3.memAnswer m (if r.status = 0 && r.data.length = m.bytes then some r.data else none)

/-- ACK (R377, R378). -/
def memAckReceive (s : State) (e : Nat) : State :=
  match s.memTake e 0 [memAck] with
  | (s1, none) => s1
  | (s1, some p) => s1.memAcked e (memParse p.payload).mseq

/-- WFAIL (R379, R380): the window is that of the write answered, or the one of this service that reaches the address. -/
def wfailReceive (s : State) (e : Nat) : State :=
  match s.memTake e 0 [memWfail] with
  | (s1, none) => s1
  | (s1, some p) =>
    let r := memParse p.payload
    let byAddr := (List.range 16).find? (fun w => s1.on BRG_WCTRL_EN w && s1.rd BRG_WCTRL_SVC w == e &&
      s1.winFar w ≤ r.addr && r.addr < s1.winFar w + s1.winSize w)
    let win := match (s1.memUnack e).find? (fun m => m.kind == memWriteMsg && m.mseq == r.mseq) with
      | some m => some m.win
      | none => byAddr
    let s2 := if s1.memV1 e then s1 else s1.memAcked e r.mseq
    s2.writeFail (if r.status = 1 then .range else if r.status = 2 then .size else .busErr) win (some r.addr)

/-- RTO passes without an acknowledgement of the oldest message (R378). -/
def memRto (s : State) (e : Nat) : State :=
  let l := s.memUnack e
  if l.isEmpty || !s.svcRuns e || !s.due (.memory e) then s
  else if Tab.get s.brg.tries e 0 < s.param e 3 1 then
    (((s.memTimer e).setMemTries e (Tab.get s.brg.tries e 0 + 1)).memCount e 3 l.length).each l (fun s m => s.memSend e m)
  else
    let s1 := ((s.setMemUnack e []).setMemTries e 0).memTimer e
    s1.each l (fun s m =>
      if m.kind = memRead then
        match (s.memReads e).find? (fun x => x.mseq == m.mseq) with
        | none => s
        | some x => (s.setMemReads e ((s.memReads e).erase x)).memAnswer x none
      else if m.kind = memWriteMsg then s.writeFail .noResp (some m.win) (some m.addr)
      else s)

/-- A write of BRG_SIGTX (R381). -/
def signalSend (s : State) (v : Nat) : State :=
  let w := bitsOf v 27 24
  let e := s.rd BRG_WCTRL_SVC w
  if !v.testBit 31 then s
  else if !s.on BRG_WCTRL_EN w || s.memV1 e then s.brgReject
  else s.memAccess e { kind := memSignal, win := w, line := bitsOf v 4 0 }

/-- Writes of BRG registers that do more than store their fields. -/
def brgWrite (s : State) (off v : Nat) : Option State :=
  let o := off - 0x80000
  let w := (o - 0x100) / 0x20
  if off < 0x80000 || off ≥ 0x90000 then none
  else if o = 8 then some ((s.writeReg off v).when (v.testBit 31) (·.wr BRG_WFINFO_COUNT 0))
  else if o = 0x18 then some (s.signalSend v)
  else if o = 0x60 then some (s.each (List.range 6) (fun s i => if v.testBit i then s.wr BRG_CNT_COUNT 0 i else s))
  else if o < 0x100 || o ≥ 0x300 then none
  else if o % 0x20 = 0 then some (s.winCtrlWrite w v)
  else if o % 0x20 < 0x18 && s.on BRG_WCTRL_EN w then some s.brgReject
  else none

end State

/-- WINDOW_ENABLE (R371): `v` written to BRG_WINw_WCTRL. -/
def execWindowEnable (w : Fin 16) (v : Word) (s : State) : Host.Outcome State Fault Refusal := .next (s.winCtrlWrite w v.toNat)

/-- BRIDGE_READ (R372 to R374, R383): a read of `n` bytes at BAR4 offset `a`, by the host or, below 1 GiB, by the management processor. -/
def execBridgeRead (mgmt : Bool) (a n : Nat) (s : State) : Host.Outcome State Fault Refusal :=
  if mgmt && a ≥ 2 ^ 30 then .next s else .next (s.bridgeRead a n)

/-- BRIDGE_WRITE (R372, R373, R380). -/
def execBridgeWrite (mgmt : Bool) (a : Nat) (data : List Byte) (whole : Bool) (s : State) : Host.Outcome State Fault Refusal :=
  if mgmt && a ≥ 2 ^ 30 then .next s else .next (s.bridgeWrite a data whole)

/-- BRIDGE_ACCESS_ISSUE (R374, R378) for entry `e`. -/
def execBridgeAccessIssue (e : Fin 128) (s : State) : Host.Outcome State Fault Refusal := .next (s.memIssueNext e)

/-- BRIDGE_READ_TIMEOUT (R374) of held read `id`. -/
def execBridgeReadTimeout (id : Nat) (s : State) : Host.Outcome State Fault Refusal := .next (s.readTimeout id)

/-- RDATA_RECEIVE (R374). -/
def execRdataReceive (e : Fin 128) (s : State) : Host.Outcome State Fault Refusal := .next (s.rdataReceive e)

/-- MEMORY_ACK_RECEIVE (R378). -/
def execMemoryAckReceive (e : Fin 128) (s : State) : Host.Outcome State Fault Refusal := .next (s.memAckReceive e)

/-- WFAIL_RECEIVE (R380). -/
def execWfailReceive (e : Fin 128) (s : State) : Host.Outcome State Fault Refusal := .next (s.wfailReceive e)

/-- MEMORY_RTO (R378). -/
def execMemoryRto (e : Fin 128) (s : State) : Host.Outcome State Fault Refusal := .next (s.memRto e)

/-- SIGNAL_SEND (R381): `w` written to BRG_SIGTX. -/
def execSignalSend (w : Word) (s : State) : Host.Outcome State Fault Refusal := .next (s.signalSend w.toNat)

/-- PREFETCH_LINE_EXPIRY (R383): the line at BAR4 offset 64 × `line` of window `w`, 2 µs after its data arrived. -/
def execPrefetchLineExpiry (w : Fin 16) (line : Nat) (s : State) : Host.Outcome State Fault Refusal :=
  if s.due (.line w (64 * line)) then .next ((s.linesDrop w (fun x => x.off == 64 * line)).disarm (.line w (64 * line))) else .next s

/-- MSTAT (R384) of entry `e`. -/
def execMstat (n : Fin 16) (m : Fin 2) (e : Fin 128) (s : State) : Host.Outcome State Fault Refusal := .next (s.mbxSubmit n m 0x40 e)

/-- MCLR (R384) of entry `e`. -/
def execMclr (n : Fin 16) (m : Fin 2) (e : Fin 128) (s : State) : Host.Outcome State Fault Refusal := .next (s.mbxSubmit n m 0x41 e)

end Sys2Proof.Machine
end

