-- ==== Sys2Proof/Machine/Flash.lean ====
section
/-! DEFINITION. The image table in quad-SPI flash (R434 to R436, R442) and certificate chains (R422, R423). -/

namespace Sys2Proof.Machine

/-- An entry of the image table (R435). -/
structure TableEntry where
  index : Nat
  kind : Nat
  slot : Nat
  offset : Nat
  length : Nat
  deriving DecidableEq, Repr

/-- The entries in the bytes that follow a table's header. -/
def tableEntries : Nat → Nat → List Byte → List TableEntry
  | 0, _, _ => []
  | n + 1, k, b =>
    { index := k, kind := (b.getD 0 0).toNat, slot := (b.getD 1 0).toNat, offset := ofLe ((b.drop 4).take 4), length := ofLe ((b.drop 8).take 4) } ::
      tableEntries n (k + 1) (b.drop 16)

/-- The 16 bytes of an entry. -/
def TableEntry.bytes (x : TableEntry) : List Byte :=
  leBytes 1 x.kind ++ leBytes 1 x.slot ++ [0, 0] ++ leBytes 4 x.offset ++ leBytes 4 x.length ++ List.replicate 4 0

/-- The 256-byte pieces of a chain. -/
def certsOf : Nat → List Byte → List (List Byte)
  | 0, _ => []
  | n + 1, b => b.take 256 :: certsOf n (b.drop 256)

/-- Fields of a certificate (R422). -/
def certKey (c : List Byte) : List Byte := (c.drop 16).take 96
def certIssuer (c : List Byte) : List Byte := (c.drop 112).take 48

/-- A certificate's fixed fields, with a role (R422). -/
def certForm (c : List Byte) (role : Nat) : Bool :=
  c.length == 256 && c.take 4 == ascii "SCRC" && c.getD 4 0 == 1 && (c.getD 5 0).toNat == role && ofLe ((c.drop 6).take 2) == 0 &&
  (role == 1 || ofLe ((c.drop 8).take 8) == 0)

/-- A certificate is issued and signed by the holder of a public key (R423). -/
def certBy (c key : List Byte) : Bool :=
  certIssuer c == sha384 key && p384Verify key (sha384 (c.take 160)) (c.drop 160)

/-- Each certificate of a chain is issued by the next, the last by itself (R423). -/
def chainLinked : List (List Byte) → Bool
  | [] => true
  | [c] => certBy c (certKey c)
  | c :: d :: l => certBy c (certKey d) && chainLinked (d :: l)

namespace State

/-- The bytes of table copy `c`. -/
def tableBytes (s : State) (c : Nat) : List Byte := Memory.read s.flash (0x1000 * c) 1024

/-- A table copy is valid (R435). -/
def tableValid (s : State) (c : Nat) : Bool :=
  let b := s.tableBytes c
  let n := (b.getD 5 0).toNat
  b.take 4 == ascii "OXIT" && b.getD 4 0 == 1 && 1 ≤ n && n ≤ 63 &&
  crc32 (b.take 12 ++ (b.drop 16).take (16 * n)) == ofLe ((b.drop 12).take 4)

/-- SEQ of a table copy. -/
def tableSeq (s : State) (c : Nat) : Nat := ofLe ((s.tableBytes c |>.drop 8).take 4)

/-- The copy in use (R435); none: no valid copy. -/
def tableChoice (s : State) : Option Nat :=
  match s.tableValid 0, s.tableValid 1 with
  | true, true => some (if s.tableSeq 1 > s.tableSeq 0 then 1 else 0)
  | true, false => some 0
  | false, true => some 1
  | false, false => none

/-- The entries of a table copy. -/
def tableList (s : State) (c : Nat) : List TableEntry := tableEntries ((s.tableBytes c).getD 5 0).toNat 0 ((s.tableBytes c).drop 16)

/-- The flash that a table copy can address (R436). -/
def tableSpan (s : State) (c : Nat) : Nat := if ((s.tableBytes c).getD 6 0).toNat.testBit 2 then 2 ^ 32 else 2 ^ 24

/-- The chain is valid (R423): two or three certificates, device first, owner last. -/
def chainOk (s : State) (l : List (List Byte)) : Bool :=
  let roles := match l with
    | [a, b] => certForm a 1 && certForm b 3
    | [a, b, c] => certForm a 1 && certForm b 2 && certForm c 3
    | _ => false
  roles && chainLinked l && sha384 (certKey (l.getLast?.getD [])) == s.fuseBytes 0x10 48

/-- The chain stored in flash: the first KIND 4 entry of the table in use (R435, R443). -/
def storedChain (s : State) : List (List Byte) :=
  match s.tableChoice with
  | none => []
  | some c =>
    match (s.tableList c).find? (fun x => x.kind == 4) with
    | none => []
    | some x => certsOf (min (x.length / 256) 3) (Memory.read s.flash x.offset (min x.length 768))

/-- A chain is stored at a free place (R442): the image first, then the table copy that is not in use with SEQ one higher; none: no room. -/
def storeChain (s : State) (place : Nat) (bytes : List Byte) : Option State :=
  match s.tableChoice with
  | none => none
  | some c =>
    let l := s.tableList c
    let old := l.any (fun x => x.kind == 4)
    let e : TableEntry := { index := 0, kind := 4, slot := 0, offset := place, length := bytes.length }
    let l1 := if old then l.map (fun x => if x.kind == 4 then e else x) else l ++ [e]
    let free := place % 4096 == 0 && 0x2000 ≤ place && place + bytes.length ≤ s.tableSpan c &&
      l.all (fun x => place + bytes.length ≤ x.offset || x.offset + x.length ≤ place)
    if !free || l1.length > 63 then none
    else
      let b := s.tableBytes c
      let h := b.take 5 ++ leBytes 1 l1.length ++ (b.drop 6).take 2 ++ leBytes 4 (s.tableSeq c + 1)
      let es := l1.flatMap TableEntry.bytes
      let t := h ++ leBytes 4 (crc32 (h ++ es)) ++ es
      some { s with flash := Memory.write (Memory.write s.flash place bytes) (0x1000 * (1 - c)) t }

end State

end Sys2Proof.Machine
end

