-- ==== Sys2Proof/Machine/Sessions.lean ====
section
/-! DEFINITION. Trunk sessions and certification as management firmware conducts them (R424, R444). -/

namespace Sys2Proof.Machine

/-- The reason of an ABORT for a chain that is not valid (R424), and the codes of CHAINACK (R444). -/
def chainInvalid : Nat := 0x40
def flashFailed : Nat := 0x41

namespace State

/-- Session set-up of trunk `t`. -/
def sess (s : State) (t : Nat) : Session := Tab.get s.keys.sess t {}
def setSess (s : State) (t : Nat) (x : Session) : State := { s with keys := { s.keys with sess := Tab.put s.keys.sess t x {} } }

/-- Prefix of the partner of trunk `t`, as its capability record gave it. -/
def peerPrefix (s : State) (t : Nat) : Nat := s.rd TRK_PEER2_PREFIX t

/-- A tunnel-0 packet of class 5 goes to the partner of trunk `t`, the egress trunk named (R166, R360). -/
def sessSend (s : State) (t : Nat) (payload : List Byte) : State :=
  let c := s.internalCopy 21 5 payload
  let h := { c.hdr with src := s.selfPrefix * 128, dest := s.peerPrefix t * 128 }
  (s.sendOrigin { hdr := h, copies := [{ c with hdr := h, cost := costOf payload.length, eport := t }] } 21).1

/-- Firmware abandons the set-up (R424): ABORT with a reason, and no further message at this entry to SEAL. -/
def sessAbort (s : State) (t reason : Nat) : State :=
  (s.sessSend t ([0xB3] ++ beBytes 1 reason ++ [0, 0])).setSess t { s.sess t with ended := true }

/-- A key command of firmware, started and ended; its code (R416). -/
def fwKey (s : State) (pol : Nat) (run : State → State) : State × Nat :=
  let s1 := ((s.keyDone.wr KEY_POL_USAGE pol).keyStart run).keyDone
  (s1, s1.rd KEY_CMDSTAT_CODE)

/-- The lowest empty pair, and the lowest empty slot, that firmware may use. -/
def emptyPair (s : State) : Option Nat :=
  ((List.range 32).drop 1).map (2 * ·) |>.find? (fun n => s.rd KEY_SLOT_STATE n == 0 && s.rd KEY_SLOT_STATE (n + 1) == 0)
def emptySlot (s : State) : Option Nat := ((List.range 64).drop 2).find? (fun n => s.rd KEY_SLOT_STATE n == 0)

/-- The fresh ephemeral pair of a new entry to SEAL and the OFFER that shows it (R424): the former pair is destroyed. -/
def sessBegin (s : State) (t : Nat) : State :=
  let x := s.sess t
  if !x.offer.isEmpty then s
  else
    let s1 := match x.pair with
      | some n => (s.fwKey 0 (·.keyDestroy n)).1
      | none => s
    let chain := s1.storedChain
    match s1.emptyPair with
    | none => s1
    | some n =>
      let (s2, code) := s1.fwKey (2 ^ useEcdh) (·.keyGen n true)
      if code ≠ 0 || chain.isEmpty then s2
      else
        let (nonce, s3) := s2.free 256
        let o := [0xB1] ++ beBytes 1 chain.length ++ [0, 0] ++ beBytes 32 nonce ++ padTo 96 (p384Public (s3.pairScalar n)) ++ chain.flatten
        s3.setSess t { pair := some n, offer := o, peer := x.peer }

/-- Session messages are exchanged on a trunk in SEAL while firmware runs and the set-up has not failed. -/
def sessRuns (s : State) (t : Nat) : Bool := s.mgmtRuns && s.rd TRK_STAT_STATE t == trkSeal && !(s.sess t).ended

/-- OFFER (R424): at once at an entry to SEAL and every second after, until the partner's PROOF has led to the key. -/
def offerSend (s : State) (t : Nat) : State :=
  if !s.sessRuns t || (s.armed (.offer t) && !s.due (.offer t)) then s
  else
    let s1 := s.sessBegin t
    if (s1.sess t).offer.isEmpty || (s1.sess t).pair.isNone then s1 else (s1.sessSend t (s1.sess t).offer).arm (.offer t) 1000000000

/-- The transcript H: bytes 0–131 of both OFFERs, the lower prefix first (R424). -/
def transcript (s : State) (t : Nat) : List Byte :=
  let a := (s.sess t).offer.take 132
  let b := (s.sess t).peer.take 132
  sha384 (if s.selfPrefix < s.peerPrefix t then a ++ b else b ++ a)

/-- The digest that the PROOF of a prefix signs (R424). -/
def proofDigest (s : State) (t pfx : Nat) : List Byte := sha384 (ascii "KL3-AUTH" ++ s.transcript t ++ beBytes 3 pfx)

/-- An OFFER has the form of R424. -/
def offerGood (b : List Byte) : Bool :=
  let n := (b.getD 1 0).toNat
  b.getD 0 0 == 0xB1 && (n == 2 || n == 3) && ofBe ((b.drop 2).take 2) == 0 && b.length == 132 + 256 * n

/-- A partner's OFFER (R424): its chain is checked, and PROOF or ABORT sent. -/
def offerReceive (s : State) (t : Nat) (b : List Byte) : State :=
  if !s.sessRuns t || !offerGood b then s
  else
    let s1 := s.sessBegin t
    if !s1.chainOk (certsOf (b.getD 1 0).toNat (b.drop 132)) then s1.sessAbort t chainInvalid
    else if (s1.sess t).offer.isEmpty then s1.sessAbort t KeyCode.empty.code
    else
      let s2 := s1.setSess t { s1.sess t with peer := b }
      match s2.pairSource 0 useSign useSign with
      | (s3, .ok) =>
        let (v, s4) := s3.free 384
        s4.sessSend t ([0xB2, 0, 0, 0] ++ padTo 96 (p384Sign (s4.pairScalar 0) (s4.proofDigest t s4.selfPrefix) v))
      | (s3, c) => s3.sessAbort t c.code

/-- The session secret is agreed and loaded (R424). -/
def sessAgree (s : State) (t n : Nat) : State :=
  let peer := ((s.sess t).peer.drop 36).take 96
  match s.emptySlot with
  | none => s.sessAbort t KeyCode.occupied.code
  | some d =>
    if !p384OnCurve peer then s.sessAbort t KeyCode.point.code
    else
      let k := p384Shared (s.pairScalar n) peer
      let s1 := (s.fillSlot d (padTo 32 (kdf k (ascii "KL3-SESSION") (s.transcript t) 256)) (2 ^ useSeal) false).slotsShow
      let s2 := (s1.fwKey 0 (·.keyDestroy n)).1.setSess t { s1.sess t with pair := none }
      s2.sealWrite t (2 ^ 31 + d * 2 ^ 24 + s2.peerPrefix t)

/-- A partner's PROOF (R424). -/
def proofReceive (s : State) (t : Nat) (b : List Byte) : State :=
  let x := s.sess t
  if !s.sessRuns t || x.peer.isEmpty || x.offer.isEmpty || b.length ≠ 100 || b.take 4 ≠ [0xB2, 0, 0, 0] then s
  else if !p384Verify (certKey ((x.peer.drop 132).take 256)) (s.proofDigest t (s.peerPrefix t)) (b.drop 4) then s.sessAbort t KeyCode.badSig.code
  else
    match x.pair with
    | none => s
    | some n =>
      match s.pairSource n useEcdh useEcdh with
      | (s1, .ok) => s1.sessAgree t n
      | (s1, c) => s1.sessAbort t c.code

/-- A partner's ABORT (R424). -/
def abortReceive (s : State) (t : Nat) (b : List Byte) : State :=
  if !s.sessRuns t || b.length ≠ 4 || b.getD 0 0 ≠ 0xB3 then s else s.setSess t { s.sess t with ended := true }

/-! Certification (R444). -/

/-- Certification messages are answered: DEPLOYED, and no stored chain valid. -/
def certifies (s : State) : Bool := s.mgmtRuns && s.lifeCycle == 3 && !s.chainOk s.storedChain

/-- The hub's own device public key, where slot 0 holds it. -/
def devicePublic (s : State) : State × Option (List Byte) :=
  match s.pairSource 0 useSign useEcdh with
  | (s1, .ok) => (s1, some (padTo 96 (p384Public (s1.pairScalar 0))))
  | (s1, _) => (s1, none)

/-- CERTREQ (R444): CERTBODY with the device public key. -/
def certReq (s : State) (src : Nat) (b : List Byte) : State :=
  if !s.certifies || b ≠ [0xC1, 0, 0, 0] then s
  else
    match s.devicePublic with
    | (s1, none) => s1
    | (s1, some k) =>
      s1.sendTunnel0 src ([0xC2, 0, 0, 0] ++ ascii "SCRC" ++ [1, 1, 0, 0] ++ beBytes 8 s1.devId ++ k ++ List.replicate 48 0)

/-- CHAIN (R444): checked, stored at `place`, and acknowledged; `ok`: the flash takes the writes. -/
def chainReceive (s : State) (src : Nat) (b : List Byte) (place : Nat) (ok : Bool) : State :=
  let n := (b.getD 1 0).toNat
  let good := b.getD 0 0 == 0xC3 && (n == 2 || n == 3) && ofBe ((b.drop 2).take 2) == 0 && b.length == 4 + 256 * n
  let certs := certsOf n (b.drop 4)
  let ack (s : State) (c : Nat) : State := s.sendTunnel0 src ([0xC4] ++ beBytes 1 c ++ [0, 0])
  if !s.certifies || !good then s
  else
    match s.devicePublic with
    | (s1, k) =>
      if !s1.chainOk certs || k ≠ some (certKey (certs.headD [])) then ack s1 chainInvalid
      else
        match s1.storeChain place (b.drop 4) with
        | some s2 => if ok then ack s2 0 else ack s1 flashFailed
        | none => ack s1 flashFailed

end State

/-- OFFER_SEND (R424) on trunk `t`. -/
def execOfferSend (t : Fin 4) (s : State) : Host.Outcome State Fault Refusal := .next (s.offerSend t)

/-- OFFER_RECEIVE (R424). -/
def execOfferReceive (t : Fin 4) (bytes : List Byte) (s : State) : Host.Outcome State Fault Refusal := .next (s.offerReceive t bytes)

/-- PROOF_RECEIVE (R424). -/
def execProofReceive (t : Fin 4) (bytes : List Byte) (s : State) : Host.Outcome State Fault Refusal := .next (s.proofReceive t bytes)

/-- ABORT_RECEIVE (R424). -/
def execAbortReceive (t : Fin 4) (bytes : List Byte) (s : State) : Host.Outcome State Fault Refusal := .next (s.abortReceive t bytes)

/-- CERTREQ_RECEIVE (R444) from an address. -/
def execCertreqReceive (src : BitVec 25) (bytes : List Byte) (s : State) : Host.Outcome State Fault Refusal := .next (s.certReq src.toNat bytes)

/-- CHAIN_RECEIVE (R444) from an address; `place`: the free place in flash that firmware chooses; `ok`: the flash takes the writes. -/
def execChainReceive (src : BitVec 25) (bytes : List Byte) (place : Nat) (ok : Bool) (s : State) : Host.Outcome State Fault Refusal :=
  .next (s.chainReceive src.toNat bytes place ok)

end Sys2Proof.Machine
end

