-- ==== Sys2Proof/Machine/PowerEntry.lean ====
section
/-! DEFINITION. Power entry: the feed path, ideal diodes, the USB-C sink switch and the downstream eFuses (spec/18_power_entry.md). -/

namespace Sys2Proof.Machine

/-- States of the path (R457). -/
inductive PathState where
  | unseated | debounce | feedWait | ramp | on | retryWait | latched | off | damaged
  deriving DecidableEq, Repr

/-- The numbers of the states. -/
def PathState.code : PathState → Nat
  | .unseated => 0 | .debounce => 1 | .feedWait => 2 | .ramp => 3 | .on => 4 | .retryWait => 5 | .latched => 6 | .off => 7 | .damaged => 8

/-- Key of HSW_CMD, UPD_CMD, PWR_CMD and GEN_RST (R430, R458). -/
def cmdKey : Nat := 0x5A5A

namespace State

/-- A counter of HSW_CNT advances. -/
def hswCount (s : State) (i : Nat) : State := s.sat HSW_CNT_COUNT i

/-- A write is ignored (R458, R463). -/
def hswReject (s : State) : State := s.wr HSW_STAT_CMDREJ 1

/-- The path is in a state (R457). -/
def pathIs (s : State) (p : PathState) : Bool := s.rd HSW_STAT_STATE == p.code

/-- The pass transistor conducts (R457). -/
def pathConducts (s : State) : Bool := s.pathIs .ramp || s.pathIs .on

/-- A feed is valid. -/
def feedValid (s : State) : Bool := s.on HSW_STAT_FVA || s.on HSW_STAT_FVB

/-- The last measured FEED_C lies below OV (R452, R457). -/
def feedcLow (s : State) : Bool := s.rd HSW_VMEAS1_VC * 2 < s.rd HSW_FEEDCFG_OV * 250

/-- The gate of ideal diode `d` (0 A, 1 B). -/
def setDiode (s : State) (d : Nat) (x : Bool) : State := { s with hsw := { s.hsw with diode := Tab.put s.hsw.diode d x false } }

/-- The outputs that follow the state: PATHGD, the limit flags, the levels "latched off" and "damaged", and SRC with its count (R453 to R461). -/
def pathSettle (s : State) : State :=
  let s1 := if s.pathIs .on then s else s.wr HSW_STAT_PATHGD 0
  let s2 := if s1.pathConducts then s1
    else { (s1.wr HSW_STAT_INLIM 0) with hsw := { s1.hsw with timer := 0, quiet := 0 } }
  let s3 := if s2.pathIs .latched then s2.causeOn 19 0 else s2.causeOff 19
  let src := if s3.pathConducts then 1 else if s3.hsw.sink then 2 else 0
  if s3.rd HSW_STAT_SRC = src then s3 else (s3.wr HSW_STAT_SRC src).hswCount 7

/-- The sink switch closes or opens (R461). -/
def setSink (s : State) (x : Bool) : State := { s with hsw := { s.hsw with sink := x, leak := 0, since := if x then s.hsw.since else 0 } }

/-- `ms` milliseconds have passed in the path's state (R453, R456). -/
def pathRan (s : State) (ms : Nat) : Bool := s.hsw.at_ + 250 * ms ≤ s.hsw.clock

/-- What entering state `p` does to the ramp and the times of the pass transistor: the reference of a ramp starts at the present VOUT (R453); turning off starts the dead time (R461). -/
def gateGo (s : State) (p : PathState) : State :=
  let off := s.pathConducts && p != .ramp && p != .on
  { s with hsw := { s.hsw with at_ := s.hsw.clock, ramp := false, ramped := if p = .ramp then s.rd HSW_VMEAS1_VOUT * 2000 else s.hsw.ramped,
                               since := if off then 0 else s.hsw.since, leak := if off then 0 else s.hsw.leak } }

/-- The path enters a state; a ramp that waits is given up (R457). -/
def pathGo (s : State) (p : PathState) : State := ((s.gateGo p).wr HSW_STAT_STATE p.code).pathSettle

/-- The path would enter RAMP: with the sink switch closed it opens first, and the ramp waits for the dead time (R461). -/
def rampStart (s : State) : State :=
  if s.hsw.sink then ({ s.setSink false with hsw := { (s.setSink false).hsw with ramp := true } }).pathSettle
  else if s.hsw.ramp then s
  else s.pathGo .ramp

/-- 20 µs after the sink switch opened, the ramp begins (R461). -/
def deadTimeEnd (s : State) : State := if s.hsw.ramp && s.hsw.since ≥ 5 then s.pathGo .ramp else s

/-- DEBOUNCE or RETRYWAIT ends: RAMP with a valid feed, else FEEDWAIT (R456, R457). -/
def rampOrWait (s : State) : State := if s.feedValid then s.rampStart else s.pathGo .feedWait

/-- FEEDWAIT ends with a valid feed and FEED_C below OV (R457). -/
def feedWaitEnd (s : State) : State := if s.pathIs .feedWait && s.feedValid && s.feedcLow then s.rampStart else s

/-- Both seating pins have been low for 50 ms (R448). -/
def seated (s : State) : State :=
  let s1 := s.wr HSW_STAT_SEATED 1
  if s1.pathIs .unseated || s1.pathIs .debounce then s1.rampOrWait else s1

/-- Removal (R449). -/
def removal (s : State) : State :=
  if !s.on HSW_STAT_SEATED then s
  else
    let s1 := s.wr HSW_STAT_SEATED 0
    if s1.pathIs .damaged then s1
    else (((((s1.setDiode 0 false).setDiode 1 false).wr HSW_STAT_RETRIES 0).wr HSW_STAT_RMEV 1).hswCount 6).pathGo .unseated

/-- The valid bit and the enable bit of feed `f`. -/
def feedBit (f : Nat) : Field := if f = 0 then HSW_STAT_FVA else HSW_STAT_FVB
def feedEn (f : Nat) : Field := if f = 0 then HSW_CTRL_FAEN else HSW_CTRL_FBEN

/-- One 4 µs sample of feed `f`, code × 2 mV, against the window of HSW_FEEDCFG (R450, R464). -/
def feedSample (s : State) (f v : Nat) : State :=
  let under := v * 2 < s.rd HSW_FEEDCFG_UV * 250
  let inside := !under && v * 2 ≤ s.rd HSW_FEEDCFG_OV * 250
  { s with hsw := { s.hsw with within := Tab.put s.hsw.within f (if inside then Tab.get s.hsw.within f 0 + 1 else 0) 0,
                               low := Tab.put s.hsw.low f (if under then Tab.get s.hsw.low f 0 + 1 else 0) 0 } }

/-- A feed whose samples have stayed within its window for 10 ms becomes valid (R450). -/
def feedGood (s : State) (f : Nat) : State :=
  if s.on (feedEn f) && Tab.get s.hsw.within f 0 ≥ 2500 then ((s.wr (feedBit f) 1).causeOff (17 + f)).feedWaitEnd else s

/-- A valid feed becomes invalid (R450). -/
def feedBad (s : State) (f : Nat) : State :=
  if s.on (feedBit f) then ((s.wr (feedBit f) 0).setDiode f false).causeOn (17 + f) 0 else s

/-- A feed's samples have read below UV for 100 µs (R450). -/
def feedUnder (s : State) (f : Nat) : State := if Tab.get s.hsw.low f 0 ≥ 25 then s.feedBad f else s

/-- The comparator of feed `f` sees `mv` mV (R450); above OV the window is left. -/
def feedOver (s : State) (f mv : Nat) : State :=
  if mv > s.rd HSW_FEEDCFG_OV * 250 then
    ({ s with hsw := { s.hsw with within := Tab.put s.hsw.within f 0 0 } }).feedBad f
  else s

/-- A forward voltage above 50 mV on a valid feed (R451). -/
def diodeOn (s : State) (f : Nat) : State := if s.on (feedBit f) && !s.pathIs .damaged then s.setDiode f true else s

/-- −20 mV or below (R451). -/
def diodeReverse (s : State) (f : Nat) : State :=
  if Tab.get s.hsw.diode f false then ((s.setDiode f false).wr HSW_STAT_REVEV 1).hswCount 2 else s

/-- FEED_C at `mv` mV (R452). -/
def feedcOver (s : State) (mv : Nat) : State :=
  if s.pathConducts && mv > s.rd HSW_FEEDCFG_OV * 250 then ((s.hswCount 3).wr HSW_STAT_OVEV 1).pathGo .feedWait else s

/-- No feed has been valid for 1 ms (R452). -/
def noFeed (s : State) : State := if s.pathConducts && !s.feedValid && s.hsw.unfed ≥ 250 then s.pathGo .feedWait else s

/-- A trip: a retry, or the latch after three (R456). -/
def pathTrip (s : State) : State :=
  if s.rd HSW_STAT_RETRIES < 3 then (s.wr HSW_STAT_RETRIES (s.rd HSW_STAT_RETRIES + 1)).pathGo .retryWait
  else (s.wr HSW_STAT_LATCHEV 1).pathGo .latched

/-! Limits and thresholds (R454, R463). -/

/-- Gain and offset in use for a channel: nominal before the calibration rows are loaded (R463, R465). -/
def csGain (s : State) (k : Nat) : Int := if s.rd HSW_CAL_GAIN k = 0 then 32768 else s.rd HSW_CAL_GAIN k
def csOffset (s : State) (k : Nat) : Int := if s.rd HSW_CAL_GAIN k = 0 then 0 else signedOf 16 (s.rd HSW_CAL_OFFSET k)

/-- The effective limit (R454), mA. -/
def effLimit (s : State) : Nat :=
  let vds := max 1 (2 * s.rd HSW_VMEAS1_VC - 2 * s.rd HSW_VMEAS1_VOUT)
  let i := s.rd HSW_LIMIT_ILIM * 10
  min i (max (i / 16) (s.rd HSW_LIMIT_PLIM * 100000 / vds))

/-- The raw threshold of channel 0 for a current of `i` mA (R463). -/
def rawThreshold (s : State) (i : Nat) : Int :=
  s.csOffset 0 + divZ ((i : Int) * s.rd HSW_SHUNT_SHUNT 0 * 32768) (s.csGain 0 * 12500)

/-- Both thresholds recomputed (R463). -/
def limitsShow (s : State) : State :=
  (s.wr HSW_THR_LIMTHR (codeOf 16 (s.rawThreshold s.effLimit))).wr HSW_THR_FTTHR
    (codeOf 16 (s.rawThreshold (2 * (s.rd HSW_LIMIT_ILIM * 10))))

/-- The current that a raw code stands for (R463). -/
def rawCurrent (s : State) (k : Nat) (raw : Int) : Int :=
  if s.rd HSW_SHUNT_SHUNT k = 0 then 0
  else max (-32767) (min 32767 (divZ ((raw - s.csOffset k) * s.csGain k * 12500) (32768 * (s.rd HSW_SHUNT_SHUNT k : Int))))

/-- The mean of the last 256 samples of each channel (R463). -/
def showCurrents (s : State) (raw : List (BitVec 14)) : State :=
  s.each (raw.take 8).zipIdx (fun s x =>
    let v := signedOf 14 x.1.toNat
    (s.wr HSW_MEAS_I (codeOf 16 (s.rawCurrent x.2 v)) x.2).wr HSW_MEAS_RAW (codeOf 16 v) x.2)

/-- A sign that the pass transistor, commanded off, conducts (R460). -/
def passLeaks (s : State) : Bool :=
  !s.pathConducts && !s.pathIs .damaged &&
    (if s.hsw.sink then decide (signedOf 16 (s.rd HSW_MEAS_I 0) > s.rd HSW_LIMIT_ILIM * 10 / 16) else s.rd HSW_VMEAS1_VOUT * 2 > 1000)

/-- The times that pass in 4 µs: the always-on clock, the time without a valid feed, dead time, sign of damage, and the reference of a ramp at DVDT × 0.1 V/ms (R453, R460, R461). -/
def hswPeriod (s : State) : State :=
  { s with hsw := { s.hsw with clock := s.hsw.clock + 1, unfed := if s.feedValid then 0 else s.hsw.unfed + 1, since := min 5 (s.hsw.since + 1), leak := if s.passLeaks then s.hsw.leak + 1 else 0,
                               ramped := if s.pathIs .ramp then s.hsw.ramped + s.rd HSW_CTRL_DVDT * 400 else s.hsw.ramped } }

/-- The voltage, mV, to which the pass transistor regulates VOUT: in RAMP the reference, and none in other states (R453). -/
def rampTarget (s : State) : Option Nat := if s.pathIs .ramp then some (s.hsw.ramped / 1000) else none

/-- VOUT has reached FEED_C − 500 mV (R453). -/
def rampEnd (s : State) : State :=
  if s.pathIs .ramp && s.rd HSW_VMEAS1_VOUT * 2 + 500 ≥ s.rd HSW_VMEAS1_VC * 2 then s.pathGo .on else s

/-- One 4 µs period: the samples are shown, the limit recomputed, and the fault timer counts while the current is held (R454, R464). -/
def limitStep (s : State) (va vb vc vout : Nat) (raw : List (BitVec 14)) (held : Bool) : State :=
  let s0 := (((s.wr HSW_VMEAS0_VA va).wr HSW_VMEAS0_VB vb).wr HSW_VMEAS1_VC vc).wr HSW_VMEAS1_VOUT vout
  let s1 := (s0.feedSample 0 va).feedSample 1 vb
  let s2 := (s1.showCurrents (raw.take 8)).limitsShow.hswPeriod
  let s3 := if s2.pathConducts then
      let q := if held then 0 else s2.hsw.quiet + 1
      let t := if held then s2.hsw.timer + 1 else if q ≥ 250 then 0 else s2.hsw.timer
      { (s2.wr HSW_STAT_INLIM (bit held)) with hsw := { s2.hsw with timer := t, quiet := q } }
    else s2
  s3.feedWaitEnd

/-- The fault timer has reached TFLT (R454). -/
def timerTrip (s : State) : State :=
  if s.pathConducts && s.hsw.timer ≥ 250 * s.rd HSW_CTRL_TFLT then
    ((((s.wr HSW_STAT_TRIPEV 1).hswCount 0).fault 16 0)).pathTrip
  else s

/-- The comparator on shunt 0 sees raw code `raw` (R455). -/
def fastTrip (s : State) (raw : Int) : State :=
  if s.pathConducts && raw > signedOf 16 (s.rd HSW_THR_FTTHR) then ((((s.wr HSW_STAT_FTEV 1).hswCount 1).fault 16 1)).pathTrip else s

/-- 1 s in RETRYWAIT has passed (R456). -/
def retryEnd (s : State) : State := if s.pathIs .retryWait && s.pathRan 1000 && !s.hsw.ramp then (s.hswCount 4).rampOrWait else s

/-- 10 s in ON have passed (R456). -/
def retryReset (s : State) : State := if s.pathIs .on && s.pathRan 10000 then s.wr HSW_STAT_RETRIES 0 else s

/-- A write of HSW_CMD (R458). -/
def hswCmdWrite (s : State) (w : Nat) : State :=
  let off := w.testBit 31
  let on_ := w.testBit 30
  if bitsOf w 15 0 ≠ cmdKey || (off && on_) then s.hswReject
  else if off then
    if s.on FLT_STAT_ELYTRA then s.hswReject else if s.pathIs .damaged then s else s.pathGo .off
  else if on_ && s.pathIs .off then s.pathGo .debounce
  else s

/-- CLRLATCH (R457). -/
def clearLatch (s : State) : State := if s.pathIs .latched then (s.wr HSW_STAT_RETRIES 0).pathGo .debounce else s

/-- VOUT or current has persisted for 10 ms with the transistor commanded off (R460). -/
def passDamaged (s : State) : State :=
  if s.pathConducts || s.pathIs .damaged || s.hsw.leak < 2500 then s
  else (((((s.setDiode 0 false).setDiode 1 false).wr HSW_STAT_DAMEV 1).pathGo .damaged)).causeOn 20 0

/-- VBUS exceeds VOUT by more than 50 mV (R451, R461). -/
def vbusAhead (s : State) : Bool := s.rd UPD_VBUS_V * 20 > s.rd HSW_VMEAS1_VOUT * 2 + 50

/-- The USB-C sink switch closes (R461). -/
def sinkClose (s : State) : State :=
  if s.on HSW_CTRL_USBCEN && s.on UPD_STAT_SNKVALID && !s.pathConducts && !s.hsw.ramp && s.hsw.since ≥ 5 && s.vbusAhead then
    (s.setSink true).pathSettle
  else s

/-- The output discharge is driven: the transistor commanded off and the sink switch open (R460). -/
def discharging (s : State) : Bool := !s.pathConducts && !s.pathIs .damaged && !s.hsw.sink

/-- PWRFLT_N is low (R460). -/
def powerFault (s : State) : Bool := s.pathIs .damaged || s.pathIs .latched

/-- The USB-C sink switch opens; `reverse`: its ideal-diode control turned it off (R451, R461). -/
def sinkOpen (s : State) (reverse : Bool) : State :=
  if s.hsw.sink then
    let s1 := (s.setSink false).pathSettle
    if reverse then (s1.wr HSW_STAT_REVEV 1).hswCount 2 else s1
  else s

/-- A write of HSW_LIMIT or HSW_SHUNT0 (R458, R463). -/
def limitWrite (s : State) (shunt : Bool) (w : Nat) : State :=
  let v := bitsOf w 19 0
  if s.on FLT_STAT_ELYTRA then s.hswReject
  else if shunt && !(100 ≤ v && v ≤ 1000000) then s.hswReject
  else
    let s1 := s.writeReg (if shunt then 0x30020 else 0x30008) w
    if s1.rawThreshold (2 * (s1.rd HSW_LIMIT_ILIM * 10)) > 8191 then s.hswReject else s1.limitsShow

/-- A write of HSW_SHUNTk for k = 1, 2 (R463). -/
def shuntWrite (s : State) (k w : Nat) : State :=
  let v := bitsOf w 19 0
  if k > 2 then s
  else if !(v = 0 || (100 ≤ v && v ≤ 1000000)) then s.hswReject
  else s.writeReg (0x30020 + 4 * k) w

/-- A write of HSW_FEEDCFG (R465): neither the written window nor the one that would stand may have OV below UV + 8. -/
def feedCfgWrite (s : State) (w : Nat) : State :=
  let s1 := s.writeReg 0x3000C w
  if s.on HSW_CTRL_LOCK then s
  else if bitsOf w 8 0 < bitsOf w 24 16 + 8 || s1.rd HSW_FEEDCFG_OV < s1.rd HSW_FEEDCFG_UV + 8 then s.hswReject
  else s1

/-- A feed that is disabled is not valid (R450). -/
def feedDisabled (s : State) (f : Nat) : State :=
  if s.on (feedEn f) then s else ((s.wr (feedBit f) 0).setDiode f false).causeOff (17 + f)

/-- A write of HSW_CTRL (R450, R457, R461). -/
def hswCtrlWrite (s : State) (w : Nat) : State :=
  let s1 := ((s.writeReg 0x30000 w).feedDisabled 0).feedDisabled 1
  let s2 := if s1.on HSW_CTRL_USBCEN then s1 else s1.sinkOpen false
  if w.testBit 27 then s2.clearLatch else s2

/-- The calibration rows are loaded (R441, R463, R465). -/
def hswCalLoad (s : State) : State :=
  (s.each (List.range 8) (fun s k =>
    let r := s.fuse (0x89 + k)
    if r / 2 ^ 16 = 0 then ((s.wr HSW_CAL_GAIN 32768 k).wr HSW_CAL_OFFSET 0 k).wr HSW_STAT_CALDEF 1
    else (s.wr HSW_CAL_GAIN (r / 2 ^ 16) k).wr HSW_CAL_OFFSET r k)).limitsShow

/-! Downstream eFuses (R462). -/

/-- The limit of the eFuse of port `n` (1–4), mA (R462). -/
def efuseLimit (s : State) (n : Nat) : Nat :=
  25 * s.rd (match n with | 1 => HSW_EFCFG_ILIMP0 | 2 => HSW_EFCFG_ILIMP1 | 3 => HSW_EFCFG_ILIMP2 | _ => HSW_EFCFG_ILIMP3)

/-- An eFuse of port `n` (1–4) trips: `kind` 1 limit, 2 fast, 3 thermal. -/
def efuseTrip (s : State) (n kind : Nat) : State :=
  let F : Field := match n, kind with
    | 1, 1 => HSW_EFSTAT_OC0 | 1, 2 => HSW_EFSTAT_FT0 | 1, _ => HSW_EFSTAT_THERM0
    | 2, 1 => HSW_EFSTAT_OC1 | 2, 2 => HSW_EFSTAT_FT1 | 2, _ => HSW_EFSTAT_THERM1
    | 3, 1 => HSW_EFSTAT_OC2 | 3, 2 => HSW_EFSTAT_FT2 | 3, _ => HSW_EFSTAT_THERM2
    | _, 1 => HSW_EFSTAT_OC3 | _, 2 => HSW_EFSTAT_FT3 | _, _ => HSW_EFSTAT_THERM3
  if s.on (efuseOn n) then (((s.wr F 1).hswCount 5).fault (20 + n) kind).portTrip n else s

/-- Writes of HSW registers that do more than store their fields. -/
def hswWrite (s : State) (off w : Nat) : Option State :=
  let o := off - 0x30000
  if off < 0x30000 || off ≥ 0x40000 then none
  else if o = 0 then some (s.hswCtrlWrite w)
  else if o = 8 then some (s.limitWrite false w)
  else if o = 0xC then some (s.feedCfgWrite w)
  else if o = 0x10 then some (s.hswCmdWrite w)
  else if o = 0x20 then some (s.limitWrite true w)
  else if 0x20 < o && o < 0x40 && o % 4 = 0 then some (s.shuntWrite ((o - 0x20) / 4) w)
  else if o = 0xC0 then some (s.each (List.range 8) (fun s i => if w.testBit i then s.wr HSW_CNT_COUNT 0 i else s))
  else none

end State

/-- SEAT_DEBOUNCE_COMPLETE (R448). -/
def execSeatDebounceComplete (s : State) : Host.Outcome State Fault Refusal := .next s.seated

/-- REMOVAL (R449). -/
def execRemoval (s : State) : Host.Outcome State Fault Refusal := .next s.removal

/-- FEED_VALID (R450) of feed `f` (0 A, 1 B). -/
def execFeedValid (f : Fin 2) (s : State) : Host.Outcome State Fault Refusal := .next (s.feedGood f)

/-- FEED_UNDERVOLTAGE (R450). -/
def execFeedUndervoltage (f : Fin 2) (s : State) : Host.Outcome State Fault Refusal := .next (s.feedUnder f)

/-- FEED_OVERVOLTAGE (R450): feed `f` at `mv` mV. -/
def execFeedOvervoltage (f : Fin 2) (mv : BitVec 17) (s : State) : Host.Outcome State Fault Refusal := .next (s.feedOver f mv.toNat)

/-- IDEAL_DIODE_ON (R451). -/
def execIdealDiodeOn (f : Fin 2) (s : State) : Host.Outcome State Fault Refusal := .next (s.diodeOn f)

/-- IDEAL_DIODE_REVERSE_OFF (R451). -/
def execIdealDiodeReverseOff (f : Fin 2) (s : State) : Host.Outcome State Fault Refusal := .next (s.diodeReverse f)

/-- FEEDC_OVERVOLTAGE (R452): FEED_C at `mv` mV. -/
def execFeedcOvervoltage (mv : BitVec 17) (s : State) : Host.Outcome State Fault Refusal := .next (s.feedcOver mv.toNat)

/-- NO_FEED (R452). -/
def execNoFeed (s : State) : Host.Outcome State Fault Refusal := .next s.noFeed

/-- RAMP_END (R453). -/
def execRampEnd (s : State) : Host.Outcome State Fault Refusal := .next s.rampEnd

/-- FAULT_TIMER_TRIP (R454). -/
def execFaultTimerTrip (s : State) : Host.Outcome State Fault Refusal := .next s.timerTrip

/-- FAST_TRIP (R455): the raw code of channel 0 that the comparator sees. -/
def execFastTrip (raw : BitVec 14) (s : State) : Host.Outcome State Fault Refusal := .next (s.fastTrip (signedOf 14 raw.toNat))

/-- RETRY_EXPIRY (R456). -/
def execRetryExpiry (s : State) : Host.Outcome State Fault Refusal := .next s.retryEnd

/-- RETRY_RESET (R456). -/
def execRetryReset (s : State) : Host.Outcome State Fault Refusal := .next s.retryReset

/-- PATH_OFF_COMMAND (R458): `w`, with OFF = 1, written to HSW_CMD. -/
def execPathOffCommand (w : Word) (s : State) : Host.Outcome State Fault Refusal := .next (s.hswCmdWrite w.toNat)

/-- PATH_ON_COMMAND (R458): `w`, with ON = 1, written to HSW_CMD. -/
def execPathOnCommand (w : Word) (s : State) : Host.Outcome State Fault Refusal := .next (s.hswCmdWrite w.toNat)

/-- CLEAR_LATCH (R457). -/
def execClearLatch (s : State) : Host.Outcome State Fault Refusal := .next s.clearLatch

/-- PASS_DAMAGED (R460). -/
def execPassDamaged (s : State) : Host.Outcome State Fault Refusal := .next s.passDamaged

/-- SINK_SWITCH_CLOSE (R461). -/
def execSinkSwitchClose (s : State) : Host.Outcome State Fault Refusal := .next s.sinkClose

/-- SINK_SWITCH_OPEN (R461). -/
def execSinkSwitchOpen (reverse : Bool) (s : State) : Host.Outcome State Fault Refusal := .next (s.sinkOpen reverse)

/-- SINK_DEAD_TIME_EXPIRY (R461). -/
def execSinkDeadTimeExpiry (s : State) : Host.Outcome State Fault Refusal := .next s.deadTimeEnd

/-- LIMIT_WRITE (R463): `w` written to HSW_LIMIT or, with `shunt`, to HSW_SHUNT0. -/
def execLimitWrite (shunt : Bool) (w : Word) (s : State) : Host.Outcome State Fault Refusal := .next (s.limitWrite shunt w.toNat)

/-- EFUSE_LIMIT_TRIP (R462) of port `n` + 1: its current has stood at `ma` mA for 2 ms. -/
def execEfuseLimitTrip (n : Fin 4) (ma : BitVec 12) (s : State) : Host.Outcome State Fault Refusal :=
  .next (if ma.toNat ≥ s.efuseLimit (n + 1) then s.efuseTrip (n + 1) 1 else s)

/-- EFUSE_FAST_TRIP (R462) at `ma` mA. -/
def execEfuseFastTrip (n : Fin 4) (ma : BitVec 12) (s : State) : Host.Outcome State Fault Refusal :=
  .next (if ma.toNat > 2 * s.efuseLimit (n + 1) then s.efuseTrip (n + 1) 2 else s)

/-- EFUSE_THERMAL_TRIP (R462). -/
def execEfuseThermalTrip (n : Fin 4) (s : State) : Host.Outcome State Fault Refusal := .next (s.efuseTrip (n + 1) 3)

end Sys2Proof.Machine
end

