-- ==== Sys2Proof/Machine/Upd.lean ====
section
/-! DEFINITION. The USB-C port: attach, power contracts, role swaps, hard reset and alternate modes (spec/19_usb_c_power.md). -/

namespace Sys2Proof.Machine

/-- Attach states (R467). -/
inductive AttState where
  | unattached | wait | try_ | snk | src | errrec | disabled
  deriving DecidableEq, Repr

/-- The numbers of the states. -/
def AttState.code : AttState → Nat
  | .unattached => 0 | .wait => 1 | .try_ => 2 | .snk => 3 | .src => 4 | .errrec => 5 | .disabled => 6

/-- Codes of CMDCODE (R486). -/
inductive PdCode where
  | ok | busy | rejected | wait | notSupp | timeout | collision | refused | hreset
  deriving DecidableEq, Repr

/-- The numbers of the codes. -/
def PdCode.code : PdCode → Nat
  | .ok => 0 | .busy => 1 | .rejected => 2 | .wait => 3 | .notSupp => 4 | .timeout => 5 | .collision => 6 | .refused => 7 | .hreset => 8

/-- A power data object as R471 and R472 read it: kind (0 fixed, 3 APDO, others as they are), lowest and highest voltage in mV, current in mA (log entry 45). -/
structure Pdo where
  kind : Nat := 0
  vmin : Nat := 0
  vmax : Nat := 0
  i : Nat := 0
  deriving DecidableEq, Repr, Inhabited

/-- The object that a word spells. -/
def pdoOf (w : Nat) : Pdo :=
  match bitsOf w 31 30 with
  | 0 => { kind := 0, vmin := bitsOf w 19 10 * 50, vmax := bitsOf w 19 10 * 50, i := bitsOf w 9 0 * 10 }
  | 3 => { kind := 3, vmin := bitsOf w 15 8 * 100, vmax := bitsOf w 24 17 * 100, i := bitsOf w 6 0 * 50 }
  | k => { kind := k, vmin := bitsOf w 19 10 * 50, vmax := bitsOf w 29 20 * 50, i := if k = 2 then bitsOf w 9 0 * 10 else 0 }

/-- The checks of R471 on Source_Capabilities. -/
def capsOk (objs : List Nat) : Bool :=
  let l := objs.map pdoOf
  let first : Pdo := l.getD 0 {}
  1 ≤ objs.length && objs.length ≤ 7 && first.kind = 0 && first.vmin = 5000 &&
    l.all (fun o => (o.kind != 0 || o.vmax ≤ 20000) && (o.kind != 3 || (3300 ≤ o.vmin && o.vmax ≤ 21000)) && o.i ≤ 5000)

/-- A Request of a fixed object (R472): USB Communications Capable and No USB Suspend set. -/
def fixedReq (pos v i : Nat) (mismatch : Bool) : PdReq :=
  { w := pos * 2 ^ 28 + bit mismatch * 2 ^ 26 + 0x3000000 + i / 10 * 2 ^ 10 + i / 10, pos := pos, v := v / 20, i := i / 50 }

/-- A Request of an APDO at `v` × 20 mV and `i` × 50 mA (R472). -/
def ppsReq (pos v i : Nat) : PdReq :=
  { w := pos * 2 ^ 28 + 0x3000000 + v * 2 ^ 9 + i, pos := pos, pps := true, v := v, i := i }

/-- The object of highest v × i, the lower position winning a tie (R472). -/
def bestFixed : List (Pdo × Nat) → Option (Pdo × Nat)
  | [] => none
  | o :: l =>
    match bestFixed l with
    | none => some o
    | some p => if o.1.vmin * o.1.i ≥ p.1.vmin * p.1.i then some o else some p

/-- An APDO covers a voltage (20 mV) and a current (50 mA). -/
def apdoCovers (o : Pdo) (v i : Nat) : Bool := o.kind = 3 && o.vmin ≤ v * 20 && v * 20 ≤ o.vmax && i * 50 ≤ o.i

namespace State

/-- The port's state beside its registers, replaced. -/
def setUpd (s : State) (f : Upd → Upd) : State := { s with upd := f s.upd }

/-- Start `k` of a wait is now: 0 a message sent, 1 an answer awaited, 2 a mode entry, 3 a command, 4 a stage of attach, 5 a contract, 6 the toggle, 7 a Wait received. -/
def stampUpd (s : State) (k : Nat) : State := s.setUpd (fun u => { u with stamp := Tab.put u.stamp k s.hsw.clock 0 })

/-- `ms` milliseconds have passed since start `k`, in the always-on logic's periods of 4 µs (log entry 72). -/
def updRan (s : State) (k ms : Nat) : Bool := Tab.get s.upd.stamp k 0 + 250 * ms ≤ s.hsw.clock

/-- A new event of the port: nothing sent yet. -/
def updEvent (s : State) : State := s.setUpd (fun u => { u with out := [] })

/-- The hub sends a message. -/
def pdSend (s : State) (m : PdMsg) : State := (s.setUpd (fun u => { u with out := u.out ++ [m], tries := 0 })).stampUpd 0

/-- The port waits for something. -/
def pdWait (s : State) (w : PdWait) : State := (s.setUpd (fun u => { u with wait := w })).stampUpd 1

/-- A counter of UPD_CNT advances. -/
def updCount (s : State) (i : Nat) : State := s.sat UPD_CNT_COUNT i

/-- REJEV (R486). -/
def updReject (s : State) : State := s.wr UPD_STAT_REJEV 1

/-- The port is in an attach state. -/
def attIs (s : State) (a : AttState) : Bool := s.rd UPD_STAT_STATE == a.code

/-- The port is attached. -/
def attached (s : State) : Bool := s.attIs .snk || s.attIs .src

/-- The always-on logic runs from VBUS alone (R466): no feed voltage is measured and VBUS is (log entry 46). -/
def vbusAlone (s : State) : Bool :=
  s.rd HSW_VMEAS0_VA == 0 && s.rd HSW_VMEAS0_VB == 0 && s.rd UPD_VBUS_V != 0

/-- The hub sends PD messages (R466). -/
def pdOn (s : State) : Bool := s.on UPD_CTRL_EN && !s.vbusAlone

/-- The dual-role toggle runs (R466). -/
def toggles (s : State) : Bool := s.rd UPD_CTRL_POWER == 2 && s.pathIs .on && s.pdOn

/-- The hub presents Rp while it is not attached (R466). -/
def presentsRp (s : State) : Bool :=
  s.pdOn && s.pathIs .on && (s.rd UPD_CTRL_POWER == 1 || (s.rd UPD_CTRL_POWER == 2 && s.upd.rp))

/-- The sink sees SinkTxOk (R469). -/
def txOk (s : State) : Bool := s.on UPD_STAT_PROLE || s.rd UPD_STAT_RPCUR == 2

/-- An exchange runs. -/
def exchange (s : State) : Bool := s.upd.wait != .none || s.upd.vdm != .none

/-! The valid sink contract (R473). -/

/-- VBUS lies within the contracted voltage's band. -/
def inBand (s : State) (v : Nat) (pps : Bool) : Bool :=
  let d := max (s.rd UPD_VBUS_V) v - min (s.rd UPD_VBUS_V) v
  d * 20 ≤ v + (if pps then 20 else 0)

/-- A contracted voltage lies within VMIN–VMAX. -/
def inWindow (s : State) (v : Nat) : Bool := s.rd UPD_SNKCFG_VMIN ≤ v && v ≤ s.rd UPD_SNKCFG_VMAX

/-- Every condition of R473 holds. -/
def sinkContract (s : State) : Bool :=
  s.attIs .snk &&
    (if s.on UPD_CONTRACT_VALID then
      s.inWindow (s.rd UPD_CONTRACT_V) && s.inBand (s.rd UPD_CONTRACT_V) (s.on UPD_CONTRACT_PPS)
    else s.upd.nonPd && (s.rd UPD_STAT_RPCUR == 1 || s.rd UPD_STAT_RPCUR == 2) && s.inWindow 250 && s.inBand 250 false)

/-- SNKVALID follows its conditions; the sink switch opens as it falls (R461, R473). -/
def sinkShow (s : State) : State :=
  let v := s.sinkContract
  let s1 := s.wr UPD_STAT_SNKVALID (bit v)
  if v then s1 else s1.sinkOpen false

/-- The contract ends. -/
def contractEnd (s : State) : State :=
  let s1 := if s.on UPD_CONTRACT_VALID then s.wr UPD_STAT_CONTEV 1 else s
  (((((s1.wr UPD_CONTRACT_VALID 0).wr UPD_CONTRACT_PPS 0).wr UPD_CONTRACT_POS 0).wr UPD_CONTRACT_V 0).wr UPD_CONTRACT_I 0).setUpd
    (fun u => { u with again := false, keep := false })

/-- An explicit contract comes into force. -/
def contractSet (s : State) (pos : Nat) (pps : Bool) (v i : Nat) : State :=
  let same := s.on UPD_CONTRACT_VALID && s.rd UPD_CONTRACT_POS == pos && s.on UPD_CONTRACT_PPS == pps &&
    s.rd UPD_CONTRACT_V == v && s.rd UPD_CONTRACT_I == i
  let s1 := if same then s else s.wr UPD_STAT_CONTEV 1
  (((((s1.wr UPD_CONTRACT_VALID 1).wr UPD_CONTRACT_PPS (bit pps)).wr UPD_CONTRACT_POS pos).wr UPD_CONTRACT_V v).wr UPD_CONTRACT_I i).stampUpd 5

/-! Alternate modes (R480 to R484). -/

/-- RATE of the USB-C lanes as the alternate-mode state sets it: 6 in DisplayPort mode, else the trunk rate 1 (R119). -/
def usbcRates (s : State) : State :=
  s.each [24, 25, 26, 27] (fun s n => s.laneRate n (if s.rd UPD_ALTSTAT_MODE = 1 then 6 else 1))

/-- TRK3 takes up the lanes that serve it now, with their latencies, and trains afresh (R31, R91, R484). -/
def trunkMoved (s : State) : State :=
  let s1 := s.latencyConfig 3
  if s1.rd TRK_STAT_STATE 3 = trkDisabled then s1.each (List.range 28) lanePower else s1.backToBond 3 .config

/-- A mode is entered: its number, pin assignment, and whether the multiplexer switches now. -/
def modeEnter (s : State) (mode pin : Nat) (mux : Bool) : State :=
  let s1 := (((s.wr UPD_ALTSTAT_MODE mode).wr UPD_ALTSTAT_PIN pin).wr UPD_ALTSTAT_MUX (bit mux)).wr UPD_STAT_ALTEV 1
  let s2 := s1.usbcRates
  if mode = 2 then s2.trunkMoved else s2

/-- The mode ends: the multiplexer opens, TRK3 returns to its lanes, the display link goes (R482, R484). -/
def modeEnd (s : State) : State :=
  let m := s.rd UPD_ALTSTAT_MODE
  let s1 := s.setUpd (fun u => { u with vdm := .none })
  if m = 0 then s1
  else
    let s2 := (((((s1.wr UPD_ALTSTAT_MODE 0).wr UPD_ALTSTAT_PIN 0).wr UPD_ALTSTAT_MUX 0).wr UPD_ALTSTAT_HPD 0).wr UPD_STAT_ALTEV 1).usbcRates
    if m = 2 then s2.trunkMoved else s2.hpdLow

/-- The mode ends by the hub's own act; as DFP it sends Exit Mode. -/
def modeLeave (s : State) : State :=
  if s.rd UPD_ALTSTAT_MODE = 0 then s
  else if s.on UPD_STAT_DROLE && s.pdOn then s.modeEnd.pdSend .exitMode else s.modeEnd

/-- The hub's own AVAIL (R484). -/
def ownAvail (s : State) : Bool := s.on UPD_ALT_TRKEN && !s.on TRK_CTRL_RING 3

/-- The hub's own Mode VDO. -/
def ownVdo (s : State) : Nat := 0x10000000 + bit s.ownAvail

/-! The end of an exchange, and what waits for it. -/

/-- The command in progress ends with a code. -/
def updCmdEnd (s : State) (c : PdCode) : State :=
  if s.upd.run = none then s
  else
    let s1 := (s.wr UPD_STAT_CMDCODE c.code).setUpd (fun u => { u with run := none })
    if s1.upd.cmd = none then s1.wr UPD_STAT_CMDBUSY 0 else s1

/-- The objects that the hub offers (R475). -/
def offers (s : State) : List (Bool × Nat × Nat) :=
  let i := s.rd UPD_SRCCFG_IMAX
  [(false, 250, i)] ++ (if s.on UPD_SRCCFG_F9 then [(false, 450, i)] else []) ++
    (if s.on UPD_SRCCFG_F15 then [(false, 750, i)] else []) ++ (if s.on UPD_SRCCFG_F20 then [(false, 1000, i)] else []) ++
    (if s.on UPD_SRCCFG_PPSEN then [(true, s.rd UPD_SRCCFG_PPSVMAX, i)] else [])

/-- Source_Capabilities are sent. -/
def capsSend (s : State) : State :=
  if s.pdOn then ((s.setUpd (fun u => { u with keep := false })).pdSend (.sourceCaps s.offers)).pdWait .offer else s

/-- A Request is sent. -/
def requestSend (s : State) (r : PdReq) : State :=
  ((s.setUpd (fun u => { u with req := r, again := false, keep := false })).pdSend (.request r.w)).pdWait .request

/-- A command begins (R478, R482). -/
def cmdBegin (s : State) (k : Nat) (hard : State → State) : State :=
  let s1 := s.setUpd (fun u => { u with cmd := none, run := some k })
  if !s.attached || !s.on UPD_STAT_PD then s1.updCmdEnd .refused
  else match k with
    | 31 =>
      if !s.on UPD_CTRL_PRSWAP || (!s.on UPD_STAT_PROLE && !s.pathIs .on) then s1.updCmdEnd .refused
      else (s1.pdSend .prSwap).pdWait .prSwap
    | 30 => if !s.on UPD_CTRL_DRSWAP then s1.updCmdEnd .refused else (s1.modeLeave.pdSend .drSwap).pdWait .drSwap
    | 29 => hard (s1.updCmdEnd .ok)
    | _ => (s1.modeLeave).updCmdEnd .ok

/-! Detach and hard reset. -/

/-- Everything that an attachment carries ends. -/
def portClear (s : State) : State :=
  let s1 := s.modeEnd.contractEnd
  let s2 := s1.setUpd (fun u =>
    { u with wait := .none, vdm := .none, seen := none, src := false, vbusOn := false, ref := 0, caps := [], req := {}, tries := 0,
             noCaps := 0, nonPd := false, again := false, keep := false })
  let s3 := ((((s2.wr UPD_STAT_PROLE 0).wr UPD_STAT_DROLE 0).wr UPD_STAT_PD 0).wr UPD_STAT_ORIENT 0).wr UPD_STAT_RPCUR 0
  if s3.on UPD_STAT_CMDBUSY then
    ((s3.wrFree UPD_STAT_CMDCODE).wr UPD_STAT_CMDBUSY 0).setUpd (fun u => { u with cmd := none, run := none })
  else s3

/-- The port leaves ATTACHED, or any state, for `a` (R467). -/
def detachTo (s : State) (a : AttState) : State :=
  let was := s.attached
  let s1 := (s.portClear.wr UPD_STAT_STATE a.code).stampUpd 4
  (if was then (s1.wr UPD_STAT_DETEV 1).updCount 6 else s1).sinkShow

/-- The hub turns to its attach roles after a hard reset (R479). -/
def attachRoles (s : State) : State :=
  let r := s.upd.src
  ((((s.wr UPD_STAT_PROLE (bit r)).wr UPD_STAT_DROLE (bit r)).wr UPD_STAT_STATE (if r then AttState.src.code else AttState.snk.code)).setUpd
    (fun u => { u with vdm := .none, vbusOn := false, ref := 0, tries := 0 })).pdWait (if r then .recover else .safe0)

/-- Ten seconds in periods of 4 µs. -/
def tenSeconds : Nat := 2500000

/-- Hard_Reset, sent or received (R479). -/
def hardReset (s : State) : State :=
  let now := s.hsw.clock
  let s1 := (((s.updCount 0).wr UPD_STAT_HRSTEV 1).fault 26 0).setUpd
    (fun u => { u with resets := now :: u.resets.filter (fun t => now < t + tenSeconds) })
  let s2 := s1.modeEnd.contractEnd.attachRoles
  let s3 := if s2.on UPD_STAT_CMDBUSY then
      ((s2.wr UPD_STAT_CMDCODE PdCode.hreset.code).wr UPD_STAT_CMDBUSY 0).setUpd (fun u => { u with cmd := none, run := none })
    else s2
  if s3.upd.resets.length ≥ 3 then (s3.setUpd (fun u => { u with resets := [] })).detachTo .errrec else s3.sinkShow

/-- The hub sends Hard_Reset. -/
def hardResetSend (s : State) : State := if s.attached && s.pdOn then (s.pdSend .hardReset).hardReset else s

/-- What waits for the end of an exchange begins: a command first, then a due Request (R474, R479). -/
def updSettle (s : State) : State :=
  if s.exchange || !s.txOk then s
  else match s.upd.cmd with
    | some k => s.cmdBegin k hardResetSend
    | none =>
      if !s.upd.keep then s
      else if s.attIs .snk then s.requestSend s.upd.req
      else if s.attIs .src then s.capsSend
      else s

/-- The exchange ends. -/
def exchangeEnd (s : State) : State := (s.pdWait .none).updSettle

/-! Attach (R466 to R468). -/

/-- Entry to ATTACHED in a role (R467, R468). -/
def attachAs (s : State) (src : Bool) : State :=
  let seen := s.upd.seen.getD (false, !src, 0)
  let s1 := ((((s.wr UPD_STAT_STATE (if src then AttState.src.code else AttState.snk.code)).wr UPD_STAT_ORIENT (bit seen.1)).wr
    UPD_STAT_PROLE (bit src)).wr UPD_STAT_DROLE (bit src)).wr UPD_STAT_ATTEV 1
  let s2 := s1.setUpd (fun u => { u with src := src, vbusOn := src, ref := if src then 250 else 0, noCaps := 0, nonPd := false })
  if src then s2.capsSend
  else
    let s3 := s2.wr UPD_STAT_RPCUR (if seen.2.1 then seen.2.2 else 3)
    (if s3.pdOn then s3.pdWait .caps else s3.setUpd (fun u => { u with nonPd := true })).sinkShow

/-- A termination on a CC pin (R467): another one, or another pin, restarts the 150 ms. -/
def termination (s : State) (cc2 rp : Bool) (cur : Nat) : State :=
  let seen := s.setUpd (fun u => { u with seen := some (cc2, rp, cur) })
  let same := match s.upd.seen with
    | some (c, r, _) => c == cc2 && r == rp
    | none => false
  if s.attIs .unattached then
    if rp == s.presentsRp then s else (seen.wr UPD_STAT_STATE AttState.wait.code).stampUpd 4
  else if s.attIs .wait then if rp == s.presentsRp then s else if same then seen else seen.stampUpd 4
  else if s.attIs .snk && rp then ((seen.wr UPD_STAT_RPCUR cur).sinkShow).updSettle
  else s

/-- The termination has held for 150 ms (R467). -/
def debounced (s : State) : State :=
  if !s.attIs .wait || !s.updRan 4 150 then s
  else match s.upd.seen with
    | none => s
    | some (_, rp, _) =>
      let pref := s.rd UPD_CTRL_PREF
      if s.toggles && ((pref = 1 && !rp) || (pref = 2 && rp)) then
        ((s.wr UPD_STAT_STATE AttState.try_.code).setUpd (fun u => { u with rp := pref == 2 })).stampUpd 4
      else if !rp then s.attachAs true
      else if s.rd UPD_VBUS_V > 200 then s.attachAs false
      else s

/-- The partner's complement has been seen for 10 ms of TRY (`seen`), or its 100 ms end without (R467). -/
def tryEnd (s : State) (seen : Bool) (cur : Nat) : State :=
  if !s.attIs .try_ || !s.updRan 4 (if seen then 10 else 100) then s
  else
    let src := (s.rd UPD_CTRL_PREF == 2) == seen
    let cc2 := (s.upd.seen.getD (false, false, 0)).1
    (s.setUpd (fun u => { u with seen := some (cc2, !src, cur) })).attachAs src

/-- 50 ms of the toggle (R466). -/
def toggle (s : State) : State :=
  if s.attIs .unattached && s.toggles && s.updRan 6 50 then (s.setUpd (fun u => { u with rp := !u.rp })).stampUpd 6 else s

/-- Both CC pins have been open for 25 ms in ERRREC (R467). -/
def errrecEnd (s : State) : State :=
  if s.attIs .errrec && s.updRan 4 25 then s.wr UPD_STAT_STATE AttState.unattached.code else s

/-- VBUS below 3.67 V for 10 ms (R467). -/
def sinkDetach (s : State) : State :=
  let swap := [PdWait.safe0, .safe5, .recover, .oldOff, .discharge, .newOn].contains s.upd.wait
  if s.attIs .snk && !swap && s.upd.low ≥ 2500 then s.detachTo .unattached else s

/-- The partner's Rd absent for 15 ms (R467). -/
def sourceDetach (s : State) : State := if s.attIs .src then s.detachTo .unattached else s

/-- The feed path has left ON (R477). -/
def feedLeft (s : State) : State := if s.attIs .src && !s.pathIs .on then s.detachTo .errrec else s

/-! Contracts as sink (R471 to R474). -/

/-- The choice of R472. -/
def chooseObject (s : State) (objs : List Nat) : PdReq :=
  let l := (objs.map pdoOf).zipIdx
  let v := s.rd UPD_SNKPPS_PPSV
  let i := s.rd UPD_SNKPPS_PPSI
  let pps := if s.on UPD_SNKCFG_PPSEN && s.inWindow v then l.find? (fun o => apdoCovers o.1 v i) else none
  match pps with
  | some o => ppsReq (o.2 + 1) v i
  | none =>
    match bestFixed (l.filter (fun o => o.1.kind = 0 && s.rd UPD_SNKCFG_VMIN * 20 ≤ o.1.vmin &&
      o.1.vmin ≤ s.rd UPD_SNKCFG_VMAX * 20 && o.1.i ≥ s.rd UPD_SNKPPS_IMIN * 50)) with
    | some o => fixedReq (o.2 + 1) o.1.vmin o.1.i false
    | none => fixedReq 1 5000 500 true

/-- A message fails the checks of R471. -/
def pdBad (s : State) : State := (s.updCount 2).updReject

/-- The partner has spoken PD. -/
def pdSeen (s : State) : State := (s.wr UPD_STAT_PD 1).setUpd (fun u => { u with nonPd := false })

/-- Source_Capabilities (R471, R472). -/
def capsReceive (s : State) (objs : List Nat) : State :=
  if !s.attIs .snk || !s.pdOn || !([PdWait.none, .caps, .safe5, .request, .psRdy].contains s.upd.wait) then s
  else if !capsOk objs then s.pdBad
  else
    let s1 := s.pdSeen.setUpd (fun u => { u with caps := objs, noCaps := 0 })
    s1.requestSend (s1.chooseObject objs)

/-- A repeated Request is due: a keep-alive, the 100 ms after Wait, or a new target (R474). -/
def requestDue (s : State) (r : PdReq) : State :=
  if s.exchange || !s.txOk then s.setUpd (fun u => { u with req := r, keep := true }) else s.requestSend r

/-- The hub holds a PPS contract as sink. -/
def ppsSink (s : State) : Bool := s.attIs .snk && s.on UPD_CONTRACT_VALID && s.on UPD_CONTRACT_PPS

/-- KEEPALIVE seconds have passed since the PS_RDY of the last accepted Request (R474). -/
def keepAlive (s : State) : State := if s.ppsSink && s.pdOn && s.updRan 5 (1000 * s.rd UPD_SNKCFG_KEEPALIVE) then s.requestDue s.upd.req else s

/-- 100 ms after Wait (R474). -/
def waitRepeat (s : State) : State :=
  if s.upd.again && s.attIs .snk && s.pdOn && s.updRan 7 100 then (s.setUpd (fun u => { u with again := false })).requestDue s.upd.req else s

/-- A write of UPD_SNKPPS (R474): a target outside VMIN–VMAX, or outside the APDO in use, is refused; under a PPS contract the target is requested at once. -/
def snkPpsWrite (s : State) (w : Nat) : State :=
  let v := bitsOf w 31 20
  let i := bitsOf w 6 0
  let codesOk := UPD_SNKPPS_PPSV.codeOk v && UPD_SNKPPS_PPSI.codeOk i && UPD_SNKPPS_IMIN.codeOk (bitsOf w 13 7)
  let apdo := pdoOf (s.upd.caps.getD (s.rd UPD_CONTRACT_POS - 1) 0)
  if UPD_SNKPPS_PPSV.codeOk v && (!s.inWindow v || (s.ppsSink && !(apdo.vmin ≤ v * 20 && v * 20 ≤ apdo.vmax))) then s.updReject
  else
    let s1 := (if codesOk then s else s.updReject).writeReg 0x4000C w
    if s.ppsSink && s.pdOn then s1.requestDue (ppsReq (s.rd UPD_CONTRACT_POS) (s1.rd UPD_SNKPPS_PPSV) (s1.rd UPD_SNKPPS_PPSI)) else s1

/-! Contracts as source (R475 to R477). -/

/-- What a Request word asks of an offered object: voltage (20 mV) and current (50 mA), if it may have it (R476). -/
def requestGrant (o : Bool × Nat × Nat) (w : Nat) : Option (Nat × Nat) :=
  if o.1 then
    let v := bitsOf w 20 9
    let i := bitsOf w 6 0
    if 3300 ≤ v * 20 && v * 20 ≤ o.2.1 * 100 && i ≤ o.2.2 then some (v, i) else none
  else
    let i := bitsOf w 19 10
    if i ≤ o.2.2 * 5 then some (o.2.1, i / 5) else none

/-- A Request arrives (R471, R476). -/
def requestReceive (s : State) (w : Nat) : State :=
  if !s.attIs .src || !s.pdOn || !(s.upd.wait == .none || s.upd.wait == .offer) then s
  else
    let pos := bitsOf w 31 28
    let l := s.offers
    if pos = 0 || pos > l.length then s.pdBad
    else
      let o := l.getD (pos - 1) (false, 0, 0)
      match requestGrant o w with
      | none => ((s.pdSeen.pdSend .reject).updReject).exchangeEnd
      | some (v, i) =>
        (((s.pdSeen.setUpd (fun u => { u with ref := v })).pdSend .accept).pdSend .psRdy).contractSet pos o.1 v i |>.exchangeEnd

/-- The current limit as source, mA: that of the contract, and 3.0 A of Rp without one (R466, R476). -/
def sourceMax (s : State) : Nat := if s.on UPD_CONTRACT_VALID then s.rd UPD_CONTRACT_I * 50 else 3000

/-- VBUS is down to 3.3 V and its current, on HSW channel 3, still exceeds the limit (R476). -/
def sourceOver (s : State) : Bool :=
  s.attIs .src && s.rd UPD_VBUS_V ≤ 165 && (signedOf 16 (s.rd HSW_MEAS_I 3)).natAbs > s.sourceMax

/-- The current limit holds at 3.3 V for 100 ms (R476). -/
def sourceLimit (s : State) : State :=
  if s.attIs .src && s.upd.excess ≥ 25000 then (((s.wr UPD_STAT_CLEV 1).updCount 5).fault 25 0).hardResetSend else s

/-! Role swaps (R478, R479). -/

/-- A power role swap has been accepted. -/
def prSwapBegin (s : State) : State :=
  let s1 := s.contractEnd
  if s.on UPD_STAT_PROLE then (s1.setUpd (fun u => { u with vbusOn := false, ref := 0 })).pdWait .discharge
  else (s1.pdWait .oldOff).sinkShow

/-- The data role swaps, after any mode has ended (R478, R482). -/
def drSwapRun (s : State) : State :=
  let s1 := s.modeLeave
  ((s1.wr UPD_STAT_DROLE (1 - s1.rd UPD_STAT_DROLE)).wr UPD_STAT_SWAPEV 1).updCmdEnd .ok |>.exchangeEnd

/-- The partner's swap while the hub waits for the answer to its own of the same kind (R479): none, the hub's goes on; otherwise the state in which the partner's is answered. -/
def swapMeets (s : State) (own : PdWait) : Option State :=
  if s.upd.wait = own then
    if s.on UPD_STAT_PROLE then none else some (((s.updCmdEnd .collision).updCount 4).pdWait .none)
  else if s.upd.wait = .none then some s
  else none

/-- PR_Swap arrives. -/
def prSwapReceive (s : State) : State :=
  if !s.attached || !s.pdOn then s
  else match s.swapMeets .prSwap with
    | none => s
    | some s1 =>
      if !s.on UPD_CTRL_PRSWAP || (!s.on UPD_STAT_PROLE && !s.pathIs .on) then (s1.pdSeen.pdSend .reject).exchangeEnd
      else (s1.pdSeen.pdSend .accept).prSwapBegin

/-- DR_Swap arrives. -/
def drSwapReceive (s : State) : State :=
  if !s.attached || !s.pdOn then s
  else match s.swapMeets .drSwap with
    | none => s
    | some s1 =>
      if !s.on UPD_CTRL_DRSWAP then (s1.pdSeen.pdSend .reject).exchangeEnd
      else ((s1.pdSeen.modeLeave).pdSend .accept).drSwapRun

/-- PS_RDY arrives: the contract (R473), or a step of a swap (R478). -/
def psRdyReceive (s : State) : State :=
  let r := s.upd.req
  match s.upd.wait with
  | .psRdy => ((s.contractSet r.pos r.pps r.v r.i).exchangeEnd).sinkShow
  | .oldOff =>
    let s1 := ((s.wr UPD_STAT_PROLE 1).wr UPD_STAT_STATE AttState.src.code).setUpd (fun u => { u with vbusOn := true, ref := 250 })
    (((s1.pdSend .psRdy).wr UPD_STAT_SWAPEV 1).updCmdEnd .ok).capsSend
  | .newOn =>
    let s1 := (s.wr UPD_STAT_PROLE 0).wr UPD_STAT_STATE AttState.snk.code
    (((s1.wr UPD_STAT_SWAPEV 1).updCmdEnd .ok).pdWait .caps).sinkShow
  | _ => s

/-- Soft_Reset is sent; for its own answer there is no second one. -/
def softResetSend (s : State) : State :=
  if s.upd.wait = .softReset then s.hardResetSend
  else (((s.updCmdEnd .timeout).updCount 1).pdSend .softReset).pdWait .softReset

/-- The protocol layer starts afresh: a source offers again, a sink waits for an offer. -/
def softStart (s : State) : State :=
  let s1 := s.setUpd (fun u => { u with tries := 0, vdm := .none, again := false, keep := false })
  if s1.on UPD_STAT_PROLE then s1.capsSend else s1.pdWait .caps

/-- Soft_Reset arrives. -/
def softResetReceive (s : State) : State :=
  if !s.attached || !s.pdOn then s
  else
    let s1 := if s.upd.run = none then s else
      let f := s.wrFree UPD_STAT_CMDCODE
      (f.wr UPD_STAT_CMDBUSY (bit f.upd.cmd.isSome)).setUpd (fun u => { u with run := none })
    ((s1.pdSeen.updCount 1).pdSend .accept).softStart

/-- Accept (0), Reject (1), Wait (2) or Not_Supported (3) arrives. -/
def answerReceive (s : State) (k : Nat) : State :=
  let code : PdCode := if k = 1 then .rejected else if k = 2 then .wait else .notSupp
  match s.upd.wait with
  | .request =>
    if k = 0 then s.pdSeen.pdWait .psRdy
    else if k = 2 then ((s.pdSeen.setUpd (fun u => { u with again := true })).stampUpd 7).exchangeEnd
    else if s.upd.req = fixedReq 1 5000 500 false || s.upd.req = fixedReq 1 5000 500 true then s.pdSeen.updReject.exchangeEnd
    else s.pdSeen.updReject.requestSend (fixedReq 1 5000 500 false)
  | .prSwap => if k = 0 then s.prSwapBegin else (s.updCmdEnd code).exchangeEnd
  | .drSwap => if k = 0 then s.drSwapRun else (s.updCmdEnd code).exchangeEnd
  | .softReset => if k = 0 then s.softStart else s
  | _ => s

/-- A message the hub does not support arrives (R467, R469). -/
def unsupported (s : State) (vconn : Bool) : State :=
  if s.attached && s.pdOn then s.pdSeen.pdSend (if vconn then .reject else .notSupported) else s

/-! Timers (R470). -/

/-- A mode entry is abandoned. -/
def vdmAbandon (s : State) : State := ((s.updCount 7).setUpd (fun u => { u with vdm := .none })).updSettle

/-- A PD wait has run its time, numbered in the order of R470: 0 GoodCRC, 1 Source_Capabilities, 2 SenderResponse, 3 PSTransition, 4 PSSourceOff, 5 PSSourceOn, 6 VDM response, 7 Enter Mode response, 8 PPS request, 9 vSafe0V, 10 recovery; 11 is the 1 s that a command waits (R479). -/
def pdRuns (s : State) (k : Nat) : Bool :=
  match k with
  | 0 => s.updRan 0 1 | 1 => s.updRan 1 465 | 2 => s.updRan 1 27 | 3 => s.updRan 1 500 | 4 => s.updRan 1 850 | 5 => s.updRan 1 450
  | 6 => s.updRan 2 27 | 7 => s.updRan 2 45 | 8 => s.updRan 5 14000 | 9 => s.updRan 1 650 | 10 => s.updRan 1 800 | _ => s.updRan 3 1000

/-- What the end of a PD wait does (R470). -/
def pdEnds (s : State) (k : Nat) : State :=
  let w := s.upd.wait
  match k with
  | 0 =>
    match s.upd.out.getLast? with
    | none => s
    | some m =>
      if s.upd.tries < 2 then (s.setUpd (fun u => { u with out := [m], tries := u.tries + 1 })).stampUpd 0
      else (((s.setUpd (fun u => { u with tries := 0, out := [], vdm := .none })).updCmdEnd .timeout)).exchangeEnd
  | 1 =>
    if !([PdWait.caps, .safe0, .safe5].contains w) then s
    else if s.upd.noCaps < 2 then (s.setUpd (fun u => { u with noCaps := u.noCaps + 1 })).hardResetSend
    else (((s.pdWait .none).wr UPD_STAT_PD 0).setUpd (fun u => { u with nonPd := true })).sinkShow
  | 2 => if [PdWait.request, .prSwap, .drSwap, .softReset, .offer].contains w then s.softResetSend else s
  | 3 => if w = .psRdy then s.hardResetSend else s
  | 4 => if w = .oldOff then s.hardResetSend else s
  | 5 => if w = .newOn then s.hardResetSend else s
  | 6 => if s.upd.vdm = .config then (s.updCount 3).modeLeave.vdmAbandon else s
  | 7 => if s.upd.vdm ≠ .none && s.upd.vdm ≠ .config then (s.updCount 3).vdmAbandon else s
  | 8 => if s.attIs .src && s.on UPD_CONTRACT_VALID && s.on UPD_CONTRACT_PPS then s.hardResetSend else s
  | 10 =>
    if w = .recover then ((s.pdWait .none).setUpd (fun u => { u with vbusOn := true, ref := 250 })).capsSend else s
  | 11 =>
    if s.upd.cmd = none then s
    else ((s.wr UPD_STAT_CMDCODE PdCode.busy.code).wr UPD_STAT_CMDBUSY (bit s.upd.run.isSome)).setUpd (fun u => { u with cmd := none })
  | _ => s

/-- A PD wait expires (R470). -/
def pdExpiry (s : State) (k : Nat) : State := if s.pdRuns k then s.pdEnds k else s

/-- VBUS is measured (R473, R478, R479): SNKVALID follows it, and the waits for vSafe0V (at most 0.8 V) and vSafe5V (at least 4.75 V) end (log entry 47). -/
def vbusSample (s : State) (v : Nat) : State :=
  let s0 := s.wr UPD_VBUS_V v
  let s1 := s0.setUpd (fun u => { u with low := if v * 20 < 3670 then u.low + 1 else 0, excess := if s0.sourceOver then u.excess + 1 else 0 })
  let s2 := match s1.upd.wait with
    | .discharge => if v ≤ 40 then (s1.pdSend .psRdy).pdWait .newOn else s1
    | .safe0 => if v ≤ 40 then s1.pdWait .safe5 else s1
    | .safe5 => if v ≥ 238 then s1.pdWait .caps else s1
    | _ => s1
  s2.sinkShow

/-! Commands (R478, R479, R486). -/

/-- A write of UPD_CMD. -/
def updCmdWrite (s : State) (w : Nat) : State :=
  let bits := [31, 30, 29, 28].filter (fun b => w.testBit b)
  if bitsOf w 15 0 ≠ cmdKey then s.updReject
  else match bits with
    | [] => s
    | [k] =>
      if s.upd.cmd.isSome then s.updReject
      else (((s.wr UPD_STAT_CMDBUSY 1).setUpd (fun u => { u with cmd := some k })).stampUpd 3).updSettle
    | _ => s.updReject

/-- A write of UPD_CTRL (R466, R467). -/
def updCtrlWrite (s : State) (w : Nat) : State :=
  let s1 := s.writeReg 0x40000 w
  if s1.on UPD_CTRL_EN == s.on UPD_CTRL_EN then s1
  else if s1.on UPD_CTRL_EN then s1.wr UPD_STAT_STATE AttState.unattached.code
  else s1.detachTo .disabled

/-- A write of UPD_SNKCFG: reserved codes are ignored with REJEV, and so is a write whose VMIN, or the one that would stand, lies above VMAX. -/
def snkCfgWrite (s : State) (w : Nat) : State :=
  let ok := UPD_SNKCFG_KEEPALIVE.codeOk (bitsOf w 30 27) && UPD_SNKCFG_VMAX.codeOk (bitsOf w 26 16) && UPD_SNKCFG_VMIN.codeOk (bitsOf w 10 0)
  let s1 := (if ok then s else s.updReject).writeReg 0x40008 w
  if bitsOf w 10 0 > bitsOf w 26 16 || s1.rd UPD_SNKCFG_VMIN > s1.rd UPD_SNKCFG_VMAX then s.updReject else s1.sinkShow

/-- A write of UPD_SRCCFG: a change while attached as source is sent as new Source_Capabilities (R486). -/
def srcCfgWrite (s : State) (w : Nat) : State :=
  let ok := UPD_SRCCFG_IMAX.codeOk (bitsOf w 21 15) && UPD_SRCCFG_PPSVMAX.codeOk (bitsOf w 7 0)
  let s1 := (if ok then s else s.updReject).writeReg 0x40010 w
  if s1.attIs .src && s1.offers ≠ s.offers then (s1.setUpd (fun u => { u with keep := true })).updSettle else s1

/-- A write of UPD_ALT: a mode whose enable clears ends (R482). -/
def updAltWrite (s : State) (w : Nat) : State :=
  let s1 := s.writeReg 0x40020 w
  let m := s1.rd UPD_ALTSTAT_MODE
  if (m = 1 && !s1.on UPD_ALT_DPEN) || (m = 2 && !s1.on UPD_ALT_TRKEN) then s1.modeLeave else s1

/-- Writes of UPD registers that do more than store their fields. -/
def updWrite (s : State) (off w : Nat) : Option State :=
  let e := s.updEvent
  if off = 0x40000 then some (e.updCtrlWrite w)
  else if off = 0x40008 then some (e.snkCfgWrite w)
  else if off = 0x4000C then some (e.snkPpsWrite w)
  else if off = 0x40010 then some (e.srcCfgWrite w)
  else if off = 0x4001C then some (e.updCmdWrite w)
  else if off = 0x40020 then some (e.updAltWrite w)
  else if off = 0x40060 then some (s.each (List.range 8) (fun s i => if w.testBit i then s.wr UPD_CNT_COUNT 0 i else s))
  else none

/-! Mode entry (R480, R481, R484). -/

/-- The DFP discovers the partner's modes: its Mode VDO under the Vexbel SVID, if it has one, and whether it is a DisplayPort sink with pin assignment C or D. -/
def discovered (s : State) (vdo : Option Word) (dpSink pinC pinD : Bool) : State :=
  if !s.attached || !s.pdOn || !s.on UPD_STAT_DROLE || !s.on UPD_CONTRACT_VALID || s.rd UPD_ALTSTAT_MODE ≠ 0 || s.exchange ||
      !s.txOk || s.rd PWR_STAT_STATE ≥ 3 then s
  else
    let v := (vdo.getD 0).toNat
    let trunk := s.rd UPD_SVID_SVID != 0 && s.ownAvail && bitsOf v 31 28 == 1 && v.testBit 0
    let dp := s.on UPD_ALT_DPEN && dpSink && (pinC || pinD)
    let s1 := ((s.pdSend (.discover 0)).pdSend (.discover 1)).pdSend (.discover 2)
    if trunk && !(dp && !s.on UPD_ALT_ALTPREF) then (s1.pdSend (.enterMode true)).setUpd (fun u => { u with vdm := .enterTrunk }) |>.stampUpd 2
    else if dp then (s1.pdSend (.enterMode false)).setUpd (fun u => { u with vdm := .enterDp (if pinC then 1 else 2) }) |>.stampUpd 2
    else s1

/-- Enter Mode is refused. -/
def enterRefuse (s : State) (ref : Bool) : State :=
  let s1 := (s.pdSend .enterNak).updCount 7
  if ref then s1.wr UPD_ALTSTAT_TRKREF 1 else s1

/-- Enter Mode arrives under an SVID (R484). -/
def enterReceive (s : State) (svid : Nat) : State :=
  if !s.attached || !s.pdOn || s.on UPD_STAT_DROLE then s
  else
    let own := s.rd UPD_SVID_SVID
    let p := s.pdSeen
    if own = 0 then p.enterRefuse true
    else if svid ≠ own then p.enterRefuse false
    else if !s.ownAvail then p.enterRefuse true
    else if s.rd UPD_ALTSTAT_MODE ≠ 0 then p.enterRefuse false
    else (p.pdSend .enterAck).modeEnter 2 0 true

/-- The partner answers Enter Mode, or the Configure that follows it (R481). -/
def enterAnswer (s : State) (ack : Bool) : State :=
  let ended := s.setUpd (fun u => { u with vdm := .none })
  match s.upd.vdm with
  | .none => s
  | .enterTrunk => if ack then (ended.modeEnter 2 0 true).updSettle else s.vdmAbandon
  | .enterDp pin =>
    if ack then ((s.modeEnter 1 pin false).pdSend (.dpConfigure pin)).setUpd (fun u => { u with vdm := .config }) |>.stampUpd 2 else s.vdmAbandon
  | .config =>
    if ack then ((ended.wr UPD_ALTSTAT_MUX 1).wr UPD_STAT_ALTEV 1).updSettle else s.modeLeave.vdmAbandon

/-- Exit Mode arrives (R482). -/
def exitReceive (s : State) : State :=
  if !s.attached || !s.pdOn || s.on UPD_STAT_DROLE then s
  else if s.rd UPD_ALTSTAT_MODE = 0 then s.pdSeen.pdSend .exitNak
  else s.pdSeen.modeEnd.pdSend .exitAck

/-- A DP Status Update or Attention (R483). -/
def dpAttention (s : State) (hpd irq : Bool) : State :=
  if s.rd UPD_ALTSTAT_MODE ≠ 1 then s
  else
    let s1 := s.wr UPD_ALTSTAT_HPD (bit hpd)
    if !hpd then s1.hpdLow
    else
      let s2 := s1.wr HD_LINK_HPD 1 1
      if irq then s2.hpdIrq else s2

/-- Discover Identity (0), SVIDs (1) or Modes (2) arrives at the UFP (R480, R484). -/
def discoverReceive (s : State) (k : Nat) : State :=
  if !s.attached || !s.pdOn || s.on UPD_STAT_DROLE then s
  else
    let own := s.rd UPD_SVID_SVID
    let p := s.pdSeen
    if k = 0 then p.pdSend .identity
    else if own = 0 then p.pdSend (.vdmNak k)
    else if k = 1 then p.pdSend (.svids own)
    else p.pdSend (.mode s.ownVdo)

/-- Entry to DORMANT: a DFP hub exits its mode, a UFP hub keeps it (R482). -/
def updDormant (s : State) : State :=
  if s.on UPD_STAT_DROLE then s.updEvent.modeLeave else s

end State

/-- LIMIT_RECOMPUTE (R454, R463, R464, R473): the voltage codes of FEED_A, FEED_B, FEED_C and VOUT_S, VBUS, the mean raw codes of channels 0 to 7 that are new, and whether the current is held. -/
def execLimitRecompute (va vb vc vout : BitVec 16) (vbus : BitVec 12) (raw : List (BitVec 14)) (held : Bool) (s : State) : Host.Outcome State Fault Refusal :=
  .next ((s.limitStep va.toNat vb.toNat vc.toNat vout.toNat raw held).vbusSample vbus.toNat)

/-- CC_TERMINATION_DETECT (R467): on CC1 or CC2, Rp (with its current code, 3: none) or Rd. -/
def execCcTerminationDetect (cc2 rp : Bool) (cur : Fin 4) (s : State) : Host.Outcome State Fault Refusal := .next (s.updEvent.termination cc2 rp cur)

/-- ATTACH_DEBOUNCE (R467). -/
def execAttachDebounce (s : State) : Host.Outcome State Fault Refusal := .next s.updEvent.debounced

/-- TRY_EXPIRY (R467). -/
def execTryExpiry (seen : Bool) (cur : Fin 4) (s : State) : Host.Outcome State Fault Refusal := .next (s.updEvent.tryEnd seen cur)

/-- DRP_TOGGLE (R466). -/
def execDrpToggle (s : State) : Host.Outcome State Fault Refusal := .next s.toggle

/-- SINK_DETACH (R467). -/
def execSinkDetach (s : State) : Host.Outcome State Fault Refusal := .next s.updEvent.sinkDetach

/-- SOURCE_DETACH (R467). -/
def execSourceDetach (s : State) : Host.Outcome State Fault Refusal := .next s.updEvent.sourceDetach

/-- ERRREC_EXPIRY (R467). -/
def execErrrecExpiry (s : State) : Host.Outcome State Fault Refusal := .next s.errrecEnd

/-- FEED_PATH_LEAVE_ON (R477). -/
def execFeedPathLeaveOn (s : State) : Host.Outcome State Fault Refusal := .next s.updEvent.feedLeft

/-- SOURCE_CAPABILITIES_RECEIVE (R472). -/
def execSourceCapabilitiesReceive (objs : List Word) (s : State) : Host.Outcome State Fault Refusal :=
  .next (s.updEvent.capsReceive (objs.map (·.toNat)))

/-- REQUEST_RECEIVE (R476). -/
def execRequestReceive (w : Word) (s : State) : Host.Outcome State Fault Refusal := .next (s.updEvent.requestReceive w.toNat)

/-- PS_RDY_RECEIVE (R473). -/
def execPsRdyReceive (s : State) : Host.Outcome State Fault Refusal := .next s.updEvent.psRdyReceive

/-- PD_TIMER_EXPIRY (R470): the wait `k`, numbered as `pdExpiry` says. -/
def execPdTimerExpiry (k : Fin 12) (s : State) : Host.Outcome State Fault Refusal :=
  .next ((if k.val = 0 then s else s.updEvent).pdExpiry k)

/-- PPS_KEEPALIVE (R474). -/
def execPpsKeepalive (s : State) : Host.Outcome State Fault Refusal := .next s.updEvent.keepAlive

/-- SOURCE_CURRENT_LIMIT_TRIP (R476). -/
def execSourceCurrentLimitTrip (s : State) : Host.Outcome State Fault Refusal := .next s.updEvent.sourceLimit

/-- UPD_PRSWAP (R478): `w`, with PRSWAP = 1, written to UPD_CMD. -/
def execUpdPrswap (w : Word) (s : State) : Host.Outcome State Fault Refusal := .next (s.updEvent.updCmdWrite w.toNat)

/-- UPD_DRSWAP (R478). -/
def execUpdDrswap (w : Word) (s : State) : Host.Outcome State Fault Refusal := .next (s.updEvent.updCmdWrite w.toNat)

/-- UPD_HRESET (R479). -/
def execUpdHreset (w : Word) (s : State) : Host.Outcome State Fault Refusal := .next (s.updEvent.updCmdWrite w.toNat)

/-- UPD_EXITALT (R482). -/
def execUpdExitalt (w : Word) (s : State) : Host.Outcome State Fault Refusal := .next (s.updEvent.updCmdWrite w.toNat)

/-- PR_SWAP_RECEIVE (R478). -/
def execPrSwapReceive (s : State) : Host.Outcome State Fault Refusal := .next s.updEvent.prSwapReceive

/-- DR_SWAP_RECEIVE (R478). -/
def execDrSwapReceive (s : State) : Host.Outcome State Fault Refusal := .next s.updEvent.drSwapReceive

/-- HARD_RESET_RECEIVE (R479). -/
def execHardResetReceive (s : State) : Host.Outcome State Fault Refusal :=
  if s.attached && s.pdOn then .next s.updEvent.hardReset else .next s

/-- SOFT_RESET_RECEIVE (R469). -/
def execSoftResetReceive (s : State) : Host.Outcome State Fault Refusal := .next s.updEvent.softResetReceive

/-- UNSUPPORTED_MESSAGE_RECEIVE (R469): VCONN_Swap or another message. -/
def execUnsupportedMessageReceive (vconn : Bool) (s : State) : Host.Outcome State Fault Refusal := .next (s.updEvent.unsupported vconn)

/-- ALT_MODE_DISCOVERY (R480): what the partner answers. -/
def execAltModeDiscovery (vdo : Option Word) (dpSink pinC pinD : Bool) (s : State) : Host.Outcome State Fault Refusal :=
  .next (s.updEvent.discovered vdo dpSink pinC pinD)

/-- ENTER_MODE_RECEIVE (R484). -/
def execEnterModeReceive (svid : BitVec 16) (s : State) : Host.Outcome State Fault Refusal := .next (s.updEvent.enterReceive svid.toNat)

/-- ENTER_MODE_ACK (R481): the answer, ACK or NAK, to Enter Mode or to Configure. -/
def execEnterModeAck (ack : Bool) (s : State) : Host.Outcome State Fault Refusal := .next (s.updEvent.enterAnswer ack)

/-- EXIT_MODE_RECEIVE (R482). -/
def execExitModeReceive (s : State) : Host.Outcome State Fault Refusal := .next s.updEvent.exitReceive

/-- DP_ATTENTION (R483). -/
def execDpAttention (hpd irq : Bool) (s : State) : Host.Outcome State Fault Refusal := .next (s.updEvent.dpAttention hpd irq)

/-- ACCEPT_REJECT_WAIT_RECEIVE (R478): Accept (0), Reject (1), Wait (2), Not_Supported (3). -/
def execAcceptRejectWaitReceive (k : Fin 4) (s : State) : Host.Outcome State Fault Refusal := .next (s.updEvent.answerReceive k)

/-- WAIT_REQUEST_REPEAT (R474). -/
def execWaitRequestRepeat (s : State) : Host.Outcome State Fault Refusal := .next s.updEvent.waitRepeat

/-- DISCOVER_REQUEST_RECEIVE (R480): Identity (0), SVIDs (1), Modes (2). -/
def execDiscoverRequestReceive (k : Fin 3) (s : State) : Host.Outcome State Fault Refusal := .next (s.updEvent.discoverReceive k)

end Sys2Proof.Machine
end

