-- ==== Sys2Proof/Machine/Resets.lean ====
section
/-! DEFINITION. Resets: what a chip reset, a management reset and a power-on reset do, and the GEN registers (spec/17_startup.md, R427 to R432, R445). -/

namespace Sys2Proof.Machine

/-- Register fields that a chip reset keeps (R427, R445, R497): HSW, UPD, the wake logic of PWR, the latched reset causes; by the keys of their fields. -/
def keptKey (k : Nat) : Bool :=
  (8 * 0x30000 ≤ k && k < 8 * 0x50000) || (8 * 0x20010 ≤ k && k < 8 * 0x2001C) || (8 * 0x14 < k && k < 8 * 0x14 + 7)

namespace State

/-- Every block but the always-on logic at its reset state (R427): what lies outside the hub, the fuses, HSW and UPD keep theirs; memories hold what nothing has written. -/
def coreClear (s : State) : State :=
  { regs := s.regs.filter (fun x => keptKey x.1), flt := { cause := s.flt.cause.filter (fun x => 17 ≤ x.1 && x.1 ≤ 20) },
    hsw := s.hsw, upd := s.upd,
    pcx := { perst := s.pcx.perst }, keys := { fuse := s.keys.fuse }, host := s.host, flash := s.flash,
    pwr := { railen := s.pwr.railen, good := s.pwr.good, waking := s.pwr.waking },
    bnk := { lost := s.bnk.lost + 1 }, readWord := s.readWord, freeCount := s.freeCount, pending := s.pending }

/-- A chip reset, held from now on, with its cause (R427, R430, R445). The causes that the always-on logic still presents are reported to the collector afresh. -/
def chipReset (s : State) (cause : Field) : State :=
  let s1 := (s.coreClear.wr cause 1).each [1, 2, 3, 4] (fun s n => s.efuse n false)
  let s2 := { s1 with pwr := { s1.pwr with railen := true, waking := false } }
  s2.each [17, 18, 19, 20] (fun s k => if Tab.get s.flt.cause k false then s.occur k 0 false else s)

/-- A power-on reset (R427): every block; what lies outside the hub and the fuses keep theirs. -/
def powerOnReset (s : State) : State :=
  { State.reset with keys := { fuse := s.keys.fuse }, host := s.host, flash := s.flash, pcx := { perst := s.pcx.perst },
                     bnk := { lost := s.bnk.lost + 1 }, readWord := s.readWord, freeCount := s.freeCount, pending := s.pending }

/-- The majority of three samples of a strap (R429). -/
def strapOf (b : BitVec 3) : Bool := vote3 b

/-- PORST_N is high, the reference and every PLL are good, PWR reports power-good, and 100 µs have passed (R428, R429); the straps select TRK0's legacy mode and the PCIe role (R167, R347). -/
def resetRelease (s : State) (compat pcieRc dbgEn : Bool) : State :=
  if !s.boot.held || !s.pwr.good then s
  else
    let s1 := (((s.wr CLK_STAT_REFOK 1).wr CLK_STAT_SYSLK 1).wr CLK_STAT_TIMELK 1).wr CLK_STAT_LANELK 1
    let s2 := (((s1.wr CLK_STAT_MEMLK 1).wr CLK_STAT_PCIELK 1).wr GEN_STRAP_COMPAT (bit compat)).wr GEN_STRAP_PCIE_RC (bit pcieRc)
    let s3 := (((s2.wr GEN_STRAP_DBG_EN (bit dbgEn)).wr PCX_CTRL_ROLE (bit pcieRc)).wr TRK_KL2_STAT_STRAP (bit compat)).kl2Show
    { s3 with boot := { s3.boot with held := false, rel := s3.tmu.elapsed } }

/-- One minute of elapsed time, in 2^-32 ns. -/
def oneMinute : Nat := 60000000000 * 2 ^ 32

/-- A management reset (R427, R431, R432): the processor, its SRAM, GEN_WDT but for EN, and what firmware held; the third within 60 s stops the processor. -/
def mgmtReset (s : State) (cause : Field) : State :=
  let now := s.tmu.elapsed
  let l := now :: s.boot.resets.filter (fun t => now < t + oneMinute)
  let s1 := ((s.wr cause 1).sat GEN_RSTCAUSE_MGMTCNT).wr GEN_WDT_TIMEOUT 1000
  let s0 := { (s1.each (List.range 4) (fun s t => s.disarm (.offer t))) with sram := [] }
  let s2 := { s0 with keys := { s0.keys with sess := [] }, fab := { s0.fab with answers := [], heardId := [] },
                      boot := { s0.boot with running := false, mgmtOnly := true, resets := l, kick := now } }
  if l.length ≥ 3 then (s2.wr GEN_RSTCAUSE_MGMTSTOP 1).causeOn 6 0 else ((s2.wr BOOT_STAT_STAGE 2).wr BOOT_STAT_HALT 0).causeOff 7

/-- The chip boot has reached RUN since the chip reset (R430). -/
def chipBooted (s : State) : Bool := s.boot.running || s.boot.mgmtOnly

/-- A write of GEN_RST (R430). -/
def genRstWrite (s : State) (w : Nat) : State :=
  if bitsOf w 15 0 ≠ cmdKey then s
  else if w.testBit 31 then s.chipReset GEN_RSTCAUSE_SWCHIP
  else if w.testBit 30 && s.chipBooted && !s.on GEN_RSTCAUSE_MGMTSTOP && !s.boot.dead then s.mgmtReset GEN_RSTCAUSE_SWMGMT
  else s

/-- A write of GEN_WDT (R431, R445). -/
def wdtWrite (s : State) (w : Nat) : State :=
  let t := bitsOf w 13 0
  let was := s.on GEN_WDT_EN
  let s1 := if !was && GEN_WDT_TIMEOUT.codeOk t then s.wr GEN_WDT_TIMEOUT t else s
  let s2 := if w.testBit 31 then s1.wr GEN_WDT_EN 1 else s1
  if w.testBit 30 || (w.testBit 31 && !was) then { s2 with boot := { s2.boot with kick := s2.tmu.elapsed } } else s2

/-- The watchdog's time has passed since the last kick (R431). -/
def wdtDue (s : State) : Bool :=
  s.on GEN_WDT_EN && s.tmu.elapsed ≥ s.boot.kick + s.rd GEN_WDT_TIMEOUT * 1000000 * 2 ^ 32

/-- The watchdog expires. -/
def wdtExpire (s : State) : State :=
  if s.wdtDue && s.chipBooted && !s.on GEN_RSTCAUSE_MGMTSTOP && !s.boot.dead then s.mgmtReset GEN_RSTCAUSE_WDT else s

/-- Writes of GEN registers that do more than store their fields. -/
def genWrite (s : State) (off w : Nat) : Option State :=
  if off = 0x10 then some (s.genRstWrite w) else if off = 0x18 then some (s.wdtWrite w) else none

end State

/-- POWER_ON_RESET (R427). -/
def execPowerOnReset (s : State) : Host.Outcome State Fault Refusal := .next s.powerOnReset

/-- PORST_ASSERT (R428). -/
def execPorstAssert (s : State) : Host.Outcome State Fault Refusal := .next (s.chipReset GEN_RSTCAUSE_PORST)

/-- CHIP_RESET (R427), for cause `k` of GEN_RSTCAUSE: 0 PORST, 1 SWCHIP, 2 DORMANT. -/
def execChipReset (k : Fin 3) (s : State) : Host.Outcome State Fault Refusal :=
  .next (s.chipReset (match k with | 0 => GEN_RSTCAUSE_PORST | 1 => GEN_RSTCAUSE_SWCHIP | 2 => GEN_RSTCAUSE_DORMANT))

/-- CHIP_RESET_RELEASE (R428, R429): three samples of each strap. -/
def execChipResetRelease (compat pcieRc dbgEn : BitVec 3) (s : State) : Host.Outcome State Fault Refusal :=
  .next (s.resetRelease (State.strapOf compat) (State.strapOf pcieRc) (State.strapOf dbgEn))

/-- GEN_RST_CHIP (R430): `w`, with CHIP = 1, written to GEN_RST. -/
def execGenRstChip (w : Word) (s : State) : Host.Outcome State Fault Refusal := .next (s.genRstWrite w.toNat)

/-- GEN_RST_MGMT (R430): `w`, with MGMT = 1, written to GEN_RST. -/
def execGenRstMgmt (w : Word) (s : State) : Host.Outcome State Fault Refusal := .next (s.genRstWrite w.toNat)

/-- MGMT_RESET (R432), by the watchdog or by GEN_RST. -/
def execMgmtReset (wdt : Bool) (s : State) : Host.Outcome State Fault Refusal :=
  if s.chipBooted && !s.on GEN_RSTCAUSE_MGMTSTOP && !s.boot.dead then
    .next (s.mgmtReset (if wdt then GEN_RSTCAUSE_WDT else GEN_RSTCAUSE_SWMGMT))
  else .next s

/-- MGMT_WATCHDOG_KICK (R431): `w` written to GEN_WDT. -/
def execMgmtWatchdogKick (w : Word) (s : State) : Host.Outcome State Fault Refusal := .next (s.wdtWrite w.toNat)

/-- MGMT_WATCHDOG_EXPIRY (R431). -/
def execMgmtWatchdogExpiry (s : State) : Host.Outcome State Fault Refusal := .next s.wdtExpire

end Sys2Proof.Machine
end

