-- ==== Sys2Proof/Machine/Power.lean ====
section
/-! DEFINITION. Power states, operating points, clocks and rails (spec/20_power_states.md; R523). -/

namespace Sys2Proof.Machine

/-- Switch and management clocks of an operating point, MHz (R494). -/
def opClock (k : Nat) : Nat × Nat :=
  match k with | 0 => (1200, 800) | 1 => (1000, 666) | 2 => (800, 533) | _ => (600, 400)

/-- Power states (R487). -/
def pwRun : Nat := 0
def pwTrim : Nat := 1
def pwHush : Nat := 2
def pwDormant : Nat := 3
def pwOff : Nat := 4

namespace State

/-- A write is ignored. -/
def pwrReject (s : State) : State := s.wr PWR_STAT_CMDREJ 1

/-- The targets and lowest voltages of the operating points follow the fuses and MARGIN (R495, R497). -/
def targetsShow (s : State) : State :=
  s.each (List.range 4) (fun s k =>
    let b := bitsOf (s.fuse 0x92) (8 * k + 7) (8 * k)
    let vmin := if b = 0 then 0 else 600 + b
    let vnom := s.rd PWR_OPV_VNOM k
    (s.wr PWR_OPV_VMIN vmin k).wr PWR_OPV_TARGET (if b = 0 then vnom else min vnom (max 650 (vmin + s.rd PWR_CFG_MARGIN))) k)

/-- The core clocks run at an operating point (R494). -/
def clocks (s : State) (k : Nat) : State := (s.wr CLK_FREQ_SWMHZ (opClock k).1).wr CLK_FREQ_MGMHZ (opClock k).2

/-- A target is written to the regulator (R495). -/
def setTarget (s : State) (mv : Nat) : State := { s with pwr := { s.pwr with target := mv } }

/-- The operating point of a power state. -/
def opOf (s : State) (st : Nat) : Nat :=
  if st = pwRun then s.rd PWR_CFG_RUNOP else if st = pwTrim then s.rd PWR_CFG_TRIMOP else s.rd PWR_CFG_HUSHOP

/-- The stopped blocks resume on exit from HUSH, and the halted ones on exit from the elytra state, when neither holds (R250, R493, R512). -/
def resumeBlocks (s : State) : State :=
  if s.fullPower && !s.on FLT_STAT_ELYTRA then s.haltLift.resumeEngines else s

/-- The edge lanes follow the power state (R487). -/
def edgeLanes (s : State) : State := s.each [16, 17, 18, 19, 20, 21, 22, 23] (fun s n => (s.lanePower n).laneChanged n)

/-- A power state is reached (R492). -/
def reached (s : State) (st : Nat) (c : PwrCode) : State :=
  let was := s.rd PWR_STAT_STATE
  let s1 := ((((s.wr PWR_STAT_STATE st).wr PWR_STAT_BUSY 0).wr PWR_STAT_CODE c.code).wr PWR_STAT_DONEEV 1).sat PWR_CNT_COUNT 0
  let s2 := { s1 with pwr := { s1.pwr with change := none } }
  if was = pwHush && st ≤ pwTrim then s2.edgeLanes.resumeBlocks else s2

/-- The operating point changes toward that of a power state (R496): lowering, frequency first; raising, voltage first. -/
def changeTo (s : State) (st : Nat) : State :=
  let op := s.opOf st
  let cur := s.rd PWR_STAT_OP
  if op = cur then s.reached st .ok
  else
    let s1 := if op > cur then s.clocks op else s
    let s2 := (s1.setTarget (s.rd PWR_OPV_TARGET op)).wr PWR_STAT_BUSY 1
    ({ s2 with pwr := { s2.pwr with change := some { op := op, raise := decide (op < cur), goal := st } } }).arm .avs (s.rd PWR_CFG_AVSTO * 100000)

/-- A state wanted meanwhile is sought now (R496). -/
def changeNext (s : State) : State :=
  match s.pwr.next with
  | none => s
  | some st => ({ s with pwr := { s.pwr with next := none } }).changeTo st

/-- A read-back of VCORE (R495, R496). -/
def avsRead (s : State) (mv : Nat) : State :=
  match s.pwr.change with
  | none => s
  | some c =>
    if mv ≤ s.pwr.target + 10 && s.pwr.target ≤ mv + 10 then
      ((((s.disarm .avs).wr PWR_STAT_OP c.op).clocks c.op).reached c.goal .ok).changeNext
    else s

/-- No confirmation within AVSTO (R496). -/
def avsTimeout (s : State) : State :=
  match s.pwr.change, s.due .avs with
  | none, _ | _, false => s
  | some c, true =>
    let s1 := ((((s.disarm .avs).wr PWR_STAT_AVSEV 1).sat PWR_CNT_COUNT 2).fault 10 s.pwr.target)
    if c.raise then
      let s2 := ((s1.setTarget (s.rd PWR_OPV_TARGET (s.rd PWR_STAT_OP))).wr PWR_STAT_BUSY 0).wr PWR_STAT_CODE PwrCode.avsTo.code
      ({ s2 with pwr := { s2.pwr with change := none } }).changeNext
    else ((s1.wr PWR_STAT_OP c.op).reached c.goal .avsTo).changeNext

/-! The handshake (R490 to R492). -/

/-- A block refuses entry to a state. -/
def blkRefuses (s : State) (st k : Nat) : Bool :=
  match k with
  | 9 => (List.range 16).any (fun e => s.on EP_STAT_ARMED e && !s.on EP_STAT_HALT e)
  | 10 => st ≥ pwDormant && s.on PCX_STAT_LINKUP && !s.on PCX_STAT_D3
  | 18 => s.on KEY_STAT_RESETREQ
  | 19 => s.on FLT_STAT_ELYTRA
  | _ => false

/-- A block delays its answer. -/
def blkDelays (s : State) (k : Nat) : Bool :=
  match k with
  | 4 => s.on SHP_PLAN_STAT_BUSY
  | 5 => s.on FAB_CTXSTAT_BUSY
  | 6 => (List.range 16).any (fun n => s.on ENG_MBX_BUSY n 0 || s.on ENG_MBX_BUSY n 1)
  | 7 => s.bnk.next.any (fun x => x.2.isSome)
  | 11 => (List.range 128).any (fun r => s.rd RNG_RSTAT_STATE r == ringDraining)
  | 12 => (List.range 128).any (fun e => !(s.heldReads e).isEmpty)
  | 13 => (List.range 32).any (fun n => s.rd DMC_STAT_STATE n == dmaWait || s.rd DMC_STAT_STATE n == dmaActive)
  | 14 => (List.range 128).any (fun e => (s.blkCmds e).any (fun c => c.started && c.status.isNone))
  | 18 => s.on KEY_CMDSTAT_BUSY
  | 20 => s.dramTrains
  | 23 => true
  | _ => false

/-- The bound within which block `k`, which delays, must give its final answer, in ns (R490); firmware's is that of its first answer. -/
def blkBound (s : State) (k : Nat) : Nat :=
  match k with
  | 4 => 50000
  | 5 | 7 => 1000
  | 6 => 256000000
  | 11 => 2100000000
  | 12 => 64000000
  | 13 | 23 => 10000000
  | 14 => (List.range 128).foldl (fun a e => if (s.blkCmds e).any (fun c => c.started && c.status.isNone) then max a (s.ctoNs (s.blkMedium e)) else a) 0
  | _ => 20000000

/-- A refusal or an expired bound (R490). -/
def askRefused (s : State) (c : PwrCode) (k : Nat) : State := ((s.askAbort c).wr PWR_STAT_REFBLK k).sat PWR_CNT_COUNT 1

/-- The wake timer starts at entry to HUSH, DORMANT or OFF (R493), on the always-on logic's time. -/
def wakeStart (s : State) : State := { s with pwr := { s.pwr with wakeAt := s.hsw.clock + 250 * s.rd PWR_WTIMER_MS } }

/-- HUSH is entered (R487, R492): the stopped blocks stop, then the operating point changes. -/
def enterHush (s : State) : State :=
  let before := s.rd PWR_STAT_STATE
  let s1 := s.wakeStart.haltFlush.brgHalt.haltEngines.discardCommits.dmaHalt.usbHush.displayOff
  let s2 := (s1.wr PWR_STAT_STATE pwHush).edgeLanes
  ({ s2 with pwr := { s2.pwr with before := before } }).changeTo pwHush

/-- DORMANT or OFF is entered (R425, R482, R488, R492): RAILEN goes low and every block but the always-on logic loses its state. -/
def enterDark (s : State) (st : Nat) : State :=
  let s1 := s.updDormant.eraseKeys
  let s2 := if st = pwOff && !s1.pathIs .damaged then s1.pathGo .off else s1
  let s3 := ((s2.coreClear.each [1, 2, 3, 4] (fun s n => s.efuse n false)).wr PWR_STAT_STATE st).wr PWR_STAT_DONEEV 1
  { (s3.sat PWR_CNT_COUNT 0) with pwr := { railen := false, good := false, wakeAt := s.wakeStart.pwr.wakeAt } }

/-- All blocks have acknowledged (R492). -/
def askDone (s : State) : State :=
  match s.pwr.ask with
  | none => s
  | some st =>
    if !s.pwr.waiting.isEmpty then s
    else
      let s1 := { s with pwr := { s.pwr with ask := none, fwDelay := false } }
      if st = pwHush then s1.enterHush else s1.enterDark st

/-- A block's final ACK. -/
def askAck (s : State) (k : Nat) : State :=
  ({ s with pwr := { s.pwr with waiting := s.pwr.waiting.filter (· != k) } }).askDone

/-- The handshake begins (R490): every block is asked at once. -/
def askStart (s : State) (st : Nat) : State :=
  let l := (List.range 24).filter s.blkDelays
  let s0 := { (s.wr PWR_STAT_BUSY 1) with pwr := { s.pwr with ask := some st, waiting := l, fwDelay := false } }
  let s1 := s0.each l (fun s k => s.arm (.handshake k) (s.blkBound k))
  match (List.range 24).find? (s.blkRefuses st) with
  | some k => s1.askRefused .refused k
  | none => s1

/-- Block `k`, which has delayed, gives its final answer. -/
def askAnswer (s : State) (k : Nat) : State :=
  match s.pwr.ask with
  | none => s
  | some st =>
    if k = 23 || !s.pwr.waiting.contains k then s
    else if s.blkRefuses st k then s.askRefused .refused k
    else if s.blkDelays k then s
    else s.askAck k

/-- A write of PWR_FWACK (R490). -/
def fwAnswer (s : State) (w : Nat) : State :=
  if !s.pwr.waiting.contains 23 then s
  else match bitsOf w 1 0 with
    | 1 => s.askAck 23
    | 2 => s.askRefused .refused 23
    | 3 => if s.pwr.fwDelay then s else ({ s with pwr := { s.pwr with fwDelay := true } }).arm (.handshake 23) 1000000000
    | _ => s

/-- A block's bound expires (R490): DMA then acknowledges; firmware that has not answered at all refuses. -/
def askTimeout (s : State) (k : Nat) : State :=
  if !s.pwr.waiting.contains k || !s.due (.handshake k) then s
  else if k = 13 then s.askAck 13
  else if k = 23 && !s.pwr.fwDelay then s.askRefused .refused 23
  else s.askRefused .timeout k

/-- A write of PWR_CMD (R489). -/
def pwrCmdWrite (s : State) (w : Nat) : State :=
  let st := bitsOf w 18 16
  let cur := s.rd PWR_STAT_STATE
  if cur ≥ pwDormant then s
  else if bitsOf w 15 0 ≠ cmdKey then s.pwrReject
  else if !w.testBit 31 then s
  else if st > pwOff || s.on PWR_STAT_BUSY || st = cur then s.pwrReject
  else if st ≤ pwTrim then s.changeTo st
  else if cur = pwHush then s.wr PWR_STAT_CODE PwrCode.state.code
  else s.askStart st

/-- A write of PWR_CFG (R497): a TRIMOP not above RUNOP is ignored with CMDREJ. -/
def pwrCfgWrite (s : State) (w : Nat) : State :=
  let s1 := s.writeReg 0x20008 w
  (if s1.rd PWR_CFG_TRIMOP > s1.rd PWR_CFG_RUNOP then s1
   else (s1.wr PWR_CFG_TRIMOP (s.rd PWR_CFG_TRIMOP)).pwrReject).targetsShow

/-! Waking (R491, R493). -/

/-- The states in which a wake source acts. -/
def wakeActs (k st : Nat) : Bool := (k ≤ 2 && pwHush ≤ st && st ≤ pwOff) || (k = 3 && (st = pwHush || st = pwDormant)) || (4 ≤ k && st = pwHush)

/-- A wake source occurs. -/
def wake (s : State) (k : Nat) : State :=
  let st := s.rd PWR_STAT_STATE
  if !s.bitAt PWR_WAKE_EN k then s
  else if s.pwr.ask.isSome then if k = 1 then s else (s.askAbort .wake).wr PWR_STAT_WAKEEV 1
  else if !wakeActs k st || s.pwr.waking then s
  else
    let s1 := ((s.putBit PWR_WCAUSE_CAUSE k true).wr PWR_STAT_WAKEEV 1).sat PWR_CNT_COUNT 3
    if st = pwHush then
      if s1.pwr.change.isSome then { s1 with pwr := { s1.pwr with next := some s1.pwr.before } } else s1.changeTo s1.pwr.before
    else
      let s2 := { s1 with pwr := { s1.pwr with waking := true } }
      if st = pwDormant then { s2 with pwr := { s2.pwr with railen := true } }
      else if s2.pathIs .off then s2.pathGo .debounce
      else s2

/-- The wake timer expires (R493). -/
def wakeTimer (s : State) : State := if s.pwr.wakeAt ≤ s.hsw.clock then s.wake 1 else s

/-- PATHGD rises 1 ms after the path enters ON (R453); an exit from OFF then drives RAILEN high (R493). -/
def pathGood (s : State) : State :=
  if !s.pathIs .on || !s.pathRan 1 then s
  else
    let s1 := s.wr HSW_STAT_PATHGD 1
    if s1.rd PWR_STAT_STATE = pwOff && s1.pwr.waking then { s1 with pwr := { s1.pwr with railen := true } } else s1

/-- Every switched rail has stood above 90 % for 1 ms (R523); an exit from DORMANT or OFF then resets the chip (R493). -/
def railsGood (s : State) : State :=
  if !s.pwr.railen then s
  else
    let s1 := { s with pwr := { s.pwr with good := true } }
    if s1.rd PWR_STAT_STATE ≥ pwDormant then s1.chipReset GEN_RSTCAUSE_DORMANT else s1

/-- A rail has fallen below 85 % (R523). -/
def railLow (s : State) : State :=
  if s.rd PWR_STAT_STATE ≥ pwDormant || !s.pwr.railen then s
  else ({ s with pwr := { s.pwr with good := false } }).chipReset GEN_RSTCAUSE_PORST

/-! Clocks (R498). -/

/-- The status bit of the reference (0) or of a PLL (1 switch, engine and management; 2 time; 3 lanes; 4 memory; 5 PCIe). -/
def clkBit (k : Nat) : Field :=
  match k with
  | 0 => CLK_STAT_REFOK | 1 => CLK_STAT_SYSLK | 2 => CLK_STAT_TIMELK | 3 => CLK_STAT_LANELK | 4 => CLK_STAT_MEMLK | _ => CLK_STAT_PCIELK

/-- CLK_STAT [31:26]. -/
def clkBits (s : State) : Nat := (List.range 6).foldl (fun a k => a + s.rd (clkBit k) * 2 ^ (5 - k)) 0

/-- The reference or a PLL is lost. -/
def clkLost (s : State) (k : Nat) : State :=
  let s1 := (s.wr (clkBit k) 0).wr CLK_STAT_LOSSEV 1
  s1.causeOn 8 s1.clkBits

/-- The reference or a PLL is back. -/
def clkBack (s : State) (k : Nat) : State :=
  let s1 := s.wr (clkBit k) 1
  if s1.clkBits = 63 then s1.causeOff 8 else s1

/-- Writes of PWR registers that do more than store their fields. -/
def pwrWrite (s : State) (off w : Nat) : Option State :=
  if off = 0x20004 then some (s.pwrCmdWrite w)
  else if off = 0x20008 then some (s.pwrCfgWrite w)
  else if off = 0x2001C then some (s.fwAnswer w)
  else if off = 0x20060 then some (s.each (List.range 4) (fun s i => if w.testBit i then s.wr PWR_CNT_COUNT 0 i else s))
  else none

end State

/-- PATHGD_RISE (R453, R493). -/
def execPathgdRise (s : State) : Host.Outcome State Fault Refusal := .next s.pathGood

/-- PWR_CMD_RUN (R489): `w`, with STATE RUN, written to PWR_CMD. -/
def execPwrCmdRun (w : Word) (s : State) : Host.Outcome State Fault Refusal := .next (s.pwrCmdWrite w.toNat)

/-- PWR_CMD_TRIM (R489). -/
def execPwrCmdTrim (w : Word) (s : State) : Host.Outcome State Fault Refusal := .next (s.pwrCmdWrite w.toNat)

/-- PWR_CMD_HUSH (R490). -/
def execPwrCmdHush (w : Word) (s : State) : Host.Outcome State Fault Refusal := .next (s.pwrCmdWrite w.toNat)

/-- PWR_CMD_DORMANT (R490). -/
def execPwrCmdDormant (w : Word) (s : State) : Host.Outcome State Fault Refusal := .next (s.pwrCmdWrite w.toNat)

/-- PWR_CMD_OFF (R490). -/
def execPwrCmdOff (w : Word) (s : State) : Host.Outcome State Fault Refusal := .next (s.pwrCmdWrite w.toNat)

/-- HANDSHAKE_ANSWER (R490) of block `k`. -/
def execHandshakeAnswer (k : Fin 24) (s : State) : Host.Outcome State Fault Refusal := .next (s.askAnswer k)

/-- FIRMWARE_ANSWER (R490): `w` written to PWR_FWACK. -/
def execFirmwareAnswer (w : Word) (s : State) : Host.Outcome State Fault Refusal := .next (s.fwAnswer w.toNat)

/-- HANDSHAKE_TIMEOUT (R490) of block `k`. -/
def execHandshakeTimeout (k : Fin 24) (s : State) : Host.Outcome State Fault Refusal := .next (s.askTimeout k)

/-- WAKE_EVENT (R493): source `k` occurs; the timer's only when its time has come. -/
def execWakeEvent (k : Fin 6) (s : State) : Host.Outcome State Fault Refusal := .next (if k.val = 1 then s.wakeTimer else s.wake k)

/-- WAKE_TIMER_EXPIRY (R493). -/
def execWakeTimerExpiry (s : State) : Host.Outcome State Fault Refusal := .next s.wakeTimer

/-- AVS_CONFIRM (R496): a read-back in mV. -/
def execAvsConfirm (mv : BitVec 12) (s : State) : Host.Outcome State Fault Refusal := .next (s.avsRead mv.toNat)

/-- AVS_TIMEOUT (R496). -/
def execAvsTimeout (s : State) : Host.Outcome State Fault Refusal := .next s.avsTimeout

/-- POWER_GOOD (R523). -/
def execPowerGood (s : State) : Host.Outcome State Fault Refusal := .next s.railsGood

/-- RAIL_UNDERVOLTAGE (R523). -/
def execRailUndervoltage (s : State) : Host.Outcome State Fault Refusal := .next s.railLow

/-- REFERENCE_CLOCK_LOST (R498). -/
def execReferenceClockLost (s : State) : Host.Outcome State Fault Refusal := .next (s.clkLost 0)

/-- PLL_LOCK_LOST (R498) of PLL `k` + 1. -/
def execPllLockLost (k : Fin 5) (s : State) : Host.Outcome State Fault Refusal := .next (s.clkLost (k + 1))

/-- REFERENCE_CLOCK_RETURN (R498) of the reference (0) or a PLL. -/
def execReferenceClockReturn (k : Fin 6) (s : State) : Host.Outcome State Fault Refusal := .next (s.clkBack k)

end Sys2Proof.Machine
end

