-- ==== Sys2Proof/Machine/FaultCtl.lean ====
section
/-! DEFINITION. The fault collector's registers and its own events (spec/21_faults.md, R502 to R512). -/

namespace Sys2Proof.Machine
namespace State

/-- A write is ignored. -/
def fltReject (s : State) : State := s.wr FLT_STAT_CFGREJ 1

/-- One status bit is cleared if its cause is gone; the effective class returns to CLASS (R504, R507). -/
def statusClear (s : State) (slot : Nat) : State :=
  if s.fltCause slot then s
  else
    let s1 := (s.disarm (.escalate slot)).putBit FLT_STATUS_BITS (slot % 32) false (slot / 32)
    { s1 with flt := { s1.flt with eff := Tab.put s1.flt.eff slot 0 0 } }

/-- A write of FLT_STATj (R504). -/
def statusWrite (s : State) (j w : Nat) : State :=
  s.each (List.range 32) (fun s b => if w.testBit b && s.fltStatus (32 * j + b) then s.statusClear (32 * j + b) else s)

/-- A write of FLT_CFGs (R501, R505, R508): a refused EN, CLASS or FORCE keeps its value and sets CFGREJ, each field alone (R15). -/
def fltCfgWrite (s : State) (slot w : Nat) : State :=
  if !slotUsed slot then s.fltReject
  else
    let floor := s.rd FLT_CFG_FLOOR slot
    let cls := bitsOf w 26 25
    let lk := s.on FLT_CTRL_LOCK
    let badEn := !w.testBit 31 && floor = 2
    let badCls := !lk && (cls = 3 || cls < floor)
    let badForce := w.testBit 29 && !s.on FLT_CTRL_FORCEEN
    let was := s.fltForced slot
    let fs := [FLT_CFG_IRQ, FLT_CFG_ESCT] ++ (if badEn then [] else [FLT_CFG_EN]) ++ (if badCls then [] else [FLT_CFG_CLASS]) ++
      (if badForce then [] else [FLT_CFG_FORCE])
    let s1 := (if badEn || badCls || badForce then s.fltReject else s).writeFields lk fs slot 0 w
    let s2 := if s1.fltStatus slot && s1.rd FLT_CFG_ESCT slot ≠ s.rd FLT_CFG_ESCT slot then s1.escArm slot else s1
    if s2.fltForced slot && !was then s2.occur slot 0 true else s2

/-- The escalation time of a source has run (R507). -/
def escalate (s : State) (slot : Nat) : State :=
  let cls := s.fltClass slot
  if !slotUsed slot || !s.fltStatus slot || !s.due (.escalate slot) || cls ≥ 2 then s
  else
    let s1 := { s with flt := { s.flt with eff := Tab.put s.flt.eff slot (cls + 1) 0 } }
    let s2 := (s1.fltLog slot (cls + 1) (s1.rd FLT_DET_DETAIL slot) false true).sat FLT_CNT_COUNT 3
    let s3 := if s2.on FLT_CFG_IRQ slot then s2.irq 28 slot (cls + 1) else s2
    if cls + 1 = 2 then (s3.disarm (.escalate slot)).enterElytra slot false false else s3.escArm slot

/-- The junction temperature that a sensor code gives (R503). -/
def junction (s : State) (code : Nat) : Int :=
  let r := s.fuse 0x91
  let c25 : Int := if r = 0 then 1600 else bitsOf r 15 0
  let c115 : Int := if r = 0 then 2500 else bitsOf r 31 16
  if c115 = c25 then 25 else 25 + divZ ((code - c25) * 90) (c115 - c25)

/-- A sample of the junction sensor (R503); where the calibration codes are equal the temperature is a free value (log entry 3). -/
def tempSample (s : State) (code : Nat) : State :=
  let r := s.fuse 0x91
  let open_ := r ≠ 0 && bitsOf r 31 16 = bitsOf r 15 0
  let s0 := if open_ then (s.free 16).2 else s
  let t : Int := if open_ then signedOf 16 (s.free 16).1 else s.junction code
  let c := codeOf 16 t
  let s1 := s0.wr FLT_TEMP_TEMP c
  let warn : Int := s1.rd FLT_TEMP_TWARN
  let s2 := if t > warn then s1.causeOn 5 c else if t < warn - 5 then s1.causeOff 5 else s1
  let hot := if t > 125 then s2.flt.hot + 1 else 0
  let cool := if t > 125 then 0 else s2.flt.cool + 1
  let s3 := { s2 with flt := { s2.flt with hot := min hot 10, cool := min cool 10 } }
  if hot ≥ 10 then s3.causeOn 4 c else if cool ≥ 10 then s3.causeOff 4 else s3

/-- A collector self-fault in slot 0 or 1 (R510): the elytra state directly; status and log are written with an undefined content (R19). -/
def selfFault (s : State) (slot : Nat) : State :=
  if s.collectorOff then s
  else
  let e := s.rd FLT_LOGWR_WR % 64
  let s1 := s.enterElytra slot false true
  let s2 := ((((s1.wrFree FLT_LOG0_SLOT e).wrFree FLT_LOG0_CLASS e).wrFree FLT_LOG0_FORCED e).wrFree FLT_LOG0_ESC e).wrFree FLT_LOG0_DETAIL e
  let s3 := ((((s2.wrFree FLT_LOG1_NS e).wrFree FLT_LOG2_SEC_LO e).wrFree FLT_LOG3_SEC_HI e).wrFree FLT_LOG3_UNTRACED e).wrFree FLT_LOGWR_WR
  let s4 := s3.each (List.range 177) (fun s k =>
    if slotUsed k then
      let f := s.free 1
      f.2.putBit FLT_STATUS_BITS (k % 32) (f.1 == 1) (k / 32)
    else s)
  { s4 with flt := { s4.flt with cause := Tab.put s4.flt.cause slot true false } }

/-- A management processor lockstep mismatch (R502): it stays stopped until a chip reset. -/
def mgmtMismatch (s : State) : State :=
  ({ s with boot := { s.boot with dead := true, running := false } }).causeOn 2 0

/-- The elytra state is left (R512). -/
def leaveElytra (s : State) : State :=
  let s1 := { (s.wr FLT_STAT_ELYTRA 0) with flt := { s.flt with faultN := false } }
  s1.resumeBlocks

/-- No source whose effective class is FATAL holds its status bit (R512). -/
def noFatal (s : State) : Bool := (List.range 177).all (fun k => !(s.fltStatus k && s.fltClass k == 2))

/-- A write of FLT_CMD (R509, R512). -/
def fltCmdWrite (s : State) (w : Nat) : State :=
  let ex := w.testBit 31
  let en := w.testBit 30
  if bitsOf w 15 0 ≠ cmdKey then s
  else if ex && en then s.fltReject
  else if en then s.enterElytra 0xFF true false
  else if ex && s.on FLT_STAT_ELYTRA then
    if s.on FLT_STAT_SELF || !s.noFatal then s.wr FLT_STAT_EXITREJ 1 else s.leaveElytra
  else s

/-- A write of FLT_CTRL (R505): with FORCEEN the held FORCE bits present their causes. -/
def fltCtrlWrite (s : State) (w : Nat) : State :=
  let s1 := s.writeReg 0x220000 w
  if s.on FLT_CTRL_FORCEEN || !s1.on FLT_CTRL_FORCEEN then s1
  else s1.each (List.range 177) (fun s k => if s.fltForced k then s.occur k 0 true else s)

/-- A write of FLT_TEMP: TWARN outside 60–124 is ignored with CFGREJ (R515). -/
def twarnWrite (s : State) (w : Nat) : State :=
  if FLT_TEMP_TWARN.codeOk (bitsOf w 7 0) || s.on FLT_CTRL_LOCK then s.writeReg 0x22001C w else s.fltReject

/-- Writes of FLT registers that do more than store their fields. -/
def fltWrite (s : State) (off w : Nat) : Option State :=
  let o := off - 0x220000
  if off < 0x220000 || off ≥ 0x230000 || off % 4 ≠ 0 then none
  else if o = 0 then some (s.fltCtrlWrite w)
  else if o = 8 then some (s.fltCmdWrite w)
  else if o = 0x1C then some (s.twarnWrite w)
  else if o = 0x60 then some (s.each (List.range 4) (fun s i => if w.testBit i then s.wr FLT_CNT_COUNT 0 i else s))
  else if 0x100 ≤ o && o < 0x500 then some (s.fltCfgWrite ((o - 0x100) / 4) w)
  else if 0x800 ≤ o && o < 0x820 then some (s.statusWrite ((o - 0x800) / 4) w)
  else none

end State

/-- FAULT_STATUS_CLEAR (R504): `w` written to FLT_STATj; `hw`: bits that occurrences set in the same cycle, by the commands before it, which stay set (R23). -/
def execFaultStatusClear (j : Fin 8) (w hw : Word) (s : State) : Host.Outcome State Fault Refusal :=
  .next (s.statusWrite j (w &&& ~~~hw).toNat)

/-- FAULT_CFG_WRITE (R508): `w` written to FLT_CFG of `slot`. -/
def execFaultCfgWrite (slot : Fin 256) (w : Word) (s : State) : Host.Outcome State Fault Refusal := .next (s.fltCfgWrite slot w.toNat)

/-- FAULT_ESCALATION (R507). -/
def execFaultEscalation (slot : Fin 256) (s : State) : Host.Outcome State Fault Refusal := .next (s.escalate slot)

/-- TEMPERATURE_SAMPLE (R503): the sensor's code. -/
def execTemperatureSample (code : BitVec 16) (s : State) : Host.Outcome State Fault Refusal := .next (s.tempSample code.toNat)

/-- CONFIG_PARITY_SWEEP (R510); `bad`: a word fails. -/
def execConfigParitySweep (bad : Bool) (s : State) : Host.Outcome State Fault Refusal := .next (if bad then s.selfFault 0 else s)

/-- COLLECTOR_LOCKSTEP_MISMATCH (R510). -/
def execCollectorLockstepMismatch (s : State) : Host.Outcome State Fault Refusal := .next (s.selfFault 1)

/-- MGMT_LOCKSTEP_MISMATCH (R502). -/
def execMgmtLockstepMismatch (s : State) : Host.Outcome State Fault Refusal := .next s.mgmtMismatch

/-- MGMT_SRAM_ECC (R502) at a byte address of management SRAM; the fault's detail is address [18:3] (R501). -/
def execMgmtSramEcc (a : BitVec 19) (s : State) : Host.Outcome State Fault Refusal := .next (s.fault 3 (a.toNat / 8))

/-- ELYTRA_ENTER_COMMAND (R509): `w`, with ENTER = 1, written to FLT_CMD. -/
def execElytraEnterCommand (w : Word) (s : State) : Host.Outcome State Fault Refusal := .next (s.fltCmdWrite w.toNat)

/-- ELYTRA_EXIT_COMMAND (R512): `w`, with EXIT = 1, written to FLT_CMD. -/
def execElytraExitCommand (w : Word) (s : State) : Host.Outcome State Fault Refusal := .next (s.fltCmdWrite w.toNat)

end Sys2Proof.Machine
end

