-- ==== Sys2Proof/Machine/Gpio.lean ====
section
/-! DEFINITION. GPIO, the I2C controllers and MDIO (spec/22_pins_electrical.md, R526, R528, R529, R539). -/

namespace Sys2Proof.Machine
namespace State

/-- A write or a GO is ignored (R539). -/
def gpioReject (s : State) : State := s.wr GPIO_STAT_CFGREJ 1

/-- The event line "mains boundary": high for 1 µs from each boundary on (R117). -/
def boundaryLine (s : State) : Bool :=
  match s.pins.boundaryAt with
  | some t => s.tmu.elapsed < t + 1000 * 2 ^ 32
  | none => false

/-- What OSEL of pin `p` selects (R88, R117, R526, R539): GPIO_OUT, a compare event line, or the mains boundary line. -/
def pinSource (s : State) (p : Nat) : Bool :=
  let k := s.rd GPIO_PIN_OSEL p
  if k = 0 then s.bitAt GPIO_OUT_LEVEL p else if k = 9 then s.boundaryLine else Tab.get s.pins.line (k - 1) false

/-- The level that the hub drives at pin `p`'s ball (R539): none for an input, and for an open-drain output that is high. -/
def pinDrive (s : State) (p : Nat) : Option Bool :=
  let level := s.pinSource p != s.on GPIO_PIN_POL p
  match s.rd GPIO_PIN_MODE p with
  | 1 => some level
  | 2 => if level then none else some false
  | _ => none

/-- The management GPIO interrupt: some EVST bit whose EVEN bit is set (R539). -/
def gpioIrq (s : State) : Bool := s.rd GPIO_EVST_EDGE &&& s.rd GPIO_EVEN_EN != 0

/-- A level change of pin `p` is accepted once it has held for the filter (R526): the level at the ball, and the age of its first transition in 2^-32 ns. -/
def gpioEdge (s : State) (p : Nat) (ball : Bool) (ago : Nat) : State :=
  let level := ball != s.on GPIO_PIN_POL p
  if s.bitAt GPIO_IN_LEVEL p == level || ago < s.rd GPIO_PIN_FILT p * 4000 * 2 ^ 32 then s
  else
    let s1 := s.putBit GPIO_IN_LEVEL p level
    let kind := s.rd GPIO_PIN_EDGE p
    let s2 := if kind = 3 || (kind = 1 && level) || (kind = 2 && !level) then s1.putBit GPIO_EVST_EDGE p true else s1
    let x : GpioEdge := { pin := p, fall := !level, time := Wide.ofUnits (s.tmu.tod.units - ago), traced := s.on TMU_STAT_TVALID,
                          entries := s.edgeEntries p (!level) }
    if s2.gpio.queue.length ≥ 64 then (s2.wr GPIO_STAT_TSOVF 1).sat GPIO_STAT_TSLOST
    else { s2 with gpio := { s2.gpio with queue := s2.gpio.queue ++ [x] } }

/-! I2C (R528). -/

/-- STRETCH has passed since the command of bus `b` began: the bus, or a target's clock, can have been waited for that long (R528). -/
def stretched (s : State) (b : Nat) : Bool := s.ran (.stretch b) (s.rd I2C_CFG_STRETCH b * 1000000)

/-- A write of GPIO_I2Cb_CMD. -/
def i2cCmdWrite (s : State) (b w : Nat) : State :=
  if !w.testBit 31 then s
  else if s.on I2C_STAT_BUSY b || !s.on I2C_CFG_EN b then s.gpioReject
  else { ((s.arm (.stretch b) 0).wr I2C_STAT_BUSY 1 b) with gpio := { s.gpio with
           i2cCmd := Tab.put s.gpio.i2cCmd b (w % 2 ^ 31) 0,
           i2cHold := if w.testBit 30 then Tab.put s.gpio.i2cHold b true false else s.gpio.i2cHold } }

/-- The controller of bus `b` gives the bus up. -/
def i2cFree (s : State) (b : Nat) : State := { s with gpio := { s.gpio with i2cHold := Tab.put s.gpio.i2cHold b false false } }

/-- The command of bus `b` ends. -/
def i2cEnd (s : State) (b : Nat) : State := ((s.disarm (.stretch b)).wr I2C_STAT_BUSY 0 b).wr I2C_STAT_DONE 1 b

/-- The command ends as the bus answered: 0 done, 1 written byte not acknowledged, 2 arbitration lost, 3 bus not free at START; `data`: the byte read. -/
def i2cDone (s : State) (b outcome : Nat) (data : Byte) : State :=
  let c := Tab.get s.gpio.i2cCmd b 0
  if !s.on I2C_STAT_BUSY b then s
  else
    let s1 := s.i2cEnd b
    let read := c.testBit 28
    let stop := c.testBit 29
    match outcome with
    | 2 => (s1.wr I2C_STAT_ARBLOST 1 b).i2cFree b
    | 3 => if c.testBit 30 && s.stretched b then (s1.wr I2C_STAT_BUSERR 1 b).i2cFree b else s
    | o =>
      let s2 := if read then s1.wr I2C_STAT_RXDATA data.toNat b else if o = 1 then s1.wr I2C_STAT_NACKRX 1 b else s1
      if stop then s2.i2cFree b else s2

/-- SCL has been stretched beyond STRETCH: nine clocks and a STOP follow. -/
def i2cStretch (s : State) (b : Nat) : State :=
  if s.on I2C_STAT_BUSY b && s.stretched b then ((s.i2cEnd b).wr I2C_STAT_TIMEOUT 1 b).i2cFree b else s

/-! MDIO (R529). -/

/-- The OP of a command is refused. -/
def mdioBad (w : Nat) : Bool := !w.testBit 30 && (bitsOf w 29 28 = 0 || bitsOf w 29 28 = 3)

/-- The command reads. -/
def mdioReads (w : Nat) : Bool := bitsOf w 29 28 ≥ 2

/-- A write of GPIO_MDIO_CMD. -/
def mdioCmdWrite (s : State) (w : Nat) : State :=
  if !w.testBit 31 then s
  else if s.on MDIO_STAT_BUSY || !s.on MDIO_CFG_EN || mdioBad w then s.gpioReject
  else { (s.wr MDIO_STAT_BUSY 1) with gpio := { s.gpio with mdioCmd := w % 2 ^ 31 } }

/-- The frame ends; `resp`: the second turnaround bit of a read was driven low. -/
def mdioDone (s : State) (resp : Bool) (data : Nat) : State :=
  if !s.on MDIO_STAT_BUSY then s
  else
    let s1 := (s.wr MDIO_STAT_BUSY 0).wr MDIO_STAT_DONE 1
    if !mdioReads s.gpio.mdioCmd then s1
    else if resp then s1.wr MDIO_STAT_RDATA data
    else s1.wr MDIO_STAT_NORESP 1

/-- A plain write of a GPIO register, with CFGREJ where it carries an invalid code (R539). -/
def gpioPlain (s : State) (off w : Nat) : State :=
  match findReg off with
  | none => s
  | some (_, r, _, _) =>
    let bad := r.flds.any (fun F => (F.acc == .rw || F.acc == .rwl) && !F.codeOk (bitsOf w F.hi F.lo))
    (if bad then s.gpioReject else s).writeReg off w

/-- A write of GPIO_PINp: GPIO_IN shows the accepted level after POL (R526), so it turns with POL; that is no edge. -/
def pinWrite (s : State) (p off w : Nat) : State :=
  let s1 := s.gpioPlain off w
  if s1.on GPIO_PIN_POL p == s.on GPIO_PIN_POL p then s1 else s1.putBit GPIO_IN_LEVEL p (!s.bitAt GPIO_IN_LEVEL p)

/-- A write of GPIO_STAT: TSLOST clears with TSOVF. -/
def gpioStatWrite (s : State) (w : Nat) : State :=
  let s1 := s.writeReg 0x250004 w
  if w.testBit 1 then s1.wr GPIO_STAT_TSLOST 0 else s1

/-- Writes of GPIO registers that do more than store their fields. -/
def gpioWrite (s : State) (off w : Nat) : Option State :=
  let o := off - 0x250000
  if off < 0x250000 || off ≥ 0x260000 || off % 4 ≠ 0 then none
  else if o = 4 then some (s.gpioStatWrite w)
  else if o = 0x204 || o = 0x214 then some (s.i2cCmdWrite ((o - 0x204) / 0x10) w)
  else if o = 0x244 then some (s.mdioCmdWrite w)
  else if 0x100 ≤ o && o < 0x180 then some (s.pinWrite ((o - 0x100) / 4) off w)
  else if (findReg off).isSome then some (s.gpioPlain off w)
  else none

end State

/-- GPIO_EDGE (R526): pin `p`'s ball has held a new level for its filter; the change began `ago` × 2^-32 ns before. -/
def execGpioEdge (p : Fin 32) (ball : Bool) (ago : Nat) (s : State) : Host.Outcome State Fault Refusal := .next (s.gpioEdge p ball ago)

/-- I2C_WRITE_BYTE (R528): `w`, with READ = 0, written to GPIO_I2Cb_CMD. -/
def execI2cWriteByte (b : Fin 2) (w : Word) (s : State) : Host.Outcome State Fault Refusal := .next (s.i2cCmdWrite b w.toNat)

/-- I2C_READ_BYTE (R528): `w`, with READ = 1, written to GPIO_I2Cb_CMD. -/
def execI2cReadByte (b : Fin 2) (w : Word) (s : State) : Host.Outcome State Fault Refusal := .next (s.i2cCmdWrite b w.toNat)

/-- I2C_COMMAND_DONE (R528): what the bus answered. -/
def execI2cCommandDone (b : Fin 2) (outcome : Fin 4) (data : Byte) (s : State) : Host.Outcome State Fault Refusal :=
  .next (s.i2cDone b outcome data)

/-- I2C_STRETCH_TIMEOUT (R528). -/
def execI2cStretchTimeout (b : Fin 2) (s : State) : Host.Outcome State Fault Refusal := .next (s.i2cStretch b)

/-- MDIO_C22_WRITE (R529): the word written to GPIO_MDIO_CMD. -/
def execMdioC22Write (w : Word) (s : State) : Host.Outcome State Fault Refusal := .next (s.mdioCmdWrite w.toNat)

/-- MDIO_C22_READ (R529). -/
def execMdioC22Read (w : Word) (s : State) : Host.Outcome State Fault Refusal := .next (s.mdioCmdWrite w.toNat)

/-- MDIO_C45_ADDRESS (R529). -/
def execMdioC45Address (w : Word) (s : State) : Host.Outcome State Fault Refusal := .next (s.mdioCmdWrite w.toNat)

/-- MDIO_C45_WRITE (R529). -/
def execMdioC45Write (w : Word) (s : State) : Host.Outcome State Fault Refusal := .next (s.mdioCmdWrite w.toNat)

/-- MDIO_C45_READ_INCREMENT (R529). -/
def execMdioC45ReadIncrement (w : Word) (s : State) : Host.Outcome State Fault Refusal := .next (s.mdioCmdWrite w.toNat)

/-- MDIO_C45_READ (R529). -/
def execMdioC45Read (w : Word) (s : State) : Host.Outcome State Fault Refusal := .next (s.mdioCmdWrite w.toNat)

/-- MDIO_FRAME_DONE (R529). -/
def execMdioFrameDone (resp : Bool) (data : BitVec 16) (s : State) : Host.Outcome State Fault Refusal := .next (s.mdioDone resp data.toNat)

end Sys2Proof.Machine
end

