-- ==== Sys2Proof/Machine/Registers.lean ====
section
/-! DEFINITION. Accesses to the hub's address space in BAR0 (R15, R18, R20 to R23, R46 to R48): register writes with what each block adds to a plain write, register reads with what the registers show of other state, the scratchpad window, and the clearing of counters. -/

namespace Sys2Proof.Machine

/-- The scratchpad window holds these `n` bytes (R45, R47). -/
def padWindow (off n : Nat) : Bool := 0x1000000 ≤ off && off + n ≤ 0x1200000

/-- The words of the endpoint memory (R318). -/
def epWindow (off : Nat) : Bool := 0x58000 ≤ off && off < 0x5C000

/-- An offset names a register or a word of a block's memory (R46). -/
def assigned (off : Nat) : Bool := epWindow off || (findReg off).isSome

/-- An access of 1, 2, 4 or 8 bytes to the scratchpad window, at an offset that is a multiple of its size (R47): its bank, and the access that the master presents. -/
def padAccessOf (m : Fin 22) (off n : Nat) (write : Bool) (v : Nat) : Nat × PadAccess :=
  let o := off % 0x10000
  let k := o % 8
  ((off - 0x1000000) / 0x10000,
   { master := m, word := Fin.ofNat 8192 (o / 8), write := write, data := BitVec.ofNat 64 (v * 256 ^ k), be := BitVec.ofNat 8 ((2 ^ n - 1) * 2 ^ k), ecc := 0 })

namespace State

/-- A write of `n` bytes to the scratchpad window (R47). -/
def padStore (s : State) (m : Fin 22) (off n v : Nat) : State :=
  let (b, a) := padAccessOf m off n true v
  s.padCycle b [a]

/-- A read of `n` bytes from the scratchpad window (R47): the value read. -/
def padLoad (s : State) (m : Fin 22) (off n : Nat) : State × Nat :=
  let (b, a) := padAccessOf m off n false 0
  let s1 := s.padCycle b [a]
  (s1, Tab.get s1.bnk.read m 0 / 256 ^ (off % 8) % 256 ^ n)

/-- An access to an offset that no block occupies (R46): the first such offset is kept while the source's status stands. -/
def unmapped (s : State) (off : Nat) : State :=
  let was := s.fltStatus 9
  let d := s.rd FLT_DET_DETAIL 9
  (s.fault 9 (bitsOf off 17 2)).when was (·.wr FLT_DET_DETAIL d 9)

/-- Writes of FAB registers that do more than store their fields. -/
def fabWrite (s : State) (off w : Nat) : Option State :=
  if off = 0x180000 then some (s.selfWrite w)
  else if off = 0x180004 then some (s.regionWrite w)
  else if off = 0x180010 then some (if w.testBit 31 then s.ctxCommand (bitsOf w 18 16) (bitsOf w 7 0) else s)
  else if 0x190000 ≤ off && off < 0x191FA0 then some (s.ctxWordWrite ((off - 0x190000) / 0x20) (off % 0x20 / 4) w)
  else if 0x1A0000 ≤ off && off < 0x1A0400 then some (s.dlistWrite ((off - 0x1A0000) / 4) w)
  else if off = 0x1B0000 then some ((s.writeReg off w).when (w.testBit 30) ddFlush)
  else if off = 0x1B0008 then some (s.ringCfgWrite w)
  else if (0x181000 ≤ off && off < 0x1812C0) || (0x1B1000 ≤ off && off < 0x1B12C0) then some (s.writeReg off w).holdsCheck
  else none

/-- Counter-clear registers that no block's own writes name (R18). -/
def clearWrite (s : State) (off w : Nat) : Option State :=
  if off = 0x180060 then some (s.clearBits FAB_CNT_COUNT 8 w)
  else if off = 0x1B0060 then some ((s.clearBits FAB_DD_CNT_COUNT 8 w).when (w.testBit 8) (·.wr FAB_RING_STAT_RSMREJ 0))
  else if off = 0x140060 then some (s.clearBits SHP_CNT_COUNT 6 w)
  else if off = 0x210060 then some (s.clearBits KEY_CNT_COUNT 4 w)
  else if off = 0xD8060 then some (s.clearBits TRK_KL2_CNT_COUNT 8 w)
  else if 0xD00C0 ≤ off && off < 0xD40C0 && off % 0x1000 = 0xC0 then
    some (s.each (List.range 16) (fun s i => s.when (w.testBit i) (·.wr TRK_CNT_COUNT 0 ((off - 0xD0000) / 0x1000) i)))
  else none

/-- What the blocks add to a plain write: the first that has something to add at this offset. -/
def blockWrites (s : State) (off w : Nat) (mgmt : Bool) : List (Option State) :=
  match off / 0x10000 with
  | 0x18 | 0x19 | 0x1A | 0x1B => [s.clearWrite off w, s.fabWrite off w]
  | 0x0A => [s.tmuWrite off w]
  | 0x0B => [s.cycWrite off w]
  | 0x21 => [s.clearWrite off w, s.keyWrite off w mgmt]
  | 0x14 | 0x15 | 0x16 | 0x17 => [s.clearWrite off w, s.shpWrite off w]
  | 0x0D => [s.clearWrite off w, s.trkWrite off w]
  | 0x10 | 0x11 | 0x12 | 0x13 => [s.xswWrite off w]
  | 0x0E => [s.edgWrite off w]
  | 0x0C => [s.lneWrite off w]
  | 0x1C | 0x1D => [s.tenWrite off w mgmt]
  | 0x1E => [s.dspWrite off w]
  | 0x05 => [s.usbWrite off w]
  | 0x06 | 0x07 => [s.rngWrite off w]
  | 0x1F => [s.stoWrite off w]
  | 0x20 => [s.serWrite off w]
  | 0x09 => [s.dmaWrite off w]
  | 0x23 => [s.drcWrite off w]
  | 0x08 => [s.brgWrite off w]
  | 0x03 => [s.hswWrite off w]
  | 0x04 => [s.updWrite off w]
  | 0x00 => [s.genWrite off w]
  | 0x02 => [s.pwrWrite off w]
  | 0x22 => [s.fltWrite off w]
  | _ => [s.gpioWrite off w]

/-- An aligned 32-bit write at a BAR0 offset (R15, R20 to R23); `mgmt`: from the management address space. -/
def regWrite (s : State) (off w : Nat) (mgmt : Bool) : State :=
  if off % 4 ≠ 0 then s
  else if padWindow off 4 then s.padStore (if mgmt then 16 else 17) off 4 w
  else if epWindow off then s.epMemWrite (off - 0x58000) w
  else if (findReg off).isNone then s.unmapped off
  else
    match (s.blockWrites off w mgmt).findSome? id with
    | some t => t
    | none => s.writeReg off w

/-! Reads: fields that show other state. -/

/-- The 32 cause bits of word `j` (R499). -/
def causeBits (s : State) (j : Nat) : Nat :=
  (List.range 32).foldl (fun a k => a + bit (s.fltCause (32 * j + k)) * 2 ^ k) 0

/-- What instance `(i, j)` of a field reads: its stored code, or the state that it shows. -/
def shown (s : State) (F : Field) (i j : Nat) : Nat :=
  if F = XSW_SHARED_CELLS then s.sharedFree
  else if F = XSW_RSVSUM_CELLS then s.rsvSum
  else if F = TRK_CRD_AVAIL then min (s.creditAvail i j) 65535
  else if F = TRK_CRD_HELD then min (s.rd XSW_IOCC_CELLS (8 * i + j)) 65535
  else if F = TRK_CTRL_SEALREQ then bit (s.sealRequired i)
  else if F = FLT_CAUSE_BITS then s.causeBits i
  else if F = CTX0_KEYSRC && !s.on CTX2_DIR i then s.selfPrefix * 128 + s.rd CTX0_KEYSRC i % 128
  else if F = CTX1_DEST && s.on CTX2_DIR i then s.rd CTX1_DEST i % 128
  else if F = CTX2_TUNID then s.ctxTunid i
  else if F = RNG_CTRL_EMB then bit s.embedded
  else if F = RNG_RCFG_SIDE && s.embedded then 1
  else if F = DMC_STAT_SHVALID then s.rd DMS_SHCTRL_VALID i
  else if F = USB_PORT_SVC then (s.portEntry (i + 1)).getD 255
  else s.rd F i j

/-- The word of a register's fields: unassigned bits and WO fields read 0 (R21, R23). -/
def shownWord (s : State) (fs : List Field) (i j : Nat) : Nat :=
  fs.foldl (fun a F => a + (if F.acc = .wo then 0 else s.shown F i j % 2 ^ F.width * 2 ^ F.lo)) 0

/-- Entry 0 of an array that starts at entry 1 reads 0 (R77, R173, R245, R368). -/
def readsZero (off : Nat) : Bool :=
  (0x190000 ≤ off && off < 0x190020) || off = 0xD8100 || off = 0x142000 || off = 0x70400

/-- An aligned 32-bit read at a BAR0 offset (R20, R21, R46): the word; a read of a CORR_HI removes the head of its two-step queue (R95). -/
def regRead (s : State) (off : Nat) (mgmt : Bool) : State × Nat :=
  if off % 4 ≠ 0 then (s, 0)
  else if padWindow off 4 then s.padLoad (if mgmt then 16 else 17) off 4
  else if epWindow off then
    let s1 := s.epMemRead (off - 0x58000)
    (s1, s1.readWord)
  else
    match findReg off with
    | none => (s.unmapped off, 0)
    | some (_, r, i, j) =>
      (s.when (0xA1000 ≤ off && off < 0xA1300 && off % 0x40 = 0x34) (·.tsqPop ((off - 0xA1000) / 0x40)),
       if readsZero off then 0 else s.shownWord r.flds i j)

/-! Counters cleared while they count (R18). -/

/-- The one-dimensional counter arrays and the offset of their counter-clear registers. -/
def clearOne : List (Nat × Field × Nat) :=
  [(0x180060, FAB_CNT_COUNT, 8), (0x1B0060, FAB_DD_CNT_COUNT, 8), (0x100080, XSW_CNT_COUNT, 12), (0x140060, SHP_CNT_COUNT, 6),
   (0x1C0110, TEN_CNT_COUNT, 4), (0x1F0060, STO_CNT_COUNT, 8), (0x20060, PWR_CNT_COUNT, 4), (0x210060, KEY_CNT_COUNT, 4),
   (0x220060, FLT_CNT_COUNT, 4), (0x230060, DRC_CNT_COUNT, 4), (0x300C0, HSW_CNT_COUNT, 8), (0x40060, UPD_CNT_COUNT, 8),
   (0x50068, USB_CNT_COUNT, 9), (0x6001C, PCX_CNT_COUNT, 3), (0x70060, RNG_CNT_COUNT, 6), (0x80060, BRG_CNT_COUNT, 6),
   (0x90060, DMA_CNT_COUNT, 4), (0xD8060, TRK_KL2_CNT_COUNT, 8)]

/-- The arrays with one set of counters for each instance: offset and stride of the counter-clear registers, instances, counters. -/
def clearTwo : List (Nat × Nat × Nat × Field × Nat) :=
  [(0xD00C0, 0x1000, 4, TRK_CNT_COUNT, 16), (0xE0080, 0x400, 8, EDG_CNT_COUNT, 10), (0x1E107C, 0x1000, 2, HD_CNT_COUNT, 6)]

/-- The counters of a lane that bit `b` of its LNE_CNTCLR clears (a 48-bit count stands at 1 when its low word does). -/
def laneCounters (b : Nat) : List Field :=
  match b with
  | 0 => [LNE_CNT_HDR_COUNT]
  | 1 => [LNE_CNT_BIP_COUNT]
  | 2 => [LNE_CNT_ACQ_LOCKLOSS, LNE_CNT_ACQ_ACQFAIL]
  | 3 => [LNE_PRBS_ERR_COUNT, LNE_PRBS_RELOCK, LNE_PRBS_BITS_LO_BITS_LO]
  | _ => []

/-- The offset of a BNK_MSTATm, whose bits 31 and 30 clear COLLCNT and DENYCNT (R264). -/
def masterWord (off : Nat) : Bool := 0x1D0300 ≤ off && off < 0x1D0300 + 4 * 22 && off % 4 = 0

/-- The write-to-clear counters of the register at an offset, numbered from 0 (largest-value registers are none). -/
def wordCounters (off b : Nat) : List (Field × Nat × Nat) :=
  match findReg off with
  | none => []
  | some (_, r, i, j) =>
    match (r.flds.filter (fun F => F.acc == .cnt && F != SHP_DEPTH_MAX_CELLS && F != SHP_DELAY_MAX_NS))[b]? with
    | some F => [(F, i, j)]
    | none => []

/-- The counters that bit `b` of the counter-clear register at an offset clears, or counter `b` of a write-to-clear register. -/
def countersOf (off b : Nat) : List (Field × Nat × Nat) :=
  match clearOne.find? (fun x => x.1 == off) with
  | some (_, F, n) => if b < n then [(F, b, 0)] else if off = 0x1B0060 && b = 8 then [(FAB_RING_STAT_RSMREJ, 0, 0)] else []
  | none =>
    match clearTwo.find? (fun x => x.1 ≤ off && (off - x.1) % x.2.1 == 0 && (off - x.1) / x.2.1 < x.2.2.1) with
    | some (o, str, _, F, n) => if b < n then [(F, (off - o) / str, b)] else []
    | none =>
      if 0xC0000 ≤ off && off < 0xC7000 && off % 0x400 = 0x48 then (laneCounters b).map (fun F => (F, (off - 0xC0000) / 0x400, 0))
      else if masterWord off then
        if b = 31 then [(BNK_MSTAT_COLLCNT, (off - 0x1D0300) / 4, 0)]
        else if b = 30 then [(BNK_MSTAT_DENYCNT, (off - 0x1D0300) / 4, 0)] else []
      else if off = 0x201004 then (if b = 26 then [(IRIGI_STAT_BADFRAME, 0, 0)] else [])
      else wordCounters off b

/-- A clear of counters (R18): `w` is written at the offset, and the counters of the bits of `inc` that it clears advance in the same cycle and read 1. -/
def counterClear (s : State) (off w inc : Nat) : State :=
  let word := clearOne.any (fun x => x.1 == off) || clearTwo.any (fun x => x.1 ≤ off && (off - x.1) % x.2.1 == 0 && (off - x.1) / x.2.1 < x.2.2.1) ||
    (0xC0000 ≤ off && off < 0xC7000 && off % 0x400 = 0x48) || masterWord off || off = 0x201004
  (s.regWrite off w false).each (List.range 32) (fun s b =>
    if inc.testBit b && (w.testBit b || !word) then s.each (countersOf off b) (fun s x => s.wr x.1 1 x.2.1 x.2.2) else s)

end State

/-- A written word without the W1C bits that hardware sets in the same cycle, which stay set (R23). -/
def hwWins (off w hw : Nat) : Nat :=
  match findReg off with
  | none => w
  | some (_, r, _, _) =>
    (r.flds.filter (fun F => F.acc == .w1c)).foldl (fun w F =>
      setBits w F.hi F.lo (bitsOf w F.hi F.lo - (bitsOf w F.hi F.lo &&& bitsOf hw F.hi F.lo))) w

/-- A word written to a route entry whose STEER hardware changes in the same cycle: the written STEER is lost (R187). -/
def State.steerWins (s : State) (off w hw : Nat) : Nat :=
  if 0x181000 ≤ off && off < 0x1812C0 then
    match findReg off with
    | some (_, r, i, _) =>
      (r.flds.filter (fun F => F.acc == .rw && F.hi == 28 && F.lo == 28)).foldl (fun w F =>
        if hw.testBit 28 then setBits w 28 28 (s.rd F i) else w) w
    | none => w
  else w

/-- REGISTER_WRITE (R15, R20 to R23) at an offset of BAR0; `mgmt`: from the management address space; `hw`: bits that hardware sets in the cycle of the write, by the command before it. -/
def execRegisterWrite (off : BitVec 26) (w : Word) (mgmt : Bool) (hw : Word) (s : State) : Host.Outcome State Fault Refusal :=
  .next (s.regWrite off.toNat (hwWins off.toNat (s.steerWins off.toNat w.toNat hw.toNat) hw.toNat) mgmt)

/-- UNALIGNED_ACCESS (R22): an access to the register windows that is no aligned 32-bit access; a read returns 0. -/
def execUnalignedAccess (read : Bool) (s : State) : Host.Outcome State Fault Refusal :=
  .next (if read then { s with readWord := 0 } else s)

/-- UNMAPPED_REGISTER_ACCESS (R46): an aligned access to an offset that no block occupies; a read returns 0. -/
def execUnmappedRegisterAccess (off : BitVec 26) (read : Bool) (s : State) : Host.Outcome State Fault Refusal :=
  let o := off.toNat / 4 * 4
  let s1 := if assigned o || padWindow o 4 then s else s.unmapped o
  .next (if read then { s1 with readWord := 0 } else s1)

/-- BLOCK_LOCK_SET (R48): `w`, with a block's lock bit set, written to the register that holds the lock bit. -/
def execBlockLockSet (off : BitVec 26) (w : Word) (mgmt : Bool) (s : State) : Host.Outcome State Fault Refusal :=
  .next (s.regWrite off.toNat w.toNat mgmt)

/-- COUNTER_CLEAR (R18): `w` written to a counter-clear register or a write-to-clear counter; `inc`: counters that advance in the same cycle. -/
def execCounterClear (off : BitVec 26) (w inc : Word) (s : State) : Host.Outcome State Fault Refusal :=
  .next (s.counterClear off.toNat w.toNat inc.toNat)

end Sys2Proof.Machine
end

