-- ==== Sys2Proof/Machine/Boot.lean ====
section
/-! DEFINITION. The boot ROM (spec/17_startup.md, R433 to R441) and the keys it raises (R404, R409 to R411, R422). -/

namespace Sys2Proof.Machine

/-- Stages of the boot (R446). -/
def bootFuses : Nat := 0
def bootKeys : Nat := 1
def bootSram : Nat := 2
def bootTable : Nat := 3
def bootMgmt : Nat := 4
def bootConfig : Nat := 5
def bootEngines : Nat := 6
def bootRun : Nat := 7
def bootHalt : Nat := 8

/-- Codes of BOOT_IMG and BOOT_ENG (R446). -/
inductive BootCode where
  | ok | format | signer | rollback | badSig | digest | length | none | pollTo | noDram | badRecord
  deriving DecidableEq, Repr

def BootCode.code : BootCode → Nat
  | .ok => 0 | .format => 1 | .signer => 2 | .rollback => 3 | .badSig => 4 | .digest => 5 | .length => 6
  | .none => 7 | .pollTo => 8 | .noDram => 9 | .badRecord => 10

/-- The boot code of a check of R420. -/
def BootCode.ofKey : KeyCode → BootCode
  | .ok => .ok | .signer => .signer | .rollback => .rollback | .badSig => .badSig | .digest => .digest | _ => .format

/-- Fuse rows that the shadow hides (R404): ROOTA, ROOTB, HELPER, PUFCHK. -/
def rowHidden (r : Nat) : Bool := (0x50 ≤ r && r < 0x5C) || (0x60 ≤ r && r < 0x6C) || (0x100 ≤ r && r < 0x200)

/-- The valid mark of a wrapped root (R402). -/
def rootMark : Nat := 0xA5A5A5A5

/-- Address in the scratchpad of bank 31, which holds the configuration image (R436). -/
def cfgBase : Nat := 31 * 0x10000

/-- A record of a configuration image (R437). -/
structure CfgRecord where
  op : Nat
  zero : Nat
  off : Nat
  value : Nat
  mask : Nat
  deriving DecidableEq, Repr

/-- A record from its 12 bytes. -/
def cfgRecord (b : List Byte) : CfgRecord :=
  let c := ofLe (b.take 4)
  { op := bitsOf c 31 28, zero := bitsOf c 27 26, off := bitsOf c 25 0, value := ofLe ((b.drop 4).take 4), mask := ofLe ((b.drop 8).take 4) }

/-- A record that the scan refuses (R438); `last`: it is the last record of the body. -/
def CfgRecord.bad (r : CfgRecord) (last : Bool) : Bool :=
  r.op > 3 || r.zero ≠ 0 || (r.op ≠ 1 && r.mask ≠ 0) || ((r.op == 2 || r.op == 3) && r.off ≠ 0) || (r.op == 3 && r.value ≠ 0) ||
  (r.op == 3) != last ||
  (r.op ≤ 1 && (r.off < 0x10000 || (0x240000 ≤ r.off && r.off < 0x250000) || (0x210000 ≤ r.off && r.off < 0x220000) ||
    (0x11F0000 ≤ r.off && r.off < 0x1200000) || r.off > 0x11FFFFC))

/-- The records of a body, `n` of them, all pass the scan (R438). -/
def cfgScan : Nat → List Byte → Bool
  | 0, _ => false
  | 1, b => !(cfgRecord b).bad true
  | n + 2, b => !(cfgRecord b).bad false && cfgScan (n + 1) (b.drop 12)

namespace State

/-- The ROM is in a stage: the chip reset is released and the processor not stopped (R428, R431). -/
def romIn (s : State) (st : Nat) : Bool :=
  !s.boot.held && s.rd BOOT_STAT_STAGE == st && !s.on GEN_RSTCAUSE_MGMTSTOP && !s.boot.dead

def bootStage (s : State) (st : Nat) : State := s.wr BOOT_STAT_STAGE st

/-- The boot halts with a code (R433). -/
def bootHalts (s : State) (code : Nat) : State := ((s.bootStage bootHalt).wr BOOT_STAT_HALT code).causeOn 7 code

/-- The fuse shadow and the registers that fuses give (R404, R426, R441, R445, R484). -/
def fuseLoad (s : State) : State :=
  let s1 := s.each (List.range 512) (fun s r => s.wr BOOT_FUSE_ROW (if rowHidden r then 0 else s.fuse r) r)
  let s2 := ((s1.wr GEN_ID_GRADE (s1.fuse 2)).wr GEN_DEVID_LO_DEVID (s1.fuse 0)).wr GEN_DEVID_HI_DEVID (s1.fuse 1)
  let s3 := (((s2.wr USB_HUBID_VID (s2.fuse 4 / 2 ^ 16)).wr USB_HUBID_PID (s2.fuse 4)).wr USB_FNID_VID (s2.fuse 5 / 2 ^ 16)).wr USB_FNID_PID (s2.fuse 5)
  let s4 := (s3.wr UPD_SVID_SVID (s3.fuse 6)).wr LNE_GLB_VSTEP_VSTEP (s3.fuse 0x88)
  let s5 := if (List.range 0x23).any (fun k => s4.fuse (0x70 + k) == 0) then s4.wr BOOT_STAT_CALMISS 1 else s4
  ((s5.fuseShow.hswCalLoad).targetsShow).each (List.range 12) latencyConfig

/-- The debug port is open (R405, R411). -/
def debugOpen (s : State) : Bool :=
  let lc := s.lifeCycle
  lc ≤ 1 || lc == 4 || ((lc == 2 || lc == 3) && !s.on KEY_STAT_DEBUGLOCK && s.on GEN_STRAP_DBG_EN)

/-- A row carries the code of R403: all but LC, PROT and ARB do. -/
def rowCoded (r : Nat) : Bool := r < 8 || 0x10 ≤ r

/-- What the reading of the fuses finds (R403): each corrected bit counts in KEY_CNT0, and a row with an uncorrectable error reads as blank from now on. -/
def fuseRead (s : State) (cor bad : List Nat) : State :=
  let s1 := s.each (cor.filter (fun r => rowCoded r && !bad.contains r)) (fun s _ => s.sat KEY_CNT_COUNT 0)
  { s1 with keys := { s1.keys with fuseBad := bad.filter rowCoded } }

/-- FUSES (R403, R407, R433). -/
def bootFusesRun (s : State) (cor bad : List Nat) : State :=
  if !s.romIn bootFuses then s
  else
    let s0 := s.fuseRead cor bad
    let s1 := (s0.burnOut s0.lifeCycle).fuseLoad
    let s2 := s1.wr KEY_STAT_DEBUG (bit s1.debugOpen)
    if s2.lifeCycle = 0 then s2.bootHalts 1
    else if s2.lifeCycle = 5 then s2.bootHalts 2
    else s2.bootStage bootKeys

/-! Keys (R409 to R411, R422). -/

/-- The IV that wraps a root: area byte 0x41 or 0x42 (R410). -/
def rootIv (s : State) (area : Byte) : List Byte := [area, 0, 0, 0] ++ beBytes 8 s.devId

/-- Base row of a root area: `b` false A, true B (R402). -/
def rootRow (b : Bool) : Nat := if b then 0x60 else 0x50
def rootArea (b : Bool) : Byte := if b then 0x42 else 0x41

/-- The root that an area's fuses hold under the PUF key (R410). -/
def rootUnwrap (s : State) (puf : List Byte) (b : Bool) : Option (List Byte) :=
  let ct := s.fuseBytes (rootRow b) 32
  let tag := s.fuseBytes (rootRow b + 8) 16
  if s.fuse (rootRow b + 12) = rootMark && gcmTagOk puf (s.rootIv (rootArea b)) (ascii "SCARAB-ROOT") ct tag then
    some (padTo 32 (gcmPlain puf (s.rootIv (rootArea b)) ct))
  else none

/-- An area that no attempt has touched (R411). -/
def areaBlank (s : State) (b : Bool) : Bool := (List.range 13).all (fun k => s.fuse (rootRow b + k) == 0)

/-- The root is generated in an area (R411); `r`: 0 it succeeds, 1 the health tests fail, 2 a write fails. The root where it succeeds. -/
def rootMake (s : State) (puf : List Byte) (b : Bool) (r : Nat) : State × Option (List Byte) :=
  if !s.areaBlank b then (s, none)
  else if r = 1 then ((s.sat KEY_CNT_COUNT 3).fault 112 0, none)
  else
    let (v, s1) := s.free 256
    let root := beBytes 32 v
    let (ct, tag) := gcmSeal puf (s1.rootIv (rootArea b)) (ascii "SCARAB-ROOT") root
    if r = 2 then
      let (junk, s2) := s1.free 384
      (s2.burnBytes (rootRow b) (beBytes 48 junk), none)
    else ((s1.burnBytes (rootRow b) (padTo 32 ct ++ padTo 16 tag)).burn (rootRow b + 12) rootMark, some root)

/-- The root is in the engine: ROOT, the PUF key erased, and the device key in slots 0 and 1 (R410, R422). -/
def rootRaised (s : State) (root : List Byte) (b : Bool) : State :=
  let s1 := (s.wr KEY_STAT_ROOT 1).wr KEY_STAT_ROOTB (bit b)
  let s2 := { s1 with keys := { s1.keys with root := some root, puf := none } }
  let k := scalarOf (ofBe (kdf root (ascii "SCARAB-DEVICE") (beBytes 1 s2.lifeCycle) 448))
  (s2.fillPair 0 k (2 ^ useSign)).slotsShow

/-- No root can be had: the fault "key root unavailable" (R409, R411). -/
def rootFails (s : State) : State :=
  ({ s with keys := { s.keys with puf := if s.lifeCycle = 1 || s.lifeCycle = 4 then s.keys.puf else none } }).causeOn 111 0

/-- The root in PROVISIONED and DEPLOYED once the PUF key is there (R410, R411). -/
def rootRaise (s : State) (puf : List Byte) (ra rb : Nat) : State :=
  match s.rootUnwrap puf false with
  | some k => s.rootRaised k false
  | none =>
    match s.rootUnwrap puf true with
    | some k => s.rootRaised k true
    | none =>
      if s.lifeCycle = 2 && s.fuse 0x5C ≠ rootMark && s.fuse 0x6C ≠ rootMark then
        match s.rootMake puf false ra with
        | (s1, some k) => s1.rootRaised k false
        | (s1, none) =>
          match s1.rootMake puf true rb with
          | (s2, some k) => s2.rootRaised k true
          | (s2, none) => s2.rootFails
      else s.rootFails

/-- One attempt at the PUF key (R409), from the start-up pattern of this attempt, which is free; after the fourth mismatch none is made. -/
def pufAttempt (s0 : State) (ra rb : Nat) : State :=
  let (n, s1) := s0.free 64
  let s := { s1 with boot := { s1.boot with puf := s1.boot.puf + 1 } }
  let k := padTo 32 (Config.pufKey (s.fuseBytes 0x100 992) n)
  if s.pufMatches k then
    let s2 := s.wr KEY_STAT_PUFOK 1
    let lc := s2.lifeCycle
    if lc = 1 || lc = 4 then ({ s2 with keys := { s2.keys with puf := some k } }).bootStage bootSram
    else if s2.on KEY_STAT_DEBUG then s2.bootStage bootSram
    else (s2.rootRaise k ra rb).bootStage bootSram
  else if s.boot.puf ≥ 4 then s.rootFails.bootStage bootSram
  else s.arm .puf 10000000

/-- KEYS (R409 to R411). -/
def bootKeysRun (s : State) (ra rb : Nat) : State :=
  if s.romIn bootKeys && s.boot.puf = 0 then s.pufAttempt ra rb else s

/-- A further attempt after 10 ms without power. -/
def pufRetry (s : State) (ra rb : Nat) : State :=
  if s.romIn bootKeys && s.due .puf then (s.disarm .puf).pufAttempt ra rb else s

/-! Images (R433 to R436). -/

/-- SRAM (R433). -/
def bootSramRun (s : State) : State := if s.romIn bootSram then ({ s with sram := [] }).bootStage bootTable else s

/-- TABLE (R435). -/
def bootTableRun (s : State) : State :=
  if !s.romIn bootTable then s
  else
    match s.tableChoice with
    | none => s.bootHalts 3
    | some c => ((s.wr BOOT_STAT_TCOPY c).wr BOOT_SEQ_SEQ (s.tableSeq c)).bootStage bootMgmt

/-- The table copy that the ROM uses. -/
def bootCopy (s : State) : Nat := s.rd BOOT_STAT_TCOPY

/-- The entries of one KIND in table order. -/
def bootEntries (s : State) (kind : Nat) : List TableEntry := (s.tableList s.bootCopy).filter (fun x => x.kind == kind)

/-- The flash bytes of an entry. -/
def entryBytes (s : State) (x : TableEntry) : List Byte := Memory.read s.flash x.offset x.length

/-- An entry checked (R420, R436): its code, and its body's length. -/
def entryCheck (s : State) (x : TableEntry) (lo hi : Nat) : BootCode × Nat :=
  if x.length < lo || x.length > hi || x.offset + x.length > s.tableSpan s.bootCopy then (.length, 0)
  else
    let (c, g) := s.imageCheck (s.entryBytes x) x.kind
    (BootCode.ofKey c, g.bodyLen)

/-- The management candidates in order (R433, R436). -/
def mgmtTry (s : State) : List TableEntry → State
  | [] => s.bootHalts 4
  | x :: l =>
    match s.entryCheck x 512 491776 with
    | (.ok, _) =>
      let s1 := { s with sram := Memory.write s.sram 0 ((s.entryBytes x).take (x.length - 256)) }
      (s1.wr BOOT_IMG_MGMTENT x.index).bootStage (if s1.boot.mgmtOnly then bootRun else bootConfig)
    | (c, _) => (s.wr BOOT_IMG_MGMTCODE c.code).mgmtTry l

/-- MGMT (R433). -/
def bootMgmtRun (s : State) : State :=
  if s.romIn bootMgmt then ((s.wr BOOT_IMG_MGMTENT 63).wr BOOT_IMG_MGMTCODE 0).mgmtTry (s.bootEntries 1) else s

/-! The configuration image (R437, R438). -/

/-- Record `k` of the image in bank 31. -/
def cfgAt (s : State) (k : Nat) : CfgRecord := cfgRecord (s.padBytes (cfgBase + 12 * k) 12)

/-- The record that the ROM stands at has been applied. -/
def cfgStep (s : State) : State :=
  let s1 := (s.disarm .record).wr BOOT_CFGPOS_RECORD s.boot.cfgNext
  { s1 with boot := { s1.boot with cfgNext := s1.boot.cfgNext + 1 } }

/-- The application ends with a code. -/
def cfgEnds (s : State) (c : BootCode) : State :=
  (((s.disarm .record).wr BOOT_IMG_CFGCODE c.code).wr BOOT_CFGPOS_RECORD s.boot.cfgNext).bootStage bootEngines

/-- Up to `n` records are applied, until one waits or the last has been applied. -/
def cfgApply (s : State) : Nat → State
  | 0 => s
  | n + 1 =>
    if !s.romIn bootConfig then s
    else
      let r := s.cfgAt s.boot.cfgNext
      match r.op with
      | 0 => ((s.regWrite r.off r.value true).cfgStep).cfgApply n
      | 1 =>
        let (s1, v) := s.regRead r.off true
        if v &&& r.mask = r.value then s1.cfgStep.cfgApply n
        else if s1.armed .record then s1
        else s1.arm .record 100000000
      | 2 => s.arm .record (r.value * 1000)
      | _ => s.cfgEnds .ok

/-- Records still to be applied. -/
def cfgLeft (s : State) : Nat := s.boot.cfgLen / 12 - s.boot.cfgNext

/-- An entry's image is taken into bank 31 and applied. -/
def cfgTake (s : State) (x : TableEntry) (body : Nat) : State :=
  let s1 := { s.setPadBytes cfgBase (s.entryBytes x) with boot := { s.boot with cfgLen := body, cfgNext := 0 } }
  let s2 := s1.wr BOOT_IMG_CFGENT x.index
  s2.cfgApply s2.cfgLeft

/-- The configuration candidates in order (R433, R436, R438). -/
def cfgTry (s : State) : List TableEntry → State
  | [] => (s.wr BOOT_IMG_CFGCODE BootCode.none.code).bootStage bootEngines
  | x :: l =>
    match s.entryCheck x 268 65536 with
    | (.ok, n) =>
      if n % 12 = 0 && cfgScan (n / 12) (s.entryBytes x) then s.cfgTake x n
      else (s.wr BOOT_IMG_CFGCODE BootCode.badRecord.code).cfgTry l
    | (c, _) => (s.wr BOOT_IMG_CFGCODE c.code).cfgTry l

/-- CONFIG (R433). -/
def bootConfigRun (s : State) : State :=
  if s.romIn bootConfig && s.boot.cfgLen = 0 then s.cfgTry (s.bootEntries 3) else s

/-- The ROM applies an image and stands at a record with this OP. -/
def cfgAtOp (s : State) (op : Nat) : Bool := s.romIn bootConfig && s.boot.cfgLen ≠ 0 && (s.cfgAt s.boot.cfgNext).op == op

/-- A POLL is read again. -/
def configPoll (s : State) : State := if s.cfgAtOp 1 then s.cfgApply s.cfgLeft else s

/-- 100 ms have passed at a POLL (R438). -/
def configPollTimeout (s : State) : State :=
  if !s.cfgAtOp 1 || !s.due .record then s
  else
    let r := s.cfgAt s.boot.cfgNext
    let (s1, v) := s.regRead r.off true
    if v &&& r.mask = r.value then s.cfgApply s.cfgLeft else s1.cfgEnds .pollTo

/-- A DELAY is over (R437). -/
def configDelay (s : State) : State := if s.cfgAtOp 2 && s.due .record then s.cfgStep.cfgApply (s.cfgLeft - 1) else s

/-! Engines (R439). -/

/-- The field with the result of slot `k`. -/
def engCode (k : Nat) : Field :=
  match k with | 0 => BOOT_ENG_CODE0 | 1 => BOOT_ENG_CODE1 | 2 => BOOT_ENG_CODE2 | _ => BOOT_ENG_CODE3

/-- The candidates of slot `k` in order (R436, R439): copied and verified in place. -/
def engTry (s : State) (k : Nat) : List TableEntry → State
  | [] => s
  | x :: l =>
    if x.length ≠ s.rd TEN_IMG_LEN_LEN k * 4096 || x.offset + x.length > s.tableSpan s.bootCopy then
      (s.wr (engCode k) BootCode.length.code).engTry k l
    else
      let s1 := (s.wr TEN_IMG_INFO_VERIFIED 0 k).dramWrite (s.rd TEN_IMG_ADDR_ADDR k * 4096) (s.entryBytes x)
      match s1.verifyImage k with
      | (s2, .ok) => s2.wr (engCode k) BootCode.ok.code
      | (s2, c) => (s2.wr (engCode k) (BootCode.ofKey c).code).engTry k l

/-- The last `n` slots: those with entries are served while the DRAM is ready; the first that has waited 50 ms for it in vain ends with NODRAM. -/
def engSlots (s : State) : Nat → State
  | 0 => s.bootStage bootRun
  | n + 1 =>
    let k := 3 - n
    let l := (s.bootEntries 2).filter (fun x => x.slot == k)
    let next (s : State) : State := { s.disarm .dramWait with boot := { s.boot with eng := k + 1 } }
    if l.isEmpty then (next s).engSlots n
    else if s.on DRC_STAT_READY then (next (s.engTry k l)).engSlots n
    else if s.due .dramWait then (next (s.wr (engCode k) BootCode.noDram.code)).engSlots n
    else if s.armed .dramWait then s
    else s.arm .dramWait 50000000

/-- ENGINES (R439). -/
def bootEnginesRun (s : State) : State :=
  if s.romIn bootEngines then s.engSlots (4 - s.boot.eng) else s

/-- RUN (R433). -/
def bootRunRun (s : State) : State :=
  if !s.romIn bootRun || s.boot.running then s
  else
    let us := (s.tmu.elapsed - s.boot.rel) / (1000 * 2 ^ 32)
    let s1 := s.wr BOOT_TRUN_US (min us (2 ^ 32 - 1))
    { s1 with boot := { s1.boot with running := true } }

end State

/-- BOOT_FUSES (R403, R404, R433, R441); `cor`, `bad`: the rows in which a bit is corrected, and those with an uncorrectable error. -/
def execBootFuses (cor bad : List (Fin 512)) (s : State) : Host.Outcome State Fault Refusal :=
  .next (s.bootFusesRun (cor.map (·.val)) (bad.map (·.val)))

/-- BOOT_KEYS (R409 to R411, R422, R433); `ra`, `rb`: how a first start's attempt in area A and B goes: 0 well, 1 a health test fails, 2 a write fails. -/
def execBootKeys (ra rb : Fin 3) (s : State) : Host.Outcome State Fault Refusal := .next (s.bootKeysRun ra rb)

/-- PUF_RETRY (R409), with the outcomes of BOOT_KEYS. -/
def execPufRetry (ra rb : Fin 3) (s : State) : Host.Outcome State Fault Refusal := .next (s.pufRetry ra rb)

/-- BOOT_SRAM (R433). -/
def execBootSram (s : State) : Host.Outcome State Fault Refusal := .next s.bootSramRun

/-- BOOT_TABLE (R435). -/
def execBootTable (s : State) : Host.Outcome State Fault Refusal := .next s.bootTableRun

/-- BOOT_MGMT (R436). -/
def execBootMgmt (s : State) : Host.Outcome State Fault Refusal := .next s.bootMgmtRun

/-- BOOT_CONFIG (R438). -/
def execBootConfig (s : State) : Host.Outcome State Fault Refusal := .next s.bootConfigRun

/-- CONFIG_POLL (R437). -/
def execConfigPoll (s : State) : Host.Outcome State Fault Refusal := .next s.configPoll

/-- CONFIG_POLL_TIMEOUT (R438). -/
def execConfigPollTimeout (s : State) : Host.Outcome State Fault Refusal := .next s.configPollTimeout

/-- CONFIG_DELAY (R437). -/
def execConfigDelay (s : State) : Host.Outcome State Fault Refusal := .next s.configDelay

/-- BOOT_ENGINES (R439). -/
def execBootEngines (s : State) : Host.Outcome State Fault Refusal := .next s.bootEnginesRun

/-- BOOT_RUN (R433). -/
def execBootRun (s : State) : Host.Outcome State Fault Refusal := .next s.bootRunRun

end Sys2Proof.Machine
end

