-- ==== Sys2Proof/Machine/FarMemory.lean ====
section
/-! DEFINITION. The far memory service: order, execution and acknowledgement of memory messages (spec/15_bridge_dma.md, R376, R377, R379, R381). -/

namespace Sys2Proof.Machine

/-- STATUS of an access (R375). -/
def mstOk : Nat := 0
def mstRange : Nat := 1
def mstSize : Nat := 2
def mstBusErr : Nat := 3

namespace State

/-- Parameters of a far entry (R384): function, aperture, base. -/
def farFunc (s : State) (e : Nat) : Nat := s.param e 1 1
def farSpan (s : State) (e : Nat) : Nat := if s.farFunc e = 0 then 2 ^ s.param e 4 1 else 0x4000000
def farBase (s : State) (e : Nat) : Nat := s.param e 8 8

/-- The service can make its accesses: host memory needs a host that takes requests (R351). -/
def farReady (s : State) (e : Nat) : Bool := s.farFunc e ≠ 0 || s.hostReady

/-- A read of the BAR0 space (R379): STATUS and data. -/
def farRegRead (s : State) (a n : Nat) : State × Nat × List Byte :=
  if padWindow a n && readForm a n then
    let (b, x) := padAccessOf 17 a n false 0
    let ok := s.padAllowed b x
    let (s1, v) := s.padLoad 17 a n
    if ok then (s1, mstOk, leBytes n v) else (s1, mstBusErr, [])
  else if n ≠ 4 || a % 4 ≠ 0 then (s, mstSize, [])
  else
    let (s1, v) := s.regRead a false
    if assigned a then (s1, mstOk, leBytes 4 v) else (s1, mstBusErr, [])

/-- A write of the BAR0 space (R379): STATUS. -/
def farRegWrite (s : State) (a : Nat) (d : List Byte) : State × Nat :=
  let n := d.length
  if padWindow a n && readForm a n then
    let (b, x) := padAccessOf 17 a n true (ofLe d)
    let ok := s.padAllowed b x
    (s.padStore 17 a n (ofLe d), if ok then mstOk else mstBusErr)
  else if n ≠ 4 || a % 4 ≠ 0 then (s, mstSize)
  else (s.regWrite a (ofLe d) false, if assigned a then mstOk else mstBusErr)

/-- A read that the far service performs (R379); `err`: PCIe requests fail. -/
def farRead (s : State) (e a n : Nat) (err : Bool) : State × Nat × List Byte :=
  if a + n > s.farSpan e then (s, mstRange, [])
  else if s.farFunc e = 0 then
    if err then (s, mstBusErr, []) else (s, mstOk, Memory.read s.host (s.farBase e + a) n)
  else s.farRegRead a n

/-- A write that the far service performs (R379). -/
def farWrite (s : State) (e a : Nat) (d : List Byte) (err : Bool) : State × Nat :=
  if a + d.length > s.farSpan e then (s, mstRange)
  else if s.farFunc e = 0 then
    if err then (s, mstBusErr) else ({ s with host := Memory.write s.host (s.farBase e + a) d }, mstOk)
  else s.farRegWrite a d

/-- Executions not acknowledged (R377). -/
def setToAck (s : State) (e n : Nat) : State := { s with brg := { s.brg with toAck := Tab.put s.brg.toAck e n 0 } }

/-- A message that needs an ACK has executed; 50 µs later at most one is due (R377). -/
def ackOwed (s : State) (e : Nat) : State :=
  let n := Tab.get s.brg.toAck e 0
  (s.setToAck e (n + 1)).when (n = 0) (·.arm (.memAck e) 50000)

/-- A message that the far service sends: RDATA and WFAIL acknowledge every message before them. -/
def farAnswer (s : State) (e : Nat) (m : MemIn) : State := (s.setToAck e 0).engineSend e (memBytes m)

/-- A READ executed (R377, R379). -/
def farExecRead (s : State) (e : Nat) (m : MemIn) (err : Bool) : State :=
  let (s1, st, d) := s.farRead e m.addr m.bytes err
  let r : MemIn := { ty := memRdata, tag := m.tag, mseq := m.mseq, bytes := d.length, status := st, addr := m.addr, data := d }
  let s2 := { s1 with brg := { s1.brg with kept := Tab.put s1.brg.kept (32 * e + m.tag) (some (m.mseq, memBytes r)) none } }
  s2.farAnswer e r

/-- A WRITE executed (R379). -/
def farExecWrite (s : State) (e : Nat) (m : MemIn) (err : Bool) : State :=
  let (s1, st) := s.farWrite e m.addr m.data err
  if st = mstOk then s1.ackOwed e
  else s1.farAnswer e { ty := memWfail, mseq := m.mseq, status := st, addr := m.addr }

/-- A SIGNAL executed (R381). -/
def farExecSignal (s : State) (e : Nat) (m : MemIn) : State :=
  let s1 := (s.putBit BRG_SIGRX_LINES m.line true).brgEvent BRG_STAT_SIGEV
  s1.ackOwed e

/-- A message executed, with its count (R379, R381, R384); an empty one stands for a message that was discarded. -/
def farExec (s : State) (e : Nat) (bs : List Byte) (err : Bool) : State :=
  let m := memParse bs
  if bs.isEmpty then s
  else if m.ty = memRead then (s.memCount e 0 1).farExecRead e m err
  else if m.ty = memWriteMsg then (s.memCount e 1 1).farExecWrite e m err
  else (s.memCount e 2 1).farExecSignal e m

/-! Order (R376, R377). -/

/-- Messages held for entry `e`, and the number expected next. -/
def farHeld (s : State) (e : Nat) : List (Nat × List Byte) := Tab.get s.brg.held e []
def setFarHeld (s : State) (e : Nat) (l : List (Nat × List Byte)) : State := { s with brg := { s.brg with held := Tab.put s.brg.held e l [] } }
def setFarNext (s : State) (e : Nat) (q : Option Nat) : State := { s with brg := { s.brg with next := Tab.put s.brg.next e q none } }

/-- Held messages whose turn has come execute in order, `k` of them at most. -/
def farFollow (s : State) (e q : Nat) (err : Bool) : Nat → State
  | 0 => s.setFarNext e (some q)
  | k + 1 =>
    match (s.farHeld e).find? (fun x => x.1 == q) with
    | none => s.setFarNext e (some q)
    | some x => ((s.setFarHeld e ((s.farHeld e).erase x)).farExec e x.2 err).farFollow e ((q + 1) % 65536) err k

/-- Every held message executes in order from `q` on; the number after the last (R376). -/
def farFlush (s : State) (e q : Nat) (err : Bool) : State × Nat :=
  (List.range 8).foldl (fun (a : State × Nat) k =>
    match (a.1.farHeld e).find? (fun x => x.1 == (q + k) % 65536) with
    | none => a
    | some x => ((a.1.setFarHeld e ((a.1.farHeld e).erase x)).farExec e x.2 err, (q + k + 1) % 65536)) (s, q)

/-- `n` protocol errors. -/
def farErr (s : State) (e n : Nat) : State := s.each (List.range n) (fun s _ => s.memErr e)

/-- A version 1 message with KL3 sequence number `q` (R376). -/
def farArrive1 (s : State) (e q : Nat) (bs : List Byte) (err : Bool) : State :=
  let p := (Tab.get s.brg.next e none).getD q
  let x := signedOf 16 ((q + 65536 - p) % 65536)
  if x = 0 then (s.farExec e bs err).farFollow e ((q + 1) % 65536) err 8
  else if x < 0 then s.memErr e
  else if x < 8 then
    if (s.farHeld e).any (fun y => y.1 == q) then s.memErr e
    else (s.setFarHeld e (s.farHeld e ++ [(q, bs)])).when ((s.farHeld e).isEmpty) (·.arm (.memHold e) 2000000)
  else
    let missing := x.toNat - (s.farHeld e).length
    let s1 := (s.farFlush e p err).1
    ((s1.farExec e bs err).farErr e missing).setFarNext e (some ((q + 1) % 65536))

/-- The 2 ms of the first held message have passed (R376). -/
def farExpire (s : State) (e : Nat) (err : Bool) : State :=
  match Tab.get s.brg.next e none with
  | none => s
  | some p =>
    let h := (s.farHeld e).length
    if h = 0 || !s.svcRuns e || !s.memV1 e || !s.farReady e || !s.due (.memHold e) then s
    else
      let (s1, q) := s.farFlush e p err
      (s1.farErr e ((q + 65536 - p) % 65536 - h)).setFarNext e (some q)

/-- A version 2 message (R377), and the numbering that a near service resumes after its outcome is lost (R378). -/
def farArrive2 (s : State) (e : Nat) (bs : List Byte) (quiet err : Bool) : State :=
  let m := memParse bs
  let p := (Tab.get s.brg.next e none).getD 0
  let x := signedOf 16 ((m.mseq + 65536 - p) % 65536)
  let after := (m.mseq + 1) % 65536
  if x = 0 then (s.farExec e bs err).farFollow e after err 64
  else if 1 ≤ x && x ≤ 63 then
    if (s.farHeld e).any (fun y => y.1 == m.mseq) || (s.farHeld e).length ≥ 64 then s else s.setFarHeld e (s.farHeld e ++ [(m.mseq, bs)])
  else if -64 ≤ x && x ≤ -1 then
    match Tab.get s.brg.kept (32 * e + m.tag) none with
    | some (q, r) => if m.ty = memRead && q = m.mseq then s.engineSend e r else s
    | none => s
  else if x > 64 && quiet then (((s.setFarHeld e []).farExec e bs err)).setFarNext e (some after)
  else s.memErr e

/-- The far service of entry `e` takes its next message where that has one of the types `tys`, or is no message of R375 at all. -/
def farReceive (s : State) (e : Nat) (tys : List Nat) (err : Bool) : State :=
  if !s.svcRuns e || s.rd TEN_SVC0_TYPE e ≠ tyMemory || s.memRole e ≠ 1 || !s.farReady e then s
  else
    match (s.inbox (s.svcEngine e)).find? (fun x => x.1 == e) with
    | none => s
    | some x =>
      let v1 := s.memV1 e
      let good := memGood v1 x.2.payload && (memParse x.2.payload).ty < 0x81
      let now := s.tmu.elapsed
      let quiet := now ≥ Tab.get s.brg.heardAt e 0 + 4 * s.param e 2 1 * 100000 * 2 ^ 32
      if good && !tys.contains (memParse x.2.payload).ty then s
      else
        let s1 := (s.takeInbound e).1
        let s2 := { s1 with brg := { s1.brg with heardAt := Tab.put s1.brg.heardAt e now 0 } }
        if !good then
          let s3 := s2.memErr e
          if v1 then s3.farArrive1 e x.2.seq [] err else s3
        else if v1 then s2.farArrive1 e x.2.seq x.2.payload err
        else s2.farArrive2 e x.2.payload quiet err

/-- ACK with the last MSEQ executed (R377): after 16 executions, or 50 µs after the first not acknowledged. -/
def farAck (s : State) (e : Nat) : State :=
  let n := Tab.get s.brg.toAck e 0
  let p := (Tab.get s.brg.next e none).getD 0
  if !s.svcRuns e || s.rd TEN_SVC0_TYPE e ≠ tyMemory || s.memRole e ≠ 1 || s.memV1 e || n = 0 || (n < 16 && !s.due (.memAck e)) then s
  else s.farAnswer e { ty := memAck, mseq := (p + 65535) % 65536 }

end State

/-- MEMORY_READ_RECEIVE (R376, R377, R379); `err`: the PCIe requests of this step fail. -/
def execMemoryReadReceive (e : Fin 128) (err : Bool) (s : State) : Host.Outcome State Fault Refusal := .next (s.farReceive e [memRead] err)

/-- MEMORY_WRITE_RECEIVE (R376, R377, R379). -/
def execMemoryWriteReceive (e : Fin 128) (err : Bool) (s : State) : Host.Outcome State Fault Refusal := .next (s.farReceive e [memWriteMsg] err)

/-- SIGNAL_RECEIVE (R377, R381). -/
def execSignalReceive (e : Fin 128) (err : Bool) (s : State) : Host.Outcome State Fault Refusal := .next (s.farReceive e [memSignal] err)

/-- MEMORY_ACK_SEND (R377). -/
def execMemoryAckSend (e : Fin 128) (s : State) : Host.Outcome State Fault Refusal := .next (s.farAck e)

/-- MEMORY_HOLD_EXPIRY (R376). -/
def execMemoryHoldExpiry (e : Fin 128) (err : Bool) (s : State) : Host.Outcome State Fault Refusal := .next (s.farExpire e err)

end Sys2Proof.Machine
end

