-- ==== Sys2Proof/Machine/DmaMove.lean ====
section
/-! DEFINITION. The movement of data by a DMA channel, its end and its bus errors (spec/15_bridge_dma.md, R386 to R389, R392). -/

namespace Sys2Proof.Machine

/-- Why a movement stops: at its end, at a bus error (a write, on the destination side, cause, address), at a byte that differs (its address, the bytes before it in its unit). -/
inductive DmaStop where
  | done
  | halt (write dest : Bool) (cause addr : Nat)
  | differ (addr k : Nat)
  deriving DecidableEq, Repr

/-- Causes of a bus error (R400). -/
def dmaPcie : Nat := 0
def dmaDeny : Nat := 1
def dmaEcc : Nat := 2
def dmaTimeout : Nat := 3
def dmaUnmapped : Nat := 4

/-- The place in both byte strings where the first difference lies. -/
def firstDiff : List Byte → List Byte → Nat → Option Nat
  | a :: l, b :: m, k => if a = b then firstDiff l m (k + 1) else some k
  | _, _, _ => none

namespace State

/-- Bytes that the channels move at a time in this model: 4 where a side is register space, else 1. -/
def dmaUnit (s : State) (n : Nat) : Nat := if (s.dmaSides n).any (fun d => d.space == spReg) then 4 else 1

/-- The bytes `i` to `i + u − 1` of a side are read (R386), or the access fails. -/
def dmaRead (s : State) (d : DmaSide) (dest : Bool) (i u : Nat) : State × List Byte × DmaStop :=
  let a := d.at i
  if d.space = spReg then
    if padWindow a 4 then
      let (b, x) := padAccessOf 18 a 4 false 0
      if s.padAllowed b x then (s, s.padBytes (a - 0x1000000) 4, .done) else (s.padDeny x, [], .halt false dest dmaDeny a)
    else if assigned a then
      let (s1, v) := s.regRead a false
      (s1, leBytes 4 v, .done)
    else (s.unmapped a, [], .halt false dest dmaUnmapped a)
  else
    let byte (a : Nat) : Byte := if d.space = spHost then Memory.byte s.host a else if d.space = spDram then Memory.byte s.dram a else s.padByte a
    let denied := (List.range u).find? (fun k => d.space == spPad && !s.padAllowed (d.at (i + k) / 0x10000) (padAccessOf 18 (0x1000000 + d.at (i + k)) 1 false 0).2)
    match denied with
    | some k => (s.padDeny (padAccessOf 18 (0x1000000 + d.at (i + k)) 1 false 0).2, [], .halt false dest dmaDeny (d.at (i + k)))
    | none => (s, (List.range u).map (fun k => byte (d.at (i + k))), .done)

/-- One byte of the destination is written (R386), or the access fails. -/
def dmaByteWrite (s : State) (space a : Nat) (b : Byte) : State × DmaStop :=
  if space = spHost then ({ s with host := Memory.setByte s.host a b }, .done)
  else if space = spDram then
    if s.dramLocked a then (s.dramWrite a [b], .halt true true dmaDeny a) else (s.dramWrite a [b], .done)
  else
    let x := (padAccessOf 18 (0x1000000 + a) 1 true b.toNat).2
    if s.padAllowed (a / 0x10000) x then (s.setPadByte a b, .done)
    else (s.padDeny x, .halt true true dmaDeny a)

/-- Bytes `i` on of the destination are written one by one until an access fails. -/
def dmaBytesWrite (s : State) (d : DmaSide) (i : Nat) : List Byte → State × DmaStop
  | [] => (s, .done)
  | b :: l =>
    match s.dmaByteWrite d.space (d.at i) b with
    | (s1, .done) => s1.dmaBytesWrite d (i + 1) l
    | r => r

/-- The bytes `i` on of the destination are written, or the access fails. -/
def dmaWriteUnit (s : State) (d : DmaSide) (i : Nat) (l : List Byte) : State × DmaStop :=
  let a := d.at i
  if d.space ≠ spReg then s.dmaBytesWrite d i l
  else if padWindow a 4 then
    let (b, x) := padAccessOf 18 a 4 true (ofLe l)
    if s.padAllowed b x then (s.padWrite b x, .done) else (s.padDeny x, .halt true true dmaDeny a)
  else (s.regWrite a (ofLe l) false, if assigned a then .done else .halt true true dmaUnmapped a)

/-- The bytes of the FILL pattern for `u` bytes at address `a` (R389). -/
def fillBytes (s : State) (n a u : Nat) : List Byte :=
  let p := s.rd DMX_SRC_HI_ADDR n * 2 ^ 32 + s.rd DMX_SRC_LO_ADDR n
  (List.range u).map (fun k => BitVec.ofNat 8 (p / 256 ^ ((a + k) % 8)))

/-- One unit at byte `i` of the transfer of channel `n` (R389). -/
def dmaUnitMove (s : State) (n i : Nat) : State × DmaStop :=
  let a := s.dmaSrc n
  let b := s.dmaDst n
  let u := s.dmaUnit n
  if s.dmaOp n = opFill then s.dmaWriteUnit b i (s.fillBytes n (b.at i) u)
  else
    match s.dmaRead a false i u with
    | (s1, l, .done) =>
      if s.dmaOp n = opCopy then s1.dmaWriteUnit b i l
      else
        match s1.dmaRead b true i u with
        | (s2, m, .done) =>
          match firstDiff l m 0 with
          | some k => (s2, .differ (b.at (i + k)) k)
          | none => (s2, .done)
        | (s2, _, r) => (s2, r)
    | (s1, _, r) => (s1, r)

/-- The copy runs from the highest byte downwards (R388). -/
def dmaDown (s : State) (n : Nat) : Bool :=
  let a := s.dmaSrc n
  let b := s.dmaDst n
  s.dmaOp n == opCopy && a.space == b.space && a.flat && b.flat && b.addr > a.addr

/-- Units of a transfer, and the first byte of unit `k` in the order of the movement. -/
def dmaUnits (s : State) (n : Nat) : Nat := (s.dmaDst n).total / s.dmaUnit n
def dmaPlace (s : State) (n k : Nat) : Nat := (if s.dmaDown n then s.dmaUnits n - 1 - k else k) * s.dmaUnit n

/-- `c` units from unit `k` on are moved, or fewer where one stops: the units moved, and why it stopped. -/
def dmaMove (s : State) (n : Nat) : Nat → Nat → State × Nat × DmaStop
  | 0, k => (s, k, .done)
  | c + 1, k =>
    match s.dmaUnitMove n (s.dmaPlace n k) with
    | (s1, .done) => s1.dmaMove n c (k + 1)
    | (s1, r) => (s1, k, r)

/-- The bytes moved. -/
def dmaDone (s : State) (n bytes : Nat) : State := s.wr DMC_DONE_BYTES bytes n

/-- Channel `n` moves data: it is ACTIVE, and the host takes requests where a side lies in host memory. -/
def dmaMoves (s : State) (n : Nat) : Bool :=
  s.dmaRuns && s.rd DMC_STAT_STATE n == dmaActive && (s.hostReady || (s.dmaSides n).all (fun d => d.space != spHost))

/-- How a movement that has stopped ends (R389, R392); `fin`: what follows where nothing stopped it. -/
def dmaStopped (s : State) (n k : Nat) (r : DmaStop) (fin : State → State) : State :=
  match r with
  | .done => fin (s.dmaDone n (k * s.dmaUnit n))
  | .halt w d c a => (s.dmaDone n (k * s.dmaUnit n)).dmaHaltAt n w d c a
  | .differ a j =>
    (((s.dmaDone n (k * s.dmaUnit n + j)).wr DMC_FADDR_LO_ADDR a n).wr DMC_FADDR_HI_ADDR (a / 2 ^ 32) n).dmaEnd n .mismatch

/-- The transfer of channel `n` runs to its end (R389). -/
def dmaComplete (s : State) (n : Nat) : State :=
  if !s.dmaMoves n then s
  else
    let (s1, k, r) := s.dmaMove n (s.dmaUnits n) 0
    s1.dmaStopped n k r (·.dmaEnd n .ok)

/-- An error outside the hub's own checks: a PCIe error or timeout on host memory, uncorrectable ECC on a read of DRAM or scratchpad. -/
def dmaErrFits (s : State) (n : Nat) (dest : Bool) (cause : Nat) : Bool :=
  let sp := (if dest then s.dmaDst n else s.dmaSrc n).space
  let write := dest && s.dmaOp n != opCompare
  (dest || s.dmaOp n != opFill) &&
  (if cause = dmaPcie || cause = dmaTimeout then sp == spHost else cause == dmaEcc && !write && (sp == spDram || sp == spPad))

/-- The failing access where `k` units have moved. -/
def dmaFails (s : State) (n k : Nat) (dest : Bool) (cause : Nat) : State :=
  let d := if dest then s.dmaDst n else s.dmaSrc n
  let a := d.at (s.dmaPlace n k)
  let s1 :=
    if cause ≠ dmaEcc then s
    else if d.space = spDram then s.dramUnc a
    else s.padRead (a / 0x10000) { (padAccessOf 18 (0x1000000 + a) 1 false 0).2 with ecc := 2 }
  s1.dmaHaltAt n (dest && s.dmaOp n != opCompare) dest cause a

/-- A bus error after `moved` bytes (R392). -/
def dmaBusErr (s : State) (n moved : Nat) (dest : Bool) (cause : Nat) : State :=
  let c := moved / s.dmaUnit n
  if !s.dmaMoves n || !s.dmaErrFits n dest cause || c ≥ s.dmaUnits n then s
  else
    let (s1, k, r) := s.dmaMove n c 0
    s1.dmaStopped n k r (·.dmaFails n k dest cause)

end State

/-- DMA_TRANSFER_DONE (R389, R396). -/
def execDmaTransferDone (n : Fin 32) (s : State) : Host.Outcome State Fault Refusal := .next (s.dmaComplete n)

/-- DMA_BUS_ERROR (R392): after `moved` bytes an access of one side fails with `cause`. -/
def execDmaBusError (n : Fin 32) (moved : Nat) (dest : Bool) (cause : Fin 8) (s : State) : Host.Outcome State Fault Refusal :=
  .next (s.dmaBusErr n moved dest cause)

end Sys2Proof.Machine
end

