-- ==== Sys2Proof/Machine/Services.lean ====
section
/-! DEFINITION. What an engine does when a service entry is bound to it, and its answers to mailbox requests (spec/10_tunnel_engines.md, R252, R255; R257, R291, R311, R328, R329, R340, R384). -/

namespace Sys2Proof.Machine

/-- Firmware codes of an entry in ERROR: the first is 16, and each type numbers its own from there (R252). -/
def fwCode (k : Nat) : Nat := 16 + k

namespace State

/-- Adapter and function of the terminus that an entry's RXSLOT names (R58). -/
def rxAdapter (s : State) (e : Nat) : Nat := adapterOf (s.rd CTX1_DEST (s.rd TEN_SVC1_RXSLOT e))
def rxFn (s : State) (e : Nat) : Nat := s.rd CTX1_DEST (s.rd TEN_SVC1_RXSLOT e) % 8

/-- An area of `len` units of 64 bytes at `ofs` units leaves the parameter bank, or overlaps the entry's parameter block. -/
def areaBad (s : State) (e ofs len : Nat) : Bool :=
  let a := ofs * 64
  let b := a + len * 64
  let p := s.rd TEN_SVC2_POFS e
  b > 65536 || (a < p + s.rd TEN_SVC3_PLEN e && p < b)

/-- Other enabled entries of a type that serve (their parameter block has been accepted). -/
def otherServing (s : State) (e ty : Nat) : List Nat :=
  (List.range 128).filter (fun i => i != e && s.on TEN_SVC0_EN i && s.rd TEN_SVC0_TYPE i == ty &&
    (s.rd TEN_SVC0_STATE i == svcActive || s.rd TEN_SVC0_STATE i == svcQuiesced || s.rd TEN_SVC0_STATE i == svcHalted))

/-- Display (R291). A layer mask outside its range counts as a bad head (log entry 60). -/
def dispRefuses (s : State) (e : Nat) : Option Nat :=
  let h := s.param e 0 1
  let m := s.param e 1 1
  let fn := s.rxFn e
  let len := s.param e 4 2
  if h > 1 || s.rxAdapter e ≠ 1 + h || m = 0 || m > 15 || (fn ≠ 0 && m ≠ 2 ^ (fn - 1)) then some (fwCode 0)
  else if (List.range 4).any (fun l => m.testBit l && !s.on LY_CTRL_OWNER h l) then some (fwCode 1)
  else if len ≠ 0 && s.areaBad e (s.param e 2 2) len then some (fwCode 2)
  else if (s.otherServing e tyDisplay).any (fun i => s.param i 0 1 == h && s.param i 1 1 &&& m != 0) then some (fwCode 3)
  else none

/-- USB proxy (R311). A terminus other than function PORT of adapter 3 (R294) counts as a port of the wrong mode, and RTO outside 1–15 ms or RETRY above 7 as a bad area, since the codes name neither (log entry 69). -/
def proxyRefuses (s : State) (e : Nat) : Option Nat :=
  let r := s.param e 0 1
  let p := s.param e 1 1
  let len := s.param e 4 2
  if r > 1 then some (fwCode 0)
  else if p = 0 || p > 4 || s.portMode p ≠ 1 + r || s.rxAdapter e ≠ 3 || s.rxFn e ≠ p then some (fwCode 1)
  else if len < 128 || len > 1024 || s.areaBad e (s.param e 2 2) len || !s.holdsBank 19 (s.rd TEN_SVC2_PBANK e) ||
      s.param e 6 1 = 0 || s.param e 6 1 > 15 || s.param e 7 1 > 7 then some (fwCode 2)
  else if (s.otherServing e tyUsb).any (fun i => s.param i 1 1 == p) then some (fwCode 3)
  else none

/-- Block (R321, R328, R329). An RTO of 0 or a RETRY above 7 counts as a bad role, and a partition outside the capacity of a READY medium as a bad medium, since the codes name neither (log entry 36). -/
def blockRefuses (s : State) (e : Nat) : Option Nat :=
  let r := s.param e 0 1
  let m := s.param e 1 1
  let stg := s.param e 14 2
  if r > 1 || s.param e 2 1 = 0 || s.param e 3 1 > 7 then some (fwCode 0)
  else if r = 0 then (if s.rxAdapter e ≠ 6 || s.rxFn e ≠ 0 then some (fwCode 1) else none)
  else if m > 1 || s.rxAdapter e ≠ 4 || s.rxFn e ≠ m || s.beState m = beOff ||
      (s.beState m = beReady && (s.partSize e = 0 || s.partBase e + s.partSize e > s.capacity m)) then some (fwCode 1)
  else if stg = 0 || stg > 1024 || (s.stagingPlace e stg).isNone then some (fwCode 2)
  else if (s.otherServing e tyBlock).any (fun i => s.blkTarget i && s.blkMedium i == m &&
      s.partBase i < s.partBase e + s.partSize e && s.partBase e < s.partBase i + s.partSize i) then some (fwCode 3)
  else none

/-- Serial (R340). Slots of another adapter than 5, and MAXMSG or TXMODE outside its range, count as a bad UART, since the codes name neither (log entry 37). -/
def serialRefuses (s : State) (e : Nat) : Option Nat :=
  let u := s.param e 0 1
  let len := s.param e 4 2
  let r := s.rd TEN_SVC1_RXSLOT e
  let x := s.rd TEN_SVC1_TXSLOT e
  let max := s.param e 6 2
  if u > 7 || (r ≠ 0 && (s.rxAdapter e ≠ 5 || s.rxFn e ≠ u)) || (x ≠ 0 && s.rd CTX0_KEYSRC x % 128 ≠ 40 + u) ||
      s.param e 1 1 > 1 || max = 0 || max > 1024 then some (fwCode 0)
  else if len < 16 || len > 1024 || s.areaBad e (s.param e 2 2) len || !s.holdsBank 20 (s.rd TEN_SVC2_PBANK e) then some (fwCode 1)
  else if (s.otherServing e tySerial).any (fun i => s.param i 0 1 == u) then some (fwCode 2)
  else none

/-- Memory (R384). An RTO of 0, a RETRY above 7 or a terminus of another adapter than 6 counts as a bad role, since the codes name none of them (log entry 31). -/
def memRefuses (s : State) (e : Nat) : Option Nat :=
  let r := s.param e 0 1
  let f := s.param e 1 1
  let size := s.param e 4 1
  if r > 1 || s.param e 2 1 = 0 || s.param e 3 1 > 7 || (r = 1 && (f > 1 || s.rxAdapter e ≠ 6 || s.rxFn e ≠ f)) then some (fwCode 0)
  else if r = 0 || f = 1 then none
  else if s.embedded then some (fwCode 1)
  else if size < 12 || size > 40 || s.param e 8 8 % 2 ^ size ≠ 0 then some (fwCode 2)
  else none

/-- The firmware code with which the engine refuses an entry's parameter block, if it does (R252). -/
def paramRefuses (s : State) (e : Nat) : Option Nat :=
  let ty := s.rd TEN_SVC0_TYPE e
  if ty = tyDisplay then s.dispRefuses e
  else if ty = tyUsb then s.proxyRefuses e
  else if ty = tyBlock then s.blockRefuses e
  else if ty = tySerial then s.serialRefuses e
  else if ty = tyMemory then s.memRefuses e
  else if ty = tyPhase && s.param e 5 1 > 1 then some (fwCode 0)
  else none

/-- The counts that opcode 0x41 clears (R291, R311, R328, R340, R384). -/
def clearCounts (s : State) (e : Nat) : State :=
  let ty := s.rd TEN_SVC0_TYPE e
  let cut (t : Tab Nat) : Tab Nat := t.filter (fun x => x.1 / 8 != e)
  if ty = tyDisplay then { s with dsp := { s.dsp with counts := cut s.dsp.counts } }
  else if ty = tyUsb then { s with usb := { s.usb with counts := cut s.usb.counts } }
  else if ty = tyBlock then { s with sto := { s.sto with counts := cut s.sto.counts } }
  else if ty = tySerial then { s with ser := { s.ser with counts := cut s.ser.counts } }
  else { s with brg := { s.brg with counts := cut s.brg.counts } }

/-- What the service of an entry starts with when it becomes ACTIVE (R329, R337, R339). -/
def svcStarts (s : State) (e : Nat) : State :=
  let ty := s.rd TEN_SVC0_TYPE e
  let s1 := s.clearCounts e
  if ty = tyBlock then
    let stg := if s1.blkTarget e then s1.param e 14 2 else 0
    let a : Nat × Nat := if stg = 0 then (0, 0) else ((s1.stagingPlace e stg).getD 0, stg)
    { s1 with sto := { s1.sto with area := Tab.put s1.sto.area e a (0, 0), cmds := Tab.put s1.sto.cmds e [] [], held := Tab.put s1.sto.held e [] [] } }
  else if ty = tySerial then
    let w := 2 ^ 31 + s1.rd TEN_SVC2_PBANK e * 2 ^ 24 + s1.param e 2 2 % 1024 * 2 ^ 14 + s1.param e 4 2 % 2048
    let s2 := s1.serRingWrite (s1.param e 0 1 % 8) w
    { s2 with ser := { s2.ser with seq := Tab.put s2.ser.seq e none none, held := Tab.put s2.ser.held e [] [] } }
  else if ty = tyMemory then s1.memLose e
  else if ty = tyDisplay then
    { s1 with dsp := { s1.dsp with hold := Tab.put s1.dsp.hold e [] [], acks := Tab.put s1.dsp.acks e [] [] } }
  else s1

/-- The engine of a BOUND entry reads its parameter block (R252). -/
def activate (s : State) (e : Nat) : State :=
  if !s.on TEN_SVC0_EN e || s.rd TEN_SVC0_STATE e ≠ svcBound || s.rd ENG_STAT_STATE (s.svcEngine e) ≠ engRun then s
  else
    let s1 := s.readBlock e
    match s1.paramRefuses e with
    | some c => (s1.wr TEN_SVC0_STATE svcError e).wr TEN_SVC0_CODE c e
    | none =>
      let s2 := ((s1.svcStarts e).wr TEN_SVC0_STATE svcActive e).wr TEN_SVC0_CODE 0 e
      { s2 with ten := { s2.ten with taken := Tab.put s2.ten.taken e true false } }

/-! Mailbox responses (R255). -/

/-- The response words 0, 1, … hold these values. -/
def setRsps (s : State) (n m : Nat) (l : List Nat) : State :=
  (l.foldl (fun (a : State × Nat) v => (a.1.setRsp n m a.2 v, a.2 + 1)) (s, 0)).1

/-- The counts that opcode 0x40 returns, by type; none: the type has no such opcode. -/
def statWords (s : State) (e : Nat) : Option (List Nat) :=
  let ty := s.rd TEN_SVC0_TYPE e
  let l (t : Tab Nat) (k : Nat) : List Nat := (List.range k).map (fun i => Tab.get t (8 * e + i) 0)
  if ty = tyDisplay then some (l s.dsp.counts 7)
  else if ty = tyUsb then some (l s.usb.counts 5)
  else if ty = tyBlock then some (l s.sto.counts 5)
  else if ty = tySerial then some (l s.ser.counts 6)
  else if ty = tyMemory then some (l s.brg.counts 5)
  else none

/-- The engine's answer to an opcode for entry `e` of engine `n`: the state after it, its code and response words. -/
def mbxAnswer (s : State) (n op e : Nat) : State × MbxCode × List Nat :=
  let st := s.rd TEN_SVC0_STATE e
  let img := Tab.get s.ten.img n 0
  if op = 1 then (s, .ok, [s.rd TEN_IMG_INFO_VERSION img, s.rd TEN_IMG_INFO_CAP img])
  else if op = 0 || (5 ≤ op && op < 0x40) then (s, .badOp, [])
  else if !s.on TEN_SVC0_EN e || s.svcEngine e ≠ n then (s, .badSvc, [])
  else if op = 2 then
    let rx := Tab.get s.ten.rx e 0
    let tx := Tab.get s.ten.tx e 0
    (s, .ok, [rx, rx / 2 ^ 32, tx, tx / 2 ^ 32, Tab.get s.ten.err e 0])
  else if op = 3 then
    if st = svcActive || st = svcQuiesced then (s.wr TEN_SVC0_STATE svcQuiesced e, .ok, []) else (s, .busy, [])
  else if op = 4 then
    if st = svcActive || st = svcQuiesced then (s.wr TEN_SVC0_STATE svcActive e, .ok, []) else (s, .busy, [])
  else
    match s.statWords e with
    | none => (s, .badOp, [])
    | some l => if op = 0x40 then (s, .ok, l) else if op = 0x41 then (s.clearCounts e, .ok, []) else (s, .badOp, [])

/-- Work that the service of entry `e` holds inside its protocol, by type. -/
def svcBusy (s : State) (e : Nat) : Bool :=
  let ty := s.rd TEN_SVC0_TYPE e
  if ty = tyDisplay then
    s.dsp.svc.any (fun x => (x.2.map (·.entry)) == some e) || s.dsp.flips.any (fun x => x.2.any (fun a => a.entry == e)) ||
      !(Tab.get s.dsp.acks e []).isEmpty || !(Tab.get s.dsp.hold e []).isEmpty
  else if ty = tyUsb then
    let n := s.proxyPort e
    if s.param e 0 1 = 0 then (s.near n).pend.any (·.result.isNone) || (s.near n).cmd.isSome
    else !(s.far n).run.isEmpty || (s.far n).queue.any (fun x => !x.2.isEmpty)
  else if ty = tyBlock then !(s.reqs e).isEmpty || !(s.blkCmds e).isEmpty
  else if ty = tySerial then !(s.serHeld e).isEmpty || !(s.serQueue (s.param e 0 1 % 8)).isEmpty
  else if ty = tyMemory then
    !(s.memReads e).isEmpty || !(s.memUnack e).isEmpty || !(Tab.get s.brg.held e []).isEmpty ||
      Tab.get s.brg.toAck e 0 ≠ 0
  else if ty = tyEvent then !(Tab.get s.ten.edges e []).isEmpty || s.gpio.queue.any (fun x => x.entries.contains e)
  else false

/-- Work of entry `e` that its engine has still to do (R255). -/
def inFlight (s : State) (e : Nat) : Bool :=
  (s.inbox (s.svcEngine e)).any (fun x => x.1 == e) || !(Tab.get s.ten.cur e []).isEmpty ||
  (Tab.get s.ten.outbox (s.svcEngine e / 4) []).any (fun x => x.1 == e) || s.svcBusy e

/-- The engine responds to MBXm: late, with its answer, or not yet while MBX0 is to be served first or a QUIESCE has work in flight. -/
def mbxRespond (s : State) (n m : Nat) : State :=
  if s.rd ENG_STAT_STATE n ≠ engRun then s
  else if Tab.get s.ten.late (2 * n + m) 0 > 0 then s.mbxLate n m
  else
    let op := (Tab.get s.ten.req (2 * n + m) (0, 0)).1
    let e := (Tab.get s.ten.req (2 * n + m) (0, 0)).2
    if !s.on ENG_MBX_BUSY n m || (m = 1 && s.on ENG_MBX_BUSY n 0) || (op = 3 && s.inFlight e && s.svcEngine e = n) then s
    else
      let (s1, c, l) := s.mbxAnswer n op e
      (s1.setRsps n m l).mbxEnd n m c

end State

/-- SERVICE_ACTIVATE (R252) of entry `e`. -/
def execServiceActivate (e : Fin 128) (s : State) : Host.Outcome State Fault Refusal := .next (s.activate e)

/-- MAILBOX_RESPONSE (R255) to MBXm of engine `n`. -/
def execMailboxResponse (n : Fin 16) (m : Fin 2) (s : State) : Host.Outcome State Fault Refusal := .next (s.mbxRespond n m)

end Sys2Proof.Machine
end

