-- ==== Sys2Proof/Machine/Dispatch.lean ====
section
/-! DEFINITION. The dispatch of a command to its meaning, one arm for each constructor. -/

namespace Sys2Proof.Machine

/-- The effect of a command on everything but the queue. -/
def exec (i : Instr) (s : State) : Host.Outcome State Fault Refusal :=
  match i with
  | .registerWrite off w mgmt hw => Sys2Proof.Machine.execRegisterWrite off w mgmt hw s
  | .unalignedAccess read => Sys2Proof.Machine.execUnalignedAccess read s
  | .unmappedRegisterAccess off read => Sys2Proof.Machine.execUnmappedRegisterAccess off read s
  | .blockLockSet off w mgmt => Sys2Proof.Machine.execBlockLockSet off w mgmt s
  | .counterClear off w inc => Sys2Proof.Machine.execCounterClear off w inc s
  | .trunkPacketReceive t blocks ecc done flush more frames => Sys2Proof.Machine.execTrunkPacketReceive t blocks ecc done flush more frames s
  | .ilimRetry p => Sys2Proof.Machine.execIlimRetry p s
  | .policedPacketRelease p => Sys2Proof.Machine.execPolicedPacketRelease p s
  | .packetSelect p ecc => Sys2Proof.Machine.execPacketSelect p ecc s
  | .transmitComplete p => Sys2Proof.Machine.execTransmitComplete p s
  | .leakAudit => Sys2Proof.Machine.execLeakAudit s
  | .fabSelfWrite w => Sys2Proof.Machine.execFabSelfWrite w s
  | .fabRegionWrite w => Sys2Proof.Machine.execFabRegionWrite w s
  | .contextWordWrite n k w => Sys2Proof.Machine.execContextWordWrite n k w s
  | .destinationListWrite k w => Sys2Proof.Machine.execDestinationListWrite k w s
  | .ctxOpen n => Sys2Proof.Machine.execCtxOpen n s
  | .ctxActivate n => Sys2Proof.Machine.execCtxActivate n s
  | .ctxClose n => Sys2Proof.Machine.execCtxClose n s
  | .ctxAbort n => Sys2Proof.Machine.execCtxAbort n s
  | .ctxcmdComplete => Sys2Proof.Machine.execCtxcmdComplete s
  | .openToExpiry n => Sys2Proof.Machine.execOpenToExpiry n s
  | .closeToExpiry n => Sys2Proof.Machine.execCloseToExpiry n s
  | .retireExpiry n => Sys2Proof.Machine.execRetireExpiry n s
  | .inflightDrained n => Sys2Proof.Machine.execInflightDrained n s
  | .tunnelOpenRequest origin o l proto ver cls port => Sys2Proof.Machine.execTunnelOpenRequest origin o l proto ver cls port s
  | .tunnelOpenAnswer o u ver port => Sys2Proof.Machine.execTunnelOpenAnswer o u ver port s
  | .helloSend sm ready => Sys2Proof.Machine.execHelloSend sm ready s
  | .helloReceive src bytes => Sys2Proof.Machine.execHelloReceive src bytes s
  | .helloLoss pfx => Sys2Proof.Machine.execHelloLoss pfx s
  | .timeTick => Sys2Proof.Machine.execTimeTick s
  | .incrementWrite w => Sys2Proof.Machine.execIncrementWrite w s
  | .setTime => Sys2Proof.Machine.execSetTime s
  | .step => Sys2Proof.Machine.execStep s
  | .slew => Sys2Proof.Machine.execSlew s
  | .snap => Sys2Proof.Machine.execSnap s
  | .setApply => Sys2Proof.Machine.execSetApply s
  | .stepApply => Sys2Proof.Machine.execStepApply s
  | .slewApply => Sys2Proof.Machine.execSlewApply s
  | .snapApply => Sys2Proof.Machine.execSnapApply s
  | .slewEnd => Sys2Proof.Machine.execSlewEnd s
  | .compareFire c => Sys2Proof.Machine.execCompareFire c s
  | .comparePulseEnd c => Sys2Proof.Machine.execComparePulseEnd c s
  | .ppsInputEdge x rise n => Sys2Proof.Machine.execPpsInputEdge x rise n s
  | .ppsInputLos x => Sys2Proof.Machine.execPpsInputLos x s
  | .ppsOutputEdge o => Sys2Proof.Machine.execPpsOutputEdge o s
  | .ppsOutputTrail o => Sys2Proof.Machine.execPpsOutputTrail o s
  | .leapApply => Sys2Proof.Machine.execLeapApply s
  | .twoStepPop p => Sys2Proof.Machine.execTwoStepPop p s
  | .mainsBoundary => Sys2Proof.Machine.execMainsBoundary s
  | .cycSrcWrite w => Sys2Proof.Machine.execCycSrcWrite w s
  | .cycIncrWrite w => Sys2Proof.Machine.execCycIncrWrite w s
  | .mainsZcEdge fall ago => Sys2Proof.Machine.execMainsZcEdge fall ago s
  | .svObservation w => Sys2Proof.Machine.execSvObservation w s
  | .phaseEventProcess => Sys2Proof.Machine.execPhaseEventProcess s
  | .mainsLosExpiry => Sys2Proof.Machine.execMainsLosExpiry s
  | .holdoverExpiry => Sys2Proof.Machine.execHoldoverExpiry s
  | .angleConversion w => Sys2Proof.Machine.execAngleConversion w s
  | .conversionDone => Sys2Proof.Machine.execConversionDone s
  | .laneCtrlWrite n w => Sys2Proof.Machine.execLaneCtrlWrite n w s
  | .cdrLock n => Sys2Proof.Machine.execCdrLock n s
  | .cdrAcqTimeout n => Sys2Proof.Machine.execCdrAcqTimeout n s
  | .headerLock n => Sys2Proof.Machine.execHeaderLock n s
  | .headerHuntTimeout n => Sys2Proof.Machine.execHeaderHuntTimeout n s
  | .alignmentBlockReceive n hdr bytes line => Sys2Proof.Machine.execAlignmentBlockReceive n hdr bytes line s
  | .alignTimeout n => Sys2Proof.Machine.execAlignTimeout n s
  | .losDetect n mv => Sys2Proof.Machine.execLosDetect n mv s
  | .losClear n mv => Sys2Proof.Machine.execLosClear n mv s
  | .cdrLoss n => Sys2Proof.Machine.execCdrLoss n s
  | .headerLoss n k lost => Sys2Proof.Machine.execHeaderLoss n k lost s
  | .alignmentBlockSend t idle => Sys2Proof.Machine.execAlignmentBlockSend t idle s
  | .bondSkewMeasure t d0 d1 d2 d3 => Sys2Proof.Machine.execBondSkewMeasure t d0 d1 d2 d3 s
  | .bondTimeout t => Sys2Proof.Machine.execBondTimeout t s
  | .bondFailExpiry t => Sys2Proof.Machine.execBondFailExpiry t s
  | .eyeScanGo n w => Sys2Proof.Machine.execEyeScanGo n w s
  | .eyeScanAbort n => Sys2Proof.Machine.execEyeScanAbort n s
  | .eyeScanDone n errs => Sys2Proof.Machine.execEyeScanDone n errs s
  | .prbsCheckStart n w => Sys2Proof.Machine.execPrbsCheckStart n w s
  | .prbsCheckerLock n bits => Sys2Proof.Machine.execPrbsCheckerLock n bits s
  | .prbsCheckerLoss n bits => Sys2Proof.Machine.execPrbsCheckerLoss n bits s
  | .prbsInject n => Sys2Proof.Machine.execPrbsInject n s
  | .trkEnable t => Sys2Proof.Machine.execTrkEnable t s
  | .trkDisable t => Sys2Proof.Machine.execTrkDisable t s
  | .bondTrialTimeout t => Sys2Proof.Machine.execBondTrialTimeout t s
  | .capabilitySend t => Sys2Proof.Machine.execCapabilitySend t s
  | .capabilityReceive t bytes => Sys2Proof.Machine.execCapabilityReceive t bytes s
  | .trainTimeout t => Sys2Proof.Machine.execTrainTimeout t s
  | .sealTimeout t => Sys2Proof.Machine.execSealTimeout t s
  | .holdExpiry t => Sys2Proof.Machine.execHoldExpiry t s
  | .sealLoad t w => Sys2Proof.Machine.execSealLoad t w s
  | .creditBlockReceive t bytes => Sys2Proof.Machine.execCreditBlockReceive t bytes s
  | .creditReturn t => Sys2Proof.Machine.execCreditReturn t s
  | .creditRefresh t => Sys2Proof.Machine.execCreditRefresh t s
  | .heartbeatLoss t => Sys2Proof.Machine.execHeartbeatLoss t s
  | .creditStall t c => Sys2Proof.Machine.execCreditStall t c s
  | .grantWrite t c w => Sys2Proof.Machine.execGrantWrite t c w s
  | .epochAdvance t => Sys2Proof.Machine.execEpochAdvance t s
  | .rxEpochDerive t => Sys2Proof.Machine.execRxEpochDerive t s
  | .kl2EnableWrite w => Sys2Proof.Machine.execKl2EnableWrite w s
  | .kl2PacketReceive cols => Sys2Proof.Machine.execKl2PacketReceive cols s
  | .xoffReceive mask comp => Sys2Proof.Machine.execXoffReceive mask comp s
  | .xoffSend => Sys2Proof.Machine.execXoffSend s
  | .xlatWrite h w => Sys2Proof.Machine.execXlatWrite h w s
  | .rsmSend t => Sys2Proof.Machine.execRsmSend t s
  | .rsmReceive t payload => Sys2Proof.Machine.execRsmReceive t payload s
  | .rsmLoss t => Sys2Proof.Machine.execRsmLoss t s
  | .steeringScan => Sys2Proof.Machine.execSteeringScan s
  | .restoreExpiry v => Sys2Proof.Machine.execRestoreExpiry v s
  | .ddEntryAge => Sys2Proof.Machine.execDdEntryAge s
  | .ddFlush => Sys2Proof.Machine.execDdFlush s
  | .qlimWrite q w => Sys2Proof.Machine.execQlimWrite q w s
  | .qrsvWrite q w => Sys2Proof.Machine.execQrsvWrite q w s
  | .mirrorRuleWrite k w => Sys2Proof.Machine.execMirrorRuleWrite k w s
  | .captureCfgWrite w => Sys2Proof.Machine.execCaptureCfgWrite w s
  | .captureRdWrite w => Sys2Proof.Machine.execCaptureRdWrite w s
  | .captureRecordWrite => Sys2Proof.Machine.execCaptureRecordWrite s
  | .edgeCtrlWrite e w => Sys2Proof.Machine.execEdgeCtrlWrite e w s
  | .edgeLinkUp e inband an => Sys2Proof.Machine.execEdgeLinkUp e inband an s
  | .edgeLinkDown e => Sys2Proof.Machine.execEdgeLinkDown e s
  | .edgeFrameReceive e bytes more => Sys2Proof.Machine.execEdgeFrameReceive e bytes more s
  | .shaperRefill => Sys2Proof.Machine.execShaperRefill s
  | .gateBoundary p => Sys2Proof.Machine.execGateBoundary p s
  | .queueSample => Sys2Proof.Machine.execQueueSample s
  | .bankWrite o w => Sys2Proof.Machine.execBankWrite o w s
  | .planCheck => Sys2Proof.Machine.execPlanCheck s
  | .planArm m => Sys2Proof.Machine.execPlanArm m s
  | .planDisarm => Sys2Proof.Machine.execPlanDisarm s
  | .planCopy => Sys2Proof.Machine.execPlanCopy s
  | .planCommandDone => Sys2Proof.Machine.execPlanCommandDone s
  | .planSwitch => Sys2Proof.Machine.execPlanSwitch s
  | .planDeadline => Sys2Proof.Machine.execPlanDeadline s
  | .engineEnable n => Sys2Proof.Machine.execEngineEnable n s
  | .engineDisable n => Sys2Proof.Machine.execEngineDisable n s
  | .engineReady n => Sys2Proof.Machine.execEngineReady n s
  | .engineStartTimeout n => Sys2Proof.Machine.execEngineStartTimeout n s
  | .engineWatchdogKick n => Sys2Proof.Machine.execEngineWatchdogKick n s
  | .engineWatchdog n => Sys2Proof.Machine.execEngineWatchdog n s
  | .engineTrap n => Sys2Proof.Machine.execEngineTrap n s
  | .engineEccHalt n => Sys2Proof.Machine.execEngineEccHalt n s
  | .engineRestart n => Sys2Proof.Machine.execEngineRestart n s
  | .serviceBind e w => Sys2Proof.Machine.execServiceBind e w s
  | .serviceActivate e => Sys2Proof.Machine.execServiceActivate e s
  | .serviceUnbind e w => Sys2Proof.Machine.execServiceUnbind e w s
  | .engineDispatch k => Sys2Proof.Machine.execEngineDispatch k s
  | .enginePacketSend e payload => Sys2Proof.Machine.execEnginePacketSend e payload s
  | .ping n m => Sys2Proof.Machine.execPing n m s
  | .stats n m e => Sys2Proof.Machine.execStats n m e s
  | .quiesce n m e => Sys2Proof.Machine.execQuiesce n m e s
  | .resume n m e => Sys2Proof.Machine.execResume n m e s
  | .mailboxResponse n m => Sys2Proof.Machine.execMailboxResponse n m s
  | .mailboxTimeout n m => Sys2Proof.Machine.execMailboxTimeout n m s
  | .eventRecordSend e => Sys2Proof.Machine.execEventRecordSend e s
  | .svCycleComplete e => Sys2Proof.Machine.execSvCycleComplete e s
  | .scratchpadAccess b l => Sys2Proof.Machine.execScratchpadAccess b l s
  | .bankOwnerWrite b m w w16 => Sys2Proof.Machine.execBankOwnerWrite b m w w16 s
  | .bankHandoverDone b => Sys2Proof.Machine.execBankHandoverDone b s
  | .headEnable h w => Sys2Proof.Machine.execHeadEnable h w s
  | .dpLinkTraining rate lanes => Sys2Proof.Machine.execDpLinkTraining rate lanes s
  | .hpdLow => Sys2Proof.Machine.execHpdLow s
  | .hpdIrq => Sys2Proof.Machine.execHpdIrq s
  | .frameStart h ago => Sys2Proof.Machine.execFrameStart h ago s
  | .windowClose h => Sys2Proof.Machine.execWindowClose h s
  | .applyPoint h => Sys2Proof.Machine.execApplyPoint h s
  | .fetchUnderrun h l y k ecc => Sys2Proof.Machine.execFetchUnderrun h l y k ecc s
  | .softwareCommit h w => Sys2Proof.Machine.execSoftwareCommit h w s
  | .teEdge h fall ago => Sys2Proof.Machine.execTeEdge h fall ago s
  | .teTimeout h => Sys2Proof.Machine.execTeTimeout h s
  | .displayTile e => Sys2Proof.Machine.execDisplayTile e s
  | .displayPalette e => Sys2Proof.Machine.execDisplayPalette e s
  | .displayCommit e => Sys2Proof.Machine.execDisplayCommit e s
  | .displayAckSend e => Sys2Proof.Machine.execDisplayAckSend e s
  | .tileCopyback h l => Sys2Proof.Machine.execTileCopyback h l s
  | .dstat n m e => Sys2Proof.Machine.execDstat n m e s
  | .dclr n m e => Sys2Proof.Machine.execDclr n m e s
  | .usbAttach => Sys2Proof.Machine.execUsbAttach s
  | .usbDetach => Sys2Proof.Machine.execUsbDetach s
  | .usbBusReset high arms => Sys2Proof.Machine.execUsbBusReset high arms s
  | .usbSuspend => Sys2Proof.Machine.execUsbSuspend s
  | .usbResume => Sys2Proof.Machine.execUsbResume s
  | .usbRemoteWake n => Sys2Proof.Machine.execUsbRemoteWake n s
  | .remoteWakeEnd => Sys2Proof.Machine.execRemoteWakeEnd s
  | .portModeWrite n w => Sys2Proof.Machine.execPortModeWrite n w s
  | .localPortRequest n r arms => Sys2Proof.Machine.execLocalPortRequest n r arms s
  | .portConnect n low held => Sys2Proof.Machine.execPortConnect n low held s
  | .portResetEnd n speed => Sys2Proof.Machine.execPortResetEnd n speed s
  | .nearPortRequest n r => Sys2Proof.Machine.execNearPortRequest n r s
  | .startSplit n ep pid xt data => Sys2Proof.Machine.execStartSplit n ep pid xt data s
  | .completeSplit n ep pid xt => Sys2Proof.Machine.execCompleteSplit n ep pid xt s
  | .xferReceive e => Sys2Proof.Machine.execXferReceive e s
  | .deviceTransactionDone n r => Sys2Proof.Machine.execDeviceTransactionDone n r s
  | .resultReceive e => Sys2Proof.Machine.execResultReceive e s
  | .xferRto n tag => Sys2Proof.Machine.execXferRto n tag s
  | .sofSend n => Sys2Proof.Machine.execSofSend n s
  | .interruptPoll n ep r => Sys2Proof.Machine.execInterruptPoll n ep r s
  | .periodicReceive e => Sys2Proof.Machine.execPeriodicReceive e s
  | .perackReceive e => Sys2Proof.Machine.execPerackReceive e s
  | .periodicRto n ep tag => Sys2Proof.Machine.execPeriodicRto n ep tag s
  | .portcmdReceive e => Sys2Proof.Machine.execPortcmdReceive e s
  | .portackReceive e => Sys2Proof.Machine.execPortackReceive e s
  | .portcmdTimeout n => Sys2Proof.Machine.execPortcmdTimeout n s
  | .portstatSend n => Sys2Proof.Machine.execPortstatSend n s
  | .portstatReceive e => Sys2Proof.Machine.execPortstatReceive e s
  | .proxySilence n => Sys2Proof.Machine.execProxySilence n s
  | .wakeReceive e => Sys2Proof.Machine.execWakeReceive e s
  | .ustat n m e => Sys2Proof.Machine.execUstat n m e s
  | .uclr n m e => Sys2Proof.Machine.execUclr n m e s
  | .endpointEnable k w => Sys2Proof.Machine.execEndpointEnable k w s
  | .endpointArm k w => Sys2Proof.Machine.execEndpointArm k w s
  | .endpointDisarm k => Sys2Proof.Machine.execEndpointDisarm k s
  | .endpointHalt k => Sys2Proof.Machine.execEndpointHalt k s
  | .setupReceive b arm fw => Sys2Proof.Machine.execSetupReceive b arm fw s
  | .endpointToken k isIn data => Sys2Proof.Machine.execEndpointToken k isIn data s
  | .endpointMemoryAccess o v => Sys2Proof.Machine.execEndpointMemoryAccess o v s
  | .blockCmdReceive e => Sys2Proof.Machine.execBlockCmdReceive e s
  | .blockCmdExecute e tag => Sys2Proof.Machine.execBlockCmdExecute e tag s
  | .blockDataReceive e => Sys2Proof.Machine.execBlockDataReceive e s
  | .blockCmdComplete e tag => Sys2Proof.Machine.execBlockCmdComplete e tag s
  | .blockCplReceive e => Sys2Proof.Machine.execBlockCplReceive e s
  | .blockRto e tag => Sys2Proof.Machine.execBlockRto e tag s
  | .blockDataTimeout e tag => Sys2Proof.Machine.execBlockDataTimeout e tag s
  | .tagQuarantineEnd e tag => Sys2Proof.Machine.execTagQuarantineEnd e tag s
  | .bstat n m e => Sys2Proof.Machine.execBstat n m e s
  | .bclr n m e => Sys2Proof.Machine.execBclr n m e s
  | .backendEnable w => Sys2Proof.Machine.execBackendEnable w s
  | .backendInitDone m cause blocks lbaSz mdts modes byteCard wp => Sys2Proof.Machine.execBackendInitDone m cause blocks lbaSz mdts modes byteCard wp s
  | .backendCommandDone e tag n ok data => Sys2Proof.Machine.execBackendCommandDone e tag n ok data s
  | .backendCommandTimeout e tag => Sys2Proof.Machine.execBackendCommandTimeout e tag s
  | .backendRemoval m => Sys2Proof.Machine.execBackendRemoval m s
  | .cardDetect present held => Sys2Proof.Machine.execCardDetect present held s
  | .uartCharacterReceive n bits samp ago => Sys2Proof.Machine.execUartCharacterReceive n bits samp ago s
  | .uartGapExpiry n => Sys2Proof.Machine.execUartGapExpiry n s
  | .uartLineStuck n => Sys2Proof.Machine.execUartLineStuck n s
  | .uartLineRelease n => Sys2Proof.Machine.execUartLineRelease n s
  | .uartRingWrite n rxrd w => Sys2Proof.Machine.execUartRingWrite n rxrd w s
  | .uartTransmit n => Sys2Proof.Machine.execUartTransmit n s
  | .serialMessageSend e => Sys2Proof.Machine.execSerialMessageSend e s
  | .serialMessageReceive e => Sys2Proof.Machine.execSerialMessageReceive e s
  | .serialHoldExpiry e => Sys2Proof.Machine.execSerialHoldExpiry e s
  | .sstat n m e => Sys2Proof.Machine.execSstat n m e s
  | .sclr n m e => Sys2Proof.Machine.execSclr n m e s
  | .irigOnTime ago => Sys2Proof.Machine.execIrigOnTime ago s
  | .irigFrame ws => Sys2Proof.Machine.execIrigFrame ws s
  | .irigLos => Sys2Proof.Machine.execIrigLos s
  | .irigOutputSecond => Sys2Proof.Machine.execIrigOutputSecond s
  | .perstAssert => Sys2Proof.Machine.execPerstAssert s
  | .pcieLinkUp speed width => Sys2Proof.Machine.execPcieLinkUp speed width s
  | .pcieLinkDown => Sys2Proof.Machine.execPcieLinkDown s
  | .hotReset => Sys2Proof.Machine.execHotReset s
  | .functionLevelReset => Sys2Proof.Machine.execFunctionLevelReset s
  | .busMasterChange bme d3 => Sys2Proof.Machine.execBusMasterChange bme d3 s
  | .ringEnable r w => Sys2Proof.Machine.execRingEnable r w s
  | .ringDisable r => Sys2Proof.Machine.execRingDisable r s
  | .ringDrained r => Sys2Proof.Machine.execRingDrained r s
  | .doorbellWrite off v whole dis => Sys2Proof.Machine.execDoorbellWrite off v whole dis s
  | .eventDoorbellWrite v => Sys2Proof.Machine.execEventDoorbellWrite v s
  | .eventRingEnable w => Sys2Proof.Machine.execEventRingEnable w s
  | .descriptorFetch r err => Sys2Proof.Machine.execDescriptorFetch r err s
  | .txDescriptor r err => Sys2Proof.Machine.execTxDescriptor r err s
  | .rxDelivery mgmt err => Sys2Proof.Machine.execRxDelivery mgmt err s
  | .rxwaitExpiry mgmt => Sys2Proof.Machine.execRxwaitExpiry mgmt s
  | .svcDescriptor r => Sys2Proof.Machine.execSvcDescriptor r s
  | .svcComplete r err => Sys2Proof.Machine.execSvcComplete r err s
  | .holdoffExpiry v => Sys2Proof.Machine.execHoldoffExpiry v s
  | .windowEnable w v => Sys2Proof.Machine.execWindowEnable w v s
  | .bridgeRead mgmt a n => Sys2Proof.Machine.execBridgeRead mgmt a n s
  | .bridgeWrite mgmt a data whole => Sys2Proof.Machine.execBridgeWrite mgmt a data whole s
  | .bridgeAccessIssue e => Sys2Proof.Machine.execBridgeAccessIssue e s
  | .bridgeReadTimeout id => Sys2Proof.Machine.execBridgeReadTimeout id s
  | .rdataReceive e => Sys2Proof.Machine.execRdataReceive e s
  | .memoryReadReceive e err => Sys2Proof.Machine.execMemoryReadReceive e err s
  | .memoryWriteReceive e err => Sys2Proof.Machine.execMemoryWriteReceive e err s
  | .signalReceive e err => Sys2Proof.Machine.execSignalReceive e err s
  | .memoryAckSend e => Sys2Proof.Machine.execMemoryAckSend e s
  | .memoryAckReceive e => Sys2Proof.Machine.execMemoryAckReceive e s
  | .wfailReceive e => Sys2Proof.Machine.execWfailReceive e s
  | .memoryRto e => Sys2Proof.Machine.execMemoryRto e s
  | .memoryHoldExpiry e err => Sys2Proof.Machine.execMemoryHoldExpiry e err s
  | .signalSend w => Sys2Proof.Machine.execSignalSend w s
  | .prefetchLineExpiry w line => Sys2Proof.Machine.execPrefetchLineExpiry w line s
  | .mstat n m e => Sys2Proof.Machine.execMstat n m e s
  | .mclr n m e => Sys2Proof.Machine.execMclr n m e s
  | .dmaEnable n => Sys2Proof.Machine.execDmaEnable n s
  | .dmaDisable n => Sys2Proof.Machine.execDmaDisable n s
  | .shadowValid n v => Sys2Proof.Machine.execShadowValid n v s
  | .dmaLoad n => Sys2Proof.Machine.execDmaLoad n s
  | .dmaStartAt n => Sys2Proof.Machine.execDmaStartAt n s
  | .dmaTransferDone n => Sys2Proof.Machine.execDmaTransferDone n s
  | .dmaBusError n moved dest cause => Sys2Proof.Machine.execDmaBusError n moved dest cause s
  | .dmaResume n => Sys2Proof.Machine.execDmaResume n s
  | .dramTrainingStart w => Sys2Proof.Machine.execDramTrainingStart w s
  | .dramTrainingDone ok => Sys2Proof.Machine.execDramTrainingDone ok s
  | .dramScrub cor unc => Sys2Proof.Machine.execDramScrub cor unc s
  | .hash => Sys2Proof.Machine.execHash s
  | .hmac a => Sys2Proof.Machine.execHmac a s
  | .kdf a b => Sys2Proof.Machine.execKdf a b s
  | .kdfec a b => Sys2Proof.Machine.execKdfec a b s
  | .keygen b ok => Sys2Proof.Machine.execKeygen b ok s
  | .pubkey a => Sys2Proof.Machine.execPubkey a s
  | .sign a => Sys2Proof.Machine.execSign a s
  | .verify => Sys2Proof.Machine.execVerify s
  | .ecdhkdf a b => Sys2Proof.Machine.execEcdhkdf a b s
  | .random ok => Sys2Proof.Machine.execRandom ok s
  | .destroy a => Sys2Proof.Machine.execDestroy a s
  | .imgver a => Sys2Proof.Machine.execImgver a s
  | .enroll ok => Sys2Proof.Machine.execEnroll ok s
  | .lcadv b copies => Sys2Proof.Machine.execLcadv b copies s
  | .arbadv b ok => Sys2Proof.Machine.execArbadv b ok s
  | .revoke a ok => Sys2Proof.Machine.execRevoke a ok s
  | .fuse ok => Sys2Proof.Machine.execFuse ok s
  | .keyCommandDone => Sys2Proof.Machine.execKeyCommandDone s
  | .slotCheckSweep => Sys2Proof.Machine.execSlotCheckSweep s
  | .offerSend t => Sys2Proof.Machine.execOfferSend t s
  | .offerReceive t bytes => Sys2Proof.Machine.execOfferReceive t bytes s
  | .proofReceive t bytes => Sys2Proof.Machine.execProofReceive t bytes s
  | .abortReceive t bytes => Sys2Proof.Machine.execAbortReceive t bytes s
  | .certreqReceive src bytes => Sys2Proof.Machine.execCertreqReceive src bytes s
  | .chainReceive src bytes place ok => Sys2Proof.Machine.execChainReceive src bytes place ok s
  | .powerOnReset => Sys2Proof.Machine.execPowerOnReset s
  | .porstAssert => Sys2Proof.Machine.execPorstAssert s
  | .chipReset k => Sys2Proof.Machine.execChipReset k s
  | .chipResetRelease compat pcieRc dbgEn => Sys2Proof.Machine.execChipResetRelease compat pcieRc dbgEn s
  | .genRstChip w => Sys2Proof.Machine.execGenRstChip w s
  | .genRstMgmt w => Sys2Proof.Machine.execGenRstMgmt w s
  | .mgmtReset wdt => Sys2Proof.Machine.execMgmtReset wdt s
  | .mgmtWatchdogKick w => Sys2Proof.Machine.execMgmtWatchdogKick w s
  | .mgmtWatchdogExpiry => Sys2Proof.Machine.execMgmtWatchdogExpiry s
  | .bootFuses cor bad => Sys2Proof.Machine.execBootFuses cor bad s
  | .bootKeys ra rb => Sys2Proof.Machine.execBootKeys ra rb s
  | .pufRetry ra rb => Sys2Proof.Machine.execPufRetry ra rb s
  | .bootSram => Sys2Proof.Machine.execBootSram s
  | .bootTable => Sys2Proof.Machine.execBootTable s
  | .bootMgmt => Sys2Proof.Machine.execBootMgmt s
  | .bootConfig => Sys2Proof.Machine.execBootConfig s
  | .configPoll => Sys2Proof.Machine.execConfigPoll s
  | .configPollTimeout => Sys2Proof.Machine.execConfigPollTimeout s
  | .configDelay => Sys2Proof.Machine.execConfigDelay s
  | .bootEngines => Sys2Proof.Machine.execBootEngines s
  | .bootRun => Sys2Proof.Machine.execBootRun s
  | .imageSlotWrite x isLen w => Sys2Proof.Machine.execImageSlotWrite x isLen w s
  | .seatDebounceComplete => Sys2Proof.Machine.execSeatDebounceComplete s
  | .removal => Sys2Proof.Machine.execRemoval s
  | .feedValid f => Sys2Proof.Machine.execFeedValid f s
  | .feedUndervoltage f => Sys2Proof.Machine.execFeedUndervoltage f s
  | .feedOvervoltage f mv => Sys2Proof.Machine.execFeedOvervoltage f mv s
  | .idealDiodeOn f => Sys2Proof.Machine.execIdealDiodeOn f s
  | .idealDiodeReverseOff f => Sys2Proof.Machine.execIdealDiodeReverseOff f s
  | .feedcOvervoltage mv => Sys2Proof.Machine.execFeedcOvervoltage mv s
  | .noFeed => Sys2Proof.Machine.execNoFeed s
  | .rampEnd => Sys2Proof.Machine.execRampEnd s
  | .pathgdRise => Sys2Proof.Machine.execPathgdRise s
  | .limitRecompute va vb vc vout vbus raw held => Sys2Proof.Machine.execLimitRecompute va vb vc vout vbus raw held s
  | .faultTimerTrip => Sys2Proof.Machine.execFaultTimerTrip s
  | .fastTrip raw => Sys2Proof.Machine.execFastTrip raw s
  | .retryExpiry => Sys2Proof.Machine.execRetryExpiry s
  | .retryReset => Sys2Proof.Machine.execRetryReset s
  | .pathOffCommand w => Sys2Proof.Machine.execPathOffCommand w s
  | .pathOnCommand w => Sys2Proof.Machine.execPathOnCommand w s
  | .clearLatch => Sys2Proof.Machine.execClearLatch s
  | .passDamaged => Sys2Proof.Machine.execPassDamaged s
  | .sinkSwitchClose => Sys2Proof.Machine.execSinkSwitchClose s
  | .sinkSwitchOpen reverse => Sys2Proof.Machine.execSinkSwitchOpen reverse s
  | .limitWrite shunt w => Sys2Proof.Machine.execLimitWrite shunt w s
  | .efuseLimitTrip n ma => Sys2Proof.Machine.execEfuseLimitTrip n ma s
  | .efuseFastTrip n ma => Sys2Proof.Machine.execEfuseFastTrip n ma s
  | .efuseThermalTrip n => Sys2Proof.Machine.execEfuseThermalTrip n s
  | .ccTerminationDetect cc2 rp cur => Sys2Proof.Machine.execCcTerminationDetect cc2 rp cur s
  | .attachDebounce => Sys2Proof.Machine.execAttachDebounce s
  | .tryExpiry seen cur => Sys2Proof.Machine.execTryExpiry seen cur s
  | .drpToggle => Sys2Proof.Machine.execDrpToggle s
  | .sinkDetach => Sys2Proof.Machine.execSinkDetach s
  | .sourceDetach => Sys2Proof.Machine.execSourceDetach s
  | .errrecExpiry => Sys2Proof.Machine.execErrrecExpiry s
  | .feedPathLeaveOn => Sys2Proof.Machine.execFeedPathLeaveOn s
  | .sourceCapabilitiesReceive objs => Sys2Proof.Machine.execSourceCapabilitiesReceive objs s
  | .requestReceive w => Sys2Proof.Machine.execRequestReceive w s
  | .psRdyReceive => Sys2Proof.Machine.execPsRdyReceive s
  | .pdTimerExpiry k => Sys2Proof.Machine.execPdTimerExpiry k s
  | .ppsKeepalive => Sys2Proof.Machine.execPpsKeepalive s
  | .sourceCurrentLimitTrip => Sys2Proof.Machine.execSourceCurrentLimitTrip s
  | .updPrswap w => Sys2Proof.Machine.execUpdPrswap w s
  | .updDrswap w => Sys2Proof.Machine.execUpdDrswap w s
  | .updHreset w => Sys2Proof.Machine.execUpdHreset w s
  | .updExitalt w => Sys2Proof.Machine.execUpdExitalt w s
  | .prSwapReceive => Sys2Proof.Machine.execPrSwapReceive s
  | .drSwapReceive => Sys2Proof.Machine.execDrSwapReceive s
  | .hardResetReceive => Sys2Proof.Machine.execHardResetReceive s
  | .softResetReceive => Sys2Proof.Machine.execSoftResetReceive s
  | .unsupportedMessageReceive vconn => Sys2Proof.Machine.execUnsupportedMessageReceive vconn s
  | .altModeDiscovery vdo dpSink pinC pinD => Sys2Proof.Machine.execAltModeDiscovery vdo dpSink pinC pinD s
  | .enterModeReceive svid => Sys2Proof.Machine.execEnterModeReceive svid s
  | .enterModeAck ack => Sys2Proof.Machine.execEnterModeAck ack s
  | .exitModeReceive => Sys2Proof.Machine.execExitModeReceive s
  | .dpAttention hpd irq => Sys2Proof.Machine.execDpAttention hpd irq s
  | .pwrCmdRun w => Sys2Proof.Machine.execPwrCmdRun w s
  | .pwrCmdTrim w => Sys2Proof.Machine.execPwrCmdTrim w s
  | .pwrCmdHush w => Sys2Proof.Machine.execPwrCmdHush w s
  | .pwrCmdDormant w => Sys2Proof.Machine.execPwrCmdDormant w s
  | .pwrCmdOff w => Sys2Proof.Machine.execPwrCmdOff w s
  | .handshakeAnswer k => Sys2Proof.Machine.execHandshakeAnswer k s
  | .firmwareAnswer w => Sys2Proof.Machine.execFirmwareAnswer w s
  | .handshakeTimeout k => Sys2Proof.Machine.execHandshakeTimeout k s
  | .wakeEvent k => Sys2Proof.Machine.execWakeEvent k s
  | .wakeTimerExpiry => Sys2Proof.Machine.execWakeTimerExpiry s
  | .avsConfirm mv => Sys2Proof.Machine.execAvsConfirm mv s
  | .avsTimeout => Sys2Proof.Machine.execAvsTimeout s
  | .powerGood => Sys2Proof.Machine.execPowerGood s
  | .railUndervoltage => Sys2Proof.Machine.execRailUndervoltage s
  | .referenceClockLost => Sys2Proof.Machine.execReferenceClockLost s
  | .pllLockLost k => Sys2Proof.Machine.execPllLockLost k s
  | .faultStatusClear j w hw => Sys2Proof.Machine.execFaultStatusClear j w hw s
  | .faultCfgWrite slot w => Sys2Proof.Machine.execFaultCfgWrite slot w s
  | .faultEscalation slot => Sys2Proof.Machine.execFaultEscalation slot s
  | .temperatureSample code => Sys2Proof.Machine.execTemperatureSample code s
  | .configParitySweep bad => Sys2Proof.Machine.execConfigParitySweep bad s
  | .collectorLockstepMismatch => Sys2Proof.Machine.execCollectorLockstepMismatch s
  | .mgmtLockstepMismatch => Sys2Proof.Machine.execMgmtLockstepMismatch s
  | .mgmtSramEcc a => Sys2Proof.Machine.execMgmtSramEcc a s
  | .elytraEnterCommand w => Sys2Proof.Machine.execElytraEnterCommand w s
  | .elytraExitCommand w => Sys2Proof.Machine.execElytraExitCommand w s
  | .gpioEdge p ball ago => Sys2Proof.Machine.execGpioEdge p ball ago s
  | .i2cWriteByte b w => Sys2Proof.Machine.execI2cWriteByte b w s
  | .i2cReadByte b w => Sys2Proof.Machine.execI2cReadByte b w s
  | .i2cCommandDone b outcome data => Sys2Proof.Machine.execI2cCommandDone b outcome data s
  | .i2cStretchTimeout b => Sys2Proof.Machine.execI2cStretchTimeout b s
  | .mdioC22Write w => Sys2Proof.Machine.execMdioC22Write w s
  | .mdioC22Read w => Sys2Proof.Machine.execMdioC22Read w s
  | .mdioC45Address w => Sys2Proof.Machine.execMdioC45Address w s
  | .mdioC45Write w => Sys2Proof.Machine.execMdioC45Write w s
  | .mdioC45ReadIncrement w => Sys2Proof.Machine.execMdioC45ReadIncrement w s
  | .mdioC45Read w => Sys2Proof.Machine.execMdioC45Read w s
  | .mdioFrameDone resp data => Sys2Proof.Machine.execMdioFrameDone resp data s
  | .farDeviceRemoteWake n => Sys2Proof.Machine.execFarDeviceRemoteWake n s
  | .portDisconnect n => Sys2Proof.Machine.execPortDisconnect n s
  | .portResumeEnd n => Sys2Proof.Machine.execPortResumeEnd n s
  | .acceptRejectWaitReceive k => Sys2Proof.Machine.execAcceptRejectWaitReceive k s
  | .waitRequestRepeat => Sys2Proof.Machine.execWaitRequestRepeat s
  | .discoverRequestReceive k => Sys2Proof.Machine.execDiscoverRequestReceive k s
  | .referenceClockReturn k => Sys2Proof.Machine.execReferenceClockReturn k s
  | .perstDeassert => Sys2Proof.Machine.execPerstDeassert s
  | .sinkDeadTimeExpiry => Sys2Proof.Machine.execSinkDeadTimeExpiry s

end Sys2Proof.Machine
end

