-- ==== Sys2Proof/Safety.lean ====
section
/-! DEFINITION. What the claims take as a sound state of the hub: tables and memories in their one canonical form, and what no step may undo. -/

namespace Sys2Proof.Machine

/-- The stores of the hub are in canonical form: register keys strictly rising; every memory with rising addresses and no entry that an unlisted address reads as (the scratchpad: none, R250). -/
structure State.Sound (s : State) : Prop where
  regs : Tab.sorted s.regs = true
  host : Memory.wf s.host = true
  dram : Memory.wf s.dram = true
  sram : Memory.wf s.sram = true
  pad : Tab.wf none s.pad = true
  flash : Memory.wf s.flash = true

/-- Every bit of the fuse array that is burnt in `s` is burnt in `t` (R402: the array is one-time programmable). -/
def FusesKept (s t : State) : Prop :=
  ∀ r b, (Tab.get s.keys.fuse r 0).testBit b = true → (Tab.get t.keys.fuse r 0).testBit b = true

end Sys2Proof.Machine
end

