-- ==== Sys2Proof/Certificates/Slice0/Obligations.lean ====
section
/-! DEFINITION. The statements for the provers. -/

open Sys2Proof Sys2Proof.Machine

/-- For every command c, queue l and state s, a step of s with c at the front of its queue is exec of c on s with the rest of the queue. -/
def Obligations.StepRunsFront : Prop :=
  ∀ (c : Instr) (l : List Instr) (s : State),
    step { s with pending := c :: l } = exec c { s with pending := l }

/-- With no command waiting, a step leaves the hub as it is, and no word of the command table puts a command in the queue, since the table gives no row any bits (log entries 1 and 2). -/
def Obligations.EmptyQueueIdles : Prop :=
  (∀ (s : State),
    s.pending = [] → 
    step s = .next s) ∧
  (∀ (s : State) (nbits w : Nat),
    decodeTableWord nbits w = none ∧ s.withFetchWord nbits w = s)

/-- REGISTER_WRITE at an aligned offset of a register whose block adds nothing to the write writes its fields under their access types and the block's lock, and nothing else, with the written word but for the bits that hardware sets in the same cycle, which it keeps set. With no bit set by hardware in the cycle, REGISTER_WRITE is the write of the word alone. UNALIGNED_ACCESS has no effect, and a read returns 0 (R22). UNMAPPED_REGISTER_ACCESS at an unassigned offset notes the offset at source 9 of the fault collector, a read returns 0, and nothing else changes (R46). BLOCK_LOCK_SET, the write of a block's lock register, writes that register's fields and nothing else, where its block adds nothing to the write. Each of these commands is shown to answer a next state with its own effect: registerWrite, unalignedAccess, unmappedRegisterAccess, blockLockSet. -/
def Obligations.RegisterWritePlain : Prop :=
  (∀ (off : BitVec 26) (w hw : Word) (mgmt : Bool) (b : Block) (r : Reg) (i j v : Nat) (s : State),
    off.toNat % 4 = 0 → padWindow off.toNat 4 = false → epWindow off.toNat = false → findReg off.toNat = some (b, r, i, j) → v = hwWins off.toNat (s.steerWins off.toNat w.toNat hw.toNat) hw.toNat → (s.blockWrites off.toNat v mgmt).findSome? id = none → 
    exec (.registerWrite off w mgmt hw) s = .next (s.writeFields (s.locked b) r.flds i j v)) ∧
  (∀ (off : BitVec 26) (w : Word) (mgmt : Bool) (s : State),
    exec (.registerWrite off w mgmt 0) s = .next (s.regWrite off.toNat w.toNat mgmt)) ∧
  (∀ (s : State),
    exec (.unalignedAccess true) s = .next { s with readWord := 0 } ∧ exec (.unalignedAccess false) s = .next s) ∧
  (∀ (off : BitVec 26) (s : State),
    off.toNat % 4 = 0 → assigned off.toNat = false → padWindow off.toNat 4 = false → 
    exec (.unmappedRegisterAccess off true) s = .next { s.unmapped off.toNat with readWord := 0 } ∧ exec (.unmappedRegisterAccess off false) s = .next (s.unmapped off.toNat)) ∧
  (∀ (off : BitVec 26) (w : Word) (mgmt : Bool) (b : Block) (r : Reg) (i j : Nat) (s : State),
    off.toNat % 4 = 0 → padWindow off.toNat 4 = false → epWindow off.toNat = false → findReg off.toNat = some (b, r, i, j) → (s.blockWrites off.toNat w.toNat mgmt).findSome? id = none → 
    exec (.blockLockSet off w mgmt) s = .next (s.writeFields (s.locked b) r.flds i j w.toNat))

/-- After a write of the word w to a register whose fields lie apart, each field reads: RW the written code where it is not reserved and else its old code (R15); RWL the same while the lock bit was 0 and else its old code; W1C its old bits but those written 1; W1S its old bits and those written 1; RO and WO its old code; a write-to-clear counter 0. Fields of other registers keep their codes. -/
def Obligations.FieldAccessTypes : Prop :=
  (∀ (s : State) (lk : Bool) (fs : List Field) (i j w : Nat) (F : Field),
    Tab.sorted s.regs = true → fs.Pairwise (fun A B => A.key i j ≠ B.key i j) → F ∈ fs → (∀ A ∈ fs, s.rd A i j < 2 ^ A.width) → 
    (F.acc = .rw → (s.writeFields lk fs i j w).rd F i j = if F.codeOk (bitsOf w F.hi F.lo) then bitsOf w F.hi F.lo else s.rd F i j) ∧
      (F.acc = .rwl → (s.writeFields lk fs i j w).rd F i j = if !lk && F.codeOk (bitsOf w F.hi F.lo) then bitsOf w F.hi F.lo else s.rd F i j) ∧
      (F.acc = .w1c → ∀ k, ((s.writeFields lk fs i j w).rd F i j).testBit k = ((s.rd F i j).testBit k && !(bitsOf w F.hi F.lo).testBit k)) ∧
      (F.acc = .w1s → ∀ k, ((s.writeFields lk fs i j w).rd F i j).testBit k = ((s.rd F i j).testBit k || (bitsOf w F.hi F.lo).testBit k)) ∧
      (F.acc = .cnt → (s.writeFields lk fs i j w).rd F i j = 0) ∧
      (F.acc = .ro ∨ F.acc = .wo → (s.writeFields lk fs i j w).rd F i j = s.rd F i j)) ∧
  (∀ (s : State) (lk : Bool) (fs : List Field) (i j w : Nat) (G : Field) (k l : Nat),
    (∀ A ∈ fs, A.key i j ≠ G.key k l) → 
    (s.writeFields lk fs i j w).rd G k l = s.rd G k l ∧ s.writeFields lk fs i j w = { s with regs := (s.writeFields lk fs i j w).regs })

/-- In every block of the map, the fields of a register lie in its word, each with its lowest bit at or below its highest, and no two of them share a bit; the windows of two blocks do not overlap. -/
def Obligations.RegisterMapApart : Prop :=
  ((∀ b ∈ regBlocks, ∀ r ∈ b.regs, (∀ F ∈ r.flds, F.off = r.off ∧ F.str = r.str ∧ F.str2 = r.str2 ∧ F.lo ≤ F.hi ∧ F.hi < 32) ∧ r.flds.Pairwise (fun A B => A.hi < B.lo ∨ B.hi < A.lo))) ∧
  (regBlocks.Pairwise (fun a b => a.base + a.size ≤ b.base ∨ b.base + b.size ≤ a.base))

/-- In every block whose lock register has no other reaction, a write with the lock bit set sets it, whatever it held, and changes the lock bit of no other block (R48). -/
def Obligations.LockBitOfOneBlock : Prop :=
  ∀ (b : Block) (L : Field) (w : Word) (mgmt : Bool) (s : State),
    b ∈ regBlocks → b.lock = some L → w.toNat.testBit L.lo = true → Tab.sorted s.regs = true → (s.blockWrites L.off w.toNat mgmt).findSome? id = none → 
    ∃ t, exec (.blockLockSet (BitVec.ofNat 26 L.off) w mgmt) s = .next t ∧ t.on L = true ∧ ∀ a ∈ regBlocks, a.base ≠ b.base → t.locked a = s.locked a

/-- For every counter that a write at an offset clears, if the write clears it and it advances in the same cycle, it reads 1 afterwards. -/
def Obligations.CounterClearRace : Prop :=
  ∀ (off : BitVec 26) (w inc : Word) (b : Nat) (F : Field) (i j : Nat) (s : State),
    Tab.sorted s.regs = true → b < 32 → w.toNat.testBit b = true → inc.toNat.testBit b = true → (F, i, j) ∈ State.countersOf off.toNat b → F.lo ≤ F.hi → 
    ∃ t, exec (.counterClear off w inc) s = .next t ∧ t.rd F i j = 1

/-- For every one-dimensional counter array with a counter-clear register, a write to that register clears the counters whose bits are 1 (one that advances in the same cycle reads 1), and those whose bits are 0 keep their counts. -/
def Obligations.CounterClears : Prop :=
  ∀ (off : Nat) (F : Field) (n b : Nat) (w inc : Word) (s : State),
    (off, F, n) ∈ State.clearOne → b < n → Tab.sorted s.regs = true → 
    ∃ t, exec (.counterClear (BitVec.ofNat 26 off) w inc) s = .next t ∧ t.rd F b = if w.toNat.testBit b then bit (inc.toNat.testBit b) else s.rd F b

/-- CTX_OPEN with FAB_CTXSTAT.BUSY 0, of a FREE slot 1 to 252 that passes every check of R70: the slot is OPENING with SEQ and DISCARDS 0, its policer is full, its OPEN_TO timer starts, BUSY is 1 and the code OK is kept for the completion; nothing else changes. CTX_ACTIVATE of an OPENING slot whose OPEN_TO time has not run out: the slot is OPEN and its timer stops, BUSY is 1, the code OK is kept; nothing else changes. CTX_CLOSE of an OPEN terminus slot, or of an OPEN origin slot with packets in flight: the slot is CLOSING and its CLOSE_TO timer starts, BUSY is 1, the code OK is kept; nothing else changes. CTX_CLOSE of an OPEN origin slot with nothing in flight: the slot is RETIRED at once and its retire time starts. CTX_ABORT of an OPEN slot: the slot is RETIRED and its retire time starts, BUSY is 1, the code OK is kept; nothing else changes. A command on a slot whose timer has run out meets the timer's effect first and completes with the code BUSY: an OPENING slot becomes FREE and is counted (R70). CTXCMD_COMPLETE clears BUSY and shows the code and the slot of the command; nothing else changes where the command was no OPEN that succeeded. With BUSY 1 each of the four commands sets FAB_CTXSTAT.OVR and has no other effect. CONTEXT_WORD_WRITE to a FREE slot 1 to 252: word 0 takes its source key, word 1 its destination, word 3 its partner where the code is 0 to 252; nothing else changes. Written to a CLOSING slot, every word is ignored and FAB_CTXSTAT.LATE set. DESTINATION_LIST_WRITE to an entry that no used slot refers to stores the address; nothing else changes. To an entry in use it stores nothing and sets LATE. FAB_SELF_WRITE with every slot FREE takes the written fields, and the trunks are checked against the new address: a bond that waited for it goes on, and without a valid address a link that trains or is up goes back to BOND (R157). With every slot FREE, the fabric unlocked, station and hub numbers not 0 and every trunk disabled, the new address is VALID, STATION, RING, CHAIN and HUB as written, and nothing else changes. With a slot in use the write is ignored and SELFREJ set. FAB_REGION_WRITE takes the written region, and the trunks are checked against it as for FAB_SELF. With the fabric unlocked and every trunk disabled the region tag is the written one, and nothing else changes. OPEN_TO_EXPIRY of an OPENING slot whose OPEN_TO time has run out: the slot is FREE, its timer stops, and FAB_CNT7 counts. CLOSE_TO_EXPIRY of a CLOSING slot whose CLOSE_TO time has run out: the slot is RETIRED and its retire time starts. RETIRE_EXPIRY of a RETIRED slot whose retire time has run out: the slot is FREE and its timer stops. INFLIGHT_DRAINED of a CLOSING origin slot with nothing in flight: the slot is RETIRED and its retire time starts. An OPEN slot none of these four events changes. Nor does an expiry change anything before the slot's time has run out. DD_ENTRY_AGE keeps exactly the entries of the duplicate-discard table last used no more than AGE milliseconds ago, and shows how many there are and whether the table is full; nothing else changes. DD_FLUSH empties the table and the list of victims; nothing else changes. Each of these commands is shown to answer a next state with its own effect: ctxOpen, ctxActivate, ctxClose, ctxAbort, ctxcmdComplete, contextWordWrite, destinationListWrite, fabSelfWrite, fabRegionWrite, openToExpiry, closeToExpiry, retireExpiry, inflightDrained, ddEntryAge, ddFlush. -/
def Obligations.TunnelContexts : Prop :=
  (∀ (n : Fin 256) (s : State),
    s.on FAB_CTXSTAT_BUSY = false → n.val ≠ 0 → ¬ n.val > 252 → s.rd CTX3_STATE n = 0 → s.openCheck n = .ok → 
    exec (.ctxOpen n) s = .next { ((((s.wr CTX3_STATE 1 n).arm (.slot n) (s.rd FAB_TIMERS_OPEN_TO * 10000000)).wr CTX5_DISCARDS 0 n).wr CTX7_SEQ 0 n).wr FAB_CTXSTAT_BUSY 1 with shp := { s.shp with policer := Tab.put s.shp.policer n none none }, fab := { s.fab with cmdCode := 0, cmdSlot := n, cmdOpen := true } }) ∧
  (∀ (n : Fin 256) (s : State),
    s.on FAB_CTXSTAT_BUSY = false → n.val ≠ 0 → ¬ n.val > 252 → s.rd CTX3_STATE n = 1 → s.due (.slot n) = false → 
    exec (.ctxActivate n) s = .next { ((s.wr CTX3_STATE 2 n).disarm (.slot n)).wr FAB_CTXSTAT_BUSY 1 with fab := { s.fab with cmdCode := 0, cmdSlot := n, cmdOpen := false } }) ∧
  (∀ (n : Fin 256) (s : State),
    s.on FAB_CTXSTAT_BUSY = false → n.val ≠ 0 → ¬ n.val > 252 → s.rd CTX3_STATE n = 2 → s.on CTX2_DIR n = true ∨ Tab.get s.fab.inflight n 0 ≠ 0 → 
    exec (.ctxClose n) s = .next { ((s.wr CTX3_STATE 3 n).arm (.slot n) (s.rd FAB_TIMERS_CLOSE_TO * 1000000)).wr FAB_CTXSTAT_BUSY 1 with fab := { s.fab with cmdCode := 0, cmdSlot := n, cmdOpen := false } }) ∧
  (∀ (n : Fin 256) (s : State),
    s.on FAB_CTXSTAT_BUSY = false → n.val ≠ 0 → ¬ n.val > 252 → s.rd CTX3_STATE n = 2 → s.on CTX2_DIR n = false → Tab.get s.fab.inflight n 0 = 0 → 
    exec (.ctxClose n) s = .next { ((s.wr CTX3_STATE 4 n).arm (.slot n) (s.rd FAB_TIMERS_RETIRE * 1000000)).wr FAB_CTXSTAT_BUSY 1 with fab := { s.fab with cmdCode := 0, cmdSlot := n, cmdOpen := false } }) ∧
  (∀ (n : Fin 256) (s : State),
    s.on FAB_CTXSTAT_BUSY = false → n.val ≠ 0 → ¬ n.val > 252 → s.rd CTX3_STATE n = 2 → 
    exec (.ctxAbort n) s = .next { ((s.wr CTX3_STATE 4 n).arm (.slot n) (s.rd FAB_TIMERS_RETIRE * 1000000)).wr FAB_CTXSTAT_BUSY 1 with fab := { s.fab with cmdCode := 0, cmdSlot := n, cmdOpen := false } }) ∧
  (∀ (n : Fin 256) (s : State),
    s.on FAB_CTXSTAT_BUSY = false → n.val ≠ 0 → ¬ n.val > 252 → s.rd CTX3_STATE n = 1 → s.due (.slot n) = true → 
    exec (.ctxActivate n) s = .next { (((s.wr CTX3_STATE 0 n).disarm (.slot n)).sat FAB_CNT_COUNT 7).wr FAB_CTXSTAT_BUSY 1 with fab := { s.fab with cmdCode := CtxCode.busy.code, cmdSlot := n, cmdOpen := false } }) ∧
  (∀ (s : State),
    s.on FAB_CTXSTAT_BUSY = true → s.fab.cmdOpen = false → 
    exec .ctxcmdComplete s = .next (((s.wr FAB_CTXSTAT_BUSY 0).wr FAB_CTXSTAT_CODE s.fab.cmdCode).wr FAB_CTXSTAT_LASTSLOT s.fab.cmdSlot)) ∧
  (∀ (n : Fin 256) (s : State),
    s.on FAB_CTXSTAT_BUSY = true → 
    exec (.ctxOpen n) s = .next (s.wr FAB_CTXSTAT_OVR 1) ∧ exec (.ctxActivate n) s = .next (s.wr FAB_CTXSTAT_OVR 1) ∧ exec (.ctxClose n) s = .next (s.wr FAB_CTXSTAT_OVR 1) ∧ exec (.ctxAbort n) s = .next (s.wr FAB_CTXSTAT_OVR 1)) ∧
  (∀ (n : Fin 253) (w : Word) (s : State),
    n.val ≠ 0 → s.rd CTX3_STATE n = 0 → bitsOf w.toNat 7 0 ≤ 252 → 
    exec (.contextWordWrite n 0 w) s = .next (s.wr CTX0_KEYSRC (bitsOf w.toNat 24 0) n) ∧ exec (.contextWordWrite n 1 w) s = .next (s.wr CTX1_DEST (bitsOf w.toNat 24 0) n) ∧ exec (.contextWordWrite n 3 w) s = .next (s.wr CTX3_PARTNER (bitsOf w.toNat 7 0) n)) ∧
  (∀ (n : Fin 253) (k : Fin 8) (w : Word) (s : State),
    n.val ≠ 0 → s.rd CTX3_STATE n = 3 → 
    exec (.contextWordWrite n k w) s = .next (s.wr FAB_CTXSTAT_LATE 1)) ∧
  (∀ (k : Fin 256) (w : Word) (s : State),
    s.dlistUsed k = false → 
    exec (.destinationListWrite k w) s = .next (s.wr FAB_DLIST_DEST w.toNat k)) ∧
  (∀ (k : Fin 256) (w : Word) (s : State),
    s.dlistUsed k = true → 
    exec (.destinationListWrite k w) s = .next (s.wr FAB_CTXSTAT_LATE 1)) ∧
  (∀ (w : Word) (s : State),
    State.slots.any (fun n => s.rd CTX3_STATE n != 0) = false → 
    exec (.fabSelfWrite w) s = .next (s.writeReg 0x180000 w.toNat).serviceCheck) ∧
  (∀ (w : Word) (s : State),
    State.slots.any (fun n => s.rd CTX3_STATE n != 0) = false → s.on FAB_LOCK_LOCK = false → 1 ≤ bitsOf w.toNat 24 18 → 1 ≤ bitsOf w.toNat 10 7 → (∀ t < 4, s.rd TRK_STAT_STATE t = 0) → 
    exec (.fabSelfWrite w) s = .next (((((s.wr FAB_SELF_VALID (bitsOf w.toNat 31 31)).wr FAB_SELF_STATION (bitsOf w.toNat 24 18)).wr FAB_SELF_RING (bitsOf w.toNat 17 15)).wr FAB_SELF_CHAIN (bitsOf w.toNat 14 11)).wr FAB_SELF_HUB (bitsOf w.toNat 10 7))) ∧
  (∀ (w : Word) (s : State),
    State.slots.any (fun n => s.rd CTX3_STATE n != 0) = true → 
    exec (.fabSelfWrite w) s = .next (s.wr FAB_CTXSTAT_SELFREJ 1)) ∧
  (∀ (w : Word) (s : State),
    exec (.fabRegionWrite w) s = .next (s.writeReg 0x180004 w.toNat).serviceCheck) ∧
  (∀ (w : Word) (s : State),
    s.on FAB_LOCK_LOCK = false → (∀ t < 4, s.rd TRK_STAT_STATE t = 0) → 
    exec (.fabRegionWrite w) s = .next (s.wr FAB_REGION_TAG (bitsOf w.toNat 15 0))) ∧
  (∀ (n : Fin 253) (s : State),
    s.rd CTX3_STATE n = 1 → s.due (.slot n) = true → 
    exec (.openToExpiry n) s = .next (((s.wr CTX3_STATE 0 n).disarm (.slot n)).sat FAB_CNT_COUNT 7)) ∧
  (∀ (n : Fin 253) (s : State),
    s.rd CTX3_STATE n = 3 → s.due (.slot n) = true → 
    exec (.closeToExpiry n) s = .next ((s.wr CTX3_STATE 4 n).arm (.slot n) (s.rd FAB_TIMERS_RETIRE * 1000000))) ∧
  (∀ (n : Fin 253) (s : State),
    s.rd CTX3_STATE n = 4 → s.due (.slot n) = true → 
    exec (.retireExpiry n) s = .next ((s.wr CTX3_STATE 0 n).disarm (.slot n))) ∧
  (∀ (n : Fin 253) (s : State),
    s.rd CTX3_STATE n = 3 → s.on CTX2_DIR n = false → Tab.get s.fab.inflight n 0 = 0 → 
    exec (.inflightDrained n) s = .next ((s.wr CTX3_STATE 4 n).arm (.slot n) (s.rd FAB_TIMERS_RETIRE * 1000000))) ∧
  (∀ (n : Fin 253) (s : State),
    s.rd CTX3_STATE n = 2 → 
    exec (.openToExpiry n) s = .next s ∧ exec (.closeToExpiry n) s = .next s ∧ exec (.retireExpiry n) s = .next s ∧ exec (.inflightDrained n) s = .next s) ∧
  (∀ (n : Fin 253) (s : State),
    s.due (.slot n) = false → 
    exec (.openToExpiry n) s = .next s ∧ exec (.closeToExpiry n) s = .next s ∧ exec (.retireExpiry n) s = .next s) ∧
  (∀ (s : State),
    ∃ t, exec .ddEntryAge s = .next t ∧ (∀ e, e ∈ t.fab.dd ↔ e ∈ s.fab.dd ∧ s.tmu.elapsed ≤ e.used + s.rd FAB_DD_CFG_AGE * 1000000 * 2 ^ 32) ∧ t = { ((s.wr FAB_DD_STAT_USED t.fab.dd.length).wr FAB_DD_STAT_FULL (bit (t.fab.dd.length ≥ 4096))) with fab := { s.fab with dd := t.fab.dd } }) ∧
  (∀ (s : State),
    ∃ t, exec .ddFlush s = .next t ∧ t.fab = { s.fab with dd := [], victims := [] } ∧ t = { (s.wr FAB_DD_STAT_USED 0).wr FAB_DD_STAT_FULL 0 with fab := t.fab })

/-- TIME_TICK outside DORMANT and OFF and with the chip reset released: the time of day and the elapsed count advance by the increment in use (the slewed one while slewed ticks remain), one slewed tick is used up, and the mains phase advances by the tracker's increment; nothing else changes. INCREMENT_WRITE with the 40-bit value of both words in range, and in range with the slew that runs or waits: the increment is that value and the low word holds what was written; nothing else changes (R79, R84). SLEW_END with no slewed tick left clears SLEWACT. LEAP_APPLY at the end of the UTC day in which LEAP61 was set: OFFSET goes up by one and the flag clears; nothing else changes. With LEAP59 set, one second before the end of that day, OFFSET goes down by one and the flag clears. Before the end of that day it changes nothing. TWO_STEP_POP of a port reads the last word of the entry shown, removes the head of the port's two-step queue and shows the next entry; nothing else changes (R95). SET_TIME with a nanosecond word of at most 999,999,999 joins the waiting commands with the value of the SET words; nothing else changes. SET_TIME with a larger one is rejected: CMDREJ is set and the rejection counted, nothing else changes. STEP joins the waiting commands with its signed amount; nothing else changes. SLEW with INCR plus its offset in range joins the waiting commands with offset and length; nothing else changes. SNAP asks for a snapshot; nothing else changes. SET_APPLY, with SET first of the waiting commands: the time of day is its value, a slew ends, TVALID and STEPPED are set, STEPCNT advances, and the ports' gates are shown anew. STEP_APPLY, with STEP first and a result not below 0: the time of day moves by the amount, STEPPED is set, STEPCNT advances, and the gates are shown anew. With a result below 0 the STEP is rejected: it leaves the queue, CMDREJ is set and counted. SLEW_APPLY, with SLEW first: its offset and its number of ticks run from now on and SLEWACT is set; nothing else changes. SNAP_APPLY with a snapshot asked for and no command waiting: the snapshot words hold the time of day, its 32-bit nanosecond count and the mains phase and cycle; nothing else changes. Each of these commands is shown to answer a next state with its own effect: timeTick, incrementWrite, slewEnd, leapApply, twoStepPop, setTime, step, slew, snap, setApply, stepApply, slewApply, snapApply. -/
def Obligations.TimeUnit : Prop :=
  (∀ (s : State),
    ¬ s.rd PWR_STAT_STATE ≥ 3 → s.boot.held = false → 
    exec .timeTick s = .next { s with tmu := { s.tmu with tod := Wide.ofUnits (s.tmu.tod.units + s.tickIncr), elapsed := (s.tmu.elapsed + s.tickIncr) % 2 ^ 96, slewLeft := s.tmu.slewLeft - 1 }, cyc := { s.cyc with acc := (s.cyc.acc + s.cyc.incr) % 2 ^ 64 } }) ∧
  (∀ (w : Word) (s : State),
    incrOk ((s.rd TMU_INCR_HI_INT * 2 ^ 32 + w.toNat % 2 ^ 32 : Nat) : Int) = true → incrOk (((s.rd TMU_INCR_HI_INT * 2 ^ 32 + w.toNat % 2 ^ 32 : Nat) : Int) + s.slewAhead) = true → 
    exec (.incrementWrite w) s = .next { s.wr TMU_INCR_LO_FRAC w.toNat with tmu := { s.tmu with incr := s.rd TMU_INCR_HI_INT * 2 ^ 32 + w.toNat % 2 ^ 32 } }) ∧
  (∀ (s : State),
    s.tmu.slewLeft = 0 → 
    exec .slewEnd s = .next (s.wr TMU_STAT_SLEWACT 0)) ∧
  (∀ (s : State),
    s.on TMU_UTC_LEAP61 = true → (s.tmu.leapDay + 1) * 86400 ≤ s.utcNow → 
    exec .leapApply s = .next ((s.wr TMU_UTC_OFFSET (s.rd TMU_UTC_OFFSET + 1)).wr TMU_UTC_LEAP61 0)) ∧
  (∀ (s : State),
    s.on TMU_UTC_LEAP61 = false → s.on TMU_UTC_LEAP59 = true → (s.tmu.leapDay + 1) * 86400 - 1 ≤ s.utcNow → 
    exec .leapApply s = .next ((s.wr TMU_UTC_OFFSET (s.rd TMU_UTC_OFFSET + 65535)).wr TMU_UTC_LEAP59 0)) ∧
  (∀ (s : State),
    s.on TMU_UTC_LEAP61 = true → s.utcNow < (s.tmu.leapDay + 1) * 86400 → 
    exec .leapApply s = .next s) ∧
  (∀ (p : Fin 12) (s : State),
    exec (.twoStepPop p) s = .next { ({ s with tmu := { s.tmu with tsq := Tab.put s.tmu.tsq p (Tab.get s.tmu.tsq p []).tail [] } }).tsqShow p with readWord := s.rd PT_TSQ_CORRHI_CORR_HI p }) ∧
  (∀ (s : State),
    ¬ s.rd TMU_SET_NS_NS > 999999999 → 
    exec .setTime s = .next { s with tmu := { s.tmu with cmds := s.tmu.cmds ++ [.set s.setWords] } }) ∧
  (∀ (s : State),
    s.rd TMU_SET_NS_NS > 999999999 → 
    exec .setTime s = .next ((s.wr TMU_STAT_CMDREJ 1).sat TMU_CNT_REJ_COUNT)) ∧
  (∀ (s : State),
    exec .step s = .next { s with tmu := { s.tmu with cmds := s.tmu.cmds ++ [.step (signedOf 32 (s.rd TMU_STEP_NS_NS) * 2 ^ 32 + s.rd TMU_STEP_FRAC_FRAC * 2 ^ 16)] } }) ∧
  (∀ (s : State),
    incrOk (s.tmu.incr + signedOf 24 (s.rd TMU_SLEW_OFS_OFS)) = true → 
    exec .slew s = .next { s with tmu := { s.tmu with cmds := s.tmu.cmds ++ [.slew (signedOf 24 (s.rd TMU_SLEW_OFS_OFS)) (s.rd TMU_SLEW_TICKS_TICKS)] } }) ∧
  (∀ (s : State),
    exec .snap s = .next { s with tmu := { s.tmu with snap := true } }) ∧
  (∀ (s : State) (t : Wide) (l : List TmuCmd),
    s.tmu.cmds = .set t :: l → 
    exec .setApply s = .next ((((({ s with tmu := { s.tmu with cmds := l, tod := t, slewLeft := 0 } }).wr TMU_STAT_SLEWACT 0).wr TMU_STAT_TVALID 1).stepped).gatesShow)) ∧
  (∀ (s : State) (d : Int) (l : List TmuCmd),
    s.tmu.cmds = .step d :: l → ¬ (s.tmu.tod.units : Int) + d < 0 → 
    exec .stepApply s = .next ((({ s with tmu := { s.tmu with cmds := l, tod := Wide.ofUnits ((s.tmu.tod.units : Int) + d).toNat } }).stepped).gatesShow)) ∧
  (∀ (s : State) (d : Int) (l : List TmuCmd),
    s.tmu.cmds = .step d :: l → (s.tmu.tod.units : Int) + d < 0 → 
    exec .stepApply s = .next ((({ s with tmu := { s.tmu with cmds := l } }).wr TMU_STAT_CMDREJ 1).sat TMU_CNT_REJ_COUNT)) ∧
  (∀ (s : State) (ofs : Int) (n : Nat) (l : List TmuCmd),
    s.tmu.cmds = .slew ofs n :: l → 
    exec .slewApply s = .next (({ s with tmu := { s.tmu with cmds := l, slewOfs := ofs, slewLeft := n } }).wr TMU_STAT_SLEWACT 1)) ∧
  (∀ (s : State),
    s.tmu.snap = true → s.tmu.cmds = [] → Tab.sorted s.regs = true → 
    ∃ t, exec .snapApply s = .next t ∧ t.rd TMU_SNAP_SECLO_SEC_LO = s.tmu.tod.sec % 2 ^ 32 ∧ t.rd TMU_SNAP_SECHI_SEC_HI = s.tmu.tod.sec / 2 ^ 32 % 2 ^ 16 ∧ t.rd TMU_SNAP_NS_NS = s.tmu.tod.ns % 2 ^ 32 ∧ t.rd TMU_SNAP_FRAC_FRAC = s.tmu.tod.frac16 % 2 ^ 16 ∧ t.rd TMU_SNAP_NS32_NS32 = s.tmu.tod.ns32 % 2 ^ 32 ∧ t.rd CYC_SNAP_LO_PHASE_LO = s.cyc.acc % 2 ^ 32 ∧ t.rd CYC_SNAP_HI_PHASE_HI = s.cyc.acc / 2 ^ 32 % 2 ^ 16 ∧ t.rd CYC_SNAP_HI_CYCLE = s.cyc.acc / 2 ^ 48 % 2 ^ 16 ∧ t.tmu = { s.tmu with snap := false } ∧ t = { s with regs := t.regs, tmu := t.tmu })

/-- COMPARE_FIRE of an enabled one-shot channel whose target was reached less than 2 ns ago: FIRED is set, the event line acts as ACT says, the channel is disabled and interrupt source c raised; LATE stays as it was. Of an enabled periodic channel whose target was passed by 2 ns or more: FIRED and LATE are set, the line acts, the target moves on by the period and the interrupt is raised. A periodic channel that has fired and is still behind only moves its target on by one period: no second firing, no interrupt (R89). The line's action: ACT 0 raises it for PULSE times 8 ns, ACT 1 toggles it, any other code leaves it (R88). The target that moves on is the old one plus the period, modulo 2^32 (R89). COMPARE_PULSE_END, the pulse's time over: the event line falls and the timer stops; nothing else changes. PPS_INPUT_EDGE of the configured sense, at least FILT times 100 ns old, at an enabled input that is not lost, whose last capture was read and whose interval fits: the time of the edge, in sixteenths of a tick, is captured with VALID and UNTRACED, EDGES advances and the edge starts the interval and the loss time anew; nothing else changes. An edge at a disabled input, of the other sense, or not held for the filter time changes nothing. PPS_INPUT_LOS of an enabled input, LOS times 100 ms after its last edge: LOS is set and the cause of fault source 27 + i rises. PPS_OUTPUT_EDGE of an enabled output with TVALID 1, its next target due within this tick and no pulse put out yet: the output is active, the second is noted, the delay within the tick is its number of sixteenths, and the pulse's WIDTH starts; nothing else changes. PPS_OUTPUT_TRAIL, WIDTH over: the output is inactive; nothing else changes. Each of these commands is shown to answer a next state with its own effect: compareFire, comparePulseEnd, ppsInputEdge, ppsInputLos, ppsOutputEdge, ppsOutputTrail. -/
def Obligations.CompareAndPulsePerSecond : Prop :=
  (∀ (c : Fin 8) (s : State),
    s.on CMP_CTRL_EN c = true → 0 ≤ s.compareDiff c → ¬ s.compareDiff c ≥ 2 → s.on CMP_CTRL_PERIODIC c = false → 
    exec (.compareFire c) s = .next ((((s.wr CMP_STAT_FIRED 1 c).compareAct c).wr CMP_CTRL_EN 0 c).irq c c 0)) ∧
  (∀ (c : Fin 8) (s : State),
    s.on CMP_CTRL_EN c = true → s.compareDiff c ≥ 2 → s.on CMP_CTRL_PERIODIC c = true → Tab.get s.tmu.behind c false = false → 
    exec (.compareFire c) s = .next (((((s.wr CMP_STAT_FIRED 1 c).wr CMP_STAT_LATE 1 c).compareAct c).compareAdvance c).irq c c 0)) ∧
  (∀ (c : Fin 8) (s : State),
    s.on CMP_CTRL_EN c = true → 0 ≤ s.compareDiff c → s.on CMP_CTRL_PERIODIC c = true → Tab.get s.tmu.behind c false = true → 
    exec (.compareFire c) s = .next (s.compareAdvance c)) ∧
  (∀ (c : Fin 8) (s : State),
    (s.rd CMP_CTRL_ACT c = 0 → s.compareAct c = ({ s with pins := { s.pins with line := Tab.put s.pins.line c true false } }).arm (.pulse c) (s.rd CMP_CTRL_PULSE c * 8)) ∧ (s.rd CMP_CTRL_ACT c = 1 → s.compareAct c = { s with pins := { s.pins with line := Tab.put s.pins.line c (!Tab.get s.pins.line c false) false } }) ∧ (s.rd CMP_CTRL_ACT c ≥ 2 → s.compareAct c = s)) ∧
  (∀ (c : Fin 8) (s : State),
    (s.compareAdvance c).rd CMP_TGT_TGT c = (s.rd CMP_TGT_TGT c + s.rd CMP_PER_PER c) % 2 ^ 32 ∨ Tab.sorted s.regs = false) ∧
  (∀ (c : Fin 8) (s : State),
    s.due (.pulse c) = true → 
    exec (.comparePulseEnd c) s = .next (({ s with pins := { s.pins with line := Tab.put s.pins.line c false false } }).disarm (.pulse c))) ∧
  (∀ (i : Fin 2) (rise : Bool) (n : Nat) (s : State),
    s.on PPSI_CFG_EN i = true → (rise == s.on PPSI_CFG_EDGE i) = false → s.rd PPSI_CFG_FILT i * 100 * 2 ^ 32 ≤ s.sixteenths n → s.on PPSI_STAT_LOS i = false → s.ppsInterval i (s.tmu.elapsed - s.sixteenths n) = true → s.on PPSI_STAT_VALID i = false → 
    ∃ t, exec (.ppsInputEdge i rise n) s = .next t ∧ t = { (((((((s.wr PPSI_SECLO_SEC_LO (Wide.ofUnits (s.tmu.tod.units - s.sixteenths n)).sec i).wr PPSI_NS_NS (Wide.ofUnits (s.tmu.tod.units - s.sixteenths n)).ns i).wr PPSI_FRAC_FRAC (Wide.ofUnits (s.tmu.tod.units - s.sixteenths n)).frac16 i).wr PPSI_STAT_UNTRACED (bit (!s.on TMU_STAT_TVALID)) i).wr PPSI_STAT_VALID 1 i).wrap PPSI_STAT_EDGES i).arm (.pps i) 0) with tmu := { s.tmu with ppsLast := Tab.put s.tmu.ppsLast i (some (s.tmu.elapsed - s.sixteenths n)) none } }) ∧
  (∀ (i : Fin 2) (rise : Bool) (n : Nat) (s : State),
    s.on PPSI_CFG_EN i = false ∨ (rise == s.on PPSI_CFG_EDGE i) = true ∨ s.sixteenths n < s.rd PPSI_CFG_FILT i * 100 * 2 ^ 32 → 
    exec (.ppsInputEdge i rise n) s = .next s) ∧
  (∀ (i : Fin 2) (s : State),
    s.on PPSI_CFG_EN i = true → s.on PPSI_STAT_LOS i = false → s.ran (.pps i) (s.rd PPSI_CFG_LOS i * 100000000) = true → 
    exec (.ppsInputLos i) s = .next ((s.wr PPSI_STAT_LOS 1 i).causeOn (27 + i) 0)) ∧
  (∀ (o : Fin 2) (s : State),
    s.on PPSO_CFG_EN o = true → s.on TMU_STAT_TVALID = true → (s.ppsTarget o).2 - s.tmu.tod.units ≤ s.tickIncr → Tab.get s.tmu.ppsSec o none = none → 
    exec (.ppsOutputEdge o) s = .next { (s.arm (.ppsTrail o) (s.rd PPSO_CFG_WIDTH o * 10000)) with tmu := { s.tmu with ppsOut := Tab.put s.tmu.ppsOut o true false, ppsSec := Tab.put s.tmu.ppsSec o (some (s.ppsTarget o).1) none, ppsTaps := Tab.put s.tmu.ppsTaps o (((s.ppsTarget o).2 - s.tmu.tod.units) * 16 / s.tmu.incr).toNat 0 } }) ∧
  (∀ (o : Fin 2) (s : State),
    s.due (.ppsTrail o) = true → 
    exec (.ppsOutputTrail o) s = .next { (s.disarm (.ppsTrail o)) with tmu := { s.tmu with ppsOut := Tab.put s.tmu.ppsOut o false false } })

/-- CYC_SRC_WRITE that leaves a source selected while the tracker is FREE takes the written fields, clears the event history, keeps the present increment as the frequency term, enters ACQUIRE and starts the loss time. With a source selected and the tracker not FREE it takes the written fields and changes nothing else. CYC_INCR_WRITE with SRC 0 and a value in range: the tracker's increment is that value, and both words show it; nothing else changes. With a source selected the write is ignored, WLATE set and the rejection counted. MAINS_ZC_EDGE of the configured sense with SRC 1, outside the mask time and inside the interval checks: the event joins those in processing, with the time of its first transition, the accumulator referred back by the filter time, and the settings in force; nothing else changes. Outside the interval checks it is rejected: EVREJ is set and the rejection counted. With another source, of the other sense or within the mask time it changes nothing. SV_OBSERVATION with SRC 2, the present STEPCNT, a time of day not in the future and at most 25 ms old, with no event accepted before, and inside the interval checks: the event joins those in processing with its time and accumulator as R110 reconstructs them; nothing else changes. PHASE_EVENT_PROCESS of the oldest event in processing, its candidate increment in range: the increment is the candidate of R112, the frequency term the new estimate, the event heads the history of 16, the accumulator moves back by the error where the event steps and stays otherwise, and the state follows R114. With the candidate out of range the event leaves processing and is rejected: EVREJ and the count alone change. MAINS_LOS_EXPIRY in ACQUIRE, LOS times 10 ms after the last event and with none in processing: the history is cleared, the next event steps, LOS is set, the cause of fault source 29 rises and the loss time starts again. In LOCKED: the increment is the frequency term, the state HOLDOVER, the history is cleared, LOS set, the cause of source 29 rises and the holdover time starts. HOLDOVER_EXPIRY, HOLDMAX times 100 ms after HOLDOVER began and with no event in processing: MVALID is 0 and the gates follow, HOLDEXP is set and the cause of fault source 30 rises. MAINS_BOUNDARY with a cycle not announced yet and no plan switch armed: the boundary registers hold the time of day and the cycle number, the cycle is announced, the boundary line pulses and interrupt source 8 is raised; nothing else changes. ANGLE_CONVERSION keeps the written angle and clears DONE; nothing else changes. CONVERSION_DONE of a waiting angle: the result words hold the time of the angle by the present increments, as R117 computes it, and DONE is set; nothing else changes. (That the increments of the completion count is the model's choice, log entry 64.) Each of these commands is shown to answer a next state with its own effect: cycSrcWrite, cycIncrWrite, mainsZcEdge, svObservation, phaseEventProcess, mainsLosExpiry, holdoverExpiry, mainsBoundary, angleConversion, conversionDone. -/
def Obligations.MainsTracker : Prop :=
  (∀ (w : Word) (s : State),
    (s.writeReg 0xB0000 w.toNat).rd CYC_CTRL_SRC ≠ 0 → (s.writeReg 0xB0000 w.toNat).rd CYC_STAT_STATE = 0 → 
    exec (.cycSrcWrite w) s = .next ((({ s.writeReg 0xB0000 w.toNat with cyc := { (s.writeReg 0xB0000 w.toNat).cyc with hist := [], first := true, count := 0, fLast := (s.writeReg 0xB0000 w.toNat).cyc.incr } }).setCycState 1).arm .mains 0)) ∧
  (∀ (w : Word) (s : State),
    (s.writeReg 0xB0000 w.toNat).rd CYC_CTRL_SRC ≠ 0 → (s.writeReg 0xB0000 w.toNat).rd CYC_STAT_STATE ≠ 0 → 
    exec (.cycSrcWrite w) s = .next (s.writeReg 0xB0000 w.toNat)) ∧
  (∀ (w : Word) (s : State),
    s.rd CYC_CTRL_SRC = 0 → cycIncrOk ((s.rd CYC_INCR_HI_INT * 2 ^ 32 + w.toNat % 2 ^ 32 : Nat) : Int) = true → 
    exec (.cycIncrWrite w) s = .next { ((s.wr CYC_INCR_LO_FRAC (s.rd CYC_INCR_HI_INT * 2 ^ 32 + w.toNat % 2 ^ 32)).wr CYC_INCR_HI_INT ((s.rd CYC_INCR_HI_INT * 2 ^ 32 + w.toNat % 2 ^ 32) / 2 ^ 32)) with cyc := { s.cyc with incr := s.rd CYC_INCR_HI_INT * 2 ^ 32 + w.toNat % 2 ^ 32 } }) ∧
  (∀ (w : Word) (s : State),
    s.rd CYC_CTRL_SRC ≠ 0 → 
    exec (.cycIncrWrite w) s = .next ((s.wr CYC_STAT_WLATE 1).sat CYC_CNT_REJ_COUNT)) ∧
  (∀ (fall : Bool) (ago : Nat) (s : State),
    s.rd CYC_CTRL_SRC = 1 → fall = s.on CYC_ZC_CFG_EDGE → s.zcMasked (s.tmu.elapsed - ago) = false → s.intervalOk (s.tmu.elapsed - ago) = true → 
    exec (.mainsZcEdge fall ago) s = .next { s with cyc := { s.cyc with busy := s.cyc.busy ++ [{ a := (s.cyc.acc + 2 ^ 64 - s.cyc.incr * (s.rd CYC_ZC_CFG_FILT * 500) % 2 ^ 64) % 2 ^ 64, t := s.tmu.elapsed - ago, zc := true, avgn := s.rd CYC_LOOP_AVGN, kp := s.rd CYC_LOOP_KP, stepThr := s.rd CYC_THR_STEPTHR, lockThr := s.rd CYC_THR_LOCKTHR, lockN := s.rd CYC_LOOP_LOCKN }] } }) ∧
  (∀ (fall : Bool) (ago : Nat) (s : State),
    s.rd CYC_CTRL_SRC = 1 → fall = s.on CYC_ZC_CFG_EDGE → s.zcMasked (s.tmu.elapsed - ago) = false → s.intervalOk (s.tmu.elapsed - ago) = false → 
    exec (.mainsZcEdge fall ago) s = .next ((s.wr CYC_STAT_EVREJ 1).sat CYC_CNT_REJ_COUNT)) ∧
  (∀ (fall : Bool) (ago : Nat) (s : State),
    s.rd CYC_CTRL_SRC ≠ 1 ∨ fall ≠ s.on CYC_ZC_CFG_EDGE ∨ s.zcMasked (s.tmu.elapsed - ago) = true → 
    exec (.mainsZcEdge fall ago) s = .next s) ∧
  (∀ (w : Word) (s : State),
    s.rd CYC_CTRL_SRC = 2 → bitsOf w.toNat 31 16 = s.rd TMU_STAT_STEPCNT → ¬ s.rd CYC_SV_NS_NS > 999999999 → ¬ s.svAge (bitsOf w.toNat 15 0) < 0 → ¬ s.svAge (bitsOf w.toNat 15 0) > 25000000 * 2 ^ 16 → s.cyc.lastEvent = none → s.intervalOk (s.tmu.elapsed - (s.svAge (bitsOf w.toNat 15 0)).toNat * 2 ^ 16) = true → 
    exec (.svObservation w) s = .next { s with cyc := { s.cyc with busy := s.cyc.busy ++ [{ a := (s.cyc.acc + 2 ^ 64 - s.cyc.incr * ((s.svAge (bitsOf w.toNat 15 0)).toNat * 2 ^ 16 / s.tickIncr) % 2 ^ 64) % 2 ^ 64, t := s.tmu.elapsed - (s.svAge (bitsOf w.toNat 15 0)).toNat * 2 ^ 16, zc := false, avgn := s.rd CYC_LOOP_AVGN, kp := s.rd CYC_LOOP_KP, stepThr := s.rd CYC_THR_STEPTHR, lockThr := s.rd CYC_THR_LOCKTHR, lockN := s.rd CYC_LOOP_LOCKN }] } }) ∧
  (∀ (s : State) (e : PhaseEvent) (l : List PhaseEvent),
    s.cyc.busy = e :: l → s.boundaryDue = false → cycIncrOk (s.eventCand e) = true → 
    ∃ t, exec .phaseEventProcess s = .next t ∧ t = s.acceptEvent e (s.eventCand e).toNat ∧ t.cyc.incr = (s.eventCand e).toNat ∧ t.cyc.fLast = s.eventFreq e ∧ t.cyc.hist = (e.t :: s.cyc.hist).take 16 ∧ t.cyc.lastEvent = some e.t ∧ t.cyc.first = false ∧ t.cyc.busy = l ∧ t.cyc.acc = (if s.eventSteps e then codeOf 64 ((s.cyc.acc : Int) - s.eventError e) else s.cyc.acc)) ∧
  (∀ (s : State) (e : PhaseEvent) (l : List PhaseEvent),
    s.cyc.busy = e :: l → s.boundaryDue = false → cycIncrOk (s.eventCand e) = false → 
    exec .phaseEventProcess s = .next ((({ s with cyc := { s.cyc with busy := l } }).wr CYC_STAT_EVREJ 1).sat CYC_CNT_REJ_COUNT)) ∧
  (∀ (s : State),
    s.rd CYC_STAT_STATE = 1 → s.cyc.busy = [] → s.ran .mains (s.rd CYC_HOLD_LOS * 10000000) = true → 
    exec .mainsLosExpiry s = .next (((({ s with cyc := { s.cyc with hist := [], first := true, count := 0 } }).wr CYC_STAT_LOS 1).causeOn 29 0).arm .mains 0)) ∧
  (∀ (s : State),
    s.rd CYC_STAT_STATE = 2 → s.cyc.busy = [] → s.ran .mains (s.rd CYC_HOLD_LOS * 10000000) = true → 
    exec .mainsLosExpiry s = .next (((((({ s with cyc := { s.cyc with hist := [], count := 0 } }).setCycIncr s.cyc.fLast).setCycState 3).wr CYC_STAT_LOS 1).causeOn 29 0).arm .holdover 0)) ∧
  (∀ (s : State),
    s.rd CYC_STAT_STATE = 3 → s.cyc.busy = [] → s.ran .holdover (s.rd CYC_HOLD_HOLDMAX * 100000000) = true → 
    exec .holdoverExpiry s = .next ((((s.setMvalid false).wr CYC_STAT_HOLDEXP 1).causeOn 30 0).disarm .holdover)) ∧
  (∀ (s : State),
    s.boundaryDue = true → s.on SHP_PLAN_STAT_ARMED = false → 
    ∃ t, exec .mainsBoundary s = .next (t.irq 8 (s.cyc.acc / 2 ^ 48) 0) ∧ t = { (((s.wr CYC_BND_SECLO_SEC_LO s.tmu.tod.sec).wr CYC_BND_NS_NS s.tmu.tod.ns).wr CYC_BND_FRAC_FRAC s.tmu.tod.frac16).wr CYC_BND_FRAC_CYCLE (s.cyc.acc / 2 ^ 48) with cyc := { s.cyc with announced := s.cyc.acc / 2 ^ 48 }, pins := { s.pins with boundary := wrapAdd 16 s.pins.boundary 1, boundaryAt := some s.tmu.elapsed } }) ∧
  (∀ (w : Word) (s : State),
    exec (.angleConversion w) s = .next { (s.wr CYC_CONV_ANG w.toNat).wr CYC_CONV_DONE 0 with cyc := { s.cyc with conv := some (w.toNat % 2 ^ 16) } }) ∧
  (∀ (s : State) (θ : Nat),
    s.cyc.conv = some θ → 
    exec .conversionDone s = .next { (((s.wr CYC_CONV_NS_NS ((θ * 2 ^ 32 * s.tickIncr / (s.cyc.incr * 2 ^ 16)) / 2 ^ 16)).wr CYC_CONV_FRAC_FRAC (θ * 2 ^ 32 * s.tickIncr / (s.cyc.incr * 2 ^ 16))).wr CYC_CONV_DONE 1) with cyc := { s.cyc with conv := none } })

/-- (laneChanged: the edge port or the bond of the lane follows its lanes, R128, R133.) CDR_LOCK of a lane in CDR with a signal: the lane is in HDR with CDRLK 1 and its alignment counts at 0, and its port or bond is evaluated. CDR_ACQ_TIMEOUT of a lane in CDR: the failed acquisition is counted, the lane stays in CDR; nothing else changes. HEADER_LOCK of a lane in HDR: an edge lane is LOCKED, any other in ALIGN, and its port or bond is evaluated. HEADER_HUNT_TIMEOUT of a lane in HDR: the failure is counted and the lane back in CDR with CDRLK 0. ALIGNMENT_BLOCK_RECEIVE of a good block, the first to third in a row, on a lane of a trunk in ALIGN: the blocks since the last one pass the descrambler, the parity mismatches count in BIP, LANE holds the block's lane number, and the good blocks are one more; nothing else changes. In every such case the block is taken as a good one, and the fourth in a row locks the lane. ALIGN_TIMEOUT of a lane in ALIGN: the failure is counted, the lane back in HDR and ALIGNFAIL set. LOS_DETECT with the signal below LOSTHR times 2 mV on a lane that is not LOCKED sets LOS and LOSEV; nothing else changes. A LOCKED lane it takes to CDR. LOS_CLEAR with the signal at or above the threshold clears LOS; nothing else changes. CDR_LOSS of a LOCKED lane: CDRLK is 0 and the lane goes to CDR. On any other lane it clears CDRLK alone. HEADER_LOSS, a window of 1,024 headers of a LOCKED lane that is no edge lane, with 32 or more invalid ones: they are counted and the lane goes to HDR. With fewer they are counted and nothing else changes. On an edge lane the invalid ones are counted, and the lane goes to HDR where Clause 49 or 36 lock is lost. LANE_CTRL_WRITE with the lanes unlocked: EN, AUTOPOL, RXPOL and TXPOL take the written bits, RXINV clears and the lane goes to CDR, RATE and MODE are written or refused, EN 0 clears RXINV, the lane is powered up or down, and its port or bond is evaluated. A rate write to a lane that is no edge lane is refused with RATEREJ; on an edge lane a new rate code 3 to 5 is taken, RXINV clears, and the lane starts anew in CDR where it is not OFF. ALIGNMENT_BLOCK_SEND on an enabled trunk puts out, on each lane that sends, `idle` IDLE blocks through the scrambler and then the lane's alignment block with the parity since the last one, unscrambled; nothing else changes. BOND_SKEW_MEASURE of a bond in DESKEW, its lanes LOCKED with lane numbers apart and a skew of at most 4,224 UI: the skew of each lane is shown in blocks and UI, the bond is UP with its width, the latency entries of its rate and width are loaded, and the trunk goes on from BOND. BOND_TIMEOUT of a bond in DESKEW with a lane not LOCKED: the bond has failed with code 3 and width 0, the failure is counted, and the width trial of the trunk ends (R158). BOND_FAIL_EXPIRY of a failed bond: the bond is DOWN; where its trunk is disabled nothing else changes. A bond of an enabled trunk with a LOCKED lane is in DESKEW again at once. EYE_SCAN_GO on a lane that is not scanning and is LOCKED, with a count exponent of 20 to 40: the scan settings are the written ones, the counts 0, BUSY 1 and ERR 0; nothing else changes. EYE_SCAN_ABORT of a scan that runs: it ends with DONE and ERR 3, the counts being those reached so far (free values, the errors at most the bits); nothing else changes. EYE_SCAN_DONE of a scan that runs: the counts are 2 to the exponent bits and the errors, BUSY 0, DONE 1, ERR 0; nothing else changes. PRBS_CHECK_START on a lane whose checker is off, pattern and generator unchanged and no INJ: the written fields are taken, ERR, BITS and RELOCK clear, and the checker begins to seed itself with CHKLK 0. PRBS_CHECKER_LOCK and PRBS_CHECKER_LOSS, received bits of a lane whose checker runs: the checker takes them one by one (R138), and its lock, the bits compared, the mismatches and the losses of lock are shown; nothing else changes. What is shown: CHKLK is the checker's lock, ERR and RELOCK are greater by its mismatches and losses, and saturate. PRBS_INJECT on a lane whose generator runs puts out the next bit of the pattern inverted, moves the generator on and counts the injection; nothing else changes. Each of these commands is shown to answer a next state with its own effect: cdrLock, cdrAcqTimeout, headerLock, headerHuntTimeout, alignmentBlockReceive, alignTimeout, losDetect, losClear, cdrLoss, headerLoss, laneCtrlWrite, alignmentBlockSend, bondSkewMeasure, bondTimeout, bondFailExpiry, eyeScanGo, eyeScanAbort, eyeScanDone, prbsCheckStart, prbsCheckerLock, prbsCheckerLoss, prbsInject. -/
def Obligations.LanesAndBonds : Prop :=
  (∀ (n : Fin 28) (s : State),
    s.rd LNE_STAT_STATE n = laneCdr → s.on LNE_STAT_LOS n = false → 
    exec (.cdrLock n) s = .next ((((s.wr LNE_STAT_STATE laneHdr n).wr LNE_STAT_CDRLK 1 n).alignCount n 0 0).laneChanged n)) ∧
  (∀ (n : Fin 28) (s : State),
    s.rd LNE_STAT_STATE n = laneCdr → (s.sat LNE_CNT_ACQ_ACQFAIL n).rd LNE_STAT_STATE n = laneCdr → 
    exec (.cdrAcqTimeout n) s = .next (s.sat LNE_CNT_ACQ_ACQFAIL n)) ∧
  (∀ (n : Fin 28) (s : State),
    s.rd LNE_STAT_STATE n = laneHdr → 
    exec (.headerLock n) s = .next ((((s.wr LNE_STAT_STATE (if State.edgeLane n then laneLocked else laneAlign) n).wr LNE_STAT_CDRLK 1 n).alignCount n 0 0).laneChanged n)) ∧
  (∀ (n : Fin 28) (s : State),
    s.rd LNE_STAT_STATE n = laneHdr → (s.sat LNE_CNT_ACQ_ACQFAIL n).rd LNE_STAT_STATE n = laneHdr → 
    exec (.headerHuntTimeout n) s = .next ((((s.sat LNE_CNT_ACQ_ACQFAIL n).wr LNE_STAT_STATE laneCdr n).wr LNE_STAT_CDRLK 0 n).alignCount n 0 0)) ∧
  (∀ (n : Fin 28) (t g : Nat) (hdr : Fin 4) (bytes : List Byte) (line seen : List LineBlock) (rx : LineBlock) (s : State),
    trunkOf n = some t → s.rd LNE_STAT_STATE n = laneAlign → s.rd LNE_CTRL_RATE n ≠ 2 → rx = seenBlock (s.rxInverted n) (hdr, bytes) → seen = line.map (seenBlock (s.rxInverted n)) → alignGood rx.1 rx.2 (lanesOf (s.trunk t).width) = true → g = Tab.get s.lne.good n 0 + 1 → g < 4 → 
    exec (.alignmentBlockReceive n hdr bytes line) s = .next (((((s.laneIn n seen).satBy LNE_CNT_BIP_COUNT (bipMismatch rx.2 (parityOf (seen.flatMap (·.2)))) n).wr LNE_STAT_LANE (ofBe ((rx.2.drop 4).take 1) % 4) n)).alignCount n g 0)) ∧
  (∀ (n : Fin 28) (t : Nat) (hdr : Fin 4) (bytes : List Byte) (line seen : List LineBlock) (rx : LineBlock) (s : State),
    trunkOf n = some t → s.rd LNE_STAT_STATE n = laneAlign → s.rd LNE_CTRL_RATE n ≠ 2 → rx = seenBlock (s.rxInverted n) (hdr, bytes) → seen = line.map (seenBlock (s.rxInverted n)) → alignGood rx.1 rx.2 (lanesOf (s.trunk t).width) = true → 
    exec (.alignmentBlockReceive n hdr bytes line) s = .next (((s.laneIn n seen).alignTaken n rx.2 (parityOf (seen.flatMap (·.2)))).alignedGood n)) ∧
  (∀ (n : Fin 28) (s : State),
    s.rd LNE_STAT_STATE n = laneAlign → (s.sat LNE_CNT_ACQ_ACQFAIL n).rd LNE_STAT_STATE n = laneAlign → 
    exec (.alignTimeout n) s = .next (((((s.sat LNE_CNT_ACQ_ACQFAIL n).wr LNE_STAT_STATE laneHdr n).wr LNE_STAT_CDRLK 1 n).alignCount n 0 0).wr LNE_STAT_ALIGNFAIL 1 n)) ∧
  (∀ (n : Fin 28) (mv : Nat) (s : State),
    mv < 2 * s.rd LNE_RXCFG_LOSTHR n → s.on LNE_STAT_LOS n = false → ((s.wr LNE_STAT_LOS 1 n).wr LNE_STAT_LOSEV 1 n).rd LNE_STAT_STATE n ≠ laneLocked → 
    exec (.losDetect n mv) s = .next ((s.wr LNE_STAT_LOS 1 n).wr LNE_STAT_LOSEV 1 n)) ∧
  (∀ (n : Fin 28) (mv : Nat) (s : State),
    mv < 2 * s.rd LNE_RXCFG_LOSTHR n → s.on LNE_STAT_LOS n = true → s.rd LNE_STAT_STATE n = laneLocked → 
    exec (.losDetect n mv) s = .next (s.laneMove n laneCdr)) ∧
  (∀ (n : Fin 28) (mv : Nat) (s : State),
    ¬ mv < 2 * s.rd LNE_RXCFG_LOSTHR n → 
    exec (.losClear n mv) s = .next (s.wr LNE_STAT_LOS 0 n)) ∧
  (∀ (n : Fin 28) (s : State),
    (s.wr LNE_STAT_CDRLK 0 n).rd LNE_STAT_STATE n = laneLocked → 
    exec (.cdrLoss n) s = .next ((s.wr LNE_STAT_CDRLK 0 n).laneMove n laneCdr)) ∧
  (∀ (n : Fin 28) (s : State),
    (s.wr LNE_STAT_CDRLK 0 n).rd LNE_STAT_STATE n ≠ laneLocked → 
    exec (.cdrLoss n) s = .next (s.wr LNE_STAT_CDRLK 0 n)) ∧
  (∀ (n : Fin 28) (k : Fin 1025) (lost : Bool) (s : State),
    s.rd LNE_STAT_STATE n = laneLocked → s.rd LNE_CTRL_RATE n ≠ 2 → State.edgeLane n = false → k.val ≥ 32 → 
    exec (.headerLoss n k lost) s = .next ((s.satBy LNE_CNT_HDR_COUNT k n).laneMove n laneHdr)) ∧
  (∀ (n : Fin 28) (k : Fin 1025) (lost : Bool) (s : State),
    s.rd LNE_STAT_STATE n = laneLocked → s.rd LNE_CTRL_RATE n ≠ 2 → State.edgeLane n = false → ¬ k.val ≥ 32 → 
    exec (.headerLoss n k lost) s = .next (s.satBy LNE_CNT_HDR_COUNT k n)) ∧
  (∀ (n : Fin 28) (k : Fin 1025) (s : State),
    s.rd LNE_STAT_STATE n = laneLocked → State.edgeLane n = true → 
    exec (.headerLoss n k true) s = .next ((s.satBy LNE_CNT_HDR_COUNT k n).laneMove n laneHdr) ∧ exec (.headerLoss n k false) s = .next (s.satBy LNE_CNT_HDR_COUNT k n)) ∧
  (∀ (n : Fin 28) (w : Word) (s : State),
    s.on LNE_GLB_LOCK_LOCK = false → 
    exec (.laneCtrlWrite n w) s = .next (let s1 := (s.writeFields false [LNE_CTRL_EN, LNE_CTRL_AUTOPOL, LNE_CTRL_RXPOL, LNE_CTRL_TXPOL] n 0 w.toNat).laneRelock n; let s2 := (s1.rateWrite n (bitsOf w.toNat 27 24)).modeWrite n (bitsOf w.toNat 1 0); ((s2.when (!s2.on LNE_CTRL_EN n) (·.wr LNE_STAT_RXINV 0 n)).lanePower n).laneChanged n)) ∧
  (∀ (n : Fin 28) (s : State) (r : Nat),
    (State.edgeLane n = false → s.rateWrite n r = s.wr LNE_STAT_RATEREJ 1 n) ∧ (State.edgeLane n = true → s.rd LNE_CTRL_RATE n ≠ r → 3 ≤ r → r ≤ 5 → s.rateWrite n r = (s.wr LNE_CTRL_RATE r n).laneRelock n) ∧ (s.rd LNE_STAT_STATE n = laneOff → Tab.sorted s.regs = true → s.laneRelock n = s.wr LNE_STAT_RXINV 0 n)) ∧
  (∀ (t : Fin 4) (idle : Fin 16384) (s : State),
    ¬ (t = 0 ∧ s.kl2Active = true) → s.rd TRK_STAT_STATE t ≠ 0 → (s.trunk t).pos = 0 → 
    exec (.alignmentBlockSend t idle) s = .next ((s.clearLines t).each (List.range (min ((s.clearLines t).sendLanes t) ((s.clearLines t).txLanes t).length)) (fun s k => (s.each (List.range idle) (fun s _ => s.laneOut (((s.clearLines t).txLanes t).getD k 0) true idleBlock)).alignOut (((s.clearLines t).txLanes t).getD k 0) k))) ∧
  (∀ (t : Fin 4) (d0 d1 d2 d3 : Nat) (s : State),
    s.rd LNE_BOND_STATE t = bondDeskew → s.bondLocked t = true → s.rd TRK_STAT_STATE t ≠ 0 → s.kl2Active = false → ¬ ((s.bondLanes t).map (fun n => s.rd LNE_STAT_LANE n)).eraseDups.length < ((s.bondLanes t).map (fun n => s.rd LNE_STAT_LANE n)).length → ¬ ([d0, d1, d2, d3].take (s.bondLanes t).length).foldl max 0 - ([d0, d1, d2, d3].take (s.bondLanes t).length).foldl min ([d0, d1, d2, d3].getD 0 0) > 4224 → 
    exec (.bondSkewMeasure t d0 d1 d2 d3) s = .next (((((s.skewShow t 66 [d0, d1, d2, d3]).wr LNE_BOND_STATE bondUp t).wr LNE_BOND_WIDTH ((s.skewShow t 66 [d0, d1, d2, d3]).trunk t).width t).latencyTrained t).bondAdvance t)) ∧
  (∀ (t : Fin 4) (s : State),
    s.rd LNE_BOND_STATE t = bondDeskew → s.bondLocked t = false → 
    exec (.bondTimeout t) s = .next (((((s.wr LNE_BOND_STATE bondFail t).wr LNE_BOND_FAIL 3 t).wr LNE_BOND_WIDTH 0 t).sat LNE_BOND_FAILS t).bondTrialFails t)) ∧
  (∀ (t : Fin 4) (s : State),
    s.rd LNE_BOND_STATE t = bondFail → s.rd TRK_STAT_STATE t = 0 → 
    exec (.bondFailExpiry t) s = .next (s.wr LNE_BOND_STATE bondDown t)) ∧
  (∀ (t : Fin 4) (s : State),
    s.rd LNE_BOND_STATE t = bondFail → 
    exec (.bondFailExpiry t) s = .next ((s.wr LNE_BOND_STATE bondDown t).bondWake t)) ∧
  (∀ (n : Fin 28) (w : Word) (s : State),
    s.on LNE_ES_STAT_BUSY n = false → (setBits w.toNat 31 31 1).testBit 31 = true → (setBits w.toNat 31 31 1).testBit 30 = false → ¬ bitsOf (setBits w.toNat 31 31 1) 29 24 < 20 → ¬ bitsOf (setBits w.toNat 31 31 1) 29 24 > 40 → ((s.writeFields false [LNE_ES_CTRL_CNTEXP, LNE_ES_CTRL_PHASE, LNE_ES_CTRL_VOFS] n 0 (setBits w.toNat 31 31 1)).scanCounts n 0 0).rd LNE_STAT_STATE n = laneLocked → 
    exec (.eyeScanGo n w) s = .next ((((s.writeFields false [LNE_ES_CTRL_CNTEXP, LNE_ES_CTRL_PHASE, LNE_ES_CTRL_VOFS] n 0 (setBits w.toNat 31 31 1)).scanCounts n 0 0).wr LNE_ES_STAT_BUSY 1 n).wr LNE_ES_STAT_ERR 0 n)) ∧
  (∀ (n : Fin 28) (s : State),
    s.on LNE_ES_STAT_BUSY n = true → 
    ∃ t b e, exec (.eyeScanAbort n) s = .next t ∧ t = { ((((((s.wr LNE_ES_BITS_LO_COUNT_LO b n).wr LNE_ES_BITS_HI_COUNT_HI (b / 2 ^ 32) n).wr LNE_ES_ERR_LO_COUNT_LO e n).wr LNE_ES_ERR_HI_COUNT_HI (e / 2 ^ 32) n).wr LNE_ES_STAT_BUSY 0 n).wr LNE_ES_STAT_DONE 1 n).wr LNE_ES_STAT_ERR 3 n with freeCount := t.freeCount } ∧ e ≤ b) ∧
  (∀ (n : Fin 28) (errs : Nat) (s : State),
    s.on LNE_ES_STAT_BUSY n = true → 
    exec (.eyeScanDone n errs) s = .next ((((s.scanCounts n (2 ^ s.rd LNE_ES_CTRL_CNTEXP n) (min errs (2 ^ s.rd LNE_ES_CTRL_CNTEXP n))).wr LNE_ES_STAT_BUSY 0 n).wr LNE_ES_STAT_DONE 1 n).wr LNE_ES_STAT_ERR 0 n)) ∧
  (∀ (n : Fin 28) (w : Word) (s : State),
    s.on LNE_PRBS_CHK n = false → s.on LNE_PRBS_GEN n = w.toNat.testBit 31 → s.rd LNE_PRBS_PAT n = bitsOf w.toNat 29 28 → bitsOf w.toNat 29 28 ≤ 2 → w.toNat.testBit 24 = false → Tab.sorted s.regs = true → 
    exec (.prbsCheckStart n w) s = .next (((s.writeReg (0xC0010 + 0x400 * n) (setBits w.toNat 30 30 1)).prbsClear n).checkerOff n)) ∧
  (∀ (n : Fin 28) (bits : List Bool) (s : State) (c : Checker),
    s.prbsRuns n = true → c = (Tab.get s.lne.chk n {}).takeAll (s.rd LNE_PRBS_PAT n) (bits.map (· ^^ (s.rxInverted n ^^ s.on LNE_PRBS_INV n))) → 
    exec (.prbsCheckerLock n bits) s = .next (s.checkerShow n c) ∧ exec (.prbsCheckerLoss n bits) s = .next (s.checkerShow n c)) ∧
  (∀ (n : Fin 28) (s : State) (c : Checker),
    Tab.sorted s.regs = true → 
    (s.checkerShow n c).rd LNE_PRBS_CHKLK n = bit c.lock ∧ (s.checkerShow n c).rd LNE_PRBS_ERR_COUNT n = satAdd LNE_PRBS_ERR_COUNT.width (s.rd LNE_PRBS_ERR_COUNT n) c.errs ∧ (s.checkerShow n c).rd LNE_PRBS_RELOCK n = satAdd LNE_PRBS_RELOCK.width (s.rd LNE_PRBS_RELOCK n) c.losses) ∧
  (∀ (n : Fin 28) (s : State),
    s.on LNE_PRBS_GEN n = true → s.rd LNE_CTRL_MODE n = 1 → 
    ∃ t, exec (.prbsInject n) s = .next t ∧ t = { s with lne := { s.lne with line := Tab.put s.lne.line n (Tab.get s.lne.line n [] ++ [(prbsBit (s.rd LNE_PRBS_PAT n) (Tab.get s.lne.gen n 0) == false ^^ s.on LNE_PRBS_INV n) ^^ s.on LNE_CTRL_TXPOL n]) [], gen := Tab.put s.lne.gen n (prbsPush (s.rd LNE_PRBS_PAT n) (Tab.get s.lne.gen n 0) (prbsBit (s.rd LNE_PRBS_PAT n) (Tab.get s.lne.gen n 0))) 0, injected := Tab.put s.lne.injected n (wrapAdd 32 (Tab.get s.lne.injected n 0) 1) 0 } })

/-- TRK_ENABLE of a DISABLED trunk: EN is 1, the trunk enters BOND at width MAXW (R157), and goes on at once where its bond is already UP and the hub in service. Entering BOND, a trunk samples RATE, MAXW and RING, tries the width given but at most MAXW, and forgets its partner. TRK_DISABLE: EN is 0; a trunk in UP or SEAL drops its link, the state is DISABLED with width 0, the session ends, the stall-guard cause clears, guard band and ring status follow, and the bond starts anew. BOND_TRIAL_TIMEOUT of a trunk in BOND whose bond is not UP, lane 0 LOCKED and the width above x1: the next narrower width is tried, with a new trial time. At width x1 it enters HOLD with the reason BONDFAIL, whether lane 0 is LOCKED or not. CAPABILITY_SEND in TRAIN, no record sent before: the trunk's own record goes out on the link and is kept as the last; nothing else changes. CAPABILITY_RECEIVE in SEAL of a valid record that differs from the partner's last one and acknowledges: it becomes the partner's record and is the first that acknowledges; nothing else changes. TRAIN_TIMEOUT, TRAINTO over: HOLD with the reason TIMEOUT; guard band and ring status follow. SEAL_TIMEOUT, SEALTO over: HOLD with the reason SEALTO. Before its time none of the three changes anything. HOLD_EXPIRY of a trunk in HOLD: it enters BOND at width MAXW again. HEARTBEAT_LOSS of a KL3 trunk that is UP: the loss counts in DOWN, the fault of the trunk is reported with the reason HEARTBEAT, and it enters BOND at width MAXW. RSM_SEND of a ring port that is UP, seamless, ready, not sending, and owes a message or has waited RSMINT: the ring status message goes out on the link, RSEQ moves on, nothing is owed and the interval starts anew. RSM_RECEIVE at a ring port of a message of the own ring size with reaches in range: the reach of the partner is kept, the loss time starts anew, and both reaches follow. A message of another size is rejected: RSMREJ counts, SIZEMIS is set and fault 76 reported. RSM_LOSS of a seamless ring port in UP, four times RSMINT after its last message: the port counts as lost, RSMLOSS is set, fault 77 is reported and both reaches follow. STEERING_SCAN with AUTO 1 judges the 168 route and hop entries in order. RESTORE_EXPIRY of an entry whose PRI port has served for RESTORE without a break is followed by a scan. The scan of one entry: it counts an unreachable destination, steers an entry on PRI to ALT where only ALT serves, and returns an entry on ALT to PRI only once PRI has served for RESTORE. Each of these commands is shown to answer a next state with its own effect: trkEnable, trkDisable, bondTrialTimeout, capabilitySend, capabilityReceive, trainTimeout, sealTimeout, holdExpiry, heartbeatLoss, rsmSend, rsmReceive, rsmLoss, steeringScan, restoreExpiry. -/
def Obligations.TrunksAndRing : Prop :=
  (∀ (t : Fin 4) (s : State),
    (s.wr TRK_CTRL_EN 1 t).rd TRK_STAT_STATE t = 0 → 
    exec (.trkEnable t) s = .next (((s.wr TRK_CTRL_EN 1 t).enterBond t ((s.wr TRK_CTRL_EN 1 t).rd TRK_CTRL_MAXW t)).bondAdvance t)) ∧
  (∀ (t : Fin 4) (s : State) (w : Nat),
    s.rd TRK_STAT_STATE t = 0 → s.kl2Active = false → s.onUsbC t = false → 
    (s.enterBond t w).trunk t = { s.trunk t with width := min w (s.rd TRK_CTRL_MAXW t), maxw := s.rd TRK_CTRL_MAXW t, rate := s.rd TRK_CTRL_RATE t, ring := s.on TRK_CTRL_RING t, partner := [], ack := false, ackCount := 0, tail := 0, agreed := false }) ∧
  (∀ (t : Fin 4) (s : State),
    exec (.trkDisable t) s = .next ((((((((s.wr TRK_CTRL_EN 0 t).leaveUp t).wr TRK_STAT_STATE 0 t).wr TRK_STAT_WIDTH 0 t).endSession t).causeOff (72 + t)).trunkWatch t).bondRestart t)) ∧
  (∀ (t : Fin 4) (s : State),
    s.rd TRK_STAT_STATE t = 1 → s.kl2Active = false → s.onUsbC t = false → s.lane0Locked t = true → s.rd LNE_BOND_STATE t ≠ bondUp → s.due (.bond t) = true → ¬ (s.trunk t).width ≤ 1 → 
    exec (.bondTrialTimeout t) s = .next (((s.setTrunk t { s.trunk t with width := (s.trunk t).width - 1 }).arm (.bond t) (s.rd TRK_TIMERS_BONDTO t * 1000000)).bondRestart t)) ∧
  (∀ (t : Fin 4) (s : State),
    s.rd TRK_STAT_STATE t = 1 → s.kl2Active = false → s.onUsbC t = false → s.rd LNE_BOND_STATE t ≠ bondUp → s.due (.bond t) = true → (s.trunk t).width ≤ 1 → 
    exec (.bondTrialTimeout t) s = .next ((((s.leaveUp t).wr TRK_STAT_STATE 5 t).wr TRK_STAT_REASON 7 t).trunkWatch t)) ∧
  (∀ (t : Fin 4) (s : State),
    s.rd TRK_STAT_STATE t = 2 → (s.trunk t).lastRec = [] → 
    exec (.capabilitySend t) s = .next ((s.setTrunk t { s.trunk t with out := s.ownRecord t (s.trunk t).recSeq, lastRec := s.ownRecord t 0, tail := (s.trunk t).tail - 1 }).linkSend t ((s.ownRecord t (s.trunk t).recSeq).map (fun b => (2, b))))) ∧
  (∀ (t : Fin 4) (bytes : List Byte) (s : State),
    s.rd TRK_STAT_STATE t = 3 → bytes.length = 24 → blockOk 0x55 (bytes.take 8) = true → blockOk 0x66 ((bytes.drop 8).take 8) = true → blockOk 0x99 (bytes.drop 16) = true → (s.trunk t).partner ≠ bytes → (ofBe ((bytes.drop 2).take 1)).testBit 0 = true → 
    exec (.capabilityReceive t bytes) s = .next (s.setTrunk t { s.trunk t with partner := bytes, ack := (s.trunk t).ack, ackCount := 1 })) ∧
  (∀ (t : Fin 4) (s : State),
    s.rd TRK_STAT_STATE t = 2 → s.due (.train t) = true → 
    exec (.trainTimeout t) s = .next ((((s.leaveUp t).wr TRK_STAT_STATE 5 t).wr TRK_STAT_REASON 5 t).trunkWatch t)) ∧
  (∀ (t : Fin 4) (s : State),
    s.rd TRK_STAT_STATE t = 3 → s.due (.seal t) = true → 
    exec (.sealTimeout t) s = .next ((((s.leaveUp t).wr TRK_STAT_STATE 5 t).wr TRK_STAT_REASON 6 t).trunkWatch t)) ∧
  (∀ (t : Fin 4) (s : State),
    s.due (.bond t) = false → s.due (.train t) = false → s.due (.seal t) = false → 
    exec (.bondTrialTimeout t) s = .next s ∧ exec (.trainTimeout t) s = .next s ∧ exec (.sealTimeout t) s = .next s) ∧
  (∀ (t : Fin 4) (s : State),
    s.rd TRK_STAT_STATE t = 5 → 
    exec (.holdExpiry t) s = .next ((s.enterBond t (s.rd TRK_CTRL_MAXW t)).bondAdvance t)) ∧
  (∀ (t : Fin 4) (s : State),
    s.trunkUp t = true → s.kl2Active = false → 
    exec (.heartbeatLoss t) s = .next (((((s.trkCount t 13).fault (60 + t) 8).wr TRK_STAT_REASON 8 t)).enterBond t (s.rd TRK_CTRL_MAXW t))) ∧
  (∀ (t : Fin 2) (s u : State) (w : List Byte),
    s.ringPort t = true → s.trunkUp t = true → s.seamless t = true → s.portReady t = true → s.sending t = none → s.rsmDue t = true → s.kl3Wire t { hdr := s.rsmPacket t } = (u, w) → 
    exec (.rsmSend t) s = .next (({ (u.arm (.rsmSent t) 0) with ring := { u.ring with rseq := Tab.put u.ring.rseq t (wrapAdd 8 (Tab.get u.ring.rseq t 0) 1) 0, owed := Tab.put u.ring.owed t false false, out := Tab.put u.ring.out t w [] } }).linkSend t (packetBlocks w))) ∧
  (∀ (t : Fin 4) (payload : List Byte) (s : State),
    s.ringPort t = true → ¬ payload.length < 8 → ofBe ((payload.drop 4).take 1) = s.ringSize → ¬ ofBe ((payload.drop 2).take 1) > s.ringSize - 1 → ¬ ofBe ((payload.drop 3).take 1) > s.ringSize - 1 → 
    exec (.rsmReceive t payload) s = .next ((s.setHeard t (some (if t.val = 0 then ofBe ((payload.drop 2).take 1) else ofBe ((payload.drop 3).take 1))) false).reachShow)) ∧
  (∀ (t : Fin 4) (payload : List Byte) (s : State),
    s.ringPort t = true → ¬ payload.length < 8 → ofBe ((payload.drop 4).take 1) ≠ s.ringSize → 
    exec (.rsmReceive t payload) s = .next ((((s.sat FAB_RING_STAT_RSMREJ).wr FAB_RING_STAT_SIZEMIS 1).fault 76 t))) ∧
  (∀ (t : Fin 2) (s : State),
    s.ringPort t = true → s.trunkUp t = true → s.seamless t = true → Tab.get s.ring.lost t false = false → s.ran (.rsmHeard t) (4 * s.rd FAB_RING_CFG_RSMINT * 10000) = true → 
    exec (.rsmLoss t) s = .next (((({ s with ring := { s.ring with lost := Tab.put s.ring.lost t true false } }).wr FAB_RING_STAT_RSMLOSS 1).fault 77 t).reachShow)) ∧
  (∀ (s : State),
    s.on FAB_RING_CFG_AUTO = true → 
    exec .steeringScan s = .next (s.each (List.range 168) State.scanEntry)) ∧
  (∀ (v : Fin 168) (s : State),
    s.restoreHeld v = true → s.on FAB_RING_CFG_AUTO = true → 
    exec (.restoreExpiry v) s = .next (s.each (List.range 168) State.scanEntry)) ∧
  (∀ (v : Nat) (s : State),
    (s.wantOf v = .skip → s.scanEntry v = s) ∧ (s.wantOf v = .unreach → s.scanEntry v = s.ddCount 7) ∧ (s.wantOf v = .alt → s.rd (routeOf v).1.steer (routeOf v).2 = 0 → s.scanEntry v = s.steer v 1) ∧ (s.wantOf v = .pri → s.rd (routeOf v).1.steer (routeOf v).2 = 1 → s.restoreHeld v = true → s.scanEntry v = s.steer v 0) ∧ (s.wantOf v = .pri → s.restoreHeld v = false → s.scanEntry v = s))

/-- CREDIT_RETURN on a live link with credits to return: each such class is granted what it can take, and the new grants go out on the link. CREDIT_REFRESH on a live link sends the grants of all eight classes. Granting adds what is returnable to the class's 20-bit cumulative grant, and sending puts the grants into CREDIT blocks (R153, R154). CREDIT_BLOCK_RECEIVE of a good block on a KL3 trunk in UP: both entries are taken. A damaged block is counted and has no other effect. CREDIT_STALL of a class whose first packet waits for credit since STALL ms and that is not marked yet: the class is marked, the stall counts in STALL and fault 68 + t is reported; nothing else changes. GRANT_WRITE while no link is live writes the grant; nothing else changes. A raised grant of a live link is given and sent at once. SEAL_LOAD with VALID 0 takes slot and partner where no session is loaded, and ends the session. With VALID 1, no session loaded and a slot with a session secret: slot and partner are taken, VALID is 1, both epochs start at 0 with the keys derived from the secret, and a trunk in SEAL goes UP sealed. EPOCH_ADVANCE of a sealed trunk in UP whose epoch is over, below epoch 0xFFFF and with its secret in place: the next epoch starts with its own keys and packet number 0. RX_EPOCH_DERIVE: the receive keys of the next epoch are in place; nothing else changes. Each of these commands is shown to answer a next state with its own effect: creditReturn, creditRefresh, creditBlockReceive, creditStall, grantWrite, sealLoad, epochAdvance, rxEpochDerive. -/
def Obligations.CreditsAndSealing : Prop :=
  (∀ (t : Fin 4) (s : State),
    s.creditLive t = true → ((List.range 8).filter (fun c => s.returnable t c != 0)).isEmpty = false → 
    exec (.creditReturn t) s = .next ((s.each ((List.range 8).filter (fun c => s.returnable t c != 0)) (fun s c => s.giveBack t c)).sendCredits t ((List.range 8).filter (fun c => s.returnable t c != 0)))) ∧
  (∀ (t : Fin 4) (s : State),
    s.creditLive t = true → 
    exec (.creditRefresh t) s = .next (s.sendCredits t (List.range 8))) ∧
  (∀ (t : Fin 4) (c : Nat) (cs : List Nat) (s : State),
    (s.giveBack t c = s.setTrunk t { s.trunk t with granted := Tab.put (s.trunk t).granted c (wrapAdd 20 (Tab.get (s.trunk t).granted c 0) (s.returnable t c)) 0 }) ∧ s.sendCredits t cs = (s.setTrunk t { s.trunk t with out := creditBlocks (cs.map (fun c => (c, Tab.get (s.trunk t).granted c 0))) }).linkSend t ((creditBlocks (cs.map (fun c => (c, Tab.get (s.trunk t).granted c 0)))).map (fun b => (2, b)))) ∧
  (∀ (t : Fin 4) (bytes : List Byte) (s : State),
    s.trunkUp t = true → s.kl2Active = false → ofBe (bytes.take 1) = 0x33 → blockOk 0x33 bytes = true → 
    exec (.creditBlockReceive t bytes) s = .next ((s.creditIn t (ofBe ((bytes.drop 1).take 3))).creditIn t (ofBe ((bytes.drop 4).take 3)))) ∧
  (∀ (t : Fin 4) (bytes : List Byte) (s : State),
    s.trunkUp t = true → s.kl2Active = false → ofBe (bytes.take 1) = 0x33 → blockOk 0x33 bytes = false → 
    exec (.creditBlockReceive t bytes) s = .next (s.trkCount t 10)) ∧
  (∀ (t : Fin 4) (c : Fin 8) (h : Copy) (s : State),
    s.head t c = some h → s.trunkUp t = true → s.kl2Active = false → s.creditAvail t c < h.cost → s.stallTime t c h = true → Tab.get (s.trunk t).stalled c false = false → 
    exec (.creditStall t c) s = .next (((s.setTrunk t { s.trunk t with stalled := Tab.put (s.trunk t).stalled c true false }).trkCount t 15).fault (68 + t) c)) ∧
  (∀ (t : Fin 4) (c : Fin 8) (w : Word) (s : State),
    (s.writeReg (0xD0020 + 0x1000 * t + 4 * c) w.toNat).creditLive t = false → 
    exec (.grantWrite t c w) s = .next (s.writeReg (0xD0020 + 0x1000 * t + 4 * c) w.toNat)) ∧
  (∀ (t : Fin 4) (c : Fin 8) (w : Word) (s : State),
    (s.writeReg (0xD0020 + 0x1000 * t + 4 * c) w.toNat).creditLive t = true → (s.writeReg (0xD0020 + 0x1000 * t + 4 * c) w.toNat).rd TRK_GRANT_GRANT t c > s.rd TRK_GRANT_GRANT t c → 
    exec (.grantWrite t c w) s = .next (((s.writeReg (0xD0020 + 0x1000 * t + 4 * c) w.toNat).giveBack t c).sendCredits t [c])) ∧
  (∀ (t : Fin 4) (w : Word) (s : State),
    w.toNat.testBit 31 = false → 
    exec (.sealLoad t w) s = .next ((if s.on TRK_SEAL_VALID t then s else (s.wr TRK_SEAL_SLOT (bitsOf w.toNat 29 24) t).wr TRK_SEAL_PARTNER (bitsOf w.toNat 17 0) t).endSession t)) ∧
  (∀ (t : Fin 4) (w : Word) (s : State),
    w.toNat.testBit 31 = true → s.on TRK_SEAL_VALID t = false → ((s.wr TRK_SEAL_SLOT (bitsOf w.toNat 29 24) t).wr TRK_SEAL_PARTNER (bitsOf w.toNat 17 0) t).secretOk t = true → 
    ∃ u v, u = ((((s.wr TRK_SEAL_SLOT (bitsOf w.toNat 29 24) t).wr TRK_SEAL_PARTNER (bitsOf w.toNat 17 0) t).wr TRK_SEAL_VALID 1 t).wr TRK_SEALSTAT_RXEPOCH 0 t).slotsShow ∧ v = (u.setTrunk t { u.trunk t with rxKey := u.sealKey t (1 - u.ownDirection t) 0, rxKeyNext := u.sealKey t (1 - u.ownDirection t) 1, rxPn := none, rxPnNext := none, derivingKeys := false, used := false }).startEpoch t 0 ∧ exec (.sealLoad t w) s = .next (if v.rd TRK_STAT_STATE t = 3 then v.enterUp t true else v)) ∧
  (∀ (t : Fin 4) (s : State),
    s.trunkUp t = true → s.on TRK_STAT_SEALED t = true → s.epochOver t = true → ¬ s.rd TRK_SEALSTAT_TXEPOCH t ≥ 0xFFFF → s.secretOk t = true → 
    exec (.epochAdvance t) s = .next ((s.wr TRK_SEALSTAT_TXEPOCH (s.rd TRK_SEALSTAT_TXEPOCH t + 1) t).setTrunk t { s.trunk t with txKey := s.sealKey t (s.ownDirection t) (s.rd TRK_SEALSTAT_TXEPOCH t + 1), txPn := 0, epochAt := s.tmu.elapsed })) ∧
  (∀ (t : Fin 4) (s : State),
    (s.trunk t).derivingKeys = true → s.secretOk t = true → 
    exec (.rxEpochDerive t) s = .next (s.setTrunk t { s.trunk t with derivingKeys := false, rxKeyNext := s.sealKey t (1 - s.ownDirection t) (s.rd TRK_SEALSTAT_RXEPOCH t + 1) }))

/-- TRUNK_PACKET_RECEIVE of an unsealed KL3 packet on a trunk in UP, alone in its cycle, whose blocks are in order, whose header passes R148, that has credit, is no ring status message and ends with a good CRC: it uses its credit, counts in RXPKT, is classified with its payload, and its copies are offered to stage 4 as a packet with a good tail. A packet whose header fails a check counts in the counter of the first check that fails, and does nothing else. KL2_PACKET_RECEIVE on TRK0 in UP under KL2, of a packet whose columns, CRCs, version, length, class below 6 and ingress space are good and whose protocol is not link management: it counts in RXPKT and is translated to KL3 (R169). KL2_ENABLE_WRITE with TRK0 disabled and no fuse barring KL2 takes the written fields, and ACTIVE shows EN, the strap and the fuse together; nothing else changes where ACTIVE stays as it was. Where ACTIVE changes, the latency entries of the link now selected are loaded as well (R91). With TRK0 enabled or a fuse that bars KL2, EN keeps its value, ENREJ is set, and the other fields are written. XOFF_RECEIVE of a column whose mask and complement agree: the masked classes pause; nothing else changes. XOFF_SEND sends the column of the present pause mask and keeps the mask; nothing else changes. XLAT_WRITE of entry 1 to 31 with STATION and HUB not 0 and, if valid, a prefix no other valid entry has: the entry is the written one. A prefix with STATION 0 or HUB 0 is left out of the write and XLATREJ set. Each of these commands is shown to answer a next state with its own effect: trunkPacketReceive, kl2PacketReceive, kl2EnableWrite, xoffReceive, xoffSend, xlatWrite. -/
def Obligations.ReceiveAndLegacyLink : Prop :=
  (∀ (t : Fin 4) (blocks : List (Nat × List Byte)) (bytes : List Byte) (h : HeaderIn) (ecc : Fin 4) (s u : State),
    s.rd TRK_STAT_STATE t = 4 → s.kl2Active = false → takePacket blocks = some (bytes, .term, []) → ¬ bytes.length < 20 → h = parseHeader bytes → s.headerFail t h = none → h.isSealed = false → s.isRsm { h.pkt with payload := (bytes.drop 20).take 1 } = false → s.overrun t h = false → (bytes.drop 20).length = h.len + 4 → State.crcTail ((bytes.drop 20).take h.len) ((bytes.drop 20).drop h.len) = .good → u = (s.useCredit t h).wrap TRK_RXPKT_COUNT t → 
    exec (.trunkPacketReceive t blocks ecc [] false [] []) s = .next ((u.classifyTrunk (u.captured t { h.pkt with payload := (bytes.drop 20).take h.len })).1.admitCycle ecc [.trunk t (u.classifyTrunk (u.captured t { h.pkt with payload := (bytes.drop 20).take h.len })).2 true])) ∧
  (∀ (t : Fin 4) (blocks : List (Nat × List Byte)) (bytes : List Byte) (i : Nat) (ecc : Fin 4) (s : State),
    s.rd TRK_STAT_STATE t = 4 → s.kl2Active = false → takePacket blocks = some (bytes, .term, []) → ¬ bytes.length < 20 → s.headerFail t (parseHeader bytes) = some i → 
    exec (.trunkPacketReceive t blocks ecc [] false [] []) s = .next (s.trkCount t i)) ∧
  (∀ (cols : List (List (Bool × Byte))) (bytes : List Byte) (s : State),
    kl2Unstripe cols = some bytes → s.kl2Active = true → s.trunkUp 0 = true → ¬ bytes.length < 20 → crc16 (bytes.take 18) = ofBe ((bytes.drop 18).take 2) → bitsOf (ofBe ((bytes.drop 0).take 1)) 7 6 = 2 → ofBe ((bytes.drop 5).take 2) ≤ 2048 → bytes.length = 24 + ofBe ((bytes.drop 5).take 2) → bitsOf (ofBe ((bytes.drop 0).take 1)) 5 3 < 6 → ¬ s.held 0 (bitsOf (ofBe ((bytes.drop 0).take 1)) 5 3) + costOf (ofBe ((bytes.drop 5).take 2)) > s.rd TRK_GRANT_GRANT 0 (bitsOf (ofBe ((bytes.drop 0).take 1)) 5 3) → State.crcTail ((bytes.drop 20).take (ofBe ((bytes.drop 5).take 2))) (bytes.drop (20 + ofBe ((bytes.drop 5).take 2))) = .good → ofBe ((bytes.drop 1).take 1) / 8 ≠ 0 → 
    exec (.kl2PacketReceive cols) s = .next ((s.wrap TRK_RXPKT_COUNT 0).kl2Translate bytes)) ∧
  (∀ (w : Word) (s : State),
    s.on TRK_CTRL_EN 0 = false → s.on TRK_KL2_STAT_FUSEBAR = false → (s.writeReg 0xD8004 w.toNat).kl2Show.kl2Active = s.kl2Active → 
    ∃ u, u = s.writeReg 0xD8004 w.toNat ∧ exec (.kl2EnableWrite w) s = .next ((u.wr TRK_KL2_STAT_ACTIVE (bit (u.on TRK_KL2_EN && u.on TRK_KL2_STAT_STRAP && !u.on TRK_KL2_STAT_FUSEBAR))).wr TRK_STAT_KL2 (bit (u.on TRK_KL2_EN && u.on TRK_KL2_STAT_STRAP && !u.on TRK_KL2_STAT_FUSEBAR)))) ∧
  (∀ (w : Word) (s : State),
    s.on TRK_CTRL_EN 0 = false → s.on TRK_KL2_STAT_FUSEBAR = false → (s.writeReg 0xD8004 w.toNat).kl2Show.kl2Active ≠ s.kl2Active → 
    exec (.kl2EnableWrite w) s = .next ((s.writeReg 0xD8004 w.toNat).kl2Show.latencyConfig 0)) ∧
  (∀ (w : Word) (s : State),
    s.on TRK_CTRL_EN 0 = true ∨ s.on TRK_KL2_STAT_FUSEBAR = true → 
    exec (.kl2EnableWrite w) s = .next ((s.writeReg 0xD8004 (setBits w.toNat 31 31 (s.rd TRK_KL2_EN))).wr TRK_KL2_STAT_ENREJ 1)) ∧
  (∀ (mask comp : Byte) (s : State),
    s.kl2Active = true → s.trunkUp 0 = true → mask.toNat + comp.toNat = 255 → 
    exec (.xoffReceive mask comp) s = .next { s with kl2 := { s.kl2 with paused := mask.toNat } }) ∧
  (∀ (s : State),
    s.kl2Active = true → s.trunkUp 0 = true → 
    exec .xoffSend s = .next { s with kl2 := { s.kl2 with mask := s.pauseMask, out := [xoffColumn s.pauseMask] } }) ∧
  (∀ (h : Fin 32) (w : Word) (s : State),
    h.val ≠ 0 → addrValid (bitsOf w.toNat 24 7 * 128) = true → (w.toNat.testBit 31 && ((List.range 32).drop 1).any (fun k => k != h && s.on TRK_XLAT_VALID k && s.rd TRK_XLAT_PREFIX k == bitsOf w.toNat 24 7)) = false → 
    exec (.xlatWrite h w) s = .next (s.writeReg (0xD8100 + 4 * h) w.toNat)) ∧
  (∀ (h : Fin 32) (w : Word) (s : State),
    h.val ≠ 0 → addrValid (bitsOf w.toNat 24 7 * 128) = false → (w.toNat.testBit 31 && ((List.range 32).drop 1).any (fun k => k != h && s.on TRK_XLAT_VALID k && s.rd TRK_XLAT_PREFIX k == s.rd TRK_XLAT_PREFIX h)) = false → 
    exec (.xlatWrite h w) s = .next ((s.writeReg (0xD8100 + 4 * h) (setBits w.toNat 24 7 (s.rd TRK_XLAT_PREFIX h))).wr TRK_KL2_STAT_XLATREJ 1))

/-- QLIM_WRITE of a port's class with a limit of at most 131,072 cells and not below its reserve: the limit is the written one; nothing else changes. A code above 131,072 is reserved and ignored. A limit below the reserve is refused with CFGREJ. QRSV_WRITE for class 6 or 7, within the limit and with a total of at most 65,536: the reserve is the written one; nothing else changes. Any other reserve of a port's class is refused with CFGREJ. MIRROR_RULE_WRITE with a port of 0 to 21 takes the written fields; nothing else changes. With another port code that field alone is ignored, and CFGREJ set. CAPTURE_CFG_WRITE that takes EN to 1 with a SIZE of 10 to 22: the fields are the written ones, WR and RD are 0. With EN 1 already, a SIZE in the write keeps its old value and sets CFGREJ, and the other fields are taken. CAPTURE_RD_WRITE that leaves the fill level within the ring: RD is the written one; nothing else changes. CAPTURE_RECORD_WRITE of the copy being captured, with room in the ring: its record is stored and the copy released. With the ring full the loss is counted; MODE 1 drops the oldest record and stores this one, MODE 0 drops this one. Storing a record writes its bytes to the ring's DRAM at WR modulo the ring size and moves WR on; with the fill level at the threshold already nothing else happens. LEAK_AUDIT returns the leaked cells to the pool and counts them; nothing else changes. PACKET_SELECT of an idle port that is up, owes no ring status message and is not in SEAL, with an eligible head of class 7 in good cells: that head leaves its queue and is launched. With class 7 empty, the eligible head of class 6 is. A launched copy starts, but for a duplicate at a trunk that is no longer seamless. A port that is sending starts nothing. Of classes 4 to 0 the deficit round robin picks the class, and the pick is where its turn stands. A class whose head is eligible and within its deficit is picked, and the length taken from its deficit. TRANSMIT_COMPLETE of a port: the copy that was being sent is released and the port idle. Its cells no longer count in its queue's occupancy. GATE_BOUNDARY of a port with no plan switch armed, no overrun and no new fallback: RUN, FALLBACK, BANK, GATES and ENTRY show where its gate list stands; nothing else changes. QUEUE_SAMPLE when a sample is due: for each queue the occupancy and the delay of its head are shown as the last ones and raise the maxima; the period starts anew. With sampling off it changes nothing. ILIM_RETRY of a port whose first waiting packet waits at its ingress limit: that packet is admitted again with the time of now, the ones behind it go on waiting, and its sender hears the outcome. POLICED_PACKET_RELEASE of a port whose first waiting packet waits for its policer, once the policer finds it green: it is offered to the buffer, the ones behind it go on waiting, and its sender hears the outcome. While it is red it goes on waiting and nothing changes. Each of these commands is shown to answer a next state with its own effect: qlimWrite, qrsvWrite, mirrorRuleWrite, captureCfgWrite, captureRdWrite, captureRecordWrite, leakAudit, packetSelect, transmitComplete, gateBoundary, queueSample, ilimRetry, policedPacketRelease. -/
def Obligations.SwitchBufferAndQueues : Prop :=
  (∀ (q : Fin 192) (w : Word) (s : State),
    q.val < 184 → bitsOf w.toNat 17 0 ≤ 131072 → s.rd XSW_QRSV_RSV q ≤ bitsOf w.toNat 17 0 → 
    exec (.qlimWrite q w) s = .next (s.wr XSW_QLIM_LIMIT (bitsOf w.toNat 17 0) q)) ∧
  (∀ (q : Fin 192) (w : Word) (s : State),
    q.val < 184 → bitsOf w.toNat 17 0 > 131072 → 
    exec (.qlimWrite q w) s = .next s) ∧
  (∀ (q : Fin 192) (w : Word) (s : State),
    q.val < 184 → bitsOf w.toNat 17 0 ≤ 131072 → bitsOf w.toNat 17 0 < s.rd XSW_QRSV_RSV q → 
    exec (.qlimWrite q w) s = .next (s.wr XSW_STAT_CFGREJ 1)) ∧
  (∀ (q : Fin 192) (w : Word) (s : State),
    q.val < 184 → ¬ q.val % 8 < 6 → bitsOf w.toNat 17 0 ≤ s.rd XSW_QLIM_LIMIT q → s.rsvSum - s.rd XSW_QRSV_RSV q + bitsOf w.toNat 17 0 ≤ 65536 → 
    exec (.qrsvWrite q w) s = .next (s.wr XSW_QRSV_RSV (bitsOf w.toNat 17 0) q)) ∧
  (∀ (q : Fin 192) (w : Word) (s : State),
    q.val < 184 → q.val % 8 < 6 ∨ s.rd XSW_QLIM_LIMIT q < bitsOf w.toNat 17 0 ∨ 65536 < s.rsvSum - s.rd XSW_QRSV_RSV q + bitsOf w.toNat 17 0 → 
    exec (.qrsvWrite q w) s = .next (s.wr XSW_STAT_CFGREJ 1)) ∧
  (∀ (k : Fin 8) (w : Word) (s : State),
    bitsOf w.toNat 20 16 ≤ 21 → 
    exec (.mirrorRuleWrite k w) s = .next (s.writeReg (0x100100 + 4 * k) w.toNat)) ∧
  (∀ (k : Fin 8) (w : Word) (s : State),
    bitsOf w.toNat 20 16 > 21 → 
    exec (.mirrorRuleWrite k w) s = .next ((s.writeReg (0x100100 + 4 * k) w.toNat).wr XSW_STAT_CFGREJ 1)) ∧
  (∀ (w : Word) (s : State),
    s.on XSW_CAP_CFG_EN = false → w.toNat.testBit 31 = true → 10 ≤ bitsOf w.toNat 20 16 → bitsOf w.toNat 20 16 ≤ 22 → 
    exec (.captureCfgWrite w) s = .next (((s.writeReg 0x100200 w.toNat).wr XSW_CAP_WR_WR 0).wr XSW_CAP_RD_RD 0)) ∧
  (∀ (w : Word) (s : State),
    s.on XSW_CAP_CFG_EN = true → 
    exec (.captureCfgWrite w) s = .next ((s.writeReg 0x100200 (setBits w.toNat 20 16 (s.rd XSW_CAP_CFG_SIZE))).wr XSW_STAT_CFGREJ 1)) ∧
  (∀ (w : Word) (s : State),
    s.capFill w.toNat ≤ 2 ^ s.rd XSW_CAP_CFG_SIZE → 
    exec (.captureRdWrite w) s = .next (s.wr XSW_CAP_RD_RD w.toNat)) ∧
  (∀ (c : Copy) (s : State),
    s.sending 22 = some c → s.on XSW_CAP_CFG_EN = true → s.capFill (s.rd XSW_CAP_RD_RD) < 2 ^ s.rd XSW_CAP_CFG_SIZE → 
    exec .captureRecordWrite s = .next ((s.capStore c.record).completeSend 22)) ∧
  (∀ (c : Copy) (s : State),
    s.sending 22 = some c → s.on XSW_CAP_CFG_EN = true → ¬ s.capFill (s.rd XSW_CAP_RD_RD) < 2 ^ s.rd XSW_CAP_CFG_SIZE → 
    exec .captureRecordWrite s = .next ((if s.on XSW_CAP_CFG_MODE then ((s.wrap XSW_CAP_RD_RD).sat XSW_CNT_COUNT 9).capStore c.record else s.sat XSW_CNT_COUNT 9).completeSend 22)) ∧
  (∀ (bs : List Byte) (s : State),
    s.rd XSW_CAP_CFG_THR ≤ s.capFill (s.rd XSW_CAP_RD_RD) → 
    s.capStore bs = (s.dramWrite (s.capBase + 96 * (s.rd XSW_CAP_WR_WR % 2 ^ s.rd XSW_CAP_CFG_SIZE)) bs).wrap XSW_CAP_WR_WR) ∧
  (∀ (s : State),
    exec .leakAudit s = .next { (s.wr XSW_POOL_CELLS (s.freeCells + s.xsw.leak)).satBy XSW_CNT_COUNT s.xsw.leak 7 with xsw := { s.xsw with leak := 0 } }) ∧
  (∀ (p : Fin 23) (x : Copy) (l : List Copy) (s : State),
    ¬ (p.val < 2 ∧ Tab.get s.ring.owed p false = true) → ¬ (p.val < 4 ∧ s.rd TRK_STAT_STATE p = 3) → s.brokenRing p = false → s.sending p = none → s.portReady p = true → s.queue (queueOf p 7) = x :: l → s.eligible p x = true → 
    exec (.packetSelect p 0) s = .next ((s.setQueue (queueOf p 7) l).launchCopy p x)) ∧
  (∀ (p : Fin 23) (x : Copy) (l : List Copy) (s : State),
    ¬ (p.val < 2 ∧ Tab.get s.ring.owed p false = true) → ¬ (p.val < 4 ∧ s.rd TRK_STAT_STATE p = 3) → s.brokenRing p = false → s.sending p = none → s.portReady p = true → s.queue (queueOf p 7) = [] → s.queue (queueOf p 6) = x :: l → s.eligible p x = true → 
    exec (.packetSelect p 0) s = .next ((s.setQueue (queueOf p 6) l).launchCopy p x)) ∧
  (∀ (p : Nat) (x : Copy) (s : State),
    ¬ (p < 4 ∧ x.hdr.dup = true ∧ s.seamless p = false) → 
    s.launchCopy p x = s.startCopy p x) ∧
  (∀ (p : Fin 23) (s : State),
    ¬ (p.val < 2 ∧ Tab.get s.ring.owed p false = true) → ¬ (p.val < 4 ∧ s.rd TRK_STAT_STATE p = 3) → (s.sending p).isSome = true → s.brokenRing p = false → 
    exec (.packetSelect p 0) s = .next s) ∧
  (∀ (p : Nat) (c cur : Nat) (d : Tab Nat) (s : State),
    ([7, 6, 5].any (fun k => s.headEligible p k)) = false → ([4, 3, 2, 1, 0].any (fun k => s.headEligible p k)) = true → drrLoop (s.drrIn p) drrFuel (Tab.get s.shp.cur p 4) (s.deficits p) = some (c, cur, d) → Tab.sorted s.shp.cur = true → 
    (s.select p).2 = some c ∧ Tab.get (s.select p).1.shp.cur p 4 = cur) ∧
  (∀ (q : Nat → DrrIn) (fuel cur : Nat) (d : Tab Nat),
    (q cur).elig = true → (q cur).len ≤ Tab.get d cur 0 → 
    drrLoop q (fuel + 1) cur d = some (cur, cur, Tab.put d cur (Tab.get d cur 0 - (q cur).len) 0)) ∧
  (∀ (p : Fin 12) (c : Copy) (s : State),
    s.sending p = some c → 
    exec (.transmitComplete p) s = .next ((s.setSending p none).releaseCopy c)) ∧
  (∀ (p : Fin 12) (c : Copy) (s : State),
    s.sending p = some c → c.pkt = 0 → Tab.sorted s.regs = true → 
    ∃ t, exec (.transmitComplete p) s = .next t ∧ t.sending p = none ∧ t.rd XSW_QOCC_CELLS (queueOf c.eport c.hdr.cls) = (s.rd XSW_QOCC_CELLS (queueOf c.eport c.hdr.cls) - c.cost) % 2 ^ XSW_QOCC_CELLS.width) ∧
  (∀ (p : Fin 12) (s : State),
    s.on SHP_PLAN_STAT_ARMED = false → s.overruns p (s.gatePos p s.activeBank).gates = false → s.on SHP_GCTL_ANCHOR p s.activeBank = false ∨ (s.gatePos p s.activeBank).fallback = false ∨ s.on SHP_GSTAT_FALLBACK p = true → 
    exec (.gateBoundary p) s = .next (((((s.wr SHP_GSTAT_RUN (bit (s.gatePos p s.activeBank).run) p).wr SHP_GSTAT_FALLBACK (bit (s.gatePos p s.activeBank).fallback) p).wr SHP_GSTAT_BANK s.activeBank p).wr SHP_GSTAT_GATES (s.gatePos p s.activeBank).gates p).wr SHP_GSTAT_ENTRY (s.gatePos p s.activeBank).entry p)) ∧
  (∀ (s : State),
    s.on SHP_SAMPLE_EN = true → s.sampleDue = true → 
    exec .queueSample s = .next ((s.arm .sample 0).each (List.range 192) (fun s q => (((s.wr SHP_DEPTH_LAST_CELLS (s.rd XSW_QOCC_CELLS q) q).wr SHP_DELAY_LAST_NS (s.headDelay q) q).raise SHP_DEPTH_MAX_CELLS (s.rd XSW_QOCC_CELLS q) q).raise SHP_DELAY_MAX_NS (s.headDelay q) q))) ∧
  (∀ (s : State),
    s.on SHP_SAMPLE_EN = false → 
    exec .queueSample s = .next s) ∧
  (∀ (p : Fin 23) (h : Held) (l : List Held) (s : State),
    Tab.get s.xsw.held p [] = h :: l → h.policing = false → 
    exec (.ilimRetry p) s = .next (((s.setHeld p l).admitOrigin (s.stampHeld h) p).1.heldDone p (some (h, ((s.setHeld p l).admitOrigin (s.stampHeld h) p).2)))) ∧
  (∀ (p : Fin 23) (h : Held) (l : List Held) (t : State) (s : State),
    s.waiting p = h :: l → h.policing = true → s.police h.slot (20 + h.hdr.payload.length) = (t, true) → 
    exec (.policedPacketRelease p) s = .next (((t.setHeld p l).admitOrigin (t.stampHeld h) p).1.heldDone p (some (h, ((t.setHeld p l).admitOrigin (t.stampHeld h) p).2)))) ∧
  (∀ (p : Fin 23) (h : Held) (l : List Held) (t : State) (s : State),
    Tab.get s.xsw.held p [] = h :: l → h.policing = true → s.police h.slot (20 + h.hdr.payload.length) = (t, false) → 
    exec (.policedPacketRelease p) s = .next s)

/-- SHAPER_REFILL with no plan switch armed: every shaper uses the active bank from now on. Its count is its old count, clamped to the bank's bucket, plus 1,024 times the bank's rate, capped at the bucket; a shaper that is off holds a full bucket. No register changes. (The counts are read from tables whose keys rise.) Every policer that is on gains 1,024 times its rate up to its burst, one that is off holds its burst. Each of these commands is shown to answer a next state with its own effect: shaperRefill. -/
def Obligations.ShaperRefill : Prop :=
  (∀ (s : State) (q : Nat),
    s.on SHP_PLAN_STAT_ARMED = false → Tab.sorted s.shp.tokens = true → q < 184 → 
    ∃ t, exec .shaperRefill s = .next t ∧ t.regs = s.regs ∧ t.shaperSet q = (s.rd SHP_Q0_SHEN q s.activeBank, s.rd SHP_Q0_RATE q s.activeBank, s.rd SHP_Q1_BUCKET q s.activeBank) ∧ t.tokens q = (if s.on SHP_Q0_SHEN q s.activeBank then min (min (s.tokens q) (s.rd SHP_Q1_BUCKET q s.activeBank * State.tokenUnit) + s.rd SHP_Q0_RATE q s.activeBank * 1024) (s.rd SHP_Q1_BUCKET q s.activeBank * State.tokenUnit) else s.rd SHP_Q1_BUCKET q s.activeBank * State.tokenUnit)) ∧
  (∀ (s : State) (n : Nat),
    s.on SHP_PLAN_STAT_ARMED = false → Tab.sorted s.shp.policer = true → n ∈ State.slots → 
    ∃ t, exec .shaperRefill s = .next t ∧ t.policerCount n = (if s.on SHP_POL0_PEN n s.activeBank then min (s.policerCount n + s.rd SHP_POL0_RATE n s.activeBank * 1024) (s.rd SHP_POL1_BURST n s.activeBank * State.tokenUnit) else s.rd SHP_POL1_BURST n s.activeBank * State.tokenUnit))

/-- BANK_WRITE of an assigned offset below 0x4000 of the bank that is not active, with no plan armed and no plan command running, takes the written fields; nothing else changes. So does one of a shaper's words, offsets 0x4000 to 0x45BF, once the shapers use the active bank. A write to the active bank is refused: ACTWR is set and the refusal counted. A write to the other bank while a plan is armed or a command runs is refused: ARMWR is set and the refusal counted. While BUSY each of the four plan commands is refused: CMDREJ is set and the refusal counted. PLAN_CHECK starts, BUSY 1, with the first failure that the check of the idle bank finds as its result; PLAN_DISARM starts, to be judged when it completes; nothing else changes. PLAN_ARM in mode NEXT, or in mode AT or MAINS with a nanosecond word of at most 999,999,999, with no plan armed and a clean idle bank: BUSY and ARMED are 1 in the mode given, and the result is OK; nothing else changes. While a plan is armed PLAN_ARM, where its time is valid or not used, and PLAN_COPY give STATE. PLAN_ARM in mode AT or MAINS with a larger nanosecond word gives BADTIME, armed or not. PLAN_COPY with no plan armed: BUSY is 1, and the idle bank holds the gate entries, gate control, shaper, queue and policer settings of the active one. PLAN_COMMAND_DONE of a command with the result OK: BUSY is 0 and CODE is OK; nothing else changes. With another result and no item named, CODE is the result and the failure counts. With an item named, the failing area and index are shown as well. A DISARM that completes with no plan armed gives STATE. PLAN_SWITCH, a tick or more after an ARM in mode NEXT, switches the plan. In mode AT it switches once the time of day has reached the instant. In mode MAINS it switches at the boundary that counts. PLAN_DEADLINE, mode MAINS, no boundary that counts and the deadline passed: MFALL is set, the fallback counted, and the plan switches with the deadline as its intended time. Each of these commands is shown to answer a next state with its own effect: bankWrite, planCheck, planDisarm, planArm, planCopy, planCommandDone, planSwitch, planDeadline. -/
def Obligations.PlanCommands : Prop :=
  (∀ (o : Fin 32768) (w : Word) (b k : Nat) (s : State),
    State.bankOf (0x150000 + 4 * o.val) = some (b, k) → (findReg (0x150000 + 4 * o.val)).isSome = true → ¬ (0x4000 ≤ k) → b ≠ s.activeBank → s.on SHP_PLAN_STAT_ARMED = false → s.on SHP_PLAN_STAT_BUSY = false → 
    exec (.bankWrite o w) s = .next (s.writeReg (0x150000 + 4 * o) w.toNat)) ∧
  (∀ (o : Fin 32768) (w : Word) (b k : Nat) (s : State),
    State.bankOf (0x150000 + 4 * o.val) = some (b, k) → (findReg (0x150000 + 4 * o.val)).isSome = true → 0x4000 ≤ k → k < 0x45C0 → b ≠ s.activeBank → s.shp.shapBank = s.activeBank → s.on SHP_PLAN_STAT_ARMED = false → s.on SHP_PLAN_STAT_BUSY = false → 
    exec (.bankWrite o w) s = .next (s.writeReg (0x150000 + 4 * o) w.toNat)) ∧
  (∀ (o : Fin 32768) (w : Word) (k : Nat) (s : State),
    State.bankOf (0x150000 + 4 * o.val) = some (s.activeBank, k) → (findReg (0x150000 + 4 * o.val)).isSome = true → ¬ (0x4000 ≤ k ∧ k < 0x4600) → 
    exec (.bankWrite o w) s = .next ((s.wr SHP_PLAN_STAT_ACTWR 1).sat SHP_CNT_COUNT 5)) ∧
  (∀ (o : Fin 32768) (w : Word) (b k : Nat) (s : State),
    State.bankOf (0x150000 + 4 * o.val) = some (b, k) → (findReg (0x150000 + 4 * o.val)).isSome = true → ¬ (0x4000 ≤ k ∧ k < 0x4600) → b ≠ s.activeBank → s.on SHP_PLAN_STAT_ARMED = true ∨ s.on SHP_PLAN_STAT_BUSY = true → 
    exec (.bankWrite o w) s = .next ((s.wr SHP_PLAN_STAT_ARMWR 1).sat SHP_CNT_COUNT 5)) ∧
  (∀ (m : Fin 4) (s : State),
    s.on SHP_PLAN_STAT_BUSY = true → 
    exec .planCheck s = .next ((s.wr SHP_PLAN_STAT_CMDREJ 1).sat SHP_CNT_COUNT 5) ∧ exec (.planArm m) s = .next ((s.wr SHP_PLAN_STAT_CMDREJ 1).sat SHP_CNT_COUNT 5) ∧ exec .planDisarm s = .next ((s.wr SHP_PLAN_STAT_CMDREJ 1).sat SHP_CNT_COUNT 5) ∧ exec .planCopy s = .next ((s.wr SHP_PLAN_STAT_CMDREJ 1).sat SHP_CNT_COUNT 5)) ∧
  (∀ (s : State),
    s.on SHP_PLAN_STAT_BUSY = false → 
    exec .planCheck s = .next (s.planStart (s.planCheck s.idleBank)) ∧ exec .planDisarm s = .next { s.planStart (.ok, 3, 0) with shp := { (s.planStart (.ok, 3, 0)).shp with disarm := true } }) ∧
  (∀ (m : Fin 4) (s : State),
    s.on SHP_PLAN_STAT_BUSY = false → m = 0 ∨ (m ≠ 3 ∧ s.rd SHP_PLAN_NS_NS ≤ 999999999) → s.on SHP_PLAN_STAT_ARMED = false → s.planCheck s.idleBank = (.ok, 3, 0) → 
    exec (.planArm m) s = .next { (s.planStart (.ok, 3, 0)).wr SHP_PLAN_STAT_ARMED 1 with shp := { s.shp with res := (0, 3, 0), disarm := false, mode := m, due := false, armAt := s.tmu.elapsed } }) ∧
  (∀ (m : Fin 4) (s : State),
    s.on SHP_PLAN_STAT_BUSY = false → m = 0 ∨ (m ≠ 3 ∧ s.rd SHP_PLAN_NS_NS ≤ 999999999) → s.on SHP_PLAN_STAT_ARMED = true → 
    exec (.planArm m) s = .next (s.planStart (.state, 3, 0)) ∧ exec .planCopy s = .next (s.planStart (.state, 3, 0))) ∧
  (∀ (m : Fin 4) (s : State),
    s.on SHP_PLAN_STAT_BUSY = false → m = 1 ∨ m = 2 → s.rd SHP_PLAN_NS_NS > 999999999 → 
    exec (.planArm m) s = .next (s.planStart (.badTime, 3, 0))) ∧
  (∀ (s : State),
    s.on SHP_PLAN_STAT_BUSY = false → s.on SHP_PLAN_STAT_ARMED = false → Tab.sorted s.regs = true → s.activeBank ≤ 1 → 
    ∃ t, exec .planCopy s = .next t ∧ t.on SHP_PLAN_STAT_BUSY = true ∧ (∀ i < 3072, t.rd SHP_GATE_GATES i s.idleBank = s.rd SHP_GATE_GATES i s.activeBank ∧ t.rd SHP_GATE_INTERVAL i s.idleBank = s.rd SHP_GATE_INTERVAL i s.activeBank) ∧ (∀ p < 12, t.rd SHP_GCTL_EN p s.idleBank = s.rd SHP_GCTL_EN p s.activeBank ∧ t.rd SHP_GCTL_LEN p s.idleBank = s.rd SHP_GCTL_LEN p s.activeBank ∧ t.rd SHP_GSTART_START p s.idleBank = s.rd SHP_GSTART_START p s.activeBank) ∧ (∀ q < 184, t.rd SHP_Q0_SHEN q s.idleBank = s.rd SHP_Q0_SHEN q s.activeBank ∧ t.rd SHP_Q0_RATE q s.idleBank = s.rd SHP_Q0_RATE q s.activeBank ∧ t.rd SHP_Q1_QUANTUM q s.idleBank = s.rd SHP_Q1_QUANTUM q s.activeBank ∧ t.rd SHP_Q1_BUCKET q s.idleBank = s.rd SHP_Q1_BUCKET q s.activeBank) ∧ (∀ n ∈ State.slots, t.rd SHP_POL0_RATE n s.idleBank = s.rd SHP_POL0_RATE n s.activeBank ∧ t.rd SHP_POL1_BURST n s.idleBank = s.rd SHP_POL1_BURST n s.activeBank)) ∧
  (∀ (s : State),
    s.on SHP_PLAN_STAT_BUSY = true → s.shp.disarm = false → s.shp.res.1 = 0 → s.shp.res.2.1 = 3 → 
    exec .planCommandDone s = .next ((s.wr SHP_PLAN_STAT_BUSY 0).wr SHP_PLAN_STAT_CODE 0)) ∧
  (∀ (s : State),
    s.on SHP_PLAN_STAT_BUSY = true → s.shp.disarm = false → s.shp.res.1 ≠ 0 → s.shp.res.2.1 = 3 → 
    exec .planCommandDone s = .next (((s.wr SHP_PLAN_STAT_BUSY 0).wr SHP_PLAN_STAT_CODE s.shp.res.1).sat SHP_CNT_COUNT 5)) ∧
  (∀ (s : State),
    s.on SHP_PLAN_STAT_BUSY = true → s.shp.disarm = false → s.shp.res.1 ≠ 0 → s.shp.res.2.1 ≠ 3 → 
    exec .planCommandDone s = .next (((((s.wr SHP_PLAN_STAT_BUSY 0).wr SHP_PLAN_STAT_CODE s.shp.res.1).wr SHP_PLAN_ERR_AREA s.shp.res.2.1).wr SHP_PLAN_ERR_INDEX s.shp.res.2.2).sat SHP_CNT_COUNT 5)) ∧
  (∀ (s : State),
    s.on SHP_PLAN_STAT_BUSY = true → s.shp.disarm = true → s.on SHP_PLAN_STAT_ARMED = false → 
    exec .planCommandDone s = .next (((((s.planStart (.state, 3, 0)).wr SHP_PLAN_STAT_BUSY 0).wr SHP_PLAN_STAT_CODE (State.planCode .state)).sat SHP_CNT_COUNT 5))) ∧
  (∀ (s : State),
    s.on SHP_PLAN_STAT_ARMED = true → s.shp.mode = 0 → s.shp.armAt < s.tmu.elapsed → 
    exec .planSwitch s = .next (s.planSwitch none)) ∧
  (∀ (s : State),
    s.on SHP_PLAN_STAT_ARMED = true → s.shp.mode = 1 → s.planInstant * 2 ^ 32 ≤ s.tmu.tod.units → 
    exec .planSwitch s = .next (s.planSwitch (some s.planInstant))) ∧
  (∀ (s : State),
    s.on SHP_PLAN_STAT_ARMED = true → s.shp.mode = 2 → s.shp.due = true → 
    exec .planSwitch s = .next (s.planSwitch none)) ∧
  (∀ (s : State),
    s.on SHP_PLAN_STAT_ARMED = true → s.shp.mode = 2 → s.shp.due = false → s.planDeadline * 2 ^ 32 ≤ s.tmu.tod.units → 
    exec .planDeadline s = .next (((s.wr SHP_PLAN_STAT_MFALL 1).sat SHP_CNT_COUNT 4).planSwitch (some s.planDeadline)))

/-- After a switch the active bank is the other one, ARMED is 0, SWITCHED is 1, SWCNT has advanced by one within its width, and the switch's time is the present second and nanosecond. Each port's gate status shows the new bank. Each policer's count is its old count, but no more than its burst of the new bank. -/
def Obligations.PlanSwitchEffect : Prop :=
  (∀ (s : State) (iv : Option Nat),
    Tab.sorted s.regs = true → s.activeBank ≤ 1 → 
    (s.planSwitch iv).activeBank = 1 - s.activeBank ∧ (s.planSwitch iv).on SHP_PLAN_STAT_ARMED = false ∧ (s.planSwitch iv).on SHP_PLAN_STAT_SWITCHED = true ∧ (s.planSwitch iv).rd SHP_PLAN_STAT_SWCNT = (s.rd SHP_PLAN_STAT_SWCNT + 1) % 2 ^ SHP_PLAN_STAT_SWCNT.width ∧ (s.planSwitch iv).rd SHP_PLAN_AT_SECLO_SEC_LO = s.tmu.tod.sec % 2 ^ 32 ∧ (s.planSwitch iv).rd SHP_PLAN_AT_NS_NS = s.tmu.tod.ns % 2 ^ SHP_PLAN_AT_NS_NS.width) ∧
  (∀ (s : State) (iv : Option Nat) (p : Nat),
    Tab.sorted s.regs = true → s.activeBank ≤ 1 → p < 12 → 
    (s.planSwitch iv).rd SHP_GSTAT_BANK p = 1 - s.activeBank) ∧
  (∀ (s : State) (iv : Option Nat) (n : Nat),
    Tab.sorted s.regs = true → s.activeBank ≤ 1 → n ∈ State.slots → Tab.sorted s.shp.policer = true → 
    (s.planSwitch iv).policerCount n = min (s.policerCount n) (s.rd SHP_POL1_BURST n (1 - s.activeBank) * State.tokenUnit))

/-- EDGE_CTRL_WRITE that keeps the mode takes the written fields; then MODEMIS shows whether mode and lane agree, a link that can no longer hold drops, and the guard band follows. EDGE_LINK_UP of an enabled port in agreement with its LOCKED lane, its link down and negotiation done: LINK is 1, SPEED that of its mode, the guard band follows and the latency entries are loaded. In SGMII, with the in-band negotiation not complete, the link stays down and the failure counts. EDGE_LINK_DOWN of a port with LINK 1: LINK is 0, LINKEV set, the loss counted and the guard band 0 as the port is down. With LINK 0 it changes nothing. A frame with a bad FCS counts as received and in its own counter, and is dropped. So is a frame below 64 bytes. EDGE_FRAME_RECEIVE, alone in its cycle, of a good frame of 64 bytes to MAXLEN that is no flow control and no PTP event, at a port with an origin context: it counts as received, and its bytes without the FCS go into the tunnel, with the time of ingress in front where the version is 2 or more: classified, policed and offered to stage 4. At a port without an origin context it counts in NOCTX and only its copies for phase observations are offered to stage 4. Each of these commands is shown to answer a next state with its own effect: edgeCtrlWrite, edgeLinkUp, edgeLinkDown, edgeFrameReceive. -/
def Obligations.EdgePorts : Prop :=
  (∀ (e : Fin 8) (w : Word) (s : State),
    s.rd EDG_CTRL_MODE e = (s.writeReg (0xE0000 + 0x400 * e) w.toNat).rd EDG_CTRL_MODE e → 
    exec (.edgeCtrlWrite e w) s = .next (((s.writeReg (0xE0000 + 0x400 * e) w.toNat).edgeCheck e).guardShow (4 + e))) ∧
  (∀ (e : Fin 8) (inband : Fin 3) (an : Bool) (s : State),
    (s.wr EDG_STAT_MODEMIS (bit (s.modeMismatch e)) e).edgeHolds e = true → (s.wr EDG_STAT_MODEMIS (bit (s.modeMismatch e)) e).on EDG_STAT_LINK e = false → an = true → 
    exec (.edgeLinkUp e inband an) s = .next ((((s.wr EDG_STAT_MODEMIS (bit (s.modeMismatch e)) e).wr EDG_STAT_LINK 1 e).wr EDG_STAT_SPEED (State.edgeSpeed ((s.wr EDG_STAT_MODEMIS (bit (s.modeMismatch e)) e).rd EDG_CTRL_MODE e) inband) e).guardShow (4 + e) |>.latencyTrained (4 + e))) ∧
  (∀ (e : Fin 8) (inband : Fin 3) (s : State),
    (s.wr EDG_STAT_MODEMIS (bit (s.modeMismatch e)) e).edgeHolds e = true → (s.wr EDG_STAT_MODEMIS (bit (s.modeMismatch e)) e).on EDG_STAT_LINK e = false → (s.wr EDG_STAT_MODEMIS (bit (s.modeMismatch e)) e).rd EDG_CTRL_MODE e = 1 → 
    exec (.edgeLinkUp e inband false) s = .next ((s.wr EDG_STAT_MODEMIS (bit (s.modeMismatch e)) e).edgCount e 9)) ∧
  (∀ (e : Fin 8) (s : State),
    s.on EDG_STAT_LINK e = true → 
    exec (.edgeLinkDown e) s = .next ((((s.wr EDG_STAT_LINK 0 e).wr EDG_STAT_LINKEV 1 e).edgCount e 8).guardShow (4 + e))) ∧
  (∀ (e : Fin 8) (s : State),
    s.on EDG_STAT_LINK e = false → 
    exec (.edgeLinkDown e) s = .next s) ∧
  (∀ (e : Fin 8) (bytes : List Byte) (s : State),
    s.on EDG_STAT_LINK e = true → s.on EDG_CTRL_EN e = true → bytes.drop (bytes.length - 4) ≠ fcsBytes (crc32 (bytes.take (bytes.length - 4))) → 
    exec (.edgeFrameReceive e bytes []) s = .next ((s.edgCount e 0).edgCount e 2)) ∧
  (∀ (e : Fin 8) (bytes : List Byte) (s : State),
    s.on EDG_STAT_LINK e = true → s.on EDG_CTRL_EN e = true → bytes.drop (bytes.length - 4) = fcsBytes (crc32 (bytes.take (bytes.length - 4))) → bytes.length < 64 → 
    exec (.edgeFrameReceive e bytes []) s = .next ((s.edgCount e 0).edgCount e 3)) ∧
  (∀ (e : Fin 8) (bytes : List Byte) (n : Nat) (s : State),
    s.on EDG_STAT_LINK e = true → s.on EDG_CTRL_EN e = true → bytes.drop (bytes.length - 4) = fcsBytes (crc32 (bytes.take (bytes.length - 4))) → 64 ≤ bytes.length → bytes.length ≤ (s.edgCount e 0).rd EDG_CTRL_MAXLEN e → etherType (bytes.take (bytes.length - 4)) ≠ 0x8808 → ptpEvent (bytes.take (bytes.length - 4)) = false → (s.edgCount e 0).edgeContext e = some n → 
    exec (.edgeFrameReceive e bytes []) s = .next (((s.edgCount e 0).frameTunnel e n (bytes.take (bytes.length - 4))).1.admitCycle 0 ((s.edgCount e 0).frameTunnel e n (bytes.take (bytes.length - 4))).2)) ∧
  (∀ (e : Fin 8) (bytes : List Byte) (s : State),
    s.on EDG_STAT_LINK e = true → s.on EDG_CTRL_EN e = true → bytes.drop (bytes.length - 4) = fcsBytes (crc32 (bytes.take (bytes.length - 4))) → 64 ≤ bytes.length → bytes.length ≤ (s.edgCount e 0).rd EDG_CTRL_MAXLEN e → etherType (bytes.take (bytes.length - 4)) ≠ 0x8808 → ptpEvent (bytes.take (bytes.length - 4)) = false → (s.edgCount e 0).edgeContext e = none → 
    exec (.edgeFrameReceive e bytes []) s = .next (((s.edgCount e 0).edgCount e 6).admitCycle 0 ((s.edgCount e 0).framePhase e (bytes.take (bytes.length - 4)))))

/-- ENGINE_ENABLE of an engine with EN 0 whose image is verified, the chip in neither DORMANT nor OFF: EN is 1, the state START with the named image, no restart is counted, and READY is due within 10 ms. With an image that is not verified the engine stays in OFF with cause NOIMG. ENGINE_READY of an engine in START: the state is RUN, the watchdog counts from now, and each of its HALTED entries is ACTIVE again, or BOUND where its parameters had not been accepted before the halt. ENGINE_START_TIMEOUT of an engine still in START 10 ms after: it is HALTED with cause START, and may restart 100 us later. ENGINE_WATCHDOG of a running engine whose firmware has let WDT x 100 us pass since the last kick: it is HALTED with cause WDT. ENGINE_ECC_HALT and ENGINE_TRAP of a running engine: it is HALTED with cause ECC or TRAP. ENGINE_DISABLE of an engine with EN 1: EN is 0 and the state OFF. ENGINE_WATCHDOG_KICK starts the engine's watchdog interval anew; nothing else changes. ENGINE_RESTART of a HALTED engine with RESTART 1, 100 us after its halt, its image verified and fewer than four restarts in the last 10 s: it is in START again and the restart is counted and remembered with its time. With four restarts in the last 10 s it stays HALTED, and no later restart is due. IMAGE_SLOT_WRITE of a slot that an engine uses is refused: IMGREJ is set. IMAGE_SLOT_WRITE of a slot that none uses, LOCK 0, stores the address or length word and clears VERIFIED; nothing else changes. Each of these commands is shown to answer a next state with its own effect: engineEnable, engineReady, engineStartTimeout, engineWatchdog, engineEccHalt, engineTrap, engineDisable, engineWatchdogKick, engineRestart, imageSlotWrite. -/
def Obligations.EngineStates : Prop :=
  (∀ (n : Fin 16) (s : State),
    s.on ENG_CTRL_EN n = false → s.restricted = false → s.on TEN_IMG_INFO_VERIFIED (s.rd ENG_CTRL_IMAGE n) = true → Tab.sorted s.regs = true → Tab.sorted s.ten.img = true → 
    ∃ t, exec (.engineEnable n) s = .next t ∧ t.on ENG_CTRL_EN n = true ∧ t.rd ENG_STAT_STATE n = engStart ∧ t.rd ENG_STAT_RESTARTS n = 0 ∧ Tab.get t.ten.img n 0 = s.rd ENG_CTRL_IMAGE n ∧ t.deadline (.engineStart n) = some (s.tmu.elapsed + 10000000 * 2 ^ 32)) ∧
  (∀ (n : Fin 16) (s : State),
    s.on ENG_CTRL_EN n = false → s.restricted = false → s.on TEN_IMG_INFO_VERIFIED (s.rd ENG_CTRL_IMAGE n) = false → s.rd ENG_STAT_STATE n = engOff → 
    ∃ t, exec (.engineEnable n) s = .next t ∧ t.on ENG_CTRL_EN n = true ∧ t.rd ENG_STAT_STATE n = engOff ∧ t.rd ENG_STAT_CAUSE n = 5) ∧
  (∀ (n : Fin 16) (s : State),
    s.rd ENG_STAT_STATE n = engStart → Tab.sorted s.regs = true → Tab.sorted s.ten.kick = true → 
    ∃ t, exec (.engineReady n) s = .next t ∧ t.rd ENG_STAT_STATE n = engRun ∧ Tab.get t.ten.kick n 0 = s.tmu.elapsed ∧ (∀ e < 128, s.on TEN_SVC0_EN e = true → s.svcEngine e = n → s.rd TEN_SVC0_STATE e = svcHalted → t.rd TEN_SVC0_STATE e = (if Tab.get s.ten.taken e false then svcActive else svcBound))) ∧
  (∀ (n : Fin 16) (s : State),
    s.rd ENG_STAT_STATE n = engStart → s.due (.engineStart n) = true → 
    ∃ t, exec (.engineStartTimeout n) s = .next t ∧ t.rd ENG_STAT_STATE n = engHalted ∧ t.rd ENG_STAT_CAUSE n = 4 ∧ t.deadline (.engineHalt n) = some (s.tmu.elapsed + 100000 * 2 ^ 32)) ∧
  (∀ (n : Fin 16) (s : State),
    s.rd ENG_STAT_STATE n = engRun → s.tmu.elapsed ≥ Tab.get s.ten.kick n 0 + s.rd ENG_CTRL_WDT n * 100000 * 2 ^ 32 → 
    ∃ t, exec (.engineWatchdog n) s = .next t ∧ t.rd ENG_STAT_STATE n = engHalted ∧ t.rd ENG_STAT_CAUSE n = 1 ∧ t.deadline (.engineHalt n) = some (s.tmu.elapsed + 100000 * 2 ^ 32)) ∧
  (∀ (n : Fin 16) (s : State),
    s.rd ENG_STAT_STATE n = engRun → 
    (∃ t, exec (.engineEccHalt n) s = .next t ∧ t.rd ENG_STAT_STATE n = engHalted ∧ t.rd ENG_STAT_CAUSE n = 2 ∧ t.deadline (.engineHalt n) = some (s.tmu.elapsed + 100000 * 2 ^ 32)) ∧ (∃ t, exec (.engineTrap n) s = .next t ∧ t.rd ENG_STAT_STATE n = engHalted ∧ t.rd ENG_STAT_CAUSE n = 3 ∧ t.deadline (.engineHalt n) = some (s.tmu.elapsed + 100000 * 2 ^ 32))) ∧
  (∀ (n : Fin 16) (s : State),
    s.on ENG_CTRL_EN n = true → Tab.sorted s.regs = true → 
    ∃ t, exec (.engineDisable n) s = .next t ∧ t.on ENG_CTRL_EN n = false ∧ t.rd ENG_STAT_STATE n = engOff) ∧
  (∀ (n : Fin 16) (s : State),
    exec (.engineWatchdogKick n) s = .next { s with ten := { s.ten with kick := Tab.put s.ten.kick n s.tmu.elapsed 0 } }) ∧
  (∀ (n : Fin 16) (s : State),
    s.rd ENG_STAT_STATE n = engHalted → s.due (.engineHalt n) = true → s.on ENG_CTRL_RESTART n = true → s.on TEN_IMG_INFO_VERIFIED (s.rd ENG_CTRL_IMAGE n) = true → ((Tab.get s.ten.restarts n []).filter (fun t => s.tmu.elapsed < t + 10000000000 * 2 ^ 32)).length < 4 → s.restricted = false → 
    ∃ t, exec (.engineRestart n) s = .next t ∧ t.rd ENG_STAT_STATE n = engStart ∧ t.rd ENG_STAT_RESTARTS n = min (s.rd ENG_STAT_RESTARTS n + 1) (2 ^ (ENG_STAT_RESTARTS.hi + 1 - ENG_STAT_RESTARTS.lo) - 1) ∧ Tab.get t.ten.restarts n [] = s.tmu.elapsed :: (Tab.get s.ten.restarts n []).filter (fun t => s.tmu.elapsed < t + 10000000000 * 2 ^ 32)) ∧
  (∀ (n : Fin 16) (s : State),
    s.rd ENG_STAT_STATE n = engHalted → s.due (.engineHalt n) = true → s.restricted = false → ¬ ((Tab.get s.ten.restarts n []).filter (fun t => s.tmu.elapsed < t + 10000000000 * 2 ^ 32)).length < 4 → 
    exec (.engineRestart n) s = .next (s.disarm (.engineHalt n))) ∧
  (∀ (i : Fin 4) (isLen : Bool) (w : Word) (s : State),
    s.imageNamed i = true → 
    exec (.imageSlotWrite i isLen w) s = .next (s.wr TEN_STAT_IMGREJ 1)) ∧
  (∀ (i : Fin 4) (isLen : Bool) (w : Word) (s : State),
    s.imageNamed i = false → s.on TEN_CTRL_LOCK = false → 
    exec (.imageSlotWrite i isLen w) s = .next ((s.writeReg (0x1C0010 + 0x10 * i + (if isLen then 4 else 0)) w.toNat).wr TEN_IMG_INFO_VERIFIED 0 i))

/-- SERVICE_BIND of an entry with EN 1 is refused: SVCREJ is set. Of an entry with EN 0 it stores type and engine; with a check that fails the entry is in ERROR with that check's code. With none it has EN 1, is BOUND with code 0, and its counts and queues are empty. SERVICE_ACTIVATE of a BOUND entry of a running engine reads its parameter block; accepted, the entry is ACTIVE with code 0. Refused, the entry is in ERROR with the service's code. SERVICE_UNBIND of an entry with EN 1: EN is 0, the entry IDLE, its packets and recorded edges gone. ENGINE_DISPATCH of a cluster's packet for an ACTIVE entry of a running engine whose buffer holds fewer than 16, of a type other than 6 and 7: the transmission ends and the packet is in the engine's buffer, counted for the entry. A packet for no entry is discarded and counted. One for a HALTED entry is discarded under its own counter. ENGINE_PACKET_SEND of an entry that runs with a slot to send on: the payload joins its cluster's outbox, which then goes out as far as it can. An entry that does not run sends nothing. EVENT_RECORD_SEND of a type 6 entry that runs and has recorded edges: the oldest, at most 64, leave as one packet with consecutive sequence numbers, and the others wait. SV_CYCLE_COMPLETE of a phase entry that runs, whose samples are not one whole good cycle, or with another mains source than SV: they are dropped; nothing else changes. With one whole good cycle and the mains source SV, the entry's samples are used up and one observation is committed to the mains unit, its second, nanosecond and phase words free values and its step count the present one. Each of these commands is shown to answer a next state with its own effect: serviceBind, serviceActivate, serviceUnbind, engineDispatch, enginePacketSend, eventRecordSend, svCycleComplete. -/
def Obligations.ServiceTable : Prop :=
  (∀ (e : Fin 128) (w : Word) (s : State),
    s.on TEN_SVC0_EN e = true → 
    exec (.serviceBind e w) s = .next (s.wr TEN_STAT_SVCREJ 1)) ∧
  (∀ (e : Fin 128) (w : Word) (c : BindCode) (s : State),
    s.on TEN_SVC0_EN e = false → (s.writeFields false [TEN_SVC0_TYPE, TEN_SVC0_ENGINE] e 0 w.toNat).bindFailure e = some c → 
    exec (.serviceBind e w) s = .next (((s.writeFields false [TEN_SVC0_TYPE, TEN_SVC0_ENGINE] e 0 w.toNat).wr TEN_SVC0_STATE svcError e).wr TEN_SVC0_CODE c.code e)) ∧
  (∀ (e : Fin 128) (w : Word) (s : State),
    s.on TEN_SVC0_EN e = false → (s.writeFields false [TEN_SVC0_TYPE, TEN_SVC0_ENGINE] e 0 w.toNat).bindFailure e = none → 
    exec (.serviceBind e w) s = .next (((((s.writeFields false [TEN_SVC0_TYPE, TEN_SVC0_ENGINE] e 0 w.toNat).wr TEN_SVC0_EN 1 e).wr TEN_SVC0_STATE svcBound e).wr TEN_SVC0_CODE 0 e).clearEntry e)) ∧
  (∀ (e : Fin 128) (s : State),
    s.on TEN_SVC0_EN e = true → s.rd TEN_SVC0_STATE e = svcBound → s.rd ENG_STAT_STATE (s.svcEngine e) = engRun → (s.readBlock e).paramRefuses e = none → Tab.sorted s.regs = true → 
    ∃ t, exec (.serviceActivate e) s = .next t ∧ t.rd TEN_SVC0_STATE e = svcActive ∧ t.rd TEN_SVC0_CODE e = 0 ∧ Tab.get t.ten.taken e false = true) ∧
  (∀ (e : Fin 128) (c : Nat) (s : State),
    s.on TEN_SVC0_EN e = true → s.rd TEN_SVC0_STATE e = svcBound → s.rd ENG_STAT_STATE (s.svcEngine e) = engRun → (s.readBlock e).paramRefuses e = some c → 
    exec (.serviceActivate e) s = .next (((s.readBlock e).wr TEN_SVC0_STATE svcError e).wr TEN_SVC0_CODE c e)) ∧
  (∀ (e : Fin 128) (w : Word) (s : State),
    s.on TEN_SVC0_EN e = true → Tab.sorted s.regs = true → Tab.sorted s.ten.inbox = true → Tab.sorted s.ten.edges = true → 
    ∃ t, exec (.serviceUnbind e w) s = .next t ∧ t.on TEN_SVC0_EN e = false ∧ t.rd TEN_SVC0_STATE e = svcIdle ∧ (t.inbox (s.svcEngine e)).any (fun x => x.1 == e) = false ∧ Tab.get t.ten.edges e [] = []) ∧
  (∀ (k : Fin 4) (c : Copy) (e : Nat) (s : State),
    s.sending (12 + k) = some c → s.copyEntry c = some e → s.rd TEN_SVC0_STATE e = svcActive → s.rd ENG_STAT_STATE (s.svcEngine e) = engRun → s.takesPacket e c.hdr.payload = true → (s.inbox (s.svcEngine e)).length < 16 → (s.completeSend (12 + k)).rd TEN_SVC0_TYPE e ≠ tyPhase → (s.completeSend (12 + k)).rd TEN_SVC0_TYPE e ≠ tyFabric → 
    exec (.engineDispatch k) s = .next ((s.completeSend (12 + k)).deliverEngine e c.hdr)) ∧
  (∀ (k : Fin 4) (c : Copy) (s : State),
    s.sending (12 + k) = some c → s.copyEntry c = none → 
    exec (.engineDispatch k) s = .next ((s.completeSend (12 + k)).sat TEN_CNT_COUNT 0)) ∧
  (∀ (k : Fin 4) (c : Copy) (e : Nat) (s : State),
    s.sending (12 + k) = some c → s.copyEntry c = some e → s.rd TEN_SVC0_STATE e = svcHalted → 
    exec (.engineDispatch k) s = .next ((s.completeSend (12 + k)).sat TEN_CNT_COUNT 1)) ∧
  (∀ (e : Fin 128) (payload : List Byte) (s : State),
    s.svcRuns e = true → s.sendSlot e ≠ 0 → 
    exec (.enginePacketSend e payload) s = .next (({ s with ten := { s.ten with outbox := Tab.put s.ten.outbox (s.svcEngine e / 4) (Tab.get s.ten.outbox (s.svcEngine e / 4) [] ++ [(e.val, payload)]) [] } } : State).flushCluster (s.svcEngine e / 4))) ∧
  (∀ (e : Fin 128) (payload : List Byte) (s : State),
    s.svcRuns e = false → 
    exec (.enginePacketSend e payload) s = .next s ∧ exec (.eventRecordSend e) s = .next s) ∧
  (∀ (e : Fin 128) (s : State),
    s.svcRuns e = true → s.rd TEN_SVC0_TYPE e = tyEvent → s.eventTake.svcRuns e = true → s.eventTake.rd TEN_SVC0_TYPE e = tyEvent → (Tab.get s.eventTake.ten.edges e []).isEmpty = false → 
    exec (.eventRecordSend e) s = .next (({ s.eventTake with ten := { s.eventTake.ten with edges := Tab.put s.eventTake.ten.edges e ((Tab.get s.eventTake.ten.edges e []).drop 64) [], evSeq := Tab.put s.eventTake.ten.evSeq e (wrapAdd 16 (Tab.get s.eventTake.ten.evSeq e 0) ((Tab.get s.eventTake.ten.edges e []).take 64).length) 0 } } : State).engineSend e (State.stampRecords ((Tab.get s.eventTake.ten.edges e []).take 64) (Tab.get s.eventTake.ten.evSeq e 0)))) ∧
  (∀ (e : Fin 128) (s : State),
    s.svcRuns e = true → s.rd TEN_SVC0_TYPE e = tyPhase → svWhole (s.cycleSamples e) (Tab.get s.ten.samples e []) = false ∨ s.rd CYC_CTRL_SRC ≠ 2 → 
    exec (.svCycleComplete e) s = .next { s with ten := { s.ten with samples := Tab.put s.ten.samples e [] [] } }) ∧
  (∀ (e : Fin 128) (s : State),
    s.svcRuns e = true → s.rd TEN_SVC0_TYPE e = tyPhase → svWhole (s.cycleSamples e) (Tab.get s.ten.samples e []) = true → s.rd CYC_CTRL_SRC = 2 → 
    ∀ u, u = (({ s with ten := { s.ten with samples := Tab.put s.ten.samples e [] [] } } : State).wrFree CYC_SV_SECLO_SEC_LO).wrFree CYC_SV_NS_NS → exec (.svCycleComplete e) s = .next ((u.free 16).2.svCommit ((u.free 16).2.rd TMU_STAT_STEPCNT * 2 ^ 16 + (u.free 16).1)))

/-- PING, STATS, QUIESCE and RESUME to a mailbox that is BUSY only store opcode and entry: the request is refused and counted. PING to a mailbox of a running engine that is not BUSY: BUSY is 1 with opcode 1, and the timeout of MBXTO milliseconds runs. STATS to a mailbox of a running engine that is not BUSY: BUSY is 1 with opcode 2 and the entry, and the timeout of MBXTO milliseconds runs. QUIESCE to a mailbox of a running engine that is not BUSY: BUSY is 1 with opcode 3 and the entry, and the timeout of MBXTO milliseconds runs. RESUME to a mailbox of a running engine that is not BUSY: BUSY is 1 with opcode 4 and the entry, and the timeout of MBXTO milliseconds runs. Where the engine does not run a request ends at once with HALTED. MAILBOX_TIMEOUT of a request whose time has passed: BUSY is 0, DONE 1, CODE TIMEOUT, and one response will come too late. MAILBOX_RESPONSE to PING: the response words are the version and capabilities of the image that runs, and the request ends with OK. To RESUME of a QUIESCED entry of that engine: the entry is ACTIVE and the request ends with OK. To QUIESCE of an ACTIVE entry of that engine with nothing in flight: the entry is QUIESCED and the request ends with OK. A response after a timeout is only counted. Each of these commands is shown to answer a next state with its own effect: ping, stats, quiesce, resume, mailboxTimeout, mailboxResponse. -/
def Obligations.Mailboxes : Prop :=
  (∀ (n : Fin 16) (m : Fin 2) (e : Fin 128) (s : State),
    s.on ENG_MBX_BUSY n m = true → 
    exec (.ping n m) s = .next (((s.wr ENG_MBX_OPCODE 1 n m).wr ENG_MBX_SVC 0 n m).sat TEN_CNT_COUNT 3) ∧ exec (.stats n m e) s = .next (((s.wr ENG_MBX_OPCODE 2 n m).wr ENG_MBX_SVC e n m).sat TEN_CNT_COUNT 3) ∧ exec (.quiesce n m e) s = .next (((s.wr ENG_MBX_OPCODE 3 n m).wr ENG_MBX_SVC e n m).sat TEN_CNT_COUNT 3) ∧ exec (.resume n m e) s = .next (((s.wr ENG_MBX_OPCODE 4 n m).wr ENG_MBX_SVC e n m).sat TEN_CNT_COUNT 3)) ∧
  (∀ (n : Fin 16) (m : Fin 2) (s : State),
    s.on ENG_MBX_BUSY n m = false → s.rd ENG_STAT_STATE n = engRun → Tab.sorted s.regs = true → 
    ∃ t, exec (.ping n m) s = .next t ∧ t.on ENG_MBX_BUSY n m = true ∧ t.rd ENG_MBX_OPCODE n m = 1 ∧ t.rd ENG_MBX_SVC n m = 0 ∧ Tab.get t.ten.req (2 * n + m) (0, 0) = (1, 0) ∧ t.deadline (.mailbox n m) = some (s.tmu.elapsed + s.rd ENG_CTRL_MBXTO n * 1000000 * 2 ^ 32)) ∧
  (∀ (n : Fin 16) (m : Fin 2) (e : Fin 128) (s : State),
    s.on ENG_MBX_BUSY n m = false → s.rd ENG_STAT_STATE n = engRun → Tab.sorted s.regs = true → 
    ∃ t, exec (.stats n m e) s = .next t ∧ t.on ENG_MBX_BUSY n m = true ∧ t.rd ENG_MBX_OPCODE n m = 2 ∧ t.rd ENG_MBX_SVC n m = e ∧ Tab.get t.ten.req (2 * n + m) (0, 0) = (2, e.val) ∧ t.deadline (.mailbox n m) = some (s.tmu.elapsed + s.rd ENG_CTRL_MBXTO n * 1000000 * 2 ^ 32)) ∧
  (∀ (n : Fin 16) (m : Fin 2) (e : Fin 128) (s : State),
    s.on ENG_MBX_BUSY n m = false → s.rd ENG_STAT_STATE n = engRun → Tab.sorted s.regs = true → 
    ∃ t, exec (.quiesce n m e) s = .next t ∧ t.on ENG_MBX_BUSY n m = true ∧ t.rd ENG_MBX_OPCODE n m = 3 ∧ t.rd ENG_MBX_SVC n m = e ∧ Tab.get t.ten.req (2 * n + m) (0, 0) = (3, e.val) ∧ t.deadline (.mailbox n m) = some (s.tmu.elapsed + s.rd ENG_CTRL_MBXTO n * 1000000 * 2 ^ 32)) ∧
  (∀ (n : Fin 16) (m : Fin 2) (e : Fin 128) (s : State),
    s.on ENG_MBX_BUSY n m = false → s.rd ENG_STAT_STATE n = engRun → Tab.sorted s.regs = true → 
    ∃ t, exec (.resume n m e) s = .next t ∧ t.on ENG_MBX_BUSY n m = true ∧ t.rd ENG_MBX_OPCODE n m = 4 ∧ t.rd ENG_MBX_SVC n m = e ∧ Tab.get t.ten.req (2 * n + m) (0, 0) = (4, e.val) ∧ t.deadline (.mailbox n m) = some (s.tmu.elapsed + s.rd ENG_CTRL_MBXTO n * 1000000 * 2 ^ 32)) ∧
  (∀ (n : Fin 16) (m : Fin 2) (e : Fin 128) (s : State),
    s.on ENG_MBX_BUSY n m = false → ((s.wr ENG_MBX_OPCODE 3 n m).wr ENG_MBX_SVC e n m).rd ENG_STAT_STATE n ≠ engRun → 
    exec (.quiesce n m e) s = .next (((s.wr ENG_MBX_OPCODE 3 n m).wr ENG_MBX_SVC e n m).mbxEnd n m .halted)) ∧
  (∀ (n : Fin 16) (m : Fin 2) (s : State),
    s.on ENG_MBX_BUSY n m = true → s.due (.mailbox n m) = true → Tab.sorted s.regs = true → 
    ∃ t, exec (.mailboxTimeout n m) s = .next t ∧ t.on ENG_MBX_BUSY n m = false ∧ t.on ENG_MBX_DONE n m = true ∧ t.rd ENG_MBX_CODE n m = MbxCode.timeout.code ∧ Tab.get t.ten.late (2 * n + m) 0 = Tab.get s.ten.late (2 * n + m) 0 + 1) ∧
  (∀ (n : Fin 16) (m : Fin 2) (s : State),
    s.rd ENG_STAT_STATE n = engRun → Tab.get s.ten.late (2 * n + m) 0 = 0 → s.on ENG_MBX_BUSY n m = true → m = 0 ∨ s.on ENG_MBX_BUSY n 0 = false → (Tab.get s.ten.req (2 * n + m) (0, 0)).1 = 1 → 
    exec (.mailboxResponse n m) s = .next ((s.setRsps n m [s.rd TEN_IMG_INFO_VERSION (Tab.get s.ten.img n 0), s.rd TEN_IMG_INFO_CAP (Tab.get s.ten.img n 0)]).mbxEnd n m .ok)) ∧
  (∀ (n : Fin 16) (m : Fin 2) (e : Nat) (s : State),
    s.rd ENG_STAT_STATE n = engRun → Tab.get s.ten.late (2 * n + m) 0 = 0 → s.on ENG_MBX_BUSY n m = true → m = 0 ∨ s.on ENG_MBX_BUSY n 0 = false → Tab.get s.ten.req (2 * n + m) (0, 0) = (4, e) → s.on TEN_SVC0_EN e = true → s.svcEngine e = n → s.rd TEN_SVC0_STATE e = svcQuiesced → 
    exec (.mailboxResponse n m) s = .next ((s.wr TEN_SVC0_STATE svcActive e).mbxEnd n m .ok)) ∧
  (∀ (n : Fin 16) (m : Fin 2) (e : Nat) (s : State),
    s.rd ENG_STAT_STATE n = engRun → Tab.get s.ten.late (2 * n + m) 0 = 0 → s.on ENG_MBX_BUSY n m = true → m = 0 ∨ s.on ENG_MBX_BUSY n 0 = false → Tab.get s.ten.req (2 * n + m) (0, 0) = (3, e) → s.inFlight e = false → s.on TEN_SVC0_EN e = true → s.svcEngine e = n → s.rd TEN_SVC0_STATE e = svcActive → 
    exec (.mailboxResponse n m) s = .next ((s.wr TEN_SVC0_STATE svcQuiesced e).mbxEnd n m .ok)) ∧
  (∀ (n : Fin 16) (m : Fin 2) (s : State),
    s.rd ENG_STAT_STATE n = engRun → Tab.get s.ten.late (2 * n + m) 0 > 0 → 
    exec (.mailboxResponse n m) s = .next { (s.sat TEN_CNT_COUNT 2) with ten := { s.ten with late := Tab.put s.ten.late (2 * n + m) (Tab.get s.ten.late (2 * n + m) 0 - 1) 0 } })

/-- SCRATCHPAD_ACCESS, one write by a master that holds the bank: the enabled bytes of the word are stored, every other byte of the scratchpad, every register and DRAM keep their value. One read of a word without an ECC error by a master that holds the bank, or by master 16: the word is the master's read result, and registers and scratchpad keep their value. A master that does not hold the bank, but for a read by master 16, is denied: DENY is set, DENYCNT advances, a read gives 0, and the scratchpad keeps its bytes. BANK_OWNER_WRITE by the owner or master 16, none pending and the new owner at most 21: PEND is 1 and the new rights wait; nothing else changes. By another, while one is pending, or with a larger owner, it is refused: ADMREJ is set. With master 16 writing in the same cycle, master 16's write is taken and the other refused. BANK_HANDOVER_DONE puts the waiting owner and shares in place and clears PEND; nothing else changes. Each of these commands is shown to answer a next state with its own effect: scratchpadAccess, bankOwnerWrite, bankHandoverDone. -/
def Obligations.ScratchpadBanks : Prop :=
  (∀ (b : Fin 32) (a : PadAccess) (s : State) (x : Nat),
    a.write = true → s.padAllowed b a = true → Tab.sorted s.pad = true → 
    ∃ t, exec (.scratchpadAccess b [a]) s = .next t ∧ Tab.get t.pad x none = (if State.padAddr b a.word ≤ x ∧ x < State.padAddr b a.word + 8 ∧ a.be.toNat.testBit (x - State.padAddr b a.word) = true then some (BitVec.ofNat 8 (a.data.toNat / 256 ^ (x - State.padAddr b a.word))) else Tab.get s.pad x none) ∧ t.regs = s.regs ∧ t.dram = s.dram) ∧
  (∀ (b : Fin 32) (a : PadAccess) (s : State),
    a.write = false → a.ecc = 0 → s.padAllowed b a = true → Tab.sorted s.bnk.read = true → 
    ∃ t, exec (.scratchpadAccess b [a]) s = .next t ∧ Tab.get t.bnk.read a.master 0 = ofLe (s.padBytes (State.padAddr b a.word) 8) ∧ t.regs = s.regs ∧ t.pad = s.pad) ∧
  (∀ (b : Fin 32) (a : PadAccess) (s : State),
    s.padAllowed b a = false → Tab.sorted s.bnk.read = true → 
    ∃ t, exec (.scratchpadAccess b [a]) s = .next t ∧ t.on BNK_MSTAT_DENY a.master = true ∧ t.pad = s.pad ∧ t.regs = ((s.wr BNK_MSTAT_DENY 1 a.master).sat BNK_MSTAT_DENYCNT a.master).regs ∧ (a.write = false → Tab.get t.bnk.read a.master 0 = 0)) ∧
  (∀ (b : Fin 32) (m : Fin 22) (w : Word) (s : State),
    m = 16 ∨ m.val = s.rd BNK_OWN_OWNER b → s.on BNK_OWN_PEND b = false → bitsOf w.toNat 28 24 ≤ 21 → bitsOf w.toNat 23 0 < 2 ^ 22 → 
    exec (.bankOwnerWrite b m w none) s = .next { s.wr BNK_OWN_PEND 1 b with bnk := { (s.wr BNK_OWN_PEND 1 b).bnk with next := Tab.put (s.wr BNK_OWN_PEND 1 b).bnk.next b (some (bitsOf w.toNat 28 24, bitsOf w.toNat 23 0)) none } }) ∧
  (∀ (b : Fin 32) (m : Fin 22) (w : Word) (s : State),
    m ≠ 16 ∧ m.val ≠ s.rd BNK_OWN_OWNER b ∨ s.on BNK_OWN_PEND b = true ∨ 21 < bitsOf w.toNat 28 24 → 
    exec (.bankOwnerWrite b m w none) s = .next (s.wr BNK_STAT_ADMREJ 1)) ∧
  (∀ (b : Fin 32) (m : Fin 22) (w v : Word) (s : State),
    s.on BNK_OWN_PEND b = false → bitsOf v.toNat 28 24 ≤ 21 → bitsOf v.toNat 23 0 < 2 ^ 22 → 
    ∃ t, exec (.bankOwnerWrite b m w (some v)) s = .next t ∧ t.on BNK_OWN_PEND b = true ∧ Tab.get t.bnk.next b none = some (bitsOf v.toNat 28 24, bitsOf v.toNat 23 0) ∧ t.on BNK_STAT_ADMREJ = true) ∧
  (∀ (b : Fin 32) (owner share : Nat) (s : State),
    Tab.get s.bnk.next b none = some (owner, share) → 
    exec (.bankHandoverDone b) s = .next { (((s.wr BNK_OWN_OWNER owner b).wr BNK_OWN_SHARE share b).wr BNK_OWN_PEND 0 b) with bnk := { s.bnk with next := Tab.put s.bnk.next b none none } })

/-- TUNNEL_OPEN_REQUEST while firmware runs, with two slots that take the OPENs: a terminus slot and a return slot are opened with the lower of the two versions (version 1 through a trunk in KL2) and both activated, the answer with the return slot's number is kept, and a packet on tunnel 0 goes to the origin's hub; that the return slot is activated at once (log entry 63) and the packet's bytes (free values, log entry 21) are the model's. TUNNEL_OPEN_ANSWER at an OPENING origin slot whose return tunnel has its terminus here: that terminus is its partner, it takes the lower version, and it is activated. At a slot that is not OPENING it changes nothing. HELLO_SEND while firmware runs, HELLO_INT x 100 ms after the last: the hello goes to the manager's function on tunnel 0, the sequence number advances, and the next is due one interval later. HELLO_RECEIVE at a manager, a valid hello of a hub of its own station not heard before and no manager: the 128 directory entries of that hub are written, present where the hello's bit says so, its identity is kept, and its silence counts from now. At a hub that is no manager neither a hello nor a loss changes anything. HELLO_LOSS at a manager for a hub of its own station, one interval with no hello over: each of the hub's entries that is not absent counts the missed interval, saturating, and is lost from LOSS missed intervals on. Each of these commands is shown to answer a next state with its own effect: tunnelOpenRequest, tunnelOpenAnswer, helloSend, helloReceive, helloLoss. -/
def Obligations.ManagementMessages : Prop :=
  (∀ (origin : BitVec 25) (o : Fin 253) (l : Fin 128) (proto ver : Fin 16) (cls : Fin 8) (port : Fin 32) (t u : Nat) (s s1 s2 : State),
    s.mgmtRuns = true → s.freeSlot 0 = some t → s.freeOrigin t origin.toNat = some u → s.fwOpen t ⟨true, origin.toNat, s.selfPrefix * 128 + l, proto, min ver (s.topVersion origin.toNat proto), cls, port, o, u⟩ = some s1 → s1.fwOpen u ⟨false, s.selfPrefix * 128 + l, origin.toNat, proto, min ver (s.topVersion origin.toNat proto), cls, 0, 0, t⟩ = some s2 → 
    ∀ s3, s3 = (s2.fwActivate t).fwActivate u → exec (.tunnelOpenRequest origin o l proto ver cls port) s = .next (({ s3 with fab := { s3.fab with answers := (origin.toNat, o.val, u, min ver.val (s.topVersion origin.toNat proto)) :: s3.fab.answers } } : State).sendFree (prefixOf origin.toNat * 128))) ∧
  (∀ (o u : Fin 253) (ver : Fin 16) (port : Fin 32) (t : Nat) (s : State),
    s.rd CTX3_STATE o = ctxOpening → s.on CTX2_DIR o = false → s.mgmtRuns = true → s.terminusOf (s.rd CTX1_DEST o) u = some t → 
    exec (.tunnelOpenAnswer o u ver port) s = .next (((s.wr CTX3_PARTNER t o).wr CTX2_VER (min ver (s.topVersion (s.rd CTX1_DEST o) (s.rd CTX2_PROTO o))) o).fwActivate o)) ∧
  (∀ (o u : Fin 253) (ver : Fin 16) (port : Fin 32) (s : State),
    s.rd CTX3_STATE o ≠ ctxOpening → 
    exec (.tunnelOpenAnswer o u ver port) s = .next s) ∧
  (∀ (sm : BitVec 25) (ready : BitVec 128) (s : State),
    s.mgmtRuns = true → s.armed .hello = false ∨ s.due .hello = true → 
    ∀ u, u = (s.sendTunnel0 sm.toNat (s.helloBytes ready.toNat)).arm .hello (s.rd FAB_ROLE_HELLO_INT * 100000000) → exec (.helloSend sm ready) s = .next { u with fab := { u.fab with helloSeq := wrapAdd 8 u.fab.helloSeq 1 } }) ∧
  (∀ (src : BitVec 25) (bytes : List Byte) (s : State),
    s.on FAB_ROLE_SM = true → s.mgmtRuns = true → bytes.length = 36 → ofBe (bytes.take 1) = 1 → addrValid src.toNat = true → stationOf src.toNat = s.rd FAB_SELF_STATION → Tab.get s.fab.heardId (prefixOf src.toNat) none = none → (ofBe ((bytes.drop 4).take 1)).testBit 0 = false → 
    ∃ t : State, exec (.helloReceive src bytes) s = .next { (t.arm (.silence (prefixOf src.toNat)) s.helloInt) with fab := { t.fab with heardId := Tab.put t.fab.heardId (prefixOf src.toNat) (some (ofBe ((bytes.drop 8).take 8))) none } } ∧ t = s.each (List.range 128) (fun s l => s.dramWrite (s.dirAddr (prefixOf src.toNat * 128 + l)) (s.dirEntry false ((ofBe ((bytes.drop (16 + l / 8)).take 1)).testBit (l % 8)) l (ofBe ((bytes.drop 32).take 4))))) ∧
  (∀ (src : BitVec 25) (bytes : List Byte) (pfx : BitVec 18) (s : State),
    s.on FAB_ROLE_SM = false → 
    exec (.helloReceive src bytes) s = .next s ∧ exec (.helloLoss pfx) s = .next s) ∧
  (∀ (pfx : BitVec 18) (s : State),
    s.on FAB_ROLE_SM = true → s.mgmtRuns = true → s.due (.silence pfx.toNat) = true → addrValid (pfx.toNat * 128) = true → stationOf (pfx.toNat * 128) = s.rd FAB_SELF_STATION → 
    exec (.helloLoss pfx) s = .next ((s.each (List.range 128) (fun s l => if (Memory.byte s.dram (s.dirAddr (pfx.toNat * 128 + l))).toNat % 4 = 0 then s else s.dramWrite (s.dirAddr (pfx.toNat * 128 + l)) (beBytes 1 (if satAdd 8 (Memory.byte s.dram (s.dirAddr (pfx.toNat * 128 + l) + 2)).toNat 1 ≥ s.rd FAB_ROLE_LOSS then 2 else (Memory.byte s.dram (s.dirAddr (pfx.toNat * 128 + l))).toNat % 4) ++ [Memory.byte s.dram (s.dirAddr (pfx.toNat * 128 + l) + 1)] ++ beBytes 1 (satAdd 8 (Memory.byte s.dram (s.dirAddr (pfx.toNat * 128 + l) + 2)).toNat 1)))).arm (.silence pfx.toNat) s.helloInt))

/-- OFFER_SEND on a trunk in SEAL whose OFFER is made, 1 s after the last: the same OFFER is sent again, and the next is due 1 s later. OFFER_RECEIVE with an OFFER of the peer, the own made: a chain that holds is answered by the PROOF of slot 0 (or, where slot 0 cannot sign, by an ABORT with its code), any other by an ABORT. PROOF_RECEIVE of a well-formed PROOF: one that verifies agrees the session secret from the ephemeral pair, another aborts with BADSIG. ABORT_RECEIVE of a well-formed ABORT ends the set-up; nothing else changes. After its end the set-up neither sends nor takes anything. CERTREQ_RECEIVE in DEPLOYED without a valid chain: a CERTBODY with the device identity and the public key of slot 0 goes to the sender. CHAIN_RECEIVE of two certificates there: a chain that does not hold or names another key is answered with code 0x40; another is stored and answered with 0, or with 0x41 where flash has no room or fails. Each of these commands is shown to answer a next state with its own effect: offerSend, offerReceive, proofReceive, abortReceive, certreqReceive, chainReceive. -/
def Obligations.SessionsAndCertification : Prop :=
  (∀ (t : Fin 4) (s : State),
    s.sessRuns t = true → (s.sess t).offer.isEmpty = false → (s.sess t).pair.isSome = true → s.armed (.offer t) = false ∨ s.due (.offer t) = true → 
    exec (.offerSend t) s = .next ((s.sessSend t (s.sess t).offer).arm (.offer t) 1000000000)) ∧
  (∀ (t : Fin 4) (bytes : List Byte) (s : State),
    s.sessRuns t = true → State.offerGood bytes = true → (s.sess t).offer.isEmpty = false → 
    exec (.offerReceive t bytes) s = .next (if s.chainOk (certsOf (bytes.getD 1 0).toNat (bytes.drop 132)) = true then (match (s.setSess t { s.sess t with peer := bytes }).pairSource 0 useSign useSign with | (s3, .ok) => (s3.free 384).2.sessSend t ([0xB2, 0, 0, 0] ++ padTo 96 (p384Sign ((s3.free 384).2.pairScalar 0) ((s3.free 384).2.proofDigest t (s3.free 384).2.selfPrefix) (s3.free 384).1)) | (s3, c) => s3.sessAbort t c.code) else s.sessAbort t 0x40)) ∧
  (∀ (t : Fin 4) (bytes : List Byte) (n : Nat) (s s1 : State),
    s.sessRuns t = true → (s.sess t).peer.isEmpty = false → (s.sess t).offer.isEmpty = false → bytes.length = 100 → bytes.take 4 = [0xB2, 0, 0, 0] → (s.sess t).pair = some n → s.pairSource n useEcdh useEcdh = (s1, .ok) → 
    exec (.proofReceive t bytes) s = .next (if p384Verify (certKey (((s.sess t).peer.drop 132).take 256)) (s.proofDigest t (s.peerPrefix t)) (bytes.drop 4) = true then s1.sessAgree t n else s.sessAbort t KeyCode.badSig.code)) ∧
  (∀ (t : Fin 4) (bytes : List Byte) (s : State),
    s.sessRuns t = true → bytes.length = 4 → bytes.getD 0 0 = 0xB3 → 
    exec (.abortReceive t bytes) s = .next (s.setSess t { s.sess t with ended := true })) ∧
  (∀ (t : Fin 4) (bytes : List Byte) (s : State),
    (s.sess t).ended = true → 
    exec (.offerSend t) s = .next s ∧ exec (.offerReceive t bytes) s = .next s ∧ exec (.proofReceive t bytes) s = .next s ∧ exec (.abortReceive t bytes) s = .next s) ∧
  (∀ (src : BitVec 25) (s s1 : State),
    s.certifies = true → s.pairSource 0 useSign useEcdh = (s1, .ok) → 
    exec (.certreqReceive src [0xC1, 0, 0, 0]) s = .next (s1.sendTunnel0 src.toNat ([0xC2, 0, 0, 0] ++ ascii "SCRC" ++ [1, 1, 0, 0] ++ beBytes 8 s1.devId ++ padTo 96 (p384Public (s1.pairScalar 0)) ++ List.replicate 48 0))) ∧
  (∀ (src : BitVec 25) (bytes : List Byte) (place : Nat) (ok : Bool) (s s1 : State),
    s.certifies = true → bytes.getD 0 0 = 0xC3 → (bytes.getD 1 0).toNat = 2 → ofBe ((bytes.drop 2).take 2) = 0 → bytes.length = 516 → s.pairSource 0 useSign useEcdh = (s1, .ok) → 
    exec (.chainReceive src bytes place ok) s = .next (if s1.chainOk (certsOf 2 (bytes.drop 4)) = true ∧ certKey ((certsOf 2 (bytes.drop 4)).headD []) = padTo 96 (p384Public (s1.pairScalar 0)) then (match s1.storeChain place (bytes.drop 4) with | some s2 => if ok = true then s2.sendTunnel0 src.toNat [0xC4, 0, 0, 0] else s1.sendTunnel0 src.toNat [0xC4, 0x41, 0, 0] | none => s1.sendTunnel0 src.toNat [0xC4, 0x41, 0, 0]) else s1.sendTunnel0 src.toNat [0xC4, 0x40, 0, 0]))

/-- HEAD_ENABLE, a write with EN 1 of a stopped head that sets no LOCK, whose timing, mode and bandwidth pass the checks and that waits for no DisplayPort training: the other fields are taken, EN is 1, CFGERR 0, the state RUN, and the tearing effect's timeout counts from now; nothing else changes. A write with EN 0 of a head with EN 1, OUT and CMD as they are, that leaves no LOCK: the other fields are taken, EN is 0, the state OFF with LOCKED and TEVALID 0, its cause withdrawn and no transfer under way; nothing else changes. DP_LINK_TRAINING that ends with no rate or no lanes: RATE and LANES read 0, CFGERR is DPTRAIN, the state ERROR. With a rate and lanes that give enough bandwidth, head 1 enabled: RATE and LANES show them (2 lanes at most on pin assignment D), the lanes are driven, CFGERR is 0 and the state RUN. HPD_LOW: HPD, RATE and LANES read 0 and the lanes are driven no more; nothing else changes. HPD_IRQ with HPD 1: RATE and LANES read 0 and the lanes are driven no more; nothing else changes. FRAME_START of a running video head without LOCK that no flip awaits: LOCKED is 0, the frame number advances, and the commit window is open; nothing else changes. WINDOW_CLOSE of a running head closes its commit window; nothing else changes. APPLY_POINT of a running head with no commit due: the window is closed, no surface turns, and DRAM keeps its bytes. With one software commit due: the coming frame is a flip, the background takes its new value where the commit has it, and DRAM keeps its bytes. FETCH_UNDERRUN of a running head whose fault is raised for this frame already: the late or damaged burst counts, and it is one that the frame does not show. The frame's first also raises fault 99 + h with the layer. SOFTWARE_COMMIT without a target on a running head in RUN, no layer or background of it pending, no layer to flip of a service, each layer to take valid: CODE is 0 and the commit waits for its frame. On a head that is not in RUN it is refused with OFF. TE_EDGE of a running command head with no transfer under way, the edge of its sense held for FILT: TEVALID is 1, the cause of a missing edge withdrawn, and a frame begins whose time is the edge's. TE_TIMEOUT of a running command head, TETO x 10 ms without an edge: TEVALID is 0, the loss counts and raises its cause, and own transfers start from now. Each of these commands is shown to answer a next state with its own effect: headEnable, dpLinkTraining, hpdLow, hpdIrq, frameStart, windowClose, applyPoint, fetchUnderrun, softwareCommit, teEdge, teTimeout. -/
def Obligations.DisplayHeads : Prop :=
  (∀ (h : Fin 2) (w : Word) (s t : State),
    s.on HD_CTRL_EN h = false → w.toNat.testBit 31 = true → (s.writeFields (s.on DSP_CTRL_LOCK) [HD_CTRL_LOCK, HD_CTRL_WIN] h 0 w.toNat).on HD_CTRL_LOCK h = false → t = ((s.writeFields (s.on DSP_CTRL_LOCK) [HD_CTRL_LOCK, HD_CTRL_WIN] h 0 w.toNat).when (decide (h = 1)) (·.writeField (s.on DSP_CTRL_LOCK) HD_CTRL_OUT h 0 w.toNat)).writeField (s.on DSP_CTRL_LOCK) HD_CTRL_CMD h 0 w.toNat → t.headFailure h = none → (t.on HD_CTRL_OUT h && !t.dsp.dpOn) = false → 
    exec (.headEnable h w) s = .next ((((t.arm (.te h) 0).wr HD_CTRL_EN 1 h).wr HD_STAT_CFGERR 0 h).wr HD_STAT_STATE 2 h)) ∧
  (∀ (h : Fin 2) (w : Word) (s : State),
    s.on HD_CTRL_EN h = true → w.toNat.testBit 31 = false → bitsOf w.toNat HD_CTRL_OUT.hi HD_CTRL_OUT.lo = s.rd HD_CTRL_OUT h → bitsOf w.toNat HD_CTRL_CMD.hi HD_CTRL_CMD.lo = s.rd HD_CTRL_CMD h → (s.writeFields (s.on DSP_CTRL_LOCK) [HD_CTRL_LOCK, HD_CTRL_WIN] h 0 w.toNat).on HD_CTRL_LOCK h = false → 
    exec (.headEnable h w) s = .next (((s.writeFields (s.on DSP_CTRL_LOCK) [HD_CTRL_LOCK, HD_CTRL_WIN] h 0 w.toNat).wr HD_CTRL_EN 0 h).headStop h)) ∧
  (∀ (rate lanes : Fin 4) (s : State),
    s.rd UPD_ALTSTAT_MODE = 1 → s.on HD_LINK_HPD 1 = true → s.on HD_CTRL_OUT 1 = true → s.fullPower = true → rate = 0 ∨ lanes = 0 → 
    exec (.dpLinkTraining rate lanes) s = .next (((((({ s with dsp := { s.dsp with dpOn := false } } : State)).wr HD_LINK_DPRATE 0 1).wr HD_LINK_DPLANES 0 1).wr HD_STAT_CFGERR 3 1).wr HD_STAT_STATE 3 1)) ∧
  (∀ (rate lanes : Fin 4) (s t : State),
    s.rd UPD_ALTSTAT_MODE = 1 → s.on HD_LINK_HPD 1 = true → s.on HD_CTRL_OUT 1 = true → s.fullPower = true → rate ≠ 0 → lanes ≠ 0 → t = { ((s.wr HD_LINK_DPRATE rate 1).wr HD_LINK_DPLANES (if s.rd UPD_ALTSTAT_PIN = 2 then min lanes.val 2 else lanes.val) 1) with dsp := { s.dsp with dpOn := true } } → t.bandwidthOk 1 = true → t.on HD_CTRL_EN 1 = true → 
    exec (.dpLinkTraining rate lanes) s = .next ((t.wr HD_STAT_CFGERR 0 1).wr HD_STAT_STATE 2 1)) ∧
  (∀ (s : State),
    exec .hpdLow s = .next (({ (s.wr HD_LINK_HPD 0 1) with dsp := { s.dsp with dpOn := false } } : State).wr HD_LINK_DPRATE 0 1 |>.wr HD_LINK_DPLANES 0 1)) ∧
  (∀ (s : State),
    s.on HD_LINK_HPD 1 = true → 
    exec .hpdIrq s = .next ((({ s with dsp := { s.dsp with dpOn := false } } : State).wr HD_LINK_DPRATE 0 1).wr HD_LINK_DPLANES 0 1)) ∧
  (∀ (h : Fin 2) (ago : Nat) (s : State),
    s.headRuns h = true → s.on HD_CTRL_CMD h = false → s.lockOn h = false → (Tab.get s.dsp.flip h false) = false → 
    exec (.frameStart h ago) s = .next { (s.wr HD_STAT_LOCKED 0 h).wr HD_FCOUNT_FRAME ((s.wr HD_STAT_LOCKED 0 h).rd HD_FCOUNT_FRAME h + 1) h with dsp := { s.dsp with closed := Tab.put s.dsp.closed h false false, under := Tab.put s.dsp.under h false false, missed := Tab.put s.dsp.missed h [] [] } }) ∧
  (∀ (h : Fin 2) (s : State),
    s.headRuns h = true → 
    exec (.windowClose h) s = .next { s with dsp := { s.dsp with closed := Tab.put s.dsp.closed h true false } }) ∧
  (∀ (h : Fin 2) (s : State),
    s.headRuns h = true → (s.softPend h).filter (fun c => diffFrame ((s.rd HD_FCOUNT_FRAME h + 1) % 2 ^ 32) c.due ≥ 0) = [] → s.dsp.svc = [] → 
    ∃ t, exec (.applyPoint h) s = .next t ∧ t.dsp.closed = Tab.put s.dsp.closed h true false ∧ t.dsp.active = s.dsp.active ∧ t.dsp.flip = s.dsp.flip ∧ t.dram = s.dram) ∧
  (∀ (h : Fin 2) (c : HeadCommit) (s : State),
    s.headRuns h = true → s.softPend h = [c] → diffFrame ((s.rd HD_FCOUNT_FRAME h + 1) % 2 ^ 32) c.due ≥ 0 → s.dsp.svc = [] → 
    ∃ t, exec (.applyPoint h) s = .next t ∧ t.dsp.flip = Tab.put s.dsp.flip h true false ∧ t.dsp.bg = (if c.bg then Tab.put s.dsp.bg h (s.rd HD_BG_RGB h) 0 else s.dsp.bg) ∧ t.dram = s.dram) ∧
  (∀ (h : Fin 2) (l : Fin 4) (y : Fin 4096) (k : Fin 64) (ecc : Bool) (s : State),
    s.headRuns h = true → Tab.get s.dsp.under h false = true → Tab.sorted s.regs = true → 
    ∃ t, exec (.fetchUnderrun h l y k ecc) s = .next t ∧ t.rd HD_CNT_COUNT h (if ecc then 2 else 1) = min (s.rd HD_CNT_COUNT h (if ecc then 2 else 1) + 1) (2 ^ HD_CNT_COUNT.width - 1) ∧ Tab.get t.dsp.missed h [] = (l.val, y.val, k.val) :: Tab.get s.dsp.missed h [] ∧ t.flt = s.flt) ∧
  (∀ (h : Fin 2) (l : Fin 4) (y : Fin 4096) (k : Fin 64) (ecc : Bool) (s : State),
    s.headRuns h = true → Tab.get s.dsp.under h false = false → 
    exec (.fetchUnderrun h l y k ecc) s = .next (({ s.sat HD_CNT_COUNT h (if ecc then 2 else 1) with dsp := { s.dsp with under := Tab.put s.dsp.under h true false, missed := Tab.put s.dsp.missed h ((l.val, y.val, k.val) :: Tab.get s.dsp.missed h []) [] } } : State).fault (99 + h) l)) ∧
  (∀ (h : Fin 2) (w : Word) (due : Nat) (late : Bool) (s : State),
    w.toNat.testBit 31 = true → w.toNat.testBit 29 = false → s.rd HD_STAT_STATE h = 2 → s.headRuns h = true → s.restricted = false → (List.range 4).all (fun l => !((bitsOf w.toNat 19 16 ||| bitsOf w.toNat 23 20).testBit l && s.on LY_STAT_PEND h l)) = true → (w.toNat.testBit 28 && s.on HD_COMMIT_BGPEND h) = false → (List.range 4).all (fun l => !((bitsOf w.toNat 23 20).testBit l && s.on LY_CTRL_OWNER h l)) = true → (List.range 4).all (fun l => !((bitsOf w.toNat 19 16).testBit l && !s.layerOk h l)) = true → s.commitDue h none = some (due, late) → 
    exec (.softwareCommit h w) s = .next ((s.wr HD_COMMIT_CODE 0 h).setSoft h (s.softPend h ++ [{ lmask := bitsOf w.toNat 19 16, flip := bitsOf w.toNat 23 20, bg := w.toNat.testBit 28, due := due, late := late, tgt := false }]))) ∧
  (∀ (h : Fin 2) (w : Word) (s : State),
    w.toNat.testBit 31 = true → s.rd HD_STAT_STATE h ≠ 2 → 
    exec (.softwareCommit h w) s = .next ((s.wr HD_STAT_CMTREJ 1 h).wr HD_COMMIT_CODE 6 h)) ∧
  (∀ (h : Fin 2) (fall : Bool) (ago : Nat) (s : State),
    s.headRuns h = true → s.on HD_CTRL_CMD h = true → s.on HD_TE_EDGE h = fall → ago ≥ s.rd HD_TE_FILT h * 100 * 2 ^ 32 → Tab.get s.dsp.teLast h none = none → Tab.get s.dsp.xfer h false = false → 
    ∀ u, u = ((s.arm (.te h) 0).wr HD_STAT_TEVALID 1 h).causeOff (101 + h) → exec (.teEdge h fall ago) s = .next (({ u with dsp := { u.dsp with teLast := Tab.put u.dsp.teLast h (some (s.tmu.elapsed - ago)) none, xfer := Tab.put u.dsp.xfer h true false } } : State).frameBegins h (u.rd HD_FCOUNT_FRAME h + 1) (Wide.ofUnits (s.tmu.tod.units - ago)))) ∧
  (∀ (h : Fin 2) (s : State),
    s.headRuns h = true → s.on HD_CTRL_CMD h = true → Tab.get s.flt.cause (101 + h.val) false = false → s.ran (.te h) (s.rd HD_TE_TETO h * 10000000) = true → 
    exec (.teTimeout h) s = .next (((({ s with dsp := { s.dsp with ownAt := Tab.put s.dsp.ownAt h s.tmu.elapsed 0 } } : State).wr HD_STAT_TEVALID 0 h).sat HD_CNT_COUNT h 5).causeOn (101 + h) 0))

/-- DISPLAY_TILE, the entry's next message a TILE of a layer that the service owns and that has no commit pending, its depth the layer's and its place inside the layer: after what a flip left to copy, its 256 pixels are written to the back surface, and no other byte of DRAM changes. DISPLAY_PALETTE, the next message a PALETTE of such a layer: each entry from its start on takes its alpha, red, green and blue; nothing else changes. DISPLAY_COMMIT, the next message a COMMIT without a target of a layer that the service owns and that is valid, on tunnel version 1 or 2: TPEND is 1, and the commit waits for its frame. A TILE whose bytes do not give its indices is discarded and counted. In a halted hub a COMMIT is refused with HALT. DISPLAY_ACK_SEND of an entry that runs: its oldest acknowledgement leaves as one packet. TILE_COPYBACK of a layer that a running entry serves: what the last flip left to copy is copied from the front to the back surface, then the messages held for it are served. DSTAT to a mailbox of a running engine that is not BUSY: BUSY is 1 with opcode 0x40 and the entry, and the timeout of MBXTO milliseconds runs. DCLR to a mailbox of a running engine that is not BUSY: BUSY is 1 with opcode 0x41 and the entry, and the timeout of MBXTO milliseconds runs. Each of these commands is shown to answer a next state with its own effect: displayTile, displayPalette, displayCommit, displayAckSend, tileCopyback, dstat, dclr. -/
def Obligations.DisplayService : Prop :=
  (∀ (e : Fin 128) (raw : List Byte) (m : DispMsg) (h : Nat) (ix : List Nat) (s s1 u : State),
    s.svcRuns e = true → s.rd TEN_SVC0_TYPE e = tyDisplay → (s.replay e).takeMessage e tyDisplay [1] (fun s => s.badMsg e) State.goodMsg = (s1, some raw) → m = State.parseMsg raw → h = s1.dispHead e → (s1.param e 1 1).testBit m.layer = true → s1.rd CTX1_DEST (s1.rd TEN_SVC1_RXSLOT e) % 8 = 0 → State.versionAllows (s1.rd CTX2_VER (s1.rd TEN_SVC1_RXSLOT e)) m = true → m.body.length ≤ 2048 → Tab.get s1.dsp.last (4 * h + m.layer) none = none → s1.svcPend h m.layer = none → m.ty = 1 → s1.on LY_CTRL_OWNER h m.layer = true → u = s1.copyBack h m.layer → u.tileIndices h m.layer m = some ix → m.dcode = u.rd LY_CTRL_DEPTH h m.layer → ofBe (m.body.take 2) < (u.rd LY_SIZE_W h m.layer + 15) / 16 → ofBe ((m.body.drop 2).take 2) < (u.rd LY_SIZE_H h m.layer + 15) / 16 → ix.length = 256 → ix.all (fun v => v < 2 ^ 2 ^ u.rd LY_CTRL_DEPTH h m.layer) = true → 
    ∃ t, exec (.displayTile e) s = .next t ∧ t.dram = (u.each (u.tilePixels h m.layer (ofBe (m.body.take 2)) (ofBe ((m.body.drop 2).take 2))) (fun s p => s.setPixel (u.backSurf h m.layer) (u.rd LY_STRIDE_STRIDE h m.layer) (u.rd LY_CTRL_DEPTH h m.layer) p.2.1 p.2.2 (ix.getD p.1 0))).dram) ∧
  (∀ (e : Fin 128) (raw : List Byte) (m : DispMsg) (h cnt : Nat) (s s1 : State),
    s.svcRuns e = true → s.rd TEN_SVC0_TYPE e = tyDisplay → (s.replay e).takeMessage e tyDisplay [2] (fun s => s.badMsg e) State.goodMsg = (s1, some raw) → m = State.parseMsg raw → h = s1.dispHead e → (s1.param e 1 1).testBit m.layer = true → s1.rd CTX1_DEST (s1.rd TEN_SVC1_RXSLOT e) % 8 = 0 → State.versionAllows (s1.rd CTX2_VER (s1.rd TEN_SVC1_RXSLOT e)) m = true → m.body.length ≤ 2048 → Tab.get s1.dsp.last (4 * h + m.layer) none = none → s1.svcPend h m.layer = none → m.ty = 2 → s1.on LY_CTRL_OWNER h m.layer = true → cnt = (m.body.getD 1 0).toNat + 1 → m.body.length = 4 + 4 * cnt → (m.body.getD 0 0).toNat + cnt ≤ 256 → 
    exec (.displayPalette e) s = .next (s1.each (List.range cnt) (fun s i => (((s.wr LY_PAL_ALPHA (m.body.getD (4 + 4 * i) 0).toNat h (256 * m.layer + (m.body.getD 0 0).toNat + i)).wr LY_PAL_RED (m.body.getD (4 + 4 * i + 1) 0).toNat h (256 * m.layer + (m.body.getD 0 0).toNat + i)).wr LY_PAL_GREEN (m.body.getD (4 + 4 * i + 2) 0).toNat h (256 * m.layer + (m.body.getD 0 0).toNat + i)).wr LY_PAL_BLUE (m.body.getD (4 + 4 * i + 3) 0).toNat h (256 * m.layer + (m.body.getD 0 0).toNat + i)))) ∧
  (∀ (e : Fin 128) (raw : List Byte) (m : DispMsg) (h due : Nat) (late : Bool) (s s1 u : State),
    s.svcRuns e = true → s.rd TEN_SVC0_TYPE e = tyDisplay → (s.replay e).takeMessage e tyDisplay [3] (fun s => s.badMsg e) State.goodMsg = (s1, some raw) → m = State.parseMsg raw → h = s1.dispHead e → (s1.param e 1 1).testBit m.layer = true → s1.rd CTX1_DEST (s1.rd TEN_SVC1_RXSLOT e) % 8 = 0 → State.versionAllows (s1.rd CTX2_VER (s1.rd TEN_SVC1_RXSLOT e)) m = true → m.body.length ≤ 2048 → Tab.get s1.dsp.last (4 * h + m.layer) none = none → s1.svcPend h m.layer = none → m.ty = 3 → u = s1.copyBack h m.layer → m.body.length = 16 → u.restricted = false → u.on LY_CTRL_OWNER h m.layer = true → u.layerOk h m.layer = true → u.commitDue h none = some (due, late) → s1.rd CTX2_VER (s1.rd TEN_SVC1_RXSLOT e) < 3 → 
    ∃ t c, exec (.displayCommit e) s = .next t ∧ t.on LY_STAT_TPEND h m.layer = true ∧ t.dsp.svc = Tab.put u.dsp.svc (4 * h + m.layer) (some c) none ∧ c.entry = e.val ∧ c.batch = m.batch ∧ c.due = due ∧ c.late = late ∧ c.tgt = false) ∧
  (∀ (e h : Nat) (m : DispMsg) (s : State),
    s.tileIndices h m.layer m = none → 
    s.tileMsg e h m = s.dispCount e 4) ∧
  (∀ (e h ver : Nat) (m : DispMsg) (s : State),
    m.body.length = 16 → s.restricted = true → 
    s.commitMsg e h ver m = s.refuseSvc e h 4 m (ver ≥ 2 && (m.body.getD 4 0).toNat.testBit 1)) ∧
  (∀ (e : Fin 128) (a : DispAck) (l : List DispAck) (s : State),
    Tab.get s.dsp.acks e [] = a :: l → s.svcRuns e = true → s.rd TEN_SVC0_TYPE e = tyDisplay → 
    exec (.displayAckSend e) s = .next (({ s with dsp := { s.dsp with acks := Tab.put s.dsp.acks e l [] } } : State).engineSend e (State.ackBytes a))) ∧
  (∀ (h : Fin 2) (l : Fin 4) (e : Nat) (s : State),
    (List.range 128).find? (fun e => s.svcRuns e && s.rd TEN_SVC0_TYPE e == tyDisplay && s.dispHead e == h.val && (s.param e 1 1).testBit l) = some e → 
    exec (.tileCopyback h l) s = .next ((s.copyBack h l).replay e)) ∧
  (∀ (n : Fin 16) (m : Fin 2) (e : Fin 128) (s : State),
    s.on ENG_MBX_BUSY n m = false → s.rd ENG_STAT_STATE n = engRun → Tab.sorted s.regs = true → 
    ∃ t, exec (.dstat n m e) s = .next t ∧ t.on ENG_MBX_BUSY n m = true ∧ t.rd ENG_MBX_OPCODE n m = 0x40 ∧ t.rd ENG_MBX_SVC n m = e ∧ Tab.get t.ten.req (2 * n + m) (0, 0) = (0x40, e.val) ∧ t.deadline (.mailbox n m) = some (s.tmu.elapsed + s.rd ENG_CTRL_MBXTO n * 1000000 * 2 ^ 32)) ∧
  (∀ (n : Fin 16) (m : Fin 2) (e : Fin 128) (s : State),
    s.on ENG_MBX_BUSY n m = false → s.rd ENG_STAT_STATE n = engRun → Tab.sorted s.regs = true → 
    ∃ t, exec (.dclr n m e) s = .next t ∧ t.on ENG_MBX_BUSY n m = true ∧ t.rd ENG_MBX_OPCODE n m = 0x41 ∧ t.rd ENG_MBX_SVC n m = e ∧ Tab.get t.ten.req (2 * n + m) (0, 0) = (0x41, e.val) ∧ t.deadline (.mailbox n m) = some (s.tmu.elapsed + s.rd ENG_CTRL_MBXTO n * 1000000 * 2 ^ 32))

/-- USB_ATTACH of a DETACHED port whose pull-up may go on (EN 1, USB-C attached as upstream, VBUS valid, full power): the state is POWERED and ATTEV set; nothing else changes. USB_DETACH of an attached port whose pull-up must go: the state is DETACHED, HS 0, ATTEV set, the hub's address and remote wake-up enable 0. USB_BUS_RESET of an attached port: the state is DEFAULT at the speed of the chirp, RSTEV set, both addresses and the remote wake-up enable 0. An ARM written in the cycle of the reset loses: the endpoint's code is ABORT and it is not armed. USB_SUSPEND of an attached port that is not suspended: the state is SUSPENDED, the state before it and its time are kept, SUSPEV set, and each NEAR port sends SUSPEND. USB_RESUME of a suspended port that drives no wake-up: the state before the suspend is back, RESUMEEV set, and each NEAR port sends RESUME. USB_REMOTE_WAKE with a wake source held, remote wake-up enabled and 5 ms of suspend over: K is driven for KTIME; nothing else changes. REMOTE_WAKE_END after KTIME, with no K of the host: RWKDONE is set and K is driven no more; nothing else changes. LOCAL_PORT_REQUEST to the hub, a bus that is reset and not suspended: SET_ADDRESS gives the hub its address, and the state ADDRESS, or DEFAULT for address 0; nothing else changes. SET_CONFIGURATION takes it to CONFIGURED or back to ADDRESS, and the remote wake-up feature is enabled or disabled; nothing else changes. To a LOCAL port, SET_FEATURE(POWER) powers it, CLEAR_FEATURE(POWER) takes its power and connection away, CLEAR_FEATURE(ENABLE) clears ENA; nothing else changes. With a device connected and enabled, SET_FEATURE(RESET) clears ENA and SUSP and starts the reset, SET_FEATURE(SUSPEND) sets SUSP; nothing else changes. SET_FEATURE(RESET) to port 5 with the function enabled resets the embedded function and cancels transfers into endpoint 0's buffer. PORT_MODE_WRITE of a powered port is refused: MODEREJ is set. PORT_MODE_WRITE of another mode (0 to 2) to an unpowered port, LOCK 0: the port takes the mode and its connection, eFuse and proxy state are cleared. PORT_CONNECT of a powered LOCAL port, the connection held for CONNDB: CONN is 1 at the device's speed, the connection change set, and it is a wake source of a suspended bus. PORT_DISCONNECT of a LOCAL port with a device: the port is empty, the connection change set, and it is a wake source. PORT_RESET_END of a LOCAL port after the reset time, with a high-speed device on a high-speed bus: ENA is 1 at high speed, and the reset change set. PORT_RESUME_END of a LOCAL port after 20 ms: SUSP is 0 and the suspend change set. FAR_DEVICE_REMOTE_WAKE of a suspended FAR port on tunnel version 2 or later that resumes not yet: the port resumes for 20 ms and a WAKE goes to the near hub. Each of these commands is shown to answer a next state with its own effect: usbAttach, usbDetach, usbBusReset, usbSuspend, usbResume, usbRemoteWake, remoteWakeEnd, localPortRequest, portModeWrite, portConnect, portDisconnect, portResetEnd, portResumeEnd, farDeviceRemoteWake. -/
def Obligations.UsbUpstreamAndPorts : Prop :=
  (∀ (s : State),
    s.rd USB_STAT_USTATE = 0 → s.pullUpOk = true → 
    exec .usbAttach s = .next ((s.wr USB_STAT_USTATE 1).wr USB_STAT_ATTEV 1)) ∧
  (∀ (s : State),
    s.rd USB_STAT_USTATE ≠ 0 → s.pullUpOk = false → Tab.sorted s.regs = true → 
    ∃ t, exec .usbDetach s = .next t ∧ t.rd USB_STAT_USTATE = 0 ∧ t.on USB_STAT_HS = false ∧ t.on USB_STAT_ATTEV = true ∧ t.rd USB_STAT_HUBADDR = 0 ∧ t.on USB_STAT_RWKEN = false) ∧
  (∀ (high : Bool) (s : State),
    s.rd USB_STAT_USTATE ≠ 0 → Tab.sorted s.regs = true → 
    ∃ t, exec (.usbBusReset high []) s = .next t ∧ t.rd USB_STAT_USTATE = 2 ∧ t.on USB_STAT_HS = high ∧ t.on USB_STAT_RSTEV = true ∧ t.rd USB_STAT_HUBADDR = 0 ∧ t.rd USB_STAT_FNADDR = 0 ∧ t.on USB_STAT_RWKEN = false) ∧
  (∀ (high : Bool) (k : Fin 16) (s : State),
    s.rd USB_STAT_USTATE ≠ 0 → 
    exec (.usbBusReset high [k]) s = .next (((s.busReset high).wr EP_STAT_CODE EpCode.abort.code k).dmaCancel)) ∧
  (∀ (s : State),
    s.rd USB_STAT_USTATE ≠ 0 → s.rd USB_STAT_USTATE ≠ 5 → 
    exec .usbSuspend s = .next (({ (s.wr USB_STAT_USTATE 5).wr USB_STAT_SUSPEV 1 with usb := { s.usb with before := s.rd USB_STAT_USTATE, suspAt := s.tmu.elapsed, wakeHeld := false } } : State).toNearPorts 2)) ∧
  (∀ (s : State),
    s.rd USB_STAT_USTATE = 5 → s.usb.driving = false → 
    exec .usbResume s = .next (({ (s.wr USB_STAT_USTATE s.usb.before).wr USB_STAT_RESUMEEV 1 with usb := { s.usb with wakeHeld := false, hostK := false } } : State).toNearPorts 3)) ∧
  (∀ (s : State),
    s.usb.wakeHeld = true → s.rd USB_STAT_USTATE = 5 → s.on USB_STAT_RWKEN = true → s.tmu.elapsed ≥ s.usb.suspAt + 5000000 * 2 ^ 32 → 
    exec (.usbRemoteWake 0) s = .next { (s.arm .usbWake (s.rd USB_TIMING_KTIME * 1000000)) with usb := { s.usb with driving := true, wakeHeld := false } }) ∧
  (∀ (s : State),
    s.usb.driving = true → s.usb.hostK = false → s.due .usbWake = true → 
    exec .remoteWakeEnd s = .next { (s.wr USB_STAT_RWKDONE 1) with usb := { s.usb with driving := false } }) ∧
  (∀ (a : BitVec 7) (s : State),
    2 ≤ s.rd USB_STAT_USTATE → s.rd USB_STAT_USTATE ≠ 5 → 
    exec (.localPortRequest 0 (.setAddress a) []) s = .next ((s.wr USB_STAT_HUBADDR a.toNat).wr USB_STAT_USTATE (if a.toNat = 0 then 2 else 3))) ∧
  (∀ (on : Bool) (s : State),
    3 ≤ s.rd USB_STAT_USTATE → s.rd USB_STAT_USTATE ≠ 5 → 
    exec (.localPortRequest 0 (.setConfiguration on) []) s = .next (s.wr USB_STAT_USTATE (if on then 4 else 3)) ∧ exec (.localPortRequest 0 (.remoteWake on) []) s = .next (s.wr USB_STAT_RWKEN (bit on))) ∧
  (∀ (n : Fin 6) (s : State),
    2 ≤ s.rd USB_STAT_USTATE → s.rd USB_STAT_USTATE ≠ 5 → n ≠ 0 → n ≠ 5 → s.portMode n = 0 → 
    exec (.localPortRequest n .setPower []) s = .next ((s.wr USB_PORT_PWR 1 (n - 1)).efuse n true) ∧ exec (.localPortRequest n .clearPower []) s = .next (s.portOff n) ∧ exec (.localPortRequest n .clearEnable []) s = .next (s.wr USB_PORT_ENA 0 (n - 1))) ∧
  (∀ (n : Fin 6) (s : State),
    2 ≤ s.rd USB_STAT_USTATE → s.rd USB_STAT_USTATE ≠ 5 → n ≠ 0 → n ≠ 5 → s.portMode n = 0 → s.on USB_PORT_CONN (n - 1) = true → s.on USB_PORT_ENA (n - 1) = true → 
    exec (.localPortRequest n .setReset []) s = .next ((((s.wr USB_PORT_ENA 0 (n - 1)).wr USB_PORT_SUSP 0 (n - 1)).setNear n { tag := (s.near n).tag }).resetBegins n) ∧ exec (.localPortRequest n .setSuspend []) s = .next (s.wr USB_PORT_SUSP 1 (n - 1))) ∧
  (∀ (s : State),
    2 ≤ s.rd USB_STAT_USTATE → s.rd USB_STAT_USTATE ≠ 5 → s.on USB_CTRL_FNEN = true → Tab.get s.usb.resetting 5 false = false → 
    exec (.localPortRequest 5 .setReset []) s = .next ((({ s with usb := { s.usb with port5 := withBit s.usb.port5 1 false } } : State).resetBegins 5).fnReset.dmaCancel)) ∧
  (∀ (n : Fin 4) (w : Word) (s : State),
    s.on USB_PORT_PWR n = true → 
    exec (.portModeWrite n w) s = .next ((s.writeField false USB_PORT_MODEREJ n 0 w.toNat).wr USB_PORT_MODEREJ 1 n)) ∧
  (∀ (n : Fin 4) (w : Word) (s : State),
    bitsOf w.toNat 31 30 ≠ s.rd USB_PORT_MODE n → s.on USB_CTRL_LOCK = false → s.on USB_PORT_PWR n = false → bitsOf w.toNat 31 30 ≠ 3 → 
    exec (.portModeWrite n w) s = .next (((s.writeField false USB_PORT_MODEREJ n 0 w.toNat).wr USB_PORT_MODE (bitsOf w.toNat 31 30) n).portOff (n + 1))) ∧
  (∀ (n : Fin 4) (low : Bool) (held : Nat) (s : State),
    s.on USB_PORT_PWR n = true → s.portMode (n + 1) = 0 → s.on USB_PORT_CONN n = false → held ≥ s.rd USB_TIMING_CONNDB * 1000000 * 2 ^ 32 → 
    exec (.portConnect n low held) s = .next ((((s.wr USB_PORT_CONN 1 n).wr USB_PORT_SPEED (bit low) n).portChange (n + 1) 0).wakeSource)) ∧
  (∀ (n : Fin 4) (s : State),
    s.on USB_PORT_CONN n = true → s.portMode (n + 1) = 0 → 
    exec (.portDisconnect n) s = .next (((s.portEmpty (n + 1)).portChange (n + 1) 0).wakeSource)) ∧
  (∀ (n : Fin 5) (speed : Fin 3) (s : State),
    Tab.get s.usb.resetting (n + 1) false = true → s.due (.usbReset (n + 1)) = true → n ≠ 4 → s.portMode (n + 1) = 0 → s.on USB_STAT_HS = true → speed = 2 → 
    exec (.portResetEnd n speed) s = .next ((((s.setResetting (n + 1) false).wr USB_PORT_ENA 1 n).wr USB_PORT_SPEED 2 n).portChange (n + 1) 4)) ∧
  (∀ (n : Fin 5) (s : State),
    Tab.get s.usb.resuming (n + 1) 0 ≠ 0 → s.due (.usbResume (n + 1)) = true → n ≠ 4 → s.portMode (n + 1) = 0 → 
    exec (.portResumeEnd n) s = .next (((s.setResuming (n + 1) 0).wr USB_PORT_SUSP 0 n).portChange (n + 1) 2)) ∧
  (∀ (n : Fin 4) (e : Nat) (s : State),
    s.portEntry (n + 1) = some e → s.portMode (n + 1) = 2 → s.on USB_PORT_SUSP n = true → 2 ≤ s.proxyVer e → Tab.get s.usb.resuming (n + 1) 0 = 0 → 
    exec (.farDeviceRemoteWake n) s = .next (((s.arm (.usbResume (n + 1)) 20000000).setResuming (n + 1) 2).sendFar (n + 1) .wake 0 false 0 0 0 false []))

/-- ENDPOINT_ENABLE of endpoint 1 to 15 with a transfer type of 2 or 3, its buffer in the endpoint memory, MPS within the limit and no overlap with an enabled endpoint: the fields are taken and EN is as written; nothing else changes. With EN 1 and MPS above the limit the other fields are taken, EN is 0, and the refusal is kept (the model keeps it beside the registers, log entry 69). ENDPOINT_ARM of a disabled endpoint gives DISABLED. Of an armed endpoint it gives BUSY. A length above the buffer gives LEN. ENDPOINT_ARM of an enabled endpoint 1 to 15 that is not armed, with a length within its buffer and MPS within the limit of the bus speed: ARMED is 1, CODE 0, length and zero-length option kept, no byte moved; nothing else changes. ENDPOINT_DISARM of an armed endpoint: ARMED is 0, COUNT the bytes moved, DONE 1, CODE ABORT, with the endpoint's interrupt. ENDPOINT_HALT sets HALT; nothing else changes. ENDPOINT_TOKEN, IN at an enabled, armed IN endpoint that is not halted, its whole length in one packet: the bytes of its buffer are sent with the toggle, the toggle flips, and the transfer ends with OK. OUT with the whole length at an OUT endpoint: the bytes are stored in its buffer and acknowledged, the toggle flips, and the transfer ends with OK. A token at an endpoint that is not armed: STALL, HALT and NRSTALL are set and it is counted. SETUP_RECEIVE of another request than SET_ADDRESS to an endpoint 0 that is not armed: HALT of endpoint 0 is 0, its toggle 1, the request is shown, SETUPEV set, and it is acknowledged. ENDPOINT_MEMORY_ACCESS of a word of no armed buffer reads it, or writes it; nothing else changes. Of a word of an armed buffer it is refused and counted; a read gives 0. Each of these commands is shown to answer a next state with its own effect: endpointEnable, endpointArm, endpointDisarm, endpointHalt, endpointToken, setupReceive, endpointMemoryAccess. -/
def Obligations.UsbEmbeddedFunction : Prop :=
  (∀ (k : Fin 16) (w : Word) (s s1 : State),
    k ≠ 0 → 2 ≤ bitsOf w.toNat 29 28 → s1 = (s.writeFields false [EP_CFG_DIR, EP_CFG_MPS, EP_CFG_BUFOFS, EP_CFG_BUFLEN] k 0 w.toNat).wr EP_CFG_XTYPE (bitsOf w.toNat 29 28) k → (s1.rd EP_CFG_BUFOFS k + s1.rd EP_CFG_BUFLEN k > 256 || s1.rd EP_CFG_MPS k > s1.mpsLimit k true || (List.range 16).any (fun j => j != k.val && s1.on EP_CFG_EN j && s1.epOverlap k j)) = false → 
    exec (.endpointEnable k w) s = .next (s1.wr EP_CFG_EN (bit (w.toNat.testBit 31)) k)) ∧
  (∀ (k : Fin 16) (w : Word) (s s1 : State),
    k ≠ 0 → 2 ≤ bitsOf w.toNat 29 28 → s1 = (s.writeFields false [EP_CFG_DIR, EP_CFG_MPS, EP_CFG_BUFOFS, EP_CFG_BUFLEN] k 0 w.toNat).wr EP_CFG_XTYPE (bitsOf w.toNat 29 28) k → w.toNat.testBit 31 = true → s1.rd EP_CFG_MPS k > s1.mpsLimit k true → 
    exec (.endpointEnable k w) s = .next { (s1.wr EP_CFG_EN 0 k) with usb := { s1.usb with cfgRej := Tab.put s1.usb.cfgRej k true false } }) ∧
  (∀ (k : Fin 16) (w : Word) (s : State),
    s.on EP_CFG_EN k = false → 
    exec (.endpointArm k w) s = .next (s.wr EP_STAT_CODE EpCode.disabled.code k)) ∧
  (∀ (k : Fin 16) (w : Word) (s : State),
    s.on EP_CFG_EN k = true → s.on EP_STAT_ARMED k = true → 
    exec (.endpointArm k w) s = .next (s.wr EP_STAT_CODE EpCode.busy.code k)) ∧
  (∀ (k : Fin 16) (w : Word) (s : State),
    s.on EP_CFG_EN k = true → s.on EP_STAT_ARMED k = false → bitsOf w.toNat 13 0 > s.rd EP_CFG_BUFLEN k * 64 → 
    exec (.endpointArm k w) s = .next (s.wr EP_STAT_CODE EpCode.len.code k)) ∧
  (∀ (k : Fin 16) (w : Word) (s : State),
    s.on EP_CFG_EN k = true → s.on EP_STAT_ARMED k = false → bitsOf w.toNat 13 0 ≤ s.rd EP_CFG_BUFLEN k * 64 → s.rd EP_CFG_MPS k ≤ s.mpsLimit k (s.on USB_STAT_HS) → k ≠ 0 → 
    exec (.endpointArm k w) s = .next { (s.wr EP_STAT_ARMED 1 k).wr EP_STAT_CODE 0 k with usb := { s.usb with armLen := Tab.put s.usb.armLen k (bitsOf w.toNat 13 0) 0, armZlp := Tab.put s.usb.armZlp k (w.toNat.testBit 15) false, armIn := Tab.put s.usb.armIn k (((s.wr EP_STAT_ARMED 1 k).wr EP_STAT_CODE 0 k).on EP_CFG_DIR k) false, moved := Tab.put s.usb.moved k 0 0 } }) ∧
  (∀ (k : Fin 16) (s : State),
    s.on EP_STAT_ARMED k = true → 
    exec (.endpointDisarm k) s = .next ((((((s.wr EP_STAT_ARMED 0 k).wr EP_STAT_COUNT (Tab.get s.usb.moved k 0) k).wr EP_STAT_DONE 1 k).wr EP_STAT_CODE EpCode.abort.code k)).irq (12 + k) k ((((s.wr EP_STAT_ARMED 0 k).wr EP_STAT_COUNT (Tab.get s.usb.moved k 0) k).wr EP_STAT_DONE 1 k).wr EP_STAT_CODE EpCode.abort.code k |>.epStat k))) ∧
  (∀ (k : Fin 16) (s : State),
    exec (.endpointHalt k) s = .next (s.wr EP_STAT_HALT 1 k)) ∧
  (∀ (k : Fin 16) (data : List Byte) (s : State),
    s.fnReached = true → k ≠ 0 → s.on EP_CFG_EN k = true → s.on EP_CFG_DIR k = true → s.on EP_STAT_HALT k = false → s.on EP_STAT_ARMED k = true → Tab.get s.usb.moved k 0 = 0 → Tab.get s.usb.armLen k 0 ≤ s.rd EP_CFG_MPS k → Tab.get s.usb.armZlp k false = false → 
    exec (.endpointToken k true data) s = .next ((((s.usbAnswer (.data (s.on EP_STAT_TOGGLE k) (Memory.read s.usb.mem (s.rd EP_CFG_BUFOFS k * 64) (Tab.get s.usb.armLen k 0)))).epFlip k).epMove k (Tab.get s.usb.armLen k 0)).epEnd k .ok)) ∧
  (∀ (k : Fin 16) (data : List Byte) (s : State),
    s.fnReached = true → k ≠ 0 → s.on EP_CFG_EN k = true → s.on EP_CFG_DIR k = false → s.on EP_STAT_HALT k = false → s.on EP_STAT_ARMED k = true → Tab.get s.usb.moved k 0 = 0 → data.length = Tab.get s.usb.armLen k 0 → 
    exec (.endpointToken k false data) s = .next (({ ((s.usbAnswer .ack).epFlip k).epMove k data.length with usb := { (((s.usbAnswer .ack).epFlip k).epMove k data.length).usb with mem := Memory.write s.usb.mem (s.rd EP_CFG_BUFOFS k * 64) data } } : State).epEnd k .ok)) ∧
  (∀ (k : Fin 16) (isIn : Bool) (data : List Byte) (s : State),
    s.fnReached = true → k ≠ 0 → s.on EP_CFG_EN k = true → s.on EP_CFG_DIR k = isIn → s.on EP_STAT_HALT k = false → s.on EP_STAT_ARMED k = false → 
    exec (.endpointToken k isIn data) s = .next ((((s.wr EP_STAT_HALT 1 k).wr EP_STAT_NRSTALL 1 k).sat USB_CNT_COUNT 0).usbAnswer .stall)) ∧
  (∀ (b : BitVec 64) (rt rq v ix : Nat) (s : State),
    s.fnReached = true → setupFields (leBytes 8 b.toNat) = (rt, rq, v, ix) → ¬ (rt = 0 ∧ rq = 5) → rt ≠ 2 → s.on EP_STAT_ARMED 0 = false → 
    exec (.setupReceive b false false) s = .next (({ (((s.wr EP_STAT_HALT 0 0).wr EP_STAT_TOGGLE 1 0).wr USB_SETUP_LO_SETUP_LO (ofLe ((leBytes 8 b.toNat).take 4))).wr USB_SETUP_HI_SETUP_HI (ofLe (((leBytes 8 b.toNat).drop 4).take 4)) with usb := { s.usb with ctl := some (leBytes 8 b.toNat), hw := false, newAddr := none, answer := .ack } } : State).wr USB_STAT_SETUPEV 1)) ∧
  (∀ (o : Fin 4096) (w : Word) (s : State),
    s.memBusy (4 * o) = false → 
    exec (.endpointMemoryAccess o none) s = .next { s with readWord := ofLe (Memory.read s.usb.mem (4 * o) 4) } ∧ exec (.endpointMemoryAccess o (some w)) s = .next { s with usb := { s.usb with mem := Memory.write s.usb.mem (4 * o) (leBytes 4 w.toNat) } }) ∧
  (∀ (o : Fin 4096) (w : Word) (s : State),
    s.memBusy (4 * o) = true → 
    exec (.endpointMemoryAccess o none) s = .next { (s.sat USB_CNT_COUNT 8) with readWord := 0 } ∧ exec (.endpointMemoryAccess o (some w)) s = .next (s.sat USB_CNT_COUNT 8))

/-- NEAR_PORT_REQUEST of a NEAR port on a bus that is not detached or suspended: POWER is set and its command sent; POWER is cleared, its command sent and the port's state cleared; RESET starts a new epoch with nothing pending, clears SUSP and sends its command, whose PORTACK is awaited. START_SPLIT of a control or bulk endpoint at a connected, enabled NEAR port of a running service that takes more, with fewer than two transactions waiting: it is acknowledged, waits under a fresh tag, and its XFER is sent. With two waiting it gets NAK. COMPLETE_SPLIT of such a transaction: NYET while its RESULT has not come, else the RESULT is delivered once and the transaction is gone. RESULT_RECEIVE, the next message a RESULT of the present epoch for a control or bulk transaction that waits: its code and data are kept for the complete-split and counted; the silence timeout starts anew. XFER_RTO of a control or bulk transaction whose RTO has passed and whose RETRY is used up: it is counted and ends with the code ERROR. With RETRY left it is counted, its RTO starts anew, and the same XFER is sent again. PERIODIC_RECEIVE, a PERIODIC of the present epoch not taken before, with data, fewer than four reports waiting, on tunnel version 1: the report joins its endpoint's queue, its tag is remembered and it is counted. PORTACK_RECEIVE, the PORTACK of a RESET that is awaited, OK with the far port enabled: ENA is 1 at the speed told, the reset change set, and nothing more is awaited. PORTCMD_TIMEOUT of a RESET whose PORTACK has not come in its time: ENA is 0 and the reset change set. PORTSTAT_RECEIVE, a PORTSTAT with a device on a high-speed bus, at a NEAR port that shows none: CONN is 1 at the speed told, the connection change set, and it is a wake source. PROXY_SILENCE of a NEAR port with a device, nothing received for 350 ms: the device is gone, and the loss counted twice, in the hub and for the entry. WAKE_RECEIVE at a suspended NEAR port: SUSP is 0, the suspend change set, and it is a wake source. Each of these commands is shown to answer a next state with its own effect: nearPortRequest, startSplit, completeSplit, resultReceive, xferRto, periodicReceive, portackReceive, portcmdTimeout, portstatReceive, proxySilence, wakeReceive. -/
def Obligations.UsbProxyNear : Prop :=
  (∀ (n : Fin 4) (s : State),
    s.portMode (n + 1) = 1 → 2 ≤ s.rd USB_STAT_USTATE → s.rd USB_STAT_USTATE ≤ 4 → 
    exec (.nearPortRequest n .setPower) s = .next ((s.wr USB_PORT_PWR 1 n).sendCmd (n + 1) 4) ∧ exec (.nearPortRequest n .clearPower) s = .next ((s.sendCmd (n + 1) 5).portOff (n + 1)) ∧ exec (.nearPortRequest n .setReset) s = .next ((((s.setNear (n + 1) { epoch := ((s.near (n + 1)).epoch + 1) % 256, tag := (s.near (n + 1)).tag, cmd := some 1, dead := (s.near (n + 1)).dead }).wr USB_PORT_SUSP 0 n).awaitAck (n + 1)).sendCmd (n + 1) 1)) ∧
  (∀ (n : Fin 4) (ep : Fin 16) (pid : UsbPid) (xt : Fin 4) (data : List Byte) (s : State),
    s.splitOk (n + 1) = true → s.proxyRuns (n + 1) = true → s.proxyTakes (n + 1) = true → s.ttOk (n + 1) = false → xt = 0 ∨ xt = 2 → ((s.near (n + 1)).pend.filter (fun x => !s.asInterrupt (n + 1) x.xt)).length < 2 → 
    exec (.startSplit n ep pid xt data) s = .next ((s.sendXfer (n + 1) ep pid xt data).usbAnswer .ack)) ∧
  (∀ (n : Fin 4) (ep : Fin 16) (pid : UsbPid) (xt : Fin 4) (data : List Byte) (s : State),
    s.splitOk (n + 1) = true → s.proxyRuns (n + 1) = true → s.ttOk (n + 1) = false → xt = 0 ∨ xt = 2 → ¬ ((s.near (n + 1)).pend.filter (fun x => !s.asInterrupt (n + 1) x.xt)).length < 2 → 
    exec (.startSplit n ep pid xt data) s = .next (s.usbAnswer .nak)) ∧
  (∀ (n : Fin 4) (ep : Fin 16) (pid : UsbPid) (xt : Fin 4) (x : ProxyXfer) (s : State),
    s.splitOk (n + 1) = true → s.proxyRuns (n + 1) = true → s.ttOk (n + 1) = false → xt = 0 ∨ xt = 2 → (s.near (n + 1)).pend.find? (fun x => x.ep == ep.val && x.pid == pid) = some x → 
    exec (.completeSplit n ep pid xt) s = .next (match x.result with | none => s.usbAnswer .nyet | some r => (s.setNear (n + 1) { s.near (n + 1) with pend := (s.near (n + 1)).pend.erase x }).nearDeliver (n + 1) x r.1 r.2)) ∧
  (∀ (e : Fin 128) (raw : List Byte) (n : Nat) (m : ProxyMsg) (x : ProxyXfer) (s s1 u : State),
    s.takeMessage e tyUsb [4] (fun s => s.proxyBad e) (s.goodProxy e) = (s1, some raw) → m = parseProxy raw → u = s1.when (s.param e 0 1 = 0) (fun t => t.arm (.proxy (t.proxyPort e)) 350000000) → n = u.proxyPort e → ¬ diffEpoch m.epoch (u.near n).epoch < 0 → (u.near n).pend.find? (fun x => x.tag == m.tag && x.result.isNone) = some x → u.asInterrupt n x.xt = false → 
    exec (.resultReceive e) s = .next ((u.proxyCount e 0).setNear n { u.near n with pend := (u.near n).pend.map (fun y => if y.tag == x.tag then { y with result := some (m.code, m.body) } else y) })) ∧
  (∀ (n : Fin 4) (tag : Byte) (e : Nat) (x : ProxyXfer) (s : State),
    s.portEntry (n + 1) = some e → (s.near (n + 1)).pend.find? (fun x => x.tag == tag.toNat && x.result.isNone) = some x → s.svcRuns e = true → s.due (.xfer (n + 1) tag.toNat) = true → ¬ x.tries < s.proxyRetry e → 
    exec (.xferRto n tag) s = .next (((s.sat USB_CNT_COUNT 3).proxyCount e 2).nearResult (n + 1) e x 4 [])) ∧
  (∀ (n : Fin 4) (tag : Byte) (e : Nat) (x : ProxyXfer) (s : State),
    s.portEntry (n + 1) = some e → (s.near (n + 1)).pend.find? (fun x => x.tag == tag.toNat && x.result.isNone) = some x → s.svcRuns e = true → s.due (.xfer (n + 1) tag.toNat) = true → x.tries < s.proxyRetry e → 
    exec (.xferRto n tag) s = .next (((((s.setNear (n + 1) { s.near (n + 1) with pend := (s.near (n + 1)).pend.map (fun y => if y.tag == tag.toNat then { y with tries := y.tries + 1 } else y) }).sat USB_CNT_COUNT 2).proxyCount e 1).armXfer (n + 1) tag.toNat).sendNear (n + 1) .xfer x.ep x.pid.isIn x.xt x.tag x.pid.code x.tog x.data)) ∧
  (∀ (e : Fin 128) (raw : List Byte) (n : Nat) (m : ProxyMsg) (s s1 u : State),
    s.takeMessage e tyUsb [5] (fun s => s.proxyBad e) (s.goodProxy e) = (s1, some raw) → m = parseProxy raw → u = s1.when (s.param e 0 1 = 0) (fun t => t.arm (.proxy (t.proxyPort e)) 350000000) → n = u.proxyPort e → ¬ diffEpoch m.epoch (u.near n).epoch < 0 → (u.near n).perTags.contains (m.ep, m.tag) = false → m.code = 3 → (Tab.get (u.near n).reports m.ep []).length < 4 → u.proxyVer e < 2 → 
    exec (.periodicReceive e) s = .next ((let t := (u.setNear n { u.near n with reports := Tab.put (u.near n).reports m.ep (Tab.get (u.near n).reports m.ep [] ++ [m.body]) [] }).proxyCount e 3; t.setNear n { t.near n with perTags := ((m.ep, m.tag) :: (t.near n).perTags).take 128 }))) ∧
  (∀ (e : Fin 128) (raw : List Byte) (n : Nat) (m : ProxyMsg) (s s1 u : State),
    s.takeMessage e tyUsb [6] (fun s => s.proxyBad e) (s.goodProxy e) = (s1, some raw) → m = parseProxy raw → u = s1.when (s.param e 0 1 = 0) (fun t => t.arm (.proxy (t.proxyPort e)) 350000000) → n = u.proxyPort e → ¬ diffEpoch m.epoch (u.near n).epoch < 0 → (u.near n).cmd = some 1 → m.code = 0 → (ofBe m.body).testBit 3 = true → 
    exec (.portackReceive e) s = .next ((((u.setNear n { u.near n with cmd := none }).wr USB_PORT_ENA 1 (n - 1)).wr USB_PORT_SPEED (bit ((ofBe m.body).testBit 1)) (n - 1)).portChange n 4)) ∧
  (∀ (n : Fin 4) (e : Nat) (s : State),
    (s.near (n + 1)).cmd = some 1 → s.portEntry (n + 1) = some e → s.svcRuns e = true → s.due (.portcmd (n + 1)) = true → 
    exec (.portcmdTimeout n) s = .next (((s.setNear (n + 1) { s.near (n + 1) with cmd := none }).wr USB_PORT_ENA 0 n).portChange (n + 1) 4)) ∧
  (∀ (e : Fin 128) (raw : List Byte) (n : Nat) (m : ProxyMsg) (s s1 u : State),
    s.takeMessage e tyUsb [1] (fun s => s.proxyBad e) (s.goodProxy e) = (s1, some raw) → m = parseProxy raw → u = s1.when (s.param e 0 1 = 0) (fun t => t.arm (.proxy (t.proxyPort e)) 350000000) → n = u.proxyPort e → (ofBe m.body).testBit 0 = true → u.on USB_STAT_HS = true → (ofBe m.body).testBit 2 = u.on USB_PORT_OC (n - 1) → u.on USB_PORT_CONN (n - 1) = false → 
    exec (.portstatReceive e) s = .next ((((u.wr USB_PORT_CONN 1 (n - 1)).wr USB_PORT_SPEED (bit ((ofBe m.body).testBit 1)) (n - 1)).portChange n 0).wakeSource)) ∧
  (∀ (n : Fin 4) (e : Nat) (s : State),
    s.portMode (n + 1) = 1 → s.on USB_PORT_CONN n = true → s.due (.proxy (n + 1)) = true → ((s.nearGone (n + 1)).sat USB_CNT_COUNT 3).portEntry (n + 1) = some e → 
    exec (.proxySilence n) s = .next (((s.nearGone (n + 1)).sat USB_CNT_COUNT 3).proxyCount e 2)) ∧
  (∀ (e : Fin 128) (raw : List Byte) (n : Nat) (m : ProxyMsg) (s s1 u : State),
    s.takeMessage e tyUsb [8] (fun s => s.proxyBad e) (s.goodProxy e) = (s1, some raw) → m = parseProxy raw → u = s1.when (s.param e 0 1 = 0) (fun t => t.arm (.proxy (t.proxyPort e)) 350000000) → n = u.proxyPort e → u.on USB_PORT_SUSP (n - 1) = true → (u.near n).cmd = none → 
    exec (.wakeReceive e) s = .next (((u.wr USB_PORT_SUSP 0 (n - 1)).portChange n 2).wakeSource))

/-- XFER_RECEIVE, the next message an XFER of no earlier epoch, the first of its endpoint, at a FAR port with a device: it waits to be run against the device; nothing else changes. DEVICE_TRANSACTION_DONE, ACK to the oldest waiting transaction of a FAR port, a bulk OUT: it is done, the toggle of its endpoint flips, and its RESULT is kept and sent. SOF_SEND of an enabled FAR port that is not suspended: the frame number advances, modulo 2,048; nothing else changes. INTERRUPT_POLL of a polled endpoint whose interval has passed, fewer than four reports waiting: the time of the poll is kept; data is sent as a PERIODIC and flips the toggle, NAK sends nothing. With four waiting the poll is only counted. PERACK_RECEIVE removes the report with its tag from the endpoint's queue; nothing else changes. PERIODIC_RTO of a report whose RTO has passed and whose RETRY is used up: the report is given up and counted in the hub and for the entry. PORTCMD_RECEIVE of POWERON: the port is powered through its eFuse, and where that changes the port's status a PORTSTAT is sent. Of DISABLE: ENA is 0, with a PORTSTAT where that changes the status. PORTSTAT_SEND of a FAR port that an entry serves: its PORTSTAT is sent. USTAT to a mailbox of a running engine that is not BUSY: BUSY is 1 with opcode 0x40 and the entry, and the timeout of MBXTO milliseconds runs. UCLR to a mailbox of a running engine that is not BUSY: BUSY is 1 with opcode 0x41 and the entry, and the timeout of MBXTO milliseconds runs. Each of these commands is shown to answer a next state with its own effect: xferReceive, deviceTransactionDone, sofSend, interruptPoll, perackReceive, periodicRto, portcmdReceive, portstatSend, ustat, uclr. -/
def Obligations.UsbProxyFar : Prop :=
  (∀ (e : Fin 128) (raw : List Byte) (n : Nat) (m : ProxyMsg) (pid : UsbPid) (s s1 u : State),
    s.takeMessage e tyUsb [3] (fun s => s.proxyBad e) (s.goodProxy e) = (s1, some raw) → s.param e 0 1 ≠ 0 → m = parseProxy raw → n = s1.proxyPort e → ¬ diffEpoch m.epoch (s1.far n).epoch < 0 → u = s1.farEpoch n m.epoch → pidOf m.code = some pid → Tab.get (u.far n).last (epDir m.ep m.isIn) none = none → (u.far n).run = [] → u.on USB_PORT_CONN (n - 1) = true → 
    exec (.xferReceive e) s = .next (u.setFar n { u.far n with run := [{ tag := m.tag, ep := m.ep, pid := pid, xt := m.xt, data := m.body }] })) ∧
  (∀ (n : Fin 4) (e : Nat) (x : ProxyXfer) (l : List ProxyXfer) (s : State),
    s.portEntry (n + 1) = some e → (s.far (n + 1)).run = x :: l → s.svcRuns e = true → s.portMode (n + 1) ≠ 0 → x.xt = 2 → x.pid = .out → 
    exec (.deviceTransactionDone n .ack) s = .next ((s.setFar (n + 1) { s.far (n + 1) with run := l, tog := Tab.put (s.far (n + 1)).tog (2 * x.ep) (!Tab.get (s.far (n + 1)).tog (2 * x.ep) false) false }).farResult (n + 1) e x 0 [])) ∧
  (∀ (n : Fin 4) (s : State),
    s.portMode (n + 1) = 2 → s.on USB_PORT_ENA n = true → s.on USB_PORT_SUSP n = false → 
    exec (.sofSend n) s = .next (s.setFar (n + 1) { s.far (n + 1) with frame := ((s.far (n + 1)).frame + 1) % 2048 })) ∧
  (∀ (n : Fin 4) (ep : Fin 16) (d : List Byte) (e : Nat) (s s0 : State),
    s.portEntry (n + 1) = some e → s.svcTakes e = true → s.portMode (n + 1) = 2 → s.on USB_PORT_ENA n = true → s.on USB_PORT_SUSP n = false → s.pollDue (n + 1) ep = true → s0 = s.setFar (n + 1) { s.far (n + 1) with polled := Tab.put (s.far (n + 1)).polled ep (some (s.far (n + 1)).frame) none } → (Tab.get (s.far (n + 1)).queue ep []).length < 4 → 
    exec (.interruptPoll n ep (.data d)) s = .next ((s0.sendPeriodic (n + 1) e ep false d).setFar (n + 1) { (s0.sendPeriodic (n + 1) e ep false d).far (n + 1) with tog := Tab.put (s.far (n + 1)).tog (epDir ep true) (!Tab.get (s.far (n + 1)).tog (epDir ep true) false) false }) ∧ exec (.interruptPoll n ep .nak) s = .next s0) ∧
  (∀ (n : Fin 4) (ep : Fin 16) (r : DeviceReply) (e : Nat) (s : State),
    s.portEntry (n + 1) = some e → s.svcTakes e = true → s.portMode (n + 1) = 2 → s.on USB_PORT_ENA n = true → s.on USB_PORT_SUSP n = false → s.pollDue (n + 1) ep = true → ¬ (Tab.get (s.far (n + 1)).queue ep []).length < 4 → 
    exec (.interruptPoll n ep r) s = .next ((s.setFar (n + 1) { s.far (n + 1) with polled := Tab.put (s.far (n + 1)).polled ep (some (s.far (n + 1)).frame) none }).sat USB_CNT_COUNT 6)) ∧
  (∀ (e : Fin 128) (raw : List Byte) (n : Nat) (m : ProxyMsg) (s s1 u : State),
    s.takeMessage e tyUsb [7] (fun s => s.proxyBad e) (s.goodProxy e) = (s1, some raw) → s.param e 0 1 ≠ 0 → m = parseProxy raw → n = s1.proxyPort e → ¬ diffEpoch m.epoch (s1.far n).epoch < 0 → u = s1.farEpoch n m.epoch → u.proxyVer e ≥ 2 → 
    exec (.perackReceive e) s = .next (u.setFar n { u.far n with queue := Tab.put (u.far n).queue m.ep ((Tab.get (u.far n).queue m.ep []).filter (fun r => r.tag != m.tag)) [] })) ∧
  (∀ (n : Fin 4) (ep : Fin 16) (tag : Byte) (e : Nat) (r : ProxyReport) (s : State),
    s.portEntry (n + 1) = some e → (Tab.get (s.far (n + 1)).queue ep []).find? (fun r => r.tag == tag.toNat) = some r → s.svcRuns e = true → s.due (.periodic (n + 1) ep tag.toNat) = true → ¬ r.tries < s.proxyRetry e → 
    exec (.periodicRto n ep tag) s = .next (((s.setFar (n + 1) { s.far (n + 1) with queue := Tab.put (s.far (n + 1)).queue ep ((Tab.get (s.far (n + 1)).queue ep []).filter (fun x => x.tag != tag.toNat)) [] }).sat USB_CNT_COUNT 3).proxyCount e 2)) ∧
  (∀ (e : Fin 128) (raw : List Byte) (n : Nat) (m : ProxyMsg) (s s1 u : State),
    s.takeMessage e tyUsb [2] (fun s => s.proxyBad e) (s.goodProxy e) = (s1, some raw) → s.param e 0 1 ≠ 0 → m = parseProxy raw → n = s1.proxyPort e → ¬ diffEpoch m.epoch (s1.far n).epoch < 0 → u = s1.farEpoch n m.epoch → m.code = 4 → 
    exec (.portcmdReceive e) s = .next (u.statChange ((u.wr USB_PORT_PWR 1 (n - 1)).efuse n true) n)) ∧
  (∀ (e : Fin 128) (raw : List Byte) (n : Nat) (m : ProxyMsg) (s s1 u : State),
    s.takeMessage e tyUsb [2] (fun s => s.proxyBad e) (s.goodProxy e) = (s1, some raw) → s.param e 0 1 ≠ 0 → m = parseProxy raw → n = s1.proxyPort e → ¬ diffEpoch m.epoch (s1.far n).epoch < 0 → u = s1.farEpoch n m.epoch → m.code = 6 → 
    exec (.portcmdReceive e) s = .next (u.statChange (u.wr USB_PORT_ENA 0 (n - 1)) n)) ∧
  (∀ (n : Fin 4) (e : Nat) (s : State),
    s.portMode (n + 1) = 2 → s.portEntry (n + 1) = some e → 
    exec (.portstatSend n) s = .next (s.engineSend e (proxyBytes .portStat 0 false 0 false 0 0 (s.statBody (n + 1)) (s.far (n + 1)).epoch))) ∧
  (∀ (n : Fin 16) (m : Fin 2) (e : Fin 128) (s : State),
    s.on ENG_MBX_BUSY n m = false → s.rd ENG_STAT_STATE n = engRun → Tab.sorted s.regs = true → 
    ∃ t, exec (.ustat n m e) s = .next t ∧ t.on ENG_MBX_BUSY n m = true ∧ t.rd ENG_MBX_OPCODE n m = 0x40 ∧ t.rd ENG_MBX_SVC n m = e ∧ Tab.get t.ten.req (2 * n + m) (0, 0) = (0x40, e.val) ∧ t.deadline (.mailbox n m) = some (s.tmu.elapsed + s.rd ENG_CTRL_MBXTO n * 1000000 * 2 ^ 32)) ∧
  (∀ (n : Fin 16) (m : Fin 2) (e : Fin 128) (s : State),
    s.on ENG_MBX_BUSY n m = false → s.rd ENG_STAT_STATE n = engRun → Tab.sorted s.regs = true → 
    ∃ t, exec (.uclr n m e) s = .next t ∧ t.on ENG_MBX_BUSY n m = true ∧ t.rd ENG_MBX_OPCODE n m = 0x41 ∧ t.rd ENG_MBX_SVC n m = e ∧ Tab.get t.ten.req (2 * n + m) (0, 0) = (0x41, e.val) ∧ t.deadline (.mailbox n m) = some (s.tmu.elapsed + s.rd ENG_CTRL_MBXTO n * 1000000 * 2 ^ 32))

/-- SVC_DESCRIPTOR, the next descriptor of a running SVC ring with an opcode above 3: it ends with BADDESC. A FLUSH descriptor for a running initiator entry with a free tag becomes a request with that tag, and its command is sent; the descriptor is under way. SVC_COMPLETE of the oldest result of an SVC ring: it is taken, and the descriptor is written back with the flags, count, status and size that the result has. BLOCK_CMD_RECEIVE at a target, the next message a READ with a tag that it neither runs nor has completed and whose checks pass: it waits with its blocks, and is counted; registers keep their value. The same command again while it runs changes nothing more. BLOCK_CMD_EXECUTE of a waiting READ that staging and order allow, on a READY medium at full power: it is given to the back end at the medium's logical block of its partition, and its command timeout runs. At an eMMC or SD card blocks go out in commands of at most 256 sectors, 8 sectors a block, addressed in bytes at a standard-capacity card. At an NVMe device blocks within MDTS go out as one command in its logical blocks. BLOCK_DATA_RECEIVE at a target, data of a WRITE that has blocks to write already: each block of the write that is not done is staged; nothing else changes. At an initiator, data of a READ that waits: each of its blocks is written to its place in the buffer, marked as arrived, and counted. BLOCK_CMD_COMPLETE of a command with an outcome: the command is gone, and its CPL is sent and kept for a repeated command. BLOCK_CPL_RECEIVE at an initiator, the CPL of a waiting FLUSH or INFO: the request ends with its count and status, and for INFO with size and write protection. BLOCK_RTO of a request whose RTO has passed, with RETRY left: the try is counted and the same command sent again. With RETRY used up the request ends with NORESP, and its tag is in quarantine for RTO x (RETRY + 1). BLOCK_DATA_TIMEOUT of a WRITE that waits for data for RTO x (RETRY + 1): it is counted and ends with DATALOST. TAG_QUARANTINE_END of a tag whose quarantine is over frees the tag; nothing else changes. BSTAT to a mailbox of a running engine that is not BUSY: BUSY is 1 with opcode 0x40 and the entry, and the timeout of MBXTO milliseconds runs. BCLR to a mailbox of a running engine that is not BUSY: BUSY is 1 with opcode 0x41 and the entry, and the timeout of MBXTO milliseconds runs. Each of these commands is shown to answer a next state with its own effect: svcDescriptor, svcComplete, blockCmdReceive, blockCmdExecute, blockDataReceive, blockCmdComplete, blockCplReceive, blockRto, blockDataTimeout, tagQuarantineEnd, bstat, bclr. -/
def Obligations.BlockTunnels : Prop :=
  (∀ (r : Fin 128) (d : Desc) (s : State),
    s.rd RNG_RSTAT_STATE r = ringRunning → s.rd RNG_RCFG_TYPE r = ringSvc → s.ringReady r = true → s.nextDesc r = some d → d.le 8 1 > 3 → 
    exec (.svcDescriptor r) s = .next ((s.startDesc r d.idx).descFails r d .badDesc)) ∧
  (∀ (r : Fin 128) (d : Desc) (t : Nat) (s : State),
    s.rd RNG_RSTAT_STATE r = ringRunning → s.rd RNG_RCFG_TYPE r = ringSvc → s.ringReady r = true → s.nextDesc r = some d → d.le 8 1 = 3 → d.le 9 1 = 0 → d.zero 10 11 = true → d.zero 17 23 = true → d.zero 28 29 = true → d.le 31 1 % 64 = 0 → s.on TEN_SVC0_EN (s.rd RNG_RCFG_BIND r) = true → s.rd TEN_SVC0_STATE (s.rd RNG_RCFG_BIND r) = svcActive → s.rd ENG_STAT_STATE (s.svcEngine (s.rd RNG_RCFG_BIND r)) = engRun → s.blkTarget (s.rd RNG_RCFG_BIND r) = false → s.quiescing (s.rd RNG_RCFG_BIND r) = false → s.rd TEN_SVC0_TYPE (s.rd RNG_RCFG_BIND r) = tyBlock → s.freeTag (s.rd RNG_RCFG_BIND r) = some t → 
    exec (.svcDescriptor r) s = .next (((s.startDesc r d.idx).setReqs (s.rd RNG_RCFG_BIND r) ((s.startDesc r d.idx).reqs (s.rd RNG_RCFG_BIND r) ++ [{ ring := r, idx := d.idx, op := 3, addr := d.le 0 8, blk := d.le 12 5, nblk := 0, tag := t, first := d.le 12 5, cnt := 0 }])).newBlkCmd (s.rd RNG_RCFG_BIND r) { ring := r, idx := d.idx, op := 3, addr := d.le 0 8, blk := d.le 12 5, nblk := 0, tag := t, first := d.le 12 5, cnt := 0 })) ∧
  (∀ (r : Fin 128) (err : Bool) (x : Desc) (d : BlkDone) (l : List BlkDone) (s : State),
    s.rd RNG_RCFG_TYPE r = ringSvc → Tab.get s.sto.done r [] = d :: l → (s.fetched r).find? (fun x => x.idx == d.idx && x.runs) = some x → d.size = 0 → 
    exec (.svcComplete r err) s = .next (({ s with sto := { s.sto with done := Tab.put s.sto.done r l [] } } : State).ringDone r d.idx ((x.bytes.drop 8).take 4 ++ leBytes 5 (x.le 12 5) ++ leBytes 1 (bit d.wp) ++ List.replicate 6 0 ++ leBytes 2 d.count ++ leBytes 1 d.status ++ [0] ++ List.replicate 2 0) 0 err)) ∧
  (∀ (e : Fin 128) (m : BlkMsg) (s s1 : State),
    s.takeBlk e 1 = (s1, some m) → s.blkTarget e = true → (s1.blkCmds e).find? (fun c => c.tag == m.tag) = none → (Tab.get s1.sto.held e []).find? (fun h => h.1 == m.tag && h.2.1 == m.serial) = none → s1.blkCheck e m = none → m.op = 1 → 
    ∃ t, exec (.blockCmdReceive e) s = .next t ∧ t.blkCmds e = (s1.blkCmds e).filter (fun x => x.tag != m.tag) ++ [{ tag := m.tag, serial := m.serial, op := 1, blk := m.blk, nblk := m.b9 + 1 }] ∧ Tab.get t.sto.counts (8 * e) 0 = satAdd 32 (Tab.get s1.sto.counts (8 * e) 0) 1 ∧ t.regs = s1.regs) ∧
  (∀ (e : Fin 128) (m : BlkMsg) (c : BlkCmd) (s s1 : State),
    s.takeBlk e 1 = (s1, some m) → s.blkTarget e = true → (s1.blkCmds e).find? (fun c => c.tag == m.tag) = some c → c.serial = m.serial → 
    exec (.blockCmdReceive e) s = .next s1) ∧
  (∀ (e : Fin 128) (tag : Fin 64) (c : BlkCmd) (s : State),
    (s.blkCmds e).find? (fun c => c.tag == tag.val && !c.started && c.status.isNone) = some c → s.svcRuns e = true → s.fullPower = true → s.restricted = false → s.blkReady e c = true → s.beState (s.blkMedium e) = 2 → c.op = 1 → 
    exec (.blockCmdExecute e tag) s = .next { ((s.putCmd e { c with started := true, status := none }).arm (.backend e c.tag) ((s.putCmd e { c with started := true, status := none }).ctoNs ((s.putCmd e { c with started := true, status := none }).blkMedium e))) with sto := { (s.putCmd e { c with started := true, status := none }).sto with issued := (s.blkMedium e, s.medCommands (s.blkMedium e) (s.partBase e + c.blk) c.nblk) } }) ∧
  (∀ (b n : Nat) (s : State),
    n ≠ 0 → n ≤ 32 → 
    s.medCommands 1 b n = [(b * 8 * (if s.sto.byteCard then 512 else 1), n * 8)] ∧ s.medCommands 1 b (32 + n) = [(b * 8 * (if s.sto.byteCard then 512 else 1), 256), ((b + 32) * 8 * (if s.sto.byteCard then 512 else 1), n * 8)]) ∧
  (∀ (b n : Nat) (s : State),
    n ≠ 0 → s.sto.mdts = 0 ∨ n ≤ s.sto.mdts → 
    s.medCommands 0 b n = [(b * (4096 / 2 ^ s.rd STO_NVME_CAP_HI_LBASZ), n * (4096 / 2 ^ s.rd STO_NVME_CAP_HI_LBASZ))]) ∧
  (∀ (e : Fin 128) (m : BlkMsg) (c : BlkCmd) (s s1 : State),
    s.takeBlk e 2 = (s1, some m) → s1.blkTarget e = true → (s1.blkCmds e).find? (fun c => c.tag == m.tag && c.serial == m.serial && c.op == 2) = some c → (State.staged c).isEmpty = false → 
    exec (.blockDataReceive e) s = .next (s1.putCmd e { c with data := ((blocksOf (m.data.length / 4096) m.data).zipIdx.filter (fun x => c.blk + c.count ≤ m.blk + x.2 && m.blk + x.2 < c.blk + c.nblk)).foldl (fun t x => Tab.put t (m.blk + x.2) x.1 []) c.data })) ∧
  (∀ (e : Fin 128) (m : BlkMsg) (r : BlkReq) (bs : List (List Byte × Nat)) (s s1 : State),
    s.takeBlk e 2 = (s1, some m) → s1.blkTarget e = false → (s1.reqs e).find? (fun r => r.tag == m.tag && r.serial == m.serial && r.op == 1) = some r → bs = (blocksOf (m.data.length / 4096) m.data).zipIdx.filter (fun x => r.first ≤ m.blk + x.2 && m.blk + x.2 < r.first + r.cnt) → 
    exec (.blockDataReceive e) s = .next (((s1.each bs (fun s x => s.writeSide (s.ringMgmt r.ring) (r.addr + (m.blk + x.2 - r.blk) * 4096) x.1)).putReq e { r with got := r.got ++ (bs.map (fun x => m.blk + x.2)).filter (fun b => !r.got.contains b) }).blkCount e 1 bs.length)) ∧
  (∀ (e : Fin 128) (tag : Fin 64) (c : BlkCmd) (st : Nat) (s : State),
    (s.blkCmds e).find? (fun c => c.tag == tag.val) = some c → c.status = some st → s.svcRuns e = true → 
    exec (.blockCmdComplete e tag) s = .next (s.sendCpl e c st)) ∧
  (∀ (e : Fin 128) (m : BlkMsg) (r : BlkReq) (s s1 : State),
    s.takeBlk e 3 = (s1, some m) → s.blkTarget e = false → (s1.reqs e).find? (fun r => r.tag == m.tag && r.serial == m.serial) = some r → r.op ≠ 1 → r.op ≠ 2 → 
    exec (.blockCplReceive e) s = .next ((s1.blkCount e 2 0).endReq e r { idx := r.idx, size := if r.op = 0 then m.blk else 0, wp := r.op == 0 && m.wp, count := m.count, status := m.b9 })) ∧
  (∀ (e : Fin 128) (tag : Fin 64) (r : BlkReq) (s : State),
    (s.reqs e).find? (fun r => r.tag == tag.val) = some r → s.svcRuns e = true → s.due (.block e tag) = true → r.tries < s.param e 3 1 → 
    exec (.blockRto e tag) s = .next (((s.putReq e { r with tries := r.tries + 1 }).blkCount e 3 1).sendBlkCmd e { r with tries := r.tries + 1 })) ∧
  (∀ (e : Fin 128) (tag : Fin 64) (r : BlkReq) (s : State),
    (s.reqs e).find? (fun r => r.tag == tag.val) = some r → s.svcRuns e = true → s.due (.block e tag) = true → ¬ r.tries < s.param e 3 1 → 
    ∀ u, u = s.endReq e r { idx := r.idx, count := 0, status := 10 } → exec (.blockRto e tag) s = .next (({ u with sto := { u.sto with quar := Tab.put u.sto.quar e (tag.val :: Tab.get u.sto.quar e []) [] } } : State).arm (.quarantine e tag) (u.blkSpan e))) ∧
  (∀ (e : Fin 128) (tag : Fin 64) (c : BlkCmd) (s : State),
    (s.blkCmds e).find? (fun c => c.tag == tag.val && c.op == 2 && c.status.isNone) = some c → (State.staged c).isEmpty = true → s.svcRuns e = true → s.due (.blockData e tag) = true → 
    exec (.blockDataTimeout e tag) s = .next ((s.sat STO_CNT_COUNT 5).putCmd e { c with status := some 6 })) ∧
  (∀ (e : Fin 128) (tag : Fin 64) (s : State),
    s.due (.quarantine e tag) = true → 
    exec (.tagQuarantineEnd e tag) s = .next { (s.disarm (.quarantine e tag)) with sto := { s.sto with quar := Tab.put s.sto.quar e ((Tab.get s.sto.quar e []).filter (· != tag.val)) [] } }) ∧
  (∀ (n : Fin 16) (m : Fin 2) (e : Fin 128) (s : State),
    s.on ENG_MBX_BUSY n m = false → s.rd ENG_STAT_STATE n = engRun → Tab.sorted s.regs = true → 
    ∃ t, exec (.bstat n m e) s = .next t ∧ t.on ENG_MBX_BUSY n m = true ∧ t.rd ENG_MBX_OPCODE n m = 0x40 ∧ t.rd ENG_MBX_SVC n m = e ∧ Tab.get t.ten.req (2 * n + m) (0, 0) = (0x40, e.val) ∧ t.deadline (.mailbox n m) = some (s.tmu.elapsed + s.rd ENG_CTRL_MBXTO n * 1000000 * 2 ^ 32)) ∧
  (∀ (n : Fin 16) (m : Fin 2) (e : Fin 128) (s : State),
    s.on ENG_MBX_BUSY n m = false → s.rd ENG_STAT_STATE n = engRun → Tab.sorted s.regs = true → 
    ∃ t, exec (.bclr n m e) s = .next t ∧ t.on ENG_MBX_BUSY n m = true ∧ t.rd ENG_MBX_OPCODE n m = 0x41 ∧ t.rd ENG_MBX_SVC n m = e ∧ Tab.get t.ten.req (2 * n + m) (0, 0) = (0x41, e.val) ∧ t.deadline (.mailbox n m) = some (s.tmu.elapsed + s.rd ENG_CTRL_MBXTO n * 1000000 * 2 ^ 32))

/-- BACKEND_ENABLE that enables the NVMe back end alone: the written fields are taken, its state is INIT and NVEV set; nothing else changes. BACKEND_INIT_DONE of an NVMe back end in INIT with no cause and an LBA size of 4 KiB: it is READY, shows blocks and LBA size and holds its MDTS; nothing else changes. With a cause the back end fails with it, and what it had in flight ends with NOMEDIA. An eMMC or SD back end in INIT without a cause: it is READY, shows blocks, write protection and the first mode from MODE on, in its family, that the card takes; its addressing is held and what it had in flight goes on. BACKEND_COMMAND_DONE, blocks of a READ that runs: they are counted and sent as data, and the last ends the command with OK; its command timeout starts anew for the rest. An error ends the command with MEDIA and is counted. BACKEND_COMMAND_TIMEOUT of a command that runs for its CTO, with fewer than two resets in the last 60 s: the command ends with TIMEOUT and at an NVMe device the others with ABORTED, timeout and reset are counted, the reset's time is kept, and the back end is in RESET. BACKEND_REMOVAL of an enabled NVMe back end: its commands end with NOMEDIA and it fails with cause 4. CARD_DETECT of a card present for CDDB: CD is 1 and MMCEV set; nothing else changes. Of a card gone for CDDB, the MMC back end enabled and not failed: its commands end with NOMEDIA, CD is 0, and it is in INIT again. Each of these commands is shown to answer a next state with its own effect: backendEnable, backendInitDone, backendCommandDone, backendCommandTimeout, backendRemoval, cardDetect. -/
def Obligations.StorageBackEnds : Prop :=
  (∀ (w : Word) (s : State),
    s.on STO_CTRL_NVEN = false → (s.writeReg 0x1F0000 w.toNat).on STO_CTRL_NVEN = true → s.on STO_CTRL_MMCEN = false → (s.writeReg 0x1F0000 w.toNat).on STO_CTRL_MMCEN = false → ((s.writeReg 0x1F0000 w.toNat).setBe 0 1).on STO_CTRL_MMCEN = false → 
    exec (.backendEnable w) s = .next (((s.writeReg 0x1F0000 w.toNat).wr STO_STAT_NVSTATE 1).wr STO_STAT_NVEV 1)) ∧
  (∀ (cause : Fin 3) (blocks : BitVec 40) (mdts : BitVec 16) (modes : BitVec 6) (byteCard wp : Bool) (s : State),
    s.rd STO_STAT_NVSTATE = 1 → cause = 0 → 
    exec (.backendInitDone 0 cause blocks 12 mdts modes byteCard wp) s = .next { (((((s.wr STO_STAT_NVSTATE 2).wr STO_STAT_NVEV 1).wr STO_NVME_CAP_LO_BLOCKS blocks.toNat).wr STO_NVME_CAP_HI_BLOCKS (blocks.toNat / 2 ^ 32)).wr STO_NVME_CAP_HI_LBASZ 12) with sto := { s.sto with mdts := mdts.toNat } }) ∧
  (∀ (m : Fin 2) (cause : Fin 3) (blocks : BitVec 40) (lbaSz : Fin 16) (mdts : BitVec 16) (modes : BitVec 6) (byteCard wp : Bool) (s s1 : State),
    s.beState m = 1 → cause ≠ 0 → s1 = s.endInFlight m (fun _ _ => some 7) → 
    exec (.backendInitDone m cause blocks lbaSz mdts modes byteCard wp) s = .next ((if m = 0 then (s1.wr STO_STAT_NVSTATE 4).wr STO_STAT_NVEV 1 else (s1.wr STO_STAT_MMCSTATE 4).wr STO_STAT_MMCEV 1).wr STO_STAT_FCAUSE cause)) ∧
  (∀ (cause : Fin 3) (blocks : BitVec 40) (lbaSz : Fin 16) (mdts : BitVec 16) (modes : BitVec 6) (byteCard wp : Bool) (mode : Nat) (s s1 : State),
    s.beState 1 = 1 → cause = 0 → ((if s.rd STO_MMC_CFG_MODE < 3 then (List.range 3).drop (s.rd STO_MMC_CFG_MODE) else (List.range 6).drop (s.rd STO_MMC_CFG_MODE)).find? (fun x => modes.getLsbD x)) = some mode → s1 = (((((s.wr STO_STAT_MMCSTATE 2).wr STO_STAT_MMCEV 1).wr STO_MMC_CAP_LO_BLOCKS blocks.toNat).wr STO_MMC_CAP_HI_BLOCKS (blocks.toNat / 2 ^ 32)).wr STO_MMC_CAP_HI_MODE mode).wr STO_STAT_WP (bit wp) → 
    exec (.backendInitDone 1 cause blocks lbaSz mdts modes byteCard wp) s = .next ({ s1 with sto := { s1.sto with byteCard := byteCard } } : State).resumeCard) ∧
  (∀ (e : Fin 128) (tag : Fin 64) (n : Fin 257) (data : List Byte) (c : BlkCmd) (s : State),
    (s.blkCmds e).find? (fun c => c.tag == tag.val && c.started && c.status.isNone) = some c → c.op = 1 → 
    ∀ k c1, k = min n.val (c.nblk - c.count) → c1 = { c with count := c.count + k, status := if c.count + k = c.nblk then some 0 else none } → exec (.backendCommandDone e tag n true data) s = .next ((((s.putCmd e c1).backendRuns e c1).blkCount e 1 k).each (State.dataMessages 1 c.tag c.serial k (if s.blkVer e ≥ 3 then 2 else 1) (c.blk + c.count) (blocksOf k data)) (fun s m => s.engineSend e m))) ∧
  (∀ (e : Fin 128) (tag : Fin 64) (n : Fin 257) (data : List Byte) (c : BlkCmd) (s : State),
    (s.blkCmds e).find? (fun c => c.tag == tag.val && c.started && c.status.isNone) = some c → 
    exec (.backendCommandDone e tag n false data) s = .next ((s.sat STO_CNT_COUNT 3).putCmd e { c with status := some 4 })) ∧
  (∀ (e : Fin 128) (tag : Fin 64) (s s1 : State),
    (s.blkCmds e).any (fun c => c.tag == tag.val && c.started && c.status.isNone) = true → s1 = ((s.endInFlight (s.blkMedium e) (fun i t => if i = e.val && t = tag.val then some 5 else if decide (s.blkMedium e = 0) then some 9 else none)).sat STO_CNT_COUNT 4).sat STO_CNT_COUNT 7 → s.due (.backend e tag) = true → ((Tab.get s.sto.resets (s.blkMedium e) []).filter (fun t => s.tmu.elapsed < t + 60000000000 * 2 ^ 32)).length < 2 → 
    exec (.backendCommandTimeout e tag) s = .next (({ s1 with sto := { s1.sto with resets := Tab.put s1.sto.resets (s.blkMedium e) (s.tmu.elapsed :: (Tab.get s.sto.resets (s.blkMedium e) []).filter (fun t => s.tmu.elapsed < t + 60000000000 * 2 ^ 32)) [] } } : State).setBe (s.blkMedium e) 3)) ∧
  (∀ (s : State),
    (s.endInFlight 0 (fun _ _ => some 7)).on STO_CTRL_NVEN = true → s.on STO_CTRL_NVEN = true → 
    exec (.backendRemoval 0) s = .next ((((s.endInFlight 0 (fun _ _ => some 7)).wr STO_STAT_NVSTATE 4).wr STO_STAT_NVEV 1).wr STO_STAT_FCAUSE 4)) ∧
  (∀ (held : Nat) (s : State),
    s.on STO_STAT_CD = false → held ≥ s.rd STO_MMC_CFG_CDDB * 1000000 * 2 ^ 32 → 
    exec (.cardDetect true held) s = .next ((s.wr STO_STAT_CD 1).wr STO_STAT_MMCEV 1)) ∧
  (∀ (held : Nat) (s : State),
    s.on STO_STAT_CD = true → held ≥ s.rd STO_MMC_CFG_CDDB * 1000000 * 2 ^ 32 → s.on STO_CTRL_MMCEN = true → s.rd STO_STAT_MMCSTATE ≠ 4 → 
    exec (.cardDetect false held) s = .next ((((((s.endInFlight 1 (fun _ _ => some 7)).wr STO_STAT_CD 0).wr STO_STAT_MMCEV 1).wr STO_STAT_MMCSTATE 1).wr STO_STAT_MMCEV 1)))

/-- UART_CHARACTER_RECEIVE of a good character in a frame that the receiver hears, its start bit voting low: the majority of each bit's samples is recorded with its sample count and the time of day of its start, RXACT is 1, and the gap counts from now. A start bit that does not vote low is ignored. What the receiver does not hear changes nothing. UART_GAP_EXPIRY of a frame whose gap has passed: a marker is recorded, and RXACT is 0. UART_LINE_STUCK of a UART that follows its line and is not stuck: STUCK and STUCKEV are set and its cause raised. UART_LINE_RELEASE: STUCK is 0 and the cause withdrawn. UART_RING_WRITE of a ring that does not fit its bank is refused: RINGREJ is set. A ring that fits and becomes valid is taken, and both its indices are 0. A read index not past the records is taken; nothing else changes. UART_TRANSMIT with a message queued, the transmitter free and no foreign frame, RS-232 and back to back: the next character is sent, TXACT is 1, the following may start after its bit times, and it is counted. With nothing queued and the trailing time over the transmitter is idle and its driver off. SERIAL_MESSAGE_SEND on tunnel version 1 whose ring ends a frame within the message size: the frame's characters go out as one message with the flags that the rule gives, the read index moves past them, and characters and message are counted. SERIAL_MESSAGE_RECEIVE of a well-formed message: it is counted and arrives under its sequence number with its characters. A message whose number is the next one is queued and those held after it follow; one whose number is just before is an error. SERIAL_HOLD_EXPIRY of held messages, 2 ms after: they are queued in their order, those missing counted as errors, and the next number follows them. SSTAT to a mailbox of a running engine that is not BUSY: BUSY is 1 with opcode 0x40 and the entry, and the timeout of MBXTO milliseconds runs. SCLR to a mailbox of a running engine that is not BUSY: BUSY is 1 with opcode 0x41 and the entry, and the timeout of MBXTO milliseconds runs. IRIG_ON_TIME of an enabled input that shows no loss, the capture free: the mark is captured with its time of day and whether that time is traceable; nothing else changes but the start of the loss interval. With the capture taken only OVR is set. IRIG_FRAME whose pulses, those held for FILT judged by their width, are a frame: it is repeated where the output repeats the input, and taken as valid. A valid frame, one second after the valid frame before it, takes SYNC to LOCKED and shows its fields. A LOCKED input's first bad frame is counted and breaks the run of valid frames; nothing else changes but the start of the loss interval. IRIG_LOS of a running input without a pulse for LOS x 100 ms: SYNC with LOS and LOSTEV set, its cause raised, and no frame counts. IRIG_OUTPUT_SECOND, a second not yet sent, of an output that generates from a traceable time with no leap second near: the frame of the present UTC second. An untraceable time without FORCE: nothing is sent. Each of these commands is shown to answer a next state with its own effect: uartCharacterReceive, uartGapExpiry, uartLineStuck, uartLineRelease, uartRingWrite, uartTransmit, serialMessageSend, serialMessageReceive, serialHoldExpiry, sstat, sclr, irigOnTime, irigFrame, irigLos, irigOutputSecond. -/
def Obligations.SerialAndIrig : Prop :=
  (∀ (n : Fin 8) (st : BitVec 3) (l : List (BitVec 3)) (samp : BitVec 16) (ago : Nat) (r : SerRec) (s : State),
    s.serHears n = true → vote3 st = s.on SER_CTRL_INV n → Tab.get s.ser.inFrame n false = true → r = s.serJudge n (l.map vote3) → r.pe = false → r.fe = false → r.brk = false → 
    exec (.uartCharacterReceive n (st :: l) samp ago) s = .next ((((s.serRecord n (State.serStamp { r with samp := samp.toNat } (Wide.ofUnits (s.tmu.tod.units - ago)))).wr SER_STAT_RXACT 1 n).setInFrame n true).armAt (.uartGap n) (s.tmu.elapsed + s.serSamples n (8 * s.rd SER_FRM_GAP n)))) ∧
  (∀ (n : Fin 8) (bits : List (BitVec 3)) (samp : BitVec 16) (ago : Nat) (s : State),
    vote3 (bits.headD 7) ≠ s.on SER_CTRL_INV n → 
    exec (.uartCharacterReceive n bits samp ago) s = .next s) ∧
  (∀ (n : Fin 8) (bits : List (BitVec 3)) (samp : BitVec 16) (ago : Nat) (s : State),
    s.serHears n = false → 
    exec (.uartCharacterReceive n bits samp ago) s = .next s ∧ exec (.uartGapExpiry n) s = .next s) ∧
  (∀ (n : Fin 8) (s : State),
    s.serHears n = true → Tab.get s.ser.inFrame n false = true → s.due (.uartGap n) = true → 
    exec (.uartGapExpiry n) s = .next ((((s.disarm (.uartGap n)).serRecord n (State.serStamp { gap := true } s.tmu.tod)).wr SER_STAT_RXACT 0 n).setInFrame n false)) ∧
  (∀ (n : Fin 8) (s : State),
    s.serHears n = true → 
    exec (.uartLineStuck n) s = .next (((s.wr SER_STAT_STUCK 1 n).wr SER_STAT_STUCKEV 1 n).causeOn (103 + n) 0)) ∧
  (∀ (n : Fin 8) (s : State),
    exec (.uartLineRelease n) s = .next ((s.wr SER_STAT_STUCK 0 n).causeOff (103 + n))) ∧
  (∀ (n : Fin 8) (w : Word) (s : State),
    (s.writeReg (0x200014 + 0x40 * n) w.toNat).rd SER_RING_OFS n * 64 + (s.writeReg (0x200014 + 0x40 * n) w.toNat).rd SER_RING_LEN n * 64 > 65536 → 
    exec (.uartRingWrite n false w) s = .next (s.wr SER_STAT_RINGREJ 1 n)) ∧
  (∀ (n : Fin 8) (w : Word) (s : State),
    (s.writeReg (0x200014 + 0x40 * n) w.toNat).rd SER_RING_OFS n * 64 + (s.writeReg (0x200014 + 0x40 * n) w.toNat).rd SER_RING_LEN n * 64 ≤ 65536 → s.on SER_RING_VALID n = false → (s.writeReg (0x200014 + 0x40 * n) w.toNat).on SER_RING_VALID n = true → 
    exec (.uartRingWrite n false w) s = .next { (((s.writeReg (0x200014 + 0x40 * n) w.toNat).wr SER_RXWR_WR 0 n).wr SER_RXRD_RD 0 n) with ser := { s.ser with lost := Tab.put s.ser.lost n false false } }) ∧
  (∀ (n : Fin 8) (w : Word) (s : State),
    (s.rd SER_RXWR_WR n + 65536 - w.toNat % 65536) % 65536 ≤ s.serCap n → 
    exec (.uartRingWrite n true w) s = .next (s.wr SER_RXRD_RD (w.toNat % 65536) n)) ∧
  (∀ (n : Fin 8) (c : Byte × Nat) (m : List (Byte × Nat)) (rest : List (List (Byte × Nat))) (s u : State),
    s.serQueue n = (c :: m) :: rest → s.on SER_CTRL_EN n = true → s.on SER_CTRL_MODE n = false → s.on SER_STAT_RXACT n = false → s.armed (.uartLead n) = false ∨ s.due (.uartLead n) = true → s.serPaced n = false → u = ((s.setSerQueue n (if m.isEmpty then rest else m :: rest)).wr SER_STAT_TXACT 1 n).wr SER_STAT_DEOUT 0 n → 
    exec (.uartTransmit n) s = .next (((({ u with ser := { u.ser with sent := Tab.put u.ser.sent n (some c.1) none } } : State).armAt (.uartLead n) (s.tmu.elapsed + s.serBits n (s.serLen n))).armAt (.uartTrail n) (s.tmu.elapsed + s.serBits n (s.serLen n) + s.serBits n (s.rd SER_DE_TRAIL n))).serUartCount n 1)) ∧
  (∀ (n : Fin 8) (s : State),
    s.serQueue n = [] → s.on SER_CTRL_EN n = true → s.armed (.uartLead n) = false ∨ s.due (.uartLead n) = true → s.armed (.uartTrail n) = false ∨ s.due (.uartTrail n) = true → 
    exec (.uartTransmit n) s = .next ((((s.wr SER_STAT_TXACT 0 n).disarm (.uartLead n)).wr SER_STAT_DEOUT 0 n).disarm (.uartTrail n))) ∧
  (∀ (e : Fin 128) (n : Nat) (l : List SerRec) (used : Nat) (s : State),
    n = s.param e 0 1 % 8 → s.serTake (s.svcEngine e) n (s.param e 6 2) 4097 (s.rd SER_RXRD_RD n) 0 = (l, true, used) → s.svcTakes e = true → s.holdsBank (s.svcEngine e) (s.rd SER_RING_BANK n) = true → s.rd TEN_SVC0_TYPE e = tySerial → s.rd CTX2_VER (s.rd TEN_SVC1_TXSLOT e) = 1 → 
    exec (.serialMessageSend e) s = .next ((((s.wr SER_RXRD_RD ((s.rd SER_RXRD_RD n + used) % 65536) n).serCount e 0 (l.filter (fun r => !r.gap)).length).serCount e 2 1).engineSend e (beBytes 1 1 ++ beBytes 1 (bit (((l.filter (fun r => !r.gap)).head?.map (fun r => r.samp == 0)).getD false) + 2 + 4 * bit (l.any (·.untraced)) + 8 * bit (l.any (·.ovr))) ++ beBytes 2 (l.filter (fun r => !r.gap)).length ++ List.replicate 12 0 ++ State.serChars true true (l.filter (fun r => !r.gap))))) ∧
  (∀ (e : Fin 128) (p : Packet) (s s1 : State),
    s.svcRuns e = true → s.rd TEN_SVC0_TYPE e = tySerial → s.takeInbound e = (s1, some p) → State.serGood p.payload = true → 
    exec (.serialMessageReceive e) s = .next ((s1.serCount e 2 1).serArrive e p.seq (State.serParse (s1.rd CTX2_VER (s1.rd TEN_SVC1_RXSLOT e) == 1) (ofBe ((p.payload.drop 2).take 2)) (p.payload.drop 16)))) ∧
  (∀ (e q : Nat) (m : List (Byte × Nat)) (p : Nat) (s : State),
    Tab.get s.ser.seq e none = some p → q < 65536 → p < 65536 → 
    (q = p → s.serArrive e q m = (s.serEnqueue e m).serFollow e ((q + 1) % 65536) 8) ∧ (p = (q + 1) % 65536 → s.serArrive e q m = s.serErr e 1)) ∧
  (∀ (e : Fin 128) (p : Nat) (s : State),
    Tab.get s.ser.seq e none = some p → (s.serHeld e).length ≠ 0 → s.svcRuns e = true → s.due (.serialHold e) = true → 
    exec (.serialHoldExpiry e) s = .next (((s.serFlush e p).1.serErr e (((s.serFlush e p).2 + 65536 - p) % 65536 - (s.serHeld e).length)).setSerSeq e (some (s.serFlush e p).2))) ∧
  (∀ (n : Fin 16) (m : Fin 2) (e : Fin 128) (s : State),
    s.on ENG_MBX_BUSY n m = false → s.rd ENG_STAT_STATE n = engRun → Tab.sorted s.regs = true → 
    ∃ t, exec (.sstat n m e) s = .next t ∧ t.on ENG_MBX_BUSY n m = true ∧ t.rd ENG_MBX_OPCODE n m = 0x40 ∧ t.rd ENG_MBX_SVC n m = e ∧ Tab.get t.ten.req (2 * n + m) (0, 0) = (0x40, e.val) ∧ t.deadline (.mailbox n m) = some (s.tmu.elapsed + s.rd ENG_CTRL_MBXTO n * 1000000 * 2 ^ 32)) ∧
  (∀ (n : Fin 16) (m : Fin 2) (e : Fin 128) (s : State),
    s.on ENG_MBX_BUSY n m = false → s.rd ENG_STAT_STATE n = engRun → Tab.sorted s.regs = true → 
    ∃ t, exec (.sclr n m e) s = .next t ∧ t.on ENG_MBX_BUSY n m = true ∧ t.rd ENG_MBX_OPCODE n m = 0x41 ∧ t.rd ENG_MBX_SVC n m = e ∧ Tab.get t.ten.req (2 * n + m) (0, 0) = (0x41, e.val) ∧ t.deadline (.mailbox n m) = some (s.tmu.elapsed + s.rd ENG_CTRL_MBXTO n * 1000000 * 2 ^ 32)) ∧
  (∀ (ago : Nat) (s : State),
    s.on IRIGI_STAT_LOS = false → s.on IRIGI_CFG_EN = true → s.on TMU_IRIG_STAT_VALID = false → 
    exec (.irigOnTime ago) s = .next ((((((s.arm .irig 0).wr TMU_IRIG_SECLO_SEC_LO (Wide.ofUnits (s.tmu.tod.units - ago)).sec).wr TMU_IRIG_NS_NS (Wide.ofUnits (s.tmu.tod.units - ago)).ns).wr TMU_IRIG_FRAC_FRAC (Wide.ofUnits (s.tmu.tod.units - ago)).frac16).wr TMU_IRIG_STAT_UNTRACED (bit (!s.on TMU_STAT_TVALID))).wr TMU_IRIG_STAT_VALID 1)) ∧
  (∀ (ago : Nat) (s : State),
    s.on IRIGI_STAT_LOS = false → s.on IRIGI_CFG_EN = true → s.on TMU_IRIG_STAT_VALID = true → 
    exec (.irigOnTime ago) s = .next ((s.arm .irig 0).wr TMU_IRIG_STAT_OVR 1)) ∧
  (∀ (ws f : List Nat) (x : IrigFrame) (s : State),
    s.rd IRIGI_STAT_STATE ≠ 0 → f = (ws.filter (fun w => s.rd IRIGI_CFG_FILT * 10000 * 2 ^ 32 ≤ w)).map s.irigPulse → irigDecode f = some x → 
    exec (.irigFrame ws) s = .next ((s.irigSeen.irigRepeat f).irigValid x)) ∧
  (∀ (x : IrigFrame) (s : State),
    s.rd IRIGI_STAT_STATE = 1 → s.ser.irigPrev = some (x.day, x.hour, x.min, x.sec - 1) → 1 ≤ x.sec → Tab.sorted s.regs = true → 
    (s.irigValid x).rd IRIGI_STAT_STATE = 2 ∧ (s.irigValid x).rd IRIGI_TOD1_SEC = x.sec % 2 ^ IRIGI_TOD1_SEC.width ∧ (s.irigValid x).ser.irigPrev = some (x.day, x.hour, x.min, x.sec)) ∧
  (∀ (ws : List Nat) (s : State),
    s.rd IRIGI_STAT_STATE = 2 → (ws.filter (fun w => s.rd IRIGI_CFG_FILT * 10000 * 2 ^ 32 ≤ w)).isEmpty = false → irigDecode ((ws.filter (fun w => s.rd IRIGI_CFG_FILT * 10000 * 2 ^ 32 ≤ w)).map s.irigPulse) = none → s.on IRIGI_STAT_LOS = false → s.on IRIGO_CFG_EN = false → s.ser.irigBad = 0 → 
    exec (.irigFrame ws) s = .next { ((s.arm .irig 0).sat IRIGI_STAT_BADFRAME) with ser := { s.ser with irigPrev := none, irigBad := 1 } }) ∧
  (∀ (s : State),
    s.rd IRIGI_STAT_STATE ≠ 0 → s.on IRIGI_STAT_LOS = false → s.rd IRIGO_CFG_SRC ≠ 2 → s.ran .irig (s.rd IRIGI_CFG_LOS * 100000000) = true → 
    exec .irigLos s = .next { ((((s.wr IRIGI_STAT_STATE 1).wr IRIGI_STAT_LOS 1).wr IRIGI_STAT_LOSTEV 1).causeOn 31 0) with ser := { ((((s.wr IRIGI_STAT_STATE 1).wr IRIGI_STAT_LOS 1).wr IRIGI_STAT_LOSTEV 1).causeOn 31 0).ser with irigPrev := none, irigBad := 0 } }) ∧
  (∀ (s : State),
    s.on IRIGO_CFG_EN = true → s.rd IRIGO_CFG_SRC = 1 → s.ser.irigTod ≠ some s.irigTodSec → s.on TMU_STAT_TVALID = true → s.on TMU_UTC_LEAP61 = false → s.on TMU_UTC_LEAP59 = false → s.irigUtc % 86400 ≠ 86399 → 
    exec .irigOutputSecond s = .next (s.irigEmit s.irigUtc false)) ∧
  (∀ (s : State),
    s.on IRIGO_CFG_EN = true → s.rd IRIGO_CFG_SRC = 1 → s.ser.irigTod ≠ some s.irigTodSec → s.on TMU_STAT_TVALID = false → s.on IRIGO_CFG_FORCE = false → 
    exec .irigOutputSecond s = .next { s with ser := { s.ser with irigOut := [] } })

/-- PERST_ASSERT: the link is down, D3 and bus mastering are off, each host ring is DISABLED, with error LINK where it was not, the event ring is disabled, DLEV set, and every MSI-X vector masked. PERST_DEASSERT only releases the reset. PCIE_LINK_UP of an enabled, unlinked block that is not held in reset: LINKUP is 1, speed and width those reached but no more than MAXSPD and MAXW, and in the root-port role the device's BAR has its place; nothing else changes. PCIE_LINK_DOWN of a link that is up: the link is down, the host rings are DISABLED as above, the event ring is disabled and DLEV set. HOT_RESET does as PERST_ASSERT, with HOTRST set. FUNCTION_LEVEL_RESET does so with FLREV set, and keeps the link. BUS_MASTER_CHANGE shows D3 and bus mastering; where the host side is then ready, the write-backs and messages that waited go out. RING_ENABLE of a DISABLED TX ring, LOCK 0: the fields are taken, the ring RUNNING with no error, PI and CI 0 and nothing fetched. RING_DISABLE of a ring with EN 1: EN is 0, the ring DRAINING, and each descriptor fetched and not started is written back ABORT. RING_DRAINED of a DRAINING ring with nothing outstanding: it is DISABLED and holds no descriptor; nothing else changes. DOORBELL_WRITE of a running ring with an index within its size: PI is that index; nothing else changes. Beyond it, or of a ring that does not run, it is refused and counted. EVENT_DOORBELL_WRITE of an index within the event ring: RD is that index; nothing else changes. EVENT_RING_ENABLE that takes EN from 0 to 1 with a stated size: the fields are taken and both indices are 0. DESCRIPTOR_FETCH of the ring whose turn it is: the descriptor at the next index, with OWN 1, is fetched; nothing else changes but whose turn is next. With OWN 0 it is counted and the ring stops with NOTOWN. HOLDOFF_EXPIRY of a vector whose holdoff is over: it holds no more, and the message that waits, if any, is sent. Each of these commands is shown to answer a next state with its own effect: perstAssert, perstDeassert, pcieLinkUp, pcieLinkDown, hotReset, functionLevelReset, busMasterChange, ringEnable, ringDisable, ringDrained, doorbellWrite, eventDoorbellWrite, eventRingEnable, descriptorFetch, holdoffExpiry. -/
def Obligations.PcieLinkAndRings : Prop :=
  (∀ (s : State),
    Tab.sorted s.regs = true → (∀ r < 128, s.ringMgmt r = false → s.rd RNG_RSTAT_STATE r = ringDisabled → s.on RNG_RCFG_EN r = false) → 
    ∃ t, exec .perstAssert s = .next t ∧ t.on PCX_STAT_LINKUP = false ∧ t.rd PCX_STAT_SPEED = 0 ∧ t.rd PCX_STAT_WIDTH = 0 ∧ t.on PCX_STAT_D3 = false ∧ t.pcx.perst = true ∧ t.pcx.busMaster = false ∧ t.on RNG_EVCFG_EN = false ∧ t.on PCX_STAT_DLEV = true ∧ (∀ r < 128, s.ringMgmt r = false → t.rd RNG_RSTAT_STATE r = ringDisabled ∧ t.on RNG_RCFG_EN r = false ∧ (s.rd RNG_RSTAT_STATE r ≠ ringDisabled → t.rd RNG_RSTAT_ERR r = RingErr.link.code)) ∧ (∀ v < 128, t.on PCX_MSIX_CTRL_MASK v = true ∧ t.rd PCX_MSIX_DATA_DATA v = 0)) ∧
  (∀ (s : State),
    exec .perstDeassert s = .next { s with pcx := { s.pcx with perst := false } }) ∧
  (∀ (speed width : Fin 4) (s : State),
    s.on PCX_CTRL_EN = true → s.on PCX_STAT_LINKUP = false → (!s.on PCX_CTRL_ROLE && s.pcx.perst) = false → speed ≠ 0 → width ≠ 0 → 
    exec (.pcieLinkUp speed width) s = .next { (((s.wr PCX_STAT_LINKUP 1).wr PCX_STAT_SPEED (min speed (s.rd PCX_CTRL_MAXSPD))).wr PCX_STAT_WIDTH (min width (s.rd PCX_CTRL_MAXW))) with pcx := { s.pcx with devBar := if s.on PCX_CTRL_ROLE then some 0x10000000 else none } }) ∧
  (∀ (s : State),
    s.on PCX_STAT_LINKUP = true → Tab.sorted s.regs = true → (∀ r < 128, s.ringMgmt r = false → s.rd RNG_RSTAT_STATE r = ringDisabled → s.on RNG_RCFG_EN r = false) → 
    ∃ t, exec .pcieLinkDown s = .next t ∧ t.on PCX_STAT_LINKUP = false ∧ t.rd PCX_STAT_SPEED = 0 ∧ t.rd PCX_STAT_WIDTH = 0 ∧ t.pcx.busMaster = s.pcx.busMaster ∧ t.on RNG_EVCFG_EN = false ∧ t.on PCX_STAT_DLEV = true ∧ (∀ r < 128, s.ringMgmt r = false → t.rd RNG_RSTAT_STATE r = ringDisabled ∧ t.on RNG_RCFG_EN r = false ∧ (s.rd RNG_RSTAT_STATE r ≠ ringDisabled → t.rd RNG_RSTAT_ERR r = RingErr.link.code))) ∧
  (∀ (s : State),
    Tab.sorted s.regs = true → (∀ r < 128, s.ringMgmt r = false → s.rd RNG_RSTAT_STATE r = ringDisabled → s.on RNG_RCFG_EN r = false) → 
    ∃ t, exec .hotReset s = .next t ∧ t.on PCX_STAT_HOTRST = true ∧ t.on PCX_STAT_LINKUP = false ∧ t.on PCX_STAT_D3 = false ∧ t.pcx.busMaster = false ∧ t.on RNG_EVCFG_EN = false ∧ (∀ r < 128, s.ringMgmt r = false → t.rd RNG_RSTAT_STATE r = ringDisabled ∧ t.on RNG_RCFG_EN r = false ∧ (s.rd RNG_RSTAT_STATE r ≠ ringDisabled → t.rd RNG_RSTAT_ERR r = RingErr.link.code)) ∧ (∀ v < 128, t.on PCX_MSIX_CTRL_MASK v = true ∧ t.rd PCX_MSIX_DATA_DATA v = 0)) ∧
  (∀ (s : State),
    Tab.sorted s.regs = true → (∀ r < 128, s.ringMgmt r = false → s.rd RNG_RSTAT_STATE r = ringDisabled → s.on RNG_RCFG_EN r = false) → 
    ∃ t, exec .functionLevelReset s = .next t ∧ t.on PCX_STAT_FLREV = true ∧ t.on PCX_STAT_LINKUP = s.on PCX_STAT_LINKUP ∧ t.on PCX_STAT_D3 = false ∧ t.pcx.busMaster = false ∧ t.on RNG_EVCFG_EN = false ∧ (∀ r < 128, s.ringMgmt r = false → t.rd RNG_RSTAT_STATE r = ringDisabled ∧ t.on RNG_RCFG_EN r = false ∧ (s.rd RNG_RSTAT_STATE r ≠ ringDisabled → t.rd RNG_RSTAT_ERR r = RingErr.link.code)) ∧ (∀ v < 128, t.on PCX_MSIX_CTRL_MASK v = true ∧ t.rd PCX_MSIX_DATA_DATA v = 0)) ∧
  (∀ (bme d3 : Bool) (s s1 : State),
    s1 = { s.wr PCX_STAT_D3 (bit d3) with pcx := { s.pcx with busMaster := bme } } → 
    exec (.busMasterChange bme d3) s = .next (if s1.hostReady then s1.flushLate.msixRelease else s1)) ∧
  (∀ (r : Fin 128) (w : Word) (s s1 : State),
    s.rd RNG_RSTAT_STATE r = ringDisabled → s.on RNG_RCFG_EN r = false → s.on RNG_CTRL_LOCK = false → w.toNat.testBit 31 = true → RNG_RCFG_SIZE.codeOk (bitsOf w.toNat 19 16) = true → s1 = (s.writeField false RNG_RCFG_VEC r 0 w.toNat).writeFields false [RNG_RCFG_SIDE, RNG_RCFG_TYPE, RNG_RCFG_SIZE, RNG_RCFG_BIND] r 0 w.toNat → s1.rd RNG_RCFG_TYPE r = ringTx → 
    exec (.ringEnable r w) s = .next ({ (((((((s1.wr RNG_RCFG_EN 1 r).wr RNG_RSTAT_STATE ringRunning r).wr RNG_RSTAT_ERR 0 r).wr RNG_RIDX_PI 0 r).wr RNG_RIDX_CI 0 r).setFetched r []) : State) with rng := { ((((((s1.wr RNG_RCFG_EN 1 r).wr RNG_RSTAT_STATE ringRunning r).wr RNG_RSTAT_ERR 0 r).wr RNG_RIDX_PI 0 r).wr RNG_RIDX_CI 0 r).setFetched r []).rng with bell := Tab.put s1.rng.bell r 0 0 } })) ∧
  (∀ (r : Fin 128) (s : State),
    s.on RNG_RCFG_EN r = true → 
    exec (.ringDisable r) s = .next (((s.wr RNG_RCFG_EN 0 r).wr RNG_RSTAT_STATE ringDraining r).each ((s.fetched r).filter (fun d => !d.started && !d.written)) (fun s d => s.descFails r d .abort))) ∧
  (∀ (r : Fin 128) (s : State),
    s.rd RNG_RSTAT_STATE r = ringDraining → (s.fetched r).all (fun d => d.written || d.failed) = true → 
    exec (.ringDrained r) s = .next ((s.wr RNG_RSTAT_STATE ringDisabled r).setFetched r [])) ∧
  (∀ (off : Fin 8192) (v : Word) (r : Nat) (s : State),
    off = 64 * r → s.rd RNG_RSTAT_STATE r = ringRunning → v.toNat < 2 ^ 16 → (v.toNat + 2 ^ 16 - s.rd RNG_RIDX_CI r) % 2 ^ 16 ≤ s.descCount r → 
    exec (.doorbellWrite off v true false) s = .next { s.wr RNG_RIDX_PI v.toNat r with rng := { s.rng with bell := Tab.put s.rng.bell r v.toNat 0 } }) ∧
  (∀ (off : Fin 8192) (v : Word) (whole dis : Bool) (r : Nat) (s : State),
    off = 64 * r → v.toNat ≥ 2 ^ 16 ∨ s.rd RNG_RSTAT_STATE r ≠ ringRunning ∨ (v.toNat + 2 ^ 16 - s.rd RNG_RIDX_CI r) % 2 ^ 16 > s.descCount r → dis = false ∨ s.on RNG_RCFG_EN r = false → 
    exec (.doorbellWrite off v whole dis) s = .next ((s.sat RNG_CNT_COUNT 0).wr RNG_STAT_CFGREJ 1)) ∧
  (∀ (v : Word) (s : State),
    v.toNat < 2 ^ 16 → (s.rd RNG_EVIDX_WR + 2 ^ 16 - v.toNat) % 2 ^ 16 ≤ 2 ^ s.rd RNG_EVCFG_EVSIZE → 
    exec (.eventDoorbellWrite v) s = .next { s.wr RNG_EVIDX_RD v.toNat with rng := { s.rng with evBell := v.toNat } }) ∧
  (∀ (w : Word) (s s1 : State),
    s1 = s.writeReg 0x70008 w.toNat → RNG_EVCFG_EVSIZE.codeOk (bitsOf w.toNat 3 0) = true → s.on RNG_EVCFG_EN = false → s1.on RNG_EVCFG_EN = true → 
    exec (.eventRingEnable w) s = .next ((s1.wr RNG_EVIDX_WR 0).wr RNG_EVIDX_RD 0)) ∧
  (∀ (r : Fin 128) (s0 s : State) (b : List Byte) (i : Nat),
    s0.fetchable r = true → s0.ringTurn (s0.ringMgmt r) = some r.val → s = { s0 with rng := { s0.rng with turn := Tab.put s0.rng.turn (bit (s0.ringMgmt r)) r 127 } } → i = (s.rd RNG_RIDX_CI r + (s.fetched r).length) % 2 ^ 16 → b = s.readSide (s.ringMgmt r) (s.descAddr r i) 32 → (b.getD 31 0).toNat.testBit 7 = true → 
    exec (.descriptorFetch r false) s0 = .next (s.setFetched r (s.fetched r ++ [{ idx := i, bytes := b }]))) ∧
  (∀ (r : Fin 128) (s0 s : State) (b : List Byte) (i : Nat),
    s0.fetchable r = true → s0.ringTurn (s0.ringMgmt r) = some r.val → s = { s0 with rng := { s0.rng with turn := Tab.put s0.rng.turn (bit (s0.ringMgmt r)) r 127 } } → i = (s.rd RNG_RIDX_CI r + (s.fetched r).length) % 2 ^ 16 → b = s.readSide (s.ringMgmt r) (s.descAddr r i) 32 → (b.getD 31 0).toNat.testBit 7 = false → 
    exec (.descriptorFetch r false) s0 = .next ((s.sat RNG_CNT_COUNT 4).stopRing r .notOwn)) ∧
  (∀ (v : Fin 128) (s s1 : State),
    Tab.get s.rng.holding v false = true → s.due (.holdoff v) = true → s1 = { s with rng := { s.rng with holding := Tab.put s.rng.holding v false false, due := Tab.put s.rng.due v false false } } → 
    exec (.holdoffExpiry v) s = .next (if Tab.get s.rng.due v false then s1.sendMsix v else s1))

/-- TX_DESCRIPTOR, the next descriptor of a running TX ring with a fault: it ends with the fault's code. One for a context that is not OPEN ends with NOTOPEN, counted at the context. One for an OPEN context: its payload is read from the ring's side and sent from that context, and it ends with the sequence number and the outcome. A raw one (context 0): its payload is sent as the descriptor says, and it ends with that outcome. RX_DELIVERY of a packet at the port whose ring runs and has a descriptor with a buffer large enough: the payload is in the buffer, the transmission over, and the descriptor ends with the length and source that the rule lays out. A longer packet ends the descriptor with TOOBIG, its true length told, nothing written. With no ring named for it the packet is discarded and counted. RXWAIT_EXPIRY of a packet whose ring does not run, or has no descriptor for RXWAIT x 10 us: it is discarded and counted. Each of these commands is shown to answer a next state with its own effect: txDescriptor, rxDelivery, rxwaitExpiry. -/
def Obligations.TransmitAndReceiveRings : Prop :=
  (∀ (r : Fin 128) (d : Desc) (c : DescStatus) (err : Fin 3) (s : State),
    s.rd RNG_RSTAT_STATE r = ringRunning → s.rd RNG_RCFG_TYPE r = ringTx → s.ringReady r = true → s.portHeld (s.ringPortOf r) = false → s.nextDesc r = some d → s.txFailure r d = some c → 
    exec (.txDescriptor r err) s = .next (s.descFails r d c)) ∧
  (∀ (r : Fin 128) (d : Desc) (err : Fin 3) (s : State),
    s.rd RNG_RSTAT_STATE r = ringRunning → s.rd RNG_RCFG_TYPE r = ringTx → s.ringReady r = true → s.portHeld (s.ringPortOf r) = false → s.nextDesc r = some d → s.txFailure r d = none → d.le 10 1 ≠ 0 → s.rd CTX3_STATE (d.le 10 1) ≠ ctxOpen → 
    exec (.txDescriptor r err) s = .next ((s.sat CTX5_DISCARDS (d.le 10 1)).descFails r d .notOpen)) ∧
  (∀ (r : Fin 128) (d : Desc) (s s1 : State) (out : State × Sent),
    s.rd RNG_RSTAT_STATE r = ringRunning → s.rd RNG_RCFG_TYPE r = ringTx → s.ringReady r = true → s.portHeld (s.ringPortOf r) = false → s.nextDesc r = some d → s.txFailure r d = none → d.le 10 1 ≠ 0 → s.rd CTX3_STATE (d.le 10 1) = ctxOpen → s1 = s.startDesc r d.idx → out = s1.originSend (d.le 10 1) (s1.internalCopy (s.ringPortOf r) (s.rd CTX2_CLASS (d.le 10 1)) (s.readSide (s.ringMgmt r) (d.le 0 8) (d.le 8 2))) (some r.val) → 
    exec (.txDescriptor r 0) s = .next (out.1.txDone r d.idx (s.rd CTX7_SEQ (d.le 10 1)) out.2 false)) ∧
  (∀ (r : Fin 128) (d : Desc) (s : State) (out : State × Sent),
    s.rd RNG_RSTAT_STATE r = ringRunning → s.rd RNG_RCFG_TYPE r = ringTx → s.ringReady r = true → s.portHeld (s.ringPortOf r) = false → s.nextDesc r = some d → s.txFailure r d = none → d.le 10 1 = 0 → out = (s.startDesc r d.idx).rawSend r d (s.readSide (s.ringMgmt r) (d.le 0 8) (d.le 8 2)) → 
    exec (.txDescriptor r 0) s = .next (out.1.txDone r d.idx 0 out.2 false)) ∧
  (∀ (mgmt : Bool) (p r : Nat) (c : Copy) (d : Desc) (s : State),
    p = (if mgmt then 21 else 18) → s.sending p = some c → s.rxRing c = some r → s.rxUsable p r = true → s.ringReady r = true → s.nextDesc r = some d → d.zero 10 29 = true → d.le 8 2 ≠ 0 → d.le 8 2 ≤ 9264 → d.le 31 1 % 64 = 0 → c.hdr.payload.length ≤ d.le 8 2 → 
    exec (.rxDelivery mgmt 0) s = .next (((((s.startDesc r d.idx).completeSend p).writeSide (s.ringMgmt r) (d.le 0 8) c.hdr.payload).ringDone r d.idx ((s.startDesc r d.idx).rxBytes c) 0 false))) ∧
  (∀ (mgmt : Bool) (p r : Nat) (c : Copy) (d : Desc) (err : Fin 3) (s : State),
    p = (if mgmt then 21 else 18) → s.sending p = some c → s.rxRing c = some r → s.rxUsable p r = true → s.ringReady r = true → s.nextDesc r = some d → d.zero 10 29 = true → d.le 8 2 ≠ 0 → d.le 8 2 ≤ 9264 → d.le 31 1 % 64 = 0 → c.hdr.payload.length > d.le 8 2 → err ≠ 2 → 
    exec (.rxDelivery mgmt err) s = .next (((s.startDesc r d.idx).completeSend p).ringDone r d.idx (leBytes 2 c.hdr.payload.length ++ (((s.startDesc r d.idx).rxBytes c).drop 2)) DescStatus.tooBig.code false)) ∧
  (∀ (mgmt : Bool) (p : Nat) (c : Copy) (err : Fin 3) (s : State),
    p = (if mgmt then 21 else 18) → s.sending p = some c → s.rxRing c = none → 
    exec (.rxDelivery mgmt err) s = .next ((s.completeSend p).sat RNG_CNT_COUNT 1)) ∧
  (∀ (mgmt : Bool) (p r : Nat) (c : Copy) (s : State),
    p = (if mgmt then 21 else 18) → s.sending p = some c → s.rxRing c = some r → s.rxUsable p r = false ∨ (s.nextDesc r = none ∧ s.ran (.rxWait (p == 21)) (s.rd RNG_RXCFG_RXWAIT * 10000) = true) → 
    exec (.rxwaitExpiry mgmt) s = .next ((s.completeSend p).sat RNG_CNT_COUNT 1))

/-- WINDOW_ENABLE, EN 1 written to a disabled window with a size code of 16 to 36: the fields are taken, and a window that passes its checks is enabled, another refused with CFGREJ. BRIDGE_READ while the bridge is off is counted and ends with Completer Abort. BRIDGE_READ of a form and place that an enabled window without prefetch takes, with no access waiting and room: the read is held for RDTO and its READ at the far address is issued. BRIDGE_WRITE of a form and place that a window takes, tunnel version 2, nothing waiting or unacknowledged: after the line it touches is dropped, its WRITE at the far address is sent with the next sequence number, waits for its acknowledgement under RTO, and is counted. A write of another form or with byte enables off is dropped, counted and latched as a failed write with cause SIZE. BRIDGE_ACCESS_ISSUE with room for the oldest waiting access: it is issued, and the others wait. BRIDGE_READ_TIMEOUT of a held read, RDTO over: it ends with Completer Abort and is counted. RDATA_RECEIVE, good data for a READ that waits: what its sequence number acknowledges is freed, the READ waits no more, and its held read is answered with the data. MEMORY_ACK_RECEIVE of an ACK that covers unacknowledged messages: they are freed, the retries start anew, and the timer runs for those left, if any. WFAIL_RECEIVE with status RANGE for a WRITE that waits: what it acknowledges is freed, and the failed write latched with its window and address. The first failed write is latched with cause, window, slot and address. A later one is only counted until it is cleared. MEMORY_RTO with RETRY left: the retry is counted, RTO starts anew, and every unacknowledged message is sent again, each counted. With RETRY used up an unacknowledged WRITE is given up and latched as a failed write with cause NORESP. SIGNAL_SEND with GO for an enabled window on tunnel version 2, nothing waiting and room: a SIGNAL of the line is issued. For a disabled window or on version 1 it is refused with CFGREJ. PREFETCH_LINE_EXPIRY of a buffered line whose life is over: it is dropped, and counted as it served no read. MSTAT to a mailbox of a running engine that is not BUSY: BUSY is 1 with opcode 0x40 and the entry, and the timeout of MBXTO milliseconds runs. MCLR to a mailbox of a running engine that is not BUSY: BUSY is 1 with opcode 0x41 and the entry, and the timeout of MBXTO milliseconds runs. Each of these commands is shown to answer a next state with its own effect: windowEnable, bridgeRead, bridgeWrite, bridgeAccessIssue, bridgeReadTimeout, rdataReceive, memoryAckReceive, wfailReceive, memoryRto, signalSend, prefetchLineExpiry, mstat, mclr. -/
def Obligations.BridgeAccesses : Prop :=
  (∀ (w : Fin 16) (v : Word) (s s1 : State),
    s.on BRG_WCTRL_EN w = false → v.toNat.testBit 31 = true → 16 ≤ bitsOf v.toNat 25 20 → bitsOf v.toNat 25 20 ≤ 36 → s1 = s.writeFields false [BRG_WCTRL_PREF, BRG_WCTRL_SIZE, BRG_WCTRL_SVC] w 0 v.toNat → 
    exec (.windowEnable w v) s = .next (if s1.winOk w then s1.wr BRG_WCTRL_EN 1 w else s1.wr BRG_STAT_CFGREJ 1)) ∧
  (∀ (a n : Nat) (s : State),
    s.on BRG_CTRL_EN = false → 
    exec (.bridgeRead false a n) s = .next { (s.sat BRG_CNT_COUNT 0).disarm (.heldRead s.brg.nextId) with brg := { s.brg with nextId := s.brg.nextId + 1, done := (s.brg.nextId, none) :: s.brg.done } }) ∧
  (∀ (mgmt : Bool) (a n w : Nat) (s s1 : State),
    (mgmt && a ≥ 2 ^ 30) = false → s.on BRG_CTRL_EN = true → s.dmaRuns = true → readForm a n = true → s.winOf a n = some w → s.on BRG_WCTRL_PREF w = false → s1 = ({ s with brg := { s.brg with nextId := s.brg.nextId + 1 } } : State).arm (.heldRead s.brg.nextId) (s.rd BRG_TIM_RDTO w * 1000) → (s1.memWaiting (s.rd BRG_WCTRL_SVC w)).isEmpty = true → s1.memRoom (s.rd BRG_WCTRL_SVC w) { kind := memRead, win := w, addr := s.winFar w + (a - s.winBase w), off := a, bytes := n, read := some { id := s.brg.nextId, win := w, off := a, bytes := n } } = true → 
    exec (.bridgeRead mgmt a n) s = .next (s1.memIssue (s.rd BRG_WCTRL_SVC w) { kind := memRead, win := w, addr := s.winFar w + (a - s.winBase w), off := a, bytes := n, read := some { id := s.brg.nextId, win := w, off := a, bytes := n } })) ∧
  (∀ (mgmt : Bool) (a w : Nat) (data : List Byte) (e : Nat) (s s1 : State),
    (mgmt && a ≥ 2 ^ 30) = false → s.on BRG_CTRL_EN = true → s.dmaRuns = true → writeForm a data.length = true → s.winOf a data.length = some w → s1 = s.linesDrop w (fun x => x.off / 64 == a / 64) → e = s1.rd BRG_WCTRL_SVC w → (s1.memWaiting e).isEmpty = true → s1.svcTakes e = true → s1.memV1 e = false → s1.memUnack e = [] → 
    exec (.bridgeWrite mgmt a data true) s = .next ((((((s1.setMemUnack e [{ kind := memWriteMsg, win := w, addr := s1.winFar w + (a - s1.winBase w), off := a, bytes := data.length, data := data, mseq := Tab.get s1.brg.mseq e 0 }]).setMemSeq e ((Tab.get s1.brg.mseq e 0 + 1) % 65536)).arm (.memory e) (s1.param e 2 1 * 100000)).memCount e 1 1).memSend e { kind := memWriteMsg, win := w, addr := s1.winFar w + (a - s1.winBase w), off := a, bytes := data.length, data := data, mseq := Tab.get s1.brg.mseq e 0 }))) ∧
  (∀ (mgmt : Bool) (a w : Nat) (data : List Byte) (whole : Bool) (s : State),
    (mgmt && a ≥ 2 ^ 30) = false → s.on BRG_CTRL_EN = true → s.dmaRuns = true → writeForm a data.length = false ∨ whole = false → s.winOf a 1 = some w → 
    exec (.bridgeWrite mgmt a data whole) s = .next ((s.sat BRG_CNT_COUNT 1).writeFail .size (some w) (some (s.winFar w + (a - s.winBase w))))) ∧
  (∀ (e : Fin 128) (m : MemMsg) (l : List MemMsg) (s : State),
    s.memWaiting e = m :: l → s.memRoom e m = true → 
    exec (.bridgeAccessIssue e) s = .next ((s.setMemWaiting e l).memIssue e m)) ∧
  (∀ (id e : Nat) (m : MemMsg) (h : HeldRead) (s : State),
    s.brg.reads = [(e, [m])] → s.brg.wait = [] → m.read = some h → h.id = id → s.due (.heldRead id) = true → 
    exec (.bridgeReadTimeout id) s = .next { (s.sat BRG_CNT_COUNT 2).disarm (.heldRead id) with brg := { s.brg with reads := [], wait := [], done := (id, none) :: s.brg.done } }) ∧
  (∀ (e : Fin 128) (p : Packet) (r : MemIn) (m : MemMsg) (s s1 : State),
    s.memTake e 0 [memRdata] = (s1, some p) → r = memParse p.payload → s1.memV1 e = false → ((s1.memAcked e r.mseq).memReads e).find? (fun m => m.tag == r.tag && m.mseq == r.mseq) = some m → r.status = 0 → r.data.length = m.bytes → 
    exec (.rdataReceive e) s = .next (((s1.memAcked e r.mseq).setMemReads e (((s1.memAcked e r.mseq).memReads e).erase m)).memAnswer m (some r.data))) ∧
  (∀ (e : Fin 128) (p : Packet) (l : List MemMsg) (s s1 : State),
    s.memTake e 0 [memAck] = (s1, some p) → l = (s1.memUnack e).filter (fun m => decide (signedOf 16 ((m.mseq + 65536 - (memParse p.payload).mseq) % 65536) > 0)) → l.length ≠ (s1.memUnack e).length → 
    exec (.memoryAckReceive e) s = .next (((s1.setMemUnack e l).setMemTries e 0).memTimer e)) ∧
  (∀ (e : Fin 128) (p : Packet) (r : MemIn) (m : MemMsg) (s s1 : State),
    s.memTake e 0 [memWfail] = (s1, some p) → r = memParse p.payload → s1.memV1 e = false → (s1.memUnack e).find? (fun m => m.kind == memWriteMsg && m.mseq == r.mseq) = some m → r.status = 1 → 
    exec (.wfailReceive e) s = .next ((s1.memAcked e r.mseq).writeFail .range (some m.win) (some r.addr))) ∧
  (∀ (c : WfCause) (w a : Nat) (s : State),
    s.on BRG_STAT_WFEV = true → s.on BRG_WFINFO_VALID = false → 
    s.writeFail c (some w) (some a) = (((((s.wr BRG_WFINFO_VALID 1).wr BRG_WFINFO_CAUSE c.code).wr BRG_WFINFO_WIN w).wr BRG_WFINFO_SLOT (((((s.wr BRG_WFINFO_VALID 1).wr BRG_WFINFO_CAUSE c.code).wr BRG_WFINFO_WIN w).rd TEN_SVC1_TXSLOT (((((s.wr BRG_WFINFO_VALID 1).wr BRG_WFINFO_CAUSE c.code).wr BRG_WFINFO_WIN w)).rd BRG_WCTRL_SVC w)))).wr BRG_WFADDR_LO_ADDR a).wr BRG_WFADDR_HI_ADDR (a / 2 ^ 32)) ∧
  (∀ (c : WfCause) (w a : Option Nat) (s : State),
    s.on BRG_STAT_WFEV = true → s.on BRG_WFINFO_VALID = true → 
    s.writeFail c w a = s.sat BRG_WFINFO_COUNT) ∧
  (∀ (e : Fin 128) (s : State),
    (s.memUnack e).isEmpty = false → s.svcRuns e = true → s.due (.memory e) = true → Tab.get s.brg.tries e 0 < s.param e 3 1 → 
    exec (.memoryRto e) s = .next ((((s.memTimer e).setMemTries e (Tab.get s.brg.tries e 0 + 1)).memCount e 3 (s.memUnack e).length).each (s.memUnack e) (fun s m => s.memSend e m))) ∧
  (∀ (e : Fin 128) (m : MemMsg) (s : State),
    s.memUnack e = [m] → s.svcRuns e = true → s.due (.memory e) = true → Tab.get s.brg.tries e 0 ≥ s.param e 3 1 → m.kind = memWriteMsg → 
    exec (.memoryRto e) s = .next ((((s.setMemUnack e []).setMemTries e 0).memTimer e).writeFail .noResp (some m.win) (some m.addr))) ∧
  (∀ (v : Word) (w e : Nat) (s : State),
    v.toNat.testBit 31 = true → w = bitsOf v.toNat 27 24 → e = s.rd BRG_WCTRL_SVC w → s.on BRG_WCTRL_EN w = true → s.memV1 e = false → (s.memWaiting e).isEmpty = true → s.svcTakes e = true → (s.memUnack e).length < 64 → 
    exec (.signalSend v) s = .next (s.memIssue e { kind := memSignal, win := w, line := bitsOf v.toNat 4 0 })) ∧
  (∀ (v : Word) (w e : Nat) (s : State),
    v.toNat.testBit 31 = true → w = bitsOf v.toNat 27 24 → e = s.rd BRG_WCTRL_SVC w → s.on BRG_WCTRL_EN w = false ∨ s.memV1 e = true → 
    exec (.signalSend v) s = .next (s.wr BRG_STAT_CFGREJ 1)) ∧
  (∀ (w : Fin 16) (line : Nat) (s : State),
    s.lineBufs w = [{ off := 64 * line, data := [], used := false }] → s.due (.line w (64 * line)) = true → 
    exec (.prefetchLineExpiry w line) s = .next (((s.sat BRG_CNT_COUNT 4).setLineBufs w []).disarm (.line w (64 * line)))) ∧
  (∀ (n : Fin 16) (m : Fin 2) (e : Fin 128) (s : State),
    s.on ENG_MBX_BUSY n m = false → s.rd ENG_STAT_STATE n = engRun → Tab.sorted s.regs = true → 
    ∃ t, exec (.mstat n m e) s = .next t ∧ t.on ENG_MBX_BUSY n m = true ∧ t.rd ENG_MBX_OPCODE n m = 0x40 ∧ t.rd ENG_MBX_SVC n m = e ∧ Tab.get t.ten.req (2 * n + m) (0, 0) = (0x40, e.val) ∧ t.deadline (.mailbox n m) = some (s.tmu.elapsed + s.rd ENG_CTRL_MBXTO n * 1000000 * 2 ^ 32)) ∧
  (∀ (n : Fin 16) (m : Fin 2) (e : Fin 128) (s : State),
    s.on ENG_MBX_BUSY n m = false → s.rd ENG_STAT_STATE n = engRun → Tab.sorted s.regs = true → 
    ∃ t, exec (.mclr n m e) s = .next t ∧ t.on ENG_MBX_BUSY n m = true ∧ t.rd ENG_MBX_OPCODE n m = 0x41 ∧ t.rd ENG_MBX_SVC n m = e ∧ Tab.get t.ten.req (2 * n + m) (0, 0) = (0x41, e.val) ∧ t.deadline (.mailbox n m) = some (s.tmu.elapsed + s.rd ENG_CTRL_MBXTO n * 1000000 * 2 ^ 32))

/-- MEMORY_READ_RECEIVE at a far service on version 2, the next message the READ with the expected MSEQ, in range, in the memory function: it is counted, its bytes are read from host memory, answered with RDATA and kept for a repeated READ, and the next MSEQ is expected. MEMORY_WRITE_RECEIVE of such a WRITE: host memory holds its data at FBASE + address and is else unchanged, and the next MSEQ is expected. SIGNAL_RECEIVE of such a SIGNAL: it is counted, its line set with SIGEV, and it is acknowledged with the others. A WRITE in range changes host memory at FBASE + address and only there. Out of range it changes nothing and gives RANGE. A READ in range gives the bytes of host memory. A READ just executed is answered again with the same bytes. A message ahead of the expected one is held. MEMORY_ACK_SEND with 16 executions owed, or any after the ACK timer: an ACK of the last MSEQ executed is sent, and none is owed. MEMORY_HOLD_EXPIRY of held messages on version 1, 2 ms after: they execute in their order, those missing counted as errors, and the next number follows them. Each of these commands is shown to answer a next state with its own effect: memoryReadReceive, memoryWriteReceive, signalReceive, memoryAckSend, memoryHoldExpiry. -/
def Obligations.FarMemoryService : Prop :=
  (∀ (e : Fin 128) (p : Packet) (m r : MemIn) (s s1 : State),
    s.svcRuns e = true → s.rd TEN_SVC0_TYPE e = tyMemory → s.memRole e = 1 → s.farReady e = true → (s.inbox (s.svcEngine e)).find? (fun x => x.1 == e.val) = some (e.val, p) → memGood false p.payload = true → s.memV1 e = false → m = memParse p.payload → m.ty = memRead → s.farHeld e = [] → m.addr + m.bytes ≤ s1.farSpan e → s1.farFunc e = 0 → r = { ty := memRdata, tag := m.tag, mseq := m.mseq, bytes := m.bytes, status := mstOk, addr := m.addr, data := Memory.read s1.host (s1.farBase e + m.addr) m.bytes } → m.mseq = (Tab.get s.brg.next e none).getD 0 → s1 = { (s.takeInbound e).1 with brg := { s.brg with heardAt := Tab.put s.brg.heardAt e s.tmu.elapsed 0 } } → 
    exec (.memoryReadReceive e false) s = .next ((({ s1.memCount e 0 1 with brg := { (s1.memCount e 0 1).brg with kept := Tab.put s1.brg.kept (32 * e + m.tag) (some (m.mseq, memBytes r)) none } } : State).farAnswer e r).setFarNext e (some ((m.mseq + 1) % 65536)))) ∧
  (∀ (e : Fin 128) (p : Packet) (m : MemIn) (s s1 : State),
    s.svcRuns e = true → s.rd TEN_SVC0_TYPE e = tyMemory → s.memRole e = 1 → s.farReady e = true → (s.inbox (s.svcEngine e)).find? (fun x => x.1 == e.val) = some (e.val, p) → memGood false p.payload = true → s.memV1 e = false → m = memParse p.payload → m.ty = memWriteMsg → s.farHeld e = [] → m.addr + m.data.length ≤ s1.farSpan e → s1.farFunc e = 0 → m.mseq = (Tab.get s.brg.next e none).getD 0 → s1 = { (s.takeInbound e).1 with brg := { s.brg with heardAt := Tab.put s.brg.heardAt e s.tmu.elapsed 0 } } → 
    ∃ t, exec (.memoryWriteReceive e false) s = .next t ∧ t.host = Memory.write s.host (s1.farBase e + m.addr) m.data ∧ t.dram = s.dram ∧ Tab.get t.brg.next e none = some ((m.mseq + 1) % 65536)) ∧
  (∀ (e : Fin 128) (p : Packet) (m : MemIn) (s s1 : State),
    s.svcRuns e = true → s.rd TEN_SVC0_TYPE e = tyMemory → s.memRole e = 1 → s.farReady e = true → (s.inbox (s.svcEngine e)).find? (fun x => x.1 == e.val) = some (e.val, p) → memGood false p.payload = true → s.memV1 e = false → m = memParse p.payload → m.ty = memSignal → s.farHeld e = [] → m.mseq = (Tab.get s.brg.next e none).getD 0 → s1 = { (s.takeInbound e).1 with brg := { s.brg with heardAt := Tab.put s.brg.heardAt e s.tmu.elapsed 0 } } → 
    exec (.signalReceive e false) s = .next ((((((s1.memCount e 2 1).putBit BRG_SIGRX_LINES m.line true).brgEvent BRG_STAT_SIGEV)).ackOwed e).setFarNext e (some ((m.mseq + 1) % 65536)))) ∧
  (∀ (e a : Nat) (d : List Byte) (s : State),
    a + d.length ≤ s.farSpan e → s.farFunc e = 0 → 
    s.farWrite e a d false = ({ s with host := Memory.write s.host (s.farBase e + a) d }, mstOk)) ∧
  (∀ (e a : Nat) (d : List Byte) (err : Bool) (s : State),
    a + d.length > s.farSpan e → 
    s.farWrite e a d err = (s, mstRange)) ∧
  (∀ (e a n : Nat) (s : State),
    a + n ≤ s.farSpan e → s.farFunc e = 0 → 
    s.farRead e a n false = (s, mstOk, Memory.read s.host (s.farBase e + a) n)) ∧
  (∀ (e : Nat) (bs : List Byte) (m : MemIn) (quiet err : Bool) (r : List Byte) (s : State),
    m = memParse bs → m.ty = memRead → Tab.get s.brg.next e none = some ((m.mseq + 1) % 65536) → m.mseq < 65536 → Tab.get s.brg.kept (32 * e + m.tag) none = some (m.mseq, r) → 
    s.farArrive2 e bs quiet err = s.engineSend e r) ∧
  (∀ (e : Nat) (bs : List Byte) (m : MemIn) (quiet err : Bool) (s : State),
    m = memParse bs → Tab.get s.brg.next e none = some ((m.mseq + 65535) % 65536) → m.mseq < 65536 → (s.farHeld e).any (fun y => y.1 == m.mseq) = false → (s.farHeld e).length < 64 → 
    s.farArrive2 e bs quiet err = s.setFarHeld e (s.farHeld e ++ [(m.mseq, bs)])) ∧
  (∀ (e : Fin 128) (s : State),
    s.svcRuns e = true → s.rd TEN_SVC0_TYPE e = tyMemory → s.memRole e = 1 → s.memV1 e = false → 0 < Tab.get s.brg.toAck e 0 → 16 ≤ Tab.get s.brg.toAck e 0 ∨ s.due (.memAck e) = true → 
    exec (.memoryAckSend e) s = .next ((s.setToAck e 0).engineSend e (memBytes { ty := memAck, mseq := ((Tab.get s.brg.next e none).getD 0 + 65535) % 65536 }))) ∧
  (∀ (e : Fin 128) (p : Nat) (err : Bool) (f : State × Nat) (s : State),
    Tab.get s.brg.next e none = some p → s.farHeld e ≠ [] → s.svcRuns e = true → s.memV1 e = true → s.farReady e = true → s.due (.memHold e) = true → f = s.farFlush e p err → 
    exec (.memoryHoldExpiry e err) s = .next ((f.1.farErr e ((f.2 + 65536 - p) % 65536 - (s.farHeld e).length)).setFarNext e (some f.2)))

/-- DMA_ENABLE of a channel that is OFF: EN is 1 and the channel IDLE. DMA_DISABLE of an enabled channel with no descriptor in hand: EN is 0, the channel OFF, VALID 0, and DONE, FADDR and FINFO hold open values. SHADOW_VALID outside ring mode: VALID takes the value written. SHADOW_VALID in ring mode: the write is ignored, LATEWR set and counted. DMA_LOAD of a complete shadow into an idle enabled channel, the copied set passing every check and starting at once: the shadow is copied and the channel ACTIVE. A copied set that fails a check is counted, and the transfer ends with the code of that check. DMA_START_AT of a waiting channel within 2 ns of its instant: it is ACTIVE. From 2 ns after its instant on it is ACTIVE and LATE. DMA_RESUME of a halted channel outside ring mode with no interrupt asked for and no transfer waiting: it ends with BUSERR and DONEEV, IDLE. The end of a transfer outside ring mode without interrupt: its code, DONEEV, IDLE. DMA_TRANSFER_DONE of an active channel, no access stopping the movement, no interrupt asked for and no transfer waiting: DONE shows the bytes moved, and it ends OK with DONEEV, IDLE. A COMPARE that meets a difference: DONE shows the bytes before it, FADDR its address, and the transfer ends with MISMATCH. DMA_BUS_ERROR with cause 0 on the first access of the destination: DONE is 0, FINFO and FADDR tell the failing access, the channel is HALTED with HALTEV, the error counted, and its interrupt raised. A channel halts: FINFO and FADDR tell the failing access, it is HALTED with HALTEV, counted, and its interrupt raised. DRAM_TRAINING_START, a write that changes DEVSZ: the register is written, READY is 0 and fault 11 no longer has its cause. DRAM_TRAINING_DONE of a training that runs and succeeds: READY is 1, and fault 11 has no cause. Of one that fails: fault 11 has its cause. DRAM_SCRUB that finds one corrected word and the uncorrectable word a, DRAM in service and the scrub on: the first is counted and reported as fault 12, and word a is counted and reported. The first uncorrectable word is counted, latched with its address, and reported as fault 13. Each of these commands is shown to answer a next state with its own effect: dmaEnable, dmaDisable, shadowValid, dmaLoad, dmaStartAt, dmaResume, dmaTransferDone, dmaBusError, dramTrainingStart, dramTrainingDone, dramScrub. -/
def Obligations.DmaChannels : Prop :=
  (∀ (n : Fin 32) (s : State),
    s.on DMC_CTRL_EN n = false → 
    exec (.dmaEnable n) s = .next ((s.wr DMC_CTRL_EN 1 n).wr DMC_STAT_STATE dmaIdle n)) ∧
  (∀ (n : Fin 32) (s s1 s2 s3 : State),
    s.on DMC_CTRL_EN n = true → Tab.get s.dma.cur n none = none → Tab.get s.dma.next n none = none → s1 = (s.wr DMC_CTRL_EN 0 n).wr DMC_STAT_STATE dmaOff n → s2 = (((s1.wrFree DMC_DONE_BYTES n).wrFree DMC_FADDR_LO_ADDR n).wrFree DMC_FADDR_HI_ADDR n).wr DMS_SHCTRL_VALID 0 n → s3 = (((s2.wrFree DMC_FINFO_DIR n).wrFree DMC_FINFO_SIDE n).wrFree DMC_FINFO_SPACE n).wrFree DMC_FINFO_CAUSE n → 
    exec (.dmaDisable n) s = .next { s3 with dma := { s3.dma with cur := Tab.put s3.dma.cur n none none, next := Tab.put s3.dma.next n none none } }) ∧
  (∀ (n : Fin 32) (v : Bool) (s : State),
    s.on DMC_CTRL_RING n = false → 
    exec (.shadowValid n v) s = .next (s.wr DMS_SHCTRL_VALID (bit v) n)) ∧
  (∀ (n : Fin 32) (v : Bool) (s : State),
    s.on DMC_CTRL_RING n = true → 
    exec (.shadowValid n v) s = .next ((s.wr DMC_STAT_LATEWR 1 n).sat DMA_CNT_COUNT 2)) ∧
  (∀ (n : Fin 32) (s : State),
    s.dmaRuns = true → s.on DMC_CTRL_EN n = true → s.on DMC_CTRL_RING n = false → s.on DMS_SHCTRL_VALID n = true → s.rd DMC_STAT_STATE n = dmaIdle → (s.dmaCopy n).dmaBadDesc n = false → (s.dmaCopy n).dmaFailure n = none → (s.dmaCopy n).on DMX_OPW_AT n = false → 
    exec (.dmaLoad n) s = .next ((s.dmaCopy n).wr DMC_STAT_STATE dmaActive n)) ∧
  (∀ (n : Fin 32) (c : DmaCode) (s : State),
    s.dmaRuns = true → s.on DMC_CTRL_EN n = true → s.on DMC_CTRL_RING n = false → s.on DMS_SHCTRL_VALID n = true → s.rd DMC_STAT_STATE n = dmaIdle → (s.dmaCopy n).dmaBadDesc n = false → (s.dmaCopy n).dmaFailure n = some c → 
    exec (.dmaLoad n) s = .next (((s.dmaCopy n).sat DMA_CNT_COUNT 0).dmaFinish n c)) ∧
  (∀ (n : Fin 32) (s : State),
    s.rd DMC_STAT_STATE n = dmaWait → s.tmu.tod.units ≥ Tab.get s.dma.start n 0 * 2 ^ 32 → s.tmu.tod.units < Tab.get s.dma.start n 0 * 2 ^ 32 + 2 * 2 ^ 32 → 
    exec (.dmaStartAt n) s = .next (s.wr DMC_STAT_STATE dmaActive n)) ∧
  (∀ (n : Fin 32) (s : State),
    s.rd DMC_STAT_STATE n = dmaWait → s.tmu.tod.units ≥ Tab.get s.dma.start n 0 * 2 ^ 32 + 2 * 2 ^ 32 → 
    exec (.dmaStartAt n) s = .next ((s.wr DMC_STAT_STATE dmaActive n).wr DMC_STAT_LATE 1 n)) ∧
  (∀ (n : Fin 32) (s : State),
    s.rd DMC_STAT_STATE n = dmaHalted → s.on DMS_SHCTRL_VALID n = false → Tab.get s.dma.cur n none = none → s.on DMX_OPW_IRQ n = false → 
    exec (.dmaResume n) s = .next (((s.wr DMC_STAT_CODE (DmaCode.code .busErr) n).wr DMC_STAT_DONEEV 1 n).wr DMC_STAT_STATE dmaIdle n)) ∧
  (∀ (n : Fin 32) (c : DmaCode) (s : State),
    Tab.get s.dma.cur n none = none → s.on DMX_OPW_IRQ n = false → 
    s.dmaFinish n c = ((s.wr DMC_STAT_CODE c.code n).wr DMC_STAT_DONEEV 1 n).wr DMC_STAT_STATE dmaIdle n) ∧
  (∀ (n : Fin 32) (k : Nat) (s s1 : State),
    s.dmaMoves n = true → s.dmaMove n (s.dmaUnits n) 0 = (s1, k, .done) → s1.on DMS_SHCTRL_VALID n = false → Tab.get s1.dma.cur n none = none → s1.on DMX_OPW_IRQ n = false → 
    exec (.dmaTransferDone n) s = .next ((((s1.wr DMC_DONE_BYTES (k * s1.dmaUnit n) n).wr DMC_STAT_CODE (DmaCode.code .ok) n).wr DMC_STAT_DONEEV 1 n).wr DMC_STAT_STATE dmaIdle n)) ∧
  (∀ (n : Fin 32) (k a j : Nat) (s s1 : State),
    s.dmaMoves n = true → s.dmaMove n (s.dmaUnits n) 0 = (s1, k, .differ a j) → 
    exec (.dmaTransferDone n) s = .next ((((s1.wr DMC_DONE_BYTES (k * s1.dmaUnit n + j) n).wr DMC_FADDR_LO_ADDR a n).wr DMC_FADDR_HI_ADDR (a / 2 ^ 32) n).dmaEnd n .mismatch)) ∧
  (∀ (n : Fin 32) (a : Nat) (s s1 s2 s3 : State),
    s.dmaMoves n = true → s.dmaErrFits n true 0 = true → 0 < s.dmaUnits n → a = (s.dmaDst n).at (s.dmaPlace n 0) → s1 = ((((s.wr DMC_DONE_BYTES 0 n).wr DMC_FINFO_DIR (bit (s.dmaOp n != opCompare)) n).wr DMC_FINFO_SIDE 1 n).wr DMC_FINFO_SPACE (s.rd DMX_OPW_DSPACE n) n).wr DMC_FINFO_CAUSE dmaPcie n → s2 = (s1.wr DMC_FADDR_LO_ADDR a n).wr DMC_FADDR_HI_ADDR (a / 2 ^ 32) n → s3 = ((s2.wr DMC_STAT_STATE dmaHalted n).wr DMC_STAT_HALTEV 1 n).sat DMA_CNT_COUNT 1 → 
    exec (.dmaBusError n 0 true 0) s = .next (s3.irq (32 + n) n (s3.dmaStat n))) ∧
  (∀ (n : Nat) (write dest : Bool) (cause addr : Nat) (s s1 s2 s3 : State),
    s1 = (((s.wr DMC_FINFO_DIR (bit write) n).wr DMC_FINFO_SIDE (bit dest) n).wr DMC_FINFO_SPACE (if dest then s.rd DMX_OPW_DSPACE n else s.rd DMX_OPW_SSPACE n) n).wr DMC_FINFO_CAUSE cause n → s2 = (s1.wr DMC_FADDR_LO_ADDR addr n).wr DMC_FADDR_HI_ADDR (addr / 2 ^ 32) n → s3 = ((s2.wr DMC_STAT_STATE dmaHalted n).wr DMC_STAT_HALTEV 1 n).sat DMA_CNT_COUNT 1 → 
    s.dmaHaltAt n write dest cause addr = s3.irq (32 + n) n (s3.dmaStat n)) ∧
  (∀ (w : Word) (s s1 : State),
    s1 = s.writeReg 0x230000 w.toNat → s1.rd DRC_CTRL_DEVSZ ≠ s.rd DRC_CTRL_DEVSZ → 
    exec (.dramTrainingStart w) s = .next ((s1.wr DRC_STAT_READY 0).causeOff 11)) ∧
  (∀ (s : State),
    s.rd DRC_CTRL_DEVSZ ≠ 0 → s.on DRC_STAT_READY = false → Tab.get s.flt.cause 11 false = false → 
    exec (.dramTrainingDone true) s = .next ((s.wr DRC_STAT_READY 1).causeOff 11)) ∧
  (∀ (s : State),
    s.rd DRC_CTRL_DEVSZ ≠ 0 → s.on DRC_STAT_READY = false → Tab.get s.flt.cause 11 false = false → 
    exec (.dramTrainingDone false) s = .next (s.causeOn 11 0)) ∧
  (∀ (a : Nat) (s s1 : State),
    s.on DRC_CTRL_SCRUB = true → s.on DRC_STAT_READY = true → s1 = (s.sat DRC_CNT_COUNT 0).fault 12 0 → 
    exec (.dramScrub 1 [a]) s = .next (s1.dramUnc a)) ∧
  (∀ (a : Nat) (s : State),
    s.on DRC_STAT_UNCEV = false → 
    s.dramUnc a = (((((s.sat DRC_CNT_COUNT 1).wr DRC_STAT_UNCEV 1).wr DRC_ECCADDR_LO_ADDR (a / 64)).wr DRC_ECCADDR_HI_ADDR (a / 2 ^ 32)).fault 13 0))

/-- An ACTIVE channel with a FILL of one line in host memory, which is to raise no interrupt, has no descriptor in hand and no further transfer waiting, in a sound state: after DMA_TRANSFER_DONE it is IDLE, each byte of the destination holds the byte of the pattern at its address modulo 8, every other byte of host memory reads as before, and DRAM, scratchpad and management SRAM are unchanged. Each of these commands is shown to answer a next state with its own effect: dmaTransferDone. -/
def Obligations.DmaFillWritesItsDestination : Prop :=
  ∀ (n : Fin 32) (b : DmaSide) (s : State),
    s.dmaMoves n = true → s.dmaOp n = opFill → s.dmaDst n = b → b.space = spHost → b.lines = 1 → Tab.get s.dma.cur n none = none → s.on DMX_OPW_IRQ n = false → s.on DMS_SHCTRL_VALID n = false → s.Sound → 
    ∃ t, exec (.dmaTransferDone n) s = .next t ∧ t.rd DMC_STAT_STATE n = dmaIdle ∧ (∀ a, Memory.byte t.host a = if b.addr ≤ a ∧ a < b.addr + b.line then BitVec.ofNat 8 ((s.rd DMX_SRC_HI_ADDR n * 2 ^ 32 + s.rd DMX_SRC_LO_ADDR n) / 256 ^ (a % 8)) else Memory.byte s.host a) ∧ t.dram = s.dram ∧ t.pad = s.pad ∧ t.sram = s.sram

/-- HASH while a command runs is refused with CMDREJ. HASH with nothing running, no reset asked for and lengths and buffers in order: the SHA-384 digest of the input stands at KEY_OUT, and the command runs to its end with OK and 48 bytes. HMAC with a sound slot of MAC usage: the HMAC-SHA-384 of the input under its key stands at KEY_OUT, OK with 48 bytes. KDF from a usable source into a free slot: the slot holds the derived key of 32 bytes with the usage of the policy register, the shown INUSE bits follow, OK. KDFEC into a free pair: the pair holds the derived scalar with the usage of the policy register, OK. KEYGEN into a free pair with good random bits: the pair holds the scalar made from fresh free bits, OK. KEYGEN whose random source fails: counted, fault 112 raised, TRNG. PUBKEY of a pair that may sign or agree: its public point stands at KEY_OUT, OK with 96 bytes. SIGN with a signing pair of a digest of 48 bytes: an ECDSA signature with a nonce from fresh free bits stands at KEY_OUT, OK with 96 bytes. VERIFY of 240 bytes: it ends with POINT where the key is no point of the curve, else OK where the signature is good, else BADSIG. ECDHKDF with a pair for agreement into a free slot: with a good peer point the slot holds the key derived from the shared secret, OK; else POINT. RANDOM of 1 to 4,096 bytes: fresh free bytes stand at KEY_OUT, OK with their number. DESTROY of a key that is not in use: every slot of its group is empty, OK. IMGVER of an image that no running engine was started with: the image is checked, and the command ends with the code of the check. An image longer than 256 blocks is not VERIFIED: FORMAT. IMGVER of an image longer than 256 blocks: VERIFIED is 0, and the command ends with FORMAT. KEY_COMMAND_DONE of a running command: BUSY is 0, CODE and OUTLEN show its end, and DONE is 1. SLOT_CHECK_SWEEP where every slot in use matches its check changes nothing. Where one single slot fails its check: it is BAD, its key zero, counted, and its fault raised. Each of these commands is shown to answer a next state with its own effect: hash, hmac, kdf, kdfec, keygen, pubkey, sign, verify, ecdhkdf, random, destroy, imgver, keyCommandDone, slotCheckSweep. -/
def Obligations.KeyCommands : Prop :=
  (∀ (s : State),
    s.on KEY_CMDSTAT_BUSY = true → 
    exec .hash s = .next (s.wr KEY_STAT_CMDREJ 1)) ∧
  (∀ (s : State),
    s.on KEY_CMDSTAT_BUSY = false → s.on KEY_STAT_RESETREQ = false → s.lengthCode (s.rd KEY_INLEN_LEN ≤ 65536) 48 = .ok → 
    exec .hash s = .next ((s.keyOut (padTo 48 (sha384 s.keyInput))).keyEnd .ok 48)) ∧
  (∀ (a : Fin 128) (s : State),
    s.on KEY_CMDSTAT_BUSY = false → s.on KEY_STAT_RESETREQ = false → s.sourceSlot a useMac false = (s, .ok) → s.lengthCode (s.rd KEY_INLEN_LEN ≤ 65536) 48 = .ok → 
    exec (.hmac a) s = .next ((s.keyOut (padTo 48 (hmac384 (s.slotKey a) s.keyInput))).keyEnd .ok 48)) ∧
  (∀ (a b : Fin 128) (k label ctx : List Byte) (s : State),
    s.on KEY_CMDSTAT_BUSY = false → s.on KEY_STAT_RESETREQ = false → s.kdfSource a = (s, .ok, k) → s.destCode b false = .ok → s.lengthCode (s.rd KEY_INLEN_LEN ≤ 65536) 0 = .ok → State.labelBlock s.keyInput (if a ≥ 64 then 63 else 64) = some (label, ctx) → 
    exec (.kdf a b) s = .next (((s.fillSlot b (padTo 32 (kdf k label (s.kdfContext a ctx) 256)) (s.rd KEY_POL_USAGE) false).slotsShow).keyEnd .ok 0)) ∧
  (∀ (a b : Fin 128) (k label ctx : List Byte) (s : State),
    s.on KEY_CMDSTAT_BUSY = false → s.on KEY_STAT_RESETREQ = false → s.kdfSource a = (s, .ok, k) → s.destCode b true = .ok → s.lengthCode (s.rd KEY_INLEN_LEN ≤ 65536) 0 = .ok → State.labelBlock s.keyInput (if a ≥ 64 then 63 else 64) = some (label, ctx) → 
    exec (.kdfec a b) s = .next (((s.fillPair b (State.scalarOf (ofBe (kdf k label (s.kdfContext a ctx) 448))) (s.rd KEY_POL_USAGE)).slotsShow).keyEnd .ok 0)) ∧
  (∀ (b : Fin 128) (s : State),
    s.on KEY_CMDSTAT_BUSY = false → s.on KEY_STAT_RESETREQ = false → s.destCode b true = .ok → 
    exec (.keygen b true) s = .next ((((s.free 448).2.fillPair b (State.scalarOf (s.free 448).1) (s.rd KEY_POL_USAGE)).slotsShow).keyEnd .ok 0)) ∧
  (∀ (b : Fin 128) (s : State),
    s.on KEY_CMDSTAT_BUSY = false → s.on KEY_STAT_RESETREQ = false → s.destCode b true = .ok → 
    exec (.keygen b false) s = .next (((s.sat KEY_CNT_COUNT 3).fault 112 0).keyEnd .trng 0)) ∧
  (∀ (a : Fin 128) (s : State),
    s.on KEY_CMDSTAT_BUSY = false → s.on KEY_STAT_RESETREQ = false → s.pairSource a useSign useEcdh = (s, .ok) → State.bufferOk (s.rd KEY_OUT_ADDR) 96 = true → 
    exec (.pubkey a) s = .next ((s.keyOut (padTo 96 (p384Public (s.pairScalar a)))).keyEnd .ok 96)) ∧
  (∀ (a : Fin 128) (s : State),
    s.on KEY_CMDSTAT_BUSY = false → s.on KEY_STAT_RESETREQ = false → s.pairSource a useSign useSign = (s, .ok) → s.lengthCode (s.rd KEY_INLEN_LEN = 48) 96 = .ok → 
    exec (.sign a) s = .next (((s.free 384).2.keyOut (padTo 96 (p384Sign (s.pairScalar a) s.keyInput (s.free 384).1))).keyEnd .ok 96)) ∧
  (∀ (s : State),
    s.on KEY_CMDSTAT_BUSY = false → s.on KEY_STAT_RESETREQ = false → s.lengthCode (s.rd KEY_INLEN_LEN = 240) 0 = .ok → 
    exec .verify s = .next (if !p384OnCurve (s.keyInput.take 96) then s.keyEnd .point 0 else if p384Verify (s.keyInput.take 96) ((s.keyInput.drop 96).take 48) (s.keyInput.drop 144) then s.keyEnd .ok 0 else s.keyEnd .badSig 0)) ∧
  (∀ (a b : Fin 128) (label ctx : List Byte) (s : State),
    s.on KEY_CMDSTAT_BUSY = false → s.on KEY_STAT_RESETREQ = false → s.pairSource a useEcdh useEcdh = (s, .ok) → s.destCode b false = .ok → s.lengthCode (96 ≤ s.rd KEY_INLEN_LEN && s.rd KEY_INLEN_LEN ≤ 65536) 0 = .ok → State.labelBlock (s.keyInput.drop 96) 64 = some (label, ctx) → 
    exec (.ecdhkdf a b) s = .next (if p384OnCurve (s.keyInput.take 96) then ((s.fillSlot b (padTo 32 (kdf (p384Shared (s.pairScalar a) (s.keyInput.take 96)) label ctx 256)) (s.rd KEY_POL_USAGE) false).slotsShow).keyEnd .ok 0 else s.keyEnd .point 0)) ∧
  (∀ (n : Nat) (s : State),
    s.on KEY_CMDSTAT_BUSY = false → s.on KEY_STAT_RESETREQ = false → n = s.rd KEY_INLEN_LEN → 1 ≤ n → n ≤ 4096 → State.bufferOk (s.rd KEY_OUT_ADDR) n = true → 
    exec (.random true) s = .next (((s.free (8 * n)).2.keyOut (beBytes n (s.free (8 * n)).1)).keyEnd .ok n)) ∧
  (∀ (a : Fin 128) (s : State),
    s.on KEY_CMDSTAT_BUSY = false → s.on KEY_STAT_RESETREQ = false → a ≤ 63 → (s.on KEY_SLOT_PAIR a && a.val % 2 == 1) = false → s.rd KEY_SLOT_STATE a ≠ 0 → (s.slotGroup a).any s.slotInUse = false → 
    exec (.destroy a) s = .next (((s.each (s.slotGroup a) (fun s n => s.clearSlot n 0)).slotsShow).keyEnd .ok 0)) ∧
  (∀ (a : Fin 128) (s : State),
    s.on KEY_CMDSTAT_BUSY = false → s.on KEY_STAT_RESETREQ = false → a ≤ 3 → s.imageNamed a = false → 
    exec (.imgver a) s = .next ((s.verifyImage a).1.keyEnd (s.verifyImage a).2 0)) ∧
  (∀ (a : Nat) (s : State),
    s.rd TEN_IMG_LEN_LEN a > 256 → 
    s.verifyImage a = (s.wr TEN_IMG_INFO_VERIFIED 0 a, .format)) ∧
  (∀ (a : Fin 128) (s : State),
    s.on KEY_CMDSTAT_BUSY = false → s.on KEY_STAT_RESETREQ = false → a ≤ 3 → s.imageNamed a = false → s.rd TEN_IMG_LEN_LEN a > 256 → 
    exec (.imgver a) s = .next ((s.wr TEN_IMG_INFO_VERIFIED 0 a).keyEnd .format 0)) ∧
  (∀ (s : State),
    s.on KEY_CMDSTAT_BUSY = true → 
    exec .keyCommandDone s = .next ((((s.wr KEY_CMDSTAT_BUSY 0).wr KEY_CMDSTAT_CODE s.keys.code).wr KEY_OUTLEN_LEN s.keys.outLen).wr KEY_CMDSTAT_DONE 1)) ∧
  (∀ (s : State),
    (List.range 64).all s.slotSound = true → 
    exec .slotCheckSweep s = .next s) ∧
  (∀ (n : Fin 64) (s : State),
    s.slotSound n = false → (List.range 64).all (fun k => k == n.val || s.slotSound k) = true → s.on KEY_SLOT_PAIR n = false → 
    exec .slotCheckSweep s = .next (({ (s.wr KEY_SLOT_STATE 2 n) with keys := { s.keys with key := Tab.put s.keys.key n zeroKey zeroKey } } : State).sat KEY_CNT_COUNT 1 |>.fault (113 + n) 0))

/-- FUSE with KEY_CTRL.LOCK ends with STATE. ENROLL in MANUF with blank PUF rows, every burn good: a fresh free helper is burnt with the check of the key made from it, the PUF key is held, PUFOK 1, OK. LCADV to an allowed state whose precondition holds, all three copies good: the bit of the state is burnt three times, every seal is invalid, every key erased, the rows the state burns out are burnt, and RESETREQ is 1, OK. With only n of the three copies good: those are burnt, and it ends with FUSEFAIL. ARBADV to a higher value of at most 64 in OPER or RMA: its bit is burnt in three copies, OK. To a value that is reached already: FUSEDONE. REVOKE of a signer while another signer lives: its bit is burnt in three copies, OK. FUSE of a blank row that the life-cycle state allows: the row holds the bits of the value, OK. Where the burn does not verify: an open choice of the bits of the value is burnt, and it ends with FUSEFAIL. A burn sets bits of its row only, and changes no other row. Each of these commands is shown to answer a next state with its own effect: enroll, lcadv, arbadv, revoke, fuse. -/
def Obligations.FusesAndLifeCycle : Prop :=
  (∀ (ok : Bool) (s : State),
    s.on KEY_CMDSTAT_BUSY = false → s.on KEY_STAT_RESETREQ = false → s.on KEY_CTRL_LOCK = true → 
    exec (.fuse ok) s = .next (s.keyEnd .state 0)) ∧
  (∀ (s s2 s3 : State) (k : List Byte),
    s.on KEY_CMDSTAT_BUSY = false → s.on KEY_STAT_RESETREQ = false → s.on KEY_CTRL_LOCK = false → s.lifeCycle = 1 → s.fuseBytes 0x100 992 = List.replicate 992 0 → s2 = ((s.free (8 * 992)).2.free 64).2 → k = padTo 32 (Config.pufKey (beBytes 992 (s.free (8 * 992)).1) ((s.free (8 * 992)).2.free 64).1) → s3 = (s2.burnBytes 0x100 (beBytes 992 (s.free (8 * 992)).1)).burnBytes 0x1F8 ((sha384 (k ++ ascii "PUF-CHECK")).take 32) → 
    exec (.enroll true) s = .next (({ s3 with keys := { s3.keys with puf := some k } } : State).wr KEY_STAT_PUFOK 1 |>.keyEnd .ok 0)) ∧
  (∀ (b : Fin 128) (m : Nat) (s : State),
    s.on KEY_CMDSTAT_BUSY = false → s.on KEY_STAT_RESETREQ = false → s.on KEY_CTRL_LOCK = false → 0 < b.val → b ≤ 5 → State.lcAllowed s.lifeCycle b = true → s.lcReady s.lifeCycle b = true → m = 2 ^ (b.val - 1) → 
    exec (.lcadv b 3) s = .next ((((((((s.burn 8 (m + m * 2 ^ 8 + m * 2 ^ 16)).each (List.range 4) (fun s t => s.wr TRK_SEAL_VALID 0 t)).eraseKeys).burnOut b).fuseShow).wr KEY_STAT_RESETREQ 1).keyEnd .ok 0))) ∧
  (∀ (b : Fin 128) (n : Fin 4) (m : Nat) (s : State),
    s.on KEY_CMDSTAT_BUSY = false → s.on KEY_STAT_RESETREQ = false → s.on KEY_CTRL_LOCK = false → 0 < b.val → b ≤ 5 → State.lcAllowed s.lifeCycle b = true → s.lcReady s.lifeCycle b = true → m = 2 ^ (b.val - 1) → n.val < 3 → 
    exec (.lcadv b n) s = .next ((((s.each (List.range n) (fun s c => s.burn 8 (m * 2 ^ (8 * c)))).fuseShow).keyEnd .fuseFail 0))) ∧
  (∀ (b : Fin 128) (m : Nat) (s : State),
    s.on KEY_CMDSTAT_BUSY = false → s.on KEY_STAT_RESETREQ = false → s.on KEY_CTRL_LOCK = false → s.lifeCycle = 2 ∨ s.lifeCycle = 3 → s.arb < b → b ≤ 64 → m = 2 ^ (b.val - 1) → 
    exec (.arbadv b true) s = .next ((s.each [0, 1, 2] (fun s c => (s.burn (0xA + 2 * c) (m % 2 ^ 32)).burn (0xB + 2 * c) (m / 2 ^ 32))).fuseShow.keyEnd .ok 0)) ∧
  (∀ (b : Fin 128) (ok : Bool) (s : State),
    s.on KEY_CMDSTAT_BUSY = false → s.on KEY_STAT_RESETREQ = false → s.on KEY_CTRL_LOCK = false → s.lifeCycle = 2 ∨ s.lifeCycle = 3 → 0 < b.val → b ≤ s.arb → b ≤ 64 → 
    exec (.arbadv b ok) s = .next (s.keyEnd .fuseDone 0)) ∧
  (∀ (a : Fin 128) (s : State),
    s.on KEY_CMDSTAT_BUSY = false → s.on KEY_STAT_RESETREQ = false → s.on KEY_CTRL_LOCK = false → a ≤ 3 → (List.range 4).any (fun i => i != a.val && s.signerLive i) = true → 
    exec (.revoke a true) s = .next ((s.burn 9 (2 ^ (4 + a.val) + 2 ^ (4 + a.val) * 2 ^ 8 + 2 ^ (4 + a.val) * 2 ^ 16)).fuseShow.keyEnd .ok 0)) ∧
  (∀ (r v : Nat) (s : State),
    s.on KEY_CMDSTAT_BUSY = false → s.on KEY_STAT_RESETREQ = false → s.on KEY_CTRL_LOCK = false → s.lengthCode (s.rd KEY_INLEN_LEN = 8) 0 = .ok → r = ofLe (s.keyInput.take 2) → v = ofLe (s.keyInput.drop 4) → s.fuseAllowed r = true → r ≠ 9 → s.fuse r = 0 → 
    exec (.fuse true) s = .next ((s.burn r v).fuseShow.keyEnd .ok 0)) ∧
  (∀ (r v : Nat) (s : State),
    s.on KEY_CMDSTAT_BUSY = false → s.on KEY_STAT_RESETREQ = false → s.on KEY_CTRL_LOCK = false → s.lengthCode (s.rd KEY_INLEN_LEN = 8) 0 = .ok → r = ofLe (s.keyInput.take 2) → v = ofLe (s.keyInput.drop 4) → s.fuseAllowed r = true → r ≠ 9 → s.fuse r = 0 → 
    exec (.fuse false) s = .next ((((s.free 32).2.burn r (v &&& (s.free 32).1)).fuseShow.keyEnd .fuseFail 0))) ∧
  (∀ (r q v : Nat) (s : State),
    Tab.sorted s.keys.fuse = true → 
    (s.burn r v).fuse q = if q = r then s.fuse r ||| v % 2 ^ 32 else s.fuse q)

/-- POWER_ON_RESET: the hub is State.reset but for the fuses, host memory, flash, PERST#, and the fresh open values of the model; the contents of the scratchpad are open again. PORST_ASSERT with no power fault present: what coreClear leaves, with its cause latched and eFuses 1 to 4 shut; RAIL_EN is on. CHIP_RESET likewise, with the cause of its kind. PORST_ASSERT with no power fault present: the hub is held in reset, its fuses, flash and host memory as before, management SRAM and DRAM contents gone, time at reset, the cause latched and eFuses 1 to 4 off. CHIP_RESET of each kind with no power fault present: the hub is held in reset, its fuses, flash and host memory as before, management SRAM and DRAM contents gone, time at reset, the cause latched and eFuses 1 to 4 off. GEN_RST_CHIP, bit 31 under the key, with no power fault present: the hub is held in reset, its fuses, flash and host memory as before, management SRAM and DRAM contents gone, time at reset, the cause latched and eFuses 1 to 4 off. What the reset of the core keeps and clears: the kept registers, fuses, flash and host memory stay; management SRAM and DRAM are emptied, and the hub is held. CHIP_RESET_RELEASE of a held hub with its rails good: the clocks are locked, each strap is what at least two of its three samples say, the PCIe role and the KL2 strap follow, and the hub is released. GEN_RST_CHIP under the key with bit 31 is a chip reset. GEN_RST_CHIP and GEN_RST_MGMT without the key change nothing. GEN_RST_MGMT under the key with bit 30 alone, while the processor may be reset, is a management reset. MGMT_RESET while the processor may be reset is a management reset with its cause. MGMT_RESET with fewer than two management resets in the last 60 s: the management SRAM is cleared, the processor starts again at stage SRAM, its cause is latched, the watchdog at 1,000 ms anew. GEN_RST_MGMT, bit 30 under the key, with fewer than two management resets in the last 60 s: the management SRAM is cleared, the processor starts again at stage SRAM, its cause is latched, the watchdog at 1,000 ms anew. MGMT_WATCHDOG_EXPIRY, TIMEOUT milliseconds after the last kick, with fewer than two management resets in the last 60 s: the management SRAM is cleared, the processor starts again at stage SRAM, its cause is latched, the watchdog at 1,000 ms anew. A management reset, fewer than two in the last 60 s: all it changes. The third within 60 s: the processor is stopped for good, and fault 6 has its cause. MGMT_WATCHDOG_KICK of an enabled watchdog: its interval starts anew. MGMT_WATCHDOG_EXPIRY is a management reset. Each of these commands is shown to answer a next state with its own effect: powerOnReset, porstAssert, chipReset, genRstChip, chipResetRelease, mgmtReset, genRstMgmt, mgmtWatchdogExpiry, mgmtWatchdogKick. -/
def Obligations.ResetsAndWatchdog : Prop :=
  (∀ (s : State),
    exec .powerOnReset s = .next { State.reset with keys := { fuse := s.keys.fuse }, host := s.host, flash := s.flash, pcx := { perst := s.pcx.perst }, bnk := { lost := s.bnk.lost + 1 }, readWord := s.readWord, freeCount := s.freeCount, pending := s.pending }) ∧
  (∀ (s s1 : State),
    (List.range 4).all (fun k => !Tab.get s.flt.cause (17 + k) false) = true → s1 = (s.coreClear.wr GEN_RSTCAUSE_PORST 1).each [1, 2, 3, 4] (fun s n => s.efuse n false) → 
    exec .porstAssert s = .next { s1 with pwr := { s1.pwr with railen := true, waking := false } }) ∧
  (∀ (k : Fin 3) (s s1 : State),
    (List.range 4).all (fun k => !Tab.get s.flt.cause (17 + k) false) = true → s1 = (s.coreClear.wr (if k = 0 then GEN_RSTCAUSE_PORST else if k = 1 then GEN_RSTCAUSE_SWCHIP else GEN_RSTCAUSE_DORMANT) 1).each [1, 2, 3, 4] (fun s n => s.efuse n false) → 
    exec (.chipReset k) s = .next { s1 with pwr := { s1.pwr with railen := true, waking := false } }) ∧
  (∀ (s : State),
    (List.range 4).all (fun k => !Tab.get s.flt.cause (17 + k) false) = true → Tab.sorted s.regs = true → 
    ∃ t, exec .porstAssert s = .next t ∧ t.keys.fuse = s.keys.fuse ∧ t.flash = s.flash ∧ t.host = s.host ∧ t.sram = [] ∧ t.dram = [] ∧ t.tmu = {} ∧ t.boot.held = true ∧ t.on GEN_RSTCAUSE_PORST = true ∧ (∀ n : Fin 4, t.on (State.efuseOn (n.val + 1)) = false)) ∧
  (∀ (k : Fin 3) (s : State),
    (List.range 4).all (fun k => !Tab.get s.flt.cause (17 + k) false) = true → Tab.sorted s.regs = true → 
    ∃ t, exec (.chipReset k) s = .next t ∧ t.keys.fuse = s.keys.fuse ∧ t.flash = s.flash ∧ t.host = s.host ∧ t.sram = [] ∧ t.dram = [] ∧ t.tmu = {} ∧ t.boot.held = true ∧ t.on (if k = 0 then GEN_RSTCAUSE_PORST else if k = 1 then GEN_RSTCAUSE_SWCHIP else GEN_RSTCAUSE_DORMANT) = true ∧ (∀ n : Fin 4, t.on (State.efuseOn (n.val + 1)) = false)) ∧
  (∀ (w : Word) (s : State),
    (List.range 4).all (fun k => !Tab.get s.flt.cause (17 + k) false) = true → bitsOf w.toNat 15 0 = cmdKey → w.toNat.testBit 31 = true → Tab.sorted s.regs = true → 
    ∃ t, exec (.genRstChip w) s = .next t ∧ t.keys.fuse = s.keys.fuse ∧ t.flash = s.flash ∧ t.host = s.host ∧ t.sram = [] ∧ t.dram = [] ∧ t.tmu = {} ∧ t.boot.held = true ∧ t.on GEN_RSTCAUSE_SWCHIP = true ∧ (∀ n : Fin 4, t.on (State.efuseOn (n.val + 1)) = false)) ∧
  (∀ (s : State),
    s.coreClear.regs = s.regs.filter (fun x => keptKey x.1) ∧ s.coreClear.keys.fuse = s.keys.fuse ∧ s.coreClear.flash = s.flash ∧ s.coreClear.host = s.host ∧ s.coreClear.sram = [] ∧ s.coreClear.dram = [] ∧ s.coreClear.boot.held = true) ∧
  (∀ (compat pcieRc dbgEn : BitVec 3) (s s2 s3 : State),
    s.boot.held = true → s.pwr.good = true → s2 = (((((((((s.wr CLK_STAT_REFOK 1).wr CLK_STAT_SYSLK 1).wr CLK_STAT_TIMELK 1).wr CLK_STAT_LANELK 1).wr CLK_STAT_MEMLK 1).wr CLK_STAT_PCIELK 1).wr GEN_STRAP_COMPAT (bit (State.strapOf compat))).wr GEN_STRAP_PCIE_RC (bit (State.strapOf pcieRc))).wr GEN_STRAP_DBG_EN (bit (State.strapOf dbgEn))) → s3 = (((s2.wr PCX_CTRL_ROLE (bit (State.strapOf pcieRc))).wr TRK_KL2_STAT_STRAP (bit (State.strapOf compat))).kl2Show) → 
    exec (.chipResetRelease compat pcieRc dbgEn) s = .next { s3 with boot := { s3.boot with held := false, rel := s3.tmu.elapsed } }) ∧
  (∀ (w : Word) (s : State),
    bitsOf w.toNat 15 0 = cmdKey → w.toNat.testBit 31 = true → 
    exec (.genRstChip w) s = .next (s.chipReset GEN_RSTCAUSE_SWCHIP)) ∧
  (∀ (w : Word) (s : State),
    bitsOf w.toNat 15 0 ≠ cmdKey → 
    exec (.genRstChip w) s = .next s ∧ exec (.genRstMgmt w) s = .next s) ∧
  (∀ (w : Word) (s : State),
    bitsOf w.toNat 15 0 ≠ cmdKey → 
    exec (.genRstChip w) s = .next s ∧ exec (.genRstMgmt w) s = .next s) ∧
  (∀ (wdt : Bool) (s : State),
    s.chipBooted = true → s.on GEN_RSTCAUSE_MGMTSTOP = false → s.boot.dead = false → 
    exec (.mgmtReset wdt) s = .next (s.mgmtReset (if wdt then GEN_RSTCAUSE_WDT else GEN_RSTCAUSE_SWMGMT))) ∧
  (∀ (wdt : Bool) (s : State),
    (s.boot.resets.filter (fun t => s.tmu.elapsed < t + 60000000000 * 2 ^ 32)).length < 2 → s.chipBooted = true → s.on GEN_RSTCAUSE_MGMTSTOP = false → s.boot.dead = false → Tab.sorted s.regs = true → 
    ∃ t, exec (.mgmtReset wdt) s = .next t ∧ t.sram = [] ∧ t.boot.running = false ∧ t.boot.mgmtOnly = true ∧ t.boot.kick = s.tmu.elapsed ∧ t.on (if wdt then GEN_RSTCAUSE_WDT else GEN_RSTCAUSE_SWMGMT) = true ∧ t.rd GEN_WDT_TIMEOUT = 1000 ∧ t.rd BOOT_STAT_STAGE = 2) ∧
  (∀ (w : Word) (s : State),
    (s.boot.resets.filter (fun t => s.tmu.elapsed < t + 60000000000 * 2 ^ 32)).length < 2 → s.chipBooted = true → s.on GEN_RSTCAUSE_MGMTSTOP = false → s.boot.dead = false → bitsOf w.toNat 15 0 = cmdKey → w.toNat.testBit 31 = false → w.toNat.testBit 30 = true → Tab.sorted s.regs = true → 
    ∃ t, exec (.genRstMgmt w) s = .next t ∧ t.sram = [] ∧ t.boot.running = false ∧ t.boot.mgmtOnly = true ∧ t.boot.kick = s.tmu.elapsed ∧ t.on GEN_RSTCAUSE_SWMGMT = true ∧ t.rd GEN_WDT_TIMEOUT = 1000 ∧ t.rd BOOT_STAT_STAGE = 2) ∧
  (∀ (s : State),
    (s.boot.resets.filter (fun t => s.tmu.elapsed < t + 60000000000 * 2 ^ 32)).length < 2 → s.chipBooted = true → s.on GEN_RSTCAUSE_MGMTSTOP = false → s.boot.dead = false → s.on GEN_WDT_EN = true → s.tmu.elapsed ≥ s.boot.kick + s.rd GEN_WDT_TIMEOUT * 1000000 * 2 ^ 32 → Tab.sorted s.regs = true → 
    ∃ t, exec .mgmtWatchdogExpiry s = .next t ∧ t.sram = [] ∧ t.boot.running = false ∧ t.boot.mgmtOnly = true ∧ t.boot.kick = s.tmu.elapsed ∧ t.on GEN_RSTCAUSE_WDT = true ∧ t.rd GEN_WDT_TIMEOUT = 1000 ∧ t.rd BOOT_STAT_STAGE = 2) ∧
  (∀ (F : Field) (s s1 s2 : State),
    (s.boot.resets.filter (fun t => s.tmu.elapsed < t + 60000000000 * 2 ^ 32)).length < 2 → s1 = { ((((s.wr F 1).sat GEN_RSTCAUSE_MGMTCNT).wr GEN_WDT_TIMEOUT 1000).each (List.range 4) (fun s t => s.disarm (.offer t))) with sram := [] } → s2 = { s1 with keys := { s1.keys with sess := [] }, fab := { s1.fab with answers := [], heardId := [] }, boot := { s1.boot with running := false, mgmtOnly := true, resets := s.tmu.elapsed :: s.boot.resets.filter (fun t => s.tmu.elapsed < t + 60000000000 * 2 ^ 32), kick := s.tmu.elapsed } } → 
    s.mgmtReset F = ((s2.wr BOOT_STAT_STAGE 2).wr BOOT_STAT_HALT 0).causeOff 7) ∧
  (∀ (F : Field) (s s1 s2 : State),
    2 ≤ (s.boot.resets.filter (fun t => s.tmu.elapsed < t + 60000000000 * 2 ^ 32)).length → s1 = { ((((s.wr F 1).sat GEN_RSTCAUSE_MGMTCNT).wr GEN_WDT_TIMEOUT 1000).each (List.range 4) (fun s t => s.disarm (.offer t))) with sram := [] } → s2 = { s1 with keys := { s1.keys with sess := [] }, fab := { s1.fab with answers := [], heardId := [] }, boot := { s1.boot with running := false, mgmtOnly := true, resets := s.tmu.elapsed :: s.boot.resets.filter (fun t => s.tmu.elapsed < t + 60000000000 * 2 ^ 32), kick := s.tmu.elapsed } } → 
    s.mgmtReset F = (s2.wr GEN_RSTCAUSE_MGMTSTOP 1).causeOn 6 0) ∧
  (∀ (w : Word) (s : State),
    w.toNat.testBit 30 = true → w.toNat.testBit 31 = false → s.on GEN_WDT_EN = true → 
    exec (.mgmtWatchdogKick w) s = .next { s with boot := { s.boot with kick := s.tmu.elapsed } }) ∧
  (∀ (s : State),
    s.on GEN_WDT_EN = true → s.tmu.elapsed ≥ s.boot.kick + s.rd GEN_WDT_TIMEOUT * 1000000 * 2 ^ 32 → s.chipBooted = true → s.on GEN_RSTCAUSE_MGMTSTOP = false → s.boot.dead = false → 
    exec .mgmtWatchdogExpiry s = .next (s.mgmtReset GEN_RSTCAUSE_WDT))

/-- BOOT_FUSES in stage FUSES, no bit in error: pending burns complete, the shadow and what fuses give is loaded, the debug port opens as R405 says, and a BLANK or SCRAPPED hub halts; another goes to KEYS. With a corrected bit in row r and an uncorrectable row q: the first is counted, the second reads as blank, and the boot goes on to KEYS. A halt of the boot: stage HALT, its code, and fault 7 has its cause. BOOT_KEYS in stage KEYS, the first attempt at the PUF key: a key that its check confirms is kept in MANUF and RMA, and elsewhere, but for an open debug port, raises the root, the boot going on to SRAM; else 10 ms without power follow. PUF_RETRY after those 10 ms, the fourth attempt, in state BLANK: a confirmed key leads on as above; else fault 111 has its cause. Either way the boot goes on to SRAM. BOOT_SRAM in stage SRAM: the management SRAM is cleared, and TABLE follows. BOOT_TABLE with a valid copy of the table: the copy to be used and its sequence number are shown, and MGMT follows. With no valid copy the boot halts with code 3. BOOT_MGMT with no candidate halts with code 4. BOOT_MGMT with a first candidate x: where it passes its check it is loaded into the management SRAM and shown, and CONFIG follows (RUN in a management reset); else its code is shown and the others are tried. BOOT_CONFIG with no configuration image: the code NONE is shown, and ENGINES follows. With a first candidate x: where it passes its check and the scan of its records, it is taken into the scratchpad and applied; else its code or BADRECORD is shown and the others are tried. How the candidates of the configuration are tried in order. A WRITE record writes its register, and the next follows. CONFIG_POLL at a POLL record: its register is read once more; where the masked value is the one asked for, the next record follows, else 100 ms run from the first such reading. CONFIG_POLL_TIMEOUT after those 100 ms with another value: the application ends with POLLTO at this record, and ENGINES follows. CONFIG_DELAY when its time is over: the next record follows. BOOT_ENGINES at the last slot, which has no image: RUN follows. At a last slot with an image, after 50 ms in which the DRAM did not become ready: its code is NODRAM, and RUN follows. At a last slot with an image, the DRAM ready: its candidates are copied and verified in order, and RUN follows. BOOT_RUN: the time since the release is shown in microseconds, and the firmware runs. Each of these commands is shown to answer a next state with its own effect: bootFuses, bootKeys, pufRetry, bootSram, bootTable, bootMgmt, bootConfig, configPoll, configPollTimeout, configDelay, bootEngines, bootRun. -/
def Obligations.BootStages : Prop :=
  (∀ (s s0 s1 s2 : State),
    s.romIn bootFuses = true → s0 = { s with keys := { s.keys with fuseBad := [] } } → s1 = (s0.burnOut s0.lifeCycle).fuseLoad → s2 = s1.wr KEY_STAT_DEBUG (bit s1.debugOpen) → 
    exec (.bootFuses [] []) s = .next (if s2.lifeCycle = 0 then s2.bootHalts 1 else if s2.lifeCycle = 5 then s2.bootHalts 2 else s2.wr BOOT_STAT_STAGE bootKeys)) ∧
  (∀ (r q : Fin 512) (s s0 s1 s2 : State),
    s.romIn bootFuses = true → State.rowCoded r = true → State.rowCoded q = true → r ≠ q → s0 = { (s.sat KEY_CNT_COUNT 0) with keys := { s.keys with fuseBad := [q.val] } } → s1 = (s0.burnOut s0.lifeCycle).fuseLoad → s2 = s1.wr KEY_STAT_DEBUG (bit s1.debugOpen) → s2.lifeCycle ≠ 0 → s2.lifeCycle ≠ 5 → 
    exec (.bootFuses [r] [q]) s = .next (s2.wr BOOT_STAT_STAGE bootKeys)) ∧
  (∀ (code : Nat) (s : State),
    s.bootHalts code = ((s.wr BOOT_STAT_STAGE bootHalt).wr BOOT_STAT_HALT code).causeOn 7 code) ∧
  (∀ (ra rb : Fin 3) (k : List Byte) (s s1 : State),
    s.romIn bootKeys = true → s.boot.puf = 0 → s1 = { (s.free 64).2 with boot := { s.boot with puf := 1 } } → k = padTo 32 (Config.pufKey (s1.fuseBytes 0x100 992) (s.free 64).1) → 
    exec (.bootKeys ra rb) s = .next (if s1.pufMatches k then (if s1.lifeCycle = 1 ∨ s1.lifeCycle = 4 then ({ s1.wr KEY_STAT_PUFOK 1 with keys := { s1.keys with puf := some k } } : State).wr BOOT_STAT_STAGE bootSram else if (s1.wr KEY_STAT_PUFOK 1).on KEY_STAT_DEBUG then (s1.wr KEY_STAT_PUFOK 1).wr BOOT_STAT_STAGE bootSram else ((s1.wr KEY_STAT_PUFOK 1).rootRaise k ra rb).wr BOOT_STAT_STAGE bootSram) else s1.arm .puf 10000000)) ∧
  (∀ (ra rb : Fin 3) (k : List Byte) (s s1 : State),
    s.romIn bootKeys = true → s.boot.puf = 3 → s.due .puf = true → s1 = { ((s.disarm .puf).free 64).2 with boot := { s.boot with puf := 4 } } → k = padTo 32 (Config.pufKey (s1.fuseBytes 0x100 992) (s.free 64).1) → s1.lifeCycle = 0 → 
    exec (.pufRetry ra rb) s = .next (if s1.pufMatches k then (if (s1.wr KEY_STAT_PUFOK 1).on KEY_STAT_DEBUG then (s1.wr KEY_STAT_PUFOK 1).wr BOOT_STAT_STAGE bootSram else ((s1.wr KEY_STAT_PUFOK 1).rootRaise k ra rb).wr BOOT_STAT_STAGE bootSram) else ({ s1 with keys := { s1.keys with puf := none } } : State).causeOn 111 0 |>.wr BOOT_STAT_STAGE bootSram)) ∧
  (∀ (s : State),
    s.romIn bootSram = true → 
    exec .bootSram s = .next (({ s with sram := [] } : State).wr BOOT_STAT_STAGE bootTable)) ∧
  (∀ (c : Nat) (s : State),
    s.romIn bootTable = true → s.tableChoice = some c → 
    exec .bootTable s = .next (((s.wr BOOT_STAT_TCOPY c).wr BOOT_SEQ_SEQ (s.tableSeq c)).wr BOOT_STAT_STAGE bootMgmt)) ∧
  (∀ (s : State),
    s.romIn bootTable = true → s.tableChoice = none → 
    exec .bootTable s = .next (s.bootHalts 3)) ∧
  (∀ (s : State),
    s.romIn bootMgmt = true → s.bootEntries 1 = [] → 
    exec .bootMgmt s = .next (((s.wr BOOT_IMG_MGMTENT 63).wr BOOT_IMG_MGMTCODE 0).bootHalts 4)) ∧
  (∀ (x : TableEntry) (l : List TableEntry) (s s1 : State),
    s.romIn bootMgmt = true → s.bootEntries 1 = x :: l → s1 = (s.wr BOOT_IMG_MGMTENT 63).wr BOOT_IMG_MGMTCODE 0 → 
    exec .bootMgmt s = .next (if (s1.entryCheck x 512 491776).1 = .ok then (({ s1 with sram := Memory.write s1.sram 0 ((s1.entryBytes x).take (x.length - 256)) } : State).wr BOOT_IMG_MGMTENT x.index).wr BOOT_STAT_STAGE (if s1.boot.mgmtOnly then bootRun else bootConfig) else (s1.wr BOOT_IMG_MGMTCODE (s1.entryCheck x 512 491776).1.code).mgmtTry l)) ∧
  (∀ (s : State),
    s.romIn bootConfig = true → s.boot.cfgLen = 0 → s.bootEntries 3 = [] → 
    exec .bootConfig s = .next ((s.wr BOOT_IMG_CFGCODE BootCode.none.code).wr BOOT_STAT_STAGE bootEngines)) ∧
  (∀ (x : TableEntry) (l : List TableEntry) (s : State),
    s.romIn bootConfig = true → s.boot.cfgLen = 0 → s.bootEntries 3 = x :: l → 
    exec .bootConfig s = .next (if (s.entryCheck x 268 65536).1 = .ok then (if (s.entryCheck x 268 65536).2 % 12 = 0 && cfgScan ((s.entryCheck x 268 65536).2 / 12) (s.entryBytes x) then s.cfgTake x (s.entryCheck x 268 65536).2 else (s.wr BOOT_IMG_CFGCODE BootCode.badRecord.code).cfgTry l) else (s.wr BOOT_IMG_CFGCODE (s.entryCheck x 268 65536).1.code).cfgTry l)) ∧
  (∀ (x : TableEntry) (l : List TableEntry) (s : State),
    s.cfgTry (x :: l) = if (s.entryCheck x 268 65536).1 = .ok then (if (s.entryCheck x 268 65536).2 % 12 = 0 && cfgScan ((s.entryCheck x 268 65536).2 / 12) (s.entryBytes x) then s.cfgTake x (s.entryCheck x 268 65536).2 else (s.wr BOOT_IMG_CFGCODE BootCode.badRecord.code).cfgTry l) else (s.wr BOOT_IMG_CFGCODE (s.entryCheck x 268 65536).1.code).cfgTry l) ∧
  (∀ (r : CfgRecord) (n : Nat) (s : State),
    s.romIn bootConfig = true → s.cfgAt s.boot.cfgNext = r → r.op = 0 → 
    s.cfgApply (n + 1) = ((s.regWrite r.off r.value true).cfgStep).cfgApply n) ∧
  (∀ (r : CfgRecord) (k : Nat) (s s1 : State) (v : Nat),
    s.cfgAtOp 1 = true → s.cfgAt s.boot.cfgNext = r → s.cfgLeft = k + 1 → s.regRead r.off true = (s1, v) → 
    exec .configPoll s = .next (if v &&& r.mask = r.value then s1.cfgStep.cfgApply k else if s1.armed .record then s1 else s1.arm .record 100000000)) ∧
  (∀ (r : CfgRecord) (s s1 : State) (v : Nat),
    s.cfgAtOp 1 = true → s.due .record = true → s.cfgAt s.boot.cfgNext = r → s.regRead r.off true = (s1, v) → v &&& r.mask ≠ r.value → 
    exec .configPollTimeout s = .next ((((s1.disarm .record).wr BOOT_IMG_CFGCODE BootCode.pollTo.code).wr BOOT_CFGPOS_RECORD s1.boot.cfgNext).wr BOOT_STAT_STAGE bootEngines)) ∧
  (∀ (s : State),
    s.cfgAtOp 2 = true → s.due .record = true → 
    exec .configDelay s = .next ((({ (s.disarm .record).wr BOOT_CFGPOS_RECORD s.boot.cfgNext with boot := { s.boot with cfgNext := s.boot.cfgNext + 1 } } : State)).cfgApply (s.cfgLeft - 1))) ∧
  (∀ (s : State),
    s.romIn bootEngines = true → s.boot.eng = 3 → (s.bootEntries 2).filter (fun x => x.slot == 3) = [] → 
    exec .bootEngines s = .next (({ s.disarm .dramWait with boot := { s.boot with eng := 4 } } : State).wr BOOT_STAT_STAGE bootRun)) ∧
  (∀ (s : State),
    s.romIn bootEngines = true → s.boot.eng = 3 → (s.bootEntries 2).filter (fun x => x.slot == 3) ≠ [] → s.on DRC_STAT_READY = false → s.due .dramWait = true → 
    exec .bootEngines s = .next (({ (s.wr BOOT_ENG_CODE3 BootCode.noDram.code).disarm .dramWait with boot := { s.boot with eng := 4 } } : State).wr BOOT_STAT_STAGE bootRun)) ∧
  (∀ (s : State),
    s.romIn bootEngines = true → s.boot.eng = 3 → (s.bootEntries 2).filter (fun x => x.slot == 3) ≠ [] → s.on DRC_STAT_READY = true → 
    exec .bootEngines s = .next (({ (s.engTry 3 ((s.bootEntries 2).filter (fun x => x.slot == 3))).disarm .dramWait with boot := { (s.engTry 3 ((s.bootEntries 2).filter (fun x => x.slot == 3))).boot with eng := 4 } } : State).wr BOOT_STAT_STAGE bootRun)) ∧
  (∀ (s s1 : State),
    s.romIn bootRun = true → s.boot.running = false → s1 = s.wr BOOT_TRUN_US (min ((s.tmu.elapsed - s.boot.rel) / (1000 * 2 ^ 32)) (2 ^ 32 - 1)) → 
    exec .bootRun s = .next { s1 with boot := { s1.boot with running := true } })

/-- SEAT_DEBOUNCE_COMPLETE in DEBOUNCE with a valid feed and the sink switch open: SEATED is 1, and the path enters RAMP. With no valid feed it enters FEEDWAIT. REMOVAL while seated, the path not DAMAGED: SEATED and RETRIES are 0, both diodes are off, RMEV is set and counted, and the path enters UNSEATED. FEED_VALID of an enabled feed, its samples within the window for 10 ms, in state ON: the feed is valid, and its undervoltage fault has no cause. In FEEDWAIT with FEED_C below OV the path enters RAMP as well. FEED_UNDERVOLTAGE of a valid feed, its samples below UV for 100 µs: the feed is invalid, its diode off, and its fault has its cause. FEED_OVERVOLTAGE of a valid feed with a voltage above OV: the feed is invalid at once, its time within the window starts anew, its diode is off, and its fault has its cause. With a voltage of OV or less nothing changes. IDEAL_DIODE_ON of a valid feed, the path not DAMAGED: its diode is on. IDEAL_DIODE_REVERSE_OFF of a diode that is on: it is off, REVEV set, and the event counted. FEEDC_OVERVOLTAGE above OV while the path conducts: counted, OVEV set, and the path enters FEEDWAIT. NO_FEED while the path conducts, no feed valid for 1 ms: it enters FEEDWAIT. RAMP_END in RAMP with VOUT within 500 mV of FEED_C: the path enters ON. FAULT_TIMER_TRIP while the path conducts, TFLT over: TRIPEV is set and counted, fault 16 with detail 0 raised, and the path enters RETRYWAIT with one more retry, or after three LATCHED with LATCHEV. FAST_TRIP while the path conducts, the code of shunt 0 above the fast threshold: FTEV is set and counted, fault 16 with detail 1 raised, and the path goes on as at a timer trip. RETRY_EXPIRY after 1 s in RETRYWAIT with a valid feed and the sink switch open: the retry is counted, and the path enters RAMP. RETRY_RESET after 10 s in ON: RETRIES is 0. PATH_OFF_COMMAND under its key, not in the elytra state, the path not DAMAGED: it enters OFF. PATH_ON_COMMAND under its key in OFF: the path enters DEBOUNCE. Without the key, or with both bits, either is ignored with CMDREJ. CLEAR_LATCH in LATCHED: RETRIES is 0, and the path enters DEBOUNCE. PASS_DAMAGED with the transistor commanded off and a sign of damage for 10 ms: both diodes are off, DAMEV set, the path DAMAGED, and fault 20 has its cause. A path that enters a state other than LATCHED shows it, waits for no ramp, and its time in the state starts. SINK_SWITCH_CLOSE, permitted, the source valid with VBUS more than 50 mV above VOUT, the path off for 20 µs and no ramp waiting: the switch is closed. SINK_SWITCH_OPEN of a closed switch: it is open, and the dead time starts; opened by its diode control, REVEV is set and counted too. A ramp that finds the sink switch closed opens it and waits for the dead time. SINK_DEAD_TIME_EXPIRY, 20 µs after the switch opened, with a ramp waiting: the path enters RAMP. LIMIT_WRITE of HSW_LIMIT outside the elytra state, the fast threshold within the range of the converter: the register is written and both thresholds follow. In the elytra state, or with the fast threshold beyond the range, it is ignored with CMDREJ. EFUSE_LIMIT_TRIP of an eFuse that is on, with a current of its limit or more: its flag is set, the trip counted, its fault raised, and the port loses its power. EFUSE_FAST_TRIP of an eFuse that is on, with more than twice its limit: its flag is set, the trip counted, its fault raised, and the port loses its power. EFUSE_THERMAL_TRIP of an eFuse that is on: its flag is set, the trip counted, its fault raised, and the port loses its power. Each of these commands is shown to answer a next state with its own effect: seatDebounceComplete, removal, feedValid, feedUndervoltage, feedOvervoltage, idealDiodeOn, idealDiodeReverseOff, feedcOvervoltage, noFeed, rampEnd, faultTimerTrip, fastTrip, retryExpiry, retryReset, pathOffCommand, pathOnCommand, clearLatch, passDamaged, sinkSwitchClose, sinkSwitchOpen, sinkDeadTimeExpiry, limitWrite, efuseLimitTrip, efuseFastTrip, efuseThermalTrip. -/
def Obligations.PowerEntry : Prop :=
  (∀ (s : State),
    (s.wr HSW_STAT_SEATED 1).pathIs .debounce = true → (s.wr HSW_STAT_SEATED 1).feedValid = true → s.hsw.sink = false → s.hsw.ramp = false → 
    exec .seatDebounceComplete s = .next ((s.wr HSW_STAT_SEATED 1).pathGo .ramp)) ∧
  (∀ (s : State),
    (s.wr HSW_STAT_SEATED 1).pathIs .debounce = true → (s.wr HSW_STAT_SEATED 1).feedValid = false → 
    exec .seatDebounceComplete s = .next ((s.wr HSW_STAT_SEATED 1).pathGo .feedWait)) ∧
  (∀ (s : State),
    s.on HSW_STAT_SEATED = true → (s.wr HSW_STAT_SEATED 0).pathIs .damaged = false → 
    exec .removal s = .next (((((((s.wr HSW_STAT_SEATED 0).setDiode 0 false).setDiode 1 false).wr HSW_STAT_RETRIES 0).wr HSW_STAT_RMEV 1).sat HSW_CNT_COUNT 6).pathGo .unseated)) ∧
  (∀ (f : Fin 2) (s : State),
    s.on (State.feedEn f) = true → 2500 ≤ Tab.get s.hsw.within f 0 → s.rd HSW_STAT_STATE = 4 → 
    exec (.feedValid f) s = .next (((s.wr (State.feedBit f) 1).causeOff (17 + f)))) ∧
  (∀ (f : Fin 2) (s s1 : State),
    s.on (State.feedEn f) = true → 2500 ≤ Tab.get s.hsw.within f 0 → s1 = (s.wr (State.feedBit f) 1).causeOff (17 + f) → s1.pathIs .feedWait = true → s1.feedValid = true → s1.feedcLow = true → s1.hsw.sink = false → s1.hsw.ramp = false → 
    exec (.feedValid f) s = .next (s1.pathGo .ramp)) ∧
  (∀ (f : Fin 2) (s : State),
    s.on (State.feedBit f) = true → 25 ≤ Tab.get s.hsw.low f 0 → 
    exec (.feedUndervoltage f) s = .next (((s.wr (State.feedBit f) 0).setDiode f false).causeOn (17 + f) 0)) ∧
  (∀ (f : Fin 2) (mv : BitVec 17) (s s1 : State),
    s.on (State.feedBit f) = true → mv.toNat > s.rd HSW_FEEDCFG_OV * 250 → s1 = { s with hsw := { s.hsw with within := Tab.put s.hsw.within f 0 0 } } → 
    exec (.feedOvervoltage f mv) s = .next (((s1.wr (State.feedBit f) 0).setDiode f false).causeOn (17 + f) 0)) ∧
  (∀ (f : Fin 2) (mv : BitVec 17) (s : State),
    mv.toNat ≤ s.rd HSW_FEEDCFG_OV * 250 → 
    exec (.feedOvervoltage f mv) s = .next s) ∧
  (∀ (f : Fin 2) (s : State),
    s.on (State.feedBit f) = true → s.pathIs .damaged = false → 
    exec (.idealDiodeOn f) s = .next (s.setDiode f true)) ∧
  (∀ (f : Fin 2) (s : State),
    Tab.get s.hsw.diode f false = true → 
    exec (.idealDiodeReverseOff f) s = .next (((s.setDiode f false).wr HSW_STAT_REVEV 1).sat HSW_CNT_COUNT 2)) ∧
  (∀ (mv : BitVec 17) (s : State),
    s.rd HSW_STAT_STATE = 3 ∨ s.rd HSW_STAT_STATE = 4 → mv.toNat > s.rd HSW_FEEDCFG_OV * 250 → 
    exec (.feedcOvervoltage mv) s = .next (((s.sat HSW_CNT_COUNT 3).wr HSW_STAT_OVEV 1).pathGo .feedWait)) ∧
  (∀ (s : State),
    s.rd HSW_STAT_STATE = 3 ∨ s.rd HSW_STAT_STATE = 4 → s.on HSW_STAT_FVA = false → s.on HSW_STAT_FVB = false → 250 ≤ s.hsw.unfed → 
    exec .noFeed s = .next (s.pathGo .feedWait)) ∧
  (∀ (s : State),
    s.rd HSW_STAT_STATE = 3 → s.rd HSW_VMEAS1_VOUT * 2 + 500 ≥ s.rd HSW_VMEAS1_VC * 2 → 
    exec .rampEnd s = .next (s.pathGo .on)) ∧
  (∀ (s s1 : State),
    s.rd HSW_STAT_STATE = 3 ∨ s.rd HSW_STAT_STATE = 4 → s.hsw.timer ≥ 250 * s.rd HSW_CTRL_TFLT → s1 = ((s.wr HSW_STAT_TRIPEV 1).sat HSW_CNT_COUNT 0).fault 16 0 → 
    exec .faultTimerTrip s = .next (if s1.rd HSW_STAT_RETRIES < 3 then (s1.wr HSW_STAT_RETRIES (s1.rd HSW_STAT_RETRIES + 1)).pathGo .retryWait else (s1.wr HSW_STAT_LATCHEV 1).pathGo .latched)) ∧
  (∀ (raw : BitVec 14) (s s1 : State),
    s.rd HSW_STAT_STATE = 3 ∨ s.rd HSW_STAT_STATE = 4 → signedOf 14 raw.toNat > signedOf 16 (s.rd HSW_THR_FTTHR) → s1 = ((s.wr HSW_STAT_FTEV 1).sat HSW_CNT_COUNT 1).fault 16 1 → 
    exec (.fastTrip raw) s = .next (if s1.rd HSW_STAT_RETRIES < 3 then (s1.wr HSW_STAT_RETRIES (s1.rd HSW_STAT_RETRIES + 1)).pathGo .retryWait else (s1.wr HSW_STAT_LATCHEV 1).pathGo .latched)) ∧
  (∀ (s : State),
    s.rd HSW_STAT_STATE = 5 → s.pathRan 1000 = true → (s.sat HSW_CNT_COUNT 4).feedValid = true → s.hsw.sink = false → s.hsw.ramp = false → 
    exec .retryExpiry s = .next ((s.sat HSW_CNT_COUNT 4).pathGo .ramp)) ∧
  (∀ (s : State),
    s.rd HSW_STAT_STATE = 4 → s.pathRan 10000 = true → 
    exec .retryReset s = .next (s.wr HSW_STAT_RETRIES 0)) ∧
  (∀ (w : Word) (s : State),
    bitsOf w.toNat 15 0 = 0x5A5A → w.toNat.testBit 31 = true → w.toNat.testBit 30 = false → s.on FLT_STAT_ELYTRA = false → s.pathIs .damaged = false → 
    exec (.pathOffCommand w) s = .next (s.pathGo .off)) ∧
  (∀ (w : Word) (s : State),
    bitsOf w.toNat 15 0 = 0x5A5A → w.toNat.testBit 31 = false → w.toNat.testBit 30 = true → s.pathIs .off = true → 
    exec (.pathOnCommand w) s = .next (s.pathGo .debounce)) ∧
  (∀ (w : Word) (s : State),
    bitsOf w.toNat 15 0 ≠ 0x5A5A ∨ (w.toNat.testBit 31 = true ∧ w.toNat.testBit 30 = true) → 
    exec (.pathOffCommand w) s = .next (s.wr HSW_STAT_CMDREJ 1) ∧ exec (.pathOnCommand w) s = .next (s.wr HSW_STAT_CMDREJ 1)) ∧
  (∀ (s : State),
    s.rd HSW_STAT_STATE = 6 → 
    exec .clearLatch s = .next ((s.wr HSW_STAT_RETRIES 0).pathGo .debounce)) ∧
  (∀ (s : State),
    s.rd HSW_STAT_STATE ≠ 3 → s.rd HSW_STAT_STATE ≠ 4 → s.rd HSW_STAT_STATE ≠ 8 → 2500 ≤ s.hsw.leak → 
    exec .passDamaged s = .next (((((s.setDiode 0 false).setDiode 1 false).wr HSW_STAT_DAMEV 1).pathGo .damaged).causeOn 20 0)) ∧
  (∀ (p : PathState) (s : State),
    Tab.sorted s.regs = true → p ≠ .latched → 
    (s.pathGo p).rd HSW_STAT_STATE = p.code ∧ (s.pathGo p).hsw.ramp = false ∧ (s.pathGo p).hsw.at_ = s.hsw.clock) ∧
  (∀ (s : State),
    s.on HSW_CTRL_USBCEN = true → s.on UPD_STAT_SNKVALID = true → s.pathConducts = false → s.hsw.ramp = false → 5 ≤ s.hsw.since → s.rd UPD_VBUS_V * 20 > s.rd HSW_VMEAS1_VOUT * 2 + 50 → 
    exec .sinkSwitchClose s = .next (({ s with hsw := { s.hsw with sink := true, leak := 0 } } : State).pathSettle)) ∧
  (∀ (s : State),
    s.hsw.sink = true → 
    exec (.sinkSwitchOpen false) s = .next (({ s with hsw := { s.hsw with sink := false, leak := 0, since := 0 } } : State).pathSettle) ∧ exec (.sinkSwitchOpen true) s = .next (((({ s with hsw := { s.hsw with sink := false, leak := 0, since := 0 } } : State).pathSettle).wr HSW_STAT_REVEV 1).sat HSW_CNT_COUNT 2)) ∧
  (∀ (s : State),
    s.hsw.sink = true → 
    s.rampStart = ({ s with hsw := { s.hsw with sink := false, leak := 0, since := 0, ramp := true } } : State).pathSettle) ∧
  (∀ (s : State),
    s.hsw.ramp = true → 5 ≤ s.hsw.since → 
    exec .sinkDeadTimeExpiry s = .next (s.pathGo .ramp)) ∧
  (∀ (w : Word) (s s1 : State),
    s.on FLT_STAT_ELYTRA = false → s1 = s.writeReg 0x30008 w.toNat → s1.rawThreshold (2 * (s1.rd HSW_LIMIT_ILIM * 10)) ≤ 8191 → 
    exec (.limitWrite false w) s = .next ((s1.wr HSW_THR_LIMTHR (codeOf 16 (s1.rawThreshold s1.effLimit))).wr HSW_THR_FTTHR (codeOf 16 (s1.rawThreshold (2 * (s1.rd HSW_LIMIT_ILIM * 10)))))) ∧
  (∀ (w : Word) (s : State),
    s.on FLT_STAT_ELYTRA = true ∨ (s.writeReg 0x30008 w.toNat).rawThreshold (2 * ((s.writeReg 0x30008 w.toNat).rd HSW_LIMIT_ILIM * 10)) > 8191 → 
    exec (.limitWrite false w) s = .next (s.wr HSW_STAT_CMDREJ 1)) ∧
  (∀ (n : Fin 4) (ma : BitVec 12) (s : State),
    s.on (State.efuseOn (n + 1)) = true → ma.toNat ≥ s.efuseLimit (n + 1) → 
    exec (.efuseLimitTrip n ma) s = .next ((((s.wr (if n = 0 then HSW_EFSTAT_OC0 else if n = 1 then HSW_EFSTAT_OC1 else if n = 2 then HSW_EFSTAT_OC2 else HSW_EFSTAT_OC3) 1).sat HSW_CNT_COUNT 5).fault (21 + n) 1).portTrip (n + 1))) ∧
  (∀ (n : Fin 4) (ma : BitVec 12) (s : State),
    s.on (State.efuseOn (n + 1)) = true → ma.toNat > 2 * s.efuseLimit (n + 1) → 
    exec (.efuseFastTrip n ma) s = .next ((((s.wr (if n = 0 then HSW_EFSTAT_FT0 else if n = 1 then HSW_EFSTAT_FT1 else if n = 2 then HSW_EFSTAT_FT2 else HSW_EFSTAT_FT3) 1).sat HSW_CNT_COUNT 5).fault (21 + n) 2).portTrip (n + 1))) ∧
  (∀ (n : Fin 4) (s : State),
    s.on (State.efuseOn (n + 1)) = true → 
    exec (.efuseThermalTrip n) s = .next ((((s.wr (if n = 0 then HSW_EFSTAT_THERM0 else if n = 1 then HSW_EFSTAT_THERM1 else if n = 2 then HSW_EFSTAT_THERM2 else HSW_EFSTAT_THERM3) 1).sat HSW_CNT_COUNT 5).fault (21 + n) 3).portTrip (n + 1)))

/-- PATHGD_RISE after 1 ms in ON, the hub in OFF and waking: PATHGD is 1, and RAIL_EN is on. PWR_CMD_RUN under its key, the hub not BUSY and below DORMANT, to a higher operating point: the voltage of that point is sought first, BUSY is 1, and AVSTO runs. PWR_CMD_TRIM likewise to a lower operating point: the clocks fall first, then its voltage is sought, BUSY is 1, and AVSTO runs. PWR_CMD_HUSH from RUN or TRIM under its key, not BUSY, with no block that refuses: BUSY is 1, the blocks that delay are waited for, each with its bound. PWR_CMD_DORMANT from RUN or TRIM under its key, not BUSY, with no block that refuses: BUSY is 1, the blocks that delay are waited for, each with its bound. PWR_CMD_OFF from RUN or TRIM under its key, not BUSY, with no block that refuses: BUSY is 1, the blocks that delay are waited for, each with its bound. A command without the key, while BUSY, for no state or for the present one is ignored with CMDREJ. A change to a lower point: frequency first. A change to a higher point: voltage first. HANDSHAKE_ANSWER of a block that refuses now: the handshake is aborted with REFUSED and its number, and counted. HANDSHAKE_ANSWER of a block that neither refuses nor delays any more, with others waited for: it is waited for no longer. FIRMWARE_ANSWER with ACK, the last answer: HUSH is entered. With ACK on the way to DORMANT or OFF, that state is entered. With DELAY, once: the bound of the firmware's answer is 1 s from now. With REFUSE the handshake is aborted with REFUSED and block 23, and counted. HANDSHAKE_TIMEOUT of a block that has not answered within its bound: the handshake is aborted with TIMEOUT and its number, and counted. DMA counts as acknowledging at its bound. Firmware that has never answered refuses at its bound; after a DELAY it ends the handshake with TIMEOUT. WAKE_EVENT of an enabled source but the timer in HUSH, the former state at a higher operating point: its cause is shown, WAKEEV set, the wake counted, and the voltage of that point sought under AVSTO. In HUSH the wake starts the change back to the former state. WAKE_TIMER_EXPIRY in DORMANT, its time over and the source enabled: cause 1 is shown, WAKEEV set, the wake counted, and RAIL_EN is on, the hub waking. During a handshake an enabled source but the timer aborts it with WAKE, WAKEEV set. AVS_CONFIRM with a voltage within 10 mV: the point is in force, its state reached, and a state wanted meanwhile is sought. AVS_CONFIRM with a voltage within 10 mV of the target, outside HUSH, nothing wanted meanwhile: OP is the new point, its state reached, BUSY 0 and DONEEV 1. With any other voltage nothing changes. AVS_TIMEOUT of a rise that was not confirmed within AVSTO: AVSEV is set and counted, fault 10 raised, the rise is given up with AVSTO and the old target restored. POWER_GOOD with RAIL_EN on, below DORMANT: the rails are good. In DORMANT or OFF a chip reset follows. In DORMANT or OFF, with no power fault present: the rails are good, and the hub is held in a chip reset with cause DORMANT, fuses, flash and host memory as before. RAIL_UNDERVOLTAGE below DORMANT, with no power fault present: the rails are not good, and the hub is held in a chip reset with cause PORST, fuses, flash and host memory as before. RAIL_UNDERVOLTAGE is a chip reset with the rails not good. REFERENCE_CLOCK_LOST: REFOK is 0, LOSSEV set, and fault 8 has its cause, with the lock bits as detail. PLL_LOCK_LOST: the lock bit of that PLL is 0, LOSSEV set, and fault 8 has its cause. REFERENCE_CLOCK_RETURN: the bit is 1, and with all six fault 8 has no cause. Each of these commands is shown to answer a next state with its own effect: pathgdRise, pwrCmdRun, pwrCmdTrim, pwrCmdHush, pwrCmdDormant, pwrCmdOff, handshakeAnswer, firmwareAnswer, handshakeTimeout, wakeEvent, wakeTimerExpiry, avsConfirm, avsTimeout, powerGood, railUndervoltage, referenceClockLost, pllLockLost, referenceClockReturn. -/
def Obligations.PowerStates : Prop :=
  (∀ (s : State),
    s.rd HSW_STAT_STATE = 4 → s.pathRan 1 = true → (s.wr HSW_STAT_PATHGD 1).rd PWR_STAT_STATE = pwOff → s.pwr.waking = true → 
    exec .pathgdRise s = .next { s.wr HSW_STAT_PATHGD 1 with pwr := { s.pwr with railen := true } }) ∧
  (∀ (w : Word) (s s1 s2 : State),
    s.rd PWR_STAT_STATE < 3 → bitsOf w.toNat 15 0 = 0x5A5A → w.toNat.testBit 31 = true → bitsOf w.toNat 18 16 = 0 → s.on PWR_STAT_BUSY = false → s.rd PWR_STAT_STATE ≠ 0 → s.opOf 0 < s.rd PWR_STAT_OP → s1 = s → s2 = (s1.setTarget (s.rd PWR_OPV_TARGET (s.opOf 0))).wr PWR_STAT_BUSY 1 → 
    exec (.pwrCmdRun w) s = .next (({ s2 with pwr := { s2.pwr with change := some { op := s.opOf 0, raise := true, goal := 0 } } } : State).arm .avs (s.rd PWR_CFG_AVSTO * 100000))) ∧
  (∀ (w : Word) (s s1 s2 : State),
    s.rd PWR_STAT_STATE < 3 → bitsOf w.toNat 15 0 = 0x5A5A → w.toNat.testBit 31 = true → bitsOf w.toNat 18 16 = 1 → s.on PWR_STAT_BUSY = false → s.rd PWR_STAT_STATE ≠ 1 → s.opOf 1 > s.rd PWR_STAT_OP → s1 = s.clocks (s.opOf 1) → s2 = (s1.setTarget (s.rd PWR_OPV_TARGET (s.opOf 1))).wr PWR_STAT_BUSY 1 → 
    exec (.pwrCmdTrim w) s = .next (({ s2 with pwr := { s2.pwr with change := some { op := s.opOf 1, raise := false, goal := 1 } } } : State).arm .avs (s.rd PWR_CFG_AVSTO * 100000))) ∧
  (∀ (w : Word) (s s0 s1 : State),
    s.rd PWR_STAT_STATE < 2 → bitsOf w.toNat 15 0 = 0x5A5A → w.toNat.testBit 31 = true → bitsOf w.toNat 18 16 = 2 → s.on PWR_STAT_BUSY = false → s0 = { (s.wr PWR_STAT_BUSY 1) with pwr := { s.pwr with ask := some 2, waiting := (List.range 24).filter s.blkDelays, fwDelay := false } } → s1 = s0.each ((List.range 24).filter s.blkDelays) (fun x k => x.arm (.handshake k) (x.blkBound k)) → (List.range 24).find? (s.blkRefuses 2) = none → 
    exec (.pwrCmdHush w) s = .next s1) ∧
  (∀ (w : Word) (s s0 s1 : State),
    s.rd PWR_STAT_STATE < 2 → bitsOf w.toNat 15 0 = 0x5A5A → w.toNat.testBit 31 = true → bitsOf w.toNat 18 16 = 3 → s.on PWR_STAT_BUSY = false → s0 = { (s.wr PWR_STAT_BUSY 1) with pwr := { s.pwr with ask := some 3, waiting := (List.range 24).filter s.blkDelays, fwDelay := false } } → s1 = s0.each ((List.range 24).filter s.blkDelays) (fun x k => x.arm (.handshake k) (x.blkBound k)) → (List.range 24).find? (s.blkRefuses 3) = none → 
    exec (.pwrCmdDormant w) s = .next s1) ∧
  (∀ (w : Word) (s s0 s1 : State),
    s.rd PWR_STAT_STATE < 2 → bitsOf w.toNat 15 0 = 0x5A5A → w.toNat.testBit 31 = true → bitsOf w.toNat 18 16 = 4 → s.on PWR_STAT_BUSY = false → s0 = { (s.wr PWR_STAT_BUSY 1) with pwr := { s.pwr with ask := some 4, waiting := (List.range 24).filter s.blkDelays, fwDelay := false } } → s1 = s0.each ((List.range 24).filter s.blkDelays) (fun x k => x.arm (.handshake k) (x.blkBound k)) → (List.range 24).find? (s.blkRefuses 4) = none → 
    exec (.pwrCmdOff w) s = .next s1) ∧
  (∀ (w : Word) (s : State),
    s.rd PWR_STAT_STATE < 3 → bitsOf w.toNat 15 0 ≠ 0x5A5A ∨ (w.toNat.testBit 31 = true ∧ (bitsOf w.toNat 18 16 > 4 ∨ s.on PWR_STAT_BUSY = true ∨ bitsOf w.toNat 18 16 = s.rd PWR_STAT_STATE)) → 
    exec (.pwrCmdOff w) s = .next (s.wr PWR_STAT_CMDREJ 1)) ∧
  (∀ (st : Nat) (s s1 s2 : State),
    s.opOf st > s.rd PWR_STAT_OP → s1 = s.clocks (s.opOf st) → s2 = (s1.setTarget (s.rd PWR_OPV_TARGET (s.opOf st))).wr PWR_STAT_BUSY 1 → 
    s.changeTo st = ({ s2 with pwr := { s2.pwr with change := some { op := s.opOf st, raise := false, goal := st } } } : State).arm .avs (s.rd PWR_CFG_AVSTO * 100000)) ∧
  (∀ (st : Nat) (s s2 : State),
    s.opOf st < s.rd PWR_STAT_OP → s2 = (s.setTarget (s.rd PWR_OPV_TARGET (s.opOf st))).wr PWR_STAT_BUSY 1 → 
    s.changeTo st = ({ s2 with pwr := { s2.pwr with change := some { op := s.opOf st, raise := true, goal := st } } } : State).arm .avs (s.rd PWR_CFG_AVSTO * 100000)) ∧
  (∀ (k : Fin 24) (st : Nat) (s : State),
    s.pwr.ask = some st → k ≠ 23 → s.pwr.waiting.contains k.val = true → s.blkRefuses st k = true → 
    exec (.handshakeAnswer k) s = .next (((s.askAbort .refused).wr PWR_STAT_REFBLK k).sat PWR_CNT_COUNT 1)) ∧
  (∀ (k : Fin 24) (st : Nat) (s : State),
    s.pwr.ask = some st → k ≠ 23 → s.pwr.waiting.contains k.val = true → s.blkRefuses st k = false → s.blkDelays k = false → s.pwr.waiting.filter (· != k.val) ≠ [] → 
    exec (.handshakeAnswer k) s = .next { s with pwr := { s.pwr with waiting := s.pwr.waiting.filter (· != k.val) } }) ∧
  (∀ (w : Word) (s : State),
    s.pwr.ask = some 2 → s.pwr.waiting = [23] → bitsOf w.toNat 1 0 = 1 → 
    exec (.firmwareAnswer w) s = .next ({ s with pwr := { s.pwr with ask := none, waiting := [], fwDelay := false } } : State).enterHush) ∧
  (∀ (w : Word) (st : Nat) (s : State),
    s.pwr.ask = some st → st = 3 ∨ st = 4 → s.pwr.waiting = [23] → bitsOf w.toNat 1 0 = 1 → 
    exec (.firmwareAnswer w) s = .next (({ s with pwr := { s.pwr with ask := none, waiting := [], fwDelay := false } } : State).enterDark st)) ∧
  (∀ (w : Word) (s : State),
    s.pwr.waiting = [23] → bitsOf w.toNat 1 0 = 3 → s.pwr.fwDelay = false → 
    exec (.firmwareAnswer w) s = .next (({ s with pwr := { s.pwr with fwDelay := true } } : State).arm (.handshake 23) 1000000000)) ∧
  (∀ (w : Word) (s : State),
    s.pwr.waiting.contains 23 = true → bitsOf w.toNat 1 0 = 2 → 
    exec (.firmwareAnswer w) s = .next (((s.askAbort .refused).wr PWR_STAT_REFBLK 23).sat PWR_CNT_COUNT 1)) ∧
  (∀ (k : Fin 24) (s : State),
    s.pwr.waiting.contains k.val = true → s.due (.handshake k) = true → k ≠ 13 → k ≠ 23 → 
    exec (.handshakeTimeout k) s = .next (((s.askAbort .timeout).wr PWR_STAT_REFBLK k).sat PWR_CNT_COUNT 1)) ∧
  (∀ (s : State),
    s.due (.handshake 13) = true → s.pwr.ask = some 2 → s.pwr.waiting = [13, 23] → 
    exec (.handshakeTimeout 13) s = .next { s with pwr := { s.pwr with waiting := [23] } }) ∧
  (∀ (s : State),
    s.pwr.waiting.contains 23 = true → s.due (.handshake 23) = true → 
    exec (.handshakeTimeout 23) s = .next (((s.askAbort (if s.pwr.fwDelay then .timeout else .refused)).wr PWR_STAT_REFBLK 23).sat PWR_CNT_COUNT 1)) ∧
  (∀ (k : Fin 6) (s s1 s2 : State),
    s.bitAt PWR_WAKE_EN k = true → s.pwr.ask = none → s.rd PWR_STAT_STATE = pwHush → s.pwr.waking = false → s1 = ((s.putBit PWR_WCAUSE_CAUSE k true).wr PWR_STAT_WAKEEV 1).sat PWR_CNT_COUNT 3 → s.pwr.change = none → k ≠ 1 → s1.opOf s.pwr.before < s1.rd PWR_STAT_OP → s2 = (s1.setTarget (s1.rd PWR_OPV_TARGET (s1.opOf s.pwr.before))).wr PWR_STAT_BUSY 1 → 
    exec (.wakeEvent k) s = .next (({ s2 with pwr := { s2.pwr with change := some { op := s1.opOf s.pwr.before, raise := true, goal := s.pwr.before } } } : State).arm .avs (s1.rd PWR_CFG_AVSTO * 100000))) ∧
  (∀ (k : Fin 6) (s s1 : State),
    s.bitAt PWR_WAKE_EN k = true → s.pwr.ask = none → s.rd PWR_STAT_STATE = pwHush → s.pwr.waking = false → s1 = ((s.putBit PWR_WCAUSE_CAUSE k true).wr PWR_STAT_WAKEEV 1).sat PWR_CNT_COUNT 3 → s.pwr.change = none → k ≠ 1 → 
    exec (.wakeEvent k) s = .next (s1.changeTo s1.pwr.before)) ∧
  (∀ (s s1 : State),
    s.bitAt PWR_WAKE_EN 1 = true → s.pwr.ask = none → s.rd PWR_STAT_STATE = pwDormant → s.pwr.waking = false → s.pwr.wakeAt ≤ s.hsw.clock → s1 = ((s.putBit PWR_WCAUSE_CAUSE 1 true).wr PWR_STAT_WAKEEV 1).sat PWR_CNT_COUNT 3 → 
    exec .wakeTimerExpiry s = .next { s1 with pwr := { s1.pwr with waking := true, railen := true } }) ∧
  (∀ (k : Fin 6) (s : State),
    s.bitAt PWR_WAKE_EN k = true → s.pwr.ask.isSome = true → k ≠ 1 → 
    exec (.wakeEvent k) s = .next ((s.askAbort .wake).wr PWR_STAT_WAKEEV 1)) ∧
  (∀ (mv : BitVec 12) (c : OpChange) (s : State),
    s.pwr.change = some c → mv.toNat ≤ s.pwr.target + 10 → s.pwr.target ≤ mv.toNat + 10 → 
    exec (.avsConfirm mv) s = .next (((((s.disarm .avs).wr PWR_STAT_OP c.op).clocks c.op).reached c.goal .ok).changeNext)) ∧
  (∀ (mv : BitVec 12) (c : OpChange) (s : State),
    s.pwr.change = some c → mv.toNat ≤ s.pwr.target + 10 → s.pwr.target ≤ mv.toNat + 10 → s.pwr.next = none → s.rd PWR_STAT_STATE ≠ pwHush → Tab.sorted s.regs = true → 
    ∃ t, exec (.avsConfirm mv) s = .next t ∧ t.rd PWR_STAT_OP = c.op % 4 ∧ t.rd PWR_STAT_STATE = c.goal % 8 ∧ t.on PWR_STAT_BUSY = false ∧ t.on PWR_STAT_DONEEV = true ∧ t.pwr.change = none) ∧
  (∀ (mv : BitVec 12) (s : State),
    mv.toNat > s.pwr.target + 10 ∨ s.pwr.target > mv.toNat + 10 → 
    exec (.avsConfirm mv) s = .next s) ∧
  (∀ (c : OpChange) (s s1 s2 : State),
    s.pwr.change = some c → c.raise = true → s.due .avs = true → s1 = (((s.disarm .avs).wr PWR_STAT_AVSEV 1).sat PWR_CNT_COUNT 2).fault 10 s.pwr.target → s2 = ((s1.setTarget (s.rd PWR_OPV_TARGET (s.rd PWR_STAT_OP))).wr PWR_STAT_BUSY 0).wr PWR_STAT_CODE (State.PwrCode.code .avsTo) → s2.pwr.next = none → 
    exec .avsTimeout s = .next { s2 with pwr := { s2.pwr with change := none } }) ∧
  (∀ (s : State),
    s.pwr.railen = true → s.rd PWR_STAT_STATE < 3 → 
    exec .powerGood s = .next { s with pwr := { s.pwr with good := true } }) ∧
  (∀ (s : State),
    s.pwr.railen = true → 
    exec .powerGood s = .next (if s.rd PWR_STAT_STATE ≥ 3 then ({ s with pwr := { s.pwr with good := true } } : State).chipReset GEN_RSTCAUSE_DORMANT else { s with pwr := { s.pwr with good := true } })) ∧
  (∀ (s : State),
    s.pwr.railen = true → s.rd PWR_STAT_STATE ≥ 3 → (List.range 4).all (fun k => !Tab.get s.flt.cause (17 + k) false) = true → Tab.sorted s.regs = true → 
    ∃ t, exec .powerGood s = .next t ∧ t.boot.held = true ∧ t.keys.fuse = s.keys.fuse ∧ t.flash = s.flash ∧ t.host = s.host ∧ t.sram = [] ∧ t.pwr.railen = true ∧ t.pwr.good = true ∧ t.on GEN_RSTCAUSE_DORMANT = true) ∧
  (∀ (s : State),
    s.rd PWR_STAT_STATE < 3 → s.pwr.railen = true → (List.range 4).all (fun k => !Tab.get s.flt.cause (17 + k) false) = true → Tab.sorted s.regs = true → 
    ∃ t, exec .railUndervoltage s = .next t ∧ t.boot.held = true ∧ t.keys.fuse = s.keys.fuse ∧ t.flash = s.flash ∧ t.host = s.host ∧ t.sram = [] ∧ t.pwr.railen = true ∧ t.pwr.good = false ∧ t.on GEN_RSTCAUSE_PORST = true) ∧
  (∀ (s : State),
    s.rd PWR_STAT_STATE < 3 → s.pwr.railen = true → 
    exec .railUndervoltage s = .next (({ s with pwr := { s.pwr with good := false } } : State).chipReset GEN_RSTCAUSE_PORST)) ∧
  (∀ (s s1 : State),
    s1 = (s.wr CLK_STAT_REFOK 0).wr CLK_STAT_LOSSEV 1 → 
    exec .referenceClockLost s = .next (s1.causeOn 8 s1.clkBits)) ∧
  (∀ (k : Fin 5) (s s1 : State),
    s1 = (s.wr (if k = 0 then CLK_STAT_SYSLK else if k = 1 then CLK_STAT_TIMELK else if k = 2 then CLK_STAT_LANELK else if k = 3 then CLK_STAT_MEMLK else CLK_STAT_PCIELK) 0).wr CLK_STAT_LOSSEV 1 → 
    exec (.pllLockLost k) s = .next (s1.causeOn 8 s1.clkBits)) ∧
  (∀ (k : Fin 6) (s s1 : State),
    s1 = s.wr (State.clkBit k) 1 → 
    exec (.referenceClockReturn k) s = .next (if s1.clkBits = 63 then s1.causeOff 8 else s1))

/-- LIMIT_RECOMPUTE with the path OFF and the USB-C port waiting for nothing: the sampled voltages and currents are shown, the windows of the feeds judged, both thresholds recomputed, the times of 4 µs advance, VBUS is shown with the times it has been low or over the limit, and SNKVALID follows. A sample of 0.8 V or less ends the discharge of a power role swap: PS_RDY is sent, and the new source awaited. CC_TERMINATION_DETECT of a complementary termination while unattached: the port is in WAIT, and its 150 ms start. ATTACH_DEBOUNCE after 150 ms with Rp and VBUS above 4.0 V, no preference for the source role: attached as sink. ATTACH_DEBOUNCE after 150 ms with Rd under the toggle and a preference for the sink role: the port tries that role for 100 ms. After 150 ms with Rd without the toggle: attached as source and DFP with the orientation seen, ATTEV set, VBUS on. TRY_EXPIRY, the complement of the tried role seen for 10 ms or 100 ms without it: the port attaches in the tried role or in the other. DRP_TOGGLE, unattached, 50 ms after the last: the port presents the other termination. SINK_DETACH, VBUS below 3.67 V for 10 ms and no swap running: the port detaches. SINK_DETACH, VBUS below 3.67 V for 10 ms, no swap and no mode: UNATTACHED, the contract and the roles end, DETEV is set, and nothing is awaited. SOURCE_DETACH of a source: the port detaches. SOURCE_DETACH of a source without a mode: likewise. A port that detaches: everything of the attachment ends, DETEV is set and counted, and SNKVALID follows. ERRREC_EXPIRY after 25 ms of error recovery: UNATTACHED. FEED_PATH_LEAVE_ON of a source: error recovery. FEED_PATH_LEAVE_ON of a source without a mode, the path not ON: error recovery, the contract and the roles end, DETEV is set, and nothing is awaited. SOURCE_CAPABILITIES_RECEIVE of good objects by a sink that waits for them: they are kept, and a Request of the object chosen by R472 is sent. Objects that fail the checks are counted and flagged. REQUEST_RECEIVE by a source that has offered, within the object it names: Accept and PS_RDY are sent, the contract is in force, and what waited for the exchange begins. A Request of no object offered is counted and flagged. PS_RDY_RECEIVE by the sink that waits for it: the contract requested is in force. PD_TIMER_EXPIRY 0, no GoodCRC within 1 ms: the message is sent again, up to two times. After that the exchange is given up, a command with TIMEOUT. PD_TIMER_EXPIRY 1, no offer within 465 ms, twice at most: a hard reset is sent. The third time the partner counts as one without PD. PPS_KEEPALIVE under a PPS contract as sink, KEEPALIVE seconds after the last one: the Request is sent again. WAIT_REQUEST_REPEAT 100 ms after Wait: the Request is sent again. SOURCE_CURRENT_LIMIT_TRIP of a source at 3.3 V and still over its limit for 100 ms: CLEV is set and counted, fault 25 raised, and a hard reset sent. Each of these commands is shown to answer a next state with its own effect: limitRecompute, ccTerminationDetect, attachDebounce, tryExpiry, drpToggle, sinkDetach, sourceDetach, errrecExpiry, feedPathLeaveOn, sourceCapabilitiesReceive, requestReceive, psRdyReceive, pdTimerExpiry, ppsKeepalive, waitRequestRepeat, sourceCurrentLimitTrip. -/
def Obligations.UsbCAttachAndContracts : Prop :=
  (∀ (va vb vc vout : BitVec 16) (vbus : BitVec 12) (raw : List (BitVec 14)) (held : Bool) (s s0 s1 s2 : State),
    s.rd HSW_STAT_STATE = 7 → s0 = (((((s.wr HSW_VMEAS0_VA va.toNat).wr HSW_VMEAS0_VB vb.toNat).wr HSW_VMEAS1_VC vc.toNat).wr HSW_VMEAS1_VOUT vout.toNat).feedSample 0 va.toNat).feedSample 1 vb.toNat → s1 = (s0.showCurrents (raw.take 8)).limitsShow.hswPeriod → s1.rd HSW_STAT_STATE = 7 → s1.upd.wait = .none → s2 = s1.wr UPD_VBUS_V vbus.toNat → 
    exec (.limitRecompute va vb vc vout vbus raw held) s = .next (s2.setUpd (fun u => { u with low := if vbus.toNat * 20 < 3670 then u.low + 1 else 0, excess := if s2.sourceOver then u.excess + 1 else 0 })).sinkShow) ∧
  (∀ (v : Nat) (s : State),
    s.upd.wait = .discharge → v ≤ 40 → 
    s.vbusSample v = ((((s.wr UPD_VBUS_V v).setUpd (fun u => { u with low := u.low + 1, excess := if (s.wr UPD_VBUS_V v).sourceOver then u.excess + 1 else 0 })).pdSend .psRdy).pdWait .newOn).sinkShow) ∧
  (∀ (cc2 rp : Bool) (cur : Fin 4) (s e : State),
    e = s.updEvent → e.attIs .unattached = true → rp ≠ e.presentsRp → 
    exec (.ccTerminationDetect cc2 rp cur) s = .next ((e.setUpd (fun u => { u with seen := some (cc2, rp, cur) })).wr UPD_STAT_STATE 1 |>.stampUpd 4)) ∧
  (∀ (cc2 : Bool) (cur : Nat) (s e : State),
    e = s.updEvent → e.attIs .wait = true → e.updRan 4 150 = true → e.upd.seen = some (cc2, true, cur) → (e.toggles && e.rd UPD_CTRL_PREF == 2) = false → e.rd UPD_VBUS_V > 200 → 
    exec .attachDebounce s = .next (e.attachAs false)) ∧
  (∀ (cc2 : Bool) (cur : Nat) (s e : State),
    e = s.updEvent → e.attIs .wait = true → e.updRan 4 150 = true → e.upd.seen = some (cc2, false, cur) → e.toggles = true → e.rd UPD_CTRL_PREF = 1 → 
    exec .attachDebounce s = .next ((e.wr UPD_STAT_STATE 2).setUpd (fun u => { u with rp := false }) |>.stampUpd 4)) ∧
  (∀ (cc2 : Bool) (cur : Nat) (s : State),
    s.updEvent.attIs .wait = true → s.updRan 4 150 = true → s.upd.seen = some (cc2, false, cur) → s.toggles = false → Tab.sorted s.regs = true → 
    ∃ t, exec .attachDebounce s = .next t ∧ t.rd UPD_STAT_STATE = 4 ∧ t.on UPD_STAT_PROLE = true ∧ t.on UPD_STAT_DROLE = true ∧ t.on UPD_STAT_ATTEV = true ∧ t.rd UPD_STAT_ORIENT = bit cc2 ∧ t.upd.vbusOn = true) ∧
  (∀ (seen : Bool) (cur : Fin 4) (s e : State),
    e = s.updEvent → e.attIs .try_ = true → e.updRan 4 (if seen then 10 else 100) = true → 
    exec (.tryExpiry seen cur) s = .next ((e.setUpd (fun u => { u with seen := some ((e.upd.seen.getD (false, false, 0)).1, !((e.rd UPD_CTRL_PREF == 2) == seen), cur) })).attachAs ((e.rd UPD_CTRL_PREF == 2) == seen))) ∧
  (∀ (s : State),
    s.attIs .unattached = true → s.toggles = true → s.updRan 6 50 = true → 
    exec .drpToggle s = .next (({ s with upd := { s.upd with rp := !s.upd.rp } } : State).stampUpd 6)) ∧
  (∀ (s : State),
    s.attIs .snk = true → s.upd.wait = .none → 2500 ≤ s.upd.low → 
    exec .sinkDetach s = .next (s.updEvent.detachTo .unattached)) ∧
  (∀ (s : State),
    s.attIs .snk = true → s.upd.wait = .none → 2500 ≤ s.upd.low → s.rd UPD_ALTSTAT_MODE = 0 → Tab.sorted s.regs = true → 
    ∃ t, exec .sinkDetach s = .next t ∧ t.rd UPD_STAT_STATE = 0 ∧ t.on UPD_CONTRACT_VALID = false ∧ t.on UPD_STAT_PROLE = false ∧ t.on UPD_STAT_DROLE = false ∧ t.on UPD_STAT_DETEV = true ∧ t.upd.wait = .none) ∧
  (∀ (s : State),
    s.attIs .src = true → 
    exec .sourceDetach s = .next (s.updEvent.detachTo .unattached)) ∧
  (∀ (s : State),
    s.attIs .src = true → s.rd UPD_ALTSTAT_MODE = 0 → Tab.sorted s.regs = true → 
    ∃ t, exec .sourceDetach s = .next t ∧ t.rd UPD_STAT_STATE = 0 ∧ t.on UPD_CONTRACT_VALID = false ∧ t.on UPD_STAT_PROLE = false ∧ t.on UPD_STAT_DROLE = false ∧ t.on UPD_STAT_DETEV = true ∧ t.upd.wait = .none) ∧
  (∀ (a : AttState) (s : State),
    s.attached = true → 
    s.detachTo a = (((((s.portClear.wr UPD_STAT_STATE a.code).stampUpd 4).wr UPD_STAT_DETEV 1).sat UPD_CNT_COUNT 6).sinkShow)) ∧
  (∀ (s : State),
    s.rd UPD_STAT_STATE = 5 → s.updRan 4 25 = true → 
    exec .errrecExpiry s = .next (s.wr UPD_STAT_STATE 0)) ∧
  (∀ (s : State),
    s.attIs .src = true → s.pathIs .on = false → 
    exec .feedPathLeaveOn s = .next (s.updEvent.detachTo .errrec)) ∧
  (∀ (s : State),
    s.attIs .src = true → s.pathIs .on = false → s.rd UPD_ALTSTAT_MODE = 0 → Tab.sorted s.regs = true → 
    ∃ t, exec .feedPathLeaveOn s = .next t ∧ t.rd UPD_STAT_STATE = 5 ∧ t.on UPD_CONTRACT_VALID = false ∧ t.on UPD_STAT_PROLE = false ∧ t.on UPD_STAT_DROLE = false ∧ t.on UPD_STAT_DETEV = true ∧ t.upd.wait = .none) ∧
  (∀ (objs : List Word) (s e : State),
    e = s.updEvent → e.attIs .snk = true → e.pdOn = true → e.upd.wait = .caps → capsOk (objs.map (·.toNat)) = true → 
    exec (.sourceCapabilitiesReceive objs) s = .next ((e.pdSeen.setUpd (fun u => { u with caps := objs.map (·.toNat), noCaps := 0 })).requestSend ((e.pdSeen.setUpd (fun u => { u with caps := objs.map (·.toNat), noCaps := 0 })).chooseObject (objs.map (·.toNat))))) ∧
  (∀ (objs : List Word) (s e : State),
    e = s.updEvent → e.attIs .snk = true → e.pdOn = true → e.upd.wait = .caps → capsOk (objs.map (·.toNat)) = false → 
    exec (.sourceCapabilitiesReceive objs) s = .next ((e.sat UPD_CNT_COUNT 2).wr UPD_STAT_REJEV 1)) ∧
  (∀ (w : Word) (pos v i : Nat) (s e s1 : State),
    e = s.updEvent → e.attIs .src = true → e.pdOn = true → e.upd.wait = .offer → pos = bitsOf w.toNat 31 28 → pos ≠ 0 → pos ≤ e.offers.length → State.requestGrant (e.offers.getD (pos - 1) (false, 0, 0)) w.toNat = some (v, i) → s1 = ((((e.pdSeen.setUpd (fun u => { u with ref := v })).pdSend .accept).pdSend .psRdy).contractSet pos (e.offers.getD (pos - 1) (false, 0, 0)).1 v i) → 
    exec (.requestReceive w) s = .next ((s1.pdWait .none).updSettle)) ∧
  (∀ (w : Word) (s e : State),
    e = s.updEvent → e.attIs .src = true → e.pdOn = true → e.upd.wait = .offer → bitsOf w.toNat 31 28 = 0 ∨ bitsOf w.toNat 31 28 > e.offers.length → 
    exec (.requestReceive w) s = .next ((e.sat UPD_CNT_COUNT 2).wr UPD_STAT_REJEV 1)) ∧
  (∀ (s e : State),
    e = s.updEvent → e.upd.wait = .psRdy → 
    exec .psRdyReceive s = .next (((e.contractSet e.upd.req.pos e.upd.req.pps e.upd.req.v e.upd.req.i).pdWait .none).updSettle.sinkShow)) ∧
  (∀ (m : PdMsg) (s : State),
    s.upd.out = [m] → s.upd.tries < 2 → s.updRan 0 1 = true → 
    exec (.pdTimerExpiry 0) s = .next (({ s with upd := { s.upd with tries := s.upd.tries + 1 } } : State).stampUpd 0)) ∧
  (∀ (m : PdMsg) (s : State),
    s.upd.out = [m] → s.upd.tries ≥ 2 → s.updRan 0 1 = true → 
    exec (.pdTimerExpiry 0) s = .next (((s.setUpd (fun u => { u with tries := 0, out := [], vdm := .none })).updCmdEnd .timeout).exchangeEnd)) ∧
  (∀ (s e : State),
    e = s.updEvent → e.upd.wait = .caps → e.upd.noCaps < 2 → e.updRan 1 465 = true → 
    exec (.pdTimerExpiry 1) s = .next ((e.setUpd (fun u => { u with noCaps := u.noCaps + 1 })).hardResetSend)) ∧
  (∀ (s e : State),
    e = s.updEvent → e.upd.wait = .caps → e.upd.noCaps ≥ 2 → e.updRan 1 465 = true → 
    exec (.pdTimerExpiry 1) s = .next ((((e.pdWait .none).wr UPD_STAT_PD 0).setUpd (fun u => { u with nonPd := true })).sinkShow)) ∧
  (∀ (s e : State),
    e = s.updEvent → e.ppsSink = true → e.pdOn = true → e.updRan 5 (1000 * e.rd UPD_SNKCFG_KEEPALIVE) = true → e.exchange = false → e.txOk = true → 
    exec .ppsKeepalive s = .next (e.requestSend e.upd.req)) ∧
  (∀ (s e : State),
    e = s.updEvent → e.upd.again = true → e.attIs .snk = true → e.pdOn = true → e.updRan 7 100 = true → e.exchange = false → e.txOk = true → 
    exec .waitRequestRepeat s = .next ((e.setUpd (fun u => { u with again := false })).requestSend e.upd.req)) ∧
  (∀ (s e : State),
    e = s.updEvent → e.attIs .src = true → 25000 ≤ e.upd.excess → 
    exec .sourceCurrentLimitTrip s = .next ((((e.wr UPD_STAT_CLEV 1).sat UPD_CNT_COUNT 5).fault 25 0).hardResetSend))

/-- UPD_PRSWAP under its key, attached to a PD partner, nothing running and the swap allowed: the command runs, PR_Swap is sent, and its answer awaited. UPD_DRSWAP likewise: a mode is left, DR_Swap is sent, and its answer awaited. UPD_HRESET likewise: the command ends with OK, and Hard_Reset is sent. UPD_EXITALT likewise: the mode is left, and the command ends with OK. A command without the key is ignored with REJEV. PR_SWAP_RECEIVE by a source that allows it: Accept is sent, the contract ends, VBUS goes off, and its discharge is awaited. Where it is not enabled, Reject is sent. DR_SWAP_RECEIVE where it is enabled: a mode is left, Accept sent, the data role changes, and SWAPEV is set. HARD_RESET_RECEIVE of an attached port is a hard reset. A first hard reset: counted, HRSTEV and fault 26 set, mode and contract end, and the port is in the roles of its attach. HARD_RESET_RECEIVE by a source, the first in 10 s, its fault source disabled, with no mode and no command: HRSTEV is set, the contract ends, the roles are those of the attach, VBUS is off, and recovery is awaited. SOFT_RESET_RECEIVE of an attached port with no command running: counted, Accept is sent, and the protocol starts afresh. UNSUPPORTED_MESSAGE_RECEIVE: Not_Supported is sent, and Reject to a VCONN_Swap. ACCEPT_REJECT_WAIT_RECEIVE while a Request waits: Accept leads to the wait for PS_RDY; Wait ends the exchange, the Request being repeated 100 ms later. An answer other than Accept to PR_Swap ends the command with its code, and the exchange. ALT_MODE_DISCOVERY by a DFP under a contract, no mode, nothing running, DisplayPort enabled and offered with pin assignment C or D and no Vexbel mode: the discovery messages and Enter Mode for DisplayPort are sent, C before D. ENTER_MODE_RECEIVE by a UFP under its own SVID, the mode available and none entered: ACK is sent, mode 2 is entered with its multiplexer, ALTEV set, and TRK3 takes the lanes. A hub without an SVID answers NAK, counted, TRKREF set. ENTER_MODE_ACK, positive, for DisplayPort: mode 1 with its pin assignment, ALTEV set, the lanes at their DisplayPort rate, and DisplayPort Configure is sent. EXIT_MODE_RECEIVE by a UFP in a mode: the mode ends, and ACK is sent. DP_ATTENTION in DisplayPort mode: HPD is shown and its level follows; low ends the link. DISCOVER_REQUEST_RECEIVE by a UFP: its identity, its SVID or the VDO of its mode is sent, NAK without an SVID. Each of these commands is shown to answer a next state with its own effect: updPrswap, updDrswap, updHreset, updExitalt, prSwapReceive, drSwapReceive, hardResetReceive, softResetReceive, unsupportedMessageReceive, acceptRejectWaitReceive, altModeDiscovery, enterModeReceive, enterModeAck, exitModeReceive, dpAttention, discoverRequestReceive. -/
def Obligations.UsbCSwapsResetsAndModes : Prop :=
  (∀ (w : Word) (s e s1 : State),
    e = s.updEvent → bitsOf w.toNat 15 0 = 0x5A5A → [31, 30, 29, 28].filter (fun b => w.toNat.testBit b) = [31] → e.upd.cmd = none → e.exchange = false → e.txOk = true → e.attached = true → e.on UPD_STAT_PD = true → e.on UPD_CTRL_PRSWAP = true → e.on UPD_STAT_PROLE = true → s1 = ((e.wr UPD_STAT_CMDBUSY 1).stampUpd 3).setUpd (fun u => { u with cmd := none, run := some 31 }) → 
    exec (.updPrswap w) s = .next ((s1.pdSend .prSwap).pdWait .prSwap)) ∧
  (∀ (w : Word) (s e s1 : State),
    e = s.updEvent → bitsOf w.toNat 15 0 = 0x5A5A → [31, 30, 29, 28].filter (fun b => w.toNat.testBit b) = [30] → e.upd.cmd = none → e.exchange = false → e.txOk = true → e.attached = true → e.on UPD_STAT_PD = true → e.on UPD_CTRL_DRSWAP = true → s1 = ((e.wr UPD_STAT_CMDBUSY 1).stampUpd 3).setUpd (fun u => { u with cmd := none, run := some 30 }) → 
    exec (.updDrswap w) s = .next ((s1.modeLeave.pdSend .drSwap).pdWait .drSwap)) ∧
  (∀ (w : Word) (s e s1 : State),
    e = s.updEvent → bitsOf w.toNat 15 0 = 0x5A5A → [31, 30, 29, 28].filter (fun b => w.toNat.testBit b) = [29] → e.upd.cmd = none → e.exchange = false → e.txOk = true → e.attached = true → e.on UPD_STAT_PD = true → s1 = ((e.wr UPD_STAT_CMDBUSY 1).stampUpd 3).setUpd (fun u => { u with cmd := none, run := some 29 }) → 
    exec (.updHreset w) s = .next ((s1.updCmdEnd .ok).hardResetSend)) ∧
  (∀ (w : Word) (s e s1 : State),
    e = s.updEvent → bitsOf w.toNat 15 0 = 0x5A5A → [31, 30, 29, 28].filter (fun b => w.toNat.testBit b) = [28] → e.upd.cmd = none → e.exchange = false → e.txOk = true → e.attached = true → e.on UPD_STAT_PD = true → s1 = ((e.wr UPD_STAT_CMDBUSY 1).stampUpd 3).setUpd (fun u => { u with cmd := none, run := some 28 }) → 
    exec (.updExitalt w) s = .next (s1.modeLeave.updCmdEnd .ok)) ∧
  (∀ (w : Word) (s e : State),
    e = s.updEvent → bitsOf w.toNat 15 0 ≠ 0x5A5A → 
    exec (.updPrswap w) s = .next (e.wr UPD_STAT_REJEV 1) ∧ exec (.updExitalt w) s = .next (e.wr UPD_STAT_REJEV 1)) ∧
  (∀ (s e : State),
    e = s.updEvent → e.attached = true → e.pdOn = true → e.upd.wait = .none → e.on UPD_CTRL_PRSWAP = true → e.on UPD_STAT_PROLE = true → 
    exec .prSwapReceive s = .next (((e.pdSeen.pdSend .accept).contractEnd.setUpd (fun u => { u with vbusOn := false, ref := 0 })).pdWait .discharge)) ∧
  (∀ (s e : State),
    e = s.updEvent → e.attached = true → e.pdOn = true → e.upd.wait = .none → e.on UPD_CTRL_PRSWAP = false → 
    exec .prSwapReceive s = .next ((e.pdSeen.pdSend .reject).exchangeEnd)) ∧
  (∀ (s e s1 : State),
    e = s.updEvent → e.attached = true → e.pdOn = true → e.upd.wait = .none → e.on UPD_CTRL_DRSWAP = true → s1 = ((e.pdSeen.modeLeave).pdSend .accept).modeLeave → 
    exec .drSwapReceive s = .next (((((s1.wr UPD_STAT_DROLE (1 - s1.rd UPD_STAT_DROLE)).wr UPD_STAT_SWAPEV 1).updCmdEnd .ok).exchangeEnd))) ∧
  (∀ (s : State),
    s.attached = true → s.pdOn = true → 
    exec .hardResetReceive s = .next s.updEvent.hardReset) ∧
  (∀ (s s2 : State),
    s.upd.resets = [] → s2 = ((((((s.sat UPD_CNT_COUNT 0).wr UPD_STAT_HRSTEV 1).fault 26 0).setUpd (fun u => { u with resets := [s.hsw.clock] })).modeEnd.contractEnd.attachRoles)) → s2.on UPD_STAT_CMDBUSY = false → 
    s.hardReset = s2.sinkShow) ∧
  (∀ (s : State),
    s.attIs .src = true → s.pdOn = true → s.upd.src = true → s.upd.resets = [] → s.rd UPD_ALTSTAT_MODE = 0 → s.rd UPD_STAT_CMDBUSY = 0 → s.on FLT_CFG_EN 26 = false → Tab.sorted s.regs = true → 
    ∃ t, exec .hardResetReceive s = .next t ∧ t.on UPD_STAT_HRSTEV = true ∧ t.on UPD_CONTRACT_VALID = false ∧ t.on UPD_STAT_PROLE = true ∧ t.on UPD_STAT_DROLE = true ∧ t.rd UPD_STAT_STATE = 4 ∧ t.upd.wait = .recover ∧ t.upd.vbusOn = false) ∧
  (∀ (s e : State),
    e = s.updEvent → e.attached = true → e.pdOn = true → e.upd.run = none → 
    exec .softResetReceive s = .next ((((e.pdSeen.sat UPD_CNT_COUNT 1).pdSend .accept).softStart))) ∧
  (∀ (vconn : Bool) (s e : State),
    e = s.updEvent → e.attached = true → e.pdOn = true → 
    exec (.unsupportedMessageReceive vconn) s = .next (e.pdSeen.pdSend (if vconn then .reject else .notSupported))) ∧
  (∀ (s e : State),
    e = s.updEvent → e.upd.wait = .request → 
    exec (.acceptRejectWaitReceive 0) s = .next (e.pdSeen.pdWait .psRdy) ∧ exec (.acceptRejectWaitReceive 2) s = .next ((e.pdSeen.setUpd (fun u => { u with again := true })).stampUpd 7 |>.exchangeEnd)) ∧
  (∀ (k : Fin 4) (s e : State),
    e = s.updEvent → e.upd.wait = .prSwap → k ≠ 0 → 
    exec (.acceptRejectWaitReceive k) s = .next ((e.updCmdEnd (if k = 1 then .rejected else if k = 2 then .wait else .notSupp)).exchangeEnd)) ∧
  (∀ (pinC pinD : Bool) (s e : State),
    e = s.updEvent → e.attached = true → e.pdOn = true → e.on UPD_STAT_DROLE = true → e.on UPD_CONTRACT_VALID = true → e.rd UPD_ALTSTAT_MODE = 0 → e.exchange = false → e.txOk = true → e.rd PWR_STAT_STATE < 3 → e.on UPD_ALT_DPEN = true → (pinC || pinD) = true → 
    exec (.altModeDiscovery none true pinC pinD) s = .next ((((((e.pdSend (.discover 0)).pdSend (.discover 1)).pdSend (.discover 2)).pdSend (.enterMode false)).setUpd (fun u => { u with vdm := .enterDp (if pinC then 1 else 2) })).stampUpd 2)) ∧
  (∀ (svid : BitVec 16) (s e : State),
    e = s.updEvent → e.attached = true → e.pdOn = true → e.on UPD_STAT_DROLE = false → svid.toNat ≠ 0 → e.rd UPD_SVID_SVID = svid.toNat → e.ownAvail = true → e.rd UPD_ALTSTAT_MODE = 0 → 
    exec (.enterModeReceive svid) s = .next ((((((e.pdSeen.pdSend .enterAck).wr UPD_ALTSTAT_MODE 2).wr UPD_ALTSTAT_PIN 0).wr UPD_ALTSTAT_MUX 1).wr UPD_STAT_ALTEV 1).usbcRates.trunkMoved)) ∧
  (∀ (svid : BitVec 16) (s e : State),
    e = s.updEvent → e.attached = true → e.pdOn = true → e.on UPD_STAT_DROLE = false → e.rd UPD_SVID_SVID = 0 → 
    exec (.enterModeReceive svid) s = .next (((e.pdSeen.pdSend .enterNak).sat UPD_CNT_COUNT 7).wr UPD_ALTSTAT_TRKREF 1)) ∧
  (∀ (pin : Nat) (s e : State),
    e = s.updEvent → e.upd.vdm = .enterDp pin → 
    exec (.enterModeAck true) s = .next ((((((((e.wr UPD_ALTSTAT_MODE 1).wr UPD_ALTSTAT_PIN pin).wr UPD_ALTSTAT_MUX 0).wr UPD_STAT_ALTEV 1).usbcRates).pdSend (.dpConfigure pin)).setUpd (fun u => { u with vdm := .config })).stampUpd 2)) ∧
  (∀ (s e : State),
    e = s.updEvent → e.attached = true → e.pdOn = true → e.on UPD_STAT_DROLE = false → e.rd UPD_ALTSTAT_MODE ≠ 0 → 
    exec .exitModeReceive s = .next (e.pdSeen.modeEnd.pdSend .exitAck)) ∧
  (∀ (s e : State),
    e = s.updEvent → e.rd UPD_ALTSTAT_MODE = 1 → 
    exec (.dpAttention true false) s = .next ((e.wr UPD_ALTSTAT_HPD 1).wr HD_LINK_HPD 1 1) ∧ exec (.dpAttention false false) s = .next (e.wr UPD_ALTSTAT_HPD 0).hpdLow) ∧
  (∀ (k : Fin 3) (s e : State),
    e = s.updEvent → e.attached = true → e.pdOn = true → e.on UPD_STAT_DROLE = false → 
    exec (.discoverRequestReceive k) s = .next (e.pdSeen.pdSend (if k = 0 then .identity else if e.rd UPD_SVID_SVID = 0 then .vdmNak k else if k = 1 then .svids (e.rd UPD_SVID_SVID) else .mode e.pdSeen.ownVdo)))

/-- FAULT_STATUS_CLEAR of one bit whose cause is gone, hardware setting no bit named in the same cycle: the bit and its effective class clear, and its escalation stops. While its cause is there it stays. A bit that hardware sets in the cycle of the write stays set. FAULT_CFG_WRITE with EN 1, a class at or above the floor and no FORCE, unlocked, its status clear: every field is written. A slot that does not exist: CFGREJ. FAULT_ESCALATION of a status below FATAL whose time is over, its interrupt off: the class rises by one, logged and counted; at FATAL the elytra state is entered, else its time starts anew. TEMPERATURE_SAMPLE near its warning limit: the temperature is shown, and the samples at 125 °C or less are counted. The tenth sample above 125 °C in a row: the warning and the shutdown level have their cause. CONFIG_PARITY_SWEEP without error changes nothing; with one it is the self-fault of slot 0. COLLECTOR_LOCKSTEP_MISMATCH outside the elytra state and below DORMANT: it is entered with SELF and slot 1, FAULT_N low, the blocks halted, and the log entry in hand, its pointer and every status bit open. MGMT_LOCKSTEP_MISMATCH: the processor stops for good, and fault 2 has its cause. MGMT_SRAM_ECC is an occurrence of fault 3 with the word address as detail. A first occurrence of an enabled fault below FATAL, its interrupt off, below DORMANT: status, effective class, detail and count, log and first-fault registers follow, and its escalation starts. MGMT_SRAM_ECC, its fault enabled below FATAL and its interrupt off: fault 3 stands with the word address as detail, counted and logged. ELYTRA_ENTER_COMMAND under its key enters the elytra state by software. ELYTRA_ENTER_COMMAND under its key outside the elytra state and below DORMANT: ELYTRA and SWENTER are 1 with slot 0xFF, FAULT_N is low, and the blocks halt. ELYTRA_EXIT_COMMAND under its key with no FATAL status and no self-fault: ELYTRA is 0, FAULT_N high, and the halted blocks resume. With a self-fault: EXITREJ. Each of these commands is shown to answer a next state with its own effect: faultStatusClear, faultCfgWrite, faultEscalation, temperatureSample, configParitySweep, collectorLockstepMismatch, mgmtLockstepMismatch, mgmtSramEcc, elytraEnterCommand, elytraExitCommand. -/
def Obligations.FaultCollector : Prop :=
  (∀ (j : Fin 8) (w hw : Word) (b : Nat) (s : State),
    (List.range 32).filter (fun k => (w &&& ~~~hw).toNat.testBit k) = [b] → s.fltStatus (32 * j + b) = true → s.fltCause (32 * j + b) = false → 
    exec (.faultStatusClear j w hw) s = .next { (s.disarm (.escalate (32 * j + b))).putBit FLT_STATUS_BITS ((32 * j + b) % 32) false ((32 * j + b) / 32) with flt := { s.flt with eff := Tab.put s.flt.eff (32 * j + b) 0 0 } }) ∧
  (∀ (j : Fin 8) (w hw : Word) (b : Nat) (s : State),
    (List.range 32).filter (fun k => (w &&& ~~~hw).toNat.testBit k) = [b] → s.fltCause (32 * j + b) = true → 
    exec (.faultStatusClear j w hw) s = .next s) ∧
  (∀ (j : Fin 8) (w hw : Word) (s : State),
    w &&& ~~~hw = 0 → 
    exec (.faultStatusClear j w hw) s = .next s) ∧
  (∀ (slot : Fin 256) (w : Word) (s s1 : State),
    slotUsed slot = true → w.toNat.testBit 31 = true → s.on FLT_CTRL_LOCK = false → bitsOf w.toNat 26 25 ≠ 3 → s.rd FLT_CFG_FLOOR slot ≤ bitsOf w.toNat 26 25 → w.toNat.testBit 29 = false → s1 = s.writeFields false [FLT_CFG_IRQ, FLT_CFG_ESCT, FLT_CFG_EN, FLT_CFG_CLASS, FLT_CFG_FORCE] slot 0 w.toNat → s1.fltForced slot = false → s1.fltStatus slot = false → 
    exec (.faultCfgWrite slot w) s = .next s1) ∧
  (∀ (slot : Fin 256) (w : Word) (s : State),
    slotUsed slot = false → 
    exec (.faultCfgWrite slot w) s = .next (s.wr FLT_STAT_CFGREJ 1)) ∧
  (∀ (slot : Fin 256) (cls : Nat) (s s1 s2 : State),
    slotUsed slot = true → s.fltStatus slot = true → s.due (.escalate slot) = true → cls = s.fltClass slot → cls < 2 → s1 = { s with flt := { s.flt with eff := Tab.put s.flt.eff slot (cls + 1) 0 } } → s2 = (s1.fltLog slot (cls + 1) (s1.rd FLT_DET_DETAIL slot) false true).sat FLT_CNT_COUNT 3 → s2.on FLT_CFG_IRQ slot = false → 
    exec (.faultEscalation slot) s = .next (if cls = 1 then (s2.disarm (.escalate slot)).enterElytra slot false false else s2.escArm slot)) ∧
  (∀ (code : BitVec 16) (t : Int) (s : State),
    s.fuse 0x91 = 0 → t = 25 + divZ ((code.toNat - 1600) * 90) 900 → t ≤ 125 → t ≤ s.rd FLT_TEMP_TWARN → (s.rd FLT_TEMP_TWARN : Int) - 5 ≤ t → s.flt.cool < 9 → 
    exec (.temperatureSample code) s = .next { s.wr FLT_TEMP_TEMP (codeOf 16 t) with flt := { s.flt with hot := 0, cool := s.flt.cool + 1 } }) ∧
  (∀ (code : BitVec 16) (s s1 : State),
    s.fuse 0x91 = 0 → 25 + divZ ((code.toNat - 1600) * 90) 900 > 125 → (25 + divZ ((code.toNat - 1600) * 90) 900 : Int) > (s.rd FLT_TEMP_TWARN : Int) → s.flt.hot ≥ 9 → s1 = (s.wr FLT_TEMP_TEMP (codeOf 16 (25 + divZ ((code.toNat - 1600) * 90) 900))).causeOn 5 (codeOf 16 (25 + divZ ((code.toNat - 1600) * 90) 900)) → s1.flt.hot = s.flt.hot → 
    exec (.temperatureSample code) s = .next (({ s1 with flt := { s1.flt with hot := 10, cool := 0 } } : State).causeOn 4 (codeOf 16 (25 + divZ ((code.toNat - 1600) * 90) 900)))) ∧
  (∀ (s : State),
    exec (.configParitySweep false) s = .next s ∧ exec (.configParitySweep true) s = .next (s.selfFault 0)) ∧
  (∀ (e : Nat) (s s1 s2 s3 s4 : State),
    s.rd PWR_STAT_STATE < 3 → s.on FLT_STAT_ELYTRA = false → e = s.rd FLT_LOGWR_WR % 64 → s1 = ({ ((((s.wr FLT_STAT_ELYTRA 1).wr FLT_STAT_ESLOT 1).wr FLT_STAT_SWENTER 0).wr FLT_STAT_SELF 1) with flt := { s.flt with faultN := true } } : State).haltBlocks → s2 = ((((s1.wrFree FLT_LOG0_SLOT e).wrFree FLT_LOG0_CLASS e).wrFree FLT_LOG0_FORCED e).wrFree FLT_LOG0_ESC e).wrFree FLT_LOG0_DETAIL e → s3 = ((((s2.wrFree FLT_LOG1_NS e).wrFree FLT_LOG2_SEC_LO e).wrFree FLT_LOG3_SEC_HI e).wrFree FLT_LOG3_UNTRACED e).wrFree FLT_LOGWR_WR → s4 = s3.each (List.range 177) (fun s k => if slotUsed k then (s.free 1).2.putBit FLT_STATUS_BITS (k % 32) ((s.free 1).1 == 1) (k / 32) else s) → 
    exec .collectorLockstepMismatch s = .next { s4 with flt := { s4.flt with cause := Tab.put s4.flt.cause 1 true false } }) ∧
  (∀ (s : State),
    exec .mgmtLockstepMismatch s = .next (({ s with boot := { s.boot with dead := true, running := false } } : State).causeOn 2 0)) ∧
  (∀ (a : BitVec 19) (s : State),
    exec (.mgmtSramEcc a) s = .next (s.occur 3 (a.toNat / 8) false)) ∧
  (∀ (slot detail cls : Nat) (forced : Bool) (s s2 s3 : State),
    slotUsed slot = true → s.rd PWR_STAT_STATE < 3 → s.fltStatus slot = false → s.on FLT_CFG_EN slot = true → s.on FLT_CFG_IRQ slot = false → cls = max (s.fltClass slot) (s.rd FLT_CFG_CLASS slot) → cls ≠ 2 → s2 = { s.putBit FLT_STATUS_BITS (slot % 32) true (slot / 32) with flt := { s.flt with eff := Tab.put s.flt.eff slot cls 0 } } → s3 = (s2.wr FLT_DET_DETAIL detail slot).sat FLT_DET_COUNT slot → 
    s.occur slot detail forced = (((s3.fltLog slot cls detail forced false).sat FLT_CNT_COUNT cls).fltFirst slot cls).escArm slot) ∧
  (∀ (a : BitVec 19) (cls : Nat) (s s2 s3 : State),
    s.rd PWR_STAT_STATE < 3 → s.fltStatus 3 = false → s.on FLT_CFG_EN 3 = true → s.on FLT_CFG_IRQ 3 = false → cls = max (s.fltClass 3) (s.rd FLT_CFG_CLASS 3) → cls ≠ 2 → s2 = { s.putBit FLT_STATUS_BITS 3 true 0 with flt := { s.flt with eff := Tab.put s.flt.eff 3 cls 0 } } → s3 = (s2.wr FLT_DET_DETAIL (a.toNat / 8) 3).sat FLT_DET_COUNT 3 → 
    exec (.mgmtSramEcc a) s = .next ((((s3.fltLog 3 cls (a.toNat / 8) false false).sat FLT_CNT_COUNT cls).fltFirst 3 cls).escArm 3)) ∧
  (∀ (w : Word) (s : State),
    bitsOf w.toNat 15 0 = 0x5A5A → w.toNat.testBit 31 = false → w.toNat.testBit 30 = true → 
    exec (.elytraEnterCommand w) s = .next (s.enterElytra 0xFF true false)) ∧
  (∀ (w : Word) (s : State),
    bitsOf w.toNat 15 0 = 0x5A5A → w.toNat.testBit 31 = false → w.toNat.testBit 30 = true → s.on FLT_STAT_ELYTRA = false → s.rd PWR_STAT_STATE < 3 → 
    exec (.elytraEnterCommand w) s = .next ({ ((((s.wr FLT_STAT_ELYTRA 1).wr FLT_STAT_ESLOT 0xFF).wr FLT_STAT_SWENTER 1).wr FLT_STAT_SELF 0) with flt := { s.flt with faultN := true } } : State).haltBlocks) ∧
  (∀ (w : Word) (s : State),
    bitsOf w.toNat 15 0 = 0x5A5A → w.toNat.testBit 31 = true → w.toNat.testBit 30 = false → s.on FLT_STAT_ELYTRA = true → s.on FLT_STAT_SELF = false → (List.range 177).all (fun k => !(s.fltStatus k && s.fltClass k == 2)) = true → 
    exec (.elytraExitCommand w) s = .next (({ s.wr FLT_STAT_ELYTRA 0 with flt := { s.flt with faultN := false } } : State).resumeBlocks)) ∧
  (∀ (w : Word) (s : State),
    bitsOf w.toNat 15 0 = 0x5A5A → w.toNat.testBit 31 = true → w.toNat.testBit 30 = false → s.on FLT_STAT_ELYTRA = true → s.on FLT_STAT_SELF = true → 
    exec (.elytraExitCommand w) s = .next (s.wr FLT_STAT_EXITREJ 1))

/-- GPIO_EDGE of a change held through the filter, room in the queue: the level after POL is shown, the edge bit set where the edge is asked for, and the edge queued with the time of its start and the entries that record it. I2C_WRITE_BYTE with GO to a free, enabled controller: BUSY is 1, the command is held, a START holds the bus. I2C_READ_BYTE likewise. While BUSY or not enabled: CFGREJ. I2C_COMMAND_DONE of a read without STOP: BUSY 0, DONE 1, and the byte shown. Of a write with STOP that is not acknowledged: NACKRX as well, and the bus is free. With arbitration lost: ARBLOST, and the bus is free. With a bus that stays busy past STRETCH before a START: BUSERR, and the bus is free. I2C_STRETCH_TIMEOUT, SCL held low past STRETCH: TIMEOUT, and the bus is free. MDIO_C22_WRITE, MDIO_C22_READ and the Clause 45 frames with GO on a free, enabled controller, a valid operation: BUSY is 1 and the frame held. A Clause 22 frame with another operation: CFGREJ. MDIO_FRAME_DONE of a read: BUSY 0, DONE 1, and the data shown, or NORESP. Of another frame: BUSY 0, DONE 1. Each of these commands is shown to answer a next state with its own effect: gpioEdge, i2cWriteByte, i2cReadByte, i2cCommandDone, i2cStretchTimeout, mdioC22Write, mdioC22Read, mdioC45Address, mdioC45Write, mdioC45ReadIncrement, mdioC45Read, mdioFrameDone. -/
def Obligations.PinsAndSerialBuses : Prop :=
  (∀ (p : Fin 32) (ball level : Bool) (ago : Nat) (s s2 : State),
    level = (ball != s.on GPIO_PIN_POL p) → s.bitAt GPIO_IN_LEVEL p = !level → s2 = (if s.rd GPIO_PIN_EDGE p = 3 || (s.rd GPIO_PIN_EDGE p = 1 && level) || (s.rd GPIO_PIN_EDGE p = 2 && !level) then (s.putBit GPIO_IN_LEVEL p level).putBit GPIO_EVST_EDGE p true else s.putBit GPIO_IN_LEVEL p level) → s2.gpio.queue.length < 64 → s.rd GPIO_PIN_FILT p * 4000 * 2 ^ 32 ≤ ago → 
    exec (.gpioEdge p ball ago) s = .next { s2 with gpio := { s2.gpio with queue := s2.gpio.queue ++ [{ pin := p, fall := !level, time := Wide.ofUnits (s.tmu.tod.units - ago), traced := s.on TMU_STAT_TVALID, entries := s.edgeEntries p (!level) }] } }) ∧
  (∀ (b : Fin 2) (w : Word) (s : State),
    w.toNat.testBit 31 = true → s.on I2C_STAT_BUSY b = false → s.on I2C_CFG_EN b = true → 
    exec (.i2cWriteByte b w) s = .next { ((s.arm (.stretch b) 0).wr I2C_STAT_BUSY 1 b) with gpio := { s.gpio with i2cCmd := Tab.put s.gpio.i2cCmd b (w.toNat % 2 ^ 31) 0, i2cHold := if w.toNat.testBit 30 then Tab.put s.gpio.i2cHold b true false else s.gpio.i2cHold } }) ∧
  (∀ (b : Fin 2) (w : Word) (s : State),
    w.toNat.testBit 31 = true → w.toNat.testBit 28 = true → s.on I2C_STAT_BUSY b = false → s.on I2C_CFG_EN b = true → 
    exec (.i2cReadByte b w) s = .next { ((s.arm (.stretch b) 0).wr I2C_STAT_BUSY 1 b) with gpio := { s.gpio with i2cCmd := Tab.put s.gpio.i2cCmd b (w.toNat % 2 ^ 31) 0, i2cHold := if w.toNat.testBit 30 then Tab.put s.gpio.i2cHold b true false else s.gpio.i2cHold } }) ∧
  (∀ (b : Fin 2) (w : Word) (s : State),
    w.toNat.testBit 31 = true → s.on I2C_STAT_BUSY b = true ∨ s.on I2C_CFG_EN b = false → 
    exec (.i2cWriteByte b w) s = .next (s.wr GPIO_STAT_CFGREJ 1)) ∧
  (∀ (b : Fin 2) (c : Nat) (data : Byte) (s : State),
    s.on I2C_STAT_BUSY b = true → c = Tab.get s.gpio.i2cCmd b 0 → c.testBit 28 = true → c.testBit 29 = false → 
    exec (.i2cCommandDone b 0 data) s = .next ((((s.disarm (.stretch b)).wr I2C_STAT_BUSY 0 b).wr I2C_STAT_DONE 1 b).wr I2C_STAT_RXDATA data.toNat b)) ∧
  (∀ (b : Fin 2) (c : Nat) (data : Byte) (s : State),
    s.on I2C_STAT_BUSY b = true → c = Tab.get s.gpio.i2cCmd b 0 → c.testBit 28 = false → c.testBit 29 = true → 
    exec (.i2cCommandDone b 1 data) s = .next ({ ((((s.disarm (.stretch b)).wr I2C_STAT_BUSY 0 b).wr I2C_STAT_DONE 1 b).wr I2C_STAT_NACKRX 1 b) with gpio := { s.gpio with i2cHold := Tab.put s.gpio.i2cHold b false false } })) ∧
  (∀ (b : Fin 2) (data : Byte) (s : State),
    s.on I2C_STAT_BUSY b = true → 
    exec (.i2cCommandDone b 2 data) s = .next ({ ((((s.disarm (.stretch b)).wr I2C_STAT_BUSY 0 b).wr I2C_STAT_DONE 1 b).wr I2C_STAT_ARBLOST 1 b) with gpio := { s.gpio with i2cHold := Tab.put s.gpio.i2cHold b false false } })) ∧
  (∀ (b : Fin 2) (data : Byte) (s : State),
    s.on I2C_STAT_BUSY b = true → (Tab.get s.gpio.i2cCmd b 0).testBit 30 = true → s.stretched b = true → 
    exec (.i2cCommandDone b 3 data) s = .next ({ ((((s.disarm (.stretch b)).wr I2C_STAT_BUSY 0 b).wr I2C_STAT_DONE 1 b).wr I2C_STAT_BUSERR 1 b) with gpio := { s.gpio with i2cHold := Tab.put s.gpio.i2cHold b false false } })) ∧
  (∀ (b : Fin 2) (s : State),
    s.on I2C_STAT_BUSY b = true → s.stretched b = true → 
    exec (.i2cStretchTimeout b) s = .next ({ ((((s.disarm (.stretch b)).wr I2C_STAT_BUSY 0 b).wr I2C_STAT_DONE 1 b).wr I2C_STAT_TIMEOUT 1 b) with gpio := { s.gpio with i2cHold := Tab.put s.gpio.i2cHold b false false } })) ∧
  (∀ (w : Word) (s t : State),
    w.toNat.testBit 31 = true → s.on MDIO_STAT_BUSY = false → s.on MDIO_CFG_EN = true → w.toNat.testBit 30 = true ∨ bitsOf w.toNat 29 28 = 1 ∨ bitsOf w.toNat 29 28 = 2 → t = { (s.wr MDIO_STAT_BUSY 1) with gpio := { s.gpio with mdioCmd := w.toNat % 2 ^ 31 } } → 
    exec (.mdioC22Write w) s = .next t ∧ exec (.mdioC22Read w) s = .next t ∧ exec (.mdioC45Address w) s = .next t ∧ exec (.mdioC45Write w) s = .next t ∧ exec (.mdioC45ReadIncrement w) s = .next t ∧ exec (.mdioC45Read w) s = .next t) ∧
  (∀ (w : Word) (s : State),
    w.toNat.testBit 31 = true → w.toNat.testBit 30 = false → bitsOf w.toNat 29 28 = 0 ∨ bitsOf w.toNat 29 28 = 3 → 
    exec (.mdioC22Write w) s = .next (s.wr GPIO_STAT_CFGREJ 1)) ∧
  (∀ (data : BitVec 16) (s : State),
    s.on MDIO_STAT_BUSY = true → 2 ≤ bitsOf s.gpio.mdioCmd 29 28 → 
    exec (.mdioFrameDone true data) s = .next (((s.wr MDIO_STAT_BUSY 0).wr MDIO_STAT_DONE 1).wr MDIO_STAT_RDATA data.toNat) ∧ exec (.mdioFrameDone false data) s = .next (((s.wr MDIO_STAT_BUSY 0).wr MDIO_STAT_DONE 1).wr MDIO_STAT_NORESP 1)) ∧
  (∀ (resp : Bool) (data : BitVec 16) (s : State),
    s.on MDIO_STAT_BUSY = true → bitsOf s.gpio.mdioCmd 29 28 < 2 → 
    exec (.mdioFrameDone resp data) s = .next ((s.wr MDIO_STAT_BUSY 0).wr MDIO_STAT_DONE 1))

/-- The state after reset is sound: its register table and its memories are in their one canonical form. No command waits, and the clocked state stands at 0. -/
def Obligations.SoundAtReset : Prop :=
  (State.reset.Sound) ∧
  (State.reset.pending = [] ∧ State.reset.tmu.elapsed = 0 ∧ State.reset.boot.held = true)

/-- For every sound state s and whatever command is at the front of its queue, if a step of s answers a next state, that state is sound: register keys strictly rise, and the host's memory, DRAM, management SRAM, scratchpad and flash list rising addresses and no byte that an unlisted address reads as. -/
def Obligations.EveryStepKeepsSound : Prop :=
  ∀ (s t : State),
    s.Sound → step s = .next t → 
    t.Sound

/-- For every state s and every command, resets of every kind included, if a step of s answers a next state, every fuse bit that is 1 in s is 1 in it. -/
def Obligations.NoStepUnburnsAFuse : Prop :=
  ∀ (s t : State),
    step s = .next t → 
    FusesKept s t

/-- No command's own effect touches the queue, and a step with a command in front leaves exactly the rest of the queue, resets of every kind included (the queue is the model's own form of the hub's inputs, log entry 1). -/
def Obligations.OnlyTheFrontLeavesTheQueue : Prop :=
  (∀ (c : Instr) (s t : State),
    exec c s = .next t → 
    t.pending = s.pending) ∧
  (∀ (c : Instr) (l : List Instr) (s t : State),
    s.pending = c :: l → step s = .next t → 
    t.pending = l)

/-- For every command and every state the hub goes on: no command ends in a fault or a refusal, whatever the state and the operands. What each does is said command by command in the other statements. -/
def Obligations.EveryCommandCompletes : Prop :=
  ∀ (c : Instr) (s : State),
    ∃ t, exec c s = .next t

/-- Such a write leaves the hub as it is; such a read leaves it as it is but for the word read, which is 0x0000_0000. The same holds for a register write whose offset is not a multiple of 4, outside the scratchpad window. -/
def Obligations.UnalignedAccessesHaveNoEffect : Prop :=
  (∀ (s : State),
    exec (.unalignedAccess false) s = .next s ∧ exec (.unalignedAccess true) s = .next { s with readWord := 0 }) ∧
  (∀ (off : BitVec 26) (w hw : Word) (mgmt : Bool) (s : State),
    off.toNat % 4 ≠ 0 → padWindow off.toNat 4 = false → 
    exec (.registerWrite off w mgmt hw) s = .next s)

/-- A mains edge outside the interval checks, an observation that is stale, of another step count, from the future or outside the interval checks, and an event whose candidate increment is out of range each set EVREJ and count in CYC_CNT_REJ; the tracker's increment, phase, history, state and loss timer stay as they were. -/
def Obligations.RejectedPhaseEvents : Prop :=
  (∀ (fall : Bool) (ago : Nat) (s : State) (t : Nat),
    s.rd CYC_CTRL_SRC = 1 → fall = s.on CYC_ZC_CFG_EDGE → t = s.tmu.elapsed - ago → s.zcMasked t = false → s.intervalOk t = false → 
    exec (.mainsZcEdge fall ago) s = .next ((s.wr CYC_STAT_EVREJ 1).sat CYC_CNT_REJ_COUNT)) ∧
  (∀ (w : Word) (s : State),
    s.rd CYC_CTRL_SRC = 2 → bitsOf w.toNat 31 16 ≠ s.rd TMU_STAT_STEPCNT ∨ s.rd CYC_SV_NS_NS > 999999999 ∨ s.svAge (bitsOf w.toNat 15 0) < 0 ∨ s.svAge (bitsOf w.toNat 15 0) > 25000000 * 2 ^ 16 → 
    exec (.svObservation w) s = .next ((s.wr CYC_STAT_EVREJ 1).sat CYC_CNT_REJ_COUNT)) ∧
  (∀ (s : State),
    s.cycReject.cyc = s.cyc ∧ s.cycReject.tmu = s.tmu ∧ s.cycReject.rd CYC_STAT_STATE = s.rd CYC_STAT_STATE ∧ s.cycReject.rd CYC_INCR_LO_FRAC = s.rd CYC_INCR_LO_FRAC)

/-- Every field of the register map reads, after reset, the reset value that its register table gives it, for every index. Among them: whole part of the time increment 2 ns, ring size 2, width limit of trunk 3 code 3, current limit code 500, USB-C power role code 2, wake sources 0x05, bank 31 owned by master 16, fault source 176 enabled and slot 15 not, MAXLEN of edge port 7 1,518, power-on the reset cause, DRAM not ready. -/
def Obligations.ResetValuesOfRegisters : Prop :=
  (∀ (F : Field) (i j : Nat),
    State.reset.rd F i j = F.resetOf i) ∧
  (State.reset.rd TMU_INCR_HI_INT = 2 ∧ State.reset.rd FAB_RING_CFG_SIZE = 2 ∧ State.reset.rd TRK_CTRL_MAXW 3 = 3 ∧ State.reset.rd HSW_LIMIT_ILIM = 500 ∧ State.reset.rd UPD_CTRL_POWER = 2 ∧ State.reset.rd PWR_WAKE_EN = 5 ∧ State.reset.rd BNK_OWN_OWNER 31 = 16 ∧ State.reset.rd FLT_CFG_EN 176 = 1 ∧ State.reset.rd FLT_CFG_EN 15 = 0 ∧ State.reset.rd EDG_CTRL_MAXLEN 7 = 1518 ∧ State.reset.rd GEN_RSTCAUSE_POWERON = 1 ∧ State.reset.rd DRC_STAT_READY = 0)
end

