-- ==== Sys2Proof/Laws/Table.lean ====
section
/-! SUPPORT. What the table and memory operations do: a read after a write, and the canonical form that every write keeps. -/

namespace Sys2Proof.Machine

variable {α : Type}

theorem Tab.above_of_lt {b b' : Nat} (h : b ≤ b') : ∀ {t : Tab α}, Tab.above b' t = true → Tab.above b t = true
  | [], _ => rfl
  | (k, v) :: t, ht => by
    simp only [Tab.above, Bool.and_eq_true, decide_eq_true_eq] at ht ⊢
    exact ⟨by omega, ht.2⟩

theorem Tab.sorted_of_above {b : Nat} : ∀ {t : Tab α}, Tab.above b t = true → Tab.sorted t = true
  | [], _ => rfl
  | (k, v) :: t, ht => by
    simp only [Tab.above, Bool.and_eq_true] at ht
    exact ht.2

theorem Tab.above_drop (k : Nat) : ∀ {b : Nat} {t : Tab α}, Tab.above b t = true → Tab.above b (Tab.drop t k) = true
  | _, [], _ => rfl
  | b, (k', v') :: t, ht => by
    have h := ht
    simp only [Tab.above, Bool.and_eq_true, decide_eq_true_eq] at h
    unfold Tab.drop
    split
    · exact Tab.above_of_lt (by omega) h.2
    · simp only [Tab.above, Bool.and_eq_true, decide_eq_true_eq]
      exact ⟨h.1, Tab.above_drop k h.2⟩

theorem Tab.above_ins (k : Nat) (v : α) :
    ∀ {b : Nat} {t : Tab α}, b < k → Tab.above b t = true → Tab.above b (Tab.ins t k v) = true
  | b, [], hb, _ => by simp [Tab.ins, Tab.above, hb]
  | b, (k', v') :: t, hb, ht => by
    have h := ht
    simp only [Tab.above, Bool.and_eq_true, decide_eq_true_eq] at h
    unfold Tab.ins
    split
    · rename_i hk
      simp only [Tab.above, Bool.and_eq_true, decide_eq_true_eq]
      exact ⟨hb, hk, h.2⟩
    · split
      · rename_i hk
        subst hk
        simp only [Tab.above, Bool.and_eq_true, decide_eq_true_eq]
        exact ⟨hb, h.2⟩
      · simp only [Tab.above, Bool.and_eq_true, decide_eq_true_eq]
        exact ⟨h.1, Tab.above_ins k v (by omega) h.2⟩

/-- Removing a key keeps the keys rising. -/
theorem Tab.sorted_drop (k : Nat) {t : Tab α} (h : Tab.sorted t = true) : Tab.sorted (Tab.drop t k) = true := by
  cases t with
  | nil => rfl
  | cons e t =>
    obtain ⟨k', v'⟩ := e
    unfold Tab.drop
    split
    · exact Tab.sorted_of_above h
    · exact Tab.above_drop k h

/-- Setting a key keeps the keys rising. -/
theorem Tab.sorted_ins (k : Nat) (v : α) {t : Tab α} (h : Tab.sorted t = true) : Tab.sorted (Tab.ins t k v) = true := by
  cases t with
  | nil => rfl
  | cons e t =>
    obtain ⟨k', v'⟩ := e
    unfold Tab.ins
    split
    · rename_i hk
      simp only [Tab.sorted, Tab.above, Bool.and_eq_true, decide_eq_true_eq] at h ⊢
      exact ⟨hk, h⟩
    · split
      · rename_i hk
        subst hk
        exact h
      · exact Tab.above_ins k v (by omega) h

/-- A write keeps the keys rising. -/
theorem Tab.sorted_put [DecidableEq α] (k : Nat) (v d : α) {t : Tab α} (h : Tab.sorted t = true) :
    Tab.sorted (Tab.put t k v d) = true := by
  unfold Tab.put
  split
  · exact Tab.sorted_drop k h
  · exact Tab.sorted_ins k v h

theorem Tab.mem_drop {k : Nat} {e : Nat × α} : ∀ {t : Tab α}, e ∈ Tab.drop t k → e ∈ t
  | [], h => h
  | (k', v') :: t, h => by
    unfold Tab.drop at h
    split at h
    · exact List.mem_cons_of_mem _ h
    · rcases List.mem_cons.mp h with h | h
      · exact h ▸ List.mem_cons_self
      · exact List.mem_cons_of_mem _ (Tab.mem_drop h)

theorem Tab.mem_ins {k : Nat} {v : α} {e : Nat × α} : ∀ {t : Tab α}, e ∈ Tab.ins t k v → e = (k, v) ∨ e ∈ t
  | [], h => by simpa [Tab.ins] using h
  | (k', v') :: t, h => by
    unfold Tab.ins at h
    split at h
    · exact List.mem_cons.mp h
    · split at h
      · rcases List.mem_cons.mp h with h | h
        · exact .inl h
        · exact .inr (List.mem_cons_of_mem _ h)
      · rcases List.mem_cons.mp h with h | h
        · exact .inr (h ▸ List.mem_cons_self)
        · rcases Tab.mem_ins h with h | h
          · exact .inl h
          · exact .inr (List.mem_cons_of_mem _ h)

/-- A write keeps the canonical form. -/
theorem Tab.wf_put [DecidableEq α] (k : Nat) (v d : α) {t : Tab α} (h : Tab.wf d t = true) :
    Tab.wf d (Tab.put t k v d) = true := by
  simp only [Tab.wf, Bool.and_eq_true, List.all_eq_true, decide_eq_true_eq] at h ⊢
  refine ⟨Tab.sorted_put k v d h.1, fun e he => ?_⟩
  unfold Tab.put at he
  split at he
  · exact h.2 e (Tab.mem_drop he)
  · rename_i hv
    rcases Tab.mem_ins he with he | he
    · rw [he]; exact hv
    · exact h.2 e he

theorem Tab.get_ins_self (k : Nat) (v d : α) : ∀ t : Tab α, Tab.get (Tab.ins t k v) k d = v
  | [] => by simp [Tab.ins, Tab.get]
  | (k', v') :: t => by
    unfold Tab.ins
    split
    · simp [Tab.get]
    · split
      · simp [Tab.get]
      · simp [Tab.get, *, Tab.get_ins_self k v d t]

theorem Tab.get_ins_ne {k k₂ : Nat} (hk : k ≠ k₂) (v d : α) :
    ∀ t : Tab α, Tab.get (Tab.ins t k v) k₂ d = Tab.get t k₂ d
  | [] => by simp [Tab.ins, Tab.get, hk]
  | (k', v') :: t => by
    unfold Tab.ins
    split
    · simp [Tab.get, hk]
    · split
      · rename_i h
        subst h
        simp [Tab.get, hk]
      · simp [Tab.get, Tab.get_ins_ne hk v d t]

theorem Tab.get_above {b k : Nat} (hk : k ≤ b) (d : α) : ∀ {t : Tab α}, Tab.above b t = true → Tab.get t k d = d
  | [], _ => rfl
  | (k', v') :: t, h => by
    simp only [Tab.above, Bool.and_eq_true, decide_eq_true_eq] at h
    have hne : k' ≠ k := by omega
    simp [Tab.get, hne, Tab.get_above (Nat.le_trans hk (Nat.le_of_lt h.1)) d h.2]

theorem Tab.get_drop_self (k : Nat) (d : α) :
    ∀ {t : Tab α}, Tab.sorted t = true → Tab.get (Tab.drop t k) k d = d
  | [], _ => rfl
  | (k', v') :: t, h => by
    unfold Tab.drop
    split
    · rename_i hk
      subst hk
      exact Tab.get_above (Nat.le_refl _) d h
    · rename_i hk
      simp only [Tab.get, hk, if_false]
      exact Tab.get_drop_self k d (Tab.sorted_of_above h)

theorem Tab.get_drop_ne {k k₂ : Nat} (hk : k ≠ k₂) (d : α) :
    ∀ t : Tab α, Tab.get (Tab.drop t k) k₂ d = Tab.get t k₂ d
  | [] => rfl
  | (k', v') :: t => by
    unfold Tab.drop
    split
    · rename_i h
      subst h
      simp [Tab.get, hk]
    · simp [Tab.get, Tab.get_drop_ne hk d t]

/-- A read of the key just written gives the value written. -/
theorem Tab.get_put_self [DecidableEq α] (k : Nat) (v d : α) {t : Tab α} (h : Tab.sorted t = true) :
    Tab.get (Tab.put t k v d) k d = v := by
  unfold Tab.put
  split
  · rename_i hv
    rw [Tab.get_drop_self k d h, hv]
  · exact Tab.get_ins_self k v d t

/-- A write leaves every other key alone. -/
theorem Tab.get_put_ne [DecidableEq α] {k k₂ : Nat} (hk : k ≠ k₂) (v d d₂ : α) (t : Tab α) :
    Tab.get (Tab.put t k v d) k₂ d₂ = Tab.get t k₂ d₂ := by
  unfold Tab.put
  split
  · exact Tab.get_drop_ne hk d₂ t
  · exact Tab.get_ins_ne hk v d₂ t

/-- A byte written keeps the memory's canonical form. -/
theorem Memory.wf_setByte {m : Memory} (a : Nat) (b : Byte) (h : Memory.wf m = true) :
    Memory.wf (Memory.setByte m a b) = true := Tab.wf_put a b 0 h

/-- Bytes written keep the memory's canonical form. -/
theorem Memory.wf_write : ∀ (l : List Byte) {m : Memory} (a : Nat), Memory.wf m = true →
    Memory.wf (Memory.write m a l) = true
  | [], _, _, h => h
  | b :: bs, _, a, h => Memory.wf_write bs (a + 1) (Memory.wf_setByte a b h)

/-- A byte reads back as written. -/
theorem Memory.byte_setByte_self {m : Memory} (a : Nat) (b : Byte) (h : Memory.wf m = true) :
    Memory.byte (Memory.setByte m a b) a = b := by
  simp only [Memory.wf, Tab.wf, Bool.and_eq_true] at h
  exact Tab.get_put_self a b 0 h.1

/-- A byte written leaves every other byte alone. -/
theorem Memory.byte_setByte_ne {m : Memory} {a a' : Nat} (b : Byte) (h : a ≠ a') :
    Memory.byte (Memory.setByte m a b) a' = Memory.byte m a' := Tab.get_put_ne h b 0 0 m

/-- Bytes written leave every byte outside their span alone. -/
theorem Memory.byte_write_out : ∀ (l : List Byte) (m : Memory) (a a' : Nat), (a' < a ∨ a + l.length ≤ a') →
    Memory.byte (Memory.write m a l) a' = Memory.byte m a'
  | [], _, _, _, _ => rfl
  | b :: bs, m, a, a', h => by
    simp only [List.length_cons] at h
    rw [Memory.write, Memory.byte_write_out bs _ (a + 1) a' (by omega), Memory.byte_setByte_ne b (by omega)]

/-- Entries taken away keep the keys rising. -/
theorem Tab.above_filter (p : Nat × α → Bool) : ∀ {b : Nat} {t : Tab α}, Tab.above b t = true → Tab.above b (t.filter p) = true
  | _, [], _ => rfl
  | b, (k, v) :: t, h => by
    simp only [Tab.above, Bool.and_eq_true, decide_eq_true_eq] at h
    unfold List.filter
    split
    · simp only [Tab.above, Bool.and_eq_true, decide_eq_true_eq]
      exact ⟨h.1, Tab.above_filter p h.2⟩
    · exact Tab.above_of_lt (Nat.le_of_lt h.1) (Tab.above_filter p h.2)

theorem Tab.sorted_filter (p : Nat × α → Bool) {t : Tab α} (h : Tab.sorted t = true) : Tab.sorted (t.filter p) = true := by
  cases t with
  | nil => rfl
  | cons e t =>
    unfold List.filter
    split
    · exact Tab.above_filter p h
    · exact Tab.sorted_of_above (Tab.above_filter p h)

theorem Tab.wf_filter [DecidableEq α] (d : α) (p : Nat × α → Bool) {t : Tab α} (h : Tab.wf d t = true) :
    Tab.wf d (t.filter p) = true := by
  simp only [Tab.wf, Bool.and_eq_true, List.all_eq_true, decide_eq_true_eq] at h ⊢
  exact ⟨Tab.sorted_filter p h.1, fun e he => h.2 e ((List.mem_filter.mp he).1)⟩

end Sys2Proof.Machine
end

