-- ==== Sys2Proof/Laws/Keeps.lean ====
section
/-! SUPPORT. What every operation of the model keeps: the queue, the canonical form of the stores, and every burnt fuse. One lemma per way of changing the state; the files Keeps*.lean cite them for each operation. -/

namespace Sys2Proof.Machine

/-- The canonical form of the stores, by their contents. -/
def StoresOk (regs : Tab Nat) (host dram sram : Memory) (pad : Tab (Option Byte)) (flash : Memory) : Prop :=
  Tab.sorted regs = true ∧ Memory.wf host = true ∧ Memory.wf dram = true ∧ Memory.wf sram = true ∧
    Tab.wf none pad = true ∧ Memory.wf flash = true

/-- Every bit that is set in a row of `f` is set in the row of `g`. -/
def RowsKept (f g : Tab Nat) : Prop := ∀ r b, (Tab.get f r 0).testBit b = true → (Tab.get g r 0).testBit b = true

/-- From `o` to `s` the queue is the same, sound stores stay sound, and no fuse is lost. -/
def Keeps (o s : State) : Prop :=
  s.pending = o.pending ∧
  (StoresOk o.regs o.host o.dram o.sram o.pad o.flash → StoresOk s.regs s.host s.dram s.sram s.pad s.flash) ∧
  RowsKept o.keys.fuse s.keys.fuse

theorem Keeps.refl (s : State) : Keeps s s := ⟨rfl, id, fun _ _ h => h⟩

theorem Keeps.trans {a b c : State} (h : Keeps a b) (g : Keeps b c) : Keeps a c :=
  ⟨g.1.trans h.1, g.2.1 ∘ h.2.1, fun r x y => g.2.2 r x (h.2.2 r x y)⟩

variable {o s : State}

theorem Keeps.putRegs (h : Keeps o s) (k v d : Nat) : Keeps o { s with regs := Tab.put s.regs k v d } :=
  ⟨h.1, fun g => let x := h.2.1 g; ⟨Tab.sorted_put k v d x.1, x.2⟩, h.2.2⟩

theorem Keeps.setHost (h : Keeps o s) {m : Memory} (g : Memory.wf s.host = true → Memory.wf m = true) :
    Keeps o { s with host := m } :=
  ⟨h.1, fun y => let x := h.2.1 y; ⟨x.1, g x.2.1, x.2.2⟩, h.2.2⟩

theorem Keeps.setDram (h : Keeps o s) {m : Memory} (g : Memory.wf s.dram = true → Memory.wf m = true) :
    Keeps o { s with dram := m } :=
  ⟨h.1, fun y => let x := h.2.1 y; ⟨x.1, x.2.1, g x.2.2.1, x.2.2.2⟩, h.2.2⟩

theorem Keeps.setSram (h : Keeps o s) {m : Memory} (g : Memory.wf s.sram = true → Memory.wf m = true) :
    Keeps o { s with sram := m } :=
  ⟨h.1, fun y => let x := h.2.1 y; ⟨x.1, x.2.1, x.2.2.1, g x.2.2.2.1, x.2.2.2.2⟩, h.2.2⟩

theorem Keeps.setPad (h : Keeps o s) {m : Tab (Option Byte)} (g : Tab.wf none s.pad = true → Tab.wf none m = true) :
    Keeps o { s with pad := m } :=
  ⟨h.1, fun y => let x := h.2.1 y; ⟨x.1, x.2.1, x.2.2.1, x.2.2.2.1, g x.2.2.2.2.1, x.2.2.2.2.2⟩, h.2.2⟩

theorem Keeps.setFlash (h : Keeps o s) {m : Memory} (g : Memory.wf s.flash = true → Memory.wf m = true) :
    Keeps o { s with flash := m } :=
  ⟨h.1, fun y => let x := h.2.1 y; ⟨x.1, x.2.1, x.2.2.1, x.2.2.2.1, x.2.2.2.2.1, g x.2.2.2.2.2⟩, h.2.2⟩

theorem Keeps.setFuse (h : Keeps o s) {f : Tab Nat} {l : List Nat} (g : RowsKept s.keys.fuse f) :
    Keeps o { s with keys := { s.keys with fuse := f, fuseBad := l } } :=
  ⟨h.1, h.2.1, fun r x y => g r x (h.2.2 r x y)⟩

theorem RowsKept.burn (f : Tab Nat) (r v : Nat) : RowsKept f (Tab.put f r (Tab.get f r 0 ||| v) 0) := by
  intro q b hb
  by_cases hq : r = q
  · subst hq
    unfold Tab.put
    split
    · rename_i hz
      have : (Tab.get f r 0 ||| v).testBit b = true := by simp [Nat.testBit_or, hb]
      rw [hz] at this
      simp at this
    · rw [Tab.get_ins_self]
      simp [Nat.testBit_or, hb]
  · rw [Tab.get_put_ne hq]
    exact hb

/-- A record update that leaves the queue, the stores and the fuses alone. -/
theorem Keeps.upd {xfab : Fab} {xring : Ring} {xxsw : Xsw} {xshp : Shp} {xtmu : Tmu} {xcyc : Cyc} {xtrunks : Tab Trunk} {xkl2 : Kl2} {xlne : Lne} {xflt : Flt} {xten : Ten} {xbnk : Bnk} {xdsp : Dsp} {xusb : Usb} {xsto : Sto} {xser : Ser} {xdma : Dma} {xbrg : Brg} {xhsw : Hsw} {xupd : Upd} {xpwr : Pwr} {xgpio : Gpio} {xrng : Rng} {xpcx : Pcx} {xpins : Pins} {xboot : Boot} {xtimers : List (Timer × Nat)} {xreadWord : Nat} {xfreeCount : Nat} {k : Keys} (h : Keeps o s) (e : k.fuse = s.keys.fuse) :
    Keeps o { regs := s.regs, fab := xfab, ring := xring, xsw := xxsw, shp := xshp, tmu := xtmu, cyc := xcyc, trunks := xtrunks, kl2 := xkl2, lne := xlne, flt := xflt, ten := xten, bnk := xbnk, dsp := xdsp, usb := xusb, sto := xsto, ser := xser, dma := xdma, brg := xbrg, hsw := xhsw, upd := xupd, pwr := xpwr, gpio := xgpio, rng := xrng, keys := k, pcx := xpcx, pins := xpins, boot := xboot, timers := xtimers, host := s.host, dram := s.dram, sram := s.sram, pad := s.pad, flash := s.flash, readWord := xreadWord, freeCount := xfreeCount, pending := s.pending } :=
  ⟨h.1, h.2.1, e ▸ h.2.2⟩

/-- The same, where the key record is taken from another state. -/
theorem Keeps.updKeys {xfab : Fab} {xring : Ring} {xxsw : Xsw} {xshp : Shp} {xtmu : Tmu} {xcyc : Cyc} {xtrunks : Tab Trunk} {xkl2 : Kl2} {xlne : Lne} {xflt : Flt} {xten : Ten} {xbnk : Bnk} {xdsp : Dsp} {xusb : Usb} {xsto : Sto} {xser : Ser} {xdma : Dma} {xbrg : Brg} {xhsw : Hsw} {xupd : Upd} {xpwr : Pwr} {xgpio : Gpio} {xrng : Rng} {xpcx : Pcx} {xpins : Pins} {xboot : Boot} {xtimers : List (Timer × Nat)} {xreadWord : Nat} {xfreeCount : Nat} {k : Keys} (h : Keeps o s) {y : State} (g : Keeps o y) (e : k.fuse = y.keys.fuse) :
    Keeps o { regs := s.regs, fab := xfab, ring := xring, xsw := xxsw, shp := xshp, tmu := xtmu, cyc := xcyc, trunks := xtrunks, kl2 := xkl2, lne := xlne, flt := xflt, ten := xten, bnk := xbnk, dsp := xdsp, usb := xusb, sto := xsto, ser := xser, dma := xdma, brg := xbrg, hsw := xhsw, upd := xupd, pwr := xpwr, gpio := xgpio, rng := xrng, keys := k, pcx := xpcx, pins := xpins, boot := xboot, timers := xtimers, host := s.host, dram := s.dram, sram := s.sram, pad := s.pad, flash := s.flash, readWord := xreadWord, freeCount := xfreeCount, pending := s.pending } :=
  ⟨h.1, h.2.1, e ▸ g.2.2⟩

theorem Keeps.ofIte {c : Prop} [Decidable c] {a b : State} (h : c → Keeps o a) (g : ¬c → Keeps o b) :
    Keeps o (if c then a else b) := by
  split
  · exact h ‹_›
  · exact g ‹_›

theorem Keeps.ofItePair {α : Type} {c : Prop} [Decidable c] {a b : State × α} (h : c → Keeps o a.1) (g : ¬c → Keeps o b.1) :
    Keeps o (if c then a else b).1 := by
  split
  · exact h ‹_›
  · exact g ‹_›

theorem Keeps.ofPair {α : Type} {p : State × α} {x : State} {y : α} (e : p = (x, y)) (h : Keeps o p.1) : Keeps o x := by
  rw [e] at h
  exact h

theorem Keeps.ofPair2 {α : Type} {p : α × State} {x : State} {y : α} (e : p = (y, x)) (h : Keeps o p.2) : Keeps o x := by
  rw [e] at h
  exact h

/-- `Keeps` of an optional state. -/
def KeepsOpt (o : State) (x : Option State) : Prop := ∀ y, x = some y → Keeps o y

theorem KeepsOpt.ofNone : KeepsOpt o none := fun _ e => by cases e

theorem KeepsOpt.ofSome (h : Keeps o s) : KeepsOpt o (some s) := fun _ e => by cases e; exact h

theorem KeepsOpt.ofIte {c : Prop} [Decidable c] {a b : Option State} (h : c → KeepsOpt o a) (g : ¬c → KeepsOpt o b) :
    KeepsOpt o (if c then a else b) := by
  split
  · exact h ‹_›
  · exact g ‹_›

theorem Keeps.ofOpt {x : Option State} {y : State} (e : x = some y) (h : KeepsOpt o x) : Keeps o y := h y e

theorem Keeps.ofGetD {x : Option State} (h : KeepsOpt o x) (g : Keeps o s) : Keeps o (x.getD s) := by
  cases x with
  | none => exact g
  | some y => exact h y rfl

/-- `Keeps` of a command's outcome. -/
def KeepsOut (o : State) (x : Host.Outcome State Fault Refusal) : Prop := ∀ y, x = .next y → Keeps o y

theorem KeepsOut.ofNext (h : Keeps o s) : KeepsOut o (.next s) := fun _ e => by cases e; exact h

theorem KeepsOut.ofIte {c : Prop} [Decidable c] {a b : Host.Outcome State Fault Refusal} (h : c → KeepsOut o a)
    (g : ¬c → KeepsOut o b) : KeepsOut o (if c then a else b) := by
  split
  · exact h ‹_›
  · exact g ‹_›

theorem Keeps.whenIf (h : Keeps o s) (b : Bool) (f : State → State) (g : ∀ x, Keeps o x → Keeps o (f x)) :
    Keeps o (s.when b f) := by
  unfold State.when
  split
  · exact g s h
  · exact h

theorem Keeps.fold {α : Type} {f : State → α → State} (g : ∀ x a, Keeps o x → Keeps o (f x a)) :
    ∀ (l : List α) {s : State}, Keeps o s → Keeps o (l.foldl f s)
  | [], _, h => h
  | a :: l, _, h => Keeps.fold g l (g _ a h)

theorem Keeps.eachOf {α : Type} (h : Keeps o s) (l : List α) (f : State → α → State)
    (g : ∀ x a, Keeps o x → Keeps o (f x a)) : Keeps o (s.each l f) := Keeps.fold g l h

theorem Keeps.foldPair {α β : Type} {f : State × β → α → State × β} (g : ∀ x a, Keeps o x.1 → Keeps o (f x a).1) :
    ∀ (l : List α) {p : State × β}, Keeps o p.1 → Keeps o (l.foldl f p).1
  | [], _, h => h
  | a :: l, _, h => Keeps.foldPair g l (g _ a h)

end Sys2Proof.Machine
end

