-- ==== Sys2Proof/Laws/KeepsOps.lean ====
section
/-! SUPPORT. What the operations of Machine/Ops.lean keep: the queue, the canonical form of the stores, every burnt fuse. -/

namespace Sys2Proof.Machine

theorem State.wr_keeps {s₀ s : State} (F : Field) (v i j : Nat) (h : Keeps s₀ s) : Keeps s₀ (s.wr F v i j) := h.putRegs _ _ _


theorem State.putBit_keeps {s₀ : State} {s : State} (F : Field) (b : Nat) (x : Bool) (i : Nat) (j : Nat) (h₀ : Keeps s₀ s) : Keeps s₀ (State.putBit s F b x i j) := by
  unfold State.putBit
  repeat' (first | with_reducible assumption | with_reducible apply State.wr_keeps)

theorem State.satBy_keeps {s₀ : State} {s : State} (F : Field) (n : Nat) (i : Nat) (j : Nat) (h₀ : Keeps s₀ s) : Keeps s₀ (State.satBy s F n i j) := by
  unfold State.satBy
  repeat' (first | with_reducible assumption | with_reducible apply State.wr_keeps)

theorem State.sat_keeps {s₀ : State} {s : State} (F : Field) (i : Nat) (j : Nat) (h₀ : Keeps s₀ s) : Keeps s₀ (State.sat s F i j) := by
  unfold State.sat
  repeat' (first | with_reducible assumption | with_reducible apply State.satBy_keeps)

theorem State.wrap_keeps {s₀ : State} {s : State} (F : Field) (i : Nat) (j : Nat) (h₀ : Keeps s₀ s) : Keeps s₀ (State.wrap s F i j) := by
  unfold State.wrap
  repeat' (first | with_reducible assumption | with_reducible apply State.wr_keeps)

theorem State.raise_keeps {s₀ : State} {s : State} (F : Field) (v : Nat) (i : Nat) (j : Nat) (h₀ : Keeps s₀ s) : Keeps s₀ (State.raise s F v i j) := by
  unfold State.raise
  repeat' (first | with_reducible assumption | with_reducible apply State.wr_keeps | split)

theorem State.free_keeps {s₀ : State} {s : State} (w : Nat) (h₀ : Keeps s₀ s) : Keeps s₀ (State.free s w).2 := by
  unfold State.free
  repeat' ((with_reducible refine Keeps.upd ?_ rfl; first | with_reducible assumption))

theorem State.wrFree_keeps {s₀ : State} {s : State} (F : Field) (i : Nat) (j : Nat) (h₀ : Keeps s₀ s) : Keeps s₀ (State.wrFree s F i j) := by
  unfold State.wrFree
  repeat' (first | with_reducible assumption | with_reducible (first | apply State.free_keeps | apply State.wr_keeps))

theorem State.armAt_keeps {s₀ : State} {s : State} (k : Timer) (t : Nat) (h₀ : Keeps s₀ s) : Keeps s₀ (State.armAt s k t) := by
  unfold State.armAt
  repeat' ((with_reducible refine Keeps.upd ?_ rfl; first | with_reducible assumption))

theorem State.arm_keeps {s₀ : State} {s : State} (k : Timer) (ns : Nat) (h₀ : Keeps s₀ s) : Keeps s₀ (State.arm s k ns) := by
  unfold State.arm
  repeat' (first | with_reducible assumption | with_reducible apply State.armAt_keeps)

theorem State.disarm_keeps {s₀ : State} {s : State} (k : Timer) (h₀ : Keeps s₀ s) : Keeps s₀ (State.disarm s k) := by
  unfold State.disarm
  repeat' ((with_reducible refine Keeps.upd ?_ rfl; first | with_reducible assumption))

theorem State.dramByte_keeps {s₀ s : State} (a : Nat) (b : Byte) (h : Keeps s₀ s) : Keeps s₀ (s.dramByte a b) := by
  unfold State.dramByte
  split
  · exact h
  · exact h.setDram (Memory.wf_setByte a b)


theorem State.dramBytes_keeps {s₀ : State} : ∀ (l : List Byte) {s : State} (a : Nat), Keeps s₀ s → Keeps s₀ (s.dramBytes a l)
  | [], _, _, h => h
  | b :: bs, _, a, h => State.dramBytes_keeps bs (a + 1) (State.dramByte_keeps a b h)


theorem State.dramWrite_keeps {s₀ : State} {s : State} (a : Nat) (l : List Byte) (h₀ : Keeps s₀ s) : Keeps s₀ (State.dramWrite s a l) := by
  unfold State.dramWrite
  repeat' (first | with_reducible assumption | with_reducible (first | apply State.dramBytes_keeps | apply State.sat_keeps) | split)

theorem State.setPadByte_keeps {s₀ s : State} (a : Nat) (b : Byte) (h : Keeps s₀ s) : Keeps s₀ (s.setPadByte a b) :=
  h.setPad (Tab.wf_put _ _ _)


theorem State.setPadBytes_keeps {s₀ : State} {s : State} (a : Nat) (a0 : List Byte) (h₀ : Keeps s₀ s) : Keeps s₀ (State.setPadBytes s a a0) := by
  unfold State.setPadBytes
  repeat' (first | with_reducible assumption | with_reducible (first | apply State.setPadByte_keeps | apply State.setPadBytes_keeps) | split)





end Sys2Proof.Machine
end

