-- ==== Sys2Proof/Laws/KeepsEvents.lean ====
section
/-! SUPPORT. What the operations of Machine/Events.lean keep: the queue, the canonical form of the stores, every burnt fuse. -/

namespace Sys2Proof.Machine

theorem State.eventLost_keeps {s₀ : State} {s : State} (h₀ : Keeps s₀ s) : Keeps s₀ (State.eventLost s) := by
  unfold State.eventLost
  repeat' ((with_reducible refine Keeps.upd ?_ rfl; first | with_reducible assumption | with_reducible (first | apply State.sat_keeps | apply State.wr_keeps)))

theorem State.sendMsix_keeps {s₀ : State} {s : State} (v : Nat) (h₀ : Keeps s₀ s) : Keeps s₀ (State.sendMsix s v) := by
  unfold State.sendMsix
  repeat' (first | (with_reducible refine Keeps.upd ?_ rfl; first | with_reducible assumption | with_reducible (first | apply State.arm_keeps | apply State.putBit_keeps)) | split)

theorem State.writeSide_keeps {s₀ s : State} (mgmt : Bool) (a : Nat) (bs : List Byte) (h : Keeps s₀ s) : Keeps s₀ (s.writeSide mgmt a bs) := by
  unfold State.writeSide
  split
  · exact h.setSram (Memory.wf_write bs a)
  · exact h.setHost (Memory.wf_write bs a)


theorem State.postEvent_keeps {s₀ : State} {s : State} (source : Nat) (index : Nat) (data : Nat) (vec : Nat) (h₀ : Keeps s₀ s) : Keeps s₀ (State.postEvent s source index data vec) := by
  unfold State.postEvent
  repeat' (first | (with_reducible refine Keeps.upd ?_ rfl; first | with_reducible assumption | with_reducible (first | apply State.eventLost_keeps | apply State.sendMsix_keeps | apply State.wrap_keeps | apply State.writeSide_keeps)) | split)

theorem State.irq_keeps {s₀ : State} {s : State} (src : Nat) (index : Nat) (data : Nat) (h₀ : Keeps s₀ s) : Keeps s₀ (State.irq s src index data) := by
  unfold State.irq
  repeat' (first | with_reducible assumption | with_reducible (first | apply State.postEvent_keeps | apply State.putBit_keeps) | split)

end Sys2Proof.Machine
end

