-- ==== Sys2Proof/Laws/KeepsSwitch.lean ====
section
/-! SUPPORT. What the operations of Machine/Switch.lean keep: the queue, the canonical form of the stores, every burnt fuse. -/

namespace Sys2Proof.Machine

theorem State.setQueue_keeps {s₀ : State} {s : State} (q : Nat) (l : List Copy) (h₀ : Keeps s₀ s) : Keeps s₀ (State.setQueue s q l) := by
  unfold State.setQueue
  repeat' ((with_reducible refine Keeps.upd ?_ rfl; first | with_reducible assumption))

theorem State.setSending_keeps {s₀ : State} {s : State} (p : Nat) (c : Option Copy) (h₀ : Keeps s₀ s) : Keeps s₀ (State.setSending s p c) := by
  unfold State.setSending
  repeat' ((with_reducible refine Keeps.upd ?_ rfl; first | with_reducible assumption))

theorem State.setWire_keeps {s₀ : State} {s : State} (p : Nat) (bs : List Byte) (h₀ : Keeps s₀ s) : Keeps s₀ (State.setWire s p bs) := by
  unfold State.setWire
  repeat' ((with_reducible refine Keeps.upd ?_ rfl; first | with_reducible assumption))

theorem State.setInflight_keeps {s₀ : State} {s : State} (n : Nat) (v : Nat) (h₀ : Keeps s₀ s) : Keeps s₀ (State.setInflight s n v) := by
  unfold State.setInflight
  repeat' ((with_reducible refine Keeps.upd ?_ rfl; first | with_reducible assumption | with_reducible apply State.wr_keeps | (with_reducible refine Keeps.upd ?_ rfl; first | with_reducible assumption | with_reducible apply State.wr_keeps)))

theorem State.dropPkt_keeps {s₀ : State} {s : State} (k : Nat) (h₀ : Keeps s₀ s) : Keeps s₀ (State.dropPkt s k) := by
  unfold State.dropPkt
  repeat' (first | with_reducible refine Keeps.ofIte (fun _ => ?_) (fun _ => ?_) | (with_reducible refine Keeps.upd ?_ rfl; first | with_reducible assumption | with_reducible (first | apply State.setInflight_keeps | apply State.wr_keeps)))

theorem State.releaseCopy_keeps {s₀ : State} {s : State} (c : Copy) (h₀ : Keeps s₀ s) : Keeps s₀ (State.releaseCopy s c) := by
  unfold State.releaseCopy
  repeat' (first | with_reducible assumption | with_reducible (first | apply State.dropPkt_keeps | apply State.wr_keeps) | split)

theorem State.linkCopy_keeps {s₀ : State} {s : State} (c : Copy) (h₀ : Keeps s₀ s) : Keeps s₀ (State.linkCopy s c) := by
  unfold State.linkCopy
  repeat' ((with_reducible refine Keeps.upd ?_ rfl; first | with_reducible assumption | with_reducible apply State.setQueue_keeps))

theorem State.takeCells_keeps {s₀ : State} {s : State} (q : Nat) (k : Nat) (h₀ : Keeps s₀ s) : Keeps s₀ (State.takeCells s q k) := by
  unfold State.takeCells
  repeat' (first | with_reducible assumption | with_reducible apply State.wr_keeps)

theorem State.mirror_keeps {s₀ : State} {s : State} (c : Copy) (qdepth : Nat) (reason : Nat) (h₀ : Keeps s₀ s) : Keeps s₀ (State.mirror s c qdepth reason) := by
  unfold State.mirror
  repeat' (first | with_reducible refine Keeps.ofIte (fun _ => ?_) (fun _ => ?_) | (with_reducible refine Keeps.upd ?_ rfl; first | with_reducible assumption | with_reducible (first | apply State.linkCopy_keeps | apply State.sat_keeps | apply State.takeCells_keeps)) | split)

theorem State.admitCopy_keeps {s₀ : State} {s : State} (c : Copy) (h₀ : Keeps s₀ s) : Keeps s₀ (State.admitCopy s c).1 := by
  unfold State.admitCopy
  repeat' (first | with_reducible assumption | with_reducible (first | apply State.sat_keeps | apply State.takeCells_keeps) | with_reducible refine Keeps.ofItePair (fun _ => ?_) (fun _ => ?_))

theorem State.admitAll_keeps {s₀ : State} {s : State} (a0 : List Copy) (h₀ : Keeps s₀ s) : Keeps s₀ (State.admitAll s a0).1 := by
  unfold State.admitAll
  repeat' (first | with_reducible assumption | with_reducible (first | apply State.admitAll_keeps | apply State.admitCopy_keeps) | split)

theorem State.admitPacket_keeps {s₀ : State} {s : State} (copies : List Copy) (h₀ : Keeps s₀ s) : Keeps s₀ (State.admitPacket s copies).1 := by
  unfold State.admitPacket
  repeat' (first | with_reducible refine Keeps.ofItePair (fun _ => ?_) (fun _ => ?_) | with_reducible refine Keeps.eachOf ?_ _ _ (fun _ _ _ => ?_) | (with_reducible refine Keeps.upd ?_ rfl; first | with_reducible assumption | with_reducible (first | apply State.admitAll_keeps | apply State.sat_keeps | apply State.setInflight_keeps | apply State.wr_keeps)) | split)

theorem State.mirrorAll_keeps {s₀ : State} {s : State} (l : List (Copy × Nat × Nat)) (h₀ : Keeps s₀ s) : Keeps s₀ (State.mirrorAll s l) := by
  unfold State.mirrorAll
  repeat' (first | with_reducible assumption | with_reducible apply State.mirror_keeps | with_reducible refine Keeps.eachOf ?_ _ _ (fun _ _ _ => ?_))

theorem State.admitWhole_keeps {s₀ : State} {s : State} (copies : List Copy) (h₀ : Keeps s₀ s) : Keeps s₀ (State.admitWhole s copies).1 := by
  unfold State.admitWhole
  repeat' (first | with_reducible assumption | with_reducible (first | apply State.admitPacket_keeps | apply State.linkCopy_keeps | apply State.mirrorAll_keeps) | with_reducible refine Keeps.eachOf ?_ _ _ (fun _ _ _ => ?_) | (first | with_reducible refine Keeps.ofPair (by assumption) ?_) | split)

theorem State.flushQueue_keeps {s₀ : State} {s : State} (keep : Copy → Bool) (i : Nat) (q : Nat) (h₀ : Keeps s₀ s) : Keeps s₀ (State.flushQueue s keep i q) := by
  unfold State.flushQueue
  repeat' (first | with_reducible assumption | with_reducible (first | apply State.releaseCopy_keeps | apply State.sat_keeps | apply State.setQueue_keeps) | with_reducible refine Keeps.eachOf ?_ _ _ (fun _ _ _ => ?_))

theorem State.haltFlush_keeps {s₀ : State} {s : State} (h₀ : Keeps s₀ s) : Keeps s₀ (State.haltFlush s) := by
  unfold State.haltFlush
  repeat' (first | with_reducible assumption | with_reducible (first | apply State.flushQueue_keeps | apply State.wr_keeps) | with_reducible refine Keeps.eachOf ?_ _ _ (fun _ _ _ => ?_))

theorem State.haltLift_keeps {s₀ : State} {s : State} (h₀ : Keeps s₀ s) : Keeps s₀ (State.haltLift s) := by
  unfold State.haltLift
  repeat' (first | with_reducible assumption | with_reducible apply State.wr_keeps)

end Sys2Proof.Machine
end

