-- ==== Sys2Proof/Laws/KeepsDescriptors.lean ====
section
/-! SUPPORT. What the operations of Machine/Descriptors.lean keep: the queue, the canonical form of the stores, every burnt fuse. -/

namespace Sys2Proof.Machine

theorem State.rngCount_keeps {s₀ : State} {s : State} (i : Nat) (h₀ : Keeps s₀ s) : Keeps s₀ (State.rngCount s i) := by
  unfold State.rngCount
  repeat' (first | with_reducible assumption | with_reducible apply State.sat_keeps)

theorem State.rngReject_keeps {s₀ : State} {s : State} (h₀ : Keeps s₀ s) : Keeps s₀ (State.rngReject s) := by
  unfold State.rngReject
  repeat' (first | with_reducible assumption | with_reducible apply State.wr_keeps)

theorem State.setFetched_keeps {s₀ : State} {s : State} (r : Nat) (l : List Desc) (h₀ : Keeps s₀ s) : Keeps s₀ (State.setFetched s r l) := by
  unfold State.setFetched
  repeat' ((with_reducible refine Keeps.upd ?_ rfl; first | with_reducible assumption | with_reducible apply State.wr_keeps | (with_reducible refine Keeps.upd ?_ rfl; first | with_reducible assumption | with_reducible apply State.wr_keeps)))

theorem State.startDesc_keeps {s₀ : State} {s : State} (r : Nat) (idx : Nat) (h₀ : Keeps s₀ s) : Keeps s₀ (State.startDesc s r idx) := by
  unfold State.startDesc
  repeat' ((with_reducible refine Keeps.upd ?_ rfl; first | with_reducible assumption | with_reducible apply State.setFetched_keeps))

theorem State.ringEvent_keeps {s₀ : State} {s : State} (r : Nat) (source : Nat) (data : Nat) (h₀ : Keeps s₀ s) : Keeps s₀ (State.ringEvent s r source data) := by
  unfold State.ringEvent
  repeat' (first | with_reducible assumption | with_reducible (first | apply State.postEvent_keeps | apply State.putBit_keeps) | split)

theorem State.stopRing_keeps {s₀ : State} {s : State} (r : Nat) (e : RingErr) (h₀ : Keeps s₀ s) : Keeps s₀ (State.stopRing s r e) := by
  unfold State.stopRing
  repeat' (first | with_reducible assumption | with_reducible (first | apply State.ringEvent_keeps | apply State.wr_keeps))

theorem State.advanceCi_keeps {s₀ : State} {s : State} (r : Nat) (h₀ : Keeps s₀ s) : Keeps s₀ (State.advanceCi s r) := by
  unfold State.advanceCi
  repeat' (first | with_reducible assumption | with_reducible (first | apply State.setFetched_keeps | apply State.wr_keeps))

theorem State.writeBack_keeps {s₀ : State} {s : State} (r : Nat) (d : Desc) (wb : List Byte) (status : Nat) (h₀ : Keeps s₀ s) : Keeps s₀ (State.writeBack s r d wb status) := by
  unfold State.writeBack
  repeat' (first | with_reducible refine Keeps.ofIte (fun _ => ?_) (fun _ => ?_) | (with_reducible refine Keeps.upd ?_ rfl; first | with_reducible assumption | with_reducible (first | apply State.advanceCi_keeps | apply State.irq_keeps | apply State.ringEvent_keeps | apply State.setFetched_keeps | apply State.writeSide_keeps)))

theorem State.ringDone_keeps {s₀ : State} {s : State} (r : Nat) (idx : Nat) (wb : List Byte) (status : Nat) (err : Bool) (h₀ : Keeps s₀ s) : Keeps s₀ (State.ringDone s r idx wb status err) := by
  unfold State.ringDone
  repeat' (first | (with_reducible refine Keeps.upd ?_ rfl; first | with_reducible assumption | with_reducible (first | apply State.rngCount_keeps | apply State.setFetched_keeps | apply State.stopRing_keeps | apply State.writeBack_keeps)) | split)

theorem State.descFails_keeps {s₀ : State} {s : State} (r : Nat) (d : Desc) (c : DescStatus) (h₀ : Keeps s₀ s) : Keeps s₀ (State.descFails s r d c) := by
  unfold State.descFails
  repeat' (first | with_reducible assumption | with_reducible (first | apply State.ringDone_keeps | apply State.rngCount_keeps) | with_reducible refine Keeps.whenIf ?_ _ _ (fun _ _ => ?_))

theorem State.flushLate_keeps {s₀ : State} {s : State} (h₀ : Keeps s₀ s) : Keeps s₀ (State.flushLate s) := by
  unfold State.flushLate
  repeat' (first | with_reducible refine Keeps.eachOf ?_ _ _ (fun _ _ _ => ?_) | (with_reducible refine Keeps.upd ?_ rfl; first | with_reducible assumption | with_reducible apply State.ringDone_keeps))

end Sys2Proof.Machine
end

