-- ==== Sys2Proof/Laws/KeepsChannels.lean ====
section
/-! SUPPORT. What the operations of Machine/Channels.lean keep: the queue, the canonical form of the stores, every burnt fuse. -/

namespace Sys2Proof.Machine

theorem State.dmaAbort_keeps {s₀ : State} {s : State} (a0 : Option (Nat × Nat)) (h₀ : Keeps s₀ s) : Keeps s₀ (State.dmaAbort s a0) := by
  unfold State.dmaAbort
  repeat' (first | with_reducible assumption | with_reducible apply State.ringDone_keeps | split)

theorem State.dmaDisable_keeps {s₀ : State} {s : State} (n : Nat) (h₀ : Keeps s₀ s) : Keeps s₀ (State.dmaDisable s n) := by
  unfold State.dmaDisable
  repeat' (first | (with_reducible refine Keeps.upd ?_ rfl; first | with_reducible assumption | with_reducible (first | apply State.dmaAbort_keeps | apply State.wrFree_keeps | apply State.wr_keeps)) | split)

theorem State.dmaHalt_keeps {s₀ : State} {s : State} (h₀ : Keeps s₀ s) : Keeps s₀ (State.dmaHalt s) := by
  unfold State.dmaHalt
  repeat' (first | with_reducible assumption | with_reducible apply State.dmaDisable_keeps | with_reducible refine Keeps.eachOf ?_ _ _ (fun _ _ _ => ?_))

theorem State.memLose_keeps {s₀ : State} {s : State} (e : Nat) (h₀ : Keeps s₀ s) : Keeps s₀ (State.memLose s e) := by
  unfold State.memLose
  repeat' ((with_reducible refine Keeps.upd ?_ rfl; first | with_reducible assumption))

theorem State.readDone_keeps {s₀ : State} {s : State} (id : Nat) (data : Option (List Byte)) (h₀ : Keeps s₀ s) : Keeps s₀ (State.readDone s id data) := by
  unfold State.readDone
  repeat' ((with_reducible refine Keeps.upd ?_ rfl; first | with_reducible assumption | with_reducible apply State.disarm_keeps | (with_reducible refine Keeps.upd ?_ rfl; first | with_reducible assumption | with_reducible apply State.disarm_keeps)))

theorem State.brgHalt_keeps {s₀ : State} {s : State} (h₀ : Keeps s₀ s) : Keeps s₀ (State.brgHalt s) := by
  unfold State.brgHalt
  repeat' (first | (extract_lets +onlyGivenNames x; first | (refine (?_ : Keeps s₀ x → _) ?_; rotate_left; subst x; rotate_left; intro hx; clear_value x) | clear_value x) | with_reducible refine Keeps.eachOf ?_ _ _ (fun _ _ _ => ?_) | (with_reducible refine Keeps.upd ?_ rfl; first | with_reducible assumption | with_reducible apply State.readDone_keeps))

end Sys2Proof.Machine
end

