-- ==== Sys2Proof/Laws/KeepsHalt.lean ====
section
/-! SUPPORT. What the operations of Machine/Halt.lean keep: the queue, the canonical form of the stores, every burnt fuse. -/

namespace Sys2Proof.Machine

theorem State.mbxEnd_keeps {s₀ : State} {s : State} (n : Nat) (m : Nat) (c : MbxCode) (h₀ : Keeps s₀ s) : Keeps s₀ (State.mbxEnd s n m c) := by
  unfold State.mbxEnd
  repeat' (first | with_reducible assumption | with_reducible (first | apply State.disarm_keeps | apply State.irq_keeps | apply State.wr_keeps) | split)

theorem State.mbxHalt_keeps {s₀ : State} {s : State} (n : Nat) (h₀ : Keeps s₀ s) : Keeps s₀ (State.mbxHalt s n) := by
  unfold State.mbxHalt
  repeat' (first | with_reducible assumption | with_reducible apply State.mbxEnd_keeps | with_reducible refine Keeps.eachOf ?_ _ _ (fun _ _ _ => ?_) | split)

theorem State.moveEntries_keeps {s₀ : State} {s : State} (n : Nat) (fr : List Nat) (goal : Nat) (h₀ : Keeps s₀ s) : Keeps s₀ (State.moveEntries s n fr goal) := by
  unfold State.moveEntries
  repeat' (first | with_reducible assumption | with_reducible apply State.wr_keeps | with_reducible refine Keeps.eachOf ?_ _ _ (fun _ _ _ => ?_) | split)

theorem State.loseEdges_keeps {s₀ : State} {s : State} (e : Nat) (h₀ : Keeps s₀ s) : Keeps s₀ (State.loseEdges s e) := by
  unfold State.loseEdges
  repeat' ((with_reducible refine Keeps.upd ?_ rfl; first | with_reducible assumption))

theorem State.deadPort_keeps {s₀ : State} {s : State} (e : Nat) (h₀ : Keeps s₀ s) : Keeps s₀ (State.deadPort s e) := by
  unfold State.deadPort
  repeat' (first | (with_reducible refine Keeps.upd ?_ rfl; first | with_reducible assumption) | split)

theorem State.loseBlock_keeps {s₀ : State} {s : State} (e : Nat) (h₀ : Keeps s₀ s) : Keeps s₀ (State.loseBlock s e) := by
  unfold State.loseBlock
  repeat' ((with_reducible refine Keeps.upd ?_ rfl; first | with_reducible assumption))

theorem State.loseServices_keeps {s₀ : State} {s : State} (n : Nat) (h₀ : Keeps s₀ s) : Keeps s₀ (State.loseServices s n) := by
  unfold State.loseServices
  repeat' (first | with_reducible refine Keeps.eachOf ?_ _ _ (fun _ _ _ => ?_) | (with_reducible refine Keeps.upd ?_ rfl; first | with_reducible assumption | with_reducible (first | apply State.deadPort_keeps | apply State.loseBlock_keeps | apply State.loseEdges_keeps | apply State.memLose_keeps)))

theorem State.loseEngine_keeps {s₀ : State} {s : State} (n : Nat) (h₀ : Keeps s₀ s) : Keeps s₀ (State.loseEngine s n) := by
  unfold State.loseEngine
  repeat' ((with_reducible refine Keeps.upd ?_ rfl; first | with_reducible assumption | with_reducible apply State.loseServices_keeps))

theorem State.stopEngine_keeps {s₀ : State} {s : State} (n : Nat) (st : Nat) (h₀ : Keeps s₀ s) : Keeps s₀ (State.stopEngine s n st) := by
  unfold State.stopEngine
  repeat' ((with_reducible refine Keeps.upd ?_ rfl; first | with_reducible assumption | with_reducible (first | apply State.disarm_keeps | apply State.loseEngine_keeps | apply State.mbxHalt_keeps | apply State.moveEntries_keeps | apply State.wr_keeps)))

theorem State.haltEngines_keeps {s₀ : State} {s : State} (h₀ : Keeps s₀ s) : Keeps s₀ (State.haltEngines s) := by
  unfold State.haltEngines
  repeat' (first | with_reducible refine Keeps.eachOf ?_ _ _ (fun _ _ _ => ?_) | (with_reducible refine Keeps.upd ?_ rfl; first | with_reducible assumption | with_reducible apply State.stopEngine_keeps) | split)

theorem State.discardCommits_keeps {s₀ : State} {s : State} (h₀ : Keeps s₀ s) : Keeps s₀ (State.discardCommits s) := by
  unfold State.discardCommits
  repeat' (first | with_reducible refine Keeps.eachOf ?_ _ _ (fun _ _ _ => ?_) | (with_reducible refine Keeps.upd ?_ rfl; first | with_reducible assumption | with_reducible apply State.wr_keeps))

theorem State.displayOff_keeps {s₀ : State} {s : State} (h₀ : Keeps s₀ s) : Keeps s₀ (State.displayOff s) := by
  unfold State.displayOff
  repeat' ((with_reducible refine Keeps.upd ?_ rfl; first | with_reducible assumption))

theorem State.efuse_keeps {s₀ : State} {s : State} (n : Nat) (on : Bool) (h₀ : Keeps s₀ s) : Keeps s₀ (State.efuse s n on) := by
  unfold State.efuse
  repeat' (first | (with_reducible refine Keeps.upd ?_ rfl; first | with_reducible assumption | with_reducible apply State.wr_keeps | (with_reducible refine Keeps.upd ?_ rfl; first | with_reducible assumption | with_reducible apply State.wr_keeps)) | split)

theorem State.portEmpty_keeps {s₀ : State} {s : State} (n : Nat) (h₀ : Keeps s₀ s) : Keeps s₀ (State.portEmpty s n) := by
  unfold State.portEmpty
  repeat' ((with_reducible refine Keeps.upd ?_ rfl; first | with_reducible assumption | with_reducible apply State.wr_keeps))

theorem State.portOff_keeps {s₀ : State} {s : State} (n : Nat) (h₀ : Keeps s₀ s) : Keeps s₀ (State.portOff s n) := by
  unfold State.portOff
  repeat' ((with_reducible refine Keeps.upd ?_ rfl; first | with_reducible assumption | with_reducible (first | apply State.efuse_keeps | apply State.portEmpty_keeps | apply State.wr_keeps)))

theorem State.farPortsOff_keeps {s₀ : State} {s : State} (h₀ : Keeps s₀ s) : Keeps s₀ (State.farPortsOff s) := by
  unfold State.farPortsOff
  repeat' (first | with_reducible assumption | with_reducible apply State.portOff_keeps | with_reducible refine Keeps.eachOf ?_ _ _ (fun _ _ _ => ?_) | split)

theorem State.askAbort_keeps {s₀ : State} {s : State} (c : PwrCode) (h₀ : Keeps s₀ s) : Keeps s₀ (State.askAbort s c) := by
  unfold State.askAbort
  repeat' (first | (with_reducible refine Keeps.upd ?_ rfl; first | with_reducible assumption | with_reducible apply State.wr_keeps) | split)

theorem State.haltBlocks_keeps {s₀ : State} {s : State} (h₀ : Keeps s₀ s) : Keeps s₀ (State.haltBlocks s) := by
  unfold State.haltBlocks
  repeat' (first | with_reducible assumption | with_reducible (first | apply State.askAbort_keeps | apply State.brgHalt_keeps | apply State.discardCommits_keeps | apply State.dmaHalt_keeps | apply State.farPortsOff_keeps | apply State.haltEngines_keeps | apply State.haltFlush_keeps))

end Sys2Proof.Machine
end

