-- ==== Sys2Proof/Laws/KeepsFaults.lean ====
section
/-! SUPPORT. What the operations of Machine/Faults.lean keep: the queue, the canonical form of the stores, every burnt fuse. -/

namespace Sys2Proof.Machine

theorem State.enterElytra_keeps {s₀ : State} {s : State} (eslot : Nat) (sw : Bool) (self : Bool) (h₀ : Keeps s₀ s) : Keeps s₀ (State.enterElytra s eslot sw self) := by
  unfold State.enterElytra
  repeat' (first | with_reducible refine Keeps.whenIf ?_ _ _ (fun _ _ => ?_) | (with_reducible refine Keeps.upd ?_ rfl; first | with_reducible assumption | with_reducible (first | apply State.haltBlocks_keeps | apply State.wr_keeps)) | split)

theorem State.fltLog_keeps {s₀ : State} {s : State} (slot : Nat) (cls : Nat) (detail : Nat) (forced : Bool) (esc : Bool) (h₀ : Keeps s₀ s) : Keeps s₀ (State.fltLog s slot cls detail forced esc) := by
  unfold State.fltLog
  repeat' (first | with_reducible assumption | with_reducible (first | apply State.wr_keeps | apply State.wrap_keeps))

theorem State.fltFirst_keeps {s₀ : State} {s : State} (slot : Nat) (cls : Nat) (h₀ : Keeps s₀ s) : Keeps s₀ (State.fltFirst s slot cls) := by
  unfold State.fltFirst
  repeat' (first | with_reducible assumption | with_reducible apply State.wr_keeps | split)

theorem State.escArm_keeps {s₀ : State} {s : State} (slot : Nat) (h₀ : Keeps s₀ s) : Keeps s₀ (State.escArm s slot) := by
  unfold State.escArm
  repeat' (first | with_reducible assumption | with_reducible (first | apply State.arm_keeps | apply State.disarm_keeps) | with_reducible refine Keeps.ofIte (fun _ => ?_) (fun _ => ?_))

theorem State.occur_keeps {s₀ : State} {s : State} (slot : Nat) (detail : Nat) (forced : Bool) (h₀ : Keeps s₀ s) : Keeps s₀ (State.occur s slot detail forced) := by
  unfold State.occur
  repeat' (first | with_reducible refine Keeps.ofIte (fun _ => ?_) (fun _ => ?_) | (with_reducible refine Keeps.upd ?_ rfl; first | with_reducible assumption | with_reducible (first | apply State.enterElytra_keeps | apply State.escArm_keeps | apply State.fltFirst_keeps | apply State.fltLog_keeps | apply State.irq_keeps | apply State.putBit_keeps | apply State.sat_keeps | apply State.wr_keeps)))

theorem State.fault_keeps {s₀ : State} {s : State} (slot : Nat) (detail : Nat) (h₀ : Keeps s₀ s) : Keeps s₀ (State.fault s slot detail) := by
  unfold State.fault
  repeat' (first | with_reducible assumption | with_reducible apply State.occur_keeps)

theorem State.causeOn_keeps {s₀ : State} {s : State} (slot : Nat) (detail : Nat) (h₀ : Keeps s₀ s) : Keeps s₀ (State.causeOn s slot detail) := by
  unfold State.causeOn
  repeat' (first | (with_reducible refine Keeps.upd ?_ rfl; first | with_reducible assumption | with_reducible apply State.occur_keeps) | split)

theorem State.causeOff_keeps {s₀ : State} {s : State} (slot : Nat) (h₀ : Keeps s₀ s) : Keeps s₀ (State.causeOff s slot) := by
  unfold State.causeOff
  repeat' ((with_reducible refine Keeps.upd ?_ rfl; first | with_reducible assumption))

theorem State.startEngine_keeps {s₀ : State} {s : State} (n : Nat) (h₀ : Keeps s₀ s) : Keeps s₀ (State.startEngine s n) := by
  unfold State.startEngine
  repeat' (first | with_reducible refine Keeps.ofIte (fun _ => ?_) (fun _ => ?_) | (with_reducible refine Keeps.upd ?_ rfl; first | with_reducible assumption | with_reducible (first | apply State.arm_keeps | apply State.causeOff_keeps | apply State.wr_keeps)))

theorem State.pauseEngine_keeps {s₀ : State} {s : State} (n : Nat) (h₀ : Keeps s₀ s) : Keeps s₀ (State.pauseEngine s n) := by
  unfold State.pauseEngine
  repeat' ((with_reducible refine Keeps.upd ?_ rfl; first | with_reducible assumption))

theorem State.offStart_keeps {s₀ : State} {s : State} (n : Nat) (h₀ : Keeps s₀ s) : Keeps s₀ (State.offStart s n) := by
  unfold State.offStart
  repeat' (first | with_reducible assumption | with_reducible (first | apply State.pauseEngine_keeps | apply State.startEngine_keeps) | split)

end Sys2Proof.Machine
end

