-- ==== Sys2Proof/Laws/KeepsRegWrite.lean ====
section
/-! SUPPORT. What the operations of Machine/RegWrite.lean keep: the queue, the canonical form of the stores, every burnt fuse. -/

namespace Sys2Proof.Machine

theorem State.writeField_keeps {s₀ : State} {s : State} (lk : Bool) (F : Field) (i : Nat) (j : Nat) (w : Nat) (h₀ : Keeps s₀ s) : Keeps s₀ (State.writeField s lk F i j w) := by
  unfold State.writeField
  repeat' (first | with_reducible assumption | with_reducible apply State.wr_keeps | with_reducible refine Keeps.ofIte (fun _ => ?_) (fun _ => ?_) | split)

theorem State.writeFields_keeps {s₀ : State} {s : State} (lk : Bool) (fs : List Field) (i : Nat) (j : Nat) (w : Nat) (h₀ : Keeps s₀ s) : Keeps s₀ (State.writeFields s lk fs i j w) := by
  unfold State.writeFields
  repeat' (first | with_reducible assumption | with_reducible apply State.writeField_keeps | with_reducible refine Keeps.eachOf ?_ _ _ (fun _ _ _ => ?_))

theorem State.writeReg_keeps {s₀ : State} {s : State} (off : Nat) (w : Nat) (h₀ : Keeps s₀ s) : Keeps s₀ (State.writeReg s off w) := by
  unfold State.writeReg
  repeat' (first | with_reducible assumption | with_reducible apply State.writeFields_keeps | split)

end Sys2Proof.Machine
end

