-- ==== Sys2Proof/Laws/KeepsFabric.lean ====
section
/-! SUPPORT. What the operations of Machine/Fabric.lean keep: the queue, the canonical form of the stores, every burnt fuse. -/

namespace Sys2Proof.Machine

theorem State.fabCount_keeps {s₀ : State} {s : State} (i : Nat) (h₀ : Keeps s₀ s) : Keeps s₀ (State.fabCount s i) := by
  unfold State.fabCount
  repeat' (first | with_reducible assumption | with_reducible apply State.sat_keeps)

theorem State.ddCount_keeps {s₀ : State} {s : State} (i : Nat) (h₀ : Keeps s₀ s) : Keeps s₀ (State.ddCount s i) := by
  unfold State.ddCount
  repeat' (first | with_reducible assumption | with_reducible apply State.sat_keeps)

theorem State.setDd_keeps {s₀ : State} {s : State} (l : List DdEntry) (h₀ : Keeps s₀ s) : Keeps s₀ (State.setDd s l) := by
  unfold State.setDd
  repeat' ((with_reducible refine Keeps.upd ?_ rfl; first | with_reducible assumption | with_reducible apply State.wr_keeps | (with_reducible refine Keeps.upd ?_ rfl; first | with_reducible assumption | with_reducible apply State.wr_keeps)))

theorem State.ddReplace_keeps {s₀ : State} {s : State} (e : DdEntry) (h₀ : Keeps s₀ s) : Keeps s₀ (State.ddReplace s e) := by
  unfold State.ddReplace
  repeat' (first | with_reducible assumption | with_reducible apply State.setDd_keeps)

theorem State.ddEvict_keeps {s₀ : State} {s : State} (h₀ : Keeps s₀ s) : Keeps s₀ (State.ddEvict s) := by
  unfold State.ddEvict
  repeat' (first | (with_reducible refine Keeps.upd ?_ rfl; first | with_reducible assumption | with_reducible (first | apply State.ddCount_keeps | apply State.setDd_keeps)) | split)

theorem State.ddAllocate_keeps {s₀ : State} {s : State} (p : Packet) (h₀ : Keeps s₀ s) : Keeps s₀ (State.ddAllocate s p) := by
  unfold State.ddAllocate
  repeat' (first | (with_reducible refine Keeps.upd ?_ rfl; first | with_reducible assumption | with_reducible (first | apply State.ddCount_keeps | apply State.ddEvict_keeps | apply State.setDd_keeps)) | split)

theorem State.windowAccept_keeps {s₀ : State} {s : State} (p : Packet) (h₀ : Keeps s₀ s) : Keeps s₀ (State.windowAccept s p).1 := by
  unfold State.windowAccept
  repeat' (first | with_reducible refine Keeps.ofItePair (fun _ => ?_) (fun _ => ?_) | (with_reducible refine Keeps.upd ?_ rfl; first | with_reducible assumption | with_reducible (first | apply State.ddAllocate_keeps | apply State.ddCount_keeps | apply State.ddReplace_keeps)) | split)

theorem State.ddMark_keeps {s₀ : State} {s : State} (p : Packet) (h₀ : Keeps s₀ s) : Keeps s₀ (State.ddMark s p) := by
  unfold State.ddMark
  repeat' (first | (with_reducible refine Keeps.upd ?_ rfl; first | with_reducible assumption | with_reducible apply State.ddReplace_keeps) | split)

theorem State.windowCheck_keeps {s₀ : State} {s : State} (p : Packet) (h₀ : Keeps s₀ s) : Keeps s₀ (State.windowCheck s p).1 := by
  unfold State.windowCheck
  repeat' (first | with_reducible assumption | with_reducible (first | apply State.ddCount_keeps | apply State.windowAccept_keeps) | (first | with_reducible refine Keeps.ofPair (by assumption) ?_) | split)

theorem State.localDelivery_keeps {s₀ : State} {s : State} (p : Packet) (h₀ : Keeps s₀ s) : Keeps s₀ (State.localDelivery s p).1 := by
  unfold State.localDelivery
  repeat' (first | with_reducible assumption | with_reducible (first | apply State.fabCount_keeps | apply State.sat_keeps) | split)

theorem State.trunkCopy_keeps {s₀ : State} {s : State} (c : Copy) (e : Nat) (h₀ : Keeps s₀ s) : Keeps s₀ (State.trunkCopy s c e).1 := by
  unfold State.trunkCopy
  repeat' (first | (with_reducible refine Keeps.upd ?_ rfl; first | with_reducible assumption | with_reducible apply State.ddCount_keeps) | split)

theorem State.leaveRing_keeps {s₀ : State} {s : State} (c : Copy) (e : Nat) (h₀ : Keeps s₀ s) : Keeps s₀ (State.leaveRing s c e).1 := by
  unfold State.leaveRing
  repeat' (first | (first | with_reducible refine Keeps.ofPair (by assumption) ?_) | (with_reducible refine Keeps.upd ?_ rfl; first | with_reducible assumption | with_reducible (first | apply State.trunkCopy_keeps | apply State.windowCheck_keeps)) | split)

theorem State.inject_keeps {s₀ : State} {s : State} (c : Copy) (pri : Nat) (alt : Nat) (h₀ : Keeps s₀ s) : Keeps s₀ (State.inject s c pri alt).1 := by
  unfold State.inject
  repeat' (first | (first | with_reducible refine Keeps.ofPair (by assumption) ?_) | (with_reducible refine Keeps.upd ?_ rfl; first | with_reducible assumption | with_reducible (first | apply State.ddCount_keeps | apply State.ddMark_keeps | apply State.trunkCopy_keeps | apply State.windowAccept_keeps)) | split)

theorem State.route_keeps {s₀ : State} {s : State} (c : Copy) (h₀ : Keeps s₀ s) : Keeps s₀ (State.route s c).1 := by
  unfold State.route
  repeat' (first | with_reducible refine Keeps.ofItePair (fun _ => ?_) (fun _ => ?_) | (first | with_reducible refine Keeps.ofPair (by assumption) ?_) | (with_reducible refine Keeps.upd ?_ rfl; first | with_reducible assumption | with_reducible (first | apply State.fabCount_keeps | apply State.inject_keeps | apply State.leaveRing_keeps | apply State.localDelivery_keeps | apply State.steer_keeps | apply State.trunkCopy_keeps | apply State.windowCheck_keeps)) | dsimp -zeta only | split)

theorem State.latchConflict_keeps {s₀ : State} {s : State} (t : Nat) (src : Nat) (h₀ : Keeps s₀ s) : Keeps s₀ (State.latchConflict s t src) := by
  unfold State.latchConflict
  repeat' (first | with_reducible assumption | with_reducible apply State.wr_keeps | split)

theorem State.classifyTrunk_keeps {s₀ : State} {s : State} (c : Copy) (h₀ : Keeps s₀ s) : Keeps s₀ (State.classifyTrunk s c).1 := by
  unfold State.classifyTrunk
  repeat' (first | with_reducible assumption | with_reducible (first | apply State.ddCount_keeps | apply State.fabCount_keeps | apply State.fault_keeps | apply State.latchConflict_keeps | apply State.route_keeps) | with_reducible refine Keeps.ofItePair (fun _ => ?_) (fun _ => ?_))

theorem State.classifyLocal_keeps {s₀ : State} {s : State} (c : Copy) (h₀ : Keeps s₀ s) : Keeps s₀ (State.classifyLocal s c).1 := by
  unfold State.classifyLocal
  repeat' (first | with_reducible assumption | with_reducible (first | apply State.fabCount_keeps | apply State.route_keeps) | split)

theorem State.classifyEach_keeps {s₀ : State} {s : State} (c : Copy) (a0 : List Nat) (h₀ : Keeps s₀ s) : Keeps s₀ (State.classifyEach s c a0).1 := by
  unfold State.classifyEach
  repeat' (first | (with_reducible refine Keeps.upd ?_ rfl; first | with_reducible assumption | with_reducible (first | apply State.classifyEach_keeps | apply State.classifyLocal_keeps)) | split)

theorem State.originTake_keeps {s₀ : State} {s : State} (n : Nat) (h₀ : Keeps s₀ s) : Keeps s₀ (State.originTake s n) := by
  unfold State.originTake
  repeat' (first | with_reducible assumption | with_reducible apply State.wrap_keeps)

theorem State.terminusCount_keeps {s₀ : State} {s : State} (l : List Copy) (h₀ : Keeps s₀ s) : Keeps s₀ (State.terminusCount s l) := by
  unfold State.terminusCount
  repeat' (first | with_reducible assumption | with_reducible (first | apply State.wr_keeps | apply State.wrap_keeps) | with_reducible refine Keeps.eachOf ?_ _ _ (fun _ _ _ => ?_) | split)

theorem State.ctxEnter_keeps {s₀ : State} {s : State} (n : Nat) (st : Nat) (h₀ : Keeps s₀ s) : Keeps s₀ (State.ctxEnter s n st) := by
  unfold State.ctxEnter
  repeat' (first | with_reducible assumption | with_reducible (first | apply State.arm_keeps | apply State.disarm_keeps | apply State.wr_keeps) | split)

theorem State.ctxExpiry_keeps {s₀ : State} {s : State} (n : Nat) (h₀ : Keeps s₀ s) : KeepsOpt s₀ (State.ctxExpiry s n) := by
  unfold State.ctxExpiry
  repeat' (first | with_reducible assumption | with_reducible (first | apply State.ctxEnter_keeps | apply State.fabCount_keeps) | with_reducible apply KeepsOpt.ofSome | exact KeepsOpt.ofNone | split)

theorem State.openSlot_keeps {s₀ : State} {s : State} (n : Nat) (h₀ : Keeps s₀ s) : Keeps s₀ (State.openSlot s n) := by
  unfold State.openSlot
  repeat' ((with_reducible refine Keeps.upd ?_ rfl; first | with_reducible assumption | with_reducible (first | apply State.ctxEnter_keeps | apply State.wr_keeps)))

theorem State.ctxJudge_keeps {s₀ : State} {s : State} (op : Nat) (n : Nat) (h₀ : Keeps s₀ s) : Keeps s₀ (State.ctxJudge s op n).1 := by
  unfold State.ctxJudge
  repeat' (first | with_reducible assumption | with_reducible (first | apply State.ctxEnter_keeps | apply State.openSlot_keeps) | split)

theorem State.ctxStart_keeps {s₀ : State} {s : State} (n : Nat) (code : CtxCode) (opens : Bool) (h₀ : Keeps s₀ s) : Keeps s₀ (State.ctxStart s n code opens) := by
  unfold State.ctxStart
  repeat' ((with_reducible refine Keeps.upd ?_ rfl; first | with_reducible assumption | with_reducible apply State.wr_keeps | (with_reducible refine Keeps.upd ?_ rfl; first | with_reducible assumption | with_reducible apply State.wr_keeps)))

theorem State.ctxCommand_keeps {s₀ : State} {s : State} (op : Nat) (n : Nat) (h₀ : Keeps s₀ s) : Keeps s₀ (State.ctxCommand s op n) := by
  unfold State.ctxCommand
  repeat' (first | with_reducible assumption | with_reducible (first | apply State.ctxExpiry_keeps | apply State.ctxJudge_keeps | apply State.ctxStart_keeps | apply State.wr_keeps) | (first | exact KeepsOpt.ofNone | with_reducible apply KeepsOpt.ofSome | with_reducible refine Keeps.ofGetD ?_ ?_ | with_reducible refine Keeps.ofOpt (by assumption) ?_ | with_reducible refine Keeps.ofPair (by assumption) ?_ | with_reducible refine KeepsOpt.ofIte (fun _ => ?_) (fun _ => ?_)) | split)

theorem State.ctxComplete_keeps {s₀ : State} {s : State} (h₀ : Keeps s₀ s) : Keeps s₀ (State.ctxComplete s) := by
  unfold State.ctxComplete
  repeat' (first | with_reducible assumption | with_reducible apply State.wr_keeps | split)

theorem State.ctxLate_keeps {s₀ : State} {s : State} (h₀ : Keeps s₀ s) : Keeps s₀ (State.ctxLate s) := by
  unfold State.ctxLate
  repeat' (first | with_reducible assumption | with_reducible apply State.wr_keeps)

theorem State.ctxWord2Free_keeps {s₀ : State} {s : State} (n : Nat) (w : Nat) (h₀ : Keeps s₀ s) : Keeps s₀ (State.ctxWord2Free s n w) := by
  unfold State.ctxWord2Free
  repeat' (first | with_reducible assumption | with_reducible (first | apply State.ctxLate_keeps | apply State.writeField_keeps | apply State.writeFields_keeps) | split)

theorem State.ctxWord2Open_keeps {s₀ : State} {s : State} (n : Nat) (w : Nat) (h₀ : Keeps s₀ s) : Keeps s₀ (State.ctxWord2Open s n w) := by
  unfold State.ctxWord2Open
  repeat' (first | with_reducible assumption | with_reducible (first | apply State.ctxLate_keeps | apply State.wr_keeps) | with_reducible refine Keeps.ofIte (fun _ => ?_) (fun _ => ?_))

theorem State.ctxWordWrite_keeps {s₀ : State} {s : State} (n : Nat) (k : Nat) (w : Nat) (h₀ : Keeps s₀ s) : Keeps s₀ (State.ctxWordWrite s n k w) := by
  unfold State.ctxWordWrite
  repeat' (first | with_reducible assumption | with_reducible (first | apply State.ctxLate_keeps | apply State.ctxWord2Free_keeps | apply State.ctxWord2Open_keeps | apply State.writeFields_keeps) | with_reducible refine Keeps.ofIte (fun _ => ?_) (fun _ => ?_))

theorem State.dlistWrite_keeps {s₀ : State} {s : State} (k : Nat) (w : Nat) (h₀ : Keeps s₀ s) : Keeps s₀ (State.dlistWrite s k w) := by
  unfold State.dlistWrite
  repeat' (first | with_reducible assumption | with_reducible (first | apply State.ctxLate_keeps | apply State.wr_keeps) | split)

theorem State.ctxTimer_keeps {s₀ : State} {s : State} (n : Nat) (st : Nat) (h₀ : Keeps s₀ s) : Keeps s₀ (State.ctxTimer s n st) := by
  unfold State.ctxTimer
  repeat' (first | with_reducible assumption | with_reducible apply State.ctxExpiry_keeps | (first | exact KeepsOpt.ofNone | with_reducible apply KeepsOpt.ofSome | with_reducible refine Keeps.ofGetD ?_ ?_ | with_reducible refine Keeps.ofOpt (by assumption) ?_ | with_reducible refine KeepsOpt.ofIte (fun _ => ?_) (fun _ => ?_)) | split)

theorem State.ctxDrained_keeps {s₀ : State} {s : State} (n : Nat) (h₀ : Keeps s₀ s) : Keeps s₀ (State.ctxDrained s n) := by
  unfold State.ctxDrained
  repeat' (first | with_reducible assumption | with_reducible apply State.ctxEnter_keeps | split)

theorem State.ddFlush_keeps {s₀ : State} {s : State} (h₀ : Keeps s₀ s) : Keeps s₀ (State.ddFlush s) := by
  unfold State.ddFlush
  repeat' ((with_reducible refine Keeps.upd ?_ rfl; first | with_reducible assumption | with_reducible apply State.setDd_keeps))

theorem State.ddAge_keeps {s₀ : State} {s : State} (h₀ : Keeps s₀ s) : Keeps s₀ (State.ddAge s) := by
  unfold State.ddAge
  repeat' (first | with_reducible assumption | with_reducible apply State.setDd_keeps)

theorem State.setHeld_keeps {s₀ : State} {s : State} (p : Nat) (l : List Held) (h₀ : Keeps s₀ s) : Keeps s₀ (State.setHeld s p l) := by
  unfold State.setHeld
  repeat' ((with_reducible refine Keeps.upd ?_ rfl; first | with_reducible assumption))

theorem State.admitOrigin_keeps {s₀ : State} {s : State} (h : Held) (p : Nat) (h₀ : Keeps s₀ s) : Keeps s₀ (State.admitOrigin s h p).1 := by
  unfold State.admitOrigin
  repeat' (first | (first | with_reducible refine Keeps.ofPair (by assumption) ?_) | (with_reducible refine Keeps.upd ?_ rfl; first | with_reducible assumption | with_reducible (first | apply State.admitWhole_keeps | apply State.setHeld_keeps | apply State.terminusCount_keeps)) | split)

theorem State.sendOrigin_keeps {s₀ : State} {s : State} (h : Held) (p : Nat) (h₀ : Keeps s₀ s) : Keeps s₀ (State.sendOrigin s h p).1 := by
  unfold State.sendOrigin
  repeat' (first | (with_reducible refine Keeps.upd ?_ rfl; first | with_reducible assumption | with_reducible (first | apply State.admitOrigin_keeps | apply State.setHeld_keeps)) | split)

theorem State.sendTunnel0_keeps {s₀ : State} {s : State} (dest : Nat) (payload : List Byte) (h₀ : Keeps s₀ s) : Keeps s₀ (State.sendTunnel0 s dest payload) := by
  unfold State.sendTunnel0
  repeat' (first | with_reducible refine Keeps.ofIte (fun _ => ?_) (fun _ => ?_) | (with_reducible refine Keeps.upd ?_ rfl; first | with_reducible assumption | with_reducible (first | apply State.classifyLocal_keeps | apply State.sendOrigin_keeps)))

theorem execCtxOpen_keeps {s₀ : State} (n : Fin 256) {s : State} (h₀ : Keeps s₀ s) : KeepsOut s₀ (execCtxOpen n s) := by
  unfold execCtxOpen
  repeat' (first | with_reducible assumption | with_reducible apply State.ctxCommand_keeps | with_reducible apply KeepsOut.ofNext)

theorem execCtxActivate_keeps {s₀ : State} (n : Fin 256) {s : State} (h₀ : Keeps s₀ s) : KeepsOut s₀ (execCtxActivate n s) := by
  unfold execCtxActivate
  repeat' (first | with_reducible assumption | with_reducible apply State.ctxCommand_keeps | with_reducible apply KeepsOut.ofNext)

theorem execCtxClose_keeps {s₀ : State} (n : Fin 256) {s : State} (h₀ : Keeps s₀ s) : KeepsOut s₀ (execCtxClose n s) := by
  unfold execCtxClose
  repeat' (first | with_reducible assumption | with_reducible apply State.ctxCommand_keeps | with_reducible apply KeepsOut.ofNext)

theorem execCtxAbort_keeps {s₀ : State} (n : Fin 256) {s : State} (h₀ : Keeps s₀ s) : KeepsOut s₀ (execCtxAbort n s) := by
  unfold execCtxAbort
  repeat' (first | with_reducible assumption | with_reducible apply State.ctxCommand_keeps | with_reducible apply KeepsOut.ofNext)

theorem execContextWordWrite_keeps {s₀ : State} (n : Fin 253) (k : Fin 8) (w : Word) {s : State} (h₀ : Keeps s₀ s) : KeepsOut s₀ (execContextWordWrite n k w s) := by
  unfold execContextWordWrite
  repeat' (first | with_reducible assumption | with_reducible apply State.ctxWordWrite_keeps | with_reducible apply KeepsOut.ofNext)

theorem execDestinationListWrite_keeps {s₀ : State} (k : Fin 256) (w : Word) {s : State} (h₀ : Keeps s₀ s) : KeepsOut s₀ (execDestinationListWrite k w s) := by
  unfold execDestinationListWrite
  repeat' (first | with_reducible assumption | with_reducible apply State.dlistWrite_keeps | with_reducible apply KeepsOut.ofNext)

theorem execOpenToExpiry_keeps {s₀ : State} (n : Fin 253) {s : State} (h₀ : Keeps s₀ s) : KeepsOut s₀ (execOpenToExpiry n s) := by
  unfold execOpenToExpiry
  repeat' (first | with_reducible assumption | with_reducible apply State.ctxTimer_keeps | with_reducible apply KeepsOut.ofNext)

theorem execCloseToExpiry_keeps {s₀ : State} (n : Fin 253) {s : State} (h₀ : Keeps s₀ s) : KeepsOut s₀ (execCloseToExpiry n s) := by
  unfold execCloseToExpiry
  repeat' (first | with_reducible assumption | with_reducible apply State.ctxTimer_keeps | with_reducible apply KeepsOut.ofNext)

theorem execRetireExpiry_keeps {s₀ : State} (n : Fin 253) {s : State} (h₀ : Keeps s₀ s) : KeepsOut s₀ (execRetireExpiry n s) := by
  unfold execRetireExpiry
  repeat' (first | with_reducible assumption | with_reducible apply State.ctxTimer_keeps | with_reducible apply KeepsOut.ofNext)

theorem execInflightDrained_keeps {s₀ : State} (n : Fin 253) {s : State} (h₀ : Keeps s₀ s) : KeepsOut s₀ (execInflightDrained n s) := by
  unfold execInflightDrained
  repeat' (first | with_reducible assumption | with_reducible apply State.ctxDrained_keeps | with_reducible apply KeepsOut.ofNext)

theorem execDdEntryAge_keeps {s₀ : State} {s : State} (h₀ : Keeps s₀ s) : KeepsOut s₀ (execDdEntryAge s) := by
  unfold execDdEntryAge
  repeat' (first | with_reducible assumption | with_reducible apply State.ddAge_keeps | with_reducible apply KeepsOut.ofNext)

theorem execDdFlush_keeps {s₀ : State} {s : State} (h₀ : Keeps s₀ s) : KeepsOut s₀ (execDdFlush s) := by
  unfold execDdFlush
  repeat' (first | with_reducible assumption | with_reducible apply State.ddFlush_keeps | with_reducible apply KeepsOut.ofNext)

end Sys2Proof.Machine
end

