-- ==== Sys2Proof/Laws/KeepsLine.lean ====
section
/-! SUPPORT. What the operations of Machine/Line.lean keep: the queue, the canonical form of the stores, every burnt fuse. -/

namespace Sys2Proof.Machine

theorem State.setTrunk_keeps {s₀ : State} {s : State} (t : Nat) (x : Trunk) (h₀ : Keeps s₀ s) : Keeps s₀ (State.setTrunk s t x) := by
  unfold State.setTrunk
  repeat' ((with_reducible refine Keeps.upd ?_ rfl; first | with_reducible assumption))

theorem State.putLine_keeps {s₀ : State} {s : State} (n : Nat) (l : List Bool) (h₀ : Keeps s₀ s) : Keeps s₀ (State.putLine s n l) := by
  unfold State.putLine
  repeat' ((with_reducible refine Keeps.upd ?_ rfl; first | with_reducible assumption))

theorem State.prbsOut_keeps {s₀ : State} {s : State} (n : Nat) (k : Nat) (h₀ : Keeps s₀ s) : Keeps s₀ (State.prbsOut s n k) := by
  unfold State.prbsOut
  repeat' (first | (with_reducible refine Keeps.upd ?_ rfl; first | with_reducible assumption | with_reducible apply State.putLine_keeps) | split)

theorem State.laneOut_keeps {s₀ : State} {s : State} (n : Nat) (scr : Bool) (b : LineBlock) (h₀ : Keeps s₀ s) : Keeps s₀ (State.laneOut s n scr b) := by
  unfold State.laneOut
  repeat' (first | (with_reducible refine Keeps.upd ?_ rfl; first | with_reducible assumption | with_reducible (first | apply State.prbsOut_keeps | apply State.putLine_keeps)) | split)

theorem State.clearLines_keeps {s₀ : State} {s : State} (t : Nat) (h₀ : Keeps s₀ s) : Keeps s₀ (State.clearLines s t) := by
  unfold State.clearLines
  repeat' ((with_reducible refine Keeps.upd ?_ rfl; first | with_reducible assumption | with_reducible apply State.setTrunk_keeps | (with_reducible refine Keeps.upd ?_ rfl; first | with_reducible assumption | with_reducible apply State.setTrunk_keeps)))

theorem State.linkOut_keeps {s₀ : State} {s : State} (t : Nat) (b : LineBlock) (h₀ : Keeps s₀ s) : Keeps s₀ (State.linkOut s t b) := by
  unfold State.linkOut
  repeat' ((with_reducible refine Keeps.upd ?_ rfl; first | with_reducible assumption | with_reducible (first | apply State.laneOut_keeps | apply State.setTrunk_keeps)))

theorem State.linkSend_keeps {s₀ : State} {s : State} (t : Nat) (l : List LineBlock) (h₀ : Keeps s₀ s) : Keeps s₀ (State.linkSend s t l) := by
  unfold State.linkSend
  repeat' (first | with_reducible assumption | with_reducible (first | apply State.clearLines_keeps | apply State.linkOut_keeps) | with_reducible refine Keeps.eachOf ?_ _ _ (fun _ _ _ => ?_))

theorem State.linkFill_keeps {s₀ : State} {s : State} (t : Nat) (h₀ : Keeps s₀ s) : Keeps s₀ (State.linkFill s t) := by
  unfold State.linkFill
  repeat' (first | with_reducible assumption | with_reducible apply State.linkOut_keeps | with_reducible refine Keeps.eachOf ?_ _ _ (fun _ _ _ => ?_) | split)

theorem State.alignOut_keeps {s₀ : State} {s : State} (n : Nat) (k : Nat) (h₀ : Keeps s₀ s) : Keeps s₀ (State.alignOut s n k) := by
  unfold State.alignOut
  repeat' (first | (with_reducible refine Keeps.upd ?_ rfl; first | with_reducible assumption | with_reducible apply State.laneOut_keeps) | split)

theorem State.alignSend_keeps {s₀ : State} {s : State} (t : Nat) (idle : Nat) (h₀ : Keeps s₀ s) : Keeps s₀ (State.alignSend s t idle) := by
  unfold State.alignSend
  repeat' (first | with_reducible assumption | with_reducible (first | apply State.alignOut_keeps | apply State.clearLines_keeps | apply State.laneOut_keeps | apply State.linkFill_keeps) | with_reducible refine Keeps.whenIf ?_ _ _ (fun _ _ => ?_) | with_reducible refine Keeps.eachOf ?_ _ _ (fun _ _ _ => ?_) | split)

end Sys2Proof.Machine
end

