-- ==== Sys2Proof/Laws/KeepsKeys.lean ====
section
/-! SUPPORT. What the operations of Machine/Keys.lean keep: the queue, the canonical form of the stores, every burnt fuse. -/

namespace Sys2Proof.Machine

theorem State.kl2Show_keeps {s₀ : State} {s : State} (h₀ : Keeps s₀ s) : Keeps s₀ (State.kl2Show s) := by
  unfold State.kl2Show
  repeat' (first | with_reducible assumption | with_reducible apply State.wr_keeps)

theorem State.fuseShow_keeps {s₀ : State} {s : State} (h₀ : Keeps s₀ s) : Keeps s₀ (State.fuseShow s) := by
  unfold State.fuseShow
  repeat' (first | with_reducible assumption | with_reducible (first | apply State.kl2Show_keeps | apply State.wr_keeps))

theorem State.burn_keeps {s₀ s : State} (r v : Nat) (h : Keeps s₀ s) : Keeps s₀ (s.burn r v) :=
  h.setFuse (RowsKept.burn _ _ _)


theorem State.burnFails_keeps {s₀ : State} {s : State} (r : Nat) (v : Nat) (h₀ : Keeps s₀ s) : Keeps s₀ (State.burnFails s r v) := by
  unfold State.burnFails
  repeat' (first | with_reducible assumption | with_reducible (first | apply State.burn_keeps | apply State.free_keeps) | (first | with_reducible refine Keeps.ofPair2 (by assumption) ?_))

theorem State.burnBytes_keeps {s₀ : State} {s : State} (r : Nat) (bs : List Byte) (h₀ : Keeps s₀ s) : Keeps s₀ (State.burnBytes s r bs) := by
  unfold State.burnBytes
  repeat' (first | with_reducible assumption | with_reducible apply State.burn_keeps | with_reducible refine Keeps.eachOf ?_ _ _ (fun _ _ _ => ?_) | intro _)

theorem State.fillSlot_keeps {s₀ : State} {s : State} (n : Nat) (key : List Byte) (usage : Nat) (pair : Bool) (h₀ : Keeps s₀ s) : Keeps s₀ (State.fillSlot s n key usage pair) := by
  unfold State.fillSlot
  repeat' (first | (extract_lets +onlyGivenNames x; first | (refine (?_ : Keeps s₀ x → _) ?_; rotate_left; subst x; rotate_left; intro hx; clear_value x) | (have z : Keys := x; clear z; subst x) | clear_value x) | with_reducible apply State.wr_keeps | (with_reducible refine Keeps.upd ?_ rfl; first | with_reducible assumption | with_reducible apply State.wr_keeps) | (with_reducible refine Keeps.updKeys ?_ ?_ rfl <;> with_reducible assumption))

theorem State.clearSlot_keeps {s₀ : State} {s : State} (n : Nat) (st : Nat) (h₀ : Keeps s₀ s) : Keeps s₀ (State.clearSlot s n st) := by
  unfold State.clearSlot
  repeat' (first | with_reducible apply State.wr_keeps | (with_reducible refine Keeps.upd ?_ rfl; first | with_reducible assumption | with_reducible apply State.wr_keeps) | (with_reducible refine Keeps.updKeys ?_ ?_ rfl <;> with_reducible assumption))

theorem State.markBad_keeps {s₀ : State} {s : State} (n : Nat) (h₀ : Keeps s₀ s) : Keeps s₀ (State.markBad s n) := by
  unfold State.markBad
  repeat' (first | with_reducible (first | apply State.fault_keeps | apply State.sat_keeps | apply State.wr_keeps) | with_reducible refine Keeps.eachOf ?_ _ _ (fun _ _ _ => ?_) | (with_reducible refine Keeps.upd ?_ rfl; first | with_reducible assumption | with_reducible (first | apply State.fault_keeps | apply State.sat_keeps | apply State.wr_keeps) | (with_reducible refine Keeps.upd ?_ rfl; first | with_reducible assumption | with_reducible (first | apply State.fault_keeps | apply State.sat_keeps | apply State.wr_keeps))))

theorem State.slotSweep_keeps {s₀ : State} {s : State} (h₀ : Keeps s₀ s) : Keeps s₀ (State.slotSweep s) := by
  unfold State.slotSweep
  repeat' (first | with_reducible assumption | with_reducible apply State.markBad_keeps | with_reducible refine Keeps.ofIte (fun _ => ?_) (fun _ => ?_) | with_reducible refine Keeps.eachOf ?_ _ _ (fun _ _ _ => ?_) | split)

theorem State.useSlot_keeps {s₀ : State} {s : State} (n : Nat) (h₀ : Keeps s₀ s) : Keeps s₀ (State.useSlot s n).1 := by
  unfold State.useSlot
  repeat' (first | with_reducible assumption | with_reducible apply State.markBad_keeps | with_reducible refine Keeps.ofItePair (fun _ => ?_) (fun _ => ?_) | dsimp -zeta only | split)

theorem State.fillPair_keeps {s₀ : State} {s : State} (n : Nat) (scalar : Nat) (usage : Nat) (h₀ : Keeps s₀ s) : Keeps s₀ (State.fillPair s n scalar usage) := by
  unfold State.fillPair
  repeat' (first | with_reducible assumption | with_reducible apply State.fillSlot_keeps)

theorem State.slotsShow_keeps {s₀ : State} {s : State} (h₀ : Keeps s₀ s) : Keeps s₀ (State.slotsShow s) := by
  unfold State.slotsShow
  repeat' (first | with_reducible assumption | with_reducible apply State.wr_keeps | with_reducible refine Keeps.eachOf ?_ _ _ (fun _ _ _ => ?_) | intro _)

theorem State.keyEnd_keeps {s₀ : State} {s : State} (c : KeyCode) (outLen : Nat) (h₀ : Keeps s₀ s) : Keeps s₀ (State.keyEnd s c outLen) := by
  unfold State.keyEnd
  repeat' (first | with_reducible apply State.wr_keeps | (with_reducible refine Keeps.upd ?_ rfl; first | with_reducible assumption | with_reducible apply State.wr_keeps | (with_reducible refine Keeps.upd ?_ rfl; first | with_reducible assumption | with_reducible apply State.wr_keeps)) | (with_reducible refine Keeps.updKeys ?_ ?_ rfl <;> with_reducible assumption))

theorem State.keyDone_keeps {s₀ : State} {s : State} (h₀ : Keeps s₀ s) : Keeps s₀ (State.keyDone s) := by
  unfold State.keyDone
  repeat' (first | with_reducible assumption | with_reducible apply State.wr_keeps | with_reducible refine Keeps.ofIte (fun _ => ?_) (fun _ => ?_) | split)

theorem State.keyOut_keeps {s₀ s : State} (bs : List Byte) (h : Keeps s₀ s) : Keeps s₀ (s.keyOut bs) :=
  h.setSram (Memory.wf_write bs _)


theorem State.keyStart_keeps {s₀ : State} {s : State} (run : State → State) (h₀ : Keeps s₀ s) (g_run : ∀ x, Keeps s₀ x → Keeps s₀ (run x)) : Keeps s₀ (State.keyStart s run) := by
  unfold State.keyStart
  repeat' (first | with_reducible assumption | (with_reducible first | apply g_run) | with_reducible (first | apply State.keyEnd_keeps | apply State.wr_keeps) | with_reducible refine Keeps.ofIte (fun _ => ?_) (fun _ => ?_))

theorem State.keyHash_keeps {s₀ : State} {s : State} (h₀ : Keeps s₀ s) : Keeps s₀ (State.keyHash s) := by
  unfold State.keyHash
  repeat' (first | with_reducible assumption | with_reducible (first | apply State.keyEnd_keeps | apply State.keyOut_keeps) | split)

theorem State.sourceSlot_keeps {s₀ : State} {s : State} (a : Nat) (use : Nat) (pair : Bool) (h₀ : Keeps s₀ s) : Keeps s₀ (State.sourceSlot s a use pair).1 := by
  unfold State.sourceSlot
  repeat' (first | with_reducible assumption | with_reducible apply State.useSlot_keeps | with_reducible refine Keeps.ofItePair (fun _ => ?_) (fun _ => ?_) | (first | with_reducible refine Keeps.ofPair (by assumption) ?_) | dsimp -zeta only | split)

theorem State.keyHmac_keeps {s₀ : State} {s : State} (a : Nat) (h₀ : Keeps s₀ s) : Keeps s₀ (State.keyHmac s a) := by
  unfold State.keyHmac
  repeat' (first | with_reducible assumption | with_reducible (first | apply State.keyEnd_keeps | apply State.keyOut_keeps | apply State.sourceSlot_keeps) | (first | with_reducible refine Keeps.ofPair (by assumption) ?_) | split)

theorem State.kdfSource_keeps {s₀ : State} {s : State} (a : Nat) (h₀ : Keeps s₀ s) : Keeps s₀ (State.kdfSource s a).1 := by
  unfold State.kdfSource
  repeat' (first | with_reducible assumption | with_reducible apply State.sourceSlot_keeps | with_reducible refine Keeps.ofItePair (fun _ => ?_) (fun _ => ?_) | (first | with_reducible refine Keeps.ofPair (by assumption) ?_) | dsimp -zeta only | split)

theorem State.keyKdf_keeps {s₀ : State} {s : State} (a : Nat) (b : Nat) (pair : Bool) (h₀ : Keeps s₀ s) : Keeps s₀ (State.keyKdf s a b pair) := by
  unfold State.keyKdf
  repeat' (first | with_reducible assumption | with_reducible (first | apply State.fillPair_keeps | apply State.fillSlot_keeps | apply State.kdfSource_keeps | apply State.keyEnd_keeps | apply State.slotsShow_keeps) | (first | with_reducible refine Keeps.ofPair (by assumption) ?_) | split)

theorem State.trngFail_keeps {s₀ : State} {s : State} (h₀ : Keeps s₀ s) : Keeps s₀ (State.trngFail s) := by
  unfold State.trngFail
  repeat' (first | with_reducible assumption | with_reducible (first | apply State.fault_keeps | apply State.keyEnd_keeps | apply State.sat_keeps))

theorem State.keyGen_keeps {s₀ : State} {s : State} (b : Nat) (ok : Bool) (h₀ : Keeps s₀ s) : Keeps s₀ (State.keyGen s b ok) := by
  unfold State.keyGen
  repeat' (first | with_reducible assumption | with_reducible (first | apply State.fillPair_keeps | apply State.free_keeps | apply State.keyEnd_keeps | apply State.slotsShow_keeps | apply State.trngFail_keeps) | split)

theorem State.pairSource_keeps {s₀ : State} {s : State} (a : Nat) (use1 : Nat) (use2 : Nat) (h₀ : Keeps s₀ s) : Keeps s₀ (State.pairSource s a use1 use2).1 := by
  unfold State.pairSource
  repeat' (first | with_reducible assumption | with_reducible apply State.sourceSlot_keeps | with_reducible refine Keeps.ofItePair (fun _ => ?_) (fun _ => ?_) | (first | with_reducible refine Keeps.ofPair (by assumption) ?_) | dsimp -zeta only | split)

theorem State.keyPub_keeps {s₀ : State} {s : State} (a : Nat) (h₀ : Keeps s₀ s) : Keeps s₀ (State.keyPub s a) := by
  unfold State.keyPub
  repeat' (first | with_reducible assumption | with_reducible (first | apply State.keyEnd_keeps | apply State.keyOut_keeps | apply State.pairSource_keeps) | with_reducible refine Keeps.ofIte (fun _ => ?_) (fun _ => ?_) | (first | with_reducible refine Keeps.ofPair (by assumption) ?_) | split)

theorem State.keySign_keeps {s₀ : State} {s : State} (a : Nat) (h₀ : Keeps s₀ s) : Keeps s₀ (State.keySign s a) := by
  unfold State.keySign
  repeat' (first | with_reducible assumption | with_reducible (first | apply State.free_keeps | apply State.keyEnd_keeps | apply State.keyOut_keeps | apply State.pairSource_keeps) | (first | with_reducible refine Keeps.ofPair (by assumption) ?_ | with_reducible refine Keeps.ofPair2 (by assumption) ?_) | split)

theorem State.keyVerify_keeps {s₀ : State} {s : State} (h₀ : Keeps s₀ s) : Keeps s₀ (State.keyVerify s) := by
  unfold State.keyVerify
  repeat' (first | with_reducible assumption | with_reducible apply State.keyEnd_keeps | with_reducible refine Keeps.ofIte (fun _ => ?_) (fun _ => ?_) | split)

theorem State.keyEcdh_keeps {s₀ : State} {s : State} (a : Nat) (b : Nat) (h₀ : Keeps s₀ s) : Keeps s₀ (State.keyEcdh s a b) := by
  unfold State.keyEcdh
  repeat' (first | with_reducible assumption | with_reducible (first | apply State.fillSlot_keeps | apply State.keyEnd_keeps | apply State.pairSource_keeps | apply State.slotsShow_keeps) | with_reducible refine Keeps.ofIte (fun _ => ?_) (fun _ => ?_) | (first | with_reducible refine Keeps.ofPair (by assumption) ?_) | split)

theorem State.keyRandom_keeps {s₀ : State} {s : State} (ok : Bool) (h₀ : Keeps s₀ s) : Keeps s₀ (State.keyRandom s ok) := by
  unfold State.keyRandom
  repeat' (first | with_reducible assumption | with_reducible (first | apply State.free_keeps | apply State.keyEnd_keeps | apply State.keyOut_keeps | apply State.trngFail_keeps) | with_reducible refine Keeps.ofIte (fun _ => ?_) (fun _ => ?_))

theorem State.keyDestroy_keeps {s₀ : State} {s : State} (a : Nat) (h₀ : Keeps s₀ s) : Keeps s₀ (State.keyDestroy s a) := by
  unfold State.keyDestroy
  repeat' (first | with_reducible assumption | with_reducible (first | apply State.clearSlot_keeps | apply State.keyEnd_keeps | apply State.slotsShow_keeps) | with_reducible refine Keeps.ofIte (fun _ => ?_) (fun _ => ?_) | with_reducible refine Keeps.eachOf ?_ _ _ (fun _ _ _ => ?_))

theorem State.verifyImage_keeps {s₀ : State} {s : State} (i : Nat) (h₀ : Keeps s₀ s) : Keeps s₀ (State.verifyImage s i).1 := by
  unfold State.verifyImage
  repeat' (first | with_reducible assumption | with_reducible (first | apply State.offStart_keeps | apply State.wr_keeps) | with_reducible refine Keeps.ofItePair (fun _ => ?_) (fun _ => ?_) | with_reducible refine Keeps.eachOf ?_ _ _ (fun _ _ _ => ?_) | split)

theorem State.keyImgver_keeps {s₀ : State} {s : State} (a : Nat) (h₀ : Keeps s₀ s) : Keeps s₀ (State.keyImgver s a) := by
  unfold State.keyImgver
  repeat' (first | with_reducible assumption | with_reducible (first | apply State.keyEnd_keeps | apply State.verifyImage_keeps | apply State.wr_keeps) | split)

theorem State.keyUnlocked_keeps {s₀ : State} {s : State} (run : State → State) (h₀ : Keeps s₀ s) (g_run : ∀ x, Keeps s₀ x → Keeps s₀ (run x)) : Keeps s₀ (State.keyUnlocked s run) := by
  unfold State.keyUnlocked
  repeat' (first | with_reducible assumption | (with_reducible first | apply g_run) | with_reducible apply State.keyEnd_keeps | with_reducible refine Keeps.ofIte (fun _ => ?_) (fun _ => ?_) | split)

theorem State.keyEnroll_keeps {s₀ : State} {s : State} (ok : Bool) (h₀ : Keeps s₀ s) : Keeps s₀ (State.keyEnroll s ok) := by
  unfold State.keyEnroll
  repeat' (first | with_reducible (first | apply State.burnBytes_keeps | apply State.free_keeps | apply State.keyEnd_keeps) | (first | with_reducible refine Keeps.ofPair2 (by assumption) ?_) | (with_reducible refine Keeps.upd ?_ rfl; first | with_reducible assumption | with_reducible (first | apply State.burnBytes_keeps | apply State.free_keeps | apply State.keyEnd_keeps | apply State.wr_keeps)) | split)

theorem State.burnRows_keeps {s₀ : State} {s : State} (base : Nat) (n : Nat) (h₀ : Keeps s₀ s) : Keeps s₀ (State.burnRows s base n) := by
  unfold State.burnRows
  repeat' (first | with_reducible assumption | with_reducible apply State.burn_keeps | with_reducible refine Keeps.eachOf ?_ _ _ (fun _ _ _ => ?_) | intro _)

theorem State.burnOut_keeps {s₀ : State} {s : State} (goal : Nat) (h₀ : Keeps s₀ s) : Keeps s₀ (State.burnOut s goal) := by
  unfold State.burnOut
  repeat' (first | with_reducible assumption | with_reducible apply State.burnRows_keeps | with_reducible refine Keeps.ofIte (fun _ => ?_) (fun _ => ?_) | split)

theorem State.eraseKeys_keeps {s₀ : State} {s : State} (h₀ : Keeps s₀ s) : Keeps s₀ (State.eraseKeys s) := by
  unfold State.eraseKeys
  repeat' (first | (extract_lets +onlyGivenNames x; first | (refine (?_ : Keeps s₀ x → _) ?_; rotate_left; subst x; rotate_left; intro hx; clear_value x) | (have z : Keys := x; clear z; subst x) | clear_value x) | with_reducible (first | apply State.clearSlot_keeps | apply State.slotsShow_keeps | apply State.wr_keeps) | with_reducible refine Keeps.eachOf ?_ _ _ (fun _ _ _ => ?_) | (with_reducible refine Keeps.updKeys ?_ ?_ rfl <;> with_reducible assumption))

theorem State.keyLcadv_keeps {s₀ : State} {s : State} (b : Nat) (n : Nat) (h₀ : Keeps s₀ s) : Keeps s₀ (State.keyLcadv s b n) := by
  unfold State.keyLcadv
  repeat' (first | with_reducible assumption | with_reducible (first | apply State.burnOut_keeps | apply State.burn_keeps | apply State.eraseKeys_keeps | apply State.fuseShow_keeps | apply State.keyEnd_keeps | apply State.wr_keeps) | with_reducible refine Keeps.ofIte (fun _ => ?_) (fun _ => ?_) | with_reducible refine Keeps.eachOf ?_ _ _ (fun _ _ _ => ?_))

theorem State.keyArbadv_keeps {s₀ : State} {s : State} (b : Nat) (ok : Bool) (h₀ : Keeps s₀ s) : Keeps s₀ (State.keyArbadv s b ok) := by
  unfold State.keyArbadv
  dsimp only
  repeat' (first | with_reducible assumption | with_reducible (first | apply State.burnFails_keeps | apply State.burn_keeps | apply State.fuseShow_keeps | apply State.keyEnd_keeps) | with_reducible refine Keeps.eachOf ?_ _ _ (fun _ _ _ => ?_) | split)


theorem State.keyRevoke_keeps {s₀ : State} {s : State} (a : Nat) (ok : Bool) (h₀ : Keeps s₀ s) : Keeps s₀ (State.keyRevoke s a ok) := by
  unfold State.keyRevoke
  repeat' (first | with_reducible assumption | with_reducible (first | apply State.burnFails_keeps | apply State.burn_keeps | apply State.fuseShow_keeps | apply State.keyEnd_keeps) | split)

theorem State.keyFuse_keeps {s₀ : State} {s : State} (ok : Bool) (h₀ : Keeps s₀ s) : Keeps s₀ (State.keyFuse s ok) := by
  unfold State.keyFuse
  repeat' (first | with_reducible assumption | with_reducible (first | apply State.burnFails_keeps | apply State.burn_keeps | apply State.fuseShow_keeps | apply State.keyEnd_keeps) | with_reducible refine Keeps.ofIte (fun _ => ?_) (fun _ => ?_) | split)

theorem State.keyCmdWrite_keeps {s₀ : State} {s : State} (w : Nat) (h₀ : Keeps s₀ s) : Keeps s₀ (State.keyCmdWrite s w) := by
  unfold State.keyCmdWrite
  repeat' (first | with_reducible assumption | with_reducible (first | apply State.keyArbadv_keeps | apply State.keyDestroy_keeps | apply State.keyEcdh_keeps | apply State.keyEnd_keeps | apply State.keyEnroll_keeps | apply State.keyFuse_keeps | apply State.keyGen_keeps | apply State.keyHash_keeps | apply State.keyHmac_keeps | apply State.keyImgver_keeps | apply State.keyKdf_keeps | apply State.keyLcadv_keeps | apply State.keyPub_keeps | apply State.keyRandom_keeps | apply State.keyRevoke_keeps | apply State.keySign_keeps | apply State.keyStart_keeps | apply State.keyUnlocked_keeps | apply State.keyVerify_keeps) | split | intro _)

theorem State.keyBarWrite_keeps {s₀ : State} {s : State} (h₀ : Keeps s₀ s) : Keeps s₀ (State.keyBarWrite s) := by
  unfold State.keyBarWrite
  repeat' (first | with_reducible assumption | with_reducible (first | apply State.sat_keeps | apply State.wr_keeps))

theorem State.keyWrite_keeps {s₀ : State} {s : State} (off : Nat) (w : Nat) (mgmt : Bool) (h₀ : Keeps s₀ s) : KeepsOpt s₀ (State.keyWrite s off w mgmt) := by
  unfold State.keyWrite
  repeat' (first | with_reducible assumption | with_reducible (first | apply State.keyBarWrite_keeps | apply State.keyCmdWrite_keeps) | with_reducible apply KeepsOpt.ofSome | exact KeepsOpt.ofNone | split)

theorem execHash_keeps {s₀ : State} {s : State} (h₀ : Keeps s₀ s) : KeepsOut s₀ (execHash s) := by
  unfold execHash
  repeat' (first | with_reducible assumption | with_reducible (first | apply State.keyHash_keeps | apply State.keyStart_keeps) | with_reducible apply KeepsOut.ofNext)

theorem execHmac_keeps {s₀ : State} (a : Fin 128) {s : State} (h₀ : Keeps s₀ s) : KeepsOut s₀ (execHmac a s) := by
  unfold execHmac
  repeat' (first | with_reducible assumption | with_reducible (first | apply State.keyHmac_keeps | apply State.keyStart_keeps) | with_reducible apply KeepsOut.ofNext | intro _)

theorem execKdf_keeps {s₀ : State} (a : Fin 128) (b : Fin 128) {s : State} (h₀ : Keeps s₀ s) : KeepsOut s₀ (execKdf a b s) := by
  unfold execKdf
  repeat' (first | with_reducible assumption | with_reducible (first | apply State.keyKdf_keeps | apply State.keyStart_keeps) | with_reducible apply KeepsOut.ofNext | intro _)

theorem execKdfec_keeps {s₀ : State} (a : Fin 128) (b : Fin 128) {s : State} (h₀ : Keeps s₀ s) : KeepsOut s₀ (execKdfec a b s) := by
  unfold execKdfec
  repeat' (first | with_reducible assumption | with_reducible (first | apply State.keyKdf_keeps | apply State.keyStart_keeps) | with_reducible apply KeepsOut.ofNext | intro _)

theorem execKeygen_keeps {s₀ : State} (b : Fin 128) (ok : Bool) {s : State} (h₀ : Keeps s₀ s) : KeepsOut s₀ (execKeygen b ok s) := by
  unfold execKeygen
  repeat' (first | with_reducible assumption | with_reducible (first | apply State.keyGen_keeps | apply State.keyStart_keeps) | with_reducible apply KeepsOut.ofNext | intro _)

theorem execPubkey_keeps {s₀ : State} (a : Fin 128) {s : State} (h₀ : Keeps s₀ s) : KeepsOut s₀ (execPubkey a s) := by
  unfold execPubkey
  repeat' (first | with_reducible assumption | with_reducible (first | apply State.keyPub_keeps | apply State.keyStart_keeps) | with_reducible apply KeepsOut.ofNext | intro _)

theorem execSign_keeps {s₀ : State} (a : Fin 128) {s : State} (h₀ : Keeps s₀ s) : KeepsOut s₀ (execSign a s) := by
  unfold execSign
  repeat' (first | with_reducible assumption | with_reducible (first | apply State.keySign_keeps | apply State.keyStart_keeps) | with_reducible apply KeepsOut.ofNext | intro _)

theorem execVerify_keeps {s₀ : State} {s : State} (h₀ : Keeps s₀ s) : KeepsOut s₀ (execVerify s) := by
  unfold execVerify
  repeat' (first | with_reducible assumption | with_reducible (first | apply State.keyStart_keeps | apply State.keyVerify_keeps) | with_reducible apply KeepsOut.ofNext)

theorem execEcdhkdf_keeps {s₀ : State} (a : Fin 128) (b : Fin 128) {s : State} (h₀ : Keeps s₀ s) : KeepsOut s₀ (execEcdhkdf a b s) := by
  unfold execEcdhkdf
  repeat' (first | with_reducible assumption | with_reducible (first | apply State.keyEcdh_keeps | apply State.keyStart_keeps) | with_reducible apply KeepsOut.ofNext | intro _)

theorem execRandom_keeps {s₀ : State} (ok : Bool) {s : State} (h₀ : Keeps s₀ s) : KeepsOut s₀ (execRandom ok s) := by
  unfold execRandom
  repeat' (first | with_reducible assumption | with_reducible (first | apply State.keyRandom_keeps | apply State.keyStart_keeps) | with_reducible apply KeepsOut.ofNext | intro _)

theorem execDestroy_keeps {s₀ : State} (a : Fin 128) {s : State} (h₀ : Keeps s₀ s) : KeepsOut s₀ (execDestroy a s) := by
  unfold execDestroy
  repeat' (first | with_reducible assumption | with_reducible (first | apply State.keyDestroy_keeps | apply State.keyStart_keeps) | with_reducible apply KeepsOut.ofNext | intro _)

theorem execImgver_keeps {s₀ : State} (a : Fin 128) {s : State} (h₀ : Keeps s₀ s) : KeepsOut s₀ (execImgver a s) := by
  unfold execImgver
  repeat' (first | with_reducible assumption | with_reducible (first | apply State.keyImgver_keeps | apply State.keyStart_keeps) | with_reducible apply KeepsOut.ofNext | intro _)

theorem execEnroll_keeps {s₀ : State} (ok : Bool) {s : State} (h₀ : Keeps s₀ s) : KeepsOut s₀ (execEnroll ok s) := by
  unfold execEnroll
  repeat' (first | with_reducible assumption | with_reducible (first | apply State.keyEnroll_keeps | apply State.keyStart_keeps | apply State.keyUnlocked_keeps) | with_reducible apply KeepsOut.ofNext | intro _)

theorem execLcadv_keeps {s₀ : State} (b : Fin 128) (copies : Fin 4) {s : State} (h₀ : Keeps s₀ s) : KeepsOut s₀ (execLcadv b copies s) := by
  unfold execLcadv
  repeat' (first | with_reducible assumption | with_reducible (first | apply State.keyLcadv_keeps | apply State.keyStart_keeps | apply State.keyUnlocked_keeps) | with_reducible apply KeepsOut.ofNext | intro _)

theorem execArbadv_keeps {s₀ : State} (b : Fin 128) (ok : Bool) {s : State} (h₀ : Keeps s₀ s) : KeepsOut s₀ (execArbadv b ok s) := by
  unfold execArbadv
  repeat' (first | with_reducible assumption | with_reducible (first | apply State.keyArbadv_keeps | apply State.keyStart_keeps | apply State.keyUnlocked_keeps) | with_reducible apply KeepsOut.ofNext | intro _)

theorem execRevoke_keeps {s₀ : State} (a : Fin 128) (ok : Bool) {s : State} (h₀ : Keeps s₀ s) : KeepsOut s₀ (execRevoke a ok s) := by
  unfold execRevoke
  repeat' (first | with_reducible assumption | with_reducible (first | apply State.keyRevoke_keeps | apply State.keyStart_keeps | apply State.keyUnlocked_keeps) | with_reducible apply KeepsOut.ofNext | intro _)

theorem execFuse_keeps {s₀ : State} (ok : Bool) {s : State} (h₀ : Keeps s₀ s) : KeepsOut s₀ (execFuse ok s) := by
  unfold execFuse
  repeat' (first | with_reducible assumption | with_reducible (first | apply State.keyFuse_keeps | apply State.keyStart_keeps | apply State.keyUnlocked_keeps) | with_reducible apply KeepsOut.ofNext | intro _)

theorem execKeyCommandDone_keeps {s₀ : State} {s : State} (h₀ : Keeps s₀ s) : KeepsOut s₀ (execKeyCommandDone s) := by
  unfold execKeyCommandDone
  repeat' (first | with_reducible assumption | with_reducible apply State.keyDone_keeps | with_reducible apply KeepsOut.ofNext)

theorem execSlotCheckSweep_keeps {s₀ : State} {s : State} (h₀ : Keeps s₀ s) : KeepsOut s₀ (execSlotCheckSweep s) := by
  unfold execSlotCheckSweep
  repeat' (first | with_reducible assumption | with_reducible apply State.slotSweep_keeps | with_reducible apply KeepsOut.ofNext)

end Sys2Proof.Machine
end

