-- ==== Sys2Proof/Laws/KeepsGates.lean ====
section
/-! SUPPORT. What the operations of Machine/Gates.lean keep: the queue, the canonical form of the stores, every burnt fuse. -/

namespace Sys2Proof.Machine

theorem State.gateShow_keeps {s₀ : State} {s : State} (p : Nat) (h₀ : Keeps s₀ s) : Keeps s₀ (State.gateShow s p) := by
  unfold State.gateShow
  repeat' (first | with_reducible assumption | with_reducible (first | apply State.sat_keeps | apply State.wr_keeps) | split)

theorem State.gatesShow_keeps {s₀ : State} {s : State} (h₀ : Keeps s₀ s) : Keeps s₀ (State.gatesShow s) := by
  unfold State.gatesShow
  repeat' (first | with_reducible assumption | with_reducible apply State.gateShow_keeps | with_reducible refine Keeps.eachOf ?_ _ _ (fun _ _ _ => ?_))

theorem State.setMvalid_keeps {s₀ : State} {s : State} (v : Bool) (h₀ : Keeps s₀ s) : Keeps s₀ (State.setMvalid s v) := by
  unfold State.setMvalid
  repeat' (first | with_reducible assumption | with_reducible (first | apply State.gatesShow_keeps | apply State.wr_keeps) | split)

end Sys2Proof.Machine
end

