-- ==== Sys2Proof/Laws/KeepsTime.lean ====
section
/-! SUPPORT. What the operations of Machine/Time.lean keep: the queue, the canonical form of the stores, every burnt fuse. -/

namespace Sys2Proof.Machine

theorem State.tmuReject_keeps {s₀ : State} {s : State} (h₀ : Keeps s₀ s) : Keeps s₀ (State.tmuReject s) := by
  unfold State.tmuReject
  repeat' (first | with_reducible assumption | with_reducible (first | apply State.sat_keeps | apply State.wr_keeps))

theorem State.incrReject_keeps {s₀ : State} {s : State} (h₀ : Keeps s₀ s) : Keeps s₀ (State.incrReject s) := by
  unfold State.incrReject
  repeat' (first | with_reducible assumption | with_reducible (first | apply State.sat_keeps | apply State.wr_keeps))

theorem State.tmuPush_keeps {s₀ : State} {s : State} (c : TmuCmd) (h₀ : Keeps s₀ s) : Keeps s₀ (State.tmuPush s c) := by
  unfold State.tmuPush
  repeat' (first | with_reducible assumption | (with_reducible refine Keeps.upd ?_ rfl; first | with_reducible assumption))

theorem State.cmdSet_keeps {s₀ : State} {s : State} (h₀ : Keeps s₀ s) : Keeps s₀ (State.cmdSet s) := by
  unfold State.cmdSet
  repeat' (first | with_reducible assumption | with_reducible (first | apply State.tmuPush_keeps | apply State.tmuReject_keeps) | split)

theorem State.cmdStep_keeps {s₀ : State} {s : State} (h₀ : Keeps s₀ s) : Keeps s₀ (State.cmdStep s) := by
  unfold State.cmdStep
  repeat' (first | with_reducible assumption | with_reducible apply State.tmuPush_keeps)

theorem State.cmdSlew_keeps {s₀ : State} {s : State} (h₀ : Keeps s₀ s) : Keeps s₀ (State.cmdSlew s) := by
  unfold State.cmdSlew
  repeat' (first | with_reducible assumption | with_reducible (first | apply State.incrReject_keeps | apply State.tmuPush_keeps) | with_reducible refine Keeps.ofIte (fun _ => ?_) (fun _ => ?_))

theorem State.cmdSnap_keeps {s₀ : State} {s : State} (h₀ : Keeps s₀ s) : Keeps s₀ (State.cmdSnap s) := by
  unfold State.cmdSnap
  repeat' (first | with_reducible assumption | (with_reducible refine Keeps.upd ?_ rfl; first | with_reducible assumption))

theorem State.tmuCtrlWrite_keeps {s₀ : State} {s : State} (w : Nat) (h₀ : Keeps s₀ s) : Keeps s₀ (State.tmuCtrlWrite s w) := by
  unfold State.tmuCtrlWrite
  repeat' (first | with_reducible assumption | with_reducible (first | apply State.cmdSet_keeps | apply State.cmdSlew_keeps | apply State.cmdSnap_keeps | apply State.cmdStep_keeps | apply State.tmuReject_keeps | apply State.writeReg_keeps) | with_reducible refine Keeps.whenIf ?_ _ _ (fun _ _ => ?_) | split)

theorem State.tmuIncrWrite_keeps {s₀ : State} {s : State} (w : Nat) (h₀ : Keeps s₀ s) : Keeps s₀ (State.tmuIncrWrite s w) := by
  unfold State.tmuIncrWrite
  repeat' (first | with_reducible assumption | with_reducible refine Keeps.ofIte (fun _ => ?_) (fun _ => ?_) | (with_reducible refine Keeps.upd ?_ rfl; first | with_reducible assumption | with_reducible (first | apply State.incrReject_keeps | apply State.wr_keeps) | (with_reducible refine Keeps.upd ?_ rfl; first | with_reducible assumption | with_reducible (first | apply State.incrReject_keeps | apply State.wr_keeps))))

theorem State.tick_keeps {s₀ : State} {s : State} (h₀ : Keeps s₀ s) : Keeps s₀ (State.tick s) := by
  unfold State.tick
  repeat' (first | with_reducible assumption | (with_reducible refine Keeps.upd ?_ rfl; first | with_reducible assumption) | split)

theorem State.stepped_keeps {s₀ : State} {s : State} (h₀ : Keeps s₀ s) : Keeps s₀ (State.stepped s) := by
  unfold State.stepped
  repeat' (first | with_reducible assumption | with_reducible (first | apply State.wr_keeps | apply State.wrap_keeps))

theorem State.tmuPop_keeps {s₀ : State} {s : State} (h₀ : Keeps s₀ s) : Keeps s₀ (State.tmuPop s) := by
  unfold State.tmuPop
  repeat' (first | with_reducible assumption | (with_reducible refine Keeps.upd ?_ rfl; first | with_reducible assumption))

theorem State.applySet_keeps {s₀ : State} {s : State} (t : Wide) (h₀ : Keeps s₀ s) : Keeps s₀ (State.applySet s t) := by
  unfold State.applySet
  repeat' (first | with_reducible assumption | (with_reducible refine Keeps.upd ?_ rfl; first | with_reducible assumption | with_reducible (first | apply State.gatesShow_keeps | apply State.stepped_keeps | apply State.wr_keeps)))

theorem State.applyStep_keeps {s₀ : State} {s : State} (d : Int) (h₀ : Keeps s₀ s) : Keeps s₀ (State.applyStep s d) := by
  unfold State.applyStep
  repeat' (first | with_reducible assumption | with_reducible refine Keeps.ofIte (fun _ => ?_) (fun _ => ?_) | (with_reducible refine Keeps.upd ?_ rfl; first | with_reducible assumption | with_reducible (first | apply State.gatesShow_keeps | apply State.stepped_keeps | apply State.tmuReject_keeps)))

theorem State.applySlew_keeps {s₀ : State} {s : State} (ofs : Int) (ticks : Nat) (h₀ : Keeps s₀ s) : Keeps s₀ (State.applySlew s ofs ticks) := by
  unfold State.applySlew
  repeat' (first | with_reducible assumption | (with_reducible refine Keeps.upd ?_ rfl; first | with_reducible assumption | with_reducible apply State.wr_keeps))

theorem State.takeSnap_keeps {s₀ : State} {s : State} (h₀ : Keeps s₀ s) : Keeps s₀ (State.takeSnap s) := by
  unfold State.takeSnap
  repeat' (first | with_reducible assumption | (with_reducible refine Keeps.upd ?_ rfl; first | with_reducible assumption | with_reducible apply State.wr_keeps))

theorem State.setLine_keeps {s₀ : State} {s : State} (c : Nat) (x : Bool) (h₀ : Keeps s₀ s) : Keeps s₀ (State.setLine s c x) := by
  unfold State.setLine
  repeat' (first | with_reducible assumption | (with_reducible refine Keeps.upd ?_ rfl; first | with_reducible assumption))

theorem State.compareAct_keeps {s₀ : State} {s : State} (c : Nat) (h₀ : Keeps s₀ s) : Keeps s₀ (State.compareAct s c) := by
  unfold State.compareAct
  repeat' (first | with_reducible assumption | with_reducible (first | apply State.arm_keeps | apply State.setLine_keeps) | split)

theorem State.comparePulseEnd_keeps {s₀ : State} {s : State} (c : Nat) (h₀ : Keeps s₀ s) : Keeps s₀ (State.comparePulseEnd s c) := by
  unfold State.comparePulseEnd
  repeat' (first | with_reducible assumption | with_reducible (first | apply State.disarm_keeps | apply State.setLine_keeps) | split)

theorem State.compareAdvance_keeps {s₀ : State} {s : State} (c : Nat) (h₀ : Keeps s₀ s) : Keeps s₀ (State.compareAdvance s c) := by
  unfold State.compareAdvance
  repeat' (first | with_reducible assumption | (with_reducible refine Keeps.upd ?_ rfl; first | with_reducible assumption | with_reducible apply State.wr_keeps))

theorem State.compareFire_keeps {s₀ : State} {s : State} (c : Nat) (h₀ : Keeps s₀ s) : Keeps s₀ (State.compareFire s c) := by
  unfold State.compareFire
  repeat' (first | with_reducible assumption | with_reducible (first | apply State.compareAct_keeps | apply State.compareAdvance_keeps | apply State.irq_keeps | apply State.wr_keeps) | split)

theorem State.compareWrite_keeps {s₀ : State} {s : State} (off : Nat) (w : Nat) (c : Nat) (h₀ : Keeps s₀ s) : Keeps s₀ (State.compareWrite s off w c) := by
  unfold State.compareWrite
  repeat' (first | with_reducible assumption | with_reducible refine Keeps.ofIte (fun _ => ?_) (fun _ => ?_) | (with_reducible refine Keeps.upd ?_ rfl; first | with_reducible assumption | with_reducible apply State.writeReg_keeps))

theorem State.ppsCapture_keeps {s₀ : State} {s : State} (i : Nat) (ago : Nat) (h₀ : Keeps s₀ s) : Keeps s₀ (State.ppsCapture s i ago) := by
  unfold State.ppsCapture
  repeat' (first | with_reducible assumption | with_reducible apply State.wr_keeps | split)

theorem State.ppsEdge_keeps {s₀ : State} {s : State} (i : Nat) (rise : Bool) (n : Nat) (h₀ : Keeps s₀ s) : Keeps s₀ (State.ppsEdge s i rise n) := by
  unfold State.ppsEdge
  repeat' (first | with_reducible assumption | with_reducible refine Keeps.ofIte (fun _ => ?_) (fun _ => ?_) | (with_reducible refine Keeps.upd ?_ rfl; first | with_reducible assumption | with_reducible (first | apply State.arm_keeps | apply State.causeOff_keeps | apply State.ppsCapture_keeps | apply State.sat_keeps | apply State.wr_keeps | apply State.wrap_keeps) | (with_reducible refine Keeps.upd ?_ rfl; first | with_reducible assumption | with_reducible (first | apply State.arm_keeps | apply State.causeOff_keeps | apply State.ppsCapture_keeps | apply State.sat_keeps | apply State.wr_keeps | apply State.wrap_keeps))))

theorem State.ppsLos_keeps {s₀ : State} {s : State} (i : Nat) (h₀ : Keeps s₀ s) : Keeps s₀ (State.ppsLos s i) := by
  unfold State.ppsLos
  repeat' (first | with_reducible assumption | with_reducible (first | apply State.causeOn_keeps | apply State.wr_keeps) | split)

theorem State.ppsCfgWrite_keeps {s₀ : State} {s : State} (off : Nat) (w : Nat) (i : Nat) (h₀ : Keeps s₀ s) : Keeps s₀ (State.ppsCfgWrite s off w i) := by
  unfold State.ppsCfgWrite
  repeat' (first | with_reducible assumption | with_reducible (first | apply State.arm_keeps | apply State.disarm_keeps | apply State.writeReg_keeps) | with_reducible refine Keeps.ofIte (fun _ => ?_) (fun _ => ?_))

theorem State.ppsOutEdge_keeps {s₀ : State} {s : State} (o : Nat) (h₀ : Keeps s₀ s) : Keeps s₀ (State.ppsOutEdge s o) := by
  unfold State.ppsOutEdge
  repeat' (first | with_reducible assumption | with_reducible refine Keeps.ofIte (fun _ => ?_) (fun _ => ?_) | (with_reducible refine Keeps.upd ?_ rfl; first | with_reducible assumption | with_reducible apply State.arm_keeps | (with_reducible refine Keeps.upd ?_ rfl; first | with_reducible assumption | with_reducible apply State.arm_keeps)))

theorem State.ppsOutTrail_keeps {s₀ : State} {s : State} (o : Nat) (h₀ : Keeps s₀ s) : Keeps s₀ (State.ppsOutTrail s o) := by
  unfold State.ppsOutTrail
  repeat' (first | with_reducible assumption | (with_reducible refine Keeps.upd ?_ rfl; first | with_reducible assumption | with_reducible apply State.disarm_keeps | (with_reducible refine Keeps.upd ?_ rfl; first | with_reducible assumption | with_reducible apply State.disarm_keeps)) | split)

theorem State.tsqShow_keeps {s₀ : State} {s : State} (p : Nat) (h₀ : Keeps s₀ s) : Keeps s₀ (State.tsqShow s p) := by
  unfold State.tsqShow
  repeat' (first | with_reducible assumption | with_reducible apply State.wr_keeps)

theorem State.tsqPush_keeps {s₀ : State} {s : State} (p : Nat) (e : TwoStep) (h₀ : Keeps s₀ s) : Keeps s₀ (State.tsqPush s p e) := by
  unfold State.tsqPush
  repeat' (first | with_reducible assumption | with_reducible refine Keeps.ofIte (fun _ => ?_) (fun _ => ?_) | (with_reducible refine Keeps.upd ?_ rfl; first | with_reducible assumption | with_reducible (first | apply State.tsqShow_keeps | apply State.wr_keeps)))

theorem State.tsqPop_keeps {s₀ : State} {s : State} (p : Nat) (h₀ : Keeps s₀ s) : Keeps s₀ (State.tsqPop s p) := by
  unfold State.tsqPop
  repeat' (first | with_reducible assumption | (with_reducible refine Keeps.upd ?_ rfl; first | with_reducible assumption | with_reducible apply State.tsqShow_keeps))

theorem State.tmuUtcWrite_keeps {s₀ : State} {s : State} (w : Nat) (h₀ : Keeps s₀ s) : Keeps s₀ (State.tmuUtcWrite s w) := by
  unfold State.tmuUtcWrite
  repeat' (first | with_reducible assumption | (with_reducible refine Keeps.upd ?_ rfl; first | with_reducible assumption | with_reducible (first | apply State.tmuReject_keeps | apply State.writeReg_keeps)) | split)

theorem State.leapApply_keeps {s₀ : State} {s : State} (h₀ : Keeps s₀ s) : Keeps s₀ (State.leapApply s) := by
  unfold State.leapApply
  repeat' (first | with_reducible assumption | with_reducible apply State.wr_keeps | split)

theorem State.tmuWrite_keeps {s₀ : State} {s : State} (off : Nat) (w : Nat) (h₀ : Keeps s₀ s) : KeepsOpt s₀ (State.tmuWrite s off w) := by
  unfold State.tmuWrite
  repeat' (first | with_reducible assumption | with_reducible (first | apply State.compareWrite_keeps | apply State.ppsCfgWrite_keeps | apply State.tmuCtrlWrite_keeps | apply State.tmuIncrWrite_keeps | apply State.tmuUtcWrite_keeps) | with_reducible apply KeepsOpt.ofSome | exact KeepsOpt.ofNone | split)

theorem execTimeTick_keeps {s₀ : State} {s : State} (h₀ : Keeps s₀ s) : KeepsOut s₀ (execTimeTick s) := by
  unfold execTimeTick
  repeat' (first | with_reducible assumption | with_reducible apply State.tick_keeps | with_reducible apply KeepsOut.ofNext)

theorem execIncrementWrite_keeps {s₀ : State} (w : Word) {s : State} (h₀ : Keeps s₀ s) : KeepsOut s₀ (execIncrementWrite w s) := by
  unfold execIncrementWrite
  repeat' (first | with_reducible assumption | with_reducible apply State.tmuIncrWrite_keeps | with_reducible apply KeepsOut.ofNext)

theorem execSetTime_keeps {s₀ : State} {s : State} (h₀ : Keeps s₀ s) : KeepsOut s₀ (execSetTime s) := by
  unfold execSetTime
  repeat' (first | with_reducible assumption | with_reducible apply State.cmdSet_keeps | with_reducible apply KeepsOut.ofNext)

theorem execStep_keeps {s₀ : State} {s : State} (h₀ : Keeps s₀ s) : KeepsOut s₀ (execStep s) := by
  unfold execStep
  repeat' (first | with_reducible assumption | with_reducible apply State.cmdStep_keeps | with_reducible apply KeepsOut.ofNext)

theorem execSlew_keeps {s₀ : State} {s : State} (h₀ : Keeps s₀ s) : KeepsOut s₀ (execSlew s) := by
  unfold execSlew
  repeat' (first | with_reducible assumption | with_reducible apply State.cmdSlew_keeps | with_reducible apply KeepsOut.ofNext)

theorem execSnap_keeps {s₀ : State} {s : State} (h₀ : Keeps s₀ s) : KeepsOut s₀ (execSnap s) := by
  unfold execSnap
  repeat' (first | with_reducible assumption | with_reducible apply State.cmdSnap_keeps | with_reducible apply KeepsOut.ofNext)

theorem execSetApply_keeps {s₀ : State} {s : State} (h₀ : Keeps s₀ s) : KeepsOut s₀ (execSetApply s) := by
  unfold execSetApply
  repeat' (first | with_reducible assumption | with_reducible (first | apply State.applySet_keeps | apply State.tmuPop_keeps) | with_reducible apply KeepsOut.ofNext | split)

theorem execStepApply_keeps {s₀ : State} {s : State} (h₀ : Keeps s₀ s) : KeepsOut s₀ (execStepApply s) := by
  unfold execStepApply
  repeat' (first | with_reducible assumption | with_reducible (first | apply State.applyStep_keeps | apply State.tmuPop_keeps) | with_reducible apply KeepsOut.ofNext | split)

theorem execSlewApply_keeps {s₀ : State} {s : State} (h₀ : Keeps s₀ s) : KeepsOut s₀ (execSlewApply s) := by
  unfold execSlewApply
  repeat' (first | with_reducible assumption | with_reducible (first | apply State.applySlew_keeps | apply State.tmuPop_keeps) | with_reducible apply KeepsOut.ofNext | split)

theorem execSnapApply_keeps {s₀ : State} {s : State} (h₀ : Keeps s₀ s) : KeepsOut s₀ (execSnapApply s) := by
  unfold execSnapApply
  repeat' (first | with_reducible assumption | with_reducible apply State.takeSnap_keeps | with_reducible apply KeepsOut.ofNext | split)

theorem execSlewEnd_keeps {s₀ : State} {s : State} (h₀ : Keeps s₀ s) : KeepsOut s₀ (execSlewEnd s) := by
  unfold execSlewEnd
  repeat' (first | with_reducible assumption | with_reducible apply State.wr_keeps | with_reducible apply KeepsOut.ofNext | split)

theorem execCompareFire_keeps {s₀ : State} (c : Fin 8) {s : State} (h₀ : Keeps s₀ s) : KeepsOut s₀ (execCompareFire c s) := by
  unfold execCompareFire
  repeat' (first | with_reducible assumption | with_reducible apply State.compareFire_keeps | with_reducible apply KeepsOut.ofNext)

theorem execComparePulseEnd_keeps {s₀ : State} (c : Fin 8) {s : State} (h₀ : Keeps s₀ s) : KeepsOut s₀ (execComparePulseEnd c s) := by
  unfold execComparePulseEnd
  repeat' (first | with_reducible assumption | with_reducible apply State.comparePulseEnd_keeps | with_reducible apply KeepsOut.ofNext)

theorem execPpsInputEdge_keeps {s₀ : State} (i : Fin 2) (rise : Bool) (n : Nat) {s : State} (h₀ : Keeps s₀ s) : KeepsOut s₀ (execPpsInputEdge i rise n s) := by
  unfold execPpsInputEdge
  repeat' (first | with_reducible assumption | with_reducible apply State.ppsEdge_keeps | with_reducible apply KeepsOut.ofNext)

theorem execPpsInputLos_keeps {s₀ : State} (i : Fin 2) {s : State} (h₀ : Keeps s₀ s) : KeepsOut s₀ (execPpsInputLos i s) := by
  unfold execPpsInputLos
  repeat' (first | with_reducible assumption | with_reducible apply State.ppsLos_keeps | with_reducible apply KeepsOut.ofNext)

theorem execPpsOutputEdge_keeps {s₀ : State} (o : Fin 2) {s : State} (h₀ : Keeps s₀ s) : KeepsOut s₀ (execPpsOutputEdge o s) := by
  unfold execPpsOutputEdge
  repeat' (first | with_reducible assumption | with_reducible apply State.ppsOutEdge_keeps | with_reducible apply KeepsOut.ofNext)

theorem execPpsOutputTrail_keeps {s₀ : State} (o : Fin 2) {s : State} (h₀ : Keeps s₀ s) : KeepsOut s₀ (execPpsOutputTrail o s) := by
  unfold execPpsOutputTrail
  repeat' (first | with_reducible assumption | with_reducible apply State.ppsOutTrail_keeps | with_reducible apply KeepsOut.ofNext)

theorem execLeapApply_keeps {s₀ : State} {s : State} (h₀ : Keeps s₀ s) : KeepsOut s₀ (execLeapApply s) := by
  unfold execLeapApply
  repeat' (first | with_reducible assumption | with_reducible apply State.leapApply_keeps | with_reducible apply KeepsOut.ofNext)

theorem execTwoStepPop_keeps {s₀ : State} (p : Fin 12) {s : State} (h₀ : Keeps s₀ s) : KeepsOut s₀ (execTwoStepPop p s) := by
  unfold execTwoStepPop
  repeat' (first | with_reducible assumption | with_reducible apply KeepsOut.ofNext | (with_reducible refine Keeps.upd ?_ rfl; first | with_reducible assumption | with_reducible apply State.tsqPop_keeps | (with_reducible refine Keeps.upd ?_ rfl; first | with_reducible assumption | with_reducible apply State.tsqPop_keeps)))

end Sys2Proof.Machine
end

