-- ==== Sys2Proof/Laws/KeepsEgress.lean ====
section
/-! SUPPORT. What the operations of Machine/Egress.lean keep: the queue, the canonical form of the stores, every burnt fuse. -/

namespace Sys2Proof.Machine

theorem State.trkCount_keeps {s₀ : State} {s : State} (t : Nat) (i : Nat) (h₀ : Keeps s₀ s) : Keeps s₀ (State.trkCount s t i) := by
  unfold State.trkCount
  repeat' (first | with_reducible assumption | with_reducible apply State.sat_keeps)

theorem State.startEpoch_keeps {s₀ : State} {s : State} (t : Nat) (epoch : Nat) (h₀ : Keeps s₀ s) : Keeps s₀ (State.startEpoch s t epoch) := by
  unfold State.startEpoch
  repeat' ((with_reducible refine Keeps.upd ?_ rfl; first | with_reducible assumption | with_reducible (first | apply State.setTrunk_keeps | apply State.wr_keeps)))

theorem State.rollEpoch_keeps {s₀ : State} {s : State} (t : Nat) (h₀ : Keeps s₀ s) : Keeps s₀ (State.rollEpoch s t) := by
  unfold State.rollEpoch
  repeat' (first | with_reducible assumption | with_reducible apply State.startEpoch_keeps | split)

theorem State.guardShow_keeps {s₀ : State} {s : State} (p : Nat) (h₀ : Keeps s₀ s) : Keeps s₀ (State.guardShow s p) := by
  unfold State.guardShow
  repeat' (first | with_reducible assumption | with_reducible apply State.wr_keeps)

theorem State.setTokens_keeps {s₀ : State} {s : State} (q : Nat) (v : Int) (h₀ : Keeps s₀ s) : Keeps s₀ (State.setTokens s q v) := by
  unfold State.setTokens
  repeat' ((with_reducible refine Keeps.upd ?_ rfl; first | with_reducible assumption))

theorem State.chargeShaper_keeps {s₀ : State} {s : State} (q : Nat) (len : Nat) (h₀ : Keeps s₀ s) : Keeps s₀ (State.chargeShaper s q len) := by
  unfold State.chargeShaper
  repeat' (first | with_reducible assumption | with_reducible apply State.setTokens_keeps | split)

theorem State.correct_keeps {s₀ : State} {s : State} (p : Nat) (c : Copy) (h₀ : Keeps s₀ s) : Keeps s₀ (State.correct s p c).1 := by
  unfold State.correct
  repeat' (first | with_reducible refine Keeps.ofItePair (fun _ => ?_) (fun _ => ?_) | (with_reducible refine Keeps.upd ?_ rfl; first | with_reducible assumption | with_reducible apply State.sat_keeps))

theorem State.kl3Wire_keeps {s₀ : State} {s : State} (t : Nat) (c : Copy) (h₀ : Keeps s₀ s) : Keeps s₀ (State.kl3Wire s t c).1 := by
  unfold State.kl3Wire
  repeat' (first | (with_reducible refine Keeps.upd ?_ rfl; first | with_reducible assumption | with_reducible (first | apply State.rollEpoch_keeps | apply State.setTrunk_keeps)) | split)

theorem State.kl2Count_keeps {s₀ : State} {s : State} (j : Nat) (h₀ : Keeps s₀ s) : Keeps s₀ (State.kl2Count s j) := by
  unfold State.kl2Count
  repeat' (first | with_reducible assumption | with_reducible apply State.sat_keeps)

theorem State.kl2Corr_keeps {s₀ : State} {s : State} (corr : Nat) (h₀ : Keeps s₀ s) : Keeps s₀ (State.kl2Corr s corr).1 := by
  unfold State.kl2Corr
  repeat' (first | with_reducible assumption | with_reducible apply State.kl2Count_keeps | with_reducible refine Keeps.ofItePair (fun _ => ?_) (fun _ => ?_))

theorem State.kl2Wire_keeps {s₀ : State} {s : State} (c : Copy) (h₀ : Keeps s₀ s) : Keeps s₀ (State.kl2Wire s c).1 := by
  unfold State.kl2Wire
  repeat' (first | with_reducible assumption | (extract_lets +onlyGivenNames x; first | (refine (?_ : Keeps s₀ x → _) ?_; rotate_left; subst x; rotate_left; intro hx; clear_value x) | (refine (?_ : Keeps s₀ x.1 → _) ?_; rotate_left; subst x; rotate_left; intro hx; clear_value x) | clear_value x) | with_reducible (first | apply State.kl2Corr_keeps | apply State.kl2Count_keeps) | split)

theorem State.edgeAge_keeps {s₀ : State} {s : State} (p : Nat) (c : Copy) (h₀ : Keeps s₀ s) : Keeps s₀ (State.edgeAge s p c) := by
  unfold State.edgeAge
  repeat' (first | with_reducible assumption | with_reducible apply State.raise_keeps | split)

theorem State.ptpEgress_keeps {s₀ : State} {s : State} (p : Nat) (c : Copy) (f : List Byte) (h₀ : Keeps s₀ s) : Keeps s₀ (State.ptpEgress s p c f).1 := by
  unfold State.ptpEgress
  repeat' (first | (with_reducible refine Keeps.upd ?_ rfl; first | with_reducible assumption | with_reducible apply State.tsqPush_keeps) | split)

theorem State.egressBytes_keeps {s₀ : State} {s : State} (p : Nat) (c : Copy) (h₀ : Keeps s₀ s) : Keeps s₀ (State.egressBytes s p c).1 := by
  unfold State.egressBytes
  repeat' (first | with_reducible assumption | with_reducible (first | apply State.edgeAge_keeps | apply State.kl2Wire_keeps | apply State.kl3Wire_keeps | apply State.ptpEgress_keeps | apply State.sat_keeps | apply State.wrap_keeps) | with_reducible refine Keeps.ofItePair (fun _ => ?_) (fun _ => ?_))

theorem State.chargeCredit_keeps {s₀ : State} {s : State} (p : Nat) (c : Copy) (h₀ : Keeps s₀ s) : Keeps s₀ (State.chargeCredit s p c) := by
  unfold State.chargeCredit
  repeat' (first | (with_reducible refine Keeps.upd ?_ rfl; first | with_reducible assumption | with_reducible (first | apply State.setTrunk_keeps | apply State.wrap_keeps)) | split)

theorem State.trunkOut_keeps {s₀ : State} {s : State} (p : Nat) (w : List Byte) (h₀ : Keeps s₀ s) : Keeps s₀ (State.trunkOut s p w) := by
  unfold State.trunkOut
  repeat' (first | (with_reducible refine Keeps.upd ?_ rfl; first | with_reducible assumption | with_reducible apply State.linkSend_keeps) | split)

theorem State.startCopy_keeps {s₀ : State} {s : State} (p : Nat) (c : Copy) (h₀ : Keeps s₀ s) : Keeps s₀ (State.startCopy s p c) := by
  unfold State.startCopy
  repeat' (first | with_reducible assumption | with_reducible (first | apply State.arm_keeps | apply State.chargeCredit_keeps | apply State.chargeShaper_keeps | apply State.correct_keeps | apply State.egressBytes_keeps | apply State.releaseCopy_keeps | apply State.setSending_keeps | apply State.setWire_keeps | apply State.trunkOut_keeps) | with_reducible refine Keeps.whenIf ?_ _ _ (fun _ _ => ?_) | (first | with_reducible refine Keeps.ofPair (by assumption) ?_) | split)

theorem State.completeSend_keeps {s₀ : State} {s : State} (p : Nat) (h₀ : Keeps s₀ s) : Keeps s₀ (State.completeSend s p) := by
  unfold State.completeSend
  repeat' (first | with_reducible assumption | with_reducible (first | apply State.releaseCopy_keeps | apply State.setSending_keeps) | split)

end Sys2Proof.Machine
end

