-- ==== Sys2Proof/Laws/KeepsRings.lean ====
section
/-! SUPPORT. What the operations of Machine/Rings.lean keep: the queue, the canonical form of the stores, every burnt fuse. -/

namespace Sys2Proof.Machine

theorem State.setSince_keeps {s₀ : State} {s : State} (v : Nat) (x : Option Nat) (h₀ : Keeps s₀ s) : Keeps s₀ (State.setSince s v x) := by
  unfold State.setSince
  repeat' ((with_reducible refine Keeps.upd ?_ rfl; first | with_reducible assumption))

theorem State.steer_keeps {s₀ : State} {s : State} (v : Nat) (x : Nat) (h₀ : Keeps s₀ s) : Keeps s₀ (State.steer s v x) := by
  unfold State.steer
  repeat' (first | with_reducible assumption | with_reducible apply State.wr_keeps)

theorem State.scanEntry_keeps {s₀ : State} {s : State} (v : Nat) (h₀ : Keeps s₀ s) : Keeps s₀ (State.scanEntry s v) := by
  unfold State.scanEntry
  repeat' (first | with_reducible assumption | with_reducible (first | apply State.ddCount_keeps | apply State.steer_keeps) | with_reducible refine Keeps.ofIte (fun _ => ?_) (fun _ => ?_) | split)

theorem State.scan_keeps {s₀ : State} {s : State} (h₀ : Keeps s₀ s) : Keeps s₀ (State.scan s) := by
  unfold State.scan
  repeat' (first | with_reducible assumption | with_reducible apply State.scanEntry_keeps | with_reducible refine Keeps.eachOf ?_ _ _ (fun _ _ _ => ?_) | split)

theorem State.holdCheck_keeps {s₀ : State} {s : State} (v : Nat) (h₀ : Keeps s₀ s) : Keeps s₀ (State.holdCheck s v) := by
  unfold State.holdCheck
  repeat' (first | with_reducible assumption | with_reducible apply State.setSince_keeps | split)

theorem State.holdsCheck_keeps {s₀ : State} {s : State} (h₀ : Keeps s₀ s) : Keeps s₀ (State.holdsCheck s) := by
  unfold State.holdsCheck
  repeat' (first | with_reducible assumption | with_reducible apply State.holdCheck_keeps | with_reducible refine Keeps.eachOf ?_ _ _ (fun _ _ _ => ?_))

theorem State.oweMessages_keeps {s₀ : State} {s : State} (h₀ : Keeps s₀ s) : Keeps s₀ (State.oweMessages s) := by
  unfold State.oweMessages
  repeat' ((with_reducible refine Keeps.upd ?_ rfl; first | with_reducible assumption))

theorem State.reachShow_keeps {s₀ : State} {s : State} (h₀ : Keeps s₀ s) : Keeps s₀ (State.reachShow s) := by
  unfold State.reachShow
  repeat' (first | with_reducible assumption | with_reducible (first | apply State.holdsCheck_keeps | apply State.oweMessages_keeps | apply State.wr_keeps) | with_reducible refine Keeps.whenIf ?_ _ _ (fun _ _ => ?_))

theorem State.setHeard_keeps {s₀ : State} {s : State} (t : Nat) (r : Option Nat) (lost : Bool) (h₀ : Keeps s₀ s) : Keeps s₀ (State.setHeard s t r lost) := by
  unfold State.setHeard
  repeat' ((with_reducible refine Keeps.upd ?_ rfl; first | with_reducible assumption | with_reducible apply State.arm_keeps | (with_reducible refine Keeps.upd ?_ rfl; first | with_reducible assumption | with_reducible apply State.arm_keeps)))

theorem State.ringTrunkChanged_keeps {s₀ : State} {s : State} (t : Nat) (h₀ : Keeps s₀ s) : Keeps s₀ (State.ringTrunkChanged s t) := by
  unfold State.ringTrunkChanged
  repeat' (first | with_reducible assumption | with_reducible (first | apply State.reachShow_keeps | apply State.setHeard_keeps))

theorem State.ringCfgWrite_keeps {s₀ : State} {s : State} (w : Nat) (h₀ : Keeps s₀ s) : Keeps s₀ (State.ringCfgWrite s w) := by
  unfold State.ringCfgWrite
  repeat' (first | with_reducible assumption | with_reducible (first | apply State.reachShow_keeps | apply State.setHeard_keeps | apply State.writeReg_keeps) | with_reducible refine Keeps.ofIte (fun _ => ?_) (fun _ => ?_))

theorem State.rsmSend_keeps {s₀ : State} {s : State} (t : Nat) (h₀ : Keeps s₀ s) : Keeps s₀ (State.rsmSend s t) := by
  unfold State.rsmSend
  repeat' (first | (with_reducible refine Keeps.upd ?_ rfl; first | with_reducible assumption | with_reducible (first | apply State.arm_keeps | apply State.kl3Wire_keeps | apply State.linkSend_keeps) | (with_reducible refine Keeps.upd ?_ rfl; first | with_reducible assumption | with_reducible (first | apply State.arm_keeps | apply State.kl3Wire_keeps | apply State.linkSend_keeps))) | split)

theorem State.rsmReject_keeps {s₀ : State} {s : State} (h₀ : Keeps s₀ s) : Keeps s₀ (State.rsmReject s) := by
  unfold State.rsmReject
  repeat' (first | with_reducible assumption | with_reducible apply State.sat_keeps)

theorem State.rsmReceive_keeps {s₀ : State} {s : State} (t : Nat) (payload : List Byte) (h₀ : Keeps s₀ s) : Keeps s₀ (State.rsmReceive s t payload) := by
  unfold State.rsmReceive
  repeat' (first | with_reducible assumption | with_reducible (first | apply State.fault_keeps | apply State.reachShow_keeps | apply State.rsmReject_keeps | apply State.setHeard_keeps | apply State.wr_keeps) | with_reducible refine Keeps.ofIte (fun _ => ?_) (fun _ => ?_))

theorem State.rsmLoss_keeps {s₀ : State} {s : State} (t : Nat) (h₀ : Keeps s₀ s) : Keeps s₀ (State.rsmLoss s t) := by
  unfold State.rsmLoss
  repeat' (first | (with_reducible refine Keeps.upd ?_ rfl; first | with_reducible assumption | with_reducible (first | apply State.fault_keeps | apply State.reachShow_keeps | apply State.wr_keeps)) | split)

theorem State.restoreExpiry_keeps {s₀ : State} {s : State} (v : Nat) (h₀ : Keeps s₀ s) : Keeps s₀ (State.restoreExpiry s v) := by
  unfold State.restoreExpiry
  repeat' (first | with_reducible assumption | with_reducible apply State.scan_keeps | split)

theorem execRsmSend_keeps {s₀ : State} (t : Fin 2) {s : State} (h₀ : Keeps s₀ s) : KeepsOut s₀ (execRsmSend t s) := by
  unfold execRsmSend
  repeat' (first | with_reducible assumption | with_reducible apply State.rsmSend_keeps | with_reducible apply KeepsOut.ofNext)

theorem execRsmReceive_keeps {s₀ : State} (t : Fin 4) (payload : List Byte) {s : State} (h₀ : Keeps s₀ s) : KeepsOut s₀ (execRsmReceive t payload s) := by
  unfold execRsmReceive
  repeat' (first | with_reducible assumption | with_reducible apply State.rsmReceive_keeps | with_reducible apply KeepsOut.ofNext)

theorem execRsmLoss_keeps {s₀ : State} (t : Fin 2) {s : State} (h₀ : Keeps s₀ s) : KeepsOut s₀ (execRsmLoss t s) := by
  unfold execRsmLoss
  repeat' (first | with_reducible assumption | with_reducible apply State.rsmLoss_keeps | with_reducible apply KeepsOut.ofNext)

theorem execSteeringScan_keeps {s₀ : State} {s : State} (h₀ : Keeps s₀ s) : KeepsOut s₀ (execSteeringScan s) := by
  unfold execSteeringScan
  repeat' (first | with_reducible assumption | with_reducible apply State.scan_keeps | with_reducible apply KeepsOut.ofNext)

theorem execRestoreExpiry_keeps {s₀ : State} (v : Fin 168) {s : State} (h₀ : Keeps s₀ s) : KeepsOut s₀ (execRestoreExpiry v s) := by
  unfold execRestoreExpiry
  repeat' (first | with_reducible assumption | with_reducible apply State.restoreExpiry_keeps | with_reducible apply KeepsOut.ofNext)

end Sys2Proof.Machine
end

