-- ==== Sys2Proof/Laws/KeepsSched.lean ====
section
/-! SUPPORT. What the operations of Machine/Sched.lean keep: the queue, the canonical form of the stores, every burnt fuse. -/

namespace Sys2Proof.Machine

theorem State.countUnfit_keeps {s₀ : State} {s : State} (p : Nat) (c : Nat) (h₀ : Keeps s₀ s) : Keeps s₀ (State.countUnfit s p c) := by
  unfold State.countUnfit
  repeat' (first | (with_reducible refine Keeps.upd ?_ rfl; first | with_reducible assumption | with_reducible (first | apply State.sat_keeps | apply State.setQueue_keeps)) | split)

theorem State.setDeficits_keeps {s₀ : State} {s : State} (p : Nat) (d : Tab Nat) (h₀ : Keeps s₀ s) : Keeps s₀ (State.setDeficits s p d) := by
  unfold State.setDeficits
  repeat' ((with_reducible refine Keeps.upd ?_ rfl; first | with_reducible assumption))

theorem State.select_keeps {s₀ : State} {s : State} (p : Nat) (h₀ : Keeps s₀ s) : Keeps s₀ (State.select s p).1 := by
  unfold State.select
  repeat' (first | (with_reducible refine Keeps.upd ?_ rfl; first | with_reducible assumption | with_reducible apply State.setDeficits_keeps) | split)

theorem State.breakDrop_keeps {s₀ : State} {s : State} (p : Nat) (h₀ : Keeps s₀ s) : Keeps s₀ (State.breakDrop s p) := by
  unfold State.breakDrop
  repeat' (first | with_reducible assumption | with_reducible (first | apply State.ddCount_keeps | apply State.releaseCopy_keeps | apply State.setQueue_keeps) | with_reducible refine Keeps.eachOf ?_ _ _ (fun _ _ _ => ?_))

theorem State.leakCopy_keeps {s₀ : State} {s : State} (c : Copy) (h₀ : Keeps s₀ s) : Keeps s₀ (State.leakCopy s c) := by
  unfold State.leakCopy
  repeat' ((with_reducible refine Keeps.upd ?_ rfl; first | with_reducible assumption | with_reducible (first | apply State.releaseCopy_keeps | apply State.wr_keeps) | (with_reducible refine Keeps.upd ?_ rfl; first | with_reducible assumption | with_reducible (first | apply State.releaseCopy_keeps | apply State.wr_keeps))))

theorem State.launchCopy_keeps {s₀ : State} {s : State} (p : Nat) (x : Copy) (h₀ : Keeps s₀ s) : Keeps s₀ (State.launchCopy s p x) := by
  unfold State.launchCopy
  repeat' (first | with_reducible assumption | with_reducible (first | apply State.ddCount_keeps | apply State.releaseCopy_keeps | apply State.startCopy_keeps) | split)

theorem State.launchEcc_keeps {s₀ : State} {s : State} (p : Nat) (q : Nat) (ecc : Nat) (x : Copy) (l : List Copy) (h₀ : Keeps s₀ s) : Keeps s₀ (State.launchEcc s p q ecc x l) := by
  unfold State.launchEcc
  repeat' (first | with_reducible refine Keeps.eachOf ?_ _ _ (fun _ _ _ => ?_) | (with_reducible refine Keeps.upd ?_ rfl; first | with_reducible assumption | with_reducible (first | apply State.fault_keeps | apply State.launchCopy_keeps | apply State.leakCopy_keeps | apply State.releaseCopy_keeps | apply State.sat_keeps | apply State.setQueue_keeps)) | split)

theorem State.launch_keeps {s₀ : State} {s : State} (p : Nat) (c : Nat) (ecc : Nat) (h₀ : Keeps s₀ s) : Keeps s₀ (State.launch s p c ecc) := by
  unfold State.launch
  repeat' (first | with_reducible assumption | with_reducible apply State.launchEcc_keeps | split)

theorem State.leakAudit_keeps {s₀ : State} {s : State} (h₀ : Keeps s₀ s) : Keeps s₀ (State.leakAudit s) := by
  unfold State.leakAudit
  repeat' ((with_reducible refine Keeps.upd ?_ rfl; first | with_reducible assumption | with_reducible (first | apply State.satBy_keeps | apply State.wr_keeps)))

theorem State.sealSelect_keeps {s₀ : State} {s : State} (t : Nat) (ecc : Nat) (h₀ : Keeps s₀ s) : Keeps s₀ (State.sealSelect s t ecc) := by
  unfold State.sealSelect
  repeat' (first | with_reducible assumption | with_reducible apply State.launch_keeps | split)

theorem State.packetSelect_keeps {s₀ : State} {s : State} (p : Nat) (ecc : Nat) (h₀ : Keeps s₀ s) : Keeps s₀ (State.packetSelect s p ecc) := by
  unfold State.packetSelect
  repeat' (first | with_reducible assumption | (extract_lets +onlyGivenNames x; first | (refine (?_ : Keeps s₀ x → _) ?_; rotate_left; subst x; rotate_left; intro hx; clear_value x) | (refine (?_ : Keeps s₀ x.1 → _) ?_; rotate_left; subst x; rotate_left; intro hx; clear_value x) | clear_value x) | with_reducible (first | apply State.breakDrop_keeps | apply State.countUnfit_keeps | apply State.launch_keeps | apply State.rsmSend_keeps | apply State.sealSelect_keeps | apply State.select_keeps) | with_reducible refine Keeps.eachOf ?_ _ _ (fun _ _ _ => ?_) | (first | with_reducible refine Keeps.ofPair (by assumption) ?_) | split)

theorem State.refillShaper_keeps {s₀ : State} {s : State} (q : Nat) (h₀ : Keeps s₀ s) : Keeps s₀ (State.refillShaper s q) := by
  unfold State.refillShaper
  repeat' ((with_reducible refine Keeps.upd ?_ rfl; first | with_reducible assumption))

theorem State.setPolicer_keeps {s₀ : State} {s : State} (n : Nat) (v : Int) (h₀ : Keeps s₀ s) : Keeps s₀ (State.setPolicer s n v) := by
  unfold State.setPolicer
  repeat' ((with_reducible refine Keeps.upd ?_ rfl; first | with_reducible assumption))

theorem State.refillPolicer_keeps {s₀ : State} {s : State} (n : Nat) (h₀ : Keeps s₀ s) : Keeps s₀ (State.refillPolicer s n) := by
  unfold State.refillPolicer
  repeat' (first | with_reducible assumption | with_reducible apply State.setPolicer_keeps | with_reducible refine Keeps.ofIte (fun _ => ?_) (fun _ => ?_))

theorem State.planSwitch_keeps {s₀ : State} {s : State} (intended : Option Nat) (h₀ : Keeps s₀ s) : Keeps s₀ (State.planSwitch s intended) := by
  unfold State.planSwitch
  repeat' (first | with_reducible refine Keeps.eachOf ?_ _ _ (fun _ _ _ => ?_) | (with_reducible refine Keeps.upd ?_ rfl; first | with_reducible assumption | with_reducible (first | apply State.gatesShow_keeps | apply State.setPolicer_keeps | apply State.wr_keeps | apply State.wrap_keeps)) | split)

theorem State.planSwitchDue_keeps {s₀ : State} {s : State} (h₀ : Keeps s₀ s) : Keeps s₀ (State.planSwitchDue s) := by
  unfold State.planSwitchDue
  repeat' (first | with_reducible assumption | with_reducible apply State.planSwitch_keeps | split)

theorem State.planDeadlineDue_keeps {s₀ : State} {s : State} (h₀ : Keeps s₀ s) : Keeps s₀ (State.planDeadlineDue s) := by
  unfold State.planDeadlineDue
  repeat' (first | with_reducible assumption | with_reducible (first | apply State.planSwitch_keeps | apply State.sat_keeps | apply State.wr_keeps) | split)

theorem State.planTick_keeps {s₀ : State} {s : State} (h₀ : Keeps s₀ s) : Keeps s₀ (State.planTick s) := by
  unfold State.planTick
  repeat' (first | with_reducible assumption | with_reducible (first | apply State.planDeadlineDue_keeps | apply State.planSwitchDue_keeps))

theorem State.refill_keeps {s₀ : State} {s : State} (h₀ : Keeps s₀ s) : Keeps s₀ (State.refill s) := by
  unfold State.refill
  repeat' (first | (extract_lets +onlyGivenNames x; first | (refine (?_ : Keeps s₀ x → _) ?_; rotate_left; subst x; rotate_left; intro hx; clear_value x) | clear_value x) | with_reducible refine Keeps.eachOf ?_ _ _ (fun _ _ _ => ?_) | (with_reducible refine Keeps.upd ?_ rfl; first | with_reducible assumption | with_reducible (first | apply State.planTick_keeps | apply State.refillPolicer_keeps | apply State.refillShaper_keeps)))

theorem State.police_keeps {s₀ : State} {s : State} (n : Nat) (len : Nat) (h₀ : Keeps s₀ s) : Keeps s₀ (State.police s n len).1 := by
  unfold State.police
  repeat' (first | with_reducible assumption | with_reducible apply State.setPolicer_keeps | split)

theorem State.sample_keeps {s₀ : State} {s : State} (h₀ : Keeps s₀ s) : Keeps s₀ (State.sample s) := by
  unfold State.sample
  repeat' (first | with_reducible assumption | with_reducible (first | apply State.arm_keeps | apply State.raise_keeps | apply State.wr_keeps) | with_reducible refine Keeps.eachOf ?_ _ _ (fun _ _ _ => ?_) | split)

theorem State.planStart_keeps {s₀ : State} {s : State} (r : PlanCode × Nat × Nat) (h₀ : Keeps s₀ s) : Keeps s₀ (State.planStart s r) := by
  unfold State.planStart
  repeat' ((with_reducible refine Keeps.upd ?_ rfl; first | with_reducible assumption | with_reducible (first | apply State.disarm_keeps | apply State.wr_keeps) | (with_reducible refine Keeps.upd ?_ rfl; first | with_reducible assumption | with_reducible (first | apply State.disarm_keeps | apply State.wr_keeps))))

theorem State.planCommand_keeps {s₀ : State} {s : State} (run : State → State) (h₀ : Keeps s₀ s) (g_run : ∀ x, Keeps s₀ x → Keeps s₀ (run x)) : Keeps s₀ (State.planCommand s run) := by
  unfold State.planCommand
  repeat' (first | with_reducible assumption | (with_reducible first | apply g_run) | with_reducible (first | apply State.sat_keeps | apply State.wr_keeps) | split)

theorem State.cmdCheck_keeps {s₀ : State} {s : State} (h₀ : Keeps s₀ s) : Keeps s₀ (State.cmdCheck s) := by
  unfold State.cmdCheck
  repeat' (first | with_reducible assumption | with_reducible apply State.planStart_keeps)

theorem State.cmdArm_keeps {s₀ : State} {s : State} (mode : Nat) (h₀ : Keeps s₀ s) : Keeps s₀ (State.cmdArm s mode) := by
  unfold State.cmdArm
  repeat' (first | (with_reducible refine Keeps.upd ?_ rfl; first | with_reducible assumption | with_reducible (first | apply State.armAt_keeps | apply State.planStart_keeps | apply State.wr_keeps)) | split)

theorem State.cmdDisarm_keeps {s₀ : State} {s : State} (h₀ : Keeps s₀ s) : Keeps s₀ (State.cmdDisarm s) := by
  unfold State.cmdDisarm
  repeat' ((with_reducible refine Keeps.upd ?_ rfl; first | with_reducible assumption | with_reducible (first | apply State.disarm_keeps | apply State.planStart_keeps)))

theorem State.keepShapers_keeps {s₀ : State} {s : State} (qs : List Nat) (h₀ : Keeps s₀ s) : Keeps s₀ (State.keepShapers s qs) := by
  unfold State.keepShapers
  repeat' (first | with_reducible refine Keeps.eachOf ?_ _ _ (fun _ _ _ => ?_) | (with_reducible refine Keeps.upd ?_ rfl; first | with_reducible assumption) | split)

theorem State.copyField_keeps {s₀ : State} {s : State} (F : Field) (is : List Nat) (fr : Nat) (goal : Nat) (h₀ : Keeps s₀ s) : Keeps s₀ (State.copyField s F is fr goal) := by
  unfold State.copyField
  repeat' (first | with_reducible assumption | with_reducible apply State.wr_keeps | with_reducible refine Keeps.eachOf ?_ _ _ (fun _ _ _ => ?_))

theorem State.cmdCopy_keeps {s₀ : State} {s : State} (h₀ : Keeps s₀ s) : Keeps s₀ (State.cmdCopy s) := by
  unfold State.cmdCopy
  repeat' (first | with_reducible assumption | with_reducible (first | apply State.copyField_keeps | apply State.keepShapers_keeps | apply State.planStart_keeps) | with_reducible refine Keeps.eachOf ?_ _ _ (fun _ _ _ => ?_) | split)

theorem State.planCmdWrite_keeps {s₀ : State} {s : State} (w : Nat) (h₀ : Keeps s₀ s) : Keeps s₀ (State.planCmdWrite s w) := by
  unfold State.planCmdWrite
  repeat' (first | with_reducible assumption | with_reducible (first | apply State.cmdArm_keeps | apply State.cmdCheck_keeps | apply State.cmdCopy_keeps | apply State.cmdDisarm_keeps | apply State.planCommand_keeps | apply State.planStart_keeps) | split | intro _)

theorem State.judgeDisarm_keeps {s₀ : State} {s : State} (h₀ : Keeps s₀ s) : Keeps s₀ (State.judgeDisarm s) := by
  unfold State.judgeDisarm
  repeat' (first | with_reducible assumption | with_reducible (first | apply State.planStart_keeps | apply State.planTick_keeps | apply State.wr_keeps) | with_reducible refine Keeps.ofIte (fun _ => ?_) (fun _ => ?_))

theorem State.planError_keeps {s₀ : State} {s : State} (r : Nat × Nat) (h₀ : Keeps s₀ s) : Keeps s₀ (State.planError s r) := by
  unfold State.planError
  repeat' (first | with_reducible assumption | with_reducible apply State.wr_keeps | split)

theorem State.planDone_keeps {s₀ : State} {s : State} (h₀ : Keeps s₀ s) : Keeps s₀ (State.planDone s) := by
  unfold State.planDone
  repeat' (first | with_reducible assumption | with_reducible (first | apply State.judgeDisarm_keeps | apply State.planError_keeps | apply State.sat_keeps | apply State.wr_keeps) | with_reducible refine Keeps.ofIte (fun _ => ?_) (fun _ => ?_))

theorem State.bankWrite_keeps {s₀ : State} {s : State} (off : Nat) (w : Nat) (h₀ : Keeps s₀ s) : Keeps s₀ (State.bankWrite s off w) := by
  unfold State.bankWrite
  repeat' (first | with_reducible assumption | with_reducible (first | apply State.keepShapers_keeps | apply State.sat_keeps | apply State.wr_keeps | apply State.writeReg_keeps) | with_reducible refine Keeps.ofIte (fun _ => ?_) (fun _ => ?_) | split)

theorem State.planTimeWrite_keeps {s₀ : State} {s : State} (off : Nat) (w : Nat) (h₀ : Keeps s₀ s) : Keeps s₀ (State.planTimeWrite s off w) := by
  unfold State.planTimeWrite
  repeat' (first | with_reducible assumption | with_reducible (first | apply State.sat_keeps | apply State.wr_keeps | apply State.writeReg_keeps) | split)

theorem State.shpWrite_keeps {s₀ : State} {s : State} (off : Nat) (w : Nat) (h₀ : Keeps s₀ s) : KeepsOpt s₀ (State.shpWrite s off w) := by
  unfold State.shpWrite
  repeat' (first | with_reducible assumption | with_reducible (first | apply State.bankWrite_keeps | apply State.planCmdWrite_keeps | apply State.planTimeWrite_keeps | apply State.sat_keeps | apply State.writeReg_keeps) | with_reducible apply KeepsOpt.ofSome | exact KeepsOpt.ofNone | split)

theorem execPacketSelect_keeps {s₀ : State} (p : Fin 23) (ecc : Fin 4) {s : State} (h₀ : Keeps s₀ s) : KeepsOut s₀ (execPacketSelect p ecc s) := by
  unfold execPacketSelect
  repeat' (first | with_reducible assumption | with_reducible apply State.packetSelect_keeps | with_reducible apply KeepsOut.ofNext)

theorem execLeakAudit_keeps {s₀ : State} {s : State} (h₀ : Keeps s₀ s) : KeepsOut s₀ (execLeakAudit s) := by
  unfold execLeakAudit
  repeat' (first | with_reducible assumption | with_reducible apply State.leakAudit_keeps | with_reducible apply KeepsOut.ofNext)

theorem execTransmitComplete_keeps {s₀ : State} (p : Fin 12) {s : State} (h₀ : Keeps s₀ s) : KeepsOut s₀ (execTransmitComplete p s) := by
  unfold execTransmitComplete
  repeat' (first | with_reducible assumption | with_reducible apply State.completeSend_keeps | with_reducible apply KeepsOut.ofNext)

theorem execShaperRefill_keeps {s₀ : State} {s : State} (h₀ : Keeps s₀ s) : KeepsOut s₀ (execShaperRefill s) := by
  unfold execShaperRefill
  repeat' (first | with_reducible assumption | with_reducible apply State.refill_keeps | with_reducible apply KeepsOut.ofNext)

theorem execGateBoundary_keeps {s₀ : State} (p : Fin 12) {s : State} (h₀ : Keeps s₀ s) : KeepsOut s₀ (execGateBoundary p s) := by
  unfold execGateBoundary
  repeat' (first | with_reducible assumption | with_reducible (first | apply State.gateShow_keeps | apply State.planTick_keeps) | with_reducible apply KeepsOut.ofNext)

theorem execQueueSample_keeps {s₀ : State} {s : State} (h₀ : Keeps s₀ s) : KeepsOut s₀ (execQueueSample s) := by
  unfold execQueueSample
  repeat' (first | with_reducible assumption | with_reducible apply State.sample_keeps | with_reducible apply KeepsOut.ofNext)

theorem execBankWrite_keeps {s₀ : State} (o : Fin 32768) (w : Word) {s : State} (h₀ : Keeps s₀ s) : KeepsOut s₀ (execBankWrite o w s) := by
  unfold execBankWrite
  repeat' (first | with_reducible assumption | with_reducible apply State.bankWrite_keeps | with_reducible apply KeepsOut.ofNext)

theorem execPlanCheck_keeps {s₀ : State} {s : State} (h₀ : Keeps s₀ s) : KeepsOut s₀ (execPlanCheck s) := by
  unfold execPlanCheck
  repeat' (first | with_reducible assumption | with_reducible (first | apply State.cmdCheck_keeps | apply State.planCommand_keeps) | with_reducible apply KeepsOut.ofNext)

theorem execPlanArm_keeps {s₀ : State} (m : Fin 4) {s : State} (h₀ : Keeps s₀ s) : KeepsOut s₀ (execPlanArm m s) := by
  unfold execPlanArm
  repeat' (first | with_reducible assumption | with_reducible (first | apply State.cmdArm_keeps | apply State.planCommand_keeps) | with_reducible apply KeepsOut.ofNext | intro _)

theorem execPlanDisarm_keeps {s₀ : State} {s : State} (h₀ : Keeps s₀ s) : KeepsOut s₀ (execPlanDisarm s) := by
  unfold execPlanDisarm
  repeat' (first | with_reducible assumption | with_reducible (first | apply State.cmdDisarm_keeps | apply State.planCommand_keeps) | with_reducible apply KeepsOut.ofNext)

theorem execPlanCopy_keeps {s₀ : State} {s : State} (h₀ : Keeps s₀ s) : KeepsOut s₀ (execPlanCopy s) := by
  unfold execPlanCopy
  repeat' (first | with_reducible assumption | with_reducible (first | apply State.cmdCopy_keeps | apply State.planCommand_keeps) | with_reducible apply KeepsOut.ofNext)

theorem execPlanCommandDone_keeps {s₀ : State} {s : State} (h₀ : Keeps s₀ s) : KeepsOut s₀ (execPlanCommandDone s) := by
  unfold execPlanCommandDone
  repeat' (first | with_reducible assumption | with_reducible apply State.planDone_keeps | with_reducible apply KeepsOut.ofNext)

theorem execPlanSwitch_keeps {s₀ : State} {s : State} (h₀ : Keeps s₀ s) : KeepsOut s₀ (execPlanSwitch s) := by
  unfold execPlanSwitch
  repeat' (first | with_reducible assumption | with_reducible apply State.planSwitchDue_keeps | with_reducible apply KeepsOut.ofNext)

theorem execPlanDeadline_keeps {s₀ : State} {s : State} (h₀ : Keeps s₀ s) : KeepsOut s₀ (execPlanDeadline s) := by
  unfold execPlanDeadline
  repeat' (first | with_reducible assumption | with_reducible apply State.planDeadlineDue_keeps | with_reducible apply KeepsOut.ofNext)

end Sys2Proof.Machine
end

