-- ==== Sys2Proof/Laws/KeepsLane.lean ====
section
/-! SUPPORT. What the operations of Machine/Lane.lean keep: the queue, the canonical form of the stores, every burnt fuse. -/

namespace Sys2Proof.Machine

theorem State.alignCount_keeps {s₀ : State} {s : State} (n : Nat) (good : Nat) (bad : Nat) (h₀ : Keeps s₀ s) : Keeps s₀ (State.alignCount s n good bad) := by
  unfold State.alignCount
  repeat' ((with_reducible refine Keeps.upd ?_ rfl; first | with_reducible assumption))

theorem State.scanStop_keeps {s₀ : State} {s : State} (n : Nat) (err : Nat) (h₀ : Keeps s₀ s) : Keeps s₀ (State.scanStop s n err) := by
  unfold State.scanStop
  repeat' (first | with_reducible assumption | with_reducible (first | apply State.free_keeps | apply State.wr_keeps) | split)

theorem State.lockLost_keeps {s₀ : State} {s : State} (n : Nat) (st : Nat) (h₀ : Keeps s₀ s) : Keeps s₀ (State.lockLost s n st) := by
  unfold State.lockLost
  repeat' (first | with_reducible assumption | with_reducible (first | apply State.fault_keeps | apply State.sat_keeps | apply State.wr_keeps) | split)

theorem State.laneGo_keeps {s₀ : State} {s : State} (n : Nat) (st : Nat) (loss : Bool) (h₀ : Keeps s₀ s) : Keeps s₀ (State.laneGo s n st loss) := by
  unfold State.laneGo
  repeat' (first | with_reducible assumption | with_reducible (first | apply State.alignCount_keeps | apply State.lockLost_keeps | apply State.scanStop_keeps | apply State.wr_keeps) | with_reducible refine Keeps.ofIte (fun _ => ?_) (fun _ => ?_))

theorem State.lanePower_keeps {s₀ : State} {s : State} (n : Nat) (h₀ : Keeps s₀ s) : Keeps s₀ (State.lanePower s n) := by
  unfold State.lanePower
  repeat' (first | with_reducible assumption | with_reducible (first | apply State.laneGo_keeps | apply State.wr_keeps) | with_reducible refine Keeps.ofIte (fun _ => ?_) (fun _ => ?_))

theorem State.laneRelock_keeps {s₀ : State} {s : State} (n : Nat) (h₀ : Keeps s₀ s) : Keeps s₀ (State.laneRelock s n) := by
  unfold State.laneRelock
  repeat' (first | with_reducible assumption | with_reducible (first | apply State.laneGo_keeps | apply State.wr_keeps) | with_reducible refine Keeps.ofIte (fun _ => ?_) (fun _ => ?_))

theorem State.laneRate_keeps {s₀ : State} {s : State} (n : Nat) (r : Nat) (h₀ : Keeps s₀ s) : Keeps s₀ (State.laneRate s n r) := by
  unfold State.laneRate
  repeat' (first | with_reducible assumption | with_reducible (first | apply State.laneRelock_keeps | apply State.wr_keeps) | split)

theorem State.bondWake_keeps {s₀ : State} {s : State} (t : Nat) (h₀ : Keeps s₀ s) : Keeps s₀ (State.bondWake s t) := by
  unfold State.bondWake
  repeat' (first | with_reducible assumption | with_reducible apply State.wr_keeps | split)

theorem State.bondRestart_keeps {s₀ : State} {s : State} (t : Nat) (h₀ : Keeps s₀ s) : Keeps s₀ (State.bondRestart s t) := by
  unfold State.bondRestart
  repeat' (first | with_reducible assumption | with_reducible (first | apply State.bondWake_keeps | apply State.lanePower_keeps | apply State.wr_keeps) | with_reducible refine Keeps.ofIte (fun _ => ?_) (fun _ => ?_) | with_reducible refine Keeps.eachOf ?_ _ _ (fun _ _ _ => ?_))

theorem State.latencyConfig_keeps {s₀ : State} {s : State} (p : Nat) (h₀ : Keeps s₀ s) : Keeps s₀ (State.latencyConfig s p) := by
  unfold State.latencyConfig
  repeat' (first | with_reducible assumption | with_reducible apply State.wr_keeps)

theorem State.latencyTrained_keeps {s₀ : State} {s : State} (p : Nat) (h₀ : Keeps s₀ s) : Keeps s₀ (State.latencyTrained s p) := by
  unfold State.latencyTrained
  repeat' (first | with_reducible assumption | with_reducible (first | apply State.free_keeps | apply State.wr_keeps))

end Sys2Proof.Machine
end

