-- ==== Sys2Proof/Laws/KeepsTrunk.lean ====
section
/-! SUPPORT. What the operations of Machine/Trunk.lean keep: the queue, the canonical form of the stores, every burnt fuse. -/

namespace Sys2Proof.Machine

theorem State.loseSending_keeps {s₀ : State} {s : State} (t : Nat) (h₀ : Keeps s₀ s) : Keeps s₀ (State.loseSending s t) := by
  unfold State.loseSending
  repeat' (first | with_reducible assumption | with_reducible apply State.completeSend_keeps)

theorem State.enterSeal_keeps {s₀ : State} {s : State} (t : Nat) (h₀ : Keeps s₀ s) : Keeps s₀ (State.enterSeal s t) := by
  unfold State.enterSeal
  repeat' (first | with_reducible assumption | with_reducible (first | apply State.arm_keeps | apply State.wr_keeps) | (with_reducible refine Keeps.upd ?_ rfl; first | with_reducible assumption | with_reducible (first | apply State.arm_keeps | apply State.disarm_keeps | apply State.wr_keeps) | (with_reducible refine Keeps.upd ?_ rfl; first | with_reducible assumption | with_reducible (first | apply State.arm_keeps | apply State.disarm_keeps | apply State.wr_keeps))) | (with_reducible refine Keeps.updKeys ?_ ?_ rfl <;> with_reducible assumption))

theorem State.leaveUp_keeps {s₀ : State} {s : State} (t : Nat) (h₀ : Keeps s₀ s) : Keeps s₀ (State.leaveUp s t) := by
  unfold State.leaveUp
  repeat' (first | with_reducible assumption | with_reducible (first | apply State.loseSending_keeps | apply State.wr_keeps) | with_reducible refine Keeps.ofIte (fun _ => ?_) (fun _ => ?_) | split)

theorem State.trunkWatch_keeps {s₀ : State} {s : State} (t : Nat) (h₀ : Keeps s₀ s) : Keeps s₀ (State.trunkWatch s t) := by
  unfold State.trunkWatch
  repeat' (first | with_reducible assumption | with_reducible (first | apply State.guardShow_keeps | apply State.ringTrunkChanged_keeps))

theorem State.enterBond_keeps {s₀ : State} {s : State} (t : Nat) (w : Nat) (h₀ : Keeps s₀ s) : Keeps s₀ (State.enterBond s t w) := by
  unfold State.enterBond
  repeat' (first | with_reducible assumption | with_reducible (first | apply State.arm_keeps | apply State.causeOff_keeps | apply State.laneRate_keeps | apply State.leaveUp_keeps) | with_reducible refine Keeps.eachOf ?_ _ _ (fun _ _ _ => ?_) | (with_reducible refine Keeps.upd ?_ rfl; first | with_reducible assumption | with_reducible (first | apply State.arm_keeps | apply State.bondRestart_keeps | apply State.causeOff_keeps | apply State.laneRate_keeps | apply State.leaveUp_keeps | apply State.setTrunk_keeps | apply State.trunkWatch_keeps | apply State.wr_keeps)))

theorem State.linkDown_keeps {s₀ : State} {s : State} (t : Nat) (r : TrkReason) (h₀ : Keeps s₀ s) : Keeps s₀ (State.linkDown s t r) := by
  unfold State.linkDown
  repeat' (first | with_reducible assumption | with_reducible (first | apply State.fault_keeps | apply State.trkCount_keeps) | split)

theorem State.backToBond_keeps {s₀ : State} {s : State} (t : Nat) (r : TrkReason) (h₀ : Keeps s₀ s) : Keeps s₀ (State.backToBond s t r) := by
  unfold State.backToBond
  repeat' (first | with_reducible assumption | with_reducible (first | apply State.enterBond_keeps | apply State.linkDown_keeps | apply State.wr_keeps))

theorem State.enterHold_keeps {s₀ : State} {s : State} (t : Nat) (r : TrkReason) (h₀ : Keeps s₀ s) : Keeps s₀ (State.enterHold s t r) := by
  unfold State.enterHold
  repeat' (first | with_reducible assumption | with_reducible (first | apply State.leaveUp_keeps | apply State.trunkWatch_keeps | apply State.wr_keeps))

theorem State.endSession_keeps {s₀ : State} {s : State} (t : Nat) (h₀ : Keeps s₀ s) : Keeps s₀ (State.endSession s t) := by
  unfold State.endSession
  repeat' (first | with_reducible assumption | with_reducible (first | apply State.slotsShow_keeps | apply State.wr_keeps))

theorem State.throughSeal_keeps {s₀ : State} {s : State} (t : Nat) (h₀ : Keeps s₀ s) : Keeps s₀ (State.throughSeal s t) := by
  unfold State.throughSeal
  repeat' (first | with_reducible assumption | with_reducible (first | apply State.endSession_keeps | apply State.enterSeal_keeps | apply State.leaveUp_keeps | apply State.trunkWatch_keeps) | with_reducible refine Keeps.ofIte (fun _ => ?_) (fun _ => ?_))

theorem State.nextEpoch_keeps {s₀ : State} {s : State} (t : Nat) (h₀ : Keeps s₀ s) : Keeps s₀ (State.nextEpoch s t) := by
  unfold State.nextEpoch
  repeat' (first | with_reducible assumption | with_reducible (first | apply State.startEpoch_keeps | apply State.throughSeal_keeps) | split)

theorem State.freshCounters_keeps {s₀ : State} {s : State} (t : Nat) (h₀ : Keeps s₀ s) : Keeps s₀ (State.freshCounters s t) := by
  unfold State.freshCounters
  repeat' (first | with_reducible assumption | with_reducible apply State.setDeficits_keeps | with_reducible refine Keeps.foldPair (fun _ _ _ => ?_) _ ?_ | with_reducible refine Keeps.fold (fun _ _ _ => ?_) _ ?_ | (with_reducible refine Keeps.upd ?_ rfl; first | with_reducible assumption | with_reducible (first | apply State.setDeficits_keeps | apply State.setTrunk_keeps)))

theorem State.enterUp_keeps {s₀ : State} {s : State} (t : Nat) (isSealed : Bool) (h₀ : Keeps s₀ s) : Keeps s₀ (State.enterUp s t isSealed) := by
  unfold State.enterUp
  repeat' (first | with_reducible assumption | with_reducible (first | apply State.freshCounters_keeps | apply State.setTrunk_keeps | apply State.trunkWatch_keeps | apply State.wr_keeps) | (with_reducible refine Keeps.upd ?_ rfl; first | with_reducible assumption | with_reducible (first | apply State.freshCounters_keeps | apply State.nextEpoch_keeps | apply State.setTrunk_keeps | apply State.trunkWatch_keeps | apply State.wr_keeps)) | split)

theorem State.enterTrain_keeps {s₀ : State} {s : State} (t : Nat) (h₀ : Keeps s₀ s) : Keeps s₀ (State.enterTrain s t) := by
  unfold State.enterTrain
  repeat' (first | with_reducible assumption | with_reducible (first | apply State.arm_keeps | apply State.wr_keeps) | (with_reducible refine Keeps.upd ?_ rfl; first | with_reducible assumption | with_reducible (first | apply State.arm_keeps | apply State.setTrunk_keeps | apply State.wr_keeps)))

theorem State.bondAdvance_keeps {s₀ : State} {s : State} (t : Nat) (h₀ : Keeps s₀ s) : Keeps s₀ (State.bondAdvance s t) := by
  unfold State.bondAdvance
  repeat' (first | with_reducible assumption | with_reducible (first | apply State.enterTrain_keeps | apply State.enterUp_keeps | apply State.wr_keeps) | with_reducible refine Keeps.ofIte (fun _ => ?_) (fun _ => ?_) | split)

theorem State.bondLost_keeps {s₀ : State} {s : State} (t : Nat) (h₀ : Keeps s₀ s) : Keeps s₀ (State.bondLost s t) := by
  unfold State.bondLost
  repeat' (first | with_reducible assumption | with_reducible (first | apply State.backToBond_keeps | apply State.enterBond_keeps) | with_reducible refine Keeps.ofIte (fun _ => ?_) (fun _ => ?_) | split)

theorem State.serviceLost_keeps {s₀ : State} {s : State} (h₀ : Keeps s₀ s) : Keeps s₀ (State.serviceLost s) := by
  unfold State.serviceLost
  repeat' (first | with_reducible assumption | with_reducible apply State.backToBond_keeps | with_reducible refine Keeps.ofIte (fun _ => ?_) (fun _ => ?_) | with_reducible refine Keeps.eachOf ?_ _ _ (fun _ _ _ => ?_) | split | intro _)

theorem State.serviceCheck_keeps {s₀ : State} {s : State} (h₀ : Keeps s₀ s) : Keeps s₀ (State.serviceCheck s) := by
  unfold State.serviceCheck
  repeat' (first | with_reducible assumption | with_reducible (first | apply State.bondAdvance_keeps | apply State.serviceLost_keeps) | with_reducible refine Keeps.eachOf ?_ _ _ (fun _ _ _ => ?_) | split)

theorem State.trunkEnable_keeps {s₀ : State} {s : State} (t : Nat) (h₀ : Keeps s₀ s) : Keeps s₀ (State.trunkEnable s t) := by
  unfold State.trunkEnable
  repeat' (first | with_reducible assumption | with_reducible (first | apply State.bondAdvance_keeps | apply State.enterBond_keeps) | split)

theorem State.trunkDisable_keeps {s₀ : State} {s : State} (t : Nat) (h₀ : Keeps s₀ s) : Keeps s₀ (State.trunkDisable s t) := by
  unfold State.trunkDisable
  repeat' (first | with_reducible assumption | with_reducible (first | apply State.bondRestart_keeps | apply State.causeOff_keeps | apply State.endSession_keeps | apply State.leaveUp_keeps | apply State.trunkWatch_keeps | apply State.wr_keeps))

theorem State.trkCtrlWrite_keeps {s₀ : State} {s : State} (t : Nat) (w : Nat) (h₀ : Keeps s₀ s) : Keeps s₀ (State.trkCtrlWrite s t w) := by
  unfold State.trkCtrlWrite
  repeat' (first | with_reducible assumption | with_reducible (first | apply State.latencyConfig_keeps | apply State.trunkDisable_keeps | apply State.trunkEnable_keeps | apply State.writeReg_keeps) | with_reducible refine Keeps.ofIte (fun _ => ?_) (fun _ => ?_) | with_reducible refine Keeps.whenIf ?_ _ _ (fun _ _ => ?_))

theorem State.bondTrialFails_keeps {s₀ : State} {s : State} (t : Nat) (h₀ : Keeps s₀ s) : Keeps s₀ (State.bondTrialFails s t) := by
  unfold State.bondTrialFails
  repeat' (first | with_reducible assumption | with_reducible (first | apply State.arm_keeps | apply State.enterHold_keeps | apply State.setTrunk_keeps) | with_reducible refine Keeps.ofIte (fun _ => ?_) (fun _ => ?_) | (with_reducible refine Keeps.upd ?_ rfl; first | with_reducible assumption | with_reducible (first | apply State.arm_keeps | apply State.bondRestart_keeps | apply State.enterHold_keeps | apply State.setTrunk_keeps)))

theorem State.capabilitySend_keeps {s₀ : State} {s : State} (t : Nat) (h₀ : Keeps s₀ s) : Keeps s₀ (State.capabilitySend s t) := by
  unfold State.capabilitySend
  repeat' (first | with_reducible assumption | with_reducible apply State.linkSend_keeps | with_reducible refine Keeps.ofIte (fun _ => ?_) (fun _ => ?_) | (with_reducible refine Keeps.upd ?_ rfl; first | with_reducible assumption | with_reducible (first | apply State.linkSend_keeps | apply State.setTrunk_keeps)) | split)

theorem State.agree_keeps {s₀ : State} {s : State} (t : Nat) (h₀ : Keeps s₀ s) : Keeps s₀ (State.agree s t) := by
  unfold State.agree
  repeat' (first | with_reducible assumption | with_reducible (first | apply State.causeOff_keeps | apply State.endSession_keeps | apply State.enterBond_keeps | apply State.enterHold_keeps) | with_reducible refine Keeps.ofIte (fun _ => ?_) (fun _ => ?_) | (with_reducible refine Keeps.upd ?_ rfl; first | with_reducible assumption | with_reducible (first | apply State.causeOff_keeps | apply State.causeOn_keeps | apply State.endSession_keeps | apply State.enterBond_keeps | apply State.enterHold_keeps | apply State.enterSeal_keeps | apply State.enterUp_keeps | apply State.setTrunk_keeps | apply State.trkCount_keeps | apply State.wr_keeps)) | split)

theorem State.showPeer_keeps {s₀ : State} {s : State} (t : Nat) (b : List Byte) (h₀ : Keeps s₀ s) : Keeps s₀ (State.showPeer s t b) := by
  unfold State.showPeer
  repeat' (first | with_reducible assumption | with_reducible apply State.wr_keeps)

theorem State.capabilityReceive_keeps {s₀ : State} {s : State} (t : Nat) (b : List Byte) (h₀ : Keeps s₀ s) : Keeps s₀ (State.capabilityReceive s t b) := by
  unfold State.capabilityReceive
  repeat' (first | with_reducible assumption | with_reducible (first | apply State.agree_keeps | apply State.showPeer_keeps) | with_reducible refine Keeps.ofIte (fun _ => ?_) (fun _ => ?_) | (with_reducible refine Keeps.upd ?_ rfl; first | with_reducible assumption | with_reducible (first | apply State.agree_keeps | apply State.setTrunk_keeps | apply State.showPeer_keeps)))

theorem State.sealWrite_keeps {s₀ : State} {s : State} (t : Nat) (w : Nat) (h₀ : Keeps s₀ s) : Keeps s₀ (State.sealWrite s t w) := by
  unfold State.sealWrite
  repeat' (first | with_reducible assumption | with_reducible (first | apply State.endSession_keeps | apply State.setTrunk_keeps | apply State.slotsShow_keeps | apply State.startEpoch_keeps) | with_reducible refine Keeps.ofIte (fun _ => ?_) (fun _ => ?_) | (with_reducible refine Keeps.upd ?_ rfl; first | with_reducible assumption | with_reducible (first | apply State.endSession_keeps | apply State.enterUp_keeps | apply State.setTrunk_keeps | apply State.slotsShow_keeps | apply State.startEpoch_keeps | apply State.wr_keeps)))

theorem State.epochAdvance_keeps {s₀ : State} {s : State} (t : Nat) (h₀ : Keeps s₀ s) : Keeps s₀ (State.epochAdvance s t) := by
  unfold State.epochAdvance
  repeat' (first | with_reducible assumption | with_reducible apply State.nextEpoch_keeps | with_reducible refine Keeps.ofIte (fun _ => ?_) (fun _ => ?_))

theorem State.rxDerive_keeps {s₀ : State} {s : State} (t : Nat) (h₀ : Keeps s₀ s) : Keeps s₀ (State.rxDerive s t) := by
  unfold State.rxDerive
  repeat' (first | with_reducible assumption | with_reducible apply State.setTrunk_keeps | with_reducible refine Keeps.ofIte (fun _ => ?_) (fun _ => ?_) | (with_reducible refine Keeps.upd ?_ rfl; first | with_reducible assumption | with_reducible (first | apply State.setTrunk_keeps | apply State.throughSeal_keeps)) | split)

theorem State.giveBack_keeps {s₀ : State} {s : State} (t : Nat) (c : Nat) (h₀ : Keeps s₀ s) : Keeps s₀ (State.giveBack s t c) := by
  unfold State.giveBack
  repeat' (first | with_reducible assumption | with_reducible apply State.setTrunk_keeps)

theorem State.sendCredits_keeps {s₀ : State} {s : State} (t : Nat) (cs : List Nat) (h₀ : Keeps s₀ s) : Keeps s₀ (State.sendCredits s t cs) := by
  unfold State.sendCredits
  repeat' (first | with_reducible assumption | with_reducible apply State.linkSend_keeps | (with_reducible refine Keeps.upd ?_ rfl; first | with_reducible assumption | with_reducible (first | apply State.linkSend_keeps | apply State.setTrunk_keeps)) | intro _)

theorem State.creditReturn_keeps {s₀ : State} {s : State} (t : Nat) (h₀ : Keeps s₀ s) : Keeps s₀ (State.creditReturn s t) := by
  unfold State.creditReturn
  repeat' (first | with_reducible assumption | with_reducible (first | apply State.giveBack_keeps | apply State.sendCredits_keeps) | with_reducible refine Keeps.ofIte (fun _ => ?_) (fun _ => ?_) | with_reducible refine Keeps.eachOf ?_ _ _ (fun _ _ _ => ?_) | split)

theorem State.creditRefresh_keeps {s₀ : State} {s : State} (t : Nat) (h₀ : Keeps s₀ s) : Keeps s₀ (State.creditRefresh s t) := by
  unfold State.creditRefresh
  repeat' (first | with_reducible assumption | with_reducible apply State.sendCredits_keeps | with_reducible refine Keeps.ofIte (fun _ => ?_) (fun _ => ?_))

theorem State.creditCum_keeps {s₀ : State} {s : State} (t : Nat) (c : Nat) (cum : Nat) (h₀ : Keeps s₀ s) : Keeps s₀ (State.creditCum s t c cum) := by
  unfold State.creditCum
  repeat' (first | with_reducible assumption | (extract_lets +onlyGivenNames x; first | (refine (?_ : Keeps s₀ x → _) ?_; rotate_left; subst x; rotate_left; intro hx; clear_value x) | clear_value x) | with_reducible apply State.setTrunk_keeps | with_reducible refine Keeps.ofIte (fun _ => ?_) (fun _ => ?_) | (with_reducible refine Keeps.upd ?_ rfl; first | with_reducible assumption | with_reducible (first | apply State.setTrunk_keeps | apply State.trkCount_keeps)) | split)

theorem State.creditIn_keeps {s₀ : State} {s : State} (t : Nat) (e : Nat) (h₀ : Keeps s₀ s) : Keeps s₀ (State.creditIn s t e) := by
  unfold State.creditIn
  repeat' (first | with_reducible assumption | with_reducible apply State.creditCum_keeps | with_reducible refine Keeps.ofIte (fun _ => ?_) (fun _ => ?_))

theorem State.creditReceive_keeps {s₀ : State} {s : State} (t : Nat) (b : List Byte) (h₀ : Keeps s₀ s) : Keeps s₀ (State.creditReceive s t b) := by
  unfold State.creditReceive
  repeat' (first | with_reducible assumption | with_reducible (first | apply State.creditIn_keeps | apply State.trkCount_keeps) | split)

theorem State.creditStall_keeps {s₀ : State} {s : State} (t : Nat) (c : Nat) (h₀ : Keeps s₀ s) : Keeps s₀ (State.creditStall s t c) := by
  unfold State.creditStall
  repeat' (first | with_reducible assumption | with_reducible (first | apply State.fault_keeps | apply State.trkCount_keeps) | with_reducible refine Keeps.ofIte (fun _ => ?_) (fun _ => ?_) | (with_reducible refine Keeps.upd ?_ rfl; first | with_reducible assumption | with_reducible (first | apply State.fault_keeps | apply State.setTrunk_keeps | apply State.trkCount_keeps)) | split)

theorem State.grantWrite_keeps {s₀ : State} {s : State} (t : Nat) (c : Nat) (w : Nat) (h₀ : Keeps s₀ s) : Keeps s₀ (State.grantWrite s t c w) := by
  unfold State.grantWrite
  repeat' (first | with_reducible assumption | with_reducible (first | apply State.giveBack_keeps | apply State.sendCredits_keeps | apply State.writeReg_keeps) | with_reducible refine Keeps.ofIte (fun _ => ?_) (fun _ => ?_) | split)

theorem State.kl2Write_keeps {s₀ : State} {s : State} (w : Nat) (h₀ : Keeps s₀ s) : Keeps s₀ (State.kl2Write s w) := by
  unfold State.kl2Write
  repeat' (first | with_reducible assumption | with_reducible (first | apply State.kl2Show_keeps | apply State.latencyConfig_keeps | apply State.wr_keeps | apply State.writeReg_keeps) | with_reducible refine Keeps.ofIte (fun _ => ?_) (fun _ => ?_) | with_reducible refine Keeps.whenIf ?_ _ _ (fun _ _ => ?_))

theorem State.xlatWrite_keeps {s₀ : State} {s : State} (h : Nat) (w : Nat) (h₀ : Keeps s₀ s) : Keeps s₀ (State.xlatWrite s h w) := by
  unfold State.xlatWrite
  repeat' (first | with_reducible assumption | with_reducible (first | apply State.wr_keeps | apply State.writeReg_keeps) | with_reducible refine Keeps.ofIte (fun _ => ?_) (fun _ => ?_) | split | intro _)

theorem State.xoffSend_keeps {s₀ : State} {s : State} (h₀ : Keeps s₀ s) : Keeps s₀ (State.xoffSend s) := by
  unfold State.xoffSend
  repeat' (first | with_reducible assumption | with_reducible refine Keeps.ofIte (fun _ => ?_) (fun _ => ?_) | (with_reducible refine Keeps.upd ?_ rfl; first | with_reducible assumption) | split)

theorem State.xoffReceive_keeps {s₀ : State} {s : State} (mask : Nat) (comp : Nat) (h₀ : Keeps s₀ s) : Keeps s₀ (State.xoffReceive s mask comp) := by
  unfold State.xoffReceive
  repeat' (first | with_reducible assumption | with_reducible refine Keeps.ofIte (fun _ => ?_) (fun _ => ?_) | (with_reducible refine Keeps.upd ?_ rfl; first | with_reducible assumption) | split)

theorem State.selfWrite_keeps {s₀ : State} {s : State} (w : Nat) (h₀ : Keeps s₀ s) : Keeps s₀ (State.selfWrite s w) := by
  unfold State.selfWrite
  repeat' (first | with_reducible assumption | with_reducible (first | apply State.serviceCheck_keeps | apply State.wr_keeps | apply State.writeReg_keeps) | with_reducible refine Keeps.ofIte (fun _ => ?_) (fun _ => ?_) | split | intro _)

theorem State.regionWrite_keeps {s₀ : State} {s : State} (w : Nat) (h₀ : Keeps s₀ s) : Keeps s₀ (State.regionWrite s w) := by
  unfold State.regionWrite
  repeat' (first | with_reducible assumption | with_reducible (first | apply State.serviceCheck_keeps | apply State.writeReg_keeps))

theorem State.trkWrite_keeps {s₀ : State} {s : State} (off : Nat) (w : Nat) (h₀ : Keeps s₀ s) : KeepsOpt s₀ (State.trkWrite s off w) := by
  unfold State.trkWrite
  repeat' (first | with_reducible assumption | (extract_lets +onlyGivenNames x; first | (refine (?_ : Keeps s₀ x → _) ?_; rotate_left; subst x; rotate_left; intro hx; clear_value x) | clear_value x) | with_reducible (first | apply State.grantWrite_keeps | apply State.kl2Write_keeps | apply State.sealWrite_keeps | apply State.trkCtrlWrite_keeps | apply State.xlatWrite_keeps) | with_reducible apply KeepsOpt.ofSome | exact KeepsOpt.ofNone | split)

theorem execTrkEnable_keeps {s₀ : State} (t : Fin 4) {s : State} (h₀ : Keeps s₀ s) : KeepsOut s₀ (execTrkEnable t s) := by
  unfold execTrkEnable
  repeat' (first | with_reducible assumption | with_reducible (first | apply State.trunkEnable_keeps | apply State.wr_keeps) | with_reducible apply KeepsOut.ofNext)

theorem execTrkDisable_keeps {s₀ : State} (t : Fin 4) {s : State} (h₀ : Keeps s₀ s) : KeepsOut s₀ (execTrkDisable t s) := by
  unfold execTrkDisable
  repeat' (first | with_reducible assumption | with_reducible (first | apply State.trunkDisable_keeps | apply State.wr_keeps) | with_reducible apply KeepsOut.ofNext)

theorem execBondTrialTimeout_keeps {s₀ : State} (t : Fin 4) {s : State} (h₀ : Keeps s₀ s) : KeepsOut s₀ (execBondTrialTimeout t s) := by
  unfold execBondTrialTimeout
  repeat' (first | with_reducible assumption | with_reducible apply State.bondTrialFails_keeps | with_reducible apply KeepsOut.ofNext | with_reducible refine Keeps.ofIte (fun _ => ?_) (fun _ => ?_) | split)

theorem execCapabilitySend_keeps {s₀ : State} (t : Fin 4) {s : State} (h₀ : Keeps s₀ s) : KeepsOut s₀ (execCapabilitySend t s) := by
  unfold execCapabilitySend
  repeat' (first | with_reducible assumption | with_reducible apply State.capabilitySend_keeps | with_reducible apply KeepsOut.ofNext)

theorem execCapabilityReceive_keeps {s₀ : State} (t : Fin 4) (bytes : List Byte) {s : State} (h₀ : Keeps s₀ s) : KeepsOut s₀ (execCapabilityReceive t bytes s) := by
  unfold execCapabilityReceive
  repeat' (first | with_reducible assumption | with_reducible apply State.capabilityReceive_keeps | with_reducible apply KeepsOut.ofNext)

theorem execTrainTimeout_keeps {s₀ : State} (t : Fin 4) {s : State} (h₀ : Keeps s₀ s) : KeepsOut s₀ (execTrainTimeout t s) := by
  unfold execTrainTimeout
  repeat' (first | with_reducible assumption | with_reducible apply State.enterHold_keeps | with_reducible apply KeepsOut.ofNext | with_reducible refine Keeps.ofIte (fun _ => ?_) (fun _ => ?_) | split)

theorem execSealTimeout_keeps {s₀ : State} (t : Fin 4) {s : State} (h₀ : Keeps s₀ s) : KeepsOut s₀ (execSealTimeout t s) := by
  unfold execSealTimeout
  repeat' (first | with_reducible assumption | with_reducible apply State.enterHold_keeps | with_reducible apply KeepsOut.ofNext | with_reducible refine Keeps.ofIte (fun _ => ?_) (fun _ => ?_) | split)

theorem execHoldExpiry_keeps {s₀ : State} (t : Fin 4) {s : State} (h₀ : Keeps s₀ s) : KeepsOut s₀ (execHoldExpiry t s) := by
  unfold execHoldExpiry
  repeat' (first | with_reducible assumption | with_reducible (first | apply State.bondAdvance_keeps | apply State.enterBond_keeps) | with_reducible apply KeepsOut.ofNext | with_reducible refine KeepsOut.ofIte (fun _ => ?_) (fun _ => ?_) | with_reducible refine Keeps.ofIte (fun _ => ?_) (fun _ => ?_) | split)

theorem execSealLoad_keeps {s₀ : State} (t : Fin 4) (w : Word) {s : State} (h₀ : Keeps s₀ s) : KeepsOut s₀ (execSealLoad t w s) := by
  unfold execSealLoad
  repeat' (first | with_reducible assumption | with_reducible apply State.sealWrite_keeps | with_reducible apply KeepsOut.ofNext)

theorem execCreditBlockReceive_keeps {s₀ : State} (t : Fin 4) (bytes : List Byte) {s : State} (h₀ : Keeps s₀ s) : KeepsOut s₀ (execCreditBlockReceive t bytes s) := by
  unfold execCreditBlockReceive
  repeat' (first | with_reducible assumption | with_reducible apply State.creditReceive_keeps | with_reducible apply KeepsOut.ofNext)

theorem execCreditReturn_keeps {s₀ : State} (t : Fin 4) {s : State} (h₀ : Keeps s₀ s) : KeepsOut s₀ (execCreditReturn t s) := by
  unfold execCreditReturn
  repeat' (first | with_reducible assumption | with_reducible apply State.creditReturn_keeps | with_reducible apply KeepsOut.ofNext)

theorem execCreditRefresh_keeps {s₀ : State} (t : Fin 4) {s : State} (h₀ : Keeps s₀ s) : KeepsOut s₀ (execCreditRefresh t s) := by
  unfold execCreditRefresh
  repeat' (first | with_reducible assumption | with_reducible apply State.creditRefresh_keeps | with_reducible apply KeepsOut.ofNext)

theorem execHeartbeatLoss_keeps {s₀ : State} (t : Fin 4) {s : State} (h₀ : Keeps s₀ s) : KeepsOut s₀ (execHeartbeatLoss t s) := by
  unfold execHeartbeatLoss
  repeat' (first | with_reducible assumption | with_reducible apply State.backToBond_keeps | with_reducible apply KeepsOut.ofNext | with_reducible refine Keeps.ofIte (fun _ => ?_) (fun _ => ?_) | split)

theorem execCreditStall_keeps {s₀ : State} (t : Fin 4) (c : Fin 8) {s : State} (h₀ : Keeps s₀ s) : KeepsOut s₀ (execCreditStall t c s) := by
  unfold execCreditStall
  repeat' (first | with_reducible assumption | with_reducible apply State.creditStall_keeps | with_reducible apply KeepsOut.ofNext)

theorem execGrantWrite_keeps {s₀ : State} (t : Fin 4) (c : Fin 8) (w : Word) {s : State} (h₀ : Keeps s₀ s) : KeepsOut s₀ (execGrantWrite t c w s) := by
  unfold execGrantWrite
  repeat' (first | with_reducible assumption | with_reducible apply State.grantWrite_keeps | with_reducible apply KeepsOut.ofNext)

theorem execEpochAdvance_keeps {s₀ : State} (t : Fin 4) {s : State} (h₀ : Keeps s₀ s) : KeepsOut s₀ (execEpochAdvance t s) := by
  unfold execEpochAdvance
  repeat' (first | with_reducible assumption | with_reducible apply State.epochAdvance_keeps | with_reducible apply KeepsOut.ofNext)

theorem execRxEpochDerive_keeps {s₀ : State} (t : Fin 4) {s : State} (h₀ : Keeps s₀ s) : KeepsOut s₀ (execRxEpochDerive t s) := by
  unfold execRxEpochDerive
  repeat' (first | with_reducible assumption | with_reducible apply State.rxDerive_keeps | with_reducible apply KeepsOut.ofNext)

theorem execKl2EnableWrite_keeps {s₀ : State} (w : Word) {s : State} (h₀ : Keeps s₀ s) : KeepsOut s₀ (execKl2EnableWrite w s) := by
  unfold execKl2EnableWrite
  repeat' (first | with_reducible assumption | with_reducible apply State.kl2Write_keeps | with_reducible apply KeepsOut.ofNext)

theorem execXoffReceive_keeps {s₀ : State} (mask : Byte) (comp : Byte) {s : State} (h₀ : Keeps s₀ s) : KeepsOut s₀ (execXoffReceive mask comp s) := by
  unfold execXoffReceive
  repeat' (first | with_reducible assumption | with_reducible apply State.xoffReceive_keeps | with_reducible apply KeepsOut.ofNext)

theorem execXoffSend_keeps {s₀ : State} {s : State} (h₀ : Keeps s₀ s) : KeepsOut s₀ (execXoffSend s) := by
  unfold execXoffSend
  repeat' (first | with_reducible assumption | with_reducible apply State.xoffSend_keeps | with_reducible apply KeepsOut.ofNext)

theorem execXlatWrite_keeps {s₀ : State} (h : Fin 32) (w : Word) {s : State} (h₀ : Keeps s₀ s) : KeepsOut s₀ (execXlatWrite h w s) := by
  unfold execXlatWrite
  repeat' (first | with_reducible assumption | with_reducible apply State.xlatWrite_keeps | with_reducible apply KeepsOut.ofNext)

theorem execFabSelfWrite_keeps {s₀ : State} (w : Word) {s : State} (h₀ : Keeps s₀ s) : KeepsOut s₀ (execFabSelfWrite w s) := by
  unfold execFabSelfWrite
  repeat' (first | with_reducible assumption | with_reducible apply State.selfWrite_keeps | with_reducible apply KeepsOut.ofNext)

theorem execFabRegionWrite_keeps {s₀ : State} (w : Word) {s : State} (h₀ : Keeps s₀ s) : KeepsOut s₀ (execFabRegionWrite w s) := by
  unfold execFabRegionWrite
  repeat' (first | with_reducible assumption | with_reducible apply State.regionWrite_keeps | with_reducible apply KeepsOut.ofNext)

end Sys2Proof.Machine
end

