-- ==== Sys2Proof/Laws/KeepsIngress.lean ====
section
/-! SUPPORT. What the operations of Machine/Ingress.lean keep: the queue, the canonical form of the stores, every burnt fuse. -/

namespace Sys2Proof.Machine

theorem State.ctStart_keeps {s₀ : State} {s : State} (ecc : Nat) (c : Copy) (h₀ : Keeps s₀ s) : Keeps s₀ (State.ctStart s ecc c) := by
  unfold State.ctStart
  repeat' (first | (with_reducible refine Keeps.upd ?_ rfl; first | with_reducible assumption | with_reducible (first | apply State.fault_keeps | apply State.leakCopy_keeps | apply State.sat_keeps | apply State.startCopy_keeps)) | split)

theorem State.ctStep_keeps {s₀ : State} {s : State} (t : Nat) (ecc : Nat) (bad : Bool) (c : Copy) (h₀ : Keeps s₀ s) : Keeps s₀ (State.ctStep s t ecc bad c).1 := by
  unfold State.ctStep
  repeat' (first | (with_reducible refine Keeps.upd ?_ rfl; first | with_reducible assumption | with_reducible (first | apply State.ctStart_keeps | apply State.sat_keeps)) | split)

theorem State.ctAll_keeps {s₀ : State} {s : State} (t : Nat) (ecc : Nat) (bad : Bool) (a0 : List Copy) (h₀ : Keeps s₀ s) : Keeps s₀ (State.ctAll s t ecc bad a0).1 := by
  unfold State.ctAll
  repeat' (first | with_reducible assumption | with_reducible (first | apply State.ctAll_keeps | apply State.ctStep_keeps) | split)

theorem State.linkOrHalt_keeps {s₀ : State} {s : State} (c : Copy) (h₀ : Keeps s₀ s) : Keeps s₀ (State.linkOrHalt s c) := by
  unfold State.linkOrHalt
  repeat' (first | with_reducible assumption | with_reducible (first | apply State.linkCopy_keeps | apply State.releaseCopy_keeps | apply State.sat_keeps) | split)

theorem State.storeTrunk_keeps {s₀ : State} {s : State} (t : Nat) (ecc : Nat) (copies : List Copy) (h₀ : Keeps s₀ s) : Keeps s₀ (State.storeTrunk s t ecc copies) := by
  unfold State.storeTrunk
  repeat' (first | with_reducible refine Keeps.eachOf ?_ _ _ (fun _ _ _ => ?_) | (first | with_reducible refine Keeps.ofPair (by assumption) ?_) | (with_reducible refine Keeps.upd ?_ rfl; first | with_reducible assumption | with_reducible (first | apply State.admitPacket_keeps | apply State.ctAll_keeps | apply State.linkOrHalt_keeps | apply State.mirrorAll_keeps | apply State.terminusCount_keeps)) | split)

theorem State.storeBad_keeps {s₀ : State} {s : State} (t : Nat) (ecc : Nat) (copies : List Copy) (h₀ : Keeps s₀ s) : Keeps s₀ (State.storeBad s t ecc copies) := by
  unfold State.storeBad
  repeat' (first | (extract_lets +onlyGivenNames x; first | (refine (?_ : Keeps s₀ x → _) ?_; rotate_left; subst x; rotate_left; intro hx; clear_value x) | (refine (?_ : Keeps s₀ x.1 → _) ?_; rotate_left; subst x; rotate_left; intro hx; clear_value x) | clear_value x) | (first | with_reducible refine Keeps.ofPair (by assumption) ?_) | (with_reducible refine Keeps.upd ?_ rfl; first | with_reducible assumption | with_reducible (first | apply State.admitPacket_keeps | apply State.ctAll_keeps | apply State.mirrorAll_keeps | apply State.trkCount_keeps)) | split)

theorem State.epochTake_keeps {s₀ : State} {s : State} (t : Nat) (pn : Nat) (next : Bool) (h₀ : Keeps s₀ s) : Keeps s₀ (State.epochTake s t pn next) := by
  unfold State.epochTake
  repeat' (first | (with_reducible refine Keeps.upd ?_ rfl; first | with_reducible assumption | with_reducible (first | apply State.setTrunk_keeps | apply State.wr_keeps)) | split)

theorem State.arriveTrunk_keeps {s₀ : State} {s : State} (t : Nat) (p : Packet) (good : Bool) (h₀ : Keeps s₀ s) : Keeps s₀ (State.arriveTrunk s t p good).1 := by
  unfold State.arriveTrunk
  repeat' (first | with_reducible assumption | with_reducible (first | apply State.classifyTrunk_keeps | apply State.rsmReceive_keeps) | with_reducible refine Keeps.ofItePair (fun _ => ?_) (fun _ => ?_) | split)

theorem State.tailCount_keeps {s₀ : State} {s : State} (t : Nat) (x : Tail) (h₀ : Keeps s₀ s) : Keeps s₀ (State.tailCount s t x) := by
  unfold State.tailCount
  repeat' (first | with_reducible assumption | with_reducible (first | apply State.trkCount_keeps | apply State.wrap_keeps) | split)

theorem State.useCredit_keeps {s₀ : State} {s : State} (t : Nat) (h : HeaderIn) (h₀ : Keeps s₀ s) : Keeps s₀ (State.useCredit s t h) := by
  unfold State.useCredit
  repeat' ((with_reducible refine Keeps.upd ?_ rfl; first | with_reducible assumption | with_reducible apply State.setTrunk_keeps))

theorem State.checkedArrive_keeps {s₀ : State} {s : State} (t : Nat) (h : HeaderIn) (c : Checked) (h₀ : Keeps s₀ s) : Keeps s₀ (State.checkedArrive s t h c).1 := by
  unfold State.checkedArrive
  repeat' (first | (with_reducible refine Keeps.upd ?_ rfl; first | with_reducible assumption | with_reducible (first | apply State.arriveTrunk_keeps | apply State.epochTake_keeps | apply State.tailCount_keeps)) | split)

theorem State.sealArrive_keeps {s₀ : State} {s : State} (t : Nat) (h : HeaderIn) (body : List Byte) (e : Ended) (h₀ : Keeps s₀ s) : Keeps s₀ (State.sealArrive s t h body e).1 := by
  unfold State.sealArrive
  repeat' (first | with_reducible assumption | with_reducible (first | apply State.checkedArrive_keeps | apply State.trkCount_keeps) | split)

theorem State.upArrive_keeps {s₀ : State} {s : State} (t : Nat) (h : HeaderIn) (hdr : List Byte) (body : List Byte) (e : Ended) (h₀ : Keeps s₀ s) : Keeps s₀ (State.upArrive s t h hdr body e).1 := by
  unfold State.upArrive
  repeat' (first | with_reducible refine Keeps.ofItePair (fun _ => ?_) (fun _ => ?_) | (with_reducible refine Keeps.upd ?_ rfl; first | with_reducible assumption | with_reducible (first | apply State.checkedArrive_keeps | apply State.fault_keeps | apply State.trkCount_keeps | apply State.useCredit_keeps)) | split)

theorem State.packetArrive_keeps {s₀ : State} {s : State} (t : Nat) (bytes : List Byte) (e : Ended) (h₀ : Keeps s₀ s) : Keeps s₀ (State.packetArrive s t bytes e).1 := by
  unfold State.packetArrive
  repeat' (first | with_reducible assumption | with_reducible (first | apply State.sealArrive_keeps | apply State.trkCount_keeps | apply State.upArrive_keeps) | with_reducible refine Keeps.ofItePair (fun _ => ?_) (fun _ => ?_) | split)

theorem State.trunkArrive_keeps {s₀ : State} {s : State} (t : Nat) (l : List LineBlock) (h₀ : Keeps s₀ s) : Keeps s₀ (State.trunkArrive s t l).1 := by
  unfold State.trunkArrive
  repeat' (first | with_reducible assumption | with_reducible (first | apply State.creditReceive_keeps | apply State.packetArrive_keeps) | with_reducible refine Keeps.eachOf ?_ _ _ (fun _ _ _ => ?_) | split)

theorem State.admitArrival_keeps {s₀ : State} {s : State} (ecc : Nat) (a : Arrival) (h₀ : Keeps s₀ s) : Keeps s₀ (State.admitArrival s ecc a) := by
  unfold State.admitArrival
  repeat' (first | with_reducible assumption | with_reducible (first | apply State.admitOrigin_keeps | apply State.admitWhole_keeps | apply State.storeBad_keeps | apply State.storeTrunk_keeps) | split)

theorem State.admitCycle_keeps {s₀ : State} {s : State} (ecc : Nat) (l : List Arrival) (h₀ : Keeps s₀ s) : Keeps s₀ (State.admitCycle s ecc l) := by
  unfold State.admitCycle
  repeat' (first | with_reducible assumption | with_reducible apply State.admitArrival_keeps | with_reducible refine Keeps.eachOf ?_ _ _ (fun _ _ _ => ?_))

theorem State.kl2Store_keeps {s₀ : State} {s : State} (p : Packet) (h₀ : Keeps s₀ s) : Keeps s₀ (State.kl2Store s p) := by
  unfold State.kl2Store
  repeat' (first | with_reducible assumption | with_reducible (first | apply State.classifyTrunk_keeps | apply State.storeTrunk_keeps))

theorem State.kl2Manage_keeps {s₀ : State} {s : State} (cls : Nat) (bytes : List Byte) (h₀ : Keeps s₀ s) : Keeps s₀ (State.kl2Manage s cls bytes) := by
  unfold State.kl2Manage
  repeat' (first | with_reducible refine Keeps.eachOf ?_ _ _ (fun _ _ _ => ?_) | (first | with_reducible refine Keeps.ofPair (by assumption) ?_) | (with_reducible refine Keeps.upd ?_ rfl; first | with_reducible assumption | with_reducible (first | apply State.admitPacket_keeps | apply State.linkOrHalt_keeps | apply State.mirrorAll_keeps)) | split)

theorem State.kl2Translate_keeps {s₀ : State} {s : State} (bytes : List Byte) (h₀ : Keeps s₀ s) : Keeps s₀ (State.kl2Translate s bytes) := by
  unfold State.kl2Translate
  repeat' (first | (extract_lets +onlyGivenNames x; first | (refine (?_ : Keeps s₀ x → _) ?_; rotate_left; subst x; rotate_left; intro hx; clear_value x) | clear_value x) | (with_reducible refine Keeps.upd ?_ rfl; first | with_reducible assumption | with_reducible (first | apply State.kl2Count_keeps | apply State.kl2Store_keeps)) | split)

theorem State.kl2Receive_keeps {s₀ : State} {s : State} (bytes : List Byte) (h₀ : Keeps s₀ s) : Keeps s₀ (State.kl2Receive s bytes) := by
  unfold State.kl2Receive
  repeat' (first | with_reducible assumption | with_reducible (first | apply State.kl2Count_keeps | apply State.kl2Manage_keeps | apply State.kl2Translate_keeps | apply State.trkCount_keeps | apply State.wrap_keeps) | with_reducible refine Keeps.ofIte (fun _ => ?_) (fun _ => ?_) | split)

theorem State.policeOrigin_keeps {s₀ : State} {s : State} (h : Held) (phase : List Copy) (c : Copy) (h₀ : Keeps s₀ s) : Keeps s₀ (State.policeOrigin s h phase c).1 := by
  unfold State.policeOrigin
  repeat' (first | with_reducible refine Keeps.ofItePair (fun _ => ?_) (fun _ => ?_) | (first | with_reducible refine Keeps.ofPair (by assumption) ?_) | (with_reducible refine Keeps.upd ?_ rfl; first | with_reducible assumption | with_reducible (first | apply State.police_keeps | apply State.sat_keeps | apply State.setHeld_keeps)) | split)

theorem State.originArrive_keeps {s₀ : State} {s : State} (n : Nat) (c : Copy) (ring : Option Nat) (h₀ : Keeps s₀ s) : Keeps s₀ (State.originArrive s n c ring).1 := by
  unfold State.originArrive
  repeat' (first | with_reducible refine Keeps.ofItePair (fun _ => ?_) (fun _ => ?_) | (with_reducible refine Keeps.upd ?_ rfl; first | with_reducible assumption | with_reducible (first | apply State.classifyEach_keeps | apply State.originTake_keeps | apply State.policeOrigin_keeps | apply State.sat_keeps)))

theorem State.originSend_keeps {s₀ : State} {s : State} (n : Nat) (c : Copy) (ring : Option Nat) (h₀ : Keeps s₀ s) : Keeps s₀ (State.originSend s n c ring).1 := by
  unfold State.originSend
  repeat' (first | with_reducible assumption | with_reducible (first | apply State.admitCycle_keeps | apply State.admitOrigin_keeps | apply State.originArrive_keeps) | (first | with_reducible refine Keeps.ofPair (by assumption) ?_) | split)

theorem State.ilimRetry_keeps {s₀ : State} {s : State} (p : Nat) (h₀ : Keeps s₀ s) : Keeps s₀ (State.ilimRetry s p).1 := by
  unfold State.ilimRetry
  repeat' (first | with_reducible assumption | with_reducible (first | apply State.admitOrigin_keeps | apply State.setHeld_keeps) | split)

theorem State.policedRetry_keeps {s₀ : State} {s : State} (p : Nat) (h₀ : Keeps s₀ s) : Keeps s₀ (State.policedRetry s p).1 := by
  unfold State.policedRetry
  repeat' (first | with_reducible assumption | with_reducible (first | apply State.admitOrigin_keeps | apply State.police_keeps | apply State.setHeld_keeps) | (first | with_reducible refine Keeps.ofPair (by assumption) ?_) | split)

theorem execKl2PacketReceive_keeps {s₀ : State} (cols : List (List (Bool × Byte))) {s : State} (h₀ : Keeps s₀ s) : KeepsOut s₀ (execKl2PacketReceive cols s) := by
  unfold execKl2PacketReceive
  repeat' (first | with_reducible assumption | with_reducible apply State.kl2Receive_keeps | with_reducible apply KeepsOut.ofNext | split)

end Sys2Proof.Machine
end

