-- ==== Sys2Proof/Laws/KeepsBuffer.lean ====
section
/-! SUPPORT. What the operations of Machine/Buffer.lean keep: the queue, the canonical form of the stores, every burnt fuse. -/

namespace Sys2Proof.Machine

theorem State.xswReject_keeps {s₀ : State} {s : State} (h₀ : Keeps s₀ s) : Keeps s₀ (State.xswReject s) := by
  unfold State.xswReject
  repeat' (first | with_reducible assumption | with_reducible apply State.wr_keeps)

theorem State.qlimWrite_keeps {s₀ : State} {s : State} (q : Nat) (w : Nat) (h₀ : Keeps s₀ s) : Keeps s₀ (State.qlimWrite s q w) := by
  unfold State.qlimWrite
  repeat' (first | with_reducible assumption | with_reducible (first | apply State.wr_keeps | apply State.xswReject_keeps) | with_reducible refine Keeps.ofIte (fun _ => ?_) (fun _ => ?_))

theorem State.qrsvWrite_keeps {s₀ : State} {s : State} (q : Nat) (w : Nat) (h₀ : Keeps s₀ s) : Keeps s₀ (State.qrsvWrite s q w) := by
  unfold State.qrsvWrite
  repeat' (first | with_reducible assumption | with_reducible (first | apply State.wr_keeps | apply State.xswReject_keeps) | with_reducible refine Keeps.ofIte (fun _ => ?_) (fun _ => ?_))

theorem State.ilimWrite_keeps {s₀ : State} {s : State} (a : Nat) (w : Nat) (h₀ : Keeps s₀ s) : Keeps s₀ (State.ilimWrite s a w) := by
  unfold State.ilimWrite
  repeat' (first | with_reducible assumption | with_reducible (first | apply State.wr_keeps | apply State.xswReject_keeps) | with_reducible refine Keeps.ofIte (fun _ => ?_) (fun _ => ?_))

theorem State.mirrorWrite_keeps {s₀ : State} {s : State} (k : Nat) (w : Nat) (h₀ : Keeps s₀ s) : Keeps s₀ (State.mirrorWrite s k w) := by
  unfold State.mirrorWrite
  repeat' (first | with_reducible assumption | with_reducible (first | apply State.writeReg_keeps | apply State.xswReject_keeps) | with_reducible refine Keeps.whenIf ?_ _ _ (fun _ _ => ?_))

theorem State.capCfgWrite_keeps {s₀ : State} {s : State} (w : Nat) (h₀ : Keeps s₀ s) : Keeps s₀ (State.capCfgWrite s w) := by
  unfold State.capCfgWrite
  repeat' (first | with_reducible assumption | with_reducible (first | apply State.wr_keeps | apply State.writeReg_keeps | apply State.xswReject_keeps) | with_reducible refine Keeps.ofIte (fun _ => ?_) (fun _ => ?_) | with_reducible refine Keeps.whenIf ?_ _ _ (fun _ _ => ?_))

theorem State.capBaseWrite_keeps {s₀ : State} {s : State} (off : Nat) (w : Nat) (h₀ : Keeps s₀ s) : Keeps s₀ (State.capBaseWrite s off w) := by
  unfold State.capBaseWrite
  repeat' (first | with_reducible assumption | with_reducible (first | apply State.writeReg_keeps | apply State.xswReject_keeps) | split)

theorem State.capRdWrite_keeps {s₀ : State} {s : State} (w : Nat) (h₀ : Keeps s₀ s) : Keeps s₀ (State.capRdWrite s w) := by
  unfold State.capRdWrite
  repeat' (first | with_reducible assumption | with_reducible (first | apply State.wr_keeps | apply State.xswReject_keeps) | split)

theorem State.capStore_keeps {s₀ : State} {s : State} (bs : List Byte) (h₀ : Keeps s₀ s) : Keeps s₀ (State.capStore s bs) := by
  unfold State.capStore
  repeat' (first | with_reducible assumption | with_reducible (first | apply State.dramWrite_keeps | apply State.irq_keeps | apply State.wr_keeps | apply State.wrap_keeps) | with_reducible refine Keeps.ofIte (fun _ => ?_) (fun _ => ?_))

theorem State.capWrite_keeps {s₀ : State} {s : State} (bs : List Byte) (h₀ : Keeps s₀ s) : Keeps s₀ (State.capWrite s bs) := by
  unfold State.capWrite
  repeat' (first | with_reducible assumption | with_reducible (first | apply State.capStore_keeps | apply State.sat_keeps | apply State.wrap_keeps) | split)

theorem State.captureRecord_keeps {s₀ : State} {s : State} (h₀ : Keeps s₀ s) : Keeps s₀ (State.captureRecord s) := by
  unfold State.captureRecord
  repeat' (first | with_reducible assumption | with_reducible (first | apply State.capWrite_keeps | apply State.completeSend_keeps) | split)

theorem State.clearBits_keeps {s₀ : State} {s : State} (F : Field) (n : Nat) (w : Nat) (h₀ : Keeps s₀ s) : Keeps s₀ (State.clearBits s F n w) := by
  unfold State.clearBits
  repeat' (first | with_reducible assumption | with_reducible apply State.wr_keeps | with_reducible refine Keeps.eachOf ?_ _ _ (fun _ _ _ => ?_) | split)

theorem State.xswWrite_keeps {s₀ : State} {s : State} (off : Nat) (w : Nat) (h₀ : Keeps s₀ s) : KeepsOpt s₀ (State.xswWrite s off w) := by
  unfold State.xswWrite
  repeat' (first | with_reducible assumption | with_reducible (first | apply State.capBaseWrite_keeps | apply State.capCfgWrite_keeps | apply State.capRdWrite_keeps | apply State.clearBits_keeps | apply State.ilimWrite_keeps | apply State.mirrorWrite_keeps | apply State.qlimWrite_keeps | apply State.qrsvWrite_keeps) | with_reducible apply KeepsOpt.ofSome | exact KeepsOpt.ofNone | split)

theorem execQlimWrite_keeps {s₀ : State} (q : Fin 192) (w : Word) {s : State} (h₀ : Keeps s₀ s) : KeepsOut s₀ (execQlimWrite q w s) := by
  unfold execQlimWrite
  repeat' (first | with_reducible assumption | with_reducible apply State.qlimWrite_keeps | with_reducible apply KeepsOut.ofNext)

theorem execQrsvWrite_keeps {s₀ : State} (q : Fin 192) (w : Word) {s : State} (h₀ : Keeps s₀ s) : KeepsOut s₀ (execQrsvWrite q w s) := by
  unfold execQrsvWrite
  repeat' (first | with_reducible assumption | with_reducible apply State.qrsvWrite_keeps | with_reducible apply KeepsOut.ofNext)

theorem execMirrorRuleWrite_keeps {s₀ : State} (k : Fin 8) (w : Word) {s : State} (h₀ : Keeps s₀ s) : KeepsOut s₀ (execMirrorRuleWrite k w s) := by
  unfold execMirrorRuleWrite
  repeat' (first | with_reducible assumption | with_reducible apply State.mirrorWrite_keeps | with_reducible apply KeepsOut.ofNext)

theorem execCaptureCfgWrite_keeps {s₀ : State} (w : Word) {s : State} (h₀ : Keeps s₀ s) : KeepsOut s₀ (execCaptureCfgWrite w s) := by
  unfold execCaptureCfgWrite
  repeat' (first | with_reducible assumption | with_reducible apply State.capCfgWrite_keeps | with_reducible apply KeepsOut.ofNext)

theorem execCaptureRdWrite_keeps {s₀ : State} (w : Word) {s : State} (h₀ : Keeps s₀ s) : KeepsOut s₀ (execCaptureRdWrite w s) := by
  unfold execCaptureRdWrite
  repeat' (first | with_reducible assumption | with_reducible apply State.capRdWrite_keeps | with_reducible apply KeepsOut.ofNext)

theorem execCaptureRecordWrite_keeps {s₀ : State} {s : State} (h₀ : Keeps s₀ s) : KeepsOut s₀ (execCaptureRecordWrite s) := by
  unfold execCaptureRecordWrite
  repeat' (first | with_reducible assumption | with_reducible apply State.captureRecord_keeps | with_reducible apply KeepsOut.ofNext)

end Sys2Proof.Machine
end

