-- ==== Sys2Proof/Laws/KeepsEdge.lean ====
section
/-! SUPPORT. What the operations of Machine/Edge.lean keep: the queue, the canonical form of the stores, every burnt fuse. -/

namespace Sys2Proof.Machine

theorem State.edgCount_keeps {s₀ : State} {s : State} (e : Nat) (i : Nat) (h₀ : Keeps s₀ s) : Keeps s₀ (State.edgCount s e i) := by
  unfold State.edgCount
  repeat' (first | with_reducible assumption | with_reducible (first | apply State.sat_keeps | apply State.wrap_keeps) | split)

theorem State.edgeDown_keeps {s₀ : State} {s : State} (e : Nat) (h₀ : Keeps s₀ s) : Keeps s₀ (State.edgeDown s e) := by
  unfold State.edgeDown
  repeat' (first | with_reducible assumption | with_reducible (first | apply State.edgCount_keeps | apply State.guardShow_keeps | apply State.wr_keeps) | split)

theorem State.edgeCheck_keeps {s₀ : State} {s : State} (e : Nat) (h₀ : Keeps s₀ s) : Keeps s₀ (State.edgeCheck s e) := by
  unfold State.edgeCheck
  repeat' (first | with_reducible assumption | with_reducible (first | apply State.edgeDown_keeps | apply State.wr_keeps) | with_reducible refine Keeps.ofIte (fun _ => ?_) (fun _ => ?_))

theorem State.edgeCtrlWrite_keeps {s₀ : State} {s : State} (e : Nat) (w : Nat) (h₀ : Keeps s₀ s) : Keeps s₀ (State.edgeCtrlWrite s e w) := by
  unfold State.edgeCtrlWrite
  repeat' (first | with_reducible assumption | with_reducible (first | apply State.edgeCheck_keeps | apply State.guardShow_keeps | apply State.latencyConfig_keeps | apply State.writeReg_keeps) | with_reducible refine Keeps.whenIf ?_ _ _ (fun _ _ => ?_))

theorem State.edgeUp_keeps {s₀ : State} {s : State} (e : Nat) (inband : Nat) (an : Bool) (h₀ : Keeps s₀ s) : Keeps s₀ (State.edgeUp s e inband an) := by
  unfold State.edgeUp
  repeat' (first | with_reducible assumption | with_reducible (first | apply State.edgCount_keeps | apply State.guardShow_keeps | apply State.latencyTrained_keeps | apply State.wr_keeps) | with_reducible refine Keeps.ofIte (fun _ => ?_) (fun _ => ?_))

theorem State.frameTunnel_keeps {s₀ : State} {s : State} (e : Nat) (n : Nat) (f : List Byte) (h₀ : Keeps s₀ s) : Keeps s₀ (State.frameTunnel s e n f).1 := by
  unfold State.frameTunnel
  repeat' ((with_reducible refine Keeps.upd ?_ rfl; first | with_reducible assumption | with_reducible apply State.originArrive_keeps))

theorem State.frameArrive_keeps {s₀ : State} {s : State} (e : Nat) (bs : List Byte) (h₀ : Keeps s₀ s) : Keeps s₀ (State.frameArrive s e bs).1 := by
  unfold State.frameArrive
  repeat' (first | with_reducible assumption | with_reducible (first | apply State.edgCount_keeps | apply State.frameTunnel_keeps) | with_reducible refine Keeps.ofItePair (fun _ => ?_) (fun _ => ?_) | split)

theorem State.edgClear_keeps {s₀ : State} {s : State} (e : Nat) (w : Nat) (h₀ : Keeps s₀ s) : Keeps s₀ (State.edgClear s e w) := by
  unfold State.edgClear
  repeat' (first | with_reducible assumption | with_reducible apply State.wr_keeps | with_reducible refine Keeps.eachOf ?_ _ _ (fun _ _ _ => ?_) | split)

theorem State.edgWrite_keeps {s₀ : State} {s : State} (off : Nat) (w : Nat) (h₀ : Keeps s₀ s) : KeepsOpt s₀ (State.edgWrite s off w) := by
  unfold State.edgWrite
  repeat' (first | with_reducible assumption | with_reducible (first | apply State.edgClear_keeps | apply State.edgeCtrlWrite_keeps) | with_reducible apply KeepsOpt.ofSome | exact KeepsOpt.ofNone | split)

theorem execEdgeCtrlWrite_keeps {s₀ : State} (e : Fin 8) (w : Word) {s : State} (h₀ : Keeps s₀ s) : KeepsOut s₀ (execEdgeCtrlWrite e w s) := by
  unfold execEdgeCtrlWrite
  repeat' (first | with_reducible assumption | with_reducible apply State.edgeCtrlWrite_keeps | with_reducible apply KeepsOut.ofNext)

theorem execEdgeLinkUp_keeps {s₀ : State} (e : Fin 8) (inband : Fin 3) (an : Bool) {s : State} (h₀ : Keeps s₀ s) : KeepsOut s₀ (execEdgeLinkUp e inband an s) := by
  unfold execEdgeLinkUp
  repeat' (first | with_reducible assumption | with_reducible apply State.edgeUp_keeps | with_reducible apply KeepsOut.ofNext)

theorem execEdgeLinkDown_keeps {s₀ : State} (e : Fin 8) {s : State} (h₀ : Keeps s₀ s) : KeepsOut s₀ (execEdgeLinkDown e s) := by
  unfold execEdgeLinkDown
  repeat' (first | with_reducible assumption | with_reducible apply State.edgeDown_keeps | with_reducible apply KeepsOut.ofNext)

end Sys2Proof.Machine
end

