-- ==== Sys2Proof/Laws/KeepsArrivals.lean ====
section
/-! SUPPORT. What the operations of Machine/Arrivals.lean keep: the queue, the canonical form of the stores, every burnt fuse. -/

namespace Sys2Proof.Machine

theorem State.trunksArrive_keeps {s₀ : State} {s : State} (a0 : List (Nat × List LineBlock)) (h₀ : Keeps s₀ s) : Keeps s₀ (State.trunksArrive s a0).1 := by
  unfold State.trunksArrive
  repeat' (first | with_reducible assumption | with_reducible (first | apply State.trunkArrive_keeps | apply State.trunksArrive_keeps) | split)

theorem State.framesArrive_keeps {s₀ : State} {s : State} (a0 : List (Nat × List Byte)) (h₀ : Keeps s₀ s) : Keeps s₀ (State.framesArrive s a0).1 := by
  unfold State.framesArrive
  repeat' (first | with_reducible assumption | with_reducible (first | apply State.frameArrive_keeps | apply State.framesArrive_keeps) | split)

theorem State.cycleArrive_keeps {s₀ : State} {s : State} (ecc : Nat) (trunks : List (Nat × List LineBlock)) (frames : List (Nat × List Byte)) (h₀ : Keeps s₀ s) : Keeps s₀ (State.cycleArrive s ecc trunks frames) := by
  unfold State.cycleArrive
  repeat' (first | with_reducible assumption | with_reducible (first | apply State.admitCycle_keeps | apply State.framesArrive_keeps | apply State.trunksArrive_keeps))

theorem execTrunkPacketReceive_keeps {s₀ : State} (t : Fin 4) (blocks : List (Nat × List Byte)) (ecc : Fin 4) (done : List (Fin 12)) (flush : Bool) (more : List (Fin 4 × List (Nat × List Byte))) (frames : List (Fin 8 × List Byte)) {s : State} (h₀ : Keeps s₀ s) : KeepsOut s₀ (execTrunkPacketReceive t blocks ecc done flush more frames s) := by
  unfold execTrunkPacketReceive
  repeat' (first | with_reducible assumption | with_reducible (first | apply State.completeSend_keeps | apply State.cycleArrive_keeps | apply State.ddFlush_keeps) | with_reducible apply KeepsOut.ofNext | with_reducible refine Keeps.whenIf ?_ _ _ (fun _ _ => ?_) | with_reducible refine Keeps.eachOf ?_ _ _ (fun _ _ _ => ?_))

theorem execEdgeFrameReceive_keeps {s₀ : State} (e : Fin 8) (bytes : List Byte) (more : List (Fin 8 × List Byte)) {s : State} (h₀ : Keeps s₀ s) : KeepsOut s₀ (execEdgeFrameReceive e bytes more s) := by
  unfold execEdgeFrameReceive
  repeat' (first | with_reducible assumption | with_reducible apply State.cycleArrive_keeps | with_reducible apply KeepsOut.ofNext)

end Sys2Proof.Machine
end

