-- ==== Sys2Proof/Laws/KeepsMains.lean ====
section
/-! SUPPORT. What the operations of Machine/Mains.lean keep: the queue, the canonical form of the stores, every burnt fuse. -/

namespace Sys2Proof.Machine

theorem State.setCycIncr_keeps {s₀ : State} {s : State} (v : Nat) (h₀ : Keeps s₀ s) : Keeps s₀ (State.setCycIncr s v) := by
  unfold State.setCycIncr
  repeat' (first | with_reducible apply State.wr_keeps | (with_reducible refine Keeps.upd ?_ rfl; first | with_reducible assumption | with_reducible apply State.wr_keeps | (with_reducible refine Keeps.upd ?_ rfl; first | with_reducible assumption | with_reducible apply State.wr_keeps)))

theorem State.cycReject_keeps {s₀ : State} {s : State} (h₀ : Keeps s₀ s) : Keeps s₀ (State.cycReject s) := by
  unfold State.cycReject
  repeat' (first | with_reducible assumption | with_reducible (first | apply State.sat_keeps | apply State.wr_keeps))

theorem State.setCycState_keeps {s₀ : State} {s : State} (x : Nat) (h₀ : Keeps s₀ s) : Keeps s₀ (State.setCycState s x) := by
  unfold State.setCycState
  repeat' (first | with_reducible assumption | with_reducible (first | apply State.causeOff_keeps | apply State.setMvalid_keeps | apply State.wr_keeps) | split)

theorem State.cycCtrlWrite_keeps {s₀ : State} {s : State} (w : Nat) (h₀ : Keeps s₀ s) : Keeps s₀ (State.cycCtrlWrite s w) := by
  unfold State.cycCtrlWrite
  repeat' (first | with_reducible (first | apply State.arm_keeps | apply State.causeOff_keeps) | with_reducible refine Keeps.ofIte (fun _ => ?_) (fun _ => ?_) | (with_reducible refine Keeps.upd ?_ rfl; first | with_reducible assumption | with_reducible (first | apply State.arm_keeps | apply State.causeOff_keeps | apply State.disarm_keeps | apply State.setCycState_keeps | apply State.writeReg_keeps)))

theorem State.cycIncrWrite_keeps {s₀ : State} {s : State} (w : Nat) (h₀ : Keeps s₀ s) : Keeps s₀ (State.cycIncrWrite s w) := by
  unfold State.cycIncrWrite
  repeat' (first | with_reducible assumption | with_reducible (first | apply State.sat_keeps | apply State.setCycIncr_keeps | apply State.wr_keeps) | with_reducible refine Keeps.ofIte (fun _ => ?_) (fun _ => ?_))

theorem State.cycIncrHiWrite_keeps {s₀ : State} {s : State} (w : Nat) (h₀ : Keeps s₀ s) : Keeps s₀ (State.cycIncrHiWrite s w) := by
  unfold State.cycIncrHiWrite
  repeat' (first | with_reducible assumption | with_reducible (first | apply State.sat_keeps | apply State.wr_keeps | apply State.writeReg_keeps) | split)

theorem State.cycThrWrite_keeps {s₀ : State} {s : State} (w : Nat) (h₀ : Keeps s₀ s) : Keeps s₀ (State.cycThrWrite s w) := by
  unfold State.cycThrWrite
  repeat' (first | with_reducible assumption | with_reducible (first | apply State.sat_keeps | apply State.writeReg_keeps) | with_reducible refine Keeps.ofIte (fun _ => ?_) (fun _ => ?_) | with_reducible refine Keeps.whenIf ?_ _ _ (fun _ _ => ?_) | intro _)

theorem State.takeEvent_keeps {s₀ : State} {s : State} (a : Nat) (t : Nat) (zc : Bool) (h₀ : Keeps s₀ s) : Keeps s₀ (State.takeEvent s a t zc) := by
  unfold State.takeEvent
  repeat' ((with_reducible refine Keeps.upd ?_ rfl; first | with_reducible assumption))

theorem State.zcEdge_keeps {s₀ : State} {s : State} (fall : Bool) (ago : Nat) (h₀ : Keeps s₀ s) : Keeps s₀ (State.zcEdge s fall ago) := by
  unfold State.zcEdge
  repeat' (first | with_reducible assumption | with_reducible (first | apply State.cycReject_keeps | apply State.takeEvent_keeps) | with_reducible refine Keeps.ofIte (fun _ => ?_) (fun _ => ?_))

theorem State.svCommit_keeps {s₀ : State} {s : State} (w : Nat) (h₀ : Keeps s₀ s) : Keeps s₀ (State.svCommit s w) := by
  unfold State.svCommit
  repeat' (first | with_reducible assumption | with_reducible (first | apply State.cycReject_keeps | apply State.takeEvent_keeps) | with_reducible refine Keeps.ofIte (fun _ => ?_) (fun _ => ?_))

theorem State.acceptEvent_keeps {s₀ : State} {s : State} (e : PhaseEvent) (cand : Nat) (h₀ : Keeps s₀ s) : Keeps s₀ (State.acceptEvent s e cand) := by
  unfold State.acceptEvent
  repeat' (first | with_reducible (first | apply State.arm_keeps | apply State.causeOff_keeps | apply State.wr_keeps) | (with_reducible refine Keeps.upd ?_ rfl; first | with_reducible assumption | with_reducible (first | apply State.arm_keeps | apply State.causeOff_keeps | apply State.disarm_keeps | apply State.setCycIncr_keeps | apply State.setCycState_keeps | apply State.wr_keeps | apply State.wrap_keeps)) | split)

theorem State.mainsLos_keeps {s₀ : State} {s : State} (h₀ : Keeps s₀ s) : Keeps s₀ (State.mainsLos s) := by
  unfold State.mainsLos
  repeat' (first | with_reducible (first | apply State.arm_keeps | apply State.causeOn_keeps) | with_reducible refine Keeps.ofIte (fun _ => ?_) (fun _ => ?_) | (with_reducible refine Keeps.upd ?_ rfl; first | with_reducible assumption | with_reducible (first | apply State.arm_keeps | apply State.causeOn_keeps | apply State.setCycIncr_keeps | apply State.setCycState_keeps | apply State.wr_keeps)))

theorem State.holdoverExpiry_keeps {s₀ : State} {s : State} (h₀ : Keeps s₀ s) : Keeps s₀ (State.holdoverExpiry s) := by
  unfold State.holdoverExpiry
  repeat' (first | with_reducible assumption | with_reducible (first | apply State.causeOn_keeps | apply State.disarm_keeps | apply State.setMvalid_keeps | apply State.wr_keeps) | split)

theorem State.mainsBoundary_keeps {s₀ : State} {s : State} (h₀ : Keeps s₀ s) : Keeps s₀ (State.mainsBoundary s) := by
  unfold State.mainsBoundary
  repeat' (first | with_reducible (first | apply State.irq_keeps | apply State.wr_keeps) | (with_reducible refine Keeps.upd ?_ rfl; first | with_reducible assumption | with_reducible (first | apply State.irq_keeps | apply State.wr_keeps)) | split)

theorem State.processEvent_keeps {s₀ : State} {s : State} (h₀ : Keeps s₀ s) : Keeps s₀ (State.processEvent s) := by
  unfold State.processEvent
  repeat' (first | with_reducible (first | apply State.acceptEvent_keeps | apply State.cycReject_keeps) | with_reducible refine Keeps.ofIte (fun _ => ?_) (fun _ => ?_) | (with_reducible refine Keeps.upd ?_ rfl; first | with_reducible assumption | with_reducible (first | apply State.acceptEvent_keeps | apply State.cycReject_keeps | apply State.mainsBoundary_keeps)) | split)

theorem State.convWrite_keeps {s₀ : State} {s : State} (w : Nat) (h₀ : Keeps s₀ s) : Keeps s₀ (State.convWrite s w) := by
  unfold State.convWrite
  repeat' (first | with_reducible apply State.wr_keeps | (with_reducible refine Keeps.upd ?_ rfl; first | with_reducible assumption | with_reducible apply State.wr_keeps))

theorem State.convDone_keeps {s₀ : State} {s : State} (h₀ : Keeps s₀ s) : Keeps s₀ (State.convDone s) := by
  unfold State.convDone
  repeat' (first | with_reducible apply State.wr_keeps | (with_reducible refine Keeps.upd ?_ rfl; first | with_reducible assumption | with_reducible apply State.wr_keeps) | split)

theorem State.cycWrite_keeps {s₀ : State} {s : State} (off : Nat) (w : Nat) (h₀ : Keeps s₀ s) : KeepsOpt s₀ (State.cycWrite s off w) := by
  unfold State.cycWrite
  repeat' (first | with_reducible assumption | with_reducible (first | apply State.convWrite_keeps | apply State.cycCtrlWrite_keeps | apply State.cycIncrHiWrite_keeps | apply State.cycIncrWrite_keeps | apply State.cycThrWrite_keeps | apply State.svCommit_keeps) | with_reducible apply KeepsOpt.ofSome | exact KeepsOpt.ofNone | split)

theorem execMainsBoundary_keeps {s₀ : State} {s : State} (h₀ : Keeps s₀ s) : KeepsOut s₀ (execMainsBoundary s) := by
  unfold execMainsBoundary
  repeat' (first | with_reducible assumption | with_reducible apply State.mainsBoundary_keeps | with_reducible apply KeepsOut.ofNext)

theorem execCycSrcWrite_keeps {s₀ : State} (w : Word) {s : State} (h₀ : Keeps s₀ s) : KeepsOut s₀ (execCycSrcWrite w s) := by
  unfold execCycSrcWrite
  repeat' (first | with_reducible assumption | with_reducible apply State.cycCtrlWrite_keeps | with_reducible apply KeepsOut.ofNext)

theorem execCycIncrWrite_keeps {s₀ : State} (w : Word) {s : State} (h₀ : Keeps s₀ s) : KeepsOut s₀ (execCycIncrWrite w s) := by
  unfold execCycIncrWrite
  repeat' (first | with_reducible assumption | with_reducible apply State.cycIncrWrite_keeps | with_reducible apply KeepsOut.ofNext)

theorem execMainsZcEdge_keeps {s₀ : State} (fall : Bool) (ago : Nat) {s : State} (h₀ : Keeps s₀ s) : KeepsOut s₀ (execMainsZcEdge fall ago s) := by
  unfold execMainsZcEdge
  repeat' (first | with_reducible assumption | with_reducible apply State.zcEdge_keeps | with_reducible apply KeepsOut.ofNext)

theorem execSvObservation_keeps {s₀ : State} (w : Word) {s : State} (h₀ : Keeps s₀ s) : KeepsOut s₀ (execSvObservation w s) := by
  unfold execSvObservation
  repeat' (first | with_reducible assumption | with_reducible apply State.svCommit_keeps | with_reducible apply KeepsOut.ofNext)

theorem execPhaseEventProcess_keeps {s₀ : State} {s : State} (h₀ : Keeps s₀ s) : KeepsOut s₀ (execPhaseEventProcess s) := by
  unfold execPhaseEventProcess
  repeat' (first | with_reducible assumption | with_reducible apply State.processEvent_keeps | with_reducible apply KeepsOut.ofNext)

theorem execMainsLosExpiry_keeps {s₀ : State} {s : State} (h₀ : Keeps s₀ s) : KeepsOut s₀ (execMainsLosExpiry s) := by
  unfold execMainsLosExpiry
  repeat' (first | with_reducible assumption | with_reducible apply State.mainsLos_keeps | with_reducible apply KeepsOut.ofNext)

theorem execHoldoverExpiry_keeps {s₀ : State} {s : State} (h₀ : Keeps s₀ s) : KeepsOut s₀ (execHoldoverExpiry s) := by
  unfold execHoldoverExpiry
  repeat' (first | with_reducible assumption | with_reducible apply State.holdoverExpiry_keeps | with_reducible apply KeepsOut.ofNext)

theorem execAngleConversion_keeps {s₀ : State} (w : Word) {s : State} (h₀ : Keeps s₀ s) : KeepsOut s₀ (execAngleConversion w s) := by
  unfold execAngleConversion
  repeat' (first | with_reducible assumption | with_reducible apply State.convWrite_keeps | with_reducible apply KeepsOut.ofNext)

theorem execConversionDone_keeps {s₀ : State} {s : State} (h₀ : Keeps s₀ s) : KeepsOut s₀ (execConversionDone s) := by
  unfold execConversionDone
  repeat' (first | with_reducible assumption | with_reducible apply State.convDone_keeps | with_reducible apply KeepsOut.ofNext)

end Sys2Proof.Machine
end

