-- ==== Sys2Proof/Laws/KeepsManager.lean ====
section
/-! SUPPORT. What the operations of Machine/Manager.lean keep: the queue, the canonical form of the stores, every burnt fuse. -/

namespace Sys2Proof.Machine

theorem State.putCtx_keeps {s₀ : State} {s : State} (n : Nat) (c : CtxWords) (h₀ : Keeps s₀ s) : Keeps s₀ (State.putCtx s n c) := by
  unfold State.putCtx
  repeat' (first | with_reducible assumption | with_reducible apply State.wr_keeps)

theorem State.sendFree_keeps {s₀ : State} {s : State} (dest : Nat) (h₀ : Keeps s₀ s) : Keeps s₀ (State.sendFree s dest) := by
  unfold State.sendFree
  repeat' (first | with_reducible assumption | with_reducible (first | apply State.free_keeps | apply State.sendTunnel0_keeps))

theorem State.openSend_keeps {s₀ : State} {s : State} (n : Nat) (h₀ : Keeps s₀ s) : Keeps s₀ (State.openSend s n) := by
  unfold State.openSend
  repeat' ((with_reducible refine Keeps.upd ?_ rfl; first | with_reducible assumption | with_reducible apply State.sendFree_keeps))

theorem State.ctxDone_keeps {s₀ : State} {s : State} (h₀ : Keeps s₀ s) : Keeps s₀ (State.ctxDone s) := by
  unfold State.ctxDone
  repeat' (first | with_reducible assumption | with_reducible (first | apply State.ctxComplete_keeps | apply State.openSend_keeps) | with_reducible refine Keeps.whenIf ?_ _ _ (fun _ _ => ?_))

theorem State.fwOpen_keeps {s₀ : State} {s : State} (n : Nat) (c : CtxWords) (h₀ : Keeps s₀ s) : KeepsOpt s₀ (State.fwOpen s n c) := by
  unfold State.fwOpen
  repeat' (first | with_reducible assumption | with_reducible (first | apply State.ctxDone_keeps | apply State.ctxJudge_keeps | apply State.putCtx_keeps | apply State.wr_keeps) | with_reducible apply KeepsOpt.ofSome | exact KeepsOpt.ofNone | with_reducible refine KeepsOpt.ofIte (fun _ => ?_) (fun _ => ?_))

theorem State.fwActivate_keeps {s₀ : State} {s : State} (n : Nat) (h₀ : Keeps s₀ s) : Keeps s₀ (State.fwActivate s n) := by
  unfold State.fwActivate
  repeat' (first | with_reducible assumption | with_reducible (first | apply State.ctxDone_keeps | apply State.ctxJudge_keeps | apply State.wr_keeps))

theorem State.openRequest_keeps {s₀ : State} {s : State} (origin : Nat) (o : Nat) (l : Nat) (proto : Nat) (ver : Nat) (cls : Nat) (port : Nat) (h₀ : Keeps s₀ s) : Keeps s₀ (State.openRequest s origin o l proto ver cls port) := by
  unfold State.openRequest
  repeat' (first | (extract_lets +onlyGivenNames x; first | (refine (?_ : Keeps s₀ x → _) ?_; rotate_left; subst x; rotate_left; intro hx; clear_value x) | clear_value x) | with_reducible apply State.fwOpen_keeps | (first | exact KeepsOpt.ofNone | with_reducible apply KeepsOpt.ofSome | with_reducible refine Keeps.ofGetD ?_ ?_ | with_reducible refine Keeps.ofOpt (by assumption) ?_ | with_reducible refine KeepsOpt.ofIte (fun _ => ?_) (fun _ => ?_)) | (with_reducible refine Keeps.upd ?_ rfl; first | with_reducible assumption | with_reducible (first | apply State.fwActivate_keeps | apply State.fwOpen_keeps | apply State.sendFree_keeps)) | split)

theorem State.openAnswer_keeps {s₀ : State} {s : State} (o : Nat) (u : Nat) (ver : Nat) (port : Nat) (h₀ : Keeps s₀ s) : Keeps s₀ (State.openAnswer s o u ver port) := by
  unfold State.openAnswer
  repeat' (first | with_reducible assumption | (extract_lets +onlyGivenNames x; first | (refine (?_ : Keeps s₀ x → _) ?_; rotate_left; subst x; rotate_left; intro hx; clear_value x) | (refine (?_ : (∀ y z, Keeps s₀ y → Keeps s₀ (x y z)) → _) ?_; rotate_left; subst x; intros; rotate_left; intro hx; clear_value x) | clear_value x) | with_reducible apply hx | with_reducible (first | apply State.fwActivate_keeps | apply State.fwOpen_keeps | apply State.wr_keeps) | (first | exact KeepsOpt.ofNone | with_reducible apply KeepsOpt.ofSome | with_reducible refine Keeps.ofGetD ?_ ?_ | with_reducible refine Keeps.ofOpt (by assumption) ?_ | with_reducible refine KeepsOpt.ofIte (fun _ => ?_) (fun _ => ?_)) | split)

theorem State.helloSend_keeps {s₀ : State} {s : State} (sm : Nat) (ready : Nat) (h₀ : Keeps s₀ s) : Keeps s₀ (State.helloSend s sm ready) := by
  unfold State.helloSend
  repeat' (first | (with_reducible refine Keeps.upd ?_ rfl; first | with_reducible assumption | with_reducible (first | apply State.arm_keeps | apply State.sendTunnel0_keeps)) | split)

theorem State.helloReceive_keeps {s₀ : State} {s : State} (src : Nat) (b : List Byte) (h₀ : Keeps s₀ s) : Keeps s₀ (State.helloReceive s src b) := by
  unfold State.helloReceive
  repeat' (first | with_reducible refine Keeps.ofIte (fun _ => ?_) (fun _ => ?_) | with_reducible refine Keeps.eachOf ?_ _ _ (fun _ _ _ => ?_) | (with_reducible refine Keeps.upd ?_ rfl; first | with_reducible assumption | with_reducible (first | apply State.arm_keeps | apply State.dramWrite_keeps | apply State.wr_keeps) | (with_reducible refine Keeps.upd ?_ rfl; first | with_reducible assumption | with_reducible (first | apply State.arm_keeps | apply State.dramWrite_keeps | apply State.wr_keeps))))

theorem State.helloLoss_keeps {s₀ : State} {s : State} (pfx : Nat) (h₀ : Keeps s₀ s) : Keeps s₀ (State.helloLoss s pfx) := by
  unfold State.helloLoss
  repeat' (first | with_reducible assumption | with_reducible (first | apply State.arm_keeps | apply State.dramWrite_keeps) | with_reducible refine Keeps.ofIte (fun _ => ?_) (fun _ => ?_) | with_reducible refine Keeps.eachOf ?_ _ _ (fun _ _ _ => ?_))

theorem execCtxcmdComplete_keeps {s₀ : State} {s : State} (h₀ : Keeps s₀ s) : KeepsOut s₀ (execCtxcmdComplete s) := by
  unfold execCtxcmdComplete
  repeat' (first | with_reducible assumption | with_reducible apply State.ctxDone_keeps | with_reducible apply KeepsOut.ofNext)

theorem execTunnelOpenRequest_keeps {s₀ : State} (origin : BitVec 25) (o : Fin 253) (l : Fin 128) (proto : Fin 16) (ver : Fin 16) (cls : Fin 8) (port : Fin 32) {s : State} (h₀ : Keeps s₀ s) : KeepsOut s₀ (execTunnelOpenRequest origin o l proto ver cls port s) := by
  unfold execTunnelOpenRequest
  repeat' (first | with_reducible assumption | with_reducible apply State.openRequest_keeps | with_reducible apply KeepsOut.ofNext)

theorem execTunnelOpenAnswer_keeps {s₀ : State} (o : Fin 253) (u : Fin 253) (ver : Fin 16) (port : Fin 32) {s : State} (h₀ : Keeps s₀ s) : KeepsOut s₀ (execTunnelOpenAnswer o u ver port s) := by
  unfold execTunnelOpenAnswer
  repeat' (first | with_reducible assumption | with_reducible apply State.openAnswer_keeps | with_reducible apply KeepsOut.ofNext)

theorem execHelloSend_keeps {s₀ : State} (sm : BitVec 25) (ready : BitVec 128) {s : State} (h₀ : Keeps s₀ s) : KeepsOut s₀ (execHelloSend sm ready s) := by
  unfold execHelloSend
  repeat' (first | with_reducible assumption | with_reducible apply State.helloSend_keeps | with_reducible apply KeepsOut.ofNext)

theorem execHelloReceive_keeps {s₀ : State} (src : BitVec 25) (bytes : List Byte) {s : State} (h₀ : Keeps s₀ s) : KeepsOut s₀ (execHelloReceive src bytes s) := by
  unfold execHelloReceive
  repeat' (first | with_reducible assumption | with_reducible apply State.helloReceive_keeps | with_reducible apply KeepsOut.ofNext)

theorem execHelloLoss_keeps {s₀ : State} (pfx : BitVec 18) {s : State} (h₀ : Keeps s₀ s) : KeepsOut s₀ (execHelloLoss pfx s) := by
  unfold execHelloLoss
  repeat' (first | with_reducible assumption | with_reducible apply State.helloLoss_keeps | with_reducible apply KeepsOut.ofNext)

end Sys2Proof.Machine
end

