-- ==== Sys2Proof/Laws/KeepsEngines.lean ====
section
/-! SUPPORT. What the operations of Machine/Engines.lean keep: the queue, the canonical form of the stores, every burnt fuse. -/

namespace Sys2Proof.Machine

theorem State.tenCount_keeps {s₀ : State} {s : State} (i : Nat) (h₀ : Keeps s₀ s) : Keeps s₀ (State.tenCount s i) := by
  unfold State.tenCount
  repeat' (first | with_reducible assumption | with_reducible apply State.sat_keeps)

theorem State.setRsp_keeps {s₀ : State} {s : State} (n : Nat) (m : Nat) (k : Nat) (v : Nat) (h₀ : Keeps s₀ s) : Keeps s₀ (State.setRsp s n m k v) := by
  unfold State.setRsp
  repeat' (first | with_reducible assumption | with_reducible apply State.wr_keeps | split)

theorem State.mbxReject_keeps {s₀ : State} {s : State} (h₀ : Keeps s₀ s) : Keeps s₀ (State.mbxReject s) := by
  unfold State.mbxReject
  repeat' (first | with_reducible assumption | with_reducible apply State.tenCount_keeps)

theorem State.mbxGo_keeps {s₀ : State} {s : State} (n : Nat) (m : Nat) (h₀ : Keeps s₀ s) : Keeps s₀ (State.mbxGo s n m) := by
  unfold State.mbxGo
  repeat' (first | (with_reducible refine Keeps.upd ?_ rfl; first | with_reducible assumption | with_reducible (first | apply State.arm_keeps | apply State.mbxEnd_keeps | apply State.mbxReject_keeps | apply State.wr_keeps) | (with_reducible refine Keeps.upd ?_ rfl; first | with_reducible assumption | with_reducible (first | apply State.arm_keeps | apply State.mbxEnd_keeps | apply State.mbxReject_keeps | apply State.wr_keeps))) | split)

theorem State.mbxSubmit_keeps {s₀ : State} {s : State} (n : Nat) (m : Nat) (op : Nat) (e : Nat) (h₀ : Keeps s₀ s) : Keeps s₀ (State.mbxSubmit s n m op e) := by
  unfold State.mbxSubmit
  repeat' (first | with_reducible assumption | with_reducible (first | apply State.mbxGo_keeps | apply State.wr_keeps))

theorem State.mbxCtrlWrite_keeps {s₀ : State} {s : State} (n : Nat) (m : Nat) (w : Nat) (h₀ : Keeps s₀ s) : Keeps s₀ (State.mbxCtrlWrite s n m w) := by
  unfold State.mbxCtrlWrite
  repeat' (first | with_reducible assumption | with_reducible (first | apply State.mbxGo_keeps | apply State.writeFields_keeps) | with_reducible refine Keeps.whenIf ?_ _ _ (fun _ _ => ?_))

theorem State.mbxTimeout_keeps {s₀ : State} {s : State} (n : Nat) (m : Nat) (h₀ : Keeps s₀ s) : Keeps s₀ (State.mbxTimeout s n m) := by
  unfold State.mbxTimeout
  repeat' (first | (with_reducible refine Keeps.upd ?_ rfl; first | with_reducible assumption | with_reducible apply State.mbxEnd_keeps) | split)

theorem State.mbxLate_keeps {s₀ : State} {s : State} (n : Nat) (m : Nat) (h₀ : Keeps s₀ s) : Keeps s₀ (State.mbxLate s n m) := by
  unfold State.mbxLate
  repeat' ((with_reducible refine Keeps.upd ?_ rfl; first | with_reducible assumption | with_reducible apply State.tenCount_keeps | (with_reducible refine Keeps.upd ?_ rfl; first | with_reducible assumption | with_reducible apply State.tenCount_keeps)))

theorem State.haltEngine_keeps {s₀ : State} {s : State} (n : Nat) (c : EngCause) (h₀ : Keeps s₀ s) : Keeps s₀ (State.haltEngine s n c) := by
  unfold State.haltEngine
  repeat' (first | with_reducible assumption | with_reducible (first | apply State.arm_keeps | apply State.causeOn_keeps | apply State.stopEngine_keeps | apply State.wr_keeps))

theorem State.enableEngine_keeps {s₀ : State} {s : State} (n : Nat) (h₀ : Keeps s₀ s) : Keeps s₀ (State.enableEngine s n) := by
  unfold State.enableEngine
  repeat' (first | with_reducible assumption | with_reducible (first | apply State.pauseEngine_keeps | apply State.startEngine_keeps | apply State.wr_keeps) | with_reducible refine Keeps.ofIte (fun _ => ?_) (fun _ => ?_))

theorem State.disableEngine_keeps {s₀ : State} {s : State} (n : Nat) (h₀ : Keeps s₀ s) : Keeps s₀ (State.disableEngine s n) := by
  unfold State.disableEngine
  repeat' (first | with_reducible assumption | with_reducible (first | apply State.causeOff_keeps | apply State.stopEngine_keeps))

theorem State.engCtrlWrite_keeps {s₀ : State} {s : State} (n : Nat) (w : Nat) (h₀ : Keeps s₀ s) : Keeps s₀ (State.engCtrlWrite s n w) := by
  unfold State.engCtrlWrite
  repeat' (first | with_reducible assumption | with_reducible (first | apply State.disableEngine_keeps | apply State.enableEngine_keeps | apply State.offStart_keeps | apply State.writeReg_keeps) | with_reducible refine Keeps.ofIte (fun _ => ?_) (fun _ => ?_))

theorem State.shiftTimers_keeps {s₀ : State} {s : State} (n : Nat) (h₀ : Keeps s₀ s) : Keeps s₀ (State.shiftTimers s n) := by
  unfold State.shiftTimers
  repeat' ((with_reducible refine Keeps.upd ?_ rfl; first | with_reducible assumption))

theorem State.blockWord_keeps {s₀ : State} {s : State} (e : Nat) (k : Nat) (h₀ : Keeps s₀ s) : Keeps s₀ (State.blockWord s e k).1 := by
  unfold State.blockWord
  repeat' (first | with_reducible assumption | with_reducible (first | apply State.sat_keeps | apply State.wr_keeps) | with_reducible refine Keeps.ofItePair (fun _ => ?_) (fun _ => ?_))

theorem State.readBlock_keeps {s₀ : State} {s : State} (e : Nat) (h₀ : Keeps s₀ s) : Keeps s₀ (State.readBlock s e) := by
  unfold State.readBlock
  repeat' ((with_reducible refine Keeps.upd ?_ rfl; first | with_reducible assumption | with_reducible apply State.blockWord_keeps))

theorem State.resumeEntry_keeps {s₀ : State} {s : State} (e : Nat) (h₀ : Keeps s₀ s) : Keeps s₀ (State.resumeEntry s e) := by
  unfold State.resumeEntry
  repeat' (first | with_reducible assumption | with_reducible (first | apply State.readBlock_keeps | apply State.wr_keeps) | split)

theorem State.engineReady_keeps {s₀ : State} {s : State} (n : Nat) (h₀ : Keeps s₀ s) : Keeps s₀ (State.engineReady s n) := by
  unfold State.engineReady
  repeat' (first | with_reducible refine Keeps.eachOf ?_ _ _ (fun _ _ _ => ?_) | (with_reducible refine Keeps.upd ?_ rfl; first | with_reducible assumption | with_reducible (first | apply State.disarm_keeps | apply State.resumeEntry_keeps | apply State.shiftTimers_keeps | apply State.wr_keeps)) | split)

theorem State.haltRunning_keeps {s₀ : State} {s : State} (n : Nat) (c : EngCause) (h₀ : Keeps s₀ s) : Keeps s₀ (State.haltRunning s n c) := by
  unfold State.haltRunning
  repeat' (first | with_reducible assumption | with_reducible apply State.haltEngine_keeps | split)

theorem State.restartEngine_keeps {s₀ : State} {s : State} (n : Nat) (h₀ : Keeps s₀ s) : Keeps s₀ (State.restartEngine s n) := by
  unfold State.restartEngine
  repeat' (first | with_reducible refine Keeps.ofIte (fun _ => ?_) (fun _ => ?_) | (with_reducible refine Keeps.upd ?_ rfl; first | with_reducible assumption | with_reducible (first | apply State.disarm_keeps | apply State.sat_keeps | apply State.startEngine_keeps)))

theorem State.kickEngine_keeps {s₀ : State} {s : State} (n : Nat) (h₀ : Keeps s₀ s) : Keeps s₀ (State.kickEngine s n) := by
  unfold State.kickEngine
  repeat' ((with_reducible refine Keeps.upd ?_ rfl; first | with_reducible assumption))

theorem State.resumeEngines_keeps {s₀ : State} {s : State} (h₀ : Keeps s₀ s) : Keeps s₀ (State.resumeEngines s) := by
  unfold State.resumeEngines
  repeat' (first | with_reducible assumption | with_reducible apply State.startEngine_keeps | with_reducible refine Keeps.eachOf ?_ _ _ (fun _ _ _ => ?_) | split)

theorem State.svcReject_keeps {s₀ : State} {s : State} (h₀ : Keeps s₀ s) : Keeps s₀ (State.svcReject s) := by
  unfold State.svcReject
  repeat' (first | with_reducible assumption | with_reducible apply State.wr_keeps)

theorem State.clearEntry_keeps {s₀ : State} {s : State} (e : Nat) (h₀ : Keeps s₀ s) : Keeps s₀ (State.clearEntry s e) := by
  unfold State.clearEntry
  repeat' ((with_reducible refine Keeps.upd ?_ rfl; first | with_reducible assumption | with_reducible apply State.loseEdges_keeps))

theorem State.bindEntry_keeps {s₀ : State} {s : State} (e : Nat) (w : Nat) (h₀ : Keeps s₀ s) : Keeps s₀ (State.bindEntry s e w) := by
  unfold State.bindEntry
  repeat' (first | with_reducible assumption | (extract_lets +onlyGivenNames x; first | (refine (?_ : Keeps s₀ x → _) ?_; rotate_left; subst x; rotate_left; intro hx; clear_value x) | clear_value x) | with_reducible (first | apply State.clearEntry_keeps | apply State.svcReject_keeps | apply State.wr_keeps | apply State.writeFields_keeps) | split)

theorem State.unbindEntry_keeps {s₀ : State} {s : State} (e : Nat) (w : Nat) (h₀ : Keeps s₀ s) : Keeps s₀ (State.unbindEntry s e w) := by
  unfold State.unbindEntry
  repeat' (first | (extract_lets +onlyGivenNames x; first | (refine (?_ : Keeps s₀ x → _) ?_; rotate_left; subst x; rotate_left; intro hx; clear_value x) | clear_value x) | with_reducible refine Keeps.eachOf ?_ _ _ (fun _ _ _ => ?_) | (with_reducible refine Keeps.upd ?_ rfl; first | with_reducible assumption | with_reducible (first | apply State.loseBlock_keeps | apply State.loseEdges_keeps | apply State.tenCount_keeps | apply State.wr_keeps | apply State.writeFields_keeps)))

theorem State.svcWordWrite_keeps {s₀ : State} {s : State} (e : Nat) (k : Nat) (w : Nat) (h₀ : Keeps s₀ s) : Keeps s₀ (State.svcWordWrite s e k w) := by
  unfold State.svcWordWrite
  repeat' (first | with_reducible assumption | with_reducible (first | apply State.bindEntry_keeps | apply State.svcReject_keeps | apply State.unbindEntry_keeps | apply State.writeReg_keeps) | split)

theorem State.deliverEngine_keeps {s₀ : State} {s : State} (e : Nat) (p : Packet) (h₀ : Keeps s₀ s) : Keeps s₀ (State.deliverEngine s e p) := by
  unfold State.deliverEngine
  repeat' ((with_reducible refine Keeps.upd ?_ rfl; first | with_reducible assumption))

theorem State.takeInbound_keeps {s₀ : State} {s : State} (e : Nat) (h₀ : Keeps s₀ s) : Keeps s₀ (State.takeInbound s e).1 := by
  unfold State.takeInbound
  repeat' (first | (extract_lets +onlyGivenNames x; first | (refine (?_ : Keeps s₀ x → _) ?_; rotate_left; subst x; rotate_left; intro hx; clear_value x) | clear_value x) | (with_reducible refine Keeps.upd ?_ rfl; first | with_reducible assumption) | split)

theorem State.phaseTake_keeps {s₀ : State} {s : State} (e : Nat) (f : List Byte) (h₀ : Keeps s₀ s) : Keeps s₀ (State.phaseTake s e f) := by
  unfold State.phaseTake
  repeat' (first | (with_reducible refine Keeps.upd ?_ rfl; first | with_reducible assumption) | split)

theorem State.takeAtOnce_keeps {s₀ : State} {s : State} (e : Nat) (h₀ : Keeps s₀ s) : Keeps s₀ (State.takeAtOnce s e) := by
  unfold State.takeAtOnce
  repeat' (first | with_reducible assumption | with_reducible (first | apply State.helloReceive_keeps | apply State.phaseTake_keeps | apply State.takeInbound_keeps) | with_reducible refine Keeps.ofIte (fun _ => ?_) (fun _ => ?_) | (first | with_reducible refine Keeps.ofPair (by assumption) ?_) | split)

theorem State.dispatch_keeps {s₀ : State} {s : State} (k : Nat) (h₀ : Keeps s₀ s) : Keeps s₀ (State.dispatch s k) := by
  unfold State.dispatch
  repeat' (first | with_reducible assumption | with_reducible (first | apply State.completeSend_keeps | apply State.deliverEngine_keeps | apply State.takeAtOnce_keeps | apply State.tenCount_keeps) | with_reducible refine Keeps.ofIte (fun _ => ?_) (fun _ => ?_) | split)

theorem State.svcErr_keeps {s₀ : State} {s : State} (e : Nat) (h₀ : Keeps s₀ s) : Keeps s₀ (State.svcErr s e) := by
  unfold State.svcErr
  repeat' ((with_reducible refine Keeps.upd ?_ rfl; first | with_reducible assumption))

theorem State.sendNow_keeps {s₀ : State} {s : State} (e : Nat) (payload : List Byte) (h₀ : Keeps s₀ s) : Keeps s₀ (State.sendNow s e payload) := by
  unfold State.sendNow
  repeat' ((with_reducible refine Keeps.upd ?_ rfl; first | with_reducible assumption | with_reducible apply State.originSend_keeps))

theorem State.sendAll_keeps {s₀ : State} {s : State} (p : Nat) (a0 : List (Nat × List Byte)) (h₀ : Keeps s₀ s) : Keeps s₀ (State.sendAll s p a0).1 := by
  unfold State.sendAll
  repeat' (first | with_reducible assumption | with_reducible (first | apply State.sendAll_keeps | apply State.sendNow_keeps) | split)

theorem State.flushCluster_keeps {s₀ : State} {s : State} (k : Nat) (h₀ : Keeps s₀ s) : Keeps s₀ (State.flushCluster s k) := by
  unfold State.flushCluster
  repeat' ((with_reducible refine Keeps.upd ?_ rfl; first | with_reducible assumption | with_reducible apply State.sendAll_keeps))

theorem State.engineSend_keeps {s₀ : State} {s : State} (e : Nat) (payload : List Byte) (h₀ : Keeps s₀ s) : Keeps s₀ (State.engineSend s e payload) := by
  unfold State.engineSend
  repeat' (first | (with_reducible refine Keeps.upd ?_ rfl; first | with_reducible assumption | with_reducible apply State.flushCluster_keeps) | split)

theorem State.setCur_keeps {s₀ : State} {s : State} (e : Nat) (l : List Byte) (h₀ : Keeps s₀ s) : Keeps s₀ (State.setCur s e l) := by
  unfold State.setCur
  repeat' ((with_reducible refine Keeps.upd ?_ rfl; first | with_reducible assumption))

theorem State.openPayload_keeps {s₀ : State} {s : State} (e : Nat) (h₀ : Keeps s₀ s) : Keeps s₀ (State.openPayload s e) := by
  unfold State.openPayload
  repeat' (first | with_reducible assumption | with_reducible (first | apply State.setCur_keeps | apply State.takeInbound_keeps) | (first | with_reducible refine Keeps.ofPair (by assumption) ?_) | split)

theorem State.nextMessage_keeps {s₀ : State} {s : State} (e : Nat) (bad : State → State) (good : List Byte → Bool) (a0 : Nat) (h₀ : Keeps s₀ s) (g_bad : ∀ x, Keeps s₀ x → Keeps s₀ (bad x)) : Keeps s₀ (State.nextMessage s e bad good a0).1 := by
  unfold State.nextMessage
  repeat' (first | with_reducible assumption | (with_reducible first | apply g_bad) | with_reducible (first | apply State.nextMessage_keeps | apply State.setCur_keeps) | with_reducible refine Keeps.ofItePair (fun _ => ?_) (fun _ => ?_) | split)

theorem State.takeMessage_keeps {s₀ : State} {s : State} (e : Nat) (ty : Nat) (tys : List Nat) (bad : State → State) (good : List Byte → Bool) (h₀ : Keeps s₀ s) (g_bad : ∀ x, Keeps s₀ x → Keeps s₀ (bad x)) : Keeps s₀ (State.takeMessage s e ty tys bad good).1 := by
  unfold State.takeMessage
  repeat' (first | with_reducible assumption | (extract_lets +onlyGivenNames x; first | (refine (?_ : Keeps s₀ x → _) ?_; rotate_left; subst x; rotate_left; intro hx; clear_value x) | (refine (?_ : Keeps s₀ x.1 → _) ?_; rotate_left; subst x; rotate_left; intro hx; clear_value x) | clear_value x) | with_reducible (first | apply State.nextMessage_keeps | apply State.openPayload_keeps | apply State.setCur_keeps) | (first | with_reducible refine Keeps.ofPair (by assumption) ?_) | split)

theorem State.eventTake_keeps {s₀ : State} {s : State} (h₀ : Keeps s₀ s) : Keeps s₀ (State.eventTake s) := by
  unfold State.eventTake
  repeat' (first | (extract_lets +onlyGivenNames x; first | (refine (?_ : Keeps s₀ x → _) ?_; rotate_left; subst x; rotate_left; intro hx; clear_value x) | clear_value x) | with_reducible refine Keeps.eachOf ?_ _ _ (fun _ _ _ => ?_) | (with_reducible refine Keeps.upd ?_ rfl; first | with_reducible assumption))

theorem State.eventSend_keeps {s₀ : State} {s0 : State} (e : Nat) (h₀ : Keeps s₀ s0) : Keeps s₀ (State.eventSend s0 e) := by
  unfold State.eventSend
  repeat' (first | with_reducible refine Keeps.ofIte (fun _ => ?_) (fun _ => ?_) | (with_reducible refine Keeps.upd ?_ rfl; first | with_reducible assumption | with_reducible (first | apply State.engineSend_keeps | apply State.eventTake_keeps)) | split)

theorem State.phaseCycle_keeps {s₀ : State} {s : State} (e : Nat) (h₀ : Keeps s₀ s) : Keeps s₀ (State.phaseCycle s e) := by
  unfold State.phaseCycle
  repeat' (first | with_reducible refine Keeps.ofIte (fun _ => ?_) (fun _ => ?_) | (with_reducible refine Keeps.upd ?_ rfl; first | with_reducible assumption | with_reducible (first | apply State.free_keeps | apply State.svCommit_keeps | apply State.wrFree_keeps)))

theorem State.setRead_keeps {s₀ : State} {s : State} (m : Nat) (v : Nat) (bad : Bool) (h₀ : Keeps s₀ s) : Keeps s₀ (State.setRead s m v bad) := by
  unfold State.setRead
  repeat' ((with_reducible refine Keeps.upd ?_ rfl; first | with_reducible assumption))

theorem State.padDeny_keeps {s₀ : State} {s : State} (a : PadAccess) (h₀ : Keeps s₀ s) : Keeps s₀ (State.padDeny s a) := by
  unfold State.padDeny
  repeat' (first | with_reducible assumption | with_reducible (first | apply State.sat_keeps | apply State.setRead_keeps | apply State.wr_keeps) | split)

theorem State.padWrite_keeps {s₀ : State} {s : State} (b : Nat) (a : PadAccess) (h₀ : Keeps s₀ s) : Keeps s₀ (State.padWrite s b a) := by
  unfold State.padWrite
  repeat' (first | with_reducible assumption | with_reducible apply State.setPadByte_keeps | with_reducible refine Keeps.eachOf ?_ _ _ (fun _ _ _ => ?_) | split)

theorem State.padRead_keeps {s₀ : State} {s : State} (b : Nat) (a : PadAccess) (h₀ : Keeps s₀ s) : Keeps s₀ (State.padRead s b a) := by
  unfold State.padRead
  repeat' (first | with_reducible assumption | with_reducible (first | apply State.fault_keeps | apply State.haltEngine_keeps | apply State.sat_keeps | apply State.setRead_keeps | apply State.wr_keeps) | with_reducible refine Keeps.ofIte (fun _ => ?_) (fun _ => ?_) | split)

theorem State.padGrant_keeps {s₀ : State} {s : State} (b : Nat) (a : PadAccess) (h₀ : Keeps s₀ s) : Keeps s₀ (State.padGrant s b a) := by
  unfold State.padGrant
  repeat' (first | with_reducible assumption | with_reducible (first | apply State.padRead_keeps | apply State.padWrite_keeps) | split)

theorem State.padCollide_keeps {s₀ : State} {s : State} (b : Nat) (win : PadAccess) (lose : PadAccess) (h₀ : Keeps s₀ s) : Keeps s₀ (State.padCollide s b win lose) := by
  unfold State.padCollide
  repeat' (first | with_reducible assumption | with_reducible (first | apply State.sat_keeps | apply State.wr_keeps) | with_reducible refine Keeps.ofIte (fun _ => ?_) (fun _ => ?_))

theorem State.padCycle_keeps {s₀ : State} {s : State} (b : Nat) (l : List PadAccess) (h₀ : Keeps s₀ s) : Keeps s₀ (State.padCycle s b l) := by
  unfold State.padCycle
  repeat' (first | (extract_lets +onlyGivenNames x; first | (refine (?_ : Keeps s₀ x → _) ?_; rotate_left; subst x; rotate_left; intro hx; clear_value x) | clear_value x) | with_reducible refine Keeps.eachOf ?_ _ _ (fun _ _ _ => ?_) | (with_reducible refine Keeps.upd ?_ rfl; first | with_reducible assumption | with_reducible (first | apply State.padCollide_keeps | apply State.padDeny_keeps | apply State.padGrant_keeps | apply State.sat_keeps)) | split)

theorem State.ownWrite_keeps {s₀ : State} {s : State} (b : Nat) (m : Nat) (w : Nat) (h₀ : Keeps s₀ s) : Keeps s₀ (State.ownWrite s b m w) := by
  unfold State.ownWrite
  repeat' (first | with_reducible refine Keeps.ofIte (fun _ => ?_) (fun _ => ?_) | (with_reducible refine Keeps.upd ?_ rfl; first | with_reducible assumption | with_reducible apply State.wr_keeps))

theorem State.ownDone_keeps {s₀ : State} {s : State} (b : Nat) (h₀ : Keeps s₀ s) : Keeps s₀ (State.ownDone s b) := by
  unfold State.ownDone
  repeat' (first | (with_reducible refine Keeps.upd ?_ rfl; first | with_reducible assumption | with_reducible apply State.wr_keeps) | split)

theorem State.mstatWrite_keeps {s₀ : State} {s : State} (m : Nat) (w : Nat) (h₀ : Keeps s₀ s) : Keeps s₀ (State.mstatWrite s m w) := by
  unfold State.mstatWrite
  repeat' (first | with_reducible assumption | with_reducible (first | apply State.wr_keeps | apply State.writeReg_keeps) | with_reducible refine Keeps.whenIf ?_ _ _ (fun _ _ => ?_))

theorem State.imageSlotWrite_keeps {s₀ : State} {s : State} (i : Nat) (isLen : Bool) (w : Nat) (h₀ : Keeps s₀ s) : Keeps s₀ (State.imageSlotWrite s i isLen w) := by
  unfold State.imageSlotWrite
  repeat' (first | with_reducible assumption | with_reducible (first | apply State.wr_keeps | apply State.writeReg_keeps) | split)

theorem State.engWrite_keeps {s₀ : State} {s : State} (n : Nat) (r : Nat) (w : Nat) (mgmt : Bool) (h₀ : Keeps s₀ s) : Keeps s₀ (State.engWrite s n r w mgmt) := by
  unfold State.engWrite
  repeat' (first | with_reducible assumption | with_reducible (first | apply State.engCtrlWrite_keeps | apply State.mbxCtrlWrite_keeps | apply State.mbxReject_keeps | apply State.writeReg_keeps) | split)

theorem State.tenWrite_keeps {s₀ : State} {s : State} (off : Nat) (w : Nat) (mgmt : Bool) (h₀ : Keeps s₀ s) : KeepsOpt s₀ (State.tenWrite s off w mgmt) := by
  unfold State.tenWrite
  repeat' (first | with_reducible assumption | (extract_lets +onlyGivenNames x; first | (refine (?_ : Keeps s₀ x → _) ?_; rotate_left; subst x; rotate_left; intro hx; clear_value x) | clear_value x) | with_reducible (first | apply State.engWrite_keeps | apply State.imageSlotWrite_keeps | apply State.mstatWrite_keeps | apply State.ownWrite_keeps | apply State.svcWordWrite_keeps | apply State.wr_keeps) | with_reducible apply KeepsOpt.ofSome | exact KeepsOpt.ofNone | with_reducible refine Keeps.eachOf ?_ _ _ (fun _ _ _ => ?_) | split)

theorem execEngineEnable_keeps {s₀ : State} (n : Fin 16) {s : State} (h₀ : Keeps s₀ s) : KeepsOut s₀ (execEngineEnable n s) := by
  unfold execEngineEnable
  repeat' (first | with_reducible assumption | with_reducible (first | apply State.enableEngine_keeps | apply State.offStart_keeps | apply State.wr_keeps) | with_reducible apply KeepsOut.ofNext | split)

theorem execEngineDisable_keeps {s₀ : State} (n : Fin 16) {s : State} (h₀ : Keeps s₀ s) : KeepsOut s₀ (execEngineDisable n s) := by
  unfold execEngineDisable
  repeat' (first | with_reducible assumption | with_reducible (first | apply State.disableEngine_keeps | apply State.wr_keeps) | with_reducible apply KeepsOut.ofNext | split)

theorem execEngineReady_keeps {s₀ : State} (n : Fin 16) {s : State} (h₀ : Keeps s₀ s) : KeepsOut s₀ (execEngineReady n s) := by
  unfold execEngineReady
  repeat' (first | with_reducible assumption | with_reducible apply State.engineReady_keeps | with_reducible apply KeepsOut.ofNext)

theorem execEngineStartTimeout_keeps {s₀ : State} (n : Fin 16) {s : State} (h₀ : Keeps s₀ s) : KeepsOut s₀ (execEngineStartTimeout n s) := by
  unfold execEngineStartTimeout
  repeat' (first | with_reducible assumption | with_reducible apply State.haltEngine_keeps | with_reducible apply KeepsOut.ofNext | split)

theorem execEngineWatchdogKick_keeps {s₀ : State} (n : Fin 16) {s : State} (h₀ : Keeps s₀ s) : KeepsOut s₀ (execEngineWatchdogKick n s) := by
  unfold execEngineWatchdogKick
  repeat' (first | with_reducible assumption | with_reducible apply State.kickEngine_keeps | with_reducible apply KeepsOut.ofNext)

theorem execEngineWatchdog_keeps {s₀ : State} (n : Fin 16) {s : State} (h₀ : Keeps s₀ s) : KeepsOut s₀ (execEngineWatchdog n s) := by
  unfold execEngineWatchdog
  repeat' (first | with_reducible assumption | with_reducible apply State.haltRunning_keeps | with_reducible apply KeepsOut.ofNext | split)

theorem execEngineTrap_keeps {s₀ : State} (n : Fin 16) {s : State} (h₀ : Keeps s₀ s) : KeepsOut s₀ (execEngineTrap n s) := by
  unfold execEngineTrap
  repeat' (first | with_reducible assumption | with_reducible apply State.haltRunning_keeps | with_reducible apply KeepsOut.ofNext)

theorem execEngineEccHalt_keeps {s₀ : State} (n : Fin 16) {s : State} (h₀ : Keeps s₀ s) : KeepsOut s₀ (execEngineEccHalt n s) := by
  unfold execEngineEccHalt
  repeat' (first | with_reducible assumption | with_reducible apply State.haltRunning_keeps | with_reducible apply KeepsOut.ofNext)

theorem execEngineRestart_keeps {s₀ : State} (n : Fin 16) {s : State} (h₀ : Keeps s₀ s) : KeepsOut s₀ (execEngineRestart n s) := by
  unfold execEngineRestart
  repeat' (first | with_reducible assumption | with_reducible apply State.restartEngine_keeps | with_reducible apply KeepsOut.ofNext)

theorem execServiceBind_keeps {s₀ : State} (e : Fin 128) (w : Word) {s : State} (h₀ : Keeps s₀ s) : KeepsOut s₀ (execServiceBind e w s) := by
  unfold execServiceBind
  repeat' (first | with_reducible assumption | with_reducible apply State.bindEntry_keeps | with_reducible apply KeepsOut.ofNext)

theorem execServiceUnbind_keeps {s₀ : State} (e : Fin 128) (w : Word) {s : State} (h₀ : Keeps s₀ s) : KeepsOut s₀ (execServiceUnbind e w s) := by
  unfold execServiceUnbind
  repeat' (first | with_reducible assumption | with_reducible apply State.unbindEntry_keeps | with_reducible apply KeepsOut.ofNext)

theorem execEngineDispatch_keeps {s₀ : State} (k : Fin 4) {s : State} (h₀ : Keeps s₀ s) : KeepsOut s₀ (execEngineDispatch k s) := by
  unfold execEngineDispatch
  repeat' (first | with_reducible assumption | with_reducible apply State.dispatch_keeps | with_reducible apply KeepsOut.ofNext)

theorem execEnginePacketSend_keeps {s₀ : State} (e : Fin 128) (payload : List Byte) {s : State} (h₀ : Keeps s₀ s) : KeepsOut s₀ (execEnginePacketSend e payload s) := by
  unfold execEnginePacketSend
  repeat' (first | with_reducible assumption | with_reducible apply State.engineSend_keeps | with_reducible apply KeepsOut.ofNext)

theorem execPing_keeps {s₀ : State} (n : Fin 16) (m : Fin 2) {s : State} (h₀ : Keeps s₀ s) : KeepsOut s₀ (execPing n m s) := by
  unfold execPing
  repeat' (first | with_reducible assumption | with_reducible apply State.mbxSubmit_keeps | with_reducible apply KeepsOut.ofNext)

theorem execStats_keeps {s₀ : State} (n : Fin 16) (m : Fin 2) (e : Fin 128) {s : State} (h₀ : Keeps s₀ s) : KeepsOut s₀ (execStats n m e s) := by
  unfold execStats
  repeat' (first | with_reducible assumption | with_reducible apply State.mbxSubmit_keeps | with_reducible apply KeepsOut.ofNext)

theorem execQuiesce_keeps {s₀ : State} (n : Fin 16) (m : Fin 2) (e : Fin 128) {s : State} (h₀ : Keeps s₀ s) : KeepsOut s₀ (execQuiesce n m e s) := by
  unfold execQuiesce
  repeat' (first | with_reducible assumption | with_reducible apply State.mbxSubmit_keeps | with_reducible apply KeepsOut.ofNext)

theorem execResume_keeps {s₀ : State} (n : Fin 16) (m : Fin 2) (e : Fin 128) {s : State} (h₀ : Keeps s₀ s) : KeepsOut s₀ (execResume n m e s) := by
  unfold execResume
  repeat' (first | with_reducible assumption | with_reducible apply State.mbxSubmit_keeps | with_reducible apply KeepsOut.ofNext)

theorem execMailboxTimeout_keeps {s₀ : State} (n : Fin 16) (m : Fin 2) {s : State} (h₀ : Keeps s₀ s) : KeepsOut s₀ (execMailboxTimeout n m s) := by
  unfold execMailboxTimeout
  repeat' (first | with_reducible assumption | with_reducible apply State.mbxTimeout_keeps | with_reducible apply KeepsOut.ofNext)

theorem execEventRecordSend_keeps {s₀ : State} (e : Fin 128) {s : State} (h₀ : Keeps s₀ s) : KeepsOut s₀ (execEventRecordSend e s) := by
  unfold execEventRecordSend
  repeat' (first | with_reducible assumption | with_reducible apply State.eventSend_keeps | with_reducible apply KeepsOut.ofNext)

theorem execSvCycleComplete_keeps {s₀ : State} (e : Fin 128) {s : State} (h₀ : Keeps s₀ s) : KeepsOut s₀ (execSvCycleComplete e s) := by
  unfold execSvCycleComplete
  repeat' (first | with_reducible assumption | with_reducible apply State.phaseCycle_keeps | with_reducible apply KeepsOut.ofNext)

theorem execScratchpadAccess_keeps {s₀ : State} (b : Fin 32) (l : List PadAccess) {s : State} (h₀ : Keeps s₀ s) : KeepsOut s₀ (execScratchpadAccess b l s) := by
  unfold execScratchpadAccess
  repeat' (first | with_reducible assumption | with_reducible apply State.padCycle_keeps | with_reducible apply KeepsOut.ofNext)

theorem execBankOwnerWrite_keeps {s₀ : State} (b : Fin 32) (m : Fin 22) (w : Word) (w16 : Option Word) {s : State} (h₀ : Keeps s₀ s) : KeepsOut s₀ (execBankOwnerWrite b m w w16 s) := by
  unfold execBankOwnerWrite
  repeat' (first | with_reducible assumption | with_reducible (first | apply State.ownWrite_keeps | apply State.wr_keeps) | with_reducible apply KeepsOut.ofNext | split)

theorem execBankHandoverDone_keeps {s₀ : State} (b : Fin 32) {s : State} (h₀ : Keeps s₀ s) : KeepsOut s₀ (execBankHandoverDone b s) := by
  unfold execBankHandoverDone
  repeat' (first | with_reducible assumption | with_reducible apply State.ownDone_keeps | with_reducible apply KeepsOut.ofNext)

theorem execImageSlotWrite_keeps {s₀ : State} (i : Fin 4) (isLen : Bool) (w : Word) {s : State} (h₀ : Keeps s₀ s) : KeepsOut s₀ (execImageSlotWrite i isLen w s) := by
  unfold execImageSlotWrite
  repeat' (first | with_reducible assumption | with_reducible apply State.imageSlotWrite_keeps | with_reducible apply KeepsOut.ofNext)

end Sys2Proof.Machine
end

