-- ==== Sys2Proof/Laws/KeepsDisplay.lean ====
section
/-! SUPPORT. What the operations of Machine/Display.lean keep: the queue, the canonical form of the stores, every burnt fuse. -/

namespace Sys2Proof.Machine

theorem State.hdFlag_keeps {s₀ : State} {s : State} (F : Field) (h : Nat) (h₀ : Keeps s₀ s) : Keeps s₀ (State.hdFlag s F h) := by
  unfold State.hdFlag
  repeat' (first | with_reducible assumption | with_reducible apply State.wr_keeps)

theorem State.hdCount_keeps {s₀ : State} {s : State} (h : Nat) (i : Nat) (h₀ : Keeps s₀ s) : Keeps s₀ (State.hdCount s h i) := by
  unfold State.hdCount
  repeat' (first | with_reducible assumption | with_reducible apply State.sat_keeps)

theorem State.headError_keeps {s₀ : State} {s : State} (h : Nat) (c : HeadErr) (h₀ : Keeps s₀ s) : Keeps s₀ (State.headError s h c) := by
  unfold State.headError
  repeat' (first | with_reducible assumption | with_reducible apply State.wr_keeps)

theorem State.headEnable_keeps {s₀ : State} {s : State} (h : Nat) (h₀ : Keeps s₀ s) : Keeps s₀ (State.headEnable s h) := by
  unfold State.headEnable
  repeat' (first | with_reducible assumption | with_reducible (first | apply State.arm_keeps | apply State.headError_keeps | apply State.wr_keeps) | split)

theorem State.headStop_keeps {s₀ : State} {s : State} (h : Nat) (h₀ : Keeps s₀ s) : Keeps s₀ (State.headStop s h) := by
  unfold State.headStop
  repeat' ((with_reducible refine Keeps.upd ?_ rfl; first | with_reducible assumption | with_reducible (first | apply State.causeOff_keeps | apply State.wr_keeps)))

theorem State.headCtrlWrite_keeps {s₀ : State} {s : State} (h : Nat) (w : Nat) (h₀ : Keeps s₀ s) : Keeps s₀ (State.headCtrlWrite s h w) := by
  unfold State.headCtrlWrite
  repeat' (first | with_reducible assumption | with_reducible (first | apply State.hdFlag_keeps | apply State.headEnable_keeps | apply State.headStop_keeps | apply State.wr_keeps | apply State.writeField_keeps | apply State.writeFields_keeps) | with_reducible refine Keeps.ofIte (fun _ => ?_) (fun _ => ?_) | with_reducible refine Keeps.whenIf ?_ _ _ (fun _ _ => ?_))

theorem State.dpDrop_keeps {s₀ : State} {s : State} (h₀ : Keeps s₀ s) : Keeps s₀ (State.dpDrop s) := by
  unfold State.dpDrop
  repeat' ((with_reducible refine Keeps.upd ?_ rfl; first | with_reducible assumption | with_reducible apply State.wr_keeps))

theorem State.dpTrain_keeps {s₀ : State} {s : State} (rate : Nat) (lanes : Nat) (h₀ : Keeps s₀ s) : Keeps s₀ (State.dpTrain s rate lanes) := by
  unfold State.dpTrain
  repeat' (first | with_reducible refine Keeps.ofIte (fun _ => ?_) (fun _ => ?_) | (with_reducible refine Keeps.upd ?_ rfl; first | with_reducible assumption | with_reducible (first | apply State.dpDrop_keeps | apply State.headError_keeps | apply State.wr_keeps)))

theorem State.hpdLow_keeps {s₀ : State} {s : State} (h₀ : Keeps s₀ s) : Keeps s₀ (State.hpdLow s) := by
  unfold State.hpdLow
  repeat' (first | with_reducible assumption | with_reducible (first | apply State.dpDrop_keeps | apply State.wr_keeps))

theorem State.hpdIrq_keeps {s₀ : State} {s : State} (h₀ : Keeps s₀ s) : Keeps s₀ (State.hpdIrq s) := by
  unfold State.hpdIrq
  repeat' (first | with_reducible assumption | with_reducible apply State.dpDrop_keeps | split)

theorem State.setLayer_keeps {s₀ : State} {s : State} (h : Nat) (l : Nat) (x : LayerSet) (h₀ : Keeps s₀ s) : Keeps s₀ (State.setLayer s h l x) := by
  unfold State.setLayer
  repeat' ((with_reducible refine Keeps.upd ?_ rfl; first | with_reducible assumption))

theorem State.setPixel_keeps {s₀ : State} {s : State} (base : Nat) (stride : Nat) (d : Nat) (x : Nat) (y : Nat) (v : Nat) (h₀ : Keeps s₀ s) : Keeps s₀ (State.setPixel s base stride d x y v) := by
  unfold State.setPixel
  repeat' (first | with_reducible assumption | with_reducible apply State.dramWrite_keeps)

theorem State.showPend_keeps {s₀ : State} {s : State} (h : Nat) (h₀ : Keeps s₀ s) : Keeps s₀ (State.showPend s h) := by
  unfold State.showPend
  repeat' (first | with_reducible assumption | with_reducible apply State.wr_keeps | with_reducible refine Keeps.eachOf ?_ _ _ (fun _ _ _ => ?_))

theorem State.setSoft_keeps {s₀ : State} {s : State} (h : Nat) (l : List HeadCommit) (h₀ : Keeps s₀ s) : Keeps s₀ (State.setSoft s h l) := by
  unfold State.setSoft
  repeat' ((with_reducible refine Keeps.upd ?_ rfl; first | with_reducible assumption | with_reducible apply State.showPend_keeps))

theorem State.commitRefuse_keeps {s₀ : State} {s : State} (h : Nat) (c : CommitCode) (h₀ : Keeps s₀ s) : Keeps s₀ (State.commitRefuse s h c) := by
  unfold State.commitRefuse
  repeat' (first | with_reducible assumption | with_reducible (first | apply State.hdFlag_keeps | apply State.wr_keeps))

theorem State.softCommit_keeps {s₀ : State} {s : State} (h : Nat) (w : Nat) (h₀ : Keeps s₀ s) : Keeps s₀ (State.softCommit s h w) := by
  unfold State.softCommit
  repeat' (first | with_reducible refine Keeps.ofIte (fun _ => ?_) (fun _ => ?_) | (with_reducible refine Keeps.upd ?_ rfl; first | with_reducible assumption | with_reducible (first | apply State.commitRefuse_keeps | apply State.setSoft_keeps | apply State.wr_keeps)) | split)

theorem State.applyContent_keeps {s₀ : State} {s : State} (h : Nat) (l : Nat) (h₀ : Keeps s₀ s) : Keeps s₀ (State.applyContent s h l) := by
  unfold State.applyContent
  repeat' ((with_reducible refine Keeps.upd ?_ rfl; first | with_reducible assumption | with_reducible apply State.setLayer_keeps))

theorem State.applyPlace_keeps {s₀ : State} {s : State} (h : Nat) (l : Nat) (h₀ : Keeps s₀ s) : Keeps s₀ (State.applyPlace s h l) := by
  unfold State.applyPlace
  repeat' ((with_reducible refine Keeps.upd ?_ rfl; first | with_reducible assumption | with_reducible (first | apply State.setLayer_keeps | apply State.wr_keeps)))

theorem State.toggleFront_keeps {s₀ : State} {s : State} (h : Nat) (l : Nat) (h₀ : Keeps s₀ s) : Keeps s₀ (State.toggleFront s h l) := by
  unfold State.toggleFront
  repeat' (first | with_reducible assumption | with_reducible apply State.wr_keeps)

theorem State.applySoft_keeps {s₀ : State} {s : State} (h : Nat) (c : HeadCommit) (h₀ : Keeps s₀ s) : Keeps s₀ (State.applySoft s h c) := by
  unfold State.applySoft
  repeat' (first | (extract_lets +onlyGivenNames x; first | (refine (?_ : Keeps s₀ x → _) ?_; rotate_left; subst x; rotate_left; intro hx; clear_value x) | clear_value x) | with_reducible refine Keeps.whenIf ?_ _ _ (fun _ _ => ?_) | with_reducible refine Keeps.eachOf ?_ _ _ (fun _ _ _ => ?_) | (with_reducible refine Keeps.upd ?_ rfl; first | with_reducible assumption | with_reducible (first | apply State.applyContent_keeps | apply State.applyPlace_keeps | apply State.toggleFront_keeps)) | split)

theorem State.lateCommit_keeps {s₀ : State} {s : State} (h : Nat) (late : Bool) (jump : Bool) (h₀ : Keeps s₀ s) : Keeps s₀ (State.lateCommit s h late jump) := by
  unfold State.lateCommit
  repeat' (first | with_reducible assumption | with_reducible (first | apply State.hdCount_keeps | apply State.hdFlag_keeps) | with_reducible refine Keeps.whenIf ?_ _ _ (fun _ _ => ?_))

theorem State.applySvc_keeps {s₀ : State} {s : State} (h : Nat) (l : Nat) (c : SvcCommit) (jump : Bool) (h₀ : Keeps s₀ s) : Keeps s₀ (State.applySvc s h l c jump) := by
  unfold State.applySvc
  repeat' ((with_reducible refine Keeps.upd ?_ rfl; first | with_reducible assumption | with_reducible (first | apply State.applyContent_keeps | apply State.toggleFront_keeps | apply State.wr_keeps)))

theorem State.showOpaque_keeps {s₀ : State} {s : State} (h : Nat) (h₀ : Keeps s₀ s) : Keeps s₀ (State.showOpaque s h) := by
  unfold State.showOpaque
  repeat' (first | with_reducible assumption | with_reducible apply State.wr_keeps | with_reducible refine Keeps.eachOf ?_ _ _ (fun _ _ _ => ?_))

theorem State.applyPoint_keeps {s₀ : State} {s : State} (h : Nat) (h₀ : Keeps s₀ s) : Keeps s₀ (State.applyPoint s h) := by
  unfold State.applyPoint
  repeat' (first | with_reducible refine Keeps.ofIte (fun _ => ?_) (fun _ => ?_) | with_reducible refine Keeps.eachOf ?_ _ _ (fun _ _ _ => ?_) | (with_reducible refine Keeps.upd ?_ rfl; first | with_reducible assumption | with_reducible (first | apply State.applySoft_keeps | apply State.applySvc_keeps | apply State.hdFlag_keeps | apply State.irq_keeps | apply State.lateCommit_keeps | apply State.setSoft_keeps | apply State.showOpaque_keeps | apply State.wr_keeps)) | split)

theorem State.dispCount_keeps {s₀ : State} {s : State} (e : Nat) (k : Nat) (h₀ : Keeps s₀ s) : Keeps s₀ (State.dispCount s e k) := by
  unfold State.dispCount
  repeat' ((with_reducible refine Keeps.upd ?_ rfl; first | with_reducible assumption))

theorem State.giveResult_keeps {s₀ : State} {s : State} (a : DispAck) (h₀ : Keeps s₀ s) : Keeps s₀ (State.giveResult s a) := by
  unfold State.giveResult
  repeat' (first | (extract_lets +onlyGivenNames x; first | (refine (?_ : Keeps s₀ x → _) ?_; rotate_left; subst x; rotate_left; intro hx; clear_value x) | clear_value x) | with_reducible refine Keeps.whenIf ?_ _ _ (fun _ _ => ?_) | (with_reducible refine Keeps.upd ?_ rfl; first | with_reducible assumption | with_reducible apply State.dispCount_keeps) | split)

theorem State.frameBegins_keeps {s₀ : State} {s : State} (h : Nat) (n : Nat) (t : Wide) (h₀ : Keeps s₀ s) : Keeps s₀ (State.frameBegins s h n t) := by
  unfold State.frameBegins
  repeat' (first | (extract_lets +onlyGivenNames x; first | (refine (?_ : Keeps s₀ x → _) ?_; rotate_left; subst x; rotate_left; intro hx; clear_value x) | clear_value x) | with_reducible refine Keeps.whenIf ?_ _ _ (fun _ _ => ?_) | with_reducible refine Keeps.eachOf ?_ _ _ (fun _ _ _ => ?_) | (with_reducible refine Keeps.upd ?_ rfl; first | with_reducible assumption | with_reducible (first | apply State.giveResult_keeps | apply State.hdFlag_keeps | apply State.wr_keeps)) | split)

theorem State.freeFrame_keeps {s₀ : State} {s : State} (h : Nat) (h₀ : Keeps s₀ s) : Keeps s₀ (State.freeFrame s h) := by
  unfold State.freeFrame
  repeat' (first | with_reducible assumption | with_reducible apply State.frameBegins_keeps)

theorem State.lockLoss_keeps {s₀ : State} {s : State} (h : Nat) (h₀ : Keeps s₀ s) : Keeps s₀ (State.lockLoss s h) := by
  unfold State.lockLoss
  repeat' (first | with_reducible assumption | with_reducible (first | apply State.freeFrame_keeps | apply State.hdCount_keeps | apply State.hdFlag_keeps | apply State.wr_keeps))

theorem State.lockedFrame_keeps {s₀ : State} {s : State} (h : Nat) (n : Nat) (h₀ : Keeps s₀ s) : Keeps s₀ (State.lockedFrame s h n) := by
  unfold State.lockedFrame
  repeat' (first | (with_reducible refine Keeps.upd ?_ rfl; first | with_reducible assumption | with_reducible (first | apply State.frameBegins_keeps | apply State.wr_keeps)) | split)

theorem State.videoFrame_keeps {s₀ : State} {s : State} (h : Nat) (ago : Nat) (h₀ : Keeps s₀ s) : Keeps s₀ (State.videoFrame s h ago) := by
  unfold State.videoFrame
  repeat' (first | with_reducible assumption | with_reducible (first | apply State.freeFrame_keeps | apply State.lockLoss_keeps | apply State.lockedFrame_keeps | apply State.wr_keeps) | with_reducible refine Keeps.ofIte (fun _ => ?_) (fun _ => ?_))

theorem State.frameStart_keeps {s₀ : State} {s : State} (h : Nat) (ago : Nat) (h₀ : Keeps s₀ s) : Keeps s₀ (State.frameStart s h ago) := by
  unfold State.frameStart
  repeat' (first | (with_reducible refine Keeps.upd ?_ rfl; first | with_reducible assumption | with_reducible (first | apply State.freeFrame_keeps | apply State.videoFrame_keeps)) | split)

theorem State.teEdge_keeps {s₀ : State} {s : State} (h : Nat) (fall : Bool) (ago : Nat) (h₀ : Keeps s₀ s) : Keeps s₀ (State.teEdge s h fall ago) := by
  unfold State.teEdge
  repeat' (first | with_reducible refine Keeps.ofIte (fun _ => ?_) (fun _ => ?_) | (with_reducible refine Keeps.upd ?_ rfl; first | with_reducible assumption | with_reducible (first | apply State.arm_keeps | apply State.causeOff_keeps | apply State.frameBegins_keeps | apply State.hdCount_keeps | apply State.wr_keeps)))

theorem State.teTimeout_keeps {s₀ : State} {s : State} (h : Nat) (h₀ : Keeps s₀ s) : Keeps s₀ (State.teTimeout s h) := by
  unfold State.teTimeout
  repeat' (first | (with_reducible refine Keeps.upd ?_ rfl; first | with_reducible assumption | with_reducible (first | apply State.causeOn_keeps | apply State.hdCount_keeps | apply State.wr_keeps)) | split)

theorem State.fetchMiss_keeps {s₀ : State} {s : State} (h : Nat) (l : Nat) (y : Nat) (k : Nat) (ecc : Bool) (h₀ : Keeps s₀ s) : Keeps s₀ (State.fetchMiss s h l y k ecc) := by
  unfold State.fetchMiss
  repeat' (first | (extract_lets +onlyGivenNames x; first | (refine (?_ : Keeps s₀ x → _) ?_; rotate_left; subst x; rotate_left; intro hx; clear_value x) | clear_value x) | (with_reducible refine Keeps.upd ?_ rfl; first | with_reducible assumption | with_reducible (first | apply State.fault_keeps | apply State.hdCount_keeps)) | split)

theorem State.badMsg_keeps {s₀ : State} {s : State} (e : Nat) (h₀ : Keeps s₀ s) : Keeps s₀ (State.badMsg s e) := by
  unfold State.badMsg
  repeat' (first | with_reducible assumption | with_reducible apply State.dispCount_keeps)

theorem State.copyBack_keeps {s₀ : State} {s : State} (h : Nat) (l : Nat) (h₀ : Keeps s₀ s) : Keeps s₀ (State.copyBack s h l) := by
  unfold State.copyBack
  repeat' (first | (extract_lets +onlyGivenNames x; first | (refine (?_ : Keeps s₀ x → _) ?_; rotate_left; subst x; rotate_left; intro hx; clear_value x) | clear_value x) | with_reducible refine Keeps.eachOf ?_ _ _ (fun _ _ _ => ?_) | (with_reducible refine Keeps.upd ?_ rfl; first | with_reducible assumption | with_reducible apply State.setPixel_keeps))

theorem State.tileMsg_keeps {s₀ : State} {s : State} (e : Nat) (h : Nat) (m : DispMsg) (h₀ : Keeps s₀ s) : Keeps s₀ (State.tileMsg s e h m) := by
  unfold State.tileMsg
  repeat' (first | (extract_lets +onlyGivenNames x; first | (refine (?_ : Keeps s₀ x → _) ?_; rotate_left; subst x; rotate_left; intro hx; clear_value x) | clear_value x) | with_reducible refine Keeps.eachOf ?_ _ _ (fun _ _ _ => ?_) | (with_reducible refine Keeps.upd ?_ rfl; first | with_reducible assumption | with_reducible (first | apply State.badMsg_keeps | apply State.setPixel_keeps)) | split)

theorem State.paletteMsg_keeps {s₀ : State} {s : State} (e : Nat) (h : Nat) (m : DispMsg) (h₀ : Keeps s₀ s) : Keeps s₀ (State.paletteMsg s e h m) := by
  unfold State.paletteMsg
  repeat' (first | with_reducible assumption | with_reducible (first | apply State.badMsg_keeps | apply State.wr_keeps) | with_reducible refine Keeps.ofIte (fun _ => ?_) (fun _ => ?_) | with_reducible refine Keeps.eachOf ?_ _ _ (fun _ _ _ => ?_))

theorem State.refuseSvc_keeps {s₀ : State} {s : State} (e : Nat) (h : Nat) (reason : Nat) (m : DispMsg) (ackReq : Bool) (h₀ : Keeps s₀ s) : Keeps s₀ (State.refuseSvc s e h reason m ackReq) := by
  unfold State.refuseSvc
  repeat' ((with_reducible refine Keeps.upd ?_ rfl; first | with_reducible assumption | with_reducible (first | apply State.free_keeps | apply State.giveResult_keeps)))

theorem State.commitMsg_keeps {s₀ : State} {s : State} (e : Nat) (h : Nat) (ver : Nat) (m : DispMsg) (h₀ : Keeps s₀ s) : Keeps s₀ (State.commitMsg s e h ver m) := by
  unfold State.commitMsg
  repeat' (first | with_reducible refine Keeps.ofIte (fun _ => ?_) (fun _ => ?_) | (with_reducible refine Keeps.upd ?_ rfl; first | with_reducible assumption | with_reducible (first | apply State.badMsg_keeps | apply State.refuseSvc_keeps | apply State.wr_keeps) | (with_reducible refine Keeps.upd ?_ rfl; first | with_reducible assumption | with_reducible (first | apply State.badMsg_keeps | apply State.refuseSvc_keeps | apply State.wr_keeps))) | split)

theorem State.holdMsg_keeps {s₀ : State} {s : State} (e : Nat) (raw : List Byte) (h₀ : Keeps s₀ s) : Keeps s₀ (State.holdMsg s e raw) := by
  unfold State.holdMsg
  repeat' (first | with_reducible refine Keeps.ofIte (fun _ => ?_) (fun _ => ?_) | (with_reducible refine Keeps.upd ?_ rfl; first | with_reducible assumption | with_reducible apply State.dispCount_keeps))

theorem State.dispMsg_keeps {s₀ : State} {s : State} (e : Nat) (raw : List Byte) (h₀ : Keeps s₀ s) : Keeps s₀ (State.dispMsg s e raw) := by
  unfold State.dispMsg
  repeat' (first | with_reducible assumption | with_reducible (first | apply State.badMsg_keeps | apply State.commitMsg_keeps | apply State.copyBack_keeps | apply State.dispCount_keeps | apply State.holdMsg_keeps | apply State.paletteMsg_keeps | apply State.tileMsg_keeps) | with_reducible refine Keeps.ofIte (fun _ => ?_) (fun _ => ?_))

theorem State.replay_keeps {s₀ : State} {s : State} (e : Nat) (h₀ : Keeps s₀ s) : Keeps s₀ (State.replay s e) := by
  unfold State.replay
  repeat' (first | with_reducible refine Keeps.eachOf ?_ _ _ (fun _ _ _ => ?_) | (with_reducible refine Keeps.upd ?_ rfl; first | with_reducible assumption | with_reducible apply State.dispMsg_keeps))

theorem State.serveMsg_keeps {s₀ : State} {s : State} (e : Nat) (ty : Nat) (h₀ : Keeps s₀ s) : Keeps s₀ (State.serveMsg s e ty) := by
  unfold State.serveMsg
  repeat' (first | with_reducible assumption | with_reducible (first | apply State.badMsg_keeps | apply State.dispMsg_keeps | apply State.replay_keeps | apply State.takeMessage_keeps) | (first | with_reducible refine Keeps.ofPair (by assumption) ?_) | split | intro _)

theorem State.sendAck_keeps {s₀ : State} {s : State} (e : Nat) (h₀ : Keeps s₀ s) : Keeps s₀ (State.sendAck s e) := by
  unfold State.sendAck
  repeat' (first | (with_reducible refine Keeps.upd ?_ rfl; first | with_reducible assumption | with_reducible apply State.engineSend_keeps) | split)

theorem State.tileCopy_keeps {s₀ : State} {s : State} (h : Nat) (l : Nat) (h₀ : Keeps s₀ s) : Keeps s₀ (State.tileCopy s h l) := by
  unfold State.tileCopy
  repeat' (first | with_reducible assumption | with_reducible (first | apply State.copyBack_keeps | apply State.replay_keeps) | split)

theorem State.layerWrite_keeps {s₀ : State} {s : State} (h : Nat) (l : Nat) (r : Nat) (w : Nat) (h₀ : Keeps s₀ s) : Keeps s₀ (State.layerWrite s h l r w) := by
  unfold State.layerWrite
  repeat' (first | with_reducible assumption | with_reducible (first | apply State.hdFlag_keeps | apply State.writeField_keeps | apply State.writeFields_keeps | apply State.writeReg_keeps) | with_reducible refine Keeps.ofIte (fun _ => ?_) (fun _ => ?_) | with_reducible refine Keeps.whenIf ?_ _ _ (fun _ _ => ?_))

theorem State.palWrite_keeps {s₀ : State} {s : State} (h : Nat) (l : Nat) (off : Nat) (w : Nat) (h₀ : Keeps s₀ s) : Keeps s₀ (State.palWrite s h l off w) := by
  unfold State.palWrite
  repeat' (first | with_reducible assumption | with_reducible (first | apply State.hdFlag_keeps | apply State.writeReg_keeps) | split)

theorem State.headWrite_keeps {s₀ : State} {s : State} (h : Nat) (r : Nat) (w : Nat) (h₀ : Keeps s₀ s) : Keeps s₀ (State.headWrite s h r w) := by
  unfold State.headWrite
  repeat' (first | with_reducible assumption | with_reducible (first | apply State.hdFlag_keeps | apply State.headCtrlWrite_keeps | apply State.softCommit_keeps | apply State.wr_keeps | apply State.writeReg_keeps) | with_reducible refine Keeps.whenIf ?_ _ _ (fun _ _ => ?_) | with_reducible refine Keeps.eachOf ?_ _ _ (fun _ _ _ => ?_) | split)

theorem State.dspWrite_keeps {s₀ : State} {s : State} (off : Nat) (w : Nat) (h₀ : Keeps s₀ s) : KeepsOpt s₀ (State.dspWrite s off w) := by
  unfold State.dspWrite
  repeat' (first | with_reducible assumption | (extract_lets +onlyGivenNames x; first | (refine (?_ : Keeps s₀ x → _) ?_; rotate_left; subst x; rotate_left; intro hx; clear_value x) | clear_value x) | with_reducible (first | apply State.headWrite_keeps | apply State.layerWrite_keeps | apply State.palWrite_keeps) | with_reducible apply KeepsOpt.ofSome | exact KeepsOpt.ofNone | split)

theorem execHeadEnable_keeps {s₀ : State} (h : Fin 2) (w : Word) {s : State} (h₀ : Keeps s₀ s) : KeepsOut s₀ (execHeadEnable h w s) := by
  unfold execHeadEnable
  repeat' (first | with_reducible assumption | with_reducible apply State.headCtrlWrite_keeps | with_reducible apply KeepsOut.ofNext)

theorem execDpLinkTraining_keeps {s₀ : State} (rate : Fin 4) (lanes : Fin 4) {s : State} (h₀ : Keeps s₀ s) : KeepsOut s₀ (execDpLinkTraining rate lanes s) := by
  unfold execDpLinkTraining
  repeat' (first | with_reducible assumption | with_reducible apply State.dpTrain_keeps | with_reducible apply KeepsOut.ofNext)

theorem execHpdLow_keeps {s₀ : State} {s : State} (h₀ : Keeps s₀ s) : KeepsOut s₀ (execHpdLow s) := by
  unfold execHpdLow
  repeat' (first | with_reducible assumption | with_reducible apply State.hpdLow_keeps | with_reducible apply KeepsOut.ofNext)

theorem execHpdIrq_keeps {s₀ : State} {s : State} (h₀ : Keeps s₀ s) : KeepsOut s₀ (execHpdIrq s) := by
  unfold execHpdIrq
  repeat' (first | with_reducible assumption | with_reducible apply State.hpdIrq_keeps | with_reducible apply KeepsOut.ofNext)

theorem execFrameStart_keeps {s₀ : State} (h : Fin 2) (ago : Nat) {s : State} (h₀ : Keeps s₀ s) : KeepsOut s₀ (execFrameStart h ago s) := by
  unfold execFrameStart
  repeat' (first | with_reducible assumption | with_reducible apply State.frameStart_keeps | with_reducible apply KeepsOut.ofNext)

theorem execWindowClose_keeps {s₀ : State} (h : Fin 2) {s : State} (h₀ : Keeps s₀ s) : KeepsOut s₀ (execWindowClose h s) := by
  unfold execWindowClose
  repeat' (first | with_reducible apply KeepsOut.ofNext | (with_reducible refine Keeps.upd ?_ rfl; first | with_reducible assumption) | split)

theorem execApplyPoint_keeps {s₀ : State} (h : Fin 2) {s : State} (h₀ : Keeps s₀ s) : KeepsOut s₀ (execApplyPoint h s) := by
  unfold execApplyPoint
  repeat' (first | with_reducible assumption | with_reducible apply State.applyPoint_keeps | with_reducible apply KeepsOut.ofNext)

theorem execFetchUnderrun_keeps {s₀ : State} (h : Fin 2) (l : Fin 4) (y : Fin 4096) (k : Fin 64) (ecc : Bool) {s : State} (h₀ : Keeps s₀ s) : KeepsOut s₀ (execFetchUnderrun h l y k ecc s) := by
  unfold execFetchUnderrun
  repeat' (first | with_reducible assumption | with_reducible apply State.fetchMiss_keeps | with_reducible apply KeepsOut.ofNext)

theorem execSoftwareCommit_keeps {s₀ : State} (h : Fin 2) (w : Word) {s : State} (h₀ : Keeps s₀ s) : KeepsOut s₀ (execSoftwareCommit h w s) := by
  unfold execSoftwareCommit
  repeat' (first | with_reducible assumption | with_reducible apply State.softCommit_keeps | with_reducible apply KeepsOut.ofNext)

theorem execTeEdge_keeps {s₀ : State} (h : Fin 2) (fall : Bool) (ago : Nat) {s : State} (h₀ : Keeps s₀ s) : KeepsOut s₀ (execTeEdge h fall ago s) := by
  unfold execTeEdge
  repeat' (first | with_reducible assumption | with_reducible apply State.teEdge_keeps | with_reducible apply KeepsOut.ofNext)

theorem execTeTimeout_keeps {s₀ : State} (h : Fin 2) {s : State} (h₀ : Keeps s₀ s) : KeepsOut s₀ (execTeTimeout h s) := by
  unfold execTeTimeout
  repeat' (first | with_reducible assumption | with_reducible apply State.teTimeout_keeps | with_reducible apply KeepsOut.ofNext)

theorem execDisplayTile_keeps {s₀ : State} (e : Fin 128) {s : State} (h₀ : Keeps s₀ s) : KeepsOut s₀ (execDisplayTile e s) := by
  unfold execDisplayTile
  repeat' (first | with_reducible assumption | with_reducible apply State.serveMsg_keeps | with_reducible apply KeepsOut.ofNext)

theorem execDisplayPalette_keeps {s₀ : State} (e : Fin 128) {s : State} (h₀ : Keeps s₀ s) : KeepsOut s₀ (execDisplayPalette e s) := by
  unfold execDisplayPalette
  repeat' (first | with_reducible assumption | with_reducible apply State.serveMsg_keeps | with_reducible apply KeepsOut.ofNext)

theorem execDisplayCommit_keeps {s₀ : State} (e : Fin 128) {s : State} (h₀ : Keeps s₀ s) : KeepsOut s₀ (execDisplayCommit e s) := by
  unfold execDisplayCommit
  repeat' (first | with_reducible assumption | with_reducible apply State.serveMsg_keeps | with_reducible apply KeepsOut.ofNext)

theorem execDisplayAckSend_keeps {s₀ : State} (e : Fin 128) {s : State} (h₀ : Keeps s₀ s) : KeepsOut s₀ (execDisplayAckSend e s) := by
  unfold execDisplayAckSend
  repeat' (first | with_reducible assumption | with_reducible apply State.sendAck_keeps | with_reducible apply KeepsOut.ofNext)

theorem execTileCopyback_keeps {s₀ : State} (h : Fin 2) (l : Fin 4) {s : State} (h₀ : Keeps s₀ s) : KeepsOut s₀ (execTileCopyback h l s) := by
  unfold execTileCopyback
  repeat' (first | with_reducible assumption | with_reducible apply State.tileCopy_keeps | with_reducible apply KeepsOut.ofNext)

theorem execDstat_keeps {s₀ : State} (n : Fin 16) (m : Fin 2) (e : Fin 128) {s : State} (h₀ : Keeps s₀ s) : KeepsOut s₀ (execDstat n m e s) := by
  unfold execDstat
  repeat' (first | with_reducible assumption | with_reducible apply State.mbxSubmit_keeps | with_reducible apply KeepsOut.ofNext)

theorem execDclr_keeps {s₀ : State} (n : Fin 16) (m : Fin 2) (e : Fin 128) {s : State} (h₀ : Keeps s₀ s) : KeepsOut s₀ (execDclr n m e s) := by
  unfold execDclr
  repeat' (first | with_reducible assumption | with_reducible apply State.mbxSubmit_keeps | with_reducible apply KeepsOut.ofNext)

end Sys2Proof.Machine
end

