-- ==== Sys2Proof/Laws/KeepsUsbProxy.lean ====
section
/-! SUPPORT. What the operations of Machine/UsbProxy.lean keep: the queue, the canonical form of the stores, every burnt fuse. -/

namespace Sys2Proof.Machine

theorem State.usbCount_keeps {s₀ : State} {s : State} (i : Nat) (h₀ : Keeps s₀ s) : Keeps s₀ (State.usbCount s i) := by
  unfold State.usbCount
  repeat' (first | with_reducible assumption | with_reducible apply State.sat_keeps)

theorem State.proxyCount_keeps {s₀ : State} {s : State} (e : Nat) (k : Nat) (h₀ : Keeps s₀ s) : Keeps s₀ (State.proxyCount s e k) := by
  unfold State.proxyCount
  repeat' ((with_reducible refine Keeps.upd ?_ rfl; first | with_reducible assumption))

theorem State.proxyBad_keeps {s₀ : State} {s : State} (e : Nat) (h₀ : Keeps s₀ s) : Keeps s₀ (State.proxyBad s e) := by
  unfold State.proxyBad
  repeat' (first | with_reducible assumption | with_reducible (first | apply State.proxyCount_keeps | apply State.usbCount_keeps))

theorem State.setNear_keeps {s₀ : State} {s : State} (n : Nat) (x : Near) (h₀ : Keeps s₀ s) : Keeps s₀ (State.setNear s n x) := by
  unfold State.setNear
  repeat' ((with_reducible refine Keeps.upd ?_ rfl; first | with_reducible assumption))

theorem State.setFar_keeps {s₀ : State} {s : State} (n : Nat) (x : Far) (h₀ : Keeps s₀ s) : Keeps s₀ (State.setFar s n x) := by
  unfold State.setFar
  repeat' ((with_reducible refine Keeps.upd ?_ rfl; first | with_reducible assumption))

theorem State.usbAnswer_keeps {s₀ : State} {s : State} (a : UsbAnswer) (h₀ : Keeps s₀ s) : Keeps s₀ (State.usbAnswer s a) := by
  unfold State.usbAnswer
  repeat' ((with_reducible refine Keeps.upd ?_ rfl; first | with_reducible assumption))

theorem State.portChange_keeps {s₀ : State} {s : State} (n : Nat) (b : Nat) (h₀ : Keeps s₀ s) : Keeps s₀ (State.portChange s n b) := by
  unfold State.portChange
  repeat' ((with_reducible refine Keeps.upd ?_ rfl; first | with_reducible assumption))

theorem State.wakeSource_keeps {s₀ : State} {s : State} (h₀ : Keeps s₀ s) : Keeps s₀ (State.wakeSource s) := by
  unfold State.wakeSource
  repeat' (first | (with_reducible refine Keeps.upd ?_ rfl; first | with_reducible assumption) | split)

theorem State.sendNear_keeps {s₀ : State} {s : State} (n : Nat) (ty : ProxyType) (ep : Nat) (isIn : Bool) (xt : Nat) (tag : Nat) (code : Nat) (tog : Bool) (body : List Byte) (h₀ : Keeps s₀ s) : Keeps s₀ (State.sendNear s n ty ep isIn xt tag code tog body) := by
  unfold State.sendNear
  repeat' (first | with_reducible assumption | with_reducible apply State.engineSend_keeps | split)

theorem State.sendFar_keeps {s₀ : State} {s : State} (n : Nat) (ty : ProxyType) (ep : Nat) (isIn : Bool) (xt : Nat) (tag : Nat) (code : Nat) (tog : Bool) (body : List Byte) (h₀ : Keeps s₀ s) : Keeps s₀ (State.sendFar s n ty ep isIn xt tag code tog body) := by
  unfold State.sendFar
  repeat' (first | with_reducible assumption | with_reducible apply State.engineSend_keeps | split)

theorem State.sendCmd_keeps {s₀ : State} {s : State} (n : Nat) (code : Nat) (h₀ : Keeps s₀ s) : Keeps s₀ (State.sendCmd s n code) := by
  unfold State.sendCmd
  repeat' (first | with_reducible assumption | with_reducible apply State.sendNear_keeps)

theorem State.nearToggles_keeps {s₀ : State} {s : State} (n : Nat) (h₀ : Keeps s₀ s) : Keeps s₀ (State.nearToggles s n) := by
  unfold State.nearToggles
  repeat' ((with_reducible refine Keeps.upd ?_ rfl; first | with_reducible assumption | with_reducible apply State.setNear_keeps))

theorem State.nearRequest_keeps {s₀ : State} {s : State} (n : Nat) (setup : List Byte) (got : List Byte) (h₀ : Keeps s₀ s) : Keeps s₀ (State.nearRequest s n setup got) := by
  unfold State.nearRequest
  repeat' (first | (with_reducible refine Keeps.upd ?_ rfl; first | with_reducible assumption | with_reducible (first | apply State.nearToggles_keeps | apply State.setNear_keeps)) | split)

theorem State.nearDeliver_keeps {s₀ : State} {s : State} (n : Nat) (x : ProxyXfer) (code : Nat) (back : List Byte) (h₀ : Keeps s₀ s) : Keeps s₀ (State.nearDeliver s n x code back) := by
  unfold State.nearDeliver
  repeat' (first | (extract_lets +onlyGivenNames x; first | (refine (?_ : Keeps s₀ x → _) ?_; rotate_left; subst x; rotate_left; intro hx; clear_value x) | clear_value x) | (with_reducible refine Keeps.upd ?_ rfl; first | with_reducible assumption | with_reducible (first | apply State.nearRequest_keeps | apply State.setNear_keeps | apply State.usbAnswer_keeps)) | split)

theorem State.ttStart_keeps {s₀ : State} {s : State} (n : Nat) (ep : Nat) (pid : UsbPid) (xt : Nat) (data : List Byte) (h₀ : Keeps s₀ s) : Keeps s₀ (State.ttStart s n ep pid xt data) := by
  unfold State.ttStart
  repeat' (first | (with_reducible refine Keeps.upd ?_ rfl; first | with_reducible assumption | with_reducible (first | apply State.setNear_keeps | apply State.usbAnswer_keeps)) | split)

theorem State.ttDone_keeps {s₀ : State} {s : State} (n : Nat) (r : DeviceReply) (h₀ : Keeps s₀ s) : Keeps s₀ (State.ttDone s n r) := by
  unfold State.ttDone
  repeat' (first | (extract_lets +onlyGivenNames x; first | (refine (?_ : Keeps s₀ x → _) ?_; rotate_left; subst x; rotate_left; intro hx; clear_value x) | clear_value x) | (with_reducible refine Keeps.upd ?_ rfl; first | with_reducible assumption | with_reducible apply State.setNear_keeps) | split)

theorem State.splitAnswer_keeps {s₀ : State} {s : State} (n : Nat) (ep : Nat) (pid : UsbPid) (h₀ : Keeps s₀ s) : Keeps s₀ (State.splitAnswer s n ep pid) := by
  unfold State.splitAnswer
  repeat' (first | (with_reducible refine Keeps.upd ?_ rfl; first | with_reducible assumption | with_reducible (first | apply State.nearDeliver_keeps | apply State.setNear_keeps | apply State.usbAnswer_keeps)) | split)

theorem State.armXfer_keeps {s₀ : State} {s : State} (n : Nat) (tag : Nat) (h₀ : Keeps s₀ s) : Keeps s₀ (State.armXfer s n tag) := by
  unfold State.armXfer
  repeat' (first | with_reducible assumption | with_reducible apply State.arm_keeps | split)

theorem State.sendXfer_keeps {s₀ : State} {s : State} (n : Nat) (ep : Nat) (pid : UsbPid) (xt : Nat) (data : List Byte) (h₀ : Keeps s₀ s) : Keeps s₀ (State.sendXfer s n ep pid xt data) := by
  unfold State.sendXfer
  repeat' ((with_reducible refine Keeps.upd ?_ rfl; first | with_reducible assumption | with_reducible (first | apply State.armXfer_keeps | apply State.sendNear_keeps | apply State.setNear_keeps)))

theorem State.outTake_keeps {s₀ : State} {s : State} (n : Nat) (ep : Nat) (data : List Byte) (h₀ : Keeps s₀ s) : Keeps s₀ (State.outTake s n ep data) := by
  unfold State.outTake
  repeat' (first | with_reducible refine Keeps.ofIte (fun _ => ?_) (fun _ => ?_) | (with_reducible refine Keeps.upd ?_ rfl; first | with_reducible assumption | with_reducible (first | apply State.sendXfer_keeps | apply State.setNear_keeps | apply State.usbAnswer_keeps)))

theorem State.startSplit_keeps {s₀ : State} {s : State} (n : Nat) (ep : Nat) (pid : UsbPid) (xt : Nat) (data : List Byte) (h₀ : Keeps s₀ s) : Keeps s₀ (State.startSplit s n ep pid xt data) := by
  unfold State.startSplit
  repeat' (first | with_reducible assumption | with_reducible (first | apply State.outTake_keeps | apply State.proxyBad_keeps | apply State.sendXfer_keeps | apply State.ttStart_keeps | apply State.usbAnswer_keeps) | split)

theorem State.completeInterrupt_keeps {s₀ : State} {s : State} (n : Nat) (ep : Nat) (pid : UsbPid) (h₀ : Keeps s₀ s) : Keeps s₀ (State.completeInterrupt s n ep pid) := by
  unfold State.completeInterrupt
  repeat' (first | with_reducible refine Keeps.ofIte (fun _ => ?_) (fun _ => ?_) | (with_reducible refine Keeps.upd ?_ rfl; first | with_reducible assumption | with_reducible (first | apply State.setNear_keeps | apply State.usbAnswer_keeps)) | split)

theorem State.completeSplit_keeps {s₀ : State} {s : State} (n : Nat) (ep : Nat) (pid : UsbPid) (xt : Nat) (h₀ : Keeps s₀ s) : Keeps s₀ (State.completeSplit s n ep pid xt) := by
  unfold State.completeSplit
  repeat' (first | with_reducible assumption | with_reducible (first | apply State.completeInterrupt_keeps | apply State.splitAnswer_keeps | apply State.usbAnswer_keeps) | split)

theorem State.nearResult_keeps {s₀ : State} {s : State} (n : Nat) (e : Nat) (x : ProxyXfer) (code : Nat) (back : List Byte) (h₀ : Keeps s₀ s) : Keeps s₀ (State.nearResult s n e x code back) := by
  unfold State.nearResult
  repeat' (first | (with_reducible refine Keeps.upd ?_ rfl; first | with_reducible assumption | with_reducible (first | apply State.proxyCount_keeps | apply State.setNear_keeps)) | split)

theorem State.resultMsg_keeps {s₀ : State} {s : State} (e : Nat) (m : ProxyMsg) (h₀ : Keeps s₀ s) : Keeps s₀ (State.resultMsg s e m) := by
  unfold State.resultMsg
  repeat' (first | with_reducible assumption | with_reducible (first | apply State.nearResult_keeps | apply State.usbCount_keeps) | with_reducible refine Keeps.ofIte (fun _ => ?_) (fun _ => ?_) | split)

theorem State.xferRto_keeps {s₀ : State} {s : State} (n : Nat) (tag : Nat) (h₀ : Keeps s₀ s) : Keeps s₀ (State.xferRto s n tag) := by
  unfold State.xferRto
  repeat' (first | (with_reducible refine Keeps.upd ?_ rfl; first | with_reducible assumption | with_reducible (first | apply State.armXfer_keeps | apply State.nearResult_keeps | apply State.proxyCount_keeps | apply State.sendNear_keeps | apply State.setNear_keeps | apply State.usbCount_keeps)) | split)

theorem State.periodicMsg_keeps {s₀ : State} {s : State} (e : Nat) (m : ProxyMsg) (h₀ : Keeps s₀ s) : Keeps s₀ (State.periodicMsg s e m) := by
  unfold State.periodicMsg
  extract_lets n nr q ack seen
  have hack : ∀ y, Keeps s₀ y → Keeps s₀ (ack y) := by
    intro y hy
    dsimp only [ack]
    repeat' (first | assumption | with_reducible refine Keeps.ofIte (fun _ => ?_) (fun _ => ?_) | with_reducible apply State.sendNear_keeps)
  have hseen : ∀ y, Keeps s₀ y → Keeps s₀ (seen y) := fun y hy => State.setNear_keeps _ _ hy
  clear_value ack seen
  repeat' (first | with_reducible assumption | with_reducible (first | apply hack | apply hseen | apply State.usbCount_keeps | apply State.setNear_keeps | apply State.proxyCount_keeps) | with_reducible refine Keeps.ofIte (fun _ => ?_) (fun _ => ?_))


theorem State.nearGone_keeps {s₀ : State} {s : State} (n : Nat) (h₀ : Keeps s₀ s) : Keeps s₀ (State.nearGone s n) := by
  unfold State.nearGone
  repeat' (first | (with_reducible refine Keeps.upd ?_ rfl; first | with_reducible assumption | with_reducible (first | apply State.portChange_keeps | apply State.portEmpty_keeps | apply State.setNear_keeps | apply State.wakeSource_keeps)) | split)

theorem State.nearStat_keeps {s₀ : State} {s : State} (n : Nat) (b : Nat) (h₀ : Keeps s₀ s) : Keeps s₀ (State.nearStat s n b) := by
  unfold State.nearStat
  repeat' (first | with_reducible assumption | with_reducible (first | apply State.nearGone_keeps | apply State.portChange_keeps | apply State.wakeSource_keeps | apply State.wr_keeps) | with_reducible refine Keeps.ofIte (fun _ => ?_) (fun _ => ?_))

theorem State.nearComplete_keeps {s₀ : State} {s : State} (n : Nat) (ok : Bool) (b : Nat) (h₀ : Keeps s₀ s) : Keeps s₀ (State.nearComplete s n ok b) := by
  unfold State.nearComplete
  repeat' (first | (with_reducible refine Keeps.upd ?_ rfl; first | with_reducible assumption | with_reducible (first | apply State.portChange_keeps | apply State.setNear_keeps | apply State.wr_keeps)) | split)

theorem State.wakeMsg_keeps {s₀ : State} {s : State} (e : Nat) (h₀ : Keeps s₀ s) : Keeps s₀ (State.wakeMsg s e) := by
  unfold State.wakeMsg
  repeat' (first | with_reducible refine Keeps.ofIte (fun _ => ?_) (fun _ => ?_) | (with_reducible refine Keeps.upd ?_ rfl; first | with_reducible assumption | with_reducible (first | apply State.portChange_keeps | apply State.setNear_keeps | apply State.usbCount_keeps | apply State.wakeSource_keeps | apply State.wr_keeps)))

theorem State.awaitAck_keeps {s₀ : State} {s : State} (n : Nat) (h₀ : Keeps s₀ s) : Keeps s₀ (State.awaitAck s n) := by
  unfold State.awaitAck
  repeat' (first | with_reducible assumption | with_reducible apply State.arm_keeps | split)

theorem State.cmdTimeout_keeps {s₀ : State} {s : State} (n : Nat) (h₀ : Keeps s₀ s) : Keeps s₀ (State.cmdTimeout s n) := by
  unfold State.cmdTimeout
  repeat' (first | with_reducible assumption | with_reducible apply State.nearComplete_keeps | with_reducible refine Keeps.ofIte (fun _ => ?_) (fun _ => ?_))

theorem State.nearRequestPort_keeps {s₀ : State} {s : State} (n : Nat) (r : HubRequest) (h₀ : Keeps s₀ s) : Keeps s₀ (State.nearRequestPort s n r) := by
  unfold State.nearRequestPort
  repeat' (first | with_reducible refine Keeps.ofIte (fun _ => ?_) (fun _ => ?_) | (with_reducible refine Keeps.upd ?_ rfl; first | with_reducible assumption | with_reducible (first | apply State.awaitAck_keeps | apply State.clearChange_keeps | apply State.deviceDescriptor_keeps | apply State.hubDescriptor_keeps | apply State.portOff_keeps | apply State.remoteWake_keeps | apply State.sendCmd_keeps | apply State.setNear_keeps | apply State.usbAnswer_keeps | apply State.wr_keeps)) | split)

theorem State.proxySilence_keeps {s₀ : State} {s : State} (n : Nat) (h₀ : Keeps s₀ s) : Keeps s₀ (State.proxySilence s n) := by
  unfold State.proxySilence
  repeat' (first | with_reducible assumption | with_reducible (first | apply State.nearGone_keeps | apply State.proxyCount_keeps | apply State.usbCount_keeps) | split)

theorem State.portStat_keeps {s₀ : State} {s : State} (n : Nat) (h₀ : Keeps s₀ s) : Keeps s₀ (State.portStat s n) := by
  unfold State.portStat
  repeat' (first | with_reducible assumption | with_reducible apply State.sendFar_keeps | split)

theorem State.portAck_keeps {s₀ : State} {s : State} (n : Nat) (ok : Bool) (h₀ : Keeps s₀ s) : Keeps s₀ (State.portAck s n ok) := by
  unfold State.portAck
  repeat' (first | with_reducible assumption | with_reducible apply State.sendFar_keeps)

theorem State.statChange_keeps {s₀ s t : State} (n : Nat) (h₀ : Keeps s₀ t) : Keeps s₀ (s.statChange t n) := by
  unfold State.statChange
  exact Keeps.ofIte (fun _ => h₀) (fun _ => State.portStat_keeps _ h₀)


theorem State.countIntervals_keeps {s₀ : State} {s : State} (n : Nat) (e : Nat) (p : Nat → Bool) (h₀ : Keeps s₀ s) : Keeps s₀ (State.countIntervals s n e p) := by
  unfold State.countIntervals
  repeat' (first | with_reducible assumption | with_reducible apply State.proxyBad_keeps | with_reducible refine Keeps.eachOf ?_ _ _ (fun _ _ _ => ?_))

theorem State.farRequest_keeps {s₀ : State} {s : State} (n : Nat) (e : Nat) (setup : List Byte) (got : List Byte) (h₀ : Keeps s₀ s) : Keeps s₀ (State.farRequest s n e setup got) := by
  unfold State.farRequest
  repeat' (first | (with_reducible refine Keeps.upd ?_ rfl; first | with_reducible assumption | with_reducible (first | apply State.countIntervals_keeps | apply State.setFar_keeps)) | split)

theorem State.farResult_keeps {s₀ : State} {s : State} (n : Nat) (e : Nat) (x : ProxyXfer) (code : Nat) (back : List Byte) (h₀ : Keeps s₀ s) : Keeps s₀ (State.farResult s n e x code back) := by
  unfold State.farResult
  repeat' ((with_reducible refine Keeps.upd ?_ rfl; first | with_reducible assumption | with_reducible (first | apply State.proxyCount_keeps | apply State.sendFar_keeps | apply State.setFar_keeps)))

theorem State.xferMsg_keeps {s₀ : State} {s : State} (e : Nat) (m : ProxyMsg) (h₀ : Keeps s₀ s) : Keeps s₀ (State.xferMsg s e m) := by
  unfold State.xferMsg
  repeat' (first | (extract_lets +onlyGivenNames x; first | (refine (?_ : Keeps s₀ x → _) ?_; rotate_left; subst x; rotate_left; intro hx; clear_value x) | clear_value x) | (with_reducible refine Keeps.upd ?_ rfl; first | with_reducible assumption | with_reducible (first | apply State.farResult_keeps | apply State.proxyBad_keeps | apply State.sendFar_keeps | apply State.setFar_keeps)) | split)

theorem State.deviceDone_keeps {s₀ : State} {s : State} (n : Nat) (r : DeviceReply) (h₀ : Keeps s₀ s) : Keeps s₀ (State.deviceDone s n r) := by
  unfold State.deviceDone
  repeat' (first | (extract_lets +onlyGivenNames x; first | (refine (?_ : Keeps s₀ x → _) ?_; rotate_left; subst x; rotate_left; intro hx; clear_value x) | clear_value x) | (with_reducible refine Keeps.upd ?_ rfl; first | with_reducible assumption | with_reducible (first | apply State.farRequest_keeps | apply State.farResult_keeps | apply State.setFar_keeps)) | split)

theorem State.sofSend_keeps {s₀ : State} {s : State} (n : Nat) (h₀ : Keeps s₀ s) : Keeps s₀ (State.sofSend s n) := by
  unfold State.sofSend
  repeat' (first | (with_reducible refine Keeps.upd ?_ rfl; first | with_reducible assumption | with_reducible apply State.setFar_keeps) | split)

theorem State.sendPeriodic_keeps {s₀ : State} {s : State} (n : Nat) (e : Nat) (ep : Nat) (stall : Bool) (data : List Byte) (h₀ : Keeps s₀ s) : Keeps s₀ (State.sendPeriodic s n e ep stall data) := by
  unfold State.sendPeriodic
  repeat' ((with_reducible refine Keeps.upd ?_ rfl; first | with_reducible assumption | with_reducible (first | apply State.arm_keeps | apply State.proxyCount_keeps | apply State.sendFar_keeps | apply State.setFar_keeps)))

theorem State.poll_keeps {s₀ : State} {s : State} (n : Nat) (ep : Nat) (r : DeviceReply) (h₀ : Keeps s₀ s) : Keeps s₀ (State.poll s n ep r) := by
  unfold State.poll
  repeat' (first | with_reducible refine Keeps.ofIte (fun _ => ?_) (fun _ => ?_) | (with_reducible refine Keeps.upd ?_ rfl; first | with_reducible assumption | with_reducible (first | apply State.sendPeriodic_keeps | apply State.setFar_keeps | apply State.usbCount_keeps)) | split)

theorem State.perAckMsg_keeps {s₀ : State} {s : State} (e : Nat) (m : ProxyMsg) (h₀ : Keeps s₀ s) : Keeps s₀ (State.perAckMsg s e m) := by
  unfold State.perAckMsg
  repeat' ((with_reducible refine Keeps.upd ?_ rfl; first | with_reducible assumption | with_reducible apply State.setFar_keeps))

theorem State.periodicRto_keeps {s₀ : State} {s : State} (n : Nat) (ep : Nat) (tag : Nat) (h₀ : Keeps s₀ s) : Keeps s₀ (State.periodicRto s n ep tag) := by
  unfold State.periodicRto
  repeat' (first | (extract_lets +onlyGivenNames x; first | (refine (?_ : Keeps s₀ x → _) ?_; rotate_left; subst x; rotate_left; intro hx; clear_value x) | clear_value x) | (with_reducible refine Keeps.upd ?_ rfl; first | with_reducible assumption | with_reducible (first | apply State.arm_keeps | apply State.proxyCount_keeps | apply State.sendFar_keeps | apply State.setFar_keeps | apply State.usbCount_keeps)) | split)

theorem State.resetBegins_keeps {s₀ : State} {s : State} (n : Nat) (h₀ : Keeps s₀ s) : Keeps s₀ (State.resetBegins s n) := by
  unfold State.resetBegins
  repeat' ((with_reducible refine Keeps.upd ?_ rfl; first | with_reducible assumption | with_reducible apply State.arm_keeps))

theorem State.resumeBegins_keeps {s₀ : State} {s : State} (n : Nat) (by_ : Nat) (h₀ : Keeps s₀ s) : Keeps s₀ (State.resumeBegins s n by_) := by
  unfold State.resumeBegins
  repeat' (first | (extract_lets +onlyGivenNames x; first | (refine (?_ : Keeps s₀ x → _) ?_; rotate_left; subst x; rotate_left; intro hx; clear_value x) | clear_value x) | (with_reducible refine Keeps.upd ?_ rfl; first | with_reducible assumption | with_reducible (first | apply State.arm_keeps | apply State.usbCount_keeps | apply State.usbResume_keeps)) | split)

theorem State.portCmdMsg_keeps {s₀ : State} {s : State} (e : Nat) (m : ProxyMsg) (h₀ : Keeps s₀ s) : Keeps s₀ (State.portCmdMsg s e m) := by
  unfold State.portCmdMsg
  repeat' (first | with_reducible refine Keeps.ofIte (fun _ => ?_) (fun _ => ?_) | (with_reducible refine Keeps.upd ?_ rfl; first | with_reducible assumption | with_reducible (first | apply State.efuse_keeps | apply State.portAck_keeps | apply State.portOff_keeps | apply State.proxyBad_keeps | apply State.resetBegins_keeps | apply State.resumeBegins_keeps | apply State.setFar_keeps | apply State.statChange_keeps | apply State.wr_keeps)) | split)

theorem State.farEpoch_keeps {s₀ : State} {s : State} (n : Nat) (epoch : Nat) (h₀ : Keeps s₀ s) : Keeps s₀ (State.farEpoch s n epoch) := by
  unfold State.farEpoch
  repeat' (first | (with_reducible refine Keeps.upd ?_ rfl; first | with_reducible assumption | with_reducible apply State.setFar_keeps) | split)

theorem State.takeProxy_keeps {s₀ : State} {s : State} (e : Nat) (ty : ProxyType) (f : State → ProxyMsg → State) (h₀ : Keeps s₀ s) (g_f : ∀ x m, Keeps s₀ x → Keeps s₀ (f x m)) : Keeps s₀ (State.takeProxy s e ty f) := by
  unfold State.takeProxy
  repeat' (first | with_reducible assumption | (with_reducible first | apply g_f) | with_reducible (first | apply State.arm_keeps | apply State.proxyBad_keeps | apply State.takeMessage_keeps) | with_reducible refine Keeps.whenIf ?_ _ _ (fun _ _ => ?_) | (first | with_reducible refine Keeps.ofPair (by assumption) ?_) | split | intro _)

theorem State.takeFar_keeps {s₀ : State} {s : State} (e : Nat) (ty : ProxyType) (f : State → ProxyMsg → State) (h₀ : Keeps s₀ s) (g_f : ∀ x m, Keeps s₀ x → Keeps s₀ (f x m)) : Keeps s₀ (State.takeFar s e ty f) := by
  unfold State.takeFar
  repeat' (first | with_reducible assumption | (with_reducible first | apply g_f) | with_reducible (first | apply State.farEpoch_keeps | apply State.takeProxy_keeps) | with_reducible refine Keeps.ofIte (fun _ => ?_) (fun _ => ?_) | intro _)

theorem execNearPortRequest_keeps {s₀ : State} (n : Fin 4) (r : HubRequest) {s : State} (h₀ : Keeps s₀ s) : KeepsOut s₀ (execNearPortRequest n r s) := by
  unfold execNearPortRequest
  repeat' (first | with_reducible assumption | with_reducible apply State.nearRequestPort_keeps | with_reducible apply KeepsOut.ofNext | split)

theorem execStartSplit_keeps {s₀ : State} (n : Fin 4) (ep : Fin 16) (pid : UsbPid) (xt : Fin 4) (data : List Byte) {s : State} (h₀ : Keeps s₀ s) : KeepsOut s₀ (execStartSplit n ep pid xt data s) := by
  unfold execStartSplit
  repeat' (first | with_reducible assumption | with_reducible apply State.startSplit_keeps | with_reducible apply KeepsOut.ofNext)

theorem execCompleteSplit_keeps {s₀ : State} (n : Fin 4) (ep : Fin 16) (pid : UsbPid) (xt : Fin 4) {s : State} (h₀ : Keeps s₀ s) : KeepsOut s₀ (execCompleteSplit n ep pid xt s) := by
  unfold execCompleteSplit
  repeat' (first | with_reducible assumption | with_reducible apply State.completeSplit_keeps | with_reducible apply KeepsOut.ofNext)

theorem execXferReceive_keeps {s₀ : State} (e : Fin 128) {s : State} (h₀ : Keeps s₀ s) : KeepsOut s₀ (execXferReceive e s) := by
  unfold execXferReceive
  repeat' (first | with_reducible assumption | with_reducible (first | apply State.takeFar_keeps | apply State.xferMsg_keeps) | with_reducible apply KeepsOut.ofNext | intro _)

theorem execDeviceTransactionDone_keeps {s₀ : State} (n : Fin 4) (r : DeviceReply) {s : State} (h₀ : Keeps s₀ s) : KeepsOut s₀ (execDeviceTransactionDone n r s) := by
  unfold execDeviceTransactionDone
  repeat' (first | with_reducible assumption | with_reducible (first | apply State.deviceDone_keeps | apply State.ttDone_keeps) | with_reducible apply KeepsOut.ofNext | split)

theorem execResultReceive_keeps {s₀ : State} (e : Fin 128) {s : State} (h₀ : Keeps s₀ s) : KeepsOut s₀ (execResultReceive e s) := by
  unfold execResultReceive
  repeat' (first | with_reducible assumption | with_reducible (first | apply State.resultMsg_keeps | apply State.takeProxy_keeps) | with_reducible apply KeepsOut.ofNext | intro _)

theorem execXferRto_keeps {s₀ : State} (n : Fin 4) (tag : Byte) {s : State} (h₀ : Keeps s₀ s) : KeepsOut s₀ (execXferRto n tag s) := by
  unfold execXferRto
  repeat' (first | with_reducible assumption | with_reducible apply State.xferRto_keeps | with_reducible apply KeepsOut.ofNext)

theorem execSofSend_keeps {s₀ : State} (n : Fin 4) {s : State} (h₀ : Keeps s₀ s) : KeepsOut s₀ (execSofSend n s) := by
  unfold execSofSend
  repeat' (first | with_reducible assumption | with_reducible apply State.sofSend_keeps | with_reducible apply KeepsOut.ofNext)

theorem execInterruptPoll_keeps {s₀ : State} (n : Fin 4) (ep : Fin 16) (r : DeviceReply) {s : State} (h₀ : Keeps s₀ s) : KeepsOut s₀ (execInterruptPoll n ep r s) := by
  unfold execInterruptPoll
  repeat' (first | with_reducible assumption | with_reducible apply State.poll_keeps | with_reducible apply KeepsOut.ofNext)

theorem execPeriodicReceive_keeps {s₀ : State} (e : Fin 128) {s : State} (h₀ : Keeps s₀ s) : KeepsOut s₀ (execPeriodicReceive e s) := by
  unfold execPeriodicReceive
  repeat' (first | with_reducible assumption | with_reducible (first | apply State.periodicMsg_keeps | apply State.takeProxy_keeps) | with_reducible apply KeepsOut.ofNext | intro _)

theorem execPerackReceive_keeps {s₀ : State} (e : Fin 128) {s : State} (h₀ : Keeps s₀ s) : KeepsOut s₀ (execPerackReceive e s) := by
  unfold execPerackReceive
  repeat' (first | with_reducible assumption | with_reducible (first | apply State.perAckMsg_keeps | apply State.takeFar_keeps) | with_reducible apply KeepsOut.ofNext | intro _)

theorem execPeriodicRto_keeps {s₀ : State} (n : Fin 4) (ep : Fin 16) (tag : Byte) {s : State} (h₀ : Keeps s₀ s) : KeepsOut s₀ (execPeriodicRto n ep tag s) := by
  unfold execPeriodicRto
  repeat' (first | with_reducible assumption | with_reducible apply State.periodicRto_keeps | with_reducible apply KeepsOut.ofNext)

theorem execPortcmdReceive_keeps {s₀ : State} (e : Fin 128) {s : State} (h₀ : Keeps s₀ s) : KeepsOut s₀ (execPortcmdReceive e s) := by
  unfold execPortcmdReceive
  repeat' (first | with_reducible assumption | with_reducible (first | apply State.portCmdMsg_keeps | apply State.takeFar_keeps) | with_reducible apply KeepsOut.ofNext | intro _)

theorem execPortackReceive_keeps {s₀ : State} (e : Fin 128) {s : State} (h₀ : Keeps s₀ s) : KeepsOut s₀ (execPortackReceive e s) := by
  unfold execPortackReceive
  repeat' (first | with_reducible assumption | with_reducible (first | apply State.nearComplete_keeps | apply State.takeProxy_keeps) | with_reducible apply KeepsOut.ofNext | split | intro _)

theorem execPortcmdTimeout_keeps {s₀ : State} (n : Fin 4) {s : State} (h₀ : Keeps s₀ s) : KeepsOut s₀ (execPortcmdTimeout n s) := by
  unfold execPortcmdTimeout
  repeat' (first | with_reducible assumption | with_reducible apply State.cmdTimeout_keeps | with_reducible apply KeepsOut.ofNext)

theorem execPortstatSend_keeps {s₀ : State} (n : Fin 4) {s : State} (h₀ : Keeps s₀ s) : KeepsOut s₀ (execPortstatSend n s) := by
  unfold execPortstatSend
  repeat' (first | with_reducible assumption | with_reducible apply State.portStat_keeps | with_reducible apply KeepsOut.ofNext)

theorem execPortstatReceive_keeps {s₀ : State} (e : Fin 128) {s : State} (h₀ : Keeps s₀ s) : KeepsOut s₀ (execPortstatReceive e s) := by
  unfold execPortstatReceive
  repeat' (first | with_reducible assumption | with_reducible (first | apply State.nearStat_keeps | apply State.takeProxy_keeps) | with_reducible apply KeepsOut.ofNext | intro _)

theorem execProxySilence_keeps {s₀ : State} (n : Fin 4) {s : State} (h₀ : Keeps s₀ s) : KeepsOut s₀ (execProxySilence n s) := by
  unfold execProxySilence
  repeat' (first | with_reducible assumption | with_reducible apply State.proxySilence_keeps | with_reducible apply KeepsOut.ofNext)

theorem execWakeReceive_keeps {s₀ : State} (e : Fin 128) {s : State} (h₀ : Keeps s₀ s) : KeepsOut s₀ (execWakeReceive e s) := by
  unfold execWakeReceive
  repeat' (first | with_reducible assumption | with_reducible (first | apply State.takeProxy_keeps | apply State.wakeMsg_keeps) | with_reducible apply KeepsOut.ofNext | intro _)

theorem execUstat_keeps {s₀ : State} (n : Fin 16) (m : Fin 2) (e : Fin 128) {s : State} (h₀ : Keeps s₀ s) : KeepsOut s₀ (execUstat n m e s) := by
  unfold execUstat
  repeat' (first | with_reducible assumption | with_reducible apply State.mbxSubmit_keeps | with_reducible apply KeepsOut.ofNext)

theorem execUclr_keeps {s₀ : State} (n : Fin 16) (m : Fin 2) (e : Fin 128) {s : State} (h₀ : Keeps s₀ s) : KeepsOut s₀ (execUclr n m e s) := by
  unfold execUclr
  repeat' (first | with_reducible assumption | with_reducible apply State.mbxSubmit_keeps | with_reducible apply KeepsOut.ofNext)

end Sys2Proof.Machine
end

