-- ==== Sys2Proof/Laws/KeepsUsbHub.lean ====
section
/-! SUPPORT. What the operations of Machine/UsbHub.lean keep: the queue, the canonical form of the stores, every burnt fuse. -/

namespace Sys2Proof.Machine

theorem State.epEnd_keeps {s₀ : State} {s : State} (k : Nat) (c : EpCode) (h₀ : Keeps s₀ s) : Keeps s₀ (State.epEnd s k c) := by
  unfold State.epEnd
  repeat' (first | with_reducible assumption | with_reducible (first | apply State.irq_keeps | apply State.wr_keeps))

theorem State.epAbort_keeps {s₀ : State} {s : State} (k : Nat) (h₀ : Keeps s₀ s) : Keeps s₀ (State.epAbort s k) := by
  unfold State.epAbort
  repeat' (first | with_reducible assumption | with_reducible apply State.epEnd_keeps | split)

theorem State.epCfgWrite_keeps {s₀ : State} {s : State} (k : Nat) (w : Nat) (h₀ : Keeps s₀ s) : Keeps s₀ (State.epCfgWrite s k w) := by
  unfold State.epCfgWrite
  repeat' (first | with_reducible refine Keeps.ofIte (fun _ => ?_) (fun _ => ?_) | with_reducible refine Keeps.whenIf ?_ _ _ (fun _ _ => ?_) | (with_reducible refine Keeps.upd ?_ rfl; first | with_reducible assumption | with_reducible (first | apply State.wr_keeps | apply State.writeFields_keeps)))

theorem State.epArm_keeps {s₀ : State} {s : State} (k : Nat) (w : Nat) (h₀ : Keeps s₀ s) : Keeps s₀ (State.epArm s k w) := by
  unfold State.epArm
  repeat' (first | with_reducible refine Keeps.ofIte (fun _ => ?_) (fun _ => ?_) | (with_reducible refine Keeps.upd ?_ rfl; first | with_reducible assumption | with_reducible apply State.wr_keeps))

theorem State.epArmWrite_keeps {s₀ : State} {s : State} (k : Nat) (w : Nat) (h₀ : Keeps s₀ s) : Keeps s₀ (State.epArmWrite s k w) := by
  unfold State.epArmWrite
  repeat' (first | with_reducible assumption | with_reducible (first | apply State.epAbort_keeps | apply State.epArm_keeps) | with_reducible refine Keeps.whenIf ?_ _ _ (fun _ _ => ?_))

theorem State.epNoBuffer_keeps {s₀ : State} {s : State} (k : Nat) (h₀ : Keeps s₀ s) : Keeps s₀ (State.epNoBuffer s k) := by
  unfold State.epNoBuffer
  repeat' (first | with_reducible assumption | with_reducible (first | apply State.usbAnswer_keeps | apply State.usbCount_keeps | apply State.wr_keeps))

theorem State.epFlip_keeps {s₀ : State} {s : State} (k : Nat) (h₀ : Keeps s₀ s) : Keeps s₀ (State.epFlip s k) := by
  unfold State.epFlip
  repeat' (first | with_reducible assumption | with_reducible apply State.wr_keeps)

theorem State.epMove_keeps {s₀ : State} {s : State} (k : Nat) (n : Nat) (h₀ : Keeps s₀ s) : Keeps s₀ (State.epMove s k n) := by
  unfold State.epMove
  repeat' ((with_reducible refine Keeps.upd ?_ rfl; first | with_reducible assumption))

theorem State.epIn_keeps {s₀ : State} {s : State} (k : Nat) (h₀ : Keeps s₀ s) : Keeps s₀ (State.epIn s k) := by
  unfold State.epIn
  repeat' (first | with_reducible assumption | with_reducible (first | apply State.epEnd_keeps | apply State.epFlip_keeps | apply State.epMove_keeps | apply State.usbAnswer_keeps) | with_reducible refine Keeps.ofIte (fun _ => ?_) (fun _ => ?_))

theorem State.epOut_keeps {s₀ : State} {s : State} (k : Nat) (data : List Byte) (h₀ : Keeps s₀ s) : Keeps s₀ (State.epOut s k data) := by
  unfold State.epOut
  repeat' (first | with_reducible refine Keeps.ofIte (fun _ => ?_) (fun _ => ?_) | (with_reducible refine Keeps.upd ?_ rfl; first | with_reducible assumption | with_reducible (first | apply State.epEnd_keeps | apply State.epFlip_keeps | apply State.epMove_keeps | apply State.usbAnswer_keeps | apply State.wr_keeps)))

theorem State.ctlEnd_keeps {s₀ : State} {s : State} (h₀ : Keeps s₀ s) : Keeps s₀ (State.ctlEnd s) := by
  unfold State.ctlEnd
  repeat' ((with_reducible refine Keeps.upd ?_ rfl; first | with_reducible assumption))

theorem State.hwStatus_keeps {s₀ : State} {s : State} (h₀ : Keeps s₀ s) : Keeps s₀ (State.hwStatus s) := by
  unfold State.hwStatus
  repeat' (first | (extract_lets +onlyGivenNames x; first | (refine (?_ : Keeps s₀ x → _) ?_; rotate_left; subst x; rotate_left; intro hx; clear_value x) | clear_value x) | (with_reducible refine Keeps.upd ?_ rfl; first | with_reducible assumption | with_reducible (first | apply State.ctlEnd_keeps | apply State.usbAnswer_keeps | apply State.wr_keeps) | (with_reducible refine Keeps.upd ?_ rfl; first | with_reducible assumption | with_reducible (first | apply State.ctlEnd_keeps | apply State.usbAnswer_keeps | apply State.wr_keeps))) | split)

theorem State.ep0Token_keeps {s₀ : State} {s : State} (isIn : Bool) (data : List Byte) (h₀ : Keeps s₀ s) : Keeps s₀ (State.ep0Token s isIn data) := by
  unfold State.ep0Token
  repeat' (first | with_reducible assumption | with_reducible (first | apply State.ctlEnd_keeps | apply State.epIn_keeps | apply State.epNoBuffer_keeps | apply State.epOut_keeps | apply State.hwStatus_keeps | apply State.usbAnswer_keeps | apply State.wr_keeps) | with_reducible refine Keeps.ofIte (fun _ => ?_) (fun _ => ?_) | with_reducible refine Keeps.whenIf ?_ _ _ (fun _ _ => ?_) | split)

theorem State.endpointToken_keeps {s₀ : State} {s : State} (k : Nat) (isIn : Bool) (data : List Byte) (h₀ : Keeps s₀ s) : Keeps s₀ (State.endpointToken s k isIn data) := by
  unfold State.endpointToken
  repeat' (first | with_reducible assumption | with_reducible (first | apply State.ep0Token_keeps | apply State.epIn_keeps | apply State.epNoBuffer_keeps | apply State.epOut_keeps | apply State.usbAnswer_keeps) | split)

theorem State.hostHalt_keeps {s₀ : State} {s : State} (k : Nat) (set : Bool) (fw : Bool) (h₀ : Keeps s₀ s) : Keeps s₀ (State.hostHalt s k set fw) := by
  unfold State.hostHalt
  repeat' (first | with_reducible assumption | with_reducible apply State.wr_keeps | split)

theorem State.setupReceive_keeps {s₀ : State} {s : State} (b : List Byte) (arm : Bool) (fw : Bool) (h₀ : Keeps s₀ s) : Keeps s₀ (State.setupReceive s b arm fw) := by
  unfold State.setupReceive
  repeat' (first | with_reducible refine Keeps.ofIte (fun _ => ?_) (fun _ => ?_) | with_reducible refine Keeps.whenIf ?_ _ _ (fun _ _ => ?_) | (with_reducible refine Keeps.upd ?_ rfl; first | with_reducible assumption | with_reducible (first | apply State.arm_keeps | apply State.epAbort_keeps | apply State.hostHalt_keeps | apply State.wr_keeps)))

theorem State.fnReset_keeps {s₀ : State} {s : State} (h₀ : Keeps s₀ s) : Keeps s₀ (State.fnReset s) := by
  unfold State.fnReset
  repeat' (first | with_reducible refine Keeps.eachOf ?_ _ _ (fun _ _ _ => ?_) | (with_reducible refine Keeps.upd ?_ rfl; first | with_reducible assumption | with_reducible (first | apply State.ctlEnd_keeps | apply State.epAbort_keeps | apply State.usbCount_keeps | apply State.wr_keeps)) | split)

theorem State.fnDetach_keeps {s₀ : State} {s : State} (h₀ : Keeps s₀ s) : Keeps s₀ (State.fnDetach s) := by
  unfold State.fnDetach
  repeat' (first | with_reducible refine Keeps.eachOf ?_ _ _ (fun _ _ _ => ?_) | (with_reducible refine Keeps.upd ?_ rfl; first | with_reducible assumption | with_reducible (first | apply State.ctlEnd_keeps | apply State.epAbort_keeps | apply State.wr_keeps)))

theorem State.armLost_keeps {s₀ : State} {s : State} (l : List (Fin 16)) (h₀ : Keeps s₀ s) : Keeps s₀ (State.armLost s l) := by
  unfold State.armLost
  repeat' (first | with_reducible assumption | with_reducible apply State.wr_keeps | with_reducible refine Keeps.eachOf ?_ _ _ (fun _ _ _ => ?_))

theorem State.epMemRead_keeps {s₀ : State} {s : State} (o : Nat) (h₀ : Keeps s₀ s) : Keeps s₀ (State.epMemRead s o) := by
  unfold State.epMemRead
  repeat' (first | (with_reducible refine Keeps.upd ?_ rfl; first | with_reducible assumption | with_reducible apply State.usbCount_keeps | (with_reducible refine Keeps.upd ?_ rfl; first | with_reducible assumption | with_reducible apply State.usbCount_keeps)) | split)

theorem State.epMemWrite_keeps {s₀ : State} {s : State} (o : Nat) (w : Nat) (h₀ : Keeps s₀ s) : Keeps s₀ (State.epMemWrite s o w) := by
  unfold State.epMemWrite
  repeat' (first | (with_reducible refine Keeps.upd ?_ rfl; first | with_reducible assumption | with_reducible apply State.usbCount_keeps) | split)

theorem State.hubReset_keeps {s₀ : State} {s : State} (h₀ : Keeps s₀ s) : Keeps s₀ (State.hubReset s) := by
  unfold State.hubReset
  repeat' (first | with_reducible refine Keeps.eachOf ?_ _ _ (fun _ _ _ => ?_) | (with_reducible refine Keeps.upd ?_ rfl; first | with_reducible assumption | with_reducible (first | apply State.portOff_keeps | apply State.wr_keeps)) | split)

theorem State.usbAttach_keeps {s₀ : State} {s : State} (h₀ : Keeps s₀ s) : Keeps s₀ (State.usbAttach s) := by
  unfold State.usbAttach
  repeat' (first | with_reducible assumption | with_reducible apply State.wr_keeps | split)

theorem State.usbLeave_keeps {s₀ : State} {s : State} (h₀ : Keeps s₀ s) : Keeps s₀ (State.usbLeave s) := by
  unfold State.usbLeave
  repeat' (first | with_reducible assumption | with_reducible (first | apply State.fnDetach_keeps | apply State.hubReset_keeps | apply State.portOff_keeps | apply State.statChange_keeps | apply State.wr_keeps) | with_reducible refine Keeps.eachOf ?_ _ _ (fun _ _ _ => ?_) | split)

theorem State.usbDetach_keeps {s₀ : State} {s : State} (h₀ : Keeps s₀ s) : Keeps s₀ (State.usbDetach s) := by
  unfold State.usbDetach
  repeat' (first | with_reducible assumption | with_reducible apply State.usbLeave_keeps | split)

theorem State.busReset_keeps {s₀ : State} {s : State} (high : Bool) (h₀ : Keeps s₀ s) : Keeps s₀ (State.busReset s high) := by
  unfold State.busReset
  repeat' (first | with_reducible assumption | with_reducible (first | apply State.fnReset_keeps | apply State.hubReset_keeps | apply State.wr_keeps) | split)

theorem State.toNearPorts_keeps {s₀ : State} {s : State} (code : Nat) (h₀ : Keeps s₀ s) : Keeps s₀ (State.toNearPorts s code) := by
  unfold State.toNearPorts
  repeat' (first | with_reducible assumption | with_reducible apply State.sendCmd_keeps | with_reducible refine Keeps.eachOf ?_ _ _ (fun _ _ _ => ?_) | split)

theorem State.usbSuspend_keeps {s₀ : State} {s : State} (h₀ : Keeps s₀ s) : Keeps s₀ (State.usbSuspend s) := by
  unfold State.usbSuspend
  repeat' (first | with_reducible refine Keeps.ofIte (fun _ => ?_) (fun _ => ?_) | (with_reducible refine Keeps.upd ?_ rfl; first | with_reducible assumption | with_reducible (first | apply State.toNearPorts_keeps | apply State.wr_keeps)))

theorem State.resumed_keeps {s₀ : State} {s : State} (h₀ : Keeps s₀ s) : Keeps s₀ (State.resumed s) := by
  unfold State.resumed
  repeat' ((with_reducible refine Keeps.upd ?_ rfl; first | with_reducible assumption | with_reducible (first | apply State.toNearPorts_keeps | apply State.wr_keeps)))

theorem State.usbResume_keeps {s₀ : State} {s : State} (h₀ : Keeps s₀ s) : Keeps s₀ (State.usbResume s) := by
  unfold State.usbResume
  repeat' (first | (with_reducible refine Keeps.upd ?_ rfl; first | with_reducible assumption | with_reducible apply State.resumed_keeps) | split)

theorem State.remoteWake_keeps {s₀ : State} {s : State} (h₀ : Keeps s₀ s) : Keeps s₀ (State.remoteWake s) := by
  unfold State.remoteWake
  repeat' (first | (with_reducible refine Keeps.upd ?_ rfl; first | with_reducible assumption | with_reducible apply State.arm_keeps | (with_reducible refine Keeps.upd ?_ rfl; first | with_reducible assumption | with_reducible apply State.arm_keeps)) | split)

theorem State.remoteWakeEnd_keeps {s₀ : State} {s : State} (h₀ : Keeps s₀ s) : Keeps s₀ (State.remoteWakeEnd s) := by
  unfold State.remoteWakeEnd
  repeat' (first | (with_reducible refine Keeps.upd ?_ rfl; first | with_reducible assumption | with_reducible (first | apply State.resumed_keeps | apply State.usbCount_keeps | apply State.wr_keeps) | (with_reducible refine Keeps.upd ?_ rfl; first | with_reducible assumption | with_reducible (first | apply State.resumed_keeps | apply State.usbCount_keeps | apply State.wr_keeps))) | split)

theorem State.clearChange_keeps {s₀ : State} {s : State} (n : Nat) (c : Nat) (h₀ : Keeps s₀ s) : Keeps s₀ (State.clearChange s n c) := by
  unfold State.clearChange
  repeat' ((with_reducible refine Keeps.upd ?_ rfl; first | with_reducible assumption))

theorem State.setResetting_keeps {s₀ : State} {s : State} (n : Nat) (x : Bool) (h₀ : Keeps s₀ s) : Keeps s₀ (State.setResetting s n x) := by
  unfold State.setResetting
  repeat' ((with_reducible refine Keeps.upd ?_ rfl; first | with_reducible assumption))

theorem State.setResuming_keeps {s₀ : State} {s : State} (n : Nat) (x : Nat) (h₀ : Keeps s₀ s) : Keeps s₀ (State.setResuming s n x) := by
  unfold State.setResuming
  repeat' ((with_reducible refine Keeps.upd ?_ rfl; first | with_reducible assumption))

theorem State.localRequest_keeps {s₀ : State} {s : State} (n : Nat) (r : HubRequest) (h₀ : Keeps s₀ s) : Keeps s₀ (State.localRequest s n r) := by
  unfold State.localRequest
  repeat' (first | with_reducible refine Keeps.ofIte (fun _ => ?_) (fun _ => ?_) | (with_reducible refine Keeps.upd ?_ rfl; first | with_reducible assumption | with_reducible (first | apply State.clearChange_keeps | apply State.deviceDescriptor_keeps | apply State.efuse_keeps | apply State.hubDescriptor_keeps | apply State.portOff_keeps | apply State.remoteWake_keeps | apply State.resetBegins_keeps | apply State.resumeBegins_keeps | apply State.setNear_keeps | apply State.usbAnswer_keeps | apply State.wr_keeps)) | split)

theorem State.port5Request_keeps {s₀ : State} {s : State} (r : HubRequest) (h₀ : Keeps s₀ s) : Keeps s₀ (State.port5Request s r) := by
  unfold State.port5Request
  repeat' (first | (with_reducible refine Keeps.upd ?_ rfl; first | with_reducible assumption | with_reducible (first | apply State.clearChange_keeps | apply State.deviceDescriptor_keeps | apply State.hubDescriptor_keeps | apply State.remoteWake_keeps | apply State.resetBegins_keeps | apply State.resumeBegins_keeps | apply State.usbAnswer_keeps)) | split)

theorem State.hubDescriptor_keeps {s₀ : State} {s : State} (h₀ : Keeps s₀ s) : Keeps s₀ (State.hubDescriptor s) := by
  unfold State.hubDescriptor
  repeat' (first | with_reducible assumption | with_reducible (first | apply State.free_keeps | apply State.usbAnswer_keeps))

theorem State.deviceDescriptor_keeps {s₀ : State} {s : State} (h₀ : Keeps s₀ s) : Keeps s₀ (State.deviceDescriptor s) := by
  unfold State.deviceDescriptor
  repeat' (first | with_reducible assumption | with_reducible (first | apply State.free_keeps | apply State.usbAnswer_keeps))

theorem State.hubRequest_keeps {s₀ : State} {s : State} (r : HubRequest) (h₀ : Keeps s₀ s) : Keeps s₀ (State.hubRequest s r) := by
  unfold State.hubRequest
  repeat' (first | with_reducible assumption | with_reducible (first | apply State.deviceDescriptor_keeps | apply State.hubDescriptor_keeps | apply State.usbAnswer_keeps | apply State.wr_keeps) | split)

theorem State.portRequest_keeps {s₀ : State} {s : State} (n : Nat) (r : HubRequest) (h₀ : Keeps s₀ s) : Keeps s₀ (State.portRequest s n r) := by
  unfold State.portRequest
  repeat' (first | with_reducible assumption | with_reducible (first | apply State.hubRequest_keeps | apply State.localRequest_keeps | apply State.port5Request_keeps | apply State.usbAnswer_keeps) | split)

theorem State.portConnect_keeps {s₀ : State} {s : State} (n : Nat) (low : Bool) (held : Nat) (h₀ : Keeps s₀ s) : Keeps s₀ (State.portConnect s n low held) := by
  unfold State.portConnect
  repeat' (first | with_reducible assumption | with_reducible (first | apply State.portChange_keeps | apply State.portStat_keeps | apply State.wakeSource_keeps | apply State.wr_keeps) | with_reducible refine Keeps.ofIte (fun _ => ?_) (fun _ => ?_))

theorem State.portDisconnect_keeps {s₀ : State} {s : State} (n : Nat) (h₀ : Keeps s₀ s) : Keeps s₀ (State.portDisconnect s n) := by
  unfold State.portDisconnect
  repeat' (first | with_reducible refine Keeps.ofIte (fun _ => ?_) (fun _ => ?_) | (with_reducible refine Keeps.upd ?_ rfl; first | with_reducible assumption | with_reducible (first | apply State.portChange_keeps | apply State.portEmpty_keeps | apply State.portStat_keeps | apply State.setFar_keeps | apply State.wakeSource_keeps)))

theorem State.portResetEnd_keeps {s₀ : State} {s : State} (n : Nat) (speed : Nat) (h₀ : Keeps s₀ s) : Keeps s₀ (State.portResetEnd s n speed) := by
  unfold State.portResetEnd
  repeat' (first | (with_reducible refine Keeps.upd ?_ rfl; first | with_reducible assumption | with_reducible (first | apply State.portAck_keeps | apply State.portChange_keeps | apply State.portStat_keeps | apply State.setResetting_keeps | apply State.wr_keeps)) | split)

theorem State.portResumeEnd_keeps {s₀ : State} {s : State} (n : Nat) (h₀ : Keeps s₀ s) : Keeps s₀ (State.portResumeEnd s n) := by
  unfold State.portResumeEnd
  repeat' (first | with_reducible refine Keeps.ofIte (fun _ => ?_) (fun _ => ?_) | with_reducible refine Keeps.whenIf ?_ _ _ (fun _ _ => ?_) | (with_reducible refine Keeps.upd ?_ rfl; first | with_reducible assumption | with_reducible (first | apply State.portAck_keeps | apply State.portChange_keeps | apply State.portStat_keeps | apply State.setResuming_keeps | apply State.usbResume_keeps | apply State.wr_keeps)))

theorem State.deviceWake_keeps {s₀ : State} {s : State} (n : Nat) (h₀ : Keeps s₀ s) : Keeps s₀ (State.deviceWake s n) := by
  unfold State.deviceWake
  repeat' (first | with_reducible assumption | with_reducible (first | apply State.resumeBegins_keeps | apply State.wakeSource_keeps) | split)

theorem State.farWake_keeps {s₀ : State} {s : State} (n : Nat) (h₀ : Keeps s₀ s) : Keeps s₀ (State.farWake s n) := by
  unfold State.farWake
  repeat' (first | with_reducible assumption | with_reducible (first | apply State.resumeBegins_keeps | apply State.sendFar_keeps) | split)

theorem State.portTrip_keeps {s₀ : State} {s : State} (n : Nat) (h₀ : Keeps s₀ s) : Keeps s₀ (State.portTrip s n) := by
  unfold State.portTrip
  repeat' (first | with_reducible refine Keeps.ofIte (fun _ => ?_) (fun _ => ?_) | (with_reducible refine Keeps.upd ?_ rfl; first | with_reducible assumption | with_reducible (first | apply State.portChange_keeps | apply State.portEmpty_keeps | apply State.portStat_keeps | apply State.wakeSource_keeps | apply State.wr_keeps)))

theorem State.portModeWrite_keeps {s₀ : State} {s : State} (n : Nat) (w : Nat) (h₀ : Keeps s₀ s) : Keeps s₀ (State.portModeWrite s n w) := by
  unfold State.portModeWrite
  repeat' (first | with_reducible assumption | with_reducible (first | apply State.portOff_keeps | apply State.wr_keeps | apply State.writeField_keeps) | with_reducible refine Keeps.ofIte (fun _ => ?_) (fun _ => ?_))

theorem State.usbCtrlWrite_keeps {s₀ : State} {s : State} (w : Nat) (h₀ : Keeps s₀ s) : Keeps s₀ (State.usbCtrlWrite s w) := by
  unfold State.usbCtrlWrite
  repeat' (first | with_reducible refine Keeps.ofIte (fun _ => ?_) (fun _ => ?_) | (with_reducible refine Keeps.upd ?_ rfl; first | with_reducible assumption | with_reducible (first | apply State.portChange_keeps | apply State.wakeSource_keeps | apply State.writeReg_keeps)))

theorem State.usbHush_keeps {s₀ : State} {s : State} (h₀ : Keeps s₀ s) : Keeps s₀ (State.usbHush s) := by
  unfold State.usbHush
  repeat' (first | with_reducible assumption | with_reducible (first | apply State.portOff_keeps | apply State.usbLeave_keeps) | with_reducible refine Keeps.eachOf ?_ _ _ (fun _ _ _ => ?_))

theorem State.usbWrite_keeps {s₀ : State} {s : State} (off : Nat) (w : Nat) (h₀ : Keeps s₀ s) : KeepsOpt s₀ (State.usbWrite s off w) := by
  unfold State.usbWrite
  repeat' (first | with_reducible assumption | (extract_lets +onlyGivenNames x; first | (refine (?_ : Keeps s₀ x → _) ?_; rotate_left; subst x; rotate_left; intro hx; clear_value x) | clear_value x) | with_reducible (first | apply State.epArmWrite_keeps | apply State.epCfgWrite_keeps | apply State.epMemWrite_keeps | apply State.portModeWrite_keeps | apply State.usbCtrlWrite_keeps | apply State.wr_keeps) | with_reducible apply KeepsOpt.ofSome | exact KeepsOpt.ofNone | with_reducible refine Keeps.whenIf ?_ _ _ (fun _ _ => ?_) | with_reducible refine Keeps.eachOf ?_ _ _ (fun _ _ _ => ?_) | split)

theorem execUsbAttach_keeps {s₀ : State} {s : State} (h₀ : Keeps s₀ s) : KeepsOut s₀ (execUsbAttach s) := by
  unfold execUsbAttach
  repeat' (first | with_reducible assumption | with_reducible apply State.usbAttach_keeps | with_reducible apply KeepsOut.ofNext)

theorem execUsbSuspend_keeps {s₀ : State} {s : State} (h₀ : Keeps s₀ s) : KeepsOut s₀ (execUsbSuspend s) := by
  unfold execUsbSuspend
  repeat' (first | with_reducible assumption | with_reducible apply State.usbSuspend_keeps | with_reducible apply KeepsOut.ofNext)

theorem execUsbResume_keeps {s₀ : State} {s : State} (h₀ : Keeps s₀ s) : KeepsOut s₀ (execUsbResume s) := by
  unfold execUsbResume
  repeat' (first | with_reducible assumption | with_reducible apply State.usbResume_keeps | with_reducible apply KeepsOut.ofNext)

theorem execUsbRemoteWake_keeps {s₀ : State} (n : Fin 6) {s : State} (h₀ : Keeps s₀ s) : KeepsOut s₀ (execUsbRemoteWake n s) := by
  unfold execUsbRemoteWake
  repeat' (first | with_reducible assumption | with_reducible (first | apply State.deviceWake_keeps | apply State.remoteWake_keeps) | with_reducible apply KeepsOut.ofNext | split)

theorem execRemoteWakeEnd_keeps {s₀ : State} {s : State} (h₀ : Keeps s₀ s) : KeepsOut s₀ (execRemoteWakeEnd s) := by
  unfold execRemoteWakeEnd
  repeat' (first | with_reducible assumption | with_reducible apply State.remoteWakeEnd_keeps | with_reducible apply KeepsOut.ofNext)

theorem execPortModeWrite_keeps {s₀ : State} (n : Fin 4) (w : Word) {s : State} (h₀ : Keeps s₀ s) : KeepsOut s₀ (execPortModeWrite n w s) := by
  unfold execPortModeWrite
  repeat' (first | with_reducible assumption | with_reducible apply State.portModeWrite_keeps | with_reducible apply KeepsOut.ofNext)

theorem execPortConnect_keeps {s₀ : State} (n : Fin 4) (low : Bool) (held : Nat) {s : State} (h₀ : Keeps s₀ s) : KeepsOut s₀ (execPortConnect n low held s) := by
  unfold execPortConnect
  repeat' (first | with_reducible assumption | with_reducible apply State.portConnect_keeps | with_reducible apply KeepsOut.ofNext)

theorem execPortDisconnect_keeps {s₀ : State} (n : Fin 4) {s : State} (h₀ : Keeps s₀ s) : KeepsOut s₀ (execPortDisconnect n s) := by
  unfold execPortDisconnect
  repeat' (first | with_reducible assumption | with_reducible apply State.portDisconnect_keeps | with_reducible apply KeepsOut.ofNext)

theorem execPortResetEnd_keeps {s₀ : State} (n : Fin 5) (speed : Fin 3) {s : State} (h₀ : Keeps s₀ s) : KeepsOut s₀ (execPortResetEnd n speed s) := by
  unfold execPortResetEnd
  repeat' (first | with_reducible assumption | with_reducible apply State.portResetEnd_keeps | with_reducible apply KeepsOut.ofNext)

theorem execPortResumeEnd_keeps {s₀ : State} (n : Fin 5) {s : State} (h₀ : Keeps s₀ s) : KeepsOut s₀ (execPortResumeEnd n s) := by
  unfold execPortResumeEnd
  repeat' (first | with_reducible assumption | with_reducible apply State.portResumeEnd_keeps | with_reducible apply KeepsOut.ofNext)

theorem execFarDeviceRemoteWake_keeps {s₀ : State} (n : Fin 4) {s : State} (h₀ : Keeps s₀ s) : KeepsOut s₀ (execFarDeviceRemoteWake n s) := by
  unfold execFarDeviceRemoteWake
  repeat' (first | with_reducible assumption | with_reducible apply State.farWake_keeps | with_reducible apply KeepsOut.ofNext)

theorem execEndpointEnable_keeps {s₀ : State} (k : Fin 16) (w : Word) {s : State} (h₀ : Keeps s₀ s) : KeepsOut s₀ (execEndpointEnable k w s) := by
  unfold execEndpointEnable
  repeat' (first | with_reducible assumption | with_reducible apply State.epCfgWrite_keeps | with_reducible apply KeepsOut.ofNext)

theorem execEndpointArm_keeps {s₀ : State} (k : Fin 16) (w : Word) {s : State} (h₀ : Keeps s₀ s) : KeepsOut s₀ (execEndpointArm k w s) := by
  unfold execEndpointArm
  repeat' (first | with_reducible assumption | with_reducible apply State.epArm_keeps | with_reducible apply KeepsOut.ofNext)

theorem execEndpointDisarm_keeps {s₀ : State} (k : Fin 16) {s : State} (h₀ : Keeps s₀ s) : KeepsOut s₀ (execEndpointDisarm k s) := by
  unfold execEndpointDisarm
  repeat' (first | with_reducible assumption | with_reducible apply State.epAbort_keeps | with_reducible apply KeepsOut.ofNext)

theorem execEndpointHalt_keeps {s₀ : State} (k : Fin 16) {s : State} (h₀ : Keeps s₀ s) : KeepsOut s₀ (execEndpointHalt k s) := by
  unfold execEndpointHalt
  repeat' (first | with_reducible assumption | with_reducible apply State.wr_keeps | with_reducible apply KeepsOut.ofNext)

theorem execSetupReceive_keeps {s₀ : State} (b : BitVec 64) (arm : Bool) (fw : Bool) {s : State} (h₀ : Keeps s₀ s) : KeepsOut s₀ (execSetupReceive b arm fw s) := by
  unfold execSetupReceive
  repeat' (first | with_reducible assumption | with_reducible apply State.setupReceive_keeps | with_reducible apply KeepsOut.ofNext)

theorem execEndpointToken_keeps {s₀ : State} (k : Fin 16) (isIn : Bool) (data : List Byte) {s : State} (h₀ : Keeps s₀ s) : KeepsOut s₀ (execEndpointToken k isIn data s) := by
  unfold execEndpointToken
  repeat' (first | with_reducible assumption | with_reducible apply State.endpointToken_keeps | with_reducible apply KeepsOut.ofNext)

theorem execEndpointMemoryAccess_keeps {s₀ : State} (o : Fin 4096) (v : Option Word) {s : State} (h₀ : Keeps s₀ s) : KeepsOut s₀ (execEndpointMemoryAccess o v s) := by
  unfold execEndpointMemoryAccess
  repeat' (first | with_reducible assumption | with_reducible (first | apply State.epMemRead_keeps | apply State.epMemWrite_keeps) | with_reducible apply KeepsOut.ofNext | split)

end Sys2Proof.Machine
end

