-- ==== Sys2Proof/Laws/KeepsHostRings.lean ====
section
/-! SUPPORT. What the operations of Machine/HostRings.lean keep: the queue, the canonical form of the stores, every burnt fuse. -/

namespace Sys2Proof.Machine

theorem State.descFetch_keeps {s₀ : State} {s0 : State} (r : Nat) (err : Bool) (h₀ : Keeps s₀ s0) : Keeps s₀ (State.descFetch s0 r err) := by
  unfold State.descFetch
  repeat' (first | with_reducible refine Keeps.ofIte (fun _ => ?_) (fun _ => ?_) | (with_reducible refine Keeps.upd ?_ rfl; first | with_reducible assumption | with_reducible (first | apply State.rngCount_keeps | apply State.setFetched_keeps | apply State.stopRing_keeps)))

theorem State.txDone_keeps {s₀ : State} {s : State} (r : Nat) (idx : Nat) (seq : Nat) (out : Sent) (err : Bool) (h₀ : Keeps s₀ s) : Keeps s₀ (State.txDone s r idx seq out err) := by
  unfold State.txDone
  repeat' (first | with_reducible assumption | with_reducible apply State.ringDone_keeps | split)

theorem State.rawSend_keeps {s₀ : State} {s : State} (r : Nat) (d : Desc) (payload : List Byte) (h₀ : Keeps s₀ s) : Keeps s₀ (State.rawSend s r d payload).1 := by
  unfold State.rawSend
  repeat' (first | with_reducible refine Keeps.ofItePair (fun _ => ?_) (fun _ => ?_) | (with_reducible refine Keeps.upd ?_ rfl; first | with_reducible assumption | with_reducible (first | apply State.classifyLocal_keeps | apply State.fabCount_keeps | apply State.sendOrigin_keeps)))

theorem State.txRun_keeps {s₀ : State} {s : State} (r : Nat) (d : Desc) (err : BusError) (h₀ : Keeps s₀ s) : Keeps s₀ (State.txRun s r d err) := by
  unfold State.txRun
  repeat' (first | with_reducible assumption | with_reducible (first | apply State.descFails_keeps | apply State.originSend_keeps | apply State.rawSend_keeps | apply State.sat_keeps | apply State.startDesc_keeps | apply State.txDone_keeps) | with_reducible refine Keeps.ofIte (fun _ => ?_) (fun _ => ?_) | split)

theorem State.txDescriptor_keeps {s₀ : State} {s : State} (r : Nat) (err : BusError) (h₀ : Keeps s₀ s) : Keeps s₀ (State.txDescriptor s r err) := by
  unfold State.txDescriptor
  repeat' (first | with_reducible assumption | with_reducible apply State.txRun_keeps | split)

theorem State.heldDone_keeps {s₀ : State} {s : State} (p : Nat) (x : Option (Held × Sent)) (h₀ : Keeps s₀ s) : Keeps s₀ (State.heldDone s p x) := by
  unfold State.heldDone
  repeat' (first | with_reducible assumption | with_reducible (first | apply State.flushCluster_keeps | apply State.txDone_keeps) | split)

theorem State.noBuffer_keeps {s₀ : State} {s : State} (p : Nat) (h₀ : Keeps s₀ s) : Keeps s₀ (State.noBuffer s p) := by
  unfold State.noBuffer
  repeat' (first | with_reducible assumption | with_reducible (first | apply State.completeSend_keeps | apply State.rngCount_keeps))

theorem State.rxDeliver_keeps {s₀ : State} {s : State} (p : Nat) (err : BusError) (h₀ : Keeps s₀ s) : Keeps s₀ (State.rxDeliver s p err) := by
  unfold State.rxDeliver
  repeat' (first | with_reducible assumption | with_reducible (first | apply State.completeSend_keeps | apply State.descFails_keeps | apply State.noBuffer_keeps | apply State.ringDone_keeps | apply State.startDesc_keeps | apply State.writeSide_keeps) | with_reducible refine Keeps.ofIte (fun _ => ?_) (fun _ => ?_) | split)

theorem State.rxExpire_keeps {s₀ : State} {s : State} (p : Nat) (h₀ : Keeps s₀ s) : Keeps s₀ (State.rxExpire s p) := by
  unfold State.rxExpire
  repeat' (first | with_reducible assumption | with_reducible apply State.noBuffer_keeps | split)

theorem State.ringStart_keeps {s₀ : State} {s : State} (r : Nat) (h₀ : Keeps s₀ s) : Keeps s₀ (State.ringStart s r) := by
  unfold State.ringStart
  repeat' (first | with_reducible refine Keeps.ofIte (fun _ => ?_) (fun _ => ?_) | (with_reducible refine Keeps.upd ?_ rfl; first | with_reducible assumption | with_reducible (first | apply State.rngReject_keeps | apply State.setFetched_keeps | apply State.wr_keeps) | (with_reducible refine Keeps.upd ?_ rfl; first | with_reducible assumption | with_reducible (first | apply State.rngReject_keeps | apply State.setFetched_keeps | apply State.wr_keeps))))

theorem State.ringStop_keeps {s₀ : State} {s : State} (r : Nat) (h₀ : Keeps s₀ s) : Keeps s₀ (State.ringStop s r) := by
  unfold State.ringStop
  repeat' (first | with_reducible assumption | with_reducible (first | apply State.descFails_keeps | apply State.wr_keeps) | with_reducible refine Keeps.eachOf ?_ _ _ (fun _ _ _ => ?_))

theorem State.ringDrained_keeps {s₀ : State} {s : State} (r : Nat) (h₀ : Keeps s₀ s) : Keeps s₀ (State.ringDrained s r) := by
  unfold State.ringDrained
  repeat' (first | with_reducible assumption | with_reducible (first | apply State.setFetched_keeps | apply State.wr_keeps) | split)

theorem State.rcfgWrite_keeps {s₀ : State} {s : State} (r : Nat) (w : Nat) (h₀ : Keeps s₀ s) : Keeps s₀ (State.rcfgWrite s r w) := by
  unfold State.rcfgWrite
  repeat' (first | with_reducible assumption | with_reducible (first | apply State.ringStart_keeps | apply State.ringStop_keeps | apply State.rngReject_keeps | apply State.writeField_keeps | apply State.writeFields_keeps) | with_reducible refine Keeps.ofIte (fun _ => ?_) (fun _ => ?_) | with_reducible refine Keeps.whenIf ?_ _ _ (fun _ _ => ?_))

theorem State.rbaseWrite_keeps {s₀ : State} {s : State} (r : Nat) (off : Nat) (w : Nat) (h₀ : Keeps s₀ s) : Keeps s₀ (State.rbaseWrite s r off w) := by
  unfold State.rbaseWrite
  repeat' (first | with_reducible assumption | with_reducible (first | apply State.rngReject_keeps | apply State.writeReg_keeps) | split)

theorem State.doorbellReject_keeps {s₀ : State} {s : State} (h₀ : Keeps s₀ s) : Keeps s₀ (State.doorbellReject s) := by
  unfold State.doorbellReject
  repeat' (first | with_reducible assumption | with_reducible (first | apply State.rngCount_keeps | apply State.rngReject_keeps))

theorem State.eventBell_keeps {s₀ : State} {s : State} (v : Nat) (h₀ : Keeps s₀ s) : Keeps s₀ (State.eventBell s v) := by
  unfold State.eventBell
  repeat' (first | (with_reducible refine Keeps.upd ?_ rfl; first | with_reducible assumption | with_reducible (first | apply State.doorbellReject_keeps | apply State.rngCount_keeps | apply State.wr_keeps) | (with_reducible refine Keeps.upd ?_ rfl; first | with_reducible assumption | with_reducible (first | apply State.doorbellReject_keeps | apply State.rngCount_keeps | apply State.wr_keeps))) | split)

theorem State.doorbell_keeps {s₀ : State} {s : State} (off : Nat) (v : Nat) (whole : Bool) (dis : Bool) (h₀ : Keeps s₀ s) : Keeps s₀ (State.doorbell s off v whole dis) := by
  unfold State.doorbell
  repeat' (first | with_reducible refine Keeps.ofIte (fun _ => ?_) (fun _ => ?_) | with_reducible refine Keeps.whenIf ?_ _ _ (fun _ _ => ?_) | (with_reducible refine Keeps.upd ?_ rfl; first | with_reducible assumption | with_reducible (first | apply State.doorbellReject_keeps | apply State.eventBell_keeps | apply State.ringStop_keeps | apply State.wr_keeps) | (with_reducible refine Keeps.upd ?_ rfl; first | with_reducible assumption | with_reducible (first | apply State.doorbellReject_keeps | apply State.eventBell_keeps | apply State.ringStop_keeps | apply State.wr_keeps))))

theorem State.evcfgWrite_keeps {s₀ : State} {s : State} (w : Nat) (h₀ : Keeps s₀ s) : Keeps s₀ (State.evcfgWrite s w) := by
  unfold State.evcfgWrite
  repeat' (first | with_reducible assumption | with_reducible (first | apply State.rngReject_keeps | apply State.wr_keeps | apply State.writeReg_keeps) | with_reducible refine Keeps.ofIte (fun _ => ?_) (fun _ => ?_) | with_reducible refine Keeps.whenIf ?_ _ _ (fun _ _ => ?_))

theorem State.holdoffEnd_keeps {s₀ : State} {s : State} (v : Nat) (h₀ : Keeps s₀ s) : Keeps s₀ (State.holdoffEnd s v) := by
  unfold State.holdoffEnd
  repeat' (first | (with_reducible refine Keeps.upd ?_ rfl; first | with_reducible assumption | with_reducible apply State.sendMsix_keeps) | split)

theorem State.msixRelease_keeps {s₀ : State} {s : State} (h₀ : Keeps s₀ s) : Keeps s₀ (State.msixRelease s) := by
  unfold State.msixRelease
  repeat' (first | with_reducible assumption | with_reducible (first | apply State.putBit_keeps | apply State.sendMsix_keeps) | with_reducible refine Keeps.eachOf ?_ _ _ (fun _ _ _ => ?_) | split)

theorem State.ringsForget_keeps {s₀ : State} {s : State} (h₀ : Keeps s₀ s) : Keeps s₀ (State.ringsForget s) := by
  unfold State.ringsForget
  repeat' ((with_reducible refine Keeps.upd ?_ rfl; first | with_reducible assumption | with_reducible apply State.free_keeps))

theorem State.hostLost_keeps {s₀ : State} {s : State} (h₀ : Keeps s₀ s) : Keeps s₀ (State.hostLost s) := by
  unfold State.hostLost
  repeat' (first | with_reducible refine Keeps.eachOf ?_ _ _ (fun _ _ _ => ?_) | (with_reducible refine Keeps.upd ?_ rfl; first | with_reducible assumption | with_reducible (first | apply State.fault_keeps | apply State.ringsForget_keeps | apply State.sat_keeps | apply State.setFetched_keeps | apply State.wr_keeps)) | split)

theorem State.linkGone_keeps {s₀ : State} {s : State} (h₀ : Keeps s₀ s) : Keeps s₀ (State.linkGone s) := by
  unfold State.linkGone
  repeat' ((with_reducible refine Keeps.upd ?_ rfl; first | with_reducible assumption | with_reducible apply State.wr_keeps))

theorem State.functionReset_keeps {s₀ : State} {s : State} (h₀ : Keeps s₀ s) : Keeps s₀ (State.functionReset s) := by
  unfold State.functionReset
  repeat' (first | with_reducible refine Keeps.eachOf ?_ _ _ (fun _ _ _ => ?_) | (with_reducible refine Keeps.upd ?_ rfl; first | with_reducible assumption | with_reducible apply State.wr_keeps))

theorem State.linkUp_keeps {s₀ : State} {s : State} (speed : Nat) (width : Nat) (h₀ : Keeps s₀ s) : Keeps s₀ (State.linkUp s speed width) := by
  unfold State.linkUp
  repeat' (first | (with_reducible refine Keeps.upd ?_ rfl; first | with_reducible assumption | with_reducible apply State.wr_keeps) | split)

theorem State.busChange_keeps {s₀ : State} {s : State} (bme : Bool) (d3 : Bool) (h₀ : Keeps s₀ s) : Keeps s₀ (State.busChange s bme d3) := by
  unfold State.busChange
  repeat' (first | with_reducible refine Keeps.ofIte (fun _ => ?_) (fun _ => ?_) | (with_reducible refine Keeps.upd ?_ rfl; first | with_reducible assumption | with_reducible (first | apply State.flushLate_keeps | apply State.msixRelease_keeps | apply State.wr_keeps) | (with_reducible refine Keeps.upd ?_ rfl; first | with_reducible assumption | with_reducible (first | apply State.flushLate_keeps | apply State.msixRelease_keeps | apply State.wr_keeps))))

theorem State.rngWrite_keeps {s₀ : State} {s : State} (off : Nat) (w : Nat) (h₀ : Keeps s₀ s) : KeepsOpt s₀ (State.rngWrite s off w) := by
  unfold State.rngWrite
  repeat' (first | with_reducible assumption | (extract_lets +onlyGivenNames x; first | (refine (?_ : Keeps s₀ x → _) ?_; rotate_left; subst x; rotate_left; intro hx; clear_value x) | clear_value x) | with_reducible (first | apply State.evcfgWrite_keeps | apply State.msixRelease_keeps | apply State.rbaseWrite_keeps | apply State.rcfgWrite_keeps | apply State.wr_keeps | apply State.writeReg_keeps) | with_reducible apply KeepsOpt.ofSome | exact KeepsOpt.ofNone | with_reducible refine Keeps.whenIf ?_ _ _ (fun _ _ => ?_) | with_reducible refine Keeps.eachOf ?_ _ _ (fun _ _ _ => ?_) | split)

theorem execPerstAssert_keeps {s₀ : State} {s : State} (h₀ : Keeps s₀ s) : KeepsOut s₀ (execPerstAssert s) := by
  unfold execPerstAssert
  repeat' (first | with_reducible apply KeepsOut.ofNext | (with_reducible refine Keeps.upd ?_ rfl; first | with_reducible assumption | with_reducible (first | apply State.functionReset_keeps | apply State.hostLost_keeps | apply State.linkGone_keeps)))

theorem execPerstDeassert_keeps {s₀ : State} {s : State} (h₀ : Keeps s₀ s) : KeepsOut s₀ (execPerstDeassert s) := by
  unfold execPerstDeassert
  repeat' (first | with_reducible apply KeepsOut.ofNext | (with_reducible refine Keeps.upd ?_ rfl; first | with_reducible assumption))

theorem execPcieLinkUp_keeps {s₀ : State} (speed : Fin 4) (width : Fin 4) {s : State} (h₀ : Keeps s₀ s) : KeepsOut s₀ (execPcieLinkUp speed width s) := by
  unfold execPcieLinkUp
  repeat' (first | with_reducible assumption | with_reducible apply State.linkUp_keeps | with_reducible apply KeepsOut.ofNext)

theorem execPcieLinkDown_keeps {s₀ : State} {s : State} (h₀ : Keeps s₀ s) : KeepsOut s₀ (execPcieLinkDown s) := by
  unfold execPcieLinkDown
  repeat' (first | with_reducible assumption | with_reducible (first | apply State.hostLost_keeps | apply State.linkGone_keeps) | with_reducible apply KeepsOut.ofNext | split)

theorem execHotReset_keeps {s₀ : State} {s : State} (h₀ : Keeps s₀ s) : KeepsOut s₀ (execHotReset s) := by
  unfold execHotReset
  repeat' (first | with_reducible assumption | with_reducible (first | apply State.functionReset_keeps | apply State.hostLost_keeps | apply State.linkGone_keeps | apply State.wr_keeps) | with_reducible apply KeepsOut.ofNext)

theorem execFunctionLevelReset_keeps {s₀ : State} {s : State} (h₀ : Keeps s₀ s) : KeepsOut s₀ (execFunctionLevelReset s) := by
  unfold execFunctionLevelReset
  repeat' (first | with_reducible assumption | with_reducible (first | apply State.functionReset_keeps | apply State.hostLost_keeps | apply State.wr_keeps) | with_reducible apply KeepsOut.ofNext)

theorem execBusMasterChange_keeps {s₀ : State} (bme : Bool) (d3 : Bool) {s : State} (h₀ : Keeps s₀ s) : KeepsOut s₀ (execBusMasterChange bme d3 s) := by
  unfold execBusMasterChange
  repeat' (first | with_reducible assumption | with_reducible apply State.busChange_keeps | with_reducible apply KeepsOut.ofNext)

theorem execRingEnable_keeps {s₀ : State} (r : Fin 128) (w : Word) {s : State} (h₀ : Keeps s₀ s) : KeepsOut s₀ (execRingEnable r w s) := by
  unfold execRingEnable
  repeat' (first | with_reducible assumption | with_reducible apply State.rcfgWrite_keeps | with_reducible apply KeepsOut.ofNext)

theorem execRingDisable_keeps {s₀ : State} (r : Fin 128) {s : State} (h₀ : Keeps s₀ s) : KeepsOut s₀ (execRingDisable r s) := by
  unfold execRingDisable
  repeat' (first | with_reducible assumption | with_reducible apply State.ringStop_keeps | with_reducible apply KeepsOut.ofNext | split)

theorem execRingDrained_keeps {s₀ : State} (r : Fin 128) {s : State} (h₀ : Keeps s₀ s) : KeepsOut s₀ (execRingDrained r s) := by
  unfold execRingDrained
  repeat' (first | with_reducible assumption | with_reducible apply State.ringDrained_keeps | with_reducible apply KeepsOut.ofNext)

theorem execDoorbellWrite_keeps {s₀ : State} (off : Fin 8192) (v : Word) (whole : Bool) (dis : Bool) {s : State} (h₀ : Keeps s₀ s) : KeepsOut s₀ (execDoorbellWrite off v whole dis s) := by
  unfold execDoorbellWrite
  repeat' (first | with_reducible assumption | with_reducible apply State.doorbell_keeps | with_reducible apply KeepsOut.ofNext)

theorem execEventDoorbellWrite_keeps {s₀ : State} (v : Word) {s : State} (h₀ : Keeps s₀ s) : KeepsOut s₀ (execEventDoorbellWrite v s) := by
  unfold execEventDoorbellWrite
  repeat' (first | with_reducible assumption | with_reducible apply State.eventBell_keeps | with_reducible apply KeepsOut.ofNext)

theorem execEventRingEnable_keeps {s₀ : State} (w : Word) {s : State} (h₀ : Keeps s₀ s) : KeepsOut s₀ (execEventRingEnable w s) := by
  unfold execEventRingEnable
  repeat' (first | with_reducible assumption | with_reducible apply State.evcfgWrite_keeps | with_reducible apply KeepsOut.ofNext)

theorem execDescriptorFetch_keeps {s₀ : State} (r : Fin 128) (err : Bool) {s : State} (h₀ : Keeps s₀ s) : KeepsOut s₀ (execDescriptorFetch r err s) := by
  unfold execDescriptorFetch
  repeat' (first | with_reducible assumption | with_reducible apply State.descFetch_keeps | with_reducible apply KeepsOut.ofNext)

theorem execTxDescriptor_keeps {s₀ : State} (r : Fin 128) (err : Fin 3) {s : State} (h₀ : Keeps s₀ s) : KeepsOut s₀ (execTxDescriptor r err s) := by
  unfold execTxDescriptor
  repeat' (first | with_reducible assumption | with_reducible apply State.txDescriptor_keeps | with_reducible apply KeepsOut.ofNext)

theorem execRxDelivery_keeps {s₀ : State} (mgmt : Bool) (err : Fin 3) {s : State} (h₀ : Keeps s₀ s) : KeepsOut s₀ (execRxDelivery mgmt err s) := by
  unfold execRxDelivery
  repeat' (first | with_reducible assumption | with_reducible apply State.rxDeliver_keeps | with_reducible apply KeepsOut.ofNext)

theorem execRxwaitExpiry_keeps {s₀ : State} (mgmt : Bool) {s : State} (h₀ : Keeps s₀ s) : KeepsOut s₀ (execRxwaitExpiry mgmt s) := by
  unfold execRxwaitExpiry
  repeat' (first | with_reducible assumption | with_reducible apply State.rxExpire_keeps | with_reducible apply KeepsOut.ofNext)

theorem execHoldoffExpiry_keeps {s₀ : State} (v : Fin 128) {s : State} (h₀ : Keeps s₀ s) : KeepsOut s₀ (execHoldoffExpiry v s) := by
  unfold execHoldoffExpiry
  repeat' (first | with_reducible assumption | with_reducible apply State.holdoffEnd_keeps | with_reducible apply KeepsOut.ofNext)

theorem execIlimRetry_keeps {s₀ : State} (p : Fin 23) {s : State} (h₀ : Keeps s₀ s) : KeepsOut s₀ (execIlimRetry p s) := by
  unfold execIlimRetry
  repeat' (first | with_reducible assumption | with_reducible (first | apply State.heldDone_keeps | apply State.ilimRetry_keeps) | with_reducible apply KeepsOut.ofNext)

theorem execPolicedPacketRelease_keeps {s₀ : State} (p : Fin 23) {s : State} (h₀ : Keeps s₀ s) : KeepsOut s₀ (execPolicedPacketRelease p s) := by
  unfold execPolicedPacketRelease
  repeat' (first | with_reducible assumption | with_reducible (first | apply State.heldDone_keeps | apply State.policedRetry_keeps) | with_reducible apply KeepsOut.ofNext)

end Sys2Proof.Machine
end

