-- ==== Sys2Proof/Laws/KeepsStorage.lean ====
section
/-! SUPPORT. What the operations of Machine/Storage.lean keep: the queue, the canonical form of the stores, every burnt fuse. -/

namespace Sys2Proof.Machine

theorem State.blkCount_keeps {s₀ : State} {s : State} (e : Nat) (k : Nat) (n : Nat) (h₀ : Keeps s₀ s) : Keeps s₀ (State.blkCount s e k n) := by
  unfold State.blkCount
  repeat' ((with_reducible refine Keeps.upd ?_ rfl; first | with_reducible assumption))

theorem State.blkErr_keeps {s₀ : State} {s : State} (e : Nat) (h₀ : Keeps s₀ s) : Keeps s₀ (State.blkErr s e) := by
  unfold State.blkErr
  repeat' (first | with_reducible assumption | with_reducible (first | apply State.blkCount_keeps | apply State.svcErr_keeps))

theorem State.takeBlk_keeps {s₀ : State} {s : State} (e : Nat) (kind : Nat) (h₀ : Keeps s₀ s) : Keeps s₀ (State.takeBlk s e kind).1 := by
  unfold State.takeBlk
  repeat' (first | with_reducible assumption | with_reducible (first | apply State.blkErr_keeps | apply State.takeInbound_keeps) | (first | with_reducible refine Keeps.ofPair (by assumption) ?_) | split)

theorem State.setReqs_keeps {s₀ : State} {s : State} (e : Nat) (l : List BlkReq) (h₀ : Keeps s₀ s) : Keeps s₀ (State.setReqs s e l) := by
  unfold State.setReqs
  repeat' ((with_reducible refine Keeps.upd ?_ rfl; first | with_reducible assumption))

theorem State.putReq_keeps {s₀ : State} {s : State} (e : Nat) (r : BlkReq) (h₀ : Keeps s₀ s) : Keeps s₀ (State.putReq s e r) := by
  unfold State.putReq
  repeat' (first | with_reducible assumption | with_reducible apply State.setReqs_keeps)

theorem State.sendBlkCmd_keeps {s₀ : State} {s : State} (e : Nat) (r : BlkReq) (h₀ : Keeps s₀ s) : Keeps s₀ (State.sendBlkCmd s e r) := by
  unfold State.sendBlkCmd
  repeat' (first | with_reducible assumption | with_reducible (first | apply State.arm_keeps | apply State.engineSend_keeps) | with_reducible refine Keeps.eachOf ?_ _ _ (fun _ _ _ => ?_) | split)

theorem State.newBlkCmd_keeps {s₀ : State} {s : State} (e : Nat) (r : BlkReq) (h₀ : Keeps s₀ s) : Keeps s₀ (State.newBlkCmd s e r) := by
  unfold State.newBlkCmd
  repeat' ((with_reducible refine Keeps.upd ?_ rfl; first | with_reducible assumption | with_reducible (first | apply State.blkCount_keeps | apply State.putReq_keeps | apply State.sendBlkCmd_keeps)))

theorem State.endReq_keeps {s₀ : State} {s : State} (e : Nat) (r : BlkReq) (d : BlkDone) (h₀ : Keeps s₀ s) : Keeps s₀ (State.endReq s e r d) := by
  unfold State.endReq
  repeat' (first | (with_reducible refine Keeps.upd ?_ rfl; first | with_reducible assumption | with_reducible (first | apply State.disarm_keeps | apply State.setReqs_keeps)) | split)

theorem State.svcDescriptor_keeps {s₀ : State} {s : State} (r : Nat) (h₀ : Keeps s₀ s) : Keeps s₀ (State.svcDescriptor s r) := by
  unfold State.svcDescriptor
  repeat' (first | with_reducible refine Keeps.ofIte (fun _ => ?_) (fun _ => ?_) | (with_reducible refine Keeps.upd ?_ rfl; first | with_reducible assumption | with_reducible (first | apply State.descFails_keeps | apply State.newBlkCmd_keeps | apply State.setReqs_keeps | apply State.startDesc_keeps)) | split)

theorem State.readData_keeps {s₀ : State} {s : State} (e : Nat) (m : BlkMsg) (h₀ : Keeps s₀ s) : Keeps s₀ (State.readData s e m) := by
  unfold State.readData
  repeat' (first | with_reducible refine Keeps.eachOf ?_ _ _ (fun _ _ _ => ?_) | (with_reducible refine Keeps.upd ?_ rfl; first | with_reducible assumption | with_reducible (first | apply State.blkCount_keeps | apply State.putReq_keeps | apply State.writeSide_keeps)) | split)

theorem State.blkCpl_keeps {s₀ : State} {s : State} (e : Nat) (m : BlkMsg) (h₀ : Keeps s₀ s) : Keeps s₀ (State.blkCpl s e m) := by
  unfold State.blkCpl
  repeat' (first | (extract_lets +onlyGivenNames x; first | (refine (?_ : Keeps s₀ x → _) ?_; rotate_left; subst x; rotate_left; intro hx; clear_value x) | clear_value x) | (with_reducible refine Keeps.upd ?_ rfl; first | with_reducible assumption | with_reducible (first | apply State.blkCount_keeps | apply State.endReq_keeps | apply State.newBlkCmd_keeps)) | split)

theorem State.blkRto_keeps {s₀ : State} {s : State} (e : Nat) (tag : Nat) (h₀ : Keeps s₀ s) : Keeps s₀ (State.blkRto s e tag) := by
  unfold State.blkRto
  repeat' (first | (with_reducible refine Keeps.upd ?_ rfl; first | with_reducible assumption | with_reducible (first | apply State.arm_keeps | apply State.blkCount_keeps | apply State.endReq_keeps | apply State.putReq_keeps | apply State.sendBlkCmd_keeps)) | split)

theorem State.quarantineEnd_keeps {s₀ : State} {s : State} (e : Nat) (tag : Nat) (h₀ : Keeps s₀ s) : Keeps s₀ (State.quarantineEnd s e tag) := by
  unfold State.quarantineEnd
  repeat' (first | (with_reducible refine Keeps.upd ?_ rfl; first | with_reducible assumption | with_reducible apply State.disarm_keeps | (with_reducible refine Keeps.upd ?_ rfl; first | with_reducible assumption | with_reducible apply State.disarm_keeps)) | split)

theorem State.svcComplete_keeps {s₀ : State} {s : State} (r : Nat) (err : Bool) (h₀ : Keeps s₀ s) : Keeps s₀ (State.svcComplete s r err) := by
  unfold State.svcComplete
  repeat' (first | with_reducible refine Keeps.ofIte (fun _ => ?_) (fun _ => ?_) | (with_reducible refine Keeps.upd ?_ rfl; first | with_reducible assumption | with_reducible (first | apply State.descFails_keeps | apply State.ringDone_keeps)) | split)

theorem State.setBe_keeps {s₀ : State} {s : State} (m : Nat) (st : Nat) (h₀ : Keeps s₀ s) : Keeps s₀ (State.setBe s m st) := by
  unfold State.setBe
  repeat' (first | with_reducible assumption | with_reducible apply State.wr_keeps | split)

theorem State.stoCount_keeps {s₀ : State} {s : State} (i : Nat) (h₀ : Keeps s₀ s) : Keeps s₀ (State.stoCount s i) := by
  unfold State.stoCount
  repeat' (first | with_reducible assumption | with_reducible apply State.sat_keeps)

theorem State.setCmds_keeps {s₀ : State} {s : State} (e : Nat) (l : List BlkCmd) (h₀ : Keeps s₀ s) : Keeps s₀ (State.setCmds s e l) := by
  unfold State.setCmds
  repeat' ((with_reducible refine Keeps.upd ?_ rfl; first | with_reducible assumption))

theorem State.putCmd_keeps {s₀ : State} {s : State} (e : Nat) (c : BlkCmd) (h₀ : Keeps s₀ s) : Keeps s₀ (State.putCmd s e c) := by
  unfold State.putCmd
  repeat' (first | with_reducible assumption | with_reducible apply State.setCmds_keeps)

theorem State.sendCpl_keeps {s₀ : State} {s : State} (e : Nat) (c : BlkCmd) (status : Nat) (h₀ : Keeps s₀ s) : Keeps s₀ (State.sendCpl s e c status) := by
  unfold State.sendCpl
  repeat' ((with_reducible refine Keeps.upd ?_ rfl; first | with_reducible assumption | with_reducible (first | apply State.disarm_keeps | apply State.engineSend_keeps | apply State.setCmds_keeps)))

theorem State.newCmd_keeps {s₀ : State} {s : State} (e : Nat) (m : BlkMsg) (h₀ : Keeps s₀ s) : Keeps s₀ (State.newCmd s e m) := by
  unfold State.newCmd
  repeat' (first | with_reducible refine Keeps.whenIf ?_ _ _ (fun _ _ => ?_) | (with_reducible refine Keeps.upd ?_ rfl; first | with_reducible assumption | with_reducible (first | apply State.arm_keeps | apply State.blkCount_keeps | apply State.sendCpl_keeps | apply State.setCmds_keeps | apply State.stoCount_keeps)) | split)

theorem State.blkCmdReceive_keeps {s₀ : State} {s : State} (e : Nat) (m : BlkMsg) (h₀ : Keeps s₀ s) : Keeps s₀ (State.blkCmdReceive s e m) := by
  unfold State.blkCmdReceive
  repeat' (first | with_reducible assumption | with_reducible (first | apply State.engineSend_keeps | apply State.newCmd_keeps | apply State.stoCount_keeps) | split)

theorem State.backendRuns_keeps {s₀ : State} {s : State} (e : Nat) (c : BlkCmd) (h₀ : Keeps s₀ s) : Keeps s₀ (State.backendRuns s e c) := by
  unfold State.backendRuns
  repeat' (first | with_reducible assumption | with_reducible (first | apply State.arm_keeps | apply State.disarm_keeps) | split)

theorem State.blkExecute_keeps {s₀ : State} {s : State} (e : Nat) (tag : Nat) (h₀ : Keeps s₀ s) : Keeps s₀ (State.blkExecute s e tag) := by
  unfold State.blkExecute
  repeat' (first | with_reducible refine Keeps.ofIte (fun _ => ?_) (fun _ => ?_) | (with_reducible refine Keeps.upd ?_ rfl; first | with_reducible assumption | with_reducible (first | apply State.backendRuns_keeps | apply State.putCmd_keeps)) | split)

theorem State.backendDone_keeps {s₀ : State} {s : State} (e : Nat) (tag : Nat) (n : Nat) (ok : Bool) (data : List Byte) (h₀ : Keeps s₀ s) : Keeps s₀ (State.backendDone s e tag n ok data) := by
  unfold State.backendDone
  repeat' (first | with_reducible refine Keeps.whenIf ?_ _ _ (fun _ _ => ?_) | with_reducible refine Keeps.eachOf ?_ _ _ (fun _ _ _ => ?_) | (with_reducible refine Keeps.upd ?_ rfl; first | with_reducible assumption | with_reducible (first | apply State.arm_keeps | apply State.backendRuns_keeps | apply State.blkCount_keeps | apply State.engineSend_keeps | apply State.putCmd_keeps | apply State.stoCount_keeps)) | split)

theorem State.blkComplete_keeps {s₀ : State} {s : State} (e : Nat) (tag : Nat) (h₀ : Keeps s₀ s) : Keeps s₀ (State.blkComplete s e tag) := by
  unfold State.blkComplete
  repeat' (first | with_reducible assumption | with_reducible apply State.sendCpl_keeps | split)

theorem State.writeData_keeps {s₀ : State} {s : State} (e : Nat) (m : BlkMsg) (h₀ : Keeps s₀ s) : Keeps s₀ (State.writeData s e m) := by
  unfold State.writeData
  repeat' (first | with_reducible refine Keeps.whenIf ?_ _ _ (fun _ _ => ?_) | (with_reducible refine Keeps.upd ?_ rfl; first | with_reducible assumption | with_reducible (first | apply State.backendRuns_keeps | apply State.putCmd_keeps)) | split)

theorem State.blkData_keeps {s₀ : State} {s : State} (e : Nat) (m : BlkMsg) (h₀ : Keeps s₀ s) : Keeps s₀ (State.blkData s e m) := by
  unfold State.blkData
  repeat' (first | with_reducible assumption | with_reducible (first | apply State.readData_keeps | apply State.writeData_keeps) | split)

theorem State.dataTimeout_keeps {s₀ : State} {s : State} (e : Nat) (tag : Nat) (h₀ : Keeps s₀ s) : Keeps s₀ (State.dataTimeout s e tag) := by
  unfold State.dataTimeout
  repeat' (first | (with_reducible refine Keeps.upd ?_ rfl; first | with_reducible assumption | with_reducible (first | apply State.putCmd_keeps | apply State.stoCount_keeps)) | split)

theorem State.endInFlight_keeps {s₀ : State} {s : State} (m : Nat) (f : Nat → Nat → Option Nat) (h₀ : Keeps s₀ s) : Keeps s₀ (State.endInFlight s m f) := by
  unfold State.endInFlight
  repeat' (first | with_reducible refine Keeps.eachOf ?_ _ _ (fun _ _ _ => ?_) | (with_reducible refine Keeps.upd ?_ rfl; first | with_reducible assumption | with_reducible apply State.setCmds_keeps) | split)

theorem State.stoCtrlWrite_keeps {s₀ : State} {s : State} (w : Nat) (h₀ : Keeps s₀ s) : Keeps s₀ (State.stoCtrlWrite s w) := by
  unfold State.stoCtrlWrite
  repeat' (first | with_reducible assumption | with_reducible (first | apply State.endInFlight_keeps | apply State.setBe_keeps | apply State.writeReg_keeps) | with_reducible refine Keeps.ofIte (fun _ => ?_) (fun _ => ?_))

theorem State.beFails_keeps {s₀ : State} {s : State} (m : Nat) (cause : Nat) (h₀ : Keeps s₀ s) : Keeps s₀ (State.beFails s m cause) := by
  unfold State.beFails
  repeat' (first | with_reducible assumption | with_reducible (first | apply State.setBe_keeps | apply State.wr_keeps))

theorem State.resumeCard_keeps {s₀ : State} {s : State} (h₀ : Keeps s₀ s) : Keeps s₀ (State.resumeCard s) := by
  unfold State.resumeCard
  repeat' (first | with_reducible assumption | with_reducible apply State.backendRuns_keeps | with_reducible refine Keeps.eachOf ?_ _ _ (fun _ _ _ => ?_))

theorem State.initDone_keeps {s₀ : State} {s : State} (m : Nat) (cause : Nat) (blocks : Nat) (lbaSz : Nat) (mdts : Nat) (modes : BitVec 6) (byteCard : Bool) (wp : Bool) (h₀ : Keeps s₀ s) : Keeps s₀ (State.initDone s m cause blocks lbaSz mdts modes byteCard wp) := by
  unfold State.initDone
  repeat' (first | (with_reducible refine Keeps.upd ?_ rfl; first | with_reducible assumption | with_reducible (first | apply State.beFails_keeps | apply State.endInFlight_keeps | apply State.resumeCard_keeps | apply State.setBe_keeps | apply State.wr_keeps)) | split)

theorem State.beTimeout_keeps {s₀ : State} {s : State} (e : Nat) (tag : Nat) (h₀ : Keeps s₀ s) : Keeps s₀ (State.beTimeout s e tag) := by
  unfold State.beTimeout
  repeat' (first | with_reducible refine Keeps.ofIte (fun _ => ?_) (fun _ => ?_) | (with_reducible refine Keeps.upd ?_ rfl; first | with_reducible assumption | with_reducible (first | apply State.beFails_keeps | apply State.endInFlight_keeps | apply State.setBe_keeps | apply State.stoCount_keeps)))

theorem State.beRemoved_keeps {s₀ : State} {s : State} (m : Nat) (h₀ : Keeps s₀ s) : Keeps s₀ (State.beRemoved s m) := by
  unfold State.beRemoved
  repeat' (first | with_reducible assumption | with_reducible (first | apply State.beFails_keeps | apply State.endInFlight_keeps | apply State.setBe_keeps | apply State.wr_keeps) | split)

theorem State.cardDetect_keeps {s₀ : State} {s : State} (present : Bool) (held : Nat) (h₀ : Keeps s₀ s) : Keeps s₀ (State.cardDetect s present held) := by
  unfold State.cardDetect
  repeat' (first | with_reducible assumption | with_reducible (first | apply State.beRemoved_keeps | apply State.wr_keeps) | split)

theorem State.stoWrite_keeps {s₀ : State} {s : State} (off : Nat) (w : Nat) (h₀ : Keeps s₀ s) : KeepsOpt s₀ (State.stoWrite s off w) := by
  unfold State.stoWrite
  repeat' (first | with_reducible assumption | (extract_lets +onlyGivenNames x; first | (refine (?_ : Keeps s₀ x → _) ?_; rotate_left; subst x; rotate_left; intro hx; clear_value x) | clear_value x) | with_reducible (first | apply State.stoCtrlWrite_keeps | apply State.wr_keeps | apply State.writeReg_keeps) | with_reducible apply KeepsOpt.ofSome | exact KeepsOpt.ofNone | with_reducible refine Keeps.whenIf ?_ _ _ (fun _ _ => ?_) | with_reducible refine Keeps.eachOf ?_ _ _ (fun _ _ _ => ?_) | split)

theorem execSvcDescriptor_keeps {s₀ : State} (r : Fin 128) {s : State} (h₀ : Keeps s₀ s) : KeepsOut s₀ (execSvcDescriptor r s) := by
  unfold execSvcDescriptor
  repeat' (first | with_reducible assumption | with_reducible apply State.svcDescriptor_keeps | with_reducible apply KeepsOut.ofNext)

theorem execSvcComplete_keeps {s₀ : State} (r : Fin 128) (err : Bool) {s : State} (h₀ : Keeps s₀ s) : KeepsOut s₀ (execSvcComplete r err s) := by
  unfold execSvcComplete
  repeat' (first | with_reducible assumption | with_reducible apply State.svcComplete_keeps | with_reducible apply KeepsOut.ofNext)

theorem execBlockCmdReceive_keeps {s₀ : State} (e : Fin 128) {s : State} (h₀ : Keeps s₀ s) : KeepsOut s₀ (execBlockCmdReceive e s) := by
  unfold execBlockCmdReceive
  repeat' (first | with_reducible assumption | with_reducible (first | apply State.blkCmdReceive_keeps | apply State.blkErr_keeps | apply State.takeBlk_keeps) | with_reducible apply KeepsOut.ofNext | (first | with_reducible refine Keeps.ofPair (by assumption) ?_) | split)

theorem execBlockCmdExecute_keeps {s₀ : State} (e : Fin 128) (tag : Fin 64) {s : State} (h₀ : Keeps s₀ s) : KeepsOut s₀ (execBlockCmdExecute e tag s) := by
  unfold execBlockCmdExecute
  repeat' (first | with_reducible assumption | with_reducible apply State.blkExecute_keeps | with_reducible apply KeepsOut.ofNext)

theorem execBlockDataReceive_keeps {s₀ : State} (e : Fin 128) {s : State} (h₀ : Keeps s₀ s) : KeepsOut s₀ (execBlockDataReceive e s) := by
  unfold execBlockDataReceive
  repeat' (first | with_reducible assumption | with_reducible (first | apply State.blkData_keeps | apply State.takeBlk_keeps) | with_reducible apply KeepsOut.ofNext | (first | with_reducible refine Keeps.ofPair (by assumption) ?_) | split)

theorem execBlockCmdComplete_keeps {s₀ : State} (e : Fin 128) (tag : Fin 64) {s : State} (h₀ : Keeps s₀ s) : KeepsOut s₀ (execBlockCmdComplete e tag s) := by
  unfold execBlockCmdComplete
  repeat' (first | with_reducible assumption | with_reducible apply State.blkComplete_keeps | with_reducible apply KeepsOut.ofNext)

theorem execBlockCplReceive_keeps {s₀ : State} (e : Fin 128) {s : State} (h₀ : Keeps s₀ s) : KeepsOut s₀ (execBlockCplReceive e s) := by
  unfold execBlockCplReceive
  repeat' (first | with_reducible assumption | with_reducible (first | apply State.blkCpl_keeps | apply State.blkErr_keeps | apply State.takeBlk_keeps) | with_reducible apply KeepsOut.ofNext | (first | with_reducible refine Keeps.ofPair (by assumption) ?_) | split)

theorem execBlockRto_keeps {s₀ : State} (e : Fin 128) (tag : Fin 64) {s : State} (h₀ : Keeps s₀ s) : KeepsOut s₀ (execBlockRto e tag s) := by
  unfold execBlockRto
  repeat' (first | with_reducible assumption | with_reducible apply State.blkRto_keeps | with_reducible apply KeepsOut.ofNext)

theorem execBlockDataTimeout_keeps {s₀ : State} (e : Fin 128) (tag : Fin 64) {s : State} (h₀ : Keeps s₀ s) : KeepsOut s₀ (execBlockDataTimeout e tag s) := by
  unfold execBlockDataTimeout
  repeat' (first | with_reducible assumption | with_reducible apply State.dataTimeout_keeps | with_reducible apply KeepsOut.ofNext)

theorem execTagQuarantineEnd_keeps {s₀ : State} (e : Fin 128) (tag : Fin 64) {s : State} (h₀ : Keeps s₀ s) : KeepsOut s₀ (execTagQuarantineEnd e tag s) := by
  unfold execTagQuarantineEnd
  repeat' (first | with_reducible assumption | with_reducible apply State.quarantineEnd_keeps | with_reducible apply KeepsOut.ofNext)

theorem execBstat_keeps {s₀ : State} (n : Fin 16) (m : Fin 2) (e : Fin 128) {s : State} (h₀ : Keeps s₀ s) : KeepsOut s₀ (execBstat n m e s) := by
  unfold execBstat
  repeat' (first | with_reducible assumption | with_reducible apply State.mbxSubmit_keeps | with_reducible apply KeepsOut.ofNext)

theorem execBclr_keeps {s₀ : State} (n : Fin 16) (m : Fin 2) (e : Fin 128) {s : State} (h₀ : Keeps s₀ s) : KeepsOut s₀ (execBclr n m e s) := by
  unfold execBclr
  repeat' (first | with_reducible assumption | with_reducible apply State.mbxSubmit_keeps | with_reducible apply KeepsOut.ofNext)

theorem execBackendEnable_keeps {s₀ : State} (w : Word) {s : State} (h₀ : Keeps s₀ s) : KeepsOut s₀ (execBackendEnable w s) := by
  unfold execBackendEnable
  repeat' (first | with_reducible assumption | with_reducible apply State.stoCtrlWrite_keeps | with_reducible apply KeepsOut.ofNext)

theorem execBackendInitDone_keeps {s₀ : State} (m : Fin 2) (cause : Fin 3) (blocks : BitVec 40) (lbaSz : Fin 16) (mdts : BitVec 16) (modes : BitVec 6) (byteCard : Bool) (wp : Bool) {s : State} (h₀ : Keeps s₀ s) : KeepsOut s₀ (execBackendInitDone m cause blocks lbaSz mdts modes byteCard wp s) := by
  unfold execBackendInitDone
  repeat' (first | with_reducible assumption | with_reducible apply State.initDone_keeps | with_reducible apply KeepsOut.ofNext)

theorem execBackendCommandDone_keeps {s₀ : State} (e : Fin 128) (tag : Fin 64) (n : Fin 257) (ok : Bool) (data : List Byte) {s : State} (h₀ : Keeps s₀ s) : KeepsOut s₀ (execBackendCommandDone e tag n ok data s) := by
  unfold execBackendCommandDone
  repeat' (first | with_reducible assumption | with_reducible apply State.backendDone_keeps | with_reducible apply KeepsOut.ofNext)

theorem execBackendCommandTimeout_keeps {s₀ : State} (e : Fin 128) (tag : Fin 64) {s : State} (h₀ : Keeps s₀ s) : KeepsOut s₀ (execBackendCommandTimeout e tag s) := by
  unfold execBackendCommandTimeout
  repeat' (first | with_reducible assumption | with_reducible apply State.beTimeout_keeps | with_reducible apply KeepsOut.ofNext)

theorem execBackendRemoval_keeps {s₀ : State} (m : Fin 2) {s : State} (h₀ : Keeps s₀ s) : KeepsOut s₀ (execBackendRemoval m s) := by
  unfold execBackendRemoval
  repeat' (first | with_reducible assumption | with_reducible apply State.beRemoved_keeps | with_reducible apply KeepsOut.ofNext)

theorem execCardDetect_keeps {s₀ : State} (present : Bool) (held : Nat) {s : State} (h₀ : Keeps s₀ s) : KeepsOut s₀ (execCardDetect present held s) := by
  unfold execCardDetect
  repeat' (first | with_reducible assumption | with_reducible apply State.cardDetect_keeps | with_reducible apply KeepsOut.ofNext)

end Sys2Proof.Machine
end

