-- ==== Sys2Proof/Laws/KeepsSerial.lean ====
section
/-! SUPPORT. What the operations of Machine/Serial.lean keep: the queue, the canonical form of the stores, every burnt fuse. -/

namespace Sys2Proof.Machine

theorem State.serCount_keeps {s₀ : State} {s : State} (e : Nat) (k : Nat) (n : Nat) (h₀ : Keeps s₀ s) : Keeps s₀ (State.serCount s e k n) := by
  unfold State.serCount
  repeat' ((with_reducible refine Keeps.upd ?_ rfl; first | with_reducible assumption))

theorem State.serUartCount_keeps {s₀ : State} {s : State} (n : Nat) (k : Nat) (h₀ : Keeps s₀ s) : Keeps s₀ (State.serUartCount s n k) := by
  unfold State.serUartCount
  repeat' (first | with_reducible assumption | with_reducible apply State.serCount_keeps | split)

theorem State.serPad_keeps {s₀ : State} {s : State} (b : Nat) (o : Nat) (bs : List Byte) (h₀ : Keeps s₀ s) : Keeps s₀ (State.serPad s b o bs) := by
  unfold State.serPad
  repeat' ((with_reducible refine Keeps.upd ?_ rfl; first | with_reducible assumption | with_reducible apply State.padCycle_keeps))

theorem State.serRecord_keeps {s₀ : State} {s : State} (n : Nat) (r : SerRec) (h₀ : Keeps s₀ s) : Keeps s₀ (State.serRecord s n r) := by
  unfold State.serRecord
  repeat' (first | (with_reducible refine Keeps.upd ?_ rfl; first | with_reducible assumption | with_reducible (first | apply State.sat_keeps | apply State.serPad_keeps | apply State.serUartCount_keeps | apply State.wr_keeps | apply State.wrap_keeps)) | split)

theorem State.setInFrame_keeps {s₀ : State} {s : State} (n : Nat) (x : Bool) (h₀ : Keeps s₀ s) : Keeps s₀ (State.setInFrame s n x) := by
  unfold State.setInFrame
  repeat' ((with_reducible refine Keeps.upd ?_ rfl; first | with_reducible assumption))

theorem State.serChar_keeps {s₀ : State} {s : State} (n : Nat) (l : List (BitVec 3)) (samp : Nat) (t : Wide) (h₀ : Keeps s₀ s) : Keeps s₀ (State.serChar s n l samp t) := by
  unfold State.serChar
  repeat' (first | with_reducible refine Keeps.whenIf ?_ _ _ (fun _ _ => ?_) | (with_reducible refine Keeps.upd ?_ rfl; first | with_reducible assumption | with_reducible (first | apply State.armAt_keeps | apply State.sat_keeps | apply State.serRecord_keeps | apply State.setInFrame_keeps | apply State.wr_keeps)) | split)

theorem State.serGap_keeps {s₀ : State} {s : State} (n : Nat) (h₀ : Keeps s₀ s) : Keeps s₀ (State.serGap s n) := by
  unfold State.serGap
  repeat' (first | (with_reducible refine Keeps.upd ?_ rfl; first | with_reducible assumption | with_reducible (first | apply State.disarm_keeps | apply State.serRecord_keeps | apply State.setInFrame_keeps | apply State.wr_keeps)) | split)

theorem State.serStuck_keeps {s₀ : State} {s : State} (n : Nat) (h₀ : Keeps s₀ s) : Keeps s₀ (State.serStuck s n) := by
  unfold State.serStuck
  repeat' (first | with_reducible assumption | with_reducible (first | apply State.causeOn_keeps | apply State.wr_keeps) | split)

theorem State.serFree_keeps {s₀ : State} {s : State} (n : Nat) (h₀ : Keeps s₀ s) : Keeps s₀ (State.serFree s n) := by
  unfold State.serFree
  repeat' (first | with_reducible assumption | with_reducible (first | apply State.causeOff_keeps | apply State.wr_keeps))

theorem State.serRingWrite_keeps {s₀ : State} {s : State} (n : Nat) (w : Nat) (h₀ : Keeps s₀ s) : Keeps s₀ (State.serRingWrite s n w) := by
  unfold State.serRingWrite
  repeat' (first | with_reducible refine Keeps.ofIte (fun _ => ?_) (fun _ => ?_) | (with_reducible refine Keeps.upd ?_ rfl; first | with_reducible assumption | with_reducible (first | apply State.wr_keeps | apply State.writeReg_keeps)))

theorem State.serReadWrite_keeps {s₀ : State} {s : State} (n : Nat) (w : Nat) (h₀ : Keeps s₀ s) : Keeps s₀ (State.serReadWrite s n w) := by
  unfold State.serReadWrite
  repeat' (first | with_reducible assumption | with_reducible apply State.wr_keeps | split)

theorem State.setSerQueue_keeps {s₀ : State} {s : State} (n : Nat) (l : List (List (Byte × Nat))) (h₀ : Keeps s₀ s) : Keeps s₀ (State.setSerQueue s n l) := by
  unfold State.setSerQueue
  repeat' ((with_reducible refine Keeps.upd ?_ rfl; first | with_reducible assumption))

theorem State.serStart_keeps {s₀ : State} {s : State} (n : Nat) (c : Byte × Nat) (m : List (Byte × Nat)) (rest : List (List (Byte × Nat))) (h₀ : Keeps s₀ s) : Keeps s₀ (State.serStart s n c m rest) := by
  unfold State.serStart
  repeat' ((with_reducible refine Keeps.upd ?_ rfl; first | with_reducible assumption | with_reducible (first | apply State.armAt_keeps | apply State.serUartCount_keeps | apply State.setSerQueue_keeps | apply State.wr_keeps)))

theorem State.serTransmit_keeps {s₀ : State} {s : State} (n : Nat) (h₀ : Keeps s₀ s) : Keeps s₀ (State.serTransmit s n) := by
  unfold State.serTransmit
  repeat' (first | with_reducible assumption | with_reducible (first | apply State.armAt_keeps | apply State.disarm_keeps | apply State.serStart_keeps | apply State.wr_keeps) | with_reducible refine Keeps.ofIte (fun _ => ?_) (fun _ => ?_) | split)

theorem State.serDenied_keeps {s₀ : State} {s : State} (m : Nat) (n : Nat) (k : Nat) (h₀ : Keeps s₀ s) : Keeps s₀ (State.serDenied s m n k) := by
  unfold State.serDenied
  repeat' (first | with_reducible assumption | with_reducible (first | apply State.satBy_keeps | apply State.wr_keeps) | split)

theorem State.serSend_keeps {s₀ : State} {s0 : State} (e : Nat) (h₀ : Keeps s₀ s0) : Keeps s₀ (State.serSend s0 e) := by
  unfold State.serSend
  repeat' (first | with_reducible assumption | with_reducible (first | apply State.engineSend_keeps | apply State.free_keeps | apply State.serCount_keeps | apply State.serDenied_keeps | apply State.wr_keeps) | with_reducible refine Keeps.ofIte (fun _ => ?_) (fun _ => ?_) | split | intro _)

theorem State.setSerHeld_keeps {s₀ : State} {s : State} (e : Nat) (l : List (Nat × List (Byte × Nat))) (h₀ : Keeps s₀ s) : Keeps s₀ (State.setSerHeld s e l) := by
  unfold State.setSerHeld
  repeat' ((with_reducible refine Keeps.upd ?_ rfl; first | with_reducible assumption))

theorem State.setSerSeq_keeps {s₀ : State} {s : State} (e : Nat) (q : Option Nat) (h₀ : Keeps s₀ s) : Keeps s₀ (State.setSerSeq s e q) := by
  unfold State.setSerSeq
  repeat' ((with_reducible refine Keeps.upd ?_ rfl; first | with_reducible assumption))

theorem State.serErr_keeps {s₀ : State} {s : State} (e : Nat) (n : Nat) (h₀ : Keeps s₀ s) : Keeps s₀ (State.serErr s e n) := by
  unfold State.serErr
  repeat' (first | with_reducible assumption | with_reducible (first | apply State.serCount_keeps | apply State.svcErr_keeps) | with_reducible refine Keeps.eachOf ?_ _ _ (fun _ _ _ => ?_))

theorem State.serEnqueue_keeps {s₀ : State} {s : State} (e : Nat) (m : List (Byte × Nat)) (h₀ : Keeps s₀ s) : Keeps s₀ (State.serEnqueue s e m) := by
  unfold State.serEnqueue
  repeat' (first | with_reducible assumption | with_reducible (first | apply State.serCount_keeps | apply State.setSerQueue_keeps) | with_reducible refine Keeps.ofIte (fun _ => ?_) (fun _ => ?_))

theorem State.serFollow_keeps {s₀ : State} {s : State} (e : Nat) (q : Nat) (a0 : Nat) (h₀ : Keeps s₀ s) : Keeps s₀ (State.serFollow s e q a0) := by
  unfold State.serFollow
  repeat' (first | with_reducible assumption | with_reducible (first | apply State.serEnqueue_keeps | apply State.serFollow_keeps | apply State.setSerHeld_keeps | apply State.setSerSeq_keeps) | split)

theorem State.serFlush_keeps {s₀ : State} {s : State} (e : Nat) (q : Nat) (h₀ : Keeps s₀ s) : Keeps s₀ (State.serFlush s e q).1 := by
  unfold State.serFlush
  repeat' (first | with_reducible assumption | with_reducible (first | apply State.serEnqueue_keeps | apply State.setSerHeld_keeps) | with_reducible refine Keeps.foldPair (fun _ _ _ => ?_) _ ?_ | split)

theorem State.serArrive_keeps {s₀ : State} {s : State} (e : Nat) (q : Nat) (m : List (Byte × Nat)) (h₀ : Keeps s₀ s) : Keeps s₀ (State.serArrive s e q m) := by
  unfold State.serArrive
  repeat' (first | with_reducible assumption | with_reducible (first | apply State.arm_keeps | apply State.serCount_keeps | apply State.serEnqueue_keeps | apply State.serErr_keeps | apply State.serFlush_keeps | apply State.serFollow_keeps | apply State.setSerHeld_keeps | apply State.setSerSeq_keeps) | with_reducible refine Keeps.ofIte (fun _ => ?_) (fun _ => ?_) | with_reducible refine Keeps.whenIf ?_ _ _ (fun _ _ => ?_))

theorem State.serExpire_keeps {s₀ : State} {s : State} (e : Nat) (h₀ : Keeps s₀ s) : Keeps s₀ (State.serExpire s e) := by
  unfold State.serExpire
  repeat' (first | with_reducible assumption | with_reducible (first | apply State.serErr_keeps | apply State.serFlush_keeps | apply State.setSerSeq_keeps) | with_reducible refine Keeps.ofIte (fun _ => ?_) (fun _ => ?_) | split)

theorem State.serReceive_keeps {s₀ : State} {s : State} (e : Nat) (h₀ : Keeps s₀ s) : Keeps s₀ (State.serReceive s e) := by
  unfold State.serReceive
  repeat' (first | with_reducible assumption | with_reducible (first | apply State.serArrive_keeps | apply State.serCount_keeps | apply State.serErr_keeps | apply State.takeInbound_keeps) | (first | with_reducible refine Keeps.ofPair (by assumption) ?_) | split)

theorem State.irigMark_keeps {s₀ : State} {s : State} (ago : Nat) (h₀ : Keeps s₀ s) : Keeps s₀ (State.irigMark s ago) := by
  unfold State.irigMark
  repeat' (first | with_reducible assumption | with_reducible apply State.wr_keeps | split)

theorem State.irigSeen_keeps {s₀ : State} {s : State} (h₀ : Keeps s₀ s) : Keeps s₀ (State.irigSeen s) := by
  unfold State.irigSeen
  repeat' (first | with_reducible assumption | with_reducible (first | apply State.arm_keeps | apply State.causeOff_keeps | apply State.wr_keeps) | split)

theorem State.irigValid_keeps {s₀ : State} {s : State} (f : IrigFrame) (h₀ : Keeps s₀ s) : Keeps s₀ (State.irigValid s f) := by
  unfold State.irigValid
  repeat' (first | (extract_lets +onlyGivenNames x; first | (refine (?_ : Keeps s₀ x → _) ?_; rotate_left; subst x; rotate_left; intro hx; clear_value x) | clear_value x) | (with_reducible refine Keeps.upd ?_ rfl; first | with_reducible assumption | with_reducible apply State.wr_keeps) | split)

theorem State.irigBadFrame_keeps {s₀ : State} {s : State} (h₀ : Keeps s₀ s) : Keeps s₀ (State.irigBadFrame s) := by
  unfold State.irigBadFrame
  repeat' (first | (extract_lets +onlyGivenNames x; first | (refine (?_ : Keeps s₀ x → _) ?_; rotate_left; subst x; rotate_left; intro hx; clear_value x) | clear_value x) | (with_reducible refine Keeps.upd ?_ rfl; first | with_reducible assumption | with_reducible (first | apply State.sat_keeps | apply State.wr_keeps)) | split)

theorem State.irigRepeat_keeps {s₀ : State} {s : State} (f : List Nat) (h₀ : Keeps s₀ s) : Keeps s₀ (State.irigRepeat s f) := by
  unfold State.irigRepeat
  repeat' (first | (with_reducible refine Keeps.upd ?_ rfl; first | with_reducible assumption) | split)

theorem State.irigFrame_keeps {s₀ : State} {s : State} (ws : List Nat) (h₀ : Keeps s₀ s) : Keeps s₀ (State.irigFrame s ws) := by
  unfold State.irigFrame
  repeat' (first | with_reducible assumption | with_reducible (first | apply State.irigBadFrame_keeps | apply State.irigRepeat_keeps | apply State.irigSeen_keeps | apply State.irigValid_keeps) | with_reducible refine Keeps.ofIte (fun _ => ?_) (fun _ => ?_) | split)

theorem State.irigLost_keeps {s₀ : State} {s : State} (h₀ : Keeps s₀ s) : Keeps s₀ (State.irigLost s) := by
  unfold State.irigLost
  repeat' (first | (with_reducible refine Keeps.upd ?_ rfl; first | with_reducible assumption | with_reducible (first | apply State.causeOn_keeps | apply State.wr_keeps)) | split)

theorem State.irigEmit_keeps {s₀ : State} {s : State} (u : Int) (leap : Bool) (h₀ : Keeps s₀ s) : Keeps s₀ (State.irigEmit s u leap) := by
  unfold State.irigEmit
  repeat' ((with_reducible refine Keeps.upd ?_ rfl; first | with_reducible assumption))

theorem State.irigSecond_keeps {s₀ : State} {s : State} (h₀ : Keeps s₀ s) : Keeps s₀ (State.irigSecond s) := by
  unfold State.irigSecond
  repeat' (first | with_reducible refine Keeps.ofIte (fun _ => ?_) (fun _ => ?_) | (with_reducible refine Keeps.upd ?_ rfl; first | with_reducible assumption | with_reducible apply State.irigEmit_keeps))

theorem State.irigCfgWrite_keeps {s₀ : State} {s : State} (w : Nat) (h₀ : Keeps s₀ s) : Keeps s₀ (State.irigCfgWrite s w) := by
  unfold State.irigCfgWrite
  repeat' (first | with_reducible refine Keeps.ofIte (fun _ => ?_) (fun _ => ?_) | (with_reducible refine Keeps.upd ?_ rfl; first | with_reducible assumption | with_reducible (first | apply State.arm_keeps | apply State.causeOff_keeps | apply State.wr_keeps | apply State.writeReg_keeps)))

theorem State.serWrite_keeps {s₀ : State} {s : State} (off : Nat) (w : Nat) (h₀ : Keeps s₀ s) : KeepsOpt s₀ (State.serWrite s off w) := by
  unfold State.serWrite
  repeat' (first | (extract_lets +onlyGivenNames x; first | (refine (?_ : Keeps s₀ x → _) ?_; rotate_left; subst x; rotate_left; intro hx; clear_value x) | clear_value x) | with_reducible apply State.serRingWrite_keeps | with_reducible apply KeepsOpt.ofSome | exact KeepsOpt.ofNone | with_reducible refine Keeps.ofIte (fun _ => ?_) (fun _ => ?_) | with_reducible refine Keeps.whenIf ?_ _ _ (fun _ _ => ?_) | (with_reducible refine Keeps.upd ?_ rfl; first | with_reducible assumption | with_reducible (first | apply State.irigCfgWrite_keeps | apply State.serReadWrite_keeps | apply State.serRingWrite_keeps | apply State.wr_keeps | apply State.writeReg_keeps)) | split)

theorem execUartCharacterReceive_keeps {s₀ : State} (n : Fin 8) (bits : List (BitVec 3)) (samp : BitVec 16) (ago : Nat) {s : State} (h₀ : Keeps s₀ s) : KeepsOut s₀ (execUartCharacterReceive n bits samp ago s) := by
  unfold execUartCharacterReceive
  repeat' (first | with_reducible assumption | with_reducible apply State.serChar_keeps | with_reducible apply KeepsOut.ofNext)

theorem execUartGapExpiry_keeps {s₀ : State} (n : Fin 8) {s : State} (h₀ : Keeps s₀ s) : KeepsOut s₀ (execUartGapExpiry n s) := by
  unfold execUartGapExpiry
  repeat' (first | with_reducible assumption | with_reducible apply State.serGap_keeps | with_reducible apply KeepsOut.ofNext)

theorem execUartLineStuck_keeps {s₀ : State} (n : Fin 8) {s : State} (h₀ : Keeps s₀ s) : KeepsOut s₀ (execUartLineStuck n s) := by
  unfold execUartLineStuck
  repeat' (first | with_reducible assumption | with_reducible apply State.serStuck_keeps | with_reducible apply KeepsOut.ofNext)

theorem execUartLineRelease_keeps {s₀ : State} (n : Fin 8) {s : State} (h₀ : Keeps s₀ s) : KeepsOut s₀ (execUartLineRelease n s) := by
  unfold execUartLineRelease
  repeat' (first | with_reducible assumption | with_reducible apply State.serFree_keeps | with_reducible apply KeepsOut.ofNext)

theorem execUartRingWrite_keeps {s₀ : State} (n : Fin 8) (rxrd : Bool) (w : Word) {s : State} (h₀ : Keeps s₀ s) : KeepsOut s₀ (execUartRingWrite n rxrd w s) := by
  unfold execUartRingWrite
  repeat' (first | with_reducible assumption | with_reducible (first | apply State.serReadWrite_keeps | apply State.serRingWrite_keeps) | with_reducible apply KeepsOut.ofNext | split)

theorem execUartTransmit_keeps {s₀ : State} (n : Fin 8) {s : State} (h₀ : Keeps s₀ s) : KeepsOut s₀ (execUartTransmit n s) := by
  unfold execUartTransmit
  repeat' (first | with_reducible assumption | with_reducible apply State.serTransmit_keeps | with_reducible apply KeepsOut.ofNext)

theorem execSerialMessageSend_keeps {s₀ : State} (e : Fin 128) {s : State} (h₀ : Keeps s₀ s) : KeepsOut s₀ (execSerialMessageSend e s) := by
  unfold execSerialMessageSend
  repeat' (first | with_reducible assumption | with_reducible apply State.serSend_keeps | with_reducible apply KeepsOut.ofNext)

theorem execSerialMessageReceive_keeps {s₀ : State} (e : Fin 128) {s : State} (h₀ : Keeps s₀ s) : KeepsOut s₀ (execSerialMessageReceive e s) := by
  unfold execSerialMessageReceive
  repeat' (first | with_reducible assumption | with_reducible apply State.serReceive_keeps | with_reducible apply KeepsOut.ofNext)

theorem execSerialHoldExpiry_keeps {s₀ : State} (e : Fin 128) {s : State} (h₀ : Keeps s₀ s) : KeepsOut s₀ (execSerialHoldExpiry e s) := by
  unfold execSerialHoldExpiry
  repeat' (first | with_reducible assumption | with_reducible apply State.serExpire_keeps | with_reducible apply KeepsOut.ofNext)

theorem execSstat_keeps {s₀ : State} (n : Fin 16) (m : Fin 2) (e : Fin 128) {s : State} (h₀ : Keeps s₀ s) : KeepsOut s₀ (execSstat n m e s) := by
  unfold execSstat
  repeat' (first | with_reducible assumption | with_reducible apply State.mbxSubmit_keeps | with_reducible apply KeepsOut.ofNext)

theorem execSclr_keeps {s₀ : State} (n : Fin 16) (m : Fin 2) (e : Fin 128) {s : State} (h₀ : Keeps s₀ s) : KeepsOut s₀ (execSclr n m e s) := by
  unfold execSclr
  repeat' (first | with_reducible assumption | with_reducible apply State.mbxSubmit_keeps | with_reducible apply KeepsOut.ofNext)

theorem execIrigOnTime_keeps {s₀ : State} (ago : Nat) {s : State} (h₀ : Keeps s₀ s) : KeepsOut s₀ (execIrigOnTime ago s) := by
  unfold execIrigOnTime
  repeat' (first | with_reducible assumption | with_reducible (first | apply State.irigMark_keeps | apply State.irigSeen_keeps) | with_reducible apply KeepsOut.ofNext | split)

theorem execIrigFrame_keeps {s₀ : State} (ws : List Nat) {s : State} (h₀ : Keeps s₀ s) : KeepsOut s₀ (execIrigFrame ws s) := by
  unfold execIrigFrame
  repeat' (first | with_reducible assumption | with_reducible apply State.irigFrame_keeps | with_reducible apply KeepsOut.ofNext)

theorem execIrigLos_keeps {s₀ : State} {s : State} (h₀ : Keeps s₀ s) : KeepsOut s₀ (execIrigLos s) := by
  unfold execIrigLos
  repeat' (first | with_reducible assumption | with_reducible apply State.irigLost_keeps | with_reducible apply KeepsOut.ofNext)

theorem execIrigOutputSecond_keeps {s₀ : State} {s : State} (h₀ : Keeps s₀ s) : KeepsOut s₀ (execIrigOutputSecond s) := by
  unfold execIrigOutputSecond
  repeat' (first | with_reducible assumption | with_reducible apply State.irigSecond_keeps | with_reducible apply KeepsOut.ofNext)

end Sys2Proof.Machine
end

