-- ==== Sys2Proof/Laws/KeepsDma.lean ====
section
/-! SUPPORT. What the operations of Machine/Dma.lean keep: the queue, the canonical form of the stores, every burnt fuse. -/

namespace Sys2Proof.Machine

theorem State.dmaCount_keeps {s₀ : State} {s : State} (i : Nat) (h₀ : Keeps s₀ s) : Keeps s₀ (State.dmaCount s i) := by
  unfold State.dmaCount
  repeat' (first | with_reducible assumption | with_reducible apply State.sat_keeps)

theorem State.dmaFinish_keeps {s₀ : State} {s : State} (n : Nat) (c : DmaCode) (h₀ : Keeps s₀ s) : Keeps s₀ (State.dmaFinish s n c) := by
  unfold State.dmaFinish
  repeat' (first | (extract_lets +onlyGivenNames x; first | (refine (?_ : Keeps s₀ x → _) ?_; rotate_left; subst x; rotate_left; intro hx; clear_value x) | clear_value x) | with_reducible refine Keeps.whenIf ?_ _ _ (fun _ _ => ?_) | (with_reducible refine Keeps.upd ?_ rfl; first | with_reducible assumption | with_reducible (first | apply State.irq_keeps | apply State.ringDone_keeps | apply State.rngCount_keeps | apply State.wr_keeps)) | split)

theorem State.dmaCopy_keeps {s₀ : State} {s : State} (n : Nat) (h₀ : Keeps s₀ s) : Keeps s₀ (State.dmaCopy s n) := by
  unfold State.dmaCopy
  repeat' ((with_reducible refine Keeps.upd ?_ rfl; first | with_reducible assumption | with_reducible apply State.wr_keeps))

theorem State.dmaLoad_keeps {s₀ : State} {s : State} (n : Nat) (h₀ : Keeps s₀ s) : Keeps s₀ (State.dmaLoad s n) := by
  unfold State.dmaLoad
  repeat' (first | (extract_lets +onlyGivenNames x; first | (refine (?_ : Keeps s₀ x → _) ?_; rotate_left; subst x; rotate_left; intro hx; clear_value x) | clear_value x) | (with_reducible refine Keeps.upd ?_ rfl; first | with_reducible assumption | with_reducible (first | apply State.dmaCopy_keeps | apply State.dmaCount_keeps | apply State.dmaFinish_keeps | apply State.wr_keeps)) | split)

theorem State.dmaEnd_keeps {s₀ : State} {s : State} (n : Nat) (c : DmaCode) (h₀ : Keeps s₀ s) : Keeps s₀ (State.dmaEnd s n c) := by
  unfold State.dmaEnd
  repeat' (first | with_reducible assumption | with_reducible (first | apply State.dmaFinish_keeps | apply State.dmaLoad_keeps) | with_reducible refine Keeps.ofIte (fun _ => ?_) (fun _ => ?_))

theorem State.dmaRingLoad_keeps {s₀ : State} {s : State} (n : Nat) (h₀ : Keeps s₀ s) : Keeps s₀ (State.dmaRingLoad s n) := by
  unfold State.dmaRingLoad
  repeat' (first | (with_reducible refine Keeps.upd ?_ rfl; first | with_reducible assumption | with_reducible (first | apply State.startDesc_keeps | apply State.wr_keeps)) | split)

theorem State.dmaLoadStep_keeps {s₀ : State} {s : State} (n : Nat) (h₀ : Keeps s₀ s) : Keeps s₀ (State.dmaLoadStep s n) := by
  unfold State.dmaLoadStep
  repeat' (first | with_reducible assumption | with_reducible (first | apply State.dmaLoad_keeps | apply State.dmaRingLoad_keeps) | with_reducible refine Keeps.ofIte (fun _ => ?_) (fun _ => ?_))

theorem State.dmaStartAt_keeps {s₀ : State} {s : State} (n : Nat) (h₀ : Keeps s₀ s) : Keeps s₀ (State.dmaStartAt s n) := by
  unfold State.dmaStartAt
  repeat' (first | with_reducible assumption | with_reducible apply State.wr_keeps | with_reducible refine Keeps.ofIte (fun _ => ?_) (fun _ => ?_) | with_reducible refine Keeps.whenIf ?_ _ _ (fun _ _ => ?_))

theorem State.dmaHaltAt_keeps {s₀ : State} {s : State} (n : Nat) (write : Bool) (dest : Bool) (cause : Nat) (addr : Nat) (h₀ : Keeps s₀ s) : Keeps s₀ (State.dmaHaltAt s n write dest cause addr) := by
  unfold State.dmaHaltAt
  repeat' (first | with_reducible assumption | with_reducible (first | apply State.dmaCount_keeps | apply State.irq_keeps | apply State.wr_keeps))

theorem State.dmaResume_keeps {s₀ : State} {s : State} (n : Nat) (h₀ : Keeps s₀ s) : Keeps s₀ (State.dmaResume s n) := by
  unfold State.dmaResume
  repeat' (first | with_reducible assumption | with_reducible apply State.dmaEnd_keeps | split)

theorem State.dmaEnable_keeps {s₀ : State} {s : State} (n : Nat) (h₀ : Keeps s₀ s) : Keeps s₀ (State.dmaEnable s n) := by
  unfold State.dmaEnable
  repeat' (first | with_reducible assumption | with_reducible apply State.wr_keeps | split)

theorem State.dmaCtrlWrite_keeps {s₀ : State} {s : State} (n : Nat) (w : Nat) (h₀ : Keeps s₀ s) : Keeps s₀ (State.dmaCtrlWrite s n w) := by
  unfold State.dmaCtrlWrite
  repeat' (first | with_reducible assumption | with_reducible (first | apply State.dmaDisable_keeps | apply State.dmaEnable_keeps | apply State.dmaResume_keeps | apply State.writeFields_keeps) | split)

theorem State.dmaLateWrite_keeps {s₀ : State} {s : State} (n : Nat) (h₀ : Keeps s₀ s) : Keeps s₀ (State.dmaLateWrite s n) := by
  unfold State.dmaLateWrite
  repeat' (first | with_reducible assumption | with_reducible (first | apply State.dmaCount_keeps | apply State.wr_keeps))

theorem State.dmaShadowValid_keeps {s₀ : State} {s : State} (n : Nat) (v : Bool) (h₀ : Keeps s₀ s) : Keeps s₀ (State.dmaShadowValid s n v) := by
  unfold State.dmaShadowValid
  repeat' (first | with_reducible assumption | with_reducible (first | apply State.dmaLateWrite_keeps | apply State.wr_keeps) | split)

theorem State.dmaCancel_keeps {s₀ : State} {s : State} (h₀ : Keeps s₀ s) : Keeps s₀ (State.dmaCancel s) := by
  unfold State.dmaCancel
  repeat' (first | with_reducible assumption | with_reducible (first | apply State.dmaCount_keeps | apply State.dmaEnd_keeps) | with_reducible refine Keeps.ofIte (fun _ => ?_) (fun _ => ?_) | with_reducible refine Keeps.eachOf ?_ _ _ (fun _ _ _ => ?_))

theorem State.dmaWrite_keeps {s₀ : State} {s : State} (off : Nat) (w : Nat) (h₀ : Keeps s₀ s) : KeepsOpt s₀ (State.dmaWrite s off w) := by
  unfold State.dmaWrite
  repeat' (first | with_reducible assumption | (extract_lets +onlyGivenNames x; first | (refine (?_ : Keeps s₀ x → _) ?_; rotate_left; subst x; rotate_left; intro hx; clear_value x) | clear_value x) | with_reducible (first | apply State.dmaCtrlWrite_keeps | apply State.dmaLateWrite_keeps | apply State.dmaShadowValid_keeps | apply State.wr_keeps | apply State.writeReg_keeps) | with_reducible apply KeepsOpt.ofSome | exact KeepsOpt.ofNone | with_reducible refine Keeps.eachOf ?_ _ _ (fun _ _ _ => ?_) | split)

theorem State.dramCor_keeps {s₀ : State} {s : State} (h₀ : Keeps s₀ s) : Keeps s₀ (State.dramCor s) := by
  unfold State.dramCor
  repeat' (first | with_reducible assumption | with_reducible (first | apply State.fault_keeps | apply State.sat_keeps))

theorem State.dramUnc_keeps {s₀ : State} {s : State} (a : Nat) (h₀ : Keeps s₀ s) : Keeps s₀ (State.dramUnc s a) := by
  unfold State.dramUnc
  repeat' (first | with_reducible assumption | with_reducible (first | apply State.fault_keeps | apply State.sat_keeps | apply State.wr_keeps) | split)

theorem State.drcCtrlWrite_keeps {s₀ : State} {s : State} (w : Nat) (h₀ : Keeps s₀ s) : Keeps s₀ (State.drcCtrlWrite s w) := by
  unfold State.drcCtrlWrite
  repeat' (first | with_reducible assumption | with_reducible (first | apply State.causeOff_keeps | apply State.wr_keeps | apply State.writeReg_keeps) | with_reducible refine Keeps.ofIte (fun _ => ?_) (fun _ => ?_))

theorem State.dramTrained_keeps {s₀ : State} {s : State} (ok : Bool) (h₀ : Keeps s₀ s) : Keeps s₀ (State.dramTrained s ok) := by
  unfold State.dramTrained
  repeat' (first | with_reducible assumption | with_reducible (first | apply State.causeOff_keeps | apply State.causeOn_keeps | apply State.wr_keeps) | split)

theorem State.dramScrub_keeps {s₀ : State} {s : State} (cor : Nat) (unc : List Nat) (h₀ : Keeps s₀ s) : Keeps s₀ (State.dramScrub s cor unc) := by
  unfold State.dramScrub
  repeat' (first | with_reducible assumption | with_reducible (first | apply State.dramCor_keeps | apply State.dramUnc_keeps) | with_reducible refine Keeps.eachOf ?_ _ _ (fun _ _ _ => ?_) | split)

theorem State.drcWrite_keeps {s₀ : State} {s : State} (off : Nat) (w : Nat) (h₀ : Keeps s₀ s) : KeepsOpt s₀ (State.drcWrite s off w) := by
  unfold State.drcWrite
  repeat' (first | with_reducible assumption | with_reducible (first | apply State.drcCtrlWrite_keeps | apply State.wr_keeps) | with_reducible apply KeepsOpt.ofSome | exact KeepsOpt.ofNone | with_reducible refine Keeps.eachOf ?_ _ _ (fun _ _ _ => ?_) | split)

theorem execDmaEnable_keeps {s₀ : State} (n : Fin 32) {s : State} (h₀ : Keeps s₀ s) : KeepsOut s₀ (execDmaEnable n s) := by
  unfold execDmaEnable
  repeat' (first | with_reducible assumption | with_reducible apply State.dmaEnable_keeps | with_reducible apply KeepsOut.ofNext)

theorem execDmaDisable_keeps {s₀ : State} (n : Fin 32) {s : State} (h₀ : Keeps s₀ s) : KeepsOut s₀ (execDmaDisable n s) := by
  unfold execDmaDisable
  repeat' (first | with_reducible assumption | with_reducible apply State.dmaDisable_keeps | with_reducible apply KeepsOut.ofNext)

theorem execShadowValid_keeps {s₀ : State} (n : Fin 32) (v : Bool) {s : State} (h₀ : Keeps s₀ s) : KeepsOut s₀ (execShadowValid n v s) := by
  unfold execShadowValid
  repeat' (first | with_reducible assumption | with_reducible apply State.dmaShadowValid_keeps | with_reducible apply KeepsOut.ofNext)

theorem execDmaLoad_keeps {s₀ : State} (n : Fin 32) {s : State} (h₀ : Keeps s₀ s) : KeepsOut s₀ (execDmaLoad n s) := by
  unfold execDmaLoad
  repeat' (first | with_reducible assumption | with_reducible apply State.dmaLoadStep_keeps | with_reducible apply KeepsOut.ofNext)

theorem execDmaStartAt_keeps {s₀ : State} (n : Fin 32) {s : State} (h₀ : Keeps s₀ s) : KeepsOut s₀ (execDmaStartAt n s) := by
  unfold execDmaStartAt
  repeat' (first | with_reducible assumption | with_reducible apply State.dmaStartAt_keeps | with_reducible apply KeepsOut.ofNext)

theorem execDmaResume_keeps {s₀ : State} (n : Fin 32) {s : State} (h₀ : Keeps s₀ s) : KeepsOut s₀ (execDmaResume n s) := by
  unfold execDmaResume
  repeat' (first | with_reducible assumption | with_reducible apply State.dmaResume_keeps | with_reducible apply KeepsOut.ofNext)

theorem execDramTrainingStart_keeps {s₀ : State} (w : Word) {s : State} (h₀ : Keeps s₀ s) : KeepsOut s₀ (execDramTrainingStart w s) := by
  unfold execDramTrainingStart
  repeat' (first | with_reducible assumption | with_reducible apply State.drcCtrlWrite_keeps | with_reducible apply KeepsOut.ofNext)

theorem execDramTrainingDone_keeps {s₀ : State} (ok : Bool) {s : State} (h₀ : Keeps s₀ s) : KeepsOut s₀ (execDramTrainingDone ok s) := by
  unfold execDramTrainingDone
  repeat' (first | with_reducible assumption | with_reducible apply State.dramTrained_keeps | with_reducible apply KeepsOut.ofNext)

theorem execDramScrub_keeps {s₀ : State} (cor : Nat) (unc : List Nat) {s : State} (h₀ : Keeps s₀ s) : KeepsOut s₀ (execDramScrub cor unc s) := by
  unfold execDramScrub
  repeat' (first | with_reducible assumption | with_reducible apply State.dramScrub_keeps | with_reducible apply KeepsOut.ofNext)

theorem execUsbDetach_keeps {s₀ : State} {s : State} (h₀ : Keeps s₀ s) : KeepsOut s₀ (execUsbDetach s) := by
  unfold execUsbDetach
  repeat' (first | with_reducible assumption | with_reducible apply State.usbDetach_keeps | with_reducible apply KeepsOut.ofNext)

theorem execUsbBusReset_keeps {s₀ : State} (high : Bool) (arms : List (Fin 16)) {s : State} (h₀ : Keeps s₀ s) : KeepsOut s₀ (execUsbBusReset high arms s) := by
  unfold execUsbBusReset
  repeat' (first | with_reducible assumption | with_reducible (first | apply State.armLost_keeps | apply State.busReset_keeps | apply State.dmaCancel_keeps) | with_reducible apply KeepsOut.ofNext | split)

theorem execLocalPortRequest_keeps {s₀ : State} (n : Fin 6) (r : HubRequest) (arms : List (Fin 16)) {s : State} (h₀ : Keeps s₀ s) : KeepsOut s₀ (execLocalPortRequest n r arms s) := by
  unfold execLocalPortRequest
  repeat' (first | with_reducible assumption | with_reducible (first | apply State.armLost_keeps | apply State.dmaCancel_keeps | apply State.fnReset_keeps | apply State.portRequest_keeps) | with_reducible apply KeepsOut.ofNext | with_reducible refine KeepsOut.ofIte (fun _ => ?_) (fun _ => ?_))

end Sys2Proof.Machine
end

