-- ==== Sys2Proof/Laws/KeepsBridge.lean ====
section
/-! SUPPORT. What the operations of Machine/Bridge.lean keep: the queue, the canonical form of the stores, every burnt fuse. -/

namespace Sys2Proof.Machine

theorem State.brgCount_keeps {s₀ : State} {s : State} (i : Nat) (h₀ : Keeps s₀ s) : Keeps s₀ (State.brgCount s i) := by
  unfold State.brgCount
  repeat' (first | with_reducible assumption | with_reducible apply State.sat_keeps)

theorem State.brgReject_keeps {s₀ : State} {s : State} (h₀ : Keeps s₀ s) : Keeps s₀ (State.brgReject s) := by
  unfold State.brgReject
  repeat' (first | with_reducible assumption | with_reducible apply State.wr_keeps)

theorem State.memCount_keeps {s₀ : State} {s : State} (e : Nat) (k : Nat) (n : Nat) (h₀ : Keeps s₀ s) : Keeps s₀ (State.memCount s e k n) := by
  unfold State.memCount
  repeat' ((with_reducible refine Keeps.upd ?_ rfl; first | with_reducible assumption))

theorem State.memErr_keeps {s₀ : State} {s : State} (e : Nat) (h₀ : Keeps s₀ s) : Keeps s₀ (State.memErr s e) := by
  unfold State.memErr
  repeat' (first | with_reducible assumption | with_reducible (first | apply State.memCount_keeps | apply State.svcErr_keeps))

theorem State.brgEvent_keeps {s₀ : State} {s : State} (F : Field) (h₀ : Keeps s₀ s) : Keeps s₀ (State.brgEvent s F) := by
  unfold State.brgEvent
  repeat' (first | with_reducible assumption | with_reducible (first | apply State.sendMsix_keeps | apply State.wr_keeps) | with_reducible refine Keeps.ofIte (fun _ => ?_) (fun _ => ?_))

theorem State.winCtrlWrite_keeps {s₀ : State} {s : State} (w : Nat) (v : Nat) (h₀ : Keeps s₀ s) : Keeps s₀ (State.winCtrlWrite s w v) := by
  unfold State.winCtrlWrite
  repeat' (first | with_reducible assumption | with_reducible (first | apply State.brgReject_keeps | apply State.wr_keeps | apply State.writeFields_keeps) | with_reducible refine Keeps.ofIte (fun _ => ?_) (fun _ => ?_) | with_reducible refine Keeps.whenIf ?_ _ _ (fun _ _ => ?_))

theorem State.setMemWaiting_keeps {s₀ : State} {s : State} (e : Nat) (l : List MemMsg) (h₀ : Keeps s₀ s) : Keeps s₀ (State.setMemWaiting s e l) := by
  unfold State.setMemWaiting
  repeat' ((with_reducible refine Keeps.upd ?_ rfl; first | with_reducible assumption))

theorem State.setMemReads_keeps {s₀ : State} {s : State} (e : Nat) (l : List MemMsg) (h₀ : Keeps s₀ s) : Keeps s₀ (State.setMemReads s e l) := by
  unfold State.setMemReads
  repeat' ((with_reducible refine Keeps.upd ?_ rfl; first | with_reducible assumption))

theorem State.setMemUnack_keeps {s₀ : State} {s : State} (e : Nat) (l : List MemMsg) (h₀ : Keeps s₀ s) : Keeps s₀ (State.setMemUnack s e l) := by
  unfold State.setMemUnack
  repeat' ((with_reducible refine Keeps.upd ?_ rfl; first | with_reducible assumption))

theorem State.setMemTries_keeps {s₀ : State} {s : State} (e : Nat) (n : Nat) (h₀ : Keeps s₀ s) : Keeps s₀ (State.setMemTries s e n) := by
  unfold State.setMemTries
  repeat' ((with_reducible refine Keeps.upd ?_ rfl; first | with_reducible assumption))

theorem State.setMemSeq_keeps {s₀ : State} {s : State} (e : Nat) (q : Nat) (h₀ : Keeps s₀ s) : Keeps s₀ (State.setMemSeq s e q) := by
  unfold State.setMemSeq
  repeat' ((with_reducible refine Keeps.upd ?_ rfl; first | with_reducible assumption))

theorem State.memSend_keeps {s₀ : State} {s : State} (e : Nat) (m : MemMsg) (h₀ : Keeps s₀ s) : Keeps s₀ (State.memSend s e m) := by
  unfold State.memSend
  repeat' ((with_reducible refine Keeps.upd ?_ rfl; first | with_reducible assumption | with_reducible apply State.engineSend_keeps))

theorem State.memTimer_keeps {s₀ : State} {s : State} (e : Nat) (h₀ : Keeps s₀ s) : Keeps s₀ (State.memTimer s e) := by
  unfold State.memTimer
  repeat' (first | with_reducible assumption | with_reducible (first | apply State.arm_keeps | apply State.disarm_keeps) | with_reducible refine Keeps.ofIte (fun _ => ?_) (fun _ => ?_))

theorem State.memIssue_keeps {s₀ : State} {s : State} (e : Nat) (m : MemMsg) (h₀ : Keeps s₀ s) : Keeps s₀ (State.memIssue s e m) := by
  unfold State.memIssue
  repeat' (first | with_reducible apply State.memSend_keeps | with_reducible refine Keeps.whenIf ?_ _ _ (fun _ _ => ?_) | (with_reducible refine Keeps.upd ?_ rfl; first | with_reducible assumption | with_reducible (first | apply State.memCount_keeps | apply State.memSend_keeps | apply State.memTimer_keeps | apply State.setMemReads_keeps | apply State.setMemSeq_keeps | apply State.setMemUnack_keeps)) | split)

theorem State.memAccess_keeps {s₀ : State} {s : State} (e : Nat) (m : MemMsg) (h₀ : Keeps s₀ s) : Keeps s₀ (State.memAccess s e m) := by
  unfold State.memAccess
  repeat' (first | with_reducible assumption | with_reducible (first | apply State.memIssue_keeps | apply State.setMemWaiting_keeps) | with_reducible refine Keeps.ofIte (fun _ => ?_) (fun _ => ?_))

theorem State.memIssueNext_keeps {s₀ : State} {s : State} (e : Nat) (h₀ : Keeps s₀ s) : Keeps s₀ (State.memIssueNext s e) := by
  unfold State.memIssueNext
  repeat' (first | with_reducible assumption | with_reducible (first | apply State.memIssue_keeps | apply State.setMemWaiting_keeps) | with_reducible refine Keeps.ofIte (fun _ => ?_) (fun _ => ?_) | split)

theorem State.writeFail_keeps {s₀ : State} {s : State} (c : WfCause) (win : Option Nat) (addr : Option Nat) (h₀ : Keeps s₀ s) : Keeps s₀ (State.writeFail s c win addr) := by
  unfold State.writeFail
  repeat' (first | with_reducible assumption | with_reducible (first | apply State.brgEvent_keeps | apply State.sat_keeps | apply State.wrFree_keeps | apply State.wr_keeps) | with_reducible refine Keeps.ofIte (fun _ => ?_) (fun _ => ?_) | split)

theorem State.setLineBufs_keeps {s₀ : State} {s : State} (w : Nat) (l : List LineBuf) (h₀ : Keeps s₀ s) : Keeps s₀ (State.setLineBufs s w l) := by
  unfold State.setLineBufs
  repeat' ((with_reducible refine Keeps.upd ?_ rfl; first | with_reducible assumption))

theorem State.linesGone_keeps {s₀ : State} {s : State} (l : List LineBuf) (h₀ : Keeps s₀ s) : Keeps s₀ (State.linesGone s l) := by
  unfold State.linesGone
  repeat' (first | with_reducible assumption | with_reducible apply State.brgCount_keeps | with_reducible refine Keeps.eachOf ?_ _ _ (fun _ _ _ => ?_) | intro _)

theorem State.lineIn_keeps {s₀ : State} {s : State} (w : Nat) (x : LineBuf) (h₀ : Keeps s₀ s) : Keeps s₀ (State.lineIn s w x) := by
  unfold State.lineIn
  repeat' (first | with_reducible assumption | with_reducible (first | apply State.arm_keeps | apply State.linesGone_keeps | apply State.setLineBufs_keeps))

theorem State.linesDrop_keeps {s₀ : State} {s : State} (w : Nat) (p : LineBuf → Bool) (h₀ : Keeps s₀ s) : Keeps s₀ (State.linesDrop s w p) := by
  unfold State.linesDrop
  repeat' (first | with_reducible assumption | with_reducible (first | apply State.linesGone_keeps | apply State.setLineBufs_keeps) | intro _)

theorem State.lineAhead_keeps {s₀ : State} {s : State} (w : Nat) (off : Nat) (h₀ : Keeps s₀ s) : Keeps s₀ (State.lineAhead s w off) := by
  unfold State.lineAhead
  repeat' (first | with_reducible refine Keeps.ofIte (fun _ => ?_) (fun _ => ?_) | (with_reducible refine Keeps.upd ?_ rfl; first | with_reducible assumption | with_reducible apply State.memAccess_keeps))

theorem State.prefRead_keeps {s₀ : State} {s : State} (w : Nat) (h : HeldRead) (h₀ : Keeps s₀ s) : Keeps s₀ (State.prefRead s w h) := by
  unfold State.prefRead
  repeat' (first | with_reducible apply State.lineAhead_keeps | with_reducible refine Keeps.ofIte (fun _ => ?_) (fun _ => ?_) | (with_reducible refine Keeps.upd ?_ rfl; first | with_reducible assumption | with_reducible (first | apply State.brgCount_keeps | apply State.lineAhead_keeps | apply State.memAccess_keeps | apply State.readDone_keeps | apply State.setLineBufs_keeps)) | split)

theorem State.takeId_keeps {s₀ : State} {s : State} (h₀ : Keeps s₀ s) : Keeps s₀ (State.takeId s).2 := by
  unfold State.takeId
  repeat' ((with_reducible refine Keeps.upd ?_ rfl; first | with_reducible assumption))

theorem State.bridgeRead_keeps {s₀ : State} {s : State} (a : Nat) (n : Nat) (h₀ : Keeps s₀ s) : Keeps s₀ (State.bridgeRead s a n) := by
  unfold State.bridgeRead
  repeat' (first | with_reducible apply State.brgCount_keeps | with_reducible refine Keeps.ofIte (fun _ => ?_) (fun _ => ?_) | (with_reducible refine Keeps.upd ?_ rfl; first | with_reducible assumption | with_reducible (first | apply State.arm_keeps | apply State.brgCount_keeps | apply State.memAccess_keeps | apply State.prefRead_keeps | apply State.readDone_keeps | apply State.takeId_keeps)) | split)

theorem State.bridgeWrite_keeps {s₀ : State} {s : State} (a : Nat) (data : List Byte) (whole : Bool) (h₀ : Keeps s₀ s) : Keeps s₀ (State.bridgeWrite s a data whole) := by
  unfold State.bridgeWrite
  repeat' (first | with_reducible apply State.linesDrop_keeps | with_reducible refine Keeps.ofIte (fun _ => ?_) (fun _ => ?_) | (with_reducible refine Keeps.upd ?_ rfl; first | with_reducible assumption | with_reducible (first | apply State.brgCount_keeps | apply State.linesDrop_keeps | apply State.memAccess_keeps | apply State.writeFail_keeps)) | split)

theorem State.readTimeout_keeps {s₀ : State} {s : State} (id : Nat) (h₀ : Keeps s₀ s) : Keeps s₀ (State.readTimeout s id) := by
  unfold State.readTimeout
  repeat' (first | with_reducible apply State.readDone_keeps | with_reducible refine Keeps.ofIte (fun _ => ?_) (fun _ => ?_) | (with_reducible refine Keeps.upd ?_ rfl; first | with_reducible assumption | with_reducible (first | apply State.brgCount_keeps | apply State.readDone_keeps)))

theorem State.memTake_keeps {s₀ : State} {s : State} (e : Nat) (role : Nat) (tys : List Nat) (h₀ : Keeps s₀ s) : Keeps s₀ (State.memTake s e role tys).1 := by
  unfold State.memTake
  repeat' (first | with_reducible assumption | with_reducible (first | apply State.memErr_keeps | apply State.takeInbound_keeps) | with_reducible refine Keeps.ofItePair (fun _ => ?_) (fun _ => ?_) | split)

theorem State.memAcked_keeps {s₀ : State} {s : State} (e : Nat) (q : Nat) (h₀ : Keeps s₀ s) : Keeps s₀ (State.memAcked s e q) := by
  unfold State.memAcked
  repeat' (first | with_reducible assumption | with_reducible (first | apply State.memTimer_keeps | apply State.setMemTries_keeps | apply State.setMemUnack_keeps) | with_reducible refine Keeps.ofIte (fun _ => ?_) (fun _ => ?_))

theorem State.memAnswer_keeps {s₀ : State} {s : State} (m : MemMsg) (data : Option (List Byte)) (h₀ : Keeps s₀ s) : Keeps s₀ (State.memAnswer s m data) := by
  unfold State.memAnswer
  repeat' (first | with_reducible apply State.readDone_keeps | with_reducible refine Keeps.ofIte (fun _ => ?_) (fun _ => ?_) | (with_reducible refine Keeps.upd ?_ rfl; first | with_reducible assumption | with_reducible (first | apply State.lineIn_keeps | apply State.readDone_keeps)) | split)

theorem State.rdataReceive_keeps {s₀ : State} {s : State} (e : Nat) (h₀ : Keeps s₀ s) : Keeps s₀ (State.rdataReceive s e) := by
  unfold State.rdataReceive
  repeat' (first | with_reducible assumption | (extract_lets +onlyGivenNames x; first | (refine (?_ : Keeps s₀ x → _) ?_; rotate_left; subst x; rotate_left; intro hx; clear_value x) | (refine (?_ : Keeps s₀ x.1 → _) ?_; rotate_left; subst x; rotate_left; intro hx; clear_value x) | clear_value x) | with_reducible (first | apply State.brgCount_keeps | apply State.memAcked_keeps | apply State.memAnswer_keeps | apply State.memTake_keeps | apply State.setMemReads_keeps) | (first | with_reducible refine Keeps.ofPair (by assumption) ?_) | split)

theorem State.memAckReceive_keeps {s₀ : State} {s : State} (e : Nat) (h₀ : Keeps s₀ s) : Keeps s₀ (State.memAckReceive s e) := by
  unfold State.memAckReceive
  repeat' (first | with_reducible assumption | with_reducible (first | apply State.memAcked_keeps | apply State.memTake_keeps) | (first | with_reducible refine Keeps.ofPair (by assumption) ?_) | split)

theorem State.wfailReceive_keeps {s₀ : State} {s : State} (e : Nat) (h₀ : Keeps s₀ s) : Keeps s₀ (State.wfailReceive s e) := by
  unfold State.wfailReceive
  repeat' (first | with_reducible assumption | with_reducible (first | apply State.memAcked_keeps | apply State.memTake_keeps | apply State.writeFail_keeps) | (first | with_reducible refine Keeps.ofPair (by assumption) ?_) | split)

theorem State.memRto_keeps {s₀ : State} {s : State} (e : Nat) (h₀ : Keeps s₀ s) : Keeps s₀ (State.memRto s e) := by
  unfold State.memRto
  repeat' (first | with_reducible assumption | with_reducible (first | apply State.memAnswer_keeps | apply State.memCount_keeps | apply State.memSend_keeps | apply State.memTimer_keeps | apply State.setMemReads_keeps | apply State.setMemTries_keeps | apply State.setMemUnack_keeps | apply State.writeFail_keeps) | with_reducible refine Keeps.ofIte (fun _ => ?_) (fun _ => ?_) | with_reducible refine Keeps.eachOf ?_ _ _ (fun _ _ _ => ?_) | split)

theorem State.signalSend_keeps {s₀ : State} {s : State} (v : Nat) (h₀ : Keeps s₀ s) : Keeps s₀ (State.signalSend s v) := by
  unfold State.signalSend
  repeat' (first | with_reducible apply State.memAccess_keeps | with_reducible refine Keeps.ofIte (fun _ => ?_) (fun _ => ?_) | (with_reducible refine Keeps.upd ?_ rfl; first | with_reducible assumption | with_reducible (first | apply State.brgReject_keeps | apply State.memAccess_keeps)))

theorem State.brgWrite_keeps {s₀ : State} {s : State} (off : Nat) (v : Nat) (h₀ : Keeps s₀ s) : KeepsOpt s₀ (State.brgWrite s off v) := by
  unfold State.brgWrite
  repeat' (first | with_reducible assumption | (extract_lets +onlyGivenNames x; first | (refine (?_ : Keeps s₀ x → _) ?_; rotate_left; subst x; rotate_left; intro hx; clear_value x) | clear_value x) | with_reducible (first | apply State.brgReject_keeps | apply State.signalSend_keeps | apply State.winCtrlWrite_keeps | apply State.wr_keeps | apply State.writeReg_keeps) | with_reducible apply KeepsOpt.ofSome | exact KeepsOpt.ofNone | with_reducible refine Keeps.whenIf ?_ _ _ (fun _ _ => ?_) | with_reducible refine Keeps.eachOf ?_ _ _ (fun _ _ _ => ?_) | split)

theorem execWindowEnable_keeps {s₀ : State} (w : Fin 16) (v : Word) {s : State} (h₀ : Keeps s₀ s) : KeepsOut s₀ (execWindowEnable w v s) := by
  unfold execWindowEnable
  repeat' (first | with_reducible assumption | with_reducible apply State.winCtrlWrite_keeps | with_reducible apply KeepsOut.ofNext)

theorem execBridgeRead_keeps {s₀ : State} (mgmt : Bool) (a : Nat) (n : Nat) {s : State} (h₀ : Keeps s₀ s) : KeepsOut s₀ (execBridgeRead mgmt a n s) := by
  unfold execBridgeRead
  repeat' (first | with_reducible assumption | with_reducible apply State.bridgeRead_keeps | with_reducible apply KeepsOut.ofNext | with_reducible refine KeepsOut.ofIte (fun _ => ?_) (fun _ => ?_))

theorem execBridgeWrite_keeps {s₀ : State} (mgmt : Bool) (a : Nat) (data : List Byte) (whole : Bool) {s : State} (h₀ : Keeps s₀ s) : KeepsOut s₀ (execBridgeWrite mgmt a data whole s) := by
  unfold execBridgeWrite
  repeat' (first | with_reducible assumption | with_reducible apply State.bridgeWrite_keeps | with_reducible apply KeepsOut.ofNext | with_reducible refine KeepsOut.ofIte (fun _ => ?_) (fun _ => ?_))

theorem execBridgeAccessIssue_keeps {s₀ : State} (e : Fin 128) {s : State} (h₀ : Keeps s₀ s) : KeepsOut s₀ (execBridgeAccessIssue e s) := by
  unfold execBridgeAccessIssue
  repeat' (first | with_reducible assumption | with_reducible apply State.memIssueNext_keeps | with_reducible apply KeepsOut.ofNext)

theorem execBridgeReadTimeout_keeps {s₀ : State} (id : Nat) {s : State} (h₀ : Keeps s₀ s) : KeepsOut s₀ (execBridgeReadTimeout id s) := by
  unfold execBridgeReadTimeout
  repeat' (first | with_reducible assumption | with_reducible apply State.readTimeout_keeps | with_reducible apply KeepsOut.ofNext)

theorem execRdataReceive_keeps {s₀ : State} (e : Fin 128) {s : State} (h₀ : Keeps s₀ s) : KeepsOut s₀ (execRdataReceive e s) := by
  unfold execRdataReceive
  repeat' (first | with_reducible assumption | with_reducible apply State.rdataReceive_keeps | with_reducible apply KeepsOut.ofNext)

theorem execMemoryAckReceive_keeps {s₀ : State} (e : Fin 128) {s : State} (h₀ : Keeps s₀ s) : KeepsOut s₀ (execMemoryAckReceive e s) := by
  unfold execMemoryAckReceive
  repeat' (first | with_reducible assumption | with_reducible apply State.memAckReceive_keeps | with_reducible apply KeepsOut.ofNext)

theorem execWfailReceive_keeps {s₀ : State} (e : Fin 128) {s : State} (h₀ : Keeps s₀ s) : KeepsOut s₀ (execWfailReceive e s) := by
  unfold execWfailReceive
  repeat' (first | with_reducible assumption | with_reducible apply State.wfailReceive_keeps | with_reducible apply KeepsOut.ofNext)

theorem execMemoryRto_keeps {s₀ : State} (e : Fin 128) {s : State} (h₀ : Keeps s₀ s) : KeepsOut s₀ (execMemoryRto e s) := by
  unfold execMemoryRto
  repeat' (first | with_reducible assumption | with_reducible apply State.memRto_keeps | with_reducible apply KeepsOut.ofNext)

theorem execSignalSend_keeps {s₀ : State} (w : Word) {s : State} (h₀ : Keeps s₀ s) : KeepsOut s₀ (execSignalSend w s) := by
  unfold execSignalSend
  repeat' (first | with_reducible assumption | with_reducible apply State.signalSend_keeps | with_reducible apply KeepsOut.ofNext)

theorem execPrefetchLineExpiry_keeps {s₀ : State} (w : Fin 16) (line : Nat) {s : State} (h₀ : Keeps s₀ s) : KeepsOut s₀ (execPrefetchLineExpiry w line s) := by
  unfold execPrefetchLineExpiry
  repeat' (first | with_reducible assumption | with_reducible (first | apply State.disarm_keeps | apply State.linesDrop_keeps) | with_reducible apply KeepsOut.ofNext | split)

theorem execMstat_keeps {s₀ : State} (n : Fin 16) (m : Fin 2) (e : Fin 128) {s : State} (h₀ : Keeps s₀ s) : KeepsOut s₀ (execMstat n m e s) := by
  unfold execMstat
  repeat' (first | with_reducible assumption | with_reducible apply State.mbxSubmit_keeps | with_reducible apply KeepsOut.ofNext)

theorem execMclr_keeps {s₀ : State} (n : Fin 16) (m : Fin 2) (e : Fin 128) {s : State} (h₀ : Keeps s₀ s) : KeepsOut s₀ (execMclr n m e s) := by
  unfold execMclr
  repeat' (first | with_reducible assumption | with_reducible apply State.mbxSubmit_keeps | with_reducible apply KeepsOut.ofNext)

end Sys2Proof.Machine
end

