-- ==== Sys2Proof/Laws/KeepsFlash.lean ====
section
/-! SUPPORT. What the operations of Machine/Flash.lean keep: the queue, the canonical form of the stores, every burnt fuse. -/

namespace Sys2Proof.Machine

theorem State.storeChain_keeps {s₀ : State} {s : State} (place : Nat) (bytes : List Byte) (h₀ : Keeps s₀ s) : KeepsOpt s₀ (State.storeChain s place bytes) := by
  unfold State.storeChain
  repeat' (first | with_reducible apply KeepsOpt.ofSome | exact KeepsOpt.ofNone | with_reducible refine KeepsOpt.ofIte (fun _ => ?_) (fun _ => ?_) | with_reducible refine Keeps.setFlash ?_ (fun h => Memory.wf_write _ _ (Memory.wf_write _ _ h)) | (with_reducible refine Keeps.upd ?_ rfl; first | with_reducible assumption | with_reducible apply State.free_keeps) | split)

end Sys2Proof.Machine
end

