-- ==== Sys2Proof/Laws/KeepsSessions.lean ====
section
/-! SUPPORT. What the operations of Machine/Sessions.lean keep: the queue, the canonical form of the stores, every burnt fuse. -/

namespace Sys2Proof.Machine

theorem State.setSess_keeps {s₀ : State} {s : State} (t : Nat) (x : Session) (h₀ : Keeps s₀ s) : Keeps s₀ (State.setSess s t x) := by
  unfold State.setSess
  repeat' (first | with_reducible assumption | (with_reducible refine Keeps.updKeys ?_ ?_ rfl <;> with_reducible assumption))

theorem State.sessSend_keeps {s₀ : State} {s : State} (t : Nat) (payload : List Byte) (h₀ : Keeps s₀ s) : Keeps s₀ (State.sessSend s t payload) := by
  unfold State.sessSend
  repeat' (first | with_reducible assumption | (with_reducible refine Keeps.upd ?_ rfl; first | with_reducible assumption | with_reducible apply State.sendOrigin_keeps))

theorem State.sessAbort_keeps {s₀ : State} {s : State} (t : Nat) (reason : Nat) (h₀ : Keeps s₀ s) : Keeps s₀ (State.sessAbort s t reason) := by
  unfold State.sessAbort
  repeat' (first | with_reducible assumption | (with_reducible refine Keeps.upd ?_ rfl; first | with_reducible assumption | with_reducible (first | apply State.sessSend_keeps | apply State.setSess_keeps)))

theorem State.fwKey_keeps {s₀ : State} {s : State} (pol : Nat) (run : State → State) (h₀ : Keeps s₀ s) (g_run : ∀ x, Keeps s₀ x → Keeps s₀ (run x)) : Keeps s₀ (State.fwKey s pol run).1 := by
  unfold State.fwKey
  repeat' (first | with_reducible assumption | with_reducible (first | apply State.keyDone_keeps | apply State.keyStart_keeps | apply State.wr_keeps))

theorem State.sessBegin_keeps {s₀ : State} {s : State} (t : Nat) (h₀ : Keeps s₀ s) : Keeps s₀ (State.sessBegin s t) := by
  unfold State.sessBegin
  repeat' (first | with_reducible assumption | (extract_lets +onlyGivenNames x; first | (refine (?_ : Keeps s₀ x → _) ?_; rotate_left; subst x; rotate_left; intro hx; clear_value x) | (refine (?_ : Keeps s₀ x.1 → _) ?_; rotate_left; subst x; rotate_left; intro hx; clear_value x) | (refine (?_ : Keeps s₀ x.2 → _) ?_; rotate_left; subst x; rotate_left; intro hx; clear_value x) | clear_value x) | with_reducible apply State.keyGen_keeps | (first | with_reducible refine Keeps.ofPair (by assumption) ?_ | with_reducible refine Keeps.ofPair2 (by assumption) ?_) | (with_reducible refine Keeps.upd ?_ rfl; first | with_reducible assumption | with_reducible (first | apply State.free_keeps | apply State.fwKey_keeps | apply State.keyDestroy_keeps | apply State.keyGen_keeps | apply State.setSess_keeps)) | split | intro _)

theorem State.offerSend_keeps {s₀ : State} {s : State} (t : Nat) (h₀ : Keeps s₀ s) : Keeps s₀ (State.offerSend s t) := by
  unfold State.offerSend
  repeat' (first | with_reducible assumption | with_reducible (first | apply State.arm_keeps | apply State.sessBegin_keeps | apply State.sessSend_keeps) | with_reducible refine Keeps.ofIte (fun _ => ?_) (fun _ => ?_))

theorem State.offerReceive_keeps {s₀ : State} {s : State} (t : Nat) (b : List Byte) (h₀ : Keeps s₀ s) : Keeps s₀ (State.offerReceive s t b) := by
  unfold State.offerReceive
  repeat' (first | with_reducible assumption | (extract_lets +onlyGivenNames x; first | (refine (?_ : Keeps s₀ x → _) ?_; rotate_left; subst x; rotate_left; intro hx; clear_value x) | (refine (?_ : Keeps s₀ x.1 → _) ?_; rotate_left; subst x; rotate_left; intro hx; clear_value x) | (refine (?_ : Keeps s₀ x.2 → _) ?_; rotate_left; subst x; rotate_left; intro hx; clear_value x) | clear_value x) | with_reducible apply State.sessBegin_keeps | with_reducible refine Keeps.ofIte (fun _ => ?_) (fun _ => ?_) | (first | with_reducible refine Keeps.ofPair (by assumption) ?_ | with_reducible refine Keeps.ofPair2 (by assumption) ?_) | (with_reducible refine Keeps.upd ?_ rfl; first | with_reducible assumption | with_reducible (first | apply State.free_keeps | apply State.pairSource_keeps | apply State.sessAbort_keeps | apply State.sessBegin_keeps | apply State.sessSend_keeps | apply State.setSess_keeps)) | split)

theorem State.sessAgree_keeps {s₀ : State} {s : State} (t : Nat) (n : Nat) (h₀ : Keeps s₀ s) : Keeps s₀ (State.sessAgree s t n) := by
  unfold State.sessAgree
  repeat' (first | with_reducible assumption | with_reducible (first | apply State.sealWrite_keeps | apply State.slotsShow_keeps) | with_reducible refine Keeps.ofIte (fun _ => ?_) (fun _ => ?_) | (with_reducible refine Keeps.upd ?_ rfl; first | with_reducible assumption | with_reducible (first | apply State.fillSlot_keeps | apply State.fwKey_keeps | apply State.keyDestroy_keeps | apply State.sealWrite_keeps | apply State.sessAbort_keeps | apply State.setSess_keeps | apply State.slotsShow_keeps)) | split | intro _)

theorem State.proofReceive_keeps {s₀ : State} {s : State} (t : Nat) (b : List Byte) (h₀ : Keeps s₀ s) : Keeps s₀ (State.proofReceive s t b) := by
  unfold State.proofReceive
  repeat' (first | with_reducible assumption | with_reducible (first | apply State.pairSource_keeps | apply State.sessAbort_keeps | apply State.sessAgree_keeps) | with_reducible refine Keeps.ofIte (fun _ => ?_) (fun _ => ?_) | (first | with_reducible refine Keeps.ofPair (by assumption) ?_) | split)

theorem State.abortReceive_keeps {s₀ : State} {s : State} (t : Nat) (b : List Byte) (h₀ : Keeps s₀ s) : Keeps s₀ (State.abortReceive s t b) := by
  unfold State.abortReceive
  repeat' (first | with_reducible assumption | (with_reducible refine Keeps.upd ?_ rfl; first | with_reducible assumption | with_reducible apply State.setSess_keeps) | split)

theorem State.devicePublic_keeps {s₀ : State} {s : State} (h₀ : Keeps s₀ s) : Keeps s₀ (State.devicePublic s).1 := by
  unfold State.devicePublic
  repeat' (first | with_reducible assumption | with_reducible apply State.pairSource_keeps | (first | with_reducible refine Keeps.ofPair (by assumption) ?_) | split)

theorem State.certReq_keeps {s₀ : State} {s : State} (src : Nat) (b : List Byte) (h₀ : Keeps s₀ s) : Keeps s₀ (State.certReq s src b) := by
  unfold State.certReq
  repeat' (first | with_reducible assumption | with_reducible (first | apply State.devicePublic_keeps | apply State.sendTunnel0_keeps) | (first | with_reducible refine Keeps.ofPair (by assumption) ?_) | split)

theorem State.chainReceive_keeps {s₀ : State} {s : State} (src : Nat) (b : List Byte) (place : Nat) (ok : Bool) (h₀ : Keeps s₀ s) : Keeps s₀ (State.chainReceive s src b place ok) := by
  unfold State.chainReceive
  repeat' (first | with_reducible assumption | with_reducible (first | apply State.devicePublic_keeps | apply State.sendTunnel0_keeps | apply State.storeChain_keeps) | with_reducible refine Keeps.ofIte (fun _ => ?_) (fun _ => ?_) | (first | exact KeepsOpt.ofNone | with_reducible apply KeepsOpt.ofSome | with_reducible refine Keeps.ofGetD ?_ ?_ | with_reducible refine Keeps.ofOpt (by assumption) ?_ | with_reducible refine Keeps.ofPair (by assumption) ?_ | with_reducible refine KeepsOpt.ofIte (fun _ => ?_) (fun _ => ?_)) | split)

theorem execOfferSend_keeps {s₀ : State} (t : Fin 4) {s : State} (h₀ : Keeps s₀ s) : KeepsOut s₀ (execOfferSend t s) := by
  unfold execOfferSend
  repeat' (first | with_reducible assumption | with_reducible apply State.offerSend_keeps | with_reducible apply KeepsOut.ofNext)

theorem execOfferReceive_keeps {s₀ : State} (t : Fin 4) (bytes : List Byte) {s : State} (h₀ : Keeps s₀ s) : KeepsOut s₀ (execOfferReceive t bytes s) := by
  unfold execOfferReceive
  repeat' (first | with_reducible assumption | with_reducible apply State.offerReceive_keeps | with_reducible apply KeepsOut.ofNext)

theorem execProofReceive_keeps {s₀ : State} (t : Fin 4) (bytes : List Byte) {s : State} (h₀ : Keeps s₀ s) : KeepsOut s₀ (execProofReceive t bytes s) := by
  unfold execProofReceive
  repeat' (first | with_reducible assumption | with_reducible apply State.proofReceive_keeps | with_reducible apply KeepsOut.ofNext)

theorem execAbortReceive_keeps {s₀ : State} (t : Fin 4) (bytes : List Byte) {s : State} (h₀ : Keeps s₀ s) : KeepsOut s₀ (execAbortReceive t bytes s) := by
  unfold execAbortReceive
  repeat' (first | with_reducible assumption | with_reducible apply State.abortReceive_keeps | with_reducible apply KeepsOut.ofNext)

theorem execCertreqReceive_keeps {s₀ : State} (src : BitVec 25) (bytes : List Byte) {s : State} (h₀ : Keeps s₀ s) : KeepsOut s₀ (execCertreqReceive src bytes s) := by
  unfold execCertreqReceive
  repeat' (first | with_reducible assumption | with_reducible apply State.certReq_keeps | with_reducible apply KeepsOut.ofNext)

theorem execChainReceive_keeps {s₀ : State} (src : BitVec 25) (bytes : List Byte) (place : Nat) (ok : Bool) {s : State} (h₀ : Keeps s₀ s) : KeepsOut s₀ (execChainReceive src bytes place ok s) := by
  unfold execChainReceive
  repeat' (first | with_reducible assumption | with_reducible apply State.chainReceive_keeps | with_reducible apply KeepsOut.ofNext)

end Sys2Proof.Machine
end

