-- ==== Sys2Proof/Laws/KeepsPowerEntry.lean ====
section
/-! SUPPORT. What the operations of Machine/PowerEntry.lean keep: the queue, the canonical form of the stores, every burnt fuse. -/

namespace Sys2Proof.Machine

theorem State.hswCount_keeps {s₀ : State} {s : State} (i : Nat) (h₀ : Keeps s₀ s) : Keeps s₀ (State.hswCount s i) := by
  unfold State.hswCount
  repeat' (first | with_reducible assumption | with_reducible apply State.sat_keeps)

theorem State.hswReject_keeps {s₀ : State} {s : State} (h₀ : Keeps s₀ s) : Keeps s₀ (State.hswReject s) := by
  unfold State.hswReject
  repeat' (first | with_reducible assumption | with_reducible apply State.wr_keeps)

theorem State.setDiode_keeps {s₀ : State} {s : State} (d : Nat) (x : Bool) (h₀ : Keeps s₀ s) : Keeps s₀ (State.setDiode s d x) := by
  unfold State.setDiode
  repeat' ((with_reducible refine Keeps.upd ?_ rfl; first | with_reducible assumption))

theorem State.pathSettle_keeps {s₀ : State} {s : State} (h₀ : Keeps s₀ s) : Keeps s₀ (State.pathSettle s) := by
  unfold State.pathSettle
  repeat' (first | with_reducible refine Keeps.ofIte (fun _ => ?_) (fun _ => ?_) | (with_reducible refine Keeps.upd ?_ rfl; first | with_reducible assumption | with_reducible (first | apply State.causeOff_keeps | apply State.causeOn_keeps | apply State.hswCount_keeps | apply State.wr_keeps) | (with_reducible refine Keeps.upd ?_ rfl; first | with_reducible assumption | with_reducible (first | apply State.causeOff_keeps | apply State.causeOn_keeps | apply State.hswCount_keeps | apply State.wr_keeps))))

theorem State.setSink_keeps {s₀ : State} {s : State} (x : Bool) (h₀ : Keeps s₀ s) : Keeps s₀ (State.setSink s x) := by
  unfold State.setSink
  repeat' ((with_reducible refine Keeps.upd ?_ rfl; first | with_reducible assumption))

theorem State.gateGo_keeps {s₀ : State} {s : State} (p : PathState) (h₀ : Keeps s₀ s) : Keeps s₀ (State.gateGo s p) := by
  unfold State.gateGo
  repeat' ((with_reducible refine Keeps.upd ?_ rfl; first | with_reducible assumption))

theorem State.pathGo_keeps {s₀ : State} {s : State} (p : PathState) (h₀ : Keeps s₀ s) : Keeps s₀ (State.pathGo s p) := by
  unfold State.pathGo
  repeat' (first | with_reducible assumption | with_reducible (first | apply State.gateGo_keeps | apply State.pathSettle_keeps | apply State.wr_keeps))

theorem State.rampStart_keeps {s₀ : State} {s : State} (h₀ : Keeps s₀ s) : Keeps s₀ (State.rampStart s) := by
  unfold State.rampStart
  repeat' (first | (with_reducible refine Keeps.upd ?_ rfl; first | with_reducible assumption | with_reducible (first | apply State.pathGo_keeps | apply State.pathSettle_keeps | apply State.setSink_keeps) | (with_reducible refine Keeps.upd ?_ rfl; first | with_reducible assumption | with_reducible (first | apply State.pathGo_keeps | apply State.pathSettle_keeps | apply State.setSink_keeps))) | split)

theorem State.deadTimeEnd_keeps {s₀ : State} {s : State} (h₀ : Keeps s₀ s) : Keeps s₀ (State.deadTimeEnd s) := by
  unfold State.deadTimeEnd
  repeat' (first | with_reducible assumption | with_reducible apply State.pathGo_keeps | split)

theorem State.rampOrWait_keeps {s₀ : State} {s : State} (h₀ : Keeps s₀ s) : Keeps s₀ (State.rampOrWait s) := by
  unfold State.rampOrWait
  repeat' (first | with_reducible assumption | with_reducible (first | apply State.pathGo_keeps | apply State.rampStart_keeps) | split)

theorem State.feedWaitEnd_keeps {s₀ : State} {s : State} (h₀ : Keeps s₀ s) : Keeps s₀ (State.feedWaitEnd s) := by
  unfold State.feedWaitEnd
  repeat' (first | with_reducible assumption | with_reducible apply State.rampStart_keeps | split)

theorem State.seated_keeps {s₀ : State} {s : State} (h₀ : Keeps s₀ s) : Keeps s₀ (State.seated s) := by
  unfold State.seated
  repeat' (first | with_reducible assumption | with_reducible (first | apply State.rampOrWait_keeps | apply State.wr_keeps) | with_reducible refine Keeps.ofIte (fun _ => ?_) (fun _ => ?_))

theorem State.removal_keeps {s₀ : State} {s : State} (h₀ : Keeps s₀ s) : Keeps s₀ (State.removal s) := by
  unfold State.removal
  repeat' (first | with_reducible assumption | with_reducible (first | apply State.hswCount_keeps | apply State.pathGo_keeps | apply State.setDiode_keeps | apply State.wr_keeps) | with_reducible refine Keeps.ofIte (fun _ => ?_) (fun _ => ?_))

theorem State.feedSample_keeps {s₀ : State} {s : State} (f : Nat) (v : Nat) (h₀ : Keeps s₀ s) : Keeps s₀ (State.feedSample s f v) := by
  unfold State.feedSample
  repeat' ((with_reducible refine Keeps.upd ?_ rfl; first | with_reducible assumption))

theorem State.feedGood_keeps {s₀ : State} {s : State} (f : Nat) (h₀ : Keeps s₀ s) : Keeps s₀ (State.feedGood s f) := by
  unfold State.feedGood
  repeat' (first | with_reducible assumption | with_reducible (first | apply State.causeOff_keeps | apply State.feedWaitEnd_keeps | apply State.wr_keeps) | split)

theorem State.feedBad_keeps {s₀ : State} {s : State} (f : Nat) (h₀ : Keeps s₀ s) : Keeps s₀ (State.feedBad s f) := by
  unfold State.feedBad
  repeat' (first | with_reducible assumption | with_reducible (first | apply State.causeOn_keeps | apply State.setDiode_keeps | apply State.wr_keeps) | split)

theorem State.feedUnder_keeps {s₀ : State} {s : State} (f : Nat) (h₀ : Keeps s₀ s) : Keeps s₀ (State.feedUnder s f) := by
  unfold State.feedUnder
  repeat' (first | with_reducible assumption | with_reducible apply State.feedBad_keeps | split)

theorem State.feedOver_keeps {s₀ : State} {s : State} (f : Nat) (mv : Nat) (h₀ : Keeps s₀ s) : Keeps s₀ (State.feedOver s f mv) := by
  unfold State.feedOver
  repeat' (first | (with_reducible refine Keeps.upd ?_ rfl; first | with_reducible assumption | with_reducible apply State.feedBad_keeps) | split)

theorem State.diodeOn_keeps {s₀ : State} {s : State} (f : Nat) (h₀ : Keeps s₀ s) : Keeps s₀ (State.diodeOn s f) := by
  unfold State.diodeOn
  repeat' (first | with_reducible assumption | with_reducible apply State.setDiode_keeps | split)

theorem State.diodeReverse_keeps {s₀ : State} {s : State} (f : Nat) (h₀ : Keeps s₀ s) : Keeps s₀ (State.diodeReverse s f) := by
  unfold State.diodeReverse
  repeat' (first | with_reducible assumption | with_reducible (first | apply State.hswCount_keeps | apply State.setDiode_keeps | apply State.wr_keeps) | split)

theorem State.feedcOver_keeps {s₀ : State} {s : State} (mv : Nat) (h₀ : Keeps s₀ s) : Keeps s₀ (State.feedcOver s mv) := by
  unfold State.feedcOver
  repeat' (first | with_reducible assumption | with_reducible (first | apply State.hswCount_keeps | apply State.pathGo_keeps | apply State.wr_keeps) | split)

theorem State.noFeed_keeps {s₀ : State} {s : State} (h₀ : Keeps s₀ s) : Keeps s₀ (State.noFeed s) := by
  unfold State.noFeed
  repeat' (first | with_reducible assumption | with_reducible apply State.pathGo_keeps | split)

theorem State.pathTrip_keeps {s₀ : State} {s : State} (h₀ : Keeps s₀ s) : Keeps s₀ (State.pathTrip s) := by
  unfold State.pathTrip
  repeat' (first | with_reducible assumption | with_reducible (first | apply State.pathGo_keeps | apply State.wr_keeps) | split)

theorem State.limitsShow_keeps {s₀ : State} {s : State} (h₀ : Keeps s₀ s) : Keeps s₀ (State.limitsShow s) := by
  unfold State.limitsShow
  repeat' (first | with_reducible assumption | with_reducible apply State.wr_keeps)

theorem State.showCurrents_keeps {s₀ : State} {s : State} (raw : List (BitVec 14)) (h₀ : Keeps s₀ s) : Keeps s₀ (State.showCurrents s raw) := by
  unfold State.showCurrents
  repeat' (first | with_reducible assumption | with_reducible apply State.wr_keeps | with_reducible refine Keeps.eachOf ?_ _ _ (fun _ _ _ => ?_))

theorem State.hswPeriod_keeps {s₀ : State} {s : State} (h₀ : Keeps s₀ s) : Keeps s₀ (State.hswPeriod s) := by
  unfold State.hswPeriod
  repeat' ((with_reducible refine Keeps.upd ?_ rfl; first | with_reducible assumption))

theorem State.rampEnd_keeps {s₀ : State} {s : State} (h₀ : Keeps s₀ s) : Keeps s₀ (State.rampEnd s) := by
  unfold State.rampEnd
  repeat' (first | with_reducible assumption | with_reducible apply State.pathGo_keeps | split)

theorem State.limitStep_keeps {s₀ : State} {s : State} (va : Nat) (vb : Nat) (vc : Nat) (vout : Nat) (raw : List (BitVec 14)) (held : Bool) (h₀ : Keeps s₀ s) : Keeps s₀ (State.limitStep s va vb vc vout raw held) := by
  unfold State.limitStep
  repeat' (first | (with_reducible refine Keeps.upd ?_ rfl; first | with_reducible assumption | with_reducible (first | apply State.feedSample_keeps | apply State.feedWaitEnd_keeps | apply State.hswPeriod_keeps | apply State.limitsShow_keeps | apply State.showCurrents_keeps | apply State.wr_keeps) | (with_reducible refine Keeps.upd ?_ rfl; first | with_reducible assumption | with_reducible (first | apply State.feedSample_keeps | apply State.feedWaitEnd_keeps | apply State.hswPeriod_keeps | apply State.limitsShow_keeps | apply State.showCurrents_keeps | apply State.wr_keeps))) | split)

theorem State.timerTrip_keeps {s₀ : State} {s : State} (h₀ : Keeps s₀ s) : Keeps s₀ (State.timerTrip s) := by
  unfold State.timerTrip
  repeat' (first | with_reducible assumption | with_reducible (first | apply State.fault_keeps | apply State.hswCount_keeps | apply State.pathTrip_keeps | apply State.wr_keeps) | split)

theorem State.fastTrip_keeps {s₀ : State} {s : State} (raw : Int) (h₀ : Keeps s₀ s) : Keeps s₀ (State.fastTrip s raw) := by
  unfold State.fastTrip
  repeat' (first | with_reducible assumption | with_reducible (first | apply State.fault_keeps | apply State.hswCount_keeps | apply State.pathTrip_keeps | apply State.wr_keeps) | split)

theorem State.retryEnd_keeps {s₀ : State} {s : State} (h₀ : Keeps s₀ s) : Keeps s₀ (State.retryEnd s) := by
  unfold State.retryEnd
  repeat' (first | with_reducible assumption | with_reducible (first | apply State.hswCount_keeps | apply State.rampOrWait_keeps) | split)

theorem State.retryReset_keeps {s₀ : State} {s : State} (h₀ : Keeps s₀ s) : Keeps s₀ (State.retryReset s) := by
  unfold State.retryReset
  repeat' (first | with_reducible assumption | with_reducible apply State.wr_keeps | split)

theorem State.hswCmdWrite_keeps {s₀ : State} {s : State} (w : Nat) (h₀ : Keeps s₀ s) : Keeps s₀ (State.hswCmdWrite s w) := by
  unfold State.hswCmdWrite
  repeat' (first | with_reducible assumption | with_reducible (first | apply State.hswReject_keeps | apply State.pathGo_keeps) | with_reducible refine Keeps.ofIte (fun _ => ?_) (fun _ => ?_))

theorem State.clearLatch_keeps {s₀ : State} {s : State} (h₀ : Keeps s₀ s) : Keeps s₀ (State.clearLatch s) := by
  unfold State.clearLatch
  repeat' (first | with_reducible assumption | with_reducible (first | apply State.pathGo_keeps | apply State.wr_keeps) | split)

theorem State.passDamaged_keeps {s₀ : State} {s : State} (h₀ : Keeps s₀ s) : Keeps s₀ (State.passDamaged s) := by
  unfold State.passDamaged
  repeat' (first | with_reducible assumption | with_reducible (first | apply State.causeOn_keeps | apply State.pathGo_keeps | apply State.setDiode_keeps | apply State.wr_keeps) | split)

theorem State.sinkClose_keeps {s₀ : State} {s : State} (h₀ : Keeps s₀ s) : Keeps s₀ (State.sinkClose s) := by
  unfold State.sinkClose
  repeat' (first | with_reducible assumption | with_reducible (first | apply State.pathSettle_keeps | apply State.setSink_keeps) | split)

theorem State.sinkOpen_keeps {s₀ : State} {s : State} (reverse : Bool) (h₀ : Keeps s₀ s) : Keeps s₀ (State.sinkOpen s reverse) := by
  unfold State.sinkOpen
  repeat' (first | with_reducible assumption | with_reducible (first | apply State.hswCount_keeps | apply State.pathSettle_keeps | apply State.setSink_keeps | apply State.wr_keeps) | split)

theorem State.limitWrite_keeps {s₀ : State} {s : State} (shunt : Bool) (w : Nat) (h₀ : Keeps s₀ s) : Keeps s₀ (State.limitWrite s shunt w) := by
  unfold State.limitWrite
  repeat' (first | with_reducible assumption | with_reducible (first | apply State.hswReject_keeps | apply State.limitsShow_keeps | apply State.writeReg_keeps) | with_reducible refine Keeps.ofIte (fun _ => ?_) (fun _ => ?_))

theorem State.shuntWrite_keeps {s₀ : State} {s : State} (k : Nat) (w : Nat) (h₀ : Keeps s₀ s) : Keeps s₀ (State.shuntWrite s k w) := by
  unfold State.shuntWrite
  repeat' (first | with_reducible assumption | with_reducible (first | apply State.hswReject_keeps | apply State.writeReg_keeps) | with_reducible refine Keeps.ofIte (fun _ => ?_) (fun _ => ?_))

theorem State.feedCfgWrite_keeps {s₀ : State} {s : State} (w : Nat) (h₀ : Keeps s₀ s) : Keeps s₀ (State.feedCfgWrite s w) := by
  unfold State.feedCfgWrite
  repeat' (first | with_reducible assumption | with_reducible (first | apply State.hswReject_keeps | apply State.writeReg_keeps) | with_reducible refine Keeps.ofIte (fun _ => ?_) (fun _ => ?_))

theorem State.feedDisabled_keeps {s₀ : State} {s : State} (f : Nat) (h₀ : Keeps s₀ s) : Keeps s₀ (State.feedDisabled s f) := by
  unfold State.feedDisabled
  repeat' (first | with_reducible assumption | with_reducible (first | apply State.causeOff_keeps | apply State.setDiode_keeps | apply State.wr_keeps) | split)

theorem State.hswCtrlWrite_keeps {s₀ : State} {s : State} (w : Nat) (h₀ : Keeps s₀ s) : Keeps s₀ (State.hswCtrlWrite s w) := by
  unfold State.hswCtrlWrite
  repeat' (first | with_reducible assumption | with_reducible (first | apply State.clearLatch_keeps | apply State.feedDisabled_keeps | apply State.sinkOpen_keeps | apply State.writeReg_keeps) | with_reducible refine Keeps.ofIte (fun _ => ?_) (fun _ => ?_))

theorem State.hswCalLoad_keeps {s₀ : State} {s : State} (h₀ : Keeps s₀ s) : Keeps s₀ (State.hswCalLoad s) := by
  unfold State.hswCalLoad
  repeat' (first | with_reducible assumption | with_reducible (first | apply State.limitsShow_keeps | apply State.wr_keeps) | with_reducible refine Keeps.ofIte (fun _ => ?_) (fun _ => ?_) | with_reducible refine Keeps.eachOf ?_ _ _ (fun _ _ _ => ?_))

theorem State.efuseTrip_keeps {s₀ : State} {s : State} (n : Nat) (kind : Nat) (h₀ : Keeps s₀ s) : Keeps s₀ (State.efuseTrip s n kind) := by
  unfold State.efuseTrip
  repeat' (first | with_reducible assumption | with_reducible (first | apply State.fault_keeps | apply State.hswCount_keeps | apply State.portTrip_keeps | apply State.wr_keeps) | split)

theorem State.hswWrite_keeps {s₀ : State} {s : State} (off : Nat) (w : Nat) (h₀ : Keeps s₀ s) : KeepsOpt s₀ (State.hswWrite s off w) := by
  unfold State.hswWrite
  repeat' (first | with_reducible assumption | (extract_lets +onlyGivenNames x; first | (refine (?_ : Keeps s₀ x → _) ?_; rotate_left; subst x; rotate_left; intro hx; clear_value x) | clear_value x) | with_reducible (first | apply State.feedCfgWrite_keeps | apply State.hswCmdWrite_keeps | apply State.hswCtrlWrite_keeps | apply State.limitWrite_keeps | apply State.shuntWrite_keeps | apply State.wr_keeps) | with_reducible apply KeepsOpt.ofSome | exact KeepsOpt.ofNone | with_reducible refine Keeps.eachOf ?_ _ _ (fun _ _ _ => ?_) | split)

theorem execSeatDebounceComplete_keeps {s₀ : State} {s : State} (h₀ : Keeps s₀ s) : KeepsOut s₀ (execSeatDebounceComplete s) := by
  unfold execSeatDebounceComplete
  repeat' (first | with_reducible assumption | with_reducible apply State.seated_keeps | with_reducible apply KeepsOut.ofNext)

theorem execRemoval_keeps {s₀ : State} {s : State} (h₀ : Keeps s₀ s) : KeepsOut s₀ (execRemoval s) := by
  unfold execRemoval
  repeat' (first | with_reducible assumption | with_reducible apply State.removal_keeps | with_reducible apply KeepsOut.ofNext)

theorem execFeedValid_keeps {s₀ : State} (f : Fin 2) {s : State} (h₀ : Keeps s₀ s) : KeepsOut s₀ (execFeedValid f s) := by
  unfold execFeedValid
  repeat' (first | with_reducible assumption | with_reducible apply State.feedGood_keeps | with_reducible apply KeepsOut.ofNext)

theorem execFeedUndervoltage_keeps {s₀ : State} (f : Fin 2) {s : State} (h₀ : Keeps s₀ s) : KeepsOut s₀ (execFeedUndervoltage f s) := by
  unfold execFeedUndervoltage
  repeat' (first | with_reducible assumption | with_reducible apply State.feedUnder_keeps | with_reducible apply KeepsOut.ofNext)

theorem execFeedOvervoltage_keeps {s₀ : State} (f : Fin 2) (mv : BitVec 17) {s : State} (h₀ : Keeps s₀ s) : KeepsOut s₀ (execFeedOvervoltage f mv s) := by
  unfold execFeedOvervoltage
  repeat' (first | with_reducible assumption | with_reducible apply State.feedOver_keeps | with_reducible apply KeepsOut.ofNext)

theorem execIdealDiodeOn_keeps {s₀ : State} (f : Fin 2) {s : State} (h₀ : Keeps s₀ s) : KeepsOut s₀ (execIdealDiodeOn f s) := by
  unfold execIdealDiodeOn
  repeat' (first | with_reducible assumption | with_reducible apply State.diodeOn_keeps | with_reducible apply KeepsOut.ofNext)

theorem execIdealDiodeReverseOff_keeps {s₀ : State} (f : Fin 2) {s : State} (h₀ : Keeps s₀ s) : KeepsOut s₀ (execIdealDiodeReverseOff f s) := by
  unfold execIdealDiodeReverseOff
  repeat' (first | with_reducible assumption | with_reducible apply State.diodeReverse_keeps | with_reducible apply KeepsOut.ofNext)

theorem execFeedcOvervoltage_keeps {s₀ : State} (mv : BitVec 17) {s : State} (h₀ : Keeps s₀ s) : KeepsOut s₀ (execFeedcOvervoltage mv s) := by
  unfold execFeedcOvervoltage
  repeat' (first | with_reducible assumption | with_reducible apply State.feedcOver_keeps | with_reducible apply KeepsOut.ofNext)

theorem execNoFeed_keeps {s₀ : State} {s : State} (h₀ : Keeps s₀ s) : KeepsOut s₀ (execNoFeed s) := by
  unfold execNoFeed
  repeat' (first | with_reducible assumption | with_reducible apply State.noFeed_keeps | with_reducible apply KeepsOut.ofNext)

theorem execRampEnd_keeps {s₀ : State} {s : State} (h₀ : Keeps s₀ s) : KeepsOut s₀ (execRampEnd s) := by
  unfold execRampEnd
  repeat' (first | with_reducible assumption | with_reducible apply State.rampEnd_keeps | with_reducible apply KeepsOut.ofNext)

theorem execFaultTimerTrip_keeps {s₀ : State} {s : State} (h₀ : Keeps s₀ s) : KeepsOut s₀ (execFaultTimerTrip s) := by
  unfold execFaultTimerTrip
  repeat' (first | with_reducible assumption | with_reducible apply State.timerTrip_keeps | with_reducible apply KeepsOut.ofNext)

theorem execFastTrip_keeps {s₀ : State} (raw : BitVec 14) {s : State} (h₀ : Keeps s₀ s) : KeepsOut s₀ (execFastTrip raw s) := by
  unfold execFastTrip
  repeat' (first | with_reducible assumption | with_reducible apply State.fastTrip_keeps | with_reducible apply KeepsOut.ofNext)

theorem execRetryExpiry_keeps {s₀ : State} {s : State} (h₀ : Keeps s₀ s) : KeepsOut s₀ (execRetryExpiry s) := by
  unfold execRetryExpiry
  repeat' (first | with_reducible assumption | with_reducible apply State.retryEnd_keeps | with_reducible apply KeepsOut.ofNext)

theorem execRetryReset_keeps {s₀ : State} {s : State} (h₀ : Keeps s₀ s) : KeepsOut s₀ (execRetryReset s) := by
  unfold execRetryReset
  repeat' (first | with_reducible assumption | with_reducible apply State.retryReset_keeps | with_reducible apply KeepsOut.ofNext)

theorem execPathOffCommand_keeps {s₀ : State} (w : Word) {s : State} (h₀ : Keeps s₀ s) : KeepsOut s₀ (execPathOffCommand w s) := by
  unfold execPathOffCommand
  repeat' (first | with_reducible assumption | with_reducible apply State.hswCmdWrite_keeps | with_reducible apply KeepsOut.ofNext)

theorem execPathOnCommand_keeps {s₀ : State} (w : Word) {s : State} (h₀ : Keeps s₀ s) : KeepsOut s₀ (execPathOnCommand w s) := by
  unfold execPathOnCommand
  repeat' (first | with_reducible assumption | with_reducible apply State.hswCmdWrite_keeps | with_reducible apply KeepsOut.ofNext)

theorem execClearLatch_keeps {s₀ : State} {s : State} (h₀ : Keeps s₀ s) : KeepsOut s₀ (execClearLatch s) := by
  unfold execClearLatch
  repeat' (first | with_reducible assumption | with_reducible apply State.clearLatch_keeps | with_reducible apply KeepsOut.ofNext)

theorem execPassDamaged_keeps {s₀ : State} {s : State} (h₀ : Keeps s₀ s) : KeepsOut s₀ (execPassDamaged s) := by
  unfold execPassDamaged
  repeat' (first | with_reducible assumption | with_reducible apply State.passDamaged_keeps | with_reducible apply KeepsOut.ofNext)

theorem execSinkSwitchClose_keeps {s₀ : State} {s : State} (h₀ : Keeps s₀ s) : KeepsOut s₀ (execSinkSwitchClose s) := by
  unfold execSinkSwitchClose
  repeat' (first | with_reducible assumption | with_reducible apply State.sinkClose_keeps | with_reducible apply KeepsOut.ofNext)

theorem execSinkSwitchOpen_keeps {s₀ : State} (reverse : Bool) {s : State} (h₀ : Keeps s₀ s) : KeepsOut s₀ (execSinkSwitchOpen reverse s) := by
  unfold execSinkSwitchOpen
  repeat' (first | with_reducible assumption | with_reducible apply State.sinkOpen_keeps | with_reducible apply KeepsOut.ofNext)

theorem execSinkDeadTimeExpiry_keeps {s₀ : State} {s : State} (h₀ : Keeps s₀ s) : KeepsOut s₀ (execSinkDeadTimeExpiry s) := by
  unfold execSinkDeadTimeExpiry
  repeat' (first | with_reducible assumption | with_reducible apply State.deadTimeEnd_keeps | with_reducible apply KeepsOut.ofNext)

theorem execLimitWrite_keeps {s₀ : State} (shunt : Bool) (w : Word) {s : State} (h₀ : Keeps s₀ s) : KeepsOut s₀ (execLimitWrite shunt w s) := by
  unfold execLimitWrite
  repeat' (first | with_reducible assumption | with_reducible apply State.limitWrite_keeps | with_reducible apply KeepsOut.ofNext)

theorem execEfuseLimitTrip_keeps {s₀ : State} (n : Fin 4) (ma : BitVec 12) {s : State} (h₀ : Keeps s₀ s) : KeepsOut s₀ (execEfuseLimitTrip n ma s) := by
  unfold execEfuseLimitTrip
  repeat' (first | with_reducible assumption | with_reducible apply State.efuseTrip_keeps | with_reducible apply KeepsOut.ofNext | split)

theorem execEfuseFastTrip_keeps {s₀ : State} (n : Fin 4) (ma : BitVec 12) {s : State} (h₀ : Keeps s₀ s) : KeepsOut s₀ (execEfuseFastTrip n ma s) := by
  unfold execEfuseFastTrip
  repeat' (first | with_reducible assumption | with_reducible apply State.efuseTrip_keeps | with_reducible apply KeepsOut.ofNext | split)

theorem execEfuseThermalTrip_keeps {s₀ : State} (n : Fin 4) {s : State} (h₀ : Keeps s₀ s) : KeepsOut s₀ (execEfuseThermalTrip n s) := by
  unfold execEfuseThermalTrip
  repeat' (first | with_reducible assumption | with_reducible apply State.efuseTrip_keeps | with_reducible apply KeepsOut.ofNext)

end Sys2Proof.Machine
end

