-- ==== Sys2Proof/Laws/KeepsUpd.lean ====
section
/-! SUPPORT. What the operations of Machine/Upd.lean keep: the queue, the canonical form of the stores, every burnt fuse. -/

namespace Sys2Proof.Machine

theorem State.setUpd_keeps {s₀ : State} {s : State} (f : Upd → Upd) (h₀ : Keeps s₀ s) : Keeps s₀ (State.setUpd s f) := by
  unfold State.setUpd
  repeat' ((with_reducible refine Keeps.upd ?_ rfl; first | with_reducible assumption))

theorem State.stampUpd_keeps {s₀ : State} {s : State} (k : Nat) (h₀ : Keeps s₀ s) : Keeps s₀ (State.stampUpd s k) := by
  unfold State.stampUpd
  repeat' ((with_reducible refine Keeps.upd ?_ rfl; first | with_reducible assumption | with_reducible apply State.setUpd_keeps))

theorem State.updEvent_keeps {s₀ : State} {s : State} (h₀ : Keeps s₀ s) : Keeps s₀ (State.updEvent s) := by
  unfold State.updEvent
  repeat' ((with_reducible refine Keeps.upd ?_ rfl; first | with_reducible assumption | with_reducible apply State.setUpd_keeps))

theorem State.pdSend_keeps {s₀ : State} {s : State} (m : PdMsg) (h₀ : Keeps s₀ s) : Keeps s₀ (State.pdSend s m) := by
  unfold State.pdSend
  repeat' ((with_reducible refine Keeps.upd ?_ rfl; first | with_reducible assumption | with_reducible (first | apply State.setUpd_keeps | apply State.stampUpd_keeps)))

theorem State.pdWait_keeps {s₀ : State} {s : State} (w : PdWait) (h₀ : Keeps s₀ s) : Keeps s₀ (State.pdWait s w) := by
  unfold State.pdWait
  repeat' ((with_reducible refine Keeps.upd ?_ rfl; first | with_reducible assumption | with_reducible (first | apply State.setUpd_keeps | apply State.stampUpd_keeps)))

theorem State.updCount_keeps {s₀ : State} {s : State} (i : Nat) (h₀ : Keeps s₀ s) : Keeps s₀ (State.updCount s i) := by
  unfold State.updCount
  repeat' (first | with_reducible assumption | with_reducible apply State.sat_keeps)

theorem State.updReject_keeps {s₀ : State} {s : State} (h₀ : Keeps s₀ s) : Keeps s₀ (State.updReject s) := by
  unfold State.updReject
  repeat' (first | with_reducible assumption | with_reducible apply State.wr_keeps)

theorem State.sinkShow_keeps {s₀ : State} {s : State} (h₀ : Keeps s₀ s) : Keeps s₀ (State.sinkShow s) := by
  unfold State.sinkShow
  repeat' (first | with_reducible assumption | with_reducible (first | apply State.sinkOpen_keeps | apply State.wr_keeps) | with_reducible refine Keeps.ofIte (fun _ => ?_) (fun _ => ?_))

theorem State.contractEnd_keeps {s₀ : State} {s : State} (h₀ : Keeps s₀ s) : Keeps s₀ (State.contractEnd s) := by
  unfold State.contractEnd
  repeat' (first | (with_reducible refine Keeps.upd ?_ rfl; first | with_reducible assumption | with_reducible (first | apply State.setUpd_keeps | apply State.wr_keeps)) | split)

theorem State.contractSet_keeps {s₀ : State} {s : State} (pos : Nat) (pps : Bool) (v : Nat) (i : Nat) (h₀ : Keeps s₀ s) : Keeps s₀ (State.contractSet s pos pps v i) := by
  unfold State.contractSet
  repeat' (first | with_reducible assumption | with_reducible (first | apply State.stampUpd_keeps | apply State.wr_keeps) | split)

theorem State.usbcRates_keeps {s₀ : State} {s : State} (h₀ : Keeps s₀ s) : Keeps s₀ (State.usbcRates s) := by
  unfold State.usbcRates
  repeat' (first | with_reducible assumption | with_reducible apply State.laneRate_keeps | with_reducible refine Keeps.eachOf ?_ _ _ (fun _ _ _ => ?_))

theorem State.trunkMoved_keeps {s₀ : State} {s : State} (h₀ : Keeps s₀ s) : Keeps s₀ (State.trunkMoved s) := by
  unfold State.trunkMoved
  repeat' (first | with_reducible assumption | with_reducible (first | apply State.backToBond_keeps | apply State.lanePower_keeps | apply State.latencyConfig_keeps) | with_reducible refine Keeps.ofIte (fun _ => ?_) (fun _ => ?_) | with_reducible refine Keeps.eachOf ?_ _ _ (fun _ _ _ => ?_))

theorem State.modeEnter_keeps {s₀ : State} {s : State} (mode : Nat) (pin : Nat) (mux : Bool) (h₀ : Keeps s₀ s) : Keeps s₀ (State.modeEnter s mode pin mux) := by
  unfold State.modeEnter
  repeat' (first | with_reducible assumption | with_reducible (first | apply State.trunkMoved_keeps | apply State.usbcRates_keeps | apply State.wr_keeps) | split)

theorem State.modeEnd_keeps {s₀ : State} {s : State} (h₀ : Keeps s₀ s) : Keeps s₀ (State.modeEnd s) := by
  unfold State.modeEnd
  repeat' (first | with_reducible refine Keeps.ofIte (fun _ => ?_) (fun _ => ?_) | (with_reducible refine Keeps.upd ?_ rfl; first | with_reducible assumption | with_reducible (first | apply State.hpdLow_keeps | apply State.setUpd_keeps | apply State.trunkMoved_keeps | apply State.usbcRates_keeps | apply State.wr_keeps)))

theorem State.modeLeave_keeps {s₀ : State} {s : State} (h₀ : Keeps s₀ s) : Keeps s₀ (State.modeLeave s) := by
  unfold State.modeLeave
  repeat' (first | with_reducible assumption | with_reducible (first | apply State.modeEnd_keeps | apply State.pdSend_keeps) | split)

theorem State.updCmdEnd_keeps {s₀ : State} {s : State} (c : PdCode) (h₀ : Keeps s₀ s) : Keeps s₀ (State.updCmdEnd s c) := by
  unfold State.updCmdEnd
  repeat' (first | with_reducible refine Keeps.ofIte (fun _ => ?_) (fun _ => ?_) | (with_reducible refine Keeps.upd ?_ rfl; first | with_reducible assumption | with_reducible (first | apply State.setUpd_keeps | apply State.wr_keeps)))

theorem State.capsSend_keeps {s₀ : State} {s : State} (h₀ : Keeps s₀ s) : Keeps s₀ (State.capsSend s) := by
  unfold State.capsSend
  repeat' (first | (with_reducible refine Keeps.upd ?_ rfl; first | with_reducible assumption | with_reducible (first | apply State.pdSend_keeps | apply State.pdWait_keeps | apply State.setUpd_keeps)) | split)

theorem State.requestSend_keeps {s₀ : State} {s : State} (r : PdReq) (h₀ : Keeps s₀ s) : Keeps s₀ (State.requestSend s r) := by
  unfold State.requestSend
  repeat' ((with_reducible refine Keeps.upd ?_ rfl; first | with_reducible assumption | with_reducible (first | apply State.pdSend_keeps | apply State.pdWait_keeps | apply State.setUpd_keeps)))

theorem State.cmdBegin_keeps {s₀ : State} {s : State} (k : Nat) (hard : State → State) (h₀ : Keeps s₀ s) (g_hard : ∀ x, Keeps s₀ x → Keeps s₀ (hard x)) : Keeps s₀ (State.cmdBegin s k hard) := by
  unfold State.cmdBegin
  repeat' (first | (with_reducible first | apply g_hard) | (with_reducible refine Keeps.upd ?_ rfl; first | with_reducible assumption | with_reducible (first | apply State.modeLeave_keeps | apply State.pdSend_keeps | apply State.pdWait_keeps | apply State.setUpd_keeps | apply State.updCmdEnd_keeps)) | split)

theorem State.portClear_keeps {s₀ : State} {s : State} (h₀ : Keeps s₀ s) : Keeps s₀ (State.portClear s) := by
  unfold State.portClear
  repeat' (first | with_reducible refine Keeps.ofIte (fun _ => ?_) (fun _ => ?_) | (with_reducible refine Keeps.upd ?_ rfl; first | with_reducible assumption | with_reducible (first | apply State.contractEnd_keeps | apply State.modeEnd_keeps | apply State.setUpd_keeps | apply State.wrFree_keeps | apply State.wr_keeps)))

theorem State.detachTo_keeps {s₀ : State} {s : State} (a : AttState) (h₀ : Keeps s₀ s) : Keeps s₀ (State.detachTo s a) := by
  unfold State.detachTo
  repeat' (first | with_reducible assumption | with_reducible (first | apply State.portClear_keeps | apply State.sinkShow_keeps | apply State.stampUpd_keeps | apply State.updCount_keeps | apply State.wr_keeps) | split)

theorem State.attachRoles_keeps {s₀ : State} {s : State} (h₀ : Keeps s₀ s) : Keeps s₀ (State.attachRoles s) := by
  unfold State.attachRoles
  repeat' ((with_reducible refine Keeps.upd ?_ rfl; first | with_reducible assumption | with_reducible (first | apply State.pdWait_keeps | apply State.setUpd_keeps | apply State.wr_keeps)))

theorem State.hardReset_keeps {s₀ : State} {s : State} (h₀ : Keeps s₀ s) : Keeps s₀ (State.hardReset s) := by
  unfold State.hardReset
  repeat' (first | with_reducible refine Keeps.ofIte (fun _ => ?_) (fun _ => ?_) | (with_reducible refine Keeps.upd ?_ rfl; first | with_reducible assumption | with_reducible (first | apply State.attachRoles_keeps | apply State.contractEnd_keeps | apply State.detachTo_keeps | apply State.fault_keeps | apply State.modeEnd_keeps | apply State.setUpd_keeps | apply State.sinkShow_keeps | apply State.updCount_keeps | apply State.wr_keeps)))

theorem State.hardResetSend_keeps {s₀ : State} {s : State} (h₀ : Keeps s₀ s) : Keeps s₀ (State.hardResetSend s) := by
  unfold State.hardResetSend
  repeat' (first | with_reducible assumption | with_reducible (first | apply State.hardReset_keeps | apply State.pdSend_keeps) | split)

theorem State.updSettle_keeps {s₀ : State} {s : State} (h₀ : Keeps s₀ s) : Keeps s₀ (State.updSettle s) := by
  unfold State.updSettle
  repeat' (first | with_reducible assumption | with_reducible (first | apply State.capsSend_keeps | apply State.cmdBegin_keeps | apply State.hardResetSend_keeps | apply State.requestSend_keeps) | split)

theorem State.exchangeEnd_keeps {s₀ : State} {s : State} (h₀ : Keeps s₀ s) : Keeps s₀ (State.exchangeEnd s) := by
  unfold State.exchangeEnd
  repeat' (first | with_reducible assumption | with_reducible (first | apply State.pdWait_keeps | apply State.updSettle_keeps))

theorem State.attachAs_keeps {s₀ : State} {s : State} (src : Bool) (h₀ : Keeps s₀ s) : Keeps s₀ (State.attachAs s src) := by
  unfold State.attachAs
  repeat' (first | (with_reducible refine Keeps.upd ?_ rfl; first | with_reducible assumption | with_reducible (first | apply State.capsSend_keeps | apply State.pdWait_keeps | apply State.setUpd_keeps | apply State.sinkShow_keeps | apply State.wr_keeps)) | split)

theorem State.termination_keeps {s₀ : State} {s : State} (cc2 : Bool) (rp : Bool) (cur : Nat) (h₀ : Keeps s₀ s) : Keeps s₀ (State.termination s cc2 rp cur) := by
  unfold State.termination
  repeat' (first | with_reducible refine Keeps.ofIte (fun _ => ?_) (fun _ => ?_) | (with_reducible refine Keeps.upd ?_ rfl; first | with_reducible assumption | with_reducible (first | apply State.setUpd_keeps | apply State.sinkShow_keeps | apply State.stampUpd_keeps | apply State.updSettle_keeps | apply State.wr_keeps)))

theorem State.debounced_keeps {s₀ : State} {s : State} (h₀ : Keeps s₀ s) : Keeps s₀ (State.debounced s) := by
  unfold State.debounced
  repeat' (first | with_reducible refine Keeps.ofIte (fun _ => ?_) (fun _ => ?_) | (with_reducible refine Keeps.upd ?_ rfl; first | with_reducible assumption | with_reducible (first | apply State.attachAs_keeps | apply State.setUpd_keeps | apply State.stampUpd_keeps | apply State.wr_keeps)) | split)

theorem State.tryEnd_keeps {s₀ : State} {s : State} (seen : Bool) (cur : Nat) (h₀ : Keeps s₀ s) : Keeps s₀ (State.tryEnd s seen cur) := by
  unfold State.tryEnd
  repeat' (first | (with_reducible refine Keeps.upd ?_ rfl; first | with_reducible assumption | with_reducible (first | apply State.attachAs_keeps | apply State.setUpd_keeps)) | split)

theorem State.toggle_keeps {s₀ : State} {s : State} (h₀ : Keeps s₀ s) : Keeps s₀ (State.toggle s) := by
  unfold State.toggle
  repeat' (first | (with_reducible refine Keeps.upd ?_ rfl; first | with_reducible assumption | with_reducible (first | apply State.setUpd_keeps | apply State.stampUpd_keeps)) | split)

theorem State.errrecEnd_keeps {s₀ : State} {s : State} (h₀ : Keeps s₀ s) : Keeps s₀ (State.errrecEnd s) := by
  unfold State.errrecEnd
  repeat' (first | with_reducible assumption | with_reducible apply State.wr_keeps | split)

theorem State.sinkDetach_keeps {s₀ : State} {s : State} (h₀ : Keeps s₀ s) : Keeps s₀ (State.sinkDetach s) := by
  unfold State.sinkDetach
  repeat' (first | with_reducible assumption | with_reducible apply State.detachTo_keeps | with_reducible refine Keeps.ofIte (fun _ => ?_) (fun _ => ?_))

theorem State.sourceDetach_keeps {s₀ : State} {s : State} (h₀ : Keeps s₀ s) : Keeps s₀ (State.sourceDetach s) := by
  unfold State.sourceDetach
  repeat' (first | with_reducible assumption | with_reducible apply State.detachTo_keeps | split)

theorem State.feedLeft_keeps {s₀ : State} {s : State} (h₀ : Keeps s₀ s) : Keeps s₀ (State.feedLeft s) := by
  unfold State.feedLeft
  repeat' (first | with_reducible assumption | with_reducible apply State.detachTo_keeps | split)

theorem State.pdBad_keeps {s₀ : State} {s : State} (h₀ : Keeps s₀ s) : Keeps s₀ (State.pdBad s) := by
  unfold State.pdBad
  repeat' (first | with_reducible assumption | with_reducible (first | apply State.updCount_keeps | apply State.updReject_keeps))

theorem State.pdSeen_keeps {s₀ : State} {s : State} (h₀ : Keeps s₀ s) : Keeps s₀ (State.pdSeen s) := by
  unfold State.pdSeen
  repeat' ((with_reducible refine Keeps.upd ?_ rfl; first | with_reducible assumption | with_reducible (first | apply State.setUpd_keeps | apply State.wr_keeps)))

theorem State.capsReceive_keeps {s₀ : State} {s : State} (objs : List Nat) (h₀ : Keeps s₀ s) : Keeps s₀ (State.capsReceive s objs) := by
  unfold State.capsReceive
  repeat' (first | (with_reducible refine Keeps.upd ?_ rfl; first | with_reducible assumption | with_reducible (first | apply State.pdBad_keeps | apply State.pdSeen_keeps | apply State.requestSend_keeps | apply State.setUpd_keeps)) | split)

theorem State.requestDue_keeps {s₀ : State} {s : State} (r : PdReq) (h₀ : Keeps s₀ s) : Keeps s₀ (State.requestDue s r) := by
  unfold State.requestDue
  repeat' (first | (with_reducible refine Keeps.upd ?_ rfl; first | with_reducible assumption | with_reducible (first | apply State.requestSend_keeps | apply State.setUpd_keeps)) | split)

theorem State.keepAlive_keeps {s₀ : State} {s : State} (h₀ : Keeps s₀ s) : Keeps s₀ (State.keepAlive s) := by
  unfold State.keepAlive
  repeat' (first | with_reducible assumption | with_reducible apply State.requestDue_keeps | split)

theorem State.waitRepeat_keeps {s₀ : State} {s : State} (h₀ : Keeps s₀ s) : Keeps s₀ (State.waitRepeat s) := by
  unfold State.waitRepeat
  repeat' (first | (with_reducible refine Keeps.upd ?_ rfl; first | with_reducible assumption | with_reducible (first | apply State.requestDue_keeps | apply State.setUpd_keeps)) | split)

theorem State.snkPpsWrite_keeps {s₀ : State} {s : State} (w : Nat) (h₀ : Keeps s₀ s) : Keeps s₀ (State.snkPpsWrite s w) := by
  unfold State.snkPpsWrite
  repeat' (first | with_reducible assumption | with_reducible (first | apply State.requestDue_keeps | apply State.updReject_keeps | apply State.writeReg_keeps) | with_reducible refine Keeps.ofIte (fun _ => ?_) (fun _ => ?_))

theorem State.requestReceive_keeps {s₀ : State} {s : State} (w : Nat) (h₀ : Keeps s₀ s) : Keeps s₀ (State.requestReceive s w) := by
  unfold State.requestReceive
  repeat' (first | (extract_lets +onlyGivenNames x; first | (refine (?_ : Keeps s₀ x → _) ?_; rotate_left; subst x; rotate_left; intro hx; clear_value x) | clear_value x) | (with_reducible refine Keeps.upd ?_ rfl; first | with_reducible assumption | with_reducible (first | apply State.contractSet_keeps | apply State.exchangeEnd_keeps | apply State.pdBad_keeps | apply State.pdSeen_keeps | apply State.pdSend_keeps | apply State.setUpd_keeps | apply State.updReject_keeps)) | split)

theorem State.sourceLimit_keeps {s₀ : State} {s : State} (h₀ : Keeps s₀ s) : Keeps s₀ (State.sourceLimit s) := by
  unfold State.sourceLimit
  repeat' (first | with_reducible assumption | with_reducible (first | apply State.fault_keeps | apply State.hardResetSend_keeps | apply State.updCount_keeps | apply State.wr_keeps) | split)

theorem State.prSwapBegin_keeps {s₀ : State} {s : State} (h₀ : Keeps s₀ s) : Keeps s₀ (State.prSwapBegin s) := by
  unfold State.prSwapBegin
  repeat' (first | (with_reducible refine Keeps.upd ?_ rfl; first | with_reducible assumption | with_reducible (first | apply State.contractEnd_keeps | apply State.pdWait_keeps | apply State.setUpd_keeps | apply State.sinkShow_keeps)) | split)

theorem State.drSwapRun_keeps {s₀ : State} {s : State} (h₀ : Keeps s₀ s) : Keeps s₀ (State.drSwapRun s) := by
  unfold State.drSwapRun
  repeat' (first | with_reducible assumption | with_reducible (first | apply State.exchangeEnd_keeps | apply State.modeLeave_keeps | apply State.updCmdEnd_keeps | apply State.wr_keeps))

theorem State.swapMeets_keeps {s₀ : State} {s : State} (own : PdWait) (h₀ : Keeps s₀ s) : KeepsOpt s₀ (State.swapMeets s own) := by
  unfold State.swapMeets
  repeat' (first | with_reducible assumption | with_reducible (first | apply State.pdWait_keeps | apply State.updCmdEnd_keeps | apply State.updCount_keeps) | with_reducible apply KeepsOpt.ofSome | exact KeepsOpt.ofNone | split)

theorem State.prSwapReceive_keeps {s₀ : State} {s : State} (h₀ : Keeps s₀ s) : Keeps s₀ (State.prSwapReceive s) := by
  unfold State.prSwapReceive
  repeat' (first | with_reducible assumption | with_reducible (first | apply State.exchangeEnd_keeps | apply State.pdSeen_keeps | apply State.pdSend_keeps | apply State.prSwapBegin_keeps | apply State.swapMeets_keeps) | (first | exact KeepsOpt.ofNone | with_reducible apply KeepsOpt.ofSome | with_reducible refine Keeps.ofGetD ?_ ?_ | with_reducible refine Keeps.ofOpt (by assumption) ?_ | with_reducible refine KeepsOpt.ofIte (fun _ => ?_) (fun _ => ?_)) | split)

theorem State.drSwapReceive_keeps {s₀ : State} {s : State} (h₀ : Keeps s₀ s) : Keeps s₀ (State.drSwapReceive s) := by
  unfold State.drSwapReceive
  repeat' (first | with_reducible assumption | with_reducible (first | apply State.drSwapRun_keeps | apply State.exchangeEnd_keeps | apply State.modeLeave_keeps | apply State.pdSeen_keeps | apply State.pdSend_keeps | apply State.swapMeets_keeps) | (first | exact KeepsOpt.ofNone | with_reducible apply KeepsOpt.ofSome | with_reducible refine Keeps.ofGetD ?_ ?_ | with_reducible refine Keeps.ofOpt (by assumption) ?_ | with_reducible refine KeepsOpt.ofIte (fun _ => ?_) (fun _ => ?_)) | split)

theorem State.psRdyReceive_keeps {s₀ : State} {s : State} (h₀ : Keeps s₀ s) : Keeps s₀ (State.psRdyReceive s) := by
  unfold State.psRdyReceive
  repeat' (first | (with_reducible refine Keeps.upd ?_ rfl; first | with_reducible assumption | with_reducible (first | apply State.capsSend_keeps | apply State.contractSet_keeps | apply State.exchangeEnd_keeps | apply State.pdSend_keeps | apply State.pdWait_keeps | apply State.setUpd_keeps | apply State.sinkShow_keeps | apply State.updCmdEnd_keeps | apply State.wr_keeps)) | split)

theorem State.softResetSend_keeps {s₀ : State} {s : State} (h₀ : Keeps s₀ s) : Keeps s₀ (State.softResetSend s) := by
  unfold State.softResetSend
  repeat' (first | with_reducible assumption | with_reducible (first | apply State.hardResetSend_keeps | apply State.pdSend_keeps | apply State.pdWait_keeps | apply State.updCmdEnd_keeps | apply State.updCount_keeps) | split)

theorem State.softStart_keeps {s₀ : State} {s : State} (h₀ : Keeps s₀ s) : Keeps s₀ (State.softStart s) := by
  unfold State.softStart
  repeat' (first | with_reducible refine Keeps.ofIte (fun _ => ?_) (fun _ => ?_) | (with_reducible refine Keeps.upd ?_ rfl; first | with_reducible assumption | with_reducible (first | apply State.capsSend_keeps | apply State.pdWait_keeps | apply State.setUpd_keeps)))

theorem State.softResetReceive_keeps {s₀ : State} {s : State} (h₀ : Keeps s₀ s) : Keeps s₀ (State.softResetReceive s) := by
  unfold State.softResetReceive
  repeat' (first | (with_reducible refine Keeps.upd ?_ rfl; first | with_reducible assumption | with_reducible (first | apply State.pdSeen_keeps | apply State.pdSend_keeps | apply State.setUpd_keeps | apply State.softStart_keeps | apply State.updCount_keeps | apply State.wrFree_keeps | apply State.wr_keeps)) | split)

theorem State.answerReceive_keeps {s₀ : State} {s : State} (k : Nat) (h₀ : Keeps s₀ s) : Keeps s₀ (State.answerReceive s k) := by
  unfold State.answerReceive
  repeat' (first | (with_reducible refine Keeps.upd ?_ rfl; first | with_reducible assumption | with_reducible (first | apply State.drSwapRun_keeps | apply State.exchangeEnd_keeps | apply State.pdSeen_keeps | apply State.pdWait_keeps | apply State.prSwapBegin_keeps | apply State.requestSend_keeps | apply State.setUpd_keeps | apply State.softStart_keeps | apply State.stampUpd_keeps | apply State.updCmdEnd_keeps | apply State.updReject_keeps)) | split)

theorem State.unsupported_keeps {s₀ : State} {s : State} (vconn : Bool) (h₀ : Keeps s₀ s) : Keeps s₀ (State.unsupported s vconn) := by
  unfold State.unsupported
  repeat' (first | with_reducible assumption | with_reducible (first | apply State.pdSeen_keeps | apply State.pdSend_keeps) | split)

theorem State.vdmAbandon_keeps {s₀ : State} {s : State} (h₀ : Keeps s₀ s) : Keeps s₀ (State.vdmAbandon s) := by
  unfold State.vdmAbandon
  repeat' ((with_reducible refine Keeps.upd ?_ rfl; first | with_reducible assumption | with_reducible (first | apply State.setUpd_keeps | apply State.updCount_keeps | apply State.updSettle_keeps)))

theorem State.pdEnds_keeps {s₀ : State} {s : State} (k : Nat) (h₀ : Keeps s₀ s) : Keeps s₀ (State.pdEnds s k) := by
  unfold State.pdEnds
  repeat' (first | with_reducible refine Keeps.ofIte (fun _ => ?_) (fun _ => ?_) | (with_reducible refine Keeps.upd ?_ rfl; first | with_reducible assumption | with_reducible (first | apply State.capsSend_keeps | apply State.exchangeEnd_keeps | apply State.hardResetSend_keeps | apply State.modeLeave_keeps | apply State.pdWait_keeps | apply State.setUpd_keeps | apply State.sinkShow_keeps | apply State.softResetSend_keeps | apply State.stampUpd_keeps | apply State.updCmdEnd_keeps | apply State.updCount_keeps | apply State.vdmAbandon_keeps | apply State.wr_keeps)) | split)

theorem State.pdExpiry_keeps {s₀ : State} {s : State} (k : Nat) (h₀ : Keeps s₀ s) : Keeps s₀ (State.pdExpiry s k) := by
  unfold State.pdExpiry
  repeat' (first | with_reducible assumption | with_reducible apply State.pdEnds_keeps | split)

theorem State.vbusSample_keeps {s₀ : State} {s : State} (v : Nat) (h₀ : Keeps s₀ s) : Keeps s₀ (State.vbusSample s v) := by
  unfold State.vbusSample
  repeat' (first | (with_reducible refine Keeps.upd ?_ rfl; first | with_reducible assumption | with_reducible (first | apply State.pdSend_keeps | apply State.pdWait_keeps | apply State.setUpd_keeps | apply State.sinkShow_keeps | apply State.wr_keeps)) | split)

theorem State.updCmdWrite_keeps {s₀ : State} {s : State} (w : Nat) (h₀ : Keeps s₀ s) : Keeps s₀ (State.updCmdWrite s w) := by
  unfold State.updCmdWrite
  repeat' (first | with_reducible refine Keeps.ofIte (fun _ => ?_) (fun _ => ?_) | (with_reducible refine Keeps.upd ?_ rfl; first | with_reducible assumption | with_reducible (first | apply State.setUpd_keeps | apply State.stampUpd_keeps | apply State.updReject_keeps | apply State.updSettle_keeps | apply State.wr_keeps)) | split)

theorem State.updCtrlWrite_keeps {s₀ : State} {s : State} (w : Nat) (h₀ : Keeps s₀ s) : Keeps s₀ (State.updCtrlWrite s w) := by
  unfold State.updCtrlWrite
  repeat' (first | with_reducible assumption | with_reducible (first | apply State.detachTo_keeps | apply State.wr_keeps | apply State.writeReg_keeps) | with_reducible refine Keeps.ofIte (fun _ => ?_) (fun _ => ?_))

theorem State.snkCfgWrite_keeps {s₀ : State} {s : State} (w : Nat) (h₀ : Keeps s₀ s) : Keeps s₀ (State.snkCfgWrite s w) := by
  unfold State.snkCfgWrite
  repeat' (first | with_reducible assumption | with_reducible (first | apply State.sinkShow_keeps | apply State.updReject_keeps | apply State.writeReg_keeps) | with_reducible refine Keeps.ofIte (fun _ => ?_) (fun _ => ?_))

theorem State.srcCfgWrite_keeps {s₀ : State} {s : State} (w : Nat) (h₀ : Keeps s₀ s) : Keeps s₀ (State.srcCfgWrite s w) := by
  unfold State.srcCfgWrite
  repeat' (first | with_reducible refine Keeps.ofIte (fun _ => ?_) (fun _ => ?_) | (with_reducible refine Keeps.upd ?_ rfl; first | with_reducible assumption | with_reducible (first | apply State.setUpd_keeps | apply State.updReject_keeps | apply State.updSettle_keeps | apply State.writeReg_keeps)))

theorem State.updAltWrite_keeps {s₀ : State} {s : State} (w : Nat) (h₀ : Keeps s₀ s) : Keeps s₀ (State.updAltWrite s w) := by
  unfold State.updAltWrite
  repeat' (first | with_reducible assumption | with_reducible (first | apply State.modeLeave_keeps | apply State.writeReg_keeps) | with_reducible refine Keeps.ofIte (fun _ => ?_) (fun _ => ?_))

theorem State.updWrite_keeps {s₀ : State} {s : State} (off : Nat) (w : Nat) (h₀ : Keeps s₀ s) : KeepsOpt s₀ (State.updWrite s off w) := by
  unfold State.updWrite
  repeat' (first | with_reducible assumption | with_reducible (first | apply State.snkCfgWrite_keeps | apply State.snkPpsWrite_keeps | apply State.srcCfgWrite_keeps | apply State.updAltWrite_keeps | apply State.updCmdWrite_keeps | apply State.updCtrlWrite_keeps | apply State.updEvent_keeps | apply State.wr_keeps) | with_reducible apply KeepsOpt.ofSome | exact KeepsOpt.ofNone | with_reducible refine Keeps.eachOf ?_ _ _ (fun _ _ _ => ?_) | split)

theorem State.discovered_keeps {s₀ : State} {s : State} (vdo : Option Word) (dpSink : Bool) (pinC : Bool) (pinD : Bool) (h₀ : Keeps s₀ s) : Keeps s₀ (State.discovered s vdo dpSink pinC pinD) := by
  unfold State.discovered
  repeat' (first | with_reducible refine Keeps.ofIte (fun _ => ?_) (fun _ => ?_) | (with_reducible refine Keeps.upd ?_ rfl; first | with_reducible assumption | with_reducible (first | apply State.pdSend_keeps | apply State.setUpd_keeps | apply State.stampUpd_keeps)))

theorem State.enterRefuse_keeps {s₀ : State} {s : State} (ref : Bool) (h₀ : Keeps s₀ s) : Keeps s₀ (State.enterRefuse s ref) := by
  unfold State.enterRefuse
  repeat' (first | with_reducible assumption | with_reducible (first | apply State.pdSend_keeps | apply State.updCount_keeps | apply State.wr_keeps) | split)

theorem State.enterReceive_keeps {s₀ : State} {s : State} (svid : Nat) (h₀ : Keeps s₀ s) : Keeps s₀ (State.enterReceive s svid) := by
  unfold State.enterReceive
  repeat' (first | with_reducible assumption | with_reducible (first | apply State.enterRefuse_keeps | apply State.modeEnter_keeps | apply State.pdSeen_keeps | apply State.pdSend_keeps) | with_reducible refine Keeps.ofIte (fun _ => ?_) (fun _ => ?_))

theorem State.enterAnswer_keeps {s₀ : State} {s : State} (ack : Bool) (h₀ : Keeps s₀ s) : Keeps s₀ (State.enterAnswer s ack) := by
  unfold State.enterAnswer
  repeat' (first | (with_reducible refine Keeps.upd ?_ rfl; first | with_reducible assumption | with_reducible (first | apply State.modeEnter_keeps | apply State.modeLeave_keeps | apply State.pdSend_keeps | apply State.setUpd_keeps | apply State.stampUpd_keeps | apply State.updSettle_keeps | apply State.vdmAbandon_keeps | apply State.wr_keeps)) | split)

theorem State.exitReceive_keeps {s₀ : State} {s : State} (h₀ : Keeps s₀ s) : Keeps s₀ (State.exitReceive s) := by
  unfold State.exitReceive
  repeat' (first | with_reducible assumption | with_reducible (first | apply State.modeEnd_keeps | apply State.pdSeen_keeps | apply State.pdSend_keeps) | split)

theorem State.dpAttention_keeps {s₀ : State} {s : State} (hpd : Bool) (irq : Bool) (h₀ : Keeps s₀ s) : Keeps s₀ (State.dpAttention s hpd irq) := by
  unfold State.dpAttention
  repeat' (first | with_reducible assumption | with_reducible (first | apply State.hpdIrq_keeps | apply State.hpdLow_keeps | apply State.wr_keeps) | split)

theorem State.discoverReceive_keeps {s₀ : State} {s : State} (k : Nat) (h₀ : Keeps s₀ s) : Keeps s₀ (State.discoverReceive s k) := by
  unfold State.discoverReceive
  repeat' (first | with_reducible assumption | with_reducible (first | apply State.pdSeen_keeps | apply State.pdSend_keeps) | with_reducible refine Keeps.ofIte (fun _ => ?_) (fun _ => ?_))

theorem State.updDormant_keeps {s₀ : State} {s : State} (h₀ : Keeps s₀ s) : Keeps s₀ (State.updDormant s) := by
  unfold State.updDormant
  repeat' (first | with_reducible assumption | with_reducible (first | apply State.modeLeave_keeps | apply State.updEvent_keeps) | split)

theorem execLimitRecompute_keeps {s₀ : State} (va : BitVec 16) (vb : BitVec 16) (vc : BitVec 16) (vout : BitVec 16) (vbus : BitVec 12) (raw : List (BitVec 14)) (held : Bool) {s : State} (h₀ : Keeps s₀ s) : KeepsOut s₀ (execLimitRecompute va vb vc vout vbus raw held s) := by
  unfold execLimitRecompute
  repeat' (first | with_reducible assumption | with_reducible (first | apply State.limitStep_keeps | apply State.vbusSample_keeps) | with_reducible apply KeepsOut.ofNext)

theorem execCcTerminationDetect_keeps {s₀ : State} (cc2 : Bool) (rp : Bool) (cur : Fin 4) {s : State} (h₀ : Keeps s₀ s) : KeepsOut s₀ (execCcTerminationDetect cc2 rp cur s) := by
  unfold execCcTerminationDetect
  repeat' (first | with_reducible assumption | with_reducible (first | apply State.termination_keeps | apply State.updEvent_keeps) | with_reducible apply KeepsOut.ofNext)

theorem execAttachDebounce_keeps {s₀ : State} {s : State} (h₀ : Keeps s₀ s) : KeepsOut s₀ (execAttachDebounce s) := by
  unfold execAttachDebounce
  repeat' (first | with_reducible assumption | with_reducible (first | apply State.debounced_keeps | apply State.updEvent_keeps) | with_reducible apply KeepsOut.ofNext)

theorem execTryExpiry_keeps {s₀ : State} (seen : Bool) (cur : Fin 4) {s : State} (h₀ : Keeps s₀ s) : KeepsOut s₀ (execTryExpiry seen cur s) := by
  unfold execTryExpiry
  repeat' (first | with_reducible assumption | with_reducible (first | apply State.tryEnd_keeps | apply State.updEvent_keeps) | with_reducible apply KeepsOut.ofNext)

theorem execDrpToggle_keeps {s₀ : State} {s : State} (h₀ : Keeps s₀ s) : KeepsOut s₀ (execDrpToggle s) := by
  unfold execDrpToggle
  repeat' (first | with_reducible assumption | with_reducible apply State.toggle_keeps | with_reducible apply KeepsOut.ofNext)

theorem execSinkDetach_keeps {s₀ : State} {s : State} (h₀ : Keeps s₀ s) : KeepsOut s₀ (execSinkDetach s) := by
  unfold execSinkDetach
  repeat' (first | with_reducible assumption | with_reducible (first | apply State.sinkDetach_keeps | apply State.updEvent_keeps) | with_reducible apply KeepsOut.ofNext)

theorem execSourceDetach_keeps {s₀ : State} {s : State} (h₀ : Keeps s₀ s) : KeepsOut s₀ (execSourceDetach s) := by
  unfold execSourceDetach
  repeat' (first | with_reducible assumption | with_reducible (first | apply State.sourceDetach_keeps | apply State.updEvent_keeps) | with_reducible apply KeepsOut.ofNext)

theorem execErrrecExpiry_keeps {s₀ : State} {s : State} (h₀ : Keeps s₀ s) : KeepsOut s₀ (execErrrecExpiry s) := by
  unfold execErrrecExpiry
  repeat' (first | with_reducible assumption | with_reducible apply State.errrecEnd_keeps | with_reducible apply KeepsOut.ofNext)

theorem execFeedPathLeaveOn_keeps {s₀ : State} {s : State} (h₀ : Keeps s₀ s) : KeepsOut s₀ (execFeedPathLeaveOn s) := by
  unfold execFeedPathLeaveOn
  repeat' (first | with_reducible assumption | with_reducible (first | apply State.feedLeft_keeps | apply State.updEvent_keeps) | with_reducible apply KeepsOut.ofNext)

theorem execSourceCapabilitiesReceive_keeps {s₀ : State} (objs : List Word) {s : State} (h₀ : Keeps s₀ s) : KeepsOut s₀ (execSourceCapabilitiesReceive objs s) := by
  unfold execSourceCapabilitiesReceive
  repeat' (first | with_reducible assumption | with_reducible (first | apply State.capsReceive_keeps | apply State.updEvent_keeps) | with_reducible apply KeepsOut.ofNext)

theorem execRequestReceive_keeps {s₀ : State} (w : Word) {s : State} (h₀ : Keeps s₀ s) : KeepsOut s₀ (execRequestReceive w s) := by
  unfold execRequestReceive
  repeat' (first | with_reducible assumption | with_reducible (first | apply State.requestReceive_keeps | apply State.updEvent_keeps) | with_reducible apply KeepsOut.ofNext)

theorem execPsRdyReceive_keeps {s₀ : State} {s : State} (h₀ : Keeps s₀ s) : KeepsOut s₀ (execPsRdyReceive s) := by
  unfold execPsRdyReceive
  repeat' (first | with_reducible assumption | with_reducible (first | apply State.psRdyReceive_keeps | apply State.updEvent_keeps) | with_reducible apply KeepsOut.ofNext)

theorem execPdTimerExpiry_keeps {s₀ : State} (k : Fin 12) {s : State} (h₀ : Keeps s₀ s) : KeepsOut s₀ (execPdTimerExpiry k s) := by
  unfold execPdTimerExpiry
  repeat' (first | with_reducible assumption | with_reducible (first | apply State.pdExpiry_keeps | apply State.updEvent_keeps) | with_reducible apply KeepsOut.ofNext | split)

theorem execPpsKeepalive_keeps {s₀ : State} {s : State} (h₀ : Keeps s₀ s) : KeepsOut s₀ (execPpsKeepalive s) := by
  unfold execPpsKeepalive
  repeat' (first | with_reducible assumption | with_reducible (first | apply State.keepAlive_keeps | apply State.updEvent_keeps) | with_reducible apply KeepsOut.ofNext)

theorem execSourceCurrentLimitTrip_keeps {s₀ : State} {s : State} (h₀ : Keeps s₀ s) : KeepsOut s₀ (execSourceCurrentLimitTrip s) := by
  unfold execSourceCurrentLimitTrip
  repeat' (first | with_reducible assumption | with_reducible (first | apply State.sourceLimit_keeps | apply State.updEvent_keeps) | with_reducible apply KeepsOut.ofNext)

theorem execUpdPrswap_keeps {s₀ : State} (w : Word) {s : State} (h₀ : Keeps s₀ s) : KeepsOut s₀ (execUpdPrswap w s) := by
  unfold execUpdPrswap
  repeat' (first | with_reducible assumption | with_reducible (first | apply State.updCmdWrite_keeps | apply State.updEvent_keeps) | with_reducible apply KeepsOut.ofNext)

theorem execUpdDrswap_keeps {s₀ : State} (w : Word) {s : State} (h₀ : Keeps s₀ s) : KeepsOut s₀ (execUpdDrswap w s) := by
  unfold execUpdDrswap
  repeat' (first | with_reducible assumption | with_reducible (first | apply State.updCmdWrite_keeps | apply State.updEvent_keeps) | with_reducible apply KeepsOut.ofNext)

theorem execUpdHreset_keeps {s₀ : State} (w : Word) {s : State} (h₀ : Keeps s₀ s) : KeepsOut s₀ (execUpdHreset w s) := by
  unfold execUpdHreset
  repeat' (first | with_reducible assumption | with_reducible (first | apply State.updCmdWrite_keeps | apply State.updEvent_keeps) | with_reducible apply KeepsOut.ofNext)

theorem execUpdExitalt_keeps {s₀ : State} (w : Word) {s : State} (h₀ : Keeps s₀ s) : KeepsOut s₀ (execUpdExitalt w s) := by
  unfold execUpdExitalt
  repeat' (first | with_reducible assumption | with_reducible (first | apply State.updCmdWrite_keeps | apply State.updEvent_keeps) | with_reducible apply KeepsOut.ofNext)

theorem execPrSwapReceive_keeps {s₀ : State} {s : State} (h₀ : Keeps s₀ s) : KeepsOut s₀ (execPrSwapReceive s) := by
  unfold execPrSwapReceive
  repeat' (first | with_reducible assumption | with_reducible (first | apply State.prSwapReceive_keeps | apply State.updEvent_keeps) | with_reducible apply KeepsOut.ofNext)

theorem execDrSwapReceive_keeps {s₀ : State} {s : State} (h₀ : Keeps s₀ s) : KeepsOut s₀ (execDrSwapReceive s) := by
  unfold execDrSwapReceive
  repeat' (first | with_reducible assumption | with_reducible (first | apply State.drSwapReceive_keeps | apply State.updEvent_keeps) | with_reducible apply KeepsOut.ofNext)

theorem execHardResetReceive_keeps {s₀ : State} {s : State} (h₀ : Keeps s₀ s) : KeepsOut s₀ (execHardResetReceive s) := by
  unfold execHardResetReceive
  repeat' (first | with_reducible assumption | with_reducible (first | apply State.hardReset_keeps | apply State.updEvent_keeps) | with_reducible apply KeepsOut.ofNext | split)

theorem execSoftResetReceive_keeps {s₀ : State} {s : State} (h₀ : Keeps s₀ s) : KeepsOut s₀ (execSoftResetReceive s) := by
  unfold execSoftResetReceive
  repeat' (first | with_reducible assumption | with_reducible (first | apply State.softResetReceive_keeps | apply State.updEvent_keeps) | with_reducible apply KeepsOut.ofNext)

theorem execUnsupportedMessageReceive_keeps {s₀ : State} (vconn : Bool) {s : State} (h₀ : Keeps s₀ s) : KeepsOut s₀ (execUnsupportedMessageReceive vconn s) := by
  unfold execUnsupportedMessageReceive
  repeat' (first | with_reducible assumption | with_reducible (first | apply State.unsupported_keeps | apply State.updEvent_keeps) | with_reducible apply KeepsOut.ofNext)

theorem execAltModeDiscovery_keeps {s₀ : State} (vdo : Option Word) (dpSink : Bool) (pinC : Bool) (pinD : Bool) {s : State} (h₀ : Keeps s₀ s) : KeepsOut s₀ (execAltModeDiscovery vdo dpSink pinC pinD s) := by
  unfold execAltModeDiscovery
  repeat' (first | with_reducible assumption | with_reducible (first | apply State.discovered_keeps | apply State.updEvent_keeps) | with_reducible apply KeepsOut.ofNext)

theorem execEnterModeReceive_keeps {s₀ : State} (svid : BitVec 16) {s : State} (h₀ : Keeps s₀ s) : KeepsOut s₀ (execEnterModeReceive svid s) := by
  unfold execEnterModeReceive
  repeat' (first | with_reducible assumption | with_reducible (first | apply State.enterReceive_keeps | apply State.updEvent_keeps) | with_reducible apply KeepsOut.ofNext)

theorem execEnterModeAck_keeps {s₀ : State} (ack : Bool) {s : State} (h₀ : Keeps s₀ s) : KeepsOut s₀ (execEnterModeAck ack s) := by
  unfold execEnterModeAck
  repeat' (first | with_reducible assumption | with_reducible (first | apply State.enterAnswer_keeps | apply State.updEvent_keeps) | with_reducible apply KeepsOut.ofNext)

theorem execExitModeReceive_keeps {s₀ : State} {s : State} (h₀ : Keeps s₀ s) : KeepsOut s₀ (execExitModeReceive s) := by
  unfold execExitModeReceive
  repeat' (first | with_reducible assumption | with_reducible (first | apply State.exitReceive_keeps | apply State.updEvent_keeps) | with_reducible apply KeepsOut.ofNext)

theorem execDpAttention_keeps {s₀ : State} (hpd : Bool) (irq : Bool) {s : State} (h₀ : Keeps s₀ s) : KeepsOut s₀ (execDpAttention hpd irq s) := by
  unfold execDpAttention
  repeat' (first | with_reducible assumption | with_reducible (first | apply State.dpAttention_keeps | apply State.updEvent_keeps) | with_reducible apply KeepsOut.ofNext)

theorem execAcceptRejectWaitReceive_keeps {s₀ : State} (k : Fin 4) {s : State} (h₀ : Keeps s₀ s) : KeepsOut s₀ (execAcceptRejectWaitReceive k s) := by
  unfold execAcceptRejectWaitReceive
  repeat' (first | with_reducible assumption | with_reducible (first | apply State.answerReceive_keeps | apply State.updEvent_keeps) | with_reducible apply KeepsOut.ofNext)

theorem execWaitRequestRepeat_keeps {s₀ : State} {s : State} (h₀ : Keeps s₀ s) : KeepsOut s₀ (execWaitRequestRepeat s) := by
  unfold execWaitRequestRepeat
  repeat' (first | with_reducible assumption | with_reducible (first | apply State.updEvent_keeps | apply State.waitRepeat_keeps) | with_reducible apply KeepsOut.ofNext)

theorem execDiscoverRequestReceive_keeps {s₀ : State} (k : Fin 3) {s : State} (h₀ : Keeps s₀ s) : KeepsOut s₀ (execDiscoverRequestReceive k s) := by
  unfold execDiscoverRequestReceive
  repeat' (first | with_reducible assumption | with_reducible (first | apply State.discoverReceive_keeps | apply State.updEvent_keeps) | with_reducible apply KeepsOut.ofNext)

end Sys2Proof.Machine
end

