-- ==== Sys2Proof/Laws/KeepsResets.lean ====
section
/-! SUPPORT. What the operations of Machine/Resets.lean keep: the queue, the canonical form of the stores, every burnt fuse. -/

namespace Sys2Proof.Machine

theorem State.coreClear_keeps {s₀ s : State} (h : Keeps s₀ s) : Keeps s₀ s.coreClear :=
  ⟨h.1, fun g => let x := h.2.1 g; ⟨Tab.sorted_filter _ x.1, x.2.1, rfl, rfl, rfl, x.2.2.2.2.2⟩, h.2.2⟩


theorem State.chipReset_keeps {s₀ : State} {s : State} (cause : Field) (h₀ : Keeps s₀ s) : Keeps s₀ (State.chipReset s cause) := by
  unfold State.chipReset
  repeat' (first | (extract_lets +onlyGivenNames x; first | (refine (?_ : Keeps s₀ x → _) ?_; rotate_left; subst x; rotate_left; intro hx; clear_value x) | clear_value x) | with_reducible refine Keeps.eachOf ?_ _ _ (fun _ _ _ => ?_) | (with_reducible refine Keeps.upd ?_ rfl; first | with_reducible assumption | with_reducible (first | apply State.coreClear_keeps | apply State.efuse_keeps | apply State.occur_keeps | apply State.wr_keeps)) | split)

theorem State.powerOnReset_keeps {s₀ s : State} (h : Keeps s₀ s) : Keeps s₀ s.powerOnReset :=
  ⟨h.1, fun g => let x := h.2.1 g; ⟨rfl, x.2.1, rfl, rfl, rfl, x.2.2.2.2.2⟩, h.2.2⟩


theorem State.resetRelease_keeps {s₀ : State} {s : State} (compat : Bool) (pcieRc : Bool) (dbgEn : Bool) (h₀ : Keeps s₀ s) : Keeps s₀ (State.resetRelease s compat pcieRc dbgEn) := by
  unfold State.resetRelease
  repeat' (first | (with_reducible refine Keeps.upd ?_ rfl; first | with_reducible assumption | with_reducible (first | apply State.kl2Show_keeps | apply State.wr_keeps)) | split)

theorem State.mgmtReset_keeps {s₀ : State} {s : State} (cause : Field) (h₀ : Keeps s₀ s) : Keeps s₀ (State.mgmtReset s cause) := by
  unfold State.mgmtReset
  repeat' (first | (extract_lets +onlyGivenNames x; first | (refine (?_ : Keeps s₀ x → _) ?_; rotate_left; subst x; rotate_left; intro hx; clear_value x) | (have z : Keys := x; clear z; subst x) | clear_value x) | with_reducible refine Keeps.eachOf ?_ _ _ (fun _ _ _ => ?_) | with_reducible refine Keeps.setSram ?_ (fun _ => rfl) | (with_reducible refine Keeps.upd ?_ rfl; first | with_reducible assumption | with_reducible (first | apply State.causeOff_keeps | apply State.causeOn_keeps | apply State.disarm_keeps | apply State.sat_keeps | apply State.wr_keeps) | (with_reducible refine Keeps.upd ?_ rfl; first | with_reducible assumption | with_reducible (first | apply State.causeOff_keeps | apply State.causeOn_keeps | apply State.disarm_keeps | apply State.sat_keeps | apply State.wr_keeps))) | split)

theorem State.genRstWrite_keeps {s₀ : State} {s : State} (w : Nat) (h₀ : Keeps s₀ s) : Keeps s₀ (State.genRstWrite s w) := by
  unfold State.genRstWrite
  repeat' (first | with_reducible assumption | with_reducible (first | apply State.chipReset_keeps | apply State.mgmtReset_keeps) | split)

theorem State.wdtWrite_keeps {s₀ : State} {s : State} (w : Nat) (h₀ : Keeps s₀ s) : Keeps s₀ (State.wdtWrite s w) := by
  unfold State.wdtWrite
  repeat' (first | with_reducible refine Keeps.ofIte (fun _ => ?_) (fun _ => ?_) | (with_reducible refine Keeps.upd ?_ rfl; first | with_reducible assumption | with_reducible apply State.wr_keeps) | split)

theorem State.wdtExpire_keeps {s₀ : State} {s : State} (h₀ : Keeps s₀ s) : Keeps s₀ (State.wdtExpire s) := by
  unfold State.wdtExpire
  repeat' (first | with_reducible assumption | with_reducible apply State.mgmtReset_keeps | split)

theorem State.genWrite_keeps {s₀ : State} {s : State} (off : Nat) (w : Nat) (h₀ : Keeps s₀ s) : KeepsOpt s₀ (State.genWrite s off w) := by
  unfold State.genWrite
  repeat' (first | with_reducible assumption | with_reducible (first | apply State.genRstWrite_keeps | apply State.wdtWrite_keeps) | with_reducible apply KeepsOpt.ofSome | exact KeepsOpt.ofNone | split)

theorem execPowerOnReset_keeps {s₀ : State} {s : State} (h₀ : Keeps s₀ s) : KeepsOut s₀ (execPowerOnReset s) := by
  unfold execPowerOnReset
  repeat' (first | with_reducible assumption | with_reducible apply State.powerOnReset_keeps | with_reducible apply KeepsOut.ofNext)

theorem execPorstAssert_keeps {s₀ : State} {s : State} (h₀ : Keeps s₀ s) : KeepsOut s₀ (execPorstAssert s) := by
  unfold execPorstAssert
  repeat' (first | with_reducible assumption | with_reducible apply State.chipReset_keeps | with_reducible apply KeepsOut.ofNext)

theorem execChipReset_keeps {s₀ : State} (k : Fin 3) {s : State} (h₀ : Keeps s₀ s) : KeepsOut s₀ (execChipReset k s) := by
  unfold execChipReset
  repeat' (first | with_reducible apply KeepsOut.ofNext | (with_reducible refine Keeps.upd ?_ rfl; first | with_reducible assumption | with_reducible apply State.chipReset_keeps))

theorem execChipResetRelease_keeps {s₀ : State} (compat : BitVec 3) (pcieRc : BitVec 3) (dbgEn : BitVec 3) {s : State} (h₀ : Keeps s₀ s) : KeepsOut s₀ (execChipResetRelease compat pcieRc dbgEn s) := by
  unfold execChipResetRelease
  repeat' (first | with_reducible assumption | with_reducible apply State.resetRelease_keeps | with_reducible apply KeepsOut.ofNext)

theorem execGenRstChip_keeps {s₀ : State} (w : Word) {s : State} (h₀ : Keeps s₀ s) : KeepsOut s₀ (execGenRstChip w s) := by
  unfold execGenRstChip
  repeat' (first | with_reducible assumption | with_reducible apply State.genRstWrite_keeps | with_reducible apply KeepsOut.ofNext)

theorem execGenRstMgmt_keeps {s₀ : State} (w : Word) {s : State} (h₀ : Keeps s₀ s) : KeepsOut s₀ (execGenRstMgmt w s) := by
  unfold execGenRstMgmt
  repeat' (first | with_reducible assumption | with_reducible apply State.genRstWrite_keeps | with_reducible apply KeepsOut.ofNext)

theorem execMgmtReset_keeps {s₀ : State} (wdt : Bool) {s : State} (h₀ : Keeps s₀ s) : KeepsOut s₀ (execMgmtReset wdt s) := by
  unfold execMgmtReset
  repeat' (first | with_reducible assumption | with_reducible apply State.mgmtReset_keeps | with_reducible apply KeepsOut.ofNext | split)

theorem execMgmtWatchdogKick_keeps {s₀ : State} (w : Word) {s : State} (h₀ : Keeps s₀ s) : KeepsOut s₀ (execMgmtWatchdogKick w s) := by
  unfold execMgmtWatchdogKick
  repeat' (first | with_reducible assumption | with_reducible apply State.wdtWrite_keeps | with_reducible apply KeepsOut.ofNext)

theorem execMgmtWatchdogExpiry_keeps {s₀ : State} {s : State} (h₀ : Keeps s₀ s) : KeepsOut s₀ (execMgmtWatchdogExpiry s) := by
  unfold execMgmtWatchdogExpiry
  repeat' (first | with_reducible assumption | with_reducible apply State.wdtExpire_keeps | with_reducible apply KeepsOut.ofNext)

end Sys2Proof.Machine
end

