-- ==== Sys2Proof/Laws/KeepsLanes.lean ====
section
/-! SUPPORT. What the operations of Machine/Lanes.lean keep: the queue, the canonical form of the stores, every burnt fuse. -/

namespace Sys2Proof.Machine

theorem State.bondEval_keeps {s₀ : State} {s : State} (t : Nat) (h₀ : Keeps s₀ s) : Keeps s₀ (State.bondEval s t) := by
  unfold State.bondEval
  repeat' (first | with_reducible assumption | with_reducible (first | apply State.bondLost_keeps | apply State.bondWake_keeps | apply State.wr_keeps) | split)

theorem State.laneChanged_keeps {s₀ : State} {s : State} (n : Nat) (h₀ : Keeps s₀ s) : Keeps s₀ (State.laneChanged s n) := by
  unfold State.laneChanged
  repeat' (first | with_reducible assumption | with_reducible (first | apply State.bondEval_keeps | apply State.edgeCheck_keeps) | with_reducible refine Keeps.ofIte (fun _ => ?_) (fun _ => ?_) | split)

theorem State.laneMove_keeps {s₀ : State} {s : State} (n : Nat) (st : Nat) (h₀ : Keeps s₀ s) : Keeps s₀ (State.laneMove s n st) := by
  unfold State.laneMove
  repeat' (first | with_reducible assumption | with_reducible (first | apply State.laneChanged_keeps | apply State.laneGo_keeps))

theorem State.acqFail_keeps {s₀ : State} {s : State} (n : Nat) (st : Nat) (h₀ : Keeps s₀ s) : Keeps s₀ (State.acqFail s n st) := by
  unfold State.acqFail
  repeat' (first | with_reducible assumption | with_reducible (first | apply State.laneGo_keeps | apply State.sat_keeps))

theorem State.losDetect_keeps {s₀ : State} {s : State} (n : Nat) (mv : Nat) (h₀ : Keeps s₀ s) : Keeps s₀ (State.losDetect s n mv) := by
  unfold State.losDetect
  repeat' (first | with_reducible assumption | with_reducible (first | apply State.laneMove_keeps | apply State.wr_keeps) | with_reducible refine Keeps.ofIte (fun _ => ?_) (fun _ => ?_))

theorem State.losClear_keeps {s₀ : State} {s : State} (n : Nat) (mv : Nat) (h₀ : Keeps s₀ s) : Keeps s₀ (State.losClear s n mv) := by
  unfold State.losClear
  repeat' (first | with_reducible assumption | with_reducible apply State.wr_keeps | with_reducible refine Keeps.ofIte (fun _ => ?_) (fun _ => ?_) | split)

theorem State.cdrLoss_keeps {s₀ : State} {s : State} (n : Nat) (h₀ : Keeps s₀ s) : Keeps s₀ (State.cdrLoss s n) := by
  unfold State.cdrLoss
  repeat' (first | with_reducible assumption | with_reducible (first | apply State.laneMove_keeps | apply State.wr_keeps) | with_reducible refine Keeps.ofIte (fun _ => ?_) (fun _ => ?_))

theorem State.cdrLock_keeps {s₀ : State} {s : State} (n : Nat) (h₀ : Keeps s₀ s) : Keeps s₀ (State.cdrLock s n) := by
  unfold State.cdrLock
  repeat' (first | with_reducible assumption | with_reducible apply State.laneMove_keeps | with_reducible refine Keeps.ofIte (fun _ => ?_) (fun _ => ?_) | split)

theorem State.headerLock_keeps {s₀ : State} {s : State} (n : Nat) (h₀ : Keeps s₀ s) : Keeps s₀ (State.headerLock s n) := by
  unfold State.headerLock
  repeat' (first | with_reducible assumption | with_reducible apply State.laneMove_keeps | with_reducible refine Keeps.ofIte (fun _ => ?_) (fun _ => ?_) | split)

theorem State.headerWindow_keeps {s₀ : State} {s : State} (n : Nat) (k : Nat) (lost : Bool) (h₀ : Keeps s₀ s) : Keeps s₀ (State.headerWindow s n k lost) := by
  unfold State.headerWindow
  repeat' (first | with_reducible assumption | with_reducible (first | apply State.laneMove_keeps | apply State.satBy_keeps) | with_reducible refine Keeps.ofIte (fun _ => ?_) (fun _ => ?_))

theorem State.alignedGood_keeps {s₀ : State} {s : State} (n : Nat) (h₀ : Keeps s₀ s) : Keeps s₀ (State.alignedGood s n) := by
  unfold State.alignedGood
  repeat' (first | with_reducible assumption | with_reducible (first | apply State.alignCount_keeps | apply State.laneMove_keeps) | with_reducible refine Keeps.ofIte (fun _ => ?_) (fun _ => ?_))

theorem State.alignedBad_keeps {s₀ : State} {s : State} (n : Nat) (h₀ : Keeps s₀ s) : Keeps s₀ (State.alignedBad s n) := by
  unfold State.alignedBad
  repeat' (first | with_reducible assumption | with_reducible (first | apply State.alignCount_keeps | apply State.laneMove_keeps) | with_reducible refine Keeps.ofIte (fun _ => ?_) (fun _ => ?_))

theorem State.laneIn_keeps {s₀ : State} {s : State} (n : Nat) (l : List LineBlock) (h₀ : Keeps s₀ s) : Keeps s₀ (State.laneIn s n l) := by
  unfold State.laneIn
  repeat' (first | with_reducible assumption | with_reducible refine Keeps.ofIte (fun _ => ?_) (fun _ => ?_) | (with_reducible refine Keeps.upd ?_ rfl; first | with_reducible assumption))

theorem State.alignTaken_keeps {s₀ : State} {s : State} (n : Nat) (b : List Byte) (parity : Nat) (h₀ : Keeps s₀ s) : Keeps s₀ (State.alignTaken s n b parity) := by
  unfold State.alignTaken
  repeat' (first | with_reducible assumption | with_reducible (first | apply State.satBy_keeps | apply State.wr_keeps))

theorem State.blockAlign_keeps {s₀ : State} {s : State} (t : Nat) (n : Nat) (b : LineBlock) (l : List LineBlock) (h₀ : Keeps s₀ s) : Keeps s₀ (State.blockAlign s t n b l) := by
  unfold State.blockAlign
  repeat' (first | with_reducible assumption | with_reducible (first | apply State.alignCount_keeps | apply State.alignTaken_keeps | apply State.alignedBad_keeps | apply State.alignedGood_keeps | apply State.laneIn_keeps | apply State.wr_keeps) | with_reducible refine Keeps.ofIte (fun _ => ?_) (fun _ => ?_))

theorem State.columnAlign_keeps {s₀ : State} {s : State} (n : Nat) (b : List Byte) (h₀ : Keeps s₀ s) : Keeps s₀ (State.columnAlign s n b) := by
  unfold State.columnAlign
  repeat' (first | with_reducible assumption | with_reducible (first | apply State.alignedBad_keeps | apply State.alignedGood_keeps | apply State.wr_keeps) | with_reducible refine Keeps.eachOf ?_ _ _ (fun _ _ _ => ?_) | split)

theorem State.alignReceive_keeps {s₀ : State} {s : State} (n : Nat) (hdr : Nat) (b : List Byte) (l : List LineBlock) (h₀ : Keeps s₀ s) : Keeps s₀ (State.alignReceive s n hdr b l) := by
  unfold State.alignReceive
  repeat' (first | with_reducible assumption | with_reducible (first | apply State.blockAlign_keeps | apply State.columnAlign_keeps) | with_reducible refine Keeps.ofIte (fun _ => ?_) (fun _ => ?_) | split)

theorem State.bondFails_keeps {s₀ : State} {s : State} (t : Nat) (code : Nat) (h₀ : Keeps s₀ s) : Keeps s₀ (State.bondFails s t code) := by
  unfold State.bondFails
  repeat' (first | with_reducible assumption | with_reducible (first | apply State.bondTrialFails_keeps | apply State.sat_keeps | apply State.wr_keeps))

theorem State.skewShow_keeps {s₀ : State} {s : State} (t : Nat) (unit : Nat) (d : List Nat) (h₀ : Keeps s₀ s) : Keeps s₀ (State.skewShow s t unit d) := by
  unfold State.skewShow
  repeat' (first | with_reducible assumption | with_reducible apply State.wr_keeps | with_reducible refine Keeps.eachOf ?_ _ _ (fun _ _ _ => ?_))

theorem State.bondComesUp_keeps {s₀ : State} {s : State} (t : Nat) (h₀ : Keeps s₀ s) : Keeps s₀ (State.bondComesUp s t) := by
  unfold State.bondComesUp
  repeat' (first | with_reducible assumption | with_reducible (first | apply State.bondAdvance_keeps | apply State.latencyTrained_keeps | apply State.wr_keeps))

theorem State.skewMeasure_keeps {s₀ : State} {s : State} (t : Nat) (d : List Nat) (h₀ : Keeps s₀ s) : Keeps s₀ (State.skewMeasure s t d) := by
  unfold State.skewMeasure
  repeat' (first | with_reducible assumption | with_reducible (first | apply State.bondComesUp_keeps | apply State.bondFails_keeps | apply State.skewShow_keeps) | with_reducible refine Keeps.ofIte (fun _ => ?_) (fun _ => ?_))

theorem State.bondTimeout_keeps {s₀ : State} {s : State} (t : Nat) (h₀ : Keeps s₀ s) : Keeps s₀ (State.bondTimeout s t) := by
  unfold State.bondTimeout
  repeat' (first | with_reducible assumption | with_reducible apply State.bondFails_keeps | with_reducible refine Keeps.ofIte (fun _ => ?_) (fun _ => ?_) | split)

theorem State.bondRetry_keeps {s₀ : State} {s : State} (t : Nat) (h₀ : Keeps s₀ s) : Keeps s₀ (State.bondRetry s t) := by
  unfold State.bondRetry
  repeat' (first | with_reducible assumption | with_reducible (first | apply State.bondWake_keeps | apply State.wr_keeps) | with_reducible refine Keeps.ofIte (fun _ => ?_) (fun _ => ?_))

theorem State.rateWrite_keeps {s₀ : State} {s : State} (n : Nat) (r : Nat) (h₀ : Keeps s₀ s) : Keeps s₀ (State.rateWrite s n r) := by
  unfold State.rateWrite
  repeat' (first | with_reducible assumption | with_reducible (first | apply State.laneRate_keeps | apply State.wr_keeps) | with_reducible refine Keeps.ofIte (fun _ => ?_) (fun _ => ?_))

theorem State.checkerOff_keeps {s₀ : State} {s : State} (n : Nat) (h₀ : Keeps s₀ s) : Keeps s₀ (State.checkerOff s n) := by
  unfold State.checkerOff
  repeat' (first | with_reducible assumption | with_reducible apply State.wr_keeps | (with_reducible refine Keeps.upd ?_ rfl; first | with_reducible assumption | with_reducible apply State.wr_keeps | (with_reducible refine Keeps.upd ?_ rfl; first | with_reducible assumption | with_reducible apply State.wr_keeps)))

theorem State.modeWrite_keeps {s₀ : State} {s : State} (n : Nat) (m : Nat) (h₀ : Keeps s₀ s) : Keeps s₀ (State.modeWrite s n m) := by
  unfold State.modeWrite
  repeat' (first | with_reducible assumption | with_reducible (first | apply State.checkerOff_keeps | apply State.wr_keeps) | with_reducible refine Keeps.ofIte (fun _ => ?_) (fun _ => ?_))

theorem State.laneCtrlWrite_keeps {s₀ : State} {s : State} (n : Nat) (w : Nat) (h₀ : Keeps s₀ s) : Keeps s₀ (State.laneCtrlWrite s n w) := by
  unfold State.laneCtrlWrite
  repeat' (first | with_reducible assumption | with_reducible (first | apply State.laneChanged_keeps | apply State.lanePower_keeps | apply State.laneRelock_keeps | apply State.modeWrite_keeps | apply State.rateWrite_keeps | apply State.wr_keeps | apply State.writeFields_keeps) | split)

theorem State.txeqWrite_keeps {s₀ : State} {s : State} (n : Nat) (w : Nat) (h₀ : Keeps s₀ s) : Keeps s₀ (State.txeqWrite s n w) := by
  unfold State.txeqWrite
  repeat' (first | with_reducible assumption | with_reducible (first | apply State.wr_keeps | apply State.writeReg_keeps) | with_reducible refine Keeps.ofIte (fun _ => ?_) (fun _ => ?_))

theorem State.scanCounts_keeps {s₀ : State} {s : State} (n : Nat) (bits : Nat) (errs : Nat) (h₀ : Keeps s₀ s) : Keeps s₀ (State.scanCounts s n bits errs) := by
  unfold State.scanCounts
  repeat' (first | with_reducible assumption | with_reducible apply State.wr_keeps)

theorem State.scanGo_keeps {s₀ : State} {s : State} (n : Nat) (e : Nat) (h₀ : Keeps s₀ s) : Keeps s₀ (State.scanGo s n e) := by
  unfold State.scanGo
  repeat' (first | with_reducible assumption | with_reducible (first | apply State.scanCounts_keeps | apply State.wr_keeps) | with_reducible refine Keeps.ofIte (fun _ => ?_) (fun _ => ?_))

theorem State.scanWrite_keeps {s₀ : State} {s : State} (n : Nat) (w : Nat) (h₀ : Keeps s₀ s) : Keeps s₀ (State.scanWrite s n w) := by
  unfold State.scanWrite
  repeat' (first | with_reducible assumption | with_reducible (first | apply State.scanGo_keeps | apply State.scanStop_keeps | apply State.writeFields_keeps) | split)

theorem State.scanDone_keeps {s₀ : State} {s : State} (n : Nat) (errs : Nat) (h₀ : Keeps s₀ s) : Keeps s₀ (State.scanDone s n errs) := by
  unfold State.scanDone
  repeat' (first | with_reducible assumption | with_reducible (first | apply State.scanCounts_keeps | apply State.wr_keeps) | split)

theorem State.prbsClear_keeps {s₀ : State} {s : State} (n : Nat) (h₀ : Keeps s₀ s) : Keeps s₀ (State.prbsClear s n) := by
  unfold State.prbsClear
  repeat' (first | with_reducible assumption | with_reducible apply State.wr_keeps)

theorem State.genStart_keeps {s₀ : State} {s : State} (n : Nat) (h₀ : Keeps s₀ s) : Keeps s₀ (State.genStart s n) := by
  unfold State.genStart
  repeat' (first | with_reducible assumption | with_reducible apply State.free_keeps | (first | with_reducible refine Keeps.ofPair2 (by assumption) ?_) | (with_reducible refine Keeps.upd ?_ rfl; first | with_reducible assumption | with_reducible apply State.free_keeps))

theorem State.prbsInject_keeps {s₀ : State} {s : State} (n : Nat) (h₀ : Keeps s₀ s) : Keeps s₀ (State.prbsInject s n) := by
  unfold State.prbsInject
  repeat' (first | with_reducible assumption | with_reducible apply State.putLine_keeps | with_reducible refine Keeps.ofIte (fun _ => ?_) (fun _ => ?_) | (with_reducible refine Keeps.upd ?_ rfl; first | with_reducible assumption | with_reducible apply State.putLine_keeps))

theorem State.prbsWrite_keeps {s₀ : State} {s : State} (n : Nat) (w : Nat) (h₀ : Keeps s₀ s) : Keeps s₀ (State.prbsWrite s n w) := by
  unfold State.prbsWrite
  repeat' (first | with_reducible assumption | with_reducible (first | apply State.checkerOff_keeps | apply State.genStart_keeps | apply State.prbsClear_keeps | apply State.prbsInject_keeps | apply State.writeReg_keeps) | with_reducible refine Keeps.whenIf ?_ _ _ (fun _ _ => ?_) | split)

theorem State.prbsBits_keeps {s₀ : State} {s : State} (n : Nat) (k : Nat) (h₀ : Keeps s₀ s) : Keeps s₀ (State.prbsBits s n k) := by
  unfold State.prbsBits
  repeat' (first | with_reducible assumption | with_reducible apply State.wr_keeps)

theorem State.checkerShow_keeps {s₀ : State} {s : State} (n : Nat) (c : Checker) (h₀ : Keeps s₀ s) : Keeps s₀ (State.checkerShow s n c) := by
  unfold State.checkerShow
  repeat' (first | with_reducible assumption | with_reducible (first | apply State.prbsBits_keeps | apply State.satBy_keeps) | with_reducible refine Keeps.whenIf ?_ _ _ (fun _ _ => ?_) | (with_reducible refine Keeps.upd ?_ rfl; first | with_reducible assumption | with_reducible (first | apply State.prbsBits_keeps | apply State.satBy_keeps | apply State.wr_keeps)))

theorem State.prbsReceive_keeps {s₀ : State} {s : State} (n : Nat) (l : List Bool) (h₀ : Keeps s₀ s) : Keeps s₀ (State.prbsReceive s n l) := by
  unfold State.prbsReceive
  repeat' (first | with_reducible assumption | with_reducible apply State.checkerShow_keeps | with_reducible refine Keeps.ofIte (fun _ => ?_) (fun _ => ?_))

theorem State.lneClear_keeps {s₀ : State} {s : State} (n : Nat) (w : Nat) (h₀ : Keeps s₀ s) : Keeps s₀ (State.lneClear s n w) := by
  unfold State.lneClear
  repeat' (first | with_reducible assumption | with_reducible (first | apply State.prbsClear_keeps | apply State.wr_keeps) | with_reducible refine Keeps.whenIf ?_ _ _ (fun _ _ => ?_))

theorem State.lneWrite_keeps {s₀ : State} {s : State} (off : Nat) (w : Nat) (h₀ : Keeps s₀ s) : KeepsOpt s₀ (State.lneWrite s off w) := by
  unfold State.lneWrite
  repeat' (first | with_reducible assumption | (extract_lets +onlyGivenNames x; first | (refine (?_ : Keeps s₀ x → _) ?_; rotate_left; subst x; rotate_left; intro hx; clear_value x) | clear_value x) | with_reducible (first | apply State.laneCtrlWrite_keeps | apply State.lneClear_keeps | apply State.prbsWrite_keeps | apply State.scanWrite_keeps | apply State.txeqWrite_keeps) | with_reducible apply KeepsOpt.ofSome | exact KeepsOpt.ofNone | split)

theorem execLaneCtrlWrite_keeps {s₀ : State} (n : Fin 28) (w : Word) {s : State} (h₀ : Keeps s₀ s) : KeepsOut s₀ (execLaneCtrlWrite n w s) := by
  unfold execLaneCtrlWrite
  repeat' (first | with_reducible assumption | with_reducible apply State.laneCtrlWrite_keeps | with_reducible apply KeepsOut.ofNext)

theorem execCdrLock_keeps {s₀ : State} (n : Fin 28) {s : State} (h₀ : Keeps s₀ s) : KeepsOut s₀ (execCdrLock n s) := by
  unfold execCdrLock
  repeat' (first | with_reducible assumption | with_reducible apply State.cdrLock_keeps | with_reducible apply KeepsOut.ofNext)

theorem execCdrAcqTimeout_keeps {s₀ : State} (n : Fin 28) {s : State} (h₀ : Keeps s₀ s) : KeepsOut s₀ (execCdrAcqTimeout n s) := by
  unfold execCdrAcqTimeout
  repeat' (first | with_reducible assumption | with_reducible apply State.acqFail_keeps | with_reducible apply KeepsOut.ofNext | with_reducible refine KeepsOut.ofIte (fun _ => ?_) (fun _ => ?_))

theorem execHeaderLock_keeps {s₀ : State} (n : Fin 28) {s : State} (h₀ : Keeps s₀ s) : KeepsOut s₀ (execHeaderLock n s) := by
  unfold execHeaderLock
  repeat' (first | with_reducible assumption | with_reducible apply State.headerLock_keeps | with_reducible apply KeepsOut.ofNext)

theorem execHeaderHuntTimeout_keeps {s₀ : State} (n : Fin 28) {s : State} (h₀ : Keeps s₀ s) : KeepsOut s₀ (execHeaderHuntTimeout n s) := by
  unfold execHeaderHuntTimeout
  repeat' (first | with_reducible assumption | with_reducible apply State.acqFail_keeps | with_reducible apply KeepsOut.ofNext | with_reducible refine KeepsOut.ofIte (fun _ => ?_) (fun _ => ?_))

theorem execAlignmentBlockReceive_keeps {s₀ : State} (n : Fin 28) (hdr : Fin 4) (bytes : List Byte) (line : List LineBlock) {s : State} (h₀ : Keeps s₀ s) : KeepsOut s₀ (execAlignmentBlockReceive n hdr bytes line s) := by
  unfold execAlignmentBlockReceive
  repeat' (first | with_reducible assumption | with_reducible apply State.alignReceive_keeps | with_reducible apply KeepsOut.ofNext)

theorem execAlignTimeout_keeps {s₀ : State} (n : Fin 28) {s : State} (h₀ : Keeps s₀ s) : KeepsOut s₀ (execAlignTimeout n s) := by
  unfold execAlignTimeout
  repeat' (first | with_reducible assumption | with_reducible (first | apply State.acqFail_keeps | apply State.wr_keeps) | with_reducible apply KeepsOut.ofNext | split)

theorem execLosDetect_keeps {s₀ : State} (n : Fin 28) (mv : Nat) {s : State} (h₀ : Keeps s₀ s) : KeepsOut s₀ (execLosDetect n mv s) := by
  unfold execLosDetect
  repeat' (first | with_reducible assumption | with_reducible apply State.losDetect_keeps | with_reducible apply KeepsOut.ofNext)

theorem execLosClear_keeps {s₀ : State} (n : Fin 28) (mv : Nat) {s : State} (h₀ : Keeps s₀ s) : KeepsOut s₀ (execLosClear n mv s) := by
  unfold execLosClear
  repeat' (first | with_reducible assumption | with_reducible apply State.losClear_keeps | with_reducible apply KeepsOut.ofNext)

theorem execCdrLoss_keeps {s₀ : State} (n : Fin 28) {s : State} (h₀ : Keeps s₀ s) : KeepsOut s₀ (execCdrLoss n s) := by
  unfold execCdrLoss
  repeat' (first | with_reducible assumption | with_reducible apply State.cdrLoss_keeps | with_reducible apply KeepsOut.ofNext)

theorem execHeaderLoss_keeps {s₀ : State} (n : Fin 28) (k : Fin 1025) (lost : Bool) {s : State} (h₀ : Keeps s₀ s) : KeepsOut s₀ (execHeaderLoss n k lost s) := by
  unfold execHeaderLoss
  repeat' (first | with_reducible assumption | with_reducible apply State.headerWindow_keeps | with_reducible apply KeepsOut.ofNext)

theorem execAlignmentBlockSend_keeps {s₀ : State} (t : Fin 4) (idle : Fin 16384) {s : State} (h₀ : Keeps s₀ s) : KeepsOut s₀ (execAlignmentBlockSend t idle s) := by
  unfold execAlignmentBlockSend
  repeat' (first | with_reducible assumption | with_reducible apply State.alignSend_keeps | with_reducible apply KeepsOut.ofNext)

theorem execBondSkewMeasure_keeps {s₀ : State} (t : Fin 4) (d0 : Nat) (d1 : Nat) (d2 : Nat) (d3 : Nat) {s : State} (h₀ : Keeps s₀ s) : KeepsOut s₀ (execBondSkewMeasure t d0 d1 d2 d3 s) := by
  unfold execBondSkewMeasure
  repeat' (first | with_reducible assumption | with_reducible apply State.skewMeasure_keeps | with_reducible apply KeepsOut.ofNext)

theorem execBondTimeout_keeps {s₀ : State} (t : Fin 4) {s : State} (h₀ : Keeps s₀ s) : KeepsOut s₀ (execBondTimeout t s) := by
  unfold execBondTimeout
  repeat' (first | with_reducible assumption | with_reducible apply State.bondTimeout_keeps | with_reducible apply KeepsOut.ofNext)

theorem execBondFailExpiry_keeps {s₀ : State} (t : Fin 4) {s : State} (h₀ : Keeps s₀ s) : KeepsOut s₀ (execBondFailExpiry t s) := by
  unfold execBondFailExpiry
  repeat' (first | with_reducible assumption | with_reducible apply State.bondRetry_keeps | with_reducible apply KeepsOut.ofNext)

theorem execEyeScanGo_keeps {s₀ : State} (n : Fin 28) (w : Word) {s : State} (h₀ : Keeps s₀ s) : KeepsOut s₀ (execEyeScanGo n w s) := by
  unfold execEyeScanGo
  repeat' (first | with_reducible assumption | with_reducible apply State.scanWrite_keeps | with_reducible apply KeepsOut.ofNext)

theorem execEyeScanAbort_keeps {s₀ : State} (n : Fin 28) {s : State} (h₀ : Keeps s₀ s) : KeepsOut s₀ (execEyeScanAbort n s) := by
  unfold execEyeScanAbort
  repeat' (first | with_reducible assumption | with_reducible apply State.scanStop_keeps | with_reducible apply KeepsOut.ofNext)

theorem execEyeScanDone_keeps {s₀ : State} (n : Fin 28) (errs : Nat) {s : State} (h₀ : Keeps s₀ s) : KeepsOut s₀ (execEyeScanDone n errs s) := by
  unfold execEyeScanDone
  repeat' (first | with_reducible assumption | with_reducible apply State.scanDone_keeps | with_reducible apply KeepsOut.ofNext)

theorem execPrbsCheckStart_keeps {s₀ : State} (n : Fin 28) (w : Word) {s : State} (h₀ : Keeps s₀ s) : KeepsOut s₀ (execPrbsCheckStart n w s) := by
  unfold execPrbsCheckStart
  repeat' (first | with_reducible assumption | with_reducible apply State.prbsWrite_keeps | with_reducible apply KeepsOut.ofNext)

theorem execPrbsCheckerLock_keeps {s₀ : State} (n : Fin 28) (bits : List Bool) {s : State} (h₀ : Keeps s₀ s) : KeepsOut s₀ (execPrbsCheckerLock n bits s) := by
  unfold execPrbsCheckerLock
  repeat' (first | with_reducible assumption | with_reducible apply State.prbsReceive_keeps | with_reducible apply KeepsOut.ofNext)

theorem execPrbsCheckerLoss_keeps {s₀ : State} (n : Fin 28) (bits : List Bool) {s : State} (h₀ : Keeps s₀ s) : KeepsOut s₀ (execPrbsCheckerLoss n bits s) := by
  unfold execPrbsCheckerLoss
  repeat' (first | with_reducible assumption | with_reducible apply State.prbsReceive_keeps | with_reducible apply KeepsOut.ofNext)

theorem execPrbsInject_keeps {s₀ : State} (n : Fin 28) {s : State} (h₀ : Keeps s₀ s) : KeepsOut s₀ (execPrbsInject n s) := by
  unfold execPrbsInject
  repeat' (first | with_reducible assumption | with_reducible apply State.prbsInject_keeps | with_reducible apply KeepsOut.ofNext)

end Sys2Proof.Machine
end

