-- ==== Sys2Proof/Laws/KeepsPower.lean ====
section
/-! SUPPORT. What the operations of Machine/Power.lean keep: the queue, the canonical form of the stores, every burnt fuse. -/

namespace Sys2Proof.Machine

theorem State.pwrReject_keeps {s₀ : State} {s : State} (h₀ : Keeps s₀ s) : Keeps s₀ (State.pwrReject s) := by
  unfold State.pwrReject
  repeat' (first | with_reducible assumption | with_reducible apply State.wr_keeps)

theorem State.targetsShow_keeps {s₀ : State} {s : State} (h₀ : Keeps s₀ s) : Keeps s₀ (State.targetsShow s) := by
  unfold State.targetsShow
  repeat' (first | with_reducible assumption | with_reducible apply State.wr_keeps | with_reducible refine Keeps.eachOf ?_ _ _ (fun _ _ _ => ?_))

theorem State.clocks_keeps {s₀ : State} {s : State} (k : Nat) (h₀ : Keeps s₀ s) : Keeps s₀ (State.clocks s k) := by
  unfold State.clocks
  repeat' (first | with_reducible assumption | with_reducible apply State.wr_keeps)

theorem State.setTarget_keeps {s₀ : State} {s : State} (mv : Nat) (h₀ : Keeps s₀ s) : Keeps s₀ (State.setTarget s mv) := by
  unfold State.setTarget
  repeat' (first | with_reducible assumption | (with_reducible refine Keeps.upd ?_ rfl; first | with_reducible assumption))

theorem State.resumeBlocks_keeps {s₀ : State} {s : State} (h₀ : Keeps s₀ s) : Keeps s₀ (State.resumeBlocks s) := by
  unfold State.resumeBlocks
  repeat' (first | with_reducible assumption | with_reducible (first | apply State.haltLift_keeps | apply State.resumeEngines_keeps) | split)

theorem State.edgeLanes_keeps {s₀ : State} {s : State} (h₀ : Keeps s₀ s) : Keeps s₀ (State.edgeLanes s) := by
  unfold State.edgeLanes
  repeat' (first | with_reducible assumption | with_reducible (first | apply State.laneChanged_keeps | apply State.lanePower_keeps) | with_reducible refine Keeps.eachOf ?_ _ _ (fun _ _ _ => ?_) | intro _)

theorem State.reached_keeps {s₀ : State} {s : State} (st : Nat) (c : PwrCode) (h₀ : Keeps s₀ s) : Keeps s₀ (State.reached s st c) := by
  unfold State.reached
  repeat' (first | with_reducible assumption | with_reducible apply State.sat_keeps | with_reducible refine Keeps.ofIte (fun _ => ?_) (fun _ => ?_) | (with_reducible refine Keeps.upd ?_ rfl; first | with_reducible assumption | with_reducible (first | apply State.edgeLanes_keeps | apply State.resumeBlocks_keeps | apply State.sat_keeps | apply State.wr_keeps)))

theorem State.changeTo_keeps {s₀ : State} {s : State} (st : Nat) (h₀ : Keeps s₀ s) : Keeps s₀ (State.changeTo s st) := by
  unfold State.changeTo
  repeat' (first | with_reducible assumption | with_reducible apply State.raise_keeps | with_reducible refine Keeps.ofIte (fun _ => ?_) (fun _ => ?_) | (with_reducible refine Keeps.upd ?_ rfl; first | with_reducible assumption | with_reducible (first | apply State.arm_keeps | apply State.clocks_keeps | apply State.raise_keeps | apply State.reached_keeps | apply State.setTarget_keeps | apply State.wr_keeps)))

theorem State.changeNext_keeps {s₀ : State} {s : State} (h₀ : Keeps s₀ s) : Keeps s₀ (State.changeNext s) := by
  unfold State.changeNext
  repeat' (first | with_reducible assumption | (with_reducible refine Keeps.upd ?_ rfl; first | with_reducible assumption | with_reducible apply State.changeTo_keeps) | split)

theorem State.avsRead_keeps {s₀ : State} {s : State} (mv : Nat) (h₀ : Keeps s₀ s) : Keeps s₀ (State.avsRead s mv) := by
  unfold State.avsRead
  repeat' (first | with_reducible assumption | with_reducible (first | apply State.changeNext_keeps | apply State.clocks_keeps | apply State.disarm_keeps | apply State.reached_keeps | apply State.wr_keeps) | split)

theorem State.avsTimeout_keeps {s₀ : State} {s : State} (h₀ : Keeps s₀ s) : Keeps s₀ (State.avsTimeout s) := by
  unfold State.avsTimeout
  repeat' (first | with_reducible assumption | with_reducible apply State.fault_keeps | (with_reducible refine Keeps.upd ?_ rfl; first | with_reducible assumption | with_reducible (first | apply State.changeNext_keeps | apply State.disarm_keeps | apply State.fault_keeps | apply State.raise_keeps | apply State.reached_keeps | apply State.sat_keeps | apply State.setTarget_keeps | apply State.wr_keeps)) | split)

theorem State.askRefused_keeps {s₀ : State} {s : State} (c : PwrCode) (k : Nat) (h₀ : Keeps s₀ s) : Keeps s₀ (State.askRefused s c k) := by
  unfold State.askRefused
  repeat' (first | with_reducible assumption | with_reducible (first | apply State.askAbort_keeps | apply State.sat_keeps | apply State.wr_keeps))

theorem State.wakeStart_keeps {s₀ : State} {s : State} (h₀ : Keeps s₀ s) : Keeps s₀ (State.wakeStart s) := by
  unfold State.wakeStart
  repeat' (first | with_reducible assumption | (with_reducible refine Keeps.upd ?_ rfl; first | with_reducible assumption))

theorem State.enterHush_keeps {s₀ : State} {s : State} (h₀ : Keeps s₀ s) : Keeps s₀ (State.enterHush s) := by
  unfold State.enterHush
  repeat' (first | with_reducible assumption | with_reducible apply State.discardCommits_keeps | (with_reducible refine Keeps.upd ?_ rfl; first | with_reducible assumption | with_reducible (first | apply State.brgHalt_keeps | apply State.changeTo_keeps | apply State.discardCommits_keeps | apply State.displayOff_keeps | apply State.dmaHalt_keeps | apply State.edgeLanes_keeps | apply State.haltEngines_keeps | apply State.haltFlush_keeps | apply State.usbHush_keeps | apply State.wakeStart_keeps | apply State.wr_keeps)))

theorem State.enterDark_keeps {s₀ : State} {s : State} (st : Nat) (h₀ : Keeps s₀ s) : Keeps s₀ (State.enterDark s st) := by
  unfold State.enterDark
  repeat' (first | with_reducible assumption | with_reducible apply State.eraseKeys_keeps | with_reducible refine Keeps.eachOf ?_ _ _ (fun _ _ _ => ?_) | (with_reducible refine Keeps.upd ?_ rfl; first | with_reducible assumption | with_reducible (first | apply State.coreClear_keeps | apply State.efuse_keeps | apply State.eraseKeys_keeps | apply State.pathGo_keeps | apply State.sat_keeps | apply State.updDormant_keeps | apply State.wakeStart_keeps | apply State.wr_keeps) | (with_reducible refine Keeps.upd ?_ rfl; first | with_reducible assumption | with_reducible (first | apply State.coreClear_keeps | apply State.efuse_keeps | apply State.eraseKeys_keeps | apply State.pathGo_keeps | apply State.sat_keeps | apply State.updDormant_keeps | apply State.wakeStart_keeps | apply State.wr_keeps))) | split)

theorem State.askDone_keeps {s₀ : State} {s : State} (h₀ : Keeps s₀ s) : Keeps s₀ (State.askDone s) := by
  unfold State.askDone
  repeat' (first | with_reducible assumption | with_reducible refine Keeps.ofIte (fun _ => ?_) (fun _ => ?_) | (with_reducible refine Keeps.upd ?_ rfl; first | with_reducible assumption | with_reducible (first | apply State.enterDark_keeps | apply State.enterHush_keeps)) | split)

theorem State.askAck_keeps {s₀ : State} {s : State} (k : Nat) (h₀ : Keeps s₀ s) : Keeps s₀ (State.askAck s k) := by
  unfold State.askAck
  repeat' (first | with_reducible assumption | (with_reducible refine Keeps.upd ?_ rfl; first | with_reducible assumption | with_reducible apply State.askDone_keeps) | intro _)

theorem State.askStart_keeps {s₀ : State} {s : State} (st : Nat) (h₀ : Keeps s₀ s) : Keeps s₀ (State.askStart s st) := by
  unfold State.askStart
  repeat' (first | with_reducible assumption | with_reducible apply State.wr_keeps | with_reducible refine Keeps.eachOf ?_ _ _ (fun _ _ _ => ?_) | (with_reducible refine Keeps.upd ?_ rfl; first | with_reducible assumption | with_reducible (first | apply State.arm_keeps | apply State.askRefused_keeps | apply State.wr_keeps) | (with_reducible refine Keeps.upd ?_ rfl; first | with_reducible assumption | with_reducible (first | apply State.arm_keeps | apply State.askRefused_keeps | apply State.wr_keeps))) | split)

theorem State.askAnswer_keeps {s₀ : State} {s : State} (k : Nat) (h₀ : Keeps s₀ s) : Keeps s₀ (State.askAnswer s k) := by
  unfold State.askAnswer
  repeat' (first | with_reducible assumption | with_reducible (first | apply State.askAck_keeps | apply State.askRefused_keeps) | split)

theorem State.fwAnswer_keeps {s₀ : State} {s : State} (w : Nat) (h₀ : Keeps s₀ s) : Keeps s₀ (State.fwAnswer s w) := by
  unfold State.fwAnswer
  repeat' (first | with_reducible assumption | with_reducible apply State.askRefused_keeps | (with_reducible refine Keeps.upd ?_ rfl; first | with_reducible assumption | with_reducible (first | apply State.arm_keeps | apply State.askAck_keeps | apply State.askRefused_keeps)) | split)

theorem State.askTimeout_keeps {s₀ : State} {s : State} (k : Nat) (h₀ : Keeps s₀ s) : Keeps s₀ (State.askTimeout s k) := by
  unfold State.askTimeout
  repeat' (first | with_reducible assumption | with_reducible (first | apply State.askAck_keeps | apply State.askRefused_keeps) | split)

theorem State.pwrCmdWrite_keeps {s₀ : State} {s : State} (w : Nat) (h₀ : Keeps s₀ s) : Keeps s₀ (State.pwrCmdWrite s w) := by
  unfold State.pwrCmdWrite
  repeat' (first | with_reducible assumption | with_reducible (first | apply State.askStart_keeps | apply State.changeTo_keeps | apply State.pwrReject_keeps | apply State.wr_keeps) | with_reducible refine Keeps.ofIte (fun _ => ?_) (fun _ => ?_))

theorem State.pwrCfgWrite_keeps {s₀ : State} {s : State} (w : Nat) (h₀ : Keeps s₀ s) : Keeps s₀ (State.pwrCfgWrite s w) := by
  unfold State.pwrCfgWrite
  repeat' (first | with_reducible assumption | with_reducible (first | apply State.pwrReject_keeps | apply State.targetsShow_keeps | apply State.wr_keeps | apply State.writeReg_keeps) | split)

theorem State.wake_keeps {s₀ : State} {s : State} (k : Nat) (h₀ : Keeps s₀ s) : Keeps s₀ (State.wake s k) := by
  unfold State.wake
  repeat' (first | with_reducible assumption | (extract_lets +onlyGivenNames x; first | (refine (?_ : Keeps s₀ x → _) ?_; rotate_left; subst x; rotate_left; intro hx; clear_value x) | clear_value x) | with_reducible apply State.pathGo_keeps | (with_reducible refine Keeps.upd ?_ rfl; first | with_reducible assumption | with_reducible (first | apply State.askAbort_keeps | apply State.changeTo_keeps | apply State.pathGo_keeps | apply State.putBit_keeps | apply State.sat_keeps | apply State.wr_keeps)) | split)

theorem State.wakeTimer_keeps {s₀ : State} {s : State} (h₀ : Keeps s₀ s) : Keeps s₀ (State.wakeTimer s) := by
  unfold State.wakeTimer
  repeat' (first | with_reducible assumption | with_reducible apply State.wake_keeps | split)

theorem State.pathGood_keeps {s₀ : State} {s : State} (h₀ : Keeps s₀ s) : Keeps s₀ (State.pathGood s) := by
  unfold State.pathGood
  repeat' (first | with_reducible assumption | with_reducible refine Keeps.ofIte (fun _ => ?_) (fun _ => ?_) | (with_reducible refine Keeps.upd ?_ rfl; first | with_reducible assumption | with_reducible apply State.wr_keeps))

theorem State.railsGood_keeps {s₀ : State} {s : State} (h₀ : Keeps s₀ s) : Keeps s₀ (State.railsGood s) := by
  unfold State.railsGood
  repeat' (first | with_reducible assumption | with_reducible refine Keeps.ofIte (fun _ => ?_) (fun _ => ?_) | (with_reducible refine Keeps.upd ?_ rfl; first | with_reducible assumption | with_reducible apply State.chipReset_keeps))

theorem State.railLow_keeps {s₀ : State} {s : State} (h₀ : Keeps s₀ s) : Keeps s₀ (State.railLow s) := by
  unfold State.railLow
  repeat' (first | with_reducible assumption | (with_reducible refine Keeps.upd ?_ rfl; first | with_reducible assumption | with_reducible apply State.chipReset_keeps) | split)

theorem State.clkLost_keeps {s₀ : State} {s : State} (k : Nat) (h₀ : Keeps s₀ s) : Keeps s₀ (State.clkLost s k) := by
  unfold State.clkLost
  repeat' (first | with_reducible assumption | with_reducible (first | apply State.causeOn_keeps | apply State.wr_keeps))

theorem State.clkBack_keeps {s₀ : State} {s : State} (k : Nat) (h₀ : Keeps s₀ s) : Keeps s₀ (State.clkBack s k) := by
  unfold State.clkBack
  repeat' (first | with_reducible assumption | with_reducible (first | apply State.causeOff_keeps | apply State.wr_keeps) | with_reducible refine Keeps.ofIte (fun _ => ?_) (fun _ => ?_))

theorem State.pwrWrite_keeps {s₀ : State} {s : State} (off : Nat) (w : Nat) (h₀ : Keeps s₀ s) : KeepsOpt s₀ (State.pwrWrite s off w) := by
  unfold State.pwrWrite
  repeat' (first | with_reducible assumption | with_reducible (first | apply State.fwAnswer_keeps | apply State.pwrCfgWrite_keeps | apply State.pwrCmdWrite_keeps | apply State.wr_keeps) | with_reducible apply KeepsOpt.ofSome | exact KeepsOpt.ofNone | with_reducible refine Keeps.eachOf ?_ _ _ (fun _ _ _ => ?_) | split)

theorem execPathgdRise_keeps {s₀ : State} {s : State} (h₀ : Keeps s₀ s) : KeepsOut s₀ (execPathgdRise s) := by
  unfold execPathgdRise
  repeat' (first | with_reducible assumption | with_reducible apply State.pathGood_keeps | with_reducible apply KeepsOut.ofNext)

theorem execPwrCmdRun_keeps {s₀ : State} (w : Word) {s : State} (h₀ : Keeps s₀ s) : KeepsOut s₀ (execPwrCmdRun w s) := by
  unfold execPwrCmdRun
  repeat' (first | with_reducible assumption | with_reducible apply State.pwrCmdWrite_keeps | with_reducible apply KeepsOut.ofNext)

theorem execPwrCmdTrim_keeps {s₀ : State} (w : Word) {s : State} (h₀ : Keeps s₀ s) : KeepsOut s₀ (execPwrCmdTrim w s) := by
  unfold execPwrCmdTrim
  repeat' (first | with_reducible assumption | with_reducible apply State.pwrCmdWrite_keeps | with_reducible apply KeepsOut.ofNext)

theorem execPwrCmdHush_keeps {s₀ : State} (w : Word) {s : State} (h₀ : Keeps s₀ s) : KeepsOut s₀ (execPwrCmdHush w s) := by
  unfold execPwrCmdHush
  repeat' (first | with_reducible assumption | with_reducible apply State.pwrCmdWrite_keeps | with_reducible apply KeepsOut.ofNext)

theorem execPwrCmdDormant_keeps {s₀ : State} (w : Word) {s : State} (h₀ : Keeps s₀ s) : KeepsOut s₀ (execPwrCmdDormant w s) := by
  unfold execPwrCmdDormant
  repeat' (first | with_reducible assumption | with_reducible apply State.pwrCmdWrite_keeps | with_reducible apply KeepsOut.ofNext)

theorem execPwrCmdOff_keeps {s₀ : State} (w : Word) {s : State} (h₀ : Keeps s₀ s) : KeepsOut s₀ (execPwrCmdOff w s) := by
  unfold execPwrCmdOff
  repeat' (first | with_reducible assumption | with_reducible apply State.pwrCmdWrite_keeps | with_reducible apply KeepsOut.ofNext)

theorem execHandshakeAnswer_keeps {s₀ : State} (k : Fin 24) {s : State} (h₀ : Keeps s₀ s) : KeepsOut s₀ (execHandshakeAnswer k s) := by
  unfold execHandshakeAnswer
  repeat' (first | with_reducible assumption | with_reducible apply State.askAnswer_keeps | with_reducible apply KeepsOut.ofNext)

theorem execFirmwareAnswer_keeps {s₀ : State} (w : Word) {s : State} (h₀ : Keeps s₀ s) : KeepsOut s₀ (execFirmwareAnswer w s) := by
  unfold execFirmwareAnswer
  repeat' (first | with_reducible assumption | with_reducible apply State.fwAnswer_keeps | with_reducible apply KeepsOut.ofNext)

theorem execHandshakeTimeout_keeps {s₀ : State} (k : Fin 24) {s : State} (h₀ : Keeps s₀ s) : KeepsOut s₀ (execHandshakeTimeout k s) := by
  unfold execHandshakeTimeout
  repeat' (first | with_reducible assumption | with_reducible apply State.askTimeout_keeps | with_reducible apply KeepsOut.ofNext)

theorem execWakeEvent_keeps {s₀ : State} (k : Fin 6) {s : State} (h₀ : Keeps s₀ s) : KeepsOut s₀ (execWakeEvent k s) := by
  unfold execWakeEvent
  repeat' (first | with_reducible assumption | with_reducible (first | apply State.wakeTimer_keeps | apply State.wake_keeps) | with_reducible apply KeepsOut.ofNext | with_reducible refine KeepsOut.ofIte (fun _ => ?_) (fun _ => ?_) | split)

theorem execWakeTimerExpiry_keeps {s₀ : State} {s : State} (h₀ : Keeps s₀ s) : KeepsOut s₀ (execWakeTimerExpiry s) := by
  unfold execWakeTimerExpiry
  repeat' (first | with_reducible assumption | with_reducible apply State.wakeTimer_keeps | with_reducible apply KeepsOut.ofNext)

theorem execAvsConfirm_keeps {s₀ : State} (mv : BitVec 12) {s : State} (h₀ : Keeps s₀ s) : KeepsOut s₀ (execAvsConfirm mv s) := by
  unfold execAvsConfirm
  repeat' (first | with_reducible assumption | with_reducible apply State.avsRead_keeps | with_reducible apply KeepsOut.ofNext)

theorem execAvsTimeout_keeps {s₀ : State} {s : State} (h₀ : Keeps s₀ s) : KeepsOut s₀ (execAvsTimeout s) := by
  unfold execAvsTimeout
  repeat' (first | with_reducible assumption | with_reducible apply State.avsTimeout_keeps | with_reducible apply KeepsOut.ofNext)

theorem execPowerGood_keeps {s₀ : State} {s : State} (h₀ : Keeps s₀ s) : KeepsOut s₀ (execPowerGood s) := by
  unfold execPowerGood
  repeat' (first | with_reducible assumption | with_reducible apply State.railsGood_keeps | with_reducible apply KeepsOut.ofNext)

theorem execRailUndervoltage_keeps {s₀ : State} {s : State} (h₀ : Keeps s₀ s) : KeepsOut s₀ (execRailUndervoltage s) := by
  unfold execRailUndervoltage
  repeat' (first | with_reducible assumption | with_reducible apply State.railLow_keeps | with_reducible apply KeepsOut.ofNext)

theorem execReferenceClockLost_keeps {s₀ : State} {s : State} (h₀ : Keeps s₀ s) : KeepsOut s₀ (execReferenceClockLost s) := by
  unfold execReferenceClockLost
  repeat' (first | with_reducible assumption | with_reducible apply State.clkLost_keeps | with_reducible apply KeepsOut.ofNext)

theorem execPllLockLost_keeps {s₀ : State} (k : Fin 5) {s : State} (h₀ : Keeps s₀ s) : KeepsOut s₀ (execPllLockLost k s) := by
  unfold execPllLockLost
  repeat' (first | with_reducible assumption | with_reducible apply State.clkLost_keeps | with_reducible apply KeepsOut.ofNext)

theorem execReferenceClockReturn_keeps {s₀ : State} (k : Fin 6) {s : State} (h₀ : Keeps s₀ s) : KeepsOut s₀ (execReferenceClockReturn k s) := by
  unfold execReferenceClockReturn
  repeat' (first | with_reducible assumption | with_reducible apply State.clkBack_keeps | with_reducible apply KeepsOut.ofNext)

end Sys2Proof.Machine
end

