-- ==== Sys2Proof/Laws/KeepsFaultCtl.lean ====
section
/-! SUPPORT. What the operations of Machine/FaultCtl.lean keep: the queue, the canonical form of the stores, every burnt fuse. -/

namespace Sys2Proof.Machine

theorem State.fltReject_keeps {s₀ : State} {s : State} (h₀ : Keeps s₀ s) : Keeps s₀ (State.fltReject s) := by
  unfold State.fltReject
  repeat' (first | with_reducible assumption | with_reducible apply State.wr_keeps)

theorem State.statusClear_keeps {s₀ : State} {s : State} (slot : Nat) (h₀ : Keeps s₀ s) : Keeps s₀ (State.statusClear s slot) := by
  unfold State.statusClear
  repeat' (first | (with_reducible refine Keeps.upd ?_ rfl; first | with_reducible assumption | with_reducible (first | apply State.disarm_keeps | apply State.escalate_keeps | apply State.putBit_keeps)) | split)

theorem State.statusWrite_keeps {s₀ : State} {s : State} (j : Nat) (w : Nat) (h₀ : Keeps s₀ s) : Keeps s₀ (State.statusWrite s j w) := by
  unfold State.statusWrite
  repeat' (first | with_reducible assumption | with_reducible apply State.statusClear_keeps | with_reducible refine Keeps.eachOf ?_ _ _ (fun _ _ _ => ?_) | split)

theorem State.fltCfgWrite_keeps {s₀ : State} {s : State} (slot : Nat) (w : Nat) (h₀ : Keeps s₀ s) : Keeps s₀ (State.fltCfgWrite s slot w) := by
  unfold State.fltCfgWrite
  repeat' (first | with_reducible assumption | with_reducible (first | apply State.escArm_keeps | apply State.fltReject_keeps | apply State.occur_keeps | apply State.writeFields_keeps) | with_reducible refine Keeps.ofIte (fun _ => ?_) (fun _ => ?_))

theorem State.escalate_keeps {s₀ : State} {s : State} (slot : Nat) (h₀ : Keeps s₀ s) : Keeps s₀ (State.escalate s slot) := by
  unfold State.escalate
  repeat' (first | with_reducible refine Keeps.ofIte (fun _ => ?_) (fun _ => ?_) | (with_reducible refine Keeps.upd ?_ rfl; first | with_reducible assumption | with_reducible (first | apply State.disarm_keeps | apply State.enterElytra_keeps | apply State.escArm_keeps | apply State.fltLog_keeps | apply State.irq_keeps | apply State.sat_keeps)))

theorem State.tempSample_keeps {s₀ : State} {s : State} (code : Nat) (h₀ : Keeps s₀ s) : Keeps s₀ (State.tempSample s code) := by
  unfold State.tempSample
  repeat' (first | with_reducible refine Keeps.ofIte (fun _ => ?_) (fun _ => ?_) | (with_reducible refine Keeps.upd ?_ rfl; first | with_reducible assumption | with_reducible (first | apply State.causeOff_keeps | apply State.causeOn_keeps | apply State.free_keeps | apply State.wr_keeps)) | split)

theorem State.selfFault_keeps {s₀ : State} {s : State} (slot : Nat) (h₀ : Keeps s₀ s) : Keeps s₀ (State.selfFault s slot) := by
  unfold State.selfFault
  repeat' (first | (extract_lets +onlyGivenNames x; first | (refine (?_ : Keeps s₀ x → _) ?_; rotate_left; subst x; rotate_left; intro hx; clear_value x) | (refine (?_ : Keeps s₀ x.1 → _) ?_; rotate_left; subst x; rotate_left; intro hx; clear_value x) | (refine (?_ : Keeps s₀ x.2 → _) ?_; rotate_left; subst x; rotate_left; intro hx; clear_value x) | clear_value x) | with_reducible refine Keeps.eachOf ?_ _ _ (fun _ _ _ => ?_) | (with_reducible refine Keeps.upd ?_ rfl; first | with_reducible assumption | with_reducible (first | apply State.enterElytra_keeps | apply State.free_keeps | apply State.putBit_keeps | apply State.wrFree_keeps)) | split)

theorem State.mgmtMismatch_keeps {s₀ : State} {s : State} (h₀ : Keeps s₀ s) : Keeps s₀ (State.mgmtMismatch s) := by
  unfold State.mgmtMismatch
  repeat' ((with_reducible refine Keeps.upd ?_ rfl; first | with_reducible assumption | with_reducible apply State.causeOn_keeps))

theorem State.leaveElytra_keeps {s₀ : State} {s : State} (h₀ : Keeps s₀ s) : Keeps s₀ (State.leaveElytra s) := by
  unfold State.leaveElytra
  repeat' ((with_reducible refine Keeps.upd ?_ rfl; first | with_reducible assumption | with_reducible (first | apply State.resumeBlocks_keeps | apply State.wr_keeps) | (with_reducible refine Keeps.upd ?_ rfl; first | with_reducible assumption | with_reducible (first | apply State.resumeBlocks_keeps | apply State.wr_keeps))))

theorem State.fltCmdWrite_keeps {s₀ : State} {s : State} (w : Nat) (h₀ : Keeps s₀ s) : Keeps s₀ (State.fltCmdWrite s w) := by
  unfold State.fltCmdWrite
  repeat' (first | with_reducible assumption | with_reducible (first | apply State.enterElytra_keeps | apply State.fltReject_keeps | apply State.leaveElytra_keeps | apply State.wr_keeps) | with_reducible refine Keeps.ofIte (fun _ => ?_) (fun _ => ?_))

theorem State.fltCtrlWrite_keeps {s₀ : State} {s : State} (w : Nat) (h₀ : Keeps s₀ s) : Keeps s₀ (State.fltCtrlWrite s w) := by
  unfold State.fltCtrlWrite
  repeat' (first | with_reducible assumption | with_reducible (first | apply State.occur_keeps | apply State.writeReg_keeps) | with_reducible refine Keeps.ofIte (fun _ => ?_) (fun _ => ?_) | with_reducible refine Keeps.eachOf ?_ _ _ (fun _ _ _ => ?_))

theorem State.twarnWrite_keeps {s₀ : State} {s : State} (w : Nat) (h₀ : Keeps s₀ s) : Keeps s₀ (State.twarnWrite s w) := by
  unfold State.twarnWrite
  repeat' (first | with_reducible assumption | with_reducible (first | apply State.fltReject_keeps | apply State.writeReg_keeps) | split)

theorem State.fltWrite_keeps {s₀ : State} {s : State} (off : Nat) (w : Nat) (h₀ : Keeps s₀ s) : KeepsOpt s₀ (State.fltWrite s off w) := by
  unfold State.fltWrite
  repeat' (first | with_reducible assumption | (extract_lets +onlyGivenNames x; first | (refine (?_ : Keeps s₀ x → _) ?_; rotate_left; subst x; rotate_left; intro hx; clear_value x) | clear_value x) | with_reducible (first | apply State.fltCfgWrite_keeps | apply State.fltCmdWrite_keeps | apply State.fltCtrlWrite_keeps | apply State.statusWrite_keeps | apply State.twarnWrite_keeps | apply State.wr_keeps) | with_reducible apply KeepsOpt.ofSome | exact KeepsOpt.ofNone | with_reducible refine Keeps.eachOf ?_ _ _ (fun _ _ _ => ?_) | split)

theorem execFaultStatusClear_keeps {s₀ : State} (j : Fin 8) (w : Word) (hw : Word) {s : State} (h₀ : Keeps s₀ s) : KeepsOut s₀ (execFaultStatusClear j w hw s) := by
  unfold execFaultStatusClear
  repeat' (first | with_reducible assumption | with_reducible apply State.statusWrite_keeps | with_reducible apply KeepsOut.ofNext)

theorem execFaultCfgWrite_keeps {s₀ : State} (slot : Fin 256) (w : Word) {s : State} (h₀ : Keeps s₀ s) : KeepsOut s₀ (execFaultCfgWrite slot w s) := by
  unfold execFaultCfgWrite
  repeat' (first | with_reducible assumption | with_reducible apply State.fltCfgWrite_keeps | with_reducible apply KeepsOut.ofNext)

theorem execFaultEscalation_keeps {s₀ : State} (slot : Fin 256) {s : State} (h₀ : Keeps s₀ s) : KeepsOut s₀ (execFaultEscalation slot s) := by
  unfold execFaultEscalation
  repeat' (first | with_reducible assumption | with_reducible apply State.escalate_keeps | with_reducible apply KeepsOut.ofNext)

theorem execTemperatureSample_keeps {s₀ : State} (code : BitVec 16) {s : State} (h₀ : Keeps s₀ s) : KeepsOut s₀ (execTemperatureSample code s) := by
  unfold execTemperatureSample
  repeat' (first | with_reducible assumption | with_reducible apply State.tempSample_keeps | with_reducible apply KeepsOut.ofNext)

theorem execConfigParitySweep_keeps {s₀ : State} (bad : Bool) {s : State} (h₀ : Keeps s₀ s) : KeepsOut s₀ (execConfigParitySweep bad s) := by
  unfold execConfigParitySweep
  repeat' (first | with_reducible assumption | with_reducible apply State.selfFault_keeps | with_reducible apply KeepsOut.ofNext | split)

theorem execCollectorLockstepMismatch_keeps {s₀ : State} {s : State} (h₀ : Keeps s₀ s) : KeepsOut s₀ (execCollectorLockstepMismatch s) := by
  unfold execCollectorLockstepMismatch
  repeat' (first | with_reducible assumption | with_reducible apply State.selfFault_keeps | with_reducible apply KeepsOut.ofNext)

theorem execMgmtLockstepMismatch_keeps {s₀ : State} {s : State} (h₀ : Keeps s₀ s) : KeepsOut s₀ (execMgmtLockstepMismatch s) := by
  unfold execMgmtLockstepMismatch
  repeat' (first | with_reducible assumption | with_reducible apply State.mgmtMismatch_keeps | with_reducible apply KeepsOut.ofNext)

theorem execMgmtSramEcc_keeps {s₀ : State} (a : BitVec 19) {s : State} (h₀ : Keeps s₀ s) : KeepsOut s₀ (execMgmtSramEcc a s) := by
  unfold execMgmtSramEcc
  repeat' (first | with_reducible assumption | with_reducible apply State.fault_keeps | with_reducible apply KeepsOut.ofNext)

theorem execElytraEnterCommand_keeps {s₀ : State} (w : Word) {s : State} (h₀ : Keeps s₀ s) : KeepsOut s₀ (execElytraEnterCommand w s) := by
  unfold execElytraEnterCommand
  repeat' (first | with_reducible assumption | with_reducible apply State.fltCmdWrite_keeps | with_reducible apply KeepsOut.ofNext)

theorem execElytraExitCommand_keeps {s₀ : State} (w : Word) {s : State} (h₀ : Keeps s₀ s) : KeepsOut s₀ (execElytraExitCommand w s) := by
  unfold execElytraExitCommand
  repeat' (first | with_reducible assumption | with_reducible apply State.fltCmdWrite_keeps | with_reducible apply KeepsOut.ofNext)

end Sys2Proof.Machine
end

