-- ==== Sys2Proof/Laws/KeepsGpio.lean ====
section
/-! SUPPORT. What the operations of Machine/Gpio.lean keep: the queue, the canonical form of the stores, every burnt fuse. -/

namespace Sys2Proof.Machine

theorem State.gpioReject_keeps {s₀ : State} {s : State} (h₀ : Keeps s₀ s) : Keeps s₀ (State.gpioReject s) := by
  unfold State.gpioReject
  repeat' (first | with_reducible assumption | with_reducible apply State.wr_keeps)

theorem State.gpioEdge_keeps {s₀ : State} {s : State} (p : Nat) (ball : Bool) (ago : Nat) (h₀ : Keeps s₀ s) : Keeps s₀ (State.gpioEdge s p ball ago) := by
  unfold State.gpioEdge
  repeat' (first | with_reducible refine Keeps.ofIte (fun _ => ?_) (fun _ => ?_) | (with_reducible refine Keeps.upd ?_ rfl; first | with_reducible assumption | with_reducible (first | apply State.putBit_keeps | apply State.sat_keeps | apply State.wr_keeps)) | split)

theorem State.i2cCmdWrite_keeps {s₀ : State} {s : State} (b : Nat) (w : Nat) (h₀ : Keeps s₀ s) : Keeps s₀ (State.i2cCmdWrite s b w) := by
  unfold State.i2cCmdWrite
  repeat' (first | (with_reducible refine Keeps.upd ?_ rfl; first | with_reducible assumption | with_reducible (first | apply State.arm_keeps | apply State.gpioReject_keeps | apply State.wr_keeps) | (with_reducible refine Keeps.upd ?_ rfl; first | with_reducible assumption | with_reducible (first | apply State.arm_keeps | apply State.gpioReject_keeps | apply State.wr_keeps))) | split)

theorem State.i2cFree_keeps {s₀ : State} {s : State} (b : Nat) (h₀ : Keeps s₀ s) : Keeps s₀ (State.i2cFree s b) := by
  unfold State.i2cFree
  repeat' ((with_reducible refine Keeps.upd ?_ rfl; first | with_reducible assumption))

theorem State.i2cEnd_keeps {s₀ : State} {s : State} (b : Nat) (h₀ : Keeps s₀ s) : Keeps s₀ (State.i2cEnd s b) := by
  unfold State.i2cEnd
  repeat' (first | with_reducible assumption | with_reducible (first | apply State.disarm_keeps | apply State.wr_keeps))

theorem State.i2cDone_keeps {s₀ : State} {s : State} (b : Nat) (outcome : Nat) (data : Byte) (h₀ : Keeps s₀ s) : Keeps s₀ (State.i2cDone s b outcome data) := by
  unfold State.i2cDone
  repeat' (first | with_reducible assumption | with_reducible (first | apply State.i2cEnd_keeps | apply State.i2cFree_keeps | apply State.wr_keeps) | with_reducible refine Keeps.ofIte (fun _ => ?_) (fun _ => ?_) | split)

theorem State.i2cStretch_keeps {s₀ : State} {s : State} (b : Nat) (h₀ : Keeps s₀ s) : Keeps s₀ (State.i2cStretch s b) := by
  unfold State.i2cStretch
  repeat' (first | with_reducible assumption | with_reducible (first | apply State.i2cEnd_keeps | apply State.i2cFree_keeps | apply State.wr_keeps) | split)

theorem State.mdioCmdWrite_keeps {s₀ : State} {s : State} (w : Nat) (h₀ : Keeps s₀ s) : Keeps s₀ (State.mdioCmdWrite s w) := by
  unfold State.mdioCmdWrite
  repeat' (first | (with_reducible refine Keeps.upd ?_ rfl; first | with_reducible assumption | with_reducible (first | apply State.gpioReject_keeps | apply State.wr_keeps) | (with_reducible refine Keeps.upd ?_ rfl; first | with_reducible assumption | with_reducible (first | apply State.gpioReject_keeps | apply State.wr_keeps))) | split)

theorem State.mdioDone_keeps {s₀ : State} {s : State} (resp : Bool) (data : Nat) (h₀ : Keeps s₀ s) : Keeps s₀ (State.mdioDone s resp data) := by
  unfold State.mdioDone
  repeat' (first | with_reducible assumption | with_reducible apply State.wr_keeps | split)

theorem State.gpioPlain_keeps {s₀ : State} {s : State} (off : Nat) (w : Nat) (h₀ : Keeps s₀ s) : Keeps s₀ (State.gpioPlain s off w) := by
  unfold State.gpioPlain
  repeat' (first | with_reducible assumption | with_reducible (first | apply State.gpioReject_keeps | apply State.writeReg_keeps) | split)

theorem State.pinWrite_keeps {s₀ : State} {s : State} (p : Nat) (off : Nat) (w : Nat) (h₀ : Keeps s₀ s) : Keeps s₀ (State.pinWrite s p off w) := by
  unfold State.pinWrite
  repeat' (first | with_reducible assumption | with_reducible (first | apply State.gpioPlain_keeps | apply State.putBit_keeps) | with_reducible refine Keeps.ofIte (fun _ => ?_) (fun _ => ?_))

theorem State.gpioStatWrite_keeps {s₀ : State} {s : State} (w : Nat) (h₀ : Keeps s₀ s) : Keeps s₀ (State.gpioStatWrite s w) := by
  unfold State.gpioStatWrite
  repeat' (first | with_reducible assumption | with_reducible (first | apply State.wr_keeps | apply State.writeReg_keeps) | split)

theorem State.gpioWrite_keeps {s₀ : State} {s : State} (off : Nat) (w : Nat) (h₀ : Keeps s₀ s) : KeepsOpt s₀ (State.gpioWrite s off w) := by
  unfold State.gpioWrite
  repeat' (first | with_reducible assumption | (extract_lets +onlyGivenNames x; first | (refine (?_ : Keeps s₀ x → _) ?_; rotate_left; subst x; rotate_left; intro hx; clear_value x) | clear_value x) | with_reducible (first | apply State.gpioPlain_keeps | apply State.gpioStatWrite_keeps | apply State.i2cCmdWrite_keeps | apply State.mdioCmdWrite_keeps | apply State.pinWrite_keeps) | with_reducible apply KeepsOpt.ofSome | exact KeepsOpt.ofNone | split)

theorem execGpioEdge_keeps {s₀ : State} (p : Fin 32) (ball : Bool) (ago : Nat) {s : State} (h₀ : Keeps s₀ s) : KeepsOut s₀ (execGpioEdge p ball ago s) := by
  unfold execGpioEdge
  repeat' (first | with_reducible assumption | with_reducible apply State.gpioEdge_keeps | with_reducible apply KeepsOut.ofNext)

theorem execI2cWriteByte_keeps {s₀ : State} (b : Fin 2) (w : Word) {s : State} (h₀ : Keeps s₀ s) : KeepsOut s₀ (execI2cWriteByte b w s) := by
  unfold execI2cWriteByte
  repeat' (first | with_reducible assumption | with_reducible apply State.i2cCmdWrite_keeps | with_reducible apply KeepsOut.ofNext)

theorem execI2cReadByte_keeps {s₀ : State} (b : Fin 2) (w : Word) {s : State} (h₀ : Keeps s₀ s) : KeepsOut s₀ (execI2cReadByte b w s) := by
  unfold execI2cReadByte
  repeat' (first | with_reducible assumption | with_reducible apply State.i2cCmdWrite_keeps | with_reducible apply KeepsOut.ofNext)

theorem execI2cCommandDone_keeps {s₀ : State} (b : Fin 2) (outcome : Fin 4) (data : Byte) {s : State} (h₀ : Keeps s₀ s) : KeepsOut s₀ (execI2cCommandDone b outcome data s) := by
  unfold execI2cCommandDone
  repeat' (first | with_reducible assumption | with_reducible apply State.i2cDone_keeps | with_reducible apply KeepsOut.ofNext)

theorem execI2cStretchTimeout_keeps {s₀ : State} (b : Fin 2) {s : State} (h₀ : Keeps s₀ s) : KeepsOut s₀ (execI2cStretchTimeout b s) := by
  unfold execI2cStretchTimeout
  repeat' (first | with_reducible assumption | with_reducible apply State.i2cStretch_keeps | with_reducible apply KeepsOut.ofNext)

theorem execMdioC22Write_keeps {s₀ : State} (w : Word) {s : State} (h₀ : Keeps s₀ s) : KeepsOut s₀ (execMdioC22Write w s) := by
  unfold execMdioC22Write
  repeat' (first | with_reducible assumption | with_reducible apply State.mdioCmdWrite_keeps | with_reducible apply KeepsOut.ofNext)

theorem execMdioC22Read_keeps {s₀ : State} (w : Word) {s : State} (h₀ : Keeps s₀ s) : KeepsOut s₀ (execMdioC22Read w s) := by
  unfold execMdioC22Read
  repeat' (first | with_reducible assumption | with_reducible apply State.mdioCmdWrite_keeps | with_reducible apply KeepsOut.ofNext)

theorem execMdioC45Address_keeps {s₀ : State} (w : Word) {s : State} (h₀ : Keeps s₀ s) : KeepsOut s₀ (execMdioC45Address w s) := by
  unfold execMdioC45Address
  repeat' (first | with_reducible assumption | with_reducible apply State.mdioCmdWrite_keeps | with_reducible apply KeepsOut.ofNext)

theorem execMdioC45Write_keeps {s₀ : State} (w : Word) {s : State} (h₀ : Keeps s₀ s) : KeepsOut s₀ (execMdioC45Write w s) := by
  unfold execMdioC45Write
  repeat' (first | with_reducible assumption | with_reducible apply State.mdioCmdWrite_keeps | with_reducible apply KeepsOut.ofNext)

theorem execMdioC45ReadIncrement_keeps {s₀ : State} (w : Word) {s : State} (h₀ : Keeps s₀ s) : KeepsOut s₀ (execMdioC45ReadIncrement w s) := by
  unfold execMdioC45ReadIncrement
  repeat' (first | with_reducible assumption | with_reducible apply State.mdioCmdWrite_keeps | with_reducible apply KeepsOut.ofNext)

theorem execMdioC45Read_keeps {s₀ : State} (w : Word) {s : State} (h₀ : Keeps s₀ s) : KeepsOut s₀ (execMdioC45Read w s) := by
  unfold execMdioC45Read
  repeat' (first | with_reducible assumption | with_reducible apply State.mdioCmdWrite_keeps | with_reducible apply KeepsOut.ofNext)

theorem execMdioFrameDone_keeps {s₀ : State} (resp : Bool) (data : BitVec 16) {s : State} (h₀ : Keeps s₀ s) : KeepsOut s₀ (execMdioFrameDone resp data s) := by
  unfold execMdioFrameDone
  repeat' (first | with_reducible assumption | with_reducible apply State.mdioDone_keeps | with_reducible apply KeepsOut.ofNext)

end Sys2Proof.Machine
end

