-- ==== Sys2Proof/Laws/KeepsRegisters.lean ====
section
/-! SUPPORT. What the operations of Machine/Registers.lean keep: the queue, the canonical form of the stores, every burnt fuse. -/

namespace Sys2Proof.Machine

theorem State.padStore_keeps {s₀ : State} {s : State} (m : Fin 22) (off : Nat) (n : Nat) (v : Nat) (h₀ : Keeps s₀ s) : Keeps s₀ (State.padStore s m off n v) := by
  unfold State.padStore
  repeat' (first | with_reducible assumption | with_reducible apply State.padCycle_keeps)

theorem State.padLoad_keeps {s₀ : State} {s : State} (m : Fin 22) (off : Nat) (n : Nat) (h₀ : Keeps s₀ s) : Keeps s₀ (State.padLoad s m off n).1 := by
  unfold State.padLoad
  repeat' (first | with_reducible assumption | with_reducible apply State.padCycle_keeps)

theorem State.unmapped_keeps {s₀ : State} {s : State} (off : Nat) (h₀ : Keeps s₀ s) : Keeps s₀ (State.unmapped s off) := by
  unfold State.unmapped
  repeat' (first | with_reducible assumption | with_reducible (first | apply State.fault_keeps | apply State.wr_keeps) | with_reducible refine Keeps.whenIf ?_ _ _ (fun _ _ => ?_))

theorem State.fabWrite_keeps {s₀ : State} {s : State} (off : Nat) (w : Nat) (h₀ : Keeps s₀ s) : KeepsOpt s₀ (State.fabWrite s off w) := by
  unfold State.fabWrite
  repeat' (first | with_reducible assumption | with_reducible (first | apply State.ctxCommand_keeps | apply State.ctxWordWrite_keeps | apply State.ddFlush_keeps | apply State.dlistWrite_keeps | apply State.holdsCheck_keeps | apply State.regionWrite_keeps | apply State.ringCfgWrite_keeps | apply State.selfWrite_keeps | apply State.writeReg_keeps) | with_reducible apply KeepsOpt.ofSome | exact KeepsOpt.ofNone | with_reducible refine Keeps.whenIf ?_ _ _ (fun _ _ => ?_) | split)

theorem State.clearWrite_keeps {s₀ : State} {s : State} (off : Nat) (w : Nat) (h₀ : Keeps s₀ s) : KeepsOpt s₀ (State.clearWrite s off w) := by
  unfold State.clearWrite
  repeat' (first | with_reducible assumption | with_reducible (first | apply State.clearBits_keeps | apply State.wr_keeps) | with_reducible apply KeepsOpt.ofSome | exact KeepsOpt.ofNone | with_reducible refine Keeps.whenIf ?_ _ _ (fun _ _ => ?_) | with_reducible refine Keeps.eachOf ?_ _ _ (fun _ _ _ => ?_) | split)

/-- What a block adds to a write keeps them too. -/
theorem State.blockWrites_keeps {s₀ s : State} (off w : Nat) (mgmt : Bool) (h₀ : Keeps s₀ s) :
    KeepsOpt s₀ ((s.blockWrites off w mgmt).findSome? id) := by
  have one : ∀ a, KeepsOpt s₀ a → KeepsOpt s₀ ([a].findSome? id) := by
    intro a ha; cases a <;> simpa using ha
  have two : ∀ a b, KeepsOpt s₀ a → KeepsOpt s₀ b → KeepsOpt s₀ ([a, b].findSome? id) := by
    intro a b ha hb; cases a
    · cases b <;> simpa using hb
    · simpa using ha
  unfold State.blockWrites
  split
  all_goals first
    | apply two
    | apply one
  all_goals with_reducible first
    | apply State.clearWrite_keeps _ _ h₀ | apply State.fabWrite_keeps _ _ h₀ | apply State.tmuWrite_keeps _ _ h₀
    | apply State.cycWrite_keeps _ _ h₀ | apply State.keyWrite_keeps _ _ _ h₀ | apply State.shpWrite_keeps _ _ h₀
    | apply State.trkWrite_keeps _ _ h₀ | apply State.xswWrite_keeps _ _ h₀ | apply State.edgWrite_keeps _ _ h₀
    | apply State.lneWrite_keeps _ _ h₀ | apply State.tenWrite_keeps _ _ _ h₀ | apply State.dspWrite_keeps _ _ h₀
    | apply State.usbWrite_keeps _ _ h₀ | apply State.rngWrite_keeps _ _ h₀ | apply State.stoWrite_keeps _ _ h₀
    | apply State.serWrite_keeps _ _ h₀ | apply State.dmaWrite_keeps _ _ h₀ | apply State.drcWrite_keeps _ _ h₀
    | apply State.brgWrite_keeps _ _ h₀ | apply State.hswWrite_keeps _ _ h₀ | apply State.updWrite_keeps _ _ h₀
    | apply State.genWrite_keeps _ _ h₀ | apply State.pwrWrite_keeps _ _ h₀ | apply State.fltWrite_keeps _ _ h₀
    | apply State.gpioWrite_keeps _ _ h₀


theorem State.regWrite_keeps {s₀ : State} {s : State} (off : Nat) (w : Nat) (mgmt : Bool) (h₀ : Keeps s₀ s) : Keeps s₀ (State.regWrite s off w mgmt) := by
  unfold State.regWrite
  repeat' (first | with_reducible assumption | with_reducible refine Keeps.ofOpt (by assumption) ?_ | with_reducible apply State.blockWrites_keeps | with_reducible (first | apply State.epMemWrite_keeps | apply State.padStore_keeps | apply State.unmapped_keeps | apply State.writeReg_keeps) | split)

theorem State.regRead_keeps {s₀ : State} {s : State} (off : Nat) (mgmt : Bool) (h₀ : Keeps s₀ s) : Keeps s₀ (State.regRead s off mgmt).1 := by
  unfold State.regRead
  repeat' (first | with_reducible assumption | with_reducible (first | apply State.epMemRead_keeps | apply State.padLoad_keeps | apply State.tsqPop_keeps | apply State.unmapped_keeps) | with_reducible refine Keeps.whenIf ?_ _ _ (fun _ _ => ?_) | split)

theorem State.counterClear_keeps {s₀ : State} {s : State} (off : Nat) (w : Nat) (inc : Nat) (h₀ : Keeps s₀ s) : Keeps s₀ (State.counterClear s off w inc) := by
  unfold State.counterClear
  repeat' (first | with_reducible assumption | with_reducible (first | apply State.regWrite_keeps | apply State.wr_keeps) | with_reducible refine Keeps.eachOf ?_ _ _ (fun _ _ _ => ?_) | split)

theorem execRegisterWrite_keeps {s₀ : State} (off : BitVec 26) (w : Word) (mgmt : Bool) (hw : Word) {s : State} (h₀ : Keeps s₀ s) : KeepsOut s₀ (execRegisterWrite off w mgmt hw s) := by
  unfold execRegisterWrite
  repeat' (first | with_reducible assumption | with_reducible apply State.regWrite_keeps | with_reducible apply KeepsOut.ofNext)

theorem execUnalignedAccess_keeps {s₀ : State} (read : Bool) {s : State} (h₀ : Keeps s₀ s) : KeepsOut s₀ (execUnalignedAccess read s) := by
  unfold execUnalignedAccess
  repeat' (first | with_reducible apply KeepsOut.ofNext | (with_reducible refine Keeps.upd ?_ rfl; first | with_reducible assumption) | split)

theorem execUnmappedRegisterAccess_keeps {s₀ : State} (off : BitVec 26) (read : Bool) {s : State} (h₀ : Keeps s₀ s) : KeepsOut s₀ (execUnmappedRegisterAccess off read s) := by
  unfold execUnmappedRegisterAccess
  repeat' (first | with_reducible apply KeepsOut.ofNext | (with_reducible refine Keeps.upd ?_ rfl; first | with_reducible assumption | with_reducible apply State.unmapped_keeps) | split)

theorem execBlockLockSet_keeps {s₀ : State} (off : BitVec 26) (w : Word) (mgmt : Bool) {s : State} (h₀ : Keeps s₀ s) : KeepsOut s₀ (execBlockLockSet off w mgmt s) := by
  unfold execBlockLockSet
  repeat' (first | with_reducible assumption | with_reducible apply State.regWrite_keeps | with_reducible apply KeepsOut.ofNext)

theorem execCounterClear_keeps {s₀ : State} (off : BitVec 26) (w : Word) (inc : Word) {s : State} (h₀ : Keeps s₀ s) : KeepsOut s₀ (execCounterClear off w inc s) := by
  unfold execCounterClear
  repeat' (first | with_reducible assumption | with_reducible apply State.counterClear_keeps | with_reducible apply KeepsOut.ofNext)

end Sys2Proof.Machine
end

