-- ==== Sys2Proof/Laws/KeepsBoot.lean ====
section
/-! SUPPORT. What the operations of Machine/Boot.lean keep: the queue, the canonical form of the stores, every burnt fuse. -/

namespace Sys2Proof.Machine

theorem State.bootStage_keeps {s₀ : State} {s : State} (st : Nat) (h₀ : Keeps s₀ s) : Keeps s₀ (State.bootStage s st) := by
  unfold State.bootStage
  repeat' (first | with_reducible assumption | with_reducible apply State.wr_keeps)

theorem State.bootHalts_keeps {s₀ : State} {s : State} (code : Nat) (h₀ : Keeps s₀ s) : Keeps s₀ (State.bootHalts s code) := by
  unfold State.bootHalts
  repeat' (first | with_reducible assumption | with_reducible (first | apply State.bootStage_keeps | apply State.causeOn_keeps | apply State.wr_keeps))

theorem State.fuseLoad_keeps {s₀ : State} {s : State} (h₀ : Keeps s₀ s) : Keeps s₀ (State.fuseLoad s) := by
  unfold State.fuseLoad
  repeat' (first | with_reducible assumption | with_reducible (first | apply State.fuseShow_keeps | apply State.hswCalLoad_keeps | apply State.latencyConfig_keeps | apply State.targetsShow_keeps | apply State.wr_keeps) | with_reducible refine Keeps.eachOf ?_ _ _ (fun _ _ _ => ?_) | split)

theorem State.fuseRead_keeps {s₀ : State} {s : State} (cor : List Nat) (bad : List Nat) (h₀ : Keeps s₀ s) : Keeps s₀ (State.fuseRead s cor bad) := by
  unfold State.fuseRead
  repeat' (first | (extract_lets +onlyGivenNames x; first | (refine (?_ : Keeps s₀ x → _) ?_; rotate_left; subst x; rotate_left; intro hx; clear_value x) | (have z : Keys := x; clear z; subst x) | clear_value x) | with_reducible refine Keeps.eachOf ?_ _ _ (fun _ _ _ => ?_) | (with_reducible refine Keeps.upd ?_ rfl; first | with_reducible assumption | with_reducible apply State.sat_keeps))

theorem State.bootFusesRun_keeps {s₀ : State} {s : State} (cor : List Nat) (bad : List Nat) (h₀ : Keeps s₀ s) : Keeps s₀ (State.bootFusesRun s cor bad) := by
  unfold State.bootFusesRun
  repeat' (first | with_reducible assumption | with_reducible (first | apply State.bootHalts_keeps | apply State.bootStage_keeps | apply State.burnOut_keeps | apply State.fuseLoad_keeps | apply State.fuseRead_keeps | apply State.wr_keeps) | with_reducible refine Keeps.ofIte (fun _ => ?_) (fun _ => ?_))

theorem State.rootMake_keeps {s₀ : State} {s : State} (puf : List Byte) (b : Bool) (r : Nat) (h₀ : Keeps s₀ s) : Keeps s₀ (State.rootMake s puf b r).1 := by
  unfold State.rootMake
  repeat' (first | with_reducible assumption | with_reducible (first | apply State.burnBytes_keeps | apply State.burn_keeps | apply State.fault_keeps | apply State.free_keeps | apply State.sat_keeps) | dsimp -zeta only | split)

theorem State.rootRaised_keeps {s₀ : State} {s : State} (root : List Byte) (b : Bool) (h₀ : Keeps s₀ s) : Keeps s₀ (State.rootRaised s root b) := by
  unfold State.rootRaised
  repeat' (first | with_reducible apply State.slotsShow_keeps | (with_reducible refine Keeps.upd ?_ rfl; first | with_reducible assumption | with_reducible (first | apply State.fillPair_keeps | apply State.slotsShow_keeps | apply State.wr_keeps)))

theorem State.rootFails_keeps {s₀ : State} {s : State} (h₀ : Keeps s₀ s) : Keeps s₀ (State.rootFails s) := by
  unfold State.rootFails
  repeat' (first | with_reducible refine Keeps.ofIte (fun _ => ?_) (fun _ => ?_) | (with_reducible refine Keeps.upd ?_ rfl; first | with_reducible assumption | with_reducible apply State.causeOn_keeps))

theorem State.rootRaise_keeps {s₀ : State} {s : State} (puf : List Byte) (ra : Nat) (rb : Nat) (h₀ : Keeps s₀ s) : Keeps s₀ (State.rootRaise s puf ra rb) := by
  unfold State.rootRaise
  repeat' (first | with_reducible assumption | with_reducible (first | apply State.rootFails_keeps | apply State.rootMake_keeps | apply State.rootRaised_keeps) | (first | with_reducible refine Keeps.ofPair (by assumption) ?_) | split)

theorem State.pufAttempt_keeps {s₀ : State} {s0 : State} (ra : Nat) (rb : Nat) (h₀ : Keeps s₀ s0) : Keeps s₀ (State.pufAttempt s0 ra rb) := by
  unfold State.pufAttempt
  repeat' (first | with_reducible apply State.bootStage_keeps | with_reducible refine Keeps.ofIte (fun _ => ?_) (fun _ => ?_) | (with_reducible refine Keeps.upd ?_ rfl; first | with_reducible assumption | with_reducible (first | apply State.arm_keeps | apply State.bootStage_keeps | apply State.free_keeps | apply State.rootFails_keeps | apply State.rootRaise_keeps | apply State.wr_keeps)))

theorem State.bootKeysRun_keeps {s₀ : State} {s : State} (ra : Nat) (rb : Nat) (h₀ : Keeps s₀ s) : Keeps s₀ (State.bootKeysRun s ra rb) := by
  unfold State.bootKeysRun
  repeat' (first | with_reducible assumption | with_reducible apply State.pufAttempt_keeps | split)

theorem State.pufRetry_keeps {s₀ : State} {s : State} (ra : Nat) (rb : Nat) (h₀ : Keeps s₀ s) : Keeps s₀ (State.pufRetry s ra rb) := by
  unfold State.pufRetry
  repeat' (first | with_reducible assumption | with_reducible (first | apply State.disarm_keeps | apply State.pufAttempt_keeps) | with_reducible refine Keeps.ofIte (fun _ => ?_) (fun _ => ?_))

theorem State.bootSramRun_keeps {s₀ : State} {s : State} (h₀ : Keeps s₀ s) : Keeps s₀ (State.bootSramRun s) := by
  unfold State.bootSramRun
  repeat' (first | with_reducible apply State.bootStage_keeps | with_reducible refine Keeps.ofIte (fun _ => ?_) (fun _ => ?_) | with_reducible refine Keeps.setSram ?_ (fun _ => rfl) | (with_reducible refine Keeps.upd ?_ rfl; first | with_reducible assumption | with_reducible apply State.bootStage_keeps))

theorem State.bootTableRun_keeps {s₀ : State} {s : State} (h₀ : Keeps s₀ s) : Keeps s₀ (State.bootTableRun s) := by
  unfold State.bootTableRun
  repeat' (first | with_reducible assumption | with_reducible (first | apply State.bootHalts_keeps | apply State.bootStage_keeps | apply State.wr_keeps) | split)

theorem State.mgmtTry_keeps {s₀ : State} {s : State} (a0 : List TableEntry) (h₀ : Keeps s₀ s) : Keeps s₀ (State.mgmtTry s a0) := by
  unfold State.mgmtTry
  repeat' (first | with_reducible assumption | with_reducible (first | apply State.bootStage_keeps | apply State.wr_keeps) | with_reducible refine Keeps.setSram ?_ (Memory.wf_write _ _) | (with_reducible refine Keeps.upd ?_ rfl; first | with_reducible assumption | with_reducible (first | apply State.bootHalts_keeps | apply State.bootStage_keeps | apply State.mgmtTry_keeps | apply State.wr_keeps)) | split)

theorem State.bootMgmtRun_keeps {s₀ : State} {s : State} (h₀ : Keeps s₀ s) : Keeps s₀ (State.bootMgmtRun s) := by
  unfold State.bootMgmtRun
  repeat' (first | with_reducible assumption | with_reducible (first | apply State.mgmtTry_keeps | apply State.wr_keeps) | with_reducible refine Keeps.ofIte (fun _ => ?_) (fun _ => ?_))

theorem State.cfgStep_keeps {s₀ : State} {s : State} (h₀ : Keeps s₀ s) : Keeps s₀ (State.cfgStep s) := by
  unfold State.cfgStep
  repeat' (first | with_reducible apply State.wr_keeps | (with_reducible refine Keeps.upd ?_ rfl; first | with_reducible assumption | with_reducible (first | apply State.disarm_keeps | apply State.wr_keeps)))

theorem State.cfgEnds_keeps {s₀ : State} {s : State} (c : BootCode) (h₀ : Keeps s₀ s) : Keeps s₀ (State.cfgEnds s c) := by
  unfold State.cfgEnds
  repeat' (first | with_reducible assumption | with_reducible (first | apply State.bootStage_keeps | apply State.disarm_keeps | apply State.wr_keeps))

theorem State.cfgApply_keeps {s₀ : State} {s : State} (a0 : Nat) (h₀ : Keeps s₀ s) : Keeps s₀ (State.cfgApply s a0) := by
  unfold State.cfgApply
  repeat' (first | with_reducible assumption | (extract_lets +onlyGivenNames x; first | (refine (?_ : Keeps s₀ x → _) ?_; rotate_left; subst x; rotate_left; intro hx; clear_value x) | (refine (?_ : Keeps s₀ x.1 → _) ?_; rotate_left; subst x; rotate_left; intro hx; clear_value x) | clear_value x) | with_reducible (first | apply State.arm_keeps | apply State.cfgApply_keeps | apply State.cfgEnds_keeps | apply State.cfgStep_keeps | apply State.regRead_keeps | apply State.regWrite_keeps) | (first | with_reducible refine Keeps.ofPair (by assumption) ?_) | split)

theorem State.cfgTake_keeps {s₀ : State} {s : State} (x : TableEntry) (body : Nat) (h₀ : Keeps s₀ s) : Keeps s₀ (State.cfgTake s x body) := by
  unfold State.cfgTake
  repeat' (first | with_reducible apply State.setPadBytes_keeps | (with_reducible refine Keeps.upd ?_ rfl; first | with_reducible assumption | with_reducible (first | apply State.cfgApply_keeps | apply State.setPadBytes_keeps | apply State.wr_keeps)))

theorem State.cfgTry_keeps {s₀ : State} {s : State} (a0 : List TableEntry) (h₀ : Keeps s₀ s) : Keeps s₀ (State.cfgTry s a0) := by
  unfold State.cfgTry
  repeat' (first | with_reducible assumption | with_reducible (first | apply State.bootStage_keeps | apply State.cfgTake_keeps | apply State.cfgTry_keeps | apply State.wr_keeps) | split)

theorem State.bootConfigRun_keeps {s₀ : State} {s : State} (h₀ : Keeps s₀ s) : Keeps s₀ (State.bootConfigRun s) := by
  unfold State.bootConfigRun
  repeat' (first | with_reducible assumption | with_reducible apply State.cfgTry_keeps | split)

theorem State.configPoll_keeps {s₀ : State} {s : State} (h₀ : Keeps s₀ s) : Keeps s₀ (State.configPoll s) := by
  unfold State.configPoll
  repeat' (first | with_reducible assumption | with_reducible apply State.cfgApply_keeps | split)

theorem State.configPollTimeout_keeps {s₀ : State} {s : State} (h₀ : Keeps s₀ s) : Keeps s₀ (State.configPollTimeout s) := by
  unfold State.configPollTimeout
  repeat' (first | with_reducible assumption | with_reducible (first | apply State.cfgApply_keeps | apply State.cfgEnds_keeps | apply State.regRead_keeps) | with_reducible refine Keeps.ofIte (fun _ => ?_) (fun _ => ?_))

theorem State.configDelay_keeps {s₀ : State} {s : State} (h₀ : Keeps s₀ s) : Keeps s₀ (State.configDelay s) := by
  unfold State.configDelay
  repeat' (first | with_reducible assumption | with_reducible (first | apply State.cfgApply_keeps | apply State.cfgStep_keeps) | with_reducible refine Keeps.ofIte (fun _ => ?_) (fun _ => ?_))

theorem State.engTry_keeps {s₀ : State} {s : State} (k : Nat) (a0 : List TableEntry) (h₀ : Keeps s₀ s) : Keeps s₀ (State.engTry s k a0) := by
  unfold State.engTry
  repeat' (first | with_reducible assumption | (extract_lets +onlyGivenNames x; first | (refine (?_ : Keeps s₀ x → _) ?_; rotate_left; subst x; rotate_left; intro hx; clear_value x) | (refine (?_ : Keeps s₀ x.1 → _) ?_; rotate_left; subst x; rotate_left; intro hx; clear_value x) | clear_value x) | with_reducible (first | apply State.dramWrite_keeps | apply State.engTry_keeps | apply State.verifyImage_keeps | apply State.wr_keeps) | (first | with_reducible refine Keeps.ofPair (by assumption) ?_) | split)

theorem State.engSlots_keeps {s₀ : State} {s : State} (a0 : Nat) (h₀ : Keeps s₀ s) : Keeps s₀ (State.engSlots s a0) := by
  unfold State.engSlots
  repeat' (first | with_reducible apply State.arm_keeps | with_reducible refine Keeps.ofIte (fun _ => ?_) (fun _ => ?_) | (with_reducible refine Keeps.upd ?_ rfl; first | with_reducible assumption | with_reducible (first | apply State.arm_keeps | apply State.bootStage_keeps | apply State.disarm_keeps | apply State.engSlots_keeps | apply State.engTry_keeps | apply State.wr_keeps)) | split)

theorem State.bootEnginesRun_keeps {s₀ : State} {s : State} (h₀ : Keeps s₀ s) : Keeps s₀ (State.bootEnginesRun s) := by
  unfold State.bootEnginesRun
  repeat' (first | with_reducible assumption | with_reducible apply State.engSlots_keeps | split)

theorem State.bootRunRun_keeps {s₀ : State} {s : State} (h₀ : Keeps s₀ s) : Keeps s₀ (State.bootRunRun s) := by
  unfold State.bootRunRun
  repeat' (first | with_reducible refine Keeps.ofIte (fun _ => ?_) (fun _ => ?_) | (with_reducible refine Keeps.upd ?_ rfl; first | with_reducible assumption | with_reducible apply State.wr_keeps))

theorem execBootFuses_keeps {s₀ : State} (cor : List (Fin 512)) (bad : List (Fin 512)) {s : State} (h₀ : Keeps s₀ s) : KeepsOut s₀ (execBootFuses cor bad s) := by
  unfold execBootFuses
  repeat' (first | with_reducible assumption | with_reducible apply State.bootFusesRun_keeps | with_reducible apply KeepsOut.ofNext | intro _)

theorem execBootKeys_keeps {s₀ : State} (ra : Fin 3) (rb : Fin 3) {s : State} (h₀ : Keeps s₀ s) : KeepsOut s₀ (execBootKeys ra rb s) := by
  unfold execBootKeys
  repeat' (first | with_reducible assumption | with_reducible apply State.bootKeysRun_keeps | with_reducible apply KeepsOut.ofNext)

theorem execPufRetry_keeps {s₀ : State} (ra : Fin 3) (rb : Fin 3) {s : State} (h₀ : Keeps s₀ s) : KeepsOut s₀ (execPufRetry ra rb s) := by
  unfold execPufRetry
  repeat' (first | with_reducible assumption | with_reducible apply State.pufRetry_keeps | with_reducible apply KeepsOut.ofNext)

theorem execBootSram_keeps {s₀ : State} {s : State} (h₀ : Keeps s₀ s) : KeepsOut s₀ (execBootSram s) := by
  unfold execBootSram
  repeat' (first | with_reducible assumption | with_reducible apply State.bootSramRun_keeps | with_reducible apply KeepsOut.ofNext)

theorem execBootTable_keeps {s₀ : State} {s : State} (h₀ : Keeps s₀ s) : KeepsOut s₀ (execBootTable s) := by
  unfold execBootTable
  repeat' (first | with_reducible assumption | with_reducible apply State.bootTableRun_keeps | with_reducible apply KeepsOut.ofNext)

theorem execBootMgmt_keeps {s₀ : State} {s : State} (h₀ : Keeps s₀ s) : KeepsOut s₀ (execBootMgmt s) := by
  unfold execBootMgmt
  repeat' (first | with_reducible assumption | with_reducible apply State.bootMgmtRun_keeps | with_reducible apply KeepsOut.ofNext)

theorem execBootConfig_keeps {s₀ : State} {s : State} (h₀ : Keeps s₀ s) : KeepsOut s₀ (execBootConfig s) := by
  unfold execBootConfig
  repeat' (first | with_reducible assumption | with_reducible apply State.bootConfigRun_keeps | with_reducible apply KeepsOut.ofNext)

theorem execConfigPoll_keeps {s₀ : State} {s : State} (h₀ : Keeps s₀ s) : KeepsOut s₀ (execConfigPoll s) := by
  unfold execConfigPoll
  repeat' (first | with_reducible assumption | with_reducible apply State.configPoll_keeps | with_reducible apply KeepsOut.ofNext)

theorem execConfigPollTimeout_keeps {s₀ : State} {s : State} (h₀ : Keeps s₀ s) : KeepsOut s₀ (execConfigPollTimeout s) := by
  unfold execConfigPollTimeout
  repeat' (first | with_reducible assumption | with_reducible apply State.configPollTimeout_keeps | with_reducible apply KeepsOut.ofNext)

theorem execConfigDelay_keeps {s₀ : State} {s : State} (h₀ : Keeps s₀ s) : KeepsOut s₀ (execConfigDelay s) := by
  unfold execConfigDelay
  repeat' (first | with_reducible assumption | with_reducible apply State.configDelay_keeps | with_reducible apply KeepsOut.ofNext)

theorem execBootEngines_keeps {s₀ : State} {s : State} (h₀ : Keeps s₀ s) : KeepsOut s₀ (execBootEngines s) := by
  unfold execBootEngines
  repeat' (first | with_reducible assumption | with_reducible apply State.bootEnginesRun_keeps | with_reducible apply KeepsOut.ofNext)

theorem execBootRun_keeps {s₀ : State} {s : State} (h₀ : Keeps s₀ s) : KeepsOut s₀ (execBootRun s) := by
  unfold execBootRun
  repeat' (first | with_reducible assumption | with_reducible apply State.bootRunRun_keeps | with_reducible apply KeepsOut.ofNext)

end Sys2Proof.Machine
end

