-- ==== Sys2Proof/Laws/KeepsFarMemory.lean ====
section
/-! SUPPORT. What the operations of Machine/FarMemory.lean keep: the queue, the canonical form of the stores, every burnt fuse. -/

namespace Sys2Proof.Machine

theorem State.farRegRead_keeps {s₀ : State} {s : State} (a : Nat) (n : Nat) (h₀ : Keeps s₀ s) : Keeps s₀ (State.farRegRead s a n).1 := by
  unfold State.farRegRead
  repeat' (first | with_reducible assumption | with_reducible (first | apply State.padLoad_keeps | apply State.regRead_keeps) | with_reducible refine Keeps.ofItePair (fun _ => ?_) (fun _ => ?_))

theorem State.farRegWrite_keeps {s₀ : State} {s : State} (a : Nat) (d : List Byte) (h₀ : Keeps s₀ s) : Keeps s₀ (State.farRegWrite s a d).1 := by
  unfold State.farRegWrite
  repeat' (first | with_reducible assumption | with_reducible (first | apply State.padStore_keeps | apply State.regWrite_keeps) | with_reducible refine Keeps.ofItePair (fun _ => ?_) (fun _ => ?_))

theorem State.farRead_keeps {s₀ : State} {s : State} (e : Nat) (a : Nat) (n : Nat) (err : Bool) (h₀ : Keeps s₀ s) : Keeps s₀ (State.farRead s e a n err).1 := by
  unfold State.farRead
  repeat' (first | with_reducible assumption | with_reducible apply State.farRegRead_keeps | split)

theorem State.farWrite_keeps {s₀ : State} {s : State} (e : Nat) (a : Nat) (d : List Byte) (err : Bool) (h₀ : Keeps s₀ s) : Keeps s₀ (State.farWrite s e a d err).1 := by
  unfold State.farWrite
  repeat' (first | with_reducible refine Keeps.setHost ?_ (Memory.wf_write _ _) | (with_reducible refine Keeps.upd ?_ rfl; first | with_reducible assumption | with_reducible apply State.farRegWrite_keeps) | split)

theorem State.setToAck_keeps {s₀ : State} {s : State} (e : Nat) (n : Nat) (h₀ : Keeps s₀ s) : Keeps s₀ (State.setToAck s e n) := by
  unfold State.setToAck
  repeat' ((with_reducible refine Keeps.upd ?_ rfl; first | with_reducible assumption))

theorem State.ackOwed_keeps {s₀ : State} {s : State} (e : Nat) (h₀ : Keeps s₀ s) : Keeps s₀ (State.ackOwed s e) := by
  unfold State.ackOwed
  repeat' (first | with_reducible assumption | with_reducible (first | apply State.arm_keeps | apply State.setToAck_keeps) | with_reducible refine Keeps.whenIf ?_ _ _ (fun _ _ => ?_))

theorem State.farAnswer_keeps {s₀ : State} {s : State} (e : Nat) (m : MemIn) (h₀ : Keeps s₀ s) : Keeps s₀ (State.farAnswer s e m) := by
  unfold State.farAnswer
  repeat' (first | with_reducible assumption | with_reducible (first | apply State.engineSend_keeps | apply State.setToAck_keeps))

theorem State.farExecRead_keeps {s₀ : State} {s : State} (e : Nat) (m : MemIn) (err : Bool) (h₀ : Keeps s₀ s) : Keeps s₀ (State.farExecRead s e m err) := by
  unfold State.farExecRead
  repeat' ((with_reducible refine Keeps.upd ?_ rfl; first | with_reducible assumption | with_reducible (first | apply State.farAnswer_keeps | apply State.farRead_keeps)))

theorem State.farExecWrite_keeps {s₀ : State} {s : State} (e : Nat) (m : MemIn) (err : Bool) (h₀ : Keeps s₀ s) : Keeps s₀ (State.farExecWrite s e m err) := by
  unfold State.farExecWrite
  repeat' (first | (first | with_reducible refine Keeps.ofPair (by assumption) ?_) | (with_reducible refine Keeps.upd ?_ rfl; first | with_reducible assumption | with_reducible (first | apply State.ackOwed_keeps | apply State.farAnswer_keeps | apply State.farWrite_keeps)) | split)

theorem State.farExecSignal_keeps {s₀ : State} {s : State} (e : Nat) (m : MemIn) (h₀ : Keeps s₀ s) : Keeps s₀ (State.farExecSignal s e m) := by
  unfold State.farExecSignal
  repeat' (first | with_reducible assumption | with_reducible (first | apply State.ackOwed_keeps | apply State.brgEvent_keeps | apply State.putBit_keeps))

theorem State.farExec_keeps {s₀ : State} {s : State} (e : Nat) (bs : List Byte) (err : Bool) (h₀ : Keeps s₀ s) : Keeps s₀ (State.farExec s e bs err) := by
  unfold State.farExec
  repeat' (first | with_reducible assumption | with_reducible (first | apply State.farExecRead_keeps | apply State.farExecSignal_keeps | apply State.farExecWrite_keeps | apply State.memCount_keeps) | with_reducible refine Keeps.ofIte (fun _ => ?_) (fun _ => ?_))

theorem State.setFarHeld_keeps {s₀ : State} {s : State} (e : Nat) (l : List (Nat × List Byte)) (h₀ : Keeps s₀ s) : Keeps s₀ (State.setFarHeld s e l) := by
  unfold State.setFarHeld
  repeat' ((with_reducible refine Keeps.upd ?_ rfl; first | with_reducible assumption))

theorem State.setFarNext_keeps {s₀ : State} {s : State} (e : Nat) (q : Option Nat) (h₀ : Keeps s₀ s) : Keeps s₀ (State.setFarNext s e q) := by
  unfold State.setFarNext
  repeat' ((with_reducible refine Keeps.upd ?_ rfl; first | with_reducible assumption))

theorem State.farFollow_keeps {s₀ : State} {s : State} (e : Nat) (q : Nat) (err : Bool) (a0 : Nat) (h₀ : Keeps s₀ s) : Keeps s₀ (State.farFollow s e q err a0) := by
  unfold State.farFollow
  repeat' (first | with_reducible assumption | with_reducible (first | apply State.farExec_keeps | apply State.farFollow_keeps | apply State.setFarHeld_keeps | apply State.setFarNext_keeps) | split)

theorem State.farFlush_keeps {s₀ : State} {s : State} (e : Nat) (q : Nat) (err : Bool) (h₀ : Keeps s₀ s) : Keeps s₀ (State.farFlush s e q err).1 := by
  unfold State.farFlush
  repeat' (first | with_reducible assumption | with_reducible (first | apply State.farExec_keeps | apply State.setFarHeld_keeps) | with_reducible refine Keeps.foldPair (fun _ _ _ => ?_) _ ?_ | split)

theorem State.farErr_keeps {s₀ : State} {s : State} (e : Nat) (n : Nat) (h₀ : Keeps s₀ s) : Keeps s₀ (State.farErr s e n) := by
  unfold State.farErr
  repeat' (first | with_reducible assumption | with_reducible apply State.memErr_keeps | with_reducible refine Keeps.eachOf ?_ _ _ (fun _ _ _ => ?_))

theorem State.farArrive1_keeps {s₀ : State} {s : State} (e : Nat) (q : Nat) (bs : List Byte) (err : Bool) (h₀ : Keeps s₀ s) : Keeps s₀ (State.farArrive1 s e q bs err) := by
  unfold State.farArrive1
  repeat' (first | with_reducible assumption | with_reducible (first | apply State.arm_keeps | apply State.farErr_keeps | apply State.farExec_keeps | apply State.farFlush_keeps | apply State.farFollow_keeps | apply State.memErr_keeps | apply State.setFarHeld_keeps | apply State.setFarNext_keeps) | with_reducible refine Keeps.ofIte (fun _ => ?_) (fun _ => ?_) | with_reducible refine Keeps.whenIf ?_ _ _ (fun _ _ => ?_))

theorem State.farExpire_keeps {s₀ : State} {s : State} (e : Nat) (err : Bool) (h₀ : Keeps s₀ s) : Keeps s₀ (State.farExpire s e err) := by
  unfold State.farExpire
  repeat' (first | with_reducible assumption | with_reducible (first | apply State.farErr_keeps | apply State.farFlush_keeps | apply State.setFarNext_keeps) | with_reducible refine Keeps.ofIte (fun _ => ?_) (fun _ => ?_) | split)

theorem State.farArrive2_keeps {s₀ : State} {s : State} (e : Nat) (bs : List Byte) (quiet : Bool) (err : Bool) (h₀ : Keeps s₀ s) : Keeps s₀ (State.farArrive2 s e bs quiet err) := by
  unfold State.farArrive2
  repeat' (first | with_reducible assumption | with_reducible (first | apply State.engineSend_keeps | apply State.farExec_keeps | apply State.farFollow_keeps | apply State.memErr_keeps | apply State.setFarHeld_keeps | apply State.setFarNext_keeps) | with_reducible refine Keeps.ofIte (fun _ => ?_) (fun _ => ?_) | split)

theorem State.farReceive_keeps {s₀ : State} {s : State} (e : Nat) (tys : List Nat) (err : Bool) (h₀ : Keeps s₀ s) : Keeps s₀ (State.farReceive s e tys err) := by
  unfold State.farReceive
  repeat' (first | with_reducible refine Keeps.ofIte (fun _ => ?_) (fun _ => ?_) | (with_reducible refine Keeps.upd ?_ rfl; first | with_reducible assumption | with_reducible (first | apply State.farArrive1_keeps | apply State.farArrive2_keeps | apply State.memErr_keeps | apply State.takeInbound_keeps)) | split)

theorem State.farAck_keeps {s₀ : State} {s : State} (e : Nat) (h₀ : Keeps s₀ s) : Keeps s₀ (State.farAck s e) := by
  unfold State.farAck
  repeat' (first | with_reducible refine Keeps.ofIte (fun _ => ?_) (fun _ => ?_) | (with_reducible refine Keeps.upd ?_ rfl; first | with_reducible assumption | with_reducible apply State.farAnswer_keeps))

theorem execMemoryReadReceive_keeps {s₀ : State} (e : Fin 128) (err : Bool) {s : State} (h₀ : Keeps s₀ s) : KeepsOut s₀ (execMemoryReadReceive e err s) := by
  unfold execMemoryReadReceive
  repeat' (first | with_reducible assumption | with_reducible apply State.farReceive_keeps | with_reducible apply KeepsOut.ofNext)

theorem execMemoryWriteReceive_keeps {s₀ : State} (e : Fin 128) (err : Bool) {s : State} (h₀ : Keeps s₀ s) : KeepsOut s₀ (execMemoryWriteReceive e err s) := by
  unfold execMemoryWriteReceive
  repeat' (first | with_reducible assumption | with_reducible apply State.farReceive_keeps | with_reducible apply KeepsOut.ofNext)

theorem execSignalReceive_keeps {s₀ : State} (e : Fin 128) (err : Bool) {s : State} (h₀ : Keeps s₀ s) : KeepsOut s₀ (execSignalReceive e err s) := by
  unfold execSignalReceive
  repeat' (first | with_reducible assumption | with_reducible apply State.farReceive_keeps | with_reducible apply KeepsOut.ofNext)

theorem execMemoryAckSend_keeps {s₀ : State} (e : Fin 128) {s : State} (h₀ : Keeps s₀ s) : KeepsOut s₀ (execMemoryAckSend e s) := by
  unfold execMemoryAckSend
  repeat' (first | with_reducible assumption | with_reducible apply State.farAck_keeps | with_reducible apply KeepsOut.ofNext)

theorem execMemoryHoldExpiry_keeps {s₀ : State} (e : Fin 128) (err : Bool) {s : State} (h₀ : Keeps s₀ s) : KeepsOut s₀ (execMemoryHoldExpiry e err s) := by
  unfold execMemoryHoldExpiry
  repeat' (first | with_reducible assumption | with_reducible apply State.farExpire_keeps | with_reducible apply KeepsOut.ofNext)

end Sys2Proof.Machine
end

