-- ==== Sys2Proof/Laws/KeepsDmaMove.lean ====
section
/-! SUPPORT. What the operations of Machine/DmaMove.lean keep: the queue, the canonical form of the stores, every burnt fuse. -/

namespace Sys2Proof.Machine

theorem State.dmaRead_keeps {s₀ : State} {s : State} (d : DmaSide) (dest : Bool) (i : Nat) (u : Nat) (h₀ : Keeps s₀ s) : Keeps s₀ (State.dmaRead s d dest i u).1 := by
  unfold State.dmaRead
  repeat' (first | with_reducible assumption | (extract_lets +onlyGivenNames x; first | (refine (?_ : Keeps s₀ x → _) ?_; rotate_left; subst x; rotate_left; intro hx; clear_value x) | (refine (?_ : Keeps s₀ x.1 → _) ?_; rotate_left; subst x; rotate_left; intro hx; clear_value x) | clear_value x) | with_reducible (first | apply State.padDeny_keeps | apply State.regRead_keeps | apply State.unmapped_keeps) | split)

theorem State.dmaByteWrite_keeps {s₀ : State} {s : State} (space : Nat) (a : Nat) (b : Byte) (h₀ : Keeps s₀ s) : Keeps s₀ (State.dmaByteWrite s space a b).1 := by
  unfold State.dmaByteWrite
  repeat' (first | with_reducible refine Keeps.ofItePair (fun _ => ?_) (fun _ => ?_) | with_reducible refine Keeps.setHost ?_ (Memory.wf_setByte _ _) | (with_reducible refine Keeps.upd ?_ rfl; first | with_reducible assumption | with_reducible (first | apply State.dramWrite_keeps | apply State.padDeny_keeps | apply State.setPadByte_keeps)))

theorem State.dmaBytesWrite_keeps {s₀ : State} {s : State} (d : DmaSide) (i : Nat) (a0 : List Byte) (h₀ : Keeps s₀ s) : Keeps s₀ (State.dmaBytesWrite s d i a0).1 := by
  unfold State.dmaBytesWrite
  repeat' (first | with_reducible assumption | with_reducible (first | apply State.dmaByteWrite_keeps | apply State.dmaBytesWrite_keeps) | (first | with_reducible refine Keeps.ofPair (by assumption) ?_) | split)

theorem State.dmaWriteUnit_keeps {s₀ : State} {s : State} (d : DmaSide) (i : Nat) (l : List Byte) (h₀ : Keeps s₀ s) : Keeps s₀ (State.dmaWriteUnit s d i l).1 := by
  unfold State.dmaWriteUnit
  repeat' (first | with_reducible assumption | with_reducible (first | apply State.dmaBytesWrite_keeps | apply State.padDeny_keeps | apply State.padWrite_keeps | apply State.regWrite_keeps) | with_reducible refine Keeps.ofItePair (fun _ => ?_) (fun _ => ?_))

theorem State.dmaUnitMove_keeps {s₀ : State} {s : State} (n : Nat) (i : Nat) (h₀ : Keeps s₀ s) : Keeps s₀ (State.dmaUnitMove s n i).1 := by
  unfold State.dmaUnitMove
  repeat' (first | with_reducible assumption | with_reducible (first | apply State.dmaRead_keeps | apply State.dmaWriteUnit_keeps) | with_reducible refine Keeps.ofItePair (fun _ => ?_) (fun _ => ?_) | (first | with_reducible refine Keeps.ofPair (by assumption) ?_) | split)

theorem State.dmaMove_keeps {s₀ : State} {s : State} (n : Nat) (a0 : Nat) (a1 : Nat) (h₀ : Keeps s₀ s) : Keeps s₀ (State.dmaMove s n a0 a1).1 := by
  unfold State.dmaMove
  repeat' (first | with_reducible assumption | with_reducible (first | apply State.dmaMove_keeps | apply State.dmaUnitMove_keeps) | (first | with_reducible refine Keeps.ofPair (by assumption) ?_) | split)

theorem State.dmaDone_keeps {s₀ : State} {s : State} (n : Nat) (bytes : Nat) (h₀ : Keeps s₀ s) : Keeps s₀ (State.dmaDone s n bytes) := by
  unfold State.dmaDone
  repeat' (first | with_reducible assumption | with_reducible apply State.wr_keeps)

theorem State.dmaStopped_keeps {s₀ : State} {s : State} (n : Nat) (k : Nat) (r : DmaStop) (fin : State → State) (h₀ : Keeps s₀ s) (g_fin : ∀ x, Keeps s₀ x → Keeps s₀ (fin x)) : Keeps s₀ (State.dmaStopped s n k r fin) := by
  unfold State.dmaStopped
  repeat' (first | with_reducible assumption | (with_reducible first | apply g_fin) | with_reducible (first | apply State.dmaDone_keeps | apply State.dmaEnd_keeps | apply State.dmaHaltAt_keeps | apply State.wr_keeps) | split)

theorem State.dmaComplete_keeps {s₀ : State} {s : State} (n : Nat) (h₀ : Keeps s₀ s) : Keeps s₀ (State.dmaComplete s n) := by
  unfold State.dmaComplete
  repeat' (first | with_reducible assumption | with_reducible (first | apply State.dmaEnd_keeps | apply State.dmaMove_keeps | apply State.dmaStopped_keeps) | split | intro _)

theorem State.dmaFails_keeps {s₀ : State} {s : State} (n : Nat) (k : Nat) (dest : Bool) (cause : Nat) (h₀ : Keeps s₀ s) : Keeps s₀ (State.dmaFails s n k dest cause) := by
  unfold State.dmaFails
  repeat' (first | (with_reducible refine Keeps.upd ?_ rfl; first | with_reducible assumption | with_reducible (first | apply State.dmaHaltAt_keeps | apply State.dramUnc_keeps | apply State.padRead_keeps) | (with_reducible refine Keeps.upd ?_ rfl; first | with_reducible assumption | with_reducible (first | apply State.dmaHaltAt_keeps | apply State.dramUnc_keeps | apply State.padRead_keeps))) | split)

theorem State.dmaBusErr_keeps {s₀ : State} {s : State} (n : Nat) (moved : Nat) (dest : Bool) (cause : Nat) (h₀ : Keeps s₀ s) : Keeps s₀ (State.dmaBusErr s n moved dest cause) := by
  unfold State.dmaBusErr
  repeat' (first | with_reducible assumption | with_reducible (first | apply State.dmaFails_keeps | apply State.dmaMove_keeps | apply State.dmaStopped_keeps) | with_reducible refine Keeps.ofIte (fun _ => ?_) (fun _ => ?_) | intro _)

theorem execDmaTransferDone_keeps {s₀ : State} (n : Fin 32) {s : State} (h₀ : Keeps s₀ s) : KeepsOut s₀ (execDmaTransferDone n s) := by
  unfold execDmaTransferDone
  repeat' (first | with_reducible assumption | with_reducible apply State.dmaComplete_keeps | with_reducible apply KeepsOut.ofNext)

theorem execDmaBusError_keeps {s₀ : State} (n : Fin 32) (moved : Nat) (dest : Bool) (cause : Fin 8) {s : State} (h₀ : Keeps s₀ s) : KeepsOut s₀ (execDmaBusError n moved dest cause s) := by
  unfold execDmaBusError
  repeat' (first | with_reducible assumption | with_reducible apply State.dmaBusErr_keeps | with_reducible apply KeepsOut.ofNext)

end Sys2Proof.Machine
end

