-- ==== Sys2Proof/Laws/KeepsServices.lean ====
section
/-! SUPPORT. What the operations of Machine/Services.lean keep: the queue, the canonical form of the stores, every burnt fuse. -/

namespace Sys2Proof.Machine

theorem State.clearCounts_keeps {s₀ : State} {s : State} (e : Nat) (h₀ : Keeps s₀ s) : Keeps s₀ (State.clearCounts s e) := by
  unfold State.clearCounts
  repeat' (first | with_reducible refine Keeps.ofIte (fun _ => ?_) (fun _ => ?_) | (with_reducible refine Keeps.upd ?_ rfl; first | with_reducible assumption))

theorem State.svcStarts_keeps {s₀ : State} {s : State} (e : Nat) (h₀ : Keeps s₀ s) : Keeps s₀ (State.svcStarts s e) := by
  unfold State.svcStarts
  repeat' (first | with_reducible refine Keeps.ofIte (fun _ => ?_) (fun _ => ?_) | (with_reducible refine Keeps.upd ?_ rfl; first | with_reducible assumption | with_reducible (first | apply State.clearCounts_keeps | apply State.memLose_keeps | apply State.serRingWrite_keeps)))

theorem State.activate_keeps {s₀ : State} {s : State} (e : Nat) (h₀ : Keeps s₀ s) : Keeps s₀ (State.activate s e) := by
  unfold State.activate
  repeat' (first | (extract_lets +onlyGivenNames x; first | (refine (?_ : Keeps s₀ x → _) ?_; rotate_left; subst x; rotate_left; intro hx; clear_value x) | clear_value x) | (with_reducible refine Keeps.upd ?_ rfl; first | with_reducible assumption | with_reducible (first | apply State.readBlock_keeps | apply State.svcStarts_keeps | apply State.wr_keeps)) | split)

theorem State.setRsps_keeps {s₀ : State} {s : State} (n : Nat) (m : Nat) (l : List Nat) (h₀ : Keeps s₀ s) : Keeps s₀ (State.setRsps s n m l) := by
  unfold State.setRsps
  repeat' (first | with_reducible assumption | with_reducible apply State.setRsp_keeps | with_reducible refine Keeps.foldPair (fun _ _ _ => ?_) _ ?_)

theorem State.mbxAnswer_keeps {s₀ : State} {s : State} (n : Nat) (op : Nat) (e : Nat) (h₀ : Keeps s₀ s) : Keeps s₀ (State.mbxAnswer s n op e).1 := by
  unfold State.mbxAnswer
  repeat' (first | with_reducible assumption | with_reducible (first | apply State.clearCounts_keeps | apply State.wr_keeps) | with_reducible refine Keeps.ofItePair (fun _ => ?_) (fun _ => ?_) | split)

theorem State.mbxRespond_keeps {s₀ : State} {s : State} (n : Nat) (m : Nat) (h₀ : Keeps s₀ s) : Keeps s₀ (State.mbxRespond s n m) := by
  unfold State.mbxRespond
  repeat' (first | with_reducible assumption | with_reducible (first | apply State.mbxAnswer_keeps | apply State.mbxEnd_keeps | apply State.mbxLate_keeps | apply State.setRsps_keeps) | with_reducible refine Keeps.ofIte (fun _ => ?_) (fun _ => ?_))

theorem execServiceActivate_keeps {s₀ : State} (e : Fin 128) {s : State} (h₀ : Keeps s₀ s) : KeepsOut s₀ (execServiceActivate e s) := by
  unfold execServiceActivate
  repeat' (first | with_reducible assumption | with_reducible apply State.activate_keeps | with_reducible apply KeepsOut.ofNext)

theorem execMailboxResponse_keeps {s₀ : State} (n : Fin 16) (m : Fin 2) {s : State} (h₀ : Keeps s₀ s) : KeepsOut s₀ (execMailboxResponse n m s) := by
  unfold execMailboxResponse
  repeat' (first | with_reducible assumption | with_reducible apply State.mbxRespond_keeps | with_reducible apply KeepsOut.ofNext)

end Sys2Proof.Machine
end

