-- ==== Sys2Proof/Laws/PerInstr.lean ====
section
/-! SUPPORT. Laws stated per command. `NoWord`: the table gives no row any bits, so no word spells the command (log entry 2). -/

namespace Sys2Proof.Laws

/-- No word of any length spells the command. -/
def NoWord.Statement (i : Instr) : Prop := ∀ nbits w : Nat, decodeTableWord nbits w ≠ some i

theorem NoWord.registerWrite x0 x1 x2 x3 : NoWord.Statement (.registerWrite x0 x1 x2 x3) := fun _ _ => nofun
theorem NoWord.unalignedAccess x0 : NoWord.Statement (.unalignedAccess x0) := fun _ _ => nofun
theorem NoWord.unmappedRegisterAccess x0 x1 : NoWord.Statement (.unmappedRegisterAccess x0 x1) := fun _ _ => nofun
theorem NoWord.blockLockSet x0 x1 x2 : NoWord.Statement (.blockLockSet x0 x1 x2) := fun _ _ => nofun
theorem NoWord.counterClear x0 x1 x2 : NoWord.Statement (.counterClear x0 x1 x2) := fun _ _ => nofun
theorem NoWord.trunkPacketReceive x0 x1 x2 x3 x4 x5 x6 : NoWord.Statement (.trunkPacketReceive x0 x1 x2 x3 x4 x5 x6) := fun _ _ => nofun
theorem NoWord.ilimRetry x0 : NoWord.Statement (.ilimRetry x0) := fun _ _ => nofun
theorem NoWord.policedPacketRelease x0 : NoWord.Statement (.policedPacketRelease x0) := fun _ _ => nofun
theorem NoWord.packetSelect x0 x1 : NoWord.Statement (.packetSelect x0 x1) := fun _ _ => nofun
theorem NoWord.transmitComplete x0 : NoWord.Statement (.transmitComplete x0) := fun _ _ => nofun
theorem NoWord.leakAudit : NoWord.Statement .leakAudit := fun _ _ => nofun
theorem NoWord.fabSelfWrite x0 : NoWord.Statement (.fabSelfWrite x0) := fun _ _ => nofun
theorem NoWord.fabRegionWrite x0 : NoWord.Statement (.fabRegionWrite x0) := fun _ _ => nofun
theorem NoWord.contextWordWrite x0 x1 x2 : NoWord.Statement (.contextWordWrite x0 x1 x2) := fun _ _ => nofun
theorem NoWord.destinationListWrite x0 x1 : NoWord.Statement (.destinationListWrite x0 x1) := fun _ _ => nofun
theorem NoWord.ctxOpen x0 : NoWord.Statement (.ctxOpen x0) := fun _ _ => nofun
theorem NoWord.ctxActivate x0 : NoWord.Statement (.ctxActivate x0) := fun _ _ => nofun
theorem NoWord.ctxClose x0 : NoWord.Statement (.ctxClose x0) := fun _ _ => nofun
theorem NoWord.ctxAbort x0 : NoWord.Statement (.ctxAbort x0) := fun _ _ => nofun
theorem NoWord.ctxcmdComplete : NoWord.Statement .ctxcmdComplete := fun _ _ => nofun
theorem NoWord.openToExpiry x0 : NoWord.Statement (.openToExpiry x0) := fun _ _ => nofun
theorem NoWord.closeToExpiry x0 : NoWord.Statement (.closeToExpiry x0) := fun _ _ => nofun
theorem NoWord.retireExpiry x0 : NoWord.Statement (.retireExpiry x0) := fun _ _ => nofun
theorem NoWord.inflightDrained x0 : NoWord.Statement (.inflightDrained x0) := fun _ _ => nofun
theorem NoWord.tunnelOpenRequest x0 x1 x2 x3 x4 x5 x6 : NoWord.Statement (.tunnelOpenRequest x0 x1 x2 x3 x4 x5 x6) := fun _ _ => nofun
theorem NoWord.tunnelOpenAnswer x0 x1 x2 x3 : NoWord.Statement (.tunnelOpenAnswer x0 x1 x2 x3) := fun _ _ => nofun
theorem NoWord.helloSend x0 x1 : NoWord.Statement (.helloSend x0 x1) := fun _ _ => nofun
theorem NoWord.helloReceive x0 x1 : NoWord.Statement (.helloReceive x0 x1) := fun _ _ => nofun
theorem NoWord.helloLoss x0 : NoWord.Statement (.helloLoss x0) := fun _ _ => nofun
theorem NoWord.timeTick : NoWord.Statement .timeTick := fun _ _ => nofun
theorem NoWord.incrementWrite x0 : NoWord.Statement (.incrementWrite x0) := fun _ _ => nofun
theorem NoWord.setTime : NoWord.Statement .setTime := fun _ _ => nofun
theorem NoWord.step : NoWord.Statement .step := fun _ _ => nofun
theorem NoWord.slew : NoWord.Statement .slew := fun _ _ => nofun
theorem NoWord.snap : NoWord.Statement .snap := fun _ _ => nofun
theorem NoWord.setApply : NoWord.Statement .setApply := fun _ _ => nofun
theorem NoWord.stepApply : NoWord.Statement .stepApply := fun _ _ => nofun
theorem NoWord.slewApply : NoWord.Statement .slewApply := fun _ _ => nofun
theorem NoWord.snapApply : NoWord.Statement .snapApply := fun _ _ => nofun
theorem NoWord.slewEnd : NoWord.Statement .slewEnd := fun _ _ => nofun
theorem NoWord.compareFire x0 : NoWord.Statement (.compareFire x0) := fun _ _ => nofun
theorem NoWord.comparePulseEnd x0 : NoWord.Statement (.comparePulseEnd x0) := fun _ _ => nofun
theorem NoWord.ppsInputEdge x0 x1 x2 : NoWord.Statement (.ppsInputEdge x0 x1 x2) := fun _ _ => nofun
theorem NoWord.ppsInputLos x0 : NoWord.Statement (.ppsInputLos x0) := fun _ _ => nofun
theorem NoWord.ppsOutputEdge x0 : NoWord.Statement (.ppsOutputEdge x0) := fun _ _ => nofun
theorem NoWord.ppsOutputTrail x0 : NoWord.Statement (.ppsOutputTrail x0) := fun _ _ => nofun
theorem NoWord.leapApply : NoWord.Statement .leapApply := fun _ _ => nofun
theorem NoWord.twoStepPop x0 : NoWord.Statement (.twoStepPop x0) := fun _ _ => nofun
theorem NoWord.mainsBoundary : NoWord.Statement .mainsBoundary := fun _ _ => nofun
theorem NoWord.cycSrcWrite x0 : NoWord.Statement (.cycSrcWrite x0) := fun _ _ => nofun
theorem NoWord.cycIncrWrite x0 : NoWord.Statement (.cycIncrWrite x0) := fun _ _ => nofun
theorem NoWord.mainsZcEdge x0 x1 : NoWord.Statement (.mainsZcEdge x0 x1) := fun _ _ => nofun
theorem NoWord.svObservation x0 : NoWord.Statement (.svObservation x0) := fun _ _ => nofun
theorem NoWord.phaseEventProcess : NoWord.Statement .phaseEventProcess := fun _ _ => nofun
theorem NoWord.mainsLosExpiry : NoWord.Statement .mainsLosExpiry := fun _ _ => nofun
theorem NoWord.holdoverExpiry : NoWord.Statement .holdoverExpiry := fun _ _ => nofun
theorem NoWord.angleConversion x0 : NoWord.Statement (.angleConversion x0) := fun _ _ => nofun
theorem NoWord.conversionDone : NoWord.Statement .conversionDone := fun _ _ => nofun
theorem NoWord.laneCtrlWrite x0 x1 : NoWord.Statement (.laneCtrlWrite x0 x1) := fun _ _ => nofun
theorem NoWord.cdrLock x0 : NoWord.Statement (.cdrLock x0) := fun _ _ => nofun
theorem NoWord.cdrAcqTimeout x0 : NoWord.Statement (.cdrAcqTimeout x0) := fun _ _ => nofun
theorem NoWord.headerLock x0 : NoWord.Statement (.headerLock x0) := fun _ _ => nofun
theorem NoWord.headerHuntTimeout x0 : NoWord.Statement (.headerHuntTimeout x0) := fun _ _ => nofun
theorem NoWord.alignmentBlockReceive x0 x1 x2 x3 : NoWord.Statement (.alignmentBlockReceive x0 x1 x2 x3) := fun _ _ => nofun
theorem NoWord.alignTimeout x0 : NoWord.Statement (.alignTimeout x0) := fun _ _ => nofun
theorem NoWord.losDetect x0 x1 : NoWord.Statement (.losDetect x0 x1) := fun _ _ => nofun
theorem NoWord.losClear x0 x1 : NoWord.Statement (.losClear x0 x1) := fun _ _ => nofun
theorem NoWord.cdrLoss x0 : NoWord.Statement (.cdrLoss x0) := fun _ _ => nofun
theorem NoWord.headerLoss x0 x1 x2 : NoWord.Statement (.headerLoss x0 x1 x2) := fun _ _ => nofun
theorem NoWord.alignmentBlockSend x0 x1 : NoWord.Statement (.alignmentBlockSend x0 x1) := fun _ _ => nofun
theorem NoWord.bondSkewMeasure x0 x1 x2 x3 x4 : NoWord.Statement (.bondSkewMeasure x0 x1 x2 x3 x4) := fun _ _ => nofun
theorem NoWord.bondTimeout x0 : NoWord.Statement (.bondTimeout x0) := fun _ _ => nofun
theorem NoWord.bondFailExpiry x0 : NoWord.Statement (.bondFailExpiry x0) := fun _ _ => nofun
theorem NoWord.eyeScanGo x0 x1 : NoWord.Statement (.eyeScanGo x0 x1) := fun _ _ => nofun
theorem NoWord.eyeScanAbort x0 : NoWord.Statement (.eyeScanAbort x0) := fun _ _ => nofun
theorem NoWord.eyeScanDone x0 x1 : NoWord.Statement (.eyeScanDone x0 x1) := fun _ _ => nofun
theorem NoWord.prbsCheckStart x0 x1 : NoWord.Statement (.prbsCheckStart x0 x1) := fun _ _ => nofun
theorem NoWord.prbsCheckerLock x0 x1 : NoWord.Statement (.prbsCheckerLock x0 x1) := fun _ _ => nofun
theorem NoWord.prbsCheckerLoss x0 x1 : NoWord.Statement (.prbsCheckerLoss x0 x1) := fun _ _ => nofun
theorem NoWord.prbsInject x0 : NoWord.Statement (.prbsInject x0) := fun _ _ => nofun
theorem NoWord.trkEnable x0 : NoWord.Statement (.trkEnable x0) := fun _ _ => nofun
theorem NoWord.trkDisable x0 : NoWord.Statement (.trkDisable x0) := fun _ _ => nofun
theorem NoWord.bondTrialTimeout x0 : NoWord.Statement (.bondTrialTimeout x0) := fun _ _ => nofun
theorem NoWord.capabilitySend x0 : NoWord.Statement (.capabilitySend x0) := fun _ _ => nofun
theorem NoWord.capabilityReceive x0 x1 : NoWord.Statement (.capabilityReceive x0 x1) := fun _ _ => nofun
theorem NoWord.trainTimeout x0 : NoWord.Statement (.trainTimeout x0) := fun _ _ => nofun
theorem NoWord.sealTimeout x0 : NoWord.Statement (.sealTimeout x0) := fun _ _ => nofun
theorem NoWord.holdExpiry x0 : NoWord.Statement (.holdExpiry x0) := fun _ _ => nofun
theorem NoWord.sealLoad x0 x1 : NoWord.Statement (.sealLoad x0 x1) := fun _ _ => nofun
theorem NoWord.creditBlockReceive x0 x1 : NoWord.Statement (.creditBlockReceive x0 x1) := fun _ _ => nofun
theorem NoWord.creditReturn x0 : NoWord.Statement (.creditReturn x0) := fun _ _ => nofun
theorem NoWord.creditRefresh x0 : NoWord.Statement (.creditRefresh x0) := fun _ _ => nofun
theorem NoWord.heartbeatLoss x0 : NoWord.Statement (.heartbeatLoss x0) := fun _ _ => nofun
theorem NoWord.creditStall x0 x1 : NoWord.Statement (.creditStall x0 x1) := fun _ _ => nofun
theorem NoWord.grantWrite x0 x1 x2 : NoWord.Statement (.grantWrite x0 x1 x2) := fun _ _ => nofun
theorem NoWord.epochAdvance x0 : NoWord.Statement (.epochAdvance x0) := fun _ _ => nofun
theorem NoWord.rxEpochDerive x0 : NoWord.Statement (.rxEpochDerive x0) := fun _ _ => nofun
theorem NoWord.kl2EnableWrite x0 : NoWord.Statement (.kl2EnableWrite x0) := fun _ _ => nofun
theorem NoWord.kl2PacketReceive x0 : NoWord.Statement (.kl2PacketReceive x0) := fun _ _ => nofun
theorem NoWord.xoffReceive x0 x1 : NoWord.Statement (.xoffReceive x0 x1) := fun _ _ => nofun
theorem NoWord.xoffSend : NoWord.Statement .xoffSend := fun _ _ => nofun
theorem NoWord.xlatWrite x0 x1 : NoWord.Statement (.xlatWrite x0 x1) := fun _ _ => nofun
theorem NoWord.rsmSend x0 : NoWord.Statement (.rsmSend x0) := fun _ _ => nofun
theorem NoWord.rsmReceive x0 x1 : NoWord.Statement (.rsmReceive x0 x1) := fun _ _ => nofun
theorem NoWord.rsmLoss x0 : NoWord.Statement (.rsmLoss x0) := fun _ _ => nofun
theorem NoWord.steeringScan : NoWord.Statement .steeringScan := fun _ _ => nofun
theorem NoWord.restoreExpiry x0 : NoWord.Statement (.restoreExpiry x0) := fun _ _ => nofun
theorem NoWord.ddEntryAge : NoWord.Statement .ddEntryAge := fun _ _ => nofun
theorem NoWord.ddFlush : NoWord.Statement .ddFlush := fun _ _ => nofun
theorem NoWord.qlimWrite x0 x1 : NoWord.Statement (.qlimWrite x0 x1) := fun _ _ => nofun
theorem NoWord.qrsvWrite x0 x1 : NoWord.Statement (.qrsvWrite x0 x1) := fun _ _ => nofun
theorem NoWord.mirrorRuleWrite x0 x1 : NoWord.Statement (.mirrorRuleWrite x0 x1) := fun _ _ => nofun
theorem NoWord.captureCfgWrite x0 : NoWord.Statement (.captureCfgWrite x0) := fun _ _ => nofun
theorem NoWord.captureRdWrite x0 : NoWord.Statement (.captureRdWrite x0) := fun _ _ => nofun
theorem NoWord.captureRecordWrite : NoWord.Statement .captureRecordWrite := fun _ _ => nofun
theorem NoWord.edgeCtrlWrite x0 x1 : NoWord.Statement (.edgeCtrlWrite x0 x1) := fun _ _ => nofun
theorem NoWord.edgeLinkUp x0 x1 x2 : NoWord.Statement (.edgeLinkUp x0 x1 x2) := fun _ _ => nofun
theorem NoWord.edgeLinkDown x0 : NoWord.Statement (.edgeLinkDown x0) := fun _ _ => nofun
theorem NoWord.edgeFrameReceive x0 x1 x2 : NoWord.Statement (.edgeFrameReceive x0 x1 x2) := fun _ _ => nofun
theorem NoWord.shaperRefill : NoWord.Statement .shaperRefill := fun _ _ => nofun
theorem NoWord.gateBoundary x0 : NoWord.Statement (.gateBoundary x0) := fun _ _ => nofun
theorem NoWord.queueSample : NoWord.Statement .queueSample := fun _ _ => nofun
theorem NoWord.bankWrite x0 x1 : NoWord.Statement (.bankWrite x0 x1) := fun _ _ => nofun
theorem NoWord.planCheck : NoWord.Statement .planCheck := fun _ _ => nofun
theorem NoWord.planArm x0 : NoWord.Statement (.planArm x0) := fun _ _ => nofun
theorem NoWord.planDisarm : NoWord.Statement .planDisarm := fun _ _ => nofun
theorem NoWord.planCopy : NoWord.Statement .planCopy := fun _ _ => nofun
theorem NoWord.planCommandDone : NoWord.Statement .planCommandDone := fun _ _ => nofun
theorem NoWord.planSwitch : NoWord.Statement .planSwitch := fun _ _ => nofun
theorem NoWord.planDeadline : NoWord.Statement .planDeadline := fun _ _ => nofun
theorem NoWord.engineEnable x0 : NoWord.Statement (.engineEnable x0) := fun _ _ => nofun
theorem NoWord.engineDisable x0 : NoWord.Statement (.engineDisable x0) := fun _ _ => nofun
theorem NoWord.engineReady x0 : NoWord.Statement (.engineReady x0) := fun _ _ => nofun
theorem NoWord.engineStartTimeout x0 : NoWord.Statement (.engineStartTimeout x0) := fun _ _ => nofun
theorem NoWord.engineWatchdogKick x0 : NoWord.Statement (.engineWatchdogKick x0) := fun _ _ => nofun
theorem NoWord.engineWatchdog x0 : NoWord.Statement (.engineWatchdog x0) := fun _ _ => nofun
theorem NoWord.engineTrap x0 : NoWord.Statement (.engineTrap x0) := fun _ _ => nofun
theorem NoWord.engineEccHalt x0 : NoWord.Statement (.engineEccHalt x0) := fun _ _ => nofun
theorem NoWord.engineRestart x0 : NoWord.Statement (.engineRestart x0) := fun _ _ => nofun
theorem NoWord.serviceBind x0 x1 : NoWord.Statement (.serviceBind x0 x1) := fun _ _ => nofun
theorem NoWord.serviceActivate x0 : NoWord.Statement (.serviceActivate x0) := fun _ _ => nofun
theorem NoWord.serviceUnbind x0 x1 : NoWord.Statement (.serviceUnbind x0 x1) := fun _ _ => nofun
theorem NoWord.engineDispatch x0 : NoWord.Statement (.engineDispatch x0) := fun _ _ => nofun
theorem NoWord.enginePacketSend x0 x1 : NoWord.Statement (.enginePacketSend x0 x1) := fun _ _ => nofun
theorem NoWord.ping x0 x1 : NoWord.Statement (.ping x0 x1) := fun _ _ => nofun
theorem NoWord.stats x0 x1 x2 : NoWord.Statement (.stats x0 x1 x2) := fun _ _ => nofun
theorem NoWord.quiesce x0 x1 x2 : NoWord.Statement (.quiesce x0 x1 x2) := fun _ _ => nofun
theorem NoWord.resume x0 x1 x2 : NoWord.Statement (.resume x0 x1 x2) := fun _ _ => nofun
theorem NoWord.mailboxResponse x0 x1 : NoWord.Statement (.mailboxResponse x0 x1) := fun _ _ => nofun
theorem NoWord.mailboxTimeout x0 x1 : NoWord.Statement (.mailboxTimeout x0 x1) := fun _ _ => nofun
theorem NoWord.eventRecordSend x0 : NoWord.Statement (.eventRecordSend x0) := fun _ _ => nofun
theorem NoWord.svCycleComplete x0 : NoWord.Statement (.svCycleComplete x0) := fun _ _ => nofun
theorem NoWord.scratchpadAccess x0 x1 : NoWord.Statement (.scratchpadAccess x0 x1) := fun _ _ => nofun
theorem NoWord.bankOwnerWrite x0 x1 x2 x3 : NoWord.Statement (.bankOwnerWrite x0 x1 x2 x3) := fun _ _ => nofun
theorem NoWord.bankHandoverDone x0 : NoWord.Statement (.bankHandoverDone x0) := fun _ _ => nofun
theorem NoWord.headEnable x0 x1 : NoWord.Statement (.headEnable x0 x1) := fun _ _ => nofun
theorem NoWord.dpLinkTraining x0 x1 : NoWord.Statement (.dpLinkTraining x0 x1) := fun _ _ => nofun
theorem NoWord.hpdLow : NoWord.Statement .hpdLow := fun _ _ => nofun
theorem NoWord.hpdIrq : NoWord.Statement .hpdIrq := fun _ _ => nofun
theorem NoWord.frameStart x0 x1 : NoWord.Statement (.frameStart x0 x1) := fun _ _ => nofun
theorem NoWord.windowClose x0 : NoWord.Statement (.windowClose x0) := fun _ _ => nofun
theorem NoWord.applyPoint x0 : NoWord.Statement (.applyPoint x0) := fun _ _ => nofun
theorem NoWord.fetchUnderrun x0 x1 x2 x3 x4 : NoWord.Statement (.fetchUnderrun x0 x1 x2 x3 x4) := fun _ _ => nofun
theorem NoWord.softwareCommit x0 x1 : NoWord.Statement (.softwareCommit x0 x1) := fun _ _ => nofun
theorem NoWord.teEdge x0 x1 x2 : NoWord.Statement (.teEdge x0 x1 x2) := fun _ _ => nofun
theorem NoWord.teTimeout x0 : NoWord.Statement (.teTimeout x0) := fun _ _ => nofun
theorem NoWord.displayTile x0 : NoWord.Statement (.displayTile x0) := fun _ _ => nofun
theorem NoWord.displayPalette x0 : NoWord.Statement (.displayPalette x0) := fun _ _ => nofun
theorem NoWord.displayCommit x0 : NoWord.Statement (.displayCommit x0) := fun _ _ => nofun
theorem NoWord.displayAckSend x0 : NoWord.Statement (.displayAckSend x0) := fun _ _ => nofun
theorem NoWord.tileCopyback x0 x1 : NoWord.Statement (.tileCopyback x0 x1) := fun _ _ => nofun
theorem NoWord.dstat x0 x1 x2 : NoWord.Statement (.dstat x0 x1 x2) := fun _ _ => nofun
theorem NoWord.dclr x0 x1 x2 : NoWord.Statement (.dclr x0 x1 x2) := fun _ _ => nofun
theorem NoWord.usbAttach : NoWord.Statement .usbAttach := fun _ _ => nofun
theorem NoWord.usbDetach : NoWord.Statement .usbDetach := fun _ _ => nofun
theorem NoWord.usbBusReset x0 x1 : NoWord.Statement (.usbBusReset x0 x1) := fun _ _ => nofun
theorem NoWord.usbSuspend : NoWord.Statement .usbSuspend := fun _ _ => nofun
theorem NoWord.usbResume : NoWord.Statement .usbResume := fun _ _ => nofun
theorem NoWord.usbRemoteWake x0 : NoWord.Statement (.usbRemoteWake x0) := fun _ _ => nofun
theorem NoWord.remoteWakeEnd : NoWord.Statement .remoteWakeEnd := fun _ _ => nofun
theorem NoWord.portModeWrite x0 x1 : NoWord.Statement (.portModeWrite x0 x1) := fun _ _ => nofun
theorem NoWord.localPortRequest x0 x1 x2 : NoWord.Statement (.localPortRequest x0 x1 x2) := fun _ _ => nofun
theorem NoWord.portConnect x0 x1 x2 : NoWord.Statement (.portConnect x0 x1 x2) := fun _ _ => nofun
theorem NoWord.portResetEnd x0 x1 : NoWord.Statement (.portResetEnd x0 x1) := fun _ _ => nofun
theorem NoWord.nearPortRequest x0 x1 : NoWord.Statement (.nearPortRequest x0 x1) := fun _ _ => nofun
theorem NoWord.startSplit x0 x1 x2 x3 x4 : NoWord.Statement (.startSplit x0 x1 x2 x3 x4) := fun _ _ => nofun
theorem NoWord.completeSplit x0 x1 x2 x3 : NoWord.Statement (.completeSplit x0 x1 x2 x3) := fun _ _ => nofun
theorem NoWord.xferReceive x0 : NoWord.Statement (.xferReceive x0) := fun _ _ => nofun
theorem NoWord.deviceTransactionDone x0 x1 : NoWord.Statement (.deviceTransactionDone x0 x1) := fun _ _ => nofun
theorem NoWord.resultReceive x0 : NoWord.Statement (.resultReceive x0) := fun _ _ => nofun
theorem NoWord.xferRto x0 x1 : NoWord.Statement (.xferRto x0 x1) := fun _ _ => nofun
theorem NoWord.sofSend x0 : NoWord.Statement (.sofSend x0) := fun _ _ => nofun
theorem NoWord.interruptPoll x0 x1 x2 : NoWord.Statement (.interruptPoll x0 x1 x2) := fun _ _ => nofun
theorem NoWord.periodicReceive x0 : NoWord.Statement (.periodicReceive x0) := fun _ _ => nofun
theorem NoWord.perackReceive x0 : NoWord.Statement (.perackReceive x0) := fun _ _ => nofun
theorem NoWord.periodicRto x0 x1 x2 : NoWord.Statement (.periodicRto x0 x1 x2) := fun _ _ => nofun
theorem NoWord.portcmdReceive x0 : NoWord.Statement (.portcmdReceive x0) := fun _ _ => nofun
theorem NoWord.portackReceive x0 : NoWord.Statement (.portackReceive x0) := fun _ _ => nofun
theorem NoWord.portcmdTimeout x0 : NoWord.Statement (.portcmdTimeout x0) := fun _ _ => nofun
theorem NoWord.portstatSend x0 : NoWord.Statement (.portstatSend x0) := fun _ _ => nofun
theorem NoWord.portstatReceive x0 : NoWord.Statement (.portstatReceive x0) := fun _ _ => nofun
theorem NoWord.proxySilence x0 : NoWord.Statement (.proxySilence x0) := fun _ _ => nofun
theorem NoWord.wakeReceive x0 : NoWord.Statement (.wakeReceive x0) := fun _ _ => nofun
theorem NoWord.ustat x0 x1 x2 : NoWord.Statement (.ustat x0 x1 x2) := fun _ _ => nofun
theorem NoWord.uclr x0 x1 x2 : NoWord.Statement (.uclr x0 x1 x2) := fun _ _ => nofun
theorem NoWord.endpointEnable x0 x1 : NoWord.Statement (.endpointEnable x0 x1) := fun _ _ => nofun
theorem NoWord.endpointArm x0 x1 : NoWord.Statement (.endpointArm x0 x1) := fun _ _ => nofun
theorem NoWord.endpointDisarm x0 : NoWord.Statement (.endpointDisarm x0) := fun _ _ => nofun
theorem NoWord.endpointHalt x0 : NoWord.Statement (.endpointHalt x0) := fun _ _ => nofun
theorem NoWord.setupReceive x0 x1 x2 : NoWord.Statement (.setupReceive x0 x1 x2) := fun _ _ => nofun
theorem NoWord.endpointToken x0 x1 x2 : NoWord.Statement (.endpointToken x0 x1 x2) := fun _ _ => nofun
theorem NoWord.endpointMemoryAccess x0 x1 : NoWord.Statement (.endpointMemoryAccess x0 x1) := fun _ _ => nofun
theorem NoWord.blockCmdReceive x0 : NoWord.Statement (.blockCmdReceive x0) := fun _ _ => nofun
theorem NoWord.blockCmdExecute x0 x1 : NoWord.Statement (.blockCmdExecute x0 x1) := fun _ _ => nofun
theorem NoWord.blockDataReceive x0 : NoWord.Statement (.blockDataReceive x0) := fun _ _ => nofun
theorem NoWord.blockCmdComplete x0 x1 : NoWord.Statement (.blockCmdComplete x0 x1) := fun _ _ => nofun
theorem NoWord.blockCplReceive x0 : NoWord.Statement (.blockCplReceive x0) := fun _ _ => nofun
theorem NoWord.blockRto x0 x1 : NoWord.Statement (.blockRto x0 x1) := fun _ _ => nofun
theorem NoWord.blockDataTimeout x0 x1 : NoWord.Statement (.blockDataTimeout x0 x1) := fun _ _ => nofun
theorem NoWord.tagQuarantineEnd x0 x1 : NoWord.Statement (.tagQuarantineEnd x0 x1) := fun _ _ => nofun
theorem NoWord.bstat x0 x1 x2 : NoWord.Statement (.bstat x0 x1 x2) := fun _ _ => nofun
theorem NoWord.bclr x0 x1 x2 : NoWord.Statement (.bclr x0 x1 x2) := fun _ _ => nofun
theorem NoWord.backendEnable x0 : NoWord.Statement (.backendEnable x0) := fun _ _ => nofun
theorem NoWord.backendInitDone x0 x1 x2 x3 x4 x5 x6 x7 : NoWord.Statement (.backendInitDone x0 x1 x2 x3 x4 x5 x6 x7) := fun _ _ => nofun
theorem NoWord.backendCommandDone x0 x1 x2 x3 x4 : NoWord.Statement (.backendCommandDone x0 x1 x2 x3 x4) := fun _ _ => nofun
theorem NoWord.backendCommandTimeout x0 x1 : NoWord.Statement (.backendCommandTimeout x0 x1) := fun _ _ => nofun
theorem NoWord.backendRemoval x0 : NoWord.Statement (.backendRemoval x0) := fun _ _ => nofun
theorem NoWord.cardDetect x0 x1 : NoWord.Statement (.cardDetect x0 x1) := fun _ _ => nofun
theorem NoWord.uartCharacterReceive x0 x1 x2 x3 : NoWord.Statement (.uartCharacterReceive x0 x1 x2 x3) := fun _ _ => nofun
theorem NoWord.uartGapExpiry x0 : NoWord.Statement (.uartGapExpiry x0) := fun _ _ => nofun
theorem NoWord.uartLineStuck x0 : NoWord.Statement (.uartLineStuck x0) := fun _ _ => nofun
theorem NoWord.uartLineRelease x0 : NoWord.Statement (.uartLineRelease x0) := fun _ _ => nofun
theorem NoWord.uartRingWrite x0 x1 x2 : NoWord.Statement (.uartRingWrite x0 x1 x2) := fun _ _ => nofun
theorem NoWord.uartTransmit x0 : NoWord.Statement (.uartTransmit x0) := fun _ _ => nofun
theorem NoWord.serialMessageSend x0 : NoWord.Statement (.serialMessageSend x0) := fun _ _ => nofun
theorem NoWord.serialMessageReceive x0 : NoWord.Statement (.serialMessageReceive x0) := fun _ _ => nofun
theorem NoWord.serialHoldExpiry x0 : NoWord.Statement (.serialHoldExpiry x0) := fun _ _ => nofun
theorem NoWord.sstat x0 x1 x2 : NoWord.Statement (.sstat x0 x1 x2) := fun _ _ => nofun
theorem NoWord.sclr x0 x1 x2 : NoWord.Statement (.sclr x0 x1 x2) := fun _ _ => nofun
theorem NoWord.irigOnTime x0 : NoWord.Statement (.irigOnTime x0) := fun _ _ => nofun
theorem NoWord.irigFrame x0 : NoWord.Statement (.irigFrame x0) := fun _ _ => nofun
theorem NoWord.irigLos : NoWord.Statement .irigLos := fun _ _ => nofun
theorem NoWord.irigOutputSecond : NoWord.Statement .irigOutputSecond := fun _ _ => nofun
theorem NoWord.perstAssert : NoWord.Statement .perstAssert := fun _ _ => nofun
theorem NoWord.pcieLinkUp x0 x1 : NoWord.Statement (.pcieLinkUp x0 x1) := fun _ _ => nofun
theorem NoWord.pcieLinkDown : NoWord.Statement .pcieLinkDown := fun _ _ => nofun
theorem NoWord.hotReset : NoWord.Statement .hotReset := fun _ _ => nofun
theorem NoWord.functionLevelReset : NoWord.Statement .functionLevelReset := fun _ _ => nofun
theorem NoWord.busMasterChange x0 x1 : NoWord.Statement (.busMasterChange x0 x1) := fun _ _ => nofun
theorem NoWord.ringEnable x0 x1 : NoWord.Statement (.ringEnable x0 x1) := fun _ _ => nofun
theorem NoWord.ringDisable x0 : NoWord.Statement (.ringDisable x0) := fun _ _ => nofun
theorem NoWord.ringDrained x0 : NoWord.Statement (.ringDrained x0) := fun _ _ => nofun
theorem NoWord.doorbellWrite x0 x1 x2 x3 : NoWord.Statement (.doorbellWrite x0 x1 x2 x3) := fun _ _ => nofun
theorem NoWord.eventDoorbellWrite x0 : NoWord.Statement (.eventDoorbellWrite x0) := fun _ _ => nofun
theorem NoWord.eventRingEnable x0 : NoWord.Statement (.eventRingEnable x0) := fun _ _ => nofun
theorem NoWord.descriptorFetch x0 x1 : NoWord.Statement (.descriptorFetch x0 x1) := fun _ _ => nofun
theorem NoWord.txDescriptor x0 x1 : NoWord.Statement (.txDescriptor x0 x1) := fun _ _ => nofun
theorem NoWord.rxDelivery x0 x1 : NoWord.Statement (.rxDelivery x0 x1) := fun _ _ => nofun
theorem NoWord.rxwaitExpiry x0 : NoWord.Statement (.rxwaitExpiry x0) := fun _ _ => nofun
theorem NoWord.svcDescriptor x0 : NoWord.Statement (.svcDescriptor x0) := fun _ _ => nofun
theorem NoWord.svcComplete x0 x1 : NoWord.Statement (.svcComplete x0 x1) := fun _ _ => nofun
theorem NoWord.holdoffExpiry x0 : NoWord.Statement (.holdoffExpiry x0) := fun _ _ => nofun
theorem NoWord.windowEnable x0 x1 : NoWord.Statement (.windowEnable x0 x1) := fun _ _ => nofun
theorem NoWord.bridgeRead x0 x1 x2 : NoWord.Statement (.bridgeRead x0 x1 x2) := fun _ _ => nofun
theorem NoWord.bridgeWrite x0 x1 x2 x3 : NoWord.Statement (.bridgeWrite x0 x1 x2 x3) := fun _ _ => nofun
theorem NoWord.bridgeAccessIssue x0 : NoWord.Statement (.bridgeAccessIssue x0) := fun _ _ => nofun
theorem NoWord.bridgeReadTimeout x0 : NoWord.Statement (.bridgeReadTimeout x0) := fun _ _ => nofun
theorem NoWord.rdataReceive x0 : NoWord.Statement (.rdataReceive x0) := fun _ _ => nofun
theorem NoWord.memoryReadReceive x0 x1 : NoWord.Statement (.memoryReadReceive x0 x1) := fun _ _ => nofun
theorem NoWord.memoryWriteReceive x0 x1 : NoWord.Statement (.memoryWriteReceive x0 x1) := fun _ _ => nofun
theorem NoWord.signalReceive x0 x1 : NoWord.Statement (.signalReceive x0 x1) := fun _ _ => nofun
theorem NoWord.memoryAckSend x0 : NoWord.Statement (.memoryAckSend x0) := fun _ _ => nofun
theorem NoWord.memoryAckReceive x0 : NoWord.Statement (.memoryAckReceive x0) := fun _ _ => nofun
theorem NoWord.wfailReceive x0 : NoWord.Statement (.wfailReceive x0) := fun _ _ => nofun
theorem NoWord.memoryRto x0 : NoWord.Statement (.memoryRto x0) := fun _ _ => nofun
theorem NoWord.memoryHoldExpiry x0 x1 : NoWord.Statement (.memoryHoldExpiry x0 x1) := fun _ _ => nofun
theorem NoWord.signalSend x0 : NoWord.Statement (.signalSend x0) := fun _ _ => nofun
theorem NoWord.prefetchLineExpiry x0 x1 : NoWord.Statement (.prefetchLineExpiry x0 x1) := fun _ _ => nofun
theorem NoWord.mstat x0 x1 x2 : NoWord.Statement (.mstat x0 x1 x2) := fun _ _ => nofun
theorem NoWord.mclr x0 x1 x2 : NoWord.Statement (.mclr x0 x1 x2) := fun _ _ => nofun
theorem NoWord.dmaEnable x0 : NoWord.Statement (.dmaEnable x0) := fun _ _ => nofun
theorem NoWord.dmaDisable x0 : NoWord.Statement (.dmaDisable x0) := fun _ _ => nofun
theorem NoWord.shadowValid x0 x1 : NoWord.Statement (.shadowValid x0 x1) := fun _ _ => nofun
theorem NoWord.dmaLoad x0 : NoWord.Statement (.dmaLoad x0) := fun _ _ => nofun
theorem NoWord.dmaStartAt x0 : NoWord.Statement (.dmaStartAt x0) := fun _ _ => nofun
theorem NoWord.dmaTransferDone x0 : NoWord.Statement (.dmaTransferDone x0) := fun _ _ => nofun
theorem NoWord.dmaBusError x0 x1 x2 x3 : NoWord.Statement (.dmaBusError x0 x1 x2 x3) := fun _ _ => nofun
theorem NoWord.dmaResume x0 : NoWord.Statement (.dmaResume x0) := fun _ _ => nofun
theorem NoWord.dramTrainingStart x0 : NoWord.Statement (.dramTrainingStart x0) := fun _ _ => nofun
theorem NoWord.dramTrainingDone x0 : NoWord.Statement (.dramTrainingDone x0) := fun _ _ => nofun
theorem NoWord.dramScrub x0 x1 : NoWord.Statement (.dramScrub x0 x1) := fun _ _ => nofun
theorem NoWord.hash : NoWord.Statement .hash := fun _ _ => nofun
theorem NoWord.hmac x0 : NoWord.Statement (.hmac x0) := fun _ _ => nofun
theorem NoWord.kdf x0 x1 : NoWord.Statement (.kdf x0 x1) := fun _ _ => nofun
theorem NoWord.kdfec x0 x1 : NoWord.Statement (.kdfec x0 x1) := fun _ _ => nofun
theorem NoWord.keygen x0 x1 : NoWord.Statement (.keygen x0 x1) := fun _ _ => nofun
theorem NoWord.pubkey x0 : NoWord.Statement (.pubkey x0) := fun _ _ => nofun
theorem NoWord.sign x0 : NoWord.Statement (.sign x0) := fun _ _ => nofun
theorem NoWord.verify : NoWord.Statement .verify := fun _ _ => nofun
theorem NoWord.ecdhkdf x0 x1 : NoWord.Statement (.ecdhkdf x0 x1) := fun _ _ => nofun
theorem NoWord.random x0 : NoWord.Statement (.random x0) := fun _ _ => nofun
theorem NoWord.destroy x0 : NoWord.Statement (.destroy x0) := fun _ _ => nofun
theorem NoWord.imgver x0 : NoWord.Statement (.imgver x0) := fun _ _ => nofun
theorem NoWord.enroll x0 : NoWord.Statement (.enroll x0) := fun _ _ => nofun
theorem NoWord.lcadv x0 x1 : NoWord.Statement (.lcadv x0 x1) := fun _ _ => nofun
theorem NoWord.arbadv x0 x1 : NoWord.Statement (.arbadv x0 x1) := fun _ _ => nofun
theorem NoWord.revoke x0 x1 : NoWord.Statement (.revoke x0 x1) := fun _ _ => nofun
theorem NoWord.fuse x0 : NoWord.Statement (.fuse x0) := fun _ _ => nofun
theorem NoWord.keyCommandDone : NoWord.Statement .keyCommandDone := fun _ _ => nofun
theorem NoWord.slotCheckSweep : NoWord.Statement .slotCheckSweep := fun _ _ => nofun
theorem NoWord.offerSend x0 : NoWord.Statement (.offerSend x0) := fun _ _ => nofun
theorem NoWord.offerReceive x0 x1 : NoWord.Statement (.offerReceive x0 x1) := fun _ _ => nofun
theorem NoWord.proofReceive x0 x1 : NoWord.Statement (.proofReceive x0 x1) := fun _ _ => nofun
theorem NoWord.abortReceive x0 x1 : NoWord.Statement (.abortReceive x0 x1) := fun _ _ => nofun
theorem NoWord.certreqReceive x0 x1 : NoWord.Statement (.certreqReceive x0 x1) := fun _ _ => nofun
theorem NoWord.chainReceive x0 x1 x2 x3 : NoWord.Statement (.chainReceive x0 x1 x2 x3) := fun _ _ => nofun
theorem NoWord.powerOnReset : NoWord.Statement .powerOnReset := fun _ _ => nofun
theorem NoWord.porstAssert : NoWord.Statement .porstAssert := fun _ _ => nofun
theorem NoWord.chipReset x0 : NoWord.Statement (.chipReset x0) := fun _ _ => nofun
theorem NoWord.chipResetRelease x0 x1 x2 : NoWord.Statement (.chipResetRelease x0 x1 x2) := fun _ _ => nofun
theorem NoWord.genRstChip x0 : NoWord.Statement (.genRstChip x0) := fun _ _ => nofun
theorem NoWord.genRstMgmt x0 : NoWord.Statement (.genRstMgmt x0) := fun _ _ => nofun
theorem NoWord.mgmtReset x0 : NoWord.Statement (.mgmtReset x0) := fun _ _ => nofun
theorem NoWord.mgmtWatchdogKick x0 : NoWord.Statement (.mgmtWatchdogKick x0) := fun _ _ => nofun
theorem NoWord.mgmtWatchdogExpiry : NoWord.Statement .mgmtWatchdogExpiry := fun _ _ => nofun
theorem NoWord.bootFuses x0 x1 : NoWord.Statement (.bootFuses x0 x1) := fun _ _ => nofun
theorem NoWord.bootKeys x0 x1 : NoWord.Statement (.bootKeys x0 x1) := fun _ _ => nofun
theorem NoWord.pufRetry x0 x1 : NoWord.Statement (.pufRetry x0 x1) := fun _ _ => nofun
theorem NoWord.bootSram : NoWord.Statement .bootSram := fun _ _ => nofun
theorem NoWord.bootTable : NoWord.Statement .bootTable := fun _ _ => nofun
theorem NoWord.bootMgmt : NoWord.Statement .bootMgmt := fun _ _ => nofun
theorem NoWord.bootConfig : NoWord.Statement .bootConfig := fun _ _ => nofun
theorem NoWord.configPoll : NoWord.Statement .configPoll := fun _ _ => nofun
theorem NoWord.configPollTimeout : NoWord.Statement .configPollTimeout := fun _ _ => nofun
theorem NoWord.configDelay : NoWord.Statement .configDelay := fun _ _ => nofun
theorem NoWord.bootEngines : NoWord.Statement .bootEngines := fun _ _ => nofun
theorem NoWord.bootRun : NoWord.Statement .bootRun := fun _ _ => nofun
theorem NoWord.imageSlotWrite x0 x1 x2 : NoWord.Statement (.imageSlotWrite x0 x1 x2) := fun _ _ => nofun
theorem NoWord.seatDebounceComplete : NoWord.Statement .seatDebounceComplete := fun _ _ => nofun
theorem NoWord.removal : NoWord.Statement .removal := fun _ _ => nofun
theorem NoWord.feedValid x0 : NoWord.Statement (.feedValid x0) := fun _ _ => nofun
theorem NoWord.feedUndervoltage x0 : NoWord.Statement (.feedUndervoltage x0) := fun _ _ => nofun
theorem NoWord.feedOvervoltage x0 x1 : NoWord.Statement (.feedOvervoltage x0 x1) := fun _ _ => nofun
theorem NoWord.idealDiodeOn x0 : NoWord.Statement (.idealDiodeOn x0) := fun _ _ => nofun
theorem NoWord.idealDiodeReverseOff x0 : NoWord.Statement (.idealDiodeReverseOff x0) := fun _ _ => nofun
theorem NoWord.feedcOvervoltage x0 : NoWord.Statement (.feedcOvervoltage x0) := fun _ _ => nofun
theorem NoWord.noFeed : NoWord.Statement .noFeed := fun _ _ => nofun
theorem NoWord.rampEnd : NoWord.Statement .rampEnd := fun _ _ => nofun
theorem NoWord.pathgdRise : NoWord.Statement .pathgdRise := fun _ _ => nofun
theorem NoWord.limitRecompute x0 x1 x2 x3 x4 x5 x6 : NoWord.Statement (.limitRecompute x0 x1 x2 x3 x4 x5 x6) := fun _ _ => nofun
theorem NoWord.faultTimerTrip : NoWord.Statement .faultTimerTrip := fun _ _ => nofun
theorem NoWord.fastTrip x0 : NoWord.Statement (.fastTrip x0) := fun _ _ => nofun
theorem NoWord.retryExpiry : NoWord.Statement .retryExpiry := fun _ _ => nofun
theorem NoWord.retryReset : NoWord.Statement .retryReset := fun _ _ => nofun
theorem NoWord.pathOffCommand x0 : NoWord.Statement (.pathOffCommand x0) := fun _ _ => nofun
theorem NoWord.pathOnCommand x0 : NoWord.Statement (.pathOnCommand x0) := fun _ _ => nofun
theorem NoWord.clearLatch : NoWord.Statement .clearLatch := fun _ _ => nofun
theorem NoWord.passDamaged : NoWord.Statement .passDamaged := fun _ _ => nofun
theorem NoWord.sinkSwitchClose : NoWord.Statement .sinkSwitchClose := fun _ _ => nofun
theorem NoWord.sinkSwitchOpen x0 : NoWord.Statement (.sinkSwitchOpen x0) := fun _ _ => nofun
theorem NoWord.limitWrite x0 x1 : NoWord.Statement (.limitWrite x0 x1) := fun _ _ => nofun
theorem NoWord.efuseLimitTrip x0 x1 : NoWord.Statement (.efuseLimitTrip x0 x1) := fun _ _ => nofun
theorem NoWord.efuseFastTrip x0 x1 : NoWord.Statement (.efuseFastTrip x0 x1) := fun _ _ => nofun
theorem NoWord.efuseThermalTrip x0 : NoWord.Statement (.efuseThermalTrip x0) := fun _ _ => nofun
theorem NoWord.ccTerminationDetect x0 x1 x2 : NoWord.Statement (.ccTerminationDetect x0 x1 x2) := fun _ _ => nofun
theorem NoWord.attachDebounce : NoWord.Statement .attachDebounce := fun _ _ => nofun
theorem NoWord.tryExpiry x0 x1 : NoWord.Statement (.tryExpiry x0 x1) := fun _ _ => nofun
theorem NoWord.drpToggle : NoWord.Statement .drpToggle := fun _ _ => nofun
theorem NoWord.sinkDetach : NoWord.Statement .sinkDetach := fun _ _ => nofun
theorem NoWord.sourceDetach : NoWord.Statement .sourceDetach := fun _ _ => nofun
theorem NoWord.errrecExpiry : NoWord.Statement .errrecExpiry := fun _ _ => nofun
theorem NoWord.feedPathLeaveOn : NoWord.Statement .feedPathLeaveOn := fun _ _ => nofun
theorem NoWord.sourceCapabilitiesReceive x0 : NoWord.Statement (.sourceCapabilitiesReceive x0) := fun _ _ => nofun
theorem NoWord.requestReceive x0 : NoWord.Statement (.requestReceive x0) := fun _ _ => nofun
theorem NoWord.psRdyReceive : NoWord.Statement .psRdyReceive := fun _ _ => nofun
theorem NoWord.pdTimerExpiry x0 : NoWord.Statement (.pdTimerExpiry x0) := fun _ _ => nofun
theorem NoWord.ppsKeepalive : NoWord.Statement .ppsKeepalive := fun _ _ => nofun
theorem NoWord.sourceCurrentLimitTrip : NoWord.Statement .sourceCurrentLimitTrip := fun _ _ => nofun
theorem NoWord.updPrswap x0 : NoWord.Statement (.updPrswap x0) := fun _ _ => nofun
theorem NoWord.updDrswap x0 : NoWord.Statement (.updDrswap x0) := fun _ _ => nofun
theorem NoWord.updHreset x0 : NoWord.Statement (.updHreset x0) := fun _ _ => nofun
theorem NoWord.updExitalt x0 : NoWord.Statement (.updExitalt x0) := fun _ _ => nofun
theorem NoWord.prSwapReceive : NoWord.Statement .prSwapReceive := fun _ _ => nofun
theorem NoWord.drSwapReceive : NoWord.Statement .drSwapReceive := fun _ _ => nofun
theorem NoWord.hardResetReceive : NoWord.Statement .hardResetReceive := fun _ _ => nofun
theorem NoWord.softResetReceive : NoWord.Statement .softResetReceive := fun _ _ => nofun
theorem NoWord.unsupportedMessageReceive x0 : NoWord.Statement (.unsupportedMessageReceive x0) := fun _ _ => nofun
theorem NoWord.altModeDiscovery x0 x1 x2 x3 : NoWord.Statement (.altModeDiscovery x0 x1 x2 x3) := fun _ _ => nofun
theorem NoWord.enterModeReceive x0 : NoWord.Statement (.enterModeReceive x0) := fun _ _ => nofun
theorem NoWord.enterModeAck x0 : NoWord.Statement (.enterModeAck x0) := fun _ _ => nofun
theorem NoWord.exitModeReceive : NoWord.Statement .exitModeReceive := fun _ _ => nofun
theorem NoWord.dpAttention x0 x1 : NoWord.Statement (.dpAttention x0 x1) := fun _ _ => nofun
theorem NoWord.pwrCmdRun x0 : NoWord.Statement (.pwrCmdRun x0) := fun _ _ => nofun
theorem NoWord.pwrCmdTrim x0 : NoWord.Statement (.pwrCmdTrim x0) := fun _ _ => nofun
theorem NoWord.pwrCmdHush x0 : NoWord.Statement (.pwrCmdHush x0) := fun _ _ => nofun
theorem NoWord.pwrCmdDormant x0 : NoWord.Statement (.pwrCmdDormant x0) := fun _ _ => nofun
theorem NoWord.pwrCmdOff x0 : NoWord.Statement (.pwrCmdOff x0) := fun _ _ => nofun
theorem NoWord.handshakeAnswer x0 : NoWord.Statement (.handshakeAnswer x0) := fun _ _ => nofun
theorem NoWord.firmwareAnswer x0 : NoWord.Statement (.firmwareAnswer x0) := fun _ _ => nofun
theorem NoWord.handshakeTimeout x0 : NoWord.Statement (.handshakeTimeout x0) := fun _ _ => nofun
theorem NoWord.wakeEvent x0 : NoWord.Statement (.wakeEvent x0) := fun _ _ => nofun
theorem NoWord.wakeTimerExpiry : NoWord.Statement .wakeTimerExpiry := fun _ _ => nofun
theorem NoWord.avsConfirm x0 : NoWord.Statement (.avsConfirm x0) := fun _ _ => nofun
theorem NoWord.avsTimeout : NoWord.Statement .avsTimeout := fun _ _ => nofun
theorem NoWord.powerGood : NoWord.Statement .powerGood := fun _ _ => nofun
theorem NoWord.railUndervoltage : NoWord.Statement .railUndervoltage := fun _ _ => nofun
theorem NoWord.referenceClockLost : NoWord.Statement .referenceClockLost := fun _ _ => nofun
theorem NoWord.pllLockLost x0 : NoWord.Statement (.pllLockLost x0) := fun _ _ => nofun
theorem NoWord.faultStatusClear x0 x1 x2 : NoWord.Statement (.faultStatusClear x0 x1 x2) := fun _ _ => nofun
theorem NoWord.faultCfgWrite x0 x1 : NoWord.Statement (.faultCfgWrite x0 x1) := fun _ _ => nofun
theorem NoWord.faultEscalation x0 : NoWord.Statement (.faultEscalation x0) := fun _ _ => nofun
theorem NoWord.temperatureSample x0 : NoWord.Statement (.temperatureSample x0) := fun _ _ => nofun
theorem NoWord.configParitySweep x0 : NoWord.Statement (.configParitySweep x0) := fun _ _ => nofun
theorem NoWord.collectorLockstepMismatch : NoWord.Statement .collectorLockstepMismatch := fun _ _ => nofun
theorem NoWord.mgmtLockstepMismatch : NoWord.Statement .mgmtLockstepMismatch := fun _ _ => nofun
theorem NoWord.mgmtSramEcc x0 : NoWord.Statement (.mgmtSramEcc x0) := fun _ _ => nofun
theorem NoWord.elytraEnterCommand x0 : NoWord.Statement (.elytraEnterCommand x0) := fun _ _ => nofun
theorem NoWord.elytraExitCommand x0 : NoWord.Statement (.elytraExitCommand x0) := fun _ _ => nofun
theorem NoWord.gpioEdge x0 x1 x2 : NoWord.Statement (.gpioEdge x0 x1 x2) := fun _ _ => nofun
theorem NoWord.i2cWriteByte x0 x1 : NoWord.Statement (.i2cWriteByte x0 x1) := fun _ _ => nofun
theorem NoWord.i2cReadByte x0 x1 : NoWord.Statement (.i2cReadByte x0 x1) := fun _ _ => nofun
theorem NoWord.i2cCommandDone x0 x1 x2 : NoWord.Statement (.i2cCommandDone x0 x1 x2) := fun _ _ => nofun
theorem NoWord.i2cStretchTimeout x0 : NoWord.Statement (.i2cStretchTimeout x0) := fun _ _ => nofun
theorem NoWord.mdioC22Write x0 : NoWord.Statement (.mdioC22Write x0) := fun _ _ => nofun
theorem NoWord.mdioC22Read x0 : NoWord.Statement (.mdioC22Read x0) := fun _ _ => nofun
theorem NoWord.mdioC45Address x0 : NoWord.Statement (.mdioC45Address x0) := fun _ _ => nofun
theorem NoWord.mdioC45Write x0 : NoWord.Statement (.mdioC45Write x0) := fun _ _ => nofun
theorem NoWord.mdioC45ReadIncrement x0 : NoWord.Statement (.mdioC45ReadIncrement x0) := fun _ _ => nofun
theorem NoWord.mdioC45Read x0 : NoWord.Statement (.mdioC45Read x0) := fun _ _ => nofun
theorem NoWord.mdioFrameDone x0 x1 : NoWord.Statement (.mdioFrameDone x0 x1) := fun _ _ => nofun
theorem NoWord.farDeviceRemoteWake x0 : NoWord.Statement (.farDeviceRemoteWake x0) := fun _ _ => nofun
theorem NoWord.portDisconnect x0 : NoWord.Statement (.portDisconnect x0) := fun _ _ => nofun
theorem NoWord.portResumeEnd x0 : NoWord.Statement (.portResumeEnd x0) := fun _ _ => nofun
theorem NoWord.acceptRejectWaitReceive x0 : NoWord.Statement (.acceptRejectWaitReceive x0) := fun _ _ => nofun
theorem NoWord.waitRequestRepeat : NoWord.Statement .waitRequestRepeat := fun _ _ => nofun
theorem NoWord.discoverRequestReceive x0 : NoWord.Statement (.discoverRequestReceive x0) := fun _ _ => nofun
theorem NoWord.referenceClockReturn x0 : NoWord.Statement (.referenceClockReturn x0) := fun _ _ => nofun
theorem NoWord.perstDeassert : NoWord.Statement .perstDeassert := fun _ _ => nofun
theorem NoWord.sinkDeadTimeExpiry : NoWord.Statement .sinkDeadTimeExpiry := fun _ _ => nofun

end Sys2Proof.Laws
end

