-- ==== Sys2Proof/Laws/State.lean ====
section
/-! SUPPORT. One lemma per field of the state and update: what a register write, a counter, a bit and a free value leave alone, and what a field reads after an update that is no register write. -/

namespace Sys2Proof.Machine

/-- A field reads what was written to it. -/
theorem State.rd_wr_self {s : State} (h : Tab.sorted s.regs = true) (F : Field) (v i j : Nat) :
    (s.wr F v i j).rd F i j = v % 2 ^ F.width := Tab.get_put_self _ _ _ h

/-- A write of one field leaves every field with another key alone. -/
theorem State.rd_wr_ne {s : State} {F G : Field} {i j k l : Nat} (h : F.key i j ≠ G.key k l) (v : Nat) :
    (s.wr F v i j).rd G k l = s.rd G k l := Tab.get_put_ne h _ _ _ _

/-- A write of one field leaves a flag with another key alone. -/
theorem State.on_wr_ne {s : State} {F G : Field} {i j k l : Nat} (h : F.key i j ≠ G.key k l) (v : Nat) :
    (s.wr F v i j).on G k l = s.on G k l := by
  unfold State.on
  rw [State.rd_wr_ne h]

theorem State.sorted_wr {s : State} (h : Tab.sorted s.regs = true) (F : Field) (v i j : Nat) :
    Tab.sorted (s.wr F v i j).regs = true := Tab.sorted_put _ _ _ h

section
variable (s : State) (F : Field) (v i j b n : Nat) (x : Bool)

@[simp] theorem State.wr_fab : (s.wr F v i j).fab = s.fab := (rfl)
@[simp] theorem State.wr_ring : (s.wr F v i j).ring = s.ring := (rfl)
@[simp] theorem State.wr_xsw : (s.wr F v i j).xsw = s.xsw := (rfl)
@[simp] theorem State.wr_shp : (s.wr F v i j).shp = s.shp := (rfl)
@[simp] theorem State.wr_tmu : (s.wr F v i j).tmu = s.tmu := (rfl)
@[simp] theorem State.wr_cyc : (s.wr F v i j).cyc = s.cyc := (rfl)
@[simp] theorem State.wr_trunks : (s.wr F v i j).trunks = s.trunks := (rfl)
@[simp] theorem State.wr_kl2 : (s.wr F v i j).kl2 = s.kl2 := (rfl)
@[simp] theorem State.wr_lne : (s.wr F v i j).lne = s.lne := (rfl)
@[simp] theorem State.wr_flt : (s.wr F v i j).flt = s.flt := (rfl)
@[simp] theorem State.wr_ten : (s.wr F v i j).ten = s.ten := (rfl)
@[simp] theorem State.wr_bnk : (s.wr F v i j).bnk = s.bnk := (rfl)
@[simp] theorem State.wr_dsp : (s.wr F v i j).dsp = s.dsp := (rfl)
@[simp] theorem State.wr_usb : (s.wr F v i j).usb = s.usb := (rfl)
@[simp] theorem State.wr_sto : (s.wr F v i j).sto = s.sto := (rfl)
@[simp] theorem State.wr_ser : (s.wr F v i j).ser = s.ser := (rfl)
@[simp] theorem State.wr_dma : (s.wr F v i j).dma = s.dma := (rfl)
@[simp] theorem State.wr_brg : (s.wr F v i j).brg = s.brg := (rfl)
@[simp] theorem State.wr_hsw : (s.wr F v i j).hsw = s.hsw := (rfl)
@[simp] theorem State.wr_upd : (s.wr F v i j).upd = s.upd := (rfl)
@[simp] theorem State.wr_pwr : (s.wr F v i j).pwr = s.pwr := (rfl)
@[simp] theorem State.wr_gpio : (s.wr F v i j).gpio = s.gpio := (rfl)
@[simp] theorem State.wr_rng : (s.wr F v i j).rng = s.rng := (rfl)
@[simp] theorem State.wr_keys : (s.wr F v i j).keys = s.keys := (rfl)
@[simp] theorem State.wr_pcx : (s.wr F v i j).pcx = s.pcx := (rfl)
@[simp] theorem State.wr_pins : (s.wr F v i j).pins = s.pins := (rfl)
@[simp] theorem State.wr_boot : (s.wr F v i j).boot = s.boot := (rfl)
@[simp] theorem State.wr_timers : (s.wr F v i j).timers = s.timers := (rfl)
@[simp] theorem State.wr_host : (s.wr F v i j).host = s.host := (rfl)
@[simp] theorem State.wr_dram : (s.wr F v i j).dram = s.dram := (rfl)
@[simp] theorem State.wr_sram : (s.wr F v i j).sram = s.sram := (rfl)
@[simp] theorem State.wr_pad : (s.wr F v i j).pad = s.pad := (rfl)
@[simp] theorem State.wr_flash : (s.wr F v i j).flash = s.flash := (rfl)
@[simp] theorem State.wr_readWord : (s.wr F v i j).readWord = s.readWord := (rfl)
@[simp] theorem State.wr_freeCount : (s.wr F v i j).freeCount = s.freeCount := (rfl)
@[simp] theorem State.wr_pending : (s.wr F v i j).pending = s.pending := (rfl)
@[simp] theorem State.sat_fab : (s.sat F i j).fab = s.fab := (rfl)
@[simp] theorem State.sat_ring : (s.sat F i j).ring = s.ring := (rfl)
@[simp] theorem State.sat_xsw : (s.sat F i j).xsw = s.xsw := (rfl)
@[simp] theorem State.sat_shp : (s.sat F i j).shp = s.shp := (rfl)
@[simp] theorem State.sat_tmu : (s.sat F i j).tmu = s.tmu := (rfl)
@[simp] theorem State.sat_cyc : (s.sat F i j).cyc = s.cyc := (rfl)
@[simp] theorem State.sat_trunks : (s.sat F i j).trunks = s.trunks := (rfl)
@[simp] theorem State.sat_kl2 : (s.sat F i j).kl2 = s.kl2 := (rfl)
@[simp] theorem State.sat_lne : (s.sat F i j).lne = s.lne := (rfl)
@[simp] theorem State.sat_flt : (s.sat F i j).flt = s.flt := (rfl)
@[simp] theorem State.sat_ten : (s.sat F i j).ten = s.ten := (rfl)
@[simp] theorem State.sat_bnk : (s.sat F i j).bnk = s.bnk := (rfl)
@[simp] theorem State.sat_dsp : (s.sat F i j).dsp = s.dsp := (rfl)
@[simp] theorem State.sat_usb : (s.sat F i j).usb = s.usb := (rfl)
@[simp] theorem State.sat_sto : (s.sat F i j).sto = s.sto := (rfl)
@[simp] theorem State.sat_ser : (s.sat F i j).ser = s.ser := (rfl)
@[simp] theorem State.sat_dma : (s.sat F i j).dma = s.dma := (rfl)
@[simp] theorem State.sat_brg : (s.sat F i j).brg = s.brg := (rfl)
@[simp] theorem State.sat_hsw : (s.sat F i j).hsw = s.hsw := (rfl)
@[simp] theorem State.sat_upd : (s.sat F i j).upd = s.upd := (rfl)
@[simp] theorem State.sat_pwr : (s.sat F i j).pwr = s.pwr := (rfl)
@[simp] theorem State.sat_gpio : (s.sat F i j).gpio = s.gpio := (rfl)
@[simp] theorem State.sat_rng : (s.sat F i j).rng = s.rng := (rfl)
@[simp] theorem State.sat_keys : (s.sat F i j).keys = s.keys := (rfl)
@[simp] theorem State.sat_pcx : (s.sat F i j).pcx = s.pcx := (rfl)
@[simp] theorem State.sat_pins : (s.sat F i j).pins = s.pins := (rfl)
@[simp] theorem State.sat_boot : (s.sat F i j).boot = s.boot := (rfl)
@[simp] theorem State.sat_timers : (s.sat F i j).timers = s.timers := (rfl)
@[simp] theorem State.sat_host : (s.sat F i j).host = s.host := (rfl)
@[simp] theorem State.sat_dram : (s.sat F i j).dram = s.dram := (rfl)
@[simp] theorem State.sat_sram : (s.sat F i j).sram = s.sram := (rfl)
@[simp] theorem State.sat_pad : (s.sat F i j).pad = s.pad := (rfl)
@[simp] theorem State.sat_flash : (s.sat F i j).flash = s.flash := (rfl)
@[simp] theorem State.sat_readWord : (s.sat F i j).readWord = s.readWord := (rfl)
@[simp] theorem State.sat_freeCount : (s.sat F i j).freeCount = s.freeCount := (rfl)
@[simp] theorem State.sat_pending : (s.sat F i j).pending = s.pending := (rfl)
@[simp] theorem State.satBy_fab : (s.satBy F n i j).fab = s.fab := (rfl)
@[simp] theorem State.satBy_ring : (s.satBy F n i j).ring = s.ring := (rfl)
@[simp] theorem State.satBy_xsw : (s.satBy F n i j).xsw = s.xsw := (rfl)
@[simp] theorem State.satBy_shp : (s.satBy F n i j).shp = s.shp := (rfl)
@[simp] theorem State.satBy_tmu : (s.satBy F n i j).tmu = s.tmu := (rfl)
@[simp] theorem State.satBy_cyc : (s.satBy F n i j).cyc = s.cyc := (rfl)
@[simp] theorem State.satBy_trunks : (s.satBy F n i j).trunks = s.trunks := (rfl)
@[simp] theorem State.satBy_kl2 : (s.satBy F n i j).kl2 = s.kl2 := (rfl)
@[simp] theorem State.satBy_lne : (s.satBy F n i j).lne = s.lne := (rfl)
@[simp] theorem State.satBy_flt : (s.satBy F n i j).flt = s.flt := (rfl)
@[simp] theorem State.satBy_ten : (s.satBy F n i j).ten = s.ten := (rfl)
@[simp] theorem State.satBy_bnk : (s.satBy F n i j).bnk = s.bnk := (rfl)
@[simp] theorem State.satBy_dsp : (s.satBy F n i j).dsp = s.dsp := (rfl)
@[simp] theorem State.satBy_usb : (s.satBy F n i j).usb = s.usb := (rfl)
@[simp] theorem State.satBy_sto : (s.satBy F n i j).sto = s.sto := (rfl)
@[simp] theorem State.satBy_ser : (s.satBy F n i j).ser = s.ser := (rfl)
@[simp] theorem State.satBy_dma : (s.satBy F n i j).dma = s.dma := (rfl)
@[simp] theorem State.satBy_brg : (s.satBy F n i j).brg = s.brg := (rfl)
@[simp] theorem State.satBy_hsw : (s.satBy F n i j).hsw = s.hsw := (rfl)
@[simp] theorem State.satBy_upd : (s.satBy F n i j).upd = s.upd := (rfl)
@[simp] theorem State.satBy_pwr : (s.satBy F n i j).pwr = s.pwr := (rfl)
@[simp] theorem State.satBy_gpio : (s.satBy F n i j).gpio = s.gpio := (rfl)
@[simp] theorem State.satBy_rng : (s.satBy F n i j).rng = s.rng := (rfl)
@[simp] theorem State.satBy_keys : (s.satBy F n i j).keys = s.keys := (rfl)
@[simp] theorem State.satBy_pcx : (s.satBy F n i j).pcx = s.pcx := (rfl)
@[simp] theorem State.satBy_pins : (s.satBy F n i j).pins = s.pins := (rfl)
@[simp] theorem State.satBy_boot : (s.satBy F n i j).boot = s.boot := (rfl)
@[simp] theorem State.satBy_timers : (s.satBy F n i j).timers = s.timers := (rfl)
@[simp] theorem State.satBy_host : (s.satBy F n i j).host = s.host := (rfl)
@[simp] theorem State.satBy_dram : (s.satBy F n i j).dram = s.dram := (rfl)
@[simp] theorem State.satBy_sram : (s.satBy F n i j).sram = s.sram := (rfl)
@[simp] theorem State.satBy_pad : (s.satBy F n i j).pad = s.pad := (rfl)
@[simp] theorem State.satBy_flash : (s.satBy F n i j).flash = s.flash := (rfl)
@[simp] theorem State.satBy_readWord : (s.satBy F n i j).readWord = s.readWord := (rfl)
@[simp] theorem State.satBy_freeCount : (s.satBy F n i j).freeCount = s.freeCount := (rfl)
@[simp] theorem State.satBy_pending : (s.satBy F n i j).pending = s.pending := (rfl)
@[simp] theorem State.wrap_fab : (s.wrap F i j).fab = s.fab := (rfl)
@[simp] theorem State.wrap_ring : (s.wrap F i j).ring = s.ring := (rfl)
@[simp] theorem State.wrap_xsw : (s.wrap F i j).xsw = s.xsw := (rfl)
@[simp] theorem State.wrap_shp : (s.wrap F i j).shp = s.shp := (rfl)
@[simp] theorem State.wrap_tmu : (s.wrap F i j).tmu = s.tmu := (rfl)
@[simp] theorem State.wrap_cyc : (s.wrap F i j).cyc = s.cyc := (rfl)
@[simp] theorem State.wrap_trunks : (s.wrap F i j).trunks = s.trunks := (rfl)
@[simp] theorem State.wrap_kl2 : (s.wrap F i j).kl2 = s.kl2 := (rfl)
@[simp] theorem State.wrap_lne : (s.wrap F i j).lne = s.lne := (rfl)
@[simp] theorem State.wrap_flt : (s.wrap F i j).flt = s.flt := (rfl)
@[simp] theorem State.wrap_ten : (s.wrap F i j).ten = s.ten := (rfl)
@[simp] theorem State.wrap_bnk : (s.wrap F i j).bnk = s.bnk := (rfl)
@[simp] theorem State.wrap_dsp : (s.wrap F i j).dsp = s.dsp := (rfl)
@[simp] theorem State.wrap_usb : (s.wrap F i j).usb = s.usb := (rfl)
@[simp] theorem State.wrap_sto : (s.wrap F i j).sto = s.sto := (rfl)
@[simp] theorem State.wrap_ser : (s.wrap F i j).ser = s.ser := (rfl)
@[simp] theorem State.wrap_dma : (s.wrap F i j).dma = s.dma := (rfl)
@[simp] theorem State.wrap_brg : (s.wrap F i j).brg = s.brg := (rfl)
@[simp] theorem State.wrap_hsw : (s.wrap F i j).hsw = s.hsw := (rfl)
@[simp] theorem State.wrap_upd : (s.wrap F i j).upd = s.upd := (rfl)
@[simp] theorem State.wrap_pwr : (s.wrap F i j).pwr = s.pwr := (rfl)
@[simp] theorem State.wrap_gpio : (s.wrap F i j).gpio = s.gpio := (rfl)
@[simp] theorem State.wrap_rng : (s.wrap F i j).rng = s.rng := (rfl)
@[simp] theorem State.wrap_keys : (s.wrap F i j).keys = s.keys := (rfl)
@[simp] theorem State.wrap_pcx : (s.wrap F i j).pcx = s.pcx := (rfl)
@[simp] theorem State.wrap_pins : (s.wrap F i j).pins = s.pins := (rfl)
@[simp] theorem State.wrap_boot : (s.wrap F i j).boot = s.boot := (rfl)
@[simp] theorem State.wrap_timers : (s.wrap F i j).timers = s.timers := (rfl)
@[simp] theorem State.wrap_host : (s.wrap F i j).host = s.host := (rfl)
@[simp] theorem State.wrap_dram : (s.wrap F i j).dram = s.dram := (rfl)
@[simp] theorem State.wrap_sram : (s.wrap F i j).sram = s.sram := (rfl)
@[simp] theorem State.wrap_pad : (s.wrap F i j).pad = s.pad := (rfl)
@[simp] theorem State.wrap_flash : (s.wrap F i j).flash = s.flash := (rfl)
@[simp] theorem State.wrap_readWord : (s.wrap F i j).readWord = s.readWord := (rfl)
@[simp] theorem State.wrap_freeCount : (s.wrap F i j).freeCount = s.freeCount := (rfl)
@[simp] theorem State.wrap_pending : (s.wrap F i j).pending = s.pending := (rfl)
@[simp] theorem State.putBit_fab : (s.putBit F b x i j).fab = s.fab := (rfl)
@[simp] theorem State.putBit_ring : (s.putBit F b x i j).ring = s.ring := (rfl)
@[simp] theorem State.putBit_xsw : (s.putBit F b x i j).xsw = s.xsw := (rfl)
@[simp] theorem State.putBit_shp : (s.putBit F b x i j).shp = s.shp := (rfl)
@[simp] theorem State.putBit_tmu : (s.putBit F b x i j).tmu = s.tmu := (rfl)
@[simp] theorem State.putBit_cyc : (s.putBit F b x i j).cyc = s.cyc := (rfl)
@[simp] theorem State.putBit_trunks : (s.putBit F b x i j).trunks = s.trunks := (rfl)
@[simp] theorem State.putBit_kl2 : (s.putBit F b x i j).kl2 = s.kl2 := (rfl)
@[simp] theorem State.putBit_lne : (s.putBit F b x i j).lne = s.lne := (rfl)
@[simp] theorem State.putBit_flt : (s.putBit F b x i j).flt = s.flt := (rfl)
@[simp] theorem State.putBit_ten : (s.putBit F b x i j).ten = s.ten := (rfl)
@[simp] theorem State.putBit_bnk : (s.putBit F b x i j).bnk = s.bnk := (rfl)
@[simp] theorem State.putBit_dsp : (s.putBit F b x i j).dsp = s.dsp := (rfl)
@[simp] theorem State.putBit_usb : (s.putBit F b x i j).usb = s.usb := (rfl)
@[simp] theorem State.putBit_sto : (s.putBit F b x i j).sto = s.sto := (rfl)
@[simp] theorem State.putBit_ser : (s.putBit F b x i j).ser = s.ser := (rfl)
@[simp] theorem State.putBit_dma : (s.putBit F b x i j).dma = s.dma := (rfl)
@[simp] theorem State.putBit_brg : (s.putBit F b x i j).brg = s.brg := (rfl)
@[simp] theorem State.putBit_hsw : (s.putBit F b x i j).hsw = s.hsw := (rfl)
@[simp] theorem State.putBit_upd : (s.putBit F b x i j).upd = s.upd := (rfl)
@[simp] theorem State.putBit_pwr : (s.putBit F b x i j).pwr = s.pwr := (rfl)
@[simp] theorem State.putBit_gpio : (s.putBit F b x i j).gpio = s.gpio := (rfl)
@[simp] theorem State.putBit_rng : (s.putBit F b x i j).rng = s.rng := (rfl)
@[simp] theorem State.putBit_keys : (s.putBit F b x i j).keys = s.keys := (rfl)
@[simp] theorem State.putBit_pcx : (s.putBit F b x i j).pcx = s.pcx := (rfl)
@[simp] theorem State.putBit_pins : (s.putBit F b x i j).pins = s.pins := (rfl)
@[simp] theorem State.putBit_boot : (s.putBit F b x i j).boot = s.boot := (rfl)
@[simp] theorem State.putBit_timers : (s.putBit F b x i j).timers = s.timers := (rfl)
@[simp] theorem State.putBit_host : (s.putBit F b x i j).host = s.host := (rfl)
@[simp] theorem State.putBit_dram : (s.putBit F b x i j).dram = s.dram := (rfl)
@[simp] theorem State.putBit_sram : (s.putBit F b x i j).sram = s.sram := (rfl)
@[simp] theorem State.putBit_pad : (s.putBit F b x i j).pad = s.pad := (rfl)
@[simp] theorem State.putBit_flash : (s.putBit F b x i j).flash = s.flash := (rfl)
@[simp] theorem State.putBit_readWord : (s.putBit F b x i j).readWord = s.readWord := (rfl)
@[simp] theorem State.putBit_freeCount : (s.putBit F b x i j).freeCount = s.freeCount := (rfl)
@[simp] theorem State.putBit_pending : (s.putBit F b x i j).pending = s.pending := (rfl)
@[simp] theorem State.free_regs : (s.free n).2.regs = s.regs := (rfl)
@[simp] theorem State.free_fab : (s.free n).2.fab = s.fab := (rfl)
@[simp] theorem State.free_ring : (s.free n).2.ring = s.ring := (rfl)
@[simp] theorem State.free_xsw : (s.free n).2.xsw = s.xsw := (rfl)
@[simp] theorem State.free_shp : (s.free n).2.shp = s.shp := (rfl)
@[simp] theorem State.free_tmu : (s.free n).2.tmu = s.tmu := (rfl)
@[simp] theorem State.free_cyc : (s.free n).2.cyc = s.cyc := (rfl)
@[simp] theorem State.free_trunks : (s.free n).2.trunks = s.trunks := (rfl)
@[simp] theorem State.free_kl2 : (s.free n).2.kl2 = s.kl2 := (rfl)
@[simp] theorem State.free_lne : (s.free n).2.lne = s.lne := (rfl)
@[simp] theorem State.free_flt : (s.free n).2.flt = s.flt := (rfl)
@[simp] theorem State.free_ten : (s.free n).2.ten = s.ten := (rfl)
@[simp] theorem State.free_bnk : (s.free n).2.bnk = s.bnk := (rfl)
@[simp] theorem State.free_dsp : (s.free n).2.dsp = s.dsp := (rfl)
@[simp] theorem State.free_usb : (s.free n).2.usb = s.usb := (rfl)
@[simp] theorem State.free_sto : (s.free n).2.sto = s.sto := (rfl)
@[simp] theorem State.free_ser : (s.free n).2.ser = s.ser := (rfl)
@[simp] theorem State.free_dma : (s.free n).2.dma = s.dma := (rfl)
@[simp] theorem State.free_brg : (s.free n).2.brg = s.brg := (rfl)
@[simp] theorem State.free_hsw : (s.free n).2.hsw = s.hsw := (rfl)
@[simp] theorem State.free_upd : (s.free n).2.upd = s.upd := (rfl)
@[simp] theorem State.free_pwr : (s.free n).2.pwr = s.pwr := (rfl)
@[simp] theorem State.free_gpio : (s.free n).2.gpio = s.gpio := (rfl)
@[simp] theorem State.free_rng : (s.free n).2.rng = s.rng := (rfl)
@[simp] theorem State.free_keys : (s.free n).2.keys = s.keys := (rfl)
@[simp] theorem State.free_pcx : (s.free n).2.pcx = s.pcx := (rfl)
@[simp] theorem State.free_pins : (s.free n).2.pins = s.pins := (rfl)
@[simp] theorem State.free_boot : (s.free n).2.boot = s.boot := (rfl)
@[simp] theorem State.free_timers : (s.free n).2.timers = s.timers := (rfl)
@[simp] theorem State.free_host : (s.free n).2.host = s.host := (rfl)
@[simp] theorem State.free_dram : (s.free n).2.dram = s.dram := (rfl)
@[simp] theorem State.free_sram : (s.free n).2.sram = s.sram := (rfl)
@[simp] theorem State.free_pad : (s.free n).2.pad = s.pad := (rfl)
@[simp] theorem State.free_flash : (s.free n).2.flash = s.flash := (rfl)
@[simp] theorem State.free_readWord : (s.free n).2.readWord = s.readWord := (rfl)
@[simp] theorem State.free_pending : (s.free n).2.pending = s.pending := (rfl)
@[simp] theorem State.wrFree_fab : (s.wrFree F i j).fab = s.fab := (rfl)
@[simp] theorem State.wrFree_ring : (s.wrFree F i j).ring = s.ring := (rfl)
@[simp] theorem State.wrFree_xsw : (s.wrFree F i j).xsw = s.xsw := (rfl)
@[simp] theorem State.wrFree_shp : (s.wrFree F i j).shp = s.shp := (rfl)
@[simp] theorem State.wrFree_tmu : (s.wrFree F i j).tmu = s.tmu := (rfl)
@[simp] theorem State.wrFree_cyc : (s.wrFree F i j).cyc = s.cyc := (rfl)
@[simp] theorem State.wrFree_trunks : (s.wrFree F i j).trunks = s.trunks := (rfl)
@[simp] theorem State.wrFree_kl2 : (s.wrFree F i j).kl2 = s.kl2 := (rfl)
@[simp] theorem State.wrFree_lne : (s.wrFree F i j).lne = s.lne := (rfl)
@[simp] theorem State.wrFree_flt : (s.wrFree F i j).flt = s.flt := (rfl)
@[simp] theorem State.wrFree_ten : (s.wrFree F i j).ten = s.ten := (rfl)
@[simp] theorem State.wrFree_bnk : (s.wrFree F i j).bnk = s.bnk := (rfl)
@[simp] theorem State.wrFree_dsp : (s.wrFree F i j).dsp = s.dsp := (rfl)
@[simp] theorem State.wrFree_usb : (s.wrFree F i j).usb = s.usb := (rfl)
@[simp] theorem State.wrFree_sto : (s.wrFree F i j).sto = s.sto := (rfl)
@[simp] theorem State.wrFree_ser : (s.wrFree F i j).ser = s.ser := (rfl)
@[simp] theorem State.wrFree_dma : (s.wrFree F i j).dma = s.dma := (rfl)
@[simp] theorem State.wrFree_brg : (s.wrFree F i j).brg = s.brg := (rfl)
@[simp] theorem State.wrFree_hsw : (s.wrFree F i j).hsw = s.hsw := (rfl)
@[simp] theorem State.wrFree_upd : (s.wrFree F i j).upd = s.upd := (rfl)
@[simp] theorem State.wrFree_pwr : (s.wrFree F i j).pwr = s.pwr := (rfl)
@[simp] theorem State.wrFree_gpio : (s.wrFree F i j).gpio = s.gpio := (rfl)
@[simp] theorem State.wrFree_rng : (s.wrFree F i j).rng = s.rng := (rfl)
@[simp] theorem State.wrFree_keys : (s.wrFree F i j).keys = s.keys := (rfl)
@[simp] theorem State.wrFree_pcx : (s.wrFree F i j).pcx = s.pcx := (rfl)
@[simp] theorem State.wrFree_pins : (s.wrFree F i j).pins = s.pins := (rfl)
@[simp] theorem State.wrFree_boot : (s.wrFree F i j).boot = s.boot := (rfl)
@[simp] theorem State.wrFree_timers : (s.wrFree F i j).timers = s.timers := (rfl)
@[simp] theorem State.wrFree_host : (s.wrFree F i j).host = s.host := (rfl)
@[simp] theorem State.wrFree_dram : (s.wrFree F i j).dram = s.dram := (rfl)
@[simp] theorem State.wrFree_sram : (s.wrFree F i j).sram = s.sram := (rfl)
@[simp] theorem State.wrFree_pad : (s.wrFree F i j).pad = s.pad := (rfl)
@[simp] theorem State.wrFree_flash : (s.wrFree F i j).flash = s.flash := (rfl)
@[simp] theorem State.wrFree_readWord : (s.wrFree F i j).readWord = s.readWord := (rfl)
@[simp] theorem State.wrFree_pending : (s.wrFree F i j).pending = s.pending := (rfl)
@[simp] theorem State.rd_fab (y : Fab) : ({ s with fab := y } : State).rd F i j = s.rd F i j := (rfl)
@[simp] theorem State.rd_ring (y : Ring) : ({ s with ring := y } : State).rd F i j = s.rd F i j := (rfl)
@[simp] theorem State.rd_xsw (y : Xsw) : ({ s with xsw := y } : State).rd F i j = s.rd F i j := (rfl)
@[simp] theorem State.rd_shp (y : Shp) : ({ s with shp := y } : State).rd F i j = s.rd F i j := (rfl)
@[simp] theorem State.rd_tmu (y : Tmu) : ({ s with tmu := y } : State).rd F i j = s.rd F i j := (rfl)
@[simp] theorem State.rd_cyc (y : Cyc) : ({ s with cyc := y } : State).rd F i j = s.rd F i j := (rfl)
@[simp] theorem State.rd_trunks (y : Tab Trunk) : ({ s with trunks := y } : State).rd F i j = s.rd F i j := (rfl)
@[simp] theorem State.rd_kl2 (y : Kl2) : ({ s with kl2 := y } : State).rd F i j = s.rd F i j := (rfl)
@[simp] theorem State.rd_lne (y : Lne) : ({ s with lne := y } : State).rd F i j = s.rd F i j := (rfl)
@[simp] theorem State.rd_flt (y : Flt) : ({ s with flt := y } : State).rd F i j = s.rd F i j := (rfl)
@[simp] theorem State.rd_ten (y : Ten) : ({ s with ten := y } : State).rd F i j = s.rd F i j := (rfl)
@[simp] theorem State.rd_bnk (y : Bnk) : ({ s with bnk := y } : State).rd F i j = s.rd F i j := (rfl)
@[simp] theorem State.rd_dsp (y : Dsp) : ({ s with dsp := y } : State).rd F i j = s.rd F i j := (rfl)
@[simp] theorem State.rd_usb (y : Usb) : ({ s with usb := y } : State).rd F i j = s.rd F i j := (rfl)
@[simp] theorem State.rd_sto (y : Sto) : ({ s with sto := y } : State).rd F i j = s.rd F i j := (rfl)
@[simp] theorem State.rd_ser (y : Ser) : ({ s with ser := y } : State).rd F i j = s.rd F i j := (rfl)
@[simp] theorem State.rd_dma (y : Dma) : ({ s with dma := y } : State).rd F i j = s.rd F i j := (rfl)
@[simp] theorem State.rd_brg (y : Brg) : ({ s with brg := y } : State).rd F i j = s.rd F i j := (rfl)
@[simp] theorem State.rd_hsw (y : Hsw) : ({ s with hsw := y } : State).rd F i j = s.rd F i j := (rfl)
@[simp] theorem State.rd_upd (y : Upd) : ({ s with upd := y } : State).rd F i j = s.rd F i j := (rfl)
@[simp] theorem State.rd_pwr (y : Pwr) : ({ s with pwr := y } : State).rd F i j = s.rd F i j := (rfl)
@[simp] theorem State.rd_gpio (y : Gpio) : ({ s with gpio := y } : State).rd F i j = s.rd F i j := (rfl)
@[simp] theorem State.rd_rng (y : Rng) : ({ s with rng := y } : State).rd F i j = s.rd F i j := (rfl)
@[simp] theorem State.rd_keys (y : Keys) : ({ s with keys := y } : State).rd F i j = s.rd F i j := (rfl)
@[simp] theorem State.rd_pcx (y : Pcx) : ({ s with pcx := y } : State).rd F i j = s.rd F i j := (rfl)
@[simp] theorem State.rd_pins (y : Pins) : ({ s with pins := y } : State).rd F i j = s.rd F i j := (rfl)
@[simp] theorem State.rd_boot (y : Boot) : ({ s with boot := y } : State).rd F i j = s.rd F i j := (rfl)
@[simp] theorem State.rd_timers (y : List (Timer × Nat)) : ({ s with timers := y } : State).rd F i j = s.rd F i j := (rfl)
@[simp] theorem State.rd_host (y : Memory) : ({ s with host := y } : State).rd F i j = s.rd F i j := (rfl)
@[simp] theorem State.rd_dram (y : Memory) : ({ s with dram := y } : State).rd F i j = s.rd F i j := (rfl)
@[simp] theorem State.rd_sram (y : Memory) : ({ s with sram := y } : State).rd F i j = s.rd F i j := (rfl)
@[simp] theorem State.rd_pad (y : Tab (Option Byte)) : ({ s with pad := y } : State).rd F i j = s.rd F i j := (rfl)
@[simp] theorem State.rd_flash (y : Memory) : ({ s with flash := y } : State).rd F i j = s.rd F i j := (rfl)
@[simp] theorem State.rd_readWord (y : Nat) : ({ s with readWord := y } : State).rd F i j = s.rd F i j := (rfl)
@[simp] theorem State.rd_freeCount (y : Nat) : ({ s with freeCount := y } : State).rd F i j = s.rd F i j := (rfl)
@[simp] theorem State.rd_pending (y : List Instr) : ({ s with pending := y } : State).rd F i j = s.rd F i j := (rfl)

@[simp] theorem State.armAt_fab (k : Timer) : (s.armAt k n).fab = s.fab := (rfl)
@[simp] theorem State.armAt_ring (k : Timer) : (s.armAt k n).ring = s.ring := (rfl)
@[simp] theorem State.armAt_xsw (k : Timer) : (s.armAt k n).xsw = s.xsw := (rfl)
@[simp] theorem State.armAt_shp (k : Timer) : (s.armAt k n).shp = s.shp := (rfl)
@[simp] theorem State.armAt_tmu (k : Timer) : (s.armAt k n).tmu = s.tmu := (rfl)
@[simp] theorem State.armAt_cyc (k : Timer) : (s.armAt k n).cyc = s.cyc := (rfl)
@[simp] theorem State.armAt_trunks (k : Timer) : (s.armAt k n).trunks = s.trunks := (rfl)
@[simp] theorem State.armAt_kl2 (k : Timer) : (s.armAt k n).kl2 = s.kl2 := (rfl)
@[simp] theorem State.armAt_lne (k : Timer) : (s.armAt k n).lne = s.lne := (rfl)
@[simp] theorem State.armAt_flt (k : Timer) : (s.armAt k n).flt = s.flt := (rfl)
@[simp] theorem State.armAt_ten (k : Timer) : (s.armAt k n).ten = s.ten := (rfl)
@[simp] theorem State.armAt_bnk (k : Timer) : (s.armAt k n).bnk = s.bnk := (rfl)
@[simp] theorem State.armAt_dsp (k : Timer) : (s.armAt k n).dsp = s.dsp := (rfl)
@[simp] theorem State.armAt_usb (k : Timer) : (s.armAt k n).usb = s.usb := (rfl)
@[simp] theorem State.armAt_sto (k : Timer) : (s.armAt k n).sto = s.sto := (rfl)
@[simp] theorem State.armAt_ser (k : Timer) : (s.armAt k n).ser = s.ser := (rfl)
@[simp] theorem State.armAt_dma (k : Timer) : (s.armAt k n).dma = s.dma := (rfl)
@[simp] theorem State.armAt_brg (k : Timer) : (s.armAt k n).brg = s.brg := (rfl)
@[simp] theorem State.armAt_hsw (k : Timer) : (s.armAt k n).hsw = s.hsw := (rfl)
@[simp] theorem State.armAt_upd (k : Timer) : (s.armAt k n).upd = s.upd := (rfl)
@[simp] theorem State.armAt_pwr (k : Timer) : (s.armAt k n).pwr = s.pwr := (rfl)
@[simp] theorem State.armAt_gpio (k : Timer) : (s.armAt k n).gpio = s.gpio := (rfl)
@[simp] theorem State.armAt_rng (k : Timer) : (s.armAt k n).rng = s.rng := (rfl)
@[simp] theorem State.armAt_keys (k : Timer) : (s.armAt k n).keys = s.keys := (rfl)
@[simp] theorem State.armAt_pcx (k : Timer) : (s.armAt k n).pcx = s.pcx := (rfl)
@[simp] theorem State.armAt_pins (k : Timer) : (s.armAt k n).pins = s.pins := (rfl)
@[simp] theorem State.armAt_boot (k : Timer) : (s.armAt k n).boot = s.boot := (rfl)
@[simp] theorem State.armAt_host (k : Timer) : (s.armAt k n).host = s.host := (rfl)
@[simp] theorem State.armAt_dram (k : Timer) : (s.armAt k n).dram = s.dram := (rfl)
@[simp] theorem State.armAt_sram (k : Timer) : (s.armAt k n).sram = s.sram := (rfl)
@[simp] theorem State.armAt_pad (k : Timer) : (s.armAt k n).pad = s.pad := (rfl)
@[simp] theorem State.armAt_flash (k : Timer) : (s.armAt k n).flash = s.flash := (rfl)
@[simp] theorem State.armAt_readWord (k : Timer) : (s.armAt k n).readWord = s.readWord := (rfl)
@[simp] theorem State.armAt_freeCount (k : Timer) : (s.armAt k n).freeCount = s.freeCount := (rfl)
@[simp] theorem State.armAt_pending (k : Timer) : (s.armAt k n).pending = s.pending := (rfl)
@[simp] theorem State.rd_armAt (k : Timer) : (s.armAt k n).rd F i j = s.rd F i j := (rfl)
@[simp] theorem State.on_armAt (k : Timer) : (s.armAt k n).on F i j = s.on F i j := (rfl)
@[simp] theorem State.disarm_fab (k : Timer) : (s.disarm k).fab = s.fab := (rfl)
@[simp] theorem State.disarm_ring (k : Timer) : (s.disarm k).ring = s.ring := (rfl)
@[simp] theorem State.disarm_xsw (k : Timer) : (s.disarm k).xsw = s.xsw := (rfl)
@[simp] theorem State.disarm_shp (k : Timer) : (s.disarm k).shp = s.shp := (rfl)
@[simp] theorem State.disarm_tmu (k : Timer) : (s.disarm k).tmu = s.tmu := (rfl)
@[simp] theorem State.disarm_cyc (k : Timer) : (s.disarm k).cyc = s.cyc := (rfl)
@[simp] theorem State.disarm_trunks (k : Timer) : (s.disarm k).trunks = s.trunks := (rfl)
@[simp] theorem State.disarm_kl2 (k : Timer) : (s.disarm k).kl2 = s.kl2 := (rfl)
@[simp] theorem State.disarm_lne (k : Timer) : (s.disarm k).lne = s.lne := (rfl)
@[simp] theorem State.disarm_flt (k : Timer) : (s.disarm k).flt = s.flt := (rfl)
@[simp] theorem State.disarm_ten (k : Timer) : (s.disarm k).ten = s.ten := (rfl)
@[simp] theorem State.disarm_bnk (k : Timer) : (s.disarm k).bnk = s.bnk := (rfl)
@[simp] theorem State.disarm_dsp (k : Timer) : (s.disarm k).dsp = s.dsp := (rfl)
@[simp] theorem State.disarm_usb (k : Timer) : (s.disarm k).usb = s.usb := (rfl)
@[simp] theorem State.disarm_sto (k : Timer) : (s.disarm k).sto = s.sto := (rfl)
@[simp] theorem State.disarm_ser (k : Timer) : (s.disarm k).ser = s.ser := (rfl)
@[simp] theorem State.disarm_dma (k : Timer) : (s.disarm k).dma = s.dma := (rfl)
@[simp] theorem State.disarm_brg (k : Timer) : (s.disarm k).brg = s.brg := (rfl)
@[simp] theorem State.disarm_hsw (k : Timer) : (s.disarm k).hsw = s.hsw := (rfl)
@[simp] theorem State.disarm_upd (k : Timer) : (s.disarm k).upd = s.upd := (rfl)
@[simp] theorem State.disarm_pwr (k : Timer) : (s.disarm k).pwr = s.pwr := (rfl)
@[simp] theorem State.disarm_gpio (k : Timer) : (s.disarm k).gpio = s.gpio := (rfl)
@[simp] theorem State.disarm_rng (k : Timer) : (s.disarm k).rng = s.rng := (rfl)
@[simp] theorem State.disarm_keys (k : Timer) : (s.disarm k).keys = s.keys := (rfl)
@[simp] theorem State.disarm_pcx (k : Timer) : (s.disarm k).pcx = s.pcx := (rfl)
@[simp] theorem State.disarm_pins (k : Timer) : (s.disarm k).pins = s.pins := (rfl)
@[simp] theorem State.disarm_boot (k : Timer) : (s.disarm k).boot = s.boot := (rfl)
@[simp] theorem State.disarm_host (k : Timer) : (s.disarm k).host = s.host := (rfl)
@[simp] theorem State.disarm_dram (k : Timer) : (s.disarm k).dram = s.dram := (rfl)
@[simp] theorem State.disarm_sram (k : Timer) : (s.disarm k).sram = s.sram := (rfl)
@[simp] theorem State.disarm_pad (k : Timer) : (s.disarm k).pad = s.pad := (rfl)
@[simp] theorem State.disarm_flash (k : Timer) : (s.disarm k).flash = s.flash := (rfl)
@[simp] theorem State.disarm_readWord (k : Timer) : (s.disarm k).readWord = s.readWord := (rfl)
@[simp] theorem State.disarm_freeCount (k : Timer) : (s.disarm k).freeCount = s.freeCount := (rfl)
@[simp] theorem State.disarm_pending (k : Timer) : (s.disarm k).pending = s.pending := (rfl)
@[simp] theorem State.rd_disarm (k : Timer) : (s.disarm k).rd F i j = s.rd F i j := (rfl)
@[simp] theorem State.on_disarm (k : Timer) : (s.disarm k).on F i j = s.on F i j := (rfl)
@[simp] theorem State.due_wr (k : Timer) : (s.wr F v i j).due k = s.due k := (rfl)
@[simp] theorem State.armed_wr (k : Timer) : (s.wr F v i j).armed k = s.armed k := (rfl)
@[simp] theorem State.deadline_wr (k : Timer) : (s.wr F v i j).deadline k = s.deadline k := (rfl)
@[simp] theorem State.ran_wr (k : Timer) : (s.wr F v i j).ran k n = s.ran k n := (rfl)
@[simp] theorem State.arm_eq (k : Timer) : s.arm k n = s.armAt k (s.tmu.elapsed + n * 2 ^ 32) := (rfl)

end

/-- A timer that is started runs to the time given. -/
theorem State.deadline_armAt (s : State) (k : Timer) (t : Nat) : (s.armAt k t).deadline k = some t := by
  simp [State.armAt, State.deadline]

/-- Starting one timer leaves every other alone. -/
theorem State.deadline_armAt_ne (s : State) {k m : Timer} (h : k ≠ m) (t : Nat) : (s.armAt k t).deadline m = s.deadline m := by
  have e : (k == m) = false := by simpa using h
  have g : (fun a : Timer × Nat => decide ((a.1 != k) = true ∧ (a.1 == m) = true)) = fun a => a.1 == m := by
    funext a
    by_cases hm : a.1 = m
    · simp [hm, Ne.symm h]
    · simp [hm]
  simp only [State.armAt, State.deadline, List.find?_cons, e, List.find?_filter]
  exact congrArg (fun p => Option.map Prod.snd (List.find? p s.timers)) g

/-- A timer that is stopped does not run. -/
theorem State.deadline_disarm (s : State) (k : Timer) : (s.disarm k).deadline k = none := by
  simp [State.disarm, State.deadline, List.find?_eq_none]

end Sys2Proof.Machine
end

