-- ==== Sys2Proof/Tests/Witness.lean ====
section
/-! SUPPORT. A state and operands that meet the hypotheses of each statement. -/

set_option linter.unusedVariables false
set_option Elab.async false

open Sys2Proof Sys2Proof.Machine

/-- Entry 1 of a type, ACTIVE on engine 0, which runs. -/
def Sys2Proof.Tests.entry (ty : Nat) : State :=
  (((State.reset.wr TEN_SVC0_EN 1 1).wr TEN_SVC0_STATE svcActive 1).wr ENG_STAT_STATE engRun 0).wr TEN_SVC0_TYPE ty 1

/-- Entry 1 of a type with a payload in progress. -/
def Sys2Proof.Tests.entryMsg (ty : Nat) (l : List Byte) : State := (Tests.entry ty).setCur 1 l

/-- Management firmware runs. -/
def Sys2Proof.Tests.mgmt : State :=
  { State.reset.wr PWR_STAT_STATE 1 with boot := { State.reset.boot with running := true } }

/-- A state with the parameter block of entry 1, as its engine took it. -/
def Sys2Proof.Tests.params (s : State) (l : List Byte) : State := { s with ten := { s.ten with block := Tab.put s.ten.block 1 l [] } }

/-- A packet for entry 1 waits at engine 0. -/
def Sys2Proof.Tests.inbox (s : State) (l : List Byte) : State :=
  { s with ten := { s.ten with inbox := [(0, [(1, { payload := l })])] } }

/-- Ring `r` of a type on the management side, running, with a descriptor fetched. -/
def Sys2Proof.Tests.ring (r ty : Nat) (d : Desc) : State :=
  ((((State.reset.wr RNG_RCFG_SIDE 1 r).wr RNG_RCFG_TYPE ty r).wr RNG_RSTAT_STATE ringRunning r).setFetched r [d])

/-- Window 3 of the bridge, 64 KiB at BAR4 offset 0 over entry 1, a memory service in a role; further parameters. -/
def Sys2Proof.Tests.bridge (l : List Byte) : State :=
  (((((Tests.params (Tests.entry 5) l).wr BRG_CTRL_EN 1).wr BRG_WCTRL_EN 1 3).wr BRG_WCTRL_SIZE 16 3).wr BRG_WCTRL_SVC 1 3).wr PWR_STAT_STATE 1

/-- The ROM in a stage, with an image table in flash: a KIND 1 entry, a KIND 2 entry of slot 3 and a KIND 3 entry. -/
def Sys2Proof.Tests.tableFlash (stage : Nat) : State :=
  let e := TableEntry.bytes { index := 0, kind := 1, slot := 0, offset := 0x2000, length := 512 } ++ TableEntry.bytes { index := 1, kind := 2, slot := 3, offset := 0x3000, length := 4096 } ++
    TableEntry.bytes { index := 2, kind := 3, slot := 0, offset := 0x4000, length := 268 }
  let h := ascii "OXIT" ++ [1, 3, 0, 2] ++ leBytes 4 7
  { State.reset.wr BOOT_STAT_STAGE stage with
    boot := { State.reset.boot with held := false }, flash := Memory.write [] 0 (h ++ leBytes 4 (crc32 (h ++ e)) ++ e) }

/-- The USB-C port attached as sink, and as source, to a PD partner. -/
def Sys2Proof.Tests.snk : State := ((State.reset.wr UPD_STAT_STATE 3).wr UPD_STAT_PD 1).wr UPD_STAT_RPCUR 2
def Sys2Proof.Tests.src : State := (((State.reset.wr UPD_STAT_STATE 4).wr UPD_STAT_PD 1).wr UPD_STAT_PROLE 1).wr UPD_STAT_DROLE 1

theorem witness_EmptyQueueIdles : (∃ (s : State), (s.pending = [])) := ⟨State.reset, by decide +kernel⟩

theorem witness_RegisterWritePlain :
    (∃ (off : BitVec 26), ∃ (w : Word), ∃ (hw : Word), ∃ (mgmt : Bool), ∃ (b : Block), ∃ (r : Reg), ∃ (i : Nat), ∃ (j : Nat), ∃ (v : Nat), ∃ (s : State), (off.toNat % 4 = 0) ∧ (padWindow off.toNat 4 = false) ∧ (epWindow off.toNat = false) ∧ (findReg off.toNat = some (b, r, i, j)) ∧ (v = hwWins off.toNat (s.steerWins off.toNat w.toNat hw.toNat) hw.toNat) ∧ ((s.blockWrites off.toNat v mgmt).findSome? id = none)) ∧
    (∃ (off : BitVec 26), ∃ (s : State), (off.toNat % 4 = 0) ∧ (assigned off.toNat = false) ∧ (padWindow off.toNat 4 = false)) ∧
    (∃ (off : BitVec 26), ∃ (w : Word), ∃ (mgmt : Bool), ∃ (b : Block), ∃ (r : Reg), ∃ (i : Nat), ∃ (j : Nat), ∃ (s : State), (off.toNat % 4 = 0) ∧ (padWindow off.toNat 4 = false) ∧ (epWindow off.toNat = false) ∧ (findReg off.toNat = some (b, r, i, j)) ∧ ((s.blockWrites off.toNat w.toNat mgmt).findSome? id = none)) :=
  ⟨⟨0x180008, 0, 0, false, (((findReg 0x180008).getD (block_FAB, ⟨0, 0, 0, 0, 0, []⟩, 0, 0)).1), (((findReg 0x180008).getD (block_FAB, ⟨0, 0, 0, 0, 0, []⟩, 0, 0)).2.1), 0, 0, 0, State.reset, by and_intros <;> decide +kernel⟩,
   ⟨0x260000, State.reset, by and_intros <;> decide +kernel⟩,
   ⟨0x18000C, 1, false, (((findReg 0x18000C).getD (block_FAB, ⟨0, 0, 0, 0, 0, []⟩, 0, 0)).1), (((findReg 0x18000C).getD (block_FAB, ⟨0, 0, 0, 0, 0, []⟩, 0, 0)).2.1), 0, 0, State.reset, by and_intros <;> decide +kernel⟩⟩

theorem witness_FieldAccessTypes :
    (∃ (s : State), ∃ (lk : Bool), ∃ (fs : List Field), ∃ (i : Nat), ∃ (j : Nat), ∃ (w : Nat), ∃ (F : Field), (Tab.sorted s.regs = true) ∧ (fs.Pairwise (fun A B => A.key i j ≠ B.key i j)) ∧ (F ∈ fs) ∧ ((∀ A ∈ fs, s.rd A i j < 2 ^ A.width))) ∧
    (∃ (s : State), ∃ (lk : Bool), ∃ (fs : List Field), ∃ (i : Nat), ∃ (j : Nat), ∃ (w : Nat), ∃ (G : Field), ∃ (k : Nat), ∃ (l : Nat), ((∀ A ∈ fs, A.key i j ≠ G.key k l))) :=
  ⟨⟨State.reset, false, [FAB_LOCK_LOCK], 0, 0, 0, FAB_LOCK_LOCK, by decide, by decide, by decide, by decide⟩,
   ⟨State.reset, false, [FAB_LOCK_LOCK], 0, 0, 0, FAB_SELF_HUB, 0, 0, by decide⟩⟩

theorem witness_LockBitOfOneBlock : (∃ (b : Block), ∃ (L : Field), ∃ (w : Word), ∃ (mgmt : Bool), ∃ (s : State), (b ∈ regBlocks) ∧ (b.lock = some L) ∧ (w.toNat.testBit L.lo = true) ∧ (Tab.sorted s.regs = true) ∧ ((s.blockWrites L.off w.toNat mgmt).findSome? id = none)) := ⟨block_XSW, ((block_XSW.lock.getD FAB_LOCK_LOCK)), 0x80000000, false, State.reset, by and_intros <;> decide +kernel⟩

theorem witness_CounterClearRace : (∃ (off : BitVec 26), ∃ (w : Word), ∃ (inc : Word), ∃ (b : Nat), ∃ (F : Field), ∃ (i : Nat), ∃ (j : Nat), ∃ (s : State), (Tab.sorted s.regs = true) ∧ (b < 32) ∧ (w.toNat.testBit b = true) ∧ (inc.toNat.testBit b = true) ∧ ((F, i, j) ∈ State.countersOf off.toNat b) ∧ (F.lo ≤ F.hi)) := ⟨0xD00C0, 0x8000, 0x8000, 15, TRK_CNT_COUNT, 0, 15, State.reset, by and_intros <;> decide +kernel⟩

theorem witness_CounterClears : (∃ (off : Nat), ∃ (F : Field), ∃ (n : Nat), ∃ (b : Nat), ∃ (w : Word), ∃ (inc : Word), ∃ (s : State), ((off, F, n) ∈ State.clearOne) ∧ (b < n) ∧ (Tab.sorted s.regs = true)) := ⟨0x180060, FAB_CNT_COUNT, 8, 7, 0, 0, State.reset, by and_intros <;> decide +kernel⟩

theorem witness_TunnelContexts :
    (∃ (n : Fin 256), ∃ (s : State), (s.on FAB_CTXSTAT_BUSY = false) ∧ (n.val ≠ 0) ∧ (¬ n.val > 252) ∧ (s.rd CTX3_STATE n = 0) ∧ (s.openCheck n = .ok)) ∧
    (∃ (n : Fin 256), ∃ (s : State), (s.on FAB_CTXSTAT_BUSY = false) ∧ (n.val ≠ 0) ∧ (¬ n.val > 252) ∧ (s.rd CTX3_STATE n = 1) ∧ (s.due (.slot n) = false)) ∧
    (∃ (n : Fin 256), ∃ (s : State), (s.on FAB_CTXSTAT_BUSY = false) ∧ (n.val ≠ 0) ∧ (¬ n.val > 252) ∧ (s.rd CTX3_STATE n = 2) ∧ (s.on CTX2_DIR n = true ∨ Tab.get s.fab.inflight n 0 ≠ 0)) ∧
    (∃ (n : Fin 256), ∃ (s : State), (s.on FAB_CTXSTAT_BUSY = false) ∧ (n.val ≠ 0) ∧ (¬ n.val > 252) ∧ (s.rd CTX3_STATE n = 2) ∧ (s.on CTX2_DIR n = false) ∧ (Tab.get s.fab.inflight n 0 = 0)) ∧
    (∃ (n : Fin 256), ∃ (s : State), (s.on FAB_CTXSTAT_BUSY = false) ∧ (n.val ≠ 0) ∧ (¬ n.val > 252) ∧ (s.rd CTX3_STATE n = 2)) ∧
    (∃ (n : Fin 256), ∃ (s : State), (s.on FAB_CTXSTAT_BUSY = false) ∧ (n.val ≠ 0) ∧ (¬ n.val > 252) ∧ (s.rd CTX3_STATE n = 1) ∧ (s.due (.slot n) = true)) ∧
    (∃ (s : State), (s.on FAB_CTXSTAT_BUSY = true) ∧ (s.fab.cmdOpen = false)) ∧
    (∃ (n : Fin 256), ∃ (s : State), (s.on FAB_CTXSTAT_BUSY = true)) ∧
    (∃ (n : Fin 253), ∃ (w : Word), ∃ (s : State), (n.val ≠ 0) ∧ (s.rd CTX3_STATE n = 0) ∧ (bitsOf w.toNat 7 0 ≤ 252)) ∧
    (∃ (n : Fin 253), ∃ (k : Fin 8), ∃ (w : Word), ∃ (s : State), (n.val ≠ 0) ∧ (s.rd CTX3_STATE n = 3)) ∧
    (∃ (k : Fin 256), ∃ (w : Word), ∃ (s : State), (s.dlistUsed k = false)) ∧
    (∃ (k : Fin 256), ∃ (w : Word), ∃ (s : State), (s.dlistUsed k = true)) ∧
    (∃ (w : Word), ∃ (s : State), (State.slots.any (fun n => s.rd CTX3_STATE n != 0) = false)) ∧
    (∃ (w : Word), ∃ (s : State), (State.slots.any (fun n => s.rd CTX3_STATE n != 0) = false) ∧ (s.on FAB_LOCK_LOCK = false) ∧ (1 ≤ bitsOf w.toNat 24 18) ∧ (1 ≤ bitsOf w.toNat 10 7) ∧ ((∀ t < 4, s.rd TRK_STAT_STATE t = 0))) ∧
    (∃ (w : Word), ∃ (s : State), (State.slots.any (fun n => s.rd CTX3_STATE n != 0) = true)) ∧
    (∃ (w : Word), ∃ (s : State), (s.on FAB_LOCK_LOCK = false) ∧ ((∀ t < 4, s.rd TRK_STAT_STATE t = 0))) ∧
    (∃ (n : Fin 253), ∃ (s : State), (s.rd CTX3_STATE n = 1) ∧ (s.due (.slot n) = true)) ∧
    (∃ (n : Fin 253), ∃ (s : State), (s.rd CTX3_STATE n = 3) ∧ (s.due (.slot n) = true)) ∧
    (∃ (n : Fin 253), ∃ (s : State), (s.rd CTX3_STATE n = 4) ∧ (s.due (.slot n) = true)) ∧
    (∃ (n : Fin 253), ∃ (s : State), (s.rd CTX3_STATE n = 3) ∧ (s.on CTX2_DIR n = false) ∧ (Tab.get s.fab.inflight n 0 = 0)) ∧
    (∃ (n : Fin 253), ∃ (s : State), (s.rd CTX3_STATE n = 2)) ∧
    (∃ (n : Fin 253), ∃ (s : State), (s.due (.slot n) = false)) :=
  ⟨⟨1, ((((State.reset.wr CTX2_PROTO 0 1).wr CTX2_VER 1 1).wr CTX1_DEST 0x40080 1).wr CTX0_KEYSRC 1 1), by and_intros <;> decide +kernel⟩,
   ⟨252, (State.reset.wr CTX3_STATE 1 252), by and_intros <;> decide +kernel⟩,
   ⟨2, ((State.reset.wr CTX3_STATE 2 2).wr CTX2_DIR 1 2), by and_intros <;> decide +kernel⟩,
   ⟨2, (State.reset.wr CTX3_STATE 2 2), by and_intros <;> decide +kernel⟩,
   ⟨2, (State.reset.wr CTX3_STATE 2 2), by and_intros <;> decide +kernel⟩,
   ⟨9, ((State.reset.wr CTX3_STATE 1 9).arm (.slot 9) 0), by and_intros <;> decide +kernel⟩,
   ⟨(State.reset.wr FAB_CTXSTAT_BUSY 1), by and_intros <;> decide +kernel⟩,
   ⟨0, (State.reset.wr FAB_CTXSTAT_BUSY 1), by decide +kernel⟩,
   ⟨252, 0, State.reset, by and_intros <;> decide +kernel⟩,
   ⟨1, 2, 0, (State.reset.wr CTX3_STATE 3 1), by and_intros <;> decide +kernel⟩,
   ⟨255, 0, State.reset, by decide +kernel⟩,
   ⟨7, 0, (((State.reset.wr CTX3_STATE 1 3).wr CTX6_MCAST_BASE 7 3).wr CTX6_MCAST_CNT 1 3), by decide +kernel⟩,
   ⟨0, State.reset, by decide +kernel⟩,
   ⟨0x80040080, State.reset, by and_intros <;> decide +kernel⟩,
   ⟨0, (State.reset.wr CTX3_STATE 4 252), by decide +kernel⟩,
   ⟨0x1234, State.reset, by and_intros <;> decide +kernel⟩,
   ⟨9, ((State.reset.wr CTX3_STATE 1 9).arm (.slot 9) 0), by and_intros <;> decide +kernel⟩,
   ⟨9, ((State.reset.wr CTX3_STATE 3 9).arm (.slot 9) 0), by and_intros <;> decide +kernel⟩,
   ⟨9, ((State.reset.wr CTX3_STATE 4 9).arm (.slot 9) 0), by and_intros <;> decide +kernel⟩,
   ⟨9, (State.reset.wr CTX3_STATE 3 9), by and_intros <;> decide +kernel⟩,
   ⟨9, (State.reset.wr CTX3_STATE 2 9), by decide +kernel⟩,
   ⟨9, ((State.reset.wr CTX3_STATE 4 9).arm (.slot 9) 1), by decide +kernel⟩⟩

theorem witness_TimeUnit :
    (∃ (s : State), (¬ s.rd PWR_STAT_STATE ≥ 3) ∧ (s.boot.held = false)) ∧
    (∃ (w : Word), ∃ (s : State), (incrOk ((s.rd TMU_INCR_HI_INT * 2 ^ 32 + w.toNat % 2 ^ 32 : Nat) : Int) = true) ∧ (incrOk (((s.rd TMU_INCR_HI_INT * 2 ^ 32 + w.toNat % 2 ^ 32 : Nat) : Int) + s.slewAhead) = true)) ∧
    (∃ (s : State), (s.tmu.slewLeft = 0)) ∧
    (∃ (s : State), (s.on TMU_UTC_LEAP61 = true) ∧ ((s.tmu.leapDay + 1) * 86400 ≤ s.utcNow)) ∧
    (∃ (s : State), (s.on TMU_UTC_LEAP61 = false) ∧ (s.on TMU_UTC_LEAP59 = true) ∧ ((s.tmu.leapDay + 1) * 86400 - 1 ≤ s.utcNow)) ∧
    (∃ (s : State), (s.on TMU_UTC_LEAP61 = true) ∧ (s.utcNow < (s.tmu.leapDay + 1) * 86400)) ∧
    (∃ (s : State), (¬ s.rd TMU_SET_NS_NS > 999999999)) ∧
    (∃ (s : State), (s.rd TMU_SET_NS_NS > 999999999)) ∧
    (∃ (s : State), (incrOk (s.tmu.incr + signedOf 24 (s.rd TMU_SLEW_OFS_OFS)) = true)) ∧
    (∃ (s : State), ∃ (t : Wide), ∃ (l : List TmuCmd), (s.tmu.cmds = .set t :: l)) ∧
    (∃ (s : State), ∃ (d : Int), ∃ (l : List TmuCmd), (s.tmu.cmds = .step d :: l) ∧ (¬ (s.tmu.tod.units : Int) + d < 0)) ∧
    (∃ (s : State), ∃ (d : Int), ∃ (l : List TmuCmd), (s.tmu.cmds = .step d :: l) ∧ ((s.tmu.tod.units : Int) + d < 0)) ∧
    (∃ (s : State), ∃ (ofs : Int), ∃ (n : Nat), ∃ (l : List TmuCmd), (s.tmu.cmds = .slew ofs n :: l)) ∧
    (∃ (s : State), (s.tmu.snap = true) ∧ (s.tmu.cmds = []) ∧ (Tab.sorted s.regs = true)) :=
  ⟨⟨({ State.reset with boot := { State.reset.boot with held := false } }), by and_intros <;> decide +kernel⟩,
   ⟨0x418937, State.reset, by and_intros <;> decide +kernel⟩,
   ⟨State.reset, by decide +kernel⟩,
   ⟨({ State.reset.wr TMU_UTC_LEAP61 1 with tmu := { tod := { sec := 86400 } } }), by and_intros <;> decide +kernel⟩,
   ⟨({ State.reset.wr TMU_UTC_LEAP59 1 with tmu := { tod := { sec := 86399 } } }), by and_intros <;> decide +kernel⟩,
   ⟨(State.reset.wr TMU_UTC_LEAP61 1), by and_intros <;> decide +kernel⟩,
   ⟨(State.reset.wr TMU_SET_NS_NS 999999999), by decide +kernel⟩,
   ⟨(State.reset.wr TMU_SET_NS_NS 1000000000), by decide +kernel⟩,
   ⟨State.reset, by decide +kernel⟩,
   ⟨({ State.reset with tmu := { cmds := [.set { sec := 5 }] } }), ({ sec := 5 }), [], by decide +kernel⟩,
   ⟨({ State.reset with tmu := { tod := { sec := 1 }, cmds := [.step (-1)] } }), -1, [], by and_intros <;> decide +kernel⟩,
   ⟨({ State.reset with tmu := { cmds := [.step (-1)] } }), -1, [], by and_intros <;> decide +kernel⟩,
   ⟨({ State.reset with tmu := { cmds := [.slew 3 4] } }), 3, 4, [], by decide +kernel⟩,
   ⟨({ State.reset with tmu := { snap := true } }), by and_intros <;> decide +kernel⟩⟩

theorem witness_CompareAndPulsePerSecond :
    (∃ (c : Fin 8), ∃ (s : State), (s.on CMP_CTRL_EN c = true) ∧ (0 ≤ s.compareDiff c) ∧ (¬ s.compareDiff c ≥ 2) ∧ (s.on CMP_CTRL_PERIODIC c = false)) ∧
    (∃ (c : Fin 8), ∃ (s : State), (s.on CMP_CTRL_EN c = true) ∧ (s.compareDiff c ≥ 2) ∧ (s.on CMP_CTRL_PERIODIC c = true) ∧ (Tab.get s.tmu.behind c false = false)) ∧
    (∃ (c : Fin 8), ∃ (s : State), (s.on CMP_CTRL_EN c = true) ∧ (0 ≤ s.compareDiff c) ∧ (s.on CMP_CTRL_PERIODIC c = true) ∧ (Tab.get s.tmu.behind c false = true)) ∧
    (∃ (c : Fin 8), ∃ (s : State), (s.due (.pulse c) = true)) ∧
    (∃ (i : Fin 2), ∃ (rise : Bool), ∃ (n : Nat), ∃ (s : State), (s.on PPSI_CFG_EN i = true) ∧ ((rise == s.on PPSI_CFG_EDGE i) = false) ∧ (s.rd PPSI_CFG_FILT i * 100 * 2 ^ 32 ≤ s.sixteenths n) ∧ (s.on PPSI_STAT_LOS i = false) ∧ (s.ppsInterval i (s.tmu.elapsed - s.sixteenths n) = true) ∧ (s.on PPSI_STAT_VALID i = false)) ∧
    (∃ (i : Fin 2), ∃ (rise : Bool), ∃ (n : Nat), ∃ (s : State), (s.on PPSI_CFG_EN i = false ∨ (rise == s.on PPSI_CFG_EDGE i) = true ∨ s.sixteenths n < s.rd PPSI_CFG_FILT i * 100 * 2 ^ 32)) ∧
    (∃ (i : Fin 2), ∃ (s : State), (s.on PPSI_CFG_EN i = true) ∧ (s.on PPSI_STAT_LOS i = false) ∧ (s.ran (.pps i) (s.rd PPSI_CFG_LOS i * 100000000) = true)) ∧
    (∃ (o : Fin 2), ∃ (s : State), (s.on PPSO_CFG_EN o = true) ∧ (s.on TMU_STAT_TVALID = true) ∧ ((s.ppsTarget o).2 - s.tmu.tod.units ≤ s.tickIncr) ∧ (Tab.get s.tmu.ppsSec o none = none)) ∧
    (∃ (o : Fin 2), ∃ (s : State), (s.due (.ppsTrail o) = true)) :=
  ⟨⟨7, (State.reset.wr CMP_CTRL_EN 1 7), by and_intros <;> decide +kernel⟩,
   ⟨0, (({ State.reset with tmu := { tod := { ns := 2 } } }).wr CMP_CTRL_EN 1 0 |>.wr CMP_CTRL_PERIODIC 1 0), by and_intros <;> decide +kernel⟩,
   ⟨0, (({ State.reset with tmu := { tod := { ns := 2 }, behind := [(0, true)] } }).wr CMP_CTRL_EN 1 0 |>.wr CMP_CTRL_PERIODIC 1 0), by and_intros <;> decide +kernel⟩,
   ⟨3, (State.reset.arm (.pulse 3) 0), by decide +kernel⟩,
   ⟨1, true, 0, ((State.reset.wr PPSI_CFG_EN 1 1).wr PPSI_STAT_LOS 0 1 |>.wr PPSI_CFG_FILT 0 1), by and_intros <;> decide +kernel⟩,
   ⟨1, false, 0, State.reset, by decide +kernel⟩,
   ⟨1, ((((State.reset.wr PPSI_CFG_EN 1 1).wr PPSI_STAT_LOS 0 1).wr PPSI_CFG_LOS 0 1).arm (.pps 1) 0), by and_intros <;> decide +kernel⟩,
   ⟨1, ((({ State.reset with tmu := { tod := { sec := 1, ns := 999999999 } } }).wr PPSO_CFG_EN 1 1).wr TMU_STAT_TVALID 1), by and_intros <;> decide +kernel⟩,
   ⟨1, (State.reset.arm (.ppsTrail 1) 0), by decide +kernel⟩⟩

theorem witness_MainsTracker :
    (∃ (w : Word), ∃ (s : State), ((s.writeReg 0xB0000 w.toNat).rd CYC_CTRL_SRC ≠ 0) ∧ ((s.writeReg 0xB0000 w.toNat).rd CYC_STAT_STATE = 0)) ∧
    (∃ (w : Word), ∃ (s : State), ((s.writeReg 0xB0000 w.toNat).rd CYC_CTRL_SRC ≠ 0) ∧ ((s.writeReg 0xB0000 w.toNat).rd CYC_STAT_STATE ≠ 0)) ∧
    (∃ (w : Word), ∃ (s : State), (s.rd CYC_CTRL_SRC = 0) ∧ (cycIncrOk ((s.rd CYC_INCR_HI_INT * 2 ^ 32 + w.toNat % 2 ^ 32 : Nat) : Int) = true)) ∧
    (∃ (w : Word), ∃ (s : State), (s.rd CYC_CTRL_SRC ≠ 0)) ∧
    (∃ (fall : Bool), ∃ (ago : Nat), ∃ (s : State), (s.rd CYC_CTRL_SRC = 1) ∧ (fall = s.on CYC_ZC_CFG_EDGE) ∧ (s.zcMasked (s.tmu.elapsed - ago) = false) ∧ (s.intervalOk (s.tmu.elapsed - ago) = true)) ∧
    (∃ (fall : Bool), ∃ (ago : Nat), ∃ (s : State), (s.rd CYC_CTRL_SRC = 1) ∧ (fall = s.on CYC_ZC_CFG_EDGE) ∧ (s.zcMasked (s.tmu.elapsed - ago) = false) ∧ (s.intervalOk (s.tmu.elapsed - ago) = false)) ∧
    (∃ (fall : Bool), ∃ (ago : Nat), ∃ (s : State), (s.rd CYC_CTRL_SRC ≠ 1 ∨ fall ≠ s.on CYC_ZC_CFG_EDGE ∨ s.zcMasked (s.tmu.elapsed - ago) = true)) ∧
    (∃ (w : Word), ∃ (s : State), (s.rd CYC_CTRL_SRC = 2) ∧ (bitsOf w.toNat 31 16 = s.rd TMU_STAT_STEPCNT) ∧ (¬ s.rd CYC_SV_NS_NS > 999999999) ∧ (¬ s.svAge (bitsOf w.toNat 15 0) < 0) ∧ (¬ s.svAge (bitsOf w.toNat 15 0) > 25000000 * 2 ^ 16) ∧ (s.cyc.lastEvent = none) ∧ (s.intervalOk (s.tmu.elapsed - (s.svAge (bitsOf w.toNat 15 0)).toNat * 2 ^ 16) = true)) ∧
    (∃ (s : State), ∃ (e : PhaseEvent), ∃ (l : List PhaseEvent), (s.cyc.busy = e :: l) ∧ (s.boundaryDue = false) ∧ (cycIncrOk (s.eventCand e) = true)) ∧
    (∃ (s : State), ∃ (e : PhaseEvent), ∃ (l : List PhaseEvent), (s.cyc.busy = e :: l) ∧ (s.boundaryDue = false) ∧ (cycIncrOk (s.eventCand e) = false)) ∧
    (∃ (s : State), (s.rd CYC_STAT_STATE = 1) ∧ (s.cyc.busy = []) ∧ (s.ran .mains (s.rd CYC_HOLD_LOS * 10000000) = true)) ∧
    (∃ (s : State), (s.rd CYC_STAT_STATE = 2) ∧ (s.cyc.busy = []) ∧ (s.ran .mains (s.rd CYC_HOLD_LOS * 10000000) = true)) ∧
    (∃ (s : State), (s.rd CYC_STAT_STATE = 3) ∧ (s.cyc.busy = []) ∧ (s.ran .holdover (s.rd CYC_HOLD_HOLDMAX * 100000000) = true)) ∧
    (∃ (s : State), (s.boundaryDue = true) ∧ (s.on SHP_PLAN_STAT_ARMED = false)) ∧
    (∃ (s : State), ∃ (θ : Nat), (s.cyc.conv = some θ)) :=
  ⟨⟨1, State.reset, by and_intros <;> decide +kernel⟩,
   ⟨1, (State.reset.wr CYC_STAT_STATE 2), by and_intros <;> decide +kernel⟩,
   ⟨0x1AD7F2A, State.reset, by and_intros <;> decide +kernel⟩,
   ⟨0, (State.reset.wr CYC_CTRL_SRC 2), by decide +kernel⟩,
   ⟨false, 0, (State.reset.wr CYC_CTRL_SRC 1), by and_intros <;> decide +kernel⟩,
   ⟨false, 0, (({ State.reset with cyc := { hist := [0] } }).wr CYC_CTRL_SRC 1), by and_intros <;> decide +kernel⟩,
   ⟨false, 0, State.reset, by decide +kernel⟩,
   ⟨0, (State.reset.wr CYC_CTRL_SRC 2), by and_intros <;> decide +kernel⟩,
   ⟨({ State.reset with cyc := { busy := [{}] } }), {}, [], by and_intros <;> decide +kernel⟩,
   ⟨({ State.reset with cyc := { busy := [{}], fLast := 0 } }), {}, [], by and_intros <;> decide +kernel⟩,
   ⟨((State.reset.wr CYC_STAT_STATE 1).arm .mains 0 |>.wr CYC_HOLD_LOS 0), by and_intros <;> decide +kernel⟩,
   ⟨((State.reset.wr CYC_STAT_STATE 2).arm .mains 0 |>.wr CYC_HOLD_LOS 0), by and_intros <;> decide +kernel⟩,
   ⟨((State.reset.wr CYC_STAT_STATE 3).arm .holdover 0 |>.wr CYC_HOLD_HOLDMAX 0), by and_intros <;> decide +kernel⟩,
   ⟨({ State.reset with cyc := { acc := 2 ^ 48 } }), by and_intros <;> decide +kernel⟩,
   ⟨({ State.reset with cyc := { conv := some 9 } }), 9, by decide +kernel⟩⟩

theorem witness_LanesAndBonds :
    (∃ (n : Fin 28), ∃ (s : State), (s.rd LNE_STAT_STATE n = laneCdr) ∧ (s.on LNE_STAT_LOS n = false)) ∧
    (∃ (n : Fin 28), ∃ (s : State), (s.rd LNE_STAT_STATE n = laneCdr) ∧ ((s.sat LNE_CNT_ACQ_ACQFAIL n).rd LNE_STAT_STATE n = laneCdr)) ∧
    (∃ (n : Fin 28), ∃ (s : State), (s.rd LNE_STAT_STATE n = laneHdr)) ∧
    (∃ (n : Fin 28), ∃ (s : State), (s.rd LNE_STAT_STATE n = laneHdr) ∧ ((s.sat LNE_CNT_ACQ_ACQFAIL n).rd LNE_STAT_STATE n = laneHdr)) ∧
    (∃ (n : Fin 28), ∃ (t : Nat), ∃ (g : Nat), ∃ (hdr : Fin 4), ∃ (bytes : List Byte), ∃ (line : List LineBlock), ∃ (seen : List LineBlock), ∃ (rx : LineBlock), ∃ (s : State), (trunkOf n = some t) ∧ (s.rd LNE_STAT_STATE n = laneAlign) ∧ (s.rd LNE_CTRL_RATE n ≠ 2) ∧ (rx = seenBlock (s.rxInverted n) (hdr, bytes)) ∧ (seen = line.map (seenBlock (s.rxInverted n))) ∧ (alignGood rx.1 rx.2 (lanesOf (s.trunk t).width) = true) ∧ (g = Tab.get s.lne.good n 0 + 1) ∧ (g < 4)) ∧
    (∃ (n : Fin 28), ∃ (t : Nat), ∃ (hdr : Fin 4), ∃ (bytes : List Byte), ∃ (line : List LineBlock), ∃ (seen : List LineBlock), ∃ (rx : LineBlock), ∃ (s : State), (trunkOf n = some t) ∧ (s.rd LNE_STAT_STATE n = laneAlign) ∧ (s.rd LNE_CTRL_RATE n ≠ 2) ∧ (rx = seenBlock (s.rxInverted n) (hdr, bytes)) ∧ (seen = line.map (seenBlock (s.rxInverted n))) ∧ (alignGood rx.1 rx.2 (lanesOf (s.trunk t).width) = true)) ∧
    (∃ (n : Fin 28), ∃ (s : State), (s.rd LNE_STAT_STATE n = laneAlign) ∧ ((s.sat LNE_CNT_ACQ_ACQFAIL n).rd LNE_STAT_STATE n = laneAlign)) ∧
    (∃ (n : Fin 28), ∃ (mv : Nat), ∃ (s : State), (mv < 2 * s.rd LNE_RXCFG_LOSTHR n) ∧ (s.on LNE_STAT_LOS n = false) ∧ (((s.wr LNE_STAT_LOS 1 n).wr LNE_STAT_LOSEV 1 n).rd LNE_STAT_STATE n ≠ laneLocked)) ∧
    (∃ (n : Fin 28), ∃ (mv : Nat), ∃ (s : State), (mv < 2 * s.rd LNE_RXCFG_LOSTHR n) ∧ (s.on LNE_STAT_LOS n = true) ∧ (s.rd LNE_STAT_STATE n = laneLocked)) ∧
    (∃ (n : Fin 28), ∃ (mv : Nat), ∃ (s : State), (¬ mv < 2 * s.rd LNE_RXCFG_LOSTHR n)) ∧
    (∃ (n : Fin 28), ∃ (s : State), ((s.wr LNE_STAT_CDRLK 0 n).rd LNE_STAT_STATE n = laneLocked)) ∧
    (∃ (n : Fin 28), ∃ (s : State), ((s.wr LNE_STAT_CDRLK 0 n).rd LNE_STAT_STATE n ≠ laneLocked)) ∧
    (∃ (n : Fin 28), ∃ (k : Fin 1025), ∃ (lost : Bool), ∃ (s : State), (s.rd LNE_STAT_STATE n = laneLocked) ∧ (s.rd LNE_CTRL_RATE n ≠ 2) ∧ (State.edgeLane n = false) ∧ (k.val ≥ 32)) ∧
    (∃ (n : Fin 28), ∃ (k : Fin 1025), ∃ (lost : Bool), ∃ (s : State), (s.rd LNE_STAT_STATE n = laneLocked) ∧ (s.rd LNE_CTRL_RATE n ≠ 2) ∧ (State.edgeLane n = false) ∧ (¬ k.val ≥ 32)) ∧
    (∃ (n : Fin 28), ∃ (k : Fin 1025), ∃ (s : State), (s.rd LNE_STAT_STATE n = laneLocked) ∧ (State.edgeLane n = true)) ∧
    (∃ (n : Fin 28), ∃ (w : Word), ∃ (s : State), (s.on LNE_GLB_LOCK_LOCK = false)) ∧
    (∃ (t : Fin 4), ∃ (idle : Fin 16384), ∃ (s : State), (¬ (t = 0 ∧ s.kl2Active = true)) ∧ (s.rd TRK_STAT_STATE t ≠ 0) ∧ ((s.trunk t).pos = 0)) ∧
    (∃ (t : Fin 4), ∃ (d0 : Nat), ∃ (d1 : Nat), ∃ (d2 : Nat), ∃ (d3 : Nat), ∃ (s : State), (s.rd LNE_BOND_STATE t = bondDeskew) ∧ (s.bondLocked t = true) ∧ (s.rd TRK_STAT_STATE t ≠ 0) ∧ (s.kl2Active = false) ∧ (¬ ((s.bondLanes t).map (fun n => s.rd LNE_STAT_LANE n)).eraseDups.length < ((s.bondLanes t).map (fun n => s.rd LNE_STAT_LANE n)).length) ∧ (¬ ([d0, d1, d2, d3].take (s.bondLanes t).length).foldl max 0 - ([d0, d1, d2, d3].take (s.bondLanes t).length).foldl min ([d0, d1, d2, d3].getD 0 0) > 4224)) ∧
    (∃ (t : Fin 4), ∃ (s : State), (s.rd LNE_BOND_STATE t = bondDeskew) ∧ (s.bondLocked t = false)) ∧
    (∃ (t : Fin 4), ∃ (s : State), (s.rd LNE_BOND_STATE t = bondFail) ∧ (s.rd TRK_STAT_STATE t = 0)) ∧
    (∃ (t : Fin 4), ∃ (s : State), (s.rd LNE_BOND_STATE t = bondFail)) ∧
    (∃ (n : Fin 28), ∃ (w : Word), ∃ (s : State), (s.on LNE_ES_STAT_BUSY n = false) ∧ ((setBits w.toNat 31 31 1).testBit 31 = true) ∧ ((setBits w.toNat 31 31 1).testBit 30 = false) ∧ (¬ bitsOf (setBits w.toNat 31 31 1) 29 24 < 20) ∧ (¬ bitsOf (setBits w.toNat 31 31 1) 29 24 > 40) ∧ (((s.writeFields false [LNE_ES_CTRL_CNTEXP, LNE_ES_CTRL_PHASE, LNE_ES_CTRL_VOFS] n 0 (setBits w.toNat 31 31 1)).scanCounts n 0 0).rd LNE_STAT_STATE n = laneLocked)) ∧
    (∃ (n : Fin 28), ∃ (s : State), (s.on LNE_ES_STAT_BUSY n = true)) ∧
    (∃ (n : Fin 28), ∃ (errs : Nat), ∃ (s : State), (s.on LNE_ES_STAT_BUSY n = true)) ∧
    (∃ (n : Fin 28), ∃ (w : Word), ∃ (s : State), (s.on LNE_PRBS_CHK n = false) ∧ (s.on LNE_PRBS_GEN n = w.toNat.testBit 31) ∧ (s.rd LNE_PRBS_PAT n = bitsOf w.toNat 29 28) ∧ (bitsOf w.toNat 29 28 ≤ 2) ∧ (w.toNat.testBit 24 = false) ∧ (Tab.sorted s.regs = true)) ∧
    (∃ (n : Fin 28), ∃ (bits : List Bool), ∃ (s : State), ∃ (c : Checker), (s.prbsRuns n = true) ∧ (c = (Tab.get s.lne.chk n {}).takeAll (s.rd LNE_PRBS_PAT n) (bits.map (· ^^ (s.rxInverted n ^^ s.on LNE_PRBS_INV n))))) ∧
    (∃ (n : Fin 28), ∃ (s : State), ∃ (c : Checker), (Tab.sorted s.regs = true)) ∧
    (∃ (n : Fin 28), ∃ (s : State), (s.on LNE_PRBS_GEN n = true) ∧ (s.rd LNE_CTRL_MODE n = 1)) :=
  ⟨⟨3, ((State.reset.wr LNE_STAT_STATE laneCdr 3).wr LNE_STAT_LOS 0 3), by and_intros <;> decide +kernel⟩,
   ⟨3, (State.reset.wr LNE_STAT_STATE laneCdr 3), by and_intros <;> decide +kernel⟩,
   ⟨27, (State.reset.wr LNE_STAT_STATE laneHdr 27), by decide +kernel⟩,
   ⟨27, (State.reset.wr LNE_STAT_STATE laneHdr 27), by and_intros <;> decide +kernel⟩,
   ⟨2, 0, 1, 2, (alignBlock 3 7), [], [], ((2, alignBlock 3 7)), (State.reset.wr LNE_STAT_STATE laneAlign 2), by and_intros <;> decide +kernel⟩,
   ⟨2, 0, 2, (alignBlock 3 7), [], [], ((2, alignBlock 3 7)), (State.reset.wr LNE_STAT_STATE laneAlign 2), by and_intros <;> decide +kernel⟩,
   ⟨0, (State.reset.wr LNE_STAT_STATE laneAlign 0), by and_intros <;> decide +kernel⟩,
   ⟨9, 0, ((State.reset.wr LNE_STAT_LOS 0 9).wr LNE_RXCFG_LOSTHR 40 9), by and_intros <;> decide +kernel⟩,
   ⟨9, 0, (((State.reset.wr LNE_STAT_STATE laneLocked 9).wr LNE_STAT_LOS 1 9).wr LNE_RXCFG_LOSTHR 40 9), by and_intros <;> decide +kernel⟩,
   ⟨9, 400, State.reset, by decide +kernel⟩,
   ⟨9, (State.reset.wr LNE_STAT_STATE laneLocked 9), by decide +kernel⟩,
   ⟨9, State.reset, by decide +kernel⟩,
   ⟨9, 32, false, (State.reset.wr LNE_STAT_STATE laneLocked 9), by and_intros <;> decide +kernel⟩,
   ⟨9, 31, false, (State.reset.wr LNE_STAT_STATE laneLocked 9), by and_intros <;> decide +kernel⟩,
   ⟨17, 0, (State.reset.wr LNE_STAT_STATE laneLocked 17), by and_intros <;> decide +kernel⟩,
   ⟨9, 0, State.reset, by decide +kernel⟩,
   ⟨3, 0, (State.reset.wr TRK_STAT_STATE 1 3), by and_intros <;> decide +kernel⟩,
   ⟨1, 0, 4224, 0, 0, (((((((((State.reset.wr LNE_BOND_STATE bondDeskew 1).wr TRK_STAT_STATE 1 1).wr LNE_STAT_STATE laneLocked 4).wr LNE_STAT_STATE laneLocked 5).wr LNE_STAT_STATE laneLocked 6).wr LNE_STAT_STATE laneLocked 7).wr LNE_STAT_LANE 1 5).wr LNE_STAT_LANE 2 6).wr LNE_STAT_LANE 3 7), by and_intros <;> decide +kernel⟩,
   ⟨2, (State.reset.wr LNE_BOND_STATE bondDeskew 2), by and_intros <;> decide +kernel⟩,
   ⟨2, (State.reset.wr LNE_BOND_STATE bondFail 2), by and_intros <;> decide +kernel⟩,
   ⟨2, (State.reset.wr LNE_BOND_STATE bondFail 2), by decide +kernel⟩,
   ⟨4, 0x28000000, (State.reset.wr LNE_STAT_STATE laneLocked 4), by and_intros <;> decide +kernel⟩,
   ⟨4, (State.reset.wr LNE_ES_STAT_BUSY 1 4), by decide +kernel⟩,
   ⟨4, 0, (State.reset.wr LNE_ES_STAT_BUSY 1 4), by decide +kernel⟩,
   ⟨4, 0x20000000, State.reset, by and_intros <;> decide +kernel⟩,
   ⟨4, [true], ((((State.reset.wr LNE_PRBS_CHK 1 4).wr LNE_CTRL_MODE 1 4).wr LNE_CTRL_EN 1 4).wr LNE_STAT_PD 0 4), ((Checker.takeAll 0 {} [true])), by and_intros <;> decide +kernel⟩,
   ⟨4, State.reset, {}, by decide +kernel⟩,
   ⟨4, ((State.reset.wr LNE_PRBS_GEN 1 4).wr LNE_CTRL_MODE 1 4), by and_intros <;> decide +kernel⟩⟩

theorem witness_TrunksAndRing :
    (∃ (t : Fin 4), ∃ (s : State), ((s.wr TRK_CTRL_EN 1 t).rd TRK_STAT_STATE t = 0)) ∧
    (∃ (t : Fin 4), ∃ (s : State), ∃ (w : Nat), (s.rd TRK_STAT_STATE t = 0) ∧ (s.kl2Active = false) ∧ (s.onUsbC t = false)) ∧
    (∃ (t : Fin 4), ∃ (s : State), (s.rd TRK_STAT_STATE t = 1) ∧ (s.kl2Active = false) ∧ (s.onUsbC t = false) ∧ (s.lane0Locked t = true) ∧ (s.rd LNE_BOND_STATE t ≠ bondUp) ∧ (s.due (.bond t) = true) ∧ (¬ (s.trunk t).width ≤ 1)) ∧
    (∃ (t : Fin 4), ∃ (s : State), (s.rd TRK_STAT_STATE t = 1) ∧ (s.kl2Active = false) ∧ (s.onUsbC t = false) ∧ (s.rd LNE_BOND_STATE t ≠ bondUp) ∧ (s.due (.bond t) = true) ∧ ((s.trunk t).width ≤ 1)) ∧
    (∃ (t : Fin 4), ∃ (s : State), (s.rd TRK_STAT_STATE t = 2) ∧ ((s.trunk t).lastRec = [])) ∧
    (∃ (t : Fin 4), ∃ (bytes : List Byte), ∃ (s : State), (s.rd TRK_STAT_STATE t = 3) ∧ (bytes.length = 24) ∧ (blockOk 0x55 (bytes.take 8) = true) ∧ (blockOk 0x66 ((bytes.drop 8).take 8) = true) ∧ (blockOk 0x99 (bytes.drop 16) = true) ∧ ((s.trunk t).partner ≠ bytes) ∧ ((ofBe ((bytes.drop 2).take 1)).testBit 0 = true)) ∧
    (∃ (t : Fin 4), ∃ (s : State), (s.rd TRK_STAT_STATE t = 2) ∧ (s.due (.train t) = true)) ∧
    (∃ (t : Fin 4), ∃ (s : State), (s.rd TRK_STAT_STATE t = 3) ∧ (s.due (.seal t) = true)) ∧
    (∃ (t : Fin 4), ∃ (s : State), (s.due (.bond t) = false) ∧ (s.due (.train t) = false) ∧ (s.due (.seal t) = false)) ∧
    (∃ (t : Fin 4), ∃ (s : State), (s.rd TRK_STAT_STATE t = 5)) ∧
    (∃ (t : Fin 4), ∃ (s : State), (s.trunkUp t = true) ∧ (s.kl2Active = false)) ∧
    (∃ (t : Fin 2), ∃ (s : State), ∃ (u : State), ∃ (w : List Byte), (s.ringPort t = true) ∧ (s.trunkUp t = true) ∧ (s.seamless t = true) ∧ (s.portReady t = true) ∧ (s.sending t = none) ∧ (s.rsmDue t = true) ∧ (s.kl3Wire t { hdr := s.rsmPacket t } = (u, w))) ∧
    (∃ (t : Fin 4), ∃ (payload : List Byte), ∃ (s : State), (s.ringPort t = true) ∧ (¬ payload.length < 8) ∧ (ofBe ((payload.drop 4).take 1) = s.ringSize) ∧ (¬ ofBe ((payload.drop 2).take 1) > s.ringSize - 1) ∧ (¬ ofBe ((payload.drop 3).take 1) > s.ringSize - 1)) ∧
    (∃ (t : Fin 4), ∃ (payload : List Byte), ∃ (s : State), (s.ringPort t = true) ∧ (¬ payload.length < 8) ∧ (ofBe ((payload.drop 4).take 1) ≠ s.ringSize)) ∧
    (∃ (t : Fin 2), ∃ (s : State), (s.ringPort t = true) ∧ (s.trunkUp t = true) ∧ (s.seamless t = true) ∧ (Tab.get s.ring.lost t false = false) ∧ (s.ran (.rsmHeard t) (4 * s.rd FAB_RING_CFG_RSMINT * 10000) = true)) ∧
    (∃ (s : State), (s.on FAB_RING_CFG_AUTO = true)) ∧
    (∃ (v : Fin 168), ∃ (s : State), (s.restoreHeld v = true) ∧ (s.on FAB_RING_CFG_AUTO = true)) :=
  ⟨⟨3, State.reset, by decide +kernel⟩,
   ⟨1, State.reset, 3, by and_intros <;> decide +kernel⟩,
   ⟨1, ((State.reset.wr TRK_STAT_STATE 1 1).wr LNE_STAT_STATE 4 4 |>.arm (.bond 1) 0), by and_intros <;> decide +kernel⟩,
   ⟨1, (({ State.reset with trunks := [(1, { width := 1 })] }).wr TRK_STAT_STATE 1 1 |>.arm (.bond 1) 0), by and_intros <;> decide +kernel⟩,
   ⟨2, (State.reset.wr TRK_STAT_STATE 2 2), by and_intros <;> decide +kernel⟩,
   ⟨2, (withCrc8 [0x55, 3, 1, 0, 0, 0, 0] ++ withCrc8 [0x66, 0, 0, 0, 0, 0, 0] ++ withCrc8 [0x99, 0, 0, 0, 0, 0, 0]), (State.reset.wr TRK_STAT_STATE 3 2), by and_intros <;> decide +kernel⟩,
   ⟨1, ((State.reset.wr TRK_STAT_STATE 2 1).arm (.train 1) 0), by and_intros <;> decide +kernel⟩,
   ⟨1, ((State.reset.wr TRK_STAT_STATE 3 1).arm (.seal 1) 0), by and_intros <;> decide +kernel⟩,
   ⟨0, State.reset, by and_intros <;> decide +kernel⟩,
   ⟨1, (State.reset.wr TRK_STAT_STATE 5 1), by decide +kernel⟩,
   ⟨1, (State.reset.wr TRK_STAT_STATE 4 1), by and_intros <;> decide +kernel⟩,
   ⟨1, (((State.reset.wr FAB_RING_CFG_EN 1).wr TRK_STAT_STATE 4 1).wr TRK_STAT_SEAMLESS 1 1), (((State.reset.wr FAB_RING_CFG_EN 1).wr TRK_STAT_STATE 4 1).wr TRK_STAT_SEAMLESS 1 1), (((((State.reset.wr FAB_RING_CFG_EN 1).wr TRK_STAT_STATE 4 1).wr TRK_STAT_SEAMLESS 1 1).kl3Wire 1 { hdr := (((State.reset.wr FAB_RING_CFG_EN 1).wr TRK_STAT_STATE 4 1).wr TRK_STAT_SEAMLESS 1 1).rsmPacket 1 }).2), by and_intros <;> decide +kernel⟩,
   ⟨1, ([0xA5, 0, 1, 0, 2, 0, 0, 0]), (State.reset.wr FAB_RING_CFG_EN 1), by and_intros <;> decide +kernel⟩,
   ⟨1, ([0xA5, 0, 1, 0, 9, 0, 0, 0]), (State.reset.wr FAB_RING_CFG_EN 1), by and_intros <;> decide +kernel⟩,
   ⟨1, ((((State.reset.wr FAB_RING_CFG_EN 1).wr TRK_STAT_STATE 4 1).wr TRK_STAT_SEAMLESS 1 1 |>.wr FAB_RING_CFG_RSMINT 0).arm (.rsmHeard 1) 0), by and_intros <;> decide +kernel⟩,
   ⟨(State.reset.wr FAB_RING_CFG_AUTO 1), by decide +kernel⟩,
   ⟨167, ({ State.reset.wr FAB_RING_CFG_AUTO 1 |>.wr FAB_RING_CFG_RESTORE 0 with ring := { since := [(167, some 0)] } }), by and_intros <;> decide +kernel⟩⟩

theorem witness_CreditsAndSealing :
    (∃ (t : Fin 4), ∃ (s : State), (s.creditLive t = true) ∧ (((List.range 8).filter (fun c => s.returnable t c != 0)).isEmpty = false)) ∧
    (∃ (t : Fin 4), ∃ (s : State), (s.creditLive t = true)) ∧
    (∃ (t : Fin 4), ∃ (bytes : List Byte), ∃ (s : State), (s.trunkUp t = true) ∧ (s.kl2Active = false) ∧ (ofBe (bytes.take 1) = 0x33) ∧ (blockOk 0x33 bytes = true)) ∧
    (∃ (t : Fin 4), ∃ (bytes : List Byte), ∃ (s : State), (s.trunkUp t = true) ∧ (s.kl2Active = false) ∧ (ofBe (bytes.take 1) = 0x33) ∧ (blockOk 0x33 bytes = false)) ∧
    (∃ (t : Fin 4), ∃ (c : Fin 8), ∃ (h : Copy), ∃ (s : State), (s.head t c = some h) ∧ (s.trunkUp t = true) ∧ (s.kl2Active = false) ∧ (s.creditAvail t c < h.cost) ∧ (s.stallTime t c h = true) ∧ (Tab.get (s.trunk t).stalled c false = false)) ∧
    (∃ (t : Fin 4), ∃ (c : Fin 8), ∃ (w : Word), ∃ (s : State), ((s.writeReg (0xD0020 + 0x1000 * t + 4 * c) w.toNat).creditLive t = false)) ∧
    (∃ (t : Fin 4), ∃ (c : Fin 8), ∃ (w : Word), ∃ (s : State), ((s.writeReg (0xD0020 + 0x1000 * t + 4 * c) w.toNat).creditLive t = true) ∧ ((s.writeReg (0xD0020 + 0x1000 * t + 4 * c) w.toNat).rd TRK_GRANT_GRANT t c > s.rd TRK_GRANT_GRANT t c)) ∧
    (∃ (t : Fin 4), ∃ (w : Word), ∃ (s : State), (w.toNat.testBit 31 = false)) ∧
    (∃ (t : Fin 4), ∃ (w : Word), ∃ (s : State), (w.toNat.testBit 31 = true) ∧ (s.on TRK_SEAL_VALID t = false) ∧ (((s.wr TRK_SEAL_SLOT (bitsOf w.toNat 29 24) t).wr TRK_SEAL_PARTNER (bitsOf w.toNat 17 0) t).secretOk t = true)) ∧
    (∃ (t : Fin 4), ∃ (s : State), (s.trunkUp t = true) ∧ (s.on TRK_STAT_SEALED t = true) ∧ (s.epochOver t = true) ∧ (¬ s.rd TRK_SEALSTAT_TXEPOCH t ≥ 0xFFFF) ∧ (s.secretOk t = true)) ∧
    (∃ (t : Fin 4), ∃ (s : State), ((s.trunk t).derivingKeys = true) ∧ (s.secretOk t = true)) :=
  ⟨⟨1, ((State.reset.wr TRK_STAT_STATE 4 1).wr TRK_GRANT_GRANT 9 1 2), by and_intros <;> decide +kernel⟩,
   ⟨1, (State.reset.wr TRK_STAT_STATE 4 1), by decide +kernel⟩,
   ⟨1, (withCrc8 [0x33, 0, 0, 0, 0, 0, 0]), (State.reset.wr TRK_STAT_STATE 4 1), by and_intros <;> decide +kernel⟩,
   ⟨1, ([0x33, 0, 0, 0, 0, 0, 0]), (State.reset.wr TRK_STAT_STATE 4 1), by and_intros <;> decide +kernel⟩,
   ⟨1, 2, ({ cost := 9 }), (({ State.reset with xsw := { queues := [(10, [{ cost := 9 }])] } }).wr TRK_STAT_STATE 4 1 |>.wr TRK_TIMERS_STALL 0 1), by and_intros <;> decide +kernel⟩,
   ⟨1, 2, 100, State.reset, by decide +kernel⟩,
   ⟨1, 2, 100, (State.reset.wr TRK_STAT_STATE 4 1 |>.wr TRK_GRANT_GRANT 5 1 2), by and_intros <;> decide +kernel⟩,
   ⟨1, 0, State.reset, by decide +kernel⟩,
   ⟨1, 0x85000000, ({ State.reset with keys := { check := [(5, State.slotCheck ((State.reset.wr KEY_SLOT_STATE 1 5).wr KEY_SLOT_USAGE (2 ^ useSeal) 5) 5)] } } |>.wr KEY_SLOT_STATE 1 5 |>.wr KEY_SLOT_USAGE (2 ^ useSeal) 5), by and_intros <;> decide +kernel⟩,
   ⟨1, (({ State.reset with trunks := [(1, { txPn := 0x100000000 })], keys := { check := [(0, State.slotCheck ((State.reset.wr KEY_SLOT_STATE 1 0).wr KEY_SLOT_USAGE (2 ^ useSeal) 0) 0)] } } |>.wr KEY_SLOT_STATE 1 0 |>.wr KEY_SLOT_USAGE (2 ^ useSeal) 0) |>.wr TRK_STAT_STATE 4 1 |>.wr TRK_STAT_SEALED 1 1), by and_intros <;> decide +kernel⟩,
   ⟨1, ({ State.reset with trunks := [(1, { derivingKeys := true })], keys := { check := [(0, State.slotCheck ((State.reset.wr KEY_SLOT_STATE 1 0).wr KEY_SLOT_USAGE (2 ^ useSeal) 0) 0)] } } |>.wr KEY_SLOT_STATE 1 0 |>.wr KEY_SLOT_USAGE (2 ^ useSeal) 0), by and_intros <;> decide +kernel⟩⟩

theorem witness_ReceiveAndLegacyLink :
    (∃ (t : Fin 4), ∃ (blocks : List (Nat × List Byte)), ∃ (bytes : List Byte), ∃ (h : HeaderIn), ∃ (ecc : Fin 4), ∃ (s : State), ∃ (u : State), (s.rd TRK_STAT_STATE t = 4) ∧ (s.kl2Active = false) ∧ (takePacket blocks = some (bytes, .term, [])) ∧ (¬ bytes.length < 20) ∧ (h = parseHeader bytes) ∧ (s.headerFail t h = none) ∧ (h.isSealed = false) ∧ (s.isRsm { h.pkt with payload := (bytes.drop 20).take 1 } = false) ∧ (s.overrun t h = false) ∧ ((bytes.drop 20).length = h.len + 4) ∧ (State.crcTail ((bytes.drop 20).take h.len) ((bytes.drop 20).drop h.len) = .good) ∧ (u = (s.useCredit t h).wrap TRK_RXPKT_COUNT t)) ∧
    (∃ (t : Fin 4), ∃ (blocks : List (Nat × List Byte)), ∃ (bytes : List Byte), ∃ (i : Nat), ∃ (ecc : Fin 4), ∃ (s : State), (s.rd TRK_STAT_STATE t = 4) ∧ (s.kl2Active = false) ∧ (takePacket blocks = some (bytes, .term, [])) ∧ (¬ bytes.length < 20) ∧ (s.headerFail t (parseHeader bytes) = some i)) ∧
    (∃ (cols : List (List (Bool × Byte))), ∃ (bytes : List Byte), ∃ (s : State), (kl2Unstripe cols = some bytes) ∧ (s.kl2Active = true) ∧ (s.trunkUp 0 = true) ∧ (¬ bytes.length < 20) ∧ (crc16 (bytes.take 18) = ofBe ((bytes.drop 18).take 2)) ∧ (bitsOf (ofBe ((bytes.drop 0).take 1)) 7 6 = 2) ∧ (ofBe ((bytes.drop 5).take 2) ≤ 2048) ∧ (bytes.length = 24 + ofBe ((bytes.drop 5).take 2)) ∧ (bitsOf (ofBe ((bytes.drop 0).take 1)) 5 3 < 6) ∧ (¬ s.held 0 (bitsOf (ofBe ((bytes.drop 0).take 1)) 5 3) + costOf (ofBe ((bytes.drop 5).take 2)) > s.rd TRK_GRANT_GRANT 0 (bitsOf (ofBe ((bytes.drop 0).take 1)) 5 3)) ∧ (State.crcTail ((bytes.drop 20).take (ofBe ((bytes.drop 5).take 2))) (bytes.drop (20 + ofBe ((bytes.drop 5).take 2))) = .good) ∧ (ofBe ((bytes.drop 1).take 1) / 8 ≠ 0)) ∧
    (∃ (w : Word), ∃ (s : State), (s.on TRK_CTRL_EN 0 = false) ∧ (s.on TRK_KL2_STAT_FUSEBAR = false) ∧ ((s.writeReg 0xD8004 w.toNat).kl2Show.kl2Active = s.kl2Active)) ∧
    (∃ (w : Word), ∃ (s : State), (s.on TRK_CTRL_EN 0 = false) ∧ (s.on TRK_KL2_STAT_FUSEBAR = false) ∧ ((s.writeReg 0xD8004 w.toNat).kl2Show.kl2Active ≠ s.kl2Active)) ∧
    (∃ (w : Word), ∃ (s : State), (s.on TRK_CTRL_EN 0 = true ∨ s.on TRK_KL2_STAT_FUSEBAR = true)) ∧
    (∃ (mask : Byte), ∃ (comp : Byte), ∃ (s : State), (s.kl2Active = true) ∧ (s.trunkUp 0 = true) ∧ (mask.toNat + comp.toNat = 255)) ∧
    (∃ (s : State), (s.kl2Active = true) ∧ (s.trunkUp 0 = true)) ∧
    (∃ (h : Fin 32), ∃ (w : Word), ∃ (s : State), (h.val ≠ 0) ∧ (addrValid (bitsOf w.toNat 24 7 * 128) = true) ∧ ((w.toNat.testBit 31 && ((List.range 32).drop 1).any (fun k => k != h && s.on TRK_XLAT_VALID k && s.rd TRK_XLAT_PREFIX k == bitsOf w.toNat 24 7)) = false)) ∧
    (∃ (h : Fin 32), ∃ (w : Word), ∃ (s : State), (h.val ≠ 0) ∧ (addrValid (bitsOf w.toNat 24 7 * 128) = false) ∧ ((w.toNat.testBit 31 && ((List.range 32).drop 1).any (fun k => k != h && s.on TRK_XLAT_VALID k && s.rd TRK_XLAT_PREFIX k == s.rd TRK_XLAT_PREFIX h)) = false)) :=
  ⟨⟨1, (packetBlocks ((State.reset).kl3Wire 1 { hdr := { cls := 5, tunid := 3, dest := 0x40081, src := 0x40081, payload := [7] } }).2), (((State.reset).kl3Wire 1 { hdr := { cls := 5, tunid := 3, dest := 0x40081, src := 0x40081, payload := [7] } }).2), (parseHeader ((State.reset).kl3Wire 1 { hdr := { cls := 5, tunid := 3, dest := 0x40081, src := 0x40081, payload := [7] } }).2), 0, (((State.reset.wr TRK_STAT_STATE 4 1).wr TRK_GRANT_GRANT 100 1 5).freshCounters 1), (((((State.reset.wr TRK_STAT_STATE 4 1).wr TRK_GRANT_GRANT 100 1 5).freshCounters 1).useCredit 1 (parseHeader ((State.reset).kl3Wire 1 { hdr := { cls := 5, tunid := 3, dest := 0x40081, src := 0x40081, payload := [7] } }).2)).wrap TRK_RXPKT_COUNT 1), by and_intros <;> decide +kernel⟩,
   ⟨1, (packetBlocks (List.replicate 24 0xFF)), (List.replicate 24 0xFF), 0, 0, (State.reset.wr TRK_STAT_STATE 4 1), by and_intros <;> decide +kernel⟩,
   ⟨(kl2Stripe ([0x80, 8] ++ List.replicate 16 0 ++ beBytes 2 (crc16 ([0x80, 8] ++ List.replicate 16 0)) ++ State.tailCrc false [])), ([0x80, 8] ++ List.replicate 16 0 ++ beBytes 2 (crc16 ([0x80, 8] ++ List.replicate 16 0)) ++ State.tailCrc false []), (((State.reset.wr TRK_KL2_STAT_ACTIVE 1).wr TRK_STAT_STATE 4 0).wr TRK_GRANT_GRANT 9 0 0), by and_intros <;> decide +kernel⟩,
   ⟨0x80000000, State.reset, by and_intros <;> decide +kernel⟩,
   ⟨0x80000000, (State.reset.wr TRK_KL2_STAT_STRAP 1), by and_intros <;> decide +kernel⟩,
   ⟨0x80000000, (State.reset.wr TRK_CTRL_EN 1 0), by decide +kernel⟩,
   ⟨3, 252, ((State.reset.wr TRK_KL2_STAT_ACTIVE 1).wr TRK_STAT_STATE 4 0), by and_intros <;> decide +kernel⟩,
   ⟨((State.reset.wr TRK_KL2_STAT_ACTIVE 1).wr TRK_STAT_STATE 4 0), by and_intros <;> decide +kernel⟩,
   ⟨31, 0x80040080, State.reset, by and_intros <;> decide +kernel⟩,
   ⟨31, 0x80000000, State.reset, by and_intros <;> decide +kernel⟩⟩

theorem witness_SwitchBufferAndQueues :
    (∃ (q : Fin 192), ∃ (w : Word), ∃ (s : State), (q.val < 184) ∧ (bitsOf w.toNat 17 0 ≤ 131072) ∧ (s.rd XSW_QRSV_RSV q ≤ bitsOf w.toNat 17 0)) ∧
    (∃ (q : Fin 192), ∃ (w : Word), ∃ (s : State), (q.val < 184) ∧ (bitsOf w.toNat 17 0 > 131072)) ∧
    (∃ (q : Fin 192), ∃ (w : Word), ∃ (s : State), (q.val < 184) ∧ (bitsOf w.toNat 17 0 ≤ 131072) ∧ (bitsOf w.toNat 17 0 < s.rd XSW_QRSV_RSV q)) ∧
    (∃ (q : Fin 192), ∃ (w : Word), ∃ (s : State), (q.val < 184) ∧ (¬ q.val % 8 < 6) ∧ (bitsOf w.toNat 17 0 ≤ s.rd XSW_QLIM_LIMIT q) ∧ (s.rsvSum - s.rd XSW_QRSV_RSV q + bitsOf w.toNat 17 0 ≤ 65536)) ∧
    (∃ (q : Fin 192), ∃ (w : Word), ∃ (s : State), (q.val < 184) ∧ (q.val % 8 < 6 ∨ s.rd XSW_QLIM_LIMIT q < bitsOf w.toNat 17 0 ∨ 65536 < s.rsvSum - s.rd XSW_QRSV_RSV q + bitsOf w.toNat 17 0)) ∧
    (∃ (k : Fin 8), ∃ (w : Word), ∃ (s : State), (bitsOf w.toNat 20 16 ≤ 21)) ∧
    (∃ (k : Fin 8), ∃ (w : Word), ∃ (s : State), (bitsOf w.toNat 20 16 > 21)) ∧
    (∃ (w : Word), ∃ (s : State), (s.on XSW_CAP_CFG_EN = false) ∧ (w.toNat.testBit 31 = true) ∧ (10 ≤ bitsOf w.toNat 20 16) ∧ (bitsOf w.toNat 20 16 ≤ 22)) ∧
    (∃ (w : Word), ∃ (s : State), (s.on XSW_CAP_CFG_EN = true)) ∧
    (∃ (w : Word), ∃ (s : State), (s.capFill w.toNat ≤ 2 ^ s.rd XSW_CAP_CFG_SIZE)) ∧
    (∃ (c : Copy), ∃ (s : State), (s.sending 22 = some c) ∧ (s.on XSW_CAP_CFG_EN = true) ∧ (s.capFill (s.rd XSW_CAP_RD_RD) < 2 ^ s.rd XSW_CAP_CFG_SIZE)) ∧
    (∃ (c : Copy), ∃ (s : State), (s.sending 22 = some c) ∧ (s.on XSW_CAP_CFG_EN = true) ∧ (¬ s.capFill (s.rd XSW_CAP_RD_RD) < 2 ^ s.rd XSW_CAP_CFG_SIZE)) ∧
    (∃ (bs : List Byte), ∃ (s : State), (s.rd XSW_CAP_CFG_THR ≤ s.capFill (s.rd XSW_CAP_RD_RD))) ∧
    (∃ (p : Fin 23), ∃ (x : Copy), ∃ (l : List Copy), ∃ (s : State), (¬ (p.val < 2 ∧ Tab.get s.ring.owed p false = true)) ∧ (¬ (p.val < 4 ∧ s.rd TRK_STAT_STATE p = 3)) ∧ (s.brokenRing p = false) ∧ (s.sending p = none) ∧ (s.portReady p = true) ∧ (s.queue (queueOf p 7) = x :: l) ∧ (s.eligible p x = true)) ∧
    (∃ (p : Fin 23), ∃ (x : Copy), ∃ (l : List Copy), ∃ (s : State), (¬ (p.val < 2 ∧ Tab.get s.ring.owed p false = true)) ∧ (¬ (p.val < 4 ∧ s.rd TRK_STAT_STATE p = 3)) ∧ (s.brokenRing p = false) ∧ (s.sending p = none) ∧ (s.portReady p = true) ∧ (s.queue (queueOf p 7) = []) ∧ (s.queue (queueOf p 6) = x :: l) ∧ (s.eligible p x = true)) ∧
    (∃ (p : Nat), ∃ (x : Copy), ∃ (s : State), (¬ (p < 4 ∧ x.hdr.dup = true ∧ s.seamless p = false))) ∧
    (∃ (p : Fin 23), ∃ (s : State), (¬ (p.val < 2 ∧ Tab.get s.ring.owed p false = true)) ∧ (¬ (p.val < 4 ∧ s.rd TRK_STAT_STATE p = 3)) ∧ ((s.sending p).isSome = true) ∧ (s.brokenRing p = false)) ∧
    (∃ (p : Nat), ∃ (c : Nat), ∃ (cur : Nat), ∃ (d : Tab Nat), ∃ (s : State), (([7, 6, 5].any (fun k => s.headEligible p k)) = false) ∧ (([4, 3, 2, 1, 0].any (fun k => s.headEligible p k)) = true) ∧ (drrLoop (s.drrIn p) drrFuel (Tab.get s.shp.cur p 4) (s.deficits p) = some (c, cur, d)) ∧ (Tab.sorted s.shp.cur = true)) ∧
    (∃ (q : Nat → DrrIn), ∃ (fuel : Nat), ∃ (cur : Nat), ∃ (d : Tab Nat), ((q cur).elig = true) ∧ ((q cur).len ≤ Tab.get d cur 0)) ∧
    (∃ (p : Fin 12), ∃ (c : Copy), ∃ (s : State), (s.sending p = some c)) ∧
    (∃ (p : Fin 12), ∃ (c : Copy), ∃ (s : State), (s.sending p = some c) ∧ (c.pkt = 0) ∧ (Tab.sorted s.regs = true)) ∧
    (∃ (p : Fin 12), ∃ (s : State), (s.on SHP_PLAN_STAT_ARMED = false) ∧ (s.overruns p (s.gatePos p s.activeBank).gates = false) ∧ (s.on SHP_GCTL_ANCHOR p s.activeBank = false ∨ (s.gatePos p s.activeBank).fallback = false ∨ s.on SHP_GSTAT_FALLBACK p = true)) ∧
    (∃ (s : State), (s.on SHP_SAMPLE_EN = true) ∧ (s.sampleDue = true)) ∧
    (∃ (s : State), (s.on SHP_SAMPLE_EN = false)) ∧
    (∃ (p : Fin 23), ∃ (h : Held), ∃ (l : List Held), ∃ (s : State), (Tab.get s.xsw.held p [] = h :: l) ∧ (h.policing = false)) ∧
    (∃ (p : Fin 23), ∃ (h : Held), ∃ (l : List Held), ∃ (t : State), ∃ (s : State), (s.waiting p = h :: l) ∧ (h.policing = true) ∧ (s.police h.slot (20 + h.hdr.payload.length) = (t, true))) ∧
    (∃ (p : Fin 23), ∃ (h : Held), ∃ (l : List Held), ∃ (t : State), ∃ (s : State), (Tab.get s.xsw.held p [] = h :: l) ∧ (h.policing = true) ∧ (s.police h.slot (20 + h.hdr.payload.length) = (t, false))) :=
  ⟨⟨7, 5000, State.reset, by and_intros <;> decide +kernel⟩,
   ⟨183, 131073, State.reset, by and_intros <;> decide +kernel⟩,
   ⟨7, 1, State.reset, by and_intros <;> decide +kernel⟩,
   ⟨7, 256, State.reset, by and_intros <;> decide +kernel⟩,
   ⟨5, 1, State.reset, by and_intros <;> decide +kernel⟩,
   ⟨7, 0x00150000, State.reset, by decide +kernel⟩,
   ⟨7, 0x00160000, State.reset, by decide +kernel⟩,
   ⟨0x800A0000, State.reset, by and_intros <;> decide +kernel⟩,
   ⟨0x800B0000, ((State.reset.wr XSW_CAP_CFG_EN 1).wr XSW_CAP_CFG_SIZE 10), by decide +kernel⟩,
   ⟨5, ((State.reset.wr XSW_CAP_WR_WR 9).wr XSW_CAP_CFG_SIZE 10), by decide +kernel⟩,
   ⟨{}, ((State.reset.setSending 22 (some {})).wr XSW_CAP_CFG_EN 1), by and_intros <;> decide +kernel⟩,
   ⟨{}, (((State.reset.setSending 22 (some {})).wr XSW_CAP_CFG_EN 1).wr XSW_CAP_WR_WR 4194304), by and_intros <;> decide +kernel⟩,
   ⟨[], (State.reset.wr XSW_CAP_CFG_THR 0), by decide +kernel⟩,
   ⟨22, {}, [], (State.reset.setQueue 183 [{}]), by and_intros <;> decide +kernel⟩,
   ⟨22, {}, [], (State.reset.setQueue 182 [{}]), by and_intros <;> decide +kernel⟩,
   ⟨0, {}, State.reset, by decide +kernel⟩,
   ⟨22, (State.reset.setSending 22 (some {})), by and_intros <;> decide +kernel⟩,
   ⟨22, 4, 4, (((drrLoop (((State.reset.setQueue 180 [{}]).wr SHP_Q1_QUANTUM 10 180).drrIn 22) drrFuel 4 []).getD (0, 0, [])).2.2), (((State.reset.setQueue 180 [{}]).wr SHP_Q1_QUANTUM 10 180)), by and_intros <;> decide +kernel⟩,
   ⟨(fun _ => ⟨true, false, 5, 64⟩), 0, 0, ([(0, 7)]), by and_intros <;> decide +kernel⟩,
   ⟨4, {}, (State.reset.setSending 4 (some {})), by decide +kernel⟩,
   ⟨4, {}, (State.reset.setSending 4 (some {})), by and_intros <;> decide +kernel⟩,
   ⟨11, State.reset, by and_intros <;> decide +kernel⟩,
   ⟨(State.reset.wr SHP_SAMPLE_EN 1), by and_intros <;> decide +kernel⟩,
   ⟨State.reset, by decide +kernel⟩,
   ⟨20, {}, [], (State.reset.setHeld 20 [{}]), by and_intros <;> decide +kernel⟩,
   ⟨20, ({ policing := true, copies := [{}] }), [], (State.reset.setHeld 20 [{ policing := true, copies := [{}] }]), (State.reset.setHeld 20 [{ policing := true, copies := [{}] }]), by and_intros <;> decide +kernel⟩,
   ⟨20, ({ policing := true, copies := [{}], slot := 9 }), [], ((State.reset.setHeld 20 [{ policing := true, copies := [{}], slot := 9 }]).wr SHP_POL0_PEN 1 9 0), ((State.reset.setHeld 20 [{ policing := true, copies := [{}], slot := 9 }]).wr SHP_POL0_PEN 1 9 0), by and_intros <;> decide +kernel⟩⟩

theorem witness_ShaperRefill :
    (∃ (s : State), ∃ (q : Nat), (s.on SHP_PLAN_STAT_ARMED = false) ∧ (Tab.sorted s.shp.tokens = true) ∧ (q < 184)) ∧
    (∃ (s : State), ∃ (n : Nat), (s.on SHP_PLAN_STAT_ARMED = false) ∧ (Tab.sorted s.shp.policer = true) ∧ (n ∈ State.slots)) :=
  ⟨⟨State.reset, 183, by and_intros <;> decide +kernel⟩,
   ⟨State.reset, 252, by and_intros <;> decide +kernel⟩⟩

theorem witness_PlanCommands :
    (∃ (o : Fin 32768), ∃ (w : Word), ∃ (b : Nat), ∃ (k : Nat), ∃ (s : State), (State.bankOf (0x150000 + 4 * o.val) = some (b, k)) ∧ ((findReg (0x150000 + 4 * o.val)).isSome = true) ∧ (¬ (0x4000 ≤ k)) ∧ (b ≠ s.activeBank) ∧ (s.on SHP_PLAN_STAT_ARMED = false) ∧ (s.on SHP_PLAN_STAT_BUSY = false)) ∧
    (∃ (o : Fin 32768), ∃ (w : Word), ∃ (b : Nat), ∃ (k : Nat), ∃ (s : State), (State.bankOf (0x150000 + 4 * o.val) = some (b, k)) ∧ ((findReg (0x150000 + 4 * o.val)).isSome = true) ∧ (0x4000 ≤ k) ∧ (k < 0x45C0) ∧ (b ≠ s.activeBank) ∧ (s.shp.shapBank = s.activeBank) ∧ (s.on SHP_PLAN_STAT_ARMED = false) ∧ (s.on SHP_PLAN_STAT_BUSY = false)) ∧
    (∃ (o : Fin 32768), ∃ (w : Word), ∃ (k : Nat), ∃ (s : State), (State.bankOf (0x150000 + 4 * o.val) = some (s.activeBank, k)) ∧ ((findReg (0x150000 + 4 * o.val)).isSome = true) ∧ (¬ (0x4000 ≤ k ∧ k < 0x4600))) ∧
    (∃ (o : Fin 32768), ∃ (w : Word), ∃ (b : Nat), ∃ (k : Nat), ∃ (s : State), (State.bankOf (0x150000 + 4 * o.val) = some (b, k)) ∧ ((findReg (0x150000 + 4 * o.val)).isSome = true) ∧ (¬ (0x4000 ≤ k ∧ k < 0x4600)) ∧ (b ≠ s.activeBank) ∧ (s.on SHP_PLAN_STAT_ARMED = true ∨ s.on SHP_PLAN_STAT_BUSY = true)) ∧
    (∃ (m : Fin 4), ∃ (s : State), (s.on SHP_PLAN_STAT_BUSY = true)) ∧
    (∃ (s : State), (s.on SHP_PLAN_STAT_BUSY = false)) ∧
    (∃ (m : Fin 4), ∃ (s : State), (s.on SHP_PLAN_STAT_BUSY = false) ∧ (m = 0 ∨ (m ≠ 3 ∧ s.rd SHP_PLAN_NS_NS ≤ 999999999)) ∧ (s.on SHP_PLAN_STAT_ARMED = false) ∧ (s.planCheck s.idleBank = (.ok, 3, 0))) ∧
    (∃ (m : Fin 4), ∃ (s : State), (s.on SHP_PLAN_STAT_BUSY = false) ∧ (m = 0 ∨ (m ≠ 3 ∧ s.rd SHP_PLAN_NS_NS ≤ 999999999)) ∧ (s.on SHP_PLAN_STAT_ARMED = true)) ∧
    (∃ (m : Fin 4), ∃ (s : State), (s.on SHP_PLAN_STAT_BUSY = false) ∧ (m = 1 ∨ m = 2) ∧ (s.rd SHP_PLAN_NS_NS > 999999999)) ∧
    (∃ (s : State), (s.on SHP_PLAN_STAT_BUSY = false) ∧ (s.on SHP_PLAN_STAT_ARMED = false) ∧ (Tab.sorted s.regs = true) ∧ (s.activeBank ≤ 1)) ∧
    (∃ (s : State), (s.on SHP_PLAN_STAT_BUSY = true) ∧ (s.shp.disarm = false) ∧ (s.shp.res.1 = 0) ∧ (s.shp.res.2.1 = 3)) ∧
    (∃ (s : State), (s.on SHP_PLAN_STAT_BUSY = true) ∧ (s.shp.disarm = false) ∧ (s.shp.res.1 ≠ 0) ∧ (s.shp.res.2.1 = 3)) ∧
    (∃ (s : State), (s.on SHP_PLAN_STAT_BUSY = true) ∧ (s.shp.disarm = false) ∧ (s.shp.res.1 ≠ 0) ∧ (s.shp.res.2.1 ≠ 3)) ∧
    (∃ (s : State), (s.on SHP_PLAN_STAT_BUSY = true) ∧ (s.shp.disarm = true) ∧ (s.on SHP_PLAN_STAT_ARMED = false)) ∧
    (∃ (s : State), (s.on SHP_PLAN_STAT_ARMED = true) ∧ (s.shp.mode = 0) ∧ (s.shp.armAt < s.tmu.elapsed)) ∧
    (∃ (s : State), (s.on SHP_PLAN_STAT_ARMED = true) ∧ (s.shp.mode = 1) ∧ (s.planInstant * 2 ^ 32 ≤ s.tmu.tod.units)) ∧
    (∃ (s : State), (s.on SHP_PLAN_STAT_ARMED = true) ∧ (s.shp.mode = 2) ∧ (s.shp.due = true)) ∧
    (∃ (s : State), (s.on SHP_PLAN_STAT_ARMED = true) ∧ (s.shp.mode = 2) ∧ (s.shp.due = false) ∧ (s.planDeadline * 2 ^ 32 ≤ s.tmu.tod.units)) :=
  ⟨⟨0x4000, 0xFF000010, 1, 0, State.reset, by and_intros <;> decide +kernel⟩,
   ⟨0x5000, 0, 1, 0x4000, State.reset, by and_intros <;> decide +kernel⟩,
   ⟨0, 0, 0, State.reset, by and_intros <;> decide +kernel⟩,
   ⟨0x4000, 0, 1, 0, (State.reset.wr SHP_PLAN_STAT_ARMED 1), by and_intros <;> decide +kernel⟩,
   ⟨0, (State.reset.wr SHP_PLAN_STAT_BUSY 1), by decide +kernel⟩,
   ⟨State.reset, by decide +kernel⟩,
   ⟨0, (State.reset.each (List.range 184) (fun s q => s.wr SHP_Q1_QUANTUM 24 q 1)), by and_intros <;> decide +kernel⟩,
   ⟨1, (State.reset.wr SHP_PLAN_STAT_ARMED 1), by and_intros <;> decide +kernel⟩,
   ⟨1, (State.reset.wr SHP_PLAN_NS_NS 1000000000), by and_intros <;> decide +kernel⟩,
   ⟨State.reset, by and_intros <;> decide +kernel⟩,
   ⟨(State.reset.planStart (.ok, 3, 0)), by and_intros <;> decide +kernel⟩,
   ⟨(State.reset.planStart (.state, 3, 0)), by and_intros <;> decide +kernel⟩,
   ⟨(State.reset.planStart (.rate, 1, 5)), by and_intros <;> decide +kernel⟩,
   ⟨({ State.reset.wr SHP_PLAN_STAT_BUSY 1 with shp := { State.reset.shp with disarm := true } }), by and_intros <;> decide +kernel⟩,
   ⟨({ State.reset.wr SHP_PLAN_STAT_ARMED 1 with tmu := { State.reset.tmu with elapsed := 1 } }), by and_intros <;> decide +kernel⟩,
   ⟨({ State.reset.wr SHP_PLAN_STAT_ARMED 1 with shp := { State.reset.shp with mode := 1 } }), by and_intros <;> decide +kernel⟩,
   ⟨({ State.reset.wr SHP_PLAN_STAT_ARMED 1 with shp := { State.reset.shp with mode := 2, due := true } }), by and_intros <;> decide +kernel⟩,
   ⟨({ (State.reset.wr SHP_PLAN_STAT_ARMED 1).wr SHP_PLAN_DL_DL 0 with shp := { State.reset.shp with mode := 2 } }), by and_intros <;> decide +kernel⟩⟩

theorem witness_PlanSwitchEffect :
    (∃ (s : State), ∃ (iv : Option Nat), (Tab.sorted s.regs = true) ∧ (s.activeBank ≤ 1)) ∧
    (∃ (s : State), ∃ (iv : Option Nat), ∃ (p : Nat), (Tab.sorted s.regs = true) ∧ (s.activeBank ≤ 1) ∧ (p < 12)) ∧
    (∃ (s : State), ∃ (iv : Option Nat), ∃ (n : Nat), (Tab.sorted s.regs = true) ∧ (s.activeBank ≤ 1) ∧ (n ∈ State.slots) ∧ (Tab.sorted s.shp.policer = true)) :=
  ⟨⟨State.reset, none, by and_intros <;> decide +kernel⟩,
   ⟨State.reset, none, 11, by and_intros <;> decide +kernel⟩,
   ⟨State.reset, none, 1, by and_intros <;> decide +kernel⟩⟩

theorem witness_EdgePorts :
    (∃ (e : Fin 8), ∃ (w : Word), ∃ (s : State), (s.rd EDG_CTRL_MODE e = (s.writeReg (0xE0000 + 0x400 * e) w.toNat).rd EDG_CTRL_MODE e)) ∧
    (∃ (e : Fin 8), ∃ (inband : Fin 3), ∃ (an : Bool), ∃ (s : State), ((s.wr EDG_STAT_MODEMIS (bit (s.modeMismatch e)) e).edgeHolds e = true) ∧ ((s.wr EDG_STAT_MODEMIS (bit (s.modeMismatch e)) e).on EDG_STAT_LINK e = false) ∧ (an = true)) ∧
    (∃ (e : Fin 8), ∃ (inband : Fin 3), ∃ (s : State), ((s.wr EDG_STAT_MODEMIS (bit (s.modeMismatch e)) e).edgeHolds e = true) ∧ ((s.wr EDG_STAT_MODEMIS (bit (s.modeMismatch e)) e).on EDG_STAT_LINK e = false) ∧ ((s.wr EDG_STAT_MODEMIS (bit (s.modeMismatch e)) e).rd EDG_CTRL_MODE e = 1)) ∧
    (∃ (e : Fin 8), ∃ (s : State), (s.on EDG_STAT_LINK e = true)) ∧
    (∃ (e : Fin 8), ∃ (s : State), (s.on EDG_STAT_LINK e = false)) ∧
    (∃ (e : Fin 8), ∃ (bytes : List Byte), ∃ (s : State), (s.on EDG_STAT_LINK e = true) ∧ (s.on EDG_CTRL_EN e = true) ∧ (bytes.drop (bytes.length - 4) ≠ fcsBytes (crc32 (bytes.take (bytes.length - 4))))) ∧
    (∃ (e : Fin 8), ∃ (bytes : List Byte), ∃ (s : State), (s.on EDG_STAT_LINK e = true) ∧ (s.on EDG_CTRL_EN e = true) ∧ (bytes.drop (bytes.length - 4) = fcsBytes (crc32 (bytes.take (bytes.length - 4)))) ∧ (bytes.length < 64)) ∧
    (∃ (e : Fin 8), ∃ (bytes : List Byte), ∃ (n : Nat), ∃ (s : State), (s.on EDG_STAT_LINK e = true) ∧ (s.on EDG_CTRL_EN e = true) ∧ (bytes.drop (bytes.length - 4) = fcsBytes (crc32 (bytes.take (bytes.length - 4)))) ∧ (64 ≤ bytes.length) ∧ (bytes.length ≤ (s.edgCount e 0).rd EDG_CTRL_MAXLEN e) ∧ (etherType (bytes.take (bytes.length - 4)) ≠ 0x8808) ∧ (ptpEvent (bytes.take (bytes.length - 4)) = false) ∧ ((s.edgCount e 0).edgeContext e = some n)) ∧
    (∃ (e : Fin 8), ∃ (bytes : List Byte), ∃ (s : State), (s.on EDG_STAT_LINK e = true) ∧ (s.on EDG_CTRL_EN e = true) ∧ (bytes.drop (bytes.length - 4) = fcsBytes (crc32 (bytes.take (bytes.length - 4)))) ∧ (64 ≤ bytes.length) ∧ (bytes.length ≤ (s.edgCount e 0).rd EDG_CTRL_MAXLEN e) ∧ (etherType (bytes.take (bytes.length - 4)) ≠ 0x8808) ∧ (ptpEvent (bytes.take (bytes.length - 4)) = false) ∧ ((s.edgCount e 0).edgeContext e = none)) :=
  ⟨⟨7, 0x80000000, ((State.reset.writeReg (0xE0000 + 0x400 * 7) 0x80000000)), by decide +kernel⟩,
   ⟨2, 0, true, (((State.reset.wr EDG_CTRL_EN 1 2).wr LNE_STAT_STATE 4 18).wr LNE_CTRL_RATE (edgeRate (State.reset.rd EDG_CTRL_MODE 2)) 18), by and_intros <;> decide +kernel⟩,
   ⟨2, 0, ((((State.reset.wr EDG_CTRL_EN 1 2).wr EDG_CTRL_MODE 1 2).wr LNE_STAT_STATE 4 18).wr LNE_CTRL_RATE (edgeRate 1) 18), by and_intros <;> decide +kernel⟩,
   ⟨2, (State.reset.wr EDG_STAT_LINK 1 2), by decide +kernel⟩,
   ⟨0, State.reset, by decide +kernel⟩,
   ⟨0, ([1, 2, 3, 4]), ((State.reset.wr EDG_STAT_LINK 1 0).wr EDG_CTRL_EN 1 0), by and_intros <;> decide +kernel⟩,
   ⟨0, (7 :: fcsBytes (crc32 [7])), ((State.reset.wr EDG_STAT_LINK 1 0).wr EDG_CTRL_EN 1 0), by and_intros <;> decide +kernel⟩,
   ⟨0, (List.replicate 60 0 ++ fcsBytes (crc32 (List.replicate 60 0))), 5, ((((((State.reset.wr EDG_STAT_LINK 1 0).wr EDG_CTRL_EN 1 0).wr EDG_CTX_VALID 1 0).wr EDG_CTX_SLOT 5 0).wr CTX3_STATE 2 5).wr CTX0_KEYSRC 56 5), by and_intros <;> decide +kernel⟩,
   ⟨0, (List.replicate 60 0 ++ fcsBytes (crc32 (List.replicate 60 0))), ((State.reset.wr EDG_STAT_LINK 1 0).wr EDG_CTRL_EN 1 0), by and_intros <;> decide +kernel⟩⟩

theorem witness_EngineStates :
    (∃ (n : Fin 16), ∃ (s : State), (s.on ENG_CTRL_EN n = false) ∧ (s.restricted = false) ∧ (s.on TEN_IMG_INFO_VERIFIED (s.rd ENG_CTRL_IMAGE n) = true) ∧ (Tab.sorted s.regs = true) ∧ (Tab.sorted s.ten.img = true)) ∧
    (∃ (n : Fin 16), ∃ (s : State), (s.on ENG_CTRL_EN n = false) ∧ (s.restricted = false) ∧ (s.on TEN_IMG_INFO_VERIFIED (s.rd ENG_CTRL_IMAGE n) = false) ∧ (s.rd ENG_STAT_STATE n = engOff)) ∧
    (∃ (n : Fin 16), ∃ (s : State), (s.rd ENG_STAT_STATE n = engStart) ∧ (Tab.sorted s.regs = true) ∧ (Tab.sorted s.ten.kick = true)) ∧
    (∃ (n : Fin 16), ∃ (s : State), (s.rd ENG_STAT_STATE n = engStart) ∧ (s.due (.engineStart n) = true)) ∧
    (∃ (n : Fin 16), ∃ (s : State), (s.rd ENG_STAT_STATE n = engRun) ∧ (s.tmu.elapsed ≥ Tab.get s.ten.kick n 0 + s.rd ENG_CTRL_WDT n * 100000 * 2 ^ 32)) ∧
    (∃ (n : Fin 16), ∃ (s : State), (s.rd ENG_STAT_STATE n = engRun)) ∧
    (∃ (n : Fin 16), ∃ (s : State), (s.on ENG_CTRL_EN n = true) ∧ (Tab.sorted s.regs = true)) ∧
    (∃ (n : Fin 16), ∃ (s : State), (s.rd ENG_STAT_STATE n = engHalted) ∧ (s.due (.engineHalt n) = true) ∧ (s.on ENG_CTRL_RESTART n = true) ∧ (s.on TEN_IMG_INFO_VERIFIED (s.rd ENG_CTRL_IMAGE n) = true) ∧ (((Tab.get s.ten.restarts n []).filter (fun t => s.tmu.elapsed < t + 10000000000 * 2 ^ 32)).length < 4) ∧ (s.restricted = false)) ∧
    (∃ (n : Fin 16), ∃ (s : State), (s.rd ENG_STAT_STATE n = engHalted) ∧ (s.due (.engineHalt n) = true) ∧ (s.restricted = false) ∧ (¬ ((Tab.get s.ten.restarts n []).filter (fun t => s.tmu.elapsed < t + 10000000000 * 2 ^ 32)).length < 4)) ∧
    (∃ (i : Fin 4), ∃ (isLen : Bool), ∃ (w : Word), ∃ (s : State), (s.imageNamed i = true)) ∧
    (∃ (i : Fin 4), ∃ (isLen : Bool), ∃ (w : Word), ∃ (s : State), (s.imageNamed i = false) ∧ (s.on TEN_CTRL_LOCK = false)) :=
  ⟨⟨15, (State.reset.wr TEN_IMG_INFO_VERIFIED 1 0), by and_intros <;> decide +kernel⟩,
   ⟨15, State.reset, by and_intros <;> decide +kernel⟩,
   ⟨3, (((State.reset.wr ENG_STAT_STATE engStart 3).wr TEN_SVC0_EN 1 1).wr TEN_SVC0_STATE svcHalted 1), by and_intros <;> decide +kernel⟩,
   ⟨3, ({ State.reset.wr ENG_STAT_STATE engStart 3 with timers := [(.engineStart 3, 0)] }), by and_intros <;> decide +kernel⟩,
   ⟨3, ({ State.reset.wr ENG_STAT_STATE engRun 3 with tmu := { State.reset.tmu with elapsed := 2 ^ 80 } }), by and_intros <;> decide +kernel⟩,
   ⟨3, (State.reset.wr ENG_STAT_STATE engRun 3), by decide +kernel⟩,
   ⟨3, ((State.reset.wr ENG_STAT_STATE engRun 3).wr ENG_CTRL_EN 1 3), by and_intros <;> decide +kernel⟩,
   ⟨3, ({ (((State.reset.wr ENG_STAT_STATE engHalted 3).wr ENG_CTRL_RESTART 1 3).wr ENG_CTRL_EN 1 3).wr TEN_IMG_INFO_VERIFIED 1 0 with timers := [(.engineHalt 3, 0)] }), by and_intros <;> decide +kernel⟩,
   ⟨0, ({ State.reset.wr ENG_STAT_STATE engHalted 0 with timers := [(.engineHalt 0, 0)], ten := { State.reset.ten with restarts := [(0, [0, 0, 0, 0])] } }), by and_intros <;> decide +kernel⟩,
   ⟨0, false, 0, (State.reset.wr ENG_STAT_STATE engRun 0), by decide +kernel⟩,
   ⟨0, false, 0, State.reset, by and_intros <;> decide +kernel⟩⟩

theorem witness_ServiceTable :
    (∃ (e : Fin 128), ∃ (w : Word), ∃ (s : State), (s.on TEN_SVC0_EN e = true)) ∧
    (∃ (e : Fin 128), ∃ (w : Word), ∃ (c : BindCode), ∃ (s : State), (s.on TEN_SVC0_EN e = false) ∧ ((s.writeFields false [TEN_SVC0_TYPE, TEN_SVC0_ENGINE] e 0 w.toNat).bindFailure e = some c)) ∧
    (∃ (e : Fin 128), ∃ (w : Word), ∃ (s : State), (s.on TEN_SVC0_EN e = false) ∧ ((s.writeFields false [TEN_SVC0_TYPE, TEN_SVC0_ENGINE] e 0 w.toNat).bindFailure e = none)) ∧
    (∃ (e : Fin 128), ∃ (s : State), (s.on TEN_SVC0_EN e = true) ∧ (s.rd TEN_SVC0_STATE e = svcBound) ∧ (s.rd ENG_STAT_STATE (s.svcEngine e) = engRun) ∧ ((s.readBlock e).paramRefuses e = none) ∧ (Tab.sorted s.regs = true)) ∧
    (∃ (e : Fin 128), ∃ (c : Nat), ∃ (s : State), (s.on TEN_SVC0_EN e = true) ∧ (s.rd TEN_SVC0_STATE e = svcBound) ∧ (s.rd ENG_STAT_STATE (s.svcEngine e) = engRun) ∧ ((s.readBlock e).paramRefuses e = some c)) ∧
    (∃ (e : Fin 128), ∃ (w : Word), ∃ (s : State), (s.on TEN_SVC0_EN e = true) ∧ (Tab.sorted s.regs = true) ∧ (Tab.sorted s.ten.inbox = true) ∧ (Tab.sorted s.ten.edges = true)) ∧
    (∃ (k : Fin 4), ∃ (c : Copy), ∃ (e : Nat), ∃ (s : State), (s.sending (12 + k) = some c) ∧ (s.copyEntry c = some e) ∧ (s.rd TEN_SVC0_STATE e = svcActive) ∧ (s.rd ENG_STAT_STATE (s.svcEngine e) = engRun) ∧ (s.takesPacket e c.hdr.payload = true) ∧ ((s.inbox (s.svcEngine e)).length < 16) ∧ ((s.completeSend (12 + k)).rd TEN_SVC0_TYPE e ≠ tyPhase) ∧ ((s.completeSend (12 + k)).rd TEN_SVC0_TYPE e ≠ tyFabric)) ∧
    (∃ (k : Fin 4), ∃ (c : Copy), ∃ (s : State), (s.sending (12 + k) = some c) ∧ (s.copyEntry c = none)) ∧
    (∃ (k : Fin 4), ∃ (c : Copy), ∃ (e : Nat), ∃ (s : State), (s.sending (12 + k) = some c) ∧ (s.copyEntry c = some e) ∧ (s.rd TEN_SVC0_STATE e = svcHalted)) ∧
    (∃ (e : Fin 128), ∃ (payload : List Byte), ∃ (s : State), (s.svcRuns e = true) ∧ (s.sendSlot e ≠ 0)) ∧
    (∃ (e : Fin 128), ∃ (payload : List Byte), ∃ (s : State), (s.svcRuns e = false)) ∧
    (∃ (e : Fin 128), ∃ (s : State), (s.svcRuns e = true) ∧ (s.rd TEN_SVC0_TYPE e = tyEvent) ∧ (s.eventTake.svcRuns e = true) ∧ (s.eventTake.rd TEN_SVC0_TYPE e = tyEvent) ∧ ((Tab.get s.eventTake.ten.edges e []).isEmpty = false)) ∧
    (∃ (e : Fin 128), ∃ (s : State), (s.svcRuns e = true) ∧ (s.rd TEN_SVC0_TYPE e = tyPhase) ∧ (svWhole (s.cycleSamples e) (Tab.get s.ten.samples e []) = false ∨ s.rd CYC_CTRL_SRC ≠ 2)) ∧
    (∃ (e : Fin 128), ∃ (s : State), (s.svcRuns e = true) ∧ (s.rd TEN_SVC0_TYPE e = tyPhase) ∧ (svWhole (s.cycleSamples e) (Tab.get s.ten.samples e []) = true) ∧ (s.rd CYC_CTRL_SRC = 2)) :=
  ⟨⟨127, 0, (State.reset.wr TEN_SVC0_EN 1 127), by decide +kernel⟩,
   ⟨127, 0x80000000, .engOff, State.reset, by and_intros <;> decide +kernel⟩,
   ⟨127, (0x80000000 + 8 * 0x1000000), (((State.reset.wr ENG_STAT_STATE engRun 0).wr TEN_IMG_INFO_CAP 0x1FF 0).wr BNK_OWN_OWNER 0 0), by and_intros <;> decide +kernel⟩,
   ⟨1, (((State.reset.wr TEN_SVC0_EN 1 1).wr TEN_SVC0_STATE svcBound 1).wr ENG_STAT_STATE engRun 0), by and_intros <;> decide +kernel⟩,
   ⟨1, 16, ((((State.reset.wr TEN_SVC0_EN 1 1).wr TEN_SVC0_STATE svcBound 1).wr ENG_STAT_STATE engRun 0).wr TEN_SVC0_TYPE tyDisplay 1), by and_intros <;> decide +kernel⟩,
   ⟨2, 0x12, ({ (State.reset.wr TEN_SVC0_EN 1 2).wr TEN_SVC0_STATE svcActive 2 with ten := { State.reset.ten with inbox := [(0, [(2, {})])], edges := [(2, [[1]])] } }), by and_intros <;> decide +kernel⟩,
   ⟨0, ({ term := 5 }), 1, ((((((State.reset.setSending 12 (some { term := 5 })).wr TEN_SVC0_EN 1 1).wr TEN_SVC0_STATE svcActive 1).wr ENG_STAT_STATE engRun 0).wr TEN_SVC1_RXSLOT 5 1)), by and_intros <;> decide +kernel⟩,
   ⟨3, {}, (State.reset.setSending 15 (some {})), by and_intros <;> decide +kernel⟩,
   ⟨0, ({ term := 5 }), 1, ((((State.reset.setSending 12 (some { term := 5 })).wr TEN_SVC0_EN 1 1).wr TEN_SVC0_STATE svcHalted 1).wr TEN_SVC1_RXSLOT 5 1), by and_intros <;> decide +kernel⟩,
   ⟨1, [], ((((State.reset.wr TEN_SVC0_EN 1 1).wr TEN_SVC0_STATE svcActive 1).wr ENG_STAT_STATE engRun 0).wr TEN_SVC1_TXSLOT 9 1), by and_intros <;> decide +kernel⟩,
   ⟨0, [], State.reset, by decide +kernel⟩,
   ⟨1, ({ (((State.reset.wr TEN_SVC0_EN 1 1).wr TEN_SVC0_STATE svcActive 1).wr ENG_STAT_STATE engRun 0).wr TEN_SVC0_TYPE tyEvent 1 with ten := { State.reset.ten with edges := [(1, [[1]])] } }), by and_intros <;> decide +kernel⟩,
   ⟨1, ((((State.reset.wr TEN_SVC0_EN 1 1).wr TEN_SVC0_STATE svcActive 1).wr ENG_STAT_STATE engRun 0).wr TEN_SVC0_TYPE tyPhase 1), by and_intros <;> decide +kernel⟩,
   ⟨1, ({ (((((State.reset.wr TEN_SVC0_EN 1 1).wr TEN_SVC0_STATE svcActive 1).wr ENG_STAT_STATE engRun 0).wr TEN_SVC0_TYPE tyPhase 1).wr CYC_CTRL_SRC 2) with ten := { State.reset.ten with samples := [(1, (List.range 80).map (fun i => { count := i, step := 1, good := true }))] } }), by and_intros <;> decide +kernel⟩⟩

theorem witness_Mailboxes :
    (∃ (n : Fin 16), ∃ (m : Fin 2), ∃ (e : Fin 128), ∃ (s : State), (s.on ENG_MBX_BUSY n m = true)) ∧
    (∃ (n : Fin 16), ∃ (m : Fin 2), ∃ (s : State), (s.on ENG_MBX_BUSY n m = false) ∧ (s.rd ENG_STAT_STATE n = engRun) ∧ (Tab.sorted s.regs = true)) ∧
    (∃ (n : Fin 16), ∃ (m : Fin 2), ∃ (e : Fin 128), ∃ (s : State), (s.on ENG_MBX_BUSY n m = false) ∧ (s.rd ENG_STAT_STATE n = engRun) ∧ (Tab.sorted s.regs = true)) ∧
    (∃ (n : Fin 16), ∃ (m : Fin 2), ∃ (e : Fin 128), ∃ (s : State), (s.on ENG_MBX_BUSY n m = false) ∧ (s.rd ENG_STAT_STATE n = engRun) ∧ (Tab.sorted s.regs = true)) ∧
    (∃ (n : Fin 16), ∃ (m : Fin 2), ∃ (e : Fin 128), ∃ (s : State), (s.on ENG_MBX_BUSY n m = false) ∧ (s.rd ENG_STAT_STATE n = engRun) ∧ (Tab.sorted s.regs = true)) ∧
    (∃ (n : Fin 16), ∃ (m : Fin 2), ∃ (e : Fin 128), ∃ (s : State), (s.on ENG_MBX_BUSY n m = false) ∧ (((s.wr ENG_MBX_OPCODE 3 n m).wr ENG_MBX_SVC e n m).rd ENG_STAT_STATE n ≠ engRun)) ∧
    (∃ (n : Fin 16), ∃ (m : Fin 2), ∃ (s : State), (s.on ENG_MBX_BUSY n m = true) ∧ (s.due (.mailbox n m) = true) ∧ (Tab.sorted s.regs = true)) ∧
    (∃ (n : Fin 16), ∃ (m : Fin 2), ∃ (s : State), (s.rd ENG_STAT_STATE n = engRun) ∧ (Tab.get s.ten.late (2 * n + m) 0 = 0) ∧ (s.on ENG_MBX_BUSY n m = true) ∧ (m = 0 ∨ s.on ENG_MBX_BUSY n 0 = false) ∧ ((Tab.get s.ten.req (2 * n + m) (0, 0)).1 = 1)) ∧
    (∃ (n : Fin 16), ∃ (m : Fin 2), ∃ (e : Nat), ∃ (s : State), (s.rd ENG_STAT_STATE n = engRun) ∧ (Tab.get s.ten.late (2 * n + m) 0 = 0) ∧ (s.on ENG_MBX_BUSY n m = true) ∧ (m = 0 ∨ s.on ENG_MBX_BUSY n 0 = false) ∧ (Tab.get s.ten.req (2 * n + m) (0, 0) = (4, e)) ∧ (s.on TEN_SVC0_EN e = true) ∧ (s.svcEngine e = n) ∧ (s.rd TEN_SVC0_STATE e = svcQuiesced)) ∧
    (∃ (n : Fin 16), ∃ (m : Fin 2), ∃ (e : Nat), ∃ (s : State), (s.rd ENG_STAT_STATE n = engRun) ∧ (Tab.get s.ten.late (2 * n + m) 0 = 0) ∧ (s.on ENG_MBX_BUSY n m = true) ∧ (m = 0 ∨ s.on ENG_MBX_BUSY n 0 = false) ∧ (Tab.get s.ten.req (2 * n + m) (0, 0) = (3, e)) ∧ (s.inFlight e = false) ∧ (s.on TEN_SVC0_EN e = true) ∧ (s.svcEngine e = n) ∧ (s.rd TEN_SVC0_STATE e = svcActive)) ∧
    (∃ (n : Fin 16), ∃ (m : Fin 2), ∃ (s : State), (s.rd ENG_STAT_STATE n = engRun) ∧ (Tab.get s.ten.late (2 * n + m) 0 > 0)) :=
  ⟨⟨2, 1, 0, (State.reset.wr ENG_MBX_BUSY 1 2 1), by decide +kernel⟩,
   ⟨2, 0, (State.reset.wr ENG_STAT_STATE engRun 2), by and_intros <;> decide +kernel⟩,
   ⟨2, 0, 77, (State.reset.wr ENG_STAT_STATE engRun 2), by and_intros <;> decide +kernel⟩,
   ⟨2, 0, 77, (State.reset.wr ENG_STAT_STATE engRun 2), by and_intros <;> decide +kernel⟩,
   ⟨2, 0, 77, (State.reset.wr ENG_STAT_STATE engRun 2), by and_intros <;> decide +kernel⟩,
   ⟨2, 0, 0, State.reset, by and_intros <;> decide +kernel⟩,
   ⟨2, 1, ({ State.reset.wr ENG_MBX_BUSY 1 2 1 with timers := [(.mailbox 2 1, 0)] }), by and_intros <;> decide +kernel⟩,
   ⟨2, 0, ({ (State.reset.wr ENG_STAT_STATE engRun 2).wr ENG_MBX_BUSY 1 2 0 with ten := { State.reset.ten with req := [(4, (1, 0))] } }), by and_intros <;> decide +kernel⟩,
   ⟨0, 0, 0, ({ (((State.reset.wr ENG_STAT_STATE engRun 0).wr ENG_MBX_BUSY 1 0 0).wr TEN_SVC0_EN 1 0).wr TEN_SVC0_STATE svcQuiesced 0 with ten := { State.reset.ten with req := [(0, (4, 0))] } }), by and_intros <;> decide +kernel⟩,
   ⟨0, 0, 0, ({ (((State.reset.wr ENG_STAT_STATE engRun 0).wr ENG_MBX_BUSY 1 0 0).wr TEN_SVC0_EN 1 0).wr TEN_SVC0_STATE svcActive 0 with ten := { State.reset.ten with req := [(0, (3, 0))] } }), by and_intros <;> decide +kernel⟩,
   ⟨0, 0, ({ State.reset.wr ENG_STAT_STATE engRun 0 with ten := { State.reset.ten with late := [(0, 1)] } }), by and_intros <;> decide +kernel⟩⟩

theorem witness_ScratchpadBanks :
    (∃ (b : Fin 32), ∃ (a : PadAccess), ∃ (s : State), ∃ (x : Nat), (a.write = true) ∧ (s.padAllowed b a = true) ∧ (Tab.sorted s.pad = true)) ∧
    (∃ (b : Fin 32), ∃ (a : PadAccess), ∃ (s : State), (a.write = false) ∧ (a.ecc = 0) ∧ (s.padAllowed b a = true) ∧ (Tab.sorted s.bnk.read = true)) ∧
    (∃ (b : Fin 32), ∃ (a : PadAccess), ∃ (s : State), (s.padAllowed b a = false) ∧ (Tab.sorted s.bnk.read = true)) ∧
    (∃ (b : Fin 32), ∃ (m : Fin 22), ∃ (w : Word), ∃ (s : State), (m = 16 ∨ m.val = s.rd BNK_OWN_OWNER b) ∧ (s.on BNK_OWN_PEND b = false) ∧ (bitsOf w.toNat 28 24 ≤ 21) ∧ (bitsOf w.toNat 23 0 < 2 ^ 22)) ∧
    (∃ (b : Fin 32), ∃ (m : Fin 22), ∃ (w : Word), ∃ (s : State), (m ≠ 16 ∧ m.val ≠ s.rd BNK_OWN_OWNER b ∨ s.on BNK_OWN_PEND b = true ∨ 21 < bitsOf w.toNat 28 24)) ∧
    (∃ (b : Fin 32), ∃ (m : Fin 22), ∃ (w : Word), ∃ (v : Word), ∃ (s : State), (s.on BNK_OWN_PEND b = false) ∧ (bitsOf v.toNat 28 24 ≤ 21) ∧ (bitsOf v.toNat 23 0 < 2 ^ 22)) ∧
    (∃ (b : Fin 32), ∃ (owner : Nat), ∃ (share : Nat), ∃ (s : State), (Tab.get s.bnk.next b none = some (owner, share))) :=
  ⟨⟨31, ({ master := 16, write := true, word := 5, be := 0xFF, data := 1, ecc := 0 }), (State.reset.wr BNK_OWN_OWNER 16 31), 0, by and_intros <;> decide +kernel⟩,
   ⟨31, ({ master := 16, write := false, word := 5, be := 0xFF, data := 1, ecc := 0 }), ({ State.reset with pad := (List.range 8).map (fun k => (31 * 0x10000 + 40 + k, some 7)) }), by and_intros <;> decide +kernel⟩,
   ⟨31, ({ master := 3, write := true, word := 5, be := 0xFF, data := 1, ecc := 0 }), State.reset, by and_intros <;> decide +kernel⟩,
   ⟨31, 16, 0x05000001, State.reset, by and_intros <;> decide +kernel⟩,
   ⟨31, 15, 0, (State.reset.wr BNK_OWN_OWNER 4 31), by decide +kernel⟩,
   ⟨31, 3, 0, 0x05000001, State.reset, by and_intros <;> decide +kernel⟩,
   ⟨2, 5, 1, ({ State.reset with bnk := { State.reset.bnk with next := [(2, some (5, 1))] } }), by decide +kernel⟩⟩

theorem witness_ManagementMessages :
    (∃ (origin : BitVec 25), ∃ (o : Fin 253), ∃ (l : Fin 128), ∃ (proto : Fin 16), ∃ (ver : Fin 16), ∃ (cls : Fin 8), ∃ (port : Fin 32), ∃ (t : Nat), ∃ (u : Nat), ∃ (s : State), ∃ (s1 : State), ∃ (s2 : State), (s.mgmtRuns = true) ∧ (s.freeSlot 0 = some t) ∧ (s.freeOrigin t origin.toNat = some u) ∧ (s.fwOpen t ⟨true, origin.toNat, s.selfPrefix * 128 + l, proto, min ver (s.topVersion origin.toNat proto), cls, port, o, u⟩ = some s1) ∧ (s1.fwOpen u ⟨false, s.selfPrefix * 128 + l, origin.toNat, proto, min ver (s.topVersion origin.toNat proto), cls, 0, 0, t⟩ = some s2)) ∧
    (∃ (o : Fin 253), ∃ (u : Fin 253), ∃ (ver : Fin 16), ∃ (port : Fin 32), ∃ (t : Nat), ∃ (s : State), (s.rd CTX3_STATE o = ctxOpening) ∧ (s.on CTX2_DIR o = false) ∧ (s.mgmtRuns = true) ∧ (s.terminusOf (s.rd CTX1_DEST o) u = some t)) ∧
    (∃ (o : Fin 253), ∃ (u : Fin 253), ∃ (ver : Fin 16), ∃ (port : Fin 32), ∃ (s : State), (s.rd CTX3_STATE o ≠ ctxOpening)) ∧
    (∃ (sm : BitVec 25), ∃ (ready : BitVec 128), ∃ (s : State), (s.mgmtRuns = true) ∧ (s.armed .hello = false ∨ s.due .hello = true)) ∧
    (∃ (src : BitVec 25), ∃ (bytes : List Byte), ∃ (s : State), (s.on FAB_ROLE_SM = true) ∧ (s.mgmtRuns = true) ∧ (bytes.length = 36) ∧ (ofBe (bytes.take 1) = 1) ∧ (addrValid src.toNat = true) ∧ (stationOf src.toNat = s.rd FAB_SELF_STATION) ∧ (Tab.get s.fab.heardId (prefixOf src.toNat) none = none) ∧ ((ofBe ((bytes.drop 4).take 1)).testBit 0 = false)) ∧
    (∃ (src : BitVec 25), ∃ (bytes : List Byte), ∃ (pfx : BitVec 18), ∃ (s : State), (s.on FAB_ROLE_SM = false)) ∧
    (∃ (pfx : BitVec 18), ∃ (s : State), (s.on FAB_ROLE_SM = true) ∧ (s.mgmtRuns = true) ∧ (s.due (.silence pfx.toNat) = true) ∧ (addrValid (pfx.toNat * 128) = true) ∧ (stationOf (pfx.toNat * 128) = s.rd FAB_SELF_STATION)) :=
  ⟨⟨0x40081, 5, 1, 1, 1, 0, 12, 1, 2, ({ State.reset.wr PWR_STAT_STATE 1 with boot := { State.reset.boot with running := true } }), ((({ State.reset.wr PWR_STAT_STATE 1 with boot := { State.reset.boot with running := true } } : State).fwOpen 1 ⟨true, 0x40081, 1, 1, 1, 0, 12, 5, 2⟩).getD State.reset), ((((({ State.reset.wr PWR_STAT_STATE 1 with boot := { State.reset.boot with running := true } } : State).fwOpen 1 ⟨true, 0x40081, 1, 1, 1, 0, 12, 5, 2⟩).getD State.reset).fwOpen 2 ⟨false, 1, 0x40081, 1, 1, 0, 0, 0, 1⟩).getD State.reset), by and_intros <;> decide +kernel⟩,
   ⟨5, 7, 1, 0, 9, ({ ((((((State.reset.wr PWR_STAT_STATE 1).wr CTX3_STATE ctxOpening 5).wr CTX1_DEST 0x40081 5).wr CTX2_DIR 1 9).wr CTX3_STATE 2 9).wr CTX0_KEYSRC 0x40081 9).wr CTX2_TUNID 7 9 with boot := { State.reset.boot with running := true } }), by and_intros <;> decide +kernel⟩,
   ⟨5, 0, 0, 0, State.reset, by decide +kernel⟩,
   ⟨0, 0, ({ State.reset.wr PWR_STAT_STATE 1 with boot := { State.reset.boot with running := true } }), by and_intros <;> decide +kernel⟩,
   ⟨0x40080, (1 :: List.replicate 35 0), ({ ((State.reset.wr PWR_STAT_STATE 1).wr FAB_ROLE_SM 1).wr FAB_SELF_STATION (stationOf 0x40080) with boot := { State.reset.boot with running := true } }), by and_intros <;> decide +kernel⟩,
   ⟨0, [], 0, State.reset, by decide +kernel⟩,
   ⟨0x801, ({ (((State.reset.wr PWR_STAT_STATE 1).wr FAB_ROLE_SM 1).wr FAB_SELF_STATION (stationOf (0x801 * 128))) with boot := { State.reset.boot with running := true }, timers := [(.silence 0x801, 0)] }), by and_intros <;> decide +kernel⟩⟩

theorem witness_SessionsAndCertification :
    (∃ (t : Fin 4), ∃ (s : State), (s.sessRuns t = true) ∧ ((s.sess t).offer.isEmpty = false) ∧ ((s.sess t).pair.isSome = true) ∧ (s.armed (.offer t) = false ∨ s.due (.offer t) = true)) ∧
    (∃ (t : Fin 4), ∃ (bytes : List Byte), ∃ (s : State), (s.sessRuns t = true) ∧ (State.offerGood bytes = true) ∧ ((s.sess t).offer.isEmpty = false)) ∧
    (∃ (t : Fin 4), ∃ (bytes : List Byte), ∃ (n : Nat), ∃ (s : State), ∃ (s1 : State), (s.sessRuns t = true) ∧ ((s.sess t).peer.isEmpty = false) ∧ ((s.sess t).offer.isEmpty = false) ∧ (bytes.length = 100) ∧ (bytes.take 4 = [0xB2, 0, 0, 0]) ∧ ((s.sess t).pair = some n) ∧ (s.pairSource n useEcdh useEcdh = (s1, .ok))) ∧
    (∃ (t : Fin 4), ∃ (bytes : List Byte), ∃ (s : State), (s.sessRuns t = true) ∧ (bytes.length = 4) ∧ (bytes.getD 0 0 = 0xB3)) ∧
    (∃ (t : Fin 4), ∃ (bytes : List Byte), ∃ (s : State), ((s.sess t).ended = true)) ∧
    (∃ (src : BitVec 25), ∃ (s : State), ∃ (s1 : State), (s.certifies = true) ∧ (s.pairSource 0 useSign useEcdh = (s1, .ok))) ∧
    (∃ (src : BitVec 25), ∃ (bytes : List Byte), ∃ (place : Nat), ∃ (ok : Bool), ∃ (s : State), ∃ (s1 : State), (s.certifies = true) ∧ (bytes.getD 0 0 = 0xC3) ∧ ((bytes.getD 1 0).toNat = 2) ∧ (ofBe ((bytes.drop 2).take 2) = 0) ∧ (bytes.length = 516) ∧ (s.pairSource 0 useSign useEcdh = (s1, .ok))) :=
  ⟨⟨3, ({ (State.reset.wr PWR_STAT_STATE 1).wr TRK_STAT_STATE trkSeal 3 with boot := { State.reset.boot with running := true }, keys := { State.reset.keys with sess := [(3, { offer := [1], pair := some 8 })] } }), by and_intros <;> decide +kernel⟩,
   ⟨3, ([0xB1, 2, 0, 0] ++ List.replicate 640 0), ({ (State.reset.wr PWR_STAT_STATE 1).wr TRK_STAT_STATE trkSeal 3 with boot := { State.reset.boot with running := true }, keys := { State.reset.keys with sess := [(3, { offer := [1] })] } }), by and_intros <;> decide +kernel⟩,
   ⟨3, ([0xB2, 0, 0, 0] ++ List.replicate 96 0), 8, ({ ((State.reset.fillPair 8 5 (2 ^ useEcdh)).wr PWR_STAT_STATE 1).wr TRK_STAT_STATE trkSeal 3 with boot := { State.reset.boot with running := true }, keys := { (State.reset.fillPair 8 5 (2 ^ useEcdh)).keys with sess := [(3, { offer := [1], peer := [1], pair := some 8 })] } }), (({ ((State.reset.fillPair 8 5 (2 ^ useEcdh)).wr PWR_STAT_STATE 1).wr TRK_STAT_STATE trkSeal 3 with boot := { State.reset.boot with running := true }, keys := { (State.reset.fillPair 8 5 (2 ^ useEcdh)).keys with sess := [(3, { offer := [1], peer := [1], pair := some 8 })] } } : State)), by and_intros <;> decide +kernel⟩,
   ⟨3, ([0xB3, 1, 0, 0]), ({ (State.reset.wr PWR_STAT_STATE 1).wr TRK_STAT_STATE trkSeal 3 with boot := { State.reset.boot with running := true } }), by and_intros <;> decide +kernel⟩,
   ⟨3, [], ({ State.reset with keys := { State.reset.keys with sess := [(3, { ended := true })] } }), by decide +kernel⟩,
   ⟨0, ({ (State.reset.fillPair 0 5 (2 ^ useSign)).wr PWR_STAT_STATE 1 with boot := { State.reset.boot with running := true }, keys := { (State.reset.fillPair 0 5 (2 ^ useSign)).keys with fuse := [(8, 0x040404)] } }), ({ (State.reset.fillPair 0 5 (2 ^ useSign)).wr PWR_STAT_STATE 1 with boot := { State.reset.boot with running := true }, keys := { (State.reset.fillPair 0 5 (2 ^ useSign)).keys with fuse := [(8, 0x040404)] } }), by and_intros <;> decide +kernel⟩,
   ⟨0x40080, ([0xC3, 2, 0, 0] ++ List.replicate 512 0), 0, false, ({ (State.reset.fillPair 0 5 (2 ^ useSign)).wr PWR_STAT_STATE 1 with boot := { State.reset.boot with running := true }, keys := { (State.reset.fillPair 0 5 (2 ^ useSign)).keys with fuse := [(8, 0x040404)] } }), ({ (State.reset.fillPair 0 5 (2 ^ useSign)).wr PWR_STAT_STATE 1 with boot := { State.reset.boot with running := true }, keys := { (State.reset.fillPair 0 5 (2 ^ useSign)).keys with fuse := [(8, 0x040404)] } }), by and_intros <;> decide +kernel⟩⟩

theorem witness_DisplayHeads :
    (∃ (h : Fin 2), ∃ (w : Word), ∃ (s : State), ∃ (t : State), (s.on HD_CTRL_EN h = false) ∧ (w.toNat.testBit 31 = true) ∧ ((s.writeFields (s.on DSP_CTRL_LOCK) [HD_CTRL_LOCK, HD_CTRL_WIN] h 0 w.toNat).on HD_CTRL_LOCK h = false) ∧ (t = ((s.writeFields (s.on DSP_CTRL_LOCK) [HD_CTRL_LOCK, HD_CTRL_WIN] h 0 w.toNat).when (decide (h = 1)) (·.writeField (s.on DSP_CTRL_LOCK) HD_CTRL_OUT h 0 w.toNat)).writeField (s.on DSP_CTRL_LOCK) HD_CTRL_CMD h 0 w.toNat) ∧ (t.headFailure h = none) ∧ ((t.on HD_CTRL_OUT h && !t.dsp.dpOn) = false)) ∧
    (∃ (h : Fin 2), ∃ (w : Word), ∃ (s : State), (s.on HD_CTRL_EN h = true) ∧ (w.toNat.testBit 31 = false) ∧ (bitsOf w.toNat HD_CTRL_OUT.hi HD_CTRL_OUT.lo = s.rd HD_CTRL_OUT h) ∧ (bitsOf w.toNat HD_CTRL_CMD.hi HD_CTRL_CMD.lo = s.rd HD_CTRL_CMD h) ∧ ((s.writeFields (s.on DSP_CTRL_LOCK) [HD_CTRL_LOCK, HD_CTRL_WIN] h 0 w.toNat).on HD_CTRL_LOCK h = false)) ∧
    (∃ (rate : Fin 4), ∃ (lanes : Fin 4), ∃ (s : State), (s.rd UPD_ALTSTAT_MODE = 1) ∧ (s.on HD_LINK_HPD 1 = true) ∧ (s.on HD_CTRL_OUT 1 = true) ∧ (s.fullPower = true) ∧ (rate = 0 ∨ lanes = 0)) ∧
    (∃ (rate : Fin 4), ∃ (lanes : Fin 4), ∃ (s : State), ∃ (t : State), (s.rd UPD_ALTSTAT_MODE = 1) ∧ (s.on HD_LINK_HPD 1 = true) ∧ (s.on HD_CTRL_OUT 1 = true) ∧ (s.fullPower = true) ∧ (rate ≠ 0) ∧ (lanes ≠ 0) ∧ (t = { ((s.wr HD_LINK_DPRATE rate 1).wr HD_LINK_DPLANES (if s.rd UPD_ALTSTAT_PIN = 2 then min lanes.val 2 else lanes.val) 1) with dsp := { s.dsp with dpOn := true } }) ∧ (t.bandwidthOk 1 = true) ∧ (t.on HD_CTRL_EN 1 = true)) ∧
    (∃ (s : State), (s.on HD_LINK_HPD 1 = true)) ∧
    (∃ (h : Fin 2), ∃ (ago : Nat), ∃ (s : State), (s.headRuns h = true) ∧ (s.on HD_CTRL_CMD h = false) ∧ (s.lockOn h = false) ∧ ((Tab.get s.dsp.flip h false) = false)) ∧
    (∃ (h : Fin 2), ∃ (s : State), (s.headRuns h = true)) ∧
    (∃ (h : Fin 2), ∃ (s : State), (s.headRuns h = true) ∧ ((s.softPend h).filter (fun c => diffFrame ((s.rd HD_FCOUNT_FRAME h + 1) % 2 ^ 32) c.due ≥ 0) = []) ∧ (s.dsp.svc = [])) ∧
    (∃ (h : Fin 2), ∃ (c : HeadCommit), ∃ (s : State), (s.headRuns h = true) ∧ (s.softPend h = [c]) ∧ (diffFrame ((s.rd HD_FCOUNT_FRAME h + 1) % 2 ^ 32) c.due ≥ 0) ∧ (s.dsp.svc = [])) ∧
    (∃ (h : Fin 2), ∃ (l : Fin 4), ∃ (y : Fin 4096), ∃ (k : Fin 64), ∃ (ecc : Bool), ∃ (s : State), (s.headRuns h = true) ∧ (Tab.get s.dsp.under h false = true) ∧ (Tab.sorted s.regs = true)) ∧
    (∃ (h : Fin 2), ∃ (l : Fin 4), ∃ (y : Fin 4096), ∃ (k : Fin 64), ∃ (ecc : Bool), ∃ (s : State), (s.headRuns h = true) ∧ (Tab.get s.dsp.under h false = false)) ∧
    (∃ (h : Fin 2), ∃ (w : Word), ∃ (due : Nat), ∃ (late : Bool), ∃ (s : State), (w.toNat.testBit 31 = true) ∧ (w.toNat.testBit 29 = false) ∧ (s.rd HD_STAT_STATE h = 2) ∧ (s.headRuns h = true) ∧ (s.restricted = false) ∧ ((List.range 4).all (fun l => !((bitsOf w.toNat 19 16 ||| bitsOf w.toNat 23 20).testBit l && s.on LY_STAT_PEND h l)) = true) ∧ ((w.toNat.testBit 28 && s.on HD_COMMIT_BGPEND h) = false) ∧ ((List.range 4).all (fun l => !((bitsOf w.toNat 23 20).testBit l && s.on LY_CTRL_OWNER h l)) = true) ∧ ((List.range 4).all (fun l => !((bitsOf w.toNat 19 16).testBit l && !s.layerOk h l)) = true) ∧ (s.commitDue h none = some (due, late))) ∧
    (∃ (h : Fin 2), ∃ (w : Word), ∃ (s : State), (w.toNat.testBit 31 = true) ∧ (s.rd HD_STAT_STATE h ≠ 2)) ∧
    (∃ (h : Fin 2), ∃ (fall : Bool), ∃ (ago : Nat), ∃ (s : State), (s.headRuns h = true) ∧ (s.on HD_CTRL_CMD h = true) ∧ (s.on HD_TE_EDGE h = fall) ∧ (ago ≥ s.rd HD_TE_FILT h * 100 * 2 ^ 32) ∧ (Tab.get s.dsp.teLast h none = none) ∧ (Tab.get s.dsp.xfer h false = false)) ∧
    (∃ (h : Fin 2), ∃ (s : State), (s.headRuns h = true) ∧ (s.on HD_CTRL_CMD h = true) ∧ (Tab.get s.flt.cause (101 + h.val) false = false) ∧ (s.ran (.te h) (s.rd HD_TE_TETO h * 10000000) = true)) :=
  ⟨⟨0, 0x80000000, (((((((((((State.reset.wr HD_HTIM0_HACTIVE 640 0).wr HD_HTIM0_HFP 16 0).wr HD_HTIM1_HSYNC 96 0).wr HD_HTIM1_HBP 48 0).wr HD_VTIM0_VACTIVE 480 0).wr HD_VTIM0_VFP 10 0).wr HD_VTIM1_VSYNC 2 0).wr HD_VTIM1_VBP 33 0).wr HD_PCLK_PCLK 25175 0).wr HD_LINK_DSIRATE 100 0)), (((((((((((((State.reset.wr HD_HTIM0_HACTIVE 640 0).wr HD_HTIM0_HFP 16 0).wr HD_HTIM1_HSYNC 96 0).wr HD_HTIM1_HBP 48 0).wr HD_VTIM0_VACTIVE 480 0).wr HD_VTIM0_VFP 10 0).wr HD_VTIM1_VSYNC 2 0).wr HD_VTIM1_VBP 33 0).wr HD_PCLK_PCLK 25175 0).wr HD_LINK_DSIRATE 100 0)).writeFields false [HD_CTRL_LOCK, HD_CTRL_WIN] 0 0 (BitVec.toNat (0x80000000 : Word))).writeField false HD_CTRL_CMD 0 0 (BitVec.toNat (0x80000000 : Word))), by and_intros <;> decide +kernel⟩,
   ⟨0, 0, (State.reset.wr HD_CTRL_EN 1 0), by and_intros <;> decide +kernel⟩,
   ⟨0, 0, (((((State.reset.wr UPD_ALTSTAT_MODE 1).wr HD_LINK_HPD 1 1).wr HD_CTRL_OUT 1 1).wr PWR_STAT_STATE 1)), by and_intros <;> decide +kernel⟩,
   ⟨3, 3, ((((((State.reset.wr UPD_ALTSTAT_MODE 1).wr HD_LINK_HPD 1 1).wr HD_CTRL_OUT 1 1).wr PWR_STAT_STATE 1).wr HD_CTRL_EN 1 1)), ({ (((((((State.reset.wr UPD_ALTSTAT_MODE 1).wr HD_LINK_HPD 1 1).wr HD_CTRL_OUT 1 1).wr PWR_STAT_STATE 1).wr HD_CTRL_EN 1 1).wr HD_LINK_DPRATE 3 1).wr HD_LINK_DPLANES 3 1) with dsp := { State.reset.dsp with dpOn := true } }), by and_intros <;> decide +kernel⟩,
   ⟨(State.reset.wr HD_LINK_HPD 1 1), by decide +kernel⟩,
   ⟨1, 0, ((State.reset.wr HD_CTRL_EN 1 1).wr PWR_STAT_STATE 1), by and_intros <;> decide +kernel⟩,
   ⟨1, ((State.reset.wr HD_CTRL_EN 1 1).wr PWR_STAT_STATE 1), by decide +kernel⟩,
   ⟨1, ((State.reset.wr HD_CTRL_EN 1 1).wr PWR_STAT_STATE 1), by and_intros <;> decide +kernel⟩,
   ⟨1, ({ lmask := 0, flip := 0, bg := true, due := 1, late := false, tgt := false }), ({ (State.reset.wr HD_CTRL_EN 1 1).wr PWR_STAT_STATE 1 with dsp := { State.reset.dsp with soft := [(1, [{ lmask := 0, flip := 0, bg := true, due := 1, late := false, tgt := false }])] } }), by and_intros <;> decide +kernel⟩,
   ⟨1, 0, 0, 0, false, ({ (State.reset.wr HD_CTRL_EN 1 1).wr PWR_STAT_STATE 1 with dsp := { State.reset.dsp with under := [(1, true)] } }), by and_intros <;> decide +kernel⟩,
   ⟨1, 0, 0, 0, false, ((State.reset.wr HD_CTRL_EN 1 1).wr PWR_STAT_STATE 1), by and_intros <;> decide +kernel⟩,
   ⟨1, 0x90000000, 1, false, (((State.reset.wr HD_CTRL_EN 1 1).wr PWR_STAT_STATE 1).wr HD_STAT_STATE 2 1), by and_intros <;> decide +kernel⟩,
   ⟨0, 0x80000000, State.reset, by and_intros <;> decide +kernel⟩,
   ⟨1, false, (2 ^ 60), ({ ((State.reset.wr HD_CTRL_EN 1 1).wr PWR_STAT_STATE 1).wr HD_CTRL_CMD 1 1 with tmu := { State.reset.tmu with elapsed := 2 ^ 61 } }), by and_intros <;> decide +kernel⟩,
   ⟨1, ({ ((State.reset.wr HD_CTRL_EN 1 1).wr PWR_STAT_STATE 1).wr HD_CTRL_CMD 1 1 with timers := [(.te 1, 0)], tmu := { State.reset.tmu with elapsed := 2 ^ 80 } }), by and_intros <;> decide +kernel⟩⟩

theorem witness_DisplayService :
    (∃ (e : Fin 128), ∃ (raw : List Byte), ∃ (m : DispMsg), ∃ (h : Nat), ∃ (ix : List Nat), ∃ (s : State), ∃ (s1 : State), ∃ (u : State), (s.svcRuns e = true) ∧ (s.rd TEN_SVC0_TYPE e = tyDisplay) ∧ ((s.replay e).takeMessage e tyDisplay [1] (fun s => s.badMsg e) State.goodMsg = (s1, some raw)) ∧ (m = State.parseMsg raw) ∧ (h = s1.dispHead e) ∧ ((s1.param e 1 1).testBit m.layer = true) ∧ (s1.rd CTX1_DEST (s1.rd TEN_SVC1_RXSLOT e) % 8 = 0) ∧ (State.versionAllows (s1.rd CTX2_VER (s1.rd TEN_SVC1_RXSLOT e)) m = true) ∧ (m.body.length ≤ 2048) ∧ (Tab.get s1.dsp.last (4 * h + m.layer) none = none) ∧ (s1.svcPend h m.layer = none) ∧ (m.ty = 1) ∧ (s1.on LY_CTRL_OWNER h m.layer = true) ∧ (u = s1.copyBack h m.layer) ∧ (u.tileIndices h m.layer m = some ix) ∧ (m.dcode = u.rd LY_CTRL_DEPTH h m.layer) ∧ (ofBe (m.body.take 2) < (u.rd LY_SIZE_W h m.layer + 15) / 16) ∧ (ofBe ((m.body.drop 2).take 2) < (u.rd LY_SIZE_H h m.layer + 15) / 16) ∧ (ix.length = 256) ∧ (ix.all (fun v => v < 2 ^ 2 ^ u.rd LY_CTRL_DEPTH h m.layer) = true)) ∧
    (∃ (e : Fin 128), ∃ (raw : List Byte), ∃ (m : DispMsg), ∃ (h : Nat), ∃ (cnt : Nat), ∃ (s : State), ∃ (s1 : State), (s.svcRuns e = true) ∧ (s.rd TEN_SVC0_TYPE e = tyDisplay) ∧ ((s.replay e).takeMessage e tyDisplay [2] (fun s => s.badMsg e) State.goodMsg = (s1, some raw)) ∧ (m = State.parseMsg raw) ∧ (h = s1.dispHead e) ∧ ((s1.param e 1 1).testBit m.layer = true) ∧ (s1.rd CTX1_DEST (s1.rd TEN_SVC1_RXSLOT e) % 8 = 0) ∧ (State.versionAllows (s1.rd CTX2_VER (s1.rd TEN_SVC1_RXSLOT e)) m = true) ∧ (m.body.length ≤ 2048) ∧ (Tab.get s1.dsp.last (4 * h + m.layer) none = none) ∧ (s1.svcPend h m.layer = none) ∧ (m.ty = 2) ∧ (s1.on LY_CTRL_OWNER h m.layer = true) ∧ (cnt = (m.body.getD 1 0).toNat + 1) ∧ (m.body.length = 4 + 4 * cnt) ∧ ((m.body.getD 0 0).toNat + cnt ≤ 256)) ∧
    (∃ (e : Fin 128), ∃ (raw : List Byte), ∃ (m : DispMsg), ∃ (h : Nat), ∃ (due : Nat), ∃ (late : Bool), ∃ (s : State), ∃ (s1 : State), ∃ (u : State), (s.svcRuns e = true) ∧ (s.rd TEN_SVC0_TYPE e = tyDisplay) ∧ ((s.replay e).takeMessage e tyDisplay [3] (fun s => s.badMsg e) State.goodMsg = (s1, some raw)) ∧ (m = State.parseMsg raw) ∧ (h = s1.dispHead e) ∧ ((s1.param e 1 1).testBit m.layer = true) ∧ (s1.rd CTX1_DEST (s1.rd TEN_SVC1_RXSLOT e) % 8 = 0) ∧ (State.versionAllows (s1.rd CTX2_VER (s1.rd TEN_SVC1_RXSLOT e)) m = true) ∧ (m.body.length ≤ 2048) ∧ (Tab.get s1.dsp.last (4 * h + m.layer) none = none) ∧ (s1.svcPend h m.layer = none) ∧ (m.ty = 3) ∧ (u = s1.copyBack h m.layer) ∧ (m.body.length = 16) ∧ (u.restricted = false) ∧ (u.on LY_CTRL_OWNER h m.layer = true) ∧ (u.layerOk h m.layer = true) ∧ (u.commitDue h none = some (due, late)) ∧ (s1.rd CTX2_VER (s1.rd TEN_SVC1_RXSLOT e) < 3)) ∧
    (∃ (e : Nat), ∃ (h : Nat), ∃ (m : DispMsg), ∃ (s : State), (s.tileIndices h m.layer m = none)) ∧
    (∃ (e : Nat), ∃ (h : Nat), ∃ (ver : Nat), ∃ (m : DispMsg), ∃ (s : State), (m.body.length = 16) ∧ (s.restricted = true)) ∧
    (∃ (e : Fin 128), ∃ (a : DispAck), ∃ (l : List DispAck), ∃ (s : State), (Tab.get s.dsp.acks e [] = a :: l) ∧ (s.svcRuns e = true) ∧ (s.rd TEN_SVC0_TYPE e = tyDisplay)) ∧
    (∃ (h : Fin 2), ∃ (l : Fin 4), ∃ (e : Nat), ∃ (s : State), ((List.range 128).find? (fun e => s.svcRuns e && s.rd TEN_SVC0_TYPE e == tyDisplay && s.dispHead e == h.val && (s.param e 1 1).testBit l) = some e)) ∧
    (∃ (n : Fin 16), ∃ (m : Fin 2), ∃ (e : Fin 128), ∃ (s : State), (s.on ENG_MBX_BUSY n m = false) ∧ (s.rd ENG_STAT_STATE n = engRun) ∧ (Tab.sorted s.regs = true)) ∧
    (∃ (n : Fin 16), ∃ (m : Fin 2), ∃ (e : Fin 128), ∃ (s : State), (s.on ENG_MBX_BUSY n m = false) ∧ (s.rd ENG_STAT_STATE n = engRun) ∧ (Tab.sorted s.regs = true)) :=
  ⟨⟨1, ([1, 0x2C, 0, 0, 0, 8, 0, 0] ++ List.replicate 8 0), (State.parseMsg ([1, 0x2C, 0, 0, 0, 8, 0, 0] ++ List.replicate 8 0)), 0, (List.replicate 256 0), ((Tests.params (Tests.entryMsg 1 ([1, 0x2C, 0, 0, 0, 8, 0, 0] ++ List.replicate 8 0)) [0, 1]).wr LY_CTRL_OWNER 1 0 0 |>.wr LY_CTRL_DEPTH 3 0 0 |>.wr LY_SIZE_W 16 0 0 |>.wr LY_SIZE_H 16 0 0), ((Tests.params (Tests.entryMsg 1 []) [0, 1]).wr LY_CTRL_OWNER 1 0 0 |>.wr LY_CTRL_DEPTH 3 0 0 |>.wr LY_SIZE_W 16 0 0 |>.wr LY_SIZE_H 16 0 0), ((Tests.params (Tests.entryMsg 1 []) [0, 1]).wr LY_CTRL_OWNER 1 0 0 |>.wr LY_CTRL_DEPTH 3 0 0 |>.wr LY_SIZE_W 16 0 0 |>.wr LY_SIZE_H 16 0 0), by and_intros <;> decide +kernel⟩,
   ⟨1, ([2, 0, 0, 0, 0, 8, 0, 0] ++ List.replicate 8 0), (State.parseMsg ([2, 0, 0, 0, 0, 8, 0, 0] ++ List.replicate 8 0)), 0, 1, ((Tests.params (Tests.entryMsg 1 ([2, 0, 0, 0, 0, 8, 0, 0] ++ List.replicate 8 0)) [0, 1]).wr LY_CTRL_OWNER 1 0 0), ((Tests.params (Tests.entryMsg 1 []) [0, 1]).wr LY_CTRL_OWNER 1 0 0), by and_intros <;> decide +kernel⟩,
   ⟨1, ([3, 0, 0, 0, 0, 16, 0, 0] ++ List.replicate 16 0), (State.parseMsg ([3, 0, 0, 0, 0, 16, 0, 0] ++ List.replicate 16 0)), 0, 1, false, ((Tests.params (Tests.entryMsg 1 ([3, 0, 0, 0, 0, 16, 0, 0] ++ List.replicate 16 0)) [0, 1]).wr LY_CTRL_OWNER 1 0 0 |>.wr DRC_CTRL_DEVSZ 1 |>.wr LY_SIZE_W 16 0 0 |>.wr DRC_CTRL_DEVSZ 1 |>.wr LY_SIZE_H 16 0 0 |>.wr LY_STRIDE_STRIDE 1 0 0), ((Tests.params (Tests.entryMsg 1 []) [0, 1]).wr LY_CTRL_OWNER 1 0 0 |>.wr DRC_CTRL_DEVSZ 1 |>.wr LY_SIZE_W 16 0 0 |>.wr DRC_CTRL_DEVSZ 1 |>.wr LY_SIZE_H 16 0 0 |>.wr LY_STRIDE_STRIDE 1 0 0), ((Tests.params (Tests.entryMsg 1 []) [0, 1]).wr LY_CTRL_OWNER 1 0 0 |>.wr DRC_CTRL_DEVSZ 1 |>.wr LY_SIZE_W 16 0 0 |>.wr DRC_CTRL_DEVSZ 1 |>.wr LY_SIZE_H 16 0 0 |>.wr LY_STRIDE_STRIDE 1 0 0), by and_intros <;> decide +kernel⟩,
   ⟨0, 0, ({ ty := 1, layer := 0, mode := 2, dcode := 3, batch := 0, body := [] }), State.reset, by decide +kernel⟩,
   ⟨0, 0, 0, ({ ty := 3, layer := 0, mode := 0, dcode := 0, batch := 0, body := List.replicate 16 0 }), (State.reset.wr XSW_STAT_HALTED 1), by and_intros <;> decide +kernel⟩,
   ⟨1, ({ entry := 1, layer := 0, batch := 0 }), [], ({ Tests.entry 1 with dsp := { State.reset.dsp with acks := [(1, [{ entry := 1, layer := 0, batch := 0 }])] } }), by and_intros <;> decide +kernel⟩,
   ⟨0, 0, 1, (Tests.params (Tests.entry 1) [0, 1]), by decide +kernel⟩,
   ⟨2, 0, 77, (State.reset.wr ENG_STAT_STATE engRun 2), by and_intros <;> decide +kernel⟩,
   ⟨2, 0, 77, (State.reset.wr ENG_STAT_STATE engRun 2), by and_intros <;> decide +kernel⟩⟩

theorem witness_UsbUpstreamAndPorts :
    (∃ (s : State), (s.rd USB_STAT_USTATE = 0) ∧ (s.pullUpOk = true)) ∧
    (∃ (s : State), (s.rd USB_STAT_USTATE ≠ 0) ∧ (s.pullUpOk = false) ∧ (Tab.sorted s.regs = true)) ∧
    (∃ (high : Bool), ∃ (s : State), (s.rd USB_STAT_USTATE ≠ 0) ∧ (Tab.sorted s.regs = true)) ∧
    (∃ (high : Bool), ∃ (k : Fin 16), ∃ (s : State), (s.rd USB_STAT_USTATE ≠ 0)) ∧
    (∃ (s : State), (s.rd USB_STAT_USTATE ≠ 0) ∧ (s.rd USB_STAT_USTATE ≠ 5)) ∧
    (∃ (s : State), (s.rd USB_STAT_USTATE = 5) ∧ (s.usb.driving = false)) ∧
    (∃ (s : State), (s.usb.wakeHeld = true) ∧ (s.rd USB_STAT_USTATE = 5) ∧ (s.on USB_STAT_RWKEN = true) ∧ (s.tmu.elapsed ≥ s.usb.suspAt + 5000000 * 2 ^ 32)) ∧
    (∃ (s : State), (s.usb.driving = true) ∧ (s.usb.hostK = false) ∧ (s.due .usbWake = true)) ∧
    (∃ (a : BitVec 7), ∃ (s : State), (2 ≤ s.rd USB_STAT_USTATE) ∧ (s.rd USB_STAT_USTATE ≠ 5)) ∧
    (∃ (on : Bool), ∃ (s : State), (3 ≤ s.rd USB_STAT_USTATE) ∧ (s.rd USB_STAT_USTATE ≠ 5)) ∧
    (∃ (n : Fin 6), ∃ (s : State), (2 ≤ s.rd USB_STAT_USTATE) ∧ (s.rd USB_STAT_USTATE ≠ 5) ∧ (n ≠ 0) ∧ (n ≠ 5) ∧ (s.portMode n = 0)) ∧
    (∃ (n : Fin 6), ∃ (s : State), (2 ≤ s.rd USB_STAT_USTATE) ∧ (s.rd USB_STAT_USTATE ≠ 5) ∧ (n ≠ 0) ∧ (n ≠ 5) ∧ (s.portMode n = 0) ∧ (s.on USB_PORT_CONN (n - 1) = true) ∧ (s.on USB_PORT_ENA (n - 1) = true)) ∧
    (∃ (s : State), (2 ≤ s.rd USB_STAT_USTATE) ∧ (s.rd USB_STAT_USTATE ≠ 5) ∧ (s.on USB_CTRL_FNEN = true) ∧ (Tab.get s.usb.resetting 5 false = false)) ∧
    (∃ (n : Fin 4), ∃ (w : Word), ∃ (s : State), (s.on USB_PORT_PWR n = true)) ∧
    (∃ (n : Fin 4), ∃ (w : Word), ∃ (s : State), (bitsOf w.toNat 31 30 ≠ s.rd USB_PORT_MODE n) ∧ (s.on USB_CTRL_LOCK = false) ∧ (s.on USB_PORT_PWR n = false) ∧ (bitsOf w.toNat 31 30 ≠ 3)) ∧
    (∃ (n : Fin 4), ∃ (low : Bool), ∃ (held : Nat), ∃ (s : State), (s.on USB_PORT_PWR n = true) ∧ (s.portMode (n + 1) = 0) ∧ (s.on USB_PORT_CONN n = false) ∧ (held ≥ s.rd USB_TIMING_CONNDB * 1000000 * 2 ^ 32)) ∧
    (∃ (n : Fin 4), ∃ (s : State), (s.on USB_PORT_CONN n = true) ∧ (s.portMode (n + 1) = 0)) ∧
    (∃ (n : Fin 5), ∃ (speed : Fin 3), ∃ (s : State), (Tab.get s.usb.resetting (n + 1) false = true) ∧ (s.due (.usbReset (n + 1)) = true) ∧ (n ≠ 4) ∧ (s.portMode (n + 1) = 0) ∧ (s.on USB_STAT_HS = true) ∧ (speed = 2)) ∧
    (∃ (n : Fin 5), ∃ (s : State), (Tab.get s.usb.resuming (n + 1) 0 ≠ 0) ∧ (s.due (.usbResume (n + 1)) = true) ∧ (n ≠ 4) ∧ (s.portMode (n + 1) = 0)) ∧
    (∃ (n : Fin 4), ∃ (e : Nat), ∃ (s : State), (s.portEntry (n + 1) = some e) ∧ (s.portMode (n + 1) = 2) ∧ (s.on USB_PORT_SUSP n = true) ∧ (2 ≤ s.proxyVer e) ∧ (Tab.get s.usb.resuming (n + 1) 0 = 0)) :=
  ⟨⟨((((State.reset.wr USB_CTRL_EN 1).wr PWR_STAT_STATE 1).wr UPD_STAT_STATE 3).wr UPD_VBUS_V 250), by and_intros <;> decide +kernel⟩,
   ⟨(State.reset.wr USB_STAT_USTATE 4), by and_intros <;> decide +kernel⟩,
   ⟨false, (State.reset.wr USB_STAT_USTATE 4), by and_intros <;> decide +kernel⟩,
   ⟨false, 0, (State.reset.wr USB_STAT_USTATE 4), by decide +kernel⟩,
   ⟨(State.reset.wr USB_STAT_USTATE 4), by and_intros <;> decide +kernel⟩,
   ⟨(State.reset.wr USB_STAT_USTATE 5), by and_intros <;> decide +kernel⟩,
   ⟨({ (State.reset.wr USB_STAT_USTATE 5).wr USB_STAT_RWKEN 1 with usb := { State.reset.usb with wakeHeld := true }, tmu := { State.reset.tmu with elapsed := 5000000 * 2 ^ 32 } }), by and_intros <;> decide +kernel⟩,
   ⟨({ State.reset with usb := { State.reset.usb with driving := true }, timers := [(.usbWake, 0)] }), by and_intros <;> decide +kernel⟩,
   ⟨5, (State.reset.wr USB_STAT_USTATE 2), by and_intros <;> decide +kernel⟩,
   ⟨true, (State.reset.wr USB_STAT_USTATE 3), by and_intros <;> decide +kernel⟩,
   ⟨4, (State.reset.wr USB_STAT_USTATE 2), by and_intros <;> decide +kernel⟩,
   ⟨4, (((State.reset.wr USB_STAT_USTATE 2).wr USB_PORT_CONN 1 3).wr USB_PORT_ENA 1 3), by and_intros <;> decide +kernel⟩,
   ⟨((State.reset.wr USB_STAT_USTATE 2).wr USB_CTRL_FNEN 1), by and_intros <;> decide +kernel⟩,
   ⟨3, 0x40000000, (State.reset.wr USB_PORT_PWR 1 3), by decide +kernel⟩,
   ⟨3, 0x40000000, State.reset, by and_intros <;> decide +kernel⟩,
   ⟨3, false, (2 ^ 80), (State.reset.wr USB_PORT_PWR 1 3), by and_intros <;> decide +kernel⟩,
   ⟨3, (State.reset.wr USB_PORT_CONN 1 3), by and_intros <;> decide +kernel⟩,
   ⟨3, 2, ({ (State.reset.setResetting 4 true).wr USB_STAT_HS 1 with timers := [(.usbReset 4, 0)] }), by and_intros <;> decide +kernel⟩,
   ⟨3, ({ State.reset.setResuming 4 1 with timers := [(.usbResume 4, 0)] }), by and_intros <;> decide +kernel⟩,
   ⟨0, 1, (((((Tests.params (Tests.entry 2) [1, 1]).wr USB_PORT_MODE 2 0).wr USB_PORT_SUSP 1 0).wr TEN_SVC1_RXSLOT 9 1).wr CTX2_VER 2 9), by and_intros <;> decide +kernel⟩⟩

theorem witness_UsbEmbeddedFunction :
    (∃ (k : Fin 16), ∃ (w : Word), ∃ (s : State), ∃ (s1 : State), (k ≠ 0) ∧ (2 ≤ bitsOf w.toNat 29 28) ∧ (s1 = (s.writeFields false [EP_CFG_DIR, EP_CFG_MPS, EP_CFG_BUFOFS, EP_CFG_BUFLEN] k 0 w.toNat).wr EP_CFG_XTYPE (bitsOf w.toNat 29 28) k) ∧ ((s1.rd EP_CFG_BUFOFS k + s1.rd EP_CFG_BUFLEN k > 256 || s1.rd EP_CFG_MPS k > s1.mpsLimit k true || (List.range 16).any (fun j => j != k.val && s1.on EP_CFG_EN j && s1.epOverlap k j)) = false)) ∧
    (∃ (k : Fin 16), ∃ (w : Word), ∃ (s : State), ∃ (s1 : State), (k ≠ 0) ∧ (2 ≤ bitsOf w.toNat 29 28) ∧ (s1 = (s.writeFields false [EP_CFG_DIR, EP_CFG_MPS, EP_CFG_BUFOFS, EP_CFG_BUFLEN] k 0 w.toNat).wr EP_CFG_XTYPE (bitsOf w.toNat 29 28) k) ∧ (w.toNat.testBit 31 = true) ∧ (s1.rd EP_CFG_MPS k > s1.mpsLimit k true)) ∧
    (∃ (k : Fin 16), ∃ (w : Word), ∃ (s : State), (s.on EP_CFG_EN k = false)) ∧
    (∃ (k : Fin 16), ∃ (w : Word), ∃ (s : State), (s.on EP_CFG_EN k = true) ∧ (s.on EP_STAT_ARMED k = true)) ∧
    (∃ (k : Fin 16), ∃ (w : Word), ∃ (s : State), (s.on EP_CFG_EN k = true) ∧ (s.on EP_STAT_ARMED k = false) ∧ (bitsOf w.toNat 13 0 > s.rd EP_CFG_BUFLEN k * 64)) ∧
    (∃ (k : Fin 16), ∃ (w : Word), ∃ (s : State), (s.on EP_CFG_EN k = true) ∧ (s.on EP_STAT_ARMED k = false) ∧ (bitsOf w.toNat 13 0 ≤ s.rd EP_CFG_BUFLEN k * 64) ∧ (s.rd EP_CFG_MPS k ≤ s.mpsLimit k (s.on USB_STAT_HS)) ∧ (k ≠ 0)) ∧
    (∃ (k : Fin 16), ∃ (s : State), (s.on EP_STAT_ARMED k = true)) ∧
    (∃ (k : Fin 16), ∃ (data : List Byte), ∃ (s : State), (s.fnReached = true) ∧ (k ≠ 0) ∧ (s.on EP_CFG_EN k = true) ∧ (s.on EP_CFG_DIR k = true) ∧ (s.on EP_STAT_HALT k = false) ∧ (s.on EP_STAT_ARMED k = true) ∧ (Tab.get s.usb.moved k 0 = 0) ∧ (Tab.get s.usb.armLen k 0 ≤ s.rd EP_CFG_MPS k) ∧ (Tab.get s.usb.armZlp k false = false)) ∧
    (∃ (k : Fin 16), ∃ (data : List Byte), ∃ (s : State), (s.fnReached = true) ∧ (k ≠ 0) ∧ (s.on EP_CFG_EN k = true) ∧ (s.on EP_CFG_DIR k = false) ∧ (s.on EP_STAT_HALT k = false) ∧ (s.on EP_STAT_ARMED k = true) ∧ (Tab.get s.usb.moved k 0 = 0) ∧ (data.length = Tab.get s.usb.armLen k 0)) ∧
    (∃ (k : Fin 16), ∃ (isIn : Bool), ∃ (data : List Byte), ∃ (s : State), (s.fnReached = true) ∧ (k ≠ 0) ∧ (s.on EP_CFG_EN k = true) ∧ (s.on EP_CFG_DIR k = isIn) ∧ (s.on EP_STAT_HALT k = false) ∧ (s.on EP_STAT_ARMED k = false)) ∧
    (∃ (b : BitVec 64), ∃ (rt : Nat), ∃ (rq : Nat), ∃ (v : Nat), ∃ (ix : Nat), ∃ (s : State), (s.fnReached = true) ∧ (setupFields (leBytes 8 b.toNat) = (rt, rq, v, ix)) ∧ (¬ (rt = 0 ∧ rq = 5)) ∧ (rt ≠ 2) ∧ (s.on EP_STAT_ARMED 0 = false)) ∧
    (∃ (o : Fin 4096), ∃ (w : Word), ∃ (s : State), (s.memBusy (4 * o) = false)) ∧
    (∃ (o : Fin 4096), ∃ (w : Word), ∃ (s : State), (s.memBusy (4 * o) = true)) :=
  ⟨⟨15, 0xA0400401, State.reset, ((State.reset.writeFields false [EP_CFG_DIR, EP_CFG_MPS, EP_CFG_BUFOFS, EP_CFG_BUFLEN] 15 0 0xA0400401).wr EP_CFG_XTYPE 2 15), by and_intros <;> decide +kernel⟩,
   ⟨15, 0xA4000401, State.reset, ((State.reset.writeFields false [EP_CFG_DIR, EP_CFG_MPS, EP_CFG_BUFOFS, EP_CFG_BUFLEN] 15 0 0xA4000401).wr EP_CFG_XTYPE 2 15), by and_intros <;> decide +kernel⟩,
   ⟨15, 0, State.reset, by decide +kernel⟩,
   ⟨15, 0, ((State.reset.wr EP_CFG_EN 1 15).wr EP_STAT_ARMED 1 15), by and_intros <;> decide +kernel⟩,
   ⟨15, 65, (State.reset.wr EP_CFG_EN 1 15), by and_intros <;> decide +kernel⟩,
   ⟨15, 0, (State.reset.wr EP_CFG_EN 1 15), by and_intros <;> decide +kernel⟩,
   ⟨15, (State.reset.wr EP_STAT_ARMED 1 15), by decide +kernel⟩,
   ⟨15, [], ((((((State.reset.wr EP_CFG_EN 1 15).wr EP_CFG_DIR 1 15).wr EP_STAT_ARMED 1 15).wr USB_CTRL_FNEN 1).wr USB_STAT_USTATE 4)), by and_intros <;> decide +kernel⟩,
   ⟨15, [], (((((State.reset.wr EP_CFG_EN 1 15).wr EP_STAT_ARMED 1 15).wr USB_CTRL_FNEN 1).wr USB_STAT_USTATE 4)), by and_intros <;> decide +kernel⟩,
   ⟨15, false, [], ((((State.reset.wr EP_CFG_EN 1 15).wr USB_CTRL_FNEN 1).wr USB_STAT_USTATE 4)), by and_intros <;> decide +kernel⟩,
   ⟨0x80, 0x80, 0, 0, 0, ((State.reset.wr USB_CTRL_FNEN 1).wr USB_STAT_USTATE 4), by and_intros <;> decide +kernel⟩,
   ⟨4095, 0, State.reset, by decide +kernel⟩,
   ⟨15, 0, ((State.reset.wr EP_STAT_ARMED 1 15).wr EP_CFG_BUFLEN 1 15), by decide +kernel⟩⟩

theorem witness_UsbProxyNear :
    (∃ (n : Fin 4), ∃ (s : State), (s.portMode (n + 1) = 1) ∧ (2 ≤ s.rd USB_STAT_USTATE) ∧ (s.rd USB_STAT_USTATE ≤ 4)) ∧
    (∃ (n : Fin 4), ∃ (ep : Fin 16), ∃ (pid : UsbPid), ∃ (xt : Fin 4), ∃ (data : List Byte), ∃ (s : State), (s.splitOk (n + 1) = true) ∧ (s.proxyRuns (n + 1) = true) ∧ (s.proxyTakes (n + 1) = true) ∧ (s.ttOk (n + 1) = false) ∧ (xt = 0 ∨ xt = 2) ∧ (((s.near (n + 1)).pend.filter (fun x => !s.asInterrupt (n + 1) x.xt)).length < 2)) ∧
    (∃ (n : Fin 4), ∃ (ep : Fin 16), ∃ (pid : UsbPid), ∃ (xt : Fin 4), ∃ (data : List Byte), ∃ (s : State), (s.splitOk (n + 1) = true) ∧ (s.proxyRuns (n + 1) = true) ∧ (s.ttOk (n + 1) = false) ∧ (xt = 0 ∨ xt = 2) ∧ (¬ ((s.near (n + 1)).pend.filter (fun x => !s.asInterrupt (n + 1) x.xt)).length < 2)) ∧
    (∃ (n : Fin 4), ∃ (ep : Fin 16), ∃ (pid : UsbPid), ∃ (xt : Fin 4), ∃ (x : ProxyXfer), ∃ (s : State), (s.splitOk (n + 1) = true) ∧ (s.proxyRuns (n + 1) = true) ∧ (s.ttOk (n + 1) = false) ∧ (xt = 0 ∨ xt = 2) ∧ ((s.near (n + 1)).pend.find? (fun x => x.ep == ep.val && x.pid == pid) = some x)) ∧
    (∃ (e : Fin 128), ∃ (raw : List Byte), ∃ (n : Nat), ∃ (m : ProxyMsg), ∃ (x : ProxyXfer), ∃ (s : State), ∃ (s1 : State), ∃ (u : State), (s.takeMessage e tyUsb [4] (fun s => s.proxyBad e) (s.goodProxy e) = (s1, some raw)) ∧ (m = parseProxy raw) ∧ (u = s1.when (s.param e 0 1 = 0) (fun t => t.arm (.proxy (t.proxyPort e)) 350000000)) ∧ (n = u.proxyPort e) ∧ (¬ diffEpoch m.epoch (u.near n).epoch < 0) ∧ ((u.near n).pend.find? (fun x => x.tag == m.tag && x.result.isNone) = some x) ∧ (u.asInterrupt n x.xt = false)) ∧
    (∃ (n : Fin 4), ∃ (tag : Byte), ∃ (e : Nat), ∃ (x : ProxyXfer), ∃ (s : State), (s.portEntry (n + 1) = some e) ∧ ((s.near (n + 1)).pend.find? (fun x => x.tag == tag.toNat && x.result.isNone) = some x) ∧ (s.svcRuns e = true) ∧ (s.due (.xfer (n + 1) tag.toNat) = true) ∧ (¬ x.tries < s.proxyRetry e)) ∧
    (∃ (n : Fin 4), ∃ (tag : Byte), ∃ (e : Nat), ∃ (x : ProxyXfer), ∃ (s : State), (s.portEntry (n + 1) = some e) ∧ ((s.near (n + 1)).pend.find? (fun x => x.tag == tag.toNat && x.result.isNone) = some x) ∧ (s.svcRuns e = true) ∧ (s.due (.xfer (n + 1) tag.toNat) = true) ∧ (x.tries < s.proxyRetry e)) ∧
    (∃ (e : Fin 128), ∃ (raw : List Byte), ∃ (n : Nat), ∃ (m : ProxyMsg), ∃ (s : State), ∃ (s1 : State), ∃ (u : State), (s.takeMessage e tyUsb [5] (fun s => s.proxyBad e) (s.goodProxy e) = (s1, some raw)) ∧ (m = parseProxy raw) ∧ (u = s1.when (s.param e 0 1 = 0) (fun t => t.arm (.proxy (t.proxyPort e)) 350000000)) ∧ (n = u.proxyPort e) ∧ (¬ diffEpoch m.epoch (u.near n).epoch < 0) ∧ ((u.near n).perTags.contains (m.ep, m.tag) = false) ∧ (m.code = 3) ∧ ((Tab.get (u.near n).reports m.ep []).length < 4) ∧ (u.proxyVer e < 2)) ∧
    (∃ (e : Fin 128), ∃ (raw : List Byte), ∃ (n : Nat), ∃ (m : ProxyMsg), ∃ (s : State), ∃ (s1 : State), ∃ (u : State), (s.takeMessage e tyUsb [6] (fun s => s.proxyBad e) (s.goodProxy e) = (s1, some raw)) ∧ (m = parseProxy raw) ∧ (u = s1.when (s.param e 0 1 = 0) (fun t => t.arm (.proxy (t.proxyPort e)) 350000000)) ∧ (n = u.proxyPort e) ∧ (¬ diffEpoch m.epoch (u.near n).epoch < 0) ∧ ((u.near n).cmd = some 1) ∧ (m.code = 0) ∧ ((ofBe m.body).testBit 3 = true)) ∧
    (∃ (n : Fin 4), ∃ (e : Nat), ∃ (s : State), ((s.near (n + 1)).cmd = some 1) ∧ (s.portEntry (n + 1) = some e) ∧ (s.svcRuns e = true) ∧ (s.due (.portcmd (n + 1)) = true)) ∧
    (∃ (e : Fin 128), ∃ (raw : List Byte), ∃ (n : Nat), ∃ (m : ProxyMsg), ∃ (s : State), ∃ (s1 : State), ∃ (u : State), (s.takeMessage e tyUsb [1] (fun s => s.proxyBad e) (s.goodProxy e) = (s1, some raw)) ∧ (m = parseProxy raw) ∧ (u = s1.when (s.param e 0 1 = 0) (fun t => t.arm (.proxy (t.proxyPort e)) 350000000)) ∧ (n = u.proxyPort e) ∧ ((ofBe m.body).testBit 0 = true) ∧ (u.on USB_STAT_HS = true) ∧ ((ofBe m.body).testBit 2 = u.on USB_PORT_OC (n - 1)) ∧ (u.on USB_PORT_CONN (n - 1) = false)) ∧
    (∃ (n : Fin 4), ∃ (e : Nat), ∃ (s : State), (s.portMode (n + 1) = 1) ∧ (s.on USB_PORT_CONN n = true) ∧ (s.due (.proxy (n + 1)) = true) ∧ (((s.nearGone (n + 1)).sat USB_CNT_COUNT 3).portEntry (n + 1) = some e)) ∧
    (∃ (e : Fin 128), ∃ (raw : List Byte), ∃ (n : Nat), ∃ (m : ProxyMsg), ∃ (s : State), ∃ (s1 : State), ∃ (u : State), (s.takeMessage e tyUsb [8] (fun s => s.proxyBad e) (s.goodProxy e) = (s1, some raw)) ∧ (m = parseProxy raw) ∧ (u = s1.when (s.param e 0 1 = 0) (fun t => t.arm (.proxy (t.proxyPort e)) 350000000)) ∧ (n = u.proxyPort e) ∧ (u.on USB_PORT_SUSP (n - 1) = true) ∧ ((u.near n).cmd = none)) :=
  ⟨⟨3, ((State.reset.wr USB_PORT_MODE 1 3).wr USB_STAT_USTATE 4), by and_intros <;> decide +kernel⟩,
   ⟨0, 0, .setup, 0, [], (((((Tests.params (Tests.entry 2) [0, 1]).wr USB_PORT_MODE 1 0).wr USB_PORT_CONN 1 0).wr USB_PORT_ENA 1 0).wr USB_STAT_HS 1), by and_intros <;> decide +kernel⟩,
   ⟨0, 0, .setup, 0, [], ((((((Tests.params (Tests.entry 2) [0, 1]).wr USB_PORT_MODE 1 0).wr USB_PORT_CONN 1 0).wr USB_PORT_ENA 1 0).wr USB_STAT_HS 1).setNear 1 { pend := [{ tag := 0, ep := 0, pid := .setup, xt := 0, data := [] }, { tag := 1, ep := 0, pid := .setup, xt := 0, data := [] }] }), by and_intros <;> decide +kernel⟩,
   ⟨0, 0, .setup, 0, ({ tag := 0, ep := 0, pid := .setup, xt := 0, data := [], result := some (0, []) }), ((((((Tests.params (Tests.entry 2) [0, 1]).wr USB_PORT_MODE 1 0).wr USB_PORT_CONN 1 0).wr USB_PORT_ENA 1 0).wr USB_STAT_HS 1).setNear 1 { pend := [{ tag := 0, ep := 0, pid := .setup, xt := 0, data := [], result := some (0, []) }] }), by and_intros <;> decide +kernel⟩,
   ⟨1, ([4, 0, 0, 0, 0, 0, 0, 0]), 1, (parseProxy [4, 0, 0, 0, 0, 0, 0, 0]), ({ tag := 0, ep := 0, pid := .setup, xt := 0, data := [] }), ((Tests.params (Tests.entryMsg 2 [4, 0, 0, 0, 0, 0, 0, 0]) [0, 1]).setNear 1 { pend := [{ tag := 0, ep := 0, pid := .setup, xt := 0, data := [] }] }), ((Tests.params (Tests.entryMsg 2 []) [0, 1]).setNear 1 { pend := [{ tag := 0, ep := 0, pid := .setup, xt := 0, data := [] }] }), ((((Tests.params (Tests.entryMsg 2 []) [0, 1]).setNear 1 { pend := [{ tag := 0, ep := 0, pid := .setup, xt := 0, data := [] }] } : State)).arm (.proxy 1) 350000000), by and_intros <;> decide +kernel⟩,
   ⟨0, 0, 1, ({ tag := 0, ep := 0, pid := .setup, xt := 0, data := [] }), ({ (Tests.params (Tests.entry 2) [0, 1]).setNear 1 { pend := [{ tag := 0, ep := 0, pid := .setup, xt := 0, data := [] }] } with timers := [(.xfer 1 0, 0)] }), by and_intros <;> decide +kernel⟩,
   ⟨0, 0, 1, ({ tag := 0, ep := 0, pid := .setup, xt := 0, data := [] }), ({ (Tests.params (Tests.entry 2) [0, 1, 0, 0, 0, 0, 0, 3]).setNear 1 { pend := [{ tag := 0, ep := 0, pid := .setup, xt := 0, data := [] }] } with timers := [(.xfer 1 0, 0)] }), by and_intros <;> decide +kernel⟩,
   ⟨1, ([5, 1, 0, 3, 0, 0, 0, 0]), 1, (parseProxy [5, 1, 0, 3, 0, 0, 0, 0]), ((Tests.params (Tests.entryMsg 2 [5, 1, 0, 3, 0, 0, 0, 0]) [0, 1])), ((Tests.params (Tests.entryMsg 2 []) [0, 1])), ((((Tests.params (Tests.entryMsg 2 []) [0, 1]) : State)).arm (.proxy 1) 350000000), by and_intros <;> decide +kernel⟩,
   ⟨1, ([6, 0, 0, 0, 0, 4, 0, 0, 0, 0, 0, 8]), 1, (parseProxy [6, 0, 0, 0, 0, 4, 0, 0, 0, 0, 0, 8]), ((Tests.params (Tests.entryMsg 2 [6, 0, 0, 0, 0, 4, 0, 0, 0, 0, 0, 8]) [0, 1]).setNear 1 { cmd := some 1 }), ((Tests.params (Tests.entryMsg 2 []) [0, 1]).setNear 1 { cmd := some 1 }), ((((Tests.params (Tests.entryMsg 2 []) [0, 1]).setNear 1 { cmd := some 1 } : State)).arm (.proxy 1) 350000000), by and_intros <;> decide +kernel⟩,
   ⟨0, 1, ({ (Tests.params (Tests.entry 2) [0, 1]).setNear 1 { cmd := some 1 } with timers := [(.portcmd 1, 0)] }), by and_intros <;> decide +kernel⟩,
   ⟨1, ([1, 0, 0, 0, 0, 4, 0, 0, 0, 0, 0, 1]), 1, (parseProxy [1, 0, 0, 0, 0, 4, 0, 0, 0, 0, 0, 1]), ((Tests.params (Tests.entryMsg 2 [1, 0, 0, 0, 0, 4, 0, 0, 0, 0, 0, 1]) [0, 1]).wr USB_STAT_HS 1), ((Tests.params (Tests.entryMsg 2 []) [0, 1]).wr USB_STAT_HS 1), ((((Tests.params (Tests.entryMsg 2 []) [0, 1]).wr USB_STAT_HS 1 : State)).arm (.proxy 1) 350000000), by and_intros <;> decide +kernel⟩,
   ⟨0, 1, ({ ((Tests.params (Tests.entry 2) [0, 1]).wr USB_PORT_MODE 1 0).wr USB_PORT_CONN 1 0 with timers := [(.proxy 1, 0)] }), by and_intros <;> decide +kernel⟩,
   ⟨1, ([8, 0, 0, 0, 0, 0, 0, 0]), 1, (parseProxy [8, 0, 0, 0, 0, 0, 0, 0]), ((Tests.params (Tests.entryMsg 2 [8, 0, 0, 0, 0, 0, 0, 0]) [0, 1]).wr TEN_SVC1_RXSLOT 9 1 |>.wr CTX2_VER 2 9 |>.wr USB_PORT_SUSP 1 0), ((Tests.params (Tests.entryMsg 2 []) [0, 1]).wr TEN_SVC1_RXSLOT 9 1 |>.wr CTX2_VER 2 9 |>.wr USB_PORT_SUSP 1 0), ((((Tests.params (Tests.entryMsg 2 []) [0, 1]).wr TEN_SVC1_RXSLOT 9 1 |>.wr CTX2_VER 2 9 |>.wr USB_PORT_SUSP 1 0 : State)).arm (.proxy 1) 350000000), by and_intros <;> decide +kernel⟩⟩

theorem witness_UsbProxyFar :
    (∃ (e : Fin 128), ∃ (raw : List Byte), ∃ (n : Nat), ∃ (m : ProxyMsg), ∃ (pid : UsbPid), ∃ (s : State), ∃ (s1 : State), ∃ (u : State), (s.takeMessage e tyUsb [3] (fun s => s.proxyBad e) (s.goodProxy e) = (s1, some raw)) ∧ (s.param e 0 1 ≠ 0) ∧ (m = parseProxy raw) ∧ (n = s1.proxyPort e) ∧ (¬ diffEpoch m.epoch (s1.far n).epoch < 0) ∧ (u = s1.farEpoch n m.epoch) ∧ (pidOf m.code = some pid) ∧ (Tab.get (u.far n).last (epDir m.ep m.isIn) none = none) ∧ ((u.far n).run = []) ∧ (u.on USB_PORT_CONN (n - 1) = true)) ∧
    (∃ (n : Fin 4), ∃ (e : Nat), ∃ (x : ProxyXfer), ∃ (l : List ProxyXfer), ∃ (s : State), (s.portEntry (n + 1) = some e) ∧ ((s.far (n + 1)).run = x :: l) ∧ (s.svcRuns e = true) ∧ (s.portMode (n + 1) ≠ 0) ∧ (x.xt = 2) ∧ (x.pid = .out)) ∧
    (∃ (n : Fin 4), ∃ (s : State), (s.portMode (n + 1) = 2) ∧ (s.on USB_PORT_ENA n = true) ∧ (s.on USB_PORT_SUSP n = false)) ∧
    (∃ (n : Fin 4), ∃ (ep : Fin 16), ∃ (d : List Byte), ∃ (e : Nat), ∃ (s : State), ∃ (s0 : State), (s.portEntry (n + 1) = some e) ∧ (s.svcTakes e = true) ∧ (s.portMode (n + 1) = 2) ∧ (s.on USB_PORT_ENA n = true) ∧ (s.on USB_PORT_SUSP n = false) ∧ (s.pollDue (n + 1) ep = true) ∧ (s0 = s.setFar (n + 1) { s.far (n + 1) with polled := Tab.put (s.far (n + 1)).polled ep (some (s.far (n + 1)).frame) none }) ∧ ((Tab.get (s.far (n + 1)).queue ep []).length < 4)) ∧
    (∃ (n : Fin 4), ∃ (ep : Fin 16), ∃ (r : DeviceReply), ∃ (e : Nat), ∃ (s : State), (s.portEntry (n + 1) = some e) ∧ (s.svcTakes e = true) ∧ (s.portMode (n + 1) = 2) ∧ (s.on USB_PORT_ENA n = true) ∧ (s.on USB_PORT_SUSP n = false) ∧ (s.pollDue (n + 1) ep = true) ∧ (¬ (Tab.get (s.far (n + 1)).queue ep []).length < 4)) ∧
    (∃ (e : Fin 128), ∃ (raw : List Byte), ∃ (n : Nat), ∃ (m : ProxyMsg), ∃ (s : State), ∃ (s1 : State), ∃ (u : State), (s.takeMessage e tyUsb [7] (fun s => s.proxyBad e) (s.goodProxy e) = (s1, some raw)) ∧ (s.param e 0 1 ≠ 0) ∧ (m = parseProxy raw) ∧ (n = s1.proxyPort e) ∧ (¬ diffEpoch m.epoch (s1.far n).epoch < 0) ∧ (u = s1.farEpoch n m.epoch) ∧ (u.proxyVer e ≥ 2)) ∧
    (∃ (n : Fin 4), ∃ (ep : Fin 16), ∃ (tag : Byte), ∃ (e : Nat), ∃ (r : ProxyReport), ∃ (s : State), (s.portEntry (n + 1) = some e) ∧ ((Tab.get (s.far (n + 1)).queue ep []).find? (fun r => r.tag == tag.toNat) = some r) ∧ (s.svcRuns e = true) ∧ (s.due (.periodic (n + 1) ep tag.toNat) = true) ∧ (¬ r.tries < s.proxyRetry e)) ∧
    (∃ (e : Fin 128), ∃ (raw : List Byte), ∃ (n : Nat), ∃ (m : ProxyMsg), ∃ (s : State), ∃ (s1 : State), ∃ (u : State), (s.takeMessage e tyUsb [2] (fun s => s.proxyBad e) (s.goodProxy e) = (s1, some raw)) ∧ (s.param e 0 1 ≠ 0) ∧ (m = parseProxy raw) ∧ (n = s1.proxyPort e) ∧ (¬ diffEpoch m.epoch (s1.far n).epoch < 0) ∧ (u = s1.farEpoch n m.epoch) ∧ (m.code = 4)) ∧
    (∃ (e : Fin 128), ∃ (raw : List Byte), ∃ (n : Nat), ∃ (m : ProxyMsg), ∃ (s : State), ∃ (s1 : State), ∃ (u : State), (s.takeMessage e tyUsb [2] (fun s => s.proxyBad e) (s.goodProxy e) = (s1, some raw)) ∧ (s.param e 0 1 ≠ 0) ∧ (m = parseProxy raw) ∧ (n = s1.proxyPort e) ∧ (¬ diffEpoch m.epoch (s1.far n).epoch < 0) ∧ (u = s1.farEpoch n m.epoch) ∧ (m.code = 6)) ∧
    (∃ (n : Fin 4), ∃ (e : Nat), ∃ (s : State), (s.portMode (n + 1) = 2) ∧ (s.portEntry (n + 1) = some e)) ∧
    (∃ (n : Fin 16), ∃ (m : Fin 2), ∃ (e : Fin 128), ∃ (s : State), (s.on ENG_MBX_BUSY n m = false) ∧ (s.rd ENG_STAT_STATE n = engRun) ∧ (Tab.sorted s.regs = true)) ∧
    (∃ (n : Fin 16), ∃ (m : Fin 2), ∃ (e : Fin 128), ∃ (s : State), (s.on ENG_MBX_BUSY n m = false) ∧ (s.rd ENG_STAT_STATE n = engRun) ∧ (Tab.sorted s.regs = true)) :=
  ⟨⟨1, ([3, 0, 0, 0x2D, 0, 8, 0, 0, 0, 0, 0, 0, 0, 0, 0, 0]), 1, (parseProxy [3, 0, 0, 0x2D, 0, 8, 0, 0, 0, 0, 0, 0, 0, 0, 0, 0]), .setup, ((Tests.params (Tests.entryMsg 2 [3, 0, 0, 0x2D, 0, 8, 0, 0, 0, 0, 0, 0, 0, 0, 0, 0]) [1, 1]).wr USB_PORT_CONN 1 0), ((Tests.params (Tests.entryMsg 2 []) [1, 1]).wr USB_PORT_CONN 1 0), ((Tests.params (Tests.entryMsg 2 []) [1, 1]).wr USB_PORT_CONN 1 0), by and_intros <;> decide +kernel⟩,
   ⟨0, 1, ({ tag := 0, ep := 1, pid := .out, xt := 2, data := [] }), [], (((Tests.params (Tests.entry 2) [1, 1]).wr USB_PORT_MODE 2 0).setFar 1 { run := [{ tag := 0, ep := 1, pid := .out, xt := 2, data := [] }] }), by and_intros <;> decide +kernel⟩,
   ⟨0, ((State.reset.wr USB_PORT_MODE 2 0).wr USB_PORT_ENA 1 0), by and_intros <;> decide +kernel⟩,
   ⟨0, 1, [], 1, ((((Tests.params (Tests.entry 2) [1, 1]).wr USB_PORT_MODE 2 0).wr USB_PORT_ENA 1 0).setFar 1 { cfg := 1, descs := [(1, [9, 2, 25, 0, 1, 1, 0, 0, 0, 9, 4, 0, 0, 1, 0, 0, 0, 0, 7, 5, 0x81, 3, 8, 0, 1])] }), ((((Tests.params (Tests.entry 2) [1, 1]).wr USB_PORT_MODE 2 0).wr USB_PORT_ENA 1 0).setFar 1 { cfg := 1, descs := [(1, [9, 2, 25, 0, 1, 1, 0, 0, 0, 9, 4, 0, 0, 1, 0, 0, 0, 0, 7, 5, 0x81, 3, 8, 0, 1])], polled := [(1, some 0)] }), by and_intros <;> decide +kernel⟩,
   ⟨0, 1, .ack, 1, ((((Tests.params (Tests.entry 2) [1, 1]).wr USB_PORT_MODE 2 0).wr USB_PORT_ENA 1 0).setFar 1 { cfg := 1, descs := [(1, [9, 2, 25, 0, 1, 1, 0, 0, 0, 9, 4, 0, 0, 1, 0, 0, 0, 0, 7, 5, 0x81, 3, 8, 0, 1])], queue := [(1, [{ tag := 0, stall := false, data := [] }, { tag := 1, stall := false, data := [] }, { tag := 2, stall := false, data := [] }, { tag := 3, stall := false, data := [] }])] }), by and_intros <;> decide +kernel⟩,
   ⟨1, ([7, 0, 0, 0, 0, 0, 0, 0]), 1, (parseProxy [7, 0, 0, 0, 0, 0, 0, 0]), ((Tests.params (Tests.entryMsg 2 [7, 0, 0, 0, 0, 0, 0, 0]) [1, 1]).wr TEN_SVC1_RXSLOT 9 1 |>.wr CTX2_VER 2 9), ((Tests.params (Tests.entryMsg 2 []) [1, 1]).wr TEN_SVC1_RXSLOT 9 1 |>.wr CTX2_VER 2 9), ((Tests.params (Tests.entryMsg 2 []) [1, 1]).wr TEN_SVC1_RXSLOT 9 1 |>.wr CTX2_VER 2 9), by and_intros <;> decide +kernel⟩,
   ⟨0, 1, 0, 1, ({ tag := 0, stall := false, data := [] }), ({ (Tests.params (Tests.entry 2) [1, 1]).setFar 1 { queue := [(1, [{ tag := 0, stall := false, data := [] }])] } with timers := [(.periodic 1 1 0, 0)] }), by and_intros <;> decide +kernel⟩,
   ⟨1, ([2, 0, 0, 4, 0, 0, 0, 0]), 1, (parseProxy [2, 0, 0, 4, 0, 0, 0, 0]), ((Tests.params (Tests.entryMsg 2 [2, 0, 0, 4, 0, 0, 0, 0]) [1, 1])), ((Tests.params (Tests.entryMsg 2 []) [1, 1])), ((Tests.params (Tests.entryMsg 2 []) [1, 1])), by and_intros <;> decide +kernel⟩,
   ⟨1, ([2, 0, 0, 6, 0, 0, 0, 0]), 1, (parseProxy [2, 0, 0, 6, 0, 0, 0, 0]), ((Tests.params (Tests.entryMsg 2 [2, 0, 0, 6, 0, 0, 0, 0]) [1, 1])), ((Tests.params (Tests.entryMsg 2 []) [1, 1])), ((Tests.params (Tests.entryMsg 2 []) [1, 1])), by and_intros <;> decide +kernel⟩,
   ⟨0, 1, ((Tests.params (Tests.entry 2) [1, 1]).wr USB_PORT_MODE 2 0), by and_intros <;> decide +kernel⟩,
   ⟨2, 0, 77, (State.reset.wr ENG_STAT_STATE engRun 2), by and_intros <;> decide +kernel⟩,
   ⟨2, 0, 77, (State.reset.wr ENG_STAT_STATE engRun 2), by and_intros <;> decide +kernel⟩⟩

set_option maxRecDepth 100000 in
theorem witness_BlockTunnels :
    (∃ (r : Fin 128), ∃ (d : Desc), ∃ (s : State), (s.rd RNG_RSTAT_STATE r = ringRunning) ∧ (s.rd RNG_RCFG_TYPE r = ringSvc) ∧ (s.ringReady r = true) ∧ (s.nextDesc r = some d) ∧ (d.le 8 1 > 3)) ∧
    (∃ (r : Fin 128), ∃ (d : Desc), ∃ (t : Nat), ∃ (s : State), (s.rd RNG_RSTAT_STATE r = ringRunning) ∧ (s.rd RNG_RCFG_TYPE r = ringSvc) ∧ (s.ringReady r = true) ∧ (s.nextDesc r = some d) ∧ (d.le 8 1 = 3) ∧ (d.le 9 1 = 0) ∧ (d.zero 10 11 = true) ∧ (d.zero 17 23 = true) ∧ (d.zero 28 29 = true) ∧ (d.le 31 1 % 64 = 0) ∧ (s.on TEN_SVC0_EN (s.rd RNG_RCFG_BIND r) = true) ∧ (s.rd TEN_SVC0_STATE (s.rd RNG_RCFG_BIND r) = svcActive) ∧ (s.rd ENG_STAT_STATE (s.svcEngine (s.rd RNG_RCFG_BIND r)) = engRun) ∧ (s.blkTarget (s.rd RNG_RCFG_BIND r) = false) ∧ (s.quiescing (s.rd RNG_RCFG_BIND r) = false) ∧ (s.rd TEN_SVC0_TYPE (s.rd RNG_RCFG_BIND r) = tyBlock) ∧ (s.freeTag (s.rd RNG_RCFG_BIND r) = some t)) ∧
    (∃ (r : Fin 128), ∃ (err : Bool), ∃ (x : Desc), ∃ (d : BlkDone), ∃ (l : List BlkDone), ∃ (s : State), (s.rd RNG_RCFG_TYPE r = ringSvc) ∧ (Tab.get s.sto.done r [] = d :: l) ∧ ((s.fetched r).find? (fun x => x.idx == d.idx && x.runs) = some x) ∧ (d.size = 0)) ∧
    (∃ (e : Fin 128), ∃ (m : BlkMsg), ∃ (s : State), ∃ (s1 : State), (s.takeBlk e 1 = (s1, some m)) ∧ (s.blkTarget e = true) ∧ ((s1.blkCmds e).find? (fun c => c.tag == m.tag) = none) ∧ ((Tab.get s1.sto.held e []).find? (fun h => h.1 == m.tag && h.2.1 == m.serial) = none) ∧ (s1.blkCheck e m = none) ∧ (m.op = 1)) ∧
    (∃ (e : Fin 128), ∃ (m : BlkMsg), ∃ (c : BlkCmd), ∃ (s : State), ∃ (s1 : State), (s.takeBlk e 1 = (s1, some m)) ∧ (s.blkTarget e = true) ∧ ((s1.blkCmds e).find? (fun c => c.tag == m.tag) = some c) ∧ (c.serial = m.serial)) ∧
    (∃ (e : Fin 128), ∃ (tag : Fin 64), ∃ (c : BlkCmd), ∃ (s : State), ((s.blkCmds e).find? (fun c => c.tag == tag.val && !c.started && c.status.isNone) = some c) ∧ (s.svcRuns e = true) ∧ (s.fullPower = true) ∧ (s.restricted = false) ∧ (s.blkReady e c = true) ∧ (s.beState (s.blkMedium e) = 2) ∧ (c.op = 1)) ∧
    (∃ (b : Nat), ∃ (n : Nat), ∃ (s : State), (n ≠ 0) ∧ (n ≤ 32)) ∧
    (∃ (b : Nat), ∃ (n : Nat), ∃ (s : State), (n ≠ 0) ∧ (s.sto.mdts = 0 ∨ n ≤ s.sto.mdts)) ∧
    (∃ (e : Fin 128), ∃ (m : BlkMsg), ∃ (c : BlkCmd), ∃ (s : State), ∃ (s1 : State), (s.takeBlk e 2 = (s1, some m)) ∧ (s1.blkTarget e = true) ∧ ((s1.blkCmds e).find? (fun c => c.tag == m.tag && c.serial == m.serial && c.op == 2) = some c) ∧ ((State.staged c).isEmpty = false)) ∧
    (∃ (e : Fin 128), ∃ (m : BlkMsg), ∃ (r : BlkReq), ∃ (bs : List (List Byte × Nat)), ∃ (s : State), ∃ (s1 : State), (s.takeBlk e 2 = (s1, some m)) ∧ (s1.blkTarget e = false) ∧ ((s1.reqs e).find? (fun r => r.tag == m.tag && r.serial == m.serial && r.op == 1) = some r) ∧ (bs = (blocksOf (m.data.length / 4096) m.data).zipIdx.filter (fun x => r.first ≤ m.blk + x.2 && m.blk + x.2 < r.first + r.cnt))) ∧
    (∃ (e : Fin 128), ∃ (tag : Fin 64), ∃ (c : BlkCmd), ∃ (st : Nat), ∃ (s : State), ((s.blkCmds e).find? (fun c => c.tag == tag.val) = some c) ∧ (c.status = some st) ∧ (s.svcRuns e = true)) ∧
    (∃ (e : Fin 128), ∃ (m : BlkMsg), ∃ (r : BlkReq), ∃ (s : State), ∃ (s1 : State), (s.takeBlk e 3 = (s1, some m)) ∧ (s.blkTarget e = false) ∧ ((s1.reqs e).find? (fun r => r.tag == m.tag && r.serial == m.serial) = some r) ∧ (r.op ≠ 1) ∧ (r.op ≠ 2)) ∧
    (∃ (e : Fin 128), ∃ (tag : Fin 64), ∃ (r : BlkReq), ∃ (s : State), ((s.reqs e).find? (fun r => r.tag == tag.val) = some r) ∧ (s.svcRuns e = true) ∧ (s.due (.block e tag) = true) ∧ (r.tries < s.param e 3 1)) ∧
    (∃ (e : Fin 128), ∃ (tag : Fin 64), ∃ (r : BlkReq), ∃ (s : State), ((s.reqs e).find? (fun r => r.tag == tag.val) = some r) ∧ (s.svcRuns e = true) ∧ (s.due (.block e tag) = true) ∧ (¬ r.tries < s.param e 3 1)) ∧
    (∃ (e : Fin 128), ∃ (tag : Fin 64), ∃ (c : BlkCmd), ∃ (s : State), ((s.blkCmds e).find? (fun c => c.tag == tag.val && c.op == 2 && c.status.isNone) = some c) ∧ ((State.staged c).isEmpty = true) ∧ (s.svcRuns e = true) ∧ (s.due (.blockData e tag) = true)) ∧
    (∃ (e : Fin 128), ∃ (tag : Fin 64), ∃ (s : State), (s.due (.quarantine e tag) = true)) ∧
    (∃ (n : Fin 16), ∃ (m : Fin 2), ∃ (e : Fin 128), ∃ (s : State), (s.on ENG_MBX_BUSY n m = false) ∧ (s.rd ENG_STAT_STATE n = engRun) ∧ (Tab.sorted s.regs = true)) ∧
    (∃ (n : Fin 16), ∃ (m : Fin 2), ∃ (e : Fin 128), ∃ (s : State), (s.on ENG_MBX_BUSY n m = false) ∧ (s.rd ENG_STAT_STATE n = engRun) ∧ (Tab.sorted s.regs = true)) :=
  ⟨⟨127, ({ idx := 0, bytes := List.replicate 8 0 ++ [9] ++ List.replicate 23 0 }), (Tests.ring 127 ringSvc { idx := 0, bytes := List.replicate 8 0 ++ [9] ++ List.replicate 23 0 }), by and_intros <;> decide +kernel⟩,
   ⟨127, ({ idx := 0, bytes := List.replicate 8 0 ++ [3] ++ List.replicate 23 0 }), 0, (((Tests.ring 127 ringSvc { idx := 0, bytes := List.replicate 8 0 ++ [3] ++ List.replicate 23 0 }).wr TEN_SVC0_EN 1 0).wr TEN_SVC0_TYPE tyBlock 0 |>.wr TEN_SVC0_STATE svcActive 0 |>.wr ENG_STAT_STATE engRun 0), by and_intros <;> decide +kernel⟩,
   ⟨127, false, ({ idx := 0, bytes := List.replicate 32 0, started := true }), ({ idx := 0, count := 0, status := 10 }), [], ({ Tests.ring 127 ringSvc { idx := 0, bytes := List.replicate 32 0, started := true } with sto := { State.reset.sto with done := [(127, [{ idx := 0, count := 0, status := 10 }])] } }), by and_intros <;> decide +kernel⟩,
   ⟨1, (parseBlk (blkHeader 1 1 5 1 0 0 0 false)), ((Tests.inbox (Tests.params (Tests.entry 3) [1, 0, 0, 0, 0, 0, 0, 0, 0, 8, 0, 0, 0, 0, 1, 0]) (blkHeader 1 1 5 1 0 0 0 false)).wr STO_STAT_NVSTATE 2), ((((Tests.inbox (Tests.params (Tests.entry 3) [1, 0, 0, 0, 0, 0, 0, 0, 0, 8, 0, 0, 0, 0, 1, 0]) (blkHeader 1 1 5 1 0 0 0 false)).wr STO_STAT_NVSTATE 2).takeBlk 1 1).1), by and_intros <;> decide +kernel⟩,
   ⟨1, (parseBlk (blkHeader 1 1 5 1 0 0 0 false)), ({ tag := 5, serial := 1 }), ((Tests.inbox (Tests.params (Tests.entry 3) [1, 0, 0, 0, 0, 0, 0, 0, 0, 8, 0, 0, 0, 0, 1, 0]) (blkHeader 1 1 5 1 0 0 0 false)).setCmds 1 [{ tag := 5, serial := 1 }]), ((((Tests.inbox (Tests.params (Tests.entry 3) [1, 0, 0, 0, 0, 0, 0, 0, 0, 8, 0, 0, 0, 0, 1, 0]) (blkHeader 1 1 5 1 0 0 0 false)).setCmds 1 [{ tag := 5, serial := 1 }]).takeBlk 1 1).1), by and_intros <;> decide +kernel⟩,
   ⟨1, 5, ({ tag := 5, serial := 1, op := 1, blk := 0, nblk := 1 }), ((((Tests.params (Tests.entry 3) [1, 0, 0, 0, 0, 0, 0, 0, 0, 8, 0, 0, 0, 0, 1, 0]).wr STO_STAT_NVSTATE 2).wr PWR_STAT_STATE 1).setCmds 1 [{ tag := 5, serial := 1, op := 1, blk := 0, nblk := 1 }]), by and_intros <;> decide +kernel⟩,
   ⟨7, 32, State.reset, by and_intros <;> decide +kernel⟩,
   ⟨7, 32, State.reset, by and_intros <;> decide +kernel⟩,
   ⟨1, (parseBlk (blkHeader 2 1 5 1 0 0 0 false ++ List.replicate 4096 0)), ({ tag := 5, serial := 1, op := 2, blk := 0, nblk := 2, data := [(0, [0])] }), ((Tests.inbox (Tests.params (Tests.entry 3) [1, 0]) (blkHeader 2 1 5 1 0 0 0 false ++ List.replicate 4096 0)).setCmds 1 [{ tag := 5, serial := 1, op := 2, blk := 0, nblk := 2, data := [(0, [0])] }]), ((Tests.params (Tests.entry 3) [1, 0]).setCmds 1 [{ tag := 5, serial := 1, op := 2, blk := 0, nblk := 2, data := [(0, [0])] }]), by and_intros <;> decide +kernel⟩,
   ⟨1, (parseBlk (blkHeader 2 1 5 1 0 0 0 false ++ List.replicate 4096 0)), ({ op := 1, nblk := 1, tag := 5, cnt := 1, serial := 1 }), ((blocksOf 1 ((blkHeader 2 1 5 1 0 0 0 false ++ List.replicate 4096 0).drop 16)).zipIdx), ((Tests.inbox (Tests.params (Tests.entry 3) [0, 0]) (blkHeader 2 1 5 1 0 0 0 false ++ List.replicate 4096 0)).setReqs 1 [{ op := 1, nblk := 1, tag := 5, cnt := 1, serial := 1 }]), ((Tests.params (Tests.entry 3) [0, 0]).setReqs 1 [{ op := 1, nblk := 1, tag := 5, cnt := 1, serial := 1 }]), by and_intros <;> decide +kernel⟩,
   ⟨1, 5, ({ tag := 5, serial := 1, op := 1, blk := 0, nblk := 1, status := some 4 }), 4, ((Tests.params (Tests.entry 3) [1, 0]).setCmds 1 [{ tag := 5, serial := 1, op := 1, blk := 0, nblk := 1, status := some 4 }]), by and_intros <;> decide +kernel⟩,
   ⟨1, (parseBlk (blkHeader 3 3 5 1 0 0 0 false)), ({ ring := 0, idx := 0, op := 3, addr := 0, blk := 0, nblk := 0, tag := 5, first := 0, cnt := 0, serial := 1 }), (Tests.inbox ((Tests.params (Tests.entry 3) [0, 0]).setReqs 1 [{ ring := 0, idx := 0, op := 3, addr := 0, blk := 0, nblk := 0, tag := 5, first := 0, cnt := 0, serial := 1 }]) (blkHeader 3 3 5 1 0 0 0 false)), ((Tests.params (Tests.entry 3) [0, 0]).setReqs 1 [{ ring := 0, idx := 0, op := 3, addr := 0, blk := 0, nblk := 0, tag := 5, first := 0, cnt := 0, serial := 1 }]), by and_intros <;> decide +kernel⟩,
   ⟨1, 5, ({ ring := 0, idx := 0, op := 3, addr := 0, blk := 0, nblk := 0, tag := 5, first := 0, cnt := 0, serial := 1 }), ({ (Tests.params (Tests.entry 3) [0, 0, 0, 7]).setReqs 1 [{ ring := 0, idx := 0, op := 3, addr := 0, blk := 0, nblk := 0, tag := 5, first := 0, cnt := 0, serial := 1 }] with timers := [(.block 1 5, 0)] }), by and_intros <;> decide +kernel⟩,
   ⟨1, 5, ({ ring := 0, idx := 0, op := 3, addr := 0, blk := 0, nblk := 0, tag := 5, first := 0, cnt := 0, serial := 1 }), ({ (Tests.params (Tests.entry 3) [0, 0, 0, 0]).setReqs 1 [{ ring := 0, idx := 0, op := 3, addr := 0, blk := 0, nblk := 0, tag := 5, first := 0, cnt := 0, serial := 1 }] with timers := [(.block 1 5, 0)] }), by and_intros <;> decide +kernel⟩,
   ⟨1, 5, ({ tag := 5, serial := 1, op := 2, blk := 0, nblk := 1 }), ({ (Tests.params (Tests.entry 3) [1, 0]).setCmds 1 [{ tag := 5, serial := 1, op := 2, blk := 0, nblk := 1 }] with timers := [(.blockData 1 5, 0)] }), by and_intros <;> decide +kernel⟩,
   ⟨1, 5, ({ State.reset with timers := [(.quarantine 1 5, 0)] }), by decide +kernel⟩,
   ⟨2, 0, 77, (State.reset.wr ENG_STAT_STATE engRun 2), by and_intros <;> decide +kernel⟩,
   ⟨2, 0, 77, (State.reset.wr ENG_STAT_STATE engRun 2), by and_intros <;> decide +kernel⟩⟩

theorem witness_StorageBackEnds :
    (∃ (w : Word), ∃ (s : State), (s.on STO_CTRL_NVEN = false) ∧ ((s.writeReg 0x1F0000 w.toNat).on STO_CTRL_NVEN = true) ∧ (s.on STO_CTRL_MMCEN = false) ∧ ((s.writeReg 0x1F0000 w.toNat).on STO_CTRL_MMCEN = false) ∧ (((s.writeReg 0x1F0000 w.toNat).setBe 0 1).on STO_CTRL_MMCEN = false)) ∧
    (∃ (cause : Fin 3), ∃ (blocks : BitVec 40), ∃ (mdts : BitVec 16), ∃ (modes : BitVec 6), ∃ (byteCard : Bool), ∃ (wp : Bool), ∃ (s : State), (s.rd STO_STAT_NVSTATE = 1) ∧ (cause = 0)) ∧
    (∃ (m : Fin 2), ∃ (cause : Fin 3), ∃ (blocks : BitVec 40), ∃ (lbaSz : Fin 16), ∃ (mdts : BitVec 16), ∃ (modes : BitVec 6), ∃ (byteCard : Bool), ∃ (wp : Bool), ∃ (s : State), ∃ (s1 : State), (s.beState m = 1) ∧ (cause ≠ 0) ∧ (s1 = s.endInFlight m (fun _ _ => some 7))) ∧
    (∃ (cause : Fin 3), ∃ (blocks : BitVec 40), ∃ (lbaSz : Fin 16), ∃ (mdts : BitVec 16), ∃ (modes : BitVec 6), ∃ (byteCard : Bool), ∃ (wp : Bool), ∃ (mode : Nat), ∃ (s : State), ∃ (s1 : State), (s.beState 1 = 1) ∧ (cause = 0) ∧ (((if s.rd STO_MMC_CFG_MODE < 3 then (List.range 3).drop (s.rd STO_MMC_CFG_MODE) else (List.range 6).drop (s.rd STO_MMC_CFG_MODE)).find? (fun x => modes.getLsbD x)) = some mode) ∧ (s1 = (((((s.wr STO_STAT_MMCSTATE 2).wr STO_STAT_MMCEV 1).wr STO_MMC_CAP_LO_BLOCKS blocks.toNat).wr STO_MMC_CAP_HI_BLOCKS (blocks.toNat / 2 ^ 32)).wr STO_MMC_CAP_HI_MODE mode).wr STO_STAT_WP (bit wp))) ∧
    (∃ (e : Fin 128), ∃ (tag : Fin 64), ∃ (n : Fin 257), ∃ (data : List Byte), ∃ (c : BlkCmd), ∃ (s : State), ((s.blkCmds e).find? (fun c => c.tag == tag.val && c.started && c.status.isNone) = some c) ∧ (c.op = 1)) ∧
    (∃ (e : Fin 128), ∃ (tag : Fin 64), ∃ (n : Fin 257), ∃ (data : List Byte), ∃ (c : BlkCmd), ∃ (s : State), ((s.blkCmds e).find? (fun c => c.tag == tag.val && c.started && c.status.isNone) = some c)) ∧
    (∃ (e : Fin 128), ∃ (tag : Fin 64), ∃ (s : State), ∃ (s1 : State), ((s.blkCmds e).any (fun c => c.tag == tag.val && c.started && c.status.isNone) = true) ∧ (s1 = ((s.endInFlight (s.blkMedium e) (fun i t => if i = e.val && t = tag.val then some 5 else if decide (s.blkMedium e = 0) then some 9 else none)).sat STO_CNT_COUNT 4).sat STO_CNT_COUNT 7) ∧ (s.due (.backend e tag) = true) ∧ (((Tab.get s.sto.resets (s.blkMedium e) []).filter (fun t => s.tmu.elapsed < t + 60000000000 * 2 ^ 32)).length < 2)) ∧
    (∃ (s : State), ((s.endInFlight 0 (fun _ _ => some 7)).on STO_CTRL_NVEN = true) ∧ (s.on STO_CTRL_NVEN = true)) ∧
    (∃ (held : Nat), ∃ (s : State), (s.on STO_STAT_CD = false) ∧ (held ≥ s.rd STO_MMC_CFG_CDDB * 1000000 * 2 ^ 32)) ∧
    (∃ (held : Nat), ∃ (s : State), (s.on STO_STAT_CD = true) ∧ (held ≥ s.rd STO_MMC_CFG_CDDB * 1000000 * 2 ^ 32) ∧ (s.on STO_CTRL_MMCEN = true) ∧ (s.rd STO_STAT_MMCSTATE ≠ 4)) :=
  ⟨⟨0x40000000, State.reset, by and_intros <;> decide +kernel⟩,
   ⟨0, 0, 0, 0, false, false, (State.reset.wr STO_STAT_NVSTATE 1), by and_intros <;> decide +kernel⟩,
   ⟨1, 1, 0, 0, 0, 0, false, false, (State.reset.wr STO_STAT_MMCSTATE 1), ((State.reset.wr STO_STAT_MMCSTATE 1).endInFlight 1 (fun _ _ => some 7)), by and_intros <;> decide +kernel⟩,
   ⟨0, 0x12345, 0, 0, 0x20, false, true, 5, ((State.reset.wr STO_STAT_MMCSTATE 1).wr STO_MMC_CFG_MODE 3), ((((((((State.reset.wr STO_STAT_MMCSTATE 1).wr STO_MMC_CFG_MODE 3).wr STO_STAT_MMCSTATE 2).wr STO_STAT_MMCEV 1).wr STO_MMC_CAP_LO_BLOCKS 0x12345).wr STO_MMC_CAP_HI_BLOCKS 0).wr STO_MMC_CAP_HI_MODE 5).wr STO_STAT_WP 1), by and_intros <;> decide +kernel⟩,
   ⟨1, 5, 1, [], ({ tag := 5, serial := 1, op := 1, blk := 0, nblk := 1, started := true }), ((Tests.params (Tests.entry 3) [1, 0]).setCmds 1 [{ tag := 5, serial := 1, op := 1, blk := 0, nblk := 1, started := true }]), by and_intros <;> decide +kernel⟩,
   ⟨1, 5, 1, [], ({ tag := 5, serial := 1, op := 1, blk := 0, nblk := 1, started := true }), ((Tests.params (Tests.entry 3) [1, 0]).setCmds 1 [{ tag := 5, serial := 1, op := 1, blk := 0, nblk := 1, started := true }]), by decide +kernel⟩,
   ⟨1, 5, ({ (Tests.params (Tests.entry 3) [1, 0]).setCmds 1 [{ tag := 5, serial := 1, op := 1, blk := 0, nblk := 1, started := true }] with timers := [(.backend 1 5, 0)] }), ((((({ (Tests.params (Tests.entry 3) [1, 0]).setCmds 1 [{ tag := 5, serial := 1, op := 1, blk := 0, nblk := 1, started := true }] with timers := [(.backend 1 5, 0)] } : State).endInFlight 0 (fun i t => if i = 1 && t = 5 then some 5 else if decide (0 = 0) then some 9 else none)).sat STO_CNT_COUNT 4).sat STO_CNT_COUNT 7)), by and_intros <;> decide +kernel⟩,
   ⟨(State.reset.wr STO_CTRL_NVEN 1), by and_intros <;> decide +kernel⟩,
   ⟨(2 ^ 80), State.reset, by and_intros <;> decide +kernel⟩,
   ⟨(2 ^ 80), ((State.reset.wr STO_STAT_CD 1).wr STO_CTRL_MMCEN 1), by and_intros <;> decide +kernel⟩⟩

theorem witness_SerialAndIrig :
    (∃ (n : Fin 8), ∃ (st : BitVec 3), ∃ (l : List (BitVec 3)), ∃ (samp : BitVec 16), ∃ (ago : Nat), ∃ (r : SerRec), ∃ (s : State), (s.serHears n = true) ∧ (vote3 st = s.on SER_CTRL_INV n) ∧ (Tab.get s.ser.inFrame n false = true) ∧ (r = s.serJudge n (l.map vote3)) ∧ (r.pe = false) ∧ (r.fe = false) ∧ (r.brk = false)) ∧
    (∃ (n : Fin 8), ∃ (bits : List (BitVec 3)), ∃ (samp : BitVec 16), ∃ (ago : Nat), ∃ (s : State), (vote3 (bits.headD 7) ≠ s.on SER_CTRL_INV n)) ∧
    (∃ (n : Fin 8), ∃ (bits : List (BitVec 3)), ∃ (samp : BitVec 16), ∃ (ago : Nat), ∃ (s : State), (s.serHears n = false)) ∧
    (∃ (n : Fin 8), ∃ (s : State), (s.serHears n = true) ∧ (Tab.get s.ser.inFrame n false = true) ∧ (s.due (.uartGap n) = true)) ∧
    (∃ (n : Fin 8), ∃ (s : State), (s.serHears n = true)) ∧
    (∃ (n : Fin 8), ∃ (w : Word), ∃ (s : State), ((s.writeReg (0x200014 + 0x40 * n) w.toNat).rd SER_RING_OFS n * 64 + (s.writeReg (0x200014 + 0x40 * n) w.toNat).rd SER_RING_LEN n * 64 > 65536)) ∧
    (∃ (n : Fin 8), ∃ (w : Word), ∃ (s : State), ((s.writeReg (0x200014 + 0x40 * n) w.toNat).rd SER_RING_OFS n * 64 + (s.writeReg (0x200014 + 0x40 * n) w.toNat).rd SER_RING_LEN n * 64 ≤ 65536) ∧ (s.on SER_RING_VALID n = false) ∧ ((s.writeReg (0x200014 + 0x40 * n) w.toNat).on SER_RING_VALID n = true)) ∧
    (∃ (n : Fin 8), ∃ (w : Word), ∃ (s : State), ((s.rd SER_RXWR_WR n + 65536 - w.toNat % 65536) % 65536 ≤ s.serCap n)) ∧
    (∃ (n : Fin 8), ∃ (c : Byte × Nat), ∃ (m : List (Byte × Nat)), ∃ (rest : List (List (Byte × Nat))), ∃ (s : State), ∃ (u : State), (s.serQueue n = (c :: m) :: rest) ∧ (s.on SER_CTRL_EN n = true) ∧ (s.on SER_CTRL_MODE n = false) ∧ (s.on SER_STAT_RXACT n = false) ∧ (s.armed (.uartLead n) = false ∨ s.due (.uartLead n) = true) ∧ (s.serPaced n = false) ∧ (u = ((s.setSerQueue n (if m.isEmpty then rest else m :: rest)).wr SER_STAT_TXACT 1 n).wr SER_STAT_DEOUT 0 n)) ∧
    (∃ (n : Fin 8), ∃ (s : State), (s.serQueue n = []) ∧ (s.on SER_CTRL_EN n = true) ∧ (s.armed (.uartLead n) = false ∨ s.due (.uartLead n) = true) ∧ (s.armed (.uartTrail n) = false ∨ s.due (.uartTrail n) = true)) ∧
    (∃ (e : Fin 128), ∃ (n : Nat), ∃ (l : List SerRec), ∃ (used : Nat), ∃ (s : State), (n = s.param e 0 1 % 8) ∧ (s.serTake (s.svcEngine e) n (s.param e 6 2) 4097 (s.rd SER_RXRD_RD n) 0 = (l, true, used)) ∧ (s.svcTakes e = true) ∧ (s.holdsBank (s.svcEngine e) (s.rd SER_RING_BANK n) = true) ∧ (s.rd TEN_SVC0_TYPE e = tySerial) ∧ (s.rd CTX2_VER (s.rd TEN_SVC1_TXSLOT e) = 1)) ∧
    (∃ (e : Fin 128), ∃ (p : Packet), ∃ (s : State), ∃ (s1 : State), (s.svcRuns e = true) ∧ (s.rd TEN_SVC0_TYPE e = tySerial) ∧ (s.takeInbound e = (s1, some p)) ∧ (State.serGood p.payload = true)) ∧
    (∃ (e : Nat), ∃ (q : Nat), ∃ (m : List (Byte × Nat)), ∃ (p : Nat), ∃ (s : State), (Tab.get s.ser.seq e none = some p) ∧ (q < 65536) ∧ (p < 65536)) ∧
    (∃ (e : Fin 128), ∃ (p : Nat), ∃ (s : State), (Tab.get s.ser.seq e none = some p) ∧ ((s.serHeld e).length ≠ 0) ∧ (s.svcRuns e = true) ∧ (s.due (.serialHold e) = true)) ∧
    (∃ (n : Fin 16), ∃ (m : Fin 2), ∃ (e : Fin 128), ∃ (s : State), (s.on ENG_MBX_BUSY n m = false) ∧ (s.rd ENG_STAT_STATE n = engRun) ∧ (Tab.sorted s.regs = true)) ∧
    (∃ (n : Fin 16), ∃ (m : Fin 2), ∃ (e : Fin 128), ∃ (s : State), (s.on ENG_MBX_BUSY n m = false) ∧ (s.rd ENG_STAT_STATE n = engRun) ∧ (Tab.sorted s.regs = true)) ∧
    (∃ (ago : Nat), ∃ (s : State), (s.on IRIGI_STAT_LOS = false) ∧ (s.on IRIGI_CFG_EN = true) ∧ (s.on TMU_IRIG_STAT_VALID = false)) ∧
    (∃ (ago : Nat), ∃ (s : State), (s.on IRIGI_STAT_LOS = false) ∧ (s.on IRIGI_CFG_EN = true) ∧ (s.on TMU_IRIG_STAT_VALID = true)) ∧
    (∃ (ws : List Nat), ∃ (f : List Nat), ∃ (x : IrigFrame), ∃ (s : State), (s.rd IRIGI_STAT_STATE ≠ 0) ∧ (f = (ws.filter (fun w => s.rd IRIGI_CFG_FILT * 10000 * 2 ^ 32 ≤ w)).map s.irigPulse) ∧ (irigDecode f = some x)) ∧
    (∃ (x : IrigFrame), ∃ (s : State), (s.rd IRIGI_STAT_STATE = 1) ∧ (s.ser.irigPrev = some (x.day, x.hour, x.min, x.sec - 1)) ∧ (1 ≤ x.sec) ∧ (Tab.sorted s.regs = true)) ∧
    (∃ (ws : List Nat), ∃ (s : State), (s.rd IRIGI_STAT_STATE = 2) ∧ ((ws.filter (fun w => s.rd IRIGI_CFG_FILT * 10000 * 2 ^ 32 ≤ w)).isEmpty = false) ∧ (irigDecode ((ws.filter (fun w => s.rd IRIGI_CFG_FILT * 10000 * 2 ^ 32 ≤ w)).map s.irigPulse) = none) ∧ (s.on IRIGI_STAT_LOS = false) ∧ (s.on IRIGO_CFG_EN = false) ∧ (s.ser.irigBad = 0)) ∧
    (∃ (s : State), (s.rd IRIGI_STAT_STATE ≠ 0) ∧ (s.on IRIGI_STAT_LOS = false) ∧ (s.rd IRIGO_CFG_SRC ≠ 2) ∧ (s.ran .irig (s.rd IRIGI_CFG_LOS * 100000000) = true)) ∧
    (∃ (s : State), (s.on IRIGO_CFG_EN = true) ∧ (s.rd IRIGO_CFG_SRC = 1) ∧ (s.ser.irigTod ≠ some s.irigTodSec) ∧ (s.on TMU_STAT_TVALID = true) ∧ (s.on TMU_UTC_LEAP61 = false) ∧ (s.on TMU_UTC_LEAP59 = false) ∧ (s.irigUtc % 86400 ≠ 86399)) ∧
    (∃ (s : State), (s.on IRIGO_CFG_EN = true) ∧ (s.rd IRIGO_CFG_SRC = 1) ∧ (s.ser.irigTod ≠ some s.irigTodSec) ∧ (s.on TMU_STAT_TVALID = false) ∧ (s.on IRIGO_CFG_FORCE = false)) :=
  ⟨⟨7, 1, (List.replicate 10 6), 0, 0, ((State.reset.wr SER_CTRL_EN 1 7).serJudge 7 (List.replicate 10 true)), ((State.reset.wr SER_CTRL_EN 1 7).setInFrame 7 true), by and_intros <;> decide +kernel⟩,
   ⟨7, [3], 0, 0, State.reset, by decide +kernel⟩,
   ⟨7, [], 0, 0, (State.reset.wr SER_STAT_STUCK 1 7), by decide +kernel⟩,
   ⟨7, ({ (State.reset.wr SER_CTRL_EN 1 7).setInFrame 7 true with timers := [(.uartGap 7, 0)] }), by and_intros <;> decide +kernel⟩,
   ⟨7, (State.reset.wr SER_CTRL_EN 1 7), by decide +kernel⟩,
   ⟨7, 0x00FFC7FF, State.reset, by decide +kernel⟩,
   ⟨7, 0x80000001, State.reset, by and_intros <;> decide +kernel⟩,
   ⟨7, 0, State.reset, by decide +kernel⟩,
   ⟨7, ((5, 0)), [], [], ((State.reset.wr SER_CTRL_EN 1 7).setSerQueue 7 [[(5, 0)]]), ((((State.reset.wr SER_CTRL_EN 1 7).setSerQueue 7 []).wr SER_STAT_TXACT 1 7).wr SER_STAT_DEOUT 0 7), by and_intros <;> decide +kernel⟩,
   ⟨7, (State.reset.wr SER_CTRL_EN 1 7), by and_intros <;> decide +kernel⟩,
   ⟨1, 0, ([{ gap := true }]), 1, ({ (((((Tests.params (Tests.entry 4) [0, 0, 0, 0, 1, 0, 8, 0]).wr SER_RXWR_WR 1 0 |>.wr BNK_OWN_OWNER 0 1).wr SER_RING_BANK 1 0).wr SER_RING_LEN 1 0).wr TEN_SVC1_TXSLOT 9 1).wr CTX2_VER 1 9 with pad := (({ gap := true : SerRec }).bytes.zipIdx 0x10000).map (fun x => (x.2, some x.1)) }), by and_intros <;> decide +kernel⟩,
   ⟨1, ({ payload := [1, 2] ++ List.replicate 14 0 }), (Tests.inbox (Tests.entry 4) ([1, 2] ++ List.replicate 14 0)), (Tests.entry 4), by and_intros <;> decide +kernel⟩,
   ⟨1, 65535, [], 0, ({ State.reset with ser := { State.reset.ser with seq := [(1, some 0)] } }), by and_intros <;> decide +kernel⟩,
   ⟨1, 0, ({ { Tests.entry 4 with ser := { State.reset.ser with seq := [(1, some 0)], held := [(1, [(2, [])])] } } with timers := [(.serialHold 1, 0)] }), by and_intros <;> decide +kernel⟩,
   ⟨2, 0, 77, (State.reset.wr ENG_STAT_STATE engRun 2), by and_intros <;> decide +kernel⟩,
   ⟨2, 0, 77, (State.reset.wr ENG_STAT_STATE engRun 2), by and_intros <;> decide +kernel⟩,
   ⟨0, (State.reset.wr IRIGI_CFG_EN 1), by and_intros <;> decide +kernel⟩,
   ⟨0, ((State.reset.wr IRIGI_CFG_EN 1).wr TMU_IRIG_STAT_VALID 1), by and_intros <;> decide +kernel⟩,
   ⟨((List.range 100).map (fun p => (if irigMarker p then 8000000 else if p = 30 then 5000000 else 2000000) * 2 ^ 32)), ((List.range 100).map (fun p => if irigMarker p then 2 else if p = 30 then 1 else 0)), ({ sec := 0, min := 0, hour := 0, day := 1, year := 0, cf := 0, sbs := 0 }), (State.reset.wr IRIGI_STAT_STATE 1), by and_intros <;> decide +kernel⟩,
   ⟨({ sec := 1, min := 0, hour := 0, day := 1, year := 0, cf := 0, sbs := 0 }), ({ State.reset.wr IRIGI_STAT_STATE 1 with ser := { State.reset.ser with irigPrev := some (1, 0, 0, 0) } }), by and_intros <;> decide +kernel⟩,
   ⟨([2 ^ 80]), (State.reset.wr IRIGI_STAT_STATE 2), by and_intros <;> decide +kernel⟩,
   ⟨({ State.reset.wr IRIGI_STAT_STATE 1 with timers := [(.irig, 0)], tmu := { State.reset.tmu with elapsed := 2 ^ 80 } }), by and_intros <;> decide +kernel⟩,
   ⟨(((State.reset.wr IRIGO_CFG_EN 1).wr IRIGO_CFG_SRC 1).wr TMU_STAT_TVALID 1), by and_intros <;> decide +kernel⟩,
   ⟨((State.reset.wr IRIGO_CFG_EN 1).wr IRIGO_CFG_SRC 1), by and_intros <;> decide +kernel⟩⟩

theorem witness_PcieLinkAndRings :
    (∃ (s : State), (Tab.sorted s.regs = true) ∧ ((∀ r < 128, s.ringMgmt r = false → s.rd RNG_RSTAT_STATE r = ringDisabled → s.on RNG_RCFG_EN r = false))) ∧
    (∃ (speed : Fin 4), ∃ (width : Fin 4), ∃ (s : State), (s.on PCX_CTRL_EN = true) ∧ (s.on PCX_STAT_LINKUP = false) ∧ ((!s.on PCX_CTRL_ROLE && s.pcx.perst) = false) ∧ (speed ≠ 0) ∧ (width ≠ 0)) ∧
    (∃ (s : State), (s.on PCX_STAT_LINKUP = true) ∧ (Tab.sorted s.regs = true) ∧ ((∀ r < 128, s.ringMgmt r = false → s.rd RNG_RSTAT_STATE r = ringDisabled → s.on RNG_RCFG_EN r = false))) ∧
    (∃ (s : State), (Tab.sorted s.regs = true) ∧ ((∀ r < 128, s.ringMgmt r = false → s.rd RNG_RSTAT_STATE r = ringDisabled → s.on RNG_RCFG_EN r = false))) ∧
    (∃ (s : State), (Tab.sorted s.regs = true) ∧ ((∀ r < 128, s.ringMgmt r = false → s.rd RNG_RSTAT_STATE r = ringDisabled → s.on RNG_RCFG_EN r = false))) ∧
    (∃ (bme : Bool), ∃ (d3 : Bool), ∃ (s : State), ∃ (s1 : State), (s1 = { s.wr PCX_STAT_D3 (bit d3) with pcx := { s.pcx with busMaster := bme } })) ∧
    (∃ (r : Fin 128), ∃ (w : Word), ∃ (s : State), ∃ (s1 : State), (s.rd RNG_RSTAT_STATE r = ringDisabled) ∧ (s.on RNG_RCFG_EN r = false) ∧ (s.on RNG_CTRL_LOCK = false) ∧ (w.toNat.testBit 31 = true) ∧ (RNG_RCFG_SIZE.codeOk (bitsOf w.toNat 19 16) = true) ∧ (s1 = (s.writeField false RNG_RCFG_VEC r 0 w.toNat).writeFields false [RNG_RCFG_SIDE, RNG_RCFG_TYPE, RNG_RCFG_SIZE, RNG_RCFG_BIND] r 0 w.toNat) ∧ (s1.rd RNG_RCFG_TYPE r = ringTx)) ∧
    (∃ (r : Fin 128), ∃ (s : State), (s.on RNG_RCFG_EN r = true)) ∧
    (∃ (r : Fin 128), ∃ (s : State), (s.rd RNG_RSTAT_STATE r = ringDraining) ∧ ((s.fetched r).all (fun d => d.written || d.failed) = true)) ∧
    (∃ (off : Fin 8192), ∃ (v : Word), ∃ (r : Nat), ∃ (s : State), (off = 64 * r) ∧ (s.rd RNG_RSTAT_STATE r = ringRunning) ∧ (v.toNat < 2 ^ 16) ∧ ((v.toNat + 2 ^ 16 - s.rd RNG_RIDX_CI r) % 2 ^ 16 ≤ s.descCount r)) ∧
    (∃ (off : Fin 8192), ∃ (v : Word), ∃ (whole : Bool), ∃ (dis : Bool), ∃ (r : Nat), ∃ (s : State), (off = 64 * r) ∧ (v.toNat ≥ 2 ^ 16 ∨ s.rd RNG_RSTAT_STATE r ≠ ringRunning ∨ (v.toNat + 2 ^ 16 - s.rd RNG_RIDX_CI r) % 2 ^ 16 > s.descCount r) ∧ (dis = false ∨ s.on RNG_RCFG_EN r = false)) ∧
    (∃ (v : Word), ∃ (s : State), (v.toNat < 2 ^ 16) ∧ ((s.rd RNG_EVIDX_WR + 2 ^ 16 - v.toNat) % 2 ^ 16 ≤ 2 ^ s.rd RNG_EVCFG_EVSIZE)) ∧
    (∃ (w : Word), ∃ (s : State), ∃ (s1 : State), (s1 = s.writeReg 0x70008 w.toNat) ∧ (RNG_EVCFG_EVSIZE.codeOk (bitsOf w.toNat 3 0) = true) ∧ (s.on RNG_EVCFG_EN = false) ∧ (s1.on RNG_EVCFG_EN = true)) ∧
    (∃ (r : Fin 128), ∃ (s0 : State), ∃ (s : State), ∃ (b : List Byte), ∃ (i : Nat), (s0.fetchable r = true) ∧ (s0.ringTurn (s0.ringMgmt r) = some r.val) ∧ (s = { s0 with rng := { s0.rng with turn := Tab.put s0.rng.turn (bit (s0.ringMgmt r)) r 127 } }) ∧ (i = (s.rd RNG_RIDX_CI r + (s.fetched r).length) % 2 ^ 16) ∧ (b = s.readSide (s.ringMgmt r) (s.descAddr r i) 32) ∧ ((b.getD 31 0).toNat.testBit 7 = true)) ∧
    (∃ (r : Fin 128), ∃ (s0 : State), ∃ (s : State), ∃ (b : List Byte), ∃ (i : Nat), (s0.fetchable r = true) ∧ (s0.ringTurn (s0.ringMgmt r) = some r.val) ∧ (s = { s0 with rng := { s0.rng with turn := Tab.put s0.rng.turn (bit (s0.ringMgmt r)) r 127 } }) ∧ (i = (s.rd RNG_RIDX_CI r + (s.fetched r).length) % 2 ^ 16) ∧ (b = s.readSide (s.ringMgmt r) (s.descAddr r i) 32) ∧ ((b.getD 31 0).toNat.testBit 7 = false)) ∧
    (∃ (v : Fin 128), ∃ (s : State), ∃ (s1 : State), (Tab.get s.rng.holding v false = true) ∧ (s.due (.holdoff v) = true) ∧ (s1 = { s with rng := { s.rng with holding := Tab.put s.rng.holding v false false, due := Tab.put s.rng.due v false false } })) :=
  ⟨⟨(((State.reset.wr PCX_STAT_LINKUP 1).wr RNG_RCFG_EN 1 3).wr RNG_RSTAT_STATE ringRunning 3), by and_intros <;> decide +kernel⟩,
   ⟨3, 3, (State.reset.wr PCX_CTRL_EN 1), by and_intros <;> decide +kernel⟩,
   ⟨(((State.reset.wr PCX_STAT_LINKUP 1).wr RNG_RCFG_EN 1 3).wr RNG_RSTAT_STATE ringRunning 3), by and_intros <;> decide +kernel⟩,
   ⟨(((State.reset.wr PCX_STAT_LINKUP 1).wr RNG_RCFG_EN 1 3).wr RNG_RSTAT_STATE ringRunning 3), by and_intros <;> decide +kernel⟩,
   ⟨(((State.reset.wr PCX_STAT_LINKUP 1).wr RNG_RCFG_EN 1 3).wr RNG_RSTAT_STATE ringRunning 3), by and_intros <;> decide +kernel⟩,
   ⟨true, false, State.reset, ({ State.reset.wr PCX_STAT_D3 0 with pcx := { State.reset.pcx with busMaster := true } }), by decide +kernel⟩,
   ⟨127, 0x88040000, State.reset, ((State.reset.writeField false RNG_RCFG_VEC 127 0 0x88040000).writeFields false [RNG_RCFG_SIDE, RNG_RCFG_TYPE, RNG_RCFG_SIZE, RNG_RCFG_BIND] 127 0 0x88040000), by and_intros <;> decide +kernel⟩,
   ⟨127, ((Tests.ring 127 ringTx { idx := 0, bytes := List.replicate 32 0 }).wr RNG_RCFG_EN 1 127), by decide +kernel⟩,
   ⟨127, (State.reset.wr RNG_RSTAT_STATE ringDraining 127), by and_intros <;> decide +kernel⟩,
   ⟨8128, 16, 127, ((State.reset.wr RNG_RSTAT_STATE ringRunning 127).wr RNG_RCFG_SIZE 4 127), by and_intros <;> decide +kernel⟩,
   ⟨8128, 17, false, false, 127, ((State.reset.wr RNG_RSTAT_STATE ringRunning 127).wr RNG_RCFG_SIZE 4 127), by and_intros <;> decide +kernel⟩,
   ⟨1, (State.reset.wr RNG_EVIDX_WR 2), by and_intros <;> decide +kernel⟩,
   ⟨0x80000004, State.reset, (State.reset.writeReg 0x70008 0x80000004), by and_intros <;> decide +kernel⟩,
   ⟨127, ({ ((((State.reset.wr RNG_RSTAT_STATE ringRunning 127).wr RNG_RCFG_SIDE 1 127).wr RNG_RCFG_SIZE 4 127).wr RNG_RIDX_PI 1 127).wr PWR_STAT_STATE 1 with sram := [(31, 0x80)] }), ({ ({ ((((State.reset.wr RNG_RSTAT_STATE ringRunning 127).wr RNG_RCFG_SIDE 1 127).wr RNG_RCFG_SIZE 4 127).wr RNG_RIDX_PI 1 127).wr PWR_STAT_STATE 1 with sram := [(31, 0x80)] } : State) with rng := { State.reset.rng with turn := Tab.put [] 1 127 127 } }), (List.replicate 31 0 ++ [0x80]), 0, by and_intros <;> decide +kernel⟩,
   ⟨127, (((((State.reset.wr RNG_RSTAT_STATE ringRunning 127).wr RNG_RCFG_SIDE 1 127).wr RNG_RCFG_SIZE 4 127).wr RNG_RIDX_PI 1 127).wr PWR_STAT_STATE 1), ({ (((((State.reset.wr RNG_RSTAT_STATE ringRunning 127).wr RNG_RCFG_SIDE 1 127).wr RNG_RCFG_SIZE 4 127).wr RNG_RIDX_PI 1 127).wr PWR_STAT_STATE 1 : State) with rng := { State.reset.rng with turn := Tab.put [] 1 127 127 } }), (List.replicate 32 0), 0, by and_intros <;> decide +kernel⟩,
   ⟨127, ({ State.reset with rng := { State.reset.rng with holding := [(127, true)], due := [(127, true)] }, timers := [(.holdoff 127, 0)] }), ({ State.reset with timers := [(.holdoff 127, 0)] }), by and_intros <;> decide +kernel⟩⟩

theorem witness_TransmitAndReceiveRings :
    (∃ (r : Fin 128), ∃ (d : Desc), ∃ (c : DescStatus), ∃ (err : Fin 3), ∃ (s : State), (s.rd RNG_RSTAT_STATE r = ringRunning) ∧ (s.rd RNG_RCFG_TYPE r = ringTx) ∧ (s.ringReady r = true) ∧ (s.portHeld (s.ringPortOf r) = false) ∧ (s.nextDesc r = some d) ∧ (s.txFailure r d = some c)) ∧
    (∃ (r : Fin 128), ∃ (d : Desc), ∃ (err : Fin 3), ∃ (s : State), (s.rd RNG_RSTAT_STATE r = ringRunning) ∧ (s.rd RNG_RCFG_TYPE r = ringTx) ∧ (s.ringReady r = true) ∧ (s.portHeld (s.ringPortOf r) = false) ∧ (s.nextDesc r = some d) ∧ (s.txFailure r d = none) ∧ (d.le 10 1 ≠ 0) ∧ (s.rd CTX3_STATE (d.le 10 1) ≠ ctxOpen)) ∧
    (∃ (r : Fin 128), ∃ (d : Desc), ∃ (s : State), ∃ (s1 : State), ∃ (out : State × Sent), (s.rd RNG_RSTAT_STATE r = ringRunning) ∧ (s.rd RNG_RCFG_TYPE r = ringTx) ∧ (s.ringReady r = true) ∧ (s.portHeld (s.ringPortOf r) = false) ∧ (s.nextDesc r = some d) ∧ (s.txFailure r d = none) ∧ (d.le 10 1 ≠ 0) ∧ (s.rd CTX3_STATE (d.le 10 1) = ctxOpen) ∧ (s1 = s.startDesc r d.idx) ∧ (out = s1.originSend (d.le 10 1) (s1.internalCopy (s.ringPortOf r) (s.rd CTX2_CLASS (d.le 10 1)) (s.readSide (s.ringMgmt r) (d.le 0 8) (d.le 8 2))) (some r.val))) ∧
    (∃ (r : Fin 128), ∃ (d : Desc), ∃ (s : State), ∃ (out : State × Sent), (s.rd RNG_RSTAT_STATE r = ringRunning) ∧ (s.rd RNG_RCFG_TYPE r = ringTx) ∧ (s.ringReady r = true) ∧ (s.portHeld (s.ringPortOf r) = false) ∧ (s.nextDesc r = some d) ∧ (s.txFailure r d = none) ∧ (d.le 10 1 = 0) ∧ (out = (s.startDesc r d.idx).rawSend r d (s.readSide (s.ringMgmt r) (d.le 0 8) (d.le 8 2)))) ∧
    (∃ (mgmt : Bool), ∃ (p : Nat), ∃ (r : Nat), ∃ (c : Copy), ∃ (d : Desc), ∃ (s : State), (p = (if mgmt then 21 else 18)) ∧ (s.sending p = some c) ∧ (s.rxRing c = some r) ∧ (s.rxUsable p r = true) ∧ (s.ringReady r = true) ∧ (s.nextDesc r = some d) ∧ (d.zero 10 29 = true) ∧ (d.le 8 2 ≠ 0) ∧ (d.le 8 2 ≤ 9264) ∧ (d.le 31 1 % 64 = 0) ∧ (c.hdr.payload.length ≤ d.le 8 2)) ∧
    (∃ (mgmt : Bool), ∃ (p : Nat), ∃ (r : Nat), ∃ (c : Copy), ∃ (d : Desc), ∃ (err : Fin 3), ∃ (s : State), (p = (if mgmt then 21 else 18)) ∧ (s.sending p = some c) ∧ (s.rxRing c = some r) ∧ (s.rxUsable p r = true) ∧ (s.ringReady r = true) ∧ (s.nextDesc r = some d) ∧ (d.zero 10 29 = true) ∧ (d.le 8 2 ≠ 0) ∧ (d.le 8 2 ≤ 9264) ∧ (d.le 31 1 % 64 = 0) ∧ (c.hdr.payload.length > d.le 8 2) ∧ (err ≠ 2)) ∧
    (∃ (mgmt : Bool), ∃ (p : Nat), ∃ (c : Copy), ∃ (err : Fin 3), ∃ (s : State), (p = (if mgmt then 21 else 18)) ∧ (s.sending p = some c) ∧ (s.rxRing c = none)) ∧
    (∃ (mgmt : Bool), ∃ (p : Nat), ∃ (r : Nat), ∃ (c : Copy), ∃ (s : State), (p = (if mgmt then 21 else 18)) ∧ (s.sending p = some c) ∧ (s.rxRing c = some r) ∧ (s.rxUsable p r = false ∨ (s.nextDesc r = none ∧ s.ran (.rxWait (p == 21)) (s.rd RNG_RXCFG_RXWAIT * 10000) = true))) :=
  ⟨⟨127, ({ idx := 0, bytes := List.replicate 18 0 ++ [1] ++ List.replicate 13 0 }), .badDesc, 0, (Tests.ring 127 ringTx { idx := 0, bytes := List.replicate 18 0 ++ [1] ++ List.replicate 13 0 }), by and_intros <;> decide +kernel⟩,
   ⟨127, ({ idx := 0, bytes := List.replicate 10 0 ++ [9] ++ List.replicate 21 0 }), 0, ((Tests.ring 127 ringTx { idx := 0, bytes := List.replicate 10 0 ++ [9] ++ List.replicate 21 0 }).wr CTX3_STATE 1 9), by and_intros <;> decide +kernel⟩,
   ⟨127, ({ idx := 0, bytes := List.replicate 10 0 ++ [9] ++ List.replicate 21 0 }), ((Tests.ring 127 ringTx { idx := 0, bytes := List.replicate 10 0 ++ [9] ++ List.replicate 21 0 }).wr CTX3_STATE ctxOpen 9), (((Tests.ring 127 ringTx { idx := 0, bytes := List.replicate 10 0 ++ [9] ++ List.replicate 21 0 }).wr CTX3_STATE ctxOpen 9).startDesc 127 0), ((((Tests.ring 127 ringTx { idx := 0, bytes := List.replicate 10 0 ++ [9] ++ List.replicate 21 0 }).wr CTX3_STATE ctxOpen 9).startDesc 127 0).originSend 9 ((((Tests.ring 127 ringTx { idx := 0, bytes := List.replicate 10 0 ++ [9] ++ List.replicate 21 0 }).wr CTX3_STATE ctxOpen 9).startDesc 127 0).internalCopy 21 0 []) (some 127)), by and_intros <;> decide +kernel⟩,
   ⟨127, ({ idx := 0, bytes := List.replicate 32 0 }), (Tests.ring 127 ringTx { idx := 0, bytes := List.replicate 32 0 }), (((Tests.ring 127 ringTx { idx := 0, bytes := List.replicate 32 0 }).startDesc 127 0).rawSend 127 { idx := 0, bytes := List.replicate 32 0 } []), by and_intros <;> decide +kernel⟩,
   ⟨true, 21, 127, ({ term := 5, iport := 20 }), ({ idx := 0, bytes := List.replicate 8 0 ++ [1] ++ List.replicate 23 0 }), ({ ((Tests.ring 127 ringRx { idx := 0, bytes := List.replicate 8 0 ++ [1] ++ List.replicate 23 0 }).wr RNG_SLOTMAP_VALID 1 5).wr RNG_SLOTMAP_RING 127 5 with xsw := { State.reset.xsw with sending := [(21, [{ term := 5, iport := 20 }])] } }), by and_intros <;> decide +kernel⟩,
   ⟨true, 21, 127, ({ term := 5, iport := 20, hdr := { payload := [1, 2] } }), ({ idx := 0, bytes := List.replicate 8 0 ++ [1] ++ List.replicate 23 0 }), 0, ({ ((Tests.ring 127 ringRx { idx := 0, bytes := List.replicate 8 0 ++ [1] ++ List.replicate 23 0 }).wr RNG_SLOTMAP_VALID 1 5).wr RNG_SLOTMAP_RING 127 5 with xsw := { State.reset.xsw with sending := [(21, [{ term := 5, iport := 20, hdr := { payload := [1, 2] } }])] } }), by and_intros <;> decide +kernel⟩,
   ⟨true, 21, ({ term := 5, iport := 20 }), 0, ({ State.reset with xsw := { State.reset.xsw with sending := [(21, [{ term := 5, iport := 20 }])] } }), by and_intros <;> decide +kernel⟩,
   ⟨true, 21, 127, ({ term := 5, iport := 20 }), ({ ((State.reset.wr RNG_SLOTMAP_VALID 1 5).wr RNG_SLOTMAP_RING 127 5) with xsw := { State.reset.xsw with sending := [(21, [{ term := 5, iport := 20 }])] } }), by and_intros <;> decide +kernel⟩⟩

theorem witness_BridgeAccesses :
    (∃ (w : Fin 16), ∃ (v : Word), ∃ (s : State), ∃ (s1 : State), (s.on BRG_WCTRL_EN w = false) ∧ (v.toNat.testBit 31 = true) ∧ (16 ≤ bitsOf v.toNat 25 20) ∧ (bitsOf v.toNat 25 20 ≤ 36) ∧ (s1 = s.writeFields false [BRG_WCTRL_PREF, BRG_WCTRL_SIZE, BRG_WCTRL_SVC] w 0 v.toNat)) ∧
    (∃ (a : Nat), ∃ (n : Nat), ∃ (s : State), (s.on BRG_CTRL_EN = false)) ∧
    (∃ (mgmt : Bool), ∃ (a : Nat), ∃ (n : Nat), ∃ (w : Nat), ∃ (s : State), ∃ (s1 : State), ((mgmt && a ≥ 2 ^ 30) = false) ∧ (s.on BRG_CTRL_EN = true) ∧ (s.dmaRuns = true) ∧ (readForm a n = true) ∧ (s.winOf a n = some w) ∧ (s.on BRG_WCTRL_PREF w = false) ∧ (s1 = ({ s with brg := { s.brg with nextId := s.brg.nextId + 1 } } : State).arm (.heldRead s.brg.nextId) (s.rd BRG_TIM_RDTO w * 1000)) ∧ ((s1.memWaiting (s.rd BRG_WCTRL_SVC w)).isEmpty = true) ∧ (s1.memRoom (s.rd BRG_WCTRL_SVC w) { kind := memRead, win := w, addr := s.winFar w + (a - s.winBase w), off := a, bytes := n, read := some { id := s.brg.nextId, win := w, off := a, bytes := n } } = true)) ∧
    (∃ (mgmt : Bool), ∃ (a : Nat), ∃ (w : Nat), ∃ (data : List Byte), ∃ (e : Nat), ∃ (s : State), ∃ (s1 : State), ((mgmt && a ≥ 2 ^ 30) = false) ∧ (s.on BRG_CTRL_EN = true) ∧ (s.dmaRuns = true) ∧ (writeForm a data.length = true) ∧ (s.winOf a data.length = some w) ∧ (s1 = s.linesDrop w (fun x => x.off / 64 == a / 64)) ∧ (e = s1.rd BRG_WCTRL_SVC w) ∧ ((s1.memWaiting e).isEmpty = true) ∧ (s1.svcTakes e = true) ∧ (s1.memV1 e = false) ∧ (s1.memUnack e = [])) ∧
    (∃ (mgmt : Bool), ∃ (a : Nat), ∃ (w : Nat), ∃ (data : List Byte), ∃ (whole : Bool), ∃ (s : State), ((mgmt && a ≥ 2 ^ 30) = false) ∧ (s.on BRG_CTRL_EN = true) ∧ (s.dmaRuns = true) ∧ (writeForm a data.length = false ∨ whole = false) ∧ (s.winOf a 1 = some w)) ∧
    (∃ (e : Fin 128), ∃ (m : MemMsg), ∃ (l : List MemMsg), ∃ (s : State), (s.memWaiting e = m :: l) ∧ (s.memRoom e m = true)) ∧
    (∃ (id : Nat), ∃ (e : Nat), ∃ (m : MemMsg), ∃ (h : HeldRead), ∃ (s : State), (s.brg.reads = [(e, [m])]) ∧ (s.brg.wait = []) ∧ (m.read = some h) ∧ (h.id = id) ∧ (s.due (.heldRead id) = true)) ∧
    (∃ (e : Fin 128), ∃ (p : Packet), ∃ (r : MemIn), ∃ (m : MemMsg), ∃ (s : State), ∃ (s1 : State), (s.memTake e 0 [memRdata] = (s1, some p)) ∧ (r = memParse p.payload) ∧ (s1.memV1 e = false) ∧ (((s1.memAcked e r.mseq).memReads e).find? (fun m => m.tag == r.tag && m.mseq == r.mseq) = some m) ∧ (r.status = 0) ∧ (r.data.length = m.bytes)) ∧
    (∃ (e : Fin 128), ∃ (p : Packet), ∃ (l : List MemMsg), ∃ (s : State), ∃ (s1 : State), (s.memTake e 0 [memAck] = (s1, some p)) ∧ (l = (s1.memUnack e).filter (fun m => decide (signedOf 16 ((m.mseq + 65536 - (memParse p.payload).mseq) % 65536) > 0))) ∧ (l.length ≠ (s1.memUnack e).length)) ∧
    (∃ (e : Fin 128), ∃ (p : Packet), ∃ (r : MemIn), ∃ (m : MemMsg), ∃ (s : State), ∃ (s1 : State), (s.memTake e 0 [memWfail] = (s1, some p)) ∧ (r = memParse p.payload) ∧ (s1.memV1 e = false) ∧ ((s1.memUnack e).find? (fun m => m.kind == memWriteMsg && m.mseq == r.mseq) = some m) ∧ (r.status = 1)) ∧
    (∃ (c : WfCause), ∃ (w : Nat), ∃ (a : Nat), ∃ (s : State), (s.on BRG_STAT_WFEV = true) ∧ (s.on BRG_WFINFO_VALID = false)) ∧
    (∃ (c : WfCause), ∃ (w : Option Nat), ∃ (a : Option Nat), ∃ (s : State), (s.on BRG_STAT_WFEV = true) ∧ (s.on BRG_WFINFO_VALID = true)) ∧
    (∃ (e : Fin 128), ∃ (s : State), ((s.memUnack e).isEmpty = false) ∧ (s.svcRuns e = true) ∧ (s.due (.memory e) = true) ∧ (Tab.get s.brg.tries e 0 < s.param e 3 1)) ∧
    (∃ (e : Fin 128), ∃ (m : MemMsg), ∃ (s : State), (s.memUnack e = [m]) ∧ (s.svcRuns e = true) ∧ (s.due (.memory e) = true) ∧ (Tab.get s.brg.tries e 0 ≥ s.param e 3 1) ∧ (m.kind = memWriteMsg)) ∧
    (∃ (v : Word), ∃ (w : Nat), ∃ (e : Nat), ∃ (s : State), (v.toNat.testBit 31 = true) ∧ (w = bitsOf v.toNat 27 24) ∧ (e = s.rd BRG_WCTRL_SVC w) ∧ (s.on BRG_WCTRL_EN w = true) ∧ (s.memV1 e = false) ∧ ((s.memWaiting e).isEmpty = true) ∧ (s.svcTakes e = true) ∧ ((s.memUnack e).length < 64)) ∧
    (∃ (v : Word), ∃ (w : Nat), ∃ (e : Nat), ∃ (s : State), (v.toNat.testBit 31 = true) ∧ (w = bitsOf v.toNat 27 24) ∧ (e = s.rd BRG_WCTRL_SVC w) ∧ (s.on BRG_WCTRL_EN w = false ∨ s.memV1 e = true)) ∧
    (∃ (w : Fin 16), ∃ (line : Nat), ∃ (s : State), (s.lineBufs w = [{ off := 64 * line, data := [], used := false }]) ∧ (s.due (.line w (64 * line)) = true)) ∧
    (∃ (n : Fin 16), ∃ (m : Fin 2), ∃ (e : Fin 128), ∃ (s : State), (s.on ENG_MBX_BUSY n m = false) ∧ (s.rd ENG_STAT_STATE n = engRun) ∧ (Tab.sorted s.regs = true)) ∧
    (∃ (n : Fin 16), ∃ (m : Fin 2), ∃ (e : Fin 128), ∃ (s : State), (s.on ENG_MBX_BUSY n m = false) ∧ (s.rd ENG_STAT_STATE n = engRun) ∧ (Tab.sorted s.regs = true)) :=
  ⟨⟨3, 0x81000001, (Tests.params (Tests.entry 5) [0]), ((Tests.params (Tests.entry 5) [0]).writeFields false [BRG_WCTRL_PREF, BRG_WCTRL_SIZE, BRG_WCTRL_SVC] 3 0 0x81000001), by and_intros <;> decide +kernel⟩,
   ⟨0x1FFFFFFFFF, 8, State.reset, by decide +kernel⟩,
   ⟨true, 0xFFF8, 8, 3, (Tests.bridge [0]), (({ Tests.bridge [0] with brg := { (Tests.bridge [0]).brg with nextId := (Tests.bridge [0]).brg.nextId + 1 } } : State).arm (.heldRead 1) ((Tests.bridge [0]).rd BRG_TIM_RDTO 3 * 1000)), by and_intros <;> decide +kernel⟩,
   ⟨false, 0xFFFF, 3, [7], 1, (Tests.bridge [0]), ((Tests.bridge [0]).linesDrop 3 (fun x => x.off / 64 == 0xFFFF / 64)), by and_intros <;> decide +kernel⟩,
   ⟨false, 0xFFFF, 3, ([7, 7]), true, (Tests.bridge [0]), by and_intros <;> decide +kernel⟩,
   ⟨1, ({ kind := memWriteMsg, win := 3, bytes := 1, data := [7] }), [], ((Tests.bridge [0]).setMemWaiting 1 [{ kind := memWriteMsg, win := 3, bytes := 1, data := [7] }]), by and_intros <;> decide +kernel⟩,
   ⟨4, 1, ({ read := some { id := 4 } }), ({ id := 4 }), ({ (Tests.bridge [0]).setMemReads 1 [{ read := some { id := 4 } }] with timers := [(.heldRead 4, 0)] }), by and_intros <;> decide +kernel⟩,
   ⟨1, ({ payload := memBytes { ty := memRdata, bytes := 1, data := [7] } }), ({ ty := memRdata, bytes := 1, data := [7] }), ({ bytes := 1, read := some { id := 4, bytes := 1 } }), ((Tests.inbox (Tests.bridge [0]) (memBytes { ty := memRdata, bytes := 1, data := [7] })).setMemReads 1 [{ bytes := 1, read := some { id := 4, bytes := 1 } }]), ((Tests.bridge [0]).setMemReads 1 [{ bytes := 1, read := some { id := 4, bytes := 1 } }]), by and_intros <;> decide +kernel⟩,
   ⟨1, ({ payload := memBytes { ty := memAck, mseq := 5 } }), [], ((Tests.inbox (Tests.bridge [0]) (memBytes { ty := memAck, mseq := 5 })).setMemUnack 1 [{ mseq := 5 }]), ((Tests.bridge [0]).setMemUnack 1 [{ mseq := 5 }]), by and_intros <;> decide +kernel⟩,
   ⟨1, ({ payload := memBytes { ty := memWfail, mseq := 5, status := 1 } }), ({ ty := memWfail, mseq := 5, status := 1 }), ({ kind := memWriteMsg, mseq := 5, win := 3 }), ((Tests.inbox (Tests.bridge [0]) (memBytes { ty := memWfail, mseq := 5, status := 1 })).setMemUnack 1 [{ kind := memWriteMsg, mseq := 5, win := 3 }]), ((Tests.bridge [0]).setMemUnack 1 [{ kind := memWriteMsg, mseq := 5, win := 3 }]), by and_intros <;> decide +kernel⟩,
   ⟨.noResp, 15, 0x100000001, (State.reset.wr BRG_STAT_WFEV 1), by and_intros <;> decide +kernel⟩,
   ⟨.noResp, none, none, ((State.reset.wr BRG_STAT_WFEV 1).wr BRG_WFINFO_VALID 1), by and_intros <;> decide +kernel⟩,
   ⟨1, ({ (Tests.bridge [0, 0, 1, 7]).setMemUnack 1 [{ kind := memSignal, win := 3 }] with timers := [(.memory 1, 0)] }), by and_intros <;> decide +kernel⟩,
   ⟨1, ({ kind := memWriteMsg, win := 3, addr := 9 }), ({ (Tests.bridge [0, 0, 1, 0]).setMemUnack 1 [{ kind := memWriteMsg, win := 3, addr := 9 }] with timers := [(.memory 1, 0)] }), by and_intros <;> decide +kernel⟩,
   ⟨0x8300001F, 3, 1, (Tests.bridge [0]), by and_intros <;> decide +kernel⟩,
   ⟨0x8200001F, 2, 0, (Tests.bridge [0]), by and_intros <;> decide +kernel⟩,
   ⟨3, 1, ({ State.reset.setLineBufs 3 [{ off := 64 }] with timers := [(.line 3 64, 0)] }), by and_intros <;> decide +kernel⟩,
   ⟨2, 0, 77, (State.reset.wr ENG_STAT_STATE engRun 2), by and_intros <;> decide +kernel⟩,
   ⟨2, 0, 77, (State.reset.wr ENG_STAT_STATE engRun 2), by and_intros <;> decide +kernel⟩⟩

theorem witness_FarMemoryService :
    (∃ (e : Fin 128), ∃ (p : Packet), ∃ (m : MemIn), ∃ (r : MemIn), ∃ (s : State), ∃ (s1 : State), (s.svcRuns e = true) ∧ (s.rd TEN_SVC0_TYPE e = tyMemory) ∧ (s.memRole e = 1) ∧ (s.farReady e = true) ∧ ((s.inbox (s.svcEngine e)).find? (fun x => x.1 == e.val) = some (e.val, p)) ∧ (memGood false p.payload = true) ∧ (s.memV1 e = false) ∧ (m = memParse p.payload) ∧ (m.ty = memRead) ∧ (s.farHeld e = []) ∧ (m.addr + m.bytes ≤ s1.farSpan e) ∧ (s1.farFunc e = 0) ∧ (r = { ty := memRdata, tag := m.tag, mseq := m.mseq, bytes := m.bytes, status := mstOk, addr := m.addr, data := Memory.read s1.host (s1.farBase e + m.addr) m.bytes }) ∧ (m.mseq = (Tab.get s.brg.next e none).getD 0) ∧ (s1 = { (s.takeInbound e).1 with brg := { s.brg with heardAt := Tab.put s.brg.heardAt e s.tmu.elapsed 0 } })) ∧
    (∃ (e : Fin 128), ∃ (p : Packet), ∃ (m : MemIn), ∃ (s : State), ∃ (s1 : State), (s.svcRuns e = true) ∧ (s.rd TEN_SVC0_TYPE e = tyMemory) ∧ (s.memRole e = 1) ∧ (s.farReady e = true) ∧ ((s.inbox (s.svcEngine e)).find? (fun x => x.1 == e.val) = some (e.val, p)) ∧ (memGood false p.payload = true) ∧ (s.memV1 e = false) ∧ (m = memParse p.payload) ∧ (m.ty = memWriteMsg) ∧ (s.farHeld e = []) ∧ (m.addr + m.data.length ≤ s1.farSpan e) ∧ (s1.farFunc e = 0) ∧ (m.mseq = (Tab.get s.brg.next e none).getD 0) ∧ (s1 = { (s.takeInbound e).1 with brg := { s.brg with heardAt := Tab.put s.brg.heardAt e s.tmu.elapsed 0 } })) ∧
    (∃ (e : Fin 128), ∃ (p : Packet), ∃ (m : MemIn), ∃ (s : State), ∃ (s1 : State), (s.svcRuns e = true) ∧ (s.rd TEN_SVC0_TYPE e = tyMemory) ∧ (s.memRole e = 1) ∧ (s.farReady e = true) ∧ ((s.inbox (s.svcEngine e)).find? (fun x => x.1 == e.val) = some (e.val, p)) ∧ (memGood false p.payload = true) ∧ (s.memV1 e = false) ∧ (m = memParse p.payload) ∧ (m.ty = memSignal) ∧ (s.farHeld e = []) ∧ (m.mseq = (Tab.get s.brg.next e none).getD 0) ∧ (s1 = { (s.takeInbound e).1 with brg := { s.brg with heardAt := Tab.put s.brg.heardAt e s.tmu.elapsed 0 } })) ∧
    (∃ (e : Nat), ∃ (a : Nat), ∃ (d : List Byte), ∃ (s : State), (a + d.length ≤ s.farSpan e) ∧ (s.farFunc e = 0)) ∧
    (∃ (e : Nat), ∃ (a : Nat), ∃ (d : List Byte), ∃ (err : Bool), ∃ (s : State), (a + d.length > s.farSpan e)) ∧
    (∃ (e : Nat), ∃ (a : Nat), ∃ (n : Nat), ∃ (s : State), (a + n ≤ s.farSpan e) ∧ (s.farFunc e = 0)) ∧
    (∃ (e : Nat), ∃ (bs : List Byte), ∃ (m : MemIn), ∃ (quiet : Bool), ∃ (err : Bool), ∃ (r : List Byte), ∃ (s : State), (m = memParse bs) ∧ (m.ty = memRead) ∧ (Tab.get s.brg.next e none = some ((m.mseq + 1) % 65536)) ∧ (m.mseq < 65536) ∧ (Tab.get s.brg.kept (32 * e + m.tag) none = some (m.mseq, r))) ∧
    (∃ (e : Nat), ∃ (bs : List Byte), ∃ (m : MemIn), ∃ (quiet : Bool), ∃ (err : Bool), ∃ (s : State), (m = memParse bs) ∧ (Tab.get s.brg.next e none = some ((m.mseq + 65535) % 65536)) ∧ (m.mseq < 65536) ∧ ((s.farHeld e).any (fun y => y.1 == m.mseq) = false) ∧ ((s.farHeld e).length < 64)) ∧
    (∃ (e : Fin 128), ∃ (s : State), (s.svcRuns e = true) ∧ (s.rd TEN_SVC0_TYPE e = tyMemory) ∧ (s.memRole e = 1) ∧ (s.memV1 e = false) ∧ (0 < Tab.get s.brg.toAck e 0) ∧ (16 ≤ Tab.get s.brg.toAck e 0 ∨ s.due (.memAck e) = true)) ∧
    (∃ (e : Fin 128), ∃ (p : Nat), ∃ (err : Bool), ∃ (f : State × Nat), ∃ (s : State), (Tab.get s.brg.next e none = some p) ∧ (s.farHeld e ≠ []) ∧ (s.svcRuns e = true) ∧ (s.memV1 e = true) ∧ (s.farReady e = true) ∧ (s.due (.memHold e) = true) ∧ (f = s.farFlush e p err)) :=
  ⟨⟨1, ({ payload := memBytes { ty := memRead, bytes := 1 } }), ({ ty := memRead, bytes := 1 }), ({ ty := memRdata, bytes := 1, data := [0], status := mstOk }), (Tests.inbox ({ Tests.bridge [1, 0, 1, 0, 12] with pcx := { State.reset.pcx with busMaster := true }, host := [(0, 0)] }) (memBytes { ty := memRead, bytes := 1 })), ({ ({ Tests.bridge [1, 0, 1, 0, 12] with pcx := { State.reset.pcx with busMaster := true }, host := [(0, 0)] } : State) with brg := { ({ Tests.bridge [1, 0, 1, 0, 12] with pcx := { State.reset.pcx with busMaster := true }, host := [(0, 0)] } : State).brg with heardAt := Tab.put ({ Tests.bridge [1, 0, 1, 0, 12] with pcx := { State.reset.pcx with busMaster := true }, host := [(0, 0)] } : State).brg.heardAt 1 ({ Tests.bridge [1, 0, 1, 0, 12] with pcx := { State.reset.pcx with busMaster := true }, host := [(0, 0)] } : State).tmu.elapsed 0 } }), by and_intros <;> decide +kernel⟩,
   ⟨1, ({ payload := memBytes { ty := memWriteMsg, bytes := 4, data := [1, 2, 3, 4] } }), ({ ty := memWriteMsg, bytes := 4, data := [1, 2, 3, 4] }), (Tests.inbox ({ Tests.bridge [1, 0, 1, 0, 12] with pcx := { State.reset.pcx with busMaster := true }, host := [(0, 0)] }) (memBytes { ty := memWriteMsg, bytes := 4, data := [1, 2, 3, 4] })), ({ ({ Tests.bridge [1, 0, 1, 0, 12] with pcx := { State.reset.pcx with busMaster := true }, host := [(0, 0)] } : State) with brg := { ({ Tests.bridge [1, 0, 1, 0, 12] with pcx := { State.reset.pcx with busMaster := true }, host := [(0, 0)] } : State).brg with heardAt := Tab.put ({ Tests.bridge [1, 0, 1, 0, 12] with pcx := { State.reset.pcx with busMaster := true }, host := [(0, 0)] } : State).brg.heardAt 1 ({ Tests.bridge [1, 0, 1, 0, 12] with pcx := { State.reset.pcx with busMaster := true }, host := [(0, 0)] } : State).tmu.elapsed 0 } }), by and_intros <;> decide +kernel⟩,
   ⟨1, ({ payload := memBytes { ty := memSignal, line := 31 } }), ({ ty := memSignal, line := 31 }), (Tests.inbox (Tests.bridge [1, 1]) (memBytes { ty := memSignal, line := 31 })), ({ Tests.bridge [1, 1] with brg := { (Tests.bridge [1, 1]).brg with heardAt := Tab.put (Tests.bridge [1, 1]).brg.heardAt 1 (Tests.bridge [1, 1]).tmu.elapsed 0 } }), by and_intros <;> decide +kernel⟩,
   ⟨1, 4095, [7], (Tests.bridge [1, 0, 1, 0, 12]), by and_intros <;> decide +kernel⟩,
   ⟨1, 4096, [7], false, (Tests.bridge [1, 0, 1, 0, 12]), by decide +kernel⟩,
   ⟨1, 4095, 1, (Tests.bridge [1, 0, 1, 0, 12]), by and_intros <;> decide +kernel⟩,
   ⟨1, (memBytes { ty := memRead, bytes := 1, mseq := 65535 }), ({ ty := memRead, bytes := 1, mseq := 65535 }), false, false, [1], ({ Tests.bridge [1, 1] with brg := { State.reset.brg with next := [(1, some 0)], kept := [(32, some (65535, [1]))] } }), by and_intros <;> decide +kernel⟩,
   ⟨1, (memBytes { ty := memRead, bytes := 1 }), ({ ty := memRead, bytes := 1 }), false, false, ({ Tests.bridge [1, 1] with brg := { State.reset.brg with next := [(1, some 65535)] } }), by and_intros <;> decide +kernel⟩,
   ⟨1, ((Tests.bridge [1, 1]).setToAck 1 16), by and_intros <;> decide +kernel⟩,
   ⟨1, 0, false, ((({ (Tests.bridge [1, 1]).wr CTX2_VER 1 0 with brg := { State.reset.brg with next := [(1, some 0)] }, timers := [(.memHold 1, 0)] } : State).setFarHeld 1 [(1, [])]).farFlush 1 0 false), (({ (Tests.bridge [1, 1]).wr CTX2_VER 1 0 with brg := { State.reset.brg with next := [(1, some 0)] }, timers := [(.memHold 1, 0)] } : State).setFarHeld 1 [(1, [])]), by and_intros <;> decide +kernel⟩⟩

theorem witness_DmaChannels :
    (∃ (n : Fin 32), ∃ (s : State), (s.on DMC_CTRL_EN n = false)) ∧
    (∃ (n : Fin 32), ∃ (s : State), ∃ (s1 : State), ∃ (s2 : State), ∃ (s3 : State), (s.on DMC_CTRL_EN n = true) ∧ (Tab.get s.dma.cur n none = none) ∧ (Tab.get s.dma.next n none = none) ∧ (s1 = (s.wr DMC_CTRL_EN 0 n).wr DMC_STAT_STATE dmaOff n) ∧ (s2 = (((s1.wrFree DMC_DONE_BYTES n).wrFree DMC_FADDR_LO_ADDR n).wrFree DMC_FADDR_HI_ADDR n).wr DMS_SHCTRL_VALID 0 n) ∧ (s3 = (((s2.wrFree DMC_FINFO_DIR n).wrFree DMC_FINFO_SIDE n).wrFree DMC_FINFO_SPACE n).wrFree DMC_FINFO_CAUSE n)) ∧
    (∃ (n : Fin 32), ∃ (v : Bool), ∃ (s : State), (s.on DMC_CTRL_RING n = false)) ∧
    (∃ (n : Fin 32), ∃ (v : Bool), ∃ (s : State), (s.on DMC_CTRL_RING n = true)) ∧
    (∃ (n : Fin 32), ∃ (s : State), (s.dmaRuns = true) ∧ (s.on DMC_CTRL_EN n = true) ∧ (s.on DMC_CTRL_RING n = false) ∧ (s.on DMS_SHCTRL_VALID n = true) ∧ (s.rd DMC_STAT_STATE n = dmaIdle) ∧ ((s.dmaCopy n).dmaBadDesc n = false) ∧ ((s.dmaCopy n).dmaFailure n = none) ∧ ((s.dmaCopy n).on DMX_OPW_AT n = false)) ∧
    (∃ (n : Fin 32), ∃ (c : DmaCode), ∃ (s : State), (s.dmaRuns = true) ∧ (s.on DMC_CTRL_EN n = true) ∧ (s.on DMC_CTRL_RING n = false) ∧ (s.on DMS_SHCTRL_VALID n = true) ∧ (s.rd DMC_STAT_STATE n = dmaIdle) ∧ ((s.dmaCopy n).dmaBadDesc n = false) ∧ ((s.dmaCopy n).dmaFailure n = some c)) ∧
    (∃ (n : Fin 32), ∃ (s : State), (s.rd DMC_STAT_STATE n = dmaWait) ∧ (s.tmu.tod.units ≥ Tab.get s.dma.start n 0 * 2 ^ 32) ∧ (s.tmu.tod.units < Tab.get s.dma.start n 0 * 2 ^ 32 + 2 * 2 ^ 32)) ∧
    (∃ (n : Fin 32), ∃ (s : State), (s.rd DMC_STAT_STATE n = dmaWait) ∧ (s.tmu.tod.units ≥ Tab.get s.dma.start n 0 * 2 ^ 32 + 2 * 2 ^ 32)) ∧
    (∃ (n : Fin 32), ∃ (s : State), (s.rd DMC_STAT_STATE n = dmaHalted) ∧ (s.on DMS_SHCTRL_VALID n = false) ∧ (Tab.get s.dma.cur n none = none) ∧ (s.on DMX_OPW_IRQ n = false)) ∧
    (∃ (n : Fin 32), ∃ (c : DmaCode), ∃ (s : State), (Tab.get s.dma.cur n none = none) ∧ (s.on DMX_OPW_IRQ n = false)) ∧
    (∃ (n : Fin 32), ∃ (k : Nat), ∃ (s : State), ∃ (s1 : State), (s.dmaMoves n = true) ∧ (s.dmaMove n (s.dmaUnits n) 0 = (s1, k, .done)) ∧ (s1.on DMS_SHCTRL_VALID n = false) ∧ (Tab.get s1.dma.cur n none = none) ∧ (s1.on DMX_OPW_IRQ n = false)) ∧
    (∃ (n : Fin 32), ∃ (k : Nat), ∃ (a : Nat), ∃ (j : Nat), ∃ (s : State), ∃ (s1 : State), (s.dmaMoves n = true) ∧ (s.dmaMove n (s.dmaUnits n) 0 = (s1, k, .differ a j))) ∧
    (∃ (n : Fin 32), ∃ (a : Nat), ∃ (s : State), ∃ (s1 : State), ∃ (s2 : State), ∃ (s3 : State), (s.dmaMoves n = true) ∧ (s.dmaErrFits n true 0 = true) ∧ (0 < s.dmaUnits n) ∧ (a = (s.dmaDst n).at (s.dmaPlace n 0)) ∧ (s1 = ((((s.wr DMC_DONE_BYTES 0 n).wr DMC_FINFO_DIR (bit (s.dmaOp n != opCompare)) n).wr DMC_FINFO_SIDE 1 n).wr DMC_FINFO_SPACE (s.rd DMX_OPW_DSPACE n) n).wr DMC_FINFO_CAUSE dmaPcie n) ∧ (s2 = (s1.wr DMC_FADDR_LO_ADDR a n).wr DMC_FADDR_HI_ADDR (a / 2 ^ 32) n) ∧ (s3 = ((s2.wr DMC_STAT_STATE dmaHalted n).wr DMC_STAT_HALTEV 1 n).sat DMA_CNT_COUNT 1)) ∧
    (∃ (n : Nat), ∃ (write : Bool), ∃ (dest : Bool), ∃ (cause : Nat), ∃ (addr : Nat), ∃ (s : State), ∃ (s1 : State), ∃ (s2 : State), ∃ (s3 : State), (s1 = (((s.wr DMC_FINFO_DIR (bit write) n).wr DMC_FINFO_SIDE (bit dest) n).wr DMC_FINFO_SPACE (if dest then s.rd DMX_OPW_DSPACE n else s.rd DMX_OPW_SSPACE n) n).wr DMC_FINFO_CAUSE cause n) ∧ (s2 = (s1.wr DMC_FADDR_LO_ADDR addr n).wr DMC_FADDR_HI_ADDR (addr / 2 ^ 32) n) ∧ (s3 = ((s2.wr DMC_STAT_STATE dmaHalted n).wr DMC_STAT_HALTEV 1 n).sat DMA_CNT_COUNT 1)) ∧
    (∃ (w : Word), ∃ (s : State), ∃ (s1 : State), (s1 = s.writeReg 0x230000 w.toNat) ∧ (s1.rd DRC_CTRL_DEVSZ ≠ s.rd DRC_CTRL_DEVSZ)) ∧
    (∃ (s : State), (s.rd DRC_CTRL_DEVSZ ≠ 0) ∧ (s.on DRC_STAT_READY = false) ∧ (Tab.get s.flt.cause 11 false = false)) ∧
    (∃ (s : State), (s.rd DRC_CTRL_DEVSZ ≠ 0) ∧ (s.on DRC_STAT_READY = false) ∧ (Tab.get s.flt.cause 11 false = false)) ∧
    (∃ (a : Nat), ∃ (s : State), ∃ (s1 : State), (s.on DRC_CTRL_SCRUB = true) ∧ (s.on DRC_STAT_READY = true) ∧ (s1 = (s.sat DRC_CNT_COUNT 0).fault 12 0)) ∧
    (∃ (a : Nat), ∃ (s : State), (s.on DRC_STAT_UNCEV = false)) :=
  ⟨⟨31, State.reset, by decide +kernel⟩,
   ⟨31, (State.reset.wr DMC_CTRL_EN 1 31), (((State.reset.wr DMC_CTRL_EN 1 31).wr DMC_CTRL_EN 0 31).wr DMC_STAT_STATE dmaOff 31), (((((((State.reset.wr DMC_CTRL_EN 1 31).wr DMC_CTRL_EN 0 31).wr DMC_STAT_STATE dmaOff 31).wrFree DMC_DONE_BYTES 31).wrFree DMC_FADDR_LO_ADDR 31).wrFree DMC_FADDR_HI_ADDR 31).wr DMS_SHCTRL_VALID 0 31), ((((((((((State.reset.wr DMC_CTRL_EN 1 31).wr DMC_CTRL_EN 0 31).wr DMC_STAT_STATE dmaOff 31).wrFree DMC_DONE_BYTES 31).wrFree DMC_FADDR_LO_ADDR 31).wrFree DMC_FADDR_HI_ADDR 31).wr DMS_SHCTRL_VALID 0 31).wrFree DMC_FINFO_DIR 31).wrFree DMC_FINFO_SIDE 31 |>.wrFree DMC_FINFO_SPACE 31).wrFree DMC_FINFO_CAUSE 31), by decide +kernel, by decide +kernel, by decide +kernel, rfl, rfl, rfl⟩,
   ⟨31, true, State.reset, by decide +kernel⟩,
   ⟨31, false, (State.reset.wr DMC_CTRL_RING 1 31), by decide +kernel⟩,
   ⟨31, (((((State.reset.wr PWR_STAT_STATE 1).wr DMC_CTRL_EN 1 31).wr DMC_STAT_STATE 1 31).wr DMS_SHCTRL_VALID 1 31)), by and_intros <;> decide +kernel⟩,
   ⟨31, .align, (((((((State.reset.wr PWR_STAT_STATE 1).wr DMC_CTRL_EN 1 31).wr DMC_STAT_STATE 1 31).wr DMS_SHCTRL_VALID 1 31).wr DMS_OPW_DSPACE 3 31).wr DMS_DST_LO_ADDR 1 31)), by and_intros <;> decide +kernel⟩,
   ⟨31, (State.reset.wr DMC_STAT_STATE dmaWait 31), by and_intros <;> decide +kernel⟩,
   ⟨31, ({ State.reset.wr DMC_STAT_STATE dmaWait 31 with tmu := { State.reset.tmu with tod := { State.reset.tmu.tod with ns := 2 } } }), by and_intros <;> decide +kernel⟩,
   ⟨31, (State.reset.wr DMC_STAT_STATE dmaHalted 31), by and_intros <;> decide +kernel⟩,
   ⟨31, .busErr, State.reset, by and_intros <;> decide +kernel⟩,
   ⟨31, 1, ({ ((State.reset.wr PWR_STAT_STATE 1).wr DMC_STAT_STATE dmaActive 31).wr DMX_OPW_OP opFill 31 with pcx := { State.reset.pcx with busMaster := true } }), ({ ((State.reset.wr PWR_STAT_STATE 1).wr DMC_STAT_STATE dmaActive 31).wr DMX_OPW_OP opFill 31 with pcx := { State.reset.pcx with busMaster := true } }), by and_intros <;> decide +kernel⟩,
   ⟨31, 0, 0, 0, ({ (((State.reset.wr PWR_STAT_STATE 1).wr DMC_STAT_STATE dmaActive 31).wr DMX_OPW_OP opCompare 31).wr DMX_SRC_LO_ADDR 64 31 with host := [(64, 7)], pcx := { State.reset.pcx with busMaster := true } }), ({ (((State.reset.wr PWR_STAT_STATE 1).wr DMC_STAT_STATE dmaActive 31).wr DMX_OPW_OP opCompare 31).wr DMX_SRC_LO_ADDR 64 31 with host := [(64, 7)], pcx := { State.reset.pcx with busMaster := true } }), by and_intros <;> decide +kernel⟩,
   ⟨31, 0, ({ (((State.reset.wr PWR_STAT_STATE 1).wr DMC_STAT_STATE dmaActive 31).wr DMX_OPW_OP opFill 31) with pcx := { State.reset.pcx with busMaster := true } }), (((((({ (((State.reset.wr PWR_STAT_STATE 1).wr DMC_STAT_STATE dmaActive 31).wr DMX_OPW_OP opFill 31) with pcx := { State.reset.pcx with busMaster := true } } : State).wr DMC_DONE_BYTES 0 31).wr DMC_FINFO_DIR 1 31).wr DMC_FINFO_SIDE 1 31).wr DMC_FINFO_SPACE 0 31).wr DMC_FINFO_CAUSE 0 31), (((((((({ (((State.reset.wr PWR_STAT_STATE 1).wr DMC_STAT_STATE dmaActive 31).wr DMX_OPW_OP opFill 31) with pcx := { State.reset.pcx with busMaster := true } } : State).wr DMC_DONE_BYTES 0 31).wr DMC_FINFO_DIR 1 31).wr DMC_FINFO_SIDE 1 31).wr DMC_FINFO_SPACE 0 31).wr DMC_FINFO_CAUSE 0 31).wr DMC_FADDR_LO_ADDR 0 31).wr DMC_FADDR_HI_ADDR 0 31), ((((((((((({ (((State.reset.wr PWR_STAT_STATE 1).wr DMC_STAT_STATE dmaActive 31).wr DMX_OPW_OP opFill 31) with pcx := { State.reset.pcx with busMaster := true } } : State).wr DMC_DONE_BYTES 0 31).wr DMC_FINFO_DIR 1 31).wr DMC_FINFO_SIDE 1 31).wr DMC_FINFO_SPACE 0 31).wr DMC_FINFO_CAUSE 0 31).wr DMC_FADDR_LO_ADDR 0 31).wr DMC_FADDR_HI_ADDR 0 31).wr DMC_STAT_STATE dmaHalted 31).wr DMC_STAT_HALTEV 1 31).sat DMA_CNT_COUNT 1), by and_intros <;> decide +kernel⟩,
   ⟨31, false, false, 0, 0, State.reset, ((((State.reset.wr DMC_FINFO_DIR 0 31).wr DMC_FINFO_SIDE 0 31).wr DMC_FINFO_SPACE 0 31).wr DMC_FINFO_CAUSE 0 31), (((((((State.reset.wr DMC_FINFO_DIR 0 31).wr DMC_FINFO_SIDE 0 31).wr DMC_FINFO_SPACE 0 31).wr DMC_FINFO_CAUSE 0 31)).wr DMC_FADDR_LO_ADDR 0 31).wr DMC_FADDR_HI_ADDR (0 / 2 ^ 32) 31), ((((((((((State.reset.wr DMC_FINFO_DIR 0 31).wr DMC_FINFO_SIDE 0 31).wr DMC_FINFO_SPACE 0 31).wr DMC_FINFO_CAUSE 0 31)).wr DMC_FADDR_LO_ADDR 0 31).wr DMC_FADDR_HI_ADDR (0 / 2 ^ 32) 31).wr DMC_STAT_STATE dmaHalted 31).wr DMC_STAT_HALTEV 1 31).sat DMA_CNT_COUNT 1), by and_intros <;> decide +kernel⟩,
   ⟨0x40000004, State.reset, (State.reset.writeReg 0x230000 0x40000004), by and_intros <;> decide +kernel⟩,
   ⟨(State.reset.wr DRC_CTRL_DEVSZ 1), by and_intros <;> decide +kernel⟩,
   ⟨(State.reset.wr DRC_CTRL_DEVSZ 1), by and_intros <;> decide +kernel⟩,
   ⟨64, ((State.reset.wr DRC_CTRL_SCRUB 1).wr DRC_STAT_READY 1), ((((State.reset.wr DRC_CTRL_SCRUB 1).wr DRC_STAT_READY 1).sat DRC_CNT_COUNT 0).fault 12 0), by and_intros <;> decide +kernel⟩,
   ⟨0x1000000040, State.reset, by decide +kernel⟩⟩

theorem witness_DmaFillWritesItsDestination : (∃ (n : Fin 32), ∃ (b : DmaSide), ∃ (s : State), (s.dmaMoves n = true) ∧ (s.dmaOp n = opFill) ∧ (s.dmaDst n = b) ∧ (b.space = spHost) ∧ (b.lines = 1) ∧ (Tab.get s.dma.cur n none = none) ∧ (s.on DMX_OPW_IRQ n = false) ∧ (s.on DMS_SHCTRL_VALID n = false) ∧ (s.Sound)) := ⟨31, ({ space := 0, addr := 0x1000, line := 4, lines := 1, stride := 0 }), ({ ((((State.reset.wr PWR_STAT_STATE 1).wr DMC_STAT_STATE dmaActive 31).wr DMX_OPW_OP opFill 31).wr DMX_DST_LO_ADDR 0x1000 31).wr DMX_DGEOM_LINE 3 31 with pcx := { State.reset.pcx with busMaster := true } }), by decide +kernel, by decide +kernel, by decide +kernel, by decide +kernel, by decide +kernel, by decide +kernel, by decide +kernel, by decide +kernel, ⟨by decide +kernel, by decide +kernel, by decide +kernel, by decide +kernel, by decide +kernel, by decide +kernel⟩⟩

theorem witness_KeyCommands :
    (∃ (s : State), (s.on KEY_CMDSTAT_BUSY = true)) ∧
    (∃ (s : State), (s.on KEY_CMDSTAT_BUSY = false) ∧ (s.on KEY_STAT_RESETREQ = false) ∧ (s.lengthCode (s.rd KEY_INLEN_LEN ≤ 65536) 48 = .ok)) ∧
    (∃ (a : Fin 128), ∃ (s : State), (s.on KEY_CMDSTAT_BUSY = false) ∧ (s.on KEY_STAT_RESETREQ = false) ∧ (s.sourceSlot a useMac false = (s, .ok)) ∧ (s.lengthCode (s.rd KEY_INLEN_LEN ≤ 65536) 48 = .ok)) ∧
    (∃ (a : Fin 128), ∃ (b : Fin 128), ∃ (k : List Byte), ∃ (label : List Byte), ∃ (ctx : List Byte), ∃ (s : State), (s.on KEY_CMDSTAT_BUSY = false) ∧ (s.on KEY_STAT_RESETREQ = false) ∧ (s.kdfSource a = (s, .ok, k)) ∧ (s.destCode b false = .ok) ∧ (s.lengthCode (s.rd KEY_INLEN_LEN ≤ 65536) 0 = .ok) ∧ (State.labelBlock s.keyInput (if a ≥ 64 then 63 else 64) = some (label, ctx))) ∧
    (∃ (a : Fin 128), ∃ (b : Fin 128), ∃ (k : List Byte), ∃ (label : List Byte), ∃ (ctx : List Byte), ∃ (s : State), (s.on KEY_CMDSTAT_BUSY = false) ∧ (s.on KEY_STAT_RESETREQ = false) ∧ (s.kdfSource a = (s, .ok, k)) ∧ (s.destCode b true = .ok) ∧ (s.lengthCode (s.rd KEY_INLEN_LEN ≤ 65536) 0 = .ok) ∧ (State.labelBlock s.keyInput (if a ≥ 64 then 63 else 64) = some (label, ctx))) ∧
    (∃ (b : Fin 128), ∃ (s : State), (s.on KEY_CMDSTAT_BUSY = false) ∧ (s.on KEY_STAT_RESETREQ = false) ∧ (s.destCode b true = .ok)) ∧
    (∃ (b : Fin 128), ∃ (s : State), (s.on KEY_CMDSTAT_BUSY = false) ∧ (s.on KEY_STAT_RESETREQ = false) ∧ (s.destCode b true = .ok)) ∧
    (∃ (a : Fin 128), ∃ (s : State), (s.on KEY_CMDSTAT_BUSY = false) ∧ (s.on KEY_STAT_RESETREQ = false) ∧ (s.pairSource a useSign useEcdh = (s, .ok)) ∧ (State.bufferOk (s.rd KEY_OUT_ADDR) 96 = true)) ∧
    (∃ (a : Fin 128), ∃ (s : State), (s.on KEY_CMDSTAT_BUSY = false) ∧ (s.on KEY_STAT_RESETREQ = false) ∧ (s.pairSource a useSign useSign = (s, .ok)) ∧ (s.lengthCode (s.rd KEY_INLEN_LEN = 48) 96 = .ok)) ∧
    (∃ (s : State), (s.on KEY_CMDSTAT_BUSY = false) ∧ (s.on KEY_STAT_RESETREQ = false) ∧ (s.lengthCode (s.rd KEY_INLEN_LEN = 240) 0 = .ok)) ∧
    (∃ (a : Fin 128), ∃ (b : Fin 128), ∃ (label : List Byte), ∃ (ctx : List Byte), ∃ (s : State), (s.on KEY_CMDSTAT_BUSY = false) ∧ (s.on KEY_STAT_RESETREQ = false) ∧ (s.pairSource a useEcdh useEcdh = (s, .ok)) ∧ (s.destCode b false = .ok) ∧ (s.lengthCode (96 ≤ s.rd KEY_INLEN_LEN && s.rd KEY_INLEN_LEN ≤ 65536) 0 = .ok) ∧ (State.labelBlock (s.keyInput.drop 96) 64 = some (label, ctx))) ∧
    (∃ (n : Nat), ∃ (s : State), (s.on KEY_CMDSTAT_BUSY = false) ∧ (s.on KEY_STAT_RESETREQ = false) ∧ (n = s.rd KEY_INLEN_LEN) ∧ (1 ≤ n) ∧ (n ≤ 4096) ∧ (State.bufferOk (s.rd KEY_OUT_ADDR) n = true)) ∧
    (∃ (a : Fin 128), ∃ (s : State), (s.on KEY_CMDSTAT_BUSY = false) ∧ (s.on KEY_STAT_RESETREQ = false) ∧ (a ≤ 63) ∧ ((s.on KEY_SLOT_PAIR a && a.val % 2 == 1) = false) ∧ (s.rd KEY_SLOT_STATE a ≠ 0) ∧ ((s.slotGroup a).any s.slotInUse = false)) ∧
    (∃ (a : Fin 128), ∃ (s : State), (s.on KEY_CMDSTAT_BUSY = false) ∧ (s.on KEY_STAT_RESETREQ = false) ∧ (a ≤ 3) ∧ (s.imageNamed a = false)) ∧
    (∃ (a : Nat), ∃ (s : State), (s.rd TEN_IMG_LEN_LEN a > 256)) ∧
    (∃ (a : Fin 128), ∃ (s : State), (s.on KEY_CMDSTAT_BUSY = false) ∧ (s.on KEY_STAT_RESETREQ = false) ∧ (a ≤ 3) ∧ (s.imageNamed a = false) ∧ (s.rd TEN_IMG_LEN_LEN a > 256)) ∧
    (∃ (s : State), (s.on KEY_CMDSTAT_BUSY = true)) ∧
    (∃ (s : State), ((List.range 64).all s.slotSound = true)) ∧
    (∃ (n : Fin 64), ∃ (s : State), (s.slotSound n = false) ∧ ((List.range 64).all (fun k => k == n.val || s.slotSound k) = true) ∧ (s.on KEY_SLOT_PAIR n = false)) :=
  ⟨⟨(State.reset.wr KEY_CMDSTAT_BUSY 1), by decide +kernel⟩,
   ⟨State.reset, by and_intros <;> decide +kernel⟩,
   ⟨63, (State.reset.fillSlot 63 (List.replicate 32 7) 2 false), by and_intros <;> decide +kernel⟩,
   ⟨64, 63, (List.replicate 32 9), [65], [], ({ State.reset.wr KEY_INLEN_LEN 5 with keys := { State.reset.keys with root := some (List.replicate 32 9) }, sram := [(0, 1), (4, 65)] }), by and_intros <;> decide +kernel⟩,
   ⟨65, 62, (List.replicate 32 9), [65], [], ({ State.reset.wr KEY_INLEN_LEN 5 with keys := { State.reset.keys with puf := some (List.replicate 32 9) }, sram := [(0, 1), (4, 65)] }), by and_intros <;> decide +kernel⟩,
   ⟨62, State.reset, by and_intros <;> decide +kernel⟩,
   ⟨62, State.reset, by and_intros <;> decide +kernel⟩,
   ⟨62, (State.reset.fillPair 62 12345 8), by and_intros <;> decide +kernel⟩,
   ⟨62, ((State.reset.fillPair 62 12345 4).wr KEY_INLEN_LEN 48), by and_intros <;> decide +kernel⟩,
   ⟨(State.reset.wr KEY_INLEN_LEN 240), by and_intros <;> decide +kernel⟩,
   ⟨62, 5, [65], [], ({ (State.reset.fillPair 62 12345 8).wr KEY_INLEN_LEN 101 with sram := [(96, 1), (100, 65)] }), by and_intros <;> decide +kernel⟩,
   ⟨4096, (State.reset.wr KEY_INLEN_LEN 4096), by and_intros <;> decide +kernel⟩,
   ⟨62, (State.reset.fillPair 62 12345 8), by and_intros <;> decide +kernel⟩,
   ⟨3, State.reset, by and_intros <;> decide +kernel⟩,
   ⟨3, (State.reset.wr TEN_IMG_LEN_LEN 257 3), by decide +kernel⟩,
   ⟨3, (State.reset.wr TEN_IMG_LEN_LEN 257 3), by and_intros <;> decide +kernel⟩,
   ⟨(State.reset.wr KEY_CMDSTAT_BUSY 1), by decide +kernel⟩,
   ⟨State.reset, by decide +kernel⟩,
   ⟨63, (State.reset.wr KEY_SLOT_STATE 1 63), by and_intros <;> decide +kernel⟩⟩

theorem witness_FusesAndLifeCycle :
    (∃ (ok : Bool), ∃ (s : State), (s.on KEY_CMDSTAT_BUSY = false) ∧ (s.on KEY_STAT_RESETREQ = false) ∧ (s.on KEY_CTRL_LOCK = true)) ∧
    (∃ (s : State), ∃ (s2 : State), ∃ (s3 : State), ∃ (k : List Byte), (s.on KEY_CMDSTAT_BUSY = false) ∧ (s.on KEY_STAT_RESETREQ = false) ∧ (s.on KEY_CTRL_LOCK = false) ∧ (s.lifeCycle = 1) ∧ (s.fuseBytes 0x100 992 = List.replicate 992 0) ∧ (s2 = ((s.free (8 * 992)).2.free 64).2) ∧ (k = padTo 32 (Config.pufKey (beBytes 992 (s.free (8 * 992)).1) ((s.free (8 * 992)).2.free 64).1)) ∧ (s3 = (s2.burnBytes 0x100 (beBytes 992 (s.free (8 * 992)).1)).burnBytes 0x1F8 ((sha384 (k ++ ascii "PUF-CHECK")).take 32))) ∧
    (∃ (b : Fin 128), ∃ (m : Nat), ∃ (s : State), (s.on KEY_CMDSTAT_BUSY = false) ∧ (s.on KEY_STAT_RESETREQ = false) ∧ (s.on KEY_CTRL_LOCK = false) ∧ (0 < b.val) ∧ (b ≤ 5) ∧ (State.lcAllowed s.lifeCycle b = true) ∧ (s.lcReady s.lifeCycle b = true) ∧ (m = 2 ^ (b.val - 1))) ∧
    (∃ (b : Fin 128), ∃ (n : Fin 4), ∃ (m : Nat), ∃ (s : State), (s.on KEY_CMDSTAT_BUSY = false) ∧ (s.on KEY_STAT_RESETREQ = false) ∧ (s.on KEY_CTRL_LOCK = false) ∧ (0 < b.val) ∧ (b ≤ 5) ∧ (State.lcAllowed s.lifeCycle b = true) ∧ (s.lcReady s.lifeCycle b = true) ∧ (m = 2 ^ (b.val - 1)) ∧ (n.val < 3)) ∧
    (∃ (b : Fin 128), ∃ (m : Nat), ∃ (s : State), (s.on KEY_CMDSTAT_BUSY = false) ∧ (s.on KEY_STAT_RESETREQ = false) ∧ (s.on KEY_CTRL_LOCK = false) ∧ (s.lifeCycle = 2 ∨ s.lifeCycle = 3) ∧ (s.arb < b) ∧ (b ≤ 64) ∧ (m = 2 ^ (b.val - 1))) ∧
    (∃ (b : Fin 128), ∃ (ok : Bool), ∃ (s : State), (s.on KEY_CMDSTAT_BUSY = false) ∧ (s.on KEY_STAT_RESETREQ = false) ∧ (s.on KEY_CTRL_LOCK = false) ∧ (s.lifeCycle = 2 ∨ s.lifeCycle = 3) ∧ (0 < b.val) ∧ (b ≤ s.arb) ∧ (b ≤ 64)) ∧
    (∃ (a : Fin 128), ∃ (s : State), (s.on KEY_CMDSTAT_BUSY = false) ∧ (s.on KEY_STAT_RESETREQ = false) ∧ (s.on KEY_CTRL_LOCK = false) ∧ (a ≤ 3) ∧ ((List.range 4).any (fun i => i != a.val && s.signerLive i) = true)) ∧
    (∃ (r : Nat), ∃ (v : Nat), ∃ (s : State), (s.on KEY_CMDSTAT_BUSY = false) ∧ (s.on KEY_STAT_RESETREQ = false) ∧ (s.on KEY_CTRL_LOCK = false) ∧ (s.lengthCode (s.rd KEY_INLEN_LEN = 8) 0 = .ok) ∧ (r = ofLe (s.keyInput.take 2)) ∧ (v = ofLe (s.keyInput.drop 4)) ∧ (s.fuseAllowed r = true) ∧ (r ≠ 9) ∧ (s.fuse r = 0)) ∧
    (∃ (r : Nat), ∃ (v : Nat), ∃ (s : State), (s.on KEY_CMDSTAT_BUSY = false) ∧ (s.on KEY_STAT_RESETREQ = false) ∧ (s.on KEY_CTRL_LOCK = false) ∧ (s.lengthCode (s.rd KEY_INLEN_LEN = 8) 0 = .ok) ∧ (r = ofLe (s.keyInput.take 2)) ∧ (v = ofLe (s.keyInput.drop 4)) ∧ (s.fuseAllowed r = true) ∧ (r ≠ 9) ∧ (s.fuse r = 0)) ∧
    (∃ (r : Nat), ∃ (q : Nat), ∃ (v : Nat), ∃ (s : State), (Tab.sorted s.keys.fuse = true)) :=
  ⟨⟨false, (State.reset.wr KEY_CTRL_LOCK 1), by and_intros <;> decide +kernel⟩,
   ⟨({ State.reset with keys := { State.reset.keys with fuse := [(8, 0x010101)] } }), ((({ State.reset with keys := { State.reset.keys with fuse := [(8, 0x010101)] } } : State).free (8 * 992)).2.free 64 |>.2), ((((({ State.reset with keys := { State.reset.keys with fuse := [(8, 0x010101)] } } : State).free (8 * 992)).2.free 64).2.burnBytes 0x100 (beBytes 992 (({ State.reset with keys := { State.reset.keys with fuse := [(8, 0x010101)] } } : State).free (8 * 992)).1)).burnBytes 0x1F8 ((sha384 ((padTo 32 (Config.pufKey (beBytes 992 (({ State.reset with keys := { State.reset.keys with fuse := [(8, 0x010101)] } } : State).free (8 * 992)).1) ((({ State.reset with keys := { State.reset.keys with fuse := [(8, 0x010101)] } } : State).free (8 * 992)).2.free 64).1)) ++ ascii "PUF-CHECK")).take 32)), (padTo 32 (Config.pufKey (beBytes 992 (({ State.reset with keys := { State.reset.keys with fuse := [(8, 0x010101)] } } : State).free (8 * 992)).1) ((({ State.reset with keys := { State.reset.keys with fuse := [(8, 0x010101)] } } : State).free (8 * 992)).2.free 64).1)), by decide +kernel, by decide +kernel, by decide +kernel, by decide +kernel, by decide +kernel, rfl, rfl, rfl⟩,
   ⟨5, 16, State.reset, by and_intros <;> decide +kernel⟩,
   ⟨5, 2, 16, State.reset, by and_intros <;> decide +kernel⟩,
   ⟨64, (2 ^ 63), ({ State.reset with keys := { State.reset.keys with fuse := [(8, 0x040404)] } }), by and_intros <;> decide +kernel⟩,
   ⟨1, false, ({ State.reset with keys := { State.reset.keys with fuse := [(8, 0x040404), (10, 1), (12, 1), (14, 1)] } }), by and_intros <;> decide +kernel⟩,
   ⟨3, ({ State.reset with keys := { State.reset.keys with fuse := [(0x20, 1)] } }), by and_intros <;> decide +kernel⟩,
   ⟨2, 5, ({ State.reset.wr KEY_INLEN_LEN 8 with sram := [(0, 2), (4, 5)] }), by and_intros <;> decide +kernel⟩,
   ⟨2, 5, ({ State.reset.wr KEY_INLEN_LEN 8 with sram := [(0, 2), (4, 5)] }), by and_intros <;> decide +kernel⟩,
   ⟨2, 0, 5, State.reset, by decide +kernel⟩⟩

theorem witness_ResetsAndWatchdog :
    (∃ (s : State), ∃ (s1 : State), ((List.range 4).all (fun k => !Tab.get s.flt.cause (17 + k) false) = true) ∧ (s1 = (s.coreClear.wr GEN_RSTCAUSE_PORST 1).each [1, 2, 3, 4] (fun s n => s.efuse n false))) ∧
    (∃ (k : Fin 3), ∃ (s : State), ∃ (s1 : State), ((List.range 4).all (fun k => !Tab.get s.flt.cause (17 + k) false) = true) ∧ (s1 = (s.coreClear.wr (if k = 0 then GEN_RSTCAUSE_PORST else if k = 1 then GEN_RSTCAUSE_SWCHIP else GEN_RSTCAUSE_DORMANT) 1).each [1, 2, 3, 4] (fun s n => s.efuse n false))) ∧
    (∃ (s : State), ((List.range 4).all (fun k => !Tab.get s.flt.cause (17 + k) false) = true) ∧ (Tab.sorted s.regs = true)) ∧
    (∃ (k : Fin 3), ∃ (s : State), ((List.range 4).all (fun k => !Tab.get s.flt.cause (17 + k) false) = true) ∧ (Tab.sorted s.regs = true)) ∧
    (∃ (w : Word), ∃ (s : State), ((List.range 4).all (fun k => !Tab.get s.flt.cause (17 + k) false) = true) ∧ (bitsOf w.toNat 15 0 = cmdKey) ∧ (w.toNat.testBit 31 = true) ∧ (Tab.sorted s.regs = true)) ∧
    (∃ (compat : BitVec 3), ∃ (pcieRc : BitVec 3), ∃ (dbgEn : BitVec 3), ∃ (s : State), ∃ (s2 : State), ∃ (s3 : State), (s.boot.held = true) ∧ (s.pwr.good = true) ∧ (s2 = (((((((((s.wr CLK_STAT_REFOK 1).wr CLK_STAT_SYSLK 1).wr CLK_STAT_TIMELK 1).wr CLK_STAT_LANELK 1).wr CLK_STAT_MEMLK 1).wr CLK_STAT_PCIELK 1).wr GEN_STRAP_COMPAT (bit (State.strapOf compat))).wr GEN_STRAP_PCIE_RC (bit (State.strapOf pcieRc))).wr GEN_STRAP_DBG_EN (bit (State.strapOf dbgEn)))) ∧ (s3 = (((s2.wr PCX_CTRL_ROLE (bit (State.strapOf pcieRc))).wr TRK_KL2_STAT_STRAP (bit (State.strapOf compat))).kl2Show))) ∧
    (∃ (w : Word), ∃ (s : State), (bitsOf w.toNat 15 0 = cmdKey) ∧ (w.toNat.testBit 31 = true)) ∧
    (∃ (w : Word), ∃ (s : State), (bitsOf w.toNat 15 0 ≠ cmdKey)) ∧
    (∃ (w : Word), ∃ (s : State), (bitsOf w.toNat 15 0 ≠ cmdKey)) ∧
    (∃ (wdt : Bool), ∃ (s : State), (s.chipBooted = true) ∧ (s.on GEN_RSTCAUSE_MGMTSTOP = false) ∧ (s.boot.dead = false)) ∧
    (∃ (wdt : Bool), ∃ (s : State), ((s.boot.resets.filter (fun t => s.tmu.elapsed < t + 60000000000 * 2 ^ 32)).length < 2) ∧ (s.chipBooted = true) ∧ (s.on GEN_RSTCAUSE_MGMTSTOP = false) ∧ (s.boot.dead = false) ∧ (Tab.sorted s.regs = true)) ∧
    (∃ (w : Word), ∃ (s : State), ((s.boot.resets.filter (fun t => s.tmu.elapsed < t + 60000000000 * 2 ^ 32)).length < 2) ∧ (s.chipBooted = true) ∧ (s.on GEN_RSTCAUSE_MGMTSTOP = false) ∧ (s.boot.dead = false) ∧ (bitsOf w.toNat 15 0 = cmdKey) ∧ (w.toNat.testBit 31 = false) ∧ (w.toNat.testBit 30 = true) ∧ (Tab.sorted s.regs = true)) ∧
    (∃ (s : State), ((s.boot.resets.filter (fun t => s.tmu.elapsed < t + 60000000000 * 2 ^ 32)).length < 2) ∧ (s.chipBooted = true) ∧ (s.on GEN_RSTCAUSE_MGMTSTOP = false) ∧ (s.boot.dead = false) ∧ (s.on GEN_WDT_EN = true) ∧ (s.tmu.elapsed ≥ s.boot.kick + s.rd GEN_WDT_TIMEOUT * 1000000 * 2 ^ 32) ∧ (Tab.sorted s.regs = true)) ∧
    (∃ (F : Field), ∃ (s : State), ∃ (s1 : State), ∃ (s2 : State), ((s.boot.resets.filter (fun t => s.tmu.elapsed < t + 60000000000 * 2 ^ 32)).length < 2) ∧ (s1 = { ((((s.wr F 1).sat GEN_RSTCAUSE_MGMTCNT).wr GEN_WDT_TIMEOUT 1000).each (List.range 4) (fun s t => s.disarm (.offer t))) with sram := [] }) ∧ (s2 = { s1 with keys := { s1.keys with sess := [] }, fab := { s1.fab with answers := [], heardId := [] }, boot := { s1.boot with running := false, mgmtOnly := true, resets := s.tmu.elapsed :: s.boot.resets.filter (fun t => s.tmu.elapsed < t + 60000000000 * 2 ^ 32), kick := s.tmu.elapsed } })) ∧
    (∃ (F : Field), ∃ (s : State), ∃ (s1 : State), ∃ (s2 : State), (2 ≤ (s.boot.resets.filter (fun t => s.tmu.elapsed < t + 60000000000 * 2 ^ 32)).length) ∧ (s1 = { ((((s.wr F 1).sat GEN_RSTCAUSE_MGMTCNT).wr GEN_WDT_TIMEOUT 1000).each (List.range 4) (fun s t => s.disarm (.offer t))) with sram := [] }) ∧ (s2 = { s1 with keys := { s1.keys with sess := [] }, fab := { s1.fab with answers := [], heardId := [] }, boot := { s1.boot with running := false, mgmtOnly := true, resets := s.tmu.elapsed :: s.boot.resets.filter (fun t => s.tmu.elapsed < t + 60000000000 * 2 ^ 32), kick := s.tmu.elapsed } })) ∧
    (∃ (w : Word), ∃ (s : State), (w.toNat.testBit 30 = true) ∧ (w.toNat.testBit 31 = false) ∧ (s.on GEN_WDT_EN = true)) ∧
    (∃ (s : State), (s.on GEN_WDT_EN = true) ∧ (s.tmu.elapsed ≥ s.boot.kick + s.rd GEN_WDT_TIMEOUT * 1000000 * 2 ^ 32) ∧ (s.chipBooted = true) ∧ (s.on GEN_RSTCAUSE_MGMTSTOP = false) ∧ (s.boot.dead = false)) :=
  ⟨⟨State.reset, ((State.reset.coreClear.wr GEN_RSTCAUSE_PORST 1).each [1, 2, 3, 4] (fun s n => s.efuse n false)), by and_intros <;> decide +kernel⟩,
   ⟨2, State.reset, ((State.reset.coreClear.wr GEN_RSTCAUSE_DORMANT 1).each [1, 2, 3, 4] (fun s n => s.efuse n false)), by and_intros <;> decide +kernel⟩,
   ⟨State.reset, by and_intros <;> decide +kernel⟩,
   ⟨2, State.reset, by and_intros <;> decide +kernel⟩,
   ⟨(0x80000000 ||| BitVec.ofNat 32 cmdKey), State.reset, by and_intros <;> decide +kernel⟩,
   ⟨5, 0, 0, ({ State.reset with pwr := { State.reset.pwr with good := true } }), (((((((((({ State.reset with pwr := { State.reset.pwr with good := true } } : State).wr CLK_STAT_REFOK 1).wr CLK_STAT_SYSLK 1).wr CLK_STAT_TIMELK 1).wr CLK_STAT_LANELK 1).wr CLK_STAT_MEMLK 1).wr CLK_STAT_PCIELK 1).wr GEN_STRAP_COMPAT 1).wr GEN_STRAP_PCIE_RC 0).wr GEN_STRAP_DBG_EN 0), (((((((((((({ State.reset with pwr := { State.reset.pwr with good := true } } : State).wr CLK_STAT_REFOK 1).wr CLK_STAT_SYSLK 1).wr CLK_STAT_TIMELK 1).wr CLK_STAT_LANELK 1).wr CLK_STAT_MEMLK 1).wr CLK_STAT_PCIELK 1).wr GEN_STRAP_COMPAT 1).wr GEN_STRAP_PCIE_RC 0).wr GEN_STRAP_DBG_EN 0).wr PCX_CTRL_ROLE 0 |>.wr TRK_KL2_STAT_STRAP 1).kl2Show), by and_intros <;> decide +kernel⟩,
   ⟨(0x80000000 ||| BitVec.ofNat 32 cmdKey), State.reset, by and_intros <;> decide +kernel⟩,
   ⟨0xC0000000, State.reset, by decide +kernel⟩,
   ⟨0xC0000000, State.reset, by decide +kernel⟩,
   ⟨true, Tests.mgmt, by and_intros <;> decide +kernel⟩,
   ⟨true, Tests.mgmt, by and_intros <;> decide +kernel⟩,
   ⟨(0x40000000 ||| BitVec.ofNat 32 cmdKey), Tests.mgmt, by and_intros <;> decide +kernel⟩,
   ⟨({ Tests.mgmt.wr GEN_WDT_EN 1 with tmu := { State.reset.tmu with elapsed := 1000000000 * 2 ^ 32 } }), by and_intros <;> decide +kernel⟩,
   ⟨GEN_RSTCAUSE_WDT, State.reset, ({ ((((State.reset.wr GEN_RSTCAUSE_WDT 1).sat GEN_RSTCAUSE_MGMTCNT).wr GEN_WDT_TIMEOUT 1000).each (List.range 4) (fun s t => s.disarm (.offer t))) with sram := [] }), ({ (((State.reset.wr GEN_RSTCAUSE_WDT 1).sat GEN_RSTCAUSE_MGMTCNT).wr GEN_WDT_TIMEOUT 1000) with boot := { State.reset.boot with running := false, mgmtOnly := true, resets := [0] } }), by and_intros <;> decide +kernel⟩,
   ⟨GEN_RSTCAUSE_WDT, ({ State.reset with boot := { State.reset.boot with resets := [0, 0] } }), ({ ((((({ State.reset with boot := { State.reset.boot with resets := [0, 0] } } : State).wr GEN_RSTCAUSE_WDT 1).sat GEN_RSTCAUSE_MGMTCNT).wr GEN_WDT_TIMEOUT 1000).each (List.range 4) (fun s t => s.disarm (.offer t))) with sram := [] }), ({ (((({ State.reset with boot := { State.reset.boot with resets := [0, 0] } } : State).wr GEN_RSTCAUSE_WDT 1).sat GEN_RSTCAUSE_MGMTCNT).wr GEN_WDT_TIMEOUT 1000) with boot := { State.reset.boot with running := false, mgmtOnly := true, resets := [0, 0, 0] } }), by and_intros <;> decide +kernel⟩,
   ⟨0x40000000, (State.reset.wr GEN_WDT_EN 1), by and_intros <;> decide +kernel⟩,
   ⟨({ Tests.mgmt.wr GEN_WDT_EN 1 with tmu := { State.reset.tmu with elapsed := 1000000000 * 2 ^ 32 } }), by and_intros <;> decide +kernel⟩⟩

theorem witness_BootStages :
    (∃ (s : State), ∃ (s0 : State), ∃ (s1 : State), ∃ (s2 : State), (s.romIn bootFuses = true) ∧ (s0 = { s with keys := { s.keys with fuseBad := [] } }) ∧ (s1 = (s0.burnOut s0.lifeCycle).fuseLoad) ∧ (s2 = s1.wr KEY_STAT_DEBUG (bit s1.debugOpen))) ∧
    (∃ (r : Fin 512), ∃ (q : Fin 512), ∃ (s : State), ∃ (s0 : State), ∃ (s1 : State), ∃ (s2 : State), (s.romIn bootFuses = true) ∧ (State.rowCoded r = true) ∧ (State.rowCoded q = true) ∧ (r ≠ q) ∧ (s0 = { (s.sat KEY_CNT_COUNT 0) with keys := { s.keys with fuseBad := [q.val] } }) ∧ (s1 = (s0.burnOut s0.lifeCycle).fuseLoad) ∧ (s2 = s1.wr KEY_STAT_DEBUG (bit s1.debugOpen)) ∧ (s2.lifeCycle ≠ 0) ∧ (s2.lifeCycle ≠ 5)) ∧
    (∃ (ra : Fin 3), ∃ (rb : Fin 3), ∃ (k : List Byte), ∃ (s : State), ∃ (s1 : State), (s.romIn bootKeys = true) ∧ (s.boot.puf = 0) ∧ (s1 = { (s.free 64).2 with boot := { s.boot with puf := 1 } }) ∧ (k = padTo 32 (Config.pufKey (s1.fuseBytes 0x100 992) (s.free 64).1))) ∧
    (∃ (ra : Fin 3), ∃ (rb : Fin 3), ∃ (k : List Byte), ∃ (s : State), ∃ (s1 : State), (s.romIn bootKeys = true) ∧ (s.boot.puf = 3) ∧ (s.due .puf = true) ∧ (s1 = { ((s.disarm .puf).free 64).2 with boot := { s.boot with puf := 4 } }) ∧ (k = padTo 32 (Config.pufKey (s1.fuseBytes 0x100 992) (s.free 64).1)) ∧ (s1.lifeCycle = 0)) ∧
    (∃ (s : State), (s.romIn bootSram = true)) ∧
    (∃ (c : Nat), ∃ (s : State), (s.romIn bootTable = true) ∧ (s.tableChoice = some c)) ∧
    (∃ (s : State), (s.romIn bootTable = true) ∧ (s.tableChoice = none)) ∧
    (∃ (s : State), (s.romIn bootMgmt = true) ∧ (s.bootEntries 1 = [])) ∧
    (∃ (x : TableEntry), ∃ (l : List TableEntry), ∃ (s : State), ∃ (s1 : State), (s.romIn bootMgmt = true) ∧ (s.bootEntries 1 = x :: l) ∧ (s1 = (s.wr BOOT_IMG_MGMTENT 63).wr BOOT_IMG_MGMTCODE 0)) ∧
    (∃ (s : State), (s.romIn bootConfig = true) ∧ (s.boot.cfgLen = 0) ∧ (s.bootEntries 3 = [])) ∧
    (∃ (x : TableEntry), ∃ (l : List TableEntry), ∃ (s : State), (s.romIn bootConfig = true) ∧ (s.boot.cfgLen = 0) ∧ (s.bootEntries 3 = x :: l)) ∧
    (∃ (r : CfgRecord), ∃ (n : Nat), ∃ (s : State), (s.romIn bootConfig = true) ∧ (s.cfgAt s.boot.cfgNext = r) ∧ (r.op = 0)) ∧
    (∃ (r : CfgRecord), ∃ (k : Nat), ∃ (s : State), ∃ (s1 : State), ∃ (v : Nat), (s.cfgAtOp 1 = true) ∧ (s.cfgAt s.boot.cfgNext = r) ∧ (s.cfgLeft = k + 1) ∧ (s.regRead r.off true = (s1, v))) ∧
    (∃ (r : CfgRecord), ∃ (s : State), ∃ (s1 : State), ∃ (v : Nat), (s.cfgAtOp 1 = true) ∧ (s.due .record = true) ∧ (s.cfgAt s.boot.cfgNext = r) ∧ (s.regRead r.off true = (s1, v)) ∧ (v &&& r.mask ≠ r.value)) ∧
    (∃ (s : State), (s.cfgAtOp 2 = true) ∧ (s.due .record = true)) ∧
    (∃ (s : State), (s.romIn bootEngines = true) ∧ (s.boot.eng = 3) ∧ ((s.bootEntries 2).filter (fun x => x.slot == 3) = [])) ∧
    (∃ (s : State), (s.romIn bootEngines = true) ∧ (s.boot.eng = 3) ∧ ((s.bootEntries 2).filter (fun x => x.slot == 3) ≠ []) ∧ (s.on DRC_STAT_READY = false) ∧ (s.due .dramWait = true)) ∧
    (∃ (s : State), (s.romIn bootEngines = true) ∧ (s.boot.eng = 3) ∧ ((s.bootEntries 2).filter (fun x => x.slot == 3) ≠ []) ∧ (s.on DRC_STAT_READY = true)) ∧
    (∃ (s : State), ∃ (s1 : State), (s.romIn bootRun = true) ∧ (s.boot.running = false) ∧ (s1 = s.wr BOOT_TRUN_US (min ((s.tmu.elapsed - s.boot.rel) / (1000 * 2 ^ 32)) (2 ^ 32 - 1)))) :=
  ⟨⟨({ State.reset with boot := { State.reset.boot with held := false } }), ({ State.reset with boot := { State.reset.boot with held := false } }), ((({ State.reset with boot := { State.reset.boot with held := false } } : State).burnOut 0).fuseLoad), ((({ State.reset with boot := { State.reset.boot with held := false } } : State).burnOut 0).fuseLoad.wr KEY_STAT_DEBUG 1), by and_intros <;> decide +kernel⟩,
   ⟨511, 510, ({ State.reset with boot := { State.reset.boot with held := false }, keys := { State.reset.keys with fuse := [(8, 0x010101)] } }), ({ (({ State.reset with boot := { State.reset.boot with held := false }, keys := { State.reset.keys with fuse := [(8, 0x010101)] } } : State).sat KEY_CNT_COUNT 0) with keys := { State.reset.keys with fuse := [(8, 0x010101)], fuseBad := [510] } }), ((({ (({ State.reset with boot := { State.reset.boot with held := false }, keys := { State.reset.keys with fuse := [(8, 0x010101)] } } : State).sat KEY_CNT_COUNT 0) with keys := { State.reset.keys with fuse := [(8, 0x010101)], fuseBad := [510] } } : State).burnOut 1).fuseLoad), ((({ (({ State.reset with boot := { State.reset.boot with held := false }, keys := { State.reset.keys with fuse := [(8, 0x010101)] } } : State).sat KEY_CNT_COUNT 0) with keys := { State.reset.keys with fuse := [(8, 0x010101)], fuseBad := [510] } } : State).burnOut 1).fuseLoad.wr KEY_STAT_DEBUG 1), by and_intros <;> decide +kernel⟩,
   ⟨0, 0, (padTo 32 (Config.pufKey (({ State.reset.wr BOOT_STAT_STAGE 1 with boot := { State.reset.boot with held := false } } : State).fuseBytes 0x100 992) (({ State.reset.wr BOOT_STAT_STAGE 1 with boot := { State.reset.boot with held := false } } : State).free 64).1)), ({ State.reset.wr BOOT_STAT_STAGE 1 with boot := { State.reset.boot with held := false } }), ({ ({ State.reset.wr BOOT_STAT_STAGE 1 with boot := { State.reset.boot with held := false } } : State).free 64 |>.2 with boot := { State.reset.boot with held := false, puf := 1 } }), by decide +kernel, by decide +kernel, rfl, rfl⟩,
   ⟨0, 0, (padTo 32 (Config.pufKey (({ State.reset.wr BOOT_STAT_STAGE 1 with boot := { State.reset.boot with held := false } } : State).fuseBytes 0x100 992) (({ State.reset.wr BOOT_STAT_STAGE 1 with boot := { State.reset.boot with held := false } } : State).free 64).1)), ({ { State.reset.wr BOOT_STAT_STAGE 1 with boot := { State.reset.boot with held := false, puf := 3 } } with timers := [(.puf, 0)] }), ({ ({ State.reset.wr BOOT_STAT_STAGE 1 with boot := { State.reset.boot with held := false } } : State).free 64 |>.2 with boot := { State.reset.boot with held := false, puf := 4 } }), by decide +kernel, by decide +kernel, by decide +kernel, rfl, rfl, by decide +kernel⟩,
   ⟨({ State.reset.wr BOOT_STAT_STAGE 2 with boot := { State.reset.boot with held := false }, sram := [(0, 1)] }), by decide +kernel⟩,
   ⟨0, (Tests.tableFlash 3), by and_intros <;> decide +kernel⟩,
   ⟨({ State.reset.wr BOOT_STAT_STAGE 3 with boot := { State.reset.boot with held := false } }), by and_intros <;> decide +kernel⟩,
   ⟨({ State.reset.wr BOOT_STAT_STAGE 4 with boot := { State.reset.boot with held := false } }), by and_intros <;> decide +kernel⟩,
   ⟨(((Tests.tableFlash 4).bootEntries 1).headD { index := 0, kind := 0, slot := 0, offset := 0, length := 0 }), [], (Tests.tableFlash 4), (((Tests.tableFlash 4).wr BOOT_IMG_MGMTENT 63).wr BOOT_IMG_MGMTCODE 0), by and_intros <;> decide +kernel⟩,
   ⟨({ State.reset.wr BOOT_STAT_STAGE 5 with boot := { State.reset.boot with held := false } }), by and_intros <;> decide +kernel⟩,
   ⟨(((Tests.tableFlash 5).bootEntries 3).headD { index := 0, kind := 0, slot := 0, offset := 0, length := 0 }), [], (Tests.tableFlash 5), by and_intros <;> decide +kernel⟩,
   ⟨({ op := 0, zero := 0, off := 0, value := 0, mask := 0 }), 0, (({ State.reset.wr BOOT_STAT_STAGE 5 with boot := { State.reset.boot with held := false, cfgLen := 12 } } : State).setPadBytes cfgBase [0, 0, 0, 0, 0, 0, 0, 0, 0, 0, 0, 0]), by and_intros <;> decide +kernel⟩,
   ⟨({ op := 1, zero := 0, off := 0x230000, value := 0, mask := 0x80000000 }), 0, (({ State.reset.wr BOOT_STAT_STAGE 5 with boot := { State.reset.boot with held := false, cfgLen := 12 } } : State).setPadBytes cfgBase [0, 0, 0x23, 0x10, 0, 0, 0, 0, 0, 0, 0, 0x80]), (({ State.reset.wr BOOT_STAT_STAGE 5 with boot := { State.reset.boot with held := false, cfgLen := 12 } } : State).setPadBytes cfgBase [0, 0, 0x23, 0x10, 0, 0, 0, 0, 0, 0, 0, 0x80]), 0x40000000, by and_intros <;> decide +kernel⟩,
   ⟨({ op := 1, zero := 0, off := 0x230000, value := 0, mask := 0x40000000 }), ({ ({ State.reset.wr BOOT_STAT_STAGE 5 with boot := { State.reset.boot with held := false, cfgLen := 12 } } : State).setPadBytes cfgBase [0, 0, 0x23, 0x10, 0, 0, 0, 0, 0, 0, 0, 0x40] with timers := [(.record, 0)] }), ({ ({ State.reset.wr BOOT_STAT_STAGE 5 with boot := { State.reset.boot with held := false, cfgLen := 12 } } : State).setPadBytes cfgBase [0, 0, 0x23, 0x10, 0, 0, 0, 0, 0, 0, 0, 0x40] with timers := [(.record, 0)] }), 0x40000000, by and_intros <;> decide +kernel⟩,
   ⟨({ ({ State.reset.wr BOOT_STAT_STAGE 5 with boot := { State.reset.boot with held := false, cfgLen := 12 } } : State).setPadBytes cfgBase [0, 0, 0, 0x20, 0, 0, 0, 0, 0, 0, 0, 0] with timers := [(.record, 0)] }), by and_intros <;> decide +kernel⟩,
   ⟨({ State.reset.wr BOOT_STAT_STAGE 6 with boot := { State.reset.boot with held := false, eng := 3 } }), by and_intros <;> decide +kernel⟩,
   ⟨({ Tests.tableFlash 6 with boot := { State.reset.boot with held := false, eng := 3 }, timers := [(.dramWait, 0)] }), by and_intros <;> decide +kernel⟩,
   ⟨({ (Tests.tableFlash 6).wr DRC_STAT_READY 1 with boot := { State.reset.boot with held := false, eng := 3 } }), by and_intros <;> decide +kernel⟩,
   ⟨({ State.reset.wr BOOT_STAT_STAGE 7 with boot := { State.reset.boot with held := false } }), (({ State.reset.wr BOOT_STAT_STAGE 7 with boot := { State.reset.boot with held := false } } : State).wr BOOT_TRUN_US 0), by and_intros <;> decide +kernel⟩⟩

theorem witness_PowerEntry :
    (∃ (s : State), ((s.wr HSW_STAT_SEATED 1).pathIs .debounce = true) ∧ ((s.wr HSW_STAT_SEATED 1).feedValid = true) ∧ (s.hsw.sink = false) ∧ (s.hsw.ramp = false)) ∧
    (∃ (s : State), ((s.wr HSW_STAT_SEATED 1).pathIs .debounce = true) ∧ ((s.wr HSW_STAT_SEATED 1).feedValid = false)) ∧
    (∃ (s : State), (s.on HSW_STAT_SEATED = true) ∧ ((s.wr HSW_STAT_SEATED 0).pathIs .damaged = false)) ∧
    (∃ (f : Fin 2), ∃ (s : State), (s.on (State.feedEn f) = true) ∧ (2500 ≤ Tab.get s.hsw.within f 0) ∧ (s.rd HSW_STAT_STATE = 4)) ∧
    (∃ (f : Fin 2), ∃ (s : State), ∃ (s1 : State), (s.on (State.feedEn f) = true) ∧ (2500 ≤ Tab.get s.hsw.within f 0) ∧ (s1 = (s.wr (State.feedBit f) 1).causeOff (17 + f)) ∧ (s1.pathIs .feedWait = true) ∧ (s1.feedValid = true) ∧ (s1.feedcLow = true) ∧ (s1.hsw.sink = false) ∧ (s1.hsw.ramp = false)) ∧
    (∃ (f : Fin 2), ∃ (s : State), (s.on (State.feedBit f) = true) ∧ (25 ≤ Tab.get s.hsw.low f 0)) ∧
    (∃ (f : Fin 2), ∃ (mv : BitVec 17), ∃ (s : State), ∃ (s1 : State), (s.on (State.feedBit f) = true) ∧ (mv.toNat > s.rd HSW_FEEDCFG_OV * 250) ∧ (s1 = { s with hsw := { s.hsw with within := Tab.put s.hsw.within f 0 0 } })) ∧
    (∃ (f : Fin 2), ∃ (mv : BitVec 17), ∃ (s : State), (mv.toNat ≤ s.rd HSW_FEEDCFG_OV * 250)) ∧
    (∃ (f : Fin 2), ∃ (s : State), (s.on (State.feedBit f) = true) ∧ (s.pathIs .damaged = false)) ∧
    (∃ (f : Fin 2), ∃ (s : State), (Tab.get s.hsw.diode f false = true)) ∧
    (∃ (mv : BitVec 17), ∃ (s : State), (s.rd HSW_STAT_STATE = 3 ∨ s.rd HSW_STAT_STATE = 4) ∧ (mv.toNat > s.rd HSW_FEEDCFG_OV * 250)) ∧
    (∃ (s : State), (s.rd HSW_STAT_STATE = 3 ∨ s.rd HSW_STAT_STATE = 4) ∧ (s.on HSW_STAT_FVA = false) ∧ (s.on HSW_STAT_FVB = false) ∧ (250 ≤ s.hsw.unfed)) ∧
    (∃ (s : State), (s.rd HSW_STAT_STATE = 3) ∧ (s.rd HSW_VMEAS1_VOUT * 2 + 500 ≥ s.rd HSW_VMEAS1_VC * 2)) ∧
    (∃ (s : State), ∃ (s1 : State), (s.rd HSW_STAT_STATE = 3 ∨ s.rd HSW_STAT_STATE = 4) ∧ (s.hsw.timer ≥ 250 * s.rd HSW_CTRL_TFLT) ∧ (s1 = ((s.wr HSW_STAT_TRIPEV 1).sat HSW_CNT_COUNT 0).fault 16 0)) ∧
    (∃ (raw : BitVec 14), ∃ (s : State), ∃ (s1 : State), (s.rd HSW_STAT_STATE = 3 ∨ s.rd HSW_STAT_STATE = 4) ∧ (signedOf 14 raw.toNat > signedOf 16 (s.rd HSW_THR_FTTHR)) ∧ (s1 = ((s.wr HSW_STAT_FTEV 1).sat HSW_CNT_COUNT 1).fault 16 1)) ∧
    (∃ (s : State), (s.rd HSW_STAT_STATE = 5) ∧ (s.pathRan 1000 = true) ∧ ((s.sat HSW_CNT_COUNT 4).feedValid = true) ∧ (s.hsw.sink = false) ∧ (s.hsw.ramp = false)) ∧
    (∃ (s : State), (s.rd HSW_STAT_STATE = 4) ∧ (s.pathRan 10000 = true)) ∧
    (∃ (w : Word), ∃ (s : State), (bitsOf w.toNat 15 0 = 0x5A5A) ∧ (w.toNat.testBit 31 = true) ∧ (w.toNat.testBit 30 = false) ∧ (s.on FLT_STAT_ELYTRA = false) ∧ (s.pathIs .damaged = false)) ∧
    (∃ (w : Word), ∃ (s : State), (bitsOf w.toNat 15 0 = 0x5A5A) ∧ (w.toNat.testBit 31 = false) ∧ (w.toNat.testBit 30 = true) ∧ (s.pathIs .off = true)) ∧
    (∃ (w : Word), ∃ (s : State), (bitsOf w.toNat 15 0 ≠ 0x5A5A ∨ (w.toNat.testBit 31 = true ∧ w.toNat.testBit 30 = true))) ∧
    (∃ (s : State), (s.rd HSW_STAT_STATE = 6)) ∧
    (∃ (s : State), (s.rd HSW_STAT_STATE ≠ 3) ∧ (s.rd HSW_STAT_STATE ≠ 4) ∧ (s.rd HSW_STAT_STATE ≠ 8) ∧ (2500 ≤ s.hsw.leak)) ∧
    (∃ (p : PathState), ∃ (s : State), (Tab.sorted s.regs = true) ∧ (p ≠ .latched)) ∧
    (∃ (s : State), (s.on HSW_CTRL_USBCEN = true) ∧ (s.on UPD_STAT_SNKVALID = true) ∧ (s.pathConducts = false) ∧ (s.hsw.ramp = false) ∧ (5 ≤ s.hsw.since) ∧ (s.rd UPD_VBUS_V * 20 > s.rd HSW_VMEAS1_VOUT * 2 + 50)) ∧
    (∃ (s : State), (s.hsw.sink = true)) ∧
    (∃ (s : State), (s.hsw.sink = true)) ∧
    (∃ (s : State), (s.hsw.ramp = true) ∧ (5 ≤ s.hsw.since)) ∧
    (∃ (w : Word), ∃ (s : State), ∃ (s1 : State), (s.on FLT_STAT_ELYTRA = false) ∧ (s1 = s.writeReg 0x30008 w.toNat) ∧ (s1.rawThreshold (2 * (s1.rd HSW_LIMIT_ILIM * 10)) ≤ 8191)) ∧
    (∃ (w : Word), ∃ (s : State), (s.on FLT_STAT_ELYTRA = true ∨ (s.writeReg 0x30008 w.toNat).rawThreshold (2 * ((s.writeReg 0x30008 w.toNat).rd HSW_LIMIT_ILIM * 10)) > 8191)) ∧
    (∃ (n : Fin 4), ∃ (ma : BitVec 12), ∃ (s : State), (s.on (State.efuseOn (n + 1)) = true) ∧ (ma.toNat ≥ s.efuseLimit (n + 1))) ∧
    (∃ (n : Fin 4), ∃ (ma : BitVec 12), ∃ (s : State), (s.on (State.efuseOn (n + 1)) = true) ∧ (ma.toNat > 2 * s.efuseLimit (n + 1))) ∧
    (∃ (n : Fin 4), ∃ (s : State), (s.on (State.efuseOn (n + 1)) = true)) :=
  ⟨⟨((State.reset.wr HSW_STAT_STATE 1).wr HSW_STAT_FVB 1), by and_intros <;> decide +kernel⟩,
   ⟨(State.reset.wr HSW_STAT_STATE 1), by and_intros <;> decide +kernel⟩,
   ⟨(State.reset.wr HSW_STAT_SEATED 1), by and_intros <;> decide +kernel⟩,
   ⟨1, ({ (State.reset.wr HSW_CTRL_FBEN 1).wr HSW_STAT_STATE 4 with hsw := { State.reset.hsw with within := [(1, 2500)] } }), by and_intros <;> decide +kernel⟩,
   ⟨1, ({ ((State.reset.wr HSW_CTRL_FBEN 1).wr HSW_FEEDCFG_OV 100).wr HSW_STAT_STATE 2 with hsw := { State.reset.hsw with within := [(1, 2500)] } }), ((({ ((State.reset.wr HSW_CTRL_FBEN 1).wr HSW_FEEDCFG_OV 100).wr HSW_STAT_STATE 2 with hsw := { State.reset.hsw with within := [(1, 2500)] } } : State).wr HSW_STAT_FVB 1).causeOff 18), by and_intros <;> decide +kernel⟩,
   ⟨1, ({ State.reset.wr HSW_STAT_FVB 1 with hsw := { State.reset.hsw with low := [(1, 25)] } }), by and_intros <;> decide +kernel⟩,
   ⟨1, 0x1FFFF, (State.reset.wr HSW_STAT_FVB 1), ({ State.reset.wr HSW_STAT_FVB 1 with hsw := { State.reset.hsw with within := Tab.put [] 1 0 0 } }), by and_intros <;> decide +kernel⟩,
   ⟨1, 0, State.reset, by decide +kernel⟩,
   ⟨1, (State.reset.wr HSW_STAT_FVB 1), by and_intros <;> decide +kernel⟩,
   ⟨1, (State.reset.setDiode 1 true), by decide +kernel⟩,
   ⟨0x1FFFF, (State.reset.wr HSW_STAT_STATE 4), by and_intros <;> decide +kernel⟩,
   ⟨({ State.reset.wr HSW_STAT_STATE 3 with hsw := { State.reset.hsw with unfed := 250 } }), by and_intros <;> decide +kernel⟩,
   ⟨(State.reset.wr HSW_STAT_STATE 3), by and_intros <;> decide +kernel⟩,
   ⟨({ State.reset.wr HSW_STAT_STATE 4 with hsw := { State.reset.hsw with timer := 250 * 1024 } }), (((({ State.reset.wr HSW_STAT_STATE 4 with hsw := { State.reset.hsw with timer := 250 * 1024 } } : State).wr HSW_STAT_TRIPEV 1).sat HSW_CNT_COUNT 0).fault 16 0), by and_intros <;> decide +kernel⟩,
   ⟨0x1FFF, (State.reset.wr HSW_STAT_STATE 4), ((((State.reset.wr HSW_STAT_STATE 4).wr HSW_STAT_FTEV 1).sat HSW_CNT_COUNT 1).fault 16 1), by and_intros <;> decide +kernel⟩,
   ⟨({ (State.reset.wr HSW_STAT_STATE 5).wr HSW_STAT_FVA 1 with hsw := { State.reset.hsw with clock := 250000 } }), by and_intros <;> decide +kernel⟩,
   ⟨({ State.reset.wr HSW_STAT_STATE 4 with hsw := { State.reset.hsw with clock := 2500000 } }), by and_intros <;> decide +kernel⟩,
   ⟨0x80005A5A, State.reset, by and_intros <;> decide +kernel⟩,
   ⟨0x40005A5A, (State.reset.wr HSW_STAT_STATE 7), by and_intros <;> decide +kernel⟩,
   ⟨0xC0005A5A, State.reset, by decide +kernel⟩,
   ⟨(State.reset.wr HSW_STAT_STATE 6), by decide +kernel⟩,
   ⟨({ State.reset with hsw := { State.reset.hsw with leak := 2500 } }), by and_intros <;> decide +kernel⟩,
   ⟨.damaged, State.reset, by and_intros <;> decide +kernel⟩,
   ⟨((State.reset.wr HSW_CTRL_USBCEN 1).wr UPD_STAT_SNKVALID 1 |>.wr UPD_VBUS_V 250), by and_intros <;> decide +kernel⟩,
   ⟨({ State.reset with hsw := { State.reset.hsw with sink := true } }), by decide +kernel⟩,
   ⟨({ State.reset with hsw := { State.reset.hsw with sink := true } }), by decide +kernel⟩,
   ⟨({ State.reset with hsw := { State.reset.hsw with ramp := true } }), by and_intros <;> decide +kernel⟩,
   ⟨0, State.reset, (State.reset.writeReg 0x30008 0), by and_intros <;> decide +kernel⟩,
   ⟨0xFFFFFFFF, (State.reset.wr HSW_SHUNT_SHUNT 1000000 0), by decide +kernel⟩,
   ⟨3, 0xFFF, (State.reset.wr (State.efuseOn 4) 1), by and_intros <;> decide +kernel⟩,
   ⟨3, 0xFFF, (State.reset.wr (State.efuseOn 4) 1), by and_intros <;> decide +kernel⟩,
   ⟨3, (State.reset.wr (State.efuseOn 4) 1), by decide +kernel⟩⟩

theorem witness_PowerStates :
    (∃ (s : State), (s.rd HSW_STAT_STATE = 4) ∧ (s.pathRan 1 = true) ∧ ((s.wr HSW_STAT_PATHGD 1).rd PWR_STAT_STATE = pwOff) ∧ (s.pwr.waking = true)) ∧
    (∃ (w : Word), ∃ (s : State), ∃ (s1 : State), ∃ (s2 : State), (s.rd PWR_STAT_STATE < 3) ∧ (bitsOf w.toNat 15 0 = 0x5A5A) ∧ (w.toNat.testBit 31 = true) ∧ (bitsOf w.toNat 18 16 = 0) ∧ (s.on PWR_STAT_BUSY = false) ∧ (s.rd PWR_STAT_STATE ≠ 0) ∧ (s.opOf 0 < s.rd PWR_STAT_OP) ∧ (s1 = s) ∧ (s2 = (s1.setTarget (s.rd PWR_OPV_TARGET (s.opOf 0))).wr PWR_STAT_BUSY 1)) ∧
    (∃ (w : Word), ∃ (s : State), ∃ (s1 : State), ∃ (s2 : State), (s.rd PWR_STAT_STATE < 3) ∧ (bitsOf w.toNat 15 0 = 0x5A5A) ∧ (w.toNat.testBit 31 = true) ∧ (bitsOf w.toNat 18 16 = 1) ∧ (s.on PWR_STAT_BUSY = false) ∧ (s.rd PWR_STAT_STATE ≠ 1) ∧ (s.opOf 1 > s.rd PWR_STAT_OP) ∧ (s1 = s.clocks (s.opOf 1)) ∧ (s2 = (s1.setTarget (s.rd PWR_OPV_TARGET (s.opOf 1))).wr PWR_STAT_BUSY 1)) ∧
    (∃ (w : Word), ∃ (s : State), ∃ (s0 : State), ∃ (s1 : State), (s.rd PWR_STAT_STATE < 2) ∧ (bitsOf w.toNat 15 0 = 0x5A5A) ∧ (w.toNat.testBit 31 = true) ∧ (bitsOf w.toNat 18 16 = 2) ∧ (s.on PWR_STAT_BUSY = false) ∧ (s0 = { (s.wr PWR_STAT_BUSY 1) with pwr := { s.pwr with ask := some 2, waiting := (List.range 24).filter s.blkDelays, fwDelay := false } }) ∧ (s1 = s0.each ((List.range 24).filter s.blkDelays) (fun x k => x.arm (.handshake k) (x.blkBound k))) ∧ ((List.range 24).find? (s.blkRefuses 2) = none)) ∧
    (∃ (w : Word), ∃ (s : State), ∃ (s0 : State), ∃ (s1 : State), (s.rd PWR_STAT_STATE < 2) ∧ (bitsOf w.toNat 15 0 = 0x5A5A) ∧ (w.toNat.testBit 31 = true) ∧ (bitsOf w.toNat 18 16 = 3) ∧ (s.on PWR_STAT_BUSY = false) ∧ (s0 = { (s.wr PWR_STAT_BUSY 1) with pwr := { s.pwr with ask := some 3, waiting := (List.range 24).filter s.blkDelays, fwDelay := false } }) ∧ (s1 = s0.each ((List.range 24).filter s.blkDelays) (fun x k => x.arm (.handshake k) (x.blkBound k))) ∧ ((List.range 24).find? (s.blkRefuses 3) = none)) ∧
    (∃ (w : Word), ∃ (s : State), ∃ (s0 : State), ∃ (s1 : State), (s.rd PWR_STAT_STATE < 2) ∧ (bitsOf w.toNat 15 0 = 0x5A5A) ∧ (w.toNat.testBit 31 = true) ∧ (bitsOf w.toNat 18 16 = 4) ∧ (s.on PWR_STAT_BUSY = false) ∧ (s0 = { (s.wr PWR_STAT_BUSY 1) with pwr := { s.pwr with ask := some 4, waiting := (List.range 24).filter s.blkDelays, fwDelay := false } }) ∧ (s1 = s0.each ((List.range 24).filter s.blkDelays) (fun x k => x.arm (.handshake k) (x.blkBound k))) ∧ ((List.range 24).find? (s.blkRefuses 4) = none)) ∧
    (∃ (w : Word), ∃ (s : State), (s.rd PWR_STAT_STATE < 3) ∧ (bitsOf w.toNat 15 0 ≠ 0x5A5A ∨ (w.toNat.testBit 31 = true ∧ (bitsOf w.toNat 18 16 > 4 ∨ s.on PWR_STAT_BUSY = true ∨ bitsOf w.toNat 18 16 = s.rd PWR_STAT_STATE)))) ∧
    (∃ (st : Nat), ∃ (s : State), ∃ (s1 : State), ∃ (s2 : State), (s.opOf st > s.rd PWR_STAT_OP) ∧ (s1 = s.clocks (s.opOf st)) ∧ (s2 = (s1.setTarget (s.rd PWR_OPV_TARGET (s.opOf st))).wr PWR_STAT_BUSY 1)) ∧
    (∃ (st : Nat), ∃ (s : State), ∃ (s2 : State), (s.opOf st < s.rd PWR_STAT_OP) ∧ (s2 = (s.setTarget (s.rd PWR_OPV_TARGET (s.opOf st))).wr PWR_STAT_BUSY 1)) ∧
    (∃ (k : Fin 24), ∃ (st : Nat), ∃ (s : State), (s.pwr.ask = some st) ∧ (k ≠ 23) ∧ (s.pwr.waiting.contains k.val = true) ∧ (s.blkRefuses st k = true)) ∧
    (∃ (k : Fin 24), ∃ (st : Nat), ∃ (s : State), (s.pwr.ask = some st) ∧ (k ≠ 23) ∧ (s.pwr.waiting.contains k.val = true) ∧ (s.blkRefuses st k = false) ∧ (s.blkDelays k = false) ∧ (s.pwr.waiting.filter (· != k.val) ≠ [])) ∧
    (∃ (w : Word), ∃ (s : State), (s.pwr.ask = some 2) ∧ (s.pwr.waiting = [23]) ∧ (bitsOf w.toNat 1 0 = 1)) ∧
    (∃ (w : Word), ∃ (st : Nat), ∃ (s : State), (s.pwr.ask = some st) ∧ (st = 3 ∨ st = 4) ∧ (s.pwr.waiting = [23]) ∧ (bitsOf w.toNat 1 0 = 1)) ∧
    (∃ (w : Word), ∃ (s : State), (s.pwr.waiting = [23]) ∧ (bitsOf w.toNat 1 0 = 3) ∧ (s.pwr.fwDelay = false)) ∧
    (∃ (w : Word), ∃ (s : State), (s.pwr.waiting.contains 23 = true) ∧ (bitsOf w.toNat 1 0 = 2)) ∧
    (∃ (k : Fin 24), ∃ (s : State), (s.pwr.waiting.contains k.val = true) ∧ (s.due (.handshake k) = true) ∧ (k ≠ 13) ∧ (k ≠ 23)) ∧
    (∃ (s : State), (s.due (.handshake 13) = true) ∧ (s.pwr.ask = some 2) ∧ (s.pwr.waiting = [13, 23])) ∧
    (∃ (s : State), (s.pwr.waiting.contains 23 = true) ∧ (s.due (.handshake 23) = true)) ∧
    (∃ (k : Fin 6), ∃ (s : State), ∃ (s1 : State), ∃ (s2 : State), (s.bitAt PWR_WAKE_EN k = true) ∧ (s.pwr.ask = none) ∧ (s.rd PWR_STAT_STATE = pwHush) ∧ (s.pwr.waking = false) ∧ (s1 = ((s.putBit PWR_WCAUSE_CAUSE k true).wr PWR_STAT_WAKEEV 1).sat PWR_CNT_COUNT 3) ∧ (s.pwr.change = none) ∧ (k ≠ 1) ∧ (s1.opOf s.pwr.before < s1.rd PWR_STAT_OP) ∧ (s2 = (s1.setTarget (s1.rd PWR_OPV_TARGET (s1.opOf s.pwr.before))).wr PWR_STAT_BUSY 1)) ∧
    (∃ (k : Fin 6), ∃ (s : State), ∃ (s1 : State), (s.bitAt PWR_WAKE_EN k = true) ∧ (s.pwr.ask = none) ∧ (s.rd PWR_STAT_STATE = pwHush) ∧ (s.pwr.waking = false) ∧ (s1 = ((s.putBit PWR_WCAUSE_CAUSE k true).wr PWR_STAT_WAKEEV 1).sat PWR_CNT_COUNT 3) ∧ (s.pwr.change = none) ∧ (k ≠ 1)) ∧
    (∃ (s : State), ∃ (s1 : State), (s.bitAt PWR_WAKE_EN 1 = true) ∧ (s.pwr.ask = none) ∧ (s.rd PWR_STAT_STATE = pwDormant) ∧ (s.pwr.waking = false) ∧ (s.pwr.wakeAt ≤ s.hsw.clock) ∧ (s1 = ((s.putBit PWR_WCAUSE_CAUSE 1 true).wr PWR_STAT_WAKEEV 1).sat PWR_CNT_COUNT 3)) ∧
    (∃ (k : Fin 6), ∃ (s : State), (s.bitAt PWR_WAKE_EN k = true) ∧ (s.pwr.ask.isSome = true) ∧ (k ≠ 1)) ∧
    (∃ (mv : BitVec 12), ∃ (c : OpChange), ∃ (s : State), (s.pwr.change = some c) ∧ (mv.toNat ≤ s.pwr.target + 10) ∧ (s.pwr.target ≤ mv.toNat + 10)) ∧
    (∃ (mv : BitVec 12), ∃ (c : OpChange), ∃ (s : State), (s.pwr.change = some c) ∧ (mv.toNat ≤ s.pwr.target + 10) ∧ (s.pwr.target ≤ mv.toNat + 10) ∧ (s.pwr.next = none) ∧ (s.rd PWR_STAT_STATE ≠ pwHush) ∧ (Tab.sorted s.regs = true)) ∧
    (∃ (mv : BitVec 12), ∃ (s : State), (mv.toNat > s.pwr.target + 10 ∨ s.pwr.target > mv.toNat + 10)) ∧
    (∃ (c : OpChange), ∃ (s : State), ∃ (s1 : State), ∃ (s2 : State), (s.pwr.change = some c) ∧ (c.raise = true) ∧ (s.due .avs = true) ∧ (s1 = (((s.disarm .avs).wr PWR_STAT_AVSEV 1).sat PWR_CNT_COUNT 2).fault 10 s.pwr.target) ∧ (s2 = ((s1.setTarget (s.rd PWR_OPV_TARGET (s.rd PWR_STAT_OP))).wr PWR_STAT_BUSY 0).wr PWR_STAT_CODE (State.PwrCode.code .avsTo)) ∧ (s2.pwr.next = none)) ∧
    (∃ (s : State), (s.pwr.railen = true) ∧ (s.rd PWR_STAT_STATE < 3)) ∧
    (∃ (s : State), (s.pwr.railen = true)) ∧
    (∃ (s : State), (s.pwr.railen = true) ∧ (s.rd PWR_STAT_STATE ≥ 3) ∧ ((List.range 4).all (fun k => !Tab.get s.flt.cause (17 + k) false) = true) ∧ (Tab.sorted s.regs = true)) ∧
    (∃ (s : State), (s.rd PWR_STAT_STATE < 3) ∧ (s.pwr.railen = true) ∧ ((List.range 4).all (fun k => !Tab.get s.flt.cause (17 + k) false) = true) ∧ (Tab.sorted s.regs = true)) ∧
    (∃ (s : State), (s.rd PWR_STAT_STATE < 3) ∧ (s.pwr.railen = true)) ∧
    (∃ (s : State), ∃ (s1 : State), (s1 = (s.wr CLK_STAT_REFOK 0).wr CLK_STAT_LOSSEV 1)) ∧
    (∃ (k : Fin 5), ∃ (s : State), ∃ (s1 : State), (s1 = (s.wr (if k = 0 then CLK_STAT_SYSLK else if k = 1 then CLK_STAT_TIMELK else if k = 2 then CLK_STAT_LANELK else if k = 3 then CLK_STAT_MEMLK else CLK_STAT_PCIELK) 0).wr CLK_STAT_LOSSEV 1)) ∧
    (∃ (k : Fin 6), ∃ (s : State), ∃ (s1 : State), (s1 = s.wr (State.clkBit k) 1)) :=
  ⟨⟨({ (State.reset.wr HSW_STAT_STATE 4).wr PWR_STAT_STATE 4 with pwr := { State.reset.pwr with waking := true }, hsw := { State.reset.hsw with clock := 250 } }), by and_intros <;> decide +kernel⟩,
   ⟨0x80005A5A, ((State.reset.wr PWR_STAT_STATE 1).wr PWR_STAT_OP 3), ((State.reset.wr PWR_STAT_STATE 1).wr PWR_STAT_OP 3), ((((State.reset.wr PWR_STAT_STATE 1).wr PWR_STAT_OP 3).setTarget (((State.reset.wr PWR_STAT_STATE 1).wr PWR_STAT_OP 3).rd PWR_OPV_TARGET 0)).wr PWR_STAT_BUSY 1), by and_intros <;> decide +kernel⟩,
   ⟨0x80015A5A, (State.reset.wr PWR_CFG_TRIMOP 3), ((State.reset.wr PWR_CFG_TRIMOP 3).clocks 3), ((((State.reset.wr PWR_CFG_TRIMOP 3).clocks 3).setTarget ((State.reset.wr PWR_CFG_TRIMOP 3).rd PWR_OPV_TARGET 3)).wr PWR_STAT_BUSY 1), by and_intros <;> decide +kernel⟩,
   ⟨0x80025A5A, (State.reset.wr PWR_STAT_STATE 1), ({ ((State.reset.wr PWR_STAT_STATE 1).wr PWR_STAT_BUSY 1) with pwr := { State.reset.pwr with ask := some 2, waiting := (List.range 24).filter (State.reset.wr PWR_STAT_STATE 1).blkDelays, fwDelay := false } }), (({ ((State.reset.wr PWR_STAT_STATE 1).wr PWR_STAT_BUSY 1) with pwr := { State.reset.pwr with ask := some 2, waiting := (List.range 24).filter (State.reset.wr PWR_STAT_STATE 1).blkDelays, fwDelay := false } } : State).each ((List.range 24).filter (State.reset.wr PWR_STAT_STATE 1).blkDelays) (fun x k => x.arm (.handshake k) (x.blkBound k))), by and_intros <;> decide +kernel⟩,
   ⟨0x80035A5A, (State.reset.wr PWR_STAT_STATE 1), ({ ((State.reset.wr PWR_STAT_STATE 1).wr PWR_STAT_BUSY 1) with pwr := { State.reset.pwr with ask := some 3, waiting := (List.range 24).filter (State.reset.wr PWR_STAT_STATE 1).blkDelays, fwDelay := false } }), (({ ((State.reset.wr PWR_STAT_STATE 1).wr PWR_STAT_BUSY 1) with pwr := { State.reset.pwr with ask := some 3, waiting := (List.range 24).filter (State.reset.wr PWR_STAT_STATE 1).blkDelays, fwDelay := false } } : State).each ((List.range 24).filter (State.reset.wr PWR_STAT_STATE 1).blkDelays) (fun x k => x.arm (.handshake k) (x.blkBound k))), by and_intros <;> decide +kernel⟩,
   ⟨0x80045A5A, (State.reset.wr PWR_STAT_STATE 1), ({ ((State.reset.wr PWR_STAT_STATE 1).wr PWR_STAT_BUSY 1) with pwr := { State.reset.pwr with ask := some 4, waiting := (List.range 24).filter (State.reset.wr PWR_STAT_STATE 1).blkDelays, fwDelay := false } }), (({ ((State.reset.wr PWR_STAT_STATE 1).wr PWR_STAT_BUSY 1) with pwr := { State.reset.pwr with ask := some 4, waiting := (List.range 24).filter (State.reset.wr PWR_STAT_STATE 1).blkDelays, fwDelay := false } } : State).each ((List.range 24).filter (State.reset.wr PWR_STAT_STATE 1).blkDelays) (fun x k => x.arm (.handshake k) (x.blkBound k))), by and_intros <;> decide +kernel⟩,
   ⟨0x80015A5A, (State.reset.wr PWR_STAT_STATE 1), by and_intros <;> decide +kernel⟩,
   ⟨1, (State.reset.wr PWR_CFG_TRIMOP 3), ((State.reset.wr PWR_CFG_TRIMOP 3).clocks 3), ((((State.reset.wr PWR_CFG_TRIMOP 3).clocks 3).setTarget ((State.reset.wr PWR_CFG_TRIMOP 3).rd PWR_OPV_TARGET 3)).wr PWR_STAT_BUSY 1), by and_intros <;> decide +kernel⟩,
   ⟨0, (State.reset.wr PWR_STAT_OP 3), (((State.reset.wr PWR_STAT_OP 3).setTarget ((State.reset.wr PWR_STAT_OP 3).rd PWR_OPV_TARGET 0)).wr PWR_STAT_BUSY 1), by and_intros <;> decide +kernel⟩,
   ⟨19, 2, ({ State.reset.wr FLT_STAT_ELYTRA 1 with pwr := { State.reset.pwr with ask := some 2, waiting := [19, 23] } }), by and_intros <;> decide +kernel⟩,
   ⟨19, 2, ({ State.reset with pwr := { State.reset.pwr with ask := some 2, waiting := [19, 23] } }), by and_intros <;> decide +kernel⟩,
   ⟨1, ({ State.reset with pwr := { State.reset.pwr with ask := some 2, waiting := [23] } }), by and_intros <;> decide +kernel⟩,
   ⟨1, 4, ({ State.reset with pwr := { State.reset.pwr with ask := some 4, waiting := [23] } }), by and_intros <;> decide +kernel⟩,
   ⟨3, ({ State.reset with pwr := { State.reset.pwr with ask := some 4, waiting := [23] } }), by and_intros <;> decide +kernel⟩,
   ⟨2, ({ State.reset with pwr := { State.reset.pwr with ask := some 4, waiting := [23] } }), by and_intros <;> decide +kernel⟩,
   ⟨19, ({ State.reset with pwr := { State.reset.pwr with ask := some 2, waiting := [19, 23] }, timers := [(.handshake 19, 0)] }), by and_intros <;> decide +kernel⟩,
   ⟨({ State.reset with pwr := { State.reset.pwr with ask := some 2, waiting := [13, 23] }, timers := [(.handshake 13, 0)] }), by and_intros <;> decide +kernel⟩,
   ⟨({ State.reset with pwr := { State.reset.pwr with ask := some 2, waiting := [13, 23] }, timers := [(.handshake 23, 0)] }), by and_intros <;> decide +kernel⟩,
   ⟨5, (((State.reset.wr PWR_WAKE_EN 63).wr PWR_STAT_STATE 2).wr PWR_STAT_OP 3), (((((((State.reset.wr PWR_WAKE_EN 63).wr PWR_STAT_STATE 2).wr PWR_STAT_OP 3).putBit PWR_WCAUSE_CAUSE 5 true).wr PWR_STAT_WAKEEV 1).sat PWR_CNT_COUNT 3)), (((((((((State.reset.wr PWR_WAKE_EN 63).wr PWR_STAT_STATE 2).wr PWR_STAT_OP 3).putBit PWR_WCAUSE_CAUSE 5 true).wr PWR_STAT_WAKEEV 1).sat PWR_CNT_COUNT 3)).setTarget ((((((((State.reset.wr PWR_WAKE_EN 63).wr PWR_STAT_STATE 2).wr PWR_STAT_OP 3).putBit PWR_WCAUSE_CAUSE 5 true).wr PWR_STAT_WAKEEV 1).sat PWR_CNT_COUNT 3)).rd PWR_OPV_TARGET ((((((((State.reset.wr PWR_WAKE_EN 63).wr PWR_STAT_STATE 2).wr PWR_STAT_OP 3).putBit PWR_WCAUSE_CAUSE 5 true).wr PWR_STAT_WAKEEV 1).sat PWR_CNT_COUNT 3)).opOf 0))).wr PWR_STAT_BUSY 1), by and_intros <;> decide +kernel⟩,
   ⟨5, ((State.reset.wr PWR_WAKE_EN 63).wr PWR_STAT_STATE 2), (((((State.reset.wr PWR_WAKE_EN 63).wr PWR_STAT_STATE 2).putBit PWR_WCAUSE_CAUSE 5 true).wr PWR_STAT_WAKEEV 1).sat PWR_CNT_COUNT 3), by and_intros <;> decide +kernel⟩,
   ⟨((State.reset.wr PWR_WAKE_EN 63).wr PWR_STAT_STATE 3), (((((State.reset.wr PWR_WAKE_EN 63).wr PWR_STAT_STATE 3).putBit PWR_WCAUSE_CAUSE 1 true).wr PWR_STAT_WAKEEV 1).sat PWR_CNT_COUNT 3), by and_intros <;> decide +kernel⟩,
   ⟨5, ({ State.reset.wr PWR_WAKE_EN 63 with pwr := { State.reset.pwr with ask := some 2, waiting := [23] } }), by and_intros <;> decide +kernel⟩,
   ⟨710, ({ op := 0, raise := true, goal := 0 }), ({ State.reset with pwr := { State.reset.pwr with target := 700, change := some { op := 0, raise := true, goal := 0 } } }), by and_intros <;> decide +kernel⟩,
   ⟨710, ({ op := 2, raise := true, goal := 1 }), ({ State.reset with pwr := { State.reset.pwr with target := 700, change := some { op := 2, raise := true, goal := 1 } } }), by and_intros <;> decide +kernel⟩,
   ⟨711, ({ State.reset with pwr := { State.reset.pwr with target := 700, change := some { op := 0, raise := true, goal := 0 } } }), by decide +kernel⟩,
   ⟨({ op := 0, raise := true, goal := 0 }), ({ State.reset with pwr := { State.reset.pwr with change := some { op := 0, raise := true, goal := 0 } }, timers := [(.avs, 0)] }), ((((({ State.reset with pwr := { State.reset.pwr with change := some { op := 0, raise := true, goal := 0 } }, timers := [(.avs, 0)] } : State).disarm .avs).wr PWR_STAT_AVSEV 1).sat PWR_CNT_COUNT 2).fault 10 State.reset.pwr.target), (((((((({ State.reset with pwr := { State.reset.pwr with change := some { op := 0, raise := true, goal := 0 } }, timers := [(.avs, 0)] } : State).disarm .avs).wr PWR_STAT_AVSEV 1).sat PWR_CNT_COUNT 2).fault 10 State.reset.pwr.target).setTarget (State.reset.rd PWR_OPV_TARGET (State.reset.rd PWR_STAT_OP))).wr PWR_STAT_BUSY 0).wr PWR_STAT_CODE (State.PwrCode.code .avsTo)), by and_intros <;> decide +kernel⟩,
   ⟨({ State.reset.wr PWR_STAT_STATE 2 with pwr := { State.reset.pwr with railen := true } }), by and_intros <;> decide +kernel⟩,
   ⟨({ State.reset.wr PWR_STAT_STATE 4 with pwr := { State.reset.pwr with railen := true } }), by decide +kernel⟩,
   ⟨({ State.reset.wr PWR_STAT_STATE 4 with pwr := { State.reset.pwr with railen := true } }), by and_intros <;> decide +kernel⟩,
   ⟨({ State.reset.wr PWR_STAT_STATE 2 with pwr := { State.reset.pwr with railen := true } }), by and_intros <;> decide +kernel⟩,
   ⟨({ State.reset.wr PWR_STAT_STATE 2 with pwr := { State.reset.pwr with railen := true } }), by and_intros <;> decide +kernel⟩,
   ⟨State.reset, ((State.reset.wr CLK_STAT_REFOK 0).wr CLK_STAT_LOSSEV 1), by decide +kernel⟩,
   ⟨4, State.reset, ((State.reset.wr CLK_STAT_PCIELK 0).wr CLK_STAT_LOSSEV 1), by decide +kernel⟩,
   ⟨5, State.reset, (State.reset.wr (State.clkBit 5) 1), by decide +kernel⟩⟩

theorem witness_UsbCAttachAndContracts :
    (∃ (va : BitVec 16), ∃ (vb : BitVec 16), ∃ (vc : BitVec 16), ∃ (vout : BitVec 16), ∃ (vbus : BitVec 12), ∃ (raw : List (BitVec 14)), ∃ (held : Bool), ∃ (s : State), ∃ (s0 : State), ∃ (s1 : State), ∃ (s2 : State), (s.rd HSW_STAT_STATE = 7) ∧ (s0 = (((((s.wr HSW_VMEAS0_VA va.toNat).wr HSW_VMEAS0_VB vb.toNat).wr HSW_VMEAS1_VC vc.toNat).wr HSW_VMEAS1_VOUT vout.toNat).feedSample 0 va.toNat).feedSample 1 vb.toNat) ∧ (s1 = (s0.showCurrents (raw.take 8)).limitsShow.hswPeriod) ∧ (s1.rd HSW_STAT_STATE = 7) ∧ (s1.upd.wait = .none) ∧ (s2 = s1.wr UPD_VBUS_V vbus.toNat)) ∧
    (∃ (v : Nat), ∃ (s : State), (s.upd.wait = .discharge) ∧ (v ≤ 40)) ∧
    (∃ (cc2 : Bool), ∃ (rp : Bool), ∃ (cur : Fin 4), ∃ (s : State), ∃ (e : State), (e = s.updEvent) ∧ (e.attIs .unattached = true) ∧ (rp ≠ e.presentsRp)) ∧
    (∃ (cc2 : Bool), ∃ (cur : Nat), ∃ (s : State), ∃ (e : State), (e = s.updEvent) ∧ (e.attIs .wait = true) ∧ (e.updRan 4 150 = true) ∧ (e.upd.seen = some (cc2, true, cur)) ∧ ((e.toggles && e.rd UPD_CTRL_PREF == 2) = false) ∧ (e.rd UPD_VBUS_V > 200)) ∧
    (∃ (cc2 : Bool), ∃ (cur : Nat), ∃ (s : State), ∃ (e : State), (e = s.updEvent) ∧ (e.attIs .wait = true) ∧ (e.updRan 4 150 = true) ∧ (e.upd.seen = some (cc2, false, cur)) ∧ (e.toggles = true) ∧ (e.rd UPD_CTRL_PREF = 1)) ∧
    (∃ (cc2 : Bool), ∃ (cur : Nat), ∃ (s : State), (s.updEvent.attIs .wait = true) ∧ (s.updRan 4 150 = true) ∧ (s.upd.seen = some (cc2, false, cur)) ∧ (s.toggles = false) ∧ (Tab.sorted s.regs = true)) ∧
    (∃ (seen : Bool), ∃ (cur : Fin 4), ∃ (s : State), ∃ (e : State), (e = s.updEvent) ∧ (e.attIs .try_ = true) ∧ (e.updRan 4 (if seen then 10 else 100) = true)) ∧
    (∃ (s : State), (s.attIs .unattached = true) ∧ (s.toggles = true) ∧ (s.updRan 6 50 = true)) ∧
    (∃ (s : State), (s.attIs .snk = true) ∧ (s.upd.wait = .none) ∧ (2500 ≤ s.upd.low)) ∧
    (∃ (s : State), (s.attIs .snk = true) ∧ (s.upd.wait = .none) ∧ (2500 ≤ s.upd.low) ∧ (s.rd UPD_ALTSTAT_MODE = 0) ∧ (Tab.sorted s.regs = true)) ∧
    (∃ (s : State), (s.attIs .src = true)) ∧
    (∃ (s : State), (s.attIs .src = true) ∧ (s.rd UPD_ALTSTAT_MODE = 0) ∧ (Tab.sorted s.regs = true)) ∧
    (∃ (a : AttState), ∃ (s : State), (s.attached = true)) ∧
    (∃ (s : State), (s.rd UPD_STAT_STATE = 5) ∧ (s.updRan 4 25 = true)) ∧
    (∃ (s : State), (s.attIs .src = true) ∧ (s.pathIs .on = false)) ∧
    (∃ (s : State), (s.attIs .src = true) ∧ (s.pathIs .on = false) ∧ (s.rd UPD_ALTSTAT_MODE = 0) ∧ (Tab.sorted s.regs = true)) ∧
    (∃ (objs : List Word), ∃ (s : State), ∃ (e : State), (e = s.updEvent) ∧ (e.attIs .snk = true) ∧ (e.pdOn = true) ∧ (e.upd.wait = .caps) ∧ (capsOk (objs.map (·.toNat)) = true)) ∧
    (∃ (objs : List Word), ∃ (s : State), ∃ (e : State), (e = s.updEvent) ∧ (e.attIs .snk = true) ∧ (e.pdOn = true) ∧ (e.upd.wait = .caps) ∧ (capsOk (objs.map (·.toNat)) = false)) ∧
    (∃ (w : Word), ∃ (pos : Nat), ∃ (v : Nat), ∃ (i : Nat), ∃ (s : State), ∃ (e : State), ∃ (s1 : State), (e = s.updEvent) ∧ (e.attIs .src = true) ∧ (e.pdOn = true) ∧ (e.upd.wait = .offer) ∧ (pos = bitsOf w.toNat 31 28) ∧ (pos ≠ 0) ∧ (pos ≤ e.offers.length) ∧ (State.requestGrant (e.offers.getD (pos - 1) (false, 0, 0)) w.toNat = some (v, i)) ∧ (s1 = ((((e.pdSeen.setUpd (fun u => { u with ref := v })).pdSend .accept).pdSend .psRdy).contractSet pos (e.offers.getD (pos - 1) (false, 0, 0)).1 v i))) ∧
    (∃ (w : Word), ∃ (s : State), ∃ (e : State), (e = s.updEvent) ∧ (e.attIs .src = true) ∧ (e.pdOn = true) ∧ (e.upd.wait = .offer) ∧ (bitsOf w.toNat 31 28 = 0 ∨ bitsOf w.toNat 31 28 > e.offers.length)) ∧
    (∃ (s : State), ∃ (e : State), (e = s.updEvent) ∧ (e.upd.wait = .psRdy)) ∧
    (∃ (m : PdMsg), ∃ (s : State), (s.upd.out = [m]) ∧ (s.upd.tries < 2) ∧ (s.updRan 0 1 = true)) ∧
    (∃ (m : PdMsg), ∃ (s : State), (s.upd.out = [m]) ∧ (s.upd.tries ≥ 2) ∧ (s.updRan 0 1 = true)) ∧
    (∃ (s : State), ∃ (e : State), (e = s.updEvent) ∧ (e.upd.wait = .caps) ∧ (e.upd.noCaps < 2) ∧ (e.updRan 1 465 = true)) ∧
    (∃ (s : State), ∃ (e : State), (e = s.updEvent) ∧ (e.upd.wait = .caps) ∧ (e.upd.noCaps ≥ 2) ∧ (e.updRan 1 465 = true)) ∧
    (∃ (s : State), ∃ (e : State), (e = s.updEvent) ∧ (e.ppsSink = true) ∧ (e.pdOn = true) ∧ (e.updRan 5 (1000 * e.rd UPD_SNKCFG_KEEPALIVE) = true) ∧ (e.exchange = false) ∧ (e.txOk = true)) ∧
    (∃ (s : State), ∃ (e : State), (e = s.updEvent) ∧ (e.upd.again = true) ∧ (e.attIs .snk = true) ∧ (e.pdOn = true) ∧ (e.updRan 7 100 = true) ∧ (e.exchange = false) ∧ (e.txOk = true)) ∧
    (∃ (s : State), ∃ (e : State), (e = s.updEvent) ∧ (e.attIs .src = true) ∧ (25000 ≤ e.upd.excess)) :=
  ⟨⟨65535, 0, 0, 0, 0, [], false, (State.reset.wr HSW_STAT_STATE 7), (((((((State.reset.wr HSW_STAT_STATE 7).wr HSW_VMEAS0_VA 65535).wr HSW_VMEAS0_VB 0).wr HSW_VMEAS1_VC 0).wr HSW_VMEAS1_VOUT 0).feedSample 0 65535).feedSample 1 0), ((((((((State.reset.wr HSW_STAT_STATE 7).wr HSW_VMEAS0_VA 65535).wr HSW_VMEAS0_VB 0).wr HSW_VMEAS1_VC 0).wr HSW_VMEAS1_VOUT 0).feedSample 0 65535).feedSample 1 0 |>.showCurrents []).limitsShow.hswPeriod), (((((((((State.reset.wr HSW_STAT_STATE 7).wr HSW_VMEAS0_VA 65535).wr HSW_VMEAS0_VB 0).wr HSW_VMEAS1_VC 0).wr HSW_VMEAS1_VOUT 0).feedSample 0 65535).feedSample 1 0 |>.showCurrents []).limitsShow.hswPeriod).wr UPD_VBUS_V 0), by and_intros <;> decide +kernel⟩,
   ⟨40, ({ State.reset with upd := { State.reset.upd with wait := .discharge } }), by and_intros <;> decide +kernel⟩,
   ⟨true, true, 3, State.reset, State.reset, by and_intros <;> decide +kernel⟩,
   ⟨false, 0, ({ ({ (State.reset.wr UPD_STAT_STATE 1).wr UPD_VBUS_V 201 with upd := { State.reset.upd with seen := some (false, true, 0) } } : State) with hsw := { State.reset.hsw with clock := 37500 } }), ({ ({ (State.reset.wr UPD_STAT_STATE 1).wr UPD_VBUS_V 201 with upd := { State.reset.upd with seen := some (false, true, 0) } } : State) with hsw := { State.reset.hsw with clock := 37500 } }), by and_intros <;> decide +kernel⟩,
   ⟨false, 0, ({ ({ ((State.reset.wr UPD_STAT_STATE 1).wr UPD_CTRL_PREF 1).wr HSW_STAT_STATE 4 with upd := { State.reset.upd with seen := some (false, false, 0) } } : State) with hsw := { State.reset.hsw with clock := 37500 } }), ({ ({ ((State.reset.wr UPD_STAT_STATE 1).wr UPD_CTRL_PREF 1).wr HSW_STAT_STATE 4 with upd := { State.reset.upd with seen := some (false, false, 0) } } : State) with hsw := { State.reset.hsw with clock := 37500 } }), by and_intros <;> decide +kernel⟩,
   ⟨true, 0, ({ ((State.reset.wr UPD_STAT_STATE 1)) with upd := { State.reset.upd with seen := some (true, false, 0) }, hsw := { State.reset.hsw with clock := 37500 } }), by and_intros <;> decide +kernel⟩,
   ⟨false, 0, ({ (State.reset.wr UPD_STAT_STATE 2 : State) with hsw := { State.reset.hsw with clock := 25000 } }), ({ (State.reset.wr UPD_STAT_STATE 2 : State) with hsw := { State.reset.hsw with clock := 25000 } }), by and_intros <;> decide +kernel⟩,
   ⟨({ (State.reset.wr HSW_STAT_STATE 4 : State) with hsw := { State.reset.hsw with clock := 12500 } }), by and_intros <;> decide +kernel⟩,
   ⟨({ Tests.snk with upd := { State.reset.upd with low := 2500 } }), by and_intros <;> decide +kernel⟩,
   ⟨({ Tests.snk with upd := { State.reset.upd with low := 2500 } }), by and_intros <;> decide +kernel⟩,
   ⟨Tests.src, by decide +kernel⟩,
   ⟨Tests.src, by and_intros <;> decide +kernel⟩,
   ⟨.errrec, Tests.src, by decide +kernel⟩,
   ⟨({ (State.reset.wr UPD_STAT_STATE 5 : State) with hsw := { State.reset.hsw with clock := 6250 } }), by and_intros <;> decide +kernel⟩,
   ⟨Tests.src, by and_intros <;> decide +kernel⟩,
   ⟨Tests.src, by and_intros <;> decide +kernel⟩,
   ⟨[0x0001912C], ({ Tests.snk with upd := { State.reset.upd with wait := .caps } }), ({ Tests.snk with upd := { State.reset.upd with wait := .caps } }), by and_intros <;> decide +kernel⟩,
   ⟨[], ({ Tests.snk with upd := { State.reset.upd with wait := .caps } }), ({ Tests.snk with upd := { State.reset.upd with wait := .caps } }), by and_intros <;> decide +kernel⟩,
   ⟨0x10000000, 1, 250, 0, ({ Tests.src with upd := { State.reset.upd with wait := .offer } }), ({ Tests.src with upd := { State.reset.upd with wait := .offer } }), (((((({ Tests.src with upd := { State.reset.upd with wait := .offer } } : State).pdSeen.setUpd (fun u => { u with ref := 250 })).pdSend .accept).pdSend .psRdy).contractSet 1 false 250 0)), by and_intros <;> decide +kernel⟩,
   ⟨0xF0000000, ({ Tests.src with upd := { State.reset.upd with wait := .offer } }), ({ Tests.src with upd := { State.reset.upd with wait := .offer } }), by and_intros <;> decide +kernel⟩,
   ⟨({ Tests.snk with upd := { State.reset.upd with wait := .psRdy } }), ({ Tests.snk with upd := { State.reset.upd with wait := .psRdy } }), by and_intros <;> decide +kernel⟩,
   ⟨.accept, ({ ({ Tests.snk with upd := { State.reset.upd with out := [.accept] } } : State) with hsw := { State.reset.hsw with clock := 250 } }), by and_intros <;> decide +kernel⟩,
   ⟨.accept, ({ ({ Tests.snk with upd := { State.reset.upd with out := [.accept], tries := 2 } } : State) with hsw := { State.reset.hsw with clock := 250 } }), by and_intros <;> decide +kernel⟩,
   ⟨({ ({ Tests.snk with upd := { State.reset.upd with wait := .caps } } : State) with hsw := { State.reset.hsw with clock := 116250 } }), ({ ({ Tests.snk with upd := { State.reset.upd with wait := .caps } } : State) with hsw := { State.reset.hsw with clock := 116250 } }), by and_intros <;> decide +kernel⟩,
   ⟨({ ({ Tests.snk with upd := { State.reset.upd with wait := .caps, noCaps := 2 } } : State) with hsw := { State.reset.hsw with clock := 116250 } }), ({ ({ Tests.snk with upd := { State.reset.upd with wait := .caps, noCaps := 2 } } : State) with hsw := { State.reset.hsw with clock := 116250 } }), by and_intros <;> decide +kernel⟩,
   ⟨({ ((Tests.snk.wr UPD_CONTRACT_VALID 1).wr UPD_CONTRACT_PPS 1 : State) with hsw := { State.reset.hsw with clock := 4000000 } }), ({ ((Tests.snk.wr UPD_CONTRACT_VALID 1).wr UPD_CONTRACT_PPS 1 : State) with hsw := { State.reset.hsw with clock := 4000000 } }), by and_intros <;> decide +kernel⟩,
   ⟨({ ({ Tests.snk with upd := { State.reset.upd with again := true } } : State) with hsw := { State.reset.hsw with clock := 25000 } }), ({ ({ Tests.snk with upd := { State.reset.upd with again := true } } : State) with hsw := { State.reset.hsw with clock := 25000 } }), by and_intros <;> decide +kernel⟩,
   ⟨({ Tests.src with upd := { State.reset.upd with excess := 25000 } }), ({ Tests.src with upd := { State.reset.upd with excess := 25000 } }), by and_intros <;> decide +kernel⟩⟩

theorem witness_UsbCSwapsResetsAndModes :
    (∃ (w : Word), ∃ (s : State), ∃ (e : State), ∃ (s1 : State), (e = s.updEvent) ∧ (bitsOf w.toNat 15 0 = 0x5A5A) ∧ ([31, 30, 29, 28].filter (fun b => w.toNat.testBit b) = [31]) ∧ (e.upd.cmd = none) ∧ (e.exchange = false) ∧ (e.txOk = true) ∧ (e.attached = true) ∧ (e.on UPD_STAT_PD = true) ∧ (e.on UPD_CTRL_PRSWAP = true) ∧ (e.on UPD_STAT_PROLE = true) ∧ (s1 = ((e.wr UPD_STAT_CMDBUSY 1).stampUpd 3).setUpd (fun u => { u with cmd := none, run := some 31 }))) ∧
    (∃ (w : Word), ∃ (s : State), ∃ (e : State), ∃ (s1 : State), (e = s.updEvent) ∧ (bitsOf w.toNat 15 0 = 0x5A5A) ∧ ([31, 30, 29, 28].filter (fun b => w.toNat.testBit b) = [30]) ∧ (e.upd.cmd = none) ∧ (e.exchange = false) ∧ (e.txOk = true) ∧ (e.attached = true) ∧ (e.on UPD_STAT_PD = true) ∧ (e.on UPD_CTRL_DRSWAP = true) ∧ (s1 = ((e.wr UPD_STAT_CMDBUSY 1).stampUpd 3).setUpd (fun u => { u with cmd := none, run := some 30 }))) ∧
    (∃ (w : Word), ∃ (s : State), ∃ (e : State), ∃ (s1 : State), (e = s.updEvent) ∧ (bitsOf w.toNat 15 0 = 0x5A5A) ∧ ([31, 30, 29, 28].filter (fun b => w.toNat.testBit b) = [29]) ∧ (e.upd.cmd = none) ∧ (e.exchange = false) ∧ (e.txOk = true) ∧ (e.attached = true) ∧ (e.on UPD_STAT_PD = true) ∧ (s1 = ((e.wr UPD_STAT_CMDBUSY 1).stampUpd 3).setUpd (fun u => { u with cmd := none, run := some 29 }))) ∧
    (∃ (w : Word), ∃ (s : State), ∃ (e : State), ∃ (s1 : State), (e = s.updEvent) ∧ (bitsOf w.toNat 15 0 = 0x5A5A) ∧ ([31, 30, 29, 28].filter (fun b => w.toNat.testBit b) = [28]) ∧ (e.upd.cmd = none) ∧ (e.exchange = false) ∧ (e.txOk = true) ∧ (e.attached = true) ∧ (e.on UPD_STAT_PD = true) ∧ (s1 = ((e.wr UPD_STAT_CMDBUSY 1).stampUpd 3).setUpd (fun u => { u with cmd := none, run := some 28 }))) ∧
    (∃ (w : Word), ∃ (s : State), ∃ (e : State), (e = s.updEvent) ∧ (bitsOf w.toNat 15 0 ≠ 0x5A5A)) ∧
    (∃ (s : State), ∃ (e : State), (e = s.updEvent) ∧ (e.attached = true) ∧ (e.pdOn = true) ∧ (e.upd.wait = .none) ∧ (e.on UPD_CTRL_PRSWAP = true) ∧ (e.on UPD_STAT_PROLE = true)) ∧
    (∃ (s : State), ∃ (e : State), (e = s.updEvent) ∧ (e.attached = true) ∧ (e.pdOn = true) ∧ (e.upd.wait = .none) ∧ (e.on UPD_CTRL_PRSWAP = false)) ∧
    (∃ (s : State), ∃ (e : State), ∃ (s1 : State), (e = s.updEvent) ∧ (e.attached = true) ∧ (e.pdOn = true) ∧ (e.upd.wait = .none) ∧ (e.on UPD_CTRL_DRSWAP = true) ∧ (s1 = ((e.pdSeen.modeLeave).pdSend .accept).modeLeave)) ∧
    (∃ (s : State), (s.attached = true) ∧ (s.pdOn = true)) ∧
    (∃ (s : State), ∃ (s2 : State), (s.upd.resets = []) ∧ (s2 = ((((((s.sat UPD_CNT_COUNT 0).wr UPD_STAT_HRSTEV 1).fault 26 0).setUpd (fun u => { u with resets := [s.hsw.clock] })).modeEnd.contractEnd.attachRoles))) ∧ (s2.on UPD_STAT_CMDBUSY = false)) ∧
    (∃ (s : State), (s.attIs .src = true) ∧ (s.pdOn = true) ∧ (s.upd.src = true) ∧ (s.upd.resets = []) ∧ (s.rd UPD_ALTSTAT_MODE = 0) ∧ (s.rd UPD_STAT_CMDBUSY = 0) ∧ (s.on FLT_CFG_EN 26 = false) ∧ (Tab.sorted s.regs = true)) ∧
    (∃ (s : State), ∃ (e : State), (e = s.updEvent) ∧ (e.attached = true) ∧ (e.pdOn = true) ∧ (e.upd.run = none)) ∧
    (∃ (vconn : Bool), ∃ (s : State), ∃ (e : State), (e = s.updEvent) ∧ (e.attached = true) ∧ (e.pdOn = true)) ∧
    (∃ (s : State), ∃ (e : State), (e = s.updEvent) ∧ (e.upd.wait = .request)) ∧
    (∃ (k : Fin 4), ∃ (s : State), ∃ (e : State), (e = s.updEvent) ∧ (e.upd.wait = .prSwap) ∧ (k ≠ 0)) ∧
    (∃ (pinC : Bool), ∃ (pinD : Bool), ∃ (s : State), ∃ (e : State), (e = s.updEvent) ∧ (e.attached = true) ∧ (e.pdOn = true) ∧ (e.on UPD_STAT_DROLE = true) ∧ (e.on UPD_CONTRACT_VALID = true) ∧ (e.rd UPD_ALTSTAT_MODE = 0) ∧ (e.exchange = false) ∧ (e.txOk = true) ∧ (e.rd PWR_STAT_STATE < 3) ∧ (e.on UPD_ALT_DPEN = true) ∧ ((pinC || pinD) = true)) ∧
    (∃ (svid : BitVec 16), ∃ (s : State), ∃ (e : State), (e = s.updEvent) ∧ (e.attached = true) ∧ (e.pdOn = true) ∧ (e.on UPD_STAT_DROLE = false) ∧ (svid.toNat ≠ 0) ∧ (e.rd UPD_SVID_SVID = svid.toNat) ∧ (e.ownAvail = true) ∧ (e.rd UPD_ALTSTAT_MODE = 0)) ∧
    (∃ (svid : BitVec 16), ∃ (s : State), ∃ (e : State), (e = s.updEvent) ∧ (e.attached = true) ∧ (e.pdOn = true) ∧ (e.on UPD_STAT_DROLE = false) ∧ (e.rd UPD_SVID_SVID = 0)) ∧
    (∃ (pin : Nat), ∃ (s : State), ∃ (e : State), (e = s.updEvent) ∧ (e.upd.vdm = .enterDp pin)) ∧
    (∃ (s : State), ∃ (e : State), (e = s.updEvent) ∧ (e.attached = true) ∧ (e.pdOn = true) ∧ (e.on UPD_STAT_DROLE = false) ∧ (e.rd UPD_ALTSTAT_MODE ≠ 0)) ∧
    (∃ (s : State), ∃ (e : State), (e = s.updEvent) ∧ (e.rd UPD_ALTSTAT_MODE = 1)) ∧
    (∃ (k : Fin 3), ∃ (s : State), ∃ (e : State), (e = s.updEvent) ∧ (e.attached = true) ∧ (e.pdOn = true) ∧ (e.on UPD_STAT_DROLE = false)) :=
  ⟨⟨0x80005A5A, Tests.src, Tests.src, (((Tests.src.wr UPD_STAT_CMDBUSY 1).stampUpd 3).setUpd (fun u => { u with cmd := none, run := some 31 })), by and_intros <;> decide +kernel⟩,
   ⟨0x40005A5A, Tests.src, Tests.src, (((Tests.src.wr UPD_STAT_CMDBUSY 1).stampUpd 3).setUpd (fun u => { u with cmd := none, run := some 30 })), by and_intros <;> decide +kernel⟩,
   ⟨0x20005A5A, Tests.src, Tests.src, (((Tests.src.wr UPD_STAT_CMDBUSY 1).stampUpd 3).setUpd (fun u => { u with cmd := none, run := some 29 })), by and_intros <;> decide +kernel⟩,
   ⟨0x10005A5A, Tests.src, Tests.src, (((Tests.src.wr UPD_STAT_CMDBUSY 1).stampUpd 3).setUpd (fun u => { u with cmd := none, run := some 28 })), by and_intros <;> decide +kernel⟩,
   ⟨0x80000000, Tests.src, Tests.src, by and_intros <;> decide +kernel⟩,
   ⟨Tests.src, Tests.src, by and_intros <;> decide +kernel⟩,
   ⟨(Tests.src.wr UPD_CTRL_PRSWAP 0), (Tests.src.wr UPD_CTRL_PRSWAP 0), by and_intros <;> decide +kernel⟩,
   ⟨Tests.src, Tests.src, (((Tests.src.pdSeen.modeLeave).pdSend .accept).modeLeave), by and_intros <;> decide +kernel⟩,
   ⟨Tests.src, by and_intros <;> decide +kernel⟩,
   ⟨Tests.src, (((((((Tests.src.sat UPD_CNT_COUNT 0).wr UPD_STAT_HRSTEV 1).fault 26 0).setUpd (fun u => { u with resets := [0] })).modeEnd.contractEnd.attachRoles))), by and_intros <;> decide +kernel⟩,
   ⟨({ (Tests.src.wr FLT_CFG_EN 0 26) with upd := { State.reset.upd with src := true } }), by and_intros <;> decide +kernel⟩,
   ⟨Tests.snk, Tests.snk, by and_intros <;> decide +kernel⟩,
   ⟨false, Tests.snk, Tests.snk, by and_intros <;> decide +kernel⟩,
   ⟨({ Tests.snk with upd := { State.reset.upd with wait := .request } }), ({ Tests.snk with upd := { State.reset.upd with wait := .request } }), by and_intros <;> decide +kernel⟩,
   ⟨3, ({ Tests.snk with upd := { State.reset.upd with wait := .prSwap } }), ({ Tests.snk with upd := { State.reset.upd with wait := .prSwap } }), by and_intros <;> decide +kernel⟩,
   ⟨false, true, ((Tests.src.wr UPD_CONTRACT_VALID 1).wr UPD_ALT_DPEN 1), ((Tests.src.wr UPD_CONTRACT_VALID 1).wr UPD_ALT_DPEN 1), by and_intros <;> decide +kernel⟩,
   ⟨0xFFFF, (((Tests.snk.wr UPD_SVID_SVID 0xFFFF).wr UPD_ALT_TRKEN 1).wr TRK_CTRL_RING 0 3), (((Tests.snk.wr UPD_SVID_SVID 0xFFFF).wr UPD_ALT_TRKEN 1).wr TRK_CTRL_RING 0 3), by and_intros <;> decide +kernel⟩,
   ⟨0, Tests.snk, Tests.snk, by and_intros <;> decide +kernel⟩,
   ⟨2, ({ Tests.src with upd := { State.reset.upd with vdm := .enterDp 2 } }), ({ Tests.src with upd := { State.reset.upd with vdm := .enterDp 2 } }), by and_intros <;> decide +kernel⟩,
   ⟨(Tests.snk.wr UPD_ALTSTAT_MODE 2), (Tests.snk.wr UPD_ALTSTAT_MODE 2), by and_intros <;> decide +kernel⟩,
   ⟨(Tests.snk.wr UPD_ALTSTAT_MODE 1), (Tests.snk.wr UPD_ALTSTAT_MODE 1), by and_intros <;> decide +kernel⟩,
   ⟨2, Tests.snk, Tests.snk, by and_intros <;> decide +kernel⟩⟩

theorem witness_FaultCollector :
    (∃ (j : Fin 8), ∃ (w : Word), ∃ (hw : Word), ∃ (b : Nat), ∃ (s : State), ((List.range 32).filter (fun k => (w &&& ~~~hw).toNat.testBit k) = [b]) ∧ (s.fltStatus (32 * j + b) = true) ∧ (s.fltCause (32 * j + b) = false)) ∧
    (∃ (j : Fin 8), ∃ (w : Word), ∃ (hw : Word), ∃ (b : Nat), ∃ (s : State), ((List.range 32).filter (fun k => (w &&& ~~~hw).toNat.testBit k) = [b]) ∧ (s.fltCause (32 * j + b) = true)) ∧
    (∃ (j : Fin 8), ∃ (w : Word), ∃ (hw : Word), ∃ (s : State), (w &&& ~~~hw = 0)) ∧
    (∃ (slot : Fin 256), ∃ (w : Word), ∃ (s : State), ∃ (s1 : State), (slotUsed slot = true) ∧ (w.toNat.testBit 31 = true) ∧ (s.on FLT_CTRL_LOCK = false) ∧ (bitsOf w.toNat 26 25 ≠ 3) ∧ (s.rd FLT_CFG_FLOOR slot ≤ bitsOf w.toNat 26 25) ∧ (w.toNat.testBit 29 = false) ∧ (s1 = s.writeFields false [FLT_CFG_IRQ, FLT_CFG_ESCT, FLT_CFG_EN, FLT_CFG_CLASS, FLT_CFG_FORCE] slot 0 w.toNat) ∧ (s1.fltForced slot = false) ∧ (s1.fltStatus slot = false)) ∧
    (∃ (slot : Fin 256), ∃ (w : Word), ∃ (s : State), (slotUsed slot = false)) ∧
    (∃ (slot : Fin 256), ∃ (cls : Nat), ∃ (s : State), ∃ (s1 : State), ∃ (s2 : State), (slotUsed slot = true) ∧ (s.fltStatus slot = true) ∧ (s.due (.escalate slot) = true) ∧ (cls = s.fltClass slot) ∧ (cls < 2) ∧ (s1 = { s with flt := { s.flt with eff := Tab.put s.flt.eff slot (cls + 1) 0 } }) ∧ (s2 = (s1.fltLog slot (cls + 1) (s1.rd FLT_DET_DETAIL slot) false true).sat FLT_CNT_COUNT 3) ∧ (s2.on FLT_CFG_IRQ slot = false)) ∧
    (∃ (code : BitVec 16), ∃ (t : Int), ∃ (s : State), (s.fuse 0x91 = 0) ∧ (t = 25 + divZ ((code.toNat - 1600) * 90) 900) ∧ (t ≤ 125) ∧ (t ≤ s.rd FLT_TEMP_TWARN) ∧ ((s.rd FLT_TEMP_TWARN : Int) - 5 ≤ t) ∧ (s.flt.cool < 9)) ∧
    (∃ (code : BitVec 16), ∃ (s : State), ∃ (s1 : State), (s.fuse 0x91 = 0) ∧ (25 + divZ ((code.toNat - 1600) * 90) 900 > 125) ∧ ((25 + divZ ((code.toNat - 1600) * 90) 900 : Int) > (s.rd FLT_TEMP_TWARN : Int)) ∧ (s.flt.hot ≥ 9) ∧ (s1 = (s.wr FLT_TEMP_TEMP (codeOf 16 (25 + divZ ((code.toNat - 1600) * 90) 900))).causeOn 5 (codeOf 16 (25 + divZ ((code.toNat - 1600) * 90) 900))) ∧ (s1.flt.hot = s.flt.hot)) ∧
    (∃ (e : Nat), ∃ (s : State), ∃ (s1 : State), ∃ (s2 : State), ∃ (s3 : State), ∃ (s4 : State), (s.rd PWR_STAT_STATE < 3) ∧ (s.on FLT_STAT_ELYTRA = false) ∧ (e = s.rd FLT_LOGWR_WR % 64) ∧ (s1 = ({ ((((s.wr FLT_STAT_ELYTRA 1).wr FLT_STAT_ESLOT 1).wr FLT_STAT_SWENTER 0).wr FLT_STAT_SELF 1) with flt := { s.flt with faultN := true } } : State).haltBlocks) ∧ (s2 = ((((s1.wrFree FLT_LOG0_SLOT e).wrFree FLT_LOG0_CLASS e).wrFree FLT_LOG0_FORCED e).wrFree FLT_LOG0_ESC e).wrFree FLT_LOG0_DETAIL e) ∧ (s3 = ((((s2.wrFree FLT_LOG1_NS e).wrFree FLT_LOG2_SEC_LO e).wrFree FLT_LOG3_SEC_HI e).wrFree FLT_LOG3_UNTRACED e).wrFree FLT_LOGWR_WR) ∧ (s4 = s3.each (List.range 177) (fun s k => if slotUsed k then (s.free 1).2.putBit FLT_STATUS_BITS (k % 32) ((s.free 1).1 == 1) (k / 32) else s))) ∧
    (∃ (slot : Nat), ∃ (detail : Nat), ∃ (cls : Nat), ∃ (forced : Bool), ∃ (s : State), ∃ (s2 : State), ∃ (s3 : State), (slotUsed slot = true) ∧ (s.rd PWR_STAT_STATE < 3) ∧ (s.fltStatus slot = false) ∧ (s.on FLT_CFG_EN slot = true) ∧ (s.on FLT_CFG_IRQ slot = false) ∧ (cls = max (s.fltClass slot) (s.rd FLT_CFG_CLASS slot)) ∧ (cls ≠ 2) ∧ (s2 = { s.putBit FLT_STATUS_BITS (slot % 32) true (slot / 32) with flt := { s.flt with eff := Tab.put s.flt.eff slot cls 0 } }) ∧ (s3 = (s2.wr FLT_DET_DETAIL detail slot).sat FLT_DET_COUNT slot)) ∧
    (∃ (a : BitVec 19), ∃ (cls : Nat), ∃ (s : State), ∃ (s2 : State), ∃ (s3 : State), (s.rd PWR_STAT_STATE < 3) ∧ (s.fltStatus 3 = false) ∧ (s.on FLT_CFG_EN 3 = true) ∧ (s.on FLT_CFG_IRQ 3 = false) ∧ (cls = max (s.fltClass 3) (s.rd FLT_CFG_CLASS 3)) ∧ (cls ≠ 2) ∧ (s2 = { s.putBit FLT_STATUS_BITS 3 true 0 with flt := { s.flt with eff := Tab.put s.flt.eff 3 cls 0 } }) ∧ (s3 = (s2.wr FLT_DET_DETAIL (a.toNat / 8) 3).sat FLT_DET_COUNT 3)) ∧
    (∃ (w : Word), ∃ (s : State), (bitsOf w.toNat 15 0 = 0x5A5A) ∧ (w.toNat.testBit 31 = false) ∧ (w.toNat.testBit 30 = true)) ∧
    (∃ (w : Word), ∃ (s : State), (bitsOf w.toNat 15 0 = 0x5A5A) ∧ (w.toNat.testBit 31 = false) ∧ (w.toNat.testBit 30 = true) ∧ (s.on FLT_STAT_ELYTRA = false) ∧ (s.rd PWR_STAT_STATE < 3)) ∧
    (∃ (w : Word), ∃ (s : State), (bitsOf w.toNat 15 0 = 0x5A5A) ∧ (w.toNat.testBit 31 = true) ∧ (w.toNat.testBit 30 = false) ∧ (s.on FLT_STAT_ELYTRA = true) ∧ (s.on FLT_STAT_SELF = false) ∧ ((List.range 177).all (fun k => !(s.fltStatus k && s.fltClass k == 2)) = true)) ∧
    (∃ (w : Word), ∃ (s : State), (bitsOf w.toNat 15 0 = 0x5A5A) ∧ (w.toNat.testBit 31 = true) ∧ (w.toNat.testBit 30 = false) ∧ (s.on FLT_STAT_ELYTRA = true) ∧ (s.on FLT_STAT_SELF = true)) :=
  ⟨⟨5, 0x10000, 0, 16, (State.reset.putBit FLT_STATUS_BITS 16 true 5), by and_intros <;> decide +kernel⟩,
   ⟨0, 0x100, 0, 8, (State.reset.causeOn 8 0), by and_intros <;> decide +kernel⟩,
   ⟨5, 0x10000, 0x10000, (State.reset.putBit FLT_STATUS_BITS 16 true 5), by decide +kernel⟩,
   ⟨176, 0x84000000, State.reset, (State.reset.writeFields false [FLT_CFG_IRQ, FLT_CFG_ESCT, FLT_CFG_EN, FLT_CFG_CLASS, FLT_CFG_FORCE] 176 0 0x84000000), by and_intros <;> decide +kernel⟩,
   ⟨177, 0, State.reset, by decide +kernel⟩,
   ⟨176, 1, ({ (((State.reset.putBit FLT_STATUS_BITS 16 true 5).wr FLT_CFG_ESCT 5 176).wr FLT_CFG_CLASS 1 176 |>.wr FLT_CFG_IRQ 0 176) with timers := [(.escalate 176, 0)] }), ({ (((State.reset.putBit FLT_STATUS_BITS 16 true 5).wr FLT_CFG_ESCT 5 176).wr FLT_CFG_CLASS 1 176 |>.wr FLT_CFG_IRQ 0 176) with timers := [(.escalate 176, 0)], flt := { State.reset.flt with eff := [(176, 2)] } }), ((({ (((State.reset.putBit FLT_STATUS_BITS 16 true 5).wr FLT_CFG_ESCT 5 176).wr FLT_CFG_CLASS 1 176 |>.wr FLT_CFG_IRQ 0 176) with timers := [(.escalate 176, 0)], flt := { State.reset.flt with eff := [(176, 2)] } } : State).fltLog 176 2 0 false true).sat FLT_CNT_COUNT 3), by and_intros <;> decide +kernel⟩,
   ⟨2370, 102, (State.reset.wr FLT_TEMP_TWARN 105), by and_intros <;> decide +kernel⟩,
   ⟨2610, ({ State.reset with flt := { State.reset.flt with hot := 9 } }), ((({ State.reset with flt := { State.reset.flt with hot := 9 } } : State).wr FLT_TEMP_TEMP 126).causeOn 5 126), by and_intros <;> decide +kernel⟩,
   ⟨0, State.reset, (({ ((((State.reset.wr FLT_STAT_ELYTRA 1).wr FLT_STAT_ESLOT 1).wr FLT_STAT_SWENTER 0).wr FLT_STAT_SELF 1) with flt := { State.reset.flt with faultN := true } } : State).haltBlocks), _, _, _, by decide +kernel, by decide +kernel, by decide +kernel, rfl, rfl, rfl, rfl⟩,
   ⟨176, 65535, 0, false, (((State.reset.wr FLT_CFG_EN 1 176).wr FLT_CFG_CLASS 0 176).wr FLT_CFG_IRQ 0 176), ({ ((((State.reset.wr FLT_CFG_EN 1 176).wr FLT_CFG_CLASS 0 176).wr FLT_CFG_IRQ 0 176).putBit FLT_STATUS_BITS 16 true 5) with flt := { State.reset.flt with eff := Tab.put State.reset.flt.eff 176 0 0 } }), ((({ ((((State.reset.wr FLT_CFG_EN 1 176).wr FLT_CFG_CLASS 0 176).wr FLT_CFG_IRQ 0 176).putBit FLT_STATUS_BITS 16 true 5) with flt := { State.reset.flt with eff := Tab.put State.reset.flt.eff 176 0 0 } } : State).wr FLT_DET_DETAIL 65535 176).sat FLT_DET_COUNT 176), by and_intros <;> decide +kernel⟩,
   ⟨0x7FFFF, 0, ((State.reset.wr FLT_CFG_CLASS 0 3).wr FLT_CFG_IRQ 0 3), ({ ((State.reset.wr FLT_CFG_CLASS 0 3).wr FLT_CFG_IRQ 0 3).putBit FLT_STATUS_BITS 3 true 0 with flt := { State.reset.flt with eff := Tab.put [] 3 0 0 } }), ((({ ((State.reset.wr FLT_CFG_CLASS 0 3).wr FLT_CFG_IRQ 0 3).putBit FLT_STATUS_BITS 3 true 0 with flt := { State.reset.flt with eff := Tab.put [] 3 0 0 } } : State).wr FLT_DET_DETAIL 65535 3).sat FLT_DET_COUNT 3), by and_intros <;> decide +kernel⟩,
   ⟨0x40005A5A, State.reset, by and_intros <;> decide +kernel⟩,
   ⟨0x40005A5A, State.reset, by and_intros <;> decide +kernel⟩,
   ⟨0x80005A5A, (State.reset.wr FLT_STAT_ELYTRA 1), by and_intros <;> decide +kernel⟩,
   ⟨0x80005A5A, ((State.reset.wr FLT_STAT_ELYTRA 1).wr FLT_STAT_SELF 1), by and_intros <;> decide +kernel⟩⟩

theorem witness_PinsAndSerialBuses :
    (∃ (p : Fin 32), ∃ (ball : Bool), ∃ (level : Bool), ∃ (ago : Nat), ∃ (s : State), ∃ (s2 : State), (level = (ball != s.on GPIO_PIN_POL p)) ∧ (s.bitAt GPIO_IN_LEVEL p = !level) ∧ (s2 = (if s.rd GPIO_PIN_EDGE p = 3 || (s.rd GPIO_PIN_EDGE p = 1 && level) || (s.rd GPIO_PIN_EDGE p = 2 && !level) then (s.putBit GPIO_IN_LEVEL p level).putBit GPIO_EVST_EDGE p true else s.putBit GPIO_IN_LEVEL p level)) ∧ (s2.gpio.queue.length < 64) ∧ (s.rd GPIO_PIN_FILT p * 4000 * 2 ^ 32 ≤ ago)) ∧
    (∃ (b : Fin 2), ∃ (w : Word), ∃ (s : State), (w.toNat.testBit 31 = true) ∧ (s.on I2C_STAT_BUSY b = false) ∧ (s.on I2C_CFG_EN b = true)) ∧
    (∃ (b : Fin 2), ∃ (w : Word), ∃ (s : State), (w.toNat.testBit 31 = true) ∧ (w.toNat.testBit 28 = true) ∧ (s.on I2C_STAT_BUSY b = false) ∧ (s.on I2C_CFG_EN b = true)) ∧
    (∃ (b : Fin 2), ∃ (w : Word), ∃ (s : State), (w.toNat.testBit 31 = true) ∧ (s.on I2C_STAT_BUSY b = true ∨ s.on I2C_CFG_EN b = false)) ∧
    (∃ (b : Fin 2), ∃ (c : Nat), ∃ (data : Byte), ∃ (s : State), (s.on I2C_STAT_BUSY b = true) ∧ (c = Tab.get s.gpio.i2cCmd b 0) ∧ (c.testBit 28 = true) ∧ (c.testBit 29 = false)) ∧
    (∃ (b : Fin 2), ∃ (c : Nat), ∃ (data : Byte), ∃ (s : State), (s.on I2C_STAT_BUSY b = true) ∧ (c = Tab.get s.gpio.i2cCmd b 0) ∧ (c.testBit 28 = false) ∧ (c.testBit 29 = true)) ∧
    (∃ (b : Fin 2), ∃ (data : Byte), ∃ (s : State), (s.on I2C_STAT_BUSY b = true)) ∧
    (∃ (b : Fin 2), ∃ (data : Byte), ∃ (s : State), (s.on I2C_STAT_BUSY b = true) ∧ ((Tab.get s.gpio.i2cCmd b 0).testBit 30 = true) ∧ (s.stretched b = true)) ∧
    (∃ (b : Fin 2), ∃ (s : State), (s.on I2C_STAT_BUSY b = true) ∧ (s.stretched b = true)) ∧
    (∃ (w : Word), ∃ (s : State), ∃ (t : State), (w.toNat.testBit 31 = true) ∧ (s.on MDIO_STAT_BUSY = false) ∧ (s.on MDIO_CFG_EN = true) ∧ (w.toNat.testBit 30 = true ∨ bitsOf w.toNat 29 28 = 1 ∨ bitsOf w.toNat 29 28 = 2) ∧ (t = { (s.wr MDIO_STAT_BUSY 1) with gpio := { s.gpio with mdioCmd := w.toNat % 2 ^ 31 } })) ∧
    (∃ (w : Word), ∃ (s : State), (w.toNat.testBit 31 = true) ∧ (w.toNat.testBit 30 = false) ∧ (bitsOf w.toNat 29 28 = 0 ∨ bitsOf w.toNat 29 28 = 3)) ∧
    (∃ (data : BitVec 16), ∃ (s : State), (s.on MDIO_STAT_BUSY = true) ∧ (2 ≤ bitsOf s.gpio.mdioCmd 29 28)) ∧
    (∃ (resp : Bool), ∃ (data : BitVec 16), ∃ (s : State), (s.on MDIO_STAT_BUSY = true) ∧ (bitsOf s.gpio.mdioCmd 29 28 < 2)) :=
  ⟨⟨31, true, true, 0, (State.reset.wr GPIO_PIN_EDGE 3 31), (((State.reset.wr GPIO_PIN_EDGE 3 31).putBit GPIO_IN_LEVEL 31 true).putBit GPIO_EVST_EDGE 31 true), by and_intros <;> decide +kernel⟩,
   ⟨1, 0xC00000A0, (State.reset.wr I2C_CFG_EN 1 1), by and_intros <;> decide +kernel⟩,
   ⟨1, 0xF0000000, (State.reset.wr I2C_CFG_EN 1 1), by and_intros <;> decide +kernel⟩,
   ⟨1, 0xF0000000, State.reset, by and_intros <;> decide +kernel⟩,
   ⟨1, 0x10000000, 255, ({ State.reset.wr I2C_STAT_BUSY 1 1 with gpio := { State.reset.gpio with i2cCmd := [(1, 0x10000000)] } }), by and_intros <;> decide +kernel⟩,
   ⟨1, 0x20000000, 255, ({ State.reset.wr I2C_STAT_BUSY 1 1 with gpio := { State.reset.gpio with i2cCmd := [(1, 0x20000000)] } }), by and_intros <;> decide +kernel⟩,
   ⟨1, 0, (State.reset.wr I2C_STAT_BUSY 1 1), by decide +kernel⟩,
   ⟨1, 0, ({ State.reset.wr I2C_STAT_BUSY 1 1 with gpio := { State.reset.gpio with i2cCmd := [(1, 0x40000000)] }, timers := [(.stretch 1, 0)], tmu := { State.reset.tmu with elapsed := 1000000000 * 2 ^ 32 } }), by and_intros <;> decide +kernel⟩,
   ⟨1, ({ State.reset.wr I2C_STAT_BUSY 1 1 with timers := [(.stretch 1, 0)], tmu := { State.reset.tmu with elapsed := 1000000000 * 2 ^ 32 } }), by and_intros <;> decide +kernel⟩,
   ⟨0xF0000001, (State.reset.wr MDIO_CFG_EN 1), ({ ((State.reset.wr MDIO_CFG_EN 1).wr MDIO_STAT_BUSY 1) with gpio := { State.reset.gpio with mdioCmd := 0x70000001 } }), by and_intros <;> decide +kernel⟩,
   ⟨0xB0000001, (State.reset.wr MDIO_CFG_EN 1), by and_intros <;> decide +kernel⟩,
   ⟨0xFFFF, ({ State.reset.wr MDIO_STAT_BUSY 1 with gpio := { State.reset.gpio with mdioCmd := 0x70000001 } }), by and_intros <;> decide +kernel⟩,
   ⟨false, 0xFFFF, ({ State.reset.wr MDIO_STAT_BUSY 1 with gpio := { State.reset.gpio with mdioCmd := 0x10000001 } }), by and_intros <;> decide +kernel⟩⟩

theorem witness_EveryStepKeepsSound : (∃ (s : State), ∃ (t : State), (s.Sound) ∧ (step s = .next t)) := ⟨State.reset, State.reset, ⟨by decide, by decide, by decide, by decide, by decide, by decide⟩, rfl⟩

theorem witness_NoStepUnburnsAFuse : (∃ (s : State), ∃ (t : State), (step s = .next t)) := ⟨({ State.reset with pending := [.powerOnReset] }), ({ State.reset with bnk := { State.reset.bnk with lost := 1 } }), rfl⟩

theorem witness_OnlyTheFrontLeavesTheQueue :
    (∃ (c : Instr), ∃ (s : State), ∃ (t : State), (exec c s = .next t)) ∧
    (∃ (c : Instr), ∃ (l : List Instr), ∃ (s : State), ∃ (t : State), (s.pending = c :: l) ∧ (step s = .next t)) :=
  ⟨⟨.perstDeassert, State.reset, State.reset, rfl⟩,
   ⟨.perstDeassert, [.perstAssert], ({ State.reset with pending := [.perstDeassert, .perstAssert] }), ({ State.reset with pending := [.perstAssert] }), rfl, rfl⟩⟩

theorem witness_UnalignedAccessesHaveNoEffect : (∃ (off : BitVec 26), ∃ (w : Word), ∃ (hw : Word), ∃ (mgmt : Bool), ∃ (s : State), (off.toNat % 4 ≠ 0) ∧ (padWindow off.toNat 4 = false)) := ⟨0x180002, 0, 0, false, State.reset, by and_intros <;> decide +kernel⟩

theorem witness_RejectedPhaseEvents :
    (∃ (fall : Bool), ∃ (ago : Nat), ∃ (s : State), ∃ (t : Nat), (s.rd CYC_CTRL_SRC = 1) ∧ (fall = s.on CYC_ZC_CFG_EDGE) ∧ (t = s.tmu.elapsed - ago) ∧ (s.zcMasked t = false) ∧ (s.intervalOk t = false)) ∧
    (∃ (w : Word), ∃ (s : State), (s.rd CYC_CTRL_SRC = 2) ∧ (bitsOf w.toNat 31 16 ≠ s.rd TMU_STAT_STEPCNT ∨ s.rd CYC_SV_NS_NS > 999999999 ∨ s.svAge (bitsOf w.toNat 15 0) < 0 ∨ s.svAge (bitsOf w.toNat 15 0) > 25000000 * 2 ^ 16)) :=
  ⟨⟨false, 0, ({ State.reset.wr CYC_CTRL_SRC 1 with cyc := { State.reset.cyc with hist := [0] } }), 0, by and_intros <;> decide +kernel⟩,
   ⟨0x10000, (State.reset.wr CYC_CTRL_SRC 2), by and_intros <;> decide +kernel⟩⟩
end

