-- ==== Sys2Proof/WellFormed.lean ====
section
/-! DEFINITION. Which commands are well formed: the lengths and alignments that the spec fixes for their operands (widths and ranges of indices are in the types). The meanings are total and take every command. -/

namespace Sys2Proof

/-- The command's operands have the lengths and alignments of the spec: an aligned register offset (R22, R46), 24 bytes of capability record (R160), an 8-byte credit or alignment block (R123, R152), a payload of at most 2,048 bytes (R145), one access per master and cycle (R261), 100 pulses of IRIG-B (R341), at least one byte through BAR4 (R373), eight current channels (R463), seven power objects, a 4 KiB place in flash (R435). -/
def Instr.wellFormed : Instr → Bool
  | .registerWrite off _ _ _ => off.toNat % 4 == 0
  | .unalignedAccess _ => true
  | .unmappedRegisterAccess off _ => off.toNat % 4 == 0
  | .blockLockSet off _ _ => off.toNat % 4 == 0
  | .counterClear off _ _ => off.toNat % 4 == 0
  | .trunkPacketReceive _ _ _ _ _ _ _ => true
  | .ilimRetry _ => true
  | .policedPacketRelease _ => true
  | .packetSelect _ _ => true
  | .transmitComplete _ => true
  | .leakAudit => true
  | .fabSelfWrite _ => true
  | .fabRegionWrite _ => true
  | .contextWordWrite _ _ _ => true
  | .destinationListWrite _ _ => true
  | .ctxOpen _ => true
  | .ctxActivate _ => true
  | .ctxClose _ => true
  | .ctxAbort _ => true
  | .ctxcmdComplete => true
  | .openToExpiry _ => true
  | .closeToExpiry _ => true
  | .retireExpiry _ => true
  | .inflightDrained _ => true
  | .tunnelOpenRequest _ _ _ _ _ _ _ => true
  | .tunnelOpenAnswer _ _ _ _ => true
  | .helloSend _ _ => true
  | .helloReceive _ bytes => bytes.length ≤ 2048
  | .helloLoss _ => true
  | .timeTick => true
  | .incrementWrite _ => true
  | .setTime => true
  | .step => true
  | .slew => true
  | .snap => true
  | .setApply => true
  | .stepApply => true
  | .slewApply => true
  | .snapApply => true
  | .slewEnd => true
  | .compareFire _ => true
  | .comparePulseEnd _ => true
  | .ppsInputEdge _ _ _ => true
  | .ppsInputLos _ => true
  | .ppsOutputEdge _ => true
  | .ppsOutputTrail _ => true
  | .leapApply => true
  | .twoStepPop _ => true
  | .mainsBoundary => true
  | .cycSrcWrite _ => true
  | .cycIncrWrite _ => true
  | .mainsZcEdge _ _ => true
  | .svObservation _ => true
  | .phaseEventProcess => true
  | .mainsLosExpiry => true
  | .holdoverExpiry => true
  | .angleConversion _ => true
  | .conversionDone => true
  | .laneCtrlWrite _ _ => true
  | .cdrLock _ => true
  | .cdrAcqTimeout _ => true
  | .headerLock _ => true
  | .headerHuntTimeout _ => true
  | .alignmentBlockReceive _ _ bytes _ => bytes.isEmpty || bytes.length == 8
  | .alignTimeout _ => true
  | .losDetect _ _ => true
  | .losClear _ _ => true
  | .cdrLoss _ => true
  | .headerLoss _ _ _ => true
  | .alignmentBlockSend _ _ => true
  | .bondSkewMeasure _ _ _ _ _ => true
  | .bondTimeout _ => true
  | .bondFailExpiry _ => true
  | .eyeScanGo _ _ => true
  | .eyeScanAbort _ => true
  | .eyeScanDone _ _ => true
  | .prbsCheckStart _ _ => true
  | .prbsCheckerLock _ _ => true
  | .prbsCheckerLoss _ _ => true
  | .prbsInject _ => true
  | .trkEnable _ => true
  | .trkDisable _ => true
  | .bondTrialTimeout _ => true
  | .capabilitySend _ => true
  | .capabilityReceive _ bytes => bytes.length == 24
  | .trainTimeout _ => true
  | .sealTimeout _ => true
  | .holdExpiry _ => true
  | .sealLoad _ _ => true
  | .creditBlockReceive _ bytes => bytes.length == 8
  | .creditReturn _ => true
  | .creditRefresh _ => true
  | .heartbeatLoss _ => true
  | .creditStall _ _ => true
  | .grantWrite _ _ _ => true
  | .epochAdvance _ => true
  | .rxEpochDerive _ => true
  | .kl2EnableWrite _ => true
  | .kl2PacketReceive _ => true
  | .xoffReceive _ _ => true
  | .xoffSend => true
  | .xlatWrite _ _ => true
  | .rsmSend _ => true
  | .rsmReceive _ _ => true
  | .rsmLoss _ => true
  | .steeringScan => true
  | .restoreExpiry _ => true
  | .ddEntryAge => true
  | .ddFlush => true
  | .qlimWrite _ _ => true
  | .qrsvWrite _ _ => true
  | .mirrorRuleWrite _ _ => true
  | .captureCfgWrite _ => true
  | .captureRdWrite _ => true
  | .captureRecordWrite => true
  | .edgeCtrlWrite _ _ => true
  | .edgeLinkUp _ _ _ => true
  | .edgeLinkDown _ => true
  | .edgeFrameReceive _ _ _ => true
  | .shaperRefill => true
  | .gateBoundary _ => true
  | .queueSample => true
  | .bankWrite _ _ => true
  | .planCheck => true
  | .planArm _ => true
  | .planDisarm => true
  | .planCopy => true
  | .planCommandDone => true
  | .planSwitch => true
  | .planDeadline => true
  | .engineEnable _ => true
  | .engineDisable _ => true
  | .engineReady _ => true
  | .engineStartTimeout _ => true
  | .engineWatchdogKick _ => true
  | .engineWatchdog _ => true
  | .engineTrap _ => true
  | .engineEccHalt _ => true
  | .engineRestart _ => true
  | .serviceBind _ _ => true
  | .serviceActivate _ => true
  | .serviceUnbind _ _ => true
  | .engineDispatch _ => true
  | .enginePacketSend _ payload => payload.length ≤ 2048
  | .ping _ _ => true
  | .stats _ _ _ => true
  | .quiesce _ _ _ => true
  | .resume _ _ _ => true
  | .mailboxResponse _ _ => true
  | .mailboxTimeout _ _ => true
  | .eventRecordSend _ => true
  | .svCycleComplete _ => true
  | .scratchpadAccess _ l => (l.map (fun a => a.master.val)).Nodup
  | .bankOwnerWrite _ _ _ _ => true
  | .bankHandoverDone _ => true
  | .headEnable _ _ => true
  | .dpLinkTraining _ _ => true
  | .hpdLow => true
  | .hpdIrq => true
  | .frameStart _ _ => true
  | .windowClose _ => true
  | .applyPoint _ => true
  | .fetchUnderrun _ _ _ _ _ => true
  | .softwareCommit _ _ => true
  | .teEdge _ _ _ => true
  | .teTimeout _ => true
  | .displayTile _ => true
  | .displayPalette _ => true
  | .displayCommit _ => true
  | .displayAckSend _ => true
  | .tileCopyback _ _ => true
  | .dstat _ _ _ => true
  | .dclr _ _ _ => true
  | .usbAttach => true
  | .usbDetach => true
  | .usbBusReset _ _ => true
  | .usbSuspend => true
  | .usbResume => true
  | .usbRemoteWake _ => true
  | .remoteWakeEnd => true
  | .portModeWrite _ _ => true
  | .localPortRequest _ _ _ => true
  | .portConnect _ _ _ => true
  | .portResetEnd _ _ => true
  | .nearPortRequest _ _ => true
  | .startSplit _ _ _ _ _ => true
  | .completeSplit _ _ _ _ => true
  | .xferReceive _ => true
  | .deviceTransactionDone _ _ => true
  | .resultReceive _ => true
  | .xferRto _ _ => true
  | .sofSend _ => true
  | .interruptPoll _ _ _ => true
  | .periodicReceive _ => true
  | .perackReceive _ => true
  | .periodicRto _ _ _ => true
  | .portcmdReceive _ => true
  | .portackReceive _ => true
  | .portcmdTimeout _ => true
  | .portstatSend _ => true
  | .portstatReceive _ => true
  | .proxySilence _ => true
  | .wakeReceive _ => true
  | .ustat _ _ _ => true
  | .uclr _ _ _ => true
  | .endpointEnable _ _ => true
  | .endpointArm _ _ => true
  | .endpointDisarm _ => true
  | .endpointHalt _ => true
  | .setupReceive _ _ _ => true
  | .endpointToken _ _ _ => true
  | .endpointMemoryAccess _ _ => true
  | .blockCmdReceive _ => true
  | .blockCmdExecute _ _ => true
  | .blockDataReceive _ => true
  | .blockCmdComplete _ _ => true
  | .blockCplReceive _ => true
  | .blockRto _ _ => true
  | .blockDataTimeout _ _ => true
  | .tagQuarantineEnd _ _ => true
  | .bstat _ _ _ => true
  | .bclr _ _ _ => true
  | .backendEnable _ => true
  | .backendInitDone _ _ _ _ _ _ _ _ => true
  | .backendCommandDone _ _ _ _ _ => true
  | .backendCommandTimeout _ _ => true
  | .backendRemoval _ => true
  | .cardDetect _ _ => true
  | .uartCharacterReceive _ _ _ _ => true
  | .uartGapExpiry _ => true
  | .uartLineStuck _ => true
  | .uartLineRelease _ => true
  | .uartRingWrite _ _ _ => true
  | .uartTransmit _ => true
  | .serialMessageSend _ => true
  | .serialMessageReceive _ => true
  | .serialHoldExpiry _ => true
  | .sstat _ _ _ => true
  | .sclr _ _ _ => true
  | .irigOnTime _ => true
  | .irigFrame ws => ws.length == 100
  | .irigLos => true
  | .irigOutputSecond => true
  | .perstAssert => true
  | .pcieLinkUp _ _ => true
  | .pcieLinkDown => true
  | .hotReset => true
  | .functionLevelReset => true
  | .busMasterChange _ _ => true
  | .ringEnable _ _ => true
  | .ringDisable _ => true
  | .ringDrained _ => true
  | .doorbellWrite _ _ _ _ => true
  | .eventDoorbellWrite _ => true
  | .eventRingEnable _ => true
  | .descriptorFetch _ _ => true
  | .txDescriptor _ _ => true
  | .rxDelivery _ _ => true
  | .rxwaitExpiry _ => true
  | .svcDescriptor _ => true
  | .svcComplete _ _ => true
  | .holdoffExpiry _ => true
  | .windowEnable _ _ => true
  | .bridgeRead _ _ n => 1 ≤ n
  | .bridgeWrite _ _ data _ => !data.isEmpty
  | .bridgeAccessIssue _ => true
  | .bridgeReadTimeout _ => true
  | .rdataReceive _ => true
  | .memoryReadReceive _ _ => true
  | .memoryWriteReceive _ _ => true
  | .signalReceive _ _ => true
  | .memoryAckSend _ => true
  | .memoryAckReceive _ => true
  | .wfailReceive _ => true
  | .memoryRto _ => true
  | .memoryHoldExpiry _ _ => true
  | .signalSend _ => true
  | .prefetchLineExpiry _ _ => true
  | .mstat _ _ _ => true
  | .mclr _ _ _ => true
  | .dmaEnable _ => true
  | .dmaDisable _ => true
  | .shadowValid _ _ => true
  | .dmaLoad _ => true
  | .dmaStartAt _ => true
  | .dmaTransferDone _ => true
  | .dmaBusError _ _ _ _ => true
  | .dmaResume _ => true
  | .dramTrainingStart _ => true
  | .dramTrainingDone _ => true
  | .dramScrub _ _ => true
  | .hash => true
  | .hmac _ => true
  | .kdf _ _ => true
  | .kdfec _ _ => true
  | .keygen _ _ => true
  | .pubkey _ => true
  | .sign _ => true
  | .verify => true
  | .ecdhkdf _ _ => true
  | .random _ => true
  | .destroy _ => true
  | .imgver _ => true
  | .enroll _ => true
  | .lcadv _ _ => true
  | .arbadv _ _ => true
  | .revoke _ _ => true
  | .fuse _ => true
  | .keyCommandDone => true
  | .slotCheckSweep => true
  | .offerSend _ => true
  | .offerReceive _ _ => true
  | .proofReceive _ _ => true
  | .abortReceive _ _ => true
  | .certreqReceive _ _ => true
  | .chainReceive _ _ place _ => place % 4096 == 0
  | .powerOnReset => true
  | .porstAssert => true
  | .chipReset _ => true
  | .chipResetRelease _ _ _ => true
  | .genRstChip _ => true
  | .genRstMgmt _ => true
  | .mgmtReset _ => true
  | .mgmtWatchdogKick _ => true
  | .mgmtWatchdogExpiry => true
  | .bootFuses _ _ => true
  | .bootKeys _ _ => true
  | .pufRetry _ _ => true
  | .bootSram => true
  | .bootTable => true
  | .bootMgmt => true
  | .bootConfig => true
  | .configPoll => true
  | .configPollTimeout => true
  | .configDelay => true
  | .bootEngines => true
  | .bootRun => true
  | .imageSlotWrite _ _ _ => true
  | .seatDebounceComplete => true
  | .removal => true
  | .feedValid _ => true
  | .feedUndervoltage _ => true
  | .feedOvervoltage _ _ => true
  | .idealDiodeOn _ => true
  | .idealDiodeReverseOff _ => true
  | .feedcOvervoltage _ => true
  | .noFeed => true
  | .rampEnd => true
  | .pathgdRise => true
  | .limitRecompute _ _ _ _ _ raw _ => raw.length ≤ 8
  | .faultTimerTrip => true
  | .fastTrip _ => true
  | .retryExpiry => true
  | .retryReset => true
  | .pathOffCommand _ => true
  | .pathOnCommand _ => true
  | .clearLatch => true
  | .passDamaged => true
  | .sinkSwitchClose => true
  | .sinkSwitchOpen _ => true
  | .limitWrite _ _ => true
  | .efuseLimitTrip _ _ => true
  | .efuseFastTrip _ _ => true
  | .efuseThermalTrip _ => true
  | .ccTerminationDetect _ _ _ => true
  | .attachDebounce => true
  | .tryExpiry _ _ => true
  | .drpToggle => true
  | .sinkDetach => true
  | .sourceDetach => true
  | .errrecExpiry => true
  | .feedPathLeaveOn => true
  | .sourceCapabilitiesReceive objs => objs.length ≤ 7
  | .requestReceive _ => true
  | .psRdyReceive => true
  | .pdTimerExpiry _ => true
  | .ppsKeepalive => true
  | .sourceCurrentLimitTrip => true
  | .updPrswap _ => true
  | .updDrswap _ => true
  | .updHreset _ => true
  | .updExitalt _ => true
  | .prSwapReceive => true
  | .drSwapReceive => true
  | .hardResetReceive => true
  | .softResetReceive => true
  | .unsupportedMessageReceive _ => true
  | .altModeDiscovery _ _ _ _ => true
  | .enterModeReceive _ => true
  | .enterModeAck _ => true
  | .exitModeReceive => true
  | .dpAttention _ _ => true
  | .pwrCmdRun _ => true
  | .pwrCmdTrim _ => true
  | .pwrCmdHush _ => true
  | .pwrCmdDormant _ => true
  | .pwrCmdOff _ => true
  | .handshakeAnswer _ => true
  | .firmwareAnswer _ => true
  | .handshakeTimeout _ => true
  | .wakeEvent _ => true
  | .wakeTimerExpiry => true
  | .avsConfirm _ => true
  | .avsTimeout => true
  | .powerGood => true
  | .railUndervoltage => true
  | .referenceClockLost => true
  | .pllLockLost _ => true
  | .faultStatusClear _ _ _ => true
  | .faultCfgWrite _ _ => true
  | .faultEscalation _ => true
  | .temperatureSample _ => true
  | .configParitySweep _ => true
  | .collectorLockstepMismatch => true
  | .mgmtLockstepMismatch => true
  | .mgmtSramEcc _ => true
  | .elytraEnterCommand _ => true
  | .elytraExitCommand _ => true
  | .gpioEdge _ _ _ => true
  | .i2cWriteByte _ _ => true
  | .i2cReadByte _ _ => true
  | .i2cCommandDone _ _ _ => true
  | .i2cStretchTimeout _ => true
  | .mdioC22Write _ => true
  | .mdioC22Read _ => true
  | .mdioC45Address _ => true
  | .mdioC45Write _ => true
  | .mdioC45ReadIncrement _ => true
  | .mdioC45Read _ => true
  | .mdioFrameDone _ _ => true
  | .farDeviceRemoteWake _ => true
  | .portDisconnect _ => true
  | .portResumeEnd _ => true
  | .acceptRejectWaitReceive _ => true
  | .waitRequestRepeat => true
  | .discoverRequestReceive _ => true
  | .referenceClockReturn _ => true
  | .perstDeassert => true
  | .sinkDeadTimeExpiry => true

end Sys2Proof
end

