-- ==== Sys2Proof/Tests/Slice0.lean ====
section
/-! SUPPORT. Tests of the model: an ill-formed command for each check of WellFormed, and the worked examples of the spec. Every expected value is worked out in the spec file that the test names. -/

set_option Elab.async false

open Sys2Proof Sys2Proof.Machine

/-! Commands that WellFormed refuses, one for each of its checks. -/

theorem test_ill_register_write : (Instr.registerWrite 2 0 false 0).wellFormed = false := by decide
theorem test_ill_unmapped_access : (Instr.unmappedRegisterAccess 1 false).wellFormed = false := by decide
theorem test_ill_block_lock_set : (Instr.blockLockSet 3 0 false).wellFormed = false := by decide
theorem test_ill_counter_clear : (Instr.counterClear 5 0 0).wellFormed = false := by decide
theorem test_ill_capability_receive : (Instr.capabilityReceive 0 [1, 2, 3]).wellFormed = false := by decide
theorem test_ill_credit_block_receive : (Instr.creditBlockReceive 0 [1]).wellFormed = false := by decide
theorem test_ill_hello_receive : (Instr.helloReceive 0 (List.replicate 2049 0)).wellFormed = false := by decide +kernel
theorem test_ill_irig_frame : (Instr.irigFrame []).wellFormed = false := by decide
theorem test_ill_alignment_block : (Instr.alignmentBlockReceive 0 2 [1] []).wellFormed = false := by decide
theorem test_ill_engine_packet : (Instr.enginePacketSend 0 (List.replicate 2049 0)).wellFormed = false := by decide +kernel
theorem test_ill_scratchpad_access :
    (Instr.scratchpadAccess 0 (List.replicate 2 { master := 3, word := 0, write := false, data := 0, be := 0, ecc := 0 })).wellFormed = false := by decide
theorem test_ill_bridge_read : (Instr.bridgeRead false 0 0).wellFormed = false := by decide
theorem test_ill_bridge_write : (Instr.bridgeWrite false 0 [] true).wellFormed = false := by decide
theorem test_ill_chain_receive : (Instr.chainReceive 0 [] 4095 true).wellFormed = false := by decide
theorem test_ill_limit_recompute : (Instr.limitRecompute 0 0 0 0 0 (List.replicate 9 0) false).wellFormed = false := by decide
theorem test_ill_source_capabilities : (Instr.sourceCapabilitiesReceive (List.replicate 8 0)).wellFormed = false := by decide

/-- No word spells a command: the table gives no row any bits. -/
theorem test_no_word : decodeTableWord 16 0xFFFF = none := by decide

/-- Register writes by the host, in order. -/
def Sys2Proof.Tests.writes (s : State) (l : List (Nat × Nat)) : State := l.foldl (fun s x => s.regWrite x.1 x.2 false) s

/-- The state of a command's outcome. -/
def Sys2Proof.Tests.after (i : Instr) (s : State) : State :=
  match exec i s with
  | .next t => t
  | _ => State.reset

/-! 02_fabric_addressing.md: addresses and route tables. -/

theorem test_address_of_display_head : (37 <<< 18 ||| 2 <<< 15 ||| 5 <<< 11 ||| 9 <<< 7 ||| 1 <<< 3) = 0x952C88 ∧ stationOf 0x952C88 = 37 ∧
    ringOf 0x952C88 = 2 ∧ chainOf 0x952C88 = 5 ∧ hubOf 0x952C88 = 9 ∧ adapterOf 0x952C88 = 1 ∧ functionOf 0x952C88 = 0 := by decide

/-- Hub 3 reads hub_table[9] for that address: entry 128 + 8 + 16 + 9 of the four tables in order. -/
theorem test_route_level : (Tests.after (.fabSelfWrite 0x80952980) State.reset).routeIndex 0x952C88 = some 161 := by decide +kernel

/-- The route entry 0x8000_0002 of hub_table[9] at FAB offset 0x0_12A4 leaves by TRK2. -/
theorem test_route_entry : (routeOf 161).2 = 9 ∧ ((Tests.writes State.reset [(0x1812A4, 0x80000002)]).rd (routeOf 161).1.pri 9) = 2 ∧
    ((Tests.writes State.reset [(0x1812A4, 0x80000002)]).on (routeOf 161).1.valid 9) = true := by decide +kernel

/-! 03_time.md: increment, compare distance, transparent clock, PPS output. -/

theorem test_increment_in_range : incrOk 0x1FFFE5C93 = true ∧ incrOk 0x200418938 = false := by decide
theorem test_increment_pending : (Tests.writes State.reset [(0xA000C, 1)]).tmu.incr = 0x200000000 ∧
    (Tests.writes State.reset [(0xA000C, 1), (0xA0008, 0xFFFE5C93)]).tmu.incr = 0x1FFFE5C93 := by decide +kernel
theorem test_compare_distance : diff32 0xF0000000 0x01E1A300 = -300000000 := by decide

/-- A Sync message from TRK0 with link delay 4,892.5 ns, asymmetry 3.25 ns and 587.125 ns in the hub. -/
theorem test_correction :
    let s := ((State.reset.wr PT_CFG_LDLYEN 1 0).wr PT_LDLY_LDLY 1252480 0).wr PT_ASYM_ASYM 212992 0
    ({ s with tmu := { s.tmu with elapsed := 4697 * 2 ^ 29 } }.correct 1 { hdr := { ts := true, corr := 0x0A2C4000 }, iport := 0 }).2.hdr.corr
      = 0x1F972000 := by decide +kernel

/-- PPS_OUT0 612.5 ns early at increment 0x1_FFFE_5C93, 0.8125 ns after the tick: tap 6. -/
theorem test_pps_taps :
    let s := ((State.reset.wr PPSO_OFS_OFS 0xFFFD9B8 0).wr PPSO_CFG_EN 1 0).wr TMU_STAT_TVALID 1
    ({ s with tmu := { s.tmu with incr := 0x1FFFE5C93, tod := { sec := 9, ns := 999999386, frac := 0xB0000000 } } }.ppsOutEdge 0).tmu.ppsTaps = [(0, 6)] := by
  decide +kernel

/-! 04_mains_cycle.md: the tracker at 49.95 Hz, and the conversion of a quarter cycle. -/

/-- A tracker that is LOCKED, at the increment of the examples, with eight intervals behind it. -/
def Sys2Proof.Tests.tracker : State :=
  { (State.reset.wr CYC_STAT_STATE cycLocked) with
    tmu := { State.reset.tmu with incr := 0x1FFFE5C93 }, cyc := { State.reset.cyc with hist := List.replicate 9 0, incr := 28118892, conv := some 0x4000 } }

/-- The accepted event of the example. -/
def Sys2Proof.Tests.trackerEvent : PhaseEvent :=
  { a := 2 ^ 33, t := 160160160 * 2 ^ 32, avgn := 3, kp := 3, stepThr := 0x400, lockThr := 0x10, lockN := 4 }

theorem test_tracker_candidate : Tests.tracker.eventFreq Tests.trackerEvent = 28118999 ∧ Tests.tracker.eventSteps Tests.trackerEvent = false ∧
    Tests.tracker.eventCand Tests.trackerEvent = 28118892 := by decide +kernel
theorem test_angle_conversion : (Tests.tracker.convDone.rd CYC_CONV_NS_NS, Tests.tracker.convDone.rd CYC_CONV_FRAC_FRAC) = (0x4C5EDF, 0xFE91) := by
  decide +kernel

/-! 05_serial_lanes.md: the scrambler undoes itself from any state after 58 bits, and PRBS7 has a period of 127 bits. -/

theorem test_scrambler : (descramble 5 (scramble 77 (payloadBits (List.range 16 |>.map (BitVec.ofNat 8 ·)))).1).1.drop 58
    = (payloadBits (List.range 16 |>.map (BitVec.ofNat 8 ·))).drop 58 := by decide +kernel
theorem test_prbs7_period : (prbsRun 0 127 1).2 = 1 ∧ (prbsRun 0 63 1).2 ≠ 1 := by decide +kernel

/-! 06_trunk_link.md: the header of a display packet, and costs in credits. -/

theorem test_header : headerBytes { cls := 4, tunid := 17, dest := 0x952C88, src := 0x9529B0, seq := 0x123, payload := List.replicate 1040 0 } false
    = [0xE0, 0x11, 0x4A, 0x96, 0x44, 0x25, 0x4A, 0x6C, 0x00, 0x48, 0xC4, 0x10, 0, 0, 0, 0, 0, 0] := by decide +kernel
theorem test_header_read : (parseHeader [0xE0, 0x11, 0x4A, 0x96, 0x44, 0x25, 0x4A, 0x6C, 0x00, 0x48, 0xC4, 0x10, 0, 0, 0, 0, 0, 0, 0, 0]).pkt
    = { cls := 4, tunid := 17, dest := 0x952C88, src := 0x9529B0, seq := 0x123 } := by decide +kernel
theorem test_cost : costOf 1514 = 12 ∧ costOf 60 = 1 ∧ costOf 8208 = 65 := by decide
theorem test_reserves : State.reset.rsvSum = 2816 ∧ State.reset.readReg 0x100010 = 2816 := by decide +kernel

/-! 09_bandwidth_plans.md: a protection window on TRK0 at 60 Hz, and one refill. -/

/-- The list of the example as written to bank A, the port ×4 and sealed, the accumulator 3 × 2^32 units before the list starts. -/
def Sys2Proof.Tests.window : State :=
  let s := (((State.reset.wr SHP_GCTL_EN 1 0 0).wr SHP_GCTL_ANCHOR 1 0 0).wr SHP_GCTL_LEN 2 0 0).wr SHP_GSTART_START 0xC000 0 0
  let s1 := (((s.wr SHP_GATE_GATES 0xE0 0 0).wr SHP_GATE_INTERVAL 0x1000 0 0).wr SHP_GATE_GATES 0xFF 1 0).wr SHP_GATE_INTERVAL 0xF000 1 0
  let s2 := ((((s1.wr CYC_STAT_MVALID 1).wr TRK_STAT_SEALED 1 0).wr TRK_STAT_WIDTH 3 0))
  { s2 with cyc := { s2.cyc with incr := 33776997, acc := 0xC000 * 2 ^ 32 - 3 * 2 ^ 32 } }

theorem test_window_remaining : Tests.window.remaining16 0 2 = some 50000000 := by decide +kernel
theorem test_window_own_time : Tests.window.shapedLen 0 { hdr := { cls := 2 } } = 48 ∧ Tests.window.ownTime 0 9264 = 744320 := by decide +kernel
theorem test_gate_registers :
    let s := Tests.writes State.reset [(0x160000, 0xE0001000), (0x160004, 0xFF00F000), (0x16300C, 0xC0000000), (0x163000, 0xCFF00002)]
    s.gateList 0 1 = [(0xE0, 0x1000), (0xFF, 0xF000)] ∧ s.rd SHP_GSTART_START 0 1 = 0xC000 ∧ s.rd SHP_GCTL_FBMASK 0 1 = 0xFF := by decide +kernel

/-- 20 Gb/s brings 2,560 bytes to −6,000: the shaper stands at −3,440 bytes. -/
theorem test_refill :
    let s := ((Tests.writes State.reset [(0x164010, 0x81312D00), (0x164014, 0x03010000)]).wr SHP_PLAN_STAT_ACTIVE 1).setTokens 2 (-6000 * State.tokenUnit)
    (s.refillShaper 2).tokens 2 = -3440 * State.tokenUnit := by decide +kernel

/-! 13_storage_serial.md: a block command's header and its range, and a UART on a Modbus bus. -/

theorem test_blk_header : blkHeader 1 1 5 0x200 0xFFF80 127 0 false = [0x01, 0x45, 0x02, 0x00, 0x00, 0x00, 0x0F, 0xFF, 0x80, 0x7F, 0, 0, 0, 0, 0, 0] := by decide +kernel

/-- An ACTIVE target on the eMMC device, BASE 0x40_0000, SIZE 0x10_0000, STG 16, version 3. -/
def Sys2Proof.Tests.mmc : State :=
  (((Tests.params (Tests.entry 3) [1, 1, 0, 0, 0, 0, 0x40, 0, 0, 0, 0, 0x10, 0, 0, 16, 0]).wr STO_STAT_MMCSTATE 2).wr TEN_SVC1_RXSLOT 9 1).wr CTX2_VER 3 9

theorem test_blk_in_range : Tests.mmc.partBase 1 = 0x400000 ∧ Tests.mmc.partSize 1 = 0x100000 ∧
    Tests.mmc.blkCheck 1 (parseBlk (blkHeader 1 1 5 0x200 0xFFF80 127 0 false)) = none := by decide +kernel
theorem test_blk_out_of_range : Tests.mmc.blkCheck 1 (parseBlk (blkHeader 1 1 5 0x200 0xFFF80 128 0 false)) = some .range := by decide +kernel
theorem test_uart_registers :
    let s := Tests.writes State.reset [(0x2000C0, 0xCD000000), (0x2000C4, 0x00028B0A), (0x2000C8, 0x004D0000), (0x2000CC, 0x00000101)]
    s.rd SER_CTRL_EN 3 = 1 ∧ s.rd SER_BAUD_DIV 3 = 166666 ∧ s.rd SER_FRM_GAP 3 = 77 := by decide +kernel

/-! 15_bridge_dma.md: a rectangle of a surface copied into bank 5 on channel 3. -/

/-- The register writes of the example in their order, but for the last, on a hub with the channel enabled and a 4 GiB DRAM. -/
def Sys2Proof.Tests.rectangle : State :=
  Tests.writes (((State.reset.wr DMC_CTRL_EN 1 3).wr DMC_STAT_STATE dmaIdle 3).wr DRC_CTRL_DEVSZ 4)
    [(0x91320, 0x1002EE40), (0x91324, 0), (0x91328, 0x50000), (0x9132C, 0), (0x91330, 0x00C7013F), (0x91334, 0x780), (0x91338, 0xF9FF), (0x9133C, 0),
      (0x91340, 0x86000000)]

theorem test_dma_geometry :
    let s := Tests.rectangle.dmaCopy 3
    (s.dmaSrc 3).total = 64000 ∧ (s.dmaDst 3).total = 64000 ∧ (s.dmaSrc 3).last + 1 = 0x1008C400 ∧ (s.dmaDst 3).last + 1 = 0x5FA00 ∧
      s.dmaFailure 3 = none := by decide +kernel

/-! 16_security.md: the input of the key derivation and a session's registers. -/

theorem test_seal_label : ascii "KL3-SEAL" = [0x4B, 0x4C, 0x33, 0x2D, 0x53, 0x45, 0x41, 0x4C] := by decide
theorem test_own_direction :
    (((Tests.after (.fabSelfWrite 0x80952980) State.reset).wr TRK_SEAL_PARTNER 0x12A54 0).ownDirection 0) = 0 := by decide +kernel

/-! 18_power_entry.md: thresholds of a 5 mΩ shunt at ILIM 8 A and PLIM 40 W. -/

/-- The calibrated card of the example. -/
def Sys2Proof.Tests.card : State :=
  ((((State.reset.wr HSW_LIMIT_ILIM 800).wr HSW_LIMIT_PLIM 400).wr HSW_SHUNT_SHUNT 5000 0).wr HSW_CAL_GAIN 33100 0).wr HSW_CAL_OFFSET (codeOf 16 (-12)) 0

theorem test_limit_threshold : Tests.card.rawThreshold 8000 = 3155 ∧ Tests.card.rawThreshold 16000 = 6323 := by decide +kernel
theorem test_current_reading : Tests.card.rawCurrent 0 1000 = 2555 := by decide +kernel
theorem test_effective_limit : (Tests.card.wr HSW_VMEAS1_VC 24000).effLimit = 833 := by decide +kernel

/-! 19_usb_c_power.md: the choice of an APDO at 15.90 V and 2.40 A. -/

/-- Fixed 5 V, 9 V and 15 V at 3 A, and an APDO of 3.3–16 V at 3 A. -/
def Sys2Proof.Tests.laptop : List Nat := [0x0001912C, 0x0002D12C, 0x0004B12C, 0xC000_0000 + 160 * 2 ^ 17 + 33 * 2 ^ 8 + 60]

theorem test_laptop_caps : capsOk Tests.laptop = true := by decide
theorem test_request_word :
    ((Tests.writes State.reset [(0x40008, 0xC3E802EE), (0x4000C, 0x31B00A30)]).chooseObject Tests.laptop).w = 0x43063630 := by decide +kernel

/-! 20_power_states.md: the target of OP2 under a fuse of 85 and a MARGIN of 20. -/

theorem test_target :
    ({ (Tests.writes State.reset [(0x20008, 0x0023140A)]) with keys := { State.reset.keys with fuse := [(0x92, 85 * 2 ^ 16)] } }.targetsShow).rd PWR_OPV_TARGET 2 = 705 := by
  decide +kernel

/-! 21_faults.md: ESCT 11 of source 88 is 1,024 ms. -/

theorem test_escalation_time : (((State.reset.wr FLT_CFG_ESCT 11 88).fault 88 0).deadline (.escalate 88)) = some (1024000000 * 2 ^ 32) := by decide +kernel

/-! 22_pins_electrical.md: the junction sensor at 104.8 °C. -/

theorem test_junction : ({ State.reset with keys := { State.reset.keys with fuse := [(0x91, 2500 * 2 ^ 16 + 1600)] } }.junction 2398) = 104 := by decide +kernel

/-! The standards' own examples of the algorithms that 16_security.md names. -/

theorem test_sha384_abc : ofBe (sha384 (ascii "abc"))
    = 0xCB00753F45A35E8BB5A03D699AC65007272C32AB0EDED1631A8B605A43FF5BED8086072BA1E7CC2358BAECA134C825A7 := by decide +kernel
theorem test_gcm : (ofBe (gcmSeal (List.replicate 32 0) (List.replicate 12 0) [] (List.replicate 16 0)).1,
    ofBe (gcmSeal (List.replicate 32 0) (List.replicate 12 0) [] (List.replicate 16 0)).2)
    = (0xCEA7403D4D606B6E074EC5D3BAF39D18, 0xD0D1C8A799996BF0265B98B5D48AB919) := by decide +kernel
theorem test_p384_base : p384OnCurve (beBytes 48 p384Gx ++ beBytes 48 p384Gy) = true ∧ (curveAffine (curveTimes p384Order curveBase)) = (0, 0) := by
  decide +kernel
end

section
/-! PROOFS. Arithmetic on words, and what a write leaves in each field of a register (R15, R18, R20 to R23, R46, R48). -/

namespace Sys2Proof

theorem bitsOf_lt (v hi lo : Nat) : bitsOf v hi lo < 2 ^ (hi + 1 - lo) := Nat.mod_lt _ (Nat.two_pow_pos _)

@[simp] theorem bitsOf_zero (hi lo : Nat) : bitsOf 0 hi lo = 0 := by simp [bitsOf]

/-- Bits put back where they were read leave a number as it is. -/
theorem setBits_bitsOf {hi lo : Nat} (h : lo ≤ hi) (v : Nat) : setBits v hi lo (bitsOf v hi lo) = v := by
  obtain ⟨n, hn⟩ : ∃ n, hi + 1 = lo + n := ⟨hi + 1 - lo, by omega⟩
  have hlo := Nat.div_add_mod v (2 ^ lo)
  have hhi := Nat.div_add_mod (v / 2 ^ lo) (2 ^ n)
  simp only [setBits, bitsOf, hn, Nat.add_sub_cancel_left, Nat.mod_mod, Nat.pow_add, ← Nat.div_div_eq_div_mul]
  calc v / 2 ^ lo / 2 ^ n * (2 ^ lo * 2 ^ n) + v / 2 ^ lo % 2 ^ n * 2 ^ lo + v % 2 ^ lo
      = 2 ^ lo * (2 ^ n * (v / 2 ^ lo / 2 ^ n) + v / 2 ^ lo % 2 ^ n) + v % 2 ^ lo := by
        rw [Nat.mul_add]
        ac_rfl
    _ = v := by rw [hhi, hlo]

/-- Taking away the bits that a second number shares clears exactly those. -/
theorem testBit_sub_and (a b k : Nat) : (a - (a &&& b)).testBit k = (a.testBit k && !b.testBit k) := by
  have hle := Nat.and_le_left (n := a) (m := b)
  have hodd := Nat.and_mod_two_eq_one (a := a) (b := b)
  induction k generalizing a b with
  | zero =>
    rw [Bool.eq_iff_iff]
    simp only [Nat.testBit_zero, Bool.and_eq_true, Bool.not_eq_true', decide_eq_true_eq, decide_eq_false_iff_not]
    omega
  | succ k ih =>
    have hhalf : (a - (a &&& b)) / 2 = a / 2 - (a / 2 &&& b / 2) := by
      rw [← Nat.and_div_two]
      omega
    simp only [Nat.testBit_succ, hhalf, ih _ _ Nat.and_le_left Nat.and_mod_two_eq_one]

end Sys2Proof

namespace Sys2Proof.Machine

/-! Folds over a state. -/

@[simp] theorem State.each_nil {α : Type} (s : State) (f : State → α → State) : s.each [] f = s := rfl

@[simp] theorem State.each_cons {α : Type} (s : State) (a : α) (l : List α) (f : State → α → State) :
    s.each (a :: l) f = (f s a).each l f := rfl

/-- What every element's step keeps, the whole fold keeps. -/
theorem State.each_keeps {α : Type} {P : State → Prop} {f : State → α → State} {l : List α} {s : State}
    (hf : ∀ t, ∀ a ∈ l, P t → P (f t a)) (hs : P s) : P (s.each l f) := by
  induction l generalizing s with
  | nil => exact hs
  | cons a l ih => exact ih (fun t b hb => hf t b (List.mem_cons_of_mem _ hb)) (hf s a List.mem_cons_self hs)

/-- What one element's step brings about and every step keeps holds after the whole fold. -/
theorem State.each_reaches {α : Type} {P : State → Prop} {f : State → α → State} {a : α} {l : List α} {s : State}
    (ha : a ∈ l) (hset : ∀ t, P (f t a)) (hf : ∀ t, ∀ b ∈ l, P t → P (f t b)) : P (s.each l f) := by
  induction l generalizing s with
  | nil => cases ha
  | cons b l ih =>
    have hkeep : ∀ t, ∀ c ∈ l, P t → P (f t c) := fun t c hc => hf t c (List.mem_cons_of_mem _ hc)
    rcases List.mem_cons.mp ha with rfl | hl
    · rw [State.each_cons]
      exact State.each_keeps hkeep (hset s)
    · exact ih hl hkeep

/-- A fold whose every step leaves a value as it is leaves it as it is. -/
theorem foldl_fixes {α β : Type} {f : β → α → β} {v : β} {l : List α} (h : ∀ a ∈ l, f v a = v) : l.foldl f v = v := by
  induction l with
  | nil => rfl
  | cons a l ih => rw [List.foldl_cons, h a List.mem_cons_self, ih fun b hb => h b (List.mem_cons_of_mem _ hb)]

/-! One field of a written word. -/

/-- The code that a field holds after a write of the word `w`, from the code it held (R15, R23, R48). -/
def Field.written (F : Field) (lk : Bool) (old w : Nat) : Nat :=
  let v := bitsOf w F.hi F.lo
  match F.acc with
  | .rw => if F.codeOk v then v else old
  | .rwl => if !lk && F.codeOk v then v else old
  | .w1c => (old - (old &&& v)) % 2 ^ F.width
  | .w1s => (old ||| v) % 2 ^ F.width
  | .cnt => 0
  | .ro | .wo => old

/-- A written field takes a code, or nothing happens. -/
theorem State.writeField_cases (s : State) (lk : Bool) (F : Field) (i j w : Nat) :
    s.writeField lk F i j w = s ∨ ∃ v, s.writeField lk F i j w = s.wr F v i j := by
  cases h : F.acc <;> simp only [State.writeField, h]
  case rw | rwl =>
    split
    · exact .inr ⟨_, rfl⟩
    · exact .inl rfl
  case w1c | w1s | cnt => exact .inr ⟨_, rfl⟩
  case ro | wo => exact .inl trivial

theorem State.sorted_writeField {s : State} (h : Tab.sorted s.regs = true) (lk : Bool) (F : Field) (i j w : Nat) :
    Tab.sorted (s.writeField lk F i j w).regs = true := by
  rcases s.writeField_cases lk F i j w with e | ⟨v, e⟩ <;> rw [e]
  · exact h
  · exact State.sorted_wr h F v i j

theorem State.rd_writeField_ne {F G : Field} {i j k l : Nat} (h : F.key i j ≠ G.key k l) (s : State) (lk : Bool) (w : Nat) :
    (s.writeField lk F i j w).rd G k l = s.rd G k l := by
  rcases s.writeField_cases lk F i j w with e | ⟨v, e⟩ <;> rw [e]
  exact State.rd_wr_ne h v

theorem State.writeField_regs (s : State) (lk : Bool) (F : Field) (i j w : Nat) :
    s.writeField lk F i j w = { s with regs := (s.writeField lk F i j w).regs } := by
  rcases s.writeField_cases lk F i j w with e | ⟨v, e⟩
  · rw [e]
  · rw [e]
    rfl

/-- What a field reads after a write of its register's word. -/
theorem State.rd_writeField_self {s : State} (h : Tab.sorted s.regs = true) (lk : Bool) (F : Field) (i j w : Nat) :
    (s.writeField lk F i j w).rd F i j = F.written lk (s.rd F i j) w := by
  have hv : bitsOf w F.hi F.lo % 2 ^ F.width = bitsOf w F.hi F.lo := Nat.mod_eq_of_lt (bitsOf_lt w F.hi F.lo)
  cases hacc : F.acc <;> simp only [State.writeField, Field.written, hacc]
  case rw | rwl =>
    split
    · rw [State.rd_wr_self h, hv]
    · rfl
  case w1c | w1s | cnt => simp [State.rd_wr_self h]

/-! All fields of a written word. -/

@[simp] theorem State.writeFields_nil (s : State) (lk : Bool) (i j w : Nat) : s.writeFields lk [] i j w = s := rfl

@[simp] theorem State.writeFields_cons (s : State) (lk : Bool) (F : Field) (fs : List Field) (i j w : Nat) :
    s.writeFields lk (F :: fs) i j w = (s.writeField lk F i j w).writeFields lk fs i j w := rfl

/-- A write of a register leaves every field with a key of its own alone. -/
theorem State.rd_writeFields_ne {G : Field} {i j k l : Nat} {fs : List Field} (h : ∀ A ∈ fs, A.key i j ≠ G.key k l)
    (s : State) (lk : Bool) (w : Nat) : (s.writeFields lk fs i j w).rd G k l = s.rd G k l := by
  induction fs generalizing s with
  | nil => rfl
  | cons A fs ih =>
    rw [State.writeFields_cons, ih (fun B hB => h B (List.mem_cons_of_mem _ hB)), State.rd_writeField_ne (h A List.mem_cons_self)]

/-- A write of a register changes the register table and nothing else. -/
theorem State.writeFields_regs (s : State) (lk : Bool) (fs : List Field) (i j w : Nat) :
    s.writeFields lk fs i j w = { s with regs := (s.writeFields lk fs i j w).regs } := by
  induction fs generalizing s with
  | nil => rfl
  | cons A fs ih =>
    rw [State.writeFields_cons, ih]
    generalize ((s.writeField lk A i j w).writeFields lk fs i j w).regs = regs
    rw [s.writeField_regs]

/-- Where the fields of a register lie apart, each takes its own part of the written word. -/
theorem State.rd_writeFields_mem {s : State} {fs : List Field} {F : Field} {i j : Nat} (hs : Tab.sorted s.regs = true)
    (hp : fs.Pairwise (fun A B => A.key i j ≠ B.key i j)) (hF : F ∈ fs) (lk : Bool) (w : Nat) :
    (s.writeFields lk fs i j w).rd F i j = F.written lk (s.rd F i j) w := by
  induction fs generalizing s with
  | nil => cases hF
  | cons A fs ih =>
    obtain ⟨hA, hfs⟩ := List.pairwise_cons.mp hp
    rw [State.writeFields_cons]
    rcases List.mem_cons.mp hF with rfl | hF
    · rw [State.rd_writeFields_ne (fun B hB => (hA B hB).symm), State.rd_writeField_self hs]
    · rw [ih (State.sorted_writeField hs lk A i j w) hfs hF, State.rd_writeField_ne (hA F hF)]

/-- Settles O4: a register's write is the writes of its fields one by one, and each reads what `Field.written` says. -/
theorem fieldAccessTypes : Obligations.FieldAccessTypes := by
  refine ⟨fun s lk fs i j w F hs hp hF hlt => ?_, fun s lk fs i j w G k l h =>
    ⟨State.rd_writeFields_ne h s lk w, State.writeFields_regs s lk fs i j w⟩⟩
  have hrd := State.rd_writeFields_mem hs hp hF lk w
  have hold : s.rd F i j < 2 ^ F.width := hlt F hF
  have hnew : bitsOf w F.hi F.lo < 2 ^ F.width := bitsOf_lt w F.hi F.lo
  rw [hrd]
  refine ⟨fun h => ?_, fun h => ?_, fun h k => ?_, fun h k => ?_, fun h => ?_, fun h => ?_⟩
  · simp only [Field.written, h]
  · simp only [Field.written, h]
  · simp only [Field.written, h, Nat.mod_eq_of_lt (Nat.lt_of_le_of_lt (Nat.sub_le _ _) hold), testBit_sub_and]
  · simp only [Field.written, h, Nat.mod_eq_of_lt (Nat.or_lt_two_pow hold hnew), Nat.testBit_or]
  · simp only [Field.written, h]
  · rcases h with h | h <;> simp only [Field.written, h]

end Sys2Proof.Machine
end

section
/-! PROOFS. The register map as a write by offset meets it, and register writes whose block adds nothing (R20 to R23, R45, R46, R48). -/

namespace Sys2Proof.Machine

/-! What the map holds, checked field by field. -/

theorem findIn_mem {l : List Reg} {off : Nat} {r : Reg} {i j : Nat} (h : findIn l off = some (r, i, j)) : r ∈ l := by
  induction l with
  | nil => cases h
  | cons q l ih =>
    unfold findIn at h
    split at h
    · cases h
      exact List.mem_cons_self
    · exact List.mem_cons_of_mem _ (ih h)

/-- What an offset names is a register of a block of the map. -/
theorem findReg_mem {off : Nat} {b : Block} {r : Reg} {i j : Nat} (h : findReg off = some (b, r, i, j)) :
    b ∈ regBlocks ∧ r ∈ b.regs := by
  unfold findReg at h
  split at h
  · cases h
  · rename_i c hc
    split at h
    · cases h
    · rename_i q k l hq
      split at h
      · cases h
      · cases h
        exact ⟨List.mem_of_find?_eq_some hc, findIn_mem hq⟩

/-- A counter as the register tables give one: at least one bit wide, and 0 after reset. -/
def Field.IsCounter (F : Field) : Prop := F.lo ≤ F.hi ∧ F.reset = 0 ∧ F.resets = []

theorem regBlocks_fields_ordered : ∀ b ∈ regBlocks, ∀ r ∈ b.regs, ∀ F ∈ r.flds, F.lo ≤ F.hi := by decide +kernel

theorem regBlocks_counters : ∀ b ∈ regBlocks, ∀ r ∈ b.regs, ∀ F ∈ r.flds, F.acc = .cnt → F.IsCounter := by
  unfold Field.IsCounter
  decide +kernel

/-- A lock bit is one write-1-to-set bit, in no window of other memory. -/
theorem regBlocks_lockBit : ∀ b ∈ regBlocks, ∀ L ∈ b.lock, (L.acc = .w1s ∧ L.lo = L.hi) ∧
    L.off < 2 ^ 26 ∧ L.off % 4 = 0 ∧ padWindow L.off 4 = false ∧ epWindow L.off = false := by decide +kernel

/-- A lock bit's offset names the register that holds it, whose fields lie apart. -/
theorem regBlocks_lockReg : ∀ b ∈ regBlocks, ∀ L ∈ b.lock, ∃ r ∈ b.regs,
    findReg L.off = some (b, r, 0, 0) ∧ L ∈ r.flds ∧ r.flds.Pairwise (fun A B => A.key 0 0 ≠ B.key 0 0) := by decide +kernel

/-- The register that holds a block's lock bit holds no other block's. -/
theorem regBlocks_lockAlone : ∀ b ∈ regBlocks, ∀ L ∈ b.lock, ∀ r ∈ b.regs, L ∈ r.flds →
    ∀ a ∈ regBlocks, a.base ≠ b.base → ∀ K ∈ a.lock, ∀ A ∈ r.flds, A.key 0 0 ≠ K.key 0 0 := by decide +kernel

/-! A write by offset. -/

/-- Where the block has an effect of its own at a register's offset, the write is that effect. -/
theorem State.regWrite_of_block {s t : State} {off w : Nat} {mgmt : Bool} (ha : off % 4 = 0) (hp : padWindow off 4 = false)
    (he : epWindow off = false) (hr : (findReg off).isSome = true) (hb : (s.blockWrites off w mgmt).findSome? id = some t) :
    s.regWrite off w mgmt = t := by
  have hn : (findReg off).isNone = false := by simpa using hr
  simp [State.regWrite, ha, hp, he, hn, hb]

/-- Where the block adds nothing, the fields of the register take the word under their access types and the lock. -/
theorem State.regWrite_plain {s : State} {off w : Nat} {mgmt : Bool} {b : Block} {r : Reg} {i j : Nat} (ha : off % 4 = 0)
    (hp : padWindow off 4 = false) (he : epWindow off = false) (hr : findReg off = some (b, r, i, j))
    (hb : (s.blockWrites off w mgmt).findSome? id = none) :
    s.regWrite off w mgmt = s.writeFields (s.locked b) r.flds i j w := by
  simp [State.regWrite, State.writeReg, ha, hp, he, hr, hb]

/-- A write at an offset that is no multiple of 4 has no effect (R22). -/
theorem State.regWrite_unaligned {s : State} {off w : Nat} {mgmt : Bool} (ha : off % 4 ≠ 0) : s.regWrite off w mgmt = s := by
  simp [State.regWrite, ha]

/-- With no bit set by hardware in the cycle, the written word stands as it is. -/
theorem hwWins_zero (off w : Nat) : hwWins off w 0 = w := by
  unfold hwWins
  split
  · rfl
  · rename_i b r i j hr
    obtain ⟨hb, hrb⟩ := findReg_mem hr
    refine foldl_fixes fun F hF => ?_
    have hord : F.lo ≤ F.hi := regBlocks_fields_ordered b hb r hrb F (List.mem_filter.mp hF).1
    rw [bitsOf_zero, Nat.and_zero, Nat.sub_zero, setBits_bitsOf hord]

/-- With no bit set by hardware in the cycle, a written STEER is not lost. -/
theorem State.steerWins_zero (s : State) (off w : Nat) : s.steerWins off w 0 = w := by
  unfold State.steerWins
  split
  · split
    · refine foldl_fixes fun F _ => ?_
      rw [Nat.zero_testBit, if_neg Bool.false_ne_true]
    · rfl
  · rfl

/-- Settles O3: each command's effect from the laws of a register write. -/
theorem registerWritePlain : Obligations.RegisterWritePlain := by
  refine ⟨?_, fun off w mgmt s => ?_, fun s => ⟨rfl, rfl⟩, fun off s ha hn hp => ?_, ?_⟩
  · rintro off w hw mgmt b r i j v s ha hp he hr rfl hb
    exact congrArg _ (State.regWrite_plain ha hp he hr hb)
  · show Host.Outcome.next (s.regWrite off.toNat (hwWins off.toNat (s.steerWins off.toNat w.toNat 0) 0) mgmt) = _
    rw [State.steerWins_zero, hwWins_zero]
  · have ho : off.toNat / 4 * 4 = off.toNat := Nat.div_mul_cancel (Nat.dvd_of_mod_eq_zero ha)
    simp [exec, execUnmappedRegisterAccess, ho, hn, hp]
  · intro off w mgmt b r i j s ha hp he hr hb
    exact congrArg _ (State.regWrite_plain ha hp he hr hb)

/-- Settles O58: an access that is not aligned never reaches a register. -/
theorem unalignedAccessesHaveNoEffect : Obligations.UnalignedAccessesHaveNoEffect :=
  ⟨fun _ => ⟨rfl, rfl⟩, fun _ _ _ _ _ ha _ => congrArg _ (State.regWrite_unaligned ha)⟩

/-- A write-1-to-set bit that is written 1 reads 1, whatever it held. -/
theorem Field.written_w1s_bit {F : Field} (hacc : F.acc = .w1s) (hbit : F.lo = F.hi) {w : Nat} (hw : w.testBit F.lo = true)
    (lk : Bool) (old : Nat) : F.written lk old w = 1 := by
  have hv : bitsOf w F.hi F.lo = 1 := by
    rw [Nat.testBit_eq_decide_div_mod_eq, decide_eq_true_eq] at hw
    simpa [bitsOf, ← hbit] using hw
  have hwidth : F.width = 1 := by simp [Field.width, hbit]
  simp [Field.written, hacc, hv, hwidth, Nat.or_mod_two_eq_one]

/-- Settles O6: the lock bit's register holds no other block's lock bit, and a plain write sets the bit that is written 1. -/
theorem lockBitOfOneBlock : Obligations.LockBitOfOneBlock := by
  intro b L w mgmt s hb hL hw hs hnone
  obtain ⟨⟨hacc, hbit⟩, hoff, ha, hp, he⟩ := regBlocks_lockBit b hb L hL
  obtain ⟨r, hrb, hr, hmem, hpair⟩ := regBlocks_lockReg b hb L hL
  have hother := regBlocks_lockAlone b hb L hL r hrb hmem
  have htoNat : (BitVec.ofNat 26 L.off).toNat = L.off := by rw [BitVec.toNat_ofNat, Nat.mod_eq_of_lt hoff]
  refine ⟨s.writeFields (s.locked b) r.flds 0 0 w.toNat, ?_, ?_, fun a hab hne => ?_⟩
  · show Host.Outcome.next (s.regWrite (BitVec.ofNat 26 L.off).toNat w.toNat mgmt) = _
    rw [htoNat, State.regWrite_plain ha hp he hr hnone]
  · simp [State.on, State.rd_writeFields_mem hs hpair hmem, Field.written_w1s_bit hacc hbit hw]
  · unfold State.locked
    split
    · rename_i K hK
      simp only [State.on, State.rd_writeFields_ne (hother a hab hne K hK)]
    · rfl

end Sys2Proof.Machine
end

section
/-! PROOFS. Counters cleared by a write, and counters that advance in the cycle of the clear (R17, R18). -/

namespace Sys2Proof.Machine

/-! A counter set to 1. -/

theorem Field.IsCounter.resetOf {F : Field} (h : F.IsCounter) (i : Nat) : F.resetOf i = 0 := by
  obtain ⟨_, hreset, hresets⟩ := h
  simp [Field.resetOf, hreset, hresets]

theorem Field.IsCounter.one_mod {F : Field} (h : F.IsCounter) : 1 % 2 ^ F.width = 1 := by
  have hw : F.width ≠ 0 := by
    have := h.1
    unfold Field.width
    omega
  exact Nat.mod_eq_of_lt (Nat.one_lt_two_pow hw)

/-- A counter set to 1 reads 1; no hypothesis on the table, for 1 is never the value of an unlisted counter. -/
theorem State.rd_wr_one_self {F : Field} (h : F.IsCounter) (s : State) (i j : Nat) : (s.wr F 1 i j).rd F i j = 1 := by
  simp [State.rd, State.wr, h.one_mod, h.resetOf, Tab.put, Tab.get_ins_self]

/-- A counter that reads 1 goes on reading 1 when any counter, itself included, is set to 1. -/
theorem State.rd_wr_one_keeps {F G : Field} (hF : F.IsCounter) (hG : G.IsCounter) {s : State} {i j : Nat}
    (h : s.rd F i j = 1) (k l : Nat) : (s.wr G 1 k l).rd F i j = 1 := by
  by_cases hkey : G.key k l = F.key i j
  · have hself := State.rd_wr_one_self hG s k l
    unfold State.rd at hself ⊢
    rwa [hG.resetOf, hkey, ← hF.resetOf i] at hself
  · rw [State.rd_wr_ne hkey, h]

/-! Which counters a clear names. -/

theorem clearOne_counters : ∀ x ∈ State.clearOne, x.2.1.IsCounter := by
  unfold Field.IsCounter
  decide

theorem clearTwo_counters : ∀ x ∈ State.clearTwo, x.2.2.2.1.IsCounter := by
  unfold Field.IsCounter
  decide

theorem laneCounters_counters (b : Nat) : ∀ F ∈ State.laneCounters b, F.IsCounter := by
  unfold Field.IsCounter State.laneCounters
  split <;> decide

theorem wordCounters_counters {off b : Nat} {x : Field × Nat × Nat} (h : x ∈ State.wordCounters off b) : x.1.IsCounter := by
  unfold State.wordCounters at h
  split at h
  · cases h
  · rename_i c r i j hr
    split at h
    · rename_i F hF
      obtain rfl := List.mem_singleton.mp h
      obtain ⟨hmem, hcnt⟩ := List.mem_filter.mp (List.mem_of_getElem? hF)
      simp only [Bool.and_eq_true, beq_iff_eq] at hcnt
      obtain ⟨hc, hrc⟩ := findReg_mem hr
      exact regBlocks_counters c hc r hrc F hmem hcnt.1.1
    · cases h

/-- Whatever a write at an offset clears as a counter is one. -/
theorem countersOf_counters {off b : Nat} {x : Field × Nat × Nat} (h : x ∈ State.countersOf off b) : x.1.IsCounter := by
  have hsingle : ∀ {F : Field} {i j : Nat}, F.IsCounter → x ∈ [(F, i, j)] → x.1.IsCounter := by
    intro F i j hF hx
    rwa [List.mem_singleton.mp hx]
  unfold State.countersOf at h
  split at h
  · rename_i o F n hfind
    split at h
    · exact hsingle (clearOne_counters _ (List.mem_of_find?_eq_some hfind)) h
    · split at h
      · exact hsingle (by unfold Field.IsCounter; decide) h
      · cases h
  · split at h
    · rename_i o str m F n hfind
      split at h
      · exact hsingle (clearTwo_counters _ (List.mem_of_find?_eq_some hfind)) h
      · cases h
    · split at h
      · obtain ⟨F, hF, rfl⟩ := List.mem_map.mp h
        exact laneCounters_counters b F hF
      · split at h
        · split at h
          · exact hsingle (by unfold Field.IsCounter; decide) h
          · split at h
            · exact hsingle (by unfold Field.IsCounter; decide) h
            · cases h
        · split at h
          · split at h
            · exact hsingle (by unfold Field.IsCounter; decide) h
            · cases h
          · exact wordCounters_counters h

/-! The counters that advance in the cycle of the clear. -/

/-- Bit by bit: the register at the offset clears only the counters whose bits are written 1 (R18); any other write-to-clear register clears all of its counters. -/
def clearsByBit (off : Nat) : Bool :=
  State.clearOne.any (fun x => x.1 == off) || State.clearTwo.any (fun x => x.1 ≤ off && (off - x.1) % x.2.1 == 0 && (off - x.1) / x.2.1 < x.2.2.1) ||
    (0xC0000 ≤ off && off < 0xC7000 && off % 0x400 = 0x48) || State.masterWord off || off = 0x201004

/-- The counters of bit `b` of an offset, each at 1. -/
def State.advance (s : State) (off b : Nat) : State := s.each (State.countersOf off b) (fun s x => s.wr x.1 1 x.2.1 x.2.2)

/-- A clear is the write, and then one step for each counter that the write clears and that advances. -/
theorem State.counterClear_eq (s : State) (off w inc : Nat) :
    s.counterClear off w inc = (s.regWrite off w false).each (List.range 32) (fun s b =>
      if inc.testBit b && (w.testBit b || !clearsByBit off) then s.advance off b else s) := rfl

/-- A counter that reads 1 goes on doing so while other counters advance. -/
theorem State.rd_advance_one_keeps {s : State} {F : Field} {i j : Nat} (hF : F.IsCounter) (h : s.rd F i j = 1) (off b : Nat) :
    (s.advance off b).rd F i j = 1 :=
  State.each_keeps (P := fun t => t.rd F i j = 1)
    (fun _ x hx ht => State.rd_wr_one_keeps hF (countersOf_counters hx) ht x.2.1 x.2.2) h

theorem State.rd_advance_one {F : Field} {i j off b : Nat} (h : (F, i, j) ∈ State.countersOf off b) (s : State) :
    (s.advance off b).rd F i j = 1 :=
  State.each_reaches (P := fun t => t.rd F i j = 1) h (fun t => State.rd_wr_one_self (countersOf_counters h) t i j)
    (fun _ x hx ht => State.rd_wr_one_keeps (countersOf_counters h) (countersOf_counters hx) ht x.2.1 x.2.2)

/-- A counter that is cleared and advances in the same cycle reads 1 (R18). -/
theorem State.rd_counterClear_one {off w inc b : Nat} {F : Field} {i j : Nat} (hb : b < 32) (hw : w.testBit b = true)
    (hinc : inc.testBit b = true) (hmem : (F, i, j) ∈ State.countersOf off b) (s : State) :
    (s.counterClear off w inc).rd F i j = 1 := by
  rw [State.counterClear_eq]
  refine State.each_reaches (P := fun t => t.rd F i j = 1) (List.mem_range.mpr hb) (fun t => ?_) (fun t c _ ht => ?_)
  · rw [hinc, hw]
    exact State.rd_advance_one hmem t
  · split
    · exact State.rd_advance_one_keeps (countersOf_counters hmem) ht off c
    · exact ht

/-- Settles O7: the step of the counter's own bit sets it to 1, and every other step keeps it there. -/
theorem counterClearRace : Obligations.CounterClearRace :=
  fun _ _ _ _ _ _ _ s _ hb hw hinc hmem _ => ⟨_, rfl, State.rd_counterClear_one hb hw hinc hmem s⟩

/-- A field that no advancing counter shares its key with reads after a clear what the write alone leaves in it. -/
theorem State.rd_counterClear_ne {off w inc : Nat} {F : Field} {i j : Nat} (s : State)
    (h : ∀ b, inc.testBit b = true → (w.testBit b || !clearsByBit off) = true → ∀ x ∈ State.countersOf off b, x.1.key x.2.1 x.2.2 ≠ F.key i j) :
    (s.counterClear off w inc).rd F i j = (s.regWrite off w false).rd F i j := by
  rw [State.counterClear_eq]
  refine State.each_keeps (P := fun t => t.rd F i j = (s.regWrite off w false).rd F i j) (fun t b _ ht => ?_) rfl
  split
  · rename_i hadv
    obtain ⟨hinc, hclr⟩ := Bool.and_eq_true_iff.mp hadv
    exact State.each_keeps (P := fun u => u.rd F i j = (s.regWrite off w false).rd F i j)
      (fun u x hx hu => (State.rd_wr_ne (h b hinc hclr x hx) 1).trans hu) ht
  · exact ht

/-! The one-dimensional arrays. -/

/-- What the model's list of one-dimensional arrays has in common, row by row: an aligned offset that names a register and is the row's alone, at most 32 counters with keys of their own, and RSMREJ, which one of the registers clears too, is none of them. -/
theorem clearOne_rows : ∀ x ∈ State.clearOne, (x.1 < 2 ^ 26 ∧ x.2.2 ≤ 32 ∧ x.2.1.str ≠ 0) ∧
    State.clearOne.find? (fun y => y.1 == x.1) = some x ∧ ∀ b < x.2.2, x.2.1.key b 0 ≠ FAB_RING_STAT_RSMREJ.key 0 0 := by decide +kernel

theorem clearOne_offsets : ∀ x ∈ State.clearOne,
    x.1 % 4 = 0 ∧ padWindow x.1 4 = false ∧ epWindow x.1 = false ∧ (findReg x.1).isSome = true := by decide +kernel

theorem countersOf_clearOne {off : Nat} {F : Field} {n : Nat} (h : (off, F, n) ∈ State.clearOne) (b : Nat) :
    State.countersOf off b = if b < n then [(F, b, 0)] else if off = 0x1B0060 && b = 8 then [(FAB_RING_STAT_RSMREJ, 0, 0)] else [] := by
  obtain ⟨_, hfind, _⟩ := clearOne_rows _ h
  unfold State.countersOf
  rw [hfind]

theorem clearsByBit_clearOne {off : Nat} {F : Field} {n : Nat} (h : (off, F, n) ∈ State.clearOne) : clearsByBit off = true := by
  have hany : State.clearOne.any (fun x => x.1 == off) = true := List.any_eq_true.mpr ⟨_, h, beq_self_eq_true off⟩
  simp [clearsByBit, hany]

/-- Distinct counters of an array have distinct keys. -/
theorem Field.key_ne {F : Field} (hstr : F.str ≠ 0) {a b : Nat} (h : a ≠ b) : F.key a 0 ≠ F.key b 0 := by
  intro hkey
  have hmul : F.str * a = F.str * b := by
    unfold Field.key Field.addr at hkey
    omega
  exact h (Nat.eq_of_mul_eq_mul_left (Nat.pos_of_ne_zero hstr) hmul)

/-- Counter `a` of an array cleared where the word has its bit. -/
theorem State.rd_clearBit {F : Field} (hstr : F.str ≠ 0) {s : State} (hs : Tab.sorted s.regs = true) (w a b : Nat) :
    (if w.testBit a then s.wr F 0 a else s).rd F b = if b = a ∧ w.testBit b then 0 else s.rd F b := by
  by_cases hab : b = a
  · subst hab
    by_cases hw : w.testBit b <;> simp [hw, State.rd_wr_self hs]
  · by_cases hw : w.testBit a <;> simp [hw, hab, State.rd_wr_ne (Field.key_ne hstr (Ne.symm hab))]

/-- A clear of an array leaves its counters with written bits at 0 and the others as they were. -/
theorem State.rd_clearBits {F : Field} (hstr : F.str ≠ 0) {s : State} (hs : Tab.sorted s.regs = true) (n w b : Nat) :
    (s.clearBits F n w).rd F b = if b < n ∧ w.testBit b then 0 else s.rd F b := by
  simp only [← List.mem_range]
  unfold State.clearBits
  generalize List.range n = l
  induction l generalizing s with
  | nil => simp
  | cons a l ih =>
    have hsort : Tab.sorted (if w.testBit a then s.wr F 0 a else s).regs = true := by
      split
      · exact State.sorted_wr hs F 0 a 0
      · exact hs
    rw [State.each_cons, ih hsort, State.rd_clearBit hstr hs]
    cases hw : w.testBit b
    · simp
    · by_cases hl : b ∈ l <;> simp [hl]

/-- What the blocks add to a write of a counter-clear register, row by row of the list: its counters are cleared by their bits, and RSMREJ with bit 8 of the ring's register. -/
theorem State.blockWrites_clearOne (s : State) (w : Nat) : ∀ x ∈ State.clearOne,
    (s.blockWrites x.1 w false).findSome? id =
      some ((s.clearBits x.2.1 x.2.2 w).when (x.1 = 0x1B0060 && w.testBit 8) (·.wr FAB_RING_STAT_RSMREJ 0)) := by
  simp only [State.clearOne, List.forall_mem_cons]
  exact ⟨rfl, rfl, rfl, rfl, rfl, rfl, rfl, rfl, rfl, rfl, rfl, rfl, rfl, rfl, rfl, rfl, rfl, rfl, List.forall_mem_nil _⟩

/-- What a write of a counter-clear register leaves in its counters. -/
theorem State.rd_regWrite_clearOne {off : Nat} {F : Field} {n b : Nat} (h : (off, F, n) ∈ State.clearOne) (hb : b < n) (w : Nat)
    {s : State} (hs : Tab.sorted s.regs = true) :
    (s.regWrite off w false).rd F b = if w.testBit b then 0 else s.rd F b := by
  obtain ⟨⟨_, _, hstr⟩, _, hring⟩ := clearOne_rows _ h
  obtain ⟨ha, hp, he, hr⟩ := clearOne_offsets _ h
  have hclear := State.rd_clearBits hstr hs n w b
  rw [State.regWrite_of_block ha hp he hr (State.blockWrites_clearOne s w _ h)]
  simp only [hb, true_and] at hclear
  unfold State.when
  split
  · rw [State.rd_wr_ne (hring b hb).symm, hclear]
  · exact hclear

/-- The counters of other bits share no key with counter `b` of an array. -/
theorem countersOf_clearOne_ne {off : Nat} {F : Field} {n b c : Nat} (h : (off, F, n) ∈ State.clearOne) (hb : b < n) (hc : c ≠ b) :
    ∀ x ∈ State.countersOf off c, x.1.key x.2.1 x.2.2 ≠ F.key b 0 := by
  obtain ⟨⟨_, _, hstr⟩, _, hring⟩ := clearOne_rows _ h
  rw [countersOf_clearOne h]
  intro x hx
  split at hx
  · rw [List.mem_singleton.mp hx]
    exact Field.key_ne hstr hc
  · split at hx
    · rw [List.mem_singleton.mp hx]
      exact (hring b hb).symm
    · cases hx

/-- Settles O8: a counter whose bit is written 1 and that advances is O7's; any other reads what the write alone leaves in it. -/
theorem counterClears : Obligations.CounterClears := by
  intro off F n b w inc s h hb hs
  obtain ⟨⟨hoff, hn, _⟩, _⟩ := clearOne_rows _ h
  have htoNat : (BitVec.ofNat 26 off).toNat = off := by rw [BitVec.toNat_ofNat, Nat.mod_eq_of_lt hoff]
  refine ⟨s.counterClear off w.toNat inc.toNat, ?_, ?_⟩
  · show Host.Outcome.next (s.counterClear (BitVec.ofNat 26 off).toNat w.toNat inc.toNat) = _
    rw [htoNat]
  by_cases hadv : w.toNat.testBit b = true ∧ inc.toNat.testBit b = true
  · obtain ⟨hw, hinc⟩ := hadv
    have hmem : (F, b, 0) ∈ State.countersOf off b := by simp [countersOf_clearOne h, hb]
    rw [State.rd_counterClear_one (Nat.lt_of_lt_of_le hb hn) hw hinc hmem]
    simp [hw, hinc, bit]
  · rw [State.rd_counterClear_ne s, State.rd_regWrite_clearOne h hb _ hs]
    · by_cases hw : w.toNat.testBit b = true
      · have hinc : inc.toNat.testBit b = false := by simpa [hw] using hadv
        simp [hw, hinc, bit]
      · simp [hw]
    · intro c hinc hclr
      refine countersOf_clearOne_ne h hb fun hcb => hadv ?_
      subst hcb
      simpa [clearsByBit_clearOne h, hinc] using hclr

end Sys2Proof.Machine
end

section
/-! PROOFS. Every command goes on (R19, R51), and the register file after reset (R20, R427). -/

namespace Sys2Proof.Machine

/-! Every command answers a next state: an arm of `exec` is a next state outright, or a choice between two. -/

/-- A choice between two next states is a next state. -/
theorem exists_next_of_ite {c : Prop} [Decidable c] {a b : State} :
    ∃ t, (if c then Host.Outcome.next a else .next b : Host.Outcome State Fault Refusal) = .next t :=
  ⟨if c then a else b, (apply_ite _ c a b).symm⟩

theorem execSetApply_next (s : State) : ∃ t, execSetApply s = .next t := by
  unfold execSetApply
  split <;> exact ⟨_, rfl⟩

theorem execStepApply_next (s : State) : ∃ t, execStepApply s = .next t := by
  unfold execStepApply
  split <;> exact ⟨_, rfl⟩

theorem execSlewApply_next (s : State) : ∃ t, execSlewApply s = .next t := by
  unfold execSlewApply
  split <;> exact ⟨_, rfl⟩

theorem execKl2PacketReceive_next (cols : List (List (Bool × Byte))) (s : State) : ∃ t, execKl2PacketReceive cols s = .next t := by
  unfold execKl2PacketReceive
  split <;> exact ⟨_, rfl⟩

theorem execBankOwnerWrite_next (b : Fin 32) (m : Fin 22) (w : Word) (w16 : Option Word) (s : State) :
    ∃ t, execBankOwnerWrite b m w w16 s = .next t := by
  cases w16 <;> exact ⟨_, rfl⟩

theorem execEndpointMemoryAccess_next (o : Fin 4096) (v : Option Word) (s : State) :
    ∃ t, execEndpointMemoryAccess o v s = .next t := by
  cases v <;> exact ⟨_, rfl⟩

/-- Settles O57, arm by arm: the first group chooses by a condition, the second by a match on the state or an operand, every other arm is a next state as it stands. -/
theorem everyCommandCompletes : Obligations.EveryCommandCompletes := by
  intro c s
  cases c with
  | snapApply | slewEnd | bondTrialTimeout | trainTimeout | sealTimeout | holdExpiry | heartbeatLoss | cdrAcqTimeout | headerHuntTimeout
  | alignTimeout | engineEnable | engineDisable | engineStartTimeout | engineWatchdog | windowClose | nearPortRequest | pcieLinkDown
  | ringDisable | irigOnTime | usbBusReset | localPortRequest | bridgeRead | bridgeWrite | prefetchLineExpiry | hardResetReceive
  | mgmtReset => exact exists_next_of_ite
  | setApply => exact execSetApply_next s
  | stepApply => exact execStepApply_next s
  | slewApply => exact execSlewApply_next s
  | kl2PacketReceive cols => exact execKl2PacketReceive_next cols s
  | bankOwnerWrite b m w w16 => exact execBankOwnerWrite_next b m w w16 s
  | endpointMemoryAccess o v => exact execEndpointMemoryAccess_next o v s
  | _ => exact ⟨_, rfl⟩

/-! The register file after reset. -/

/-- No register is stored apart from its reset value after reset. -/
@[simp] theorem State.rd_reset (F : Field) (i j : Nat) : State.reset.rd F i j = F.resetOf i := rfl

/-- Settles O60: every field reads its reset value, and the samples are the tables' values. -/
theorem resetValuesOfRegisters : Obligations.ResetValuesOfRegisters := by
  refine ⟨State.rd_reset, ?_⟩
  simp only [State.rd_reset]
  decide

end Sys2Proof.Machine
end

section
/-! PROOFS. What one step does to the stores: every command keeps their canonical form (R44, R47, R246, R398, R401). -/

namespace Sys2Proof.Machine

/-- `State.Sound` and the `StoresOk` of the shared operations' laws are one condition on the stores. -/
theorem State.sound_iff_storesOk (s : State) : s.Sound ↔ StoresOk s.regs s.host s.dram s.sram s.pad s.flash :=
  ⟨fun ⟨regs, host, dram, sram, pad, flash⟩ => ⟨regs, host, dram, sram, pad, flash⟩,
   fun ⟨regs, host, dram, sram, pad, flash⟩ => ⟨regs, host, dram, sram, pad, flash⟩⟩

/-- Soundness is about the stores alone: it does not depend on the queue. -/
theorem State.Sound.withPending {s : State} (h : s.Sound) (l : List Instr) : { s with pending := l }.Sound :=
  (State.sound_iff_storesOk _).mpr ((State.sound_iff_storesOk s).mp h)

/-- What keeps the stores' canonical form takes a sound state to a sound one. -/
theorem Keeps.sound {o s : State} (h : Keeps o s) (ho : o.Sound) : s.Sound := by
  obtain ⟨-, hstores, -⟩ := h
  exact (State.sound_iff_storesOk s).mpr (hstores ((State.sound_iff_storesOk o).mp ho))

/-- Every command keeps the queue, the canonical form of the stores and the burnt fuses: one arm for each arm of `exec`, by the law of that command's meaning. -/
theorem exec_keeps {o s : State} (hk : Keeps o s) : ∀ c : Instr, KeepsOut o (exec c s)
  | .registerWrite off w mgmt hw => execRegisterWrite_keeps off w mgmt hw hk
  | .unalignedAccess read => execUnalignedAccess_keeps read hk
  | .unmappedRegisterAccess off read => execUnmappedRegisterAccess_keeps off read hk
  | .blockLockSet off w mgmt => execBlockLockSet_keeps off w mgmt hk
  | .counterClear off w inc => execCounterClear_keeps off w inc hk
  | .trunkPacketReceive t blocks ecc done flush more frames => execTrunkPacketReceive_keeps t blocks ecc done flush more frames hk
  | .ilimRetry p => execIlimRetry_keeps p hk
  | .policedPacketRelease p => execPolicedPacketRelease_keeps p hk
  | .packetSelect p ecc => execPacketSelect_keeps p ecc hk
  | .transmitComplete p => execTransmitComplete_keeps p hk
  | .leakAudit => execLeakAudit_keeps hk
  | .fabSelfWrite w => execFabSelfWrite_keeps w hk
  | .fabRegionWrite w => execFabRegionWrite_keeps w hk
  | .contextWordWrite n k w => execContextWordWrite_keeps n k w hk
  | .destinationListWrite k w => execDestinationListWrite_keeps k w hk
  | .ctxOpen n => execCtxOpen_keeps n hk
  | .ctxActivate n => execCtxActivate_keeps n hk
  | .ctxClose n => execCtxClose_keeps n hk
  | .ctxAbort n => execCtxAbort_keeps n hk
  | .ctxcmdComplete => execCtxcmdComplete_keeps hk
  | .openToExpiry n => execOpenToExpiry_keeps n hk
  | .closeToExpiry n => execCloseToExpiry_keeps n hk
  | .retireExpiry n => execRetireExpiry_keeps n hk
  | .inflightDrained n => execInflightDrained_keeps n hk
  | .tunnelOpenRequest origin o l proto ver cls port => execTunnelOpenRequest_keeps origin o l proto ver cls port hk
  | .tunnelOpenAnswer o u ver port => execTunnelOpenAnswer_keeps o u ver port hk
  | .helloSend sm ready => execHelloSend_keeps sm ready hk
  | .helloReceive src bytes => execHelloReceive_keeps src bytes hk
  | .helloLoss pfx => execHelloLoss_keeps pfx hk
  | .timeTick => execTimeTick_keeps hk
  | .incrementWrite w => execIncrementWrite_keeps w hk
  | .setTime => execSetTime_keeps hk
  | .step => execStep_keeps hk
  | .slew => execSlew_keeps hk
  | .snap => execSnap_keeps hk
  | .setApply => execSetApply_keeps hk
  | .stepApply => execStepApply_keeps hk
  | .slewApply => execSlewApply_keeps hk
  | .snapApply => execSnapApply_keeps hk
  | .slewEnd => execSlewEnd_keeps hk
  | .compareFire c => execCompareFire_keeps c hk
  | .comparePulseEnd c => execComparePulseEnd_keeps c hk
  | .ppsInputEdge x rise n => execPpsInputEdge_keeps x rise n hk
  | .ppsInputLos x => execPpsInputLos_keeps x hk
  | .ppsOutputEdge o => execPpsOutputEdge_keeps o hk
  | .ppsOutputTrail o => execPpsOutputTrail_keeps o hk
  | .leapApply => execLeapApply_keeps hk
  | .twoStepPop p => execTwoStepPop_keeps p hk
  | .mainsBoundary => execMainsBoundary_keeps hk
  | .cycSrcWrite w => execCycSrcWrite_keeps w hk
  | .cycIncrWrite w => execCycIncrWrite_keeps w hk
  | .mainsZcEdge fall ago => execMainsZcEdge_keeps fall ago hk
  | .svObservation w => execSvObservation_keeps w hk
  | .phaseEventProcess => execPhaseEventProcess_keeps hk
  | .mainsLosExpiry => execMainsLosExpiry_keeps hk
  | .holdoverExpiry => execHoldoverExpiry_keeps hk
  | .angleConversion w => execAngleConversion_keeps w hk
  | .conversionDone => execConversionDone_keeps hk
  | .laneCtrlWrite n w => execLaneCtrlWrite_keeps n w hk
  | .cdrLock n => execCdrLock_keeps n hk
  | .cdrAcqTimeout n => execCdrAcqTimeout_keeps n hk
  | .headerLock n => execHeaderLock_keeps n hk
  | .headerHuntTimeout n => execHeaderHuntTimeout_keeps n hk
  | .alignmentBlockReceive n hdr bytes line => execAlignmentBlockReceive_keeps n hdr bytes line hk
  | .alignTimeout n => execAlignTimeout_keeps n hk
  | .losDetect n mv => execLosDetect_keeps n mv hk
  | .losClear n mv => execLosClear_keeps n mv hk
  | .cdrLoss n => execCdrLoss_keeps n hk
  | .headerLoss n k lost => execHeaderLoss_keeps n k lost hk
  | .alignmentBlockSend t idle => execAlignmentBlockSend_keeps t idle hk
  | .bondSkewMeasure t d0 d1 d2 d3 => execBondSkewMeasure_keeps t d0 d1 d2 d3 hk
  | .bondTimeout t => execBondTimeout_keeps t hk
  | .bondFailExpiry t => execBondFailExpiry_keeps t hk
  | .eyeScanGo n w => execEyeScanGo_keeps n w hk
  | .eyeScanAbort n => execEyeScanAbort_keeps n hk
  | .eyeScanDone n errs => execEyeScanDone_keeps n errs hk
  | .prbsCheckStart n w => execPrbsCheckStart_keeps n w hk
  | .prbsCheckerLock n bits => execPrbsCheckerLock_keeps n bits hk
  | .prbsCheckerLoss n bits => execPrbsCheckerLoss_keeps n bits hk
  | .prbsInject n => execPrbsInject_keeps n hk
  | .trkEnable t => execTrkEnable_keeps t hk
  | .trkDisable t => execTrkDisable_keeps t hk
  | .bondTrialTimeout t => execBondTrialTimeout_keeps t hk
  | .capabilitySend t => execCapabilitySend_keeps t hk
  | .capabilityReceive t bytes => execCapabilityReceive_keeps t bytes hk
  | .trainTimeout t => execTrainTimeout_keeps t hk
  | .sealTimeout t => execSealTimeout_keeps t hk
  | .holdExpiry t => execHoldExpiry_keeps t hk
  | .sealLoad t w => execSealLoad_keeps t w hk
  | .creditBlockReceive t bytes => execCreditBlockReceive_keeps t bytes hk
  | .creditReturn t => execCreditReturn_keeps t hk
  | .creditRefresh t => execCreditRefresh_keeps t hk
  | .heartbeatLoss t => execHeartbeatLoss_keeps t hk
  | .creditStall t c => execCreditStall_keeps t c hk
  | .grantWrite t c w => execGrantWrite_keeps t c w hk
  | .epochAdvance t => execEpochAdvance_keeps t hk
  | .rxEpochDerive t => execRxEpochDerive_keeps t hk
  | .kl2EnableWrite w => execKl2EnableWrite_keeps w hk
  | .kl2PacketReceive cols => execKl2PacketReceive_keeps cols hk
  | .xoffReceive mask comp => execXoffReceive_keeps mask comp hk
  | .xoffSend => execXoffSend_keeps hk
  | .xlatWrite h w => execXlatWrite_keeps h w hk
  | .rsmSend t => execRsmSend_keeps t hk
  | .rsmReceive t payload => execRsmReceive_keeps t payload hk
  | .rsmLoss t => execRsmLoss_keeps t hk
  | .steeringScan => execSteeringScan_keeps hk
  | .restoreExpiry v => execRestoreExpiry_keeps v hk
  | .ddEntryAge => execDdEntryAge_keeps hk
  | .ddFlush => execDdFlush_keeps hk
  | .qlimWrite q w => execQlimWrite_keeps q w hk
  | .qrsvWrite q w => execQrsvWrite_keeps q w hk
  | .mirrorRuleWrite k w => execMirrorRuleWrite_keeps k w hk
  | .captureCfgWrite w => execCaptureCfgWrite_keeps w hk
  | .captureRdWrite w => execCaptureRdWrite_keeps w hk
  | .captureRecordWrite => execCaptureRecordWrite_keeps hk
  | .edgeCtrlWrite e w => execEdgeCtrlWrite_keeps e w hk
  | .edgeLinkUp e inband an => execEdgeLinkUp_keeps e inband an hk
  | .edgeLinkDown e => execEdgeLinkDown_keeps e hk
  | .edgeFrameReceive e bytes more => execEdgeFrameReceive_keeps e bytes more hk
  | .shaperRefill => execShaperRefill_keeps hk
  | .gateBoundary p => execGateBoundary_keeps p hk
  | .queueSample => execQueueSample_keeps hk
  | .bankWrite o w => execBankWrite_keeps o w hk
  | .planCheck => execPlanCheck_keeps hk
  | .planArm m => execPlanArm_keeps m hk
  | .planDisarm => execPlanDisarm_keeps hk
  | .planCopy => execPlanCopy_keeps hk
  | .planCommandDone => execPlanCommandDone_keeps hk
  | .planSwitch => execPlanSwitch_keeps hk
  | .planDeadline => execPlanDeadline_keeps hk
  | .engineEnable n => execEngineEnable_keeps n hk
  | .engineDisable n => execEngineDisable_keeps n hk
  | .engineReady n => execEngineReady_keeps n hk
  | .engineStartTimeout n => execEngineStartTimeout_keeps n hk
  | .engineWatchdogKick n => execEngineWatchdogKick_keeps n hk
  | .engineWatchdog n => execEngineWatchdog_keeps n hk
  | .engineTrap n => execEngineTrap_keeps n hk
  | .engineEccHalt n => execEngineEccHalt_keeps n hk
  | .engineRestart n => execEngineRestart_keeps n hk
  | .serviceBind e w => execServiceBind_keeps e w hk
  | .serviceActivate e => execServiceActivate_keeps e hk
  | .serviceUnbind e w => execServiceUnbind_keeps e w hk
  | .engineDispatch k => execEngineDispatch_keeps k hk
  | .enginePacketSend e payload => execEnginePacketSend_keeps e payload hk
  | .ping n m => execPing_keeps n m hk
  | .stats n m e => execStats_keeps n m e hk
  | .quiesce n m e => execQuiesce_keeps n m e hk
  | .resume n m e => execResume_keeps n m e hk
  | .mailboxResponse n m => execMailboxResponse_keeps n m hk
  | .mailboxTimeout n m => execMailboxTimeout_keeps n m hk
  | .eventRecordSend e => execEventRecordSend_keeps e hk
  | .svCycleComplete e => execSvCycleComplete_keeps e hk
  | .scratchpadAccess b l => execScratchpadAccess_keeps b l hk
  | .bankOwnerWrite b m w w16 => execBankOwnerWrite_keeps b m w w16 hk
  | .bankHandoverDone b => execBankHandoverDone_keeps b hk
  | .headEnable h w => execHeadEnable_keeps h w hk
  | .dpLinkTraining rate lanes => execDpLinkTraining_keeps rate lanes hk
  | .hpdLow => execHpdLow_keeps hk
  | .hpdIrq => execHpdIrq_keeps hk
  | .frameStart h ago => execFrameStart_keeps h ago hk
  | .windowClose h => execWindowClose_keeps h hk
  | .applyPoint h => execApplyPoint_keeps h hk
  | .fetchUnderrun h l y k ecc => execFetchUnderrun_keeps h l y k ecc hk
  | .softwareCommit h w => execSoftwareCommit_keeps h w hk
  | .teEdge h fall ago => execTeEdge_keeps h fall ago hk
  | .teTimeout h => execTeTimeout_keeps h hk
  | .displayTile e => execDisplayTile_keeps e hk
  | .displayPalette e => execDisplayPalette_keeps e hk
  | .displayCommit e => execDisplayCommit_keeps e hk
  | .displayAckSend e => execDisplayAckSend_keeps e hk
  | .tileCopyback h l => execTileCopyback_keeps h l hk
  | .dstat n m e => execDstat_keeps n m e hk
  | .dclr n m e => execDclr_keeps n m e hk
  | .usbAttach => execUsbAttach_keeps hk
  | .usbDetach => execUsbDetach_keeps hk
  | .usbBusReset high arms => execUsbBusReset_keeps high arms hk
  | .usbSuspend => execUsbSuspend_keeps hk
  | .usbResume => execUsbResume_keeps hk
  | .usbRemoteWake n => execUsbRemoteWake_keeps n hk
  | .remoteWakeEnd => execRemoteWakeEnd_keeps hk
  | .portModeWrite n w => execPortModeWrite_keeps n w hk
  | .localPortRequest n r arms => execLocalPortRequest_keeps n r arms hk
  | .portConnect n low held => execPortConnect_keeps n low held hk
  | .portResetEnd n speed => execPortResetEnd_keeps n speed hk
  | .nearPortRequest n r => execNearPortRequest_keeps n r hk
  | .startSplit n ep pid xt data => execStartSplit_keeps n ep pid xt data hk
  | .completeSplit n ep pid xt => execCompleteSplit_keeps n ep pid xt hk
  | .xferReceive e => execXferReceive_keeps e hk
  | .deviceTransactionDone n r => execDeviceTransactionDone_keeps n r hk
  | .resultReceive e => execResultReceive_keeps e hk
  | .xferRto n tag => execXferRto_keeps n tag hk
  | .sofSend n => execSofSend_keeps n hk
  | .interruptPoll n ep r => execInterruptPoll_keeps n ep r hk
  | .periodicReceive e => execPeriodicReceive_keeps e hk
  | .perackReceive e => execPerackReceive_keeps e hk
  | .periodicRto n ep tag => execPeriodicRto_keeps n ep tag hk
  | .portcmdReceive e => execPortcmdReceive_keeps e hk
  | .portackReceive e => execPortackReceive_keeps e hk
  | .portcmdTimeout n => execPortcmdTimeout_keeps n hk
  | .portstatSend n => execPortstatSend_keeps n hk
  | .portstatReceive e => execPortstatReceive_keeps e hk
  | .proxySilence n => execProxySilence_keeps n hk
  | .wakeReceive e => execWakeReceive_keeps e hk
  | .ustat n m e => execUstat_keeps n m e hk
  | .uclr n m e => execUclr_keeps n m e hk
  | .endpointEnable k w => execEndpointEnable_keeps k w hk
  | .endpointArm k w => execEndpointArm_keeps k w hk
  | .endpointDisarm k => execEndpointDisarm_keeps k hk
  | .endpointHalt k => execEndpointHalt_keeps k hk
  | .setupReceive b arm fw => execSetupReceive_keeps b arm fw hk
  | .endpointToken k isIn data => execEndpointToken_keeps k isIn data hk
  | .endpointMemoryAccess o v => execEndpointMemoryAccess_keeps o v hk
  | .blockCmdReceive e => execBlockCmdReceive_keeps e hk
  | .blockCmdExecute e tag => execBlockCmdExecute_keeps e tag hk
  | .blockDataReceive e => execBlockDataReceive_keeps e hk
  | .blockCmdComplete e tag => execBlockCmdComplete_keeps e tag hk
  | .blockCplReceive e => execBlockCplReceive_keeps e hk
  | .blockRto e tag => execBlockRto_keeps e tag hk
  | .blockDataTimeout e tag => execBlockDataTimeout_keeps e tag hk
  | .tagQuarantineEnd e tag => execTagQuarantineEnd_keeps e tag hk
  | .bstat n m e => execBstat_keeps n m e hk
  | .bclr n m e => execBclr_keeps n m e hk
  | .backendEnable w => execBackendEnable_keeps w hk
  | .backendInitDone m cause blocks lbaSz mdts modes byteCard wp => execBackendInitDone_keeps m cause blocks lbaSz mdts modes byteCard wp hk
  | .backendCommandDone e tag n ok data => execBackendCommandDone_keeps e tag n ok data hk
  | .backendCommandTimeout e tag => execBackendCommandTimeout_keeps e tag hk
  | .backendRemoval m => execBackendRemoval_keeps m hk
  | .cardDetect present held => execCardDetect_keeps present held hk
  | .uartCharacterReceive n bits samp ago => execUartCharacterReceive_keeps n bits samp ago hk
  | .uartGapExpiry n => execUartGapExpiry_keeps n hk
  | .uartLineStuck n => execUartLineStuck_keeps n hk
  | .uartLineRelease n => execUartLineRelease_keeps n hk
  | .uartRingWrite n rxrd w => execUartRingWrite_keeps n rxrd w hk
  | .uartTransmit n => execUartTransmit_keeps n hk
  | .serialMessageSend e => execSerialMessageSend_keeps e hk
  | .serialMessageReceive e => execSerialMessageReceive_keeps e hk
  | .serialHoldExpiry e => execSerialHoldExpiry_keeps e hk
  | .sstat n m e => execSstat_keeps n m e hk
  | .sclr n m e => execSclr_keeps n m e hk
  | .irigOnTime ago => execIrigOnTime_keeps ago hk
  | .irigFrame ws => execIrigFrame_keeps ws hk
  | .irigLos => execIrigLos_keeps hk
  | .irigOutputSecond => execIrigOutputSecond_keeps hk
  | .perstAssert => execPerstAssert_keeps hk
  | .pcieLinkUp speed width => execPcieLinkUp_keeps speed width hk
  | .pcieLinkDown => execPcieLinkDown_keeps hk
  | .hotReset => execHotReset_keeps hk
  | .functionLevelReset => execFunctionLevelReset_keeps hk
  | .busMasterChange bme d3 => execBusMasterChange_keeps bme d3 hk
  | .ringEnable r w => execRingEnable_keeps r w hk
  | .ringDisable r => execRingDisable_keeps r hk
  | .ringDrained r => execRingDrained_keeps r hk
  | .doorbellWrite off v whole dis => execDoorbellWrite_keeps off v whole dis hk
  | .eventDoorbellWrite v => execEventDoorbellWrite_keeps v hk
  | .eventRingEnable w => execEventRingEnable_keeps w hk
  | .descriptorFetch r err => execDescriptorFetch_keeps r err hk
  | .txDescriptor r err => execTxDescriptor_keeps r err hk
  | .rxDelivery mgmt err => execRxDelivery_keeps mgmt err hk
  | .rxwaitExpiry mgmt => execRxwaitExpiry_keeps mgmt hk
  | .svcDescriptor r => execSvcDescriptor_keeps r hk
  | .svcComplete r err => execSvcComplete_keeps r err hk
  | .holdoffExpiry v => execHoldoffExpiry_keeps v hk
  | .windowEnable w v => execWindowEnable_keeps w v hk
  | .bridgeRead mgmt a n => execBridgeRead_keeps mgmt a n hk
  | .bridgeWrite mgmt a data whole => execBridgeWrite_keeps mgmt a data whole hk
  | .bridgeAccessIssue e => execBridgeAccessIssue_keeps e hk
  | .bridgeReadTimeout id => execBridgeReadTimeout_keeps id hk
  | .rdataReceive e => execRdataReceive_keeps e hk
  | .memoryReadReceive e err => execMemoryReadReceive_keeps e err hk
  | .memoryWriteReceive e err => execMemoryWriteReceive_keeps e err hk
  | .signalReceive e err => execSignalReceive_keeps e err hk
  | .memoryAckSend e => execMemoryAckSend_keeps e hk
  | .memoryAckReceive e => execMemoryAckReceive_keeps e hk
  | .wfailReceive e => execWfailReceive_keeps e hk
  | .memoryRto e => execMemoryRto_keeps e hk
  | .memoryHoldExpiry e err => execMemoryHoldExpiry_keeps e err hk
  | .signalSend w => execSignalSend_keeps w hk
  | .prefetchLineExpiry w line => execPrefetchLineExpiry_keeps w line hk
  | .mstat n m e => execMstat_keeps n m e hk
  | .mclr n m e => execMclr_keeps n m e hk
  | .dmaEnable n => execDmaEnable_keeps n hk
  | .dmaDisable n => execDmaDisable_keeps n hk
  | .shadowValid n v => execShadowValid_keeps n v hk
  | .dmaLoad n => execDmaLoad_keeps n hk
  | .dmaStartAt n => execDmaStartAt_keeps n hk
  | .dmaTransferDone n => execDmaTransferDone_keeps n hk
  | .dmaBusError n moved dest cause => execDmaBusError_keeps n moved dest cause hk
  | .dmaResume n => execDmaResume_keeps n hk
  | .dramTrainingStart w => execDramTrainingStart_keeps w hk
  | .dramTrainingDone ok => execDramTrainingDone_keeps ok hk
  | .dramScrub cor unc => execDramScrub_keeps cor unc hk
  | .hash => execHash_keeps hk
  | .hmac a => execHmac_keeps a hk
  | .kdf a b => execKdf_keeps a b hk
  | .kdfec a b => execKdfec_keeps a b hk
  | .keygen b ok => execKeygen_keeps b ok hk
  | .pubkey a => execPubkey_keeps a hk
  | .sign a => execSign_keeps a hk
  | .verify => execVerify_keeps hk
  | .ecdhkdf a b => execEcdhkdf_keeps a b hk
  | .random ok => execRandom_keeps ok hk
  | .destroy a => execDestroy_keeps a hk
  | .imgver a => execImgver_keeps a hk
  | .enroll ok => execEnroll_keeps ok hk
  | .lcadv b copies => execLcadv_keeps b copies hk
  | .arbadv b ok => execArbadv_keeps b ok hk
  | .revoke a ok => execRevoke_keeps a ok hk
  | .fuse ok => execFuse_keeps ok hk
  | .keyCommandDone => execKeyCommandDone_keeps hk
  | .slotCheckSweep => execSlotCheckSweep_keeps hk
  | .offerSend t => execOfferSend_keeps t hk
  | .offerReceive t bytes => execOfferReceive_keeps t bytes hk
  | .proofReceive t bytes => execProofReceive_keeps t bytes hk
  | .abortReceive t bytes => execAbortReceive_keeps t bytes hk
  | .certreqReceive src bytes => execCertreqReceive_keeps src bytes hk
  | .chainReceive src bytes place ok => execChainReceive_keeps src bytes place ok hk
  | .powerOnReset => execPowerOnReset_keeps hk
  | .porstAssert => execPorstAssert_keeps hk
  | .chipReset k => execChipReset_keeps k hk
  | .chipResetRelease compat pcieRc dbgEn => execChipResetRelease_keeps compat pcieRc dbgEn hk
  | .genRstChip w => execGenRstChip_keeps w hk
  | .genRstMgmt w => execGenRstMgmt_keeps w hk
  | .mgmtReset wdt => execMgmtReset_keeps wdt hk
  | .mgmtWatchdogKick w => execMgmtWatchdogKick_keeps w hk
  | .mgmtWatchdogExpiry => execMgmtWatchdogExpiry_keeps hk
  | .bootFuses cor bad => execBootFuses_keeps cor bad hk
  | .bootKeys ra rb => execBootKeys_keeps ra rb hk
  | .pufRetry ra rb => execPufRetry_keeps ra rb hk
  | .bootSram => execBootSram_keeps hk
  | .bootTable => execBootTable_keeps hk
  | .bootMgmt => execBootMgmt_keeps hk
  | .bootConfig => execBootConfig_keeps hk
  | .configPoll => execConfigPoll_keeps hk
  | .configPollTimeout => execConfigPollTimeout_keeps hk
  | .configDelay => execConfigDelay_keeps hk
  | .bootEngines => execBootEngines_keeps hk
  | .bootRun => execBootRun_keeps hk
  | .imageSlotWrite x isLen w => execImageSlotWrite_keeps x isLen w hk
  | .seatDebounceComplete => execSeatDebounceComplete_keeps hk
  | .removal => execRemoval_keeps hk
  | .feedValid f => execFeedValid_keeps f hk
  | .feedUndervoltage f => execFeedUndervoltage_keeps f hk
  | .feedOvervoltage f mv => execFeedOvervoltage_keeps f mv hk
  | .idealDiodeOn f => execIdealDiodeOn_keeps f hk
  | .idealDiodeReverseOff f => execIdealDiodeReverseOff_keeps f hk
  | .feedcOvervoltage mv => execFeedcOvervoltage_keeps mv hk
  | .noFeed => execNoFeed_keeps hk
  | .rampEnd => execRampEnd_keeps hk
  | .pathgdRise => execPathgdRise_keeps hk
  | .limitRecompute va vb vc vout vbus raw held => execLimitRecompute_keeps va vb vc vout vbus raw held hk
  | .faultTimerTrip => execFaultTimerTrip_keeps hk
  | .fastTrip raw => execFastTrip_keeps raw hk
  | .retryExpiry => execRetryExpiry_keeps hk
  | .retryReset => execRetryReset_keeps hk
  | .pathOffCommand w => execPathOffCommand_keeps w hk
  | .pathOnCommand w => execPathOnCommand_keeps w hk
  | .clearLatch => execClearLatch_keeps hk
  | .passDamaged => execPassDamaged_keeps hk
  | .sinkSwitchClose => execSinkSwitchClose_keeps hk
  | .sinkSwitchOpen reverse => execSinkSwitchOpen_keeps reverse hk
  | .limitWrite shunt w => execLimitWrite_keeps shunt w hk
  | .efuseLimitTrip n ma => execEfuseLimitTrip_keeps n ma hk
  | .efuseFastTrip n ma => execEfuseFastTrip_keeps n ma hk
  | .efuseThermalTrip n => execEfuseThermalTrip_keeps n hk
  | .ccTerminationDetect cc2 rp cur => execCcTerminationDetect_keeps cc2 rp cur hk
  | .attachDebounce => execAttachDebounce_keeps hk
  | .tryExpiry seen cur => execTryExpiry_keeps seen cur hk
  | .drpToggle => execDrpToggle_keeps hk
  | .sinkDetach => execSinkDetach_keeps hk
  | .sourceDetach => execSourceDetach_keeps hk
  | .errrecExpiry => execErrrecExpiry_keeps hk
  | .feedPathLeaveOn => execFeedPathLeaveOn_keeps hk
  | .sourceCapabilitiesReceive objs => execSourceCapabilitiesReceive_keeps objs hk
  | .requestReceive w => execRequestReceive_keeps w hk
  | .psRdyReceive => execPsRdyReceive_keeps hk
  | .pdTimerExpiry k => execPdTimerExpiry_keeps k hk
  | .ppsKeepalive => execPpsKeepalive_keeps hk
  | .sourceCurrentLimitTrip => execSourceCurrentLimitTrip_keeps hk
  | .updPrswap w => execUpdPrswap_keeps w hk
  | .updDrswap w => execUpdDrswap_keeps w hk
  | .updHreset w => execUpdHreset_keeps w hk
  | .updExitalt w => execUpdExitalt_keeps w hk
  | .prSwapReceive => execPrSwapReceive_keeps hk
  | .drSwapReceive => execDrSwapReceive_keeps hk
  | .hardResetReceive => execHardResetReceive_keeps hk
  | .softResetReceive => execSoftResetReceive_keeps hk
  | .unsupportedMessageReceive vconn => execUnsupportedMessageReceive_keeps vconn hk
  | .altModeDiscovery vdo dpSink pinC pinD => execAltModeDiscovery_keeps vdo dpSink pinC pinD hk
  | .enterModeReceive svid => execEnterModeReceive_keeps svid hk
  | .enterModeAck ack => execEnterModeAck_keeps ack hk
  | .exitModeReceive => execExitModeReceive_keeps hk
  | .dpAttention hpd irq => execDpAttention_keeps hpd irq hk
  | .pwrCmdRun w => execPwrCmdRun_keeps w hk
  | .pwrCmdTrim w => execPwrCmdTrim_keeps w hk
  | .pwrCmdHush w => execPwrCmdHush_keeps w hk
  | .pwrCmdDormant w => execPwrCmdDormant_keeps w hk
  | .pwrCmdOff w => execPwrCmdOff_keeps w hk
  | .handshakeAnswer k => execHandshakeAnswer_keeps k hk
  | .firmwareAnswer w => execFirmwareAnswer_keeps w hk
  | .handshakeTimeout k => execHandshakeTimeout_keeps k hk
  | .wakeEvent k => execWakeEvent_keeps k hk
  | .wakeTimerExpiry => execWakeTimerExpiry_keeps hk
  | .avsConfirm mv => execAvsConfirm_keeps mv hk
  | .avsTimeout => execAvsTimeout_keeps hk
  | .powerGood => execPowerGood_keeps hk
  | .railUndervoltage => execRailUndervoltage_keeps hk
  | .referenceClockLost => execReferenceClockLost_keeps hk
  | .pllLockLost k => execPllLockLost_keeps k hk
  | .faultStatusClear j w hw => execFaultStatusClear_keeps j w hw hk
  | .faultCfgWrite slot w => execFaultCfgWrite_keeps slot w hk
  | .faultEscalation slot => execFaultEscalation_keeps slot hk
  | .temperatureSample code => execTemperatureSample_keeps code hk
  | .configParitySweep bad => execConfigParitySweep_keeps bad hk
  | .collectorLockstepMismatch => execCollectorLockstepMismatch_keeps hk
  | .mgmtLockstepMismatch => execMgmtLockstepMismatch_keeps hk
  | .mgmtSramEcc a => execMgmtSramEcc_keeps a hk
  | .elytraEnterCommand w => execElytraEnterCommand_keeps w hk
  | .elytraExitCommand w => execElytraExitCommand_keeps w hk
  | .gpioEdge p ball ago => execGpioEdge_keeps p ball ago hk
  | .i2cWriteByte b w => execI2cWriteByte_keeps b w hk
  | .i2cReadByte b w => execI2cReadByte_keeps b w hk
  | .i2cCommandDone b outcome data => execI2cCommandDone_keeps b outcome data hk
  | .i2cStretchTimeout b => execI2cStretchTimeout_keeps b hk
  | .mdioC22Write w => execMdioC22Write_keeps w hk
  | .mdioC22Read w => execMdioC22Read_keeps w hk
  | .mdioC45Address w => execMdioC45Address_keeps w hk
  | .mdioC45Write w => execMdioC45Write_keeps w hk
  | .mdioC45ReadIncrement w => execMdioC45ReadIncrement_keeps w hk
  | .mdioC45Read w => execMdioC45Read_keeps w hk
  | .mdioFrameDone resp data => execMdioFrameDone_keeps resp data hk
  | .farDeviceRemoteWake n => execFarDeviceRemoteWake_keeps n hk
  | .portDisconnect n => execPortDisconnect_keeps n hk
  | .portResumeEnd n => execPortResumeEnd_keeps n hk
  | .acceptRejectWaitReceive k => execAcceptRejectWaitReceive_keeps k hk
  | .waitRequestRepeat => execWaitRequestRepeat_keeps hk
  | .discoverRequestReceive k => execDiscoverRequestReceive_keeps k hk
  | .referenceClockReturn k => execReferenceClockReturn_keeps k hk
  | .perstDeassert => execPerstDeassert_keeps hk
  | .sinkDeadTimeExpiry => execSinkDeadTimeExpiry_keeps hk

/-- All that a step can do: it idles on an empty queue, or it takes the front off the queue and keeps the rest of it, the stores' canonical form and the burnt fuses. -/
theorem step_cases {s t : State} (h : step s = .next t) :
    (s.pending = [] ∧ t = s) ∨ ∃ c l, s.pending = c :: l ∧ Keeps { s with pending := l } t := by
  cases hq : s.pending with
  | nil =>
    simp only [step, hq, Host.Outcome.next.injEq] at h
    exact .inl ⟨rfl, h.symm⟩
  | cons c l =>
    simp only [step, hq] at h
    exact .inr ⟨c, l, rfl, exec_keeps (.refl _) c t h⟩

/-- Settles O54: an idle step changes nothing, and every other one starts from the same stores and keeps their form. -/
theorem everyStepKeepsSound : Obligations.EveryStepKeepsSound := by
  intro s t hs hstep
  rcases step_cases hstep with ⟨-, rfl⟩ | ⟨c, l, -, hkeeps⟩
  · exact hs
  · exact hkeeps.sound (hs.withPending l)

end Sys2Proof.Machine
end

section
/-! PROOFS. Tunnel contexts: what a command, a write and a timer do in each state of a slot, and the duplicate-discard table (R56, R57, R68 to R72, R180, R183). -/

namespace Sys2Proof.Machine

/-! The timer of a slot (R69). -/

theorem State.ctxExpiry_of_not_due {s : State} {n : Nat} (h : s.due (.slot n) = false) : s.ctxExpiry n = none := by
  simp [State.ctxExpiry, h]

/-- A FREE or an OPEN slot has no timer that could expire. -/
theorem State.ctxExpiry_of_untimed {s : State} {n : Nat} (h : s.rd CTX3_STATE n = ctxFree ∨ s.rd CTX3_STATE n = ctxOpen) :
    s.ctxExpiry n = none := by
  rcases h with h | h <;> simp [State.ctxExpiry, h, ctxFree, ctxOpening, ctxOpen, ctxClosing, ctxRetired]

theorem State.ctxExpiry_of_opening {s : State} {n : Nat} (h : s.rd CTX3_STATE n = ctxOpening) (hdue : s.due (.slot n) = true) :
    s.ctxExpiry n = some ((s.ctxEnter n ctxFree).fabCount 7) := by
  simp [State.ctxExpiry, h, hdue]

theorem State.ctxExpiry_of_closing {s : State} {n : Nat} (h : s.rd CTX3_STATE n = ctxClosing) (hdue : s.due (.slot n) = true) :
    s.ctxExpiry n = some (s.ctxEnter n ctxRetired) := by
  simp [State.ctxExpiry, h, hdue, ctxOpening, ctxClosing]

theorem State.ctxExpiry_of_retired {s : State} {n : Nat} (h : s.rd CTX3_STATE n = ctxRetired) (hdue : s.due (.slot n) = true) :
    s.ctxExpiry n = some (s.ctxEnter n ctxFree) := by
  simp [State.ctxExpiry, h, hdue, ctxOpening, ctxClosing, ctxRetired]

theorem State.ctxTimer_of_expiry {s t : State} {n st : Nat} (h : s.rd CTX3_STATE n = st) (he : s.ctxExpiry n = some t) :
    s.ctxTimer n st = t := by
  simp [State.ctxTimer, h, he]

/-- A timer that expires in no state of the slot changes nothing. -/
theorem State.ctxTimer_of_no_expiry {s : State} {n : Nat} (h : s.ctxExpiry n = none) (st : Nat) : s.ctxTimer n st = s := by
  simp [State.ctxTimer, h]

theorem State.ctxDrained_of_drained {s : State} {n : Nat} (h : s.rd CTX3_STATE n = ctxClosing) (hdir : s.on CTX2_DIR n = false)
    (hfl : Tab.get s.fab.inflight n 0 = 0) : s.ctxDrained n = s.ctxEnter n ctxRetired := by
  simp [State.ctxDrained, h, hdir, hfl]

theorem State.ctxDrained_of_not_closing {s : State} {n : Nat} (h : s.rd CTX3_STATE n ≠ ctxClosing) : s.ctxDrained n = s := by
  simp [State.ctxDrained, h]

/-! Commands (R70). -/

theorem State.ctxCommand_of_busy {s : State} (h : s.on FAB_CTXSTAT_BUSY = true) (op n : Nat) :
    s.ctxCommand op n = s.wr FAB_CTXSTAT_OVR 1 := by
  simp [State.ctxCommand, h]

/-- A slot code and an operation that R70 gives a meaning. -/
def ctxCodesOk (op n : Nat) : Prop := (1 ≤ op ∧ op ≤ 4) ∧ 1 ≤ n ∧ n ≤ 252

/-- A timer of the slot that has run out wins over the command, which completes with BUSY. -/
theorem State.ctxCommand_of_expiry {s t : State} {op n : Nat} (hc : ctxCodesOk op n) (hb : s.on FAB_CTXSTAT_BUSY = false)
    (he : s.ctxExpiry n = some t) : s.ctxCommand op n = t.ctxStart n .busy false := by
  obtain ⟨⟨h1, h4⟩, hn, hm⟩ := hc
  simp [State.ctxCommand, hb, h1, h4, hn, hm, he]

/-- With no timer that has run out the command is judged. -/
theorem State.ctxCommand_of_no_expiry {s : State} {op n : Nat} (hb : s.on FAB_CTXSTAT_BUSY = false) (he : s.ctxExpiry n = none) :
    s.ctxCommand op n = (s.ctxJudge op n).1.ctxStart n (s.ctxJudge op n).2 (op == 1 && (s.ctxJudge op n).2 == .ok) := by
  simp [State.ctxCommand, hb, he]

theorem State.ctxJudge_open {s : State} {n : Nat} (hc : ctxCodesOk 1 n) (hst : s.rd CTX3_STATE n = ctxFree)
    (hok : s.openCheck n = .ok) : s.ctxJudge 1 n = (s.openSlot n, .ok) := by
  obtain ⟨-, hn, hm⟩ := hc
  have hn0 : n ≠ 0 := by omega
  have hm0 : ¬ n > 252 := by omega
  simp [State.ctxJudge, hn0, hm0, State.ctxTarget, hst, hok]

/-- A command other than OPEN that the state of the slot allows takes the slot to its target. -/
theorem State.ctxJudge_of_target {s : State} {op n st : Nat} (hc : ctxCodesOk op n) (hop : op ≠ 1)
    (ht : s.ctxTarget op n = some st) : s.ctxJudge op n = (s.ctxEnter n st, .ok) := by
  obtain ⟨⟨h1, h4⟩, hn, hm⟩ := hc
  have hop0 : op ≠ 0 := by omega
  have hop4 : ¬ op > 4 := by omega
  have hn0 : n ≠ 0 := by omega
  have hm0 : ¬ n > 252 := by omega
  simp [State.ctxJudge, hop0, hop4, hn0, hm0, ht, hop]

theorem State.ctxCommand_of_target {s : State} {op n st : Nat} (hc : ctxCodesOk op n) (hop : op ≠ 1)
    (hb : s.on FAB_CTXSTAT_BUSY = false) (he : s.ctxExpiry n = none) (ht : s.ctxTarget op n = some st) :
    s.ctxCommand op n = (s.ctxEnter n st).ctxStart n .ok false := by
  rw [State.ctxCommand_of_no_expiry hb he, State.ctxJudge_of_target hc hop ht, beq_false_of_ne hop, Bool.false_and]

/-- CLOSE of an OPEN slot: an origin with nothing in flight is RETIRED at once, any other slot CLOSING. -/
theorem State.ctxTarget_close {s : State} {n : Nat} (h : s.rd CTX3_STATE n = ctxOpen) :
    s.ctxTarget 3 n = some (if !s.on CTX2_DIR n && Tab.get s.fab.inflight n 0 = 0 then ctxRetired else ctxClosing) := by
  simp [State.ctxTarget, h]

/-! Writes of context words and of the destination list (R68, R71). -/

/-- A FREE slot takes every writable field of a word but word 2. -/
theorem State.ctxWordWrite_of_free {s : State} {n k : Nat} (hn : n ≠ 0) (h : s.rd CTX3_STATE n = ctxFree) (hk : k ≠ 2) (w : Nat) :
    s.ctxWordWrite n k w = s.writeFields false (ctxFields k) n 0 w := by
  simp [State.ctxWordWrite, hn, h, hk]

theorem State.ctxWordWrite_of_closing {s : State} {n : Nat} (hn : n ≠ 0) (h : s.rd CTX3_STATE n = ctxClosing) (k w : Nat) :
    s.ctxWordWrite n k w = s.ctxLate := by
  simp [State.ctxWordWrite, hn, h, ctxFree, ctxOpening, ctxOpen, ctxClosing]

/-- A field that a write reaches stores an unreserved code. -/
theorem State.writeField_rw {F : Field} (hacc : F.acc = .rw) {i j w : Nat} (hok : F.codeOk (bitsOf w F.hi F.lo) = true) (s : State) (lk : Bool) :
    s.writeField lk F i j w = s.wr F (bitsOf w F.hi F.lo) i j := by
  simp [State.writeField, hacc, hok]

/-- A lockable field of an unlocked block stores an unreserved code. -/
theorem State.writeField_rwl {F : Field} (hacc : F.acc = .rwl) {i j w : Nat} (hok : F.codeOk (bitsOf w F.hi F.lo) = true) (s : State) :
    s.writeField false F i j w = s.wr F (bitsOf w F.hi F.lo) i j := by
  simp [State.writeField, hacc, hok]

/-! FAB_SELF and FAB_REGION (R57, R72). -/

theorem State.selfWrite_of_used {s : State} (h : State.slots.any (fun n => s.rd CTX3_STATE n != ctxFree) = true) (w : Nat) :
    s.selfWrite w = s.wr FAB_CTXSTAT_SELFREJ 1 := by
  rw [State.selfWrite, if_pos h]

theorem State.selfWrite_of_free {s : State} (h : State.slots.any (fun n => s.rd CTX3_STATE n != ctxFree) = false) (w : Nat) :
    s.selfWrite w = (s.writeReg 0x180000 w).serviceCheck := by
  rw [State.selfWrite, if_neg (by rw [h]; exact Bool.false_ne_true)]

/-- Disabled trunks have no part in the conditions of R57. -/
theorem State.serviceCheck_of_disabled {s : State} (h : ∀ t < 4, s.rd TRK_STAT_STATE t = trkDisabled) : s.serviceCheck = s := by
  unfold State.serviceCheck State.serviceLost
  split <;> refine foldl_fixes fun t ht => ?_ <;>
    simp [State.bondAdvance, h t (List.mem_range.mp ht), trkDisabled, trkBond, trkTrain, trkSeal, trkUp]

theorem findReg_fabSelf : findReg 0x180000 = some (block_FAB, reg_FAB_SELF, 0, 0) := by decide +kernel

theorem findReg_fabRegion : findReg 0x180004 = some (block_FAB, reg_FAB_REGION, 0, 0) := by decide +kernel

/-- The address written to an unlocked FAB_SELF is stored as it stands, but for the reserved codes STATION 0 and HUB 0. -/
theorem State.writeReg_fabSelf {s : State} {w : Nat} (hl : s.on FAB_LOCK_LOCK = false) (hst : 1 ≤ bitsOf w 24 18) (hhub : 1 ≤ bitsOf w 10 7) :
    s.writeReg 0x180000 w = ((((s.wr FAB_SELF_VALID (bitsOf w 31 31)).wr FAB_SELF_STATION (bitsOf w 24 18)).wr
      FAB_SELF_RING (bitsOf w 17 15)).wr FAB_SELF_CHAIN (bitsOf w 14 11)).wr FAB_SELF_HUB (bitsOf w 10 7) := by
  have hlock : s.locked block_FAB = false := hl
  have hstation : FAB_SELF_STATION.codeOk (bitsOf w 24 18) = true := by
    have hmax : bitsOf w 24 18 ≤ 127 := Nat.le_of_lt_succ (bitsOf_lt w 24 18)
    simp [Field.codeOk, FAB_SELF_STATION, hst, hmax]
  have hhubCode : FAB_SELF_HUB.codeOk (bitsOf w 10 7) = true := by
    have hmax : bitsOf w 10 7 ≤ 15 := Nat.le_of_lt_succ (bitsOf_lt w 10 7)
    simp [Field.codeOk, FAB_SELF_HUB, hhub, hmax]
  simp only [State.writeReg, findReg_fabSelf, hlock, reg_FAB_SELF, State.writeFields_cons, State.writeFields_nil]
  rw [State.writeField_rwl (F := FAB_SELF_VALID) rfl rfl, State.writeField_rwl (F := FAB_SELF_STATION) rfl hstation,
    State.writeField_rwl (F := FAB_SELF_RING) rfl rfl, State.writeField_rwl (F := FAB_SELF_CHAIN) rfl rfl,
    State.writeField_rwl (F := FAB_SELF_HUB) rfl hhubCode]
  rfl

theorem State.writeReg_fabRegion {s : State} (hl : s.on FAB_LOCK_LOCK = false) (w : Nat) :
    s.writeReg 0x180004 w = s.wr FAB_REGION_TAG (bitsOf w 15 0) := by
  have hlock : s.locked block_FAB = false := hl
  simp only [State.writeReg, findReg_fabRegion, hlock, reg_FAB_REGION, State.writeFields_cons, State.writeFields_nil]
  exact State.writeField_rwl rfl rfl s

/-- No field of FAB_SELF or FAB_REGION is a trunk's state. -/
theorem fabSelf_key_ne_trkState : ∀ r ∈ [reg_FAB_SELF, reg_FAB_REGION], ∀ t < 4, ∀ F ∈ r.flds, F.key 0 0 ≠ TRK_STAT_STATE.key t 0 := by
  decide

/-- With every trunk disabled a write of FAB_SELF or FAB_REGION moves no trunk. -/
theorem State.serviceCheck_writeReg {s : State} {off w : Nat} {r : Reg} (hreg : findReg off = some (block_FAB, r, 0, 0))
    (hr : r ∈ [reg_FAB_SELF, reg_FAB_REGION]) (h : ∀ t < 4, s.rd TRK_STAT_STATE t = 0) :
    (s.writeReg off w).serviceCheck = s.writeReg off w := by
  refine State.serviceCheck_of_disabled fun t ht => ?_
  simp only [State.writeReg, hreg]
  rw [State.rd_writeFields_ne (fabSelf_key_ne_trkState r hr t ht)]
  exact h t ht

/-! The duplicate-discard table (R180, R183). -/

/-- Ageing shows the number of entries that it keeps. -/
theorem State.ddAge_eq (s : State) : s.ddAge = s.setDd s.ddAge.fab.dd := rfl

theorem State.mem_ddAge {s : State} {e : DdEntry} :
    e ∈ s.ddAge.fab.dd ↔ e ∈ s.fab.dd ∧ s.tmu.elapsed ≤ e.used + s.rd FAB_DD_CFG_AGE * 1000000 * 2 ^ 32 := by
  simp [State.ddAge, State.setDd]

/-- Settles O9: each command by whether a timer of its slot has run out and by its target, each write and timer by the slot's state. -/
theorem tunnelContexts : Obligations.TunnelContexts := by
  have hcodes : ∀ {op : Nat} {n : Fin 256}, 1 ≤ op ∧ op ≤ 4 → n.val ≠ 0 → ¬ n.val > 252 → ctxCodesOk op n :=
    fun hop hn hm => ⟨hop, by omega, by omega⟩
  refine ⟨fun n s hb hn hm hst hok => ?_, fun n s hb hn hm hst hdue => ?_, fun n s hb hn hm hst hor => ?_,
    fun n s hb hn hm hst hdir hfl => ?_, fun n s hb hn hm hst => ?_, fun n s hb hn hm hst hdue => ?_, fun s hb hopen => ?_,
    fun n s hb => ?_, fun n w s hn hst hw => ?_, fun n k w s hn hst => ?_, fun k w s h => ?_, fun k w s h => ?_,
    fun w s h => ?_, fun w s h hl hstation hhub ht => ?_, fun w s h => ?_, fun w s => ?_, fun w s hl ht => ?_,
    fun n s hst hdue => ?_, fun n s hst hdue => ?_, fun n s hst hdue => ?_, fun n s hst hdir hfl => ?_, fun n s hst => ?_,
    fun n s hdue => ?_, fun s => ?_, fun s => ?_⟩
  -- Commands.
  · have hnone := State.ctxExpiry_of_untimed (.inl hst)
    show Host.Outcome.next (s.ctxCommand 1 n) = _
    rw [State.ctxCommand_of_no_expiry hb hnone, State.ctxJudge_open (hcodes (by decide) hn hm) hst hok]
    rfl
  · have hnone := State.ctxExpiry_of_not_due hdue
    have htarget : s.ctxTarget 2 n = some ctxOpen := by simp [State.ctxTarget, hst, ctxOpening]
    exact congrArg _ (State.ctxCommand_of_target (hcodes (by decide) hn hm) (by decide) hb hnone htarget)
  · have hnone := State.ctxExpiry_of_untimed (.inr hst)
    have htarget : s.ctxTarget 3 n = some ctxClosing := by
      rw [State.ctxTarget_close hst, if_neg]
      rcases hor with h | h <;> simp [h]
    exact congrArg _ (State.ctxCommand_of_target (hcodes (by decide) hn hm) (by decide) hb hnone htarget)
  · have hnone := State.ctxExpiry_of_untimed (.inr hst)
    have htarget : s.ctxTarget 3 n = some ctxRetired := by
      rw [State.ctxTarget_close hst, if_pos]
      simp [hdir, hfl]
    exact congrArg _ (State.ctxCommand_of_target (hcodes (by decide) hn hm) (by decide) hb hnone htarget)
  · have hnone := State.ctxExpiry_of_untimed (.inr hst)
    have htarget : s.ctxTarget 4 n = some ctxRetired := by simp [State.ctxTarget, hst, ctxOpen]
    exact congrArg _ (State.ctxCommand_of_target (hcodes (by decide) hn hm) (by decide) hb hnone htarget)
  · exact congrArg _ (State.ctxCommand_of_expiry (hcodes (by decide) hn hm) hb (State.ctxExpiry_of_opening hst hdue))
  · show Host.Outcome.next s.ctxDone = _
    simp [State.ctxDone, State.ctxComplete, State.when, hb, hopen]
  · have hovr : ∀ op, s.ctxCommand op n = s.wr FAB_CTXSTAT_OVR 1 := fun op => State.ctxCommand_of_busy hb op n
    exact ⟨congrArg _ (hovr 1), congrArg _ (hovr 2), congrArg _ (hovr 3), congrArg _ (hovr 4)⟩
  -- Writes of context words and of the destination list.
  · have hpartner : CTX3_PARTNER.codeOk (bitsOf w.toNat 7 0) = true := by simp [Field.codeOk, CTX3_PARTNER, hw]
    have hword : ∀ {k : Fin 8} {t : State}, k.val ≠ 2 → s.writeFields false (State.ctxFields k) n 0 w.toNat = t →
        exec (.contextWordWrite n k w) s = .next t :=
      fun hk ht => congrArg _ ((State.ctxWordWrite_of_free hn hst hk w.toNat).trans ht)
    exact ⟨hword (by decide) (State.writeField_rw (F := CTX0_KEYSRC) rfl rfl s false),
      hword (by decide) (State.writeField_rw (F := CTX1_DEST) rfl rfl s false),
      hword (by decide) (State.writeField_rw (F := CTX3_PARTNER) rfl hpartner s false)⟩
  · exact congrArg _ (State.ctxWordWrite_of_closing hn hst k w.toNat)
  · show Host.Outcome.next (s.dlistWrite k w.toNat) = _
    rw [State.dlistWrite, h]
    rfl
  · show Host.Outcome.next (s.dlistWrite k w.toNat) = _
    rw [State.dlistWrite, h]
    rfl
  -- FAB_SELF and FAB_REGION.
  · exact congrArg _ (State.selfWrite_of_free h w.toNat)
  · refine congrArg _ ((State.selfWrite_of_free h w.toNat).trans ?_)
    rw [State.serviceCheck_writeReg findReg_fabSelf (by simp) ht, State.writeReg_fabSelf hl hstation hhub]
  · exact congrArg _ (State.selfWrite_of_used h w.toNat)
  · rfl
  · show Host.Outcome.next (s.writeReg 0x180004 w.toNat).serviceCheck = _
    rw [State.serviceCheck_writeReg findReg_fabRegion (by simp) ht, State.writeReg_fabRegion hl]
  -- Timers.
  · exact congrArg _ (State.ctxTimer_of_expiry hst (State.ctxExpiry_of_opening hst hdue))
  · exact congrArg _ (State.ctxTimer_of_expiry hst (State.ctxExpiry_of_closing hst hdue))
  · exact congrArg _ (State.ctxTimer_of_expiry hst (State.ctxExpiry_of_retired hst hdue))
  · exact congrArg _ (State.ctxDrained_of_drained hst hdir hfl)
  · have hnone := State.ctxExpiry_of_untimed (.inr hst)
    refine ⟨congrArg _ (State.ctxTimer_of_no_expiry hnone _), congrArg _ (State.ctxTimer_of_no_expiry hnone _),
      congrArg _ (State.ctxTimer_of_no_expiry hnone _), congrArg _ (State.ctxDrained_of_not_closing ?_)⟩
    simp [hst, ctxClosing]
  · have hnone := State.ctxExpiry_of_not_due hdue
    exact ⟨congrArg _ (State.ctxTimer_of_no_expiry hnone _), congrArg _ (State.ctxTimer_of_no_expiry hnone _),
      congrArg _ (State.ctxTimer_of_no_expiry hnone _)⟩
  -- The duplicate-discard table.
  · exact ⟨s.ddAge, rfl, fun _ => State.mem_ddAge, rfl⟩
  · exact ⟨s.ddFlush, rfl, rfl, rfl⟩

end Sys2Proof.Machine
end

section
/-! PROOFS. Management messages over tunnel 0: open requests and answers, hellos and the station directory (R67, R72 to R76). -/

namespace Sys2Proof.Machine

/-! Open requests and answers (R67, R72). -/

/-- A request that two slots take is answered: both are activated, the answer is kept and sent. -/
theorem State.openRequest_of_opened {s s1 s2 : State} {origin o l proto ver cls port t u v loc : Nat} (hrun : s.mgmtRuns = true)
    (ht : s.freeSlot 0 = some t) (hu : s.freeOrigin t origin = some u) (hv : v = min ver (s.topVersion origin proto))
    (hloc : loc = s.selfPrefix * 128 + l) (h1 : s.fwOpen t ⟨true, origin, loc, proto, v, cls, port, o, u⟩ = some s1)
    (h2 : s1.fwOpen u ⟨false, loc, origin, proto, v, cls, 0, 0, t⟩ = some s2) :
    s.openRequest origin o l proto ver cls port =
      ({ (s2.fwActivate t).fwActivate u with fab := { ((s2.fwActivate t).fwActivate u).fab with
        answers := (origin, o, u, v) :: ((s2.fwActivate t).fwActivate u).fab.answers } } : State).sendFree (prefixOf origin * 128) := by
  subst hv hloc
  simp [State.openRequest, hrun, ht, hu, h1, h2]

/-- An answer at an OPENING origin slot whose return tunnel ends here binds the two. -/
theorem State.openAnswer_of_terminus {s : State} {o u ver port t : Nat} (hst : s.rd CTX3_STATE o = ctxOpening)
    (hdir : s.on CTX2_DIR o = false) (hrun : s.mgmtRuns = true) (ht : s.terminusOf (s.rd CTX1_DEST o) u = some t) :
    s.openAnswer o u ver port =
      ((s.wr CTX3_PARTNER t o).wr CTX2_VER (min ver (s.topVersion (s.rd CTX1_DEST o) (s.rd CTX2_PROTO o))) o).fwActivate o := by
  simp [State.openAnswer, hst, hdir, hrun, ht]

theorem State.openAnswer_of_not_opening {s : State} {o : Nat} (h : s.rd CTX3_STATE o ≠ ctxOpening) (u ver port : Nat) :
    s.openAnswer o u ver port = s := by
  simp [State.openAnswer, h]

/-! Hellos (R74 to R76). -/

/-- A hello goes out once the interval since the last has passed, or as the first. -/
theorem State.helloSend_of_due {s : State} (hrun : s.mgmtRuns = true) (h : s.armed .hello = false ∨ s.due .hello = true) (sm ready : Nat) :
    s.helloSend sm ready = { (s.sendTunnel0 sm (s.helloBytes ready)).arm .hello s.helloInt with
      fab := { ((s.sendTunnel0 sm (s.helloBytes ready)).arm .hello s.helloInt).fab with
        helloSeq := wrapAdd 8 ((s.sendTunnel0 sm (s.helloBytes ready)).arm .hello s.helloInt).fab.helloSeq 1 } } := by
  have hwait : (s.armed .hello && !s.due .hello) = false := by rcases h with h | h <;> simp [h]
  rw [State.helloSend, hrun, hwait]
  rfl

/-- A hub that is no station manager takes no hello and misses none. -/
theorem State.helloReceive_of_not_manager {s : State} (h : s.on FAB_ROLE_SM = false) (src : Nat) (b : List Byte) :
    s.helloReceive src b = s := by
  simp [State.helloReceive, h]

theorem State.helloLoss_of_not_manager {s : State} (h : s.on FAB_ROLE_SM = false) (pfx : Nat) : s.helloLoss pfx = s := by
  simp [State.helloLoss, h]

/-- The manager takes the first hello of a hub of its own station that is no manager: the hub's entries are written without a conflict. -/
theorem State.helloReceive_of_first {s : State} {src : Nat} {b : List Byte} (hsm : s.on FAB_ROLE_SM = true) (hrun : s.mgmtRuns = true)
    (hlen : b.length = 36) (hver : ofBe ((b.drop 0).take 1) = 1) (hvalid : addrValid src = true)
    (hstation : stationOf src = s.rd FAB_SELF_STATION) (hknown : Tab.get s.fab.heardId (prefixOf src) none = none)
    (hpeer : (ofBe ((b.drop 4).take 1)).testBit 0 = false) {t : State}
    (ht : t = s.each (List.range 128) (fun s l => s.dramWrite (s.dirAddr (prefixOf src * 128 + l))
      (s.dirEntry false ((ofBe ((b.drop (16 + l / 8)).take 1)).testBit (l % 8)) l (ofBe ((b.drop 32).take 4))))) :
    s.helloReceive src b = { t.arm (.silence (prefixOf src)) s.helloInt with
      fab := { t.fab with heardId := Tab.put t.fab.heardId (prefixOf src) (some (ofBe ((b.drop 8).take 8))) none } } := by
  subst ht
  simp only [State.helloReceive, hsm, hrun, hlen, hver, hvalid, hstation, hknown, hpeer, Bool.not_true, ne_eq, not_true, decide_false,
    Bool.or_self, Bool.false_and, Bool.or_false, Bool.false_eq_true, if_false]

/-- An interval without a hello of a hub of the manager's own station: each of its entries that is not absent counts it. -/
theorem State.helloLoss_of_due {s : State} {pfx : Nat} (hsm : s.on FAB_ROLE_SM = true) (hrun : s.mgmtRuns = true)
    (hdue : s.due (.silence pfx) = true) (hvalid : addrValid (pfx * 128) = true) (hstation : stationOf (pfx * 128) = s.rd FAB_SELF_STATION) :
    s.helloLoss pfx = (s.each (List.range 128) (fun s l =>
      if (Memory.byte s.dram (s.dirAddr (pfx * 128 + l))).toNat % 4 = 0 then s
      else s.dramWrite (s.dirAddr (pfx * 128 + l))
        (beBytes 1 (if satAdd 8 (Memory.byte s.dram (s.dirAddr (pfx * 128 + l) + 2)).toNat 1 ≥ s.rd FAB_ROLE_LOSS then 2
            else (Memory.byte s.dram (s.dirAddr (pfx * 128 + l))).toNat % 4) ++
          [Memory.byte s.dram (s.dirAddr (pfx * 128 + l) + 1)] ++
          beBytes 1 (satAdd 8 (Memory.byte s.dram (s.dirAddr (pfx * 128 + l) + 2)).toNat 1)))).arm (.silence pfx) s.helloInt := by
  simp only [State.helloLoss, hsm, hrun, hdue, hvalid, hstation, Bool.not_true, ne_eq, not_true, decide_false, Bool.or_self,
    Bool.false_eq_true, if_false]

/-- Settles O26: the model's functions under the conditions of each clause. -/
theorem managementMessages : Obligations.ManagementMessages := by
  refine ⟨fun origin o l proto ver cls port t u s s1 s2 hrun ht hu h1 h2 s3 h3 => ?_,
    fun o u ver port t s hst hdir hrun ht => congrArg _ (State.openAnswer_of_terminus hst hdir hrun ht),
    fun o u ver port s h => congrArg _ (State.openAnswer_of_not_opening h u ver port),
    fun sm ready s hrun h u hu => ?_,
    fun src bytes s hsm hrun hlen hver hvalid hstation hknown hpeer =>
      ⟨_, congrArg _ (State.helloReceive_of_first hsm hrun hlen hver hvalid hstation hknown hpeer rfl), rfl⟩,
    fun src bytes pfx s h => ⟨congrArg _ (State.helloReceive_of_not_manager h _ bytes), congrArg _ (State.helloLoss_of_not_manager h _)⟩,
    fun pfx s hsm hrun hdue hvalid hstation => ?_⟩
  · subst h3
    exact congrArg _ (State.openRequest_of_opened hrun ht hu rfl rfl h1 h2)
  · subst hu
    exact congrArg _ (State.helloSend_of_due hrun h sm.toNat ready.toNat)
  · show Host.Outcome.next (s.helloLoss pfx.toNat) = _
    rw [State.helloLoss_of_due hsm hrun hdue hvalid hstation]

end Sys2Proof.Machine
end

section
/-! PROOFS. Entry of a trunk to BOND: which trunk records it leaves, and what the statement on trunks and the ring claims of it (R157, R158, R173). -/

namespace Sys2Proof.Machine

/-! What leaves the records of the trunks alone. -/

section
variable (s : State)

theorem State.each_trunks {α : Type} {f : State → α → State} (hf : ∀ u a, (f u a).trunks = u.trunks) (l : List α) :
    (s.each l f).trunks = s.trunks :=
  State.each_keeps (P := fun u => u.trunks = s.trunks) (fun u a _ h => (hf u a).trans h) rfl

theorem State.scanStop_trunks (n err : Nat) : (s.scanStop n err).trunks = s.trunks := by
  unfold State.scanStop
  split <;> rfl

/-- A lane that leaves its state for another cause than a loss of lock reports nothing. -/
theorem State.laneGo_trunks (n st : Nat) : (s.laneGo n st false).trunks = s.trunks := by
  simp only [State.laneGo, Bool.false_and, Bool.false_eq_true, if_false]
  split
  · rfl
  · split
    · exact State.scanStop_trunks _ n 2
    · rfl

theorem State.laneRate_trunks (n r : Nat) : (s.laneRate n r).trunks = s.trunks := by
  simp only [State.laneRate, State.laneRelock]
  split
  · rfl
  · split
    · rfl
    · exact State.laneGo_trunks _ n laneCdr

theorem State.lanePower_trunks (n : Nat) : (s.lanePower n).trunks = s.trunks := by
  simp only [State.lanePower]
  split
  · exact State.laneGo_trunks _ n laneOff
  · split
    · exact State.laneGo_trunks _ n laneCdr
    · rfl

theorem State.bondWake_trunks (t : Nat) : (s.bondWake t).trunks = s.trunks := by
  unfold State.bondWake
  split <;> rfl

theorem State.bondRestart_trunks (t : Nat) : (s.bondRestart t).trunks = s.trunks := by
  have hlanes := s.each_trunks State.lanePower_trunks (List.range 28)
  simp only [State.bondRestart]
  split
  · exact hlanes
  · rw [State.bondWake_trunks, State.wr_trunks, State.wr_trunks, hlanes]

theorem State.causeOff_trunks (slot : Nat) : (s.causeOff slot).trunks = s.trunks := rfl

theorem State.holdCheck_trunks (v : Nat) : (s.holdCheck v).trunks = s.trunks := by
  unfold State.holdCheck
  split
  · split <;> rfl
  · rfl

theorem State.reachShow_trunks : s.reachShow.trunks = s.trunks := by
  simp only [State.reachShow, State.holdsCheck]
  rw [State.each_trunks _ State.holdCheck_trunks]
  unfold State.when
  split <;> rfl

theorem State.trunkWatch_trunks (t : Nat) : (s.trunkWatch t).trunks = s.trunks := by
  unfold State.trunkWatch State.ringTrunkChanged
  exact State.reachShow_trunks _

end

/-! Entry to BOND. -/

theorem State.leaveUp_of_disabled {s : State} {t : Nat} (h : s.rd TRK_STAT_STATE t = trkDisabled) : s.leaveUp t = s := by
  simp [State.leaveUp, h, trkDisabled, trkSeal, trkUp]

/-- The record of a trunk that enters BOND with trial width `w` on lanes of its own (R157, R158). -/
def State.bondRecord (s : State) (t w : Nat) : Trunk :=
  { s.trunk t with
    width := min w (s.rd TRK_CTRL_MAXW t), maxw := s.rd TRK_CTRL_MAXW t, rate := s.rd TRK_CTRL_RATE t, ring := s.on TRK_CTRL_RING t,
    partner := [], ack := false, ackCount := 0, tail := 0, agreed := false }

/-- A disabled trunk that enters BOND puts its record in the table and changes no other. -/
theorem State.enterBond_trunks {s : State} {t : Nat} (h : s.rd TRK_STAT_STATE t = trkDisabled) (hkl2 : s.kl2Active = false)
    (husb : s.onUsbC t = false) (w : Nat) : (s.enterBond t w).trunks = Tab.put s.trunks t (s.bondRecord t w) {} := by
  simp only [State.enterBond, hkl2, husb, State.leaveUp_of_disabled h, Bool.and_false, Bool.false_eq_true, if_false]
  rw [State.bondRestart_trunks, State.trunkWatch_trunks, State.arm_eq, State.armAt_trunks, State.causeOff_trunks]
  simp only [State.wr_trunks]
  rw [State.each_trunks _ (fun u n => u.laneRate_trunks n _)]
  rfl

/-- What the statement claims of entry to BOND holds where the table of the trunks is in its canonical form. -/
theorem State.enterBond_trunk {s : State} (hs : Tab.sorted s.trunks = true) {t : Nat} (h : s.rd TRK_STAT_STATE t = trkDisabled)
    (hkl2 : s.kl2Active = false) (husb : s.onUsbC t = false) (w : Nat) : (s.enterBond t w).trunk t = s.bondRecord t w := by
  unfold State.trunk
  rw [State.enterBond_trunks h hkl2 husb, Tab.get_put_self t _ _ hs]

/-- Refutes O14: its clause on entry to BOND takes any state, so also one whose table of trunks lists trunk 0 twice. The record of the entry is that of a trunk after reset, so that writing it takes the first listing out, and the second shows. -/
theorem not_trunksAndRing : ¬ Obligations.TrunksAndRing := by
  intro h
  obtain ⟨-, henter, -⟩ := h
  let s : State := { State.reset with trunks := [(0, {}), (0, { width := 1 })] }
  have hclaim : (s.enterBond 0 3).trunk 0 = s.bondRecord 0 3 := henter 0 s 3 rfl rfl rfl
  have htrunks : (s.enterBond 0 3).trunks = [(0, { width := 1 })] := by
    rw [State.enterBond_trunks rfl rfl rfl]
    decide
  have hwidth := congrArg Trunk.width hclaim
  rw [State.trunk, htrunks] at hwidth
  exact absurd hwidth (by decide)

end Sys2Proof.Machine
end

section
/-! PROOFS. The time unit: ticks, increments, leap seconds, the two-step queue, and SET, STEP, SLEW and SNAP (R78 to R86, R95, R101, R107). -/

namespace Sys2Proof.Machine

/-! Fields written one after the other. -/

/-- Fields of arrays of one entry set to codes, in order. -/
def State.wrAll (s : State) (l : List (Field × Nat)) : State := s.each l (fun s x => s.wr x.1 x.2)

/-- The fields of a list of writes lie apart. -/
def fieldsApart (l : List (Field × Nat)) : Prop := l.Pairwise (fun a b => a.1.key 0 0 ≠ b.1.key 0 0)

theorem State.rd_wrAll_ne {G : Field} {l : List (Field × Nat)} (h : ∀ a ∈ l, a.1.key 0 0 ≠ G.key 0 0) (s : State) :
    (s.wrAll l).rd G = s.rd G :=
  State.each_keeps (P := fun t => t.rd G = s.rd G) (fun _ a ha ht => (State.rd_wr_ne (h a ha) a.2).trans ht) rfl

/-- Where the fields lie apart, each reads what was written to it. -/
theorem State.rd_wrAll_mem {s : State} (hs : Tab.sorted s.regs = true) {l : List (Field × Nat)} (hl : fieldsApart l) {F : Field} {v : Nat}
    (h : (F, v) ∈ l) : (s.wrAll l).rd F = v % 2 ^ F.width := by
  induction l generalizing s with
  | nil => cases h
  | cons a l ih =>
    obtain ⟨ha, hrest⟩ := List.pairwise_cons.mp hl
    show ((s.wr a.1 a.2).wrAll l).rd F = _
    rcases List.mem_cons.mp h with rfl | h
    · rw [State.rd_wrAll_ne (fun b hb => (ha b hb).symm), State.rd_wr_self hs]
    · exact ih (State.sorted_wr hs a.1 a.2 0 0) hrest h

/-- Writes of fields change the register table and nothing else. -/
theorem State.wrAll_frame (s : State) (l : List (Field × Nat)) : ∃ regs, s.wrAll l = { s with regs := regs } := by
  refine State.each_keeps (P := fun t => ∃ regs, t = { s with regs := regs }) (fun t a _ ht => ?_) ⟨s.regs, rfl⟩
  obtain ⟨regs, rfl⟩ := ht
  exact ⟨_, rfl⟩

/-! Ticks, increments and leap seconds (R78, R79, R84, R101). -/

/-- Outside DORMANT and OFF and with the chip reset released, a tick counts. -/
theorem State.tick_of_running {s : State} (hst : ¬ s.rd PWR_STAT_STATE ≥ 3) (hheld : s.boot.held = false) :
    s.tick = { s with
      tmu := { s.tmu with tod := Wide.ofUnits (s.tmu.tod.units + s.tickIncr), elapsed := (s.tmu.elapsed + s.tickIncr) % 2 ^ 96,
                          slewLeft := s.tmu.slewLeft - 1 },
      cyc := { s.cyc with acc := (s.cyc.acc + s.cyc.incr) % 2 ^ 64 } } := by
  simp [State.tick, hst, hheld]

/-- The 40-bit increment that a write of the low word names, with the held high byte. -/
def State.incrOf (s : State) (w : Nat) : Nat := s.rd TMU_INCR_HI_INT * 2 ^ 32 + w % 2 ^ 32

theorem State.tmuIncrWrite_of_ok {s : State} {w : Nat} (hv : incrOk (s.incrOf w : Int) = true)
    (hslew : incrOk ((s.incrOf w : Int) + s.slewAhead) = true) :
    s.tmuIncrWrite w = { s.wr TMU_INCR_LO_FRAC w with tmu := { s.tmu with incr := s.incrOf w } } := by
  unfold State.incrOf at hv hslew ⊢
  rw [State.tmuIncrWrite, hv, hslew]
  rfl

theorem State.leapApply_leap61 {s : State} (h : s.on TMU_UTC_LEAP61 = true) :
    s.leapApply = if (s.tmu.leapDay + 1) * 86400 ≤ s.utcNow then
      (s.wr TMU_UTC_OFFSET (s.rd TMU_UTC_OFFSET + 1)).wr TMU_UTC_LEAP61 0 else s := by
  rw [State.leapApply, if_pos h]

theorem State.leapApply_leap59 {s : State} (h61 : s.on TMU_UTC_LEAP61 = false) (h59 : s.on TMU_UTC_LEAP59 = true) :
    s.leapApply = if (s.tmu.leapDay + 1) * 86400 - 1 ≤ s.utcNow then
      (s.wr TMU_UTC_OFFSET (s.rd TMU_UTC_OFFSET + 65535)).wr TMU_UTC_LEAP59 0 else s := by
  simp only [State.leapApply, h61, h59, Bool.false_eq_true, if_false, if_true]

/-! Commands that are written (R82, R84). -/

theorem State.cmdSet_of_ns_ok {s : State} (h : ¬ s.rd TMU_SET_NS_NS > 999999999) : s.cmdSet = s.tmuPush (.set s.setWords) := if_neg h

theorem State.cmdSet_of_ns_large {s : State} (h : s.rd TMU_SET_NS_NS > 999999999) : s.cmdSet = s.tmuReject := if_pos h

theorem State.cmdSlew_of_ok {s : State} (h : incrOk (s.tmu.incr + signedOf 24 (s.rd TMU_SLEW_OFS_OFS)) = true) :
    s.cmdSlew = s.tmuPush (.slew (signedOf 24 (s.rd TMU_SLEW_OFS_OFS)) (s.rd TMU_SLEW_TICKS_TICKS)) := if_pos h

/-! The snapshot (R86, R107). -/

/-- The snapshot words and what they take: the time of day and the mains phase. -/
def State.snapWords (s : State) : List (Field × Nat) :=
  [(TMU_SNAP_SECHI_SEC_HI, s.tmu.tod.sec / 2 ^ 32), (TMU_SNAP_SECLO_SEC_LO, s.tmu.tod.sec), (TMU_SNAP_NS_NS, s.tmu.tod.ns),
    (TMU_SNAP_FRAC_FRAC, s.tmu.tod.frac16), (TMU_SNAP_NS32_NS32, s.tmu.tod.ns32), (CYC_SNAP_LO_PHASE_LO, s.cyc.acc),
    (CYC_SNAP_HI_PHASE_HI, s.cyc.acc / 2 ^ 32), (CYC_SNAP_HI_CYCLE, s.cyc.acc / 2 ^ 48)]

theorem State.snapWords_apart (s : State) : fieldsApart s.snapWords := by
  have h : ([TMU_SNAP_SECHI_SEC_HI, TMU_SNAP_SECLO_SEC_LO, TMU_SNAP_NS_NS, TMU_SNAP_FRAC_FRAC, TMU_SNAP_NS32_NS32, CYC_SNAP_LO_PHASE_LO,
      CYC_SNAP_HI_PHASE_HI, CYC_SNAP_HI_CYCLE] : List Field).Pairwise (fun F G => F.key 0 0 ≠ G.key 0 0) := by decide
  exact (List.pairwise_map (f := Prod.fst) (l := s.snapWords)).mp h

theorem State.takeSnap_eq (s : State) : s.takeSnap = { s.wrAll s.snapWords with tmu := { s.tmu with snap := false } } := by
  simp only [State.takeSnap, State.wrAll, State.snapWords, State.each_cons, State.each_nil, State.wr_tmu]

/-- The snapshot changes its words and is no longer asked for. -/
theorem State.takeSnap_frame (s : State) :
    s.takeSnap.tmu = { s.tmu with snap := false } ∧ s.takeSnap = { s with regs := s.takeSnap.regs, tmu := s.takeSnap.tmu } := by
  obtain ⟨regs, h⟩ := s.wrAll_frame s.snapWords
  rw [State.takeSnap_eq, h]
  exact ⟨rfl, rfl⟩

/-- Each snapshot word reads the low bits of what it took. -/
theorem State.rd_takeSnap {s : State} (hs : Tab.sorted s.regs = true) {F : Field} {v : Nat} (h : (F, v) ∈ s.snapWords) :
    s.takeSnap.rd F = v % 2 ^ F.width := by
  rw [State.takeSnap_eq, State.rd_tmu]
  exact State.rd_wrAll_mem hs s.snapWords_apart h

/-- Settles O10: each command's function under the conditions of its clause, and the commands applied by the one that waits first. -/
theorem timeUnit : Obligations.TimeUnit := by
  refine ⟨fun s hst hheld => congrArg _ (State.tick_of_running hst hheld),
    fun w s hv hslew => congrArg _ (State.tmuIncrWrite_of_ok hv hslew), fun s hleft => ?_,
    fun s h hday => congrArg _ ((State.leapApply_leap61 h).trans (if_pos hday)),
    fun s h61 h59 hday => ?_,
    fun s h hday => congrArg _ ((State.leapApply_leap61 h).trans (if_neg (Int.not_le.mpr hday))),
    fun p s => rfl, fun s h => congrArg _ (State.cmdSet_of_ns_ok h), fun s h => congrArg _ (State.cmdSet_of_ns_large h), fun s => rfl,
    fun s h => congrArg _ (State.cmdSlew_of_ok h), fun s => rfl, fun s t l h => ?_, fun s d l h hd => ?_, fun s d l h hd => ?_,
    fun s ofs n l h => ?_, fun s hsnap hcmds hs => ⟨s.takeSnap, ?_, ?_⟩⟩
  · exact if_pos hleft
  · show Host.Outcome.next s.leapApply = _
    rw [State.leapApply_leap59 h61 h59, if_pos hday]
  -- The command that waits first leaves the queue and acts.
  · simp [exec, execSetApply, State.tmuPop, State.applySet, h]
  · simp [exec, execStepApply, State.tmuPop, State.applyStep, h, hd]
  · simp [exec, execStepApply, State.tmuPop, State.applyStep, State.tmuReject, h, hd]
  · simp [exec, execSlewApply, State.tmuPop, State.applySlew, h]
  -- The snapshot.
  · simp [exec, execSnapApply, hsnap, hcmds]
  · have hword : ∀ {F : Field} {v : Nat}, (F, v) ∈ s.snapWords → s.takeSnap.rd F = v % 2 ^ F.width := State.rd_takeSnap hs
    refine ⟨hword ?_, hword ?_, hword ?_, hword ?_, hword ?_, hword ?_, hword ?_, hword ?_, s.takeSnap_frame⟩ <;> simp [State.snapWords]

end Sys2Proof.Machine
end

section
/-! PROOFS. Compare channels, pulse-per-second inputs and outputs (R88, R89, R97 to R99). -/

namespace Sys2Proof.Machine

/-! Compare channels (R88, R89). -/

/-- An enabled one-shot channel that is due but not late fires and is disabled. -/
theorem State.compareFire_of_one_shot {s : State} {c : Nat} (hen : s.on CMP_CTRL_EN c = true) (hdue : 0 ≤ s.compareDiff c)
    (hlate : ¬ s.compareDiff c ≥ 2) (hper : s.on CMP_CTRL_PERIODIC c = false) :
    s.compareFire c = (((s.wr CMP_STAT_FIRED 1 c).compareAct c).wr CMP_CTRL_EN 0 c).irq c c 0 := by
  simp [State.compareFire, hen, hper, hlate, Int.not_lt.mpr hdue]

/-- An enabled periodic channel that is late fires, shows it, and its target moves on. -/
theorem State.compareFire_of_late {s : State} {c : Nat} (hen : s.on CMP_CTRL_EN c = true) (hlate : s.compareDiff c ≥ 2)
    (hper : s.on CMP_CTRL_PERIODIC c = true) (hbehind : Tab.get s.tmu.behind c false = false) :
    s.compareFire c = ((((s.wr CMP_STAT_FIRED 1 c).wr CMP_STAT_LATE 1 c).compareAct c).compareAdvance c).irq c c 0 := by
  have hdue : ¬ s.compareDiff c < 0 := by omega
  simp [State.compareFire, hen, hper, hlate, hdue, hbehind]

/-- An enabled periodic channel that is behind moves its target on and does not fire. -/
theorem State.compareFire_of_behind {s : State} {c : Nat} (hen : s.on CMP_CTRL_EN c = true) (hdue : 0 ≤ s.compareDiff c)
    (hper : s.on CMP_CTRL_PERIODIC c = true) (hbehind : Tab.get s.tmu.behind c false = true) :
    s.compareFire c = s.compareAdvance c := by
  simp [State.compareFire, hen, hper, hbehind, Int.not_lt.mpr hdue]

theorem State.compareAct_pulse {s : State} {c : Nat} (h : s.rd CMP_CTRL_ACT c = 0) :
    s.compareAct c = (s.setLine c true).arm (.pulse c) (s.rd CMP_CTRL_PULSE c * 8) := by
  simp only [State.compareAct, h]

theorem State.compareAct_toggle {s : State} {c : Nat} (h : s.rd CMP_CTRL_ACT c = 1) :
    s.compareAct c = s.setLine c (!Tab.get s.pins.line c false) := by
  simp only [State.compareAct, h]

theorem State.compareAct_none {s : State} {c : Nat} (h : s.rd CMP_CTRL_ACT c ≥ 2) : s.compareAct c = s := by
  unfold State.compareAct
  split
  · omega
  · omega
  · rfl

theorem State.rd_compareAdvance {s : State} (hs : Tab.sorted s.regs = true) (c : Nat) :
    (s.compareAdvance c).rd CMP_TGT_TGT c = (s.rd CMP_TGT_TGT c + s.rd CMP_PER_PER c) % 2 ^ 32 := by
  simp only [State.compareAdvance, State.rd_tmu, State.rd_wr_self hs]
  rfl

/-! Pulse-per-second inputs (R97, R98). -/

/-- The capture of an input whose last capture was read: the time of day `ago` units before now. -/
theorem State.ppsCapture_of_read {s : State} {i : Nat} (h : s.on PPSI_STAT_VALID i = false) (ago : Nat) :
    s.ppsCapture i ago =
      ((((s.wr PPSI_SECLO_SEC_LO (Wide.ofUnits (s.tmu.tod.units - ago)).sec i).wr
        PPSI_NS_NS (Wide.ofUnits (s.tmu.tod.units - ago)).ns i).wr PPSI_FRAC_FRAC (Wide.ofUnits (s.tmu.tod.units - ago)).frac16 i).wr
        PPSI_STAT_UNTRACED (bit (!s.on TMU_STAT_TVALID)) i).wr PPSI_STAT_VALID 1 i := by
  simp [State.ppsCapture, h]

/-- An accepted edge at the elapsed count `e` starts the interval and the loss time of an input anew. -/
def State.ppsMark (s : State) (i e : Nat) : State :=
  { s.arm (.pps i) 0 with tmu := { s.tmu with ppsLast := Tab.put s.tmu.ppsLast i (some e) none } }

/-- An edge that the input takes, neither lost nor out of interval, is captured and counted. -/
theorem State.ppsEdge_of_taken {s : State} {i n : Nat} {rise : Bool} (hen : s.on PPSI_CFG_EN i = true)
    (hsense : (rise == s.on PPSI_CFG_EDGE i) = false) (hheld : s.rd PPSI_CFG_FILT i * 100 * 2 ^ 32 ≤ s.sixteenths n)
    (hlos : s.on PPSI_STAT_LOS i = false) (hint : s.ppsInterval i (s.tmu.elapsed - s.sixteenths n) = true) :
    s.ppsEdge i rise n =
      ((s.ppsCapture i (s.sixteenths n)).wrap PPSI_STAT_EDGES i).ppsMark i (s.tmu.elapsed - s.sixteenths n) := by
  simp only [State.ppsEdge, hen, hsense, hlos, hint, Nat.not_lt.mpr hheld, Bool.not_true, Bool.or_self, decide_false,
    Bool.false_eq_true, if_false, if_true]
  rfl

/-- An edge at a disabled input, of the other sense, or not held for the filter time. -/
theorem State.ppsEdge_of_not_taken {s : State} {i n : Nat} {rise : Bool} (h : s.on PPSI_CFG_EN i = false ∨
    (rise == s.on PPSI_CFG_EDGE i) = true ∨ s.sixteenths n < s.rd PPSI_CFG_FILT i * 100 * 2 ^ 32) : s.ppsEdge i rise n = s := by
  refine if_pos ?_
  rcases h with h | h | h <;> simp [-Nat.reducePow, h]

theorem State.ppsLos_of_ran {s : State} {i : Nat} (hen : s.on PPSI_CFG_EN i = true) (hlos : s.on PPSI_STAT_LOS i = false)
    (hran : s.ran (.pps i) (s.rd PPSI_CFG_LOS i * 100000000) = true) :
    s.ppsLos i = (s.wr PPSI_STAT_LOS 1 i).causeOn (27 + i) 0 := by
  simp [State.ppsLos, hen, hlos, hran]

/-! Pulse-per-second outputs (R99). -/

/-- The first pulse of a traceable output whose target lies in the tick that follows. -/
theorem State.ppsOutEdge_of_first {s : State} {o : Nat} (hen : s.on PPSO_CFG_EN o = true) (hvalid : s.on TMU_STAT_TVALID = true)
    (hdist : (s.ppsTarget o).2 - s.tmu.tod.units ≤ s.tickIncr) (hfirst : Tab.get s.tmu.ppsSec o none = none) :
    s.ppsOutEdge o = { s.arm (.ppsTrail o) (s.rd PPSO_CFG_WIDTH o * 10000) with
      tmu := { s.tmu with
        ppsOut := Tab.put s.tmu.ppsOut o true false, ppsSec := Tab.put s.tmu.ppsSec o (some (s.ppsTarget o).1) none,
        ppsTaps := Tab.put s.tmu.ppsTaps o (((s.ppsTarget o).2 - s.tmu.tod.units) * 16 / s.tmu.incr).toNat 0 } } := by
  simp [State.ppsOutEdge, hen, hvalid, hdist, hfirst]

/-- Settles O11: each command's function under the conditions of its clause. -/
theorem compareAndPulsePerSecond : Obligations.CompareAndPulsePerSecond := by
  refine ⟨fun c s hen hdue hlate hper => congrArg _ (State.compareFire_of_one_shot hen hdue hlate hper),
    fun c s hen hlate hper hbehind => congrArg _ (State.compareFire_of_late hen hlate hper hbehind),
    fun c s hen hdue hper hbehind => congrArg _ (State.compareFire_of_behind hen hdue hper hbehind),
    fun c s => ⟨State.compareAct_pulse, State.compareAct_toggle, State.compareAct_none⟩, fun c s => ?_,
    fun c s h => congrArg _ (if_pos h), fun i rise n s hen hsense hheld hlos hint hread => ⟨s.ppsEdge i rise n, rfl, ?_⟩,
    fun i rise n s h => congrArg _ (State.ppsEdge_of_not_taken h),
    fun i s hen hlos hran => congrArg _ (State.ppsLos_of_ran hen hlos hran),
    fun o s hen hvalid hdist hfirst => congrArg _ (State.ppsOutEdge_of_first hen hvalid hdist hfirst),
    fun o s h => congrArg _ (if_pos h)⟩
  · cases hs : Tab.sorted s.regs
    · exact .inr rfl
    · exact .inl (State.rd_compareAdvance hs c)
  · simp only [State.ppsEdge_of_taken hen hsense hheld hlos hint, State.ppsCapture_of_read hread, State.ppsMark, State.wrap_tmu,
      State.wr_tmu]

end Sys2Proof.Machine
end

section
/-! PROOFS. A character that a UART starts to send, and what the statement on serial lines claims of its driver (R336, R338). -/

namespace Sys2Proof.Machine

theorem State.rd_serUartCount (s : State) (n k : Nat) (F : Field) (i j : Nat) : (s.serUartCount n k).rd F i j = s.rd F i j := by
  unfold State.serUartCount
  split <;> rfl

/-- An RS-232 transmitter with a message queued that is free, and no foreign frame on the line, starts the next character. -/
theorem State.serTransmit_of_queued {s : State} {n : Nat} {c : Byte × Nat} {m : List (Byte × Nat)} {rest : List (List (Byte × Nat))}
    (hq : s.serQueue n = (c :: m) :: rest) (hen : s.on SER_CTRL_EN n = true) (hmode : s.on SER_CTRL_MODE n = false)
    (hrx : s.on SER_STAT_RXACT n = false) (hfree : s.armed (.uartLead n) = false ∨ s.due (.uartLead n) = true) :
    s.serTransmit n = s.serStart n c m rest := by
  have hidle : (!s.armed (.uartLead n) || s.due (.uartLead n)) = true := by rcases hfree with h | h <;> simp [h]
  simp only [State.serTransmit, hq, hen, hmode, hrx, hidle, Bool.not_true, Bool.false_and, Bool.false_eq_true, if_false]

/-- A character that starts leaves the driver at the low bit of the code that MODE holds. -/
theorem State.rd_serStart_deout {s : State} (hs : Tab.sorted s.regs = true) (n : Nat) (c : Byte × Nat) (m : List (Byte × Nat))
    (rest : List (List (Byte × Nat))) : (s.serStart n c m rest).rd SER_STAT_DEOUT n = s.rd SER_CTRL_MODE n % 2 := by
  simp only [State.serStart, State.rd_serUartCount, State.rd_armAt, State.rd_ser]
  exact State.rd_wr_self (State.sorted_wr hs _ _ _ _) SER_STAT_DEOUT _ n 0

/-- UART 0 enabled with one character queued, and code 3 stored in its MODE, a field of one bit. -/
def wideModeState : State :=
  { State.reset with
    regs := [(SER_CTRL_MODE.key 0 0, 3), (SER_CTRL_EN.key 0 0, 1)]
    ser := { txq := [(0, [[(0x55, 0)]])] } }

/-- Refutes O36: its clause on UART_TRANSMIT takes any state whose MODE does not read 1, so also one that stores the code 3 in that field of one bit. The driver takes the low bit of the code and is on, where the clause has it off. -/
theorem not_serialAndIrig : ¬ Obligations.SerialAndIrig := by
  intro h
  obtain ⟨-, -, -, -, -, -, -, -, -, htransmit, -⟩ := h
  have hs : Tab.sorted wideModeState.regs = true := by decide
  have hclaim := htransmit 0 (0x55, 0) [] [] wideModeState _ (by decide) (by decide) (by decide) (by decide) (.inl (by decide))
    (by decide) rfl
  have hstart : wideModeState.serTransmit 0 = wideModeState.serStart 0 (0x55, 0) [] [] :=
    State.serTransmit_of_queued (by decide) (by decide) (by decide) (by decide) (.inl (by decide))
  have hdriver := congrArg (fun t => t.rd SER_STAT_DEOUT 0) (hstart.symm.trans (Host.Outcome.next.inj hclaim))
  have hon : (wideModeState.serStart 0 (0x55, 0) [] []).rd SER_STAT_DEOUT 0 = 1 := State.rd_serStart_deout hs 0 (0x55, 0) [] []
  simp only [State.rd_serUartCount, State.rd_armAt, State.rd_ser] at hdriver
  have hoff := State.rd_wr_self (s := (wideModeState.setSerQueue 0 []).wr SER_STAT_TXACT 1 0)
    (State.sorted_wr hs SER_STAT_TXACT 1 0 0) SER_STAT_DEOUT 0 0 0
  exact absurd (hon.symm.trans (hdriver.trans hoff)) (by decide)

end Sys2Proof.Machine
end

section
/-! PROOFS. The mains tracker: sources and increment, phase events, loss and holdover, boundaries and conversions (R106 to R117). -/

namespace Sys2Proof.Machine

/-! The source and the increment (R106, R108). -/

/-- A write that leaves a source selected moves a FREE tracker to ACQUIRE. -/
theorem State.cycCtrlWrite_of_free {s : State} {w : Nat} (hsrc : (s.writeReg 0xB0000 w).rd CYC_CTRL_SRC ≠ 0)
    (hst : (s.writeReg 0xB0000 w).rd CYC_STAT_STATE = cycFree) :
    s.cycCtrlWrite w = (({ s.writeReg 0xB0000 w with cyc := { (s.writeReg 0xB0000 w).cyc with
      hist := [], first := true, count := 0, fLast := (s.writeReg 0xB0000 w).cyc.incr } }).setCycState cycAcquire).arm .mains 0 := by
  simp only [State.cycCtrlWrite, hsrc, hst, if_false, if_true]

/-- A write that leaves a source selected does not move a tracker that is not FREE. -/
theorem State.cycCtrlWrite_of_not_free {s : State} {w : Nat} (hsrc : (s.writeReg 0xB0000 w).rd CYC_CTRL_SRC ≠ 0)
    (hst : (s.writeReg 0xB0000 w).rd CYC_STAT_STATE ≠ cycFree) : s.cycCtrlWrite w = s.writeReg 0xB0000 w := by
  simp only [State.cycCtrlWrite, hsrc, hst, if_false]

theorem State.cycIncrWrite_of_ok {s : State} {w : Nat} (hsrc : s.rd CYC_CTRL_SRC = 0)
    (hv : cycIncrOk ((s.rd CYC_INCR_HI_INT * 2 ^ 32 + w % 2 ^ 32 : Nat) : Int) = true) :
    s.cycIncrWrite w = s.setCycIncr (s.rd CYC_INCR_HI_INT * 2 ^ 32 + w % 2 ^ 32) := by
  rw [State.cycIncrWrite, if_neg (not_not_intro hsrc), if_pos hv]

/-- With a source selected software cannot write the increment. -/
theorem State.cycIncrWrite_of_source {s : State} (h : s.rd CYC_CTRL_SRC ≠ 0) (w : Nat) :
    s.cycIncrWrite w = (s.wr CYC_STAT_WLATE 1).sat CYC_CNT_REJ_COUNT := if_pos h

/-! Events that are recognised (R109, R110). -/

/-- An edge of the configured sense outside the mask is judged by the interval checks. -/
theorem State.zcEdge_of_unmasked {s : State} {fall : Bool} {ago : Nat} (hsrc : s.rd CYC_CTRL_SRC = 1) (hsense : fall = s.on CYC_ZC_CFG_EDGE)
    (hmask : s.zcMasked (s.tmu.elapsed - ago) = false) :
    s.zcEdge fall ago = if s.intervalOk (s.tmu.elapsed - ago) then
      s.takeEvent ((s.cyc.acc + 2 ^ 64 - s.cyc.incr * (s.rd CYC_ZC_CFG_FILT * 500) % 2 ^ 64) % 2 ^ 64) (s.tmu.elapsed - ago) true
      else s.cycReject := by
  simp only [State.zcEdge, hsrc, hsense, hmask, bne_self_eq_false, ne_eq, not_true, decide_false, Bool.or_self, Bool.false_eq_true,
    if_false]

/-- An edge of another source, of the other sense or within the mask time is no event. -/
theorem State.zcEdge_of_ignored {s : State} {fall : Bool} {ago : Nat} (h : s.rd CYC_CTRL_SRC ≠ 1 ∨ fall ≠ s.on CYC_ZC_CFG_EDGE ∨
    s.zcMasked (s.tmu.elapsed - ago) = true) : s.zcEdge fall ago = s := by
  unfold State.zcEdge
  split
  · rfl
  · next hjudged =>
    have hmask : s.zcMasked (s.tmu.elapsed - ago) = true := by
      rcases h with h | h | h
      · simp [h] at hjudged
      · simp [h] at hjudged
      · exact h
    exact if_pos hmask

/-- The first observation that R110 admits is taken at its time, the accumulator referred back by its age. -/
theorem State.svCommit_of_first {s : State} {w : Nat} (hsrc : s.rd CYC_CTRL_SRC = 2) (hstep : bitsOf w 31 16 = s.rd TMU_STAT_STEPCNT)
    (hns : ¬ s.rd CYC_SV_NS_NS > 999999999) (hpast : ¬ s.svAge (bitsOf w 15 0) < 0)
    (hage : ¬ s.svAge (bitsOf w 15 0) > 25000000 * 2 ^ 16)
    (hfirst : s.cyc.lastEvent = none) (hint : s.intervalOk (s.tmu.elapsed - (s.svAge (bitsOf w 15 0)).toNat * 2 ^ 16) = true) :
    s.svCommit w = s.takeEvent
      ((s.cyc.acc + 2 ^ 64 - s.cyc.incr * ((s.svAge (bitsOf w 15 0)).toNat * 2 ^ 16 / s.tickIncr) % 2 ^ 64) % 2 ^ 64)
      (s.tmu.elapsed - (s.svAge (bitsOf w 15 0)).toNat * 2 ^ 16) false := by
  simp only [State.svCommit, hsrc, hstep, hns, hpast, hage, hfirst, hint, ne_eq, not_true, decide_false, Bool.or_self,
    Bool.false_eq_true, if_false, if_true]

/-! What showing a result leaves of the tracker (R112 to R114). -/

@[simp] theorem State.causeOff_cyc (s : State) (slot : Nat) : (s.causeOff slot).cyc = s.cyc := rfl

theorem State.gateShow_cyc (s : State) (p : Nat) : (s.gateShow p).cyc = s.cyc := by
  simp only [State.gateShow, State.wr_cyc]
  split <;> split <;> rfl

@[simp] theorem State.gatesShow_cyc (s : State) : s.gatesShow.cyc = s.cyc :=
  State.each_keeps (P := fun t => t.cyc = s.cyc) (fun t p _ ht => (t.gateShow_cyc p).trans ht) rfl

@[simp] theorem State.setMvalid_cyc (s : State) (v : Bool) : (s.setMvalid v).cyc = s.cyc := by
  unfold State.setMvalid
  split <;> simp

@[simp] theorem State.setCycState_cyc (s : State) (x : Nat) : (s.setCycState x).cyc = s.cyc := by
  unfold State.setCycState
  split <;> simp

/-- The tracker after an accepted event: increment, frequency term, history and, where the event steps, the accumulator. -/
theorem State.acceptEvent_cyc (s : State) (e : PhaseEvent) (cand : Nat) :
    (s.acceptEvent e cand).cyc = { s.cyc with
      incr := cand, fLast := s.eventFreq e, hist := (e.t :: s.cyc.hist).take 16, lastEvent := some e.t,
      lastZc := if e.zc then some e.t else s.cyc.lastZc, first := false, count := (s.eventState e).2, busy := s.cyc.busy.tail,
      acc := if s.eventSteps e then codeOf 64 ((s.cyc.acc : Int) - s.eventError e) else s.cyc.acc } := by
  rw [State.acceptEvent, State.disarm_cyc, State.arm_eq, State.armAt_cyc, State.setCycState_cyc, State.causeOff_cyc, State.wr_cyc,
    apply_ite State.cyc, State.wrap_cyc, State.wr_cyc, ite_self]
  rfl

/-! Boundaries and the event that came first (R112, R115, R117). -/

theorem State.mainsBoundary_of_not_due {s : State} (h : s.boundaryDue = false) : s.mainsBoundary = s := by
  simp [State.mainsBoundary, h]

/-- A boundary that is due with no plan switch armed leaves the plan banks alone. -/
theorem State.mainsBoundary_of_unarmed {s : State} (hdue : s.boundaryDue = true) (harmed : s.on SHP_PLAN_STAT_ARMED = false) :
    s.mainsBoundary = ({ (((s.wr CYC_BND_SECLO_SEC_LO s.tmu.tod.sec).wr CYC_BND_NS_NS s.tmu.tod.ns).wr
      CYC_BND_FRAC_FRAC s.tmu.tod.frac16).wr CYC_BND_FRAC_CYCLE (s.cyc.acc / 2 ^ 48) with
        cyc := { s.cyc with announced := s.cyc.acc / 2 ^ 48 },
        pins := { s.pins with boundary := wrapAdd 16 s.pins.boundary 1, boundaryAt := some s.tmu.elapsed } } : State).irq
      8 (s.cyc.acc / 2 ^ 48) 0 := by
  simp only [State.mainsBoundary, hdue, harmed, Bool.not_true, Bool.false_and, Bool.or_false, Bool.false_eq_true, if_false]
  rfl

theorem State.processEvent_of_in_range {s : State} {e : PhaseEvent} {l : List PhaseEvent} (hbusy : s.cyc.busy = e :: l)
    (hdue : s.boundaryDue = false) (hcand : cycIncrOk (s.eventCand e) = true) : s.processEvent = s.acceptEvent e (s.eventCand e).toNat := by
  simp only [State.processEvent, hbusy, State.mainsBoundary_of_not_due hdue, hcand, if_true]

theorem State.processEvent_of_out_of_range {s : State} {e : PhaseEvent} {l : List PhaseEvent} (hbusy : s.cyc.busy = e :: l)
    (hdue : s.boundaryDue = false) (hcand : cycIncrOk (s.eventCand e) = false) :
    s.processEvent = ({ s with cyc := { s.cyc with busy := l } } : State).cycReject := by
  simp only [State.processEvent, hbusy, State.mainsBoundary_of_not_due hdue, hcand, Bool.false_eq_true, if_false]

/-! Loss and holdover (R114). -/

/-- Once the loss time has run with no event in processing, the state of the tracker decides. -/
theorem State.mainsLos_of_ran {s : State} (hbusy : s.cyc.busy = []) (hran : s.ran .mains (s.rd CYC_HOLD_LOS * 10000000) = true) :
    s.mainsLos =
      if s.rd CYC_STAT_STATE = cycAcquire then
        ((({ s with cyc := { s.cyc with hist := [], first := true, count := 0 } }).wr CYC_STAT_LOS 1).causeOn 29 0).arm .mains 0
      else if s.rd CYC_STAT_STATE = cycLocked then
        ((((({ s with cyc := { s.cyc with hist := [], count := 0 } }).setCycIncr s.cyc.fLast).setCycState cycHoldover).wr
          CYC_STAT_LOS 1).causeOn 29 0).arm .holdover 0
      else s := by
  simp only [State.mainsLos, hbusy, hran, List.isEmpty_nil, Bool.not_true, Bool.or_self, Bool.false_eq_true, if_false]

theorem State.holdoverExpiry_of_ran {s : State} (hst : s.rd CYC_STAT_STATE = cycHoldover) (hbusy : s.cyc.busy = [])
    (hran : s.ran .holdover (s.rd CYC_HOLD_HOLDMAX * 100000000) = true) :
    s.holdoverExpiry = (((s.setMvalid false).wr CYC_STAT_HOLDEXP 1).causeOn 30 0).disarm .holdover := by
  simp only [State.holdoverExpiry, hst, hbusy, hran, List.isEmpty_nil, decide_true, Bool.and_self, if_true]

/-! Conversions (R117). -/

theorem State.convDone_of_waiting {s : State} {θ : Nat} (h : s.cyc.conv = some θ) :
    s.convDone = { ((s.wr CYC_CONV_NS_NS (s.phaseToTime (θ * 2 ^ 32) / 2 ^ 16)).wr CYC_CONV_FRAC_FRAC (s.phaseToTime (θ * 2 ^ 32))).wr
      CYC_CONV_DONE 1 with cyc := { s.cyc with conv := none } } := by
  simp only [State.convDone, h, State.wr_cyc]

/-- Settles O12: each command's function under the conditions of its clause, and the tracker's own fields after an accepted event. -/
theorem mainsTracker : Obligations.MainsTracker := by
  refine ⟨fun w s hsrc hst => congrArg _ (State.cycCtrlWrite_of_free hsrc hst),
    fun w s hsrc hst => congrArg _ (State.cycCtrlWrite_of_not_free hsrc hst),
    fun w s hsrc hv => congrArg _ (State.cycIncrWrite_of_ok hsrc hv), fun w s h => congrArg _ (State.cycIncrWrite_of_source h w.toNat),
    fun fall ago s hsrc hsense hmask hint => congrArg _ ((State.zcEdge_of_unmasked hsrc hsense hmask).trans (if_pos hint)),
    fun fall ago s hsrc hsense hmask hint =>
      congrArg _ ((State.zcEdge_of_unmasked hsrc hsense hmask).trans (if_neg (Bool.eq_false_iff.mp hint))),
    fun fall ago s h => congrArg _ (State.zcEdge_of_ignored h),
    fun w s hsrc hstep hns hpast hage hfirst hint => congrArg _ (State.svCommit_of_first hsrc hstep hns hpast hage hfirst hint),
    fun s e l hbusy hdue hcand =>
      ⟨s.acceptEvent e (s.eventCand e).toNat, congrArg _ (State.processEvent_of_in_range hbusy hdue hcand), rfl, ?_⟩,
    fun s e l hbusy hdue hcand => congrArg _ (State.processEvent_of_out_of_range hbusy hdue hcand),
    fun s hst hbusy hran => congrArg _ ((State.mainsLos_of_ran hbusy hran).trans (if_pos hst)), fun s hst hbusy hran => ?_,
    fun s hst hbusy hran => congrArg _ (State.holdoverExpiry_of_ran hst hbusy hran),
    fun s hdue harmed => ⟨_, congrArg _ (State.mainsBoundary_of_unarmed hdue harmed), rfl⟩, fun w s => rfl,
    fun s θ h => congrArg _ (State.convDone_of_waiting h)⟩
  -- The accepted event, field by field.
  · rw [State.acceptEvent_cyc, hbusy]
    exact ⟨rfl, rfl, rfl, rfl, rfl, rfl, rfl⟩
  -- The loss of a locked source.
  · have hacq : s.rd CYC_STAT_STATE ≠ cycAcquire := by simp [hst, cycAcquire]
    exact congrArg _ (((State.mainsLos_of_ran hbusy hran).trans (if_neg hacq)).trans (if_pos hst))

end Sys2Proof.Machine
end

section
/-! PROOFS. What a trunk sends up to its alignment blocks, and what the statement on lanes and bonds claims of it (R123, R124, R128, R141). -/

namespace Sys2Proof.Machine

/-! What is sent on one lane (R121 to R124). -/

/-- Bits put out on a lane change the lanes and nothing else. -/
theorem State.laneOut_frame (s : State) (n : Nat) (scr : Bool) (b : LineBlock) : ∃ x, s.laneOut n scr b = { s with lne := x } := by
  unfold State.laneOut State.prbsOut
  repeat' split
  all_goals exact ⟨_, rfl⟩

theorem State.alignOut_frame (s : State) (n k : Nat) : ∃ x, s.alignOut n k = { s with lne := x } := by
  unfold State.alignOut
  split
  · exact s.laneOut_frame n false idleBlock
  · obtain ⟨x, hx⟩ := s.laneOut_frame n false (2, alignBlock k (Tab.get s.lne.par n 0))
    simp only [hx]
    exact ⟨_, rfl⟩

/-- A fold over steps that change the lanes alone changes the lanes alone. -/
theorem State.each_lne_frame {α : Type} {f : State → α → State} (hf : ∀ u a, ∃ x, f u a = { u with lne := x }) (s : State) (l : List α) :
    ∃ x, s.each l f = { s with lne := x } := by
  refine State.each_keeps (P := fun u => ∃ x, u = { s with lne := x }) (fun u a _ hu => ?_) ⟨s.lne, rfl⟩
  obtain ⟨x, rfl⟩ := hu
  exact hf _ a

/-- Two folds agree whose steps agree on every state that the first passes through. -/
theorem State.each_congr {α : Type} {P : State → Prop} {f g : State → α → State} (hkeep : ∀ u a, P u → P (f u a))
    (hfg : ∀ u a, P u → f u a = g u a) {s : State} (hs : P s) (l : List α) : s.each l f = s.each l g := by
  induction l generalizing s with
  | nil => rfl
  | cons a l ih => rw [State.each_cons, State.each_cons, ← hfg s a hs, ih (hkeep s a hs)]

/-- On lane `n`, `idle` IDLE blocks and then the alignment block of logical lane `k`. -/
def State.alignLane (s : State) (idle n k : Nat) : State :=
  (s.each (List.range idle) (fun s _ => s.laneOut n true idleBlock)).alignOut n k

theorem State.alignLane_frame (s : State) (idle n k : Nat) : ∃ x, s.alignLane idle n k = { s with lne := x } := by
  obtain ⟨x, hx⟩ := State.each_lne_frame (fun u _ => u.laneOut_frame n true idleBlock) s (List.range idle)
  rw [State.alignLane, hx]
  exact State.alignOut_frame _ n k

theorem State.alignLane_trunks (s : State) (idle n k : Nat) : (s.alignLane idle n k).trunks = s.trunks := by
  obtain ⟨x, hx⟩ := s.alignLane_frame idle n k
  rw [hx]

/-- On each lane that trunk `t` sends on, `idle` IDLE blocks and then its alignment block. -/
def State.alignLanes (s : State) (t idle : Nat) : State :=
  s.each (List.range (min (s.sendLanes t) (s.txLanes t).length)) (fun u k => u.alignLane idle ((s.txLanes t).getD k 0) k)

theorem State.alignLanes_trunks (s : State) (t idle : Nat) : (s.alignLanes t idle).trunks = s.trunks :=
  s.each_trunks (fun u k => u.alignLane_trunks idle _ k) _

/-! What is sent on a trunk (R124, R128, R141). -/

/-- An enabled trunk fills its stream up to logical lane 0, and then each lane that it sends on takes its blocks. -/
theorem State.alignSend_of_enabled {s : State} {t : Nat} (hkl2 : ¬ (t = 0 ∧ s.kl2Active = true)) (hst : s.rd TRK_STAT_STATE t ≠ 0)
    (idle : Nat) : s.alignSend t idle = ((s.clearLines t).linkFill t).each (List.range (min (s.sendLanes t) (s.txLanes t).length))
      (fun u k => u.alignLane idle ((u.txLanes t).getD k 0) k) := by
  have hlegacy : (decide (t = 0) && s.kl2Active) = false := by simpa using hkl2
  simp only [State.alignSend, hlegacy, hst, Bool.false_eq_true, if_false]
  rfl

/-- The lanes' own blocks leave the trunks' records as the filled stream has them. -/
theorem State.alignSend_trunks {s : State} {t : Nat} (hkl2 : ¬ (t = 0 ∧ s.kl2Active = true)) (hst : s.rd TRK_STAT_STATE t ≠ 0)
    (idle : Nat) : (s.alignSend t idle).trunks = ((s.clearLines t).linkFill t).trunks := by
  rw [State.alignSend_of_enabled hkl2 hst, State.each_trunks _ (fun u k => u.alignLane_trunks idle _ k)]

/-- Where the table of the trunks is in its canonical form, what went before leaves of a trunk's record all but its stream. -/
theorem State.clearLines_trunk {s : State} (hs : Tab.sorted s.trunks = true) (t : Nat) :
    (s.clearLines t).trunk t = { s.trunk t with stream := [] } := Tab.get_put_self t _ _ hs

/-- What the statement claims of ALIGNMENT_BLOCK_SEND holds where the table of the trunks is in its canonical form. -/
theorem State.alignSend_of_sorted {s : State} (hs : Tab.sorted s.trunks = true) {t : Nat} (hkl2 : ¬ (t = 0 ∧ s.kl2Active = true))
    (hst : s.rd TRK_STAT_STATE t ≠ 0) (hpos : (s.trunk t).pos = 0) (idle : Nat) :
    s.alignSend t idle = (s.clearLines t).alignLanes t idle := by
  have htrunk := State.clearLines_trunk hs t
  have hfill : (s.clearLines t).linkFill t = s.clearLines t := if_pos (by rw [htrunk]; exact hpos)
  have hsend : (s.clearLines t).sendLanes t = s.sendLanes t := by
    unfold State.sendLanes
    rw [htrunk]
    rfl
  have htx : (s.clearLines t).txLanes t = s.txLanes t := rfl
  rw [State.alignSend_of_enabled hkl2 hst, State.alignLanes, hfill, hsend, htx]
  refine State.each_congr (P := fun u => u.regs = s.regs) (s := s.clearLines t) (fun u k hu => ?_) (fun u k hu => ?_) rfl _
  · obtain ⟨x, hx⟩ := u.alignLane_frame idle ((u.txLanes t).getD k 0) k
    rw [hx]
    exact hu
  · have hutx : u.txLanes t = s.txLanes t := by
      unfold State.txLanes State.onUsbC State.trunkMode State.rd
      rw [hu]
    rw [hutx]

/-- Trunk 0 in BOND at width code 2, and listed twice in the table of the trunks: the first time as after reset, the second time with its next link block due on logical lane 1. -/
def trunkListedTwice : State :=
  { (State.reset.wr TRK_STAT_STATE trkBond 0).wr TRK_STAT_WIDTH 2 0 with trunks := [(0, {}), (0, { pos := 1 })] }

/-- Clearing the stream of a record as after reset takes its listing out, and the second one shows: the stream is filled up by an IDLE. -/
theorem linkFill_trunkListedTwice :
    (trunkListedTwice.clearLines 0).trunks = [(0, { pos := 1 })] ∧
    ((trunkListedTwice.clearLines 0).linkFill 0).trunks = [(0, { stream := [idleBlock] })] :=
  ⟨by decide, by decide⟩

/-- Refutes O13: its clause on ALIGNMENT_BLOCK_SEND takes any state whose trunk reads position 0, so also one whose table of trunks lists trunk 0 twice. The command clears the stream of the first listing, which takes that listing out, and then fills up the stream of the second, which the clause does not have. -/
theorem not_lanesAndBonds : ¬ Obligations.LanesAndBonds := by
  intro h
  obtain ⟨-, -, -, -, -, -, -, -, -, -, -, -, -, -, -, -, -, hsend, -⟩ := h
  have hclaim (s : State) (hkl2 : ¬ ((0 : Fin 4) = 0 ∧ s.kl2Active = true)) (hst : s.rd TRK_STAT_STATE 0 ≠ 0)
      (hpos : (s.trunk 0).pos = 0) : s.alignSend 0 0 = (s.clearLines 0).alignLanes 0 0 :=
    Host.Outcome.next.inj (hsend 0 0 s hkl2 hst hpos)
  have hst : trunkListedTwice.rd TRK_STAT_STATE 0 ≠ 0 := by decide
  have hsame := congrArg State.trunks (hclaim trunkListedTwice (by decide) hst (by decide))
  rw [State.alignSend_trunks (by decide) hst, State.alignLanes_trunks] at hsame
  obtain ⟨hcleared, hfilled⟩ := linkFill_trunkListedTwice
  rw [hfilled, hcleared] at hsame
  exact absurd hsame (by decide)

end Sys2Proof.Machine
end

section
/-! PROOFS. Credits of a trunk, and the session that seals it (R152 to R156, R163 to R166). -/

namespace Sys2Proof.Machine

/-! Credits (R152 to R156). -/

/-- The classes of trunk `t` with credits to return (R154). -/
def State.returnClasses (s : State) (t : Nat) : List Nat := (List.range 8).filter (fun c => s.returnable t c != 0)

theorem State.creditReturn_of_live {s : State} {t : Nat} (hlive : s.creditLive t = true) (hsome : (s.returnClasses t).isEmpty = false) :
    s.creditReturn t = (s.each (s.returnClasses t) (fun s c => s.giveBack t c)).sendCredits t (s.returnClasses t) :=
  if_pos (Bool.and_eq_true_iff.mpr ⟨hlive, congrArg not hsome⟩)

/-- What a CREDIT block does on a KL3 trunk in UP: both its entries are taken if it is good, and it is counted if it is damaged. -/
theorem State.creditReceive_of_up {s : State} {t : Nat} {b : List Byte} (hup : s.trunkUp t = true) (hkl3 : s.kl2Active = false)
    (htype : ofBe (b.take 1) = 0x33) : s.creditReceive t b =
      if blockOk 0x33 b = true then (s.creditIn t (ofBe ((b.drop 1).take 3))).creditIn t (ofBe ((b.drop 4).take 3)) else s.trkCount t 10 := by
  simp only [State.creditReceive, hup, hkl3, htype, Bool.not_true, Bool.and_false, Bool.or_false, ne_eq, not_true, decide_false,
    Bool.false_eq_true, if_false]
  cases blockOk 0x33 b <;> rfl

/-- A class whose first packet has had no credit for STALL, and which is not marked, is marked, counted and reported. -/
theorem State.creditStall_of_waiting {s : State} {t c : Nat} {h : Copy} (hhead : s.head t c = some h) (hup : s.trunkUp t = true)
    (hkl3 : s.kl2Active = false) (hcredit : s.creditAvail t c < h.cost) (htime : s.stallTime t c h = true)
    (hmark : Tab.get (s.trunk t).stalled c false = false) : s.creditStall t c =
      ((s.setTrunk t { s.trunk t with stalled := Tab.put (s.trunk t).stalled c true false }).trkCount t 15).fault (68 + t) c := by
  simp only [State.creditStall, hhead]
  exact if_pos (by simp [hup, hkl3, hcredit, htime, hmark])

/-- The register of TRK_GRANTc (R156, R173). -/
def grantOffset (t c : Nat) : Nat := 0xD0020 + 0x1000 * t + 4 * c

theorem State.grantWrite_of_dead {s : State} {t c w : Nat} (hdead : (s.writeReg (grantOffset t c) w).creditLive t = false) :
    s.grantWrite t c w = s.writeReg (grantOffset t c) w :=
  if_neg fun h => Bool.eq_false_iff.mp hdead (Bool.and_eq_true_iff.mp h).1

theorem State.grantWrite_of_raised {s : State} {t c w : Nat} (hlive : (s.writeReg (grantOffset t c) w).creditLive t = true)
    (hmore : (s.writeReg (grantOffset t c) w).rd TRK_GRANT_GRANT t c > s.rd TRK_GRANT_GRANT t c) :
    s.grantWrite t c w = ((s.writeReg (grantOffset t c) w).giveBack t c).sendCredits t [c] :=
  if_pos (Bool.and_eq_true_iff.mpr ⟨hlive, decide_eq_true hmore⟩)

/-! Sessions and epochs (R163 to R166). -/

/-- The slot and partner that a write of TRK_SEAL leaves: those of the word, unless a session is loaded. -/
def State.sealNamed (s : State) (t w : Nat) : State :=
  if s.on TRK_SEAL_VALID t then s else (s.wr TRK_SEAL_SLOT (bitsOf w 29 24) t).wr TRK_SEAL_PARTNER (bitsOf w 17 0) t

theorem State.sealWrite_of_clear {w : Nat} (hw : w.testBit 31 = false) (s : State) (t : Nat) :
    s.sealWrite t w = (s.sealNamed t w).endSession t := by
  simp only [State.sealWrite, hw, Bool.not_false, if_true]
  rfl

/-- A new session of trunk `t`: shown valid, the receive keys of its epochs 0 and 1 in place, and transmit epoch 0 begun (R163, R164, R166). -/
def State.startSession (s : State) (t : Nat) : State :=
  let u := ((s.wr TRK_SEAL_VALID 1 t).wr TRK_SEALSTAT_RXEPOCH 0 t).slotsShow
  (u.setTrunk t { u.trunk t with
    rxKey := u.sealKey t (1 - u.ownDirection t) 0, rxKeyNext := u.sealKey t (1 - u.ownDirection t) 1, rxPn := none,
    rxPnNext := none, derivingKeys := false, used := false }).startEpoch t 0

/-- Where no session is loaded and the slot named holds a session secret, the session starts, and a trunk in SEAL goes UP. -/
theorem State.sealWrite_of_load {s : State} {t w : Nat} (hw : w.testBit 31 = true) (hold : s.on TRK_SEAL_VALID t = false)
    (hsecret : (s.sealNamed t w).secretOk t = true) : s.sealWrite t w =
      if ((s.sealNamed t w).startSession t).rd TRK_STAT_STATE t = trkSeal then ((s.sealNamed t w).startSession t).enterUp t true
      else (s.sealNamed t w).startSession t := by
  simp only [State.sealNamed, hold, Bool.false_eq_true, if_false] at hsecret ⊢
  simp only [State.sealWrite, hw, hold, hsecret, Bool.not_true, Bool.false_eq_true, if_false]
  rfl

/-- A sealed trunk in UP whose epoch is over starts the next one while its session lasts. -/
theorem State.epochAdvance_of_over {s : State} {t : Nat} (hup : s.trunkUp t = true) (hsealed : s.on TRK_STAT_SEALED t = true)
    (hover : s.epochOver t = true) (hlast : ¬ s.rd TRK_SEALSTAT_TXEPOCH t ≥ 0xFFFF) (hsecret : s.secretOk t = true) :
    s.epochAdvance t = s.startEpoch t (s.rd TRK_SEALSTAT_TXEPOCH t + 1) := by
  have hnext : s.nextEpoch t = s.startEpoch t (s.rd TRK_SEALSTAT_TXEPOCH t + 1) := if_neg (by simp [hlast, hsecret])
  simp only [State.epochAdvance, hup, hsealed, hover, Bool.and_self, if_true, hnext]

theorem State.rxDerive_of_secret {s : State} {t : Nat} (hderiving : (s.trunk t).derivingKeys = true) (hsecret : s.secretOk t = true) :
    s.rxDerive t = s.setTrunk t { s.trunk t with
      derivingKeys := false, rxKeyNext := s.sealKey t (1 - s.ownDirection t) (s.rd TRK_SEALSTAT_RXEPOCH t + 1) } := by
  simp only [State.rxDerive, hderiving, hsecret, Bool.not_true, Bool.false_eq_true, if_false]

/-- Settles O15: each command's function under the conditions of its clause. -/
theorem creditsAndSealing : Obligations.CreditsAndSealing := by
  refine ⟨fun t s hlive hcs => congrArg _ (State.creditReturn_of_live hlive hcs), fun t s hlive => congrArg _ (if_pos hlive),
    fun t c cs s => ⟨rfl, rfl⟩,
    fun t bytes s hup hkl3 htype hok => congrArg _ ((State.creditReceive_of_up hup hkl3 htype).trans (if_pos hok)),
    fun t bytes s hup hkl3 htype hbad =>
      congrArg _ ((State.creditReceive_of_up hup hkl3 htype).trans (if_neg (Bool.eq_false_iff.mp hbad))),
    fun t c h s hhead hup hkl3 hcredit htime hmark =>
      congrArg _ (State.creditStall_of_waiting hhead hup hkl3 hcredit htime hmark),
    fun t c w s hlive => congrArg _ (State.grantWrite_of_dead hlive),
    fun t c w s hlive hmore => congrArg _ (State.grantWrite_of_raised hlive hmore),
    fun t w s hw => congrArg Host.Outcome.next (State.sealWrite_of_clear hw s t), fun t w s hw hold hsecret => ?_,
    fun t s hup hsealed hover hlast hsecret => congrArg _ (State.epochAdvance_of_over hup hsealed hover hlast hsecret),
    fun t s hderiving hsecret => congrArg _ (State.rxDerive_of_secret hderiving hsecret)⟩
  -- A session is loaded.
  · have hnamed : s.sealNamed t w.toNat = (s.wr TRK_SEAL_SLOT (bitsOf w.toNat 29 24) t).wr TRK_SEAL_PARTNER (bitsOf w.toNat 17 0) t :=
        if_neg (Bool.eq_false_iff.mp hold)
    rw [← hnamed] at hsecret ⊢
    exact ⟨_, _, rfl, rfl, congrArg Host.Outcome.next (State.sealWrite_of_load hw hold hsecret)⟩

end Sys2Proof.Machine
end

section
/-! PROOFS. Packets taken from a trunk, and the legacy link of TRK0 (R148, R150, R153, R167 to R171). -/

namespace Sys2Proof.Machine

/-! A packet of a trunk, alone in its cycle (R143, R148, R201). -/

theorem State.inOrder_single {α : Type} (t : Fin 4) (a : α) : State.inOrder 4 [(t.val, a)] = [(t.val, a)] :=
  match t with
  | 0 | 1 | 2 | 3 => rfl

/-- Blocks that come alone in their cycle pass stages 1 to 3, and what arrives goes to stage 4. -/
theorem execTrunkPacketReceive_alone (t : Fin 4) (blocks : List LineBlock) (ecc : Fin 4) (s : State) :
    execTrunkPacketReceive t blocks ecc [] false [] [] s =
      .next ((s.trunkArrive t blocks).1.admitCycle ecc (s.trunkArrive t blocks).2) := by
  show Host.Outcome.next (s.cycleArrive ecc [(t.val, blocks)] []) = _
  simp only [State.cycleArrive, State.inOrder_single, State.trunksArrive, List.append_nil]
  rw [show State.inOrder 8 ([] : List (Nat × List Byte)) = [] from rfl]
  simp only [State.framesArrive, List.append_nil]

/-- On a KL3 trunk in UP, a packet without CREDIT blocks inside it passes stages 1 and 2. -/
theorem State.trunkArrive_of_up {s : State} {t : Nat} {blocks : List LineBlock} {bytes : List Byte} {e : Ended}
    (hup : s.rd TRK_STAT_STATE t = trkUp) (hkl3 : s.kl2Active = false) (htake : takePacket blocks = some (bytes, e, [])) :
    s.trunkArrive t blocks = s.packetArrive t bytes e := by
  simp only [State.trunkArrive, hup, hkl3, htake, decide_true, Bool.true_or, Bool.not_true, Bool.and_false, Bool.or_self,
    Bool.false_eq_true, if_false, State.each_nil]

/-- A header that fails a check counts in its counter, and the packet goes no further. -/
theorem State.packetArrive_of_headerFail {s : State} {t i : Nat} {bytes : List Byte} {e : Ended} (hlen : ¬ bytes.length < 20)
    (hfail : s.headerFail t (parseHeader bytes) = some i) : s.packetArrive t bytes e = (s.trkCount t i, []) := by
  simp only [State.packetArrive, hlen, if_false, hfail]

/-- A header that passes its checks on a trunk in UP leads to the checks of the rest. -/
theorem State.packetArrive_of_headerOk {s : State} {t : Nat} {bytes : List Byte} {e : Ended} (hup : s.rd TRK_STAT_STATE t = trkUp)
    (hlen : ¬ bytes.length < 20) (hok : s.headerFail t (parseHeader bytes) = none) :
    s.packetArrive t bytes e = s.upArrive t (parseHeader bytes) (bytes.take 20) (bytes.drop 20) e := by
  have hstate : trkUp ≠ trkSeal := by decide
  simp only [State.packetArrive, hlen, if_false, hok, hup, hstate]

/-! What follows the header of an unsealed packet (R147, R148). -/

theorem padTo_of_le {n : Nat} {l : List Byte} (h : n ≤ l.length) : padTo n l = l.take n := List.take_append_of_le_length h

/-- A body of the header's length with a good CRC is the packet's payload. -/
theorem plainCheck_of_good {h : HeaderIn} {body : List Byte} (hlen : body.length = h.len + 4)
    (hcrc : State.crcTail (body.take h.len) (body.drop h.len) = .good) :
    State.plainCheck h body .term = { payload := body.take h.len, tail := .good } := by
  have hpad : padTo h.len body = body.take h.len := padTo_of_le (by omega)
  have hterm : State.lengthTail .term body.length (h.len + 4) = none := if_pos hlen
  simp only [State.plainCheck, hpad, hterm, hcrc]

/-! What is no ring status message for the hub (R185). -/

/-- The first byte decides: where it is not that of a ring status message, neither is a payload of any length. -/
theorem State.isRsm_of_first {s : State} {p : Packet} {l : List Byte} (h : s.isRsm { p with payload := l.take 1 } = false) (n : Nat) :
    s.isRsm { p with payload := l.take n } = false := by
  cases n with
  | zero => simp [State.isRsm]
  | succ n => cases l <;> exact h

/-- Credit used and a packet counted leave the hub's own prefix, and with it what a ring status message is. -/
theorem State.isRsm_counted (s : State) (t : Nat) (h : HeaderIn) (p : Packet) :
    ((s.useCredit t h).wrap TRK_RXPKT_COUNT t).isRsm p = s.isRsm p := by
  have hprefix : ((s.useCredit t h).wrap TRK_RXPKT_COUNT t).selfPrefix = s.selfPrefix := by
    have hrd {F : Field} (hkey : TRK_RXPKT_COUNT.key t 0 ≠ F.key 0 0) :
        ((s.useCredit t h).wrap TRK_RXPKT_COUNT t).rd F = s.rd F := State.rd_wr_ne hkey _
    simp only [State.selfPrefix]
    rw [hrd, hrd, hrd, hrd] <;>
      simp [Field.key, Field.addr, TRK_RXPKT_COUNT, FAB_SELF_STATION, FAB_SELF_RING, FAB_SELF_CHAIN, FAB_SELF_HUB] <;> omega
  simp only [State.isRsm, hprefix]

theorem State.arriveTrunk_of_not_rsm {s : State} {t : Nat} {p : Packet} (h : s.isRsm p = false) : s.arriveTrunk t p true =
    ((s.classifyTrunk (s.captured t p)).1, [.trunk t (s.classifyTrunk (s.captured t p)).2 true]) := by
  simp only [State.arriveTrunk, h, Bool.false_and, Bool.false_eq_true, if_false, if_true]

/-- An unsealed packet that has credit and a good tail, and is no ring status message, uses its credit, counts and is classified. -/
theorem State.upArrive_of_plain {s : State} {t : Nat} {h : HeaderIn} {hdr body : List Byte} (hplain : h.isSealed = false)
    (hrsm : s.isRsm { h.pkt with payload := body.take 1 } = false) (hcredit : s.overrun t h = false) (hlen : body.length = h.len + 4)
    (hcrc : State.crcTail (body.take h.len) (body.drop h.len) = .good) :
    s.upArrive t h hdr body .term =
      ((s.useCredit t h).wrap TRK_RXPKT_COUNT t).arriveTrunk t { h.pkt with payload := body.take h.len } true := by
  have hother : s.isRsm { h.pkt with payload := body.take h.len } = false := State.isRsm_of_first hrsm h.len
  simp only [State.upArrive, hplain, plainCheck_of_good hlen hcrc, hother, hcredit, State.checkedArrive, State.tailCount,
    Bool.and_false, Bool.false_eq_true, if_false, if_true, decide_true]

/-! The legacy link (R167 to R169, R171). -/

/-- A write of TRK_KL2 that may change EN: its fields are taken, and the latency entries follow where ACTIVE changes (R91, R167). -/
theorem State.kl2Write_of_free {s : State} (hen : s.on TRK_CTRL_EN 0 = false) (hbar : s.on TRK_KL2_STAT_FUSEBAR = false) (w : Nat) :
    s.kl2Write w = (s.writeReg 0xD8004 w).kl2Show.when ((s.writeReg 0xD8004 w).kl2Show.kl2Active != s.kl2Active) (·.latencyConfig 0) :=
  if_neg (by simp [hen, hbar])

theorem State.kl2Write_of_barred {s : State} (h : s.on TRK_CTRL_EN 0 = true ∨ s.on TRK_KL2_STAT_FUSEBAR = true) (w : Nat) :
    s.kl2Write w = (s.writeReg 0xD8004 (setBits w 31 31 (s.rd TRK_KL2_EN))).wr TRK_KL2_STAT_ENREJ 1 :=
  if_pos (Bool.or_eq_true_iff.mpr h)

/-- Another valid translation entry than `h` holds the prefix that a write of a valid entry would leave (R171). -/
def State.xlatShared (s : State) (h w p : Nat) : Bool :=
  w.testBit 31 && ((List.range 32).drop 1).any (fun k => k != h && s.on TRK_XLAT_VALID k && s.rd TRK_XLAT_PREFIX k == p)

theorem State.xlatWrite_of_ok {s : State} {h w : Nat} (hh : h ≠ 0) (hok : addrValid (bitsOf w 24 7 * 128) = true)
    (hown : s.xlatShared h w (bitsOf w 24 7) = false) : s.xlatWrite h w = s.writeReg (0xD8100 + 4 * h) w := by
  unfold State.xlatShared at hown
  simp only [State.xlatWrite, hh, hok, hown, Bool.not_true, Bool.false_eq_true, if_false]

theorem State.xlatWrite_of_bad_prefix {s : State} {h w : Nat} (hh : h ≠ 0) (hbad : addrValid (bitsOf w 24 7 * 128) = false)
    (hown : s.xlatShared h w (s.rd TRK_XLAT_PREFIX h) = false) :
    s.xlatWrite h w = (s.writeReg (0xD8100 + 4 * h) (setBits w 24 7 (s.rd TRK_XLAT_PREFIX h))).wr TRK_KL2_STAT_XLATREJ 1 := by
  unfold State.xlatShared at hown
  simp only [State.xlatWrite, hh, hbad, hown, Bool.not_false, Bool.false_eq_true, if_false, if_true]

/-- Settles O16: each command's function under the conditions of its clause. -/
theorem receiveAndLegacyLink : Obligations.ReceiveAndLegacyLink := by
  refine ⟨fun t blocks bytes h ecc s u hup hkl3 htake hlen hh hok hplain hrsm hcredit hbody hcrc hu => ?_,
    fun t blocks bytes i ecc s hup hkl3 htake hlen hfail => ?_,
    fun cols bytes s hcols hkl2 hup hshort hcrc16 hver hmax htotal hclass hroom htail hproto => ?_,
    fun w s hen hbar hsame => ⟨_, rfl, congrArg Host.Outcome.next ?_⟩, fun w s hen hbar hmoved => congrArg Host.Outcome.next ?_,
    fun w s h => congrArg Host.Outcome.next (State.kl2Write_of_barred h w.toNat),
    fun mask comp s hkl2 hup hsum => congrArg Host.Outcome.next (if_pos (by simp [hkl2, hup, hsum])),
    fun s hkl2 hup => congrArg Host.Outcome.next (if_pos (Bool.and_eq_true_iff.mpr ⟨hkl2, hup⟩)),
    fun h w s hh hok hown => congrArg Host.Outcome.next (State.xlatWrite_of_ok hh hok hown),
    fun h w s hh hbad hown => congrArg Host.Outcome.next (State.xlatWrite_of_bad_prefix hh hbad hown)⟩
  -- Packets of a trunk.
  · subst hh
    have hother : u.isRsm { (parseHeader bytes).pkt with payload := (bytes.drop 20).take (parseHeader bytes).len } = false := by
      rw [hu, State.isRsm_counted]
      exact State.isRsm_of_first hrsm _
    refine (execTrunkPacketReceive_alone t blocks ecc s).trans ?_
    rw [State.trunkArrive_of_up hup hkl3 htake, State.packetArrive_of_headerOk hup hlen hok,
      State.upArrive_of_plain hplain hrsm hcredit hbody hcrc, ← hu, State.arriveTrunk_of_not_rsm hother]
  · refine (execTrunkPacketReceive_alone t blocks ecc s).trans ?_
    rw [State.trunkArrive_of_up hup hkl3 htake, State.packetArrive_of_headerFail hlen hfail]
    rfl
  -- A packet of the legacy link.
  · have hmod : ofBe ((bytes.drop 5).take 2) % 4096 = ofBe ((bytes.drop 5).take 2) := Nat.mod_eq_of_lt (by omega)
    have hexact : ¬ bytes.length ≠ 24 + ofBe ((bytes.drop 5).take 2) := fun hne => hne htotal
    have hreceive : s.kl2Receive bytes = (s.wrap TRK_RXPKT_COUNT 0).kl2Translate bytes := by
      simp only [State.kl2Receive, hmod, hkl2, hup, hshort, hcrc16, hver, Nat.not_lt.mpr hmax, hexact,
        Nat.not_le.mpr hclass, hroom, htail, hproto, ne_eq, not_true, decide_false, Bool.and_self, Bool.not_true, Bool.or_self,
        Bool.false_eq_true, if_false]
    show execKl2PacketReceive cols s = _
    simp only [execKl2PacketReceive, hcols, hreceive]
  -- TRK_KL2 with EN free, by whether ACTIVE changes.
  · rw [State.kl2Write_of_free hen hbar, hsame, bne_self_eq_false]
    rfl
  · rw [State.kl2Write_of_free hen hbar, bne_iff_ne.mpr hmoved]
    rfl

end Sys2Proof.Machine
end

section
/-! PROOFS. The end of a transmission, and what the statement on the switch's buffer and queues claims of it (R202). -/

namespace Sys2Proof.Machine

theorem State.dropPkt_sending (s : State) (k : Nat) : (s.dropPkt k).xsw.sending = s.xsw.sending := by
  simp only [State.dropPkt]
  split
  · rfl
  · split
    -- The packet's last copy.
    · split <;> rfl
    · rfl

/-- A copy that is released stops no transmission and starts none. -/
theorem State.releaseCopy_sending (s : State) (c : Copy) : (s.releaseCopy c).xsw.sending = s.xsw.sending := by
  unfold State.releaseCopy
  split
  · rfl
  · exact State.dropPkt_sending _ _

theorem State.completeSend_of_sending {s : State} {p : Nat} {c : Copy} (h : s.sending p = some c) :
    s.completeSend p = (s.setSending p none).releaseCopy c := by
  simp only [State.completeSend, h]

/-- After the end of a transmission, a port sends what the table of transmissions shows once the port's listing is taken out. -/
theorem State.sending_completeSend {s : State} {p : Nat} {c : Copy} (h : s.sending p = some c) :
    (s.completeSend p).sending p = (s.setSending p none).sending p := by
  rw [State.completeSend_of_sending h]
  exact congrArg (fun t => (Tab.get t p []).head?) (State.releaseCopy_sending _ c)

/-- Where that table is in its canonical form, the port is idle, as the statement claims of TRANSMIT_COMPLETE. -/
theorem State.sending_completeSend_of_sorted {s : State} {p : Nat} {c : Copy} (h : s.sending p = some c)
    (hs : Tab.sorted s.xsw.sending = true) : (s.completeSend p).sending p = none := by
  rw [State.sending_completeSend h]
  exact congrArg List.head? (Tab.get_put_self p [] [] hs)

/-- Edge port 0 (P4) sending a copy, and listed twice in the table of transmissions. -/
def senderListedTwice : State :=
  { State.reset with xsw := { State.reset.xsw with sending := [(4, [{}]), (4, [{}])] } }

/-- Refutes O17: its clause on TRANSMIT_COMPLETE takes any state whose register table is in its canonical form, so also one whose table of transmissions lists the port twice. The command takes the first listing out, and the second one shows: the port is not idle. -/
theorem not_switchBufferAndQueues : ¬ Obligations.SwitchBufferAndQueues := by
  intro h
  obtain ⟨-, -, -, -, -, -, -, -, -, -, -, -, -, -, -, -, -, -, -, -, -, hcomplete, -⟩ := h
  have hsending : senderListedTwice.sending 4 = some {} := by decide
  obtain ⟨t, hnext, hidle, -⟩ := hcomplete 4 {} senderListedTwice hsending rfl (by decide)
  have ht : senderListedTwice.completeSend 4 = t := Host.Outcome.next.inj hnext
  subst ht
  have hshows : (senderListedTwice.completeSend 4).sending 4 = some {} := (State.sending_completeSend hsending).trans (by decide)
  exact absurd (hshows.symm.trans hidle) (by decide)

end Sys2Proof.Machine
end

section
/-! PROOFS. Edge ports: a register write, the link, and a frame that comes alone in its cycle (R210 to R213, R219). -/

namespace Sys2Proof.Machine

/-! Mode and link (R210, R219, R233). -/

/-- A write that keeps MODE loads no latency entries. -/
theorem State.edgeCtrlWrite_of_same_mode {s : State} {e w : Nat}
    (hmode : s.rd EDG_CTRL_MODE e = (s.writeReg (0xE0000 + 0x400 * e) w).rd EDG_CTRL_MODE e) :
    s.edgeCtrlWrite e w = ((s.writeReg (0xE0000 + 0x400 * e) w).edgeCheck e).guardShow (4 + e) := by
  have hsame : (s.rd EDG_CTRL_MODE e != (s.writeReg (0xE0000 + 0x400 * e) w).rd EDG_CTRL_MODE e) = false := by
    rw [hmode, bne_self_eq_false]
  simp only [State.edgeCtrlWrite, hsame, State.when, Bool.false_eq_true, if_false]

/-- MODEMIS of port `e` shows whether its mode and the rate of its lane disagree (R210). -/
def State.modeShown (s : State) (e : Nat) : State := s.wr EDG_STAT_MODEMIS (bit (s.modeMismatch e)) e

/-- A link that may come up is shown up, with its speed, its guard band and its latency entries. -/
theorem State.edgeUp_of_negotiated {s : State} {e : Nat} (hholds : (s.modeShown e).edgeHolds e = true)
    (hdown : (s.modeShown e).on EDG_STAT_LINK e = false) (inband : Nat) : s.edgeUp e inband true =
      ((((s.modeShown e).wr EDG_STAT_LINK 1 e).wr EDG_STAT_SPEED (State.edgeSpeed ((s.modeShown e).rd EDG_CTRL_MODE e) inband) e).guardShow
        (4 + e)).latencyTrained (4 + e) := by
  unfold State.modeShown at hholds hdown ⊢
  simp only [State.edgeUp, hholds, hdown, Bool.not_true, Bool.or_self, Bool.false_and, Bool.false_eq_true, if_false]

/-- In SGMII a negotiation that has failed leaves the link down and counts. -/
theorem State.edgeUp_of_sgmii_failed {s : State} {e : Nat} (hholds : (s.modeShown e).edgeHolds e = true)
    (hdown : (s.modeShown e).on EDG_STAT_LINK e = false) (hsgmii : (s.modeShown e).rd EDG_CTRL_MODE e = 1) (inband : Nat) :
    s.edgeUp e inband false = (s.modeShown e).edgCount e 9 := by
  unfold State.modeShown at hholds hdown hsgmii ⊢
  simp only [State.edgeUp, hholds, hdown, hsgmii, Bool.not_true, Bool.not_false, Bool.or_self, decide_true, Bool.or_true,
    Bool.and_self, Bool.false_eq_true, if_false, if_true]

/-! A frame that comes alone in its cycle (R201, R211 to R213). -/

theorem State.inOrder_edge_single {α : Type} (e : Fin 8) (a : α) : State.inOrder 8 [(e.val, a)] = [(e.val, a)] :=
  match e with
  | 0 | 1 | 2 | 3 | 4 | 5 | 6 | 7 => rfl

/-- The frame passes stages 1 to 3, and what arrives goes to stage 4. -/
theorem execEdgeFrameReceive_alone (e : Fin 8) (bytes : List Byte) (s : State) : execEdgeFrameReceive e bytes [] s =
    .next ((s.frameArrive e bytes).1.admitCycle 0 (s.frameArrive e bytes).2) := by
  have htrunks : State.inOrder 4 ([] : List (Nat × List LineBlock)) = [] := rfl
  show Host.Outcome.next (s.cycleArrive 0 [] [(e.val, bytes)]) = _
  simp only [State.cycleArrive, htrunks, State.inOrder_edge_single, State.trunksArrive, State.framesArrive, List.nil_append,
    List.append_nil]

/-- A cycle in which nothing reaches stage 4 leaves the state as it is. -/
theorem State.admitCycle_nil (s : State) (ecc : Nat) : s.admitCycle ecc [] = s := rfl

/-- The bytes of a frame before its FCS. -/
def frameBody (bytes : List Byte) : List Byte := bytes.take (bytes.length - 4)

/-- The FCS of a frame is that of its bytes (R211). -/
def FcsGood (bytes : List Byte) : Prop := bytes.drop (bytes.length - 4) = fcsBytes (crc32 (frameBody bytes))

section
variable {s : State} {e : Nat} {bytes : List Byte} (hlink : s.on EDG_STAT_LINK e = true) (hen : s.on EDG_CTRL_EN e = true)
include hlink hen

theorem State.frameArrive_of_bad_fcs (hbad : ¬ FcsGood bytes) : s.frameArrive e bytes = ((s.edgCount e 0).edgCount e 2, []) := by
  unfold FcsGood frameBody at hbad
  simp only [State.frameArrive, hlink, hen, hbad, Bool.not_true, Bool.or_self, ne_eq, not_false_eq_true, Bool.false_eq_true,
    if_false, if_true]

theorem State.frameArrive_of_short (hgood : FcsGood bytes) (hshort : bytes.length < 64) :
    s.frameArrive e bytes = ((s.edgCount e 0).edgCount e 3, []) := by
  unfold FcsGood frameBody at hgood
  simp only [State.frameArrive, hlink, hen, hgood, hshort, Bool.not_true, Bool.or_self, ne_eq, not_true, Bool.false_eq_true,
    if_false, if_true]

/-- A good frame that is no flow control and no PTP event goes where the port's origin context says. -/
theorem State.frameArrive_of_data (hgood : FcsGood bytes) (hmin : 64 ≤ bytes.length)
    (hmax : bytes.length ≤ (s.edgCount e 0).rd EDG_CTRL_MAXLEN e) (hflow : etherType (frameBody bytes) ≠ 0x8808)
    (hptp : ptpEvent (frameBody bytes) = false) : s.frameArrive e bytes =
      ((s.edgCount e 0).edgeContext e).elim ((s.edgCount e 0).edgCount e 6, (s.edgCount e 0).framePhase e (frameBody bytes))
        (fun n => (s.edgCount e 0).frameTunnel e n (frameBody bytes)) := by
  unfold FcsGood frameBody at hgood
  unfold frameBody at hflow hptp ⊢
  simp only [State.frameArrive, hlink, hen, hgood, Nat.not_lt.mpr hmin, Nat.not_lt.mpr hmax, hflow, hptp, Bool.not_true,
    Bool.or_self, Bool.false_and, ne_eq, not_true, Bool.false_eq_true, if_false]
  cases (s.edgCount e 0).edgeContext e <;> rfl

end

/-- Settles O21: each command's function under the conditions of its clause. -/
theorem edgePorts : Obligations.EdgePorts := by
  refine ⟨fun e w s hmode => congrArg Host.Outcome.next (State.edgeCtrlWrite_of_same_mode hmode),
    fun e inband an s hholds hdown han => ?_,
    fun e inband s hholds hdown hsgmii => congrArg Host.Outcome.next (State.edgeUp_of_sgmii_failed hholds hdown hsgmii inband),
    fun e s hlink => congrArg Host.Outcome.next (if_pos hlink),
    fun e s hdown => congrArg Host.Outcome.next (if_neg (Bool.eq_false_iff.mp hdown)),
    fun e bytes s hlink hen hbad => ?_, fun e bytes s hlink hen hgood hshort => ?_,
    fun e bytes n s hlink hen hgood hmin hmax hflow hptp hctx => ?_,
    fun e bytes s hlink hen hgood hmin hmax hflow hptp hctx => ?_⟩
  · subst han
    exact congrArg Host.Outcome.next (State.edgeUp_of_negotiated hholds hdown inband)
  -- Frames received, by what stops them or where they go.
  all_goals refine (execEdgeFrameReceive_alone e bytes s).trans ?_
  · rw [State.frameArrive_of_bad_fcs hlink hen hbad, State.admitCycle_nil]
  · rw [State.frameArrive_of_short hlink hen hgood hshort, State.admitCycle_nil]
  · rw [State.frameArrive_of_data hlink hen hgood hmin hmax hflow hptp, hctx]
    rfl
  · rw [State.frameArrive_of_data hlink hen hgood hmin hmax hflow hptp, hctx]
    rfl

end Sys2Proof.Machine
end

section
/-! PROOFS. Shapers, policers and the plan switch: a refill of the grid, and what a switch shows and clamps (R224 to R226, R237, R241). -/

namespace Sys2Proof.Machine

/-! Folds whose step at an element is the only one to touch its value. -/

/-- A value that only the step at `a` changes, in a fold that meets `a` once: what that step makes of it. -/
theorem State.each_once {α β : Type} {P : State → Prop} {val : State → β} {f : State → α → State} {a : α} {l : List α}
    {s : State} {v : β} (hl : l.Nodup) (ha : a ∈ l) (hkeep : ∀ u, ∀ b ∈ l, P u → P (f u b))
    (hother : ∀ u, ∀ b ∈ l, b ≠ a → P u → val (f u b) = val u)
    (hself : ∀ u, P u → val u = val s → val (f u a) = v) (hs : P s) : val (s.each l f) = v := by
  induction l generalizing s with
  | nil => cases ha
  | cons b l ih =>
    obtain ⟨hb, hl⟩ := List.nodup_cons.mp hl
    have hkeep' := fun u c hc => hkeep u c (List.mem_cons_of_mem b hc)
    have hother' := fun u c hc => hother u c (List.mem_cons_of_mem b hc)
    have hs' := hkeep s b List.mem_cons_self hs
    by_cases hba : b = a
    · subst hba
      have hrest : P ((f s b).each l f) ∧ val ((f s b).each l f) = val (f s b) := by
        refine State.each_keeps (P := fun u => P u ∧ val u = val (f s b)) (fun u c hc hu => ?_) ⟨hs', rfl⟩
        obtain ⟨hP, hval⟩ := hu
        exact ⟨hkeep' u c hc hP, (hother' u c hc (ne_of_mem_of_not_mem hc hb) hP).trans hval⟩
      exact hrest.2.trans (hself s hs rfl)
    · have hal : a ∈ l := (List.mem_cons.mp ha).resolve_left (Ne.symm hba)
      exact ih hl hal hkeep' hother' (fun u hP hu => hself u hP (hu.trans (hother s b List.mem_cons_self hba hs))) hs'

/-- What a count with full value `full` is listed as: nothing when it is full. -/
def listedCount (full v : Int) : Option Int := if v = full then none else some v

theorem listedCount_getD (full v : Int) : (listedCount full v).getD full = v := by
  unfold listedCount
  split
  · next h => exact h.symm
  · rfl

theorem slots_nodup : State.slots.Nodup := List.nodup_range.sublist (List.drop_sublist 1 _)

theorem State.rd_of_regs {s u : State} (h : u.regs = s.regs) (F : Field) (i j : Nat) : u.rd F i j = s.rd F i j := by
  rw [State.rd, h, State.rd]

theorem State.on_of_regs {s u : State} (h : u.regs = s.regs) (F : Field) (i j : Nat) : u.on F i j = s.on F i j := by
  rw [State.on, State.rd_of_regs h, State.on]

/-! Policers (R226). -/

theorem State.policerCount_congr {s u : State} (hregs : u.regs = s.regs) (hpolicer : u.shp.policer = s.shp.policer) (n : Nat) :
    u.policerCount n = s.policerCount n := by
  have hbank : u.activeBank = s.activeBank := State.rd_of_regs hregs _ _ _
  rw [State.policerCount, hpolicer, State.rd_of_regs hregs, hbank, State.policerCount]

theorem State.sorted_setPolicer {s : State} (h : Tab.sorted s.shp.policer = true) (n : Nat) (v : Int) :
    Tab.sorted (s.setPolicer n v).shp.policer = true := Tab.sorted_put _ _ _ h

theorem State.policerCount_setPolicer_self {s : State} (h : Tab.sorted s.shp.policer = true) (n : Nat) (v : Int) :
    (s.setPolicer n v).policerCount n = v :=
  (congrArg (Option.getD · _) (Tab.get_put_self n _ none h)).trans (listedCount_getD _ v)

theorem State.policerCount_setPolicer_ne (s : State) {m n : Nat} (h : m ≠ n) (v : Int) :
    (s.setPolicer m v).policerCount n = s.policerCount n :=
  congrArg (Option.getD · _) (Tab.get_put_ne h _ none none s.shp.policer)

/-- Policers set one after the other change their own table and nothing else. -/
theorem State.setPolicers_frame (s : State) (l : List Nat) (g : State → Nat → Int) :
    ∃ pol, s.each l (fun u n => u.setPolicer n (g u n)) = { s with shp := { s.shp with policer := pol } } := by
  refine State.each_keeps (P := fun u => ∃ pol, u = { s with shp := { s.shp with policer := pol } }) (fun u n _ hu => ?_)
    ⟨s.shp.policer, rfl⟩
  obtain ⟨pol, rfl⟩ := hu
  exact ⟨_, rfl⟩

/-- A policer set once among others reads what it was set to. -/
theorem State.policerCount_setPolicers {s : State} (hs : Tab.sorted s.shp.policer = true) {g : State → Nat → Int} {n : Nat} {v : Int}
    (hn : n ∈ State.slots) (hself : ∀ u, u.regs = s.regs → u.policerCount n = s.policerCount n → g u n = v) :
    (s.each State.slots (fun u m => u.setPolicer m (g u m))).policerCount n = v := by
  refine State.each_once (P := fun u => u.regs = s.regs ∧ Tab.sorted u.shp.policer = true) (val := fun u => u.policerCount n) slots_nodup hn
    (fun u m _ hu => ?_) (fun u m _ hm _ => u.policerCount_setPolicer_ne hm _) (fun u hu hcount => ?_) ⟨rfl, hs⟩
  · obtain ⟨hregs, hsorted⟩ := hu
    exact ⟨hregs, State.sorted_setPolicer hsorted m _⟩
  · obtain ⟨hregs, hsorted⟩ := hu
    exact (State.policerCount_setPolicer_self hsorted n _).trans (hself u hregs hcount)

/-- The count of policer `n` after a refill. -/
def State.refilledCount (s : State) (n : Nat) : Int :=
  if s.on SHP_POL0_PEN n s.activeBank then
    min (s.policerCount n + s.rd SHP_POL0_RATE n s.activeBank * 1024) (s.rd SHP_POL1_BURST n s.activeBank * State.tokenUnit)
  else s.rd SHP_POL1_BURST n s.activeBank * State.tokenUnit

theorem State.refillPolicer_eq (s : State) (n : Nat) : s.refillPolicer n = s.setPolicer n (s.refilledCount n) :=
  (apply_ite (s.setPolicer n) _ _ _).symm

/-- A refill reads a policer's registers and its own count. -/
theorem State.refilledCount_congr {s u : State} {n : Nat} (hregs : u.regs = s.regs) (hcount : u.policerCount n = s.policerCount n) :
    u.refilledCount n = s.refilledCount n := by
  have hbank : u.activeBank = s.activeBank := State.rd_of_regs hregs _ _ _
  rw [State.refilledCount, hbank, hcount, State.on_of_regs hregs, State.rd_of_regs hregs SHP_POL0_RATE,
    State.rd_of_regs hregs SHP_POL1_BURST, State.refilledCount]

/-! Shapers (R224, R225). -/

/-- The count of the shaper of queue `q` after a refill. -/
def State.refilledTokens (s : State) (q : Nat) : Int :=
  if s.on SHP_Q0_SHEN q s.activeBank then
    min (min (s.tokens q) (s.rd SHP_Q1_BUCKET q s.activeBank * State.tokenUnit) + s.rd SHP_Q0_RATE q s.activeBank * 1024)
      (s.rd SHP_Q1_BUCKET q s.activeBank * State.tokenUnit)
  else s.rd SHP_Q1_BUCKET q s.activeBank * State.tokenUnit

/-- The state with another table of token counts. -/
def State.withTokens (s : State) (tok : Tab (Option Int)) : State := { s with shp := { s.shp with tokens := tok } }

theorem State.refillShaper_eq (s : State) (q : Nat) : s.refillShaper q =
    s.withTokens (Tab.put s.shp.tokens q (listedCount (s.rd SHP_Q1_BUCKET q s.activeBank * State.tokenUnit) (s.refilledTokens q)) none) := rfl

theorem State.tokens_of_listed {s : State} {q : Nat} {v : Int}
    (h : Tab.get s.shp.tokens q none = listedCount ((s.shaperSet q).2.2 * State.tokenUnit) v) : s.tokens q = v := by
  rw [State.tokens, h, listedCount_getD]

/-- A refill reads of the counts the one of the queue alone. -/
theorem State.refilledTokens_withTokens {s : State} {tok : Tab (Option Int)} {q : Nat} (h : Tab.get tok q none = Tab.get s.shp.tokens q none) :
    (s.withTokens tok).refilledTokens q = s.refilledTokens q := by
  have htokens : (s.withTokens tok).tokens q = s.tokens q := congrArg (Option.getD · _) h
  unfold State.refilledTokens
  rw [htokens]
  rfl

/-- The refill of shapers changes the token counts and nothing else. -/
theorem State.refillShapers_frame (s : State) (l : List Nat) : ∃ tok, s.each l State.refillShaper = s.withTokens tok := by
  refine State.each_keeps (P := fun u => ∃ tok, u = s.withTokens tok) (fun u q _ hu => ?_) ⟨s.shp.tokens, rfl⟩
  obtain ⟨tok, rfl⟩ := hu
  exact ⟨_, State.refillShaper_eq _ q⟩

/-- Each queue whose shaper is refilled lists what its refill gives. -/
theorem State.refillShapers_listed {s : State} (hs : Tab.sorted s.shp.tokens = true) {l : List Nat} (hl : l.Nodup) {q : Nat} (hq : q ∈ l) :
    Tab.get (s.each l State.refillShaper).shp.tokens q none =
      listedCount (s.rd SHP_Q1_BUCKET q s.activeBank * State.tokenUnit) (s.refilledTokens q) := by
  refine State.each_once (P := fun u => ∃ tok, u = s.withTokens tok ∧ Tab.sorted tok = true)
    (val := fun u => Tab.get u.shp.tokens q none) hl hq (fun u m _ hu => ?_)
    (fun u m _ hm _ => Tab.get_put_ne hm _ none none u.shp.tokens) (fun u hu hcount => ?_) ⟨s.shp.tokens, rfl, hs⟩
  · obtain ⟨tok, rfl, htok⟩ := hu
    exact ⟨_, State.refillShaper_eq _ m, Tab.sorted_put _ _ _ htok⟩
  · obtain ⟨tok, rfl, htok⟩ := hu
    rw [← State.refilledTokens_withTokens hcount]
    exact Tab.get_put_self q _ none htok

/-! The refill (R224 to R226, R242). -/

theorem State.planTick_of_unarmed {s : State} (h : s.on SHP_PLAN_STAT_ARMED = false) : s.planTick = s := by
  simp only [State.planTick, State.planSwitchDue, State.planDeadlineDue, h, Bool.not_false, Bool.false_and, if_true, Bool.false_eq_true,
    if_false]

/-- The grid once its shapers have gained their refill and adopted the active bank (R225). -/
def State.shapersRefilled (s : State) : State :=
  { s.each (List.range 184) State.refillShaper with
    shp := { (s.each (List.range 184) State.refillShaper).shp with
      shapBank := (s.each (List.range 184) State.refillShaper).activeBank, kept := [] } }

theorem State.refill_of_unarmed {s : State} (h : s.on SHP_PLAN_STAT_ARMED = false) :
    s.refill = s.shapersRefilled.each State.slots (fun u n => u.setPolicer n (u.refilledCount n)) := by
  simp only [State.refill, State.planTick_of_unarmed h, ← State.refillPolicer_eq]
  rfl

/-- The refill of the shapers leaves the registers and the policers. -/
theorem State.shapersRefilled_frame (s : State) : s.shapersRefilled.regs = s.regs ∧ s.shapersRefilled.shp.policer = s.shp.policer := by
  obtain ⟨tok, htok⟩ := s.refillShapers_frame (List.range 184)
  rw [State.shapersRefilled, htok]
  exact ⟨rfl, rfl⟩

/-- Settles O18: the shapers' refill in its own table, then the policers'. -/
theorem shaperRefill : Obligations.ShaperRefill := by
  refine ⟨fun s q harmed hs hq => ⟨s.refill, rfl, ?_⟩, fun s n harmed hs hn => ⟨s.refill, rfl, ?_⟩⟩
  -- A shaper: the policers' refill leaves what its own refill lists.
  · obtain ⟨tok, htok⟩ := s.refillShapers_frame (List.range 184)
    obtain ⟨pol, hpol⟩ := State.setPolicers_frame s.shapersRefilled State.slots State.refilledCount
    have hlisted := State.refillShapers_listed (l := List.range 184) hs List.nodup_range (List.mem_range.mpr hq)
    rw [htok] at hlisted
    rw [State.refill_of_unarmed harmed, hpol, State.shapersRefilled, htok]
    exact ⟨rfl, rfl, State.tokens_of_listed hlisted⟩
  -- A policer: the shapers' refill leaves its registers and its count.
  · obtain ⟨hregs, hpolicer⟩ := s.shapersRefilled_frame
    have hsorted : Tab.sorted s.shapersRefilled.shp.policer = true := by rw [hpolicer, hs]
    rw [State.refill_of_unarmed harmed]
    exact State.policerCount_setPolicers hsorted hn fun u hu hcount =>
      State.refilledCount_congr (hu.trans hregs) (hcount.trans (State.policerCount_congr hregs hpolicer n))

/-! What a switch shows (R237, R241). -/

/-- The counts of what a change of port `p`'s gates brings about: a packet overrun (R234), and the entry of a mains list into fallback (R231). -/
def State.gateCounted (s : State) (p : Nat) : State :=
  (s.when (s.overruns p (s.gatePos p s.activeBank).gates) (·.sat SHP_CNT_COUNT 2)).when
    ((s.gatePos p s.activeBank).fallback && s.on SHP_GCTL_ANCHOR p s.activeBank && !s.on SHP_GSTAT_FALLBACK p) (·.sat SHP_CNT_COUNT 4)

theorem State.gateShow_eq (s : State) (p : Nat) : s.gateShow p =
    (((((s.gateCounted p).wr SHP_GSTAT_RUN (bit (s.gatePos p s.activeBank).run) p).wr
      SHP_GSTAT_FALLBACK (bit (s.gatePos p s.activeBank).fallback) p).wr SHP_GSTAT_BANK s.activeBank p).wr
      SHP_GSTAT_GATES (s.gatePos p s.activeBank).gates p).wr SHP_GSTAT_ENTRY (s.gatePos p s.activeBank).entry p := rfl

/-- What both counters keep, the counting keeps. -/
theorem State.gateCounted_keeps {P : State → Prop} {s : State} (hs : P s) (hsat : ∀ u, ∀ k < 6, P u → P (u.sat SHP_CNT_COUNT k))
    (p : Nat) : P (s.gateCounted p) := by
  have hwhen : ∀ (u : State) (b : Bool), ∀ k < 6, P u → P (u.when b (·.sat SHP_CNT_COUNT k)) := fun u b k hk hu => by
    cases b
    · exact hu
    · exact hsat u k hk hu
  exact hwhen _ _ 4 (by decide) (hwhen _ _ 2 (by decide) hs)

theorem State.sorted_gateCounted {s : State} (hs : Tab.sorted s.regs = true) (p : Nat) : Tab.sorted (s.gateCounted p).regs = true :=
  State.gateCounted_keeps (P := fun u => Tab.sorted u.regs = true) hs (fun _ _ _ hu => State.sorted_wr hu _ _ _ _) p

theorem State.sorted_gateShow {s : State} (hs : Tab.sorted s.regs = true) (p : Nat) : Tab.sorted (s.gateShow p).regs = true := by
  rw [State.gateShow_eq]
  iterate 5 apply State.sorted_wr
  exact State.sorted_gateCounted hs p

theorem State.gateShow_shp (s : State) (p : Nat) : (s.gateShow p).shp = s.shp :=
  State.gateCounted_keeps (P := fun u => u.shp = s.shp) rfl (fun _ _ _ hu => hu) p

theorem State.gatesShow_shp (s : State) : s.gatesShow.shp = s.shp :=
  State.each_keeps (P := fun t => t.shp = s.shp) (fun t p _ ht => (t.gateShow_shp p).trans ht) rfl

/-- A field apart from the block's counters and from the status of port `p` keeps its code when that status is shown. -/
theorem State.rd_gateShow_ne {p : Nat} {G : Field} {i j : Nat} (hcnt : ∀ k < 6, SHP_CNT_COUNT.key k 0 ≠ G.key i j)
    (hstat : ∀ F ∈ reg_SHP_GSTAT.flds, F.key p 0 ≠ G.key i j) (s : State) : (s.gateShow p).rd G i j = s.rd G i j := by
  simp only [reg_SHP_GSTAT, List.forall_mem_cons] at hstat
  obtain ⟨hrun, hfallback, hbank, hgates, hentry, -⟩ := hstat
  rw [State.gateShow_eq, State.rd_wr_ne hentry, State.rd_wr_ne hgates, State.rd_wr_ne hbank, State.rd_wr_ne hfallback, State.rd_wr_ne hrun]
  exact State.gateCounted_keeps (P := fun u => u.rd G i j = s.rd G i j) rfl (fun u k hk hu => (State.rd_wr_ne (hcnt k hk) _).trans hu) p

/-- The bit addresses of port `p`'s status lie in the word of that port. -/
theorem gstat_key_bounds {F : Field} (hF : F ∈ reg_SHP_GSTAT.flds) (p : Nat) :
    8 * (0x140108 + 0x10 * p) ≤ F.key p 0 ∧ F.key p 0 < 8 * (0x140108 + 0x10 * p) + 32 := by
  have hflds : ∀ F ∈ reg_SHP_GSTAT.flds, F.off = 0x140108 ∧ F.str = 0x10 ∧ F.lo < 32 := by decide
  obtain ⟨hoff, hstr, hlo⟩ := hflds F hF
  rw [Field.key, Field.addr, hoff, hstr]
  omega

/-- A field below the block's counters or above the status of all ports keeps its code when every port's status is shown. -/
theorem State.rd_gatesShow_ne {G : Field} {i j : Nat} (h : G.key i j < 8 * 0x140040 ∨ 8 * 0x150000 ≤ G.key i j) (s : State) :
    s.gatesShow.rd G i j = s.rd G i j := by
  refine State.each_keeps (P := fun u => u.rd G i j = s.rd G i j) (fun u p hp hu => (State.rd_gateShow_ne (fun k hk => ?_)
    (fun F hF => ?_) u).trans hu) rfl
  · simp only [Field.key, Field.addr, SHP_CNT_COUNT] at h ⊢
    omega
  · have hbounds := gstat_key_bounds hF p
    have hport := List.mem_range.mp hp
    omega

/-- Every port's status shows the active bank. -/
theorem State.rd_gatesShow_bank {s : State} (hs : Tab.sorted s.regs = true) {p : Nat} (hp : p < 12) :
    s.gatesShow.rd SHP_GSTAT_BANK p = s.activeBank % 2 := by
  have hactive : ∀ (u : State) (m : Nat), (u.gateShow m).activeBank = u.activeBank := fun u m => by
    refine State.rd_gateShow_ne (fun k _ => ?_) (fun F hF => ?_) u
    · simp only [Field.key, Field.addr, SHP_CNT_COUNT, SHP_PLAN_STAT_ACTIVE]
      omega
    · have hbounds := gstat_key_bounds hF m
      simp only [Field.key, Field.addr, SHP_PLAN_STAT_ACTIVE] at hbounds ⊢
      omega
  refine State.each_once (P := fun u => Tab.sorted u.regs = true ∧ u.activeBank = s.activeBank) (val := fun u => u.rd SHP_GSTAT_BANK p)
    List.nodup_range (List.mem_range.mpr hp) (fun u m _ hu => ?_) (fun u m _ hm _ => ?_) (fun u hu _ => ?_) ⟨hs, rfl⟩
  · obtain ⟨hsorted, hbank⟩ := hu
    exact ⟨State.sorted_gateShow hsorted m, (hactive u m).trans hbank⟩
  · refine State.rd_gateShow_ne (fun k _ => ?_) (fun F hF => ?_) u
    · simp only [Field.key, Field.addr, SHP_CNT_COUNT, SHP_GSTAT_BANK]
      omega
    · have hbounds := gstat_key_bounds hF m
      simp only [Field.key, Field.addr, SHP_GSTAT_BANK] at hbounds ⊢
      omega
  · obtain ⟨hsorted, hbank⟩ := hu
    have hgates : SHP_GSTAT_GATES.key p 0 ≠ SHP_GSTAT_BANK.key p 0 := by
      simp only [Field.key, Field.addr, SHP_GSTAT_GATES, SHP_GSTAT_BANK]
      omega
    have hentry : SHP_GSTAT_ENTRY.key p 0 ≠ SHP_GSTAT_BANK.key p 0 := by
      simp only [Field.key, Field.addr, SHP_GSTAT_ENTRY, SHP_GSTAT_BANK]
      omega
    rw [State.gateShow_eq, State.rd_wr_ne hentry, State.rd_wr_ne hgates,
      State.rd_wr_self (State.sorted_wr (State.sorted_wr (State.sorted_gateCounted hsorted p) _ _ _ _) _ _ _ _), hbank]
    rfl

/-! The plan switch (R237, R240, R241). -/

/-- The banks exchange, and ARMED and SWITCHED show it. -/
def State.switchBanks (s : State) : List (Field × Nat) :=
  [(SHP_PLAN_STAT_ACTIVE, 1 - s.activeBank), (SHP_PLAN_STAT_ARMED, 0), (SHP_PLAN_STAT_SWITCHED, 1)]

/-- The registers that a switch writes, and what they take: the banks, the number of switches, and the switch's time. -/
def State.switchWords (s : State) : List (Field × Nat) :=
  s.switchBanks ++ [(SHP_PLAN_STAT_SWCNT, (s.wrAll s.switchBanks).rd SHP_PLAN_STAT_SWCNT + 1),
    (SHP_PLAN_AT_SECLO_SEC_LO, s.tmu.tod.sec), (SHP_PLAN_AT_NS_NS, s.tmu.tod.ns), (SHP_PLAN_AT_FRAC_FRAC, s.tmu.tod.frac16)]

theorem State.rd_switchBanks_count (s : State) : (s.wrAll s.switchBanks).rd SHP_PLAN_STAT_SWCNT = s.rd SHP_PLAN_STAT_SWCNT := by
  have hapart : ∀ F ∈ s.switchBanks.map Prod.fst, F.key 0 0 ≠ SHP_PLAN_STAT_SWCNT.key 0 0 := by
    simp only [State.switchBanks, List.map_cons, List.map_nil]
    decide
  exact State.rd_wrAll_ne (fun x hx => hapart x.1 (List.mem_map_of_mem hx)) s

theorem State.mem_switchBanks (s : State) {x : Field × Nat} (h : x ∈ s.switchBanks) : x ∈ s.switchWords := List.mem_append_left _ h

theorem State.mem_switchTime (s : State) {x : Field × Nat}
    (h : x ∈ [(SHP_PLAN_STAT_SWCNT, (s.wrAll s.switchBanks).rd SHP_PLAN_STAT_SWCNT + 1), (SHP_PLAN_AT_SECLO_SEC_LO, s.tmu.tod.sec),
      (SHP_PLAN_AT_NS_NS, s.tmu.tod.ns), (SHP_PLAN_AT_FRAC_FRAC, s.tmu.tod.frac16)]) : x ∈ s.switchWords := List.mem_append_right _ h

/-- The fields of those registers lie apart from each other and from LATE, and below the counters of the block. -/
theorem State.switchWords_apart (s : State) : fieldsApart s.switchWords ∧ ∀ x ∈ s.switchWords,
    SHP_PLAN_STAT_LATE.key 0 0 ≠ x.1.key 0 0 ∧ x.1.key 0 0 < 8 * 0x140040 := by
  have h : (s.switchWords.map Prod.fst).Pairwise (fun F G => F.key 0 0 ≠ G.key 0 0) ∧ ∀ F ∈ s.switchWords.map Prod.fst,
      SHP_PLAN_STAT_LATE.key 0 0 ≠ F.key 0 0 ∧ F.key 0 0 < 8 * 0x140040 := by
    simp only [State.switchWords, State.switchBanks, List.cons_append, List.nil_append, List.map_cons, List.map_nil]
    decide
  obtain ⟨hapart, hplace⟩ := h
  exact ⟨(List.pairwise_map (f := Prod.fst)).mp hapart, fun x hx => hplace x.1 (List.mem_map_of_mem hx)⟩

/-- The switch comes 2 ns or more after the instant intended for it (R240). -/
def State.switchLate (s : State) (iv : Option Nat) : Bool :=
  match iv with
  | none => false
  | some n => n * 2 ^ 32 + 2 * 2 ^ 32 ≤ s.tmu.tod.units

/-- The registers of a switch written, with LATE where it is late. -/
def State.switchWritten (s : State) (iv : Option Nat) : State :=
  (s.wrAll s.switchWords).when (s.switchLate iv) (·.wr SHP_PLAN_STAT_LATE 1)

/-- The registers and the gates of a switch, before the policers are clamped. -/
def State.switchShown (s : State) (iv : Option Nat) : State :=
  { (s.switchWritten iv).gatesShow with shp := { (s.switchWritten iv).gatesShow.shp with due := false } }

/-- Policer `n` clamped from its count `c` to its burst in bank `b`. -/
def State.clampPolicer (s : State) (n b : Nat) (c : Int) : State :=
  s.setPolicer n (min c (s.rd SHP_POL1_BURST n b * State.tokenUnit))

/-- A switch writes its registers, shows the gates and clamps the policers. -/
theorem State.planSwitch_eq (s : State) (iv : Option Nat) : s.planSwitch iv =
    (s.switchShown iv).each State.slots (fun u n => u.clampPolicer n (1 - s.activeBank) (s.policerCount n)) := by
  unfold State.planSwitch
  extract_lets old t late counts s1 s2 s3 s4
  have hlate : late = s.switchLate iv := rfl
  have hs2 : s2 = s.wrAll s.switchWords := by
    simp only [State.wrAll, State.switchWords, State.switchBanks, List.cons_append, List.nil_append, State.each_cons, State.each_nil]
    rfl
  have hs3 : s3 = (s.switchWritten iv).gatesShow := by
    rw [State.switchWritten, ← hlate, ← hs2]
    rfl
  clear_value s3
  subst hs3
  exact List.foldl_map

/-- A switch's clamping of the policers changes no register. -/
theorem State.rd_planSwitch (s : State) (iv : Option Nat) (F : Field) (i j : Nat) :
    (s.planSwitch iv).rd F i j = (s.switchWritten iv).gatesShow.rd F i j := by
  obtain ⟨pol, hpol⟩ := State.setPolicers_frame (s.switchShown iv) State.slots
    (fun u n => min (s.policerCount n) (u.rd SHP_POL1_BURST n (1 - s.activeBank) * State.tokenUnit))
  have hframe := (s.planSwitch_eq iv).trans hpol
  rw [hframe, State.rd_shp, State.switchShown, State.rd_shp]

/-- What the registers of a switch bring about and LATE keeps holds of a switch in time and of a late one. -/
theorem State.switchWritten_keeps {P : State → Prop} {s : State} {iv : Option Nat} (h : P (s.wrAll s.switchWords))
    (hlate : ∀ u, P u → P (u.wr SHP_PLAN_STAT_LATE 1)) : P (s.switchWritten iv) := by
  unfold State.switchWritten
  cases s.switchLate iv
  · exact h
  · exact hlate _ h

/-- Each register that a switch writes reads the low bits of what it took. -/
theorem State.rd_switchWritten {s : State} (hs : Tab.sorted s.regs = true) (iv : Option Nat) {F : Field} {v : Nat}
    (h : (F, v) ∈ s.switchWords) : (s.switchWritten iv).rd F = v % 2 ^ F.width := by
  obtain ⟨hapart, hplace⟩ := s.switchWords_apart
  exact State.switchWritten_keeps (P := fun u => u.rd F = v % 2 ^ F.width) (State.rd_wrAll_mem hs hapart h)
    (fun u hu => (State.rd_wr_ne (hplace _ h).1 1).trans hu)

theorem State.rd_planSwitch_mem {s : State} (hs : Tab.sorted s.regs = true) (iv : Option Nat) {F : Field} {v : Nat}
    (h : (F, v) ∈ s.switchWords) : (s.planSwitch iv).rd F = v % 2 ^ F.width := by
  obtain ⟨-, hplace⟩ := s.switchWords_apart
  rw [State.rd_planSwitch, State.rd_gatesShow_ne (.inl (hplace _ h).2), State.rd_switchWritten hs iv h]

theorem State.sorted_switchWritten {s : State} (hs : Tab.sorted s.regs = true) (iv : Option Nat) :
    Tab.sorted (s.switchWritten iv).regs = true :=
  State.switchWritten_keeps (P := fun u => Tab.sorted u.regs = true)
    (State.each_keeps (P := fun u => Tab.sorted u.regs = true) (fun _ _ _ hu => State.sorted_wr hu _ _ _ _) hs)
    (fun _ hu => State.sorted_wr hu _ _ _ _)

/-- Once the registers of a switch are written the active bank is the other one. -/
theorem State.rd_switchWritten_active {s : State} (hs : Tab.sorted s.regs = true) (hbank : s.activeBank ≤ 1) (iv : Option Nat) :
    (s.switchWritten iv).activeBank = 1 - s.activeBank := by
  refine (State.rd_switchWritten hs iv (v := 1 - s.activeBank) (s.mem_switchBanks List.mem_cons_self)).trans (Nat.mod_eq_of_lt ?_)
  show 1 - s.activeBank < 2
  omega

/-- A switch writes no burst of a policer. -/
theorem State.rd_switchShown_burst (s : State) (iv : Option Nat) (n b : Nat) :
    (s.switchShown iv).rd SHP_POL1_BURST n b = s.rd SHP_POL1_BURST n b := by
  have habove : 8 * 0x150000 ≤ SHP_POL1_BURST.key n b := by
    simp only [Field.key, Field.addr, SHP_POL1_BURST]
    omega
  obtain ⟨-, hplace⟩ := s.switchWords_apart
  rw [State.switchShown, State.rd_shp, State.rd_gatesShow_ne (.inr habove)]
  refine State.switchWritten_keeps (P := fun u => u.rd SHP_POL1_BURST n b = s.rd SHP_POL1_BURST n b)
    (State.each_keeps (P := fun u => u.rd SHP_POL1_BURST n b = s.rd SHP_POL1_BURST n b) (fun u x hx hu => ?_) rfl) (fun u hu => ?_)
  · have hbelow := (hplace x hx).2
    exact (State.rd_wr_ne (by omega) x.2).trans hu
  · have hbelow : SHP_PLAN_STAT_LATE.key 0 0 < 8 * 0x140040 := by decide
    exact (State.rd_wr_ne (by omega) 1).trans hu

/-- A switch before the clamping leaves the policers. -/
theorem State.switchShown_policer (s : State) (iv : Option Nat) : (s.switchShown iv).shp.policer = s.shp.policer := by
  have hwritten : (s.switchWritten iv).shp = s.shp :=
    State.switchWritten_keeps (P := fun u => u.shp = s.shp)
      (State.each_keeps (P := fun u => u.shp = s.shp) (fun _ _ _ hu => hu) rfl) (fun _ hu => hu)
  rw [State.switchShown, State.gatesShow_shp, hwritten]

/-- Settles O20: the registers that a switch writes, the gates shown in the new bank, and the policers clamped one by one. -/
theorem planSwitchEffect : Obligations.PlanSwitchEffect := by
  refine ⟨fun s iv hs hbank => ?_, fun s iv p hs hbank hp => ?_, fun s iv n hs hbank hn hpol => ?_⟩
  · have hword : ∀ {F : Field} {v : Nat}, (F, v) ∈ s.switchWords → (s.planSwitch iv).rd F = v % 2 ^ F.width :=
      State.rd_planSwitch_mem hs iv
    have hactive := hword (F := SHP_PLAN_STAT_ACTIVE) (v := 1 - s.activeBank) (s.mem_switchBanks List.mem_cons_self)
    have harmed := hword (F := SHP_PLAN_STAT_ARMED) (v := 0) (s.mem_switchBanks (List.mem_cons_of_mem _ List.mem_cons_self))
    have hswitched := hword (F := SHP_PLAN_STAT_SWITCHED) (v := 1)
      (s.mem_switchBanks (List.mem_cons_of_mem _ (List.mem_cons_of_mem _ List.mem_cons_self)))
    refine ⟨hactive.trans (Nat.mod_eq_of_lt ?_), ?_, ?_, ?_, hword ?_, hword ?_⟩
    · show 1 - s.activeBank < 2
      omega
    · rw [State.on, harmed]
      rfl
    · rw [State.on, hswitched]
      rfl
    · rw [← s.rd_switchBanks_count]
      exact hword (s.mem_switchTime List.mem_cons_self)
    · exact s.mem_switchTime (List.mem_cons_of_mem _ List.mem_cons_self)
    · exact s.mem_switchTime (List.mem_cons_of_mem _ (List.mem_cons_of_mem _ List.mem_cons_self))
  · rw [State.rd_planSwitch, State.rd_gatesShow_bank (State.sorted_switchWritten hs iv) hp, State.rd_switchWritten_active hs hbank]
    exact Nat.mod_eq_of_lt (by omega)
  · have hsorted : Tab.sorted (s.switchShown iv).shp.policer = true := by rw [State.switchShown_policer, hpol]
    rw [State.planSwitch_eq]
    refine State.policerCount_setPolicers hsorted hn fun u hregs _ => ?_
    rw [State.rd_of_regs hregs, State.rd_switchShown_burst]

end Sys2Proof.Machine
end

section
/-! PROOFS. A copy of the active plan bank into the idle one, and what the statement on plan commands claims of it (R237, R239). -/

namespace Sys2Proof.Machine

theorem Field.key_ne_of_bank {F : Field} (hstr : F.str ≠ 0) {a b : Nat} (h : a ≠ b) (j : Nat) : F.key a j ≠ F.key b j := by
  have hkey := Field.key_ne hstr h
  simp only [Field.key, Field.addr] at hkey ⊢
  omega

theorem State.sorted_copyField {s : State} (hs : Tab.sorted s.regs = true) (F : Field) (l : List Nat) (a b : Nat) :
    Tab.sorted (s.copyField F l a b).regs = true :=
  State.each_keeps (P := fun u => Tab.sorted u.regs = true) (fun _ _ _ hu => State.sorted_wr hu _ _ _ _) hs

theorem State.sorted_copyFields {s : State} (hs : Tab.sorted s.regs = true) (Fs : List Field) (l : List Nat) (a b : Nat) :
    Tab.sorted (s.each Fs (fun s F => s.copyField F l a b)).regs = true :=
  State.each_keeps (P := fun u => Tab.sorted u.regs = true) (fun _ F _ hu => State.sorted_copyField hu F l a b) hs

/-- Shapers that keep their values change no register. -/
theorem State.keepShapers_regs (s : State) (qs : List Nat) : (s.keepShapers qs).regs = s.regs := by
  unfold State.keepShapers
  split
  · rfl
  · exact State.each_keeps (P := fun u => u.regs = s.regs) (fun _ _ _ hu => hu) rfl

/-- A copied field holds the low bits of a code, within its width. -/
theorem State.rd_copyField_lt {s : State} (hs : Tab.sorted s.regs = true) {F : Field} (hstr : F.str ≠ 0) {l : List Nat} (hl : l.Nodup)
    {n : Nat} (hn : n ∈ l) (a b : Nat) : (s.copyField F l a b).rd F n b < 2 ^ F.width := by
  refine of_eq_true (State.each_once (P := fun u => Tab.sorted u.regs = true) (val := fun u => u.rd F n b < 2 ^ F.width) hl hn
    (fun u m _ hu => State.sorted_wr hu _ _ _ _) (fun u m _ hm _ => ?_) (fun u hu _ => eq_true ?_) hs)
  · rw [State.rd_wr_ne (Field.key_ne_of_bank hstr hm b)]
  · rw [State.rd_wr_self hu]
    exact Nat.mod_lt _ (Nat.two_pow_pos _)

/-- A plan command that starts shows BUSY and changes no other register. -/
theorem State.rd_planStart_ne {F : Field} {i j : Nat} (h : SHP_PLAN_STAT_BUSY.key 0 0 ≠ F.key i j) (s : State) (r : State.PlanCode × Nat × Nat) :
    (s.planStart r).rd F i j = s.rd F i j := State.rd_wr_ne h 1

/-- With no plan armed, a copy ends with the bursts of the policers, and starts its command. -/
theorem State.cmdCopy_of_unarmed {s : State} (hs : Tab.sorted s.regs = true) (harmed : s.on SHP_PLAN_STAT_ARMED = false) :
    ∃ u : State, Tab.sorted u.regs = true ∧
      s.cmdCopy = (u.copyField SHP_POL1_BURST State.slots s.activeBank s.idleBank).planStart (.ok, 3, 0) := by
  unfold State.cmdCopy
  rw [if_neg (Bool.eq_false_iff.mp harmed)]
  extract_lets a i s0 s1 s2 s3 s4
  have hs0 : Tab.sorted s0.regs = true := (congrArg Tab.sorted (s.keepShapers_regs _)).trans hs
  have hs3 : Tab.sorted s3.regs = true :=
    State.sorted_copyFields (State.sorted_copyFields (State.sorted_copyFields hs0 _ _ a i) _ _ a i) _ _ a i
  have hs4 : s4 = (((s3.copyField SHP_POL0_PEN State.slots a i).copyField SHP_POL0_HOLD State.slots a i).copyField
      SHP_POL0_RATE State.slots a i).copyField SHP_POL1_BURST State.slots a i := by
    simp only [s4, State.each_cons, State.each_nil]
  refine ⟨_, ?_, congrArg (State.planStart · _) hs4⟩
  exact State.sorted_copyField (State.sorted_copyField (State.sorted_copyField hs3 _ _ _ _) _ _ _ _) _ _ _ _

/-- After a copy the burst of every policer of the idle bank lies within its width, whatever the active bank held. -/
theorem State.rd_cmdCopy_burst_lt {s : State} (hs : Tab.sorted s.regs = true) (harmed : s.on SHP_PLAN_STAT_ARMED = false) {n : Nat}
    (hn : n ∈ State.slots) : s.cmdCopy.rd SHP_POL1_BURST n s.idleBank < 2 ^ SHP_POL1_BURST.width := by
  obtain ⟨u, hu, hcopy⟩ := State.cmdCopy_of_unarmed hs harmed
  have hbusy : SHP_PLAN_STAT_BUSY.key 0 0 ≠ SHP_POL1_BURST.key n s.idleBank := by
    simp only [Field.key, Field.addr, SHP_PLAN_STAT_BUSY, SHP_POL1_BURST]
    omega
  rw [hcopy, State.rd_planStart_ne hbusy]
  exact State.rd_copyField_lt hu (by decide) slots_nodup hn _ _

/-- Bank 0 active, with the code 2^21 stored in the burst of policer 1, a field of 21 bits. -/
def wideBurstState : State := { State.reset with regs := [(SHP_POL1_BURST.key 1 0, 2 ^ 21)] }

/-- Refutes O19: its clause on PLAN_COPY takes any state whose register table is in its canonical form, so also one that stores in the burst of a policer a code wider than that field. The copy holds the low bits of the code, where the clause has the code itself. -/
theorem not_planCommands : ¬ Obligations.PlanCommands := by
  intro h
  obtain ⟨-, -, -, -, -, -, -, -, -, hcopy, -⟩ := h
  have hsorted : Tab.sorted wideBurstState.regs = true := by decide
  have harmed : wideBurstState.on SHP_PLAN_STAT_ARMED = false := by decide
  have hbusy : wideBurstState.on SHP_PLAN_STAT_BUSY = false := by decide
  have hslot : 1 ∈ State.slots := by decide
  obtain ⟨t, hnext, -, -, -, -, hpolicers⟩ := hcopy wideBurstState hbusy harmed hsorted (by decide)
  have hrun : wideBurstState.planCommand State.cmdCopy = wideBurstState.cmdCopy := if_neg (Bool.eq_false_iff.mp hbusy)
  have ht : wideBurstState.planCommand State.cmdCopy = t := Host.Outcome.next.inj hnext
  obtain ⟨-, hburst⟩ := hpolicers 1 hslot
  rw [← ht, hrun] at hburst
  have hwide : wideBurstState.rd SHP_POL1_BURST 1 wideBurstState.activeBank = 2 ^ SHP_POL1_BURST.width := by decide
  exact absurd (State.rd_cmdCopy_burst_lt hsorted harmed hslot) (Nat.not_lt.mpr (Nat.le_of_eq (hburst.trans hwide).symm))

end Sys2Proof.Machine
end

section
/-! PROOFS. Scratchpad banks: one access in a cycle, and the rights of a bank (R259 to R263); before them, reads of registers and tables after a write. -/

namespace Sys2Proof.Machine

/-! What a table holds under a key written with another value than an unlisted key reads. -/

/-- A value that is listed reads back from any table, in canonical form or not. -/
theorem Tab.get_put_listed {α : Type} [DecidableEq α] {v d : α} (h : v ≠ d) (t : Tab α) (k : Nat) (d' : α) :
    Tab.get (Tab.put t k v d) k d' = v := by
  rw [Tab.put, if_neg h, Tab.get_ins_self]

/-- A code other than the reset value reads back from any register table. -/
theorem State.rd_wr_listed {F : Field} {v : Nat} (hF : F.resets = []) (hv : v % 2 ^ F.width ≠ F.reset) (s : State) (i j : Nat) :
    (s.wr F v i j).rd F i j = v % 2 ^ F.width := by
  have hreset : F.resetOf i = F.reset := by simp [Field.resetOf, hF]
  exact Tab.get_put_listed (hreset ▸ hv) _ _ _

/-- A flag that is set reads 1. -/
theorem State.on_wr_one {F : Field} (hF : F.IsCounter) (s : State) (i j : Nat) : (s.wr F 1 i j).on F i j = true := by
  rw [State.on, State.rd_wr_one_self hF]
  rfl

/-! Fields at different bits of their words. -/

/-- Every word of the field's array is aligned, and the field starts inside its word. -/
def Field.wordAligned (F : Field) : Bool := F.off % 4 == 0 && F.str % 4 == 0 && F.str2 % 4 == 0 && F.lo < 32

/-- Two fields start at different bits of their words. -/
def Field.otherBit (F G : Field) : Bool := F.wordAligned && G.wordAligned && F.lo != G.lo

theorem Field.key_mod_of_wordAligned {F : Field} (hF : F.wordAligned = true) (i j : Nat) : F.key i j % 32 = F.lo := by
  simp only [Field.wordAligned, Bool.and_eq_true, beq_iff_eq, decide_eq_true_eq] at hF
  obtain ⟨⟨⟨hoff, hstr⟩, hstr2⟩, hlo⟩ := hF
  have hi : F.str * i % 4 = 0 := by rw [Nat.mul_mod, hstr, Nat.zero_mul]
  have hj : F.str2 * j % 4 = 0 := by rw [Nat.mul_mod, hstr2, Nat.zero_mul]
  simp only [Field.key, Field.addr]
  omega

theorem Field.key_ne_of_otherBit {F G : Field} (h : F.otherBit G = true) (i j k l : Nat) : F.key i j ≠ G.key k l := by
  simp only [Field.otherBit, Bool.and_eq_true, bne_iff_ne] at h
  obtain ⟨⟨hF, hG⟩, hlo⟩ := h
  intro hkey
  have hmod := congrArg (· % 32) hkey
  simp only [Field.key_mod_of_wordAligned hF, Field.key_mod_of_wordAligned hG] at hmod
  exact hlo hmod

/-- A write of one field leaves every field at another bit of its word, whichever words the two are in. -/
theorem State.rd_wr_otherBit {F G : Field} (h : F.otherBit G = true) (s : State) (v i j k l : Nat) :
    (s.wr F v i j).rd G k l = s.rd G k l := State.rd_wr_ne (Field.key_ne_of_otherBit h i j k l) v

theorem State.on_wr_otherBit {F G : Field} (h : F.otherBit G = true) (s : State) (v i j k l : Nat) :
    (s.wr F v i j).on G k l = s.on G k l := State.on_wr_ne (Field.key_ne_of_otherBit h i j k l) v

/-! One access alone in its cycle (R261). -/

/-- The round robin meets each master exactly once, wherever it starts. -/
theorem roundRobin_single : ∀ r m : Fin 22, (List.range 22).flatMap (fun k => if m.val == (r.val + 1 + k) % 22 then [()] else []) = [()] := by
  decide +kernel

theorem State.padOrder_single (r : Nat) (a : PadAccess) : State.padOrder r [a] = [a] := by
  have hturn := congrArg (List.map (fun _ => a)) (roundRobin_single ⟨r % 22, Nat.mod_lt _ (by omega)⟩ a.master)
  rw [List.map_flatMap] at hturn
  refine Eq.trans ?_ hturn
  unfold State.padOrder
  congr 1
  funext k
  have hmod : (r % 22 + 1 + k) % 22 = (r + 1 + k) % 22 := by omega
  simp only [List.filter_cons, List.filter_nil, hmod]
  cases a.master.val == (r + 1 + k) % 22 <;> rfl

/-- The master granted last in bank `b` replaced. -/
def State.withTurn (s : State) (b m : Nat) : State := { s with bnk := { s.bnk with rr := Tab.put s.bnk.rr b m 21 } }

@[simp] theorem State.withTurn_regs (s : State) (b m : Nat) : (s.withTurn b m).regs = s.regs := rfl

@[simp] theorem State.withTurn_read (s : State) (b m : Nat) : (s.withTurn b m).bnk.read = s.bnk.read := rfl

@[simp] theorem State.withTurn_pad (s : State) (b m : Nat) : (s.withTurn b m).pad = s.pad := rfl

/-- An allowed access alone in its cycle is granted, and the round robin stands at its master. -/
theorem State.padCycle_of_allowed {s : State} {b : Nat} {a : PadAccess} (h : s.padAllowed b a = true) :
    s.padCycle b [a] = (s.withTurn b a.master).padGrant b a := by
  simp only [State.padCycle, List.filter_cons, List.filter_nil, h, Bool.not_true, Bool.false_eq_true, if_false, if_true, State.padOrder_single]
  rfl

/-- An access that is not allowed is denied, and the round robin stands where it stood. -/
theorem State.padCycle_of_denied {s : State} {b : Nat} {a : PadAccess} (h : s.padAllowed b a = false) :
    s.padCycle b [a] = (s.padDeny a).withTurn b (Tab.get s.bnk.rr b 21) := by
  have hnone : State.padOrder (Tab.get s.bnk.rr b 21) [] = [] := by simp [State.padOrder]
  simp only [State.padCycle, List.filter_cons, List.filter_nil, h, Bool.not_false, Bool.false_eq_true, if_false, if_true, hnone]
  rfl

/-! Bytes written in the scratchpad. -/

theorem State.get_pad_setPadByte (s : State) (a x : Nat) (v : Byte) :
    Tab.get (s.setPadByte a v).pad x none = if x = a then some v else Tab.get s.pad x none := by
  show Tab.get (Tab.put s.pad a (some v) none) x none = _
  split
  · next h => rw [h, Tab.get_put_listed (Option.some_ne_none v)]
  · next h => rw [Tab.get_put_ne (Ne.symm h)]

/-- The first `n` enabled bytes of a word, written one after the other from address `a` on. -/
def State.padBytesWritten (s : State) (a n : Nat) (be : Byte) (v : Nat) : State :=
  s.each (List.range n) (fun s k =>
    if be.toNat.testBit k then s.setPadByte (a + k) (BitVec.ofNat 8 (v / 256 ^ k)) else s)

theorem State.padBytesWritten_succ (s : State) (a n : Nat) (be : Byte) (v : Nat) : s.padBytesWritten a (n + 1) be v =
    if be.toNat.testBit n then (s.padBytesWritten a n be v).setPadByte (a + n) (BitVec.ofNat 8 (v / 256 ^ n))
    else s.padBytesWritten a n be v := by
  simp only [State.padBytesWritten, State.each, List.range_succ, List.foldl_append, List.foldl_cons, List.foldl_nil]

/-- Each enabled byte of the word takes its byte of the data, and no other address changes. -/
theorem State.get_padBytesWritten (s : State) (a n : Nat) (be : Byte) (v x : Nat) :
    Tab.get (s.padBytesWritten a n be v).pad x none =
      if a ≤ x ∧ x < a + n ∧ be.toNat.testBit (x - a) = true then some (BitVec.ofNat 8 (v / 256 ^ (x - a)))
      else Tab.get s.pad x none := by
  induction n with
  | zero =>
    rw [if_neg (by omega)]
    rfl
  | succ n ih =>
    rw [State.padBytesWritten_succ]
    by_cases hx : x = a + n
    · subst hx
      have hin : a ≤ a + n ∧ a + n < a + (n + 1) := by omega
      have hold : Tab.get (s.padBytesWritten a n be v).pad (a + n) none = Tab.get s.pad (a + n) none := by
        rw [ih, if_neg (by omega)]
      simp only [hin, true_and, Nat.add_sub_cancel_left]
      split
      · rw [State.get_pad_setPadByte, if_pos rfl]
      · exact hold
    · have hlast : x < a + (n + 1) ↔ x < a + n := by omega
      simp only [hlast, ← ih]
      split
      · rw [State.get_pad_setPadByte, if_neg hx]
      · rfl

theorem State.padWrite_eq (s : State) (b : Nat) (a : PadAccess) :
    s.padWrite b a = s.padBytesWritten (State.padAddr b a.word) 8 a.be a.data.toNat := rfl

/-- A write of the scratchpad changes the scratchpad and nothing else. -/
theorem State.padBytesWritten_frame (s : State) (a n : Nat) (be : Byte) (v : Nat) : ∃ pad, s.padBytesWritten a n be v = { s with pad := pad } := by
  refine State.each_keeps (P := fun u => ∃ pad, u = { s with pad := pad }) (fun u k _ hu => ?_) ⟨s.pad, rfl⟩
  obtain ⟨pad, rfl⟩ := hu
  split <;> exact ⟨_, rfl⟩

/-- The word read last is the master's read result. -/
theorem State.read_setRead {s : State} (h : Tab.sorted s.bnk.read = true) (m v : Nat) (bad : Bool) :
    Tab.get (s.setRead m v bad).bnk.read m 0 = v := Tab.get_put_self m v 0 h

/-- A granted read of a word without an ECC error changes the master's read result and its error indication, and nothing else. -/
theorem State.padGrant_of_read {s : State} {b : Nat} {a : PadAccess} (hread : a.write = false) (hecc : a.ecc = 0) :
    s.padGrant b a = s.setRead a.master (ofLe (s.padBytes (State.padAddr b a.word) 8)) false := by
  simp [State.padGrant, State.padRead, hread, hecc]

theorem State.padDeny_regs (s : State) (a : PadAccess) :
    (s.padDeny a).regs = ((s.wr BNK_MSTAT_DENY 1 a.master).sat BNK_MSTAT_DENYCNT a.master).regs := by
  unfold State.padDeny
  split <;> rfl

theorem State.padDeny_pad (s : State) (a : PadAccess) : (s.padDeny a).pad = s.pad := by
  unfold State.padDeny
  split <;> rfl

theorem State.on_padDeny (s : State) (a : PadAccess) : (s.padDeny a).on BNK_MSTAT_DENY a.master = true := by
  rw [State.on_of_regs (s.padDeny_regs a), State.sat, State.satBy, State.on_wr_otherBit rfl]
  exact State.on_wr_one ⟨by decide, rfl, rfl⟩ s _ _

/-! The rights of a bank (R260). -/

/-- The rights that a word of BNK_OWNb names wait, with PEND 1. -/
def State.ownPending (s : State) (b w : Nat) : State :=
  { s.wr BNK_OWN_PEND 1 b with bnk := { (s.wr BNK_OWN_PEND 1 b).bnk with
    next := Tab.put (s.wr BNK_OWN_PEND 1 b).bnk.next b (some (bitsOf w 28 24, bitsOf w 23 0)) none } }

/-- The owner of a bank, or master 16, hands it over while no other hand-over waits. -/
theorem State.ownWrite_of_ok {s : State} {b m w : Nat} (hm : m = 16 ∨ m = s.rd BNK_OWN_OWNER b) (hpend : s.on BNK_OWN_PEND b = false)
    (howner : bitsOf w 28 24 ≤ 21) (hshare : bitsOf w 23 0 < 2 ^ 22) : s.ownWrite b m w = s.ownPending b w := by
  have hbar : (m ≠ 16 && m ≠ s.rd BNK_OWN_OWNER b) = false := by rcases hm with h | h <;> simp [h]
  have howner' : decide (bitsOf w 28 24 > 21) = false := decide_eq_false (by omega)
  have hshare' : decide (bitsOf w 23 0 ≥ 2 ^ 22) = false := decide_eq_false (by omega)
  simp only [State.ownWrite, hbar, hpend, howner', hshare', Bool.or_self, Bool.false_eq_true, if_false]
  rfl

theorem State.ownWrite_of_refused {s : State} {b m w : Nat}
    (h : m ≠ 16 ∧ m ≠ s.rd BNK_OWN_OWNER b ∨ s.on BNK_OWN_PEND b = true ∨ 21 < bitsOf w 28 24) :
    s.ownWrite b m w = s.wr BNK_STAT_ADMREJ 1 := by
  rw [State.ownWrite, if_pos]
  rcases h with ⟨h16, hown⟩ | h | h <;> simp [*]

theorem State.ownDone_of_waiting {s : State} {b owner share : Nat} (h : Tab.get s.bnk.next b none = some (owner, share)) :
    s.ownDone b = { (((s.wr BNK_OWN_OWNER owner b).wr BNK_OWN_SHARE share b).wr BNK_OWN_PEND 0 b) with
      bnk := { s.bnk with next := Tab.put s.bnk.next b none none } } := by
  simp only [State.ownDone, h]
  rfl

/-- Settles O25: an access alone in its cycle is granted or denied, and a write of a bank's rights waits or is refused. -/
theorem scratchpadBanks : Obligations.ScratchpadBanks := by
  refine ⟨fun b a s x hwrite hallow _ => ?_, fun b a s hread hecc hallow hsorted => ?_, fun b a s hdeny hsorted => ?_,
    fun b m w s hm hpend howner hshare => ?_, fun b m w s h => ?_, fun b m w v s hpend howner hshare => ?_,
    fun b owner share s h => congrArg _ (State.ownDone_of_waiting h)⟩
  · have hgrant : (s.withTurn b a.master).padGrant b a =
        (s.withTurn b a.master).padBytesWritten (State.padAddr b a.word) 8 a.be a.data.toNat := if_pos hwrite
    obtain ⟨pad, hpad⟩ := (s.withTurn b a.master).padBytesWritten_frame (State.padAddr b a.word) 8 a.be a.data.toNat
    refine ⟨_, congrArg Host.Outcome.next ((State.padCycle_of_allowed hallow).trans hgrant), State.get_padBytesWritten _ _ _ _ _ x, ?_, ?_⟩ <;>
      rw [hpad] <;> rfl
  · refine ⟨_, congrArg Host.Outcome.next ((State.padCycle_of_allowed hallow).trans (State.padGrant_of_read hread hecc)), ?_, rfl, rfl⟩
    exact State.read_setRead (s := s.withTurn b a.master) hsorted _ _ _
  · refine ⟨_, congrArg Host.Outcome.next (State.padCycle_of_denied hdeny), ?_, s.padDeny_pad a, s.padDeny_regs a, fun hread => ?_⟩
    · rw [State.on_of_regs (State.withTurn_regs _ _ _), State.on_padDeny]
    · have hdenied : s.padDeny a = ((s.wr BNK_MSTAT_DENY 1 a.master).sat BNK_MSTAT_DENYCNT a.master).setRead a.master 0 false := by
        simp [State.padDeny, hread]
      rw [State.withTurn_read, hdenied]
      exact State.read_setRead (s := (s.wr BNK_MSTAT_DENY 1 a.master).sat BNK_MSTAT_DENYCNT a.master) hsorted _ _ _
  · have hm' : m.val = 16 ∨ m.val = s.rd BNK_OWN_OWNER b := hm.imp_left (congrArg Fin.val)
    exact congrArg _ (State.ownWrite_of_ok hm' hpend howner hshare)
  · have h' := h.imp_left (fun ⟨h16, hown⟩ => And.intro (fun e : m.val = 16 => h16 (Fin.ext e)) hown)
    exact congrArg _ (State.ownWrite_of_refused h')
  · have htaken : s.ownWrite b 16 v.toNat = s.ownPending b v.toNat := State.ownWrite_of_ok (.inl rfl) hpend howner hshare
    refine ⟨_, rfl, ?_, ?_, State.on_wr_one (F := BNK_STAT_ADMREJ) ⟨by decide, rfl, rfl⟩ _ _ _⟩
    · rw [State.on_wr_otherBit rfl, htaken]
      exact State.on_wr_one (F := BNK_OWN_PEND) ⟨by decide, rfl, rfl⟩ s _ _
    · rw [State.wr_bnk, htaken]
      exact Tab.get_put_listed (Option.some_ne_none _) s.bnk.next b none

end Sys2Proof.Machine
end

section
/-! PROOFS. What an interrupt, a fault and the halts of the other blocks leave of one engine (R247, R250, R366, R500, R509, R511). -/

namespace Sys2Proof.Machine

/-- Stopping one timer leaves every other alone. -/
theorem State.deadline_disarm_ne (s : State) {k m : Timer} (h : k ≠ m) : (s.disarm k).deadline m = s.deadline m := by
  have hsame : (fun a : Timer × Nat => decide ((a.1 != k) = true ∧ (a.1 == m) = true)) = fun a => a.1 == m := by
    funext a
    by_cases hm : a.1 = m
    · simp [hm, Ne.symm h]
    · simp [hm]
  simp only [State.disarm, State.deadline, List.find?_filter]
  exact congrArg (fun p => Option.map Prod.snd (List.find? p s.timers)) hsame

/-! Interrupts (R364 to R367). -/

/-- The fields that an interrupt writes. -/
def irqFields : List Field := [RNG_CNT_COUNT, RNG_STAT_EVOVF, PCX_MSIX_PBA_PENDING, RNG_EVIDX_WR, RNG_MSRC_BITS]

/-- `P` is kept by every change of the state that an interrupt is made of. -/
structure IrqKeeps (P : State → Prop) : Prop where
  wr : ∀ u F v i, F ∈ irqFields → P u → P (u.wr F v i)
  rng : ∀ u x, P u → P { u with rng := x }
  host : ∀ u x, P u → P { u with host := x }
  sram : ∀ u x, P u → P { u with sram := x }
  holdoff : ∀ u v t, P u → P (u.armAt (.holdoff v) t)

section
variable {P : State → Prop} {s : State} (hP : IrqKeeps P) (h : P s)
include hP h

theorem State.eventLost_invariant : P s.eventLost :=
  hP.rng _ _ (hP.wr _ _ _ _ (by decide) (hP.wr _ _ _ _ (by decide) h))

theorem State.sendMsix_invariant (v : Nat) : P (s.sendMsix v) := by
  unfold State.sendMsix
  split
  · exact hP.rng _ _ h
  · split
    · exact hP.wr _ _ _ _ (by decide) h
    · exact hP.holdoff _ _ _ (hP.rng _ _ h)

theorem State.writeSide_invariant (mgmt : Bool) (a : Nat) (bs : List Byte) : P (s.writeSide mgmt a bs) := by
  unfold State.writeSide
  split
  · exact hP.sram _ _ h
  · exact hP.host _ _ h

theorem State.postEvent_invariant (source index data vec : Nat) : P (s.postEvent source index data vec) := by
  have hwritten : ∀ a bs rng, P (({ s.writeSide s.embedded a bs with rng := rng } : State).wrap RNG_EVIDX_WR) :=
    fun a bs rng => hP.wr _ _ _ _ (by decide) (hP.rng _ _ (State.writeSide_invariant hP h _ a bs))
  unfold State.postEvent
  split
  · exact State.eventLost_invariant hP h
  · split
    · exact State.eventLost_invariant hP h
    · extract_lets a s1 s2 s3
      split
      · exact hP.rng _ _ (hwritten _ _ _)
      · exact State.sendMsix_invariant hP (hwritten _ _ _) vec

theorem State.irq_invariant (src index data : Nat) : P (s.irq src index data) := by
  unfold State.irq
  extract_lets s1
  have hmarked : P s1 := by
    unfold s1
    split
    · exact hP.wr _ _ _ _ (by decide) h
    · exact h
  split
  · exact State.postEvent_invariant hP hmarked _ _ _ _
  · exact hmarked

end

/-! What stays of an engine. -/

/-- The fields of an engine that only its own commands and its own halt write. -/
def engineFields : List Field := [ENG_CTRL_EN, ENG_STAT_STATE, ENG_STAT_CAUSE]

/-- From `o` to `s` engine `n` keeps EN, its state and its cause, the time of its restart stays, and no time passes. -/
structure EngineKept (n : Nat) (o s : State) : Prop where
  isEngine : n < 16
  fields : ∀ F ∈ engineFields, s.rd F n = o.rd F n
  restart : s.deadline (.engineHalt n) = o.deadline (.engineHalt n)
  time : s.tmu = o.tmu

/-- The field is none of `engineFields` in any word of its array: it starts at another bit, its words lie behind the engines' registers, or it is a single word before them. -/
def Field.sparesEngines (F : Field) : Bool :=
  engineFields.all F.otherBit || 0x1C2000 ≤ F.off || (F.str == 0 && F.str2 == 0 && F.off < 0x1C0000 && F.lo < 32)

theorem engineFields_key {G : Field} (hG : G ∈ engineFields) (n : Nat) :
    8 * 0x1C1000 + 0x800 * n ≤ G.key n 0 ∧ G.key n 0 < 8 * 0x1C1008 + 0x800 * n := by
  simp only [engineFields, List.mem_cons, List.not_mem_nil, or_false] at hG
  rcases hG with rfl | rfl | rfl <;> simp only [Field.key, Field.addr, ENG_CTRL_EN, ENG_STAT_STATE, ENG_STAT_CAUSE] <;> omega

theorem Field.key_ne_of_spares {F G : Field} (hF : F.sparesEngines = true) (hG : G ∈ engineFields) {n : Nat} (hn : n < 16) (i j : Nat) :
    F.key i j ≠ G.key n 0 := by
  obtain ⟨hlow, hhigh⟩ := engineFields_key hG n
  simp only [Field.sparesEngines, Bool.or_eq_true, Bool.and_eq_true, decide_eq_true_eq, beq_iff_eq, List.all_eq_true] at hF
  rcases hF with (hbit | hbehind) | ⟨⟨⟨hstr, hstr2⟩, hbefore⟩, hlo⟩
  · exact Field.key_ne_of_otherBit (hbit G hG) i j n 0
  · intro hkey
    rw [← hkey, Field.key, Field.addr] at hhigh
    have hi := Nat.zero_le (F.str * i)
    have hj := Nat.zero_le (F.str2 * j)
    omega
  · intro hkey
    rw [← hkey, Field.key, Field.addr, hstr, hstr2, Nat.zero_mul, Nat.zero_mul] at hlow
    omega

namespace EngineKept

variable {n : Nat} {o s : State}

theorem refl (hn : n < 16) (s : State) : EngineKept n s s := ⟨hn, fun _ _ => rfl, rfl, rfl⟩

/-- What leaves the registers, the timers and the time alone leaves the engine. -/
theorem upd (h : EngineKept n o s) {t : State} (hregs : t.regs = s.regs) (htimers : t.timers = s.timers) (htmu : t.tmu = s.tmu) :
    EngineKept n o t := by
  obtain ⟨hn, hfields, hrestart, htime⟩ := h
  refine ⟨hn, fun F hF => (State.rd_of_regs hregs F n 0).trans (hfields F hF), ?_, htmu.trans htime⟩
  rw [← hrestart, State.deadline, htimers, State.deadline]

/-- A write of a field that is none of the engine's leaves the engine. -/
theorem wrOther (h : EngineKept n o s) {F : Field} {i j : Nat} (hF : ∀ G ∈ engineFields, F.key i j ≠ G.key n 0) (v : Nat) :
    EngineKept n o (s.wr F v i j) := by
  obtain ⟨hn, hfields, hrestart, htime⟩ := h
  exact ⟨hn, fun G hG => (State.rd_wr_ne (hF G hG) v).trans (hfields G hG), hrestart, htime⟩

theorem wr (h : EngineKept n o s) {F : Field} (hF : F.sparesEngines = true) (v i j : Nat) : EngineKept n o (s.wr F v i j) :=
  h.wrOther (fun _ hG => Field.key_ne_of_spares hF hG h.isEngine i j) v

/-- A write below the engines' registers leaves the engine. -/
theorem wrBelow (h : EngineKept n o s) {F : Field} {i j : Nat} (hF : F.key i j < 8 * 0x1C1000) (v : Nat) : EngineKept n o (s.wr F v i j) := by
  refine h.wrOther (fun G hG hkey => ?_) v
  obtain ⟨hlow, -⟩ := engineFields_key hG n
  omega

theorem sat (h : EngineKept n o s) {F : Field} (hF : F.sparesEngines = true) (i j : Nat) : EngineKept n o (s.sat F i j) := h.wr hF _ i j

theorem wrap (h : EngineKept n o s) {F : Field} (hF : F.sparesEngines = true) (i j : Nat) : EngineKept n o (s.wrap F i j) := h.wr hF _ i j

theorem putBit (h : EngineKept n o s) {F : Field} (hF : F.sparesEngines = true) (b : Nat) (x : Bool) (i j : Nat) :
    EngineKept n o (s.putBit F b x i j) := h.wr hF _ i j

theorem free (h : EngineKept n o s) (w : Nat) : EngineKept n o (s.free w).2 := h.upd rfl rfl rfl

theorem armAt (h : EngineKept n o s) {k : Timer} (hk : k ≠ .engineHalt n) (t : Nat) : EngineKept n o (s.armAt k t) := by
  obtain ⟨hn, hfields, hrestart, htime⟩ := h
  exact ⟨hn, hfields, (s.deadline_armAt_ne hk t).trans hrestart, htime⟩

theorem disarm (h : EngineKept n o s) {k : Timer} (hk : k ≠ .engineHalt n) : EngineKept n o (s.disarm k) := by
  obtain ⟨hn, hfields, hrestart, htime⟩ := h
  exact ⟨hn, hfields, (s.deadline_disarm_ne hk).trans hrestart, htime⟩

theorem each {α : Type} {f : State → α → State} {l : List α} (hf : ∀ u, ∀ a ∈ l, EngineKept n o u → EngineKept n o (f u a))
    (h : EngineKept n o s) : EngineKept n o (s.each l f) := State.each_keeps hf h

theorem ite {c : Prop} [Decidable c] {t : State} (ht : c → EngineKept n o t) (hs : ¬ c → EngineKept n o s) :
    EngineKept n o (if c then t else s) := by
  split
  · exact ht ‹_›
  · exact hs ‹_›

theorem irqFields_spareEngines : ∀ F ∈ irqFields, F.sparesEngines = true := by decide

theorem irqKeeps (n : Nat) (o : State) : IrqKeeps (EngineKept n o) where
  wr _ _ _ _ hF h := h.wr (irqFields_spareEngines _ hF) _ _ _
  rng _ _ h := h.upd rfl rfl rfl
  host _ _ h := h.upd rfl rfl rfl
  sram _ _ h := h.upd rfl rfl rfl
  holdoff _ _ _ h := h.armAt (by simp) _

theorem irq (h : EngineKept n o s) (src index data : Nat) : EngineKept n o (s.irq src index data) :=
  State.irq_invariant (irqKeeps n o) h src index data

/-! The switch flushes its queues (R209). -/

theorem setInflight (h : EngineKept n o s) (x v : Nat) : EngineKept n o (s.setInflight x v) :=
  (h.wr (F := CTX6_INFLIGHT) rfl _ x 0).upd rfl rfl rfl

theorem dropPkt (h : EngineKept n o s) (k : Nat) : EngineKept n o (s.dropPkt k) := by
  have hcells : ∀ v a pkts, EngineKept n o (({ s with xsw := { s.xsw with pkts := pkts } } : State).wr XSW_IOCC_CELLS v a) :=
    fun v a pkts => (h.upd (t := { s with xsw := { s.xsw with pkts := pkts } }) rfl rfl rfl).wr rfl v a 0
  unfold State.dropPkt
  refine ite (fun _ => h) (fun _ => ite (fun _ => ite (fun _ => ?_) (fun _ => ?_)) (fun _ => h.upd rfl rfl rfl))
  · exact hcells _ _ _
  · exact (hcells _ _ _).setInflight _ _

theorem releaseCopy (h : EngineKept n o s) (c : Copy) : EngineKept n o (s.releaseCopy c) := by
  have hcells : ∀ v q w, EngineKept n o ((s.wr XSW_QOCC_CELLS v q).wr XSW_POOL_CELLS w) :=
    fun v q w => (h.wr (F := XSW_QOCC_CELLS) rfl v q 0).wr rfl w 0 0
  unfold State.releaseCopy
  split
  · exact hcells _ _ _
  · exact (hcells _ _ _).dropPkt _

theorem flushQueue (h : EngineKept n o s) (keep : Copy → Bool) (i q : Nat) : EngineKept n o (s.flushQueue keep i q) :=
  each (fun _ c _ hu => (hu.releaseCopy c).sat (F := XSW_CNT_COUNT) rfl i 0) (h.upd rfl rfl rfl)

theorem haltFlush (h : EngineKept n o s) : EngineKept n o s.haltFlush :=
  each (fun _ q _ hu => hu.flushQueue _ 4 q) (h.wr (F := XSW_STAT_HALTED) rfl 1 0 0)

/-! The bridge and the DMA channels stop (R385, R394, R397). -/

theorem brgHalt (h : EngineKept n o s) : EngineKept n o s.brgHalt := by
  have hdone : ∀ u id, EngineKept n o u → EngineKept n o (u.readDone id none) := fun u id hu =>
    (hu.disarm (k := .heldRead id) (by simp)).upd rfl rfl rfl
  unfold State.brgHalt
  extract_lets s1
  have hs1 : EngineKept n o s1 := each (fun _ e _ hu => each (fun u r _ hu => hdone u r.id hu) hu) h
  clear_value s1
  exact hs1.upd rfl rfl rfl

theorem setFetched (h : EngineKept n o s) (r : Nat) (l : List Desc) : EngineKept n o (s.setFetched r l) :=
  (h.wr (F := RNG_RSTAT_OUTST) rfl _ r 0).upd rfl rfl rfl

theorem ringEvent (h : EngineKept n o s) (r source data : Nat) : EngineKept n o (s.ringEvent r source data) := by
  unfold State.ringEvent
  split
  · exact h.putBit rfl _ _ _ _
  · exact State.postEvent_invariant (irqKeeps n o) h _ _ _ _

theorem writeBack (h : EngineKept n o s) (r : Nat) (d : Desc) (wb : List Byte) (status : Nat) : EngineKept n o (s.writeBack r d wb status) := by
  have hside : ∀ {u : State} mgmt a bs, EngineKept n o u → EngineKept n o (u.writeSide mgmt a bs) :=
    fun mgmt a bs hu => State.writeSide_invariant (irqKeeps n o) hu mgmt a bs
  have hmoved : ∀ {u : State}, EngineKept n o u → EngineKept n o (u.advanceCi r) :=
    fun hu => (hu.wr (F := RNG_RIDX_CI) rfl _ r 0).setFetched r _
  have hdone := fun a bs a' bs' l => hmoved ((hside (s.ringMgmt r) a' bs' (hside (s.ringMgmt r) a bs h)).setFetched r l)
  unfold State.writeBack
  extract_lets irq a s1 s2 s3
  split
  · exact (hdone _ _ _ _ _).ringEvent _ _ _
  · exact hdone _ _ _ _ _

theorem ringDone (h : EngineKept n o s) (r idx : Nat) (wb : List Byte) (status : Nat) : EngineKept n o (s.ringDone r idx wb status false) := by
  unfold State.ringDone
  split
  · exact h
  · split
    · exact h.upd rfl rfl rfl
    · exact h.writeBack _ _ _ _

theorem dmaAbort (h : EngineKept n o s) : ∀ x, EngineKept n o (s.dmaAbort x)
  | none => h
  | some (r, idx) => by
    simp only [State.dmaAbort]
    split
    · exact h
    · exact h.ringDone _ _ _ _

theorem dmaDisable (h : EngineKept n o s) {c : Nat} (hc : c < 32) : EngineKept n o (s.dmaDisable c) := by
  have hbelow : ∀ F ∈ [DMC_CTRL_EN, DMC_STAT_STATE, DMC_DONE_BYTES, DMC_FADDR_LO_ADDR, DMC_FADDR_HI_ADDR, DMS_SHCTRL_VALID,
      DMC_FINFO_DIR, DMC_FINFO_SIDE, DMC_FINFO_SPACE, DMC_FINFO_CAUSE], F.key c 0 < 8 * 0x1C1000 := by
    intro F hF
    have hfield : F.off ≤ 0x9104C ∧ F.str = 0x100 ∧ F.str2 = 0 ∧ F.lo < 32 := by
      revert F
      decide
    obtain ⟨hoff, hstr, hstr2, hlo⟩ := hfield
    simp only [Field.key, Field.addr, hstr, hstr2]
    omega
  have hfree : ∀ {u : State} {F : Field}, F.key c 0 < 8 * 0x1C1000 → EngineKept n o u → EngineKept n o (u.wrFree F c) :=
    fun hF hu => (hu.free _).wrBelow hF _
  have hopen : EngineKept n o ((s.dmaAbort (Tab.get s.dma.cur c none)).dmaAbort (Tab.get s.dma.next c none)) := (h.dmaAbort _).dmaAbort _
  have hstop := (hopen.wrBelow (hbelow DMC_CTRL_EN (by decide)) 0).wrBelow (hbelow DMC_STAT_STATE (by decide)) dmaOff
  have haddr := hfree (hbelow DMC_FADDR_HI_ADDR (by decide)) (hfree (hbelow DMC_FADDR_LO_ADDR (by decide))
    (hfree (hbelow DMC_DONE_BYTES (by decide)) hstop))
  have hinfo := hfree (hbelow DMC_FINFO_CAUSE (by decide)) (hfree (hbelow DMC_FINFO_SPACE (by decide))
    (hfree (hbelow DMC_FINFO_SIDE (by decide)) (hfree (hbelow DMC_FINFO_DIR (by decide))
      (haddr.wrBelow (hbelow DMS_SHCTRL_VALID (by decide)) 0))))
  exact ite (fun _ => h) (fun _ => hinfo.upd rfl rfl rfl)

theorem dmaHalt (h : EngineKept n o s) : EngineKept n o s.dmaHalt :=
  each (fun _ _ hc hu => hu.dmaDisable (List.mem_range.mp hc)) h

/-! The displays, the USB ports and the handshake of a power state (R292, R319, R490, R491). -/

theorem discardCommits (h : EngineKept n o s) : EngineKept n o s.discardCommits :=
  each (fun _ x _ hu => (each (fun _ l _ hu => (hu.wr (F := LY_STAT_PEND) rfl 0 x l).wr (F := LY_STAT_TPEND) rfl 0 x l) hu).wr
    (F := HD_COMMIT_BGPEND) rfl 0 x 0) (h.upd rfl rfl rfl)

theorem efuseOn_sparesEngines (k : Nat) : (State.efuseOn k).sparesEngines = true := by
  unfold State.efuseOn
  split <;> rfl

theorem portEmpty (h : EngineKept n o s) (k : Nat) : EngineKept n o (s.portEmpty k) :=
  ((((h.wr (F := USB_PORT_CONN) rfl 0 (k - 1) 0).wr (F := USB_PORT_ENA) rfl 0 (k - 1) 0).wr (F := USB_PORT_SUSP) rfl 0 (k - 1) 0).wr
    (F := USB_PORT_SPEED) rfl 3 (k - 1) 0).upd rfl rfl rfl

theorem portOff (h : EngineKept n o s) (k : Nat) : EngineKept n o (s.portOff k) := by
  have hfuse : EngineKept n o ((s.portEmpty k).efuse k false) := ((h.portEmpty k).wr (efuseOn_sparesEngines k) 0 0 0).upd rfl rfl rfl
  exact ((hfuse.wr (F := USB_PORT_PWR) rfl 0 (k - 1) 0).wr (F := USB_PORT_OC) rfl 0 (k - 1) 0).upd rfl rfl rfl

theorem farPortsOff (h : EngineKept n o s) : EngineKept n o s.farPortsOff :=
  each (fun _ k _ hu => ite (fun _ => hu.portOff k) (fun _ => hu)) h

theorem askAbort (h : EngineKept n o s) (c : State.PwrCode) : EngineKept n o (s.askAbort c) :=
  ite (fun _ => h) (fun _ => (((h.wr (F := PWR_STAT_BUSY) rfl 0 0 0).wr (F := PWR_STAT_CODE) rfl c.code 0 0).wr
    (F := PWR_STAT_REFEV) rfl 1 0 0).upd rfl rfl rfl)

/-! The engines (R247, R250). -/

theorem mbxEnd (h : EngineKept n o s) (k m : Nat) (c : MbxCode) : EngineKept n o (s.mbxEnd k m c) := by
  have hbusy : ∀ G ∈ engineFields, ENG_MBX_BUSY.key k m ≠ G.key n 0 := by
    intro G hG
    simp only [engineFields, List.mem_cons, List.not_mem_nil, or_false] at hG
    rcases hG with rfl | rfl | rfl <;>
      simp only [Field.key, Field.addr, ENG_MBX_BUSY, ENG_CTRL_EN, ENG_STAT_STATE, ENG_STAT_CAUSE] <;> omega
  have hended := (((h.disarm (k := .mailbox k m) (by simp)).wrOther hbusy 0).wr (F := ENG_MBX_DONE) rfl 1 k m).wr
    (F := ENG_MBX_CODE) rfl c.code k m
  exact ite (fun _ => hended.irq _ _ _) (fun _ => hended)

theorem mbxHalt (h : EngineKept n o s) (k : Nat) : EngineKept n o (s.mbxHalt k) :=
  each (fun _ m _ hu => ite (fun _ => hu.mbxEnd k m _) (fun _ => hu)) h

theorem moveEntries (h : EngineKept n o s) (k : Nat) (fr : List Nat) (goal : Nat) : EngineKept n o (s.moveEntries k fr goal) :=
  each (fun _ e _ hu => ite (fun _ => hu.wr (F := TEN_SVC0_STATE) rfl goal e 0) (fun _ => hu)) h

theorem loseServices (h : EngineKept n o s) (k : Nat) : EngineKept n o (s.loseServices k) := by
  have hdead : ∀ {u : State} e, EngineKept n o u → EngineKept n o (u.deadPort e) :=
    fun e hu => ite (fun _ => hu) (fun _ => hu.upd rfl rfl rfl)
  refine each (fun u e _ hu => ?_) h
  have hlost : EngineKept n o ((u.memLose e).loseEdges e) := hu.upd rfl rfl rfl
  exact (hdead e hlost).upd rfl rfl rfl

theorem loseEngine (h : EngineKept n o s) (k : Nat) : EngineKept n o (s.loseEngine k) := by
  refine loseServices ?_ k
  exact h.upd rfl rfl rfl

/-- What follows the entry of an engine's new state when it stops leaves every engine. -/
theorem stopEngine {k st : Nat} (h : EngineKept n o (((s.disarm (.engineStart k)).disarm (.engineHalt k)).wr ENG_STAT_STATE st k)) :
    EngineKept n o (s.stopEngine k st) := by
  have hmbx := h.mbxHalt k
  unfold State.stopEngine
  extract_lets s1 ten s2
  have hs2 : EngineKept n o s2 := upd (s := s1) hmbx rfl rfl rfl
  exact (hs2.moveEntries k _ svcHalted).loseEngine k

theorem stopEngine_ne (h : EngineKept n o s) {k : Nat} (hk : k ≠ n) (st : Nat) : EngineKept n o (s.stopEngine k st) := by
  have hstate : ∀ G ∈ engineFields, ENG_STAT_STATE.key k 0 ≠ G.key n 0 := by
    intro G hG
    simp only [engineFields, List.mem_cons, List.not_mem_nil, or_false] at hG
    rcases hG with rfl | rfl | rfl <;> simp only [Field.key, Field.addr, ENG_CTRL_EN, ENG_STAT_STATE, ENG_STAT_CAUSE] <;> omega
  exact stopEngine (((h.disarm (by simp)).disarm (by simpa using hk)).wrOther hstate st)

/-- The engines that are still in START or RUN halt; a halted one stays as it is. -/
theorem haltEngines (h : EngineKept n o s) (ho : o.rd ENG_STAT_STATE n = engHalted) : EngineKept n o s.haltEngines := by
  refine each (fun u k _ hu => ite (fun hruns => ?_) (fun _ => hu)) h
  have hk : k ≠ n := by
    rintro rfl
    have hstate : u.rd ENG_STAT_STATE k = engHalted := (hu.fields _ (by decide)).trans ho
    simp [hstate, engStart, engRun, engHalted] at hruns
  have hstop := hu.stopEngine_ne hk engHalted
  generalize u.stopEngine k engHalted = x at hstop ⊢
  exact hstop.upd rfl rfl rfl

/-! The fault collector (R500, R507, R509, R511). -/

theorem haltBlocks (h : EngineKept n o s) (ho : o.rd ENG_STAT_STATE n = engHalted) : EngineKept n o s.haltBlocks :=
  ((((h.haltFlush.brgHalt).haltEngines ho).discardCommits.dmaHalt).farPortsOff).askAbort _

theorem enterElytra (h : EngineKept n o s) (ho : o.rd ENG_STAT_STATE n = engHalted) (eslot : Nat) (sw self : Bool) :
    EngineKept n o (s.enterElytra eslot sw self) := by
  have hself : EngineKept n o (s.when self (fun s => s.wr FLT_STAT_SELF 1)) := ite (fun _ => h.wr (F := FLT_STAT_SELF) rfl 1 0 0) (fun _ => h)
  have hentered := (((h.wr (F := FLT_STAT_ELYTRA) rfl 1 0 0).wr (F := FLT_STAT_ESLOT) rfl eslot 0 0).wr
    (F := FLT_STAT_SWENTER) rfl (bit sw) 0 0).wr (F := FLT_STAT_SELF) rfl (bit self) 0 0
  exact ite (fun _ => h) (fun _ => ite (fun _ => hself) (fun _ => haltBlocks (hentered.upd rfl rfl rfl) ho))

theorem fltLog (h : EngineKept n o s) (slot cls detail : Nat) (forced esc : Bool) : EngineKept n o (s.fltLog slot cls detail forced esc) := by
  have hword0 := fun e => ((((h.wr (F := FLT_LOG0_SLOT) rfl slot e 0).wr (F := FLT_LOG0_CLASS) rfl cls e 0).wr
    (F := FLT_LOG0_FORCED) rfl (bit forced) e 0).wr (F := FLT_LOG0_ESC) rfl (bit esc) e 0).wr (F := FLT_LOG0_DETAIL) rfl detail e 0
  have htime := fun e => (((hword0 e).wr (F := FLT_LOG1_NS) rfl s.tmu.tod.ns e 0).wr (F := FLT_LOG2_SEC_LO) rfl s.tmu.tod.sec e 0).wr
    (F := FLT_LOG3_SEC_HI) rfl (s.tmu.tod.sec / 2 ^ 32) e 0
  exact ((htime _).wr (F := FLT_LOG3_UNTRACED) rfl _ _ 0).wrap (F := FLT_LOGWR_WR) rfl 0 0

theorem fltFirst (h : EngineKept n o s) (slot cls : Nat) : EngineKept n o (s.fltFirst slot cls) :=
  ite (fun _ => h) (fun _ => ((((h.wr (F := FLT_FIRST_VALID) rfl 1 0 0).wr (F := FLT_FIRST_SLOT) rfl slot 0 0).wr
    (F := FLT_FIRST_CLASS) rfl cls 0 0).wr (F := FLT_FIRST_SECLO_SEC_LO) rfl s.tmu.tod.sec 0 0).wr (F := FLT_FIRST_NS_NS) rfl s.tmu.tod.ns 0 0)

theorem escArm (h : EngineKept n o s) (slot : Nat) : EngineKept n o (s.escArm slot) :=
  ite (fun _ => h.disarm (by simp)) (fun _ => h.armAt (by simp) _)

theorem occur (h : EngineKept n o s) (ho : o.rd ENG_STAT_STATE n = engHalted) (slot detail : Nat) (forced : Bool) :
    EngineKept n o (s.occur slot detail forced) := by
  unfold State.occur
  refine ite (fun _ => h) (fun _ => ?_)
  extract_lets was cls s1 flt s2 s3 s4 s5 s6
  have hs1 : EngineKept n o s1 := h.putBit (F := FLT_STATUS_BITS) rfl _ _ _ 0
  have hs2 : EngineKept n o s2 := hs1.upd rfl rfl rfl
  have hs3 : EngineKept n o s3 := (hs2.wr (F := FLT_DET_DETAIL) rfl detail slot 0).sat (F := FLT_DET_COUNT) rfl slot 0
  have hs4 : EngineKept n o s4 := ((hs3.fltLog slot cls detail forced false).sat (F := FLT_CNT_COUNT) rfl cls 0).fltFirst slot cls
  have hs5 : EngineKept n o s5 := ite (fun _ => hs4.irq _ _ _) (fun _ => hs4)
  have hs6 : EngineKept n o s6 := ite (fun _ => hs5) (fun _ => hs5.escArm slot)
  exact ite (fun _ => hs6.enterElytra ho slot false false) (fun _ => hs6)

theorem causeOn (h : EngineKept n o s) (ho : o.rd ENG_STAT_STATE n = engHalted) (slot detail : Nat) : EngineKept n o (s.causeOn slot detail) := by
  refine ite (fun _ => h) (fun _ => occur ?_ ho slot detail false)
  exact h.upd rfl rfl rfl

end EngineKept

end Sys2Proof.Machine
end

section
/-! PROOFS. Engines: enabling, readiness, halts, restarts and image slots (R246 to R250, R420). -/

namespace Sys2Proof.Machine

/-! The start of an engine (R246, R247). -/

/-- An engine whose image is verified is in START, remembers the image slot and has 10 ms to be ready. -/
theorem State.startEngine_of_verified {s : State} {n : Nat} (h : s.on TEN_IMG_INFO_VERIFIED (s.rd ENG_CTRL_IMAGE n) = true) :
    (s.startEngine n).regs = (s.wr ENG_STAT_STATE engStart n).regs ∧
      (s.startEngine n).ten.img = Tab.put s.ten.img n (s.rd ENG_CTRL_IMAGE n) 0 ∧
      (s.startEngine n).deadline (.engineStart n) = some (s.tmu.elapsed + 10000000 * 2 ^ 32) := by
  rw [State.startEngine, if_pos h]
  exact ⟨rfl, rfl, State.deadline_armAt _ _ _⟩

theorem State.startEngine_of_unverified {s : State} {n : Nat} (h : s.on TEN_IMG_INFO_VERIFIED (s.rd ENG_CTRL_IMAGE n) = false) :
    s.startEngine n = ({ s with ten := { s.ten with paused := Tab.put s.ten.paused n false false } } : State).wr
      ENG_STAT_CAUSE EngCause.noImg.code n := if_neg (Bool.eq_false_iff.mp h)

/-- EN of an engine set to 1, its count of restarts 0. -/
def State.enabled (s : State) (n : Nat) : State := (s.wr ENG_CTRL_EN 1 n).wr ENG_STAT_RESTARTS 0 n

theorem State.rd_enabled_ne {F : Field} (hen : ENG_CTRL_EN.otherBit F = true) (hrestarts : ENG_STAT_RESTARTS.otherBit F = true)
    (s : State) (n i j : Nat) : (s.enabled n).rd F i j = s.rd F i j := by
  rw [State.enabled, State.rd_wr_otherBit hrestarts, State.rd_wr_otherBit hen]

theorem State.on_enabled (s : State) (n : Nat) : (s.enabled n).on ENG_CTRL_EN n = true := by
  rw [State.enabled, State.on_wr_otherBit rfl, State.on_wr_one ⟨by decide, rfl, rfl⟩]

/-- EN is no bit of an image slot's words, whatever slot is named. -/
theorem State.on_verified_enabled (s : State) (n k : Nat) : (s.enabled n).on TEN_IMG_INFO_VERIFIED k = s.on TEN_IMG_INFO_VERIFIED k := by
  have hkey : ENG_CTRL_EN.key n 0 ≠ TEN_IMG_INFO_VERIFIED.key k 0 := by
    simp only [Field.key, Field.addr, ENG_CTRL_EN, TEN_IMG_INFO_VERIFIED]
    omega
  rw [State.enabled, State.on_wr_otherBit rfl, State.on_wr_ne hkey]

/-- ENGINE_ENABLE of an engine with EN 0, while the hub is not halted: the engine is enabled, and starts from its image. -/
theorem execEngineEnable_of_off {n : Fin 16} {s : State} (hen : s.on ENG_CTRL_EN n = false) (hrun : s.restricted = false) :
    exec (.engineEnable n) s = .next ((s.enabled n).startEngine n) := by
  have hrun' : (s.enabled n).restricted = false := by
    rw [State.restricted, State.on, State.rd_enabled_ne rfl rfl]
    exact hrun
  show execEngineEnable n s = _
  rw [execEngineEnable, hen, if_neg Bool.false_ne_true]
  exact congrArg Host.Outcome.next (if_neg (Bool.eq_false_iff.mp hrun'))

/-! An engine that is ready (R249, R252, R259). -/

/-- A word of the parameter bank that the engine may not read is recorded, and nothing else changes. -/
theorem State.blockWord_cases (s : State) (e k : Nat) : (s.blockWord e k).1 = s ∨
    (s.blockWord e k).1 = (s.wr BNK_MSTAT_DENY 1 (s.svcEngine e)).sat BNK_MSTAT_DENYCNT (s.svcEngine e) := by
  unfold State.blockWord
  extract_lets n b a
  split
  · exact .inl rfl
  · split
    · exact .inl rfl
    · exact .inr rfl

/-- What a recorded denial keeps, the read of a parameter block keeps, apart from the block read. -/
theorem State.readBlock_frame {P : State → Prop} {s : State} (e : Nat)
    (hdeny : ∀ u m, P u → P ((u.wr BNK_MSTAT_DENY 1 m).sat BNK_MSTAT_DENYCNT m))
    (hblock : ∀ u block, P u → P { u with ten := { u.ten with block := block } }) (h : P s) : P (s.readBlock e) := by
  have hword : ∀ u k, P u → P (u.blockWord e k).1 := by
    intro u k hu
    rcases u.blockWord_cases e k with hcase | hcase <;> rw [hcase]
    · exact hu
    · exact hdeny u _ hu
  exact hblock _ _ (hword _ 1 (hword s 0 h))

theorem State.sorted_readBlock {s : State} (h : Tab.sorted s.regs = true) (e : Nat) : Tab.sorted (s.readBlock e).regs = true :=
  State.readBlock_frame (P := fun u => Tab.sorted u.regs = true) e
    (fun _ _ hu => State.sorted_wr (State.sorted_wr hu _ _ _ _) _ _ _ _) (fun _ _ hu => hu) h

/-- The read of a parameter block writes no register below the masters' status words. -/
theorem State.rd_readBlock {F : Field} {i j : Nat} (hF : F.key i j < 8 * 0x1D0300) (s : State) (e : Nat) :
    (s.readBlock e).rd F i j = s.rd F i j := by
  have hbehind : ∀ {G : Field}, G.off = 0x1D0300 → ∀ m, G.key m 0 ≠ F.key i j := by
    intro G hG m hkey
    rw [← hkey, Field.key, Field.addr, hG] at hF
    omega
  refine State.readBlock_frame (P := fun u => u.rd F i j = s.rd F i j) e (fun u m hu => ?_) (fun _ _ hu => hu) rfl
  rw [State.sat, State.satBy, State.rd_wr_ne (hbehind rfl m), State.rd_wr_ne (hbehind rfl m), hu]

theorem State.readBlock_ten (s : State) (e : Nat) : ∃ block, (s.readBlock e).ten = { s.ten with block := block } := by
  refine State.readBlock_frame (P := fun u => ∃ block, u.ten = { s.ten with block := block }) e (fun _ _ hu => hu) (fun u block hu => ?_)
    ⟨s.ten.block, rfl⟩
  obtain ⟨old, hold⟩ := hu
  exact ⟨block, by rw [hold]⟩

theorem State.svc_key_lt {F : Field} (hF : F ∈ reg_TEN_SVC0.flds) {e : Nat} (he : e < 128) : F.key e 0 < 8 * 0x1D0300 := by
  have hfield : F.off = 0x1C4000 ∧ F.str = 0x10 ∧ F.str2 = 0 ∧ F.lo < 32 := by
    revert F
    decide
  obtain ⟨hoff, hstr, hstr2, hlo⟩ := hfield
  simp only [Field.key, Field.addr, hoff, hstr, hstr2]
  omega

/-- A halted entry that resumes is ACTIVE where its parameters had been accepted, and BOUND otherwise. -/
theorem State.resumeEntry_cases (s : State) (e : Nat) :
    (Tab.get s.ten.taken e false = true ∧ s.resumeEntry e = (s.readBlock e).wr TEN_SVC0_STATE svcActive e) ∨
      (Tab.get s.ten.taken e false = false ∧ s.resumeEntry e = s.wr TEN_SVC0_STATE svcBound e) := by
  unfold State.resumeEntry
  cases h : Tab.get s.ten.taken e false
  · exact .inr ⟨rfl, rfl⟩
  · exact .inl ⟨rfl, rfl⟩

/-- A resumed entry writes its state, and no other register below the masters' status words. -/
theorem State.rd_resumeEntry_ne {F : Field} {e i j : Nat} (hkey : TEN_SVC0_STATE.key e 0 ≠ F.key i j) (hF : F.key i j < 8 * 0x1D0300)
    (s : State) : (s.resumeEntry e).rd F i j = s.rd F i j := by
  rcases s.resumeEntry_cases e with ⟨-, heq⟩ | ⟨-, heq⟩ <;> rw [heq, State.rd_wr_ne hkey]
  exact State.rd_readBlock hF s e

theorem State.rd_resumeEntry_self (s : State) (e : Nat) :
    (s.resumeEntry e).rd TEN_SVC0_STATE e = if Tab.get s.ten.taken e false then svcActive else svcBound := by
  rcases s.resumeEntry_cases e with ⟨htaken, heq⟩ | ⟨htaken, heq⟩ <;> rw [heq, htaken] <;>
    exact State.rd_wr_listed rfl (by decide) _ _ _

theorem State.resumeEntry_ten (s : State) (e : Nat) : ∃ block, (s.resumeEntry e).ten = { s.ten with block := block } := by
  rcases s.resumeEntry_cases e with ⟨-, heq⟩ | ⟨-, heq⟩ <;> rw [heq]
  · exact s.readBlock_ten e
  · exact ⟨s.ten.block, rfl⟩

/-- An entry of engine `n` that is halted resumes, and any other stays as it is. -/
def State.resumeOf (n : Nat) (s : State) (e : Nat) : State :=
  if s.on TEN_SVC0_EN e && s.svcEngine e == n && s.rd TEN_SVC0_STATE e == svcHalted then s.resumeEntry e else s

/-- The step of one entry of an engine that is ready writes the entry's state, and no other register below the masters' status words. -/
theorem State.rd_resumeOf_ne {F : Field} {e i j : Nat} (hkey : TEN_SVC0_STATE.key e 0 ≠ F.key i j) (hF : F.key i j < 8 * 0x1D0300)
    (n : Nat) (s : State) : (s.resumeOf n e).rd F i j = s.rd F i j := by
  unfold State.resumeOf
  split
  · exact State.rd_resumeEntry_ne hkey hF s
  · rfl

theorem State.resumeOf_ten (n : Nat) (s : State) (e : Nat) : ∃ block, (s.resumeOf n e).ten = { s.ten with block := block } := by
  unfold State.resumeOf
  split
  · exact s.resumeEntry_ten e
  · exact ⟨s.ten.block, rfl⟩

/-- An engine in RUN whose watchdog runs from now on, before its entries resume. -/
def State.readied (s : State) (n : Nat) : State :=
  let s1 := ((s.disarm (.engineStart n)).wr ENG_STAT_STATE engRun n).shiftTimers n
  { s1 with ten := { s1.ten with kick := Tab.put s1.ten.kick n s1.tmu.elapsed 0 } }

theorem State.readied_regs (s : State) (n : Nat) : (s.readied n).regs = (s.wr ENG_STAT_STATE engRun n).regs := rfl

theorem State.engineReady_of_start {s : State} {n : Nat} (h : s.rd ENG_STAT_STATE n = engStart) :
    s.engineReady n = (s.readied n).each (List.range 128) (State.resumeOf n) := if_pos h

/-- The state of the engine, its watchdog and the halted entry `e` once the engine is ready. -/
theorem State.engineReady_effect {s : State} {n : Nat} (hn : n < 16) (h : s.rd ENG_STAT_STATE n = engStart)
    (hkick : Tab.sorted s.ten.kick = true) :
    (s.engineReady n).rd ENG_STAT_STATE n = engRun ∧ Tab.get (s.engineReady n).ten.kick n 0 = s.tmu.elapsed := by
  have hkey : ∀ e, TEN_SVC0_STATE.key e 0 ≠ ENG_STAT_STATE.key n 0 := fun e => Field.key_ne_of_otherBit rfl e 0 n 0
  have hlow : ENG_STAT_STATE.key n 0 < 8 * 0x1D0300 := by
    simp only [Field.key, Field.addr, ENG_STAT_STATE]
    omega
  rw [State.engineReady_of_start h]
  refine State.each_keeps (P := fun u => u.rd ENG_STAT_STATE n = engRun ∧ Tab.get u.ten.kick n 0 = s.tmu.elapsed)
    (fun u e _ hu => ?_) ⟨?_, Tab.get_put_self n s.tmu.elapsed 0 hkick⟩
  · obtain ⟨hstate, hkicked⟩ := hu
    obtain ⟨block, hten⟩ := State.resumeOf_ten n u e
    exact ⟨(State.rd_resumeOf_ne (hkey e) hlow n u).trans hstate, by rw [hten]; exact hkicked⟩
  · rw [State.rd_of_regs (s.readied_regs n)]
    exact State.rd_wr_listed rfl (by decide) _ _ _

/-- Each halted entry of an engine that is ready resumes, by whether its parameters had been accepted. -/
theorem State.engineReady_entry {s : State} {n e : Nat} (h : s.rd ENG_STAT_STATE n = engStart) (he : e < 128)
    (hen : s.on TEN_SVC0_EN e = true) (heng : s.svcEngine e = n) (hst : s.rd TEN_SVC0_STATE e = svcHalted) :
    (s.engineReady n).rd TEN_SVC0_STATE e = if Tab.get s.ten.taken e false then svcActive else svcBound := by
  have hentry : ∀ F ∈ reg_TEN_SVC0.flds, (s.readied n).rd F e = s.rd F e := by
    intro F hF
    have hkey : ENG_STAT_STATE.key n 0 ≠ F.key e 0 := by
      have hlo : F = TEN_SVC0_EN ∨ ENG_STAT_STATE.otherBit F = true := by
        revert F
        decide
      rcases hlo with rfl | hlo
      · exact Field.key_ne_of_otherBit rfl n 0 e 0
      · exact Field.key_ne_of_otherBit hlo n 0 e 0
    rw [State.rd_of_regs (s.readied_regs n), State.rd_wr_ne hkey]
  have hother : ∀ {F : Field} {b : Nat}, F ∈ reg_TEN_SVC0.flds → TEN_SVC0_STATE.key b 0 ≠ F.key e 0 → ∀ u : State,
      (u.resumeOf n b).rd F e = u.rd F e :=
    fun hF hkey u => State.rd_resumeOf_ne hkey (State.svc_key_lt hF he) n u
  rw [State.engineReady_of_start h]
  refine State.each_once (val := fun u => u.rd TEN_SVC0_STATE e) (a := e)
    (P := fun u => u.on TEN_SVC0_EN e = true ∧ u.svcEngine e = n ∧ u.ten.taken = s.ten.taken)
    List.nodup_range (List.mem_range.mpr he) (fun u b _ hu => ?_) (fun u b _ hb _ => ?_) (fun u hu hval => ?_) ⟨?_, ?_, rfl⟩
  · obtain ⟨hon, hengine, htaken⟩ := hu
    obtain ⟨block, hten⟩ := State.resumeOf_ten n u b
    refine ⟨?_, (hother (by decide) (Field.key_ne_of_otherBit rfl b 0 e 0) u).trans hengine, by rw [hten]; exact htaken⟩
    rw [State.on, hother (by decide) (Field.key_ne_of_otherBit rfl b 0 e 0) u]
    exact hon
  · exact hother (by decide) (Field.key_ne (by decide) hb) u
  · obtain ⟨hon, hengine, htaken⟩ := hu
    have hhalted : u.rd TEN_SVC0_STATE e = svcHalted := hval.trans ((hentry _ (by decide)).trans hst)
    have hstep : u.resumeOf n e = u.resumeEntry e := by simp [State.resumeOf, hon, hengine, hhalted]
    rw [hstep, State.rd_resumeEntry_self, htaken]
  · rw [State.on, hentry _ (by decide)]
    exact hen
  · exact (hentry _ (by decide)).trans heng

/-! Halts (R247, R248). -/

/-- An engine that stops is in its new state, and EN, its cause and the time stay. -/
theorem State.stopEngine_kept {n : Nat} (hn : n < 16) (s : State) (st : Nat) :
    EngineKept n (((s.disarm (.engineStart n)).disarm (.engineHalt n)).wr ENG_STAT_STATE st n) (s.stopEngine n st) :=
  EngineKept.stopEngine (EngineKept.refl hn _)

/-- An engine that halts shows its cause, and may restart 100 µs later: neither its fault nor a halt of the hub that follows moves these. -/
theorem State.haltEngine_effect {n : Nat} (hn : n < 16) (s : State) (c : EngCause) :
    (s.haltEngine n c).rd ENG_STAT_STATE n = engHalted ∧ (s.haltEngine n c).rd ENG_STAT_CAUSE n = c.code ∧
      (s.haltEngine n c).deadline (.engineHalt n) = some (s.tmu.elapsed + 100000 * 2 ^ 32) := by
  have hstop := s.stopEngine_kept hn engHalted
  have hstate : (s.stopEngine n engHalted).rd ENG_STAT_STATE n = engHalted :=
    (hstop.fields _ (by decide)).trans (State.rd_wr_listed rfl (by decide) _ _ _)
  have hshown : (((s.stopEngine n engHalted).arm (.engineHalt n) 100000).wr ENG_STAT_CAUSE c.code n).rd ENG_STAT_STATE n = engHalted := by
    rw [State.rd_wr_otherBit rfl, State.arm_eq, State.rd_armAt, hstate]
  have hcause : c.code % 2 ^ ENG_STAT_CAUSE.width = c.code ∧ c.code % 2 ^ ENG_STAT_CAUSE.width ≠ ENG_STAT_CAUSE.reset := by
    cases c <;> decide
  obtain ⟨hcode, hlisted⟩ := hcause
  obtain ⟨-, hfields, hrestart, -⟩ := (EngineKept.refl hn _).causeOn hshown (83 + n) c.code
  refine ⟨(hfields _ (by decide)).trans hshown, (hfields _ (by decide)).trans ((State.rd_wr_listed rfl hlisted _ _ _).trans hcode), ?_⟩
  have htime : (s.stopEngine n engHalted).tmu = s.tmu := hstop.time
  refine hrestart.trans ?_
  rw [State.deadline_wr, State.arm_eq, State.deadline_armAt, htime]

theorem State.haltRunning_of_run {s : State} {n : Nat} (h : s.rd ENG_STAT_STATE n = engRun) (c : EngCause) :
    s.haltRunning n c = s.haltEngine n c := if_pos h

theorem State.causeOff_regs (s : State) (slot : Nat) : (s.causeOff slot).regs = s.regs := rfl

/-- An engine that is disabled has EN 0 and is in OFF. -/
theorem State.disableEngine_effect {s : State} {n : Nat} (hn : n < 16) (hs : Tab.sorted s.regs = true) :
    ((s.wr ENG_CTRL_EN 0 n).disableEngine n).on ENG_CTRL_EN n = false ∧
      ((s.wr ENG_CTRL_EN 0 n).disableEngine n).rd ENG_STAT_STATE n = engOff := by
  have hregs : ((s.wr ENG_CTRL_EN 0 n).disableEngine n).regs = ((s.wr ENG_CTRL_EN 0 n).stopEngine n engOff).regs :=
    State.causeOff_regs _ _
  obtain ⟨-, hfields, -, -⟩ := (s.wr ENG_CTRL_EN 0 n).stopEngine_kept hn engOff
  constructor
  · rw [State.on_of_regs hregs, State.on, hfields _ (by decide), State.rd_wr_otherBit rfl, State.rd_disarm, State.rd_disarm,
      State.rd_wr_self hs]
    rfl
  · have hsorted : Tab.sorted (((s.wr ENG_CTRL_EN 0 n).disarm (.engineStart n)).disarm (.engineHalt n)).regs = true :=
      State.sorted_wr hs ENG_CTRL_EN 0 n 0
    rw [State.rd_of_regs hregs, hfields _ (by decide), State.rd_wr_self hsorted]
    rfl

/-! Restarts (R249). -/

/-- The restarts of the last 10 s. -/
def State.recentRestarts (s : State) (n : Nat) : List Nat :=
  (Tab.get s.ten.restarts n []).filter (fun t => s.tmu.elapsed < t + 10000000000 * 2 ^ 32)

/-- Four restarts in the last 10 s: the engine stays HALTED, and its restart is no longer due. -/
theorem State.restartEngine_of_many {s : State} {n : Nat} (hst : s.rd ENG_STAT_STATE n = engHalted) (hdue : s.due (.engineHalt n) = true)
    (hrun : s.restricted = false) (hmany : ¬ (s.recentRestarts n).length < 4) : s.restartEngine n = s.disarm (.engineHalt n) := by
  have hmany' : decide ((s.recentRestarts n).length ≥ 4) = true := decide_eq_true (by omega)
  rw [State.restartEngine, if_neg (by simp [hst, hdue, hrun]), if_pos]
  exact Bool.or_eq_true_iff.mpr (.inr hmany')

/-- An engine that starts again, its restart counted and remembered. -/
def State.restarted (s : State) (n : Nat) : State :=
  let u := ((s.disarm (.engineHalt n)).startEngine n).sat ENG_STAT_RESTARTS n
  { u with ten := { u.ten with restarts := Tab.put u.ten.restarts n (s.tmu.elapsed :: s.recentRestarts n) [] } }

section
variable {s : State} {n : Nat} (himg : s.on TEN_IMG_INFO_VERIFIED (s.rd ENG_CTRL_IMAGE n) = true)
include himg

theorem State.startEngine_of_halted :
    ((s.disarm (.engineHalt n)).startEngine n).regs = ((s.disarm (.engineHalt n)).wr ENG_STAT_STATE engStart n).regs := by
  obtain ⟨hregs, -, -⟩ := State.startEngine_of_verified (s := s.disarm (.engineHalt n)) himg
  exact hregs

/-- A restart within the limit. -/
theorem State.restartEngine_of_few (hst : s.rd ENG_STAT_STATE n = engHalted) (hdue : s.due (.engineHalt n) = true)
    (hon : s.on ENG_CTRL_RESTART n = true) (hfew : (s.recentRestarts n).length < 4) (hrun : s.restricted = false) :
    s.restartEngine n = s.restarted n := by
  have hstate : ((s.disarm (.engineHalt n)).startEngine n).rd ENG_STAT_STATE n = engStart := by
    rw [State.rd_of_regs (State.startEngine_of_halted himg)]
    exact State.rd_wr_listed (F := ENG_STAT_STATE) rfl (by decide) _ _ _
  have hfew' : decide ((s.recentRestarts n).length ≥ 4) = false := decide_eq_false (by omega)
  rw [State.restartEngine, if_neg (by simp [hst, hdue, hrun]), if_neg]
  · exact if_pos hstate
  · exact Bool.eq_false_iff.mp (Bool.or_eq_false_iff.mpr ⟨by rw [hon]; rfl, hfew'⟩)

theorem State.restarted_effect : (s.restarted n).rd ENG_STAT_STATE n = engStart ∧
    (s.restarted n).rd ENG_STAT_RESTARTS n = min (s.rd ENG_STAT_RESTARTS n + 1) (2 ^ ENG_STAT_RESTARTS.width - 1) ∧
      Tab.get (s.restarted n).ten.restarts n [] = s.tmu.elapsed :: s.recentRestarts n := by
  have hregs : (s.restarted n).regs = (((s.disarm (.engineHalt n)).startEngine n).sat ENG_STAT_RESTARTS n).regs := rfl
  have hcount : ((s.disarm (.engineHalt n)).startEngine n).rd ENG_STAT_RESTARTS n = s.rd ENG_STAT_RESTARTS n := by
    rw [State.rd_of_regs (State.startEngine_of_halted himg), State.rd_wr_otherBit rfl, State.rd_disarm]
  have hnext : satAdd ENG_STAT_RESTARTS.width (s.rd ENG_STAT_RESTARTS n) 1 % 2 ^ ENG_STAT_RESTARTS.width =
      min (s.rd ENG_STAT_RESTARTS n + 1) (2 ^ ENG_STAT_RESTARTS.width - 1) := by
    refine Nat.mod_eq_of_lt (Nat.lt_of_le_of_lt (Nat.min_le_right _ _) ?_)
    decide
  have hlisted : satAdd ENG_STAT_RESTARTS.width (s.rd ENG_STAT_RESTARTS n) 1 % 2 ^ ENG_STAT_RESTARTS.width ≠ ENG_STAT_RESTARTS.reset := by
    have hmax : 2 ^ ENG_STAT_RESTARTS.width - 1 = 255 := by decide
    have hreset : ENG_STAT_RESTARTS.reset = 0 := rfl
    rw [hnext, hmax, hreset]
    omega
  refine ⟨?_, ?_, ?_⟩
  · rw [State.rd_of_regs hregs, State.sat, State.satBy, State.rd_wr_otherBit rfl, State.rd_of_regs (State.startEngine_of_halted himg)]
    exact State.rd_wr_listed rfl (by decide) _ _ _
  · rw [State.rd_of_regs hregs, State.sat, State.satBy, hcount, State.rd_wr_listed rfl hlisted, hnext]
  · exact Tab.get_put_listed (List.cons_ne_nil s.tmu.elapsed (s.recentRestarts n)) _ n []

end

/-! Image slots (R420). -/

theorem State.imageSlotWrite_of_named {s : State} {i : Nat} (h : s.imageNamed i = true) (isLen : Bool) (w : Nat) :
    s.imageSlotWrite i isLen w = s.wr TEN_STAT_IMGREJ 1 := if_pos h

theorem State.imageSlotWrite_of_free {s : State} {i : Nat} (h : s.imageNamed i = false) (hlock : s.on TEN_CTRL_LOCK = false)
    (isLen : Bool) (w : Nat) :
    s.imageSlotWrite i isLen w = (s.writeReg (0x1C0010 + 0x10 * i + (if isLen then 4 else 0)) w).wr TEN_IMG_INFO_VERIFIED 0 i := by
  rw [State.imageSlotWrite, h, hlock]
  rfl

/-- Settles O22: a start by the engine's image, readiness entry by entry, and halts and restarts by what the faults and halts that follow keep. -/
theorem engineStates : Obligations.EngineStates := by
  refine ⟨fun n s hen hrun himg hregs hslots => ?_, fun n s hen hrun himg hoff => ?_, fun n s hst hregs hkick => ?_,
    fun n s hst hdue => ?_, fun n s hst hout => ?_, fun n s hst => ⟨?_, ?_⟩, fun n s hen hregs => ?_, fun n s => rfl,
    fun n s hst hdue hon himg hfew hrun => ?_, fun n s hst hdue hrun hmany => ?_,
    fun i isLen w s h => congrArg _ (State.imageSlotWrite_of_named h isLen w.toNat),
    fun i isLen w s h hlock => congrArg _ (State.imageSlotWrite_of_free h hlock isLen w.toNat)⟩
  · have himage : (s.enabled n).rd ENG_CTRL_IMAGE n = s.rd ENG_CTRL_IMAGE n := State.rd_enabled_ne rfl rfl s n n 0
    have hverified : (s.enabled n).on TEN_IMG_INFO_VERIFIED ((s.enabled n).rd ENG_CTRL_IMAGE n) = true := by
      rw [himage, State.on_verified_enabled]
      exact himg
    obtain ⟨hstarted, hslot, hready⟩ := State.startEngine_of_verified hverified
    refine ⟨_, execEngineEnable_of_off hen hrun, ?_, ?_, ?_, ?_, hready⟩
    · rw [State.on_of_regs hstarted, State.on_wr_otherBit rfl, State.on_enabled]
    · rw [State.rd_of_regs hstarted]
      exact State.rd_wr_listed rfl (by decide) _ _ _
    · rw [State.rd_of_regs hstarted, State.rd_wr_otherBit rfl]
      exact State.rd_wr_self (State.sorted_wr hregs _ _ _ _) _ _ _ _
    · rw [hslot, himage]
      exact Tab.get_put_self _ _ _ hslots
  · have himage : (s.enabled n).rd ENG_CTRL_IMAGE n = s.rd ENG_CTRL_IMAGE n := State.rd_enabled_ne rfl rfl s n n 0
    have hunverified : (s.enabled n).on TEN_IMG_INFO_VERIFIED ((s.enabled n).rd ENG_CTRL_IMAGE n) = false := by
      rw [himage, State.on_verified_enabled]
      exact himg
    refine ⟨_, (execEngineEnable_of_off hen hrun).trans (congrArg _ (State.startEngine_of_unverified hunverified)), ?_, ?_,
      State.rd_wr_listed rfl (by decide) _ _ _⟩
    · rw [State.on_wr_otherBit rfl]
      exact s.on_enabled n
    · rw [State.rd_wr_otherBit rfl]
      exact (State.rd_enabled_ne rfl rfl s n n 0).trans hoff
  · obtain ⟨hrun, hkicked⟩ := State.engineReady_effect n.isLt hst hkick
    exact ⟨_, rfl, hrun, hkicked, fun e he hen heng hhalted => State.engineReady_entry hst he hen heng hhalted⟩
  · exact ⟨_, if_pos (by simp [hst, hdue]), s.haltEngine_effect n.isLt .startTo⟩
  · refine ⟨_, (if_pos (decide_eq_true hout)).trans (congrArg _ (State.haltRunning_of_run hst .wdt)), s.haltEngine_effect n.isLt .wdt⟩
  · exact ⟨_, congrArg Host.Outcome.next (State.haltRunning_of_run hst .ecc), s.haltEngine_effect n.isLt .ecc⟩
  · exact ⟨_, congrArg Host.Outcome.next (State.haltRunning_of_run hst .trap), s.haltEngine_effect n.isLt .trap⟩
  · obtain ⟨hen0, hoff⟩ := State.disableEngine_effect n.isLt hregs
    exact ⟨_, if_pos hen, hen0, hoff⟩
  · exact ⟨_, congrArg Host.Outcome.next (State.restartEngine_of_few himg hst hdue hon hfew hrun), State.restarted_effect himg⟩
  · exact congrArg _ (State.restartEngine_of_many hst hdue hrun hmany)

end Sys2Proof.Machine
end

section
/-! PROOFS. Mailboxes: requests, timeouts and responses (R255). -/

namespace Sys2Proof.Machine

/-! The end of a request. -/

/-- The fields of a mailbox that show how its request ended. -/
def mbxEndFields : List Field := [ENG_MBX_BUSY, ENG_MBX_DONE, ENG_MBX_CODE]

/-- An interrupt writes at other bits than those that show the end of a request. -/
theorem irqFields_otherBit_mbxEnd : ∀ F ∈ irqFields, ∀ G ∈ mbxEndFields, F.otherBit G = true := by decide

/-- From `o` to `s` the end of the request of MBXm of engine `n` and the engines' own state stay. -/
structure MbxEndKept (n m : Nat) (o s : State) : Prop where
  fields : ∀ G ∈ mbxEndFields, s.rd G n m = o.rd G n m
  ten : s.ten = o.ten

theorem mbxEndKept_irqKeeps (n m : Nat) (o : State) : IrqKeeps (MbxEndKept n m o) where
  wr _ _ v i hF h := ⟨fun G hG => (State.rd_wr_otherBit (irqFields_otherBit_mbxEnd _ hF G hG) _ v i 0 n m).trans (h.fields G hG), h.ten⟩
  rng _ _ h := ⟨h.fields, h.ten⟩
  host _ _ h := ⟨h.fields, h.ten⟩
  sram _ _ h := ⟨h.fields, h.ten⟩
  holdoff _ _ _ h := ⟨h.fields, h.ten⟩

/-- A mailbox with BUSY 0, DONE 1 and its result code, its timeout stopped. -/
def State.mbxEnded (s : State) (n m : Nat) (c : MbxCode) : State :=
  (((s.disarm (.mailbox n m)).wr ENG_MBX_BUSY 0 n m).wr ENG_MBX_DONE 1 n m).wr ENG_MBX_CODE c.code n m

/-- The interrupt that MBX1 raises changes nothing of the request's end. -/
theorem State.mbxEnd_kept (s : State) (n m : Nat) (c : MbxCode) : MbxEndKept n m (s.mbxEnded n m c) (s.mbxEnd n m c) := by
  have hrefl : MbxEndKept n m (s.mbxEnded n m c) (s.mbxEnded n m c) := ⟨fun _ _ => rfl, rfl⟩
  unfold State.mbxEnd
  split
  · exact State.irq_invariant (mbxEndKept_irqKeeps n m _) hrefl _ _ _
  · exact hrefl

/-- A request that ends shows BUSY 0, DONE 1 and its code. -/
theorem State.mbxEnd_effect {s : State} (hs : Tab.sorted s.regs = true) (n m : Nat) (c : MbxCode) :
    (s.mbxEnd n m c).on ENG_MBX_BUSY n m = false ∧ (s.mbxEnd n m c).on ENG_MBX_DONE n m = true ∧
      (s.mbxEnd n m c).rd ENG_MBX_CODE n m = c.code ∧ (s.mbxEnd n m c).ten = s.ten := by
  obtain ⟨hfields, hten⟩ := s.mbxEnd_kept n m c
  have hidle : Tab.sorted ((s.disarm (.mailbox n m)).wr ENG_MBX_BUSY 0 n m).regs = true :=
    State.sorted_wr (s := s.disarm (.mailbox n m)) hs ENG_MBX_BUSY 0 n m
  have hdone := State.sorted_wr hidle ENG_MBX_DONE 1 n m
  have hcode : c.code % 2 ^ ENG_MBX_CODE.width = c.code := by cases c <;> rfl
  refine ⟨?_, ?_, ?_, hten⟩
  · rw [State.on, hfields _ (by decide), State.mbxEnded, State.rd_wr_otherBit rfl, State.rd_wr_otherBit rfl,
      State.rd_wr_self (s := s.disarm (.mailbox n m)) hs]
    rfl
  · rw [State.on, hfields _ (by decide), State.mbxEnded, State.rd_wr_otherBit rfl, ← State.on]
    exact State.on_wr_one ⟨by decide, rfl, rfl⟩ _ n m
  · rw [hfields _ (by decide), State.mbxEnded, State.rd_wr_self hdone, hcode]

/-! A request. -/

/-- Opcode and entry of a request, written to a mailbox. -/
def State.mbxAsked (s : State) (n m op e : Nat) : State := (s.wr ENG_MBX_OPCODE op n m).wr ENG_MBX_SVC e n m

/-- Opcode and entry of a request are stored beside every field at another bit. -/
theorem State.rd_mbxAsked {F : Field} (hop : ENG_MBX_OPCODE.otherBit F = true) (hsvc : ENG_MBX_SVC.otherBit F = true)
    (s : State) (n m op e i j : Nat) : (s.mbxAsked n m op e).rd F i j = s.rd F i j := by
  rw [State.mbxAsked, State.rd_wr_otherBit hsvc, State.rd_wr_otherBit hop]

theorem State.on_busy_mbxAsked (s : State) (n m op e : Nat) :
    (s.mbxAsked n m op e).on ENG_MBX_BUSY n m = s.on ENG_MBX_BUSY n m := by
  rw [State.on, State.rd_mbxAsked rfl rfl, State.on]

theorem State.mbxSubmit_of_busy {s : State} {n m : Nat} (h : s.on ENG_MBX_BUSY n m = true) (op e : Nat) :
    s.mbxSubmit n m op e = (s.mbxAsked n m op e).sat TEN_CNT_COUNT 3 :=
  if_pos ((s.on_busy_mbxAsked n m op e).trans h)

theorem State.mbxSubmit_of_stopped {s : State} {n m op e : Nat} (hbusy : s.on ENG_MBX_BUSY n m = false)
    (hstop : (s.mbxAsked n m op e).rd ENG_STAT_STATE n ≠ engRun) :
    s.mbxSubmit n m op e = (s.mbxAsked n m op e).mbxEnd n m .halted := by
  have hbusy' : ¬ (s.mbxAsked n m op e).on ENG_MBX_BUSY n m = true := by
    rw [s.on_busy_mbxAsked, hbusy]
    exact Bool.false_ne_true
  exact (if_neg hbusy').trans (if_pos hstop)

/-- A request that begins: BUSY is 1, the request is kept, and its timeout runs. -/
def State.mbxBegun (s : State) (n m : Nat) (r : Nat × Nat) : State :=
  ({ (s.wr ENG_MBX_BUSY 1 n m) with ten := { s.ten with req := Tab.put s.ten.req (2 * n + m) r (0, 0) } } : State).arm (.mailbox n m)
    (s.rd ENG_CTRL_MBXTO n * 1000000)

theorem State.mbxBegun_regs (s : State) (n m : Nat) (r : Nat × Nat) : (s.mbxBegun n m r).regs = (s.wr ENG_MBX_BUSY 1 n m).regs := rfl

/-- What a mailbox shows of a request that it has taken for entry `e`. -/
def MbxAccepted (s t : State) (n m op e : Nat) : Prop :=
  t.on ENG_MBX_BUSY n m = true ∧ t.rd ENG_MBX_OPCODE n m = op ∧ t.rd ENG_MBX_SVC n m = e ∧
    Tab.get t.ten.req (2 * n + m) (0, 0) = (op, e) ∧
      t.deadline (.mailbox n m) = some (s.tmu.elapsed + s.rd ENG_CTRL_MBXTO n * 1000000 * 2 ^ 32)

/-- The opcode of a request leaves the timeout of its engine, which starts at the same bit of another word. -/
theorem State.rd_mbxto_mbxAsked (s : State) (n m op e : Nat) : (s.mbxAsked n m op e).rd ENG_CTRL_MBXTO n = s.rd ENG_CTRL_MBXTO n := by
  have hkey : ENG_MBX_OPCODE.key n m ≠ ENG_CTRL_MBXTO.key n 0 := by
    simp only [Field.key, Field.addr, ENG_MBX_OPCODE, ENG_CTRL_MBXTO]
    omega
  rw [State.mbxAsked, State.rd_wr_otherBit rfl, State.rd_wr_ne hkey]

/-- A request to a running engine whose mailbox is not BUSY is taken. -/
theorem State.mbxSubmit_accepted {s : State} {n m op e : Nat} (hbusy : s.on ENG_MBX_BUSY n m = false)
    (hrun : s.rd ENG_STAT_STATE n = engRun) (hs : Tab.sorted s.regs = true) (hop : op < 256) (hop0 : op ≠ 0) (he : e < 128) :
    MbxAccepted s (s.mbxSubmit n m op e) n m op e := by
  have hopcode : (s.mbxAsked n m op e).rd ENG_MBX_OPCODE n m = op := by
    rw [State.mbxAsked, State.rd_wr_otherBit rfl, State.rd_wr_self hs]
    exact Nat.mod_eq_of_lt hop
  have hentry : (s.mbxAsked n m op e).rd ENG_MBX_SVC n m = e := by
    rw [State.mbxAsked, State.rd_wr_self (State.sorted_wr hs _ _ _ _)]
    exact Nat.mod_eq_of_lt he
  have hrun' : (s.mbxAsked n m op e).rd ENG_STAT_STATE n = engRun := (State.rd_mbxAsked rfl rfl _ _ _ _ _ _ _).trans hrun
  have hbusy' : (s.mbxAsked n m op e).on ENG_MBX_BUSY n m = false := (s.on_busy_mbxAsked n m op e).trans hbusy
  have hgo : s.mbxSubmit n m op e = (s.mbxAsked n m op e).mbxBegun n m (op, e) := by
    show (s.mbxAsked n m op e).mbxGo n m = _
    rw [State.mbxGo, if_neg (Bool.eq_false_iff.mp hbusy'), if_neg (not_not_intro hrun'), hopcode, hentry]
    rfl
  rw [hgo]
  refine ⟨?_, ?_, ?_, ?_, ?_⟩
  · rw [State.on_of_regs (State.mbxBegun_regs _ _ _ _)]
    exact State.on_wr_one ⟨by decide, rfl, rfl⟩ _ n m
  · rw [State.rd_of_regs (State.mbxBegun_regs _ _ _ _), State.rd_wr_otherBit rfl, hopcode]
  · rw [State.rd_of_regs (State.mbxBegun_regs _ _ _ _), State.rd_wr_otherBit rfl, hentry]
  · exact Tab.get_put_listed (fun h => hop0 (congrArg Prod.fst h)) s.ten.req (2 * n + m) (0, 0)
  · rw [State.mbxBegun, State.arm_eq, State.deadline_armAt, s.rd_mbxto_mbxAsked]
    rfl

/-! A response. -/

/-- A response comes late, and is only counted. -/
theorem State.mbxRespond_of_late {s : State} {n m : Nat} (hrun : s.rd ENG_STAT_STATE n = engRun)
    (hlate : Tab.get s.ten.late (2 * n + m) 0 > 0) : s.mbxRespond n m = s.mbxLate n m := by
  rw [State.mbxRespond, if_neg (not_not_intro hrun), if_pos hlate]

/-- The response in time to a request that the engine can serve now: its answer, and the request's end. -/
theorem State.mbxRespond_of_request {s s' : State} {n m op e : Nat} {c : MbxCode} {l : List Nat} (hrun : s.rd ENG_STAT_STATE n = engRun)
    (hlate : Tab.get s.ten.late (2 * n + m) 0 = 0) (hbusy : s.on ENG_MBX_BUSY n m = true) (hfirst : m ≠ 1 ∨ s.on ENG_MBX_BUSY n 0 = false)
    (hreq : Tab.get s.ten.req (2 * n + m) (0, 0) = (op, e)) (hidle : op ≠ 3 ∨ s.inFlight e = false)
    (hanswer : s.mbxAnswer n op e = (s', c, l)) : s.mbxRespond n m = (s'.setRsps n m l).mbxEnd n m c := by
  have hserve : (!s.on ENG_MBX_BUSY n m || (m = 1 && s.on ENG_MBX_BUSY n 0) || (op = 3 && s.inFlight e && s.svcEngine e = n)) = false := by
    have hturn : (decide (m = 1) && s.on ENG_MBX_BUSY n 0) = false := by rcases hfirst with h | h <;> simp [h]
    have hwork : (decide (op = 3) && s.inFlight e) = false := by rcases hidle with h | h <;> simp [h]
    rw [hbusy, hturn, hwork]
    rfl
  rw [State.mbxRespond, if_neg (not_not_intro hrun), if_neg (by omega)]
  simp only [hreq, hserve, hanswer, Bool.false_eq_true, if_false]

theorem State.mbxAnswer_ping (s : State) (n e : Nat) : s.mbxAnswer n 1 e =
    (s, .ok, [s.rd TEN_IMG_INFO_VERSION (Tab.get s.ten.img n 0), s.rd TEN_IMG_INFO_CAP (Tab.get s.ten.img n 0)]) := rfl

section
variable {s : State} {n e : Nat} (hen : s.on TEN_SVC0_EN e = true) (heng : s.svcEngine e = n)
include hen heng

theorem State.mbxAnswer_quiesce (hst : s.rd TEN_SVC0_STATE e = svcActive) :
    s.mbxAnswer n 3 e = (s.wr TEN_SVC0_STATE svcQuiesced e, .ok, []) := by
  simp [State.mbxAnswer, hen, heng, hst]

theorem State.mbxAnswer_resume (hst : s.rd TEN_SVC0_STATE e = svcQuiesced) :
    s.mbxAnswer n 4 e = (s.wr TEN_SVC0_STATE svcActive e, .ok, []) := by
  simp [State.mbxAnswer, hen, heng, hst]

end

/-- Settles O24: a request by whether its mailbox is BUSY and its engine runs, and its end by what the interrupt of MBX1 keeps. -/
theorem mailboxes : Obligations.Mailboxes := by
  have htaken : ∀ (n : Fin 16) (m : Fin 2) (e : Fin 128) (op : Nat) (s : State), s.on ENG_MBX_BUSY n m = false →
      s.rd ENG_STAT_STATE n = engRun → Tab.sorted s.regs = true → op < 256 → op ≠ 0 → MbxAccepted s (s.mbxSubmit n m op e) n m op e :=
    fun n m e op s hbusy hrun hs hop hop0 => State.mbxSubmit_accepted hbusy hrun hs hop hop0 e.isLt
  have hturn : ∀ {n : Fin 16} {m : Fin 2} {s : State}, m = 0 ∨ s.on ENG_MBX_BUSY n 0 = false → m.val ≠ 1 ∨ s.on ENG_MBX_BUSY n 0 = false :=
    fun h => h.imp_left (fun h0 h1 => absurd (congrArg Fin.val h0) (by simp [h1]))
  refine ⟨fun n m e s h => ⟨?_, ?_, ?_, ?_⟩, fun n m s hbusy hrun hs => ?_, fun n m e s hbusy hrun hs => ?_, fun n m e s hbusy hrun hs => ?_,
    fun n m e s hbusy hrun hs => ?_, fun n m e s hbusy hstop => congrArg _ (State.mbxSubmit_of_stopped hbusy hstop),
    fun n m s hbusy hdue hs => ?_, fun n m s hrun hlate hbusy hfirst hreq => ?_,
    fun n m e s hrun hlate hbusy hfirst hreq hen heng hst => ?_, fun n m e s hrun hlate hbusy hfirst hreq hidle hen heng hst => ?_,
    fun n m s hrun hlate => congrArg _ (State.mbxRespond_of_late hrun hlate)⟩
  · exact congrArg _ (State.mbxSubmit_of_busy h 1 0)
  · exact congrArg _ (State.mbxSubmit_of_busy h 2 e)
  · exact congrArg _ (State.mbxSubmit_of_busy h 3 e)
  · exact congrArg _ (State.mbxSubmit_of_busy h 4 e)
  · exact ⟨_, rfl, htaken n m 0 1 s hbusy hrun hs (by decide) (by decide)⟩
  · exact ⟨_, rfl, htaken n m e 2 s hbusy hrun hs (by decide) (by decide)⟩
  · exact ⟨_, rfl, htaken n m e 3 s hbusy hrun hs (by decide) (by decide)⟩
  · exact ⟨_, rfl, htaken n m e 4 s hbusy hrun hs (by decide) (by decide)⟩
  · obtain ⟨hidle, hdone, hcode, hten⟩ := State.mbxEnd_effect hs n m .timeout
    refine ⟨_, congrArg Host.Outcome.next (if_neg (by simp [hbusy, hdue])), hidle, hdone, hcode, ?_⟩
    rw [← hten]
    exact Tab.get_put_listed (Nat.succ_ne_zero _) _ _ _
  · exact congrArg _ (State.mbxRespond_of_request hrun hlate hbusy (hturn hfirst) (Prod.ext hreq rfl) (.inl (by decide)) (s.mbxAnswer_ping n _))
  · exact congrArg _ (State.mbxRespond_of_request hrun hlate hbusy (hturn hfirst) hreq (.inl (by decide)) (State.mbxAnswer_resume hen heng hst))
  · exact congrArg _ (State.mbxRespond_of_request hrun hlate hbusy (hturn hfirst) hreq (.inr hidle) (State.mbxAnswer_quiesce hen heng hst))

end Sys2Proof.Machine
end

section
/-! PROOFS. Service entries: bind, activate and unbind, and the packets, records and samples of their services (R252 to R257). -/

namespace Sys2Proof.Machine

/-! Bind (R252). -/

theorem State.bindEntry_of_enabled {s : State} {e : Nat} (h : s.on TEN_SVC0_EN e = true) (w : Nat) :
    s.bindEntry e w = s.wr TEN_STAT_SVCREJ 1 := if_pos h

/-- Type and engine of an entry stored from word 0. -/
def State.bindNamed (s : State) (e w : Nat) : State := s.writeFields false [TEN_SVC0_TYPE, TEN_SVC0_ENGINE] e 0 w

section
variable {s : State} {e w : Nat} (hen : s.on TEN_SVC0_EN e = false)
include hen

theorem State.bindEntry_of_failure {c : BindCode} (h : (s.bindNamed e w).bindFailure e = some c) :
    s.bindEntry e w = ((s.bindNamed e w).wr TEN_SVC0_STATE svcError e).wr TEN_SVC0_CODE c.code e := by
  rw [State.bindNamed] at h
  simp only [State.bindEntry, hen, h, Bool.false_eq_true, if_false, State.bindNamed]

theorem State.bindEntry_of_ok (h : (s.bindNamed e w).bindFailure e = none) :
    s.bindEntry e w = ((((s.bindNamed e w).wr TEN_SVC0_EN 1 e).wr TEN_SVC0_STATE svcBound e).wr TEN_SVC0_CODE 0 e).clearEntry e := by
  rw [State.bindNamed] at h
  simp only [State.bindEntry, hen, h, Bool.false_eq_true, if_false, State.bindNamed]

end

/-! Activation (R252). -/

theorem State.sorted_writeReg {s : State} (h : Tab.sorted s.regs = true) (off w : Nat) : Tab.sorted (s.writeReg off w).regs = true := by
  unfold State.writeReg
  split
  · exact h
  · exact State.each_keeps (P := fun u => Tab.sorted u.regs = true) (fun _ F _ hu => State.sorted_writeField hu _ F _ _ _) h

theorem State.sorted_serRingWrite {s : State} (h : Tab.sorted s.regs = true) (n w : Nat) : Tab.sorted (s.serRingWrite n w).regs = true := by
  unfold State.serRingWrite
  extract_lets s1 s2
  have hstored : Tab.sorted s1.regs = true := State.sorted_writeReg h _ _
  have hemptied : Tab.sorted s2.regs = true := State.sorted_wr (State.sorted_wr hstored _ _ _ _) _ _ _ _
  split
  · exact State.sorted_wr h _ _ _ _
  · split
    · exact hemptied
    · exact hstored

theorem State.clearCounts_regs (s : State) (e : Nat) : (s.clearCounts e).regs = s.regs := by
  unfold State.clearCounts
  extract_lets ty cut
  repeat' split
  all_goals rfl

/-- What a service starts with leaves the register table in canonical form: only a serial service writes registers, those of its ring. -/
theorem State.sorted_svcStarts {s : State} (h : Tab.sorted s.regs = true) (e : Nat) : Tab.sorted (s.svcStarts e).regs = true := by
  have hclear : Tab.sorted (s.clearCounts e).regs = true := by
    rw [s.clearCounts_regs]
    exact h
  unfold State.svcStarts
  extract_lets ty s1 stg area sto ring s2
  have hring : Tab.sorted s2.regs = true := State.sorted_serRingWrite hclear _ _
  split
  · exact hclear
  · split
    · exact hring
    · split
      · exact hclear
      · split
        · exact hclear
        · exact hclear

/-- An entry is ACTIVE with code 0, and its parameters are accepted. -/
def State.accepted (s : State) (e : Nat) : State :=
  let u := ((s.svcStarts e).wr TEN_SVC0_STATE svcActive e).wr TEN_SVC0_CODE 0 e
  { u with ten := { u.ten with taken := Tab.put u.ten.taken e true false } }

theorem State.accepted_regs (s : State) (e : Nat) :
    (s.accepted e).regs = (((s.svcStarts e).wr TEN_SVC0_STATE svcActive e).wr TEN_SVC0_CODE 0 e).regs := rfl

theorem State.accepted_effect {s : State} (h : Tab.sorted s.regs = true) (e : Nat) :
    (s.accepted e).rd TEN_SVC0_STATE e = svcActive ∧ (s.accepted e).rd TEN_SVC0_CODE e = 0 ∧
      Tab.get (s.accepted e).ten.taken e false = true := by
  refine ⟨?_, ?_, Tab.get_put_listed Bool.true_eq_false.mp _ _ _⟩
  · rw [State.rd_of_regs (s.accepted_regs e), State.rd_wr_otherBit rfl]
    exact State.rd_wr_listed rfl (by decide) _ _ _
  · rw [State.rd_of_regs (s.accepted_regs e), State.rd_wr_self (State.sorted_wr (State.sorted_svcStarts h e) _ _ _ _)]
    rfl

section
variable {s : State} {e : Nat} (hen : s.on TEN_SVC0_EN e = true) (hst : s.rd TEN_SVC0_STATE e = svcBound)
  (hrun : s.rd ENG_STAT_STATE (s.svcEngine e) = engRun)
include hen hst hrun

/-- A BOUND entry of a running engine activates. -/
theorem State.activates : ¬ (!s.on TEN_SVC0_EN e || s.rd TEN_SVC0_STATE e ≠ svcBound || s.rd ENG_STAT_STATE (s.svcEngine e) ≠ engRun) = true := by
  simp [hen, hst, hrun]

theorem State.activate_of_accepted (h : (s.readBlock e).paramRefuses e = none) : s.activate e = (s.readBlock e).accepted e := by
  rw [State.activate, if_neg (State.activates hen hst hrun)]
  simp only [h]
  rfl

theorem State.activate_of_refused {c : Nat} (h : (s.readBlock e).paramRefuses e = some c) :
    s.activate e = ((s.readBlock e).wr TEN_SVC0_STATE svcError e).wr TEN_SVC0_CODE c e := by
  rw [State.activate, if_neg (State.activates hen hst hrun)]
  simp only [h]

end

/-! Unbind (R254). -/

/-- The inbound packets of an entry that is unbound, counted as packets for no entry. -/
def State.unbindCounted (s : State) (e : Nat) : State :=
  s.each (if s.on TEN_SVC0_EN e then (s.inbox (s.svcEngine e)).filter (fun x => x.1 == e) else []) (fun s _ => s.sat TEN_CNT_COUNT 0)

/-- The packets that stay with the engine of an entry that is unbound. -/
def State.unbindKeep (s : State) (e : Nat) : List (Nat × Packet) :=
  ((s.unbindCounted e).inbox (s.svcEngine e)).filter (fun x => x.1 != e || !s.on TEN_SVC0_EN e)

/-- An entry that is unbound holds no packets, edges or commands. -/
def State.unbindEmptied (s : State) (e : Nat) : State :=
  let u := s.unbindCounted e
  (({ u with ten := { u.ten with
    inbox := Tab.put u.ten.inbox (s.svcEngine e) (s.unbindKeep e) [], cur := Tab.put u.ten.cur e [] [] } } : State).loseEdges e).loseBlock e

/-- An entry with EN 0, in IDLE. -/
def State.unbindIdle (s : State) (e : Nat) : State := (s.wr TEN_SVC0_EN 0 e).wr TEN_SVC0_STATE svcIdle e

theorem State.unbindEntry_eq (s : State) (e w : Nat) : s.unbindEntry e w = ((s.unbindEmptied e).unbindIdle e).bindNamed e w := rfl

theorem State.unbindCounted_ten (s : State) (e : Nat) : (s.unbindCounted e).ten = s.ten :=
  State.each_keeps (P := fun u => u.ten = s.ten) (fun _ _ _ hu => hu) rfl

theorem State.sorted_unbindEmptied {s : State} (h : Tab.sorted s.regs = true) (e : Nat) : Tab.sorted (s.unbindEmptied e).regs = true :=
  State.each_keeps (P := fun u => Tab.sorted u.regs = true) (fun _ _ _ hu => State.sorted_wr hu _ _ _ _) h

theorem State.unbindEmptied_inbox (s : State) (e : Nat) :
    (s.unbindEmptied e).ten.inbox = Tab.put (s.unbindCounted e).ten.inbox (s.svcEngine e) (s.unbindKeep e) [] := rfl

theorem State.unbindEmptied_edges (s : State) (e : Nat) :
    (s.unbindEmptied e).ten.edges = Tab.put (s.unbindCounted e).ten.edges e [] [] := rfl

/-- The word written to an entry leaves its EN and its state, which firmware does not write with it. -/
theorem State.rd_bindNamed {F : Field} (hF : TEN_SVC0_TYPE.otherBit F = true) (hF' : TEN_SVC0_ENGINE.otherBit F = true)
    (s : State) (e w i j : Nat) : (s.bindNamed e w).rd F i j = s.rd F i j := by
  refine State.rd_writeFields_ne (fun A hA => ?_) s false w
  simp only [List.mem_cons, List.not_mem_nil, or_false] at hA
  rcases hA with rfl | rfl
  · exact Field.key_ne_of_otherBit hF e 0 i j
  · exact Field.key_ne_of_otherBit hF' e 0 i j

theorem State.bindNamed_ten (s : State) (e w : Nat) : (s.bindNamed e w).ten = s.ten := by
  rw [State.bindNamed, State.writeFields_regs]

/-- An entry that is unbound is IDLE with EN 0. -/
theorem State.unbindEntry_idle {s : State} (hs : Tab.sorted s.regs = true) (e w : Nat) :
    (s.unbindEntry e w).on TEN_SVC0_EN e = false ∧ (s.unbindEntry e w).rd TEN_SVC0_STATE e = svcIdle := by
  have hempty := State.sorted_unbindEmptied hs e
  rw [State.unbindEntry_eq]
  constructor
  · rw [State.on, State.rd_bindNamed rfl rfl, State.unbindIdle, State.rd_wr_otherBit rfl, State.rd_wr_self hempty]
    rfl
  · rw [State.rd_bindNamed rfl rfl, State.unbindIdle, State.rd_wr_self (State.sorted_wr hempty _ _ _ _)]
    rfl

/-- An enabled entry that is unbound has no packets and no edges left. -/
theorem State.unbindEntry_emptied {s : State} {e : Nat} (hen : s.on TEN_SVC0_EN e = true) (hinbox : Tab.sorted s.ten.inbox = true)
    (hedges : Tab.sorted s.ten.edges = true) (w : Nat) :
    ((s.unbindEntry e w).inbox (s.svcEngine e)).any (fun x => x.1 == e) = false ∧ Tab.get (s.unbindEntry e w).ten.edges e [] = [] := by
  have hten : (s.unbindEntry e w).ten = (s.unbindEmptied e).ten := State.bindNamed_ten _ e w
  rw [State.inbox, hten, State.unbindEmptied_inbox, State.unbindEmptied_edges, State.unbindCounted_ten]
  constructor
  · rw [Tab.get_put_self _ _ _ hinbox]
    simp [State.unbindKeep, hen]
  · exact Tab.get_put_self _ _ _ hedges

/-! Inbound packets (R253). -/

section
variable {s : State} {k : Nat} {c : Copy} (hsend : s.sending (12 + k) = some c)
include hsend

theorem State.dispatch_of_noEntry (h : s.copyEntry c = none) : s.dispatch k = (s.completeSend (12 + k)).sat TEN_CNT_COUNT 0 := by
  simp only [State.dispatch, hsend, h]
  rfl

theorem State.dispatch_of_halted {e : Nat} (h : s.copyEntry c = some e) (hst : s.rd TEN_SVC0_STATE e = svcHalted) :
    s.dispatch k = (s.completeSend (12 + k)).sat TEN_CNT_COUNT 1 := by
  simp only [State.dispatch, hsend, h, hst]
  rfl

/-- A packet that its entry takes and its engine's buffer has room for is delivered, and taken from there at once where its type has no other work. -/
theorem State.dispatch_of_active {e : Nat} (h : s.copyEntry c = some e) (hst : s.rd TEN_SVC0_STATE e = svcActive)
    (hrun : s.rd ENG_STAT_STATE (s.svcEngine e) = engRun) (htakes : s.takesPacket e c.hdr.payload = true)
    (hroom : (s.inbox (s.svcEngine e)).length < 16) :
    s.dispatch k = ((s.completeSend (12 + k)).deliverEngine e c.hdr).takeAtOnce e := by
  have hlive : ¬ (s.rd TEN_SVC0_STATE e = svcHalted ||
      (s.rd TEN_SVC0_STATE e = svcActive && s.rd ENG_STAT_STATE (s.svcEngine e) ≠ engRun)) = true := by
    rw [hst, hrun]
    decide
  simp only [State.dispatch, hsend, h]
  rw [if_neg hlive, if_neg (by simp [htakes]), if_neg (by omega)]

end

/-- Only the phase and fabric management services take a packet at once. -/
theorem State.takeAtOnce_of_other {s : State} {e : Nat} (hphase : s.rd TEN_SVC0_TYPE e ≠ tyPhase) (hfabric : s.rd TEN_SVC0_TYPE e ≠ tyFabric) :
    s.takeAtOnce e = s := if_pos (by simp [hphase, hfabric])

theorem State.deliverEngine_regs (s : State) (e : Nat) (p : Packet) : (s.deliverEngine e p).regs = s.regs := rfl

/-! Outbound packets (R253), recorded edges (R256) and samples (R257). -/

theorem State.engineSend_of_stopped {s : State} {e : Nat} (h : s.svcRuns e = false) (payload : List Byte) : s.engineSend e payload = s :=
  if_pos (by simp [h])

/-- A payload of entry `e` waits last in its cluster's outbox. -/
def State.outQueued (s : State) (e : Nat) (payload : List Byte) : State :=
  let k := s.svcEngine e / 4
  { s with ten := { s.ten with outbox := Tab.put s.ten.outbox k (Tab.get s.ten.outbox k [] ++ [(e, payload)]) [] } }

/-- A payload with a slot to go out on joins its cluster's outbox. -/
theorem State.engineSend_of_runs {s : State} {e : Nat} (h : s.svcRuns e = true) (hslot : s.sendSlot e ≠ 0) (payload : List Byte) :
    s.engineSend e payload = (s.outQueued e payload).flushCluster (s.svcEngine e / 4) := if_neg (by simp [h, hslot])

theorem State.eventSend_of_stopped {s : State} {e : Nat} (h : s.svcRuns e = false) : s.eventSend e = s := by
  simp [State.eventSend, h]

/-- The oldest edges of entry `e`, 64 at most, no longer wait, and the sequence number is past theirs. -/
def State.edgesSent (s : State) (e : Nat) : State :=
  { s with ten := { s.ten with
    edges := Tab.put s.ten.edges e ((Tab.get s.ten.edges e []).drop 64) [],
    evSeq := Tab.put s.ten.evSeq e (wrapAdd 16 (Tab.get s.ten.evSeq e 0) ((Tab.get s.ten.edges e []).take 64).length) 0 } }

/-- At most 64 recorded edges leave in one packet, with the sequence numbers that follow the last. -/
theorem State.eventSend_of_edges {s : State} {e : Nat} (hrun : s.svcRuns e = true) (hty : s.rd TEN_SVC0_TYPE e = tyEvent)
    (hrun' : s.eventTake.svcRuns e = true) (hty' : s.eventTake.rd TEN_SVC0_TYPE e = tyEvent)
    (hedges : (Tab.get s.eventTake.ten.edges e []).isEmpty = false) :
    s.eventSend e = (s.eventTake.edgesSent e).engineSend e
      (State.stampRecords ((Tab.get s.eventTake.ten.edges e []).take 64) (Tab.get s.eventTake.ten.evSeq e 0)) := by
  simp only [State.eventSend, hrun, hty, BEq.rfl, Bool.and_self, if_true]
  exact if_neg (by simp [hrun', hty', hedges])

section
variable {s : State} {e : Nat} (hrun : s.svcRuns e = true) (hty : s.rd TEN_SVC0_TYPE e = tyPhase)
include hrun hty

/-- Samples that are no whole good cycle, or that no source asks for, are dropped. -/
theorem State.phaseCycle_of_unused (h : svWhole (s.cycleSamples e) (Tab.get s.ten.samples e []) = false ∨ s.rd CYC_CTRL_SRC ≠ 2) :
    s.phaseCycle e = { s with ten := { s.ten with samples := Tab.put s.ten.samples e [] [] } } := by
  rw [State.phaseCycle, if_neg (by simp [hrun, hty])]
  refine if_pos ?_
  rcases h with h | h
  · rw [h]
    rfl
  · exact Bool.or_eq_true_iff.mpr (.inr (decide_eq_true h))

/-- A whole good cycle is one observation of the mains unit. -/
theorem State.phaseCycle_of_whole (h : svWhole (s.cycleSamples e) (Tab.get s.ten.samples e []) = true) (hsrc : s.rd CYC_CTRL_SRC = 2) {u : State}
    (hu : u = (({ s with ten := { s.ten with samples := Tab.put s.ten.samples e [] [] } } : State).wrFree CYC_SV_SECLO_SEC_LO).wrFree CYC_SV_NS_NS) :
    s.phaseCycle e = (u.free 16).2.svCommit ((u.free 16).2.rd TMU_STAT_STEPCNT * 2 ^ 16 + (u.free 16).1) := by
  subst hu
  rw [State.phaseCycle, if_neg (by simp [hrun, hty])]
  refine if_neg ?_
  rw [h]
  simpa using hsrc

end

/-- Settles O23: each change of an entry by its checks, and its packets by whether the entry runs. -/
theorem serviceTable : Obligations.ServiceTable := by
  refine ⟨fun e w s h => congrArg _ (State.bindEntry_of_enabled h w.toNat), fun e w c s hen h => congrArg _ (State.bindEntry_of_failure hen h),
    fun e w s hen h => congrArg _ (State.bindEntry_of_ok hen h), fun e s hen hst hrun h hs => ?_,
    fun e c s hen hst hrun h => congrArg _ (State.activate_of_refused hen hst hrun h), fun e w s hen hs hinbox hedges => ?_,
    fun k c e s hsend h hst hrun htakes hroom hphase hfabric => ?_, fun k c s hsend h => congrArg _ (State.dispatch_of_noEntry hsend h),
    fun k c e s hsend h hst => congrArg _ (State.dispatch_of_halted hsend h hst),
    fun e payload s hrun hslot => congrArg _ (State.engineSend_of_runs hrun hslot payload),
    fun e payload s h => ⟨congrArg _ (State.engineSend_of_stopped h payload), congrArg _ (State.eventSend_of_stopped h)⟩,
    fun e s hrun hty hrun' hty' hedges => congrArg _ (State.eventSend_of_edges hrun hty hrun' hty' hedges),
    fun e s hrun hty h => congrArg _ (State.phaseCycle_of_unused hrun hty h),
    fun e s hrun hty h hsrc u hu => congrArg _ (State.phaseCycle_of_whole hrun hty h hsrc hu)⟩
  · exact ⟨_, congrArg Host.Outcome.next (State.activate_of_accepted hen hst hrun h), State.accepted_effect (State.sorted_readBlock hs e) e⟩
  · obtain ⟨hen0, hidle⟩ := State.unbindEntry_idle hs e w.toNat
    exact ⟨_, rfl, hen0, hidle, State.unbindEntry_emptied hen hinbox hedges w.toNat⟩
  · have hother := State.takeAtOnce_of_other (s := (s.completeSend (12 + k)).deliverEngine e c.hdr) (e := e)
      (by rw [State.rd_of_regs (State.deliverEngine_regs _ e c.hdr)]; exact hphase)
      (by rw [State.rd_of_regs (State.deliverEngine_regs _ e c.hdr)]; exact hfabric)
    exact congrArg _ ((State.dispatch_of_active hsend h hst hrun htakes hroom).trans hother)

end Sys2Proof.Machine
end

section
/-! PROOFS. The display service: its messages, its acknowledgements and what a flip leaves to copy (R283 to R291). -/

namespace Sys2Proof.Machine

/-! DRAM writes leave the registers of the display (R398). -/

theorem State.dramByte_regs (s : State) (a : Nat) (b : Byte) : (s.dramByte a b).regs = s.regs := by
  unfold State.dramByte
  split <;> rfl

theorem State.dramBytes_regs (s : State) (a : Nat) (l : List Byte) : (s.dramBytes a l).regs = s.regs := by
  induction l generalizing s a with
  | nil => rfl
  | cons b l ih => exact (ih _ _).trans (s.dramByte_regs a b)

/-- A write of DRAM counts in DRAM's own counters only. -/
theorem State.rd_dramWrite {F : Field} {i j : Nat} (hF : F.key i j < 8 * 0x230040) (s : State) (a : Nat) (l : List Byte) :
    (s.dramWrite a l).rd F i j = s.rd F i j := by
  have hcount : ∀ (u : State) k, (u.sat DRC_CNT_COUNT k).rd F i j = u.rd F i j := by
    intro u k
    have hlow : 8 * 0x230040 ≤ DRC_CNT_COUNT.key k 0 := by
      simp only [Field.key, Field.addr, DRC_CNT_COUNT]
      omega
    exact State.rd_wr_ne (by omega) _
  unfold State.dramWrite
  extract_lets s1 s2
  have hs1 : s1.rd F i j = s.rd F i j := by
    unfold s1
    split
    · exact hcount s 3
    · rfl
  have hs2 : s2.rd F i j = s1.rd F i j := by
    unfold s2
    split
    · exact hcount s1 2
    · rfl
  rw [State.rd_of_regs (s2.dramBytes_regs a l), hs2, hs1]

/-! Tiles (R284). -/

/-- The fields that say where the pixels of a layer lie. -/
def surfaceFields : List Field :=
  [LY_STAT_FRONT, LY_STRIDE_STRIDE, LY_SURF0_HI_ADDR, LY_SURF0_LO_ADDR, LY_SURF1_HI_ADDR, LY_SURF1_LO_ADDR]

/-- The layers' registers lie below DRAM's counters. -/
theorem surfaceFields_key_lt {F : Field} (hF : F ∈ surfaceFields) {h l : Nat} (hh : h < 2) (hl : l < 4) : F.key h l < 8 * 0x230040 := by
  have hfield : F.off < 0x1E1140 ∧ F.str = 0x1000 ∧ F.str2 = 0x40 ∧ F.lo < 32 := by
    revert F
    decide
  obtain ⟨hoff, hstr, hstr2, hlo⟩ := hfield
  simp only [Field.key, Field.addr, hstr, hstr2]
  omega

/-- A layer's surface lies where it lay. -/
def SurfaceKept (h l : Nat) (o s : State) : Prop := ∀ F ∈ surfaceFields, s.rd F h l = o.rd F h l

theorem SurfaceKept.backSurf {h l : Nat} {o s : State} (hkept : SurfaceKept h l o s) : s.backSurf h l = o.backSurf h l := by
  simp only [State.backSurf, State.shadowSurf, hkept LY_STAT_FRONT (by decide), hkept LY_SURF0_HI_ADDR (by decide),
    hkept LY_SURF0_LO_ADDR (by decide), hkept LY_SURF1_HI_ADDR (by decide), hkept LY_SURF1_LO_ADDR (by decide)]

/-- A pixel that is written moves no surface. -/
theorem SurfaceKept.setPixel {h l : Nat} {o s : State} (hh : h < 2) (hl : l < 4) (hkept : SurfaceKept h l o s) (base stride d x y v : Nat) :
    SurfaceKept h l o (s.setPixel base stride d x y v) :=
  fun F hF => (State.rd_dramWrite (surfaceFields_key_lt hF hh hl) s _ _).trans (hkept F hF)

/-- The pixels `px` of a tile take their indices, in the back surface of state `o`. -/
def State.tileInto (o s : State) (h l : Nat) (px : List (Nat × Nat × Nat)) (ix : List Nat) : State :=
  s.each px (fun s p => s.setPixel (o.backSurf h l) (o.rd LY_STRIDE_STRIDE h l) (o.rd LY_CTRL_DEPTH h l) p.2.1 p.2.2 (ix.getD p.1 0))

/-- Pixel by pixel, the surface written is that in which the tile began. -/
theorem State.tileInto_eq {h l : Nat} (hh : h < 2) (hl : l < 4) (s : State) (px : List (Nat × Nat × Nat)) (ix : List Nat) :
    s.each px (fun u p =>
      u.setPixel (u.backSurf h l) (u.rd LY_STRIDE_STRIDE h l) (s.rd LY_CTRL_DEPTH h l) p.2.1 p.2.2 (ix.getD p.1 0)) =
        s.tileInto s h l px ix := by
  refine State.each_congr (P := SurfaceKept h l s) (fun u p hu => hu.setPixel hh hl _ _ _ _ _ _) (fun u p hu => ?_) (fun _ _ => rfl) px
  rw [hu.backSurf, hu LY_STRIDE_STRIDE (by decide)]

/-- A whole TILE inside the layer, with indices of the layer's depth, is written to the back surface. -/
theorem State.tileMsg_dram {s : State} {h : Nat} {m : DispMsg} {ix : List Nat} (hh : h < 2) (hl : m.layer < 4)
    (hix : s.tileIndices h m.layer m = some ix) (hdepth : m.dcode = s.rd LY_CTRL_DEPTH h m.layer)
    (hx : ofBe (m.body.take 2) < (s.rd LY_SIZE_W h m.layer + 15) / 16)
    (hy : ofBe ((m.body.drop 2).take 2) < (s.rd LY_SIZE_H h m.layer + 15) / 16) (hlen : ix.length = 256)
    (hcodes : ix.all (fun v => v < 2 ^ 2 ^ s.rd LY_CTRL_DEPTH h m.layer) = true) (e : Nat) :
    (s.tileMsg e h m).dram =
      (s.tileInto s h m.layer (s.tilePixels h m.layer (ofBe (m.body.take 2)) (ofBe ((m.body.drop 2).take 2))) ix).dram := by
  have hany : ix.any (fun v => v ≥ 2 ^ 2 ^ s.rd LY_CTRL_DEPTH h m.layer) = false := by
    simpa [List.any_eq_false] using hcodes
  rw [← State.tileInto_eq hh hl]
  simp only [State.tileMsg, hix]
  rw [if_neg (by simp [hdepth, hx, hy, hlen, hany])]

theorem State.tileMsg_of_malformed {s : State} {h : Nat} {m : DispMsg} (hix : s.tileIndices h m.layer m = none) (e : Nat) :
    s.tileMsg e h m = s.dispCount e 4 := by
  simp only [State.tileMsg, hix]
  rfl

/-! Palettes (R285) and commits (R286, R292). -/

/-- A PALETTE inside its 256 entries takes effect, entry by entry. -/
theorem State.paletteMsg_of_whole {s : State} {m : DispMsg} (hlen : m.body.length = 4 + 4 * ((m.body.getD 1 0).toNat + 1))
    (hfit : (m.body.getD 0 0).toNat + ((m.body.getD 1 0).toNat + 1) ≤ 256) (e h : Nat) :
    s.paletteMsg e h m = s.each (List.range ((m.body.getD 1 0).toNat + 1)) (fun s i =>
      (((s.wr LY_PAL_ALPHA (m.body.getD (4 + 4 * i) 0).toNat h (256 * m.layer + (m.body.getD 0 0).toNat + i)).wr
        LY_PAL_RED (m.body.getD (4 + 4 * i + 1) 0).toNat h (256 * m.layer + (m.body.getD 0 0).toNat + i)).wr
          LY_PAL_GREEN (m.body.getD (4 + 4 * i + 2) 0).toNat h (256 * m.layer + (m.body.getD 0 0).toNat + i)).wr
            LY_PAL_BLUE (m.body.getD (4 + 4 * i + 3) 0).toNat h (256 * m.layer + (m.body.getD 0 0).toNat + i)) := by
  have hfit' : ¬ (m.body.getD 0 0).toNat + ((m.body.getD 1 0).toNat + 1) > 256 := by omega
  exact if_neg (by rw [Bool.or_eq_true, decide_eq_true_eq, decide_eq_true_eq, not_or]; exact ⟨not_not_intro hlen, hfit'⟩)

/-- The commit that a COMMIT without a target asks for. -/
def DispMsg.commit (m : DispMsg) (e ver due : Nat) (late : Bool) : SvcCommit :=
  { entry := e, batch := m.batch, tiles := ofBe ((m.body.drop 6).take 2), ackReq := ver ≥ 2 && (m.body.getD 4 0).toNat.testBit 1,
    due := due, late := late, tgt := false }

/-- A COMMIT that waits for its frame. -/
def State.commitWaits (s : State) (h : Nat) (m : DispMsg) (c : SvcCommit) : State :=
  { (s.wr LY_STAT_TPEND 1 h m.layer) with dsp := { s.dsp with svc := Tab.put s.dsp.svc (4 * h + m.layer) (some c) none } }

theorem State.commitMsg_of_ok {s : State} {h ver due : Nat} {m : DispMsg} {late : Bool} (hlen : m.body.length = 16)
    (hrun : s.restricted = false) (hown : s.on LY_CTRL_OWNER h m.layer = true) (hok : s.layerOk h m.layer = true)
    (hdue : s.commitDue h none = some (due, late)) (hver : ver < 3) (e : Nat) :
    s.commitMsg e h ver m = s.commitWaits h m (m.commit e ver due late) := by
  have hver' : decide (ver ≥ 3) = false := decide_eq_false (by omega)
  simp only [State.commitMsg, hlen, hrun, hown, hok, hver', hdue, Bool.false_and, Bool.not_true, Bool.false_eq_true, if_false, ne_eq,
    not_true_eq_false, Option.isSome_none]
  rfl

theorem State.commitMsg_of_restricted {s : State} {m : DispMsg} (hlen : m.body.length = 16) (hrun : s.restricted = true) (e h ver : Nat) :
    s.commitMsg e h ver m = s.refuseSvc e h 4 m (ver ≥ 2 && (m.body.getD 4 0).toNat.testBit 1) := by
  simp only [State.commitMsg, hlen, hrun, ne_eq, not_true_eq_false, if_false, if_true]

/-! The next message of an entry (R283, R287 to R289). -/

theorem State.dispHead_lt (s : State) (e : Nat) : s.dispHead e < 2 := Nat.mod_lt _ (by decide)

theorem State.parseMsg_layer_lt (raw : List Byte) : (State.parseMsg raw).layer < 4 := bitsOf_lt _ 7 6

/-- The next message of a running display entry, of the type awaited, takes effect. -/
theorem State.serveMsg_of_taken {s s1 : State} {e ty : Nat} {raw : List Byte} (hrun : s.svcRuns e = true)
    (hty : s.rd TEN_SVC0_TYPE e = tyDisplay)
    (htake : (s.replay e).takeMessage e tyDisplay [ty] (fun s => s.badMsg e) State.goodMsg = (s1, some raw)) :
    s.serveMsg e ty = s1.dispMsg e raw := by
  rw [State.serveMsg, if_neg (by simp [hrun, hty])]
  simp only [htake]

/-- The entry `e` may serve the message `m` on head `h` at once: the layer is its own, the version allows the message, and no commit is pending or past. -/
structure Serves (s : State) (e h : Nat) (m : DispMsg) : Prop where
  mask : (s.param e 1 1).testBit m.layer = true
  anyLayer : s.rd CTX1_DEST (s.rd TEN_SVC1_RXSLOT e) % 8 = 0
  version : State.versionAllows (s.rd CTX2_VER (s.rd TEN_SVC1_RXSLOT e)) m = true
  size : m.body.length ≤ 2048
  fresh : Tab.get s.dsp.last (4 * h + m.layer) none = none
  free : s.svcPend h m.layer = none

/-- A message that may be served takes effect by its type, a TILE or a PALETTE only where the service owns the layer. -/
theorem State.dispMsg_of_serves {s : State} {e : Nat} {raw : List Byte} (h : Serves s e (s.dispHead e) (State.parseMsg raw)) :
    s.dispMsg e raw =
      if (State.parseMsg raw).ty = msgCommit then
        (s.copyBack (s.dispHead e) (State.parseMsg raw).layer).commitMsg e (s.dispHead e) (s.rd CTX2_VER (s.rd TEN_SVC1_RXSLOT e))
          (State.parseMsg raw)
      else if !s.on LY_CTRL_OWNER (s.dispHead e) (State.parseMsg raw).layer then s.badMsg e
      else if (State.parseMsg raw).ty = msgTile then
        (s.copyBack (s.dispHead e) (State.parseMsg raw).layer).tileMsg e (s.dispHead e) (State.parseMsg raw)
      else s.paletteMsg e (s.dispHead e) (State.parseMsg raw) := by
  obtain ⟨hmask, hlayer, hver, hsize, hfresh, hfree⟩ := h
  unfold State.dispMsg
  extract_lets m hd y slot fn ver old waits
  have htaken : ¬ (!(s.param e 1 1).testBit m.layer || (fn ≠ 0 && m.layer + 1 ≠ fn) || !State.versionAllows ver m || m.body.length > 2048) =
      true := by
    have hany : fn = 0 := hlayer
    simp [m, ver, slot, hany, hmask, hver, hsize]
  have hold : old = false := by
    unfold old y hd m
    rw [hfresh]
  have hwaits : waits = false := by
    unfold waits hd m
    rw [hfree]
  have hnone : (s.svcPend hd m.layer).isSome = false := by
    unfold hd m
    rw [hfree]
    rfl
  rw [if_neg htaken, hwaits, hold, hnone]
  simp only [Bool.false_eq_true, if_false, Bool.and_false, Bool.or_false]
  rfl

/-! Acknowledgements and copies (R287, R290). -/

theorem State.sendAck_of_runs {s : State} {e : Nat} {a : DispAck} {l : List DispAck} (hacks : Tab.get s.dsp.acks e [] = a :: l)
    (hrun : s.svcRuns e = true) (hty : s.rd TEN_SVC0_TYPE e = tyDisplay) :
    s.sendAck e = ({ s with dsp := { s.dsp with acks := Tab.put s.dsp.acks e l [] } } : State).engineSend e (State.ackBytes a) := by
  simp only [State.sendAck, hacks]
  exact if_neg (by simp [hrun, hty])

theorem State.tileCopy_of_served {s : State} {h l e : Nat}
    (hserved : (List.range 128).find? (fun e => s.svcRuns e && s.rd TEN_SVC0_TYPE e == tyDisplay && s.dispHead e == h &&
      (s.param e 1 1).testBit l) = some e) : s.tileCopy h l = (s.copyBack h l).replay e := by
  simp only [State.tileCopy, hserved]

/-- Settles O29: the next message of an entry by its type, the tile's surface kept by every pixel written, and the mailbox opcodes as any request. -/
theorem displayService : Obligations.DisplayService := by
  refine ⟨fun e raw m h ix s s1 u hrun hty htake hm hh hmask hfn hver hsize hlast hpend hmty hown hu hix hdepth hx hy hlen hcodes => ?_,
    fun e raw m h cnt s s1 hrun hty htake hm hh hmask hfn hver hsize hlast hpend hmty hown hcnt hlen hfit => ?_,
    fun e raw m h due late s s1 u hrun hty htake hm hh hmask hfn hver hsize hlast hpend hmty hu hlen hlive hown hok hdue hold => ?_,
    fun e h m s hix => State.tileMsg_of_malformed hix e, fun e h ver m s hlen hrun => State.commitMsg_of_restricted hlen hrun e h ver,
    fun e a l s hacks hrun hty => congrArg _ (State.sendAck_of_runs hacks hrun hty),
    fun h l e s hserved => congrArg _ (State.tileCopy_of_served hserved),
    fun n m e s hbusy hrun hs => ⟨_, rfl, State.mbxSubmit_accepted hbusy hrun hs (by decide) (by decide) e.isLt⟩,
    fun n m e s hbusy hrun hs => ⟨_, rfl, State.mbxSubmit_accepted hbusy hrun hs (by decide) (by decide) e.isLt⟩⟩
  · subst hm hh hu
    have htile : (State.parseMsg raw).ty = msgTile := hmty
    have heffect : s1.dispMsg e raw = (s1.copyBack (s1.dispHead e) (State.parseMsg raw).layer).tileMsg e (s1.dispHead e) (State.parseMsg raw) := by
      rw [State.dispMsg_of_serves ⟨hmask, hfn, hver, hsize, hlast, hpend⟩, if_neg (by rw [htile]; decide), if_neg (by simp [hown]),
        if_pos htile]
    exact ⟨_, congrArg Host.Outcome.next ((State.serveMsg_of_taken hrun hty htake).trans heffect),
      State.tileMsg_dram (s1.dispHead_lt e) (State.parseMsg_layer_lt raw) hix hdepth hx hy hlen hcodes e⟩
  · subst hm hh hcnt
    have hpal : (State.parseMsg raw).ty = msgPalette := hmty
    have heffect : s1.dispMsg e raw = s1.paletteMsg e (s1.dispHead e) (State.parseMsg raw) := by
      rw [State.dispMsg_of_serves ⟨hmask, hfn, hver, hsize, hlast, hpend⟩, if_neg (by rw [hpal]; decide), if_neg (by simp [hown]),
        if_neg (by rw [hpal]; decide)]
    exact congrArg Host.Outcome.next ((State.serveMsg_of_taken hrun hty htake).trans (heffect.trans (State.paletteMsg_of_whole hlen hfit _ _)))
  · subst hm hh hu
    have hcommit : (State.parseMsg raw).ty = msgCommit := hmty
    have heffect : s1.dispMsg e raw = (s1.copyBack (s1.dispHead e) (State.parseMsg raw).layer).commitWaits (s1.dispHead e) (State.parseMsg raw)
        ((State.parseMsg raw).commit e (s1.rd CTX2_VER (s1.rd TEN_SVC1_RXSLOT e)) due late) := by
      rw [State.dispMsg_of_serves ⟨hmask, hfn, hver, hsize, hlast, hpend⟩, if_pos hcommit,
        State.commitMsg_of_ok hlen hlive hown hok hdue hold]
    refine ⟨_, _, congrArg Host.Outcome.next ((State.serveMsg_of_taken hrun hty htake).trans heffect), ?_, rfl, rfl, rfl, rfl, rfl, rfl⟩
    exact State.on_wr_one (F := LY_STAT_TPEND) ⟨by decide, rfl, rfl⟩ _ _ _

end Sys2Proof.Machine
end

section
/-! PROOFS. Display heads: enabling and training, frames and the tearing effect, missed fetches, and software commits up to their apply point (R267, R268, R274 to R282). -/

namespace Sys2Proof.Machine

/-! Writes of HD_CTRL (R267). -/

/-- The fields of HD_CTRL that any write takes. -/
def State.headWordTaken (s : State) (h w : Nat) : State := s.writeFields (s.on DSP_CTRL_LOCK) [HD_CTRL_LOCK, HD_CTRL_WIN] h 0 w

/-- The fields of HD_CTRL that a write of a stopped head takes: head B also its output. -/
def State.headModeTaken (s : State) (h w : Nat) : State :=
  ((s.headWordTaken h w).when (h = 1) (·.writeField (s.on DSP_CTRL_LOCK) HD_CTRL_OUT h 0 w)).writeField (s.on DSP_CTRL_LOCK) HD_CTRL_CMD h 0 w

@[simp] theorem State.when_false (s : State) (f : State → State) : s.when false f = s := rfl

/-- What a write of HD_CTRL does that changes no field of a running head that must stay, and leaves no LOCK. -/
theorem State.headCtrlWrite_of_unlocked {s : State} {h w : Nat}
    (hsame : (s.on HD_CTRL_EN h && (s.fieldChanges HD_CTRL_OUT h 0 w || s.fieldChanges HD_CTRL_CMD h 0 w)) = false)
    (hlock : (s.headWordTaken h w).on HD_CTRL_LOCK h = false) :
    s.headCtrlWrite h w =
      let taken := if s.on HD_CTRL_EN h then s.headWordTaken h w else s.headModeTaken h w
      if w.testBit 31 == s.on HD_CTRL_EN h then taken
      else if s.on HD_CTRL_EN h then (taken.wr HD_CTRL_EN 0 h).headStop h else taken.headEnable h := by
  unfold State.headCtrlWrite
  extract_lets en lk frozen s1 s2 s3 s4 taken
  have hs2 : s2 = s.headWordTaken h w := by
    unfold s2 s1 frozen
    rw [hsame, State.when_false]
    rfl
  have hs3 : s3 = s.headWordTaken h w := by
    unfold s3
    rw [hs2, hlock, Bool.false_and, State.when_false]
  have hs4 : s4 = taken := by
    unfold s4
    rw [hs3]
    rfl
  rw [hs4]

theorem State.headCtrlWrite_of_start {s : State} {h w : Nat} (hen : s.on HD_CTRL_EN h = false) (hw : w.testBit 31 = true)
    (hlock : (s.headWordTaken h w).on HD_CTRL_LOCK h = false) : s.headCtrlWrite h w = (s.headModeTaken h w).headEnable h := by
  rw [State.headCtrlWrite_of_unlocked (by rw [hen, Bool.false_and]) hlock]
  simp only [hen, hw, Bool.true_beq, Bool.false_eq_true, if_false]

theorem State.headCtrlWrite_of_stop {s : State} {h w : Nat} (hen : s.on HD_CTRL_EN h = true) (hw : w.testBit 31 = false)
    (hout : bitsOf w HD_CTRL_OUT.hi HD_CTRL_OUT.lo = s.rd HD_CTRL_OUT h) (hcmd : bitsOf w HD_CTRL_CMD.hi HD_CTRL_CMD.lo = s.rd HD_CTRL_CMD h)
    (hlock : (s.headWordTaken h w).on HD_CTRL_LOCK h = false) :
    s.headCtrlWrite h w = ((s.headWordTaken h w).wr HD_CTRL_EN 0 h).headStop h := by
  rw [State.headCtrlWrite_of_unlocked (by simp [State.fieldChanges, hout, hcmd]) hlock]
  simp only [hen, hw, Bool.false_beq, Bool.not_true, Bool.false_eq_true, if_false, if_true]

theorem State.headEnable_of_passed {s : State} {h : Nat} (hpass : s.headFailure h = none)
    (hlink : (s.on HD_CTRL_OUT h && !s.dsp.dpOn) = false) :
    s.headEnable h = (((s.arm (.te h) 0).wr HD_CTRL_EN 1 h).wr HD_STAT_CFGERR 0 h).wr HD_STAT_STATE 2 h := by
  unfold State.headEnable
  rw [hpass, hlink]
  exact congrArg (fun v => State.wr _ HD_STAT_STATE v h) (if_neg Bool.false_ne_true)

/-! DisplayPort training (R268). -/

/-- The link trained at a rate and a lane code. -/
def State.dpTrained (s : State) (rate lanes : Nat) : State :=
  { ((s.wr HD_LINK_DPRATE rate 1).wr HD_LINK_DPLANES (if s.rd UPD_ALTSTAT_PIN = 2 then min lanes 2 else lanes) 1) with
    dsp := { s.dsp with dpOn := true } }

section
variable {s : State} {rate lanes : Nat} (hmode : s.rd UPD_ALTSTAT_MODE = 1) (hhpd : s.on HD_LINK_HPD 1 = true)
  (hout : s.on HD_CTRL_OUT 1 = true) (hpower : s.fullPower = true)
include hmode hhpd hout hpower

/-- In DisplayPort mode, with HPD, the output on DisplayPort and full power, the end of training is taken. -/
theorem State.dpTrains : ¬ (s.rd UPD_ALTSTAT_MODE ≠ 1 || !s.on HD_LINK_HPD 1 || !s.on HD_CTRL_OUT 1 || !s.fullPower) = true := by
  simp [hmode, hhpd, hout, hpower]

theorem State.dpTrain_of_failed (hnone : rate = 0 ∨ lanes = 0) : s.dpTrain rate lanes = s.dpDrop.headError 1 .dpTrain := by
  rw [State.dpTrain, if_neg (State.dpTrains hmode hhpd hout hpower), if_pos (by simpa using hnone)]

theorem State.dpTrain_of_trained (hrate : rate ≠ 0) (hlanes : lanes ≠ 0) (hbw : (s.dpTrained rate lanes).bandwidthOk 1 = true)
    (hen : (s.dpTrained rate lanes).on HD_CTRL_EN 1 = true) :
    s.dpTrain rate lanes = ((s.dpTrained rate lanes).wr HD_STAT_CFGERR 0 1).wr HD_STAT_STATE 2 1 := by
  rw [State.dpTrain, if_neg (State.dpTrains hmode hhpd hout hpower), if_neg (by simp [hrate, hlanes])]
  show (if !(s.dpTrained rate lanes).bandwidthOk 1 then _ else if (s.dpTrained rate lanes).on HD_CTRL_EN 1 then _ else _) = _
  rw [if_neg (by simp [hbw]), if_pos hen]
  rfl

end

/-! Frames (R275, R281, R282). -/

/-- A new frame opens the commit window and has missed no burst. -/
def State.frameOpened (s : State) (h : Nat) : State :=
  { s with dsp := { s.dsp with
      closed := Tab.put s.dsp.closed h false false, under := Tab.put s.dsp.under h false false, missed := Tab.put s.dsp.missed h [] [] } }

theorem State.frameStart_of_unlocked_video {s : State} {h : Nat} (hrun : s.headRuns h = true) (hcmd : s.on HD_CTRL_CMD h = false)
    (hlock : s.lockOn h = false) (ago : Nat) : s.frameStart h ago = (s.wr HD_STAT_LOCKED 0 h).freeFrame h := by
  rw [State.frameStart, if_neg (by simp [hrun]), if_pos (by simp [hcmd]), State.videoFrame]
  exact if_pos (by simp [hlock])

theorem State.freeFrame_of_no_flip {s : State} {h : Nat} (hflip : Tab.get s.dsp.flip h false = false) :
    s.freeFrame h = (s.wr HD_FCOUNT_FRAME (s.rd HD_FCOUNT_FRAME h + 1) h).frameOpened h := if_pos (by simp [hflip])

theorem State.teEdge_of_first {s : State} {h ago : Nat} {fall : Bool} (hrun : s.headRuns h = true) (hcmd : s.on HD_CTRL_CMD h = true)
    (hsense : s.on HD_TE_EDGE h = fall) (hheld : ago ≥ s.rd HD_TE_FILT h * 100 * 2 ^ 32) (hfirst : Tab.get s.dsp.teLast h none = none)
    (hidle : Tab.get s.dsp.xfer h false = false) {u : State} (hu : u = ((s.arm (.te h) 0).wr HD_STAT_TEVALID 1 h).causeOff (101 + h)) :
    s.teEdge h fall ago = ({ u with dsp := { u.dsp with
      teLast := Tab.put u.dsp.teLast h (some (s.tmu.elapsed - ago)) none, xfer := Tab.put u.dsp.xfer h true false } } : State).frameBegins
        h (u.rd HD_FCOUNT_FRAME h + 1) (Wide.ofUnits (s.tmu.tod.units - ago)) := by
  subst hu
  unfold State.teEdge
  extract_lets e near
  have hnear : near = false := by
    unfold near
    rw [hfirst]
  have htaken : ¬ (!s.headRuns h || !s.on HD_CTRL_CMD h || s.on HD_TE_EDGE h != fall || ago < s.rd HD_TE_FILT h * 100 * 2 ^ 32) = true := by
    simp only [hrun, hcmd, hsense, decide_eq_false (Nat.not_lt.mpr hheld), Bool.not_true, bne_self_eq_false, Bool.or_false,
      Bool.false_eq_true, not_false_eq_true]
  rw [if_neg htaken, if_neg (by simp [hnear, hidle])]

theorem State.teTimeout_of_ran {s : State} {h : Nat} (hrun : s.headRuns h = true) (hcmd : s.on HD_CTRL_CMD h = true)
    (hcause : Tab.get s.flt.cause (101 + h) false = false) (hran : s.ran (.te h) (s.rd HD_TE_TETO h * 10000000) = true) :
    s.teTimeout h = ((({ s with dsp := { s.dsp with ownAt := Tab.put s.dsp.ownAt h s.tmu.elapsed 0 } } : State).wr
      HD_STAT_TEVALID 0 h).sat HD_CNT_COUNT h 5).causeOn (101 + h) 0 :=
  if_neg (by simp [hrun, hcmd, hcause, hran])

/-! Missed fetches (R274). -/

theorem State.rd_sat_self {s : State} (hs : Tab.sorted s.regs = true) (F : Field) (i j : Nat) :
    (s.sat F i j).rd F i j = min (s.rd F i j + 1) (2 ^ F.width - 1) := by
  have hpos : 0 < 2 ^ F.width := Nat.two_pow_pos _
  rw [State.sat, State.satBy, State.rd_wr_self hs, satAdd, Nat.mod_eq_of_lt (by omega)]

/-- A late or damaged burst is counted, and not shown in this frame. -/
def State.burstLost (s : State) (h l y k : Nat) (ecc : Bool) : State :=
  { s.sat HD_CNT_COUNT h (if ecc then 2 else 1) with
    dsp := { s.dsp with missed := Tab.put s.dsp.missed h ((l, y, k) :: Tab.get s.dsp.missed h []) [] } }

theorem State.missed_burstLost (s : State) (h l y k : Nat) (ecc : Bool) :
    Tab.get (s.burstLost h l y k ecc).dsp.missed h [] = (l, y, k) :: Tab.get s.dsp.missed h [] := by
  unfold State.burstLost
  exact Tab.get_put_listed (List.cons_ne_nil (l, y, k) (Tab.get s.dsp.missed h [])) _ _ _

section
variable {s : State} {h : Nat} (hrun : s.headRuns h = true) (l y k : Nat) (ecc : Bool)
include hrun

theorem State.fetchMiss_of_faulted (hunder : Tab.get s.dsp.under h false = true) : s.fetchMiss h l y k ecc = s.burstLost h l y k ecc := by
  rw [State.fetchMiss, if_neg (by simp [hrun])]
  exact if_pos hunder

theorem State.fetchMiss_of_first (hunder : Tab.get s.dsp.under h false = false) : s.fetchMiss h l y k ecc =
    ({ s.burstLost h l y k ecc with
       dsp := { (s.burstLost h l y k ecc).dsp with under := Tab.put s.dsp.under h true false } } : State).fault (99 + h) l := by
  rw [State.fetchMiss, if_neg (by simp [hrun])]
  exact if_neg (by simp [State.hdCount, hunder])

end

/-! Software commits (R276 to R279). -/

theorem State.softCommit_of_off {s : State} {h w : Nat} (hgo : w.testBit 31 = true) (hst : s.rd HD_STAT_STATE h ≠ 2) :
    s.softCommit h w = s.commitRefuse h .off := by
  simp only [State.softCommit, hgo, hst, Bool.not_true, Bool.false_eq_true, if_false, ne_eq, not_false_eq_true, decide_true, Bool.true_or,
    if_true]

/-- A software commit without a target passes every check of head `h`. -/
structure CommitOk (s : State) (h w : Nat) : Prop where
  state : s.rd HD_STAT_STATE h = 2
  runs : s.headRuns h = true
  live : s.restricted = false
  free : (List.range 4).all (fun l => !((bitsOf w 19 16 ||| bitsOf w 23 20).testBit l && s.on LY_STAT_PEND h l)) = true
  bgFree : (w.testBit 28 && s.on HD_COMMIT_BGPEND h) = false
  owned : (List.range 4).all (fun l => !((bitsOf w 23 20).testBit l && s.on LY_CTRL_OWNER h l)) = true
  valid : (List.range 4).all (fun l => !((bitsOf w 19 16).testBit l && !s.layerOk h l)) = true

theorem State.softCommit_of_ok {s : State} {h w due : Nat} {late : Bool} (hgo : w.testBit 31 = true) (htgt : w.testBit 29 = false)
    (hok : CommitOk s h w) (hdue : s.commitDue h none = some (due, late)) :
    s.softCommit h w = (s.wr HD_COMMIT_CODE 0 h).setSoft h (s.softPend h ++
      [{ lmask := bitsOf w 19 16, flip := bitsOf w 23 20, bg := w.testBit 28, due := due, late := late, tgt := false }]) := by
  obtain ⟨hst, hrun, hlive, hfree, hbg, hown, hvalid⟩ := hok
  rw [← List.not_any_eq_all_not, Bool.not_eq_true'] at hfree hown hvalid
  simp only [State.softCommit, hgo, htgt, hst, hrun, hlive, hfree, hbg, hown, hvalid, hdue, Bool.not_true, Bool.false_eq_true, if_false,
    ne_eq, not_true_eq_false, decide_false, Bool.or_false, Option.isSome_none, Bool.false_and]

/-! What the apply point's register writes leave alone (R276). -/

/-- The display's store, DRAM and the background's register of head `h` are those of state `o`. -/
structure DisplayKept (h : Nat) (o s : State) : Prop where
  dsp : s.dsp = o.dsp
  dram : s.dram = o.dram
  rgb : s.rd HD_BG_RGB h = o.rd HD_BG_RGB h

namespace DisplayKept

variable {h : Nat} {o s t : State}

theorem refl (h : Nat) (s : State) : DisplayKept h s s := ⟨rfl, rfl, rfl⟩

theorem trans (hs : DisplayKept h o s) (ht : DisplayKept h s t) : DisplayKept h o t :=
  ⟨ht.dsp.trans hs.dsp, ht.dram.trans hs.dram, ht.rgb.trans hs.rgb⟩

theorem wr (hs : DisplayKept h o s) {F : Field} {i j : Nat} (hF : F.key i j ≠ HD_BG_RGB.key h 0) (v : Nat) :
    DisplayKept h o (s.wr F v i j) := ⟨hs.dsp, hs.dram, (State.rd_wr_ne hF v).trans hs.rgb⟩

theorem wrOtherBit (hs : DisplayKept h o s) {F : Field} (hF : F.otherBit HD_BG_RGB = true) (v i j : Nat) : DisplayKept h o (s.wr F v i j) :=
  hs.wr (Field.key_ne_of_otherBit hF _ _ _ _) v

/-- The display's store replaced in both states. -/
theorem withDsp (hs : DisplayKept h o s) (f : Dsp → Dsp) : DisplayKept h { o with dsp := f o.dsp } { s with dsp := f s.dsp } :=
  ⟨congrArg f hs.dsp, hs.dram, hs.rgb⟩

theorem each {α : Type} {f : State → α → State} (hf : ∀ u a, DisplayKept h u (f u a)) (s : State) (l : List α) :
    DisplayKept h s (s.each l f) := State.each_keeps (P := DisplayKept h s) (fun u a _ hu => hu.trans (hf u a)) (.refl h s)

theorem when (s : State) (b : Bool) {f : State → State} (hf : DisplayKept h s (f s)) : DisplayKept h s (s.when b f) := by
  cases b
  · exact .refl h s
  · exact hf

theorem softPend (hs : DisplayKept h o s) : s.softPend h = o.softPend h := congrArg (fun d : Dsp => Tab.get d.soft h []) hs.dsp

end DisplayKept

/-- The bursts that the frame skipped are counted (R273). -/
def State.skipsCounted (s : State) (h : Nat) : State :=
  s.each (List.range 4) (fun s l => s.wr LY_SKIP_COUNT (s.rd LY_SKIP_COUNT h l + s.skipped h l) h l)

theorem State.skipsCounted_kept (s : State) (h : Nat) : DisplayKept h s (s.skipsCounted h) := by
  refine DisplayKept.each (fun u l => (DisplayKept.refl h u).wr ?_ _) _ _
  simp only [Field.key, Field.addr, LY_SKIP_COUNT, HD_BG_RGB]
  omega

theorem State.showOpaque_kept (s : State) (h : Nat) : DisplayKept h s (s.showOpaque h) :=
  DisplayKept.each (fun u l => (DisplayKept.refl h u).wrOtherBit (F := LY_STAT_OPQ) (by decide) _ _ _) _ _

theorem State.showPend_kept (s : State) (h : Nat) : DisplayKept h s (s.showPend h) :=
  DisplayKept.wrOtherBit (F := HD_COMMIT_BGPEND)
    (DisplayKept.each (fun u _ => (DisplayKept.refl h u).wrOtherBit (F := LY_STAT_PEND) (by decide) _ _ _) _ _) (by decide) _ _ _

theorem State.setSoft_kept (s : State) (h : Nat) (l : List HeadCommit) :
    DisplayKept h { s with dsp := { s.dsp with soft := Tab.put s.dsp.soft h l [] } } (s.setSoft h l) := State.showPend_kept _ h

theorem State.lateCommit_kept (s : State) (h : Nat) (late jump : Bool) : DisplayKept h s (s.lateCommit h late jump) := by
  have hcount : HD_CNT_COUNT.key h 0 ≠ HD_BG_RGB.key h 0 := by
    simp only [Field.key, Field.addr, HD_CNT_COUNT, HD_BG_RGB]
    omega
  have hflag : DisplayKept h s (s.when (late || jump) (·.hdFlag HD_STAT_LATE h)) :=
    DisplayKept.when _ _ ((DisplayKept.refl h s).wrOtherBit (F := HD_STAT_LATE) (by decide) _ _ _)
  exact hflag.trans (DisplayKept.when _ _ ((DisplayKept.refl h _).wr hcount _))

/-! A software commit applies (R276, R278). -/

/-- The layers' active settings and registers may change, and nothing else of the display, DRAM or the background. -/
def LayersOnly (h : Nat) (o s : State) : Prop := ∃ active, DisplayKept h { o with dsp := { o.dsp with active := active } } s

namespace LayersOnly

variable {h : Nat} {o s : State}

theorem refl (h : Nat) (s : State) : LayersOnly h s s := ⟨s.dsp.active, .refl h s⟩

theorem wrOtherBit (hs : LayersOnly h o s) {F : Field} (hF : F.otherBit HD_BG_RGB = true) (v i j : Nat) : LayersOnly h o (s.wr F v i j) := by
  obtain ⟨active, hs⟩ := hs
  exact ⟨active, hs.wrOtherBit hF v i j⟩

theorem setLayer (hs : LayersOnly h o s) (l : Nat) (x : LayerSet) : LayersOnly h o (s.setLayer h l x) := by
  obtain ⟨active, hs⟩ := hs
  exact ⟨_, hs.withDsp fun d => { d with active := Tab.put d.active (4 * h + l) x {} }⟩

theorem when (hs : LayersOnly h o s) (b : Bool) {f : State → State} (hf : LayersOnly h o (f s)) : LayersOnly h o (s.when b f) := by
  cases b
  · exact hs
  · exact hf

theorem applyContent (hs : LayersOnly h o s) (l : Nat) : LayersOnly h o (s.applyContent h l) := hs.setLayer l _

theorem applyPlace (hs : LayersOnly h o s) (l : Nat) : LayersOnly h o (s.applyPlace h l) :=
  (hs.setLayer l _).wrOtherBit (F := LY_STAT_ACTEN) (by decide) _ _ _

theorem toggleFront (hs : LayersOnly h o s) (l : Nat) : LayersOnly h o (s.toggleFront h l) :=
  hs.wrOtherBit (F := LY_STAT_FRONT) (by decide) _ _ _

end LayersOnly

/-- The background of head `h` follows its register. -/
def State.bgTaken (s : State) (h : Nat) : State := { s with dsp := { s.dsp with bg := Tab.put s.dsp.bg h (s.rd HD_BG_RGB h) 0 } }

/-- The background that head `h` shows once a commit has applied. -/
def State.bgAfter (s : State) (h : Nat) (c : HeadCommit) : Tab Nat :=
  if c.bg then Tab.put s.dsp.bg h (s.rd HD_BG_RGB h) 0 else s.dsp.bg

/-- The layers once a commit has applied. -/
def State.layersApplied (s : State) (h : Nat) (c : HeadCommit) : State :=
  s.each (List.range 4) (fun s l =>
    let a := s.when (c.lmask.testBit l) (fun s => (s.when (!s.on LY_CTRL_OWNER h l) (·.applyContent h l)).applyPlace h l)
    a.when (c.flip.testBit l) (·.toggleFront h l))

theorem State.layersApplied_only (s : State) (h : Nat) (c : HeadCommit) : LayersOnly h s (s.layersApplied h c) := by
  refine State.each_keeps (P := LayersOnly h s) (fun u l _ hu => ?_) (.refl h s)
  have htaken : LayersOnly h s (u.when (c.lmask.testBit l) fun s =>
      (s.when (!s.on LY_CTRL_OWNER h l) (·.applyContent h l)).applyPlace h l) :=
    hu.when _ ((hu.when _ (hu.applyContent l)).applyPlace l)
  exact htaken.when _ (htaken.toggleFront l)

/-- A commit turns the layers that it names, and the background where it has it. -/
theorem State.applySoft_kept (s : State) (h : Nat) (c : HeadCommit) :
    ∃ active, DisplayKept h { s with dsp := { s.dsp with active := active, bg := s.bgAfter h c } } (s.applySoft h c) := by
  obtain ⟨active, hlayers⟩ := s.layersApplied_only h c
  refine ⟨active, ?_⟩
  cases hbg : c.bg with
  | false =>
    have hsame : s.bgAfter h c = s.dsp.bg := if_neg (by simp [hbg])
    have happly : s.applySoft h c = s.layersApplied h c := if_neg (by simp [hbg])
    rw [hsame, happly]
    exact hlayers
  | true =>
    have hnew : s.bgAfter h c = Tab.put s.dsp.bg h (s.rd HD_BG_RGB h) 0 := if_pos hbg
    have happly : s.applySoft h c = (s.layersApplied h c).bgTaken h := if_pos hbg
    have hrgb : (s.layersApplied h c).rd HD_BG_RGB h = s.rd HD_BG_RGB h := hlayers.rgb
    rw [hnew, happly, State.bgTaken, hrgb]
    exact hlayers.withDsp fun d => { d with bg := Tab.put d.bg h (s.rd HD_BG_RGB h) 0 }

/-! The apply point (R276, R280). -/

/-- The frame that comes next. -/
def State.nextFrame (s : State) (h : Nat) : Nat := (s.rd HD_FCOUNT_FRAME h + 1) % 2 ^ 32

/-- The waiting software commits that fall due for the coming frame. -/
def State.softDue (s : State) (h : Nat) : List HeadCommit := (s.softPend h).filter (fun c => diffFrame (s.nextFrame h) c.due ≥ 0)

/-- The software commits that wait on past the coming frame. -/
def State.softLater (s : State) (h : Nat) : List HeadCommit := (s.softPend h).filter (fun c => diffFrame (s.nextFrame h) c.due < 0)

/-- Commits apply for frame `f`, one after the other. -/
def State.applyDue (s : State) (h f : Nat) (l : List HeadCommit) : State :=
  s.each l (fun s c => (s.applySoft h c).lateCommit h c.late (c.tgt && f != c.due))

/-- The commit window closes, and a transfer ends. -/
def State.windowShut (s : State) (h : Nat) : State :=
  { s with dsp := { s.dsp with closed := Tab.put s.dsp.closed h true false, xfer := Tab.put s.dsp.xfer h false false } }

@[simp] theorem State.windowShut_dsp (s : State) (h : Nat) : (s.windowShut h).dsp =
    { s.dsp with closed := Tab.put s.dsp.closed h true false, xfer := Tab.put s.dsp.xfer h false false } := rfl

/-- What the head is when the commits due have applied, none of them of a service. -/
def State.softApplied (s : State) (h : Nat) : State :=
  (((s.skipsCounted h).applyDue h (s.nextFrame h) (s.softDue h)).setSoft h (s.softLater h)).showOpaque h

/-- The coming frame `f` is marked as a flip, of commits whose targets are `ts`. -/
def State.flipMarked (s : State) (h f : Nat) (ts : List Nat) : State :=
  { (s.wr HD_FLIP_FRAME_FRAME f h).hdFlag HD_STAT_FLIPEV h with
    dsp := { s.dsp with flip := Tab.put s.dsp.flip h true false, flipT := Tab.put s.dsp.flipT h ts [] } }

@[simp] theorem State.flipMarked_dsp (s : State) (h f : Nat) (ts : List Nat) : (s.flipMarked h f ts).dsp =
    { s.dsp with flip := Tab.put s.dsp.flip h true false, flipT := Tab.put s.dsp.flipT h ts [] } := rfl

theorem State.applyDue_svc (s : State) (h f : Nat) (l : List HeadCommit) : (s.applyDue h f l).dsp.svc = s.dsp.svc := by
  refine State.each_keeps (P := fun u => u.dsp.svc = s.dsp.svc) (fun u c _ hu => ?_) rfl
  obtain ⟨active, happly⟩ := u.applySoft_kept h c
  have hsvc := congrArg Dsp.svc (happly.trans (State.lateCommit_kept _ h c.late (c.tgt && f != c.due))).dsp
  exact hsvc.trans hu

/-- Where no service commit waits, the software commits due apply, and the coming frame is a flip if there are any. -/
theorem State.applyPoint_of_no_service {s : State} {h : Nat} (hrun : s.headRuns h = true) (hsvc : s.dsp.svc = []) :
    s.applyPoint h = if (s.softDue h).isEmpty then (s.softApplied h).windowShut h
      else (((s.softApplied h).windowShut h).flipMarked h (s.nextFrame h) (((s.softDue h).filter (·.tgt)).map (·.due))).irq (9 + h) 0
        (s.nextFrame h) := by
  rw [State.applyPoint, if_neg (by simp [hrun])]
  extract_lets f skip due s1 s2 sv s3 s4 d4 s5 s6 ts
  have hskip : skip.softPend h = s.softPend h := (s.skipsCounted_kept h).softPend
  have hdue : due = s.softDue h := congrArg (List.filter _) hskip
  have hs2 : s2 = ((s.skipsCounted h).applyDue h (s.nextFrame h) (s.softDue h)).setSoft h (s.softLater h) := by
    unfold s2 s1
    rw [hdue, hskip]
    rfl
  have hwaiting : ∀ l, s2.svcPend h l = none := fun l => by
    have hempty : s2.dsp.svc = [] := by
      rw [hs2]
      exact (congrArg Dsp.svc (State.setSoft_kept _ h _).dsp).trans
        ((State.applyDue_svc _ _ _ _).trans ((congrArg Dsp.svc (s.skipsCounted_kept h).dsp).trans hsvc))
    rw [State.svcPend, hempty]
    rfl
  have hsv : sv = [] := List.filter_eq_nil_iff.mpr fun l _ => by
    rw [hwaiting l]
    exact Bool.false_ne_true
  have hs4 : s4 = s2.showOpaque h := by
    unfold s4 s3
    rw [hsv, State.each_nil]
  have hs5 : s5 = (s.softApplied h).windowShut h := by
    rw [show s5 = s4.windowShut h from rfl, hs4, hs2]
    rfl
  show (if due.isEmpty && sv.isEmpty then s5 else (s5.flipMarked h f ts).irq (9 + h) 0 f) = _
  unfold ts
  rw [hs5, hsv, hdue, List.isEmpty_nil, Bool.and_true]
  rfl

theorem State.softApplied_of_none_due {s : State} {h : Nat} (hdue : s.softDue h = []) :
    DisplayKept h { s with dsp := { s.dsp with soft := Tab.put s.dsp.soft h (s.softLater h) [] } } (s.softApplied h) := by
  unfold State.softApplied
  rw [hdue]
  exact (((s.skipsCounted_kept h).withDsp fun d => { d with soft := Tab.put d.soft h (s.softLater h) [] }).trans
    (State.setSoft_kept _ h _)).trans (State.showOpaque_kept _ h)

theorem State.softApplied_of_one_due {s : State} {h : Nat} {c : HeadCommit} (hdue : s.softDue h = [c]) :
    ∃ active, DisplayKept h
      { s with dsp := { s.dsp with active := active, bg := s.bgAfter h c, soft := Tab.put s.dsp.soft h (s.softLater h) [] } }
      (s.softApplied h) := by
  have hskip := s.skipsCounted_kept h
  obtain ⟨active, happly⟩ := (s.skipsCounted h).applySoft_kept h c
  have hbg : (s.skipsCounted h).bgAfter h c = s.bgAfter h c := by
    rw [State.bgAfter, State.bgAfter, hskip.dsp, hskip.rgb]
  rw [hbg] at happly
  have hlate := ((hskip.withDsp fun d => { d with active := active, bg := s.bgAfter h c }).trans happly).trans
    (State.lateCommit_kept _ h c.late (c.tgt && s.nextFrame h != c.due))
  refine ⟨active, ?_⟩
  unfold State.softApplied
  rw [hdue]
  exact ((hlate.withDsp fun d => { d with soft := Tab.put d.soft h (s.softLater h) [] }).trans
    (State.setSoft_kept _ h _)).trans (State.showOpaque_kept _ h)

/-- An interrupt changes neither DRAM nor the display's store. -/
theorem dramAndDisplay_irqKeeps (o : State) : IrqKeeps (fun s => s.dram = o.dram ∧ s.dsp = o.dsp) where
  wr _ _ _ _ _ hk := hk
  rng _ _ hk := hk
  host _ _ hk := hk
  sram _ _ hk := hk
  holdoff _ _ _ hk := hk

theorem State.irq_dramAndDisplay (s : State) (src index data : Nat) :
    (s.irq src index data).dram = s.dram ∧ (s.irq src index data).dsp = s.dsp :=
  State.irq_invariant (dramAndDisplay_irqKeeps s) ⟨rfl, rfl⟩ src index data

section
variable {s : State} {h : Nat} (hrun : s.headRuns h = true)
include hrun

theorem State.applyPoint_of_none_due (hdue : s.softDue h = []) (hsvc : s.dsp.svc = []) :
    (s.applyPoint h).dsp.closed = Tab.put s.dsp.closed h true false ∧ (s.applyPoint h).dsp.active = s.dsp.active ∧
      (s.applyPoint h).dsp.flip = s.dsp.flip ∧ (s.applyPoint h).dram = s.dram := by
  have hkept := State.softApplied_of_none_due hdue
  have hpoint : s.applyPoint h = (s.softApplied h).windowShut h := by
    rw [State.applyPoint_of_no_service hrun hsvc, hdue, if_pos List.isEmpty_nil]
  rw [hpoint, State.windowShut_dsp, hkept.dsp]
  exact ⟨rfl, rfl, rfl, hkept.dram⟩

theorem State.applyPoint_of_one_due {c : HeadCommit} (hdue : s.softDue h = [c]) (hsvc : s.dsp.svc = []) :
    (s.applyPoint h).dsp.flip = Tab.put s.dsp.flip h true false ∧ (s.applyPoint h).dsp.bg = s.bgAfter h c ∧
      (s.applyPoint h).dram = s.dram := by
  obtain ⟨active, hkept⟩ := State.softApplied_of_one_due hdue
  obtain ⟨hdram, hdsp⟩ := (((s.softApplied h).windowShut h).flipMarked h (s.nextFrame h)
    (([c].filter (·.tgt)).map (·.due))).irq_dramAndDisplay (9 + h) 0 (s.nextFrame h)
  rw [State.applyPoint_of_no_service hrun hsvc, hdue, if_neg (by simp), hdsp, State.flipMarked_dsp, State.windowShut_dsp, hkept.dsp]
  exact ⟨rfl, rfl, hdram.trans hkept.dram⟩

end

/-- Settles O28: each command by its lemma above; at the apply point no register write reaches the display's store, and a flip's interrupt neither that nor DRAM. -/
theorem displayHeads : Obligations.DisplayHeads := by
  refine ⟨fun h w s t hen hw hlock ht hpass hlink => ?_, fun h w s hen hw hout hcmd hlock => ?_,
    fun rate lanes s hmode hhpd hout hpower hnone => ?_, fun rate lanes s t hmode hhpd hout hpower hrate hlanes ht hbw hen => ?_,
    fun s => rfl, fun s hhpd => congrArg Host.Outcome.next (if_pos hhpd), fun h ago s hrun hcmd hlock hflip => ?_,
    fun h s hrun => if_pos hrun, fun h s hrun hdue hsvc => ?_, fun h c s hrun hpend hdue hsvc => ?_,
    fun h l y k ecc s hrun hunder hs => ?_, fun h l y k ecc s hrun hunder => ?_,
    fun h w due late s hgo htgt hst hrun hlive hfree hbg hown hvalid hdue => ?_, fun h w s hgo hst => ?_,
    fun h fall ago s hrun hcmd hsense hheld hfirst hidle u hu => ?_, fun h s hrun hcmd hcause hran => ?_⟩
  · have htaken : t = s.headModeTaken h w.toNat := by
      have hhead : decide (h = 1) = decide (h.val = 1) := decide_eq_decide.mpr Fin.ext_iff
      rw [ht, hhead]
      rfl
    subst htaken
    exact congrArg Host.Outcome.next ((State.headCtrlWrite_of_start hen hw hlock).trans (State.headEnable_of_passed hpass hlink))
  · exact congrArg Host.Outcome.next (State.headCtrlWrite_of_stop hen hw hout hcmd hlock)
  · exact congrArg Host.Outcome.next (State.dpTrain_of_failed hmode hhpd hout hpower (hnone.imp (congrArg Fin.val) (congrArg Fin.val)))
  · subst ht
    exact congrArg Host.Outcome.next (State.dpTrain_of_trained hmode hhpd hout hpower (fun hzero => hrate (Fin.ext hzero))
      (fun hzero => hlanes (Fin.ext hzero)) hbw hen)
  · exact congrArg Host.Outcome.next ((State.frameStart_of_unlocked_video hrun hcmd hlock ago).trans (State.freeFrame_of_no_flip hflip))
  · exact ⟨_, rfl, State.applyPoint_of_none_due hrun hdue hsvc⟩
  · have hone : s.softDue h = [c] := by
      rw [State.softDue, hpend]
      exact List.filter_eq_self.mpr fun x hx => by
        rw [List.mem_singleton.mp hx]
        exact decide_eq_true hdue
    exact ⟨_, rfl, State.applyPoint_of_one_due hrun hone hsvc⟩
  · exact ⟨_, congrArg Host.Outcome.next (State.fetchMiss_of_faulted hrun l y k ecc hunder), State.rd_sat_self hs _ _ _,
      s.missed_burstLost h l y k ecc, rfl⟩
  · exact congrArg Host.Outcome.next (State.fetchMiss_of_first hrun l y k ecc hunder)
  · exact congrArg Host.Outcome.next (State.softCommit_of_ok hgo htgt ⟨hst, hrun, hlive, hfree, hbg, hown, hvalid⟩ hdue)
  · exact congrArg Host.Outcome.next (State.softCommit_of_off hgo hst)
  · exact congrArg Host.Outcome.next (State.teEdge_of_first hrun hcmd hsense hheld hfirst hidle hu)
  · exact congrArg Host.Outcome.next (State.teTimeout_of_ran hrun hcmd hcause hran)

end Sys2Proof.Machine
end

section
/-! PROOFS. The queue, and what every step keeps (R402, R427). -/

open Sys2Proof

namespace Sys2Proof.Machine

/-- Settles O55, from what a step can do: it idles, or it keeps every burnt fuse. -/
theorem noStepUnburnsAFuse : Obligations.NoStepUnburnsAFuse := by
  intro s t hstep
  rcases step_cases hstep with ⟨-, rfl⟩ | ⟨c, l, -, -, -, hfuses⟩
  · exact fun _ _ hbit => hbit
  · exact hfuses

theorem pending_of_exec {c : Instr} {s t : State} (h : exec c s = .next t) : t.pending = s.pending :=
  (exec_keeps (.refl s) c t h).1

/-- Settles O56: no command's effect touches the queue, and a step hands its command the rest of it. -/
theorem onlyTheFrontLeavesTheQueue : Obligations.OnlyTheFrontLeavesTheQueue := by
  refine ⟨fun c s t hexec => pending_of_exec hexec, fun c l s t hqueue hstep => ?_⟩
  simp only [step, hqueue] at hstep
  exact pending_of_exec hstep

/-- Settles O1, by the definition of a step. -/
theorem stepRunsFront : Obligations.StepRunsFront := fun _ _ _ => rfl

/-- Settles O2: the table spells no command, and a step looks at the queue alone. -/
theorem emptyQueueIdles : Obligations.EmptyQueueIdles := by
  refine ⟨fun s hqueue => ?_, fun s nbits w => ⟨rfl, rfl⟩⟩
  simp only [step, hqueue]

/-- Settles O53: the reset state's stores are empty tables. -/
theorem soundAtReset : Obligations.SoundAtReset := by
  refine ⟨⟨rfl, rfl, rfl, rfl, rfl, rfl⟩, rfl, rfl, rfl⟩

end Sys2Proof.Machine
end

section
/-! PROOFS. Pins and serial buses: GPIO edges, I2C commands, MDIO frames (R526, R528, R529, R539). -/

open Sys2Proof

namespace Sys2Proof.Machine

/-! GPIO (R526). -/

/-- The state in which pin `p` shows a new level, with its edge bit set where the edge is asked for. -/
def State.levelShown (s : State) (p : Nat) (level : Bool) : State :=
  if s.rd GPIO_PIN_EDGE p = 3 || (s.rd GPIO_PIN_EDGE p = 1 && level) || (s.rd GPIO_PIN_EDGE p = 2 && !level) then
    (s.putBit GPIO_IN_LEVEL p level).putBit GPIO_EVST_EDGE p true
  else s.putBit GPIO_IN_LEVEL p level

theorem State.gpioEdge_of_change {s : State} {p ago : Nat} {ball level : Bool} (hlevel : level = (ball != s.on GPIO_PIN_POL p))
    (hold : s.bitAt GPIO_IN_LEVEL p = !level) (hfilter : s.rd GPIO_PIN_FILT p * 4000 * 2 ^ 32 ≤ ago)
    (hroom : (s.levelShown p level).gpio.queue.length < 64) :
    s.gpioEdge p ball ago = { s.levelShown p level with gpio := { (s.levelShown p level).gpio with
      queue := (s.levelShown p level).gpio.queue ++
        [{ pin := p, fall := !level, time := Wide.ofUnits (s.tmu.tod.units - ago), traced := s.on TMU_STAT_TVALID,
           entries := s.edgeEntries p (!level) }] } } := by
  subst hlevel
  have hchange : (s.bitAt GPIO_IN_LEVEL p == (ball != s.on GPIO_PIN_POL p) || decide (ago < s.rd GPIO_PIN_FILT p * 4000 * 2 ^ 32)) = false := by
    rw [hold]
    simpa using hfilter
  rw [State.gpioEdge, hchange]
  exact if_neg (Nat.not_le.mpr hroom)

/-! I2C (R528). -/

theorem State.i2cCmdWrite_of_go {s : State} {b w : Nat} (hgo : w.testBit 31 = true) (hbusy : s.on I2C_STAT_BUSY b = false)
    (hen : s.on I2C_CFG_EN b = true) :
    s.i2cCmdWrite b w = { ((s.arm (.stretch b) 0).wr I2C_STAT_BUSY 1 b) with gpio := { s.gpio with
      i2cCmd := Tab.put s.gpio.i2cCmd b (w % 2 ^ 31) 0,
      i2cHold := if w.testBit 30 then Tab.put s.gpio.i2cHold b true false else s.gpio.i2cHold } } := by
  simp [State.i2cCmdWrite, hgo, hbusy, hen]

theorem State.i2cCmdWrite_of_unready {s : State} {b w : Nat} (hgo : w.testBit 31 = true)
    (h : s.on I2C_STAT_BUSY b = true ∨ s.on I2C_CFG_EN b = false) : s.i2cCmdWrite b w = s.gpioReject := by
  have hbad : (s.on I2C_STAT_BUSY b || !s.on I2C_CFG_EN b) = true := by simpa using h
  rw [State.i2cCmdWrite, hgo, hbad]
  rfl

section
variable {s : State} {b : Nat} (hbusy : s.on I2C_STAT_BUSY b = true)
include hbusy

/-- A byte read without a STOP. -/
theorem State.i2cDone_of_read (hread : (Tab.get s.gpio.i2cCmd b 0).testBit 28 = true) (hstop : (Tab.get s.gpio.i2cCmd b 0).testBit 29 = false)
    (data : Byte) : s.i2cDone b 0 data = (s.i2cEnd b).wr I2C_STAT_RXDATA data.toNat b := by
  simp [State.i2cDone, hbusy, hread, hstop]

/-- A byte written with a STOP and not acknowledged. -/
theorem State.i2cDone_of_nack (hread : (Tab.get s.gpio.i2cCmd b 0).testBit 28 = false) (hstop : (Tab.get s.gpio.i2cCmd b 0).testBit 29 = true)
    (data : Byte) : s.i2cDone b 1 data = ((s.i2cEnd b).wr I2C_STAT_NACKRX 1 b).i2cFree b := by
  simp [State.i2cDone, hbusy, hread, hstop]

theorem State.i2cDone_of_arbitration_lost (data : Byte) : s.i2cDone b 2 data = ((s.i2cEnd b).wr I2C_STAT_ARBLOST 1 b).i2cFree b := by
  simp [State.i2cDone, hbusy]

theorem State.i2cDone_of_bus_error (hstart : (Tab.get s.gpio.i2cCmd b 0).testBit 30 = true) (hlong : s.stretched b = true) (data : Byte) :
    s.i2cDone b 3 data = ((s.i2cEnd b).wr I2C_STAT_BUSERR 1 b).i2cFree b := by
  simp [State.i2cDone, hbusy, hstart, hlong]

theorem State.i2cStretch_of_long (hlong : s.stretched b = true) : s.i2cStretch b = ((s.i2cEnd b).wr I2C_STAT_TIMEOUT 1 b).i2cFree b := by
  rw [State.i2cStretch, hbusy, hlong]
  rfl

end

/-! MDIO (R529). -/

theorem State.mdioBad_iff (w : Nat) : State.mdioBad w = true ↔ w.testBit 30 = false ∧ (bitsOf w 29 28 = 0 ∨ bitsOf w 29 28 = 3) := by
  simp [State.mdioBad]

/-- A frame is good where it is of Clause 45, or of Clause 22 and writes or reads. -/
theorem State.mdioBad_of_valid {w : Nat} (h : w.testBit 30 = true ∨ bitsOf w 29 28 = 1 ∨ bitsOf w 29 28 = 2) : State.mdioBad w = false := by
  rw [← Bool.not_eq_true, State.mdioBad_iff]
  rcases h with h | h | h <;> simp [h]

theorem State.mdioCmdWrite_of_go {s : State} {w : Nat} (hgo : w.testBit 31 = true) (hbusy : s.on MDIO_STAT_BUSY = false)
    (hen : s.on MDIO_CFG_EN = true) (hgood : State.mdioBad w = false) :
    s.mdioCmdWrite w = { (s.wr MDIO_STAT_BUSY 1) with gpio := { s.gpio with mdioCmd := w % 2 ^ 31 } } := by
  simp [State.mdioCmdWrite, hgo, hbusy, hen, hgood]

theorem State.mdioCmdWrite_of_bad {s : State} {w : Nat} (hgo : w.testBit 31 = true) (hbad : State.mdioBad w = true) :
    s.mdioCmdWrite w = s.gpioReject := by
  simp [State.mdioCmdWrite, hgo, hbad]

section
variable {s : State} (hbusy : s.on MDIO_STAT_BUSY = true)
include hbusy

theorem State.mdioDone_of_read (hread : 2 ≤ bitsOf s.gpio.mdioCmd 29 28) (resp : Bool) (data : Nat) :
    s.mdioDone resp data = if resp then ((s.wr MDIO_STAT_BUSY 0).wr MDIO_STAT_DONE 1).wr MDIO_STAT_RDATA data
      else ((s.wr MDIO_STAT_BUSY 0).wr MDIO_STAT_DONE 1).wr MDIO_STAT_NORESP 1 := by
  simp [State.mdioDone, hbusy, State.mdioReads, hread]

theorem State.mdioDone_of_write (hwrite : bitsOf s.gpio.mdioCmd 29 28 < 2) (resp : Bool) (data : Nat) :
    s.mdioDone resp data = (s.wr MDIO_STAT_BUSY 0).wr MDIO_STAT_DONE 1 := by
  simp [State.mdioDone, hbusy, State.mdioReads, hwrite]

end

/-- Settles O52: each command's function under the conditions of its clause. -/
theorem pinsAndSerialBuses : Obligations.PinsAndSerialBuses := by
  refine ⟨fun p ball level ago s s2 hlevel hold hs2 hroom hfilter => ?_, fun b w s hgo hbusy hen => ?_, fun b w s hgo _ hbusy hen => ?_,
    fun b w s hgo h => ?_, fun b c data s hbusy hc hread hstop => ?_, fun b c data s hbusy hc hread hstop => ?_,
    fun b data s hbusy => ?_, fun b data s hbusy hstart hlong => ?_, fun b s hbusy hlong => ?_,
    fun w s t hgo hbusy hen hvalid ht => ?_, fun w s hgo h22 hop => ?_, fun data s hbusy hread => ⟨?_, ?_⟩,
    fun resp data s hbusy hwrite => ?_⟩
  · subst hs2
    exact congrArg Host.Outcome.next (State.gpioEdge_of_change hlevel hold hfilter hroom)
  · exact congrArg Host.Outcome.next (State.i2cCmdWrite_of_go hgo hbusy hen)
  · exact congrArg Host.Outcome.next (State.i2cCmdWrite_of_go hgo hbusy hen)
  · exact congrArg Host.Outcome.next (State.i2cCmdWrite_of_unready hgo h)
  · subst hc
    exact congrArg Host.Outcome.next (State.i2cDone_of_read hbusy hread hstop data)
  · subst hc
    exact congrArg Host.Outcome.next (State.i2cDone_of_nack hbusy hread hstop data)
  · exact congrArg Host.Outcome.next (State.i2cDone_of_arbitration_lost hbusy data)
  · exact congrArg Host.Outcome.next (State.i2cDone_of_bus_error hbusy hstart hlong data)
  · exact congrArg Host.Outcome.next (State.i2cStretch_of_long hbusy hlong)
  · have hwrite := State.mdioCmdWrite_of_go hgo hbusy hen (State.mdioBad_of_valid hvalid)
    rw [← ht] at hwrite
    exact ⟨congrArg _ hwrite, congrArg _ hwrite, congrArg _ hwrite, congrArg _ hwrite, congrArg _ hwrite, congrArg _ hwrite⟩
  · exact congrArg Host.Outcome.next (State.mdioCmdWrite_of_bad hgo ((State.mdioBad_iff _).mpr ⟨h22, hop⟩))
  · exact congrArg Host.Outcome.next (State.mdioDone_of_read hbusy hread true data.toNat)
  · exact congrArg Host.Outcome.next (State.mdioDone_of_read hbusy hread false data.toNat)
  · exact congrArg Host.Outcome.next (State.mdioDone_of_write hbusy hwrite resp data.toNat)

end Sys2Proof.Machine
end

section
/-! PROOFS. What the statements on the commands that burn fuses and on the key commands claim (R403, R414). -/

open Sys2Proof

namespace Sys2Proof.Machine

/-- A fuse row whose errors make it read as blank, bit 0 of it burnt. -/
def brokenRowState : State := { State.reset with keys := { State.reset.keys with fuse := [(0, 1)], fuseBad := [0] } }

/-- Refutes O44: its clause on a burn takes any row, so also one that reads as blank for its errors. A burn writes the row anew and keeps the bits burnt before, where the clause has the blank that the row read as. -/
theorem not_fusesAndLifeCycle : ¬ Obligations.FusesAndLifeCycle := by
  intro h
  obtain ⟨-, -, -, -, -, -, -, -, -, hburn⟩ := h
  have hrow : (brokenRowState.burn 0 0).fuse 0 = if 0 = 0 then brokenRowState.fuse 0 ||| 0 % 2 ^ 32 else brokenRowState.fuse 0 :=
    hburn 0 0 0 brokenRowState rfl
  exact absurd hrow (by decide)

end Sys2Proof.Machine
end

section
/-! PROOFS. The sweep over the key slots, and what the statement on the key commands claims of it (R366, R412, R414). -/

open Sys2Proof

namespace Sys2Proof.Machine

/-- A vector whose pending bit would lie in the word of key slot 1, at bit 0 of its usage. -/
def strayVector : Nat := ((0x210104 - 0x69000) / 4) * 32

/-- Slots 0 and 1 are VALID, slot 1 with its check code and slot 0 without one; the host takes interrupt 28 on a vector code wider than its field. -/
def strayVectorState : State :=
  { State.reset with
    regs := [(RNG_EVCFG_EN.key 0 0, 1), (RNG_SRCMAP_VEC.key 28 0, strayVector), (RNG_SRCMAP_HEN.key 28 0, 1),
      (KEY_SLOT_STATE.key 0 0, 1), (KEY_SLOT_STATE.key 1 0, 1)],
    keys := { State.reset.keys with check := [(1, crc32 (beBytes 1 1 ++ beBytes 1 0 ++ zeroKey))] },
    pcx := { State.reset.pcx with busMaster := true } }

/-- Refutes O43: its clause on one slot that fails its check takes any state, so also one that stores for interrupt 28 a vector code wider than its field. The slot's fault raises the interrupt, the pending bit of that vector falls into the usage of slot 1, and the sweep goes on to mark slot 1 BAD, where the clause has it VALID. -/
theorem not_keyCommands : ¬ Obligations.KeyCommands := by
  intro h
  obtain ⟨-, -, -, -, -, -, -, -, -, -, -, -, -, -, -, -, -, -, hsweep⟩ := h
  have hone := Host.Outcome.next.inj (hsweep 0 strayVectorState (by decide +kernel) (by decide +kernel) rfl)
  exact absurd (congrArg (fun s => s.rd KEY_SLOT_STATE 1) hone) (by decide +kernel)

end Sys2Proof.Machine
end

section
/-! PROOFS. Session set-up on a trunk in SEAL, and certification messages (R424, R444). -/

open Sys2Proof

namespace Sys2Proof.Machine

/-! Session set-up (R424). -/

theorem State.sessRuns_of_ended {s : State} {t : Nat} (h : (s.sess t).ended = true) : s.sessRuns t = false := by
  simp [State.sessRuns, h]

/-- A trunk whose OFFER is made keeps it. -/
theorem State.sessBegin_of_made {s : State} {t : Nat} (h : (s.sess t).offer.isEmpty = false) : s.sessBegin t = s := by
  simp [State.sessBegin, h]

/-- A trunk that exchanges no session messages sends and takes none. -/
theorem State.sessionMessages_of_not_running {s : State} {t : Nat} (h : s.sessRuns t = false) (b : List Byte) :
    s.offerSend t = s ∧ s.offerReceive t b = s ∧ s.proofReceive t b = s ∧ s.abortReceive t b = s := by
  simp [State.offerSend, State.offerReceive, State.proofReceive, State.abortReceive, h]

section
variable {s : State} {t : Nat} (hrun : s.sessRuns t = true)
include hrun

theorem State.offerSend_of_made (hmade : (s.sess t).offer.isEmpty = false) (hpair : (s.sess t).pair.isSome = true)
    (hdue : s.armed (.offer t) = false ∨ s.due (.offer t) = true) :
    s.offerSend t = (s.sessSend t (s.sess t).offer).arm (.offer t) 1000000000 := by
  have hwaits : (s.armed (.offer t) && !s.due (.offer t)) = false := by
    rcases hdue with hdue | hdue <;> simp [hdue]
  have hnone : (s.sess t).pair.isNone = false := by simpa using hpair
  simp only [State.offerSend, hrun, hwaits, State.sessBegin_of_made hmade, hmade, hnone, Bool.not_true, Bool.or_self,
    Bool.false_eq_true, if_false]

/-- The partner's OFFER is kept where its chain holds, and answered by the PROOF of slot 0, or by an ABORT. -/
theorem State.offerReceive_of_made {b : List Byte} (hgood : State.offerGood b = true) (hmade : (s.sess t).offer.isEmpty = false) :
    s.offerReceive t b = if s.chainOk (certsOf (b.getD 1 0).toNat (b.drop 132)) = true then
      (match (s.setSess t { s.sess t with peer := b }).pairSource 0 useSign useSign with
        | (s3, .ok) => (s3.free 384).2.sessSend t ([0xB2, 0, 0, 0] ++
            padTo 96 (p384Sign ((s3.free 384).2.pairScalar 0) ((s3.free 384).2.proofDigest t (s3.free 384).2.selfPrefix) (s3.free 384).1))
        | (s3, c) => s3.sessAbort t c.code)
      else s.sessAbort t 0x40 := by
  simp only [State.offerReceive, hrun, hgood, State.sessBegin_of_made hmade, hmade, Bool.not_true, Bool.or_self, Bool.false_eq_true,
    if_false]
  cases s.chainOk (certsOf (b.getD 1 0).toNat (b.drop 132)) <;> rfl

theorem State.proofReceive_of_well_formed {b : List Byte} {n : Nat} {s1 : State} (hpeer : (s.sess t).peer.isEmpty = false)
    (hmade : (s.sess t).offer.isEmpty = false) (hlen : b.length = 100) (hhead : b.take 4 = [0xB2, 0, 0, 0])
    (hpair : (s.sess t).pair = some n) (hkey : s.pairSource n useEcdh useEcdh = (s1, .ok)) :
    s.proofReceive t b =
      if p384Verify (certKey (((s.sess t).peer.drop 132).take 256)) (s.proofDigest t (s.peerPrefix t)) (b.drop 4) = true then
        s1.sessAgree t n
      else s.sessAbort t KeyCode.badSig.code := by
  simp only [State.proofReceive, hrun, hpeer, hmade, hlen, hhead, hpair, hkey, ne_eq, not_true_eq_false, decide_false, Bool.not_true,
    Bool.or_self, Bool.false_eq_true, if_false]
  cases p384Verify (certKey (((s.sess t).peer.drop 132).take 256)) (s.proofDigest t (s.peerPrefix t)) (b.drop 4) <;> rfl

theorem State.abortReceive_of_well_formed {b : List Byte} (hlen : b.length = 4) (hhead : b.getD 0 0 = 0xB3) :
    s.abortReceive t b = s.setSess t { s.sess t with ended := true } := by
  rw [State.abortReceive, hrun, hlen, hhead]
  rfl

end

/-! Certification (R444). -/

theorem State.devicePublic_of_usable {s s1 : State} (h : s.pairSource 0 useSign useEcdh = (s1, .ok)) :
    s.devicePublic = (s1, some (padTo 96 (p384Public (s1.pairScalar 0)))) := by
  rw [State.devicePublic, h]

section
variable {s s1 : State} (hcert : s.certifies = true) (hkey : s.pairSource 0 useSign useEcdh = (s1, .ok))
include hcert hkey

theorem State.certReq_of_request (src : Nat) :
    s.certReq src [0xC1, 0, 0, 0] = s1.sendTunnel0 src ([0xC2, 0, 0, 0] ++ ascii "SCRC" ++ [1, 1, 0, 0] ++ beBytes 8 s1.devId ++
      padTo 96 (p384Public (s1.pairScalar 0)) ++ List.replicate 48 0) := by
  simp only [State.certReq, hcert, State.devicePublic_of_usable hkey, ne_eq, not_true_eq_false, decide_false, Bool.not_true,
    Bool.or_self, Bool.false_eq_true, if_false]

/-- A CHAIN of two certificates is stored and acknowledged where it holds and names the device's key. -/
theorem State.chainReceive_of_two {b : List Byte} (hop : b.getD 0 0 = 0xC3) (hcount : (b.getD 1 0).toNat = 2)
    (hzero : ofBe ((b.drop 2).take 2) = 0) (hlen : b.length = 516) (src place : Nat) (ok : Bool) :
    s.chainReceive src b place ok =
      if s1.chainOk (certsOf 2 (b.drop 4)) = true ∧ certKey ((certsOf 2 (b.drop 4)).headD []) = padTo 96 (p384Public (s1.pairScalar 0)) then
        (match s1.storeChain place (b.drop 4) with
          | some s2 => if ok = true then s2.sendTunnel0 src [0xC4, 0, 0, 0] else s1.sendTunnel0 src [0xC4, 0x41, 0, 0]
          | none => s1.sendTunnel0 src [0xC4, 0x41, 0, 0])
      else s1.sendTunnel0 src [0xC4, 0x40, 0, 0] := by
  have hgood : (b.getD 0 0 == 0xC3 && (2 == 2 || 2 == 3) && ofBe ((b.drop 2).take 2) == 0 && b.length == 4 + 256 * 2) = true := by
    rw [hop, hzero, hlen]
    rfl
  simp only [State.chainReceive, hcount, hcert, hgood, State.devicePublic_of_usable hkey, Bool.not_true, Bool.or_self, Bool.false_eq_true,
    if_false]
  by_cases hchain : s1.chainOk (certsOf 2 (b.drop 4)) = true ∧
      certKey ((certsOf 2 (b.drop 4)).headD []) = padTo 96 (p384Public (s1.pairScalar 0))
  · rw [if_pos hchain, hchain.1, hchain.2, if_neg (by simp)]
    rfl
  · rw [if_neg hchain, if_pos]
    · rfl
    · simp only [Bool.or_eq_true, Bool.not_eq_true', decide_eq_true_eq, ne_eq, Option.some.injEq]
      by_cases hholds : s1.chainOk (certsOf 2 (b.drop 4)) = true
      · exact .inr fun hnames => hchain ⟨hholds, hnames.symm⟩
      · exact .inl (Bool.eq_false_iff.mpr hholds)

end

/-- Settles O27: each command's function under the conditions of its clause. -/
theorem sessionsAndCertification : Obligations.SessionsAndCertification := by
  refine ⟨fun t s hrun hmade hpair hdue => congrArg _ (State.offerSend_of_made hrun hmade hpair hdue),
    fun t b s hrun hgood hmade => congrArg _ ((State.offerReceive_of_made hrun hgood hmade).trans ?_),
    fun t b n s s1 hrun hpeer hmade hlen hhead hpair hkey =>
      congrArg _ (State.proofReceive_of_well_formed hrun hpeer hmade hlen hhead hpair hkey),
    fun t b s hrun hlen hhead => congrArg _ (State.abortReceive_of_well_formed hrun hlen hhead), fun t b s hended => ?_,
    fun src s s1 hcert hkey => congrArg _ (State.certReq_of_request hcert hkey src.toNat),
    fun src b place ok s s1 hcert hop hcount hzero hlen hkey =>
      congrArg _ ((State.chainReceive_of_two hcert hkey hop hcount hzero hlen src.toNat place ok).trans ?_)⟩
  · rfl
  · obtain ⟨hsend, hoffer, hproof, habort⟩ := State.sessionMessages_of_not_running (State.sessRuns_of_ended hended) b
    exact ⟨congrArg _ hsend, congrArg _ hoffer, congrArg _ hproof, congrArg _ habort⟩
  · rfl

end Sys2Proof.Machine
end

section
/-! PROOFS. Endpoints of the embedded USB function: configuration, arming, tokens, SETUP and memory (R312 to R318). -/

open Sys2Proof

namespace Sys2Proof.Machine

/-! Configuration and arming (R313, R314). -/

/-- The fields of EPk_CFG but EN taken from a word, for an endpoint that is not endpoint 0. -/
def State.epConfigured (s : State) (k w : Nat) : State :=
  (s.writeFields false [EP_CFG_DIR, EP_CFG_MPS, EP_CFG_BUFOFS, EP_CFG_BUFLEN] k 0 w).wr EP_CFG_XTYPE (bitsOf w 29 28) k

/-- The endpoint's buffer leaves the endpoint memory, its packets are too large, or its buffer overlaps that of an enabled one. -/
def State.epCfgBad (s : State) (k : Nat) : Bool :=
  s.rd EP_CFG_BUFOFS k + s.rd EP_CFG_BUFLEN k > 256 || s.rd EP_CFG_MPS k > s.mpsLimit k true ||
    (List.range 16).any (fun j => j != k && s.on EP_CFG_EN j && s.epOverlap k j)

section
variable {s : State} {k w : Nat} (hk : k ≠ 0) (hxt : 2 ≤ bitsOf w 29 28)
include hk hxt

theorem State.epCfgWrite_of_good (hgood : (s.epConfigured k w).epCfgBad k = false) :
    s.epCfgWrite k w = (s.epConfigured k w).wr EP_CFG_EN (bit (w.testBit 31)) k := by
  unfold State.epConfigured State.epCfgBad at hgood
  simp only [State.epCfgWrite, State.when, if_neg hk, decide_eq_true hxt, if_true, hgood, Bool.not_false, Bool.and_true, Bool.and_false,
    Bool.false_eq_true, if_false, State.epConfigured, ge_iff_le]

theorem State.epCfgWrite_of_bad (hen : w.testBit 31 = true) (hbad : (s.epConfigured k w).epCfgBad k = true) :
    s.epCfgWrite k w = { (s.epConfigured k w).wr EP_CFG_EN 0 k with usb := { s.usb with cfgRej := Tab.put s.usb.cfgRej k true false } } := by
  have husb : (s.epConfigured k w).usb = s.usb := by
    rw [State.epConfigured, State.writeFields_regs]
    rfl
  unfold State.epCfgBad at hbad
  rw [← husb]
  unfold State.epConfigured at hbad ⊢
  simp only [State.epCfgWrite, State.when, if_neg hk, decide_eq_true hxt, if_true, hbad, hen, Bool.not_true, Bool.and_false, Bool.and_self,
    ge_iff_le, bit, Bool.false_eq_true, if_false, State.wr_usb]

end

theorem State.epArm_of_disabled {s : State} {k : Nat} (hen : s.on EP_CFG_EN k = false) (w : Nat) :
    s.epArm k w = s.wr EP_STAT_CODE EpCode.disabled.code k := by
  simp [State.epArm, hen]

section
variable {s : State} {k : Nat} (hen : s.on EP_CFG_EN k = true)
include hen

theorem State.epArm_of_armed (harmed : s.on EP_STAT_ARMED k = true) (w : Nat) : s.epArm k w = s.wr EP_STAT_CODE EpCode.busy.code k := by
  simp [State.epArm, hen, harmed]

theorem State.epArm_of_long {w : Nat} (harmed : s.on EP_STAT_ARMED k = false) (hlen : bitsOf w 13 0 > s.rd EP_CFG_BUFLEN k * 64) :
    s.epArm k w = s.wr EP_STAT_CODE EpCode.len.code k := by
  simp [State.epArm, hen, harmed, hlen]

theorem State.epArm_of_good {w : Nat} (hk : k ≠ 0) (harmed : s.on EP_STAT_ARMED k = false)
    (hlen : bitsOf w 13 0 ≤ s.rd EP_CFG_BUFLEN k * 64) (hmps : s.rd EP_CFG_MPS k ≤ s.mpsLimit k (s.on USB_STAT_HS)) :
    s.epArm k w = { (s.wr EP_STAT_ARMED 1 k).wr EP_STAT_CODE 0 k with usb := { s.usb with
      armLen := Tab.put s.usb.armLen k (bitsOf w 13 0) 0, armZlp := Tab.put s.usb.armZlp k (w.testBit 15) false,
      armIn := Tab.put s.usb.armIn k (((s.wr EP_STAT_ARMED 1 k).wr EP_STAT_CODE 0 k).on EP_CFG_DIR k) false,
      moved := Tab.put s.usb.moved k 0 0 } } := by
  simp only [State.epArm, hen, harmed, if_neg hk, gt_iff_lt, if_neg (Nat.not_lt.mpr hlen), if_neg (Nat.not_lt.mpr hmps), Bool.not_true,
    Bool.false_eq_true, if_false, State.wr_usb]

end

theorem State.epAbort_of_armed {s : State} {k : Nat} (h : s.on EP_STAT_ARMED k = true) : s.epAbort k = s.epEnd k .abort := if_pos h

theorem State.epAbort_of_unarmed {s : State} {k : Nat} (h : s.on EP_STAT_ARMED k = false) : s.epAbort k = s :=
  if_neg (Bool.eq_false_iff.mp h)

/-! Tokens (R314, R315). -/

/-- The transfer is moved in one packet that is shorter than or as long as a full one and needs no packet after it. -/
theorem State.epIn_of_one_packet {s : State} {k : Nat} (hmoved : Tab.get s.usb.moved k 0 = 0)
    (hlen : Tab.get s.usb.armLen k 0 ≤ s.rd EP_CFG_MPS k) (hzlp : Tab.get s.usb.armZlp k false = false) :
    s.epIn k = (((s.usbAnswer (.data (s.on EP_STAT_TOGGLE k) (Memory.read s.usb.mem (s.rd EP_CFG_BUFOFS k * 64)
      (Tab.get s.usb.armLen k 0)))).epFlip k).epMove k (Tab.get s.usb.armLen k 0)).epEnd k .ok := by
  simp only [State.epIn, hmoved, hzlp, Nat.sub_zero, Nat.add_zero, Nat.zero_add, Nat.min_eq_right hlen, Nat.lt_irrefl, decide_false,
    Bool.false_and, Bool.or_self, Bool.false_eq_true, if_false]

theorem State.epOut_of_whole {s : State} {k : Nat} {data : List Byte} (hmoved : Tab.get s.usb.moved k 0 = 0)
    (hlen : data.length = Tab.get s.usb.armLen k 0) :
    s.epOut k data = ({ ((s.usbAnswer .ack).epFlip k).epMove k data.length with
      usb := { (((s.usbAnswer .ack).epFlip k).epMove k data.length).usb with
        mem := Memory.write s.usb.mem (s.rd EP_CFG_BUFOFS k * 64) data } } : State).epEnd k .ok := by
  simp only [State.epOut, hmoved, ← hlen, Nat.zero_add, Nat.add_zero, gt_iff_lt, Nat.lt_irrefl, if_false, decide_true, Bool.true_or, if_true]
  rfl

section
variable {s : State} {k : Nat} {isIn : Bool} (hreach : s.fnReached = true) (hk : k ≠ 0) (hen : s.on EP_CFG_EN k = true)
  (hdir : s.on EP_CFG_DIR k = isIn) (hhalt : s.on EP_STAT_HALT k = false)
include hreach hk hen hdir hhalt

theorem State.endpointToken_of_armed (harmed : s.on EP_STAT_ARMED k = true) (data : List Byte) :
    s.endpointToken k isIn data = if isIn then s.epIn k else s.epOut k data := by
  simp [State.endpointToken, hreach, hk, hen, hdir, hhalt, harmed]

theorem State.endpointToken_of_unarmed (harmed : s.on EP_STAT_ARMED k = false) (data : List Byte) :
    s.endpointToken k isIn data = s.epNoBuffer k := by
  simp [State.endpointToken, hreach, hk, hen, hdir, hhalt, harmed]

end

/-! SETUP (R312, R316). -/

/-- A SETUP of a request that firmware handles, to an endpoint 0 that is not armed. -/
theorem State.setupReceive_of_firmware {s : State} {b : List Byte} {rt rq v ix : Nat} (hreach : s.fnReached = true)
    (hfields : setupFields b = (rt, rq, v, ix)) (haddr : ¬ (rt = 0 ∧ rq = 5)) (hrt : rt ≠ 2) (harmed : s.on EP_STAT_ARMED 0 = false) :
    s.setupReceive b false false = ({ (((s.wr EP_STAT_HALT 0 0).wr EP_STAT_TOGGLE 1 0).wr USB_SETUP_LO_SETUP_LO (ofLe (b.take 4))).wr
        USB_SETUP_HI_SETUP_HI (ofLe ((b.drop 4).take 4)) with
      usb := { s.usb with ctl := some b, hw := false, newAddr := none, answer := .ack } } : State).wr USB_STAT_SETUPEV 1 := by
  have hno : (decide (rt = 0) && decide (rq = 5)) = false := by simpa using haddr
  simp only [State.setupReceive, hreach, hfields, State.epAbort_of_unarmed harmed, hno, decide_eq_false hrt, State.when, Bool.not_true,
    Bool.false_and, Bool.or_self, Bool.false_eq_true, if_false, State.wr_usb]

/-- Settles O31: each command's function under the conditions of its clause. -/
theorem usbEmbeddedFunction : Obligations.UsbEmbeddedFunction := by
  have hne : ∀ {k : Fin 16}, k ≠ 0 → k.val ≠ 0 := fun h h0 => h (Fin.ext h0)
  refine ⟨fun k w s s1 hk hxt hs1 hgood => ?_, fun k w s s1 hk hxt hs1 hen hmps => ?_, fun k w s hen => ?_, fun k w s hen harmed => ?_,
    fun k w s hen harmed hlen => ?_, fun k w s hen harmed hlen hmps hk => ?_, fun k s harmed => ?_, fun k s => rfl,
    fun k data s hreach hk hen hdir hhalt harmed hmoved hlen hzlp => ?_, fun k data s hreach hk hen hdir hhalt harmed hmoved hlen => ?_,
    fun k isIn data s hreach hk hen hdir hhalt harmed => ?_, fun b rt rq v ix s hreach hfields haddr hrt harmed => ?_,
    fun o w s hfree => ⟨?_, ?_⟩, fun o w s hbusy => ⟨?_, ?_⟩⟩
  · subst hs1
    exact congrArg Host.Outcome.next (State.epCfgWrite_of_good (hne hk) hxt hgood)
  · have hbad : s1.epCfgBad k = true := by simp [State.epCfgBad, hmps]
    have husb : s1.usb = s.usb := by
      rw [hs1, State.writeFields_regs]
      rfl
    rw [husb]
    subst hs1
    exact congrArg Host.Outcome.next (State.epCfgWrite_of_bad (hne hk) hxt hen hbad)
  · exact congrArg Host.Outcome.next (State.epArm_of_disabled hen w.toNat)
  · exact congrArg Host.Outcome.next (State.epArm_of_armed hen harmed w.toNat)
  · exact congrArg Host.Outcome.next (State.epArm_of_long hen harmed hlen)
  · exact congrArg Host.Outcome.next (State.epArm_of_good hen (hne hk) harmed hlen hmps)
  · exact congrArg Host.Outcome.next (State.epAbort_of_armed harmed)
  · exact congrArg Host.Outcome.next ((State.endpointToken_of_armed hreach (hne hk) hen hdir hhalt harmed data).trans
      (State.epIn_of_one_packet hmoved hlen hzlp))
  · exact congrArg Host.Outcome.next ((State.endpointToken_of_armed hreach (hne hk) hen hdir hhalt harmed data).trans
      (State.epOut_of_whole hmoved hlen))
  · exact congrArg Host.Outcome.next (State.endpointToken_of_unarmed hreach (hne hk) hen hdir hhalt harmed data)
  · exact congrArg Host.Outcome.next (State.setupReceive_of_firmware hreach hfields haddr hrt harmed)
  · exact congrArg Host.Outcome.next (if_neg (Bool.eq_false_iff.mp hfree))
  · exact congrArg Host.Outcome.next (if_neg (Bool.eq_false_iff.mp hfree))
  · exact congrArg Host.Outcome.next (if_pos hbusy)
  · exact congrArg Host.Outcome.next (if_pos hbusy)

end Sys2Proof.Machine
end

section
/-! PROOFS. The near side of a proxied USB port (R302 to R311). -/

open Sys2Proof

namespace Sys2Proof.Machine

/-- A control or bulk endpoint is none of the interrupt endpoints, which are handled without the far side. -/
theorem State.asInterrupt_of_control_or_bulk (s : State) (n : Nat) {xt : Nat} (h : xt = 0 ∨ xt = 2) : s.asInterrupt n xt = false := by
  rcases h with rfl | rfl <;> rfl

/-! Splits (R304). -/

section
variable {s : State} {n xt : Nat} (hok : s.splitOk n = true) (hrun : s.proxyRuns n = true) (htt : s.ttOk n = false) (hxt : xt = 0 ∨ xt = 2)
include hok hrun htt hxt

theorem State.startSplit_of_room (htakes : s.proxyTakes n = true)
    (hroom : ((s.near n).pend.filter (fun x => !s.asInterrupt n x.xt)).length < 2) (ep : Nat) (pid : UsbPid) (data : List Byte) :
    s.startSplit n ep pid xt data = (s.sendXfer n ep pid xt data).usbAnswer .ack := by
  have hasync := s.asInterrupt_of_control_or_bulk n hxt
  have hiso : xt ≠ 1 := by omega
  simp only [State.startSplit, htt, hok, hrun, hiso, hasync, htakes, hroom, decide_true, Bool.not_true, Bool.or_self, Bool.and_self,
    Bool.false_eq_true, if_false, if_true]

theorem State.startSplit_of_full (hfull : ¬ ((s.near n).pend.filter (fun x => !s.asInterrupt n x.xt)).length < 2) (ep : Nat) (pid : UsbPid)
    (data : List Byte) : s.startSplit n ep pid xt data = s.usbAnswer .nak := by
  have hasync := s.asInterrupt_of_control_or_bulk n hxt
  have hiso : xt ≠ 1 := by omega
  simp only [State.startSplit, htt, hok, hrun, hiso, hasync, hfull, decide_false, Bool.not_true, Bool.or_self, Bool.false_and,
    Bool.false_eq_true, if_false]

theorem State.completeSplit_of_control_or_bulk (ep : Nat) (pid : UsbPid) : s.completeSplit n ep pid xt = s.splitAnswer n ep pid := by
  have hasync := s.asInterrupt_of_control_or_bulk n hxt
  have hiso : xt ≠ 1 := by omega
  simp only [State.completeSplit, htt, hok, hrun, hiso, hasync, decide_false, Bool.not_true, Bool.or_self, Bool.false_eq_true, if_false]

end

theorem State.splitAnswer_of_found {s : State} {n ep : Nat} {pid : UsbPid} {x : ProxyXfer}
    (h : (s.near n).pend.find? (fun x => x.ep == ep && x.pid == pid) = some x) :
    s.splitAnswer n ep pid = match x.result with
      | none => s.usbAnswer .nyet
      | some r => (s.setNear n { s.near n with pend := (s.near n).pend.erase x }).nearDeliver n x r.1 r.2 := by
  rw [State.splitAnswer, h]
  cases hresult : x.result <;> simp only [hresult]

/-! What the near side keeps is no part of the agreed version (R303). -/

@[simp] theorem State.proxyVer_setNear (s : State) (n : Nat) (x : Near) (e : Nat) : (s.setNear n x).proxyVer e = s.proxyVer e := rfl

@[simp] theorem State.proxyVer_proxyCount (s : State) (d k e : Nat) : (s.proxyCount d k).proxyVer e = s.proxyVer e := rfl

/-! Messages of the far side (R303). -/

/-- The near or far service takes its message: the silence timeout of a near port starts anew, and the message has its effect. -/
theorem State.takeProxy_of_message {s s1 : State} {e : Nat} {ty : ProxyType} {raw : List Byte} {f : State → ProxyMsg → State}
    (h : s.takeMessage e tyUsb [ty.code] (fun s => s.proxyBad e) (s.goodProxy e) = (s1, some raw)) :
    s.takeProxy e ty f = f (s1.when (s.param e 0 1 = 0) (fun t => t.arm (.proxy (t.proxyPort e)) 350000000)) (parseProxy raw) := by
  simp only [State.takeProxy, h]

section
variable {s : State} {e : Nat} {m : ProxyMsg} (hepoch : ¬ diffEpoch m.epoch (s.near (s.proxyPort e)).epoch < 0)
include hepoch

/-- The result of a control or bulk transaction that waits is kept for the complete-split, and counted. -/
theorem State.resultMsg_of_waiting {x : ProxyXfer}
    (hwait : (s.near (s.proxyPort e)).pend.find? (fun x => x.tag == m.tag && x.result.isNone) = some x)
    (hasync : s.asInterrupt (s.proxyPort e) x.xt = false) :
    s.resultMsg e m = (s.proxyCount e 0).setNear (s.proxyPort e) { s.near (s.proxyPort e) with
      pend := (s.near (s.proxyPort e)).pend.map (fun y => if y.tag == x.tag then { y with result := some (m.code, m.body) } else y) } := by
  simp only [State.resultMsg, if_neg hepoch, hwait, State.nearResult, hasync, Bool.false_eq_true, if_false]

/-- Data not taken before joins its endpoint's queue, its tag is remembered, and it is counted; version 1 acknowledges nothing. -/
theorem State.periodicMsg_of_data (hnew : (s.near (s.proxyPort e)).perTags.contains (m.ep, m.tag) = false) (hcode : m.code = 3)
    (hroom : (Tab.get (s.near (s.proxyPort e)).reports m.ep []).length < 4) (hver : s.proxyVer e < 2) :
    s.periodicMsg e m =
      (let t := (s.setNear (s.proxyPort e) { s.near (s.proxyPort e) with
          reports := Tab.put (s.near (s.proxyPort e)).reports m.ep (Tab.get (s.near (s.proxyPort e)).reports m.ep [] ++ [m.body]) [] }).proxyCount e 3
       t.setNear (s.proxyPort e) { t.near (s.proxyPort e) with perTags := ((m.ep, m.tag) :: (t.near (s.proxyPort e)).perTags).take 128 }) := by
  have hstall : ¬ m.code = ResCode.stall.code := by
    rw [hcode]
    decide
  simp only [State.periodicMsg, if_neg hepoch, hnew, Bool.false_eq_true, if_false, if_neg hstall, ge_iff_le, if_neg (Nat.not_le.mpr hroom),
    State.proxyVer_setNear, State.proxyVer_proxyCount, if_neg (Nat.not_le.mpr hver)]

end

/-! Transactions and port commands that are not answered (R305, R309). -/

section
variable {s : State} {n tag e : Nat} {x : ProxyXfer} (hentry : s.portEntry n = some e)
  (hwait : (s.near n).pend.find? (fun x => x.tag == tag && x.result.isNone) = some x) (hrun : s.svcRuns e = true)
  (hdue : s.due (.xfer n tag) = true)
include hentry hwait hrun hdue

theorem State.xferRto_of_used_up (htries : ¬ x.tries < s.proxyRetry e) :
    s.xferRto n tag = ((s.sat USB_CNT_COUNT 3).proxyCount e 2).nearResult n e x 4 [] := by
  simp only [State.xferRto, hentry, hwait, hrun, hdue, Bool.not_true, Bool.or_self, Bool.false_eq_true, if_false, if_neg htries]
  rfl

theorem State.xferRto_of_retry (htries : x.tries < s.proxyRetry e) :
    s.xferRto n tag = ((((s.setNear n { s.near n with
        pend := (s.near n).pend.map (fun y => if y.tag == tag then { y with tries := y.tries + 1 } else y) }).sat USB_CNT_COUNT 2).proxyCount
          e 1).armXfer n tag).sendNear n .xfer x.ep x.pid.isIn x.xt x.tag x.pid.code x.tog x.data := by
  simp only [State.xferRto, hentry, hwait, hrun, hdue, Bool.not_true, Bool.or_self, Bool.false_eq_true, if_false, if_pos htries]
  rfl

end

theorem State.nearComplete_of_reset {s : State} {n : Nat} (hcmd : (s.near n).cmd = some 1) (ok : Bool) (b : Nat) :
    s.nearComplete n ok b = if ok && b.testBit 3 then
        (((s.setNear n { s.near n with cmd := none }).wr USB_PORT_ENA 1 (n - 1)).wr USB_PORT_SPEED (bit (b.testBit 1)) (n - 1)).portChange n 4
      else ((s.setNear n { s.near n with cmd := none }).wr USB_PORT_ENA 0 (n - 1)).portChange n 4 := by
  simp only [State.nearComplete, hcmd]

theorem State.cmdTimeout_of_due {s : State} {n e : Nat} (hentry : s.portEntry n = some e) (hrun : s.svcRuns e = true)
    (hcmd : (s.near n).cmd.isSome = true) (hdue : s.due (.portcmd n) = true) : s.cmdTimeout n = s.nearComplete n false 0 := by
  simp only [State.cmdTimeout, hentry, hrun, hcmd, hdue, Bool.and_self, if_true]

/-! The device of a near port (R298, R299, R310). -/

/-- A near port that shows no device follows one that its far port reports. -/
theorem State.nearStat_of_arrival {s : State} {n b : Nat} (hconn : b.testBit 0 = true) (hhs : s.on USB_STAT_HS = true)
    (hoc : b.testBit 2 = s.on USB_PORT_OC (n - 1)) (hnone : s.on USB_PORT_CONN (n - 1) = false) :
    s.nearStat n b =
      (((s.wr USB_PORT_CONN 1 (n - 1)).wr USB_PORT_SPEED (bit (b.testBit 1)) (n - 1)).portChange n 0).wakeSource := by
  simp only [State.nearStat, hconn, hhs, hoc, hnone, beq_self_eq_true, if_true, Bool.and_self, Bool.not_true, Bool.not_false,
    Bool.false_eq_true, if_false]

/-- Which entry serves a port is told by the service table, which lies above the registers of the ports. -/
theorem State.portEntry_wr {F : Field} {i j : Nat} (hF : F.key i j < 8 * 0x1C4000) (s : State) (v n : Nat) :
    (s.wr F v i j).portEntry n = s.portEntry n := by
  have hrd : ∀ {G : Field}, 0x1C4000 ≤ G.off → ∀ e, (s.wr F v i j).rd G e = s.rd G e := by
    intro G hG e
    refine State.rd_wr_ne (fun hkey => ?_) v
    rw [hkey, Field.key, Field.addr] at hF
    omega
  simp only [State.portEntry, State.on, hrd (G := TEN_SVC0_EN) (by decide), hrd (G := TEN_SVC0_TYPE) (by decide),
    hrd (G := TEN_SVC0_STATE) (by decide)]
  rfl

/-- A near port that loses its device keeps its entry. -/
theorem State.portEntry_nearGone (s : State) {n : Nat} (hn : n ≤ 4) : (s.nearGone n).portEntry n = s.portEntry n := by
  have hkey : ∀ F ∈ reg_USB_PORT.flds, F.key (n - 1) 0 < 8 * 0x1C4000 := by
    intro F hF
    have hfield : F.off = 0x50020 ∧ F.str = 4 ∧ F.str2 = 0 ∧ F.lo < 32 := by
      revert F
      decide
    obtain ⟨hoff, hstr, hstr2, hlo⟩ := hfield
    simp only [Field.key, Field.addr, hoff, hstr, hstr2]
    omega
  have hempty : (s.portEmpty n).portEntry n = s.portEntry n := by
    show ((((s.wr USB_PORT_CONN 0 (n - 1)).wr USB_PORT_ENA 0 (n - 1)).wr USB_PORT_SUSP 0 (n - 1)).wr USB_PORT_SPEED 3 (n - 1)).portEntry n = _
    rw [State.portEntry_wr (hkey _ (by decide)), State.portEntry_wr (hkey _ (by decide)), State.portEntry_wr (hkey _ (by decide)),
      State.portEntry_wr (hkey _ (by decide))]
  rw [← hempty, State.nearGone]
  split
  · rw [State.wakeSource]
    split <;> rfl
  · rfl

theorem State.proxySilence_of_due {s : State} {n e : Nat} (hn : n ≤ 4) (hmode : s.portMode n = 1) (hconn : s.on USB_PORT_CONN (n - 1) = true)
    (hdue : s.due (.proxy n) = true) (hentry : ((s.nearGone n).usbCount 3).portEntry n = some e) :
    s.proxySilence n = ((s.nearGone n).usbCount 3).proxyCount e 2 := by
  have hserves : s.portEntry n = some e := by
    rw [← s.portEntry_nearGone hn, ← hentry]
    exact (State.portEntry_wr (F := USB_CNT_COUNT) (by decide) _ _ n).symm
  simp only [State.proxySilence, hmode, hconn, hdue, hserves, ne_eq, not_true_eq_false, decide_false, Bool.not_true, Bool.or_self,
    Bool.false_eq_true, if_false]

/-- WAKE ends the suspend of a near port that no host resume is under way for. -/
theorem State.wakeMsg_of_suspended {s : State} {e : Nat} (hsusp : s.on USB_PORT_SUSP (s.proxyPort e - 1) = true)
    (hcmd : (s.near (s.proxyPort e)).cmd = none) :
    s.wakeMsg e = ((s.wr USB_PORT_SUSP 0 (s.proxyPort e - 1)).portChange (s.proxyPort e) 2).wakeSource := by
  simp only [State.wakeMsg, hsusp, hcmd, Bool.not_true, Bool.false_eq_true, if_false, reduceCtorEq]

theorem execNearPortRequest_of_used {n : Fin 4} {s : State} (hmode : s.portMode (n + 1) = 1) (hlow : 2 ≤ s.rd USB_STAT_USTATE)
    (hhigh : s.rd USB_STAT_USTATE ≤ 4) (r : HubRequest) : exec (.nearPortRequest n r) s = .next (s.nearRequestPort (n + 1) r) :=
  if_pos (by simp [hmode, hlow, hhigh])

/-- Settles O32: a request of the host by its port, a split by what waits, and each message by what the near side holds. -/
theorem usbProxyNear : Obligations.UsbProxyNear := by
  have hval : ∀ {xt : Fin 4}, xt = 0 ∨ xt = 2 → xt.val = 0 ∨ xt.val = 2 := fun h => h.imp (congrArg Fin.val) (congrArg Fin.val)
  refine ⟨fun n s hmode hlow hhigh => ⟨?_, ?_, ?_⟩, fun n ep pid xt data s hok hrun htakes htt hxt hroom => ?_,
    fun n ep pid xt data s hok hrun htt hxt hfull => ?_, fun n ep pid xt x s hok hrun htt hxt hfound => ?_,
    fun e raw n m x s s1 u htake hm hu hn hepoch hwait hasync => ?_, fun n tag e x s hentry hwait hrun hdue htries => ?_,
    fun n tag e x s hentry hwait hrun hdue htries => ?_, fun e raw n m s s1 u htake hm hu hn hepoch hnew hcode hroom hver => ?_,
    fun e raw n m s s1 u htake hm hu hn hepoch hcmd hcode hena => ?_, fun n e s hcmd hentry hrun hdue => ?_,
    fun e raw n m s s1 u htake hm hu hn hconn hhs hoc hnone => ?_, fun n e s hmode hconn hdue hentry => ?_,
    fun e raw n m s s1 u htake hm hu hn hsusp hcmd => ?_⟩
  · simp only [execNearPortRequest_of_used hmode hlow hhigh, State.nearRequestPort, Nat.add_sub_cancel]
  · simp only [execNearPortRequest_of_used hmode hlow hhigh, State.nearRequestPort]
  · simp only [execNearPortRequest_of_used hmode hlow hhigh, State.nearRequestPort, Nat.add_sub_cancel]
  · exact congrArg Host.Outcome.next (State.startSplit_of_room hok hrun htt (hval hxt) htakes hroom ep pid data)
  · exact congrArg Host.Outcome.next (State.startSplit_of_full hok hrun htt (hval hxt) hfull ep pid data)
  · exact congrArg Host.Outcome.next ((State.completeSplit_of_control_or_bulk hok hrun htt (hval hxt) ep pid).trans
      (State.splitAnswer_of_found hfound))
  · subst hn hm hu
    exact congrArg Host.Outcome.next ((State.takeProxy_of_message htake).trans (State.resultMsg_of_waiting hepoch hwait hasync))
  · exact congrArg Host.Outcome.next (State.xferRto_of_used_up hentry hwait hrun hdue htries)
  · exact congrArg Host.Outcome.next (State.xferRto_of_retry hentry hwait hrun hdue htries)
  · subst hn hm hu
    exact congrArg Host.Outcome.next ((State.takeProxy_of_message htake).trans (State.periodicMsg_of_data hepoch hnew hcode hroom hver))
  · subst hn hm hu
    refine congrArg Host.Outcome.next ((State.takeProxy_of_message htake).trans ((if_neg hepoch).trans
      ((State.nearComplete_of_reset hcmd _ _).trans (if_pos ?_))))
    rw [hcode, hena]
    rfl
  · exact congrArg Host.Outcome.next ((State.cmdTimeout_of_due hentry hrun (by rw [hcmd]; rfl) hdue).trans
      (State.nearComplete_of_reset hcmd false 0))
  · subst hn hm hu
    exact congrArg Host.Outcome.next ((State.takeProxy_of_message htake).trans (State.nearStat_of_arrival hconn hhs hoc hnone))
  · exact congrArg Host.Outcome.next (State.proxySilence_of_due (by omega) hmode hconn hdue hentry)
  · subst hn hm hu
    exact congrArg Host.Outcome.next ((State.takeProxy_of_message htake).trans (State.wakeMsg_of_suspended hsusp hcmd))

end Sys2Proof.Machine
end

section
/-! PROOFS. The far side of a proxied USB port, and the proxy's counts (R255, R302 to R311). -/

open Sys2Proof

namespace Sys2Proof.Machine

/-! Messages of the near side (R303, R309). -/

@[simp] theorem State.proxyPort_setFar (s : State) (n : Nat) (x : Far) (e : Nat) : (s.setFar n x).proxyPort e = s.proxyPort e := rfl

/-- Taking the epoch of a newer message changes the far side alone. -/
theorem State.farEpoch_cases (s : State) (n epoch : Nat) : s.farEpoch n epoch = s ∨ ∃ x, s.farEpoch n epoch = s.setFar n x := by
  unfold State.farEpoch
  split
  · exact .inr ⟨_, rfl⟩
  · exact .inl rfl

@[simp] theorem State.proxyPort_farEpoch (s : State) (n epoch e : Nat) : (s.farEpoch n epoch).proxyPort e = s.proxyPort e := by
  rcases s.farEpoch_cases n epoch with h | ⟨x, h⟩ <;> rw [h]
  exact s.proxyPort_setFar n x e

/-- The far service takes a message of no earlier epoch, and its epoch with it. -/
theorem State.takeFar_of_message {s s1 : State} {e : Nat} {ty : ProxyType} {raw : List Byte} {f : State → ProxyMsg → State}
    (h : s.takeMessage e tyUsb [ty.code] (fun s => s.proxyBad e) (s.goodProxy e) = (s1, some raw)) (hrole : s.param e 0 1 ≠ 0)
    (hepoch : ¬ diffEpoch (parseProxy raw).epoch (s1.far (s1.proxyPort e)).epoch < 0) :
    s.takeFar e ty f = f (s1.farEpoch (s1.proxyPort e) (parseProxy raw).epoch) (parseProxy raw) := by
  simp only [State.takeFar, State.takeProxy, h, State.when, decide_eq_false hrole, Bool.false_eq_true, if_false, if_neg hepoch]

/-- The first transaction of its endpoint, at a port with a device, waits to be run. -/
theorem State.xferMsg_of_first {s : State} {e n : Nat} {m : ProxyMsg} {pid : UsbPid} (hn : s.proxyPort e = n) (hpid : pidOf m.code = some pid)
    (hnew : Tab.get (s.far n).last (epDir m.ep m.isIn) none = none) (hidle : (s.far n).run = []) (hconn : s.on USB_PORT_CONN (n - 1) = true) :
    s.xferMsg e m = s.setFar n { s.far n with run := [{ tag := m.tag, ep := m.ep, pid := pid, xt := m.xt, data := m.body }] } := by
  subst hn
  simp only [State.xferMsg, hpid, hnew, hidle, hconn, List.any_nil, Bool.not_true, Bool.false_eq_true, if_false, List.nil_append]

/-! The device behind a far port (R302, R304). -/

/-- A bulk OUT that the device takes is done: the toggle of its endpoint flips, and its result is kept and sent. -/
theorem State.deviceDone_of_bulk_out {s : State} {n e : Nat} {x : ProxyXfer} {l : List ProxyXfer} (hentry : s.portEntry n = some e)
    (hnext : (s.far n).run = x :: l) (hrun : s.svcRuns e = true) (hxt : x.xt = 2) (hpid : x.pid = .out) :
    s.deviceDone n .ack = (s.setFar n { s.far n with
      run := l, tog := Tab.put (s.far n).tog (2 * x.ep) (!Tab.get (s.far n).tog (2 * x.ep) false) false }).farResult n e x 0 [] := by
  have hnotSetup : ¬ UsbPid.out = UsbPid.setup := by decide
  have hbulk : ¬ 2 = 0 := by decide
  simp only [State.deviceDone, hentry, hnext, hrun, hxt, hpid, if_neg hnotSetup, if_neg hbulk, Bool.not_true, Bool.false_eq_true, if_false]
  rfl

theorem State.sofSend_of_enabled {s : State} {n : Nat} (hmode : s.portMode n = 2) (hena : s.on USB_PORT_ENA (n - 1) = true)
    (hsusp : s.on USB_PORT_SUSP (n - 1) = false) :
    s.sofSend n = s.setFar n { s.far n with frame := ((s.far n).frame + 1) % 2048 } := by
  simp [State.sofSend, hmode, hena, hsusp]

/-! Polls of interrupt endpoints (R306, R307). -/

/-- The time of the last poll of endpoint `ep` is kept. -/
def State.polled (s : State) (n ep : Nat) : State :=
  s.setFar n { s.far n with polled := Tab.put (s.far n).polled ep (some (s.far n).frame) none }

section
variable {s : State} {n ep e : Nat} (hentry : s.portEntry n = some e) (htakes : s.svcTakes e = true) (hmode : s.portMode n = 2)
  (hena : s.on USB_PORT_ENA (n - 1) = true) (hsusp : s.on USB_PORT_SUSP (n - 1) = false) (hdue : s.pollDue n ep = true)
include hentry htakes hmode hena hsusp hdue

theorem State.poll_of_room (hroom : (Tab.get (s.far n).queue ep []).length < 4) (d : List Byte) :
    s.poll n ep (.data d) = ((s.polled n ep).sendPeriodic n e ep false d).setFar n { ((s.polled n ep).sendPeriodic n e ep false d).far n with
        tog := Tab.put (s.far n).tog (epDir ep true) (!Tab.get (s.far n).tog (epDir ep true) false) false } ∧
      s.poll n ep .nak = s.polled n ep := by
  have hfree : ¬ (Tab.get (s.far n).queue ep []).length ≥ 4 := Nat.not_le.mpr hroom
  constructor <;>
    simp only [State.poll, hentry, htakes, hmode, hena, hsusp, hdue, if_neg hfree, ne_eq, not_true_eq_false, decide_false, Bool.not_true,
      Bool.or_self, Bool.false_eq_true, if_false, State.polled]

theorem State.poll_of_full (hfull : ¬ (Tab.get (s.far n).queue ep []).length < 4) (r : DeviceReply) :
    s.poll n ep r = (s.polled n ep).usbCount 6 := by
  have hfour : (Tab.get (s.far n).queue ep []).length ≥ 4 := Nat.not_lt.mp hfull
  simp only [State.poll, hentry, htakes, hmode, hena, hsusp, hdue, if_pos hfour, ne_eq, not_true_eq_false, decide_false, Bool.not_true,
    Bool.or_self, Bool.false_eq_true, if_false, State.polled]

end

theorem State.periodicRto_of_used_up {s : State} {n ep tag e : Nat} {r : ProxyReport} (hentry : s.portEntry n = some e)
    (hwait : (Tab.get (s.far n).queue ep []).find? (fun r => r.tag == tag) = some r) (hrun : s.svcRuns e = true)
    (hdue : s.due (.periodic n ep tag) = true) (htries : ¬ r.tries < s.proxyRetry e) :
    s.periodicRto n ep tag = ((s.setFar n { s.far n with
      queue := Tab.put (s.far n).queue ep ((Tab.get (s.far n).queue ep []).filter (fun x => x.tag != tag)) [] }).usbCount 3).proxyCount e 2 := by
  simp only [State.periodicRto, hentry, hwait, hrun, hdue, if_neg htries, Bool.not_true, Bool.or_self, Bool.false_eq_true, if_false]

/-! Port commands and PORTSTAT (R309, R310). -/

theorem State.portCmdMsg_power_on {s : State} {e n : Nat} {m : ProxyMsg} (hn : s.proxyPort e = n) (hcode : m.code = 4) :
    s.portCmdMsg e m = s.statChange ((s.wr USB_PORT_PWR 1 (n - 1)).efuse n true) n := by
  subst hn
  simp only [State.portCmdMsg, hcode]

theorem State.portCmdMsg_disable {s : State} {e n : Nat} {m : ProxyMsg} (hn : s.proxyPort e = n) (hcode : m.code = 6) :
    s.portCmdMsg e m = s.statChange (s.wr USB_PORT_ENA 0 (n - 1)) n := by
  subst hn
  simp only [State.portCmdMsg, hcode]

theorem State.portStat_of_served {s : State} {n e : Nat} (hmode : s.portMode n = 2) (hentry : s.portEntry n = some e) :
    s.portStat n = s.engineSend e (proxyBytes .portStat 0 false 0 false 0 0 (s.statBody n) (s.far n).epoch) := by
  simp only [State.portStat, hmode, if_true, State.sendFar, hentry]

/-- Settles O33: each message by what the far side holds, and the mailbox opcodes as any request. -/
theorem usbProxyFar : Obligations.UsbProxyFar := by
  refine ⟨fun e raw n m pid s s1 u htake hrole hm hn hepoch hu hpid hnew hidle hconn => ?_,
    fun n e x l s hentry hnext hrun hmode hxt hpid => ?_, fun n s hmode hena hsusp => ?_,
    fun n ep d e s s0 hentry htakes hmode hena hsusp hdue hs0 hroom => ?_,
    fun n ep r e s hentry htakes hmode hena hsusp hdue hfull => ?_, fun e raw n m s s1 u htake hrole hm hn hepoch hu hver => ?_,
    fun n ep tag e r s hentry hwait hrun hdue htries => ?_, fun e raw n m s s1 u htake hrole hm hn hepoch hu hcode => ?_,
    fun e raw n m s s1 u htake hrole hm hn hepoch hu hcode => ?_, fun n e s hmode hentry => ?_,
    fun n m e s hbusy hrun hs => ⟨_, rfl, State.mbxSubmit_accepted hbusy hrun hs (by decide) (by decide) e.isLt⟩,
    fun n m e s hbusy hrun hs => ⟨_, rfl, State.mbxSubmit_accepted hbusy hrun hs (by decide) (by decide) e.isLt⟩⟩
  · subst hu hn hm
    exact congrArg Host.Outcome.next ((State.takeFar_of_message htake hrole hepoch).trans
      (State.xferMsg_of_first (s1.proxyPort_farEpoch _ _ _) hpid hnew hidle hconn))
  · exact congrArg Host.Outcome.next ((if_neg hmode).trans (State.deviceDone_of_bulk_out hentry hnext hrun hxt hpid))
  · exact congrArg Host.Outcome.next (State.sofSend_of_enabled hmode hena hsusp)
  · subst hs0
    obtain ⟨hdata, hnak⟩ := State.poll_of_room hentry htakes hmode hena hsusp hdue hroom d
    exact ⟨congrArg Host.Outcome.next hdata, congrArg Host.Outcome.next hnak⟩
  · exact congrArg Host.Outcome.next (State.poll_of_full hentry htakes hmode hena hsusp hdue hfull r)
  · subst hu hn hm
    refine congrArg Host.Outcome.next ((State.takeFar_of_message htake hrole hepoch).trans ?_)
    simp only [State.perAckMsg, State.proxyPort_farEpoch]
  · exact congrArg Host.Outcome.next (State.periodicRto_of_used_up hentry hwait hrun hdue htries)
  · subst hu hn hm
    exact congrArg Host.Outcome.next ((State.takeFar_of_message htake hrole hepoch).trans
      (State.portCmdMsg_power_on (s1.proxyPort_farEpoch _ _ _) hcode))
  · subst hu hn hm
    exact congrArg Host.Outcome.next ((State.takeFar_of_message htake hrole hepoch).trans
      (State.portCmdMsg_disable (s1.proxyPort_farEpoch _ _ _) hcode))
  · exact congrArg Host.Outcome.next (State.portStat_of_served hmode hentry)

end Sys2Proof.Machine
end

section
/-! PROOFS. A FILL of host memory writes its pattern over its destination and nothing else (R386, R387, R389). -/

open Sys2Proof

namespace Sys2Proof.Machine

/-- The byte of the FILL pattern `p` at address `a`: the pattern repeats at multiples of 8. -/
def fillByte (p a : Nat) : Byte := BitVec.ofNat 8 (p / 256 ^ (a % 8))

/-- The pattern over `c` bytes from address `a` on. -/
def Memory.fill (m : Memory) (p : Nat) : Nat → Nat → Memory
  | 0, _ => m
  | c + 1, a => Memory.fill (m.setByte a (fillByte p a)) p c (a + 1)

theorem Memory.byte_fill (p : Nat) : ∀ (c : Nat) {m : Memory} (a x : Nat), Memory.wf m = true →
    Memory.byte (Memory.fill m p c a) x = if a ≤ x ∧ x < a + c then fillByte p x else Memory.byte m x
  | 0, _, a, x, _ => (if_neg (by omega)).symm
  | c + 1, m, a, x, hm => by
    rw [Memory.fill, Memory.byte_fill p c (a + 1) x (Memory.wf_setByte a _ hm)]
    by_cases hx : a = x
    · subst hx
      rw [if_neg (by omega), if_pos (by omega), Memory.byte_setByte_self _ _ hm]
    · rw [Memory.byte_setByte_ne _ hx]
      exact ite_congr (propext (by omega)) (fun _ => rfl) (fun _ => rfl)

/-- Byte `i` of a single line lies `i` bytes after its start. -/
theorem DmaSide.at_of_lt_line {d : DmaSide} {i : Nat} (h : i < d.line) : d.at i = d.addr + i := by
  simp [DmaSide.at, Nat.div_eq_of_lt h, Nat.mod_eq_of_lt h]

/-- Host memory takes new contents, and nothing else changes. -/
def State.withHost (s : State) (m : Memory) : State := { s with host := m }

section
variable (s : State) (m : Memory) (n : Nat)

@[simp] theorem State.host_withHost : (s.withHost m).host = m := rfl
@[simp] theorem State.withHost_withHost (m2 : Memory) : (s.withHost m).withHost m2 = s.withHost m2 := rfl
@[simp] theorem State.withHost_host : s.withHost s.host = s := rfl
@[simp] theorem State.dma_withHost : (s.withHost m).dma = s.dma := rfl
@[simp] theorem State.rd_withHost (F : Field) (i j : Nat) : (s.withHost m).rd F i j = s.rd F i j := rfl
@[simp] theorem State.on_withHost (F : Field) (i j : Nat) : (s.withHost m).on F i j = s.on F i j := rfl
@[simp] theorem State.dmaDst_withHost : (s.withHost m).dmaDst n = s.dmaDst n := rfl
@[simp] theorem State.dmaOp_withHost : (s.withHost m).dmaOp n = s.dmaOp n := rfl

end

/-- The pattern of a FILL stands in the source address. -/
def State.fillPattern (s : State) (n : Nat) : Nat := s.rd DMX_SRC_HI_ADDR n * 2 ^ 32 + s.rd DMX_SRC_LO_ADDR n

@[simp] theorem State.fillPattern_withHost (s : State) (m : Memory) (n : Nat) : (s.withHost m).fillPattern n = s.fillPattern n := by
  simp only [State.fillPattern, State.rd_withHost]

/-- A FILL of host memory moves byte by byte, since no side lies in register space. -/
theorem State.dmaUnit_of_hostFill {s : State} {n : Nat} (hop : s.dmaOp n = opFill) (hspace : (s.dmaDst n).space = spHost) : s.dmaUnit n = 1 := by
  have hreg : (spHost == spReg) = false := by decide
  simp [State.dmaUnit, State.dmaSides, hop, hspace, hreg]

theorem State.dmaPlace_of_hostFill {s : State} {n : Nat} (hop : s.dmaOp n = opFill) (hspace : (s.dmaDst n).space = spHost) (k : Nat) :
    s.dmaPlace n k = k := by
  have hdown : s.dmaDown n = false := by
    have hcopy : (opFill == opCopy) = false := by decide
    simp [State.dmaDown, hop, hcopy]
  simp [State.dmaPlace, hdown, State.dmaUnit_of_hostFill hop hspace]

theorem State.dmaUnitMove_of_hostFill {s : State} {n : Nat} (hop : s.dmaOp n = opFill) (hspace : (s.dmaDst n).space = spHost) (i : Nat) :
    s.dmaUnitMove n i =
      (s.withHost (s.host.setByte ((s.dmaDst n).at i) (fillByte (s.fillPattern n) ((s.dmaDst n).at i))), .done) := by
  have hreg : spHost ≠ spReg := by decide
  have hbytes : s.fillBytes n ((s.dmaDst n).at i) 1 = [fillByte (s.fillPattern n) ((s.dmaDst n).at i)] := by
    simp [State.fillBytes, fillByte, State.fillPattern]
  simp only [State.dmaUnitMove, if_pos hop, State.dmaUnit_of_hostFill hop hspace, State.dmaWriteUnit, hspace, if_pos hreg, hbytes,
    State.dmaBytesWrite, State.dmaByteWrite, if_true, State.withHost]

/-- The bytes of a FILL go out in rising order. -/
theorem State.dmaMove_succ_of_hostFill {s : State} {n c k : Nat} (hop : s.dmaOp n = opFill) (hspace : (s.dmaDst n).space = spHost)
    (hk : k < (s.dmaDst n).line) :
    s.dmaMove n (c + 1) k = (s.withHost (s.host.setByte ((s.dmaDst n).addr + k)
      (fillByte (s.fillPattern n) ((s.dmaDst n).addr + k)))).dmaMove n c (k + 1) := by
  rw [State.dmaMove, State.dmaPlace_of_hostFill hop hspace, State.dmaUnitMove_of_hostFill hop hspace, DmaSide.at_of_lt_line hk]

/-- `c` bytes of a FILL of one line in host memory, from byte `k` on, are the pattern over them. -/
theorem State.dmaMove_of_hostFill {n : Nat} (c : Nat) : ∀ (k : Nat) {s : State}, s.dmaOp n = opFill → (s.dmaDst n).space = spHost →
    k + c ≤ (s.dmaDst n).line →
    s.dmaMove n c k = (s.withHost (s.host.fill (s.fillPattern n) c ((s.dmaDst n).addr + k)), k + c, .done) := by
  induction c with
  | zero => intro k s _ _ _; rw [State.dmaMove, Memory.fill, State.withHost_host, Nat.add_zero]
  | succ c ih =>
    intro k s hop hspace hfit
    rw [State.dmaMove_succ_of_hostFill hop hspace (by omega), ih (k + 1) (by rwa [State.dmaOp_withHost])
      (by rwa [State.dmaDst_withHost]) (by rw [State.dmaDst_withHost]; omega), State.withHost_withHost, State.fillPattern_withHost,
      State.dmaDst_withHost, State.host_withHost, Memory.fill, Nat.add_right_comm k 1 c, Nat.add_assoc, Nat.add_assoc]

/-! The end of a transfer outside ring mode that raises no interrupt and has none waiting behind it (R389, R390). -/

/-- A transfer ends with its code, DONEEV and IDLE. -/
def State.dmaIdled (s : State) (n : Nat) (c : DmaCode) : State :=
  ((s.wr DMC_STAT_CODE c.code n).wr DMC_STAT_DONEEV 1 n).wr DMC_STAT_STATE dmaIdle n

theorem State.rd_dmaIdled_of_otherBit {G : Field} (hcode : DMC_STAT_CODE.otherBit G = true) (hdone : DMC_STAT_DONEEV.otherBit G = true)
    (hstate : DMC_STAT_STATE.otherBit G = true) (s : State) (n : Nat) (c : DmaCode) (i j : Nat) : (s.dmaIdled n c).rd G i j = s.rd G i j := by
  rw [State.dmaIdled, State.rd_wr_ne (Field.key_ne_of_otherBit hstate _ _ _ _), State.rd_wr_ne (Field.key_ne_of_otherBit hdone _ _ _ _),
    State.rd_wr_ne (Field.key_ne_of_otherBit hcode _ _ _ _)]

theorem State.dmaFinish_of_plain {s : State} {n : Nat} (hcur : Tab.get s.dma.cur n none = none) (hirq : s.on DMX_OPW_IRQ n = false) (c : DmaCode) :
    s.dmaFinish n c = s.dmaIdled n c := by
  have hcur1 : Tab.get (s.dmaIdled n c).dma.cur n none = none := hcur
  simp only [State.dmaIdled] at hcur1
  simp only [State.dmaFinish, State.dmaIdled, hcur1, hirq, Bool.false_eq_true, if_false]

theorem State.dmaEnd_of_plain {s : State} {n : Nat} (hcur : Tab.get s.dma.cur n none = none) (hirq : s.on DMX_OPW_IRQ n = false)
    (hnext : s.on DMS_SHCTRL_VALID n = false) (c : DmaCode) : s.dmaEnd n c = s.dmaIdled n c := by
  have hnext1 : (s.dmaIdled n c).on DMS_SHCTRL_VALID n = false := by
    rw [State.on, State.rd_dmaIdled_of_otherBit (by decide) (by decide) (by decide), ← State.on, hnext]
  simp only [State.dmaEnd, State.dmaFinish_of_plain hcur hirq, hnext1, Bool.false_and, Bool.false_eq_true, if_false]

/-- Bytes moved before the end show in DONE; the transfer then ends as before. -/
theorem State.dmaEnd_of_dmaDone {s : State} {n : Nat} (hcur : Tab.get s.dma.cur n none = none) (hirq : s.on DMX_OPW_IRQ n = false)
    (hnext : s.on DMS_SHCTRL_VALID n = false) (bytes : Nat) (c : DmaCode) : (s.dmaDone n bytes).dmaEnd n c = (s.dmaDone n bytes).dmaIdled n c := by
  refine State.dmaEnd_of_plain (s := s.dmaDone n bytes) hcur ?_ ?_ c
  · rw [State.dmaDone, State.on_wr_ne (Field.key_ne_of_otherBit (by decide) _ _ _ _), hirq]
  · rw [State.dmaDone, State.on_wr_ne (Field.key_ne_of_otherBit (by decide) _ _ _ _), hnext]

/-- Settles O42: the bytes move one at a time, each write is of host memory alone, and the end writes registers only. -/
theorem dmaFillWritesItsDestination : Obligations.DmaFillWritesItsDestination := by
  intro n b s hmoves hop hb hspace hlines hcur hirq hnext hsound
  subst hb
  have hunits : s.dmaUnits n = (s.dmaDst n).line := by
    rw [State.dmaUnits, State.dmaUnit_of_hostFill hop hspace, DmaSide.total, hlines, Nat.div_one, Nat.mul_one]
  have hmove := State.dmaMove_of_hostFill (s.dmaDst n).line 0 hop hspace (Nat.le_of_eq (Nat.zero_add _))
  refine ⟨_, rfl, ?_⟩
  simp only [State.dmaComplete, hmoves, Bool.not_true, Bool.false_eq_true, if_false, hunits, hmove, State.dmaStopped, Nat.add_zero]
  rw [State.dmaEnd_of_dmaDone (s := s.withHost (s.host.fill (s.fillPattern n) (s.dmaDst n).line (s.dmaDst n).addr)) hcur hirq hnext]
  refine ⟨State.rd_wr_listed rfl (by decide) _ _ _, fun a => Memory.byte_fill _ _ _ _ hsound.host, rfl, rfl, rfl⟩

end Sys2Proof.Machine
end

section
/-! PROOFS. What the statement on block tunnels claims of data for a request whose ring the host has lost (R326, R351). -/

open Sys2Proof

namespace Sys2Proof.Machine

/-- A DATA message of one block: tag 5, serial 1, block 0, its first byte 1 and the others 0. -/
def lateData : List Byte := blkHeader 2 1 5 1 0 0 0 false ++ 1 :: List.replicate 4095 0

/-- A READ of one block to address 0; its ring is the number that stands for one that the loss of the host has taken away. -/
def orphanRead : BlkReq := { ring := 128, op := blkRead, nblk := 1, tag := 5, cnt := 1, serial := 1 }

/-- Initiator entry 1 with that READ, and its data as the oldest message. -/
def orphanReadState : State := (Tests.inbox (Tests.params (Tests.entry 3) [0, 0]) lateData).setReqs 1 [orphanRead]

set_option maxRecDepth 100000 in
/-- Refutes O34: its clause on the data of a READ at an initiator takes any request, so also one whose ring is gone with the host (R351). The clause has the block written to host memory, where the hub drops it. -/
theorem not_blockTunnels : ¬ Obligations.BlockTunnels := by
  intro h
  obtain ⟨-, -, -, -, -, -, -, -, -, hdata, -⟩ := h
  have hwritten := Host.Outcome.next.inj (hdata 1 (parseBlk lateData) orphanRead _ orphanReadState (orphanReadState.takeBlk 1 2).1
    (by decide +kernel) (by decide +kernel) (by decide +kernel) rfl)
  exact absurd (congrArg (fun s => Memory.byte s.host 0) hwritten) (by decide +kernel)

end Sys2Proof.Machine
end

section
/-! PROOFS. The storage back ends (R324, R327, R330). -/

open Sys2Proof

namespace Sys2Proof.Machine

/-- The state of a back end stands in the registers alone. -/
@[simp] theorem State.sto_setBe (s : State) (m st : Nat) : (s.setBe m st).sto = s.sto := by
  unfold State.setBe
  split <;> rfl

/-- NVEN goes on and MMCEN stays off: the NVMe back end alone starts to initialise. -/
theorem State.stoCtrlWrite_of_nvme {s : State} {w : Nat} (hoff : s.on STO_CTRL_NVEN = false) (hon : (s.writeReg 0x1F0000 w).on STO_CTRL_NVEN = true)
    (hmmc : s.on STO_CTRL_MMCEN = false) (hmmc1 : ((s.writeReg 0x1F0000 w).setBe 0 beInit).on STO_CTRL_MMCEN = false) :
    s.stoCtrlWrite w = (s.writeReg 0x1F0000 w).setBe 0 beInit := by
  have hne : (false == true) = false := rfl
  simp only [State.stoCtrlWrite, hoff, hon, hne, Bool.false_eq_true, if_false, if_true, hmmc, hmmc1, beq_self_eq_true]

section
variable {s : State} {m cause blocks lbaSz mdts mode : Nat} {modes : BitVec 6} {byteCard wp : Bool} (hinit : s.beState m = beInit)
include hinit

theorem State.initDone_of_cause (hcause : cause ≠ 0) :
    s.initDone m cause blocks lbaSz mdts modes byteCard wp = (s.endInFlight m (fun _ _ => some BlkStatus.noMedia.code)).beFails m cause := by
  simp [State.initDone, hinit, hcause]

theorem State.initDone_of_nvme (hm : m = 0) (hcause : cause = 0) :
    s.initDone m cause blocks 12 mdts modes byteCard wp =
      { (((s.setBe 0 beReady).wr STO_NVME_CAP_LO_BLOCKS blocks).wr STO_NVME_CAP_HI_BLOCKS (blocks / 2 ^ 32)).wr STO_NVME_CAP_HI_LBASZ 12 with
        sto := { s.sto with mdts := mdts } } := by
  subst hm
  simp [State.initDone, hinit, hcause]

theorem State.initDone_of_card (hm : m = 1) (hcause : cause = 0) (hmode : s.achieved modes = some mode) :
    s.initDone m cause blocks lbaSz mdts modes byteCard wp =
      ({ ((((s.setBe 1 beReady).wr STO_MMC_CAP_LO_BLOCKS blocks).wr STO_MMC_CAP_HI_BLOCKS (blocks / 2 ^ 32)).wr STO_MMC_CAP_HI_MODE mode).wr
          STO_STAT_WP (bit wp) with sto := { s.sto with byteCard := byteCard } } : State).resumeCard := by
  subst hm
  simp [State.initDone, hinit, hcause, hmode]

end

section
variable {s : State} {e tag n : Nat} {data : List Byte} {c : BlkCmd}
  (hcmd : (s.blkCmds e).find? (fun c => c.tag == tag && c.started && c.status.isNone) = some c)
include hcmd

theorem State.backendDone_of_error : s.backendDone e tag n false data = (s.stoCount 3).putCmd e { c with status := some BlkStatus.media.code } := by
  simp only [State.backendDone, hcmd, Bool.not_false, if_true]

theorem State.backendDone_of_read (hop : c.op = blkRead) {k : Nat} {c1 : BlkCmd} (hk : k = min n (c.nblk - c.count))
    (hc1 : c1 = { c with count := c.count + k, status := if c.count + k = c.nblk then some 0 else none }) :
    s.backendDone e tag n true data = (((s.putCmd e c1).backendRuns e c1).blkCount e 1 k).each
      (State.dataMessages blkRead c.tag c.serial k (if s.blkVer e ≥ 3 then 2 else 1) (c.blk + c.count) (blocksOf k data)) (fun s m => s.engineSend e m) := by
  have hflush : ¬ blkRead = blkFlush := by decide
  simp only [State.backendDone, hcmd, hop, if_neg hflush, Bool.not_true, Bool.false_eq_true, if_false, if_true, hk, hc1]

end

/-- Ends of the command that timed out, and of the others at an NVMe device. -/
theorem State.beTimeout_of_due {s : State} {e tag : Nat} (hcmd : (s.blkCmds e).any (fun c => c.tag == tag && c.started && c.status.isNone) = true)
    (hdue : s.due (.backend e tag) = true)
    (hrecent : ((Tab.get s.sto.resets (s.blkMedium e) []).filter (fun t => s.tmu.elapsed < t + 60000000000 * 2 ^ 32)).length < 2) {s1 : State}
    (hs1 : s1 = ((s.endInFlight (s.blkMedium e) (fun i t => if i = e && t = tag then some 5 else if decide (s.blkMedium e = 0) then some 9 else none)).stoCount
      4).stoCount 7) :
    s.beTimeout e tag = (({ s1 with sto := { s1.sto with resets := Tab.put s1.sto.resets (s.blkMedium e) (s.tmu.elapsed ::
      (Tab.get s.sto.resets (s.blkMedium e) []).filter (fun t => s.tmu.elapsed < t + 60000000000 * 2 ^ 32)) [] } } : State).setBe (s.blkMedium e) beReset) := by
  have hfew : ¬ (s.tmu.elapsed :: (Tab.get s.sto.resets (s.blkMedium e) []).filter (fun t => s.tmu.elapsed < t + 60000000000 * 2 ^ 32)).length ≥ 3 := by
    rw [List.length_cons]
    omega
  have htimeout : BlkStatus.timeout.code = 5 := rfl
  have haborted : BlkStatus.aborted.code = 9 := rfl
  simp only [State.beTimeout, hcmd, hdue, htimeout, haborted, if_neg hfew, decide_eq_false hfew, Bool.or_false, Bool.not_true, Bool.false_eq_true, if_false, hs1,
    Bool.and_eq_true, decide_eq_true_eq]

theorem State.beRemoved_of_nvme {s : State} (hon : s.on STO_CTRL_NVEN = true) :
    s.beRemoved 0 = (s.endInFlight 0 (fun _ _ => some BlkStatus.noMedia.code)).beFails 0 4 := by
  simp [State.beRemoved, hon]

theorem State.beRemoved_of_card {s : State} (hon : s.on STO_CTRL_MMCEN = true) (hstate : s.rd STO_STAT_MMCSTATE ≠ beFail) :
    s.beRemoved 1 = (((s.endInFlight 1 (fun _ _ => some BlkStatus.noMedia.code)).wr STO_STAT_CD 0).wr STO_STAT_MMCEV 1).setBe 1 beInit := by
  have hbe : s.beState 1 ≠ beFail := hstate
  simp [State.beRemoved, hon, hbe]

section
variable {s : State} {held : Nat} (hheld : held ≥ s.rd STO_MMC_CFG_CDDB * 1000000 * 2 ^ 32)
include hheld

theorem State.cardDetect_of_present (hcd : s.on STO_STAT_CD = false) : s.cardDetect true held = (s.wr STO_STAT_CD 1).wr STO_STAT_MMCEV 1 := by
  have hne : (true == false) = false := rfl
  simp only [State.cardDetect, hcd, hne, decide_eq_false (Nat.not_lt.mpr hheld), Bool.or_false, Bool.false_eq_true, if_false, if_true]

theorem State.cardDetect_of_gone (hcd : s.on STO_STAT_CD = true) : s.cardDetect false held = s.beRemoved 1 := by
  have hne : (false == true) = false := rfl
  simp only [State.cardDetect, hcd, hne, decide_eq_false (Nat.not_lt.mpr hheld), Bool.or_false, Bool.false_eq_true, if_false]

end

/-- Settles O35, clause by clause. -/
theorem storageBackEnds : Obligations.StorageBackEnds := by
  refine ⟨fun w s hoff hon hmmc _ hmmc1 => congrArg Host.Outcome.next (State.stoCtrlWrite_of_nvme hoff hon hmmc hmmc1),
    fun cause blocks mdts modes byteCard wp s hinit hcause => ?_,
    fun m cause blocks lbaSz mdts modes byteCard wp s s1 hinit hcause hs1 => ?_,
    fun cause blocks lbaSz mdts modes byteCard wp mode s s1 hinit hcause hmode hs1 => ?_,
    fun e tag n data c s hcmd hop k c1 hk hc1 => congrArg Host.Outcome.next (State.backendDone_of_read hcmd hop hk hc1),
    fun e tag n data c s hcmd => congrArg Host.Outcome.next (State.backendDone_of_error hcmd),
    fun e tag s s1 hcmd hs1 hdue hrecent => congrArg Host.Outcome.next (State.beTimeout_of_due hcmd hdue hrecent hs1),
    fun s _ hon => congrArg Host.Outcome.next (State.beRemoved_of_nvme hon),
    fun held s hcd hheld => congrArg Host.Outcome.next (State.cardDetect_of_present hheld hcd),
    fun held s hcd hheld hon hstate =>
      congrArg Host.Outcome.next ((State.cardDetect_of_gone hheld hcd).trans (State.beRemoved_of_card hon hstate))⟩
  · exact congrArg Host.Outcome.next (State.initDone_of_nvme (s := s) (m := 0) hinit rfl (congrArg Fin.val hcause))
  · have hfail := State.initDone_of_cause (blocks := blocks.toNat) (lbaSz := lbaSz) (mdts := mdts.toNat) (modes := modes) (byteCard := byteCard)
      (wp := wp) hinit (Fin.val_ne_zero_iff.mpr hcause)
    have hm : (m : Nat) = 0 ↔ m = 0 := Fin.val_eq_zero_iff
    have hcode : BlkStatus.noMedia.code = 7 := rfl
    have hstate : beFail = 4 := rfl
    simp only [hcode, ← hs1, State.beFails, State.setBe, hstate, hm] at hfail
    exact congrArg Host.Outcome.next hfail
  · have hach : s.achieved modes = some mode := hmode
    have hcard := State.initDone_of_card (blocks := blocks.toNat) (lbaSz := lbaSz) (mdts := mdts.toNat) (byteCard := byteCard) (wp := wp)
      hinit rfl (congrArg Fin.val hcause) hach
    rw [hs1]
    exact congrArg Host.Outcome.next hcard

end Sys2Proof.Machine
end

section
/-! PROOFS. TX descriptors, and packets for RX rings (R351, R359 to R361). -/

open Sys2Proof

namespace Sys2Proof.Machine

/-! TX descriptors (R359, R360). -/

section
variable {s : State} {r : Nat} {d : Desc} (hrun : s.rd RNG_RSTAT_STATE r = ringRunning) (htype : s.rd RNG_RCFG_TYPE r = ringTx)
  (hready : s.ringReady r = true) (hfree : s.portHeld (s.ringPortOf r) = false) (hnext : s.nextDesc r = some d)
include hrun htype hready hfree hnext

/-- The next descriptor of a running TX ring runs, where its port holds no packet. -/
theorem State.txDescriptor_of_next (err : BusError) : s.txDescriptor r err = s.txRun r d err := by
  simp [State.txDescriptor, hrun, htype, hready, hfree, hnext]

end

section
variable {s : State} {r : Nat} {d : Desc}

theorem State.txRun_of_failure {c : DescStatus} (hfail : s.txFailure r d = some c) (err : BusError) : s.txRun r d err = s.descFails r d c := by
  rw [State.txRun, hfail]

section
variable (hsound : s.txFailure r d = none)
include hsound

theorem State.txRun_of_notOpen (hslot : d.le 10 1 ≠ 0) (hstate : s.rd CTX3_STATE (d.le 10 1) ≠ ctxOpen) (err : BusError) :
    s.txRun r d err = (s.sat CTX5_DISCARDS (d.le 10 1)).descFails r d .notOpen := by
  simp [State.txRun, hsound, hslot, hstate]

theorem State.txRun_of_open (hslot : d.le 10 1 ≠ 0) (hstate : s.rd CTX3_STATE (d.le 10 1) = ctxOpen) {out : State × Sent}
    (hout : out = (s.startDesc r d.idx).originSend (d.le 10 1) ((s.startDesc r d.idx).internalCopy (s.ringPortOf r) (s.rd CTX2_CLASS (d.le 10 1))
      (s.readSide (s.ringMgmt r) (d.le 0 8) (d.le 8 2))) (some r)) :
    s.txRun r d .noError = out.1.txDone r d.idx (s.rd CTX7_SEQ (d.le 10 1)) out.2 false := by
  simp [State.txRun, hsound, hslot, hstate, hout]

theorem State.txRun_of_raw (hslot : d.le 10 1 = 0) {out : State × Sent}
    (hout : out = (s.startDesc r d.idx).rawSend r d (s.readSide (s.ringMgmt r) (d.le 0 8) (d.le 8 2))) :
    s.txRun r d .noError = out.1.txDone r d.idx 0 out.2 false := by
  simp [State.txRun, hsound, hslot, hout]

end
end

/-! RX rings (R361). -/

/-- The start of a descriptor leaves the hub's own address. -/
theorem State.selfPrefix_startDesc (s : State) (r idx : Nat) : (s.startDesc r idx).selfPrefix = s.selfPrefix := by
  have hkept : ∀ F, RNG_RSTAT_OUTST.otherBit F = true → (s.startDesc r idx).rd F = s.rd F := fun F hF =>
    State.rd_wr_ne (Field.key_ne_of_otherBit hF _ _ _ _) _
  simp only [State.selfPrefix, hkept FAB_SELF_STATION rfl, hkept FAB_SELF_RING rfl, hkept FAB_SELF_CHAIN rfl, hkept FAB_SELF_HUB rfl]

theorem State.rxBytes_startDesc (s : State) (r idx : Nat) (c : Copy) : (s.startDesc r idx).rxBytes c = s.rxBytes c := by
  simp only [State.rxBytes, State.selfPrefix_startDesc]

section
variable {s : State} {p r : Nat} {c : Copy} {d : Desc} (hsend : s.sending p = some c)
include hsend

theorem State.rxDeliver_of_noRing (hring : s.rxRing c = none) (err : BusError) : s.rxDeliver p err = s.noBuffer p := by
  simp only [State.rxDeliver, hsend, hring]

theorem State.rxExpire_of_ring (hring : s.rxRing c = some r) (hlost : s.rxUsable p r = false ∨
    (s.nextDesc r = none ∧ s.ran (.rxWait (p == 21)) (s.rd RNG_RXCFG_RXWAIT * 10000) = true)) : s.rxExpire p = s.noBuffer p := by
  rcases hlost with husable | ⟨hnext, hran⟩
  · simp only [State.rxExpire, hsend, hring, husable, Bool.not_false, if_true]
  · simp [State.rxExpire, hsend, hring, hnext, hran]

section
variable (hring : s.rxRing c = some r) (husable : s.rxUsable p r = true) (hready : s.ringReady r = true) (hnext : s.nextDesc r = some d)
  (hzero : d.zero 10 29 = true) (hlen : d.le 8 2 ≠ 0) (hmax : d.le 8 2 ≤ 9264) (hflags : d.le 31 1 % 64 = 0)
include hring husable hready hnext hzero hlen hmax hflags

theorem State.rxDeliver_of_fit (hfit : c.hdr.payload.length ≤ d.le 8 2) :
    s.rxDeliver p .noError = ((((s.startDesc r d.idx).completeSend p).writeSide (s.ringMgmt r) (d.le 0 8) c.hdr.payload).ringDone r d.idx
      ((s.startDesc r d.idx).rxBytes c) 0 false) := by
  simp [State.rxDeliver, hsend, hring, husable, hready, hnext, hzero, hlen, Nat.not_lt.mpr hmax, hflags, Nat.not_lt.mpr hfit, State.rxBytes_startDesc]

theorem State.rxDeliver_of_long (hlong : c.hdr.payload.length > d.le 8 2) {err : BusError} (herr : err ≠ .writeBack) :
    s.rxDeliver p err = ((s.startDesc r d.idx).completeSend p).ringDone r d.idx
      (leBytes 2 c.hdr.payload.length ++ (((s.startDesc r d.idx).rxBytes c).drop 2)) DescStatus.tooBig.code false := by
  simp [State.rxDeliver, hsend, hring, husable, hready, hnext, hzero, hlen, Nat.not_lt.mpr hmax, hflags, hlong, herr, State.rxBytes_startDesc]

end
end

/-- Settles O38, clause by clause. -/
theorem transmitAndReceiveRings : Obligations.TransmitAndReceiveRings := by
  refine ⟨fun r d c err s hrun htype hready hfree hnext hfail => ?_, fun r d err s hrun htype hready hfree hnext hsound hslot hstate => ?_,
    fun r d s s1 out hrun htype hready hfree hnext hsound hslot hstate hs1 hout => ?_,
    fun r d s out hrun htype hready hfree hnext hsound hslot hout => ?_,
    fun mgmt p r c d s hp hsend hring husable hready hnext hzero hlen hmax hflags hfit => ?_,
    fun mgmt p r c d err s hp hsend hring husable hready hnext hzero hlen hmax hflags hlong herr => ?_,
    fun mgmt p c err s hp hsend hring => ?_, fun mgmt p r c s hp hsend hring hlost => ?_⟩
  · exact congrArg Host.Outcome.next ((State.txDescriptor_of_next hrun htype hready hfree hnext _).trans (State.txRun_of_failure hfail _))
  · exact congrArg Host.Outcome.next ((State.txDescriptor_of_next hrun htype hready hfree hnext _).trans
      (State.txRun_of_notOpen hsound hslot hstate _))
  · subst hs1
    exact congrArg Host.Outcome.next ((State.txDescriptor_of_next hrun htype hready hfree hnext _).trans (State.txRun_of_open hsound hslot hstate hout))
  · exact congrArg Host.Outcome.next ((State.txDescriptor_of_next hrun htype hready hfree hnext _).trans (State.txRun_of_raw hsound hslot hout))
  · subst hp
    exact congrArg Host.Outcome.next (State.rxDeliver_of_fit hsend hring husable hready hnext hzero hlen hmax hflags hfit)
  · subst hp
    have hkind : (if err = 1 then BusError.buffer else if err = 2 then .writeBack else .noError) ≠ .writeBack := by
      rw [if_neg herr]
      split <;> nofun
    exact congrArg Host.Outcome.next (State.rxDeliver_of_long hsend hring husable hready hnext hzero hlen hmax hflags hlong hkind)
  · subst hp
    exact congrArg Host.Outcome.next (State.rxDeliver_of_noRing hsend hring _)
  · subst hp
    exact congrArg Host.Outcome.next (State.rxExpire_of_ring hsend hring hlost)

end Sys2Proof.Machine
end

section
/-! PROOFS. The bridge and the near memory service (R370 to R385). -/

open Sys2Proof

namespace Sys2Proof.Machine

/-! Windows (R371). -/

theorem State.winCtrlWrite_of_enable {s : State} {w v : Nat} (hoff : s.on BRG_WCTRL_EN w = false) (hen : v.testBit 31 = true)
    (hlow : 16 ≤ bitsOf v 25 20) (hhigh : bitsOf v 25 20 ≤ 36) {s1 : State}
    (hs1 : s1 = s.writeFields false [BRG_WCTRL_PREF, BRG_WCTRL_SIZE, BRG_WCTRL_SVC] w 0 v) :
    s.winCtrlWrite w v = if s1.winOk w then s1.wr BRG_WCTRL_EN 1 w else s1.brgReject := by
  simp only [State.winCtrlWrite, ← hs1, hoff, hen, decide_eq_false (Nat.not_lt.mpr hlow), decide_eq_false (Nat.not_lt.mpr hhigh), Bool.not_true,
    Bool.or_false, Bool.false_or, Bool.false_eq_true, if_false]
  cases s1.winOk w <;> rfl

/-! Accesses (R372 to R378). -/

section
variable {s : State} {e : Nat} {m : MemMsg} {l : List MemMsg}

theorem State.memAccess_of_room (hwait : (s.memWaiting e).isEmpty = true) (hroom : s.memRoom e m = true) : s.memAccess e m = s.memIssue e m := by
  simp [State.memAccess, hwait, hroom]

theorem State.memIssueNext_of_room (hwait : s.memWaiting e = m :: l) (hroom : s.memRoom e m = true) :
    s.memIssueNext e = (s.setMemWaiting e l).memIssue e m := by
  simp [State.memIssueNext, hwait, hroom]

/-- A message that needs no tag finds room while fewer than 64 are not acknowledged. -/
theorem State.memRoom_of_untagged (htakes : s.svcTakes e = true) (hkind : (m.kind == memRead) = false) (hfew : (s.memUnack e).length < 64) :
    s.memRoom e m = true := by
  simp [State.memRoom, htakes, bne, hkind, hfew]

theorem State.memUnack_setMemUnack_cons (s : State) (e : Nat) (m : MemMsg) (l : List MemMsg) : (s.setMemUnack e (m :: l)).memUnack e = m :: l :=
  Tab.get_put_listed (List.cons_ne_nil m l) s.brg.unack e []

/-- The first message of a service that has none unacknowledged starts its timer. -/
theorem State.memIssue_of_first (hkind : m.kind = memWriteMsg) (htag : m.tag = 0) (hver : s.memV1 e = false) (hunack : s.memUnack e = [])
    {m1 : MemMsg} (hm1 : m1 = { m with mseq := Tab.get s.brg.mseq e 0 }) :
    s.memIssue e m = (((((s.setMemUnack e [m1]).setMemSeq e ((Tab.get s.brg.mseq e 0 + 1) % 65536)).arm (.memory e) (s.param e 2 1 * 100000)).memCount
      e 1 1).memSend e m1) := by
  have hread : ¬ memWriteMsg = memRead := by decide
  have hcount : memWriteMsg - 1 = 1 := rfl
  have hwaits : ∀ m2 q, (((s.setMemUnack e [m2]).setMemSeq e q).memUnack e).isEmpty = false := fun m2 q =>
    congrArg List.isEmpty (s.memUnack_setMemUnack_cons e m2 [])
  cases m
  subst hkind htag hm1
  simp only [State.memIssue, if_neg hread, hcount, hver, hunack, Bool.false_eq_true, if_false, List.nil_append, List.isEmpty_nil, State.when, if_true,
    State.memTimer, hwaits]
  rfl

end

section
variable {s : State} {a n w : Nat}

theorem State.bridgeRead_of_off (hoff : s.on BRG_CTRL_EN = false) :
    s.bridgeRead a n = ({ s with brg := { s.brg with nextId := s.brg.nextId + 1 } }.brgCount 0).readDone s.brg.nextId none := by
  have hoff1 : ({ s with brg := { s.brg with nextId := s.brg.nextId + 1 } } : State).on BRG_CTRL_EN = false := hoff
  simp only [State.bridgeRead, State.takeId, hoff1, Bool.not_false, Bool.true_or, if_true]

variable (hon : s.on BRG_CTRL_EN = true) (hrun : s.dmaRuns = true)
include hon hrun

theorem State.bridgeRead_of_window (hform : readForm a n = true) (hwin : s.winOf a n = some w) (hpref : s.on BRG_WCTRL_PREF w = false) {s1 : State}
    (hs1 : s1 = ({ s with brg := { s.brg with nextId := s.brg.nextId + 1 } } : State).arm (.heldRead s.brg.nextId) (s.rd BRG_TIM_RDTO w * 1000)) :
    s.bridgeRead a n = s1.memAccess (s.rd BRG_WCTRL_SVC w)
      { kind := memRead, win := w, addr := s.winFar w + (a - s.winBase w), off := a, bytes := n,
        read := some { id := s.brg.nextId, win := w, off := a, bytes := n } } := by
  obtain ⟨s0, hs0⟩ : ∃ s0, s0 = ({ s with brg := { s.brg with nextId := s.brg.nextId + 1 } } : State) := ⟨_, rfl⟩
  have htake : s.takeId = (s.brg.nextId, s0) := by rw [hs0]; rfl
  have hon0 : s0.on BRG_CTRL_EN = true := by rw [hs0]; exact hon
  have hrun0 : s0.dmaRuns = true := by rw [hs0]; exact hrun
  have hwin0 : s0.winOf a n = some w := by rw [hs0]; exact hwin
  have hpref0 : ∀ k t, (s0.arm k t).on BRG_WCTRL_PREF w = false := fun _ _ => by rw [hs0]; exact hpref
  simp only [State.bridgeRead, htake, hon0, hrun0, hform, hwin0, hpref0, Bool.not_true, Bool.or_false, Bool.false_eq_true, if_false]
  subst hs0 hs1
  rfl

theorem State.bridgeWrite_of_window {data : List Byte} (hform : writeForm a data.length = true) (hwin : s.winOf a data.length = some w)
    {s1 : State} (hs1 : s1 = s.linesDrop w (fun x => x.off / 64 == a / 64)) :
    s.bridgeWrite a data true = s1.memAccess (s1.rd BRG_WCTRL_SVC w)
      { kind := memWriteMsg, win := w, addr := s1.winFar w + (a - s1.winBase w), off := a, bytes := data.length, data := data } := by
  simp only [State.bridgeWrite, hon, hrun, hform, hwin, Bool.not_true, Bool.or_false, Bool.false_eq_true, if_false, hs1]

theorem State.bridgeWrite_of_form {data : List Byte} {whole : Bool} (hform : writeForm a data.length = false ∨ whole = false) (hwin : s.winOf a 1 = some w) :
    s.bridgeWrite a data whole = (s.brgCount 1).writeFail .size (some w) (some (s.winFar w + (a - s.winBase w))) := by
  have hbad : (!writeForm a data.length || !whole) = true := by rcases hform with h | h <;> simp [h]
  simp only [State.bridgeWrite, hon, hrun, hbad, hwin, Bool.not_true, Bool.or_false, Bool.false_eq_true, if_false, if_true, Option.map_some]

end

/-- The only held read that is left ends. -/
theorem State.readTimeout_of_only {s : State} {id e : Nat} {m : MemMsg} {h : HeldRead} (hreads : s.brg.reads = [(e, [m])]) (hwait : s.brg.wait = [])
    (hread : m.read = some h) (hid : h.id = id) (hdue : s.due (.heldRead id) = true) :
    s.readTimeout id = ({ s with brg := { s.brg with reads := [], wait := [] } }.brgCount 2).readDone id none := by
  simp [State.readTimeout, hreads, hwait, hread, hid, hdue]

/-! What comes back (R374, R377, R378, R380). -/

section
variable {s s1 : State} {e : Nat} {p : Packet} {r : MemIn} {m : MemMsg}

theorem State.rdataReceive_of_good (htake : s.memTake e 0 [memRdata] = (s1, some p)) (hr : r = memParse p.payload) (hver : s1.memV1 e = false)
    (hfind : ((s1.memAcked e r.mseq).memReads e).find? (fun m => m.tag == r.tag && m.mseq == r.mseq) = some m) (hstatus : r.status = 0)
    (hlen : r.data.length = m.bytes) :
    s.rdataReceive e = (((s1.memAcked e r.mseq).setMemReads e (((s1.memAcked e r.mseq).memReads e).erase m)).memAnswer m (some r.data)) := by
  simp only [State.rdataReceive, htake, ← hr, hver, Bool.false_eq_true, if_false, Bool.false_or, hfind, hstatus, hlen, decide_true, Bool.and_self,
    if_true]

theorem State.memAcked_of_fewer {q : Nat} {l : List MemMsg}
    (hl : l = (s.memUnack e).filter (fun m => decide (signedOf 16 ((m.mseq + 65536 - q) % 65536) > 0))) (hfewer : l.length ≠ (s.memUnack e).length) :
    s.memAcked e q = ((s.setMemUnack e l).setMemTries e 0).memTimer e := by
  rw [hl] at hfewer ⊢
  exact if_neg hfewer

theorem State.memAckReceive_of_ack (htake : s.memTake e 0 [memAck] = (s1, some p)) : s.memAckReceive e = s1.memAcked e (memParse p.payload).mseq := by
  simp only [State.memAckReceive, htake]

theorem State.wfailReceive_of_waiting (htake : s.memTake e 0 [memWfail] = (s1, some p)) (hr : r = memParse p.payload) (hver : s1.memV1 e = false)
    (hfind : (s1.memUnack e).find? (fun m => m.kind == memWriteMsg && m.mseq == r.mseq) = some m) (hstatus : r.status = 1) :
    s.wfailReceive e = (s1.memAcked e r.mseq).writeFail .range (some m.win) (some r.addr) := by
  simp only [State.wfailReceive, htake, ← hr, hver, Bool.false_eq_true, if_false, hfind, hstatus, if_true]

end

section
variable {s : State} (hev : s.on BRG_STAT_WFEV = true)
include hev

theorem State.writeFail_of_first (hnone : s.on BRG_WFINFO_VALID = false) (c : WfCause) (w a : Nat) {s2 : State}
    (hs2 : s2 = ((s.wr BRG_WFINFO_VALID 1).wr BRG_WFINFO_CAUSE c.code).wr BRG_WFINFO_WIN w) :
    s.writeFail c (some w) (some a) = ((s2.wr BRG_WFINFO_SLOT (s2.rd TEN_SVC1_TXSLOT (s2.rd BRG_WCTRL_SVC w))).wr BRG_WFADDR_LO_ADDR a).wr
      BRG_WFADDR_HI_ADDR (a / 2 ^ 32) := by
  have hwin : ∀ u : State, (u.wr BRG_WFINFO_WIN w).rd BRG_WCTRL_SVC w = u.rd BRG_WCTRL_SVC w := fun u =>
    State.rd_wr_ne (Field.key_ne_of_otherBit rfl _ _ _ _) w
  have hslot : ∀ (u : State) i, (u.wr BRG_WFINFO_WIN w).rd TEN_SVC1_TXSLOT i = u.rd TEN_SVC1_TXSLOT i := fun u _ =>
    State.rd_wr_ne (Field.key_ne_of_otherBit rfl _ _ _ _) w
  simp only [State.writeFail, State.brgEvent, hev, if_true, hnone, Bool.false_eq_true, if_false, hs2, hwin, hslot]

theorem State.writeFail_of_latched (hlatched : s.on BRG_WFINFO_VALID = true) (c : WfCause) (w a : Option Nat) :
    s.writeFail c w a = s.sat BRG_WFINFO_COUNT := by
  simp only [State.writeFail, State.brgEvent, hev, if_true, hlatched]

end

section
variable {s : State} {e : Nat} (hrun : s.svcRuns e = true) (hdue : s.due (.memory e) = true)
include hrun hdue

theorem State.memRto_of_retry (hsome : (s.memUnack e).isEmpty = false) (hretry : Tab.get s.brg.tries e 0 < s.param e 3 1) :
    s.memRto e = (((s.memTimer e).setMemTries e (Tab.get s.brg.tries e 0 + 1)).memCount e 3 (s.memUnack e).length).each (s.memUnack e)
      (fun s m => s.memSend e m) := by
  simp only [State.memRto, hsome, hrun, hdue, Bool.not_true, Bool.or_false, Bool.false_eq_true, if_false, if_pos hretry]

theorem State.memRto_of_write {m : MemMsg} (hunack : s.memUnack e = [m]) (hspent : Tab.get s.brg.tries e 0 ≥ s.param e 3 1)
    (hkind : m.kind = memWriteMsg) :
    s.memRto e = (((s.setMemUnack e []).setMemTries e 0).memTimer e).writeFail .noResp (some m.win) (some m.addr) := by
  have hread : ¬ memWriteMsg = memRead := by decide
  simp only [State.memRto, hunack, hrun, hdue, List.isEmpty_cons, Bool.not_true, Bool.or_false, Bool.false_eq_true, if_false,
    if_neg (Nat.not_lt.mpr hspent), State.each_cons, State.each_nil, hkind, if_neg hread, if_true]

end

section
variable {s : State} {v w e : Nat} (hgo : v.testBit 31 = true) (hw : w = bitsOf v 27 24) (he : e = s.rd BRG_WCTRL_SVC w)
include hgo hw he

theorem State.signalSend_of_enabled (hen : s.on BRG_WCTRL_EN w = true) (hver : s.memV1 e = false) :
    s.signalSend v = s.memAccess e { kind := memSignal, win := w, line := bitsOf v 4 0 } := by
  subst hw he
  simp only [State.signalSend, hgo, hen, hver, Bool.not_true, Bool.or_false, Bool.false_eq_true, if_false]

theorem State.signalSend_of_refused (hbad : s.on BRG_WCTRL_EN w = false ∨ s.memV1 e = true) : s.signalSend v = s.brgReject := by
  subst hw he
  rcases hbad with h | h <;> simp [State.signalSend, hgo, h]

end

/-- The only line of a window, of which no byte was returned, is a discarded prefetch. -/
theorem State.linesDrop_of_unused {s : State} {w off : Nat} (hline : s.lineBufs w = [{ off := off, data := [], used := false }]) :
    s.linesDrop w (fun x => x.off == off) = (s.brgCount 4).setLineBufs w [] := by
  simp [State.linesDrop, State.linesGone, hline, State.each_cons, State.each_nil]

/-- Settles O39, clause by clause. -/
theorem bridgeAccesses : Obligations.BridgeAccesses := by
  refine ⟨fun w v s s1 hoff hen hlow hhigh hs1 => congrArg Host.Outcome.next (State.winCtrlWrite_of_enable hoff hen hlow hhigh hs1),
    fun a n s hoff => ?_, fun mgmt a n w s s1 hside hon hrun hform hwin hpref hs1 hwait hroom => ?_,
    fun mgmt a w data e s s1 hside hon hrun hform hwin hs1 he hwait htakes hver hunack => ?_,
    fun mgmt a w data whole s hside hon hrun hform hwin => ?_,
    fun e m l s hwait hroom => congrArg Host.Outcome.next (State.memIssueNext_of_room hwait hroom),
    fun id e m h s hreads hwait hread hid hdue => congrArg Host.Outcome.next (State.readTimeout_of_only hreads hwait hread hid hdue),
    fun e p r m s s1 htake hr hver hfind hstatus hlen => congrArg Host.Outcome.next (State.rdataReceive_of_good htake hr hver hfind hstatus hlen),
    fun e p l s s1 htake hl hfewer =>
      congrArg Host.Outcome.next ((State.memAckReceive_of_ack htake).trans (State.memAcked_of_fewer hl hfewer)),
    fun e p r m s s1 htake hr hver hfind hstatus => congrArg Host.Outcome.next (State.wfailReceive_of_waiting htake hr hver hfind hstatus),
    fun c w a s hev hnone => State.writeFail_of_first hev hnone c w a rfl, fun c w a s hev hlatched => State.writeFail_of_latched hev hlatched c w a,
    fun e s hsome hrun hdue hretry => congrArg Host.Outcome.next (State.memRto_of_retry hrun hdue hsome hretry),
    fun e m s hunack hrun hdue hspent hkind => congrArg Host.Outcome.next (State.memRto_of_write hrun hdue hunack hspent hkind),
    fun v w e s hgo hw he hen hver hwait htakes hfew => ?_,
    fun v w e s hgo hw he hbad => congrArg Host.Outcome.next (State.signalSend_of_refused hgo hw he hbad), fun w line s hline hdue => ?_,
    fun n m e s hbusy hrun hs => ⟨_, rfl, State.mbxSubmit_accepted hbusy hrun hs (by decide) (by decide) e.isLt⟩,
    fun n m e s hbusy hrun hs => ⟨_, rfl, State.mbxSubmit_accepted hbusy hrun hs (by decide) (by decide) e.isLt⟩⟩
  · exact congrArg Host.Outcome.next (State.bridgeRead_of_off hoff)
  · have hread : s.bridgeRead a n = _ := (State.bridgeRead_of_window hon hrun hform hwin hpref hs1).trans (State.memAccess_of_room hwait hroom)
    exact (if_neg (Bool.eq_false_iff.mp hside)).trans (congrArg Host.Outcome.next hread)
  · subst he
    have hwrite : s.bridgeWrite a data true = _ := (State.bridgeWrite_of_window hon hrun hform hwin hs1).trans
      ((State.memAccess_of_room hwait (State.memRoom_of_untagged htakes rfl (by simp [hunack]))).trans
        (State.memIssue_of_first rfl rfl hver hunack rfl))
    exact (if_neg (Bool.eq_false_iff.mp hside)).trans (congrArg Host.Outcome.next hwrite)
  · exact (if_neg (Bool.eq_false_iff.mp hside)).trans (congrArg Host.Outcome.next (State.bridgeWrite_of_form hon hrun hform hwin))
  · exact congrArg Host.Outcome.next ((State.signalSend_of_enabled hgo hw he hen hver).trans
      (State.memAccess_of_room hwait (State.memRoom_of_untagged htakes rfl hfew)))
  · exact (if_pos hdue).trans (congrArg (fun u => Host.Outcome.next (State.disarm u (.line w (64 * line)))) (State.linesDrop_of_unused hline))

end Sys2Proof.Machine
end

section
/-! PROOFS. What the sending of a payload in an origin slot leaves of the hub (R56 to R69, R175 to R182, R196 to R200, R226, R253): the reasoning rules of stages 2 to 4 for packets of the hub's own. -/

open Sys2Proof

namespace Sys2Proof.Machine

/-- The fields that stages 2 to 4 write for a packet of the hub's own. -/
def sendFields : List Field := [FAB_CNT_COUNT, FAB_DD_CNT_COUNT, FAB_DD_STAT_USED, FAB_DD_STAT_FULL, CTX4_PACKETS, CTX5_DISCARDS, CTX6_INFLIGHT, CTX7_SEQ,
  XSW_QOCC_CELLS, XSW_POOL_CELLS, XSW_CNT_COUNT, XSW_QDROP_COUNT, XSW_IOCC_CELLS, SHP_PRED_COUNT, SHP_CNT_COUNT]

/-- `P` is kept by every change of the state that such a packet makes. -/
structure SendKeeps (P : State → Prop) : Prop where
  wr : ∀ u F v i, F ∈ sendFields → P u → P (u.wr F v i)
  fab : ∀ u x, P u → P { u with fab := x }
  xsw : ∀ u x, P u → P { u with xsw := x }
  shp : ∀ u x, P u → P { u with shp := x }
  ten : ∀ u x, P u → P { u with ten := x }

namespace SendKeeps

variable {P : State → Prop} (hP : SendKeeps P) {s : State} (h : P s)
include hP h

theorem sat {F : Field} (hF : F ∈ sendFields) (i : Nat) : P (s.sat F i) := hP.wr _ _ _ _ hF h

theorem wrap {F : Field} (hF : F ∈ sendFields) (i : Nat) : P (s.wrap F i) := hP.wr _ _ _ _ hF h

/-! Duplicates (R177, R180 to R182). -/

theorem ddCount (i : Nat) : P (s.ddCount i) := hP.sat h (by decide) i

theorem setDd (l : List DdEntry) : P (s.setDd l) := hP.fab _ _ (hP.wr _ _ _ _ (by decide) (hP.wr _ _ _ _ (by decide) h))

theorem ddReplace (e : DdEntry) : P (s.ddReplace e) := hP.setDd h _

theorem ddEvict : P s.ddEvict := by
  unfold State.ddEvict
  split
  · exact h
  · split
    · exact h
    · exact hP.fab _ _ (hP.ddCount (hP.setDd h _) 4)

theorem ddAllocate (p : Packet) : P (s.ddAllocate p) := by
  unfold State.ddAllocate
  extract_lets s1 s2
  have hs1 : P s1 := by
    unfold s1
    split
    · exact hP.ddCount h 5
    · exact h
  exact hP.setDd (hP.ddEvict hs1) _

theorem windowAccept (p : Packet) : P (s.windowAccept p).1 := by
  unfold State.windowAccept
  split
  · exact hP.ddAllocate h p
  · extract_lets e d
    split
    · exact hP.ddReplace h _
    · split
      · split <;> exact hP.ddReplace h _
      · exact hP.ddCount (hP.ddReplace h _) 3

theorem ddMark (p : Packet) : P (s.ddMark p) := by
  unfold State.ddMark
  split
  · exact h
  · exact hP.ddReplace h _

theorem windowCheck (p : Packet) : P (s.windowCheck p).1 := by
  unfold State.windowCheck
  split
  · exact h
  · have hw := hP.windowAccept h p
    split
    next heq => rwa [heq] at hw
    next heq =>
      rw [heq] at hw
      exact hP.ddCount hw 0

/-! Routes (R54, R59 to R61, R175 to R179). -/

theorem localDelivery (p : Packet) : P (s.localDelivery p).1 := by
  have hcount : ∀ i, P (s.fabCount i) := fun i => hP.sat h (by decide) i
  unfold State.localDelivery
  split
  · exact h
  · split
    · exact hcount 1
    · split
      · exact hcount 4
      · split
        · exact hcount 3
        · split
          · exact hcount 3
          · split
            · exact h
            · exact hP.sat h (by decide) _

theorem trunkCopy (c : Copy) (e : Nat) : P (s.trunkCopy c e).1 := by
  unfold State.trunkCopy
  split
  · exact hP.ddCount h 6
  · exact h

theorem leaveRing (c : Copy) (e : Nat) : P (s.leaveRing c e).1 := by
  unfold State.leaveRing
  split
  · exact hP.trunkCopy h c e
  · have hw := hP.windowCheck h c.hdr
    split <;> rename_i heq <;> rw [heq] at hw
    · exact hw
    · exact hP.trunkCopy hw _ e

theorem inject (c : Copy) (pri alt : Nat) : P (s.inject c pri alt).1 := by
  have hboth : ∀ {u : State} c1, P u → P ((u.trunkCopy c1 pri).1.trunkCopy c1 alt).1 := fun c1 hu => hP.trunkCopy (hP.trunkCopy hu c1 pri) c1 alt
  unfold State.inject
  extract_lets hdr c1 both
  split
  · exact hboth c1 h
  · have hw := hP.windowAccept h c.hdr
    split <;> rename_i heq <;> rw [heq] at hw
    · exact hP.ddCount hw 0
    · exact hboth c1 (hP.ddMark hw c.hdr)

theorem route (c : Copy) : P (s.route c).1 := by
  unfold State.route
  extract_lets fromTrunk fromRing
  split
  · have hl := hP.localDelivery h c.hdr
    split <;> rename_i heq <;> rw [heq] at hl
    · exact hl
    · split
      · have hw := hP.windowCheck hl c.hdr
        split <;> rename_i heq2 <;> rw [heq2] at hw <;> exact hw
      · exact hl
  · extract_lets R i pri alt chosen
    split
    · exact hP.sat h (by decide) 2
    · split
      · split
        · exact hP.trunkCopy h _ _
        · split
          · exact hP.inject h c pri alt
          · exact hP.trunkCopy h _ _
      · extract_lets e
        split
        · exact hP.sat h (by decide) 2
        · split
          · exact hP.trunkCopy h _ _
          · exact hP.leaveRing h _ _

theorem classifyLocal (c : Copy) : P (s.classifyLocal c).1 := by
  unfold State.classifyLocal
  split
  · exact hP.sat h (by decide) 0
  · exact hP.route h c

omit h in
theorem classifyEach (c : Copy) : ∀ (l : List Nat) {s : State}, P s → P (s.classifyEach c l).1
  | [], _, h => h
  | _ :: l, _, h => classifyEach c l (hP.classifyLocal h _)

/-! Admission (R196 to R200, R215). -/

theorem takeCells (q k : Nat) : P (s.takeCells q k) := hP.wr _ _ _ _ (by decide) (hP.wr _ _ _ _ (by decide) h)

theorem linkCopy (c : Copy) : P (s.linkCopy c) := hP.xsw _ _ h

theorem mirror (c : Copy) (qdepth reason : Nat) : P (s.mirror c qdepth reason) := by
  unfold State.mirror
  split
  · exact h
  · extract_lets q
    split
    · exact hP.sat h (by decide) 8
    · exact hP.xsw _ _ (hP.linkCopy (hP.takeCells h _ 1) _)

theorem mirrorAll (l : List (Copy × Nat × Nat)) : P (s.mirrorAll l) := State.each_keeps (fun _ x _ hu => hP.mirror hu x.1 x.2.1 x.2.2) h

theorem admitCopy (c : Copy) : P (s.admitCopy c).1 := by
  unfold State.admitCopy
  extract_lets q
  split
  · exact hP.sat h (by decide) 4
  · split
    · exact hP.sat (hP.sat h (by decide) 1) (by decide) q
    · split
      · exact hP.sat (hP.sat h (by decide) 2) (by decide) q
      · exact hP.takeCells h _ _

omit h in
theorem admitAll : ∀ (l : List Copy) {s : State}, P s → P (s.admitAll l).1
  | [], _, h => h
  | c :: l, _, h => admitAll l (hP.admitCopy h c)

theorem setInflight (n v : Nat) : P (s.setInflight n v) := hP.fab _ _ (hP.wr _ _ _ _ (by decide) h)

theorem admitPacket (copies : List Copy) : P (s.admitPacket copies).1 := by
  unfold State.admitPacket
  split
  · exact h
  · extract_lets i a ordered allowed barred s0 barredOut
    have hs0 : P s0 := State.each_keeps (fun _ _ _ hu => hP.sat hu (by decide) 4) h
    split
    · exact hs0
    · split
      · split
        · exact h
        · exact hP.sat hs0 (by decide) 0
      · have hall := hP.admitAll allowed hs0
        split
        rename_i s1 l heq
        rw [heq] at hall
        extract_lets n s2 s3 xsw s4 s5
        split
        · exact hall
        · have hs2 : P s2 := hP.wr _ _ _ _ (by decide) hall
          have hs3 : P s3 := by
            unfold s3
            split
            · exact hP.sat hs2 (by decide) 3
            · exact hs2
          have hs4 : P s4 := hP.xsw _ _ hs3
          show P s5
          unfold s5
          split
          · exact hs4
          · exact hP.setInflight hs4 _ _

theorem admitWhole (copies : List Copy) : P (s.admitWhole copies).1 := by
  have hp := hP.admitPacket h copies
  unfold State.admitWhole
  split <;> rename_i heq <;> rw [heq] at hp
  · exact h
  · exact State.each_keeps (fun _ c _ hu => hP.linkCopy hu c) (hP.mirrorAll hp _)

theorem terminusCount (l : List Copy) : P (s.terminusCount l) := by
  refine State.each_keeps (fun u c _ hu => ?_) h
  split
  · exact hu
  · exact hP.wr _ _ _ _ (by decide) (hP.wrap hu (by decide) _)

theorem setHeld (p : Nat) (l : List Held) : P (s.setHeld p l) := hP.xsw _ _ h

theorem admitOrigin (x : Held) (p : Nat) : P (s.admitOrigin x p).1 := by
  have hw := hP.admitWhole h x.copies
  unfold State.admitOrigin
  split <;> rename_i heq <;> rw [heq] at hw
  · exact hP.setHeld hw _ _
  · exact hP.terminusCount hw _

/-! Origin slots (R56, R66, R69, R226, R227). -/

theorem police (n len : Nat) : P (s.police n len).1 := by
  unfold State.police
  split
  · exact h
  · split
    · exact hP.shp _ _ h
    · exact h

theorem policeOrigin (x : Held) (phase : List Copy) (c : Copy) : P (s.policeOrigin x phase c).1 := by
  have hp := hP.police h x.slot (20 + x.hdr.payload.length)
  unfold State.policeOrigin
  split <;> rename_i heq <;> rw [heq] at hp
  · exact hp
  · extract_lets s2
    have hs2 : P s2 := hP.sat hp (by decide) _
    split
    · exact hP.setHeld (hP.sat hs2 (by decide) 1) _ _
    · exact hP.sat hs2 (by decide) 0

theorem originTake (n : Nat) : P (s.originTake n) := hP.wrap (hP.wrap h (by decide) n) (by decide) n

theorem originArrive (n : Nat) (c : Copy) (ring : Option Nat) : P (s.originArrive n c ring).1 := by
  unfold State.originArrive
  extract_lets phase x c1 r
  split
  · exact hP.sat h (by decide) n
  · have hr : P r.1 := hP.classifyEach _ _ (hP.originTake h n)
    split
    · exact hr
    · exact hP.policeOrigin hr _ _ _

end SendKeeps

/-- What arrives at stage 4 of a payload of an origin slot: its packet, or the copies of the phase service, or nothing. -/
theorem State.policeOrigin_arrivals (s : State) (x : Held) (phase : List Copy) (c : Copy) :
    (∃ y p, (s.policeOrigin x phase c).2.1 = [.origin y p]) ∨ (s.policeOrigin x phase c).2.1 = [.whole phase] ∨ (s.policeOrigin x phase c).2.1 = [] := by
  unfold State.policeOrigin
  split
  · exact .inl ⟨_, _, rfl⟩
  · extract_lets s2
    split
    · exact .inr (.inr rfl)
    · exact .inr (.inl rfl)

theorem State.originArrive_arrivals (s : State) (n : Nat) (c : Copy) (ring : Option Nat) :
    (∃ y p, (s.originArrive n c ring).2.1 = [.origin y p]) ∨ (s.originArrive n c ring).2.1 = [.whole (s.phaseOf n c)] ∨
      (s.originArrive n c ring).2.1 = [] := by
  unfold State.originArrive
  extract_lets phase x c1 r
  split
  · exact .inr (.inl rfl)
  · split
    · exact .inr (.inl rfl)
    · exact State.policeOrigin_arrivals _ _ _ _

namespace SendKeeps

variable {P : State → Prop} (hP : SendKeeps P) {s : State} (h : P s)
include hP h

theorem admitArrival {a : Arrival} (ha : ∀ t copies good, a ≠ .trunk t copies good) (ecc : Nat) : P (s.admitArrival ecc a) := by
  cases a with
  | trunk t copies good => exact absurd rfl (ha t copies good)
  | whole copies => exact hP.admitWhole h copies
  | origin x p => exact hP.admitOrigin h x p

theorem admitCycle {l : List Arrival} (hl : ∀ a ∈ l, ∀ t copies good, a ≠ .trunk t copies good) (ecc : Nat) : P (s.admitCycle ecc l) := by
  refine State.each_keeps (fun u a ha hu => hP.admitArrival hu (hl a ?_) ecc) h
  simp only [State.admitOrder, List.mem_flatMap, List.mem_filter] at ha
  obtain ⟨-, -, -, -, hmem, -⟩ := ha
  exact hmem

theorem originSend (n : Nat) (c : Copy) (ring : Option Nat) : P (s.originSend n c ring).1 := by
  have harrive := hP.originArrive h n c ring
  have hkinds := s.originArrive_arrivals n c ring
  unfold State.originSend
  split <;> rename_i heq <;> rw [heq] at harrive hkinds
  · exact hP.admitOrigin harrive _ _
  · refine hP.admitCycle harrive ?_ 0
    rcases hkinds with ⟨y, p, rfl⟩ | rfl | rfl <;> simp

/-! Engines (R253). -/

theorem sendNow (e : Nat) (payload : List Byte) : P (s.sendNow e payload) := hP.ten _ _ (hP.originSend h _ _ _)

omit h in
theorem sendAll (p : Nat) : ∀ (l : List (Nat × List Byte)) {s : State}, P s → P (s.sendAll p l).1
  | [], _, h => h
  | x :: l, s, h => by
    unfold State.sendAll
    split
    · exact h
    · exact sendAll p l (hP.sendNow h x.1 x.2)

theorem flushCluster (k : Nat) : P (s.flushCluster k) := hP.ten _ _ (hP.sendAll _ _ (hP.ten _ _ h))

theorem engineSend (e : Nat) (payload : List Byte) : P (s.engineSend e payload) := by
  unfold State.engineSend
  split
  · exact h
  · exact hP.flushCluster (hP.ten _ _ h) _

end SendKeeps

/-- Sending leaves the bridge and the memory services alone. -/
theorem sendKeeps_brg (x : Brg) : SendKeeps (fun s => s.brg = x) where
  wr _ _ _ _ _ h := h
  fab _ _ h := h
  xsw _ _ h := h
  shp _ _ h := h
  ten _ _ h := h

@[simp] theorem State.engineSend_brg (s : State) (e : Nat) (payload : List Byte) : (s.engineSend e payload).brg = s.brg :=
  (sendKeeps_brg s.brg).engineSend rfl e payload

end Sys2Proof.Machine
end

section
/-! PROOFS. The far memory service (R375 to R377, R379, R381, R384). -/

open Sys2Proof

namespace Sys2Proof.Machine

theorem State.takeInbound_brg (s : State) (e : Nat) : (s.takeInbound e).1.brg = s.brg := by
  unfold State.takeInbound
  extract_lets n
  split <;> rfl

theorem State.takeInbound_host (s : State) (e : Nat) : (s.takeInbound e).1.host = s.host := by
  unfold State.takeInbound
  extract_lets n
  split <;> rfl

theorem State.takeInbound_dram (s : State) (e : Nat) : (s.takeInbound e).1.dram = s.dram := by
  unfold State.takeInbound
  extract_lets n
  split <;> rfl

/-! Accesses in range of host memory (R379). -/

section
variable {s : State} {e a : Nat}

theorem State.farWrite_of_host {d : List Byte} (hfit : a + d.length ≤ s.farSpan e) (hfunc : s.farFunc e = 0) :
    s.farWrite e a d false = ({ s with host := Memory.write s.host (s.farBase e + a) d }, mstOk) := by
  simp only [State.farWrite, if_neg (Nat.not_lt.mpr hfit), hfunc, if_true, Bool.false_eq_true, if_false]

theorem State.farWrite_of_range {d : List Byte} (hout : a + d.length > s.farSpan e) (err : Bool) : s.farWrite e a d err = (s, mstRange) :=
  if_pos hout

theorem State.farRead_of_host {n : Nat} (hfit : a + n ≤ s.farSpan e) (hfunc : s.farFunc e = 0) :
    s.farRead e a n false = (s, mstOk, Memory.read s.host (s.farBase e + a) n) := by
  simp only [State.farRead, if_neg (Nat.not_lt.mpr hfit), hfunc, if_true, Bool.false_eq_true, if_false]

end

theorem Memory.length_read (m : Memory) (n : Nat) : ∀ a, (Memory.read m a n).length = n := by
  induction n with
  | zero => exact fun _ => rfl
  | succ n ih => exact fun a => congrArg (· + 1) (ih (a + 1))

/-! Order (R376, R377). -/

/-- With no message held, only the number expected next moves on. -/
theorem State.farFollow_of_none {s : State} {e : Nat} (hheld : s.farHeld e = []) (q : Nat) (err : Bool) (k : Nat) :
    s.farFollow e q err k = s.setFarNext e (some q) := by
  cases k <;> simp only [State.farFollow, hheld, List.find?_nil]

theorem State.next_setFarNext (s : State) (e q : Nat) : Tab.get (s.setFarNext e (some q)).brg.next e none = some q :=
  Tab.get_put_listed (Option.some_ne_none q) s.brg.next e none

/-- The number expected next stands just at the message. -/
theorem signedOf_self (q : Nat) : signedOf 16 ((q + 65536 - q) % 65536) = 0 := by
  rw [Nat.add_sub_cancel_left]
  rfl

section
variable {s : State} {e : Nat} {bs : List Byte} {m : MemIn} (hm : m = memParse bs)
include hm

/-- The message whose turn it is executes; with none held nothing follows it. -/
theorem State.farArrive2_of_turn (hturn : m.mseq = (Tab.get s.brg.next e none).getD 0) {quiet err : Bool} (hheld : (s.farExec e bs err).farHeld e = []) :
    s.farArrive2 e bs quiet err = (s.farExec e bs err).setFarNext e (some ((m.mseq + 1) % 65536)) := by
  have hpos : signedOf 16 (((memParse bs).mseq + 65536 - (Tab.get s.brg.next e none).getD 0) % 65536) = 0 := by
    rw [← hturn, ← hm]
    exact signedOf_self _
  simp only [State.farArrive2, if_pos hpos, State.farFollow_of_none hheld, hm]

/-- A READ just executed is answered again as it was. -/
theorem State.farArrive2_of_repeat (hty : m.ty = memRead) (hnext : Tab.get s.brg.next e none = some ((m.mseq + 1) % 65536)) (hmseq : m.mseq < 65536)
    {r : List Byte} (hkept : Tab.get s.brg.kept (32 * e + m.tag) none = some (m.mseq, r)) (quiet err : Bool) :
    s.farArrive2 e bs quiet err = s.engineSend e r := by
  have hback : (m.mseq + 65536 - (m.mseq + 1) % 65536) % 65536 = 65535 := by omega
  have hpos : signedOf 16 65535 = -1 := by decide
  subst hm
  simp [State.farArrive2, hnext, hback, hpos, hkept, hty]

/-- A message one ahead of its turn is held. -/
theorem State.farArrive2_of_ahead (hnext : Tab.get s.brg.next e none = some ((m.mseq + 65535) % 65536)) (hmseq : m.mseq < 65536)
    (hnew : (s.farHeld e).any (fun y => y.1 == m.mseq) = false) (hfew : (s.farHeld e).length < 64) (quiet err : Bool) :
    s.farArrive2 e bs quiet err = s.setFarHeld e (s.farHeld e ++ [(m.mseq, bs)]) := by
  have hahead : (m.mseq + 65536 - (m.mseq + 65535) % 65536) % 65536 = 1 := by omega
  have hpos : signedOf 16 1 = 1 := by decide
  subst hm
  simp only [State.farArrive2, hnext, Option.getD_some, hahead, hpos, hnew, decide_eq_false (Nat.not_le.mpr hfew), Bool.or_self, Bool.false_eq_true,
    if_false]
  rfl

end

/-- A well-formed message of a version 2 entry is not empty. -/
theorem ne_nil_of_memGood {v1 : Bool} {bs : List Byte} (h : memGood v1 bs = true) : bs.isEmpty = false := by
  cases bs with
  | nil => exact absurd h (by cases v1 <;> decide)
  | cons b l => rfl

/-! Receipt (R375 to R377). -/

section
variable {s s1 : State} {e : Nat} {p : Packet} {m : MemIn} (hrun : s.svcRuns e = true) (htype : s.rd TEN_SVC0_TYPE e = tyMemory)
  (hrole : s.memRole e = 1) (hready : s.farReady e = true) (hfind : (s.inbox (s.svcEngine e)).find? (fun x => x.1 == e) = some (e, p))
  (hgood : memGood false p.payload = true) (hver : s.memV1 e = false) (hm : m = memParse p.payload)
  (hs1 : s1 = { (s.takeInbound e).1 with brg := { s.brg with heardAt := Tab.put s.brg.heardAt e s.tmu.elapsed 0 } })
include hrun htype hrole hready hfind hgood hver hm hs1

/-- The next message of a far service on version 2, of the type that is looked for, arrives. -/
theorem State.farReceive_of_next {ty : Nat} (hty : m.ty = ty) (hlow : ty < 0x81) (err : Bool) :
    ∃ quiet, s.farReceive e [ty] err = s1.farArrive2 e p.payload quiet err := by
  have hmine : [ty].contains ty = true := by simp
  refine ⟨decide (s.tmu.elapsed ≥ Tab.get s.brg.heardAt e 0 + 4 * s.param e 2 1 * 100000 * 2 ^ 32), ?_⟩
  simp only [State.farReceive, hrun, htype, hrole, hready, hfind, hver, hgood, ← hm, hty, decide_eq_true hlow, hmine, State.takeInbound_brg, ← hs1]
  simp

end

/-- What an execution leaves held of entry `e` is what was held. -/
theorem State.farHeld_of_brg {s u : State} (h : u.brg.held = s.brg.held) (e : Nat) : u.farHeld e = s.farHeld e := by
  rw [State.farHeld, h, State.farHeld]

/-! Execution (R377, R379, R381). -/

section
variable {s : State} {e : Nat} {bs : List Byte} {m : MemIn} (hsome : bs.isEmpty = false) (hm : m = memParse bs)
include hsome hm

/-- A READ in range of host memory is answered with its bytes, and its answer kept. -/
theorem State.farExec_of_read (hty : m.ty = memRead) (hfit : m.addr + m.bytes ≤ s.farSpan e) (hfunc : s.farFunc e = 0) {r : MemIn}
    (hr : r = { ty := memRdata, tag := m.tag, mseq := m.mseq, bytes := m.bytes, status := mstOk, addr := m.addr,
                data := Memory.read s.host (s.farBase e + m.addr) m.bytes }) :
    s.farExec e bs false = ({ s.memCount e 0 1 with brg := { (s.memCount e 0 1).brg with
      kept := Tab.put s.brg.kept (32 * e + m.tag) (some (m.mseq, memBytes r)) none } } : State).farAnswer e r := by
  have hread := State.farRead_of_host (s := s.memCount e 0 1) (e := e) (a := m.addr) (n := m.bytes) hfit hfunc
  simp only [State.farExec, hsome, Bool.false_eq_true, if_false, ← hm, hty, if_true, State.farExecRead, hread, Memory.length_read]
  subst hr
  rfl

/-- A WRITE in range of host memory changes it, and an acknowledgement is owed. -/
theorem State.farExec_of_write (hty : m.ty = memWriteMsg) (hfit : m.addr + m.data.length ≤ s.farSpan e) (hfunc : s.farFunc e = 0) :
    s.farExec e bs false = ({ s.memCount e 1 1 with host := Memory.write s.host (s.farBase e + m.addr) m.data } : State).ackOwed e := by
  have hread : ¬ memWriteMsg = memRead := by decide
  have hwrite := State.farWrite_of_host (s := s.memCount e 1 1) (e := e) (a := m.addr) (d := m.data) hfit hfunc
  simp only [State.farExec, hsome, Bool.false_eq_true, if_false, ← hm, hty, if_neg hread, if_true, State.farExecWrite, hwrite]
  rfl

theorem State.farExec_of_signal (hty : m.ty = memSignal) (err : Bool) :
    s.farExec e bs err = (((s.memCount e 2 1).putBit BRG_SIGRX_LINES m.line true).brgEvent BRG_STAT_SIGEV).ackOwed e := by
  have hread : ¬ memSignal = memRead := by decide
  have hwrite : ¬ memSignal = memWriteMsg := by decide
  simp only [State.farExec, hsome, Bool.false_eq_true, if_false, ← hm, hty, if_neg hread, if_neg hwrite, State.farExecSignal]

end

/-- An acknowledgement owed changes the count of executions, and may start its timer. -/
theorem State.ackOwed_cases (s : State) (e : Nat) :
    s.ackOwed e = s.setToAck e (Tab.get s.brg.toAck e 0 + 1) ∨ s.ackOwed e = (s.setToAck e (Tab.get s.brg.toAck e 0 + 1)).arm (.memAck e) 50000 := by
  unfold State.ackOwed State.when
  extract_lets n
  split
  · exact .inr rfl
  · exact .inl rfl

theorem State.ackOwed_held (s : State) (e : Nat) : (s.ackOwed e).brg.held = s.brg.held := by
  rcases s.ackOwed_cases e with h | h <;> rw [h] <;> rfl

theorem State.ackOwed_host (s : State) (e : Nat) : (s.ackOwed e).host = s.host := by
  rcases s.ackOwed_cases e with h | h <;> rw [h] <;> rfl

theorem State.ackOwed_dram (s : State) (e : Nat) : (s.ackOwed e).dram = s.dram := by
  rcases s.ackOwed_cases e with h | h <;> rw [h] <;> rfl

theorem State.farAnswer_held (s : State) (e : Nat) (m : MemIn) : (s.farAnswer e m).brg.held = s.brg.held := by
  rw [State.farAnswer, State.engineSend_brg]
  rfl

theorem State.sendMsix_brg (s : State) (v : Nat) : (s.sendMsix v).brg = s.brg := by
  unfold State.sendMsix
  split
  · rfl
  · split <;> rfl

theorem State.brgEvent_brg (s : State) (F : Field) : (s.brgEvent F).brg = s.brg := by
  unfold State.brgEvent
  split
  · rfl
  · extract_lets s1
    split
    · rfl
    · exact s1.sendMsix_brg _

/-! Acknowledgements and held messages (R376, R377). -/

theorem State.farAck_of_owed {s : State} {e : Nat} (hrun : s.svcRuns e = true) (htype : s.rd TEN_SVC0_TYPE e = tyMemory) (hrole : s.memRole e = 1)
    (hver : s.memV1 e = false) (howed : 0 < Tab.get s.brg.toAck e 0) (hdue : 16 ≤ Tab.get s.brg.toAck e 0 ∨ s.due (.memAck e) = true) :
    s.farAck e = s.farAnswer e { ty := memAck, mseq := ((Tab.get s.brg.next e none).getD 0 + 65535) % 65536 } := by
  have hnow : (decide (Tab.get s.brg.toAck e 0 < 16) && !s.due (.memAck e)) = false := by
    rcases hdue with h | h
    · rw [decide_eq_false (Nat.not_lt.mpr h), Bool.false_and]
    · rw [h, Bool.not_true, Bool.and_false]
  simp [State.farAck, hrun, htype, hrole, hver, Nat.ne_of_gt howed, hnow]

theorem State.farExpire_of_due {s : State} {e p : Nat} {err : Bool} (hnext : Tab.get s.brg.next e none = some p) (hheld : s.farHeld e ≠ [])
    (hrun : s.svcRuns e = true) (hver : s.memV1 e = true) (hready : s.farReady e = true) (hdue : s.due (.memHold e) = true) :
    s.farExpire e err = ((s.farFlush e p err).1.farErr e (((s.farFlush e p err).2 + 65536 - p) % 65536 - (s.farHeld e).length)).setFarNext e
      (some (s.farFlush e p err).2) := by
  simp [State.farExpire, hnext, hheld, hrun, hver, hready, hdue]

/-! The next message of a far service executes (R377). -/

section
variable {s s1 : State} {e : Nat} {p : Packet} {m : MemIn} (hrun : s.svcRuns e = true) (htype : s.rd TEN_SVC0_TYPE e = tyMemory)
  (hrole : s.memRole e = 1) (hready : s.farReady e = true) (hfind : (s.inbox (s.svcEngine e)).find? (fun x => x.1 == e) = some (e, p))
  (hgood : memGood false p.payload = true) (hver : s.memV1 e = false) (hm : m = memParse p.payload) (hheld : s.farHeld e = [])
  (hturn : m.mseq = (Tab.get s.brg.next e none).getD 0)
  (hs1 : s1 = { (s.takeInbound e).1 with brg := { s.brg with heardAt := Tab.put s.brg.heardAt e s.tmu.elapsed 0 } })
include hrun htype hrole hready hfind hgood hver hm hheld hturn hs1

/-- A message whose execution leaves the held messages alone is followed by nothing else. -/
theorem State.farReceive_of_turn {ty : Nat} (hty : m.ty = ty) (hlow : ty < 0x81) {u : State} (hexec : s1.farExec e p.payload false = u)
    (hkept : u.brg.held = s1.brg.held) : s.farReceive e [ty] false = u.setFarNext e (some ((m.mseq + 1) % 65536)) := by
  obtain ⟨quiet, hreceive⟩ := State.farReceive_of_next hrun htype hrole hready hfind hgood hver hm hs1 hty hlow false
  have hnone : u.farHeld e = [] := by rw [State.farHeld_of_brg (s := s) (by rw [hkept, hs1]), hheld]
  have hturn1 : m.mseq = (Tab.get s1.brg.next e none).getD 0 := by rw [hs1]; exact hturn
  rw [hreceive, State.farArrive2_of_turn hm hturn1 (hexec ▸ hnone), hexec]

theorem State.farReceive_of_read (hty : m.ty = memRead) (hfit : m.addr + m.bytes ≤ s1.farSpan e) (hfunc : s1.farFunc e = 0) {r : MemIn}
    (hr : r = { ty := memRdata, tag := m.tag, mseq := m.mseq, bytes := m.bytes, status := mstOk, addr := m.addr,
                data := Memory.read s1.host (s1.farBase e + m.addr) m.bytes }) :
    s.farReceive e [memRead] false = (({ s1.memCount e 0 1 with brg := { (s1.memCount e 0 1).brg with
      kept := Tab.put s1.brg.kept (32 * e + m.tag) (some (m.mseq, memBytes r)) none } } : State).farAnswer e r).setFarNext e
        (some ((m.mseq + 1) % 65536)) :=
  State.farReceive_of_turn hrun htype hrole hready hfind hgood hver hm hheld hturn hs1 hty (by decide)
    (State.farExec_of_read (ne_nil_of_memGood hgood) hm hty hfit hfunc hr) (State.farAnswer_held _ e r)

theorem State.farReceive_of_write (hty : m.ty = memWriteMsg) (hfit : m.addr + m.data.length ≤ s1.farSpan e) (hfunc : s1.farFunc e = 0) :
    s.farReceive e [memWriteMsg] false = (({ s1.memCount e 1 1 with host := Memory.write s1.host (s1.farBase e + m.addr) m.data } : State).ackOwed
      e).setFarNext e (some ((m.mseq + 1) % 65536)) :=
  State.farReceive_of_turn hrun htype hrole hready hfind hgood hver hm hheld hturn hs1 hty (by decide)
    (State.farExec_of_write (ne_nil_of_memGood hgood) hm hty hfit hfunc) (State.ackOwed_held _ e)

theorem State.farReceive_of_signal (hty : m.ty = memSignal) :
    s.farReceive e [memSignal] false = ((((s1.memCount e 2 1).putBit BRG_SIGRX_LINES m.line true).brgEvent BRG_STAT_SIGEV).ackOwed e).setFarNext e
      (some ((m.mseq + 1) % 65536)) := by
  have hkept := fun u : State => ((u.brgEvent BRG_STAT_SIGEV).ackOwed_held e).trans (congrArg Brg.held (u.brgEvent_brg BRG_STAT_SIGEV))
  exact State.farReceive_of_turn hrun htype hrole hready hfind hgood hver hm hheld hturn hs1 hty (by decide)
    (State.farExec_of_signal (ne_nil_of_memGood hgood) hm hty false) (hkept _)

end

/-- Settles O40, clause by clause. -/
theorem farMemoryService : Obligations.FarMemoryService := by
  refine ⟨fun e p m r s s1 hrun htype hrole hready hfind hgood hver hm hty hheld hfit hfunc hr hturn hs1 => congrArg Host.Outcome.next
      (State.farReceive_of_read hrun htype hrole hready hfind hgood hver hm hheld hturn hs1 hty hfit hfunc hr),
    fun e p m s s1 hrun htype hrole hready hfind hgood hver hm hty hheld hfit hfunc hturn hs1 => ?_,
    fun e p m s s1 hrun htype hrole hready hfind hgood hver hm hty hheld hturn hs1 => congrArg Host.Outcome.next
      (State.farReceive_of_signal hrun htype hrole hready hfind hgood hver hm hheld hturn hs1 hty),
    fun e a d s hfit hfunc => State.farWrite_of_host hfit hfunc, fun e a d err s hout => State.farWrite_of_range hout err,
    fun e a n s hfit hfunc => State.farRead_of_host hfit hfunc,
    fun e bs m quiet err r s hm hty hnext hmseq hkept => State.farArrive2_of_repeat hm hty hnext hmseq hkept quiet err,
    fun e bs m quiet err s hm hnext hmseq hnew hfew => State.farArrive2_of_ahead hm hnext hmseq hnew hfew quiet err,
    fun e s hrun htype hrole hver howed hdue => congrArg Host.Outcome.next (State.farAck_of_owed hrun htype hrole hver howed hdue),
    fun e p err f s hnext hheld hrun hver hready hdue hf => ?_⟩
  · refine ⟨_, congrArg Host.Outcome.next
      (State.farReceive_of_write hrun htype hrole hready hfind hgood hver hm hheld hturn hs1 hty hfit hfunc), ?_, ?_, State.next_setFarNext _ _ _⟩
    · have hhost : s1.host = s.host := by rw [hs1]; exact s.takeInbound_host e
      rw [← hhost]
      exact State.ackOwed_host _ e
    · have hdram : s1.dram = s.dram := by rw [hs1]; exact s.takeInbound_dram e
      rw [← hdram]
      exact State.ackOwed_dram _ e
  · rw [hf]
    exact congrArg Host.Outcome.next (State.farExpire_of_due hnext hheld hrun hver hready hdue)

end Sys2Proof.Machine
end

section
/-! PROOFS. DMA channels and the DRAM controller (R387, R389 to R392, R394, R395, R397, R398, R440). -/

open Sys2Proof

namespace Sys2Proof.Machine

/-! Enable, disable and load (R390, R391, R394, R395). -/

section
variable {s : State} {n : Nat}

theorem State.dmaEnable_of_off (hoff : s.on DMC_CTRL_EN n = false) : s.dmaEnable n = (s.wr DMC_CTRL_EN 1 n).wr DMC_STAT_STATE dmaIdle n := by
  simp only [State.dmaEnable, hoff, Bool.false_eq_true, if_false]

/-- A channel with no descriptor in hand has none to write back. -/
theorem State.dmaDisable_of_empty (hon : s.on DMC_CTRL_EN n = true) (hcur : Tab.get s.dma.cur n none = none) (hnext : Tab.get s.dma.next n none = none)
    {s1 s2 s3 : State} (hs1 : s1 = (s.wr DMC_CTRL_EN 0 n).wr DMC_STAT_STATE dmaOff n)
    (hs2 : s2 = (((s1.wrFree DMC_DONE_BYTES n).wrFree DMC_FADDR_LO_ADDR n).wrFree DMC_FADDR_HI_ADDR n).wr DMS_SHCTRL_VALID 0 n)
    (hs3 : s3 = (((s2.wrFree DMC_FINFO_DIR n).wrFree DMC_FINFO_SIDE n).wrFree DMC_FINFO_SPACE n).wrFree DMC_FINFO_CAUSE n) :
    s.dmaDisable n = { s3 with dma := { s3.dma with cur := Tab.put s3.dma.cur n none none, next := Tab.put s3.dma.next n none none } } := by
  simp only [State.dmaDisable, hon, Bool.not_true, Bool.false_eq_true, if_false, hcur, hnext, State.dmaAbort, ← hs1, ← hs2, ← hs3]

theorem State.dmaShadowValid_of_plain (hring : s.on DMC_CTRL_RING n = false) (v : Bool) : s.dmaShadowValid n v = s.wr DMS_SHCTRL_VALID (bit v) n := by
  simp only [State.dmaShadowValid, hring, Bool.false_eq_true, if_false]

theorem State.dmaShadowValid_of_ring (hring : s.on DMC_CTRL_RING n = true) (v : Bool) : s.dmaShadowValid n v = s.dmaLateWrite n := if_pos hring

/-- A complete shadow outside ring mode loads into an idle channel. -/
theorem State.dmaLoadStep_of_complete (hrun : s.dmaRuns = true) (hon : s.on DMC_CTRL_EN n = true) (hring : s.on DMC_CTRL_RING n = false)
    (hvalid : s.on DMS_SHCTRL_VALID n = true) (hidle : s.rd DMC_STAT_STATE n = dmaIdle) : s.dmaLoadStep n = s.dmaLoad n := by
  simp [State.dmaLoadStep, hrun, hon, hring, hvalid, hidle]

theorem State.dmaLoad_of_sound (hdesc : (s.dmaCopy n).dmaBadDesc n = false) (hsound : (s.dmaCopy n).dmaFailure n = none)
    (hat : (s.dmaCopy n).on DMX_OPW_AT n = false) : s.dmaLoad n = (s.dmaCopy n).wr DMC_STAT_STATE dmaActive n := by
  simp only [State.dmaLoad, hdesc, hsound, hat, Bool.false_eq_true, if_false]

theorem State.dmaLoad_of_failure {c : DmaCode} (hdesc : (s.dmaCopy n).dmaBadDesc n = false) (hfail : (s.dmaCopy n).dmaFailure n = some c) :
    s.dmaLoad n = ((s.dmaCopy n).dmaCount 0).dmaFinish n c := by
  simp only [State.dmaLoad, hdesc, hfail, Bool.false_eq_true, if_false]

section
variable (hwait : s.rd DMC_STAT_STATE n = dmaWait)
include hwait

theorem State.dmaStartAt_of_instant (hfrom : s.tmu.tod.units ≥ Tab.get s.dma.start n 0 * 2 ^ 32)
    (huntil : s.tmu.tod.units < Tab.get s.dma.start n 0 * 2 ^ 32 + 2 * 2 ^ 32) : s.dmaStartAt n = s.wr DMC_STAT_STATE dmaActive n := by
  simp only [State.dmaStartAt, hwait, decide_eq_true hfrom, decide_true, Bool.and_self, if_true, State.when,
    decide_eq_false (Nat.not_le.mpr huntil), Bool.false_eq_true, if_false]

theorem State.dmaStartAt_of_late (hlate : s.tmu.tod.units ≥ Tab.get s.dma.start n 0 * 2 ^ 32 + 2 * 2 ^ 32) :
    s.dmaStartAt n = (s.wr DMC_STAT_STATE dmaActive n).wr DMC_STAT_LATE 1 n := by
  have hfrom : s.tmu.tod.units ≥ Tab.get s.dma.start n 0 * 2 ^ 32 := Nat.le_trans (Nat.le_add_right _ _) hlate
  simp only [State.dmaStartAt, hwait, decide_eq_true hfrom, decide_true, Bool.and_self, if_true, State.when, decide_eq_true hlate]

end

/-! The movement and its end (R389, R391, R392). -/

theorem State.dmaResume_of_halted (hstate : s.rd DMC_STAT_STATE n = dmaHalted) : s.dmaResume n = s.dmaEnd n .busErr := if_pos hstate

theorem State.dmaComplete_of_move {s1 : State} {k : Nat} {r : DmaStop} (hmoves : s.dmaMoves n = true)
    (hmove : s.dmaMove n (s.dmaUnits n) 0 = (s1, k, r)) : s.dmaComplete n = s1.dmaStopped n k r (·.dmaEnd n .ok) := by
  simp only [State.dmaComplete, hmoves, Bool.not_true, Bool.false_eq_true, if_false, hmove]

/-- Registers of channel `n` other than DONE keep their fields when DONE is written. -/
theorem State.rd_dmaDone {F : Field} (hstr : F.str = DMC_DONE_BYTES.str) (hstr2 : F.str2 = 0)
    (hword : 8 * F.off + F.lo ≠ 8 * DMC_DONE_BYTES.off + DMC_DONE_BYTES.lo) (s : State) (n bytes : Nat) : (s.dmaDone n bytes).rd F n = s.rd F n := by
  refine State.rd_wr_ne (fun hkey => hword ?_) bytes
  have hdone : DMC_DONE_BYTES.str2 = 0 := rfl
  simp only [Field.key, Field.addr, hstr, hstr2, hdone, Nat.zero_mul] at hkey
  omega

/-- What the movement of a transfer goes by stays when DONE is written. -/
theorem State.dmaSides_dmaDone (s : State) (n bytes : Nat) :
    (s.dmaDone n bytes).dmaOp n = s.dmaOp n ∧ (s.dmaDone n bytes).dmaSrc n = s.dmaSrc n ∧ (s.dmaDone n bytes).dmaDst n = s.dmaDst n := by
  refine ⟨s.rd_dmaDone (F := DMX_OPW_OP) rfl rfl (by decide) n bytes, ?_, ?_⟩
  · simp only [State.dmaSrc, s.rd_dmaDone (F := DMX_OPW_SSPACE) rfl rfl (by decide), s.rd_dmaDone (F := DMX_SRC_HI_ADDR) rfl rfl (by decide),
      s.rd_dmaDone (F := DMX_SRC_LO_ADDR) rfl rfl (by decide), s.rd_dmaDone (F := DMX_SGEOM_LINE) rfl rfl (by decide),
      s.rd_dmaDone (F := DMX_SGEOM_LINES) rfl rfl (by decide), s.rd_dmaDone (F := DMX_SSTRIDE_STRIDE) rfl rfl (by decide)]
  · simp only [State.dmaDst, s.rd_dmaDone (F := DMX_OPW_DSPACE) rfl rfl (by decide), s.rd_dmaDone (F := DMX_DST_HI_ADDR) rfl rfl (by decide),
      s.rd_dmaDone (F := DMX_DST_LO_ADDR) rfl rfl (by decide), s.rd_dmaDone (F := DMX_DGEOM_LINE) rfl rfl (by decide),
      s.rd_dmaDone (F := DMX_DGEOM_LINES) rfl rfl (by decide), s.rd_dmaDone (F := DMX_DSTRIDE_STRIDE) rfl rfl (by decide)]

theorem State.dmaPlace_dmaDone (s : State) (n bytes k : Nat) : (s.dmaDone n bytes).dmaPlace n k = s.dmaPlace n k := by
  obtain ⟨hop, hsrc, hdst⟩ := s.dmaSides_dmaDone n bytes
  have hsides : (s.dmaDone n bytes).dmaSides n = s.dmaSides n := by rw [State.dmaSides, hop, hsrc, hdst, State.dmaSides]
  have hunit : (s.dmaDone n bytes).dmaUnit n = s.dmaUnit n := by rw [State.dmaUnit, hsides, State.dmaUnit]
  have hdown : (s.dmaDone n bytes).dmaDown n = s.dmaDown n := by rw [State.dmaDown, hop, hsrc, hdst, State.dmaDown]
  rw [State.dmaPlace, State.dmaUnits, hunit, hdown, hdst, State.dmaPlace, State.dmaUnits]

/-- A PCIe error on the first access of the destination halts the channel with nothing moved. -/
theorem State.dmaBusErr_of_first (hmoves : s.dmaMoves n = true) (hfits : s.dmaErrFits n true dmaPcie = true) (hunits : 0 < s.dmaUnits n) :
    s.dmaBusErr n 0 true dmaPcie = (s.dmaDone n 0).dmaHaltAt n (s.dmaOp n != opCompare) true dmaPcie ((s.dmaDst n).at (s.dmaPlace n 0)) := by
  have hecc : dmaPcie ≠ dmaEcc := by decide
  obtain ⟨hop, -, hdst⟩ := s.dmaSides_dmaDone n 0
  simp only [State.dmaBusErr, hmoves, hfits, Nat.zero_div, decide_eq_false (Nat.not_le.mpr hunits), Bool.not_true, Bool.or_self, Bool.false_eq_true,
    if_false, State.dmaMove, State.dmaStopped, Nat.zero_mul, State.dmaFails, if_pos hecc, if_true, hop, hdst, State.dmaPlace_dmaDone, Bool.true_and]

theorem State.dmaHaltAt_eq {write dest : Bool} {cause addr : Nat} {s1 s2 s3 : State}
    (hs1 : s1 = (((s.wr DMC_FINFO_DIR (bit write) n).wr DMC_FINFO_SIDE (bit dest) n).wr DMC_FINFO_SPACE
      (if dest then s.rd DMX_OPW_DSPACE n else s.rd DMX_OPW_SSPACE n) n).wr DMC_FINFO_CAUSE cause n)
    (hs2 : s2 = (s1.wr DMC_FADDR_LO_ADDR addr n).wr DMC_FADDR_HI_ADDR (addr / 2 ^ 32) n)
    (hs3 : s3 = ((s2.wr DMC_STAT_STATE dmaHalted n).wr DMC_STAT_HALTEV 1 n).sat DMA_CNT_COUNT 1) :
    s.dmaHaltAt n write dest cause addr = s3.irq (32 + n) n (s3.dmaStat n) := by
  rw [hs3, hs2, hs1]
  rfl

end

/-! The DRAM controller (R398, R440). -/

section
variable {s : State}

theorem State.drcCtrlWrite_of_size {w : Nat} {s1 : State} (hs1 : s1 = s.writeReg 0x230000 w) (hsize : s1.rd DRC_CTRL_DEVSZ ≠ s.rd DRC_CTRL_DEVSZ) :
    s.drcCtrlWrite w = (s1.wr DRC_STAT_READY 0).causeOff 11 := by
  simp only [State.drcCtrlWrite, ← hs1, if_neg hsize]

theorem State.dramTrains_of_size (hsize : s.rd DRC_CTRL_DEVSZ ≠ 0) (hready : s.on DRC_STAT_READY = false) (hcause : Tab.get s.flt.cause 11 false = false) :
    s.dramTrains = true := by
  simp [State.dramTrains, hsize, hready, hcause]

theorem State.dramTrained_of_ok (htrains : s.dramTrains = true) : s.dramTrained true = (s.wr DRC_STAT_READY 1).causeOff 11 := by
  simp only [State.dramTrained, htrains, Bool.not_true, Bool.false_eq_true, if_false, if_true]

theorem State.dramTrained_of_failure (htrains : s.dramTrains = true) : s.dramTrained false = s.causeOn 11 0 := by
  simp only [State.dramTrained, htrains, Bool.not_true, Bool.false_eq_true, if_false]

theorem State.dramScrub_of_two (hon : s.on DRC_CTRL_SCRUB = true) (hready : s.on DRC_STAT_READY = true) (a : Nat) :
    s.dramScrub 1 [a] = s.dramCor.dramUnc a := by
  simp only [State.dramScrub, hon, hready, Bool.and_self, if_true, List.range_one, State.each_cons, State.each_nil]

theorem State.dramUnc_of_first (hfirst : s.on DRC_STAT_UNCEV = false) (a : Nat) :
    s.dramUnc a = ((((s.sat DRC_CNT_COUNT 1).wr DRC_STAT_UNCEV 1).wr DRC_ECCADDR_LO_ADDR (a / 64)).wr DRC_ECCADDR_HI_ADDR (a / 2 ^ 32)).fault 13 0 := by
  have hfirst1 : (s.sat DRC_CNT_COUNT 1).on DRC_STAT_UNCEV = false := (State.on_wr_ne (by decide) _).trans hfirst
  simp only [State.dramUnc, hfirst1, Bool.false_eq_true, if_false]

end

/-- Settles O41, clause by clause. -/
theorem dmaChannels : Obligations.DmaChannels := by
  refine ⟨fun n s hoff => congrArg Host.Outcome.next (State.dmaEnable_of_off hoff),
    fun n s s1 s2 s3 hon hcur hnext hs1 hs2 hs3 => congrArg Host.Outcome.next (State.dmaDisable_of_empty hon hcur hnext hs1 hs2 hs3),
    fun n v s hring => congrArg Host.Outcome.next (State.dmaShadowValid_of_plain hring v),
    fun n v s hring => congrArg Host.Outcome.next (State.dmaShadowValid_of_ring hring v),
    fun n s hrun hon hring hvalid hidle hdesc hsound hat => congrArg Host.Outcome.next
      ((State.dmaLoadStep_of_complete hrun hon hring hvalid hidle).trans (State.dmaLoad_of_sound hdesc hsound hat)),
    fun n c s hrun hon hring hvalid hidle hdesc hfail => congrArg Host.Outcome.next
      ((State.dmaLoadStep_of_complete hrun hon hring hvalid hidle).trans (State.dmaLoad_of_failure hdesc hfail)),
    fun n s hwait hfrom huntil => congrArg Host.Outcome.next (State.dmaStartAt_of_instant hwait hfrom huntil),
    fun n s hwait hlate => congrArg Host.Outcome.next (State.dmaStartAt_of_late hwait hlate),
    fun n s hstate hnext hcur hirq => congrArg Host.Outcome.next
      ((State.dmaResume_of_halted hstate).trans (State.dmaEnd_of_plain hcur hirq hnext .busErr)),
    fun n c s hcur hirq => State.dmaFinish_of_plain hcur hirq c,
    fun n k s s1 hmoves hmove hnext hcur hirq => congrArg Host.Outcome.next
      ((State.dmaComplete_of_move hmoves hmove).trans (State.dmaEnd_of_dmaDone hcur hirq hnext _ .ok)),
    fun n k a j s s1 hmoves hmove => congrArg Host.Outcome.next (State.dmaComplete_of_move hmoves hmove),
    fun n a s s1 s2 s3 hmoves hfits hunits ha hs1 hs2 hs3 => ?_,
    fun n write dest cause addr s s1 s2 s3 hs1 hs2 hs3 => State.dmaHaltAt_eq hs1 hs2 hs3,
    fun w s s1 hs1 hsize => congrArg Host.Outcome.next (State.drcCtrlWrite_of_size hs1 hsize),
    fun s hsize hready hcause => congrArg Host.Outcome.next (State.dramTrained_of_ok (State.dramTrains_of_size hsize hready hcause)),
    fun s hsize hready hcause => congrArg Host.Outcome.next (State.dramTrained_of_failure (State.dramTrains_of_size hsize hready hcause)),
    fun a s s1 hon hready hs1 => ?_, fun a s hfirst => State.dramUnc_of_first hfirst a⟩
  · have hspace : s.rd DMX_OPW_DSPACE n = (s.dmaDone n 0).rd DMX_OPW_DSPACE n := (s.rd_dmaDone (F := DMX_OPW_DSPACE) rfl rfl (by decide) n 0).symm
    rw [hspace, ← State.dmaDone] at hs1
    have hhalt := State.dmaHaltAt_eq (dest := true) (addr := a) hs1 hs2 hs3
    rw [ha, ← State.dmaBusErr_of_first hmoves hfits hunits] at hhalt
    exact congrArg Host.Outcome.next hhalt
  · rw [hs1]
    exact congrArg Host.Outcome.next (State.dramScrub_of_two hon hready a)

end Sys2Proof.Machine
end

section
/-! PROOFS. Resets and the management watchdog (R427 to R432). -/

open Sys2Proof

namespace Sys2Proof.Machine

/-- What a key holds stays when only entries of other keys are taken away. -/
theorem Tab.get_filter_of_kept {α : Type} {p : Nat → Bool} {k : Nat} (hk : p k = true) (d : α) :
    ∀ t : Tab α, Tab.get (t.filter (fun x => p x.1)) k d = Tab.get t k d
  | [] => rfl
  | (k2, v) :: t => by
    have ih := Tab.get_filter_of_kept hk d t
    by_cases hk2 : k2 = k
    · subst hk2
      simp only [List.filter_cons_of_pos, hk, Tab.get, if_true]
    · cases hp : p k2 <;> simp only [List.filter_cons, hp, Tab.get, if_neg hk2, if_true, Bool.false_eq_true, if_false, ih]

/-- What changes nothing for any element of a list changes nothing for all. -/
theorem State.each_of_fixed {α : Type} {f : State → α → State} {s : State} {l : List α} (h : ∀ a ∈ l, f s a = s) : s.each l f = s := by
  induction l with
  | nil => exact State.each_nil _ _
  | cons a l ih => rw [State.each_cons, h a (List.mem_cons_self ..), ih (fun b hb => h b (List.mem_cons_of_mem _ hb))]

/-! The chip reset (R427, R428, R430). -/

/-- No power fault is present: the causes of slots 17 to 20 are gone. -/
def State.powerQuiet (s : State) : Bool := (List.range 4).all (fun k => !Tab.get s.flt.cause (17 + k) false)

/-- A chip reset before the causes that are still there are reported. -/
def State.chipCleared (s : State) (cause : Field) : State := (s.coreClear.wr cause 1).each [1, 2, 3, 4] (fun s n => s.efuse n false)

theorem State.chipReset_of_quiet {s : State} (hquiet : s.powerQuiet = true) (cause : Field) :
    s.chipReset cause = { s.chipCleared cause with pwr := { (s.chipCleared cause).pwr with railen := true, waking := false } } := by
  refine State.each_of_fixed (fun k hk => if_neg ?_)
  have hrange : ∃ i < 4, k = 17 + i := by
    simp only [List.mem_cons, List.not_mem_nil, or_false] at hk
    exact ⟨k - 17, by omega, by omega⟩
  obtain ⟨i, hi, rfl⟩ := hrange
  have hgone : Tab.get s.flt.cause (17 + i) false = false := by
    have h := List.all_eq_true.mp hquiet i (List.mem_range.mpr hi)
    rwa [Bool.not_eq_true'] at h
  have hkept : (decide (17 ≤ 17 + i) && decide (17 + i ≤ 20)) = true := by
    rw [decide_eq_true (Nat.le_add_right 17 i), decide_eq_true (by omega)]
    rfl
  have hfilter := Tab.get_filter_of_kept (p := fun k => decide (17 ≤ k) && decide (k ≤ 20)) hkept false s.flt.cause
  exact Bool.not_eq_true _ ▸ (hfilter.trans hgone)

/-- What every chip reset without a power fault leaves: the kept stores, no memories, no time, held, its cause latched, eFuses 1 to 4 off. -/
theorem State.chipReset_effects {s : State} (hquiet : s.powerQuiet = true) (hsorted : Tab.sorted s.regs = true) {cause : Field}
    (hcause : cause ∈ [GEN_RSTCAUSE_PORST, GEN_RSTCAUSE_SWCHIP, GEN_RSTCAUSE_DORMANT]) :
    (s.chipReset cause).keys.fuse = s.keys.fuse ∧ (s.chipReset cause).flash = s.flash ∧ (s.chipReset cause).host = s.host ∧
      (s.chipReset cause).sram = [] ∧ (s.chipReset cause).dram = [] ∧ (s.chipReset cause).tmu = {} ∧ (s.chipReset cause).boot.held = true ∧
      (s.chipReset cause).on cause = true ∧ ∀ n : Fin 4, (s.chipReset cause).on (State.efuseOn (n.val + 1)) = false := by
  rw [State.chipReset_of_quiet hquiet]
  have hclear : Tab.sorted s.coreClear.regs = true := Tab.sorted_filter _ hsorted
  have hregs : (s.chipCleared cause).regs =
      ((((s.coreClear.wr cause 1).wr HSW_EFSTAT_ON0 0).wr HSW_EFSTAT_ON1 0).wr HSW_EFSTAT_ON2 0 |>.wr HSW_EFSTAT_ON3 0).regs := rfl
  have hrd : ∀ F, ({ s.chipCleared cause with pwr := { (s.chipCleared cause).pwr with railen := true, waking := false } } : State).on F =
      ((((s.coreClear.wr cause 1).wr HSW_EFSTAT_ON0 0).wr HSW_EFSTAT_ON1 0).wr HSW_EFSTAT_ON2 0 |>.wr HSW_EFSTAT_ON3 0).on F :=
    fun F => State.on_of_regs hregs F 0 0
  refine ⟨rfl, rfl, rfl, rfl, rfl, rfl, rfl, ?_, fun n => ?_⟩
  · rw [hrd]
    simp only [List.mem_cons, List.not_mem_nil, or_false] at hcause
    rcases hcause with rfl | rfl | rfl <;>
      rw [State.on_wr_ne (by decide), State.on_wr_ne (by decide), State.on_wr_ne (by decide), State.on_wr_ne (by decide)] <;>
      exact State.on_wr_one ⟨by decide, rfl, rfl⟩ _ _ _
  · rw [hrd]
    have hoff : ∀ {u : State} F, Tab.sorted u.regs = true → (u.wr F 0).on F = false := fun F hu => by
      rw [State.on, State.rd_wr_self hu, Nat.zero_mod]
      rfl
    have h0 := State.sorted_wr hclear cause 1 0 0
    have h1 := State.sorted_wr h0 HSW_EFSTAT_ON0 0 0 0
    have h2 := State.sorted_wr h1 HSW_EFSTAT_ON1 0 0 0
    have h3 := State.sorted_wr h2 HSW_EFSTAT_ON2 0 0 0
    match n with
    | 0 => exact (State.on_wr_ne (by decide) 0).trans ((State.on_wr_ne (by decide) 0).trans ((State.on_wr_ne (by decide) 0).trans (hoff _ h0)))
    | 1 => exact (State.on_wr_ne (by decide) 0).trans ((State.on_wr_ne (by decide) 0).trans (hoff _ h1))
    | 2 => exact (State.on_wr_ne (by decide) 0).trans (hoff _ h2)
    | 3 => exact hoff _ h3

/-- The release of a held hub (R428, R429). -/
theorem State.resetRelease_of_held {s : State} (hheld : s.boot.held = true) (hgood : s.pwr.good = true) {compat pcieRc dbgEn : Bool} {s2 s3 : State}
    (hs2 : s2 = (((((((((s.wr CLK_STAT_REFOK 1).wr CLK_STAT_SYSLK 1).wr CLK_STAT_TIMELK 1).wr CLK_STAT_LANELK 1).wr CLK_STAT_MEMLK 1).wr CLK_STAT_PCIELK 1).wr
      GEN_STRAP_COMPAT (bit compat)).wr GEN_STRAP_PCIE_RC (bit pcieRc)).wr GEN_STRAP_DBG_EN (bit dbgEn)))
    (hs3 : s3 = (((s2.wr PCX_CTRL_ROLE (bit pcieRc)).wr TRK_KL2_STAT_STRAP (bit compat)).kl2Show)) :
    s.resetRelease compat pcieRc dbgEn = { s3 with boot := { s3.boot with held := false, rel := s3.tmu.elapsed } } := by
  simp only [State.resetRelease, hheld, hgood, Bool.not_true, Bool.or_self, Bool.false_eq_true, if_false, ← hs2, ← hs3]

/-! GEN_RST (R430). -/

section
variable {s : State} {w : Nat}

theorem State.genRstWrite_of_noKey (hkey : bitsOf w 15 0 ≠ cmdKey) : s.genRstWrite w = s := if_pos hkey

variable (hkey : bitsOf w 15 0 = cmdKey)
include hkey

theorem State.genRstWrite_of_chip (hchip : w.testBit 31 = true) : s.genRstWrite w = s.chipReset GEN_RSTCAUSE_SWCHIP := by
  rw [State.genRstWrite, if_neg (not_not_intro hkey), if_pos hchip]

theorem State.genRstWrite_of_mgmt (hchip : w.testBit 31 = false) (hmgmt : w.testBit 30 = true) (hboot : s.chipBooted = true)
    (hstop : s.on GEN_RSTCAUSE_MGMTSTOP = false) (hdead : s.boot.dead = false) : s.genRstWrite w = s.mgmtReset GEN_RSTCAUSE_SWMGMT := by
  simp only [State.genRstWrite, if_neg (not_not_intro hkey), hchip, hmgmt, hboot, hstop, hdead, Bool.false_eq_true, if_false, Bool.not_false, Bool.and_self,
    if_true]

end

/-! Management resets (R427, R431, R432). -/

section
variable {s : State} {F : Field} {s1 s2 : State}
  (hs1 : s1 = { ((((s.wr F 1).sat GEN_RSTCAUSE_MGMTCNT).wr GEN_WDT_TIMEOUT 1000).each (List.range 4) (fun s t => s.disarm (.offer t))) with sram := [] })
  (hs2 : s2 = { s1 with
    keys := { s1.keys with sess := [] }, fab := { s1.fab with answers := [], heardId := [] }
    boot := { s1.boot with
      running := false, mgmtOnly := true
      resets := s.tmu.elapsed :: s.boot.resets.filter (fun t => s.tmu.elapsed < t + 60000000000 * 2 ^ 32), kick := s.tmu.elapsed } })
include hs1 hs2

theorem State.mgmtReset_of_few (hfew : (s.boot.resets.filter (fun t => s.tmu.elapsed < t + 60000000000 * 2 ^ 32)).length < 2) :
    s.mgmtReset F = ((s2.wr BOOT_STAT_STAGE 2).wr BOOT_STAT_HALT 0).causeOff 7 := by
  have hcount : ¬ (s.tmu.elapsed :: s.boot.resets.filter (fun t => s.tmu.elapsed < t + 60000000000 * 2 ^ 32)).length ≥ 3 := by
    rw [List.length_cons]
    omega
  rw [hs2, hs1]
  exact if_neg hcount

theorem State.mgmtReset_of_third (hthird : 2 ≤ (s.boot.resets.filter (fun t => s.tmu.elapsed < t + 60000000000 * 2 ^ 32)).length) :
    s.mgmtReset F = (s2.wr GEN_RSTCAUSE_MGMTSTOP 1).causeOn 6 0 := by
  have hcount : (s.tmu.elapsed :: s.boot.resets.filter (fun t => s.tmu.elapsed < t + 60000000000 * 2 ^ 32)).length ≥ 3 := by
    rw [List.length_cons]
    omega
  rw [hs2, hs1]
  exact if_pos hcount

end

/-- The management side cleared, with the cause and the time of its reset. -/
def State.mgmtCleared (s : State) (F : Field) : State :=
  let s1 := { ((((s.wr F 1).sat GEN_RSTCAUSE_MGMTCNT).wr GEN_WDT_TIMEOUT 1000).each (List.range 4) (fun s t => s.disarm (.offer t))) with sram := [] }
  { s1 with
    keys := { s1.keys with sess := [] }, fab := { s1.fab with answers := [], heardId := [] }
    boot := { s1.boot with
      running := false, mgmtOnly := true
      resets := s.tmu.elapsed :: s.boot.resets.filter (fun t => s.tmu.elapsed < t + 60000000000 * 2 ^ 32), kick := s.tmu.elapsed } }

theorem State.regs_mgmtCleared (s : State) (F : Field) :
    (s.mgmtCleared F).regs = (((s.wr F 1).sat GEN_RSTCAUSE_MGMTCNT).wr GEN_WDT_TIMEOUT 1000).regs := rfl

/-- The memory and the processor's state of a management side cleared. -/
theorem State.boot_mgmtCleared (s : State) (F : Field) : (s.mgmtCleared F).sram = [] ∧ (s.mgmtCleared F).boot.running = false ∧
    (s.mgmtCleared F).boot.mgmtOnly = true ∧ (s.mgmtCleared F).boot.kick = s.tmu.elapsed := ⟨rfl, rfl, rfl, rfl⟩

/-- What the processor's start at stage SRAM leaves as it is. -/
theorem State.restart_keeps (u : State) : (((u.wr BOOT_STAT_STAGE 2).wr BOOT_STAT_HALT 0).causeOff 7).sram = u.sram ∧
    (((u.wr BOOT_STAT_STAGE 2).wr BOOT_STAT_HALT 0).causeOff 7).boot = u.boot := ⟨rfl, rfl⟩

theorem State.rd_restart_ne (u : State) {G : Field} (h1 : BOOT_STAT_HALT.key 0 0 ≠ G.key 0 0) (h2 : BOOT_STAT_STAGE.key 0 0 ≠ G.key 0 0) :
    (((u.wr BOOT_STAT_STAGE 2).wr BOOT_STAT_HALT 0).causeOff 7).rd G = u.rd G := (State.rd_wr_ne h1 0).trans (State.rd_wr_ne h2 2)

theorem State.rd_restart_stage (u : State) : (((u.wr BOOT_STAT_STAGE 2).wr BOOT_STAT_HALT 0).causeOff 7).rd BOOT_STAT_STAGE = 2 := by
  have hhalt : ((u.wr BOOT_STAT_STAGE 2).wr BOOT_STAT_HALT 0).rd BOOT_STAT_STAGE = (u.wr BOOT_STAT_STAGE 2).rd BOOT_STAT_STAGE :=
    State.rd_wr_ne (by decide) 0
  exact hhalt.trans (State.rd_wr_listed rfl (by decide) _ _ _)

/-- The cause of a management reset is latched. -/
theorem State.rd_cause_mgmtCleared (s : State) {F : Field} (hF : F ∈ [GEN_RSTCAUSE_WDT, GEN_RSTCAUSE_SWMGMT]) : (s.mgmtCleared F).rd F = 1 := by
  rw [State.rd_of_regs (State.regs_mgmtCleared s F)]
  simp only [List.mem_cons, List.not_mem_nil, or_false] at hF
  rcases hF with rfl | rfl <;>
    exact (State.rd_wr_ne (by decide) _).trans ((State.rd_wr_ne (by decide) _).trans (State.rd_wr_one_self ⟨by decide, rfl, rfl⟩ _ _ _))

theorem State.rd_timeout_mgmtCleared {s : State} (hsorted : Tab.sorted s.regs = true) (F : Field) : (s.mgmtCleared F).rd GEN_WDT_TIMEOUT = 1000 := by
  rw [State.rd_of_regs (State.regs_mgmtCleared s F)]
  exact State.rd_wr_self (State.sorted_wr (State.sorted_wr hsorted F 1 0 0) _ _ _ _) _ _ _ _

/-- What a management reset before the third leaves: no SRAM, the processor at stage SRAM, its cause latched, the watchdog at 1,000 ms. -/
theorem State.mgmtReset_effects {s : State} (hfew : (s.boot.resets.filter (fun t => s.tmu.elapsed < t + 60000000000 * 2 ^ 32)).length < 2)
    (hsorted : Tab.sorted s.regs = true) {F : Field} (hF : F ∈ [GEN_RSTCAUSE_WDT, GEN_RSTCAUSE_SWMGMT]) :
    (s.mgmtReset F).sram = [] ∧ (s.mgmtReset F).boot.running = false ∧ (s.mgmtReset F).boot.mgmtOnly = true ∧
      (s.mgmtReset F).boot.kick = s.tmu.elapsed ∧ (s.mgmtReset F).on F = true ∧ (s.mgmtReset F).rd GEN_WDT_TIMEOUT = 1000 ∧
      (s.mgmtReset F).rd BOOT_STAT_STAGE = 2 := by
  obtain ⟨hsram, hrun, honly, hkick⟩ := s.boot_mgmtCleared F
  have hcause := s.rd_cause_mgmtCleared hF
  have htime := State.rd_timeout_mgmtCleared hsorted F
  rw [State.mgmtReset_of_few (s2 := s.mgmtCleared F) rfl rfl hfew]
  generalize s.mgmtCleared F = u at hsram hrun honly hkick hcause htime
  obtain ⟨hsram', hboot'⟩ := u.restart_keeps
  have hne : BOOT_STAT_HALT.key 0 0 ≠ F.key 0 0 ∧ BOOT_STAT_STAGE.key 0 0 ≠ F.key 0 0 := by
    simp only [List.mem_cons, List.not_mem_nil, or_false] at hF
    rcases hF with rfl | rfl <;> decide
  refine ⟨hsram'.trans hsram, ?_, ?_, ?_, ?_, (u.rd_restart_ne (by decide) (by decide)).trans htime, u.rd_restart_stage⟩
  · rw [hboot', hrun]
  · rw [hboot', honly]
  · rw [hboot', hkick]
  · rw [State.on, u.rd_restart_ne hne.1 hne.2, hcause]
    rfl

/-! The watchdog (R431). -/

theorem State.wdtWrite_of_kick {s : State} {w : Nat} (hkick : w.testBit 30 = true) (hen : w.testBit 31 = false) (hon : s.on GEN_WDT_EN = true) :
    s.wdtWrite w = { s with boot := { s.boot with kick := s.tmu.elapsed } } := by
  simp only [State.wdtWrite, hkick, hen, hon, Bool.not_true, Bool.false_and, Bool.false_eq_true, if_false, Bool.true_or, if_true]

theorem State.wdtExpire_of_due {s : State} (hon : s.on GEN_WDT_EN = true)
    (hdue : s.tmu.elapsed ≥ s.boot.kick + s.rd GEN_WDT_TIMEOUT * 1000000 * 2 ^ 32) (hboot : s.chipBooted = true)
    (hstop : s.on GEN_RSTCAUSE_MGMTSTOP = false) (hdead : s.boot.dead = false) : s.wdtExpire = s.mgmtReset GEN_RSTCAUSE_WDT := by
  simp only [State.wdtExpire, State.wdtDue, hon, decide_eq_true hdue, hboot, hstop, hdead, Bool.not_false, Bool.and_self, if_true]

/-- A management reset while the processor may be reset. -/
theorem exec_mgmtReset_of_booted {s : State} (hboot : s.chipBooted = true) (hstop : s.on GEN_RSTCAUSE_MGMTSTOP = false) (hdead : s.boot.dead = false)
    (wdt : Bool) : exec (.mgmtReset wdt) s = .next (s.mgmtReset (if wdt then GEN_RSTCAUSE_WDT else GEN_RSTCAUSE_SWMGMT)) := by
  have hmay : (s.chipBooted && !s.on GEN_RSTCAUSE_MGMTSTOP && !s.boot.dead) = true := by rw [hboot, hstop, hdead]; rfl
  exact if_pos hmay

/-- The causes of CHIP_RESET by their numbers. -/
theorem exec_chipReset (k : Fin 3) (s : State) :
    exec (.chipReset k) s = .next (s.chipReset (if k = 0 then GEN_RSTCAUSE_PORST else if k = 1 then GEN_RSTCAUSE_SWCHIP else GEN_RSTCAUSE_DORMANT)) := by
  match k with
  | 0 => rfl
  | 1 => rfl
  | 2 => rfl

theorem chipCause_mem (k : Fin 3) : (if k = 0 then GEN_RSTCAUSE_PORST else if k = 1 then GEN_RSTCAUSE_SWCHIP else GEN_RSTCAUSE_DORMANT) ∈
    [GEN_RSTCAUSE_PORST, GEN_RSTCAUSE_SWCHIP, GEN_RSTCAUSE_DORMANT] := by
  match k with
  | 0 => decide
  | 1 => decide
  | 2 => decide

/-- Settles O45, clause by clause. -/
theorem resetsAndWatchdog : Obligations.ResetsAndWatchdog := by
  refine ⟨fun s => rfl, fun s s1 hquiet hs1 => ?_, fun k s s1 hquiet hs1 => ?_,
    fun s hquiet hsorted => ⟨_, rfl, State.chipReset_effects hquiet hsorted (by decide)⟩,
    fun k s hquiet hsorted => ⟨_, exec_chipReset k s, State.chipReset_effects hquiet hsorted (chipCause_mem k)⟩,
    fun w s hquiet hkey hchip hsorted => ⟨_, congrArg Host.Outcome.next (State.genRstWrite_of_chip hkey hchip),
      State.chipReset_effects hquiet hsorted (by decide)⟩,
    fun s => ⟨rfl, rfl, rfl, rfl, rfl, rfl, rfl⟩,
    fun compat pcieRc dbgEn s s2 s3 hheld hgood hs2 hs3 => congrArg Host.Outcome.next (State.resetRelease_of_held hheld hgood hs2 hs3),
    fun w s hkey hchip => congrArg Host.Outcome.next (State.genRstWrite_of_chip hkey hchip),
    fun w s hkey => ⟨congrArg Host.Outcome.next (State.genRstWrite_of_noKey hkey), congrArg Host.Outcome.next (State.genRstWrite_of_noKey hkey)⟩,
    fun w s hkey => ⟨congrArg Host.Outcome.next (State.genRstWrite_of_noKey hkey), congrArg Host.Outcome.next (State.genRstWrite_of_noKey hkey)⟩,
    fun wdt s hboot hstop hdead => exec_mgmtReset_of_booted hboot hstop hdead wdt,
    fun wdt s hfew hboot hstop hdead hsorted => ⟨_, exec_mgmtReset_of_booted hboot hstop hdead wdt,
      State.mgmtReset_effects hfew hsorted (by cases wdt <;> decide)⟩,
    fun w s hfew hboot hstop hdead hkey hchip hmgmt hsorted => ⟨_,
      congrArg Host.Outcome.next (State.genRstWrite_of_mgmt hkey hchip hmgmt hboot hstop hdead), State.mgmtReset_effects hfew hsorted (by decide)⟩,
    fun s hfew hboot hstop hdead hon hdue hsorted => ⟨_, congrArg Host.Outcome.next (State.wdtExpire_of_due hon hdue hboot hstop hdead),
      State.mgmtReset_effects hfew hsorted (by decide)⟩,
    fun F s s1 s2 hfew hs1 hs2 => State.mgmtReset_of_few hs1 hs2 hfew, fun F s s1 s2 hthird hs1 hs2 => State.mgmtReset_of_third hs1 hs2 hthird,
    fun w s hkick hen hon => congrArg Host.Outcome.next (State.wdtWrite_of_kick hkick hen hon),
    fun s hon hdue hboot hstop hdead => congrArg Host.Outcome.next (State.wdtExpire_of_due hon hdue hboot hstop hdead)⟩
  · rw [hs1]
    exact congrArg Host.Outcome.next (State.chipReset_of_quiet hquiet GEN_RSTCAUSE_PORST)
  · rw [hs1]
    exact (exec_chipReset k s).trans (congrArg Host.Outcome.next (State.chipReset_of_quiet hquiet _))

end Sys2Proof.Machine
end

section
/-! PROOFS. Power entry: the feed path, the ideal diodes, the USB-C sink switch, the current limit and the eFuses (R448 to R462). -/

open Sys2Proof

namespace Sys2Proof.Machine

/-! States of the path. -/

theorem State.pathIs_iff {s : State} {p : PathState} : s.pathIs p = true ↔ s.rd HSW_STAT_STATE = p.code := beq_iff_eq

theorem State.pathIs_of_code {s : State} {c : Nat} (hstate : s.rd HSW_STAT_STATE = c) (p : PathState) : s.pathIs p = (c == p.code) :=
  congrArg (· == p.code) hstate

/-- The transistor conducts in RAMP and in ON. -/
theorem State.pathConducts_of_code {s : State} (hstate : s.rd HSW_STAT_STATE = 3 ∨ s.rd HSW_STAT_STATE = 4) : s.pathConducts = true := by
  rcases hstate with h | h <;> rw [State.pathConducts, State.pathIs_of_code h, State.pathIs_of_code h] <;> rfl

/-! Towards a ramp (R448, R456, R457, R461). -/

theorem State.rampStart_of_open {s : State} (hsink : s.hsw.sink = false) (hramp : s.hsw.ramp = false) : s.rampStart = s.pathGo .ramp := by
  simp only [State.rampStart, hsink, hramp, Bool.false_eq_true, if_false]

theorem State.rampStart_of_closed {s : State} (hsink : s.hsw.sink = true) :
    s.rampStart = ({ s with hsw := { s.hsw with sink := false, leak := 0, since := 0, ramp := true } } : State).pathSettle := if_pos hsink

theorem State.rampOrWait_of_valid {s : State} (hvalid : s.feedValid = true) (hsink : s.hsw.sink = false) (hramp : s.hsw.ramp = false) :
    s.rampOrWait = s.pathGo .ramp := (if_pos hvalid).trans (State.rampStart_of_open hsink hramp)

theorem State.rampOrWait_of_invalid {s : State} (hvalid : s.feedValid = false) : s.rampOrWait = s.pathGo .feedWait :=
  if_neg (by rw [hvalid]; exact Bool.false_ne_true)

theorem State.seated_of_debounce {s : State} (hstate : (s.wr HSW_STAT_SEATED 1).pathIs .debounce = true) :
    s.seated = (s.wr HSW_STAT_SEATED 1).rampOrWait := by
  simp only [State.seated, hstate, Bool.or_true, if_true]

theorem State.removal_of_seated {s : State} (hseat : s.on HSW_STAT_SEATED = true) (hsound : (s.wr HSW_STAT_SEATED 0).pathIs .damaged = false) :
    s.removal = ((((((s.wr HSW_STAT_SEATED 0).setDiode 0 false).setDiode 1 false).wr HSW_STAT_RETRIES 0).wr HSW_STAT_RMEV 1).sat HSW_CNT_COUNT 6).pathGo
      .unseated := by
  simp only [State.removal, hseat, hsound, Bool.not_true, Bool.false_eq_true, if_false, State.hswCount]

/-! Feeds and diodes (R450 to R452). -/

section
variable {s : State} {f : Nat}

theorem State.feedGood_of_window (hen : s.on (State.feedEn f) = true) (hin : 2500 ≤ Tab.get s.hsw.within f 0) :
    s.feedGood f = ((s.wr (State.feedBit f) 1).causeOff (17 + f)).feedWaitEnd := by
  simp only [State.feedGood, hen, decide_eq_true hin, Bool.and_self, if_true]

/-- A feed's valid bit is not part of the path's state. -/
theorem State.pathIs_wr_feedBit (v : Nat) (p : PathState) : ((s.wr (State.feedBit f) v).causeOff (17 + f)).pathIs p = s.pathIs p := by
  have hstate : (s.wr (State.feedBit f) v).rd HSW_STAT_STATE = s.rd HSW_STAT_STATE := by
    rw [State.feedBit]
    split
    · exact State.rd_wr_ne (by decide) v
    · exact State.rd_wr_ne (by decide) v
  exact congrArg (· == p.code) hstate

theorem State.feedWaitEnd_of_other (hstate : s.pathIs .feedWait = false) : s.feedWaitEnd = s := by
  simp only [State.feedWaitEnd, hstate, Bool.false_and, Bool.false_eq_true, if_false]

theorem State.feedWaitEnd_of_valid (hstate : s.pathIs .feedWait = true) (hvalid : s.feedValid = true) (hlow : s.feedcLow = true)
    (hsink : s.hsw.sink = false) (hramp : s.hsw.ramp = false) : s.feedWaitEnd = s.pathGo .ramp := by
  simp only [State.feedWaitEnd, hstate, hvalid, hlow, Bool.and_self, if_true, State.rampStart_of_open hsink hramp]

theorem State.feedBad_of_valid (hvalid : s.on (State.feedBit f) = true) :
    s.feedBad f = ((s.wr (State.feedBit f) 0).setDiode f false).causeOn (17 + f) 0 := if_pos hvalid

theorem State.diodeOn_of_valid (hvalid : s.on (State.feedBit f) = true) (hsound : s.pathIs .damaged = false) : s.diodeOn f = s.setDiode f true := by
  simp only [State.diodeOn, hvalid, hsound, Bool.not_false, Bool.and_self, if_true]

theorem State.feedcOver_of_conducting {mv : Nat} (hpath : s.pathConducts = true) (hmv : mv > s.rd HSW_FEEDCFG_OV * 250) :
    s.feedcOver mv = ((s.sat HSW_CNT_COUNT 3).wr HSW_STAT_OVEV 1).pathGo .feedWait := by
  simp only [State.feedcOver, hpath, decide_eq_true hmv, Bool.and_self, if_true, State.hswCount]

theorem State.noFeed_of_conducting (hpath : s.pathConducts = true) (ha : s.on HSW_STAT_FVA = false) (hb : s.on HSW_STAT_FVB = false)
    (hunfed : 250 ≤ s.hsw.unfed) : s.noFeed = s.pathGo .feedWait := by
  simp only [State.noFeed, State.feedValid, hpath, ha, hb, Bool.or_self, Bool.not_false, decide_eq_true hunfed, Bool.and_self, if_true]

end

/-! Ramp, trips and retries (R453 to R456). -/

section
variable {s : State}

theorem State.rampEnd_of_reached (hstate : s.rd HSW_STAT_STATE = 3) (hv : s.rd HSW_VMEAS1_VOUT * 2 + 500 ≥ s.rd HSW_VMEAS1_VC * 2) :
    s.rampEnd = s.pathGo .on := by
  have hramp : s.pathIs .ramp = true := State.pathIs_iff.mpr hstate
  simp only [State.rampEnd, hramp, decide_eq_true hv, Bool.and_self, if_true]

theorem State.timerTrip_of_over (hpath : s.pathConducts = true) (htime : s.hsw.timer ≥ 250 * s.rd HSW_CTRL_TFLT) :
    s.timerTrip = (((s.wr HSW_STAT_TRIPEV 1).sat HSW_CNT_COUNT 0).fault 16 0).pathTrip := by
  simp only [State.timerTrip, hpath, decide_eq_true htime, Bool.and_self, if_true, State.hswCount]

theorem State.fastTrip_of_over {raw : Int} (hpath : s.pathConducts = true) (hraw : raw > signedOf 16 (s.rd HSW_THR_FTTHR)) :
    s.fastTrip raw = (((s.wr HSW_STAT_FTEV 1).sat HSW_CNT_COUNT 1).fault 16 1).pathTrip := by
  simp only [State.fastTrip, hpath, decide_eq_true hraw, Bool.and_self, if_true, State.hswCount]

theorem State.retryEnd_of_over (hstate : s.rd HSW_STAT_STATE = 5) (hran : s.pathRan 1000 = true) (hramp : s.hsw.ramp = false) :
    s.retryEnd = (s.sat HSW_CNT_COUNT 4).rampOrWait := by
  have hretry : s.pathIs .retryWait = true := State.pathIs_iff.mpr hstate
  simp only [State.retryEnd, hretry, hran, hramp, Bool.not_false, Bool.and_self, if_true, State.hswCount]

theorem State.retryReset_of_on (hstate : s.rd HSW_STAT_STATE = 4) (hran : s.pathRan 10000 = true) : s.retryReset = s.wr HSW_STAT_RETRIES 0 := by
  have hon : s.pathIs .on = true := State.pathIs_iff.mpr hstate
  simp only [State.retryReset, hon, hran, Bool.and_self, if_true]

/-! Commands (R457, R458, R460). -/

section
variable {w : Nat}

theorem State.hswCmdWrite_of_bad (hbad : bitsOf w 15 0 ≠ 0x5A5A ∨ (w.testBit 31 = true ∧ w.testBit 30 = true)) :
    s.hswCmdWrite w = s.wr HSW_STAT_CMDREJ 1 := by
  have hrej : (decide (bitsOf w 15 0 ≠ cmdKey) || (w.testBit 31 && w.testBit 30)) = true := by
    rcases hbad with hkey | ⟨hoff, hon⟩
    · rw [decide_eq_true (p := bitsOf w 15 0 ≠ cmdKey) hkey, Bool.true_or]
    · rw [hoff, hon, Bool.and_self, Bool.or_true]
  exact if_pos hrej

variable (hkey : bitsOf w 15 0 = 0x5A5A)
include hkey

theorem State.hswCmdWrite_of_off (hoff : w.testBit 31 = true) (hon : w.testBit 30 = false) (hely : s.on FLT_STAT_ELYTRA = false)
    (hsound : s.pathIs .damaged = false) : s.hswCmdWrite w = s.pathGo .off := by
  simp [State.hswCmdWrite, cmdKey, hkey, hoff, hon, hely, hsound]

theorem State.hswCmdWrite_of_on (hoff : w.testBit 31 = false) (hon : w.testBit 30 = true) (hstate : s.pathIs .off = true) :
    s.hswCmdWrite w = s.pathGo .debounce := by
  simp [State.hswCmdWrite, cmdKey, hkey, hoff, hon, hstate]

end

theorem State.clearLatch_of_latched (hstate : s.rd HSW_STAT_STATE = 6) : s.clearLatch = (s.wr HSW_STAT_RETRIES 0).pathGo .debounce :=
  if_pos (State.pathIs_iff.mpr hstate)

theorem State.passDamaged_of_leak (h3 : s.rd HSW_STAT_STATE ≠ 3) (h4 : s.rd HSW_STAT_STATE ≠ 4) (h8 : s.rd HSW_STAT_STATE ≠ 8)
    (hleak : 2500 ≤ s.hsw.leak) :
    s.passDamaged = ((((s.setDiode 0 false).setDiode 1 false).wr HSW_STAT_DAMEV 1).pathGo .damaged).causeOn 20 0 := by
  have hramp : s.pathIs .ramp = false := beq_false_of_ne h3
  have hon : s.pathIs .on = false := beq_false_of_ne h4
  have hdam : s.pathIs .damaged = false := beq_false_of_ne h8
  simp only [State.passDamaged, State.pathConducts, hramp, hon, hdam, decide_eq_false (Nat.not_lt.mpr hleak), Bool.or_self, Bool.false_eq_true,
    if_false]

end

/-! What the outputs leave of the state of the path (R457). -/

/-- The outputs other than the latched state's leave the state, the ramp and its time. -/
theorem State.pathSettle_shows {s : State} (hstate : s.pathIs .latched = false) : s.pathSettle.rd HSW_STAT_STATE = s.rd HSW_STAT_STATE ∧
    s.pathSettle.hsw.ramp = s.hsw.ramp ∧ s.pathSettle.hsw.at_ = s.hsw.at_ := by
  have hgood : ∀ {u : State}, u.rd HSW_STAT_STATE = s.rd HSW_STAT_STATE ∧ u.hsw.ramp = s.hsw.ramp ∧ u.hsw.at_ = s.hsw.at_ →
      ∀ {F : Field} (i v : Nat), F.key i 0 ≠ HSW_STAT_STATE.key 0 0 →
        (u.wr F v i).rd HSW_STAT_STATE = s.rd HSW_STAT_STATE ∧ (u.wr F v i).hsw.ramp = s.hsw.ramp ∧ (u.wr F v i).hsw.at_ = s.hsw.at_ :=
    fun ⟨h1, h2, h3⟩ F i v hF => ⟨(State.rd_wr_ne hF v).trans h1, h2, h3⟩
  have h0 : s.rd HSW_STAT_STATE = s.rd HSW_STAT_STATE ∧ s.hsw.ramp = s.hsw.ramp ∧ s.hsw.at_ = s.hsw.at_ := ⟨rfl, rfl, rfl⟩
  unfold State.pathSettle
  extract_lets s1 w1 x1 s2 s3 src
  have h1 : s1.rd HSW_STAT_STATE = s.rd HSW_STAT_STATE ∧ s1.hsw.ramp = s.hsw.ramp ∧ s1.hsw.at_ = s.hsw.at_ := by
    unfold s1
    split
    · exact h0
    · exact hgood h0 0 0 (by decide)
  have h2 : s2.rd HSW_STAT_STATE = s.rd HSW_STAT_STATE ∧ s2.hsw.ramp = s.hsw.ramp ∧ s2.hsw.at_ = s.hsw.at_ := by
    unfold s2
    split
    · exact h1
    · exact hgood (F := HSW_STAT_INLIM) h1 0 0 (by decide)
  have h3 : s3.rd HSW_STAT_STATE = s.rd HSW_STAT_STATE ∧ s3.hsw.ramp = s.hsw.ramp ∧ s3.hsw.at_ = s.hsw.at_ := by
    have hlatched : s2.pathIs .latched = false := (State.pathIs_of_code h2.1 _).trans hstate
    unfold s3
    rw [if_neg (by rw [hlatched]; exact Bool.false_ne_true)]
    exact h2
  split
  · exact h3
  · exact hgood (hgood h3 0 src (by decide)) 7 _ (by decide)

theorem State.pathGo_shows {s : State} {p : PathState} (hsorted : Tab.sorted s.regs = true) (hp : p ≠ .latched) :
    (s.pathGo p).rd HSW_STAT_STATE = p.code ∧ (s.pathGo p).hsw.ramp = false ∧ (s.pathGo p).hsw.at_ = s.hsw.clock := by
  have hcode : ((s.gateGo p).wr HSW_STAT_STATE p.code).rd HSW_STAT_STATE = p.code := by
    rw [State.rd_wr_self (s := s.gateGo p) hsorted]
    cases p <;> rfl
  have hlatched : ((s.gateGo p).wr HSW_STAT_STATE p.code).pathIs .latched = false := by
    rw [State.pathIs_of_code hcode]
    cases p <;> first | rfl | exact absurd rfl hp
  obtain ⟨hstate, hramp, hat⟩ := State.pathSettle_shows hlatched
  exact ⟨hstate.trans hcode, hramp, hat⟩

/-! The sink switch (R461), limits (R463) and eFuses (R462). -/

section
variable {s : State}

theorem State.sinkClose_of_permitted (hen : s.on HSW_CTRL_USBCEN = true) (hsnk : s.on UPD_STAT_SNKVALID = true) (hpath : s.pathConducts = false)
    (hramp : s.hsw.ramp = false) (hdead : 5 ≤ s.hsw.since) (hv : s.rd UPD_VBUS_V * 20 > s.rd HSW_VMEAS1_VOUT * 2 + 50) :
    s.sinkClose = ({ s with hsw := { s.hsw with sink := true, leak := 0 } } : State).pathSettle := by
  simp only [State.sinkClose, State.vbusAhead, hen, hsnk, hpath, hramp, Bool.not_false, decide_eq_true hdead, decide_eq_true hv, Bool.and_self, if_true,
    State.setSink]

theorem State.deadTimeEnd_of_over (hramp : s.hsw.ramp = true) (hdead : 5 ≤ s.hsw.since) : s.deadTimeEnd = s.pathGo .ramp := by
  simp only [State.deadTimeEnd, hramp, decide_eq_true hdead, Bool.and_self, if_true]

theorem State.limitWrite_of_range {w : Nat} {s1 : State} (hely : s.on FLT_STAT_ELYTRA = false) (hs1 : s1 = s.writeReg 0x30008 w)
    (hrange : s1.rawThreshold (2 * (s1.rd HSW_LIMIT_ILIM * 10)) ≤ 8191) : s.limitWrite false w = s1.limitsShow := by
  rw [hs1] at hrange ⊢
  simp only [State.limitWrite, hely, Bool.false_and, Bool.false_eq_true, if_false, if_neg (Int.not_lt.mpr hrange)]

theorem State.limitWrite_of_refused {w : Nat} (h : s.on FLT_STAT_ELYTRA = true ∨
      (s.writeReg 0x30008 w).rawThreshold (2 * ((s.writeReg 0x30008 w).rd HSW_LIMIT_ILIM * 10)) > 8191) :
    s.limitWrite false w = s.wr HSW_STAT_CMDREJ 1 := by
  cases hely : s.on FLT_STAT_ELYTRA with
  | true => exact if_pos hely
  | false =>
    rw [hely] at h
    have hhigh := h.resolve_left Bool.false_ne_true
    simp only [State.limitWrite, hely, Bool.false_and, Bool.false_eq_true, if_false, if_pos hhigh, State.hswReject]

/-- The flag that the eFuse of port `n` (1–4) sets: `kind` 1 limit, 2 fast, else thermal. -/
def efuseFlag (n kind : Nat) : Field := match n, kind with
  | 1, 1 => HSW_EFSTAT_OC0 | 1, 2 => HSW_EFSTAT_FT0 | 1, _ => HSW_EFSTAT_THERM0
  | 2, 1 => HSW_EFSTAT_OC1 | 2, 2 => HSW_EFSTAT_FT1 | 2, _ => HSW_EFSTAT_THERM1
  | 3, 1 => HSW_EFSTAT_OC2 | 3, 2 => HSW_EFSTAT_FT2 | 3, _ => HSW_EFSTAT_THERM2
  | _, 1 => HSW_EFSTAT_OC3 | _, 2 => HSW_EFSTAT_FT3 | _, _ => HSW_EFSTAT_THERM3

theorem State.efuseTrip_of_on {n : Nat} (hon : s.on (State.efuseOn (n + 1)) = true) (kind : Nat) :
    s.efuseTrip (n + 1) kind = ((((s.wr (efuseFlag (n + 1) kind) 1).sat HSW_CNT_COUNT 5).fault (21 + n) kind).portTrip (n + 1)) := by
  have hnum : 21 + n = 20 + (n + 1) := by omega
  rw [hnum]
  exact if_pos hon

theorem efuseFlag_limit (n : Fin 4) :
    efuseFlag (n + 1) 1 = if n = 0 then HSW_EFSTAT_OC0 else if n = 1 then HSW_EFSTAT_OC1 else if n = 2 then HSW_EFSTAT_OC2 else HSW_EFSTAT_OC3 := by
  match n with
  | 0 | 1 | 2 | 3 => rfl

theorem efuseFlag_fast (n : Fin 4) :
    efuseFlag (n + 1) 2 = if n = 0 then HSW_EFSTAT_FT0 else if n = 1 then HSW_EFSTAT_FT1 else if n = 2 then HSW_EFSTAT_FT2 else HSW_EFSTAT_FT3 := by
  match n with
  | 0 | 1 | 2 | 3 => rfl

theorem efuseFlag_thermal (n : Fin 4) :
    efuseFlag (n + 1) 3 = if n = 0 then HSW_EFSTAT_THERM0 else if n = 1 then HSW_EFSTAT_THERM1 else if n = 2 then HSW_EFSTAT_THERM2 else HSW_EFSTAT_THERM3 := by
  match n with
  | 0 | 1 | 2 | 3 => rfl

end

/-- Settles O47, clause by clause. -/
theorem powerEntry : Obligations.PowerEntry := by
  refine ⟨fun s hstate hvalid hsink hramp => congrArg Host.Outcome.next ((State.seated_of_debounce hstate).trans (State.rampOrWait_of_valid hvalid hsink hramp)),
    fun s hstate hvalid => congrArg Host.Outcome.next ((State.seated_of_debounce hstate).trans (State.rampOrWait_of_invalid hvalid)),
    fun s hseat hsound => congrArg Host.Outcome.next (State.removal_of_seated hseat hsound),
    fun f s hen hin hstate => congrArg Host.Outcome.next ((State.feedGood_of_window hen hin).trans (State.feedWaitEnd_of_other ?_)),
    fun f s s1 hen hin hs1 hstate hvalid hlow hsink hramp => congrArg Host.Outcome.next ((State.feedGood_of_window hen hin).trans ?_),
    fun f s hvalid hlow => congrArg Host.Outcome.next ((if_pos hlow).trans (State.feedBad_of_valid hvalid)),
    fun f mv s s1 hvalid hmv hs1 => congrArg Host.Outcome.next ((if_pos hmv).trans ?_),
    fun f mv s hmv => congrArg Host.Outcome.next (if_neg (Nat.not_lt.mpr hmv)),
    fun f s hvalid hsound => congrArg Host.Outcome.next (State.diodeOn_of_valid hvalid hsound),
    fun f s hdiode => congrArg Host.Outcome.next (if_pos hdiode),
    fun mv s hstate hmv => congrArg Host.Outcome.next (State.feedcOver_of_conducting (State.pathConducts_of_code hstate) hmv),
    fun s hstate ha hb hunfed => congrArg Host.Outcome.next (State.noFeed_of_conducting (State.pathConducts_of_code hstate) ha hb hunfed),
    fun s hstate hv => congrArg Host.Outcome.next (State.rampEnd_of_reached hstate hv),
    fun s s1 hstate htime hs1 => congrArg Host.Outcome.next ((State.timerTrip_of_over (State.pathConducts_of_code hstate) htime).trans ?_),
    fun raw s s1 hstate hraw hs1 => congrArg Host.Outcome.next ((State.fastTrip_of_over (State.pathConducts_of_code hstate) hraw).trans ?_),
    fun s hstate hran hvalid hsink hramp => congrArg Host.Outcome.next
      ((State.retryEnd_of_over hstate hran hramp).trans (State.rampOrWait_of_valid hvalid hsink hramp)),
    fun s hstate hran => congrArg Host.Outcome.next (State.retryReset_of_on hstate hran),
    fun w s hkey hoff hon hely hsound => congrArg Host.Outcome.next (State.hswCmdWrite_of_off hkey hoff hon hely hsound),
    fun w s hkey hoff hon hstate => congrArg Host.Outcome.next (State.hswCmdWrite_of_on hkey hoff hon hstate),
    fun w s hbad => ⟨congrArg Host.Outcome.next (State.hswCmdWrite_of_bad hbad), congrArg Host.Outcome.next (State.hswCmdWrite_of_bad hbad)⟩,
    fun s hstate => congrArg Host.Outcome.next (State.clearLatch_of_latched hstate),
    fun s h3 h4 h8 hleak => congrArg Host.Outcome.next (State.passDamaged_of_leak h3 h4 h8 hleak),
    fun p s hsorted hp => State.pathGo_shows hsorted hp,
    fun s hen hsnk hpath hramp hdead hv => congrArg Host.Outcome.next (State.sinkClose_of_permitted hen hsnk hpath hramp hdead hv),
    fun s hsink => ⟨congrArg Host.Outcome.next (if_pos hsink), congrArg Host.Outcome.next (if_pos hsink)⟩,
    fun s hsink => State.rampStart_of_closed hsink,
    fun s hramp hdead => congrArg Host.Outcome.next (State.deadTimeEnd_of_over hramp hdead),
    fun w s s1 hely hs1 hrange => congrArg Host.Outcome.next (State.limitWrite_of_range hely hs1 hrange),
    fun w s h => congrArg Host.Outcome.next (State.limitWrite_of_refused h),
    fun n ma s hon hma => congrArg Host.Outcome.next ((if_pos hma).trans ((State.efuseTrip_of_on hon _).trans (by rw [efuseFlag_limit]))),
    fun n ma s hon hma => congrArg Host.Outcome.next ((if_pos hma).trans ((State.efuseTrip_of_on hon _).trans (by rw [efuseFlag_fast]))),
    fun n s hon => congrArg Host.Outcome.next ((State.efuseTrip_of_on hon _).trans (by rw [efuseFlag_thermal]))⟩
  · rw [State.pathIs_wr_feedBit, State.pathIs_of_code hstate]
    rfl
  · rw [hs1] at hstate hvalid hlow hsink hramp ⊢
    exact State.feedWaitEnd_of_valid hstate hvalid hlow hsink hramp
  · rw [hs1]
    exact State.feedBad_of_valid hvalid
  · rw [hs1]
    rfl
  · rw [hs1]
    rfl

end Sys2Proof.Machine
end

section
/-! PROOFS. The fault collector: status, configuration, escalation, temperature, self-faults and the elytra state (R500 to R512). -/

open Sys2Proof

namespace Sys2Proof.Machine

/-- Elements that change no state may be left out. -/
theorem State.each_filter {α : Type} {f : State → α → State} {p : α → Bool} (hf : ∀ u a, p a = false → f u a = u) (l : List α) :
    ∀ s : State, s.each l f = s.each (l.filter p) f := by
  induction l with
  | nil => exact fun s => rfl
  | cons a l ih =>
    intro s
    cases hp : p a with
    | true => rw [List.filter_cons_of_pos hp, State.each_cons, State.each_cons, ih]
    | false => rw [List.filter_cons_of_neg (by rw [hp]; exact Bool.false_ne_true), State.each_cons, hf s a hp, ih]

/-! Status bits (R504). -/

section
variable {s : State} {j w : Nat}

/-- Only the bits of the word written count. -/
theorem State.statusWrite_eq_each (s : State) (j w : Nat) : s.statusWrite j w =
    s.each ((List.range 32).filter (fun k => w.testBit k)) (fun s b => if w.testBit b && s.fltStatus (32 * j + b) then s.statusClear (32 * j + b) else s) :=
  State.each_filter (fun u a ha => if_neg (by rw [ha]; exact Bool.false_ne_true)) _ s

theorem State.statusWrite_of_one {b : Nat} (hb : (List.range 32).filter (fun k => w.testBit k) = [b]) :
    s.statusWrite j w = if s.fltStatus (32 * j + b) then s.statusClear (32 * j + b) else s := by
  have hbit : w.testBit b = true := (List.mem_filter.mp (hb ▸ List.mem_singleton_self b : b ∈ (List.range 32).filter (fun k => w.testBit k))).2
  rw [State.statusWrite_eq_each, hb, State.each_cons, State.each_nil, hbit, Bool.true_and]

theorem State.statusWrite_zero : s.statusWrite j 0 = s := by
  have hnone : (List.range 32).filter (fun k => Nat.testBit 0 k) = [] := by simp
  rw [State.statusWrite_eq_each, hnone, State.each_nil]

theorem State.statusClear_of_gone {k : Nat} (hcause : s.fltCause k = false) :
    s.statusClear k = { (s.disarm (.escalate k)).putBit FLT_STATUS_BITS (k % 32) false (k / 32) with
      flt := { s.flt with eff := Tab.put s.flt.eff k 0 0 } } := if_neg (by rw [hcause]; exact Bool.false_ne_true)

theorem State.statusClear_of_present {k : Nat} (hcause : s.fltCause k = true) : s.statusClear k = s := if_pos hcause

end

/-! Configuration (R508). -/

theorem State.fltCfgWrite_of_accepted {s s1 : State} {slot w : Nat} (hslot : slotUsed slot = true) (hen : w.testBit 31 = true)
    (hlock : s.on FLT_CTRL_LOCK = false) (hcode : bitsOf w 26 25 ≠ 3) (hfloor : s.rd FLT_CFG_FLOOR slot ≤ bitsOf w 26 25)
    (hforce : w.testBit 29 = false)
    (hs1 : s1 = s.writeFields false [FLT_CFG_IRQ, FLT_CFG_ESCT, FLT_CFG_EN, FLT_CFG_CLASS, FLT_CFG_FORCE] slot 0 w)
    (hforced : s1.fltForced slot = false) (hstatus : s1.fltStatus slot = false) : s.fltCfgWrite slot w = s1 := by
  simp only [State.fltCfgWrite, hslot, hen, hlock, hforce, Bool.not_true, Bool.not_false, Bool.false_and, Bool.true_and, Bool.false_eq_true, if_false,
    decide_eq_false hcode, decide_eq_false (Nat.not_lt.mpr hfloor), Bool.or_self, List.cons_append, List.nil_append, ← hs1, hstatus, hforced]

/-! Escalation (R507). -/

theorem State.escalate_of_due {s s1 s2 : State} {slot cls : Nat} (hslot : slotUsed slot = true) (hstatus : s.fltStatus slot = true)
    (hdue : s.due (.escalate slot) = true) (hcls : cls = s.fltClass slot) (hlow : cls < 2)
    (hs1 : s1 = { s with flt := { s.flt with eff := Tab.put s.flt.eff slot (cls + 1) 0 } })
    (hs2 : s2 = (s1.fltLog slot (cls + 1) (s1.rd FLT_DET_DETAIL slot) false true).sat FLT_CNT_COUNT 3) (hirq : s2.on FLT_CFG_IRQ slot = false) :
    s.escalate slot = if cls = 1 then (s2.disarm (.escalate slot)).enterElytra slot false false else s2.escArm slot := by
  simp only [State.escalate, hslot, hstatus, hdue, ← hcls, Bool.not_true, Bool.or_self, decide_eq_false (Nat.not_le.mpr hlow),
    Bool.false_eq_true, if_false, ← hs1, ← hs2, hirq]
  exact ite_congr (propext (by omega)) (fun _ => rfl) (fun _ => rfl)

/-! The temperature (R503). -/

section
variable {s : State} {code : Nat} (hfuse : s.fuse 0x91 = 0)
include hfuse

theorem State.junction_of_blank : s.junction code = 25 + divZ ((code - 1600) * 90) 900 := by
  simp only [State.junction, hfuse, if_true]
  rfl

/-- Without calibration codes in the fuses the nominal ones give the temperature. -/
theorem State.tempSample_of_blank {t : Int} (ht : t = s.junction code) {s1 s2 s3 : State} (hs1 : s1 = s.wr FLT_TEMP_TEMP (codeOf 16 t))
    (hs2 : s2 = if t > (s1.rd FLT_TEMP_TWARN : Int) then s1.causeOn 5 (codeOf 16 t) else if t < (s1.rd FLT_TEMP_TWARN : Int) - 5 then s1.causeOff 5 else s1)
    (hs3 : s3 = { s2 with flt := { s2.flt with hot := min (if t > 125 then s2.flt.hot + 1 else 0) 10
                                               cool := min (if t > 125 then 0 else s2.flt.cool + 1) 10 } }) :
    s.tempSample code = if (if t > 125 then s2.flt.hot + 1 else 0) ≥ 10 then s3.causeOn 4 (codeOf 16 t)
      else if (if t > 125 then 0 else s2.flt.cool + 1) ≥ 10 then s3.causeOff 4 else s3 := by
  have hzero : decide (s.fuse 0x91 ≠ 0) = false := decide_eq_false (not_not_intro hfuse)
  simp only [State.tempSample, hzero, Bool.false_and, Bool.false_eq_true, if_false, ← ht, ← hs1, ← hs2, ← hs3]

/-- A cool sample near the warning limit is shown and counted. -/
theorem State.tempSample_of_cool {t : Int} (ht : t = s.junction code) (hcool : t ≤ 125) (hhigh : t ≤ s.rd FLT_TEMP_TWARN)
    (hlow : (s.rd FLT_TEMP_TWARN : Int) - 5 ≤ t) (hcount : s.flt.cool < 9) :
    s.tempSample code = { s.wr FLT_TEMP_TEMP (codeOf 16 t) with flt := { s.flt with hot := 0, cool := s.flt.cool + 1 } } := by
  obtain ⟨s1, hs1⟩ : ∃ s1, s1 = s.wr FLT_TEMP_TEMP (codeOf 16 t) := ⟨_, rfl⟩
  have hwarn : s1.rd FLT_TEMP_TWARN = s.rd FLT_TEMP_TWARN := by rw [hs1]; exact State.rd_wr_ne (by decide) _
  have hflt : s1.flt = s.flt := by rw [hs1]; rfl
  have hs2 : s1 = if t > (s1.rd FLT_TEMP_TWARN : Int) then s1.causeOn 5 (codeOf 16 t)
      else if t < (s1.rd FLT_TEMP_TWARN : Int) - 5 then s1.causeOff 5 else s1 := by
    rw [hwarn, if_neg (by omega), if_neg (by omega)]
  rw [State.tempSample_of_blank hfuse ht hs1 hs2 rfl, hflt, if_neg (Int.not_lt.mpr hcool), if_neg (Int.not_lt.mpr hcool), if_neg (by omega), if_neg (by omega), ← hs1,
    Nat.min_eq_left (by omega), Nat.min_eq_left (by omega)]

/-- The tenth hot sample in a row. -/
theorem State.tempSample_of_hot {t : Int} (ht : t = s.junction code) (hhot : t > 125) (hhigh : t > (s.rd FLT_TEMP_TWARN : Int)) {s1 : State}
    (hcount : s.flt.hot ≥ 9) (hs1 : s1 = (s.wr FLT_TEMP_TEMP (codeOf 16 t)).causeOn 5 (codeOf 16 t)) (hkeep : s1.flt.hot = s.flt.hot) :
    s.tempSample code = ({ s1 with flt := { s1.flt with hot := 10, cool := 0 } } : State).causeOn 4 (codeOf 16 t) := by
  have hwarn : (s.wr FLT_TEMP_TEMP (codeOf 16 t)).rd FLT_TEMP_TWARN = s.rd FLT_TEMP_TWARN := State.rd_wr_ne (by decide) _
  have hs2 : s1 = if t > ((s.wr FLT_TEMP_TEMP (codeOf 16 t)).rd FLT_TEMP_TWARN : Int) then (s.wr FLT_TEMP_TEMP (codeOf 16 t)).causeOn 5 (codeOf 16 t)
      else if t < ((s.wr FLT_TEMP_TEMP (codeOf 16 t)).rd FLT_TEMP_TWARN : Int) - 5 then (s.wr FLT_TEMP_TEMP (codeOf 16 t)).causeOff 5
      else s.wr FLT_TEMP_TEMP (codeOf 16 t) := by
    rw [hwarn, if_pos hhigh, hs1]
  rw [State.tempSample_of_blank hfuse ht rfl hs2 rfl, hkeep, if_pos hhot, if_pos hhot, if_pos (by omega), Nat.min_eq_right (by omega),
    Nat.min_eq_left (by omega)]

end

/-! Occurrences, the elytra state and self-faults (R500, R509, R510, R512). -/

section
variable {s : State}

theorem State.collectorOff_of_low (hpwr : s.rd PWR_STAT_STATE < 3) : s.collectorOff = false := decide_eq_false (Nat.not_le.mpr hpwr)

theorem State.enterElytra_of_outside (hpwr : s.rd PWR_STAT_STATE < 3) (hely : s.on FLT_STAT_ELYTRA = false) (slot : Nat) (sw self : Bool) :
    s.enterElytra slot sw self = ({ ((((s.wr FLT_STAT_ELYTRA 1).wr FLT_STAT_ESLOT slot).wr FLT_STAT_SWENTER (bit sw)).wr FLT_STAT_SELF (bit self)) with
      flt := { s.flt with faultN := true } } : State).haltBlocks := by
  rw [State.enterElytra, if_neg (by rw [State.collectorOff_of_low hpwr]; exact Bool.false_ne_true), if_neg (by rw [hely]; exact Bool.false_ne_true)]
  rfl

/-- A self-fault outside the elytra state enters it and leaves the log entry in hand and every status bit open. -/
theorem State.selfFault_of_outside {slot e : Nat} {s1 s2 s3 s4 : State} (hpwr : s.rd PWR_STAT_STATE < 3) (hely : s.on FLT_STAT_ELYTRA = false)
    (he : e = s.rd FLT_LOGWR_WR % 64)
    (hs1 : s1 = ({ ((((s.wr FLT_STAT_ELYTRA 1).wr FLT_STAT_ESLOT slot).wr FLT_STAT_SWENTER 0).wr FLT_STAT_SELF 1) with
      flt := { s.flt with faultN := true } } : State).haltBlocks)
    (hs2 : s2 = ((((s1.wrFree FLT_LOG0_SLOT e).wrFree FLT_LOG0_CLASS e).wrFree FLT_LOG0_FORCED e).wrFree FLT_LOG0_ESC e).wrFree FLT_LOG0_DETAIL e)
    (hs3 : s3 = ((((s2.wrFree FLT_LOG1_NS e).wrFree FLT_LOG2_SEC_LO e).wrFree FLT_LOG3_SEC_HI e).wrFree FLT_LOG3_UNTRACED e).wrFree FLT_LOGWR_WR)
    (hs4 : s4 = s3.each (List.range 177) (fun s k =>
      if slotUsed k then (s.free 1).2.putBit FLT_STATUS_BITS (k % 32) ((s.free 1).1 == 1) (k / 32) else s)) :
    s.selfFault slot = { s4 with flt := { s4.flt with cause := Tab.put s4.flt.cause slot true false } } := by
  have hs1' : s1 = s.enterElytra slot false true := hs1.trans (State.enterElytra_of_outside hpwr hely slot false true).symm
  rw [State.selfFault, if_neg (by rw [State.collectorOff_of_low hpwr]; exact Bool.false_ne_true)]
  simp only [← he, ← hs1', ← hs2, ← hs3, ← hs4]

/-- A first occurrence of an enabled fault below FATAL that asks for no interrupt. -/
theorem State.occur_of_first {slot detail cls : Nat} {forced : Bool} {s2 s3 : State} (hslot : slotUsed slot = true) (hpwr : s.rd PWR_STAT_STATE < 3)
    (hstatus : s.fltStatus slot = false) (hen : s.on FLT_CFG_EN slot = true) (hirq : s.on FLT_CFG_IRQ slot = false)
    (hcls : cls = max (s.fltClass slot) (s.rd FLT_CFG_CLASS slot)) (hlow : cls ≠ 2)
    (hs2 : s2 = { s.putBit FLT_STATUS_BITS (slot % 32) true (slot / 32) with flt := { s.flt with eff := Tab.put s.flt.eff slot cls 0 } })
    (hs3 : s3 = (s2.wr FLT_DET_DETAIL detail slot).sat FLT_DET_COUNT slot) :
    s.occur slot detail forced = (((s3.fltLog slot cls detail forced false).sat FLT_CNT_COUNT cls).fltFirst slot cls).escArm slot := by
  have hs2' : s2 = { s.putBit FLT_STATUS_BITS (slot % 32) true (slot / 32) with
      flt := { (s.putBit FLT_STATUS_BITS (slot % 32) true (slot / 32)).flt with
        eff := Tab.put (s.putBit FLT_STATUS_BITS (slot % 32) true (slot / 32)).flt.eff slot cls 0 } } := hs2
  simp only [State.occur, hslot, hen, State.collectorOff_of_low hpwr, Bool.not_true, Bool.or_self, Bool.false_eq_true, if_false, ← hcls, ← hs2', ← hs3,
    hstatus, hirq, Bool.and_false, hlow, decide_false]

section
variable {w : Nat} (hkey : bitsOf w 15 0 = 0x5A5A)
include hkey

theorem State.fltCmdWrite_of_enter (hexit : w.testBit 31 = false) (henter : w.testBit 30 = true) : s.fltCmdWrite w = s.enterElytra 0xFF true false := by
  simp [State.fltCmdWrite, cmdKey, hkey, hexit, henter]

variable (hexit : w.testBit 31 = true) (henter : w.testBit 30 = false) (hely : s.on FLT_STAT_ELYTRA = true)
include hexit henter hely

theorem State.fltCmdWrite_of_exit (hself : s.on FLT_STAT_SELF = false) (hfatal : s.noFatal = true) :
    s.fltCmdWrite w = ({ s.wr FLT_STAT_ELYTRA 0 with flt := { s.flt with faultN := false } } : State).resumeBlocks := by
  simp [State.fltCmdWrite, cmdKey, hkey, hexit, henter, hely, hself, hfatal, State.leaveElytra]

theorem State.fltCmdWrite_of_selfFault (hself : s.on FLT_STAT_SELF = true) : s.fltCmdWrite w = s.wr FLT_STAT_EXITREJ 1 := by
  simp [State.fltCmdWrite, cmdKey, hkey, hexit, henter, hely, hself]

end

end

/-- Settles O51, clause by clause. -/
theorem faultCollector : Obligations.FaultCollector := by
  refine ⟨fun j w hw b s hb hstatus hcause => congrArg Host.Outcome.next ((State.statusWrite_of_one hb).trans ((if_pos hstatus).trans
      (State.statusClear_of_gone hcause))),
    fun j w hw b s hb hcause => congrArg Host.Outcome.next ((State.statusWrite_of_one hb).trans ?_),
    fun j w hw s hnone => congrArg Host.Outcome.next ((congrArg (fun v : Word => s.statusWrite j v.toNat) hnone).trans State.statusWrite_zero),
    fun slot w s s1 hslot hen hlock hcode hfloor hforce hs1 hforced hstatus =>
      congrArg Host.Outcome.next (State.fltCfgWrite_of_accepted hslot hen hlock hcode hfloor hforce hs1 hforced hstatus),
    fun slot w s hslot => congrArg Host.Outcome.next (if_pos (by rw [hslot]; rfl)),
    fun slot cls s s1 s2 hslot hstatus hdue hcls hlow hs1 hs2 hirq =>
      congrArg Host.Outcome.next (State.escalate_of_due hslot hstatus hdue hcls hlow hs1 hs2 hirq),
    fun code t s hfuse ht hcool hhigh hlow hcount => congrArg Host.Outcome.next
      (State.tempSample_of_cool hfuse (ht.trans (State.junction_of_blank hfuse).symm) hcool hhigh hlow hcount),
    fun code s s1 hfuse hhot hhigh hcount hs1 hkeep => congrArg Host.Outcome.next
      (State.tempSample_of_hot hfuse (State.junction_of_blank hfuse).symm hhot hhigh hcount hs1 hkeep),
    fun s => ⟨rfl, rfl⟩,
    fun e s s1 s2 s3 s4 hpwr hely he hs1 hs2 hs3 hs4 => congrArg Host.Outcome.next (State.selfFault_of_outside hpwr hely he hs1 hs2 hs3 hs4),
    fun s => rfl, fun a s => rfl,
    fun slot detail cls forced s s2 s3 hslot hpwr hstatus hen hirq hcls hlow hs2 hs3 =>
      State.occur_of_first hslot hpwr hstatus hen hirq hcls hlow hs2 hs3,
    fun a cls s s2 s3 hpwr hstatus hen hirq hcls hlow hs2 hs3 => congrArg Host.Outcome.next
      (State.occur_of_first (slot := 3) (by decide) hpwr hstatus hen hirq hcls hlow hs2 hs3),
    fun w s hkey hexit henter => congrArg Host.Outcome.next (State.fltCmdWrite_of_enter hkey hexit henter),
    fun w s hkey hexit henter hely hpwr => congrArg Host.Outcome.next ((State.fltCmdWrite_of_enter hkey hexit henter).trans
      (State.enterElytra_of_outside hpwr hely 0xFF true false)),
    fun w s hkey hexit henter hely hself hfatal => congrArg Host.Outcome.next (State.fltCmdWrite_of_exit hkey hexit henter hely hself hfatal),
    fun w s hkey hexit henter hely hself => congrArg Host.Outcome.next (State.fltCmdWrite_of_selfFault hkey hexit henter hely hself)⟩
  rw [State.statusClear_of_present hcause, ite_self]

end Sys2Proof.Machine
end

section
/-! PROOFS. What a fault leaves of registers that none of its halts writes (R209, R247, R250, R292, R319, R366, R385, R397, R500, R509, R511). -/

open Sys2Proof

namespace Sys2Proof.Machine

/-- No word of `F`'s array holds field `G`, of at most 128 words, at the same bit: they start at different bits, `F` lies behind `G`, or `F` is a single word before it. -/
def Field.spares (F G : Field) : Bool :=
  F.otherBit G || (G.lo < 32 && G.str2 == 0 && G.off + G.str * 127 + 4 ≤ F.off) ||
    (F.lo < 32 && F.str == 0 && F.str2 == 0 && F.off + 4 ≤ G.off)

/-- The first four words of `F`'s array lie before `G`, or `F` spares `G`. -/
def Field.sparesAsPort (F G : Field) : Bool := F.spares G || (F.lo < 32 && F.str == 4 && F.str2 == 0 && F.off + 16 ≤ G.off)

theorem Field.key_ne_of_spares_fault {F G : Field} (h : F.spares G = true) (i j : Nat) {k : Nat} (hk : k < 128) : F.key i j ≠ G.key k 0 := by
  simp only [Field.spares, Bool.or_eq_true, Bool.and_eq_true, decide_eq_true_eq, beq_iff_eq] at h
  rcases h with (hbit | ⟨⟨hlo, hstr2⟩, hbehind⟩) | ⟨⟨⟨hlo, hstr⟩, hstr2⟩, hbefore⟩
  · exact Field.key_ne_of_otherBit hbit i j k 0
  · have hword : G.str * k ≤ G.str * 127 := Nat.mul_le_mul_left _ (by omega)
    simp only [Field.key, Field.addr, hstr2]
    omega
  · simp only [Field.key, Field.addr, hstr, hstr2]
    omega

theorem Field.key_ne_of_sparesAsPort {F G : Field} (h : F.sparesAsPort G = true) {i : Nat} (hi : i < 4) {k : Nat} (hk : k < 128) :
    F.key i 0 ≠ G.key k 0 := by
  rw [Field.sparesAsPort, Bool.or_eq_true] at h
  rcases h with h | h
  · exact Field.key_ne_of_spares_fault h i 0 hk
  · simp only [Bool.and_eq_true, decide_eq_true_eq, beq_iff_eq] at h
    obtain ⟨⟨⟨hlo, hstr⟩, hstr2⟩, hbefore⟩ := h
    simp only [Field.key, Field.addr, hstr, hstr2]
    omega

/-- The fields that an occurrence of a fault and the halts it brings write, but for those of the USB ports. -/
def faultFields : List Field := irqFields ++
  [XSW_IOCC_CELLS, XSW_QOCC_CELLS, XSW_POOL_CELLS, XSW_CNT_COUNT, XSW_STAT_HALTED, CTX6_INFLIGHT, RNG_RSTAT_OUTST, RNG_RIDX_CI, RNG_MIRQ_BITS,
    DMC_CTRL_EN, DMC_STAT_STATE, DMC_DONE_BYTES, DMC_FADDR_LO_ADDR, DMC_FADDR_HI_ADDR, DMS_SHCTRL_VALID, DMC_FINFO_DIR, DMC_FINFO_SIDE, DMC_FINFO_SPACE,
    DMC_FINFO_CAUSE, LY_STAT_PEND, LY_STAT_TPEND, HD_COMMIT_BGPEND, PWR_STAT_BUSY, PWR_STAT_CODE, PWR_STAT_REFEV, ENG_MBX_BUSY, ENG_MBX_DONE,
    ENG_MBX_CODE, ENG_STAT_STATE, TEN_SVC0_STATE, FLT_STAT_ELYTRA, FLT_STAT_ESLOT, FLT_STAT_SWENTER, FLT_STAT_SELF, FLT_LOG0_SLOT, FLT_LOG0_CLASS,
    FLT_LOG0_FORCED, FLT_LOG0_ESC, FLT_LOG0_DETAIL, FLT_LOG1_NS, FLT_LOG2_SEC_LO, FLT_LOG3_SEC_HI, FLT_LOG3_UNTRACED, FLT_LOGWR_WR, FLT_FIRST_VALID,
    FLT_FIRST_SLOT, FLT_FIRST_CLASS, FLT_FIRST_SECLO_SEC_LO, FLT_FIRST_NS_NS, FLT_STATUS_BITS, FLT_DET_DETAIL, FLT_DET_COUNT, FLT_CNT_COUNT,
    HSW_EFSTAT_ON0, HSW_EFSTAT_ON1, HSW_EFSTAT_ON2, HSW_EFSTAT_ON3]

/-- The fields of ports 1 to 4 that their power-off writes. -/
def faultPortFields : List Field := [USB_PORT_CONN, USB_PORT_ENA, USB_PORT_SUSP, USB_PORT_SPEED, USB_PORT_PWR, USB_PORT_OC]

/-- None of the fields `gs` is written by a fault. -/
def sparedByFaults (gs : List Field) : Bool :=
  faultFields.all (fun F => gs.all F.spares) && faultPortFields.all (fun F => gs.all F.sparesAsPort)

/-- From `o` to `s` the fields `gs` keep their values, the register table stays sorted, and the USB-C port's and the PCIe block's own states stay. -/
structure FaultKept (gs : List Field) (o s : State) : Prop where
  spared : sparedByFaults gs = true
  sorted : Tab.sorted o.regs = true → Tab.sorted s.regs = true
  fields : ∀ G ∈ gs, ∀ i < 128, s.rd G i = o.rd G i
  upd : s.upd = o.upd
  pcx : s.pcx = o.pcx

namespace FaultKept

variable {gs : List Field} {o s : State}

theorem refl (hgs : sparedByFaults gs = true) (s : State) : FaultKept gs s s := ⟨hgs, id, fun _ _ _ _ => rfl, rfl, rfl⟩

theorem trans {u : State} (h : FaultKept gs o s) (hu : FaultKept gs s u) : FaultKept gs o u :=
  ⟨h.spared, fun ho => hu.sorted (h.sorted ho), fun G hG i hi => (hu.fields G hG i hi).trans (h.fields G hG i hi), hu.upd.trans h.upd,
    hu.pcx.trans h.pcx⟩

/-- A change of neither the registers nor the two states keeps them. -/
theorem same (h : FaultKept gs o s) {t : State} (hregs : t.regs = s.regs) (hupd : t.upd = s.upd) (hpcx : t.pcx = s.pcx) : FaultKept gs o t := by
  obtain ⟨hgs, hsorted, hfields, hu, hp⟩ := h
  exact ⟨hgs, fun ho => hregs ▸ hsorted ho, fun G hG i hi => (State.rd_of_regs hregs G i 0).trans (hfields G hG i hi), hupd.trans hu, hpcx.trans hp⟩

theorem wrOther (h : FaultKept gs o s) {F : Field} {i j : Nat} (hF : ∀ G ∈ gs, ∀ k < 128, F.key i j ≠ G.key k 0) (v : Nat) :
    FaultKept gs o (s.wr F v i j) := by
  obtain ⟨hgs, hsorted, hfields, hu, hp⟩ := h
  exact ⟨hgs, fun ho => State.sorted_wr (hsorted ho) F v i j, fun G hG k hk => (State.rd_wr_ne (hF G hG k hk) v).trans (hfields G hG k hk), hu, hp⟩

theorem wr (h : FaultKept gs o s) {F : Field} (hF : F ∈ faultFields) (v i j : Nat) : FaultKept gs o (s.wr F v i j) := by
  obtain ⟨hall, -⟩ := (Bool.and_eq_true ..).mp h.spared
  exact h.wrOther (fun G hG k hk => Field.key_ne_of_spares_fault (List.all_eq_true.mp (List.all_eq_true.mp hall F hF) G hG) i j hk) v

theorem wrPort (h : FaultKept gs o s) {F : Field} (hF : F ∈ faultPortFields) (v : Nat) {i : Nat} (hi : i < 4) : FaultKept gs o (s.wr F v i) := by
  obtain ⟨-, hall⟩ := (Bool.and_eq_true ..).mp h.spared
  exact h.wrOther (fun G hG k hk => Field.key_ne_of_sparesAsPort (List.all_eq_true.mp (List.all_eq_true.mp hall F hF) G hG) hi hk) v

theorem sat (h : FaultKept gs o s) {F : Field} (hF : F ∈ faultFields) (i j : Nat) : FaultKept gs o (s.sat F i j) := h.wr hF _ i j

theorem wrap (h : FaultKept gs o s) {F : Field} (hF : F ∈ faultFields) (i j : Nat) : FaultKept gs o (s.wrap F i j) := h.wr hF _ i j

theorem putBit (h : FaultKept gs o s) {F : Field} (hF : F ∈ faultFields) (b : Nat) (x : Bool) (i j : Nat) : FaultKept gs o (s.putBit F b x i j) :=
  h.wr hF _ i j

theorem wrFree (h : FaultKept gs o s) {F : Field} (hF : F ∈ faultFields) (i : Nat) : FaultKept gs o (s.wrFree F i) :=
  (h.same (t := (s.free F.width).2) rfl rfl rfl).wr hF _ i 0

theorem each {α : Type} {f : State → α → State} {l : List α} (hf : ∀ u, ∀ a ∈ l, FaultKept gs o u → FaultKept gs o (f u a))
    (h : FaultKept gs o s) : FaultKept gs o (s.each l f) := State.each_keeps hf h

theorem ite {c : Prop} [Decidable c] {t : State} (ht : c → FaultKept gs o t) (hs : ¬ c → FaultKept gs o s) :
    FaultKept gs o (if c then t else s) := by
  split
  · exact ht ‹_›
  · exact hs ‹_›

theorem irqFields_mem : ∀ F ∈ irqFields, F ∈ faultFields := fun _ hF => List.mem_append_left _ hF

theorem irqKeeps (gs : List Field) (o : State) : IrqKeeps (FaultKept gs o) where
  wr _ _ _ _ hF h := h.wr (irqFields_mem _ hF) _ _ _
  rng _ _ h := h.same rfl rfl rfl
  host _ _ h := h.same rfl rfl rfl
  sram _ _ h := h.same rfl rfl rfl
  holdoff _ _ _ h := h.same rfl rfl rfl

theorem irq (h : FaultKept gs o s) (src index data : Nat) : FaultKept gs o (s.irq src index data) :=
  State.irq_invariant (irqKeeps gs o) h src index data

/-! The switch flushes its queues (R209). -/

theorem dropPkt (h : FaultKept gs o s) (k : Nat) : FaultKept gs o (s.dropPkt k) := by
  have hcells : ∀ v a pkts, FaultKept gs o (({ s with xsw := { s.xsw with pkts := pkts } } : State).wr XSW_IOCC_CELLS v a) :=
    fun v a pkts => (h.same (t := { s with xsw := { s.xsw with pkts := pkts } }) rfl rfl rfl).wr (by decide) v a 0
  unfold State.dropPkt
  refine ite (fun _ => h) (fun _ => ite (fun _ => ite (fun _ => ?_) (fun _ => ?_)) (fun _ => h.same rfl rfl rfl))
  · exact hcells _ _ _
  · exact ((hcells _ _ _).wr (F := CTX6_INFLIGHT) (by decide) _ _ 0).same rfl rfl rfl

theorem releaseCopy (h : FaultKept gs o s) (c : Copy) : FaultKept gs o (s.releaseCopy c) := by
  have hcells : ∀ v q w, FaultKept gs o ((s.wr XSW_QOCC_CELLS v q).wr XSW_POOL_CELLS w) :=
    fun v q w => (h.wr (F := XSW_QOCC_CELLS) (by decide) v q 0).wr (by decide) w 0 0
  unfold State.releaseCopy
  split
  · exact hcells _ _ _
  · exact (hcells _ _ _).dropPkt _

theorem flushQueue (h : FaultKept gs o s) (keep : Copy → Bool) (i q : Nat) : FaultKept gs o (s.flushQueue keep i q) :=
  each (fun _ c _ hu => (hu.releaseCopy c).sat (F := XSW_CNT_COUNT) (by decide) i 0) (h.same rfl rfl rfl)

theorem haltFlush (h : FaultKept gs o s) : FaultKept gs o s.haltFlush :=
  each (fun _ q _ hu => hu.flushQueue _ 4 q) (h.wr (F := XSW_STAT_HALTED) (by decide) 1 0 0)

/-! The bridge and the DMA channels stop (R385, R394, R397). -/

theorem brgHalt (h : FaultKept gs o s) : FaultKept gs o s.brgHalt := by
  unfold State.brgHalt
  extract_lets s1
  have hs1 : FaultKept gs o s1 := each (fun _ e _ hu => each (fun u r _ hu => hu.same rfl rfl rfl) hu) h
  clear_value s1
  exact hs1.same rfl rfl rfl

theorem setFetched (h : FaultKept gs o s) (r : Nat) (l : List Desc) : FaultKept gs o (s.setFetched r l) :=
  (h.wr (F := RNG_RSTAT_OUTST) (by decide) _ r 0).same rfl rfl rfl

theorem ringEvent (h : FaultKept gs o s) (r source data : Nat) : FaultKept gs o (s.ringEvent r source data) := by
  unfold State.ringEvent
  split
  · exact h.putBit (by decide) _ _ _ _
  · exact State.postEvent_invariant (irqKeeps gs o) h _ _ _ _

theorem writeBack (h : FaultKept gs o s) (r : Nat) (d : Desc) (wb : List Byte) (status : Nat) : FaultKept gs o (s.writeBack r d wb status) := by
  have hside : ∀ {u : State} mgmt a bs, FaultKept gs o u → FaultKept gs o (u.writeSide mgmt a bs) :=
    fun mgmt a bs hu => State.writeSide_invariant (irqKeeps gs o) hu mgmt a bs
  have hmoved : ∀ {u : State}, FaultKept gs o u → FaultKept gs o (u.advanceCi r) :=
    fun hu => (hu.wr (F := RNG_RIDX_CI) (by decide) _ r 0).setFetched r _
  have hdone := fun a bs a' bs' l => hmoved ((hside (s.ringMgmt r) a' bs' (hside (s.ringMgmt r) a bs h)).setFetched r l)
  unfold State.writeBack
  extract_lets irq a s1 s2 s3
  split
  · exact (hdone _ _ _ _ _).ringEvent _ _ _
  · exact hdone _ _ _ _ _

theorem ringDone (h : FaultKept gs o s) (r idx : Nat) (wb : List Byte) (status : Nat) : FaultKept gs o (s.ringDone r idx wb status false) := by
  unfold State.ringDone
  split
  · exact h
  · split
    · exact h.same rfl rfl rfl
    · exact h.writeBack _ _ _ _

theorem dmaAbort (h : FaultKept gs o s) : ∀ x, FaultKept gs o (s.dmaAbort x)
  | none => h
  | some (r, idx) => by
    simp only [State.dmaAbort]
    split
    · exact h
    · exact h.ringDone _ _ _ _

theorem dmaDisable (h : FaultKept gs o s) (c : Nat) : FaultKept gs o (s.dmaDisable c) := by
  have hopen : FaultKept gs o ((s.dmaAbort (Tab.get s.dma.cur c none)).dmaAbort (Tab.get s.dma.next c none)) := (h.dmaAbort _).dmaAbort _
  have hstop := (hopen.wr (F := DMC_CTRL_EN) (by decide) 0 c 0).wr (F := DMC_STAT_STATE) (by decide) dmaOff c 0
  have haddr := ((hstop.wrFree (F := DMC_DONE_BYTES) (by decide) c).wrFree (F := DMC_FADDR_LO_ADDR) (by decide) c).wrFree
    (F := DMC_FADDR_HI_ADDR) (by decide) c
  have hinfo := ((((haddr.wr (F := DMS_SHCTRL_VALID) (by decide) 0 c 0).wrFree (F := DMC_FINFO_DIR) (by decide) c).wrFree
    (F := DMC_FINFO_SIDE) (by decide) c).wrFree (F := DMC_FINFO_SPACE) (by decide) c).wrFree (F := DMC_FINFO_CAUSE) (by decide) c
  exact ite (fun _ => h) (fun _ => hinfo.same rfl rfl rfl)

theorem dmaHalt (h : FaultKept gs o s) : FaultKept gs o s.dmaHalt := each (fun _ c _ hu => hu.dmaDisable c) h

/-! The displays, the USB ports and the handshake of a power state (R292, R319, R490, R491). -/

theorem discardCommits (h : FaultKept gs o s) : FaultKept gs o s.discardCommits :=
  each (fun _ x _ hu => (each (fun _ l _ hu => (hu.wr (F := LY_STAT_PEND) (by decide) 0 x l).wr (F := LY_STAT_TPEND) (by decide) 0 x l) hu).wr
    (F := HD_COMMIT_BGPEND) (by decide) 0 x 0) (h.same rfl rfl rfl)

theorem efuse (h : FaultKept gs o s) (n : Nat) (on : Bool) : FaultKept gs o (s.efuse n on) := by
  have hfield : State.efuseOn n ∈ faultFields := by
    unfold State.efuseOn
    split <;> decide
  exact ite (fun _ => ite (fun _ => h) (fun _ => h.wr hfield 1 0 0)) (fun _ => (h.wr hfield 0 0 0).same rfl rfl rfl)

theorem portEmpty (h : FaultKept gs o s) {n : Nat} (hn : n - 1 < 4) : FaultKept gs o (s.portEmpty n) :=
  ((((h.wrPort (F := USB_PORT_CONN) (by decide) 0 hn).wrPort (F := USB_PORT_ENA) (by decide) 0 hn).wrPort (F := USB_PORT_SUSP) (by decide) 0 hn).wrPort
    (F := USB_PORT_SPEED) (by decide) 3 hn).same rfl rfl rfl

theorem portOff (h : FaultKept gs o s) {n : Nat} (hn : n - 1 < 4) : FaultKept gs o (s.portOff n) :=
  ((((h.portEmpty hn).efuse n false).wrPort (F := USB_PORT_PWR) (by decide) 0 hn).wrPort (F := USB_PORT_OC) (by decide) 0 hn).same rfl rfl rfl

theorem port_sub_one_lt {n : Nat} (hn : n ∈ [1, 2, 3, 4]) : n - 1 < 4 := by
  simp only [List.mem_cons, List.not_mem_nil, or_false] at hn
  omega

theorem farPortsOff (h : FaultKept gs o s) : FaultKept gs o s.farPortsOff :=
  each (fun _ _ hn hu => ite (fun _ => hu.portOff (port_sub_one_lt hn)) (fun _ => hu)) h

theorem askAbort (h : FaultKept gs o s) (c : State.PwrCode) : FaultKept gs o (s.askAbort c) :=
  ite (fun _ => h) (fun _ => (((h.wr (F := PWR_STAT_BUSY) (by decide) 0 0 0).wr (F := PWR_STAT_CODE) (by decide) c.code 0 0).wr
    (F := PWR_STAT_REFEV) (by decide) 1 0 0).same rfl rfl rfl)

/-! The engines (R247, R250). -/

theorem mbxEnd (h : FaultKept gs o s) (k m : Nat) (c : MbxCode) : FaultKept gs o (s.mbxEnd k m c) := by
  have hstill : FaultKept gs o (s.disarm (.mailbox k m)) := h.same rfl rfl rfl
  have hended := ((hstill.wr (F := ENG_MBX_BUSY) (by decide) 0 k m).wr (F := ENG_MBX_DONE) (by decide) 1 k m).wr (F := ENG_MBX_CODE) (by decide)
    c.code k m
  exact ite (fun _ => hended.irq _ _ _) (fun _ => hended)

theorem mbxHalt (h : FaultKept gs o s) (k : Nat) : FaultKept gs o (s.mbxHalt k) :=
  each (fun _ m _ hu => ite (fun _ => hu.mbxEnd k m _) (fun _ => hu)) h

theorem moveEntries (h : FaultKept gs o s) (k : Nat) (fr : List Nat) (goal : Nat) : FaultKept gs o (s.moveEntries k fr goal) :=
  each (fun _ e _ hu => ite (fun _ => hu.wr (F := TEN_SVC0_STATE) (by decide) goal e 0) (fun _ => hu)) h

theorem loseServices (h : FaultKept gs o s) (k : Nat) : FaultKept gs o (s.loseServices k) := by
  have hdead : ∀ {u : State} e, FaultKept gs o u → FaultKept gs o (u.deadPort e) :=
    fun e hu => ite (fun _ => hu) (fun _ => hu.same rfl rfl rfl)
  refine each (fun u e _ hu => ?_) h
  have hlost : FaultKept gs o ((u.memLose e).loseEdges e) := hu.same rfl rfl rfl
  exact (hdead e hlost).same rfl rfl rfl

theorem loseEngine (h : FaultKept gs o s) (k : Nat) : FaultKept gs o (s.loseEngine k) := by
  refine loseServices ?_ k
  exact h.same rfl rfl rfl

theorem stopEngine (h : FaultKept gs o s) (k st : Nat) : FaultKept gs o (s.stopEngine k st) := by
  have hstill : FaultKept gs o ((s.disarm (.engineStart k)).disarm (.engineHalt k)) := h.same rfl rfl rfl
  have hmbx := (hstill.wr (F := ENG_STAT_STATE) (by decide) st k 0).mbxHalt k
  unfold State.stopEngine
  extract_lets s1 ten s2
  have hs2 : FaultKept gs o s2 := same (s := s1) hmbx rfl rfl rfl
  exact (hs2.moveEntries k _ svcHalted).loseEngine k

theorem haltEngines (h : FaultKept gs o s) : FaultKept gs o s.haltEngines := by
  refine each (fun u k _ hu => ite (fun _ => ?_) (fun _ => hu)) h
  have hstop := hu.stopEngine k engHalted
  generalize u.stopEngine k engHalted = x at hstop ⊢
  exact hstop.same rfl rfl rfl

/-! The fault collector (R500, R507, R509, R511). -/

theorem haltBlocks (h : FaultKept gs o s) : FaultKept gs o s.haltBlocks :=
  (h.haltFlush.brgHalt.haltEngines.discardCommits.dmaHalt.farPortsOff).askAbort _

theorem enterElytra (h : FaultKept gs o s) (eslot : Nat) (sw self : Bool) : FaultKept gs o (s.enterElytra eslot sw self) := by
  have hself : FaultKept gs o (s.when self (fun s => s.wr FLT_STAT_SELF 1)) := ite (fun _ => h.wr (F := FLT_STAT_SELF) (by decide) 1 0 0) (fun _ => h)
  have hentered := (((h.wr (F := FLT_STAT_ELYTRA) (by decide) 1 0 0).wr (F := FLT_STAT_ESLOT) (by decide) eslot 0 0).wr
    (F := FLT_STAT_SWENTER) (by decide) (bit sw) 0 0).wr (F := FLT_STAT_SELF) (by decide) (bit self) 0 0
  exact ite (fun _ => h) (fun _ => ite (fun _ => hself) (fun _ => haltBlocks (hentered.same rfl rfl rfl)))

theorem fltLog (h : FaultKept gs o s) (slot cls detail : Nat) (forced esc : Bool) : FaultKept gs o (s.fltLog slot cls detail forced esc) := by
  have hword0 := fun e => ((((h.wr (F := FLT_LOG0_SLOT) (by decide) slot e 0).wr (F := FLT_LOG0_CLASS) (by decide) cls e 0).wr
    (F := FLT_LOG0_FORCED) (by decide) (bit forced) e 0).wr (F := FLT_LOG0_ESC) (by decide) (bit esc) e 0).wr (F := FLT_LOG0_DETAIL) (by decide) detail e 0
  have htime := fun e => (((hword0 e).wr (F := FLT_LOG1_NS) (by decide) s.tmu.tod.ns e 0).wr (F := FLT_LOG2_SEC_LO) (by decide) s.tmu.tod.sec e 0).wr
    (F := FLT_LOG3_SEC_HI) (by decide) (s.tmu.tod.sec / 2 ^ 32) e 0
  exact ((htime _).wr (F := FLT_LOG3_UNTRACED) (by decide) _ _ 0).wrap (F := FLT_LOGWR_WR) (by decide) 0 0

theorem fltFirst (h : FaultKept gs o s) (slot cls : Nat) : FaultKept gs o (s.fltFirst slot cls) :=
  ite (fun _ => h) (fun _ => ((((h.wr (F := FLT_FIRST_VALID) (by decide) 1 0 0).wr (F := FLT_FIRST_SLOT) (by decide) slot 0 0).wr
    (F := FLT_FIRST_CLASS) (by decide) cls 0 0).wr (F := FLT_FIRST_SECLO_SEC_LO) (by decide) s.tmu.tod.sec 0 0).wr
    (F := FLT_FIRST_NS_NS) (by decide) s.tmu.tod.ns 0 0)

theorem escArm (h : FaultKept gs o s) (slot : Nat) : FaultKept gs o (s.escArm slot) :=
  ite (fun _ => h.same rfl rfl rfl) (fun _ => h.same rfl rfl rfl)

theorem occur (h : FaultKept gs o s) (slot detail : Nat) (forced : Bool) : FaultKept gs o (s.occur slot detail forced) := by
  unfold State.occur
  refine ite (fun _ => h) (fun _ => ?_)
  extract_lets was cls s1 flt s2 s3 s4 s5 s6
  have hs1 : FaultKept gs o s1 := h.putBit (F := FLT_STATUS_BITS) (by decide) _ _ _ 0
  have hs2 : FaultKept gs o s2 := hs1.same rfl rfl rfl
  have hs3 : FaultKept gs o s3 := (hs2.wr (F := FLT_DET_DETAIL) (by decide) detail slot 0).sat (F := FLT_DET_COUNT) (by decide) slot 0
  have hs4 : FaultKept gs o s4 := ((hs3.fltLog slot cls detail forced false).sat (F := FLT_CNT_COUNT) (by decide) cls 0).fltFirst slot cls
  have hs5 : FaultKept gs o s5 := ite (fun _ => hs4.irq _ _ _) (fun _ => hs4)
  have hs6 : FaultKept gs o s6 := ite (fun _ => hs5) (fun _ => hs5.escArm slot)
  exact ite (fun _ => hs6.enterElytra slot false false) (fun _ => hs6)

theorem causeOn (h : FaultKept gs o s) (slot detail : Nat) : FaultKept gs o (s.causeOn slot detail) := by
  refine ite (fun _ => h) (fun _ => occur ?_ slot detail false)
  exact h.same rfl rfl rfl

end FaultKept

end Sys2Proof.Machine
end

section
/-! PROOFS. What the sink switch's following of SNKVALID, and the end of a contract, leave of the USB-C port (R461, R473, R475). -/

open Sys2Proof

namespace Sys2Proof.Machine

/-- What the port shows of its attach, its roles, its contract and its mode. -/
def updShown : List Field :=
  [UPD_STAT_STATE, UPD_STAT_PROLE, UPD_STAT_DROLE, UPD_STAT_HRSTEV, UPD_STAT_DETEV, UPD_STAT_CMDBUSY, UPD_CONTRACT_VALID, UPD_ALTSTAT_MODE]

/-- The fields of the port and of the path that follow it in the sink role. -/
def sinkFields : List Field := [UPD_STAT_SNKVALID, HSW_STAT_PATHGD, HSW_STAT_INLIM, HSW_STAT_SRC, HSW_CNT_COUNT]

theorem sinkFields_spare : ∀ F ∈ sinkFields, ∀ G ∈ updShown, F.spares G = true := by decide

namespace FaultKept

variable {o s : State}

theorem wrSink (h : FaultKept updShown o s) {F : Field} (hF : F ∈ sinkFields) (v i : Nat) : FaultKept updShown o (s.wr F v i) :=
  h.wrOther (fun G hG _ hk => Field.key_ne_of_spares_fault (sinkFields_spare F hF G hG) i 0 hk) v

theorem pathSettle (h : FaultKept updShown o s) : FaultKept updShown o s.pathSettle := by
  unfold State.pathSettle
  extract_lets s1 w1 x1 s2 s3 src
  have hs1 : FaultKept updShown o s1 := ite (fun _ => h) (fun _ => h.wrSink (F := HSW_STAT_PATHGD) (by decide) 0 0)
  clear_value s1
  have hs2 : FaultKept updShown o s2 := ite (fun _ => hs1) (fun _ => (hs1.wrSink (F := HSW_STAT_INLIM) (by decide) 0 0).same rfl rfl rfl)
  clear_value s2
  have hs3 : FaultKept updShown o s3 := ite (fun _ => hs2.causeOn 19 0) (fun _ => hs2.same rfl rfl rfl)
  exact ite (fun _ => hs3) (fun _ => (hs3.wrSink (F := HSW_STAT_SRC) (by decide) src 0).wrSink (F := HSW_CNT_COUNT) (by decide) _ 7)

theorem sinkOpen (h : FaultKept updShown o s) : FaultKept updShown o (s.sinkOpen false) :=
  ite (fun _ => pathSettle (h.same (t := s.setSink false) rfl rfl rfl)) (fun _ => h)

/-- What the sink contract shows leaves everything else that the port shows. -/
theorem sinkShow (s : State) : FaultKept updShown s s.sinkShow := by
  have hvalid : FaultKept updShown s (s.wr UPD_STAT_SNKVALID (bit s.sinkContract)) :=
    (FaultKept.refl (by decide) s).wrSink (by decide) _ 0
  exact ite (fun _ => hvalid) (fun _ => hvalid.sinkOpen)

end FaultKept

/-! The end of a contract and of a mode. -/

section
variable {s : State}

/-- CONTEV set where a contract is in force. -/
def State.contractEvent (s : State) : State := if s.on UPD_CONTRACT_VALID then s.wr UPD_STAT_CONTEV 1 else s

theorem State.regs_contractEnd (s : State) : s.contractEnd.regs =
    (((((s.contractEvent.wr UPD_CONTRACT_VALID 0).wr UPD_CONTRACT_PPS 0).wr UPD_CONTRACT_POS 0).wr UPD_CONTRACT_V 0).wr UPD_CONTRACT_I 0).regs := rfl

theorem State.sorted_contractEvent (hsorted : Tab.sorted s.regs = true) : Tab.sorted s.contractEvent.regs = true := by
  unfold State.contractEvent
  split
  · exact State.sorted_wr hsorted _ _ _ _
  · exact hsorted

theorem State.rd_contractEnd_ne {G : Field} (hev : UPD_STAT_CONTEV.key 0 0 ≠ G.key 0 0) (hvalid : UPD_CONTRACT_VALID.key 0 0 ≠ G.key 0 0)
    (hpps : UPD_CONTRACT_PPS.key 0 0 ≠ G.key 0 0) (hpos : UPD_CONTRACT_POS.key 0 0 ≠ G.key 0 0) (hv : UPD_CONTRACT_V.key 0 0 ≠ G.key 0 0)
    (hi : UPD_CONTRACT_I.key 0 0 ≠ G.key 0 0) : s.contractEnd.rd G = s.rd G := by
  have hev' : s.contractEvent.rd G = s.rd G := by
    unfold State.contractEvent
    split
    · exact State.rd_wr_ne hev 1
    · rfl
  rw [State.rd_of_regs s.regs_contractEnd, State.rd_wr_ne hi, State.rd_wr_ne hv, State.rd_wr_ne hpos, State.rd_wr_ne hpps, State.rd_wr_ne hvalid, hev']

theorem State.sorted_contractEnd (hsorted : Tab.sorted s.regs = true) : Tab.sorted s.contractEnd.regs = true := by
  rw [State.regs_contractEnd]
  exact State.sorted_wr (State.sorted_wr (State.sorted_wr (State.sorted_wr (State.sorted_wr (State.sorted_contractEvent hsorted) _ _ _ _) _ _ _ _)
    _ _ _ _) _ _ _ _) _ _ _ _

theorem State.valid_contractEnd (hsorted : Tab.sorted s.regs = true) : s.contractEnd.rd UPD_CONTRACT_VALID = 0 := by
  rw [State.rd_of_regs s.regs_contractEnd, State.rd_wr_ne (by decide), State.rd_wr_ne (by decide), State.rd_wr_ne (by decide),
    State.rd_wr_ne (by decide), State.rd_wr_self (State.sorted_contractEvent hsorted)]
  rfl

theorem State.upd_contractEnd : s.contractEnd.upd = { s.upd with again := false, keep := false } := by
  have hev : s.contractEvent.upd = s.upd := by
    unfold State.contractEvent
    split <;> rfl
  rw [← hev]
  rfl

/-- Without a mode its end drops what the port awaits of one. -/
theorem State.modeEnd_of_none (hmode : s.rd UPD_ALTSTAT_MODE = 0) : s.modeEnd = s.setUpd (fun u => { u with vdm := .none }) := if_pos hmode

end

end Sys2Proof.Machine
end

section
/-! PROOFS. USB-C: commands, role swaps, resets, answers and alternate modes (R466 to R486). -/

open Sys2Proof

namespace Sys2Proof.Machine

/-! What the end of a mode leaves of the USB-C port's own state (R482, R484). -/

section
variable (s : State)

@[simp] theorem State.upd_fault (slot detail : Nat) : (s.fault slot detail).upd = s.upd :=
  ((FaultKept.refl (gs := []) rfl s).occur slot detail false).upd

@[simp] theorem State.upd_causeOn (slot detail : Nat) : (s.causeOn slot detail).upd = s.upd :=
  ((FaultKept.refl (gs := []) rfl s).causeOn slot detail).upd

theorem State.upd_each {α : Type} {f : State → α → State} (hf : ∀ u a, (f u a).upd = u.upd) (l : List α) : (s.each l f).upd = s.upd :=
  State.each_keeps (P := fun u => u.upd = s.upd) (fun u a _ hu => (hf u a).trans hu) rfl

theorem State.upd_lockLost (n st : Nat) : (s.lockLost n st).upd = s.upd := by
  unfold State.lockLost
  extract_lets s1
  rw [State.wr_upd]
  split
  · rfl
  · exact State.upd_fault s1 _ _

theorem State.upd_scanStop (n err : Nat) : (s.scanStop n err).upd = s.upd := by
  unfold State.scanStop
  split <;> rfl

theorem State.upd_laneGo (n st : Nat) (loss : Bool) : (s.laneGo n st loss).upd = s.upd := by
  unfold State.laneGo
  extract_lets was s1 s2
  have hs1 : s1.upd = s.upd := rfl
  have hs2 : s2.upd = s.upd := (State.upd_scanStop s1 n 2).trans hs1
  split
  · rfl
  · split
    · split
      · exact (State.upd_lockLost s2 n st).trans hs2
      · exact hs2
    · exact hs1

theorem State.upd_lanePower (n : Nat) : (s.lanePower n).upd = s.upd := by
  unfold State.lanePower
  extract_lets pd s1
  have hs1 : s1.upd = s.upd := rfl
  split
  · exact (State.upd_laneGo s1 n _ _).trans hs1
  · split
    · exact (State.upd_laneGo s1 n _ _).trans hs1
    · exact hs1

theorem State.upd_laneRelock (n : Nat) : (s.laneRelock n).upd = s.upd := by
  unfold State.laneRelock
  extract_lets s1
  have hs1 : s1.upd = s.upd := rfl
  split
  · exact hs1
  · exact (State.upd_laneGo s1 n _ _).trans hs1

theorem State.upd_laneRate (n r : Nat) : (s.laneRate n r).upd = s.upd := by
  unfold State.laneRate
  split
  · rfl
  · exact State.upd_laneRelock _ n

theorem State.upd_leaveUp (t : Nat) : (s.leaveUp t).upd = s.upd := by
  have hlose : (s.loseSending t).upd = s.upd := by
    unfold State.loseSending State.completeSend
    split
    · rfl
    · exact ((FaultKept.refl (gs := []) rfl _).releaseCopy _).upd
  unfold State.leaveUp
  split
  · exact hlose
  · split
    · rfl
    · exact hlose

theorem State.upd_trunkWatch (t : Nat) : (s.trunkWatch t).upd = s.upd := by
  have hcheck : ∀ u n, (State.holdCheck u n).upd = u.upd := fun u n => by
    unfold State.holdCheck
    split
    · split <;> rfl
    · rfl
  unfold State.trunkWatch State.ringTrunkChanged State.reachShow State.holdsCheck
  extract_lets changed
  refine (State.upd_each _ hcheck _).trans ?_
  cases changed <;> rfl

theorem State.upd_bondRestart (t : Nat) : (s.bondRestart t).upd = s.upd := by
  have hwake : ∀ u : State, (u.bondWake t).upd = u.upd := fun u => by
    unfold State.bondWake
    split <;> rfl
  unfold State.bondRestart
  extract_lets s1
  have hs1 : s1.upd = s.upd := State.upd_each s State.upd_lanePower _
  clear_value s1
  split
  · exact hs1
  · exact (hwake _).trans hs1

theorem State.upd_enterBond (t w : Nat) : (s.enterBond t w).upd = s.upd := by
  unfold State.enterBond
  extract_lets legacy x maxw rate s1 s2 s3 s4 s5 s6
  have hs1 : s1.upd = s.upd := State.upd_leaveUp s t
  clear_value s1
  have hs3 : s3.upd = s.upd := (State.upd_each s2 (fun u n => State.upd_laneRate u n _) _).trans hs1
  clear_value s3
  exact (State.upd_bondRestart _ t).trans ((State.upd_trunkWatch _ t).trans hs3)

theorem State.upd_backToBond (t : Nat) (r : TrkReason) : (s.backToBond t r).upd = s.upd := by
  have hdown : (s.linkDown t r).upd = s.upd := by
    unfold State.linkDown
    split
    · exact State.upd_fault _ _ _
    · rfl
  exact (State.upd_enterBond _ t _).trans hdown

theorem State.upd_trunkMoved : s.trunkMoved.upd = s.upd := by
  unfold State.trunkMoved
  extract_lets s1
  have hs1 : s1.upd = s.upd := rfl
  clear_value s1
  split
  · exact (State.upd_each s1 State.upd_lanePower _).trans hs1
  · exact (State.upd_backToBond s1 3 .config).trans hs1

theorem State.upd_usbcRates : s.usbcRates.upd = s.upd := State.upd_each s (fun u n => State.upd_laneRate u n _) _

/-- The end of a mode changes only what the port awaits of a mode entry. -/
theorem State.upd_modeEnd : s.modeEnd.upd = { s.upd with vdm := .none } := by
  unfold State.modeEnd
  extract_lets m s1 s2
  have hs1 : s1.upd = { s.upd with vdm := .none } := rfl
  have hs2 : s2.upd = { s.upd with vdm := .none } := (State.upd_usbcRates _).trans hs1
  clear_value s2
  split
  · exact hs1
  · split
    · exact (State.upd_trunkMoved s2).trans hs2
    · exact hs2

end

/-! Commands (R478, R479, R482, R486). -/

/-- The state in which a command has been taken. -/
def State.cmdTaken (s : State) (k : Nat) : State := ((s.wr UPD_STAT_CMDBUSY 1).setUpd (fun u => { u with cmd := some k })).stampUpd 3

theorem State.rd_cmdTaken (s : State) (k : Nat) {G : Field} (hG : UPD_STAT_CMDBUSY.key 0 0 ≠ G.key 0 0) : (s.cmdTaken k).rd G = s.rd G :=
  State.rd_wr_ne (s := s) hG 1

theorem State.updCmdWrite_of_noKey {s : State} {w : Nat} (hkey : bitsOf w 15 0 ≠ 0x5A5A) : s.updCmdWrite w = s.wr UPD_STAT_REJEV 1 := if_pos hkey

/-- A command that a free port takes begins at once. -/
theorem State.updCmdWrite_of_one {s : State} {w k : Nat} (hkey : bitsOf w 15 0 = 0x5A5A) (hbits : [31, 30, 29, 28].filter (fun b => w.testBit b) = [k])
    (hcmd : s.upd.cmd = none) (hex : s.exchange = false) (htx : s.txOk = true) : s.updCmdWrite w = (s.cmdTaken k).cmdBegin k State.hardResetSend := by
  have hex' : (s.cmdTaken k).exchange = false := hex
  have htx' : (s.cmdTaken k).txOk = true := by
    rw [← htx, State.txOk, State.txOk, State.on, State.on, s.rd_cmdTaken k (G := UPD_STAT_PROLE) (by decide),
      s.rd_cmdTaken k (G := UPD_STAT_RPCUR) (by decide)]
  have hsettle : (s.cmdTaken k).updSettle = (s.cmdTaken k).cmdBegin k State.hardResetSend := by
    rw [State.updSettle, hex', htx']
    rfl
  have hkey' : ¬ bitsOf w 15 0 ≠ cmdKey := not_not_intro hkey
  rw [State.updCmdWrite, hbits, if_neg hkey']
  simp only [hcmd, Option.isSome_none, Bool.false_eq_true, if_false]
  exact hsettle

section
variable {s s1 : State} {k : Nat} (hs1 : s1 = ((s.wr UPD_STAT_CMDBUSY 1).stampUpd 3).setUpd (fun u => { u with cmd := none, run := some k }))
  (hatt : s.attached = true) (hpd : s.on UPD_STAT_PD = true)
include hs1 hatt hpd

/-- A command of a port that is attached to a PD partner is not refused for want of one. -/
theorem State.cmdBegin_of_partner : (s.cmdTaken k).setUpd (fun u => { u with cmd := none, run := some k }) = s1 ∧
    (!(s.cmdTaken k).attached || !(s.cmdTaken k).on UPD_STAT_PD) = false := by
  refine ⟨hs1.symm, ?_⟩
  have hatt' : (s.cmdTaken k).attached = s.attached := by
    rw [State.attached, State.attached, State.attIs, State.attIs, State.attIs, State.attIs, s.rd_cmdTaken k (G := UPD_STAT_STATE) (by decide)]
  have hpd' : (s.cmdTaken k).on UPD_STAT_PD = s.on UPD_STAT_PD := by rw [State.on, State.on, s.rd_cmdTaken k (by decide)]
  rw [hatt', hatt, hpd', hpd]
  rfl

end

section
variable {s s1 : State} (hatt : s.attached = true) (hpd : s.on UPD_STAT_PD = true)
include hatt hpd

theorem State.cmdBegin_prSwap (hs1 : s1 = ((s.wr UPD_STAT_CMDBUSY 1).stampUpd 3).setUpd (fun u => { u with cmd := none, run := some 31 }))
    (hen : s.on UPD_CTRL_PRSWAP = true) (hsrc : s.on UPD_STAT_PROLE = true) (hard : State → State) :
    (s.cmdTaken 31).cmdBegin 31 hard = (s1.pdSend .prSwap).pdWait .prSwap := by
  obtain ⟨hs1', hok⟩ := State.cmdBegin_of_partner hs1 hatt hpd
  have hen' : (s.cmdTaken 31).on UPD_CTRL_PRSWAP = true := by rw [State.on, s.rd_cmdTaken 31 (by decide), ← State.on, hen]
  have hsrc' : (s.cmdTaken 31).on UPD_STAT_PROLE = true := by rw [State.on, s.rd_cmdTaken 31 (by decide), ← State.on, hsrc]
  simp only [State.cmdBegin, hs1', hok, hen', hsrc', Bool.not_true, Bool.false_and, Bool.or_self, Bool.false_eq_true, if_false]

theorem State.cmdBegin_drSwap (hs1 : s1 = ((s.wr UPD_STAT_CMDBUSY 1).stampUpd 3).setUpd (fun u => { u with cmd := none, run := some 30 }))
    (hen : s.on UPD_CTRL_DRSWAP = true) (hard : State → State) :
    (s.cmdTaken 30).cmdBegin 30 hard = (s1.modeLeave.pdSend .drSwap).pdWait .drSwap := by
  obtain ⟨hs1', hok⟩ := State.cmdBegin_of_partner hs1 hatt hpd
  have hen' : (s.cmdTaken 30).on UPD_CTRL_DRSWAP = true := by rw [State.on, s.rd_cmdTaken 30 (by decide), ← State.on, hen]
  simp only [State.cmdBegin, hs1', hok, hen', Bool.not_true, Bool.false_eq_true, if_false]

theorem State.cmdBegin_hardReset (hs1 : s1 = ((s.wr UPD_STAT_CMDBUSY 1).stampUpd 3).setUpd (fun u => { u with cmd := none, run := some 29 }))
    (hard : State → State) : (s.cmdTaken 29).cmdBegin 29 hard = hard (s1.updCmdEnd .ok) := by
  obtain ⟨hs1', hok⟩ := State.cmdBegin_of_partner hs1 hatt hpd
  simp only [State.cmdBegin, hs1', hok, Bool.false_eq_true, if_false]

theorem State.cmdBegin_exitMode (hs1 : s1 = ((s.wr UPD_STAT_CMDBUSY 1).stampUpd 3).setUpd (fun u => { u with cmd := none, run := some 28 }))
    (hard : State → State) : (s.cmdTaken 28).cmdBegin 28 hard = s1.modeLeave.updCmdEnd .ok := by
  obtain ⟨hs1', hok⟩ := State.cmdBegin_of_partner hs1 hatt hpd
  simp only [State.cmdBegin, hs1', hok, Bool.false_eq_true, if_false]

end

/-! Role swaps (R478, R479). -/

theorem State.on_pdSeen (s : State) {G : Field} (hG : UPD_STAT_PD.key 0 0 ≠ G.key 0 0) : s.pdSeen.on G = s.on G := State.on_wr_ne (s := s) hG 1

section
variable {s : State}

theorem State.swapMeets_of_idle (hwait : s.upd.wait = .none) {own : PdWait} (hown : own ≠ .none) : s.swapMeets own = some s := by
  rw [State.swapMeets, hwait, if_neg (Ne.symm hown), if_pos rfl]

section
variable (hatt : s.attached = true) (hpd : s.pdOn = true)
include hatt hpd

theorem State.prSwapReceive_of_source (hwait : s.upd.wait = .none) (hen : s.on UPD_CTRL_PRSWAP = true) (hsrc : s.on UPD_STAT_PROLE = true) :
    s.prSwapReceive = ((s.pdSeen.pdSend .accept).contractEnd.setUpd (fun u => { u with vbusOn := false, ref := 0 })).pdWait .discharge := by
  have hsrc' : (s.pdSeen.pdSend .accept).on UPD_STAT_PROLE = true := by
    have hsent : (s.pdSeen.pdSend .accept).on UPD_STAT_PROLE = s.pdSeen.on UPD_STAT_PROLE := rfl
    rw [hsent, State.on_pdSeen s (by decide), hsrc]
  simp only [State.prSwapReceive, hatt, hpd, Bool.not_true, Bool.or_self, Bool.false_eq_true, if_false, State.swapMeets_of_idle hwait (own := .prSwap) (by decide), hen,
    hsrc, Bool.false_and, State.prSwapBegin, hsrc', if_true]

theorem State.prSwapReceive_of_disabled (hwait : s.upd.wait = .none) (hen : s.on UPD_CTRL_PRSWAP = false) :
    s.prSwapReceive = (s.pdSeen.pdSend .reject).exchangeEnd := by
  simp only [State.prSwapReceive, hatt, hpd, Bool.not_true, Bool.or_self, Bool.false_eq_true, if_false, State.swapMeets_of_idle hwait (own := .prSwap) (by decide), hen,
    Bool.not_false, Bool.true_or, if_true]

theorem State.drSwapReceive_of_enabled (hwait : s.upd.wait = .none) (hen : s.on UPD_CTRL_DRSWAP = true) :
    s.drSwapReceive = ((s.pdSeen.modeLeave).pdSend .accept).drSwapRun := by
  simp only [State.drSwapReceive, hatt, hpd, Bool.not_true, Bool.or_self, Bool.false_eq_true, if_false, State.swapMeets_of_idle hwait (own := .drSwap) (by decide), hen]

/-! Resets (R469, R479). -/

theorem State.softResetReceive_of_idle (hrun : s.upd.run = none) : s.softResetReceive = ((s.pdSeen.sat UPD_CNT_COUNT 1).pdSend .accept).softStart := by
  simp only [State.softResetReceive, hatt, hpd, Bool.not_true, Bool.or_self, Bool.false_eq_true, if_false, hrun, if_true, State.updCount]

theorem State.unsupported_of_attached (vconn : Bool) : s.unsupported vconn = s.pdSeen.pdSend (if vconn then .reject else .notSupported) := by
  simp only [State.unsupported, hatt, hpd, Bool.and_self, if_true]

end

/-- The state in which a hard reset of a port without an earlier one has been counted. -/
theorem State.hardReset_of_first {s2 : State} (hresets : s.upd.resets = [])
    (hs2 : s2 = ((((((s.sat UPD_CNT_COUNT 0).wr UPD_STAT_HRSTEV 1).fault 26 0).setUpd
      (fun u => { u with resets := [s.hsw.clock] })).modeEnd.contractEnd.attachRoles)))
    (hbusy : s2.on UPD_STAT_CMDBUSY = false) : s.hardReset = s2.sinkShow := by
  obtain ⟨u1, hu1⟩ : ∃ u1, u1 = ((s.sat UPD_CNT_COUNT 0).wr UPD_STAT_HRSTEV 1).fault 26 0 := ⟨_, rfl⟩
  have hupd : u1.upd.resets = [] := by
    rw [hu1, State.upd_fault]
    exact hresets
  rw [← hu1] at hs2
  have hnow : u1.setUpd (fun u => { u with resets := s.hsw.clock :: u.resets.filter (fun t => s.hsw.clock < t + State.tenSeconds) }) =
      u1.setUpd (fun u => { u with resets := [s.hsw.clock] }) := by
    simp only [State.setUpd, hupd, List.filter_nil]
  have hone : s2.upd.resets = [s.hsw.clock] := by
    have hend : (u1.setUpd (fun u => { u with resets := [s.hsw.clock] })).modeEnd.upd.resets = [s.hsw.clock] := by
      rw [State.upd_modeEnd]
      rfl
    have hroles : ∀ v : State, v.attachRoles.upd.resets = v.upd.resets := fun _ => rfl
    rw [hs2, hroles, State.upd_contractEnd]
    exact hend
  simp only [State.hardReset, State.updCount, ← hu1, hnow, ← hs2, hbusy, Bool.false_eq_true, if_false, hone]
  rfl

theorem State.attachRoles_of_source {s : State} (hsrc : s.upd.src = true) : s.attachRoles =
    (((((s.wr UPD_STAT_PROLE 1).wr UPD_STAT_DROLE 1).wr UPD_STAT_STATE 4).setUpd
      (fun u => { u with vdm := .none, vbusOn := false, ref := 0, tries := 0 })).pdWait .recover) := by
  simp only [State.attachRoles, hsrc, if_true]
  rfl

/-- The roles of the attach as they show. -/
theorem State.attachRoles_shows {s : State} (hsrc : s.upd.src = true) :
    s.attachRoles.rd UPD_STAT_PROLE = 1 ∧ s.attachRoles.rd UPD_STAT_DROLE = 1 ∧ s.attachRoles.rd UPD_STAT_STATE = 4 ∧
      s.attachRoles.upd.wait = .recover ∧ s.attachRoles.upd.vbusOn = false ∧
      ∀ {G : Field}, UPD_STAT_PROLE.key 0 0 ≠ G.key 0 0 → UPD_STAT_DROLE.key 0 0 ≠ G.key 0 0 → UPD_STAT_STATE.key 0 0 ≠ G.key 0 0 →
        s.attachRoles.rd G = s.rd G := by
  rw [State.attachRoles_of_source hsrc]
  obtain ⟨v, hv⟩ : ∃ v, v = ((s.wr UPD_STAT_PROLE 1).wr UPD_STAT_DROLE 1).wr UPD_STAT_STATE 4 := ⟨_, rfl⟩
  rw [← hv]
  have hprole : v.rd UPD_STAT_PROLE = 1 := by
    rw [hv, State.rd_wr_ne (by decide), State.rd_wr_ne (by decide)]
    exact State.rd_wr_one_self ⟨by decide, rfl, rfl⟩ _ _ _
  have hdrole : v.rd UPD_STAT_DROLE = 1 := by
    rw [hv, State.rd_wr_ne (by decide)]
    exact State.rd_wr_one_self ⟨by decide, rfl, rfl⟩ _ _ _
  have hstate : v.rd UPD_STAT_STATE = 4 := by
    rw [hv]
    exact State.rd_wr_listed rfl (by decide) _ _ _
  refine ⟨hprole, hdrole, hstate, rfl, rfl, fun {G} h1 h2 h3 => ?_⟩
  have hother : v.rd G = s.rd G := by rw [hv, State.rd_wr_ne h3, State.rd_wr_ne h2, State.rd_wr_ne h1]
  exact hother

/-- What a source of a port without mode or command in progress shows after its first hard reset. -/
theorem State.hardReset_effects (hsrc : s.upd.src = true) (hresets : s.upd.resets = []) (hmode : s.rd UPD_ALTSTAT_MODE = 0)
    (hbusy : s.rd UPD_STAT_CMDBUSY = 0) (hsorted : Tab.sorted s.regs = true) :
    s.hardReset.on UPD_STAT_HRSTEV = true ∧ s.hardReset.on UPD_CONTRACT_VALID = false ∧ s.hardReset.on UPD_STAT_PROLE = true ∧
      s.hardReset.on UPD_STAT_DROLE = true ∧ s.hardReset.rd UPD_STAT_STATE = 4 ∧ s.hardReset.upd.wait = .recover ∧ s.hardReset.upd.vbusOn = false := by
  obtain ⟨u1, hu1⟩ : ∃ u1, u1 = ((s.sat UPD_CNT_COUNT 0).wr UPD_STAT_HRSTEV 1).fault 26 0 := ⟨_, rfl⟩
  have hkept : FaultKept updShown ((s.sat UPD_CNT_COUNT 0).wr UPD_STAT_HRSTEV 1) u1 := by
    rw [hu1]
    exact (FaultKept.refl (by decide) _).occur 26 0 false
  have hsorted1 : Tab.sorted u1.regs = true := hkept.sorted (State.sorted_wr (State.sorted_wr hsorted _ _ _ _) _ _ _ _)
  have hread : ∀ {G : Field}, G ∈ updShown → UPD_STAT_HRSTEV.key 0 0 ≠ G.key 0 0 → UPD_CNT_COUNT.key 0 0 ≠ G.key 0 0 → u1.rd G = s.rd G :=
    fun hG h1 h2 => (hkept.fields _ hG 0 (by decide)).trans ((State.rd_wr_ne h1 1).trans (State.rd_wr_ne h2 _))
  have hev1 : u1.rd UPD_STAT_HRSTEV = 1 := (hkept.fields _ (by decide) 0 (by decide)).trans (State.rd_wr_one_self ⟨by decide, rfl, rfl⟩ _ _ _)
  have hmode1 : u1.rd UPD_ALTSTAT_MODE = 0 := (hread (by decide) (by decide) (by decide)).trans hmode
  have hbusy1 : u1.rd UPD_STAT_CMDBUSY = 0 := (hread (by decide) (by decide) (by decide)).trans hbusy
  have hsrc1 : u1.upd.src = true := by rw [hkept.upd]; exact hsrc
  obtain ⟨u2, hu2⟩ : ∃ u2, u2 = ((u1.setUpd (fun u => { u with resets := [s.hsw.clock] })).setUpd (fun u => { u with vdm := .none })).contractEnd :=
    ⟨_, rfl⟩
  have hread2 : ∀ {G : Field}, UPD_STAT_CONTEV.key 0 0 ≠ G.key 0 0 → UPD_CONTRACT_VALID.key 0 0 ≠ G.key 0 0 → UPD_CONTRACT_PPS.key 0 0 ≠ G.key 0 0 →
      UPD_CONTRACT_POS.key 0 0 ≠ G.key 0 0 → UPD_CONTRACT_V.key 0 0 ≠ G.key 0 0 → UPD_CONTRACT_I.key 0 0 ≠ G.key 0 0 → u2.rd G = u1.rd G :=
    fun h1 h2 h3 h4 h5 h6 => by rw [hu2, State.rd_contractEnd_ne h1 h2 h3 h4 h5 h6]; rfl
  have hvalid2 : u2.rd UPD_CONTRACT_VALID = 0 := by
    rw [hu2]
    exact State.valid_contractEnd hsorted1
  have hsrc2 : u2.upd.src = true := by
    rw [hu2, State.upd_contractEnd]
    exact hsrc1
  obtain ⟨hprole, hdrole, hstate, hwait, hvbus, hother⟩ := State.attachRoles_shows hsrc2
  have hmode' : (u1.setUpd (fun u => { u with resets := [s.hsw.clock] })).rd UPD_ALTSTAT_MODE = 0 := hmode1
  have hbusy3 : u2.attachRoles.on UPD_STAT_CMDBUSY = false := by
    rw [State.on, hother (by decide) (by decide) (by decide), hread2 (by decide) (by decide) (by decide) (by decide) (by decide) (by decide), hbusy1]
    rfl
  have hreset : s.hardReset = u2.attachRoles.sinkShow := State.hardReset_of_first hresets
    (by rw [← hu1, State.modeEnd_of_none hmode', ← hu2]) hbusy3
  have hshow := FaultKept.sinkShow u2.attachRoles
  have hshown : ∀ G ∈ updShown, s.hardReset.rd G = u2.attachRoles.rd G := fun G hG => by rw [hreset, hshow.fields G hG 0 (by decide)]
  have hupd : s.hardReset.upd = u2.attachRoles.upd := by rw [hreset, hshow.upd]
  refine ⟨?_, ?_, ?_, ?_, (hshown _ (by decide)).trans hstate, (congrArg Upd.wait hupd).trans hwait, (congrArg Upd.vbusOn hupd).trans hvbus⟩
  · rw [State.on, hshown _ (by decide), hother (by decide) (by decide) (by decide),
      hread2 (by decide) (by decide) (by decide) (by decide) (by decide) (by decide), hev1]
    rfl
  · rw [State.on, hshown _ (by decide), hother (by decide) (by decide) (by decide), hvalid2]
    rfl
  · rw [State.on, hshown _ (by decide), hprole]
    rfl
  · rw [State.on, hshown _ (by decide), hdrole]
    rfl

end

/-! Answers of the partner (R474, R478). -/

section
variable {s : State}

theorem State.answerReceive_accept (hwait : s.upd.wait = .request) : s.answerReceive 0 = s.pdSeen.pdWait .psRdy := by
  simp only [State.answerReceive, hwait, if_true]

theorem State.answerReceive_wait (hwait : s.upd.wait = .request) :
    s.answerReceive 2 = ((s.pdSeen.setUpd (fun u => { u with again := true })).stampUpd 7).exchangeEnd := by
  simp only [State.answerReceive, hwait, if_true, Nat.reduceEqDiff, if_false]

theorem State.answerReceive_of_prSwap (hwait : s.upd.wait = .prSwap) {k : Fin 4} (hk : k ≠ 0) :
    s.answerReceive k = (s.updCmdEnd (if k = 1 then .rejected else if k = 2 then .wait else .notSupp)).exchangeEnd := by
  have hk' : k.val ≠ 0 := fun h => hk (Fin.ext h)
  have hcode : (if k.val = 1 then PdCode.rejected else if k.val = 2 then .wait else .notSupp) =
      (if k = 1 then PdCode.rejected else if k = 2 then .wait else .notSupp) :=
    ite_congr (propext (Fin.ext_iff (b := 1)).symm) (fun _ => rfl)
      (fun _ => ite_congr (propext (Fin.ext_iff (b := 2)).symm) (fun _ => rfl) (fun _ => rfl))
  simp only [State.answerReceive, hwait, if_neg hk', hcode]

/-! Alternate modes (R480 to R484). -/

theorem State.discovered_of_displayPort (hatt : s.attached = true) (hpd : s.pdOn = true) (hdfp : s.on UPD_STAT_DROLE = true)
    (hcon : s.on UPD_CONTRACT_VALID = true) (hmode : s.rd UPD_ALTSTAT_MODE = 0) (hex : s.exchange = false) (htx : s.txOk = true)
    (hpwr : s.rd PWR_STAT_STATE < 3) (hen : s.on UPD_ALT_DPEN = true) {pinC pinD : Bool} (hpin : (pinC || pinD) = true) :
    s.discovered none true pinC pinD = (((((s.pdSend (.discover 0)).pdSend (.discover 1)).pdSend (.discover 2)).pdSend (.enterMode false)).setUpd
      (fun u => { u with vdm := .enterDp (if pinC then 1 else 2) })).stampUpd 2 := by
  have hword : (0 : Word).toNat = 0 := rfl
  have hzero : (bitsOf 0 31 28 == 1) = false := by decide
  simp only [State.discovered, hatt, hpd, hdfp, hcon, hmode, hex, htx, hen, hpin, Bool.not_true, Bool.or_self, ne_eq, not_true_eq_false, decide_false,
    decide_eq_false (Nat.not_le.mpr hpwr), Bool.false_eq_true, if_false, Option.getD_none, hword, hzero, Bool.and_false,
    Bool.false_and, Bool.and_self, if_true]

/-- The own Mode VDO does not depend on whether the partner has spoken PD. -/
theorem State.ownVdo_pdSeen (s : State) : s.pdSeen.ownVdo = s.ownVdo := by
  have hen : s.pdSeen.on UPD_ALT_TRKEN = s.on UPD_ALT_TRKEN := s.on_pdSeen (by decide)
  have hring : s.pdSeen.on TRK_CTRL_RING 3 = s.on TRK_CTRL_RING 3 := State.on_wr_ne (s := s) (F := UPD_STAT_PD) (G := TRK_CTRL_RING) (by decide) 1
  rw [State.ownVdo, State.ownVdo, State.ownAvail, State.ownAvail, hen, hring]

section
variable (hatt : s.attached = true) (hpd : s.pdOn = true) (hufp : s.on UPD_STAT_DROLE = false)
include hatt hpd hufp

theorem State.enterReceive_of_own {svid : Nat} (hne : svid ≠ 0) (hown : s.rd UPD_SVID_SVID = svid) (hav : s.ownAvail = true)
    (hmode : s.rd UPD_ALTSTAT_MODE = 0) :
    s.enterReceive svid = (((((s.pdSeen.pdSend .enterAck).wr UPD_ALTSTAT_MODE 2).wr UPD_ALTSTAT_PIN 0).wr UPD_ALTSTAT_MUX 1).wr UPD_STAT_ALTEV 1).usbcRates.trunkMoved := by
  simp only [State.enterReceive, hatt, hpd, hufp, hown, hav, hmode, Bool.not_true, Bool.or_self, Bool.false_eq_true, if_false, if_neg hne, ne_eq,
    not_true_eq_false, State.modeEnter, if_true]
  rfl

theorem State.enterReceive_of_noSvid (hown : s.rd UPD_SVID_SVID = 0) (svid : Nat) :
    s.enterReceive svid = ((s.pdSeen.pdSend .enterNak).sat UPD_CNT_COUNT 7).wr UPD_ALTSTAT_TRKREF 1 := by
  simp only [State.enterReceive, hatt, hpd, hufp, hown, Bool.not_true, Bool.or_self, Bool.false_eq_true, if_false, if_true, State.enterRefuse, State.updCount]

theorem State.exitReceive_of_mode (hmode : s.rd UPD_ALTSTAT_MODE ≠ 0) : s.exitReceive = s.pdSeen.modeEnd.pdSend .exitAck := by
  simp only [State.exitReceive, hatt, hpd, hufp, Bool.not_true, Bool.or_self, Bool.false_eq_true, if_false, if_neg hmode]

theorem State.discoverReceive_of_ufp (k : Fin 3) : s.discoverReceive k = s.pdSeen.pdSend (if k = 0 then .identity
    else if s.rd UPD_SVID_SVID = 0 then .vdmNak k else if k = 1 then .svids (s.rd UPD_SVID_SVID) else .mode s.pdSeen.ownVdo) := by
  have h0 : (k.val = 0) = (k = 0) := propext (Fin.ext_iff (b := 0)).symm
  have h1 : (k.val = 1) = (k = 1) := propext (Fin.ext_iff (b := 1)).symm
  rw [State.ownVdo_pdSeen]
  simp only [State.discoverReceive, hatt, hpd, hufp, Bool.not_true, Bool.or_self, Bool.false_eq_true, if_false, h0, h1]
  split
  · rfl
  · split
    · rfl
    · split <;> rfl

end

theorem State.enterAnswer_displayPort {pin : Nat} (hvdm : s.upd.vdm = .enterDp pin) :
    s.enterAnswer true = (((((((s.wr UPD_ALTSTAT_MODE 1).wr UPD_ALTSTAT_PIN pin).wr UPD_ALTSTAT_MUX 0).wr UPD_STAT_ALTEV 1).usbcRates).pdSend
      (.dpConfigure pin)).setUpd (fun u => { u with vdm := .config })).stampUpd 2 := by
  simp only [State.enterAnswer, hvdm, if_true, State.modeEnter, Nat.reduceEqDiff, if_false]
  rfl

theorem State.dpAttention_high (hmode : s.rd UPD_ALTSTAT_MODE = 1) : s.dpAttention true false = (s.wr UPD_ALTSTAT_HPD 1).wr HD_LINK_HPD 1 1 := by
  simp only [State.dpAttention, hmode, ne_eq, not_true_eq_false, if_false, Bool.not_true, Bool.false_eq_true]
  rfl

theorem State.dpAttention_low (hmode : s.rd UPD_ALTSTAT_MODE = 1) : s.dpAttention false false = (s.wr UPD_ALTSTAT_HPD 0).hpdLow := by
  simp only [State.dpAttention, hmode, ne_eq, not_true_eq_false, if_false, Bool.not_false, if_true]
  rfl

end

/-- Settles O50, clause by clause. -/
theorem usbCSwapsResetsAndModes : Obligations.UsbCSwapsResetsAndModes := by
  refine ⟨fun w s e s1 he hkey hbits hcmd hex htx hatt hpd hen hsrc hs1 => ?_, fun w s e s1 he hkey hbits hcmd hex htx hatt hpd hen hs1 => ?_,
    fun w s e s1 he hkey hbits hcmd hex htx hatt hpd hs1 => ?_, fun w s e s1 he hkey hbits hcmd hex htx hatt hpd hs1 => ?_,
    fun w s e he hkey => ?_, fun s e he hatt hpd hwait hen hsrc => ?_, fun s e he hatt hpd hwait hen => ?_,
    fun s e s1 he hatt hpd hwait hen hs1 => ?_, fun s hatt hpd => if_pos (by rw [hatt, hpd]; rfl),
    fun s s2 hresets hs2 hbusy => State.hardReset_of_first hresets hs2 hbusy, fun s hsrc hpd hupd hresets hmode hbusy _ hsorted => ?_,
    fun s e he hatt hpd hrun => ?_, fun vconn s e he hatt hpd => ?_, fun s e he hwait => ?_, fun k s e he hwait hk => ?_,
    fun pinC pinD s e he hatt hpd hdfp hcon hmode hex htx hpwr hen hpin => ?_, fun svid s e he hatt hpd hufp hne hown hav hmode => ?_,
    fun svid s e he hatt hpd hufp hown => ?_, fun pin s e he hvdm => ?_, fun s e he hatt hpd hufp hmode => ?_, fun s e he hmode => ?_,
    fun k s e he hatt hpd hufp => ?_⟩
  · subst he
    exact congrArg Host.Outcome.next ((State.updCmdWrite_of_one hkey hbits hcmd hex htx).trans (State.cmdBegin_prSwap hatt hpd hs1 hen hsrc _))
  · subst he
    exact congrArg Host.Outcome.next ((State.updCmdWrite_of_one hkey hbits hcmd hex htx).trans (State.cmdBegin_drSwap hatt hpd hs1 hen _))
  · subst he
    exact congrArg Host.Outcome.next ((State.updCmdWrite_of_one hkey hbits hcmd hex htx).trans (State.cmdBegin_hardReset hatt hpd hs1 _))
  · subst he
    exact congrArg Host.Outcome.next ((State.updCmdWrite_of_one hkey hbits hcmd hex htx).trans (State.cmdBegin_exitMode hatt hpd hs1 _))
  · subst he
    exact ⟨congrArg Host.Outcome.next (State.updCmdWrite_of_noKey hkey), congrArg Host.Outcome.next (State.updCmdWrite_of_noKey hkey)⟩
  · subst he
    exact congrArg Host.Outcome.next (State.prSwapReceive_of_source hatt hpd hwait hen hsrc)
  · subst he
    exact congrArg Host.Outcome.next (State.prSwapReceive_of_disabled hatt hpd hwait hen)
  · subst he hs1
    exact congrArg Host.Outcome.next (State.drSwapReceive_of_enabled hatt hpd hwait hen)
  · have hatt : s.attached = true := by rw [State.attached, hsrc, Bool.or_true]
    exact ⟨_, if_pos (by rw [hatt, hpd]; rfl), State.hardReset_effects (s := s.updEvent) hupd hresets hmode hbusy hsorted⟩
  · subst he
    exact congrArg Host.Outcome.next (State.softResetReceive_of_idle hatt hpd hrun)
  · subst he
    exact congrArg Host.Outcome.next (State.unsupported_of_attached hatt hpd vconn)
  · subst he
    exact ⟨congrArg Host.Outcome.next (State.answerReceive_accept hwait), congrArg Host.Outcome.next (State.answerReceive_wait hwait)⟩
  · subst he
    exact congrArg Host.Outcome.next (State.answerReceive_of_prSwap hwait hk)
  · subst he
    exact congrArg Host.Outcome.next (State.discovered_of_displayPort hatt hpd hdfp hcon hmode hex htx hpwr hen hpin)
  · subst he
    exact congrArg Host.Outcome.next (State.enterReceive_of_own hatt hpd hufp hne hown hav hmode)
  · subst he
    exact congrArg Host.Outcome.next (State.enterReceive_of_noSvid hatt hpd hufp hown _)
  · subst he
    exact congrArg Host.Outcome.next (State.enterAnswer_displayPort hvdm)
  · subst he
    exact congrArg Host.Outcome.next (State.exitReceive_of_mode hatt hpd hufp hmode)
  · subst he
    exact ⟨congrArg Host.Outcome.next (State.dpAttention_high hmode), congrArg Host.Outcome.next (State.dpAttention_low hmode)⟩
  · subst he
    exact congrArg Host.Outcome.next (State.discoverReceive_of_ufp hatt hpd hufp k)

end Sys2Proof.Machine
end

section
/-! PROOFS. USB-C: attach and detach, contracts as sink and as source, timers and power samples (R454, R466 to R477). -/

open Sys2Proof

namespace Sys2Proof.Machine

/-! Samples (R454, R473, R478). -/

section
variable {s : State}

/-- VBUS is sampled while the port waits for nothing. -/
theorem State.vbusSample_of_idle {v : Nat} {s2 : State} (hs2 : s2 = s.wr UPD_VBUS_V v) (hwait : s.upd.wait = .none) :
    s.vbusSample v = (s2.setUpd (fun u =>
      { u with low := if v * 20 < 3670 then u.low + 1 else 0, excess := if s2.sourceOver then u.excess + 1 else 0 })).sinkShow := by
  rw [hs2]
  unfold State.vbusSample
  extract_lets t0 t1 t2
  have ht1 : t1.upd.wait = .none := hwait
  have ht2 : t2 = t1 := by
    unfold t2
    rw [ht1]
  rw [ht2]

/-- VBUS at 0.8 V or less ends the discharge of a power role swap. -/
theorem State.vbusSample_of_discharged {v : Nat} (hwait : s.upd.wait = .discharge) (hv : v ≤ 40) :
    s.vbusSample v = ((((s.wr UPD_VBUS_V v).setUpd (fun u =>
      { u with low := u.low + 1, excess := if (s.wr UPD_VBUS_V v).sourceOver then u.excess + 1 else 0 })).pdSend .psRdy).pdWait .newOn).sinkShow := by
  have hlow : v * 20 < 3670 := by omega
  unfold State.vbusSample
  extract_lets t0 t1 t2
  have ht1 : t1.upd.wait = .discharge := hwait
  have ht2 : t2 = (t1.pdSend .psRdy).pdWait .newOn := by
    unfold t2
    rw [ht1]
    exact if_pos hv
  rw [ht2]
  unfold t1 t0
  simp only [if_pos hlow]

/-- A period of a path that is OFF: samples, windows, thresholds and times. -/
theorem State.limitStep_of_off {va vb vc vout : Nat} {raw : List (BitVec 14)} {held : Bool} {s0 s1 : State}
    (hs0 : s0 = (((((s.wr HSW_VMEAS0_VA va).wr HSW_VMEAS0_VB vb).wr HSW_VMEAS1_VC vc).wr HSW_VMEAS1_VOUT vout).feedSample 0 va).feedSample 1 vb)
    (hs1 : s1 = (s0.showCurrents (raw.take 8)).limitsShow.hswPeriod) (hoff : s1.rd HSW_STAT_STATE = 7) :
    s.limitStep va vb vc vout raw held = s1 := by
  have hpath : s1.pathConducts = false := by
    rw [State.pathConducts, State.pathIs_of_code hoff, State.pathIs_of_code hoff]
    rfl
  simp only [State.limitStep, ← hs0, ← hs1, hpath, Bool.false_eq_true, if_false]
  exact State.feedWaitEnd_of_other (State.pathIs_of_code hoff _)

/-! Attach (R466 to R468). -/

theorem State.termination_of_unattached {cc2 rp : Bool} (hstate : s.attIs .unattached = true) (hrp : rp ≠ s.presentsRp) (cur : Nat) :
    s.termination cc2 rp cur = ((s.setUpd (fun u => { u with seen := some (cc2, rp, cur) })).wr UPD_STAT_STATE 1).stampUpd 4 := by
  simp only [State.termination, hstate, if_true, beq_false_of_ne hrp, Bool.false_eq_true, if_false]
  rfl

section
variable {cc2 : Bool} {cur : Nat} (hstate : s.attIs .wait = true) (hran : s.updRan 4 150 = true)
include hstate hran

theorem State.debounced_of_source (hseen : s.upd.seen = some (cc2, true, cur)) (hpref : (s.toggles && s.rd UPD_CTRL_PREF == 2) = false)
    (hv : s.rd UPD_VBUS_V > 200) : s.debounced = s.attachAs false := by
  have htry : (s.toggles && ((s.rd UPD_CTRL_PREF = 1 && false) || (s.rd UPD_CTRL_PREF = 2 && true))) = false := by
    rw [Bool.and_false, Bool.false_or, Bool.and_true]
    exact hpref
  simp only [State.debounced, hstate, hran, hseen, htry, Bool.not_true, Bool.or_self, Bool.false_eq_true, if_false, if_pos hv]

theorem State.debounced_of_try (hseen : s.upd.seen = some (cc2, false, cur)) (htog : s.toggles = true) (hpref : s.rd UPD_CTRL_PREF = 1) :
    s.debounced = ((s.wr UPD_STAT_STATE 2).setUpd (fun u => { u with rp := false })).stampUpd 4 := by
  simp only [State.debounced, hstate, hran, hseen, htog, hpref, Bool.not_true, Bool.or_self, Bool.false_eq_true, if_false, Bool.not_false, decide_true,
    Bool.and_self, Bool.true_or, if_true]
  rfl

theorem State.debounced_of_sink (hseen : s.upd.seen = some (cc2, false, cur)) (htog : s.toggles = false) : s.debounced = s.attachAs true := by
  simp only [State.debounced, hstate, hran, hseen, htog, Bool.not_true, Bool.or_self, Bool.false_eq_true, if_false, Bool.false_and, Bool.not_false,
    if_true]

end

theorem State.pdSend_shows (s : State) (m : PdMsg) : (s.pdSend m).regs = s.regs ∧ (s.pdSend m).upd.vbusOn = s.upd.vbusOn := ⟨rfl, rfl⟩

theorem State.pdWait_shows (s : State) (w : PdWait) : (s.pdWait w).regs = s.regs ∧ (s.pdWait w).upd.vbusOn = s.upd.vbusOn := ⟨rfl, rfl⟩

/-- Offering capabilities changes no register and does not switch VBUS. -/
theorem State.capsSend_shows (s : State) : s.capsSend.regs = s.regs ∧ s.capsSend.upd.vbusOn = s.upd.vbusOn := by
  by_cases hpd : s.pdOn = true
  · rw [State.capsSend, if_pos hpd]
    obtain ⟨hregs, hvbus⟩ := State.pdSend_shows (s.setUpd (fun u => { u with keep := false })) (.sourceCaps s.offers)
    obtain ⟨hregs', hvbus'⟩ := State.pdWait_shows ((s.setUpd (fun u => { u with keep := false })).pdSend (.sourceCaps s.offers)) .offer
    exact ⟨hregs'.trans hregs, hvbus'.trans hvbus⟩
  · rw [State.capsSend, if_neg hpd]
    exact ⟨rfl, rfl⟩

/-- The port attached as source and DFP. -/
theorem State.attachAs_source {cc2 : Bool} {cur : Nat} (hseen : s.upd.seen = some (cc2, false, cur)) (hsorted : Tab.sorted s.regs = true) :
    (s.attachAs true).rd UPD_STAT_STATE = 4 ∧ (s.attachAs true).on UPD_STAT_PROLE = true ∧ (s.attachAs true).on UPD_STAT_DROLE = true ∧
      (s.attachAs true).on UPD_STAT_ATTEV = true ∧ (s.attachAs true).rd UPD_STAT_ORIENT = bit cc2 ∧ (s.attachAs true).upd.vbusOn = true := by
  obtain ⟨v, hv⟩ : ∃ v, v = ((((s.wr UPD_STAT_STATE 4).wr UPD_STAT_ORIENT (bit cc2)).wr UPD_STAT_PROLE 1).wr UPD_STAT_DROLE 1).wr UPD_STAT_ATTEV 1 :=
    ⟨_, rfl⟩
  have hattach : s.attachAs true = (v.setUpd (fun u => { u with src := true, vbusOn := true, ref := 250, noCaps := 0, nonPd := false })).capsSend := by
    rw [hv]
    simp only [State.attachAs, hseen, Option.getD_some, if_true]
    rfl
  have hstep := State.sorted_wr hsorted UPD_STAT_STATE 4 0 0
  obtain ⟨hregs, hvbus⟩ := State.capsSend_shows (v.setUpd (fun u => { u with src := true, vbusOn := true, ref := 250, noCaps := 0, nonPd := false }))
  rw [← hattach] at hregs hvbus
  have hrd : ∀ G : Field, (s.attachAs true).rd G = v.rd G := fun G => State.rd_of_regs hregs G 0 0
  refine ⟨?_, ?_, ?_, ?_, ?_, hvbus⟩
  · rw [hrd, hv, State.rd_wr_ne (by decide), State.rd_wr_ne (by decide), State.rd_wr_ne (by decide), State.rd_wr_ne (by decide)]
    exact State.rd_wr_listed rfl (by decide) _ _ _
  · rw [State.on, hrd, hv, State.rd_wr_ne (by decide), State.rd_wr_ne (by decide), State.rd_wr_one_self ⟨by decide, rfl, rfl⟩]
    rfl
  · rw [State.on, hrd, hv, State.rd_wr_ne (by decide), State.rd_wr_one_self ⟨by decide, rfl, rfl⟩]
    rfl
  · rw [State.on, hrd, hv, State.rd_wr_one_self ⟨by decide, rfl, rfl⟩]
    rfl
  · rw [hrd, hv, State.rd_wr_ne (by decide), State.rd_wr_ne (by decide), State.rd_wr_ne (by decide), State.rd_wr_self hstep]
    cases cc2 <;> rfl

theorem State.tryEnd_of_over {seen : Bool} (hstate : s.attIs .try_ = true) (hran : s.updRan 4 (if seen then 10 else 100) = true) (cur : Nat) :
    s.tryEnd seen cur = (s.setUpd (fun u => { u with seen := some ((s.upd.seen.getD (false, false, 0)).1,
      !((s.rd UPD_CTRL_PREF == 2) == seen), cur) })).attachAs ((s.rd UPD_CTRL_PREF == 2) == seen) := by
  simp only [State.tryEnd, hstate, hran, Bool.not_true, Bool.or_self, Bool.false_eq_true, if_false]

theorem State.toggle_of_over (hstate : s.attIs .unattached = true) (htog : s.toggles = true) (hran : s.updRan 6 50 = true) :
    s.toggle = ({ s with upd := { s.upd with rp := !s.upd.rp } } : State).stampUpd 6 := by
  simp only [State.toggle, hstate, htog, hran, Bool.and_self, if_true, State.setUpd]

/-! Detach (R467). -/

theorem State.sinkDetach_of_low (hstate : s.attIs .snk = true) (hwait : s.upd.wait = .none) (hlow : 2500 ≤ s.upd.low) :
    s.sinkDetach = s.detachTo .unattached := by
  have hswap : [PdWait.safe0, .safe5, .recover, .oldOff, .discharge, .newOn].contains PdWait.none = false := by decide
  simp only [State.sinkDetach, hstate, hwait, hswap, decide_eq_true hlow, Bool.not_false, Bool.and_self, if_true]

theorem State.feedLeft_of_source (hstate : s.attIs .src = true) (hpath : s.pathIs .on = false) : s.feedLeft = s.detachTo .errrec := by
  simp only [State.feedLeft, hstate, hpath, Bool.not_false, Bool.and_self, if_true]

theorem State.detachTo_of_attached (hatt : s.attached = true) (a : AttState) :
    s.detachTo a = ((((s.portClear.wr UPD_STAT_STATE a.code).stampUpd 4).wr UPD_STAT_DETEV 1).sat UPD_CNT_COUNT 6).sinkShow := by
  simp only [State.detachTo, hatt, if_true, State.updCount]

theorem State.rd_wrFree_ne {F G : Field} (h : F.key 0 0 ≠ G.key 0 0) : (s.wrFree F).rd G = s.rd G := State.rd_wr_ne (s := (s.free F.width).2) h _

/-- What the end of an attachment without a mode leaves: no contract, no roles, no wait. -/
theorem State.portClear_shows (hmode : s.rd UPD_ALTSTAT_MODE = 0) (hsorted : Tab.sorted s.regs = true) :
    s.portClear.rd UPD_CONTRACT_VALID = 0 ∧ s.portClear.rd UPD_STAT_PROLE = 0 ∧ s.portClear.rd UPD_STAT_DROLE = 0 ∧ s.portClear.upd.wait = .none ∧
      Tab.sorted s.portClear.regs = true := by
  unfold State.portClear
  extract_lets t1 t2 t3
  have ht1 : t1 = (s.setUpd (fun u => { u with vdm := .none })).contractEnd := by
    unfold t1
    rw [State.modeEnd_of_none hmode]
  have hst2 : Tab.sorted t2.regs = true := by
    have hst1 : Tab.sorted t1.regs = true := by
      rw [ht1]
      exact State.sorted_contractEnd hsorted
    exact hst1
  have hv2 : t2.rd UPD_CONTRACT_VALID = 0 := by
    have hv1 : t1.rd UPD_CONTRACT_VALID = 0 := by
      rw [ht1]
      exact State.valid_contractEnd hsorted
    exact hv1
  have hw2 : t2.upd.wait = .none := rfl
  clear_value t2
  have hp := State.sorted_wr hst2 UPD_STAT_PROLE 0 0 0
  have hst3 : Tab.sorted t3.regs = true := State.sorted_wr (State.sorted_wr (State.sorted_wr (State.sorted_wr hp _ _ _ _) _ _ _ _) _ _ _ _) _ _ _ _
  have hv3 : t3.rd UPD_CONTRACT_VALID = 0 := by
    unfold t3
    rw [State.rd_wr_ne (by decide), State.rd_wr_ne (by decide), State.rd_wr_ne (by decide), State.rd_wr_ne (by decide), State.rd_wr_ne (by decide), hv2]
  have hp3 : t3.rd UPD_STAT_PROLE = 0 := by
    unfold t3
    rw [State.rd_wr_ne (by decide), State.rd_wr_ne (by decide), State.rd_wr_ne (by decide), State.rd_wr_ne (by decide), State.rd_wr_self hst2]
    rfl
  have hd3 : t3.rd UPD_STAT_DROLE = 0 := by
    unfold t3
    rw [State.rd_wr_ne (by decide), State.rd_wr_ne (by decide), State.rd_wr_ne (by decide), State.rd_wr_self hp]
    rfl
  have hw3 : t3.upd.wait = .none := hw2
  clear_value t3
  split
  · have hread : ∀ {G : Field}, UPD_STAT_CMDBUSY.key 0 0 ≠ G.key 0 0 → UPD_STAT_CMDCODE.key 0 0 ≠ G.key 0 0 →
        (((t3.wrFree UPD_STAT_CMDCODE).wr UPD_STAT_CMDBUSY 0).setUpd (fun u => { u with cmd := none, run := none })).rd G = t3.rd G :=
      fun h1 h2 => (State.rd_wr_ne (s := t3.wrFree UPD_STAT_CMDCODE) h1 0).trans (State.rd_wrFree_ne h2)
    exact ⟨(hread (by decide) (by decide)).trans hv3, (hread (by decide) (by decide)).trans hp3, (hread (by decide) (by decide)).trans hd3, hw3,
      State.sorted_wr (State.sorted_wr hst3 UPD_STAT_CMDCODE _ 0 0) UPD_STAT_CMDBUSY 0 0 0⟩
  · exact ⟨hv3, hp3, hd3, hw3, hst3⟩

/-- A port without a mode that leaves ATTACHED. -/
theorem State.detachTo_effects (hatt : s.attached = true) (hmode : s.rd UPD_ALTSTAT_MODE = 0) (hsorted : Tab.sorted s.regs = true) (a : AttState) :
    (s.detachTo a).rd UPD_STAT_STATE = a.code ∧ (s.detachTo a).on UPD_CONTRACT_VALID = false ∧ (s.detachTo a).on UPD_STAT_PROLE = false ∧
      (s.detachTo a).on UPD_STAT_DROLE = false ∧ (s.detachTo a).on UPD_STAT_DETEV = true ∧ (s.detachTo a).upd.wait = .none := by
  obtain ⟨hvalid, hprole, hdrole, hwait, hclear⟩ := State.portClear_shows hmode hsorted
  rw [State.detachTo_of_attached hatt]
  generalize s.portClear = c at hvalid hprole hdrole hwait hclear
  obtain ⟨v, hv⟩ : ∃ v, v = (((c.wr UPD_STAT_STATE a.code).stampUpd 4).wr UPD_STAT_DETEV 1).sat UPD_CNT_COUNT 6 := ⟨_, rfl⟩
  have hread : ∀ {G : Field}, UPD_STAT_STATE.key 0 0 ≠ G.key 0 0 → UPD_STAT_DETEV.key 0 0 ≠ G.key 0 0 → UPD_CNT_COUNT.key 6 0 ≠ G.key 0 0 →
      v.rd G = c.rd G := fun h1 h2 h3 => by
    rw [hv]
    exact (State.rd_wr_ne (F := UPD_CNT_COUNT) h3 _).trans ((State.rd_wr_ne (F := UPD_STAT_DETEV) h2 1).trans (State.rd_wr_ne (s := c) h1 _))
  have hstate : v.rd UPD_STAT_STATE = a.code := by
    rw [hv]
    refine (State.rd_wr_ne (F := UPD_CNT_COUNT) (by decide) _).trans ((State.rd_wr_ne (F := UPD_STAT_DETEV) (by decide) 1).trans
      ((State.rd_wr_self (s := c) hclear _ _ _ _).trans ?_))
    cases a <;> rfl
  have hdet : v.rd UPD_STAT_DETEV = 1 := by
    rw [hv]
    exact (State.rd_wr_ne (F := UPD_CNT_COUNT) (by decide) _).trans (State.rd_wr_one_self ⟨by decide, rfl, rfl⟩ _ _ _)
  have hwaitv : v.upd.wait = .none := by
    rw [hv]
    exact hwait
  rw [← hv]
  have hshow := FaultKept.sinkShow v
  have hshown : ∀ G ∈ updShown, v.sinkShow.rd G = v.rd G := fun G hG => hshow.fields G hG 0 (by decide)
  refine ⟨(hshown _ (by decide)).trans hstate, ?_, ?_, ?_, ?_, (congrArg Upd.wait hshow.upd).trans hwaitv⟩
  · rw [State.on, hshown _ (by decide), hread (by decide) (by decide) (by decide), hvalid]
    rfl
  · rw [State.on, hshown _ (by decide), hread (by decide) (by decide) (by decide), hprole]
    rfl
  · rw [State.on, hshown _ (by decide), hread (by decide) (by decide) (by decide), hdrole]
    rfl
  · rw [State.on, hshown _ (by decide), hdet]
    rfl

/-! Contracts (R471 to R477). -/

section
variable (hstate : s.attIs .snk = true) (hpd : s.pdOn = true) (hwait : s.upd.wait = .caps) {objs : List Nat}
include hstate hpd hwait

theorem State.capsReceive_of_good (hok : capsOk objs = true) : s.capsReceive objs =
    (s.pdSeen.setUpd (fun u => { u with caps := objs, noCaps := 0 })).requestSend
      ((s.pdSeen.setUpd (fun u => { u with caps := objs, noCaps := 0 })).chooseObject objs) := by
  have hcaps : [PdWait.none, .caps, .safe5, .request, .psRdy].contains PdWait.caps = true := by decide
  simp only [State.capsReceive, hstate, hpd, hwait, hcaps, hok, Bool.not_true, Bool.or_self, Bool.false_eq_true, if_false]

theorem State.capsReceive_of_bad (hbad : capsOk objs = false) : s.capsReceive objs = (s.sat UPD_CNT_COUNT 2).wr UPD_STAT_REJEV 1 := by
  have hcaps : [PdWait.none, .caps, .safe5, .request, .psRdy].contains PdWait.caps = true := by decide
  simp only [State.capsReceive, hstate, hpd, hwait, hcaps, hbad, Bool.not_true, Bool.or_self, Bool.false_eq_true, if_false, Bool.not_false, if_true,
    State.pdBad, State.updReject, State.updCount]

end

section
variable (hstate : s.attIs .src = true) (hpd : s.pdOn = true) (hwait : s.upd.wait = .offer) {w : Nat}
include hstate hpd hwait

theorem State.requestReceive_of_granted {pos v i : Nat} {s1 : State} (hpos : pos = bitsOf w 31 28) (hfirst : pos ≠ 0) (hlast : pos ≤ s.offers.length)
    (hgrant : State.requestGrant (s.offers.getD (pos - 1) (false, 0, 0)) w = some (v, i))
    (hs1 : s1 = ((((s.pdSeen.setUpd (fun u => { u with ref := v })).pdSend .accept).pdSend .psRdy).contractSet pos
      (s.offers.getD (pos - 1) (false, 0, 0)).1 v i)) : s.requestReceive w = (s1.pdWait .none).updSettle := by
  have hin : (decide (pos = 0) || decide (pos > s.offers.length)) = false := by
    rw [decide_eq_false hfirst, decide_eq_false (Nat.not_lt.mpr hlast)]
    rfl
  have hidle : (PdWait.offer == .none || PdWait.offer == .offer) = true := by decide
  simp only [State.requestReceive, hstate, hpd, hwait, hidle, Bool.not_true, Bool.or_self, Bool.false_eq_true, if_false, ← hpos, hin, hgrant, ← hs1,
    State.exchangeEnd]

theorem State.requestReceive_of_unoffered (hpos : bitsOf w 31 28 = 0 ∨ bitsOf w 31 28 > s.offers.length) :
    s.requestReceive w = (s.sat UPD_CNT_COUNT 2).wr UPD_STAT_REJEV 1 := by
  have hout : (decide (bitsOf w 31 28 = 0) || decide (bitsOf w 31 28 > s.offers.length)) = true := by simpa using hpos
  have hidle : (PdWait.offer == .none || PdWait.offer == .offer) = true := by decide
  simp only [State.requestReceive, hstate, hpd, hwait, hidle, Bool.not_true, Bool.or_self, Bool.false_eq_true, if_false, hout, if_true, State.pdBad,
    State.updReject, State.updCount]

end

theorem State.psRdyReceive_of_waiting (hwait : s.upd.wait = .psRdy) :
    s.psRdyReceive = ((s.contractSet s.upd.req.pos s.upd.req.pps s.upd.req.v s.upd.req.i).pdWait .none).updSettle.sinkShow := by
  simp only [State.psRdyReceive, hwait, State.exchangeEnd]

/-! Timers (R470, R474, R476). -/

theorem State.pdExpiry_of_over {k : Nat} (hran : s.pdRuns k = true) : s.pdExpiry k = s.pdEnds k := if_pos hran

section
variable {m : PdMsg} (hout : s.upd.out = [m]) (hran : s.updRan 0 1 = true)
include hout hran

theorem State.pdExpiry_retry (htries : s.upd.tries < 2) :
    s.pdExpiry 0 = ({ s with upd := { s.upd with tries := s.upd.tries + 1 } } : State).stampUpd 0 := by
  have hlast : s.upd.out.getLast? = some m := by rw [hout]; rfl
  have hsame : s.setUpd (fun u => { u with out := [m], tries := u.tries + 1 }) = { s with upd := { s.upd with tries := s.upd.tries + 1 } } := by
    rw [State.setUpd, ← hout]
  rw [State.pdExpiry_of_over (k := 0) hran]
  simp only [State.pdEnds, hlast, if_pos htries, hsame]

theorem State.pdExpiry_giveUp (htries : s.upd.tries ≥ 2) :
    s.pdExpiry 0 = ((s.setUpd (fun u => { u with tries := 0, out := [], vdm := .none })).updCmdEnd .timeout).exchangeEnd := by
  have hlast : s.upd.out.getLast? = some m := by rw [hout]; rfl
  rw [State.pdExpiry_of_over (k := 0) hran]
  simp only [State.pdEnds, hlast, if_neg (Nat.not_lt.mpr htries)]

end

section
variable (hwait : s.upd.wait = .caps) (hran : s.updRan 1 465 = true)
include hwait hran

theorem State.pdExpiry_noCaps (hfew : s.upd.noCaps < 2) : s.pdExpiry 1 = (s.setUpd (fun u => { u with noCaps := u.noCaps + 1 })).hardResetSend := by
  have hcaps : [PdWait.caps, .safe0, .safe5].contains PdWait.caps = true := by decide
  rw [State.pdExpiry_of_over (k := 1) hran]
  simp only [State.pdEnds, hwait, hcaps, Bool.not_true, Bool.false_eq_true, if_false, if_pos hfew]

theorem State.pdExpiry_nonPd (hmany : s.upd.noCaps ≥ 2) :
    s.pdExpiry 1 = (((s.pdWait .none).wr UPD_STAT_PD 0).setUpd (fun u => { u with nonPd := true })).sinkShow := by
  have hcaps : [PdWait.caps, .safe0, .safe5].contains PdWait.caps = true := by decide
  rw [State.pdExpiry_of_over (k := 1) hran]
  simp only [State.pdEnds, hwait, hcaps, Bool.not_true, Bool.false_eq_true, if_false, if_neg (Nat.not_lt.mpr hmany)]

end

theorem State.requestDue_of_free (hex : s.exchange = false) (htx : s.txOk = true) (r : PdReq) : s.requestDue r = s.requestSend r := by
  simp only [State.requestDue, hex, htx, Bool.not_true, Bool.or_self, Bool.false_eq_true, if_false]

theorem State.keepAlive_of_due (hpps : s.ppsSink = true) (hpd : s.pdOn = true) (hran : s.updRan 5 (1000 * s.rd UPD_SNKCFG_KEEPALIVE) = true) :
    s.keepAlive = s.requestDue s.upd.req := by
  simp only [State.keepAlive, hpps, hpd, hran, Bool.and_self, if_true]

theorem State.waitRepeat_of_due (hagain : s.upd.again = true) (hstate : s.attIs .snk = true) (hpd : s.pdOn = true) (hran : s.updRan 7 100 = true) :
    s.waitRepeat = (s.setUpd (fun u => { u with again := false })).requestDue s.upd.req := by
  simp only [State.waitRepeat, hagain, hstate, hpd, hran, Bool.and_self, if_true]

theorem State.sourceLimit_of_excess (hstate : s.attIs .src = true) (hex : 25000 ≤ s.upd.excess) :
    s.sourceLimit = (((s.wr UPD_STAT_CLEV 1).sat UPD_CNT_COUNT 5).fault 25 0).hardResetSend := by
  simp only [State.sourceLimit, hstate, decide_eq_true hex, Bool.and_self, if_true, State.updCount]

end

theorem State.attached_of_sink {s : State} (hstate : s.attIs .snk = true) : s.attached = true := by rw [State.attached, hstate, Bool.true_or]

theorem State.attached_of_source {s : State} (hstate : s.attIs .src = true) : s.attached = true := by rw [State.attached, hstate, Bool.or_true]

/-- Settles O49, clause by clause. -/
theorem usbCAttachAndContracts : Obligations.UsbCAttachAndContracts := by
  refine ⟨fun va vb vc vout vbus raw held s s0 s1 s2 _ hs0 hs1 hoff hwait hs2 => ?_, fun v s hwait hv => State.vbusSample_of_discharged hwait hv,
    fun cc2 rp cur s e he hstate hrp => ?_, fun cc2 cur s e he hstate hran hseen hpref hv => ?_,
    fun cc2 cur s e he hstate hran hseen htog hpref => ?_, fun cc2 cur s hstate hran hseen htog hsorted => ?_,
    fun seen cur s e he hstate hran => ?_, fun s hstate htog hran => congrArg Host.Outcome.next (State.toggle_of_over hstate htog hran),
    fun s hstate hwait hlow => congrArg Host.Outcome.next (State.sinkDetach_of_low (s := s.updEvent) hstate hwait hlow),
    fun s hstate hwait hlow hmode hsorted => ⟨_, congrArg Host.Outcome.next (State.sinkDetach_of_low (s := s.updEvent) hstate hwait hlow),
      State.detachTo_effects (s := s.updEvent) (State.attached_of_sink hstate) hmode hsorted .unattached⟩,
    fun s hstate => congrArg Host.Outcome.next (if_pos hstate),
    fun s hstate hmode hsorted => ⟨_, congrArg Host.Outcome.next (if_pos hstate),
      State.detachTo_effects (s := s.updEvent) (State.attached_of_source hstate) hmode hsorted .unattached⟩,
    fun a s hatt => State.detachTo_of_attached hatt a, fun s hstate hran => congrArg Host.Outcome.next (if_pos ?_),
    fun s hstate hpath => congrArg Host.Outcome.next (State.feedLeft_of_source (s := s.updEvent) hstate hpath),
    fun s hstate hpath hmode hsorted => ⟨_, congrArg Host.Outcome.next (State.feedLeft_of_source (s := s.updEvent) hstate hpath),
      State.detachTo_effects (s := s.updEvent) (State.attached_of_source hstate) hmode hsorted .errrec⟩,
    fun objs s e he hstate hpd hwait hok => ?_, fun objs s e he hstate hpd hwait hbad => ?_,
    fun w pos v i s e s1 he hstate hpd hwait hpos hfirst hlast hgrant hs1 => ?_, fun w s e he hstate hpd hwait hpos => ?_,
    fun s e he hwait => ?_, fun m s hout htries hran => congrArg Host.Outcome.next (State.pdExpiry_retry hout hran htries),
    fun m s hout htries hran => congrArg Host.Outcome.next (State.pdExpiry_giveUp hout hran htries), fun s e he hwait hfew hran => ?_,
    fun s e he hwait hmany hran => ?_, fun s e he hpps hpd hran hex htx => ?_, fun s e he hagain hstate hpd hran hex htx => ?_,
    fun s e he hstate hex => ?_⟩
  · exact congrArg Host.Outcome.next ((congrArg (fun u => State.vbusSample u vbus.toNat) (State.limitStep_of_off hs0 hs1 hoff)).trans
      (State.vbusSample_of_idle hs2 hwait))
  · subst he
    exact congrArg Host.Outcome.next (State.termination_of_unattached hstate hrp _)
  · subst he
    exact congrArg Host.Outcome.next (State.debounced_of_source hstate hran hseen hpref hv)
  · subst he
    exact congrArg Host.Outcome.next (State.debounced_of_try hstate hran hseen htog hpref)
  · exact ⟨_, congrArg Host.Outcome.next (State.debounced_of_sink (s := s.updEvent) hstate hran hseen htog),
      State.attachAs_source (s := s.updEvent) hseen hsorted⟩
  · subst he
    exact congrArg Host.Outcome.next (State.tryEnd_of_over hstate hran _)
  · rw [State.attIs, hstate, hran]
    rfl
  · subst he
    exact congrArg Host.Outcome.next (State.capsReceive_of_good hstate hpd hwait hok)
  · subst he
    exact congrArg Host.Outcome.next (State.capsReceive_of_bad hstate hpd hwait hbad)
  · subst he
    exact congrArg Host.Outcome.next (State.requestReceive_of_granted hstate hpd hwait hpos hfirst hlast hgrant hs1)
  · subst he
    exact congrArg Host.Outcome.next (State.requestReceive_of_unoffered hstate hpd hwait hpos)
  · subst he
    exact congrArg Host.Outcome.next (State.psRdyReceive_of_waiting hwait)
  · subst he
    exact congrArg Host.Outcome.next (State.pdExpiry_noCaps hwait hran hfew)
  · subst he
    exact congrArg Host.Outcome.next (State.pdExpiry_nonPd hwait hran hmany)
  · subst he
    exact congrArg Host.Outcome.next ((State.keepAlive_of_due hpps hpd hran).trans (State.requestDue_of_free hex htx _))
  · subst he
    exact congrArg Host.Outcome.next ((State.waitRepeat_of_due hagain hstate hpd hran).trans (State.requestDue_of_free
      (s := s.updEvent.setUpd (fun u => { u with again := false })) hex htx _))
  · subst he
    exact congrArg Host.Outcome.next (State.sourceLimit_of_excess hstate hex)

end Sys2Proof.Machine
end

section
/-! PROOFS. Power commands, the handshake, operating points, waking, rails and clocks (R489 to R498, R523). -/

open Sys2Proof

namespace Sys2Proof.Machine

/-! Power commands (R489, R490, R496). -/

section
variable {s : State}

theorem State.changeTo_of_lower {st : Nat} {s1 s2 : State} (hop : s.opOf st > s.rd PWR_STAT_OP) (hs1 : s1 = s.clocks (s.opOf st))
    (hs2 : s2 = (s1.setTarget (s.rd PWR_OPV_TARGET (s.opOf st))).wr PWR_STAT_BUSY 1) :
    s.changeTo st = ({ s2 with pwr := { s2.pwr with change := some { op := s.opOf st, raise := false, goal := st } } } : State).arm .avs
      (s.rd PWR_CFG_AVSTO * 100000) := by
  simp only [State.changeTo, if_neg (Nat.ne_of_gt hop), if_pos hop, decide_eq_false (Nat.lt_asymm hop), ← hs1, ← hs2]

theorem State.changeTo_of_higher {st : Nat} {s2 : State} (hop : s.opOf st < s.rd PWR_STAT_OP)
    (hs2 : s2 = (s.setTarget (s.rd PWR_OPV_TARGET (s.opOf st))).wr PWR_STAT_BUSY 1) :
    s.changeTo st = ({ s2 with pwr := { s2.pwr with change := some { op := s.opOf st, raise := true, goal := st } } } : State).arm .avs
      (s.rd PWR_CFG_AVSTO * 100000) := by
  simp only [State.changeTo, if_neg (Nat.ne_of_lt hop), if_neg (Nat.lt_asymm hop), decide_eq_true hop, ← hs2]

section
variable {w : Nat} (hkey : bitsOf w 15 0 = 0x5A5A) (hgo : w.testBit 31 = true) (hbusy : s.on PWR_STAT_BUSY = false)
include hkey hgo hbusy

theorem State.pwrCmdWrite_of_point {st : Nat} (hpwr : s.rd PWR_STAT_STATE < 3) (hst : bitsOf w 18 16 = st) (hlow : st ≤ 1)
    (hne : s.rd PWR_STAT_STATE ≠ st) : s.pwrCmdWrite w = s.changeTo st := by
  have hon : ¬ s.rd PWR_STAT_STATE ≥ pwDormant := Nat.not_le.mpr hpwr
  have hkey' : ¬ bitsOf w 15 0 ≠ cmdKey := not_not_intro hkey
  have hok : (decide (st > pwOff) || s.on PWR_STAT_BUSY || decide (st = s.rd PWR_STAT_STATE)) = false := by
    rw [decide_eq_false (Nat.not_lt.mpr (Nat.le_trans hlow (by decide))), hbusy, decide_eq_false (Ne.symm hne)]
    rfl
  have hpoint : st ≤ pwTrim := hlow
  simp only [State.pwrCmdWrite, hst, if_neg hon, if_neg hkey', hgo, Bool.not_true, Bool.false_eq_true, if_false, hok, if_pos hpoint]

/-- A command to HUSH, DORMANT or OFF from RUN or TRIM asks every block; none refuses, and those that delay are waited for. -/
theorem State.pwrCmdWrite_of_ask {st : Nat} {s0 s1 : State} (hpwr : s.rd PWR_STAT_STATE < 2) (hst : bitsOf w 18 16 = st) (hlow : 2 ≤ st) (hhigh : st ≤ 4)
    (hs0 : s0 = { (s.wr PWR_STAT_BUSY 1) with
      pwr := { s.pwr with ask := some st, waiting := (List.range 24).filter s.blkDelays, fwDelay := false } })
    (hs1 : s1 = s0.each ((List.range 24).filter s.blkDelays) (fun x k => x.arm (.handshake k) (x.blkBound k)))
    (hnone : (List.range 24).find? (s.blkRefuses st) = none) : s.pwrCmdWrite w = s1 := by
  have hon : ¬ s.rd PWR_STAT_STATE ≥ pwDormant := Nat.not_le.mpr (Nat.lt_trans hpwr (by decide))
  have hkey' : ¬ bitsOf w 15 0 ≠ cmdKey := not_not_intro hkey
  have hok : (decide (st > pwOff) || s.on PWR_STAT_BUSY || decide (st = s.rd PWR_STAT_STATE)) = false := by
    rw [decide_eq_false (p := st > pwOff) (Nat.not_lt.mpr hhigh), hbusy, decide_eq_false (by omega)]
    rfl
  have hask : ¬ st ≤ pwTrim := Nat.not_le.mpr hlow
  have hhush : ¬ s.rd PWR_STAT_STATE = pwHush := Nat.ne_of_lt hpwr
  have hstart : s.askStart st = s1 := by
    simp only [State.askStart, hnone, ← hs0, ← hs1]
  simp only [State.pwrCmdWrite, hst, if_neg hon, if_neg hkey', hgo, Bool.not_true, Bool.false_eq_true, if_false, hok, if_neg hask, if_neg hhush, hstart]

end

theorem State.pwrCmdWrite_of_rejected {w : Nat} (hpwr : s.rd PWR_STAT_STATE < 3) (hbad : bitsOf w 15 0 ≠ 0x5A5A ∨
      (w.testBit 31 = true ∧ (bitsOf w 18 16 > 4 ∨ s.on PWR_STAT_BUSY = true ∨ bitsOf w 18 16 = s.rd PWR_STAT_STATE))) :
    s.pwrCmdWrite w = s.wr PWR_STAT_CMDREJ 1 := by
  have hon : ¬ s.rd PWR_STAT_STATE ≥ pwDormant := Nat.not_le.mpr hpwr
  by_cases hkey : bitsOf w 15 0 ≠ cmdKey
  · simp only [State.pwrCmdWrite, if_neg hon, if_pos hkey, State.pwrReject]
  · obtain ⟨hgo, hwhy⟩ := hbad.resolve_left hkey
    have hrej : (decide (bitsOf w 18 16 > pwOff) || s.on PWR_STAT_BUSY || decide (bitsOf w 18 16 = s.rd PWR_STAT_STATE)) = true := by
      rcases hwhy with h | h | h
      · rw [decide_eq_true (p := bitsOf w 18 16 > pwOff) h, Bool.true_or, Bool.true_or]
      · rw [h, Bool.or_true, Bool.true_or]
      · rw [decide_eq_true h, Bool.or_true]
    simp only [State.pwrCmdWrite, if_neg hon, if_neg hkey, hgo, Bool.not_true, Bool.false_eq_true, if_false, hrej, if_true, State.pwrReject]

/-! The handshake (R490 to R492). -/

section
variable {k : Nat} (hwait : s.pwr.waiting.contains k = true)
include hwait

theorem State.askAnswer_of_refusal {st : Nat} (hask : s.pwr.ask = some st) (hk : k ≠ 23) (href : s.blkRefuses st k = true) :
    s.askAnswer k = ((s.askAbort .refused).wr PWR_STAT_REFBLK k).sat PWR_CNT_COUNT 1 := by
  simp only [State.askAnswer, hask, decide_eq_false hk, hwait, Bool.not_true, Bool.or_self, Bool.false_eq_true, if_false, href, if_true, State.askRefused]

theorem State.askAnswer_of_ack {st : Nat} (hask : s.pwr.ask = some st) (hk : k ≠ 23) (href : s.blkRefuses st k = false)
    (hdelay : s.blkDelays k = false) : s.askAnswer k = s.askAck k := by
  simp only [State.askAnswer, hask, decide_eq_false hk, hwait, Bool.not_true, Bool.or_self, Bool.false_eq_true, if_false, href, hdelay]

theorem State.askTimeout_of_block (hdue : s.due (.handshake k) = true) (hdma : k ≠ 13) (hfw : k ≠ 23) :
    s.askTimeout k = ((s.askAbort .timeout).wr PWR_STAT_REFBLK k).sat PWR_CNT_COUNT 1 := by
  simp only [State.askTimeout, hwait, hdue, Bool.not_true, Bool.or_self, Bool.false_eq_true, if_false, if_neg hdma, decide_eq_false hfw, Bool.false_and,
    State.askRefused]

end

/-- An acknowledgement with other blocks still awaited. -/
theorem State.askAck_of_others {st k : Nat} (hask : s.pwr.ask = some st) (hmore : s.pwr.waiting.filter (· != k) ≠ []) :
    s.askAck k = { s with pwr := { s.pwr with waiting := s.pwr.waiting.filter (· != k) } } := by
  have hempty : (s.pwr.waiting.filter (· != k)).isEmpty = false := by
    rw [Bool.eq_false_iff, ne_eq, List.isEmpty_iff]
    exact hmore
  simp only [State.askAck, State.askDone, hask, hempty, Bool.not_false, if_true]

/-- The last acknowledgement. -/
theorem State.askAck_of_last {st k : Nat} (hask : s.pwr.ask = some st) (hlast : s.pwr.waiting = [k]) :
    s.askAck k = if st = pwHush then ({ s with pwr := { s.pwr with ask := none, waiting := [], fwDelay := false } } : State).enterHush
      else ({ s with pwr := { s.pwr with ask := none, waiting := [], fwDelay := false } } : State).enterDark st := by
  have hnone : s.pwr.waiting.filter (· != k) = [] := by
    rw [hlast]
    simp
  simp only [State.askAck, State.askDone, hask, hnone, List.isEmpty_nil, Bool.not_true, Bool.false_eq_true, if_false]

section
variable {w : Nat}

theorem State.fwAnswer_of_ack (hwait : s.pwr.waiting.contains 23 = true) (hw : bitsOf w 1 0 = 1) : s.fwAnswer w = s.askAck 23 := by
  simp only [State.fwAnswer, hwait, hw, Bool.not_true, Bool.false_eq_true, if_false]

theorem State.fwAnswer_of_delay (hwait : s.pwr.waiting.contains 23 = true) (hw : bitsOf w 1 0 = 3) (hfirst : s.pwr.fwDelay = false) :
    s.fwAnswer w = ({ s with pwr := { s.pwr with fwDelay := true } } : State).arm (.handshake 23) 1000000000 := by
  simp only [State.fwAnswer, hwait, hw, hfirst, Bool.not_true, Bool.false_eq_true, if_false]

theorem State.fwAnswer_of_refusal (hwait : s.pwr.waiting.contains 23 = true) (hw : bitsOf w 1 0 = 2) :
    s.fwAnswer w = ((s.askAbort .refused).wr PWR_STAT_REFBLK 23).sat PWR_CNT_COUNT 1 := by
  simp only [State.fwAnswer, hwait, hw, Bool.not_true, Bool.false_eq_true, if_false, State.askRefused]

end

theorem State.askTimeout_of_dma (hwait : s.pwr.waiting.contains 13 = true) (hdue : s.due (.handshake 13) = true) : s.askTimeout 13 = s.askAck 13 := by
  simp only [State.askTimeout, hwait, hdue, Bool.not_true, Bool.or_self, Bool.false_eq_true, if_false, if_true]

theorem State.askTimeout_of_firmware (hwait : s.pwr.waiting.contains 23 = true) (hdue : s.due (.handshake 23) = true) :
    s.askTimeout 23 = ((s.askAbort (if s.pwr.fwDelay then .timeout else .refused)).wr PWR_STAT_REFBLK 23).sat PWR_CNT_COUNT 1 := by
  have hne : ¬ 23 = 13 := by decide
  cases hd : s.pwr.fwDelay <;>
    simp only [State.askTimeout, hwait, hdue, hd, Bool.not_true, Bool.not_false, Bool.or_self, Bool.false_eq_true, if_false, if_neg hne, decide_true,
      Bool.and_self, Bool.and_false, if_true, State.askRefused]

/-! Waking (R491, R493). -/

/-- In HUSH every wake source acts. -/
theorem State.wakeActs_hush (k : Nat) : State.wakeActs k pwHush = true := by
  by_cases h2 : k ≤ 2
  · simp [State.wakeActs, pwHush, pwOff, h2]
  · by_cases h3 : k = 3
    · simp [State.wakeActs, pwHush, h3]
    · have h4 : 4 ≤ k := by omega
      simp [State.wakeActs, pwHush, h4]

theorem State.wake_of_hush {k : Nat} {s1 : State} (hen : s.bitAt PWR_WAKE_EN k = true) (hask : s.pwr.ask = none) (hpwr : s.rd PWR_STAT_STATE = pwHush)
    (hwaking : s.pwr.waking = false) (hs1 : s1 = ((s.putBit PWR_WCAUSE_CAUSE k true).wr PWR_STAT_WAKEEV 1).sat PWR_CNT_COUNT 3)
    (hchange : s.pwr.change = none) : s.wake k = s1.changeTo s1.pwr.before := by
  have hchange1 : s1.pwr.change = none := by rw [hs1]; exact hchange
  simp only [State.wake, hen, hask, hpwr, State.wakeActs_hush, hwaking, Option.isSome_none, Bool.not_true, Bool.or_self, Bool.false_eq_true, if_false,
    if_true, ← hs1, hchange1]

theorem State.wake_of_ask {k : Nat} (hen : s.bitAt PWR_WAKE_EN k = true) (hask : s.pwr.ask.isSome = true) (hk : k ≠ 1) :
    s.wake k = (s.askAbort .wake).wr PWR_STAT_WAKEEV 1 := by
  simp only [State.wake, hen, hask, Bool.not_true, Bool.false_eq_true, if_false, if_true, if_neg hk]

theorem State.wakeTimer_of_dormant {s1 : State} (hen : s.bitAt PWR_WAKE_EN 1 = true) (hask : s.pwr.ask = none) (hpwr : s.rd PWR_STAT_STATE = pwDormant)
    (hwaking : s.pwr.waking = false) (htime : s.pwr.wakeAt ≤ s.hsw.clock)
    (hs1 : s1 = ((s.putBit PWR_WCAUSE_CAUSE 1 true).wr PWR_STAT_WAKEEV 1).sat PWR_CNT_COUNT 3) :
    s.wakeTimer = { s1 with pwr := { s1.pwr with waking := true, railen := true } } := by
  have hacts : State.wakeActs 1 pwDormant = true := by decide
  have hne : ¬ pwDormant = pwHush := by decide
  simp only [State.wakeTimer, if_pos htime, State.wake, hen, hask, hpwr, hacts, hwaking, Option.isSome_none, Bool.not_true, Bool.or_self,
    Bool.false_eq_true, if_false, if_true, ← hs1, if_neg hne]

/-! Operating points (R495, R496). -/

section
variable {mv : Nat} {c : OpChange} (hchange : s.pwr.change = some c)
include hchange

theorem State.avsRead_of_near (hhigh : mv ≤ s.pwr.target + 10) (hlow : s.pwr.target ≤ mv + 10) :
    s.avsRead mv = ((((s.disarm .avs).wr PWR_STAT_OP c.op).clocks c.op).reached c.goal .ok).changeNext := by
  simp only [State.avsRead, hchange, decide_eq_true hhigh, decide_eq_true hlow, Bool.and_self, if_true]

theorem State.avsTimeout_of_raise {s1 s2 : State} (hraise : c.raise = true) (hdue : s.due .avs = true)
    (hs1 : s1 = (((s.disarm .avs).wr PWR_STAT_AVSEV 1).sat PWR_CNT_COUNT 2).fault 10 s.pwr.target)
    (hs2 : s2 = ((s1.setTarget (s.rd PWR_OPV_TARGET (s.rd PWR_STAT_OP))).wr PWR_STAT_BUSY 0).wr PWR_STAT_CODE (State.PwrCode.code .avsTo))
    (hnext : s2.pwr.next = none) : s.avsTimeout = { s2 with pwr := { s2.pwr with change := none } } := by
  have hlast : ({ s2 with pwr := { s2.pwr with change := none } } : State).changeNext = { s2 with pwr := { s2.pwr with change := none } } := by
    simp only [State.changeNext, hnext]
  simp only [State.avsTimeout, hchange, hdue, hraise, if_true, ← hs1, ← hs2, hlast]

end

theorem State.avsRead_of_far {mv : Nat} (hfar : mv > s.pwr.target + 10 ∨ s.pwr.target > mv + 10) : s.avsRead mv = s := by
  have hno : (decide (mv ≤ s.pwr.target + 10) && decide (s.pwr.target ≤ mv + 10)) = false := by
    rcases hfar with h | h
    · rw [decide_eq_false (Nat.not_le.mpr h), Bool.false_and]
    · rw [decide_eq_false (Nat.not_le.mpr h), Bool.and_false]
  unfold State.avsRead
  split
  · rfl
  · exact if_neg (by rw [hno]; exact Bool.false_ne_true)

/-- A power state reached from another than HUSH. -/
theorem State.reached_of_awake (hhush : s.rd PWR_STAT_STATE ≠ pwHush) (st : Nat) (c : State.PwrCode) : s.reached st c =
    { ((((s.wr PWR_STAT_STATE st).wr PWR_STAT_BUSY 0).wr PWR_STAT_CODE c.code).wr PWR_STAT_DONEEV 1).sat PWR_CNT_COUNT 0 with
      pwr := { s.pwr with change := none } } := by
  simp only [State.reached, decide_eq_false hhush, Bool.false_and, Bool.false_eq_true, if_false]
  rfl

/-- What a confirmed operating point shows. -/
theorem State.avsRead_shows {mv : Nat} {c : OpChange} (hchange : s.pwr.change = some c) (hhigh : mv ≤ s.pwr.target + 10) (hlow : s.pwr.target ≤ mv + 10)
    (hnext : s.pwr.next = none) (hhush : s.rd PWR_STAT_STATE ≠ pwHush) (hsorted : Tab.sorted s.regs = true) :
    (s.avsRead mv).rd PWR_STAT_OP = c.op % 4 ∧ (s.avsRead mv).rd PWR_STAT_STATE = c.goal % 8 ∧ (s.avsRead mv).on PWR_STAT_BUSY = false ∧
      (s.avsRead mv).on PWR_STAT_DONEEV = true ∧ (s.avsRead mv).pwr.change = none := by
  obtain ⟨u, hu⟩ : ∃ u, u = ((s.disarm .avs).wr PWR_STAT_OP c.op).clocks c.op := ⟨_, rfl⟩
  have hdisarm : Tab.sorted (s.disarm .avs).regs = true := hsorted
  have hsortedu : Tab.sorted u.regs = true := by
    rw [hu]
    exact State.sorted_wr (State.sorted_wr (State.sorted_wr hdisarm _ _ _ _) _ _ _ _) _ _ _ _
  have hop : u.rd PWR_STAT_OP = c.op % 4 := by
    rw [hu, State.clocks, State.rd_wr_ne (by decide), State.rd_wr_ne (by decide), State.rd_wr_self hdisarm]
    rfl
  have hstate : u.rd PWR_STAT_STATE ≠ pwHush := by
    rw [hu, State.clocks, State.rd_wr_ne (by decide), State.rd_wr_ne (by decide), State.rd_wr_ne (by decide)]
    exact hhush
  have hnextu : u.pwr.next = none := by
    rw [hu]
    exact hnext
  have hread : s.avsRead mv = u.reached c.goal .ok := by
    rw [State.avsRead_of_near hchange hhigh hlow, ← hu, State.reached_of_awake hstate]
    simp only [State.changeNext, hnextu]
  rw [hread, State.reached_of_awake hstate]
  obtain ⟨v, hv⟩ : ∃ v, v = (((u.wr PWR_STAT_STATE c.goal).wr PWR_STAT_BUSY 0).wr PWR_STAT_CODE (State.PwrCode.code .ok)).wr PWR_STAT_DONEEV 1 := ⟨_, rfl⟩
  rw [← hv]
  have hshown : ∀ {G : Field}, PWR_CNT_COUNT.key 0 0 ≠ G.key 0 0 →
      ({ v.sat PWR_CNT_COUNT 0 with pwr := { u.pwr with change := none } } : State).rd G = v.rd G := fun hG => State.rd_wr_ne (s := v) hG _
  refine ⟨?_, ?_, ?_, ?_, rfl⟩
  · rw [hshown (by decide), hv, State.rd_wr_ne (by decide), State.rd_wr_ne (by decide), State.rd_wr_ne (by decide), State.rd_wr_ne (by decide), hop]
  · rw [hshown (by decide), hv, State.rd_wr_ne (by decide), State.rd_wr_ne (by decide), State.rd_wr_ne (by decide), State.rd_wr_self hsortedu]
    rfl
  · rw [State.on, hshown (by decide), hv, State.rd_wr_ne (by decide), State.rd_wr_ne (by decide), State.rd_wr_self (State.sorted_wr hsortedu _ _ _ _)]
    rfl
  · rw [State.on, hshown (by decide), hv, State.rd_wr_one_self ⟨by decide, rfl, rfl⟩]
    rfl

/-! Rails and clocks (R453, R493, R498, R523). -/

theorem State.pathGood_of_off (hstate : s.rd HSW_STAT_STATE = 4) (hran : s.pathRan 1 = true) (hpwr : (s.wr HSW_STAT_PATHGD 1).rd PWR_STAT_STATE = pwOff)
    (hwaking : s.pwr.waking = true) : s.pathGood = { s.wr HSW_STAT_PATHGD 1 with pwr := { s.pwr with railen := true } } := by
  have hon : s.pathIs .on = true := State.pathIs_iff.mpr hstate
  have hwakes : (decide ((s.wr HSW_STAT_PATHGD 1).rd PWR_STAT_STATE = pwOff) && (s.wr HSW_STAT_PATHGD 1).pwr.waking) = true := by
    rw [decide_eq_true hpwr, Bool.true_and]
    exact hwaking
  simp only [State.pathGood, hon, hran, Bool.not_true, Bool.or_self, Bool.false_eq_true, if_false]
  exact if_pos hwakes

theorem State.railsGood_of_enabled (hen : s.pwr.railen = true) : s.railsGood = if s.rd PWR_STAT_STATE ≥ 3 then
    ({ s with pwr := { s.pwr with good := true } } : State).chipReset GEN_RSTCAUSE_DORMANT else { s with pwr := { s.pwr with good := true } } := by
  simp only [State.railsGood, hen, Bool.not_true, Bool.false_eq_true, if_false]
  rfl

theorem State.railLow_of_enabled (hpwr : s.rd PWR_STAT_STATE < 3) (hen : s.pwr.railen = true) :
    s.railLow = ({ s with pwr := { s.pwr with good := false } } : State).chipReset GEN_RSTCAUSE_PORST := by
  have hon : decide (s.rd PWR_STAT_STATE ≥ pwDormant) = false := decide_eq_false (Nat.not_le.mpr hpwr)
  simp only [State.railLow, hon, hen, Bool.not_true, Bool.or_self, Bool.false_eq_true, if_false]

theorem State.chipReset_pwr (hquiet : s.powerQuiet = true) (cause : Field) :
    (s.chipReset cause).pwr.railen = true ∧ (s.chipReset cause).pwr.good = s.pwr.good := by
  rw [State.chipReset_of_quiet hquiet]
  exact ⟨rfl, rfl⟩

end

theorem clkBit_of_pll (k : Fin 5) : State.clkBit (k + 1) =
    if k = 0 then CLK_STAT_SYSLK else if k = 1 then CLK_STAT_TIMELK else if k = 2 then CLK_STAT_LANELK else if k = 3 then CLK_STAT_MEMLK
    else CLK_STAT_PCIELK := by
  match k with
  | 0 | 1 | 2 | 3 | 4 => rfl

/-- A source other than the timer. -/
theorem exec_wakeEvent {k : Fin 6} (hk : k ≠ 1) (s : State) : exec (.wakeEvent k) s = .next (s.wake k) :=
  congrArg Host.Outcome.next (if_neg (fun h => hk (Fin.ext h)))

/-- Settles O48, clause by clause. -/
theorem powerStates : Obligations.PowerStates := by
  refine ⟨fun s hstate hran hpwr hwaking => congrArg Host.Outcome.next (State.pathGood_of_off hstate hran hpwr hwaking),
    fun w s s1 s2 hpwr hkey hgo hst hbusy hne hop hs1 hs2 => congrArg Host.Outcome.next
      ((State.pwrCmdWrite_of_point hkey hgo hbusy hpwr hst (by decide) hne).trans (State.changeTo_of_higher hop (hs1 ▸ hs2))),
    fun w s s1 s2 hpwr hkey hgo hst hbusy hne hop hs1 hs2 => congrArg Host.Outcome.next
      ((State.pwrCmdWrite_of_point hkey hgo hbusy hpwr hst (by decide) hne).trans (State.changeTo_of_lower hop hs1 hs2)),
    fun w s s0 s1 hpwr hkey hgo hst hbusy hs0 hs1 hnone => congrArg Host.Outcome.next
      (State.pwrCmdWrite_of_ask hkey hgo hbusy hpwr hst (by decide) (by decide) hs0 hs1 hnone),
    fun w s s0 s1 hpwr hkey hgo hst hbusy hs0 hs1 hnone => congrArg Host.Outcome.next
      (State.pwrCmdWrite_of_ask hkey hgo hbusy hpwr hst (by decide) (by decide) hs0 hs1 hnone),
    fun w s s0 s1 hpwr hkey hgo hst hbusy hs0 hs1 hnone => congrArg Host.Outcome.next
      (State.pwrCmdWrite_of_ask hkey hgo hbusy hpwr hst (by decide) (by decide) hs0 hs1 hnone),
    fun w s hpwr hbad => congrArg Host.Outcome.next (State.pwrCmdWrite_of_rejected hpwr hbad),
    fun st s s1 s2 hop hs1 hs2 => State.changeTo_of_lower hop hs1 hs2, fun st s s2 hop hs2 => State.changeTo_of_higher hop hs2,
    fun k st s hask hk hwait href => congrArg Host.Outcome.next (State.askAnswer_of_refusal hwait hask (fun h => hk (Fin.ext h)) href),
    fun k st s hask hk hwait href hdelay hmore => congrArg Host.Outcome.next
      ((State.askAnswer_of_ack hwait hask (fun h => hk (Fin.ext h)) href hdelay).trans (State.askAck_of_others hask hmore)),
    fun w s hask hlast hw => congrArg Host.Outcome.next ((State.fwAnswer_of_ack (by rw [hlast]; rfl) hw).trans
      ((State.askAck_of_last hask hlast).trans (if_pos rfl))),
    fun w st s hask hst hlast hw => congrArg Host.Outcome.next ((State.fwAnswer_of_ack (by rw [hlast]; rfl) hw).trans
      ((State.askAck_of_last hask hlast).trans (if_neg (by rcases hst with rfl | rfl <;> decide)))),
    fun w s hlast hw hfirst => congrArg Host.Outcome.next (State.fwAnswer_of_delay (by rw [hlast]; rfl) hw hfirst),
    fun w s hwait hw => congrArg Host.Outcome.next (State.fwAnswer_of_refusal hwait hw),
    fun k s hwait hdue hdma hfw => congrArg Host.Outcome.next
      (State.askTimeout_of_block hwait hdue (fun h => hdma (Fin.ext h)) (fun h => hfw (Fin.ext h))),
    fun s hdue hask hwait => congrArg Host.Outcome.next ((State.askTimeout_of_dma (by rw [hwait]; rfl) hdue).trans ?_),
    fun s hwait hdue => congrArg Host.Outcome.next (State.askTimeout_of_firmware hwait hdue),
    fun k s s1 s2 hen hask hpwr hwaking hs1 hchange hk hop hs2 => (exec_wakeEvent hk s).trans (congrArg Host.Outcome.next ?_),
    fun k s s1 hen hask hpwr hwaking hs1 hchange hk => (exec_wakeEvent hk s).trans (congrArg Host.Outcome.next
      (State.wake_of_hush hen hask hpwr hwaking hs1 hchange)),
    fun s s1 hen hask hpwr hwaking htime hs1 => congrArg Host.Outcome.next (State.wakeTimer_of_dormant hen hask hpwr hwaking htime hs1),
    fun k s hen hask hk => (exec_wakeEvent hk s).trans (congrArg Host.Outcome.next (State.wake_of_ask hen hask (fun h => hk (Fin.ext h)))),
    fun mv c s hchange hhigh hlow => congrArg Host.Outcome.next (State.avsRead_of_near hchange hhigh hlow),
    fun mv c s hchange hhigh hlow hnext hhush hsorted => ⟨_, rfl, State.avsRead_shows hchange hhigh hlow hnext hhush hsorted⟩,
    fun mv s hfar => congrArg Host.Outcome.next (State.avsRead_of_far hfar),
    fun c s s1 s2 hchange hraise hdue hs1 hs2 hnext => congrArg Host.Outcome.next (State.avsTimeout_of_raise hchange hraise hdue hs1 hs2 hnext),
    fun s hen hpwr => congrArg Host.Outcome.next ((State.railsGood_of_enabled hen).trans (if_neg (Nat.not_le.mpr hpwr))),
    fun s hen => congrArg Host.Outcome.next (State.railsGood_of_enabled hen), fun s hen hpwr hquiet hsorted => ?_, fun s hpwr hen hquiet hsorted => ?_,
    fun s hpwr hen => congrArg Host.Outcome.next (State.railLow_of_enabled hpwr hen), fun s s1 hs1 => ?_, fun k s s1 hs1 => ?_, fun k s s1 hs1 => ?_⟩
  · have hfilter : [13, 23].filter (· != 13) = [23] := by decide
    have hmore : s.pwr.waiting.filter (· != 13) = [23] := by rw [hwait, hfilter]
    rw [State.askAck_of_others hask (by rw [hmore]; simp), hmore]
  · have hbefore : s1.pwr.before = s.pwr.before := by rw [hs1]; rfl
    rw [State.wake_of_hush hen hask hpwr hwaking hs1 hchange, hbefore]
    exact State.changeTo_of_higher hop hs2
  · obtain ⟨hfuse, hflash, hhost, hsram, -, -, hheld, hcause, -⟩ :=
      State.chipReset_effects (s := { s with pwr := { s.pwr with good := true } }) hquiet hsorted (cause := GEN_RSTCAUSE_DORMANT) (by decide)
    obtain ⟨hrail, hgood⟩ := State.chipReset_pwr (s := { s with pwr := { s.pwr with good := true } }) hquiet GEN_RSTCAUSE_DORMANT
    exact ⟨_, congrArg Host.Outcome.next ((State.railsGood_of_enabled hen).trans (if_pos hpwr)), hheld, hfuse, hflash, hhost, hsram, hrail, hgood, hcause⟩
  · obtain ⟨hfuse, hflash, hhost, hsram, -, -, hheld, hcause, -⟩ :=
      State.chipReset_effects (s := { s with pwr := { s.pwr with good := false } }) hquiet hsorted (cause := GEN_RSTCAUSE_PORST) (by decide)
    obtain ⟨hrail, hgood⟩ := State.chipReset_pwr (s := { s with pwr := { s.pwr with good := false } }) hquiet GEN_RSTCAUSE_PORST
    exact ⟨_, congrArg Host.Outcome.next (State.railLow_of_enabled hpwr hen), hheld, hfuse, hflash, hhost, hsram, hrail, hgood, hcause⟩
  · rw [hs1]
    rfl
  · rw [hs1, ← clkBit_of_pll]
    rfl
  · rw [hs1]
    rfl

end Sys2Proof.Machine
end

section
/-! PROOFS. What the resets of the hub and of its embedded function, and the DMA transfers they cancel, leave of registers that they do not write (R296, R297, R317, R387 to R393). -/

open Sys2Proof

namespace Sys2Proof.Machine

/-- The fields that the resets of the embedded function and the end of a DMA transfer write, but for those that a fault writes too. -/
def epFields : List Field := [EP_STAT_ARMED, EP_STAT_HALT, EP_STAT_DONE, EP_STAT_TOGGLE, EP_STAT_CODE, EP_STAT_COUNT, USB_SETUP_LO_SETUP_LO,
  USB_SETUP_HI_SETUP_HI, USB_CNT_COUNT, USB_STAT_CTLABORT, DMA_CNT_COUNT, DMC_STAT_CODE, DMC_STAT_DONEEV]

/-- The active set of a DMA channel, which a load writes. -/
def dmxFields : List Field := [DMX_SRC_LO_ADDR, DMX_SRC_HI_ADDR, DMX_DST_LO_ADDR, DMX_DST_HI_ADDR, DMX_SGEOM_LINES, DMX_SGEOM_LINE, DMX_DGEOM_LINES,
  DMX_DGEOM_LINE, DMX_SSTRIDE_STRIDE, DMX_DSTRIDE_STRIDE, DMX_OPW_IRQ, DMX_OPW_AT, DMX_OPW_OP, DMX_OPW_SSPACE, DMX_OPW_DSPACE, DMX_AT_SECLO_SEC_LO,
  DMX_AT_NS_NS]

/-- These fields, and those that a message on a service writes. -/
def usbFields : List Field := sendFields ++ (epFields ++ dmxFields)

/-- None of the fields `gs` is among `usbFields`. -/
def sparedByUsb (gs : List Field) : Bool := usbFields.all (fun F => gs.all F.spares)

namespace FaultKept

variable {gs : List Field} {o s : State}

theorem wrSpared (h : FaultKept gs o s) {F : Field} (hF : gs.all F.spares = true) (v i j : Nat) : FaultKept gs o (s.wr F v i j) :=
  h.wrOther (fun G hG _ hk => Field.key_ne_of_spares_fault (List.all_eq_true.mp hF G hG) i j hk) v

section
variable (h : FaultKept gs o s) (hgs : sparedByUsb gs = true)
include h hgs

theorem wrUsb {F : Field} (hF : F ∈ epFields) (v i j : Nat) : FaultKept gs o (s.wr F v i j) :=
  h.wrSpared (List.all_eq_true.mp hgs F (List.mem_append_right _ (List.mem_append_left _ hF))) v i j

theorem wrDmx {F : Field} (hF : F ∈ dmxFields) (v i : Nat) : FaultKept gs o (s.wr F v i) :=
  h.wrSpared (List.all_eq_true.mp hgs F (List.mem_append_right _ (List.mem_append_right _ hF))) v i 0

theorem satUsb {F : Field} (hF : F ∈ epFields) (i : Nat) : FaultKept gs o (s.sat F i) := h.wrUsb hgs hF _ i 0

omit h in
theorem sendKeeps : SendKeeps (FaultKept gs o) where
  wr _ _ _ _ hF hu := hu.wrSpared (List.all_eq_true.mp hgs _ (List.mem_append_left _ hF)) _ _ _
  fab _ _ hu := hu.same rfl rfl rfl
  xsw _ _ hu := hu.same rfl rfl rfl
  shp _ _ hu := hu.same rfl rfl rfl
  ten _ _ hu := hu.same rfl rfl rfl

theorem sendFar (n : Nat) (ty : ProxyType) (ep : Nat) (isIn : Bool) (xt tag code : Nat) (tog : Bool) (body : List Byte) :
    FaultKept gs o (s.sendFar n ty ep isIn xt tag code tog body) := by
  unfold State.sendFar
  split
  · exact h
  · exact (sendKeeps hgs).engineSend h _ _

theorem portStat (n : Nat) : FaultKept gs o (s.portStat n) := ite (fun _ => h.sendFar hgs n _ _ _ _ _ _ _ _) (fun _ => h)

theorem statChange (u : State) (n : Nat) : FaultKept gs o (u.statChange s n) := ite (fun _ => h) (fun _ => h.portStat hgs n)

/-! The embedded function (R296, R317). -/

theorem epEnd (k : Nat) (c : EpCode) : FaultKept gs o (s.epEnd k c) :=
  ((((h.wrUsb hgs (F := EP_STAT_ARMED) (by decide) 0 k 0).wrUsb hgs (F := EP_STAT_COUNT) (by decide) _ k 0).wrUsb hgs (F := EP_STAT_DONE) (by decide)
    1 k 0).wrUsb hgs (F := EP_STAT_CODE) (by decide) c.code k 0).irq _ _ _

theorem epAbort (k : Nat) : FaultKept gs o (s.epAbort k) := ite (fun _ => h.epEnd hgs k .abort) (fun _ => h)

theorem epHaltOff (k : Nat) : FaultKept gs o ((s.epAbort k).wr EP_STAT_HALT 0 k) := (h.epAbort hgs k).wrUsb hgs (by decide) 0 k 0

theorem fnDetach (hfn : gs.all USB_STAT_FNADDR.spares = true) : FaultKept gs o s.fnDetach := by
  have hends : FaultKept gs o (s.each (List.range 16) (fun s k => ((s.epAbort k).wr EP_STAT_HALT 0 k).wr EP_STAT_TOGGLE 0 k)) :=
    each (fun _ k _ hu => (hu.epHaltOff hgs k).wrUsb hgs (by decide) 0 k 0) h
  unfold State.fnDetach
  extract_lets s1 s2
  have hs1 : FaultKept gs o s1 := hends
  clear_value s1
  exact (hs1.wrSpared hfn 0 0 0).same rfl rfl rfl

theorem fnReset_ends : ∃ u v x, FaultKept gs o u ∧ v = u.wr USB_STAT_FNADDR 0 ∧ s.fnReset = { v with usb := x } := by
  have hsetup := (((h.wrUsb hgs (F := USB_SETUP_LO_SETUP_LO) (by decide) 0 0 0).wrUsb hgs (F := USB_SETUP_HI_SETUP_HI) (by decide) 0 0 0).wrUsb hgs
    (F := USB_STAT_CTLABORT) (by decide) 1 0 0).satUsb hgs (F := USB_CNT_COUNT) (by decide) 1
  unfold State.fnReset
  extract_lets s1 s2 s3 w x
  have hs1 : FaultKept gs o s1 := ite (fun _ => (hsetup.epAbort hgs 0).wrUsb hgs (F := EP_STAT_CODE) (by decide) EpCode.abort.code 0 0)
    (fun _ => h.epAbort hgs 0)
  have hs2 : FaultKept gs o s2 := each (fun _ k _ hu => hu.epHaltOff hgs k) hs1
  have htoggles : FaultKept gs o (s2.each (List.range 16) (fun s k => s.wr EP_STAT_TOGGLE 0 k)) :=
    each (fun _ k _ hu => hu.wrUsb hgs (F := EP_STAT_TOGGLE) (by decide) 0 k 0) hs2
  have hs3 : s3 = (s2.each (List.range 16) (fun s k => s.wr EP_STAT_TOGGLE 0 k)).wr USB_STAT_FNADDR 0 := rfl
  clear_value s3
  exact ⟨_, s3, _, htoggles, hs3, rfl⟩

theorem fnReset (hfn : gs.all USB_STAT_FNADDR.spares = true) : FaultKept gs o s.fnReset := by
  obtain ⟨u, v, x, hu, hv, heq⟩ := h.fnReset_ends hgs
  have hkept : FaultKept gs o v := hv ▸ hu.wrSpared hfn 0 0 0
  rw [heq]
  exact hkept.same rfl rfl rfl

/-! DMA transfers that are cancelled, and those that follow them (R387 to R393). -/

theorem dmaFinish (n : Nat) (c : DmaCode) : FaultKept gs o (s.dmaFinish n c) := by
  have hcode := ((h.wrUsb hgs (F := DMC_STAT_CODE) (by decide) c.code n 0).wrUsb hgs (F := DMC_STAT_DONEEV) (by decide) 1 n 0).wr
    (F := DMC_STAT_STATE) (by decide) dmaIdle n 0
  unfold State.dmaFinish
  extract_lets s1
  split
  · have hs2 : ∀ x, FaultKept gs o { s1 with dma := x } := fun _ => hcode.same rfl rfl rfl
    split
    · exact hs2 _
    · exact ringDone (ite (fun _ => (hs2 _).sat (F := RNG_CNT_COUNT) (by decide) 5 0) (fun _ => hs2 _)) _ _ _ _
  · exact ite (fun _ => hcode.irq _ _ _) (fun _ => hcode)

theorem wrDmx_addresses (n a b c d : Nat) :
    FaultKept gs o ((((s.wr DMX_SRC_LO_ADDR a n).wr DMX_SRC_HI_ADDR b n).wr DMX_DST_LO_ADDR c n).wr DMX_DST_HI_ADDR d n) :=
  (((h.wrDmx hgs (by decide) a n).wrDmx hgs (by decide) b n).wrDmx hgs (by decide) c n).wrDmx hgs (by decide) d n

theorem wrDmx_geometry (n a b c d e f : Nat) :
    FaultKept gs o ((((((s.wr DMX_SGEOM_LINES a n).wr DMX_SGEOM_LINE b n).wr DMX_DGEOM_LINES c n).wr DMX_DGEOM_LINE d n).wr DMX_SSTRIDE_STRIDE e n).wr
      DMX_DSTRIDE_STRIDE f n) :=
  (((((h.wrDmx hgs (by decide) a n).wrDmx hgs (by decide) b n).wrDmx hgs (by decide) c n).wrDmx hgs (by decide) d n).wrDmx hgs (by decide) e n).wrDmx hgs
    (by decide) f n

theorem wrDmx_operation (n a b c d e : Nat) :
    FaultKept gs o (((((s.wr DMX_OPW_IRQ a n).wr DMX_OPW_AT b n).wr DMX_OPW_OP c n).wr DMX_OPW_SSPACE d n).wr DMX_OPW_DSPACE e n) :=
  ((((h.wrDmx hgs (by decide) a n).wrDmx hgs (by decide) b n).wrDmx hgs (by decide) c n).wrDmx hgs (by decide) d n).wrDmx hgs (by decide) e n

theorem dmaCopy (n : Nat) : FaultKept gs o (s.dmaCopy n) := by
  unfold State.dmaCopy
  extract_lets s1 s2 s3 s4 s5 s6 s7 s8 s9
  have hs2 : FaultKept gs o s2 := h.wrDmx_addresses hgs n _ _ _ _
  have hs5 : FaultKept gs o s5 := hs2.wrDmx_geometry hgs n _ _ _ _ _ _
  have hs7 : FaultKept gs o s7 := hs5.wrDmx_operation hgs n _ _ _ _ _
  have hs8 : FaultKept gs o s8 := (hs7.wrDmx hgs (F := DMX_AT_SECLO_SEC_LO) (by decide) _ n).wrDmx hgs (F := DMX_AT_NS_NS) (by decide) _ n
  have hs9 : FaultKept gs o s9 := (hs8.wr (F := DMS_SHCTRL_VALID) (by decide) 0 n 0).wr (F := DMC_DONE_BYTES) (by decide) 0 n 0
  clear_value s9
  exact hs9.same rfl rfl rfl

theorem dmaLoad (n : Nat) : FaultKept gs o (s.dmaLoad n) := by
  have hcopy := h.dmaCopy hgs n
  unfold State.dmaLoad
  generalize s.dmaCopy n = s1 at hcopy ⊢
  dsimp only
  split
  · exact dmaFinish (hcopy.satUsb hgs (F := DMA_CNT_COUNT) (by decide) 0) hgs n _
  · exact ite (fun _ => (hcopy.wr (F := DMC_STAT_STATE) (by decide) dmaWait n 0).same rfl rfl rfl)
      (fun _ => hcopy.wr (F := DMC_STAT_STATE) (by decide) dmaActive n 0)

theorem dmaEnd (n : Nat) (c : DmaCode) : FaultKept gs o (s.dmaEnd n c) :=
  ite (fun _ => (h.dmaFinish hgs n c).dmaLoad hgs n) (fun _ => h.dmaFinish hgs n c)

theorem dmaCancel : FaultKept gs o s.dmaCancel :=
  each (fun _ n _ hu => ite (fun _ => dmaEnd (hu.satUsb hgs (F := DMA_CNT_COUNT) (by decide) 3) hgs n .cancelled) (fun _ => hu)) h

end

end FaultKept

end Sys2Proof.Machine
end

section
/-! PROOFS. The hub's upstream port and its local ports (R294 to R301, R309, R310, R317). -/

open Sys2Proof

namespace Sys2Proof.Machine

variable {s : State}

/-! The upstream port (R296, R297, R299, R300). -/

theorem State.usbAttach_of_pullUp (hstate : s.rd USB_STAT_USTATE = 0) (hpull : s.pullUpOk = true) :
    s.usbAttach = (s.wr USB_STAT_USTATE 1).wr USB_STAT_ATTEV 1 := by
  rw [State.usbAttach, if_pos (by rw [hstate, hpull]; decide)]
  rfl

theorem State.usbSuspend_of_awake (hstate : s.rd USB_STAT_USTATE ≠ 0) (hawake : s.rd USB_STAT_USTATE ≠ 5) : s.usbSuspend =
    ({ (s.wr USB_STAT_USTATE 5).wr USB_STAT_SUSPEV 1 with
      usb := { s.usb with before := s.rd USB_STAT_USTATE, suspAt := s.tmu.elapsed, wakeHeld := false } } : State).toNearPorts 2 := by
  simp only [State.usbSuspend, decide_eq_false hstate, decide_eq_false hawake, Bool.or_self, Bool.false_eq_true, if_false]
  rfl

theorem State.usbResume_of_suspended (hstate : s.rd USB_STAT_USTATE = 5) (hdrive : s.usb.driving = false) : s.usbResume = s.resumed := by
  simp only [State.usbResume, hstate, ne_eq, not_true_eq_false, hdrive, Bool.false_eq_true, if_false]

theorem State.remoteWake_of_source (hheld : s.usb.wakeHeld = true) (hstate : s.rd USB_STAT_USTATE = 5) (hen : s.on USB_STAT_RWKEN = true)
    (htime : s.tmu.elapsed ≥ s.usb.suspAt + 5000000 * 2 ^ 32) :
    s.remoteWake = { (s.arm .usbWake (s.rd USB_TIMING_KTIME * 1000000)) with usb := { s.usb with driving := true, wakeHeld := false } } := by
  have hdue : s.tmu.elapsed ≥ s.usb.suspAt + State.fiveMs := htime
  simp only [State.remoteWake, hheld, hstate, hen, hdue, decide_true, Bool.and_self, if_true]

theorem State.remoteWakeEnd_of_due (hdrive : s.usb.driving = true) (hhost : s.usb.hostK = false) (hdue : s.due .usbWake = true) :
    s.remoteWakeEnd = { (s.wr USB_STAT_RWKDONE 1) with usb := { s.usb with driving := false } } := by
  simp only [State.remoteWakeEnd, hdrive, hdue, hhost, Bool.not_true, Bool.or_self, Bool.false_eq_true, if_false]

/-- What a detach and a bus reset clear, and every later step of either leaves. -/
def hubCleared : List Field := [USB_STAT_HUBADDR, USB_STAT_RWKEN]

/-- What a bus reset shows, and the transfers it cancels leave. -/
def busResetShown : List Field := [USB_STAT_USTATE, USB_STAT_HS, USB_STAT_RSTEV, USB_STAT_HUBADDR, USB_STAT_FNADDR, USB_STAT_RWKEN]

theorem State.hubReset_clears (hsorted : Tab.sorted s.regs = true) :
    Tab.sorted s.hubReset.regs = true ∧ s.hubReset.rd USB_STAT_HUBADDR = 0 ∧ s.hubReset.rd USB_STAT_RWKEN = 0 := by
  have hports : FaultKept [] s (s.each [1, 2, 3, 4] (fun s n => if s.portMode n = 2 then s else s.portOff n)) :=
    FaultKept.each (fun _ _ hn hu => FaultKept.ite (fun _ => hu) (fun _ => hu.portOff (FaultKept.port_sub_one_lt hn))) (FaultKept.refl rfl s)
  unfold State.hubReset
  extract_lets s1 s2
  have hs1 : Tab.sorted s1.regs = true := hports.sorted hsorted
  clear_value s1
  have hs2 : Tab.sorted s2.regs = true := State.sorted_wr (State.sorted_wr hs1 _ _ _ _) _ _ _ _
  have haddr : s2.rd USB_STAT_HUBADDR = 0 := State.rd_wr_self (State.sorted_wr hs1 _ _ _ _) _ _ _ _
  have hwake : s2.rd USB_STAT_RWKEN = 0 := (State.rd_wr_ne (by decide) 0).trans (State.rd_wr_self hs1 _ _ _ _)
  clear_value s2
  exact ⟨hs2, haddr, hwake⟩

theorem State.usbDetach_shows (hstate : s.rd USB_STAT_USTATE ≠ 0) (hpull : s.pullUpOk = false) (hsorted : Tab.sorted s.regs = true) :
    s.usbDetach.rd USB_STAT_USTATE = 0 ∧ s.usbDetach.on USB_STAT_HS = false ∧ s.usbDetach.on USB_STAT_ATTEV = true ∧
      s.usbDetach.rd USB_STAT_HUBADDR = 0 ∧ s.usbDetach.on USB_STAT_RWKEN = false := by
  obtain ⟨hsortedh, haddr, hwake⟩ := State.hubReset_clears hsorted
  have hports : FaultKept hubCleared s.hubReset
      ((s.hubReset.each [1, 2, 3, 4] (fun s n => if s.portMode n = 2 then s.statChange (s.portOff n) n else s)).fnDetach) :=
    (FaultKept.each (fun _ n hn hu => FaultKept.ite (fun _ => (hu.portOff (FaultKept.port_sub_one_lt hn)).statChange (by decide) _ n) (fun _ => hu))
      (FaultKept.refl (by decide) s.hubReset)).fnDetach (by decide) (by decide)
  have hleave : s.usbDetach = ((((s.hubReset.each [1, 2, 3, 4] (fun s n => if s.portMode n = 2 then s.statChange (s.portOff n) n else s)).fnDetach).wr
      USB_STAT_USTATE 0).wr USB_STAT_HS 0).wr USB_STAT_ATTEV 1 := (if_neg (by rw [hpull]; decide)).trans (if_neg hstate)
  rw [hleave]
  generalize (s.hubReset.each [1, 2, 3, 4] (fun s n => if s.portMode n = 2 then s.statChange (s.portOff n) n else s)).fnDetach = x at hports ⊢
  have hx : Tab.sorted x.regs = true := hports.sorted hsortedh
  refine ⟨?_, ?_, ?_, ?_, ?_⟩
  · rw [State.rd_wr_ne (by decide), State.rd_wr_ne (by decide), State.rd_wr_self hx]
    rfl
  · rw [State.on, State.rd_wr_ne (by decide), State.rd_wr_self (State.sorted_wr hx _ _ _ _)]
    rfl
  · exact State.on_wr_one ⟨by decide, rfl, rfl⟩ _ _ _
  · rw [State.rd_wr_ne (by decide), State.rd_wr_ne (by decide), State.rd_wr_ne (by decide), hports.fields _ (by decide) 0 (by decide), haddr]
  · rw [State.on, State.rd_wr_ne (by decide), State.rd_wr_ne (by decide), State.rd_wr_ne (by decide), hports.fields _ (by decide) 0 (by decide), hwake]
    rfl

theorem State.fnReset_fnaddr (hsorted : Tab.sorted s.regs = true) : s.fnReset.rd USB_STAT_FNADDR = 0 := by
  obtain ⟨u, v, x, hu, hv, heq⟩ := (FaultKept.refl (gs := []) rfl s).fnReset_ends (by decide)
  have hrd : s.fnReset.rd USB_STAT_FNADDR = v.rd USB_STAT_FNADDR := by rw [heq]; rfl
  rw [hrd, hv]
  exact State.rd_wr_self (hu.sorted hsorted) _ _ _ _

theorem State.busReset_shows (high : Bool) (hstate : s.rd USB_STAT_USTATE ≠ 0) (hsorted : Tab.sorted s.regs = true) :
    let t := s.busReset high
    t.rd USB_STAT_USTATE = 2 ∧ t.on USB_STAT_HS = high ∧ t.on USB_STAT_RSTEV = true ∧ t.rd USB_STAT_HUBADDR = 0 ∧ t.rd USB_STAT_FNADDR = 0 ∧
      t.rd USB_STAT_RWKEN = 0 := by
  obtain ⟨hsortedh, haddr, hwake⟩ := State.hubReset_clears hsorted
  have hkept : FaultKept hubCleared s.hubReset s.hubReset.fnReset := (FaultKept.refl (by decide) s.hubReset).fnReset (by decide) (by decide)
  have hfn := State.fnReset_fnaddr hsortedh
  have hreset : s.busReset high = ((s.hubReset.fnReset.wr USB_STAT_USTATE 2).wr USB_STAT_HS (bit high)).wr USB_STAT_RSTEV 1 := if_neg hstate
  rw [hreset]
  generalize s.hubReset.fnReset = x at hkept hfn ⊢
  have hx : Tab.sorted x.regs = true := hkept.sorted hsortedh
  refine ⟨?_, ?_, ?_, ?_, ?_, ?_⟩
  · rw [State.rd_wr_ne (by decide), State.rd_wr_ne (by decide), State.rd_wr_self hx]
    rfl
  · rw [State.on, State.rd_wr_ne (by decide), State.rd_wr_self (State.sorted_wr hx _ _ _ _)]
    cases high <;> rfl
  · exact State.on_wr_one ⟨by decide, rfl, rfl⟩ _ _ _
  · rw [State.rd_wr_ne (by decide), State.rd_wr_ne (by decide), State.rd_wr_ne (by decide), hkept.fields _ (by decide) 0 (by decide), haddr]
  · rw [State.rd_wr_ne (by decide), State.rd_wr_ne (by decide), State.rd_wr_ne (by decide), hfn]
  · rw [State.rd_wr_ne (by decide), State.rd_wr_ne (by decide), State.rd_wr_ne (by decide), hkept.fields _ (by decide) 0 (by decide), hwake]

/-- The transfers that a bus reset cancels leave what it shows. -/
theorem State.busReset_dmaCancel_shows (high : Bool) (hstate : s.rd USB_STAT_USTATE ≠ 0) (hsorted : Tab.sorted s.regs = true) :
    let t := (s.busReset high).dmaCancel
    t.rd USB_STAT_USTATE = 2 ∧ t.on USB_STAT_HS = high ∧ t.on USB_STAT_RSTEV = true ∧ t.rd USB_STAT_HUBADDR = 0 ∧ t.rd USB_STAT_FNADDR = 0 ∧
      t.on USB_STAT_RWKEN = false := by
  obtain ⟨hu, hhs, hev, haddr, hfn, hwake⟩ := State.busReset_shows high hstate hsorted
  have hkept : FaultKept busResetShown (s.busReset high) (s.busReset high).dmaCancel := (FaultKept.refl (by decide) _).dmaCancel (by decide)
  have hrd : ∀ G ∈ busResetShown, (s.busReset high).dmaCancel.rd G = (s.busReset high).rd G := fun G hG => hkept.fields G hG 0 (by decide)
  have hon : ∀ G ∈ busResetShown, (s.busReset high).dmaCancel.on G = (s.busReset high).on G := fun G hG => by rw [State.on, hrd G hG, State.on]
  refine ⟨(hrd _ (by decide)).trans hu, (hon _ (by decide)).trans hhs, (hon _ (by decide)).trans hev, (hrd _ (by decide)).trans haddr,
    (hrd _ (by decide)).trans hfn, ?_⟩
  rw [State.on, hrd _ (by decide), hwake]
  rfl

/-! Requests to the hub and to its local ports (R294, R297, R299, R301, R317). -/

theorem execLocalPortRequest_of_other {n : Fin 6} {r : HubRequest} (h : n ≠ 5 ∨ r ≠ .setReset) (s : State) :
    exec (.localPortRequest n r []) s = .next (s.portRequest n r) := by
  refine if_neg ?_
  rcases h with h | h
  · rw [decide_eq_false h, Bool.false_and, Bool.false_and, Bool.false_and]
    exact Bool.false_ne_true
  · rw [decide_eq_false h, Bool.and_false, Bool.false_and, Bool.false_and]
    exact Bool.false_ne_true

theorem State.resetBegins_resetting (s : State) (n : Nat) : Tab.get (s.resetBegins n).usb.resetting n false = true :=
  Tab.get_put_listed (v := true) (d := false) (by decide) _ _ _

theorem execLocalPortRequest_of_begun {s1 : State} (hs1 : s.portRequest 5 .setReset = s1) (hresets : Tab.get s1.usb.resetting 5 false = true)
    (hquiet : Tab.get s.usb.resetting 5 false = false) : exec (.localPortRequest 5 .setReset []) s = .next s1.fnReset.dmaCancel := by
  change execLocalPortRequest 5 .setReset [] s = _
  unfold execLocalPortRequest
  rw [show s.portRequest ((5 : Fin 6) : Nat) .setReset = s1 from hs1]
  dsimp only
  rw [hresets, hquiet]
  rfl

section
variable (hstate : 2 ≤ s.rd USB_STAT_USTATE) (hawake : s.rd USB_STAT_USTATE ≠ 5)
include hstate hawake

theorem State.portRequest_hub (r : HubRequest) : s.portRequest 0 r = s.hubRequest r := by
  simp only [State.portRequest, decide_eq_false (Nat.not_lt.mpr hstate), decide_eq_false hawake, Bool.or_self, Bool.false_eq_true, if_false, if_true]

theorem State.portRequest_local {n : Fin 6} (hhub : n ≠ 0) (hfn : n ≠ 5) (hmode : s.portMode n = 0) (r : HubRequest) :
    s.portRequest n r = s.localRequest n r := by
  have hhub' : ¬ n.val = 0 := fun h => hhub (Fin.ext h)
  have hfn' : ¬ n.val = 5 := fun h => hfn (Fin.ext h)
  simp only [State.portRequest, decide_eq_false (Nat.not_lt.mpr hstate), decide_eq_false hawake, Bool.or_self, Bool.false_eq_true, if_false,
    if_neg hhub', if_neg hfn', if_pos hmode]

theorem State.portRequest_port5 (r : HubRequest) : s.portRequest 5 r = s.port5Request r := by
  simp only [State.portRequest, decide_eq_false (Nat.not_lt.mpr hstate), decide_eq_false hawake, Bool.or_self, Bool.false_eq_true, if_false,
    Nat.reduceEqDiff, if_true]

theorem execLocalPortRequest_of_port5Reset (hen : s.on USB_CTRL_FNEN = true) (hquiet : Tab.get s.usb.resetting 5 false = false) :
    exec (.localPortRequest 5 .setReset []) s =
      .next ((({ s with usb := { s.usb with port5 := withBit s.usb.port5 1 false } } : State).resetBegins 5).fnReset.dmaCancel) := by
  have hbegins : s.portRequest 5 .setReset = ({ s with usb := { s.usb with port5 := withBit s.usb.port5 1 false } } : State).resetBegins 5 :=
    (State.portRequest_port5 hstate hawake .setReset).trans (if_pos hen)
  exact execLocalPortRequest_of_begun hbegins (State.resetBegins_resetting _ 5) hquiet

end

theorem State.localRequest_setReset {n : Nat} (hconn : s.on USB_PORT_CONN (n - 1) = true) : s.localRequest n .setReset =
    (((s.wr USB_PORT_ENA 0 (n - 1)).wr USB_PORT_SUSP 0 (n - 1)).setNear n { tag := (s.near n).tag }).resetBegins n := if_pos hconn

theorem State.localRequest_setSuspend {n : Nat} (hena : s.on USB_PORT_ENA (n - 1) = true) :
    s.localRequest n .setSuspend = s.wr USB_PORT_SUSP 1 (n - 1) := if_pos hena

theorem State.hubRequest_setConfiguration (on : Bool) (hstate : 3 ≤ s.rd USB_STAT_USTATE) :
    s.hubRequest (.setConfiguration on) = s.wr USB_STAT_USTATE (if on then 4 else 3) := if_neg (fun h => by rw [h] at hstate; exact absurd hstate (by decide))

/-! The ports (R294, R300, R301, R309, R310). -/

section
variable {n : Nat}

theorem State.portModeWrite_of_powered (w : Nat) (hpwr : s.on USB_PORT_PWR n = true) :
    s.portModeWrite (n + 1) w = (s.writeField false USB_PORT_MODEREJ n 0 w).wr USB_PORT_MODEREJ 1 n := if_pos hpwr

theorem State.portModeWrite_of_unpowered {w : Nat} (hnew : bitsOf w 31 30 ≠ s.rd USB_PORT_MODE n) (hlock : s.on USB_CTRL_LOCK = false)
    (hpwr : s.on USB_PORT_PWR n = false) (hcode : bitsOf w 31 30 ≠ 3) :
    s.portModeWrite (n + 1) w = ((s.writeField false USB_PORT_MODEREJ n 0 w).wr USB_PORT_MODE (bitsOf w 31 30) n).portOff (n + 1) := by
  simp only [State.portModeWrite, Nat.add_sub_cancel, hpwr, hlock, decide_eq_false hnew, decide_eq_false hcode, Bool.or_self, Bool.false_eq_true, if_false]

theorem State.portConnect_of_local {low : Bool} {held : Nat} (hpwr : s.on USB_PORT_PWR n = true) (hmode : s.portMode (n + 1) = 0)
    (hconn : s.on USB_PORT_CONN n = false) (hheld : held ≥ s.rd USB_TIMING_CONNDB * 1000000 * 2 ^ 32) : s.portConnect (n + 1) low held =
      (((s.wr USB_PORT_CONN 1 n).wr USB_PORT_SPEED (bit low) n).portChange (n + 1) 0).wakeSource := by
  simp only [State.portConnect, Nat.add_sub_cancel, hpwr, hmode, hconn, decide_eq_false (Nat.not_lt.mpr hheld), Nat.reduceEqDiff, Nat.zero_ne_one,
    decide_false, Bool.not_true, Bool.or_self, Bool.false_eq_true, if_false]

theorem State.portDisconnect_of_local (hconn : s.on USB_PORT_CONN n = true) (hmode : s.portMode (n + 1) = 0) :
    s.portDisconnect (n + 1) = ((s.portEmpty (n + 1)).portChange (n + 1) 0).wakeSource := by
  simp only [State.portDisconnect, Nat.add_sub_cancel, hmode, hconn, Nat.reduceEqDiff, Nat.zero_ne_one, decide_false, Bool.not_true, Bool.or_self,
    Bool.false_eq_true, if_false]

theorem State.portResetEnd_of_high (hreset : Tab.get s.usb.resetting (n + 1) false = true) (hdue : s.due (.usbReset (n + 1)) = true) (hn : n ≠ 4)
    (hmode : s.portMode (n + 1) = 0) (hhigh : s.on USB_STAT_HS = true) : s.portResetEnd (n + 1) 2 =
      (((s.setResetting (n + 1) false).wr USB_PORT_ENA 1 n).wr USB_PORT_SPEED 2 n).portChange (n + 1) 4 := by
  simp only [State.portResetEnd, Nat.add_sub_cancel, hreset, hdue, hmode, hhigh, Nat.reduceEqDiff, decide_true, Bool.not_true, Bool.or_self,
    Bool.and_self, Bool.false_eq_true, if_false, if_neg hn, if_true]

theorem State.portResumeEnd_of_local (hresume : Tab.get s.usb.resuming (n + 1) 0 ≠ 0) (hdue : s.due (.usbResume (n + 1)) = true) (hn : n ≠ 4)
    (hmode : s.portMode (n + 1) = 0) : s.portResumeEnd (n + 1) = ((s.setResuming (n + 1) 0).wr USB_PORT_SUSP 0 n).portChange (n + 1) 2 := by
  simp only [State.portResumeEnd, Nat.add_sub_cancel, decide_eq_false hresume, hdue, hmode, Nat.reduceEqDiff, Bool.not_true, Bool.or_self,
    Bool.false_eq_true, if_false, if_neg hn]

theorem State.resumeBegins_of_idle (k by_ : Nat) (hidle : Tab.get s.usb.resuming k 0 = 0) :
    s.resumeBegins k by_ = (s.arm (.usbResume k) 20000000).setResuming k by_ := by
  simp only [State.resumeBegins, hidle, if_true, decide_true, Bool.true_or]
  rfl

theorem State.farWake_of_suspended {e : Nat} (hentry : s.portEntry (n + 1) = some e) (hmode : s.portMode (n + 1) = 2)
    (hsusp : s.on USB_PORT_SUSP n = true) (hver : 2 ≤ s.proxyVer e) (hidle : Tab.get s.usb.resuming (n + 1) 0 = 0) : s.farWake (n + 1) =
      ((s.arm (.usbResume (n + 1)) 20000000).setResuming (n + 1) 2).sendFar (n + 1) .wake 0 false 0 0 0 false [] := by
  simp only [State.farWake, hentry, Nat.add_sub_cancel, hmode, hsusp, decide_eq_false (Nat.not_lt.mpr hver), ne_eq, not_true_eq_false, decide_false,
    Bool.not_true, Bool.or_self, Bool.false_eq_true, if_false, State.resumeBegins_of_idle _ _ hidle]

end

/-- Settles O30, clause by clause; what a detach and a bus reset clear is left by the functions that follow (`FaultKept`). -/
theorem usbUpstreamAndPorts : Obligations.UsbUpstreamAndPorts := by
  refine ⟨fun s hstate hpull => congrArg Host.Outcome.next (State.usbAttach_of_pullUp hstate hpull),
    fun s hstate hpull hsorted => ⟨_, rfl, State.usbDetach_shows hstate hpull hsorted⟩,
    fun high s hstate hsorted => ⟨_, if_neg hstate, State.busReset_dmaCancel_shows high hstate hsorted⟩,
    fun high k s hstate => if_neg hstate,
    fun s hstate hawake => congrArg Host.Outcome.next (State.usbSuspend_of_awake hstate hawake),
    fun s hstate hdrive => congrArg Host.Outcome.next (State.usbResume_of_suspended hstate hdrive),
    fun s hheld hstate hen htime => congrArg Host.Outcome.next (State.remoteWake_of_source hheld hstate hen htime),
    fun s hdrive hhost hdue => congrArg Host.Outcome.next (State.remoteWakeEnd_of_due hdrive hhost hdue),
    fun a s hstate hawake => (execLocalPortRequest_of_other (.inl (by decide)) s).trans
      (congrArg Host.Outcome.next (State.portRequest_hub hstate hawake _)),
    fun on s hstate hawake => ⟨(execLocalPortRequest_of_other (.inl (by decide)) s).trans
        (congrArg Host.Outcome.next ((State.portRequest_hub (Nat.le_of_lt hstate) hawake _).trans (State.hubRequest_setConfiguration on hstate))),
      (execLocalPortRequest_of_other (.inl (by decide)) s).trans
        (congrArg Host.Outcome.next (State.portRequest_hub (Nat.le_of_lt hstate) hawake _))⟩,
    fun n s hstate hawake hhub hfn hmode => ?_, fun n s hstate hawake hhub hfn hmode hconn hena => ?_,
    fun s hstate hawake hen hquiet => execLocalPortRequest_of_port5Reset hstate hawake hen hquiet,
    fun n w s hpwr => congrArg Host.Outcome.next (State.portModeWrite_of_powered _ hpwr),
    fun n w s hnew hlock hpwr hcode => congrArg Host.Outcome.next (State.portModeWrite_of_unpowered hnew hlock hpwr hcode),
    fun n low held s hpwr hmode hconn hheld => congrArg Host.Outcome.next (State.portConnect_of_local hpwr hmode hconn hheld),
    fun n s hconn hmode => congrArg Host.Outcome.next (State.portDisconnect_of_local hconn hmode),
    fun n speed s hreset hdue hn hmode hhigh hspeed => ?_,
    fun n s hresume hdue hn hmode => congrArg Host.Outcome.next (State.portResumeEnd_of_local hresume hdue (fun h => hn (Fin.ext h)) hmode),
    fun n e s hentry hmode hsusp hver hidle => congrArg Host.Outcome.next (State.farWake_of_suspended hentry hmode hsusp hver hidle)⟩
  · have hrun : ∀ r, exec (.localPortRequest n r []) s = .next (s.localRequest n r) := fun r =>
      (execLocalPortRequest_of_other (.inl hfn) s).trans (congrArg Host.Outcome.next (State.portRequest_local hstate hawake hhub hfn hmode r))
    exact ⟨hrun _, hrun _, hrun _⟩
  · have hrun : ∀ r, exec (.localPortRequest n r []) s = .next (s.localRequest n r) := fun r =>
      (execLocalPortRequest_of_other (.inl hfn) s).trans (congrArg Host.Outcome.next (State.portRequest_local hstate hawake hhub hfn hmode r))
    exact ⟨(hrun _).trans (congrArg Host.Outcome.next (State.localRequest_setReset hconn)),
      (hrun _).trans (congrArg Host.Outcome.next (State.localRequest_setSuspend hena))⟩
  · subst hspeed
    exact congrArg Host.Outcome.next (State.portResetEnd_of_high hreset hdue (fun h => hn (Fin.ext h)) hmode hhigh)

end Sys2Proof.Machine
end

section
/-! PROOFS. The PCIe link, its resets, and the control of the descriptor rings (R347, R351, R355 to R358, R363, R364, R367). -/

open Sys2Proof

namespace Sys2Proof.Machine

variable {s : State}

/-! The loss of the host (R351). -/

/-- What the loss of the host sets in a host-side ring. -/
def ringLostFields : List Field := [RNG_RSTAT_STATE, RNG_RSTAT_ERR, RNG_RCFG_EN]

/-- What it sets, and the end of the link leaves. -/
def hostLostFields : List Field := RNG_EVCFG_EN :: PCX_STAT_DLEV :: ringLostFields

/-- What it and the end of the link set, and a function reset leaves. -/
def linkGoneFields : List Field := PCX_STAT_LINKUP :: PCX_STAT_SPEED :: PCX_STAT_WIDTH :: hostLostFields

/-- A host-side ring is disabled without write-back (R351). -/
def State.ringLost (s : State) (r : Nat) : State :=
  (((s.wr RNG_RCFG_EN 0 r).wr RNG_RSTAT_STATE ringDisabled r).wr RNG_RSTAT_ERR RingErr.link.code r).setFetched r []

/-- Every host-side ring that is not disabled is lost: the first part of `State.hostLost`. -/
def State.ringsLost (s : State) : State :=
  s.each (List.range 128) (fun s r => if s.ringMgmt r || s.rd RNG_RSTAT_STATE r = ringDisabled then s else s.ringLost r)

theorem State.ringLost_fields : ∀ F ∈ RNG_RSTAT_OUTST :: ringLostFields, ∀ G ∈ ringLostFields, F = G ∨ F.otherBit G = true := by decide

theorem State.ringLost_key_ne {F G : Field} (hF : F ∈ RNG_RSTAT_OUTST :: ringLostFields) (hG : G ∈ ringLostFields) {a b : Nat} (hab : b ≠ a) :
    F.key b 0 ≠ G.key a 0 := by
  have hstr : ∀ G ∈ ringLostFields, G.str ≠ 0 := by decide
  rcases State.ringLost_fields F hF G hG with rfl | hbit
  · exact Field.key_ne (hstr F hG) hab
  · exact Field.key_ne_of_otherBit hbit b 0 a 0

theorem State.ringLost_regs (s : State) (r : Nat) : (s.ringLost r).regs = ((((s.wr RNG_RCFG_EN 0 r).wr RNG_RSTAT_STATE ringDisabled r).wr
    RNG_RSTAT_ERR RingErr.link.code r).wr RNG_RSTAT_OUTST 0 r).regs := rfl

/-- `ringLost` writes the four fields of its ring and the list of its descriptors. -/
theorem State.ringLost_rd {G : Field} {i b : Nat} (h : ∀ F ∈ RNG_RSTAT_OUTST :: ringLostFields, F.key b 0 ≠ G.key i 0) :
    (s.ringLost b).rd G i = s.rd G i := by
  rw [State.rd_of_regs (s.ringLost_regs b), State.rd_wr_ne (h _ (by decide)), State.rd_wr_ne (h _ (by decide)), State.rd_wr_ne (h _ (by decide)),
    State.rd_wr_ne (h _ (by decide))]

theorem State.ringLost_ringMgmt (b r : Nat) : (s.ringLost b).ringMgmt r = s.ringMgmt r := by
  have hside : (s.ringLost b).rd RNG_RCFG_SIDE r = s.rd RNG_RCFG_SIDE r := State.ringLost_rd (fun F hF => by
    have hword : F = RNG_RSTAT_STATE ∨ F.otherBit RNG_RCFG_SIDE = true := by
      revert F
      decide
    rcases hword with rfl | hbit
    · simp only [Field.key, Field.addr, RNG_RSTAT_STATE, RNG_RCFG_SIDE]
      omega
    · exact Field.key_ne_of_otherBit hbit b 0 r 0)
  have hspares : ∀ F ∈ RNG_RSTAT_OUTST :: ringLostFields, ∀ G ∈ [RNG_CTRL_EMB, PCX_CTRL_ROLE], F.spares G = true := by decide
  have hemb : ∀ G ∈ [RNG_CTRL_EMB, PCX_CTRL_ROLE], (s.ringLost b).rd G = s.rd G := fun G hG =>
    State.ringLost_rd (fun F hF => Field.key_ne_of_spares_fault (hspares F hF G hG) b 0 (by decide))
  simp only [State.ringMgmt, State.embedded, State.on, hside, hemb RNG_CTRL_EMB (by decide), hemb PCX_CTRL_ROLE (by decide)]

theorem State.sorted_ringLost (hsorted : Tab.sorted s.regs = true) (r : Nat) : Tab.sorted (s.ringLost r).regs = true :=
  s.ringLost_regs r ▸ State.sorted_wr (State.sorted_wr (State.sorted_wr (State.sorted_wr hsorted _ _ _ _) _ _ _ _) _ _ _ _) _ _ _ _

theorem State.ringLost_self (hsorted : Tab.sorted s.regs = true) (r : Nat) : (s.ringLost r).rd RNG_RSTAT_STATE r = ringDisabled ∧
    (s.ringLost r).rd RNG_RCFG_EN r = 0 ∧ (s.ringLost r).rd RNG_RSTAT_ERR r = RingErr.link.code := by
  have hen := State.sorted_wr hsorted RNG_RCFG_EN 0 r 0
  have hstate := State.sorted_wr hen RNG_RSTAT_STATE ringDisabled r 0
  have hout : ∀ G ∈ ringLostFields, (s.ringLost r).rd G r =
      (((s.wr RNG_RCFG_EN 0 r).wr RNG_RSTAT_STATE ringDisabled r).wr RNG_RSTAT_ERR RingErr.link.code r).rd G r := fun G hG =>
    (State.rd_of_regs (s.ringLost_regs r) G r 0).trans
      (State.rd_wr_ne (Field.key_ne_of_otherBit ((by decide : ∀ G ∈ ringLostFields, RNG_RSTAT_OUTST.otherBit G = true) G hG) r 0 r 0) _)
  refine ⟨?_, ?_, ?_⟩
  · rw [hout _ (by decide), State.rd_wr_ne (Field.key_ne_of_otherBit (by decide) r 0 r 0), State.rd_wr_self hen]
    rfl
  · rw [hout _ (by decide), State.rd_wr_ne (Field.key_ne_of_otherBit (by decide) r 0 r 0),
      State.rd_wr_ne (Field.key_ne_of_otherBit (by decide) r 0 r 0), State.rd_wr_self hsorted]
    rfl
  · rw [hout _ (by decide), State.rd_wr_self hstate]
    rfl

/-- From `s` to `t` every host-side ring has been disabled, with error LINK where it was not before. -/
def RingsOff (s t : State) : Prop := ∀ r < 128, s.ringMgmt r = false → t.rd RNG_RSTAT_STATE r = ringDisabled ∧ t.on RNG_RCFG_EN r = false ∧
  (s.rd RNG_RSTAT_STATE r ≠ ringDisabled → t.rd RNG_RSTAT_ERR r = RingErr.link.code)

/-- The state of a ring that the loss of the host changes. -/
def State.ringShown (s : State) (r : Nat) : Nat × Nat × Nat := (s.rd RNG_RSTAT_STATE r, s.rd RNG_RCFG_EN r, s.rd RNG_RSTAT_ERR r)

theorem State.ringShown_eq {r a b c : Nat} (h : s.ringShown r = (a, b, c)) :
    s.rd RNG_RSTAT_STATE r = a ∧ s.rd RNG_RCFG_EN r = b ∧ s.rd RNG_RSTAT_ERR r = c := by
  obtain ⟨hst, hrest⟩ := Prod.mk.inj h
  exact ⟨hst, Prod.mk.inj hrest⟩

theorem State.ringShown_ringLost_ne {a b : Nat} (hab : b ≠ a) : (s.ringLost b).ringShown a = s.ringShown a := by
  have hrd : ∀ G ∈ ringLostFields, (s.ringLost b).rd G a = s.rd G a := fun G hG => State.ringLost_rd (fun F hF => State.ringLost_key_ne hF hG hab)
  simp only [State.ringShown, hrd RNG_RSTAT_STATE (by decide), hrd RNG_RCFG_EN (by decide), hrd RNG_RSTAT_ERR (by decide)]

theorem State.ringsLost_ringShown {r : Nat} (hr : r < 128) (hside : s.ringMgmt r = false) (hsorted : Tab.sorted s.regs = true) :
    s.ringsLost.ringShown r = if s.rd RNG_RSTAT_STATE r = ringDisabled then s.ringShown r else (ringDisabled, 0, RingErr.link.code) := by
  refine State.each_once (P := fun u => Tab.sorted u.regs = true ∧ u.ringMgmt r = false) (val := fun u => u.ringShown r) (a := r)
    List.nodup_range (List.mem_range.mpr hr) (fun u b _ hu => ?_) (fun u b _ hb hu => ?_) (fun u hu hval => ?_) ⟨hsorted, hside⟩
  · obtain ⟨hsortedu, hsideu⟩ := hu
    split
    · exact ⟨hsortedu, hsideu⟩
    · exact ⟨State.sorted_ringLost hsortedu b, (State.ringLost_ringMgmt b r).trans hsideu⟩
  · split
    · rfl
    · exact State.ringShown_ringLost_ne hb
  · obtain ⟨hsortedu, hsideu⟩ := hu
    have hstate : u.rd RNG_RSTAT_STATE r = s.rd RNG_RSTAT_STATE r := congrArg Prod.fst hval
    obtain ⟨hst, hen, herr⟩ := State.ringLost_self hsortedu r
    rw [hsideu, Bool.false_or, hstate]
    by_cases hoff : s.rd RNG_RSTAT_STATE r = ringDisabled
    · rw [if_pos (decide_eq_true hoff), if_pos hoff]
      exact hval
    · rw [if_neg (by rw [decide_eq_false hoff]; decide), if_neg hoff, State.ringShown, hst, hen, herr]

theorem State.ringsLost_off (hsorted : Tab.sorted s.regs = true)
    (hidle : ∀ r < 128, s.ringMgmt r = false → s.rd RNG_RSTAT_STATE r = ringDisabled → s.on RNG_RCFG_EN r = false) : RingsOff s s.ringsLost := by
  intro r hr hside
  have hshown := State.ringsLost_ringShown hr hside hsorted
  by_cases hoff : s.rd RNG_RSTAT_STATE r = ringDisabled
  · rw [if_pos hoff] at hshown
    obtain ⟨hst, hen, -⟩ := State.ringShown_eq hshown
    exact ⟨hst.trans hoff, (congrArg (· == 1) hen).trans (hidle r hr hside hoff), fun h => absurd hoff h⟩
  · rw [if_neg hoff] at hshown
    obtain ⟨hst, hen, herr⟩ := State.ringShown_eq hshown
    exact ⟨hst, congrArg (· == 1) hen, fun _ => herr⟩

/-- The rest of `State.hostLost`, but for the fault it reports. -/
def State.hostOff (s : State) : State :=
  let s2 := ((s.wr RNG_EVCFG_EN 0).sat PCX_CNT_COUNT 2).wr PCX_STAT_DLEV 1
  ({ s2 with rng := { s2.rng with late := [] } } : State).ringsForget

theorem State.hostLost_eq (s : State) : s.hostLost = s.ringsLost.hostOff.fault 14 0 := by
  unfold State.hostLost State.hostOff State.ringsLost State.ringLost
  rfl

theorem State.hostOff_regs (s : State) : s.hostOff.regs = (((s.wr RNG_EVCFG_EN 0).sat PCX_CNT_COUNT 2).wr PCX_STAT_DLEV 1).regs := rfl

namespace FaultKept

variable {gs : List Field} {o : State}

theorem ringLost (h : FaultKept gs o s) (hgs : ringLostFields.all (fun F => gs.all F.spares) = true) (r : Nat) : FaultKept gs o (s.ringLost r) :=
  (((h.wrSpared (F := RNG_RCFG_EN) (List.all_eq_true.mp hgs _ (by decide)) 0 r 0).wrSpared (F := RNG_RSTAT_STATE)
    (List.all_eq_true.mp hgs _ (by decide)) ringDisabled r 0).wrSpared (F := RNG_RSTAT_ERR) (List.all_eq_true.mp hgs _ (by decide))
    RingErr.link.code r 0).setFetched r []

theorem ringsLost (h : FaultKept gs o s) (hgs : ringLostFields.all (fun F => gs.all F.spares) = true) : FaultKept gs o s.ringsLost :=
  each (fun _ r _ hu => ite (fun _ => hu) (fun _ => hu.ringLost hgs r)) h

theorem hostOff (h : FaultKept gs o s) (hgs : [RNG_EVCFG_EN, PCX_CNT_COUNT, PCX_STAT_DLEV].all (fun F => gs.all F.spares) = true) :
    FaultKept gs o s.hostOff :=
  (((h.wrSpared (F := RNG_EVCFG_EN) (List.all_eq_true.mp hgs _ (by decide)) 0 0 0).wrSpared (F := PCX_CNT_COUNT)
    (List.all_eq_true.mp hgs _ (by decide)) _ 2 0).wrSpared (F := PCX_STAT_DLEV) (List.all_eq_true.mp hgs _ (by decide)) 1 0 0).same
    s.hostOff_regs rfl rfl

end FaultKept

theorem State.hostLost_link (s : State) : FaultKept [PCX_STAT_LINKUP] s s.hostLost := by
  rw [State.hostLost_eq]
  exact (((FaultKept.refl (by decide) s).ringsLost (by decide)).hostOff (by decide)).occur 14 0 false

/-- What the loss of the host since `s` shows in `t`. -/
structure HostGone (s t : State) : Prop where
  sorted : Tab.sorted t.regs = true
  rings : RingsOff s t
  events : t.on RNG_EVCFG_EN = false
  shown : t.on PCX_STAT_DLEV = true

theorem RingsOff.kept {gs : List Field} {t u : State} (h : RingsOff s t) (hkept : FaultKept gs t u) (hgs : ringLostFields ⊆ gs) : RingsOff s u := by
  intro r hr hside
  obtain ⟨hstate, hen, herr⟩ := h r hr hside
  have hrd : ∀ G ∈ ringLostFields, u.rd G r = t.rd G r := fun G hG => hkept.fields G (hgs hG) r hr
  refine ⟨(hrd _ (by decide)).trans hstate, ?_, fun hwas => (hrd _ (by decide)).trans (herr hwas)⟩
  rw [State.on, hrd _ (by decide)]
  exact hen

theorem HostGone.kept {gs : List Field} {t u : State} (h : HostGone s t) (hkept : FaultKept gs t u) (hgs : hostLostFields ⊆ gs) : HostGone s u := by
  have hon : ∀ G ∈ hostLostFields, u.on G = t.on G := fun G hG => by rw [State.on, hkept.fields G (hgs hG) 0 (by decide), State.on]
  exact ⟨hkept.sorted h.sorted, h.rings.kept hkept (List.Subset.trans (by decide) hgs), (hon _ (by decide)).trans h.events,
    (hon _ (by decide)).trans h.shown⟩

theorem State.hostOff_gone (hsorted : Tab.sorted s.regs = true)
    (hidle : ∀ r < 128, s.ringMgmt r = false → s.rd RNG_RSTAT_STATE r = ringDisabled → s.on RNG_RCFG_EN r = false) :
    HostGone s s.ringsLost.hostOff := by
  have hlost : FaultKept [] s s.ringsLost := (FaultKept.refl rfl s).ringsLost rfl
  have hsortedr := hlost.sorted hsorted
  have hoff : FaultKept ringLostFields s.ringsLost s.ringsLost.hostOff := (FaultKept.refl (by decide) _).hostOff (by decide)
  have hev : s.ringsLost.hostOff.rd RNG_EVCFG_EN = 0 := by
    rw [State.rd_of_regs s.ringsLost.hostOff_regs, State.rd_wr_ne (by decide), State.sat, State.satBy, State.rd_wr_ne (by decide),
      State.rd_wr_self hsortedr]
    rfl
  have hdlev : s.ringsLost.hostOff.on PCX_STAT_DLEV = true :=
    (State.on_of_regs s.ringsLost.hostOff_regs PCX_STAT_DLEV 0 0).trans (State.on_wr_one ⟨by decide, rfl, rfl⟩ _ _ _)
  exact ⟨hoff.sorted hsortedr, (State.ringsLost_off hsorted hidle).kept hoff (List.Subset.refl _), congrArg (· == 1) hev, hdlev⟩

theorem State.hostLost_gone (hsorted : Tab.sorted s.regs = true)
    (hidle : ∀ r < 128, s.ringMgmt r = false → s.rd RNG_RSTAT_STATE r = ringDisabled → s.on RNG_RCFG_EN r = false) : HostGone s s.hostLost := by
  rw [State.hostLost_eq]
  exact (State.hostOff_gone hsorted hidle).kept ((FaultKept.refl (gs := hostLostFields) (by decide) _).occur 14 0 false) (List.Subset.refl _)

/-! The end of the link, and the reset of the function (R351). -/

theorem HostGone.of_regs {t u : State} (h : HostGone s t) (hregs : u.regs = t.regs) : HostGone s u := by
  obtain ⟨hsorted, hrings, hev, hdlev⟩ := h
  refine ⟨hregs ▸ hsorted, fun r hr hside => ?_, (State.on_of_regs hregs _ 0 0).trans hev, (State.on_of_regs hregs _ 0 0).trans hdlev⟩
  rw [State.rd_of_regs hregs, State.on_of_regs hregs, State.rd_of_regs hregs]
  exact hrings r hr hside

theorem State.linkGone_regs (s : State) : s.linkGone.regs = (((s.wr PCX_STAT_LINKUP 0).wr PCX_STAT_SPEED 0).wr PCX_STAT_WIDTH 0).regs := rfl

theorem State.linkGone_busMaster (s : State) : s.linkGone.pcx.busMaster = s.pcx.busMaster := rfl

theorem HostGone.linkGone {u : State} (h : HostGone s u) : HostGone s u.linkGone :=
  (h.kept (((FaultKept.refl (gs := hostLostFields) (by decide) u).wrSpared (F := PCX_STAT_LINKUP) (by decide) 0 0 0).wrSpared (F := PCX_STAT_SPEED)
    (by decide) 0 0 0 |>.wrSpared (F := PCX_STAT_WIDTH) (by decide) 0 0 0) (List.Subset.refl _)).of_regs u.linkGone_regs

theorem State.linkGone_shows (hsorted : Tab.sorted s.regs = true) :
    s.linkGone.rd PCX_STAT_LINKUP = 0 ∧ s.linkGone.rd PCX_STAT_SPEED = 0 ∧ s.linkGone.rd PCX_STAT_WIDTH = 0 := by
  have hup := State.sorted_wr hsorted PCX_STAT_LINKUP 0 0 0
  have hspeed := State.sorted_wr hup PCX_STAT_SPEED 0 0 0
  refine ⟨?_, ?_, ?_⟩
  · rw [State.rd_of_regs s.linkGone_regs, State.rd_wr_ne (by decide), State.rd_wr_ne (by decide), State.rd_wr_self hsorted]
    rfl
  · rw [State.rd_of_regs s.linkGone_regs, State.rd_wr_ne (by decide), State.rd_wr_self hup]
    rfl
  · rw [State.rd_of_regs s.linkGone_regs, State.rd_wr_self hspeed]
    rfl

/-- Vector `v` of the MSI-X table returns to its values at reset. -/
def State.msixClear (s : State) (v : Nat) : State :=
  (((s.wr PCX_MSIX_ADDRLO_ADDR 0 v).wr PCX_MSIX_ADDRHI_ADDR 0 v).wr PCX_MSIX_DATA_DATA 0 v).wr PCX_MSIX_CTRL_MASK 1 v

/-- `State.functionReset`, but for Bus Master Enable. -/
def State.functionClear (s : State) : State :=
  ((s.each (List.range 128) State.msixClear).each (List.range 4) (fun s j => s.wr PCX_MSIX_PBA_PENDING 0 j)).wr PCX_STAT_D3 0

theorem State.functionReset_eq (s : State) :
    s.functionReset = { s.functionClear with pcx := { s.functionClear.pcx with busMaster := false } } := rfl

/-- What a message of vector `v` carries, and its mask. -/
def State.msixShown (s : State) (v : Nat) : Nat × Nat := (s.rd PCX_MSIX_CTRL_MASK v, s.rd PCX_MSIX_DATA_DATA v)

theorem State.msixClear_self (hsorted : Tab.sorted s.regs = true) (v : Nat) : (s.msixClear v).msixShown v = (1, 0) := by
  have hlo := State.sorted_wr hsorted PCX_MSIX_ADDRLO_ADDR 0 v 0
  have hhi := State.sorted_wr hlo PCX_MSIX_ADDRHI_ADDR 0 v 0
  have hdata := State.sorted_wr hhi PCX_MSIX_DATA_DATA 0 v 0
  have hkey : PCX_MSIX_CTRL_MASK.key v 0 ≠ PCX_MSIX_DATA_DATA.key v 0 := by
    simp only [Field.key, Field.addr, PCX_MSIX_CTRL_MASK, PCX_MSIX_DATA_DATA]
    omega
  rw [State.msixShown, State.msixClear, State.rd_wr_self hdata, State.rd_wr_ne hkey, State.rd_wr_self hhi]
  rfl

theorem State.msixClear_key_ne {a b : Nat} (hab : b ≠ a) :
    ∀ F ∈ [PCX_MSIX_ADDRLO_ADDR, PCX_MSIX_ADDRHI_ADDR, PCX_MSIX_DATA_DATA, PCX_MSIX_CTRL_MASK], ∀ G ∈ [PCX_MSIX_CTRL_MASK, PCX_MSIX_DATA_DATA],
      F.key b 0 ≠ G.key a 0 := by
  simp only [List.forall_mem_cons, List.not_mem_nil, false_implies, implies_true, and_true, Field.key, Field.addr, PCX_MSIX_ADDRLO_ADDR,
    PCX_MSIX_ADDRHI_ADDR, PCX_MSIX_DATA_DATA, PCX_MSIX_CTRL_MASK]
  omega

theorem State.msixClear_ne {a b : Nat} (hab : b ≠ a) : (s.msixClear b).msixShown a = s.msixShown a := by
  have hrd : ∀ G ∈ [PCX_MSIX_CTRL_MASK, PCX_MSIX_DATA_DATA], (s.msixClear b).rd G a = s.rd G a := fun G hG => by
    have hkey := fun F hF => State.msixClear_key_ne hab F hF G hG
    rw [State.msixClear, State.rd_wr_ne (hkey _ (by decide)), State.rd_wr_ne (hkey _ (by decide)), State.rd_wr_ne (hkey _ (by decide)),
      State.rd_wr_ne (hkey _ (by decide))]
  rw [State.msixShown, hrd _ (by decide), hrd _ (by decide), State.msixShown]

theorem State.sorted_msixClear (hsorted : Tab.sorted s.regs = true) (v : Nat) : Tab.sorted (s.msixClear v).regs = true :=
  State.sorted_wr (State.sorted_wr (State.sorted_wr (State.sorted_wr hsorted _ _ _ _) _ _ _ _) _ _ _ _) _ _ _ _

theorem State.functionClear_msixShown (hsorted : Tab.sorted s.regs = true) {v : Nat} (hv : v < 128) : s.functionClear.msixShown v = (1, 0) := by
  have htable : (s.each (List.range 128) State.msixClear).msixShown v = (1, 0) :=
    State.each_once (P := fun u => Tab.sorted u.regs = true) (val := fun u => u.msixShown v) (a := v) List.nodup_range (List.mem_range.mpr hv)
      (fun _ b _ hu => State.sorted_msixClear hu b) (fun _ _ _ hb _ => State.msixClear_ne hb) (fun _ hu _ => State.msixClear_self hu v) hsorted
  have hkept : FaultKept [PCX_MSIX_CTRL_MASK, PCX_MSIX_DATA_DATA] (s.each (List.range 128) State.msixClear) s.functionClear :=
    (FaultKept.each (fun _ j _ hu => hu.wrSpared (F := PCX_MSIX_PBA_PENDING) (by decide) 0 j 0) (FaultKept.refl (by decide) _)).wrSpared
      (F := PCX_STAT_D3) (by decide) 0 0 0
  rw [State.msixShown, hkept.fields _ (by decide) v hv, hkept.fields _ (by decide) v hv]
  exact htable

theorem FaultKept.msixClear {gs : List Field} {o : State} (h : FaultKept gs o s)
    (hgs : [PCX_MSIX_ADDRLO_ADDR, PCX_MSIX_ADDRHI_ADDR, PCX_MSIX_DATA_DATA, PCX_MSIX_CTRL_MASK].all (fun F => gs.all F.spares) = true) (v : Nat) :
    FaultKept gs o (s.msixClear v) :=
  (((h.wrSpared (F := PCX_MSIX_ADDRLO_ADDR) (List.all_eq_true.mp hgs _ (by decide)) 0 v 0).wrSpared (F := PCX_MSIX_ADDRHI_ADDR)
    (List.all_eq_true.mp hgs _ (by decide)) 0 v 0).wrSpared (F := PCX_MSIX_DATA_DATA) (List.all_eq_true.mp hgs _ (by decide)) 0 v 0).wrSpared
    (F := PCX_MSIX_CTRL_MASK) (List.all_eq_true.mp hgs _ (by decide)) 1 v 0

theorem State.functionClear_kept (s : State) : FaultKept linkGoneFields s s.functionClear :=
  (FaultKept.each (fun _ j _ hu => hu.wrSpared (F := PCX_MSIX_PBA_PENDING) (by decide) 0 j 0)
    (FaultKept.each (fun _ v _ hu => hu.msixClear (by decide) v) (FaultKept.refl (by decide) s))).wrSpared (F := PCX_STAT_D3) (by decide) 0 0 0

theorem State.functionClear_d3 (hsorted : Tab.sorted s.regs = true) : s.functionClear.rd PCX_STAT_D3 = 0 := by
  have hkept : FaultKept [] s ((s.each (List.range 128) State.msixClear).each (List.range 4) (fun s j => s.wr PCX_MSIX_PBA_PENDING 0 j)) :=
    FaultKept.each (fun _ j _ hu => hu.wrSpared (F := PCX_MSIX_PBA_PENDING) rfl 0 j 0)
      (FaultKept.each (fun _ v _ hu => hu.msixClear rfl v) (FaultKept.refl rfl s))
  rw [State.functionClear, State.rd_wr_self (hkept.sorted hsorted)]
  rfl

/-- What a reset of the function shows in `t`. -/
structure FunctionCleared (t : State) : Prop where
  awake : t.on PCX_STAT_D3 = false
  master : t.pcx.busMaster = false
  table : ∀ v < 128, t.on PCX_MSIX_CTRL_MASK v = true ∧ t.rd PCX_MSIX_DATA_DATA v = 0

theorem State.functionReset_regs (s : State) : s.functionReset.regs = s.functionClear.regs := by rw [State.functionReset_eq]

theorem State.functionReset_cleared (hsorted : Tab.sorted s.regs = true) : FunctionCleared s.functionReset := by
  refine ⟨?_, by rw [State.functionReset_eq], fun v hv => ?_⟩
  · rw [State.on_of_regs s.functionReset_regs, State.on, State.functionClear_d3 hsorted]
    rfl
  · obtain ⟨hmask, hdata⟩ := Prod.mk.inj (State.functionClear_msixShown hsorted hv)
    rw [State.on_of_regs s.functionReset_regs, State.rd_of_regs s.functionReset_regs, State.on, hmask, hdata]
    exact ⟨rfl, rfl⟩

theorem HostGone.functionReset {u : State} (h : HostGone s u) : HostGone s u.functionReset :=
  (h.kept u.functionClear_kept (by decide)).of_regs u.functionReset_regs

theorem State.functionReset_link {G : Field} (hG : G ∈ linkGoneFields) : s.functionReset.rd G = s.rd G :=
  (State.rd_of_regs s.functionReset_regs G 0 0).trans (s.functionClear_kept.fields G hG 0 (by decide))

/-! A reset leaves a last event bit. -/

theorem HostGone.wrEvent {u : State} (h : HostGone s u) {F : Field} (hF : hostLostFields.all F.spares = true) (v : Nat) : HostGone s (u.wr F v) :=
  h.kept ((FaultKept.refl (gs := hostLostFields) (by decide) u).wrSpared hF v 0 0) (List.Subset.refl _)

theorem FunctionCleared.wrEvent {t : State} (h : FunctionCleared t) {F : Field}
    (hF : [PCX_STAT_D3, PCX_MSIX_CTRL_MASK, PCX_MSIX_DATA_DATA].all F.otherBit = true) (v : Nat) : FunctionCleared (t.wr F v) := by
  obtain ⟨hawake, hmaster, htable⟩ := h
  have hkey : ∀ G ∈ [PCX_STAT_D3, PCX_MSIX_CTRL_MASK, PCX_MSIX_DATA_DATA], ∀ k, F.key 0 0 ≠ G.key k 0 := fun G hG k =>
    Field.key_ne_of_otherBit (List.all_eq_true.mp hF G hG) 0 0 k 0
  refine ⟨(State.on_wr_ne (hkey _ (by decide) 0) v).trans hawake, hmaster, fun k hk => ?_⟩
  rw [State.on_wr_ne (hkey _ (by decide) k), State.rd_wr_ne (hkey _ (by decide) k)]
  exact htable k hk

/-! Link up, bus mastering, and the rings (R347, R351, R355 to R358, R363, R364, R367). -/

theorem State.linkUp_of_free {speed width : Nat} (hen : s.on PCX_CTRL_EN = true) (hdown : s.on PCX_STAT_LINKUP = false)
    (hperst : (!s.on PCX_CTRL_ROLE && s.pcx.perst) = false) (hspeed : speed ≠ 0) (hwidth : width ≠ 0) : s.linkUp speed width =
      { (((s.wr PCX_STAT_LINKUP 1).wr PCX_STAT_SPEED (min speed (s.rd PCX_CTRL_MAXSPD))).wr PCX_STAT_WIDTH (min width (s.rd PCX_CTRL_MAXW))) with
        pcx := { s.pcx with devBar := if s.on PCX_CTRL_ROLE then some 0x10000000 else none } } := by
  simp only [State.linkUp, hen, hdown, hperst, decide_eq_false hspeed, decide_eq_false hwidth, Bool.not_true, Bool.or_self, Bool.false_eq_true, if_false]
  rfl

section
variable {r : Nat}

theorem State.ringStart_of_tx (htype : s.rd RNG_RCFG_TYPE r = ringTx) : s.ringStart r =
    { (((((((s.wr RNG_RCFG_EN 1 r).wr RNG_RSTAT_STATE ringRunning r).wr RNG_RSTAT_ERR 0 r).wr RNG_RIDX_PI 0 r).wr RNG_RIDX_CI 0 r).setFetched r []) : State) with
      rng := { ((((((s.wr RNG_RCFG_EN 1 r).wr RNG_RSTAT_STATE ringRunning r).wr RNG_RSTAT_ERR 0 r).wr RNG_RIDX_PI 0 r).wr RNG_RIDX_CI 0 r).setFetched r []).rng with
        bell := Tab.put s.rng.bell r 0 0 } } := by
  have hsvc : ¬ ringTx = ringSvc := by decide
  have hdma : ¬ ringTx = ringDma := by decide
  have hnone : ¬ ringTx = 0 := by decide
  simp only [State.ringStart, htype, decide_eq_false hsvc, decide_eq_false hdma, decide_eq_false hnone, Bool.false_and, Bool.or_self, Bool.false_eq_true,
    if_false]
  rfl

theorem State.rcfgWrite_of_enable {w : Nat} {s1 : State} (hstate : s.rd RNG_RSTAT_STATE r = ringDisabled) (hen : s.on RNG_RCFG_EN r = false)
    (hlock : s.on RNG_CTRL_LOCK = false) (hw : w.testBit 31 = true) (hsize : RNG_RCFG_SIZE.codeOk (bitsOf w 19 16) = true)
    (hs1 : s1 = (s.writeField false RNG_RCFG_VEC r 0 w).writeFields false [RNG_RCFG_SIDE, RNG_RCFG_TYPE, RNG_RCFG_SIZE, RNG_RCFG_BIND] r 0 w) :
    s.rcfgWrite r w = s1.ringStart r := by
  simp only [State.rcfgWrite, hstate, hen, hlock, hw, hsize, ← hs1, Bool.not_true, State.when, Bool.false_eq_true, if_false, if_true]

theorem State.ringDrained_of_done (hstate : s.rd RNG_RSTAT_STATE r = ringDraining) (hdone : (s.fetched r).all (fun d => d.written || d.failed) = true) :
    s.ringDrained r = (s.wr RNG_RSTAT_STATE ringDisabled r).setFetched r [] := if_pos (by rw [hdone, decide_eq_true hstate]; rfl)

theorem State.doorbell_of_taken {v : Nat} (hr : r < 128) (hstate : s.rd RNG_RSTAT_STATE r = ringRunning) (hv : v < 2 ^ 16)
    (hroom : (v + 2 ^ 16 - s.rd RNG_RIDX_CI r) % 2 ^ 16 ≤ s.descCount r) :
    s.doorbell (64 * r) v true false = { s.wr RNG_RIDX_PI v r with rng := { s.rng with bell := Tab.put s.rng.bell r v 0 } } := by
  have hoff : 64 * r / 64 = r := Nat.mul_div_cancel_left r (by decide)
  have hevent : ¬ 64 * r = 8 := by omega
  simp only [State.doorbell, hoff, if_neg hevent, Nat.mul_mod_right, ne_eq, not_true_eq_false, decide_false, decide_eq_false (Nat.not_le.mpr hr),
    decide_eq_false (Nat.not_le.mpr hv), hstate, decide_eq_false (Nat.not_lt.mpr hroom), Bool.not_true, Bool.or_self, Bool.false_eq_true, if_false]

theorem State.doorbell_of_refused {v : Nat} {whole dis : Bool} (hr : r < 128) (hbad : v ≥ 2 ^ 16 ∨ s.rd RNG_RSTAT_STATE r ≠ ringRunning ∨
      (v + 2 ^ 16 - s.rd RNG_RIDX_CI r) % 2 ^ 16 > s.descCount r) (hdis : dis = false ∨ s.on RNG_RCFG_EN r = false) :
    s.doorbell (64 * r) v whole dis = s.doorbellReject := by
  have hoff : 64 * r / 64 = r := Nat.mul_div_cancel_left r (by decide)
  have hevent : ¬ 64 * r = 8 := by omega
  have hrefused : (decide (v ≥ 2 ^ 16) || decide (s.rd RNG_RSTAT_STATE r ≠ ringRunning) ||
      decide ((v + 2 ^ 16 - s.rd RNG_RIDX_CI r) % 2 ^ 16 > s.descCount r)) = true := by
    simpa only [Bool.or_eq_true, decide_eq_true_eq, or_assoc] using hbad
  cases whole with
  | false => rfl
  | true =>
    simp only [State.doorbell, hoff, if_neg hevent, Nat.mul_mod_right, ne_eq, not_true_eq_false, decide_false, decide_eq_false (Nat.not_le.mpr hr),
      Bool.not_true, Bool.or_self, Bool.false_eq_true, if_false]
    rcases hdis with rfl | hen
    · exact (if_neg Bool.false_ne_true).trans (if_pos hrefused)
    · cases dis with
      | false => exact (if_neg Bool.false_ne_true).trans (if_pos hrefused)
      | true =>
        rw [if_pos rfl, hen]
        rfl

theorem State.eventBell_of_taken {v : Nat} (hv : v < 2 ^ 16) (hroom : (s.rd RNG_EVIDX_WR + 2 ^ 16 - v) % 2 ^ 16 ≤ 2 ^ s.rd RNG_EVCFG_EVSIZE) :
    s.eventBell v = { s.wr RNG_EVIDX_RD v with rng := { s.rng with evBell := v } } :=
  (if_neg (Nat.not_le.mpr hv)).trans (if_neg (Nat.not_lt.mpr hroom))

theorem State.evcfgWrite_of_enable {w : Nat} {s1 : State} (hs1 : s1 = s.writeReg 0x70008 w) (hsize : RNG_EVCFG_EVSIZE.codeOk (bitsOf w 3 0) = true)
    (hoff : s.on RNG_EVCFG_EN = false) (hon : s1.on RNG_EVCFG_EN = true) : s.evcfgWrite w = (s1.wr RNG_EVIDX_WR 0).wr RNG_EVIDX_RD 0 := by
  simp only [State.evcfgWrite, ← hs1, hsize, hoff, hon, Bool.not_true, State.when, Bool.false_eq_true, if_false, Bool.not_false, Bool.and_self, if_true]

/-- The ring whose turn it is reads its next descriptor. -/
theorem State.descFetch_of_turn {s0 : State} {b : List Byte} {i : Nat} (hwork : s0.fetchable r = true) (hturn : s0.ringTurn (s0.ringMgmt r) = some r)
    (hs : s = { s0 with rng := { s0.rng with turn := Tab.put s0.rng.turn (bit (s0.ringMgmt r)) r 127 } })
    (hi : i = (s.rd RNG_RIDX_CI r + (s.fetched r).length) % 2 ^ 16) (hb : b = s.readSide (s.ringMgmt r) (s.descAddr r i) 32) :
    s0.descFetch r false = if (b.getD 31 0).toNat.testBit 7 then s.setFetched r (s.fetched r ++ [{ idx := i, bytes := b }])
      else (s.sat RNG_CNT_COUNT 4).stopRing r .notOwn := by
  simp only [State.descFetch, hwork, hturn, ← hs, ← hi, ← hb, ne_eq, not_true_eq_false, decide_false, Bool.not_true, Bool.or_self, Bool.false_eq_true,
    if_false]
  cases (b.getD 31 0).toNat.testBit 7 <;> rfl

theorem State.holdoffEnd_of_due {v : Nat} {s1 : State} (hholds : Tab.get s.rng.holding v false = true) (hdue : s.due (.holdoff v) = true)
    (hs1 : s1 = { s with rng := { s.rng with holding := Tab.put s.rng.holding v false false, due := Tab.put s.rng.due v false false } }) :
    s.holdoffEnd v = if Tab.get s.rng.due v false then s1.sendMsix v else s1 := by
  simp only [State.holdoffEnd, hholds, hdue, ← hs1, Bool.not_true, Bool.or_self, Bool.false_eq_true, if_false]

end

/-- A field that reads 0 is off. -/
theorem State.on_of_rd_zero {F : Field} (h : s.rd F = 0) : s.on F = false := congrArg (· == 1) h

/-- Settles O37, clause by clause; what the loss of the host shows is left by the fault it reports and by the resets (`FaultKept`). -/
theorem pcieLinkAndRings : Obligations.PcieLinkAndRings := by
  refine ⟨fun s hsorted hidle => ?_, fun s => rfl,
    fun speed width s hen hdown hperst hspeed hwidth => congrArg Host.Outcome.next
      (State.linkUp_of_free hen hdown hperst (fun h => hspeed (Fin.ext h)) (fun h => hwidth (Fin.ext h))),
    fun s hup hsorted hidle => ?_, fun s hsorted hidle => ?_, fun s hsorted hidle => ?_, fun bme d3 s s1 hs1 => by rw [hs1]; rfl,
    fun r w s s1 hstate hen hlock hw hsize hs1 htype => congrArg Host.Outcome.next
      ((State.rcfgWrite_of_enable hstate hen hlock hw hsize hs1).trans (State.ringStart_of_tx htype)),
    fun r s hen => if_pos hen, fun r s hstate hdone => congrArg Host.Outcome.next (State.ringDrained_of_done hstate hdone),
    fun off v r s hoff hstate hv hroom => ?_, fun off v whole dis r s hoff hbad hdis => ?_,
    fun v s hv hroom => congrArg Host.Outcome.next (State.eventBell_of_taken hv hroom),
    fun w s s1 hs1 hsize hoff hon => congrArg Host.Outcome.next (State.evcfgWrite_of_enable hs1 hsize hoff hon),
    fun r s0 s b i hwork hturn hs hi hb hown => congrArg Host.Outcome.next ((State.descFetch_of_turn hwork hturn hs hi hb).trans (if_pos hown)),
    fun r s0 s b i hwork hturn hs hi hb hown => congrArg Host.Outcome.next
      ((State.descFetch_of_turn hwork hturn hs hi hb).trans (if_neg (by rw [hown]; exact Bool.false_ne_true))),
    fun v s s1 hholds hdue hs1 => congrArg Host.Outcome.next (State.holdoffEnd_of_due hholds hdue hs1)⟩
  · have hlost := State.hostLost_gone hsorted hidle
    obtain ⟨hup, hspeed, hwidth⟩ := State.linkGone_shows hlost.sorted
    obtain ⟨-, hrings, hev, hdlev⟩ := hlost.linkGone.functionReset
    obtain ⟨hawake, hmaster, htable⟩ := State.functionReset_cleared hlost.linkGone.sorted
    rw [← State.functionReset_link (G := PCX_STAT_LINKUP) (by decide)] at hup
    rw [← State.functionReset_link (G := PCX_STAT_SPEED) (by decide)] at hspeed
    rw [← State.functionReset_link (G := PCX_STAT_WIDTH) (by decide)] at hwidth
    refine ⟨_, rfl, ?_⟩
    generalize s.hostLost.linkGone.functionReset = u at hup hspeed hwidth hrings hev hdlev hawake hmaster htable ⊢
    exact ⟨State.on_of_rd_zero hup, hspeed, hwidth, hawake, rfl, hmaster, hev, hdlev, hrings, htable⟩
  · have hlost := State.hostLost_gone hsorted hidle
    obtain ⟨hdown, hspeed, hwidth⟩ := State.linkGone_shows hlost.sorted
    obtain ⟨-, hrings, hev, hdlev⟩ := hlost.linkGone
    exact ⟨_, if_pos hup, State.on_of_rd_zero hdown, hspeed, hwidth,
      (State.linkGone_busMaster _).trans (congrArg (·.busMaster) s.hostLost_link.pcx), hev, hdlev, hrings⟩
  · have hlost := State.hostLost_gone hsorted hidle
    obtain ⟨hdown, -, -⟩ := State.linkGone_shows hlost.sorted
    obtain ⟨-, hrings, hev, -⟩ := hlost.linkGone.functionReset.wrEvent (F := PCX_STAT_HOTRST) (by decide) 1
    obtain ⟨hawake, hmaster, htable⟩ := (State.functionReset_cleared hlost.linkGone.sorted).wrEvent (F := PCX_STAT_HOTRST) (by decide) 1
    have hlink := State.functionReset_link (s := s.hostLost.linkGone) (G := PCX_STAT_LINKUP) (by decide)
    exact ⟨_, rfl, State.on_wr_one ⟨by decide, rfl, rfl⟩ _ _ _, State.on_of_rd_zero ((State.rd_wr_ne (by decide) 1).trans (hlink.trans hdown)), hawake,
      hmaster, hev, hrings, htable⟩
  · have hlost := State.hostLost_gone hsorted hidle
    obtain ⟨-, hrings, hev, -⟩ := hlost.functionReset.wrEvent (F := PCX_STAT_FLREV) (by decide) 1
    obtain ⟨hawake, hmaster, htable⟩ := (State.functionReset_cleared hlost.sorted).wrEvent (F := PCX_STAT_FLREV) (by decide) 1
    have hlink := (State.functionReset_link (s := s.hostLost) (G := PCX_STAT_LINKUP) (by decide)).trans
      (s.hostLost_link.fields _ (by decide) 0 (by decide))
    exact ⟨_, rfl, State.on_wr_one ⟨by decide, rfl, rfl⟩ _ _ _, congrArg (· == 1) ((State.rd_wr_ne (by decide) 1).trans hlink), hawake, hmaster, hev,
      hrings, htable⟩
  · have hr : r < 128 := by omega
    exact congrArg Host.Outcome.next (hoff ▸ State.doorbell_of_taken hr hstate hv hroom)
  · have hr : r < 128 := by omega
    exact congrArg Host.Outcome.next (hoff ▸ State.doorbell_of_refused hr hbad hdis)

end Sys2Proof.Machine
end
